-- ==== Sys2Proof/Word.lean ====
section
/-!
DEFINITION. The words of the device and the small types everything else is written over: 32-bit words, bytes, the four
actuators (R15), the two Ethernet ports, the access codes of register fields (R8) and what a register field is (R6).
A field of a register is held as a natural number below two to its width; where the spec does signed or wrapping
arithmetic, the operations below convert.
-/
namespace Sys2Proof

/-- A 32-bit word, the unit of register access (R6). -/
abbrev Word := BitVec 32

/-- A byte of the DRAM or of the strongroom. -/
abbrev Byte := BitVec 8

/-- The actuators, and with them the lanes, arm drivers and loops (R15). -/
inductive Act where
  | a | b | c | d
  deriving DecidableEq, Repr

/-- The number of an actuator: 0, 1, 2, 3 for A, B, C, D (R16). -/
def Act.n : Act → Nat
  | .a => 0
  | .b => 1
  | .c => 2
  | .d => 3

/-- The actuator of a number, modulo 4. -/
def Act.num (k : Nat) : Act :=
  match k % 4 with
  | 0 => .a
  | 1 => .b
  | 2 => .c
  | _ => .d

/-- The two Ethernet ports (R13: ETHA, ETHB). -/
inductive Prt where
  | a | b
  deriving DecidableEq, Repr

/-- 0 for port A, 1 for port B. -/
def Prt.n : Prt → Nat
  | .a => 0
  | .b => 1

/-- A thing held once for each actuator. -/
structure Four (α : Type) where
  a : α
  b : α
  c : α
  d : α
  deriving DecidableEq, Repr

/-- The one of an actuator. -/
def Four.at {α : Type} (f : Four α) : Act → α
  | .a => f.a
  | .b => f.b
  | .c => f.c
  | .d => f.d

/-- Replace the one of an actuator. -/
def Four.put {α : Type} (f : Four α) (x : Act) (v : α) : Four α :=
  match x with
  | .a => { f with a := v }
  | .b => { f with b := v }
  | .c => { f with c := v }
  | .d => { f with d := v }

/-- The same for every actuator. -/
def Four.all {α : Type} (v : α) : Four α := ⟨v, v, v, v⟩

/-- Both ports' things. -/
structure Two (α : Type) where
  a : α
  b : α
  deriving DecidableEq, Repr

/-- The one of a port. -/
def Two.at {α : Type} (f : Two α) : Prt → α
  | .a => f.a
  | .b => f.b

/-- Replace the one of a port. -/
def Two.put {α : Type} (f : Two α) (x : Prt) (v : α) : Two α :=
  match x with
  | .a => { f with a := v }
  | .b => { f with b := v }

/-- Access codes of register fields (R8). -/
inductive Acc where
  | rw | ro | wo | w1c | rs | st
  deriving DecidableEq, Repr

/-- A field of a register: the address of its register (R6, R13), its bits, its access code and its reset value (R10). -/
structure Fld where
  addr : Nat
  hi : Nat
  lo : Nat
  acc : Acc
  rst : Nat
  deriving DecidableEq, Repr

/-- The number of bits of a field. -/
def Fld.width (f : Fld) : Nat := f.hi - f.lo + 1

/-- The key a field is stored under. -/
def Fld.key (f : Fld) : Nat := f.addr * 32 + f.lo

/-- Bits `hi` down to `lo` of a number. -/
def bitsOf (n hi lo : Nat) : Nat := n / 2 ^ lo % 2 ^ (hi - lo + 1)

/-- Bit `k` of a number. -/
def bitOf (n k : Nat) : Bool := n / 2 ^ k % 2 == 1

/-- A Boolean as a bit. -/
def b2n (b : Bool) : Nat := if b then 1 else 0

/-- The two's complement reading of the low `w` bits of `n`. -/
def signed (w n : Nat) : Int :=
  let m := n % 2 ^ w
  if m < 2 ^ (w - 1) then (m : Int) else (m : Int) - (2 ^ w : Nat)

/-- The `w`-bit two's complement pattern of an integer, which wraps. -/
def unsigned (w : Nat) (i : Int) : Nat := (i % ((2 ^ w : Nat) : Int)).toNat

/-- The integer nearest to `i` within `lo` to `hi`. -/
def clampInt (lo hi i : Int) : Int := if i < lo then lo else if hi < i then hi else i

/-- Add one, stopping at `top`. -/
def satInc (top n : Nat) : Nat := if n < top then n + 1 else top

/-- Set or clear bit `k` of `n`. -/
def setBit (n k : Nat) (v : Bool) : Nat :=
  if bitOf n k then (if v then n else n - 2 ^ k) else (if v then n + 2 ^ k else n)

end Sys2Proof
end

