-- ==== Sys2Proof/Syntax.lean ====
section
/-!
DEFINITION. The commands of the device: the rows of the table of operations and events. A command is something that comes
to the device from outside or that the device's own timers, engines and firmware do at an instant; its operands carry what
the spec lets the world decide (a level measured, an outcome of the analogue side, an order among concurrent things).
-/
namespace Sys2Proof

/-- Who makes a register access (R20, R475): a core by its number 0 to 4 over class C, the courier engine over class T,
or one of the class-B initiators. -/
inductive Initiator where
  | core (n : Nat)
  | courier
  | carrier
  | nand
  | protocol
  deriving DecidableEq, Repr

/-- How a word with check bits reads (R24, R174, R180): good, corrected, or not correctable. -/
inductive Ecc where
  | good | corrected | bad
  deriving DecidableEq, Repr


/-- A detection on a stream (R69): how many of 64 consecutive cycles were in inverted phase, and the rotor angle in 1/4096 ring cycle at
which they stood; before the first lock the angle counts from where the stream's loop began. -/
structure IndexFind where
  inverted : Nat
  angle : Nat
  deriving DecidableEq, Repr

/-- Why a postmark stream is dropped (R70), with what was measured: its amplitude in 0.1 mV and the ring cycles it has stood
below the limit; the detection of its index on one revolution, none where there was none; its departure in 1/4096 cycle from the combined
phase, or from the other of two, for so many ring cycles, with the distances of this one and of the other from the disc clock's own
projection; or only that a register no longer allows it. -/
inductive DropCause where
  | amplitude (amp cycles : Nat)
  | index (found : Option IndexFind)
  | phase (ofs cycles own other : Nat)
  | disabled
  deriving DecidableEq, Repr

/-- The samples of the two readers over a stretch of the track (R94): where it begins, in T of the zone clock from the disc-tick boundary of
the wedge before it, and one sample of each reader's ADC per T. A sector split at a wedge has two stretches. -/
structure Stretch where
  start : Int
  lead : List Int
  trail : List Int
  deriving DecidableEq, Repr

/-- The header of an area of the passport (R36): the 4 bytes of MAGIC, FORMAT, GENERATION, DIR_ENTRIES, the 48 bytes of DIR_DIGEST,
KEY_INDEX, and the 96 bytes of SIGNATURE. -/
structure Header where
  magic : List Nat
  format : Nat
  generation : Nat
  dirEntries : Nat
  dirDigest : List Nat
  keyIndex : Nat
  signature : List Nat
  deriving DecidableEq, Repr

/-- A directory entry (R37): TYPE, INSTANCE, the passport address and the length of its record, the stamp its format provides, and the
48 bytes of DIGEST. -/
structure DirEntry where
  type : Nat
  inst : Nat
  offset : Nat
  length : Nat
  stamp : Nat
  digest : List Nat
  deriving DecidableEq, Repr

/-- A firmware or microcode image (R39): its prologue with the build, the stamps it provides and uses, for firmware the tested pairs, and
the signature's key index and 96 bytes; and what follows the prologue: the code of a firmware image by byte, or the microwords that
are not 0 by number. -/
structure Image where
  build : Nat
  provides : List Nat
  uses : List Nat
  tested : List (Nat × Nat)
  keyIndex : Nat
  signature : List Nat
  code : List Nat
  words : List (Nat × Nat)
  deriving DecidableEq, Repr

/-- A calibration table, by what it holds where the spec names it: the limits, wedge counts and seek times of the loops (R198, R203, R204,
R206); the coupling KX of the other actuators into one (R205); the preamp's register addresses (R211, R212); a lane's tap memory (R126)
and the skews of its heads (R86, R123); a reader's own tap set for a head (R145); the code table (R102); the ladder policy (R156); the
die power by domain (R437); the drive secret (R361); and the serial number in ASCII (R388). -/
inductive CalTable where
  | loops (wiLimit onLimit onWedges pairWait stroke : Nat) (third full : List Nat)
  | coupling (x : Act) (kx : Nat)
  | preamp (headSelect writeCurrent overshoot heater bias : Nat) (faultStatus : Option Nat)
  | taps (x : Act) (words : List Nat)
  | skews (x : Act) (heads : List Nat)
  | readerTaps (x : Act) (head : Nat) (trailing : Bool) (words : List Nat)
  | code (words : List Nat)
  | ladder (l : List Nat)
  | diePower (l : List (Nat × Nat))
  | secret (words : List Nat)
  | serial (ascii : List Nat)
  deriving DecidableEq, Repr

/-- A record of the factory area or of a slot by its content (R38): a sealed set, a calibration table, the policy record, a public key as
its 97-byte point, an image, or bytes of any other type. -/
inductive Body where
  | sealedSet (pairs : List (Nat × Nat))
  | calibration (t : CalTable)
  | policy (bits : Nat)
  | publicKey (point : List Nat)
  | image (i : Image)
  | bytes (l : List Nat)
  deriving DecidableEq, Repr

/-- A copy of the factory area, or a slot (R35 to R38): its header, its directory, and its records by passport address. -/
structure Area where
  header : Header
  dir : List DirEntry
  recs : List (Nat × Body)
  deriving DecidableEq, Repr

/-- A word of DRAM that a read found in error (R421): its address, how many bits, and whether its read-back was in error too. -/
structure EccErr where
  addr : Nat
  bits : Nat
  hard : Bool
  deriving DecidableEq, Repr

/-- How the fabric served a transfer (R420): well, or with a bus error on the source or the destination after so many bytes. -/
inductive Fabric where
  | good
  | source (bytes : Nat)
  | dest (bytes : Nat)
  deriving DecidableEq, Repr

/-- The statuses that the spec names (R45, R263, R376 to R397, R384), and those of the zoned and key-value command sets. -/
inductive Status where
  | success | invalidOpcode | invalidField | invalidNamespace | namespaceNotReady | commandInterrupted | writeProtected
  | capacityExceeded | insufficientCapacity | sanitizeInProgress | unrecoveredRead | writeFault | lbaOutOfRange
  | reservationConflict | abortRequested | transientTransport | invalidFirmwareSlot | invalidFirmwareImage | controllerBusy
  | connectInvalid | sequenceError | aerLimit | invalidLogPage
  | notSaveable
  | zoneBoundary | zoneFull | zoneInvalidWrite | zoneInvalidTransition | tooManyActive | tooManyOpen
  | keyMissing | keyExists | invalidKeySize | invalidValueSize
  deriving DecidableEq, Repr

/-- A command capsule (R378, R382, R383): opcode, fabrics type, CID, NSID, CDW10 to CDW15, the key of a key-value command,
in-capsule data, and whether that data fails its digest (R377). -/
structure Capsule where
  opcode : Nat
  fctype : Nat
  cid : Nat
  nsid : Nat
  cdw : List Nat
  key : List Nat
  data : List Nat
  badData : Bool
  deriving DecidableEq, Repr

/-- An entry of the network configuration feature (R370). -/
structure NetCfg where
  mode4 : Nat
  mode6 : Nat
  prefix4 : Nat
  addr4 : Nat
  gw4 : Nat
  prefix6 : Nat
  mtu : Nat
  addr6 : Nat
  gw6 : Nat
  vlan : Nat
  deriving DecidableEq, Repr

/-- No address and the least MTU. -/
def NetCfg.none : NetCfg := ⟨0, 0, 0, 0, 0, 0, 1500, 0, 0, 0⟩

/-- What a refresh count is kept for (R329): reads of a strongroom block in one-bit or in multi-bit mode, track writes into a region of
a first-class area, full writes of a band area. -/
inductive RefreshKind where
  | oneBit | multiBit | region | edge
  deriving DecidableEq, Repr

/-- Why a port drops a frame it receives (R369, R370, R375): its check sequence is bad; its VLAN, none where it is untagged; a PAUSE frame; an
IPv4 fragment, or an IPv6 packet with an extension header or a fragment; the cycles that class 0 would have in a window of 10 µs with it. -/
inductive FrameFault where
  | badCheck
  | vlan (vid : Option Nat)
  | pause
  | packet
  | share (cycles : Nat)
  deriving DecidableEq, Repr

/-- An ICMP frame (R370): an echo request from a source to a target, the least MTU of a connection's path, or any other. -/
inductive IcmpFrame where
  | echo (source target : Nat)
  | tooBig (conn mtu : Nat)
  | other
  deriving DecidableEq, Repr

/-- An NDP frame (R370): a neighbour solicitation for an address, or a router advertisement. -/
inductive NdpFrame where
  | solicit (target : Nat)
  | advertise (router : Nat)
  deriving DecidableEq, Repr

/-- A DHCP frame (R370): an offer, an acknowledgement that binds an address, or a refusal. -/
inductive DhcpFrame where
  | offer (addr : Nat)
  | bound (addr : Nat)
  | refused
  deriving DecidableEq, Repr

/-- The two variants of the module (R3). -/
inductive Variant where
  | vk432m
  | vk232m
  deriving DecidableEq, Repr

/-- The records of the device area by their content (R38): the head-service entry (R354), the saved features (R385), the wrapped keys
(R361) by key slot with their namespace, the shelf book (R292), SANITIZE_PENDING (R362), and of the slots the preferred one, and the
trial flag and count of each (R46), with the generation the device gave it (R47; 0 for none). -/
structure DevRecord where
  shelfBook : List Nat
  features : List (Nat × Nat)
  keys : List (Nat × Nat × List Nat)
  retired : Nat
  reinstate : Nat
  posmap : List Nat
  sanitizePending : Bool
  trialA : Bool
  countA : Nat
  trialB : Bool
  countB : Nat
  preferred : Nat
  genA : Nat
  genB : Nat
  deriving DecidableEq, Repr

/-- A device directory with the records it names (R37, R40): its generation, its entries, its CRC, and the records as they stand at the
entries' addresses. -/
structure DevDir where
  generation : Nat
  entries : List DirEntry
  crc : Nat
  recs : DevRecord
  deriving DecidableEq, Repr

/-- A key slot of the die's fuses (R41): the digest of a public key, none where nothing is fused, and its revoke bit. -/
structure Fuse where
  digest : List Nat
  revoked : Bool
  deriving DecidableEq, Repr

/-- The passport (R32 to R42): whether HDA_SENSE is low and the SFDP table reads, the two factory copies, the two slots,
the two device directories, the die's four key slots, and the device records as they are to be once they are rewritten (R40). -/
structure Passport where
  sense : Bool
  sfdpOk : Bool
  copy0 : Option Area
  copy1 : Option Area
  slotA : Option Area
  slotB : Option Area
  dev0 : DevDir
  dev1 : DevDir
  fuses : Four Fuse
  pend : Option DevRecord
  deriving DecidableEq, Repr

/-- Device records with nothing in them. -/
def DevRecord.blank : DevRecord := ⟨[], [], [], 0, 0, [], false, false, 0, false, 0, 0, 0, 0⟩

/-- A device directory that was never written. -/
def DevDir.blank : DevDir := ⟨0, [], 0, DevRecord.blank⟩

/-- A passport with nothing written and no key fused. -/
def Passport.blank : Passport :=
  ⟨true, true, none, none, none, none, DevDir.blank, DevDir.blank, .all ⟨[], false⟩, none⟩

/-- The module and the HDA it is mated to (R3, R32, R469): the variant, and the passport with the die's key fuses. -/
structure Fitment where
  variant : Variant
  passport : Passport
  deriving DecidableEq, Repr

/-- What a start finds (R12, R24, R49, R265, R408): the slot straps and the presence pin, the cores and decoder halves that pass their
self-test as bits, the spindle phase whose leg fails its test (0 none), whether the chopper test passes, the ms to controller ready, and
where base firmware puts the four bag pools, in MiB. -/
structure StartFacts where
  straps : Nat
  present : Bool
  cores : Nat
  halves : Nat
  leg : Nat
  chopOk : Bool
  bootMs : Nat
  pools : List Nat
  deriving DecidableEq, Repr

/-- What the world brings to a tick boundary: the length in ns of the tick that ends; the phases of the four postmark streams in 1/4096
ring cycle (R68), the ring cycles since the combination last changed (R71), the revolution period in 40 ns crystal cycles, the spindle
speed in 1/256 rpm, the postmark heads whose park lines opened, true for B (R80), and the revolution period that the tick flywheel averages
from the servo marks of the flying actuators, in 40 ns crystal cycles, none where it does not hold (R83); the words the spindle and the arm drivers give to their input
ports (R195, R223); the readings of the eight sensors in 1/16 °C and of the two trip diodes as they stand in THM_TRIP (R435, R436), and
the activity counts of the thirty domains and where in the courier's data memory they stand (R437, R438); the bulk bus in 0.1 V, the drive bus in mV, the input in 0.1 V and in mW, the drive-bus
load in mW (R266), the energy the chopper's resistor took in µJ (R265),
and the SRAM rows whose fetches were corrected in the tick, by array, 0 the pigeonhole cache and 2 the protocol engine's control store, and
word (R24). -/
structure TickFacts where
  ns : Nat
  phases : List Nat
  sinceChange : Nat
  revPeriod : Nat
  speed : Nat
  opened : List Bool
  flywheel : Option Nat
  ports : List (Nat × Nat)
  sensors : List Int
  trips : List Nat
  activity : List Nat
  activityAt : Nat
  bulk : Nat
  dbus : Nat
  line : Nat
  pin : Nat
  load : Nat
  chopUj : Nat
  rows : List (Nat × Nat)
  deriving DecidableEq, Repr


/-- The commands of the device: one constructor for each row of the table of operations and events. -/
inductive Instr where
  /-- REGISTER_WRITE (R8). A write to a register field that has no row of its own takes effect under its access code. -/
  | registerWrite (ini : Initiator) (a : Nat) (size : Nat) (v : Option Nat)
  /-- TCK_COUNT_LO_READ (R76). A read of TCK_COUNT_LO returns the low tick count and latches COUNT_HI. -/
  | tckCountLoRead (ini : Initiator)
  /-- MAINS_APPLIED (R253). Mains is applied; the auxiliary converter and PFC soft start begin the power-up. -/
  | mainsApplied (volts : Nat) (ac : Bool) (fit : Option Fitment)
  /-- AC_DC_MODE_CHOICE (R250). At 100 ms after mains applied the device chooses AC or DC mode. -/
  | acDcModeChoice (crossing : Bool) (volts : Nat)
  /-- LLC_START (R253). Once the bulk bus has held above 350 V for REC_MS the LLC is started. -/
  | llcStart (bulk : Nat) (heldMs : Nat)
  /-- DRIVE_BUS_VALID (R251). The drive bus rises above 22.8 V and the start sequence of R49 runs to controller ready. -/
  | driveBusValid (mv : Nat) (facts : StartFacts)
  /-- LINK_UP (R369). A port's link completes autonegotiation and training and comes up. -/
  | linkUp (p : Prt) (speed : Nat) (fec : Nat)
  /-- ADDRESS_BOUND (R51). An IPv6 address completes duplicate detection or a DHCP lease is bound, and NVMe/TCP listens on it. -/
  | addressBound (p : Prt) (v6 : Bool) (addr : Nat)
  /-- MAINS_LOST_WARNING (R255). Missing zero-crossings or a low bulk bus raise the warning, freeze writes, start regeneration and the flush. -/
  | mainsLostWarning (silentMs : Nat) (bulk : Nat)
  /-- RECOVERY_MET (R256). Recovery conditions hold; a ride-through ends without reset, or after declaration a brownout reset follows. -/
  | recoveryMet (bulk : Nat) (heldMs : Nat) (present : Bool)
  /-- POWER_LOSS_DECLARED (R257). Power loss is declared, raising emergency unload and completing host commands. -/
  | powerLossDeclared (bulk : Nat) (mv : Nat)
  /-- DECLARED_DOMAIN_SHUTOFF (R257). Ten milliseconds after declaration the host side, lanes, decoders and consignment engine are switched off. -/
  | declaredDomainShutoff
  /-- FLUSH_DONE (R258). Firmware writes FLUSH_DONE; the rotor coasts, every switched domain goes off and the LLC stops. -/
  | flushDone (ini : Initiator)
  /-- BROWNOUT_RESET (R59). The bulk bus reaches 190 V or the drive bus drops with a low bulk bus, resetting the device. -/
  | brownoutReset (bulk : Nat) (mv : Nat) (us : Nat)
  /-- LLC_FAULT (R251). The drive bus falls below 18 V for 1 ms with the bulk bus above 250 V, a grave fault. -/
  | llcFault (bulk : Nat) (mv : Nat) (us : Nat)
  /-- WATCHDOG_RESET (R59). The supervisor watchdog expires after 2 s and resets the cores and protocol engine. -/
  | watchdogReset (silentMs : Nat) (bootMs : Nat)
  /-- NVM_SUBSYSTEM_RESET (R59). The protocol engine is reset and firmware reloaded while the loops run. -/
  | nvmSubsystemReset (bootMs : Nat)
  /-- GRAVE_FAULT_POWER_CYCLE (R449). A grave fault unloads heads, stops the inverter and switches every switched domain off. -/
  | graveFaultPowerCycle
  /-- SWITCHED_DOMAINS_RESTART (R449). After 100 ms with domains off, the standby supervisor restarts from step 1 of R49. -/
  | switchedDomainsRestart (facts : StartFacts)
  /-- CHOPPER_GATE_CLOSE (R265). The drive bus reaches CHOP_ON and the chopper comparator closes the gate. -/
  | chopperGateClose (mv : Nat)
  /-- CHOPPER_GATE_OPEN (R265). The drive bus falls below CHOP_OFF and the chopper gate opens. -/
  | chopperGateOpen (mv : Nat)
  /-- CHOP_FAULT_DETECTED (R265). A chopper current, rise or leakage check fails and CHOP_FAULT is set. -/
  | chopFaultDetected (mv : Nat) (ma : Nat) (us : Nat) (rising : Bool)
  /-- CHOP_TEST (R265). A chopper test closes the gate for 100 µs on request. -/
  | chopTest (ini : Initiator) (passes : Bool)
  /-- PD_CTRL_WRITE (R268). A write to SYS_PD_CTRL switches domains on or off, with dependencies and refusals. -/
  | pdCtrlWrite (ini : Initiator) (v : Nat)
  /-- PD_SWITCH_COMPLETE (R267). A domain reaches its written state and its state is restored. -/
  | pdSwitchComplete (n : Nat)
  /-- ENVELOPE_OPEN (R53). A core opens the envelope while idle and becomes its owner. -/
  | envelopeOpen (core : Nat)
  /-- STAGED_COPY_WRITE (R54). The owner's write to a staged copy is recorded in the open envelope. -/
  | stagedCopyWrite (ini : Initiator) (a : Nat) (size : Nat) (v : Nat)
  /-- ENVELOPE_SEAL (R54). The owner seals the envelope and the consistency checker starts. -/
  | envelopeSeal (core : Nat)
  /-- SEAL_CHECK_DONE (R54). The checker finishes and the set becomes sealed or rejected with RULE. -/
  | sealCheckDone
  /-- ENVELOPE_POST (R55). The owner arms the sealed set for a target tick boundary, or it is marked late or rejected. -/
  | envelopePost (core : Nat) (nsToNext : Nat)
  /-- ENVELOPE_ABORT (R57). The owner discards the envelope and staged copies return to live values. -/
  | envelopeAbort (core : Nat)
  /-- DEVICE_RECORD_REWRITE (R40). The device rewrites a device-area record, then the older directory, then erases the old record. -/
  | deviceRecordRewrite (steps : Nat)
  /-- TICK_BOUNDARY (R76). A tick boundary of the current source advances the tick count and readies the tick's work. -/
  | tickBoundary (f : TickFacts)
  /-- MAILBOX_POST (R21). A core posts a message to a loop mailbox, refused when the mailbox is full. -/
  | mailboxPost (core : Nat) (loop : Nat) (words : List Nat)
  /-- MAILBOX_DELIVER (R21). An accepted message completes class-C delivery into the mailbox. -/
  | mailboxDeliver (loop : Nat) (afterNs : Nat)
  /-- WRITE_HOLD_RELEASE (R79). One full revolution with the source at disc clears WR_HOLD. -/
  | writeHoldRelease
  /-- FORCE_FREE_WRITE (R80). FORCE_FREE returns the source to free at the next boundary, or is ignored with heads flying. -/
  | forceFreeWrite (ini : Initiator) (v : Bool)
  /-- TCK_CLR_PEAK (R87). A write of CLR_PEAK clears TCK_PEAK. -/
  | tckClrPeak (ini : Initiator)
  /-- FLYING_LIMIT_CROSSED (R66). The spindle crosses the flying limit and postmark ramp drivers are energised or de-energised. -/
  | flyingLimitCrossed (rising : Bool)
  /-- PARK_SWITCH_CLOSE (R67). A postmark park line closes while its driver is energised, setting RAMP_FAULT. -/
  | parkSwitchClose (headB : Bool)
  /-- RAMP_FAULT_TIMEOUT (R67). A park line stays closed 150 ms after energising; RAMP_FAULT is set and the driver de-energised. -/
  | rampFaultTimeout (headB : Bool)
  /-- PMK_STREAM_VALID (R70). A postmark stream meets amplitude, tracking and index conditions and becomes valid. -/
  | pmkStreamValid (stream : Nat) (amp : Nat) (a : IndexFind) (b : IndexFind)
  /-- PMK_STREAM_DROP (R70). A stream is dropped for amplitude, index or phase departure and the combined phase glides. -/
  | pmkStreamDrop (stream : Nat) (c : DropCause)
  /-- PMK_ACQ_TIMEOUT (R81). No lock within 600 ms of operating speed sets ACQ_TIMEOUT and may start degraded loading. -/
  | pmkAcqTimeout
  /-- POSITION_ERROR_DELIVERY (R97). A lane delivers a wedge's position error and status, readying the servo slice. -/
  | positionErrorDelivery (x : Act) (mark : Nat) (index : Nat) (track : Nat) (parity : Nat) (n : Int) (q : Int)
  /-- PES_TIMEOUT (R162). PES_TIMEOUT cycles pass without a position error and the servo slice becomes ready. -/
  | pesTimeout (x : Act)
  /-- SEGMENT_FORCED_END (R170). A slice's 64th consecutive microword ends its segment and sets SEG_FORCED. -/
  | segmentForcedEnd
  /-- SLICE_OVERRUN (R90). A slice reaches its allocation unfinished; outputs are held and a level-2 fault reported. -/
  | sliceOverrun
  /-- NEXT (R168). The sequencer goes to the next microword. -/
  | next (fetch : Ecc) (dm : Ecc)
  /-- BR (R168). Branch to TARGET if COND holds. -/
  | br (fetch : Ecc) (dm : Ecc)
  /-- BRN (R168). Branch to TARGET if COND fails. -/
  | brn (fetch : Ecc) (dm : Ecc)
  /-- CALL (R168). Push the return address and go to TARGET, trapping on a fifth push. -/
  | call (fetch : Ecc) (dm : Ecc)
  /-- RET (R168). Pop the return stack, trapping when it is empty. -/
  | ret (fetch : Ecc) (dm : Ecc)
  /-- LOOP (R168). Decrement LC and branch to TARGET while it is not zero. -/
  | loop (fetch : Ecc) (dm : Ecc)
  /-- LDLC (R168). Load LC from the immediate. -/
  | ldlc (fetch : Ecc) (dm : Ecc)
  /-- DISPATCH (R168). Go to TARGET plus the low four bits of the ALU_A operand. -/
  | dispatch (fetch : Ecc) (dm : Ecc)
  /-- DONE (R168). End the slice for this tick and its segment when COND holds. -/
  | done (fetch : Ecc) (dm : Ecc)
  /-- TRAP (R168). Trap with the immediate code when COND holds. -/
  | trap (fetch : Ecc) (dm : Ecc)
  /-- MOV (R171). ALU writes operand A, with injection and clamp applied. -/
  | mov (fetch : Ecc) (dm : Ecc)
  /-- ADD (R171). ALU writes A plus B, wrapping. -/
  | add (fetch : Ecc) (dm : Ecc)
  /-- SUB (R171). ALU writes A minus B, wrapping. -/
  | sub (fetch : Ecc) (dm : Ecc)
  /-- SADD (R171). ALU writes A plus B, saturating. -/
  | sadd (fetch : Ecc) (dm : Ecc)
  /-- SSUB (R171). ALU writes A minus B, saturating. -/
  | ssub (fetch : Ecc) (dm : Ecc)
  /-- AND (R171). ALU writes bitwise AND. -/
  | and (fetch : Ecc) (dm : Ecc)
  /-- OR (R171). ALU writes bitwise OR. -/
  | or (fetch : Ecc) (dm : Ecc)
  /-- XOR (R171). ALU writes bitwise XOR. -/
  | xor (fetch : Ecc) (dm : Ecc)
  /-- ASR (R171). ALU writes A shifted right arithmetically by B. -/
  | asr (fetch : Ecc) (dm : Ecc)
  /-- LSL (R171). ALU writes A shifted left by B. -/
  | lsl (fetch : Ecc) (dm : Ecc)
  /-- MIN (R171). ALU writes the signed minimum. -/
  | min (fetch : Ecc) (dm : Ecc)
  /-- MAX (R171). ALU writes the signed maximum. -/
  | max (fetch : Ecc) (dm : Ecc)
  /-- ABS (R171). ALU writes the saturating absolute value. -/
  | abs (fetch : Ecc) (dm : Ecc)
  /-- NEG (R171). ALU writes the saturating negation. -/
  | neg (fetch : Ecc) (dm : Ecc)
  /-- CMP (R171). ALU sets flags from A minus B without a destination. -/
  | cmp (fetch : Ecc) (dm : Ecc)
  /-- SGE (R171). ALU writes 1 if A is at least B, signed. -/
  | sge (fetch : Ecc) (dm : Ecc)
  /-- SIN (R171). ALU writes the sine of A taken as an angle. -/
  | sin (fetch : Ecc) (dm : Ecc)
  /-- COS (R171). ALU writes the cosine of A taken as an angle. -/
  | cos (fetch : Ecc) (dm : Ecc)
  /-- MUL (R172). Load the shifted product into an accumulator. -/
  | mul (fetch : Ecc) (dm : Ecc)
  /-- MAC (R172). Add the shifted product to an accumulator. -/
  | mac (fetch : Ecc) (dm : Ecc)
  /-- MSU (R172). Subtract the shifted product from an accumulator. -/
  | msu (fetch : Ecc) (dm : Ecc)
  /-- CLR (R172). Clear an accumulator. -/
  | clr (fetch : Ecc) (dm : Ecc)
  /-- MEMORY_READ (R174). Read a data-memory word within the slice window, delivered as MEM next cycle. -/
  | memoryRead (fetch : Ecc) (dm : Ecc)
  /-- MEMORY_WRITE (R174). Write a data-memory word within the slice window. -/
  | memoryWrite (fetch : Ecc) (dm : Ecc)
  /-- PORT_READ (R176). Read a courier input port latch into IN with FRESH. -/
  | portRead (fetch : Ecc) (dm : Ecc)
  /-- PORT_WRITE (R177). Write a courier output port, reaching its unit within 120 ns. -/
  | portWrite (fetch : Ecc) (dm : Ecc)
  /-- CAPTURE (R185). The first CAP microword of a sample tick stores CAP_SRC in the capture slot. -/
  | capture (fetch : Ecc) (dm : Ecc)
  /-- CRE_LOAD (R181). The loader copies, reads back and verifies a courier image into the control store. -/
  | creLoad (ini : Initiator)
  /-- CRE_LOAD_DONE (R181). The loader finishes, setting loaded and CRE_BUILD, or off with LOAD_FAIL. -/
  | creLoadDone
  /-- CRE_RUN (R182). RUN set takes effect at the next boundary, clearing contexts and X registers. -/
  | creRun (ini : Initiator)
  /-- CRE_STOP (R182). RUN written 0 stops the engine at the next boundary unless heads fly or the spindle turns. -/
  | creStop (ini : Initiator)
  /-- CRE_CLR_PEAKS (R190). A write of CLR_PEAKS clears PEAK in every CRE_CYCLESn. -/
  | creClrPeaks (ini : Initiator)
  /-- CRE_DM_DATA_ACCESS (R174). A core access to CRE_DM_DATA reads or writes data memory and advances the address. -/
  | creDmDataAccess (ini : Initiator) (write : Option Nat)
  /-- CRE_CAP_DATA_READ (R185). A read of CRE_CAP_DATA returns a capture slot and advances INDEX. -/
  | creCapDataRead (ini : Initiator)
  /-- INJECTION_END (R184). After LEN samples an injection channel stops and ARM clears, or wraps with REPEAT. -/
  | injectionEnd (n : Nat)
  /-- CAPTURE_END (R185). After LEN slots a capture channel stops and sets DONE. -/
  | captureEnd (n : Nat)
  /-- LANE_QTAIL_WRITE (R127). Firmware advances a lane's QTAIL to post operations, refused on overflow. -/
  | laneQtailWrite (ini : Initiator) (x : Act) (tail : Nat)
  /-- LANE_READ (R129). The lane takes a read operation and reads its sectors in rotation order. -/
  | laneRead (x : Act)
  /-- LANE_WRITE (R119). The lane takes a write operation and writes its sectors in ascending order with receipts. -/
  | laneWrite (x : Act)
  /-- LANE_READ_SAMPLES (R128). The lane takes a read-samples operation and stores equalised samples undecoded. -/
  | laneReadSamples (x : Act)
  /-- LANE_SKEW_MEASURE (R123). The lane measures the head's write-to-read skew over one revolution. -/
  | laneSkewMeasure (x : Act)
  /-- SECTOR_START (R119). A sector of the current operation comes under the head and is read or written if its conditions hold. -/
  | sectorStart (x : Act) (sector : Nat) (dataReady : Bool) (dataError : Bool) (sig : List Stretch)
  /-- HEATER_LEAD_ELAPSED (R121). HTR_LEAD µs pass after setting the write heater and writing may begin. -/
  | heaterLeadElapsed (x : Act) (us : Nat)
  /-- WRITE_INHIBIT_RECEIVED (R122). A write inhibit reaches the lane, which lowers the gate and ends the write with OFFTRACK. -/
  | writeInhibitReceived (x : Act) (lastFourT : Bool)
  /-- FIRST_PASS_DONE (R104). A codeword's first pass ends, delivering the sector or handing it to recovery. -/
  | firstPassDone (x : Act) (sector : Nat) (half : Nat) (busErr : Bool)
  /-- RECOVERY_STORE_COPY_DONE (R106). A failed codeword's copy into the recovery store completes and its lane place is freed. -/
  | recoveryStoreCopyDone (x : Act) (sector : Nat) (cmd : Option Nat) (lpn : Nat) (sect : Nat)
  /-- DECODER_FRAME_START (R105). A decoder half starts a 64-unit frame and credits each class. -/
  | decoderFrameStart (half : Nat)
  /-- RECEIPT_DECIDED (R136). A written sector's receipt is judged good, marginal or failed. -/
  | receiptDecided (x : Act) (sector : Nat) (half : Nat)
  /-- SECTOR_REWRITE (R139). A not-placed sector is written again at its position on a later revolution. -/
  | sectorRewrite (x : Act) (k : Nat)
  /-- LANE_OPERATION_COMPLETE (R130). An operation's decodes and receipts are done and its completion entry is written. -/
  | laneOperationComplete (x : Act) (k : Nat)
  /-- LANE_ABORT (R132). ABORT stops new sectors and completes the current and queued operations as ABORTED. -/
  | laneAbort (ini : Initiator) (x : Act)
  /-- HEAD_EN_CLEAR (R132). Clearing a head's HEAD_EN bit ends its operation at the next sector boundary with HEAD_OFF. -/
  | headEnClear (ini : Initiator) (x : Act) (mask : Nat)
  /-- ZONE_ENTRY_VALIDATE (R114). Word 0 written with VALID starts the zone-entry check. -/
  | zoneEntryValidate (ini : Initiator) (x : Act) (k : Nat) (v : Nat)
  /-- ZONE_ENTRY_CHECK_DONE (R114). The zone-entry check ends, keeping VALID or setting ENTRY_ERR. -/
  | zoneEntryCheckDone (x : Act) (k : Nat)
  /-- ZONE_ENTRY_INVALIDATE (R114). A write to another word of a valid zone entry clears its VALID. -/
  | zoneEntryInvalidate (ini : Initiator) (x : Act) (k : Nat) (w : Nat) (v : Nat)
  /-- DECODER_HALF_LOSS (R107). A decoder half is lost and its codewords restart their first pass on the other half. -/
  | decoderHalfLoss (half : Nat)
  /-- DECODER_HALF_ENABLE (R107). HALFn_EN written 1 returns a disabled half at the next frame, or is refused for a lost half. -/
  | decoderHalfEnable (ini : Initiator) (half : Nat)
  /-- DECODER_HALF_DISABLE (R107). HALFn_EN written 0 takes a half out of service unless it is the last. -/
  | decoderHalfDisable (ini : Initiator) (half : Nat)
  /-- RECOVERY_JOB_POST (R158). Firmware advances RJTAIL to post decode jobs, refused on overflow. -/
  | recoveryJobPost (ini : Initiator) (tail : Nat)
  /-- DECODE_SAMPLE_AREA (R159). A job decodes a read-samples area under rungs 1 and 2 and adds it to the running sum. -/
  | decodeSampleArea (half : Nat)
  /-- DECODE_RUNNING_SUM (R159). A job decodes the running sum only. -/
  | decodeRunningSum (half : Nat)
  /-- CANCEL_JOB (R159). A cancel job frees PLACE and SUM_PLACE. -/
  | cancelJob
  /-- HELD_SAMPLE_RUNGS_DONE (R140). Rungs 1 and 2 end on a hand-over and a result with tag 0xFFFF is written. -/
  | heldSampleRungsDone (place : Nat) (half : Nat)
  /-- EARLY_RECONSTRUCTION_START (R149). After EARLY_REVS revolutions a host read starts rung 6 in parallel. -/
  | earlyReconstructionStart (place : Nat)
  /-- LADDER_TIME_LIMIT (R150). LADDER_MS or the command's limit passes and the ladder goes to rung 6. -/
  | ladderTimeLimit (place : Nat)
  /-- REALLOCATION (R152). A sector delivered at a high rung is reallocated once writes are free. -/
  | reallocation
  /-- SEEK (R202). A SEEK message is taken up and queued as a motion, possibly pairing. -/
  | seek (x : Act)
  /-- PAIR_WAIT_EXPIRY (R206). PAIR_WAIT ticks pass without a partner and the seek starts alone. -/
  | pairWaitExpiry (x : Act)
  /-- SEEK_DONE (R202). A seek settles on track and SEEK_DONE is replied. -/
  | seekDone (x : Act)
  /-- SEEK_SETTLE_TIMEOUT (R204). A seek not settled in time ends with FAULT 0x10. -/
  | seekSettleTimeout (x : Act) (sinceArrival : Nat)
  /-- HEAD (R208). A HEAD message starts a head switch. -/
  | head (x : Act)
  /-- HEAD_SWITCH_DONE (R208). The new head reaches on track and HEAD_DONE is replied. -/
  | headSwitchDone (x : Act)
  /-- HEAD_SWITCH_TIMEOUT (R208). A head switch not on track in 24 ticks continues as a class-1 seek. -/
  | headSwitchTimeout (x : Act)
  /-- OFFSET (R209). An OFFSET message sets a read offset and holds write inhibit. -/
  | offset (x : Act)
  /-- OFFSET_DONE (R209). The head is on track about the offset position and OFFSET_DONE is replied. -/
  | offsetDone (x : Act)
  /-- LOAD (R213). A LOAD message is judged at the head of the motions and starts the head-load sequence. -/
  | load (x : Act) (rCoil : Nat)
  /-- LOAD_LANDED (R213). The heads reach on track at the landing track and LOADED is replied. -/
  | loadLanded (x : Act)
  /-- LOAD_TIMEOUT (R213). Heads not off the ramp in 80 ms; the loop unloads and replies FAULT 0x30. -/
  | loadTimeout (x : Act)
  /-- UNLOAD (R214). An UNLOAD message cancels motions and starts unloading. -/
  | unload (x : Act)
  /-- UNLOAD_LATCHED (R214). Heads are latched, PARKED is written and UNLOADED replied. -/
  | unloadLatched (x : Act)
  /-- RETIRE (R217). A RETIRE message removes heads from service. -/
  | retire (x : Act)
  /-- COEF (R200). A COEF message selects a coefficient set. -/
  | coef (x : Act)
  /-- EMERGENCY_UNLOAD (R215). A trigger unloads actuators straight from where they are in velocity mode. -/
  | emergencyUnload (trigger : Nat) (x : Act)
  /-- SERVO_WEDGE_LOSS (R215). 32 consecutive wedges without a valid servo wedge trigger emergency unload of that actuator. -/
  | servoWedgeLoss (x : Act)
  /-- EM_UNLOAD_LATCHED (R215). Heads are latched after an emergency unload and EM_UNLOADED is replied. -/
  | emUnloadLatched (x : Act)
  /-- HARDWARE_RETRACT (R216). The arm driver retracts without the courier on low bus, overcurrent or grave signal. -/
  | hardwareRetract (x : Act) (busMv : Nat) (coilMa : Nat) (coilUs : Nat)
  /-- RETRACT (R216). RETRACT written 1 starts a hardware retract. -/
  | retract (ini : Initiator) (x : Act)
  /-- RETRACT_WATCHDOG (R216). No command reaches the arm driver for RETRACT_WD ticks and it retracts. -/
  | retractWatchdog (x : Act)
  /-- RETRACT_END (R216). A hardware retract ends, setting RETRACTED and parking the loop. -/
  | retractEnd (x : Act)
  /-- SHOCK_DETECTED (R199). The shock signal exceeds SHOCK_WI and the driver inhibits writes. -/
  | shockDetected (x : Act) (level : Nat)
  /-- SHOCK_INHIBIT_END (R199). Two milliseconds after the shock ends the driver's inhibit lapses. -/
  | shockInhibitEnd (x : Act)
  /-- PREAMP_FAULT (R212). PA_FLT_N falls; writes inhibited, fault status read and FAULT 0x20 replied. -/
  | preampFault (x : Act) (status : Nat)
  /-- PREAMP_FAULT_PERSISTS (R212). A preamp fault still present after 10 ms marks the head failing. -/
  | preampFaultPersists (x : Act) (us : Nat)
  /-- ASP_FRAME_SEND (R211). ARM_ASP_CMD GO sends a firmware preamp frame, refused for head select. -/
  | aspFrameSend (ini : Initiator) (x : Act) (rd : Bool) (addr : Nat) (data : Nat) (returned : Nat)
  /-- MICROACTUATOR_SATURATION (R210). A microactuator at MA_VMAX for 16 wedges raises a level-3 fault. -/
  | microactuatorSaturation (x : Act)
  /-- START (R478). A spindle START message acts according to the spindle state. -/
  | start
  /-- STOP (R238). A spindle STOP message starts coast, controlled or hold-up stopping. -/
  | stop
  /-- HOLD (R478). A spindle HOLD message cancels a controlled stop and returns to SET_RPM. -/
  | hold
  /-- SENSE_PERIOD_END (R231). After 20 ms of sensing the loop catches, brakes or aligns. -/
  | sensePeriodEnd
  /-- ALIGN_STEP_END (R231). An ALIGN_MS alignment step ends and the next step or ramp begins. -/
  | alignStepEnd
  /-- CATCH_RESULT (R230). A catch completes, loading the observer and entering PWM, or fails. -/
  | catchResult
  /-- OBSERVER_HANDOVER (R231). After 64 ticks of agreement commutation moves to the observer. -/
  | observerHandover
  /-- START_FAILURE (R232). A start fails; the inverter goes off, or after three tries the loop enters failed. -/
  | startFailure
  /-- START_RETRY (R232). Two seconds after a failed start the loop starts again from sensing. -/
  | startRetry
  /-- AT_SPEED_REACHED (R229). The speed holds within 0.5 % for 100 ms; AT_SPEED sets and is replied. -/
  | atSpeedReached
  /-- POSTMARK_ANGLE_HANDOVER (R234). At a boundary after agreement the commutation glides to the postmark angle, or is refused. -/
  | postmarkAngleHandover
  /-- POSTMARK_GLIDE_END (R234). The commutation angle arrives at the postmark angle and ANGLE_SOURCE is replied. -/
  | postmarkGlideEnd
  /-- OBSERVER_LOST (R237). The observer fails its checks for OBS_CONFIRM ticks and the postmark or a catch takes over. -/
  | observerLost
  /-- SPINDLE_DUTY_WATCHDOG (R225). No duty written for WD_TICKS ticks sets the inverter off and the rotor coasts. -/
  | spindleDutyWatchdog
  /-- FLUX_BRAKE_ENTER (R240). The drive bus reaches the flux-braking level and braking energy goes to the windings. -/
  | fluxBrakeEnter (busMv : Nat)
  /-- FLUX_BRAKE_LEAVE (R240). The bus falls 0.5 V below the level and flux braking ends. -/
  | fluxBrakeLeave (busMv : Nat)
  /-- INVERTER_DISABLE (R241). The bus reaches the disable level and the comparator opens every switch. -/
  | inverterDisable (busMv : Nat)
  /-- INVERTER_REENABLE (R241). After 1 ms at least 1 V below the flux level the loop resumes. -/
  | inverterReenable (busMv : Nat) (us : Nat)
  /-- LEG_FAULT (R242). A leg fault is detected and the spare leg substituted, or the spindle gives up. -/
  | legFault (leg : Nat)
  /-- SPARE_LEG_READY (R243). The spare leg is joined and checked, LEG_SWAPPED replied and PWM restored. -/
  | spareLegReady
  /-- SPINDLE_STOPPED (R238). No comparator change for 2 s; the spindle counts as stopped and STOPPED is replied. -/
  | spindleStopped
  /-- KERREX_CYCLE_START (R282). The postmaster starts a 16 ms cycle and sends its BEACON. -/
  | kerrexCycleStart
  /-- BEACON_RECEIVED (R286). A BEACON is heard; grants are applied and the followed postmaster updated. -/
  | beaconReceived (f : List Nat)
  /-- STATUS_SLOT (R284). In its slot the drive sends STATUS with its absolute holding. -/
  | statusSlot
  /-- STATUS_RECEIVED (R290). A STATUS is heard; the postmaster updates counts and wakes are acted on. -/
  | statusReceived (f : List Nat) (inSlot : Bool)
  /-- CLAIM_RECEIVED (R288). A CLAIM is heard and election timers restart. -/
  | claimReceived (f : List Nat)
  /-- ELECTION_BACKOFF_EXPIRY (R288). An eligible drive that heard no beacon for 50 ms plus back-off sends CLAIM. -/
  | electionBackoffExpiry
  /-- CLAIM_CONFIRM (R288). One millisecond after its CLAIM the drive becomes postmaster and sends a beacon. -/
  | claimConfirm
  /-- TRANSMIT_MISMATCH (R281). A byte heard differs from the byte sent and the transmission ends at once. -/
  | transmitMismatch (type : Nat)
  /-- CENSUS_END (R290). A new postmaster's three census cycles end and granting may begin. -/
  | censusEnd
  /-- UNHEARD_SLOT_TIMEOUT (R290). Two seconds after taking office an unheard fitted slot counts at UNHEARD. -/
  | unheardSlotTimeout
  /-- CRC_ABDICATION (R289). Eight cycles of unexplained CRC errors make the postmaster abdicate. -/
  | crcAbdication
  /-- ELIGIBILITY_RESTORE (R289). One hundred milliseconds after a CRC abdication the drive is eligible again. -/
  | eligibilityRestore
  /-- LAPSE (R291). One second without a beacon or its SEEN bit sets LAPSED and sheds stamps. -/
  | lapse
  /-- FRK_TARGET_WRITE (R285). Firmware sets TARGET, raising an ask or returning stamps. -/
  | frkTargetWrite (ini : Initiator) (v : Nat)
  /-- HOLD_ENTER (R294). HOLD_ENTER with H at BASE enters shelf-hold. -/
  | holdEnter (ini : Initiator)
  /-- WAKE_SEND (R294). FRK_WAKE GO carries a wake in the next STATUS. -/
  | wakeSend (ini : Initiator) (all : Bool) (slot : Nat)
  /-- PRESENT_N_RELEASE (R469). The presence pin is released; associations end and the drive falls silent on Kerrex. -/
  | presentNRelease
  /-- PRESENT_N_ASSERT (R469). The presence pin is asserted again; straps are compared with SLOT_ID. -/
  | presentNAssert (straps : Nat)
  /-- SOF_JOB_POST (R337). Firmware advances SJTAIL to post sorting-office jobs. -/
  | sofJobPost (ini : Initiator) (tail : Nat)
  /-- LOOKUP (R338). A LOOKUP job returns map entries for a list of LPNs. -/
  | lookup
  /-- SWITCH (R316). A SWITCH job applies triples whose OLD matches and gives the job a SEQ. -/
  | switch
  /-- VALID_SCAN (R338). A VALID_SCAN job returns a bitmap of a band's valid slots. -/
  | validScan
  /-- DIRECT_PLACEMENT (R311). A whole stripe in the in-tray is written to the direct-placement group. -/
  | directPlacement (nsid : Nat) (lpn : Nat)
  /-- FIRST_CLASS_PLACEMENT (R311). A write's sectors are written to both copies of the parcel's first-class slot. -/
  | firstClassPlacement (serial : Nat)
  /-- COMMIT_UNIT_SWITCH (R317). Once all receipts of a unit are good its switch job and journal record are posted. -/
  | commitUnitSwitch (k : Nat) (receiptsGood : Bool) (parityGood : Bool) (reads : Nat) (failedBand : Option Nat)
  /-- FOLDING (R312). Parcels are moved from the first-class region into the fold band group. -/
  | folding
  /-- RE_SORTING (R313). Valid parcels of a source band group are copied into the re-sort group. -/
  | reSorting (member : Nat)
  /-- IDLE_TIMEOUT (R312). No host command for 10 s starts idle folding and re-sorting. -/
  | idleTimeout
  /-- BUNDLE_PLACE_TIMEOUT (R326). Five seconds after its first value a bundle parcel is placed. -/
  | bundlePlaceTimeout (k : Nat)
  /-- REPACK (R328). A bundle below REPACK_PCT has its live values moved to new bundles. -/
  | repack (k : Nat)
  /-- ZONE_FINISH_RECOMMENDED (R323). A stripe lagging ZFR_MIN sets Zone Finish Recommended for the zone holding it back. -/
  | zoneFinishRecommended (nsid : Nat) (k : Nat)
  /-- ZONE_FINISH_BY_CONTROLLER (R323). After a further ZFR_MIN the device finishes the lagging zone itself. -/
  | zoneFinishByController (nsid : Nat) (k : Nat)
  /-- MAP_CHECKPOINT (R333). The checkpoint writer saves dirty map segments and the journal is trimmed. -/
  | mapCheckpoint
  /-- SEGMENT_LOAD (R334). A map segment is loaded and its later deltas applied. -/
  | segmentLoad (k : Nat)
  /-- MAP_REBUILD (R335). With a segment unreadable the map is rebuilt from parcel tags. -/
  | mapRebuild (tags : Option (List (Nat × Nat × Nat)))
  /-- REFRESH_TRIGGER (R329). A read or write count reaches its threshold and the block, region or band is refreshed. -/
  | refreshTrigger (w : RefreshKind) (place : Nat) (allGood : Bool)
  /-- LOCATION_RELEASE (R320). A switched-away location is released once its record is saved and its reads end. -/
  | locationRelease (k : Nat) (readsEnded : Bool)
  /-- CNS_JOB_POST (R364). Firmware advances CJTAIL to post consignment jobs. -/
  | cnsJobPost (ini : Initiator) (tail : Nat)
  /-- ENCRYPT (R365). A job encrypts sectors with a key slot under AES-256-XTS. -/
  | encrypt (errs : List EccErr)
  /-- DECRYPT (R365). A job decrypts sectors with a key slot. -/
  | decrypt (errs : List EccErr)
  /-- ENCODE (R343). A job computes parity members of a stripe. -/
  | encode (errs : List EccErr)
  /-- DECODE (R347). A job rebuilds masked members as erasures. -/
  | decode (errs : List EccErr)
  /-- CHECK (R347). A job checks consistency of a stripe leaving masked members out. -/
  | check (errs : List EccErr)
  /-- LOAD_WRAPPED_KEY (R361). The engine unwraps a key from KEY_ADDR into a slot. -/
  | loadWrappedKey (ini : Initiator) (slot : Nat)
  /-- GENERATE_KEY (R361). The engine generates a key into a slot and writes it wrapped. -/
  | generateKey (ini : Initiator) (slot : Nat)
  /-- CLEAR_KEY_SLOT (R364). One key slot is cleared. -/
  | clearKeySlot (ini : Initiator) (slot : Nat)
  /-- CLEAR_ALL_KEY_SLOTS (R364). Every key slot is cleared. -/
  | clearAllKeySlots (ini : Initiator)
  /-- KEK_LOAD (R364). Writing CNS_KEK7 completes the KEK load and clears NO_KEK. -/
  | kekLoad (ini : Initiator) (v : Nat)
  /-- HEAD_RETIREMENT (R353). A retirement trigger marks the surface unavailable, retires the head and plans a rebuild. -/
  | headRetirement (surface : Nat) (trigger : Nat)
  /-- REBUILD_UNIT_COMMIT (R356). A rebuilt unit's receipts are good and it is committed. -/
  | rebuildUnitCommit (receiptsGood : Bool)
  /-- PARITY_SCRUB (R359). A full band group is read and each stripe row checked. -/
  | parityScrub (g : Nat) (bad : Option Nat)
  /-- ICREQ (R377). An ICReq PDU is answered with ICResp and digests set. -/
  | icreq (conn : Nat) (pfv : Nat) (hdgst : Bool) (ddgst : Bool) (maxR2t : Nat)
  /-- H2C_TERM_REQ (R373). An H2CTermReq PDU terminates the connection. -/
  | h2cTermReq (conn : Nat)
  /-- CAPSULE_CMD (R378). A command capsule arrives at the head of a connection. -/
  | capsuleCmd (conn : Nat) (cap : Capsule) (hdr : Bool)
  /-- CAPSULE_TAKE (R378). A capsule is taken once a slot and queue room exist and the command is admitted. -/
  | capsuleTake (conn : Nat) (wait : Nat) (us : Nat)
  /-- H2C_DATA (R389). An H2CData PDU delivers write data into reserved bags. -/
  | h2cData (serial : Nat) (offset : Nat) (data : List Nat) (hdr : Bool) (good : Bool)
  /-- TCP_SYN (R371). A SYN opens a connection on 4420 or 8009, or is answered with RST. -/
  | tcpSyn (p : Prt) (v6 : Bool) (addr : Nat) (port : Nat) (window : Nat)
  /-- TCP_FIN (R373). A FIN closes a connection. -/
  | tcpFin (conn : Nat)
  /-- TCP_RST (R373). An RST resets a connection. -/
  | tcpRst (conn : Nat)
  /-- TCP_ACK (R403). An acknowledgement advances the send window. -/
  | tcpAck (conn : Nat) (bytes : Nat) (window : Nat)
  /-- TCP_OUT_OF_ORDER (R373). Out-of-order data is handled. -/
  | tcpOutOfOrder (conn : Nat)
  /-- RETRANSMISSION_TIMER (R371). The retransmission timer expires; data is resent or after 15 tries the connection reset. -/
  | retransmissionTimer (conn : Nat)
  /-- DELAYED_ACK_TIMER (R403). The delayed-acknowledgement timer expires and an acknowledgement is sent. -/
  | delayedAckTimer (conn : Nat)
  /-- ARP (R370). An ARP frame is answered. -/
  | arp (p : Prt) (target : Nat)
  /-- ICMPV4 (R370). An ICMPv4 frame is handled. -/
  | icmpv4 (p : Prt) (f : IcmpFrame)
  /-- ICMPV6 (R370). An ICMPv6 frame is handled. -/
  | icmpv6 (p : Prt) (f : IcmpFrame)
  /-- NDP (R370). An NDP frame is handled. -/
  | ndp (p : Prt) (f : NdpFrame)
  /-- DHCPV4 (R370). A DHCPv4 frame is handled. -/
  | dhcpv4 (p : Prt) (f : DhcpFrame)
  /-- DHCPV6 (R370). A DHCPv6 frame is handled. -/
  | dhcpv6 (p : Prt) (f : DhcpFrame)
  /-- RESPONSE_READY (R373). A command's response is ready and is sent, releasing slot and lock. -/
  | responseReady (serial : Nat)
  /-- BAGS_RESERVED_FOR_TRANSFER (R390). In-tray bags are reserved and the transfer request is sent. -/
  | bagsReservedForTransfer (serial : Nat) (pick : Nat)
  /-- READ_DATA_READY (R373). Read data is ready and sent to the host. -/
  | readDataReady (serial : Nat)
  /-- ASYNCHRONOUS_EVENT (R400). An asynchronous event is raised and completes an outstanding request or is retained. -/
  | asynchronousEvent (type : Nat) (info : Nat)
  /-- ASSOCIATION_END (R379). An association ends; complete writes are placed and other commands abandoned. -/
  | associationEnd (a : Nat)
  /-- KEEP_ALIVE_TIMER (R379). An association's keep-alive time expires and it ends. -/
  | keepAliveTimer (a : Nat)
  /-- CORE_POSTED_EVENT (R373). A core posts a dispatch key through PRE_POST to the protocol engine. -/
  | corePostedEvent (ini : Initiator) (arg : Nat) (conn : Nat) (key : Nat)
  /-- LOCK_GRANT (R393). A waiting range lock is granted once no earlier conflicting lock remains. -/
  | lockGrant (serial : Nat)
  /-- PORT_LINK_RESET (R379). A port's link is lost or retrained and its associations end. -/
  | portLinkReset (p : Prt)
  /-- ETH_RESTART (R405). ETH_CTRL RESTART causes a port link reset. -/
  | ethRestart (ini : Initiator) (p : Prt)
  /-- PRE_END (R374). The END micro-operation ends the protocol handler. -/
  | preEnd (hdr : Bool) (data : Bool)
  /-- CRC32C (R374). The CRC32C ALU operation folds A into the running CRC. -/
  | crc32c (hdr : Bool) (data : Bool)
  /-- PAYLOAD_TO_BAGS (R374). XFER moves PDU payload into bags. -/
  | payloadToBags (hdr : Bool) (data : Bool)
  /-- BAGS_TO_TRANSMIT_QUEUE (R374). XFER moves bags to the transmit queue. -/
  | bagsToTransmitQueue (hdr : Bool) (data : Bool)
  /-- BUILD_AND_SEND_PDU (R374). XFER builds and sends a PDU from connection state words. -/
  | buildAndSendPdu (hdr : Bool) (data : Bool)
  /-- POST_IN_TRAY_ENTRY (R374). XFER posts an in-tray entry. -/
  | postInTrayEntry (hdr : Bool) (data : Bool)
  /-- POST_CORE_MESSAGE (R374). XFER posts a core message and raises CORE_MSG. -/
  | postCoreMessage (hdr : Bool) (data : Bool)
  /-- RELEASE_BAGS (R374). XFER releases bags. -/
  | releaseBags (hdr : Bool) (data : Bool)
  /-- PRE_LOAD (R372). LOAD starts the protocol microcode loader. -/
  | preLoad (ini : Initiator)
  /-- PRE_LOAD_DONE (R372). The protocol loader finishes, pass or fail. -/
  | preLoadDone
  /-- PRE_RUN (R406). RUN starts or stops the protocol engine. -/
  | preRun (ini : Initiator) (v : Bool)
  /-- PRE_CLR_PEAK (R406). CLR_PEAK clears PRE_PEAK. -/
  | preClrPeak (ini : Initiator)
  /-- GET_LOG_PAGE (R386). Get Log Page returns a supported log page. -/
  | getLogPage (serial : Nat)
  /-- IDENTIFY (R388). Identify returns controller or namespace data. -/
  | identify (serial : Nat)
  /-- ABORT (R404). Abort aborts a waiting command or reports it not aborted. -/
  | abort (serial : Nat)
  /-- SET_FEATURES (R385). Set Features sets a supported feature. -/
  | setFeatures (serial : Nat)
  /-- GET_FEATURES (R385). Get Features returns a feature value. -/
  | getFeatures (serial : Nat)
  /-- ASYNCHRONOUS_EVENT_REQUEST (R400). An Asynchronous Event Request is held outstanding or completed with a retained event. -/
  | asynchronousEventRequest (serial : Nat)
  /-- NAMESPACE_CREATE (R381). Namespace Management create makes a namespace within P. -/
  | namespaceCreate (serial : Nat)
  /-- NAMESPACE_DELETE (R381). Namespace Management delete discards parcels and clears the key slot. -/
  | namespaceDelete (serial : Nat)
  /-- FIRMWARE_COMMIT (R47). Firmware Commit writes the image to the other slot as a trial slot. -/
  | firmwareCommit (serial : Nat) (image : Area)
  /-- FIRMWARE_IMAGE_DOWNLOAD (R382). Firmware Image Download receives image data. -/
  | firmwareImageDownload (serial : Nat)
  /-- KEEP_ALIVE (R382). Keep Alive restarts the keep-alive timer. -/
  | keepAlive (serial : Nat)
  /-- FORMAT_NVM (R382). Format NVM unmaps a namespace or all, optionally replacing the key. -/
  | formatNvm (serial : Nat)
  /-- SANITIZE (R362). Sanitize runs crypto erase. -/
  | sanitize (serial : Nat) (upTo : Nat)
  /-- PROPERTY_SET (R382). Property Set writes a controller property. -/
  | propertySet (serial : Nat)
  /-- PROPERTY_GET (R382). Property Get returns a controller property. -/
  | propertyGet (serial : Nat)
  /-- CONNECT (R376). Connect creates an admin or I/O queue within the limits. -/
  | connect (serial : Nat)
  /-- DISCONNECT (R379). Disconnect ends the association. -/
  | disconnect (serial : Nat)
  /-- HEAD_SERVICE_REPORT (R384). Head Service reports a surface's retirement state. -/
  | headServiceReport (serial : Nat)
  /-- HEAD_SERVICE_RETIRE (R384). Head Service retires a head under trigger 6 unless refused. -/
  | headServiceRetire (serial : Nat)
  /-- HEAD_SERVICE_REINSTATE (R384). Head Service marks a head for reinstatement at the next cold start. -/
  | headServiceReinstate (serial : Nat)
  /-- SHELF_SERVICE_ENTER (R384). Shelf Service enter schedules shelf-hold entry. -/
  | shelfServiceEnter (serial : Nat)
  /-- SHELF_HOLD_DEPARTURE (R384). One hundred milliseconds after the enter completion associations end, heads unload and the spindle stops. -/
  | shelfHoldDeparture
  /-- SHELF_SERVICE_WAKE (R384). Shelf Service wake writes FRK_WAKE. -/
  | shelfServiceWake (serial : Nat)
  /-- DRIVE_FORMAT (R384). Drive Format sets layout, replaces keys, empties the map and fixes P. -/
  | driveFormat (serial : Nat)
  /-- FLUSH (R389). Flush completes within the admission bound. -/
  | flush (serial : Nat)
  /-- WRITE (R389). Write completes once its data is in the in-tray and marked for the flush. -/
  | write (serial : Nat)
  /-- READ (R391). Read returns the latest completed data from the in-tray or media. -/
  | read (serial : Nat) (media : List (Nat × Nat))
  /-- WRITE_ZEROES (R389). Write Zeroes writes zeros or discards with DEAC. -/
  | writeZeroes (serial : Nat)
  /-- DATASET_MANAGEMENT (R330). Dataset Management deallocate discards parcels. -/
  | datasetManagement (serial : Nat)
  /-- VERIFY (R397). Verify reads and checks without transfer. -/
  | verify (serial : Nat) (media : List (Nat × Nat))
  /-- RESERVATION_REGISTER (R383). Reservation Register registers a host. -/
  | reservationRegister (serial : Nat)
  /-- RESERVATION_REPORT (R383). Reservation Report returns reservation status. -/
  | reservationReport (serial : Nat)
  /-- RESERVATION_ACQUIRE (R383). Reservation Acquire acquires or preempts a reservation. -/
  | reservationAcquire (serial : Nat)
  /-- RESERVATION_RELEASE (R383). Reservation Release releases or clears a reservation. -/
  | reservationRelease (serial : Nat)
  /-- ZONE_OPEN (R383). Zone Management Send open opens a zone. -/
  | zoneOpen (serial : Nat)
  /-- ZONE_CLOSE (R383). Zone Management Send close closes a zone. -/
  | zoneClose (serial : Nat)
  /-- ZONE_FINISH (R324). Zone Management Send finish closes the band and keeps parcels mapped. -/
  | zoneFinish (serial : Nat)
  /-- ZONE_RESET (R324). Zone Management Send reset unmaps the zone and closes its band. -/
  | zoneReset (serial : Nat)
  /-- ZONE_MANAGEMENT_RECEIVE (R383). Zone Management Receive reports zones. -/
  | zoneManagementReceive (serial : Nat)
  /-- ZONE_APPEND (R389). Zone Append writes at the write pointer up to 1 MiB. -/
  | zoneAppend (serial : Nat)
  /-- STORE (R327). Store puts a key-value pair, committed whole. -/
  | store (serial : Nat)
  /-- RETRIEVE (R391). Retrieve returns a value. -/
  | retrieve (serial : Nat) (at_ : Option Nat)
  /-- LIST (R383). List returns keys. -/
  | list (serial : Nat)
  /-- DELETE (R327). Delete removes a key and frees its value. -/
  | delete (serial : Nat)
  /-- EXIST (R383). Exist reports whether a key exists. -/
  | exist (serial : Nat)
  /-- READ_NVME_MI_DATA_STRUCTURE (R402). NVMe-MI returns a data structure. -/
  | readNvmeMiDataStructure (kind : Nat) (id : Nat)
  /-- NVM_SUBSYSTEM_HEALTH_STATUS_POLL (R402). NVMe-MI returns subsystem health. -/
  | nvmSubsystemHealthStatusPoll
  /-- CONTROLLER_HEALTH_STATUS_POLL (R402). NVMe-MI returns controller health. -/
  | controllerHealthStatusPoll
  /-- CONFIGURATION_GET (R402). NVMe-MI returns the SMBus frequency configuration. -/
  | configurationGet
  /-- CONFIGURATION_SET (R402). NVMe-MI sets the SMBus frequency. -/
  | configurationSet (code : Nat)
  /-- VPD_READ (R402). NVMe-MI returns vital product data. -/
  | vpdRead (off : Nat) (n : Nat)
  /-- BPM_ALLOC (R409). A read of BPM_ALLOCn takes a bag handle or returns none. -/
  | bpmAlloc (ini : Initiator) (n : Nat) (pick : Nat)
  /-- BPM_RELEASE (R410). A handle written to BPM_RELEASE drops an owner, freeing the bag at zero. -/
  | bpmRelease (ini : Initiator) (h : Nat)
  /-- BPM_SHARE (R410). A handle written to BPM_SHARE adds an owner. -/
  | bpmShare (ini : Initiator) (h : Nat)
  /-- PHC_FLUSH (R416). FLUSH writes back every dirty pigeonhole line. -/
  | phcFlush (ini : Initiator)
  /-- PHC_WINDOW_WRITE (R416). A PHC_WINn write changes a window's policy, or is refused with dirty lines. -/
  | phcWindowWrite (ini : Initiator) (n : Nat) (lim : Bool) (v : Nat)
  /-- DMA_TAIL_WRITE (R418). Firmware advances a carrier channel's tail to hand dockets to the engine. -/
  | dmaTailWrite (ini : Initiator) (c : Nat) (tail : Nat)
  /-- COPY (R417). A docket copies LENGTH bytes from source to destination. -/
  | copy (c : Nat) (errs : List EccErr) (fab : Fabric)
  /-- FILL (R417). A docket fills the destination with a pattern. -/
  | fill (c : Nat) (fab : Fabric)
  /-- COPY_AND_WRITE_CRC (R417). A docket copies and writes the data's CRC-32C. -/
  | copyAndWriteCrc (c : Nat) (errs : List EccErr) (fab : Fabric)
  /-- COPY_AND_CHECK_CRC (R417). A docket copies and checks the data's CRC-32C. -/
  | copyAndCheckCrc (c : Nat) (errs : List EccErr) (fab : Fabric)
  /-- DMA_RESUME (R419). RESUME continues a stopped channel after its failed docket. -/
  | dmaResume (ini : Initiator) (c : Nat)
  /-- DMA_STOP (R419). STOP ends the docket in progress and every queued docket with status 0x06. -/
  | dmaStop (ini : Initiator) (c : Nat) (moved : Nat)
  /-- DRAM_SCRUB_READ (R423). The scrubber reads a DRAM block, at least every SCRUB_INT. -/
  | dramScrubRead (errs : List EccErr)
  /-- SLIP_TABLE_SAVE (R422). The slip table is saved to the strongroom within 1 s of an allocation. -/
  | slipTableSave
  /-- NAND_QTAIL_WRITE (R427). Firmware advances NQTAIL to post NAND commands. -/
  | nandQtailWrite (ini : Initiator) (tail : Nat)
  /-- NAND_READ (R427). A NAND read command reads pages with read retries. -/
  | nandRead (k : Nat) (shifted : Bool) (maxBits : Nat) (busErr : Bool)
  /-- NAND_PROGRAM (R427). A NAND program command writes pages, replacing a failed block. -/
  | nandProgram (k : Nat) (die : Nat) (fails : Bool) (busErr : Bool)
  /-- NAND_ERASE (R427). A NAND erase command erases a block, replacing a failed block. -/
  | nandErase (k : Nat) (die : Nat) (fails : Bool) (busErr : Bool)
  /-- SENSOR_BROKEN (R436). A temperature sensor fails a range, stuck or disagreement count and is judged broken. -/
  | sensorBroken (n : Nat)
  /-- TRIP_DIODE_BROKEN (R436). A trip diode reads open or short, or disagrees, and is judged broken. -/
  | tripDiodeBroken (n : Nat)
  /-- THROTTLE_STEP (R440). THR_UP or THR_DOWN elapses and STEP rises or falls by one. -/
  | throttleStep
  /-- THERMAL_SHUTDOWN (R441). J reaches SHUT; a grave shutdown unloads, stops and powers off the drive. -/
  | thermalShutdown
  /-- HARDWARE_TRIP (R442). A trip diode crosses 120 °C and raises the thermal shutdown in hardware. -/
  | hardwareTrip (n : Nat) (temp : Int)
  /-- THERMAL_RESTART (R441). At least 60 s after shutdown with J cool, the supervisor restarts from step 1 of R49. -/
  | thermalRestart (facts : StartFacts)
  /-- THM_CLR_MINMAX (R460). CLR_MINMAX restarts the least and greatest readings. -/
  | thmClrMinmax (ini : Initiator)
  /-- CORE_FAULT (R30). A core machine check fences the core and the relief core takes over its work. -/
  | coreFault (n : Nat)
  /-- FLT_DONE (R448). Firmware completes a fault as absorbed or raised and the next held fault is delivered. -/
  | fltDone (ini : Initiator) (up : Bool) (p : Nat)
  /-- FAULT_HANDLER_TIMEOUT (R448). A level-4 or level-5 handler exceeds TMO4 or TMO5 and the fault is raised. -/
  | faultHandlerTimeout
  /-- FLT_CAP_DATA_READ (R461). A read of FLT_CAP_DATA returns a capture word and advances the address. -/
  | fltCapDataRead (ini : Initiator)
  /-- FAULT_INJECTION_ARM (R450). FLT_INJ_CTRL with ARM arms an inverted-check-bit injection, refused outside normal phase. -/
  | faultInjectionArm (ini : Initiator) (target : Nat) (bits : Nat) (sticky : Bool)
  /-- FAULT_INJECTION_DISARM (R450). ARM cleared rewrites the address with good check bits and releases any slip. -/
  | faultInjectionDisarm (ini : Initiator)
  /-- LDG_COMMIT (R451). A commit stages a ledger record with SEQ and stamps, or drops it when full. -/
  | ldgCommit (core : Nat)
  /-- LEDGER_FREEZE (R454). FREEZE marks every valid staged record frozen. -/
  | ledgerFreeze (ini : Initiator)
  /-- LEDGER_UNFREEZE (R454). UNFREEZE returns frozen places to use. -/
  | ledgerUnfreeze (ini : Initiator)
  /-- LDG_STAGE_DATA_READ (R462). A read of LDG_STAGE_DATA returns a staged word and advances the address. -/
  | ldgStageDataRead (ini : Initiator)
  /-- LDG_VALUE_WRITE (R462). Firmware writes next SEQ, power-on time or start count, ignored after the first commit. -/
  | ldgValueWrite (ini : Initiator) (k : Nat) (v : Nat)
  /-- PREAMP_FAULT_CLEAR (R212). PA_FLT_N rises again, ending the arm driver's own write inhibit and the standing preamp fault. -/
  | preampFaultClear (x : Act)
  /-- SHORT_BRAKE_QUIET (R231). After short braking at start, 200 ms pass with no comparator change and the loop aligns. -/
  | shortBrakeQuiet
  /-- CATCH_COAST_END (R237). The 2 ms coast after an observer loss, or between failed catches, ends and a catch attempt begins. -/
  | catchCoastEnd
  /-- LLC_IDLE (R251). The drive bus crosses 24.5 V, and the LLC stops or resumes switching with LLC_IDLE following. -/
  | llcIdle (mv : Nat)
  /-- KERREX_FRAME_DISCARD (R283). A Kerrex frame that fails its CRC, length, type, DST or slot test is discarded and counted in CRC_ERRORS. -/
  | kerrexFrameDiscard (f : List Nat) (inSlot : Bool) (explained : Bool)
  /-- FRAME_DROPPED (R369). An Ethernet frame of another VLAN, a PAUSE frame, a bad-FCS frame or a forbidden IP packet is dropped and counted. -/
  | frameDropped (p : Prt) (why : FrameFault)
  /-- INVALID_PDU_TYPE (R373). A PDU whose dispatch key has VALID 0 terminates its connection with a C2HTermReq. -/
  | invalidPduType (conn : Nat) (key : Nat)
  /-- THERMAL_SHUTDOWN_DEFER_END (R270). One second after the warning, a thermal shutdown deferred during the flush is released and proceeds. -/
  | thermalShutdownDeferEnd
  deriving DecidableEq, Repr

end Sys2Proof
end

