-- ==== Sys2Proof/Decode.lean ====
section
/-!
DEFINITION. The commands that words spell by the table's bits. The rows of spec/opcode_table.json give no bits: its commands are register
writes, messages, frames and events, and none is fetched as a word (log 2).
-/
namespace Sys2Proof

/-- The command that a word spells by the table's bits: no row gives any. -/
def decodeTableWord (_nbits _w : Nat) : Option Instr := none

end Sys2Proof
end

