-- ==== Sys2Proof/Config.lean ====
section
/-!
DEFINITION. What the spec leaves open: the free values. Each is a constant with no body, so that nothing can be proved of
its value; a log entry names each.
-/
namespace Sys2Proof.Config

/-- A fresh random 512-bit media key for a slot, by the number of keys generated before (R361). -/
opaque randomKey : Nat → Nat

/-- The error of SIN (false) and COS (true) at an angle, in units of 2^-30; the ALU keeps it within 2^-24 (R171). -/
opaque trigError : Bool → Nat → Int

/-- What the operand IN reads in a microword that reads no port, by the cycles since the engine ran (R166). -/
opaque openIn : Nat → Nat

/-- The entry a LOOKUP returns for an LPN that it refuses (R337). -/
opaque refusedEntry : Nat → Nat

/-- The two candidate buckets of a key of a key-value store, modulo 2^25 (R325): the spec names no function. -/
opaque bucket : Bool → Nat → Nat

/-- The spare SRAM rows of an array at manufacture, by its number (R23, R24): the spec gives no count. -/
opaque sramRows : Nat → Nat

/-- The vital product data by byte (R402): the spec gives no content. -/
opaque vpd : Nat → Nat

/-- The estimated seconds to the end of a rebuild by the units left and the units done (R366): the spec gives no estimate. -/
opaque rebuildSeconds : Nat → Nat → Nat

/-- The fields of SMART/Health that the spec says nothing of, by their offset and the power-on time in ms (R386): Percentage Used,
Controller Busy Time and Unsafe Shutdowns. -/
opaque smart : Nat → Nat → Nat

/-- The spare tracks of a first-class area at format (R309): 2 % of its tracks, of which the spec gives no number. -/
opaque fcSpares : Nat → Nat

/-- The four parity bits of a wedge by its index and track number (R193): the spec gives their number and no code. -/
opaque servoParity : Nat → Nat → Nat

/-- The fraction of a track, in 2^-16, that the two null bursts of a wedge give (R194), and whether they are good: the spec gives no formula. -/
opaque burstFraction : Int → Int → Nat
opaque burstGood : Int → Int → Bool

/-- The current in 2^-16 A that a loop's profile and control law ask for before the feed-forward (R202, R208), and the drive of its
microactuator (R210), by the actuator, the tick, the position error in 2^-16 track and the coefficient set (R200): the spec gives no law. -/
opaque loopCurrent : Nat → Nat → Int → Nat → Int
opaque microDrive : Nat → Nat → Int → Nat → Int

/-- The spindle slice's control (R226 to R233), of which the spec gives no formula: the phase inductance in nH; the phase-locked loop's angle and
speed by those before and the back-EMF; the quadrature current the speed loop asks for, by the tick, the stop's method, the set and the measured
speed; the voltages of the current loops by the tick and the two errors; the direct current of field weakening by the tick, the vector needed
and its limit; the longest voltage vector by the bus and the duty limit; and the duty of a phase by the vector and the bus. -/
opaque phaseInductance : Nat
opaque pll : Nat → Int → Int → Int → Nat × Int
opaque speedLoop : Nat → Nat → Nat → Nat → Int
opaque currentLoop : Nat → Int → Int → Int × Int
opaque fieldCurrent : Nat → Nat → Nat → Nat
opaque vectorLimit : Nat → Nat → Nat
opaque phaseDuty : Nat → Int → Int → Nat → Nat

/-- The electrical angle at which the comparators of the back-EMF come to a pattern (R230): the spec does not say where they change. -/
opaque changeAngle : Nat → Nat

/-- What the normalised min-sum decoder makes of a magnitude of a message (R102): the spec gives no factor. -/
opaque minSum : Nat → Nat

/-- The filter of the fractional interpolator (R95): the sample at so many 1/64 T past one, by the samples from that one back. -/
opaque interpolate : Nat → List Int → Int

/-- The feedthrough canceller (R96): a trailing sample without the feedthrough of the write data being sent, by the data's bits up to it. -/
opaque cancel : List Bool → Int → Int

/-- What one unit of the target is in units of a sample (R98): the spec gives the target's shape and no amplitude. -/
opaque targetUnit : Nat

/-- The framing detector's decision on a sample (R100), by the target in 1/64 and the four decisions before, newest first: the spec names the
detector and no rule of it. -/
opaque tentative : List Int → List Bool → Int → Bool

/-- What a product of error and sample is worth to a tap in 2^-22, before the step (R99): the spec gives the steps and no unit. -/
opaque lmsUnit : Nat

/-- What a unit of an extrinsic value is worth to the detector's costs (R104): the spec gives no unit. -/
opaque priorUnit : Nat

/-- The magnitude of an LLR by that of its metric difference (R100): the spec gives the number of bits and no scale. -/
opaque llrScale : Nat → Nat

/-- The gain of the amplifier after it has adapted over a sector with a loop gain, in 0.25 dB steps (R94), by the gain before. -/
opaque vgaAdapt : Nat → Nat → List Int → Nat

/-- The bytes of a journal record's body (R332), by its TYPE, its triples, its first-class descriptors and its areas: the spec gives the header
and what a body holds, and no layout of it. -/
opaque recordBody : Nat → Nat → Nat → Nat → Nat

end Sys2Proof.Config
end

