-- ==== Sys2Proof/Machine/RegMap.lean ====
section
/-!
DEFINITION. The register map: every field of every register table of the spec (R13, R31, R91, R134, R135, R157, R158,
R190, R219, R247, R271, R272, R296, R337, R364, R405 to R407, R430 to R434, R460 to R462, R476), with its address, its
bits, its access code (R8) and its reset value (R10). The names are the spec's, REGISTER_FIELD. The rows of each block,
which the bus uses to find the fields at an address, stand beside them.
-/
namespace Sys2Proof

/-- The base of the register block of an actuator's lane (R13). -/
def Act.laneBase (x : Act) : Nat := 0x40100000 + 0x10000 * x.n

/-- The base of the register block of an actuator's arm driver (R13). -/
def Act.armBase (x : Act) : Nat := 0x40210000 + 0x10000 * x.n

/-- The base of a port's register block (R13). -/
def Prt.base (p : Prt) : Nat := 0x40500000 + 0x10000 * p.n

end Sys2Proof

namespace Sys2Proof.Reg

/-- The surface of consignment position `k` after a cold start of the VK-432M (R364, position map reset values). -/
def posmapResetS (k : Nat) : Nat := 8 * (k / 4 % 4) + 4 * (k / 16) + k % 4

/-- Whether consignment position `k` is used after a cold start of the VK-432M (R364). -/
def posmapResetU (_ : Nat) : Nat := 1

/-- The row of a register table: a field that recurs `count` times (1 where it stands once), `stride` bytes apart. -/
structure Row where
  off : Nat
  stride : Nat
  count : Nat
  hi : Nat
  lo : Nat
  acc : Acc
  rst : Nat
  deriving DecidableEq, Repr

-- SYS_IDENT (R31, 01_module_drive_and_shelf.md)
def SYS_IDENT_DIE_REV : Fld := ⟨0x40000000, 31, 24, .ro, 1⟩
def SYS_IDENT_VARIANT : Fld := ⟨0x40000000, 23, 20, .ro, 4⟩
def SYS_IDENT_LANES : Fld := ⟨0x40000000, 19, 16, .ro, 4⟩
def SYS_IDENT_ACTUATORS : Fld := ⟨0x40000000, 15, 12, .ro, 4⟩
def SYS_IDENT_SLOT_ID : Fld := ⟨0x40000000, 11, 6, .ro, 0⟩
def SYS_IDENT_PRESENT : Fld := ⟨0x40000000, 5, 5, .ro, 0⟩
-- SYS_SPARES (R31, 01_module_drive_and_shelf.md)
def SYS_SPARES_CORE_MAP : Fld := ⟨0x40000004, 28, 24, .ro, 15⟩
def SYS_SPARES_RELIEF_FREE : Fld := ⟨0x40000004, 23, 23, .ro, 1⟩
def SYS_SPARES_DEC_HALVES : Fld := ⟨0x40000004, 22, 21, .ro, 3⟩
def SYS_SPARES_PMK_STREAMS : Fld := ⟨0x40000004, 20, 17, .ro, 0⟩
def SYS_SPARES_SPARE_LEG : Fld := ⟨0x40000004, 16, 15, .ro, 0⟩
def SYS_SPARES_SLIPS_FREE : Fld := ⟨0x40000004, 14, 10, .ro, 16⟩
def SYS_SPARES_SPARE_LOW : Fld := ⟨0x40000004, 9, 9, .rs, 0⟩
-- SYS_SEAL_CTRL (R476, 02_passport_start_and_sealed_settings.md)
def SYS_SEAL_CTRL_CMD : Fld := ⟨0x40000010, 2, 0, .wo, 0⟩
-- SYS_SEAL_STATUS (R476, 02_passport_start_and_sealed_settings.md)
def SYS_SEAL_STATUS_STATE : Fld := ⟨0x40000014, 31, 28, .ro, 0⟩
def SYS_SEAL_STATUS_OWNER : Fld := ⟨0x40000014, 27, 25, .ro, 0⟩
def SYS_SEAL_STATUS_LATE : Fld := ⟨0x40000014, 24, 24, .w1c, 0⟩
def SYS_SEAL_STATUS_RULE : Fld := ⟨0x40000014, 23, 16, .ro, 0⟩
def SYS_SEAL_STATUS_WRITES : Fld := ⟨0x40000014, 8, 0, .ro, 0⟩
-- SYS_SEAL_TICK (R476, 02_passport_start_and_sealed_settings.md)
def SYS_SEAL_TICK_TARGET : Fld := ⟨0x40000018, 31, 0, .rw, 0⟩
-- SYS_SEAL_POSTED (R476, 02_passport_start_and_sealed_settings.md)
def SYS_SEAL_POSTED_POSTED_TICK : Fld := ⟨0x4000001C, 31, 0, .ro, 0⟩
-- SYS_BOOT (R58, 02_passport_start_and_sealed_settings.md)
def SYS_BOOT_RESET_CAUSE : Fld := ⟨0x40000020, 27, 24, .ro, 0⟩
def SYS_BOOT_SLOT : Fld := ⟨0x40000020, 23, 23, .ro, 0⟩
def SYS_BOOT_FELLBACK : Fld := ⟨0x40000020, 22, 22, .ro, 0⟩
def SYS_BOOT_MODE : Fld := ⟨0x40000020, 21, 20, .ro, 0⟩
def SYS_BOOT_REJECT_REASON : Fld := ⟨0x40000020, 19, 16, .ro, 0⟩
def SYS_BOOT_BOOT_MS : Fld := ⟨0x40000020, 15, 0, .ro, 0⟩
-- PMK_CTRL (R91, 03_postmark_time_base_and_tick.md)
def PMK_CTRL_STREAM_EN : Fld := ⟨0x40010000, 7, 4, .rw, 15⟩
def PMK_CTRL_DEGRADE_OK : Fld := ⟨0x40010000, 3, 3, .rw, 1⟩
def PMK_CTRL_HEAD_B_LOAD : Fld := ⟨0x40010000, 2, 2, .rw, 0⟩
def PMK_CTRL_HEAD_A_LOAD : Fld := ⟨0x40010000, 1, 1, .rw, 0⟩
def PMK_CTRL_ENABLE : Fld := ⟨0x40010000, 0, 0, .rw, 0⟩
-- PMK_STATUS (R91, 03_postmark_time_base_and_tick.md)
def PMK_STATUS_STATE : Fld := ⟨0x40010004, 31, 29, .ro, 0⟩
def PMK_STATUS_VALID : Fld := ⟨0x40010004, 28, 25, .ro, 0⟩
def PMK_STATUS_TRACKING : Fld := ⟨0x40010004, 24, 21, .ro, 0⟩
def PMK_STATUS_PARK_A : Fld := ⟨0x40010004, 20, 20, .ro, 1⟩
def PMK_STATUS_PARK_B : Fld := ⟨0x40010004, 19, 19, .ro, 1⟩
def PMK_STATUS_ACQ_TIMEOUT : Fld := ⟨0x40010004, 18, 18, .w1c, 0⟩
def PMK_STATUS_ALL_LOST : Fld := ⟨0x40010004, 17, 17, .w1c, 0⟩
def PMK_STATUS_RAMP_FAULT : Fld := ⟨0x40010004, 16, 16, .w1c, 0⟩
-- PMK_ANGLE (R91, 03_postmark_time_base_and_tick.md)
def PMK_ANGLE_CYCLE : Fld := ⟨0x40010008, 31, 12, .ro, 0⟩
def PMK_ANGLE_FRAC : Fld := ⟨0x40010008, 11, 0, .ro, 0⟩
-- PMK_REV (R91, 03_postmark_time_base_and_tick.md)
def PMK_REV_REV_PERIOD : Fld := ⟨0x4001000C, 23, 0, .ro, 0⟩
-- PMK_DROPS (R91, 03_postmark_time_base_and_tick.md)
def PMK_DROPS_DROPS_3 : Fld := ⟨0x40010010, 31, 24, .ro, 0⟩
def PMK_DROPS_DROPS_2 : Fld := ⟨0x40010010, 23, 16, .ro, 0⟩
def PMK_DROPS_DROPS_1 : Fld := ⟨0x40010010, 15, 8, .ro, 0⟩
def PMK_DROPS_DROPS_0 : Fld := ⟨0x40010010, 7, 0, .ro, 0⟩
-- PMK_TICKCFG (R91, 03_postmark_time_base_and_tick.md)
def PMK_TICKCFG_WEDGES : Fld := ⟨0x40010040, 9, 0, .st, 420⟩
-- PMK_WEDGE0 (R91, 03_postmark_time_base_and_tick.md)
def PMK_WEDGE0_CYCLE : Fld := ⟨0x40010044, 31, 12, .st, 0⟩
def PMK_WEDGE0_FRAC : Fld := ⟨0x40010044, 11, 0, .st, 0⟩
-- PMK_HEADB_OFS (R91, 03_postmark_time_base_and_tick.md)
def PMK_HEADB_OFS_CYCLE : Fld := ⟨0x40010048, 31, 12, .st, 524288⟩
def PMK_HEADB_OFS_FRAC : Fld := ⟨0x40010048, 11, 0, .st, 0⟩
-- PMK_INNER_OFS (R91, 03_postmark_time_base_and_tick.md)
def PMK_INNER_OFS_CYCLE : Fld := ⟨0x4001004C, 31, 12, .st, 262144⟩
def PMK_INNER_OFS_FRAC : Fld := ⟨0x4001004C, 11, 0, .st, 0⟩
-- PMK_AMP (R91, 03_postmark_time_base_and_tick.md)
def PMK_AMP_BIAS : Fld := ⟨0x40010050, 15, 8, .st, 150⟩
def PMK_AMP_AMP_MIN : Fld := ⟨0x40010050, 7, 0, .st, 20⟩
-- TCK_CTRL (R91, 03_postmark_time_base_and_tick.md)
def TCK_CTRL_CLR_PEAK : Fld := ⟨0x40020000, 2, 2, .wo, 0⟩
def TCK_CTRL_FORCE_FREE : Fld := ⟨0x40020000, 1, 1, .rw, 0⟩
def TCK_CTRL_HANDOVER_EN : Fld := ⟨0x40020000, 0, 0, .rw, 1⟩
-- TCK_STATUS (R91, 03_postmark_time_base_and_tick.md)
def TCK_STATUS_SRC : Fld := ⟨0x40020004, 31, 30, .ro, 0⟩
def TCK_STATUS_WR_HOLD : Fld := ⟨0x40020004, 29, 29, .ro, 1⟩
def TCK_STATUS_PHASE_ERR : Fld := ⟨0x40020004, 15, 0, .ro, 0⟩
-- TCK_COUNT_LO (R91, 03_postmark_time_base_and_tick.md)
def TCK_COUNT_LO_COUNT_LO : Fld := ⟨0x40020008, 31, 0, .ro, 0⟩
-- TCK_COUNT_HI (R91, 03_postmark_time_base_and_tick.md)
def TCK_COUNT_HI_COUNT_HI : Fld := ⟨0x4002000C, 31, 0, .ro, 0⟩
-- TCK_PEAK (R91, 03_postmark_time_base_and_tick.md)
def TCK_PEAK_PEAK_CYCLES : Fld := ⟨0x40020010, 15, 0, .ro, 0⟩
-- TCK_OVERRUN (R91, 03_postmark_time_base_and_tick.md)
def TCK_OVERRUN_INJECT : Fld := ⟨0x40020014, 16, 16, .w1c, 0⟩
def TCK_OVERRUN_THERM : Fld := ⟨0x40020014, 15, 15, .w1c, 0⟩
def TCK_OVERRUN_FRANK : Fld := ⟨0x40020014, 14, 14, .w1c, 0⟩
def TCK_OVERRUN_GOV : Fld := ⟨0x40020014, 13, 13, .w1c, 0⟩
def TCK_OVERRUN_LOAD : Fld := ⟨0x40020014, 12, 9, .w1c, 0⟩
def TCK_OVERRUN_MICRO : Fld := ⟨0x40020014, 8, 5, .w1c, 0⟩
def TCK_OVERRUN_SERVO : Fld := ⟨0x40020014, 4, 1, .w1c, 0⟩
def TCK_OVERRUN_SPIN : Fld := ⟨0x40020014, 0, 0, .w1c, 0⟩
-- TCK_FREE_PERIOD (R91, 03_postmark_time_base_and_tick.md)
def TCK_FREE_PERIOD_INT : Fld := ⟨0x40020040, 31, 16, .st, 1000⟩
def TCK_FREE_PERIOD_FRAC : Fld := ⟨0x40020040, 15, 0, .st, 0⟩
-- TCK_ALLOC_SPN (R91, 03_postmark_time_base_and_tick.md)
def TCK_ALLOC_SPN_INJECT_Q : Fld := ⟨0x40020044, 19, 10, .st, 250⟩
def TCK_ALLOC_SPN_SPIN_Q : Fld := ⟨0x40020044, 9, 0, .st, 450⟩
-- TCK_ALLOC_SYS (R91, 03_postmark_time_base_and_tick.md)
def TCK_ALLOC_SYS_THERM_Q : Fld := ⟨0x40020048, 29, 20, .st, 150⟩
def TCK_ALLOC_SYS_FRANK_Q : Fld := ⟨0x40020048, 19, 10, .st, 100⟩
def TCK_ALLOC_SYS_GOV_Q : Fld := ⟨0x40020048, 9, 0, .st, 300⟩
-- TCK_ALLOC (R91, 03_postmark_time_base_and_tick.md)
def TCK_ALLOC_LOAD_Q (n : Nat) : Fld := ⟨0x40020000 + 0x50 + 4 * n, 29, 20, .st, 150⟩
def TCK_ALLOC_MICRO_Q (n : Nat) : Fld := ⟨0x40020000 + 0x50 + 4 * n, 19, 10, .st, 300⟩
def TCK_ALLOC_SERVO_Q (n : Nat) : Fld := ⟨0x40020000 + 0x50 + 4 * n, 9, 0, .st, 350⟩
-- CH_CTRL (R134, 04_read_write_lanes_and_sector_framing.md)
def CH_CTRL_HEAD_EN (x : Act) : Fld := ⟨x.laneBase + 0x0, 31, 24, .rw, 255⟩
def CH_CTRL_ABORT (x : Act) : Fld := ⟨x.laneBase + 0x0, 2, 2, .wo, 0⟩
def CH_CTRL_WRITE_EN (x : Act) : Fld := ⟨x.laneBase + 0x0, 1, 1, .rw, 0⟩
def CH_CTRL_ENABLE (x : Act) : Fld := ⟨x.laneBase + 0x0, 0, 0, .rw, 0⟩
-- CH_STATUS (R134, 04_read_write_lanes_and_sector_framing.md)
def CH_STATUS_STATE (x : Act) : Fld := ⟨x.laneBase + 0x4, 31, 29, .ro, 0⟩
def CH_STATUS_HEAD (x : Act) : Fld := ⟨x.laneBase + 0x4, 28, 26, .ro, 0⟩
def CH_STATUS_ZONE (x : Act) : Fld := ⟨x.laneBase + 0x4, 25, 20, .ro, 0⟩
def CH_STATUS_WR_GATE (x : Act) : Fld := ⟨x.laneBase + 0x4, 19, 19, .ro, 0⟩
def CH_STATUS_ON_TRACK (x : Act) : Fld := ⟨x.laneBase + 0x4, 18, 18, .ro, 0⟩
def CH_STATUS_STORE_USED (x : Act) : Fld := ⟨x.laneBase + 0x4, 17, 12, .ro, 0⟩
def CH_STATUS_SECTOR (x : Act) : Fld := ⟨x.laneBase + 0x4, 11, 0, .ro, 0⟩
-- CH_Q_BASE_LO (R134, 04_read_write_lanes_and_sector_framing.md)
def CH_Q_BASE_LO_BASE_LO (x : Act) : Fld := ⟨x.laneBase + 0x10, 31, 13, .rw, 0⟩
-- CH_Q_BASE_HI (R134, 04_read_write_lanes_and_sector_framing.md)
def CH_Q_BASE_HI_BASE_HI (x : Act) : Fld := ⟨x.laneBase + 0x14, 31, 0, .rw, 0⟩
-- CH_C_BASE_HI (R134, 04_read_write_lanes_and_sector_framing.md)
def CH_C_BASE_HI_BASE_HI (x : Act) : Fld := ⟨x.laneBase + 0x24, 31, 0, .rw, 0⟩
-- CH_Q_PTR (R134, 04_read_write_lanes_and_sector_framing.md)
def CH_Q_PTR_QHEAD (x : Act) : Fld := ⟨x.laneBase + 0x18, 24, 16, .ro, 0⟩
def CH_Q_PTR_QTAIL (x : Act) : Fld := ⟨x.laneBase + 0x18, 8, 0, .rw, 0⟩
-- CH_C_BASE_LO (R134, 04_read_write_lanes_and_sector_framing.md)
def CH_C_BASE_LO_BASE_LO (x : Act) : Fld := ⟨x.laneBase + 0x20, 31, 12, .rw, 0⟩
-- CH_C_PTR (R134, 04_read_write_lanes_and_sector_framing.md)
def CH_C_PTR_CTAIL (x : Act) : Fld := ⟨x.laneBase + 0x28, 24, 16, .ro, 0⟩
def CH_C_PTR_CHEAD (x : Act) : Fld := ⟨x.laneBase + 0x28, 8, 0, .rw, 0⟩
-- CH_INT (R134, 04_read_write_lanes_and_sector_framing.md)
def CH_INT_Q_OVF (x : Act) : Fld := ⟨x.laneBase + 0x30, 3, 3, .w1c, 0⟩
def CH_INT_ENTRY_ERR (x : Act) : Fld := ⟨x.laneBase + 0x30, 2, 2, .w1c, 0⟩
def CH_INT_STORE_FULL (x : Act) : Fld := ⟨x.laneBase + 0x30, 1, 1, .w1c, 0⟩
def CH_INT_CMPL (x : Act) : Fld := ⟨x.laneBase + 0x30, 0, 0, .w1c, 0⟩
-- CH_INT_EN (R134, 04_read_write_lanes_and_sector_framing.md)
def CH_INT_EN_Q_OVF (x : Act) : Fld := ⟨x.laneBase + 0x34, 3, 3, .rw, 0⟩
def CH_INT_EN_ENTRY_ERR (x : Act) : Fld := ⟨x.laneBase + 0x34, 2, 2, .rw, 0⟩
def CH_INT_EN_STORE_FULL (x : Act) : Fld := ⟨x.laneBase + 0x34, 1, 1, .rw, 0⟩
def CH_INT_EN_CMPL (x : Act) : Fld := ⟨x.laneBase + 0x34, 0, 0, .rw, 0⟩
-- CH_COUNTS (R134, 04_read_write_lanes_and_sector_framing.md)
def CH_COUNTS_LOST_REVS (x : Act) : Fld := ⟨x.laneBase + 0x38, 31, 16, .ro, 0⟩
def CH_COUNTS_SYNC_FALLBACK (x : Act) : Fld := ⟨x.laneBase + 0x38, 15, 0, .ro, 0⟩
-- CH_AFE (R134, 04_read_write_lanes_and_sector_framing.md)
def CH_AFE_ADC_FS (x : Act) : Fld := ⟨x.laneBase + 0x40, 23, 16, .st, 80⟩
def CH_AFE_VGA_LOOP (x : Act) : Fld := ⟨x.laneBase + 0x40, 15, 12, .st, 6⟩
-- CH_EQ (R134, 04_read_write_lanes_and_sector_framing.md)
def CH_EQ_MU_EQ (x : Act) : Fld := ⟨x.laneBase + 0x44, 11, 8, .st, 10⟩
def CH_EQ_MU_TGT (x : Act) : Fld := ⟨x.laneBase + 0x44, 7, 4, .st, 12⟩
def CH_EQ_TGT_ADAPT_EN (x : Act) : Fld := ⟨x.laneBase + 0x44, 1, 1, .st, 1⟩
def CH_EQ_ADAPT_EN (x : Act) : Fld := ⟨x.laneBase + 0x44, 0, 0, .st, 1⟩
-- CH_ITER (R134, 04_read_write_lanes_and_sector_framing.md)
def CH_ITER_FP_GLOBAL (x : Act) : Fld := ⟨x.laneBase + 0x48, 15, 8, .st, 2⟩
def CH_ITER_FP_LOCAL (x : Act) : Fld := ⟨x.laneBase + 0x48, 7, 0, .st, 6⟩
-- CH_SYNC (R134, 04_read_write_lanes_and_sector_framing.md)
def CH_SYNC_FALLBACK_EN (x : Act) : Fld := ⟨x.laneBase + 0x4C, 4, 4, .st, 1⟩
def CH_SYNC_SYNC_TOL (x : Act) : Fld := ⟨x.laneBase + 0x4C, 3, 2, .st, 2⟩
def CH_SYNC_RESYNC_TOL (x : Act) : Fld := ⟨x.laneBase + 0x4C, 1, 0, .st, 1⟩
-- CH_HTR (R134, 04_read_write_lanes_and_sector_framing.md)
def CH_HTR_HTR_LEAD (x : Act) : Fld := ⟨x.laneBase + 0x50, 15, 0, .st, 200⟩
-- CH_SKEW (R134, 04_read_write_lanes_and_sector_framing.md)
def CH_SKEW_TEMP_AT (x : Act) (n : Nat) : Fld := ⟨x.laneBase + 0x60 + 4 * n, 31, 24, .ro, 0⟩
def CH_SKEW_SKEW (x : Act) (n : Nat) : Fld := ⟨x.laneBase + 0x60 + 4 * n, 15, 0, .ro, 0⟩
-- DEC_CTRL (R135, 04_read_write_lanes_and_sector_framing.md)
def DEC_CTRL_HALF1_EN : Fld := ⟨0x40140000, 1, 1, .rw, 1⟩
def DEC_CTRL_HALF0_EN : Fld := ⟨0x40140000, 0, 0, .rw, 1⟩
-- DEC_STATUS (R135, 04_read_write_lanes_and_sector_framing.md)
def DEC_STATUS_RS_USED : Fld := ⟨0x40140004, 31, 23, .ro, 0⟩
def DEC_STATUS_FP_WAITING : Fld := ⟨0x40140004, 15, 8, .ro, 0⟩
def DEC_STATUS_FAULT : Fld := ⟨0x40140004, 3, 2, .rs, 0⟩
def DEC_STATUS_IN_SERVICE : Fld := ⟨0x40140004, 1, 0, .ro, 3⟩
-- DEC_RS_BASE_LO (R135, 04_read_write_lanes_and_sector_framing.md)
def DEC_RS_BASE_LO_BASE_LO : Fld := ⟨0x40140008, 31, 16, .rw, 0⟩
-- DEC_RS_BASE_HI (R135, 04_read_write_lanes_and_sector_framing.md)
def DEC_RS_BASE_HI_BASE_HI : Fld := ⟨0x4014000C, 31, 0, .rw, 0⟩
-- DEC_UNITS (R135, 04_read_write_lanes_and_sector_framing.md)
def DEC_UNITS_UNITS (n : Nat) : Fld := ⟨0x40140000 + 0x10 + 4 * n, 31, 0, .ro, 0⟩
-- DEC_FP_FAIL (R135, 04_read_write_lanes_and_sector_framing.md)
def DEC_FP_FAIL_FP_FAIL : Fld := ⟨0x40140018, 31, 0, .ro, 0⟩
-- DEC_INT (R135, 04_read_write_lanes_and_sector_framing.md)
def DEC_INT_HALF1_LOST : Fld := ⟨0x4014001C, 1, 1, .w1c, 0⟩
def DEC_INT_HALF0_LOST : Fld := ⟨0x4014001C, 0, 0, .w1c, 0⟩
-- DEC_SHARE (R135, 04_read_write_lanes_and_sector_framing.md)
def DEC_SHARE_RECOV_MIN : Fld := ⟨0x40140040, 29, 24, .st, 8⟩
def DEC_SHARE_SHARE_D : Fld := ⟨0x40140040, 23, 18, .st, 14⟩
def DEC_SHARE_SHARE_C : Fld := ⟨0x40140040, 17, 12, .st, 14⟩
def DEC_SHARE_SHARE_B : Fld := ⟨0x40140040, 11, 6, .st, 14⟩
def DEC_SHARE_SHARE_A : Fld := ⟨0x40140040, 5, 0, .st, 14⟩
-- CH_RCPT_CFG (R157, 05_receipts_recovery_and_reallocation.md)
def CH_RCPT_CFG_RAW_FAIL (x : Act) : Fld := ⟨x.laneBase + 0x80, 31, 16, .st, 400⟩
def CH_RCPT_CFG_RCPT_LOCAL (x : Act) : Fld := ⟨x.laneBase + 0x80, 7, 4, .st, 4⟩
def CH_RCPT_CFG_MARG_FAIL (x : Act) : Fld := ⟨x.laneBase + 0x80, 3, 3, .st, 0⟩
def CH_RCPT_CFG_FALLBACK_FAIL (x : Act) : Fld := ⟨x.laneBase + 0x80, 2, 2, .st, 0⟩
-- CH_RCPT_MARG (R157, 05_receipts_recovery_and_reallocation.md)
def CH_RCPT_MARG_RAW_MARG (x : Act) : Fld := ⟨x.laneBase + 0x84, 15, 0, .st, 200⟩
-- CH_RCPT_COUNT (R157, 05_receipts_recovery_and_reallocation.md)
def CH_RCPT_COUNT_FAILED (x : Act) : Fld := ⟨x.laneBase + 0x88, 31, 16, .ro, 0⟩
def CH_RCPT_COUNT_MARGINAL (x : Act) : Fld := ⟨x.laneBase + 0x88, 15, 0, .ro, 0⟩
-- CH_RCPT_LAST (R157, 05_receipts_recovery_and_reallocation.md)
def CH_RCPT_LAST_RAW_ERR (x : Act) : Fld := ⟨x.laneBase + 0x8C, 31, 16, .ro, 0⟩
def CH_RCPT_LAST_ITER (x : Act) : Fld := ⟨x.laneBase + 0x8C, 15, 12, .ro, 0⟩
def CH_RCPT_LAST_SECTOR (x : Act) : Fld := ⟨x.laneBase + 0x8C, 11, 0, .ro, 0⟩
-- DEC_RJ_BASE_LO (R158, 05_receipts_recovery_and_reallocation.md)
def DEC_RJ_BASE_LO_BASE_LO : Fld := ⟨0x40140020, 31, 13, .rw, 0⟩
-- DEC_RR_BASE_LO (R158, 05_receipts_recovery_and_reallocation.md)
def DEC_RR_BASE_LO_BASE_LO : Fld := ⟨0x40140030, 31, 12, .rw, 0⟩
-- DEC_RJ_BASE_HI (R158, 05_receipts_recovery_and_reallocation.md)
def DEC_RJ_BASE_HI_BASE_HI : Fld := ⟨0x40140024, 31, 0, .rw, 0⟩
-- DEC_RR_BASE_HI (R158, 05_receipts_recovery_and_reallocation.md)
def DEC_RR_BASE_HI_BASE_HI : Fld := ⟨0x40140034, 31, 0, .rw, 0⟩
-- DEC_RJ_PTR (R158, 05_receipts_recovery_and_reallocation.md)
def DEC_RJ_PTR_RJHEAD : Fld := ⟨0x40140028, 24, 16, .ro, 0⟩
def DEC_RJ_PTR_RJTAIL : Fld := ⟨0x40140028, 8, 0, .rw, 0⟩
-- DEC_RR_PTR (R158, 05_receipts_recovery_and_reallocation.md)
def DEC_RR_PTR_RRTAIL : Fld := ⟨0x40140038, 24, 16, .ro, 0⟩
def DEC_RR_PTR_RRHEAD : Fld := ⟨0x40140038, 8, 0, .rw, 0⟩
-- DEC_RC_LIM (R158, 05_receipts_recovery_and_reallocation.md)
def DEC_RC_LIM_RC_GLOBAL : Fld := ⟨0x40140044, 31, 28, .st, 6⟩
def DEC_RC_LIM_RC_LOCAL : Fld := ⟨0x40140044, 27, 23, .st, 16⟩
def DEC_RC_LIM_SLIP_MAX : Fld := ⟨0x40140044, 22, 20, .st, 4⟩
def DEC_RC_LIM_SLIP_LOCAL : Fld := ⟨0x40140044, 19, 16, .st, 4⟩
-- CRE_CTRL (R190, 06_courier_control_engine.md)
def CRE_CTRL_LOAD : Fld := ⟨0x40200000, 2, 2, .wo, 0⟩
def CRE_CTRL_CLR_PEAKS : Fld := ⟨0x40200000, 1, 1, .wo, 0⟩
def CRE_CTRL_RUN : Fld := ⟨0x40200000, 0, 0, .rw, 0⟩
-- CRE_STATUS (R190, 06_courier_control_engine.md)
def CRE_STATUS_STATE : Fld := ⟨0x40200004, 31, 29, .ro, 0⟩
def CRE_STATUS_LOAD_FAIL : Fld := ⟨0x40200004, 28, 28, .w1c, 0⟩
def CRE_STATUS_SEG_FORCED : Fld := ⟨0x40200004, 27, 27, .w1c, 0⟩
def CRE_STATUS_TRAP : Fld := ⟨0x40200004, 26, 26, .w1c, 0⟩
def CRE_STATUS_TRAP_SLICE : Fld := ⟨0x40200004, 25, 21, .ro, 0⟩
def CRE_STATUS_TRAP_CODE : Fld := ⟨0x40200004, 20, 13, .ro, 0⟩
def CRE_STATUS_TRAP_PC : Fld := ⟨0x40200004, 12, 0, .ro, 0⟩
-- CRE_LOAD_LO (R190, 06_courier_control_engine.md)
def CRE_LOAD_LO_ADDR : Fld := ⟨0x40200008, 31, 0, .rw, 0⟩
-- CRE_LOAD_HI (R190, 06_courier_control_engine.md)
def CRE_LOAD_HI_ADDR : Fld := ⟨0x4020000C, 31, 0, .rw, 0⟩
-- CRE_BUILD (R190, 06_courier_control_engine.md)
def CRE_BUILD_BUILD : Fld := ⟨0x40200010, 31, 0, .ro, 0⟩
-- CRE_CSCORR (R190, 06_courier_control_engine.md)
def CRE_CSCORR_CORR : Fld := ⟨0x40200014, 31, 16, .ro, 0⟩
def CRE_CSCORR_LAST_WORD : Fld := ⟨0x40200014, 12, 0, .ro, 0⟩
-- CRE_INT (R190, 06_courier_control_engine.md)
def CRE_INT_LOAD_DONE : Fld := ⟨0x40200020, 9, 9, .w1c, 0⟩
def CRE_INT_TRAP : Fld := ⟨0x40200020, 8, 8, .w1c, 0⟩
def CRE_INT_REPLY : Fld := ⟨0x40200020, 4, 0, .w1c, 0⟩
-- CRE_INT_EN (R190, 06_courier_control_engine.md)
def CRE_INT_EN_LOAD_DONE : Fld := ⟨0x40200024, 9, 9, .rw, 0⟩
def CRE_INT_EN_TRAP : Fld := ⟨0x40200024, 8, 8, .rw, 0⟩
def CRE_INT_EN_REPLY : Fld := ⟨0x40200024, 4, 0, .rw, 0⟩
-- CRE_SLICE_EN (R190, 06_courier_control_engine.md)
def CRE_SLICE_EN_EN : Fld := ⟨0x40200040, 17, 0, .st, 0⟩
-- CRE_CFG (R190, 06_courier_control_engine.md)
def CRE_CFG_PES_TIMEOUT : Fld := ⟨0x40200044, 15, 0, .st, 3200⟩
-- CRE_MEMWIN (R190, 06_courier_control_engine.md)
def CRE_MEMWIN_HI (n : Nat) : Fld := ⟨0x40200000 + 0x80 + 4 * n, 29, 16, .st, 16383⟩
def CRE_MEMWIN_LO (n : Nat) : Fld := ⟨0x40200000 + 0x80 + 4 * n, 13, 0, .st, 0⟩
-- CRE_CYCLES (R190, 06_courier_control_engine.md)
def CRE_CYCLES_PEAK (n : Nat) : Fld := ⟨0x40200000 + 0x100 + 4 * n, 31, 16, .ro, 0⟩
def CRE_CYCLES_LAST (n : Nat) : Fld := ⟨0x40200000 + 0x100 + 4 * n, 15, 0, .ro, 0⟩
-- CRE_CLAMP_HIT_LO (R190, 06_courier_control_engine.md)
def CRE_CLAMP_HIT_LO_HIT : Fld := ⟨0x40200180, 31, 0, .w1c, 0⟩
-- CRE_CLAMP_HIT_HI (R190, 06_courier_control_engine.md)
def CRE_CLAMP_HIT_HI_HIT : Fld := ⟨0x40200184, 31, 0, .w1c, 0⟩
-- CRE_DM_ADDR (R190, 06_courier_control_engine.md)
def CRE_DM_ADDR_ADDR : Fld := ⟨0x40200190, 13, 0, .rw, 0⟩
-- CRE_DM_DATA (R190, 06_courier_control_engine.md)
def CRE_DM_DATA_DATA : Fld := ⟨0x40200194, 31, 0, .rw, 0⟩
-- CRE_CAP_ADDR (R190, 06_courier_control_engine.md)
def CRE_CAP_ADDR_CH : Fld := ⟨0x40200198, 13, 12, .rw, 0⟩
def CRE_CAP_ADDR_INDEX : Fld := ⟨0x40200198, 11, 0, .rw, 0⟩
-- CRE_CAP_DATA (R190, 06_courier_control_engine.md)
def CRE_CAP_DATA_DATA : Fld := ⟨0x4020019C, 31, 0, .ro, 0⟩
-- CRE_INJ_CTRL (R190, 06_courier_control_engine.md)
def CRE_INJ_CTRL_ARM (n : Nat) : Fld := ⟨0x40200000 + 0x200 + 16 * n, 31, 31, .rw, 0⟩
def CRE_INJ_CTRL_REPEAT (n : Nat) : Fld := ⟨0x40200000 + 0x200 + 16 * n, 30, 30, .rw, 0⟩
def CRE_INJ_CTRL_SHIFT (n : Nat) : Fld := ⟨0x40200000 + 0x200 + 16 * n, 29, 25, .rw, 0⟩
def CRE_INJ_CTRL_LEN (n : Nat) : Fld := ⟨0x40200000 + 0x200 + 16 * n, 20, 10, .rw, 1024⟩
-- CRE_INJ_START (R190, 06_courier_control_engine.md)
def CRE_INJ_START_START_TICK (n : Nat) : Fld := ⟨0x40200000 + 0x204 + 16 * n, 31, 0, .rw, 0⟩
-- CRE_CAP_START (R190, 06_courier_control_engine.md)
def CRE_CAP_START_START_TICK (n : Nat) : Fld := ⟨0x40200000 + 0x244 + 16 * n, 31, 0, .rw, 0⟩
-- CRE_INJ_STAT (R190, 06_courier_control_engine.md)
def CRE_INJ_STAT_ACTIVE (n : Nat) : Fld := ⟨0x40200000 + 0x208 + 16 * n, 31, 31, .ro, 0⟩
def CRE_INJ_STAT_LATE (n : Nat) : Fld := ⟨0x40200000 + 0x208 + 16 * n, 30, 30, .w1c, 0⟩
def CRE_INJ_STAT_STOPPED (n : Nat) : Fld := ⟨0x40200000 + 0x208 + 16 * n, 29, 29, .w1c, 0⟩
def CRE_INJ_STAT_INDEX (n : Nat) : Fld := ⟨0x40200000 + 0x208 + 16 * n, 9, 0, .ro, 0⟩
-- CRE_CAP_CTRL (R190, 06_courier_control_engine.md)
def CRE_CAP_CTRL_ARM (n : Nat) : Fld := ⟨0x40200000 + 0x240 + 16 * n, 31, 31, .rw, 0⟩
def CRE_CAP_CTRL_DECIM (n : Nat) : Fld := ⟨0x40200000 + 0x240 + 16 * n, 29, 22, .rw, 1⟩
def CRE_CAP_CTRL_LEN (n : Nat) : Fld := ⟨0x40200000 + 0x240 + 16 * n, 12, 0, .rw, 4096⟩
-- CRE_CAP_STAT (R190, 06_courier_control_engine.md)
def CRE_CAP_STAT_ACTIVE (n : Nat) : Fld := ⟨0x40200000 + 0x248 + 16 * n, 31, 31, .ro, 0⟩
def CRE_CAP_STAT_LATE (n : Nat) : Fld := ⟨0x40200000 + 0x248 + 16 * n, 30, 30, .w1c, 0⟩
def CRE_CAP_STAT_DONE (n : Nat) : Fld := ⟨0x40200000 + 0x248 + 16 * n, 29, 29, .w1c, 0⟩
def CRE_CAP_STAT_COUNT (n : Nat) : Fld := ⟨0x40200000 + 0x248 + 16 * n, 12, 0, .ro, 0⟩
-- CRE_CAP_FIRST (R190, 06_courier_control_engine.md)
def CRE_CAP_FIRST_FIRST_TICK (n : Nat) : Fld := ⟨0x40200000 + 0x24C + 16 * n, 31, 0, .ro, 0⟩
-- CRE_REPLY_PTR (R190, 06_courier_control_engine.md)
def CRE_REPLY_PTR_LOST (n : Nat) : Fld := ⟨0x40200000 + 0x300 + 4 * n, 31, 24, .ro, 0⟩
def CRE_REPLY_PTR_RTAIL (n : Nat) : Fld := ⟨0x40200000 + 0x300 + 4 * n, 20, 16, .ro, 0⟩
def CRE_REPLY_PTR_RHEAD (n : Nat) : Fld := ⟨0x40200000 + 0x300 + 4 * n, 4, 0, .rw, 0⟩
-- CRE_CLAMP_LO (R190, 06_courier_control_engine.md)
def CRE_CLAMP_LO_VALUE (n : Nat) : Fld := ⟨0x40200000 + 0x400 + 8 * n, 31, 0, .st, 2147483648⟩
-- CRE_CLAMP_HI (R190, 06_courier_control_engine.md)
def CRE_CLAMP_HI_VALUE (n : Nat) : Fld := ⟨0x40200000 + 0x404 + 8 * n, 31, 0, .st, 2147483647⟩
-- ARM_CTRL (R219, 07_actuators_and_seeks.md)
def ARM_CTRL_RETRACT (x : Act) : Fld := ⟨x.armBase + 0x0, 2, 2, .wo, 0⟩
def ARM_CTRL_MA_EN (x : Act) : Fld := ⟨x.armBase + 0x0, 1, 1, .rw, 0⟩
def ARM_CTRL_ENABLE (x : Act) : Fld := ⟨x.armBase + 0x0, 0, 0, .rw, 0⟩
-- ARM_STATUS (R219, 07_actuators_and_seeks.md)
def ARM_STATUS_STATE (x : Act) : Fld := ⟨x.armBase + 0x4, 31, 29, .ro, 0⟩
def ARM_STATUS_SHOCK (x : Act) : Fld := ⟨x.armBase + 0x4, 28, 28, .w1c, 0⟩
def ARM_STATUS_PA_FAULT (x : Act) : Fld := ⟨x.armBase + 0x4, 27, 27, .w1c, 0⟩
def ARM_STATUS_WD_EXPIRED (x : Act) : Fld := ⟨x.armBase + 0x4, 26, 26, .w1c, 0⟩
def ARM_STATUS_OVERCURRENT (x : Act) : Fld := ⟨x.armBase + 0x4, 25, 25, .w1c, 0⟩
def ARM_STATUS_RETRACTED (x : Act) : Fld := ⟨x.armBase + 0x4, 24, 24, .w1c, 0⟩
def ARM_STATUS_ASP_DENIED (x : Act) : Fld := ⟨x.armBase + 0x4, 23, 23, .w1c, 0⟩
-- ARM_VCM_MEAS (R219, 07_actuators_and_seeks.md)
def ARM_VCM_MEAS_I_MEAS (x : Act) : Fld := ⟨x.armBase + 0x8, 31, 16, .ro, 0⟩
def ARM_VCM_MEAS_V_MEAS (x : Act) : Fld := ⟨x.armBase + 0x8, 15, 0, .ro, 0⟩
-- ARM_COUNTS (R219, 07_actuators_and_seeks.md)
def ARM_COUNTS_RETRACTS (x : Act) : Fld := ⟨x.armBase + 0xC, 31, 16, .ro, 0⟩
def ARM_COUNTS_PA_FAULTS (x : Act) : Fld := ⟨x.armBase + 0xC, 15, 0, .ro, 0⟩
-- ARM_ASP_CMD (R219, 07_actuators_and_seeks.md)
def ARM_ASP_CMD_GO (x : Act) : Fld := ⟨x.armBase + 0x10, 31, 31, .rw, 0⟩
def ARM_ASP_CMD_RD (x : Act) : Fld := ⟨x.armBase + 0x10, 30, 30, .rw, 0⟩
def ARM_ASP_CMD_ADDR (x : Act) : Fld := ⟨x.armBase + 0x10, 29, 23, .rw, 0⟩
def ARM_ASP_CMD_DATA (x : Act) : Fld := ⟨x.armBase + 0x10, 15, 0, .rw, 0⟩
-- ARM_PA_FAULT (R219, 07_actuators_and_seeks.md)
def ARM_PA_FAULT_STATUS (x : Act) : Fld := ⟨x.armBase + 0x14, 15, 0, .ro, 0⟩
-- ARM_VCM_CFG (R219, 07_actuators_and_seeks.md)
def ARM_VCM_CFG_I_LIMIT (x : Act) : Fld := ⟨x.armBase + 0x40, 31, 24, .st, 200⟩
def ARM_VCM_CFG_RETRACT_WD (x : Act) : Fld := ⟨x.armBase + 0x40, 23, 20, .st, 8⟩
def ARM_VCM_CFG_RETRACT_V (x : Act) : Fld := ⟨x.armBase + 0x40, 15, 8, .st, 60⟩
def ARM_VCM_CFG_RETRACT_MS (x : Act) : Fld := ⟨x.armBase + 0x40, 7, 0, .st, 150⟩
-- ARM_MA_CFG (R219, 07_actuators_and_seeks.md)
def ARM_MA_CFG_MA_VMAX (x : Act) : Fld := ⟨x.armBase + 0x44, 7, 0, .st, 80⟩
-- ARM_HEADS (R219, 07_actuators_and_seeks.md)
def ARM_HEADS_RETIRED (x : Act) : Fld := ⟨x.armBase + 0x48, 15, 8, .st, 0⟩
def ARM_HEADS_PRESENT (x : Act) : Fld := ⟨x.armBase + 0x48, 7, 0, .st, 255⟩
-- ARM_SHOCK (R219, 07_actuators_and_seeks.md)
def ARM_SHOCK_SHOCK_WI (x : Act) : Fld := ⟨x.armBase + 0x4C, 11, 0, .st, 80⟩
-- ARM_COIL (R219, 07_actuators_and_seeks.md)
def ARM_COIL_R_COIL (x : Act) : Fld := ⟨x.armBase + 0x50, 31, 16, .st, 6000⟩
def ARM_COIL_KB (x : Act) : Fld := ⟨x.armBase + 0x50, 15, 0, .st, 200⟩
-- ARM_VEL (R219, 07_actuators_and_seeks.md)
def ARM_VEL_LOAD_VEL (x : Act) : Fld := ⟨x.armBase + 0x54, 31, 24, .st, 48⟩
def ARM_VEL_UNLOAD_VEL (x : Act) : Fld := ⟨x.armBase + 0x54, 23, 16, .st, 48⟩
def ARM_VEL_EM_VEL (x : Act) : Fld := ⟨x.armBase + 0x54, 15, 8, .st, 96⟩
-- SPN_CTRL (R247, 08_spindle_drive.md)
def SPN_CTRL_PM_COMM_EN : Fld := ⟨0x40280000, 1, 1, .rw, 1⟩
def SPN_CTRL_ENABLE : Fld := ⟨0x40280000, 0, 0, .rw, 0⟩
-- SPN_STATUS (R247, 08_spindle_drive.md)
def SPN_STATUS_STATE : Fld := ⟨0x40280004, 31, 28, .ro, 0⟩
def SPN_STATUS_ANGLE_SRC : Fld := ⟨0x40280004, 27, 26, .ro, 0⟩
def SPN_STATUS_SPARE_LEG : Fld := ⟨0x40280004, 25, 24, .ro, 0⟩
def SPN_STATUS_AT_SPEED : Fld := ⟨0x40280004, 23, 23, .ro, 0⟩
def SPN_STATUS_FW_ACTIVE : Fld := ⟨0x40280004, 22, 22, .ro, 0⟩
def SPN_STATUS_FLUX_BRAKE : Fld := ⟨0x40280004, 21, 21, .ro, 0⟩
def SPN_STATUS_DISABLED : Fld := ⟨0x40280004, 20, 20, .ro, 0⟩
def SPN_STATUS_OBS_LOST : Fld := ⟨0x40280004, 19, 19, .w1c, 0⟩
def SPN_STATUS_WD_EXPIRED : Fld := ⟨0x40280004, 18, 18, .w1c, 0⟩
def SPN_STATUS_CATCH_FAIL : Fld := ⟨0x40280004, 17, 17, .w1c, 0⟩
def SPN_STATUS_START_FAIL : Fld := ⟨0x40280004, 16, 16, .w1c, 0⟩
-- SPN_SPEED (R247, 08_spindle_drive.md)
def SPN_SPEED_SPEED : Fld := ⟨0x40280008, 31, 0, .ro, 0⟩
-- SPN_ANGLE (R247, 08_spindle_drive.md)
def SPN_ANGLE_OBS_DIFF : Fld := ⟨0x4028000C, 31, 16, .ro, 0⟩
def SPN_ANGLE_ANGLE : Fld := ⟨0x4028000C, 15, 0, .ro, 0⟩
-- SPN_LEGS (R247, 08_spindle_drive.md)
def SPN_LEGS_LEG_FAULTS : Fld := ⟨0x40280010, 3, 0, .rs, 0⟩
-- SPN_COUNTS (R247, 08_spindle_drive.md)
def SPN_COUNTS_OBS_LOSSES : Fld := ⟨0x40280014, 31, 24, .ro, 0⟩
def SPN_COUNTS_FLUX_EVENTS : Fld := ⟨0x40280014, 23, 16, .ro, 0⟩
def SPN_COUNTS_DISABLES : Fld := ⟨0x40280014, 15, 8, .ro, 0⟩
def SPN_COUNTS_REFUSALS : Fld := ⟨0x40280014, 7, 4, .ro, 0⟩
def SPN_COUNTS_LIMITED : Fld := ⟨0x40280014, 3, 0, .ro, 0⟩
-- SPN_INT (R247, 08_spindle_drive.md)
def SPN_INT_LEG_FAULT : Fld := ⟨0x40280020, 3, 3, .w1c, 0⟩
def SPN_INT_OBS_LOST : Fld := ⟨0x40280020, 2, 2, .w1c, 0⟩
def SPN_INT_DISABLED : Fld := ⟨0x40280020, 1, 1, .w1c, 0⟩
def SPN_INT_AT_SPEED : Fld := ⟨0x40280020, 0, 0, .w1c, 0⟩
-- SPN_INT_EN (R247, 08_spindle_drive.md)
def SPN_INT_EN_LEG_FAULT : Fld := ⟨0x40280024, 3, 3, .rw, 0⟩
def SPN_INT_EN_OBS_LOST : Fld := ⟨0x40280024, 2, 2, .rw, 0⟩
def SPN_INT_EN_DISABLED : Fld := ⟨0x40280024, 1, 1, .rw, 0⟩
def SPN_INT_EN_AT_SPEED : Fld := ⟨0x40280024, 0, 0, .rw, 0⟩
-- SPN_SET (R247, 08_spindle_drive.md)
def SPN_SET_POLE_PAIRS : Fld := ⟨0x40280040, 19, 16, .st, 4⟩
def SPN_SET_SET_RPM : Fld := ⟨0x40280040, 12, 0, .st, 4500⟩
-- SPN_MOTOR (R247, 08_spindle_drive.md)
def SPN_MOTOR_KE : Fld := ⟨0x40280044, 31, 16, .st, 306⟩
def SPN_MOTOR_RS : Fld := ⟨0x40280044, 15, 0, .st, 450⟩
-- SPN_CURR (R247, 08_spindle_drive.md)
def SPN_CURR_I_MAX : Fld := ⟨0x40280048, 31, 24, .st, 200⟩
def SPN_CURR_ID_FW_MAX : Fld := ⟨0x40280048, 23, 16, .st, 100⟩
def SPN_CURR_ID_FLUX : Fld := ⟨0x40280048, 15, 8, .st, 150⟩
def SPN_CURR_ALIGN_I : Fld := ⟨0x40280048, 7, 0, .st, 100⟩
-- SPN_PWM (R247, 08_spindle_drive.md)
def SPN_PWM_PWM_DIV : Fld := ⟨0x4028004C, 18, 16, .st, 2⟩
def SPN_PWM_SHUNT_MIN : Fld := ⟨0x4028004C, 15, 8, .st, 120⟩
def SPN_PWM_DEADTIME : Fld := ⟨0x4028004C, 7, 0, .st, 20⟩
-- SPN_START (R247, 08_spindle_drive.md)
def SPN_START_ALIGN_MS : Fld := ⟨0x40280050, 31, 24, .st, 75⟩
def SPN_START_RAMP_ACC : Fld := ⟨0x40280050, 23, 16, .st, 30⟩
def SPN_START_HANDOVER_RPM : Fld := ⟨0x40280050, 15, 8, .st, 75⟩
def SPN_START_RAMP_I : Fld := ⟨0x40280050, 7, 0, .st, 125⟩
-- SPN_SPEEDS (R247, 08_spindle_drive.md)
def SPN_SPEEDS_FLY_RPM : Fld := ⟨0x40280054, 31, 20, .st, 3000⟩
def SPN_SPEEDS_UNLOAD_PCT : Fld := ⟨0x40280054, 19, 13, .st, 90⟩
def SPN_SPEEDS_REGEN_MIN : Fld := ⟨0x40280054, 12, 0, .st, 1000⟩
-- SPN_OBS (R247, 08_spindle_drive.md)
def SPN_OBS_DW_MAX : Fld := ⟨0x40280058, 31, 24, .st, 20⟩
def SPN_OBS_BEMF_TOL : Fld := ⟨0x40280058, 23, 16, .st, 25⟩
def SPN_OBS_ANG_TOL : Fld := ⟨0x40280058, 15, 8, .st, 30⟩
def SPN_OBS_OBS_CONFIRM : Fld := ⟨0x40280058, 7, 4, .st, 2⟩
-- SPN_PMZERO (R247, 08_spindle_drive.md)
def SPN_PMZERO_PM_ZERO : Fld := ⟨0x4028005C, 15, 0, .st, 0⟩
-- SPN_BRAKE (R247, 08_spindle_drive.md)
def SPN_BRAKE_BRK_PMAX : Fld := ⟨0x40280060, 31, 24, .st, 40⟩
def SPN_BRAKE_DECEL : Fld := ⟨0x40280060, 23, 16, .st, 20⟩
def SPN_BRAKE_REGEN_V : Fld := ⟨0x40280060, 15, 8, .st, 50⟩
def SPN_BRAKE_WD_TICKS : Fld := ⟨0x40280060, 7, 0, .st, 4⟩
-- PWR_CTRL (R271, 09_mains_entry_hold_up_and_power_domains.md)
def PWR_CTRL_CHOP_TEST : Fld := ⟨0x40300000, 1, 1, .wo, 0⟩
def PWR_CTRL_FLUSH_DONE : Fld := ⟨0x40300000, 0, 0, .wo, 0⟩
-- PWR_STATUS (R271, 09_mains_entry_hold_up_and_power_domains.md)
def PWR_STATUS_PHASE : Fld := ⟨0x40300004, 31, 29, .ro, 0⟩
def PWR_STATUS_DC_MODE : Fld := ⟨0x40300004, 28, 28, .ro, 0⟩
def PWR_STATUS_DBUS_VALID : Fld := ⟨0x40300004, 27, 27, .ro, 0⟩
def PWR_STATUS_LLC_IDLE : Fld := ⟨0x40300004, 26, 26, .ro, 0⟩
def PWR_STATUS_CHOP_ON : Fld := ⟨0x40300004, 25, 25, .ro, 0⟩
def PWR_STATUS_CHOP_FAULT : Fld := ⟨0x40300004, 24, 24, .rs, 0⟩
def PWR_STATUS_CHOP_HOT : Fld := ⟨0x40300004, 23, 23, .ro, 0⟩
-- PWR_VOLTS (R271, 09_mains_entry_hold_up_and_power_domains.md)
def PWR_VOLTS_BULK : Fld := ⟨0x40300008, 31, 16, .ro, 0⟩
def PWR_VOLTS_DBUS : Fld := ⟨0x40300008, 15, 0, .ro, 0⟩
-- PWR_INPUT (R271, 09_mains_entry_hold_up_and_power_domains.md)
def PWR_INPUT_PIN : Fld := ⟨0x4030000C, 31, 16, .ro, 0⟩
def PWR_INPUT_VLINE : Fld := ⟨0x4030000C, 15, 0, .ro, 0⟩
-- PWR_COUNTS (R271, 09_mains_entry_hold_up_and_power_domains.md)
def PWR_COUNTS_WARNINGS : Fld := ⟨0x40300010, 31, 24, .ro, 0⟩
def PWR_COUNTS_RIDE_THROUGHS : Fld := ⟨0x40300010, 23, 16, .ro, 0⟩
def PWR_COUNTS_DECLARED : Fld := ⟨0x40300010, 15, 8, .ro, 0⟩
def PWR_COUNTS_CHOP_EVENTS : Fld := ⟨0x40300010, 7, 0, .ro, 0⟩
-- PWR_INT (R271, 09_mains_entry_hold_up_and_power_domains.md)
def PWR_INT_CHOP_FAULT : Fld := ⟨0x40300020, 3, 3, .w1c, 0⟩
def PWR_INT_RECOVERED : Fld := ⟨0x40300020, 2, 2, .w1c, 0⟩
def PWR_INT_DECLARED : Fld := ⟨0x40300020, 1, 1, .w1c, 0⟩
def PWR_INT_WARN : Fld := ⟨0x40300020, 0, 0, .w1c, 0⟩
-- PWR_INT_EN (R271, 09_mains_entry_hold_up_and_power_domains.md)
def PWR_INT_EN_CHOP_FAULT : Fld := ⟨0x40300024, 3, 3, .rw, 0⟩
def PWR_INT_EN_RECOVERED : Fld := ⟨0x40300024, 2, 2, .rw, 0⟩
def PWR_INT_EN_DECLARED : Fld := ⟨0x40300024, 1, 1, .rw, 0⟩
def PWR_INT_EN_WARN : Fld := ⟨0x40300024, 0, 0, .rw, 0⟩
-- PWR_BULK_LVL (R271, 09_mains_entry_hold_up_and_power_domains.md)
def PWR_BULK_LVL_WARN_V : Fld := ⟨0x40300040, 31, 24, .st, 165⟩
def PWR_BULK_LVL_REC_V : Fld := ⟨0x40300040, 23, 16, .st, 175⟩
def PWR_BULK_LVL_LOSS_V : Fld := ⟨0x40300040, 15, 8, .st, 125⟩
def PWR_BULK_LVL_ZC_MS : Fld := ⟨0x40300040, 7, 0, .st, 12⟩
-- PWR_DBUS_LVL (R271, 09_mains_entry_hold_up_and_power_domains.md)
def PWR_DBUS_LVL_CHOP_OFF : Fld := ⟨0x40300044, 31, 24, .st, 65⟩
def PWR_DBUS_LVL_CHOP_ON : Fld := ⟨0x40300044, 23, 16, .st, 75⟩
def PWR_DBUS_LVL_FLUX : Fld := ⟨0x40300044, 15, 8, .st, 85⟩
def PWR_DBUS_LVL_DISABLE : Fld := ⟨0x40300044, 7, 0, .st, 100⟩
-- PWR_HOLD (R271, 09_mains_entry_hold_up_and_power_domains.md)
def PWR_HOLD_LOSS_MS : Fld := ⟨0x40300048, 31, 24, .st, 20⟩
def PWR_HOLD_REC_MS : Fld := ⟨0x40300048, 23, 16, .st, 40⟩
def PWR_HOLD_PIN_MAX : Fld := ⟨0x40300048, 15, 8, .st, 80⟩
def PWR_HOLD_CHOP_PRATED : Fld := ⟨0x40300048, 7, 0, .st, 30⟩
-- SYS_PD_CTRL (R272, 09_mains_entry_hold_up_and_power_domains.md)
def SYS_PD_CTRL_ON : Fld := ⟨0x40000030, 29, 0, .rw, 819470336⟩
-- SYS_PD_STATUS (R272, 09_mains_entry_hold_up_and_power_domains.md)
def SYS_PD_STATUS_SWITCHING : Fld := ⟨0x40000034, 31, 31, .ro, 0⟩
def SYS_PD_STATUS_ON : Fld := ⟨0x40000034, 29, 0, .ro, 819470336⟩
-- SYS_PD_REFUSED (R272, 09_mains_entry_hold_up_and_power_domains.md)
def SYS_PD_REFUSED_REFUSED : Fld := ⟨0x40000038, 29, 0, .w1c, 0⟩
-- FRK_CTRL (R296, 10_franking_and_the_kerrex_bus.md)
def FRK_CTRL_HOLD_ENTER : Fld := ⟨0x40310000, 2, 2, .wo, 0⟩
def FRK_CTRL_ELIGIBLE : Fld := ⟨0x40310000, 1, 1, .rw, 1⟩
def FRK_CTRL_ENABLE : Fld := ⟨0x40310000, 0, 0, .rw, 1⟩
-- FRK_STATUS (R296, 10_franking_and_the_kerrex_bus.md)
def FRK_STATUS_ROLE : Fld := ⟨0x40310004, 31, 29, .ro, 0⟩
def FRK_STATUS_PM_SLOT : Fld := ⟨0x40310004, 28, 23, .ro, 0⟩
def FRK_STATUS_LAPSED : Fld := ⟨0x40310004, 22, 22, .ro, 0⟩
def FRK_STATUS_BOOK_MISMATCH : Fld := ⟨0x40310004, 21, 21, .w1c, 0⟩
def FRK_STATUS_BUS_ACTIVE : Fld := ⟨0x40310004, 20, 20, .w1c, 0⟩
-- FRK_PURSE (R296, 10_franking_and_the_kerrex_bus.md)
def FRK_PURSE_HOLD : Fld := ⟨0x40310008, 15, 8, .ro, 3⟩
def FRK_PURSE_COMMIT : Fld := ⟨0x40310008, 7, 0, .ro, 3⟩
-- FRK_TARGET (R296, 10_franking_and_the_kerrex_bus.md)
def FRK_TARGET_TARGET : Fld := ⟨0x4031000C, 7, 0, .rw, 3⟩
-- FRK_COUNTS (R296, 10_franking_and_the_kerrex_bus.md)
def FRK_COUNTS_ELECTIONS : Fld := ⟨0x40310010, 31, 24, .ro, 0⟩
def FRK_COUNTS_CRC_ERRORS : Fld := ⟨0x40310010, 23, 16, .ro, 0⟩
def FRK_COUNTS_GRANTS : Fld := ⟨0x40310010, 15, 8, .ro, 0⟩
def FRK_COUNTS_SHEDS : Fld := ⟨0x40310010, 7, 0, .ro, 0⟩
-- FRK_PM (R296, 10_franking_and_the_kerrex_bus.md)
def FRK_PM_FREE : Fld := ⟨0x40310014, 31, 16, .ro, 0⟩
def FRK_PM_HEARD : Fld := ⟨0x40310014, 15, 8, .ro, 0⟩
def FRK_PM_QUEUE : Fld := ⟨0x40310014, 7, 0, .ro, 0⟩
-- FRK_WAKE (R296, 10_franking_and_the_kerrex_bus.md)
def FRK_WAKE_GO : Fld := ⟨0x40310018, 31, 31, .rw, 0⟩
def FRK_WAKE_ALL : Fld := ⟨0x40310018, 6, 6, .rw, 0⟩
def FRK_WAKE_SLOT : Fld := ⟨0x40310018, 5, 0, .rw, 0⟩
-- FRK_INT (R296, 10_franking_and_the_kerrex_bus.md)
def FRK_INT_ROLE : Fld := ⟨0x40310020, 2, 2, .w1c, 0⟩
def FRK_INT_LAPSED : Fld := ⟨0x40310020, 1, 1, .w1c, 0⟩
def FRK_INT_GRANT : Fld := ⟨0x40310020, 0, 0, .w1c, 0⟩
-- FRK_INT_EN (R296, 10_franking_and_the_kerrex_bus.md)
def FRK_INT_EN_ROLE : Fld := ⟨0x40310024, 2, 2, .rw, 0⟩
def FRK_INT_EN_LAPSED : Fld := ⟨0x40310024, 1, 1, .rw, 0⟩
def FRK_INT_EN_GRANT : Fld := ⟨0x40310024, 0, 0, .rw, 0⟩
-- FRK_BOOK (R296, 10_franking_and_the_kerrex_bus.md)
def FRK_BOOK_BOOK_GEN : Fld := ⟨0x40310040, 31, 16, .st, 0⟩
def FRK_BOOK_BUDGET : Fld := ⟨0x40310040, 15, 0, .st, 80⟩
-- FRK_BOOK_LIM (R296, 10_franking_and_the_kerrex_bus.md)
def FRK_BOOK_LIM_MAX_HOLD : Fld := ⟨0x40310044, 31, 24, .st, 80⟩
def FRK_BOOK_LIM_RUN_MAX : Fld := ⟨0x40310044, 23, 16, .st, 55⟩
def FRK_BOOK_LIM_UNHEARD : Fld := ⟨0x40310044, 15, 8, .st, 40⟩
def FRK_BOOK_LIM_BASE : Fld := ⟨0x40310044, 7, 3, .st, 3⟩
def FRK_BOOK_LIM_SOLO : Fld := ⟨0x40310044, 0, 0, .st, 1⟩
-- FRK_FIT_LO (R296, 10_franking_and_the_kerrex_bus.md)
def FRK_FIT_LO_FITTED : Fld := ⟨0x40310048, 31, 0, .st, 4294967295⟩
-- FRK_FIT_HI (R296, 10_franking_and_the_kerrex_bus.md)
def FRK_FIT_HI_FITTED : Fld := ⟨0x4031004C, 31, 0, .st, 4294967295⟩
-- FRK_COST (R296, 10_franking_and_the_kerrex_bus.md)
def FRK_COST_AT_SPEED : Fld := ⟨0x40310050, 31, 24, .st, 14⟩
def FRK_COST_ELEC : Fld := ⟨0x40310050, 23, 16, .st, 16⟩
def FRK_COST_SPINUP : Fld := ⟨0x40310050, 15, 8, .st, 41⟩
def FRK_COST_SLOW : Fld := ⟨0x40310050, 7, 0, .st, 4⟩
-- FRK_COST_SEEK (R296, 10_franking_and_the_kerrex_bus.md)
def FRK_COST_SEEK_C3 : Fld := ⟨0x40310054, 31, 24, .st, 16⟩
def FRK_COST_SEEK_C2 : Fld := ⟨0x40310054, 23, 16, .st, 8⟩
def FRK_COST_SEEK_C1 : Fld := ⟨0x40310054, 15, 8, .st, 3⟩
def FRK_COST_SEEK_C0 : Fld := ⟨0x40310054, 7, 0, .st, 1⟩
-- FRK_COST_MISC (R296, 10_franking_and_the_kerrex_bus.md)
def FRK_COST_MISC_SPN_ETA : Fld := ⟨0x40310058, 23, 16, .st, 225⟩
def FRK_COST_MISC_ACT : Fld := ⟨0x40310058, 15, 8, .st, 1⟩
def FRK_COST_MISC_PMK : Fld := ⟨0x40310058, 7, 0, .st, 1⟩
-- SOF_CTRL (R337, 11_sorting_office.md)
def SOF_CTRL_PAUSE : Fld := ⟨0x40400000, 1, 1, .rw, 0⟩
def SOF_CTRL_ENABLE : Fld := ⟨0x40400000, 0, 0, .rw, 0⟩
-- SOF_STATUS (R337, 11_sorting_office.md)
def SOF_STATUS_STATE : Fld := ⟨0x40400004, 31, 29, .ro, 0⟩
def SOF_STATUS_JOBS : Fld := ⟨0x40400004, 8, 0, .ro, 0⟩
-- SOF_MAP_BASE_LO (R337, 11_sorting_office.md)
def SOF_MAP_BASE_LO_BASE_LO : Fld := ⟨0x40400008, 31, 12, .rw, 0⟩
-- SOF_MAP_BASE_HI (R337, 11_sorting_office.md)
def SOF_MAP_BASE_HI_BASE_HI : Fld := ⟨0x4040000C, 31, 0, .rw, 0⟩
-- SOF_MAP_LEN (R337, 11_sorting_office.md)
def SOF_MAP_LEN_MAP_PARCELS : Fld := ⟨0x40400010, 31, 0, .rw, 0⟩
-- SOF_REFUSED (R337, 11_sorting_office.md)
def SOF_REFUSED_REFUSED : Fld := ⟨0x40400014, 31, 0, .ro, 0⟩
-- SOF_SEQ_LO (R337, 11_sorting_office.md)
def SOF_SEQ_LO_SEQ : Fld := ⟨0x40400018, 31, 0, .rw, 0⟩
-- SOF_SEQ_HI (R337, 11_sorting_office.md)
def SOF_SEQ_HI_SEQ : Fld := ⟨0x4040001C, 31, 0, .rw, 0⟩
-- SOF_INT (R337, 11_sorting_office.md)
def SOF_INT_BAD_JOB : Fld := ⟨0x40400020, 2, 2, .w1c, 0⟩
def SOF_INT_J_OVF : Fld := ⟨0x40400020, 1, 1, .w1c, 0⟩
def SOF_INT_RESULT : Fld := ⟨0x40400020, 0, 0, .w1c, 0⟩
-- SOF_INT_EN (R337, 11_sorting_office.md)
def SOF_INT_EN_BAD_JOB : Fld := ⟨0x40400024, 2, 2, .rw, 0⟩
def SOF_INT_EN_J_OVF : Fld := ⟨0x40400024, 1, 1, .rw, 0⟩
def SOF_INT_EN_RESULT : Fld := ⟨0x40400024, 0, 0, .rw, 0⟩
-- SOF_J_BASE_LO (R337, 11_sorting_office.md)
def SOF_J_BASE_LO_BASE_LO : Fld := ⟨0x40400028, 31, 12, .rw, 0⟩
-- SOF_R_BASE_LO (R337, 11_sorting_office.md)
def SOF_R_BASE_LO_BASE_LO : Fld := ⟨0x40400034, 31, 12, .rw, 0⟩
-- SOF_J_BASE_HI (R337, 11_sorting_office.md)
def SOF_J_BASE_HI_BASE_HI : Fld := ⟨0x4040002C, 31, 0, .rw, 0⟩
-- SOF_R_BASE_HI (R337, 11_sorting_office.md)
def SOF_R_BASE_HI_BASE_HI : Fld := ⟨0x40400038, 31, 0, .rw, 0⟩
-- SOF_J_PTR (R337, 11_sorting_office.md)
def SOF_J_PTR_SJHEAD : Fld := ⟨0x40400030, 24, 16, .ro, 0⟩
def SOF_J_PTR_SJTAIL : Fld := ⟨0x40400030, 8, 0, .rw, 0⟩
-- SOF_R_PTR (R337, 11_sorting_office.md)
def SOF_R_PTR_SRTAIL : Fld := ⟨0x4040003C, 24, 16, .ro, 0⟩
def SOF_R_PTR_SRHEAD : Fld := ⟨0x4040003C, 8, 0, .rw, 0⟩
-- SOF_FC (R337, 11_sorting_office.md)
def SOF_FC_COMPAT : Fld := ⟨0x40400040, 31, 31, .st, 0⟩
def SOF_FC_FC_CAP : Fld := ⟨0x40400040, 23, 16, .st, 200⟩
def SOF_FC_FC_FRAC : Fld := ⟨0x40400040, 15, 8, .st, 40⟩
def SOF_FC_FC_MIN : Fld := ⟨0x40400040, 7, 0, .st, 25⟩
-- SOF_FOLD (R337, 11_sorting_office.md)
def SOF_FOLD_FOLD_HI : Fld := ⟨0x40400044, 31, 24, .st, 75⟩
def SOF_FOLD_FOLD_LO : Fld := ⟨0x40400044, 23, 16, .st, 50⟩
def SOF_FOLD_RESORT_LO : Fld := ⟨0x40400044, 15, 8, .st, 16⟩
def SOF_FOLD_RESORT_HI : Fld := ⟨0x40400044, 7, 0, .st, 32⟩
-- SOF_RESERVE (R337, 11_sorting_office.md)
def SOF_RESERVE_RESERVE_GROUPS : Fld := ⟨0x40400048, 15, 8, .st, 8⟩
def SOF_RESERVE_FLOOR_GROUPS : Fld := ⟨0x40400048, 7, 0, .st, 2⟩
-- SOF_REFRESH (R337, 11_sorting_office.md)
def SOF_REFRESH_READ_SLC : Fld := ⟨0x4040004C, 31, 24, .st, 100⟩
def SOF_REFRESH_READ_MLC : Fld := ⟨0x4040004C, 23, 16, .st, 20⟩
def SOF_REFRESH_ATI_FC : Fld := ⟨0x4040004C, 15, 8, .st, 40⟩
def SOF_REFRESH_ATI_SC : Fld := ⟨0x4040004C, 7, 0, .st, 32⟩
-- SOF_KV (R337, 11_sorting_office.md)
def SOF_KV_BUNDLE_MAX : Fld := ⟨0x40400050, 31, 24, .st, 64⟩
def SOF_KV_REPACK_PCT : Fld := ⟨0x40400050, 23, 16, .st, 50⟩
-- SOF_ZONE (R337, 11_sorting_office.md)
def SOF_ZONE_ZFR_MIN : Fld := ⟨0x40400054, 15, 0, .st, 60⟩
-- CNS_CTRL (R364, 12_consignments_and_head_retirement.md)
def CNS_CTRL_PAUSE : Fld := ⟨0x40410000, 1, 1, .rw, 0⟩
def CNS_CTRL_ENABLE : Fld := ⟨0x40410000, 0, 0, .rw, 0⟩
-- CNS_STATUS (R364, 12_consignments_and_head_retirement.md)
def CNS_STATUS_STATE : Fld := ⟨0x40410004, 31, 29, .ro, 0⟩
def CNS_STATUS_JOBS : Fld := ⟨0x40410004, 8, 0, .ro, 0⟩
-- CNS_J_BASE_LO (R364, 12_consignments_and_head_retirement.md)
def CNS_J_BASE_LO_BASE_LO : Fld := ⟨0x40410008, 31, 12, .rw, 0⟩
-- CNS_R_BASE_LO (R364, 12_consignments_and_head_retirement.md)
def CNS_R_BASE_LO_BASE_LO : Fld := ⟨0x40410014, 31, 12, .rw, 0⟩
-- CNS_J_BASE_HI (R364, 12_consignments_and_head_retirement.md)
def CNS_J_BASE_HI_BASE_HI : Fld := ⟨0x4041000C, 31, 0, .rw, 0⟩
-- CNS_R_BASE_HI (R364, 12_consignments_and_head_retirement.md)
def CNS_R_BASE_HI_BASE_HI : Fld := ⟨0x40410018, 31, 0, .rw, 0⟩
-- CNS_J_PTR (R364, 12_consignments_and_head_retirement.md)
def CNS_J_PTR_CJHEAD : Fld := ⟨0x40410010, 24, 16, .ro, 0⟩
def CNS_J_PTR_CJTAIL : Fld := ⟨0x40410010, 8, 0, .rw, 0⟩
-- CNS_R_PTR (R364, 12_consignments_and_head_retirement.md)
def CNS_R_PTR_CRTAIL : Fld := ⟨0x4041001C, 24, 16, .ro, 0⟩
def CNS_R_PTR_CRHEAD : Fld := ⟨0x4041001C, 8, 0, .rw, 0⟩
-- CNS_INT (R364, 12_consignments_and_head_retirement.md)
def CNS_INT_BAD_JOB : Fld := ⟨0x40410020, 2, 2, .w1c, 0⟩
def CNS_INT_J_OVF : Fld := ⟨0x40410020, 1, 1, .w1c, 0⟩
def CNS_INT_RESULT : Fld := ⟨0x40410020, 0, 0, .w1c, 0⟩
-- CNS_INT_EN (R364, 12_consignments_and_head_retirement.md)
def CNS_INT_EN_BAD_JOB : Fld := ⟨0x40410024, 2, 2, .rw, 0⟩
def CNS_INT_EN_J_OVF : Fld := ⟨0x40410024, 1, 1, .rw, 0⟩
def CNS_INT_EN_RESULT : Fld := ⟨0x40410024, 0, 0, .rw, 0⟩
-- CNS_COUNTS (R364, 12_consignments_and_head_retirement.md)
def CNS_COUNTS_DECODES : Fld := ⟨0x40410028, 31, 16, .ro, 0⟩
def CNS_COUNTS_MISMATCH : Fld := ⟨0x40410028, 15, 0, .ro, 0⟩
-- CNS_UNAVAIL (R364, 12_consignments_and_head_retirement.md)
def CNS_UNAVAIL_UNAVAIL : Fld := ⟨0x4041002C, 31, 0, .rw, 0⟩
-- CNS_KEY_CTRL (R364, 12_consignments_and_head_retirement.md)
def CNS_KEY_CTRL_GO : Fld := ⟨0x40410030, 31, 31, .rw, 0⟩
def CNS_KEY_CTRL_OP : Fld := ⟨0x40410030, 30, 28, .rw, 0⟩
def CNS_KEY_CTRL_SLOT : Fld := ⟨0x40410030, 21, 16, .rw, 0⟩
-- CNS_KEY_STAT (R364, 12_consignments_and_head_retirement.md)
def CNS_KEY_STAT_UNWRAP_FAIL : Fld := ⟨0x40410034, 31, 31, .w1c, 0⟩
def CNS_KEY_STAT_NO_KEK : Fld := ⟨0x40410034, 30, 30, .ro, 1⟩
-- CNS_KEY_ADDR_LO (R364, 12_consignments_and_head_retirement.md)
def CNS_KEY_ADDR_LO_ADDR : Fld := ⟨0x40410038, 31, 0, .rw, 0⟩
-- CNS_KEY_ADDR_HI (R364, 12_consignments_and_head_retirement.md)
def CNS_KEY_ADDR_HI_ADDR : Fld := ⟨0x4041003C, 31, 0, .rw, 0⟩
-- CNS_LAYOUT (R364, 12_consignments_and_head_retirement.md)
def CNS_LAYOUT_LAYOUT : Fld := ⟨0x40410040, 1, 0, .st, 0⟩
-- CNS_POLICY (R364, 12_consignments_and_head_retirement.md)
def CNS_POLICY_REBUILD_MIN : Fld := ⟨0x40410044, 31, 24, .st, 50⟩
def CNS_POLICY_REBUILD_RESORT : Fld := ⟨0x40410044, 23, 16, .st, 25⟩
def CNS_POLICY_SCRUB_DAYS : Fld := ⟨0x40410044, 15, 8, .st, 120⟩
def CNS_POLICY_HEAD_RESERVE : Fld := ⟨0x40410044, 3, 0, .st, 1⟩
-- CNS_RETIRE (R364, 12_consignments_and_head_retirement.md)
def CNS_RETIRE_SUSPECT_LIM : Fld := ⟨0x40410048, 31, 24, .st, 4⟩
def CNS_RETIRE_RUNG6_LIM : Fld := ⟨0x40410048, 23, 16, .st, 10⟩
-- CNS_POSMAP (R364, 12_consignments_and_head_retirement.md)
def CNS_POSMAP_USED3 (n : Nat) : Fld := ⟨0x40410000 + 0x60 + 4 * n, 31, 31, .st, posmapResetU (4 * n + 3)⟩
def CNS_POSMAP_SURF3 (n : Nat) : Fld := ⟨0x40410000 + 0x60 + 4 * n, 28, 24, .st, posmapResetS (4 * n + 3)⟩
def CNS_POSMAP_USED2 (n : Nat) : Fld := ⟨0x40410000 + 0x60 + 4 * n, 23, 23, .st, posmapResetU (4 * n + 2)⟩
def CNS_POSMAP_SURF2 (n : Nat) : Fld := ⟨0x40410000 + 0x60 + 4 * n, 20, 16, .st, posmapResetS (4 * n + 2)⟩
def CNS_POSMAP_USED1 (n : Nat) : Fld := ⟨0x40410000 + 0x60 + 4 * n, 15, 15, .st, posmapResetU (4 * n + 1)⟩
def CNS_POSMAP_SURF1 (n : Nat) : Fld := ⟨0x40410000 + 0x60 + 4 * n, 12, 8, .st, posmapResetS (4 * n + 1)⟩
def CNS_POSMAP_USED0 (n : Nat) : Fld := ⟨0x40410000 + 0x60 + 4 * n, 7, 7, .st, posmapResetU (4 * n + 0)⟩
def CNS_POSMAP_SURF0 (n : Nat) : Fld := ⟨0x40410000 + 0x60 + 4 * n, 4, 0, .st, posmapResetS (4 * n + 0)⟩
-- CNS_KEK (R364, 12_consignments_and_head_retirement.md)
def CNS_KEK_KEK (n : Nat) : Fld := ⟨0x40410000 + 0x100 + 4 * n, 31, 0, .wo, 0⟩
-- CNS_KEY_LOADED_LO (R364, 12_consignments_and_head_retirement.md)
def CNS_KEY_LOADED_LO_LOADED : Fld := ⟨0x40410120, 31, 0, .ro, 0⟩
-- CNS_KEY_LOADED_HI (R364, 12_consignments_and_head_retirement.md)
def CNS_KEY_LOADED_HI_LOADED : Fld := ⟨0x40410124, 31, 0, .ro, 0⟩
-- ETH_CTRL (R405, 13_host_ports_queues_and_commands.md)
def ETH_CTRL_TX_DISABLE (p : Prt) : Fld := ⟨p.base + 0x0, 3, 3, .rw, 0⟩
def ETH_CTRL_AN_EN (p : Prt) : Fld := ⟨p.base + 0x0, 2, 2, .rw, 1⟩
def ETH_CTRL_RESTART (p : Prt) : Fld := ⟨p.base + 0x0, 1, 1, .wo, 0⟩
def ETH_CTRL_ENABLE (p : Prt) : Fld := ⟨p.base + 0x0, 0, 0, .rw, 1⟩
-- ETH_STATUS (R405, 13_host_ports_queues_and_commands.md)
def ETH_STATUS_STATE (p : Prt) : Fld := ⟨p.base + 0x4, 31, 29, .ro, 0⟩
def ETH_STATUS_SPEED (p : Prt) : Fld := ⟨p.base + 0x4, 28, 27, .ro, 0⟩
def ETH_STATUS_FEC (p : Prt) : Fld := ⟨p.base + 0x4, 26, 25, .ro, 0⟩
def ETH_STATUS_PCS_LOCK (p : Prt) : Fld := ⟨p.base + 0x4, 24, 24, .ro, 0⟩
-- ETH_FEC_CNT (R405, 13_host_ports_queues_and_commands.md)
def ETH_FEC_CNT_UNCORR (p : Prt) : Fld := ⟨p.base + 0x8, 31, 16, .ro, 0⟩
def ETH_FEC_CNT_CORR (p : Prt) : Fld := ⟨p.base + 0x8, 15, 0, .ro, 0⟩
-- ETH_DROPS (R405, 13_host_ports_queues_and_commands.md)
def ETH_DROPS_CRC_ERR (p : Prt) : Fld := ⟨p.base + 0xC, 31, 16, .ro, 0⟩
def ETH_DROPS_DROPPED (p : Prt) : Fld := ⟨p.base + 0xC, 15, 0, .ro, 0⟩
-- ETH_INT (R405, 13_host_ports_queues_and_commands.md)
def ETH_INT_LINK_DOWN (p : Prt) : Fld := ⟨p.base + 0x20, 1, 1, .w1c, 0⟩
def ETH_INT_LINK_UP (p : Prt) : Fld := ⟨p.base + 0x20, 0, 0, .w1c, 0⟩
-- ETH_INT_EN (R405, 13_host_ports_queues_and_commands.md)
def ETH_INT_EN_LINK_DOWN (p : Prt) : Fld := ⟨p.base + 0x24, 1, 1, .rw, 0⟩
def ETH_INT_EN_LINK_UP (p : Prt) : Fld := ⟨p.base + 0x24, 0, 0, .rw, 0⟩
-- ETH_MAC_LO (R405, 13_host_ports_queues_and_commands.md)
def ETH_MAC_LO_MAC_LO (p : Prt) : Fld := ⟨p.base + 0x40, 31, 0, .st, 0⟩
-- ETH_MAC_HI (R405, 13_host_ports_queues_and_commands.md)
def ETH_MAC_HI_MAC_HI (p : Prt) : Fld := ⟨p.base + 0x44, 15, 0, .st, 0⟩
-- ETH_NET (R405, 13_host_ports_queues_and_commands.md)
def ETH_NET_VLAN_EN (p : Prt) : Fld := ⟨p.base + 0x48, 31, 31, .st, 0⟩
def ETH_NET_PCP (p : Prt) : Fld := ⟨p.base + 0x48, 30, 28, .st, 0⟩
def ETH_NET_VID (p : Prt) : Fld := ⟨p.base + 0x48, 27, 16, .st, 0⟩
def ETH_NET_MTU (p : Prt) : Fld := ⟨p.base + 0x48, 13, 0, .st, 1500⟩
-- PRE_CTRL (R406, 13_host_ports_queues_and_commands.md)
def PRE_CTRL_LOAD : Fld := ⟨0x40520000, 2, 2, .wo, 0⟩
def PRE_CTRL_CLR_PEAK : Fld := ⟨0x40520000, 1, 1, .wo, 0⟩
def PRE_CTRL_RUN : Fld := ⟨0x40520000, 0, 0, .rw, 0⟩
-- PRE_STATUS (R406, 13_host_ports_queues_and_commands.md)
def PRE_STATUS_STATE : Fld := ⟨0x40520004, 31, 29, .ro, 0⟩
def PRE_STATUS_LOAD_FAIL : Fld := ⟨0x40520004, 28, 28, .w1c, 0⟩
def PRE_STATUS_TRAP : Fld := ⟨0x40520004, 27, 27, .w1c, 0⟩
def PRE_STATUS_TRAP_PC : Fld := ⟨0x40520004, 10, 0, .ro, 0⟩
-- PRE_LOAD_LO (R406, 13_host_ports_queues_and_commands.md)
def PRE_LOAD_LO_ADDR : Fld := ⟨0x40520008, 31, 0, .rw, 0⟩
-- PRE_LOAD_HI (R406, 13_host_ports_queues_and_commands.md)
def PRE_LOAD_HI_ADDR : Fld := ⟨0x4052000C, 31, 0, .rw, 0⟩
-- PRE_BUILD (R406, 13_host_ports_queues_and_commands.md)
def PRE_BUILD_BUILD : Fld := ⟨0x40520010, 31, 0, .ro, 0⟩
-- PRE_CONNS (R406, 13_host_ports_queues_and_commands.md)
def PRE_CONNS_ASSOCS : Fld := ⟨0x40520014, 23, 16, .ro, 0⟩
def PRE_CONNS_IOQS : Fld := ⟨0x40520014, 15, 8, .ro, 0⟩
def PRE_CONNS_CONNS : Fld := ⟨0x40520014, 7, 0, .ro, 0⟩
-- PRE_PEAK (R406, 13_host_ports_queues_and_commands.md)
def PRE_PEAK_CAPSULE_WAIT : Fld := ⟨0x40520018, 15, 0, .ro, 0⟩
-- PRE_POST (R406, 13_host_ports_queues_and_commands.md)
def PRE_POST_ARG : Fld := ⟨0x4052001C, 31, 16, .wo, 0⟩
def PRE_POST_CONN : Fld := ⟨0x4052001C, 15, 8, .wo, 0⟩
def PRE_POST_KEY : Fld := ⟨0x4052001C, 7, 0, .wo, 0⟩
-- PRE_INT (R406, 13_host_ports_queues_and_commands.md)
def PRE_INT_TRAP : Fld := ⟨0x40520020, 2, 2, .w1c, 0⟩
def PRE_INT_LOAD_DONE : Fld := ⟨0x40520020, 1, 1, .w1c, 0⟩
def PRE_INT_CORE_MSG : Fld := ⟨0x40520020, 0, 0, .w1c, 0⟩
-- PRE_INT_EN (R406, 13_host_ports_queues_and_commands.md)
def PRE_INT_EN_TRAP : Fld := ⟨0x40520024, 2, 2, .rw, 0⟩
def PRE_INT_EN_LOAD_DONE : Fld := ⟨0x40520024, 1, 1, .rw, 0⟩
def PRE_INT_EN_CORE_MSG : Fld := ⟨0x40520024, 0, 0, .rw, 0⟩
-- PRE_SLICE (R406, 13_host_ports_queues_and_commands.md)
def PRE_SLICE_C0_PCT : Fld := ⟨0x40520040, 23, 16, .st, 25⟩
-- PRE_TCP (R406, 13_host_ports_queues_and_commands.md)
def PRE_TCP_RTO_MIN : Fld := ⟨0x40520044, 31, 24, .st, 5⟩
def PRE_TCP_RTO_MAX : Fld := ⟨0x40520044, 23, 16, .st, 20⟩
def PRE_TCP_WSCALE : Fld := ⟨0x40520044, 15, 12, .st, 3⟩
def PRE_TCP_RCV_WIN : Fld := ⟨0x40520044, 11, 0, .st, 256⟩
-- HQ_CTRL (R407, 13_host_ports_queues_and_commands.md)
def HQ_CTRL_WR_FREEZE : Fld := ⟨0x40530000, 1, 1, .rw, 0⟩
def HQ_CTRL_ENABLE : Fld := ⟨0x40530000, 0, 0, .rw, 0⟩
-- HQ_STATUS (R407, 13_host_ports_queues_and_commands.md)
def HQ_STATUS_IN_FLIGHT : Fld := ⟨0x40530004, 28, 16, .ro, 0⟩
def HQ_STATUS_LOCKS : Fld := ⟨0x40530004, 9, 0, .ro, 0⟩
-- HQ_ITRAY (R407, 13_host_ports_queues_and_commands.md)
def HQ_ITRAY_PEAK_MIB : Fld := ⟨0x40530008, 26, 16, .ro, 0⟩
def HQ_ITRAY_USED_MIB : Fld := ⟨0x40530008, 10, 0, .ro, 0⟩
-- HQ_ADMIT (R407, 13_host_ports_queues_and_commands.md)
def HQ_ADMIT_PEAK_US : Fld := ⟨0x4053000C, 31, 16, .ro, 0⟩
def HQ_ADMIT_WAITING : Fld := ⟨0x4053000C, 15, 0, .ro, 0⟩
-- HQ_INT (R407, 13_host_ports_queues_and_commands.md)
def HQ_INT_LOCKS_FULL : Fld := ⟨0x40530020, 2, 2, .w1c, 0⟩
def HQ_INT_ITRAY_FULL : Fld := ⟨0x40530020, 1, 1, .w1c, 0⟩
def HQ_INT_ADMIT_LATE : Fld := ⟨0x40530020, 0, 0, .w1c, 0⟩
-- HQ_INT_EN (R407, 13_host_ports_queues_and_commands.md)
def HQ_INT_EN_LOCKS_FULL : Fld := ⟨0x40530024, 2, 2, .rw, 0⟩
def HQ_INT_EN_ITRAY_FULL : Fld := ⟨0x40530024, 1, 1, .rw, 0⟩
def HQ_INT_EN_ADMIT_LATE : Fld := ⟨0x40530024, 0, 0, .rw, 0⟩
-- HQ_LIMITS (R407, 13_host_ports_queues_and_commands.md)
def HQ_LIMITS_HELD_MAX : Fld := ⟨0x40530040, 31, 24, .st, 50⟩
def HQ_LIMITS_SPINUP_EST : Fld := ⟨0x40530040, 15, 0, .st, 280⟩
-- HQ_CRDT12 (R407, 13_host_ports_queues_and_commands.md)
def HQ_CRDT12_CRDT2 : Fld := ⟨0x40530044, 31, 16, .st, 100⟩
def HQ_CRDT12_CRDT1 : Fld := ⟨0x40530044, 15, 0, .st, 20⟩
-- HQ_CRDT3 (R407, 13_host_ports_queues_and_commands.md)
def HQ_CRDT3_CRDT3 : Fld := ⟨0x40530048, 15, 0, .st, 310⟩
-- BPM_CTRL (R430, 14_bags_pigeonholes_carriers_and_memory.md)
def BPM_CTRL_FALLBACK : Fld := ⟨0x40600000, 3, 0, .rw, 15⟩
-- BPM_POOL_BASE_LO (R430, 14_bags_pigeonholes_carriers_and_memory.md)
def BPM_POOL_BASE_LO_BASE (n : Nat) : Fld := ⟨0x40600000 + 0x10 + 8 * n, 31, 0, .rw, 0⟩
-- BPM_POOL_BASE_HI (R430, 14_bags_pigeonholes_carriers_and_memory.md)
def BPM_POOL_BASE_HI_BASE (n : Nat) : Fld := ⟨0x40600000 + 0x14 + 8 * n, 31, 0, .rw, 0⟩
-- BPM_ALLOC (R430, 14_bags_pigeonholes_carriers_and_memory.md)
def BPM_ALLOC_HANDLE (n : Nat) : Fld := ⟨0x40600000 + 0x40 + 4 * n, 31, 0, .ro, 4294967295⟩
-- BPM_RELEASE (R430, 14_bags_pigeonholes_carriers_and_memory.md)
def BPM_RELEASE_HANDLE : Fld := ⟨0x40600050, 31, 0, .wo, 0⟩
-- BPM_SHARE (R430, 14_bags_pigeonholes_carriers_and_memory.md)
def BPM_SHARE_HANDLE : Fld := ⟨0x40600054, 31, 0, .wo, 0⟩
-- BPM_FREE (R430, 14_bags_pigeonholes_carriers_and_memory.md)
def BPM_FREE_EMPTY (n : Nat) : Fld := ⟨0x40600000 + 0x60 + 4 * n, 31, 28, .ro, 0⟩
def BPM_FREE_RETIRED (n : Nat) : Fld := ⟨0x40600000 + 0x60 + 4 * n, 27, 19, .ro, 0⟩
def BPM_FREE_FREE (n : Nat) : Fld := ⟨0x40600000 + 0x60 + 4 * n, 18, 0, .ro, 0⟩
-- BPM_INT (R430, 14_bags_pigeonholes_carriers_and_memory.md)
def BPM_INT_BAD_OP : Fld := ⟨0x40600070, 4, 4, .w1c, 0⟩
def BPM_INT_EMPTY : Fld := ⟨0x40600070, 3, 0, .w1c, 0⟩
-- BPM_INT_EN (R430, 14_bags_pigeonholes_carriers_and_memory.md)
def BPM_INT_EN_BAD_OP : Fld := ⟨0x40600074, 4, 4, .rw, 0⟩
def BPM_INT_EN_EMPTY : Fld := ⟨0x40600074, 3, 0, .rw, 0⟩
-- PHC_CTRL (R431, 14_bags_pigeonholes_carriers_and_memory.md)
def PHC_CTRL_PF_DEPTH : Fld := ⟨0x40610000, 5, 2, .rw, 8⟩
def PHC_CTRL_FLUSH : Fld := ⟨0x40610000, 1, 1, .rw, 0⟩
def PHC_CTRL_ENABLE : Fld := ⟨0x40610000, 0, 0, .rw, 0⟩
-- PHC_WIN_BASE (R431, 14_bags_pigeonholes_carriers_and_memory.md)
def PHC_WIN_BASE_POLICY (n : Nat) : Fld := ⟨0x40610000 + 0x10 + 8 * n, 31, 30, .rw, if n = 0 then 1 else 0⟩
def PHC_WIN_BASE_ADDR (n : Nat) : Fld := ⟨0x40610000 + 0x10 + 8 * n, 22, 0, .rw, 0⟩
-- PHC_WIN_LIM (R431, 14_bags_pigeonholes_carriers_and_memory.md)
def PHC_WIN_LIM_ADDR (n : Nat) : Fld := ⟨0x40610000 + 0x14 + 8 * n, 22, 0, .rw, if n = 0 then 0x7FFFFF else 0⟩
-- PHC_STATS (R431, 14_bags_pigeonholes_carriers_and_memory.md)
def PHC_STATS_MISSES : Fld := ⟨0x40610030, 31, 16, .ro, 0⟩
def PHC_STATS_RECLAIMS : Fld := ⟨0x40610030, 15, 8, .ro, 0⟩
def PHC_STATS_MISS_PEAK : Fld := ⟨0x40610030, 7, 0, .ro, 0⟩
-- DMA_CH_BASE_LO (R432, 14_bags_pigeonholes_carriers_and_memory.md)
def DMA_CH_BASE_LO_BASE (n : Nat) : Fld := ⟨0x40620000 + 0x100 + 32 * n, 31, 0, .rw, 0⟩
-- DMA_CH_BASE_HI (R432, 14_bags_pigeonholes_carriers_and_memory.md)
def DMA_CH_BASE_HI_BASE (n : Nat) : Fld := ⟨0x40620000 + 0x104 + 32 * n, 31, 0, .rw, 0⟩
-- DMA_CH_PTR (R432, 14_bags_pigeonholes_carriers_and_memory.md)
def DMA_CH_PTR_HEAD (n : Nat) : Fld := ⟨0x40620000 + 0x108 + 32 * n, 24, 16, .ro, 0⟩
def DMA_CH_PTR_TAIL (n : Nat) : Fld := ⟨0x40620000 + 0x108 + 32 * n, 8, 0, .rw, 0⟩
-- DMA_CH_CTRL (R432, 14_bags_pigeonholes_carriers_and_memory.md)
def DMA_CH_CTRL_PRIO (n : Nat) : Fld := ⟨0x40620000 + 0x10C + 32 * n, 4, 3, .rw, 0⟩
def DMA_CH_CTRL_STOP (n : Nat) : Fld := ⟨0x40620000 + 0x10C + 32 * n, 2, 2, .wo, 0⟩
def DMA_CH_CTRL_RESUME (n : Nat) : Fld := ⟨0x40620000 + 0x10C + 32 * n, 1, 1, .wo, 0⟩
def DMA_CH_CTRL_ENABLE (n : Nat) : Fld := ⟨0x40620000 + 0x10C + 32 * n, 0, 0, .rw, 0⟩
-- DMA_CH_STATUS (R432, 14_bags_pigeonholes_carriers_and_memory.md)
def DMA_CH_STATUS_STATE (n : Nat) : Fld := ⟨0x40620000 + 0x110 + 32 * n, 31, 30, .ro, 0⟩
def DMA_CH_STATUS_ERR_BYTES (n : Nat) : Fld := ⟨0x40620000 + 0x110 + 32 * n, 26, 0, .ro, 0⟩
-- DMA_INT_LO (R432, 14_bags_pigeonholes_carriers_and_memory.md)
def DMA_INT_LO_CH : Fld := ⟨0x40620010, 31, 0, .w1c, 0⟩
-- DMA_INT_HI (R432, 14_bags_pigeonholes_carriers_and_memory.md)
def DMA_INT_HI_CH : Fld := ⟨0x40620014, 31, 0, .w1c, 0⟩
-- DMA_INT_EN_LO (R432, 14_bags_pigeonholes_carriers_and_memory.md)
def DMA_INT_EN_LO_CH : Fld := ⟨0x40620018, 31, 0, .rw, 0⟩
-- DMA_INT_EN_HI (R432, 14_bags_pigeonholes_carriers_and_memory.md)
def DMA_INT_EN_HI_CH : Fld := ⟨0x4062001C, 31, 0, .rw, 0⟩
-- MEM_STATUS (R433, 14_bags_pigeonholes_carriers_and_memory.md)
def MEM_STATUS_STATE : Fld := ⟨0x40630000, 31, 30, .ro, 0⟩
-- MEM_ECC_CNT (R433, 14_bags_pigeonholes_carriers_and_memory.md)
def MEM_ECC_CNT_CORR1 : Fld := ⟨0x40630004, 31, 16, .ro, 0⟩
def MEM_ECC_CNT_CORR2 : Fld := ⟨0x40630004, 15, 8, .ro, 0⟩
def MEM_ECC_CNT_HARD : Fld := ⟨0x40630004, 7, 4, .ro, 0⟩
def MEM_ECC_CNT_UNCORR : Fld := ⟨0x40630004, 3, 0, .ro, 0⟩
-- MEM_ECC_LAST (R433, 14_bags_pigeonholes_carriers_and_memory.md)
def MEM_ECC_LAST_KIND : Fld := ⟨0x40630008, 31, 29, .ro, 0⟩
def MEM_ECC_LAST_BLOCK : Fld := ⟨0x40630008, 28, 0, .ro, 0⟩
-- MEM_SLIP_CTRL (R433, 14_bags_pigeonholes_carriers_and_memory.md)
def MEM_SLIP_CTRL_SLIPS_FREE : Fld := ⟨0x4063000C, 4, 0, .ro, 16⟩
-- MEM_SLIP (R433, 14_bags_pigeonholes_carriers_and_memory.md)
def MEM_SLIP_VALID (n : Nat) : Fld := ⟨0x40630000 + 0x40 + 4 * n, 31, 31, .ro, 0⟩
def MEM_SLIP_POISON (n : Nat) : Fld := ⟨0x40630000 + 0x40 + 4 * n, 30, 30, .ro, 0⟩
def MEM_SLIP_BLOCK (n : Nat) : Fld := ⟨0x40630000 + 0x40 + 4 * n, 28, 0, .ro, 0⟩
-- MEM_SCRUB (R433, 14_bags_pigeonholes_carriers_and_memory.md)
def MEM_SCRUB_LAP_S : Fld := ⟨0x40630010, 31, 16, .ro, 0⟩
def MEM_SCRUB_SCRUB_INT : Fld := ⟨0x40630010, 7, 0, .rw, 16⟩
-- NFC_CTRL (R434, 14_bags_pigeonholes_carriers_and_memory.md)
def NFC_CTRL_ENABLE : Fld := ⟨0x40640000, 0, 0, .rw, 0⟩
-- NFC_STATUS (R434, 14_bags_pigeonholes_carriers_and_memory.md)
def NFC_STATUS_STATE : Fld := ⟨0x40640004, 31, 30, .ro, 0⟩
def NFC_STATUS_ERASED_MIB : Fld := ⟨0x40640004, 29, 16, .ro, 0⟩
def NFC_STATUS_SPARES_MIN : Fld := ⟨0x40640004, 15, 8, .ro, 0⟩
def NFC_STATUS_REPLACED : Fld := ⟨0x40640004, 7, 0, .ro, 0⟩
-- NFC_Q_BASE_LO (R434, 14_bags_pigeonholes_carriers_and_memory.md)
def NFC_Q_BASE_LO_BASE : Fld := ⟨0x40640008, 31, 0, .rw, 0⟩
-- NFC_Q_BASE_HI (R434, 14_bags_pigeonholes_carriers_and_memory.md)
def NFC_Q_BASE_HI_BASE : Fld := ⟨0x4064000C, 31, 0, .rw, 0⟩
-- NFC_Q_PTR (R434, 14_bags_pigeonholes_carriers_and_memory.md)
def NFC_Q_PTR_NQHEAD : Fld := ⟨0x40640010, 24, 16, .ro, 0⟩
def NFC_Q_PTR_NQTAIL : Fld := ⟨0x40640010, 8, 0, .rw, 0⟩
-- NFC_RESERVE (R434, 14_bags_pigeonholes_carriers_and_memory.md)
def NFC_RESERVE_ER_MIN : Fld := ⟨0x40640040, 13, 0, .st, 304⟩
-- THM_CTRL (R460, 15_heat_faults_and_the_registry_ledger.md)
def THM_CTRL_CLR_MINMAX : Fld := ⟨0x40700000, 1, 1, .wo, 0⟩
def THM_CTRL_MODEL_EN : Fld := ⟨0x40700000, 0, 0, .rw, 1⟩
-- THM_STATUS (R460, 15_heat_faults_and_the_registry_ledger.md)
def THM_STATUS_STATE : Fld := ⟨0x40700004, 31, 29, .ro, 0⟩
def THM_STATUS_STEP : Fld := ⟨0x40700004, 28, 27, .ro, 0⟩
def THM_STATUS_MODEL_ONLY : Fld := ⟨0x40700004, 26, 26, .ro, 0⟩
def THM_STATUS_TRIPPED : Fld := ⟨0x40700004, 25, 25, .w1c, 0⟩
def THM_STATUS_TRIP_BROKEN : Fld := ⟨0x40700004, 24, 23, .rs, 0⟩
def THM_STATUS_BROKEN : Fld := ⟨0x40700004, 15, 8, .rs, 0⟩
-- THM_JUNC (R460, 15_heat_faults_and_the_registry_ledger.md)
def THM_JUNC_J : Fld := ⟨0x40700008, 31, 16, .ro, 0⟩
def THM_JUNC_J_MODEL : Fld := ⟨0x40700008, 15, 0, .ro, 0⟩
-- THM_SENS (R460, 15_heat_faults_and_the_registry_ledger.md)
def THM_SENS_VALID (n : Nat) : Fld := ⟨0x40700000 + 0x80 + 4 * n, 31, 31, .ro, 0⟩
def THM_SENS_TEMP (n : Nat) : Fld := ⟨0x40700000 + 0x80 + 4 * n, 15, 0, .ro, 0⟩
-- THM_INT (R460, 15_heat_faults_and_the_registry_ledger.md)
def THM_INT_SHUTDOWN : Fld := ⟨0x40700020, 3, 3, .w1c, 0⟩
def THM_INT_STEP : Fld := ⟨0x40700020, 2, 2, .w1c, 0⟩
def THM_INT_WARN : Fld := ⟨0x40700020, 1, 1, .w1c, 0⟩
def THM_INT_BROKEN : Fld := ⟨0x40700020, 0, 0, .w1c, 0⟩
-- THM_INT_EN (R460, 15_heat_faults_and_the_registry_ledger.md)
def THM_INT_EN_SHUTDOWN : Fld := ⟨0x40700024, 3, 3, .rw, 0⟩
def THM_INT_EN_STEP : Fld := ⟨0x40700024, 2, 2, .rw, 0⟩
def THM_INT_EN_WARN : Fld := ⟨0x40700024, 1, 1, .rw, 0⟩
def THM_INT_EN_BROKEN : Fld := ⟨0x40700024, 0, 0, .rw, 0⟩
-- THM_TRIP (R460, 15_heat_faults_and_the_registry_ledger.md)
def THM_TRIP_TRIP1 : Fld := ⟨0x40700030, 31, 16, .ro, 0⟩
def THM_TRIP_TRIP0 : Fld := ⟨0x40700030, 15, 0, .ro, 0⟩
-- THM_POWER (R460, 15_heat_faults_and_the_registry_ledger.md)
def THM_POWER_P_DIE : Fld := ⟨0x40700034, 15, 0, .ro, 0⟩
-- THM_LVL (R460, 15_heat_faults_and_the_registry_ledger.md)
def THM_LVL_WARN : Fld := ⟨0x40700040, 31, 24, .st, 95⟩
def THM_LVL_THROT : Fld := ⟨0x40700040, 23, 16, .st, 105⟩
def THM_LVL_SHUT : Fld := ⟨0x40700040, 15, 8, .st, 120⟩
-- THM_HDA (R460, 15_heat_faults_and_the_registry_ledger.md)
def THM_HDA_WCTEMP : Fld := ⟨0x40700044, 31, 24, .st, 60⟩
def THM_HDA_CCTEMP : Fld := ⟨0x40700044, 23, 16, .st, 65⟩
-- THM_MODEL (R460, 15_heat_faults_and_the_registry_ledger.md)
def THM_MODEL_RJB : Fld := ⟨0x40700048, 31, 16, .st, 1000⟩
def THM_MODEL_TAU : Fld := ⟨0x40700048, 15, 0, .st, 1500⟩
-- THM_THR (R460, 15_heat_faults_and_the_registry_ledger.md)
def THM_THR_THR_UP : Fld := ⟨0x4070004C, 31, 24, .st, 10⟩
def THM_THR_THR_DOWN : Fld := ⟨0x4070004C, 23, 16, .st, 100⟩
-- FLT_CTRL (R461, 15_heat_faults_and_the_registry_ledger.md)
def FLT_CTRL_FREEZE_GRAVE : Fld := ⟨0x40710000, 0, 0, .rw, 1⟩
-- FLT_STATUS (R461, 15_heat_faults_and_the_registry_ledger.md)
def FLT_STATUS_STATE : Fld := ⟨0x40710004, 31, 29, .ro, 0⟩
def FLT_STATUS_HELD : Fld := ⟨0x40710004, 28, 23, .ro, 0⟩
def FLT_STATUS_CURRENT : Fld := ⟨0x40710004, 6, 0, .ro, 0⟩
-- FLT_CAP_ADDR (R461, 15_heat_faults_and_the_registry_ledger.md)
def FLT_CAP_ADDR_RECORD : Fld := ⟨0x40710008, 9, 3, .rw, 0⟩
def FLT_CAP_ADDR_WORD : Fld := ⟨0x40710008, 2, 0, .rw, 0⟩
-- FLT_CAP_DATA (R461, 15_heat_faults_and_the_registry_ledger.md)
def FLT_CAP_DATA_DATA : Fld := ⟨0x4071000C, 31, 0, .ro, 0⟩
-- FLT_DONE (R461, 15_heat_faults_and_the_registry_ledger.md)
def FLT_DONE_RAISE : Fld := ⟨0x40710010, 31, 31, .wo, 0⟩
def FLT_DONE_RECORD : Fld := ⟨0x40710010, 6, 0, .wo, 0⟩
-- FLT_COUNTS (R461, 15_heat_faults_and_the_registry_ledger.md)
def FLT_COUNTS_FAULTS : Fld := ⟨0x40710014, 31, 16, .ro, 0⟩
def FLT_COUNTS_GRAVE : Fld := ⟨0x40710014, 15, 8, .ro, 0⟩
def FLT_COUNTS_DROPPED : Fld := ⟨0x40710014, 7, 0, .ro, 0⟩
-- FLT_ROUTE (R461, 15_heat_faults_and_the_registry_ledger.md)
def FLT_ROUTE_SUP : Fld := ⟨0x40710018, 23, 21, .rw, 0⟩
def FLT_ROUTE_DOMAIN : Fld := ⟨0x40710018, 20, 0, .rw, 0⟩
-- FLT_INT (R461, 15_heat_faults_and_the_registry_ledger.md)
def FLT_INT_RAISED : Fld := ⟨0x40710020, 2, 2, .w1c, 0⟩
def FLT_INT_FAULT : Fld := ⟨0x40710020, 1, 1, .w1c, 0⟩
def FLT_INT_EVENT : Fld := ⟨0x40710020, 0, 0, .w1c, 0⟩
-- FLT_INT_EN (R461, 15_heat_faults_and_the_registry_ledger.md)
def FLT_INT_EN_RAISED : Fld := ⟨0x40710024, 2, 2, .rw, 0⟩
def FLT_INT_EN_FAULT : Fld := ⟨0x40710024, 1, 1, .rw, 0⟩
def FLT_INT_EN_EVENT : Fld := ⟨0x40710024, 0, 0, .rw, 0⟩
-- FLT_INJ_CTRL (R461, 15_heat_faults_and_the_registry_ledger.md)
def FLT_INJ_CTRL_ARM : Fld := ⟨0x40710040, 31, 31, .rw, 0⟩
def FLT_INJ_CTRL_TARGET : Fld := ⟨0x40710040, 30, 28, .rw, 0⟩
def FLT_INJ_CTRL_BITS : Fld := ⟨0x40710040, 27, 26, .rw, 1⟩
def FLT_INJ_CTRL_STICKY : Fld := ⟨0x40710040, 25, 25, .rw, 0⟩
def FLT_INJ_CTRL_DONE : Fld := ⟨0x40710040, 24, 24, .w1c, 0⟩
-- FLT_INJ_ADDR_LO (R461, 15_heat_faults_and_the_registry_ledger.md)
def FLT_INJ_ADDR_LO_ADDR : Fld := ⟨0x40710044, 31, 0, .rw, 0⟩
-- FLT_INJ_ADDR_HI (R461, 15_heat_faults_and_the_registry_ledger.md)
def FLT_INJ_ADDR_HI_ADDR : Fld := ⟨0x40710048, 31, 0, .rw, 0⟩
-- FLT_TMO (R461, 15_heat_faults_and_the_registry_ledger.md)
def FLT_TMO_MERGE_MS : Fld := ⟨0x4071004C, 31, 24, .st, 100⟩
def FLT_TMO_TMO4 : Fld := ⟨0x4071004C, 23, 16, .st, 10⟩
def FLT_TMO_TMO5 : Fld := ⟨0x4071004C, 15, 8, .st, 50⟩
-- LDG_CTRL (R462, 15_heat_faults_and_the_registry_ledger.md)
def LDG_CTRL_UNFREEZE : Fld := ⟨0x40720000, 1, 1, .wo, 0⟩
def LDG_CTRL_FREEZE : Fld := ⟨0x40720000, 0, 0, .wo, 0⟩
-- LDG_STATUS (R462, 15_heat_faults_and_the_registry_ledger.md)
def LDG_STATUS_FROZEN : Fld := ⟨0x40720004, 31, 31, .ro, 0⟩
def LDG_STATUS_USED : Fld := ⟨0x40720004, 25, 16, .ro, 0⟩
def LDG_STATUS_FROZEN_COUNT : Fld := ⟨0x40720004, 9, 0, .ro, 0⟩
-- LDG_SEQ_LO (R462, 15_heat_faults_and_the_registry_ledger.md)
def LDG_SEQ_LO_VALUE : Fld := ⟨0x40720008, 31, 0, .rw, 0⟩
-- LDG_SEQ_HI (R462, 15_heat_faults_and_the_registry_ledger.md)
def LDG_SEQ_HI_VALUE : Fld := ⟨0x4072000C, 31, 0, .rw, 0⟩
-- LDG_POT_LO (R462, 15_heat_faults_and_the_registry_ledger.md)
def LDG_POT_LO_VALUE : Fld := ⟨0x40720010, 31, 0, .rw, 0⟩
-- LDG_POT_HI (R462, 15_heat_faults_and_the_registry_ledger.md)
def LDG_POT_HI_VALUE : Fld := ⟨0x40720014, 31, 0, .rw, 0⟩
-- LDG_BOOT (R462, 15_heat_faults_and_the_registry_ledger.md)
def LDG_BOOT_VALUE : Fld := ⟨0x40720018, 31, 0, .rw, 0⟩
-- LDG_WRITE (R462, 15_heat_faults_and_the_registry_ledger.md)
def LDG_WRITE_DATA (c : Nat) (n : Nat) : Fld := ⟨c * 0x100000000 + 0x40720000 + 0x40 + 4 * n, 31, 0, .wo, 0⟩
-- LDG_COMMIT (R462, 15_heat_faults_and_the_registry_ledger.md)
def LDG_COMMIT_COMMIT (c : Nat) : Fld := ⟨c * 0x100000000 + 0x40720060, 31, 0, .wo, 0⟩
-- LDG_RESULT (R462, 15_heat_faults_and_the_registry_ledger.md)
def LDG_RESULT_DROPPED (c : Nat) : Fld := ⟨c * 0x100000000 + 0x40720064, 31, 31, .ro, 0⟩
-- LDG_LAST (R462, 15_heat_faults_and_the_registry_ledger.md)
def LDG_LAST_SEQ (c : Nat) : Fld := ⟨c * 0x100000000 + 0x40720068, 31, 0, .ro, 0⟩
-- LDG_STAGE_ADDR (R462, 15_heat_faults_and_the_registry_ledger.md)
def LDG_STAGE_ADDR_PLACE : Fld := ⟨0x40720070, 12, 4, .rw, 0⟩
def LDG_STAGE_ADDR_WORD : Fld := ⟨0x40720070, 3, 0, .rw, 0⟩
-- LDG_STAGE_DATA (R462, 15_heat_faults_and_the_registry_ledger.md)
def LDG_STAGE_DATA_DATA : Fld := ⟨0x40720074, 31, 0, .ro, 0⟩
-- LDG_DRAIN (R462, 15_heat_faults_and_the_registry_ledger.md)
def LDG_DRAIN_TAIL : Fld := ⟨0x40720078, 25, 16, .ro, 0⟩
def LDG_DRAIN_DHEAD : Fld := ⟨0x40720078, 9, 0, .rw, 0⟩
-- LDG_LOST (R462, 15_heat_faults_and_the_registry_ledger.md)
def LDG_LOST_LOST : Fld := ⟨0x4072007C, 31, 0, .ro, 0⟩
-- The zone table of a lane (R124, 04_read_write_lanes_and_sector_framing.md): entry n = 64 h + z of head h and zone z
def CH_ZONE_VALID (x : Act) (n : Nat) : Fld := ⟨x.laneBase + 0x4000 + 32 * n, 31, 31, .rw, 0⟩
def CH_ZONE_LAYOUT (x : Act) (n : Nat) : Fld := ⟨x.laneBase + 0x4000 + 32 * n, 30, 30, .rw, 0⟩
def CH_ZONE_ENTRY_ERR (x : Act) (n : Nat) : Fld := ⟨x.laneBase + 0x4000 + 32 * n, 29, 29, .ro, 0⟩
def CH_ZONE_START_TRACK (x : Act) (n : Nat) : Fld := ⟨x.laneBase + 0x4000 + 32 * n, 23, 0, .rw, 0⟩
def CH_ZONE_N (x : Act) (n : Nat) : Fld := ⟨x.laneBase + 0x4004 + 32 * n, 31, 25, .rw, 0⟩
def CH_ZONE_F (x : Act) (n : Nat) : Fld := ⟨x.laneBase + 0x4004 + 32 * n, 23, 0, .rw, 0⟩
def CH_ZONE_SECTORS (x : Act) (n : Nat) : Fld := ⟨x.laneBase + 0x4008 + 32 * n, 31, 20, .rw, 0⟩
def CH_ZONE_GAP_T (x : Act) (n : Nat) : Fld := ⟨x.laneBase + 0x4008 + 32 * n, 19, 10, .rw, 0⟩
def CH_ZONE_SV_POST_T (x : Act) (n : Nat) : Fld := ⟨x.laneBase + 0x400C + 32 * n, 31, 16, .rw, 0⟩
def CH_ZONE_SV_PRE_T (x : Act) (n : Nat) : Fld := ⟨x.laneBase + 0x400C + 32 * n, 15, 0, .rw, 0⟩
def CH_ZONE_HTR_READ (x : Act) (n : Nat) : Fld := ⟨x.laneBase + 0x4010 + 32 * n, 31, 24, .rw, 0⟩
def CH_ZONE_HTR_WRITE (x : Act) (n : Nat) : Fld := ⟨x.laneBase + 0x4010 + 32 * n, 23, 16, .rw, 0⟩
def CH_ZONE_IW (x : Act) (n : Nat) : Fld := ⟨x.laneBase + 0x4014 + 32 * n, 31, 24, .rw, 0⟩
def CH_ZONE_OS (x : Act) (n : Nat) : Fld := ⟨x.laneBase + 0x4014 + 32 * n, 23, 16, .rw, 0⟩
def CH_ZONE_PRECOMP_1 (x : Act) (n : Nat) : Fld := ⟨x.laneBase + 0x4014 + 32 * n, 15, 8, .rw, 0⟩
def CH_ZONE_PRECOMP_2 (x : Act) (n : Nat) : Fld := ⟨x.laneBase + 0x4014 + 32 * n, 7, 0, .rw, 0⟩
def CH_ZONE_VGA_SEED (x : Act) (n : Nat) : Fld := ⟨x.laneBase + 0x4018 + 32 * n, 31, 24, .rw, 0⟩
def CH_ZONE_CTF_FC (x : Act) (n : Nat) : Fld := ⟨x.laneBase + 0x4018 + 32 * n, 23, 16, .rw, 0⟩
def CH_ZONE_CTF_BOOST (x : Act) (n : Nat) : Fld := ⟨x.laneBase + 0x4018 + 32 * n, 15, 8, .rw, 0⟩
def CH_ZONE_MRA (x : Act) (n : Nat) : Fld := ⟨x.laneBase + 0x4018 + 32 * n, 7, 0, .rw, 0⟩
def CH_ZONE_RD_DELAY_INT (x : Act) (n : Nat) : Fld := ⟨x.laneBase + 0x401C + 32 * n, 31, 22, .rw, 0⟩
def CH_ZONE_RD_DELAY_FRAC (x : Act) (n : Nat) : Fld := ⟨x.laneBase + 0x401C + 32 * n, 21, 16, .rw, 0⟩
-- The SRAM areas of the register space: tap memory (R126), the code table (R102, R135), X0 to X63, the reply rings and the injection buffers (R190)
def CH_TAP (x : Act) (n : Nat) : Fld := ⟨x.laneBase + 0x2000 + 4 * n, 31, 0, .rw, 0⟩
def DEC_CODE (n : Nat) : Fld := ⟨0x40140000 + 0x1000 + 4 * n, 31, 0, .ro, 0⟩
def CRE_X (n : Nat) : Fld := ⟨0x40200000 + 0x1000 + 4 * n, 31, 0, .ro, 0⟩
def CRE_REPLY (n : Nat) : Fld := ⟨0x40200000 + 0x2000 + 4 * n, 31, 0, .ro, 0⟩
def CRE_INJ (n : Nat) : Fld := ⟨0x40200000 + 0x4000 + 4 * n, 31, 0, .rw, 0⟩

def rowsSYS_0 : List Row :=
  [⟨0x0, 0, 1, 31, 24, .ro, 1⟩,
   ⟨0x0, 0, 1, 23, 20, .ro, 4⟩,
   ⟨0x0, 0, 1, 19, 16, .ro, 4⟩,
   ⟨0x0, 0, 1, 15, 12, .ro, 4⟩,
   ⟨0x0, 0, 1, 11, 6, .ro, 0⟩,
   ⟨0x0, 0, 1, 5, 5, .ro, 0⟩,
   ⟨0x4, 0, 1, 28, 24, .ro, 15⟩,
   ⟨0x4, 0, 1, 23, 23, .ro, 1⟩,
   ⟨0x4, 0, 1, 22, 21, .ro, 3⟩,
   ⟨0x4, 0, 1, 20, 17, .ro, 0⟩,
   ⟨0x4, 0, 1, 16, 15, .ro, 0⟩,
   ⟨0x4, 0, 1, 14, 10, .ro, 16⟩,
   ⟨0x4, 0, 1, 9, 9, .rs, 0⟩,
   ⟨0x10, 0, 1, 2, 0, .wo, 0⟩,
   ⟨0x14, 0, 1, 31, 28, .ro, 0⟩]
def rowsSYS_1 : List Row :=
  [⟨0x14, 0, 1, 27, 25, .ro, 0⟩,
   ⟨0x14, 0, 1, 24, 24, .w1c, 0⟩,
   ⟨0x14, 0, 1, 23, 16, .ro, 0⟩,
   ⟨0x14, 0, 1, 8, 0, .ro, 0⟩,
   ⟨0x18, 0, 1, 31, 0, .rw, 0⟩,
   ⟨0x1C, 0, 1, 31, 0, .ro, 0⟩,
   ⟨0x20, 0, 1, 27, 24, .ro, 0⟩,
   ⟨0x20, 0, 1, 23, 23, .ro, 0⟩,
   ⟨0x20, 0, 1, 22, 22, .ro, 0⟩,
   ⟨0x20, 0, 1, 21, 20, .ro, 0⟩,
   ⟨0x20, 0, 1, 19, 16, .ro, 0⟩,
   ⟨0x20, 0, 1, 15, 0, .ro, 0⟩,
   ⟨0x30, 0, 1, 29, 0, .rw, 819470336⟩,
   ⟨0x34, 0, 1, 31, 31, .ro, 0⟩,
   ⟨0x34, 0, 1, 29, 0, .ro, 819470336⟩]
def rowsSYS_2 : List Row :=
  [⟨0x38, 0, 1, 29, 0, .w1c, 0⟩]
/-- The fields of the SYS block. -/
def rowsSYS : List Row := rowsSYS_0 ++ rowsSYS_1 ++ rowsSYS_2

def rowsPMK_0 : List Row :=
  [⟨0x0, 0, 1, 7, 4, .rw, 15⟩,
   ⟨0x0, 0, 1, 3, 3, .rw, 1⟩,
   ⟨0x0, 0, 1, 2, 2, .rw, 0⟩,
   ⟨0x0, 0, 1, 1, 1, .rw, 0⟩,
   ⟨0x0, 0, 1, 0, 0, .rw, 0⟩,
   ⟨0x4, 0, 1, 31, 29, .ro, 0⟩,
   ⟨0x4, 0, 1, 28, 25, .ro, 0⟩,
   ⟨0x4, 0, 1, 24, 21, .ro, 0⟩,
   ⟨0x4, 0, 1, 20, 20, .ro, 1⟩,
   ⟨0x4, 0, 1, 19, 19, .ro, 1⟩,
   ⟨0x4, 0, 1, 18, 18, .w1c, 0⟩,
   ⟨0x4, 0, 1, 17, 17, .w1c, 0⟩,
   ⟨0x4, 0, 1, 16, 16, .w1c, 0⟩,
   ⟨0x8, 0, 1, 31, 12, .ro, 0⟩,
   ⟨0x8, 0, 1, 11, 0, .ro, 0⟩]
def rowsPMK_1 : List Row :=
  [⟨0xC, 0, 1, 23, 0, .ro, 0⟩,
   ⟨0x10, 0, 1, 31, 24, .ro, 0⟩,
   ⟨0x10, 0, 1, 23, 16, .ro, 0⟩,
   ⟨0x10, 0, 1, 15, 8, .ro, 0⟩,
   ⟨0x10, 0, 1, 7, 0, .ro, 0⟩,
   ⟨0x40, 0, 1, 9, 0, .st, 420⟩,
   ⟨0x44, 0, 1, 31, 12, .st, 0⟩,
   ⟨0x44, 0, 1, 11, 0, .st, 0⟩,
   ⟨0x48, 0, 1, 31, 12, .st, 524288⟩,
   ⟨0x48, 0, 1, 11, 0, .st, 0⟩,
   ⟨0x4C, 0, 1, 31, 12, .st, 262144⟩,
   ⟨0x4C, 0, 1, 11, 0, .st, 0⟩,
   ⟨0x50, 0, 1, 15, 8, .st, 150⟩,
   ⟨0x50, 0, 1, 7, 0, .st, 20⟩]
/-- The fields of the PMK block. -/
def rowsPMK : List Row := rowsPMK_0 ++ rowsPMK_1

def rowsTCK_0 : List Row :=
  [⟨0x0, 0, 1, 2, 2, .wo, 0⟩,
   ⟨0x0, 0, 1, 1, 1, .rw, 0⟩,
   ⟨0x0, 0, 1, 0, 0, .rw, 1⟩,
   ⟨0x4, 0, 1, 31, 30, .ro, 0⟩,
   ⟨0x4, 0, 1, 29, 29, .ro, 1⟩,
   ⟨0x4, 0, 1, 15, 0, .ro, 0⟩,
   ⟨0x8, 0, 1, 31, 0, .ro, 0⟩,
   ⟨0xC, 0, 1, 31, 0, .ro, 0⟩,
   ⟨0x10, 0, 1, 15, 0, .ro, 0⟩,
   ⟨0x14, 0, 1, 16, 16, .w1c, 0⟩,
   ⟨0x14, 0, 1, 15, 15, .w1c, 0⟩,
   ⟨0x14, 0, 1, 14, 14, .w1c, 0⟩,
   ⟨0x14, 0, 1, 13, 13, .w1c, 0⟩,
   ⟨0x14, 0, 1, 12, 9, .w1c, 0⟩,
   ⟨0x14, 0, 1, 8, 5, .w1c, 0⟩]
def rowsTCK_1 : List Row :=
  [⟨0x14, 0, 1, 4, 1, .w1c, 0⟩,
   ⟨0x14, 0, 1, 0, 0, .w1c, 0⟩,
   ⟨0x40, 0, 1, 31, 16, .st, 1000⟩,
   ⟨0x40, 0, 1, 15, 0, .st, 0⟩,
   ⟨0x44, 0, 1, 19, 10, .st, 250⟩,
   ⟨0x44, 0, 1, 9, 0, .st, 450⟩,
   ⟨0x48, 0, 1, 29, 20, .st, 150⟩,
   ⟨0x48, 0, 1, 19, 10, .st, 100⟩,
   ⟨0x48, 0, 1, 9, 0, .st, 300⟩,
   ⟨0x50, 4, 4, 29, 20, .st, 150⟩,
   ⟨0x50, 4, 4, 19, 10, .st, 300⟩,
   ⟨0x50, 4, 4, 9, 0, .st, 350⟩]
/-- The fields of the TCK block. -/
def rowsTCK : List Row := rowsTCK_0 ++ rowsTCK_1

def rowsCH_0 : List Row :=
  [⟨0x0, 0, 1, 31, 24, .rw, 255⟩,
   ⟨0x0, 0, 1, 2, 2, .wo, 0⟩,
   ⟨0x0, 0, 1, 1, 1, .rw, 0⟩,
   ⟨0x0, 0, 1, 0, 0, .rw, 0⟩,
   ⟨0x4, 0, 1, 31, 29, .ro, 0⟩,
   ⟨0x4, 0, 1, 28, 26, .ro, 0⟩,
   ⟨0x4, 0, 1, 25, 20, .ro, 0⟩,
   ⟨0x4, 0, 1, 19, 19, .ro, 0⟩,
   ⟨0x4, 0, 1, 18, 18, .ro, 0⟩,
   ⟨0x4, 0, 1, 17, 12, .ro, 0⟩,
   ⟨0x4, 0, 1, 11, 0, .ro, 0⟩,
   ⟨0x10, 0, 1, 31, 13, .rw, 0⟩,
   ⟨0x14, 0, 1, 31, 0, .rw, 0⟩,
   ⟨0x24, 0, 1, 31, 0, .rw, 0⟩,
   ⟨0x18, 0, 1, 24, 16, .ro, 0⟩]
def rowsCH_1 : List Row :=
  [⟨0x18, 0, 1, 8, 0, .rw, 0⟩,
   ⟨0x20, 0, 1, 31, 12, .rw, 0⟩,
   ⟨0x28, 0, 1, 24, 16, .ro, 0⟩,
   ⟨0x28, 0, 1, 8, 0, .rw, 0⟩,
   ⟨0x30, 0, 1, 3, 3, .w1c, 0⟩,
   ⟨0x30, 0, 1, 2, 2, .w1c, 0⟩,
   ⟨0x30, 0, 1, 1, 1, .w1c, 0⟩,
   ⟨0x30, 0, 1, 0, 0, .w1c, 0⟩,
   ⟨0x34, 0, 1, 3, 3, .rw, 0⟩,
   ⟨0x34, 0, 1, 2, 2, .rw, 0⟩,
   ⟨0x34, 0, 1, 1, 1, .rw, 0⟩,
   ⟨0x34, 0, 1, 0, 0, .rw, 0⟩,
   ⟨0x38, 0, 1, 31, 16, .ro, 0⟩,
   ⟨0x38, 0, 1, 15, 0, .ro, 0⟩,
   ⟨0x40, 0, 1, 23, 16, .st, 80⟩]
def rowsCH_2 : List Row :=
  [⟨0x40, 0, 1, 15, 12, .st, 6⟩,
   ⟨0x44, 0, 1, 11, 8, .st, 10⟩,
   ⟨0x44, 0, 1, 7, 4, .st, 12⟩,
   ⟨0x44, 0, 1, 1, 1, .st, 1⟩,
   ⟨0x44, 0, 1, 0, 0, .st, 1⟩,
   ⟨0x48, 0, 1, 15, 8, .st, 2⟩,
   ⟨0x48, 0, 1, 7, 0, .st, 6⟩,
   ⟨0x4C, 0, 1, 4, 4, .st, 1⟩,
   ⟨0x4C, 0, 1, 3, 2, .st, 2⟩,
   ⟨0x4C, 0, 1, 1, 0, .st, 1⟩,
   ⟨0x50, 0, 1, 15, 0, .st, 200⟩,
   ⟨0x60, 4, 8, 31, 24, .ro, 0⟩,
   ⟨0x60, 4, 8, 15, 0, .ro, 0⟩,
   ⟨0x80, 0, 1, 31, 16, .st, 400⟩,
   ⟨0x80, 0, 1, 7, 4, .st, 4⟩]
def rowsCH_3 : List Row :=
  [⟨0x80, 0, 1, 3, 3, .st, 0⟩,
   ⟨0x80, 0, 1, 2, 2, .st, 0⟩,
   ⟨0x84, 0, 1, 15, 0, .st, 200⟩,
   ⟨0x88, 0, 1, 31, 16, .ro, 0⟩,
   ⟨0x88, 0, 1, 15, 0, .ro, 0⟩,
   ⟨0x8C, 0, 1, 31, 16, .ro, 0⟩,
   ⟨0x8C, 0, 1, 15, 12, .ro, 0⟩,
   ⟨0x8C, 0, 1, 11, 0, .ro, 0⟩,
   ⟨0x4000, 32, 512, 31, 31, .rw, 0⟩,
   ⟨0x4000, 32, 512, 30, 30, .rw, 0⟩,
   ⟨0x4000, 32, 512, 29, 29, .ro, 0⟩,
   ⟨0x4000, 32, 512, 23, 0, .rw, 0⟩,
   ⟨0x4004, 32, 512, 31, 25, .rw, 0⟩,
   ⟨0x4004, 32, 512, 23, 0, .rw, 0⟩,
   ⟨0x4008, 32, 512, 31, 20, .rw, 0⟩]
def rowsCH_4 : List Row :=
  [⟨0x4008, 32, 512, 19, 10, .rw, 0⟩,
   ⟨0x400C, 32, 512, 31, 16, .rw, 0⟩,
   ⟨0x400C, 32, 512, 15, 0, .rw, 0⟩,
   ⟨0x4010, 32, 512, 31, 24, .rw, 0⟩,
   ⟨0x4010, 32, 512, 23, 16, .rw, 0⟩,
   ⟨0x4014, 32, 512, 31, 24, .rw, 0⟩,
   ⟨0x4014, 32, 512, 23, 16, .rw, 0⟩,
   ⟨0x4014, 32, 512, 15, 8, .rw, 0⟩,
   ⟨0x4014, 32, 512, 7, 0, .rw, 0⟩,
   ⟨0x4018, 32, 512, 31, 24, .rw, 0⟩,
   ⟨0x4018, 32, 512, 23, 16, .rw, 0⟩,
   ⟨0x4018, 32, 512, 15, 8, .rw, 0⟩,
   ⟨0x4018, 32, 512, 7, 0, .rw, 0⟩,
   ⟨0x401C, 32, 512, 31, 22, .rw, 0⟩,
   ⟨0x401C, 32, 512, 21, 16, .rw, 0⟩]
def rowsCH_5 : List Row :=
  [⟨0x2000, 4, 2048, 31, 0, .rw, 0⟩]
/-- The fields of the CH block. -/
def rowsCH : List Row := rowsCH_0 ++ rowsCH_1 ++ rowsCH_2 ++ rowsCH_3 ++ rowsCH_4 ++ rowsCH_5

def rowsDEC_0 : List Row :=
  [⟨0x0, 0, 1, 1, 1, .rw, 1⟩,
   ⟨0x0, 0, 1, 0, 0, .rw, 1⟩,
   ⟨0x4, 0, 1, 31, 23, .ro, 0⟩,
   ⟨0x4, 0, 1, 15, 8, .ro, 0⟩,
   ⟨0x4, 0, 1, 3, 2, .rs, 0⟩,
   ⟨0x4, 0, 1, 1, 0, .ro, 3⟩,
   ⟨0x8, 0, 1, 31, 16, .rw, 0⟩,
   ⟨0xC, 0, 1, 31, 0, .rw, 0⟩,
   ⟨0x10, 4, 2, 31, 0, .ro, 0⟩,
   ⟨0x18, 0, 1, 31, 0, .ro, 0⟩,
   ⟨0x1C, 0, 1, 1, 1, .w1c, 0⟩,
   ⟨0x1C, 0, 1, 0, 0, .w1c, 0⟩,
   ⟨0x40, 0, 1, 29, 24, .st, 8⟩,
   ⟨0x40, 0, 1, 23, 18, .st, 14⟩,
   ⟨0x40, 0, 1, 17, 12, .st, 14⟩]
def rowsDEC_1 : List Row :=
  [⟨0x40, 0, 1, 11, 6, .st, 14⟩,
   ⟨0x40, 0, 1, 5, 0, .st, 14⟩,
   ⟨0x20, 0, 1, 31, 13, .rw, 0⟩,
   ⟨0x30, 0, 1, 31, 12, .rw, 0⟩,
   ⟨0x24, 0, 1, 31, 0, .rw, 0⟩,
   ⟨0x34, 0, 1, 31, 0, .rw, 0⟩,
   ⟨0x28, 0, 1, 24, 16, .ro, 0⟩,
   ⟨0x28, 0, 1, 8, 0, .rw, 0⟩,
   ⟨0x38, 0, 1, 24, 16, .ro, 0⟩,
   ⟨0x38, 0, 1, 8, 0, .rw, 0⟩,
   ⟨0x44, 0, 1, 31, 28, .st, 6⟩,
   ⟨0x44, 0, 1, 27, 23, .st, 16⟩,
   ⟨0x44, 0, 1, 22, 20, .st, 4⟩,
   ⟨0x44, 0, 1, 19, 16, .st, 4⟩,
   ⟨0x1000, 4, 1080, 31, 0, .ro, 0⟩]
/-- The fields of the DEC block. -/
def rowsDEC : List Row := rowsDEC_0 ++ rowsDEC_1

def rowsCRE_0 : List Row :=
  [⟨0x0, 0, 1, 2, 2, .wo, 0⟩,
   ⟨0x0, 0, 1, 1, 1, .wo, 0⟩,
   ⟨0x0, 0, 1, 0, 0, .rw, 0⟩,
   ⟨0x4, 0, 1, 31, 29, .ro, 0⟩,
   ⟨0x4, 0, 1, 28, 28, .w1c, 0⟩,
   ⟨0x4, 0, 1, 27, 27, .w1c, 0⟩,
   ⟨0x4, 0, 1, 26, 26, .w1c, 0⟩,
   ⟨0x4, 0, 1, 25, 21, .ro, 0⟩,
   ⟨0x4, 0, 1, 20, 13, .ro, 0⟩,
   ⟨0x4, 0, 1, 12, 0, .ro, 0⟩,
   ⟨0x8, 0, 1, 31, 0, .rw, 0⟩,
   ⟨0xC, 0, 1, 31, 0, .rw, 0⟩,
   ⟨0x10, 0, 1, 31, 0, .ro, 0⟩,
   ⟨0x14, 0, 1, 31, 16, .ro, 0⟩,
   ⟨0x14, 0, 1, 12, 0, .ro, 0⟩]
def rowsCRE_1 : List Row :=
  [⟨0x20, 0, 1, 9, 9, .w1c, 0⟩,
   ⟨0x20, 0, 1, 8, 8, .w1c, 0⟩,
   ⟨0x20, 0, 1, 4, 0, .w1c, 0⟩,
   ⟨0x24, 0, 1, 9, 9, .rw, 0⟩,
   ⟨0x24, 0, 1, 8, 8, .rw, 0⟩,
   ⟨0x24, 0, 1, 4, 0, .rw, 0⟩,
   ⟨0x40, 0, 1, 17, 0, .st, 0⟩,
   ⟨0x44, 0, 1, 15, 0, .st, 3200⟩,
   ⟨0x80, 4, 18, 29, 16, .st, 16383⟩,
   ⟨0x80, 4, 18, 13, 0, .st, 0⟩,
   ⟨0x100, 4, 18, 31, 16, .ro, 0⟩,
   ⟨0x100, 4, 18, 15, 0, .ro, 0⟩,
   ⟨0x180, 0, 1, 31, 0, .w1c, 0⟩,
   ⟨0x184, 0, 1, 31, 0, .w1c, 0⟩,
   ⟨0x190, 0, 1, 13, 0, .rw, 0⟩]
def rowsCRE_2 : List Row :=
  [⟨0x194, 0, 1, 31, 0, .rw, 0⟩,
   ⟨0x198, 0, 1, 13, 12, .rw, 0⟩,
   ⟨0x198, 0, 1, 11, 0, .rw, 0⟩,
   ⟨0x19C, 0, 1, 31, 0, .ro, 0⟩,
   ⟨0x200, 16, 4, 31, 31, .rw, 0⟩,
   ⟨0x200, 16, 4, 30, 30, .rw, 0⟩,
   ⟨0x200, 16, 4, 29, 25, .rw, 0⟩,
   ⟨0x200, 16, 4, 20, 10, .rw, 1024⟩,
   ⟨0x204, 16, 4, 31, 0, .rw, 0⟩,
   ⟨0x244, 16, 4, 31, 0, .rw, 0⟩,
   ⟨0x208, 16, 4, 31, 31, .ro, 0⟩,
   ⟨0x208, 16, 4, 30, 30, .w1c, 0⟩,
   ⟨0x208, 16, 4, 29, 29, .w1c, 0⟩,
   ⟨0x208, 16, 4, 9, 0, .ro, 0⟩,
   ⟨0x240, 16, 4, 31, 31, .rw, 0⟩]
def rowsCRE_3 : List Row :=
  [⟨0x240, 16, 4, 29, 22, .rw, 1⟩,
   ⟨0x240, 16, 4, 12, 0, .rw, 4096⟩,
   ⟨0x248, 16, 4, 31, 31, .ro, 0⟩,
   ⟨0x248, 16, 4, 30, 30, .w1c, 0⟩,
   ⟨0x248, 16, 4, 29, 29, .w1c, 0⟩,
   ⟨0x248, 16, 4, 12, 0, .ro, 0⟩,
   ⟨0x24C, 16, 4, 31, 0, .ro, 0⟩,
   ⟨0x300, 4, 5, 31, 24, .ro, 0⟩,
   ⟨0x300, 4, 5, 20, 16, .ro, 0⟩,
   ⟨0x300, 4, 5, 4, 0, .rw, 0⟩,
   ⟨0x400, 8, 64, 31, 0, .st, 2147483648⟩,
   ⟨0x404, 8, 64, 31, 0, .st, 2147483647⟩,
   ⟨0x1000, 4, 64, 31, 0, .ro, 0⟩,
   ⟨0x2000, 4, 1280, 31, 0, .ro, 0⟩,
   ⟨0x4000, 4, 4096, 31, 0, .rw, 0⟩]
/-- The fields of the CRE block. -/
def rowsCRE : List Row := rowsCRE_0 ++ rowsCRE_1 ++ rowsCRE_2 ++ rowsCRE_3

def rowsARM_0 : List Row :=
  [⟨0x0, 0, 1, 2, 2, .wo, 0⟩,
   ⟨0x0, 0, 1, 1, 1, .rw, 0⟩,
   ⟨0x0, 0, 1, 0, 0, .rw, 0⟩,
   ⟨0x4, 0, 1, 31, 29, .ro, 0⟩,
   ⟨0x4, 0, 1, 28, 28, .w1c, 0⟩,
   ⟨0x4, 0, 1, 27, 27, .w1c, 0⟩,
   ⟨0x4, 0, 1, 26, 26, .w1c, 0⟩,
   ⟨0x4, 0, 1, 25, 25, .w1c, 0⟩,
   ⟨0x4, 0, 1, 24, 24, .w1c, 0⟩,
   ⟨0x4, 0, 1, 23, 23, .w1c, 0⟩,
   ⟨0x8, 0, 1, 31, 16, .ro, 0⟩,
   ⟨0x8, 0, 1, 15, 0, .ro, 0⟩,
   ⟨0xC, 0, 1, 31, 16, .ro, 0⟩,
   ⟨0xC, 0, 1, 15, 0, .ro, 0⟩,
   ⟨0x10, 0, 1, 31, 31, .rw, 0⟩]
def rowsARM_1 : List Row :=
  [⟨0x10, 0, 1, 30, 30, .rw, 0⟩,
   ⟨0x10, 0, 1, 29, 23, .rw, 0⟩,
   ⟨0x10, 0, 1, 15, 0, .rw, 0⟩,
   ⟨0x14, 0, 1, 15, 0, .ro, 0⟩,
   ⟨0x40, 0, 1, 31, 24, .st, 200⟩,
   ⟨0x40, 0, 1, 23, 20, .st, 8⟩,
   ⟨0x40, 0, 1, 15, 8, .st, 60⟩,
   ⟨0x40, 0, 1, 7, 0, .st, 150⟩,
   ⟨0x44, 0, 1, 7, 0, .st, 80⟩,
   ⟨0x48, 0, 1, 15, 8, .st, 0⟩,
   ⟨0x48, 0, 1, 7, 0, .st, 255⟩,
   ⟨0x4C, 0, 1, 11, 0, .st, 80⟩,
   ⟨0x50, 0, 1, 31, 16, .st, 6000⟩,
   ⟨0x50, 0, 1, 15, 0, .st, 200⟩,
   ⟨0x54, 0, 1, 31, 24, .st, 48⟩]
def rowsARM_2 : List Row :=
  [⟨0x54, 0, 1, 23, 16, .st, 48⟩,
   ⟨0x54, 0, 1, 15, 8, .st, 96⟩]
/-- The fields of the ARM block. -/
def rowsARM : List Row := rowsARM_0 ++ rowsARM_1 ++ rowsARM_2

def rowsSPN_0 : List Row :=
  [⟨0x0, 0, 1, 1, 1, .rw, 1⟩,
   ⟨0x0, 0, 1, 0, 0, .rw, 0⟩,
   ⟨0x4, 0, 1, 31, 28, .ro, 0⟩,
   ⟨0x4, 0, 1, 27, 26, .ro, 0⟩,
   ⟨0x4, 0, 1, 25, 24, .ro, 0⟩,
   ⟨0x4, 0, 1, 23, 23, .ro, 0⟩,
   ⟨0x4, 0, 1, 22, 22, .ro, 0⟩,
   ⟨0x4, 0, 1, 21, 21, .ro, 0⟩,
   ⟨0x4, 0, 1, 20, 20, .ro, 0⟩,
   ⟨0x4, 0, 1, 19, 19, .w1c, 0⟩,
   ⟨0x4, 0, 1, 18, 18, .w1c, 0⟩,
   ⟨0x4, 0, 1, 17, 17, .w1c, 0⟩,
   ⟨0x4, 0, 1, 16, 16, .w1c, 0⟩,
   ⟨0x8, 0, 1, 31, 0, .ro, 0⟩,
   ⟨0xC, 0, 1, 31, 16, .ro, 0⟩]
def rowsSPN_1 : List Row :=
  [⟨0xC, 0, 1, 15, 0, .ro, 0⟩,
   ⟨0x10, 0, 1, 3, 0, .rs, 0⟩,
   ⟨0x14, 0, 1, 31, 24, .ro, 0⟩,
   ⟨0x14, 0, 1, 23, 16, .ro, 0⟩,
   ⟨0x14, 0, 1, 15, 8, .ro, 0⟩,
   ⟨0x14, 0, 1, 7, 4, .ro, 0⟩,
   ⟨0x14, 0, 1, 3, 0, .ro, 0⟩,
   ⟨0x20, 0, 1, 3, 3, .w1c, 0⟩,
   ⟨0x20, 0, 1, 2, 2, .w1c, 0⟩,
   ⟨0x20, 0, 1, 1, 1, .w1c, 0⟩,
   ⟨0x20, 0, 1, 0, 0, .w1c, 0⟩,
   ⟨0x24, 0, 1, 3, 3, .rw, 0⟩,
   ⟨0x24, 0, 1, 2, 2, .rw, 0⟩,
   ⟨0x24, 0, 1, 1, 1, .rw, 0⟩,
   ⟨0x24, 0, 1, 0, 0, .rw, 0⟩]
def rowsSPN_2 : List Row :=
  [⟨0x40, 0, 1, 19, 16, .st, 4⟩,
   ⟨0x40, 0, 1, 12, 0, .st, 4500⟩,
   ⟨0x44, 0, 1, 31, 16, .st, 306⟩,
   ⟨0x44, 0, 1, 15, 0, .st, 450⟩,
   ⟨0x48, 0, 1, 31, 24, .st, 200⟩,
   ⟨0x48, 0, 1, 23, 16, .st, 100⟩,
   ⟨0x48, 0, 1, 15, 8, .st, 150⟩,
   ⟨0x48, 0, 1, 7, 0, .st, 100⟩,
   ⟨0x4C, 0, 1, 18, 16, .st, 2⟩,
   ⟨0x4C, 0, 1, 15, 8, .st, 120⟩,
   ⟨0x4C, 0, 1, 7, 0, .st, 20⟩,
   ⟨0x50, 0, 1, 31, 24, .st, 75⟩,
   ⟨0x50, 0, 1, 23, 16, .st, 30⟩,
   ⟨0x50, 0, 1, 15, 8, .st, 75⟩,
   ⟨0x50, 0, 1, 7, 0, .st, 125⟩]
def rowsSPN_3 : List Row :=
  [⟨0x54, 0, 1, 31, 20, .st, 3000⟩,
   ⟨0x54, 0, 1, 19, 13, .st, 90⟩,
   ⟨0x54, 0, 1, 12, 0, .st, 1000⟩,
   ⟨0x58, 0, 1, 31, 24, .st, 20⟩,
   ⟨0x58, 0, 1, 23, 16, .st, 25⟩,
   ⟨0x58, 0, 1, 15, 8, .st, 30⟩,
   ⟨0x58, 0, 1, 7, 4, .st, 2⟩,
   ⟨0x5C, 0, 1, 15, 0, .st, 0⟩,
   ⟨0x60, 0, 1, 31, 24, .st, 40⟩,
   ⟨0x60, 0, 1, 23, 16, .st, 20⟩,
   ⟨0x60, 0, 1, 15, 8, .st, 50⟩,
   ⟨0x60, 0, 1, 7, 0, .st, 4⟩]
/-- The fields of the SPN block. -/
def rowsSPN : List Row := rowsSPN_0 ++ rowsSPN_1 ++ rowsSPN_2 ++ rowsSPN_3

def rowsPWR_0 : List Row :=
  [⟨0x0, 0, 1, 1, 1, .wo, 0⟩,
   ⟨0x0, 0, 1, 0, 0, .wo, 0⟩,
   ⟨0x4, 0, 1, 31, 29, .ro, 0⟩,
   ⟨0x4, 0, 1, 28, 28, .ro, 0⟩,
   ⟨0x4, 0, 1, 27, 27, .ro, 0⟩,
   ⟨0x4, 0, 1, 26, 26, .ro, 0⟩,
   ⟨0x4, 0, 1, 25, 25, .ro, 0⟩,
   ⟨0x4, 0, 1, 24, 24, .rs, 0⟩,
   ⟨0x4, 0, 1, 23, 23, .ro, 0⟩,
   ⟨0x8, 0, 1, 31, 16, .ro, 0⟩,
   ⟨0x8, 0, 1, 15, 0, .ro, 0⟩,
   ⟨0xC, 0, 1, 31, 16, .ro, 0⟩,
   ⟨0xC, 0, 1, 15, 0, .ro, 0⟩,
   ⟨0x10, 0, 1, 31, 24, .ro, 0⟩,
   ⟨0x10, 0, 1, 23, 16, .ro, 0⟩]
def rowsPWR_1 : List Row :=
  [⟨0x10, 0, 1, 15, 8, .ro, 0⟩,
   ⟨0x10, 0, 1, 7, 0, .ro, 0⟩,
   ⟨0x20, 0, 1, 3, 3, .w1c, 0⟩,
   ⟨0x20, 0, 1, 2, 2, .w1c, 0⟩,
   ⟨0x20, 0, 1, 1, 1, .w1c, 0⟩,
   ⟨0x20, 0, 1, 0, 0, .w1c, 0⟩,
   ⟨0x24, 0, 1, 3, 3, .rw, 0⟩,
   ⟨0x24, 0, 1, 2, 2, .rw, 0⟩,
   ⟨0x24, 0, 1, 1, 1, .rw, 0⟩,
   ⟨0x24, 0, 1, 0, 0, .rw, 0⟩,
   ⟨0x40, 0, 1, 31, 24, .st, 165⟩,
   ⟨0x40, 0, 1, 23, 16, .st, 175⟩,
   ⟨0x40, 0, 1, 15, 8, .st, 125⟩,
   ⟨0x40, 0, 1, 7, 0, .st, 12⟩,
   ⟨0x44, 0, 1, 31, 24, .st, 65⟩]
def rowsPWR_2 : List Row :=
  [⟨0x44, 0, 1, 23, 16, .st, 75⟩,
   ⟨0x44, 0, 1, 15, 8, .st, 85⟩,
   ⟨0x44, 0, 1, 7, 0, .st, 100⟩,
   ⟨0x48, 0, 1, 31, 24, .st, 20⟩,
   ⟨0x48, 0, 1, 23, 16, .st, 40⟩,
   ⟨0x48, 0, 1, 15, 8, .st, 80⟩,
   ⟨0x48, 0, 1, 7, 0, .st, 30⟩]
/-- The fields of the PWR block. -/
def rowsPWR : List Row := rowsPWR_0 ++ rowsPWR_1 ++ rowsPWR_2

def rowsFRK_0 : List Row :=
  [⟨0x0, 0, 1, 2, 2, .wo, 0⟩,
   ⟨0x0, 0, 1, 1, 1, .rw, 1⟩,
   ⟨0x0, 0, 1, 0, 0, .rw, 1⟩,
   ⟨0x4, 0, 1, 31, 29, .ro, 0⟩,
   ⟨0x4, 0, 1, 28, 23, .ro, 0⟩,
   ⟨0x4, 0, 1, 22, 22, .ro, 0⟩,
   ⟨0x4, 0, 1, 21, 21, .w1c, 0⟩,
   ⟨0x4, 0, 1, 20, 20, .w1c, 0⟩,
   ⟨0x8, 0, 1, 15, 8, .ro, 3⟩,
   ⟨0x8, 0, 1, 7, 0, .ro, 3⟩,
   ⟨0xC, 0, 1, 7, 0, .rw, 3⟩,
   ⟨0x10, 0, 1, 31, 24, .ro, 0⟩,
   ⟨0x10, 0, 1, 23, 16, .ro, 0⟩,
   ⟨0x10, 0, 1, 15, 8, .ro, 0⟩,
   ⟨0x10, 0, 1, 7, 0, .ro, 0⟩]
def rowsFRK_1 : List Row :=
  [⟨0x14, 0, 1, 31, 16, .ro, 0⟩,
   ⟨0x14, 0, 1, 15, 8, .ro, 0⟩,
   ⟨0x14, 0, 1, 7, 0, .ro, 0⟩,
   ⟨0x18, 0, 1, 31, 31, .rw, 0⟩,
   ⟨0x18, 0, 1, 6, 6, .rw, 0⟩,
   ⟨0x18, 0, 1, 5, 0, .rw, 0⟩,
   ⟨0x20, 0, 1, 2, 2, .w1c, 0⟩,
   ⟨0x20, 0, 1, 1, 1, .w1c, 0⟩,
   ⟨0x20, 0, 1, 0, 0, .w1c, 0⟩,
   ⟨0x24, 0, 1, 2, 2, .rw, 0⟩,
   ⟨0x24, 0, 1, 1, 1, .rw, 0⟩,
   ⟨0x24, 0, 1, 0, 0, .rw, 0⟩,
   ⟨0x40, 0, 1, 31, 16, .st, 0⟩,
   ⟨0x40, 0, 1, 15, 0, .st, 80⟩,
   ⟨0x44, 0, 1, 31, 24, .st, 80⟩]
def rowsFRK_2 : List Row :=
  [⟨0x44, 0, 1, 23, 16, .st, 55⟩,
   ⟨0x44, 0, 1, 15, 8, .st, 40⟩,
   ⟨0x44, 0, 1, 7, 3, .st, 3⟩,
   ⟨0x44, 0, 1, 0, 0, .st, 1⟩,
   ⟨0x48, 0, 1, 31, 0, .st, 4294967295⟩,
   ⟨0x4C, 0, 1, 31, 0, .st, 4294967295⟩,
   ⟨0x50, 0, 1, 31, 24, .st, 14⟩,
   ⟨0x50, 0, 1, 23, 16, .st, 16⟩,
   ⟨0x50, 0, 1, 15, 8, .st, 41⟩,
   ⟨0x50, 0, 1, 7, 0, .st, 4⟩,
   ⟨0x54, 0, 1, 31, 24, .st, 16⟩,
   ⟨0x54, 0, 1, 23, 16, .st, 8⟩,
   ⟨0x54, 0, 1, 15, 8, .st, 3⟩,
   ⟨0x54, 0, 1, 7, 0, .st, 1⟩,
   ⟨0x58, 0, 1, 23, 16, .st, 225⟩]
def rowsFRK_3 : List Row :=
  [⟨0x58, 0, 1, 15, 8, .st, 1⟩,
   ⟨0x58, 0, 1, 7, 0, .st, 1⟩]
/-- The fields of the FRK block. -/
def rowsFRK : List Row := rowsFRK_0 ++ rowsFRK_1 ++ rowsFRK_2 ++ rowsFRK_3

def rowsSOF_0 : List Row :=
  [⟨0x0, 0, 1, 1, 1, .rw, 0⟩,
   ⟨0x0, 0, 1, 0, 0, .rw, 0⟩,
   ⟨0x4, 0, 1, 31, 29, .ro, 0⟩,
   ⟨0x4, 0, 1, 8, 0, .ro, 0⟩,
   ⟨0x8, 0, 1, 31, 12, .rw, 0⟩,
   ⟨0xC, 0, 1, 31, 0, .rw, 0⟩,
   ⟨0x10, 0, 1, 31, 0, .rw, 0⟩,
   ⟨0x14, 0, 1, 31, 0, .ro, 0⟩,
   ⟨0x18, 0, 1, 31, 0, .rw, 0⟩,
   ⟨0x1C, 0, 1, 31, 0, .rw, 0⟩,
   ⟨0x20, 0, 1, 2, 2, .w1c, 0⟩,
   ⟨0x20, 0, 1, 1, 1, .w1c, 0⟩,
   ⟨0x20, 0, 1, 0, 0, .w1c, 0⟩,
   ⟨0x24, 0, 1, 2, 2, .rw, 0⟩,
   ⟨0x24, 0, 1, 1, 1, .rw, 0⟩]
def rowsSOF_1 : List Row :=
  [⟨0x24, 0, 1, 0, 0, .rw, 0⟩,
   ⟨0x28, 0, 1, 31, 12, .rw, 0⟩,
   ⟨0x34, 0, 1, 31, 12, .rw, 0⟩,
   ⟨0x2C, 0, 1, 31, 0, .rw, 0⟩,
   ⟨0x38, 0, 1, 31, 0, .rw, 0⟩,
   ⟨0x30, 0, 1, 24, 16, .ro, 0⟩,
   ⟨0x30, 0, 1, 8, 0, .rw, 0⟩,
   ⟨0x3C, 0, 1, 24, 16, .ro, 0⟩,
   ⟨0x3C, 0, 1, 8, 0, .rw, 0⟩,
   ⟨0x40, 0, 1, 31, 31, .st, 0⟩,
   ⟨0x40, 0, 1, 23, 16, .st, 200⟩,
   ⟨0x40, 0, 1, 15, 8, .st, 40⟩,
   ⟨0x40, 0, 1, 7, 0, .st, 25⟩,
   ⟨0x44, 0, 1, 31, 24, .st, 75⟩,
   ⟨0x44, 0, 1, 23, 16, .st, 50⟩]
def rowsSOF_2 : List Row :=
  [⟨0x44, 0, 1, 15, 8, .st, 16⟩,
   ⟨0x44, 0, 1, 7, 0, .st, 32⟩,
   ⟨0x48, 0, 1, 15, 8, .st, 8⟩,
   ⟨0x48, 0, 1, 7, 0, .st, 2⟩,
   ⟨0x4C, 0, 1, 31, 24, .st, 100⟩,
   ⟨0x4C, 0, 1, 23, 16, .st, 20⟩,
   ⟨0x4C, 0, 1, 15, 8, .st, 40⟩,
   ⟨0x4C, 0, 1, 7, 0, .st, 32⟩,
   ⟨0x50, 0, 1, 31, 24, .st, 64⟩,
   ⟨0x50, 0, 1, 23, 16, .st, 50⟩,
   ⟨0x54, 0, 1, 15, 0, .st, 60⟩]
/-- The fields of the SOF block. -/
def rowsSOF : List Row := rowsSOF_0 ++ rowsSOF_1 ++ rowsSOF_2

def rowsCNS_0 : List Row :=
  [⟨0x0, 0, 1, 1, 1, .rw, 0⟩,
   ⟨0x0, 0, 1, 0, 0, .rw, 0⟩,
   ⟨0x4, 0, 1, 31, 29, .ro, 0⟩,
   ⟨0x4, 0, 1, 8, 0, .ro, 0⟩,
   ⟨0x8, 0, 1, 31, 12, .rw, 0⟩,
   ⟨0x14, 0, 1, 31, 12, .rw, 0⟩,
   ⟨0xC, 0, 1, 31, 0, .rw, 0⟩,
   ⟨0x18, 0, 1, 31, 0, .rw, 0⟩,
   ⟨0x10, 0, 1, 24, 16, .ro, 0⟩,
   ⟨0x10, 0, 1, 8, 0, .rw, 0⟩,
   ⟨0x1C, 0, 1, 24, 16, .ro, 0⟩,
   ⟨0x1C, 0, 1, 8, 0, .rw, 0⟩,
   ⟨0x20, 0, 1, 2, 2, .w1c, 0⟩,
   ⟨0x20, 0, 1, 1, 1, .w1c, 0⟩,
   ⟨0x20, 0, 1, 0, 0, .w1c, 0⟩]
def rowsCNS_1 : List Row :=
  [⟨0x24, 0, 1, 2, 2, .rw, 0⟩,
   ⟨0x24, 0, 1, 1, 1, .rw, 0⟩,
   ⟨0x24, 0, 1, 0, 0, .rw, 0⟩,
   ⟨0x28, 0, 1, 31, 16, .ro, 0⟩,
   ⟨0x28, 0, 1, 15, 0, .ro, 0⟩,
   ⟨0x2C, 0, 1, 31, 0, .rw, 0⟩,
   ⟨0x30, 0, 1, 31, 31, .rw, 0⟩,
   ⟨0x30, 0, 1, 30, 28, .rw, 0⟩,
   ⟨0x30, 0, 1, 21, 16, .rw, 0⟩,
   ⟨0x34, 0, 1, 31, 31, .w1c, 0⟩,
   ⟨0x34, 0, 1, 30, 30, .ro, 1⟩,
   ⟨0x38, 0, 1, 31, 0, .rw, 0⟩,
   ⟨0x3C, 0, 1, 31, 0, .rw, 0⟩,
   ⟨0x40, 0, 1, 1, 0, .st, 0⟩,
   ⟨0x44, 0, 1, 31, 24, .st, 50⟩]
def rowsCNS_2 : List Row :=
  [⟨0x44, 0, 1, 23, 16, .st, 25⟩,
   ⟨0x44, 0, 1, 15, 8, .st, 120⟩,
   ⟨0x44, 0, 1, 3, 0, .st, 1⟩,
   ⟨0x48, 0, 1, 31, 24, .st, 4⟩,
   ⟨0x48, 0, 1, 23, 16, .st, 10⟩,
   ⟨0x60, 0, 1, 31, 31, .st, posmapResetU 3⟩,
   ⟨0x64, 0, 1, 31, 31, .st, posmapResetU 7⟩,
   ⟨0x68, 0, 1, 31, 31, .st, posmapResetU 11⟩,
   ⟨0x6C, 0, 1, 31, 31, .st, posmapResetU 15⟩,
   ⟨0x70, 0, 1, 31, 31, .st, posmapResetU 19⟩,
   ⟨0x74, 0, 1, 31, 31, .st, posmapResetU 23⟩,
   ⟨0x78, 0, 1, 31, 31, .st, posmapResetU 27⟩,
   ⟨0x7C, 0, 1, 31, 31, .st, posmapResetU 31⟩,
   ⟨0x60, 0, 1, 28, 24, .st, posmapResetS 3⟩,
   ⟨0x64, 0, 1, 28, 24, .st, posmapResetS 7⟩]
def rowsCNS_3 : List Row :=
  [⟨0x68, 0, 1, 28, 24, .st, posmapResetS 11⟩,
   ⟨0x6C, 0, 1, 28, 24, .st, posmapResetS 15⟩,
   ⟨0x70, 0, 1, 28, 24, .st, posmapResetS 19⟩,
   ⟨0x74, 0, 1, 28, 24, .st, posmapResetS 23⟩,
   ⟨0x78, 0, 1, 28, 24, .st, posmapResetS 27⟩,
   ⟨0x7C, 0, 1, 28, 24, .st, posmapResetS 31⟩,
   ⟨0x60, 0, 1, 23, 23, .st, posmapResetU 2⟩,
   ⟨0x64, 0, 1, 23, 23, .st, posmapResetU 6⟩,
   ⟨0x68, 0, 1, 23, 23, .st, posmapResetU 10⟩,
   ⟨0x6C, 0, 1, 23, 23, .st, posmapResetU 14⟩,
   ⟨0x70, 0, 1, 23, 23, .st, posmapResetU 18⟩,
   ⟨0x74, 0, 1, 23, 23, .st, posmapResetU 22⟩,
   ⟨0x78, 0, 1, 23, 23, .st, posmapResetU 26⟩,
   ⟨0x7C, 0, 1, 23, 23, .st, posmapResetU 30⟩,
   ⟨0x60, 0, 1, 20, 16, .st, posmapResetS 2⟩]
def rowsCNS_4 : List Row :=
  [⟨0x64, 0, 1, 20, 16, .st, posmapResetS 6⟩,
   ⟨0x68, 0, 1, 20, 16, .st, posmapResetS 10⟩,
   ⟨0x6C, 0, 1, 20, 16, .st, posmapResetS 14⟩,
   ⟨0x70, 0, 1, 20, 16, .st, posmapResetS 18⟩,
   ⟨0x74, 0, 1, 20, 16, .st, posmapResetS 22⟩,
   ⟨0x78, 0, 1, 20, 16, .st, posmapResetS 26⟩,
   ⟨0x7C, 0, 1, 20, 16, .st, posmapResetS 30⟩,
   ⟨0x60, 0, 1, 15, 15, .st, posmapResetU 1⟩,
   ⟨0x64, 0, 1, 15, 15, .st, posmapResetU 5⟩,
   ⟨0x68, 0, 1, 15, 15, .st, posmapResetU 9⟩,
   ⟨0x6C, 0, 1, 15, 15, .st, posmapResetU 13⟩,
   ⟨0x70, 0, 1, 15, 15, .st, posmapResetU 17⟩,
   ⟨0x74, 0, 1, 15, 15, .st, posmapResetU 21⟩,
   ⟨0x78, 0, 1, 15, 15, .st, posmapResetU 25⟩,
   ⟨0x7C, 0, 1, 15, 15, .st, posmapResetU 29⟩]
def rowsCNS_5 : List Row :=
  [⟨0x60, 0, 1, 12, 8, .st, posmapResetS 1⟩,
   ⟨0x64, 0, 1, 12, 8, .st, posmapResetS 5⟩,
   ⟨0x68, 0, 1, 12, 8, .st, posmapResetS 9⟩,
   ⟨0x6C, 0, 1, 12, 8, .st, posmapResetS 13⟩,
   ⟨0x70, 0, 1, 12, 8, .st, posmapResetS 17⟩,
   ⟨0x74, 0, 1, 12, 8, .st, posmapResetS 21⟩,
   ⟨0x78, 0, 1, 12, 8, .st, posmapResetS 25⟩,
   ⟨0x7C, 0, 1, 12, 8, .st, posmapResetS 29⟩,
   ⟨0x60, 0, 1, 7, 7, .st, posmapResetU 0⟩,
   ⟨0x64, 0, 1, 7, 7, .st, posmapResetU 4⟩,
   ⟨0x68, 0, 1, 7, 7, .st, posmapResetU 8⟩,
   ⟨0x6C, 0, 1, 7, 7, .st, posmapResetU 12⟩,
   ⟨0x70, 0, 1, 7, 7, .st, posmapResetU 16⟩,
   ⟨0x74, 0, 1, 7, 7, .st, posmapResetU 20⟩,
   ⟨0x78, 0, 1, 7, 7, .st, posmapResetU 24⟩]
def rowsCNS_6 : List Row :=
  [⟨0x7C, 0, 1, 7, 7, .st, posmapResetU 28⟩,
   ⟨0x60, 0, 1, 4, 0, .st, posmapResetS 0⟩,
   ⟨0x64, 0, 1, 4, 0, .st, posmapResetS 4⟩,
   ⟨0x68, 0, 1, 4, 0, .st, posmapResetS 8⟩,
   ⟨0x6C, 0, 1, 4, 0, .st, posmapResetS 12⟩,
   ⟨0x70, 0, 1, 4, 0, .st, posmapResetS 16⟩,
   ⟨0x74, 0, 1, 4, 0, .st, posmapResetS 20⟩,
   ⟨0x78, 0, 1, 4, 0, .st, posmapResetS 24⟩,
   ⟨0x7C, 0, 1, 4, 0, .st, posmapResetS 28⟩,
   ⟨0x100, 4, 8, 31, 0, .wo, 0⟩,
   ⟨0x120, 0, 1, 31, 0, .ro, 0⟩,
   ⟨0x124, 0, 1, 31, 0, .ro, 0⟩]
/-- The fields of the CNS block. -/
def rowsCNS : List Row := rowsCNS_0 ++ rowsCNS_1 ++ rowsCNS_2 ++ rowsCNS_3 ++ rowsCNS_4 ++ rowsCNS_5 ++ rowsCNS_6

def rowsETH_0 : List Row :=
  [⟨0x0, 0, 1, 3, 3, .rw, 0⟩,
   ⟨0x0, 0, 1, 2, 2, .rw, 1⟩,
   ⟨0x0, 0, 1, 1, 1, .wo, 0⟩,
   ⟨0x0, 0, 1, 0, 0, .rw, 1⟩,
   ⟨0x4, 0, 1, 31, 29, .ro, 0⟩,
   ⟨0x4, 0, 1, 28, 27, .ro, 0⟩,
   ⟨0x4, 0, 1, 26, 25, .ro, 0⟩,
   ⟨0x4, 0, 1, 24, 24, .ro, 0⟩,
   ⟨0x8, 0, 1, 31, 16, .ro, 0⟩,
   ⟨0x8, 0, 1, 15, 0, .ro, 0⟩,
   ⟨0xC, 0, 1, 31, 16, .ro, 0⟩,
   ⟨0xC, 0, 1, 15, 0, .ro, 0⟩,
   ⟨0x20, 0, 1, 1, 1, .w1c, 0⟩,
   ⟨0x20, 0, 1, 0, 0, .w1c, 0⟩,
   ⟨0x24, 0, 1, 1, 1, .rw, 0⟩]
def rowsETH_1 : List Row :=
  [⟨0x24, 0, 1, 0, 0, .rw, 0⟩,
   ⟨0x40, 0, 1, 31, 0, .st, 0⟩,
   ⟨0x44, 0, 1, 15, 0, .st, 0⟩,
   ⟨0x48, 0, 1, 31, 31, .st, 0⟩,
   ⟨0x48, 0, 1, 30, 28, .st, 0⟩,
   ⟨0x48, 0, 1, 27, 16, .st, 0⟩,
   ⟨0x48, 0, 1, 13, 0, .st, 1500⟩]
/-- The fields of the ETH block. -/
def rowsETH : List Row := rowsETH_0 ++ rowsETH_1

def rowsPRE_0 : List Row :=
  [⟨0x0, 0, 1, 2, 2, .wo, 0⟩,
   ⟨0x0, 0, 1, 1, 1, .wo, 0⟩,
   ⟨0x0, 0, 1, 0, 0, .rw, 0⟩,
   ⟨0x4, 0, 1, 31, 29, .ro, 0⟩,
   ⟨0x4, 0, 1, 28, 28, .w1c, 0⟩,
   ⟨0x4, 0, 1, 27, 27, .w1c, 0⟩,
   ⟨0x4, 0, 1, 10, 0, .ro, 0⟩,
   ⟨0x8, 0, 1, 31, 0, .rw, 0⟩,
   ⟨0xC, 0, 1, 31, 0, .rw, 0⟩,
   ⟨0x10, 0, 1, 31, 0, .ro, 0⟩,
   ⟨0x14, 0, 1, 23, 16, .ro, 0⟩,
   ⟨0x14, 0, 1, 15, 8, .ro, 0⟩,
   ⟨0x14, 0, 1, 7, 0, .ro, 0⟩,
   ⟨0x18, 0, 1, 15, 0, .ro, 0⟩,
   ⟨0x1C, 0, 1, 31, 16, .wo, 0⟩]
def rowsPRE_1 : List Row :=
  [⟨0x1C, 0, 1, 15, 8, .wo, 0⟩,
   ⟨0x1C, 0, 1, 7, 0, .wo, 0⟩,
   ⟨0x20, 0, 1, 2, 2, .w1c, 0⟩,
   ⟨0x20, 0, 1, 1, 1, .w1c, 0⟩,
   ⟨0x20, 0, 1, 0, 0, .w1c, 0⟩,
   ⟨0x24, 0, 1, 2, 2, .rw, 0⟩,
   ⟨0x24, 0, 1, 1, 1, .rw, 0⟩,
   ⟨0x24, 0, 1, 0, 0, .rw, 0⟩,
   ⟨0x40, 0, 1, 23, 16, .st, 25⟩,
   ⟨0x44, 0, 1, 31, 24, .st, 5⟩,
   ⟨0x44, 0, 1, 23, 16, .st, 20⟩,
   ⟨0x44, 0, 1, 15, 12, .st, 3⟩,
   ⟨0x44, 0, 1, 11, 0, .st, 256⟩]
/-- The fields of the PRE block. -/
def rowsPRE : List Row := rowsPRE_0 ++ rowsPRE_1

def rowsHQ_0 : List Row :=
  [⟨0x0, 0, 1, 1, 1, .rw, 0⟩,
   ⟨0x0, 0, 1, 0, 0, .rw, 0⟩,
   ⟨0x4, 0, 1, 28, 16, .ro, 0⟩,
   ⟨0x4, 0, 1, 9, 0, .ro, 0⟩,
   ⟨0x8, 0, 1, 26, 16, .ro, 0⟩,
   ⟨0x8, 0, 1, 10, 0, .ro, 0⟩,
   ⟨0xC, 0, 1, 31, 16, .ro, 0⟩,
   ⟨0xC, 0, 1, 15, 0, .ro, 0⟩,
   ⟨0x20, 0, 1, 2, 2, .w1c, 0⟩,
   ⟨0x20, 0, 1, 1, 1, .w1c, 0⟩,
   ⟨0x20, 0, 1, 0, 0, .w1c, 0⟩,
   ⟨0x24, 0, 1, 2, 2, .rw, 0⟩,
   ⟨0x24, 0, 1, 1, 1, .rw, 0⟩,
   ⟨0x24, 0, 1, 0, 0, .rw, 0⟩,
   ⟨0x40, 0, 1, 31, 24, .st, 50⟩]
def rowsHQ_1 : List Row :=
  [⟨0x40, 0, 1, 15, 0, .st, 280⟩,
   ⟨0x44, 0, 1, 31, 16, .st, 100⟩,
   ⟨0x44, 0, 1, 15, 0, .st, 20⟩,
   ⟨0x48, 0, 1, 15, 0, .st, 310⟩]
/-- The fields of the HQ block. -/
def rowsHQ : List Row := rowsHQ_0 ++ rowsHQ_1

def rowsBPM_0 : List Row :=
  [⟨0x0, 0, 1, 3, 0, .rw, 15⟩,
   ⟨0x10, 8, 4, 31, 0, .rw, 0⟩,
   ⟨0x14, 8, 4, 31, 0, .rw, 0⟩,
   ⟨0x40, 4, 4, 31, 0, .ro, 4294967295⟩,
   ⟨0x50, 0, 1, 31, 0, .wo, 0⟩,
   ⟨0x54, 0, 1, 31, 0, .wo, 0⟩,
   ⟨0x60, 4, 4, 31, 28, .ro, 0⟩,
   ⟨0x60, 4, 4, 27, 19, .ro, 0⟩,
   ⟨0x60, 4, 4, 18, 0, .ro, 0⟩,
   ⟨0x70, 0, 1, 4, 4, .w1c, 0⟩,
   ⟨0x70, 0, 1, 3, 0, .w1c, 0⟩,
   ⟨0x74, 0, 1, 4, 4, .rw, 0⟩,
   ⟨0x74, 0, 1, 3, 0, .rw, 0⟩]
/-- The fields of the BPM block. -/
def rowsBPM : List Row := rowsBPM_0

def rowsPHC_0 : List Row :=
  [⟨0x0, 0, 1, 5, 2, .rw, 8⟩,
   ⟨0x0, 0, 1, 1, 1, .rw, 0⟩,
   ⟨0x0, 0, 1, 0, 0, .rw, 0⟩,
   ⟨0x10, 0, 1, 31, 30, .rw, 1⟩,
   ⟨0x18, 0, 1, 31, 30, .rw, 0⟩,
   ⟨0x20, 0, 1, 31, 30, .rw, 0⟩,
   ⟨0x28, 0, 1, 31, 30, .rw, 0⟩,
   ⟨0x10, 8, 4, 22, 0, .rw, 0⟩,
   ⟨0x14, 0, 1, 22, 0, .rw, 0x7FFFFF⟩,
   ⟨0x1C, 0, 1, 22, 0, .rw, 0⟩,
   ⟨0x24, 0, 1, 22, 0, .rw, 0⟩,
   ⟨0x2C, 0, 1, 22, 0, .rw, 0⟩,
   ⟨0x30, 0, 1, 31, 16, .ro, 0⟩,
   ⟨0x30, 0, 1, 15, 8, .ro, 0⟩,
   ⟨0x30, 0, 1, 7, 0, .ro, 0⟩]
/-- The fields of the PHC block. -/
def rowsPHC : List Row := rowsPHC_0

def rowsDMA_0 : List Row :=
  [⟨0x100, 32, 64, 31, 0, .rw, 0⟩,
   ⟨0x104, 32, 64, 31, 0, .rw, 0⟩,
   ⟨0x108, 32, 64, 24, 16, .ro, 0⟩,
   ⟨0x108, 32, 64, 8, 0, .rw, 0⟩,
   ⟨0x10C, 32, 64, 4, 3, .rw, 0⟩,
   ⟨0x10C, 32, 64, 2, 2, .wo, 0⟩,
   ⟨0x10C, 32, 64, 1, 1, .wo, 0⟩,
   ⟨0x10C, 32, 64, 0, 0, .rw, 0⟩,
   ⟨0x110, 32, 64, 31, 30, .ro, 0⟩,
   ⟨0x110, 32, 64, 26, 0, .ro, 0⟩,
   ⟨0x10, 0, 1, 31, 0, .w1c, 0⟩,
   ⟨0x14, 0, 1, 31, 0, .w1c, 0⟩,
   ⟨0x18, 0, 1, 31, 0, .rw, 0⟩,
   ⟨0x1C, 0, 1, 31, 0, .rw, 0⟩]
/-- The fields of the DMA block. -/
def rowsDMA : List Row := rowsDMA_0

def rowsMEM_0 : List Row :=
  [⟨0x0, 0, 1, 31, 30, .ro, 0⟩,
   ⟨0x4, 0, 1, 31, 16, .ro, 0⟩,
   ⟨0x4, 0, 1, 15, 8, .ro, 0⟩,
   ⟨0x4, 0, 1, 7, 4, .ro, 0⟩,
   ⟨0x4, 0, 1, 3, 0, .ro, 0⟩,
   ⟨0x8, 0, 1, 31, 29, .ro, 0⟩,
   ⟨0x8, 0, 1, 28, 0, .ro, 0⟩,
   ⟨0xC, 0, 1, 4, 0, .ro, 16⟩,
   ⟨0x40, 4, 16, 31, 31, .ro, 0⟩,
   ⟨0x40, 4, 16, 30, 30, .ro, 0⟩,
   ⟨0x40, 4, 16, 28, 0, .ro, 0⟩,
   ⟨0x10, 0, 1, 31, 16, .ro, 0⟩,
   ⟨0x10, 0, 1, 7, 0, .rw, 16⟩]
/-- The fields of the MEM block. -/
def rowsMEM : List Row := rowsMEM_0

def rowsNFC_0 : List Row :=
  [⟨0x0, 0, 1, 0, 0, .rw, 0⟩,
   ⟨0x4, 0, 1, 31, 30, .ro, 0⟩,
   ⟨0x4, 0, 1, 29, 16, .ro, 0⟩,
   ⟨0x4, 0, 1, 15, 8, .ro, 0⟩,
   ⟨0x4, 0, 1, 7, 0, .ro, 0⟩,
   ⟨0x8, 0, 1, 31, 0, .rw, 0⟩,
   ⟨0xC, 0, 1, 31, 0, .rw, 0⟩,
   ⟨0x10, 0, 1, 24, 16, .ro, 0⟩,
   ⟨0x10, 0, 1, 8, 0, .rw, 0⟩,
   ⟨0x40, 0, 1, 13, 0, .st, 304⟩]
/-- The fields of the NFC block. -/
def rowsNFC : List Row := rowsNFC_0

def rowsTHM_0 : List Row :=
  [⟨0x0, 0, 1, 1, 1, .wo, 0⟩,
   ⟨0x0, 0, 1, 0, 0, .rw, 1⟩,
   ⟨0x4, 0, 1, 31, 29, .ro, 0⟩,
   ⟨0x4, 0, 1, 28, 27, .ro, 0⟩,
   ⟨0x4, 0, 1, 26, 26, .ro, 0⟩,
   ⟨0x4, 0, 1, 25, 25, .w1c, 0⟩,
   ⟨0x4, 0, 1, 24, 23, .rs, 0⟩,
   ⟨0x4, 0, 1, 15, 8, .rs, 0⟩,
   ⟨0x8, 0, 1, 31, 16, .ro, 0⟩,
   ⟨0x8, 0, 1, 15, 0, .ro, 0⟩,
   ⟨0x80, 4, 8, 31, 31, .ro, 0⟩,
   ⟨0x80, 4, 8, 15, 0, .ro, 0⟩,
   ⟨0x20, 0, 1, 3, 3, .w1c, 0⟩,
   ⟨0x20, 0, 1, 2, 2, .w1c, 0⟩,
   ⟨0x20, 0, 1, 1, 1, .w1c, 0⟩]
def rowsTHM_1 : List Row :=
  [⟨0x20, 0, 1, 0, 0, .w1c, 0⟩,
   ⟨0x24, 0, 1, 3, 3, .rw, 0⟩,
   ⟨0x24, 0, 1, 2, 2, .rw, 0⟩,
   ⟨0x24, 0, 1, 1, 1, .rw, 0⟩,
   ⟨0x24, 0, 1, 0, 0, .rw, 0⟩,
   ⟨0x30, 0, 1, 31, 16, .ro, 0⟩,
   ⟨0x30, 0, 1, 15, 0, .ro, 0⟩,
   ⟨0x34, 0, 1, 15, 0, .ro, 0⟩,
   ⟨0x40, 0, 1, 31, 24, .st, 95⟩,
   ⟨0x40, 0, 1, 23, 16, .st, 105⟩,
   ⟨0x40, 0, 1, 15, 8, .st, 120⟩,
   ⟨0x44, 0, 1, 31, 24, .st, 60⟩,
   ⟨0x44, 0, 1, 23, 16, .st, 65⟩,
   ⟨0x48, 0, 1, 31, 16, .st, 1000⟩,
   ⟨0x48, 0, 1, 15, 0, .st, 1500⟩]
def rowsTHM_2 : List Row :=
  [⟨0x4C, 0, 1, 31, 24, .st, 10⟩,
   ⟨0x4C, 0, 1, 23, 16, .st, 100⟩]
/-- The fields of the THM block. -/
def rowsTHM : List Row := rowsTHM_0 ++ rowsTHM_1 ++ rowsTHM_2

def rowsFLT_0 : List Row :=
  [⟨0x0, 0, 1, 0, 0, .rw, 1⟩,
   ⟨0x4, 0, 1, 31, 29, .ro, 0⟩,
   ⟨0x4, 0, 1, 28, 23, .ro, 0⟩,
   ⟨0x4, 0, 1, 6, 0, .ro, 0⟩,
   ⟨0x8, 0, 1, 9, 3, .rw, 0⟩,
   ⟨0x8, 0, 1, 2, 0, .rw, 0⟩,
   ⟨0xC, 0, 1, 31, 0, .ro, 0⟩,
   ⟨0x10, 0, 1, 31, 31, .wo, 0⟩,
   ⟨0x10, 0, 1, 6, 0, .wo, 0⟩,
   ⟨0x14, 0, 1, 31, 16, .ro, 0⟩,
   ⟨0x14, 0, 1, 15, 8, .ro, 0⟩,
   ⟨0x14, 0, 1, 7, 0, .ro, 0⟩,
   ⟨0x18, 0, 1, 23, 21, .rw, 0⟩,
   ⟨0x18, 0, 1, 20, 0, .rw, 0⟩,
   ⟨0x20, 0, 1, 2, 2, .w1c, 0⟩]
def rowsFLT_1 : List Row :=
  [⟨0x20, 0, 1, 1, 1, .w1c, 0⟩,
   ⟨0x20, 0, 1, 0, 0, .w1c, 0⟩,
   ⟨0x24, 0, 1, 2, 2, .rw, 0⟩,
   ⟨0x24, 0, 1, 1, 1, .rw, 0⟩,
   ⟨0x24, 0, 1, 0, 0, .rw, 0⟩,
   ⟨0x40, 0, 1, 31, 31, .rw, 0⟩,
   ⟨0x40, 0, 1, 30, 28, .rw, 0⟩,
   ⟨0x40, 0, 1, 27, 26, .rw, 1⟩,
   ⟨0x40, 0, 1, 25, 25, .rw, 0⟩,
   ⟨0x40, 0, 1, 24, 24, .w1c, 0⟩,
   ⟨0x44, 0, 1, 31, 0, .rw, 0⟩,
   ⟨0x48, 0, 1, 31, 0, .rw, 0⟩,
   ⟨0x4C, 0, 1, 31, 24, .st, 100⟩,
   ⟨0x4C, 0, 1, 23, 16, .st, 10⟩,
   ⟨0x4C, 0, 1, 15, 8, .st, 50⟩]
/-- The fields of the FLT block. -/
def rowsFLT : List Row := rowsFLT_0 ++ rowsFLT_1

def rowsLDG_0 : List Row :=
  [⟨0x0, 0, 1, 1, 1, .wo, 0⟩,
   ⟨0x0, 0, 1, 0, 0, .wo, 0⟩,
   ⟨0x4, 0, 1, 31, 31, .ro, 0⟩,
   ⟨0x4, 0, 1, 25, 16, .ro, 0⟩,
   ⟨0x4, 0, 1, 9, 0, .ro, 0⟩,
   ⟨0x8, 0, 1, 31, 0, .rw, 0⟩,
   ⟨0xC, 0, 1, 31, 0, .rw, 0⟩,
   ⟨0x10, 0, 1, 31, 0, .rw, 0⟩,
   ⟨0x14, 0, 1, 31, 0, .rw, 0⟩,
   ⟨0x18, 0, 1, 31, 0, .rw, 0⟩,
   ⟨0x40, 4, 8, 31, 0, .wo, 0⟩,
   ⟨0x60, 0, 1, 31, 0, .wo, 0⟩,
   ⟨0x64, 0, 1, 31, 31, .ro, 0⟩,
   ⟨0x68, 0, 1, 31, 0, .ro, 0⟩,
   ⟨0x70, 0, 1, 12, 4, .rw, 0⟩]
def rowsLDG_1 : List Row :=
  [⟨0x70, 0, 1, 3, 0, .rw, 0⟩,
   ⟨0x74, 0, 1, 31, 0, .ro, 0⟩,
   ⟨0x78, 0, 1, 25, 16, .ro, 0⟩,
   ⟨0x78, 0, 1, 9, 0, .rw, 0⟩,
   ⟨0x7C, 0, 1, 31, 0, .ro, 0⟩]
/-- The fields of the LDG block. -/
def rowsLDG : List Row := rowsLDG_0 ++ rowsLDG_1

end Sys2Proof.Reg
end

