-- ==== Sys2Proof/Machine/Sparse.lean ====
section
/-!
DEFINITION. Sparse data by key: a list of key and value pairs, keys strictly rising, in one canonical form, so that equal
contents are equal lists. The register file, the DRAM, the strongroom and every table of the device that is mostly at one
value are held so. `putD` keeps no entry equal to what an unlisted key reads as.
-/
namespace Sys2Proof

/-- Values by key. -/
abbrev Sparse (α : Type) := List (Nat × α)

/-- The value of a key, where it is listed. -/
def sGet? {α : Type} : Sparse α → Nat → Option α
  | [], _ => none
  | (a, v) :: t, k => if a = k then some v else sGet? t k

/-- List a value, in the place its key has. -/
def sIns {α : Type} : Sparse α → Nat → α → Sparse α
  | [], k, v => [(k, v)]
  | (a, w) :: t, k, v =>
    if k < a then (k, v) :: (a, w) :: t
    else if k = a then (k, v) :: t
    else (a, w) :: sIns t k v

/-- Take a key out. -/
def sDel {α : Type} (m : Sparse α) (k : Nat) : Sparse α := m.filter fun p => p.1 != k

/-- The value of a key, `d` where it is not listed. -/
def sGet {α : Type} (m : Sparse α) (k : Nat) (d : α) : α := (sGet? m k).getD d

/-- Give a key a value, keeping nothing listed that equals the value `d` of an unlisted key. -/
def sPut {α : Type} [DecidableEq α] (m : Sparse α) (k : Nat) (v d : α) : Sparse α :=
  if v = d then sDel m k else sIns m k v

/-- The canonical form: keys strictly rising. -/
abbrev sRising {α : Type} (m : Sparse α) : Prop := m.Pairwise fun p q => p.1 < q.1

/-- The canonical form with a fixed value for unlisted keys: keys strictly rising and no entry equal to that value. -/
abbrev sWf {α : Type} [DecidableEq α] (m : Sparse α) (d : α) : Prop := sRising m ∧ ∀ p ∈ m, p.2 ≠ d

end Sys2Proof
end

