-- ==== Sys2Proof/Machine/State.lean ====
section
/-!
DEFINITION. The state of the device as plain data, and the state after a cold start. Register fields are held by key, at
their reset values where they are not listed; everything else the spec gives the device that no register shows has a field
of its own.
-/
namespace Sys2Proof.Machine

/-- Why the machine stops with a fault. -/
inductive Fault where
  /-- Raised by `execMainsApplied`, `execDriveBusValid` and the other commands that carry a physical level, when it lies
  outside the absolute ratings of R463, beyond which the spec gives the device no behaviour. Safe: the model stops. -/
  | beyondRatings
  deriving DecidableEq, Repr

/-- Why a command is refused. -/
inductive Refusal where
  /-- Raised by `exec` for a command that has no meaning yet, by its mnemonic. Safe: the model stops. -/
  | notModelled (mnemonic : String)
  deriving DecidableEq, Repr

/-- What the last register access of the bus gave (R6, R14): nothing yet, the word read, a write done, a busy refusal of a
post (R21), or a bus error. -/
inductive BusResult where
  | none
  | read (w : Nat)
  | written
  | busy
  | error
  deriving DecidableEq, Repr

/-- A capture record of the returns desk (R445), with what the device keeps beside it: the domain that owns the source
(R447; 7 for none), the time of the latest capture in ms for the merge window (R446), the order of capture, and the core
that was interrupted. -/
structure CapRec where
  source : Nat
  code : Nat
  level : Nat
  cls : Nat
  injected : Bool
  st : Nat
  count : Nat
  firstTick : Nat
  lastTick : Nat
  potMs : Nat
  addr : Nat
  info : Nat
  ledger : Nat
  dom : Nat
  lastMs : Nat
  serial : Nat
  core : Nat
  deriving DecidableEq, Repr

/-- The returns desk (R445 to R449): the capture records by place, the level-4 and level-5 faults held in capture order
(R448), the record with its handler, the grave fault pending and whether it is a thermal shutdown, the counts of log page
0xC4 (R457), and when the record was delivered, in ms. -/
structure Desk where
  recs : Sparse CapRec
  held : List Nat
  current : Option Nat
  grave : Option Bool
  deferred : Bool
  serial : Nat
  events : Nat
  faults : Nat
  graves : Nat
  injected : Nat
  levels : Sparse Nat
  mostHeld : Nat
  timeouts : Nat
  injActive : Bool
  sinceMs : Nat
  deriving DecidableEq, Repr

/-- A record of the registry ledger (R452); the payload is seven words. Its CRC is computed where it is read. -/
structure LdgRec where
  mark : Nat
  flags : Nat
  type : Nat
  seq : Nat
  tick : Nat
  pot : Nat
  boot : Nat
  payload : List Nat
  deriving DecidableEq, Repr

/-- A freeze slot of the strongroom (R454, R456). -/
structure FreezeSlot where
  trigger : Nat
  first : Nat
  count : Nat
  tick : Nat
  pot : Nat
  recs : List LdgRec
  deriving DecidableEq, Repr

/-- The registry ledger (R451): the staging places, the ring (oldest first), the freeze slots, whether a record has been
committed since reset (R462), the losses not yet told in a LOST record (R453), and the trigger of the freeze in force. -/
structure Ledger where
  stage : Sparse LdgRec
  ring : List LdgRec
  slots : Sparse FreezeSlot
  committed : Bool
  lostPending : Nat
  trigger : Nat
  deriving DecidableEq, Repr

/-- A sealed set in the making (R53 to R57): the staged words by live register address, in the order of their first
writing, and the tick count the set is armed for. -/
structure Envelope where
  writes : List (Nat × Nat)
  armed : Option Nat
  armedAny : Bool
  deriving DecidableEq, Repr

/-- The response to a command: its status, Do Not Retry, and the retry delay it selects (R395, R396). -/
structure Verdict where
  status : Status
  dnr : Bool
  crd : Nat
  deriving DecidableEq, Repr

/-- What a port sends that is no NVMe/TCP PDU (R370, R371): the TCP segments that open, reset, close and acknowledge, a
retransmission, and the answers to network frames. An opening and an acknowledgement carry the window and an opening its scale (R406), a
retransmission the largest packet of its path (R370), the answers for an address the port's MAC address (R369). -/
inductive NetOut where
  | synAck (conn window scale : Nat)
  | rst
  | fin (conn : Nat)
  | ack (conn bytes window : Nat)
  | resend (conn bytes mtu : Nat)
  | arpReply (ip mac : Nat)
  | echo4 (dest : Nat)
  | echo6 (dest : Nat)
  | neighbour (ip mac : Nat)
  | dhcp4Request (ip : Nat)
  | dhcp6Request (ip : Nat)
  deriving DecidableEq, Repr

/-- What the device sends out of itself. -/
inductive Out where
  /-- An interrupt to a core: the core and the block that raises it. -/
  | interrupt (core : Nat) (block : Nat)
  /-- A sector written to the media (R108, R119): the surface, the track, the sector, and the information bytes of its
  codeword, scrambled (R115, R117). -/
  | sector (surface track sector : Nat) (fields : List (List Bool)) (edges : List (List (Nat × Nat)))
  /-- A frame of the arm serial port (R211): the arm, whether it reads, the preamp's register and the data of a write. -/
  | aspFrame (x : Act) (rd : Bool) (addr data : Nat)
  /-- A frame on the Kerrex bus (R283), byte by byte. -/
  | kerrex (bytes : List Nat)
  /-- ICResp on a connection, with the digests it sets (R377). -/
  | icResp (conn : Nat) (hdgst ddgst : Bool)
  /-- C2HTermReq that reports an invalid PDU header field (R373). -/
  | c2hTerm (conn : Nat)
  /-- A response capsule: connection, CID, verdict, dword 0 and SQHD (R378, R403). -/
  | response (conn cid : Nat) (v : Verdict) (dw0 sqhd : Nat)
  /-- Data to the host: connection, CID, the bytes (R373), and the largest packet of the connection's path (R370). -/
  | data (conn cid : Nat) (bytes : List Nat) (mtu : Nat)
  /-- An R2T: connection, CID, offset and length (R390). -/
  | r2t (conn cid offset length : Nat)
  /-- What a port sends besides, with the priority and the VLAN of its tag where it sends tagged frames (R369). -/
  | net (port : Nat) (tag : Option (Nat × Nat)) (f : NetOut)
  /-- A PDU built by the protocol engine from a connection's S words, by template (R374). -/
  | pdu (conn template : Nat) (words : List Nat)
  /-- Bytes of bags given to the transmit queue (R374). -/
  | transmit (conn : Nat) (bytes : List Nat)
  /-- An NVMe-MI response (R402). -/
  | mi (success : Bool) (bytes : List Nat)
  deriving DecidableEq, Repr

/-- A mailbox message (R21, R178): its words, and the device time in ns at which it was wholly delivered. -/
structure Msg where
  words : List Nat
  atNs : Nat
  deriving DecidableEq, Repr

/-- A loop's mailbox (R21, R178): the messages delivered and not discarded, oldest first, those accepted and still in
class-C delivery, how many of the delivered are taken up, the word of the head message that port 0xF1 gives next, and the
reply words gathered through port 0xF3. -/
structure Mailbox where
  box : List Msg
  transit : List Msg
  taken : Nat
  word : Nat
  gather : List Nat
  deriving DecidableEq, Repr

/-- The context of a courier slice (R161, R166 to R172): G0 to G15, the two 48-bit accumulators, LC, the flags, the return
stack, the next microword address, the last data-memory word delivered, and whether the slice is in the midst of a run. -/
structure Ctx where
  g : Sparse Nat
  acc0 : Int
  acc1 : Int
  lc : Nat
  z : Bool
  n : Bool
  v : Bool
  clp : Bool
  stack : List Nat
  pc : Nat
  mem : Nat
  live : Bool
  deriving DecidableEq, Repr

/-- A context as the start of the engine leaves it (R182). -/
def Ctx.clear : Ctx := ⟨[], 0, 0, 0, false, false, false, false, [], 0, 0, false⟩

/-- What the engine waits for between segments: nothing, the forced end at a 64th microword (R170), or the stop of a slice
that reached its allocation (R90). -/
inductive EngWait where
  | none
  | forced
  | overrun (slice : Nat)
  deriving DecidableEq, Repr

/-- The courier engine (R160 to R186): the control store, the data memory, the contexts, the running slice, the slices
ready in order of arrival, the pending writes of the exchange registers, the microwords of the segment, the cycles since the
boundary and those of each slice in the tick, the input latches with those updated in this tick, the last word each output
port received, whether a set was posted at this boundary, the capture buffers and the channels captured in this tick, the
control-store words whose stored check bits no longer hold, and the tick in which each slice last failed. -/
structure Engine where
  store : Sparse Nat
  dm : Sparse Nat
  ctx : Sparse Ctx
  running : Option Nat
  ready : List Nat
  pend : Sparse Nat
  seg : Nat
  cyc : Nat
  used : Sparse Nat
  portIn : Sparse Nat
  fresh : List Nat
  portOut : Sparse Nat
  posted : Bool
  cap : Sparse Nat
  capWait : Sparse Nat
  capDone : List Nat
  lastFail : Sparse Nat
  wait : EngWait
  runAt : Option Bool
  provides : List Nat
  mail : Sparse Mailbox
  injUse : List (Nat × Nat)
  late : List Nat
  deriving DecidableEq, Repr

/-- The modes of an actuator loop (R197). -/
inductive LoopMode where
  | parked | loading | follow | seekWait | seek | switching | unloading | emergency | dead
  deriving DecidableEq, Repr

/-- The code of a loop mode (R197). -/
def LoopMode.code : LoopMode → Nat
  | .parked => 0
  | .loading => 1
  | .follow => 2
  | .seekWait => 3
  | .seek => 4
  | .switching => 5
  | .unloading => 6
  | .emergency => 7
  | .dead => 8

/-- The motion messages (R201). -/
inductive MotionKind where
  | seek | head | load | unload
  deriving DecidableEq, Repr

/-- A motion a loop holds (R200, R201): its kind and words, the tick it was taken up in and the tick it began in, whether
it waits for the governor's approval, and what its reply will tell. -/
structure Motion where
  kind : MotionKind
  tag : Nat
  head : Nat
  track : Nat
  cls : Nat
  pairable : Bool
  taken : Nat
  began : Option Nat
  startAt : Option Nat
  lowered : Bool
  paired : Bool
  seekUsed : Bool
  deriving DecidableEq, Repr

/-- An actuator loop with its arm driver (R195 to R218): the mode, whether PARKED and VEL_MODE stand in port +2, the active
head, the target track, the track under the head, the read offset and the tag of the OFFSET not yet answered, the motion in
progress and those waiting, the partner, the coefficient set, the counts of wedges on track, missed, and with a saturated
microactuator, the last wedge status, the write inhibit of the loop and of the driver, the shock condition, PA_FLT_N low
and since when, a hardware retract running, the ticks since the last motion command, the ticks since a grave fault was
signalled, the trigger of the emergency unload in progress and whether a retract followed it, and the stored
microactuator value of each head. -/
structure Loop where
  mode : LoopMode
  parked : Bool
  vel : Bool
  head : Nat
  target : Nat
  track : Nat
  offset : Int
  offsetTag : Option Nat
  cur : Option Motion
  waiting : List Motion
  partner : Option Act
  coef : Nat
  onCount : Nat
  miss : Nat
  sat : Nat
  status : Nat
  wi : Bool
  onTrack : Bool
  shock : Bool
  paLow : Bool
  paSinceNs : Nat
  retracting : Bool
  quiet : Nat
  graveTicks : Option Nat
  emTrigger : Option Nat
  emHard : Bool
  ma : Sparse Nat
  valid : Nat
  retired : Nat
  aspQueue : Nat
  deriving DecidableEq, Repr

/-- An actuator at a cold start: on its ramp, nothing asked of it. -/
def Loop.cold : Loop :=
  ⟨.parked, true, false, 0, 0, 0, 0, none, none, [], none, 0, 0, 0, 0, 0, true, false, false, false, 0, false, 0, none, none,
    false, [], 0, 0, 0⟩

/-- The postmark time base (R66 to R81): the ramp drivers energised, the heads whose ramp failed, whether the spindle is at or
above the flying limit, the device time in ns since which each driver has been as it is, the bias driven into the readers in 16 µA steps
(R66), the streams' phases at the last boundary with their advance over the tick before it and its length in ns, the ring cycles each
tracking loop has held (R70), what the rotor angle still has to glide (R71), the device time at which operating speed was
reached, whether its acquisition time has run out, and whether the start goes on in degraded timing (R81). -/
structure Pmk where
  energA : Bool
  energB : Bool
  faultA : Bool
  faultB : Bool
  flying : Bool
  sinceA : Nat
  sinceB : Nat
  bias : Nat
  phases : List Nat
  advance : List Nat
  spanNs : Nat
  tracked : List Nat
  glide : Int
  speedNs : Option Nat
  timedOut : Bool
  degraded : Bool
  deriving DecidableEq, Repr

/-- The tick scheduler (R76 to R84): the stretch s of the period that runs, in units of 1/3276800 tick (R78), the ticks since
the source became disc (R79), while the source moves to wedge the ticks it has taken (R82), whether degraded timing stood at the last
boundary (R387), and the revolution period the flywheel last gave, in 40 ns crystal cycles (R83; 0 for none). -/
structure Tck where
  stretch : Int
  discTicks : Nat
  toWedge : Option Nat
  degraded : Bool
  flywheel : Nat
  deriving DecidableEq, Repr

/-- The spindle loop and its inverter (R222 to R246): the START not yet answered and its tick, the failed attempts of the
start in progress, whether the second alignment step runs, the method of the stop in force and its message, whether the
short brake is on, the ticks without a duty, the substitution in progress and whether the start resumes from sensing after
it, an observer loss to act on after it, the catches left of R237 (none where no observer loss is being handled), the glide to
the postmark angle, whether hold-up braking was entered by X32, whether a START has been
taken since ENABLE, and the wait of 2 s after a failed start. -/
structure Spn where
  startTag : Option Nat
  startTick : Nat
  attempts : Nat
  secondAlign : Bool
  method : Nat
  stopTag : Option Nat
  stopTick : Nat
  brake : Bool
  quiet : Nat
  swap : Option Nat
  swapStart : Bool
  lossAfter : Bool
  catchLeft : Option Nat
  glide : Bool
  byX32 : Bool
  taken : Bool
  retryWait : Bool
  deriving DecidableEq, Repr

/-- The spindle at a cold start. -/
def Spn.cold : Spn :=
  ⟨none, 0, 0, false, 0, none, 0, false, 0, none, false, false, none, false, false, false, false⟩

/-- The motor as the spindle slice sees it (R224 to R236): the observer's angle at 65,536 an electrical turn and its speed in 1/256 rpm, its
back-EMF in 2^-16 V, the currents of the last tick and the voltages commanded, all in the stationary frame; what the commutation angle still
has to glide to its source's; the blind ramp's speed in 1/256 rpm and the ticks of agreement at its end; the ticks for which the observer has
failed a check; the sum, least, greatest and count of the observer's angle less the postmark angle in the revolution under way, and the mean
and spread of the last full one; the postmark angle at the last boundary; the device time at which the state was entered, the comparators with
the device times of their last changes, newest first, each with whether it came in forward phase order; since when the speed has held; and the
tick from which the quadrature current rises from 0, with its ticks. -/
structure Motor where
  angle : Nat
  speed : Int
  ea : Int
  eb : Int
  ia : Int
  ib : Int
  va : Int
  vb : Int
  off : Int
  ramp : Nat
  agree : Nat
  lost : Nat
  rev : Option (Int × Int × Int × Nat)
  full : Option (Int × Nat)
  pmWas : Nat
  sinceNs : Nat
  comparators : Nat
  changes : List (Nat × Bool)
  heldNs : Option Nat
  riseAt : Nat
  riseTicks : Nat
  deriving DecidableEq, Repr

/-- The motor at a cold start: nothing observed. -/
def Motor.cold : Motor := ⟨0, 0, 0, 0, 0, 0, 0, 0, 0, 0, 0, 0, none, none, 0, 0, 0, [], none, 0, 0⟩


/-- The calibration the shipped firmware and microcode take from the passport's tables, where the spec names it: WI_LIMIT and
ON_LIMIT in 1/65536 track, ON_WEDGES and PAIR_WAIT (R198, R206), the stroke in tracks and the one-third and full-stroke
seek times of each class in µs (R203, R204), the coupling KX of the other actuators into each (R205) in 2^-16, the preamp's addresses for
head select, write current, overshoot, heater power, reader bias and fault status (R211, R212), the readers' own tap sets by lane and
head, true for the trailing one (R145), and the factory copy in use since the last start with the number of its copy (R41). -/
structure Calib where
  wiLimit : Nat
  onLimit : Nat
  onWedges : Nat
  pairWait : Nat
  stroke : Nat
  third : List Nat
  full : List Nat
  kx : Four Nat
  headSelect : Nat
  writeCurrent : Nat
  overshoot : Nat
  heater : Nat
  bias : Nat
  faultStatus : Option Nat
  readerTaps : List (Act × Nat × Bool × List Nat)
  source : Option (Nat × Area)
  deriving DecidableEq, Repr

/-- The defaults of R198 and R206 and the reference drive's seek times of R203. -/
def Calib.reference : Calib :=
  ⟨7864, 5242, 3, 16, 1500000, [20600, 14800, 11300, 9600], [34000, 24000, 18200, 15200], .all 0, 0, 0, 0, 0, 0, none, [], none⟩

/-- The franking books (R274 to R278): what is committed for the electronics, the spin-up, the speed, slow idle and the
postmark heads (none where it is not committed), the actuators and their seeks. -/
structure Books where
  elec : Option Nat
  spinup : Option Nat
  atSpeed : Option Nat
  slow : Option Nat
  pmk : Option Nat
  act : Four (Option Nat)
  seek : Four (Option Nat)
  deriving DecidableEq, Repr

/-- Nothing committed beyond the base entitlement. -/
def Books.clear : Books := ⟨none, none, none, none, none, .all none, .all none⟩

/-- A zone-table entry, as an operation copies it (R124, R125). -/
structure Zone where
  aligned : Bool
  start : Nat
  n : Nat
  f : Nat
  sectors : Nat
  gap : Nat
  post : Nat
  pre : Nat
  htrRead : Nat
  htrWrite : Nat
  iw : Nat
  os : Nat
  pre1 : Nat
  pre2 : Nat
  vga : Nat
  fc : Nat
  boost : Nat
  mra : Nat
  delayInt : Nat
  delayFrac : Nat
  deriving DecidableEq, Repr

/-- A sector as R113 places it: its number, the wedge of its header, the position of its gap, and how many T of its codeword
stand before the wedge that cuts it (36,864 where it is whole). -/
structure Place where
  sector : Nat
  wedge : Nat
  pos : Nat
  first : Nat
  deriving DecidableEq, Repr

/-- The settings of a lane's read front end (R94): the gain in 0.25 dB steps and the gain of its loop, the cutoff in 1/256 of the bit rate,
the boost in 0.1 dB, the asymmetry correction, and the full scale in 4 mV steps. -/
structure Afe where
  gain : Nat
  loop : Nat
  fc : Nat
  boost : Nat
  mra : Nat
  fullScale : Nat
  deriving DecidableEq, Repr

/-- A tap-memory entry as an operation copies and adapts it (R98, R99, R125, R126): the taps of the leading and of the trailing reader, the
target g1 to g4 and the receipt taps, each in 2^-22 with its 8-bit value in the upper bits; the noise predictor, three taps in 1/128 for each
of 16 patterns, and the noise scales in 1/64. -/
structure Taps where
  lead : List Int
  trail : List Int
  target : List Int
  noise : List Int
  scale : List Nat
  receipt : List Int
  deriving DecidableEq, Repr

/-- The equalised samples held of a sector (R101, R106, R140): those from 16 T before the start `pa` of its codeword to 16 T after its end, or
of each of its two fragments, with the codeword T of the first; the position of either mark found, less where it was predicted. -/
structure Held where
  one : List Int
  two : List Int
  first : Nat
  primary : Option Int
  fallback : Option Int
  deriving DecidableEq, Repr

/-- Nothing held. -/
def Held.nothing : Held := ⟨[], [], 36864, none, none⟩

/-- A codeword in the decoder (R102): the value of each bit by block, positive where the bit is more likely 0, and the messages of each layer
to its columns. -/
structure Decode where
  values : List (List Int)
  messages : List (List (Nat × List Int))
  deriving DecidableEq, Repr

/-- How a pass of the pool stands: it goes on, its syndrome is zero, or its limits are used up. -/
inductive PassEnd where
  | running | converged | failed
  deriving DecidableEq, Repr

/-- A codeword's pass in the decoder pool (R103, R104): the half that holds it, its limits of global and local iterations, the global
iteration, the local iterations in it and in all, the units still to go of a detector pass, the LLRs, the decoder, and how it stands. -/
structure Pass where
  half : Nat
  limGlobal : Nat
  limLocal : Nat
  globals : Nat
  locals : Nat
  iters : Nat
  det : Nat
  llrs : List Int
  dec : Decode
  fin : PassEnd
  deriving DecidableEq, Repr

/-- What a codeword in a lane's store is for (R101): a sector read, a written sector's receipt, or a failed read on its way to
the recovery store with its failure code (R106). -/
inductive CwKind where
  | read
  | receipt
  | moving (code : Nat)
  deriving DecidableEq, Repr

/-- What a receipt's judgement takes of the registers at its sector's start (R136, R157). -/
structure RcptCfg where
  rawFail : Nat
  rawMarg : Nat
  rcptLocal : Nat
  margFail : Bool
  fallbackFail : Bool
  fallbackEn : Bool
  deriving DecidableEq, Repr

/-- A codeword place of a soft-value store (R101): the operation it belongs to, its sector counted from the operation's first, what it is for,
where it stands on the media, the epoch wanted, the addresses of its data, tag and status, the samples held with the failure of their framing (0 for
none), the taps they were equalised with, the LLRs, its pass in the pool, for a receipt the information bytes sent (R136, R138) and the
settings of its judgement, and whether a host command waits for it. -/
structure Codeword where
  op : Nat
  sector : Nat
  kind : CwKind
  head : Nat
  zone : Nat
  track : Nat
  number : Nat
  epoch : Nat
  data : Nat
  tagAt : Nat
  statusAt : Nat
  held : Held
  framing : Nat
  taps : Taps
  llrs : List Int
  pass : Option Pass
  info : List Nat
  cfg : RcptCfg
  deriving DecidableEq, Repr

/-- A skew measurement over one revolution (R123): the sector it began at, the sum of the differences of the primary marks found from where
the format has them, in T, and their number. -/
structure SkewRun where
  from_ : Option Nat
  sum : Int
  count : Nat
  deriving DecidableEq, Repr

/-- An operation a lane has taken and not completed (R128): its entry, the event that ended it and the tick of that, whether it still uses the
media, whether the heater lead has
elapsed, the statuses decided, the sectors started, the revolutions lost, whether a sector was good at first pass, the zone entry and the
tap-memory entry it copied (R125), the information of the write sectors fetched (R119), the skew measurement under way, and the marks its
sectors gave. -/
structure LaneOp where
  serial : Nat
  opcode : Nat
  head : Nat
  zone : Nat
  tag : Nat
  track : Nat
  first : Nat
  count : Nat
  noRec : Bool
  epoch : Nat
  dataList : Nat
  tagArea : Nat
  statusAt : Nat
  ended : Option Nat
  endedTick : Nat
  media : Bool
  heater : Bool
  status : Sparse Nat
  started : List Nat
  lost : Nat
  good : Bool
  entry : Zone
  taps : Taps
  buffer : List (Nat × List Nat)
  measure : Option SkewRun
  marks : SkewRun
  deriving DecidableEq, Repr

/-- The sector under the active head that an operation reads or writes (R112, R119): the operation, the sector counted from its first, whether
it is written, whether its second fragment is still to come, and whether the wedge between them is passing. -/
structure Passing where
  op : Nat
  sector : Nat
  write : Bool
  split : Bool
  atWedge : Bool
  deriving DecidableEq, Repr

/-- A sector whose receipt failed or whose write was interrupted (R139): where it is, the addresses of its data and tag and of
its status byte, and how often it has been written again. -/
structure NotPlaced where
  head : Nat
  zone : Nat
  track : Nat
  sector : Nat
  epoch : Nat
  data : Nat
  tagAt : Nat
  statusAt : Nat
  tries : Nat
  deriving DecidableEq, Repr

/-- A lane beyond its registers (R92 to R133): the operations taken and not completed, oldest first, how many were ever taken,
the soft-value store, the sector under the head, the sectors not placed, the zone entries in their check, the heater power
set, the write current and overshoot last sent to the preamp, the settings of the read front end, the channel bit clock in Hz (R73, R83), and
the tap-memory entry that a read with one reader alone set aside, with its number (R145), and the write points of what the lane writes: the head,
the epoch, the track, and the sector after the last (R139). -/
structure Lane where
  ops : List LaneOp
  serial : Nat
  store : List Codeword
  passing : Option Passing
  notPlaced : List NotPlaced
  checking : List Nat
  heaterAt : Nat
  iw : Nat
  os : Nat
  afe : Afe
  clock : Nat
  aside : Option (Nat × List Nat)
  points : List (Nat × Nat × Nat × Nat)
  deriving DecidableEq, Repr

/-- A lane with nothing to do. -/
def Lane.idle : Lane := ⟨[], 0, [], none, [], [], 0, 0, 0, ⟨0, 0, 0, 0, 0, 0⟩, 0, none, []⟩

/-- The decoder pool's frames (R105): the credits of classes A, B, C, D and recovery of each half, the class each half served
last, the units left of each half's frame, and the halves to return to service at their next frame (R107). -/
structure Dec where
  credit0 : List Nat
  credit1 : List Nat
  last0 : Nat
  last1 : Nat
  left0 : Nat
  left1 : Nat
  returning : List Nat
  deriving DecidableEq, Repr

/-- What ended the pool's work on a sector (R141 to R147): delivered with the information that converged, at a rung and with a start relative to
pa; or not, with the identities of other sectors that converged on the way. -/
structure WorkEnd where
  info : Option (List Nat)
  rung : Nat
  slip : Int
  synd : Nat
  foreign : List Nat
  deriving DecidableEq, Repr

/-- A work of the pool's recovery class (R105, R140 to R147): the tag of its result, the place and the place of the sum, the DRAM address of its
samples, its kind (0 a hand-over, 1 a sample area, 2 a sum), the ladder's rung when its job was posted (R159), the half that holds it, the starts still to try, the start under decode with
the rung and its pass, the best start with its weight, the identities of other sectors that converged, the units spent, and its end. -/
structure Work where
  tag : Nat
  place : Nat
  sum : Nat
  kind : Nat
  area : Nat
  posted : Nat
  half : Option Nat
  tries : List Int
  slip : Int
  rung : Nat
  pass : Option Pass
  best : Option (Int × Nat)
  foreign : List Nat
  units : Nat
  fin : Option WorkEnd
  deriving DecidableEq, Repr

/-- A place of the recovery store (R106, R140): the sector held, its failure code, the addresses of its data area, tag and status, or
that the place holds a running sum of so many reads; and the ladder's progress on it: the rung, the revolutions of rungs 3 to 5, the time of
hand-over in ms, the host command that waits for it by its number, whether rung 6 was started in parallel (R149), what rung 6 delivered and
whether it passed the consignment check, the foreign identities that reads have delivered (R147), and whether the result is recorded. `lpn` and
`sect` are the parcel's sector that is read, and `entry` the parcel's map entry at the read (R152). Its samples stand in DRAM. -/
structure RecPlace where
  lane : Nat
  head : Nat
  zone : Nat
  track : Nat
  sector : Nat
  epoch : Nat
  code : Nat
  data : Nat
  tagAt : Nat
  statusAt : Nat
  sum : Bool
  reads : Nat
  rung : Nat
  revs : Nat
  sinceMs : Nat
  cmd : Option Nat
  early : Bool
  rebuilt : Option (List Nat × Bool)
  foreign : List Nat
  lpn : Nat
  sect : Nat
  entry : Nat
  isOver : Bool
  deriving DecidableEq, Repr

/-- The ladder policy (R156). -/
structure Ladder where
  rereads : Nat
  combineRevs : Nat
  offsets : Nat
  ofsStep : Nat
  earlyRevs : Nat
  ladderMs : Nat
  reallocRung : Nat
  rewrites : Nat
  defectMax : Nat
  deriving DecidableEq, Repr

/-- The defaults of R156. -/
def Ladder.default : Ladder := ⟨4, 4, 6, 5, 2, 250, 4, 2, 64⟩

/-- A sector that a ladder's result calls to reallocate in the first-class region (R153): its place as it stood, the operation of its lane that
writes it in place or reads it back, whether it reads back, and the status with which that ended. -/
structure Move where
  place : RecPlace
  serial : Nat
  back : Bool
  status : Option Nat
  deriving DecidableEq, Repr

/-- The recovery store, the sectors that wait for a place of it (R155), the works of the pool's recovery class, oldest first, the rung of each
job's place when it was posted, by ring entry (R159), the watch list of surface, track, sector and parcel (R152), the sectors that results call to
reallocate and those whose reallocation is under way, the counters of deliveries by rung for log page 0xC1 (7 where all failed), the sectors read of
each surface and of those the numbers of the ones that ended at rung 6 (R351), the sectors lost to a command by its number, parcel and sector, and
the ladder policy. -/
structure Recovery where
  places : Sparse RecPlace
  queue : List RecPlace
  work : List Work
  posts : Sparse Nat
  watch : List (Nat × Nat × Nat × Nat)
  ends : List RecPlace
  moves : List Move
  counts : Sparse Nat
  reads : Sparse Nat
  sixes : List (Nat × Nat)
  lost : List (Nat × Nat × Nat)
  policy : Ladder
  deriving DecidableEq, Repr


/-- A slot in the books of the postmaster (R286, R290): the last HOLD and STATE heard since it took office, the grant not yet
acknowledged with its GSEQ, the last GSEQ used, whether a STATUS was heard in this cycle and in the one before, and the cycles
since it was last heard. -/
structure KxSlot where
  hold : Option Nat
  state : Nat
  grant : Option (Nat × Nat)
  gseq : Nat
  now : Bool
  before : Bool
  age : Nat
  deriving DecidableEq, Repr

/-- A slot never heard. -/
def KxSlot.unheard : KxSlot := ⟨none, 0, none, 0, false, false, 0⟩

/-- The drive's side of the Kerrex bus (R280 to R294): the slots whose beacons were heard with the cycles since, whether the
cycle's beacon was heard and its STATUS is due, the GSEQ last applied from the followed postmaster, the count of frames sent,
the cycle number, the books and the queue of the postmaster, its census cycles left and whether it may grant, whether 2 s have
passed in office, the cycles with CRC errors, whether an error fell in this one, the wait after an abdication for them, the
silence of R469, whether the last frame sent was a STATUS with a wake, whether a grant was applied in this tick, shelf-hold,
and for log page 0xC2 the ns in
each STATE and the count of seeks lowered in class; and the device times of the last beacon or CLAIM heard, of a CLAIM of its own cut short or of
the bus becoming valid, whichever is latest (R288), of the last beacon, of the last that showed the drive's bit in SEEN (R291), of taking office
(R290) and of the last abdication for CRC errors (R289). -/
structure Krx where
  heard : Sparse Nat
  due : Bool
  lastGseq : Nat
  seq : Nat
  cycle : Nat
  slots : Sparse KxSlot
  queue : List (Nat × Nat)
  census : Nat
  granting : Bool
  unheard2s : Bool
  crcCycles : Nat
  crcThis : Bool
  ineligible : Bool
  silent : Bool
  wakeSent : Bool
  granted : Bool
  shelfHold : Bool
  stateNs : Sparse Nat
  lowered : Nat
  lineNs : Nat
  beaconNs : Nat
  seenNs : Nat
  officeNs : Nat
  abdicatedNs : Nat
  deriving DecidableEq, Repr

/-- The bus side at a cold start. -/
def Krx.cold : Krx :=
  ⟨[], false, 0, 0, 0, [], [], 0, false, false, 0, false, false, false, false, false, false, [], 0, 0, 0, 0, 0, 0⟩


/-- The buffer pool manager (R408 to R411): whether the pools are set up, the owner counts of the bags that are held, by handle,
the held bags to be retired at their next release, and those retired. -/
structure Bags where
  up : Bool
  owners : Sparse Nat
  marked : List Nat
  retired : List Nat
  deriving DecidableEq, Repr

/-- A line of the pigeonhole cache (R412): the number of its 128 bytes of DRAM, and whether it is dirty. -/
structure PhcLine where
  line : Nat
  dirty : Bool
  deriving DecidableEq, Repr

/-- A set of the cache: its lines by way, and the pseudo-LRU tree of 15 bits, node `k` in bit `k` (R412). -/
structure PhcSet where
  ways : Sparse PhcLine
  tree : Nat
  deriving DecidableEq, Repr

/-- A line in the victim buffer (R415): dirty, waiting to be written back, and whether DRAM has accepted the write. -/
structure Victim where
  line : Nat
  taken : Bool
  deriving DecidableEq, Repr

/-- A stream tracker of the sequential detector (R414): the last line of its stream, how many lines it has followed (3 and more trigger
it), and the time of its last use. -/
structure Tracker where
  last : Nat
  run : Nat
  usedNs : Nat
  deriving DecidableEq, Repr

/-- A word stored with inverted check bits (R450): its target, its address and how many bits of its check bits are inverted. -/
structure BadWord where
  target : Nat
  addr : Nat
  bits : Nat
  deriving DecidableEq, Repr

/-- What the memory side holds beyond its registers: the words with inverted check bits, the slips an injection caused, the slip
table in the strongroom (R422), whether the table has changed since it was saved, the time the scrub lap began, the next block it
reads, the cache's sets and its misses (R412, R431), the lines with a miss outstanding (R414), the victim buffer (R415), both oldest first,
the stream trackers, the least recently used first (R414), the NAND commands taken and not complete, by place in the ring (R427), the
spare blocks used of each die and the blocks replaced over the drive's life (R425), the one-bit blocks that stand erased (R426), and
the reads of each strongroom block since it was written (R329), by area and block, as counted and as the last checkpoint saved them; and the SRAM rows that gave a corrected error, by array (0 the
pigeonhole cache, 1 the courier's and 2 the protocol engine's control store) and word, with the spare rows used of each array (R24). -/
structure Mem where
  bad : List BadWord
  injSlips : List (Fin 16)
  slips : List (Nat × Nat)
  unsaved : Bool
  lapMs : Nat
  scrubAt : Nat
  sets : Sparse PhcSet
  misses : Nat
  missing : List Nat
  victims : List Victim
  trackers : List Tracker
  taken : List Nat
  spareUsed : Sparse Nat
  replaced : Nat
  erased : List Nat
  reads : Sparse Nat
  savedReads : Sparse Nat
  rows : List (Nat × Nat)
  rowsUsed : Sparse Nat
  deriving DecidableEq, Repr

/-- The memory side at a cold start. -/
def Mem.cold : Mem := ⟨[], [], [], false, 0, 0, [], 0, [], [], [], [], [], 0, [], [], [], [], []⟩

/-- A first-class slot descriptor (R304): the sectors held as a mask, the locations of the two copies as SURFACE, AREA and SLOT in
their bits, the placement sequence, and the time of the last write in ms (R312). -/
structure FcSlot where
  mask : Nat
  locA : Nat
  locB : Nat
  pseq : Nat
  lastMs : Nat
  deriving DecidableEq, Repr

/-- A band-table entry (R307): the state (R300), the neighbour-write count, the valid parcels, the defect list, the group or pair
it belongs to, the EPOCH of its area, and whether it is queued for re-sorting (R154, R329). -/
structure Band where
  state : Nat
  ati : Nat
  valid : Nat
  defects : List Nat
  group : Nat
  epoch : Nat
  resort : Bool
  deriving DecidableEq, Repr

/-- An area nothing has used: free, or spare where its number is 49 modulo 50 (R348). -/
def Band.unused (area : Nat) : Band := ⟨if area % 50 = 49 then 6 else 0, 0, 0, [], 0, 0, false⟩

/-- A band group (R301): what it is for (0 fold, 1 re-sort, 2 direct placement, 3 zone set), the area of each position with its
surface, the LPNs written in order with the PSEQ of each (R306, R313), when it opened, whether it takes
no more, the time it closed, and the data members of a zone set whose bands are closed for good (R323, R324). -/
structure Group where
  kind : Nat
  areas : List (Nat × Nat)
  written : List Nat
  pseqs : List Nat
  openedMs : Nat
  closed : Bool
  closedMs : Nat
  shut : List Nat
  deriving DecidableEq, Repr

/-- An area pair of the first-class region (R309): its areas as surface and area, and whether it is shrinking (R310). -/
structure Pair where
  a : Nat × Nat
  b : Nat × Nat
  shrinking : Bool
  deriving DecidableEq, Repr

/-- What a commit unit is for (R317). -/
inductive UnitKind where
  | place
  | direct
  | fold
  | resort
  | keyValue
  | zone
  deriving DecidableEq, Repr

/-- A commit unit in the making (R317): its kind, its triples of LPN, OLD and NEW, the first-class descriptors it writes, whether a
receipt of it failed for good (R319), the blocks of in-tray entries it places, the key it commits, and whether its parity is placed. -/
structure CommitUnit where
  kind : UnitKind
  triples : List (Nat × Nat × Nat)
  slots : List (Nat × FcSlot)
  failed : Bool
  tray : List (Nat × Nat × Nat)
  key : Option (Nat × Nat × Nat × Nat)
  parity : Bool
  deriving DecidableEq, Repr

/-- A journal record (R332): its SEQ, its TYPE, the applied triples, the first-class descriptors, and the areas changed. -/
structure JRec where
  seq : Nat
  type : Nat
  triples : List (Nat × Nat × Nat)
  slots : List (Nat × FcSlot)
  areas : List (Nat × Band)
  deriving DecidableEq, Repr

/-- A bundle parcel (R326): its store, its LPN, the keys of the values it holds with their bytes, when its first value came, and
whether it is placed. -/
structure Bundle where
  nsid : Nat
  lpn : Nat
  values : List (Nat × Nat)
  sinceMs : Nat
  placed : Bool
  deriving DecidableEq, Repr

/-- A key of a key-value store (R325): its length, the value's length, the LPN of its bundle or run, whether it is bundled, and the bucket its index entry stands in. -/
structure KvEntry where
  keyLen : Nat
  len : Nat
  lpn : Nat
  bundled : Bool
  bucket : Nat
  deriving DecidableEq, Repr

/-- A location switched away and not yet released (R320): the entry it was, the SEQ of its switch, and the reads that had looked it
up and have not completed. -/
structure OldPlace where
  entry : Nat
  seq : Nat
  reads : Nat
  deriving DecidableEq, Repr

/-- The sorting office beyond the map in DRAM (R298 to R336): the protected capacity in parcels, the band areas of a surface, the first-class index, the band table, the groups and pairs, the unreadable list,
the commit units, the journal kept in the strongroom and its trim point, the checkpoint's map with the SEQ
it includes, the segments not yet loaded after a start, the records to apply to them, the bundles, the locations to release, the
placement counter, the next group and unit numbers, idle work going on, folding and full-rate
re-sorting going on between their limits (R312, R313), the neighbour counts of the first-class regions, whether the full-drive floor holds, the bands made suspect by time and surface (R351), whether a
map rebuild runs, the pairs wanted (R308), the groups queued for re-sorting, and the map format stamp of the firmware that last wrote the
checkpoint (R43), the tracks of first-class areas that spare tracks have replaced (R153), whether the region has been set for the compatibility mode (R310),
and the neighbour counts as the last checkpoint saved them (R329). -/
structure Office where
  p : Nat
  areas : Nat
  fc : Sparse FcSlot
  bands : Sparse Band
  groups : Sparse Group
  pairs : List Pair
  unreadable : List (Nat × Nat)
  units : Sparse CommitUnit
  journal : List JRec
  trim : Nat
  ckpt : Sparse Nat
  ckptSeq : Nat
  unloaded : List Nat
  bundles : List Bundle
  old : List OldPlace
  pseq : Nat
  nextGroup : Nat
  nextUnit : Nat
  idle : Bool
  folding : Bool
  resorting : Bool
  regions : Sparse Nat
  floor : Bool
  suspects : List (Nat × Nat)
  rebuildMap : Bool
  pairsWanted : Nat
  resortQueue : List Nat
  stamp : Option Nat
  replaced : List (Nat × Nat)
  fixed : Bool
  savedRegions : Sparse Nat
  deriving DecidableEq, Repr

/-- The office of a drive that has not been formatted; the reference drive's 19,371 band areas (R299). -/
def Office.cold : Office :=
  ⟨0, 19371, [], [], [], [], [], [], [], 0, [], 0, [], [], [], 0, 0, 0, false, false, false, [], false, [], false, 0, [], none, [], false, []⟩

/-- Consignments beyond the registers (R339 to R366): the key slots' keys, the words of the KEK written, how many keys were
generated, the rebuild's state with its units planned and done, the work left as areas of the retired surfaces, the counts of log
page 0xC1 that no other place holds, the microactuator faults and skew failures of each head in a row, the time the scrub lap ended,
the groups checked in this lap, the step of a crypto erase going on, and whether PD-CRE was off since the keys were loaded, so that they are
to be loaded again (R61). -/
structure Consign where
  keys : Sparse Nat
  kek : Sparse Nat
  generated : Nat
  rebuild : Nat
  todo : List (Nat × Nat)
  done : Nat
  total : Nat
  mismatches : Nat
  noMark : Sparse Nat
  satHeads : Sparse Nat
  lapMs : Nat
  scrubbed : List Nat
  sanitizing : Option Nat
  stale : Bool
  deriving DecidableEq, Repr

/-- Nothing loaded, nothing to rebuild. -/
def Consign.cold : Consign := ⟨[], [], 0, 0, [], 0, 0, 0, [], [], 0, [], none, false⟩

/-- What a range lock names (R392): logical blocks of a namespace from one on, a zone, or the digest of a key. -/
inductive LockOn where
  | range (first count : Nat)
  | zone (k : Nat)
  | key (digest : Nat)
  deriving DecidableEq, Repr

/-- A range-lock entry (R392, R393): the command it belongs to, its namespace, what it names, whether it is exclusive, and whether it
is held or still waits. -/
structure RangeLock where
  owner : Nat
  nsid : Nat
  what : LockOn
  excl : Bool
  held : Bool
  deriving DecidableEq, Repr

/-- A command taken (R378): its connection, its capsule, the time it was taken in ms, the response decided, the bytes of data it
needs and those that have arrived, the bytes its R2Ts have asked for, its bags, dword 0 of its completion, the data it returns, whether
media work has started, whether its data
was handed to TCP, whether its association ended (R379), the in-tray entry it made, and whether its lock wait has no entry yet
(R393). -/
structure Cmd where
  conn : Nat
  cap : Capsule
  takenMs : Nat
  verdict : Option Verdict
  need : Nat
  got : Nat
  asked : Nat
  bags : List Nat
  dw0 : Nat
  reply : List Nat
  media : Bool
  sent : Bool
  orphan : Bool
  tray : Option Nat
  noEntry : Bool
  deriving DecidableEq, Repr

/-- A TCP connection (R371, R376, R377): its port, whether it came to the discovery port, whether the ICReq was answered and the
digests it set, the host's MAXR2T, its association and queue with the queue's depth, the capsules in its receive buffer, the bytes
sent and not acknowledged, the peer's window, the bytes received and not acknowledged, the retransmissions since the peer last
acknowledged, the submission queue head it reports, and when the retransmission timer last started. -/
structure Conn where
  port : Nat
  discovery : Bool
  ready : Bool
  hdgst : Bool
  ddgst : Bool
  maxR2t : Nat
  assoc : Option Nat
  qid : Nat
  depth : Nat
  waiting : List Capsule
  unacked : Nat
  window : Nat
  owed : Nat
  retries : Nat
  sqhd : Nat
  sentNs : Nat
  deriving DecidableEq, Repr

/-- A connection as a SYN opens it. -/
def Conn.fresh (port : Nat) (discovery : Bool) (window : Nat) : Conn :=
  ⟨port, discovery, false, false, false, 0, none, 0, 0, [], 0, window, 0, 0, 0, 0⟩

/-- An asynchronous event (R400): its type, its information and its log page. -/
structure Event where
  type : Nat
  info : Nat
  page : Nat
  deriving DecidableEq, Repr

/-- An association with its controller (R376, R379): its port, whether it is a discovery association, the Host Identifier, CC and
whether the controller is ready, the keep-alive time in ms and when it last restarted, in ns and later by what service interruptions add (R396), the Asynchronous Event Requests outstanding,
the events retained and those reported whose page has not been read, and the controller-scope features by FID. -/
structure Assoc where
  port : Nat
  discovery : Bool
  hostId : Nat
  cc : Nat
  ready : Bool
  kato : Nat
  seenNs : Nat
  aers : List Nat
  events : List Event
  told : List Event
  feats : Sparse Nat
  deriving DecidableEq, Repr

/-- The states of a zone (R321 to R324). -/
inductive ZoneState where
  | empty | implicitOpen | explicitOpen | closed | full
  deriving DecidableEq, Repr

/-- A zone (R321 to R323): its state, its write pointer from its start, the parcels placed in its band, the group and member it is bound to, since when a stripe
waits for it, whether Zone Finish Recommended is set, whether the controller finished it, and the PSEQ of each
parcel placed (R306). -/
structure HZone where
  state : ZoneState
  wp : Nat
  placed : Nat
  bound : Option (Nat × Nat)
  lagMs : Option Nat
  recommended : Bool
  byController : Bool
  pseqs : List Nat
  deriving DecidableEq, Repr

/-- A zone nothing was written to. -/
def HZone.fresh : HZone := ⟨.empty, 0, 0, none, none, false, false, []⟩

/-- A namespace (R381): its command set, its size in logical blocks or bytes, its first LPN and its LPNs (R298), its key slot, whether
the host has write-protected it, TLER and PTPL, the registrants with their keys, the holder of its reservation with the type, the
generation of the registrations, the notification masks by host, and its zones. -/
structure Ns where
  csi : Nat
  size : Nat
  lpn : Nat
  parcels : Nat
  slot : Nat
  wp : Bool
  tler : Nat
  ptpl : Bool
  regs : List (Nat × Nat)
  holder : Option (Nat × Nat)
  gen : Nat
  masks : List (Nat × Nat)
  zones : Sparse HZone
  deriving DecidableEq, Repr

/-- What an in-tray entry holds. -/
inductive TrayKind where
  | data
  | zeros
  | value
  deriving DecidableEq, Repr

/-- An in-tray entry (R389): what it holds, its namespace, its blocks or its key with the value's length, its bags, the blocks already
committed as ranges, whether a flush has it in the strongroom, and after the DRAM was lost its bytes from there by offset. -/
structure TrayEnt where
  serial : Nat
  kind : TrayKind
  nsid : Nat
  first : Nat
  count : Nat
  key : Nat
  keyLen : Nat
  bags : List Nat
  placed : List (Nat × Nat)
  flushed : Bool
  kept : Sparse Nat
  deriving DecidableEq, Repr

/-- An error log entry (R399): its count, SQID and CID, the status, the namespace and the first block. -/
structure ErrEnt where
  count : Nat
  sqid : Nat
  cid : Nat
  status : Status
  nsid : Nat
  lba : Nat
  deriving DecidableEq, Repr

/-- The addresses of a port (R370): the configuration applied, the IPv4 address and the IPv6 addresses it listens on, link-local and global, the
IPv6 router, and the path MTUs by connection. -/
structure Port where
  cfg : NetCfg
  ip4 : Option Nat
  ip6 : List Nat
  router : Nat
  mtus : List (Nat × Nat)
  deriving DecidableEq, Repr

/-- A port with nothing configured. -/
def Port.cold : Port := ⟨NetCfg.none, none, [], 0, []⟩

/-- The protocol engine (R372 to R375): its control store, the stamps its image provides, the handler that runs with its key,
connection and class, the handlers that wait, its context words, the header words, the connection state words by 32 times the
connection, what it posted to the in-tray and to the cores, and the connection each class served last. -/
structure Pre where
  store : Sparse Nat
  provides : List Nat
  handler : Option (Nat × Nat)
  queue : List (Nat × Nat × Nat)
  g : Sparse Nat
  h : Sparse Nat
  sw : Sparse Nat
  pc : Nat
  lc : Nat
  z : Bool
  n : Bool
  v : Bool
  stack : List Nat
  posts : List (Nat × Nat)
  msgs : List (Nat × Nat)
  last : List Nat
  deriving DecidableEq, Repr

/-- The protocol engine at a cold start. -/
def Pre.cold : Pre := ⟨[], [], none, [], [], [], [], 0, 0, false, false, false, [], [], [], [0, 0, 0]⟩

/-- The host side beyond its registers (R367 to R404): connections and associations by number, the commands taken by serial number,
the range locks in admission order, the namespaces by NSID, the keys of the key-value stores, the in-tray oldest first, the
subsystem features by number, media ready (R52), the error log and its count, the data losses told (R399), the latched bits of
Critical Warning (R401), the namespaces and zones changed, the reservation notifications, the sanitize status (0 never, 1 done, 2 going
on), the SMBus frequency in kHz, the last host command's time (R312), the firmware image received so far as offsets with bytes, the
time a shelf-hold was asked for (R384), the ports, the counts of log page 0xC3 (R387), the policy fields clamped and the reasons the
slots were last rejected for (R457), the counts of SMART/Health: units read and written, commands read and written, whether a boot record was rejected at this start, the power state (R398), the words of the speed and tick settings
that the slow-idle set overrides (R61), and the bits of Critical Warning told (R400). -/
structure HostSide where
  conns : Sparse Conn
  assocs : Sparse Assoc
  cmds : Sparse Cmd
  locks : List RangeLock
  serial : Nat
  nss : Sparse Ns
  kv : Sparse KvEntry
  tray : List TrayEnt
  feats : Sparse Nat
  mediaReady : Bool
  errors : List ErrEnt
  errCount : Nat
  mediaErrs : Nat
  critical : Nat
  changedNs : List Nat
  changedZones : List (Nat × Nat)
  resNotes : List (Nat × Nat)
  sanitize : Nat
  smbus : Nat
  lastMs : Nat
  image : List (Nat × List Nat)
  shelfMs : Option Nat
  ports : Two Port
  degraded : Nat
  degradedNs : Nat
  handovers : Nat
  clamps : Nat
  rejects : Nat × Nat
  counts : Sparse Nat
  recordRejected : Bool
  ps : Nat
  slow : List (Nat × Nat)
  told : Nat
  deriving DecidableEq, Repr

/-- The host side at a cold start of a drive with nothing saved. -/
def HostSide.cold : HostSide :=
  ⟨[], [], [], [], 0, [], [], [], [], false, [], 0, 0, 0, [], [], [], 0, 100, 0, [], none, ⟨Port.cold, Port.cold⟩, 0, 0, 0, 0,
    (0, 0), [], false, 0, [], 0⟩


/-- What a temperature sensor has done (R436, R458): the ticks in a row its reading lay out of range, those in which a die sensor differed
too far from the others, the reading it stands at with the ms it took it and the least and the greatest model estimate since, and the
least and the greatest reading since CLR_MINMAX. -/
structure Sensor where
  out : Nat
  far : Nat
  reading : Int
  sinceMs : Nat
  modelLo : Int
  modelHi : Int
  least : Option Int
  greatest : Option Int
  deriving DecidableEq, Repr

/-- A sensor nothing was read from. -/
def Sensor.cold : Sensor := ⟨0, 0, 0, 0, 0, 0, none, none⟩

/-- The thermal side beyond its registers (R436 to R444, R458): the sensors, J_model in units of 2^-32 of 1/16 °C, the composite and the
board temperature in 1/16 °C, whether the shutdown level is held, the ms of the last change of STEP, the counts of log page 0xC5 (the ns
at warning, at STEP 1, above WCTEMP, above CCTEMP and in each bin, entries into throttling, thermal shutdowns), the die power
table as STATIC and E_EVENT, whether STEP has risen since J reached THROT, and the ms since which J stands at or below THROT − 5 K. -/
structure Heat where
  sensors : Sparse Sensor
  model : Int
  composite : Int
  board : Int
  held : Bool
  stepMs : Nat
  warnNs : Nat
  stepNs : Nat
  wcNs : Nat
  ccNs : Nat
  bins : Sparse Nat
  entries : Nat
  shutdowns : Nat
  power : List (Nat × Nat)
  rose : Bool
  coolMs : Option Nat
  deriving DecidableEq, Repr

/-- The thermal side at a cold start. -/
def Heat.cold : Heat := ⟨[], 0, 0, 0, false, 0, 0, 0, 0, 0, [], 0, 0, [], false, none⟩

/-- The power path beyond its registers (R250 to R259, R265, R441, R449): whether mains was applied, whether AC or DC mode was chosen, whether the LLC is meant to
run, the ms and the tick at which the standing warning was raised, that of the declaration, whether a flush runs, whether recovery was met
since the declaration, the chopper resistor's estimate in µJ, the cause of the next start, the ms since which a restart holds every domain off, the instant X of a thermal shutdown,
the cores lost since their last self-test as bits (R59), and whether a commit in recovery mode asks for the restart of R48. -/
structure Pwr where
  mains : Bool
  chosen : Bool
  llc : Bool
  warnMs : Nat
  warnTick : Nat
  declaredMs : Nat
  flushing : Bool
  recovered : Bool
  chopE : Nat
  cause : Nat
  offMs : Option Nat
  thermalMs : Option Nat
  lost : Nat
  recommit : Bool
  deriving DecidableEq, Repr

/-- The power path before mains. -/
def Pwr.cold : Pwr := ⟨false, false, false, 0, 0, 0, false, false, 0, 0, none, none, 0, false⟩


/-- The state of the device. -/
structure State where
  /-- Which of the two modules this is (R3). -/
  variant : Variant
  /-- Every register field that does not hold its reset value, by key (R10). -/
  regs : Sparse Nat
  /-- The device time since the cold start, in ns: the sum of the tick periods that have passed. -/
  clockNs : Nat
  /-- The part of a millisecond of power-on time not yet in LDG_POT, in ns (R452). -/
  potNs : Nat
  /-- What the last register access gave (R6, R14). -/
  bus : BusResult
  /-- The level of the six slot-ID strap pins (R12). -/
  straps : Nat
  /-- The tick count, 64 bits (R76). -/
  tick : Nat
  /-- The DRAM, by byte (R14). -/
  cells : List Host.Cell
  /-- The strongroom, by byte (R424). -/
  nand : List Host.Cell
  /-- The passport and the key fuses (R32 to R42). -/
  psp : Passport
  /-- The sealed set in the making (R53). -/
  env : Envelope
  /-- The register words that the boot records posted (R50, R60). -/
  bootKeys : List (Nat × Nat)
  /-- The returns desk (R445). -/
  desk : Desk
  /-- The registry ledger (R451). -/
  ldg : Ledger
  /-- What the device has sent out of itself, oldest first: Kerrex frames, host responses, network frames, signals. -/
  out : List Out
  /-- The commands that wait, first in, first out. -/
  pending : List Instr
  /-- The courier engine (R160). -/
  eng : Engine
  /-- The actuator loops and arm drivers (R197). -/
  loops : Four Loop
  /-- The postmark time base (R66). -/
  pmk : Pmk
  /-- The tick scheduler (R77). -/
  tck : Tck
  /-- The spindle loop and its inverter (R222). -/
  spn : Spn
  /-- The motor as the spindle slice sees it (R226). -/
  motor : Motor
  /-- The calibration in force (R198 to R212). -/
  cal : Calib
  /-- The franking books (R276). -/
  books : Books
  /-- The read/write lanes (R92). -/
  lanes : Four Lane
  /-- The decoder pool (R105). -/
  dec : Dec
  /-- The recovery store and the ladder (R106, R140). -/
  rcv : Recovery
  /-- The Kerrex bus (R280). -/
  krx : Krx
  /-- The buffer pool manager (R408). -/
  bags : Bags
  /-- The memory side: checks, slips, cache, NAND (R412 to R427). -/
  mem : Mem
  /-- The sorting office (R298). -/
  office : Office
  /-- Consignments, keys and rebuild (R339 to R362). -/
  cons : Consign
  /-- The host side (R367 to R404). -/
  host : HostSide
  /-- The protocol engine (R372). -/
  pre : Pre
  /-- The thermal side (R435). -/
  heat : Heat
  /-- The power path (R248). -/
  pwr : Pwr
  deriving DecidableEq, Repr

/-- The device with the drive bus not yet valid: every register field at its reset value (R10), everything else as the
cold-start column of the survival table leaves it (R60), and no command waiting. -/
def State.reset : State where
  variant := .vk432m
  regs := []
  clockNs := 0
  potNs := 0
  bus := .none
  straps := 0
  tick := 0
  cells := []
  nand := []
  psp := Passport.blank
  env := ⟨[], none, false⟩
  bootKeys := []
  desk := ⟨[], [], none, none, false, 0, 0, 0, 0, 0, [], 0, 0, false, 0⟩
  ldg := ⟨[], [], [], false, 0, 0⟩
  out := []
  pending := []
  eng := ⟨[], [], [], none, [], [], 0, 0, [], [], [], [], false, [], [], [], [], .none, none, [], [], [], []⟩
  loops := .all Loop.cold
  pmk := ⟨false, false, false, false, false, 0, 0, 0, [], [], 0, [], 0, none, false, false⟩
  tck := ⟨0, 0, none, false, 0⟩
  spn := Spn.cold
  motor := Motor.cold
  cal := Calib.reference
  books := Books.clear
  lanes := .all Lane.idle
  dec := ⟨[0, 0, 0, 0, 0], [0, 0, 0, 0, 0], 4, 4, 0, 0, []⟩
  rcv := ⟨[], [], [], [], [], [], [], [], [], [], [], Ladder.default⟩
  krx := Krx.cold
  bags := ⟨false, [], [], []⟩
  mem := Mem.cold
  office := Office.cold
  cons := Consign.cold
  host := HostSide.cold
  pre := Pre.cold
  heat := Heat.cold
  pwr := Pwr.cold

end Sys2Proof.Machine
end

