-- ==== Sys2Proof/Machine/Ops.lean ====
section
/-!
DEFINITION. The named operations over registers and memory that every meaning is written with: reading and writing a
register field, finding the fields at a register address (R13, R14), the words of the DRAM, and the check sums.
-/
namespace Sys2Proof.Machine

/-- The value of a register field. -/
def State.get (s : State) (f : Fld) : Nat := sGet s.regs f.key f.rst

/-- Give a register field a value, which keeps the bits the field has. -/
def State.set (s : State) (f : Fld) (v : Nat) : State :=
  { s with regs := sPut s.regs f.key (v % 2 ^ f.width) f.rst }

/-- Whether a register field is other than 0. -/
def State.on (s : State) (f : Fld) : Bool := s.get f != 0

/-- Add one to a count, which saturates. -/
def State.inc (s : State) (f : Fld) : State := s.set f (satInc (2 ^ f.width - 1) (s.get f))

/-- Add to a count, which saturates. -/
def State.addTo (s : State) (f : Fld) (n : Nat) : State := s.set f (min (2 ^ f.width - 1) (s.get f + n))

/-- Set bit `k` of a field, or clear it. -/
def State.setBit (s : State) (f : Fld) (k : Nat) (v : Bool) : State := s.set f (Sys2Proof.setBit (s.get f) k v)

/-- Bit `k` of a field. -/
def State.bit (s : State) (f : Fld) (k : Nat) : Bool := bitOf (s.get f) k

/-- The signed reading of a field. -/
def State.getS (s : State) (f : Fld) : Int := signed f.width (s.get f)

/-- Give a field a signed value, which saturates at the field's range. -/
def State.setS (s : State) (f : Fld) (i : Int) : State :=
  s.set f (unsigned f.width (clampInt (-(2 ^ (f.width - 1) : Nat)) ((2 ^ (f.width - 1) : Nat) - 1) i))

/-- Give several fields values, in order. -/
def State.setAll (s : State) (l : List (Fld × Nat)) : State := l.foldl (fun s p => s.set p.1 p.2) s

/-- Put fields back to their reset values. -/
def State.clear (s : State) (l : List Fld) : State := l.foldl (fun s f => s.set f f.rst) s

/-- Send something out of the device. -/
def State.emit (s : State) (o : Out) : State := { s with out := s.out ++ [o] }

/-- Whether an actuator, and its lane, is fitted (R3, R4). -/
def State.fitted (s : State) (x : Act) : Bool :=
  match s.variant with
  | .vk432m => true
  | .vk232m => x.n < 2

/-- The actuators that are fitted. -/
def State.acts (s : State) : List Act := [Act.a, Act.b, Act.c, Act.d].filter s.fitted

/-- A block of the register map: its base, the bits in the order of R267 of the domains it needs (either one; none where
it is always on), whether it is a tick-bound unit (R20), and its fields. -/
structure Blk where
  base : Nat
  doms : List Nat
  tickBound : Bool
  rows : List Reg.Row
  deriving DecidableEq, Repr

/-- The block's SOURCE code in a capture record: bits 23 to 16 of its base (R445). -/
def Blk.source (b : Blk) : Nat := bitsOf b.base 23 16

/-- The register block map (R13). -/
def blocks : List Blk :=
  [⟨0x40000000, [], false, Reg.rowsSYS⟩, ⟨0x40010000, [11], true, Reg.rowsPMK⟩, ⟨0x40020000, [12], true, Reg.rowsTCK⟩,
   ⟨0x40100000, [0], true, Reg.rowsCH⟩, ⟨0x40110000, [1], true, Reg.rowsCH⟩, ⟨0x40120000, [2], true, Reg.rowsCH⟩,
   ⟨0x40130000, [3], true, Reg.rowsCH⟩, ⟨0x40140000, [9, 10], false, Reg.rowsDEC⟩, ⟨0x40200000, [12], true, Reg.rowsCRE⟩,
   ⟨0x40210000, [25], true, Reg.rowsARM⟩, ⟨0x40220000, [25], true, Reg.rowsARM⟩, ⟨0x40230000, [26], true, Reg.rowsARM⟩,
   ⟨0x40240000, [26], true, Reg.rowsARM⟩, ⟨0x40280000, [27], true, Reg.rowsSPN⟩, ⟨0x40300000, [], true, Reg.rowsPWR⟩] ++
  [⟨0x40310000, [], true, Reg.rowsFRK⟩, ⟨0x40400000, [24], false, Reg.rowsSOF⟩, ⟨0x40410000, [24], false, Reg.rowsCNS⟩,
   ⟨0x40500000, [19], false, Reg.rowsETH⟩, ⟨0x40510000, [20], false, Reg.rowsETH⟩, ⟨0x40520000, [18], false, Reg.rowsPRE⟩,
   ⟨0x40530000, [18], false, Reg.rowsHQ⟩, ⟨0x40600000, [22], false, Reg.rowsBPM⟩, ⟨0x40610000, [21], false, Reg.rowsPHC⟩,
   ⟨0x40620000, [22], false, Reg.rowsDMA⟩, ⟨0x40630000, [22], false, Reg.rowsMEM⟩, ⟨0x40640000, [23], false, Reg.rowsNFC⟩,
   ⟨0x40700000, [], true, Reg.rowsTHM⟩, ⟨0x40710000, [], false, Reg.rowsFLT⟩, ⟨0x40720000, [], false, Reg.rowsLDG⟩]

/-- The block an address lies in (R14). -/
def blockOf (a : Nat) : Option Blk := blocks.find? fun b => b.base ≤ a && a < b.base + 0x10000

/-- The SOURCE code of the block of an address, 0x90 (fabric) where no block is listed there (R475). -/
def sourceOf (a : Nat) : Nat :=
  match blockOf a with
  | some b => b.source
  | none => 0x90

/-- A row's field at an offset of its block, where the offset is one the row stands at. -/
def rowAt (base off : Nat) (r : Reg.Row) : Option Fld :=
  if r.off ≤ off && (r.count == 1 && off == r.off ||
      r.count > 1 && (off - r.off) % r.stride == 0 && (off - r.off) / r.stride < r.count)
  then some ⟨base + off, r.hi, r.lo, r.acc, r.rst⟩ else none

/-- The fields at a live register address. -/
def fieldsAt (a : Nat) : List Fld :=
  match blockOf a with
  | some b => b.rows.filterMap (rowAt b.base (a - b.base))
  | none => []

/-- The field stored under a key, where it is one of the register tables. -/
def fldOfKey (k : Nat) : Option Fld := (fieldsAt (k / 32)).find? fun f => f.lo == k % 32

/-- Whether power domain `n` of R267 is on. -/
def State.pdOn (s : State) (n : Nat) : Bool := s.bit Reg.SYS_PD_STATUS_ON n

/-- Whether a block can be reached (R13): it is always on, or one of its domains is on. -/
def State.blkOn (s : State) (b : Blk) : Bool := b.doms.isEmpty || b.doms.any s.pdOn

/-- Whether an address lies in the live or staged copy of a block that R4 leaves unfitted. -/
def State.unfitted (s : State) (a : Nat) : Bool :=
  s.variant == .vk232m &&
    [0x40120000, 0x40130000, 0x40230000, 0x40240000].any fun b => b ≤ a && a < b + 0x10000

/-- The live address of a register, from an address of either copy (R7). -/
def liveOf (a : Nat) : Nat := if a % 0x10000 < 0x8000 then a else a - 0x8000

/-- Whether a register address is that of a staged copy (R7). -/
def isStaged (a : Nat) : Bool := 0x8000 ≤ a % 0x10000

/-- Whether a register has a field that is written through an envelope (R7). -/
def stageable (live : Nat) : Bool := (fieldsAt live).any fun f => f.acc == .st

/-- Whether a register reads 0 on this variant: that of an unfitted block (R4), and on the VK-232M TCK_ALLOC_C and
TCK_ALLOC_D (R91). -/
def State.absentReg (s : State) (a : Nat) : Bool :=
  s.unfitted a || (s.variant == .vk232m && (a == 0x40020058 || a == 0x4002005C))

/-- The word at a live register address: its fields in their places, a write-only field as 0, and 0 in every reserved
bit (R8, R9). -/
def State.liveWord (s : State) (a : Nat) : Nat :=
  if s.absentReg a then 0 else
  (fieldsAt a).foldl (fun w f => if f.acc == .wo then w else w + s.get f * 2 ^ f.lo) 0

/-- Give every field of a register that `p` picks the bits a word has in its place. -/
def State.putWord (s : State) (a w : Nat) (p : Fld → Bool) : State :=
  ((fieldsAt a).filter p).foldl (fun s f => s.set f (bitsOf w f.hi f.lo)) s

/-- The word at a staged register address: the staged word where the envelope holds one, the live word otherwise
(R7, R57, R62). -/
def State.stagedWord (s : State) (live : Nat) : Nat :=
  if s.absentReg live then 0 else
  match s.env.writes.find? fun p => p.1 == live with
  | some p => (fieldsAt live).foldl (fun w f => if f.acc == .st then w + bitsOf p.2 f.hi f.lo * 2 ^ f.lo else w) 0
  | none => s.liveWord live

/-- The DRAM is 32 GiB (R1). -/
def dramSize : Nat := 2 ^ 35

/-- A byte of the DRAM. A byte that nothing has written reads 0 (DESIGN CHOICE; log 3). -/
def State.byte (s : State) (a : Nat) : Byte := sGet s.cells a 0

/-- Write a byte of the DRAM. Beyond its end nothing is written. -/
def State.putByte (s : State) (a : Nat) (v : Byte) : State :=
  if a < dramSize then { s with cells := sPut s.cells a v 0 } else s

/-- `n` bytes of the DRAM from an address, as a little-endian number (R6). -/
def State.dram (s : State) (a : Nat) : Nat → Nat
  | 0 => 0
  | n + 1 => (s.byte a).toNat + 256 * State.dram s (a + 1) n

/-- Write a number as `n` little-endian bytes of the DRAM. -/
def State.putDram (s : State) (a : Nat) : Nat → Nat → State
  | 0, _ => s
  | n + 1, v => State.putDram (s.putByte a (BitVec.ofNat 8 v)) (a + 1) n (v / 256)

/-- A 32-bit word of the DRAM. -/
def State.dword (s : State) (a : Nat) : Nat := s.dram a 4

/-- Bytes of the DRAM as a list. -/
def State.bytes (s : State) (a n : Nat) : List Byte := (List.range n).map fun i => s.byte (a + i)

/-- Write a list of bytes to the DRAM. -/
def State.putBytes (s : State) (a : Nat) : List Byte → State
  | [] => s
  | b :: t => State.putBytes (s.putByte a b) (a + 1) t

/-- Write a list of 32-bit words to the DRAM. -/
def State.putWords (s : State) (a : Nat) : List Nat → State
  | [] => s
  | w :: t => State.putWords (s.putDram a 4 w) (a + 4) t

/-- The number of milliseconds of device time. -/
def State.ms (s : State) : Nat := s.clockNs / 1000000

/-- The low 32 bits of the tick count. -/
def State.tickLo (s : State) : Nat := s.tick % 2 ^ 32

/-- Bytes of a number, little-endian. -/
def leBytes : Nat → Nat → List Nat
  | 0, _ => []
  | n + 1, v => v % 256 :: leBytes n (v / 256)

/-- One bit of CRC-32C, reflected: polynomial 0x1EDC6F41. -/
def crc32cBit (c : Nat) : Nat := if c % 2 == 1 then (c / 2) ^^^ 0x82F63B78 else c / 2

/-- CRC-32C of a list of bytes (R452, R417): reflected, all ones at the start, complemented at the end. -/
def crc32c (l : List Nat) : Nat :=
  (l.foldl (fun c b => crc32cBit (crc32cBit (crc32cBit (crc32cBit (crc32cBit (crc32cBit (crc32cBit (crc32cBit
    (c ^^^ b % 256))))))))) 0xFFFFFFFF) ^^^ 0xFFFFFFFF

/-- A meaning that always completes. -/
abbrev ok (s : State) : Host.Outcome State Fault Refusal := .next s

end Sys2Proof.Machine
end

