-- ==== Sys2Proof/Machine/Desk.lean ====
section
/-!
DEFINITION. The returns desk's capture, merging, routing and release of faults (R445 to R449, R475), and the registry
ledger's staging, freezing and draining (R451 to R454), as operations the meanings share.
-/
namespace Sys2Proof.Machine

/-- The next SEQ of the ledger, 64 bits (R462). -/
def State.ldgSeq (s : State) : Nat := s.get Reg.LDG_SEQ_LO_VALUE + 2 ^ 32 * s.get Reg.LDG_SEQ_HI_VALUE

/-- The lifetime power-on time in ms, 64 bits (R462). -/
def State.ldgPot (s : State) : Nat := s.get Reg.LDG_POT_LO_VALUE + 2 ^ 32 * s.get Reg.LDG_POT_HI_VALUE

/-- Whether the staging place holds a record not yet drained (R451, R462). -/
def State.ldgUndrained (s : State) (p : Nat) : Bool :=
  let h := s.get Reg.LDG_DRAIN_DHEAD
  (p + 1024 - h) % 512 < (s.get Reg.LDG_DRAIN_TAIL + 1024 - h) % 1024

/-- LDG_STATUS follows the staging (R462). -/
def State.ldgRefresh (s : State) : State :=
  let frozen := s.ldg.stage.filter fun p => p.2.mark == 0x5A
  let used := s.ldg.stage.filter fun p => p.2.mark == 0x5A || s.ldgUndrained p.1
  ((s.set Reg.LDG_STATUS_FROZEN (b2n (!frozen.isEmpty))).set Reg.LDG_STATUS_USED used.length).set
    Reg.LDG_STATUS_FROZEN_COUNT frozen.length

/-- The pointer of the next staging place LDG fills: frozen places are passed over, and none is left where the places
not yet drained reach round (R453, R454). -/
def ldgPlace (frozen : Nat → Bool) (dhead : Nat) : Nat → Nat → Option Nat
  | 0, _ => none
  | n + 1, t =>
    if (t + 1024 - dhead) % 1024 < 512 then
      if frozen (t % 512) then ldgPlace frozen dhead n ((t + 1) % 1024) else some t
    else none

/-- The place the next commit fills. -/
def State.ldgFree (s : State) : Option Nat :=
  ldgPlace (fun p => (sGet? s.ldg.stage p).any fun r => r.mark == 0x5A) (s.get Reg.LDG_DRAIN_DHEAD) 512
    (s.get Reg.LDG_DRAIN_TAIL)

/-- Write one record at a place: the next SEQ, the tick count, the power-on time and the start count, and its mark last
(R451, R452). -/
def State.ldgPut (s : State) (t type : Nat) (payload : List Nat) : State :=
  let q := s.ldgSeq
  let r : LdgRec := ⟨0xA5, b2n (!s.pdOn 12), type % 2 ^ 16, q, s.tick, s.ldgPot, s.get Reg.LDG_BOOT_VALUE, payload⟩
  let s := { s with ldg := { s.ldg with stage := sIns s.ldg.stage (t % 512) r, committed := true } }
  let s := (s.set Reg.LDG_SEQ_LO_VALUE (q + 1)).set Reg.LDG_SEQ_HI_VALUE ((q + 1) / 2 ^ 32)
  (s.set Reg.LDG_DRAIN_TAIL ((t + 1) % 1024)).ldgRefresh

/-- Commit a record to the staging (R451, R453): dropped and counted in LOST where no place is free; where room has come
back after a loss, a LOST record that carries the count goes first. Answers the SEQ the record was given. -/
def State.ldgCommit (s : State) (type : Nat) (payload : List Nat) : State × Option Nat :=
  match s.ldgFree with
  | none =>
    ({ s.inc Reg.LDG_LOST_LOST with ldg := { s.ldg with lostPending := s.ldg.lostPending + 1 } }, none)
  | some t =>
    if s.ldg.lostPending = 0 then (s.ldgPut t type payload, some s.ldgSeq)
    else
      let s := s.ldgPut t 0x0081 [s.ldg.lostPending, 0, 0, 0, 0, 0, 0]
      let s := { s with ldg := { s.ldg with lostPending := 0 } }
      match s.ldgFree with
      | none =>
        ({ s.inc Reg.LDG_LOST_LOST with ldg := { s.ldg with lostPending := s.ldg.lostPending + 1 } }, none)
      | some t => (s.ldgPut t type payload, some s.ldgSeq)

/-- Commit a record the device makes by itself. -/
def State.ledger (s : State) (type : Nat) (payload : List Nat) : State := (s.ldgCommit type payload).1

/-- A freeze (R454): every valid staged record is marked frozen, and the trigger TYPE is kept. -/
def State.ldgFreeze (s : State) (trigger : Nat) : State :=
  let stage := s.ldg.stage.map fun p => (p.1, if p.2.mark == 0xA5 then { p.2 with mark := 0x5A } else p.2)
  { s with ldg := { s.ldg with stage := stage, trigger := trigger } }.ldgRefresh

/-- Frozen places return to use (R454): a record not yet drained is valid again, a drained one is gone. -/
def State.ldgUnfreeze (s : State) : State :=
  let stage := (s.ldg.stage.filter fun p => s.ldgUndrained p.1).map
    fun p => (p.1, if p.2.mark == 0x5A then { p.2 with mark := 0xA5 } else p.2)
  { s with ldg := { s.ldg with stage := stage } }.ldgRefresh

/-- The records the ring holds at most, at LEDGER_MIB 256 (R451). -/
def ringPlaces : Nat := 4194304

/-- Base firmware copies the records up to a new DHEAD to the ring, where the oldest give way, and advances DHEAD
(R451). A frozen record is copied and keeps its place (R454); any other is staged no more (log 120). -/
def State.ldgDrain (s : State) (dhead : Nat) : State :=
  let h := s.get Reg.LDG_DRAIN_DHEAD
  let n := min ((dhead + 1024 - h) % 1024) ((s.get Reg.LDG_DRAIN_TAIL + 1024 - h) % 1024)
  let recs := (List.range n).filterMap fun i => sGet? s.ldg.stage ((h + i) % 512)
  let ring := s.ldg.ring ++ recs
  let s := s.set Reg.LDG_DRAIN_DHEAD dhead
  let stage := s.ldg.stage.filter fun p => p.2.mark == 0x5A || s.ldgUndrained p.1
  { s with ldg := { s.ldg with stage := stage, ring := ring.drop (ring.length - ringPlaces) } }.ldgRefresh

/-- Base firmware copies the frozen records into the lowest free freeze slot, or into slot 7 where all are full, writes a
Freeze record, and unfreezes (R454). -/
def State.ldgSaveFrozen (s : State) : State :=
  let recs := (s.ldg.stage.filter fun p => p.2.mark == 0x5A).map (·.2)
  match recs with
  | [] => s
  | r :: _ =>
    let k := ((List.range 8).find? fun k => (sGet? s.ldg.slots k).isNone).getD 7
    let first := recs.foldl (fun m q => min m q.seq) r.seq
    let slot : FreezeSlot := ⟨s.ldg.trigger, first, recs.length, s.tickLo, s.ldgPot, recs⟩
    let s := { s with ldg := { s.ldg with slots := sIns s.ldg.slots k slot } }
    (s.ledger 0x0080 [s.ldg.trigger, first % 2 ^ 32, first / 2 ^ 32, recs.length, 0, 0, 0]).ldgUnfreeze

/-- The bytes 1 to 59 of a ledger record (R452). -/
def LdgRec.bytes (r : LdgRec) : List Nat :=
  [r.flags % 256] ++ leBytes 2 r.type ++ leBytes 8 r.seq ++ leBytes 8 r.tick ++ leBytes 8 r.pot ++ leBytes 4 r.boot ++
    (r.payload.take 7).flatMap (leBytes 4) ++ List.replicate (4 * (7 - r.payload.length)) 0

/-- The 64 bytes of a ledger record, mark first and CRC last (R452). -/
def LdgRec.image (r : LdgRec) : List Nat := r.mark % 256 :: r.bytes ++ leBytes 4 (crc32c r.bytes)

/-- Word `k` of a staged ledger record. -/
def LdgRec.word (r : LdgRec) (k : Nat) : Nat :=
  ((r.image.drop (4 * k)).take 4).reverse.foldl (fun w b => w * 256 + b) 0

/-- A fault as a block reports it: SOURCE, CODE, LEVEL, CLASS (0 event, 1 fault, 2 grave), ADDR, INFO, the domain of the
reporting unit (7 for none), and whether an injection caused it. -/
structure Report where
  source : Nat
  code : Nat
  level : Nat
  cls : Nat
  addr : Nat
  info : Nat
  dom : Nat
  injected : Bool
  deriving DecidableEq, Repr

/-- The domain of R15 that owns a source's block (R447): 0 to 3 the actuators, 4 rotation, 5 storage, 6 host, 7 none. -/
def domainOf (source : Nat) : Nat :=
  match source with
  | 0x10 => 0
  | 0x11 => 1
  | 0x12 => 2
  | 0x13 => 3
  | 0x21 => 0
  | 0x22 => 1
  | 0x23 => 2
  | 0x24 => 3
  | 0x01 => 4
  | 0x28 => 4
  | 0x14 => 5
  | 0x40 => 5
  | 0x41 => 5
  | 0x50 => 6
  | 0x51 => 6
  | 0x52 => 6
  | 0x53 => 6
  | 0x60 => 5
  | 0x61 => 5
  | 0x62 => 5
  | 0x63 => 5
  | 0x64 => 5
  | _ => 7

/-- FLT_STATUS follows the desk (R461). -/
def State.deskRefresh (s : State) : State :=
  let st := if s.desk.grave.isSome then 2 else if s.desk.current.isSome then 1 else 0
  let cur := if s.desk.grave.isSome then 64 else s.desk.current.getD 0
  ((s.set Reg.FLT_STATUS_STATE st).set Reg.FLT_STATUS_HELD s.desk.held.length).set Reg.FLT_STATUS_CURRENT cur

/-- Word 0 of a capture record (R445). -/
def CapRec.word0 (r : CapRec) : Nat :=
  r.source % 256 * 2 ^ 24 + r.code % 256 * 2 ^ 16 + r.level % 8 * 2 ^ 13 + r.cls % 4 * 2 ^ 11 + b2n r.injected * 2 ^ 10 +
    r.st % 4 * 2 ^ 8 + r.count % 256

/-- Word `k` of a capture record (R445). -/
def CapRec.word (r : CapRec) (k : Nat) : Nat :=
  match k with
  | 0 => r.word0
  | 1 => r.firstTick
  | 2 => r.lastTick
  | 3 => r.potMs % 2 ^ 32
  | 4 => r.addr % 2 ^ 32
  | 5 => r.addr / 2 ^ 32 % 2 ^ 32
  | 6 => r.info % 2 ^ 32
  | 7 => r.ledger % 2 ^ 16
  | _ => 0

/-- Whether physical core `n` is active (R31). -/
def State.coreActive (s : State) (n : Nat) : Bool := s.bit Reg.SYS_SPARES_CORE_MAP n

/-- The lowest-numbered active core other than `not`. -/
def State.lowestCore (s : State) (not : Nat) : Nat :=
  ((List.range 5).find? fun n => s.coreActive n && n != not).getD 0

/-- The core that a level-4 or level-5 fault interrupts (R30, R447). -/
def State.handlerCore (s : State) (r : CapRec) : Nat :=
  if r.level == 5 && 0x80 ≤ r.source && r.source ≤ 0x84 then s.lowestCore (r.source - 0x80)
  else
    let named :=
      if r.level == 4 && r.dom < 7 then s.get Reg.FLT_ROUTE_DOMAIN / 2 ^ (3 * r.dom) % 8 else s.get Reg.FLT_ROUTE_SUP
    if s.coreActive named then named else s.lowestCore 99

/-- The relief core takes over the work of a lost one (R23, R25, R30): its bit in CORE_MAP, and RELIEF_FREE. -/
def State.relieve (s : State) (n : Nat) : State :=
  let s := { s.setBit Reg.SYS_SPARES_CORE_MAP n false with pwr := { s.pwr with lost := Sys2Proof.setBit s.pwr.lost n true } }
  let spare := (List.range 5).find? fun k => !bitOf s.pwr.lost k && !s.coreActive k && s.pdOn (13 + k)
  match s.on Reg.SYS_SPARES_RELIEF_FREE, spare with
  | true, some k => ((s.setBit Reg.SYS_SPARES_CORE_MAP k true).set Reg.SYS_SPARES_RELIEF_FREE 0).ledger 0x0040 [0, k, 0, 0, 0, 0, 0]
  | _, _ => s

/-- The core whose loss a record tells of, where it is that of a core fault (R30). -/
def CapRec.lostCore (r : CapRec) : Option Nat :=
  if r.level == 5 && r.cls == 1 && r.code == 0x0C && 0x80 ≤ r.source && r.source ≤ 0x84 then some (r.source - 0x80) else none

/-- A service interruption's 800 µs extend every keep-alive deadline (R28, R396). -/
def State.keepAliveLonger (s : State) : State :=
  { s with host := { s.host with assocs := s.host.assocs.map fun p => (p.1, { p.2 with seenNs := p.2.seenNs + 800000 }) } }

/-- Deliver the record at a place to its handler: one fault at a time (R29, R448). The handler of a core fault brings in the relief core
(R28, R30), unless an injection caused the fault (R450). -/
def State.deliver (s : State) (p : Nat) : State :=
  match sGet? s.desk.recs p with
  | none => s
  | some r =>
    let c := s.handlerCore r
    let s := { s with desk := { s.desk with current := some p, sinceMs := s.ms, recs := sIns s.desk.recs p { r with st := 1, core := c } } }
    let s := (s.emit (.interrupt c 0x71)).deskRefresh
    match r.lostCore with
    | some n => if r.injected || !s.coreActive n then s else s.keepAliveLonger.relieve n
    | none => s

/-- A service interruption (R27, R28): while the handler of a lost core's fault has not completed, no command is admitted. -/
def State.interruption (s : State) : Bool :=
  (s.desk.current.bind fun p => sGet? s.desk.recs p).any fun r => r.lostCore.isSome && !r.injected

/-- The record that a new capture merges into, with its place (R446). -/
def State.mergeRec (s : State) (r : Report) : Option (Nat × CapRec) :=
  s.desk.recs.find? fun p =>
    p.1 < 64 && p.2.source == r.source && p.2.code == r.code && p.2.level == r.level && p.2.st != 3 &&
      s.ms - p.2.lastMs ≤ 10 * s.get Reg.FLT_TMO_MERGE_MS

/-- The place a new record takes: a free one, or that of the oldest closed record; none where all 64 are open (R445). -/
def State.freePlace (s : State) : Option Nat :=
  match (List.range 64).find? fun p => (sGet? s.desk.recs p).isNone with
  | some p => some p
  | none =>
    (s.desk.recs.foldl (fun (b : Option (Nat × Nat)) p =>
      if p.1 < 64 && 2 ≤ p.2.st then
        match b with
        | some (_, k) => if p.2.serial < k then some (p.1, p.2.serial) else b
        | none => some (p.1, p.2.serial)
      else b) none).map (·.1)

/-- The counts of log page 0xC4 that a capture adds to (R457), and FLT_COUNTS. A capture an injection caused counts only
as injected (R450). -/
def State.deskCount (s : State) (r : Report) : State :=
  let d := s.desk
  if r.injected then { s with desk := { d with injected := d.injected + 1 } }
  else
    let d := { d with levels := sPut d.levels r.level (sGet d.levels r.level 0 + 1) 0 }
    match r.cls with
    | 0 => { s with desk := { d with events := d.events + 1 } }
    | 1 => { s with desk := { d with faults := d.faults + 1 } }.inc Reg.FLT_COUNTS_FAULTS
    | _ => { s with desk := { d with graves := d.graves + 1 } }.inc Reg.FLT_COUNTS_GRAVE

/-- Write a new record at a place, with its ledger record (R445, R453). -/
def State.record (s : State) (p : Nat) (r : Report) (st : Nat) : State :=
  let c : CapRec := ⟨r.source, r.code, r.level, r.cls, r.injected, st, 1, s.tickLo, s.tickLo, s.ldgPot % 2 ^ 32, r.addr,
    r.info, 0, r.dom, s.ms, s.desk.serial, 0⟩
  let l := s.ldgCommit 0x0010 [c.word 0, c.word 1, c.word 2, c.word 3, c.word 4, c.word 5, c.word 6]
  let s := l.1
  let c := { c with ledger := (l.2.getD 0) % 2 ^ 16 }
  { s with desk := { s.desk with recs := sIns s.desk.recs p c, serial := s.desk.serial + 1 } }

/-- The domain whose loop a slice belongs to, for the fault raised to the loop (R15, R18): the actuator's, rotation for the
spindle slice and the governor, none for the others. -/
def sliceDomain (n : Nat) : Nat :=
  if n = 0 || n = 13 then 4 else if n ≤ 12 then (n - 1) % 4 else 7

/-- Stop an injection channel under R186: it contributes no more, is disarmed, and STOPPED is set. -/
def State.stopInj (s : State) (n : Fin 4) : State :=
  if s.on (Reg.CRE_INJ_STAT_ACTIVE n.val) then
    ((s.set (Reg.CRE_INJ_STAT_ACTIVE n.val) 0).set (Reg.CRE_INJ_CTRL_ARM n.val) 0).set (Reg.CRE_INJ_STAT_STOPPED n.val) 1
  else s

/-- Every active injection channel stops (R186). -/
def State.stopAllInj (s : State) : State := [0, 1, 2, 3].foldl (fun s n => s.stopInj n) s

/-- The injection channels that a slice of a domain uses stop (R186). -/
def State.stopInjIn (s : State) (dom : Nat) : State :=
  [0, 1, 2, 3].foldl (fun s n => if s.eng.injUse.any fun p => p.1 == n.val && sliceDomain p.2 == dom then s.stopInj n else s) s

/-- Capture an event or a fault (R445 to R448): merged into a record of the same source, code and level; otherwise given a
place and routed by its level. -/
def State.capture (s : State) (r : Report) : State :=
  let r := { r with injected := r.injected || s.desk.injActive }
  let s := s.deskCount r
  let s := if r.cls == 1 && 3 ≤ r.level && r.dom < 7 then s.stopInjIn r.dom else s
  match s.mergeRec r with
  | some (p, c) =>
    let c := { c with count := satInc 255 c.count, lastTick := s.tickLo, lastMs := s.ms }
    { s with desk := { s.desk with recs := sIns s.desk.recs p c } }
  | none =>
    match s.freePlace with
    | none => s.inc Reg.FLT_COUNTS_DROPPED
    | some p =>
      let s := if r.cls == 0 then s.set Reg.FLT_INT_EVENT 1 else s.set Reg.FLT_INT_FAULT 1
      if r.level == 4 || r.level == 5 then
        let s := s.record p r 0
        if s.desk.current.isSome || s.desk.grave.isSome then
          let h := s.desk.held ++ [p]
          { s with desk := { s.desk with held := h, mostHeld := max s.desk.mostHeld h.length } }.deskRefresh
        else s.deliver p
      else s.record p r (if r.level == 2 || r.level == 3 then 1 else 2)

/-- What an operation captures while an injection takes effect is marked as caused by it (R450). -/
def State.asInjected (s : State) (f : State → State) : State :=
  let t := f { s with desk := { s.desk with injActive := true } }
  { t with desk := { t.desk with injActive := s.desk.injActive } }

/-- A grave fault's record takes place 64, the injections stop, and the desk shows it (R186, R449). -/
def State.graveRecord (s : State) (r : Report) (thermal : Bool) : State :=
  let s := (((s.deskCount r).record 64 r 1).set Reg.FLT_INT_FAULT 1).stopAllInj
  { s with desk := { s.desk with grave := some thermal } }.deskRefresh

/-- A grave fault (R449): it takes place 64 with LEVEL 5 and CLASS 0b10, passes every held fault, and freezes the ledger
staging where FREEZE_GRAVE says so or the fault is a thermal shutdown. A second one while the first is pending, or a
shutdown captured while the module cools, is an event and starts nothing (R443, R459). Answers whether it was taken. -/
def State.graveCapture (s : State) (source code addr info : Nat) (thermal : Bool) : State × Bool :=
  if s.desk.grave.isSome || s.get Reg.THM_STATUS_STATE == 4 then
    (s.capture ⟨source, if thermal then 0x0B else code, 1, 0, addr, if s.desk.grave.isSome then 64 else info, 7, false⟩, false)
  else
    let s := s.graveRecord ⟨source, code, 5, 2, addr, info, 7, s.desk.injActive⟩ thermal
    let s := if thermal then s.ldgFreeze 0x0020 else if s.on Reg.FLT_CTRL_FREEZE_GRAVE then s.ldgFreeze 0x0010 else s
    (s, true)

/-- Close the record at a place: 2 absorbed, 3 raised, with the Fault closed record of the ledger (R447, R453). -/
def State.closeRec (s : State) (p st level : Nat) : State :=
  match sGet? s.desk.recs p with
  | none => s
  | some c =>
    let s := { s with desk := { s.desk with recs := sIns s.desk.recs p { c with st := st } } }
    s.ledger 0x0011 [p, st, level, 0, 0, 0, 0]

/-- The next held fault goes to its handler (R448). -/
def State.releaseNext (s : State) : State :=
  match s.desk.held with
  | [] => { s with desk := { s.desk with current := none } }.deskRefresh
  | p :: t => { s with desk := { s.desk with current := none, held := t } }.deliver p

/-- An event of level 1, closed at capture (R475). -/
def State.event (s : State) (source code addr info : Nat) : State :=
  s.capture ⟨source, code, 1, 0, addr, info, domainOf source, false⟩

/-- A fault of a level, routed under R447. -/
def State.fault (s : State) (level source code addr info : Nat) : State :=
  s.capture ⟨source, code, level, 1, addr, info, domainOf source, false⟩

/-- The initiator's code in INFO (R475): cores 0x80 to 0x84, or the SOURCE of the initiating block. -/
def initiatorCode : Initiator → Nat
  | .core n => 0x80 + n
  | .courier => 0x20
  | .carrier => 0x62
  | .nand => 0x64
  | .protocol => 0x52

/-- An access completed with a bus error: nothing is written and the desk is told (R6, R14, R20). -/
def State.busError (s : State) (i : Initiator) (a : Nat) : State :=
  { s.event (sourceOf a) 0x01 a (initiatorCode i) with bus := .error }

/-- A write or command ignored and reported (R475). -/
def State.ignored (s : State) (i : Initiator) (a : Nat) : State :=
  { s.event (sourceOf a) 0x02 a (initiatorCode i) with bus := .written }

/-- Whether the bus lets a register access through to the block: the size, the alignment, a listed block, its domain on,
and no class-B access to a tick-bound unit (R6, R13, R14, R20). -/
def State.busOk (s : State) (i : Initiator) (a size : Nat) : Bool :=
  size == 4 && a % 4 == 0 &&
    match blockOf a with
    | none => false
    | some b =>
      s.blkOn b && !(b.tickBound && match i with | .core _ => false | .courier => false | _ => true)

/-- Make a register access (R4, R6, R14, R20): a bus error on any other size or alignment; nothing on an unfitted block;
`f` where the bus lets the access through. -/
def State.access (s : State) (i : Initiator) (a size : Nat) (f : State → State) : State :=
  if size != 4 || a % 4 != 0 then s.busError i a
  else if s.unfitted a then { s with bus := .read 0 }
  else if s.busOk i a size then f s
  else s.busError i a

end Sys2Proof.Machine
end

