-- ==== Sys2Proof/Machine/Ports.lean ====
section
/-!
DEFINITION. The courier engine's ports and the loops' mailboxes and reply rings (R21, R175 to R178): which port may be read
or written, what a unit does with a word it receives, and how a reply is placed.
-/
namespace Sys2Proof.Machine

/-- An empty mailbox. -/
def Mailbox.empty : Mailbox := ⟨[], [], 0, 0, []⟩

/-- A loop's mailbox: 0 spindle, 1 to 4 actuators A to D (R178). -/
def State.mail (s : State) (l : Nat) : Mailbox := sGet s.eng.mail l Mailbox.empty

/-- Replace a loop's mailbox. -/
def State.putMail (s : State) (l : Nat) (m : Mailbox) : State :=
  { s with eng := { s.eng with mail := sPut s.eng.mail l m Mailbox.empty } }

/-- The messages that stand against a mailbox of 16: delivered and not discarded, and in delivery (R21). -/
def Mailbox.count (m : Mailbox) : Nat := m.box.length + m.transit.length

/-- Discard the head message, where one is taken up (R178, port 0xF2). -/
def State.discard (s : State) (l : Nat) : State :=
  let m := s.mail l
  if m.taken = 0 then s else s.putMail l { m with box := m.box.tail, taken := m.taken - 1, word := 0 }

/-- The head message of a loop, where one is taken up. -/
def State.headMsg (s : State) (l : Nat) : Option Msg :=
  let m := s.mail l
  if m.taken = 0 then none else m.box.head?

/-- Word `k` of a message; words beyond its length read 0 (R178). -/
def Msg.word (m : Msg) (k : Nat) : Nat := m.words.getD k 0

/-- The TYPE of a message (R200). -/
def Msg.type (m : Msg) : Nat := bitsOf (m.word 0) 31 24

/-- The TAG of a message (R200). -/
def Msg.tag (m : Msg) : Nat := bitsOf (m.word 0) 15 0

/-- Entries a reply ring holds and has not yet given to firmware, modulo 32 (R190). -/
def State.ringUsed (s : State) (l : Nat) : Nat :=
  (s.get (Reg.CRE_REPLY_PTR_RTAIL l) + 32 - s.get (Reg.CRE_REPLY_PTR_RHEAD l)) % 32

/-- A reply ring of 16 entries is full (R178, R190). -/
def State.ringFull (s : State) (l : Nat) : Bool := 16 ≤ s.ringUsed l

/-- The domain of a loop: rotation for the spindle, else its actuator's (R447). -/
def loopDomain (l : Nat) : Nat := if l = 0 then 4 else l - 1

/-- A level-3 fault is closed by its loop's reply (R447). -/
def State.closeLevel3 (s : State) (l : Nat) : State :=
  match s.desk.recs.find? fun p => p.2.level == 3 && p.2.st == 1 && p.2.dom == loopDomain l with
  | some p => s.closeRec p.1 2 3
  | none => s

/-- Place a reply in a loop's ring (R178): word 0 takes TAG and TYPE, the device fills in the number of words that follow,
and the words beyond them read 0. A reply to a full ring is discarded, counted in LOST and reported. -/
def State.reply (s : State) (l tag type : Nat) (ws : List Nat) : State :=
  let ws := ws.take 15
  let s := s.closeLevel3 l
  if s.ringFull l then (s.inc (Reg.CRE_REPLY_PTR_LOST l)).event 0x20 0x02 l 0x20
  else
    let t := s.get (Reg.CRE_REPLY_PTR_RTAIL l)
    let e := 256 * l + 16 * (t % 16)
    let w0 := tag % 2 ^ 16 * 2 ^ 16 + ws.length * 2 ^ 8 + type % 2 ^ 8
    let ws := w0 :: ws ++ List.replicate (15 - ws.length) 0
    let s := (List.range 16).foldl (fun s i => s.set (Reg.CRE_REPLY (e + i)) (ws.getD i 0)) s
    (s.set (Reg.CRE_REPLY_PTR_RTAIL l) ((t + 1) % 32)).setBit Reg.CRE_INT_REPLY l true

/-- The input ports of the port map (R175, R195, R223, R266, R438 and the FRK formats of R276). -/
def inputPort (p : Nat) : Bool :=
  p ≤ 0x04 || p == 0x10 || p == 0x11 ||
    (0x20 ≤ p && p < 0x40 && p % 8 ≤ 1) ||
    (0x40 ≤ p && p < 0x80 && (p % 16 == 8 || p % 16 == 9)) ||
    (0x80 ≤ p && p ≤ 0x85) || (0x90 ≤ p && p ≤ 0x92) || (0xA0 ≤ p && p ≤ 0xA9) || p == 0xF0 || p == 0xF1

/-- The output ports of the port map. -/
def outputPort (p : Nat) : Bool :=
  (0x08 ≤ p && p ≤ 0x0B) ||
    (0x20 ≤ p && p < 0x40 && 4 ≤ p % 8 && p % 8 ≤ 6) ||
    (0x40 ≤ p && p < 0x80 && p % 16 ≤ 2) ||
    p == 0x88 || p == 0x98 || p == 0xAC || p == 0xAD || (0xF2 ≤ p && p ≤ 0xF4)

/-- Whether the unit of a port is powered and fitted (R175). -/
def State.portOn (s : State) (p : Nat) : Bool :=
  if p < 0x10 then s.pdOn 27
  else if p < 0x20 then s.pdOn 11
  else if p < 0x40 then s.fitted (Act.num ((p - 0x20) / 8)) && s.pdOn ((p - 0x20) / 8)
  else if p < 0x80 then
    s.fitted (Act.num ((p - 0x40) / 16)) && s.pdOn (if (p - 0x40) / 16 < 2 then 25 else 26)
  else true

/-- The last word a unit received at an output port (R177). -/
def State.portOut (s : State) (p : Nat) : Nat := sGet s.eng.portOut p 0

/-- Keep the last word a unit received. -/
def State.putPortOut (s : State) (p v : Nat) : State :=
  { s with eng := { s.eng with portOut := sPut s.eng.portOut p v 0 } }

/-- A unit updates an input latch: the latch takes the value and FRESH holds from then on (R176). -/
def State.latch (s : State) (p v : Nat) : State :=
  let f := if s.eng.fresh.contains p then s.eng.fresh else p :: s.eng.fresh
  { s with eng := { s.eng with portIn := sPut s.eng.portIn p (v % 2 ^ 32) 0, fresh := f } }

/-- The lane ports of an actuator (R175, R195). -/
def lanePort (x : Act) (k : Nat) : Nat := 0x20 + 8 * x.n + k

/-- The arm driver ports of an actuator (R175, R195). -/
def armPort (x : Act) (k : Nat) : Nat := 0x40 + 16 * x.n + k

/-- An actuator loop. -/
def State.lp (s : State) (x : Act) : Loop := s.loops.at x

/-- Replace an actuator loop. -/
def State.putLp (s : State) (x : Act) (l : Loop) : State := { s with loops := s.loops.put x l }

/-- The duty above which a phase has less than SHUNT_MIN of low-side on-time (R224), in 1/65536 of the PWM period; the
period in courier cycles is 25400 / PWM_DIV, its time follows from the tick period in ns. -/
def State.dutyLimit (s : State) (tickNs : Nat) : Nat :=
  let div := max 1 (min 4 (s.get Reg.SPN_PWM_PWM_DIV))
  let shuntNs := 10 * s.get Reg.SPN_PWM_SHUNT_MIN
  65536 - min 65536 (65536 * shuntNs * div / max 1 tickNs)

/-- The coil current command the driver keeps: limited by I_LIMIT in magnitude (R195). -/
def State.coilLimit (s : State) (x : Act) (v : Nat) : Nat :=
  let lim : Int := ((s.get (Reg.ARM_VCM_CFG_I_LIMIT x) * 655360 / 1000 : Nat) : Int)
  unsigned 32 (clampInt (-lim) lim (signed 32 v))

/-- What the arm driver does with a word at its ports (R195, R196, R216): nothing while a hardware retract runs. A command
at port +0 or +2 answers the watchdog; one at port +2 with VEL_MODE 1 outward answers a grave-fault signal. -/
def State.armWrite (s : State) (x : Act) (k v : Nat) : State :=
  let l := s.lp x
  if l.retracting then s
  else
    match k with
    | 0 => (s.putPortOut (armPort x 0) (s.coilLimit x v)).putLp x { l with quiet := 0 }
    | 1 => s.putPortOut (armPort x 1) v
    | 2 =>
      let vel := bitOf v 31
      (s.putPortOut (armPort x 2) v).putLp x
        { l with quiet := 0, vel := vel, parked := bitOf v 30, graveTicks := if vel then none else l.graveTicks }
    | _ => s

/-- What the inverter does with a word at its ports (R223 to R225): a duty above the shunt limit is served at the limit and
counted; a duty answers the watchdog; mode 0b11 is ignored. -/
def State.spnWrite (s : State) (tickNs k v : Nat) : State :=
  if k == 0x0B then
    if v % 4 == 3 then s else s.putPortOut k (v % 4)
  else
    let lim := s.dutyLimit tickNs
    let d := v % 2 ^ 16
    let s := { s with spn := { s.spn with quiet := 0 } }
    if lim < d then (s.putPortOut k lim).inc Reg.SPN_COUNTS_LIMITED else s.putPortOut k d

/-- The inverter's mode: 0 off, 1 PWM, 2 short brake (R223). -/
def State.invMode (s : State) : Nat := s.portOut 0x0B

/-- Set the inverter's mode. -/
def State.setInv (s : State) (m : Nat) : State := s.putPortOut 0x0B m

/-- The active head is selected anew (R351): `satHeads` holds, by surface, twice the successive selections on which the head's
microactuator raised the fault of R210, plus one where the present one has. A selection that ended without it starts the count again. -/
def State.noteSelection (s : State) (x : Act) (head : Nat) : State :=
  if (s.lp x).head = head && (s.lp x).mode != LoopMode.loading then s else
  let k := 8 * x.n + (s.lp x).head
  let v := sGet s.cons.satHeads k 0
  { s with cons := { s.cons with satHeads := sPut s.cons.satHeads k (if v % 2 = 1 then v - 1 else 0) 0 } }

/-- The lane sends the preamp the head-select frame of a new head (R208, R211). -/
def State.headFrame (s : State) (x : Act) (head : Nat) : State :=
  if (s.lp x).head = head && (s.lp x).mode != LoopMode.loading then s else s.emit (.aspFrame x false s.cal.headSelect head)

/-- A lane's active head and target change (R92, R195): lane port +6 has been written. -/
def State.selectTarget (s : State) (x : Act) (head track : Nat) : State :=
  (((s.headFrame x head).noteSelection x head).putLp x { s.lp x with head := head, target := track }).set (Reg.CH_STATUS_HEAD x) head

/-- What a unit does with a word the engine writes to its port (R175, R177): dropped where the unit is off. -/
def State.portWrite (s : State) (tickNs p v : Nat) : State :=
  if !s.portOn p then s
  else if p < 0x10 then s.spnWrite tickNs p v
  else if 0x40 ≤ p && p < 0x80 then s.armWrite (Act.num ((p - 0x40) / 16)) (p % 16) v
  else if 0x20 ≤ p && p < 0x40 then
    let x := Act.num ((p - 0x20) / 8)
    let s := s.putPortOut p v
    match p % 8 with
    | 4 => s.putLp x { s.lp x with wi := v % 2 == 1 }
    | 5 => (s.putLp x { s.lp x with onTrack := v % 2 == 1 }).set (Reg.CH_STATUS_ON_TRACK x) (v % 2)
    | 6 => s.selectTarget x (v / 2 ^ 29 % 8) (v % 2 ^ 24)
    | _ => s
  else if p == 0x88 then s.putPortOut p (min v (1000 * s.get Reg.PWR_HOLD_PIN_MAX))
  else if p == 0x98 then (s.putPortOut p v).set Reg.FRK_PURSE_COMMIT (v % 256)
  else if p == 0xAC then ((s.putPortOut p v).set Reg.THM_JUNC_J (v / 2 ^ 16)).set Reg.THM_JUNC_J_MODEL v
  else if p == 0xAD then
    let s := ((s.putPortOut p v).set Reg.THM_STATUS_STATE v).set Reg.THM_STATUS_STEP (v / 8)
    let new := v / 32 % 256
    if new = 0 then s
    else (s.set Reg.THM_STATUS_BROKEN (s.get Reg.THM_STATUS_BROKEN ||| new)).set Reg.THM_INT_BROKEN 1
  else s.putPortOut p v

/-- The duration of a tick in ns: the free tick's period from TCK_FREE_PERIOD while the source is free, and that of the disc
tick at the set speed, stretched while the source slews (R78), otherwise. The operations that turn a time of the spec into ticks use it (DEDUCED; log 12). -/
def State.tickNs (s : State) : Nat :=
  if s.get Reg.TCK_STATUS_SRC = 0 then
    (s.get Reg.TCK_FREE_PERIOD_INT * 65536 + s.get Reg.TCK_FREE_PERIOD_FRAC) * 40 / 65536
  else
    let disc := 60000000000 / max 1 (s.get Reg.SPN_SET_SET_RPM * s.get Reg.PMK_TICKCFG_WEDGES)
    ((disc : Int) * (3276800 + s.tck.stretch) / 3276800).toNat

end Sys2Proof.Machine
end

