-- ==== Sys2Proof/Machine/Operands.lean ====
section
/-!
DEFINITION. The operand forms of a courier microword (R164, R166): the fields of the word, the slice numbers (R160), what an
operand code selects, and the sine and cosine of the ALU (R171).
-/
namespace Sys2Proof.Machine

/-- The fields of a microword (R164). -/
structure MW where
  seq : Nat
  cond : Nat
  target : Nat
  segend : Bool
  alu : Nat
  a : Nat
  b : Nat
  d : Nat
  mac : Nat
  x : Nat
  y : Nat
  acc : Bool
  shr : Nat
  clampMode : Nat
  clampIdx : Nat
  memOp : Nat
  memMode : Nat
  memAddr : Nat
  memIdx : Nat
  memSrc : Nat
  ioOp : Nat
  ioPort : Nat
  ioSrc : Nat
  cap : Bool
  capCh : Nat
  capSrc : Nat
  inj : Bool
  injCh : Nat
  imm : Nat
  deriving DecidableEq, Repr

/-- Read the fields of a 192-bit microword (R164). -/
def MW.ofNat (w : Nat) : MW :=
  { seq := bitsOf w 191 188, cond := bitsOf w 187 183, target := bitsOf w 182 170, segend := bitOf w 169,
    alu := bitsOf w 168 164, a := bitsOf w 163 157, b := bitsOf w 156 150, d := bitsOf w 149 143,
    mac := bitsOf w 142 140, x := bitsOf w 139 133, y := bitsOf w 132 126, acc := bitOf w 125, shr := bitsOf w 124 120,
    clampMode := bitsOf w 119 118, clampIdx := bitsOf w 117 112, memOp := bitsOf w 111 110, memMode := bitsOf w 109 108,
    memAddr := bitsOf w 107 94, memIdx := bitsOf w 93 90, memSrc := bitsOf w 89 83, ioOp := bitsOf w 82 81,
    ioPort := bitsOf w 80 73, ioSrc := bitsOf w 72 66, cap := bitOf w 65, capCh := bitsOf w 64 63,
    capSrc := bitsOf w 62 56, inj := bitOf w 55, injCh := bitsOf w 54 53, imm := bitsOf w 31 0 }

/-- The context of a slice. -/
def State.ctx (s : State) (n : Nat) : Ctx := sGet s.eng.ctx n Ctx.clear

/-- Replace the context of a slice. -/
def State.putCtx (s : State) (n : Nat) (c : Ctx) : State :=
  { s with eng := { s.eng with ctx := sPut s.eng.ctx n c Ctx.clear } }

/-- The loop whose mailbox and ring a slice shares (R178): the spindle slice's, and an actuator's for its servo,
microactuator and head-load slices; none for the others. -/
def sliceLoop (n : Nat) : Option Nat :=
  if n = 0 then some 0 else if n ≤ 12 then some ((n - 1) % 4 + 1) else none

/-- The priority of a slice, 1 the highest (R87). -/
def slicePrio (n : Nat) : Nat :=
  if n = 0 then 1 else if n ≤ 4 then 2 else if n ≤ 8 then 3 else if n ≤ 12 then 4 else if n ≤ 15 then 5
  else if n = 16 then 6 else 7

/-- The allocation of a slice in cycles, from its quanta of 4 (R87). Diagnostics have none. -/
def State.sliceAlloc (s : State) (n : Nat) : Nat :=
  4 * (if n = 0 then s.get Reg.TCK_ALLOC_SPN_SPIN_Q
       else if n ≤ 4 then s.get (Reg.TCK_ALLOC_SERVO_Q (n - 1))
       else if n ≤ 8 then s.get (Reg.TCK_ALLOC_MICRO_Q (n - 5))
       else if n ≤ 12 then s.get (Reg.TCK_ALLOC_LOAD_Q (n - 9))
       else if n = 13 then s.get Reg.TCK_ALLOC_SYS_GOV_Q
       else if n = 14 then s.get Reg.TCK_ALLOC_SYS_FRANK_Q
       else if n = 15 then s.get Reg.TCK_ALLOC_SYS_THERM_Q
       else if n = 16 then s.get Reg.TCK_ALLOC_SPN_INJECT_Q
       else 6350)

/-- Whether a slice may become ready: its bit in CRE_SLICE_EN, and for an actuator's slices the actuator fitted (R162). -/
def State.sliceEn (s : State) (n : Nat) : Bool :=
  s.bit Reg.CRE_SLICE_EN_EN n && (n = 0 || 12 < n || s.fitted (Act.num (n - 1)))

/-- Whether a slice runs: the engine runs and the slice is enabled (R87, R182). -/
def State.sliceRuns (s : State) (n : Nat) : Bool := s.get Reg.CRE_STATUS_STATE == 3 && s.sliceEn n

/-- The accumulator shifted right by `k`, rounded half up, saturated to 32 bits (R166). -/
def accRead (acc : Int) (k : Nat) : Nat :=
  let r := if k = 0 then acc else (acc + (2 ^ (k - 1) : Nat)) / (2 ^ k : Nat)
  unsigned 32 (clampInt (-(2 ^ 31 : Nat)) ((2 ^ 31 : Nat) - 1) r)

/-- Whether an operand code is one of the reserved codes (R166). -/
def operandReserved (c : Nat) : Bool := 0x5A ≤ c

/-- What an operand code selects, as it stands at the start of the cycle (R163, R166); `inp` is what the microword's port
read gives. -/
def State.operand (s : State) (n : Nat) (w : MW) (inp c : Nat) : Nat :=
  let k := s.ctx n
  if c < 0x10 then sGet k.g c 0
  else if c < 0x50 then
    match sGet? s.eng.pend (c - 0x10) with
    | some v => v
    | none => s.get (Reg.CRE_X (c - 0x10))
  else if c = 0x50 then accRead k.acc0 w.shr
  else if c = 0x51 then accRead k.acc1 w.shr
  else if c = 0x52 then w.imm
  else if c = 0x53 then k.mem
  else if c = 0x54 then inp
  else if c = 0x56 then 1
  else if c = 0x57 then s.eng.cyc
  else if c = 0x58 then s.tickLo
  else if c = 0x59 then k.lc
  else 0

/-- π × 2^60 / 32768, rounded: one unit of a 65,536-per-turn angle in radians, as a multiple of 2^-60. -/
def piUnit : Nat := 110534964875444

/-- The terms of a Taylor series from one term on, each the one before times x² over two factorial steps, with alternating
signs; `sq` is x² as a multiple of 2^-60. -/
def trigTerms (sq : Nat) : Nat → Nat → Nat → Bool → Int
  | 0, _, _, _ => 0
  | n + 1, k, t, neg =>
    (if neg then -(t : Int) else (t : Int)) + trigTerms sq n (k + 2) (t * sq / 2 ^ 60 / ((k + 1) * (k + 2))) (!neg)

/-- The sine of `r` units of a 65,536-per-turn angle, `r` at most a quarter turn, as a multiple of 2^-60. -/
def sinQuarter (r : Nat) : Int :=
  let x := r * piUnit
  trigTerms (x * x / 2 ^ 60) 14 1 x false

/-- The sine of a 65,536-per-turn angle with 0x4000_0000 as 1.0, to within half a unit of the true value. -/
def sineOf (a : Nat) : Int :=
  let r := a % 16384
  let v := match a % 65536 / 16384 with
    | 0 => sinQuarter r
    | 1 => sinQuarter (16384 - r)
    | 2 => -sinQuarter r
    | _ => -sinQuarter (16384 - r)
  (v + 2 ^ 29) / 2 ^ 30

/-- SIN and COS of the ALU (R171): the true value with an error of at most 2^-24, which is 64 units and whose value within
that bound is free (log 13). -/
def trigResult (isCos : Bool) (a : Nat) : Nat :=
  let a := a % 65536
  let v := sineOf (if isCos then a + 16384 else a)
  unsigned 32 (v + clampInt (-63) 63 (Config.trigError isCos a))

end Sys2Proof.Machine
end

