-- ==== Sys2Proof/Machine/Flags.lean ====
section
/-!
DEFINITION. The ALU with its flags, the injection addition, the clamp unit, the multiply-accumulate unit (R171 to R173) and
the conditions of the sequencer (R169).
-/
namespace Sys2Proof.Machine

/-- 32-bit wrap of an integer. -/
def wrap32 (i : Int) : Nat := unsigned 32 i

/-- Whether an integer lies outside the signed 32-bit range. -/
def over32 (i : Int) : Bool := i < -(2 ^ 31 : Nat) || ((2 ^ 31 : Nat) : Int) ≤ i

/-- Saturate to the signed 32-bit range. -/
def sat32 (i : Int) : Nat := unsigned 32 (clampInt (-(2 ^ 31 : Nat)) ((2 ^ 31 : Nat) - 1) i)

/-- The result of an ALU operation and whether it overflowed or saturated (R171). -/
def aluResult (op a b : Nat) : Nat × Bool :=
  let sa := signed 32 a
  let sb := signed 32 b
  match op with
  | 0x01 => (a % 2 ^ 32, false)
  | 0x02 => (wrap32 (sa + sb), over32 (sa + sb))
  | 0x03 => (wrap32 (sa - sb), over32 (sa - sb))
  | 0x04 => (sat32 (sa + sb), over32 (sa + sb))
  | 0x05 => (sat32 (sa - sb), over32 (sa - sb))
  | 0x06 => ((a &&& b) % 2 ^ 32, false)
  | 0x07 => ((a ||| b) % 2 ^ 32, false)
  | 0x08 => ((a ^^^ b) % 2 ^ 32, false)
  | 0x09 => (wrap32 (sa / (2 ^ (b % 32) : Nat)), false)
  | 0x0A => (a * 2 ^ (b % 32) % 2 ^ 32, false)
  | 0x0B => (wrap32 (min sa sb), false)
  | 0x0C => (wrap32 (max sa sb), false)
  | 0x0D => (sat32 (if sa < 0 then -sa else sa), over32 (if sa < 0 then -sa else sa))
  | 0x0E => (sat32 (-sa), over32 (-sa))
  | 0x0F => (wrap32 (sa - sb), over32 (sa - sb))
  | 0x10 => (if sb ≤ sa then 1 else 0, false)
  | 0x11 => (trigResult false a, false)
  | 0x12 => (trigResult true a, false)
  | _ => (0, false)

/-- What the clamp unit makes of the value about to be written (R173): the value, whether it is written at all, and whether
it was limited or held. A pair whose LO exceeds HI limits every value to LO, and holds every value under HOLD. -/
def clampUnit (mode : Nat) (lo hi : Int) (v : Nat) : Nat × Bool × Bool :=
  let i := signed 32 v
  let out := hi < lo || i < lo || hi < i
  if mode = 0 || !out then (v, true, false)
  else if mode = 2 then (v, false, true)
  else (unsigned 32 (if hi < lo then lo else clampInt lo hi i), true, true)

/-- The product of a MAC operation: the exact 64-bit product shifted right by 16, rounded half up (R172). -/
def macProduct (x y : Nat) : Int := (signed 32 x * signed 32 y + 32768) / 65536

/-- Saturate to the 48-bit accumulator (R172). -/
def sat48 (i : Int) : Int := clampInt (-(2 ^ 47 : Nat)) ((2 ^ 47 : Nat) - 1) i

/-- The accumulator after a MAC operation, and whether it saturated (R172). -/
def macResult (op : Nat) (acc : Int) (x y : Nat) : Int × Bool :=
  let p := macProduct x y
  let r := match op with
    | 1 => p
    | 2 => acc + p
    | 3 => acc - p
    | 4 => 0
    | _ => acc
  (sat48 r, sat48 r != r)

/-- The sample an active injection channel adds in this tick, shifted right by SHIFT; 0 while the channel is inactive
(R184). -/
def State.injSample (s : State) (n : Nat) : Int :=
  if s.on (Reg.CRE_INJ_STAT_ACTIVE n) then
    signed 32 (s.get (Reg.CRE_INJ (1024 * n + s.get (Reg.CRE_INJ_STAT_INDEX n)))) /
      (2 ^ s.get (Reg.CRE_INJ_CTRL_SHIFT n) : Nat)
  else 0

/-- Whether a condition holds for a slice (R169). `fresh` is FRESH of the port read by the same microword. -/
def State.condHolds (s : State) (n c : Nat) (fresh : Bool) : Bool :=
  let k := s.ctx n
  match c with
  | 0x00 => true
  | 0x01 => k.z
  | 0x02 => !k.z
  | 0x03 => k.n
  | 0x04 => !k.n
  | 0x05 => k.v
  | 0x06 => k.clp
  | 0x07 => k.lc == 0
  | 0x08 => fresh
  | 0x09 => (sliceLoop n).any fun l => 0 < (s.mail l).taken
  | 0x0A => s.eng.posted
  | 0x0B => s.get Reg.TCK_STATUS_SRC == 2
  | 0x0C => s.sliceAlloc n < sGet s.eng.used n 0 + 256
  | 0x0D => (sliceLoop n).any s.ringFull
  | 0x0E => (List.range 4).any fun i => s.on (Reg.CRE_INJ_STAT_ACTIVE i)
  | 0x0F => false
  | c => bitOf (sGet k.g 15 0) (c - 0x10)

end Sys2Proof.Machine
end

