-- ==== Sys2Proof/Machine/Inject.lean ====
section
/-!
DEFINITION. Injection by inverted check bits (R450): the word armed, what a write to it does, and what a read of a word of SRAM with
inverted check bits meets.
-/
namespace Sys2Proof.Machine

/-- The addresses a word of a target covers: eight bytes, or one word of the courier's data memory (R450). -/
def injWidth (target : Nat) : Nat := if target = 3 then 1 else 8

/-- The number of check bits an injection inverts (R450, R461). -/
def State.injBits (s : State) : Nat :=
  let b := max 1 (s.get Reg.FLT_INJ_CTRL_BITS)
  if s.get Reg.FLT_INJ_CTRL_TARGET = 1 then b else min 2 b

/-- The injection address (R461). -/
def State.injAddr (s : State) : Nat := s.get Reg.FLT_INJ_ADDR_LO_ADDR / 8 * 8 + 2 ^ 32 * s.get Reg.FLT_INJ_ADDR_HI_ADDR

/-- A write reaches `n` addresses of a target (R450): where the armed address lies among them it is stored with inverted check bits,
and without STICKY the injection disarms. -/
def State.injWrite (s : State) (target a n : Nat) : State :=
  let w := s.injAddr
  let covers (x : Nat) : Bool := a < x + injWidth target && x < a + n
  let s := { s with mem := { s.mem with bad := s.mem.bad.filter fun b => !(b.target == target && covers b.addr) } }
  if s.on Reg.FLT_INJ_CTRL_ARM && s.get Reg.FLT_INJ_CTRL_TARGET == target && covers w then
    let b : BadWord := ⟨target, w, s.injBits⟩
    let s := { s with mem := { s.mem with bad := s.mem.bad ++ [b] } }
    let s := s.set Reg.FLT_INJ_CTRL_DONE 1
    if s.on Reg.FLT_INJ_CTRL_STICKY then s else s.set Reg.FLT_INJ_CTRL_ARM 0
  else s

/-- An armed injection is sticky (R450). -/
def State.injSticky (s : State) : Bool := s.on Reg.FLT_INJ_CTRL_STICKY && s.on Reg.FLT_INJ_CTRL_ARM

/-- The words with inverted check bits of a target in a range. -/
def State.badIn (s : State) (target a n : Nat) : List BadWord :=
  s.mem.bad.filter fun b => b.target == target && a < b.addr + injWidth target && b.addr < a + n

/-- SRAM is read (R24, R450): a word with one inverted check bit is corrected and told, and is good again but under a sticky injection;
one with two is told as not correctable. -/
def State.sramRead (s : State) (target a n source : Nat) : State :=
  let hit := s.badIn target a n
  let s := hit.foldl (fun s b => s.capture ⟨source, if b.bits < 2 then 0x03 else 0x04, 1, 0, b.addr, 0, domainOf source, true⟩) s
  if s.injSticky then s
  else { s with mem := { s.mem with bad := s.mem.bad.filter fun b => !(hit.contains b && b.bits < 2) } }

end Sys2Proof.Machine
end

