-- ==== Sys2Proof/Machine/Courier.lean ====
section
/-!
DEFINITION. The courier engine's cycle: the fetch, the traps, the writes of one microword, the end of a segment, and the
choice of the next slice (R87 to R90, R161 to R179). Each micro-operation's command is one cycle in which the running slice
executes its whole microword, where that microword's field holds that operation (DESIGN CHOICE; log 11).
-/
namespace Sys2Proof.Machine

/-- The first of the ready slices of the highest priority (R87, R88). -/
def pickSlice (l : List Nat) : Option Nat :=
  l.foldl (fun b n =>
    match b with
    | none => some n
    | some m => if slicePrio n < slicePrio m then some n else b) none

/-- A slice becomes ready (R87, R161, R162): it starts at its entry with LC, the flags and the return stack cleared; slice
17 resumes where it stopped. -/
def State.ready (s : State) (n : Nat) : State :=
  if s.sliceEn n && s.get Reg.CRE_STATUS_STATE == 3 && !s.eng.ready.contains n && s.eng.running != some n then
    let c := s.ctx n
    let c :=
      if n == 17 && c.live then c
      else { c with pc := bitsOf (sGet s.eng.store n 0) 182 170, lc := 0, z := false, n := false, v := false, clp := false,
                    stack := [], live := true }
    let s := s.putCtx n c
    { s with eng := { s.eng with ready := s.eng.ready ++ [n] } }
  else s

/-- Give the engine to the ready slice of the highest priority, at a segment end or when nothing runs (R88). -/
def State.schedule (s : State) : State :=
  match s.eng.running with
  | some r =>
    match pickSlice s.eng.ready with
    | some n =>
      if slicePrio n < slicePrio r then
        { s with eng := { s.eng with running := some n, ready := r :: s.eng.ready.filter (· != n), seg := 0 } }
      else s
    | none => s
  | none =>
    match pickSlice s.eng.ready with
    | some n => { s with eng := { s.eng with running := some n, ready := s.eng.ready.filter (· != n), seg := 0 } }
    | none => s

/-- A slice that becomes ready takes the engine at once only where no segment runs (R88). -/
def State.scheduleIdle (s : State) : State := if s.eng.running.isNone || s.eng.seg = 0 then s.schedule else s

/-- Commit the pending writes of the exchange registers at the end of a segment (R167, R170). -/
def State.commitX (s : State) : State :=
  let s' := s.eng.pend.foldl (fun s p => s.set (Reg.CRE_X p.1) p.2) s
  { s' with eng := { s'.eng with pend := [], seg := 0 } }

/-- The cycles of a slice in this tick go to CRE_CYCLESn LAST, and to PEAK where they are the most (R190). -/
def State.noteCycles (s : State) (n : Nat) : State :=
  let c := sGet s.eng.used n 0
  (s.set (Reg.CRE_CYCLES_LAST n) c).set (Reg.CRE_CYCLES_PEAK n) (max c (s.get (Reg.CRE_CYCLES_PEAK n)))

/-- A slice that failed in the tick before and did not fail in this one closes its level-2 fault (R447). -/
def State.sliceClean (s : State) (n : Nat) : State :=
  match sGet? s.eng.lastFail n with
  | none => s
  | some _ =>
    let s := match s.desk.recs.find? fun p => p.2.source == 0x20 && p.2.level == 2 && p.2.st == 1 && p.2.addr == n with
      | some p => s.closeRec p.1 2 2
      | none => s
    { s with eng := { s.eng with lastFail := sDel s.eng.lastFail n } }

/-- A slice failed by an overrun or a trap (R90, R179): a level-2 fault is reported, with the slice as ADDR. A failure in
the tick after another is one the tick scheduler cannot absorb: the fault is raised to the loop (R18). -/
def State.sliceFail (s : State) (n code : Nat) : State :=
  let repeated := match sGet? s.eng.lastFail n with
    | some t => t + 1 == s.tick
    | none => false
  let s := s.capture ⟨0x20, code, 2, 1, n, 0x20, sliceDomain n, false⟩
  let s := { s with eng := { s.eng with lastFail := sIns s.eng.lastFail n s.tick } }
  if repeated then
    let s := match s.desk.recs.find? fun p => p.2.source == 0x20 && p.2.level == 2 && p.2.st == 1 && p.2.addr == n with
      | some p => s.closeRec p.1 3 3
      | none => s
    s.capture ⟨0x20, code, 3, 1, n, 0x20, sliceDomain n, false⟩
  else s

/-- The running slice leaves the engine for this tick without having ended: the slices that are ready at its end do not become ready in this
tick (DESIGN CHOICE; log 133). -/
def State.leave (s : State) : State :=
  { s with eng := { s.eng with running := none, seg := 0, wait := .none } }.schedule

/-- The bit of TCK_OVERRUN of a slice (R91). -/
def State.setOverrun (s : State) (n : Nat) : State :=
  if n = 0 then s.set Reg.TCK_OVERRUN_SPIN 1
  else if n ≤ 4 then s.setBit Reg.TCK_OVERRUN_SERVO (n - 1) true
  else if n ≤ 8 then s.setBit Reg.TCK_OVERRUN_MICRO (n - 5) true
  else if n ≤ 12 then s.setBit Reg.TCK_OVERRUN_LOAD (n - 9) true
  else if n = 13 then s.set Reg.TCK_OVERRUN_GOV 1
  else if n = 14 then s.set Reg.TCK_OVERRUN_FRANK 1
  else if n = 15 then s.set Reg.TCK_OVERRUN_THERM 1
  else s.set Reg.TCK_OVERRUN_INJECT 1

/-- A trap (R179): the trapping microword writes nothing, its segment ends and is committed, the slice stops for the tick,
the TRAP fields tell where and why, and a level-2 fault is reported. -/
def State.trap (s : State) (n code : Nat) : State :=
  let pc := (s.ctx n).pc
  let s := s.putCtx n { s.ctx n with live := false }
  let s := s.commitX
  let s := s.setAll [(Reg.CRE_STATUS_TRAP, 1), (Reg.CRE_STATUS_TRAP_SLICE, n), (Reg.CRE_STATUS_TRAP_CODE, code),
    (Reg.CRE_STATUS_TRAP_PC, pc), (Reg.CRE_INT_TRAP, 1)]
  ((s.noteCycles n).sliceFail n 0x06).leave

/-- The slices that follow in the chain of R87 when a slice ends: the same actuator's microactuator slice after its servo
slice and its head-load slice after that, franking after the governor and the thermal model after franking. -/
def nextSlice (n : Nat) : Option Nat :=
  if 1 ≤ n && n ≤ 8 then some (n + 4)
  else if n = 13 then some 14
  else if n = 14 then some 15
  else none

/-- A slice ended for this tick (R87, R90, R168). -/
def State.sliceEnd (s : State) (n : Nat) : State :=
  let s := s.putCtx n { s.ctx n with live := false }
  let s := (s.noteCycles n).sliceClean n
  let s := { s with eng := { s.eng with running := none, seg := 0, wait := .none } }
  let s := match nextSlice n with
    | some m => s.ready m
    | none => s
  s.schedule

/-- The operand codes a microword reads. -/
def MW.reads (w : MW) : List Nat :=
  (if w.alu = 0 then [] else [w.a, w.b]) ++ (if w.mac = 0 || w.mac = 4 then [] else [w.x, w.y]) ++
    (if w.memOp = 2 then [w.memSrc] else []) ++ (if w.ioOp = 2 then [w.ioSrc] else []) ++
    (if w.cap then [w.capSrc] else []) ++ (if w.seq = 7 then [w.a] else [])

/-- Whether a microword holds a reserved operation, operand, destination or mode (R164, R166, R168, R171, R179). -/
def MW.reserved (w : MW) : Bool :=
  0xA ≤ w.seq || 0x13 ≤ w.alu || 5 ≤ w.mac || w.memOp == 3 || (w.memOp != 0 && w.memMode == 3) || w.ioOp == 3 ||
    w.reads.any operandReserved || (w.alu != 0 && w.alu != 0x0F && 0x50 ≤ w.d)

/-- The data-memory address of a microword (R164): MEM_ADDR, with G[MEM_IDX] added in modes 0b01 and 0b10. -/
def State.memAddr (s : State) (n : Nat) (w : MW) : Nat :=
  if w.memMode = 0 then w.memAddr else (w.memAddr + sGet (s.ctx n).g w.memIdx 0) % 2 ^ 32

/-- What a microword's port read gives, and FRESH (R169, R175, R176, R178). -/
def State.portRead (s : State) (n : Nat) (w : MW) : Nat × Bool :=
  if w.ioOp != 1 then (Config.openIn (s.tick * 25400 + s.eng.cyc) % 2 ^ 32, false)
  else if w.ioPort = 0xF0 then
    (match sliceLoop n with
     | some l => (s.mail l).taken
     | none => 0, false)
  else if w.ioPort = 0xF1 then
    (match sliceLoop n with
     | some l =>
       match s.headMsg l with
       | some m => m.word (s.mail l).word
       | none => 0
     | none => 0, false)
  else if s.portOn w.ioPort then (sGet s.eng.portIn w.ioPort 0, s.eng.fresh.contains w.ioPort)
  else (0, false)

/-- Whether COND of a microword holds. -/
def State.wordCond (s : State) (n : Nat) (w : MW) : Bool := s.condHolds n w.cond (s.portRead n w).2

/-- The trap a microword takes, if any; where several hold at once the lowest code is taken (DESIGN CHOICE; log 14). A vector word is never
executed (R161): a slice that is sent to one traps as at a reserved operation (DESIGN CHOICE; log 134). -/
def State.wordTrap (s : State) (n : Nat) (w : MW) (dmBad : Bool) : Option Nat :=
  let c := s.ctx n
  let a := s.memAddr n w
  if c.pc < 32 then some 0x04
  else if w.seq = 3 && s.wordCond n w && 4 ≤ c.stack.length then some 0x01
  else if w.seq = 4 && s.wordCond n w && c.stack.isEmpty then some 0x02
  else if w.reserved then some 0x04
  else if w.seq = 9 && s.wordCond n w && w.imm % 256 < 0x80 then some 0x04
  else if w.memOp != 0 && (a < s.get (Reg.CRE_MEMWIN_LO n) || s.get (Reg.CRE_MEMWIN_HI n) < a) then some 0x05
  else if (w.ioOp = 1 && !inputPort w.ioPort) || (w.ioOp = 2 && !outputPort w.ioPort) then some 0x06
  else if w.memOp = 1 && dmBad then some 0x07
  else if w.seq = 9 && s.wordCond n w then some (w.imm % 256)
  else none

/-- Write a destination code: a G register of the slice, or an exchange register, held pending (R166, R167). -/
def State.writeDest (s : State) (n d v : Nat) : State :=
  if d < 0x10 then s.putCtx n { s.ctx n with g := sPut (s.ctx n).g d v 0 }
  else { s with eng := { s.eng with pend := sIns s.eng.pend (d - 0x10) v } }

/-- A slice uses an injection channel from the first microword of its that names it (R186). -/
def State.noteInjUse (s : State) (ch n : Nat) : State :=
  if s.eng.injUse.contains (ch, n) then s else { s with eng := { s.eng with injUse := (ch, n) :: s.eng.injUse } }

/-- The ALU's part of a microword (R171, R173): the result, the injection sample added with saturation, the clamp unit, the
flags, and the write. -/
def State.aluWrite (s : State) (n : Nat) (w : MW) (a b old : Nat) : State :=
  if w.alu = 0 then s
  else
    let r := aluResult w.alu a b
    if w.alu = 0x0F then
      s.putCtx n { s.ctx n with z := r.1 == 0, n := bitOf r.1 31, v := r.2 }
    else
      let s := if w.inj then s.noteInjUse w.injCh n else s
      let i := signed 32 r.1 + s.injSample w.injCh
      let r := if w.inj then (sat32 i, r.2 || over32 i) else r
      let c := clampUnit w.clampMode (s.getS (Reg.CRE_CLAMP_LO_VALUE w.clampIdx)) (s.getS (Reg.CRE_CLAMP_HI_VALUE w.clampIdx)) r.1
      let v := if c.2.1 then c.1 else old
      let k := s.ctx n
      let s := s.putCtx n { k with z := v == 0, n := bitOf v 31, v := r.2,
                                   clp := if w.clampMode = 0 then k.clp else c.2.2 }
      let s := if c.2.1 then s.writeDest n w.d c.1 else s
      if c.2.2 then
        let s := if w.clampIdx < 32 then s.setBit Reg.CRE_CLAMP_HIT_LO_HIT w.clampIdx true
          else s.setBit Reg.CRE_CLAMP_HIT_HI_HIT (w.clampIdx - 32) true
        if w.clampMode = 3 then s.event 0x20 0x09 w.clampIdx 0x20 else s
      else s

/-- The multiply-accumulate unit's part of a microword (R172). -/
def State.macWrite (s : State) (n : Nat) (w : MW) (x y : Nat) : State :=
  if w.mac = 0 then s
  else
    let k := s.ctx n
    let r := macResult w.mac (if w.acc then k.acc1 else k.acc0) x y
    let k := if w.acc then { k with acc1 := r.1 } else { k with acc0 := r.1 }
    s.putCtx n { k with v := k.v || r.2 }

/-- The data memory's part of a microword (R163, R164, R174). -/
def State.memWrite (s : State) (n : Nat) (w : MW) (a src : Nat) : State :=
  let s := match w.memOp with
    | 1 => (s.sramRead 3 a 1 0x20).putCtx n { s.ctx n with mem := sGet s.eng.dm a 0 }
    | 2 => { s with eng := { s.eng with dm := sPut s.eng.dm a (src % 2 ^ 32) 0 } }.injWrite 3 a 1
    | _ => s
  if w.memOp != 0 && w.memMode = 2 then
    let k := s.ctx n
    s.putCtx n { k with g := sPut k.g w.memIdx ((sGet k.g w.memIdx 0 + 1) % 2 ^ 32) 0 }
  else s

/-- The port's part of a microword (R177, R178): a write reaches its unit; a read of port 0xF1 moves on by one word. -/
def State.ioWrite (s : State) (n : Nat) (w : MW) (src : Nat) : State :=
  if w.ioOp = 1 then
    match sliceLoop n with
    | some l => if w.ioPort = 0xF1 then s.putMail l { s.mail l with word := (s.mail l).word + 1 } else s
    | none => s
  else if w.ioOp = 2 then
    if 0xF0 ≤ w.ioPort then
      match sliceLoop n with
      | none => s
      | some l =>
        if w.ioPort = 0xF2 then s.discard l
        else if w.ioPort = 0xF3 then
          let m := s.mail l
          if m.gather.length < 15 then s.putMail l { m with gather := m.gather ++ [src % 2 ^ 32] } else s
        else
          let m := s.mail l
          (s.putMail l { m with gather := [] }).reply l (src / 2 ^ 16) (src % 256) m.gather
    else s.portWrite s.tickNs w.ioPort (src % 2 ^ 32)
  else s

/-- The capture part of a microword (R185): the first capture of a channel in a sample tick overwrites the slot of this
tick. -/
def State.capWrite (s : State) (w : MW) (v : Nat) : State :=
  if w.cap then
    match sGet? s.eng.capWait w.capCh with
    | some i =>
      if s.eng.capDone.contains w.capCh then s
      else { s with eng := { s.eng with cap := sPut s.eng.cap (4096 * w.capCh + i) v 0,
                                        capDone := w.capCh :: s.eng.capDone } }
    | none => s
  else s

/-- The next microword address (R168), with the return stack and LC. -/
def State.sequence (s : State) (n : Nat) (w : MW) (cond : Bool) (a : Nat) : State :=
  let k := s.ctx n
  let inc := (k.pc + 1) % 8192
  match w.seq with
  | 0x1 => s.putCtx n { k with pc := if cond then w.target else inc }
  | 0x2 => s.putCtx n { k with pc := if cond then inc else w.target }
  | 0x3 => s.putCtx n (if cond then { k with pc := w.target, stack := inc :: k.stack } else { k with pc := inc })
  | 0x4 =>
    s.putCtx n (if cond then { k with pc := k.stack.headD inc, stack := k.stack.tail } else { k with pc := inc })
  | 0x5 =>
    let lc := (k.lc + 65535) % 65536
    s.putCtx n { k with lc := lc, pc := if lc = 0 then inc else w.target }
  | 0x6 => s.putCtx n { k with lc := w.imm % 65536, pc := inc }
  | 0x7 => s.putCtx n { k with pc := (w.target + a % 16) % 8192 }
  | _ => s.putCtx n { k with pc := inc }

/-- The end of a microword's cycle (R88, R90, R170): the segment ends with SEGEND, with a DONE that holds, or waits for its
forced end at the 64th microword; a slice at its allocation stops at the end of its segment. -/
def State.cycleEnd (s : State) (n : Nat) (w : MW) (done : Bool) : State :=
  let seg := s.eng.seg + 1
  let s := { s with eng := { s.eng with seg := seg } }
  if done then (s.commitX).sliceEnd n
  else if w.segend then
    let s := s.commitX
    if n != 17 && s.sliceAlloc n ≤ sGet s.eng.used n 0 then
      { s with eng := { s.eng with wait := .overrun n } }
    else s.schedule
  else if 64 ≤ seg then { s with eng := { s.eng with wait := .forced } }
  else s

/-- Log a row that yielded a corrected error, by its array and word, for repair at the next start (R24). -/
def State.noteRow (s : State) (r : Nat × Nat) : State :=
  if s.mem.rows.contains r then s else { s with mem := { s.mem with rows := s.mem.rows ++ [r] } }

/-- Log a corrected control-store fetch (R180), and its row (R24). -/
def State.noteCorrected (s : State) (pc : Nat) : State :=
  ((s.noteRow (1, pc)).inc Reg.CRE_CSCORR_CORR).set Reg.CRE_CSCORR_LAST_WORD pc

/-- One cycle: slice `n` executes the microword `w` (R163). Every field reads its operands as they stand at the start and
writes its results at the end. -/
def State.execWord (s : State) (n : Nat) (w : MW) (dmBad : Bool) : State :=
  let pr := s.portRead n w
  let op := s.operand n w pr.1
  let a := op w.a
  let b := op w.b
  let x := op w.x
  let y := op w.y
  let ms := op w.memSrc
  let io := op w.ioSrc
  let cs := op w.capSrc
  let old := op w.d
  let ma := s.memAddr n w
  let cond := s.wordCond n w
  let inj := w.memOp == 1 && (s.badIn 3 ma 1).any fun b => 2 ≤ b.bits
  match s.wordTrap n w (dmBad || inj) with
  | some t => if inj && t == 0x07 then s.asInjected fun s => s.trap n t else s.trap n t
  | none =>
    let s := s.aluWrite n w a b old
    let s := s.macWrite n w x y
    let s := s.memWrite n w ma ms
    let s := s.capWrite w cs
    let s := s.ioWrite n w io
    let s := s.sequence n w cond a
    s.cycleEnd n w (w.seq = 8 && cond)

/-- The cycle of a micro-operation's command: the running slice fetches its microword; where the field that `isOp` looks at
holds the operation, the microword is executed. Nothing happens while the engine does not run, nothing is ready, or a
segment waits for its forced end or its slice for its stop. An uncorrectable fetch traps with 0x03 (R180). -/
def State.micro (s : State) (fetch dm : Ecc) (isOp : MW → Bool) : State :=
  if s.get Reg.CRE_STATUS_STATE != 3 || s.eng.wait != .none then s
  else
    let s0 := s
    let s := if s.eng.running.isNone then s.schedule else s
    match s.eng.running with
    | none => s0
    | some n =>
      let pc := (s.ctx n).pc
      let w := MW.ofNat (sGet s.eng.store pc 0)
      if !isOp w then s0
      else
        let s := { s with eng := { s.eng with cyc := s.eng.cyc + 1, used := sIns s.eng.used n (sGet s.eng.used n 0 + 1) } }
        match fetch with
        | .bad => s.trap n 0x03
        | .corrected => (s.noteCorrected pc).execWord n w (dm == .bad)
        | .good => s.execWord n w (dm == .bad)

/-- NEXT (R168). -/
def execNext (fetch dm : Ecc) (s : State) : Host.Outcome State Fault Refusal := ok (s.micro fetch dm fun w => w.seq == 0 || 0xA ≤ w.seq)

/-- BR (R168). -/
def execBr (fetch dm : Ecc) (s : State) : Host.Outcome State Fault Refusal := ok (s.micro fetch dm fun w => w.seq == 1)

/-- BRN (R168). -/
def execBrn (fetch dm : Ecc) (s : State) : Host.Outcome State Fault Refusal := ok (s.micro fetch dm fun w => w.seq == 2)

/-- CALL (R168): a fifth push traps with 0x01. -/
def execCall (fetch dm : Ecc) (s : State) : Host.Outcome State Fault Refusal := ok (s.micro fetch dm fun w => w.seq == 3)

/-- RET (R168): a pop from an empty stack traps with 0x02. -/
def execRet (fetch dm : Ecc) (s : State) : Host.Outcome State Fault Refusal := ok (s.micro fetch dm fun w => w.seq == 4)

/-- LOOP (R168). -/
def execLoop (fetch dm : Ecc) (s : State) : Host.Outcome State Fault Refusal := ok (s.micro fetch dm fun w => w.seq == 5)

/-- LDLC (R168). -/
def execLdlc (fetch dm : Ecc) (s : State) : Host.Outcome State Fault Refusal := ok (s.micro fetch dm fun w => w.seq == 6)

/-- DISPATCH (R168). -/
def execDispatch (fetch dm : Ecc) (s : State) : Host.Outcome State Fault Refusal := ok (s.micro fetch dm fun w => w.seq == 7)

/-- DONE (R168): where COND holds, the slice ends for this tick and the segment ends. -/
def execDone (fetch dm : Ecc) (s : State) : Host.Outcome State Fault Refusal := ok (s.micro fetch dm fun w => w.seq == 8)

/-- TRAP (R168, R179). -/
def execTrap (fetch dm : Ecc) (s : State) : Host.Outcome State Fault Refusal := ok (s.micro fetch dm fun w => w.seq == 9)

/-- MOV of the ALU (R171). -/
def execMov (fetch dm : Ecc) (s : State) : Host.Outcome State Fault Refusal := ok (s.micro fetch dm fun w => w.alu == 1)

/-- ADD of the ALU (R171). -/
def execAdd (fetch dm : Ecc) (s : State) : Host.Outcome State Fault Refusal := ok (s.micro fetch dm fun w => w.alu == 2)

/-- SUB of the ALU (R171). -/
def execSub (fetch dm : Ecc) (s : State) : Host.Outcome State Fault Refusal := ok (s.micro fetch dm fun w => w.alu == 3)

/-- SADD of the ALU (R171). -/
def execSadd (fetch dm : Ecc) (s : State) : Host.Outcome State Fault Refusal := ok (s.micro fetch dm fun w => w.alu == 4)

/-- SSUB of the ALU (R171). -/
def execSsub (fetch dm : Ecc) (s : State) : Host.Outcome State Fault Refusal := ok (s.micro fetch dm fun w => w.alu == 5)

/-- AND of the ALU (R171). -/
def execAnd (fetch dm : Ecc) (s : State) : Host.Outcome State Fault Refusal := ok (s.micro fetch dm fun w => w.alu == 6)

/-- OR of the ALU (R171). -/
def execOr (fetch dm : Ecc) (s : State) : Host.Outcome State Fault Refusal := ok (s.micro fetch dm fun w => w.alu == 7)

/-- XOR of the ALU (R171). -/
def execXor (fetch dm : Ecc) (s : State) : Host.Outcome State Fault Refusal := ok (s.micro fetch dm fun w => w.alu == 8)

/-- ASR of the ALU (R171). -/
def execAsr (fetch dm : Ecc) (s : State) : Host.Outcome State Fault Refusal := ok (s.micro fetch dm fun w => w.alu == 9)

/-- LSL of the ALU (R171). -/
def execLsl (fetch dm : Ecc) (s : State) : Host.Outcome State Fault Refusal := ok (s.micro fetch dm fun w => w.alu == 10)

/-- MIN of the ALU (R171). -/
def execMin (fetch dm : Ecc) (s : State) : Host.Outcome State Fault Refusal := ok (s.micro fetch dm fun w => w.alu == 11)

/-- MAX of the ALU (R171). -/
def execMax (fetch dm : Ecc) (s : State) : Host.Outcome State Fault Refusal := ok (s.micro fetch dm fun w => w.alu == 12)

/-- ABS of the ALU (R171). -/
def execAbs (fetch dm : Ecc) (s : State) : Host.Outcome State Fault Refusal := ok (s.micro fetch dm fun w => w.alu == 13)

/-- NEG of the ALU (R171). -/
def execNeg (fetch dm : Ecc) (s : State) : Host.Outcome State Fault Refusal := ok (s.micro fetch dm fun w => w.alu == 14)

/-- CMP of the ALU (R171). -/
def execCmp (fetch dm : Ecc) (s : State) : Host.Outcome State Fault Refusal := ok (s.micro fetch dm fun w => w.alu == 15)

/-- SGE of the ALU (R171). -/
def execSge (fetch dm : Ecc) (s : State) : Host.Outcome State Fault Refusal := ok (s.micro fetch dm fun w => w.alu == 16)

/-- SIN of the ALU (R171). -/
def execSin (fetch dm : Ecc) (s : State) : Host.Outcome State Fault Refusal := ok (s.micro fetch dm fun w => w.alu == 17)

/-- COS of the ALU (R171). -/
def execCos (fetch dm : Ecc) (s : State) : Host.Outcome State Fault Refusal := ok (s.micro fetch dm fun w => w.alu == 18)

/-- MUL of the multiply-accumulate unit (R172). -/
def execMul (fetch dm : Ecc) (s : State) : Host.Outcome State Fault Refusal := ok (s.micro fetch dm fun w => w.mac == 1)

/-- MAC of the multiply-accumulate unit (R172). -/
def execMac (fetch dm : Ecc) (s : State) : Host.Outcome State Fault Refusal := ok (s.micro fetch dm fun w => w.mac == 2)

/-- MSU of the multiply-accumulate unit (R172). -/
def execMsu (fetch dm : Ecc) (s : State) : Host.Outcome State Fault Refusal := ok (s.micro fetch dm fun w => w.mac == 3)

/-- CLR of the multiply-accumulate unit (R172). -/
def execClr (fetch dm : Ecc) (s : State) : Host.Outcome State Fault Refusal := ok (s.micro fetch dm fun w => w.mac == 4)

/-- A data-memory read (R163, R174): the word is delivered to MEM for the next microword. -/
def execMemoryRead (fetch dm : Ecc) (s : State) : Host.Outcome State Fault Refusal := ok (s.micro fetch dm fun w => w.memOp == 1)

/-- A data-memory write (R164, R174). -/
def execMemoryWrite (fetch dm : Ecc) (s : State) : Host.Outcome State Fault Refusal := ok (s.micro fetch dm fun w => w.memOp == 2)

/-- A port read (R175, R176). -/
def execPortRead (fetch dm : Ecc) (s : State) : Host.Outcome State Fault Refusal := ok (s.micro fetch dm fun w => w.ioOp == 1)

/-- A port write (R177, R178): it reaches its unit, discards a message, gathers a word or sends a reply. -/
def execPortWrite (fetch dm : Ecc) (s : State) : Host.Outcome State Fault Refusal := ok (s.micro fetch dm fun w => w.ioOp == 2)

/-- A capture (R185). -/
def execCapture (fetch dm : Ecc) (s : State) : Host.Outcome State Fault Refusal := ok (s.micro fetch dm fun w => w.cap)

/-- The forced end of a segment at its 64th microword (R170): SEG_FORCED is set, the segment's writes are committed, and a
slice of higher priority may take the engine. -/
def execSegmentForcedEnd (s : State) : Host.Outcome State Fault Refusal :=
  match s.eng.wait, s.eng.running with
  | .forced, some n =>
    let s := (s.set Reg.CRE_STATUS_SEG_FORCED 1).commitX
    if n != 17 && s.sliceAlloc n ≤ sGet s.eng.used n 0 then ok { s with eng := { s.eng with wait := .overrun n } }
    else ok { s with eng := { s.eng with wait := .none } }.schedule
  | _, _ => ok s

/-- A slice reached its allocation without finishing (R90): it stops at the end of its segment, its outputs hold, its bit
in TCK_OVERRUN is set, and a level-2 fault is reported. -/
def execSliceOverrun (s : State) : Host.Outcome State Fault Refusal :=
  match s.eng.wait with
  | .overrun n =>
    let s := s.putCtx n { s.ctx n with live := false }
    ok (((s.setOverrun n).noteCycles n).sliceFail n 0x05).leave
  | _ => ok s

end Sys2Proof.Machine
end

