-- ==== Sys2Proof/Machine/Digests.lean ====
section
/-!
DEFINITION. The digest and the signature that the passport names (R36, R39, R41): SHA-384 of FIPS 180-4 and ECDSA over P-384 of FIPS
186-4, over lists of bytes and natural numbers.
-/
namespace Sys2Proof.Machine

/-- The initial hash words of SHA-384. -/
def sha384Start : List Nat :=
  [0xCBBB9D5DC1059ED8, 0x629A292A367CD507, 0x9159015A3070DD17, 0x152FECD8F70E5939,
   0x67332667FFC00B31, 0x8EB44A8768581511, 0xDB0C2E0D64F98FA7, 0x47B5481DBEFA4FA4]

/-- The first forty round constants of SHA-384. -/
def sha384RoundsA : List Nat :=
  [0x428A2F98D728AE22, 0x7137449123EF65CD, 0xB5C0FBCFEC4D3B2F, 0xE9B5DBA58189DBBC,
   0x3956C25BF348B538, 0x59F111F1B605D019, 0x923F82A4AF194F9B, 0xAB1C5ED5DA6D8118,
   0xD807AA98A3030242, 0x12835B0145706FBE, 0x243185BE4EE4B28C, 0x550C7DC3D5FFB4E2,
   0x72BE5D74F27B896F, 0x80DEB1FE3B1696B1, 0x9BDC06A725C71235, 0xC19BF174CF692694,
   0xE49B69C19EF14AD2, 0xEFBE4786384F25E3, 0x0FC19DC68B8CD5B5, 0x240CA1CC77AC9C65,
   0x2DE92C6F592B0275, 0x4A7484AA6EA6E483, 0x5CB0A9DCBD41FBD4, 0x76F988DA831153B5,
   0x983E5152EE66DFAB, 0xA831C66D2DB43210, 0xB00327C898FB213F, 0xBF597FC7BEEF0EE4,
   0xC6E00BF33DA88FC2, 0xD5A79147930AA725, 0x06CA6351E003826F, 0x142929670A0E6E70,
   0x27B70A8546D22FFC, 0x2E1B21385C26C926, 0x4D2C6DFC5AC42AED, 0x53380D139D95B3DF,
   0x650A73548BAF63DE, 0x766A0ABB3C77B2A8, 0x81C2C92E47EDAEE6, 0x92722C851482353B]

/-- The other forty. -/
def sha384RoundsB : List Nat :=
  [0xA2BFE8A14CF10364, 0xA81A664BBC423001, 0xC24B8B70D0F89791, 0xC76C51A30654BE30,
   0xD192E819D6EF5218, 0xD69906245565A910, 0xF40E35855771202A, 0x106AA07032BBD1B8,
   0x19A4C116B8D2D0C8, 0x1E376C085141AB53, 0x2748774CDF8EEB99, 0x34B0BCB5E19B48A8,
   0x391C0CB3C5C95A63, 0x4ED8AA4AE3418ACB, 0x5B9CCA4F7763E373, 0x682E6FF3D6B2B8A3,
   0x748F82EE5DEFB2FC, 0x78A5636F43172F60, 0x84C87814A1F0AB72, 0x8CC702081A6439EC,
   0x90BEFFFA23631E28, 0xA4506CEBDE82BDE9, 0xBEF9A3F7B2C67915, 0xC67178F2E372532B,
   0xCA273ECEEA26619C, 0xD186B8C721C0C207, 0xEADA7DD6CDE0EB1E, 0xF57D4F7FEE6ED178,
   0x06F067AA72176FBA, 0x0A637DC5A2C898A6, 0x113F9804BEF90DAE, 0x1B710B35131C471B,
   0x28DB77F523047D84, 0x32CAAB7B40C72493, 0x3C9EBE0A15C9BEBC, 0x431D67C49C100D4C,
   0x4CC5D4BECB3E42B6, 0x597F299CFC657E2A, 0x5FCB6FAB3AD6FAEC, 0x6C44198C4A475817]

/-- A sum of 64-bit words, which wraps. -/
def add64 (a b : Nat) : Nat := (a + b) % 2 ^ 64

/-- A 64-bit word rotated right. -/
def rotr64 (x k : Nat) : Nat := x / 2 ^ k + x % 2 ^ k * 2 ^ (64 - k)

/-- The big-endian number of a list of bytes. -/
def ofBe (l : List Nat) : Nat := l.foldl (fun n b => n * 256 + b % 256) 0

/-- The words of a message block: the sixteen it carries, and the rest of the schedule by the words before them, newest first. -/
def shaSchedule : Nat → List Nat → List Nat
  | 0, w => w
  | n + 1, w =>
    let g (k : Nat) : Nat := w.getD k 0
    let a := g 1
    let b := g 14
    let s1 := rotr64 a 19 ^^^ rotr64 a 61 ^^^ a / 2 ^ 6
    let s0 := rotr64 b 1 ^^^ rotr64 b 8 ^^^ b / 2 ^ 7
    shaSchedule n (add64 (add64 s1 (g 6)) (add64 s0 (g 15)) :: w)

/-- The eight words that a block's rounds work on. -/
structure ShaWords where
  a : Nat
  b : Nat
  c : Nat
  d : Nat
  e : Nat
  f : Nat
  g : Nat
  h : Nat
  deriving DecidableEq, Repr

/-- One round, with its constant and its schedule word. -/
def ShaWords.round (v : ShaWords) (k w : Nat) : ShaWords :=
  let s1 := rotr64 v.e 14 ^^^ rotr64 v.e 18 ^^^ rotr64 v.e 41
  let ch := (v.e &&& v.f) ^^^ ((2 ^ 64 - 1 - v.e) &&& v.g)
  let t1 := add64 (add64 (add64 v.h s1) (add64 ch k)) w
  let s0 := rotr64 v.a 28 ^^^ rotr64 v.a 34 ^^^ rotr64 v.a 39
  let maj := (v.a &&& v.b) ^^^ (v.a &&& v.c) ^^^ (v.b &&& v.c)
  ⟨add64 t1 (add64 s0 maj), v.a, v.b, v.c, add64 v.d t1, v.e, v.f, v.g⟩

/-- The hash words after one block of 128 bytes. -/
def shaBlock (v : ShaWords) (block : List Nat) : ShaWords :=
  let first := (List.range 16).map fun k => ofBe ((block.drop (8 * k)).take 8)
  let w := (shaSchedule 64 first.reverse).reverse
  let r := ((sha384RoundsA ++ sha384RoundsB).zip w).foldl (fun v p => v.round p.1 p.2) v
  ⟨add64 v.a r.a, add64 v.b r.b, add64 v.c r.c, add64 v.d r.d, add64 v.e r.e, add64 v.f r.f, add64 v.g r.g, add64 v.h r.h⟩

/-- `n` bytes of a number, the most significant first. -/
def beBytes (n v : Nat) : List Nat := (List.range n).map fun k => v / 256 ^ (n - 1 - k) % 256

/-- A message with its padding: the bit 1, zeros, and the length in bits in the last sixteen of whole blocks. -/
def shaPad (m : List Nat) : List Nat :=
  m ++ 0x80 :: List.replicate ((239 - m.length % 128) % 128) 0 ++ beBytes 16 (8 * m.length)

/-- SHA-384 of a list of bytes, 48 bytes. -/
def sha384 (m : List Nat) : List Nat :=
  let p := shaPad m
  let z : ShaWords := match sha384Start with
    | [a, b, c, d, e, f, g, h] => ⟨a, b, c, d, e, f, g, h⟩
    | _ => ⟨0, 0, 0, 0, 0, 0, 0, 0⟩
  let v := (List.range (p.length / 128)).foldl (fun v k => shaBlock v ((p.drop (128 * k)).take 128)) z
  [v.a, v.b, v.c, v.d, v.e, v.f].flatMap (beBytes 8)

/-- The prime of the field of P-384. -/
def p384 : Nat := 2 ^ 384 - 2 ^ 128 - 2 ^ 96 + 2 ^ 32 - 1

/-- The order of the base point. -/
def p384Order : Nat := 0xffffffffffffffffffffffffffffffffffffffffffffffffc7634d81f4372ddf581a0db248b0a77aecec196accc52973

/-- The coefficient b of the curve y² = x³ − 3x + b. -/
def p384B : Nat := 0xb3312fa7e23ee7e4988e056be3f82d19181d9c6efe8141120314088f5013875ac656398d8a2ed19d2a85c8edd3ec2aef

/-- A point in Jacobian coordinates; z is 0 for the point at infinity. -/
structure JPoint where
  x : Nat
  y : Nat
  z : Nat
  deriving DecidableEq, Repr

/-- The base point. -/
def p384G : JPoint := ⟨0xaa87ca22be8b05378eb1c71ef320ad746e1d3b628ba79b9859f741e082542a385502f25dbf55296c3a545e3872760ab7,
  0x3617de4a96262c6f5d9e98bf9292dc29f8f41dbd289a147ce9da3113b5f0b8c00a60b1ce1d7e819d7a431d7c90ea0e5f, 1⟩

/-- A difference modulo the prime. -/
def subP (a b : Nat) : Nat := (a + p384 - b) % p384

/-- A product modulo the prime. -/
def mulP (a b : Nat) : Nat := a * b % p384

/-- Twice a point. -/
def JPoint.double (q : JPoint) : JPoint :=
  let d := mulP q.z q.z
  let g := mulP q.y q.y
  let b := mulP q.x g
  let al := 3 * mulP (subP q.x d) ((q.x + d) % p384) % p384
  let x := subP (mulP al al) (8 * b % p384)
  let yz := (q.y + q.z) % p384
  ⟨x, subP (mulP al (subP (4 * b % p384) x)) (8 * mulP g g % p384), subP (subP (mulP yz yz) g) d⟩

/-- The sum of two points. -/
def JPoint.add (q r : JPoint) : JPoint :=
  if q.z = 0 then r
  else if r.z = 0 then q
  else
    let zq := mulP q.z q.z
    let zr := mulP r.z r.z
    let u := mulP q.x zr
    let v := mulP r.x zq
    let s := mulP (mulP q.y r.z) zr
    let t := mulP (mulP r.y q.z) zq
    if u = v then (if s = t then q.double else ⟨1, 1, 0⟩)
    else
      let h := subP v u
      let k := subP t s
      let hh := mulP h h
      let h3 := mulP hh h
      let w := mulP u hh
      let x := subP (subP (mulP k k) h3) (2 * w % p384)
      ⟨x, subP (mulP k (subP w x)) (mulP s h3), mulP (mulP q.z r.z) h⟩

/-- The low `n` bits of `k` times a point, by doubling and adding from the top. -/
def JPoint.times (q : JPoint) (k : Nat) : Nat → JPoint
  | 0 => ⟨1, 1, 0⟩
  | n + 1 =>
    let h := (JPoint.times q (k / 2) n).double
    if k % 2 = 1 then h.add q else h

/-- The low `n` bits of `k` as a power, modulo `m`. -/
def powMod (m b k : Nat) : Nat → Nat
  | 0 => 1 % m
  | n + 1 =>
    let h := powMod m b (k / 2) n
    if k % 2 = 1 then h * h % m * b % m else h * h % m

/-- The inverse modulo a prime of 384 bits. -/
def invMod (m a : Nat) : Nat := powMod m a (m - 2) 384

/-- The point a 97-byte uncompressed key spells (R38), where it lies on the curve. -/
def keyPoint (key : List Nat) : Option JPoint :=
  match key with
  | 0x04 :: t =>
    let x := ofBe (t.take 48)
    let y := ofBe (t.drop 48)
    if t.length = 96 && x < p384 && y < p384 && mulP y y == (mulP (mulP x x) x + p384B + 3 * (p384 - x)) % p384 then some ⟨x, y, 1⟩ else none
  | _ => none

/-- A signature of 96 bytes, r then s, verifies over the SHA-384 digest of a message under a public key (R36, R41). -/
def ecdsaVerifies (key message signature : List Nat) : Bool :=
  match keyPoint key with
  | none => false
  | some q =>
    let r := ofBe (signature.take 48)
    let t := ofBe (signature.drop 48)
    if signature.length != 96 || r == 0 || t == 0 || p384Order ≤ r || p384Order ≤ t then false
    else
      let e := ofBe (sha384 message)
      let w := invMod p384Order t
      let p := (p384G.times (e * w % p384Order) 384).add (q.times (r * w % p384Order) 384)
      p.z != 0 && mulP p.x (invMod p384 (mulP p.z p.z)) % p384Order == r

end Sys2Proof.Machine
end

