-- ==== Sys2Proof/Machine/Ldpc.lean ====
section
/-!
DEFINITION. The code of every codeword (R102): its circulants as the code table gives them, the two checks of a table, the encoder, and the
layered normalised min-sum decoder. A block is 256 codeword bits, held as a number whose bit `j` is the block's bit `j` in time, and a
circulant acts on blocks as a power of x does on polynomials modulo x^256 + 1.
-/
namespace Sys2Proof.Machine

/-- The entry of a code table for a row and a column of the base matrix (R135). -/
def codeEntry (code : List Nat) (r c : Nat) : Nat := code.getD (144 * r + c) 0

/-- The shift of a circulant where the table has one (R135: bit 15 says that it is present). -/
def circulant (code : List Nat) (r c : Nat) : Option Nat :=
  let e := codeEntry code r c
  if bitOf e 15 then some (e % 256) else none

/-- A block with its bit `i + s` moved to place `i`, around. Check `i` of a circulant of shift `s` takes the block's bit `i + s`: the
direction is the model's (DESIGN CHOICE; log 124). -/
def rotBlock (v s : Nat) : Nat := (v / 2 ^ (s % 256) + v * 2 ^ (256 - s % 256)) % 2 ^ 256

/-- A list of bits as a number, the first bit the least. -/
def ofBits (l : List Bool) : Nat := l.foldr (fun b n => 2 * n + b2n b) 0

/-- Whether a number has an odd count of ones among so many low bits. -/
def oddWeight (n : Nat) (v : Nat) : Bool := (List.range n).foldl (fun p k => p != bitOf v k) false

/-- The rows of a square matrix over GF(2), each a number, after a column is cleared below and above its pivot; none where it has none. -/
def gfStep (rows : List Nat) (k : Nat) : Option (List Nat) :=
  (rows.drop k).find? (fun v => bitOf v k) |>.map fun p =>
    let rest := rows.take k ++ (rows.drop k).erase p
    let cleared := rest.map fun v => if bitOf v k then v ^^^ p else v
    cleared.take k ++ p :: cleared.drop k

/-- A square matrix over GF(2) of a size is invertible. -/
def gfInvertible (n : Nat) (rows : List Nat) : Bool :=
  ((List.range n).foldl (fun m k => m.bind fun l => gfStep l k) (some rows)).isSome

/-- The parity part of a code is invertible (R102). Modulo the circulants of even weight each circulant is 1, and a matrix of circulants
whose size is a power of two is invertible exactly where it is so modulo these; so the matrix of what is present decides. -/
def parityInvertible (code : List Nat) : Bool :=
  gfInvertible 15 ((List.range 15).map fun r => ofBits ((List.range 15).map fun c => (circulant code r (129 + c)).isSome))

/-- A column has at least two circulants. -/
def columnGood (code : List Nat) (c : Nat) : Bool :=
  2 ≤ ((List.range 15).filter fun r => (circulant code r c).isSome).length

/-- Both checks of a code table (R102). -/
def codeGood (code : List Nat) : Bool :=
  code.length == 2160 && (List.range 144).all (columnGood code) && parityInvertible code

/-- The product of two blocks as polynomials modulo x^256 + 1. -/
def blockMul (a b : Nat) : Nat :=
  (List.range 256).foldl (fun n k => if bitOf a k then n ^^^ rotBlock b (256 - k) else n) 0

/-- The inverse of a block of odd weight: its power 255, since its power 256 is 1. -/
def blockInv (a : Nat) : Nat :=
  ((List.range 7).foldl (fun (p : Nat × Nat) _ => let q := blockMul p.1 p.1; (q, blockMul p.2 q)) (a, a)).2

/-- One step of the elimination over blocks: a row whose entry in the column has odd weight is scaled and taken from every other. -/
def blockStep (rows : List (List Nat)) (k : Nat) : List (List Nat) :=
  match (rows.drop k).find? (fun row => oddWeight 256 (row.getD k 0)) with
  | none => rows
  | some p =>
    let q := p.map (blockMul (blockInv (p.getD k 0)))
    let rest := rows.take k ++ (rows.drop k).erase p
    let cleared := rest.map fun row => (row.zip q).map fun ab => ab.1 ^^^ blockMul (row.getD k 0) ab.2
    cleared.take k ++ q :: cleared.drop k

/-- What the checks of a row come to over given columns of blocks. -/
def rowSum (code : List Nat) (r first : Nat) (blocks : List Nat) : Nat :=
  (blocks.zipIdx first).foldl (fun n p => match circulant code r p.2 with
    | some s => n ^^^ rotBlock p.1 s
    | none => n) 0

/-- The fifteen parity blocks of 129 information blocks (R102): those with which every check comes to 0. -/
def parityBlocks (code info : List Nat) : List Nat :=
  let rows := (List.range 15).map fun r =>
    (List.range 15).map (fun c => match circulant code r (129 + c) with
      | some s => rotBlock 1 s
      | none => 0) ++ [rowSum code r 0 info]
  ((List.range 15).foldl blockStep rows).map fun row => row.getD 15 0

/-- The bits of a byte, the most significant first, as they stand on the media (R108). -/
def byteBits (b : Nat) : List Bool := (List.range 8).map fun k => bitOf b (7 - k)

/-- A byte of eight bits, the most significant first. -/
def bitsByte (l : List Bool) : Nat := l.foldl (fun n b => 2 * n + b2n b) 0

/-- A list cut into parts of a length, so many. -/
def chunks {α : Type} (n : Nat) : Nat → List α → List (List α)
  | 0, _ => []
  | k + 1, l => l.take n :: chunks n k (l.drop n)

/-- The blocks of so many groups of 32 bytes. -/
def toBlocks (n : Nat) (bytes : List Nat) : List Nat := (chunks 32 n bytes).map fun l => ofBits (l.flatMap byteBits)

/-- The bytes of a list of blocks. -/
def ofBlocks (blocks : List Nat) : List Nat :=
  blocks.flatMap fun v => (chunks 8 32 ((List.range 256).map (bitOf v))).map bitsByte

/-- The 4608 bytes of a codeword with its parity (R102, R115), by its 4128 information bytes. -/
def ldpcEncode (code info : List Nat) : List Nat := info ++ ofBlocks (parityBlocks code (toBlocks 129 info))

/-- The syndrome of 144 blocks is zero: every check comes to 0. -/
def syndromeZero (code blocks : List Nat) : Bool := (List.range 15).all fun r => rowSum code r 0 blocks == 0

/-- How many checks of a codeword fail. -/
def syndromeWeight (code blocks : List Nat) : Nat :=
  (List.range 15).foldl (fun n r => let v := rowSum code r 0 blocks; n + ((List.range 256).filter (bitOf v)).length) 0

/-- A message kept to 6 bits, saturating at ±31. -/
def message (v : Int) : Int := clampInt (-31) 31 v

/-- What a check has seen of the columns so far: the least and the second least magnitude, the column of the least, and the parity of the
signs. -/
structure CheckMin where
  least : Nat
  second : Nat
  column : Nat
  odd : Bool
  deriving DecidableEq, Repr

/-- A check before any column. -/
def CheckMin.none : CheckMin := ⟨31, 31, 144, false⟩

/-- A check with one more column's message. -/
def CheckMin.add (m : CheckMin) (c : Nat) (v : Int) : CheckMin :=
  let a := v.natAbs
  let odd := m.odd != decide (v < 0)
  if a < m.least then ⟨a, m.least, c, odd⟩
  else ⟨m.least, min a m.second, m.column, odd⟩

/-- The message a check answers to a column whose own message it saw: the least magnitude of the others, normalised, with the sign of
their product (R102: normalised min-sum). The factor is open: `Config.minSum` gives what a magnitude becomes, at most itself. -/
def CheckMin.reply (m : CheckMin) (c : Nat) (v : Int) : Int :=
  let a := if c = m.column then m.second else m.least
  let n : Int := (min a (Config.minSum a) : Nat)
  if m.odd != decide (v < 0) then -n else n

/-- A block's values from its bit `s` on, around. -/
def rotList {α : Type} (s : Nat) (l : List α) : List α := l.drop s ++ l.take s

/-- One layer of the decoder: the checks of row `r` take every column's value less their old message, and answer each. -/
def Decode.layer (code : List Nat) (d : Decode) (r : Nat) : Decode :=
  let cols := (List.range 144).filterMap fun c => (circulant code r c).map fun s => (c, s)
  let old := d.messages.getD r []
  let msg (c : Nat) : List Int := ((old.find? fun p => p.1 == c).map (·.2)).getD (List.replicate 256 0)
  let ext := cols.map fun p => (p.1, p.2, (rotList p.2 (d.values.getD p.1 [])).zipWith (fun v m => v - m) (msg p.1))
  let mins := ext.foldl (fun ms e => ms.zipWith (fun m v => m.add e.1 (message v)) e.2.2) (List.replicate 256 CheckMin.none)
  let new := ext.map fun e => (e.1, mins.zipWith (fun m v => m.reply e.1 (message v)) e.2.2)
  let vals := (ext.zip new).foldl (fun vs p =>
    vs.set p.1.1 (rotList (256 - p.1.2.1) (p.1.2.2.zipWith (· + ·) p.2.2))) d.values
  ⟨vals, d.messages.set r new⟩

/-- One local iteration: every layer once (R102, R103). -/
def Decode.iterate (code : List Nat) (d : Decode) : Decode := (List.range 15).foldl (fun d r => d.layer code r) d

/-- A codeword enters the decoder with its LLRs. -/
def Decode.start (llrs : List Int) : Decode :=
  ⟨chunks 256 144 (llrs ++ List.replicate (36864 - llrs.length) 0), List.replicate 15 []⟩

/-- The hard decisions of a decoder, by block. -/
def Decode.blocks (d : Decode) : List Nat := d.values.map fun l => ofBits (l.map fun v => decide (v < 0))

/-- The extrinsic values of the decoder: each value less the LLR it began with. -/
def Decode.extrinsic (d : Decode) (llrs : List Int) : List Int := d.values.flatten.zipWith (fun v l => message (v - l)) llrs

/-- Up to so many local iterations, stopping when the syndrome is zero (R104): the decoder after them, and the iterations run. -/
def Decode.run (code : List Nat) : Nat → Nat → Decode → Decode × Nat
  | 0, n, d => (d, n)
  | k + 1, n, d => if syndromeZero code d.blocks then (d, n) else Decode.run code k (n + 1) (d.iterate code)

end Sys2Proof.Machine
end

