-- ==== Sys2Proof/Machine/Passport.lean ====
section
/-!
DEFINITION. The passport (R35 to R44): its areas, the bytes that the digests and signatures of headers, directories, records and images
are over, the checks of an area, and the device area with its rewriting (R40).
-/
namespace Sys2Proof
open Machine

/-- The four areas of the passport that hold signed or device records, by first and last address (R35): the factory copies, the device
area, and the slots. -/
def factoryBase (copy : Nat) : Nat := if copy = 0 then 0x00000000 else 0x00800000

/-- The first address of a slot: A for 0, B for any other. -/
def slotBase (k : Nat) : Nat := if k = 0 then 0x02000000 else 0x03000000

/-- The size of a factory copy, and that of the device area and of a slot. -/
def factorySize : Nat := 0x00800000
def slotSize : Nat := 0x01000000

/-- A list of bytes with zeros after it, up to a length. -/
def padTo (n : Nat) (l : List Nat) : List Nat := l ++ List.replicate (n - l.length) 0

/-- Bytes 0x000 to 0x07F of a header, over which its signature is (R36). -/
def Header.signed (h : Header) : List Nat :=
  padTo 128 (h.magic.take 4 ++ leBytes 4 h.format ++ leBytes 4 h.generation ++ leBytes 4 h.dirEntries ++ h.dirDigest.take 48 ++
    [h.keyIndex % 256])

/-- The 64 bytes of a directory entry (R37). -/
def DirEntry.image (e : DirEntry) : List Nat :=
  leBytes 2 e.type ++ [e.inst % 256, 0] ++ leBytes 4 e.offset ++ leBytes 4 e.length ++ leBytes 4 e.stamp ++ padTo 48 (e.digest.take 48)

/-- The 512-byte prologue of an image with its signature's bytes as 0 (R39). The order of its fields is the model's (DESIGN CHOICE; log
122): the build, the numbers of stamps provided, used and pairs tested, the lists, the key index at byte 0x180, and the signature at 0x1A0. -/
def Image.prologue (i : Image) : List Nat :=
  padTo 512 (padTo 0x180 (leBytes 4 i.build ++ [i.provides.length % 256, i.uses.length % 256, i.tested.length % 256, 0] ++
    i.provides.flatMap (leBytes 4) ++ i.uses.flatMap (leBytes 4) ++ i.tested.flatMap (fun p => leBytes 4 p.1 ++ leBytes 4 p.2)) ++
    [i.keyIndex % 256])

/-- The microwords of an image, so many of a width in bytes (R165, R374). -/
def Image.store (i : Image) (count width : Nat) : List Nat :=
  (List.range count).flatMap fun k => leBytes width (((i.words.find? fun p => p.1 == k).map (·.2)).getD 0)

/-- The whole image of a record type with the signature's bytes as 0, over which its signature is (R38, R39). -/
def Image.bytes (i : Image) (type : Nat) : List Nat :=
  i.prologue ++ (if type = 0x11 then i.store 8192 24 else if type = 0x12 then i.store 2048 16 else i.code)

/-- A list of numbers as its length and so many words. -/
def wordList (l : List Nat) : List Nat := leBytes 4 l.length ++ l.flatMap (leBytes 4)

/-- The bytes of a calibration table, over which its digest is. The spec gives their format by its stamp alone; the order of the fields is
the model's (DESIGN CHOICE; log 122). -/
def CalTable.bytes (t : CalTable) : List Nat :=
  match t with
  | .loops w o n p k a b => wordList [0, w, o, n, p, k] ++ wordList a ++ wordList b
  | .coupling x k => wordList [1, x.n, k]
  | .preamp a b c d e f => wordList [2, a, b, c, d, e, (f.map (· + 1)).getD 0]
  | .taps x l => wordList [3, x.n] ++ wordList l
  | .skews x l => wordList [4, x.n] ++ wordList l
  | .readerTaps x h b l => wordList [5, x.n, h, b2n b] ++ wordList l
  | .code l => wordList [6] ++ wordList l
  | .ladder l => wordList [7] ++ wordList l
  | .diePower l => wordList [8] ++ wordList (l.flatMap fun p => [p.1, p.2])
  | .secret l => wordList [9] ++ wordList l
  | .serial l => wordList [10] ++ l

/-- The bytes of a record of a type (R38). -/
def Body.bytesOf (b : Body) (type : Nat) : List Nat :=
  match b with
  | .sealedSet l => leBytes 4 l.length ++ l.flatMap fun p => leBytes 4 p.1 ++ leBytes 4 p.2
  | .calibration t => t.bytes
  | .policy n => leBytes 4 n
  | .publicKey l => l
  | .image i =>
    let m := i.bytes type
    m.take 0x1A0 ++ padTo 96 (i.signature.take 96) ++ m.drop 0x200
  | .bytes l => l

/-- The record types of R38. -/
def recordTypes : List Nat := [0x01, 0x02, 0x03, 0x04, 0x10, 0x11, 0x12, 0x13, 0x20, 0x21, 0x22, 0x23]

/-- The record at the address a directory entry gives. -/
def Area.at (a : Area) (e : DirEntry) : Option Body := (a.recs.find? fun p => p.1 == e.offset).map (·.2)

/-- The records of a type, in directory order, with their entries. -/
def Area.ofType (a : Area) (type : Nat) : List (DirEntry × Body) :=
  a.dir.filterMap fun e => if e.type = type then (a.at e).map fun b => (e, b) else none

/-- The public key of a key slot (R41): the record of the type whose INSTANCE it is. -/
def Area.key (a : Area) (type k : Nat) : Option (List Nat) :=
  (a.ofType type).findSome? fun p => match p.2 with
    | .publicKey l => if p.1.inst = k then some l else none
    | _ => none

/-- The image of a type. -/
def Area.imageOf (a : Area) (type : Nat) : Option Image :=
  (a.ofType type).findSome? fun p => match p.2 with
    | .image i => some i
    | _ => none

/-- The sealed-set records in directory order (R49). -/
def Area.sets (a : Area) : List (List (Nat × Nat)) :=
  (a.ofType 0x01).filterMap fun p => match p.2 with
    | .sealedSet l => some l
    | _ => none

/-- The calibration tables. -/
def Area.cals (a : Area) : List CalTable :=
  (a.ofType 0x02).filterMap fun p => match p.2 with
    | .calibration t => some t
    | _ => none

/-- ALLOW_UNTESTED of the policy record (R38, R45). -/
def Area.allowUntested (a : Area) : Bool :=
  (a.ofType 0x03).any fun p => match p.2 with
    | .policy n => bitOf n 0
    | _ => false

/-- The records of types that R38 does not list, which are skipped and counted. -/
def Area.unknown (a : Area) : Nat := (a.dir.filter fun e => !recordTypes.contains e.type).length

/-- A public key answers to its fuse slot (R41): its digest is the fused one, and the slot is not revoked. -/
def Machine.State.trusts (s : State) (key : List Nat) (k : Nat) : Bool :=
  let f := s.psp.fuses.at (Act.num k)
  k < 4 && !f.revoked && sha384 key == f.digest

/-- A signature over a message verifies under the key of a key slot that the area carries (R41). -/
def Machine.State.signedBy (s : State) (a : Area) (type k : Nat) (message signature : List Nat) : Bool :=
  (a.key type k).any fun key => s.trusts key k && ecdsaVerifies key message signature

/-- The header and the directory of an area verify (R36, R41): its magic, its signature, and the directory's digest. -/
def Machine.State.headerGood (s : State) (a : Area) (magic : List Nat) (keyType : Nat) : Bool :=
  let h := a.header
  h.magic == magic && s.signedBy a keyType h.keyIndex h.signed h.signature &&
    h.dirEntries ≤ 960 && a.dir.length == h.dirEntries && sha384 (a.dir.flatMap DirEntry.image) == h.dirDigest

/-- A directory entry lists its record with a good digest (R37): the record lies in the area behind the header and the directory. -/
def Area.entryGood (a : Area) (base size : Nat) (e : DirEntry) : Bool :=
  !recordTypes.contains e.type || (a.at e).any fun b =>
    base + 0x1000 + 64 * a.dir.length ≤ e.offset && e.offset + e.length ≤ base + size &&
      (b.bytesOf e.type).length == e.length && sha384 (b.bytesOf e.type) == e.digest

/-- The factory area keeps the limits of R38. An area beyond them fails as one with a bad digest does (DESIGN CHOICE; log 122). -/
def Area.factoryFits (a : Area) : Bool :=
  let sets := a.sets
  sets.length ≤ 32 && sets.all (fun l => l.length ≤ 256) && (a.ofType 0x03).length ≤ 1 && (a.ofType 0x04).length ≤ 4 &&
    ((a.dir.filter fun e => e.type ≤ 2).foldl (fun n e => n + e.length) 0) ≤ 2 ^ 21

/-- An image keeps the limits of R38 and R39. -/
def Image.fits (i : Image) (type : Nat) : Bool :=
  i.provides.length ≤ 8 && i.uses.length ≤ 16 && i.tested.length ≤ 32 && (type != 0x10 || 512 + i.code.length ≤ 2 ^ 22)

/-- A slot keeps the limits of R38 and holds its three images. -/
def Area.slotFits (a : Area) : Bool :=
  (a.ofType 0x13).length ≤ 4 && [0x10, 0x11, 0x12].all fun t => (a.imageOf t).any fun i => i.fits t

/-- The reserved bits of a courier microword are 0 (R165, R181). -/
def creReservedOk (v : Nat) : Bool := bitsOf v 52 32 == 0

/-- The reserved bits of microword `w` of a protocol image are 0 (R372, R374). -/
def preReservedOk (w v : Nat) : Bool := if w < 256 then v / 2 ^ 14 == 0 else bitsOf v 63 32 == 0

/-- The check a control store makes as it is loaded: every word in its place and every reserved bit 0 (R46, R181, R372). -/
def Image.loads (i : Image) (type : Nat) : Bool :=
  if type = 0x11 then i.words.all fun p => p.1 < 8192 && p.2 < 2 ^ 192 && creReservedOk p.2
  else if type = 0x12 then i.words.all fun p => p.1 < 2048 && p.2 < 2 ^ 128 && preReservedOk p.1 p.2
  else true

/-- A factory copy verifies (R41, R102): its header, its directory digest, and every record digest; a code table that fails its checks
counts as a failed digest. -/
def Machine.State.copyGood (s : State) (copy : Nat) (a : Area) : Bool :=
  s.headerGood a [0x56, 0x4B, 0x50, 0x46] 0x04 && a.dir.all (a.entryGood (factoryBase copy) factorySize) && a.factoryFits &&
    a.cals.all fun t => match t with
      | .code l => codeGood l
      | _ => true

/-- The factory copy chosen (R41): copy 0 where it verifies, otherwise copy 1; none where neither does. -/
def Machine.State.chooseFactory (s : State) : Option (Nat × Area) :=
  match s.psp.copy0.filter (s.copyGood 0), s.psp.copy1.filter (s.copyGood 1) with
  | some f, _ => some (0, f)
  | none, some f => some (1, f)
  | none, none => none

/-- The three images of a slot with their types. -/
def Area.images (a : Area) : List (Nat × Image) := [0x10, 0x11, 0x12].filterMap fun t => (a.imageOf t).map fun i => (t, i)

/-- The microwords of an area's image of a type. -/
def Area.words (a : Area) (type : Nat) : List (Nat × Nat) := ((a.imageOf type).map (·.words)).getD []

/-- The stamps an image of a type provides. -/
def Area.provides (a : Area) (type : Nat) : List Nat := ((a.imageOf type).map (·.provides)).getD []

/-- The drive secret of the calibration records (R361). -/
def Area.secret (a : Area) : List Nat :=
  (a.cals.findSome? fun t => match t with
    | .secret l => some l
    | _ => none).getD []

/-- The signature of an image that stands in a unit's memory verifies, as it is loaded (R39, R42), under a key of the slot it comes from. -/
def Machine.State.loadSigned (s : State) (z : Area) (b : List Nat) : Bool :=
  s.signedBy z 0x13 (b.getD 0x180 0) (b.take 0x1A0 ++ List.replicate 96 0 ++ b.drop 0x200) ((b.drop 0x1A0).take 96)

/-- The build identifier in an image's prologue. -/
def prologueBuild (b : List Nat) : Nat := (b.take 4).reverse.foldl (fun n x => n * 256 + x) 0

/-- The stamps that an image's prologue provides. -/
def prologueProvides (b : List Nat) : List Nat :=
  (List.range (min 8 (b.getD 4 0))).map fun k => ((b.drop (8 + 4 * k)).take 4).reverse.foldl (fun n x => n * 256 + x) 0

/-- What fails of the checks R41 makes of a slot (R46, R58), 0 for nothing: 1 its header or directory, 2 a record's digest, 3 an image's
signature. -/
def Machine.State.slotFails (s : State) (k : Nat) (z : Area) : Nat :=
  if !s.headerGood z [0x56, 0x4B, 0x50, 0x53] 0x13 then 1
  else if !(z.dir.all (z.entryGood (slotBase k) slotSize) && z.slotFits) then 2
  else if z.images.any fun p => !s.signedBy z 0x13 p.2.keyIndex (p.2.bytes p.1) p.2.signature then 3
  else 0

/-- The factory copy in use since the last start, whose signature and digests were checked then (R42). -/
def Machine.State.factory (s : State) : Option (Nat × Area) := s.cal.source

/-- The slot of an index: A for 0, B for any other. -/
def Machine.State.slotOf (s : State) (k : Nat) : Option Area := if k = 0 then s.psp.slotA else s.psp.slotB

/-- The build identifier of an area's image of a type, 0 where it holds none. -/
def Area.build (a : Area) (type : Nat) : Nat := ((a.imageOf type).map (·.build)).getD 0

/-- Bytes 0 to 11 of a device directory: its generation, and its entries (R37, R40). -/
def DevDir.image (d : DevDir) : List Nat := leBytes 4 d.generation ++ d.entries.flatMap DirEntry.image

/-- A device directory's CRC is good (R40). -/
def DevDir.good (d : DevDir) : Bool := d.crc == crc32c d.image

/-- The bytes of the four device records, 0x20 to 0x23, over which their CRCs are: the shelf book, the saved features with the
head-service entry, the wrapped media keys (R361), and the slot state. The order of the fields of the saved features and of the slot
state is the model's (DESIGN CHOICE; log 122). -/
def DevRecord.image (r : DevRecord) (type : Nat) : List Nat :=
  if type = 0x20 then r.shelfBook
  else if type = 0x21 then
    wordList (r.features.flatMap fun p => [p.1, p.2]) ++ wordList [r.retired, r.reinstate] ++ wordList r.posmap
  else if type = 0x22 then
    leBytes 4 r.keys.length ++ [b2n r.sanitizePending, 0, 0, 0] ++
      r.keys.flatMap fun p => leBytes 4 p.2.1 ++ [p.1 % 256, 0, 0, 0] ++ padTo 72 (p.2.2.take 72)
  else [r.preferred % 256, b2n r.trialA, r.countA % 256, b2n r.trialB, r.countB % 256] ++ leBytes 4 r.genA ++ leBytes 4 r.genB

/-- The device records that a directory's entries name: one whose CRC does not hold is as blank (DESIGN CHOICE; log 123). -/
def DevDir.records (d : DevDir) : DevRecord :=
  let r := d.recs
  let ok (t : Nat) : Bool := (d.entries.find? fun e => e.type == t).any fun e => e.digest == padTo 48 (leBytes 4 (crc32c (r.image t)))
  let b := DevRecord.blank
  let x := if ok 0x21 then r else b
  let k := if ok 0x22 then r else b
  let z := if ok 0x23 then r else b
  ⟨if ok 0x20 then r.shelfBook else [], x.features, k.keys, x.retired, x.reinstate, x.posmap, k.sanitizePending, z.trialA, z.countA,
    z.trialB, z.countB, z.preferred, z.genA, z.genB⟩

/-- The device records in force (R40): those of the directory with the higher generation among those whose CRC is good. With equal
generations the first directory, and with neither CRC good blank records, are the model's choice (DESIGN CHOICE; log 123). -/
def Machine.State.devNow (s : State) : DevRecord :=
  let a := s.psp.dev0
  let b := s.psp.dev1
  if a.good && (!b.good || b.generation ≤ a.generation) then a.records
  else if b.good then b.records
  else DevRecord.blank

/-- The entries of the device directory in force (R40). -/
def Machine.State.devEntries (s : State) : List DirEntry :=
  let a := s.psp.dev0
  let b := s.psp.dev1
  if a.good && (!b.good || b.generation ≤ a.generation) then a.entries else if b.good then b.entries else []

/-- The generation of a slot (R46, R47): the one the device gave it at a commit, which stands in the slot state since the header is under
the signer's signature (DESIGN CHOICE; log 125), else the header's. -/
def Machine.State.slotGen (s : State) (k : Nat) : Nat :=
  let g := if k = 0 then s.devNow.genA else s.devNow.genB
  if g != 0 then g else ((s.slotOf k).map (·.header.generation)).getD 0

/-- The device records as they are to be: what waits to be rewritten, else those in force. -/
def Machine.State.devWanted (s : State) : DevRecord := s.psp.pend.getD s.devNow

/-- A device record is to change: it is rewritten under R40. -/
def Machine.State.saveDev (s : State) (f : DevRecord → DevRecord) : State :=
  { s with psp := { s.psp with pend := some (f s.devWanted) } }

/-- A device directory of a generation with its entries: the records stand in free sectors, in the half of the device area that the
records of the generation before do not use (R35, R37, R40; DESIGN CHOICE; log 122). -/
def Machine.devDir (gen : Nat) (r : DevRecord) : DevDir :=
  let entry (p : Nat × Nat) : DirEntry :=
    let b := r.image p.1
    ⟨p.1, 0, 0x01020000 + 0x700000 * (gen % 2) + 0x100000 * p.2, b.length, 0, padTo 48 (leBytes 4 (crc32c b))⟩
  let d : DevDir := ⟨gen, ([0x20, 0x21, 0x22, 0x23].zip (List.range 4)).map entry, 0, r⟩
  { d with crc := crc32c d.image }

/-- Rewrite the device records at once (R40): the directory that holds the lower generation is given the next one. -/
def Machine.State.writeDev (s : State) (r : DevRecord) : State :=
  let a := s.psp.dev0
  let b := s.psp.dev1
  let ga := if a.good then a.generation else 0
  let gb := if b.good then b.generation else 0
  let older := !a.good || (b.good && ga < gb)
  let d := devDir (max ga gb + 1) r
  { s with psp := { s.psp with dev0 := if older then d else a, dev1 := if older then b else d, pend := none } }

/-- The device area may be written: the drive bus is valid and the mains-lost warning is not raised (R40). -/
def Machine.State.mayWriteDev (s : State) : Bool := s.on Reg.PWR_STATUS_DBUS_VALID && s.get Reg.PWR_STATUS_PHASE < 2

/-- A device record changes at once where the device area may be written; otherwise the change waits (R40). -/
def Machine.State.changeDev (s : State) (f : DevRecord → DevRecord) : State :=
  if s.mayWriteDev then s.writeDev (f s.devWanted) else s.saveDev f

/-- DEVICE_RECORD_REWRITE (R40): what waits is written, while the drive bus is valid and the mains-lost warning is not raised. `steps` are
the steps done before power is lost, 3 where it is not: with the directory written the new records are in force, before it the old. -/
def Machine.execDeviceRecordRewrite (steps : Nat) (s : State) : Host.Outcome State Fault Refusal :=
  match s.psp.pend with
  | none => ok s
  | some r =>
    if !s.mayWriteDev then ok s
    else if 2 ≤ steps then ok (s.writeDev r)
    else ok { s with psp := { s.psp with pend := none } }

end Sys2Proof
end

