-- ==== Sys2Proof/Machine/CourierCtl.lean ====
section
/-!
DEFINITION. The courier engine's control (R181 to R186): loading and running, the data-memory and capture windows, and the
injection and capture channels; and the loops' mailboxes (R21).
-/
namespace Sys2Proof.Machine

/-- Whether any data head is off its ramp: a loop whose PARKED does not stand in port +2 (R195, R197). -/
def State.headsOff (s : State) : Bool := s.acts.any fun x => !(s.lp x).parked

/-- Whether a postmark head is off its ramp (R64, R91). -/
def State.pmkOff (s : State) : Bool := !s.on Reg.PMK_STATUS_PARK_A || !s.on Reg.PMK_STATUS_PARK_B

/-- Whether the spindle turns: a speed is measured, or the loop drives it (R182, R247). -/
def State.turning (s : State) : Bool :=
  s.on Reg.SPN_SPEED_SPEED || (2 ≤ s.get Reg.SPN_STATUS_STATE && s.get Reg.SPN_STATUS_STATE ≤ 9)

/-- LOAD written 1 (R181): the loader starts from off, loaded or stopped; it is ignored and reported otherwise. -/
def execCreLoad (i : Initiator) (s : State) : Host.Outcome State Fault Refusal :=
  ok (s.access i 0x40200000 4 fun s =>
    let st := s.get Reg.CRE_STATUS_STATE
    if st == 0 || st == 2 || st == 4 then { s.set Reg.CRE_STATUS_STATE 1 with bus := .written }
    else s.ignored i 0x40200000)

/-- The microwords of an image in DRAM, after its 512-byte prologue (R39, R165). -/
def State.imageWords (s : State) (a width : Nat) (count : Nat) : Sparse Nat :=
  ((List.range count).map fun w => (w, s.dram (a + 512 + width * w) width)).filter fun p => p.2 != 0

/-- The bytes of an image in DRAM, with its prologue. -/
def State.imageBytes (s : State) (a n : Nat) : List Nat := (s.bytes a n).map (·.toNat)

/-- The signature of an image verifies as it is loaded, under a key of the slot that runs (R41, R42). -/
def State.imageSigned (s : State) (b : List Nat) : Bool := (s.slotOf (s.get Reg.SYS_BOOT_SLOT)).any fun z => s.loadSigned z b

/-- The loader ended (R42, R165, R181): the store holds the image's words; a signature that verifies under a key of the running slot and
reserved bits all 0 make the engine loaded, with the build and the stamps of the prologue; otherwise it is off and LOAD_FAIL is set. -/
def execCreLoadDone (s : State) : Host.Outcome State Fault Refusal :=
  if s.get Reg.CRE_STATUS_STATE = 1 then
    let a := s.get Reg.CRE_LOAD_LO_ADDR + 2 ^ 32 * s.get Reg.CRE_LOAD_HI_ADDR
    let words := s.imageWords a 24 8192
    let b := s.imageBytes a (512 + 24 * 8192)
    let good := s.imageSigned b && words.all fun p => creReservedOk p.2
    let s := { s with eng := { s.eng with store := words } }
    let s := s.set Reg.CRE_INT_LOAD_DONE 1
    if good then
      let s := { s with eng := { s.eng with provides := prologueProvides b } }
      ok ((s.set Reg.CRE_STATUS_STATE 2).set Reg.CRE_BUILD_BUILD (prologueBuild b))
    else ok ((s.set Reg.CRE_STATUS_STATE 0).set Reg.CRE_STATUS_LOAD_FAIL 1)
  else ok s

/-- RUN written 1 (R182): from loaded or stopped it takes effect at the next boundary; while the engine is off or loading it
is ignored and reported, and RUN reads 0. -/
def execCreRun (i : Initiator) (s : State) : Host.Outcome State Fault Refusal :=
  ok (s.access i 0x40200000 4 fun s =>
    let st := s.get Reg.CRE_STATUS_STATE
    if st ≤ 1 then (s.set Reg.CRE_CTRL_RUN 0).ignored i 0x40200000
    else
      let s := { s.set Reg.CRE_CTRL_RUN 1 with bus := .written }
      if st == 3 then { s with eng := { s.eng with runAt := none } }
      else { s with eng := { s.eng with runAt := some true } })

/-- RUN written 0 (R182): ignored and reported while a data head or a postmark head is off its ramp or the spindle turns;
otherwise the engine stops at the next boundary. -/
def execCreStop (i : Initiator) (s : State) : Host.Outcome State Fault Refusal :=
  ok (s.access i 0x40200000 4 fun s =>
    if s.headsOff || s.pmkOff || s.turning then s.ignored i 0x40200000
    else
      let s := { s.set Reg.CRE_CTRL_RUN 0 with bus := .written }
      if s.get Reg.CRE_STATUS_STATE == 3 then { s with eng := { s.eng with runAt := some false } }
      else { s with eng := { s.eng with runAt := none } })

/-- CLR_PEAKS written 1: every PEAK clears (R190). -/
def execCreClrPeaks (i : Initiator) (s : State) : Host.Outcome State Fault Refusal :=
  ok (s.access i 0x40200000 4 fun s =>
    { (List.range 18).foldl (fun s n => s.set (Reg.CRE_CYCLES_PEAK n) 0) s with bus := .written })

/-- An access to CRE_DM_DATA (R174, R190): a read gives the word at ADDR; a write is accepted only while the engine is not
running. Each access adds 1 to ADDR, wrapping. -/
def execCreDmDataAccess (i : Initiator) (write : Option Nat) (s : State) : Host.Outcome State Fault Refusal :=
  ok (s.access i 0x40200194 4 fun s =>
    let a := s.get Reg.CRE_DM_ADDR_ADDR
    match write with
    | none => { (s.sramRead 3 a 1 0x20).set Reg.CRE_DM_ADDR_ADDR (a + 1) with bus := .read (sGet s.eng.dm a 0) }
    | some v =>
      if s.get Reg.CRE_STATUS_STATE == 3 then s.ignored i 0x40200194
      else
        let s := { s with eng := { s.eng with dm := sPut s.eng.dm a (v % 2 ^ 32) 0 } }.injWrite 3 a 1
        { s.set Reg.CRE_DM_ADDR_ADDR (a + 1) with bus := .written })

/-- A read of CRE_CAP_DATA gives slot INDEX of channel CH and adds 1 to INDEX, wrapping (R190). -/
def execCreCapDataRead (i : Initiator) (s : State) : Host.Outcome State Fault Refusal :=
  ok (s.access i 0x4020019C 4 fun s =>
    let k := s.get Reg.CRE_CAP_ADDR_INDEX
    { s.set Reg.CRE_CAP_ADDR_INDEX (k + 1) with
      bus := .read (sGet s.eng.cap (4096 * s.get Reg.CRE_CAP_ADDR_CH + k) 0) })

/-- The samples of an injection channel: LEN, where 0 acts as 1 and above 1024 as 1024 (R190). -/
def State.injLen (s : State) (n : Nat) : Nat := max 1 (min 1024 (s.get (Reg.CRE_INJ_CTRL_LEN n)))

/-- The slots of a capture channel: LEN, where 0 acts as 1 and above 4096 as 4096 (R190). -/
def State.capLen (s : State) (n : Nat) : Nat := max 1 (min 4096 (s.get (Reg.CRE_CAP_CTRL_LEN n)))

/-- The ticks of a capture slot: DECIM, where 0 means 256 (R190). -/
def State.capDecim (s : State) (n : Nat) : Nat :=
  if s.get (Reg.CRE_CAP_CTRL_DECIM n) = 0 then 256 else s.get (Reg.CRE_CAP_CTRL_DECIM n)

/-- Whether a channel's START_TICK names the boundary with this count: 0 means the next boundary (R184). -/
def startsNow (start tickLo : Nat) : Bool := start == 0 || start == tickLo

/-- Whether a start has passed, or lies more than 2^31 ticks ahead (R184). -/
def startLate (start tickLo : Nat) : Bool :=
  let d := (start + 2 ^ 32 - tickLo) % 2 ^ 32
  start != 0 && (d == 0 || 2 ^ 31 < d)

/-- An injection channel ends after its LEN samples, or at the boundary after ARM was written 0 (R184): it stops and ARM
clears. -/
def State.injEnd (s : State) (n : Nat) : State :=
  (s.set (Reg.CRE_INJ_STAT_ACTIVE n) 0).set (Reg.CRE_INJ_CTRL_ARM n) 0

/-- An injection channel at a boundary (R184): an armed one becomes active at its start; an active one moves to its next
sample, wraps under REPEAT, or ends. -/
def State.injTick (s : State) (n : Nat) : State :=
  if s.on (Reg.CRE_INJ_STAT_ACTIVE n) then
    let k := s.get (Reg.CRE_INJ_STAT_INDEX n) + 1
    if !s.on (Reg.CRE_INJ_CTRL_ARM n) then s.injEnd n
    else if k < s.injLen n then s.set (Reg.CRE_INJ_STAT_INDEX n) k
    else if s.on (Reg.CRE_INJ_CTRL_REPEAT n) then s.set (Reg.CRE_INJ_STAT_INDEX n) 0
    else s.injEnd n
  else if s.on (Reg.CRE_INJ_CTRL_ARM n) && !s.eng.late.contains n &&
      startsNow (s.get (Reg.CRE_INJ_START_START_TICK n)) s.tickLo then
    (s.set (Reg.CRE_INJ_STAT_ACTIVE n) 1).set (Reg.CRE_INJ_STAT_INDEX n) 0
  else s

/-- A capture channel ends (R185): it stops and ARM clears; after LEN slots DONE is set. -/
def State.capEnd (s : State) (n : Nat) : State :=
  let full := s.capLen n ≤ s.get (Reg.CRE_CAP_STAT_COUNT n)
  let s := { s with eng := { s.eng with capWait := sDel s.eng.capWait n } }
  let s := (s.set (Reg.CRE_CAP_STAT_ACTIVE n) 0).set (Reg.CRE_CAP_CTRL_ARM n) 0
  if full then s.set (Reg.CRE_CAP_STAT_DONE n) 1 else s

/-- Open slot COUNT of a capture channel for this tick, filled with 0x8000_0000 (R185). -/
def State.capSlot (s : State) (n : Nat) : State :=
  let k := s.get (Reg.CRE_CAP_STAT_COUNT n)
  let s := s.set (Reg.CRE_CAP_STAT_COUNT n) (k + 1)
  { s with eng := { s.eng with cap := sPut s.eng.cap (4096 * n + k) 0x80000000 0, capWait := sIns s.eng.capWait n k } }

/-- A capture channel at a boundary (R185). -/
def State.capTick (s : State) (n : Nat) : State :=
  let s := { s with eng := { s.eng with capWait := sDel s.eng.capWait n } }
  if s.on (Reg.CRE_CAP_STAT_ACTIVE n) then
    if s.capLen n ≤ s.get (Reg.CRE_CAP_STAT_COUNT n) || !s.on (Reg.CRE_CAP_CTRL_ARM n) then s.capEnd n
    else if (s.tickLo + 2 ^ 32 - s.get (Reg.CRE_CAP_FIRST_FIRST_TICK n)) % 2 ^ 32 % s.capDecim n = 0 then s.capSlot n
    else s
  else if s.on (Reg.CRE_CAP_CTRL_ARM n) && !s.eng.late.contains (4 + n) &&
      startsNow (s.get (Reg.CRE_CAP_START_START_TICK n)) s.tickLo then
    let s := s.setAll [(Reg.CRE_CAP_STAT_ACTIVE n, 1), (Reg.CRE_CAP_STAT_COUNT n, 0),
      (Reg.CRE_CAP_FIRST_FIRST_TICK n, s.tickLo)]
    s.capSlot n
  else s

/-- After LEN samples an injection channel stops (R184). -/
def execInjectionEnd (n : Nat) (s : State) : Host.Outcome State Fault Refusal :=
  if s.on (Reg.CRE_INJ_STAT_ACTIVE n) &&
      (!s.on (Reg.CRE_INJ_CTRL_ARM n) ||
        (s.injLen n ≤ s.get (Reg.CRE_INJ_STAT_INDEX n) + 1 && !s.on (Reg.CRE_INJ_CTRL_REPEAT n))) then ok (s.injEnd n)
  else ok s

/-- After LEN slots a capture channel stops and sets DONE (R185). -/
def execCaptureEnd (n : Nat) (s : State) : Host.Outcome State Fault Refusal :=
  if s.on (Reg.CRE_CAP_STAT_ACTIVE n) && s.capLen n ≤ s.get (Reg.CRE_CAP_STAT_COUNT n) then ok (s.capEnd n) else ok s

/-- The engine at a boundary (R182): a RUN taken up clears every context and exchange register and keeps the data memory; a
stop takes effect. -/
def State.runTick (s : State) : State :=
  match s.eng.runAt with
  | some true =>
    let s := (List.range 64).foldl (fun s k => s.set (Reg.CRE_X k) 0) s
    let e := { s.eng with ctx := [], pend := [], running := none, ready := [], seg := 0, wait := .none, runAt := none,
                          lastFail := [] }
    { s with eng := e }.set Reg.CRE_STATUS_STATE 3
  | some false =>
    { s with eng := { s.eng with running := none, ready := [], seg := 0, wait := .none, runAt := none } }.set
      Reg.CRE_STATUS_STATE 4
  | none => s

/-- The engine's work at a tick boundary: the cycle counts of the last tick close, FRESH and the captures of the tick clear,
the injection and capture channels move, and the slices that are ready at the boundary become ready (R87, R162); a diagnostics slice in the
midst of a segment keeps the engine until its end (R88). -/
def State.engineTick (s : State) : State :=
  let peak := s.eng.used.foldl (fun m p => if p.1 < 17 then m + p.2 else m) 0
  let s := s.set Reg.TCK_PEAK_PEAK_CYCLES (max peak (s.get Reg.TCK_PEAK_PEAK_CYCLES))
  let keep := s.eng.running == some 17 || s.eng.ready.contains 17
  let s := { s with eng := { s.eng with fresh := [], used := [], cyc := 0, capDone := [],
                                        running := if s.eng.running == some 17 then some 17 else none,
                                        ready := if keep && s.eng.running != some 17 then [17] else [],
                                        seg := if s.eng.running == some 17 then s.eng.seg else 0,
                                        wait := if s.eng.running == some 17 then s.eng.wait else .none } }
  let s := s.runTick
  let s := (List.range 4).foldl (fun s n => s.injTick n) s
  let s := (List.range 4).foldl (fun s n => s.capTick n) s
  let s := (((s.ready 0).ready 13).ready 16).ready 17
  s.scheduleIdle

/-- The messages of a mailbox that were wholly delivered at least 1 µs before the boundary are taken up, in delivery order
(R21). -/
def State.takeUp (s : State) (l : Nat) (boundaryNs : Nat) : State :=
  let m := s.mail l
  let n := (m.box.takeWhile fun x => x.atNs + 1000 ≤ boundaryNs).length
  s.putMail l { m with taken := max m.taken n }

/-- A core posts a message to a loop's mailbox (R21): refused with a busy status, and nothing written, where 16 messages
stand against it; otherwise it is in class-C delivery. -/
def execMailboxPost (core loop : Nat) (words : List Nat) (s : State) : Host.Outcome State Fault Refusal :=
  let m := s.mail loop
  if !s.pdOn 12 then ok (s.busError (.core core) 0x40200000)
  else if 16 ≤ m.count then ok { s with bus := .busy }
  else ok { s.putMail loop { m with transit := m.transit ++ [⟨words.map (· % 2 ^ 32), 0⟩] } with bus := .written }

/-- The oldest message in delivery is wholly delivered into its mailbox (R21), so many ns after the last boundary. -/
def execMailboxDeliver (loop afterNs : Nat) (s : State) : Host.Outcome State Fault Refusal :=
  let m := s.mail loop
  match m.transit with
  | [] => ok s
  | x :: t => ok (s.putMail loop { m with transit := t, box := m.box ++ [{ x with atNs := s.clockNs + afterNs }] })

end Sys2Proof.Machine
end

