-- ==== Sys2Proof/Machine/Streams.lean ====
section
/-!
DEFINITION. The postmark's streams (R66 to R72, R82): the heads and their park lines, the phase test, the combined phase and the rotor angle,
and how a stream becomes valid or is dropped.
-/
namespace Sys2Proof.Machine

/-- Whether the postmark is locked (R72). -/
def State.pmkLocked (s : State) : Bool := s.on Reg.PMK_STATUS_VALID

/-- The heads: false A (streams 0 and 1), true B (streams 2 and 3). -/
def headOf (stream : Nat) : Bool := 2 ≤ stream

/-- Whether a head's driver is energised. -/
def State.energised (s : State) (b : Bool) : Bool := if b then s.pmk.energB else s.pmk.energA

/-- Whether a head's park line is closed. -/
def State.parked (s : State) (b : Bool) : Bool :=
  if b then s.on Reg.PMK_STATUS_PARK_B else s.on Reg.PMK_STATUS_PARK_A

/-- Whether a ramp fault keeps a head's streams out until PMK_CTRL is written (R67). -/
def State.rampFaulty (s : State) (b : Bool) : Bool := if b then s.pmk.faultB else s.pmk.faultA

/-- Energise a head's driver, from now on, or de-energise it. -/
def State.setEnergised (s : State) (b v : Bool) : State :=
  if b then { s with pmk := { s.pmk with energB := v, sinceB := s.clockNs } }
  else { s with pmk := { s.pmk with energA := v, sinceA := s.clockNs } }

/-- PMK_STATUS STATE where no stream is valid and none was lost in flight (R80, R91): off, loading while the park lines of the
energised heads are closed, acquiring once one is open. The table of R80 has both heads on the rings; that one suffices is the model's
(DESIGN CHOICE; log 131). -/
def State.pmkIdle (s : State) : Nat :=
  if !(s.pmk.energA || s.pmk.energB) then 0
  else if (s.pmk.energA && !s.on Reg.PMK_STATUS_PARK_A) || (s.pmk.energB && !s.on Reg.PMK_STATUS_PARK_B) then 2 else 1

/-- PMK_STATUS STATE follows (R91): locked while a stream is valid; holdover and lost stand until the postmark locks again or
the heads come off (DESIGN CHOICE; log 131). -/
def State.pmkRefresh (s : State) : State :=
  let st := s.get Reg.PMK_STATUS_STATE
  let n := if s.pmkLocked then 3 else if (st == 4 || st == 5) && s.pmkIdle != 0 then st else s.pmkIdle
  s.set Reg.PMK_STATUS_STATE n

/-- The bias driven into each reader in 16 µA steps (R66): BIAS, clamped to 2.0 to 4.0 mA, while ENABLE is 1. -/
def State.readerBias (s : State) : Nat :=
  if s.on Reg.PMK_CTRL_ENABLE then max 0x7D (min 0xFA (s.get Reg.PMK_AMP_BIAS)) else 0

/-- Whether a stream's reader reads its ring: the bias is driven, and its head is off its ramp and not kept out (R64, R66, R67). -/
def State.streamRead (s : State) (n : Nat) : Bool :=
  s.pmk.bias != 0 && s.energised (headOf n) && !s.parked (headOf n) && !s.rampFaulty (headOf n)

/-- The fixed offset of a stream (R68), in 1/4096 ring cycle: also the rotor angle at which its index stands (R69). -/
def State.streamOffset (s : State) (n : Nat) : Nat :=
  let hb := s.get Reg.PMK_HEADB_OFS_CYCLE * 4096 + s.get Reg.PMK_HEADB_OFS_FRAC
  let inn := s.get Reg.PMK_INNER_OFS_CYCLE * 4096 + s.get Reg.PMK_INNER_OFS_FRAC
  ((if n % 2 == 1 then inn else 0) + (if 2 ≤ n then hb else 0)) % 2 ^ 32

/-- The phase of a stream less its fixed offset (R68), in 1/4096 ring cycle, of 2^32 to a revolution. -/
def State.streamPhase (s : State) (phases : List Nat) (n : Nat) : Nat :=
  (phases.getD n 0 + 2 ^ 32 - s.streamOffset n) % 2 ^ 32

/-- The mean of the phases of the streams in a mask, after their offsets (R68), rounded down (DESIGN CHOICE; log 132). -/
def State.combined (s : State) (phases : List Nat) (mask : Nat) : Option Nat :=
  match (List.range 4).filter fun n => bitOf mask n with
  | [] => none
  | n :: t =>
    let p := s.streamPhase phases n
    let sum := t.foldl (fun (a : Int) k => a + signed 32 (s.streamPhase phases k + 2 ^ 32 - p)) 0
    some (unsigned 32 ((p : Int) + sum / ((t.length + 1 : Nat) : Int)))

/-- What is left of the glide so many ring cycles after the last change (R71): it goes to 0 over 256 cycles. -/
def State.glideLeft (s : State) (cycles : Nat) : Int := s.pmk.glide * ((256 - min 256 cycles : Nat) : Int) / 256

/-- The rotor angle (R71, R72): the mean of the valid streams, with what is left of the glide from the mean before. -/
def State.rotorAngle (s : State) (phases : List Nat) (cycles : Nat) : Option Nat :=
  (s.combined phases (s.get Reg.PMK_STATUS_VALID)).map fun a => unsigned 32 ((a : Int) + s.glideLeft cycles)

/-- VALID and PMK_STREAMS follow together (R71). The glide starts at the old mean: what was left of the last one at the last boundary, with
the step between the two means as the phases stood there (DEDUCED: between boundaries no phase is held; log 132). -/
def State.setStream (s : State) (n : Nat) (v : Bool) : State :=
  let ph := s.pmk.phases
  let old := s.combined ph (s.get Reg.PMK_STATUS_VALID)
  let s := (s.setBit Reg.PMK_STATUS_VALID n v).setBit Reg.SYS_SPARES_PMK_STREAMS n v
  let g : Int := match old, s.combined ph (s.get Reg.PMK_STATUS_VALID) with
    | some a, some b => s.pmk.glide + signed 32 (a + 2 ^ 32 - b)
    | _, _ => 0
  { s with pmk := { s.pmk with glide := g } }

/-- Whether a detection is an index (R69), and lies within 1 cycle of a rotor angle in 1/4096 cycle. -/
def indexAt (f : IndexFind) (angle : Nat) : Bool :=
  56 ≤ f.inverted && f.inverted ≤ 64 && (signed 32 (f.angle % 2 ^ 32 + 2 ^ 32 - angle % 2 ^ 32)).natAbs ≤ 4096

/-- Two revolutions' detections of a stream find its index in place (R69, R70): at its offset, where the disc clock counts; before the first
lock no angle is known, and the second find lies one revolution after the first (DEDUCED; log 132). -/
def State.indexFound (s : State) (n : Nat) (a b : IndexFind) : Bool :=
  if s.pmkLocked then indexAt a (s.streamOffset n) && indexAt b (s.streamOffset n)
  else indexAt a a.angle && indexAt b a.angle

/-- How far a stream's tracking loop departs, in 1/4096 cycle (R70): from the disc clock, or, while none is locked, from its own average
rate, which is that over the tick before (DESIGN CHOICE; log 132). None where it cannot be told. -/
def State.departure (s : State) (phases : List Nat) (ns n : Nat) : Option Nat :=
  match s.rotorAngle phases 256 with
  | some a => some (signed 32 (s.streamPhase phases n + 2 ^ 32 - a)).natAbs
  | none =>
    match s.pmk.advance.getD n 0 with
    | 0 => none
    | adv =>
      let now : Nat := (phases.getD n 0 + 2 ^ 32 - s.pmk.phases.getD n 0) % 2 ^ 32
      some (((now : Int) * s.pmk.spanNs - (adv : Int) * ns) / (max 1 s.pmk.spanNs : Nat)).natAbs

/-- The tracking loops over the tick that ends (R70, R91): TRACKING, and the ring cycles each has held. The phases are kept. -/
def State.trackTick (s : State) (phases : List Nat) (ns : Nat) : State :=
  let adv (n : Nat) : Nat := if s.pmk.phases.isEmpty then 0 else (phases.getD n 0 + 2 ^ 32 - s.pmk.phases.getD n 0) % 2 ^ 32
  let within (n : Nat) : Bool := s.streamRead n && (s.departure phases ns n).any (· ≤ 64)
  let l := List.range 4
  let s := l.foldl (fun (t : State) n => t.setBit Reg.PMK_STATUS_TRACKING n (within n)) s
  { s with pmk := { s.pmk with phases := phases, spanNs := ns, advance := l.map fun n => if s.streamRead n then adv n else 0,
                               tracked := l.map fun n => if within n then min 4096 (s.pmk.tracked.getD n 0 + adv n / 4096) else 0 } }

/-- The last valid stream was dropped (R78, R82): ALL_LOST, writes held, holdover; the source becomes wedge within 8 ticks while
data heads fly, and free where none does. -/
def State.allLost (s : State) : State :=
  let s := (s.set Reg.PMK_STATUS_ALL_LOST 1).set Reg.TCK_STATUS_WR_HOLD 1
  let s := s.setAll [(Reg.PMK_STATUS_STATE, 4), (Reg.PMK_ANGLE_CYCLE, 0), (Reg.PMK_ANGLE_FRAC, 0), (Reg.TCK_STATUS_PHASE_ERR, 0)]
  let src := s.get Reg.TCK_STATUS_SRC
  if (src == 1 || src == 2) && s.headsOff then
    { s with tck := { s.tck with toWedge := some 0 } }.set Reg.TCK_STATUS_SRC 1
  else if src == 1 || src == 2 then
    { s with tck := { s.tck with toWedge := none, stretch := 0 } }.set Reg.TCK_STATUS_SRC 0
  else s

/-- A stream is dropped (R71): VALID, PMK_STREAMS, its count, and the event. Its loop starts afresh (R70). -/
def State.dropStream (s : State) (n : Nat) : State :=
  if n < 4 && s.bit Reg.PMK_STATUS_VALID n then
    let s := (s.setStream n false).setBit Reg.PMK_STATUS_TRACKING n false
    let s := { s with pmk := { s.pmk with tracked := s.pmk.tracked.set n 0 } }
    let s := match n with
      | 0 => s.inc Reg.PMK_DROPS_DROPS_0
      | 1 => s.inc Reg.PMK_DROPS_DROPS_1
      | 2 => s.inc Reg.PMK_DROPS_DROPS_2
      | _ => s.inc Reg.PMK_DROPS_DROPS_3
    let s := s.event 0x01 0x08 0 0x01
    if s.pmkLocked then s.pmkRefresh else s.allLost
  else s

/-- Streams are dropped together (R71). -/
def State.dropStreams (s : State) (l : List Nat) : State := l.foldl (fun s n => s.dropStream n) s

end Sys2Proof.Machine
end

