-- ==== Sys2Proof/Machine/Domains.lean ====
section
/-!
DEFINITION. The switched power domains (R13, R17, R267, R268) and the franking books (R274 to R278), as the loops, the
postmark, the spindle and the power path use them.
-/
namespace Sys2Proof.Machine

/-- Bits of the domains the VK-232M never has on (R4). -/
def State.absentDomains (s : State) : List Nat :=
  match s.variant with
  | .vk432m => []
  | .vk232m => [2, 3, 6, 7, 26]

/-- MEM_STATUS STATE follows PD-DRAM and PD-MEM (R267, R433): self-refresh while the DRAM is on without its controllers. -/
def State.memState (s : State) : State :=
  s.set Reg.MEM_STATUS_STATE (if !s.pdOn 28 then 0 else if s.pdOn 22 then 1 else 2)

/-- Set one domain's bits in SYS_PD_CTRL and SYS_PD_STATUS. -/
def State.pdPut (s : State) (n : Nat) (v : Bool) : State :=
  if s.absentDomains.contains n then s
  else ((s.setBit Reg.SYS_PD_CTRL_ON n v).setBit Reg.SYS_PD_STATUS_ON n v).memState

/-- The domain another depends on (R268). -/
def pdDependsOn (n : Nat) : Option Nat :=
  if n = 22 then some 28 else if n = 23 then some 29 else if 4 ≤ n && n ≤ 7 then some (n - 4) else none

/-- Switch a domain on, its dependency first (R268). -/
def State.pdSwitchOn (s : State) (n : Nat) : State :=
  match pdDependsOn n with
  | some d => (s.pdPut d true).pdPut n true
  | none => s.pdPut n true

/-- What the standby supervisor establishes before a domain goes off (R268): the inverter is off before PD-SPN, the postmark
heads park by spring before PD-PMK, which drops every stream (R71), and the engine stops and is off before PD-CRE. With it goes the tick source, and the media keys are to
be loaded from the passport again (R61: standby and shelf-hold). With PD-PHC go the lines of the cache. -/
def State.beforeOff (s : State) (n : Nat) : State :=
  if n = 27 then
    let now := s.get Reg.SPN_STATUS_STATE
    let st := if now ≤ 1 || now = 0xA then now else 7
    (s.setInv 0).set Reg.SPN_STATUS_STATE st
  else if n = 11 then
    let s := (s.dropStreams (List.range 4)).setAll [(Reg.PMK_CTRL_HEAD_A_LOAD, 0), (Reg.PMK_CTRL_HEAD_B_LOAD, 0),
      (Reg.PMK_STATUS_PARK_A, 1), (Reg.PMK_STATUS_PARK_B, 1), (Reg.PMK_STATUS_STATE, 0), (Reg.PMK_STATUS_TRACKING, 0)]
    { s with pmk := { s.pmk with energA := false, energB := false, bias := 0, phases := [], advance := [], tracked := [] } }
  else if n = 12 then
    let s := (s.set Reg.CRE_STATUS_STATE 0).set Reg.CRE_CTRL_RUN 0
    let s := s.clear [Reg.TCK_STATUS_SRC, Reg.TCK_STATUS_PHASE_ERR, Reg.TCK_STATUS_WR_HOLD]
    { s with eng := { s.eng with running := none, ready := [], seg := 0, wait := .none, runAt := none }, tck := State.reset.tck,
             cons := { s.cons with stale := true } }
  else if n = 21 then { s with mem := { s.mem with sets := [], missing := [], victims := [], trackers := [] } }
  else s

/-- Switch a domain off. -/
def State.pdSwitchOff (s : State) (n : Nat) : State := (s.beforeOff n).pdPut n false

/-- The standby supervisor switches domains off by itself (R257, R258, R268). -/
def State.pdAllOff (s : State) (l : List Nat) : State := l.foldl (fun s n => s.pdSwitchOff n) s

/-- The domain that powers an actuator's arm driver (R13). -/
def vcmDomain (x : Act) : Nat := if x.n < 2 then 25 else 26

/-- The stamps committed: the base entitlement and the commitments (R274, R276). -/
def State.committed (s : State) : Nat :=
  let b := s.books
  let o : Option Nat → Nat := fun c => c.getD 0
  s.get Reg.FRK_BOOK_LIM_BASE + o b.elec + o b.spinup + o b.atSpeed + o b.slow + o b.pmk +
    o b.act.a + o b.act.b + o b.act.c + o b.act.d + o b.seek.a + o b.seek.b + o b.seek.c + o b.seek.d

/-- The free stamps F = H − C (R276). -/
def State.freeStamps (s : State) : Nat := s.get Reg.FRK_PURSE_HOLD - s.committed

/-- FRK_PURSE COMMIT and port 0x98 follow the books (R276). -/
def State.noteBooks (s : State) : State := (s.set Reg.FRK_PURSE_COMMIT s.committed).putPortOut 0x98 s.committed

/-- Replace the books. -/
def State.putBooks (s : State) (b : Books) : State := { s with books := b }.noteBooks

/-- The cost of a seek of a class (R274). -/
def State.seekCost (s : State) (k : Nat) : Nat :=
  match k with
  | 0 => s.get Reg.FRK_COST_SEEK_C0
  | 1 => s.get Reg.FRK_COST_SEEK_C1
  | 2 => s.get Reg.FRK_COST_SEEK_C2
  | _ => s.get Reg.FRK_COST_SEEK_C3

/-- The highest class at or below `k` whose cost `f` covers (R277). -/
def State.classFor (s : State) (f : Nat) : Nat → Option Nat
  | 0 => if s.seekCost 0 ≤ f then some 0 else none
  | k + 1 => if s.seekCost (k + 1) ≤ f then some (k + 1) else State.classFor s f k

end Sys2Proof.Machine
end

