-- ==== Sys2Proof/Machine/Actuator.lean ====
section
/-!
DEFINITION. The actuator loops and the arm drivers (R191 to R218): the position error and the write inhibit, the messages and
their replies, seeks and pairing, head switches, loading and unloading, the emergency unload, the hardware retract, and the
preamp.
-/
namespace Sys2Proof.Machine

/-- The reply of an actuator loop (R200). -/
def State.areply (s : State) (x : Act) (tag type : Nat) (ws : List Nat) : State := s.reply (x.n + 1) tag type ws

/-- REFUSED with a reason (R200). -/
def State.refuse (s : State) (x : Act) (m : Motion) (reason : Nat) : State := s.areply x m.tag 0x87 [reason]

/-- The mode of a loop, kept in X16 + x (R197). -/
def State.setMode (s : State) (x : Act) (m : LoopMode) : State :=
  (s.putLp x { s.lp x with mode := m }).set (Reg.CRE_X (16 + x.n)) m.code

/-- The head and target of a loop, written to lane port +6 and kept in X20 + x (R195, R197). -/
def State.setTarget (s : State) (x : Act) (head track : Nat) : State :=
  let s := (s.putPortOut (lanePort x 6) (head % 8 * 2 ^ 29 + track % 2 ^ 24)).selectTarget x (head % 8) (track % 2 ^ 24)
  let s := s.putLp x { s.lp x with onCount := 0, onTrack := false }
  (s.set (Reg.CRE_X (20 + x.n)) (track % 2 ^ 24)).set (Reg.CH_STATUS_ON_TRACK x) 0

/-- Whether the arm driver's own write inhibit stands (R198, R199, R216). -/
def Loop.driverInhibit (l : Loop) : Bool := l.shock || l.paLow || l.retracting

/-- Whether writes of an actuator are inhibited, by the loop or by the driver (R198, R199). -/
def State.inhibited (s : State) (x : Act) : Bool := (s.lp x).wi || (s.lp x).driverInhibit

/-- The loop's write inhibit and on track, written to lane ports +4 and +5 (R198). -/
def State.setInhibit (s : State) (x : Act) (wi on : Bool) : State :=
  let s := s.putLp x { s.lp x with wi := wi, onTrack := on }
  ((s.putPortOut (lanePort x 4) (b2n wi)).putPortOut (lanePort x 5) (b2n on)).set (Reg.CH_STATUS_ON_TRACK x) (b2n on)

/-- Port +2 of the arm driver, written by the loop (R195). -/
def State.setRamp (s : State) (x : Act) (vel parked : Bool) (v : Nat) : State :=
  s.armWrite x 2 (b2n vel * 2 ^ 31 + b2n parked * 2 ^ 30 + v % 2 ^ 16)

/-- A head is in service: fitted, and not retired (R213, R217). -/
def State.headFitted (s : State) (x : Act) (h : Nat) : Bool := s.bit (Reg.ARM_HEADS_PRESENT x) h

/-- A head is retired: by a RETIRE message or by ARM_HEADS (R217). -/
def State.headRetired (s : State) (x : Act) (h : Nat) : Bool :=
  bitOf (s.lp x).retired h || s.bit (Reg.ARM_HEADS_RETIRED x) h

/-- The heads of an actuator still in service, lowest first (R217). -/
def State.liveHeads (s : State) (x : Act) : List Nat :=
  (List.range 8).filter fun h => s.headFitted x h && !s.headRetired x h

/-- The seek stamps of an actuator are released (R274, R278). -/
def State.freeSeek (s : State) (x : Act) : State :=
  if (s.books.seek.at x).isSome then s.putBooks { s.books with seek := s.books.seek.put x none } else s

/-- Whether the flying limit is met (R229): FLY_RPM, clamped to 2500 to 3500 rpm. -/
def State.flyRpm (s : State) : Nat := max 2500 (min 3500 (s.get Reg.SPN_SPEEDS_FLY_RPM))

/-- The measured spindle speed in 1/256 rpm (R229). -/
def State.speed (s : State) : Nat := s.get Reg.SPN_SPEED_SPEED

/-- The spindle is at or above the flying limit. -/
def State.flying (s : State) : Bool := 256 * s.flyRpm ≤ s.speed

/-- The reason a motion that comes to run is refused (R200, R213, R217), none where it is acted on. -/
def State.refusal (s : State) (x : Act) (m : Motion) : Option Nat :=
  let l := s.lp x
  match m.kind with
  | .unload => if l.mode == .dead then some 0x01 else if l.mode == .parked then some 0x04 else none
  | .load =>
    if l.mode == .dead then some 0x01
    else if s.headRetired x m.head then some 0x03
    else if s.flying && (s.get Reg.TCK_STATUS_SRC == 2 || s.pmk.degraded) && s.headFitted x m.head && l.mode == .parked
    then none else some 0x05
  | _ =>
    if l.mode == .dead then some 0x01
    else if l.mode == .parked || l.parked then some 0x04
    else if s.headRetired x m.head then some 0x03
    else if !s.headFitted x m.head then some 0x06
    else none

/-- The class a seek is approved for, and its cost is committed (R277, R278); throttle steps cap it at class 1 (R440).
False where the free stamps do not cover class 0: the seek waits in its loop. -/
def State.approve (s : State) (x : Act) : State × Bool :=
  match (s.lp x).cur with
  | none => (s, false)
  | some m =>
    let want := if 1 ≤ s.get Reg.THM_STATUS_STEP then min m.cls 1 else m.cls
    match s.classFor s.freeStamps want with
    | none => (s, false)
    | some k =>
      let s := if k != m.cls && !m.lowered then { s with krx := { s.krx with lowered := s.krx.lowered + 1 } } else s
      let m := { m with cls := k, lowered := m.lowered || k != m.cls, startAt := some (s.tick + 1) }
      ((s.putLp x { s.lp x with cur := some m }).putBooks
        { s.books with seek := s.books.seek.put x (some (s.seekCost k)) }, true)

/-- Whether a seek moves inward: toward higher track numbers. -/
def Loop.inward (l : Loop) (m : Motion) : Bool := l.track < m.track

/-- The partner a pairable seek finds (R206): a pairable seek of the opposite direction waiting on another actuator, the one
taken up earliest, on a tie the lowest letter. -/
def State.findPartner (s : State) (x : Act) (m : Motion) : Option Act :=
  (s.acts.foldl (fun (b : Option (Act × Nat)) y =>
    let l := s.lp y
    match l.cur with
    | some o =>
      if y != x && l.mode == .seekWait && l.partner.isNone && o.pairable && l.inward o != (s.lp x).inward m then
        match b with
        | some (_, t) => if o.taken < t then some (y, o.taken) else b
        | none => some (y, o.taken)
      else b
    | none => b) none).map (·.1)

/-- Two seeks form a pair (R206): each is the other's partner, kept in X28 + x. -/
def State.pair (s : State) (x y : Act) : State :=
  let mark (s : State) (x y : Act) : State :=
    let l := s.lp x
    (s.putLp x { l with partner := some y, cur := l.cur.map fun m => { m with paired := true } }).set
      (Reg.CRE_X (28 + x.n)) y.n
  mark (mark s x y) y x

/-- Approve the seek of an actuator, with its partner's in the same tick (R278); neither is approved where one cannot be. -/
def State.approvePair (s : State) (x : Act) : State :=
  match (s.lp x).partner with
  | none => (s.approve x).1
  | some y =>
    let a := s.approve x
    let b := a.1.approve y
    if a.2 && b.2 then b.1 else s

/-- A seek comes to run (R202, R206, R277). A pairable seek with no partner waits for one. -/
def State.beginSeek (s : State) (x : Act) (m : Motion) : State :=
  let s := s.putLp x { s.lp x with cur := some m, partner := none }
  if m.pairable then
    match s.findPartner x m with
    | some y => ((s.setMode x .seekWait).pair x y).approvePair x
    | none => s.setMode x .seekWait
  else s.approvePair x

/-- A head switch starts (R208): write inhibit and on track 0, and the head and target go to lane port +6. -/
def State.beginSwitch (s : State) (x : Act) (head track : Nat) : State :=
  ((s.setInhibit x true false).setTarget x head track).setMode x .switching

/-- A load starts (R213): its domain is asked of the rotation domain (R17), the driver is enabled, the coil resistance is
measured and posted, and the arm moves inward in velocity mode. -/
def State.beginLoad (s : State) (x : Act) (m : Motion) (rCoil : Nat) : State :=
  let s := (s.pdSwitchOn (vcmDomain x)).setMode x .loading
  let s := s.setAll [(Reg.ARM_CTRL_ENABLE x, 1), (Reg.ARM_STATUS_STATE x, 3), (Reg.ARM_COIL_R_COIL x, rCoil)]
  let m := { m with began := some s.tick }
  let s := s.putLp x { s.lp x with cur := some m, retracting := false, miss := 0, offset := 0, status := 0, valid := 0 }
  let s := s.putBooks { s.books with act := s.books.act.put x (some (s.get Reg.FRK_COST_MISC_ACT)) }
  (s.setTarget x m.head m.track).setRamp x true false (16 * s.get (Reg.ARM_VEL_LOAD_VEL x))

/-- Whether a load may start now (R213, R278): at most two actuators load at once, A and B before C and D, and the free
stamps cover the actuator. -/
def State.loadSlot (s : State) (x : Act) : Bool :=
  let loading := (s.acts.filter fun y => (s.lp y).mode == .loading).length
  let ahead := s.acts.any fun y =>
    y.n < 2 && 2 ≤ x.n && (match (s.lp y).cur with | some m => m.kind == .load && m.began.isNone | none => false)
  loading < 2 && !ahead && s.get Reg.FRK_COST_MISC_ACT ≤ s.freeStamps

/-- The arm climbs the ramp in velocity mode at UNLOAD_VEL (R214). -/
def State.climbRamp (s : State) (x : Act) : State :=
  (s.set (Reg.ARM_STATUS_STATE x) 3).setRamp x true false (65536 - 16 * s.get (Reg.ARM_VEL_UNLOAD_VEL x))

/-- The outermost data track of a surface (R214): tracks are numbered from it inward (DEDUCED; log 141). -/
def outermostTrack : Nat := 0

/-- The heads of a loop are on tracks: it follows, seeks or switches (R197). -/
def Loop.onTracks (l : Loop) : Bool :=
  match l.mode with
  | .follow => true
  | .seekWait => true
  | .seek => true
  | .switching => true
  | _ => false

/-- An unload starts (R214): heads on tracks seek to the outermost one at class 1 first; others go straight up the ramp. -/
def State.beginUnload (s : State) (x : Act) (m : Option Motion) : State :=
  let onTracks := (s.lp x).onTracks
  let s := (s.freeSeek x).setMode x .unloading
  let s := s.putLp x { s.lp x with cur := m, partner := none, offset := 0, offsetTag := none }
  let s := s.setInhibit x true false
  if onTracks then (((s.setTarget x (s.lp x).head outermostTrack).setRamp x false false 0).set (Reg.ARM_STATUS_STATE x) 2) else s.climbRamp x

/-- Run the motion that is next (R201): nothing while one is in progress, while the heads unload, or while a retract runs. A
refused motion is answered and the next one is judged. -/
def State.runNext (s : State) (x : Act) (rCoil : Nat) : Nat → State
  | 0 => s
  | n + 1 =>
    let l := s.lp x
    if l.cur.isSome || l.mode == .unloading || l.mode == .emergency || l.retracting then s
    else
      match l.waiting with
      | [] => s
      | m :: t =>
        let s := s.putLp x { l with waiting := t }
        match s.refusal x m with
        | some r => State.runNext (s.refuse x m r) x rCoil n
        | none =>
          match m.kind with
          | .unload => s.beginUnload x (some m)
          | .load =>
            if s.loadSlot x then s.beginLoad x m rCoil
            else s.putLp x { s.lp x with cur := some m }
          | .head =>
            (s.putLp x { s.lp x with cur := some { m with began := some s.tick }, offset := 0 }).beginSwitch x m.head m.track
          | .seek => (s.putLp x { s.lp x with offset := 0 }).beginSeek x m

/-- Begin a seek whose acceleration is due at this boundary (R202, R206, R278): mode SEEK, and the head and target go to the
lane. -/
def State.startSeek (s : State) (x : Act) : State :=
  match (s.lp x).cur with
  | some m =>
    if m.startAt == some s.tick && m.began.isNone then
      let s := s.putLp x { s.lp x with cur := some { m with began := some s.tick } }
      let s := (s.setInhibit x true false).setTarget x m.head m.track
      (s.set (Reg.ARM_STATUS_STATE x) 2).setMode x .seek
    else s
  | none => s

/-- A loop at a tick boundary: an approved seek starts, one that waits for stamps is tried again (R277), a load that waits for
its place is judged and tried again (R79, R213), and the watchdog of the arm driver counts (R216). -/
def State.loopTick (s : State) (x : Act) : State :=
  let s := s.startSeek x
  let s := match (s.lp x).cur with
    | some m =>
      if m.kind == MotionKind.seek && m.startAt.isNone && m.began.isNone && ((s.lp x).partner.isSome || !m.pairable) then
        s.approvePair x
      else if m.kind == MotionKind.head && m.seekUsed && m.startAt.isNone && m.began.isNone then s.approvePair x
      else if m.kind == MotionKind.load && m.began.isNone && s.loadSlot x then
        match s.refusal x m with
        | none => s.beginLoad x m (s.get (Reg.ARM_COIL_R_COIL x))
        | some r => (s.putLp x { s.lp x with cur := none }).refuse x m r
      else s
    | none => s.runNext x (s.get (Reg.ARM_COIL_R_COIL x)) 4
  let l := s.lp x
  s.putLp x { l with quiet := if l.parked then 0 else l.quiet + 1, graveTicks := l.graveTicks.map (· + 1) }

/-- The message a loop takes up, of a type: the head of its mailbox, which its running servo slice reads (R178, R200). -/
def State.takeMsg (s : State) (x : Act) (type : Nat) : Option Msg :=
  match s.headMsg (x.n + 1) with
  | some m => if m.type == type && s.sliceRuns (1 + x.n) then some m else none
  | none => none

/-- A motion message is taken up (R201): it stays in the mailbox while four motions are held; one that an unload or an
emergency unload in progress cancels is refused with 0x02, except a LOAD, which waits behind it (R213, R218). -/
def State.takeMotion (s : State) (x : Act) (m : Motion) (rCoil : Nat) : State :=
  let l := s.lp x
  if 4 ≤ l.waiting.length + b2n l.cur.isSome then s
  else
    let s := s.discard (x.n + 1)
    let l := s.lp x
    if (l.mode == .unloading || l.mode == .emergency) && m.kind != .load then s.refuse x m 0x02
    else
      let cancel := l.offsetTag.isSome
      let s := s.putLp x { l with waiting := l.waiting ++ [m], offsetTag := if cancel then none else l.offsetTag }
      s.runNext x rCoil 4

/-- SEEK (R200 to R203): the loop takes up the message at the head of its mailbox. -/
def execSeek (x : Act) (s : State) : Host.Outcome State Fault Refusal :=
  match s.takeMsg x 0x01 with
  | none => ok s
  | some m =>
    ok (s.takeMotion x ⟨.seek, m.tag, bitsOf (m.word 1) 31 29, bitsOf (m.word 1) 23 0, bitsOf (m.word 2) 1 0,
      bitOf (m.word 2) 2, s.tick, none, none, false, false, false⟩ 0)

/-- HEAD (R200, R208). -/
def execHead (x : Act) (s : State) : Host.Outcome State Fault Refusal :=
  match s.takeMsg x 0x02 with
  | none => ok s
  | some m =>
    ok (s.takeMotion x ⟨.head, m.tag, bitsOf (m.word 1) 31 29, bitsOf (m.word 1) 23 0, 1, false, s.tick, none, none, false,
      false, false⟩ 0)

/-- LOAD (R200, R213), with the coil resistance that its first step measures, in mΩ. -/
def execLoad (x : Act) (rCoil : Nat) (s : State) : Host.Outcome State Fault Refusal :=
  match s.takeMsg x 0x04 with
  | none => ok s
  | some m =>
    ok (s.takeMotion x ⟨.load, m.tag, bitsOf (m.word 1) 31 29, bitsOf (m.word 1) 23 0, 1, false, s.tick, none, none, false,
      false, false⟩ rCoil)

/-- Every waiting motion is refused with a reason (R201, R215, R216). -/
def State.refuseWaiting (s : State) (x : Act) (reason : Nat) : State :=
  let w := (s.lp x).waiting
  let s := s.putLp x { s.lp x with waiting := [] }
  w.foldl (fun s m => s.refuse x m reason) s

/-- The motion in progress ends with REFUSED (R201, R215). -/
def State.refuseCur (s : State) (x : Act) (reason : Nat) : State :=
  match (s.lp x).cur with
  | none => s
  | some m => ((s.putLp x { s.lp x with cur := none }).freeSeek x).refuse x m reason

/-- The partner of a seek that ends early starts or goes on alone (R207, R218). -/
def State.freePartner (s : State) (x : Act) : State :=
  match (s.lp x).partner with
  | none => s
  | some y =>
    let s := s.putLp x { s.lp x with partner := none }
    let l := s.lp y
    s.putLp y { l with partner := none, cur := l.cur.map fun m => { m with paired := false, pairable := false } }

/-- UNLOAD (R200, R201, R214): it cancels every waiting motion, ends the one in progress, and unloads from where the heads
are. -/
def execUnload (x : Act) (s : State) : Host.Outcome State Fault Refusal :=
  match s.takeMsg x 0x05 with
  | none => ok s
  | some m =>
    let u : Motion := ⟨.unload, m.tag, 0, 0, 1, false, s.tick, some s.tick, none, false, false, false⟩
    let s := s.discard (x.n + 1)
    if (s.lp x).mode == .emergency then ok (s.refuse x u 0x02)
    else
      let s := ((s.freePartner x).refuseCur x 0x02).refuseWaiting x 0x02
      match s.refusal x u with
      | some r => ok (s.refuse x u r)
      | none => ok (s.beginUnload x (some u))

/-- OFFSET (R200, R209): applied in the tick it is taken up. -/
def execOffset (x : Act) (s : State) : Host.Outcome State Fault Refusal :=
  match s.takeMsg x 0x03 with
  | none => ok s
  | some m =>
    let s := s.discard (x.n + 1)
    let l := s.lp x
    match l.mode with
    | .dead => ok (s.areply x m.tag 0x87 [0x01])
    | .follow | .seekWait | .seek | .switching =>
      let o := signed 32 (m.word 1)
      let s := s.putLp x { l with offset := o, offsetTag := some m.tag, onCount := 0 }
      ok (if o = 0 then s else s.setInhibit x true false)
    | _ => ok (s.areply x m.tag 0x87 [0x04])

/-- The heads of a mask leave service (R217): the loop never selects them again, their microactuators are driven to 0, and
RETIRED and HEAD_EN follow. Where the active head is among them the loop switches to the lowest head left, and a seek that
names one ends with FAULT 0x40; where none is left the actuator unloads and is dead. -/
def State.retire (s : State) (x : Act) (mask : Nat) : State :=
  let l := s.lp x
  let s := s.putLp x { l with retired := l.retired ||| (mask % 256), ma := l.ma.filter fun p => !bitOf mask p.1 }
  let s := s.set (Reg.ARM_HEADS_RETIRED x) (s.get (Reg.ARM_HEADS_RETIRED x) ||| (mask % 256))
  let s := (List.range 8).foldl (fun s h => if bitOf mask h then s.setBit (Reg.CH_CTRL_HEAD_EN x) h false else s) s
  let s := match (s.lp x).cur with
    | some m =>
      if bitOf mask m.head && (m.kind == MotionKind.seek || m.kind == MotionKind.head) then
        let s := (s.freePartner x).freeSeek x
        (s.putLp x { s.lp x with cur := none }).areply x m.tag 0x88 [0x40, (s.lp x).status]
      else s
    | none => s
  match s.liveHeads x with
  | [] => if (s.lp x).mode == LoopMode.parked then s.setMode x .dead else s.beginUnload x none
  | h :: _ =>
    let m := (s.lp x).mode
    if bitOf mask (s.lp x).head && (m == LoopMode.follow || m == LoopMode.seek || m == LoopMode.switching || m == LoopMode.seekWait) then
      s.beginSwitch x h (s.lp x).target
    else s

/-- RETIRE (R200, R217). -/
def execRetire (x : Act) (s : State) : Host.Outcome State Fault Refusal :=
  match s.takeMsg x 0x06 with
  | none => ok s
  | some m => ok ((s.discard (x.n + 1)).retire x (m.word 1 % 256))

/-- COEF (R200): the coefficient set of the calibration tables, 0 to 3. -/
def execCoef (x : Act) (s : State) : Host.Outcome State Fault Refusal :=
  match s.takeMsg x 0x07 with
  | none => ok s
  | some m =>
    let s := s.discard (x.n + 1)
    if m.word 1 < 4 then ok (s.putLp x { s.lp x with coef := m.word 1 }) else ok (s.areply x m.tag 0x87 [0x06])

/-- The wait of a pairable seek ends without a partner after PAIR_WAIT ticks (R206): it starts alone. -/
def execPairWaitExpiry (x : Act) (s : State) : Host.Outcome State Fault Refusal :=
  let l := s.lp x
  match l.cur with
  | some m =>
    if l.mode == .seekWait && l.partner.isNone && m.taken + s.cal.pairWait ≤ s.tick then
      ok ((s.putLp x { l with cur := some { m with pairable := false } }).approvePair x)
    else ok s
  | none => ok s

/-- A motion ends on track (R202, R208): mode FOLLOW, inhibit off, on track. -/
def State.landed (s : State) (x : Act) : State :=
  let s := s.putLp x { s.lp x with cur := none, partner := none, track := (s.lp x).target }
  (s.setMode x .follow).setInhibit x (s.lp x).driverInhibit true

/-- The on-track condition of R198 holds, and no inhibit of the driver stands. -/
def State.onTrackNow (s : State) (x : Act) : Bool :=
  s.cal.onWedges ≤ (s.lp x).onCount && !(s.lp x).driverInhibit

/-- A seek is on track (R202): SEEK_DONE, or HEAD_DONE with SEEK_USED for a head switch that went on as a seek (R208). -/
def execSeekDone (x : Act) (s : State) : Host.Outcome State Fault Refusal :=
  let l := s.lp x
  match l.cur with
  | some m =>
    if l.mode == .seek && s.onTrackNow x then
      let ticks := s.tick - m.began.getD s.tick
      let s := (s.landed x).freeSeek x
      let s := if m.kind == .head then s.areply x m.tag 0x82 [s.tick - m.taken, 1]
        else s.areply x m.tag 0x81 [ticks, b2n m.paired + 2 * b2n m.lowered]
      ok (s.runNext x 0 4)
    else ok s
  | none => ok s

/-- The table time of a seek in µs (R204): from its class and length, stretched where the class's peak current exceeds
I_LIMIT. -/
def State.tableUs (s : State) (x : Act) (cls d : Nat) : Nat :=
  let t := s.cal.third.getD cls 0
  let f := s.cal.full.getD cls 0
  let stroke := max 3 s.cal.stroke
  let base := if 3 * d ≤ stroke then t else t + (f - t) * (3 * d - stroke) / (2 * stroke)
  let peak := [400, 800, 1400, 2000].getD cls 2000
  let lim := 10 * s.get (Reg.ARM_VCM_CFG_I_LIMIT x)
  if lim < peak && 0 < lim then Nat.sqrt (base * base * peak / lim) else base

/-- A seek has not settled within twice its table time from its first acceleration, or within 64 ticks of its profile's
arrival (R204): FAULT 0x10, and the loop follows whatever track it holds with writes inhibited until on track. -/
def execSeekSettleTimeout (x : Act) (sinceArrival : Nat) (s : State) : Host.Outcome State Fault Refusal :=
  let l := s.lp x
  match l.cur with
  | some m =>
    let d := if l.track < m.track then m.track - l.track else l.track - m.track
    let ticks := s.tick - m.began.getD s.tick
    if l.mode == .seek && (64 ≤ sinceArrival || 2000 * s.tableUs x m.cls d ≤ ticks * s.tickNs) then
      let s := (s.freePartner x).freeSeek x
      let s := s.putLp x { s.lp x with cur := none, track := bitsOf (s.lp x).status 23 0 }
      let s := (s.setMode x .follow).setInhibit x true false
      ok ((s.areply x m.tag 0x88 [0x10, (s.lp x).status]).runNext x 0 4)
    else ok s
  | none => ok s

/-- A head switch is on track (R208): HEAD_DONE. -/
def execHeadSwitchDone (x : Act) (s : State) : Host.Outcome State Fault Refusal :=
  let l := s.lp x
  if l.mode == .switching && s.onTrackNow x then
    let s := s.landed x
    match l.cur with
    | some m => ok ((s.areply x m.tag 0x82 [s.tick - m.began.getD s.tick, 0]).runNext x 0 4)
    | none => ok (s.runNext x 0 4)
  else ok s

/-- A head switch has not reached on track within 24 ticks (R208): it goes on as a class-1 seek to the same target. -/
def execHeadSwitchTimeout (x : Act) (s : State) : Host.Outcome State Fault Refusal :=
  let l := s.lp x
  match l.cur with
  | some m =>
    if l.mode == .switching && m.began.getD s.tick + 24 ≤ s.tick then
      let m := { m with cls := 1, seekUsed := true, began := none, startAt := none, pairable := false }
      ok ((s.putLp x { l with cur := some m, partner := none }).approvePair x)
    else ok s
  | none => ok s

/-- The on-track condition holds about the offset position (R209): OFFSET_DONE. Writes stay inhibited while the offset is
not 0. -/
def execOffsetDone (x : Act) (s : State) : Host.Outcome State Fault Refusal :=
  let l := s.lp x
  match l.offsetTag with
  | some t =>
    if l.mode == .follow && s.onTrackNow x then
      let s := s.putLp x { l with offsetTag := none }
      ok ((s.setInhibit x (l.offset != 0) (l.offset == 0)).areply x t 0x83 [unsigned 32 l.offset])
    else ok s
  | none => ok s

/-- A load is on track at its landing track (R213): LOADED. -/
def execLoadLanded (x : Act) (s : State) : Host.Outcome State Fault Refusal :=
  let l := s.lp x
  match l.cur with
  | some m =>
    if l.mode == .loading && s.onTrackNow x then
      let s := (s.setRamp x false false 0).set (Reg.ARM_STATUS_STATE x) 2
      ok (((s.landed x).areply x m.tag 0x84 [s.tick - m.began.getD s.tick]).runNext x 0 4)
    else ok s
  | none => ok s

/-- A load has not left the ramp within 80 ms (R213): it is abandoned, the loop unloads, and FAULT 0x30 is replied. -/
def execLoadTimeout (x : Act) (s : State) : Host.Outcome State Fault Refusal :=
  let l := s.lp x
  match l.cur with
  | some m =>
    let ms := (s.tick - m.began.getD s.tick) * s.tickNs / 1000000
    if l.mode == .loading && m.began.isSome && !bitOf l.status 31 && 80 ≤ ms then ok ((s.beginUnload x none).areply x m.tag 0x88 [0x30, l.status]) else ok s
  | none => ok s

/-- The heads of an actuator are latched: PARKED in port +2, mode PARKED, or DEAD where no head is left in service (R197,
R214, R217). Where the tick came from the servo wedges and no heads fly now, the source becomes free (R84). -/
def State.parkLoop (s : State) (x : Act) : State :=
  let s := s.putLp x { s.lp x with cur := none, partner := none, retracting := false, vel := false, parked := true,
                                   graveTicks := none, quiet := 0, emTrigger := none, emHard := false, offset := 0 }
  let s := (s.putPortOut (armPort x 2) (2 ^ 30)).set (Reg.CRE_X (8 + x.n)) 0
  let s := (s.setMode x (if (s.liveHeads x).isEmpty then .dead else .parked)).set (Reg.ARM_STATUS_STATE x) 5
  let s := s.setInhibit x true false
  if s.get Reg.TCK_STATUS_SRC == 3 && !s.headsOff then
    { (s.set Reg.TCK_STATUS_SRC 0).set Reg.TCK_STATUS_WR_HOLD 1 with tck := { s.tck with toWedge := none } }
  else s

/-- The heads are latched after an unload (R214): UNLOADED. -/
def execUnloadLatched (x : Act) (s : State) : Host.Outcome State Fault Refusal :=
  let l := s.lp x
  if l.mode == .unloading then
    let s := s.parkLoop x
    let s := match l.cur with
      | some m => s.areply x m.tag 0x85 []
      | none => s
    ok (s.runNext x (s.get (Reg.ARM_COIL_R_COIL x)) 4)
  else ok s

/-- An actuator is loaded: off its ramp, and not already in an emergency unload (R215). -/
def State.loaded (s : State) (x : Act) : Bool :=
  let m := (s.lp x).mode
  m != .parked && m != .dead && m != .emergency

/-- An emergency unload of one actuator (R215): write inhibit, mode EMERGENCY, every motion refused with 0x02, and the arm
outward at EM_VEL. It stops every injection channel (R186). -/
def State.emUnload (s : State) (x : Act) (trigger : Nat) : State :=
  if s.loaded x && s.fitted x then
    let s := ((s.freePartner x).refuseCur x 0x02).refuseWaiting x 0x02
    let s := (s.stopAllInj).setInhibit x true false
    let s := s.putLp x { s.lp x with emTrigger := some trigger, emHard := false, offset := 0, offsetTag := none }
    let s := (s.setMode x .emergency).set (Reg.ARM_STATUS_STATE x) 3
    s.setRamp x true false (65536 - 16 * s.get (Reg.ARM_VEL_EM_VEL x))
  else s

/-- An emergency unload of every loaded actuator (R215). -/
def State.emUnloadAll (s : State) (trigger : Nat) : State :=
  s.acts.foldl (fun s x => s.emUnload x trigger) s.stopAllInj

/-- EMERGENCY_UNLOAD (R215): triggers 0x1 to 0x4 unload every loaded actuator, 0x5 and 0x6 the one named. Trigger 0x6 closes
the loop's level-3 fault as raised and delivers it one level up (R447). -/
def execEmergencyUnload (trigger : Nat) (x : Act) (s : State) : Host.Outcome State Fault Refusal :=
  if trigger = 0 || 6 < trigger then ok s
  else if trigger ≤ 4 then ok (s.emUnloadAll trigger)
  else if trigger = 6 then
    match s.desk.recs.find? fun p => p.2.level == 3 && p.2.st == 1 && p.2.dom == x.n with
    | some p =>
      let s := (s.closeRec p.1 3 4).capture ⟨p.2.source, p.2.code, 4, 1, p.2.addr, p.2.info, p.2.dom, p.2.injected⟩
      ok (s.emUnload x trigger)
    | none => ok (s.emUnload x trigger)
  else ok (s.emUnload x trigger)

/-- No valid servo wedge for 32 consecutive wedges in FOLLOW, SEEK or SWITCH (R215): trigger 0x5. -/
def execServoWedgeLoss (x : Act) (s : State) : Host.Outcome State Fault Refusal :=
  let l := s.lp x
  if 32 ≤ l.miss && (l.mode == .follow || l.mode == .seek || l.mode == .switching) then ok (s.emUnload x 0x5) else ok s

/-- After a declaration with the flush done, and every data head latched (R258, R268): every switched domain goes off, the LLC stops, and
PHASE becomes flushed. -/
def State.flushedOut (s : State) : State :=
  ({ s.pdAllOff (List.range 30) with pwr := { s.pwr with llc := false } }).setAll [(Reg.PWR_STATUS_PHASE, 4), (Reg.PWR_STATUS_LLC_IDLE, 1)]

/-- What goes off once every data head is latched after a declaration (R257, R258). -/
def State.latchedAfterDeclaration (s : State) : State :=
  if s.get Reg.PWR_STATUS_PHASE == 3 && !s.headsOff then
    let s := s.pdAllOff [11, 25, 26]
    if s.pwr.flushing then s else s.flushedOut
  else s

/-- The heads are latched after an emergency unload (R215): EM_UNLOADED with the trigger. -/
def execEmUnloadLatched (x : Act) (s : State) : Host.Outcome State Fault Refusal :=
  let l := s.lp x
  match l.mode, l.emTrigger with
  | .emergency, some t =>
    let s := (s.parkLoop x).areply x 0 0x86 [t, b2n l.emHard]
    ok ((s.latchedAfterDeclaration).runNext x (s.get (Reg.ARM_COIL_R_COIL x)) 4)
  | _, _ => ok s

/-- The arm driver retracts without the engine (R216): writes inhibited, the cause told, every waiting motion refused. -/
def State.hwRetract (s : State) (x : Act) (wd oc : Bool) : State :=
  let l := s.lp x
  if l.parked || l.retracting || !s.fitted x then s
  else
    let s := if wd then s.set (Reg.ARM_STATUS_WD_EXPIRED x) 1 else s
    let s := if oc then s.set (Reg.ARM_STATUS_OVERCURRENT x) 1 else s
    let s := (s.set (Reg.ARM_STATUS_STATE x) 4).inc (Reg.ARM_COUNTS_RETRACTS x)
    let s := s.putLp x { l with retracting := true, emHard := l.emTrigger.isSome }
    s.refuseWaiting x 0x02

/-- A hardware retract (R216) for a low drive bus, in mV, a coil current in mA above I_LIMIT by 20 % for 10 µs, or a grave
fault with no outward velocity command within 2 ticks. -/
def execHardwareRetract (x : Act) (busMv coilMa coilUs : Nat) (s : State) : Host.Outcome State Fault Refusal :=
  let l := s.lp x
  let oc := 12 * s.get (Reg.ARM_VCM_CFG_I_LIMIT x) < coilMa && 10 ≤ coilUs
  let gv := match l.graveTicks with
    | some t => 2 ≤ t
    | none => false
  if busMv < 16000 || oc || gv then ok (s.hwRetract x gv oc) else ok s

/-- RETRACT written 1 (R216, R219). -/
def execRetract (i : Initiator) (x : Act) (s : State) : Host.Outcome State Fault Refusal :=
  ok (s.access i x.armBase 4 fun s => { s.hwRetract x false false with bus := .written })

/-- The command watchdog (R216): no write has reached port +0 or +2 for RETRACT_WD ticks, where 0 acts as 1. -/
def execRetractWatchdog (x : Act) (s : State) : Host.Outcome State Fault Refusal :=
  let l := s.lp x
  if max 1 (s.get (Reg.ARM_VCM_CFG_RETRACT_WD x)) ≤ l.quiet && !l.parked then ok (s.hwRetract x true false) else ok s

/-- A hardware retract ended (R216): RETRACTED is set, the loop answers the motion in progress with FAULT 0x50 unless the
emergency unload answered it, EM_UNLOADED reports HARDWARE where a trigger stood, and the mode becomes PARKED. -/
def execRetractEnd (x : Act) (s : State) : Host.Outcome State Fault Refusal :=
  let l := s.lp x
  if l.retracting then
    let s := s.set (Reg.ARM_STATUS_RETRACTED x) 1
    let s := match l.cur with
      | some m => ((s.freePartner x).freeSeek x).areply x m.tag 0x88 [0x50, l.status]
      | none => s
    let s := match l.emTrigger with
      | some t => s.areply x 0 0x86 [t, 1]
      | none => s
    ok ((s.parkLoop x).latchedAfterDeclaration)
  else ok s

/-- The shock sensor crossed the threshold (R199), in 1/16 g: SHOCK is set and the driver inhibits writes. -/
def execShockDetected (x : Act) (level : Nat) (s : State) : Host.Outcome State Fault Refusal :=
  if s.get (Reg.ARM_SHOCK_SHOCK_WI x) < level && s.fitted x then
    ok ((s.set (Reg.ARM_STATUS_SHOCK x) 1).putLp x { s.lp x with shock := true, onTrack := false })
  else ok s

/-- 2 ms have passed since the shock signal fell below the threshold (R199): the driver's inhibit for it ends. -/
def execShockInhibitEnd (x : Act) (s : State) : Host.Outcome State Fault Refusal :=
  ok (s.putLp x { s.lp x with shock := false })

/-- PA_FLT_N falls (R212): PA_FAULT and the count, the inhibit, the fault status where the preamp map names its address, and
the reply FAULT 0x20. -/
def execPreampFault (x : Act) (status : Nat) (s : State) : Host.Outcome State Fault Refusal :=
  if s.fitted x && !(s.lp x).paLow then
    let s := (s.set (Reg.ARM_STATUS_PA_FAULT x) 1).inc (Reg.ARM_COUNTS_PA_FAULTS x)
    let s := match s.cal.faultStatus with
      | some a => (s.emit (.aspFrame x true a 0)).set (Reg.ARM_PA_FAULT_STATUS x) status
      | none => s.set (Reg.ARM_PA_FAULT_STATUS x) 0
    let s := s.putLp x { s.lp x with paLow := true, paSinceNs := s.clockNs, onTrack := false }
    ok (s.areply x 0 0x88 [0x20, (s.lp x).status])
  else ok s

/-- PA_FLT_N rises again (R199, R212): the inhibit for it ends. -/
def execPreampFaultClear (x : Act) (s : State) : Host.Outcome State Fault Refusal :=
  ok (s.putLp x { s.lp x with paLow := false })

/-- A frame of the arm serial port (R211): firmware writes ARM_ASP_CMD with GO. A write to the head-select address is
refused and ASP_DENIED is set. The frame is sent while the write gate is low; GO reads 1 until then. A read returns what the
preamp drives. -/
def execAspFrameSend (i : Initiator) (x : Act) (rd : Bool) (addr data returned : Nat) (s : State) :
    Host.Outcome State Fault Refusal :=
  ok (s.access i (x.armBase + 0x10) 4 fun s =>
    let s := { s with bus := .written }
    let s := s.setAll [(Reg.ARM_ASP_CMD_RD x, b2n rd), (Reg.ARM_ASP_CMD_ADDR x, addr), (Reg.ARM_ASP_CMD_DATA x, data)]
    if !rd && addr % 128 == s.cal.headSelect then (s.set (Reg.ARM_STATUS_ASP_DENIED x) 1).set (Reg.ARM_ASP_CMD_GO x) 0
    else if s.on (Reg.CH_STATUS_WR_GATE x) then
      (s.set (Reg.ARM_ASP_CMD_GO x) 1).putLp x { s.lp x with aspQueue := returned + 1 }
    else
      let s := (s.emit (.aspFrame x rd (addr % 128) (if rd then 0 else data % 65536))).set (Reg.ARM_ASP_CMD_GO x) 0
      if rd then s.set (Reg.ARM_ASP_CMD_DATA x) returned else s)

/-- A frame that waited for the write gate is sent once it is low (R211). -/
def State.aspTick (s : State) (x : Act) : State :=
  let l := s.lp x
  if 0 < l.aspQueue && !s.on (Reg.CH_STATUS_WR_GATE x) then
    let rd := s.on (Reg.ARM_ASP_CMD_RD x)
    let s := s.emit (.aspFrame x rd (s.get (Reg.ARM_ASP_CMD_ADDR x)) (if rd then 0 else s.get (Reg.ARM_ASP_CMD_DATA x)))
    let s := (s.set (Reg.ARM_ASP_CMD_GO x) 0).putLp x { l with aspQueue := 0 }
    if rd then s.set (Reg.ARM_ASP_CMD_DATA x) (l.aspQueue - 1) else s
  else s

/-- A microactuator's drive has been at MA_VMAX for more than 16 consecutive wedges (R210): a level-3 fault of its domain. -/
def execMicroactuatorSaturation (x : Act) (s : State) : Host.Outcome State Fault Refusal :=
  if 16 < (s.lp x).sat then
    let k := 8 * x.n + (s.lp x).head
    let v := sGet s.cons.satHeads k 0
    let s := { s with cons := { s.cons with satHeads := sPut s.cons.satHeads k (if v % 2 = 1 then v else v + 3) 0 } }
    ok (s.fault 3 (0x21 + x.n) 0x09 (s.lp x).head 0x20)
  else ok s

end Sys2Proof.Machine
end

