-- ==== Sys2Proof/Machine/Bags.lean ====
section
/-!
DEFINITION. The buffer pool manager (R408 to R411), the pigeonhole cache (R412 to R416), and the checks of the DRAM with its
redirect slips and the injections by inverted check bits (R421, R422, R450), as the memory commands and the engines use them.
-/
namespace Sys2Proof.Machine

/-- The bags of a pool (R408). -/
def poolBags (n : Nat) : Nat :=
  match n with
  | 0 => 262144
  | 1 => 16384
  | 2 => 16384
  | _ => 4096

/-- The bytes of a bag of a pool (R408). -/
def poolBytes (n : Nat) : Nat :=
  match n with
  | 0 => 2 ^ 12
  | 1 => 2 ^ 16
  | 2 => 2 ^ 18
  | _ => 2 ^ 20

/-- The pool a handle names, bits [31:30] (R408). -/
def bagPool (h : Nat) : Nat := bitsOf h 31 30

/-- The handle of bag `i` of a pool. -/
def bagHandle (pool i : Nat) : Nat := pool * 2 ^ 30 + i

/-- Whether a handle names a bag: its reserved bits are 0 and its index lies in its pool (R408). -/
def bagNamed (h : Nat) : Bool := bitsOf h 29 18 == 0 && bitsOf h 17 0 < poolBags (bagPool h)

/-- The handle that names no bag (R408). -/
def noBag : Nat := 0xFFFFFFFF

/-- The DRAM address of a bag (R408, R430). -/
def State.bagAddr (s : State) (h : Nat) : Nat :=
  let n := bagPool h
  s.get (Reg.BPM_POOL_BASE_LO_BASE n) / 2 ^ 20 * 2 ^ 20 + 2 ^ 32 * s.get (Reg.BPM_POOL_BASE_HI_BASE n) +
    bitsOf h 17 0 * poolBytes n

/-- The owners of a bag (R410). -/
def State.owners (s : State) (h : Nat) : Nat := sGet s.bags.owners h 0

/-- Whether a bag is free: no owner, and not retired. -/
def State.bagFree (s : State) (h : Nat) : Bool := s.owners h == 0 && !s.bags.retired.contains h

/-- The bags of a pool that are not free. -/
def State.bagsOut (s : State) (n : Nat) : Nat :=
  (s.bags.owners.filter fun p => bagPool p.1 == n).length + (s.bags.retired.filter fun h => bagPool h == n).length

/-- The free bags of a pool, none before the pools are set up (R411, R428). -/
def State.poolFree (s : State) (n : Nat) : Nat := if s.bags.up then poolBags n - s.bagsOut n else 0

/-- BPM_FREEn follows a pool. -/
def State.bpmRefresh (s : State) (n : Nat) : State :=
  (s.set (Reg.BPM_FREE_FREE n) (s.poolFree n)).set (Reg.BPM_FREE_RETIRED n)
    (s.bags.retired.filter fun h => bagPool h == n).length

/-- Replace the owners of a bag. -/
def State.setOwners (s : State) (h k : Nat) : State :=
  { s with bags := { s.bags with owners := sPut s.bags.owners h k 0 } }.bpmRefresh (bagPool h)

/-- The free bag of a pool that the manager hands out: that of index `pick` where it is free, else the lowest; none where the pool
is empty. Handles are given out in no guaranteed order (R409). -/
def State.pickBag (s : State) (n pick : Nat) : Option Nat :=
  if s.poolFree n = 0 then none
  else if pick < poolBags n && s.bagFree (bagHandle n pick) then some (bagHandle n pick)
  else (((List.range (s.bagsOut n + 1)).map (bagHandle n)).find? fun h => bagNamed h && s.bagFree h)

/-- Take a bag of pool `n`, or with FALLBACK of the next larger pool that has one (R409). -/
def State.bagAlloc (s : State) (n pick : Nat) : State × Option Nat :=
  let pools := if s.bit Reg.BPM_CTRL_FALLBACK n then [n, n + 1, n + 2, n + 3].filter (· < 4) else [n]
  match (pools.filterMap fun k => s.pickBag k pick).head? with
  | some h => (s.setOwners h 1, some h)
  | none => ((s.inc (Reg.BPM_FREE_EMPTY n)).setBit Reg.BPM_INT_EMPTY n true, none)

/-- A release or share that changes nothing: BAD_OP, and told to the returns desk (R410, R475). -/
def State.badBag (s : State) (h from_ : Nat) : State :=
  (s.set Reg.BPM_INT_BAD_OP 1).event 0x60 0x02 h from_

/-- A release (R410): the last owner's returns the bag, or retires it where its memory could not be given a slip (R411). -/
def State.bagRelease (s : State) (h from_ : Nat) : State :=
  if !bagNamed h || s.owners h == 0 then s.badBag h from_
  else
    let s' := s.setOwners h (s.owners h - 1)
    if s'.owners h == 0 && s'.bags.marked.contains h then
      { s' with bags := { s'.bags with marked := s'.bags.marked.erase h, retired := s'.bags.retired ++ [h] } }.bpmRefresh
        (bagPool h)
    else s'

/-- A share (R410). -/
def State.bagShare (s : State) (h from_ : Nat) : State :=
  if !bagNamed h || s.owners h == 0 || s.owners h == 15 then s.badBag h from_ else s.setOwners h (s.owners h + 1)

/-- Release several bags. -/
def State.bagReleaseAll (s : State) (l : List Nat) (from_ : Nat) : State := l.foldl (fun s h => s.bagRelease h from_) s

/-- BPM_ALLOC: a read of BPM_ALLOCn takes a bag or gives 0xFFFF_FFFF (R409). -/
def execBpmAlloc (i : Initiator) (n pick : Nat) (s : State) : Host.Outcome State Fault Refusal :=
  ok (s.access i (0x40600040 + 4 * (n % 4)) 4 fun s =>
    let r := s.bagAlloc (n % 4) pick
    { r.1 with bus := .read (r.2.getD noBag) })

/-- BPM_RELEASE (R410). -/
def execBpmRelease (i : Initiator) (h : Nat) (s : State) : Host.Outcome State Fault Refusal :=
  ok (s.access i 0x40600050 4 fun s => { s.bagRelease h (initiatorCode i) with bus := .written })

/-- BPM_SHARE (R410). -/
def execBpmShare (i : Initiator) (h : Nat) (s : State) : Host.Outcome State Fault Refusal :=
  ok (s.access i 0x40600054 4 fun s => { s.bagShare h (initiatorCode i) with bus := .written })

/-- The window that rules an address (R413): the lowest-numbered that covers it. -/
def State.phcWindow (s : State) (a : Nat) : Option Nat :=
  (List.range 4).find? fun n =>
    s.get (Reg.PHC_WIN_BASE_ADDR n) * 4096 ≤ a && a < (s.get (Reg.PHC_WIN_LIM_ADDR n) + 1) * 4096

/-- The policy of an address (R413): 0 outside every window, and while the cache is not in use. -/
def State.phcPolicy (s : State) (a : Nat) : Nat :=
  if !s.on Reg.PHC_CTRL_ENABLE || !s.pdOn 21 then 0
  else match s.phcWindow a with
    | some n => s.get (Reg.PHC_WIN_BASE_POLICY n)
    | none => 0

/-- The way a pseudo-LRU tree gives up next (R412). -/
def plruVictim (tree : Nat) : Nat :=
  let step (n : Nat) : Nat := 2 * n + b2n (bitOf tree n)
  step (step (step (step 1))) - 16

/-- How soon a tree gives up a way: 0 the first, 15 the last (R412): at each node of its path, whether the tree points the other way. -/
def plruRank (tree way : Nat) : Nat :=
  let leaf := 16 + way
  let away (n child : Nat) : Nat := b2n (bitOf tree n != (child % 2 == 1))
  8 * away (leaf / 16) (leaf / 8) + 4 * away (leaf / 8) (leaf / 4) + 2 * away (leaf / 4) (leaf / 2) + away (leaf / 2) leaf

/-- The tree after a use of a way: every node on the way to it points the other way. -/
def plruUse (tree way : Nat) : Nat :=
  let leaf := 16 + way
  [leaf / 16, leaf / 8, leaf / 4, leaf / 2].foldl
    (fun t n =>
      let child := if n = leaf / 16 then leaf / 8 else if n = leaf / 8 then leaf / 4 else if n = leaf / 4 then leaf / 2 else leaf
      setBit t n (child % 2 == 0)) tree

/-- A set of the cache. -/
def State.phcSet (s : State) (k : Nat) : PhcSet := sGet s.mem.sets k ⟨[], 0⟩

/-- A line of the cache is read or written (R24, R450): an armed injection acts on a write; a line with one inverted check bit is
corrected and told, one with two is told as not correctable. -/
def State.phcEcc (s : State) (line : Nat) (write : Bool) : State :=
  if write then s.injWrite 2 (line * 128) 128 else s.sramRead 2 (line * 128) 128 0x61

/-- Replace the memory side's own state. -/
def State.putMem (s : State) (m : Mem) : State := { s with mem := m }

/-- The way of its set that holds a line. -/
def State.phcWay (s : State) (line : Nat) : Option (Nat × PhcLine) := (s.phcSet (line % 4096)).ways.find? fun p => p.2.line == line

/-- The victim buffer's entry of a line (R415). -/
def State.victimOf (s : State) (line : Nat) : Option Victim := s.mem.victims.find? fun v => v.line == line

/-- Whether the cache or its victim buffer holds a line: a request of a core, SOF or CNS does not read it from DRAM (R412, R415). -/
def State.phcHolds (s : State) (line : Nat) : Bool := (s.phcWay line).isSome || (s.victimOf line).isSome

/-- Whether a class-B read of a line is served from the cache or its victim buffer (R413, R415, R429): it stands dirty there. -/
def State.phcOwns (s : State) (line : Nat) : Bool :=
  (s.phcWay line).any (fun p => p.2.dirty) || (s.victimOf line).any fun v => !v.taken

/-- The slips (R422). -/
def slipNumbers : List (Fin 16) := [0, 1, 2, 3, 4, 5, 6, 7, 8, 9, 10, 11, 12, 13, 14, 15]

/-- The slip that redirects a block (R422), by the registers that show it. -/
def State.slipOf (s : State) (block : Nat) : Option (Fin 16) :=
  slipNumbers.find? fun n => s.on (Reg.MEM_SLIP_VALID n.val) && s.get (Reg.MEM_SLIP_BLOCK n.val) == block

/-- SLIPS_FREE in SYS_SPARES and in MEM_SLIP_CTRL (R422, R428). -/
def State.slipCount (s : State) : State :=
  let free := (slipNumbers.filter fun n => !s.on (Reg.MEM_SLIP_VALID n.val)).length
  (s.set Reg.SYS_SPARES_SLIPS_FREE free).set Reg.MEM_SLIP_CTRL_SLIPS_FREE free

/-- The slips that the strongroom keeps are restored at start (R49 step 3, R422): each as its number with twice its block and whether it is
poisoned. -/
def State.restoreSlips (s : State) : State :=
  (s.mem.slips.foldl (fun (s : State) p =>
    s.setAll [(Reg.MEM_SLIP_VALID p.1, 1), (Reg.MEM_SLIP_POISON p.1, p.2 % 2), (Reg.MEM_SLIP_BLOCK p.1, p.2 / 2)]) s).slipCount

/-- A block is given a slip, poisoned or not (R421, R422). Where none is left, the bag that holds the block is to be retired
(R411). Answers the slip. -/
def State.giveSlip (s : State) (block : Nat) (poison : Bool) : State × Option (Fin 16) :=
  match s.slipOf block with
  | some n => (if poison then s.set (Reg.MEM_SLIP_POISON n.val) 1 else s, some n)
  | none =>
    match slipNumbers.find? fun n => !s.on (Reg.MEM_SLIP_VALID n.val) with
    | some n =>
      let s := s.setAll [(Reg.MEM_SLIP_VALID n.val, 1), (Reg.MEM_SLIP_POISON n.val, b2n poison), (Reg.MEM_SLIP_BLOCK n.val, block)]
      let s := { s.slipCount with mem := { s.mem with unsaved := true } }
      (s.ledger 0x0040 [3, n.val, s.get Reg.MEM_SLIP_CTRL_SLIPS_FREE, 0, 0, 0, 0], some n)
    | none =>
      let hit := s.bags.owners.filter fun p => s.bagAddr p.1 ≤ block * 64 && block * 64 < s.bagAddr p.1 + poolBytes (bagPool p.1)
      let new := (hit.map (·.1)).filter fun h => !s.bags.marked.contains h
      ({ s with bags := { s.bags with marked := s.bags.marked ++ new } }, none)

/-- Give up a slip. -/
def State.dropSlip (s : State) (n : Fin 16) : State :=
  let s := s.setAll [(Reg.MEM_SLIP_VALID n.val, 0), (Reg.MEM_SLIP_POISON n.val, 0), (Reg.MEM_SLIP_BLOCK n.val, 0)]
  { s.slipCount with mem := { s.mem with unsaved := true } }

/-- A memory error as the desk captures it: source MEM, level 1 (R475), marked where an injection caused it (R450). -/
def State.memReport (s : State) (code addr : Nat) (injected : Bool) : State :=
  s.capture ⟨0x63, code, 1, 0, addr, 0, domainOf 0x63, injected⟩

/-- The controller meets a word in error on a read (R421): corrected and written back, a slip where the read-back is in error too, a
poisoned slip where the word cannot be corrected. A block held by a slip is not read from DRAM. -/
def State.eccWord (s : State) (e : EccErr) (injected : Bool) : State :=
  let block := e.addr / 64
  if e.bits = 0 || (s.slipOf block).isSome then s
  else
    let last (s : State) (kind : Nat) : State := (s.set Reg.MEM_ECC_LAST_KIND kind).set Reg.MEM_ECC_LAST_BLOCK block
    if 3 ≤ e.bits then
      let r := (last (s.inc Reg.MEM_ECC_CNT_UNCORR) 4).giveSlip block true
      let s := if injected then { r.1 with mem := { r.1.mem with injSlips := r.2.toList ++ r.1.mem.injSlips } } else r.1
      s.memReport 0x04 e.addr injected
    else
      let s := if e.bits = 1 then last (s.inc Reg.MEM_ECC_CNT_CORR1) 1 else last (s.inc Reg.MEM_ECC_CNT_CORR2) 2
      let s := s.memReport 0x03 e.addr injected
      if e.hard then
        let r := (last (s.inc Reg.MEM_ECC_CNT_HARD) 3).giveSlip block false
        if injected then { r.1 with mem := { r.1.mem with injSlips := r.2.toList ++ r.1.mem.injSlips } } else r.1
      else s

/-- A read of a range by a unit: the words in error it meets, those the world brings and those an injection left; with a corrected
injected word good again, but for a sticky one (R421, R450). A line that stands dirty in the cache is not read from DRAM (R413). -/
def State.eccRead (s : State) (a n : Nat) (errs : List EccErr) : State :=
  let inRange (x : Nat) : Bool := a < x + 8 && x < a + n && !s.phcOwns (x / 128)
  let s := (errs.filter fun e => inRange e.addr).foldl (fun s e => s.eccWord e false) s
  let sticky := s.on Reg.FLT_INJ_CTRL_STICKY && s.on Reg.FLT_INJ_CTRL_ARM
  let hit := s.mem.bad.filter fun b => b.target == 1 && inRange b.addr
  let s := hit.foldl (fun s b => s.eccWord ⟨b.addr, b.bits, sticky⟩ true) s
  { s with mem := { s.mem with bad := s.mem.bad.filter fun b => !(hit.contains b && (b.bits < 3 && !sticky)) } }

/-- The first byte of a range that a read cannot deliver (R421, R422): in a word that cannot be corrected, or in a block whose slip is
poisoned, and not in a line that is `held` for the unit that reads. -/
def State.unreadable (s : State) (held : Nat → Bool) (a n : Nat) (errs : List EccErr) : Option Nat :=
  let slips := slipNumbers.filterMap fun k =>
    if s.on (Reg.MEM_SLIP_VALID k.val) && s.on (Reg.MEM_SLIP_POISON k.val) then some (s.get (Reg.MEM_SLIP_BLOCK k.val) * 64, 64) else none
  let words := (errs.filter fun e => 3 ≤ e.bits).map (fun e => (e.addr, 8)) ++
    (s.mem.bad.filter fun b => b.target == 1 && 3 ≤ b.bits).map fun b => (b.addr, 8)
  let at_ := ((slips ++ words).filter fun p => a < p.1 + p.2 && p.1 < a + n && !held (p.1 / 128)).map fun p => max a p.1
  at_.foldl (fun m x => some (match m with | none => x | some y => min x y)) none

/-- Put a line into a way of its set. -/
def State.putWay (s : State) (line way : Nat) (dirty : Bool) (tree : Nat) : State :=
  let e := s.phcSet (line % 4096)
  s.putMem { s.mem with sets := sIns s.mem.sets (line % 4096) ⟨sIns e.ways way ⟨line, dirty⟩, tree⟩ }

/-- A dirty line is evicted into the victim buffer of 8 entries (R415); a full buffer gives up its oldest entry, written back. -/
def State.phcEvict (s : State) (line : Nat) : State :=
  let v := s.mem.victims
  s.putMem { s.mem with victims := (if 8 ≤ v.length then v.drop 1 else v) ++ [⟨line, false⟩] }

/-- A miss takes one of the 32 entries (R414); where all are in use it waits for the first to free. MISS_PEAK follows (R431). -/
def State.takeMiss (s : State) (line : Nat) : State :=
  let m := s.mem.missing
  let m := (if 32 ≤ m.length then m.drop 1 else m) ++ [line]
  (s.putMem { s.mem with missing := m }).set Reg.PHC_STATS_MISS_PEAK (max m.length (s.get Reg.PHC_STATS_MISS_PEAK))

/-- A line is filled from DRAM (R412, R413): into a free way or the tree's victim, whose dirty line is evicted. A streaming line is filled
at the least recently used place, which it leaves the tree at. -/
def State.phcFill (s : State) (line pol : Nat) (dirty : Bool) : State :=
  let e := s.phcSet (line % 4096)
  let way := ((List.range 16).find? fun w => (sGet? e.ways w).isNone).getD (plruVictim e.tree)
  let s := match sGet? e.ways way with
    | some old => if old.dirty then s.phcEvict old.line else s
    | none => s
  (s.putWay line way dirty (if pol = 2 then e.tree else plruUse e.tree way)).takeMiss line

/-- The way of a set whose clean line is the least recently used (R415). -/
def cleanWay (e : PhcSet) : Option Nat :=
  (e.ways.filter fun p => !p.2.dirty).foldl (fun b p =>
    match b with
    | none => some p.1
    | some w => if plruRank e.tree p.1 < plruRank e.tree w then some p.1 else b) none

/-- A request for a line in the victim buffer is served from it (R415): the eviction is cancelled, and the line goes back in place of the
least recently used clean line of its set, clean where DRAM has accepted the write-back and it is not written now. Where the set has no clean
line, it stays. A cancelled eviction counts in RECLAIMS; one whose write-back DRAM has accepted is none (DEDUCED; log 145). -/
def State.phcReclaim (s : State) (v : Victim) (dirties : Bool) : State :=
  let s := if v.taken then s else s.inc Reg.PHC_STATS_RECLAIMS
  let e := s.phcSet (v.line % 4096)
  match cleanWay e with
  | some w =>
    (s.putMem { s.mem with victims := s.mem.victims.filter fun x => x.line != v.line }).putWay v.line w (dirties || !v.taken)
      (plruUse e.tree w)
  | none =>
    if dirties then
      s.putMem { s.mem with victims := s.mem.victims.map fun x => if x.line == v.line then { x with taken := false } else x }
    else s

/-- The trackers in use (R414): one left unused for 4096 cycles, 2.56 µs, is free. -/
def State.trackersNow (s : State) : List Tracker := s.mem.trackers.filter fun t => s.clockNs < t.usedNs + 2560

/-- Lines are fetched ahead of a stream in ascending order (R414): none that is held, none outside the windows, and none while more than 24
miss entries are in use. -/
def State.phcPrefetch (s : State) : List Nat → State
  | [] => s
  | line :: rest =>
    let pol := s.phcPolicy (line * 128)
    let t := if pol = 0 || s.phcHolds line || 24 < s.mem.missing.length then s
      else (s.eccRead (line * 128) 128 []).phcFill line pol false
    State.phcPrefetch t rest

/-- The sequential detector sees a request for a line, a miss or not (R414): three misses on consecutive ascending lines of one 4 KiB page
trigger a tracker, which then keeps PF_DEPTH lines fetched ahead within the page. With no tracker free, the least recently used one is taken
(DESIGN CHOICE; log 145). -/
def State.phcDetect (s : State) (line : Nat) (miss : Bool) : State :=
  let depth := s.get Reg.PHC_CTRL_PF_DEPTH
  let live := s.trackersNow
  let follows (t : Tracker) : Bool := t.last + 1 == line && t.last / 32 == line / 32 && (miss || 3 ≤ t.run)
  if depth = 0 then s.putMem { s.mem with trackers := [] }
  else
    match live.find? follows with
    | some t =>
      let t' : Tracker := ⟨line, min 3 (t.run + 1), s.clockNs⟩
      let s := s.putMem { s.mem with trackers := live.erase t ++ [t'] }
      if 3 ≤ t'.run then s.phcPrefetch ((List.range (min depth (31 - line % 32))).map fun i => line + 1 + i) else s
    | none =>
      if miss then s.putMem { s.mem with trackers := (if 16 ≤ live.length then live.drop 1 else live) ++ [⟨line, 1, s.clockNs⟩] }
      else s.putMem { s.mem with trackers := live }

/-- A core, SOF or CNS accesses a line of DRAM, of which the range from `a` on of `n` bytes is asked for (R412 to R415): uncached outside
the windows; held; in the victim buffer; or missed and filled. A line is dirty after a write under write-back or streaming. A request that
finds its line's miss outstanding joins it: the line stands in its way already. -/
def State.phcLine (s : State) (line a n : Nat) (write : Bool) (errs : List EccErr) : State :=
  let pol := s.phcPolicy (line * 128)
  let dirties := write && pol != 3
  if pol = 0 then
    let lo := max a (line * 128)
    if write then s else s.eccRead lo (min (a + n) (line * 128 + 128) - lo) errs
  else
    match s.phcWay line, s.victimOf line with
    | some p, _ =>
      let e := s.phcSet (line % 4096)
      ((s.putWay line p.1 (dirties || p.2.dirty) (plruUse e.tree p.1)).phcDetect line false).phcEcc line write
    | none, some v => (s.phcReclaim v dirties).phcEcc line write
    | none, none =>
      let miss := s.mem.misses + 1
      let s := (s.putMem { s.mem with misses := miss }).set Reg.PHC_STATS_MISSES (min 65535 (miss / 65536))
      (((s.eccRead (line * 128) 128 errs).phcFill line pol dirties).phcDetect line true).phcEcc line write

/-- An access of a core, SOF or CNS to a range of DRAM: the fills of the access before it are complete (DESIGN CHOICE; log 145). -/
def State.phcRange (s : State) (a n : Nat) (write : Bool) (errs : List EccErr) : State :=
  if n = 0 then s
  else (List.range ((a + n - 1) / 128 + 1 - a / 128)).foldl (fun s i => s.phcLine (a / 128 + i) a n write errs)
    (s.putMem { s.mem with missing := [] })

/-- A class-B write reaches a line (R413, R429): held, it is updated in place and left dirty; in the victim buffer, its write-back carries
the new bytes. -/
def State.phcSnoop (s : State) (line : Nat) : State :=
  match s.phcWay line, s.victimOf line with
  | some p, _ => (s.putWay line p.1 true (s.phcSet (line % 4096)).tree).phcEcc line true
  | none, some _ => s.putMem { s.mem with victims := s.mem.victims.map fun x => if x.line == line then { x with taken := false } else x }
  | none, none => s

/-- A class-B write to a range is checked against the cache, whatever its policy (R413). -/
def State.phcSnoopRange (s : State) (a n : Nat) : State :=
  if n = 0 || (s.mem.sets.isEmpty && s.mem.victims.isEmpty) then s
  else (List.range ((a + n - 1) / 128 + 1 - a / 128)).foldl (fun s i => s.phcSnoop (a / 128 + i)) s

/-- The write-backs that wait go on (R415): what DRAM has accepted leaves the buffer, and it accepts the rest (one tick boundary each,
DESIGN CHOICE; log 145). -/
def State.phcDrain (s : State) : State :=
  if s.mem.victims.isEmpty then s
  else s.putMem { s.mem with victims := (s.mem.victims.filter fun v => !v.taken).map fun v => { v with taken := true } }

/-- The lines of the cache and of its victim buffer that are dirty. -/
def State.phcDirty (s : State) : List Nat :=
  (s.mem.sets.flatMap fun p => (p.2.ways.filter fun w => w.2.dirty).map fun w => w.2.line) ++
    (s.mem.victims.filter fun v => !v.taken).map (·.line)

/-- Every dirty line is written back and stays valid (R416). The DRAM as the model holds it is the one every accessor agrees on
(R413), so that only the marks change. -/
def State.phcFlush (s : State) : State :=
  let clean (e : PhcSet) : PhcSet := ⟨e.ways.map fun w => (w.1, { w.2 with dirty := false }), e.tree⟩
  s.putMem { s.mem with sets := s.mem.sets.map (fun p => (p.1, clean p.2)), victims := [] }

/-- FLUSH written 1 (R416). -/
def execPhcFlush (i : Initiator) (s : State) : Host.Outcome State Fault Refusal :=
  ok (s.access i 0x40610000 4 fun s => { s.phcFlush with bus := .written })

/-- A write of PHC_WINn_BASE or PHC_WINn_LIM (R416): ignored and told while any dirty line lies in the old or the new range. -/
def execPhcWindowWrite (i : Initiator) (n : Nat) (lim : Bool) (v : Nat) (s : State) : Host.Outcome State Fault Refusal :=
  let n := n % 4
  let a := 0x40610010 + 8 * n + 4 * b2n lim
  ok (s.access i a 4 fun s =>
    let s' := if lim then s.set (Reg.PHC_WIN_LIM_ADDR n) (bitsOf v 22 0)
      else (s.set (Reg.PHC_WIN_BASE_ADDR n) (bitsOf v 22 0)).set (Reg.PHC_WIN_BASE_POLICY n) (bitsOf v 31 30)
    let inside (t : State) (line : Nat) : Bool :=
      t.get (Reg.PHC_WIN_BASE_ADDR n) * 4096 ≤ line * 128 && line * 128 < (t.get (Reg.PHC_WIN_LIM_ADDR n) + 1) * 4096
    if s.phcDirty.any fun l => inside s l || inside s' l then s.ignored i a else { s' with bus := .written })

/-- Bytes are written to DRAM: a write that covers a poisoned block in full heals it (R422), and an armed injection acts (R450). -/
def State.place (s : State) (a : Nat) (l : List Byte) : State :=
  if l.isEmpty then s else
  let n := l.length
  let s := s.putBytes a l
  let heal := slipNumbers.filter fun k =>
    s.on (Reg.MEM_SLIP_VALID k.val) && s.on (Reg.MEM_SLIP_POISON k.val) &&
      a ≤ s.get (Reg.MEM_SLIP_BLOCK k.val) * 64 && s.get (Reg.MEM_SLIP_BLOCK k.val) * 64 + 64 ≤ a + n
  let s := heal.foldl (fun s k => s.set (Reg.MEM_SLIP_POISON k.val) 0) s
  s.injWrite 1 a n

/-- A unit on fabric class B writes bytes to DRAM (R413): a line the cache holds is updated. -/
def State.store (s : State) (a : Nat) (l : List Byte) : State := (s.place a l).phcSnoopRange a l.length

/-- A core, SOF or CNS writes bytes to DRAM through the cache (R412). -/
def State.unitStore (s : State) (a : Nat) (l : List Byte) : State := (s.phcRange a l.length true []).place a l

/-- SOF or CNS writes little-endian words to DRAM. -/
def State.unitWords (s : State) (a : Nat) (l : List Nat) : State :=
  s.unitStore a ((l.flatMap (leBytes 4)).map (BitVec.ofNat 8))

/-- A core, SOF or CNS reads a range of DRAM (R412), with the words in error that the world brings. -/
def State.unitReads (s : State) (a n : Nat) (errs : List EccErr) : State := s.phcRange a n false errs

/-- Whether a line is served to a core, SOF or CNS without a read of DRAM (R412, R413). -/
def State.unitHolds (s : State) (line : Nat) : Bool := s.phcPolicy (line * 128) != 0 && s.phcHolds line

/-- A unit writes little-endian words to DRAM. -/
def State.storeWords (s : State) (a : Nat) (l : List Nat) : State :=
  s.store a ((l.flatMap (leBytes 4)).map (BitVec.ofNat 8))

/-- The bytes of a list of bags in their order, by the address of byte `k`, none beyond their end. -/
def State.bagByte (s : State) : List Nat → Nat → Option Nat
  | [], _ => none
  | h :: t, k => if k < poolBytes (bagPool h) then some (s.bagAddr h + k) else State.bagByte s t (k - poolBytes (bagPool h))

/-- The bytes a list of bags has room for. -/
def bagsRoom (l : List Nat) : Nat := l.foldl (fun n h => n + poolBytes (bagPool h)) 0

/-- Write bytes into a list of bags from an offset on. -/
def State.bagStore (s : State) : List Nat → Nat → List Byte → State
  | [], _, _ => s
  | h :: t, off, l =>
    let size := poolBytes (bagPool h)
    if size ≤ off then State.bagStore s t (off - size) l
    else if l.isEmpty then s
    else State.bagStore (s.store (s.bagAddr h + off) (l.take (size - off))) t 0 (l.drop (size - off))

/-- `n` bytes out of a list of bags from an offset on. -/
def State.bagRead (s : State) (bags : List Nat) (off n : Nat) : List Nat :=
  (List.range n).map fun k => match s.bagByte bags (off + k) with
    | some a => (s.byte a).toNat
    | none => 0

end Sys2Proof.Machine
end

