-- ==== Sys2Proof/Machine/Motor.lean ====
section
/-!
DEFINITION. The spindle slice's work in a tick (R222 to R240): the currents and the commutation angle, the observer and its checks, the
comparators, the speed and current loops with their limits, field weakening and flux braking, and the phase duties. The control laws, of which
the spec gives no formula, are free (log 142); angles are at 65,536 an electrical turn, voltages and currents in 2^-16 V and A.
-/
namespace Sys2Proof.Machine

/-- Replace the motor. -/
def State.putMotor (s : State) (m : Motor) : State := { s with motor := m }

/-- A 16-bit current setting of 20 mA a unit in 2^-16 A (R247). -/
def ampsOf (field : Nat) : Int := ((field * 20 * 65536 / 1000 : Nat) : Int)

/-- POLE_PAIRS: 0 acts as 1, above 8 as 8 (R247). -/
def State.polePairs (s : State) : Nat := max 1 (min 8 (s.get Reg.SPN_SET_POLE_PAIRS))

/-- The electrical angle that a speed in 1/256 rpm turns in a tick. -/
def State.angleStep (s : State) (v : Int) : Int := v * ((256 * s.polePairs * s.tickNs : Nat) : Int) / 60000000000

/-- An angle moved on, modulo a turn. -/
def turned (a : Nat) (d : Int) : Nat := (((a : Int) + d) % 65536).toNat

/-- One angle less another, signed, within half a turn. -/
def angleDiff (a b : Nat) : Int := signed 16 ((a + 65536 - b % 65536) % 65536)

/-- What is left of a glide after a tick that moves at most so much. -/
def glideOn (off : Int) (step : Nat) : Int := if off.natAbs ≤ step then 0 else if 0 < off then off - step else off + step

/-- The postmark angle of the rotor (R234), while the postmark is locked: the angle of PMK_ANGLE times the pole pairs, with PM_ZERO. -/
def State.pmAngle (s : State) : Option Nat :=
  if s.pmkLocked then
    let a := s.get Reg.PMK_ANGLE_CYCLE * 4096 + s.get Reg.PMK_ANGLE_FRAC
    some ((s.polePairs * a / 65536 + s.get Reg.SPN_PMZERO_PM_ZERO) % 65536)
  else none

/-- The three phase currents of ports 0x00 to 0x02; where a phase's duty stands at the shunt limit, its current is the negative sum of the other
two (R224). -/
def State.phaseCurrents (s : State) : Int × Int × Int :=
  let lim := s.dutyLimit s.tickNs
  let i (k : Nat) : Int := signed 32 (sGet s.eng.portIn k 0)
  let short (k : Nat) : Bool := lim ≤ s.portOut (8 + k)
  if short 0 then (-(i 1) - i 2, i 1, i 2) else if short 1 then (i 0, -(i 0) - i 2, i 2) else if short 2 then (i 0, i 1, -(i 0) - i 1)
  else (i 0, i 1, i 2)

/-- The currents in the stationary frame (R226): 37,837 is 1/√3 in 2^-16. -/
def State.stationary (s : State) : Int × Int :=
  let (u, v, w) := s.phaseCurrents
  ((2 * u - v - w) / 3, (v - w) * 37837 / 65536)

/-- A vector turned back by an angle into its direct and quadrature components (R226). -/
def park (a b : Int) (angle : Nat) : Int × Int :=
  let c := sineOf (angle + 16384)
  let n := sineOf angle
  ((a * c + b * n) / 2 ^ 30, (b * c - a * n) / 2 ^ 30)

/-- A vector of direct and quadrature components in the stationary frame. -/
def unpark (d q : Int) (angle : Nat) : Int × Int :=
  let c := sineOf (angle + 16384)
  let n := sineOf angle
  ((d * c - q * n) / 2 ^ 30, (d * n + q * c) / 2 ^ 30)

/-- The magnitude of a vector, rounded down. -/
def magnitude (a b : Int) : Nat := Nat.sqrt (a.natAbs * a.natAbs + b.natAbs * b.natAbs)

/-- KE times a speed in 1/256 rpm (R231, R236), line to line, in 2^-16 V: a unit of KE is 0.1 mV·s/rad. -/
def State.keTimes (s : State) (v : Nat) : Nat := s.get Reg.SPN_MOTOR_KE * v * 2680826 / 1000000000

/-- The line-to-line magnitude of the observer's back-EMF. -/
def Motor.bemf (m : Motor) : Nat := magnitude m.ea m.eb * 113512 / 65536

/-- Two quantities differ by more than so many percent of the second. -/
def apart (a b percent : Nat) : Bool := percent * b < 100 * (a - b + (b - a))

/-- The comparators in forward phase order (R230): U leads V, and V leads W, by a third of a turn (DEDUCED; log 142). -/
def nextComparators (p : Nat) : Nat :=
  match p with
  | 0b101 => 0b100
  | 0b100 => 0b110
  | 0b110 => 0b010
  | 0b010 => 0b011
  | 0b011 => 0b001
  | 0b001 => 0b101
  | _ => 8

/-- The comparators of port 0x04 (R223): a change is noted with its time, as long before the boundary as the port tells. -/
def State.watchComparators (s : State) : State :=
  let w := sGet s.eng.portIn 4 0
  let p := w / 2 ^ 29 % 8
  let m := s.motor
  if p = m.comparators then s
  else
    let t := s.clockNs - w % 65536 * 16 * s.tickNs / 25400
    s.putMotor { m with comparators := p, changes := ((t, nextComparators m.comparators == p) :: m.changes).take 8 }

/-- The comparator changes since the state was entered, oldest first. -/
def State.changesHere (s : State) : List (Nat × Bool) := (s.motor.changes.filter fun c => s.motor.sinceNs ≤ c.1).reverse

/-- The intervals between changes, oldest first. -/
def gapsOf (l : List (Nat × Bool)) : List Nat := (l.zip l.tail).map fun p => p.2.1 - p.1.1

/-- The ns since the last comparator change. -/
def State.quietNs (s : State) : Nat := s.clockNs - (s.motor.changes.head?.map (·.1)).getD 0

/-- The observer runs (R231, R233): in PWM, in the blind ramp, and at or above the handover speed whatever the source of the angle. -/
def State.observerRuns (s : State) (handover : Nat) : Bool :=
  s.invMode == 1 && (s.get Reg.SPN_STATUS_STATE == 4 || handover ≤ s.speed)

/-- Whether the observer fails a check of R236 in this tick, by its speed before. -/
def State.observerFails (s : State) (was : Int) : Bool :=
  let m := s.motor
  256 * s.get Reg.SPN_OBS_DW_MAX < (m.speed - was).natAbs || apart m.bemf (s.keTimes m.speed.natAbs) (s.get Reg.SPN_OBS_BEMF_TOL) ||
    s.pmAngle.any fun a => 65536 * s.get Reg.SPN_OBS_ANG_TOL < 360 * (angleDiff m.angle a).natAbs

/-- The observer in a tick (R233): the back-EMF from the commanded voltages, the measured currents, and the phase resistance and inductance, and
the phase-locked loop on it; what it makes of the checks of R236 and, in the ramp, of the agreement of R231. -/
def State.observe (s : State) (handover : Nat) : State :=
  let m := s.motor
  let (ia, ib) := s.stationary
  let e (v i was : Int) : Int := v - i * s.get Reg.SPN_MOTOR_RS / 1000 - (i - was) * Config.phaseInductance / (max 1 s.tickNs : Nat)
  let m := if s.observerRuns handover then
      let ea := e m.va ia m.ia
      let eb := e m.vb ib m.ib
      let p := Config.pll m.angle m.speed ea eb
      { m with ea := ea, eb := eb, angle := p.1 % 65536, speed := p.2 }
    else { m with speed := if s.invMode = 1 then m.speed else 0 }
  let s := s.putMotor { m with ia := ia, ib := ib }
  let n := s.motor
  let fails := s.observerRuns handover && s.get Reg.SPN_STATUS_STATE != 4 && s.observerFails m.speed
  let agrees := s.get Reg.SPN_STATUS_STATE = 4 && handover ≤ n.ramp && !apart n.speed.toNat n.ramp 10 && !apart n.bemf (s.keTimes n.ramp) 25
  s.putMotor { n with lost := if fails then n.lost + 1 else 0, agree := if agrees then n.agree + 1 else 0 }

/-- The observer's angle against the postmark angle (R234, R247): OBS_DIFF, and its mean and spread over each full revolution, which ends where
the postmark angle comes round. -/
def State.compareAngles (s : State) : State :=
  let m := s.motor
  match s.pmAngle with
  | none => s.putMotor { m with rev := none, full := none }
  | some a =>
    let d := angleDiff m.angle a
    let now := s.get Reg.PMK_ANGLE_CYCLE
    let s := s.set Reg.SPN_ANGLE_OBS_DIFF (unsigned 16 d)
    if now < m.pmWas then
      let full := m.rev.map fun (sum, lo, hi, n) =>
        let mean := sum / (max 1 n : Nat)
        (mean, max (hi - mean).natAbs (mean - lo).natAbs)
      s.putMotor { m with pmWas := now, rev := some (d, d, d, 1), full := full }
    else s.putMotor { m with pmWas := now, rev := m.rev.map fun (sum, lo, hi, n) => (sum + d, min lo d, max hi d, n + 1) }

/-- The measured speed in 1/256 rpm (R229): the postmark's while it is locked, otherwise the observer's; while the inverter is not in PWM the
observer does not run, and the speed is what the boundary brings (DESIGN CHOICE; log 142). -/
def State.measuredSpeed (s : State) (brought : Nat) : Nat :=
  let p := s.get Reg.PMK_REV_REV_PERIOD
  if s.pmkLocked && p != 0 then 384000000000 / p
  else if s.invMode = 1 then s.motor.speed.toNat
  else brought

/-- The commutation angle of this tick (R231, R234, R235, R243), with what is left of a glide. -/
def State.commutation (s : State) : Nat × Int :=
  let m := s.motor
  let now := s.get Reg.SPN_ANGLE_ANGLE
  let glide := s.spn.glide
  let off := glideOn m.off (if glide then 182 else 910)
  match s.get Reg.SPN_STATUS_STATE with
  | 3 => (now, 0)
  | 4 => (turned now (s.angleStep m.ramp), 0)
  | _ =>
    match s.get Reg.SPN_STATUS_ANGLE_SRC with
    | 1 => if glide then (turned (s.pmAngle.getD m.angle) off, off) else (turned m.angle off, off)
    | 2 => (s.pmAngle.getD now, 0)
    | 3 => (turned now (s.angleStep s.speed), 0)
    | _ => (now, 0)

/-- The power that may go into the drive bus while braking, in mW (R239): the load that PWR reports and the chopper's, at most BRK_PMAX. -/
def State.brakePower (s : State) : Nat :=
  min (1000 * s.get Reg.SPN_BRAKE_BRK_PMAX) (sGet s.eng.portIn 0x80 0 + sGet s.eng.portIn 0x81 0)

/-- A power in mW as a product of a voltage and a current, of which it is 1.5 times the sum (R227, R239). -/
def powerProduct (mw : Nat) : Int := ((mw * 2 ^ 33 / 3000 : Nat) : Int)

/-- The greatest braking current whose copper loss is at least the braking power (R240), none where every one is. -/
def State.fluxLimit (s : State) (id : Int) : Option Nat :=
  let rs := s.get Reg.SPN_MOTOR_RS
  let e := s.keTimes s.speed * 37837 / 65536
  let disc := 1000000 * e * e - 4 * rs * rs * id.natAbs * id.natAbs
  if disc = 0 || rs = 0 then none else some ((1000 * e - Nat.sqrt disc) / (2 * rs))

/-- The quadrature current command (R226, R227, R228, R230, R239, R240), by the direct current and the voltages of the last tick: what the speed
loop asks for, limited by I_MAX, by the power allowed, and while it rises after a catch or a substitution. -/
def State.quadrature (s : State) (id vd vq : Int) : Int :=
  let imax := ampsOf (s.get Reg.SPN_CURR_I_MAX)
  let left := ((Nat.sqrt (imax.natAbs * imax.natAbs - id.natAbs * id.natAbs) : Nat) : Int)
  let since := s.tick - s.motor.riseAt
  let cap := if since < s.motor.riseTicks then min left (imax * since / (max 1 s.motor.riseTicks : Nat)) else left
  let want := Config.speedLoop s.tick s.spn.method (256 * s.get Reg.SPN_SET_SET_RPM) s.speed
  if s.get Reg.SPN_STATUS_STATE = 6 then
    let cap := if vq ≤ 0 then cap else min cap (max 0 ((powerProduct s.brakePower + vd * id) / vq))
    let cap := if s.on Reg.SPN_STATUS_FLUX_BRAKE then min cap ((((s.fluxLimit id).getD cap.natAbs : Nat) : Int)) else cap
    clampInt (-cap) 0 want
  else
    let p := powerProduct (s.get (Reg.CRE_X 32) % 2 ^ 31)
    let cap := if vq ≤ 0 then cap else min cap (max 0 ((p - vd * id) / vq))
    clampInt (-left) cap want

/-- The direct current command after a tick (R228, R240), by the voltage vector needed and its limit: −ID_FLUX in flux braking; driven negative
where the vector is too short, at most ID_FW_MAX; back to 0 at no more than ID_FW_MAX in 64 ticks below 90 %. -/
def State.directNext (s : State) (id : Int) (need lim : Nat) : Int :=
  let top := ampsOf (s.get Reg.SPN_CURR_ID_FW_MAX)
  if s.on Reg.SPN_STATUS_FLUX_BRAKE then -(ampsOf (s.get Reg.SPN_CURR_ID_FLUX))
  else if lim < need then min id (-(min top ((Config.fieldCurrent s.tick need lim : Nat) : Int)))
  else if 10 * need < 9 * lim then min 0 (id + top / 64)
  else id

/-- One tick of the spindle slice in PWM (R224, R226 to R228): the current loops, the voltage vector within its limit, and the phase duties. X1 to
X3 and SPN_ANGLE follow. -/
def State.drive (s : State) : State :=
  let (angle, off) := s.commutation
  let m := s.motor
  let st := s.get Reg.SPN_STATUS_STATE
  let blind := st = 3 || st = 4
  let (id, iq) := park m.ia m.ib angle
  let (vd, vq) := park m.va m.vb angle
  let idc := if st = 3 then ampsOf (s.get Reg.SPN_CURR_ALIGN_I) else if st = 4 then ampsOf (s.get Reg.SPN_START_RAMP_I) else s.getS (Reg.CRE_X 2)
  let iqc := if blind then 0 else s.quadrature idc vd vq
  let bus := sGet s.eng.portIn 3 0
  let lim := Config.vectorLimit bus (s.dutyLimit s.tickNs)
  let v := Config.currentLoop s.tick (idc - id) (iqc - iq)
  let need := magnitude v.1 v.2
  let fit (x : Int) : Int := if lim < need then x * lim / (max 1 need : Nat) else x
  let (va, vb) := unpark (fit v.1) (fit v.2) angle
  let next := if blind then idc else s.directNext idc need lim
  let ramp := if st = 4 then min (512 * s.get Reg.SPN_START_HANDOVER_RPM)
      (m.ramp + s.get Reg.SPN_START_RAMP_ACC * 2560 * s.tickNs / 1000000000 + 1) else m.ramp
  let s := s.putMotor { m with va := va, vb := vb, off := off, ramp := ramp }
  let s := s.setAll [(Reg.SPN_ANGLE_ANGLE, angle), (Reg.CRE_X 1, angle), (Reg.CRE_X 2, unsigned 32 next), (Reg.CRE_X 3, unsigned 32 iqc),
    (Reg.SPN_STATUS_FW_ACTIVE, b2n (!blind && !s.on Reg.SPN_STATUS_FLUX_BRAKE && next < 0))]
  [0, 1, 2].foldl (fun (s : State) k => s.spnWrite s.tickNs (8 + k) (Config.phaseDuty k va vb bus % 65536)) s

end Sys2Proof.Machine
end

