-- ==== Sys2Proof/Machine/Spindle.lean ====
section
/-!
DEFINITION. The spindle loop and its inverter (R220 to R247, R477, R478): starting, the angle sources, observer loss, stopping
and braking, the bus protections, and the spare leg. The loop's state stands in SPN_STATUS STATE and in X4.
-/
namespace Sys2Proof.Machine

/-- The spindle state (R247). -/
def State.spSt (s : State) : Nat := s.get Reg.SPN_STATUS_STATE

/-- Set the spindle state, which the shipped microcode keeps in X4 (R226), and note when it was entered. -/
def State.setSp (s : State) (n : Nat) : State :=
  let s := if s.spSt = n then s else s.putMotor { s.motor with sinceNs := s.clockNs }
  (s.set Reg.SPN_STATUS_STATE n).set (Reg.CRE_X 4) n

/-- The ns since the spindle state was entered. -/
def State.stateNs (s : State) : Nat := s.clockNs - s.motor.sinceNs

/-- Replace the loop's own data. -/
def State.putSpn (s : State) (p : Spn) : State := { s with spn := p }

/-- The speed of HANDOVER_RPM in 1/256 rpm (R229). -/
def State.handover (s : State) : Nat := 512 * s.get Reg.SPN_START_HANDOVER_RPM

/-- The unload speed in 1/256 rpm (R229). -/
def State.unloadSpeed (s : State) : Nat :=
  let pct := max 70 (min 98 (s.get Reg.SPN_SPEEDS_UNLOAD_PCT))
  max (256 * s.get Reg.SPN_SET_SET_RPM * pct / 100) (256 * (s.flyRpm + 200))

/-- A speed below the unload speed with any data head off its ramp raises trigger 0x1 (R215, R229, R237). -/
def State.unloadCheck (s : State) : State :=
  if s.headsOff && s.speed < s.unloadSpeed then s.emUnloadAll 0x1 else s

/-- The inverter goes off and the rotor coasts. -/
def State.coast (s : State) : State :=
  ((((s.setInv 0).setSp 7).set Reg.SPN_STATUS_ANGLE_SRC 0).set Reg.SPN_STATUS_FLUX_BRAKE 0).putSpn
    { s.spn with brake := false, glide := false }

/-- AT_SPEED clears (R229), and with it what was judged of the postmark at this speed (R81). -/
def State.notAtSpeed (s : State) : State :=
  let s := { s with pmk := { s.pmk with speedNs := none, degraded := false } }
  if s.on Reg.SPN_STATUS_AT_SPEED then (s.set Reg.SPN_STATUS_AT_SPEED 0).set Reg.SPN_INT_AT_SPEED 1 else s

/-- The message the loop takes up, of a type: the head of mailbox 0, which its running slice reads (R178). -/
def State.spMsg (s : State) (type : Nat) : Option Msg :=
  match s.headMsg 0 with
  | some m => if m.type == type && s.sliceRuns 0 then some m else none
  | none => none

/-- The start sequence from sensing (R231): 20 ms with the inverter off. -/
def State.sense (s : State) : State :=
  let s := (s.coast.notAtSpeed).setSp 2
  s.putSpn { s.spn with secondAlign := false, retryWait := false, catchLeft := none, swapStart := false, method := 0,
                        stopTag := none, byX32 := false, taken := true, quiet := 0 }

/-- A new start sequence, owed an AT_SPEED reply (R231, R478). -/
def State.newStart (s : State) (tag : Nat) : State :=
  let s := s.sense
  s.putSpn { s.spn with startTag := some tag, startTick := s.tick, attempts := 0 }

/-- The spin-up is committed, where the free stamps cover it, in place of the speed commitments (R274, R277); with it, where it is not, ELEC
(R477). -/
def State.commitSpinup (s : State) : State × Bool :=
  let b := s.books
  if b.spinup.isSome then (s, true)
  else
    let t := { s with books := { b with atSpeed := none, slow := none } }
    let c := s.get Reg.FRK_COST_SPINUP
    let e := s.get Reg.FRK_COST_ELEC
    if c + (if b.elec.isSome then 0 else e) ≤ t.freeStamps then
      (t.putBooks { t.books with spinup := some c, elec := some (b.elec.getD e) }, true)
    else (s, false)

/-- The loop answers with REFUSED (R245). -/
def State.spRefuse (s : State) (tag reason : Nat) : State := s.reply 0 tag 0xA6 [reason]

/-- FAULT with its code and the speed in rpm (R245). -/
def State.spFault (s : State) (tag code : Nat) : State := s.reply 0 tag 0xA7 [code, s.speed / 256]

/-- The controlled stop ends and the loop returns to SET_RPM (R478): at once from PWM braking, through a catch from short
braking. -/
def State.resumeRun (s : State) (tag : Nat) : State :=
  let p := { s.spn with startTag := some tag, startTick := s.tick, stopTag := none, method := 0, byX32 := false }
  if s.spn.brake then (s.putSpn { p with brake := false } |>.setInv 0).setSp 8
  else ((s.putSpn p).setInv 1).setSp 5

/-- The legs marked failed. -/
def State.legsLost (s : State) : Nat := ((List.range 4).filter fun k => s.bit Reg.SPN_LEGS_LEG_FAULTS k).length

/-- START by the spindle state at take-up (R478). -/
def State.start (s : State) (tag : Nat) : State :=
  let st := s.spSt
  if 2 ≤ s.legsLost then s.spRefuse tag 0x03
  else if st == 6 && s.spn.method == 2 then s.spRefuse tag 0x04
  else if st == 6 && s.handover ≤ s.speed then s.resumeRun tag
  else if st ≤ 1 || st == 6 || st == 7 || st == 0xA then s.newStart tag
  else if s.on Reg.SPN_STATUS_AT_SPEED then s.reply 0 tag 0xA1 [0]
  else s.putSpn { s.spn with startTag := some tag }

/-- START (R231, R478). It stays in the mailbox while the stamps of a spin-up it would begin are not covered (R277). -/
def execStart (s : State) : Host.Outcome State Fault Refusal :=
  match s.spMsg 0x21 with
  | none => ok s
  | some m =>
    let begins := s.legsLost < 2 && (s.spSt ≤ 1 || s.spSt == 6 && s.spn.method != 2 || s.spSt == 7 || s.spSt == 0xA)
    if begins then
      let c := s.commitSpinup
      if c.2 then ok ((c.1.discard 0).start m.tag) else ok s
    else ok ((s.discard 0).start m.tag)

/-- A braking method in force (R238): short braking below REGEN_MIN, PWM braking above. -/
def State.brakeBy (s : State) (method : Nat) : State :=
  let low := s.speed < 256 * s.get Reg.SPN_SPEEDS_REGEN_MIN
  let s := s.putSpn { s.spn with method := method, brake := low, catchLeft := none, retryWait := false, glide := false }
  (s.setInv (if low then 2 else 1)).setSp 6

/-- STOP by a method (R238): refused with data heads off their ramps, in the failed state, and for a method that is none. -/
def State.stop (s : State) (tag method : Nat) : State :=
  if s.spSt == 0xA then s.spRefuse tag 0x01
  else if s.headsOff then s.spRefuse tag 0x02
  else if 2 < method then s.spRefuse tag 0x04
  else if s.spSt ≤ 1 then s.reply 0 tag 0xA2 [method, 0]
  else
    let s := s.notAtSpeed
    let s := s.putSpn { s.spn with startTag := none, stopTag := some tag, stopTick := s.tick, byX32 := false }
    if method = 0 then
      let s := s.coast
      s.putSpn { s.spn with method := 0, catchLeft := none, retryWait := false }
    else s.brakeBy method

/-- STOP (R238). -/
def execStop (s : State) : Host.Outcome State Fault Refusal :=
  match s.spMsg 0x22 with
  | none => ok s
  | some m => ok ((s.discard 0).stop m.tag (bitsOf (m.word 1) 1 0))

/-- HOLD (R478). -/
def execHold (s : State) : Host.Outcome State Fault Refusal :=
  match s.spMsg 0x23 with
  | none => ok s
  | some m =>
    let s := s.discard 0
    if s.spSt == 6 && s.spn.method == 1 && s.handover ≤ s.speed then ok (s.resumeRun m.tag)
    else if s.spSt == 0xA then ok (s.spRefuse m.tag 0x01)
    else ok (s.spRefuse m.tag 0x04)

/-- The angle of an alignment step, advanced by 60 electrical degrees on each retry (R231, R232), at 65,536 a turn. -/
def alignAngle (second : Bool) (attempts : Nat) : Nat := ((if second then 0 else 49152) + attempts * 65536 / 6) % 65536

/-- The loop aligns: a vector of ALIGN_I held at an angle (R231). -/
def State.align (s : State) (second : Bool) : State :=
  let s := (s.putSpn { s.spn with secondAlign := second, brake := false } |>.setInv 1).setSp 3
  let s := s.putMotor { s.motor with sinceNs := s.clockNs }
  let a := alignAngle second s.spn.attempts
  (s.set Reg.SPN_ANGLE_ANGLE a).set (Reg.CRE_X 1) a

/-- The speed that comparator changes `meanNs` apart mean, in 1/256 rpm: six changes in an electrical turn (R230). -/
def State.catchSpeed (s : State) (meanNs : Nat) : Nat := 256 * 60000000000 / (6 * s.polePairs * max 1 meanNs)

/-- The mean of some intervals. -/
def meanGap (gaps : List Nat) : Nat := gaps.foldl (· + ·) 0 / max 1 gaps.length

/-- 20 ms of sensing have passed (R231): by the comparators' changes in them the loop catches a rotor that turns forward at or above
HANDOVER_RPM, aligns one that is still, and short-brakes any other. -/
def execSensePeriodEnd (s : State) : Host.Outcome State Fault Refusal :=
  if s.spSt == 2 && !s.spn.brake && !s.spn.retryWait && 20000000 ≤ s.stateNs then
    let l := s.changesHere
    let g := gapsOf l
    if l.isEmpty then ok (s.align false)
    else if l.all (·.2) && !g.isEmpty && s.handover ≤ s.catchSpeed (meanGap g) then ok (s.setSp 8)
    else ok ((s.setInv 2).putSpn { s.spn with brake := true })
  else ok s

/-- While short-braking at start, 200 ms passed with no comparator change (R231): the loop aligns. -/
def execShortBrakeQuiet (s : State) : Host.Outcome State Fault Refusal :=
  if s.spSt == 2 && s.spn.brake && 200000000 ≤ s.quietNs then ok (s.align false) else ok s

/-- An alignment step ends after ALIGN_MS (R231, R247): the second step, then the blind ramp from rest. -/
def execAlignStepEnd (s : State) : Host.Outcome State Fault Refusal :=
  if s.spSt == 3 && 2000000 * s.get Reg.SPN_START_ALIGN_MS ≤ s.stateNs then
    if s.spn.secondAlign then
      ok (((s.putMotor { s.motor with ramp := 0, agree := 0, off := 0 }).setSp 4).set Reg.SPN_STATUS_ANGLE_SRC 0)
    else ok (s.align true)
  else ok s

/-- Whether a catch holds (R230): six changes in forward order within 8 ms, their intervals within 10 % of the mean, and a
speed at or above HANDOVER_RPM. -/
def State.caught (s : State) (gaps : List Nat) (forward : Bool) : Bool :=
  let sum := gaps.foldl (· + ·) 0
  let n := gaps.length
  forward && 5 ≤ n && sum ≤ 8000000 &&
    (gaps.all fun g => 9 * sum ≤ 10 * n * g && 10 * n * g ≤ 11 * sum) && s.handover ≤ s.catchSpeed (sum / max 1 n)

/-- The loop takes the rotor over (R230, R237, R241): the commutation angle from the last change, the observer loaded with it and the speed, and
the quadrature current rising from 0 over 32 ticks. -/
def State.takeOver (s : State) (v : Nat) : State :=
  let a := turned (Config.changeAngle s.motor.comparators) ((v * 256 * s.polePairs * s.quietNs / 60000000000 : Nat) : Int)
  let s := s.putMotor { s.motor with angle := a, speed := (v : Int), off := 0, lost := 0, riseAt := s.tick, riseTicks := 32 }
  let s := (s.set Reg.SPN_SPEED_SPEED v).setAll [(Reg.CRE_X 0, v), (Reg.CRE_X 1, a), (Reg.SPN_ANGLE_ANGLE, a)]
  let braking := s.spn.method != 0
  let s := ((s.setInv 1).setSp (if braking then 6 else 5)).set Reg.SPN_STATUS_ANGLE_SRC 1
  if s.spn.catchLeft.isSome then (s.putSpn { s.spn with catchLeft := none, quiet := 0 }).reply 0 0 0xA4 [0x2]
  else s.putSpn { s.spn with quiet := 0 }

/-- A catch fails (R230, R237): CATCH_FAIL; in the procedure of an observer loss the loop coasts again until its third attempt,
then gives up; in a start the sensing begins again. -/
def State.catchFail (s : State) : State :=
  let s := s.set Reg.SPN_STATUS_CATCH_FAIL 1
  match s.spn.catchLeft with
  | some n =>
    let s := s.coast
    if n ≤ 1 then
      let s := (s.putSpn { s.spn with catchLeft := none, startTag := none }).setSp 0xA
      ((s.reply 0 0 0xA4 [0x3]).spFault 0 0x03).unloadCheck
    else (s.putSpn { s.spn with catchLeft := some (n - 1) }).unloadCheck
  | none => if s.spn.startTag.isSome then s.sense else s.coast

/-- CATCH_RESULT (R230): six comparator changes since the catch began are judged; it fails where they are not found in 8 ms. -/
def execCatchResult (s : State) : Host.Outcome State Fault Refusal :=
  let l := s.changesHere.take 6
  let g := gapsOf l
  if s.spSt == 8 && 6 ≤ l.length then
    if s.caught g (l.all (·.2)) then ok (s.takeOver (s.catchSpeed (meanGap g))) else ok s.catchFail
  else if s.spSt == 8 && 8000000 ≤ s.stateNs then ok s.catchFail
  else ok s

/-- 64 consecutive ticks of agreement at HANDOVER_RPM (R231): commutation moves to the observer, with a glide of at most 5 degrees a tick. -/
def execObserverHandover (s : State) : Host.Outcome State Fault Refusal :=
  if s.spSt == 4 && 64 ≤ s.motor.agree then
    let s := s.putMotor { s.motor with off := angleDiff (s.get Reg.SPN_ANGLE_ANGLE) s.motor.angle, lost := 0 }
    ok ((s.setSp 5).set Reg.SPN_STATUS_ANGLE_SRC 1)
  else ok s

/-- The drive bus as the loop reads it at port 0x03, in mV (R223). -/
def State.loopBusMv (s : State) : Nat := sGet s.eng.portIn 3 0 * 1000 / 65536

/-- A start fails (R232): no handover within 3 s of the ramp's start, reverse rotation seen in the ramp, or the drive bus below 16 V. After the
third attempt START_FAIL, FAULT 0x01 and failed; before that, the inverter goes off for 2 s. -/
def execStartFailure (s : State) : Host.Outcome State Fault Refusal :=
  let st := s.spSt
  if (st == 4 && (3000000000 ≤ s.stateNs || s.changesHere.any fun c => !c.2)) || (2 ≤ st && st ≤ 4 && !s.spn.retryWait && s.loopBusMv < 16000) then
    let n := s.spn.attempts + 1
    let tag := s.spn.startTag.getD 0
    let s := s.coast
    if 3 ≤ n then
      let s := (s.putSpn { s.spn with attempts := n, startTag := none }).set Reg.SPN_STATUS_START_FAIL 1
      ok ((s.spFault tag 0x01).setSp 0xA)
    else ok (s.putSpn { s.spn with attempts := n, retryWait := true })
  else ok s

/-- 2 s after a failed start the loop starts again from sensing (R232). -/
def execStartRetry (s : State) : Host.Outcome State Fault Refusal :=
  if s.spn.retryWait && 2000000000 ≤ s.stateNs then ok s.sense else ok s

/-- Whether the measured speed is within so many thousandths of SET_RPM (R229). -/
def State.within (s : State) (thousandths : Nat) : Bool :=
  let set := 256 * s.get Reg.SPN_SET_SET_RPM
  let d := if s.speed < set then set - s.speed else s.speed - set
  1000 * d ≤ thousandths * set

/-- SPINUP is released and AT_SPEED, or SLOW at 2400 rpm, committed in the same tick, as far as the free stamps go (R274,
R477). -/
def State.commitRun (s : State) : State :=
  let t := { s with books := { s.books with spinup := none } }
  if s.get Reg.SPN_SET_SET_RPM = 2400 then
    t.putBooks { t.books with slow := some (min (s.get Reg.FRK_COST_SLOW) t.freeStamps) }
  else t.putBooks { t.books with atSpeed := some (min (s.get Reg.FRK_COST_AT_SPEED) t.freeStamps) }

/-- The speed has held within 0.5 % of SET_RPM for 100 ms (R229): AT_SPEED sets, and the reply goes to the START or the
post of SET_RPM that waits for it. -/
def execAtSpeedReached (s : State) : Host.Outcome State Fault Refusal :=
  if s.spSt == 5 && s.motor.heldNs.any (fun t => t + 100000000 ≤ s.clockNs) && s.within 5 && !s.on Reg.SPN_STATUS_AT_SPEED then
    let s := (s.set Reg.SPN_STATUS_AT_SPEED 1).set Reg.SPN_INT_AT_SPEED 1
    let s := { s with pmk := { s.pmk with speedNs := some s.clockNs, timedOut := false } }
    let s := if s.books.spinup.isSome then s.commitRun else s
    match s.spn.startTag with
    | some t => ok ((s.putSpn { s.spn with startTag := none }).reply 0 t 0xA1 [s.tick - s.spn.startTick])
    | none => ok s
  else ok s

/-- At a boundary (R234), by the mean and the spread of the observer's angle less the postmark angle over the last full revolution: the glide
begins, or the handover is refused and waits for the next revolution; the eighth refusal replies FAULT 0x02. -/
def execPostmarkAngleHandover (s : State) : Host.Outcome State Fault Refusal :=
  match s.motor.full, s.pmAngle with
  | some (mean, spread), some pm =>
    if s.spSt == 5 && s.get Reg.SPN_STATUS_ANGLE_SRC == 1 && s.on Reg.SPN_CTRL_PM_COMM_EN &&
        s.get Reg.TCK_STATUS_SRC == 2 && !s.spn.glide && s.get Reg.SPN_COUNTS_REFUSALS < 8 then
      let s := s.putMotor { s.motor with full := none }
      if 360 * mean.natAbs ≤ 15 * 65536 then
        if 360 * spread ≤ 5 * 65536 then
          let s := s.putMotor { s.motor with off := angleDiff (s.get Reg.SPN_ANGLE_ANGLE) pm }
          ok (s.putSpn { s.spn with glide := true })
        else ok s
      else
        let s := s.set Reg.SPN_COUNTS_REFUSALS (s.get Reg.SPN_COUNTS_REFUSALS + 1)
        if s.get Reg.SPN_COUNTS_REFUSALS = 8 then ok (s.spFault 0 0x02) else ok s
    else ok s
  | _, _ => ok s

/-- The commutation angle arrives at the postmark angle (R234). -/
def execPostmarkGlideEnd (s : State) : Host.Outcome State Fault Refusal :=
  if s.spn.glide && s.motor.off = 0 then
    let s := (s.set Reg.SPN_STATUS_ANGLE_SRC 2).set Reg.SPN_COUNTS_REFUSALS 0
    ok ((s.putSpn { s.spn with glide := false }).reply 0 0 0xA3 [2])
  else ok s

/-- The commutation source returns to the observer at a boundary (R235): the postmark is not locked, the source is not disc, or
PM_COMM_EN is 0; the angle glides from its last value. -/
def State.commutationReturn (s : State) : State :=
  if (s.get Reg.SPN_STATUS_ANGLE_SRC == 2 || s.spn.glide) &&
      (!s.pmkLocked || s.get Reg.TCK_STATUS_SRC != 2 || !s.on Reg.SPN_CTRL_PM_COMM_EN) then
    let s := s.putMotor { s.motor with off := angleDiff (s.get Reg.SPN_ANGLE_ANGLE) s.motor.angle }
    (s.set Reg.SPN_STATUS_ANGLE_SRC 1).putSpn { s.spn with glide := false }
  else s

/-- The procedure of R237 begins. -/
def State.observerLost (s : State) : State :=
  let s := ((s.inc Reg.SPN_COUNTS_OBS_LOSSES).set Reg.SPN_STATUS_OBS_LOST 1).set Reg.SPN_INT_OBS_LOST 1
  if s.pmkLocked && s.on Reg.SPN_CTRL_PM_COMM_EN then
    let s := (s.set Reg.SPN_STATUS_ANGLE_SRC 2).putSpn { s.spn with glide := false }
    let s := s.putMotor { s.motor with angle := s.pmAngle.getD s.motor.angle, speed := (s.speed : Int), off := 0, lost := 0 }
    (s.reply 0 0 0xA4 [0x1]).unloadCheck
  else
    let s := s.coast
    (s.putSpn { s.spn with catchLeft := some 3 }).unloadCheck

/-- OBSERVER_LOST (R236, R237): the observer has failed a check in OBS_CONFIRM consecutive ticks, at or above the handover speed. -/
def execObserverLost (s : State) : Host.Outcome State Fault Refusal :=
  if max 1 (s.get Reg.SPN_OBS_OBS_CONFIRM) ≤ s.motor.lost && s.handover ≤ s.speed then
    if s.spSt == 9 then ok (s.putSpn { s.spn with lossAfter := true })
    else if s.spSt == 5 || s.spSt == 6 then ok s.observerLost
    else ok s
  else ok s

/-- The 2 ms coast of R237 ends: a catch begins. -/
def execCatchCoastEnd (s : State) : Host.Outcome State Fault Refusal :=
  if s.spSt == 7 && s.spn.catchLeft.isSome && 2000000 ≤ s.stateNs then ok ((s.setSp 8).unloadCheck) else ok s

/-- No duty for WD_TICKS ticks in PWM (R225): the inverter goes off and the rotor coasts. -/
def execSpindleDutyWatchdog (s : State) : Host.Outcome State Fault Refusal :=
  if s.invMode == 1 && max 1 (s.get Reg.SPN_BRAKE_WD_TICKS) ≤ s.spn.quiet then
    ok ((s.coast.set Reg.SPN_STATUS_WD_EXPIRED 1).spFault 0 0x05)
  else ok s

/-- A level of PWR_DBUS_LVL in mV: 0.1 V above 20 V (R265). -/
def dbusMv (field : Nat) : Nat := 20000 + 100 * field

/-- The bus reaches the flux-braking level (R240), in mV. -/
def execFluxBrakeEnter (busMv : Nat) (s : State) : Host.Outcome State Fault Refusal :=
  if s.invMode == 1 && dbusMv (s.get Reg.PWR_DBUS_LVL_FLUX) ≤ busMv && !s.on Reg.SPN_STATUS_FLUX_BRAKE &&
      !s.on Reg.SPN_STATUS_DISABLED then
    let id : Int := -((s.get Reg.SPN_CURR_ID_FLUX * 20 * 65536 / 1000 : Nat) : Int)
    ok (((s.set Reg.SPN_STATUS_FLUX_BRAKE 1).inc Reg.SPN_COUNTS_FLUX_EVENTS).set (Reg.CRE_X 2) (unsigned 32 id))
  else ok s

/-- The bus has fallen 0.5 V below the level (R240). -/
def execFluxBrakeLeave (busMv : Nat) (s : State) : Host.Outcome State Fault Refusal :=
  if s.on Reg.SPN_STATUS_FLUX_BRAKE && busMv + 500 ≤ dbusMv (s.get Reg.PWR_DBUS_LVL_FLUX) then
    ok ((s.set Reg.SPN_STATUS_FLUX_BRAKE 0).set (Reg.CRE_X 2) 0)
  else ok s

/-- The bus reaches the disable level (R241): every switch opens. -/
def execInverterDisable (busMv : Nat) (s : State) : Host.Outcome State Fault Refusal :=
  if dbusMv (s.get Reg.PWR_DBUS_LVL_DISABLE) ≤ busMv && !s.on Reg.SPN_STATUS_DISABLED && s.pdOn 27 then
    let turning := 2 ≤ s.spSt && s.spSt ≤ 9
    let s := ((s.set Reg.SPN_STATUS_DISABLED 1).inc Reg.SPN_COUNTS_DISABLES).set Reg.SPN_INT_DISABLED 1
    if turning then ok s.coast else ok (s.setInv 0)
  else ok s

/-- The bus has been at least 1 V below the flux level for 1 ms (R241): the loop resumes from the postmark angle, or through
a catch. -/
def execInverterReenable (busMv us : Nat) (s : State) : Host.Outcome State Fault Refusal :=
  if s.on Reg.SPN_STATUS_DISABLED && busMv + 1000 ≤ dbusMv (s.get Reg.PWR_DBUS_LVL_FLUX) && 1000 ≤ us then
    let s := s.set Reg.SPN_STATUS_DISABLED 0
    if s.spSt == 7 && s.spn.taken then
      if s.pmkLocked then
        ok (((s.setInv 1).setSp (if s.spn.method != 0 then 6 else 5)).set Reg.SPN_STATUS_ANGLE_SRC 2)
      else ok (s.setSp 8)
    else ok s
  else ok s

/-- A leg fault (R242 to R244): U, V, W or S. It is marked and told; leg S is substituted where it is idle and sound, and
otherwise the spindle gives up and every loaded actuator unloads. -/
def execLegFault (leg : Nat) (s : State) : Host.Outcome State Fault Refusal :=
  if leg < 4 && s.pdOn 27 then
    let s := (s.setBit Reg.SPN_LEGS_LEG_FAULTS leg true).set Reg.SPN_INT_LEG_FAULT 1
    let s := s.event 0x28 0x08 0 0x28
    if leg == 3 || s.on Reg.SPN_STATUS_SPARE_LEG || s.bit Reg.SPN_LEGS_LEG_FAULTS 3 || s.spSt == 9 then
      let s := (s.coast.notAtSpeed).spFault (s.spn.startTag.getD 0) 0x04
      ok ((s.putSpn { s.spn with startTag := none, swap := none, catchLeft := none }).emUnloadAll 0x1)
    else
      let st := s.spSt
      let s := s.putSpn { s.spn with swap := some leg, swapStart := 2 ≤ st && st ≤ 4, lossAfter := false }
      let s := (s.setInv 0).setSp 9
      if s.pmkLocked then ok s else ok (s.set Reg.SPN_STATUS_ANGLE_SRC 3)
  else ok s

/-- Leg S is joined and checked (R243): SPARE_LEG, LEG_SWAPPED, and PWM again; a start resumes from sensing, and an observer
loss confirmed meanwhile is acted on (R246). -/
def execSpareLegReady (s : State) : Host.Outcome State Fault Refusal :=
  match s.spn.swap with
  | some leg =>
    if s.spSt == 9 then
      let s := (s.set Reg.SPN_STATUS_SPARE_LEG (leg + 1)).set Reg.SYS_SPARES_SPARE_LEG (leg + 1)
      let s := s.reply 0 0 0xA5 [leg + 1]
      let p := s.spn
      let s := (s.putSpn { p with swap := none, lossAfter := false, quiet := 0 }).putMotor { s.motor with riseAt := s.tick, riseTicks := 8 }
      if p.swapStart then ok s.sense
      else
        let s := (s.setInv 1).setSp (if p.method != 0 then 6 else 5)
        let s := if s.get Reg.SPN_STATUS_ANGLE_SRC == 3 then s.set Reg.SPN_STATUS_ANGLE_SRC 1 else s
        if p.lossAfter then ok s.observerLost else ok s
    else ok s
  | none => ok s

/-- No comparator has changed for 2 s (R238, R247): the spindle counts as stopped, and STOPPED answers a STOP. -/
def execSpindleStopped (s : State) : Host.Outcome State Fault Refusal :=
  if s.on Reg.SPN_CTRL_ENABLE && (s.spSt == 6 || s.spSt == 7) && !s.spn.retryWait && 2000000000 ≤ s.quietNs then
    let s := ((((s.setInv 0).setSp 1).set Reg.SPN_SPEED_SPEED 0).set (Reg.CRE_X 0) 0).set Reg.SPN_STATUS_ANGLE_SRC 0
    let p := s.spn
    let s := s.putSpn { p with stopTag := none, method := 0, brake := false, byX32 := false, catchLeft := none, startTag := none }
    match p.stopTag with
    | some t => ok (s.reply 0 t 0xA2 [p.method, s.tick - p.stopTick])
    | none => ok s
  else ok s

/-- X32 as the governor committed it (R227): REGEN set enters the hold-up method, or coasts a start below REGEN_MIN (R246);
REGEN returning to 0 leaves it. -/
def State.followX32 (s : State) : State :=
  let regen := bitOf (s.get (Reg.CRE_X 32)) 31
  let st := s.spSt
  if regen && !s.spn.byX32 && (2 ≤ st && st ≤ 5 || st == 8) then
    let s := s.notAtSpeed
    let s := s.putSpn { s.spn with byX32 := true, startTag := none, retryWait := false }
    if st != 5 && s.speed < 256 * s.get Reg.SPN_SPEEDS_REGEN_MIN then s.coast else s.brakeBy 2
  else if regen && st == 6 && s.spn.method == 1 then (s.putSpn { s.spn with byX32 := true }).brakeBy 2
  else if !regen && s.spn.byX32 then
    let b := s.spn.brake
    let s := s.putSpn { s.spn with byX32 := false, method := 0, brake := false, startTag := some 0, startTick := s.tick }
    if st == 6 then
      if b then (s.setInv 0).setSp 8 else (s.setInv 1).setSp 5
    else s
  else s

/-- Since when the speed has held within 0.5 % of SET_RPM (R229). -/
def State.noteHeld (s : State) : State :=
  let m := s.motor
  s.putMotor { m with heldNs := if s.within 5 then some (m.heldNs.getD s.clockNs) else none }

/-- The spindle loop at a boundary, with the speed the boundary brings in 1/256 rpm: the comparators, the observer, the measured speed, the
limits it crosses, the short brake below REGEN_MIN, the source of the angle, the control of a tick in PWM, and the count of ticks without a
duty. -/
def State.spindleTick (s : State) (brought : Nat) : State :=
  if !s.pdOn 27 then s
  else
    let s := s.watchComparators
    let s := if s.sliceRuns 0 then (s.observe s.handover).compareAngles else s
    let speed := s.measuredSpeed brought
    let s := ((s.set Reg.SPN_SPEED_SPEED speed).set (Reg.CRE_X 0) speed).noteHeld
    let s := s.followX32
    let s := if s.on Reg.SPN_STATUS_AT_SPEED && !s.within 10 then s.notAtSpeed else s
    let s := if s.spSt == 6 && !s.spn.brake && speed < 256 * s.get Reg.SPN_SPEEDS_REGEN_MIN then
        (s.setInv 2).putSpn { s.spn with brake := true }
      else s
    let s := s.commutationReturn.unloadCheck
    let s := if s.invMode == 1 && s.sliceRuns 0 then s.drive else s
    if s.invMode == 1 then s.putSpn { s.spn with quiet := s.spn.quiet + 1 } else s.putSpn { s.spn with quiet := 0 }

/-- A post of SET_RPM while the spindle runs (R245): AT_SPEED clears until the new speed is reached, and the loop then replies
AT_SPEED. -/
def State.speedPosted (s : State) : State :=
  if s.spSt == 5 then
    let s := s.notAtSpeed
    s.putSpn { s.spn with startTag := some (s.spn.startTag.getD 0), startTick := s.tick }
  else s

end Sys2Proof.Machine
end

