-- ==== Sys2Proof/Machine/Seal.lean ====
section
/-!
DEFINITION. Envelopes, seals and posts (R53 to R57, R476), with the zone layout of R112 to R114 that rule 0x03 and a post
that changes the speed or the wedge count need.
-/
namespace Sys2Proof.Machine

/-- Entry `k` of a lane's zone table: head times 64 plus zone (R124). -/
def State.zone (s : State) (x : Act) (k : Nat) : Zone where
  aligned := s.on (Reg.CH_ZONE_LAYOUT x k)
  start := s.get (Reg.CH_ZONE_START_TRACK x k)
  n := s.get (Reg.CH_ZONE_N x k)
  f := s.get (Reg.CH_ZONE_F x k)
  sectors := s.get (Reg.CH_ZONE_SECTORS x k)
  gap := s.get (Reg.CH_ZONE_GAP_T x k)
  post := s.get (Reg.CH_ZONE_SV_POST_T x k)
  pre := s.get (Reg.CH_ZONE_SV_PRE_T x k)
  htrRead := s.get (Reg.CH_ZONE_HTR_READ x k)
  htrWrite := s.get (Reg.CH_ZONE_HTR_WRITE x k)
  iw := s.get (Reg.CH_ZONE_IW x k)
  os := s.get (Reg.CH_ZONE_OS x k)
  pre1 := s.get (Reg.CH_ZONE_PRECOMP_1 x k)
  pre2 := s.get (Reg.CH_ZONE_PRECOMP_2 x k)
  vga := s.get (Reg.CH_ZONE_VGA_SEED x k)
  fc := s.get (Reg.CH_ZONE_CTF_FC x k)
  boost := s.get (Reg.CH_ZONE_CTF_BOOST x k)
  mra := s.get (Reg.CH_ZONE_MRA x k)
  delayInt := s.get (Reg.CH_ZONE_RD_DELAY_INT x k)
  delayFrac := s.get (Reg.CH_ZONE_RD_DELAY_FRAC x k)

/-- The boundary of wedge `k` in T (R112). Bits per revolution are (N·2^24 + F)·2^20 / 2^24. -/
def Zone.b (z : Zone) (wedges k : Nat) : Nat := k * ((z.n * 2 ^ 24 + z.f) * 2 ^ 20) / (2 ^ 24 * max 1 wedges)

/-- The whole sectors from a position (R113). -/
def wholeSectors (h wedge : Nat) : Nat → Nat → Nat → List Place
  | 0, _, _ => []
  | n + 1, pos, s => ⟨s, wedge, pos, 36864⟩ :: wholeSectors h wedge n (pos + h + 36864) (s + 1)

/-- The procedure of R113 from wedge `k` on, for `n` more wedges, with the sectors placed so far and the carry. -/
def Zone.place (z : Zone) (wedges : Nat) : Nat → Nat → Nat → Nat → List Place
  | 0, _, _, _ => []
  | n + 1, k, s, carry =>
    let h := z.gap + 128
    let pos := z.b wedges k + z.post + (if 0 < carry then 32 + carry else 0)
    let lim := z.b wedges (k + 1) - z.pre
    let c := (lim - pos) / (h + 36864)
    let pos' := pos + c * (h + 36864)
    let room := lim - pos' - h
    let cut := !z.aligned && k + 1 < wedges && 2048 ≤ room && pos' + h ≤ lim
    let first := min room 34816 / 8 * 8
    wholeSectors h k c pos s ++
      if cut then ⟨s + c, k, pos', first⟩ :: z.place wedges n (k + 1) (s + c + 1) (36864 - first)
      else z.place wedges n (k + 1) (s + c) 0

/-- The sectors of a track of a zone, in order (R113). -/
def Zone.layout (z : Zone) (wedges : Nat) : List Place := z.place wedges wedges 0 0 0

/-- The nominal bit rate is at most 4.6 Gbit/s at a speed (R114, rule 0x03). -/
def rateOk (n f rpm : Nat) : Bool := (n * 2 ^ 24 + f) * 2 ^ 20 * rpm ≤ 4600000000 * 60 * 2 ^ 24

/-- The conditions for a zone-table entry to be valid (R114). -/
def Zone.valid (z : Zone) (wedges rpm : Nat) : Bool :=
  20 ≤ z.n && z.n ≤ 80 && rateOk z.n z.f rpm && 48 ≤ z.gap &&
    ((List.range wedges).all fun k => z.b wedges k + z.post + z.gap + 128 + 36864 + z.pre ≤ z.b wedges (k + 1)) &&
    z.sectors == (z.layout wedges).length

/-- The zone entry whose VALID bit a key holds. -/
def zoneOfKey (k : Nat) : Option (Act × Nat) :=
  let a := k / 32
  if k % 32 == 31 && 0x40100000 ≤ a && a < 0x40140000 && 0x4000 ≤ a % 0x10000 && a % 0x10000 < 0x8000 && a % 32 == 0 then
    some (Act.num ((a - 0x40100000) / 0x10000), (a % 0x10000 - 0x4000) / 32)
  else none

/-- The valid entries of every lane. -/
def State.validZones (s : State) : List (Act × Nat) :=
  s.regs.filterMap fun p => if p.2 == 1 then zoneOfKey p.1 else none

/-- An entry fails its check (R114): VALID reads 0, ENTRY_ERR 1, and CH_INT tells. -/
def State.zoneFail (s : State) (x : Act) (k : Nat) : State :=
  ((s.set (Reg.CH_ZONE_VALID x k) 0).set (Reg.CH_ZONE_ENTRY_ERR x k) 1).set (Reg.CH_INT_ENTRY_ERR x) 1

/-- The check of an entry at the live speed and wedge count (R114). -/
def State.zoneOk (s : State) (x : Act) (k : Nat) : Bool :=
  (s.zone x k).valid (s.get Reg.PMK_TICKCFG_WEDGES) (s.get Reg.SPN_SET_SET_RPM)

/-- Every valid entry is checked again (R114). -/
def State.zoneRecheck (s : State) : State :=
  s.validZones.foldl (fun s p => if s.zoneOk p.1 p.2 then s else s.zoneFail p.1 p.2) s

/-- The value of a field once a set of staged words is in force: the word's bits where the set writes its register. -/
def State.after (s : State) (ws : List (Nat × Nat)) (f : Fld) : Nat :=
  match ws.find? fun p => p.1 == f.addr with
  | some p => if f.acc == .st then bitsOf p.2 f.hi f.lo else s.get f
  | none => s.get f

/-- The courier cycles a set of allocations leaves of a tick's 25,400, below 0 where it leaves none (R87). -/
def State.reserveAfter (s : State) (ws : List (Nat × Nat)) : Int :=
  let v := s.after ws
  let act := s.acts.foldl (fun n x =>
    n + v (Reg.TCK_ALLOC_LOAD_Q x.n) + v (Reg.TCK_ALLOC_MICRO_Q x.n) + v (Reg.TCK_ALLOC_SERVO_Q x.n)) 0
  25400 - 4 * ((v Reg.TCK_ALLOC_SPN_SPIN_Q + v Reg.TCK_ALLOC_SPN_INJECT_Q + v Reg.TCK_ALLOC_SYS_THERM_Q +
    v Reg.TCK_ALLOC_SYS_FRANK_Q + v Reg.TCK_ALLOC_SYS_GOV_Q + act : Nat) : Int)

/-- Whether a tick is running: the free tick runs whenever PD-CRE is on (R76). -/
def State.tickRuns (s : State) : Bool := s.pdOn 12

/-- A block written by the set is in a domain that is off (rule 0x05). A block that R4 leaves unfitted falls under rule 0x06 alone
(DEDUCED; log 116). -/
def State.rule05 (s : State) (ws : List (Nat × Nat)) : Bool :=
  ws.any fun p => !s.unfitted p.1 && match blockOf p.1 with
    | some b => !s.blkOn b
    | none => true

/-- Rule 0x01: the speed and the wedge count (R54). A set speed of 2400 rpm lies below every flying limit, which is the
inhibit the rule asks for (R229). -/
def State.rule01 (s : State) (ws : List (Nat × Nat)) : Bool :=
  let rpm := s.after ws Reg.SPN_SET_SET_RPM
  let w := s.after ws Reg.PMK_TICKCFG_WEDGES
  !(rpm == 2400 || 3600 ≤ rpm && rpm ≤ 7200) || !(256 ≤ w && w ≤ 640) || 36000 * 60 < rpm * w

/-- Rule 0x03: a valid zone entry of a fitted lane above 4.6 Gbit/s at the speed the set leaves (R54). -/
def State.rule03 (s : State) (ws : List (Nat × Nat)) : Bool :=
  s.validZones.any fun p =>
    s.fitted p.1 && !rateOk (s.get (Reg.CH_ZONE_N p.1 p.2)) (s.get (Reg.CH_ZONE_F p.1 p.2)) (s.after ws Reg.SPN_SET_SET_RPM)

/-- Rule 0x08: the drive-bus levels, in steps of 0.1 V from 20 V (R54, R265). -/
def State.rule08 (s : State) (ws : List (Nat × Nat)) : Bool :=
  let v := s.after ws
  !(v Reg.PWR_DBUS_LVL_CHOP_OFF < v Reg.PWR_DBUS_LVL_CHOP_ON && v Reg.PWR_DBUS_LVL_CHOP_ON < v Reg.PWR_DBUS_LVL_FLUX &&
    v Reg.PWR_DBUS_LVL_FLUX < v Reg.PWR_DBUS_LVL_DISABLE) || 100 < v Reg.PWR_DBUS_LVL_DISABLE

/-- Rule 0x09: the thermal levels in °C (R54, R439). -/
def State.rule09 (s : State) (ws : List (Nat × Nat)) : Bool :=
  let v := s.after ws
  !(v Reg.THM_LVL_WARN < v Reg.THM_LVL_THROT && v Reg.THM_LVL_THROT < v Reg.THM_LVL_SHUT) || 120 < v Reg.THM_LVL_SHUT

/-- Rule 0x0A: the speed or the wedge count changes while a data head is off its ramp (R54, R79). -/
def State.rule0A (s : State) (ws : List (Nat × Nat)) : Bool :=
  (s.after ws Reg.SPN_SET_SET_RPM != s.get Reg.SPN_SET_SET_RPM ||
    s.after ws Reg.PMK_TICKCFG_WEDGES != s.get Reg.PMK_TICKCFG_WEDGES) && s.headsOff

/-- The rules that a set breaks, lowest number first (R54). Rule 0x02 never fails. -/
def State.brokenRules (s : State) (ws : List (Nat × Nat)) : List Nat :=
  [(0x01, s.rule01 ws), (0x03, s.rule03 ws), (0x04, decide (s.reserveAfter ws < 7600)), (0x05, s.rule05 ws),
   (0x06, ws.any fun p => s.unfitted p.1), (0x07, decide (256 < ws.length)), (0x08, s.rule08 ws), (0x09, s.rule09 ws),
   (0x0A, s.rule0A ws), (0x0B, !s.tickRuns)].filterMap fun p => if p.2 then some p.1 else none

/-- The code of the lowest-numbered rule that fails, 0 where none does (R54). -/
def State.sealRule (s : State) (ws : List (Nat × Nat)) : Nat := (s.brokenRules ws).headD 0

/-- The state of the envelope (R476). -/
def State.sealState (s : State) : Nat := s.get Reg.SYS_SEAL_STATUS_STATE

/-- No envelope (R57, R62): STATE is idle, and every staged copy reads its live value. -/
def State.noEnvelope (s : State) : State :=
  { s with env := { s.env with writes := [], armed := none } }.setAll
    [(Reg.SYS_SEAL_STATUS_STATE, 0), (Reg.SYS_SEAL_STATUS_OWNER, 0), (Reg.SYS_SEAL_STATUS_RULE, 0),
     (Reg.SYS_SEAL_STATUS_WRITES, 0)]

/-- The set is rejected under a rule (R54 to R56). -/
def State.rejectSet (s : State) (rule : Nat) : State :=
  { s with env := { s.env with armed := none } }.setAll
    [(Reg.SYS_SEAL_STATUS_STATE, 5), (Reg.SYS_SEAL_STATUS_RULE, rule)]

/-- Put the staged words into the live registers at one instant (R56), with what a post does beside: a changed WEDGES or
SET_RPM has every zone entry checked again (R114); a changed WEDGES or WEDGE0 while the source is disc is reached by slewing
(R79); and the slices may see that a set was posted. -/
def State.applySet (s : State) (ws : List (Nat × Nat)) : State :=
  let t := ws.foldl (fun s p => s.putWord p.1 p.2 fun f => f.acc == .st) s
  let differs (f : Fld) : Bool := t.get f != s.get f
  let speed := differs Reg.SPN_SET_SET_RPM || differs Reg.PMK_TICKCFG_WEDGES
  let phase := differs Reg.PMK_TICKCFG_WEDGES || differs Reg.PMK_WEDGE0_CYCLE || differs Reg.PMK_WEDGE0_FRAC
  let t := if speed then t.zoneRecheck else t
  let t := if phase && t.get Reg.TCK_STATUS_SRC == 2 then
      (t.set Reg.TCK_STATUS_SRC 1).set Reg.TCK_STATUS_WR_HOLD 1
    else t
  let t := if differs Reg.SPN_SET_SET_RPM then t.speedPosted else t
  let t := if ws.any fun p => p.1 == Reg.SPN_PMZERO_PM_ZERO.addr then t.set Reg.SPN_COUNTS_REFUSALS 0 else t
  ({ t with eng := { t.eng with posted := true } }).set Reg.SYS_SEAL_POSTED_POSTED_TICK t.tickLo

/-- The set armed for this boundary is posted at it (R56). -/
def State.sealPosts (s : State) : Bool :=
  s.sealState == 4 && s.env.armed == some s.tick && !s.rule05 s.env.writes && s.tickRuns

/-- The armed boundary (R56): rules 0x05 and 0x0B are checked again, and the set is posted or rejected. -/
def State.sealTick (s : State) : State :=
  match s.env.armed with
  | none => s
  | some t =>
    if s.sealState == 4 && t == s.tick then
      if s.rule05 s.env.writes then s.rejectSet 0x05
      else if !s.tickRuns then s.rejectSet 0x0B
      else (s.applySet s.env.writes).noEnvelope
    else s

/-- An envelope command written to SYS_SEAL_CTRL (R476): accepted in the states and from the cores of the table, ignored and
reported otherwise. -/
def State.sealCmd (s : State) (core : Nat) (states : List Nat) (f : State → State) : State :=
  s.access (.core core) 0x40000010 4 fun s =>
    if states.contains s.sealState && (s.sealState == 0 || s.get Reg.SYS_SEAL_STATUS_OWNER == core) then
      { f s with bus := .written }
    else s.ignored (.core core) 0x40000010

/-- OPEN (R53). -/
def execEnvelopeOpen (core : Nat) (s : State) : Host.Outcome State Fault Refusal :=
  ok (s.sealCmd core [0] fun s =>
    s.noEnvelope.setAll [(Reg.SYS_SEAL_STATUS_STATE, 1), (Reg.SYS_SEAL_STATUS_OWNER, core)])

/-- Record a staged word: a later write to the same register replaces the earlier value (R54). WRITES, of nine bits, stops at 511 where
more registers are staged than it can show (DESIGN CHOICE; log 130). -/
def State.stage (s : State) (live v : Nat) : State :=
  let w := if s.env.writes.any fun p => p.1 == live
    then s.env.writes.map fun p => if p.1 == live then (live, v) else p
    else s.env.writes ++ [(live, v)]
  { s with env := { s.env with writes := w } }.set Reg.SYS_SEAL_STATUS_WRITES (min 511 w.length)

/-- Whether a staged write counts for nothing on the VK-232M: TCK_ALLOC_C and TCK_ALLOC_D ignore it (R91). -/
def State.deadStage (s : State) (live : Nat) : Bool :=
  s.variant == .vk232m && (live == 0x40020058 || live == 0x4002005C)

/-- A write to a staged copy that the bus lets through: the owner's is recorded while the envelope is open; any other is
ignored and reported (R53, R54). A register with no staged copy behaves as reserved (R9). -/
def State.stageWrite (s : State) (i : Initiator) (a v : Nat) : State :=
  let live := liveOf a
  if !stageable live then { s with bus := .written }
  else if s.sealState == 1 && i == .core (s.get Reg.SYS_SEAL_STATUS_OWNER) then
    if s.deadStage live then { s with bus := .written } else { s.stage live (v % 2 ^ 32) with bus := .written }
  else s.ignored i a

/-- STAGED_COPY_WRITE (R7, R54). The copies of unfitted blocks take no value, and the set that writes them is rejected under
rule 0x06 (R4). -/
def execStagedCopyWrite (i : Initiator) (a size v : Nat) (s : State) : Host.Outcome State Fault Refusal :=
  if !isStaged a then ok s
  else if s.unfitted a && size == 4 && a % 4 == 0 then ok (s.stageWrite i a v)
  else ok (s.access i a size fun s => s.stageWrite i a v)

/-- SEAL (R54): the checker starts. -/
def execEnvelopeSeal (core : Nat) (s : State) : Host.Outcome State Fault Refusal :=
  ok (s.sealCmd core [1] fun s => s.set Reg.SYS_SEAL_STATUS_STATE 2)

/-- The checker ends (R54). -/
def execSealCheckDone (s : State) : Host.Outcome State Fault Refusal :=
  if s.sealState = 2 then
    let r := s.sealRule s.env.writes
    if r = 0 then ok ((s.set Reg.SYS_SEAL_STATUS_STATE 3).set Reg.SYS_SEAL_STATUS_RULE 0) else ok (s.rejectSet r)
  else ok s

/-- The boundary that a POST arms, as a full tick count, where it is not late (R55). -/
def State.postTarget (s : State) (nsToNext : Nat) : Option Nat :=
  let t := s.get Reg.SYS_SEAL_TICK_TARGET
  let d := (t + 2 ^ 32 - s.tickLo) % 2 ^ 32
  if t = 0 then some (if 2000 ≤ nsToNext then s.tick + 1 else s.tick + 2)
  else if d = 0 || 2 ^ 31 < d || (d = 1 && nsToNext < 2000) then none
  else some (s.tick + d)

/-- POST (R55), so many ns before the next boundary. -/
def execEnvelopePost (core nsToNext : Nat) (s : State) : Host.Outcome State Fault Refusal :=
  ok (s.sealCmd core [3] fun s =>
    if !s.tickRuns then s.rejectSet 0x0B
    else
      match s.postTarget nsToNext with
      | none => s.set Reg.SYS_SEAL_STATUS_LATE 1
      | some t => { s with env := { s.env with armed := some t } }.set Reg.SYS_SEAL_STATUS_STATE 4)

/-- ABORT (R57). -/
def execEnvelopeAbort (core : Nat) (s : State) : Host.Outcome State Fault Refusal :=
  ok (s.sealCmd core [1, 3, 4, 5] fun s => s.noEnvelope)

end Sys2Proof.Machine
end

