-- ==== Sys2Proof/Machine/Postmark.lean ====
section
/-!
DEFINITION. The postmark: its heads, streams and angle (R63 to R72, R81, R82), and the commands on the tick scheduler's
registers (R79, R80, R87, R91).
-/
namespace Sys2Proof.Machine

/-- The postmark stamps are committed before a driver is energised (R274, R278). False where the free stamps do not cover
them. -/
def State.commitPmk (s : State) : State × Bool :=
  if s.books.pmk.isSome then (s, true)
  else if s.get Reg.FRK_COST_MISC_PMK ≤ s.freeStamps then
    (s.putBooks { s.books with pmk := some (s.get Reg.FRK_COST_MISC_PMK) }, true)
  else (s, false)

/-- A head is loaded where its load bit is 1, the speed is at or above the flying limit, and no ramp fault keeps it out
(R66, R67). -/
def State.loadHead (s : State) (b : Bool) : State :=
  let bit := if b then s.on Reg.PMK_CTRL_HEAD_B_LOAD else s.on Reg.PMK_CTRL_HEAD_A_LOAD
  if bit && s.pmk.flying && !s.rampFaulty b && !s.energised b && s.pdOn 11 then
    let c := s.commitPmk
    if c.2 then c.1.setEnergised b true else s
  else s

/-- Both heads are judged under R66: a driver whose load bit is 0 is de-energised. -/
def State.loadHeads (s : State) : State :=
  let s := if s.on Reg.PMK_CTRL_HEAD_A_LOAD then s else s.setEnergised false false
  let s := if s.on Reg.PMK_CTRL_HEAD_B_LOAD then s else s.setEnergised true false
  ((s.loadHead false).loadHead true).pmkRefresh

/-- The spindle crosses the flying limit (R66): the drivers are energised, or both are de-energised and the load bits stay. -/
def execFlyingLimitCrossed (rising : Bool) (s : State) : Host.Outcome State Fault Refusal :=
  let s := { s with pmk := { s.pmk with flying := rising } }
  if rising then ok s.loadHeads
  else ok ((s.setEnergised false false).setEnergised true false).pmkRefresh

/-- A head's ramp fault (R67): RAMP_FAULT, the driver de-energised, and its streams not used until PMK_CTRL is written: those that were
valid are dropped. -/
def State.rampFault (s : State) (b : Bool) : State :=
  let s := (s.set Reg.PMK_STATUS_RAMP_FAULT 1).setEnergised b false
  let s := if b then { s with pmk := { s.pmk with faultB := true } } else { s with pmk := { s.pmk with faultA := true } }
  (s.dropStreams (if b then [2, 3] else [0, 1])).pmkRefresh

/-- A park line closes (R67): a ramp fault while its driver is energised. -/
def execParkSwitchClose (headB : Bool) (s : State) : Host.Outcome State Fault Refusal :=
  let s := s.set (if headB then Reg.PMK_STATUS_PARK_B else Reg.PMK_STATUS_PARK_A) 1
  if s.energised headB then ok (s.rampFault headB) else ok s.pmkRefresh

/-- A park line has stayed closed since its driver was energised, for more than 150 ms (R67): a ramp fault. -/
def execRampFaultTimeout (headB : Bool) (s : State) : Host.Outcome State Fault Refusal :=
  let since := if headB then s.pmk.sinceB else s.pmk.sinceA
  if s.energised headB && s.parked headB && 150000000 < s.clockNs - since then ok (s.rampFault headB) else ok s

/-- A stream with an amplitude in tenths of a mV and the detections of its index on the last two revolutions (R70): with its loop in place for
4096 ring cycles it becomes valid, and the first one locks the postmark (R72). A source of wedge slews back to the disc tick (R84). -/
def execPmkStreamValid (stream amp : Nat) (a b : IndexFind) (s : State) : Host.Outcome State Fault Refusal :=
  if stream < 4 && s.streamRead stream && s.bit Reg.PMK_CTRL_STREAM_EN stream && !s.bit Reg.PMK_STATUS_VALID stream &&
      s.get Reg.PMK_AMP_AMP_MIN ≤ amp && 4096 ≤ s.pmk.tracked.getD stream 0 && s.indexFound stream a b then
    let s := s.setStream stream true
    let s := { s with pmk := { s.pmk with degraded := false } }.pmkRefresh
    if s.get Reg.TCK_STATUS_SRC == 3 || s.tck.toWedge.isSome then
      ok ({ s with tck := { s.tck with toWedge := none } }.set Reg.TCK_STATUS_SRC 1)
    else ok s
  else ok s

/-- The number of valid streams. -/
def State.streams (s : State) : Nat := ((List.range 4).filter fun n => s.bit Reg.PMK_STATUS_VALID n).length

/-- Whether a stream drops for a cause (R70): an amplitude below AMP_MIN for 64 ring cycles, an index missing or misplaced, a
phase departure of more than 1/64 cycle (64 of 1/4096) for 256 ring cycles, which counts with at least three streams valid, or
with exactly two, which depart from each other, for the one further from the disc clock's projection. -/
def State.drops (s : State) (n : Nat) (c : DropCause) : Bool :=
  match c with
  | .amplitude amp cycles => amp < s.get Reg.PMK_AMP_AMP_MIN && 64 ≤ cycles
  | .index found => !found.any fun f => indexAt f (s.streamOffset n)
  | .phase ofs cycles own other =>
    64 < ofs && 256 ≤ cycles && (3 ≤ s.streams || (s.streams == 2 && other < own))
  | .disabled => false

/-- PMK_STREAM_DROP (R70, R71). A stream that STREAM_EN or ENABLE no longer allows drops at once. -/
def execPmkStreamDrop (stream : Nat) (c : DropCause) (s : State) : Host.Outcome State Fault Refusal :=
  if s.drops stream c || !s.bit Reg.PMK_CTRL_STREAM_EN stream || !s.on Reg.PMK_CTRL_ENABLE then ok (s.dropStream stream) else ok s

/-- PMK_CTRL was written (R66, R67, R70): ramp faults are forgiven, the bias follows ENABLE, streams no longer allowed drop, and the heads
are judged again. -/
def State.pmkCtrlWritten (s : State) : State :=
  let s := { s with pmk := { s.pmk with faultA := false, faultB := false, bias := s.readerBias } }
  (s.dropStreams ((List.range 4).filter fun n => !(s.bit Reg.PMK_CTRL_STREAM_EN n && s.on Reg.PMK_CTRL_ENABLE))).loadHeads

/-- 600 ms have passed since this operating speed was reached, without a lock (R81): once for it, ACQ_TIMEOUT, the event, and degraded timing
where DEGRADE_OK is 1. -/
def execPmkAcqTimeout (s : State) : Host.Outcome State Fault Refusal :=
  if (s.pmk.speedNs.any fun t => 600000000 ≤ s.clockNs - t) && !s.pmk.timedOut && !s.pmkLocked then
    let s := (s.set Reg.PMK_STATUS_ACQ_TIMEOUT 1).event 0x01 0x07 0 0x01
    ok { s with pmk := { s.pmk with timedOut := true, degraded := s.on Reg.PMK_CTRL_DEGRADE_OK } }
  else ok s

/-- A head comes off its ramp, and its park line opens, where its driver is energised (R64, R80). -/
def State.parkOpen (s : State) (b : Bool) : State :=
  if s.energised b then s.set (if b then Reg.PMK_STATUS_PARK_B else Reg.PMK_STATUS_PARK_A) 0 else s

/-- The postmark at a boundary: the bias follows a post of BIAS, heads that wait for stamps are tried again, park lines that opened show, the
tracking loops are judged, and while it is locked PMK_ANGLE and port 0x10 take the angle (R72); otherwise PMK_ANGLE reads 0 (R91). -/
def State.pmkTick (s : State) (f : TickFacts) : State :=
  if !s.pdOn 11 then s
  else
    let s := ({ s with pmk := { s.pmk with bias := s.readerBias } }.loadHeads)
    let s := ((f.opened.foldl (fun (s : State) b => s.parkOpen b) s).pmkRefresh).trackTick f.phases f.ns
    let revPeriod := f.revPeriod
    let angle := s.rotorAngle f.phases f.sinceChange
    let s := { s with pmk := { s.pmk with glide := s.glideLeft f.sinceChange } }
    match angle with
    | some a =>
      let s := s.setAll [(Reg.PMK_ANGLE_CYCLE, a / 4096), (Reg.PMK_ANGLE_FRAC, a), (Reg.PMK_REV_REV_PERIOD, revPeriod)]
      (s.latch 0x10 a).latch 0x11 revPeriod
    | none => s.setAll [(Reg.PMK_ANGLE_CYCLE, 0), (Reg.PMK_ANGLE_FRAC, 0)]

/-- One full revolution has passed with the source at disc (R79): writes are free again. -/
def execWriteHoldRelease (s : State) : Host.Outcome State Fault Refusal :=
  if s.get Reg.TCK_STATUS_SRC == 2 && s.get Reg.PMK_TICKCFG_WEDGES ≤ s.tck.discTicks then
    ok (s.set Reg.TCK_STATUS_WR_HOLD 0)
  else ok s

/-- FORCE_FREE written (R80): a 1 while a data head is off its ramp is ignored and reported. -/
def execForceFreeWrite (i : Initiator) (v : Bool) (s : State) : Host.Outcome State Fault Refusal :=
  ok (s.access i 0x40020000 4 fun s =>
    if v && s.headsOff then s.ignored i 0x40020000
    else { s.set Reg.TCK_CTRL_FORCE_FREE (b2n v) with bus := .written })

/-- CLR_PEAK written 1 (R87, R91). -/
def execTckClrPeak (i : Initiator) (s : State) : Host.Outcome State Fault Refusal :=
  ok (s.access i 0x40020000 4 fun s => { s.set Reg.TCK_PEAK_PEAK_CYCLES 0 with bus := .written })

/-- A read of TCK_COUNT_LO (R76, R91): the low half of the count, with the high half latched. -/
def execTckCountLoRead (i : Initiator) (s : State) : Host.Outcome State Fault Refusal :=
  ok (s.access i 0x40020008 4 fun s =>
    { s.set Reg.TCK_COUNT_HI_COUNT_HI (s.tick / 2 ^ 32) with bus := .read (s.tick % 2 ^ 32) })

end Sys2Proof.Machine
end

