-- ==== Sys2Proof/Machine/Signal.lean ====
section
/-!
DEFINITION. The read signal of a sector (R85, R94 to R100, R109 to R111): the alignment of the two readers, the two-dimensional equaliser and
its adaptation, the marks and the framing, and the 16-state detector. Positions are in T of the zone clock from the disc-tick boundary of the
wedge a stretch follows. What the spec leaves open of these parts is free (`Config`): log 135.
-/
namespace Sys2Proof.Machine

/-- A sample as the 6-bit ADC gives it (R94). -/
def adc (v : Int) : Int := clampInt (-32) 31 v

/-- A sample sits at a limit of the ADC (R143). -/
def clipped (v : Int) : Bool := v == -32 || v == 31

/-- A list of integers taken from position `a` on, `n` of them, where the list begins at position `start`; 0 where it has none. -/
def slice (l : List Int) (start a : Int) (n : Nat) : List Int :=
  let pad := min n (start - a).toNat
  let t := (l.drop (a - start).toNat).take (n - pad)
  List.replicate pad 0 ++ t ++ List.replicate (n - pad - t.length) 0

/-- The leading reader's samples delayed by a fraction (R95): each from the sixteen up to it, newest first. -/
def interpolated (frac : Nat) : List Int → List Int → List Int
  | _, [] => []
  | w, v :: t => Config.interpolate frac ((v :: w).take 16) :: interpolated frac ((v :: w).take 16) t

/-- The leading reader's samples at the equaliser's input (R95): delayed by RD_DELAY_INT + RD_DELAY_FRAC/64 T. -/
def delayed (z : Zone) (lead : List Int) : List Int :=
  let l := (List.replicate z.delayInt 0 ++ lead).take lead.length
  if z.delayFrac = 0 then l else interpolated z.delayFrac [] l

/-- The trailing reader's samples while the write gate is raised (R96), without the feedthrough of the bits being sent: sample `k` meets the
bits up to bit `k + ahead` of the write data. -/
def cancelled (bits : List Bool) (ahead : Int) (trail : List Int) : List Int :=
  trail.zipIdx.map fun p => Config.cancel ((bits.take ((p.2 : Int) + ahead + 1).toNat).reverse.take 16) p.1

/-- An 8-bit value of tap memory as the equaliser uses it, from one kept in 2^-22 of the unit 1 (R98). -/
def tapOf (v : Int) : Int := clampInt (-128) 127 ((v + 32768) / 65536)

/-- The sum of products of two lists (R98). -/
def fir (c w : List Int) : Int := (c.zipWith (· * ·) w).foldl (· + ·) 0

/-- A bit as the medium's polarity: 1 for a bit of 1, −1 for a bit of 0 (log 135). -/
def polarity (b : Bool) : Int := if b then 1 else -1

/-- What the target makes of bits, newest first, in 1/64 of a sample's unit (R98): the target is monic, and its unit is open. -/
def targetOf (target : List Int) (bits : List Bool) : Int :=
  (Config.targetUnit : Int) * fir (64 :: target.map tapOf) (bits.map polarity)

/-- The settings of the adaptation (R99): whether the taps and the target adapt, and the steps. -/
structure Lms where
  taps : Bool
  target : Bool
  muEq : Nat
  muTgt : Nat
  deriving DecidableEq, Repr

/-- The equaliser at work: the taps, the last 40 samples of each reader, the last 32 outputs and tentative decisions, newest first, and the T of
the codeword so far. -/
structure Equaliser where
  taps : Taps
  lead : List Int
  trail : List Int
  ys : List Int
  bits : List Bool
  count : Nat
  deriving DecidableEq, Repr

/-- The equaliser with nothing in its windows. -/
def Equaliser.start (t : Taps) : Equaliser := ⟨t, List.replicate 40 0, List.replicate 40 0, List.replicate 32 0, List.replicate 32 false, 0⟩

/-- A step of least mean squares (R99): each value moves against the error times what it weighs, by 2^-mu. -/
def lms (mu : Nat) (e : Int) (v w : List Int) : List Int :=
  v.zipWith (fun a x => clampInt (-8388608) 8388607 (a - e * x * (Config.lmsUnit : Int) / ((2 ^ mu : Nat) : Int))) w

/-- The adaptation with the error of 24 T ago, between y and the target's response to the tentative decisions (R99). -/
def Equaliser.adapt (c : Lms) (q : Equaliser) : Equaliser :=
  let bits := q.bits.drop 24
  let e := 64 * q.ys.getD 24 0 - targetOf q.taps.target (bits.take 5)
  let t := q.taps
  let t := if c.taps then { t with lead := lms c.muEq e t.lead (q.lead.drop 24), trail := lms c.muEq e t.trail (q.trail.drop 24) } else t
  let t := if c.taps && c.target then { t with target := lms c.muTgt (-e) t.target ((bits.drop 1).map polarity) } else t
  { q with taps := t }

/-- One T of the equaliser (R98): y[n] = Σ a[i]·lead[n − i] + Σ b[i]·trail[n − i], as a 6-bit sample, with the framing detector's decision; in a
codeword the taps adapt once in 32 T (R99). -/
def Equaliser.step (c : Option Lms) (q : Equaliser) (l t : Int) : Equaliser :=
  let lead := (l :: q.lead).take 40
  let trail := (t :: q.trail).take 40
  let y := adc ((fir (q.taps.lead.map tapOf) lead + fir (q.taps.trail.map tapOf) trail + 32) / 64)
  let b := Config.tentative (q.taps.target.map tapOf) (q.bits.take 4) y
  let q := { q with lead := lead, trail := trail, ys := (y :: q.ys).take 32, bits := (b :: q.bits).take 32 }
  match c with
  | none => { q with count := 0 }
  | some c =>
    let q := { q with count := q.count + 1 }
    if q.count % 32 = 0 then q.adapt c else q

/-- The equaliser over a list of sample pairs: its state after them, and y and the decision of each. -/
def Equaliser.run (c : Option Lms) : Equaliser → List (Int × Int) → Equaliser × List (Int × Bool)
  | q, [] => (q, [])
  | q, p :: t =>
    let q' := q.step c p.1 p.2
    let r := Equaliser.run c q' t
    (r.1, (q'.ys.headD 0, q'.bits.headD false) :: r.2)

/-- The bits of a mark, the most significant first (R108). -/
def markBits (n v : Nat) : List Bool := (List.range n).map fun k => bitOf v (n - 1 - k)

/-- The primary sync mark, the fallback sync mark and the resync mark (R108). -/
def primaryMark : List Bool := markBits 24 0xB43E71
def fallbackMark : List Bool := markBits 24 0x1E6A5D
def resyncMark : List Bool := markBits 16 0x9AC7

/-- In how many places decisions differ from a mark, those that are missing among them. -/
def mismatches (mark bits : List Bool) : Nat :=
  ((mark.zip (bits.map some ++ List.replicate mark.length none)).filter fun p => some p.1 != p.2).length

/-- The framing detector's report of a mark (R109): the position in its window, `w` T about the predicted one, where the decisions differ in the
fewest places, at most `tol`; of two the earlier. The decisions begin at position `start`. -/
def searchMark (mark : List Bool) (tol w : Nat) (bits : List Bool) (start predicted : Int) : Option Int :=
  let at_ (k : Nat) : Int := predicted - w + k
  let miss (k : Nat) : Nat := if at_ k < start then mark.length else mismatches mark ((bits.drop (at_ k - start).toNat).take mark.length)
  let best := (List.range (2 * w + 1)).foldl (fun (b : Option (Nat × Nat)) k =>
    match b with
    | none => some (k, miss k)
    | some p => if miss k < p.2 then some (k, miss k) else b) none
  match best with
  | some p => if p.2 ≤ tol then some (at_ p.1) else none
  | none => none

/-- What of the registers bears on a sector from its start (R83, R99, R109, R110, R134): the half width of the windows, the mismatches allowed,
whether the fallback mark counts, and the adaptation. -/
structure SectorCfg where
  window : Nat
  tol : Nat
  resyncTol : Nat
  fallbackEn : Bool
  lms : Lms
  deriving DecidableEq, Repr

/-- What the lane makes of a sector's signal: the samples held, the failure of its framing (0 for none; R110, R111), whether the fallback mark
alone framed it, the primary mark's distance from the format's place for it, and the taps as they adapted. -/
structure Framed where
  held : Held
  code : Nat
  lone : Bool
  skew : Option Int
  taps : Taps
  deriving DecidableEq, Repr

/-- The readers' samples of a stretch, aligned (R95). -/
def alignedPairs (z : Zone) (g : Stretch) : List (Int × Int) := (delayed z (g.lead.map adc)).zip (g.trail.map adc)

/-- Equalise a fragment whose codeword starts at a position, `n` T long (R98, R99): the samples from 16 T before it to 16 T after it, and the
taps after it. -/
def Equaliser.fragment (c : Lms) (q : Equaliser) (l : List (Int × Int)) (start base : Int) (n : Nat) : List Int × Equaliser :=
  let before := (base - start).toNat
  let a := q.run none (l.take before)
  let b := Equaliser.run (some c) a.1 ((l.drop before).take n)
  let e := Equaliser.run none b.1 ((l.drop (before + n)).take 16)
  (slice ((a.2 ++ b.2 ++ e.2).map (·.1)) start (base - 16) (n + 32), e.1)

/-- The lane reads a sector (R85, R98 to R100, R109 to R111): `gap` is the position of its gap after the wedge of its header, `post` that of a
resumed fragment after the next wedge, and `skew` the head's skew in T. -/
def frameSector (c : SectorCfg) (z : Zone) (taps : Taps) (gap first skew : Int) (sig : List Stretch) : Framed :=
  let s1 := sig.headD ⟨0, [], []⟩
  let l := alignedPairs z s1
  let q := Equaliser.start taps
  let nominal := gap + z.gap + 64
  let p0 := nominal + skew
  let head := (q.run none (l.take (p0 + 64 + c.window + 1 - s1.start).toNat)).2.map (·.2)
  let p := searchMark primaryMark c.tol c.window head s1.start p0
  let f := searchMark fallbackMark c.tol c.window head s1.start (p0 + 40)
  let en := c.fallbackEn
  let base := match p, f with
    | some a, _ => a + 64
    | none, some b => if en then b + 24 else p0 + 64
    | none, none => p0 + 64
  let one := q.fragment c.lms l s1.start base first.toNat
  let lone := p.isNone && f.isSome && en
  let lost := p.isNone && !(f.isSome && en)
  let mark (m : Option Int) (at_ : Int) : Option Int := m.map (· - at_)
  let held (two : List Int) : Held := ⟨one.1, two, first.toNat, mark p p0, mark f (p0 + 40)⟩
  let skewOf := p.map (· - nominal)
  if lost then ⟨held [], 0x21, false, skewOf, taps⟩
  else if 36864 ≤ first then ⟨held [], 0, lone, skewOf, one.2.taps⟩
  else
    let s2 := sig.getD 1 ⟨0, [], []⟩
    let l2 := alignedPairs z s2
    let r0 := (z.post : Int) + 16 + skew
    let q2 := Equaliser.start one.2.taps
    let bits := (q2.run none (l2.take (r0 + 16 + c.window + 1 - s2.start).toNat)).2.map (·.2)
    match searchMark resyncMark c.resyncTol c.window bits s2.start r0 with
    | none => ⟨held [], 0x22, lone, skewOf, one.2.taps⟩
    | some r =>
      let two := q2.fragment c.lms l2 s2.start (r + 16) (36864 - first).toNat
      ⟨held two.1, 0, lone, skewOf, two.2.taps⟩

/-- The 36,864 samples of a codeword whose start is shifted by a slip, which moves the first fragment alone (R142). -/
def Held.samples (h : Held) (slip : Int) : List Int :=
  slice h.one (-16) slip h.first ++ slice h.two (-16) 0 (36864 - h.first)

/-- The fallback start of the held samples relative to the primary one, where both marks were found (R142). -/
def Held.fallbackStart (h : Held) : Option Int :=
  match h.primary, h.fallback with
  | some p, some f => some (f - p)
  | _, _ => none

/-- The framing detector's decisions on samples (R100), each by the target, the four before it and the sample. -/
def tentatives (target : List Int) : List Bool → List Int → List Bool
  | _, [] => []
  | w, y :: t =>
    let b := Config.tentative target (w.take 4) y
    b :: tentatives target ((b :: w).take 4) t

/-- The errors of samples against the target's response to tentative decisions, in 1/64 of a sample's unit. -/
def errorsOf (target : List Int) : List Bool → List (Int × Bool) → List Int
  | _, [] => []
  | w, p :: t => (64 * p.1 - targetOf target ((p.2 :: w).take 5)) :: errorsOf target ((p.2 :: w).take 4) t

/-- Each sample with the three errors before it, newest first. -/
def withPast : List Int → List (Int × Int) → List (Int × List Int)
  | _, [] => []
  | w, p :: t => (p.1, w) :: withPast ((p.2 :: w).take 3) t

/-- The cost of a branch of the detector (R100): from a state of the last four bits, newest in bit 0, with the next bit; the squared error less
what the noise predictor of the state's pattern expects of it, times that pattern's scale. -/
def branchCost (t : Taps) (y : Int) (past : List Int) (st : Nat) (b : Bool) : Int :=
  let e := 64 * y - targetOf t.target (b :: (List.range 4).map (bitOf st))
  let n := e - fir ((t.noise.drop (3 * st)).take 3) past / 128
  n * n * ((t.scale.getD st 64 : Nat) : Int) / 64

/-- The state after a bit. -/
def nextState (st : Nat) (b : Bool) : Nat := (2 * st + b2n b) % 16

/-- The least of a list of integers. -/
def leastOf : List Int → Int
  | [] => 0
  | a :: t => t.foldl min a

/-- The costs of the sixteen states after one more sample (R100: max-log). -/
def forward (cost : Nat → Bool → Int) (a : List Int) : List Int :=
  (List.range 16).map fun n =>
    let b := bitOf n 0
    min (a.getD (n / 2) 0 + cost (n / 2) b) (a.getD (n / 2 + 8) 0 + cost (n / 2 + 8) b)

/-- The costs to go of the sixteen states before a sample. -/
def backward (cost : Nat → Bool → Int) (b : List Int) : List Int :=
  (List.range 16).map fun st => min (cost st false + b.getD (nextState st false) 0) (cost st true + b.getD (nextState st true) 0)

/-- The costs of the states before each sample, in order. -/
def forwards (cost : (Int × List Int) × Int → Nat → Bool → Int) : List Int → List ((Int × List Int) × Int) → List (List Int)
  | _, [] => []
  | a, y :: t => a :: forwards cost (forward (cost y) a) t

/-- The metric difference of a bit: the least cost with it 1 less the least with it 0. -/
def metric (cost : Nat → Bool → Int) (a b : List Int) : Int :=
  let via (v : Bool) : Int := leastOf ((List.range 16).map fun st => a.getD st 0 + cost st v + b.getD (nextState st v) 0)
  via true - via false

/-- An LLR of 6 bits (R100), positive where the bit is more likely 0, saturating at ±31: 0 where the metrics tie, else at least 1 in
magnitude, by a scale that is open. -/
def llrOf (d : Int) : Int :=
  if d = 0 then 0 else
    let m : Int := (min 31 (1 + Config.llrScale d.natAbs) : Nat)
    if 0 < d then m else -m

/-- The 16-state max-log-MAP detector over samples (R100), with what is known of each bit beforehand, positive where it is more likely 0 (R104:
the decoder's extrinsic values). The first four bits' history is unknown: every state may begin. -/
def detect (t : Taps) (prior samples : List Int) : List Int :=
  let target := t.target.map tapOf
  let bits := tentatives target [] samples
  let past := withPast [] (samples.zip (errorsOf t.target [] (samples.zip bits)))
  let ys := past.zip (prior ++ List.replicate samples.length 0)
  let cost (y : (Int × List Int) × Int) (st : Nat) (b : Bool) : Int :=
    branchCost t y.1.1 y.1.2 st b + (if b then y.2 * (Config.priorUnit : Int) else 0)
  let fs := forwards cost (List.replicate 16 0) ys
  ((ys.zip fs).foldr (fun (p : ((Int × List Int) × Int) × List Int) (r : List Int × List Int) =>
    (backward (cost p.1) r.1, llrOf (metric (cost p.1) p.2 r.1) :: r.2)) (List.replicate 16 0, [])).2

/-- How many places LLRs decide otherwise than a codeword's bits (R136: the detector's hard decisions). -/
def rawErrors (llrs : List Int) (blocks : List Nat) : Nat :=
  ((llrs.zip (blocks.flatMap fun v => (List.range 256).map (bitOf v))).filter fun p => decide (p.1 < 0) != p.2).length

/-- The length of the run of clipped samples each sample stands in, where it is so far `n`. -/
def runLengths : Nat → List Int → List Nat
  | _, [] => []
  | n, y :: t =>
    let r := runLengths (if clipped y then n + 1 else 0) t
    (if clipped y then max (n + 1) (r.headD 0) else 0) :: r

/-- The LLRs with every run of 8 or more consecutive samples at an ADC limit erased (R143). -/
def erase (samples llrs : List Int) : List Int :=
  llrs.zipWith (fun v n => if 8 ≤ n then 0 else v) (runLengths 0 samples)

end Sys2Proof.Machine
end

