-- ==== Sys2Proof/Machine/Sector.lean ====
section
/-!
DEFINITION. A sector on the media and the contents of its codeword (R108, R115 to R118, R120), and the form in which a sector's samples stand in
DRAM (R106, R140).
-/
namespace Sys2Proof.Machine

/-- One step of the scrambler's LFSR, x^32 + x^22 + x^2 + x + 1 (R117), shifting left (DEDUCED; log 20). -/
def lfsrStep (r : Nat) : Nat :=
  2 * r % 2 ^ 32 + b2n (bitOf r 31 != (bitOf r 21 != (bitOf r 1 != bitOf r 0)))

/-- The next eight output bits, first bit in the highest place, and the register after them. -/
def lfsrByte (r : Nat) : Nat × Nat :=
  (List.range 8).foldl (fun p _ => (2 * p.1 + b2n (bitOf p.2 31), lfsrStep p.2)) (0, r)

/-- XOR bytes with the scrambler's output from a register value (R117). -/
def scramble : Nat → List Nat → List Nat
  | _, [] => []
  | r, b :: t => (b ^^^ (lfsrByte r).1) :: scramble (lfsrByte r).2 t

/-- The scrambler's seed for an identity (R117). -/
def scrambleSeed (identity : Nat) : Nat :=
  let v := identity % 2 ^ 32 ^^^ 0x9E3779B9
  if v = 0 then 1 else v

/-- The sector identity (R116). -/
def identityOf (surface track sector epoch : Nat) : Nat :=
  surface % 32 * 2 ^ 59 + track % 2 ^ 24 * 2 ^ 35 + sector % 2 ^ 12 * 2 ^ 23 + epoch % 2 ^ 23

/-- The 4128 information bytes of a codeword (R115, R117): user data and parcel tag scrambled, the identity, the CRC-32C over
them before scrambling, and four bytes of 0. -/
def encodeInfo (user tag : List Nat) (identity : Nat) : List Nat :=
  let body := user ++ tag
  let id := leBytes 8 identity
  scramble (scrambleSeed identity) body ++ id ++ leBytes 4 (crc32c (body ++ id)) ++ [0, 0, 0, 0]

/-- The little-endian number of a list of bytes. -/
def fromBytes (l : List Nat) : Nat := l.foldr (fun b n => b % 256 + 256 * n) 0

/-- The identity a converged codeword carries. -/
def infoIdentity (info : List Nat) : Nat := fromBytes ((info.drop 4112).take 8)

/-- User data and tag of a converged codeword, descrambled with the seed of a position's identity (R117, R118). -/
def infoBody (info : List Nat) (seedIdentity : Nat) : List Nat := scramble (scrambleSeed seedIdentity) (info.take 4112)

/-- Whether the CRC-32C of a converged codeword holds (R118). -/
def infoCrcOk (info : List Nat) (seedIdentity : Nat) : Bool :=
  crc32c (infoBody info seedIdentity ++ (info.drop 4112).take 8) == fromBytes ((info.drop 4120).take 4)

/-- The position a sector is read at, as an identity with the epoch the codeword carries. -/
def placeIdentity (surface track sector : Nat) (info : List Nat) : Nat :=
  identityOf surface track sector (infoIdentity info)

/-- The judgement of a converged codeword at a position (R117, R118), which is descrambled with that position's seed: 0x23 on a CRC mismatch,
0x24 on an identity mismatch, 0x02 where a wanted epoch differs, else 0x00. -/
def judge (surface track sector epoch : Nat) (info : List Nat) : Nat :=
  let id := infoIdentity info
  let want := placeIdentity surface track sector info
  if !infoCrcOk info want then 0x23
  else if id / 2 ^ 23 != want / 2 ^ 23 then 0x24
  else if epoch != 0 && epoch != id % 2 ^ 23 then 0x02
  else 0x00

/-- User data and tag of a codeword that was judged good at a position. -/
def bodyAt (surface track sector : Nat) (info : List Nat) : List Nat := infoBody info (placeIdentity surface track sector info)

/-- The surface of a head (R16). -/
def surfaceOf (x : Act) (head : Nat) : Nat := 8 * x.n + head

/-- `n` T of the preamble pattern 0b1100 (R108), in phase with what follows it. -/
def preambleBits (n : Nat) : List Bool := (List.range n).map fun k => (k + 4 - n % 4) % 4 < 2

/-- The fields of a sector on the media (R108), bit by bit in time: one fragment, or two where a wedge cuts its codeword. -/
def sectorBits (gap first : Nat) (codeword : List Nat) : List (List Bool) :=
  let c := codeword.flatMap byteBits
  let one := preambleBits gap ++ preambleBits 64 ++ primaryMark ++ preambleBits 16 ++ fallbackMark ++ c.take first
  if 36864 ≤ first then [one] else [one, preambleBits 16 ++ resyncMark ++ c.drop first]

/-- The transitions of written bits, by T, each with its delay in 1/64 T (R120): PRECOMP_1 after another by 1 T, PRECOMP_2 after one by 2 T. The
arguments are the T, the T since the last transition, and the level before. -/
def transitions (p1 p2 : Nat) : Nat → Nat → Bool → List Bool → List (Nat × Nat)
  | _, _, _, [] => []
  | k, d, v, b :: t =>
    if b == v then transitions p1 p2 (k + 1) (d + 1) b t
    else (k, if d = 1 then min 16 p1 else if d = 2 then min 16 p2 else 0) :: transitions p1 p2 (k + 1) 1 b t

/-- The transitions of a fragment, whose first bit begins at the level it has. -/
def fragmentTransitions (p1 p2 : Nat) (bits : List Bool) : List (Nat × Nat) := transitions p1 p2 0 3 (bits.headD false) bits

/-- A mark's distance from its prediction as a byte, 0 for none. -/
def markByte : Option Int → Nat
  | none => 0
  | some d => (d + 128).toNat % 256

/-- A mark's distance from its byte. -/
def byteMark (b : Nat) : Option Int := if b = 0 then none else some ((b : Int) - 128)

/-- The form of a sample area and of a place of the recovery store (R106, R140). The spec gives its size, 64 KiB, and what it holds; the layout
is the model's (DESIGN CHOICE; log 136): the codeword T of the first fragment in bytes 0 to 3, the marks in bytes 4 and 5, and from byte 64 on
one sample a byte. -/
def Held.toBytes (h : Held) : List Nat :=
  leBytes 4 h.first ++ [markByte h.primary, markByte h.fallback] ++ List.replicate 58 0 ++ (h.one ++ h.two).map (unsigned 8)

/-- The samples of a fragment's or a codeword's margins and bits: 64 T beside a cut codeword, 32 beside a whole one. -/
def heldLength (first : Nat) : Nat := if 36864 ≤ first then 36896 else 36928

/-- The samples held at a DRAM address. -/
def State.heldAt (s : State) (a : Nat) : Held :=
  let first := min 36864 (s.dword a)
  let l := (s.bytes (a + 64) (heldLength first)).map fun b => signed 8 b.toNat
  ⟨l.take (first + 32), l.drop (first + 32), first, byteMark (s.byte (a + 4)).toNat, byteMark (s.byte (a + 5)).toNat⟩

/-- The form of a running sum (R144; DESIGN CHOICE; log 136): as a sample area, with the number of reads in byte 6; each sum has 12 bits, the
lower 8 in place of a sample's byte, the upper 4 of two sums in each byte after them. -/
def sumBytes (h : Held) (reads : Nat) : List Nat :=
  let l := (h.one ++ h.two).map (unsigned 12)
  leBytes 4 h.first ++ [markByte h.primary, markByte h.fallback, reads % 256] ++ List.replicate 57 0 ++ l.map (· % 256) ++
    (List.range ((l.length + 1) / 2)).map fun k => l.getD (2 * k) 0 / 256 + 16 * (l.getD (2 * k + 1) 0 / 256)

/-- The number of reads of the running sum at a DRAM address. -/
def State.sumReads (s : State) (a : Nat) : Nat := (s.byte (a + 6)).toNat

/-- The running sum at a DRAM address. -/
def State.sumAt (s : State) (a : Nat) : Held :=
  let first := min 36864 (s.dword a)
  let n := heldLength first
  let lo := s.bytes (a + 64) n
  let hi := s.bytes (a + 64 + n) ((n + 1) / 2)
  let l := lo.zipIdx.map fun p => signed 12 (p.1.toNat + 256 * ((hi.getD (p.2 / 2) 0).toNat / 16 ^ (p.2 % 2) % 16))
  ⟨l.take (first + 32), l.drop (first + 32), first, byteMark (s.byte (a + 4)).toNat, byteMark (s.byte (a + 5)).toNat⟩

end Sys2Proof.Machine
end

