-- ==== Sys2Proof/Machine/Pool.lean ====
section
/-!
DEFINITION. The lanes' stores and the decoder pool (R98, R101 to R107, R126, R135, R142, R143): the tap memory, the passes of codewords, the works
of the recovery class, and the frames in which a half shares its units.
-/
namespace Sys2Proof.Machine

/-- A lane. -/
def State.lane (s : State) (x : Act) : Lane := s.lanes.at x

/-- A codeword of a store waits for its first pass to end: it is read or a receipt. -/
def Codeword.firstPass (c : Codeword) : Bool := c.kind == .read || c.kind == .receipt

/-- Codewords that wait for a first pass, of every lane (R135). -/
def State.waiting (s : State) : Nat :=
  s.acts.foldl (fun n x => n + ((s.lane x).store.filter Codeword.firstPass).length) 0

/-- Replace a lane; STORE_USED and FP_WAITING follow (R134, R135). -/
def State.putLane (s : State) (x : Act) (l : Lane) : State :=
  let s := { s with lanes := s.lanes.put x l }
  (s.set (Reg.CH_STATUS_STORE_USED x) l.store.length).set Reg.DEC_STATUS_FP_WAITING (min 255 s.waiting)

/-- The code table as it stands in DEC_CODE (R102, R135). -/
def State.codeTable (s : State) : List Nat := (List.range 2160).map fun k => s.get (Reg.DEC_CODE (k / 2)) / 65536 ^ (k % 2) % 65536

/-- The 128 bytes of an entry of tap memory (R126): head times 8 plus zone group. -/
def State.tapBytes (s : State) (x : Act) (e : Nat) : List Nat :=
  (List.range 128).map fun k => s.get (Reg.CH_TAP x (32 * e + k / 4)) / 256 ^ (k % 4) % 256

/-- A tap-memory entry (R126). -/
def tapsOf (b : List Nat) : Taps :=
  let i8 (k n : Nat) : List Int := ((b.drop k).take n).map (signed 8)
  let fine (k n : Nat) : List Int := (i8 k n).map (· * 65536)
  ⟨fine 0 16, fine 16 16, fine 32 4, i8 40 48, (b.drop 88).take 16, fine 104 16⟩

/-- The number of the tap-memory entry of a head and a zone (R126). -/
def tapEntry (head zone : Nat) : Nat := head * 8 + zone / 8

/-- The taps of a head and a zone as tap memory holds them. -/
def State.tapsFor (s : State) (x : Act) (head zone : Nat) : Taps := tapsOf (s.tapBytes x (tapEntry head zone))

/-- Bytes of tap memory written from a byte on, a multiple of 4. -/
def State.putTapBytes (s : State) (x : Act) (e from_ : Nat) (b : List Nat) : State :=
  (List.range (b.length / 4)).foldl (fun s k =>
    s.set (Reg.CH_TAP x (32 * e + from_ / 4 + k)) (fromBytes ((b.drop (4 * k)).take 4))) s

/-- The address of a place of the recovery store (R106). -/
def State.rcvAt (s : State) (k : Nat) : Nat :=
  s.get Reg.DEC_RS_BASE_LO_BASE_LO * 2 ^ 16 + 2 ^ 32 * s.get Reg.DEC_RS_BASE_HI_BASE_HI + 65536 * k

/-- DEC_STATUS RS_USED follows the recovery store (R135). -/
def State.putRcv (s : State) (r : Recovery) : State :=
  { s with rcv := r }.set Reg.DEC_STATUS_RS_USED r.places.length

/-- How a pass stands once its units so far are done (R104). -/
def Pass.settle (code : List Nat) (p : Pass) : Pass :=
  if p.det != 0 then p
  else if syndromeZero code p.dec.blocks then { p with fin := .converged }
  else if p.limLocal ≤ p.locals && p.limGlobal ≤ p.globals then { p with fin := .failed }
  else p

/-- A pass that begins with LLRs (R104). -/
def Pass.begin (code : List Nat) (half limGlobal limLocal : Nat) (llrs : List Int) : Pass :=
  Pass.settle code ⟨half, limGlobal, limLocal, 1, 0, 0, 0, llrs, Decode.start llrs, .running⟩

/-- A pass that begins with a detector pass in the pool (R142). -/
def Pass.detectFirst (half limLocal : Nat) : Pass := ⟨half, 1, limLocal, 1, 0, 0, 2, [], Decode.start [], .running⟩

/-- One unit of a pass (R103, R104): a local iteration, or half a detector pass, which at its end gives the LLRs anew from the decoder's
extrinsic values; the decoder then starts from them afresh (DESIGN CHOICE; log 135). -/
def Pass.unit (code : List Nat) (detector : List Int → List Int) (p : Pass) : Pass :=
  if p.det = 1 then
    let l := detector (p.dec.extrinsic p.llrs)
    Pass.settle code { p with det := 0, locals := 0, llrs := l, dec := Decode.start l }
  else if 1 < p.det then { p with det := p.det - 1 }
  else if p.locals < p.limLocal then
    Pass.settle code { p with dec := p.dec.iterate code, locals := p.locals + 1, iters := p.iters + 1 }
  else { p with globals := p.globals + 1, det := 1 }

/-- The 4128 information bytes a pass has decided (R115). -/
def Pass.info (p : Pass) : List Nat := (ofBlocks p.dec.blocks).take 4128

/-- FP_GLOBAL and FP_LOCAL as they act (R134). -/
def State.fpGlobal (s : State) (x : Act) : Nat := max 1 (min 4 (s.get (Reg.CH_ITER_FP_GLOBAL x)))
def State.fpLocal (s : State) (x : Act) : Nat := max 1 (min 16 (s.get (Reg.CH_ITER_FP_LOCAL x)))

/-- Whether a half may work on something that a half holds, or none. -/
def heldBy (half : Nat) : Option Nat → Bool
  | none => true
  | some h => h == half

/-- A codeword that a half may work on (R104, R105): framed, its first pass not over, and not held by the other half. -/
def Codeword.waits (half : Nat) (c : Codeword) : Bool :=
  c.firstPass && c.framing == 0 && heldBy half (c.pass.map (·.half)) && c.pass.all fun p => p.fin == .running

/-- Change a codeword of a lane's store. -/
def State.mapCodeword (s : State) (x : Act) (c : Codeword) (f : Codeword → Codeword) : State :=
  let l := s.lane x
  s.putLane x { l with store := l.store.map fun d => if d.op == c.op && d.sector == c.sector then f d else d }

/-- A half works on a codeword: its pass begins, which takes no unit, with the limits as they then stand (R134; one global iteration and
RCPT_LOCAL for a receipt, R136), or goes on by a unit. True where a unit was spent. -/
def State.laneUnit (s : State) (x : Act) (half : Nat) (c : Codeword) : State × Bool :=
  let code := s.codeTable
  match c.pass with
  | none =>
    let g := if c.kind == .receipt then 1 else s.fpGlobal x
    let l := if c.kind == .receipt then c.cfg.rcptLocal else s.fpLocal x
    (s.mapCodeword x c fun d => { d with pass := some (Pass.begin code half g l c.llrs) }, false)
  | some p =>
    (s.mapCodeword x c fun d => { d with pass := some (p.unit code fun e => detect c.taps e (c.held.samples 0)) }, true)

/-- SLIP_MAX, SLIP_LOCAL, RC_GLOBAL and RC_LOCAL as they act (R158). -/
def State.slipMax (s : State) : Nat := min 4 (s.get Reg.DEC_RC_LIM_SLIP_MAX)
def State.slipLocal (s : State) : Nat := max 1 (min 8 (s.get Reg.DEC_RC_LIM_SLIP_LOCAL))
def State.rcGlobal (s : State) : Nat := max 1 (min 8 (s.get Reg.DEC_RC_LIM_RC_GLOBAL))
def State.rcLocal (s : State) : Nat := max 1 (s.get Reg.DEC_RC_LIM_RC_LOCAL)

/-- The rung of rungs 3 to 6 after so many revolutions (R140, R156). -/
def Ladder.rungAt (p : Ladder) (revs : Nat) : Nat :=
  if revs < p.rereads then 3 else if revs < p.rereads + p.combineRevs then 4
  else if revs < p.rereads + p.combineRevs + p.offsets then 5 else 6

/-- The surface of a place. -/
def RecPlace.surface (p : RecPlace) : Nat := 8 * p.lane + p.head

/-- The samples a work decodes (R144, R145): those of its area, or the average of the reads in the running sum, rounded to the nearest
(DESIGN CHOICE; log 135). -/
def State.workHeld (s : State) (w : Work) : Held :=
  if w.kind == 2 then
    let n : Int := (max 1 (s.sumReads w.area) : Nat)
    let h := s.sumAt w.area
    let mean (v : Int) : Int := adc ((2 * v + n) / (2 * n))
    { h with one := h.one.map mean, two := h.two.map mean }
  else s.heldAt w.area

/-- The next pass of a work (R142, R143): a candidate of rung 1, one detector pass first; else rung 2 at the best start, its clipped runs erased.
Where rung 1 had no candidate the start is pa itself (DESIGN CHOICE; log 137). -/
def State.workBegin (s : State) (half : Nat) (p : RecPlace) (w : Work) : Work :=
  match w.rung, w.tries with
  | 1, c :: rest => { w with half := some half, slip := c, tries := rest, pass := some (Pass.detectFirst half s.slipLocal) }
  | _, _ =>
    let slip := (w.best.map (·.1)).getD 0
    let v := (s.workHeld w).samples slip
    let l := erase v (detect (s.tapsFor (Act.num p.lane) p.head p.zone) [] v)
    { w with half := some half, rung := 2, slip := slip, pass := some (Pass.begin s.codeTable half s.rcGlobal s.rcLocal l) }

/-- The lesser weight of the best start so far and another: of two alike the earlier (R143). -/
def betterStart (best : Option (Int × Nat)) (slip : Int) (weight : Nat) : Option (Int × Nat) :=
  match best with
  | some b => if weight < b.2 then some (slip, weight) else some b
  | none => some (slip, weight)

/-- What a work makes of a pass that is over (R141 to R143): delivered; a candidate that fails its checks is discarded, and the identity of
another sector is kept (R147); after the last start of rung 1 comes rung 2, and after that the work has ended. -/
def State.workSettle (s : State) (p : RecPlace) (w : Work) : Work :=
  match w.pass with
  | none => w
  | some q =>
    match q.fin with
    | .running => w
    | .converged =>
      let v := judge p.surface p.track p.sector p.epoch q.info
      if v ≤ 2 then { w with fin := some ⟨some q.info, w.rung, w.slip, 0, w.foreign⟩ }
      else
        let f := if v == 0x24 then w.foreign ++ [infoIdentity q.info / 2 ^ 23] else w.foreign
        if w.rung == 1 then { w with pass := none, foreign := f }
        else { w with fin := some ⟨none, 0, w.slip, 0, f⟩, foreign := f }
    | .failed =>
      let n := syndromeWeight s.codeTable q.dec.blocks
      let b := betterStart w.best w.slip n
      if w.rung == 1 then { w with pass := none, best := b }
      else { w with fin := some ⟨none, 0, w.slip, (b.map (·.2)).getD n, w.foreign⟩ }

/-- A work that a half may go on with. -/
def Work.waits (half : Nat) (w : Work) : Bool := w.fin.isNone && heldBy half w.half

/-- A half works on a work of the recovery class: its next pass begins, which takes no unit, or goes on by a unit. True where one was spent. -/
def State.workUnit (s : State) (half : Nat) (w : Work) : State × Bool :=
  let put (v : Work) : State := s.putRcv { s.rcv with work := s.rcv.work.replace w v }
  match sGet? s.rcv.places w.place with
  | none => (s.putRcv { s.rcv with work := s.rcv.work.erase w }, false)
  | some p =>
    match w.pass with
    | none => (put (s.workSettle p (s.workBegin half p w)), false)
    | some q =>
      let taps := s.tapsFor (Act.num p.lane) p.head p.zone
      let q' := q.unit s.codeTable fun e => detect taps e ((s.workHeld w).samples w.slip)
      (put (s.workSettle p { w with pass := some q', units := w.units + 1 }), true)

/-- The weights of the classes A, B, C, D and recovery (R105, R135). -/
def State.weights (s : State) : List Nat :=
  let v := s.variant == .vk432m
  [s.get Reg.DEC_SHARE_SHARE_A, s.get Reg.DEC_SHARE_SHARE_B, if v then s.get Reg.DEC_SHARE_SHARE_C else 0,
   if v then s.get Reg.DEC_SHARE_SHARE_D else 0, s.get Reg.DEC_SHARE_RECOV_MIN]

/-- The credits of a frame (R105): 64 times a weight over the sum, rounded down, and the units left over to lanes A, B, C, D in
turn. -/
def frameCredits (ws : List Nat) : List Nat :=
  let sum := ws.foldl (· + ·) 0
  let base := ws.map fun w => 64 * w / max 1 sum
  let left := if sum = 0 then 0 else 64 - base.foldl (· + ·) 0
  base.mapIdx fun i c => if i < 4 then c + (left + 3 - i) / 4 else c

/-- The class a unit goes to (R105): the first with credit and work after the one served last, in the order A, B, C, D, recovery;
where none has credit, the first with work. -/
def pickClass (credit : List Nat) (work : List Bool) (last : Nat) : Option Nat :=
  let order := (List.range 5).map fun i => (last + 1 + i) % 5
  match order.find? fun k => 0 < credit.getD k 0 && work.getD k false with
  | some k => some k
  | none => order.find? fun k => work.getD k false

/-- Put a half in or out of service (R107): IN_SERVICE and DEC_HALVES. -/
def State.setHalf (s : State) (half : Nat) (v : Bool) : State :=
  (s.setBit Reg.DEC_STATUS_IN_SERVICE half v).setBit Reg.SYS_SPARES_DEC_HALVES half v

/-- A half's frame begins (R105): each class takes its credit; a half written in again returns (R107). -/
def State.startFrame (s : State) (half : Nat) : State :=
  let c := frameCredits s.weights
  let s := if s.dec.returning.contains half then s.setHalf half true else s
  let r := s.dec.returning.filter (· != half)
  if half = 0 then { s with dec := { s.dec with credit0 := c, left0 := 64, returning := r } }
  else { s with dec := { s.dec with credit1 := c, left1 := 64, returning := r } }

/-- The units left of a half's frame. -/
def State.unitsLeft (s : State) (half : Nat) : Nat := if half = 0 then s.dec.left0 else s.dec.left1

/-- A unit of a half goes to a class (R103, R105): its count, the class's credit, and the class served last. -/
def State.spend (s : State) (half cls : Nat) : State :=
  let s := s.set (Reg.DEC_UNITS_UNITS half) (s.get (Reg.DEC_UNITS_UNITS half) + 1)
  let take (l : List Nat) : List Nat := l.mapIdx fun i c => if i == cls then c - 1 else c
  if half = 0 then { s with dec := { s.dec with credit0 := take s.dec.credit0, last0 := cls, left0 := s.dec.left0 - 1 } }
  else { s with dec := { s.dec with credit1 := take s.dec.credit1, last1 := cls, left1 := s.dec.left1 - 1 } }

/-- The oldest codeword of a lane that a half may work on (R105). -/
def State.laneWork (s : State) (half : Nat) (x : Act) : Option Codeword := (s.lane x).store.find? (Codeword.waits half)

/-- The oldest work of the recovery class that a half may go on with (DESIGN CHOICE: the spec leaves the order to the ladder; log 137). -/
def State.recoveryWork (s : State) (half : Nat) : Option Work := s.rcv.work.find? (Work.waits half)

/-- Which classes have work for a half. -/
def State.poolWork (s : State) (half : Nat) : List Bool :=
  [Act.a, Act.b, Act.c, Act.d].map (fun x => (s.laneWork half x).isSome) ++ [(s.recoveryWork half).isSome]

/-- A half works for a class. True where a unit was spent. -/
def State.classUnit (s : State) (half cls : Nat) : State × Bool :=
  if cls < 4 then
    match s.laneWork half (Act.num cls) with
    | some c => s.laneUnit (Act.num cls) half c
    | none => (s, false)
  else
    match s.recoveryWork half with
    | some w => s.workUnit half w
    | none => (s, false)

/-- The next a half does (R105): nothing where nothing waits; a new frame where its frame is used up; else it begins or goes on with the work of
the class whose turn it is. -/
def State.poolStep (s : State) (half : Nat) : Option State :=
  let work := s.poolWork half
  let credit := if half = 0 then s.dec.credit0 else s.dec.credit1
  let last := if half = 0 then s.dec.last0 else s.dec.last1
  if !s.bit Reg.DEC_STATUS_IN_SERVICE half || !s.pdOn (9 + half) then none
  else
    match pickClass credit work last with
    | none => none
    | some k =>
      if s.unitsLeft half = 0 then some (s.startFrame half)
      else
        let r := s.classUnit half k
        some (if r.2 then r.1.spend half k else r.1)

/-- A half works until `stop` holds or nothing waits, at most so many steps. -/
def State.poolRun (half : Nat) (stop : State → Bool) : Nat → State → State
  | 0, s => s
  | n + 1, s =>
    if stop s then s
    else
      match s.poolStep half with
      | none => s
      | some t => State.poolRun half stop n t

/-- More steps than any work of the pool takes: 128 codewords of at most 70 units, and 512 works of at most 432, each with its starts. -/
def poolSteps : Nat := 300000

end Sys2Proof.Machine
end

