-- ==== Sys2Proof/Machine/Recovery.lean ====
section
/-!
DEFINITION. The places of the recovery store and the ladder's progress on them (R106, R140 to R152, R155, R156): what a sector's hand-over makes of
them, what delivers a sector, and how a ladder ends.
-/
namespace Sys2Proof.Machine

/-- The address of a map entry (R303). -/
def State.mapAddr (s : State) (lpn : Nat) : Nat :=
  s.get Reg.SOF_MAP_BASE_LO_BASE_LO * 2 ^ 12 + 2 ^ 32 * s.get Reg.SOF_MAP_BASE_HI_BASE_HI + 5 * lpn

/-- Whether an LPN has a map entry (R337). -/
def State.mapped (s : State) (lpn : Nat) : Bool := lpn < s.get Reg.SOF_MAP_LEN_MAP_PARCELS

/-- A map entry (R303). -/
def State.mapEntry (s : State) (lpn : Nat) : Nat := s.dram (s.mapAddr lpn) 5

/-- The candidate starts of rung 1, relative to pa (R142): the fallback start first where it differs by more than 1 T, then the
slips about pa, then those about fa. -/
def candidates (fa : Option Int) (slipMax : Nat) : List Int :=
  let far := match fa with
    | some f => if 1 < f.natAbs then [f] else []
    | none => []
  let about (b : Int) : List Int := (List.range slipMax).flatMap fun d => [b + ((d + 1 : Nat) : Int), b - ((d + 1 : Nat) : Int)]
  far ++ about 0 ++ far.flatMap about

/-- The starts that rung 1 tries on a place's samples (R142): none on a running sum, which is decoded under rung 2's limits (R145). -/
def State.startsOf (s : State) (p : RecPlace) (kind area : Nat) : List Int :=
  if kind == 2 then []
  else candidates (if kind == 0 && p.code == 0x21 then none else (s.heldAt area).fallbackStart) s.slipMax

/-- A work of the recovery class as it begins (R142, R145). -/
def newWork (tag place sum kind area posted : Nat) (tries : List Int) : Work where
  tag := tag
  place := place
  sum := sum
  kind := kind
  area := area
  posted := posted
  half := none
  tries := tries
  slip := 0
  rung := if tries.isEmpty then 2 else 1
  pass := none
  best := none
  foreign := []
  units := 0
  fin := none

/-- A work of a half that is lost, from its beginning (R107, R155). -/
def State.workAgain (s : State) (half : Nat) (w : Work) : Work :=
  match sGet? s.rcv.places w.place with
  | some p =>
    if w.half == some half && w.fin.isNone then newWork w.tag w.place w.sum w.kind w.area w.posted (s.startsOf p w.kind w.area) else w
  | none => w

/-- The works that a half held start again (R107, R155). -/
def State.restartWork (s : State) (half : Nat) : State := s.putRcv { s.rcv with work := s.rcv.work.map (s.workAgain half) }

/-- The rung of a place after so many revolutions (R140, R155): rungs 3 to 5 stop at a head that is retired. -/
def State.rungAfter (s : State) (p : RecPlace) (revs : Nat) : Nat :=
  if s.headRetired (Act.num p.lane) p.head then 6 else s.rcv.policy.rungAt revs

/-- Base firmware posts a read offset to a loop (R146, R209), in 1/1024 of the track pitch. A mailbox that is full takes none. -/
def State.postOffset (s : State) (x : Act) (o : Int) : State :=
  let m := s.mail (x.n + 1)
  if !s.pdOn 12 || 16 ≤ m.count then s
  else s.putMail (x.n + 1) { m with transit := m.transit ++ [⟨[0x0300FFFF, unsigned 32 o], 0⟩] }

/-- The offset of a revolution of rung 5 (R146), in 1/1024 of the track pitch: +1, −1, +2, −2, +3, −3 times OFS_STEP. The positive direction is
away from the track written next on a band, and toward the outer diameter in the first-class region: with tracks numbered inward from the outer
diameter and a band written from its first track on, toward the lower tracks in both (DEDUCED; log 137). -/
def Ladder.offset (p : Ladder) (k : Nat) : Int :=
  let m : Int := ((k / 2 + 1) * (p.ofsStep * 1024 / 100) : Nat)
  if k % 2 = 0 then -m else m

/-- Which reader reads alone in a revolution of the ladder (R145): the leading one in the last but one of rung 4, the trailing one in the last. -/
def Ladder.alone (p : Ladder) (revs : Nat) : Option Bool :=
  if p.combineRevs = 0 then none
  else if revs + 2 = p.rereads + p.combineRevs then some false
  else if revs + 1 = p.rereads + p.combineRevs then some true
  else none

/-- Base firmware writes a head's tap-memory entry with one reader's taps from the calibration tables and the other's at 0 (R145). The entry as it
stood is put back once the read runs. -/
def State.soloTaps (s : State) (p : RecPlace) (trailing : Bool) : State :=
  let x := Act.num p.lane
  let e := tapEntry p.head p.zone
  match s.cal.readerTaps.find? fun t => t.1 == x && t.2.1 == p.head && t.2.2.1 == trailing with
  | none => s
  | some t =>
    let own := (t.2.2.2 ++ List.replicate 16 0).take 16
    let none_ := List.replicate 16 0
    let l := s.lane x
    let s := if l.aside.isNone then s.putLane x { l with aside := some (e, s.tapBytes x e) } else s
    s.putTapBytes x e 0 (if trailing then none_ ++ own else own ++ none_)

/-- What base firmware does before the next read of a place (R145, R146): the taps of a reader that reads alone, the offset of rung 5. -/
def State.prepareRead (s : State) (p : RecPlace) : State :=
  let c := s.rcv.policy
  match p.rung with
  | 4 => match c.alone p.revs with
    | some t => s.soloTaps p t
    | none => s
  | 5 => s.postOffset (Act.num p.lane) (c.offset (p.revs - c.rereads - c.combineRevs))
  | _ => s

/-- The offset returns to 0 when rung 5 ends (R146). -/
def State.endOffset (s : State) (p : RecPlace) : State := if p.rung = 5 then s.postOffset (Act.num p.lane) 0 else s

/-- Keep a place. -/
def State.putPlace (s : State) (k : Nat) (p : RecPlace) : State := s.putRcv { s.rcv with places := sIns s.rcv.places k p }

/-- Free a place, with the works on it. -/
def State.freePlaceRcv (s : State) (k : Nat) : State :=
  let s := match sGet? s.rcv.places k with
    | some p => s.endOffset p
    | none => s
  s.putRcv { s.rcv with places := sDel s.rcv.places k, work := s.rcv.work.filter fun w => w.place != k }

/-- Two reads at a place have delivered the identity of the same other sector (R147). -/
def RecPlace.misplaced (p : RecPlace) : Bool := p.foreign.any fun f => 2 ≤ (p.foreign.filter (· == f)).length

/-- The code of a result in its ledger record: the place of its row in the table of R151 (DESIGN CHOICE; log 137). -/
def ladderResult (p : RecPlace) (rung : Nat) : Nat :=
  if rung ≤ 2 then 0 else if rung = 3 then 1 else if rung ≤ 5 then 2 else if rung = 7 then 5 else if p.misplaced then 4 else 3

/-- A position joins the watch list of its surface (R152): 4096 of them at most, the oldest dropped. -/
def watchAdd (l : List (Nat × Nat × Nat × Nat)) (w : Nat × Nat × Nat × Nat) : List (Nat × Nat × Nat × Nat) :=
  let same := l.filter fun v => v.1 == w.1
  (if 4096 ≤ same.length then match same.head? with | some o => l.erase o | none => l else l) ++ [w]

/-- A ladder ended at a rung (R151), 7 where rung 6 failed too: counted for log page 0xC1; rung 4 and above write a ledger record; rung 3 joins
the watch list; and a result may call for reallocation (R152). -/
def State.ladderEnd (s : State) (p : RecPlace) (rung : Nat) : State :=
  let r := s.rcv
  let pos := (p.surface, p.track, p.sector, p.lpn)
  let again := r.watch.any fun w => w.1 == p.surface && w.2.1 == p.track && w.2.2.1 == p.sector
  let move := rung != 7 && (rung == 6 || r.policy.reallocRung ≤ rung && 3 ≤ rung || (rung == 3 && again))
  let s := { s with rcv := { r with
    counts := sPut r.counts rung (sGet r.counts rung 0 + 1) 0,
    watch := if rung == 3 && !again then watchAdd r.watch pos else r.watch,
    ends := if move then r.ends ++ [p] else r.ends,
    sixes := if 6 ≤ rung then r.sixes ++ [(p.surface, sGet r.reads p.surface 0)] else r.sixes } }
  if 4 ≤ rung then s.ledger 0x0050 [rung, p.surface, p.track, p.sector, ladderResult p rung, 0, 0] else s

/-- A sector of a surface has been read (R351). -/
def State.countRead (s : State) (surface : Nat) : State :=
  { s with rcv := { s.rcv with reads := sPut s.rcv.reads surface (sGet s.rcv.reads surface 0 + 1) 0 } }

/-- How many of the last 1,000,000 sectors read from a surface ended at rung 6, in 10,000 (R351), rounded up. -/
def State.rungSixShare (s : State) (surface : Nat) : Nat :=
  let n := sGet s.rcv.reads surface 0
  ((s.rcv.sixes.filter fun p => p.1 == surface && n < p.2 + 1000000).length + 99) / 100

/-- Deliver user data and tag to an operation's addresses (R118). -/
def State.deliverTo (s : State) (data tagAt : Nat) (body : List Nat) : State :=
  (s.store data ((body.take 4096).map (BitVec.ofNat 8))).store tagAt (((body.drop 4096).take 16).map (BitVec.ofNat 8))

/-- The host command that a place serves still stands; where it was aborted, what the ladder delivers is discarded (R155). -/
def RecPlace.wanted (s : State) (p : RecPlace) : Bool := p.cmd.all fun n => (sGet? s.host.cmds n).any fun c => !c.orphan

/-- The ladder delivers a sector at a rung (R141, R149, R155): to the place's addresses, unless the command was aborted or rung 6 has served it.
Where rung 6 delivered other data, its data stands if it passed the consignment check, the ledger records a consistency event, and the sector is
reallocated. The place and the sum's are free. -/
def State.ladderDelivers (s : State) (k sum : Nat) (p : RecPlace) (rung : Nat) (info : List Nat) : State :=
  let body := bodyAt p.surface p.track p.sector info
  let s := match p.rebuilt with
    | none => if p.wanted s then s.deliverTo p.data p.tagAt body else s
    | some (d, ok) =>
      if d == body.take 4096 then s
      else
        let s := if ok || !p.wanted s then s else s.deliverTo p.data p.tagAt body
        s.ledger 0x0051 [0x14, p.lpn % 2 ^ 32, p.lpn / 2 ^ 32, p.entry % 2 ^ 31, 0, 0, 0]
  let s := if p.isOver then s else s.ladderEnd p rung
  let differ := p.rebuilt.any fun r => r.1 != body.take 4096
  let s := if differ && !s.rcv.ends.contains p then s.putRcv { s.rcv with ends := s.rcv.ends ++ [p] } else s
  let s := s.freePlaceRcv k
  if sum = 0xFF then s else s.freePlaceRcv sum

/-- A place goes to rung 6 (R147, R150, R155): where rung 6 has already delivered the sector, the ladder ends there. -/
def State.toSix (s : State) (k : Nat) (p : RecPlace) : State :=
  let s := s.endOffset p
  let q := { p with rung := 6 }
  if p.rebuilt.isSome && !p.isOver then (s.ladderEnd q 6).putPlace k { q with isOver := true } else s.putPlace k q

/-- The ladder goes on with a place after so many revolutions (R140). -/
def State.ladderOn (s : State) (k : Nat) (p : RecPlace) (revs : Nat) : State :=
  let n := s.rungAfter p revs
  if n = 6 then s.toSix k { p with revs := revs }
  else
    let q := { p with revs := revs, rung := n }
    (s.putPlace k q).prepareRead q

/-- Rung 6 delivered a sector (R148, R149) with so much data at its place's address: the ladder ends there, unless it still runs beside. -/
def State.sixDelivers (s : State) (k : Nat) (p : RecPlace) (data : List Nat) (ok : Bool) : State :=
  if p.rebuilt.isSome || p.isOver then s
  else
    let q := { p with rebuilt := some (data, ok) }
    if p.rung = 6 then (s.ladderEnd p 6).putPlace k { q with isOver := true } else s.putPlace k q

/-- The places that rung 6 may serve: at rung 6, or with rung 6 started beside the ladder. -/
def State.sixPlaces (s : State) (data : Nat → Bool) : List (Nat × RecPlace) :=
  s.rcv.places.filter fun p => (p.2.rung = 6 || p.2.early) && !p.2.sum && data p.2.data

/-- Every ladder is abandoned and its places freed (R155): the mains-lost warning. -/
def State.abandonLadders (s : State) : State :=
  let s := s.rcv.places.foldl (fun s p => s.endOffset p.2) s
  s.putRcv { s.rcv with places := [], queue := [], work := [], ends := [], moves := [], posts := [] }

/-- The ladders of a surface stop at rung 6 (R155): its head is being retired. Those still at rungs 1 and 2 go there when these end. -/
def State.retireLadders (s : State) (surface : Nat) : State :=
  s.rcv.places.foldl (fun s p => if p.2.surface == surface && 3 ≤ p.2.rung && p.2.rung ≤ 5 then s.toSix p.1 p.2 else s) s

/-- A field of the ladder policy clamped to its range (R156), and whether it had to be. -/
def clampPolicy (v lo hi : Nat) : Nat × Bool := (max lo (min hi v), v < lo || hi < v)

/-- The ladder policy as loaded (R156), and the fields clamped, a bit each (R457). COMBINE_REVS is 0, or 2 to 6; a 1 is taken as 2 (DESIGN CHOICE:
the spec does not say which end of its range it is clamped to; log 137). -/
def ladderOf (l : List Nat) : Ladder × Nat :=
  let f (k d lo hi : Nat) : Nat × Bool := clampPolicy (l.getD k d) lo hi
  let c := l.getD 1 4
  let comb : Nat × Bool := if c = 0 then (0, false) else clampPolicy c 2 6
  let all := [f 0 4 0 8, comb, f 2 6 0 6, f 3 5 1 10, f 4 2 0 8, f 5 250 50 2000, f 6 4 3 6, f 7 2 0 3, f 8 64 16 256]
  let v (k : Nat) : Nat := (all.getD k (0, false)).1
  (⟨v 0, v 1, v 2, v 3, v 4, v 5, v 6, v 7, v 8⟩,
    (List.range 9).foldl (fun m k => m + b2n (all.getD k (0, false)).2 * 2 ^ k) 0)

end Sys2Proof.Machine
end

