-- ==== Sys2Proof/Machine/Franking.lean ====
section
/-!
DEFINITION. Franking and the Kerrex bus (R273 to R297): the frames, the postmaster and its election, grants and returns, the
drive's purse, shelf-hold and wakes, and the franking slice's work at a boundary.
-/
namespace Sys2Proof.Machine

/-- One bit of CRC-16 with polynomial 0x1021, not reflected. -/
def crc16Bit (c : Nat) : Nat := if bitOf c 15 then (2 * c % 65536) ^^^ 0x1021 else 2 * c % 65536

/-- CRC-16 of a Kerrex frame (R283). -/
def crc16 (l : List Nat) : Nat :=
  l.foldl (fun c b => (List.range 8).foldl (fun c _ => crc16Bit c) (c ^^^ (b % 256 * 256))) 0xFFFF

/-- A frame from its TYPE, SRC, SEQ and payload (R283). -/
def frameBytes (type src seq : Nat) (payload : List Nat) : List Nat :=
  let body := [type % 256, src % 256, 0xFF, seq % 256, payload.length % 256] ++ payload
  let c := crc16 body
  0x7E :: body ++ [c / 256, c % 256]

/-- Byte `k` of a frame. -/
def fb (f : List Nat) (k : Nat) : Nat := f.getD k 0 % 256

/-- A little-endian word of two bytes of a frame's payload. -/
def fw (f : List Nat) (k : Nat) : Nat := fb f (6 + k) + 256 * fb f (7 + k)

/-- A receiver keeps a frame (R283): its sync byte, its CRC, the length its type has, its type, its destination, and for a
STATUS the slot of its sender. -/
def frameOk (f : List Nat) (inSlot : Bool) : Bool :=
  let len := fb f 5
  let want := match fb f 1 with
    | 1 => some (17 + 3 * fb f 22)
    | 2 => some 10
    | 3 => some 2
    | _ => none
  fb f 0 == 0x7E && f.length == len + 8 && want == some len && fb f 3 == 0xFF && (fb f 1 != 2 || inSlot) &&
    (fb f 1 != 1 || fb f 22 ≤ 12) && crc16 ((f.drop 1).take (5 + len)) == 256 * fb f (6 + len) + fb f (7 + len)

/-- This drive's slot (R12). -/
def State.slot (s : State) : Nat := s.get Reg.SYS_IDENT_SLOT_ID

/-- Replace the bus side. -/
def State.putKrx (s : State) (k : Krx) : State := { s with krx := k }

/-- The role on the bus (R296). -/
def State.role (s : State) : Nat := s.get Reg.FRK_STATUS_ROLE

/-- Whether the shelf book says solo (R293). -/
def State.solo (s : State) : Bool := s.on Reg.FRK_BOOK_LIM_SOLO

/-- The holding H (R276). -/
def State.hold (s : State) : Nat := s.get Reg.FRK_PURSE_HOLD

/-- Set the role and the postmaster followed (R296). -/
def State.setRole (s : State) (role pm : Nat) : State :=
  if s.role = role && s.get Reg.FRK_STATUS_PM_SLOT = pm then s
  else
    let s := if s.get Reg.FRK_STATUS_PM_SLOT = pm then s else s.inc Reg.FRK_COUNTS_ELECTIONS
    s.setAll [(Reg.FRK_STATUS_ROLE, role), (Reg.FRK_STATUS_PM_SLOT, pm), (Reg.FRK_INT_ROLE, 1)]

/-- The largest holding (R275): the lesser of MAX_HOLD and PIN_MAX. -/
def State.holdMax (s : State) : Nat := min (s.get Reg.FRK_BOOK_LIM_MAX_HOLD) (s.get Reg.PWR_HOLD_PIN_MAX)

/-- The limit on TARGET (R275, R291). -/
def State.targetMax (s : State) : Nat :=
  let m := s.holdMax
  let m := if s.on Reg.SPN_STATUS_AT_SPEED && s.books.spinup.isNone then min m (s.get Reg.FRK_BOOK_LIM_RUN_MAX) else m
  if s.on Reg.FRK_STATUS_LAPSED then min m (s.get Reg.FRK_BOOK_LIM_UNHEARD) else m

/-- H follows TARGET (R287, R293): it falls toward it and never below C; alone on a book it also rises to it. -/
def State.followTarget (s : State) : State :=
  let t := min (s.get Reg.FRK_TARGET_TARGET) s.targetMax
  let h := s.hold
  let low := max t s.committed
  if s.solo then s.set Reg.FRK_PURSE_HOLD (max t s.committed)
  else if low < h then s.set Reg.FRK_PURSE_HOLD low else s

/-- FRK_TARGET written (R275, R285, R287). -/
def execFrkTargetWrite (i : Initiator) (v : Nat) (s : State) : Host.Outcome State Fault Refusal :=
  ok (s.access i 0x4031000C 4 fun s =>
    { (s.set Reg.FRK_TARGET_TARGET (min v s.targetMax)).followTarget with bus := .written })

/-- What the drive asks for (R285). -/
def State.ask (s : State) : Nat := min (s.get Reg.FRK_TARGET_TARGET) s.targetMax - s.hold

/-- The STATE of a STATUS frame (R283). -/
def State.kxState (s : State) : Nat :=
  if s.get Reg.SYS_BOOT_MODE = 2 then 5
  else if s.krx.shelfHold then 4
  else if 2 ≤ s.get Reg.PWR_STATUS_PHASE then 6
  else if s.on Reg.SPN_STATUS_AT_SPEED then (if s.get Reg.SPN_SET_SET_RPM = 2400 then 3 else 2)
  else if 2 ≤ s.spSt && s.spSt ≤ 9 && s.spSt != 6 && s.spSt != 7 then 1
  else 0

/-- Whether the drive may send (R284, R293, R296, R469). -/
def State.maySend (s : State) : Bool := !s.solo && s.on Reg.FRK_CTRL_ENABLE && !s.krx.silent && s.on Reg.SYS_IDENT_PRESENT

/-- Send a frame: SEQ counts (R283). -/
def State.sendFrame (s : State) (type : Nat) (payload : List Nat) : State :=
  let f := frameBytes type s.slot s.krx.seq payload
  (s.emit (.kerrex f)).putKrx { s.krx with seq := (s.krx.seq + 1) % 256 }

/-- A drive's STATUS payload (R283, R284): in recovery HOLD is BASE, with no ask. -/
def State.statusPayload (s : State) : List Nat :=
  let rcv := s.get Reg.SYS_BOOT_MODE == 2
  let wake := if s.on Reg.FRK_WAKE_GO then (if s.on Reg.FRK_WAKE_ALL then 0x40 else s.get Reg.FRK_WAKE_SLOT) else 0xFF
  leBytes 2 (if rcv then s.get Reg.FRK_BOOK_LIM_BASE else s.hold) ++ leBytes 2 (if rcv then 0 else s.ask) ++
    [s.krx.lastGseq, s.kxState] ++ leBytes 2 (s.get Reg.FRK_BOOK_BOOK_GEN) ++
    [(if rcv then 0 else b2n (s.on Reg.FRK_CTRL_ELIGIBLE)) + 2 * s.get Reg.FRK_STATUS_LAPSED, wake]

/-- A slot in the postmaster's books. -/
def State.kxSlot (s : State) (n : Nat) : KxSlot := sGet s.krx.slots n KxSlot.unheard

/-- Replace a slot in the postmaster's books. -/
def State.putKxSlot (s : State) (n : Nat) (k : KxSlot) : State :=
  s.putKrx { s.krx with slots := sPut s.krx.slots n k KxSlot.unheard }

/-- Whether a slot is fitted in the shelf book (R296). -/
def State.fittedSlot (s : State) (n : Nat) : Bool :=
  if n < 32 then s.bit Reg.FRK_FIT_LO_FITTED n else s.bit Reg.FRK_FIT_HI_FITTED (n - 32)

/-- The count of a slot in the postmaster's books (R284, R290). -/
def State.slotCount (s : State) (n : Nat) : Nat :=
  if n = s.slot then s.hold
  else
    let k := s.kxSlot n
    match k.hold with
    | some h => h + (match k.grant with | some g => g.1 | none => 0)
    | none => if s.fittedSlot n then (if s.krx.unheard2s then s.get Reg.FRK_BOOK_LIM_UNHEARD else s.get Reg.FRK_BOOK_LIM_MAX_HOLD)
      else 0

/-- FREE (R290): BUDGET less the counts, 0 where they exceed it. -/
def State.free (s : State) : Nat :=
  s.get Reg.FRK_BOOK_BUDGET - (List.range 64).foldl (fun n k => n + s.slotCount k) 0

/-- An ask as a STATUS brings it (R285): it keeps its place, a new one goes to the end of the queue, and one of 0 leaves. An ask
whose grant is not yet acknowledged is not asked again. -/
def State.queueAsk (s : State) (n ask : Nat) : State :=
  let q := s.krx.queue
  let q := if (s.kxSlot n).grant.isSome || ask = 0 then q.filter fun p => p.1 != n
    else if q.any fun p => p.1 == n then q.map fun p => if p.1 == n then (n, ask) else p
    else q ++ [(n, ask)]
  (s.putKrx { s.krx with queue := q }).set Reg.FRK_PM_QUEUE (min 255 q.length)

/-- The postmaster hears a slot's STATUS (R284 to R290). -/
def State.heardStatus (s : State) (f : List Nat) : State :=
  let n := fb f 2 % 64
  let k := s.kxSlot n
  let g := match k.grant with
    | some g => if g.2 == fb f 10 then none else some g
    | none => none
  let s := s.putKxSlot n { k with hold := some (fw f 0), state := fb f 11, grant := g, now := true, age := 0 }
  s.queueAsk n (fw f 2)

/-- Grants from the head of the queue, none before the one ahead of it (R285, R286). -/
def State.grantAsks (s : State) : Nat → Nat → State
  | 0, _ => s
  | n + 1, entries =>
    match s.krx.queue with
    | [] => s
    | (k, ask) :: t =>
      if 12 ≤ entries || s.free < ask then s
      else
        let sl := s.kxSlot k
        let g := sl.gseq % 255 + 1
        let s := s.putKrx { s.krx with queue := t }
        let s := if k = s.slot then
            (s.set Reg.FRK_PURSE_HOLD (min s.holdMax (s.hold + ask))).inc Reg.FRK_COUNTS_GRANTS |>.set Reg.FRK_INT_GRANT 1
          else s.putKxSlot k { sl with grant := some (ask, g), gseq := g }
        State.grantAsks s n (entries + b2n (k != s.slot))

/-- The bits of SEEN (R283): the slots heard in the previous cycle, and the postmaster's own. -/
def State.seenMask (s : State) : Nat :=
  (List.range 64).foldl (fun m n => if n == s.slot || (s.kxSlot n).before then m + 2 ^ n else m) 0

/-- The postmaster sends its beacon (R282, R283, R286): grants, repeated until they are acknowledged. -/
def State.sendBeacon (s : State) : State :=
  let s := s.putKrx { s.krx with lineNs := s.clockNs, beaconNs := s.clockNs, seenNs := s.clockNs }
  let unacked := s.krx.slots.filter fun p => p.2.grant.isSome
  let s := if s.krx.granting then s.grantAsks 64 unacked.length else s
  let grants := (s.krx.slots.filterMap fun p => p.2.grant.map fun g => (p.1, g.1, g.2)).take 12
  let free := s.free
  let payload := leBytes 2 s.krx.cycle ++ leBytes 2 (s.get Reg.FRK_BOOK_BOOK_GEN) ++ leBytes 2 (s.get Reg.FRK_BOOK_BUDGET) ++
    leBytes 2 free ++ leBytes 8 s.seenMask ++ [grants.length] ++ grants.flatMap fun g => [g.1, g.2.1 % 256, g.2.2]
  let s := s.setAll [(Reg.FRK_PM_FREE, free), (Reg.FRK_PM_QUEUE, s.krx.queue.length)]
  s.sendFrame 0x01 payload

/-- KERREX_CYCLE_START (R282): the postmaster's next cycle. The slots heard in the last cycle go into SEEN, a census cycle
passes, and a cycle with CRC errors its own cycle does not explain is counted (R289). -/
def execKerrexCycleStart (s : State) : Host.Outcome State Fault Refusal :=
  if s.role = 3 && s.maySend then
    let k := s.krx
    let slots := k.slots.map fun p => (p.1, { p.2 with before := p.2.now, now := false, age := p.2.age + 1 })
    let s := s.putKrx { k with slots := slots, cycle := (k.cycle + 1) % 65536, due := true, census := k.census - 1,
                               crcCycles := if k.crcThis then k.crcCycles + 1 else 0, crcThis := false }
    let s := s.set Reg.FRK_PM_HEARD (slots.filter fun p => p.2.before).length
    ok s.sendBeacon
  else ok s

/-- A postmaster abdicates (R289): it becomes a follower, and its grants are never sent again. -/
def State.abdicate (s : State) : State :=
  let s := s.putKrx { s.krx with slots := [], queue := [], granting := false, census := 0 }
  (s.setAll [(Reg.FRK_PM_FREE, 0), (Reg.FRK_PM_HEARD, 0), (Reg.FRK_PM_QUEUE, 0)]).setRole 1 (s.get Reg.FRK_STATUS_PM_SLOT)

/-- A grant entry of a beacon of the followed postmaster (R286): applied once, not beyond the
largest holding (R275), and not while LAPSED stands (R295). -/
def State.applyGrant (s : State) (slot amount gseq : Nat) : State :=
  if slot == s.slot && gseq != s.krx.lastGseq && !s.on Reg.FRK_STATUS_LAPSED then
    let s := (s.set Reg.FRK_PURSE_HOLD (max s.hold (min s.holdMax (s.hold + amount)))).inc Reg.FRK_COUNTS_GRANTS
    (s.set Reg.FRK_INT_GRANT 1).putKrx { s.krx with lastGseq := gseq, granted := true }
  else s

/-- The grant entries of a beacon. -/
def beaconGrants (f : List Nat) : List (Nat × Nat × Nat) :=
  (List.range (min 12 (fb f 22))).map fun k => (fb f (23 + 3 * k), fb f (24 + 3 * k), fb f (25 + 3 * k))

/-- A beacon of the followed postmaster (R284, R286, R290, R291). -/
def State.followBeacon (s : State) (f : List Nat) : State :=
  let s := s.putKrx { s.krx with due := true }
  let s := if fw f 2 != s.get Reg.FRK_BOOK_BOOK_GEN then s.set Reg.FRK_STATUS_BOOK_MISMATCH 1 else s
  let seen := bitOf (fb f (14 + s.slot / 8)) (s.slot % 8)
  let s := if seen then s.putKrx { s.krx with seenNs := s.clockNs } else s
  let s := if seen && s.on Reg.FRK_STATUS_LAPSED then (s.set Reg.FRK_STATUS_LAPSED 0).set Reg.FRK_INT_LAPSED 1 else s
  (beaconGrants f).foldl (fun s g => s.applyGrant g.1 g.2.1 g.2.2) s

/-- The lowest slot whose beacon was heard within the last 3 cycles (R288). -/
def State.lowestHeard (s : State) : Option Nat := s.krx.heard.head?.map (·.1)

/-- BEACON_RECEIVED (R286, R288, R289, R293). -/
def execBeaconReceived (f : List Nat) (s : State) : Host.Outcome State Fault Refusal :=
  if !(frameOk f true && fb f 1 == 1) then ok s
  else if s.solo then ok (s.set Reg.FRK_STATUS_BUS_ACTIVE 1)
  else
    let src := fb f 2 % 64
    let s := s.putKrx { s.krx with heard := sIns s.krx.heard src 0, lineNs := s.clockNs, beaconNs := s.clockNs }
    if s.role = 3 then (if src < s.slot then ok ((s.abdicate.setRole 1 src).followBeacon f) else ok s)
    else if s.role = 2 && s.slot < src then ok s
    else
      let pm := s.lowestHeard.getD src
      let s := if pm != s.get Reg.FRK_STATUS_PM_SLOT || s.role != 1 then s.putKrx { s.krx with lastGseq := 0 } else s
      let s := s.setRole 1 pm
      if pm = src then ok (s.followBeacon f) else ok s

/-- STATUS_SLOT (R284): in its slot, in every cycle whose beacon it received, the drive sends STATUS; the beacons it heard grow a
cycle older. The postmaster also hears its own. -/
def execStatusSlot (s : State) : Host.Outcome State Fault Refusal :=
  let aged := (s.krx.heard.map fun p => (p.1, p.2 + 1)).filter fun p => p.2 ≤ 3
  if s.krx.due && s.maySend then
    let p := s.statusPayload
    let wake := s.on Reg.FRK_WAKE_GO
    let own := s.role = 3
    let s := s.sendFrame 0x02 p
    let s := (s.putKrx { s.krx with due := false, wakeSent := wake, heard := aged }).set Reg.FRK_WAKE_GO 0
    if own then ok (s.heardStatus (frameBytes 0x02 s.slot 0 p)) else ok s
  else ok (s.putKrx { s.krx with due := false, heard := aged })

/-- The drive leaves shelf-hold (R62, R269, R294): the domains of standby come on, and no envelope survives. -/
def State.leaveShelfHold (s : State) : State :=
  if s.krx.shelfHold then
    [28, 22, 13, 18, 19, 20].foldl (fun s n => s.pdSwitchOn n) (s.putKrx { s.krx with shelfHold := false }).noEnvelope
  else s

/-- STATUS_RECEIVED (R284 to R290, R294). -/
def execStatusReceived (f : List Nat) (inSlot : Bool) (s : State) : Host.Outcome State Fault Refusal :=
  if !(frameOk f inSlot && fb f 1 == 2) then ok s
  else if s.solo then ok (s.set Reg.FRK_STATUS_BUS_ACTIVE 1)
  else
    let s := if s.role = 3 then
        (if fw f 6 != s.get Reg.FRK_BOOK_BOOK_GEN then s.set Reg.FRK_STATUS_BOOK_MISMATCH 1 else s).heardStatus f
      else s
    if fb f 15 = s.slot || fb f 15 = 0x40 then ok s.leaveShelfHold else ok s

/-- CLAIM_RECEIVED (R288, R289): a candidate or a postmaster that hears a lower slot gives way. -/
def execClaimReceived (f : List Nat) (s : State) : Host.Outcome State Fault Refusal :=
  if !(frameOk f true && fb f 1 == 3) then ok s
  else if s.solo then ok (s.set Reg.FRK_STATUS_BUS_ACTIVE 1)
  else
    let src := fb f 2 % 64
    let s := s.putKrx { s.krx with lineNs := s.clockNs }
    if s.role = 3 && src < s.slot then ok s.abdicate
    else if s.role = 2 && src < s.slot then ok (s.setRole 0 (s.get Reg.FRK_STATUS_PM_SLOT))
    else ok s

/-- Whether the drive may be elected (R288, R289): its shelf book was posted, which is generation other than 0, ELIGIBLE is 1, it
is not in recovery, and no wait of R289 runs. -/
def State.eligible (s : State) : Bool :=
  s.on Reg.FRK_CTRL_ELIGIBLE && s.get Reg.SYS_BOOT_MODE != 2 && !s.krx.ineligible && s.bootKeys.any fun p => p.1 == Reg.FRK_BOOK_BOOK_GEN.addr

/-- ELECTION_BACKOFF_EXPIRY (R288): 50 ms and the drive's back-off have passed on a silent line. -/
def execElectionBackoffExpiry (s : State) : Host.Outcome State Fault Refusal :=
  if s.maySend && s.eligible && s.role != 3 && s.role != 2 && s.krx.lineNs + 50000000 + 250000 * s.slot ≤ s.clockNs then
    let s := s.setRole 2 (s.get Reg.FRK_STATUS_PM_SLOT)
    ok (s.sendFrame 0x03 (leBytes 2 (s.get Reg.FRK_BOOK_BOOK_GEN)))
  else ok s

/-- CLAIM_CONFIRM (R288, R290): 1 ms after its CLAIM the drive is postmaster, holds a census of three cycles, and sends its first
beacon. -/
def execClaimConfirm (s : State) : Host.Outcome State Fault Refusal :=
  if s.role = 2 then
    let s := s.putKrx { s.krx with slots := [], queue := [], census := 3, granting := false, unheard2s := false, crcCycles := 0,
                                   crcThis := false, due := true, lastGseq := 0, officeNs := s.clockNs }
    ok (s.setRole 3 s.slot).sendBeacon
  else ok s

/-- TRANSMIT_MISMATCH (R281): the transmission of a frame of a type ends, and the frame counts as not sent. -/
def execTransmitMismatch (type : Nat) (s : State) : Host.Outcome State Fault Refusal :=
  let s := s.putKrx { s.krx with seq := (s.krx.seq + 255) % 256 }
  if type = 3 && s.role = 2 then ok ((s.putKrx { s.krx with lineNs := s.clockNs }).setRole 0 (s.get Reg.FRK_STATUS_PM_SLOT))
  else if type = 2 && s.krx.wakeSent then ok ((s.set Reg.FRK_WAKE_GO 1).putKrx { s.krx with wakeSent := false })
  else ok s

/-- CENSUS_END (R290): after three census cycles granting may begin. -/
def execCensusEnd (s : State) : Host.Outcome State Fault Refusal :=
  if s.role = 3 && s.krx.census = 0 then ok (s.putKrx { s.krx with granting := true }) else ok s

/-- UNHEARD_SLOT_TIMEOUT (R290): 2 s in office. -/
def execUnheardSlotTimeout (s : State) : Host.Outcome State Fault Refusal :=
  if s.role = 3 && s.krx.officeNs + 2000000000 ≤ s.clockNs then ok (s.putKrx { s.krx with unheard2s := true }) else ok s

/-- CRC_ABDICATION (R289): CRC errors in 8 consecutive cycles at times its own cycle does not explain. -/
def execCrcAbdication (s : State) : Host.Outcome State Fault Refusal :=
  if s.role = 3 && 8 ≤ s.krx.crcCycles then
    let s := s.abdicate
    ok (s.putKrx { s.krx with ineligible := true, crcCycles := 0, abdicatedNs := s.clockNs })
  else ok s

/-- ELIGIBILITY_RESTORE (R289): 100 ms since the abdication. -/
def execEligibilityRestore (s : State) : Host.Outcome State Fault Refusal :=
  if s.krx.abdicatedNs + 100000000 ≤ s.clockNs then ok (s.putKrx { s.krx with ineligible := false }) else ok s

/-- KERREX_FRAME_DISCARD (R283, R289): a frame a receiver discards is counted; `explained` tells whether its time is one the
postmaster's own cycle explains. -/
def execKerrexFrameDiscard (f : List Nat) (inSlot explained : Bool) (s : State) : Host.Outcome State Fault Refusal :=
  if frameOk f inSlot then ok s
  else
    let s := s.inc Reg.FRK_COUNTS_CRC_ERRORS
    if explained then ok s else ok (s.putKrx { s.krx with crcThis := true })

/-- The commitments other than the spindle's and the standing seeks (R291). -/
def State.fixedCommit (s : State) : Nat :=
  let b := s.books
  let o : Option Nat → Nat := fun c => c.getD 0
  s.get Reg.FRK_BOOK_LIM_BASE + o b.elec + o b.slow + o b.pmk + o b.act.a + o b.act.b + o b.act.c + o b.act.d

/-- While LAPSED stands, H falls to the greater of UNHEARD and C (R291). -/
def State.shed (s : State) : State :=
  let low := max (s.get Reg.FRK_BOOK_LIM_UNHEARD) s.committed
  if low < s.hold then s.set Reg.FRK_PURSE_HOLD low else s

/-- LAPSE (R291): 1 s without a valid beacon, or without the drive's bit in SEEN. The governor cuts the spindle's
commitment so that all but the standing seeks fits within UNHEARD. -/
def execLapse (s : State) : Host.Outcome State Fault Refusal :=
  let past (t : Nat) : Bool := t + 1000000000 ≤ s.clockNs
  if !s.solo && s.role != 3 && (past s.krx.beaconNs || past s.krx.seenNs) && !s.on Reg.FRK_STATUS_LAPSED then
    let s := ((s.set Reg.FRK_STATUS_LAPSED 1).set Reg.FRK_INT_LAPSED 1).inc Reg.FRK_COUNTS_SHEDS
    let fit := s.get Reg.FRK_BOOK_LIM_UNHEARD - s.fixedCommit
    let b := s.books
    let s := s.putBooks { b with spinup := b.spinup.map (min fit), atSpeed := b.atSpeed.map (min fit) }
    let t := min (s.get Reg.FRK_TARGET_TARGET) (s.get Reg.FRK_BOOK_LIM_UNHEARD)
    ok (s.set Reg.FRK_TARGET_TARGET t).shed
  else ok s

/-- WAKE_SEND (R294): FRK_WAKE written with GO. -/
def execWakeSend (i : Initiator) (all : Bool) (slot : Nat) (s : State) : Host.Outcome State Fault Refusal :=
  ok (s.access i 0x40310018 4 fun s =>
    { s.setAll [(Reg.FRK_WAKE_GO, 1), (Reg.FRK_WAKE_ALL, b2n all), (Reg.FRK_WAKE_SLOT, slot)] with bus := .written })

/-- Whether any ELEC domain beyond the base set is on (R274, R477). -/
def State.elecOn (s : State) : Bool :=
  (List.range 30).any fun n => s.pdOn n && !([27, 11, 25, 26, 13, 22, 28, 18, 19, 20, 12, 23, 29].contains n)

/-- The commitments at a boundary (R274, R477, R278): released in the tick after their load ends, ELEC committed once its grant
covers it, and AT_SPEED topped up as the free stamps allow. -/
def State.booksTick (s : State) : State :=
  let b := s.books
  let st := s.spSt
  let starting := 2 ≤ st && st ≤ 5 || st == 8 || st == 9 || s.spn.retryWait
  let act (x : Act) : Option Nat :=
    let m := (s.lp x).mode
    if m == .parked || m == .dead then none else b.act.at x
  let still := st ≤ 1 || st == 0xA
  let b := { b with spinup := if starting then b.spinup else none,
                    atSpeed := if still then none else b.atSpeed,
                    slow := if still || s.get Reg.SPN_SET_SET_RPM != 2400 then none else b.slow,
                    pmk := if s.on Reg.PMK_CTRL_HEAD_A_LOAD || s.on Reg.PMK_CTRL_HEAD_B_LOAD then b.pmk else none,
                    act := ⟨act .a, act .b, act .c, act .d⟩,
                    elec := if s.elecOn || starting then b.elec else none }
  let s := s.putBooks b
  let s := match s.books.elec with
    | none => if s.elecOn && s.get Reg.FRK_COST_ELEC ≤ s.freeStamps then
        s.putBooks { s.books with elec := some (s.get Reg.FRK_COST_ELEC) } else s
    | some _ => s
  match s.books.atSpeed with
  | some n => if s.on Reg.FRK_STATUS_LAPSED then s
    else s.putBooks { s.books with atSpeed := some (min (s.get Reg.FRK_COST_AT_SPEED) (n + s.freeStamps)) }
  | none => s

/-- The spindle's commitment, which sets its power (R279). -/
def State.spindleStamps (s : State) : Nat := s.books.spinup.getD 0 + s.books.atSpeed.getD 0 + s.books.slow.getD 0

/-- The governor and the franking slice at a boundary (R255, R276, R279): the books, the input limit on port 0x88, X32, and ports
0x90 to 0x92, after a tick of so many ns. X32 and port 0x88 are the governor slice's. -/
def State.frankTick (s : State) (ns : Nat) : State :=
  let s := s.booksTick
  let s := if s.on Reg.FRK_STATUS_LAPSED then s.shed else s.followTarget
  let regen := (s.get Reg.PWR_STATUS_PHASE == 2 || s.get Reg.PWR_STATUS_PHASE == 3 && s.pwr.flushing) &&
    256 * s.get Reg.SPN_SPEEDS_REGEN_MIN ≤ s.speed
  let mw := if 2 ≤ s.get Reg.PWR_STATUS_PHASE then 0 else s.spindleStamps * 1000 * s.get Reg.FRK_COST_MISC_SPN_ETA / 256
  let s := s.set Reg.FRK_TARGET_TARGET (min (s.get Reg.FRK_TARGET_TARGET) s.targetMax)
  let s := if s.pdOn 12 then
      let s := if !s.sliceRuns 13 then s else (s.set (Reg.CRE_X 32) (b2n regen * 2 ^ 31 + mw)).putPortOut 0x88 (min (s.hold * 1000) (1000 * s.get Reg.PWR_HOLD_PIN_MAX))
      let ev := 4 * s.get Reg.FRK_STATUS_LAPSED + 2 * b2n s.krx.granted + b2n s.solo
      ((s.latch 0x90 s.hold).latch 0x91 (s.get Reg.FRK_TARGET_TARGET)).latch 0x92 ev
    else s
  let k := s.krx
  (s.putKrx { k with granted := false, stateNs := sPut k.stateNs s.kxState (sGet k.stateNs s.kxState 0 + ns) 0 }).set
    Reg.FRK_STATUS_ROLE (if s.solo then 4 else if s.role = 4 then 0 else s.role)

end Sys2Proof.Machine
end

