-- ==== Sys2Proof/Machine/Aes.lean ====
section
/-!
DEFINITION. The arithmetic of GF(2^8), and the AES-256, XTS and key-wrap operations that the consignment engine performs (R343, R360,
R361): FIPS 197, IEEE 1619 and NIST SP 800-38F, over lists of bytes.
-/
namespace Sys2Proof.Machine

/-- One step of a product in GF(2^8): the multiplicand doubled, reduced by the field polynomial. -/
def gfDouble (poly a : Nat) : Nat := if 256 ≤ 2 * a then (2 * a) ^^^ poly else 2 * a

/-- The product of `a` with the low `n` bits of `b`. -/
def gfMulBits (poly : Nat) : Nat → Nat → Nat → Nat
  | 0, _, _ => 0
  | n + 1, a, b => (if b % 2 = 1 then a else 0) ^^^ gfMulBits poly n (gfDouble poly a) (b / 2)

/-- The product in GF(2^8) under a polynomial. -/
def gfMul (poly a b : Nat) : Nat := gfMulBits poly 8 a b

/-- The inverse in GF(2^8), a^254; that of 0 is 0. -/
def gfInv (poly a : Nat) : Nat :=
  let sq (x : Nat) : Nat := gfMul poly x x
  let a3 := gfMul poly (sq a) a
  let a7 := gfMul poly (sq a3) a
  let a15 := gfMul poly (sq a7) a
  let a31 := gfMul poly (sq a15) a
  let a63 := gfMul poly (sq a31) a
  sq (gfMul poly (sq a63) a)

/-- A byte rotated left. -/
def rotByte (x k : Nat) : Nat := x * 2 ^ k % 256 + x * 2 ^ k / 256

/-- The S-box of AES. -/
def sbox (x : Nat) : Nat :=
  let i := gfInv 0x11B x
  i ^^^ rotByte i 1 ^^^ rotByte i 2 ^^^ rotByte i 3 ^^^ rotByte i 4 ^^^ 0x63

/-- The inverse S-box. -/
def invSbox (x : Nat) : Nat := gfInv 0x11B (rotByte x 1 ^^^ rotByte x 3 ^^^ rotByte x 6 ^^^ 0x05)

/-- Two lists of bytes, byte by byte. -/
def xorBytes (a b : List Nat) : List Nat := List.zipWith (· ^^^ ·) a b

/-- The round constants of the key expansion. -/
def aesRcon (n : Nat) : Nat := 2 ^ (n - 1)

/-- The next word of the AES-256 key schedule, from those made so far, newest first. -/
def aesNextWord (ws : List (List Nat)) : List Nat :=
  let i := ws.length
  let t := ws.headD []
  let t := if i % 8 = 0 then
      let r := (t.drop 1 ++ t.take 1).map sbox
      (r.headD 0 ^^^ aesRcon (i / 8)) :: r.tail
    else if i % 8 = 4 then t.map sbox else t
  xorBytes (ws.getD 7 []) t

/-- Grow a key schedule by so many words. -/
def aesGrow : Nat → List (List Nat) → List (List Nat)
  | 0, ws => ws
  | n + 1, ws => aesGrow n (aesNextWord ws :: ws)

/-- The 15 round keys of a 32-byte key. -/
def aesKeys (key : List Nat) : List (List Nat) :=
  let ws := (aesGrow 52 ((List.range 8).map fun k => (key.drop (4 * k)).take 4).reverse).reverse
  (List.range 15).map fun r => ((ws.drop (4 * r)).take 4).flatten

/-- The rows of the state shifted left by `d` times their number. -/
def shiftRows (d : Nat) (b : List Nat) : List Nat := (List.range 16).map fun i => b.getD ((i + 4 * d * (i % 4)) % 16) 0

/-- Multiply each column by a circulant matrix. -/
def mixColumns (m : List Nat) (b : List Nat) : List Nat :=
  (List.range 16).map fun i =>
    (List.range 4).foldl (fun v j => v ^^^ gfMul 0x11B (m.getD ((j + 4 - i % 4) % 4) 0) (b.getD (i / 4 * 4 + j) 0)) 0

/-- AES-256 encryption of a block under its round keys. -/
def aesEncrypt (keys : List (List Nat)) (b : List Nat) : List Nat :=
  let s := xorBytes b (keys.headD [])
  let s := (keys.tail.take 13).foldl (fun s k => xorBytes (mixColumns [2, 3, 1, 1] (shiftRows 1 (s.map sbox))) k) s
  xorBytes (shiftRows 1 (s.map sbox)) (keys.getD 14 [])

/-- AES-256 decryption of a block under its round keys. -/
def aesDecrypt (keys : List (List Nat)) (b : List Nat) : List Nat :=
  let s := xorBytes b (keys.getD 14 [])
  let s := (keys.tail.take 13).reverse.foldl
    (fun s k => mixColumns [14, 11, 13, 9] (xorBytes ((shiftRows 3 s).map invSbox) k)) s
  xorBytes ((shiftRows 3 s).map invSbox) (keys.headD [])

/-- The next tweak of XTS: the number the bytes make, least significant first, doubled in GF(2^128). -/
def xtsNext (t : List Nat) : List Nat :=
  let n := t.reverse.foldl (fun v b => v * 256 + b) 0
  let d := 2 * n % 2 ^ 128 ^^^ (if 2 ^ 127 ≤ n then 0x87 else 0)
  (List.range 16).map fun k => d / 256 ^ k % 256

/-- The blocks of a data unit under XTS, `f` the cipher of one block. -/
def xtsBlocks (f : List Nat → List Nat) : Nat → List Nat → List Nat → List Nat
  | 0, _, _ => []
  | n + 1, t, l => xorBytes (f (xorBytes (l.take 16) t)) t ++ xtsBlocks f n (xtsNext t) (l.drop 16)

/-- One sector of 4096 bytes under AES-256-XTS (R360): the key pair's first half ciphers the data and its second the tweak, which is a
128-bit number, least significant byte first. -/
def xtsSector (decrypt : Bool) (key : List Nat) (tweak : Nat) (l : List Nat) : List Nat :=
  let k1 := aesKeys (key.take 32)
  let k2 := aesKeys (key.drop 32)
  let t := aesEncrypt k2 ((List.range 16).map fun k => tweak / 256 ^ k % 256)
  xtsBlocks (if decrypt then aesDecrypt k1 else aesEncrypt k1) 256 t l

/-- A number as eight bytes, most significant first. -/
def be64 (n : Nat) : List Nat := (List.range 8).map fun k => n / 256 ^ (7 - k) % 256

/-- The steps of key wrap from step `t` on over eight semiblocks: the register A and the semiblocks. -/
def wrapSteps (keys : List (List Nat)) : Nat → Nat → List Nat → List (List Nat) → List Nat × List (List Nat)
  | 0, _, a, r => (a, r)
  | n + 1, t, a, r =>
    let b := aesEncrypt keys (a ++ r.getD ((t - 1) % 8) [])
    wrapSteps keys n (t + 1) (xorBytes (b.take 8) (be64 t)) (r.set ((t - 1) % 8) (b.drop 8))

/-- Key wrap of a 64-byte key pair into 72 bytes (R361). -/
def keyWrap (kek key : List Nat) : List Nat :=
  let r := wrapSteps (aesKeys kek) 48 1 (List.replicate 8 0xA6) ((List.range 8).map fun k => (key.drop (8 * k)).take 8)
  r.1 ++ r.2.flatten

/-- The steps of key unwrap from step `t` down. -/
def unwrapSteps (keys : List (List Nat)) : Nat → List Nat → List (List Nat) → List Nat × List (List Nat)
  | 0, a, r => (a, r)
  | t + 1, a, r =>
    let b := aesDecrypt keys (xorBytes a (be64 (t + 1)) ++ r.getD (t % 8) [])
    unwrapSteps keys t (b.take 8) (r.set (t % 8) (b.drop 8))

/-- Key unwrap (R361): none where the integrity check fails. -/
def keyUnwrap (kek wrapped : List Nat) : Option (List Nat) :=
  let r := unwrapSteps (aesKeys kek) 48 (wrapped.take 8) ((List.range 8).map fun k => (wrapped.drop (8 + 8 * k)).take 8)
  if r.1 = List.replicate 8 0xA6 then some r.2.flatten else none

/-- The coefficient c(j, i) of the Cauchy matrix (R343), with m parity members. -/
def cauchy (m j i : Nat) : Nat := gfInv 0x11D (j ^^^ (m + i))

/-- Byte of parity member `j` over the data members' bytes (R343). -/
def parityByte (m j : Nat) (d : List Nat) : Nat :=
  (d.zipIdx.map fun p => gfMul 0x11D (cauchy m j p.2) p.1).foldl (· ^^^ ·) 0

/-- Eliminate one unknown from the rows of a linear system over GF(2^8): each row is its coefficients and then its value; the pivot row
comes out first, with the rest reduced by it. -/
def gfPivot (rows : List (List Nat)) : Option (List Nat × List (List Nat)) :=
  match rows.find? fun r => r.headD 0 != 0 with
  | none => none
  | some p =>
    let inv := gfInv 0x11D (p.headD 0)
    let p' := p.tail.map (gfMul 0x11D inv)
    some (p', ((rows.erase p).map fun r => xorBytes r.tail (p'.map (gfMul 0x11D (r.headD 0)))))

/-- Solve a system of `n` unknowns. -/
def gfSolve : Nat → List (List Nat) → Option (List Nat)
  | 0, _ => some []
  | n + 1, rows =>
    match gfPivot rows with
    | none => none
    | some (p, rest) =>
      match gfSolve n rest with
      | none => none
      | some xs => some ((List.zipWith (gfMul 0x11D) p xs).foldl (· ^^^ ·) (p.getLastD 0) :: xs)

/-- All members of a stripe row's byte from those not left out (R343, R347): data members first, from `k` of the rest; `row` gives the
bytes as they stand, `out` the members left out. -/
def solveRow (k m : Nat) (row : List Nat) (out : Nat → Bool) : List Nat :=
  let missing := (List.range k).filter out
  let known := (List.range k).map fun i => if out i then 0 else row.getD i 0
  let ps := ((List.range m).filter fun j => !out (k + j)).take missing.length
  let eqs := ps.map fun j => missing.map (cauchy m j) ++ [row.getD (k + j) 0 ^^^ parityByte m j known]
  let xs := (gfSolve missing.length eqs).getD []
  let data := (List.range k).map fun i => match missing.idxOf? i with
    | some n => xs.getD n 0
    | none => row.getD i 0
  data ++ (List.range m).map fun j => parityByte m j data

end Sys2Proof.Machine
end

