-- ==== Sys2Proof/Machine/Notice.lean ====
section
/-!
DEFINITION. What the host side is told whatever told it: asynchronous events (R400), the error log (R399) and the latched bits of
Critical Warning (R401); and the commands taken, by serial number.
-/
namespace Sys2Proof.Machine

/-- Replace the host side. -/
def State.putHost (s : State) (h : HostSide) : State := { s with host := h }

/-- A command taken (R378). -/
def State.cmd? (s : State) (serial : Nat) : Option Cmd := sGet? s.host.cmds serial

/-- Replace a command. -/
def State.putCmd (s : State) (serial : Nat) (c : Cmd) : State :=
  s.putHost { s.host with cmds := sIns s.host.cmds serial c }

/-- A verdict without a retry delay. -/
def verdict (st : Status) (dnr : Bool) : Verdict := ⟨st, dnr, 0⟩

/-- Success. -/
def good : Verdict := verdict .success false

/-- Decide a command's response, once. -/
def State.answer (s : State) (serial : Nat) (v : Verdict) : State :=
  match s.cmd? serial with
  | some c => if c.verdict.isNone then s.putCmd serial { c with verdict := some v } else s
  | none => s

/-- Decide a command's response with dword 0 and data to return. -/
def State.answerWith (s : State) (serial dw0 : Nat) (reply : List Nat) (v : Verdict) : State :=
  match s.cmd? serial with
  | some c => if c.verdict.isNone then s.putCmd serial { c with verdict := some v, dw0 := dw0, reply := reply } else s
  | none => s

/-- The bit of Asynchronous Event Configuration that masks an event, none for the events it does not (R385). -/
def Event.maskBit (e : Event) : Option Nat :=
  if e.type = 1 then some (if e.info = 0 then 2 else if e.info = 1 then 1 else 0)
  else if e.type = 2 then some (if e.info = 0 then 8 else if e.info = 1 then 9 else 27)
  else none

/-- Whether an association is told of an event. Until the host sets the feature every event is (log 31). -/
def Assoc.hears (a : Assoc) (e : Event) : Bool :=
  !a.discovery &&
    match e.maskBit with
    | some b => bitOf (sGet a.feats 0x0B 0xFFFFFFFF) b
    | none => true

/-- Dword 0 of the completion of an Asynchronous Event Request. -/
def Event.dw0 (e : Event) : Nat := e.type % 8 + e.info % 256 * 2 ^ 8 + e.page % 256 * 2 ^ 16

/-- An event at one association (R400): it completes the oldest Asynchronous Event Request outstanding, or is retained; a like one
retained, or told with its page unread, merges with it. -/
def State.eventAt (s : State) (n : Nat) (a : Assoc) (e : Event) : State :=
  if !a.hears e || a.events.contains e || a.told.contains e then s
  else
    match a.aers with
    | [] => s.putHost { s.host with assocs := sIns s.host.assocs n { a with events := a.events ++ [e] } }
    | k :: t =>
      let s := s.putHost { s.host with assocs := sIns s.host.assocs n { a with aers := t, told := a.told ++ [e] } }
      s.answerWith k e.dw0 [] good

/-- The device raises an asynchronous event (R400). -/
def State.raiseEvent (s : State) (e : Event) : State := s.host.assocs.foldl (fun s p => s.eventAt p.1 p.2 e) s

/-- An error log entry (R386, R399): at most 64 are kept, the newest first. -/
def State.logError (s : State) (sqid cid : Nat) (st : Status) (nsid lba : Nat) : State :=
  let n := s.host.errCount + 1
  s.putHost { s.host with errCount := n, errors := (⟨n, sqid, cid, st, nsid, lba⟩ :: s.host.errors).take 64 }

/-- A latched bit of Critical Warning sets (R401), with its event. -/
def State.setCritical (s : State) (bit : Nat) : State :=
  if bitOf s.host.critical bit then s
  else (s.putHost { s.host with critical := Sys2Proof.setBit s.host.critical bit true }).raiseEvent ⟨1, 0, 0x02⟩

/-- The warning, a declaration or a flush stands (R255 to R258). -/
def State.powerEvent (s : State) : Bool := 2 ≤ s.get Reg.PWR_STATUS_PHASE || s.pwr.flushing

/-- Reads only (R45): MODE 0b01 of SYS_BOOT. -/
def State.readsOnly (s : State) : Bool := s.get Reg.SYS_BOOT_MODE == 1

/-- Writes are held for timing (R79, R82). -/
def State.writesHeld (s : State) : Bool := s.on Reg.TCK_STATUS_WR_HOLD

/-- Media may be written for placement and background work: not reads only, writes free, and no power event (R45, R79, R255). -/
def State.mayPlace (s : State) : Bool := !s.readsOnly && !s.writesHeld && !s.powerEvent

end Sys2Proof.Machine
end

