-- ==== Sys2Proof/Machine/Sorting.lean ====
section
/-!
DEFINITION. The sorting office (R298 to R338): the map and its switch jobs, the SOF's rings, the first-class region and the band
groups, placing, folding and re-sorting, the commit of units, bundles, checkpoints and replay, refresh and reallocation.
-/
namespace Sys2Proof.Machine

/-- Put a thing into a list in order, before those it does not come after. -/
def insertBy {α : Type} (le : α → α → Bool) (x : α) : List α → List α
  | [] => [x]
  | y :: t => if le x y then x :: y :: t else y :: insertBy le x t

/-- Sort a list; things that compare alike keep their order. -/
def sortBy {α : Type} (le : α → α → Bool) (l : List α) : List α := l.foldr (insertBy le) []

/-- Replace the office. -/
def State.putOffice (s : State) (o : Office) : State := { s with office := o }

/-- Write a map entry; the SOF reaches DRAM through the pigeonhole cache (R412). -/
def State.putMap (s : State) (lpn e : Nat) : State :=
  s.unitStore (s.mapAddr lpn) ((leBytes 5 e).map (BitVec.ofNat 8))

/-- The fields of a map entry (R303). -/
def entFC (e : Nat) : Bool := bitOf e 39
def entSC (e : Nat) : Bool := bitOf e 38
def entUNR (e : Nat) : Bool := bitOf e 37
def entWGEN (e : Nat) : Nat := bitsOf e 36 31

/-- The location of an entry: SURFACE, AREA and SLOT in bits [30:0]. -/
def entLoc (e : Nat) : Nat := bitsOf e 30 0

/-- A location (R303, R304). -/
def placeOf (surface area slot : Nat) : Nat := surface % 32 * 2 ^ 26 + area % 2 ^ 16 * 2 ^ 10 + slot % 2 ^ 10

/-- The area of a location, as a key of the band table. -/
def placeArea (loc : Nat) : Nat := bitsOf loc 30 26 * 65536 + bitsOf loc 25 10

/-- An entry with given fields. -/
def mkEntry (fc sc unr : Bool) (wgen loc : Nat) : Nat :=
  b2n fc * 2 ^ 39 + b2n sc * 2 ^ 38 + b2n unr * 2 ^ 37 + wgen % 64 * 2 ^ 31 + loc % 2 ^ 31

/-- The next SEQ of the switch engine (R316). -/
def State.sofSeq (s : State) : Nat := s.get Reg.SOF_SEQ_LO_SEQ + 2 ^ 32 * s.get Reg.SOF_SEQ_HI_SEQ

/-- Apply one triple (R316): only where the whole entry equals OLD and the LPN has an entry. -/
def State.applyTriple (s : State) (t : Nat × Nat × Nat) : State × Bool :=
  if s.mapped t.1 && s.mapEntry t.1 == t.2.1 then (s.putMap t.1 t.2.2, true)
  else (s.inc Reg.SOF_REFUSED_REFUSED, false)

/-- Apply the triples of a switch job in order: with the flags of those applied. -/
def State.applyTriples (s : State) : List (Nat × Nat × Nat) → State × List Bool
  | [] => (s, [])
  | t :: r =>
    let a := s.applyTriple t
    let b := State.applyTriples a.1 r
    (b.1, a.2 :: b.2)

/-- A switch job (R316): the next SEQ, and its triples. -/
def State.switchJob (s : State) (ts : List (Nat × Nat × Nat)) : State × Nat × List Bool :=
  let q := s.sofSeq
  let s := (s.set Reg.SOF_SEQ_LO_SEQ (q + 1)).set Reg.SOF_SEQ_HI_SEQ ((q + 1) / 2 ^ 32)
  let r := s.applyTriples ts
  (r.1, q, r.2)

/-- Jobs posted and not taken, with a tail (R337). -/
def State.sofQueued (s : State) (tail : Nat) : Nat := (tail + 512 - s.get Reg.SOF_J_PTR_SJHEAD) % 512

/-- SOF_STATUS follows the block (R337). -/
def State.sofRefresh (s : State) : State :=
  let n := s.sofQueued (s.get Reg.SOF_J_PTR_SJTAIL)
  let st := if !s.on Reg.SOF_CTRL_ENABLE then 0 else if s.on Reg.SOF_CTRL_PAUSE then 3 else if n = 0 then 1 else 2
  (s.set Reg.SOF_STATUS_STATE st).set Reg.SOF_STATUS_JOBS n

/-- SJTAIL written (R337): refused beyond 256 jobs outstanding. -/
def execSofJobPost (i : Initiator) (tail : Nat) (s : State) : Host.Outcome State Fault Refusal :=
  ok (s.access i 0x40400030 4 fun s =>
    if 256 < s.sofQueued (tail % 512) then (s.set Reg.SOF_INT_J_OVF 1).ignored i 0x40400030
    else { (s.set Reg.SOF_J_PTR_SJTAIL tail).sofRefresh with bus := .written })

/-- The result ring has room (R337, R158). -/
def State.sofRoom (s : State) : Bool :=
  (s.get Reg.SOF_R_PTR_SRTAIL + 512 - s.get Reg.SOF_R_PTR_SRHEAD) % 512 < 256

/-- Word `k` of the job at SJHEAD (R338). -/
def State.sofWord (s : State) (k : Nat) : Nat :=
  let base := s.get Reg.SOF_J_BASE_LO_BASE_LO / 2 * 2 ^ 13 + 2 ^ 32 * s.get Reg.SOF_J_BASE_HI_BASE_HI
  s.dword (base + 32 * (s.get Reg.SOF_J_PTR_SJHEAD % 256) + 4 * k)

/-- Write a result (R338). -/
def State.sofResult (s : State) (tag status applied refused seq : Nat) : State :=
  let t := s.get Reg.SOF_R_PTR_SRTAIL
  let base := s.get Reg.SOF_R_BASE_LO_BASE_LO * 2 ^ 12 + 2 ^ 32 * s.get Reg.SOF_R_BASE_HI_BASE_HI
  let a := base + 16 * (t % 256)
  let s := s.unitWords a
    [tag % 2 ^ 16 * 2 ^ 16 + status % 256 * 2 ^ 8, applied % 2 ^ 16 * 2 ^ 16 + refused % 2 ^ 16, seq % 2 ^ 32, seq / 2 ^ 32]
  let s := if status = 5 then s.set Reg.SOF_INT_BAD_JOB 1 else s
  ((s.set Reg.SOF_R_PTR_SRTAIL ((t + 1) % 512)).set Reg.SOF_INT_RESULT 1).sofRefresh

/-- The SOF takes the job at SJHEAD where its KIND is one asked for (R337): enabled, not paused, its domain on, and room for the result.
A COUNT above 1024 or a reserved KIND is a bad job (R338). -/
def State.sofTake (s : State) (pick : Nat → Bool) (f : Nat → Nat → Nat → Nat → State → State) : State :=
  if !s.pdOn 24 || !s.on Reg.SOF_CTRL_ENABLE || s.on Reg.SOF_CTRL_PAUSE || !s.sofRoom ||
      s.sofQueued (s.get Reg.SOF_J_PTR_SJTAIL) = 0 then s
  else
    let w := s.sofWord
    let kind := bitsOf (w 0) 31 28
    if pick kind then
      let s' := s.set Reg.SOF_J_PTR_SJHEAD ((s.get Reg.SOF_J_PTR_SJHEAD + 1) % 512)
      let tag := bitsOf (w 0) 15 0
      let count := bitsOf (w 0) 27 16
      if kind = 0 || 3 < kind || 1024 < count then s'.sofResult tag 0x05 0 0 0
      else f tag count (w 2 + 2 ^ 32 * w 3) (w 4 + 2 ^ 32 * w 5) s'
    else s

/-- LOOKUP (R338): the entries of a list of LPNs. An LPN at or above MAP_PARCELS is refused: the entry written for it is free
(log 32). The reserved KINDs are taken here. -/
def execLookup (s : State) : Host.Outcome State Fault Refusal :=
  ok (s.sofTake (fun k => k != 2 && k != 3) fun tag count list out s =>
    let ents := (List.range count).map fun k =>
      let lpn := s.dram (list + 8 * k) 8
      if s.mapped lpn then s.mapEntry lpn else Config.refusedEntry lpn % 2 ^ 64
    let s := s.unitReads list (8 * count) []
    let s := s.unitStore out ((ents.flatMap (leBytes 8)).map (BitVec.ofNat 8))
    s.sofResult tag 0x00 0 0 0)

/-- The triple `k` of a list (R338). -/
def State.tripleAt (s : State) (list k : Nat) : Nat × Nat × Nat :=
  (s.dram (list + 32 * k) 6, s.dram (list + 32 * k + 8) 5, s.dram (list + 32 * k + 16) 5)

/-- SWITCH (R316, R338): byte 24 of a refused triple becomes 1. -/
def execSwitch (s : State) : Host.Outcome State Fault Refusal :=
  ok (s.sofTake (· == 2) fun tag count list _ s =>
    let ts := (List.range count).map (s.tripleAt list)
    let s := s.unitReads list (32 * count) []
    let r := s.switchJob ts
    let bad := (List.range count).filter fun k => !r.2.2.getD k true
    let s := bad.foldl (fun s k => s.unitStore (list + 32 * k + 24) [1]) r.1
    s.sofResult tag (if bad.isEmpty then 0x00 else 0x01) (count - bad.length) bad.length r.2.1)

/-- Whether slot `k` of a scanned band is valid (R338): the entry of its LPN has SC and names the surface, the area and the slot. -/
def State.slotValid (s : State) (surface area k lpn : Nat) : Bool :=
  s.mapped lpn && entSC (s.mapEntry lpn) && entLoc (s.mapEntry lpn) == placeOf surface area k

/-- VALID_SCAN (R338): a bitmap of 128 bytes, and the number of valid slots. -/
def execValidScan (s : State) : Host.Outcome State Fault Refusal :=
  let w1 := s.sofWord 1
  ok (s.sofTake (· == 3) fun tag count list out s =>
    let valid := (List.range count).filter fun k =>
      s.slotValid (bitsOf w1 30 26) (bitsOf w1 25 10) k (s.dram (list + 8 * k) 8)
    let map := valid.foldl (fun n k => n + 2 ^ k) 0
    let s := s.unitReads list (8 * count) []
    let s := s.unitStore out ((leBytes 128 map).map (BitVec.ofNat 8))
    s.sofResult tag 0x00 valid.length 0 0)

/-- The band-table entry of an area (R307). -/
def State.band (s : State) (k : Nat) : Band := sGet s.office.bands k (Band.unused (k % 65536))

/-- Journal a record under the SEQ it was given (R316, R332). -/
def State.journal (s : State) (r : JRec) : State := s.putOffice { s.office with journal := s.office.journal ++ [r] }

/-- The data and parity members of the layout in force (R339, R364): 0b11 acts as 0b00, and 0b10 on the VK-232M too. -/
def State.layoutKM (s : State) : Nat × Nat :=
  match s.get Reg.CNS_LAYOUT_LAYOUT with
  | 1 => (12, 4)
  | 2 => if s.variant == .vk232m then (14, 2) else (28, 4)
  | _ => (14, 2)

/-- The positions of a set. -/
def State.positions (s : State) : Nat := s.layoutKM.1 + s.layoutKM.2

/-- The sets of positions (R339). -/
def State.sets (s : State) : Nat := if s.variant == .vk432m && s.positions = 16 then 2 else 1

/-- The surface that serves an index (R340). -/
def State.posSurface (s : State) (i : Nat) : Nat :=
  match i % 4 with
  | 0 => s.get (Reg.CNS_POSMAP_SURF0 (i / 4))
  | 1 => s.get (Reg.CNS_POSMAP_SURF1 (i / 4))
  | 2 => s.get (Reg.CNS_POSMAP_SURF2 (i / 4))
  | _ => s.get (Reg.CNS_POSMAP_SURF3 (i / 4))

/-- Whether a position of band group `g` holds a parity member (R341). -/
def State.parityAt (s : State) (g p : Nat) : Bool :=
  match s.layoutKM with
  | (14, _) => p == g % 16 || p == (g + 8) % 16
  | (12, _) => (List.range 4).any fun j => p == (g + 4 * j) % 16
  | _ => (List.range 4).any fun j => p == (g + 8 * j) % 32

/-- The data positions of a group in ascending order: data members 0 to k − 1 (R341). -/
def State.dataPositions (s : State) (g : Nat) : List Nat := (List.range s.positions).filter fun p => !s.parityAt g p

/-- The free areas of a surface: all but the spares, those in use, and those freed of the spares (R300, R348). -/
def State.freeAreas (s : State) (surface : Nat) : Nat :=
  let mine := s.office.bands.filter fun p => p.1 / 65536 == surface
  let used := (mine.filter fun p => p.2.state != 0 && p.1 % 65536 % 50 != 49).length
  let back := (mine.filter fun p => p.2.state == 0 && p.1 % 65536 % 50 == 49).length
  s.office.areas - s.office.areas / 50 - used + back

/-- The surfaces of a set by position. -/
def State.setSurfaces (s : State) (t : Nat) : List Nat :=
  (List.range s.positions).map fun p => s.posSurface (16 * t + p)

/-- G_free (R302): the groups that could be opened from free areas. -/
def State.gFree (s : State) : Nat :=
  (List.range s.sets).foldl (fun n t =>
    n + (s.setSurfaces t).foldl (fun m x => min m (s.freeAreas x)) s.office.areas) 0

/-- The full-drive floor holds at or below FLOOR_GROUPS and lifts above RESERVE_GROUPS + 2 (R331), with the event of its bit. -/
def State.floorCheck (s : State) : State :=
  let g := s.gFree
  if !s.office.floor && g ≤ s.get Reg.SOF_RESERVE_FLOOR_GROUPS then
    (s.putOffice { s.office with floor := true }).raiseEvent ⟨1, 0, 0x02⟩
  else if s.office.floor && s.get Reg.SOF_RESERVE_RESERVE_GROUPS + 2 < g then s.putOffice { s.office with floor := false }
  else s

/-- Change band areas in one BAND record, which takes its SEQ from a switch job with no triples (R300, R332); the full-drive rule follows. -/
def State.setBands (s : State) (l : List (Nat × Band)) : State :=
  let r := s.switchJob []
  let s := r.1.putOffice { r.1.office with bands := l.foldl (fun m p => sIns m p.1 p.2) r.1.office.bands }
  (s.journal ⟨r.2.1, 0x04, [], [], l⟩).floorCheck

/-- Change the valid count of an area. -/
def State.addValid (s : State) (k : Nat) (up : Bool) : State :=
  let b := s.band k
  let v := if up then b.valid + 1 else b.valid - 1
  s.putOffice { s.office with bands := sIns s.office.bands k { b with valid := v } }

/-- The free area of a surface nearest in number to `n` (R342). -/
def State.nearFree (s : State) (surface n : Nat) : Option Nat :=
  ((List.range s.office.areas).flatMap fun d => if d = 0 then [n] else if d ≤ n then [n - d, n + d] else [n + d]).find?
    fun a => a < s.office.areas && (s.band (surface * 65536 + a)).state == 0

/-- The open group of a kind. -/
def State.openGroup? (s : State) (kind : Nat) : Option (Nat × Group) :=
  s.office.groups.find? fun p => p.2.kind == kind && !p.2.closed

/-- Open a band group (R301, R342): on the set whose turn it is by the group's number, the lowest free area of its first position and on
every other the free area nearest to it; its areas become open with a new EPOCH. None where a surface has no free area. -/
def State.openGroup (s : State) (kind : Nat) : State :=
  let g := s.office.nextGroup
  let surf := s.setSurfaces (g % s.sets)
  match s.nearFree (surf.headD 0) 0 with
  | none => s
  | some n =>
    let areas := surf.map fun x => s.nearFree x n |>.map fun a => (x, a)
    if areas.any Option.isNone then s
    else
      let areas := areas.filterMap id
      let new := areas.map fun p =>
        let k := p.1 * 65536 + p.2
        let b := s.band k
        (k, { b with state := 2, valid := 0, group := g, epoch := b.epoch + 1, defects := [], resort := false })
      let s := s.putOffice { s.office with nextGroup := g + 1, groups := sIns s.office.groups g ⟨kind, areas, [], [], s.ms, false, 0, []⟩ }
      s.setBands new

/-- The place that the next parcel of a group takes: stripe by stripe, data member by data member (R301, R341). -/
def State.groupPlace (s : State) (g : Nat) (e : Group) (n : Nat) : Nat :=
  let ps := s.dataPositions g
  let p := e.areas.getD (ps.getD (n % ps.length) 0) (0, 0)
  placeOf p.1 p.2 (n / ps.length)

/-- The parcels a group holds. -/
def State.groupRoom (s : State) : Nat := 1024 * s.layoutKM.1

/-- Close a group: its bands are full (R300), and each counts one full write toward its neighbour (R329). -/
def State.closeGroup (s : State) (g : Nat) : State :=
  match sGet? s.office.groups g with
  | none => s
  | some e =>
    let new := e.areas.map fun p =>
      let k := p.1 * 65536 + p.2
      let b := s.band k
      (k, { b with state := if b.state == 2 then 3 else b.state, ati := b.ati + 1 })
    let s := s.putOffice { s.office with groups := sIns s.office.groups g { e with closed := true, closedMs := s.ms } }
    s.setBands new

/-- Write parcels into the open group of a kind, opening one where there is none: their places in order, or none where no group can be
opened; the placement counter passes each (R306). A stripe not filled is made up with filler (R306), counted as the LPN 0xFFFF_FFFF_FFFF. -/
def State.groupPut (s : State) (kind : Nat) (lpns : List Nat) (pad : Bool) : State × Option (List Nat) :=
  let s := if (s.openGroup? kind).isNone then s.openGroup kind else s
  match s.openGroup? kind with
  | none => (s, none)
  | some (g, e) =>
    let k := s.layoutKM.1
    let at_ := e.written.length
    let fill := if pad && (at_ + lpns.length) % k != 0 then k - (at_ + lpns.length) % k else 0
    let places := (List.range lpns.length).map fun i => s.groupPlace g e (at_ + i)
    let w := e.written ++ lpns ++ List.replicate fill (2 ^ 48 - 1)
    let q := e.pseqs ++ (List.range (lpns.length + fill)).map (s.office.pseq + ·)
    let s := s.putOffice { s.office with groups := sIns s.office.groups g { e with written := w, pseqs := q },
                                         pseq := s.office.pseq + lpns.length + fill }
    (if s.groupRoom ≤ w.length then s.closeGroup g else s, some places)

/-- The pairs in service whose slots may be given out (R310, R345). -/
def State.openPairs (s : State) : List Pair :=
  s.office.pairs.filter fun p => !p.shrinking && !bitOf (s.get Reg.CNS_UNAVAIL_UNAVAIL) p.a.1 &&
    !bitOf (s.get Reg.CNS_UNAVAIL_UNAVAIL) p.b.1

/-- Slots of first-class areas in use: those of the index, and those switched away and not yet released (R320). -/
def State.fcUsed (s : State) (loc : Nat) : Bool :=
  s.office.fc.any (fun p => p.2.locA == loc || p.2.locB == loc) || s.office.old.any (fun o => entFC o.entry && entLoc o.entry == loc) ||
    s.office.units.any fun u => u.2.slots.any fun p => p.2.locA == loc || p.2.locB == loc

/-- A free first-class slot: its two locations (R309). -/
def State.fcFree (s : State) : Option (Nat × Nat) :=
  (s.openPairs.flatMap fun p => (List.range 768).map fun k => (placeOf p.a.1 p.a.2 k, placeOf p.b.1 p.b.2 k)).find?
    fun l => !s.fcUsed l.1

/-- First-class use is above so many percent (R312): slots in use of the slots of the region. -/
def State.fcAbove (s : State) (percent : Nat) : Bool := percent * (768 * s.office.pairs.length) < 100 * s.office.fc.length

/-- A new commit unit. -/
def State.addUnit (s : State) (u : CommitUnit) : State :=
  s.putOffice { s.office with units := sIns s.office.units s.office.nextUnit u, nextUnit := s.office.nextUnit + 1 }

/-- Whether a namespace covers an LPN. -/
def Ns.covers (n : Ns) (lpn : Nat) : Bool := n.lpn ≤ lpn && lpn < n.lpn + n.parcels

/-- An in-tray entry by its serial number. -/
def State.tray? (s : State) (serial : Nat) : Option TrayEnt := s.host.tray.find? fun t => t.serial == serial

/-- Whether a block of an in-tray entry is committed. -/
def TrayEnt.isPlaced (t : TrayEnt) (b : Nat) : Bool := t.placed.any fun r => r.1 ≤ b && b < r.1 + r.2

/-- The first block of an entry that is not committed. -/
def TrayEnt.next (t : TrayEnt) : Option Nat := ((List.range t.count).find? fun k => !t.isPlaced (t.first + k)).map (t.first + ·)

/-- Whether a unit in the making already carries blocks of an entry. -/
def State.trayBusy (s : State) (serial : Nat) : Bool := s.office.units.any fun u => u.2.tray.any fun r => r.1 == serial

/-- Whether an earlier entry of the in-tray still has blocks of a range to place: writes of one block are placed in order (R391). -/
def State.trayAhead (s : State) (t : TrayEnt) (first count : Nat) : Bool :=
  s.host.tray.any fun u => u.serial < t.serial && u.nsid == t.nsid && u.kind != .value &&
    (List.range count).any fun k => u.first ≤ first + k && first + k < u.first + u.count && !u.isPlaced (first + k)

/-- The sectors of a parcel that blocks from `first` on cover, as a mask. -/
def sectorMask (lpn0 lpn first count : Nat) : Nat :=
  let base := (lpn - lpn0) * 64
  ((List.range 64).filter fun k => first ≤ base + k && base + k < first + count).foldl (fun n k => n + 2 ^ k) 0

/-- Place one parcel's sectors in its first-class slot (R311): its own, or a new one where it has none or its pair shrinks or is out of
service (R336, R345). -/
def State.fcPlace (s : State) (lpn mask : Nat) : State × Option ((Nat × Nat × Nat) × (Nat × FcSlot)) :=
  let e := s.mapEntry lpn
  let old := if entFC e then sGet? s.office.fc lpn else none
  let keep := match old with
    | some f => if s.openPairs.any fun p => placeArea f.locA == p.a.1 * 65536 + p.a.2 then some (f.locA, f.locB) else none
    | none => none
  match (if keep.isSome then keep else s.fcFree) with
  | none => (s, none)
  | some l =>
    let f : FcSlot := ⟨(old.map (·.mask)).getD 0 ||| mask, l.1, l.2, s.office.pseq, s.ms⟩
    let s := s.putOffice { s.office with pseq := s.office.pseq + 1 }
    (s, some ((lpn, e, mkEntry true (entSC e) (entUNR e) (entWGEN e + 1) (entLoc e)), (lpn, f)))

/-- Place the parcels of a list with their masks, until one finds no slot. -/
def State.fcPlaceAll (s : State) : List (Nat × Nat) → List (Nat × Nat × Nat) → List (Nat × FcSlot) →
    State × Option (List (Nat × Nat × Nat) × List (Nat × FcSlot))
  | [], ts, fs => (s, some (ts.reverse, fs.reverse))
  | (lpn, m) :: r, ts, fs =>
    match s.fcPlace lpn m with
    | (s, none) => (s, none)
    | (s', some (t, f)) =>
      -- the slot is taken before the next parcel looks for one
      let s' := s'.putOffice { s'.office with fc := sIns s'.office.fc lpn (match sGet? s.office.fc lpn with
        | some old => { old with locA := f.2.locA, locB := f.2.locB } | none => { f.2 with mask := 0 }) }
      State.fcPlaceAll s' r (t :: ts) (f :: fs)

/-- The copies of a parcel in the making would meet its WGEN again after one more host placement (R318). -/
def State.wgenWrap (s : State) (lpn : Nat) : Bool :=
  s.office.units.any fun u => (u.2.kind == .fold || u.2.kind == .resort) &&
    u.2.triples.any fun t => t.1 == lpn && entWGEN t.2.1 == (entWGEN (s.mapEntry lpn) + 1) % 64

/-- Place parcels with their masks as one unit: nothing where one finds no slot or must wait (R311, R318). -/
def State.placeUnit (s : State) (lpns : List (Nat × Nat)) (extra : List (Nat × Nat × Nat)) (kind : UnitKind)
    (tray : List (Nat × Nat × Nat)) (key : Option (Nat × Nat × Nat × Nat)) : State :=
  if lpns.any fun l => s.wgenWrap l.1 then s
  else
    match s.fcPlaceAll lpns [] [] with
    | (_, none) => s
    | (s', some (ts, fs)) =>
      (s'.putOffice { s'.office with fc := s.office.fc }).addUnit ⟨kind, ts ++ extra, fs, false, tray, key, true⟩

/-- Whether the parcels from an LPN on are all unmapped and no unit or bundle has them. -/
def State.runFree (s : State) (lpn n : Nat) : Bool :=
  (List.range n).all fun i =>
    let e := s.mapEntry (lpn + i)
    !entFC e && !entSC e && !(s.office.bundles.any fun b => b.lpn == lpn + i) &&
      !(s.office.units.any fun u => u.2.triples.any fun t => t.1 == lpn + i)

/-- A run of unmapped LPNs of a store (R326). -/
def State.findRun (s : State) (n : Ns) (k : Nat) : Option Nat :=
  ((List.range (n.parcels + 1 - k)).find? fun i => s.runFree (n.lpn + i) k).map (n.lpn + ·)

/-- The bytes a value takes in a bundle: its 32-byte header and the value, at a multiple of 256 (R326). -/
def bundleBytes (vlen : Nat) : Nat := (vlen + 32 + 255) / 256 * 256

/-- Add a value to the open bundle of a store, or open one (R326). -/
def State.bundleAdd (s : State) (nsid key vlen : Nat) : State :=
  let fits (b : Bundle) : Bool := !b.placed && b.nsid == nsid &&
    b.values.foldl (fun n v => n + bundleBytes v.2) 0 + bundleBytes vlen ≤ 2 ^ 18
  match (List.range s.office.bundles.length).find? fun i => (s.office.bundles[i]?).any fits with
  | some i => s.putOffice { s.office with bundles := s.office.bundles.modify i fun b => { b with values := b.values ++ [(key, vlen)] } }
  | none =>
    match (sGet? s.host.nss nsid).bind fun n => s.findRun n 1 with
    | some lpn => s.putOffice { s.office with bundles := s.office.bundles ++ [⟨nsid, lpn, [(key, vlen)], s.ms, false⟩] }
    | none => s

/-- The key of a key-value index entry: the store, the key's length and the key. -/
def kvKey (nsid len key : Nat) : Nat := (nsid * 17 + len) * 2 ^ 128 + key

/-- One of the two candidate buckets of a key (R325). -/
def bucketAt (first : Bool) (key : Nat) : Nat := Config.bucket first key % 2 ^ 25

/-- The entries a bucket holds. -/
def State.bucketUse (s : State) (b : Nat) : Nat := (s.host.kv.filter fun e => e.2.bucket == b).length

/-- The bucket that a key's entry stands in, or would take: the first candidate with room (R325). -/
def State.bucketOf (s : State) (key : Nat) : Nat :=
  match sGet? s.host.kv key with
  | some e => e.bucket
  | none => if s.bucketUse (bucketAt true key) < 8 then bucketAt true key else bucketAt false key

/-- A parcel is unmapped (R330): the triple that switches it, with WGEN increased. -/
def State.dropTriple (s : State) (lpn : Nat) : Nat × Nat × Nat :=
  let e := s.mapEntry lpn
  (lpn, e, mkEntry false false false (entWGEN e + 1) 0)

/-- The parcels of a value of so many bytes (R326). -/
def runParcels (vlen : Nat) : Nat := (vlen + 2 ^ 18 - 1) / 2 ^ 18

/-- The triples that free the run of a key's old value in the record that replaces it (R327). -/
def State.freeOld (s : State) (key : Nat) : List (Nat × Nat × Nat) :=
  match sGet? s.host.kv key with
  | some e => if e.bundled then [] else (List.range (runParcels e.len)).map fun i => s.dropTriple (e.lpn + i)
  | none => []

/-- FIRST_CLASS_PLACEMENT (R311, R317, R326): the next 1 MiB of an in-tray entry of a block namespace goes to first-class slots as one
commit unit; a value of at most BUNDLE_MAX joins the open bundle of its store, and a larger one takes a run of LPNs. It waits where no
slot is free and while writes are held. -/
def execFirstClassPlacement (serial : Nat) (s : State) : Host.Outcome State Fault Refusal :=
  match s.tray? serial with
  | none => ok s
  | some t =>
    match sGet? s.host.nss t.nsid with
    | none => ok s
    | some n =>
      if !s.mayPlace || s.trayBusy serial || n.csi == 2 then ok s
      else if t.kind == .value then
        let key := kvKey t.nsid t.keyLen t.key
        if t.count ≤ 1024 * s.get Reg.SOF_KV_BUNDLE_MAX then
          if s.office.bundles.any fun b => !b.placed && b.values.any fun v => v.1 == key then ok s
          else ok (s.bundleAdd t.nsid key t.count)
        else
          match s.findRun n (runParcels t.count) with
          | none => ok s
          | some lpn =>
            ok (s.placeUnit ((List.range (runParcels t.count)).map fun i => (lpn + i, 2 ^ 64 - 1)) (s.freeOld key) .keyValue
              [(serial, t.first, t.count)] (some (key, t.keyLen, t.count, lpn)))
      else
        match t.next with
        | none => ok s
        | some b =>
          let most := min (256 - (b - t.first) % 256) (t.first + t.count - b)
          let count := ((List.range most).takeWhile fun k => !t.isPlaced (b + k)).length
          if s.trayAhead t b count then ok s
          else
            let lpns := (List.range ((b + count + 63) / 64 - b / 64)).map fun k => n.lpn + b / 64 + k
            ok (s.placeUnit (lpns.map fun l => (l, sectorMask n.lpn l b count)) [] .place [(serial, b, count)] none)

/-- The newest in-tray entry that holds a block as data or zeros (R391). -/
def State.trayHas (s : State) (nsid lba : Nat) : Option TrayEnt :=
  s.host.tray.reverse.find? fun t => t.nsid == nsid && t.kind != .value && t.first ≤ lba && lba < t.first + t.count &&
    !t.isPlaced lba

/-- The blocks of every in-tray entry that lie in a range, as what a unit places. -/
def State.trayIn (s : State) (nsid first count : Nat) : List (Nat × Nat × Nat) :=
  (s.host.tray.filter fun t => t.nsid == nsid && t.kind != .value && t.first < first + count && first < t.first + t.count).map fun t =>
    let lo := max first t.first
    (t.serial, lo, min (first + count) (t.first + t.count) - lo)

/-- A zone of a namespace. -/
def Ns.zone (n : Ns) (k : Nat) : HZone := sGet n.zones k HZone.fresh

/-- Replace a zone. -/
def State.putZone (s : State) (nsid k : Nat) (z : HZone) : State :=
  match sGet? s.host.nss nsid with
  | none => s
  | some n => s.putHost { s.host with nss := sIns s.host.nss nsid { n with zones := sIns n.zones k z } }

/-- The zones bound to a group: namespace, zone, and the zone itself (R322). -/
def State.zonesOf (s : State) (g : Nat) : List (Nat × Nat × HZone) :=
  s.host.nss.flatMap fun n => (n.2.zones.filter fun z => z.2.bound.any fun b => b.1 == g).map fun z => (n.1, z.1, z.2)

/-- The data members of a zone set that no zone is bound to and that are not closed for good (R322). -/
def State.unbound (s : State) (g : Nat) : List Nat :=
  let shut := ((sGet? s.office.groups g).map (·.shut)).getD []
  (List.range s.layoutKM.1).filter fun m => !(s.zonesOf g).any (fun x => x.2.2.bound == some (g, m)) && !shut.contains m

/-- Bands of a zone set close at their write points (R323, R324): they are full, and with the last data member the set takes no more. -/
def State.shutBands (s : State) (g : Nat) (members : List Nat) : State :=
  match sGet? s.office.groups g with
  | none => s
  | some e =>
    let new := members.filter fun m => !e.shut.contains m
    if new.isEmpty then s
    else
      let e := { e with shut := e.shut ++ new }
      let s := s.putOffice { s.office with groups := sIns s.office.groups g e }
      if (List.range s.layoutKM.1).all e.shut.contains then s.closeGroup g
      else
        s.setBands (new.map fun m =>
          let p := e.areas.getD ((s.dataPositions g).getD m 0) (0, 0)
          let b := s.band (p.1 * 65536 + p.2)
          (p.1 * 65536 + p.2, { b with state := if b.state == 2 then 3 else b.state }))

/-- A zone takes no more and all that was written to it is placed. -/
def HZone.settled (z : HZone) : Bool := z.state == .full && z.wp ≤ 64 * z.placed

/-- The bands of zones that have settled close (R300, R324). -/
def State.settleZones (s : State) (g : Nat) : State :=
  s.shutBands g ((s.zonesOf g).filterMap fun x => if x.2.2.settled then x.2.2.bound.map (·.2) else none)

/-- A band still unbound ZFR_MIN after its set opened is closed at slot 0 and never bound (R323). -/
def State.ageZoneSets (s : State) : State :=
  (s.office.groups.filter fun p => p.2.kind == 3 && !p.2.closed &&
    p.2.openedMs + 60000 * s.get Reg.SOF_ZONE_ZFR_MIN ≤ s.ms).foldl (fun s p => s.shutBands p.1 (s.unbound p.1)) s

/-- Bind a zone at its first write (R322): to the open zone set with the fewest unbound bands, or to a new one while G_free is above
RESERVE_GROUPS. -/
def State.bindZone (s : State) (nsid k : Nat) (z : HZone) : State :=
  let cand (s : State) : List (Nat × Nat) :=
    (s.office.groups.filter fun p => p.2.kind == 3 && !p.2.closed && !(s.unbound p.1).isEmpty).map fun p => (p.1, (s.unbound p.1).length)
  let s := if (cand s).isEmpty && s.get Reg.SOF_RESERVE_RESERVE_GROUPS < s.gFree then s.openGroup 3 else s
  match (sortBy (fun a b => a.2 ≤ b.2) (cand s)).head? with
  | none => s
  | some (g, _) => s.putZone nsid k { z with bound := some (g, (s.unbound g).headD 0) }

/-- The lag of the zones of a set (R323): a zone that has not reached a stripe which another bound band has holds it back from then on. -/
def State.zoneLag (s : State) (g : Nat) : State :=
  let zs := s.zonesOf g
  let front := zs.foldl (fun m x => max m x.2.2.placed) 0
  zs.foldl (fun s x =>
    let z := x.2.2
    let behind := z.placed < front && z.state != .full
    s.putZone x.1 x.2.1 { z with lagMs := if behind then some (z.lagMs.getD s.ms) else none,
                                 recommended := z.recommended && behind }) s

/-- Whether stripe `j` of a zone set has its parity: every bound band has reached it or is closed (R323, R324). -/
def State.stripeDone (s : State) (g j : Nat) : Bool :=
  (s.zonesOf g).all fun x => j < x.2.2.placed || (x.2.2.state == .full && x.2.2.wp ≤ 64 * j)

/-- The parcels of a zone set whose stripe parity is placed and which have no second-class location yet: the triples and blocks of
a zone commit (R317). -/
def State.zoneTriples (s : State) (g : Nat) : List (Nat × Nat × Nat) :=
  match sGet? s.office.groups g with
  | none => []
  | some e =>
    (s.zonesOf g).flatMap fun x =>
      match sGet? s.host.nss x.1, x.2.2.bound with
      | some n, some (_, m) =>
        (List.range x.2.2.placed).filterMap fun j =>
          let lpn := n.lpn + 1024 * x.2.1 + j
          let old := s.mapEntry lpn
          let p := e.areas.getD ((s.dataPositions g).getD m 0) (0, 0)
          let loc := placeOf p.1 p.2 j
          if s.stripeDone g j && !entSC old then
            some (lpn, old, mkEntry false true (entUNR old) (entWGEN old + 1) loc)
          else none
      | _, _ => []

/-- What the stripes' parity of a zone set covers and no unit carries becomes a zone unit (R317). -/
def State.zoneUnit (s : State) (g : Nat) : State :=
  let ts := (s.zoneTriples g).filter fun t => !(s.office.units.any fun u => u.2.kind == .zone && u.2.triples.any fun x => x.1 == t.1)
  if ts.isEmpty then s
  else
    let blocks := s.host.nss.flatMap fun n => ts.flatMap fun t =>
      if n.2.covers t.1 then s.trayIn n.1 ((t.1 - n.2.lpn) * 64) 64 else []
    s.addUnit ⟨.zone, ts, [], false, blocks, none, false⟩

/-- Place the next whole parcel of a zone (R321 to R323): into the slot of the band it is bound to; while the stripe lags, into a
first-class slot too. A finished zone's last parcel is padded with filler. -/
def State.placeZone (s : State) (nsid : Nat) (n : Ns) (k : Nat) : State :=
  let z := n.zone k
  let s := if z.bound.isNone then s.bindZone nsid k z else s
  match sGet? s.host.nss nsid with
  | none => s
  | some n' =>
    let z := n'.zone k
    match z.bound with
    | none => s
    | some (g, _) =>
      let base := 65536 * k + 64 * z.placed
      let need := if z.state == .full then min 64 (z.wp - 64 * z.placed) else 64
      if need = 0 || z.wp < 64 * z.placed + need || 1024 ≤ z.placed ||
          !((List.range need).all fun i => (s.trayHas nsid (base + i)).isSome) || s.wgenWrap (n.lpn + 1024 * k + z.placed) then s
      else
        let j := z.placed
        let s := (s.putZone nsid k { z with placed := j + 1, pseqs := z.pseqs ++ [s.office.pseq] }).zoneLag g
        let s := s.putOffice { s.office with pseq := s.office.pseq + 1 }
        let s := s.settleZones g
        if s.stripeDone g j then s.zoneUnit g
        else s.placeUnit [(n.lpn + 1024 * k + j, 2 ^ 64 - 1)] [] .place (s.trayIn nsid base 64) none

/-- DIRECT_PLACEMENT (R311): a whole stripe of consecutive LPNs of one block namespace, all its blocks in the in-tray, goes to the open
direct-placement group, stripe parcel i to data member i (R341). For a zoned namespace, the next whole parcel of the zone that the LPN
lies in goes to the band the zone is bound to (R322). -/
def execDirectPlacement (nsid lpn : Nat) (s : State) : Host.Outcome State Fault Refusal :=
  match sGet? s.host.nss nsid with
  | none => ok s
  | some n =>
    let k := s.layoutKM.1
    if !s.mayPlace then ok s
    else if n.csi == 2 then
      if n.lpn ≤ lpn && lpn < n.lpn + n.parcels then ok (s.placeZone nsid n ((lpn - n.lpn) / 1024)) else ok s
    else if n.csi != 0 || lpn % k != 0 || lpn < n.lpn || n.lpn + n.parcels < lpn + k then ok s
    else
      let base := (lpn - n.lpn) * 64
      let blocks := s.trayIn nsid base (64 * k)
      if !((List.range (64 * k)).all fun i => (s.trayHas nsid (base + i)).isSome) || blocks.any (fun b => s.trayBusy b.1) ||
          (List.range k).any (fun i => s.wgenWrap (lpn + i)) then ok s
      else
        let lpns := (List.range k).map (lpn + ·)
        match s.groupPut 2 lpns false with
        | (_, none) => ok s
        | (s, some places) =>
          let ts := (List.range k).map fun i =>
            let e := s.mapEntry (lpn + i)
            (lpn + i, e, mkEntry false true (entUNR e) (entWGEN e + 1) (places.getD i 0))
          ok (s.addUnit ⟨.direct, ts, [], false, blocks, none, false⟩)

/-- The place an entry names, as a location to release once it is switched away (R320). -/
def State.leavePlace (s : State) (e seq : Nat) (lpn : Nat) (fcGone : Bool) (reads : Nat) : State :=
  let s := if entSC e then s.addValid (placeArea (entLoc e)) false else s
  let fc := if entFC e && fcGone then (sGet? s.office.fc lpn).toList.flatMap fun f => [f.locA, f.locB] else []
  let old := (if entSC e then [(⟨mkEntry false true false 0 (entLoc e), seq, reads⟩ : OldPlace)] else []) ++
    fc.map fun l => (⟨mkEntry true false false 0 l, seq, reads⟩ : OldPlace)
  s.putOffice { s.office with old := s.office.old ++ old }

/-- What follows a triple that was applied: valid counts, the first-class index, the old location, and the watch list, which a position leaves
when its parcel is written again (R152). -/
def State.settle (s : State) (seq reads : Nat) (slots : List (Nat × FcSlot)) (t : Nat × Nat × Nat) : State :=
  let s := { s with rcv := { s.rcv with watch := s.rcv.watch.filter fun w => w.2.2.2 != t.1 } }
  let old := t.2.1
  let new := t.2.2
  let moved := entLoc old != entLoc new || entSC old != entSC new
  let s := if entSC old && moved then s.leavePlace (mkEntry false true false 0 (entLoc old)) seq t.1 false reads else s
  let s := if entSC new && moved then s.addValid (placeArea (entLoc new)) true else s
  match slots.find? fun p => p.1 == t.1 with
  | some p =>
    let s := match sGet? s.office.fc t.1 with
      | some f => if f.locA == p.2.locA then s else
          let gone := [f.locA, f.locB].map fun l => (⟨mkEntry true false false 0 l, seq, reads⟩ : OldPlace)
          s.putOffice { s.office with old := s.office.old ++ gone }
      | none => s
    s.putOffice { s.office with fc := sIns s.office.fc t.1 p.2 }
  | none =>
    if entFC old && !entFC new then
      let s := s.leavePlace (mkEntry true false false 0 0) seq t.1 true reads
      s.putOffice { s.office with fc := sDel s.office.fc t.1 }
    else s

/-- A host write that covers a listed sector takes it off the unreadable list (R305): the sectors of the blocks placed. UNR clears with the
parcel's last. -/
def State.unlist (s : State) (lpn mask : Nat) : State :=
  let l := s.office.unreadable.filter fun p => !(p.1 == lpn && bitOf mask p.2)
  let s := s.putOffice { s.office with unreadable := l }
  let e := s.mapEntry lpn
  if entUNR e && !(l.any fun p => p.1 == lpn) then
    let r := s.switchJob [(lpn, e, e - 2 ^ 37)]
    r.1.journal ⟨r.2.1, 0x07, [(lpn, e, e - 2 ^ 37)], [], []⟩
  else s

/-- Blocks of an in-tray entry are committed (R311): with its last, its bags are released and the entry leaves the in-tray. -/
def State.trayPlaced (s : State) (serial lo n : Nat) : State :=
  match s.tray? serial with
  | none => s
  | some t =>
    let t' := { t with placed := t.placed ++ [(lo, n)] }
    if t'.next.isNone then
      let s := s.putHost { s.host with tray := s.host.tray.filter fun x => x.serial != serial }
      s.bagReleaseAll t.bags 0x60
    else s.putHost { s.host with tray := s.host.tray.map fun x => if x.serial == serial then t' else x }

/-- HQ_ITRAY follows the in-tray (R407): the bags that hold data or are reserved, in MiB rounded up. -/
def State.itrayRefresh (s : State) : State :=
  let held := bagsRoom (s.host.tray.flatMap (·.bags)) + bagsRoom (s.host.cmds.flatMap fun c => c.2.bags)
  let m := (held + 2 ^ 20 - 1) / 2 ^ 20
  (s.set Reg.HQ_ITRAY_USED_MIB (min 1024 m)).set Reg.HQ_ITRAY_PEAK_MIB (max (s.get Reg.HQ_ITRAY_PEAK_MIB) (min 1024 m))

/-- The TYPE of a unit's journal record (R332). -/
def CommitUnit.record (u : CommitUnit) : Nat :=
  match u.kind with
  | .place => 0x01
  | .direct => 0x02
  | .fold => 0x02
  | .resort => 0x02
  | .keyValue => 0x05
  | .zone => 0x06

/-- The runs of a unit's blocks of one in-tray entry that are committed: those of parcels whose triple was applied. A value is committed as a
whole. -/
def State.runsDone (s : State) (done : List (Nat × Nat × Nat)) (r : Nat × Nat × Nat) : List (Nat × Nat) :=
  match s.tray? r.1 with
  | none => []
  | some t =>
    if t.kind == .value then [r.2]
    else
      let base := ((sGet? s.host.nss t.nsid).map (·.lpn)).getD 0
      (List.range ((r.2.1 + r.2.2 + 63) / 64 - r.2.1 / 64)).filterMap fun i =>
        let p := r.2.1 / 64 + i
        let lo := max r.2.1 (64 * p)
        if done.any fun d => d.1 == base + p then some (lo, min (r.2.1 + r.2.2) (64 * p + 64) - lo) else none

/-- The blocks that a unit places are committed; those of a parcel whose triple was refused stay to be placed again (R316, R318). -/
def State.trayDone (s : State) (u : CommitUnit) (done : List (Nat × Nat × Nat)) : State :=
  u.tray.foldl (fun s r => (s.runsDone done r).foldl (fun s q => s.trayPlaced r.1 q.1 q.2) s) s

/-- What a zone's unit left uncommitted becomes a unit again. -/
def State.zonesAgain (s : State) (ts : List (Nat × Nat × Nat)) : State :=
  ((ts.map fun t => (s.band (placeArea (entLoc t.2.2))).group).eraseDups).foldl (fun s g => s.zoneUnit g) s

/-- The unit of a direct placement, fold or re-sort that has a sector in a failed band fails with it (R319); the band is suspect, its group
closed, and the failure counts toward retiring the head (R351). -/
def State.failBand (s : State) (surface area : Nat) : State :=
  let k := surface * 65536 + area
  let b := s.band k
  let hit (u : CommitUnit) : Bool := u.kind != .place && u.kind != .keyValue && u.triples.any fun t => placeArea (entLoc t.2.2) == k
  let us := s.office.units.map fun p => (p.1, if hit p.2 then { p.2 with failed := true } else p.2)
  let s := s.putOffice { s.office with units := us, suspects := s.office.suspects ++ [(s.ms, surface)] }
  let s := if b.state == 2 then s.closeGroup b.group else s
  s.setBands [(k, { s.band k with state := 4 })]

/-- The sectors of a parcel that a unit writes for the host, as a mask. -/
def State.unitMask (s : State) (u : CommitUnit) (lpn : Nat) : Nat :=
  if u.kind == .keyValue then 2 ^ 64 - 1
  else u.tray.foldl (fun m r => match (s.tray? r.1).bind fun t => sGet? s.host.nss t.nsid with
    | some n => m ||| sectorMask n.lpn lpn r.2.1 r.2.2
    | none => m) 0

/-- The bytes of the journal's records after the trim point (R332, R333): a header of 16 bytes each, and a body of a length that is free. -/
def State.journalBytes (s : State) : Nat :=
  s.office.journal.foldl (fun n r => n + 16 + Config.recordBody r.type r.triples.length r.slots.length r.areas.length) 0

/-- The journal is at JOURNAL_MAX, 256 MiB, where switch jobs are held (R333). -/
def State.journalFull (s : State) : Bool := 2 ^ 28 ≤ s.journalBytes

/-- A put whose bundle parcel no unit has mapped yet, or that an earlier put of its key comes before, waits (R327, R336). -/
def State.putWaits (s : State) (k : Nat) (u : CommitUnit) : Bool :=
  match u.key with
  | none => false
  | some (key, _, _, lpn) =>
    (u.slots.isEmpty && !entFC (s.mapEntry lpn) && !entSC (s.mapEntry lpn)) ||
      s.office.units.any fun p => p.1 < k && p.2.key.any fun q => q.1 == key

/-- The stripes a unit touches cannot get their parity any more: a band of its target group failed, and the group is closed (R319). -/
def State.targetLost (s : State) (u : CommitUnit) : Bool :=
  (u.kind == .direct || u.kind == .fold || u.kind == .resort) && u.triples.any fun t =>
    (sGet? s.office.groups (s.band (placeArea (entLoc t.2.2))).group).any fun e =>
      e.closed && e.areas.any fun a => (s.band (a.1 * 65536 + a.2)).state == 4

/-- COMMIT_UNIT_SWITCH (R317): once every receipt of the unit is good, with the parity of every stripe it touches, its switch job is posted
and its record journalled with the triples applied. While the journal is full switch jobs are held (R333). `reads` is the media reads in flight that looked an old location up (R320). `failedBand` is a band whose receipts could not be cured
within its spare sectors: it fails, and a unit whose target failed, or whose stripe parity can no longer be placed, posts nothing (R319). -/
def execCommitUnitSwitch (k : Nat) (receiptsGood parityGood : Bool) (reads : Nat) (failedBand : Option Nat) (s : State) : Host.Outcome State Fault Refusal :=
  let s := match failedBand with
    | some b => s.failBand (b / 65536) (b % 65536)
    | none => s
  match sGet? s.office.units k with
  | none => ok s
  | some u =>
    let parity := u.parity || parityGood
    if u.failed || (!parity && s.targetLost u) then ok (s.putOffice { s.office with units := sDel s.office.units k })
    else if !receiptsGood || !parity || s.putWaits k u || s.journalFull || s.readsOnly || !s.pdOn 24 then ok s
    else
      let r := s.switchJob u.triples
      let done := (List.range u.triples.length).filterMap fun i => if r.2.2.getD i false then u.triples[i]? else none
      let slots := u.slots.filter fun p => done.any fun t => t.1 == p.1
      let s := done.foldl (fun s t => s.settle r.2.1 reads slots t) r.1
      let s := done.foldl (fun s t => s.unlist t.1 (s.unitMask u t.1)) s
      let s := s.putOffice { s.office with units := sDel s.office.units k }
      let s := s.journal ⟨r.2.1, u.record, done, slots, []⟩
      let s := match u.key with
        | some (key, len, vlen, lpn) =>
          s.putHost { s.host with kv := sIns s.host.kv key ⟨len, vlen, lpn, vlen ≤ 1024 * s.get Reg.SOF_KV_BUNDLE_MAX, s.bucketOf key⟩ }
        | none => s
      let s := slots.foldl (fun s p =>
        let rg := placeArea p.2.locA * 16 + bitsOf p.2.locA 9 0 / 48
        s.putOffice { s.office with regions := sPut s.office.regions rg (sGet s.office.regions rg 0 + 1) 0 }) s
      let s := s.trayDone u done
      ok (if u.kind == .zone then s.zonesAgain u.triples else s).itrayRefresh

/-- The kinds of work that the throttle step leaves (R440): folding and re-sorting only at full rate from step 1. -/
def State.coolEnough (s : State) : Bool := s.get Reg.THM_STATUS_STEP = 0

/-- The parcels of one stripe to fold, those of shrinking pairs first (R310) and the least recently written first (R312): none that a unit
has; a slot written in the last 60 s only above 95 % use. -/
def State.foldTake (s : State) : List (Nat × FcSlot) :=
  let busy (lpn : Nat) : Bool := s.office.units.any fun u => u.2.triples.any fun t => t.1 == lpn
  let rank (f : FcSlot) : Nat := b2n (!s.office.pairs.any fun p => p.shrinking && placeArea f.locA == p.a.1 * 65536 + p.a.2)
  (sortBy (fun a b => rank a.2 < rank b.2 || (rank a.2 == rank b.2 && a.2.lastMs ≤ b.2.lastMs))
    (s.office.fc.filter fun p => !busy p.1 && (s.fcAbove 95 || p.2.lastMs + 60000 ≤ s.ms))).take s.layoutKM.1

/-- FOLDING (R312, R317): the parcels of one stripe, least recently written first, go from the first-class region into the open fold
group. A slot written in the last 60 s is passed over unless use is above 95 %. -/
def execFolding (s : State) : Host.Outcome State Fault Refusal :=
  let shrink := s.office.pairs.any (·.shrinking)
  let going := s.fcAbove (s.get Reg.SOF_FOLD_FOLD_HI) || (s.office.folding && s.fcAbove (s.get Reg.SOF_FOLD_FOLD_LO))
  let s := s.putOffice { s.office with folding := going }
  let full := going || shrink
  let idle := s.office.idle && s.coolEnough
  if !s.mayPlace || !(full || idle) then ok s
  else
    let take := s.foldTake
    if take.isEmpty then ok s
    else
      match s.groupPut 0 (take.map (·.1)) true with
      | (_, none) => ok s
      | (s, some places) =>
        let ts := (List.range take.length).filterMap fun i => take[i]?.map fun p =>
          let e := s.mapEntry p.1
          (p.1, e, mkEntry false true (entUNR e) (entWGEN e) (places.getD i 0))
        ok (s.addUnit ⟨.fold, ts, [], false, [], none, false⟩)

/-- The valid parcels of a data member of a group, with their slots (R313). -/
def State.validOf (s : State) (g : Nat) (e : Group) (member : Nat) : List Nat :=
  let k := s.layoutKM.1
  let n := (e.written.length + k - 1) / k
  (List.range n).filterMap fun slot =>
    match e.written[slot * k + member]? with
    | some lpn =>
      let loc := s.groupPlace g e (slot * k + member)
      if s.slotValid (bitsOf loc 30 26) (bitsOf loc 25 10) slot lpn then some lpn else none
    | none => none

/-- The valid parcels of a group. -/
def State.groupValid (s : State) (e : Group) : Nat := e.areas.foldl (fun n p => n + (s.band (p.1 * 65536 + p.2)).valid) 0

/-- The group that re-sorting takes next (R313): one with a suspect band or a band queued, one queued by Refresh, else the full group
with the fewest valid parcels, the earliest closed on a tie. -/
def State.resortSource (s : State) : Option (Nat × Group) :=
  let closed := s.office.groups.filter fun p => p.2.closed && 0 < s.groupValid p.2
  let suspect (p : Nat × Group) : Bool :=
    p.2.areas.any fun a => (s.band (a.1 * 65536 + a.2)).state == 4 || (s.band (a.1 * 65536 + a.2)).resort
  match closed.find? suspect with
  | some p => some p
  | none =>
    match closed.find? fun p => s.office.resortQueue.contains p.1 with
    | some p => some p
    | none =>
      (sortBy (fun a b =>
        let va := s.groupValid a.2
        let vb := s.groupValid b.2
        va < vb || (va == vb && a.2.closedMs ≤ b.2.closedMs)) closed).head?

/-- RE_SORTING (R313, R317): the valid parcels of one data band of the source group are copied into the open re-sort group. -/
def execReSorting (member : Nat) (s : State) : Host.Outcome State Fault Refusal :=
  let g := s.gFree
  let going := g < s.get Reg.SOF_FOLD_RESORT_LO || (s.office.resorting && g < s.get Reg.SOF_FOLD_RESORT_HI)
  let s := s.putOffice { s.office with resorting := going }
  let full := going || g ≤ s.get Reg.SOF_RESERVE_RESERVE_GROUPS
  match s.resortSource with
  | none => ok s
  | some (n, e) =>
    let light := s.office.idle && s.coolEnough && 2 * s.groupValid e ≤ s.groupRoom
    let lpns := s.validOf n e member
    let busy := s.office.units.any fun u => u.2.triples.any fun t => lpns.contains t.1
    if !s.mayPlace || !(full || light) || lpns.isEmpty || busy || s.layoutKM.1 ≤ member then ok s
    else
      match s.groupPut 1 lpns true with
      | (_, none) => ok s
      | (s, some places) =>
        let ts := (List.range lpns.length).filterMap fun i => lpns[i]?.map fun lpn =>
          let x := s.mapEntry lpn
          (lpn, x, mkEntry (entFC x) true (entUNR x) (entWGEN x) (places.getD i 0))
        ok (s.addUnit ⟨.resort, ts, [], false, [], none, false⟩)

/-- IDLE_TIMEOUT (R312, R313): no host command has arrived for 10 s. -/
def execIdleTimeout (s : State) : Host.Outcome State Fault Refusal :=
  if s.host.lastMs + 10000 ≤ s.ms then ok (s.putOffice { s.office with idle := true }) else ok s

/-- Whether an entry names a place in a group. -/
def Group.holds (e : Group) (entry : Nat) : Bool := entSC entry && e.areas.any fun a => placeArea (entLoc entry) == a.1 * 65536 + a.2

/-- A group may be freed (R302, R320): its bands hold no valid parcel, no location in it waits to be released, and no unit in the making
would put a parcel there. -/
def State.groupDead (s : State) (e : Group) : Bool :=
  s.groupValid e == 0 && !(s.office.old.any fun p => e.holds p.entry) &&
    !(s.office.units.any fun u => !u.2.failed && u.2.triples.any fun t => e.holds t.2.2)

/-- Free a group in one BAND record (R302); what is retired stays so. -/
def State.freeGroup (s : State) (g : Nat) (e : Group) : State :=
  let s := s.putOffice { s.office with groups := sDel s.office.groups g, resortQueue := s.office.resortQueue.erase g }
  s.setBands (e.areas.map fun a =>
    let key := a.1 * 65536 + a.2
    let x := s.band key
    (key, { x with state := if x.state == 5 then 5 else 0, valid := 0, group := 0, defects := [], resort := false }))

/-- Free every closed group that may be freed (R302); after a start the open targets too whose copies were never switched (R336). -/
def State.freeGroups (s : State) (opened : Bool) : State :=
  (s.office.groups.filter fun p => (p.2.closed || (opened && p.2.kind != 3)) && s.groupDead p.2).foldl (fun s p => s.freeGroup p.1 p.2) s

/-- LOCATION_RELEASE (R320): a location switched away is released once its record is in the strongroom, or in the flush, and every read
that had looked it up has completed. A closed group whose data bands hold no valid parcel is freed with it (R302). -/
def execLocationRelease (k : Nat) (readsEnded : Bool) (s : State) : Host.Outcome State Fault Refusal :=
  match s.office.old[k]? with
  | none => ok s
  | some o =>
    if !(s.office.journal.any fun r => r.seq == o.seq) && s.office.trim ≤ o.seq || !(readsEnded || o.reads == 0) then ok s
    else
      ok ((s.putOffice { s.office with old := s.office.old.eraseIdx k }).freeGroups false)

/-- P in bytes (R308). -/
def State.protected (s : State) : Nat := s.office.p * 2 ^ 18

/-- The mapped LPNs (R308). -/
def State.mappedParcels (s : State) : Nat :=
  s.host.nss.foldl (fun n p =>
    n + ((List.range p.2.parcels).filter fun i => let e := s.mapEntry (p.2.lpn + i); entFC e || entSC e).length) 0

/-- The pairs wanted (R308): in the compatibility mode 1 % of P; otherwise FC_FRAC of the unused space, at least FC_MIN and at most FC_CAP
of P; in pairs of 192 MiB, rounded up. -/
def State.pairsWanted (s : State) : Nat :=
  let p := s.protected
  let u := p - s.mappedParcels * 2 ^ 18
  let f := if s.on Reg.SOF_FC_COMPAT then p / 100
    else min (max (p * s.get Reg.SOF_FC_FC_MIN / 10000) (u * s.get Reg.SOF_FC_FC_FRAC / 100)) (p * s.get Reg.SOF_FC_FC_CAP / 10000)
  (f + 201326591) / 201326592

/-- The surface of copy B for a copy A (R345). -/
def State.mirrorOf (s : State) (surface : Nat) : Nat :=
  if s.variant == .vk432m then (surface + 16) % 32 else (surface + 8) % 16

/-- Make one more area pair from the lowest-numbered free areas (R310, R345). -/
def State.growPair (s : State) : State :=
  let surfaces := List.range (if s.variant == .vk432m then 32 else 16)
  let found := (List.range s.office.areas).findSome? fun a =>
    (surfaces.find? fun x => (s.band (x * 65536 + a)).state == 0 && (s.band (s.mirrorOf x * 65536 + a)).state == 0).map fun x => (x, a)
  match found with
  | none => s
  | some (x, a) =>
    let y := s.mirrorOf x
    let mk (z : Nat) : Nat × Band :=
      let b := s.band (z * 65536 + a)
      (z * 65536 + a, { b with state := 1, valid := 0, group := s.office.pairs.length, epoch := b.epoch + 1, defects := [] })
    let s := s.putOffice { s.office with pairs := s.office.pairs ++ [⟨(x, a), (y, a), false⟩] }
    s.setBands [mk x, mk y]

/-- Grow by so many pairs, while G_free exceeds RESORT_HI (R310). -/
def State.growPairs (s : State) : Nat → State
  | 0 => s
  | n + 1 => if s.gFree ≤ s.get Reg.SOF_FOLD_RESORT_HI then s else State.growPairs s.growPair n

/-- The live slots of a pair. -/
def State.pairLive (s : State) (p : Pair) : Nat :=
  (s.office.fc.filter fun f => placeArea f.2.locA == p.a.1 * 65536 + p.a.2).length

/-- Move the first-class region toward the pairs wanted (R310): grow, or mark the pairs with the fewest live slots as shrinking, and give
back those that hold no slot, under a RESIZE record (R332). In the compatibility mode it is set once and then keeps its size. -/
def State.resizeFc (s : State) : State :=
  let want := s.pairsWanted
  let was := s.office.pairsWanted
  let s := s.putOffice { s.office with pairsWanted := want }
  let have_ := (s.office.pairs.filter fun p => !p.shrinking).length
  let fixed := s.on Reg.SOF_FC_COMPAT && s.office.fixed
  let s := if fixed || want ≤ have_ then s else s.growPairs (want - have_)
  let s := if fixed || have_ ≤ want then s
    else
      let low := (sortBy (fun a b => s.pairLive a ≤ s.pairLive b) (s.office.pairs.filter fun p => !p.shrinking)).take (have_ - want)
      s.putOffice { s.office with pairs := s.office.pairs.map fun p => if low.contains p then { p with shrinking := true } else p }
  let s := s.putOffice { s.office with fixed := s.on Reg.SOF_FC_COMPAT }
  let s := if want = was && have_ ≤ want then s
    else
      let r := s.switchJob []
      r.1.journal ⟨r.2.1, 0x08, [], [], []⟩
  let empty := s.office.pairs.filter fun p => p.shrinking && s.pairLive p == 0
  if empty.isEmpty then s
  else
    let s := s.putOffice { s.office with pairs := s.office.pairs.filter fun p => !empty.contains p }
    s.setBands ((empty.flatMap fun p => [p.a, p.b]).map fun a =>
      let k := a.1 * 65536 + a.2
      (k, { s.band k with state := 0, valid := 0, group := 0 }))

/-- The map as bytes from its base on, as the checkpoint holds it. -/
def State.mapImage (s : State) : Sparse Nat :=
  let base := s.mapAddr 0
  let n := 5 * s.get Reg.SOF_MAP_LEN_MAP_PARCELS
  (s.cells.filter fun c => base ≤ c.1 && c.1 < base + n).map fun c => (c.1 - base, c.2.toNat)

/-- The map format stamp, family 0x06, of the running firmware (R43). -/
def State.formatStamp (s : State) : Option Nat :=
  (if s.get Reg.SYS_BOOT_SLOT = 0 then s.psp.slotA else s.psp.slotB).bind fun z =>
    (z.imageOf 0x10).bind fun i => i.provides.find? fun p => p / 2 ^ 24 == 6

/-- MAP_CHECKPOINT (R333, R308, R310, R329): the dirty segments are saved with the SEQ they include, and the refresh counts; the journal is trimmed, and the first-class
region moves toward its size. Segments that are not loaded keep what the checkpoint holds. -/
def execMapCheckpoint (s : State) : Host.Outcome State Fault Refusal :=
  if !s.pdOn 24 || s.powerEvent then ok s
  else
    let seg (off : Nat) : Nat := off / 2 ^ 22
    let keep := s.office.ckpt.filter fun p => s.office.unloaded.contains (seg p.1)
    let now := s.mapImage.filter fun p => !s.office.unloaded.contains (seg p.1)
    let img := now.foldl (fun m p => sIns m p.1 p.2) keep
    let all := s.office.unloaded.isEmpty
    let s := s.putOffice { s.office with ckpt := img, ckptSeq := if all then s.sofSeq else s.office.ckptSeq,
                                         trim := if all then s.sofSeq else s.office.trim, stamp := s.formatStamp,
                                         savedRegions := s.office.regions }
    let s := { s with mem := { s.mem with savedReads := s.mem.reads } }
    let s := s.putOffice { s.office with journal := s.office.journal.filter fun r => s.office.trim ≤ r.seq }
    if s.readsOnly then ok s else ok (s.freeGroups false).resizeFc.floorCheck

/-- SEGMENT_LOAD (R334): a map segment is loaded from the checkpoint, and every later record applied to it. -/
def execSegmentLoad (k : Nat) (s : State) : Host.Outcome State Fault Refusal :=
  if !s.office.unloaded.contains k then ok s
  else
    let base := s.mapAddr 0
    let inSeg (off : Nat) : Bool := off / 2 ^ 22 == k
    let cells := s.cells.filter fun c => !(base ≤ c.1 && inSeg (c.1 - base))
    let s := { s with cells := cells }
    let s := (s.office.ckpt.filter fun p => inSeg p.1).foldl (fun s p => s.putByte (base + p.1) (BitVec.ofNat 8 p.2)) s
    let ds := (s.office.journal.filter fun r => s.office.ckptSeq ≤ r.seq).flatMap (·.triples)
    let s := (ds.filter fun t => inSeg (5 * t.1)).foldl (fun s t => s.putMap t.1 t.2.2) s
    ok (s.putOffice { s.office with unloaded := s.office.unloaded.erase k })

/-- MAP_REBUILD (R335): a segment of which neither copy is readable begins the rebuild, and no namespace is ready; the tags read end it,
LPN, entry and PSEQ each, where the highest PSEQ of an LPN wins. -/
def execMapRebuild (tags : Option (List (Nat × Nat × Nat))) (s : State) : Host.Outcome State Fault Refusal :=
  match tags with
  | none =>
    if s.office.rebuildMap then ok s
    else ok (((s.putOffice { s.office with rebuildMap := true }).setCritical 2).ledger 0x0051 [0x40, 0, 0, 0, 0, 0, 0])
  | some l =>
    if !s.office.rebuildMap then ok s
    else
      let best := l.filter fun t => l.all fun u => u.1 != t.1 || u.2.2 ≤ t.2.2
      let s := best.foldl (fun s t => if s.mapped t.1 then s.putMap t.1 t.2.1 else s) s
      ok (s.putOffice { s.office with rebuildMap := false, unloaded := [] })

/-- The group of a band area is queued for re-sorting (R329). -/
def State.queueGroup (s : State) (key : Nat) : State :=
  let b := s.band key
  let g := b.group
  if s.office.resortQueue.contains g || b.state < 2 || 4 < b.state then s else s.putOffice { s.office with resortQueue := s.office.resortQueue ++ [g] }

/-- REFRESH_TRIGGER (R329): a count reached its threshold. A strongroom block is copied to a fresh block; the neighbour regions of a
first-class region are checked; the next area's edge is checked, and its group queued for re-sorting where a sector was not good at
first pass. Refresh waits while writes are held and in reads-only mode, and pauses from throttle step 1 (R440). -/
def execRefreshTrigger (w : RefreshKind) (place : Nat) (allGood : Bool) (s : State) : Host.Outcome State Fault Refusal :=
  if !s.mayPlace || !s.coolEnough then ok s
  else
    match w with
    | .oneBit =>
      if 1000 * s.get Reg.SOF_REFRESH_READ_SLC ≤ sGet s.mem.reads (2 * place) 0 then
        ok { s with mem := { s.mem with reads := sDel s.mem.reads (2 * place) } }
      else ok s
    | .multiBit =>
      if 1000 * s.get Reg.SOF_REFRESH_READ_MLC ≤ sGet s.mem.reads (2 * place + 1) 0 then
        ok { s with mem := { s.mem with reads := sDel s.mem.reads (2 * place + 1) } }
      else ok s
    | .region =>
      if 100 * s.get Reg.SOF_REFRESH_ATI_FC ≤ sGet s.office.regions place 0 then
        ok (s.putOffice { s.office with regions := sDel s.office.regions place })
      else ok s
    | .edge =>
      let b := s.band place
      if s.get Reg.SOF_REFRESH_ATI_SC ≤ b.ati then
        let s := s.putOffice { s.office with bands := sIns s.office.bands place { b with ati := 0 } }
        ok (if allGood then s else s.queueGroup (place + 1))
      else ok s

/-- A put of a key that is not committed is given up (R327): its unit goes, but for the parcel of its bundle, which others share. -/
def State.forgetKey (s : State) (key : Nat) : State :=
  let keep (u : CommitUnit) : Option CommitUnit :=
    match u.key with
    | some (k, _, vlen, _) =>
      if k != key then some u
      else if vlen ≤ 1024 * s.get Reg.SOF_KV_BUNDLE_MAX && !u.slots.isEmpty then some { u with key := none, tray := [] } else none
    | none => some u
  s.putOffice { s.office with units := s.office.units.filterMap fun p => (keep p.2).map fun u => (p.1, u) }

/-- The live bytes of a bundle (R328): those of the keys that still name it. -/
def State.bundleLive (s : State) (b : Bundle) : Nat :=
  b.values.foldl (fun n v => match sGet? s.host.kv v.1 with
    | some e => if e.bundled && e.lpn == b.lpn then n + v.2 else n
    | none => n) 0

/-- Place a bundle parcel (R326, R327): it goes to a first-class slot as one parcel; each value's put is a unit of its own, and the first maps
the parcel. -/
def State.placeBundle (s : State) (k : Nat) (b : Bundle) : State :=
  match s.fcPlace b.lpn (2 ^ 64 - 1) with
  | (s, none) => s
  | (s, some (t, f)) =>
    let s := s.putOffice { s.office with bundles := s.office.bundles.set k { b with placed := true } }
    let one (s : State) (v : Nat × Nat) (ts : List (Nat × Nat × Nat)) (fs : List (Nat × FcSlot)) : State :=
      let serials := (s.host.tray.filter fun e => e.kind == .value && e.nsid == b.nsid && v.1 == kvKey e.nsid e.keyLen e.key).map
        fun e => (e.serial, e.first, e.count)
      s.addUnit ⟨.keyValue, ts ++ s.freeOld v.1, fs, false, serials, some (v.1, v.1 / 2 ^ 128 % 17, v.2, b.lpn), true⟩
    match b.values with
    | [] => s.addUnit ⟨.keyValue, [t], [f], false, [], none, true⟩
    | v :: vs => vs.foldl (fun s v => one s v [] []) (one s v [t] [f])

/-- BUNDLE_PLACE_TIMEOUT (R326): a bundle is placed 5 s after its first value arrived, or when it is full. -/
def execBundlePlaceTimeout (k : Nat) (s : State) : Host.Outcome State Fault Refusal :=
  match s.office.bundles[k]? with
  | none => ok s
  | some b =>
    let full := 2 ^ 18 ≤ b.values.foldl (fun n v => n + bundleBytes v.2) 0
    if !b.placed && s.mayPlace && (full || b.sinceMs + 5000 ≤ s.ms) then ok (s.placeBundle k b) else ok s

/-- Discard parcels in one record (R330, R332): those mapped, and those that a unit in the making would map, which its triple then does not. -/
def State.unmapAll (s : State) (lpns : List Nat) (type : Nat) : State :=
  let making (l : Nat) : Bool := s.office.units.any fun u => u.2.triples.any fun t => t.1 == l
  let ts := (lpns.filter fun l => let e := s.mapEntry l; entFC e || entSC e || making l).map s.dropTriple
  let r := s.switchJob ts
  let done := (List.range ts.length).filterMap fun i => if r.2.2.getD i false then ts[i]? else none
  let s := done.foldl (fun s t => s.settle r.2.1 0 [] t) r.1
  let s := s.putOffice { s.office with unreadable := s.office.unreadable.filter fun p => !(done.any fun t => t.1 == p.1) }
  s.journal ⟨r.2.1, type, done, [], []⟩

/-- REPACK (R328): the live values of a placed bundle below REPACK_PCT join a bundle being filled, each committed as a put of the same
value when that bundle is placed; a bundle with no live value is unmapped. -/
def execRepack (k : Nat) (s : State) : Host.Outcome State Fault Refusal :=
  match s.office.bundles[k]? with
  | none => ok s
  | some b =>
    let live := s.bundleLive b
    if !b.placed || !s.mayPlace || s.get Reg.SOF_KV_REPACK_PCT * 2 ^ 18 ≤ 100 * live then ok s
    else if live = 0 then
      ok ((s.putOffice { s.office with bundles := s.office.bundles.eraseIdx k }).unmapAll [b.lpn] 0x05)
    else
      let vs := b.values.filter fun v => (sGet? s.host.kv v.1).any fun e => e.bundled && e.lpn == b.lpn
      ok (vs.foldl (fun s v => if s.office.bundles.any fun x => !x.placed && x.values.any fun w => w.1 == v.1 then s
        else s.bundleAdd b.nsid v.1 v.2) s)

/-- The zone's descriptor has changed: listed for log page 0xBF, and told (R400). -/
def State.zoneChanged (s : State) (nsid k : Nat) : State :=
  let l := s.host.changedZones
  (s.putHost { s.host with changedZones := if l.contains (nsid, k) then l else l ++ [(nsid, k)] }).raiseEvent ⟨2, 0xEF, 0xBF⟩

/-- A zone closes for writing (R324): it is full, and the band it is bound to closes at its write point. -/
def State.finishZone (s : State) (nsid k : Nat) (z : HZone) (byController : Bool) : State :=
  let s := s.putZone nsid k { z with state := .full, lagMs := none, recommended := false, byController := byController }
  let r := s.switchJob []
  let s := r.1.journal ⟨r.2.1, 0x06, [], [], []⟩
  match z.bound with
  | some (g, _) => ((s.zoneLag g).settleZones g).zoneUnit g
  | none => s

/-- ZONE_FINISH_RECOMMENDED (R323): a stripe has lagged for ZFR_MIN behind a zone. -/
def execZoneFinishRecommended (nsid k : Nat) (s : State) : Host.Outcome State Fault Refusal :=
  match sGet? s.host.nss nsid with
  | none => ok s
  | some n =>
    let z := n.zone k
    match z.lagMs with
    | none => ok s
    | some t =>
      if !z.recommended && t + 60000 * s.get Reg.SOF_ZONE_ZFR_MIN ≤ s.ms then
        ok ((s.putZone nsid k { z with recommended := true }).zoneChanged nsid k)
      else ok s

/-- ZONE_FINISH_BY_CONTROLLER (R323): it has lagged for a further ZFR_MIN. -/
def execZoneFinishByController (nsid k : Nat) (s : State) : Host.Outcome State Fault Refusal :=
  match sGet? s.host.nss nsid with
  | none => ok s
  | some n =>
    let z := n.zone k
    match z.lagMs with
    | none => ok s
    | some t =>
      if z.recommended && t + 120000 * s.get Reg.SOF_ZONE_ZFR_MIN ≤ s.ms then
        ok ((s.finishZone nsid k z true).zoneChanged nsid k)
      else ok s

/-- List a sector of a parcel as unreadable (R305): UNR sets in its entry under a DEFECT record. A full list of 65,536 parcels keeps what it
has and raises the warning. -/
def State.listUnreadable (s : State) (lpn sector : Nat) : State :=
  let l := s.office.unreadable
  let parcels := (l.map (·.1)).eraseDups
  if l.contains (lpn, sector) then s
  else if !parcels.contains lpn && 65536 ≤ parcels.length then
    s.setCritical 2
  else
    let s := s.putOffice { s.office with unreadable := l ++ [(lpn, sector)] }
    let e := s.mapEntry lpn
    if entUNR e || !s.mapped lpn then s
    else
      let r := s.switchJob [(lpn, e, e + 2 ^ 37)]
      r.1.journal ⟨r.2.1, 0x07, [(lpn, e, e + 2 ^ 37)], [], []⟩

end Sys2Proof.Machine
end

