-- ==== Sys2Proof/Machine/Memory.lean ====
section
/-!
DEFINITION. The memory side's commands: the carrier engines' dockets (R417 to R420), the scrubber and the slip table (R422, R423),
the strongroom's NAND controller (R424 to R427), and the loss of a completed write's data (R399).
-/
namespace Sys2Proof.Machine

/-- A completed write's data is lost (R399): the sector joins the unreadable list, an error log entry is written, and the vendor event is
raised. A key joins the list under a number above every LPN. -/
def State.deferredError (s : State) (nsid first lpn sector : Nat) : State :=
  let s := (s.listUnreadable lpn sector).logError 0xFFFF 0xFFFF .writeFault nsid first
  (s.putHost { s.host with mediaErrs := s.host.mediaErrs + 1 }).raiseEvent ⟨7, 0x01, 0x01⟩

/-- The number under which the unreadable list holds a key. -/
def keyMark (key : Nat) : Nat := 2 ^ 48 + key

/-- The offset of a DRAM address in a list of bags, counted from the start of the first. -/
def State.bagOffset (s : State) : List Nat → Nat → Option Nat
  | [], _ => none
  | h :: t, a =>
    if s.bagAddr h ≤ a && a < s.bagAddr h + poolBytes (bagPool h) then some (a - s.bagAddr h)
    else (State.bagOffset s t a).map (· + poolBytes (bagPool h))

/-- Whether data of DRAM has another source (R28, R422): the map, which the checkpoint and the journal give again (R332), and what a command
that takes no data from the host has read into its bags. -/
def State.hasSource (s : State) (a : Nat) : Bool :=
  (s.mapAddr 0 ≤ a && a < s.mapAddr (s.get Reg.SOF_MAP_LEN_MAP_PARCELS)) ||
    s.host.cmds.any fun p => p.2.need == 0 && (s.bagOffset p.2.bags a).isSome

/-- The block of an address is rebuilt from its source (R28): its slip is written in full, and no longer poisoned (R422). -/
def State.rebuildBlock (s : State) (a : Nat) : State :=
  match s.slipOf (a / 64) with
  | some n => s.set (Reg.MEM_SLIP_POISON n.val) 0
  | none => s

/-- An uncorrectable word of DRAM (R28, R399, R422): data that has another source is rebuilt from it, an in-tray entry's too once the flush has
written it; of another in-tray entry, the block in it is lost before it is placed. -/
def State.loseBag (s : State) (a : Nat) : State :=
  let hit := s.host.tray.findSome? fun t => (s.bagOffset t.bags a).map fun k => (t, k)
  match hit with
  | none => if s.hasSource a then s.rebuildBlock a else s
  | some (t, k) =>
    if t.flushed then s.rebuildBlock a
    else if t.kind == .value then s.deferredError t.nsid 0 (keyMark (kvKey t.nsid t.keyLen t.key)) 0
    else
      let lba := t.first + k / 4096
      if t.isPlaced lba || t.first + t.count ≤ lba then s
      else
        let lpn := ((sGet? s.host.nss t.nsid).map (·.lpn)).getD 0 + lba / 64
        (s.deferredError t.nsid lba lpn (lba % 64)).trayPlaced t.serial lba 1

/-- What a read of a range loses (R422): the words that cannot be corrected, in lines not held for the unit that reads and blocks without
a slip before the read. -/
def State.lostWords (s : State) (held : Nat → Bool) (a n : Nat) (errs : List EccErr) : List EccErr :=
  errs.filter fun e => a < e.addr + 8 && e.addr < a + n && 3 ≤ e.bits && (s.slipOf (e.addr / 64)).isNone && !held (e.addr / 128)

/-- A class-B read of a range of DRAM (R413, R421), with what it loses. -/
def State.dramRead (s : State) (a n : Nat) (errs : List EccErr) : State :=
  (s.lostWords s.phcOwns a n errs).foldl (fun s e => s.loseBag e.addr) (s.eccRead a n errs)

/-- A read of a range by SOF or CNS through the cache (R412, R421), with what it loses. -/
def State.unitRead (s : State) (a n : Nat) (errs : List EccErr) : State :=
  (s.lostWords s.unitHolds a n errs).foldl (fun s e => s.loseBag e.addr) (s.unitReads a n errs)

/-- Dockets between a channel's head and a tail (R417). -/
def State.dmaQueued (s : State) (c tail : Nat) : Nat := (tail + 512 - s.get (Reg.DMA_CH_PTR_HEAD c)) % 512

/-- STATE of a channel follows it (R432): a stopped one stays so. -/
def State.dmaRefresh (s : State) (c : Nat) : State :=
  if s.get (Reg.DMA_CH_STATUS_STATE c) = 2 then s
  else s.set (Reg.DMA_CH_STATUS_STATE c)
    (b2n (s.on (Reg.DMA_CH_CTRL_ENABLE c) && s.dmaQueued c (s.get (Reg.DMA_CH_PTR_TAIL c)) != 0))

/-- A channel's tail written (R418, R127): refused beyond 256 dockets outstanding. -/
def execDmaTailWrite (i : Initiator) (c tail : Nat) (s : State) : Host.Outcome State Fault Refusal :=
  let c := c % 64
  let a := 0x40620108 + 32 * c
  ok (s.access i a 4 fun s =>
    if 256 < s.dmaQueued c (tail % 512) then s.ignored i a
    else { (s.set (Reg.DMA_CH_PTR_TAIL c) tail).dmaRefresh c with bus := .written })

/-- The address of the docket at a channel's head (R417, R432). -/
def State.docketAddr (s : State) (c : Nat) : Nat :=
  s.get (Reg.DMA_CH_BASE_LO_BASE c) / 2 ^ 13 * 2 ^ 13 + 2 ^ 32 * s.get (Reg.DMA_CH_BASE_HI_BASE c) +
    32 * (s.get (Reg.DMA_CH_PTR_HEAD c) % 256)

/-- A channel's bit in DMA_INT. -/
def State.dmaInt (s : State) (c : Nat) : State :=
  if c < 32 then s.setBit Reg.DMA_INT_LO_CH c true else s.setBit Reg.DMA_INT_HI_CH (c - 32) true

/-- Whether a docket status stops its channel (R417). -/
def docketStops (st : Nat) : Bool := st == 1 || st == 2 || st == 4 || st == 5

/-- The engine is done with the docket at a channel's head (R417 to R419): STATUS is written and OWN cleared, the head moves on, and a
status that stops the channel stops it, with the bytes moved, at the address where it failed. -/
def State.docketEnd (s : State) (c st moved at_ : Nat) : State :=
  let a := s.docketAddr c
  let w0 := s.dword a
  let s := s.storeWords a [bitsOf w0 30 24 * 2 ^ 24 + st * 2 ^ 16 + bitsOf w0 15 0]
  let s := s.set (Reg.DMA_CH_PTR_HEAD c) ((s.get (Reg.DMA_CH_PTR_HEAD c) + 1) % 512)
  let s := if bitOf w0 27 || docketStops st then s.dmaInt c else s
  if docketStops st then
    (s.setAll [(Reg.DMA_CH_STATUS_STATE c, 2), (Reg.DMA_CH_STATUS_ERR_BYTES c, moved)]).event 0x62
      (if st ≤ 2 then 0x01 else 0x02) at_ 0x62
  else s.dmaRefresh c

/-- The bytes of a range a transfer may move before it meets the armed injection of a fabric group (R420, R450): none where it is not
met; where it is sticky, those of the groups of 256 bytes before the one it lies in. -/
def State.fabricStop (s : State) (a n : Nat) : Option Nat :=
  if s.on Reg.FLT_INJ_CTRL_ARM && s.get Reg.FLT_INJ_CTRL_TARGET == 4 && a < s.injAddr + 8 && s.injAddr < a + n then
    some ((s.injAddr - a) / 256 * 256)
  else none

/-- A transfer meets the armed injection of a fabric group: DONE sets, and without STICKY it disarms after the one re-send (R450). -/
def State.fabricHit (s : State) : State :=
  let s := s.set Reg.FLT_INJ_CTRL_DONE 1
  if s.on Reg.FLT_INJ_CTRL_STICKY then s else s.set Reg.FLT_INJ_CTRL_ARM 0

/-- The first thing that ends a docket's transfer early: the bytes moved before it and the status, the source's before the destination's
at the same byte (R419). -/
def State.transferStop (s : State) (src : Option Nat) (dst n : Nat) (errs : List EccErr) (fab : Fabric) : Option (Nat × Nat) :=
  let sticky := s.on Reg.FLT_INJ_CTRL_STICKY
  let side (a st : Nat) : List (Nat × Nat) :=
    (if dramSize < a + n then [(dramSize - a, st)] else []) ++
      (if sticky then (s.fabricStop a n).toList.map fun k => (k, st) else [])
  let fromSrc := match src with
    | none => []
    | some a => (s.unreadable s.phcOwns a n errs).toList.map (fun x => (x - a, 1)) ++ side a 1 ++
        (match fab with | .source k => if k < n then [(k, 1)] else [] | _ => [])
  let toDst := side dst 2 ++ (match fab with | .dest k => if k < n then [(k, 2)] else [] | _ => [])
  (sortBy (fun x y => x.1 < y.1 || (x.1 == y.1 && x.2 ≤ y.2)) (fromSrc ++ toDst)).head?

/-- The docket at a channel's head moves its data (R417, R419): the destination holds the bytes moved before an error, and no others; a
docket that completes with 0x00 or 0x03 gives its bag back. -/
def State.runDocket (s : State) (c op : Nat) (errs : List EccErr) (fab : Fabric) : State :=
  let a := s.docketAddr c
  let n := s.dword (a + 4)
  let pair (k : Nat) : Nat := s.dword (a + 4 * k) + 2 ^ 32 * s.dword (a + 4 * k + 4)
  let dst := pair 4
  let src := if op = 2 then none else some (pair 2)
  let stop := s.transferStop src dst n errs fab
  let moved := match stop with | some p => p.1 | none => n
  let data := match src with
    | some x => s.bytes x moved
    | none => (List.range moved).map fun k => BitVec.ofNat 8 (s.dword (a + 8) / 256 ^ (k % 4))
  let met := (s.fabricStop dst n).isSome || src.any fun x => (s.fabricStop x n).isSome
  let s := match src with
    | some x => s.dramRead x (match stop with | some (k, 1) => min n (k + 1) | _ => moved) errs
    | none => s
  let s := s.store dst data
  let s := if met then s.fabricHit else s
  match stop with
  | some (k, st) =>
    let at_ := if st = 1 then (src.getD 0) + k else dst + k
    let byInj := met && s.on Reg.FLT_INJ_CTRL_STICKY
    if byInj then s.asInjected fun s => s.docketEnd c st k at_ else s.docketEnd c st k at_
  | none =>
    let crc := crc32c (data.map (·.toNat))
    let st := if op = 4 && crc != s.dword (a + 24) then 0x03 else 0x00
    let s := if op = 3 then s.storeWords (a + 24) [crc] else s
    let h := s.dword (a + 28)
    let s := s.docketEnd c st n a
    if h = noBag then s else s.bagRelease h 0x62

/-- The engine takes the docket at a channel's head where its OPCODE is one asked for (R417, R418). -/
def State.takeDocket (s : State) (c : Nat) (pick : Nat → Bool) (errs : List EccErr) (fab : Fabric) : State :=
  if !s.pdOn 22 || !s.on (Reg.DMA_CH_CTRL_ENABLE c) || s.get (Reg.DMA_CH_STATUS_STATE c) = 2 ||
      s.dmaQueued c (s.get (Reg.DMA_CH_PTR_TAIL c)) = 0 then s
  else
    let a := s.docketAddr c
    let w0 := s.dword a
    let n := s.dword (a + 4)
    let op := bitsOf w0 30 28
    if !pick op then s
    else if !bitOf w0 31 then s.docketEnd c 0x04 0 a
    else if op = 0 || 4 < op || n = 0 || 2 ^ 26 < n then s.docketEnd c 0x05 0 a
    else s.runDocket c op errs fab

/-- COPY (R417): OPCODE 0x1, and the reserved opcodes, which get 0x05. -/
def execCopy (c : Nat) (errs : List EccErr) (fab : Fabric) (s : State) : Host.Outcome State Fault Refusal :=
  ok (s.takeDocket (c % 64) (fun k => k != 2 && k != 3 && k != 4) errs fab)

/-- FILL (R417). -/
def execFill (c : Nat) (fab : Fabric) (s : State) : Host.Outcome State Fault Refusal :=
  ok (s.takeDocket (c % 64) (· == 2) [] fab)

/-- COPY_AND_WRITE_CRC (R417). -/
def execCopyAndWriteCrc (c : Nat) (errs : List EccErr) (fab : Fabric) (s : State) : Host.Outcome State Fault Refusal :=
  ok (s.takeDocket (c % 64) (· == 3) errs fab)

/-- COPY_AND_CHECK_CRC (R417). -/
def execCopyAndCheckCrc (c : Nat) (errs : List EccErr) (fab : Fabric) (s : State) : Host.Outcome State Fault Refusal :=
  ok (s.takeDocket (c % 64) (· == 4) errs fab)

/-- RESUME written 1 (R419): a stopped channel takes the docket after the failed one. -/
def execDmaResume (i : Initiator) (c : Nat) (s : State) : Host.Outcome State Fault Refusal :=
  let c := c % 64
  ok (s.access i (0x4062010C + 32 * c) 4 fun s =>
    let s := if s.get (Reg.DMA_CH_STATUS_STATE c) = 2 then (s.set (Reg.DMA_CH_STATUS_STATE c) 0).dmaRefresh c else s
    { s with bus := .written })

/-- Every docket from head to tail gets 0x06 with nothing moved. -/
def State.stopDockets (s : State) (c : Nat) : Nat → State
  | 0 => s
  | n + 1 => State.stopDockets (s.docketEnd c 0x06 0 0) c n

/-- STOP written 1 (R419): the docket in progress ends at its current burst, after `moved` bytes, with 0x06, and so does every docket
behind it with nothing moved; the channel is left idle at its tail. -/
def execDmaStop (i : Initiator) (c moved : Nat) (s : State) : Host.Outcome State Fault Refusal :=
  let c := c % 64
  ok (s.access i (0x4062010C + 32 * c) 4 fun s =>
    let n := s.dmaQueued c (s.get (Reg.DMA_CH_PTR_TAIL c))
    let a := s.docketAddr c
    let op := bitsOf (s.dword a) 30 28
    let len := s.dword (a + 4)
    let pair (k : Nat) : Nat := s.dword (a + 4 * k) + 2 ^ 32 * s.dword (a + 4 * k + 4)
    let runs := s.get (Reg.DMA_CH_STATUS_STATE c) = 1 && bitOf (s.dword a) 31 && 1 ≤ op && op ≤ 4 && len ≤ 2 ^ 26
    let m := min moved len
    let data := if op = 2 then (List.range m).map fun k => BitVec.ofNat 8 (s.dword (a + 8) / 256 ^ (k % 4)) else s.bytes (pair 2) m
    let s := if runs then s.store (pair 4) data else s
    let s := (s.set (Reg.DMA_CH_STATUS_STATE c) 0).stopDockets c n
    { s.set (Reg.DMA_CH_STATUS_STATE c) 0 with bus := .written })

/-- The next block from one on that no slip holds. -/
def State.scrubNext (s : State) (k : Nat) : Nat :=
  ((List.range 17).find? fun i => (s.slipOf ((k + i) % 2 ^ 29)).isNone).map (fun i => (k + i) % 2 ^ 29) |>.getD k

/-- DRAM_SCRUB_READ (R423): the scrubber reads the next block that no slip holds; after the last block, LAP_S tells the lap's length. -/
def execDramScrubRead (errs : List EccErr) (s : State) : Host.Outcome State Fault Refusal :=
  if !s.pdOn 28 || !s.pdOn 22 || s.get Reg.MEM_STATUS_STATE != 1 then ok s
  else
    let k := s.scrubNext s.mem.scrubAt
    let s := s.dramRead (k * 64) 64 errs
    let next := s.scrubNext ((k + 1) % 2 ^ 29)
    if next ≤ k then
      let lap := (s.ms - s.mem.lapMs) / 10000
      ok ({ s with mem := { s.mem with scrubAt := next, lapMs := s.ms } }.set Reg.MEM_SCRUB_LAP_S (min 65535 lap))
    else ok { s with mem := { s.mem with scrubAt := next } }

/-- The slips in use, as the strongroom keeps them: the slip with its block and whether it is poisoned. -/
def State.slipTable (s : State) : List (Nat × Nat) :=
  (slipNumbers.filter fun n => s.on (Reg.MEM_SLIP_VALID n.val)).map fun n =>
    (n.val, 2 * s.get (Reg.MEM_SLIP_BLOCK n.val) + s.get (Reg.MEM_SLIP_POISON n.val))

/-- SLIP_TABLE_SAVE (R422): the slip table goes to the strongroom once it has changed. -/
def execSlipTableSave (s : State) : Host.Outcome State Fault Refusal :=
  if s.mem.unsaved && s.pdOn 23 then ok { s with mem := { s.mem with slips := s.slipTable, unsaved := false } } else ok s

/-- Blocks of each area: 32 GiB in blocks of 6 MiB, 96 GiB in blocks of 18 MiB (R424). -/
def nandBlocks : Nat := 5461

/-- Pages of a block of an area (R424). -/
def nandPages (area : Nat) : Nat := if area = 0 then 384 else 1152

/-- Where a page of a block stands in the strongroom. -/
def nandAddr (area block page : Nat) : Nat := area * 2 ^ 35 + (block * nandPages area + page) * 16384

/-- Spare blocks of a die (R425): 2 % of the 1365 blocks of an eighth of both areas. -/
def nandSpares : Nat := 27

/-- NFC_STATUS follows the controller (R434). -/
def State.nfcRefresh (s : State) : State :=
  let queued := (s.get Reg.NFC_Q_PTR_NQTAIL + 512 - s.get Reg.NFC_Q_PTR_NQHEAD) % 512 + s.mem.taken.length
  let st := if !s.on Reg.NFC_CTRL_ENABLE then 0 else if queued = 0 then 1 else 2
  let used := (List.range 8).foldl (fun m d => max m (sGet s.mem.spareUsed d 0)) 0
  s.setAll [(Reg.NFC_STATUS_STATE, st), (Reg.NFC_STATUS_ERASED_MIB, min 16383 (s.mem.erased.length * 6 / 4)),
    (Reg.NFC_STATUS_SPARES_MIN, nandSpares - used)]

/-- The erased one-bit reserve in bytes (R426). -/
def State.erasedReserve (s : State) : Nat := s.mem.erased.length * 6 * 2 ^ 20

/-- NQTAIL written (R427, R127). -/
def execNandQtailWrite (i : Initiator) (tail : Nat) (s : State) : Host.Outcome State Fault Refusal :=
  ok (s.access i 0x40640010 4 fun s =>
    if 256 < (tail % 512 + 512 - s.get Reg.NFC_Q_PTR_NQHEAD) % 512 then s.ignored i 0x40640010
    else { (s.set Reg.NFC_Q_PTR_NQTAIL tail).nfcRefresh with bus := .written })

/-- The address of the NAND command at a place of the ring. -/
def State.nandEntry (s : State) (p : Nat) : Nat :=
  s.get Reg.NFC_Q_BASE_LO_BASE / 2 ^ 13 * 2 ^ 13 + 2 ^ 32 * s.get Reg.NFC_Q_BASE_HI_BASE + 32 * (p % 256)

/-- The NAND commands not complete, in ring order: those taken, then those from head to tail. -/
def State.nandOutstanding (s : State) : List Nat :=
  let h := s.get Reg.NFC_Q_PTR_NQHEAD
  s.mem.taken ++ (List.range ((s.get Reg.NFC_Q_PTR_NQTAIL + 512 - h) % 512)).map fun i => (h + i) % 512

/-- AREA and BLOCK of the command at a place. -/
def State.nandBlockOf (s : State) (p : Nat) : Nat × Nat :=
  (b2n (bitOf (s.dword (s.nandEntry p)) 27), s.dword (s.nandEntry p + 4))

/-- The command at place `p` of the ring is complete (R427): word 3 is written; every command before it has been taken. -/
def State.nandEnd (s : State) (k p st maxBits : Nat) : State :=
  let out := s.nandOutstanding
  let t := s.mem.taken.length
  let s := s.storeWords (s.nandEntry p + 12) [st * 2 ^ 24 + min 255 maxBits]
  let s :=
    if k < t then { s with mem := { s.mem with taken := s.mem.taken.erase p } }
    else { s.set Reg.NFC_Q_PTR_NQHEAD ((p + 1) % 512) with mem := { s.mem with taken := out.take k } }
  s.nfcRefresh

/-- The controller completes the `k`-th of the outstanding commands where its OP is one asked for and no earlier command of its block
stands before it (R427). A reserved OP, or a COUNT, FIRST or BLOCK outside the area, gets BAD. -/
def State.nandTake (s : State) (k : Nat) (pick : Nat → Bool) (busErr : Bool)
    (f : Nat → Nat → Nat → Nat → Nat → State → State × Nat × Nat) : State :=
  if !s.pdOn 23 || !s.on Reg.NFC_CTRL_ENABLE then s
  else
    let out := s.nandOutstanding
    match out[k]? with
    | none => s
    | some p =>
      let e := s.nandEntry p
      let op := bitsOf (s.dword e) 31 28
      let area := (s.nandBlockOf p).1
      let block := (s.nandBlockOf p).2
      let w2 := s.dword (e + 8)
      let count := bitsOf w2 31 16
      let first := bitsOf w2 15 0
      if !pick op || ((out.take k).any fun q => s.nandBlockOf q == (area, block)) then s
      else if op = 0 || 3 < op || count = 0 || nandPages area < first + count || nandBlocks ≤ block then s.nandEnd k p 0x05 0
      else if busErr then s.nandEnd k p 0x40 0
      else
        let r := f area block first count (s.dword (e + 16) + 2 ^ 32 * s.dword (e + 20)) s
        r.1.nandEnd k p r.2.1 r.2.2

/-- A byte of the strongroom; an erased one reads 0xFF (DESIGN CHOICE; log 3). -/
def State.nandByte (s : State) (a : Nat) : Byte := sGet s.nand a 0xFF

/-- Write bytes of the strongroom. -/
def State.putNand (s : State) (a : Nat) : List Byte → State
  | [] => s
  | b :: t => State.putNand { s with nand := sPut s.nand a b 0xFF } (a + 1) t

/-- Erase a range of the strongroom. -/
def State.eraseNand (s : State) (a n : Nat) : State :=
  { s with nand := s.nand.filter fun c => !(a ≤ c.1 && c.1 < a + n) }

/-- NAND_READ (R424, R427): pages go to DRAM; `shifted` that a shifted level was needed, `maxBits` the most bits corrected in any 1 KiB,
where more than 72 cannot be. Each page read counts toward the block's refresh (R329). OP 0x1 and the reserved values. -/
def execNandRead (k : Nat) (shifted : Bool) (maxBits : Nat) (busErr : Bool) (s : State) : Host.Outcome State Fault Refusal :=
  ok (s.nandTake k (fun o => o != 2 && o != 3) busErr fun area block first count buf s =>
    let key := 2 * block + area
    let s := { s with mem := { s.mem with reads := sIns s.mem.reads key (sGet s.mem.reads key 0 + count) } }
    if 72 < maxBits then (s, 0x02, maxBits)
    else
      let a := nandAddr area block first
      let data := (List.range (count * 16384)).map fun i => s.nandByte (a + i)
      (s.store buf data, if shifted then 0x01 else 0x00, maxBits))

/-- A block that fails a program or an erase is replaced from the spares of its die, which may have none left (R425). -/
def State.nandReplace (s : State) (die : Nat) (fails : Bool) : State × Nat :=
  if !fails then (s, 0x00)
  else
    let used := sGet s.mem.spareUsed die 0
    if nandSpares ≤ used then (s, 0x04)
    else ({ s with mem := { s.mem with spareUsed := sIns s.mem.spareUsed die (used + 1), replaced := s.mem.replaced + 1 } }.inc
      Reg.NFC_STATUS_REPLACED, 0x03)

/-- NAND_PROGRAM (R425, R427): pages from DRAM, read under R421; `fails` that the block of die `die` failed. -/
def execNandProgram (k die : Nat) (fails busErr : Bool) (s : State) : Host.Outcome State Fault Refusal :=
  ok (s.nandTake k (· == 2) busErr fun area block first count buf s =>
    let r := (s.dramRead buf (count * 16384) []).nandReplace (die % 8) fails
    if (s.unreadable s.phcOwns buf (count * 16384) []).isSome then (s.dramRead buf (count * 16384) [], 0x40, 0)
    else if r.2 = 0x04 then (r.1, 0x04, 0)
    else
      let s := r.1.putNand (nandAddr area block first) (r.1.bytes buf (count * 16384))
      let erased := if area = 0 then s.mem.erased.erase block else s.mem.erased
      ({ s with mem := { s.mem with erased := erased, reads := sDel s.mem.reads (2 * block + area) } }, r.2, 0))

/-- NAND_ERASE (R425, R427): a one-bit block erased joins the reserve (R426). -/
def execNandErase (k die : Nat) (fails busErr : Bool) (s : State) : Host.Outcome State Fault Refusal :=
  ok (s.nandTake k (· == 3) busErr fun area block _ _ _ s =>
    let r := s.nandReplace (die % 8) fails
    if r.2 = 0x04 then (r.1, 0x04, 0)
    else
      let s := r.1.eraseNand (nandAddr area block 0) (nandPages area * 16384)
      let erased := if area = 0 && !s.mem.erased.contains block then block :: s.mem.erased else s.mem.erased
      ({ s with mem := { s.mem with erased := erased, reads := sDel s.mem.reads (2 * block + area) } }, r.2, 0))

end Sys2Proof.Machine
end

