-- ==== Sys2Proof/Machine/Consign.lean ====
section
/-!
DEFINITION. The consignment engine's jobs and keys (R343, R347, R360, R361, R364, R365), and the retirement of heads with the rebuild of
their surfaces and the parity scrub (R346 to R359).
-/
namespace Sys2Proof.Machine

/-- Replace the consignment side. -/
def State.putCons (s : State) (c : Consign) : State := { s with cons := c }

/-- Jobs posted and not taken, with a tail (R364). -/
def State.cnsQueued (s : State) (tail : Nat) : Nat := (tail + 512 - s.get Reg.CNS_J_PTR_CJHEAD) % 512

/-- CNS_STATUS follows the block (R364). -/
def State.cnsRefresh (s : State) : State :=
  let n := s.cnsQueued (s.get Reg.CNS_J_PTR_CJTAIL)
  let st := if !s.on Reg.CNS_CTRL_ENABLE then 0 else if s.on Reg.CNS_CTRL_PAUSE then 3 else if n = 0 then 1 else 2
  (s.set Reg.CNS_STATUS_STATE st).set Reg.CNS_STATUS_JOBS n

/-- CJTAIL written (R364): refused beyond 256 jobs outstanding. -/
def execCnsJobPost (i : Initiator) (tail : Nat) (s : State) : Host.Outcome State Fault Refusal :=
  ok (s.access i 0x40410010 4 fun s =>
    if 256 < s.cnsQueued (tail % 512) then (s.set Reg.CNS_INT_J_OVF 1).ignored i 0x40410010
    else { (s.set Reg.CNS_J_PTR_CJTAIL tail).cnsRefresh with bus := .written })

/-- The result ring has room (R364). -/
def State.cnsRoom (s : State) : Bool :=
  (s.get Reg.CNS_R_PTR_CRTAIL + 512 - s.get Reg.CNS_R_PTR_CRHEAD) % 512 < 256

/-- Word `k` of the job at CJHEAD (R365). -/
def State.cnsWord (s : State) (k : Nat) : Nat :=
  let base := s.get Reg.CNS_J_BASE_LO_BASE_LO / 2 * 2 ^ 13 + 2 ^ 32 * s.get Reg.CNS_J_BASE_HI_BASE_HI
  s.dword (base + 32 * (s.get Reg.CNS_J_PTR_CJHEAD % 256) + 4 * k)

/-- Write a result (R365). -/
def State.cnsResult (s : State) (tag status sector : Nat) : State :=
  let t := s.get Reg.CNS_R_PTR_CRTAIL
  let base := s.get Reg.CNS_R_BASE_LO_BASE_LO * 2 ^ 12 + 2 ^ 32 * s.get Reg.CNS_R_BASE_HI_BASE_HI
  let a := base + 16 * (t % 256)
  let s := s.unitWords a [tag % 2 ^ 16 * 2 ^ 16 + status % 256 * 2 ^ 8, sector % 2 ^ 9, s.tickLo, 0]
  let s := if status = 5 then s.set Reg.CNS_INT_BAD_JOB 1 else s
  ((s.set Reg.CNS_R_PTR_CRTAIL ((t + 1) % 512)).set Reg.CNS_INT_RESULT 1).cnsRefresh

/-- The bits set in a mask. -/
def bitCount (n : Nat) : Nat := ((List.range 32).filter (bitOf n)).length

/-- A job of the consignment engine (R365). -/
structure CnsJob where
  tag : Nat
  slot : Nat
  mask : Nat
  sectors : Nat
  tweak : Nat
  src : Nat
  dst : Nat
  deriving DecidableEq, Repr

/-- A job is bad (R365). -/
def State.cnsBad (s : State) (kind : Nat) (j : CnsJob) : Bool :=
  let n := s.positions
  kind = 0 || 5 < kind || j.sectors = 0 ||
    (if kind ≤ 2 then 256 < j.sectors else 64 < j.sectors || s.layoutKM.2 < bitCount j.mask || 2 ^ n ≤ j.mask)

/-- The engine takes the job at CJHEAD where its KIND is one asked for (R364): enabled, not paused, its domain on, and room for the
result. -/
def State.cnsTake (s : State) (pick : Nat → Bool) (f : CnsJob → State → State) : State :=
  if !s.pdOn 24 || !s.on Reg.CNS_CTRL_ENABLE || s.on Reg.CNS_CTRL_PAUSE || !s.cnsRoom ||
      s.cnsQueued (s.get Reg.CNS_J_PTR_CJTAIL) = 0 then s
  else
    let w := s.cnsWord
    let kind := bitsOf (w 0) 31 28
    if !pick kind then s
    else
      let j : CnsJob := ⟨bitsOf (w 0) 15 0, bitsOf (w 0) 27 22, w 1, bitsOf (w 2) 8 0, w 1 + 2 ^ 32 * w 3, w 4 + 2 ^ 32 * w 5,
        w 6 + 2 ^ 32 * w 7⟩
      let bad := s.cnsBad kind j
      let s := s.set Reg.CNS_J_PTR_CJHEAD ((s.get Reg.CNS_J_PTR_CJHEAD + 1) % 512)
      if bad then s.cnsResult j.tag 0x05 0 else f j s

/-- Whether the engine can read a range: no bus error falls in it, and it lies in DRAM. -/
def State.cnsReads (s : State) (a n : Nat) (errs : List EccErr) : Bool := (s.unreadable s.unitHolds a n errs).isNone && a + n ≤ dramSize

/-- Sectors under a key slot's key, in units of 4096 bytes whose tweak rises by one (R360). A bus error ends the job with 0x40. -/
def State.cnsCrypt (s : State) (decrypt : Bool) (j : CnsJob) (errs : List EccErr) : State :=
  let n := 4096 * j.sectors
  match sGet? s.cons.keys j.slot with
  | none => s.cnsResult j.tag 0x02 0
  | some key =>
    let good := s.cnsReads j.src n errs && j.dst + n ≤ dramSize
    let s := s.unitRead j.src n errs
    if !good then s.cnsResult j.tag 0x40 0
    else
      let data := (s.bytes j.src n).map (·.toNat)
      let out := (List.range j.sectors).flatMap fun k =>
        xtsSector decrypt (leBytes 64 key) ((j.tweak + k) % 2 ^ 64) ((data.drop (4096 * k)).take 4096)
      (s.unitStore j.dst (out.map (BitVec.ofNat 8))).cnsResult j.tag 0x00 0

/-- ENCRYPT (R365): KIND 0x1, and the reserved kinds, which are bad jobs. -/
def execEncrypt (errs : List EccErr) (s : State) : Host.Outcome State Fault Refusal :=
  ok (s.cnsTake (fun k => k = 1 || k = 0 || 5 < k) fun j s => s.cnsCrypt false j errs)

/-- DECRYPT (R365). -/
def execDecrypt (errs : List EccErr) (s : State) : Host.Outcome State Fault Refusal :=
  ok (s.cnsTake (· == 2) fun j s => s.cnsCrypt true j errs)

/-- The member addresses of a coding job (R365). -/
def State.members (s : State) (list : Nat) : List Nat := (List.range s.positions).map fun i => s.dram (list + 8 * i) 8

/-- Byte `b` of every member; an address of 0 means zeros for a closed data member. -/
def State.rowBytes (s : State) (ms : List Nat) (b : Nat) : List Nat := ms.map fun a => if a = 0 then 0 else (s.byte (a + b)).toNat

/-- The members a coding job reads can be read: those that `skip` does not leave out. -/
def State.membersRead (s : State) (ms : List Nat) (n : Nat) (skip : Nat → Bool) (errs : List EccErr) : Bool :=
  (List.range ms.length).all fun i => skip i || ms.getD i 0 = 0 || s.cnsReads (ms.getD i 0) n errs

/-- The members as read meet the words in error. -/
def State.membersEcc (s : State) (ms : List Nat) (n : Nat) (skip : Nat → Bool) (errs : List EccErr) : State :=
  (List.range ms.length).foldl (fun s i => if skip i || ms.getD i 0 = 0 then s else s.unitRead (ms.getD i 0) n errs) s

/-- Write the members that `pick` names from the rows solved with `out` left out. -/
def State.writeMembers (s : State) (ms : List Nat) (n : Nat) (out pick : Nat → Bool) : State :=
  let km := s.layoutKM
  let rows := (List.range n).map fun b => solveRow km.1 km.2 (s.rowBytes ms b) out
  (List.range ms.length).foldl (fun s i =>
    if pick i && ms.getD i 0 != 0 then
      s.unitStore (ms.getD i 0) (rows.map fun r => BitVec.ofNat 8 (r.getD i 0))
    else s) s

/-- ENCODE (R343): the parity members of a stripe. -/
def execEncode (errs : List EccErr) (s : State) : Host.Outcome State Fault Refusal :=
  ok (s.cnsTake (· == 3) fun j s =>
    let ms := s.members j.src
    let n := 4096 * j.sectors
    let parity (i : Nat) : Bool := s.layoutKM.1 ≤ i
    let good := s.membersRead ms n parity errs
    let s := s.membersEcc ms n parity errs
    if good then (s.writeMembers ms n parity parity).cnsResult j.tag 0x00 0 else s.cnsResult j.tag 0x40 0)

/-- The consignment check of a decode (R347): one of the members used and one surplus member are left out in turn, and both ways give the same.
With no surplus member it does not pass. -/
def State.consignCheck (s : State) (ms : List Nat) (n mask : Nat) : Bool :=
  let km := s.layoutKM
  let here := (List.range ms.length).filter fun i => !bitOf mask i
  if here.length ≤ km.1 then false
  else
    let without (v : Nat) (i : Nat) : Bool := bitOf mask i || i == v
    (List.range n).all fun b =>
      let row := s.rowBytes ms b
      solveRow km.1 km.2 row (without (here.headD 0)) == solveRow km.1 km.2 row (without (here.getLastD 0))

/-- The KIND of a parcel's tag (R306): by the namespace that has its LPN, and for a key-value store whether it is a bundle. -/
def State.parcelKind (s : State) (lpn : Nat) : Nat :=
  match s.host.nss.find? fun n => n.2.covers lpn with
  | some n =>
    match n.2.csi with
    | 2 => 0x02
    | 1 => if s.office.bundles.any fun b => b.lpn == lpn then 0x03 else 0x06
    | _ => 0x01
  | none => 0x04

/-- The PSEQ of a parcel in its band, from the band's slot list (R306). -/
def State.slotPseq (s : State) (lpn : Nat) : Nat :=
  let loc := entLoc (s.mapEntry lpn)
  let g := (s.band (placeArea loc)).group
  let slot := bitsOf loc 9 0
  match sGet? s.office.groups g with
  | none => 0
  | some e =>
    if e.kind = 3 then
      match (s.zonesOf g).findSome? fun z => (sGet? s.host.nss z.1).bind fun n =>
        if n.lpn + 1024 * z.2.1 + slot == lpn then z.2.2.pseqs[slot]? else none with
      | some v => v
      | none => 0
    else
      match (List.range e.pseqs.length).find? fun i => s.groupPlace g e i == loc with
      | some i => e.pseqs.getD i 0
      | none => 0

/-- The tag of a rebuilt sector, formed anew (R306). -/
def State.rebuiltTag (s : State) (p : RecPlace) : List Nat :=
  leBytes 6 p.lpn ++ [p.sect, s.parcelKind p.lpn] ++ leBytes 8 (s.slotPseq p.lpn)

/-- Rung 6 delivers what a decode rebuilt at the addresses of places (R148): the sector's data stands there, and its tag is formed anew. -/
def State.decodeServes (s : State) (ms : List Nat) (n mask : Nat) (ok : Bool) : State :=
  let at_ (a : Nat) : Bool := (List.range ms.length).any fun i =>
    bitOf mask i && ms.getD i 0 != 0 && ms.getD i 0 ≤ a && a < ms.getD i 0 + n && (a - ms.getD i 0) % 4096 == 0
  (s.sixPlaces at_).foldl (fun s p =>
    (s.store p.2.tagAt ((s.rebuiltTag p.2).map (BitVec.ofNat 8))).sixDelivers p.1 p.2 ((s.bytes p.2.data 4096).map (·.toNat)) ok) s

/-- DECODE (R347): the members of MASK are rebuilt as erasures, with the consignment check where there is a surplus member. -/
def execDecode (errs : List EccErr) (s : State) : Host.Outcome State Fault Refusal :=
  ok (s.cnsTake (· == 4) fun j s =>
    let ms := s.members j.src
    let n := 4096 * j.sectors
    let out (i : Nat) : Bool := bitOf j.mask i
    let good := s.membersRead ms n out errs
    let s := s.membersEcc ms n out errs
    let s := s.inc Reg.CNS_COUNTS_DECODES
    if good then
      let check := s.consignCheck ms n j.mask
      ((s.writeMembers ms n out out).decodeServes ms n j.mask check).cnsResult j.tag 0x00 0
    else s.cnsResult j.tag 0x40 0)

/-- CHECK (R347): the members not left out are consistent, or the first sector in which they are not is told. -/
def execCheck (errs : List EccErr) (s : State) : Host.Outcome State Fault Refusal :=
  ok (s.cnsTake (· == 5) fun j s =>
    let ms := s.members j.src
    let n := 4096 * j.sectors
    let out (i : Nat) : Bool := bitOf j.mask i
    let good := s.membersRead ms n out errs
    let s := s.membersEcc ms n out errs
    if !good then s.cnsResult j.tag 0x40 0
    else
      let km := s.layoutKM
      let agrees (b : Nat) : Bool :=
        let row := s.rowBytes ms b
        let all := solveRow km.1 km.2 row out
        (List.range ms.length).all fun i => out i || all.getD i 0 == row.getD i 0
      match (List.range n).find? fun b => !agrees b with
      | none => s.cnsResult j.tag 0x00 0
      | some b => (s.inc Reg.CNS_COUNTS_MISMATCH).cnsResult j.tag 0x01 (b / 4096))

/-- Give a key slot a key, or empty it, with CNS_KEY_LOADED (R364). -/
def State.putKey (s : State) (slot : Nat) (key : Option Nat) : State :=
  let keys := match key with
    | some k => sIns s.cons.keys slot (k % 2 ^ 512)
    | none => sDel s.cons.keys slot
  let s := s.putCons { s.cons with keys := keys }
  if slot < 32 then s.setBit Reg.CNS_KEY_LOADED_LO_LOADED slot key.isSome
  else s.setBit Reg.CNS_KEY_LOADED_HI_LOADED (slot - 32) key.isSome

/-- The key-encryption key in bytes, least significant word first (R364): that of the last completed load, and zeros before one. -/
def State.kekBytes (s : State) : List Nat := (List.range 8).flatMap fun n => leBytes 4 (sGet s.cons.kek n 0)

/-- CNS_KEY_ADDR (R364). -/
def State.keyAddr (s : State) : Nat :=
  s.get Reg.CNS_KEY_ADDR_LO_ADDR / 8 * 8 + 2 ^ 32 * s.get Reg.CNS_KEY_ADDR_HI_ADDR

/-- A number from bytes, least significant first. -/
def ofBytes (l : List Nat) : Nat := l.reverse.foldl (fun n b => n * 256 + b) 0

/-- An operation on a key slot through CNS_KEY_CTRL (R364): GO reads 1 until it is done. -/
def State.keyOp (s : State) (i : Initiator) (op slot : Nat) (f : State → State) : State :=
  s.access i 0x40410030 4 fun s =>
    { f (s.setAll [(Reg.CNS_KEY_CTRL_OP, op), (Reg.CNS_KEY_CTRL_SLOT, slot), (Reg.CNS_KEY_CTRL_GO, 0)]) with bus := .written }

/-- LOAD_WRAPPED_KEY (R361, R364): a wrapped key that fails its integrity check leaves the slot empty. -/
def execLoadWrappedKey (i : Initiator) (slot : Nat) (s : State) : Host.Outcome State Fault Refusal :=
  let slot := slot % 64
  ok (s.keyOp i 1 slot fun s =>
    match keyUnwrap s.kekBytes ((s.bytes s.keyAddr 72).map (·.toNat)) with
    | some k => s.putKey slot (some (ofBytes k))
    | none => (s.putKey slot none).set Reg.CNS_KEY_STAT_UNWRAP_FAIL 1)

/-- The engine generates a key into a slot (R361); the key is a free value. -/
def State.generateKey (s : State) (slot : Nat) : State :=
  (s.putKey slot (some (Config.randomKey s.cons.generated))).putCons
    { (s.putKey slot (some (Config.randomKey s.cons.generated))).cons with generated := s.cons.generated + 1 }

/-- A slot's key as it is wrapped, 72 bytes; none where the slot is empty. -/
def State.wrapped (s : State) (slot : Nat) : Option (List Nat) :=
  (sGet? s.cons.keys slot).map fun k => keyWrap s.kekBytes (leBytes 64 k)

/-- GENERATE_KEY (R361, R364): it is written wrapped at KEY_ADDR. -/
def execGenerateKey (i : Initiator) (slot : Nat) (s : State) : Host.Outcome State Fault Refusal :=
  let slot := slot % 64
  ok (s.keyOp i 2 slot fun s =>
    let s := s.generateKey slot
    s.store s.keyAddr (((s.wrapped slot).getD []).map (BitVec.ofNat 8)))

/-- CLEAR_KEY_SLOT (R364). -/
def execClearKeySlot (i : Initiator) (slot : Nat) (s : State) : Host.Outcome State Fault Refusal :=
  ok (s.keyOp i 3 (slot % 64) fun s => s.putKey (slot % 64) none)

/-- Every key slot is emptied. -/
def State.clearKeys (s : State) : State :=
  (s.putCons { s.cons with keys := [] }).setAll [(Reg.CNS_KEY_LOADED_LO_LOADED, 0), (Reg.CNS_KEY_LOADED_HI_LOADED, 0)]

/-- CLEAR_ALL_KEY_SLOTS (R364). -/
def execClearAllKeySlots (i : Initiator) (s : State) : Host.Outcome State Fault Refusal :=
  ok (s.keyOp i 4 0 fun s => s.clearKeys)

/-- KEK_LOAD (R364): CNS_KEK7 written completes the load of the eight words. -/
def execKekLoad (i : Initiator) (v : Nat) (s : State) : Host.Outcome State Fault Refusal :=
  ok (s.access i 0x4041011C 4 fun s =>
    let s := s.set (Reg.CNS_KEK_KEK 7) v
    let kek := (List.range 8).map fun n => (n, s.get (Reg.CNS_KEK_KEK n))
    { (s.putCons { s.cons with kek := kek }).set Reg.CNS_KEY_STAT_NO_KEK 0 with bus := .written })

/-- The surfaces of the module (R16). -/
def State.surfaces (s : State) : List Nat := List.range (if s.variant == .vk432m then 32 else 16)

/-- A surface is unavailable (R346). -/
def State.gone (s : State) (surface : Nat) : Bool := s.bit Reg.CNS_UNAVAIL_UNAVAIL surface

/-- A member of a band group is unavailable (R346): its surface, or its band area retired. -/
def State.memberGone (s : State) (a : Nat × Nat) : Bool := s.gone a.1 || (s.band (a.1 * 65536 + a.2)).state == 5

/-- The members of a group that are unavailable. -/
def State.missing (s : State) (e : Group) : Nat := (e.areas.filter s.memberGone).length

/-- The spare areas left on a surface (R348). -/
def State.sparesLeft (s : State) (surface : Nat) : Nat :=
  let used := s.office.bands.filter fun p => p.1 / 65536 == surface && p.1 % 65536 % 50 == 49 && p.2.state != 6
  s.office.areas / 50 - used.length

/-- The set a surface belongs to (R339, R340). -/
def State.setOf (s : State) (surface : Nat) : Nat := if s.sets = 2 then surface % 8 / 4 else 0

/-- A head is in service. -/
def State.inService (s : State) (surface : Nat) : Bool :=
  let x := Act.num (surface / 8)
  s.headFitted x (surface % 8) && !s.headRetired x (surface % 8) && !s.gone surface

/-- The index of the position map that a surface serves. -/
def State.indexOf (s : State) (surface : Nat) : Option Nat :=
  (List.range (s.sets * s.positions)).find? fun i => s.posSurface i == surface

/-- Post a surface into the position map. -/
def State.setPos (s : State) (i surface : Nat) : State :=
  match i % 4 with
  | 0 => s.set (Reg.CNS_POSMAP_SURF0 (i / 4)) surface
  | 1 => s.set (Reg.CNS_POSMAP_SURF1 (i / 4)) surface
  | 2 => s.set (Reg.CNS_POSMAP_SURF2 (i / 4)) surface
  | _ => s.set (Reg.CNS_POSMAP_SURF3 (i / 4)) surface

/-- The surface with the most spare areas, the lowest number on a tie. -/
def State.mostSpares (s : State) (l : List Nat) : Option Nat :=
  (sortBy (fun a b => s.sparesLeft b < s.sparesLeft a || (s.sparesLeft a == s.sparesLeft b && a ≤ b)) l).head?

/-- The substitute for a surface (R350). -/
def State.substitute (s : State) (surface : Nat) : Option Nat :=
  let same := (s.surfaces.filter fun x => x / 8 == surface / 8 && x != surface).filter s.inService
  match s.mostSpares (same.filter fun x => s.setOf x != s.setOf surface) with
  | some x => some x
  | none => if s.sets = 2 then none else s.mostSpares same

/-- The parcels a member of a group holds and the map still names, with their slots: member at place `p` of the group's areas. -/
def State.memberParcels (s : State) (g : Nat) (e : Group) (p : Nat) : List (Nat × Nat) :=
  let a := e.areas.getD p (0, 0)
  let k := s.layoutKM.1
  match (s.dataPositions g).idxOf? p with
  | none => []
  | some m =>
    let lpns := if e.kind = 3 then
        (s.zonesOf g).flatMap fun z => match z.2.2.bound, sGet? s.host.nss z.1 with
          | some (_, mm), some n => if mm = m then (List.range z.2.2.placed).map fun j => (j, n.lpn + 1024 * z.2.1 + j) else []
          | _, _ => []
      else (List.range ((e.written.length + k - 1) / k)).filterMap fun j => (e.written[j * k + m]?).map fun l => (j, l)
    lpns.filter fun q => s.slotValid a.1 a.2 q.1 q.2

/-- Every sector of a parcel is listed as unreadable. -/
def State.listParcel (s : State) (lpn mask : Nat) : State :=
  ((List.range 64).filter (bitOf mask)).foldl (fun s k => s.listUnreadable lpn k) s

/-- The rows left with fewer than k available members, and the first-class slots left with no copy, join the unreadable list (R352,
R363). -/
def State.listLost (s : State) : State :=
  let s := s.office.groups.foldl (fun s p =>
    if s.missing p.2 ≤ s.layoutKM.2 then s
    else (List.range p.2.areas.length).foldl (fun s i =>
      if s.memberGone (p.2.areas.getD i (0, 0)) then
        (s.memberParcels p.1 p.2 i).foldl (fun s q => s.listParcel q.2 (2 ^ 64 - 1)) s
      else s) s) s
  s.office.fc.foldl (fun s f =>
    if s.gone (bitsOf f.2.locA 30 26) && s.gone (bitsOf f.2.locB 30 26) then s.listParcel f.1 f.2.mask else s) s

/-- What stands on a retired surface, by area. -/
def State.bandsOn (s : State) (surface : Nat) : List (Nat × Band) :=
  (s.office.bands.filter fun p => p.1 / 65536 == surface).map fun p => (p.1 % 65536, p.2)

/-- The rebuild plan (R355) over the surfaces whose heads are retired: first-class areas by number, then group members by their remaining
margin, groups not full first, more valid parcels first. A full group at or below REBUILD_RESORT percent is re-sorted instead. -/
def State.planRebuild (s : State) (surfaces : List Nat) : State :=
  let idle := surfaces.flatMap fun x => (List.range s.office.areas).filterMap fun a =>
    let b := s.band (x * 65536 + a)
    if b.state == 0 || b.state == 6 then some (x * 65536 + a, { b with state := 5 }) else none
  let lost := surfaces.flatMap fun x => (s.bandsOn x).map fun p => (x, p.1, p.2)
  let fc := (sortBy (fun a b => a.2 ≤ b.2) ((lost.filter fun q => q.2.2.state == 1).map fun q => (q.1, q.2.1)))
  let inGroup := (lost.filter fun q => 2 ≤ q.2.2.state && q.2.2.state ≤ 4).filterMap fun q =>
    (sGet? s.office.groups q.2.2.group).map fun e => ((q.1, q.2.1), q.2.2.group, e)
  let light (e : Group) : Bool := e.closed && 100 * s.groupValid e ≤ s.get Reg.CNS_POLICY_REBUILD_RESORT * s.groupRoom
  let work := inGroup.filter fun q => !light q.2.2
  let again := ((inGroup.filter fun q => light q.2.2).map (·.2.1)).eraseDups
  let before (a b : (Nat × Nat) × Nat × Group) : Bool :=
    let ra := s.missing a.2.2
    let rb := s.missing b.2.2
    if ra != rb then rb < ra
    else if a.2.2.closed != b.2.2.closed then b.2.2.closed
    else s.groupValid b.2.2 ≤ s.groupValid a.2.2
  let todo := fc ++ (sortBy before work).map (·.1)
  let s := s.setBands idle
  let s := s.putOffice { s.office with resortQueue := again ++ s.office.resortQueue.filter fun g => !again.contains g }
  let done := if s.cons.rebuild = 0 then 0 else s.cons.done
  s.putCons { s.cons with rebuild := if todo.isEmpty then 0 else 2, todo := todo, done := done, total := done + todo.length }

/-- The surfaces whose heads are retired. -/
def State.retiredSurfaces (s : State) : List Nat := s.surfaces.filter fun x => s.headRetired (Act.num (x / 8)) (x % 8)

/-- The retired heads as a mask by surface (R354). -/
def State.retiredMask (s : State) : Nat := s.retiredSurfaces.foldl (fun n x => n + 2 ^ x) 0

/-- The position map as a list (R354). -/
def State.posmapList (s : State) : List Nat := (List.range 32).map s.posSurface

/-- A rebuild ended: told and recorded (R353, R400). -/
def State.rebuildEnded (s : State) (surface : Nat) : State :=
  ((s.putCons { s.cons with rebuild := 0 }).ledger 0x0041 [surface, 0, s.cons.done, 0, 0, 0, 0]).raiseEvent ⟨7, 0x03, 0xC1⟩

/-- A head is retired (R353): the surface is unavailable and its ladders stop, the loop takes RETIRE, open groups with a band on it close,
the substitute is posted, the head-service entry and the ledger are written, and the rebuild is planned. -/
def State.retireHead (s : State) (surface trigger : Nat) : State :=
  let x := Act.num (surface / 8)
  let s := (s.setBit Reg.CNS_UNAVAIL_UNAVAIL surface true).retireLadders surface
  let s := s.retire x (2 ^ (surface % 8))
  let open_ := (s.bandsOn surface).filter fun p => p.2.state == 2
  let s := open_.foldl (fun s p => (s.failBand surface p.1)) s
  let s := s.listLost
  let s := match s.indexOf surface, s.substitute surface with
    | some i, some y => s.setPos i y
    | _, _ => s
  let s := s.saveDev fun d => { d with retired := s.retiredMask, posmap := s.posmapList }
  let s := s.planRebuild s.retiredSurfaces
  let s := s.ledger 0x0041 [surface, trigger, s.cons.todo.length, 0, 0, 0, 0]
  s.raiseEvent ⟨7, 0x03, 0xC1⟩

/-- A retirement trigger for cause is met (R351). -/
def State.retireTrigger (s : State) (surface trigger : Nat) : Bool :=
  let l := s.lp (Act.num (surface / 8))
  match trigger with
  | 1 => l.paLow && l.head == surface % 8 && l.paSinceNs + 10000000 ≤ s.clockNs
  | 2 => 3 ≤ sGet s.cons.noMark surface 0
  | 3 => s.get Reg.CNS_RETIRE_SUSPECT_LIM <
      (s.office.suspects.filter fun p => p.2 == surface && s.ms < p.1 + 86400000).length
  | 4 => s.get Reg.CNS_RETIRE_RUNG6_LIM < s.rungSixShare surface
  | 5 => 8 ≤ sGet s.cons.satHeads surface 0 / 2
  | _ => false

/-- HEAD_RETIREMENT (R351 to R353): a trigger for cause is never refused. -/
def execHeadRetirement (surface trigger : Nat) (s : State) : Host.Outcome State Fault Refusal :=
  let x := Act.num (surface / 8)
  if surface < 32 && s.fitted x && !s.headRetired x (surface % 8) && s.retireTrigger surface trigger then
    ok (s.retireHead surface trigger)
  else ok s

/-- The area nearest in number to `n` of a surface in a given state. -/
def State.nearIn (s : State) (surface n state : Nat) : Option Nat :=
  ((List.range s.office.areas).flatMap fun d => if d = 0 then [n] else if d ≤ n then [n - d, n + d] else [n + d]).find?
    fun a => a < s.office.areas && (s.band (surface * 65536 + a)).state == state

/-- The distance between two area numbers. -/
def areaGap (a b : Nat) : Nat := (a - b) + (b - a)

/-- The replacement for a lost area (R348, R356): on one of the surfaces given, preferring the lost member's actuator, then a spare area,
then the area nearest in number. -/
def State.replacement (s : State) (l : List Nat) (lost : Nat × Nat) : Option (Nat × Nat) :=
  let cands := (l.filter s.inService).flatMap fun x =>
    match s.nearIn x lost.2 6 with
    | some a => [(x, a, 0)]
    | none => match s.nearIn x lost.2 0 with
      | some a => [(x, a, 1)]
      | none => []
  let key (c : Nat × Nat × Nat) : Nat := (b2n (c.1 / 8 != lost.1 / 8) * 2 + c.2.2) * 2 ^ 20 + areaGap c.2.1 lost.2
  ((sortBy (fun a b => key a ≤ key b) cands).head?).map fun c => (c.1, c.2.1)

/-- A lost first-class area is replaced (R356): valid slots are copied from the surviving copy, and their descriptors name the new one. -/
def State.rebuildPair (s : State) (lost new : Nat × Nat) : State :=
  let key (a : Nat × Nat) : Nat := a.1 * 65536 + a.2
  let move (loc : Nat) : Nat := if placeArea loc = key lost then placeOf new.1 new.2 (bitsOf loc 9 0) else loc
  let slots := (s.office.fc.filter fun f => placeArea f.2.locA == key lost || placeArea f.2.locB == key lost).map fun f =>
    (f.1, { f.2 with locA := move f.2.locA, locB := move f.2.locB })
  let pairs := s.office.pairs.map fun p => { p with a := if p.a = lost then new else p.a, b := if p.b = lost then new else p.b }
  let b := s.band (key new)
  let r := s.switchJob []
  let bands : List (Nat × Band) :=
    [(key new, { b with state := 1, group := (s.band (key lost)).group, epoch := b.epoch + 1 }), (key lost, { s.band (key lost) with state := 5 })]
  let s := r.1.putOffice { r.1.office with
    fc := slots.foldl (fun m f => sIns m f.1 f.2) r.1.office.fc, pairs := pairs,
    bands := bands.foldl (fun m p => sIns m p.1 p.2) r.1.office.bands }
  s.journal ⟨r.2.1, 0x01, [], slots, bands⟩

/-- A lost member of a group is replaced (R356): one switch job moves each valid parcel's entry, and a BAND record puts the replacement in
the group and retires the lost area. -/
def State.rebuildMember (s : State) (g : Nat) (e : Group) (lost new : Nat × Nat) : State :=
  let p := e.areas.idxOf lost
  let key (a : Nat × Nat) : Nat := a.1 * 65536 + a.2
  let ts := (s.memberParcels g e p).map fun q =>
    let x := s.mapEntry q.2
    (q.2, x, mkEntry (entFC x) true (entUNR x) (entWGEN x) (placeOf new.1 new.2 q.1))
  let old := s.band (key lost)
  let b := s.band (key new)
  let s := s.putOffice { s.office with
    groups := sIns s.office.groups g { e with areas := e.areas.set p new },
    bands := sIns s.office.bands (key new) { b with state := old.state, group := g, epoch := b.epoch + 1, valid := 0 } }
  let s := if ts.isEmpty then s
    else
      let r := s.switchJob ts
      let done := (List.range ts.length).filterMap fun i => if r.2.2.getD i false then ts[i]? else none
      (done.foldl (fun s t => s.settle r.2.1 0 [] t) r.1).journal ⟨r.2.1, 0x02, done, [], []⟩
  s.setBands [(key new, s.band (key new)), (key lost, { s.band (key lost) with state := 5 })]

/-- A unit of the plan is done. -/
def State.unitDone (s : State) (surface : Nat) (count : Bool) : State :=
  let rest := s.cons.todo.tail
  let s := s.putCons { s.cons with todo := rest, done := s.cons.done + b2n count, total := s.cons.total - b2n (!count) }
  if rest.isEmpty then s.rebuildEnded surface else s

/-- REBUILD_UNIT_COMMIT (R356, R358, R363): the first unit of the plan, once every receipt of its replacement is good. A replacement that
fails a receipt becomes suspect and another is chosen. Where no area is eligible the group stays degraded, and is queued for
re-sorting. Rebuild writes wait while writes are held, and no rebuild runs with reads only. -/
def execRebuildUnitCommit (receiptsGood : Bool) (s : State) : Host.Outcome State Fault Refusal :=
  match s.cons.todo with
  | [] => ok s
  | lost :: _ =>
    if s.cons.rebuild != 2 || !s.mayPlace then ok s
    else
      let key := lost.1 * 65536 + lost.2
      let b := s.band key
      let pair := s.office.pairs.find? fun p => p.a == lost || p.b == lost
      let group := if b.state == 1 then none else sGet? s.office.groups b.group
      let from_ := match pair, group with
        | some p, _ =>
          let other := if p.a = lost then p.b else p.a
          if s.gone other.1 then [] else s.surfaces.filter fun x => x / 8 != other.1 / 8
        | none, some e =>
          if s.layoutKM.2 < s.missing e then [] else s.surfaces.filter fun x => !e.areas.any fun a => a.1 == x && a != lost
        | none, none => []
      match s.replacement from_ lost with
      | none =>
        let s := if group.isSome then s.queueGroup key else s
        ok (s.unitDone lost.1 false)
      | some new =>
        if !receiptsGood then
          let k := new.1 * 65536 + new.2
          let s := s.putOffice { s.office with suspects := s.office.suspects ++ [(s.ms, new.1)] }
          ok (s.setBands [(k, { s.band k with state := 4 })])
        else
          match pair, group with
          | some _, _ => ok ((s.rebuildPair lost new).unitDone lost.1 true)
          | none, some e => ok ((s.rebuildMember b.group e lost new).unitDone lost.1 true)
          | none, none => ok (s.unitDone lost.1 false)

/-- PARITY_SCRUB (R359): a full group with every member available is read and each stripe row checked; `bad` is the slot of a row whose
members read good but fail the check. With every such group checked the lap ends. -/
def execParityScrub (g : Nat) (bad : Option Nat) (s : State) : Host.Outcome State Fault Refusal :=
  match sGet? s.office.groups g with
  | none => ok s
  | some e =>
    if !e.closed || s.missing e != 0 || s.powerEvent then ok s
    else
      let s := match bad with
        | none => s
        | some slot =>
          let a := e.areas.headD (0, 0)
          let lpn := e.written.getD (slot * s.layoutKM.1) 0
          let s := s.ledger 0x0051 [0x41, lpn % 2 ^ 32, lpn / 2 ^ 32, placeOf a.1 a.2 slot, 0, 0, 0]
          let s := s.putCons { s.cons with mismatches := s.cons.mismatches + 1 }
          s.putOffice { s.office with resortQueue := g :: s.office.resortQueue.filter (· != g) }
      let seen := if s.cons.scrubbed.contains g then s.cons.scrubbed else g :: s.cons.scrubbed
      let all := (s.office.groups.filter fun p => p.2.closed && s.missing p.2 == 0).all fun p => seen.contains p.1
      ok (s.putCons { s.cons with scrubbed := if all then [] else seen, lapMs := if all then s.ms else s.cons.lapMs })

end Sys2Proof.Machine
end

