-- ==== Sys2Proof/Machine/Lane.lean ====
section
/-!
DEFINITION. The read/write lanes (R92 to R139): operations and their completions, sectors under the head, first passes and receipts, zone
entries, and the commands on the decoder pool.
-/
namespace Sys2Proof.Machine

/-- Change the operation of a serial number. -/
def State.mapOp (s : State) (x : Act) (serial : Nat) (f : LaneOp → LaneOp) : State :=
  let l := s.lane x
  s.putLane x { l with ops := l.ops.map fun o => if o.serial == serial then f o else o }

/-- The operation that uses the media. -/
def State.mediaOp (s : State) (x : Act) : Option LaneOp := (s.lane x).ops.find? fun o => o.media

/-- Entries of a lane's operation ring not yet taken, with a tail (R127). -/
def State.laneQueued (s : State) (x : Act) (tail : Nat) : Nat := (tail + 512 - s.get (Reg.CH_Q_PTR_QHEAD x)) % 512

/-- QTAIL written (R127): refused beyond 256 entries outstanding, and while the lane is aborting (R132). -/
def execLaneQtailWrite (i : Initiator) (x : Act) (tail : Nat) (s : State) : Host.Outcome State Fault Refusal :=
  let a := x.laneBase + 0x18
  ok (s.access i a 4 fun s =>
    if s.get (Reg.CH_STATUS_STATE x) == 6 then s.ignored i a
    else if 256 < s.laneQueued x (tail % 512) then (s.set (Reg.CH_INT_Q_OVF x) 1).ignored i a
    else { s.set (Reg.CH_Q_PTR_QTAIL x) tail with bus := .written })

/-- The completion ring has room for one more completion beyond those owed (R127). -/
def State.laneRoom (s : State) (x : Act) : Bool :=
  (s.get (Reg.CH_C_PTR_CTAIL x) + 512 - s.get (Reg.CH_C_PTR_CHEAD x)) % 512 + (s.lane x).ops.length < 256

/-- Word `k` of the entry at QHEAD (R127, R128). -/
def State.laneEntry (s : State) (x : Act) (k : Nat) : Nat :=
  let base := s.get (Reg.CH_Q_BASE_LO_BASE_LO x) * 2 ^ 13 + 2 ^ 32 * s.get (Reg.CH_Q_BASE_HI_BASE_HI x)
  s.dword (base + 32 * (s.get (Reg.CH_Q_PTR_QHEAD x) % 256) + 4 * k)

/-- An operation as the lane starts it, with its copies of the zone entry and of the tap-memory entry (R125, R128). -/
def State.newOp (s : State) (x : Act) (opcode head zone tag track first count : Nat) (noRec : Bool)
    (epoch dataList tagArea statusAt : Nat) : LaneOp where
  serial := (s.lane x).serial
  opcode := opcode
  head := head
  zone := zone
  tag := tag
  track := track
  first := first
  count := count
  noRec := noRec
  epoch := epoch
  dataList := dataList
  tagArea := tagArea
  statusAt := statusAt
  ended := none
  endedTick := 0
  media := true
  heater := false
  status := []
  started := []
  lost := 0
  good := false
  entry := s.zone x (64 * head + zone)
  taps := s.tapsFor x head zone
  buffer := []
  measure := none
  marks := ⟨none, 0, 0⟩

/-- The operation that the entry at QHEAD spells (R128). -/
def State.laneDecode (s : State) (x : Act) : LaneOp :=
  let w := s.laneEntry x
  let count := bitsOf (w 2) 19 8
  let tags := w 6 + 2 ^ 32 * w 7
  s.newOp x (bitsOf (w 0) 31 28) (bitsOf (w 0) 27 25) (bitsOf (w 0) 24 19) (bitsOf (w 0) 15 0) (bitsOf (w 1) 31 8) (bitsOf (w 2) 31 20) count
    (bitOf (w 2) 0) (bitsOf (w 3) 22 0) (w 4 + 2 ^ 32 * w 5) tags (tags + 16 * count)

/-- The track after the last of a zone: the start of the next valid entry of the same head (R124). -/
def State.zoneEnd (s : State) (x : Act) (head zone : Nat) : Nat :=
  match (List.range 64).find? fun z => zone < z && s.on (Reg.CH_ZONE_VALID x (64 * head + z)) with
  | some z => s.get (Reg.CH_ZONE_START_TRACK x (64 * head + z))
  | none => 2 ^ 24

/-- The operation is one that completes with BAD_PARAMS (R128). -/
def State.badParams (s : State) (x : Act) (o : LaneOp) : Bool :=
  let k := 64 * o.head + o.zone
  !(1 ≤ o.opcode && o.opcode ≤ 4) || !s.on (Reg.CH_ZONE_VALID x k) ||
    o.track < s.get (Reg.CH_ZONE_START_TRACK x k) || s.zoneEnd x o.head o.zone ≤ o.track ||
    o.count == 0 || s.get (Reg.CH_ZONE_SECTORS x k) < o.first + o.count

/-- The domains an operation needs are on (R92, R93). -/
def State.laneDomains (s : State) (x : Act) (o : LaneOp) : Bool :=
  let decode := s.pdOn 8 && (s.pdOn 9 || s.pdOn 10)
  s.pdOn x.n && (o.opcode == 3 || o.opcode == 4 || decode) && (o.opcode != 2 || s.pdOn (4 + x.n))

/-- The status that ends an operation before it starts, none where it may start (R93, R128, R132, R133). Where several
hold, the first in this order (DESIGN CHOICE; log 117). -/
def State.opRefusal (s : State) (x : Act) (o : LaneOp) : Option Nat :=
  if !s.laneDomains x o then some 0x06
  else if s.badParams x o then some 0x07
  else if !s.bit (Reg.CH_CTRL_HEAD_EN x) o.head then some 0x05
  else if o.opcode == 2 && (s.on Reg.TCK_STATUS_WR_HOLD || !s.on (Reg.CH_CTRL_WRITE_EN x)) then some 0x02
  else none

/-- The status of a sector of an operation, 0x30 where it was not attempted (R131). -/
def LaneOp.sectorStatus (o : LaneOp) (k : Nat) : Nat := sGet o.status k 0x30

/-- The sectors of an operation by their status. -/
def LaneOp.done (o : LaneOp) : Nat := ((List.range o.count).filter fun k => o.sectorStatus k ≤ 2).length

/-- The completion status (R130): the event that ended the operation, else GOOD where every sector has 0x00 or 0x01, else
ATTENTION. A skew measurement has no sectors. -/
def LaneOp.result (o : LaneOp) : Nat :=
  match o.ended with
  | some e => e
  | none => if o.opcode == 4 || (List.range o.count).all fun k => o.sectorStatus k ≤ 1 then 0x00 else 0x01

/-- Write an operation's status bytes and its completion entry (R130, R131). A skew measurement touches no sector. -/
def State.complete (s : State) (x : Act) (o : LaneOp) : State :=
  let n := if o.opcode == 4 then 0 else o.count
  let s := s.store o.statusAt ((List.range n).map fun k => BitVec.ofNat 8 (o.sectorStatus k))
  let c := s.get (Reg.CH_C_PTR_CTAIL x)
  let base := s.get (Reg.CH_C_BASE_LO_BASE_LO x) * 2 ^ 12 + 2 ^ 32 * s.get (Reg.CH_C_BASE_HI_BASE_HI x)
  let d := if o.opcode == 4 then 0 else o.done
  let s := s.storeWords (base + 16 * (c % 256))
    [o.tag * 2 ^ 16 + o.result * 2 ^ 8, d * 2 ^ 20 + (n - d) * 2 ^ 8, s.tickLo, min 65535 o.lost * 2 ^ 16]
  (s.set (Reg.CH_C_PTR_CTAIL x) ((c + 1) % 512)).set (Reg.CH_INT_CMPL x) 1

/-- The lane's STATE when no operation uses the media (R134). -/
def State.laneRest (s : State) (x : Act) : State :=
  if s.get (Reg.CH_STATUS_STATE x) == 6 then s
  else s.set (Reg.CH_STATUS_STATE x) (if s.on (Reg.CH_CTRL_ENABLE x) then 1 else 0)

/-- Every operation still in the ring completes with ABORTED and no sector touched, while the completion ring has room
(R127, R132). -/
def State.flushRing (s : State) (x : Act) : Nat → State
  | 0 => s
  | n + 1 =>
    if s.laneQueued x (s.get (Reg.CH_Q_PTR_QTAIL x)) = 0 || !s.laneRoom x then s
    else
      let o := { s.laneDecode x with ended := some 0x04 }
      let s := (s.set (Reg.CH_Q_PTR_QHEAD x) ((s.get (Reg.CH_Q_PTR_QHEAD x) + 1) % 512)).complete x o
      State.flushRing s x n

/-- An abort goes on (R132): once nothing taken is outstanding, the ring is emptied, and with QHEAD at QTAIL it ends. -/
def State.abortOn (s : State) (x : Act) : State :=
  if s.get (Reg.CH_STATUS_STATE x) == 6 && (s.lane x).ops.isEmpty then
    let s := s.flushRing x 256
    if s.laneQueued x (s.get (Reg.CH_Q_PTR_QTAIL x)) = 0 then
      s.set (Reg.CH_STATUS_STATE x) (if s.on (Reg.CH_CTRL_ENABLE x) then 1 else 0)
    else s
  else s

/-- The HDA thermistor, or what stands for it (R86, R436), as CH_SKEWn keeps it: in °C + 40. -/
def State.skewTemp (s : State) : Nat := min 255 (s.heat.composite / 16 + 40).toNat

/-- Whether a head's skew is due (R86): the HDA thermistor has moved by more than 4 K since its last measurement. -/
def State.skewDue (s : State) (x : Act) (head : Nat) : Bool :=
  let t := s.get (Reg.CH_SKEW_TEMP_AT x head)
  t + 4 < s.skewTemp || s.skewTemp + 4 < t

/-- A skew measurement of a head that found marks (R123): their mean, in 1/16 T, rounded down (DESIGN CHOICE; log 135). -/
def State.measureSkew (s : State) (x : Act) (head : Nat) (m : SkewRun) : State :=
  if m.count = 0 then s
  else (s.set (Reg.CH_SKEW_SKEW x head) (unsigned 16 (16 * m.sum / (m.count : Int)))).set (Reg.CH_SKEW_TEMP_AT x head) s.skewTemp

/-- A run of marks with what one more sector gave. -/
def SkewRun.add (m : SkewRun) (d : Option Int) : SkewRun :=
  match d with
  | some v => { m with sum := m.sum + v, count := m.count + 1 }
  | none => m

/-- The loop's active head and target match an operation, and it reports on track (R129). -/
def State.laneMatch (s : State) (x : Act) (o : LaneOp) : Bool :=
  let l := s.lp x
  l.head == o.head && l.target == o.track && l.onTrack

/-- The channel bit clock of a zone in Hz (R73, R83): the synthesiser's multiple of the disc clock as the last revolution gives it; in wedge
timing, of the nominal ring rate corrected by the flywheel; before either has been measured, of the nominal ring rate. -/
def State.bitClock (s : State) (z : Zone) : Nat :=
  let measured := if s.get Reg.TCK_STATUS_SRC = 3 then s.tck.flywheel else s.get Reg.PMK_REV_REV_PERIOD
  let ring := if measured = 0 then 2 ^ 20 * s.get Reg.SPN_SET_SET_RPM / 60 else 2 ^ 20 * 25000000 / measured
  ring * (z.n * 2 ^ 24 + z.f) / 2 ^ 24

/-- The settings of the read front end for an operation (R94): from its zone entry and CH_AFE, each clamped to its range, with the gain given. -/
def State.afeFor (s : State) (x : Act) (z : Zone) (gain : Nat) : Afe where
  gain := min 144 gain
  loop := s.get (Reg.CH_AFE_VGA_LOOP x)
  fc := max 38 (min 128 z.fc)
  boost := min 120 z.boost
  mra := z.mra
  fullScale := max 0x32 (min 0x7D (s.get (Reg.CH_AFE_ADC_FS x)))

/-- Address `k` of an operation's data list (R128). -/
def State.dataAt (s : State) (o : LaneOp) (k : Nat) : Nat := s.dram (o.dataList + 8 * k) 8

/-- The information of a write sector from its data and tag as they stand in DRAM (R115, R119). -/
def State.fetchInfo (s : State) (x : Act) (o : LaneOp) (k : Nat) : List Nat :=
  let user := (s.bytes (s.dataAt o k) 4096).map (·.toNat)
  let tag := (s.bytes (o.tagArea + 16 * k) 16).map (·.toNat)
  encodeInfo user tag (identityOf (surfaceOf x o.head) o.track (o.first + k) o.epoch)

/-- The lane fetches the data of a write up to four sectors ahead (R119). -/
def State.fetchAhead (s : State) (x : Act) (o : LaneOp) (upTo : Nat) : LaneOp :=
  let new := (List.range (min o.count upTo)).filter fun k => !o.buffer.any (·.1 == k) && !o.started.contains k
  { o with buffer := o.buffer ++ new.map fun k => (k, s.fetchInfo x o k) }

/-- A write of another track of a band waits until the sectors of the last one that are not placed have been written again (R139). The lane keeps
that order, whatever order base firmware posts in (DESIGN CHOICE; log 137). -/
def State.rewritesFirst (s : State) (x : Act) (o : LaneOp) : Bool :=
  o.opcode == 2 && (s.lane x).notPlaced.any fun p => p.head == o.head && p.epoch == o.epoch && p.track != o.track

/-- The write points with one more write: it moves the point that it goes on from, at the same track or the next, or has a point of its own
(R139). -/
def pointsAfter (l : List (Nat × Nat × Nat × Nat)) (o : LaneOp) : List (Nat × Nat × Nat × Nat) :=
  let near (p : Nat × Nat × Nat × Nat) : Bool :=
    p.1 == o.head && p.2.1 == o.epoch && ((p.2.2.1 == o.track && o.first ≤ p.2.2.2) || (p.2.2.1 + 1 == o.track && o.first == 0))
  let inside (p : Nat × Nat × Nat × Nat) : Bool :=
    p.1 == o.head && p.2.1 == o.epoch && p.2.2.1 == o.track && o.first + o.count ≤ p.2.2.2
  if l.any inside then l
  else l.filter (fun p => !near p) ++ [(o.head, o.epoch, o.track, o.first + o.count)]

/-- Put an operation on the media: its zone shows, the heater is set (R121), the preamp takes the zone's write current and
overshoot (R120), the front end its settings (R94), a write's data are fetched (R119), a skew that is due is to be measured first (R123), and
STATE tells that it waits. -/
def State.beginOp (s : State) (x : Act) (o : LaneOp) : State :=
  let z := o.entry
  let due := o.opcode == 4 || (o.opcode == 2 && s.skewDue x o.head)
  let o := if o.opcode == 2 then s.fetchAhead x o 4 else o
  let o := { o with measure := if due then some ⟨none, 0, 0⟩ else none }
  let l := s.lane x
  let s := s.putLane x { l with ops := l.ops ++ [o], serial := l.serial + 1, heaterAt := if o.opcode == 2 then z.htrWrite else z.htrRead,
                                points := if o.opcode == 2 then pointsAfter l.points o else l.points, iw := z.iw, os := z.os, afe := s.afeFor x z z.vga, clock := s.bitClock z }
  let s := (s.emit (.aspFrame x false s.cal.writeCurrent z.iw)).emit (.aspFrame x false s.cal.overshoot z.os)
  let s := (s.emit (.aspFrame x false s.cal.heater (s.lane x).heaterAt)).set (Reg.CH_STATUS_ZONE x) o.zone
  s.set (Reg.CH_STATUS_STATE x) (if o.opcode == 2 then 3 else 5)

/-- Whether the lane takes its next entry (R127, R129): it is enabled and not aborting, an entry is there, nothing uses the
media, and the completion ring has room. -/
def State.canTake (s : State) (x : Act) : Bool :=
  s.fitted x && s.on (Reg.CH_CTRL_ENABLE x) && s.get (Reg.CH_STATUS_STATE x) != 6 && (s.mediaOp x).isNone &&
    0 < s.laneQueued x (s.get (Reg.CH_Q_PTR_QTAIL x)) && s.laneRoom x

/-- The lane takes the entry at QHEAD where its opcode is one of those asked for (R129): it starts, or completes at once with no
sector touched. -/
def State.takeOp (s : State) (x : Act) (pick : Nat → Bool) (f : LaneOp → State → State) : State :=
  let o := s.laneDecode x
  if s.canTake x && pick o.opcode && !s.rewritesFirst x o then
    let s := s.set (Reg.CH_Q_PTR_QHEAD x) ((s.get (Reg.CH_Q_PTR_QHEAD x) + 1) % 512)
    match s.opRefusal x o with
    | some e => (s.complete x { o with ended := some e }).laneRest x
    | none => f o (s.beginOp x o)
  else s

/-- LANE_READ (R129). It also takes the entries whose opcode is reserved, which complete with BAD_PARAMS. -/
def execLaneRead (x : Act) (s : State) : Host.Outcome State Fault Refusal :=
  ok (s.takeOp x (fun n => !(2 ≤ n && n ≤ 4)) fun _ s => s)

/-- LANE_WRITE (R119, R123): where the head's skew is due, it is measured before the first sector. -/
def execLaneWrite (x : Act) (s : State) : Host.Outcome State Fault Refusal :=
  ok (s.takeOp x (· == 2) fun _ s => s)

/-- LANE_READ_SAMPLES (R128). -/
def execLaneReadSamples (x : Act) (s : State) : Host.Outcome State Fault Refusal :=
  ok (s.takeOp x (· == 3) fun _ s => s)

/-- LANE_SKEW_MEASURE (R123, R128): the measurement runs over one revolution of the operation's track, from the sectors that pass. -/
def execLaneSkewMeasure (x : Act) (s : State) : Host.Outcome State Fault Refusal :=
  ok (s.takeOp x (· == 4) fun _ s => s)

/-- Decide a sector's status. -/
def State.decide (s : State) (x : Act) (serial k code : Nat) : State :=
  s.mapOp x serial fun o => { o with status := sIns o.status k code, good := o.good || code ≤ 0x02 }

/-- A revolution is lost (R101, R119). -/
def State.loseRev (s : State) (x : Act) (serial : Nat) : State :=
  (s.mapOp x serial fun o => { o with lost := o.lost + 1 }).inc (Reg.CH_COUNTS_LOST_REVS x)

/-- An event ends the operation on the media (R130, R133): the first event names the status, but an ABORT passes HEAD_OFF, and a
write inhibit passes an ABORT of the same tick. -/
def State.endOp (s : State) (x : Act) (serial status : Nat) : State :=
  s.mapOp x serial fun o =>
    match o.ended with
    | none => { o with ended := some status, endedTick := s.tick }
    | some e =>
      if (e == 0x05 && status == 0x04) || (e == 0x04 && status == 0x03 && o.endedTick == s.tick) then
        { o with ended := some status }
      else o

/-- The operation has finished with the media: the gate is low, and the heater returns to HTR_READ unless the next operation
is a write on the same head (R121). -/
def State.offMedia (s : State) (x : Act) (o : LaneOp) : State :=
  let next := s.laneDecode x
  let stay := 0 < s.laneQueued x (s.get (Reg.CH_Q_PTR_QTAIL x)) && next.opcode == 2 && next.head == o.head
  let s := s.mapOp x o.serial fun o => { o with media := false }
  let h := if stay then (s.lane x).heaterAt else o.entry.htrRead
  let s := if h = (s.lane x).heaterAt then s else s.emit (.aspFrame x false s.cal.heater h)
  let s := s.putLane x { s.lane x with passing := none, heaterAt := h }
  (s.set (Reg.CH_STATUS_WR_GATE x) 0).laneRest x

/-- An operation has nothing more to start (R129): it ended, every sector was started, or its measurement is over. -/
def LaneOp.isOver (o : LaneOp) : Bool :=
  o.ended.isSome || (if o.opcode == 4 then o.measure.isNone else o.count ≤ o.started.length)

/-- Take the operation off the media once it has nothing more to start and its last sector has passed (R129, R132). -/
def State.checkMedia (s : State) (x : Act) : State :=
  match s.mediaOp x with
  | some o => if o.isOver && (s.lane x).passing.isNone then s.offMedia x o else s
  | none => s

/-- The sector under the head has passed (R119, R129): the gate is low, and the operation may be through. -/
def State.endSector (s : State) (x : Act) : State :=
  match (s.lane x).passing with
  | none => s
  | some _ =>
    let s := (s.putLane x { s.lane x with passing := none }).set (Reg.CH_STATUS_WR_GATE x) 0
    let st := s.get (Reg.CH_STATUS_STATE x)
    (if st == 2 || st == 4 then s.set (Reg.CH_STATUS_STATE x) 5 else s).checkMedia x

/-- A wedge passes (R112, R113): a whole sector, and a fragment that was resumed, end before it; at the wedge that cuts a sector the gate is
low. -/
def State.wedgePass (s : State) (x : Act) : State :=
  match (s.lane x).passing with
  | none => s
  | some p =>
    if p.split && !p.atWedge then
      (s.putLane x { s.lane x with passing := some { p with atWedge := true } }).set (Reg.CH_STATUS_WR_GATE x) 0
    else s.endSector x

/-- The servo field is behind the head (R112): a cut sector goes on, with the gate raised again where it is written. The model takes the wedge's
position error, or its time limit, for that instant (DESIGN CHOICE; log 138). -/
def State.wedgeDone (s : State) (x : Act) : State :=
  match (s.lane x).passing with
  | none => s
  | some p =>
    if p.atWedge then
      (s.putLane x { s.lane x with passing := some { p with split := false, atWedge := false } }).set (Reg.CH_STATUS_WR_GATE x) (b2n p.write)
    else s

/-- A sector's place on its track by the layout of the operation's zone (R113), and where its gap stands after the wedge of its header. -/
def State.placeOf (s : State) (o : LaneOp) (sector : Nat) : Place :=
  ((o.entry.layout (s.get Reg.PMK_TICKCFG_WEDGES)).find? fun p => p.sector == sector).getD ⟨sector, 0, 0, 36864⟩

/-- The position of a sector's gap in T after the wedge of its header (R85, R112). -/
def State.gapAt (s : State) (o : LaneOp) (p : Place) : Int :=
  (p.pos : Int) - (o.entry.b (s.get Reg.PMK_TICKCFG_WEDGES) p.wedge : Nat)

/-- What of the registers bears on a sector that starts now (R83, R99, R109, R110, R134). -/
def State.sectorCfg (s : State) (x : Act) : SectorCfg where
  window := if s.get Reg.TCK_STATUS_SRC = 3 then 24 else 6
  tol := s.get (Reg.CH_SYNC_SYNC_TOL x)
  resyncTol := min 1 (s.get (Reg.CH_SYNC_RESYNC_TOL x))
  fallbackEn := s.on (Reg.CH_SYNC_FALLBACK_EN x)
  lms := ⟨s.on (Reg.CH_EQ_ADAPT_EN x), s.on (Reg.CH_EQ_TGT_ADAPT_EN x), s.get (Reg.CH_EQ_MU_EQ x), s.get (Reg.CH_EQ_MU_TGT x)⟩

/-- A head's calibrated skew in whole T, to the nearest (R85; DESIGN CHOICE; log 135). -/
def State.skewT (s : State) (x : Act) (head : Nat) : Int := (s.getS (Reg.CH_SKEW_SKEW x head) + 8) / 16

/-- The lane reads the signal of one of an operation's sectors (R85, R98 to R100, R109 to R111). -/
def State.readFrame (s : State) (x : Act) (o : LaneOp) (sector : Nat) (z : Zone) (taps : Taps) (sig : List Stretch) : Framed :=
  let p := s.placeOf o sector
  frameSector (s.sectorCfg x) z taps (s.gapAt o p) p.first (s.skewT x o.head) sig

/-- The front end takes the settings that stand at a sector's start (R134), and its gain adapts over the sector (R94). -/
def State.afeNext (s : State) (x : Act) (o : LaneOp) (samples : List Int) : State :=
  let l := s.lane x
  let a := s.afeFor x o.entry l.afe.gain
  s.putLane x { l with afe := { a with gain := min 144 (Config.vgaAdapt a.loop a.gain samples) }, clock := s.bitClock o.entry }

/-- A codeword of an operation's sector as the lane has read it, with its first LLRs (R100, R101). -/
def State.codewordOf (s : State) (x : Act) (o : LaneOp) (k : Nat) (kind : CwKind) (f : Framed) (info : List Nat) : Codeword where
  op := o.serial
  sector := k
  kind := kind
  head := o.head
  zone := o.zone
  track := o.track
  number := o.first + k
  epoch := o.epoch
  data := s.dataAt o k
  tagAt := o.tagArea + 16 * k
  statusAt := o.statusAt + k
  held := f.held
  framing := f.code
  taps := f.taps
  llrs := if f.code = 0 then detect f.taps [] (f.held.samples 0) else []
  pass := none
  info := info
  cfg := ⟨s.get (Reg.CH_RCPT_CFG_RAW_FAIL x), s.get (Reg.CH_RCPT_MARG_RAW_MARG x),
    max 1 (min 8 (s.get (Reg.CH_RCPT_CFG_RCPT_LOCAL x))), s.on (Reg.CH_RCPT_CFG_MARG_FAIL x), s.on (Reg.CH_RCPT_CFG_FALLBACK_FAIL x),
    s.on (Reg.CH_SYNC_FALLBACK_EN x)⟩

/-- Take a codeword out of a lane's store. -/
def State.freeStore (s : State) (x : Act) (c : Codeword) : State :=
  let l := s.lane x
  s.putLane x { l with store := l.store.filter fun d => !(d.op == c.op && d.sector == c.sector) }

/-- A failed sector in the recovery ladder (R106, R140): at rung 1, or at what rung 3 and its limits make of it. -/
def State.recPlace (s : State) (x : Act) (c : Codeword) (code : Nat) : RecPlace where
  lane := x.n
  head := c.head
  zone := c.zone
  track := c.track
  sector := c.number
  epoch := c.epoch
  code := code
  data := c.data
  tagAt := c.tagAt
  statusAt := c.statusAt
  sum := false
  reads := 0
  rung := if code ≤ 0x21 then 1 else 3
  revs := 0
  sinceMs := s.ms
  cmd := none
  early := false
  rebuilt := none
  foreign := if code == 0x24 then c.pass.toList.map fun q => infoIdentity q.info / 2 ^ 23 else []
  lpn := 2 ^ 48 - 1
  sect := 0
  entry := 0
  isOver := false

/-- What base firmware knows of a place's read: the host command that waits for it, and the parcel's sector. A command with LR has rung 6 at
hand-over (R397). -/
def State.claimPlace (s : State) (p : RecPlace) (cmd : Option Nat) (lpn sect : Nat) : RecPlace :=
  { p with cmd := cmd, lpn := lpn, sect := sect, entry := s.mapEntry lpn, sinceMs := s.ms,
           early := (cmd.bind fun n => sGet? s.host.cmds n).any fun c => bitOf (c.cap.cdw.getD 2 0) 31 }

/-- The places of the recovery store that are taken or on their way (R106). -/
def State.rcvUsed (s : State) : Nat :=
  s.acts.foldl (fun n y =>
    n + ((s.lane y).store.filter fun c => match c.kind with | .moving _ => true | _ => false).length) s.rcv.places.length

/-- A codeword's first pass failed with a code (R106, R131): with NO_RECOVERY nothing is kept; a full recovery store discards it
as 0x25, and the sector waits for a place to enter the ladder (R155); otherwise it is copied to the recovery store. -/
def State.handOver (s : State) (x : Act) (c : Codeword) (code : Nat) : State :=
  if ((s.lane x).ops.find? fun o => o.serial == c.op).any (·.noRec) then (s.freeStore x c).decide x c.op c.sector code
  else if 256 ≤ s.rcvUsed then
    ((s.freeStore x c).putRcv { s.rcv with queue := s.rcv.queue ++ [s.recPlace x c 0x25] }).decide x c.op c.sector 0x25
  else
    ((s.mapCodeword x c fun d => { d with kind := .moving code }).inc Reg.DEC_FP_FAIL_FP_FAIL).decide x c.op c.sector code

/-- A read sector starts: its signal is read, and it takes a store place, or, for read samples, its samples go to the sample area (R128). What
its framing misses goes to recovery with no first pass (R110, R111). The tap set of a reader-alone read is put back (R145). -/
def State.startRead (s : State) (x : Act) (o : LaneOp) (k : Nat) (sig : List Stretch) : State :=
  let p := s.placeOf o (o.first + k)
  let f := s.readFrame x o (o.first + k) o.entry o.taps sig
  let s := (s.afeNext x o (sig.flatMap (·.trail))).mapOp x o.serial fun o =>
    { o with started := o.started ++ [k], taps := f.taps, marks := o.marks.add f.skew }
  let s := s.putLane x { s.lane x with passing := some ⟨o.serial, k, false, (p.first < 36864 : Bool), false⟩ }
  let s := s.set (Reg.CH_STATUS_STATE x) 2
  if o.opcode == 3 then
    let s := match (s.lane x).aside with
      | some a => (s.putTapBytes x a.1 0 a.2).putLane x { s.lane x with aside := none }
      | none => s
    (s.store (s.dataAt o k) (f.held.toBytes.map (BitVec.ofNat 8))).decide x o.serial k 0x00
  else
    let c := s.codewordOf x o k .read f []
    let l := s.lane x
    let s := s.putLane x { l with store := l.store ++ [c] }
    let s := if f.lone then s.inc (Reg.CH_COUNTS_SYNC_FALLBACK x) else s
    if f.code = 0 then s else (s.countRead (surfaceOf x o.head)).handOver x c f.code

/-- The trailing reader's signal of a sector being written (R96): the leading input is blanked, and the feedthrough of the bits sent is taken
out. `at_` is where each fragment's first bit is written. -/
def receiptSignal (frags : List (List Bool)) (at_ : List Int) (sig : List Stretch) : List Stretch :=
  sig.zipIdx.map fun g =>
    { g.1 with lead := List.replicate g.1.trail.length 0,
               trail := cancelled (frags.getD g.2 []) (g.1.start - at_.getD g.2 0) g.1.trail }

/-- The taps that read a receipt (R96): the receipt taps for the trailing reader, the leading ones 0. -/
def Taps.forReceipt (t : Taps) : Taps := { t with lead := List.replicate 16 0, trail := t.receipt }

/-- A written sector starts (R119): the gate rises, the sector goes to the media as its fields and transitions (R108, R120), its receipt is read
and takes a store place, and the lane fetches on. -/
def State.startWrite (s : State) (x : Act) (o : LaneOp) (k : Nat) (sig : List Stretch) : State :=
  let sector := o.first + k
  let info := ((o.buffer.find? fun b => b.1 == k).map (·.2)).getD (s.fetchInfo x o k)
  let p := s.placeOf o sector
  let frags := sectorBits o.entry.gap p.first (ldpcEncode s.codeTable info)
  let f := s.readFrame x o sector { o.entry with delayInt := 0, delayFrac := 0 } o.taps.forReceipt
    (receiptSignal frags [s.gapAt o p, (o.entry.post : Int)] sig)
  let s := (s.afeNext x o (sig.flatMap (·.trail))).mapOp x o.serial fun o =>
    let o := { o with started := o.started ++ [k], buffer := o.buffer.filter fun b => b.1 != k,
                      taps := { o.taps with receipt := f.taps.trail, target := f.taps.target } }
    s.fetchAhead x o (k + 5)
  let c := s.codewordOf x o k .receipt f info
  let l := s.lane x
  let s := s.putLane x { l with store := l.store ++ [c], passing := some ⟨o.serial, k, true, (p.first < 36864 : Bool), false⟩ }
  let s := if f.lone then s.inc (Reg.CH_COUNTS_SYNC_FALLBACK x) else s
  let s := (s.set (Reg.CH_STATUS_WR_GATE x) 1).set (Reg.CH_STATUS_STATE x) 4
  s.emit (.sector (surfaceOf x o.head) o.track sector frags (frags.map (fragmentTransitions o.entry.pre1 o.entry.pre2)))

/-- Whether a sector is the next the operation may start: any of its range not started for a read, the lowest for a write
(R129). -/
def LaneOp.wants (o : LaneOp) (k : Nat) : Bool :=
  k < o.count && !o.started.contains k && (o.opcode != 2 || (List.range k).all fun j => o.started.contains j)

/-- A write sector comes under the head with its conditions judged (R119, R133). Where several of WRITE_HELD, DOMAIN_OFF and HEAD_OFF hold at
once, the first in this order ends the operation (DESIGN CHOICE; log 139). The data are read from DRAM under R421, and a bus error on them,
`dataError` or a word that cannot be corrected, makes the sector 0x40. -/
def State.tryWrite (s : State) (x : Act) (o : LaneOp) (k : Nat) (dataReady dataError : Bool) (sig : List Stretch) : State :=
  if s.on Reg.TCK_STATUS_WR_HOLD || !s.on (Reg.CH_CTRL_WRITE_EN x) then (s.endOp x o.serial 0x02).checkMedia x
  else if !s.pdOn (4 + x.n) then (s.endOp x o.serial 0x06).checkMedia x
  else if !s.bit (Reg.CH_CTRL_HEAD_EN x) o.head then (s.endOp x o.serial 0x05).checkMedia x
  else if s.inhibited x || !o.heater then s
  else if 32 ≤ (s.lane x).store.length then (s.set (Reg.CH_INT_STORE_FULL x) 1).loseRev x o.serial
  else if dataError || (s.unreadable s.phcOwns (s.dataAt o k) 4096 []).isSome then
    let s := ((s.eccRead (s.dataAt o k) 4096 []).mapOp x o.serial fun o => { o with started := o.started ++ [k] }).decide x o.serial k 0x40
    match (s.lane x).ops.find? fun p => p.serial == o.serial with
    | some o => s.offMedia x o
    | none => s
  else if !dataReady then s.loseRev x o.serial
  else (s.eccRead (s.dataAt o k) 4096 []).startWrite x o k sig

/-- At throttle step 3 at most two lanes run media operations at once, in turns of one revolution (R440): of the lanes with an operation, the
two whose turn the revolution is (DESIGN CHOICE; log 42). -/
def State.laneTurn (s : State) (x : Act) : Bool :=
  let l := s.acts.filter fun y => (s.mediaOp y).isSome
  let r := 2 * (s.tick / max 1 (s.get Reg.PMK_TICKCFG_WEDGES))
  s.get Reg.THM_STATUS_STEP < 3 || l.length ≤ 2 || l[r % l.length]? == some x || l[(r + 1) % l.length]? == some x

/-- A skew measurement goes on with a sector that passes (R123), and after one revolution it ends. One that finds no mark leaves the skew as it
stood, and counts toward retiring the head (R351). -/
def State.measureOn (s : State) (x : Act) (o : LaneOp) (m : SkewRun) (sector : Nat) (sig : List Stretch) : State :=
  if m.from_ == some sector then
    let k := 8 * x.n + o.head
    let n := if 0 < m.count then 0 else sGet s.cons.noMark k 0 + 1
    let s := { s with cons := { s.cons with noMark := sPut s.cons.noMark k n 0 } }
    (s.measureSkew x o.head m).mapOp x o.serial fun o => { o with measure := none }
  else
    let d := (s.readFrame x o sector o.entry o.taps sig).skew
    s.mapOp x o.serial fun o => { o with measure := some { m.add d with from_ := some (m.from_.getD sector) } }

/-- A read of the ladder waits (R147): the sector's identity check has failed, and the loop has not reported the head on track for two wedges
in a row. -/
def State.rereadWaits (s : State) (x : Act) (o : LaneOp) (sector : Nat) : Bool :=
  o.opcode == 3 && (s.lp x).onCount < 2 && s.rcv.places.any fun p =>
    p.2.lane == x.n && p.2.head == o.head && p.2.track == o.track && p.2.sector == sector && !p.2.foreign.isEmpty

/-- An operation takes a sector that comes under its head (R101, R119, R129). -/
def State.takeSector (s : State) (x : Act) (o : LaneOp) (sector : Nat) (dataReady dataError : Bool) (sig : List Stretch) : State :=
  let k := sector - o.first
  if sector < o.first || !o.wants k then s
  else if o.opcode == 2 then s.tryWrite x o k dataReady dataError sig
  else if !s.bit (Reg.CH_CTRL_HEAD_EN x) o.head then (s.endOp x o.serial 0x05).checkMedia x
  else if o.opcode != 3 && 32 ≤ (s.lane x).store.length then (s.set (Reg.CH_INT_STORE_FULL x) 1).loseRev x o.serial
  else if s.rereadWaits x o sector then s
  else s.startRead x o k sig

/-- SECTOR_START (R85, R101, R119, R123, R129): a sector comes under the active head, with whether its write data has arrived or failed with a bus
error, and the readers' signal as it passes, which the model takes at once (DESIGN CHOICE; log 138). The sector before it has passed. -/
def execSectorStart (x : Act) (sector : Nat) (dataReady dataError : Bool) (sig : List Stretch) (s : State) :
    Host.Outcome State Fault Refusal :=
  if !s.fitted x then ok s
  else
    let s := (s.set (Reg.CH_STATUS_SECTOR x) sector).endSector x
    match s.mediaOp x with
    | none => ok s
    | some o =>
      if o.ended.isSome then ok (s.checkMedia x)
      else if !s.laneTurn x then ok s
      else if !s.laneMatch x o then
        ok (if s.get (Reg.CH_STATUS_STATE x) == 6 then s else s.set (Reg.CH_STATUS_STATE x) 5)
      else
        match o.measure with
        | none => ok (s.takeSector x o sector dataReady dataError sig)
        | some m =>
          let s := (s.measureOn x o m sector sig).checkMedia x
          match s.mediaOp x with
          | some o => if o.measure.isNone then ok (s.takeSector x o sector dataReady dataError sig) else ok s
          | none => ok s

/-- HTR_LEAD µs have passed since the write heater was set (R121): the operation may write. -/
def execHeaterLeadElapsed (x : Act) (us : Nat) (s : State) : Host.Outcome State Fault Refusal :=
  match s.mediaOp x with
  | some o =>
    if o.opcode == 2 && !o.heater && s.get (Reg.CH_HTR_HTR_LEAD x) ≤ us then
      let s := s.mapOp x o.serial fun o => { o with heater := true }
      ok (if s.get (Reg.CH_STATUS_STATE x) == 3 then s.set (Reg.CH_STATUS_STATE x) 5 else s)
    else ok s
  | none => ok s

/-- A write inhibit reaches the lane (R122): the gate falls; the sector being written is 0x12 unless the inhibit came in its
last 4 T (R133); the operation, once it has written, ends with OFFTRACK. One that still waits for its head or track goes on waiting (DEDUCED from
R129; log 110). -/
def execWriteInhibitReceived (x : Act) (lastFourT : Bool) (s : State) : Host.Outcome State Fault Refusal :=
  match s.mediaOp x with
  | some o =>
    if o.opcode == 2 && !o.started.isEmpty then
      let l := s.lane x
      let s := (s.putLane x { l with passing := none }).set (Reg.CH_STATUS_WR_GATE x) 0
      let s := match l.passing with
        | some p =>
          if lastFourT then s
          else
            (s.putLane x { s.lane x with store := l.store.filter fun c => !(c.op == o.serial && c.sector == p.sector) }).decide
              x o.serial p.sector 0x12
        | none => s
      ok ((s.endOp x o.serial 0x03).checkMedia x)
    else ok s
  | none => ok s

/-- The oldest codeword of a kind of a lane's store at a sector number. -/
def State.findCodeword (s : State) (x : Act) (sector : Nat) (kind : CwKind) : Option Codeword :=
  (s.lane x).store.find? fun c => c.kind == kind && c.number == sector

/-- The pool works on until a codeword's pass is over (R104, R105): the half that holds it, else the one named. -/
def State.decodeOn (s : State) (x : Act) (c : Codeword) (half : Nat) : State :=
  let isDone (s : State) : Bool := !(s.lane x).store.any fun d => d.op == c.op && d.sector == c.sector && d.pass.all fun p => p.fin == .running
  State.poolRun ((c.pass.map (·.half)).getD half) isDone poolSteps s

/-- A sector is known to have passed once something of it ends. -/
def State.passedBy (s : State) (x : Act) (c : Codeword) : State :=
  if (s.lane x).passing.any fun p => p.op == c.op && p.sector == c.sector then s.endSector x else s

/-- A mirror copy that a lane delivers to the addresses of a place at rung 6 is what rung 6 delivers there (R148). -/
def State.mirrorServes (s : State) (x : Act) (c : Codeword) (body : List Nat) : State :=
  (s.sixPlaces (· == c.data)).foldl (fun s p => if p.2.lane == x.n then s else s.sixDelivers p.1 p.2 (body.take 4096) true) s

/-- FIRST_PASS_DONE (R104, R118): the first pass of a read sector ends on a half: delivered, where its codeword converges and passes its checks,
unless the delivery meets a bus error; else handed over with the failure found. -/
def execFirstPassDone (x : Act) (sector half : Nat) (busErr : Bool) (s : State) : Host.Outcome State Fault Refusal :=
  match s.findCodeword x sector .read with
  | none => ok s
  | some c =>
    let s := (s.passedBy x c).decodeOn x c half
    match (s.lane x).store.find? fun d => d.op == c.op && d.sector == c.sector with
    | none => ok s
    | some c =>
      match c.pass with
      | none => ok s
      | some p =>
        match p.fin with
        | .running => ok s
        | .failed => ok ((s.countRead (surfaceOf x c.head)).handOver x c 0x20)
        | .converged =>
          let s := s.countRead (surfaceOf x c.head)
          let v := judge (surfaceOf x c.head) c.track c.number c.epoch p.info
          if 2 < v then ok (s.handOver x c v)
          else
            let s := s.freeStore x c
            if busErr then ok (s.decide x c.op c.sector 0x40)
            else
              let body := bodyAt (surfaceOf x c.head) c.track c.number p.info
              ok (((s.deliverTo c.data c.tagAt body).mirrorServes x c body).decide x c.op c.sector v)

/-- The lowest free place of the recovery store: the spec names none (R106; DESIGN CHOICE; log 137). -/
def State.freeRcv (s : State) : Option Nat := (List.range 256).find? fun k => (sGet? s.rcv.places k).isNone

/-- The failure code of a codeword that moves to the recovery store (R106). -/
def CwKind.code : CwKind → Option Nat
  | .moving n => some n
  | _ => none

/-- A place of the recovery store is taken by a sector: rungs 1 and 2 begin, or the ladder goes on at rung 3 or, as REREADS and the limits have
it, above. -/
def State.takePlace (s : State) (k : Nat) (p : RecPlace) : State :=
  if p.rung = 1 then
    let a := s.rcvAt k
    s.putRcv { s.rcv with places := sIns s.rcv.places k p, work := s.rcv.work ++ [newWork 0xFFFF k 0xFF 0 a 1 (s.startsOf p 0 a)] }
  else s.ladderOn k p 0

/-- RECOVERY_STORE_COPY_DONE (R106, R140): a failed codeword's copy into the recovery store ends: its samples stand in the place, its lane place is
free, and the ladder starts on it. A sector that found the store full enters the ladder at rung 3 once a place is free (R155), with nothing held.
`cmd` is the host command that waits for the sector, `lpn` and `sect` the parcel's sector it is: base firmware, which posted the read, knows them
(log 137). -/
def execRecoveryStoreCopyDone (x : Act) (sector : Nat) (cmd : Option Nat) (lpn sect : Nat) (s : State) : Host.Outcome State Fault Refusal :=
  match (s.lane x).store.find? (fun c => c.kind.code.isSome && c.number == sector), s.freeRcv with
  | some c, some k =>
    let p := s.claimPlace (s.recPlace x c (c.kind.code.getD 0)) cmd lpn sect
    let s := (s.store (s.rcvAt k) (c.held.toBytes.map (BitVec.ofNat 8))).freeStore x c
    ok (s.takePlace k p)
  | none, some k =>
    match s.rcv.queue.find? fun q => q.lane == x.n && q.sector == sector with
    | some q =>
      if 256 ≤ s.rcvUsed then ok s
      else
        let p := s.claimPlace q cmd lpn sect
        ok ((s.putRcv { s.rcv with queue := s.rcv.queue.erase q }).takePlace k p)
    | none => ok s
  | _, none => ok s

/-- A half starts a frame of 64 units (R105): what waited has had the units left of the last one. -/
def execDecoderFrameStart (half : Nat) (s : State) : Host.Outcome State Fault Refusal :=
  if half < 2 then ok ((State.poolRun half (fun s => s.unitsLeft half = 0) poolSteps s).startFrame half) else ok s

/-- The judgement of a receipt (R136): 0 good, 1 marginal, 2 failed, as a marginal one is under MARG_FAIL (log 118). -/
def receiptOutcome (x : Act) (c : Codeword) (raw : Nat) : Nat :=
  let lone := c.held.primary.isNone
  if c.framing != 0 || (lone && c.cfg.fallbackFail) then 2
  else
    match c.pass with
    | none => 2
    | some p =>
      if p.fin != .converged || p.info != c.info || 2 < judge (surfaceOf x c.head) c.track c.number 0 p.info || c.cfg.rawFail < raw then 2
      else if lone || c.cfg.rawMarg < raw then
        if c.cfg.margFail then 2 else 1
      else 0

/-- A receipt's raw errors (R136): the detector's decisions against the decoded codeword. -/
def Codeword.raw (c : Codeword) : Nat := (c.pass.map fun p => rawErrors c.llrs p.dec.blocks).getD 0

/-- RECEIPT_DECIDED (R136 to R139): status 0x01 or 0x10, the counts, and CH_RCPT_LAST. A sector that is not placed is kept for
its rewrite; one that is now placed leaves that list. -/
def execReceiptDecided (x : Act) (sector half : Nat) (s : State) : Host.Outcome State Fault Refusal :=
  match s.findCodeword x sector .receipt with
  | none => ok s
  | some c =>
    let s := s.passedBy x c
    let s := if c.framing = 0 then s.decodeOn x c half else s
    match (s.lane x).store.find? fun d => d.op == c.op && d.sector == c.sector with
    | none => ok s
    | some c =>
      if c.framing = 0 && c.pass.all fun p => p.fin == .running then ok s
      else
        let v := receiptOutcome x c c.raw
        let iter := (c.pass.map (·.iters)).getD 0
        let s := s.setAll [(Reg.CH_RCPT_LAST_RAW_ERR x, min 65535 c.raw), (Reg.CH_RCPT_LAST_ITER x, iter), (Reg.CH_RCPT_LAST_SECTOR x, sector)]
        let s := if v = 1 then s.inc (Reg.CH_RCPT_COUNT_MARGINAL x) else if v = 2 then s.inc (Reg.CH_RCPT_COUNT_FAILED x) else s
        ok ((s.freeStore x c).decide x c.op c.sector (if v = 2 then 0x10 else 0x01))

/-- The sectors of a write that are not placed, kept for their rewrite (R139), and those placed, forgotten. -/
def State.noteNotPlaced (s : State) (x : Act) (o : LaneOp) : State :=
  if o.opcode != 2 then s
  else
    (List.range o.count).foldl (fun s k =>
      let l := s.lane x
      let here (p : NotPlaced) : Bool := p.head == o.head && p.track == o.track && p.sector == o.first + k
      let old := l.notPlaced.find? here
      let rest := l.notPlaced.filter fun p => !here p
      let st := o.sectorStatus k
      if st == 0x10 || st == 0x12 then
        s.putLane x { l with notPlaced := rest ++ [⟨o.head, o.zone, o.track, o.first + k, o.epoch, o.dataList + 8 * k,
          o.tagArea + 16 * k, o.statusAt + k, match old with | some p => p.tries | none => 0⟩] }
      else if st == 0x01 then s.putLane x { l with notPlaced := rest }
      else s) s

/-- Write adapted values back to tap memory (R99, R126): the 2-D taps and the target after a read, the receipt taps after a
write, where a sector was good at first pass. -/
def State.writeTaps (s : State) (x : Act) (o : LaneOp) : State :=
  let b (l : List Int) : List Nat := l.map fun v => unsigned 8 (tapOf v)
  let e := tapEntry o.head o.zone
  if !s.on (Reg.CH_EQ_ADAPT_EN x) || !o.good then s
  else if o.opcode == 1 then s.putTapBytes x e 0 (b (o.taps.lead ++ o.taps.trail ++ o.taps.target))
  else if o.opcode == 2 then s.putTapBytes x e 104 (b o.taps.receipt)
  else s

/-- A sector that is reallocated in place learns how its write or its read back ended (R153). -/
def State.noteMove (s : State) (x : Act) (o : LaneOp) : State :=
  s.putRcv { s.rcv with moves := s.rcv.moves.map fun m =>
    if m.place.lane == x.n && m.serial == o.serial && m.status.isNone then { m with status := some (o.sectorStatus 0) } else m }

/-- LANE_OPERATION_COMPLETE (R99, R123, R129 to R131): the taken operation at a place, counted from the oldest, completes once
it is off the media and nothing of it is outstanding; every read updates its head's skew from the marks it found. -/
def execLaneOperationComplete (x : Act) (k : Nat) (s : State) : Host.Outcome State Fault Refusal :=
  match (s.lane x).ops[k]? with
  | none => ok s
  | some o =>
    let out := (s.lane x).store.any fun c => c.op == o.serial && c.firstPass
    if o.media || out then ok s
    else
      let s := (s.writeTaps x o).noteNotPlaced x o
      let s := if o.opcode == 1 || o.opcode == 3 then s.measureSkew x o.head o.marks else s
      let l := s.lane x
      let s := s.putLane x { l with ops := l.ops.filter fun p => p.serial != o.serial }
      ok (((s.noteMove x o).complete x o).abortOn x)

/-- A lane aborts (R132). -/
def State.laneAbort (s : State) (x : Act) : State :=
  let s := s.set (Reg.CH_STATUS_STATE x) 6
  let s := match s.mediaOp x with
    | some o => (s.endOp x o.serial 0x04).checkMedia x
    | none => s
  s.abortOn x

/-- ABORT written 1 (R132). -/
def execLaneAbort (i : Initiator) (x : Act) (s : State) : Host.Outcome State Fault Refusal :=
  ok (s.access i x.laneBase 4 fun s => { s.laneAbort x with bus := .written })

/-- Bits of HEAD_EN cleared (R132): the operation on such a head ends at the next sector boundary with HEAD_OFF. -/
def execHeadEnClear (i : Initiator) (x : Act) (mask : Nat) (s : State) : Host.Outcome State Fault Refusal :=
  ok (s.access i x.laneBase 4 fun s =>
    let v := (List.range 8).foldl (fun v h => if bitOf mask h then Sys2Proof.setBit v h false else v) (s.get (Reg.CH_CTRL_HEAD_EN x))
    let s := s.set (Reg.CH_CTRL_HEAD_EN x) v
    let s := match s.mediaOp x with
      | some o => if bitOf mask o.head then s.endOp x o.serial 0x05 else s
      | none => s
    { s with bus := .written })

/-- Word `w` of a zone entry's address. -/
def zoneAddr (x : Act) (k w : Nat) : Nat := x.laneBase + 0x4000 + 32 * k + 4 * w

/-- Word 0 of a zone entry written with VALID 1 (R114): the check starts; the entry becomes valid only where it passes. -/
def execZoneEntryValidate (i : Initiator) (x : Act) (k v : Nat) (s : State) : Host.Outcome State Fault Refusal :=
  ok (s.access i (zoneAddr x k 0) 4 fun s =>
    let s := s.setAll [(Reg.CH_ZONE_VALID x k, 0), (Reg.CH_ZONE_LAYOUT x k, bitsOf v 30 30),
      (Reg.CH_ZONE_START_TRACK x k, bitsOf v 23 0)]
    let l := s.lane x
    { s.putLane x { l with checking := if l.checking.contains k then l.checking else l.checking ++ [k] } with bus := .written })

/-- The check ends (R114). -/
def execZoneEntryCheckDone (x : Act) (k : Nat) (s : State) : Host.Outcome State Fault Refusal :=
  let l := s.lane x
  if l.checking.contains k then
    let s := s.putLane x { l with checking := l.checking.filter (· != k) }
    if s.zoneOk x k then ok ((s.set (Reg.CH_ZONE_VALID x k) 1).set (Reg.CH_ZONE_ENTRY_ERR x k) 0) else ok (s.zoneFail x k)
  else ok s

/-- Another word of a zone entry written, or word 0 with VALID 0 (R114): VALID clears. -/
def execZoneEntryInvalidate (i : Initiator) (x : Act) (k w v : Nat) (s : State) : Host.Outcome State Fault Refusal :=
  ok (s.access i (zoneAddr x k w) 4 fun s =>
    let s := s.putWord (zoneAddr x k w) v fun f => f.acc == .rw
    let l := s.lane x
    let s := s.putLane x { l with checking := l.checking.filter (· != k) }
    { s.set (Reg.CH_ZONE_VALID x k) 0 with bus := .written })

/-- A codeword that a half held starts its pass again (R107). -/
def Codeword.again (half : Nat) (c : Codeword) : Codeword :=
  match c.pass with
  | some p => if p.half == half && p.fin == .running then { c with pass := none } else c
  | none => c

/-- What a half held starts again (R107, R155): the codewords of the lanes, and the works of the recovery class from their beginning. -/
def State.releaseHalf (s : State) (half : Nat) : State :=
  let s := s.acts.foldl (fun s y =>
    let l := s.lane y
    s.putLane y { l with store := l.store.map (Codeword.again half) }) s
  s.restartWork half

/-- A half is lost (R107): captured, IN_SERVICE and DEC_HALVES cleared, FAULT and the interrupt set. Its codewords start their
first pass again on the other half. -/
def execDecoderHalfLoss (half : Nat) (s : State) : Host.Outcome State Fault Refusal :=
  if half < 2 && s.bit Reg.DEC_STATUS_IN_SERVICE half then
    let s := (s.setHalf half false).setBit Reg.DEC_STATUS_FAULT half true
    let s := s.set (if half = 0 then Reg.DEC_INT_HALF0_LOST else Reg.DEC_INT_HALF1_LOST) 1
    ok ((s.releaseHalf half).event 0x14 0x08 0 0x14)
  else ok s

/-- HALFn_EN (R135). -/
def halfEn (half : Nat) : Fld := if half = 0 then Reg.DEC_CTRL_HALF0_EN else Reg.DEC_CTRL_HALF1_EN

/-- HALFn_EN written 1 (R107): the half returns at its next frame; a lost half's write is ignored and reported. -/
def execDecoderHalfEnable (i : Initiator) (half : Nat) (s : State) : Host.Outcome State Fault Refusal :=
  ok (s.access i 0x40140000 4 fun s =>
    if s.bit Reg.DEC_STATUS_FAULT half then s.ignored i 0x40140000
    else
      let s := s.set (halfEn half) 1
      let r := if s.bit Reg.DEC_STATUS_IN_SERVICE half || s.dec.returning.contains half then s.dec.returning
        else s.dec.returning ++ [half]
      { s with dec := { s.dec with returning := r }, bus := .written })

/-- HALFn_EN written 0 (R107): the half goes out of service, unless no half would be left enabled. -/
def execDecoderHalfDisable (i : Initiator) (half : Nat) (s : State) : Host.Outcome State Fault Refusal :=
  ok (s.access i 0x40140000 4 fun s =>
    let other := 1 - half
    if !s.on (halfEn other) || s.bit Reg.DEC_STATUS_FAULT other then s.ignored i 0x40140000
    else
      let s := ((s.set (halfEn half) 0).setHalf half false).releaseHalf half
      { s with dec := { s.dec with returning := s.dec.returning.filter (· != half) }, bus := .written })

end Sys2Proof.Machine
end

