-- ==== Sys2Proof/Machine/Ladder.lean ====
section
/-!
DEFINITION. Read recovery and reallocation (R139 to R159): the decode jobs and their results, the ends of the ladder's rungs, and the sectors that
are written again, moved, or replaced.
-/
namespace Sys2Proof.Machine

/-- Jobs posted and not taken, with a tail (R158). -/
def State.jobsQueued (s : State) (tail : Nat) : Nat := (tail + 512 - s.get Reg.DEC_RJ_PTR_RJHEAD) % 512

/-- Word `k` of the job at a place of the ring (R159). -/
def State.jobWord (s : State) (ring k : Nat) : Nat :=
  s.dword (s.get Reg.DEC_RJ_BASE_LO_BASE_LO * 2 ^ 13 + 2 ^ 32 * s.get Reg.DEC_RJ_BASE_HI_BASE_HI + 32 * (ring % 256) + 4 * k)

/-- The rungs noted, with that of the place of the job at a place of the ring. -/
def State.postOf (s : State) (m : Sparse Nat) (ring : Nat) : Sparse Nat :=
  match sGet? s.rcv.places (bitsOf (s.jobWord ring 1) 31 24) with
  | some p => sIns m (ring % 256) p.rung
  | none => m

/-- Base firmware notes the rung of the place of each job it posts (R159). -/
def State.latchJobs (s : State) (from_ n : Nat) : State :=
  s.putRcv { s.rcv with posts := (List.range n).foldl (fun m i => s.postOf m (from_ + i)) s.rcv.posts }

/-- RJTAIL written (R158): refused beyond 256 jobs outstanding. -/
def execRecoveryJobPost (i : Initiator) (tail : Nat) (s : State) : Host.Outcome State Fault Refusal :=
  ok (s.access i 0x40140028 4 fun s =>
    let old := s.get Reg.DEC_RJ_PTR_RJTAIL
    if 256 < s.jobsQueued (tail % 512) then s.ignored i 0x40140028
    else { (s.latchJobs old ((tail + 512 - old) % 512)).set Reg.DEC_RJ_PTR_RJTAIL tail with bus := .written })

/-- The result ring has room for one result more than the jobs under decode will write (R158). -/
def State.resultRoom (s : State) : Bool :=
  (s.get Reg.DEC_RR_PTR_RRTAIL + 512 - s.get Reg.DEC_RR_PTR_RRHEAD) % 512 + (s.rcv.work.filter fun w => w.kind != 0).length < 256

/-- Write a result (R159): tag, result, place, units, rung, slip and the least syndrome weight. -/
def State.jobResult (s : State) (tag result place units rung : Nat) (slip : Int) (synd : Nat) : State :=
  let t := s.get Reg.DEC_RR_PTR_RRTAIL
  let base := s.get Reg.DEC_RR_BASE_LO_BASE_LO * 2 ^ 12 + 2 ^ 32 * s.get Reg.DEC_RR_BASE_HI_BASE_HI
  let s := s.storeWords (base + 16 * (t % 256))
    [tag % 2 ^ 16 * 2 ^ 16 + result % 256 * 2 ^ 8 + place % 256, units % 2 ^ 16 * 2 ^ 16 + rung % 16 * 2 ^ 12 + unsigned 8 slip,
     s.tickLo, synd % 2 ^ 16 * 2 ^ 16]
  s.set Reg.DEC_RR_PTR_RRTAIL ((t + 1) % 512)

/-- A work in the recovery class, as the pool runs it now. -/
def State.workNow (s : State) (w : Work) : Option Work := s.rcv.work.find? fun v => v.kind == w.kind && v.tag == w.tag && v.place == w.place

/-- The pool works on until a work has ended (R105). -/
def State.runWork (s : State) (w : Work) (half : Nat) : State :=
  State.poolRun (w.half.getD half) (fun s => (s.workNow w).all fun v => v.fin.isSome) poolSteps s

/-- A work leaves the pool. -/
def State.dropWork (s : State) (w : Work) : State := s.putRcv { s.rcv with work := s.rcv.work.erase w }

/-- Rungs 1 and 2 ended on a hand-over (R140 to R143): delivered, or the ladder goes on; the result has tag 0xFFFF. -/
def State.heldEnd (s : State) (w : Work) (e : WorkEnd) : State :=
  let s := s.dropWork w
  match sGet? s.rcv.places w.place with
  | none => s
  | some p =>
    match e.info with
    | some info => (s.ladderDelivers w.place 0xFF p e.rung info).jobResult 0xFFFF 0x00 w.place w.units e.rung e.slip 0
    | none =>
      (s.ladderOn w.place { p with foreign := p.foreign ++ e.foreign.eraseDups } 0).jobResult 0xFFFF 0x01 w.place w.units 0 e.slip e.synd

/-- HELD_SAMPLE_RUNGS_DONE (R140 to R143, R158): rungs 1 and 2 end on a hand-over. -/
def execHeldSampleRungsDone (place half : Nat) (s : State) : Host.Outcome State Fault Refusal :=
  match s.rcv.work.find? fun w => w.kind == 0 && w.place == place with
  | none => ok s
  | some w =>
    let s := s.runWork w half
    match s.workNow w with
    | none => ok s
    | some w =>
      match w.fin with
      | some e => if s.resultRoom then ok (s.heldEnd w e) else ok s
      | none => ok s

/-- The sorting office is told of a misplaced write (R147, R307): the band that holds the position is suspect. -/
def State.foreignTold (s : State) (p : RecPlace) : State :=
  let k := placeArea (entLoc p.entry)
  let b := s.band k
  if !entSC p.entry || bitsOf (entLoc p.entry) 30 26 != p.surface then s
  else if b.state == 2 then (s.closeGroup b.group).setBands [(k, { (s.closeGroup b.group).band k with state := 4 })]
  else if b.state == 3 then s.setBands [(k, { b with state := 4 })]
  else s

/-- A job's decode ended (R141, R144, R147, R159): delivered; a foreign identity that an earlier read delivered too; or not delivered, with the
ladder a revolution further on where the job was a read. -/
def State.jobEnd (s : State) (w : Work) (e : WorkEnd) : State :=
  let s := s.dropWork w
  match sGet? s.rcv.places w.place with
  | none => s.jobResult w.tag 0x05 w.place 0 0 0 0
  | some p =>
    let f := e.foreign.eraseDups
    let q := { p with foreign := p.foreign ++ f }
    match e.info with
    | some info => (s.ladderDelivers w.place w.sum p (max 3 (min 5 w.posted)) info).jobResult w.tag 0x00 w.place w.units 0 e.slip 0
    | none =>
      if w.kind == 1 && f.any p.foreign.contains then
        ((s.toSix w.place q).foreignTold q).jobResult w.tag 0x03 w.place w.units 0 e.slip e.synd
      else
        let s := if w.kind == 1 && p.rung != 6 then s.ladderOn w.place q (p.revs + 1) else s.putPlace w.place q
        s.jobResult w.tag 0x01 w.place w.units 0 e.slip e.synd

/-- The samples of a read as the running sum takes them (R144): aligned on the primary mark, else on the fallback mark, else on the predicted
start. Where the fallback mark did not frame the sector the samples begin at the predicted start. -/
def State.alignedRead (s : State) (p : RecPlace) (h : Held) : Held :=
  match h.primary, h.fallback with
  | none, some f =>
    if s.on (Reg.CH_SYNC_FALLBACK_EN (Act.num p.lane)) then h else { h with one := slice h.one 0 f h.one.length }
  | _, _ => h

/-- Two sums of samples. -/
def addHeld (a b : Held) : Held := { a with one := a.one.zipWith (· + ·) b.one, two := a.two.zipWith (· + ·) b.two }

/-- Whether the ladder adds a read to the running sum (R145, R146): not where one reader read alone, nor at an offset. -/
def State.summed (s : State) (p : RecPlace) : Bool :=
  p.revs < s.rcv.policy.rereads + s.rcv.policy.combineRevs && (s.rcv.policy.alone p.revs).isNone

/-- Add a read to the running sum in its place (R144). The sum begins with the samples of the hand-over where it brought a whole sector (DEDUCED
from the worked example, where the average after five reads is of six; log 137). -/
def State.addRead (s : State) (place sum area : Nat) (p : RecPlace) : State :=
  if sum = 0xFF || sum = place || !s.summed p then s
  else
    let read := s.alignedRead p (s.heldAt area)
    let a := s.rcvAt sum
    let whole := p.code == 0x20 || p.code == 0x21 || p.code == 0x23 || p.code == 0x24
    match sGet? s.rcv.places sum with
    | some q =>
      if !q.sum then s
      else (s.store a ((sumBytes (addHeld (s.sumAt a) read) (q.reads + 1)).map (BitVec.ofNat 8))).putPlace sum { q with reads := q.reads + 1 }
    | none =>
      let h := if whole then addHeld (s.alignedRead p (s.heldAt (s.rcvAt place))) read else read
      let n := if whole then 2 else 1
      (s.store a ((sumBytes h n).map (BitVec.ofNat 8))).putPlace sum { p with sum := true, reads := n }

/-- The pool takes the job at RJHEAD where its KIND is one of those asked for and the result ring has room (R158): KIND, tag, place, sum, area,
and the rung noted at its post. -/
def State.takeJob (s : State) (pick : Nat → Bool) (f : Nat → Nat → Nat → Nat → Nat → Nat → State → State) : State :=
  if s.jobsQueued (s.get Reg.DEC_RJ_PTR_RJTAIL) = 0 || !s.resultRoom || !s.on Reg.DEC_STATUS_IN_SERVICE then s
  else
    let h := s.get Reg.DEC_RJ_PTR_RJHEAD
    let w := s.jobWord h
    let kind := bitsOf (w 0) 31 28
    if pick kind then
      f kind (bitsOf (w 0) 15 0) (bitsOf (w 1) 31 24) (bitsOf (w 1) 23 16) (w 2 + 2 ^ 32 * w 3) (sGet s.rcv.posts (h % 256) 3)
        (s.set Reg.DEC_RJ_PTR_RJHEAD ((h + 1) % 512))
    else s

/-- A decode job begins (R144, R145, R159): its place holds a hand-over, or it is a bad job. -/
def State.beginJob (s : State) (kind tag place sum area posted : Nat) : State :=
  match sGet? s.rcv.places place with
  | none => s.jobResult tag 0x05 place 0 0 0 0
  | some p =>
    let area := if kind == 2 then s.rcvAt sum else area
    if p.sum || (kind == 2 && !(sGet? s.rcv.places sum).any (·.sum)) then s.jobResult tag 0x05 place 0 0 0 0
    else
      let s := if kind == 1 then s.addRead place sum area p else s
      s.putRcv { s.rcv with work := s.rcv.work ++ [newWork tag place sum kind area posted (s.startsOf p kind area)] }

/-- The oldest decode job of a kind runs to its end. -/
def State.runJob (s : State) (kind half : Nat) : State :=
  match s.rcv.work.find? fun w => w.kind == kind with
  | none => s
  | some w =>
    let s := s.runWork w half
    match s.workNow w with
    | none => s
    | some w =>
      match w.fin with
      | some e => s.jobEnd w e
      | none => s

/-- DECODE_SAMPLE_AREA (R144, R159): a job of KIND 0x1 runs to its end; one of a reserved kind gets RESULT 0x05. -/
def execDecodeSampleArea (half : Nat) (s : State) : Host.Outcome State Fault Refusal :=
  if s.rcv.work.any fun w => w.kind == 1 then ok (s.runJob 1 half)
  else
    ok ((s.takeJob (fun k => k != 2 && k != 3) fun kind tag place sum area posted s =>
      if kind == 1 then s.beginJob 1 tag place sum area posted else s.jobResult tag 0x05 place 0 0 0 0).runJob 1 half)

/-- DECODE_RUNNING_SUM (R145, R159). -/
def execDecodeRunningSum (half : Nat) (s : State) : Host.Outcome State Fault Refusal :=
  if s.rcv.work.any fun w => w.kind == 2 then ok (s.runJob 2 half)
  else ok ((s.takeJob (· == 2) fun _ tag place sum area posted s => s.beginJob 2 tag place sum area posted).runJob 2 half)

/-- The ladder and rung 6 both failed (R151): counted and recorded, the parcel's sector is unreadable, and a host command that waits for it is to
complete with Unrecovered Read Error. -/
def State.ladderFails (s : State) (p : RecPlace) : State :=
  let s := (s.ladderEnd p 7).listUnreadable p.lpn p.sect
  match p.cmd with
  | some n => s.putRcv { s.rcv with lost := s.rcv.lost ++ [(n, p.lpn, p.sect)] }
  | none => s

/-- CANCEL_JOB (R148, R151, R159): PLACE and SUM_PLACE are free. A place at rung 6 that nothing was delivered to ends its ladder there. -/
def execCancelJob (s : State) : Host.Outcome State Fault Refusal :=
  ok (s.takeJob (· == 3) fun _ tag place sum _ _ s =>
    match sGet? s.rcv.places place with
    | none => s.jobResult tag 0x05 place 0 0 0 0
    | some p =>
      if p.sum then s.jobResult tag 0x05 place 0 0 0 0
      else
        let s := if p.rung == 6 && !p.isOver then s.ladderFails p else s
        let s := s.freePlaceRcv place
        let s := if sum = 0xFF then s else s.freePlaceRcv sum
        s.jobResult tag 0x04 place 0 0 0 0)

/-- A parcel's sector can be had without a surface (R347): from the other copy in the first-class region, else by rebuilding it, where at most m
members of its group are missing with this one. -/
def State.canRebuild (s : State) (lpn sect surface : Nat) : Bool :=
  let e := s.mapEntry lpn
  let fc := if entFC e then (sGet? s.office.fc lpn).filter fun f => bitOf f.mask (sect % 64) else none
  match fc with
  | some f => [bitsOf f.locA 30 26, bitsOf f.locB 30 26].any fun x => x != surface && !s.gone x
  | none =>
    entSC e && match sGet? s.office.groups (s.band (placeArea (entLoc e))).group with
      | some g => (g.areas.filter fun a => a.1 != surface && s.memberGone a).length + 1 ≤ s.layoutKM.2
      | none => false

/-- A parcel's sector on the media can be read or rebuilt (R346, R347). -/
def State.reachable (s : State) (lpn sect : Nat) : Bool :=
  let e := s.mapEntry lpn
  match (if entFC e then (sGet? s.office.fc lpn).filter fun f => bitOf f.mask (sect % 64) else none) with
  | some f => [bitsOf f.locA 30 26, bitsOf f.locB 30 26].any fun x => !s.gone x
  | none => !s.memberGone (bitsOf (entLoc e) 30 26, bitsOf (entLoc e) 25 10) || s.canRebuild lpn sect (bitsOf (entLoc e) 30 26)

/-- EARLY_RECONSTRUCTION_START (R149): after EARLY_REVS revolutions of rungs 3 to 5, or while its head is being retired, a host
read starts rung 6 in parallel, where the consignment can rebuild the sector. -/
def execEarlyReconstructionStart (place : Nat) (s : State) : Host.Outcome State Fault Refusal :=
  match sGet? s.rcv.places place with
  | none => ok s
  | some p =>
    if p.cmd.isSome && p.wanted s && !p.early && !p.sum && s.canRebuild p.lpn p.sect p.surface &&
        (s.rcv.policy.earlyRevs ≤ p.revs || s.headRetired (Act.num p.lane) p.head) then
      ok (s.putPlace place { p with early := true })
    else ok s

/-- The limit of a place's host command has passed (R150, R397): TLER from its capsule's read, or LADDER_MS where TLER is 0. -/
def State.commandLimit (s : State) (p : RecPlace) : Bool :=
  match p.cmd.bind fun n => sGet? s.host.cmds n with
  | none => false
  | some c =>
    let t := ((sGet? s.host.nss c.cap.nsid).map (·.tler)).getD 0
    c.takenMs + (if t % 65536 = 0 then s.rcv.policy.ladderMs else 100 * (t % 65536)) ≤ s.ms

/-- LADDER_TIME_LIMIT (R150): LADDER_MS since hand-over, or the command's own limit, has passed in rungs 3 to 5. -/
def execLadderTimeLimit (place : Nat) (s : State) : Host.Outcome State Fault Refusal :=
  match sGet? s.rcv.places place with
  | none => ok s
  | some p =>
    if 3 ≤ p.rung && p.rung ≤ 5 && (p.sinceMs + s.rcv.policy.ladderMs ≤ s.ms || s.commandLimit p) then ok (s.toSix place p) else ok s

/-- The area that a write of a surface stands in, and whether it is first-class: by the unit that has the parcel of its tag, else, for parity and
filler, the band open on the surface. -/
def State.writeArea (s : State) (surface lpn : Nat) : Option (Nat × Bool) :=
  let bands := s.office.units.flatMap fun u =>
    (u.2.triples.filter fun t => t.1 == lpn && entSC t.2.2 && bitsOf (entLoc t.2.2) 30 26 == surface).map fun t => (placeArea (entLoc t.2.2), false)
  let slots := s.office.units.flatMap fun u => (u.2.slots.filter fun f => f.1 == lpn).flatMap fun f =>
    ([f.2.locA, f.2.locB].filter fun l => bitsOf l 30 26 == surface).map fun l => (placeArea l, true)
  let other := (s.office.bands.filter fun b => b.1 / 65536 == surface && b.2.state == 2).map fun b => (b.1, false)
  (slots ++ bands ++ other).head?

/-- A physical sector joins its band's defect list (R154). -/
def addDefect (b : Band) (track sector : Nat) : List Nat :=
  if b.defects.contains (track * 4096 + sector) then b.defects else b.defects ++ [track * 4096 + sector]

/-- The spare tracks left of a first-class area (R153, R309): 2 % of its tracks, which the spec does not number. -/
def State.spareTracks (s : State) (area : Nat) : Nat := Config.fcSpares area - (s.office.replaced.filter fun r => r.1 == area).length

/-- A whole track of a first-class area is replaced by a spare track (R153), where one is left; the old one is never used again. Base firmware
writes the track's data there by lane operations. -/
def State.replaceTrack (s : State) (area track : Nat) : State :=
  if s.office.replaced.contains (area, track) || s.spareTracks area = 0 then s
  else s.putOffice { s.office with replaced := s.office.replaced ++ [(area, track)] }

/-- A lane can take an operation of base firmware's own. -/
def State.laneFree (s : State) (x : Act) : Bool :=
  (s.mediaOp x).isNone && s.laneRoom x && s.on (Reg.CH_CTRL_ENABLE x) && s.get (Reg.CH_STATUS_STATE x) != 6

/-- An operation of base firmware's own starts, or completes at once with no sector touched. -/
def State.firmwareOp (s : State) (x : Act) (o : LaneOp) : State :=
  match s.opRefusal x o with
  | some e => (s.complete x { o with ended := some e }).laneRest x
  | none => s.beginOp x o

/-- The next free sector after the write point that a sector's write belongs to (R139, R154): the least at or after it. -/
def State.writePoint (s : State) (x : Act) (p : NotPlaced) : Nat × Nat :=
  let z := s.zone x (64 * p.head + p.zone)
  let l := (s.lane x).points.filter fun w =>
    w.1 == p.head && w.2.1 == p.epoch && (p.track < w.2.2.1 || (p.track == w.2.2.1 && p.sector < w.2.2.2))
  let w := (sortBy (fun a b => a.2.2.1 ≤ b.2.2.1) l).head?
  match w with
  | some w => if w.2.2.2 < z.sectors then (w.2.2.1, w.2.2.2) else (w.2.2.1 + 1, 0)
  | none => if p.sector + 1 < z.sectors then (p.track, p.sector + 1) else (p.track + 1, 0)

/-- A sector whose last attempt failed is relocated (R139, R154, R319): on a band it joins the defect list and its data goes to the next free sector
after the write point; past DEFECT_MAX the band fails. In the first-class region its track is replaced (R153). -/
def State.relocate (s : State) (x : Act) (p : NotPlaced) : State :=
  let surface := surfaceOf x p.head
  let l := s.lane x
  let s := s.putLane x { l with notPlaced := l.notPlaced.erase p }
  match s.writeArea surface (s.dram p.tagAt 6) with
  | none => s
  | some (k, true) => s.replaceTrack k p.track
  | some (k, false) =>
    let b := s.band k
    if s.rcv.policy.defectMax ≤ b.defects.length then s.failBand (k / 65536) (k % 65536)
    else
      let s := s.setBands [(k, { b with defects := addDefect b p.track p.sector })]
      let w := s.writePoint x p
      s.firmwareOp x (s.newOp x 2 p.head p.zone 0xFFFF w.1 w.2 1 false p.epoch p.data p.tagAt p.statusAt)

/-- SECTOR_REWRITE (R139): base firmware writes a not-placed sector again at its position, at most REWRITES times, and then relocates it. -/
def execSectorRewrite (x : Act) (k : Nat) (s : State) : Host.Outcome State Fault Refusal :=
  let l := s.lane x
  match l.notPlaced[k]? with
  | none => ok s
  | some p =>
    if !s.laneFree x then ok s
    else if p.tries < s.rcv.policy.rewrites then
      let s := s.putLane x { l with notPlaced := l.notPlaced.map fun q => if q == p then { q with tries := q.tries + 1 } else q }
      ok (s.firmwareOp x (s.newOp x 2 p.head p.zone 0xFFFF p.track p.sector 1 false p.epoch p.data p.tagAt p.statusAt))
    else ok (s.relocate x p)

/-- The first-class area that a place's sector stands in, none where its parcel has no slot on that surface. -/
def State.placeSlot (s : State) (p : RecPlace) : Option Nat :=
  let f := if entFC (s.mapEntry p.lpn) then (sGet? s.office.fc p.lpn).filter fun f => bitOf f.mask (p.sect % 64) else none
  f.bind fun f => ([f.locA, f.locB].find? fun l => bitsOf l 30 26 == p.surface).map placeArea

/-- A place's sector is written in place, or read back, by an operation of base firmware's own (R153). -/
def State.moveOp (s : State) (p : RecPlace) (back : Bool) : State :=
  let x := Act.num p.lane
  let m : Move := ⟨p, (s.lane x).serial, back, none⟩
  let o := s.newOp x (if back then 1 else 2) p.head p.zone 0xFFFF p.track p.sector 1 true (if back then 0 else p.epoch) p.data p.tagAt p.statusAt
  match s.opRefusal x o with
  | some _ => s
  | none => (s.beginOp x o).putRcv { s.rcv with moves := s.rcv.moves ++ [m] }

/-- A sector's reallocation in the first-class region goes on (R153): written with a good receipt it is read back; read back good at first pass,
the position stays in use; otherwise its track is replaced. -/
def State.moveOn (s : State) (m : Move) (status : Nat) : State :=
  let x := Act.num m.place.lane
  let rest := s.putRcv { s.rcv with moves := s.rcv.moves.erase m }
  if !m.back && status == 0x01 then (if s.laneFree x then rest.moveOp m.place true else s)
  else if m.back && status ≤ 0x02 then rest
  else
    let l := rest.lane x
    let rest := rest.putLane x { l with notPlaced := l.notPlaced.filter fun q =>
      !(q.head == m.place.head && q.track == m.place.track && q.sector == m.place.sector) }
    match rest.placeSlot m.place with
    | some k => rest.replaceTrack k m.place.track
    | none => rest

/-- The valid parcels of a band that is retired for its defects go to a spare band of its surface, which takes its place in the group (R154, R348);
where none is left the group is queued for re-sorting. -/
def State.replaceBand (s : State) (k : Nat) : State :=
  let b := s.band k
  let lost := (k / 65536, k % 65536)
  match sGet? s.office.groups b.group, s.replacement [lost.1] lost with
  | some e, some new => s.rebuildMember b.group e lost new
  | _, _ => s.setBands [(k, { b with state := 5, resort := true })]

/-- A sector of a band is reallocated (R154): its parcel's data goes to the first-class region as a fresh write, the sector joins the band's defect
list, and the band is queued for re-sorting; past DEFECT_MAX it is retired. It is not where the first-class region has no room. -/
def State.moveFromBand (s : State) (p : RecPlace) : State × Bool :=
  match s.fcPlace p.lpn (2 ^ 64 - 1) with
  | (_, none) => (s, false)
  | (s, some (t, f)) =>
    let k := placeArea (entLoc p.entry)
    let b := s.band k
    let d := addDefect b p.track p.sector
    let s := s.addUnit ⟨.place, [t], [f], false, [], none, true⟩
    if s.rcv.policy.defectMax < d.length then (s.replaceBand k, true)
    else
      let r := s.switchJob []
      let b' := { b with defects := d, resort := true }
      let s := r.1.putOffice { r.1.office with bands := sIns r.1.office.bands k b' }
      (s.journal ⟨r.2.1, 0x07, [], [], [(k, b')]⟩, true)

/-- REALLOCATION (R152 to R154): a reallocation under way in the first-class region goes on, else the oldest sector that a ladder's result calls for
is reallocated. It waits while writes are held, and is abandoned where the parcel's mapping has changed since the read. -/
def execReallocation (s : State) : Host.Outcome State Fault Refusal :=
  if !s.mayPlace then ok s
  else
    match s.rcv.moves.find? fun m => m.status.isSome with
    | some m => ok (s.moveOn m (m.status.getD 0))
    | none =>
      match s.rcv.ends with
      | [] => ok s
      | p :: rest =>
        let s' := s.putRcv { s.rcv with ends := rest }
        if s.mapEntry p.lpn != p.entry then ok s'
        else if (s.placeSlot p).isSome then
          if s.laneFree (Act.num p.lane) then ok (s'.moveOp p false) else ok s
        else if entSC p.entry && bitsOf (entLoc p.entry) 30 26 == p.surface then ok (if (s'.moveFromBand p).2 then (s'.moveFromBand p).1 else s)
        else ok s'

end Sys2Proof.Machine
end

