-- ==== Sys2Proof/Machine/Host.lean ====
section
/-!
DEFINITION. What the host side's commands share (R376 to R396): the numbers of the statuses, the I/O commands by opcode and command set,
connections and associations, the range locks, the in-tray's entries, the retry delay, and the end of an association.
-/
namespace Sys2Proof

/-- The number of a status: its type times 256 plus its code, as the NVMe specifications number it (PRESUMED; log 33). -/
def Status.code : Status → Nat
  | .success => 0x000
  | .invalidOpcode => 0x001
  | .invalidField => 0x002
  | .abortRequested => 0x007
  | .invalidNamespace => 0x00B
  | .sequenceError => 0x00C
  | .sanitizeInProgress => 0x01D
  | .writeProtected => 0x020
  | .commandInterrupted => 0x021
  | .transientTransport => 0x022
  | .lbaOutOfRange => 0x080
  | .capacityExceeded => 0x081
  | .namespaceNotReady => 0x082
  | .reservationConflict => 0x083
  | .invalidValueSize => 0x085
  | .invalidKeySize => 0x086
  | .keyMissing => 0x087
  | .keyExists => 0x089
  | .aerLimit => 0x105
  | .invalidFirmwareSlot => 0x106
  | .invalidFirmwareImage => 0x107
  | .invalidLogPage => 0x109
  | .notSaveable => 0x10D
  | .insufficientCapacity => 0x115
  | .controllerBusy => 0x181
  | .connectInvalid => 0x182
  | .zoneBoundary => 0x1B8
  | .zoneFull => 0x1B9
  | .zoneInvalidWrite => 0x1BC
  | .tooManyActive => 0x1BD
  | .tooManyOpen => 0x1BE
  | .zoneInvalidTransition => 0x1BF
  | .writeFault => 0x280
  | .unrecoveredRead => 0x281

/-- CDW10 to CDW15 of a capsule, by their number. -/
def Capsule.w (c : Capsule) (k : Nat) : Nat := c.cdw.getD (k - 10) 0 % 2 ^ 32

/-- The first logical block a command names, in CDW10 and CDW11. -/
def Capsule.slba (c : Capsule) : Nat := c.w 10 + 2 ^ 32 * c.w 11

/-- The number of logical blocks, from the zero-based count in CDW12. -/
def Capsule.nlb (c : Capsule) : Nat := c.w 12 % 2 ^ 16 + 1

/-- The key of a key-value command: its bytes padded to 16 (R392), as a number with the first byte lowest. -/
def Capsule.keyNat (c : Capsule) : Nat := Machine.ofBytes ((c.key ++ List.replicate 16 0).take 16)

/-- The length of the key, in CDW11 [7:0] as the key-value command set places it (PRESUMED; log 33). -/
def Capsule.keyLen (c : Capsule) : Nat := c.w 11 % 256

/-- The digest that a key's lock names (R392). -/
def Capsule.keyDigest (c : Capsule) : Nat := Machine.crc32c ((c.key ++ List.replicate 16 0).take 16)

end Sys2Proof

namespace Sys2Proof.Machine

/-- The I/O commands of R383. -/
inductive IoOp where
  | flush | write | read | writeZeroes | discard | verify | resRegister | resReport | resAcquire | resRelease
  | zoneSend | zoneReceive | append | store | retrieve | list | delete | exist
  deriving DecidableEq, Repr

/-- The I/O command of an opcode in a command set (R381, R383). -/
def ioOp (csi opcode : Nat) : Option IoOp :=
  if opcode = 0x00 then some .flush
  else if opcode = 0x0D then some .resRegister
  else if opcode = 0x0E then some .resReport
  else if opcode = 0x11 then some .resAcquire
  else if opcode = 0x15 then some .resRelease
  else if csi = 1 then
    match opcode with
    | 0x01 => some .store
    | 0x02 => some .retrieve
    | 0x06 => some .list
    | 0x10 => some .delete
    | 0x14 => some .exist
    | _ => none
  else
    match opcode with
    | 0x01 => some .write
    | 0x02 => some .read
    | 0x08 => some .writeZeroes
    | 0x0C => some .verify
    | 0x09 => if csi = 0 then some .discard else none
    | 0x79 => if csi = 2 then some .zoneSend else none
    | 0x7A => if csi = 2 then some .zoneReceive else none
    | 0x7D => if csi = 2 then some .append else none
    | _ => none

/-- The commands that change what a namespace holds, by writing or discarding. -/
def IoOp.writes : IoOp → Bool
  | .write => true
  | .writeZeroes => true
  | .discard => true
  | .zoneSend => true
  | .append => true
  | .store => true
  | .delete => true
  | _ => false

/-- The commands that read what a namespace holds. -/
def IoOp.reads : IoOp → Bool
  | .read => true
  | .verify => true
  | .zoneReceive => true
  | .retrieve => true
  | .list => true
  | .exist => true
  | _ => false

/-- The commands whose data enters the in-tray (R389). -/
def IoOp.enters : IoOp → Bool
  | .write => true
  | .writeZeroes => true
  | .append => true
  | .store => true
  | _ => false

/-- The number that stands for the queue of NVMe-MI's tunnelled commands, above every connection (R402). -/
def miConn : Nat := 160

/-- A connection. -/
def State.conn? (s : State) (n : Nat) : Option Conn := sGet? s.host.conns n

/-- Replace a connection. -/
def State.putConn (s : State) (n : Nat) (c : Conn) : State := s.putHost { s.host with conns := sIns s.host.conns n c }

/-- An association. -/
def State.assoc? (s : State) (n : Nat) : Option Assoc := sGet? s.host.assocs n

/-- Replace an association. -/
def State.putAssoc (s : State) (n : Nat) (a : Assoc) : State := s.putHost { s.host with assocs := sIns s.host.assocs n a }

/-- A namespace. -/
def State.ns? (s : State) (nsid : Nat) : Option Ns := sGet? s.host.nss nsid

/-- Replace a namespace. -/
def State.putNs (s : State) (nsid : Nat) (n : Ns) : State := s.putHost { s.host with nss := sIns s.host.nss nsid n }

/-- The association a command came over. -/
def State.cmdAssoc (s : State) (c : Cmd) : Option Assoc := (s.conn? c.conn).bind fun k => k.assoc.bind s.assoc?

/-- The I/O command a command is, none for admin and fabrics commands and for opcodes the namespace's type does not have. -/
def State.cmdOp (s : State) (c : Cmd) : Option IoOp :=
  match s.conn? c.conn with
  | none => none
  | some k => if k.qid = 0 || c.cap.opcode = 0x7F then none else (s.ns? c.cap.nsid).bind fun n => ioOp n.csi c.cap.opcode

/-- PRE_CONNS follows the connections (R406). -/
def State.connsRefresh (s : State) : State :=
  let ioqs := (s.host.conns.filter fun p => 0 < p.2.qid).length
  s.setAll [(Reg.PRE_CONNS_ASSOCS, s.host.assocs.length), (Reg.PRE_CONNS_IOQS, ioqs), (Reg.PRE_CONNS_CONNS, s.host.conns.length)]

/-- A command waits for a lock or for bags (R396, R407). -/
def State.cmdWaits (s : State) (serial : Nat) (c : Cmd) : Bool :=
  c.verdict.isNone && !c.orphan &&
    (c.noEntry || c.asked < c.need || s.host.locks.any fun l => l.owner == serial && !l.held)

/-- HQ_STATUS, HQ_ITRAY and HQ_ADMIT WAITING follow the host side (R407). -/
def State.hqRefresh (s : State) : State :=
  (s.setAll [(Reg.HQ_STATUS_IN_FLIGHT, s.host.cmds.length), (Reg.HQ_STATUS_LOCKS, s.host.locks.length),
    (Reg.HQ_ADMIT_WAITING, (s.host.cmds.filter fun p => s.cmdWaits p.1 p.2).length)]).itrayRefresh

/-- A command leaves the device: its lock entries and its slot are free again, and its bags, unless the in-tray keeps them (R379,
R393, R403). -/
def State.dropCmd (s : State) (serial : Nat) : State :=
  match s.cmd? serial with
  | none => s
  | some c =>
    let s := if c.tray.isNone then s.bagReleaseAll c.bags 0x53 else s
    (s.putHost { s.host with cmds := sDel s.host.cmds serial,
                             locks := s.host.locks.filter fun l => l.owner != serial }).hqRefresh

/-- Every lock of a command is held (R393). -/
def State.locked (s : State) (serial : Nat) (c : Cmd) : Bool :=
  !c.noEntry && (s.host.locks.filter fun l => l.owner == serial).all (·.held)

/-- The data of a command has wholly arrived. -/
def Cmd.whole (c : Cmd) : Bool := c.need ≤ c.got

/-- Add an entry to the in-tray (R389), the newest. -/
def State.trayAdd (s : State) (kind : TrayKind) (nsid first count key keyLen : Nat) (bags : List Nat) : State × Nat :=
  let n := s.host.serial
  (s.putHost { s.host with serial := n + 1, tray := s.host.tray ++ [⟨n, kind, nsid, first, count, key, keyLen, bags, [], false, []⟩] }, n)

/-- The open zones of a namespace. -/
def Ns.open_ (n : Ns) : List (Nat × HZone) :=
  n.zones.filter fun z => z.2.state == .implicitOpen || z.2.state == .explicitOpen

/-- The active zones of a namespace (R321). -/
def Ns.active (n : Ns) : List (Nat × HZone) := n.open_ ++ n.zones.filter fun z => z.2.state == .closed

/-- Why a zone cannot become open: 256 are active, or 128 are open and none of them implicitly (R321). -/
def Ns.openRefusal (n : Ns) (k : Nat) : Option Status :=
  let z := n.zone k
  if z.state == .implicitOpen || z.state == .explicitOpen then none
  else if z.state == .empty && 256 ≤ n.active.length then some .tooManyActive
  else if 128 ≤ n.open_.length && !(n.open_.any fun z => z.2.state == .implicitOpen) then some .tooManyOpen
  else none

/-- Open a zone; where 128 are open, the lowest that is implicitly open is closed first (PRESUMED; log 33). -/
def State.openZone (s : State) (nsid k : Nat) (st : ZoneState) : State :=
  match s.ns? nsid with
  | none => s
  | some n =>
    let z := n.zone k
    let was := z.state == .implicitOpen || z.state == .explicitOpen
    let s := if !was && 128 ≤ n.open_.length then
        match n.open_.find? fun z => z.2.state == .implicitOpen with
        | some o => s.putZone nsid o.1 { o.2 with state := .closed }
        | none => s
      else s
    s.putZone nsid k { z with state := if z.state == .explicitOpen then .explicitOpen else st }

/-- What refuses a write of so many blocks at a block of a zone (R321, R383). -/
def Ns.zoneRefusal (n : Ns) (slba nlb : Nat) (append : Bool) : Option Status :=
  let k := slba / 65536
  let z := n.zone k
  let at_ := if append then 65536 * k + z.wp else slba
  if append && slba % 65536 != 0 then some .invalidField
  else if z.state == .full then some .zoneFull
  else if !append && slba != 65536 * k + z.wp then some .zoneInvalidWrite
  else if 65536 * (k + 1) < at_ + nlb then some .zoneBoundary
  else n.openRefusal k

/-- A write moves a zone's write pointer; a zone written to its end is full (R321). -/
def State.zoneAdvance (s : State) (nsid k nlb : Nat) : State :=
  let s := s.openZone nsid k .implicitOpen
  match s.ns? nsid with
  | none => s
  | some n =>
    let z := n.zone k
    let wp := z.wp + nlb
    s.putZone nsid k { z with wp := wp, state := if 65536 ≤ wp then .full else z.state }

/-- A command whose data has wholly arrived enters the in-tray (R389): the entry made keeps its bags. Answers the number of the entry
and the block an append wrote at, or why the namespace's own rules refuse it. -/
def State.enterTray (s : State) (c : Cmd) : State × (Status ⊕ Nat × Nat) :=
  match s.ns? c.cap.nsid, s.cmdOp c with
  | some n, some op =>
    let cap := c.cap
    match op with
    | .store =>
      let r := s.trayAdd .value cap.nsid 0 (cap.w 10) cap.keyNat cap.keyLen c.bags
      (r.1, .inr (r.2, 0))
    | _ =>
      let kind : TrayKind := if op = .writeZeroes then .zeros else .data
      if n.csi = 2 then
        match n.zoneRefusal cap.slba cap.nlb (op = .append) with
        | some e => (s, .inl e)
        | none =>
          let k := cap.slba / 65536
          let at_ := 65536 * k + (n.zone k).wp
          let r := (s.zoneAdvance cap.nsid k cap.nlb).trayAdd kind cap.nsid at_ cap.nlb 0 0 c.bags
          (r.1, .inr (r.2, at_))
      else
        let r := s.trayAdd kind cap.nsid cap.slba cap.nlb 0 0 c.bags
        (r.1, .inr (r.2, 0))
  | _, _ => (s, .inl .invalidNamespace)

/-- What becomes of a command whose association ends (R379): a write whose data has wholly arrived is placed without a completion; any
other is abandoned, at once or when the media operation it started has ended. -/
def State.abandon (s : State) (serial : Nat) : State :=
  match s.cmd? serial with
  | none => s
  | some c =>
    let enters := (s.cmdOp c).any IoOp.enters
    if enters && c.whole && c.tray.isNone && c.verdict.isNone then
      match s.enterTray c with
      | (s, .inr (n, _)) => (s.putCmd serial { c with tray := some n }).dropCmd serial
      | (s, .inl _) => s.dropCmd serial
    else if c.media && c.verdict.isNone then s.putCmd serial { c with orphan := true }
    else s.dropCmd serial

/-- The serial numbers of the commands of a connection. -/
def State.cmdsOf (s : State) (conn : Nat) : List Nat := (s.host.cmds.filter fun p => p.2.conn == conn && !p.2.orphan).map (·.1)

/-- A connection is gone; its commands are abandoned. -/
def State.dropConn (s : State) (n : Nat) : State :=
  let s := (s.cmdsOf n).foldl (fun s k => s.abandon k) s
  (s.putHost { s.host with conns := sDel s.host.conns n }).connsRefresh

/-- An association ends (R379): all its connections go, and what its hosts reserved and registered stays. -/
def State.endAssoc (s : State) (a : Nat) : State :=
  let cs := (s.host.conns.filter fun p => p.2.assoc == some a).map (·.1)
  let s := cs.foldl (fun s n => s.dropConn n) s
  (s.putHost { s.host with assocs := sDel s.host.assocs a }).connsRefresh

/-- A connection is lost (R379): its association ends with it. -/
def State.loseConn (s : State) (n : Nat) : State :=
  match s.conn? n with
  | none => s
  | some c => match c.assoc with
    | some a => s.endAssoc a
    | none => s.dropConn n

/-- Every association and connection ends (R59, R60, R469). -/
def State.endAll (s : State) : State :=
  let s := s.host.assocs.foldl (fun s p => s.endAssoc p.1) s
  s.host.conns.foldl (fun s p => s.dropConn p.1) s

/-- Whether two locks conflict (R392): the same namespace, overlapping ranges or the same zone or digest, one of them exclusive. -/
def RangeLock.conflicts (a b : RangeLock) : Bool :=
  a.nsid == b.nsid && (a.excl || b.excl) &&
    match a.what, b.what with
    | .range f n, .range g m => f < g + m && g < f + n
    | .zone j, .zone k => j == k
    | .key d, .key e => d == e
    | _, _ => false

/-- The ranges of a Dataset Management command's data: 16 bytes each, the length in blocks at byte 4 and the first block at byte 8. -/
def dsmRanges (l : List Nat) (n : Nat) : List (Nat × Nat) :=
  (List.range n).map fun i => (ofBytes ((l.drop (16 * i + 8)).take 8), ofBytes ((l.drop (16 * i + 4)).take 4))

/-- The locks a command takes (R392). -/
def State.locksFor (s : State) (serial : Nat) (c : Cmd) : List RangeLock :=
  let cap := c.cap
  let lock (what : LockOn) (excl : Bool) : RangeLock := ⟨serial, cap.nsid, what, excl, false⟩
  match s.cmdOp c with
  | some .read => [lock (.range cap.slba cap.nlb) false]
  | some .verify => [lock (.range cap.slba cap.nlb) false]
  | some .write => [lock (.range cap.slba cap.nlb) true]
  | some .writeZeroes => [lock (.range cap.slba cap.nlb) true]
  | some .discard =>
    if cap.data.isEmpty then [lock (.range 0 (2 ^ 64)) true]
    else (dsmRanges cap.data (cap.w 10 % 256 + 1)).map fun r => lock (.range r.1 r.2) true
  | some .append => [lock (.zone (cap.slba / 65536)) true]
  | some .zoneSend => [lock (.zone (cap.slba / 65536)) true]
  | some .retrieve => [lock (.key cap.keyDigest) false]
  | some .exist => [lock (.key cap.keyDigest) false]
  | some .store => [lock (.key cap.keyDigest) true]
  | some .delete => [lock (.key cap.keyDigest) true]
  | _ => []

/-- A reservation keeps a command of a host out (R383, R395): the six types of the NVMe base specification. -/
def Ns.conflict (n : Ns) (hostId : Nat) (op : IoOp) : Bool :=
  match n.holder with
  | none => false
  | some (h, type) =>
    let registered := n.regs.any fun r => r.1 == hostId
    let mine := if 5 ≤ type then registered else h == hostId
    let shared := mine || (3 ≤ type && registered)
    let exclusive := type % 2 == 0
    if op.writes || op == .flush then !shared else if op.reads then exclusive && !shared else false

/-- The set speed squared and the speed squared in one unit, for the estimate of R396. -/
def State.spinupTenths (s : State) : Nat × Nat :=
  let set := 256 * s.get Reg.SPN_SET_SET_RPM
  let d := max 1 (set * set)
  let est := s.get Reg.HQ_LIMITS_SPINUP_EST
  if s.books.spinup.isNone && s.books.atSpeed.isNone && !s.on Reg.SPN_STATUS_AT_SPEED then (est * d + 15 * d, d)
  else if !s.on Reg.SPN_STATUS_AT_SPEED then (est * (d - s.speed * s.speed) + 15 * d, d)
  else (15 * d, d)

/-- The retry delay that CRD selects for a namespace that is not ready (R396). -/
def State.crdEstimate (s : State) : Nat :=
  let t := s.spinupTenths
  let fits (f : Fld) : Bool := t.1 ≤ s.get f * t.2
  if fits Reg.HQ_CRDT12_CRDT1 then 1 else if fits Reg.HQ_CRDT12_CRDT2 then 2 else 3

/-- CRD of a command, 0 where its host has not set ACRE (R396). -/
def State.crdFor (s : State) (c : Cmd) (crd : Nat) : Nat :=
  if (s.cmdAssoc c).any fun a => bitOf (sGet a.feats 0x16 0) 0 then crd else 0

/-- Command Interrupted (R263). -/
def interrupted : Verdict := verdict .commandInterrupted false

/-- The in-tray in use, in MiB, against HELD_MAX percent of its 1 GiB (R395). -/
def State.heldFull (s : State) : Bool := s.get Reg.HQ_LIMITS_HELD_MAX * 1024 ≤ 100 * s.get Reg.HQ_ITRAY_USED_MIB

/-- Namespaces are write-protected (R45, R331, R385). -/
def State.protectedNs (s : State) (n : Ns) : Bool := s.readsOnly || s.office.floor || n.wp

/-- A share in percent, 100 of nothing. -/
def percent (part whole : Nat) : Nat := if whole = 0 then 100 else part * 100 / whole

/-- The least percentage of spare left of the slips, the NAND blocks and the bands of any surface (R26, R348). -/
def State.wearSpare (s : State) : Nat :=
  let nand := (List.range 8).foldl (fun m d => max m (sGet s.mem.spareUsed d 0)) 0
  let bands := s.surfaces.foldl (fun m x => min m (percent (s.sparesLeft x) (s.office.areas / 50))) 100
  min (percent (s.get Reg.SYS_SPARES_SLIPS_FREE) 16) (min (percent (nandSpares - nand) nandSpares) bands)

/-- The least percentage of spare SRAM rows left of any array (R24, R26). -/
def State.rowSpare (s : State) : Nat :=
  (List.range 3).foldl (fun m k => min m (percent (Config.sramRows k - sGet s.mem.rowsUsed k 0) (Config.sramRows k))) 100

/-- The first-class spare tracks left of a surface in percent of those at format (R309, R366). -/
def State.fcSpare (s : State) (surface : Nat) : Nat :=
  let l := (s.office.pairs.flatMap fun p => [p.a, p.b]).filter fun a => a.1 == surface
  percent (l.map fun a => s.spareTracks (a.1 * 65536 + a.2)).sum (l.map fun a => Config.fcSpares (a.1 * 65536 + a.2)).sum

/-- The first-class spare floor (R23, R309): what is left of the region's spare tracks, on the worst surface. -/
def State.floorSpare (s : State) : Nat := s.surfaces.foldl (fun m x => min m (s.fcSpare x)) 100

/-- Available Spare (R26). -/
def State.availableSpare (s : State) : Nat := min (min s.wearSpare s.rowSpare) s.floorSpare

/-- The composite temperature in kelvin (R444, R455). -/
def State.kelvin (s : State) : Nat := (s.heat.composite / 16 + 273).toNat

/-- The composite temperature lies beyond a Temperature Threshold (R401, R444). -/
def State.beyondThreshold (s : State) : Bool :=
  sGet s.host.feats 0x0400 (s.get Reg.THM_HDA_WCTEMP + 273) ≤ s.kelvin || s.kelvin < sGet s.host.feats 0x0401 0

/-- Bit 2 of Critical Warning (R401): latched, or in recovery mode, after a boot record was rejected, or with sensors 6 and 7 broken. -/
def State.unreliable (s : State) : Bool :=
  bitOf s.host.critical 2 || s.get Reg.SYS_BOOT_MODE == 2 || s.host.recordRejected ||
    (s.bit Reg.THM_STATUS_BROKEN 6 && s.bit Reg.THM_STATUS_BROKEN 7)

/-- Critical Warning (R401). -/
def State.criticalWarning (s : State) : Nat :=
  b2n (s.availableSpare ≤ 10) + 2 * b2n s.beyondThreshold + 4 * b2n s.unreliable + 8 * b2n (s.office.floor || s.readsOnly) +
    16 * b2n (bitOf s.host.critical 4)

end Sys2Proof.Machine
end

