-- ==== Sys2Proof/Machine/Net.lean ====
section
/-!
DEFINITION. The ports, IP and TCP (R369 to R371, R373, R403, R405): links, addresses, the frames answered and those dropped, and the
opening, resetting, acknowledging and resending of connections.
-/
namespace Sys2Proof.Machine

/-- The protocol engine runs (R406). -/
def State.preUp (s : State) : Bool := s.pdOn 18 && s.get Reg.PRE_STATUS_STATE == 3

/-- The dispatch entry of a key has VALID (R372, R373). -/
def State.keyValid (s : State) (key : Nat) : Bool := bitOf (sGet s.pre.store key 0) 13

/-- The handler of a dispatch key runs: the engine runs, and the key's entry is valid. -/
def State.serves (s : State) (key : Nat) : Bool := s.preUp && s.keyValid key

/-- A port's link is up (R405). -/
def State.portUp (s : State) (p : Prt) : Bool := s.pdOn (19 + p.n) && s.get (Reg.ETH_STATUS_STATE p) == 3

/-- Replace a port. -/
def State.putPort (s : State) (p : Prt) (f : Port) : State := s.putHost { s.host with ports := s.host.ports.put p f }

/-- The port of a number. -/
def Prt.num (n : Nat) : Prt := if n = 0 then .a else .b

/-- A dropped frame is counted (R405). -/
def State.dropFrame (s : State) (p : Prt) : State := s.inc (Reg.ETH_DROPS_DROPPED p)

/-- A network frame under its dispatch key (R373): handled while the link is up and the engine runs; dropped and counted where its key's
entry is not valid. -/
def State.frame (s : State) (p : Prt) (key : Nat) (f : State → State) : State :=
  if !s.portUp p || !s.preUp then s
  else if s.keyValid key then f s
  else s.dropFrame p

/-- A TCP event on an open connection, under its dispatch key. -/
def State.tcpEvent (s : State) (n key : Nat) (f : Conn → State → State) : State :=
  match s.conn? n with
  | none => s
  | some c => s.frame (Prt.num c.port) key (f c)

/-- The cycles of class 0 in a window of 10 µs, 10,000 cycles: C0_PCT percent, which clamps to 5 to 25 (R375, R406). -/
def State.classShare (s : State) : Nat := 100 * max 5 (min 25 (s.get Reg.PRE_SLICE_C0_PCT))

/-- The tag of the frames a port sends (R369, R405): its priority and VLAN while VLAN_EN is 1. -/
def State.frameTag (s : State) (p : Prt) : Option (Nat × Nat) :=
  if s.on (Reg.ETH_NET_VLAN_EN p) then some (s.get (Reg.ETH_NET_PCP p), s.get (Reg.ETH_NET_VID p)) else none

/-- A port sends. -/
def State.sendNet (s : State) (port : Nat) (f : NetOut) : State := s.emit (.net port (s.frameTag (Prt.num port)) f)

/-- The MAC address of a port (R369, R405). -/
def State.mac (s : State) (p : Prt) : Nat := s.get (Reg.ETH_MAC_LO_MAC_LO p) + 2 ^ 32 * s.get (Reg.ETH_MAC_HI_MAC_HI p)

/-- The receive window of a connection, in bytes (R406). -/
def State.rcvWindow (s : State) : Nat := 1024 * s.get Reg.PRE_TCP_RCV_WIN

/-- The bytes that a capsule takes in a receive buffer. -/
def capsuleBytes (c : Capsule) : Nat := 72 + c.data.length

/-- The space advertised on a connection (R403): its receive window less the bytes held unread. -/
def State.rcvSpace (s : State) (c : Conn) : Nat := s.rcvWindow - (c.waiting.map capsuleBytes).sum

/-- The largest packet of a connection's path (R369, R370): the port's MTU, which clamps to 1500 to 9000, or what a router said. -/
def State.packetMax (s : State) (conn : Nat) (c : Conn) : Nat :=
  let p := Prt.num c.port
  let mtu := max 1500 (min 9000 (s.get (Reg.ETH_NET_MTU p)))
  match (s.host.ports.at p).mtus.find? fun m => m.1 == conn with
  | some m => min mtu m.2
  | none => mtu

/-- The peer's window holds so many bytes more (R403). -/
def Conn.fits (k : Conn) (n : Nat) : Bool := k.unacked + n ≤ k.window

/-- Bytes are sent on a connection: where nothing stood unacknowledged the retransmission timer starts (R371). -/
def Conn.sends (c : Conn) (n ns : Nat) : Conn := { c with unacked := c.unacked + n, sentNs := if c.unacked = 0 then ns else c.sentNs }

/-- The retransmission timeout in ms (R371, R406): RTO_MIN at first, twice as long after each retransmission (PRESUMED; log 144), and at most
RTO_MAX. -/
def State.rto (s : State) (c : Conn) : Nat := min (100 * s.get Reg.PRE_TCP_RTO_MAX) (s.get Reg.PRE_TCP_RTO_MIN * 2 ^ c.retries)

/-- FRAME_DROPPED (R369, R370, R375): a bad frame check sequence counts in CRC_ERR; a frame of another VLAN, an untagged one while VLAN_EN is 1,
a PAUSE frame, a fragment or a packet with a forbidden extension header, and a frame beyond class 0's share of the engine count in
DROPPED. -/
def execFrameDropped (p : Prt) (why : FrameFault) (s : State) : Host.Outcome State Fault Refusal :=
  if !s.portUp p then ok s
  else
    match why with
    | .badCheck => ok (s.inc (Reg.ETH_DROPS_CRC_ERR p))
    | .vlan vid =>
      let on := s.on (Reg.ETH_NET_VLAN_EN p)
      let wanted := match vid with
        | some v => on && v == s.get (Reg.ETH_NET_VID p)
        | none => !on
      if wanted then ok s else ok (s.dropFrame p)
    | .pause => ok (s.dropFrame p)
    | .packet => ok (s.dropFrame p)
    | .share cycles => if s.classShare < cycles then ok (s.dropFrame p) else ok s

/-- The associations of a port end (R379). -/
def State.endPort (s : State) (p : Prt) : State :=
  let as_ := (s.host.assocs.filter fun a => a.2.port == p.n).map (·.1)
  let s := as_.foldl (fun s a => s.endAssoc a) s
  let cs := (s.host.conns.filter fun c => c.2.port == p.n).map (·.1)
  cs.foldl (fun s n => s.dropConn n) s

/-- The 64-byte entry of the network configuration feature of a port (R370), as a number. -/
def State.netCfgNat (s : State) (p : Prt) : Nat := sGet s.host.feats (0xC000 + p.n) 0

/-- Field of a network configuration entry: `n` bytes at an offset. -/
def cfgField (v off n : Nat) : Nat := v / 256 ^ off % 256 ^ n

/-- A network configuration entry as the fields of R370. -/
def netCfgOf (v : Nat) : NetCfg :=
  ⟨cfgField v 1 1, cfgField v 2 1, cfgField v 3 1, cfgField v 4 4, cfgField v 8 4, cfgField v 12 1,
    if cfgField v 14 2 = 0 then 1500 else cfgField v 14 2, cfgField v 16 16, cfgField v 32 16, cfgField v 48 2⟩

/-- Base firmware applies a port's configuration (R370, R405): its addresses are obtained afresh, with a static IPv4 address in use at
once, and ETH_NET takes the VLAN and the MTU, which clamps. -/
def State.applyNet (s : State) (p : Prt) : State :=
  let c := netCfgOf (s.netCfgNat p)
  let s := s.putPort p ⟨c, if c.mode4 = 1 then some c.addr4 else none, [], c.gw6, []⟩
  s.setAll [(Reg.ETH_NET_VLAN_EN p, c.vlan / 2 ^ 15), (Reg.ETH_NET_PCP p, c.vlan / 2 ^ 12), (Reg.ETH_NET_VID p, c.vlan),
    (Reg.ETH_NET_MTU p, max 1500 (min 9000 c.mtu))]

/-- A port link reset (R57, R60, R62, R370, R379): the link goes down, the port's associations end, and its configuration is applied where
it has changed; otherwise the addresses stand as they are bound. The envelope goes. -/
def State.linkReset (s : State) (p : Prt) : State :=
  let was := s.get (Reg.ETH_STATUS_STATE p) == 3
  let up := s.pdOn (19 + p.n) && s.on (Reg.ETH_CTRL_ENABLE p)
  let st := if !up then 0 else if s.on (Reg.ETH_CTRL_AN_EN p) then 1 else 2
  let s := s.setAll [(Reg.ETH_STATUS_STATE p, st), (Reg.ETH_STATUS_SPEED p, 0), (Reg.ETH_STATUS_FEC p, 0), (Reg.ETH_STATUS_PCS_LOCK p, 0)]
  let s := if was then s.set (Reg.ETH_INT_LINK_DOWN p) 1 else s
  let s := (s.endPort p).noEnvelope
  if (s.host.ports.at p).cfg == netCfgOf (s.netCfgNat p) then s else s.applyNet p

/-- LINK_UP (R369): the link is trained at 10 or 25 Gbit/s with the FEC negotiated; with AN_EN at 0 it is 25GBASE-KR with RS-FEC. No link
comes up in recovery mode's service, on a port that is off, or with the transmitter off. -/
def execLinkUp (p : Prt) (speed fec : Nat) (s : State) : Host.Outcome State Fault Refusal :=
  if !s.pdOn (19 + p.n) || !s.on (Reg.ETH_CTRL_ENABLE p) || s.on (Reg.ETH_CTRL_TX_DISABLE p) ||
      s.get (Reg.ETH_STATUS_STATE p) == 3 then ok s
  else
    let an := s.on (Reg.ETH_CTRL_AN_EN p)
    ok (s.setAll [(Reg.ETH_STATUS_STATE p, 3), (Reg.ETH_STATUS_SPEED p, if an then speed else 2),
      (Reg.ETH_STATUS_FEC p, if an then fec else 2), (Reg.ETH_STATUS_PCS_LOCK p, 1), (Reg.ETH_INT_LINK_UP p, 1)])

/-- A link-local IPv6 address, of fe80::/10 (R370). -/
def linkLocal (addr : Nat) : Bool := addr / 2 ^ 118 == 0x3FA

/-- A port answers for an address: its IPv4 address, or one of its IPv6 addresses (R51, R370). -/
def Port.owns (f : Port) (v6 : Bool) (addr : Nat) : Bool := if v6 then f.ip6.contains addr else f.ip4 == some addr

/-- The global IPv6 address of a port is bound: the link-local ones stand. -/
def Port.bind6 (f : Port) (addr : List Nat) : Port := { f with ip6 := f.ip6.filter linkLocal ++ addr }

/-- ADDRESS_BOUND (R51, R370): duplicate address detection of the static or link-local IPv6 address completed, or a lease was bound where
the mode asks for one; NVMe/TCP listens on it. -/
def execAddressBound (p : Prt) (v6 : Bool) (addr : Nat) (s : State) : Host.Outcome State Fault Refusal :=
  let f := s.host.ports.at p
  if !s.portUp p || s.get Reg.SYS_BOOT_MODE == 2 then ok s
  else if v6 then
    if linkLocal addr then ok (s.putPort p { f with ip6 := addr :: f.ip6.filter fun a => !linkLocal a })
    else if f.cfg.mode6 = 2 || (f.cfg.mode6 = 1 && addr == f.cfg.addr6) then ok (s.putPort p (f.bind6 [addr]))
    else ok s
  else if f.cfg.mode4 = 2 then ok (s.putPort p { f with ip4 := some addr })
  else ok s

/-- PORT_LINK_RESET (R379): the link is lost or retrained. -/
def execPortLinkReset (p : Prt) (s : State) : Host.Outcome State Fault Refusal :=
  if s.pdOn (19 + p.n) then ok (s.linkReset p) else ok s

/-- ETH_RESTART (R405): RESTART of ETH_CTRL written 1. -/
def execEthRestart (i : Initiator) (p : Prt) (s : State) : Host.Outcome State Fault Refusal :=
  ok (s.access i p.base 4 fun s => { s.linkReset p with bus := .written })

/-- The device listens on an address of a port, and the drive is not in recovery mode (R48, R51, R371). -/
def State.listens (s : State) (p : Prt) (v6 : Bool) (addr : Nat) : Bool :=
  (s.host.ports.at p).owns v6 addr && s.get Reg.SYS_BOOT_MODE != 2

/-- TCP_SYN (R51, R371), to an address of a port: a connection opens on port 4420 or 8009 while fewer than 160 are open; RST answers any other. -/
def execTcpSyn (p : Prt) (v6 : Bool) (addr port window : Nat) (s : State) : Host.Outcome State Fault Refusal :=
  ok (s.frame p 0x10 fun s =>
    if !s.listens p v6 addr then s
    else
      match (List.range 160).find? fun n => (s.conn? n).isNone with
      | some n =>
        if port == 4420 || port == 8009 then
          ((s.putConn n (Conn.fresh p.n (port == 8009) window)).connsRefresh).sendNet p.n (.synAck n s.rcvWindow (s.get Reg.PRE_TCP_WSCALE))
        else s.sendNet p.n .rst
      | none => s.sendNet p.n .rst)

/-- TCP_FIN (R373): the connection closes, with its association (R379). -/
def execTcpFin (conn : Nat) (s : State) : Host.Outcome State Fault Refusal :=
  ok (s.tcpEvent conn 0x11 fun c s => (s.loseConn conn).sendNet c.port (.fin conn))

/-- TCP_RST (R373): the connection is reset. -/
def execTcpRst (conn : Nat) (s : State) : Host.Outcome State Fault Refusal :=
  ok (s.tcpEvent conn 0x12 fun _ s => s.loseConn conn)

/-- TCP_ACK (R403): so many bytes are acknowledged and the peer advertises a window; it is never less than what stands unacknowledged,
since the window's right edge never moves left. -/
def execTcpAck (conn bytes window : Nat) (s : State) : Host.Outcome State Fault Refusal :=
  ok (s.tcpEvent conn 0x13 fun c s =>
    let left := c.unacked - bytes
    s.putConn conn { c with unacked := left, window := max window left, retries := if 0 < bytes then 0 else c.retries,
                            sentNs := if 0 < bytes then s.clockNs else c.sentNs })

/-- TCP_OUT_OF_ORDER (R371, R373): data that does not follow what was received is acknowledged at once, with SACK, and is not delivered. -/
def execTcpOutOfOrder (conn : Nat) (s : State) : Host.Outcome State Fault Refusal :=
  ok (s.tcpEvent conn 0x14 fun c s => (s.putConn conn { c with owed := 0 }).sendNet c.port (.ack conn c.owed (s.rcvSpace c)))

/-- RETRANSMISSION_TIMER (R371): once the timeout has passed, what stands unacknowledged is sent again; after 15 retransmissions without an acknowledgement the
connection is reset. -/
def execRetransmissionTimer (conn : Nat) (s : State) : Host.Outcome State Fault Refusal :=
  ok (s.tcpEvent conn 0x15 fun c s =>
    if c.unacked = 0 || s.clockNs < c.sentNs + 1000000 * s.rto c then s
    else if 15 ≤ c.retries then (s.loseConn conn).sendNet c.port .rst
    else (s.putConn conn { c with retries := c.retries + 1, sentNs := s.clockNs }).sendNet c.port (.resend conn c.unacked (s.packetMax conn c)))

/-- DELAYED_ACK_TIMER (R403): the bytes received and not acknowledged are acknowledged. -/
def execDelayedAckTimer (conn : Nat) (s : State) : Host.Outcome State Fault Refusal :=
  ok (s.tcpEvent conn 0x16 fun c s =>
    if c.owed = 0 then s else (s.putConn conn { c with owed := 0 }).sendNet c.port (.ack conn c.owed (s.rcvSpace c)))

/-- ARP (R370): a request for the port's IPv4 address is answered. -/
def execArp (p : Prt) (target : Nat) (s : State) : Host.Outcome State Fault Refusal :=
  ok (s.frame p 0x20 fun s =>
    if (s.host.ports.at p).owns false target then s.sendNet p.n (.arpReply target (s.mac p)) else s)

/-- The path of a connection carries no more than so many bytes a packet (R370). -/
def State.pathMtu (s : State) (p : Prt) (conn mtu : Nat) : State :=
  let f := s.host.ports.at p
  match s.conn? conn with
  | some c => if c.port = p.n then s.putPort p { f with mtus := (f.mtus.filter fun m => m.1 != conn) ++ [(conn, mtu)] } else s
  | none => s

/-- ICMPV4 (R370): an echo to the port's address is answered; Fragmentation Needed is honoured for TCP. -/
def execIcmpv4 (p : Prt) (f : IcmpFrame) (s : State) : Host.Outcome State Fault Refusal :=
  ok (s.frame p 0x21 fun s =>
    match f with
    | .echo source target => if (s.host.ports.at p).owns false target then s.sendNet p.n (.echo4 source) else s
    | .tooBig conn mtu => s.pathMtu p conn mtu
    | .other => s)

/-- ICMPV6 (R370): an echo is answered; Packet Too Big is honoured for TCP. -/
def execIcmpv6 (p : Prt) (f : IcmpFrame) (s : State) : Host.Outcome State Fault Refusal :=
  ok (s.frame p 0x22 fun s =>
    match f with
    | .echo source target => if (s.host.ports.at p).owns true target then s.sendNet p.n (.echo6 source) else s
    | .tooBig conn mtu => s.pathMtu p conn mtu
    | .other => s)

/-- NDP (R370): a solicitation of the port's address is answered; a router advertisement sets only the default router, where the
configuration names no gateway. -/
def execNdp (p : Prt) (f : NdpFrame) (s : State) : Host.Outcome State Fault Refusal :=
  ok (s.frame p 0x23 fun s =>
    let q := s.host.ports.at p
    match f with
    | .solicit target => if q.owns true target then s.sendNet p.n (.neighbour target (s.mac p)) else s
    | .advertise router => if q.cfg.gw6 = 0 then s.putPort p { q with router := router } else s)

/-- DHCPV4 (R370): in mode 2 an offer is requested, and an acknowledgement binds the lease. -/
def execDhcpv4 (p : Prt) (f : DhcpFrame) (s : State) : Host.Outcome State Fault Refusal :=
  ok (s.frame p 0x24 fun s =>
    let q := s.host.ports.at p
    if q.cfg.mode4 != 2 then s
    else
      match f with
      | .offer a => s.sendNet p.n (.dhcp4Request a)
      | .bound a => s.putPort p { q with ip4 := some a }
      | .refused => s.putPort p { q with ip4 := none })

/-- DHCPV6 (R370): the same for the global IPv6 address. -/
def execDhcpv6 (p : Prt) (f : DhcpFrame) (s : State) : Host.Outcome State Fault Refusal :=
  ok (s.frame p 0x25 fun s =>
    let q := s.host.ports.at p
    if q.cfg.mode6 != 2 then s
    else
      match f with
      | .offer a => s.sendNet p.n (.dhcp6Request a)
      | .bound a => s.putPort p (q.bind6 [a])
      | .refused => s.putPort p (q.bind6 []))

end Sys2Proof.Machine
end

