-- ==== Sys2Proof/Machine/Protocol.lean ====
section
/-!
DEFINITION. The protocol engine (R372 to R375, R377, R406): its loader, the PDUs that arrive at the head of a connection, and the
microcode that cores add under the dispatch keys 0x80 to 0xFF.
-/
namespace Sys2Proof.Machine

/-- Replace the protocol engine. -/
def State.putPre (s : State) (p : Pre) : State := { s with pre := p }

/-- PRE_LOAD (R372): LOAD written 1 starts the loader from off, loaded or stopped; it is ignored and reported otherwise. -/
def execPreLoad (i : Initiator) (s : State) : Host.Outcome State Fault Refusal :=
  ok (s.access i 0x40520000 4 fun s =>
    let st := s.get Reg.PRE_STATUS_STATE
    if st == 0 || st == 2 || st == 4 then { s.set Reg.PRE_STATUS_STATE 1 with bus := .written }
    else s.ignored i 0x40520000)

/-- PRE_LOAD_DONE (R39, R42, R372): the store holds the image's 2048 microwords; a signature that verifies under a key of the running slot
and reserved bits all 0 make the engine loaded, with the build and the stamps of the prologue; otherwise it is off and LOAD_FAIL is set. -/
def execPreLoadDone (s : State) : Host.Outcome State Fault Refusal :=
  if s.get Reg.PRE_STATUS_STATE = 1 then
    let a := s.get Reg.PRE_LOAD_LO_ADDR + 2 ^ 32 * s.get Reg.PRE_LOAD_HI_ADDR
    let words := s.imageWords a 16 2048
    let b := s.imageBytes a (512 + 16 * 2048)
    let sigOk := s.imageSigned b
    let s := (s.putPre { s.pre with store := words }).set Reg.PRE_INT_LOAD_DONE 1
    if sigOk && words.all fun p => preReservedOk p.1 p.2 then
      ok (((s.putPre { s.pre with provides := prologueProvides b }).set
        Reg.PRE_STATUS_STATE 2).set Reg.PRE_BUILD_BUILD (prologueBuild b))
    else ok ((s.set Reg.PRE_STATUS_STATE 0).set Reg.PRE_STATUS_LOAD_FAIL 1)
  else ok s

/-- PRE_RUN (R406): RUN written. A 1 starts a loaded or stopped engine, and is ignored and reported while it is off or loading, as R182
has it for the courier engine; a 0 stops a running one. -/
def execPreRun (i : Initiator) (v : Bool) (s : State) : Host.Outcome State Fault Refusal :=
  ok (s.access i 0x40520000 4 fun s =>
    let st := s.get Reg.PRE_STATUS_STATE
    if v && st ≤ 1 then (s.set Reg.PRE_CTRL_RUN 0).ignored i 0x40520000
    else
      let s := s.set Reg.PRE_CTRL_RUN (b2n v)
      { s.set Reg.PRE_STATUS_STATE (if v then 3 else if st = 3 then 4 else st) with bus := .written })

/-- PRE_CLR_PEAK (R406): CLR_PEAK written 1. -/
def execPreClrPeak (i : Initiator) (s : State) : Host.Outcome State Fault Refusal :=
  ok (s.access i 0x40520000 4 fun s => { s.set Reg.PRE_PEAK_CAPSULE_WAIT 0 with bus := .written })

/-- A connection is terminated with a C2HTermReq (R373, R377). -/
def State.terminate (s : State) (n : Nat) : State := (s.emit (.c2hTerm n)).loseConn n

/-- A PDU of so many bytes at the head of a connection, under its dispatch key (R373). -/
def State.pdu (s : State) (n key bytes : Nat) (f : Conn → State → State) : State :=
  match s.conn? n with
  | none => s
  | some c =>
    if !s.portUp (Prt.num c.port) || !s.preUp then s
    else if s.keyValid key then
      let c := { c with owed := c.owed + bytes }
      f c (s.putConn n c)
    else s.terminate n

/-- ICREQ (R377): answered with PFV 0, CPDA 0, MAXH2CDATA 131,072 and the digests asked for. Another PFV, and an ICReq on a connection
that had one, terminate it. -/
def execIcreq (conn pfv : Nat) (hdgst ddgst : Bool) (maxR2t : Nat) (s : State) : Host.Outcome State Fault Refusal :=
  ok (s.pdu conn 0x00 128 fun c s =>
    if c.ready || pfv != 0 then s.terminate conn
    else (s.putConn conn { c.sends 128 s.clockNs with ready := true, hdgst := hdgst, ddgst := ddgst, maxR2t := maxR2t,
                                                      window := max c.window (c.unacked + 128) }).emit (.icResp conn hdgst ddgst))

/-- H2C_TERM_REQ (R373): the host terminates the connection. -/
def execH2cTermReq (conn : Nat) (s : State) : Host.Outcome State Fault Refusal :=
  ok (s.pdu conn 0x02 24 fun _ s => s.loseConn conn)

/-- INVALID_PDU_TYPE (R373): a PDU type whose dispatch entry is not valid. -/
def execInvalidPduType (conn key : Nat) (s : State) : Host.Outcome State Fault Refusal :=
  ok (if s.keyValid key then s else s.pdu conn key 0 fun _ s => s)

/-- The fields of a protocol microword (R374). -/
structure PW where
  seq : Nat
  cond : Nat
  target : Nat
  alu : Nat
  a : Nat
  b : Nat
  d : Nat
  xfer : Nat
  arg : Nat
  imm : Nat
  deriving DecidableEq, Repr

/-- A protocol microword from its 128 bits (R374). -/
def PW.ofNat (w : Nat) : PW :=
  ⟨bitsOf w 127 124, bitsOf w 123 119, bitsOf w 118 108, bitsOf w 107 103, bitsOf w 102 96, bitsOf w 95 89, bitsOf w 88 82,
    bitsOf w 81 78, bitsOf w 77 64, bitsOf w 31 0⟩

/-- What a microword does beside moving data and control: 0 nothing, 1 to 6 its XFER, 7 it ends the handler, 8 CRC32C. -/
def PW.act (w : PW) : Nat :=
  if w.xfer != 0 then w.xfer else if w.seq = 8 then 7 else if w.alu = 0x11 then 8 else 0

/-- An operand code that the table reserves (R374). -/
def preReserved (c : Nat) : Bool := 0x65 ≤ c

/-- The value of an operand (R374). -/
def State.preOperand (s : State) (conn : Nat) (w : PW) (c : Nat) : Nat :=
  if c < 0x20 then sGet s.pre.g c 0
  else if c < 0x40 then sGet s.pre.h (c - 0x20) 0
  else if c < 0x60 then sGet s.pre.sw (32 * conn + (c - 0x40)) 0
  else if c = 0x60 then w.imm
  else if c = 0x62 then 1
  else if c = 0x63 then conn
  else if c = 0x64 then s.clockNs / 1000 % 2 ^ 32
  else 0

/-- A condition of a protocol microword (R374); whether the header and the data digest are good comes from the PDU. -/
def State.preCond (s : State) (conn c : Nat) (hdr data : Bool) : Bool :=
  match c with
  | 0x00 => true
  | 0x01 => s.pre.z
  | 0x02 => !s.pre.z
  | 0x03 => s.pre.n
  | 0x04 => !s.pre.n
  | 0x05 => s.pre.v
  | 0x06 => false
  | 0x07 => s.pre.lc == 0
  | 0x08 => hdr
  | 0x09 => data
  | 0x0A => (s.conn? conn).any fun k => k.unacked < k.window
  | 0x0B => s.host.cmds.length < 4096
  | 0x0C => 0 < s.poolFree 0 && s.get Reg.HQ_ITRAY_USED_MIB < 1024
  | 0x0D => false
  | 0x0E => false
  | 0x0F => false
  | c => bitOf (sGet s.pre.g 15 0) (c - 0x10)

/-- CRC32C of the ALU (R374): the four bytes of A, lowest first, folded into the running value B. -/
def crcFold (a b : Nat) : Nat :=
  (leBytes 4 a).foldl (fun c x => crc32cBit (crc32cBit (crc32cBit (crc32cBit (crc32cBit (crc32cBit (crc32cBit (crc32cBit
    (c ^^^ x))))))))) (b % 2 ^ 32)

/-- A microword that traps (R374): a sequencer, ALU, operand or XFER code that the tables do not give, a TRAP whose condition holds, a
fifth push, or a pop from an empty stack. -/
def State.preTraps (s : State) (w : PW) (cond : Bool) : Bool :=
  w.seq = 7 || 9 < w.seq || 0x11 < w.alu || 6 < w.xfer || preReserved w.a || preReserved w.b || preReserved w.d ||
    (cond && (w.seq = 9 || (w.seq = 3 && 4 ≤ s.pre.stack.length) || (w.seq = 4 && s.pre.stack.isEmpty)))

/-- A trap (R374): the handler ends, its connection is reset, TRAP and TRAP_PC tell where, and the returns desk hears of it. -/
def State.preTrap (s : State) (conn : Nat) : State :=
  let pc := s.pre.pc
  let s := s.putPre { s.pre with handler := none, stack := [] }
  let s := (s.setAll [(Reg.PRE_STATUS_TRAP, 1), (Reg.PRE_STATUS_TRAP_PC, pc), (Reg.PRE_INT_TRAP, 1)]).event 0x52 0x06 pc conn
  match s.conn? conn with
  | some c => (s.loseConn conn).sendNet c.port .rst
  | none => s

/-- The ALU's part of a protocol microword (R374): flags from the value written, as the courier engine has them. -/
def State.preAlu (s : State) (conn : Nat) (w : PW) : State :=
  if w.alu = 0 then s
  else
    let a := s.preOperand conn w w.a
    let b := s.preOperand conn w w.b
    let r := if w.alu = 0x11 then (crcFold a b, false) else aluResult w.alu a b
    let p := { s.pre with z := r.1 == 0, n := bitOf r.1 31, v := r.2 }
    if w.alu = 0x0F then s.putPre p
    else if w.d < 0x20 then s.putPre { p with g := sPut p.g w.d r.1 0 }
    else if 0x40 ≤ w.d && w.d < 0x60 then s.putPre { p with sw := sPut p.sw (32 * conn + (w.d - 0x40)) r.1 0 }
    else s.putPre p

/-- The XFER part of a protocol microword (R374). The bag handle, and what an entry or a message carries, is operand A; the payload is
that of the capsule at the head of the connection (DEDUCED; log 45). -/
def State.preXfer (s : State) (conn : Nat) (w : PW) (a : Nat) : State :=
  match w.xfer with
  | 1 => match (s.conn? conn).bind fun c => c.waiting.head? with
    | some cap => if bagNamed a then s.bagStore [a] 0 (cap.data.map (BitVec.ofNat 8)) else s
    | none => s
  | 2 => if bagNamed a then s.emit (.transmit conn (s.bagRead [a] 0 (poolBytes (bagPool a)))) else s
  | 3 => s.emit (.pdu conn w.arg ((List.range 32).map fun k => sGet s.pre.sw (32 * conn + k) 0))
  | 4 => s.putPre { s.pre with posts := s.pre.posts ++ [(conn, a)] }
  | 5 => (s.putPre { s.pre with msgs := s.pre.msgs ++ [(w.arg, a)] }).set Reg.PRE_INT_CORE_MSG 1
  | 6 => s.bagRelease a 0x52
  | _ => s

/-- The sequencer's part (R374). -/
def State.preSeq (s : State) (w : PW) (cond : Bool) : State :=
  let p := s.pre
  let inc := (p.pc + 1) % 2048
  match w.seq with
  | 1 => s.putPre { p with pc := if cond then w.target else inc }
  | 2 => s.putPre { p with pc := if cond then inc else w.target }
  | 3 => s.putPre (if cond then { p with pc := w.target, stack := inc :: p.stack } else { p with pc := inc })
  | 4 => s.putPre (if cond then { p with pc := p.stack.headD inc, stack := p.stack.tail } else { p with pc := inc })
  | 5 =>
    let lc := (p.lc + 65535) % 65536
    s.putPre { p with lc := lc, pc := if lc = 0 then inc else w.target }
  | 6 => s.putPre { p with lc := w.imm % 65536, pc := inc }
  | 8 => s.putPre { p with handler := none, stack := [] }
  | _ => s.putPre { p with pc := inc }

/-- One microword of the running handler. -/
def State.preWord (s : State) (conn : Nat) (hdr data : Bool) : State :=
  let w := PW.ofNat (sGet s.pre.store s.pre.pc 0)
  let cond := s.preCond conn w.cond hdr data
  if s.preTraps w cond then s.preTrap conn
  else
    let a := s.preOperand conn w w.a
    ((s.preAlu conn w).preXfer conn w a).preSeq w cond

/-- The class of a dispatch key (R372, R375). -/
def State.keyClass (s : State) (key : Nat) : Nat := min 2 (bitsOf (sGet s.pre.store key 0) 12 11)

/-- The handler that runs next (R375): of the lowest class with work, the first connection after the one that class served last. -/
def State.preNext (s : State) : Option (Nat × Nat × Nat) :=
  [0, 1, 2].findSome? fun k =>
    let q := s.pre.queue.filter fun e => s.keyClass e.1 == k
    let last := s.pre.last.getD k 0
    let after (e : Nat × Nat × Nat) : Nat := (e.2.1 + 255 - last) % 256
    (sortBy (fun x y => after x ≤ after y) q).head?

/-- Begin the next handler: its argument in G0, at its entry's TARGET. -/
def State.preBegin (s : State) : State :=
  match s.pre.handler, s.preNext with
  | none, some e =>
    let p := { s.pre with queue := s.pre.queue.erase e, handler := some (e.1, e.2.1), g := sPut s.pre.g 0 e.2.2 0, stack := [],
                          pc := bitsOf (sGet s.pre.store e.1 0) 10 0, last := s.pre.last.set (s.keyClass e.1) e.2.1 }
    s.putPre p
  | _, _ => s

/-- Run plain microwords until one with an act of its own is next, or the handler ends. -/
def State.prePlain (s : State) (hdr data : Bool) : Nat → State
  | 0 => s
  | n + 1 =>
    match s.pre.handler with
    | none => s
    | some (_, conn) =>
      if (PW.ofNat (sGet s.pre.store s.pre.pc 0)).act = 0 then State.prePlain (s.preWord conn hdr data) hdr data n else s

/-- Run the handler up to and with its next microword whose act is `k` (R374, R375); where another act comes first nothing runs. -/
def State.preAct (s : State) (k : Nat) (hdr data : Bool) : State :=
  if !s.preUp then s
  else
    let t := s.preBegin.prePlain hdr data 1024
    match t.pre.handler with
    | none => t
    | some (_, conn) => if (PW.ofNat (sGet t.pre.store t.pre.pc 0)).act = k then t.preWord conn hdr data else s

/-- PRE_END (R374). -/
def execPreEnd (hdr data : Bool) (s : State) : Host.Outcome State Fault Refusal := ok (s.preAct 7 hdr data)

/-- CRC32C (R374). -/
def execCrc32c (hdr data : Bool) (s : State) : Host.Outcome State Fault Refusal := ok (s.preAct 8 hdr data)

/-- PAYLOAD_TO_BAGS (R374). -/
def execPayloadToBags (hdr data : Bool) (s : State) : Host.Outcome State Fault Refusal := ok (s.preAct 1 hdr data)

/-- BAGS_TO_TRANSMIT_QUEUE (R374). -/
def execBagsToTransmitQueue (hdr data : Bool) (s : State) : Host.Outcome State Fault Refusal := ok (s.preAct 2 hdr data)

/-- BUILD_AND_SEND_PDU (R374). -/
def execBuildAndSendPdu (hdr data : Bool) (s : State) : Host.Outcome State Fault Refusal := ok (s.preAct 3 hdr data)

/-- POST_IN_TRAY_ENTRY (R374). -/
def execPostInTrayEntry (hdr data : Bool) (s : State) : Host.Outcome State Fault Refusal := ok (s.preAct 4 hdr data)

/-- POST_CORE_MESSAGE (R374). -/
def execPostCoreMessage (hdr data : Bool) (s : State) : Host.Outcome State Fault Refusal := ok (s.preAct 5 hdr data)

/-- RELEASE_BAGS (R374). -/
def execReleaseBags (hdr data : Bool) (s : State) : Host.Outcome State Fault Refusal := ok (s.preAct 6 hdr data)

/-- CORE_POSTED_EVENT (R373, R406): a write of PRE_POST. A key below 0x80 is ignored and reported; one whose entry is not valid has no
handler to run. -/
def execCorePostedEvent (i : Initiator) (arg conn key : Nat) (s : State) : Host.Outcome State Fault Refusal :=
  ok (s.access i 0x4052001C 4 fun s =>
    let key := key % 256
    if key < 0x80 then s.ignored i 0x4052001C
    else if !s.keyValid key then { s with bus := .written }
    else { s.putPre { s.pre with queue := s.pre.queue ++ [(key, conn % 256, arg % 65536)] } with bus := .written })

end Sys2Proof.Machine
end

