-- ==== Sys2Proof/Machine/Admit.lean ====
section
/-!
DEFINITION. Commands between the wire and their work (R377 to R379, R389 to R396): capsules and their admission, range locks, the bags
and the data of writes, what is sent back, and the asynchronous events.
-/
namespace Sys2Proof

/-- Write Zeroes with the deallocate bit (R383), in CDW12 [25]. -/
def Capsule.deac (c : Capsule) : Bool := bitOf (c.w 12) 25

end Sys2Proof

namespace Sys2Proof.Machine

/-- A command of an admin queue, or one tunnelled over NVMe-MI (R382, R402). -/
def State.isAdmin (s : State) (c : Cmd) : Bool := c.conn == miConn || (s.conn? c.conn).any fun k => k.qid == 0

/-- The bytes of data that the host sends with a command. -/
def State.hostBytes (s : State) (c : Cmd) : Nat :=
  let cap := c.cap
  match s.cmdOp c with
  | some .write => 4096 * cap.nlb
  | some .append => 4096 * cap.nlb
  | some .store => cap.w 10
  | some .discard => 16 * (cap.w 10 % 256 + 1)
  | some .resRegister => 16
  | some .resAcquire => 16
  | some .resRelease => 8
  | some _ => 0
  | none =>
    if !s.isAdmin c && !(cap.opcode == 0x7F) then 0
    else if cap.opcode = 0x7F then (if cap.fctype = 1 then 1024 else 0)
    else if cap.opcode = 0x09 then
      (if cap.w 10 % 256 = 0x16 then 512 else if cap.w 10 % 256 = 0xC0 then 128 else 0)
    else if cap.opcode = 0x0D then (if cap.w 10 % 16 = 0 then 4096 else 0)
    else if cap.opcode = 0x11 then 4 * (cap.w 10 + 1)
    else 0

/-- The admin opcodes of R382 and R384. -/
def adminOpcodes : List Nat := [0x02, 0x06, 0x08, 0x09, 0x0A, 0x0C, 0x0D, 0x10, 0x11, 0x18, 0x80, 0x84, 0xC0, 0xC1, 0xC2]

/-- Those that a discovery controller takes (PRESUMED; log 33). -/
def discoveryOpcodes : List Nat := [0x02, 0x06, 0x08, 0x09, 0x0A, 0x0C, 0x18]

/-- Those that are tunnelled over NVMe-MI (R402). -/
def tunnelledOpcodes : List Nat := [0x02, 0x06, 0x09, 0x0A, 0x10, 0x11, 0x84]

/-- An action of a namespace or vendor command that the spec does not give (R382, R384): Invalid Field (DESIGN CHOICE; log 144). -/
def noAction (op : Nat) (c : Capsule) : Bool :=
  (op = 0x0D && 1 < c.w 10 % 16) || (op = 0xC0 && bitsOf (c.w 10) 9 8 = 3) || (op = 0xC1 && (c.w 10 % 4 = 0 || c.w 10 % 4 = 3))

/-- What refuses an admin or fabrics command at admission (R376, R382, R395): before its queue is connected only Connect is taken, and
before the controller is enabled only fabrics commands (PRESUMED; log 33). -/
def State.adminVerdict (s : State) (c : Cmd) : Option Verdict :=
  let op := c.cap.opcode
  let busy : Option Verdict :=
    if s.host.sanitize = 2 && [0x0D, 0x80, 0x84, 0xC2].contains op then some (verdict .sanitizeInProgress false) else none
  if c.conn = miConn then
    if tunnelledOpcodes.contains op then busy else some (verdict .invalidOpcode true)
  else
    match s.cmdAssoc c with
    | none => if op = 0x7F && c.cap.fctype = 1 then none else some (verdict .sequenceError true)
    | some a =>
      if op = 0x7F then
        (if c.cap.fctype = 1 then some (verdict .sequenceError true)
         else if [0, 4, 8].contains c.cap.fctype then none else some (verdict .invalidField true))
      else if !((if a.discovery then discoveryOpcodes else adminOpcodes).contains op) then some (verdict .invalidOpcode true)
      else if !a.ready then some (verdict .sequenceError true)
      else if noAction op c.cap then some (verdict .invalidField true)
      else busy

/-- The namespace's parcels that a range of blocks touches. -/
def Ns.parcelsOf (n : Ns) (first count : Nat) : List Nat :=
  (List.range ((first + count + 63) / 64 - first / 64)).map fun k => n.lpn + first / 64 + k

/-- A parcel is unmapped (R303). -/
def State.unmapped (s : State) (lpn : Nat) : Bool :=
  let e := s.mapEntry lpn
  !entFC e && !entSC e

/-- A command's own parameters are refused (R383, R395); the numbers of the zoned and key-value command sets are PRESUMED (log 33). -/
def rangeFault (n : Ns) (c : Capsule) (op : IoOp) : Option Status :=
  let beyond := n.size < c.slba + c.nlb
  let keyBad := c.keyLen = 0 || 16 < c.keyLen
  match op with
  | .write => if 16384 < c.nlb then some .invalidField else if beyond then some .lbaOutOfRange else none
  | .read => if 16384 < c.nlb then some .invalidField else if beyond then some .lbaOutOfRange else none
  | .append => if 256 < c.nlb || c.slba % 65536 != 0 then some .invalidField else if beyond then some .lbaOutOfRange else none
  | .writeZeroes => if beyond then some .lbaOutOfRange else none
  | .verify => if beyond then some .lbaOutOfRange else none
  | .discard =>
    if (dsmRanges c.data (c.w 10 % 256 + 1)).any fun r => n.size < r.1 + r.2 then some .lbaOutOfRange else none
  | .zoneSend =>
    let action := c.w 13 % 256
    if action = 0 || 4 < action then some .invalidField
    else if bitOf (c.w 13) 8 then none
    else if n.size ≤ c.slba then some .lbaOutOfRange
    else if c.slba % 65536 != 0 then some .invalidField
    else none
  | .zoneReceive => if c.w 13 % 256 != 0 then some .invalidField else if n.size ≤ c.slba then some .lbaOutOfRange else none
  | .store => if keyBad then some .invalidKeySize else if 2 ^ 26 < c.w 10 then some .invalidValueSize else none
  | .retrieve => if keyBad then some .invalidKeySize else none
  | .delete => if keyBad then some .invalidKeySize else none
  | .exist => if keyBad then some .invalidKeySize else none
  | .list => if 16 < c.keyLen then some .invalidKeySize else none
  | _ => none

/-- A write to a zone would need a new zone set (R322). -/
def State.needsZoneSet (s : State) (n : Ns) (slba : Nat) : Bool :=
  (n.zone (slba / 65536)).bound.isNone &&
    !(s.office.groups.any fun p => p.2.kind == 3 && !p.2.closed && !(s.unbound p.1).isEmpty)

/-- Capacity Exceeded (R322, R325, R331): a write that needs a fresh parcel while G_free is at or below RESERVE_GROUPS, a new key where the
index or both of its buckets are full, and a value for which the store has no LPNs left (DEDUCED; log 34). -/
def State.noCapacity (s : State) (nsid : Nat) (n : Ns) (c : Capsule) (op : IoOp) : Bool :=
  let low := s.gFree ≤ s.get Reg.SOF_RESERVE_RESERVE_GROUPS
  if op = .store then
    let key := kvKey nsid c.keyLen c.keyNat
    let fresh := (sGet? s.host.kv key).isNone
    (fresh && (low || 2 ^ 28 ≤ s.host.kv.length ||
      (8 ≤ s.bucketUse (bucketAt true key) && 8 ≤ s.bucketUse (bucketAt false key)))) ||
    (1024 * s.get Reg.SOF_KV_BUNDLE_MAX < c.w 10 && (s.findRun n (runParcels (c.w 10))).isNone)
  else if n.csi = 2 then low && s.needsZoneSet n c.slba
  else low && (n.parcelsOf c.slba c.nlb).any s.unmapped

/-- What answers an I/O command at admission (R263, R383, R385, R395), in this order: the namespace and the opcode, a sanitize, a power
event, readiness, reservations, write protection, the command's own parameters, writes held for timing, and capacity. Flush and the
reservation commands need no media (DEDUCED; log 35). -/
def State.ioVerdict (s : State) (c : Cmd) : Option Verdict :=
  match s.ns? c.cap.nsid with
  | none => some (verdict .invalidNamespace true)
  | some n =>
    match ioOp n.csi c.cap.opcode with
    | none => some (verdict .invalidOpcode true)
    | some op =>
      let enters := op.enters && !(op == .writeZeroes && n.csi == 0 && c.cap.deac)
      if s.host.sanitize = 2 then some (verdict .sanitizeInProgress false)
      else if 3 ≤ s.get Reg.PWR_STATUS_PHASE || (op.writes && (s.powerEvent || s.on Reg.HQ_CTRL_WR_FREEZE)) then some interrupted
      else if (op.writes || op.reads) && !s.host.mediaReady then
        some (if s.spSt = 0xA && s.spn.startTag.isNone then verdict .namespaceNotReady true
              else ⟨.namespaceNotReady, false, s.crdEstimate⟩)
      else if (s.cmdAssoc c).any fun a => n.conflict a.hostId op then some (verdict .reservationConflict true)
      else if op.writes && s.protectedNs n then some (verdict .writeProtected true)
      else
        match rangeFault n c.cap op with
        | some st => some (verdict st true)
        | none =>
          if enters && s.writesHeld && s.heldFull then some ⟨.namespaceNotReady, false, 2⟩
          else if enters && s.noCapacity c.cap.nsid n c.cap op then some (verdict .capacityExceeded true)
          else none

/-- What answers a command at admission, none where it goes on: one whose in-capsule data failed its digest at once (R377). In-capsule data is the command's whole data (PRESUMED; log 33). -/
def State.admission (s : State) (c : Cmd) : Option Verdict :=
  let v :=
    if c.cap.badData then some (verdict .transientTransport false)
    else if s.isAdmin c || c.cap.opcode = 0x7F then s.adminVerdict c
    else if (s.cmdAssoc c).any (·.ready) then s.ioVerdict c
    else some (verdict .sequenceError true)
  if v.isNone && !c.cap.data.isEmpty && c.cap.data.length != c.need then some (verdict .invalidField true) else v

/-- Enter a command's locks in admission order (R392, R393): each is held at once where it conflicts with none before it. Where the
512 entries do not hold them, or a command before it waits for entries, the command waits for entries itself. -/
def State.enterLocks (s : State) (serial : Nat) (c : Cmd) : State :=
  let l := s.locksFor serial c
  if l.isEmpty then s
  else if 512 < s.host.locks.length + l.length || s.host.cmds.any fun p => p.2.noEntry && p.1 < serial then
    (s.putCmd serial { c with noEntry := true }).set Reg.HQ_INT_LOCKS_FULL 1
  else
    let l := l.map fun k => { k with held := !(s.host.locks.any fun o => o.conflicts k) }
    let s := s.putCmd serial { c with noEntry := false }
    s.putHost { s.host with locks := s.host.locks ++ l }

/-- An I/O command in a non-operational power state starts the return (R398): its controller is in power state 0 again (DESIGN CHOICE;
log 144). -/
def State.wakeUp (s : State) (c : Cmd) : State :=
  if s.host.ps < 3 then s
  else
    match (s.conn? c.conn).bind (·.assoc) with
    | none => s
    | some n => match s.assoc? n with
      | some a => s.putAssoc n { a with feats := sIns a.feats 0x02 (sGet a.feats 0x02 0 / 32 * 32) }
      | none => s

/-- A command is taken and admitted (R378, R393, R395): answered at once, or on its way. -/
def State.admitCmd (s : State) (conn : Nat) (cap : Capsule) : State :=
  let n := s.host.serial
  let c : Cmd := ⟨conn, cap, s.ms, none, 0, 0, 0, [], 0, [], false, false, false, none, false⟩
  let need := s.hostBytes c
  let c := { c with need := need }
  let c := if cap.data.isEmpty || (s.cmdOp c).any IoOp.enters then c else { c with got := need, asked := need }
  let s := s.putHost { s.host with serial := n + 1, lastMs := s.ms, cmds := sIns s.host.cmds n c }
  let s := s.putOffice { s.office with idle := false }
  let s := match s.admission c with
    | some v => s.answer n { v with crd := s.crdFor c v.crd }
    | none => s.enterLocks n c
  (if (s.cmdOp c).any fun op => op.reads || op.writes then s.wakeUp c else s).hqRefresh

/-- NVMe-MI answers (R402): while any core is powered, and not in shelf-hold. -/
def State.miUp (s : State) : Bool := [13, 14, 15, 16, 17].any s.pdOn && !s.krx.shelfHold

/-- CAPSULE_CMD (R377, R378): a command capsule arrives and stays in the connection's receive buffer until it is taken. A header digest
failure terminates the connection; so do more than 8192 bytes of in-capsule data, and a capsule before the ICReq. What does not fit in the
space advertised is not received (R403). Under the number above
every connection stands an admin command tunnelled over NVMe-MI (R402), which is admitted at once. -/
def execCapsuleCmd (conn : Nat) (cap : Capsule) (hdr : Bool) (s : State) : Host.Outcome State Fault Refusal :=
  if conn = miConn then ok (if s.miUp && s.host.cmds.length < 4096 then s.admitCmd conn cap else s)
  else
    ok (s.pdu conn 0x04 (capsuleBytes cap) fun c s =>
      let cap := { cap with badData := cap.badData && c.ddgst && !cap.data.isEmpty }
      if !c.ready || 8192 < cap.data.length || (c.hdgst && !hdr) then s.terminate conn
      else if s.rcvSpace c < (capsuleBytes cap) then s
      else s.putConn conn { c with waiting := c.waiting ++ [cap] })

/-- CAPSULE_TAKE (R378, R396): the capsule at the head of a connection is taken while fewer than 4096 commands are in flight and its queue
holds fewer than its depth less one, and during no service interruption (R27). `wait` is how long it stood there in 100 ns units, `us` how
long its admission took in µs, from the end of an interruption where one fell into it. -/
def execCapsuleTake (conn wait us : Nat) (s : State) : Host.Outcome State Fault Refusal :=
  match s.conn? conn with
  | none => ok s
  | some k =>
    match k.waiting with
    | [] => ok s
    | cap :: rest =>
      let room := (s.cmdsOf conn).length < if k.assoc.isSome then k.depth - 1 else 1
      if !s.preUp || !s.portUp (Prt.num k.port) || !s.on Reg.HQ_CTRL_ENABLE || 4096 ≤ s.host.cmds.length || !room || s.interruption then ok s
      else
        let head := if k.depth = 0 then k.sqhd + 1 else (k.sqhd + 1) % k.depth
        let s := s.putConn conn { k with waiting := rest, sqhd := head }
        let s := s.set Reg.PRE_PEAK_CAPSULE_WAIT (max (s.get Reg.PRE_PEAK_CAPSULE_WAIT) (min 65535 wait))
        let s := s.set Reg.HQ_ADMIT_PEAK_US (max (s.get Reg.HQ_ADMIT_PEAK_US) (min 65535 us))
        let s := if 100 < us then s.set Reg.HQ_INT_ADMIT_LATE 1 else s
        ok (s.admitCmd conn cap)

/-- Grant the locks of a command that no earlier conflicting lock of another command keeps waiting (R393). -/
def grantOf (owner : Nat) (before : List RangeLock) : List RangeLock → List RangeLock
  | [] => []
  | k :: t =>
    let free := !(before.any fun o => o.owner != owner && o.conflicts k)
    (if k.owner = owner && free then { k with held := true } else k) :: grantOf owner (before ++ [k]) t

/-- LOCK_GRANT (R393, R395): a command that waits for lock entries gets them in admission order once they are free, and one whose locks
wait is granted them; the reservation is checked again when it holds them all. -/
def execLockGrant (serial : Nat) (s : State) : Host.Outcome State Fault Refusal :=
  match s.cmd? serial with
  | none => ok s
  | some c =>
    if c.verdict.isSome || c.orphan then ok s
    else
      let s := if c.noEntry then s.enterLocks serial c
        else s.putHost { s.host with locks := grantOf serial [] s.host.locks }
      let lost := match s.ns? c.cap.nsid, s.cmdOp c with
        | some n, some op => (s.cmdAssoc c).any fun a => n.conflict a.hostId op
        | _, _ => false
      match s.cmd? serial with
      | some c =>
        let s := if lost && s.locked serial c then s.answer serial (verdict .reservationConflict true) else s
        ok s.hqRefresh
      | none => ok s

/-- A command waits for bags: it is to be given its data, and its locks are held. -/
def State.waitsBags (s : State) (serial : Nat) (c : Cmd) : Bool :=
  c.verdict.isNone && !c.orphan && c.asked < c.need && s.locked serial c

/-- Take bags for so many bytes, 64 KiB each and 4 KiB each for what is left. Answers none where a pool has none. -/
def State.takeBags (s : State) (pick : Nat) : List Nat → List Nat → State × Option (List Nat)
  | [], got => (s, some got.reverse)
  | pool :: t, got =>
    match s.bagAlloc pool pick with
    | (s, some h) => State.takeBags s pick t (h :: got)
    | (_, none) => (s, none)

/-- The data the in-tray has not placed on the media, in bytes. -/
def State.unplaced (s : State) : Nat := bagsRoom (s.host.tray.flatMap (·.bags))

/-- BAGS_RESERVED_FOR_TRANSFER (R376, R389, R390, R426): the earliest admitted command that waits for bags is given those of its next
chunk of at most 131,072 bytes. In-capsule data goes into them at once; for any other an R2T is sent, while fewer than the lesser of
MAXR2T + 1 and 4 are outstanding. It is withheld while the in-tray's 1 GiB, the pools or the erased reserve do not hold it, and is told. -/
def execBagsReservedForTransfer (serial pick : Nat) (s : State) : Host.Outcome State Fault Refusal :=
  match s.cmd? serial with
  | none => ok s
  | some c =>
    let first := !(s.host.cmds.any fun p => p.1 < serial && s.waitsBags p.1 p.2)
    let inside := !c.cap.data.isEmpty
    let k := s.conn? c.conn
    let r2ts := (c.asked - c.got + 131071) / 131072
    let most := min 4 ((k.map (·.maxR2t)).getD 0 + 1)
    let up := c.conn != miConn && s.serves 0x41 && k.any fun k => s.portUp (Prt.num k.port)
    if !s.waitsBags serial c || !first || !up || (!inside && (most ≤ r2ts || !k.any fun k => k.fits 24)) then ok s
    else
      let n := min 131072 (c.need - c.asked)
      let pools := List.replicate (n / 65536) 1 ++ List.replicate ((n % 65536 + 4095) / 4096) 0
      let full := 2 ^ 30 < s.unplaced + bagsRoom (s.host.cmds.flatMap fun c => c.2.bags) + n
      let worn := s.pdOn 23 && s.erasedReserve < s.unplaced + 144 * 2 ^ 20
      let full := full || worn
      match s.takeBags pick pools [] with
      | (t, some bags) =>
        if full then ok (s.set Reg.HQ_INT_ITRAY_FULL 1)
        else
          let c := { c with bags := c.bags ++ bags, asked := c.asked + n }
          if inside then
            let t := t.putCmd serial { c with got := c.asked }
            ok (t.bagStore c.bags 0 (c.cap.data.map (BitVec.ofNat 8))).hqRefresh
          else
            let t := match k with
              | some k => t.putConn c.conn (k.sends 24 s.clockNs)
              | none => t
            ok ((t.putCmd serial c).emit (.r2t c.conn c.cap.cid (c.asked - n) n)).hqRefresh
      | (_, none) => ok (s.set Reg.HQ_INT_ITRAY_FULL 1)

/-- H2C_DATA (R377, R389): data for the R2Ts outstanding, in order, goes into the bags reserved. Its digests are checked where the connection
has them: a header digest that fails terminates the connection, a data digest that fails completes the command. -/
def execH2cData (serial offset : Nat) (data : List Nat) (hdr good : Bool) (s : State) : Host.Outcome State Fault Refusal :=
  match s.cmd? serial with
  | none => ok s
  | some c =>
    ok (s.pdu c.conn 0x06 (24 + data.length) fun k s =>
      if k.hdgst && !hdr then s.terminate c.conn
      else if c.verdict.isSome || c.orphan || offset != c.got || c.asked < c.got + data.length then s
      else if k.ddgst && !good then s.answer serial (verdict .transientTransport false)
      else
        let s := s.putCmd serial { c with got := c.got + data.length }
        (s.bagStore c.bags offset (data.map (BitVec.ofNat 8))).hqRefresh)

/-- The data a command came with. -/
def State.cmdData (s : State) (c : Cmd) : List Nat := if c.bags.isEmpty then c.cap.data else s.bagRead c.bags 0 c.need

/-- READ_DATA_READY (R373, R391, R403): the data of a command that reads goes to TCP, while the peer's window holds it. -/
def execReadDataReady (serial : Nat) (s : State) : Host.Outcome State Fault Refusal :=
  match s.cmd? serial with
  | none => ok s
  | some c =>
    let n := c.reply.length
    if c.sent || c.orphan || n = 0 || c.verdict != some good then ok s
    else if c.conn = miConn then ok ((s.putCmd serial { c with sent := true }).emit (.data c.conn c.cap.cid c.reply 0))
    else
      match s.conn? c.conn with
      | none => ok s
      | some k =>
        if !s.serves 0x42 || !s.portUp (Prt.num k.port) || !k.fits (24 + n) then ok s
        else
          let s := s.putConn c.conn (k.sends (24 + n) s.clockNs)
          ok ((s.putCmd serial { c with sent := true }).emit (.data c.conn c.cap.cid c.reply (s.packetMax c.conn k)))

/-- A write that joined a flush waits with its completion until the flush has completed (R263). -/
def State.joined (s : State) (c : Cmd) : Bool := c.tray.isSome && s.pwr.flushing

/-- What the completion of a command starts: 100 ms from that of a Shelf Service enter, the departure (R384). -/
def State.afterResponse (s : State) (c : Cmd) : State :=
  if s.isAdmin c && c.cap.opcode = 0xC1 && c.cap.w 10 % 4 = 1 && c.verdict = some good then
    s.putHost { s.host with shelfMs := some s.ms }
  else s

/-- RESPONSE_READY (R263, R373, R378, R403): the response capsule goes to TCP with SQHD, and the command's slot, locks and bags are free
again. An abandoned command leaves without one. -/
def execResponseReady (serial : Nat) (s : State) : Host.Outcome State Fault Refusal :=
  match s.cmd? serial with
  | none => ok s
  | some c =>
    match c.verdict with
    | none => ok s
    | some v =>
      if c.orphan then ok (s.dropCmd serial)
      else if (v == good && !c.reply.isEmpty && !c.sent) || s.joined c then ok s
      else if c.conn = miConn then ok ((s.emit (.response c.conn c.cap.cid v c.dw0 0)).dropCmd serial)
      else
        match s.conn? c.conn with
        | none => ok (s.dropCmd serial)
        | some k =>
          if !s.serves 0x40 || !s.portUp (Prt.num k.port) || !k.fits 24 then ok s
          else
            let s := s.putConn c.conn (k.sends 24 s.clockNs)
            let s := s.emit (.response c.conn c.cap.cid v c.dw0 k.sqhd)
            ok ((s.afterResponse c).dropCmd serial)

/-- The cause of an asynchronous event holds (R400). -/
def State.eventCause (s : State) (e : Event) : Bool :=
  match e.type, e.info with
  | 1, 0 => s.criticalWarning / 4 != 0
  | 1, 1 => s.beyondThreshold
  | 1, 2 => s.availableSpare ≤ 10
  | 2, 0 => !s.host.changedNs.isEmpty
  | 2, 0xEF => !s.host.changedZones.isEmpty
  | 6, 0 => !s.host.resNotes.isEmpty
  | 6, 1 => s.host.sanitize == 1
  | 7, 1 => 0 < s.host.mediaErrs
  | 7, 2 => 0 < s.host.degraded
  | 7, 3 => s.retiredMask != 0
  | 7, 4 => 0 < s.get Reg.FRK_COUNTS_SHEDS
  | _, _ => false

/-- The log page of an event (R400). -/
def eventPage (type info : Nat) : Nat :=
  match type, info with
  | 1, _ => 0x02
  | 2, 0 => 0x04
  | 2, 1 => 0x03
  | 2, _ => 0xBF
  | 6, 0 => 0x80
  | 6, _ => 0x81
  | 7, 1 => 0x01
  | 7, 2 => 0xC3
  | 7, 3 => 0xC1
  | 7, _ => 0xC2
  | _, _ => 0

/-- ASYNCHRONOUS_EVENT (R400): an event whose cause holds completes the oldest request outstanding at every controller, or is retained. -/
def execAsynchronousEvent (type info : Nat) (s : State) : Host.Outcome State Fault Refusal :=
  let e : Event := ⟨type, info, eventPage type info⟩
  ok (if s.serves 0x43 && s.eventCause e then s.raiseEvent e else s)

/-- ASSOCIATION_END (R379): an association ends on one of its causes. -/
def execAssociationEnd (a : Nat) (s : State) : Host.Outcome State Fault Refusal := ok (s.endAssoc a)

/-- KEEP_ALIVE_TIMER (R379, R382): an association whose keep-alive time has passed since it was last restarted ends. -/
def execKeepAliveTimer (a : Nat) (s : State) : Host.Outcome State Fault Refusal :=
  match s.assoc? a with
  | none => ok s
  | some x => ok (if x.kato != 0 && x.seenNs + 1000000 * x.kato ≤ s.clockNs then s.endAssoc a else s)

/-- An admin command of an opcode that has been admitted, whose data is here and which is not yet answered. -/
def State.onAdmin (s : State) (serial opcode : Nat) (f : Cmd → State → State) : State :=
  match s.cmd? serial with
  | none => s
  | some c =>
    if c.verdict.isNone && !c.orphan && c.whole && s.isAdmin c && c.cap.opcode == opcode then f c s else s

/-- A fabrics command of a type. -/
def State.onFabrics (s : State) (serial fctype : Nat) (f : Cmd → State → State) : State :=
  match s.cmd? serial with
  | none => s
  | some c =>
    if c.verdict.isNone && !c.orphan && c.whole && c.cap.opcode == 0x7F && c.cap.fctype == fctype then f c s else s

/-- An I/O command that has been admitted, holds its locks, has its data and is not yet answered. -/
def State.onIo (s : State) (serial : Nat) (op : IoOp) (f : Cmd → Ns → State → State) : State :=
  match s.cmd? serial with
  | none => s
  | some c =>
    if c.verdict.isNone && !c.orphan && c.whole && s.locked serial c && s.cmdOp c == some op then
      match s.ns? c.cap.nsid with
      | some n => f c n s
      | none => s.answer serial (verdict .invalidNamespace true)
    else s

end Sys2Proof.Machine
end

