-- ==== Sys2Proof/Machine/Admin.lean ====
section
/-!
DEFINITION. Fabrics and admin commands (R376, R379, R382, R385, R400, R404): Connect and Disconnect, properties, Keep Alive, Asynchronous
Event Request, Abort, features, and Firmware Image Download.
-/
namespace Sys2Proof.Machine

/-- The association of a command's connection, with its number. -/
def State.assocOf (s : State) (c : Cmd) : Option (Nat × Assoc) :=
  (s.conn? c.conn).bind fun k => k.assoc.bind fun n => (s.assoc? n).map fun a => (n, a)

/-- The characters of a name as bytes. -/
def nameBytes (n : String) : List Nat := n.toList.map Char.toNat

/-- The subsystem's name up to the serial number (R376). -/
def subsystemName : List Nat := nameBytes "nqn.2024-01.com.grenuri:vk432m:"

/-- The well-known discovery name (R376; its text is PRESUMED, log 33). -/
def discoveryName : List Nat := nameBytes "nqn.2014-08.org.nvmexpress.discovery"

/-- The keep-alive times accepted, in ms (R382). -/
def katoOk (ms : Nat) : Bool := ms = 0 || (1000 ≤ ms && ms ≤ 3600000)

/-- What refuses a Connect (R376): the association limit with Controller Busy, any other limit with Connect Invalid Parameters. The
fields are those of the fabrics command: QID in CDW10 [31:16], SQSIZE in CDW11 [15:0], the keep-alive time in CDW12, and in the data the
Host Identifier, CNTLID at byte 16 and SUBNQN at byte 256 (PRESUMED; log 33). -/
def State.connectRefusal (s : State) (c : Cmd) : Option Status :=
  let d := s.cmdData c
  let qid := c.cap.w 10 / 2 ^ 16
  let depth := c.cap.w 11 % 2 ^ 16 + 1
  let hostId := ofBytes (d.take 16)
  let cntlid := ofBytes ((d.drop 16).take 2)
  let name := d.drop 256
  let discovery := discoveryName == name.take discoveryName.length
  let known := discovery || subsystemName == name.take subsystemName.length
  if !known then some .connectInvalid
  else if qid = 0 then
    if 32 ≤ s.host.assocs.length then some .controllerBusy
    else if cntlid != 0xFFFF || depth < 2 || 32 < depth || !katoOk (c.cap.w 12) then some .connectInvalid
    else none
  else
    match s.assoc? cntlid with
    | none => some .connectInvalid
    | some a =>
      let mine := s.host.conns.filter fun p => p.2.assoc == some cntlid && 0 < p.2.qid
      let all := s.host.conns.filter fun p => 0 < p.2.qid
      if a.discovery || !a.ready || a.hostId != hostId || depth < 2 || 256 < depth || 32 ≤ mine.length || 128 ≤ all.length ||
          (mine.any fun p => p.2.qid == qid) then some .connectInvalid
      else none

/-- The lowest controller number that no association has; the controllers are dynamic (R376). -/
def State.freeAssoc (s : State) : Nat := ((List.range 33).find? fun n => n != 0 && (s.assoc? n).isNone).getD 0

/-- CONNECT (R376): an admin queue makes an association, an I/O queue joins the one its data names. -/
def execConnect (serial : Nat) (s : State) : Host.Outcome State Fault Refusal :=
  ok (s.onFabrics serial 1 fun c s =>
    match s.conn? c.conn with
    | none => s
    | some k =>
      match s.connectRefusal c with
      | some st => s.answer serial (verdict st true)
      | none =>
        let d := s.cmdData c
        let qid := c.cap.w 10 / 2 ^ 16
        let depth := c.cap.w 11 % 2 ^ 16 + 1
        if qid = 0 then
          let n := s.freeAssoc
          let discovery := discoveryName == (d.drop 256).take discoveryName.length
          let s := s.putAssoc n ⟨k.port, discovery, ofBytes (d.take 16), 0, false, c.cap.w 12, s.clockNs, [], [], [], []⟩
          let s := s.putConn c.conn { k with assoc := some n, qid := 0, depth := depth }
          (s.answerWith serial n [] good).connsRefresh
        else
          let n := ofBytes ((d.drop 16).take 2)
          let s := s.putConn c.conn { k with assoc := some n, qid := qid, depth := depth }
          (s.answerWith serial n [] good).connsRefresh)

/-- A command's response goes out at once, before what it ends ends. -/
def State.respondNow (s : State) (serial : Nat) (c : Cmd) : State :=
  let head := ((s.conn? c.conn).map (·.sqhd)).getD 0
  (s.emit (.response c.conn c.cap.cid good 0 head)).dropCmd serial

/-- DISCONNECT (R379): answered, and the association ends. -/
def execDisconnect (serial : Nat) (s : State) : Host.Outcome State Fault Refusal :=
  ok (s.onFabrics serial 8 fun c s =>
    match s.assocOf c with
    | none => s.answer serial (verdict .sequenceError true)
    | some (n, _) => (s.respondNow serial c).endAssoc n)

/-- CAP (R382, R396): MQES 255, contiguous queues, TO 2, and all command sets (the places of the fields are PRESUMED, log 33). -/
def capWord : Nat := 255 + 2 ^ 16 + 2 * 2 ^ 24 + 2 ^ 43

/-- PROPERTY_GET (R382, R388): CAP, VS 2.0, CC and CSTS. -/
def execPropertyGet (serial : Nat) (s : State) : Host.Outcome State Fault Refusal :=
  ok (s.onFabrics serial 4 fun c s =>
    match s.assocOf c with
    | none => s.answer serial (verdict .sequenceError true)
    | some (_, a) =>
      let shut := if 0 < bitsOf a.cc 15 14 then 2 * 2 ^ 2 else 0
      match c.cap.w 11 with
      | 0x00 => s.answerWith serial capWord [] good
      | 0x08 => s.answerWith serial 0x00020000 [] good
      | 0x14 => s.answerWith serial a.cc [] good
      | 0x1C => s.answerWith serial (b2n a.ready + shut) [] good
      | _ => s.answer serial (verdict .invalidField true))

/-- PROPERTY_SET (R379, R382): CC alone can be written. EN set makes the controller ready; EN cleared is a controller reset, which ends
the association once it is answered. -/
def execPropertySet (serial : Nat) (s : State) : Host.Outcome State Fault Refusal :=
  ok (s.onFabrics serial 0 fun c s =>
    match s.assocOf c with
    | none => s.answer serial (verdict .sequenceError true)
    | some (n, a) =>
      if c.cap.w 11 != 0x14 then s.answer serial (verdict .invalidField true)
      else
        let v := c.cap.w 12
        let s := s.putAssoc n { a with cc := v, ready := bitOf v 0 }
        if a.ready && !bitOf v 0 then ((s.respondNow serial c).endAssoc n).noEnvelope else s.answer serial good)

/-- KEEP_ALIVE (R382): the keep-alive time starts again. -/
def execKeepAlive (serial : Nat) (s : State) : Host.Outcome State Fault Refusal :=
  ok (s.onAdmin serial 0x18 fun c s =>
    match s.assocOf c with
    | none => s.answer serial (verdict .sequenceError true)
    | some (n, a) => (s.putAssoc n { a with seenNs := s.clockNs }).answer serial good)

/-- ASYNCHRONOUS_EVENT_REQUEST (R376, R400): the oldest event retained completes it at once; otherwise it stands outstanding, at most four
at a controller. -/
def execAsynchronousEventRequest (serial : Nat) (s : State) : Host.Outcome State Fault Refusal :=
  ok (s.onAdmin serial 0x0C fun c s =>
    match s.assocOf c with
    | none => s.answer serial (verdict .sequenceError true)
    | some (n, a) =>
      if a.aers.contains serial then s
      else
        match a.events with
        | e :: t => (s.putAssoc n { a with events := t, told := a.told ++ [e] }).answerWith serial e.dw0 [] good
        | [] =>
          if 4 ≤ a.aers.length then s.answer serial (verdict .aerLimit true)
          else s.putAssoc n { a with aers := a.aers ++ [serial] })

/-- ABORT (R404): a command that waits for a lock, for bags or for its first R2T is aborted and its lock wait removed; any other completes
as it would, and bit 0 of dword 0 says so. The SQID stands in CDW10 [15:0], the CID above it (PRESUMED; log 33). -/
def execAbort (serial : Nat) (s : State) : Host.Outcome State Fault Refusal :=
  ok (s.onAdmin serial 0x08 fun c s =>
    let qid := c.cap.w 10 % 2 ^ 16
    let cid := c.cap.w 10 / 2 ^ 16
    let mine := (s.assocOf c).map (·.1)
    let hit := s.host.cmds.find? fun p => p.1 != serial && p.2.cap.cid == cid && p.2.verdict.isNone && !p.2.orphan &&
      (s.conn? p.2.conn).any fun k => k.qid == qid && k.assoc == mine
    match hit with
    | some (n, x) =>
      if !s.locked n x || (x.asked < x.need && x.asked = 0) then
        let s := s.answer n (verdict .abortRequested true)
        let s := s.putHost { s.host with locks := s.host.locks.filter fun l => l.owner != n }
        (s.answerWith serial 0 [] good).hqRefresh
      else s.answerWith serial 1 [] good
    | none => s.answerWith serial 1 [] good)

/-- The features whose values are saved (R385). -/
def featSaveable (fid : Nat) : Bool := [0x04, 0x05, 0x83, 0x84, 0xC0].contains fid

/-- The number a saved feature is kept under: Temperature Threshold by its kind, the namespace features by namespace, the network
configuration by port. -/
def featKey (fid sub : Nat) : Nat := if fid = 0x04 then 0x0400 + sub else if fid = 0xC0 then 0xC000 + sub else fid * 2 ^ 16 + sub

/-- The default value of a feature (R444): the over-temperature threshold is WCTEMP in kelvin, and the under-temperature threshold 0
(DEDUCED; log 36). -/
def State.featDefault (s : State) (fid sub : Nat) : Nat :=
  if fid = 0x04 && sub = 0 then s.get Reg.THM_HDA_WCTEMP + 273
  else if fid = 0x0B then 0xFFFFFFFF
  else 0

/-- The value of a subsystem or namespace feature in force. -/
def State.featValue (s : State) (fid sub : Nat) : Nat :=
  match fid, s.ns? sub with
  | 0x05, some n => n.tler
  | 0x83, some n => b2n n.ptpl
  | 0x84, some n => b2n n.wp
  | _, _ => sGet s.host.feats (featKey fid sub) (s.featDefault fid sub)

/-- Set a subsystem feature, and save it where that is asked for (R385). -/
def State.featSet (s : State) (fid sub v : Nat) (save : Bool) : State :=
  let s := s.putHost { s.host with feats := sIns s.host.feats (featKey fid sub) v }
  if save then s.saveDev fun d => { d with features := sIns d.features (featKey fid sub) v } else s

/-- The attributes of a namespace changed: listed for log page 0x04, and told (R400). -/
def State.nsChanged (s : State) (nsid : Nat) : State :=
  let l := s.host.changedNs
  (s.putHost { s.host with changedNs := if l.contains nsid then l else l ++ [nsid] }).raiseEvent ⟨2, 0, 0x04⟩

/-- Set a feature of a namespace (R385). -/
def State.nsFeatSet (s : State) (fid nsid v : Nat) (n : Ns) (save : Bool) : State :=
  let n' : Ns := match fid with
    | 0x05 => { n with tler := v }
    | 0x83 => { n with ptpl := bitOf v 0 }
    | _ => { n with wp := v == 1 }
  let s := s.putNs nsid n'
  let s := if save then s.saveDev fun d => { d with features := sIns d.features (featKey fid nsid) v } else s
  if fid = 0x84 && n.wp != n'.wp && n'.wp then s.nsChanged nsid else s

/-- The power state the drive is to run in (R398): the least power-consuming one at or below that of every live association, 0 where there
is none (DESIGN CHOICE; log 129). -/
def State.powerWanted (s : State) : Nat :=
  (s.host.assocs.filter fun a => !a.2.discovery && a.2.ready).foldl (fun m a => some (min (m.getD 4) (sGet a.2.feats 0x02 0 % 32))) none |>.getD 0

/-- The power state changes with the features (R61, R62, R398). On the way back toward active no envelope survives. -/
def State.settlePower (s : State) : State :=
  let ps := s.powerWanted
  let t := s.putHost { s.host with ps := ps }
  if ps < s.host.ps then t.noEnvelope else t

/-- Set Features of the controller's own scope (R385). -/
def State.setCtrlFeature (s : State) (serial : Nat) (c : Cmd) (n : Nat) (a : Assoc) : State :=
  let fid := c.cap.w 10 % 256
  let v := c.cap.w 11
  let keep (v : Nat) : Assoc := { a with feats := sIns a.feats fid v }
  match fid with
  | 0x02 => if 4 < v % 32 then s.answer serial (verdict .invalidField true) else (s.putAssoc n (keep (v % 256))).settlePower.answer serial good
  | 0x07 =>
    if v % 2 ^ 16 = 0xFFFF || v / 2 ^ 16 = 0xFFFF then s.answer serial (verdict .invalidField true)
    else
      let got := min 31 (v % 2 ^ 16) + 2 ^ 16 * min 31 (v / 2 ^ 16)
      (s.putAssoc n (keep got)).answerWith serial got [] good
  | 0x0F =>
    if !katoOk v then s.answer serial (verdict .invalidField true)
    else (s.putAssoc n { keep v with kato := v, seenNs := s.clockNs }).answer serial good
  | 0x16 => (s.putAssoc n (keep (ofBytes ((s.cmdData c).take 512)))).answer serial good
  | _ => (s.putAssoc n (keep v)).answer serial good

/-- SET_FEATURES (R385): the FID in CDW10 [7:0], SV in its bit 31, the value in CDW11 or in the data (the places are PRESUMED, log 33). -/
def execSetFeatures (serial : Nat) (s : State) : Host.Outcome State Fault Refusal :=
  ok (s.onAdmin serial 0x09 fun c s =>
    let fid := c.cap.w 10 % 256
    let save := bitOf (c.cap.w 10) 31
    let v := c.cap.w 11
    let bad := s.answer serial (verdict .invalidField true)
    if save && ([0x01, 0x02, 0x07, 0x0B, 0x0F, 0x16, 0x82].contains fid) then s.answer serial (verdict .notSaveable true)
    else if [0x01, 0x02, 0x07, 0x0B, 0x0F, 0x16].contains fid then
      match s.assocOf c with
      | none => bad
      | some (n, a) => s.setCtrlFeature serial c n a
    else if fid = 0x04 then
      let sel := bitsOf v 19 16
      let th := bitsOf v 21 20
      if (sel != 0 && sel != 15) || 1 < th then bad
      else (s.featSet 0x04 th (v % 2 ^ 16) save).answer serial good
    else if fid = 0xC0 then
      let d := s.cmdData c
      let e (k : Nat) : List Nat := (d.drop (64 * k)).take 64
      if d.length != 128 || !((List.range 2).all fun k => (e k).headD 2 < 2) then bad
      else ((List.range 2).foldl (fun s k => s.featSet 0xC0 ((e k).headD 0) (ofBytes (e k)) save) s).answer serial good
    else if [0x05, 0x82, 0x83, 0x84].contains fid then
      match s.ns? c.cap.nsid with
      | none => s.answer serial (verdict .invalidNamespace true)
      | some n =>
        if fid = 0x82 then
          match s.assocOf c with
          | none => bad
          | some (_, a) =>
            let ms := (n.masks.filter fun m => m.1 != a.hostId) ++ [(a.hostId, v)]
            (s.putNs c.cap.nsid { n with masks := ms }).answer serial good
        else if (fid = 0x05 && bitOf v 16) || (fid = 0x84 && 1 < v % 8) then bad
        else
          let v := if fid = 0x05 then v % 2 ^ 16 else if fid = 0x83 then v % 2 else v % 8
          (s.nsFeatSet fid c.cap.nsid v n save).answer serial good
    else bad)

/-- GET_FEATURES (R385): SEL in CDW10 [10:8]: the value in force, the default, the saved value, or what is supported (PRESUMED; log 33). -/
def execGetFeatures (serial : Nat) (s : State) : Host.Outcome State Fault Refusal :=
  ok (s.onAdmin serial 0x0A fun c s =>
    let fid := c.cap.w 10 % 256
    let sel := bitsOf (c.cap.w 10) 10 8
    let ctrl := [0x01, 0x02, 0x07, 0x0B, 0x0F, 0x16].contains fid
    let ns := [0x05, 0x82, 0x83, 0x84].contains fid
    let sub := if ns then c.cap.nsid else if fid = 0x04 then bitsOf (c.cap.w 11) 21 20 else 0
    let pair (f : Nat → Nat) : Nat := f 0 + 2 ^ 512 * f 1
    if !(ctrl || ns || fid = 0x04 || fid = 0xC0) || 3 < sel then s.answer serial (verdict .invalidField true)
    else if ns && (s.ns? sub).isNone then s.answer serial (verdict .invalidNamespace true)
    else if sel = 3 then s.answerWith serial (b2n (featSaveable fid) + 2 * b2n ns + 4) [] good
    else
      let now : Nat :=
        if ctrl then
          match s.assocOf c with
          | none => s.featDefault fid 0
          | some (_, a) => if fid = 0x0F then a.kato else sGet a.feats fid (s.featDefault fid 0)
        else if fid = 0x82 then
          match s.ns? sub, s.assocOf c with
          | some n, some (_, a) => ((n.masks.find? fun m => m.1 == a.hostId).map (·.2)).getD 0
          | _, _ => 0
        else if fid = 0xC0 then pair (s.featValue 0xC0)
        else s.featValue fid sub
      let saved (k : Nat) : Nat := sGet s.devNow.features (featKey fid k) (s.featDefault fid k)
      let value : Nat :=
        if sel = 0 then now
        else if sel = 1 || !featSaveable fid then s.featDefault fid sub
        else if fid = 0xC0 then pair saved
        else saved sub
      if fid = 0xC0 then s.answerWith serial 0 (leBytes 128 value) good
      else if fid = 0x16 then s.answerWith serial 0 (leBytes 512 value) good
      else s.answerWith serial (value % 2 ^ 32) [] good)

/-- FIRMWARE_IMAGE_DOWNLOAD (R382): image data at an offset, both in units of 4 KiB. The count in dwords, less one, stands in CDW10 and the
offset in dwords in CDW11 (PRESUMED; log 33). -/
def execFirmwareImageDownload (serial : Nat) (s : State) : Host.Outcome State Fault Refusal :=
  ok (s.onAdmin serial 0x11 fun c s =>
    let n := 4 * (c.cap.w 10 + 1)
    let off := 4 * c.cap.w 11
    if n % 4096 != 0 || off % 4096 != 0 then s.answer serial (verdict .invalidField true)
    else (s.putHost { s.host with image := s.host.image ++ [(off, s.cmdData c)] }).answer serial good)

end Sys2Proof.Machine
end

