-- ==== Sys2Proof/Machine/Manage.lean ====
section
/-!
DEFINITION. The admin commands that make, empty and erase (R308, R339, R348, R349, R352, R354, R361, R362, R381, R382, R384): namespaces,
Format NVM, Sanitize, Head Service, Shelf Service and Drive Format.
-/
namespace Sys2Proof.Machine

/-- The parcels given to namespaces. -/
def State.givenParcels (s : State) : Nat := s.host.nss.foldl (fun n p => n + p.2.parcels) 0

/-- The lowest contiguous range of so many LPNs below P that no namespace has (R298). -/
def State.lpnRange (s : State) (parcels : Nat) : Option Nat :=
  let starts := 0 :: s.host.nss.map fun p => p.2.lpn + p.2.parcels
  (sortBy (fun a b => a ≤ b) starts).find? fun a =>
    a + parcels ≤ s.office.p && !(s.host.nss.any fun p => p.2.lpn < a + parcels && a < p.2.lpn + p.2.parcels)

/-- The size of a namespace in parcels (R381), none where its type does not allow it. -/
def nsParcels (csi size : Nat) : Option Nat :=
  if size = 0 then none
  else if csi = 0 then (if size % 64 = 0 then some (size / 64) else none)
  else if csi = 2 then (if size % 65536 = 0 then some (size / 64) else none)
  else if csi = 1 then some ((size + 2 ^ 18 - 1) / 2 ^ 18)
  else none

/-- NAMESPACE_CREATE (R298, R360, R381): the lowest free NSID, a range of LPNs, and a key slot of its own with a new key, kept wrapped. The
CSI stands in CDW11 [31:24] and the size in the first eight bytes of the data (PRESUMED; log 33); slot n − 1 serves NSID n (log 37). -/
def execNamespaceCreate (serial : Nat) (s : State) : Host.Outcome State Fault Refusal :=
  ok (s.onAdmin serial 0x0D fun c s =>
    if c.cap.w 10 % 16 != 0 then s
    else
      let csi := c.cap.w 11 / 2 ^ 24
      let size := ofBytes ((s.cmdData c).take 8)
      let free := (List.range 64).find? fun k => (s.ns? (k + 1)).isNone
      match nsParcels csi size with
      | none => s.answer serial (verdict .invalidField true)
      | some parcels =>
        if s.office.p < s.givenParcels + parcels then s.answer serial (verdict .insufficientCapacity true)
        else
          match free, s.lpnRange parcels with
          | some k, some lpn =>
            let s := s.generateKey k
            let s := match s.wrapped k with
              | some w => s.saveDev fun d => { d with keys := sIns d.keys k (k + 1, w) }
              | none => s
            let s := s.putNs (k + 1) ⟨csi, size, lpn, parcels, k, false, 0, false, [], none, 0, [], []⟩
            (s.nsChanged (k + 1)).answerWith serial (k + 1) [] good
          | _, _ => s.answer serial (verdict .insufficientCapacity true))

/-- In-tray entries are dropped unplaced, with their bags. -/
def State.trayDrop (s : State) (pick : TrayEnt → Bool) : State :=
  (s.host.tray.filter pick).foldl (fun s t =>
    let s := s.bagReleaseAll t.bags 0x53
    s.putHost { s.host with tray := s.host.tray.filter fun u => u.serial != t.serial }) s

/-- Everything a namespace holds is unmapped (R330), with its in-tray entries, its keys and its zones. -/
def State.emptyNs (s : State) (nsid : Nat) (n : Ns) : State :=
  let s := s.trayDrop fun t => t.nsid == nsid
  let s := s.unmapAll ((List.range n.parcels).map (n.lpn + ·)) 0x03
  let s := s.putOffice { s.office with bundles := s.office.bundles.filter fun b => b.nsid != nsid }
  let s := n.zones.foldl (fun s z => match z.2.bound with
    | some (g, m) => s.shutBands g [m]
    | none => s) s
  s.putHost { s.host with kv := s.host.kv.filter (fun e => e.1 / 2 ^ 128 / 17 != nsid), nss := sIns s.host.nss nsid { n with zones := [] } }

/-- The commands on a namespace that are not answered, but for one. -/
def State.cmdsOn (s : State) (nsid not : Nat) : List (Nat × Cmd) :=
  s.host.cmds.filter fun p => p.1 != not && p.2.verdict.isNone && !s.isAdmin p.2 && p.2.cap.nsid == nsid

/-- A namespace is deleted (R381): its parcels are discarded, and its key slot is cleared with its wrapped key. -/
def State.deleteNs (s : State) (nsid : Nat) : State :=
  match s.ns? nsid with
  | none => s
  | some n =>
    let s := (s.emptyNs nsid n).putKey n.slot none
    let s := s.saveDev fun d => { d with keys := sDel d.keys n.slot,
                                         features := d.features.filter fun f => !(0x10000 ≤ f.1 && f.1 % 2 ^ 16 == nsid) }
    (s.putHost { s.host with nss := sDel s.host.nss nsid }).nsChanged nsid

/-- NAMESPACE_DELETE (R381, R404): commands that wait complete with Invalid Namespace or Format, started ones finish first, and the delete
completes last. NSID 0xFFFF_FFFF names every namespace (PRESUMED; log 33). -/
def execNamespaceDelete (serial : Nat) (s : State) : Host.Outcome State Fault Refusal :=
  ok (s.onAdmin serial 0x0D fun c s =>
    if c.cap.w 10 % 16 != 1 then s
    else
      let l := if c.cap.nsid = 0xFFFFFFFF then s.host.nss.map (·.1) else [c.cap.nsid]
      if !(l.all fun n => (s.ns? n).isSome) then s.answer serial (verdict .invalidNamespace true)
      else
        let waiting := (l.flatMap fun n => s.cmdsOn n serial).filter fun p => !s.locked p.1 p.2 || p.2.asked < p.2.need
        let s := waiting.foldl (fun s p => s.answer p.1 (verdict .invalidNamespace true)) s
        if (l.flatMap fun n => s.cmdsOn n serial).isEmpty then (l.foldl (fun s n => s.deleteNs n) s).answer serial good else s)

/-- FORMAT_NVM (R382): LBAF 0; SES 0b000 unmaps, 0b010 also replaces the key. LBAF stands in CDW10 [3:0] and SES in [11:9] (PRESUMED;
log 33). -/
def execFormatNvm (serial : Nat) (s : State) : Host.Outcome State Fault Refusal :=
  ok (s.onAdmin serial 0x80 fun c s =>
    let ses := bitsOf (c.cap.w 10) 11 9
    let l := if c.cap.nsid = 0xFFFFFFFF then s.host.nss.map (·.1) else [c.cap.nsid]
    if c.cap.w 10 % 16 != 0 || !(ses = 0 || ses = 2) then s.answer serial (verdict .invalidField true)
    else if !(l.all fun n => (s.ns? n).isSome) then s.answer serial (verdict .invalidNamespace true)
    else if l.any fun n => (s.ns? n).any s.protectedNs then s.answer serial (verdict .writeProtected true)
    else
      let one (s : State) (nsid : Nat) : State :=
        match s.ns? nsid with
        | none => s
        | some n =>
          let s := s.emptyNs nsid n
          if ses = 2 then
            let s := s.generateKey n.slot
            match s.wrapped n.slot with
            | some w => s.saveDev fun d => { d with keys := sIns d.keys n.slot (nsid, w) }
            | none => s
          else s
      (l.foldl one s).answer serial good)

/-- An area's entry once the map is empty (R348, R362): retired areas stay; the spares stay, or at format are those whose number is 49
modulo 50; every other area is free. -/
def emptied (format : Bool) (p : Nat × Band) : Nat × Band :=
  let b := p.2
  if b.state = 5 || (!format && b.state = 6) then p
  else
    let st := if format then (Band.unused (p.1 % 65536)).state else 0
    (p.1, ⟨st, 0, 0, [], 0, b.epoch, false⟩)

/-- The map, the first-class index, the key-value index and the unreadable list are emptied, the areas are given back, and the journal and
the checkpoint start anew (R362, R384). -/
def State.emptyMap (s : State) (format : Bool) : State :=
  let base := s.mapAddr 0
  let top := base + 5 * s.get Reg.SOF_MAP_LEN_MAP_PARCELS
  let s := { s with cells := s.cells.filter fun c => c.1 < base || top ≤ c.1 }
  let o := s.office
  let bands := (o.bands.map (emptied format)).filter fun p => p.2 != Band.unused (p.1 % 65536)
  let s := s.putOffice { o with fc := [], bands := bands, groups := [], pairs := [], unreadable := [], units := [],
                                journal := [], ckpt := [], unloaded := [], bundles := [], old := [], resortQueue := [],
                                folding := false, resorting := false, regions := [], savedRegions := [], floor := false, rebuildMap := false,
                                fixed := false }
  let s := s.putHost { s.host with kv := [], nss := s.host.nss.map fun p => (p.1, { p.2 with zones := [] }) }
  let r := s.switchJob []
  let s := r.1.journal ⟨r.2.1, 0x03, [], [], []⟩
  s.putOffice { s.office with ckptSeq := r.2.1, trim := r.2.1 }

/-- Rebuild, re-sorting, folding and the scrub are abandoned (R362, R363). -/
def State.abandonWork (s : State) : State :=
  let s := s.putCons { s.cons with rebuild := 0, todo := [], done := 0, total := 0, scrubbed := [] }
  s.putOffice { s.office with units := [], resortQueue := [], folding := false, resorting := false, idle := false }

/-- The wrapped keys of every slot in use, as the record holds them (R361). -/
def State.wrappedKeys (s : State) : Sparse (Nat × List Nat) :=
  let nsid (slot : Nat) : Nat := ((s.host.nss.find? fun n => n.2.slot == slot).map (·.1)).getD 0
  s.cons.keys.filterMap fun k => (s.wrapped k.1).map fun w => (k.1, nsid k.1, w)

/-- A step of a crypto erase (R362). -/
def State.eraseStep (s : State) (k : Nat) : State :=
  let s := s.ledger 0x0070 [k, 0, 0, 0, 0, 0, 0]
  match k with
  | 1 =>
    let s := s.putHost { s.host with sanitize := 2 }
    let open_ := s.host.cmds.filter fun p => p.2.verdict.isNone && !s.isAdmin p.2
    let s := open_.foldl (fun s p => s.answer p.1 (verdict .sanitizeInProgress false)) s
    let s := (s.acts.filter fun x => s.pdOn x.n).foldl (fun s x => s.laneAbort x) s
    s.abandonWork
  | 2 => s.cons.keys.foldl (fun s p => s.generateKey p.1) s
  | 3 =>
    let keys := s.wrappedKeys
    s.changeDev fun d => { d with keys := keys, sanitizePending := true }
  | 4 => s.emptyMap false
  | 5 => s.trayDrop fun _ => true
  | _ =>
    let s := s.changeDev fun d => { d with sanitizePending := false }
    (s.putHost { s.host with sanitize := 1 }).raiseEvent ⟨6, 1, 0x81⟩

/-- The steps of a crypto erase from one on, so many. -/
def State.eraseSteps (s : State) (from_ : Nat) : Nat → State
  | 0 => s
  | n + 1 => State.eraseSteps (s.eraseStep from_) (from_ + 1) n

/-- SANITIZE (R362): a crypto erase, SANACT 0b100 in CDW10 [2:0] (PRESUMED; log 33), goes on to its step `upTo`, and completes with the
sixth. -/
def execSanitize (serial upTo : Nat) (s : State) : Host.Outcome State Fault Refusal :=
  ok (s.onAdmin serial 0x84 fun c s =>
    if c.cap.w 10 % 8 != 4 then s.answer serial (verdict .invalidField true)
    else
      let done := s.cons.sanitizing.getD 0
      let upTo := max done (min 6 upTo)
      let s := s.eraseSteps (done + 1) (upTo - done)
      if upTo = 6 then (s.putCons { s.cons with sanitizing := none }).answer serial good
      else if upTo = 0 then s
      else s.putCons { s.cons with sanitizing := some upTo })

/-- The head that a Head Service command names is fitted. -/
def State.serviceHead (s : State) (c : Cmd) : Option Nat :=
  let x := c.cap.w 10 % 32
  if s.fitted (Act.num (x / 8)) && s.headFitted (Act.num (x / 8)) (x % 8) then some x else none

/-- Dword 0 of Head Service (R384): retired, and reinstatement pending. -/
def State.serviceWord (s : State) (x : Nat) : Nat :=
  b2n (s.headRetired (Act.num (x / 8)) (x % 8)) + 2 * b2n (bitOf s.devWanted.reinstate x)

/-- A Head Service command with an action in CDW10 [9:8] (R384). -/
def State.headService (s : State) (serial action : Nat) (f : Nat → State → State) : State :=
  s.onAdmin serial 0xC0 fun c s =>
    if bitsOf (c.cap.w 10) 9 8 != action then s
    else
      match s.serviceHead c with
      | none => s.answer serial (verdict .sequenceError true)
      | some x => f x s

/-- HEAD_SERVICE_REPORT (R384). -/
def execHeadServiceReport (serial : Nat) (s : State) : Host.Outcome State Fault Refusal :=
  ok (s.headService serial 0 fun x s => s.answerWith serial (s.serviceWord x) [] good)

/-- Trigger 6 is refused (R352): a rebuild runs, a group that includes the surface has a member unavailable, or the head is the last in
service on its actuator. A head already retired is refused too (DEDUCED; log 38). -/
def State.retireRefused (s : State) (x : Nat) : Bool :=
  let groups := s.office.groups.filter fun g => g.2.areas.any fun a => a.1 == x
  let live := (s.surfaces.filter fun y => y / 8 == x / 8).filter s.inService
  s.cons.rebuild != 0 || (groups.any fun g => 0 < s.missing g.2) || live.length ≤ 1 || s.headRetired (Act.num (x / 8)) (x % 8)

/-- HEAD_SERVICE_RETIRE (R351, R352, R384). -/
def execHeadServiceRetire (serial : Nat) (s : State) : Host.Outcome State Fault Refusal :=
  ok (s.headService serial 1 fun x s =>
    if s.retireRefused x then s.answer serial (verdict .sequenceError true)
    else
      let s := s.retireHead x 6
      s.answerWith serial (s.serviceWord x) [] good)

/-- HEAD_SERVICE_REINSTATE (R354, R384): the head leaves the entry at the next cold start. -/
def execHeadServiceReinstate (serial : Nat) (s : State) : Host.Outcome State Fault Refusal :=
  ok (s.headService serial 2 fun x s =>
    let s := s.saveDev fun d => { d with reinstate := Sys2Proof.setBit d.reinstate x true }
    s.answerWith serial (s.serviceWord x) [] good)

/-- SHELF_SERVICE_ENTER (R384): refused in solo mode; 100 ms after its completion the drive departs. -/
def execShelfServiceEnter (serial : Nat) (s : State) : Host.Outcome State Fault Refusal :=
  ok (s.onAdmin serial 0xC1 fun c s =>
    if c.cap.w 10 % 4 != 1 then s else s.answer serial (if s.solo then verdict .sequenceError true else good))

/-- A message of the base firmware to a loop, in class-C delivery (R21). -/
def State.tell (s : State) (loop : Nat) (words : List Nat) : State :=
  let m := s.mail loop
  if s.pdOn 12 && m.count < 16 then s.putMail loop { m with transit := m.transit ++ [⟨words, 0⟩] } else s

/-- SHELF_HOLD_DEPARTURE (R384): 100 ms after the completion every association ends and the loops are told to unload; once the heads are
on their ramps the spindle is told to stop by the controlled method, and TARGET goes to BASE for R294. -/
def execShelfHoldDeparture (s : State) : Host.Outcome State Fault Refusal :=
  match s.host.shelfMs with
  | none => ok s
  | some t =>
    if s.ms < t + 100 then ok s
    else
      let s := s.endAll
      if s.headsOff then
        ok (s.acts.foldl (fun s x =>
          let l := s.lp x
          if l.parked || l.mode == .unloading || (s.mail (x.n + 1)).count != 0 then s else s.tell (x.n + 1) [0x05000000]) s)
      else
        let s := s.putHost { s.host with shelfMs := none }
        let s := if s.turning then s.tell 0 [0x22000000, 1] else s
        ok (s.set Reg.FRK_TARGET_TARGET (s.get Reg.FRK_BOOK_LIM_BASE)).followTarget

/-- SHELF_SERVICE_WAKE (R294, R384): FRK_WAKE is written with the slot of CDW11 [6:0], 0x40 for all. -/
def execShelfServiceWake (serial : Nat) (s : State) : Host.Outcome State Fault Refusal :=
  ok (s.onAdmin serial 0xC1 fun c s =>
    if c.cap.w 10 % 4 != 2 then s
    else if s.solo then s.answer serial (verdict .sequenceError true)
    else
      let slot := c.cap.w 11 % 128
      let s := s.setAll [(Reg.FRK_WAKE_GO, 1), (Reg.FRK_WAKE_ALL, slot / 64), (Reg.FRK_WAKE_SLOT, slot)]
      s.answer serial good)

/-- HOLD_ENTER (R294, R269): ignored while H exceeds BASE; otherwise shelf-hold, where only PD-DRAM stays on for the DRAM in self-refresh
and the bus block goes on sending STATUS. -/
def execHoldEnter (i : Initiator) (s : State) : Host.Outcome State Fault Refusal :=
  ok (s.access i 0x40310000 4 fun s =>
    if s.get Reg.FRK_BOOK_LIM_BASE < s.hold then { s with bus := .written }
    else
      let s := s.endAll.noEnvelope
      let s := s.pdAllOff ((List.range 30).filter fun n => n != 28)
      { s.putKrx { s.krx with shelfHold := true } with bus := .written })

/-- The natural position map of a layout (R340, R364), with the substitutes of the retired surfaces (R350). -/
def State.naturalMap (s : State) : State :=
  let n := s.sets * s.positions
  let at_ (i : Nat) : Nat :=
    if s.sets = 2 then 8 * (i % 16 / 4) + 4 * (i / 16) + i % 4 else i
  let s := (List.range n).foldl (fun s i => s.setPos i (at_ i)) s
  s.retiredSurfaces.foldl (fun s x =>
    match s.indexOf x, s.substitute x with
    | some i, some y => s.setPos i y
    | _, _ => s) s

/-- The protected capacity that a format fixes, in parcels (R308, R348, R349): the data share of every area but the spares and those of
HEAD_RESERVE surfaces, less the first-class region at FC_MIN of P, or at 1 % in the compatibility mode, of two areas for each 192 MiB
(DEDUCED; log 39). -/
def State.capacity (s : State) (compat : Bool) : Nat :=
  let km := s.layoutKM
  let surfaces := s.surfaces.length - s.get Reg.CNS_POLICY_HEAD_RESERVE
  let areas := surfaces * (s.office.areas - s.office.areas / 50)
  let f := if compat then 100 else s.get Reg.SOF_FC_FC_MIN
  (areas * 1024 * km.1 * 10000 * 768) / ((km.1 + km.2) * 10000 * 768 + 2 * f * 1024 * km.1)

/-- DRIVE_FORMAT (R308, R339, R348, R384, R401): refused while any namespace exists; the layout is posted and kept, the keys are replaced,
the map is emptied, P is fixed, and the latched bits of Critical Warning clear. -/
def execDriveFormat (serial : Nat) (s : State) : Host.Outcome State Fault Refusal :=
  ok (s.onAdmin serial 0xC2 fun c s =>
    if !s.host.nss.isEmpty then s.answer serial (verdict .sequenceError true)
    else
      let layout := c.cap.w 10 % 4
      let compat := bitOf (c.cap.w 10) 8
      let s := (s.set Reg.CNS_LAYOUT_LAYOUT layout).set Reg.SOF_FC_COMPAT (b2n compat)
      let s := (s.clearKeys.emptyMap true).naturalMap
      let p := s.capacity compat
      let s := (s.putOffice { s.office with p := p }).set Reg.SOF_MAP_LEN_MAP_PARCELS p
      let feats := sIns (sIns s.devWanted.features 0xD0 layout) 0xD1 (b2n compat)
      let s := s.saveDev fun d => { d with keys := [], posmap := s.posmapList, features := feats }
      let crit := Sys2Proof.setBit (Sys2Proof.setBit s.host.critical 2 false) 4 false
      (s.putHost { s.host with critical := crit }).answer serial good)

end Sys2Proof.Machine
end

