-- ==== Sys2Proof/Machine/Io.lean ====
section
/-!
DEFINITION. The I/O commands (R324 to R327, R330, R383, R389 to R397): flush, writes, reads, discards, verification, reservations, zones,
and the key-value commands.
-/
namespace Sys2Proof.Machine

/-- FLUSH (R383, R389): every write was durable before it completed. -/
def execFlush (serial : Nat) (s : State) : Host.Outcome State Fault Refusal :=
  ok (s.onIo serial .flush fun _ _ s => s.answer serial good)

/-- Count a command's units of 512 bytes for SMART/Health: 0 units read, 1 units written, 2 commands read, 3 commands written. -/
def State.countIo (s : State) (write : Bool) (bytes : Nat) : State :=
  let k := b2n write
  let c := s.host.counts
  let c := sIns c k (sGet c k 0 + bytes / 512)
  s.putHost { s.host with counts := sIns c (2 + k) (sGet c (2 + k) 0 + 1) }

/-- A command whose data is wholly here enters the in-tray, marked for the flush, and is answered (R389); an append is told its block. -/
def State.writeNow (s : State) (serial : Nat) (c : Cmd) : State :=
  match s.enterTray c with
  | (s, .inl st) => s.answer serial (verdict st true)
  | (s, .inr (n, lba)) =>
    let s := s.putCmd serial { c with tray := some n }
    let s := s.countIo true c.need
    (s.answerWith serial (if c.cap.opcode = 0x7D then lba else 0) [] good).hqRefresh

/-- WRITE (R389, R391): FUA has no further effect. -/
def execWrite (serial : Nat) (s : State) : Host.Outcome State Fault Refusal :=
  ok (s.onIo serial .write fun c _ s => s.writeNow serial c)

/-- ZONE_APPEND (R389, R383). -/
def execZoneAppend (serial : Nat) (s : State) : Host.Outcome State Fault Refusal :=
  ok (s.onIo serial .append fun c _ s => s.writeNow serial c)

/-- The in-tray's blocks of a range are dropped unplaced: what comes after them says otherwise. -/
def State.trayForget (s : State) (nsid first count : Nat) : State :=
  (s.trayIn nsid first count).foldl (fun s r => s.trayPlaced r.1 r.2.1 r.2.2) s

/-- Discard ranges of blocks (R330): whole parcels are unmapped in one DISCARD record; the part of a parcel that is mapped is written with
zeros through the in-tray. -/
def State.discardRanges (s : State) (nsid : Nat) (n : Ns) (l : List (Nat × Nat)) : State :=
  let wholeOf (r : Nat × Nat) : List Nat :=
    let lo := (r.1 + 63) / 64
    let hi := (r.1 + r.2) / 64
    (List.range (hi - lo)).map (lo + ·)
  let s := l.foldl (fun s r => s.trayForget nsid r.1 r.2) s
  let s := s.unmapAll ((l.flatMap wholeOf).eraseDups.map (n.lpn + ·)) 0x03
  let parts (r : Nat × Nat) : List (Nat × Nat) :=
    let lo := (r.1 + 63) / 64 * 64
    let hi := (r.1 + r.2) / 64 * 64
    if hi < lo then [r] else (if r.1 < lo then [(r.1, lo - r.1)] else []) ++ (if hi < r.1 + r.2 then [(hi, r.1 + r.2 - hi)] else [])
  (l.flatMap parts).foldl (fun s r =>
    if r.2 = 0 || ((n.parcelsOf r.1 r.2).all s.unmapped && (s.trayIn nsid r.1 r.2).isEmpty) then s
    else (s.trayAdd .zeros nsid r.1 r.2 0 0 []).1) s

/-- WRITE_ZEROES (R330, R383, R389): with DEAC on a block namespace a discard, otherwise a write of zeros. -/
def execWriteZeroes (serial : Nat) (s : State) : Host.Outcome State Fault Refusal :=
  ok (s.onIo serial .writeZeroes fun c n s =>
    if n.csi = 0 && c.cap.deac then
      (s.discardRanges c.cap.nsid n [(c.cap.slba, c.cap.nlb)]).answer serial good
    else s.writeNow serial c)

/-- DATASET_MANAGEMENT (R330, R383): deallocate alone, in CDW11 [2] (PRESUMED; log 33); it completes once its record is in the journal. -/
def execDatasetManagement (serial : Nat) (s : State) : Host.Outcome State Fault Refusal :=
  ok (s.onIo serial .discard fun c n s =>
    let l := dsmRanges (s.cmdData c) (c.cap.w 10 % 256 + 1)
    if l.any fun r => n.size < r.1 + r.2 then s.answer serial (verdict .lbaOutOfRange true)
    else if !bitOf (c.cap.w 11) 2 then s.answer serial good
    else (s.discardRanges c.cap.nsid n l).answer serial good)

/-- Where the newest completed data of a block is (R391, R303 to R305): in the in-tray as bytes, zeros, on the media, or lost. -/
inductive Whereabouts where
  | bytes (l : List Nat)
  | media
  | lost
  deriving DecidableEq, Repr

/-- A sector of a parcel is on the media (R303, R304). -/
def State.onMedia (s : State) (lpn sector : Nat) : Bool :=
  let e := s.mapEntry lpn
  entSC e || (entFC e && (sGet? s.office.fc lpn).any fun f => bitOf f.mask sector)

/-- Where a block's data is. -/
def State.whereIs (s : State) (nsid : Nat) (n : Ns) (lba : Nat) : Whereabouts :=
  match s.trayHas nsid lba with
  | some t => if t.kind == .zeros then .bytes (List.replicate 4096 0) else .bytes (s.bagRead t.bags (4096 * (lba - t.first)) 4096)
  | none =>
    let lpn := n.lpn + lba / 64
    if s.office.unreadable.contains (lpn, lba % 64) then .lost
    else if s.onMedia lpn (lba % 64) then .media
    else .bytes (List.replicate 4096 0)

/-- A read that found data lost (R151, R305, R395): the sectors join the unreadable list, and the error is counted and logged. -/
def State.readLost (s : State) (serial : Nat) (c : Cmd) (n : Ns) (lbas : List Nat) : State :=
  let s := lbas.foldl (fun s b => s.listUnreadable (n.lpn + b / 64) (b % 64)) s
  let s := s.putRcv { s.rcv with lost := s.rcv.lost.filter fun l => l.1 != serial }
  let qid := ((s.conn? c.conn).map (·.qid)).getD 0
  let s := s.logError qid c.cap.cid .unrecoveredRead c.cap.nsid (lbas.headD 0)
  (s.putHost { s.host with mediaErrs := s.host.mediaErrs + 1 }).answer serial (verdict .unrecoveredRead false)

/-- A parcel's sector on the media is lost to a command (R151, R346): its ladder and rung 6 failed, or its surface is unavailable and it cannot be
rebuilt. -/
def State.sectorLost (s : State) (serial lpn sect : Nat) : Bool :=
  s.rcv.lost.contains (serial, lpn, sect) || (s.onMedia lpn sect && !s.reachable lpn sect)

/-- A block on the media is lost to a command. -/
def State.blockLost (s : State) (serial : Nat) (n : Ns) (lba : Nat) : Bool := s.sectorLost serial (n.lpn + lba / 64) (lba % 64)

/-- READ and VERIFY (R391, R395, R397): what the lanes delivered stands decrypted at the DRAM addresses of `media`, by block. A block is
lost where it is listed as unreadable, where its ladder and rung 6 both failed for this command, or where its surface is unavailable and it cannot be
rebuilt (R346). While a block on the media is neither lost nor delivered, the command has started on the media. -/
def State.readNow (s : State) (serial : Nat) (c : Cmd) (n : Ns) (media : List (Nat × Nat)) (give : Bool) : State :=
  let lbas := (List.range c.cap.nlb).map (c.cap.slba + ·)
  let at_ (b : Nat) : Whereabouts := s.whereIs c.cap.nsid n b
  let lost := lbas.filter fun b => at_ b == .lost || (at_ b == .media && s.blockLost serial n b)
  let wait := lbas.any fun b => at_ b == .media && !(media.any fun m => m.1 == b)
  if !lost.isEmpty then s.readLost serial c n lost
  else if wait then s.putCmd serial { c with media := true }
  else
    let data := lbas.flatMap fun b => match at_ b with
      | .bytes l => l
      | _ => (s.bytes ((media.find? fun m => m.1 == b).map (·.2) |>.getD 0) 4096).map (·.toNat)
    let s := s.countIo false (4096 * c.cap.nlb)
    s.answerWith serial 0 (if give then data else []) good

/-- A command that works on the media (R379): where its association has ended, its media operation ends here and it leaves. -/
def State.onMediaCmd (s : State) (serial : Nat) (op : IoOp) (f : Cmd → Ns → State → State) : State :=
  match s.cmd? serial with
  | none => s
  | some c => if c.orphan && c.verdict.isNone then s.dropCmd serial else s.onIo serial op f

/-- READ (R391). -/
def execRead (serial : Nat) (media : List (Nat × Nat)) (s : State) : Host.Outcome State Fault Refusal :=
  ok (s.onMediaCmd serial .read fun c n s => s.readNow serial c n media true)

/-- VERIFY (R397): it reads and checks, and transfers nothing. -/
def execVerify (serial : Nat) (media : List (Nat × Nat)) (s : State) : Host.Outcome State Fault Refusal :=
  ok (s.onMediaCmd serial .verify fun c n s => s.readNow serial c n media false)

/-- A reservation notification (R385, R400): 1 preempted, 2 released, 3 registration preempted, which a host's mask keeps from it (the
numbers are PRESUMED, log 33). -/
def State.resNotify (s : State) (nsid type : Nat) (hosts : List Nat) : State :=
  let told := hosts.any fun h => !((s.ns? nsid).any fun n => n.masks.any fun m => m.1 == h && bitOf m.2 type)
  if told then (s.putHost { s.host with resNotes := s.host.resNotes ++ [(nsid, type)] }).raiseEvent ⟨6, 0, 0x80⟩ else s

/-- The Host Identifier of a command. -/
def State.hostOf (s : State) (c : Cmd) : Nat := ((s.cmdAssoc c).map (·.hostId)).getD 0

/-- A namespace's registrants change, with the generation. -/
def Ns.withRegs (n : Ns) (regs : List (Nat × Nat)) : Ns := { n with regs := regs, gen := n.gen + 1 }

/-- A holder that is registered no longer loses the reservation, but under an all-registrants type while another is registered. -/
def Ns.dropHolder (n : Ns) : Ns :=
  match n.holder with
  | some (h, t) =>
    if 5 ≤ t then (if n.regs.isEmpty then { n with holder := none } else n)
    else if n.regs.any fun r => r.1 == h then n else { n with holder := none }
  | none => n

/-- RESERVATION_REGISTER (R380, R383): register, unregister or replace a key, by Host Identifier; CPTPL sets persistence. The fields are
those of the NVMe base specification (PRESUMED; log 33). -/
def execReservationRegister (serial : Nat) (s : State) : Host.Outcome State Fault Refusal :=
  ok (s.onIo serial .resRegister fun c n s =>
    let d := s.cmdData c
    let cur := ofBytes (d.take 8)
    let new := ofBytes ((d.drop 8).take 8)
    let h := s.hostOf c
    let mine := n.regs.find? fun r => r.1 == h
    let iekey := bitOf (c.cap.w 10) 3
    let cptpl := c.cap.w 10 / 2 ^ 30
    let n := if cptpl = 2 then { n with ptpl := false } else if cptpl = 3 then { n with ptpl := true } else n
    let conflict := s.answer serial (verdict .reservationConflict true)
    match c.cap.w 10 % 8 with
    | 0 =>
      match mine with
      | some r => if r.2 = new then (s.putNs c.cap.nsid n).answer serial good else conflict
      | none => (s.putNs c.cap.nsid (n.withRegs (n.regs ++ [(h, new)]))).answer serial good
    | 1 =>
      match mine with
      | some r =>
        if !iekey && r.2 != cur then conflict
        else
          let n' := (n.withRegs (n.regs.filter fun r => r.1 != h)).dropHolder
          let s := s.putNs c.cap.nsid n'
          let s := if n.holder.isSome && n'.holder.isNone then s.resNotify c.cap.nsid 2 (n'.regs.map (·.1)) else s
          s.answer serial good
      | none => conflict
    | 2 =>
      match mine with
      | some r =>
        if !iekey && r.2 != cur then conflict
        else (s.putNs c.cap.nsid (n.withRegs (n.regs.map fun r => if r.1 == h then (h, new) else r))).answer serial good
      | none => if iekey then (s.putNs c.cap.nsid (n.withRegs (n.regs ++ [(h, new)]))).answer serial good else conflict
    | _ => s.answer serial (verdict .invalidField true))

/-- RESERVATION_ACQUIRE (R383, R404): acquire, preempt, or preempt and abort, under one of the six types (PRESUMED; log 33). -/
def execReservationAcquire (serial : Nat) (s : State) : Host.Outcome State Fault Refusal :=
  ok (s.onIo serial .resAcquire fun c n s =>
    let d := s.cmdData c
    let cur := ofBytes (d.take 8)
    let other := ofBytes ((d.drop 8).take 8)
    let h := s.hostOf c
    let type := bitsOf (c.cap.w 10) 15 8
    let act := c.cap.w 10 % 8
    let conflict := s.answer serial (verdict .reservationConflict true)
    let mine := n.regs.any fun r => r.1 == h && (bitOf (c.cap.w 10) 3 || r.2 == cur)
    if type = 0 || 6 < type || 2 < act then s.answer serial (verdict .invalidField true)
    else if !mine then conflict
    else if act = 0 then
      match n.holder with
      | none => (s.putNs c.cap.nsid { n with holder := some (h, type) }).answer serial good
      | some (g, t) => if t = type && (g == h || 5 ≤ t) then s.answer serial good else conflict
    else
      let victims := n.regs.filter fun r => r.1 != h && (r.2 == other || other = 0)
      let mineHold := n.holder.any fun g => 5 ≤ g.2 || n.regs.any fun r => r.1 == g.1 && r.2 == other
      let took := n.holder.isNone || mineHold || n.holder.any fun g => g.1 == h
      let n' := n.withRegs (n.regs.filter fun r => !victims.contains r)
      let n' := if took then { n' with holder := some (h, type) } else n'
      let s := s.putNs c.cap.nsid n'
      let s := s.resNotify c.cap.nsid 3 (victims.map (·.1))
      let s := if act = 2 then
          (s.host.cmds.filter fun p => p.2.cap.nsid == c.cap.nsid && p.2.verdict.isNone && p.1 != serial && !s.isAdmin p.2 &&
              victims.any fun r => r.1 == s.hostOf p.2).foldl
            (fun s p => if p.2.media || p.2.tray.isSome then s else s.answer p.1 (verdict .abortRequested true)) s
        else s
      s.answer serial good)

/-- RESERVATION_RELEASE (R383): release by the holder, or clear by any registrant (PRESUMED; log 33). -/
def execReservationRelease (serial : Nat) (s : State) : Host.Outcome State Fault Refusal :=
  ok (s.onIo serial .resRelease fun c n s =>
    let cur := ofBytes ((s.cmdData c).take 8)
    let h := s.hostOf c
    let type := bitsOf (c.cap.w 10) 15 8
    let mine := n.regs.any fun r => r.1 == h && (bitOf (c.cap.w 10) 3 || r.2 == cur)
    if !mine then s.answer serial (verdict .reservationConflict true)
    else
      match c.cap.w 10 % 8 with
      | 0 =>
        match n.holder with
        | some (g, t) =>
          if g == h || 5 ≤ t then
            if t != type then s.answer serial (verdict .invalidField true)
            else ((s.putNs c.cap.nsid { n with holder := none }).resNotify c.cap.nsid 2
              ((n.regs.filter fun r => r.1 != h).map (·.1))).answer serial good
          else s.answer serial good
        | none => s.answer serial good
      | 1 =>
        let n' := { n.withRegs [] with holder := none }
        ((s.putNs c.cap.nsid n').resNotify c.cap.nsid 1 ((n.regs.filter fun r => r.1 != h).map (·.1))).answer serial good
      | _ => s.answer serial (verdict .invalidField true))

/-- RESERVATION_REPORT (R383): the generation, the type, the registrants and persistence, then 24 bytes for each registrant, or 64 with
extended data (the layout is PRESUMED, log 33). -/
def execReservationReport (serial : Nat) (s : State) : Host.Outcome State Fault Refusal :=
  ok (s.onIo serial .resReport fun c n s =>
    let eds := bitOf (c.cap.w 11) 0
    let type := (n.holder.map (·.2)).getD 0
    let holds (h : Nat) : Bool := n.holder.any fun g => 5 ≤ g.2 || g.1 == h
    let head := leBytes 4 n.gen ++ [type] ++ leBytes 2 n.regs.length ++ [0, 0, b2n n.ptpl] ++ List.replicate 14 0
    let head := if eds then head ++ List.replicate 40 0 else head
    let one (r : Nat × Nat) : List Nat :=
      if eds then leBytes 2 0xFFFF ++ [b2n (holds r.1)] ++ List.replicate 5 0 ++ leBytes 8 r.2 ++ leBytes 16 r.1 ++ List.replicate 32 0
      else leBytes 2 0xFFFF ++ [b2n (holds r.1)] ++ List.replicate 5 0 ++ leBytes 8 r.1 ++ leBytes 8 r.2
    s.answerWith serial 0 ((head ++ n.regs.flatMap one).take (4 * (c.cap.w 10 + 1))) good)

/-- A Zone Management Send command with an action in CDW13 [7:0] (PRESUMED; log 33), on its zone or with bit 8 on every zone that it can
act on. -/
def State.zoneSend (s : State) (serial action : Nat) (can : HZone → Bool) (f : Nat → Nat → Ns → State → State ⊕ Status) : State :=
  s.onIo serial .zoneSend fun c n s =>
    if c.cap.w 13 % 256 != action then s
    else if bitOf (c.cap.w 13) 8 then
      let ks := (n.zones.filter fun z => can z.2).map (·.1)
      (ks.foldl (fun s k => match s.ns? c.cap.nsid with
        | some n => match f c.cap.nsid k n s with
          | .inl s => s
          | .inr _ => s
        | none => s) s).answer serial good
    else
      let k := c.cap.slba / 65536
      if !can (n.zone k) then s.answer serial (verdict .zoneInvalidTransition true)
      else
        match f c.cap.nsid k n s with
        | .inl s => s.answer serial good
        | .inr st => s.answer serial (verdict st true)

/-- ZONE_OPEN (R321, R383). -/
def execZoneOpen (serial : Nat) (s : State) : Host.Outcome State Fault Refusal :=
  ok (s.zoneSend serial 3 (fun z => z.state != .full) fun nsid k n s =>
    match n.openRefusal k with
    | some st => .inr st
    | none => .inl (s.openZone nsid k .explicitOpen))

/-- ZONE_CLOSE (R383). -/
def execZoneClose (serial : Nat) (s : State) : Host.Outcome State Fault Refusal :=
  ok (s.zoneSend serial 1 (fun z => z.state != .full && z.state != .empty) fun nsid k n s =>
    .inl (s.putZone nsid k { n.zone k with state := .closed }))

/-- ZONE_FINISH (R322, R324): the band closes at the write point and its parcels stay mapped. -/
def execZoneFinish (serial : Nat) (s : State) : Host.Outcome State Fault Refusal :=
  ok (s.zoneSend serial 2 (fun _ => true) fun nsid k n s =>
    .inl (if (n.zone k).state == .full then s else s.finishZone nsid k (n.zone k) false))

/-- ZONE_RESET (R324, R330): the zone's parcels are unmapped under one ZONE record, what the in-tray holds of it is dropped, and its band
closes at the write point. -/
def execZoneReset (serial : Nat) (s : State) : Host.Outcome State Fault Refusal :=
  ok (s.zoneSend serial 4 (fun _ => true) fun nsid k n s =>
    let s := s.trayForget nsid (65536 * k) 65536
    let s := s.unmapAll ((List.range 1024).map fun i => n.lpn + 1024 * k + i) 0x06
    let z := n.zone k
    let s := s.putZone nsid k HZone.fresh
    .inl (match z.bound with
      | some (g, m) => ((s.shutBands g [m]).zoneLag g).zoneUnit g
      | none => s))

/-- The number of a zone's state, as a zone descriptor carries it (PRESUMED; log 33). -/
def ZoneState.code : ZoneState → Nat
  | .empty => 1
  | .implicitOpen => 2
  | .explicitOpen => 3
  | .closed => 4
  | .full => 14

/-- A zone descriptor, 64 bytes: the type, the state, the attributes (bit 0 finished by the controller, bit 1 finish recommended), the
capacity, the start and the write pointer. -/
def zoneDescriptor (k : Nat) (z : HZone) : List Nat :=
  [2, 16 * z.state.code, b2n z.byController + 2 * b2n z.recommended, 0, 0, 0, 0, 0] ++ leBytes 8 65536 ++ leBytes 8 (65536 * k) ++
    leBytes 8 (65536 * k + z.wp) ++ List.replicate 32 0

/-- ZONE_MANAGEMENT_RECEIVE (R383): report zones from a block on; the extended report is refused at admission. CDW13 [15:8] picks states,
its bit 16 counts those reported alone (PRESUMED; log 33). -/
def execZoneManagementReceive (serial : Nat) (s : State) : Host.Outcome State Fault Refusal :=
  ok (s.onIo serial .zoneReceive fun c n s =>
    let first := c.cap.slba / 65536
    let opt := bitsOf (c.cap.w 13) 15 8
    let order : List Nat := [0, 1, 2, 3, 4, 14]
    let pick (z : HZone) : Bool := opt = 0 || z.state.code == order.getD opt 0
    let ks := ((List.range (n.size / 65536 - first)).map (first + ·)).filter fun k => pick (n.zone k)
    let room := (4 * (c.cap.w 12 + 1) - 64) / 64
    let shown := ks.take room
    let count := if bitOf (c.cap.w 13) 16 then shown.length else ks.length
    let data := leBytes 8 count ++ List.replicate 56 0 ++ shown.flatMap fun k => zoneDescriptor k (n.zone k)
    s.answerWith serial 0 (data.take (4 * (c.cap.w 12 + 1))) good)

/-- The value of a key that the in-tray holds, the newest (R391). -/
def State.trayValue (s : State) (nsid : Nat) (c : Capsule) : Option TrayEnt :=
  s.host.tray.reverse.find? fun t => t.kind == .value && t.nsid == nsid && t.key == c.keyNat && t.keyLen == c.keyLen

/-- A store holds a key. -/
def State.hasKey (s : State) (nsid : Nat) (c : Capsule) : Bool :=
  (s.trayValue nsid c).isSome || (sGet? s.host.kv (kvKey nsid c.keyLen c.keyNat)).isSome

/-- A store whose value is wholly here (R327, R389): the options in CDW11 [9:8] ask that the key exists, or that it does not (PRESUMED;
log 33). -/
def State.storeNow (s : State) (serial : Nat) (c : Cmd) : State :=
  let has := s.hasKey c.cap.nsid c.cap
  if bitOf (c.cap.w 11) 8 && !has then s.answer serial (verdict .keyMissing true)
  else if bitOf (c.cap.w 11) 9 && has then s.answer serial (verdict .keyExists true)
  else s.writeNow serial c

/-- STORE (R327, R389). -/
def execStore (serial : Nat) (s : State) : Host.Outcome State Fault Refusal :=
  ok (s.onIo serial .store fun c _ s => s.storeNow serial c)

/-- RETRIEVE (R391): the value from the in-tray, or from the media, where the lanes have delivered it at the DRAM address `at_`. The host's buffer is CDW10 bytes, and dword 0 tells the value's length (PRESUMED; log 33). -/
def execRetrieve (serial : Nat) (at_ : Option Nat) (s : State) : Host.Outcome State Fault Refusal :=
  ok (s.onMediaCmd serial .retrieve fun c n s =>
    let nsid := c.cap.nsid
    let give (l : List Nat) (s : State) : State := (s.countIo false l.length).answerWith serial l.length (l.take (c.cap.w 10)) good
    match s.trayValue nsid c.cap with
    | some t =>
      if s.office.unreadable.contains (keyMark (kvKey nsid t.keyLen t.key), 0) then s.readLost serial c n []
      else give (s.bagRead t.bags 0 t.count) s
    | none =>
      match sGet? s.host.kv (kvKey nsid c.cap.keyLen c.cap.keyNat) with
      | none => s.answer serial (verdict .keyMissing true)
      | some e =>
        let parcels := if e.bundled then [e.lpn] else (List.range (runParcels e.len)).map (e.lpn + ·)
        let gone := s.office.unreadable.any fun p => parcels.contains p.1 || p.1 == keyMark (kvKey nsid c.cap.keyLen c.cap.keyNat)
        let failed := parcels.any fun l => (List.range 64).any fun k => s.sectorLost serial l k
        if failed || gone then s.readLost serial c n []
        else
          match at_ with
          | none => if e.len = 0 then give [] s else s.putCmd serial { c with media := true }
          | some a => give ((s.bytes a e.len).map (·.toNat)) s)

/-- The keys of a store with their lengths, in rising order of the key's bytes (PRESUMED; log 33). -/
def State.keysOf (s : State) (nsid : Nat) : List (List Nat) :=
  let stored := (s.host.kv.filter fun e => e.1 / 2 ^ 128 / 17 == nsid).map fun e => leBytes e.2.keyLen (e.1 % 2 ^ 128)
  let held := (s.host.tray.filter fun t => t.kind == .value && t.nsid == nsid).map fun t => leBytes t.keyLen t.key
  let be (l : List Nat) : Nat := ((l ++ List.replicate 16 0).take 16).foldl (fun n b => n * 256 + b) 0
  sortBy (fun a b => be a ≤ be b) (stored ++ held).eraseDups

/-- LIST (R383): keys from the given one on: their count, and each with its length, padded to four bytes; the buffer is CDW10 bytes
(PRESUMED; log 33). -/
def execList (serial : Nat) (s : State) : Host.Outcome State Fault Refusal :=
  ok (s.onIo serial .list fun c _ s =>
    let be (l : List Nat) : Nat := ((l ++ List.replicate 16 0).take 16).foldl (fun n b => n * 256 + b) 0
    let ks := (s.keysOf c.cap.nsid).filter fun k => be c.cap.key ≤ be k
    let one (k : List Nat) : List Nat := leBytes 2 k.length ++ k ++ List.replicate ((4 - (k.length + 2) % 4) % 4) 0
    let shown := ks.foldl (fun (l : List (List Nat)) k =>
      if (l.flatMap one).length + (one k).length + 4 ≤ c.cap.w 10 then l ++ [k] else l) []
    s.answerWith serial 0 (leBytes 4 shown.length ++ shown.flatMap one) good)

/-- DELETE (R327, R330): the key's entry and its value go in one record, from the in-tray too. -/
def execDelete (serial : Nat) (s : State) : Host.Outcome State Fault Refusal :=
  ok (s.onIo serial .delete fun c _ s =>
    let nsid := c.cap.nsid
    let key := kvKey nsid c.cap.keyLen c.cap.keyNat
    if !s.hasKey nsid c.cap then s.answer serial (verdict .keyMissing true)
    else
      let old := s.freeOld key
      let s := s.trayDrop fun t => t.kind == .value && t.nsid == nsid && t.key == c.cap.keyNat && t.keyLen == c.cap.keyLen
      let s := s.putOffice { s.office with bundles := s.office.bundles.map fun b =>
        if b.placed then b else { b with values := b.values.filter fun v => v.1 != key } }
      let s := s.forgetKey key
      let s := s.unmapAll (old.map (·.1)) 0x05
      (s.putHost { s.host with kv := sDel s.host.kv key }).answer serial good)

/-- EXIST (R383). -/
def execExist (serial : Nat) (s : State) : Host.Outcome State Fault Refusal :=
  ok (s.onIo serial .exist fun c _ s =>
    s.answer serial (if s.hasKey c.cap.nsid c.cap then good else verdict .keyMissing true))

end Sys2Proof.Machine
end

