-- ==== Sys2Proof/Machine/Pages.lean ====
section
/-!
DEFINITION. What the device tells of itself: the log pages (R297, R366, R386, R387, R455 to R458), Identify (R381, R382, R388, R398), and
NVMe-MI out of band (R402). The places of the fields that the NVMe specifications lay out are PRESUMED (log 33).
-/
namespace Sys2Proof.Machine

/-- A page of `n` bytes with parts at their offsets; every other byte is 0. -/
def lay (n : Nat) (parts : List (Nat × List Nat)) : List Nat :=
  (List.range n).map fun i =>
    ((parts.find? fun p => p.1 ≤ i && i < p.1 + p.2.length).map fun p => p.2.getD (i - p.1) 0).getD 0

/-- Text padded with spaces. -/
def padded (n : Nat) (l : List Nat) : List Nat := (l ++ List.replicate n 32).take n

/-- Decimal digits of a number in ASCII. -/
def digits (n : Nat) : List Nat := (Nat.toDigits 10 n).map Char.toNat

/-- An error log entry (R386). -/
def ErrEnt.image (e : ErrEnt) : List Nat :=
  lay 64 [(0, leBytes 8 e.count), (8, leBytes 2 e.sqid), (10, leBytes 2 e.cid), (12, leBytes 2 (2 * e.status.code)),
    (16, leBytes 8 e.lba), (24, leBytes 4 e.nsid)]

/-- Log page 0x01 (R386): 64 entries, the newest first. -/
def State.page01 (s : State) : List Nat := (s.host.errors.flatMap ErrEnt.image ++ List.replicate 4096 0).take 4096

/-- A temperature sensor in kelvin, 0 where it is broken or nothing was read (R455). -/
def State.sensorKelvin (s : State) (n : Nat) : Nat :=
  if s.on (Reg.THM_SENS_VALID n) then ((s.getS (Reg.THM_SENS_TEMP n)) / 16 + 273).toNat else 0

/-- Log page 0x02 (R26, R401, R455). -/
def State.page02 (s : State) : List Nat :=
  let count (k : Nat) : Nat := sGet s.host.counts k 0
  let minutes (ns : Nat) : Nat := ns / 60000000000
  let open_ (off : Nat) : Nat := Config.smart off s.ldgPot
  lay 512 [(0, [s.criticalWarning % 256]), (1, leBytes 2 s.kelvin), (3, [s.availableSpare, 10, open_ 5 % 256]),
    (32, leBytes 16 ((count 0 + 999) / 1000)), (48, leBytes 16 ((count 1 + 999) / 1000)), (64, leBytes 16 (count 2)),
    (80, leBytes 16 (count 3)), (96, leBytes 16 (open_ 96)), (112, leBytes 16 (s.get Reg.LDG_BOOT_VALUE)),
    (128, leBytes 16 (s.ldgPot / 3600000)), (144, leBytes 16 (open_ 144)), (160, leBytes 16 s.host.mediaErrs),
    (176, leBytes 16 s.host.errCount), (192, leBytes 4 (minutes s.heat.wcNs)), (196, leBytes 4 (minutes s.heat.ccNs)),
    (200, (List.range 8).flatMap fun n => leBytes 2 (s.sensorKelvin n))]

/-- The build identifier of a slot's firmware, 0 for an empty slot. -/
def State.slotBuild (s : State) (k : Nat) : Nat := ((s.slotOf k).map (·.build 0x10)).getD 0

/-- The number of the slot of the running firmware: 1 for A, 2 for B (R386). -/
def State.runningSlot (s : State) : Nat := s.get Reg.SYS_BOOT_SLOT + 1

/-- Log page 0x03 (R386). -/
def State.page03 (s : State) : List Nat :=
  lay 512 [(0, [s.runningSlot]), (8, leBytes 8 (s.slotBuild 0)), (16, leBytes 8 (s.slotBuild 1))]

/-- Log page 0x04: the namespaces changed. -/
def State.page04 (s : State) : List Nat := (s.host.changedNs.flatMap (leBytes 4) ++ List.replicate 4096 0).take 4096

/-- Log page 0x05 for a command set (R382 to R384): each opcode supported, and those that change what a namespace holds. -/
def effectsPage (csi : Nat) : List Nat :=
  let admin (op : Nat) : Nat := b2n (adminOpcodes.contains op) + (if [0x0D, 0x80, 0x84, 0xC2].contains op then 2 else 0)
  let io (op : Nat) : Nat := match ioOp csi op with
    | some k => 1 + 2 * b2n k.writes
    | none => 0
  lay 4096 [(0, (List.range 256).flatMap fun op => leBytes 4 (admin op)), (1024, (List.range 256).flatMap fun op => leBytes 4 (io op))]

/-- The text of an IPv4 address. -/
def text4 (a : Nat) : List Nat :=
  digits (bitsOf a 31 24) ++ 46 :: digits (bitsOf a 23 16) ++ 46 :: digits (bitsOf a 15 8) ++ 46 :: digits (bitsOf a 7 0)

/-- The text of an IPv6 address, in eight groups. -/
def text6 (a : Nat) : List Nat :=
  ((List.range 8).flatMap fun k => 58 :: (Nat.toDigits 16 (a / 2 ^ (112 - 16 * k) % 2 ^ 16)).map Char.toNat).tail

/-- An entry of the discovery page. -/
def discoveryEntry (port fam : Nat) (addr name : List Nat) : List Nat :=
  lay 1024 [(0, [3, fam, 2, 0]), (4, leBytes 2 port), (6, leBytes 2 0xFFFF), (8, leBytes 2 32), (32, padded 32 (digits 4420)),
    (256, name), (512, padded 256 addr)]

/-- The serial number of the drive (R388), from the factory area. -/
def State.serialNo (s : State) : List Nat :=
  ((s.factory.bind fun f => f.2.cals.findSome? fun t => match t with
    | .serial l => some l
    | _ => none).getD []).take 20

/-- The subsystem's NQN (R376). -/
def State.nqn (s : State) : List Nat := subsystemName ++ s.serialNo

/-- Log page 0x70 (R376): an entry for each address that NVMe/TCP listens on. -/
def State.page70 (s : State) : List Nat :=
  let of_ (p : Prt) : List (List Nat) :=
    let q := s.host.ports.at p
    (q.ip4.toList.map fun a => discoveryEntry p.n 1 (text4 a) s.nqn) ++ (q.ip6.map fun a => discoveryEntry p.n 2 (text6 a) s.nqn)
  let l := of_ .a ++ of_ .b
  lay 1024 [(8, leBytes 8 l.length)] ++ l.flatten

/-- Log page 0x80: the oldest reservation notification. -/
def State.page80 (s : State) : List Nat :=
  match s.host.resNotes with
  | [] => lay 64 []
  | (nsid, type) :: t => lay 64 [(0, leBytes 8 1), (8, [type % 256, min 255 t.length]), (12, leBytes 4 nsid)]

/-- Log page 0x81: the sanitize status, with the step reached of six as its progress (R362). -/
def State.page81 (s : State) : List Nat :=
  let progress := match s.cons.sanitizing with
    | some k => k * 65536 / 6
    | none => 0xFFFF
  lay 512 [(0, leBytes 2 progress), (2, leBytes 2 s.host.sanitize), (4, leBytes 4 4)]

/-- Log page 0xBF for a namespace: the zones changed. -/
def State.pageBF (s : State) (nsid : Nat) : List Nat :=
  let l := (s.host.changedZones.filter fun z => z.1 == nsid).map fun z => 65536 * z.2
  lay 4096 [(0, leBytes 2 (if 511 < l.length then 0xFFFF else l.length)), (8, (l.take 511).flatMap (leBytes 8))]

/-- The header of log page 0xC0 (R456) over a view. -/
def State.headC0 (s : State) (view : List LdgRec) : List Nat :=
  let slot (f : Nat) : List Nat := match sGet? s.ldg.slots f with
    | none => []
    | some z => [1, 0] ++ leBytes 2 z.trigger ++ leBytes 4 0 ++ leBytes 8 z.first ++ leBytes 4 z.count ++ leBytes 4 z.tick ++ leBytes 8 z.pot
  lay 512 ([(0, leBytes 8 (s.ldgSeq - 1)), (8, leBytes 8 ((s.ldg.ring.head?.map (·.seq)).getD 0)), (0x10, leBytes 4 view.length),
    (0x14, leBytes 4 (s.get Reg.LDG_LOST_LOST))] ++ (List.range 8).map fun f => (0x20 + 32 * f, slot f))

/-- The view of log page 0xC0 that LSP [3:0] chooses (R456). -/
def State.viewC0 (s : State) (lsp : Nat) : Option (List LdgRec) :=
  let v := lsp % 16
  if v = 0 then some s.ldg.ring
  else if v ≤ 8 then some (((sGet? s.ldg.slots (v - 1)).map (·.recs)).getD [])
  else none

/-- Log page 0xC0 (R456). -/
def State.pageC0 (s : State) (lsp : Nat) : Option (List Nat) :=
  (s.viewC0 lsp).map fun v => s.headC0 v ++ v.flatMap LdgRec.image

/-- A surface's entry of log page 0xC1 (R366). -/
def State.surfaceC1 (s : State) (x : Nat) : List Nat :=
  let bands := s.bandsOn x
  let inState (k : Nat) : Nat := (bands.filter fun b => b.2.state == k).length
  leBytes 2 (s.sparesLeft x) ++ leBytes 2 (s.office.areas / 50) ++ leBytes 2 (inState 5) ++ leBytes 2 (inState 4) ++
    leBytes 4 (bands.map fun b => b.2.defects.length).sum ++ leBytes 2 (s.fcSpare x) ++
    leBytes 2 (s.rcv.watch.filter fun w => w.1 == x).length

/-- The groups in use with any member unavailable, and those with no redundancy left, first-class areas with one copy among them
(R366). -/
def State.groupHealth (s : State) : Nat × Nat :=
  let gs := s.office.groups.map fun g => s.missing g.2
  let single := (s.office.pairs.filter fun p => s.memberGone p.a != s.memberGone p.b).length
  ((gs.filter fun m => 0 < m).length, (gs.filter fun m => m == s.layoutKM.2).length + single)

/-- Log page 0xC1 (R366). -/
def State.pageC1 (s : State) : List Nat :=
  let count (k : Nat) : Nat := sGet s.rcv.counts k 0
  let retired := s.retiredSurfaces.length
  let g := s.groupHealth
  lay 0x300 ([(0, [s.get Reg.CNS_LAYOUT_LAYOUT, retired, s.get Reg.CNS_POLICY_HEAD_RESERVE - retired, s.cons.rebuild]),
    (4, leBytes 4 s.retiredMask), (8, leBytes 4 (s.get Reg.CNS_UNAVAIL_UNAVAIL)), (0x10, leBytes 8 s.cons.done),
    (0x18, leBytes 8 s.cons.total), (0x20, leBytes 8 (Config.rebuildSeconds (s.cons.total - s.cons.done) s.cons.done)),
    (0x28, leBytes 4 g.1), (0x2C, leBytes 4 g.2), (0x30, leBytes 8 (count 1 + count 2)), (0x38, leBytes 8 (count 3)),
    (0x40, leBytes 8 (count 4 + count 5)), (0x48, leBytes 8 (count 6)), (0x50, leBytes 8 (count 7)),
    (0x58, leBytes 8 s.cons.mismatches), (0x60, leBytes 8 ((s.ms - s.cons.lapMs) / 1000))] ++
    s.surfaces.map fun x => (0x100 + 16 * x, s.surfaceC1 x))

/-- Log page 0xC2 (R297). The spec gives its content and no layout: the order here is the model's (DESIGN CHOICE; log 41). -/
def State.pageC2 (s : State) : List Nat :=
  let pm := s.get Reg.FRK_STATUS_ROLE = 3
  let slot (k : Nat) : List Nat := match sGet? s.krx.slots k with
    | some z => leBytes 2 (z.hold.getD 0) ++ [z.hold.getD 0, z.state] ++ leBytes 4 z.age
    | none => leBytes 8 0
  lay 0x280 ([(0, [s.get Reg.FRK_STATUS_ROLE, s.get Reg.FRK_STATUS_PM_SLOT, s.get Reg.FRK_PURSE_HOLD, s.get Reg.FRK_PURSE_COMMIT,
      s.get Reg.FRK_TARGET_TARGET, s.get Reg.FRK_COUNTS_ELECTIONS, s.get Reg.FRK_COUNTS_CRC_ERRORS, s.get Reg.FRK_COUNTS_GRANTS,
      s.get Reg.FRK_COUNTS_SHEDS]),
    (0x0A, leBytes 2 (s.get Reg.FRK_BOOK_BOOK_GEN)), (0x10, leBytes 8 s.krx.lowered),
    (0x18, (List.range 8).flatMap fun k => leBytes 8 (sGet s.krx.stateNs k 0 / 1000000))] ++
    (if pm then (List.range 64).map fun k => (0x80 + 8 * k, slot k) else []))

/-- Log page 0xC3 (R387). -/
def State.pageC3 (s : State) : List Nat :=
  lay 64 [(0, [s.get Reg.PMK_STATUS_STATE, s.get Reg.PMK_STATUS_VALID, s.get Reg.TCK_STATUS_SRC]),
    (4, leBytes 4 (s.liveWord 0x40010010)), (8, leBytes 8 s.host.degraded), (0x10, leBytes 8 (s.host.degradedNs / 1000000000)),
    (0x18, leBytes 8 s.host.handovers), (0x20, leBytes 4 (s.get Reg.PMK_REV_REV_PERIOD)),
    (0x24, leBytes 2 (s.get Reg.SPN_STATUS_ANGLE_SRC + 16 * min 15 (s.get Reg.SPN_COUNTS_REFUSALS)))]

/-- The words of a capture record as bytes (R445). -/
def CapRec.image (r : CapRec) : List Nat := (List.range 8).flatMap fun k => leBytes 4 (r.word k)

/-- The records of unlisted types that the last start skipped (R38): in the factory copy and the slot in use, and in the device area. -/
def State.unknownRecords (s : State) : Nat :=
  ((s.factory.map (·.2.unknown)).getD 0) +
    (if s.get Reg.SYS_BOOT_MODE = 2 then 0 else ((s.slotOf (s.get Reg.SYS_BOOT_SLOT)).map (·.unknown)).getD 0) +
    (s.devEntries.filter fun e => !recordTypes.contains e.type).length

/-- Log page 0xC4 (R457). -/
def State.pageC4 (s : State) : List Nat :=
  let d := s.desk
  let rows (k : Nat) : Nat := Config.sramRows k - sGet s.mem.rowsUsed k 0
  let worst := (List.range 8).foldl (fun m k => max m (sGet s.mem.spareUsed k 0)) 0
  let newest := (sortBy (fun (p q : Nat × CapRec) => q.2.serial ≤ p.2.serial) d.recs).take 16
  lay 1024 [(0, leBytes 8 d.events ++ leBytes 8 d.faults ++ leBytes 8 d.graves ++ leBytes 8 d.injected),
    (0x20, (List.range 7).flatMap fun k => leBytes 8 (sGet d.levels (k + 1) 0)), (0x58, leBytes 4 d.mostHeld),
    (0x5C, leBytes 4 d.timeouts), (0x60, (List.range 3).flatMap fun k => leBytes 2 (rows k)), (0x66, leBytes 2 (nandSpares - worst)),
    (0x68, [(s.factory.map (·.1)).getD 0, s.host.rejects.1, s.host.rejects.2, s.unknownRecords % 256]),
    (0x6C, leBytes 2 s.host.clamps), (0x70, leBytes 8 s.mem.replaced), (0x200, newest.flatMap fun p => p.2.image)]

/-- Log page 0xC5 (R458). -/
def State.pageC5 (s : State) : List Nat :=
  let h := s.heat
  let b (i : Int) : List Nat := leBytes 2 (unsigned 16 i)
  let sensor (n : Nat) : List Nat :=
    let z := sGet h.sensors n Sensor.cold
    leBytes 2 (s.get (Reg.THM_SENS_TEMP n)) ++ b (z.least.getD 0) ++ b (z.greatest.getD 0)
  let secs (ns : Nat) : List Nat := leBytes 8 (ns / 1000000000)
  lay 512 [(0, (List.range 8).flatMap sensor), (0x30, leBytes 2 (s.get Reg.THM_JUNC_J) ++ leBytes 2 (s.get Reg.THM_JUNC_J_MODEL)),
    (0x34, [s.get Reg.THM_STATUS_STATE, s.get Reg.THM_STATUS_STEP, s.get Reg.THM_STATUS_BROKEN, s.get Reg.THM_STATUS_TRIP_BROKEN]),
    (0x38, secs h.warnNs ++ secs h.stepNs), (0x48, leBytes 4 h.entries ++ leBytes 4 h.shutdowns), (0x50, secs h.wcNs ++ secs h.ccNs),
    (0x60, (List.range 24).flatMap fun k => leBytes 4 (sGet h.bins k 0 / 3600000000000))]

/-- A log page by LID (R386): `vendor` pages need NSID 0xFFFFFFFF. None for a LID not supported, an error for fields not supported. -/
def State.logPage (s : State) (c : Cmd) (discovery : Bool) : Option (Status ⊕ List Nat) :=
  let lid := c.cap.w 10 % 256
  let lsp := bitsOf (c.cap.w 10) 14 8
  if discovery then (if lid = 0x70 then some (.inr s.page70) else none)
  else if 0xC0 ≤ lid && lid ≤ 0xC5 && c.cap.nsid != 0xFFFFFFFF then some (.inl .invalidField)
  else
    match lid with
    | 0x01 => some (.inr s.page01)
    | 0x02 => some (.inr s.page02)
    | 0x03 => some (.inr s.page03)
    | 0x04 => some (.inr s.page04)
    | 0x05 => some (.inr (effectsPage (bitsOf (c.cap.w 14) 31 24)))
    | 0x80 => some (.inr s.page80)
    | 0x81 => some (.inr s.page81)
    | 0xBF => some (.inr (s.pageBF c.cap.nsid))
    | 0xC0 => match s.pageC0 lsp with
      | some l => some (.inr l)
      | none => some (.inl .invalidField)
    | 0xC1 => some (.inr s.pageC1)
    | 0xC2 => some (.inr s.pageC2)
    | 0xC3 => some (.inr s.pageC3)
    | 0xC4 => some (.inr s.pageC4)
    | 0xC5 => some (.inr s.pageC5)
    | _ => none

/-- What reading a page does (R386, R400, R456): with RAE 0 its events are no longer retained and the lists it gave are empty again, and
with LSP [4] a freeze slot of page 0xC0 is released. -/
def State.pageRead (s : State) (c : Cmd) : State :=
  let lid := c.cap.w 10 % 256
  let lsp := bitsOf (c.cap.w 10) 14 8
  let s := if lid = 0xC0 && bitOf lsp 4 && 1 ≤ lsp % 16 && lsp % 16 ≤ 8 then
      { s with ldg := { s.ldg with slots := sDel s.ldg.slots (lsp % 16 - 1) } }
    else s
  if bitOf (c.cap.w 10) 15 then s
  else
    let s := match s.assocOf c with
      | some (n, a) => s.putAssoc n { a with events := a.events.filter fun e => e.page != lid, told := a.told.filter fun e => e.page != lid }
      | none => s
    match lid with
    | 0x04 => s.putHost { s.host with changedNs := [] }
    | 0x80 => s.putHost { s.host with resNotes := s.host.resNotes.tail }
    | 0xBF => s.putHost { s.host with changedZones := s.host.changedZones.filter fun z => z.1 != c.cap.nsid }
    | _ => s

/-- GET_LOG_PAGE (R386, R400): the dwords asked for from the offset on. -/
def execGetLogPage (serial : Nat) (s : State) : Host.Outcome State Fault Refusal :=
  ok (s.onAdmin serial 0x02 fun c s =>
    let n := 4 * (c.cap.w 10 / 2 ^ 16 + 2 ^ 16 * (c.cap.w 11 % 2 ^ 16) + 1)
    let off := c.cap.w 12 + 2 ^ 32 * c.cap.w 13
    match s.logPage c ((s.cmdAssoc c).any (·.discovery)) with
    | none => s.answer serial (verdict .invalidLogPage true)
    | some (.inl st) => s.answer serial (verdict st true)
    | some (.inr page) =>
      if page.length < off || off % 4 != 0 || 2 ^ 26 < n then s.answer serial (verdict .invalidField true)
      else (s.pageRead c).answerWith serial 0 ((page.drop off).take n) good)

/-- A power state's descriptor (R398): maximum power in 0.01 W, non-operational, entry and exit latency in µs. -/
def powerState (mw10 : Nat) (nops : Bool) (enlat exlat : Nat) : List Nat :=
  lay 32 [(0, leBytes 2 mw10), (3, [2 * b2n nops]), (4, leBytes 4 enlat), (8, leBytes 4 exlat)]

/-- The capacity of the namespaces together, in bytes. -/
def State.allotted (s : State) : Nat := (s.host.nss.map fun n => n.2.parcels).sum * 262144

/-- Identify Controller (R388, R398, R455). -/
def State.identifyController (s : State) (cntlid : Nat) (discovery : Bool) : List Nat :=
  let est := s.get Reg.HQ_LIMITS_SPINUP_EST
  let mn := if s.variant == .vk432m then nameBytes "VK-432M" else nameBytes "VK-232M"
  let build := s.slotBuild (s.get Reg.SYS_BOOT_SLOT)
  let total := s.office.p * 262144
  lay 4096 [(4, padded 20 s.serialNo), (24, padded 40 mn), (64, padded 8 (leBytes 4 build)), (76, [3, 14]), (78, leBytes 2 cntlid),
    (80, leBytes 4 0x00020000), (92, leBytes 4 (2 ^ 8 + 2 ^ 9 + 2 ^ 27)), (96, leBytes 4 1), (111, [if discovery then 2 else 1]),
    (128, leBytes 2 (s.get Reg.HQ_CRDT12_CRDT1) ++ leBytes 2 (s.get Reg.HQ_CRDT12_CRDT2) ++ leBytes 2 (s.get Reg.HQ_CRDT3_CRDT3)),
    (256, leBytes 2 0x0E), (258, [0, 3, 4, 6, 63, 4]), (266, leBytes 2 (s.get Reg.THM_HDA_WCTEMP + 273)),
    (268, leBytes 2 (s.get Reg.THM_HDA_CCTEMP + 273)), (280, leBytes 16 total), (296, leBytes 16 (total - s.allotted)),
    (319, [1]), (320, leBytes 2 10), (328, leBytes 4 1), (512, [0x66, 0x44]), (514, leBytes 2 256), (516, leBytes 4 64),
    (520, leBytes 2 (4 + 8 + 16 + 32 + 128)), (526, leBytes 2 255), (528, leBytes 2 255), (531, [1]),
    (768, s.nqn), (1792, leBytes 4 516), (1796, leBytes 4 1),
    (2048, powerState 5500 false 0 0 ++ powerState 4000 false 1000 1200 ++ powerState 2600 false 150000 200000 ++
      powerState 1200 true 150000 (est * 78500 + 1500000) ++ powerState 250 true 150000 (est * 100000 + 1500000))]

/-- Identify Namespace (R381): one format of 4096 bytes. -/
def State.identifyNs (s : State) (n : Ns) : List Nat :=
  let size := if n.csi = 1 then 0 else n.size
  lay 4096 [(0, leBytes 8 size), (8, leBytes 8 size), (16, leBytes 8 size), (30, [1, 0x7F]), (99, [b2n (s.protectedNs n)]),
    (128, [0, 0, 12, 0])]

/-- The identify data of a namespace under its own command set (R321, R325, R381). -/
def Ns.identifySet (n : Ns) : List Nat :=
  if n.csi = 1 then
    lay 4096 [(0, leBytes 8 n.size), (16, leBytes 8 n.size), (72, leBytes 2 16), (76, leBytes 4 (2 ^ 26)), (80, leBytes 4 (2 ^ 28))]
  else if n.csi = 2 then lay 4096 [(4, leBytes 4 255), (8, leBytes 4 127), (2816, leBytes 8 65536)]
  else lay 4096 []

/-- The NSIDs above one, of a command set where one is named. -/
def State.nsidList (s : State) (above : Nat) (csi : Option Nat) : List Nat :=
  let l := (s.host.nss.filter fun n => above < n.1 && csi.all (· == n.2.csi)).map (·.1)
  (l.flatMap (leBytes 4) ++ List.replicate 4096 0).take 4096

/-- IDENTIFY (R382, R388): CNS in CDW10 [7:0], the command set in CDW11 [31:24]. -/
def execIdentify (serial : Nat) (s : State) : Host.Outcome State Fault Refusal :=
  ok (s.onAdmin serial 0x06 fun c s =>
    let csi := bitsOf (c.cap.w 11) 31 24
    let give (l : List Nat) : State := s.answerWith serial 0 l good
    let bad := s.answer serial (verdict .invalidField true)
    let discovery := (s.cmdAssoc c).any (·.discovery)
    let id := ((s.assocOf c).map (·.1)).getD 0
    let ofNs (f : Ns → State) : State := match s.ns? c.cap.nsid with
      | some n => f n
      | none => s.answer serial (verdict .invalidNamespace true)
    if discovery && c.cap.w 10 % 256 != 1 then bad
    else
      match c.cap.w 10 % 256 with
      | 0x00 => ofNs fun n => give (s.identifyNs n)
      | 0x01 => give (s.identifyController id discovery)
      | 0x02 => give (s.nsidList c.cap.nsid none)
      | 0x03 => ofNs fun n => give (lay 4096 [(0, [4, 1, 0, 0, n.csi])])
      | 0x05 => ofNs fun n => if n.csi = csi then give n.identifySet else bad
      | 0x06 => if csi = 2 then give (lay 4096 [(0, [8])]) else if csi < 2 then give (lay 4096 []) else bad
      | 0x07 => if csi ≤ 2 then give (s.nsidList c.cap.nsid (some csi)) else bad
      | 0x10 => give (s.nsidList c.cap.nsid none)
      | 0x11 => ofNs fun n => give (s.identifyNs n)
      | _ => bad)

/-- An NVMe-MI command, while the device answers them (R402). -/
def State.miAnswer (s : State) (good : Bool) (l : List Nat) : State := if s.miUp then s.emit (.mi good l) else s

/-- READ_NVME_MI_DATA_STRUCTURE (R402): the subsystem with two ports beside SMBus, a port, the controllers, or one of them; any other
structure is refused. -/
def execReadNvmeMiDataStructure (kind id : Nat) (s : State) : Host.Outcome State Fault Refusal :=
  ok (match kind with
    | 0 => s.miAnswer true (lay 32 [(0, [2, 1, 2])])
    | 1 => s.miAnswer (id ≤ 2) (if id = 2 then lay 32 [(0, [2]), (9, [0x1D])] else lay 32 [(0, [0])])
    | 2 => s.miAnswer true (leBytes 2 s.host.assocs.length ++ s.host.assocs.flatMap fun a => leBytes 2 a.1)
    | 3 => s.miAnswer (s.assoc? id).isSome (lay 32 [(0, [b2n ((s.assoc? id).any fun a => a.port == 1)])])
    | _ => s.miAnswer false [])

/-- NVM_SUBSYSTEM_HEALTH_STATUS_POLL (R48, R401, R402): the warnings, inverted as NVMe-MI has them, and the composite temperature. -/
def execNvmSubsystemHealthStatusPoll (s : State) : Host.Outcome State Fault Refusal :=
  let w := s.criticalWarning % 64
  ok (s.miAnswer true [if s.host.assocs.isEmpty then 0x30 else 0x38, 255 - w, min 126 (s.kelvin - 273), Config.smart 5 s.ldgPot % 256,
    0, 0, 0, 0])

/-- CONTROLLER_HEALTH_STATUS_POLL (R401, R402): each controller's number, readiness, temperature, spare and warnings. -/
def execControllerHealthStatusPoll (s : State) : Host.Outcome State Fault Refusal :=
  ok (s.miAnswer true (s.host.assocs.flatMap fun a =>
    lay 16 [(0, leBytes 2 a.1), (2, leBytes 2 (b2n a.2.ready)), (4, leBytes 2 s.kelvin),
      (6, [Config.smart 5 s.ldgPot % 256, s.availableSpare, s.criticalWarning % 256])]))

/-- CONFIGURATION_GET (R402): the SMBus frequency, 1 for 100 kHz, 2 for 400 kHz. -/
def execConfigurationGet (s : State) : Host.Outcome State Fault Refusal :=
  let code := if s.host.smbus = 100 then 1 else 2
  ok (s.miAnswer true [code, 0, 0])

/-- CONFIGURATION_SET (R367, R402): the SMBus frequency, at most 400 kHz; another code is refused. -/
def execConfigurationSet (code : Nat) (s : State) : Host.Outcome State Fault Refusal :=
  let khz := if code = 1 then 100 else 400
  ok (if !s.miUp then s
    else if code = 0 || 2 < code then s.miAnswer false []
    else ((s.putHost { s.host with smbus := khz }).miAnswer true []))

/-- VPD_READ (R402). -/
def execVpdRead (off n : Nat) (s : State) : Host.Outcome State Fault Refusal :=
  ok (s.miAnswer true ((List.range n).map fun i => Config.vpd (off + i) % 256))

end Sys2Proof.Machine
end

