-- ==== Sys2Proof/Machine/Heat.lean ====
section
/-!
DEFINITION. Heat and faults (R30, R436 to R450): broken sensors, throttle steps, the thermal shutdown and its deferral, grave faults as
they start a power cycle, the takeover by the relief core, the handlers' completions, and injection.
-/
namespace Sys2Proof.Machine

/-- The junction temperature, in 1/16 °C (R437). -/
def State.junction (s : State) : Int := s.getS Reg.THM_JUNC_J

/-- A level in °C as 1/16 °C. -/
def level16 (c : Nat) : Int := ((16 * c : Nat) : Int)

/-- A reading of a sensor as the payload of a ledger record. -/
def word16 (i : Int) : Nat := unsigned 16 i

/-- STATE and STEP as the thermal slice writes them to port 0xAD (R438). -/
def State.heatWord (s : State) : Nat := s.get Reg.THM_STATUS_STATE + 8 * s.get Reg.THM_STATUS_STEP

/-- The thermal ledger record (R453): STATE, STEP, J and the composite temperature. -/
def State.ledgerHeat (s : State) : State :=
  s.ledger 0x0020 [s.get Reg.THM_STATUS_STATE, s.get Reg.THM_STATUS_STEP, word16 s.junction, word16 s.heat.composite, 0, 0, 0]

/-- Do something, and raise the event of Critical Warning for each bit that was not told of since it was last 0 (R400, R401). Each tick ends
with it, so that a spare used within the tick is told in the same tick (R31). -/
def State.watchCritical (s : State) (f : State → State) : State :=
  let t := f s
  let a := t.host.told
  let b := t.criticalWarning
  let t := t.putHost { t.host with told := b }
  let t := if bitOf b 2 && !bitOf a 2 || bitOf b 3 && !bitOf a 3 || bitOf b 4 && !bitOf a 4 then t.raiseEvent ⟨1, 0, 0x02⟩ else t
  let t := if bitOf b 1 && !bitOf a 1 then t.raiseEvent ⟨1, 1, 0x02⟩ else t
  if bitOf b 0 && !bitOf a 0 then (t.set Reg.SYS_SPARES_SPARE_LOW 1).raiseEvent ⟨1, 2, 0x02⟩ else t

/-- Why sensor `n` is judged broken (R436): 1 its range, 2 stuck, 3 its disagreement with the other die sensors. -/
def State.sensorFault (s : State) (n : Nat) : Option Nat :=
  let z := sGet s.heat.sensors n Sensor.cold
  if 7 < n || s.bit Reg.THM_STATUS_BROKEN n then none
  else if 8 ≤ z.out then some 1
  else if 600000 ≤ s.ms - z.sinceMs && 48 ≤ z.modelHi - z.modelLo then some 2
  else if n < 6 && 256 ≤ z.far then some 3
  else none

/-- SENSOR_BROKEN (R436, R401): judged broken until the next power cycle, with a ledger record. -/
def execSensorBroken (n : Nat) (s : State) : Host.Outcome State Fault Refusal :=
  match s.sensorFault n with
  | none => ok s
  | some why =>
    ok (s.watchCritical fun s =>
      let s := ((s.setBit Reg.THM_STATUS_BROKEN n true).set (Reg.THM_SENS_VALID n) 0).set Reg.THM_INT_BROKEN 1
      let s := s.putPortOut 0xAD (s.heatWord + 2 ^ (5 + n))
      s.ledger 0x0021 [n, why, word16 (sGet s.heat.sensors n Sensor.cold).reading, 0, 0, 0, 0])

/-- The field of a trip diode's reading (R460). -/
def tripField (n : Nat) : Fld := if n = 0 then Reg.THM_TRIP_TRIP0 else Reg.THM_TRIP_TRIP1

/-- A trip diode is judged broken (R436): it reads open or short, or it differs from the other by more than 10 K while that one agrees
with the junction estimate within 10 K. -/
def State.tripFault (s : State) (n : Nat) : Option Nat :=
  let t := s.getS (tripField n)
  let o := s.getS (tripField (1 - n))
  if 1 < n || s.bit Reg.THM_STATUS_TRIP_BROKEN n then none
  else if s.get (tripField n) = 0x8000 then some 1
  else if s.get (tripField (1 - n)) != 0x8000 && 160 < (t - o).natAbs && (o - s.junction).natAbs ≤ 160 then some 2
  else none

/-- TRIP_DIODE_BROKEN (R436). -/
def execTripDiodeBroken (n : Nat) (s : State) : Host.Outcome State Fault Refusal :=
  match s.tripFault n with
  | none => ok s
  | some why =>
    let t := word16 (s.getS (tripField n))
    ok (((s.setBit Reg.THM_STATUS_TRIP_BROKEN n true).set Reg.THM_INT_BROKEN 1).ledger 0x0021 [8 + n, why, t, 0, 0, 0, 0])

/-- Decoder half 1 leaves service for throttle step 2 with its domain off, where half 0 serves, and returns below it (R107, R440). -/
def State.throttleHalf (s : State) (out : Bool) : State :=
  let other := s.on Reg.DEC_CTRL_HALF0_EN && !s.bit Reg.DEC_STATUS_FAULT 0
  if out then
    if other && !s.bit Reg.DEC_STATUS_FAULT 1 then
      ((s.set Reg.DEC_CTRL_HALF1_EN 0).setHalf 1 false).pdSwitchOff 10
    else s
  else if s.bit Reg.DEC_STATUS_FAULT 1 || s.on Reg.DEC_CTRL_HALF1_EN then s
  else
    let s := (s.pdSwitchOn 10).set Reg.DEC_CTRL_HALF1_EN 1
    { s with dec := { s.dec with returning := s.dec.returning ++ [1] } }

/-- STEP changes (R440). -/
def State.setStep (s : State) (k : Nat) : State :=
  let was := s.get Reg.THM_STATUS_STEP
  if was = k then s
  else
    let s := (s.set Reg.THM_STATUS_STEP k).set Reg.THM_INT_STEP 1
    let h := s.heat
    let s := { s with heat := { h with stepMs := s.ms, rose := h.rose || was < k, entries := h.entries + b2n (was = 0) } }
    let s := if was < 2 && 2 ≤ k then s.throttleHalf true else if 2 ≤ was && k < 2 then s.throttleHalf false else s
    s.ledgerHeat

/-- The composite temperature exceeds CCTEMP (R440). -/
def State.ccHot (s : State) : Bool := level16 (s.get Reg.THM_HDA_CCTEMP) < s.heat.composite

/-- The step that throttling comes to now (R440, R459): up at once as J reaches THROT and then every THR_UP, down every THR_DOWN at or
below THROT − 5 K, at least 1 above CCTEMP, and held while a shutdown is deferred. -/
def State.nextStep (s : State) : Nat :=
  let k := s.get Reg.THM_STATUS_STEP
  let th := level16 (s.get Reg.THM_LVL_THROT)
  let up := 100 * max 1 (s.get Reg.THM_THR_THR_UP)
  let down := 100 * max 1 (s.get Reg.THM_THR_THR_DOWN)
  let since := max s.heat.stepMs (s.heat.coolMs.getD s.ms)
  if s.desk.deferred then k
  else if th ≤ s.junction then (if !s.heat.rose || up ≤ s.ms - s.heat.stepMs then min 3 (k + 1) else k)
  else if s.ccHot && k = 0 then 1
  else if s.junction ≤ th - 80 && down ≤ s.ms - since then max (b2n s.ccHot) (k - 1)
  else k

/-- The thermal slice runs (R179, R438). -/
def State.thermalSlice (s : State) : Bool := s.pdOn 12 && s.sliceRuns 15

/-- THROTTLE_STEP (R440): the thermal slice moves STEP. -/
def execThrottleStep (s : State) : Host.Outcome State Fault Refusal :=
  ok (if s.thermalSlice then s.setStep s.nextStep else s)

/-- Steps 1 and 2 of a grave-fault power cycle begin (R216, R441, R442, R449): emergency unload, every arm driver signalled, the inverter
off. -/
def State.graveGo (s : State) (trigger : Nat) : State :=
  let s := s.emUnloadAll trigger
  let s := s.acts.foldl (fun s x =>
    let l := s.lp x
    if l.parked then s else s.putLp x { l with graveTicks := some 0 }) s
  if s.pdOn 27 && s.spSt != 0 then s.notAtSpeed.coast else s

/-- The thermal shutdown from instant X (R441, R443): a grave fault; one captured while the module cools is an event and starts the 60 s
again. -/
def State.shutDown (s : State) : State :=
  let r := s.graveCapture 0x70 0x0B 0 (word16 s.junction) true
  let s := r.1
  if r.2 then
    let s := (s.set Reg.THM_STATUS_STATE 3).set Reg.THM_INT_SHUTDOWN 1
    let s := { s with heat := { s.heat with held := true, shutdowns := s.heat.shutdowns + 1 },
                      pwr := { s.pwr with thermalMs := some s.ms } }
    s.ledgerHeat.graveGo 0x4
  else if s.get Reg.THM_STATUS_STATE = 4 then
    { s with heat := { s.heat with held := true }, pwr := { s.pwr with thermalMs := some s.ms } }
  else { s with heat := { s.heat with held := true } }

/-- The shutdown level is reached (R270, R441, R459): during a flush the shutdown is deferred, with throttling at step 3. -/
def State.reachShut (s : State) : State :=
  if s.pwr.flushing then
    if s.desk.deferred then s else { s with desk := { s.desk with deferred := true } }.setStep 3
  else s.shutDown

/-- THERMAL_SHUTDOWN (R439, R441, R443): J reaches SHUT, and the level is not still held from before. -/
def execThermalShutdown (s : State) : Host.Outcome State Fault Refusal :=
  ok (if (s.thermalSlice || s.get Reg.THM_STATUS_STATE == 4) && level16 (s.get Reg.THM_LVL_SHUT) ≤ s.junction && !s.heat.held then s.reachShut else s)

/-- HARDWARE_TRIP (R442): the comparator of a diode that is not broken crosses 120 °C. -/
def execHardwareTrip (n : Nat) (temp : Int) (s : State) : Host.Outcome State Fault Refusal :=
  ok (if n ≤ 1 && !s.bit Reg.THM_STATUS_TRIP_BROKEN n && 1920 ≤ temp then (s.set Reg.THM_STATUS_TRIPPED 1).reachShut else s)

/-- A deferred shutdown or grave fault is released (R270). -/
def State.releaseDeferred (s : State) : State :=
  if !s.desk.deferred then s
  else
    let s := { s with desk := { s.desk with deferred := false } }
    if s.desk.grave.isSome then s.graveGo 0x3 else s.shutDown

/-- THERMAL_SHUTDOWN_DEFER_END (R270): 1 s after the warning a deferred thermal shutdown goes on; another grave fault waits for the flush. -/
def execThermalShutdownDeferEnd (s : State) : Host.Outcome State Fault Refusal :=
  ok (if s.desk.deferred && s.desk.grave.isNone && s.pwr.warnMs + 1000 ≤ s.ms then s.releaseDeferred else s)

/-- A grave fault that is no thermal shutdown (R270, R449): held while a flush runs. -/
def State.graveFault (s : State) (source code addr info : Nat) : State :=
  let r := s.graveCapture source code addr info false
  if !r.2 then r.1
  else if r.1.pwr.flushing then { r.1 with desk := { r.1.desk with deferred := true } }
  else r.1.graveGo 0x3

/-- THM_CLR_MINMAX (R458, R460): CLR_MINMAX written 1. -/
def execThmClrMinmax (i : Initiator) (s : State) : Host.Outcome State Fault Refusal :=
  ok (s.access i 0x40700000 4 fun s =>
    let z := s.heat.sensors.map fun p => (p.1, { p.2 with least := none, greatest := none })
    { s with heat := { s.heat with sensors := z }, bus := .written })

/-- CORE_FAULT (R25, R29, R30): a machine check of an active core is captured for the lowest-numbered other one. The relief core takes over
when the record is delivered: at once, or where another fault is in service once that one's handler completes. -/
def execCoreFault (n : Nat) (s : State) : Host.Outcome State Fault Refusal :=
  ok (if n < 5 && s.coreActive n then
      s.capture ⟨0x80 + n, 0x0C, 5, 1, 0, 0, 7, false⟩
    else s)

/-- Close the record with its handler as raised and deliver a new capture one level up; beyond level 5 it is grave (R448). -/
def State.raiseUp (s : State) (p : Nat) (r : CapRec) : State :=
  let s := s.closeRec p 3 (r.level + 1)
  if 5 ≤ r.level then
    if r.injected then s.asInjected fun s => s.graveFault r.source r.code r.addr r.info else s.graveFault r.source r.code r.addr r.info
  else
    s.capture ⟨r.source, r.code, r.level + 1, 1, r.addr, r.info, r.dom, r.injected⟩

/-- FLT_DONE (R448, R461): firmware completes the record with its handler; another is ignored and counted. -/
def execFltDone (i : Initiator) (up : Bool) (p : Nat) (s : State) : Host.Outcome State Fault Refusal :=
  ok (s.access i 0x40710010 4 fun s =>
    match s.desk.current == some p, sGet? s.desk.recs p with
    | true, some r =>
      let s := if up then s.raiseUp p r else s.closeRec p 2 r.level
      { s.releaseNext with bus := .written }
    | _, _ => s.ignored i 0x40710010)

/-- FAULT_HANDLER_TIMEOUT (R448): a handler has not completed within TMO4 or TMO5. -/
def execFaultHandlerTimeout (s : State) : Host.Outcome State Fault Refusal :=
  match s.desk.current with
  | none => ok s
  | some p =>
    match sGet? s.desk.recs p with
    | none => ok s
    | some r =>
      let tmo := max 1 (s.get (if r.level = 4 then Reg.FLT_TMO_TMO4 else Reg.FLT_TMO_TMO5))
      if 10 * tmo ≤ s.ms - s.desk.sinceMs then
        let s := ({ s with desk := { s.desk with timeouts := s.desk.timeouts + 1 } }.set Reg.FLT_INT_RAISED 1).raiseUp p r
        ok s.releaseNext
      else ok s

/-- FLT_CAP_DATA_READ (R461): the word addressed; places above 64 read 0; the address goes on, carrying into RECORD. -/
def execFltCapDataRead (i : Initiator) (s : State) : Host.Outcome State Fault Refusal :=
  ok (s.access i 0x4071000C 4 fun s =>
    let k := 8 * s.get Reg.FLT_CAP_ADDR_RECORD + s.get Reg.FLT_CAP_ADDR_WORD
    let w := if 64 < k / 8 then 0 else ((sGet? s.desk.recs (k / 8)).map fun r => r.word (k % 8)).getD 0
    { (s.set Reg.FLT_CAP_ADDR_WORD (k + 1)).set Reg.FLT_CAP_ADDR_RECORD ((k + 1) / 8) with bus := .read w })

/-- What clearing ARM does (R450): the address is written afresh with good check bits, and the slips the injection caused are free again. -/
def State.disarm (s : State) : State :=
  let t := s.get Reg.FLT_INJ_CTRL_TARGET
  let w := s.injAddr
  let m := s.mem
  let s := { s with mem := { m with bad := m.bad.filter fun b => !(b.target == t && b.addr / 8 == w / 8),
                                    slips := m.slips.filter fun p => !m.injSlips.any fun n => n.val == p.1, injSlips := [] } }
  (m.injSlips.foldl (fun s n => s.dropSlip n) s).set Reg.FLT_INJ_CTRL_ARM 0

/-- FAULT_INJECTION_ARM (R450, R461): ARM written 1, ignored and reported outside the normal phase and while an envelope is open. A target
that is none disarms. -/
def execFaultInjectionArm (i : Initiator) (target bits : Nat) (sticky : Bool) (s : State) : Host.Outcome State Fault Refusal :=
  ok (s.access i 0x40710040 4 fun s =>
    if s.get Reg.PWR_STATUS_PHASE != 1 || s.get Reg.SYS_SEAL_STATUS_STATE != 0 then s.ignored i 0x40710040
    else
      let s := if s.on Reg.FLT_INJ_CTRL_ARM then s.disarm else s
      let s := s.setAll [(Reg.FLT_INJ_CTRL_TARGET, target), (Reg.FLT_INJ_CTRL_BITS, bits), (Reg.FLT_INJ_CTRL_STICKY, b2n sticky)]
      { s.set Reg.FLT_INJ_CTRL_ARM (b2n (1 ≤ target && target ≤ 4)) with bus := .written })

/-- FAULT_INJECTION_DISARM (R450): ARM written 0. -/
def execFaultInjectionDisarm (i : Initiator) (s : State) : Host.Outcome State Fault Refusal :=
  ok (s.access i 0x40710040 4 fun s => { s.disarm with bus := .written })

/-- LDG_COMMIT (R451, R453, R462): the core's own words become a record. -/
def execLdgCommit (core : Nat) (s : State) : Host.Outcome State Fault Refusal :=
  ok (s.access (.core core) 0x40720060 4 fun s =>
    let w (k : Nat) : Nat := s.get (Reg.LDG_WRITE_DATA core k)
    let r := s.ldgCommit (w 0 % 2 ^ 16) [w 1, w 2, w 3, w 4, w 5, w 6, w 7]
    let t := r.1.set (Reg.LDG_RESULT_DROPPED core) (b2n r.2.isNone)
    { (match r.2 with
      | some q => t.set (Reg.LDG_LAST_SEQ core) q
      | none => t) with bus := .written })

/-- LEDGER_FREEZE (R454): FREEZE written 1. -/
def execLedgerFreeze (i : Initiator) (s : State) : Host.Outcome State Fault Refusal :=
  ok (s.access i 0x40720000 4 fun s => { s.ldgFreeze 0x0080 with bus := .written })

/-- LEDGER_UNFREEZE (R454): UNFREEZE written 1. -/
def execLedgerUnfreeze (i : Initiator) (s : State) : Host.Outcome State Fault Refusal :=
  ok (s.access i 0x40720000 4 fun s => { s.ldgUnfreeze with bus := .written })

/-- LDG_STAGE_DATA_READ (R462): the word addressed of a staged record, and the address goes on. -/
def execLdgStageDataRead (i : Initiator) (s : State) : Host.Outcome State Fault Refusal :=
  ok (s.access i 0x40720074 4 fun s =>
    let k := 16 * s.get Reg.LDG_STAGE_ADDR_PLACE + s.get Reg.LDG_STAGE_ADDR_WORD
    let w := ((sGet? s.ldg.stage (k / 16)).map fun r => r.word (k % 16)).getD 0
    { (s.set Reg.LDG_STAGE_ADDR_WORD (k + 1)).set Reg.LDG_STAGE_ADDR_PLACE ((k + 1) / 16) with bus := .read w })

/-- The five value registers of the ledger (R462): SEQ, POT and the start count. -/
def ldgValue (k : Nat) : Fld :=
  match k with
  | 0 => Reg.LDG_SEQ_LO_VALUE
  | 1 => Reg.LDG_SEQ_HI_VALUE
  | 2 => Reg.LDG_POT_LO_VALUE
  | 3 => Reg.LDG_POT_HI_VALUE
  | _ => Reg.LDG_BOOT_VALUE

/-- LDG_VALUE_WRITE (R462): ignored and reported after the first commit since reset. -/
def execLdgValueWrite (i : Initiator) (k v : Nat) (s : State) : Host.Outcome State Fault Refusal :=
  let f := ldgValue k
  ok (s.access i f.addr 4 fun s =>
    if s.ldg.committed then s.ignored i f.addr else { s.set f v with bus := .written })

/-- PREAMP_FAULT_PERSISTS (R212): the fault is still present after 10 ms; the active head fails and is unavailable until its retirement is
decided (R353). -/
def execPreampFaultPersists (x : Act) (us : Nat) (s : State) : Host.Outcome State Fault Refusal :=
  let l := s.lp x
  ok (if s.fitted x && l.paLow && 10000 ≤ us then s.setBit Reg.CNS_UNAVAIL_UNAVAIL (8 * x.n + l.head) true else s)

end Sys2Proof.Machine
end

