-- ==== Sys2Proof/Machine/Start.lean ====
section
/-!
DEFINITION. Starts and resets (R34, R41 to R50, R57 to R60, R259, R361, R411, R452): what a loss of the DRAM, of the switched domains or
of all power leaves, the choice of a slot, and the start sequence up to controller ready.
-/
namespace Sys2Proof.Machine

/-- The bytes of an in-tray entry's data. -/
def TrayEnt.size (t : TrayEnt) : Nat :=
  match t.kind with
  | .data => 4096 * t.count
  | .value => t.count
  | .zeros => 0

/-- A list of numbers by place, without the zeros. -/
def toSparse (l : List (Nat × Nat)) : Sparse Nat := l.foldl (fun m p => sPut m p.1 p.2 0) []

/-- What becomes of an in-tray entry that no closing record holds (R270, R399): its completed data is lost. -/
def State.loseEntry (s : State) (t : TrayEnt) : State :=
  if t.kind == .value then s.deferredError t.nsid 0 (keyMark (kvKey t.nsid t.keyLen t.key)) 0
  else
    let base := ((s.ns? t.nsid).map (·.lpn)).getD 0
    match ((List.range t.count).map (t.first + ·)).filter fun b => !t.isPlaced b with
    | [] => s
    | b :: rest =>
      let s := rest.foldl (fun s c => s.listUnreadable (base + c / 64) (c % 64)) s
      s.deferredError t.nsid b (base + b / 64) (b % 64)

/-- The DRAM loses its contents (R259, R270, R411): entries of the last complete flush stand in the strongroom; every other entry is lost,
and a flush that was cut short, or writes lost, latch bits 2 and 4 of Critical Warning. What is lost is listed against the map as it
stood. -/
def State.loseDram (s : State) : State :=
  let held := (s.host.tray.filter (·.flushed)).map fun t =>
    { t with kept := if t.bags.isEmpty then t.kept
        else toSparse ((List.range t.size).zip (s.bagRead t.bags 0 t.size)), bags := [] }
  let lost := s.host.tray.filter fun t => !t.flushed
  let cut := s.pwr.flushing || !lost.isEmpty
  let s := lost.foldl (fun s t => s.loseEntry t) s
  let s := { s with cells := [], bags := ⟨false, [], [], []⟩, mem := { s.mem with reads := s.mem.savedReads } }.putHost { s.host with tray := held }
  let s := s.putOffice { s.office with regions := s.office.savedRegions }
  if cut then (s.setCritical 2).setCritical 4 else s

/-- A namespace's features as they were saved (R60, R385). -/
def State.savedNs (s : State) (nsid : Nat) (n : Ns) : Ns :=
  let f (fid : Nat) : Nat := sGet s.devNow.features (featKey fid nsid) 0
  { n with tler := f 0x05, wp := f 0x84 == 1, ptpl := bitOf (f 0x83) 0 }

/-- The units' own state that no reset of the switched domains leaves (R60), and the host side without its associations. -/
def State.clearUnits (s : State) : State :=
  let z := State.reset
  let o := s.office
  let h := s.host
  let nss := h.nss.map fun n =>
    let m := s.savedNs n.1 n.2
    (n.1, { m with masks := [], regs := if n.2.ptpl then n.2.regs else [], holder := if n.2.ptpl then n.2.holder else none })
  { s with
    env := z.env, eng := z.eng, loops := z.loops, pmk := z.pmk, tck := z.tck, spn := z.spn, motor := z.motor, lanes := z.lanes, dec := z.dec,
    pre := z.pre, bootKeys := [], rcv := { z.rcv with counts := s.rcv.counts, watch := s.rcv.watch, reads := s.rcv.reads, sixes := s.rcv.sixes, policy := s.rcv.policy },
    mem := { s.mem with bad := [], injSlips := [], unsaved := false, sets := [], misses := 0, missing := [], victims := [], trackers := [], taken := [] },
    office := { o with units := [], old := [], idle := false, folding := false, resorting := false,
                       unloaded := List.range ((5 * o.p + 2 ^ 22 - 1) / 2 ^ 22) },
    cons := { s.cons with keys := [], kek := [], noMark := [], satHeads := [], stale := false },
    host := { h with conns := [], assocs := [], cmds := [], locks := [], nss := nss, mediaReady := false, changedNs := [],
                     changedZones := [], resNotes := [], image := [], shelfMs := none, ports := z.host.ports,
                     recordRejected := false, ps := 0, slow := [], told := 0 },
    heat := { s.heat with held := false, rose := false, coolMs := none, sensors := s.heat.sensors.map fun p =>
      (p.1, { Sensor.cold with least := p.2.least, greatest := p.2.greatest }) } }

/-- The register fields that keep their values over a grave-fault power cycle (R59, R60): those of the always-on blocks but for the
settings, and the sticky ones. -/
def surviveGrave (p : Nat × Nat) : Bool :=
  2 ^ 32 ≤ p.1 / 32 ||
    match fldOfKey p.1, blockOf (p.1 / 32) with
    | some f, some b => f.acc == .rs || (b.doms.isEmpty && f.acc != .st)
    | _, some b => b.doms.isEmpty
    | _, none => true

/-- The identity of the smaller variant (R3, R4, R31, R364): its register values at reset. -/
def State.identify (s : State) : State :=
  match s.variant with
  | .vk432m => s
  | .vk232m =>
    let s := s.setAll [(Reg.SYS_IDENT_VARIANT, 2), (Reg.SYS_IDENT_LANES, 2), (Reg.SYS_IDENT_ACTUATORS, 2)]
    let words := [0x83828180, 0x87868584, 0x8B8A8988, 0x8F8E8D8C, 0, 0, 0, 0]
    (words.zip (List.range 8)).foldl (fun s p => s.putWord (0x40410060 + 4 * p.2) p.1 fun _ => true) s

/-- All power but that of the module's strongroom and passport is lost (R59, R60): a cold start or a brownout reset. What the strongroom
holds goes on; the records still staged stand in the ring once base firmware has drained them, with DHEAD and TAIL at their reset values
(R452; DESIGN CHOICE; log 126). -/
def State.powerLost (s : State) (cold : Bool) : State :=
  let s := (s.disarm.ldgDrain (s.get Reg.LDG_DRAIN_TAIL)).loseDram.clearUnits
  let z := State.reset
  let kept := [Reg.LDG_SEQ_LO_VALUE, Reg.LDG_SEQ_HI_VALUE, Reg.LDG_POT_LO_VALUE, Reg.LDG_POT_HI_VALUE, Reg.LDG_BOOT_VALUE,
    Reg.FLT_COUNTS_GRAVE, Reg.PWR_COUNTS_DECLARED] ++ if cold then [] else [Reg.SYS_IDENT_SLOT_ID]
  let d := s.desk
  let t := { s with
    regs := [], tick := 0, krx := { z.krx with silent := !cold && s.krx.silent }, books := z.books, bus := .none,
    psp := { s.psp with pend := none }, pwr := { z.pwr with mains := s.pwr.mains, cause := b2n (!cold) },
    ldg := { s.ldg with committed := false },
    desk := { z.desk with serial := d.serial, events := d.events, faults := d.faults, graves := d.graves, injected := d.injected,
                          levels := d.levels, mostHeld := d.mostHeld, timeouts := d.timeouts } }
  ((kept.foldl (fun t f => t.set f (s.get f)) t).identify.slipCount).ldgRefresh

/-- The switched domains were off (R59, R60): a grave-fault power cycle or a recovery restart, with the always-on domain powered. -/
def State.domainsLost (s : State) : State :=
  let s := s.disarm.loseDram.clearUnits
  let t := { s with regs := s.regs.filter surviveGrave, ldg := { s.ldg with committed := false } }
  t.identify.noEnvelope.setAll [(Reg.THM_STATUS_STATE, 0), (Reg.THM_STATUS_STEP, 0)]

/-- What stops a used stamp from being satisfied (R43, R44, R58): 0 where any provider of its family offers its MAJOR with a MINOR high
enough, 5 where one offers its MAJOR, else 4. A family that nothing provides is counted as another MAJOR (DESIGN CHOICE; log 125). -/
def stampReason (provided : List Nat) (used : Nat) : Nat :=
  let major := provided.filter fun p => p / 2 ^ 16 == used / 2 ^ 16
  if major.any fun p => used % 2 ^ 16 ≤ p % 2 ^ 16 then 0 else if major.isEmpty then 4 else 5

/-- The stamps of a family among some. -/
def ofFamily (k : Nat) (l : List Nat) : List Nat := l.filter fun p => p / 2 ^ 24 == k

/-- The stamps provided to a slot (R43), each family by its provider: the die's register map with DIE_REV as its MAJOR (DEDUCED; log 44),
the courier's mailbox messages, the protocol engine's queues, the format of each calibration record, the passport format of both headers,
and the map format of the firmware that last wrote the checkpoint. -/
def State.provided (s : State) (f z : Area) : List Nat :=
  (2 ^ 24 + 2 ^ 16 * s.get Reg.SYS_IDENT_DIE_REV) :: ofFamily 2 (z.provides 0x11) ++ ofFamily 3 (z.provides 0x12) ++
    ofFamily 4 ((f.ofType 0x02).map (·.1.stamp)) ++ ofFamily 5 [f.header.format, z.header.format] ++ ofFamily 6 s.office.stamp.toList

/-- Why a slot is rejected (R41, R46, R58), 0 where it is not. Before a checkpoint was ever written the map format is satisfied. -/
def State.slotReason (s : State) (k : Nat) (f z : Area) : Nat :=
  let images := z.images
  let used := images.flatMap (·.2.uses)
  let used := if s.office.stamp.isNone then used.filter fun u => u / 2 ^ 24 != 6 else used
  let r := s.slotFails k z
  if r != 0 then r
  else if images.any fun p => !p.2.loads p.1 then 6
  else (used.map (stampReason (s.provided f z))).find? (· != 0) |>.getD 0

/-- The order in which the slots are tried (R46): the higher generation first, A on a tie, and to the end a trial slot started twice. -/
def State.slotOrder (s : State) : List Nat :=
  let l := if s.slotGen 0 < s.slotGen 1 then [1, 0] else [0, 1]
  let d := s.devNow
  let worn (k : Nat) : Bool := if k = 0 then d.trialA && 2 ≤ d.countA else d.trialB && 2 ≤ d.countB
  l.filter (fun k => !worn k) ++ l.filter worn

/-- Try the slots in order (R46): those rejected with their reasons, and the one that starts. -/
def State.trySlots (s : State) (f : Area) : List Nat → List (Nat × Nat) → List (Nat × Nat) × Option (Nat × Area)
  | [], bad => (bad, none)
  | k :: t, bad =>
    match s.slotOf k with
    | none => State.trySlots s f t (bad ++ [(k, 1)])
    | some z =>
      let r := s.slotReason k f z
      if r = 0 then (bad, some (k, z)) else State.trySlots s f t (bad ++ [(k, r)])

/-- The slots rejected are kept for log page 0xC4 and told in SYS_BOOT and the ledger (R46, R58, R453, R457). -/
def State.noteRejects (s : State) (bad : List (Nat × Nat)) : State :=
  let put (r : Nat × Nat) (p : Nat × Nat) : Nat × Nat := if p.1 = 0 then (p.2, r.2) else (r.1, p.2)
  let s := s.putHost { s.host with rejects := bad.foldl put s.host.rejects }
  let s := bad.foldl (fun s p => s.ledger 0x0060 [p.1, s.slotBuild p.1, p.2, 0, 0, 0, 0]) s
  s.setAll [(Reg.SYS_BOOT_FELLBACK, b2n (!bad.isEmpty)), (Reg.SYS_BOOT_REJECT_REASON, (bad.getLast?.map (·.2)).getD 0)]

/-- The pair of a slot's microcodes is tested, or the policy allows one that is not (R45). -/
def slotTested (z f : Area) : Bool :=
  f.allowUntested || (z.imageOf 0x10).any fun i => i.tested.contains (z.build 0x11, z.build 0x12)

/-- A start of a trial slot is counted (R40, R46). -/
def State.countTrial (s : State) (k : Nat) : State :=
  let d := s.devWanted
  if k = 0 then (if d.trialA then s.changeDev fun d => { d with countA := d.countA + 1 } else s)
  else if d.trialB then s.changeDev fun d => { d with countB := d.countB + 1 } else s

/-- Recovery mode (R48, R284): core 0 runs the boot ROM alone, and the purse is empty: HOLD is BASE and nothing else is committed. -/
def State.enterRecovery (s : State) (cause bootMs : Nat) : State :=
  let s := s.setAll [(Reg.SYS_BOOT_RESET_CAUSE, cause), (Reg.SYS_BOOT_MODE, 2), (Reg.SYS_BOOT_SLOT, 0), (Reg.SYS_BOOT_BOOT_MS, min 65535 bootMs),
    (Reg.FRK_PURSE_HOLD, s.get Reg.FRK_BOOK_LIM_BASE), (Reg.SYS_SPARES_CORE_MAP, 1)]
  let s := s.putBooks Books.clear
  s.ledger 0x0001 [cause, s.liveWord 0x40000020, bootMs, 0, 0, 0, 0]

/-- Step 1 of R49: the straps at a cold start (R12), the presence pin, the domains, and both ports. -/
def State.startStep1 (s : State) (cold : Bool) (f : StartFacts) : State :=
  let s := if cold then s.set Reg.SYS_IDENT_SLOT_ID f.straps else s
  let s := { s with straps := f.straps % 64 }.setAll [(Reg.SYS_IDENT_PRESENT, b2n f.present),
    (Reg.SYS_PD_CTRL_ON, Reg.SYS_PD_CTRL_ON.rst), (Reg.SYS_PD_STATUS_ON, Reg.SYS_PD_STATUS_ON.rst), (Reg.SYS_PD_STATUS_SWITCHING, 0)]
  s.memState.setAll [(Reg.ETH_STATUS_STATE .a, 1), (Reg.ETH_STATUS_STATE .b, 1)]

/-- Step 2 of R49 (R23, R24, R59): the SRAM rows logged are repaired while spare rows last, and the cores are tested: lost ones come back
after a cold start or a brownout reset only. -/
def State.startStep2 (s : State) (tested : Bool) (f : StartFacts) : State :=
  let fix (m : Mem) (r : Nat × Nat) : Mem :=
    let used := sGet m.rowsUsed r.1 0
    if used < Config.sramRows r.1 then { m with rows := m.rows.filter (· != r), rowsUsed := sPut m.rowsUsed r.1 (used + 1) 0 } else m
  let s := { s with mem := s.mem.rows.foldl fix s.mem }
  let alive := (List.range 5).filter fun n => bitOf f.cores n && (tested || !bitOf s.pwr.lost n)
  let active := alive.take 4
  let s := { s with pwr := { s.pwr with lost := alive.foldl (fun m n => m - 2 ^ n) 31 } }
  let s := s.setAll [(Reg.SYS_SPARES_CORE_MAP, active.foldl (fun m n => m + 2 ^ n) 0), (Reg.SYS_SPARES_RELIEF_FREE, b2n (5 ≤ alive.length))]
  alive.foldl (fun s n => s.pdSwitchOn (13 + n)) s

/-- The domains that hold a block which a sealed-set record of the factory area writes (R50). -/
def recordDomains (records : List (List (Nat × Nat))) : List Nat :=
  records.flatten.flatMap fun p => match blockOf (liveOf p.1) with
    | some b => b.doms
    | none => []

/-- Step 8 of R49 (R50, R59, R265): domains, the tests of the decoder halves, the spindle legs and the chopper, and both control stores
loaded. -/
def State.startStep8 (s : State) (tested : Bool) (f : StartFacts) (fac z : Area) : State :=
  let s := ([12, 18, 9, 10] ++ recordDomains fac.sets).foldl (fun (s : State) n => if s.pdOn n then s else s.pdSwitchOn n) s
  let lost := if tested then 0 else s.get Reg.DEC_STATUS_FAULT
  let out (h : Nat) : Bool := !bitOf f.halves h || bitOf lost h
  let halves := b2n (!out 0) + 2 * b2n (!out 1)
  let leg := if tested || s.get Reg.SYS_SPARES_SPARE_LEG = 0 then f.leg % 4 else s.get Reg.SYS_SPARES_SPARE_LEG
  let s := s.setAll [(Reg.DEC_STATUS_FAULT, 3 - halves), (Reg.DEC_STATUS_IN_SERVICE, halves), (Reg.SYS_SPARES_DEC_HALVES, halves),
    (Reg.SYS_SPARES_SPARE_LEG, leg), (Reg.SPN_STATUS_SPARE_LEG, leg)]
  let s := s.inc Reg.PWR_COUNTS_CHOP_EVENTS
  let s := if f.chopOk then s else (s.set Reg.PWR_STATUS_CHOP_FAULT 1).set Reg.PWR_INT_CHOP_FAULT 1
  let s := { s with eng := { s.eng with store := toSparse (z.words 0x11), provides := z.provides 0x11 },
                    pre := { s.pre with store := toSparse (z.words 0x12), provides := z.provides 0x12 } }
  s.setAll [(Reg.CRE_STATUS_STATE, 2), (Reg.CRE_BUILD_BUILD, z.build 0x11), (Reg.PRE_STATUS_STATE, 2), (Reg.PRE_BUILD_BUILD, z.build 0x12)]

/-- The staged words of a sealed-set record, by live address, later pairs replacing earlier ones (R54). -/
def recordWords (s : State) (pairs : List (Nat × Nat)) : List (Nat × Nat) :=
  pairs.foldl (fun l p =>
    let a := liveOf p.1
    if !stageable a || s.deadStage a then l else (l.filter fun q => q.1 != a) ++ [(a, p.2)]) []

/-- Step 9 of R49 for one record (R50, R54, R56): posted at the next tick, or rejected, told and passed over. -/
def State.postRecord (s : State) (k : Nat) (pairs : List (Nat × Nat)) : State :=
  let ws := recordWords s pairs
  let r := s.sealRule ws
  let s := { s with tick := s.tick + 1 }
  if r = 0 then
    let t := s.applySet ws
    { t with bootKeys := t.bootKeys ++ ws }
  else ((s.putHost { s.host with recordRejected := true }).event 0x00 0x0D k r).ledger 0x0060 [2, k, r, 0, 0, 0, 0]

/-- The heads retired and the position map go with the boot records (R217, R354); a reinstatement takes effect at a cold start. -/
def State.postHeads (s : State) (cold : Bool) : State :=
  let d := s.devNow
  let s := if cold && d.reinstate != 0 then
      s.changeDev fun d =>
        { d with
          retired := (List.range 32).foldl (fun m k => if bitOf d.retired k && !bitOf d.reinstate k then m + 2 ^ k else m) 0,
          reinstate := 0 }
    else s
  let d := s.devWanted
  let s := (List.range 32).foldl (fun s k => if bitOf d.retired k && s.fitted (Act.num (k / 8)) then
    (s.setBit (Reg.ARM_HEADS_RETIRED (Act.num (k / 8))) (k % 8) true).setBit Reg.CNS_UNAVAIL_UNAVAIL k true else s) s
  (d.posmap.zip (List.range 32)).foldl (fun s p => s.setPos p.2 p.1) s

/-- Media keys are unwrapped from the device records (R60, R361). -/
def State.loadKeys (s : State) (kek : List Nat) : State :=
  if kek.isEmpty then s
  else
    let s := (s.putCons { s.cons with kek := (List.range 8).map fun n => (n, kek.getD n 0) }).set Reg.CNS_KEY_STAT_NO_KEK 0
    s.devNow.keys.foldl (fun s p => match keyUnwrap s.kekBytes p.2.2 with
      | some k => s.putKey p.1 (some (ofBytes k))
      | none => s.set Reg.CNS_KEY_STAT_UNWRAP_FAIL 1) s

/-- Base firmware sets up the bag pools (R411) and gives the in-tray's entries of the last flush their bags again (R259). -/
def State.replayTray (s : State) (pools : List Nat) : State :=
  let s := (List.range 4).foldl (fun s n =>
    let b := 2 ^ 20 * pools.getD n 0
    (s.set (Reg.BPM_POOL_BASE_LO_BASE n) b).set (Reg.BPM_POOL_BASE_HI_BASE n) (b / 2 ^ 32)) s
  let s := { s with bags := { s.bags with up := true } }
  let s := (List.range 4).foldl (fun s n => s.bpmRefresh n) s
  let s := s.host.tray.foldl (fun s t =>
    let n := t.size
    match s.takeBags (2 ^ 18) (List.replicate (n / 65536) 1 ++ List.replicate ((n % 65536 + 4095) / 4096) 0) [] with
    | (s, some bags) =>
      let s := s.bagStore bags 0 ((List.range n).map fun i => BitVec.ofNat 8 (sGet t.kept i 0))
      s.putHost { s.host with tray := s.host.tray.map fun u => if u.serial = t.serial then { u with bags := bags, kept := [] } else u }
    | (s, none) => s) s
  s.itrayRefresh

/-- The journal is replayed (R334, R336): SEQ goes on after its last record, and targets that were open and hold nothing valid are freed. -/
def State.replayJournal (s : State) : State :=
  let q := s.office.journal.foldl (fun m r => max m (r.seq + 1)) (max s.office.trim s.office.ckptSeq)
  ((s.set Reg.SOF_SEQ_LO_SEQ q).set Reg.SOF_SEQ_HI_SEQ (q / 2 ^ 32)).freeGroups true

/-- The captures that were open or held are closed as raised, and the ledger's frozen records are saved (R449, R454). -/
def State.closeOpen (s : State) : State :=
  let open_ := s.desk.recs.filter fun p => p.2.st < 2
  let s := open_.foldl (fun s p => s.closeRec p.1 3 p.2.level) s
  ({ s with desk := { s.desk with held := [], current := none, grave := none, deferred := false } }.deskRefresh).ldgSaveFrozen

/-- The subsystem's saved features (R60, R385). -/
def State.savedFeats (s : State) : Sparse Nat := s.devNow.features.filter fun p => p.1 / 2 ^ 8 == 4 || p.1 / 2 ^ 8 == 0xC0

/-- Features as the firmware takes them at a start (R60, R385). -/
def State.loadSaved (s : State) : State :=
  let d := s.devNow
  let s := s.putHost { s.host with feats := s.savedFeats }
  let s := s.set Reg.CNS_LAYOUT_LAYOUT (sGet d.features 0xD0 (s.get Reg.CNS_LAYOUT_LAYOUT))
  (s.applyNet .a).applyNet .b

/-- A calibration table is taken up (R49 step 5, R60): the loops' limits, coupling and seek times, the preamp's map, tap memory (R126) and the
skews (R123) of a lane, the readers' own taps, the code table (R102), the ladder policy (R156) and the die powers (R437). The secret and
the serial number are read where they are used. -/
def State.takeCal (s : State) (t : CalTable) : State :=
  match t with
  | .loops w o n p k a b => { s with cal := { s.cal with wiLimit := w, onLimit := o, onWedges := n, pairWait := p, stroke := k,
                                                          third := a, full := b } }
  | .coupling x k => { s with cal := { s.cal with kx := s.cal.kx.put x k } }
  | .preamp a b c d e f => { s with cal := { s.cal with headSelect := a, writeCurrent := b, overshoot := c, heater := d, bias := e,
                                                         faultStatus := f } }
  | .taps x l => (l.zipIdx).foldl (fun s p => if p.2 < 2048 then s.set (Reg.CH_TAP x p.2) p.1 else s) s
  | .skews x l => (l.zipIdx).foldl (fun s p => if p.2 < 8 then s.set (Reg.CH_SKEW_SKEW x p.2) p.1 else s) s
  | .readerTaps x h b l => { s with cal := { s.cal with readerTaps := s.cal.readerTaps ++ [(x, h, b, l)] } }
  | .code l => (List.range 1080).foldl (fun s k => s.set (Reg.DEC_CODE k) (l.getD (2 * k) 0 + 65536 * l.getD (2 * k + 1) 0)) s
  | .ladder l =>
    let p := ladderOf l
    (s.putHost { s.host with clamps := p.2 }) |> fun s => { s with rcv := { s.rcv with policy := p.1 } }
  | .diePower l => { s with heat := { s.heat with power := l } }
  | .secret _ => s
  | .serial _ => s

/-- The calibration of a factory copy is in force (R41, R49 step 5). -/
def State.takeCals (s : State) (copy : Nat) (fac : Area) : State :=
  fac.cals.foldl (fun s t => s.takeCal t) { s with cal := { Calib.reference with source := some (copy, fac) } }

/-- Steps 2 to 10 of the start sequence (R49), after step 1. `tested` says that lost units are tested again (R59). -/
def State.startUp (s : State) (cause : Nat) (tested : Bool) (f : StartFacts) : State :=
  let s := (s.startStep2 tested f).restoreSlips
  let s := s.set Reg.LDG_BOOT_VALUE (s.get Reg.LDG_BOOT_VALUE + 1)
  match s.psp.sense && s.psp.sfdpOk, s.chooseFactory with
  | true, some (copy, fac) =>
    let s := s.takeCals copy fac
    let r := s.trySlots fac s.slotOrder []
    let s := s.noteRejects r.1
    match r.2 with
    | none => s.enterRecovery cause f.bootMs
    | some (k, z) =>
      let s := s.startStep8 tested f fac z
      let s := (fac.sets.zip (List.range 32)).foldl (fun s p => s.postRecord p.2 p.1) s
      let s := (s.postHeads (cause = 0)).loadKeys fac.secret
      let mode := if slotTested z fac && !s.host.recordRejected then 0 else 1
      let s := (s.countTrial k).setAll [(Reg.SYS_BOOT_RESET_CAUSE, cause), (Reg.SYS_BOOT_SLOT, k), (Reg.SYS_BOOT_MODE, mode),
        (Reg.SYS_BOOT_BOOT_MS, min 65535 f.bootMs), (Reg.FRK_PURSE_HOLD, max (s.get Reg.FRK_PURSE_HOLD) (s.get Reg.FRK_BOOK_LIM_BASE))]
      let s := s.noteBooks.ledger 0x0001 [cause, s.liveWord 0x40000020, f.bootMs, 0, 0, 0, 0]
      let s := (s.closeOpen.loadSaved.replayJournal.replayTray f.pools).connsRefresh.hqRefresh
      if s.devNow.sanitizePending then
        let s := s.eraseSteps 4 3
        s.putCons { s.cons with sanitizing := none }
      else s
  | _, _ => { s with cal := Calib.reference }.enterRecovery cause f.bootMs

/-- The start sequence of R49 from its step 1. -/
def State.startDrive (s : State) (cause : Nat) (f : StartFacts) : State :=
  ((s.startStep1 (cause = 0) f).startUp cause (cause ≤ 1) f)

/-- The protocol engine and its blocks are reset (R59, R60): every association ends, its registers but the settings read their reset
values, and its microcode is loaded again from the running slot. -/
def State.resetProtocol (s : State) (z : Option Area) : State :=
  let s := s.endAll
  let keep (p : Nat × Nat) : Bool :=
    let a := p.1 / 32
    !(0x40520000 ≤ a && a < 0x40540000) || (fldOfKey p.1).any fun f => f.acc == .st
  let s := { s with regs := s.regs.filter keep, pre := Pre.cold }
  let s := match z with
    | some z => ({ s with pre := { s.pre with store := toSparse (z.words 0x12), provides := z.provides 0x12 } }.set
        Reg.PRE_STATUS_STATE 2).set Reg.PRE_BUILD_BUILD (z.build 0x12)
    | none => s
  s.noEnvelope.connsRefresh.hqRefresh

end Sys2Proof.Machine
end

