-- ==== Sys2Proof/Machine/Power.lean ====
section
/-!
DEFINITION. Mains entry, hold-up and power domains (R248 to R272), the resets that come from outside the start sequence (R59), the power
cycles of grave faults and thermal shutdowns (R441, R449), Firmware Commit (R47, R48), and the presence pin (R469).
-/
namespace Sys2Proof.Machine

/-- A fault of the model for a value beyond the absolute ratings (R463). -/
abbrev beyond : Host.Outcome State Fault Refusal := .fault .beyondRatings

/-- PHASE (R271). -/
def State.phase (s : State) : Nat := s.get Reg.PWR_STATUS_PHASE

/-- The power-path record of the ledger (R453): PHASE, and the bus voltages last shown. -/
def State.ledgerPower (s : State) : State :=
  s.ledger 0x0030 [s.phase, s.get Reg.PWR_VOLTS_BULK, s.get Reg.PWR_VOLTS_DBUS, 0, 0, 0, 0]

/-- WARN_V in 0.1 V, clamped (R271). -/
def State.warnLevel (s : State) : Nat := 20 * max 160 (min 175 (s.get Reg.PWR_BULK_LVL_WARN_V))

/-- REC_V in 0.1 V, clamped: at least five steps above WARN_V (R271). -/
def State.recLevel (s : State) : Nat := max (s.warnLevel + 100) (min 3700 (20 * s.get Reg.PWR_BULK_LVL_REC_V))

/-- LOSS_V in 0.1 V, clamped (R271). -/
def State.lossLevel (s : State) : Nat := 20 * max 100 (min 150 (s.get Reg.PWR_BULK_LVL_LOSS_V))

/-- ZC_MS, clamped (R271). -/
def State.zcMs (s : State) : Nat := max 8 (min 20 (s.get Reg.PWR_BULK_LVL_ZC_MS))

/-- LOSS_MS in ms, clamped (R271). -/
def State.lossMs (s : State) : Nat := 10 * max 5 (min 100 (s.get Reg.PWR_HOLD_LOSS_MS))

/-- REC_MS, clamped (R271). -/
def State.recMs (s : State) : Nat := max 20 (s.get Reg.PWR_HOLD_REC_MS)

/-- MAINS_APPLIED (R249, R253, R463): step 1 of the start. The module with the HDA it is mated to is `fit`, unchanged where it is none.
Mains outside the accepted range starts nothing. -/
def execMainsApplied (volts : Nat) (ac : Bool) (fit : Option Fitment) (s : State) : Host.Outcome State Fault Refusal :=
  if (if ac then 300 else 400) < volts then beyond
  else if s.on Reg.PWR_STATUS_DBUS_VALID || s.phase != 0 || (if ac then volts < 85 || 277 < volts else volts < 120 || 380 < volts) then ok s
  else
    let s := match fit with
      | some f => { s with variant := f.variant, psp := f.passport }
      | none => s
    let s := s.powerLost true
    ok { s with pwr := { s.pwr with mains := true, cause := 0 } }

/-- AC_DC_MODE_CHOICE (R250): 100 ms after mains applied, with whether a zero-crossing was seen and the input in volts. -/
def execAcDcModeChoice (crossing : Bool) (volts : Nat) (s : State) : Host.Outcome State Fault Refusal :=
  if !s.pwr.mains || s.pwr.chosen then ok s
  else if crossing then ok { s.set Reg.PWR_STATUS_DC_MODE 0 with pwr := { s.pwr with chosen := true } }
  else if 120 ≤ volts then ok { s.set Reg.PWR_STATUS_DC_MODE 1 with pwr := { s.pwr with chosen := true } }
  else ok s

/-- LLC_START (R251, R253): step 4, once the bulk bus, in 0.1 V, has stood above 350 V for REC_MS. After a brownout reset the start goes on
from here. -/
def execLlcStart (bulk heldMs : Nat) (s : State) : Host.Outcome State Fault Refusal :=
  if s.pwr.mains && (s.pwr.chosen || s.pwr.cause = 1) && s.phase = 0 && !s.pwr.llc && 3500 < bulk && s.recMs ≤ heldMs then
    ok { s with pwr := { s.pwr with llc := true } }
  else ok s

/-- DRIVE_BUS_VALID (R12, R49, R251, R463): the drive bus, in mV, has risen above 22.8 V. Step 5 of R253: PHASE normal, and the start
sequence to controller ready; not while a restart of the switched domains is still owed. -/
def execDriveBusValid (mv : Nat) (facts : StartFacts) (s : State) : Host.Outcome State Fault Refusal :=
  if 33000 < mv then beyond
  else if !s.pwr.llc || s.on Reg.PWR_STATUS_DBUS_VALID || mv ≤ 22800 then ok s
  else
    let s := { s.set Reg.PWR_STATUS_DBUS_VALID 1 with krx := { s.krx with lineNs := s.clockNs, beaconNs := s.clockNs, seenNs := s.clockNs } }
    if s.desk.grave.isSome || s.pwr.offMs.isSome then ok s
    else ok ((s.set Reg.PWR_STATUS_PHASE 1).startDrive s.pwr.cause facts)

/-- An interrupt to every active core (R255). -/
def State.tellCores (s : State) (block : Nat) : State :=
  ((List.range 5).filter s.coreActive).foldl (fun s n => s.emit (.interrupt n block)) s

/-- A command at the warning (R263): a write whose data is wholly here joins the flush, one still receiving is interrupted with its data
dropped, and so is a read whose sector stood in a ladder. -/
def State.warnCmd (s : State) (ladder : List Nat) (serial : Nat) : State :=
  match s.cmd? serial with
  | none => s
  | some c =>
    if c.verdict.isSome || c.orphan then s
    else
      match s.cmdOp c with
      | none => s
      | some op =>
        if op.enters && !(op == .writeZeroes && c.cap.deac) then
          if c.whole then (if op == .store then s.storeNow serial c else s.writeNow serial c)
          else (s.bagReleaseAll c.bags 0x53).putCmd serial { c with bags := [], verdict := some interrupted }
        else if op.reads && c.media && ladder.contains serial then s.answer serial interrupted
        else s

/-- The registers and the cores tell of the mains-lost warning (R255, R271), and write commands are frozen. -/
def State.warnTold (s : State) : State :=
  let s := ((s.set Reg.PWR_STATUS_PHASE 2).inc Reg.PWR_COUNTS_WARNINGS).set Reg.PWR_INT_WARN 1
  (if s.on Reg.PWR_INT_EN_WARN then s.tellCores 0x30 else s).set Reg.HQ_CTRL_WR_FREEZE 1

/-- The mains-lost warning (R155, R186, R255, R263): the host reads with a sector in a recovery ladder are among those it interrupts. The pigeonhole cache is flushed first
(R416). A warning during a flush leaves the flush running and starts LOSS_MS afresh (R256, R270). -/
def State.warn (s : State) : State :=
  let ladder := s.rcv.places.filterMap fun p => p.2.cmd
  let s := s.phcFlush.warnTold.stopAllInj.abandonLadders
  let s := s.host.cmds.foldl (fun s p => s.warnCmd ladder p.1) s
  { s.hqRefresh with pwr := { s.pwr with warnMs := s.ms, warnTick := s.tick, flushing := true, recovered := false } }.ledgerPower

/-- MAINS_LOST_WARNING (R250, R254, R255): the ms without a zero-crossing, or in DC mode those with the input below 110 V, and the bulk bus
in 0.1 V. -/
def execMainsLostWarning (silentMs bulk : Nat) (s : State) : Host.Outcome State Fault Refusal :=
  let lost := if s.on Reg.PWR_STATUS_DC_MODE then 1 ≤ silentMs else s.zcMs ≤ silentMs
  if s.phase = 1 && (lost || bulk < s.warnLevel) then ok s.warn else ok s

/-- After a brownout reset or a grave fault each saved read count of the strongroom is raised by a twentieth of its threshold (R329). -/
def State.raiseReads (s : State) : State :=
  let add (k : Nat) : Nat := 50 * s.get (if k % 2 = 0 then Reg.SOF_REFRESH_READ_SLC else Reg.SOF_REFRESH_READ_MLC)
  { s with mem := { s.mem with savedReads := s.mem.savedReads.map fun p => (p.1, p.2 + add p.1) } }

/-- A brownout reset (R59, R60, R329): RESET_CAUSE 0x1 at the start that follows. The saved read counts of the strongroom are raised. -/
def State.brownout (s : State) : State := s.raiseReads.powerLost false

/-- RECOVERY_MET (R254, R256, R258, R270): the least bulk voltage in 0.1 V over so many ms, with zero-crossings, or in DC mode 120 V at the
input, throughout. -/
def execRecoveryMet (bulk heldMs : Nat) (present : Bool) (s : State) : Host.Outcome State Fault Refusal :=
  if !(present && s.recLevel < bulk && s.recMs ≤ heldMs) then ok s
  else if s.phase = 2 then
    let s := ((s.set Reg.PWR_STATUS_PHASE 1).inc Reg.PWR_COUNTS_RIDE_THROUGHS).set Reg.PWR_INT_RECOVERED 1
    ok (if s.pwr.flushing then s else s.set Reg.HQ_CTRL_WR_FREEZE 0).ledgerPower
  else if s.phase = 3 then ok { s.set Reg.PWR_INT_RECOVERED 1 with pwr := { s.pwr with recovered := true } }
  else if s.phase = 4 then ok s.brownout
  else ok s

/-- Two ticks after the warning a data head is off its ramp and the spindle does not brake in the hold-up method (R257). -/
def State.headsAtRisk (s : State) : Bool :=
  s.pwr.warnTick + 2 ≤ s.tick && s.headsOff && !(s.spSt == 6 && s.spn.method == 2)

/-- POWER_LOSS_DECLARED (R257, R263), with the bulk bus in 0.1 V and the drive bus in mV. Where the flush is done already, FLUSH_DONE takes
effect with the declaration. -/
def execPowerLossDeclared (bulk mv : Nat) (s : State) : Host.Outcome State Fault Refusal :=
  if s.phase = 2 && (s.pwr.warnMs + s.lossMs ≤ s.ms || bulk < s.lossLevel || s.headsAtRisk || mv < 21000) then
    let s := ((s.set Reg.PWR_STATUS_PHASE 3).inc Reg.PWR_COUNTS_DECLARED).set Reg.PWR_INT_DECLARED 1
    let s := { s with pwr := { s.pwr with declaredMs := s.ms } }.emUnloadAll 0x2
    let s := s.host.cmds.foldl (fun s p => s.answer p.1 interrupted) s
    let s := if s.pwr.flushing || !s.pdOn 27 || s.spSt = 0 then s else s.notAtSpeed.coast
    ok s.ledgerPower.latchedAfterDeclaration
  else ok s

/-- DECLARED_DOMAIN_SHUTOFF (R257, R263): 10 ms after the declaration the host side, the lanes, the decoders and the consignment engine go
off, and the hosts' associations with them. -/
def execDeclaredDomainShutoff (s : State) : Host.Outcome State Fault Refusal :=
  if s.phase = 3 && s.pwr.declaredMs + 10 ≤ s.ms then ok (s.endAll.pdAllOff [18, 19, 20, 0, 1, 2, 3, 4, 5, 6, 7, 8, 9, 10, 24])
  else ok s

/-- FLUSH_DONE written 1 (R256, R258, R263, R270): what the in-tray holds stands in the strongroom. After a declaration the rotor coasts, and
every switched domain goes off once the data heads are latched (R268); where recovery was met meanwhile, the device resets itself. -/
def State.flushDone (s : State) : State :=
  let s := s.putHost { s.host with tray := s.host.tray.map fun t => { t with flushed := true } }
  let s := { s with pwr := { s.pwr with flushing := false } }
  if s.phase = 3 then
    let s := { s with desk := { s.desk with deferred := false } }
    let s := (if !s.pdOn 27 || s.spSt = 0 then s else s.notAtSpeed.coast).latchedAfterDeclaration
    if s.phase = 4 && s.pwr.recovered then s.brownout else s
  else
    let s := if s.phase = 1 then s.set Reg.HQ_CTRL_WR_FREEZE 0 else s
    s.releaseDeferred

/-- FLUSH_DONE (R258). -/
def execFlushDone (i : Initiator) (s : State) : Host.Outcome State Fault Refusal :=
  ok (s.access i 0x40300000 4 fun s => { (if s.pwr.flushing then s.flushDone else s) with bus := .written })

/-- BROWNOUT_RESET (R59, R251, R254, R258, R270): the bulk bus, in 0.1 V, at 190 V; the drive bus, in mV, below 18 V for so many µs with the
bulk bus at or below 250 V while the LLC is meant to run; or the device's own once PHASE is flushed and recovery was met before it. -/
def execBrownoutReset (bulk mv us : Nat) (s : State) : Host.Outcome State Fault Refusal :=
  if (s.pwr.llc || s.phase != 0) &&
      (bulk ≤ 1900 || (s.pwr.llc && mv < 18000 && 1000 ≤ us && bulk ≤ 2500) || (s.phase = 4 && s.pwr.recovered)) then ok s.brownout
  else ok s

/-- LLC_FAULT (R251, R270): a grave fault, and the drive bus is no longer valid. -/
def execLlcFault (bulk mv us : Nat) (s : State) : Host.Outcome State Fault Refusal :=
  if s.pwr.llc && s.on Reg.PWR_STATUS_DBUS_VALID && mv < 18000 && 1000 ≤ us && 2500 < bulk then
    ok ((s.set Reg.PWR_STATUS_DBUS_VALID 0).graveFault 0x30 0x0A 0 mv)
  else ok s

/-- The Start record and SYS_BOOT after a reset that leaves the switched domains on (R58, R452). -/
def State.noteStart (s : State) (cause bootMs : Nat) : State :=
  let s := s.setAll [(Reg.SYS_BOOT_RESET_CAUSE, cause), (Reg.SYS_BOOT_BOOT_MS, min 65535 bootMs)]
  s.ledger 0x0001 [cause, s.liveWord 0x40000020, bootMs, 0, 0, 0, 0]

/-- WATCHDOG_RESET (R59, R60): so many ms without service of the watchdog. The application cores and the protocol engine only. In recovery
mode, where neither runs, nothing happens (DESIGN CHOICE; log 128). -/
def execWatchdogReset (silentMs bootMs : Nat) (s : State) : Host.Outcome State Fault Refusal :=
  if silentMs < 2000 || s.phase = 0 || s.phase = 4 || s.get Reg.SYS_BOOT_MODE = 2 then ok s
  else ok ((s.resetProtocol (s.slotOf (s.get Reg.SYS_BOOT_SLOT))).abandonWork.noteStart 0x2 bootMs)

/-- NVM_SUBSYSTEM_RESET (R46, R59, R60, R400): the protocol engine is reset and the firmware loaded again, from the slot that R46 chooses;
the loops run on. The addresses of the network stay as they are bound. In recovery mode nothing happens (DESIGN CHOICE; log 128). -/
def execNvmSubsystemReset (bootMs : Nat) (s : State) : Host.Outcome State Fault Refusal :=
  match s.factory with
  | none => ok s
  | some (_, fac) =>
    if s.phase = 0 || s.phase = 4 || s.get Reg.SYS_BOOT_MODE = 2 then ok s
    else
      let r := s.trySlots fac s.slotOrder []
      let was := s.get Reg.SYS_BOOT_SLOT
      let s := if r.2.any fun p => p.1 != was then s.raiseEvent ⟨2, 1, 0x03⟩ else s
      let s := ((s.resetProtocol (r.2.map (·.2))).abandonWork).noteRejects r.1
      let s := s.putHost { s.host with feats := s.savedFeats, nss := s.host.nss.map fun n => (n.1, s.savedNs n.1 n.2) }
      match r.2 with
      | none => ok (s.enterRecovery 0x4 bootMs)
      | some (k, z) =>
        let mode := if slotTested z fac && !s.host.recordRejected then 0 else 1
        ok (((s.countTrial k).setAll [(Reg.SYS_BOOT_SLOT, k), (Reg.SYS_BOOT_MODE, mode)]).noteStart 0x4 bootMs)

/-- GRAVE_FAULT_POWER_CYCLE (R441, R449): step 3, once every arm driver reports PARKED or RETRACTED. After a thermal shutdown the module
cools. The recovery restart of R48 takes the same step. -/
def execGraveFaultPowerCycle (s : State) : Host.Outcome State Fault Refusal :=
  match s.desk.grave with
  | none =>
    if s.pwr.recommit && s.pwr.offMs.isNone && !s.headsOff then
      ok { s.pdAllOff (List.range 30) with pwr := { s.pwr with offMs := some s.ms, recommit := false } }
    else ok s
  | some thermal =>
    if s.desk.deferred || s.pwr.offMs.isSome || s.headsOff then ok s
    else
      let s := s.pdAllOff (List.range 30)
      let s := if thermal then s.set Reg.THM_STATUS_STATE 4 else s
      ok { s with pwr := { s.pwr with offMs := some s.ms } }

/-- The start after the switched domains were off (R48, R60, R329, R449). -/
def State.restart (s : State) (facts : StartFacts) : State :=
  let grave := s.desk.grave.isSome
  let s := (if grave then s.raiseReads else s).domainsLost
  let s := { s with pwr := { s.pwr with offMs := none, thermalMs := none, flushing := false } }
  let s := (s.set Reg.PWR_STATUS_PHASE 1).startDrive (if grave then 3 else 5) facts
  { s with desk := { s.desk with grave := none } }.deskRefresh

/-- SWITCHED_DOMAINS_RESTART (R48, R449): after 100 ms off, for any power cycle but that of a thermal shutdown. -/
def execSwitchedDomainsRestart (facts : StartFacts) (s : State) : Host.Outcome State Fault Refusal :=
  match s.pwr.offMs with
  | none => ok s
  | some t =>
    if t + 100 ≤ s.ms && s.get Reg.THM_STATUS_STATE != 4 && s.on Reg.PWR_STATUS_DBUS_VALID then ok (s.restart facts) else ok s

/-- THERMAL_RESTART (R441, R443): 60 s after the last shutdown captured, with J at or below the lesser of WARN and 95 °C. -/
def execThermalRestart (facts : StartFacts) (s : State) : Host.Outcome State Fault Refusal :=
  match s.pwr.offMs, s.pwr.thermalMs with
  | some _, some t =>
    if s.get Reg.THM_STATUS_STATE = 4 && t + 60000 ≤ s.ms && s.junction ≤ level16 (min 95 (s.get Reg.THM_LVL_WARN)) &&
        s.on Reg.PWR_STATUS_DBUS_VALID then ok (s.restart facts)
    else ok s
  | _, _ => ok s

/-- CHOPPER_GATE_CLOSE (R264, R265), with the drive bus in mV; a faulty chopper's gate is held open. -/
def execChopperGateClose (mv : Nat) (s : State) : Host.Outcome State Fault Refusal :=
  if 33000 < mv then beyond
  else if 20000 + 100 * s.get Reg.PWR_DBUS_LVL_CHOP_ON ≤ mv && !s.on Reg.PWR_STATUS_CHOP_ON && !s.on Reg.PWR_STATUS_CHOP_FAULT then
    ok ((s.set Reg.PWR_STATUS_CHOP_ON 1).inc Reg.PWR_COUNTS_CHOP_EVENTS)
  else ok s

/-- CHOPPER_GATE_OPEN (R264, R265). -/
def execChopperGateOpen (mv : Nat) (s : State) : Host.Outcome State Fault Refusal :=
  if mv < 20000 + 100 * s.get Reg.PWR_DBUS_LVL_CHOP_OFF then ok (s.set Reg.PWR_STATUS_CHOP_ON 0) else ok s

/-- CHOP_FAULT sets (R265, R271): the gate is held open. -/
def State.chopFault (s : State) : State :=
  s.setAll [(Reg.PWR_STATUS_CHOP_FAULT, 1), (Reg.PWR_STATUS_CHOP_ON, 0), (Reg.PWR_INT_CHOP_FAULT, 1)]

/-- CHOP_FAULT_DETECTED (R265): for so many µs, with the drive bus in mV, the chopper current in mA, and whether the bus still rises. With the
gate closed a current below half of V/10 Ω for 20 µs, or a bus that still rises after 1 ms; with the gate open any current. -/
def execChopFaultDetected (mv ma us : Nat) (rising : Bool) (s : State) : Host.Outcome State Fault Refusal :=
  let closed := s.on Reg.PWR_STATUS_CHOP_ON
  if (closed && ((20 * ma < mv && 20 ≤ us) || (rising && 1000 ≤ us))) || (!closed && 0 < ma) then ok s.chopFault else ok s

/-- CHOP_TEST written 1 (R265, R271): the gate closes for 100 µs. -/
def execChopTest (i : Initiator) (passes : Bool) (s : State) : Host.Outcome State Fault Refusal :=
  ok (s.access i 0x40300000 4 fun s =>
    if s.phase != 1 then s.ignored i 0x40300000
    else
      let s := s.inc Reg.PWR_COUNTS_CHOP_EVENTS
      { (if passes then s else s.chopFault) with bus := .written })

/-- What a write of SYS_PD_CTRL asks for, with the dependencies of the domains it switches on (R4, R268). -/
def State.pdWanted (s : State) (v : Nat) : Nat :=
  let now := s.get Reg.SYS_PD_CTRL_ON
  (List.range 30).foldl (fun w n =>
    let w := if s.absentDomains.contains n then Sys2Proof.setBit w n (bitOf now n) else w
    if bitOf v n && !bitOf now n && !s.absentDomains.contains n then
      match pdDependsOn n with
      | some d => Sys2Proof.setBit w d true
      | none => w
    else w) (v % 2 ^ 30)

/-- Whether the switch-off of a domain is refused (R17, R268), where `want` is what the write asks for. The last active core is the
lowest-numbered of those the write would switch off (DESIGN CHOICE; log 52). -/
def State.pdRefuses (s : State) (want n : Nat) : Bool :=
  let arm (x : Act) : Bool := s.fitted x && !(s.lp x).parked
  let depends := (List.range 30).any fun m => pdDependsOn m == some n && s.bit Reg.SYS_PD_CTRL_ON m && bitOf want m
  if n = 25 then arm .a || arm .b
  else if n = 26 then arm .c || arm .d
  else if n = 27 then !([0, 1, 7, 10].contains s.spSt)
  else if n = 12 then s.get Reg.CRE_STATUS_STATE = 3
  else if n = 11 then s.pmkOff
  else if 13 ≤ n && n ≤ 17 then
    let active := (List.range 5).filter fun k => s.coreActive k && s.bit Reg.SYS_PD_CTRL_ON (13 + k)
    active.all (fun k => !bitOf want (13 + k)) && active.head? == some (n - 13)
  else depends

/-- SYS_PD_STATUS SWITCHING follows (R272). -/
def State.pdSwitching (s : State) : State :=
  s.set Reg.SYS_PD_STATUS_SWITCHING (b2n (s.get Reg.SYS_PD_CTRL_ON != s.get Reg.SYS_PD_STATUS_ON))

/-- PD_CTRL_WRITE (R267, R268). -/
def execPdCtrlWrite (i : Initiator) (v : Nat) (s : State) : Host.Outcome State Fault Refusal :=
  ok (s.access i 0x40000030 4 fun s =>
    let now := s.get Reg.SYS_PD_CTRL_ON
    let want := s.pdWanted v
    let refused := (List.range 30).filter fun n => bitOf now n && !bitOf want n && s.pdRefuses want n
    let s := s.set Reg.SYS_PD_CTRL_ON (refused.foldl (fun w n => Sys2Proof.setBit w n true) want)
    let s := s.pdSwitching
    if refused.isEmpty then { s with bus := .written }
    else (refused.foldl (fun (s : State) n => s.setBit Reg.SYS_PD_REFUSED_REFUSED n true) s).ignored i 0x40000030)

/-- The media keys are loaded from the passport again where PD-CNS comes on after standby or shelf-hold (R61). -/
def State.freshKeys (s : State) (n : Nat) : State :=
  if n = 24 && s.cons.stale then
    ({ s with cons := { s.cons with stale := false, keys := [] } }).loadKeys (((s.factory.map Prod.snd).map Area.secret).getD [])
  else s

/-- PD_SWITCH_COMPLETE (R61, R267, R268): a domain reaches what its bit of SYS_PD_CTRL asks for. -/
def execPdSwitchComplete (n : Nat) (s : State) : Host.Outcome State Fault Refusal :=
  if 30 ≤ n || s.bit Reg.SYS_PD_CTRL_ON n == s.pdOn n then ok s
  else ok (if s.bit Reg.SYS_PD_CTRL_ON n then (s.pdSwitchOn n).freshKeys n else s.pdSwitchOff n).pdSwitching

/-- LLC_IDLE (R251): the drive bus, in mV, crosses 24.5 V while the LLC is meant to run. -/
def execLlcIdle (mv : Nat) (s : State) : Host.Outcome State Fault Refusal :=
  if 33000 < mv then beyond
  else ok (if s.pwr.llc then s.set Reg.PWR_STATUS_LLC_IDLE (b2n (24500 < mv)) else s)

/-- Firmware Commit refuses (R47, R48, R382): an action that is none, the running slot, or an image whose signatures do not verify, and
any commit with reads only, when the device writes no slot (R45; log 127). The action stands in CDW10 [5:3] and the slot in [2:0]
(PRESUMED; log 33). -/
def State.commitRefusal (s : State) (c : Cmd) (z : Area) : Option Status :=
  let act := bitsOf (c.cap.w 10) 5 3
  let fs := c.cap.w 10 % 8
  let rcv := s.get Reg.SYS_BOOT_MODE = 2
  if 3 ≤ act then some .invalidField
  else if fs != 1 && fs != 2 || (!rcv && fs = s.runningSlot) then some .invalidFirmwareSlot
  else if !rcv && s.readsOnly then some .writeProtected
  else if s.slotFails (fs - 1) z != 0 then some .invalidFirmwareImage
  else none

/-- Write a slot as a trial slot, preferred, one generation above the running slot's (R40, R47). In recovery mode, where no slot runs,
slot A's generation is taken for it (DESIGN CHOICE; log 128). -/
def State.writeTrial (s : State) (k : Nat) (z : Area) : State :=
  let g := s.slotGen (s.get Reg.SYS_BOOT_SLOT) + 1
  let s := { s with psp := if k = 0 then { s.psp with slotA := some z } else { s.psp with slotB := some z } }
  s.changeDev fun d =>
    if k = 0 then { d with trialA := true, countA := 0, genA := g, preferred := k }
    else { d with trialB := true, countB := 0, genB := g, preferred := k }

/-- A commit in recovery mode passes R41 to R44 for a slot (R48): nothing but its control stores' load check or nothing stops it. -/
def State.restartsOn (s : State) (k : Nat) (z : Area) : Bool :=
  s.chooseFactory.any fun f => let r := s.slotReason k f.2 z; r = 0 || r = 6

/-- FIRMWARE_COMMIT (R47, R48, R382): `image` is what the image downloaded holds. Action 0b010 commits what the slot holds already. In
recovery mode a commit that passes R41 to R44 causes a recovery restart: the switched domains go off once the heads are latched, as in a
grave-fault power cycle (R17, R449). -/
def execFirmwareCommit (serial : Nat) (image : Area) (s : State) : Host.Outcome State Fault Refusal :=
  ok (s.onAdmin serial 0x10 fun c s =>
    let k := c.cap.w 10 % 8 - 1
    let z := if bitsOf (c.cap.w 10) 5 3 = 2 then s.slotOf k else if s.host.image.isEmpty then none else some image
    match z with
    | none => s.answer serial (verdict .invalidFirmwareImage true)
    | some z =>
      match s.commitRefusal c z with
      | some st => s.answer serial (verdict st true)
      | none =>
        let s := (s.writeTrial k z).putHost { s.host with image := [] }
        let s := (s.ledger 0x0060 [k, z.build 0x10, 0, 0, 0, 0, 0]).answer serial good
        if s.get Reg.SYS_BOOT_MODE = 2 && s.restartsOn k z then
          if s.headsOff then { s.emUnloadAll 0x3 with pwr := { s.pwr with recommit := true } }
          else { s.pdAllOff (List.range 30) with pwr := { s.pwr with offMs := some s.ms } }
        else s)

/-- PRESENT_N_RELEASE (R469): every association ends, nothing more is sent on the Kerrex bus, and the removal is recorded. -/
def execPresentNRelease (s : State) : Host.Outcome State Fault Refusal :=
  if s.on Reg.SYS_IDENT_PRESENT then ok ((s.endAll.set Reg.SYS_IDENT_PRESENT 0).ledger 0x0090 [0, s.slot, 0, 0, 0, 0, 0]) else ok s

/-- PRESENT_N_ASSERT (R12, R469): the straps are read and compared with SLOT_ID; where they differ the drive stays silent until the next cold
start, and tells. -/
def execPresentNAssert (straps : Nat) (s : State) : Host.Outcome State Fault Refusal :=
  if s.on Reg.SYS_IDENT_PRESENT then ok s
  else
    let differ := straps % 64 != s.slot
    let s := { s with straps := straps % 64, krx := { s.krx with silent := s.krx.silent || differ } }.set Reg.SYS_IDENT_PRESENT 1
    let s := if differ then s.event 0x31 0x0D 0 (straps % 64) else s
    ok (s.ledger 0x0090 [1, s.slot, straps % 64, b2n differ, 0, 0, 0])

end Sys2Proof.Machine
end

