-- ==== Sys2Proof/Machine/Tick.lean ====
section
/-!
DEFINITION. The tick boundary (R22, R74 to R84, R162): the tick source and its slewing, and what the tick's units do at it, with the thermal
slice's work (R435 to R444), the chopper's estimate (R265) and the ports of PWR and THM (R266, R438).
-/
namespace Sys2Proof.Machine

/-- Device time passes (R452): LDG_POT counts whole ms. -/
def State.advance (s : State) (ns : Nat) : State :=
  let t := s.potNs + ns
  let pot := s.ldgPot + t / 1000000
  let s := { s with clockNs := s.clockNs + ns, potNs := t % 1000000 }
  (s.set Reg.LDG_POT_LO_VALUE pot).set Reg.LDG_POT_HI_VALUE (pot / 2 ^ 32)

/-- The ring phase of disc boundary `k` in 1/4096 ring cycle (R74): rounded to the nearest, a tie up. -/
def State.discBoundary (s : State) (k : Nat) : Nat :=
  let w := max 1 (s.get Reg.PMK_TICKCFG_WEDGES)
  (s.get Reg.PMK_WEDGE0_CYCLE * 4096 + s.get Reg.PMK_WEDGE0_FRAC + (2 * k * 2 ^ 32 + w) / (2 * w)) % 2 ^ 32

/-- The time to the nearest disc boundary from a rotor angle, in 1/3276800 disc tick, in (−0.5, +0.5] (R78), rounded down, as is what
PHASE_ERR takes of it (DESIGN CHOICE; log 132). -/
def State.slewError (s : State) (angle : Nat) : Int :=
  let w := max 1 (s.get Reg.PMK_TICKCFG_WEDGES)
  let since := (angle + 2 ^ 32 - s.discBoundary 0) % 2 ^ 32
  let k := since * w / 2 ^ 32
  let to_ (j : Nat) : Int := signed 32 ((s.discBoundary j + 2 ^ 32 - angle) % 2 ^ 32)
  let best := [k, k + 1].foldl (fun (b : Int) j => if (to_ j).natAbs < b.natAbs || ((to_ j).natAbs == b.natAbs && b < 0) then to_ j else b)
    (to_ k)
  best * (w * 3276800 : Nat) / (2 ^ 32 : Nat)

/-- The source changes (R79): writes are held. -/
def State.setSrc (s : State) (src : Nat) : State :=
  if s.get Reg.TCK_STATUS_SRC = src then s else (s.set Reg.TCK_STATUS_SRC src).set Reg.TCK_STATUS_WR_HOLD 1

/-- Whether slewing to the disc tick begins (R77): locked, allowed, and the speed the postmark measures within 0.2 % of the set speed. -/
def State.handsOver (s : State) (revPeriod : Nat) : Bool :=
  let n := s.get Reg.SPN_SET_SET_RPM * revPeriod
  s.pmkLocked && s.on Reg.TCK_CTRL_HANDOVER_EN && !s.on Reg.TCK_CTRL_FORCE_FREE && revPeriod != 0 &&
    1000 * ((1500000000 - n) + (n - 1500000000)) ≤ 2 * n

/-- A boundary while the source is slewing to the disc tick (R78). -/
def State.slew (s : State) (e : Int) : State :=
  if e.natAbs ≤ 800 then
    let s := (s.setSrc 2).set Reg.TCK_STATUS_PHASE_ERR 0
    (s.putHost { s.host with handovers := s.host.handovers + 1 }) |> fun s => { s with tck := { s.tck with stretch := 0, discTicks := 0 } }
  else
    let s := s.set Reg.TCK_STATUS_PHASE_ERR (unsigned 16 (e / 100))
    { s with tck := { s.tck with stretch := clampInt (-16384) 16384 e } }

/-- The tick source at a boundary (R76 to R84): forced free, slewing from free once the postmark is locked, slewing to disc, the move to
wedge within eight ticks while a data head still flies, and wedge in a degraded start once the flywheel holds (DEDUCED; log 50). PMK_STATUS
STATE goes from holdover to lost as the source becomes wedge (DESIGN CHOICE; log 131). -/
def State.sourceTick (s : State) (f : TickFacts) : State :=
  let free (s : State) : State :=
    ((s.setSrc 0).set Reg.TCK_STATUS_PHASE_ERR 0) |> fun s => { s with tck := { s.tck with stretch := 0, toWedge := none } }
  let wedge (s : State) : State :=
    let s := (s.setSrc 3).setAll [(Reg.TCK_STATUS_PHASE_ERR, 0), (Reg.PMK_STATUS_STATE, if s.get Reg.PMK_STATUS_STATE = 4 then 5 else
      s.get Reg.PMK_STATUS_STATE)]
    { s with tck := { s.tck with stretch := 0, toWedge := none } }
  let src := s.get Reg.TCK_STATUS_SRC
  let s := { s with tck := { s.tck with flywheel := f.flywheel.getD s.tck.flywheel } }
  if s.on Reg.TCK_CTRL_FORCE_FREE && !s.headsOff then free s
  else
    match s.tck.toWedge with
    | some n => if !s.headsOff then free s else if f.flywheel.isSome || 7 ≤ n then wedge s else { s with tck := { s.tck with toWedge := some (n + 1) } }
    | none =>
      let s := if src = 0 && s.handsOver f.revPeriod then s.setSrc 1 else s
      match s.get Reg.TCK_STATUS_SRC, s.rotorAngle f.phases f.sinceChange with
      | 1, some a => s.slew (s.slewError a)
      | 1, none => free s
      | 2, _ => { s with tck := { s.tck with discTicks := s.tck.discTicks + 1 } }
      | 0, _ => if s.pmk.degraded && s.headsOff && f.flywheel.isSome then wedge s else s
      | 3, _ => if s.headsOff then s else free s
      | _, _ => s

/-- Degraded timing is entered or left (R82, R84, R387, R400), and its time counts. -/
def State.degradedTick (s : State) (ns : Nat) : State :=
  let now := s.get Reg.TCK_STATUS_SRC == 3
  let s := if s.tck.degraded then s.putHost { s.host with degradedNs := s.host.degradedNs + ns } else s
  if now == s.tck.degraded then s
  else
    let s := { s with tck := { s.tck with degraded := now } }
    let s := if now then s.putHost { s.host with degraded := s.host.degraded + 1 } else s
    s.raiseEvent ⟨7, 2, 0xC3⟩

/-- The input ports that the spindle and the arm drivers update (R175, R195, R223). -/
def measuredPort (p : Nat) : Bool := p ≤ 4 || (0x40 ≤ p && p < 0x80 && (p % 16 = 8 || p % 16 = 9))

/-- The coil current and voltage that an arm driver measures, in mA and mV, beside its ports +8 and +9 (R195, R219). -/
def State.measCoil (s : State) (p v : Nat) : State :=
  let x := Act.num ((p - 0x40) / 16)
  let m : Int := clampInt (-32768) 32767 (signed 32 v * 1000 / 65536)
  if p < 0x40 then s else if p % 16 = 8 then s.setS (Reg.ARM_VCM_MEAS_I_MEAS x) m else s.setS (Reg.ARM_VCM_MEAS_V_MEAS x) m

/-- Words the spindle and the arm drivers give to their ports, where their domains are on. -/
def State.latchPorts (s : State) (l : List (Nat × Nat)) : State :=
  l.foldl (fun s p => if measuredPort p.1 && s.portOn p.1 then (s.latch p.1 p.2).measCoil p.1 p.2 else s) s

/-- The chopper's thermal estimate (R265), in µJ: it grows by the energy taken and falls with a time constant of 20 s. -/
def State.chopTick (s : State) (uj ns : Nat) : State :=
  let e := s.pwr.chopE + uj - s.pwr.chopE * ns / 20000000000
  let lim := s.get Reg.PWR_HOLD_CHOP_PRATED * 20000000
  let s := { s with pwr := { s.pwr with chopE := e } }
  if lim < e && !s.on Reg.PWR_STATUS_CHOP_HOT then (s.set Reg.PWR_STATUS_CHOP_HOT 1).set Reg.PWR_INT_CHOP_FAULT 1
  else if s.on Reg.PWR_STATUS_CHOP_HOT && 10 * e ≤ 8 * lim then s.set Reg.PWR_STATUS_CHOP_HOT 0
  else s

/-- PWR at a boundary (R251, R265, R266, R271): the registers and ports 0x80 to 0x85. The drive bus that falls after the LLC was stopped
becomes invalid. -/
def State.powerTick (s : State) (f : TickFacts) : State :=
  let s := s.chopTick f.chopUj f.ns
  let s := s.setAll [(Reg.PWR_VOLTS_BULK, f.bulk), (Reg.PWR_VOLTS_DBUS, f.dbus), (Reg.PWR_INPUT_PIN, f.pin / 10), (Reg.PWR_INPUT_VLINE, f.line)]
  let s := if s.phase = 4 && f.dbus < 18000 then s.set Reg.PWR_STATUS_DBUS_VALID 0 else s
  let bad := s.on Reg.PWR_STATUS_CHOP_FAULT || s.on Reg.PWR_STATUS_CHOP_HOT
  let ev := 8 * s.get Reg.PWR_STATUS_DC_MODE + 4 * b2n bad + 2 * b2n (s.phase == 3) + b2n (s.phase == 2)
  [(0x80, f.load), (0x81, if bad then 0 else 1000 * s.get Reg.PWR_HOLD_CHOP_PRATED), (0x82, f.bulk * 65536 / 10),
   (0x83, f.dbus * 65536 / 1000), (0x84, f.pin), (0x85, ev)].foldl (fun (s : State) p => s.latch p.1 p.2) s

/-- Sensor `n` is not broken (R436). -/
def State.sensorOk (s : State) (n : Nat) : Bool := !s.bit Reg.THM_STATUS_BROKEN n

/-- The reading of a sensor as it was last sampled, in 1/16 °C. -/
def State.sensorAt (s : State) (n : Nat) : Int := s.getS (Reg.THM_SENS_TEMP n)

/-- The valid die sensors' readings but that of `not` (R436). -/
def State.dieReadings (s : State) (not : Nat) : List Int := ((List.range 6).filter fun n => n != not && s.sensorOk n).map s.sensorAt

/-- The median of a list of readings; of an even number the lower of the middle two (DESIGN CHOICE; log 51). -/
def median (l : List Int) : Int := (sortBy (fun (a b : Int) => a ≤ b) l).getD ((l.length - 1) / 2) 0

/-- The greatest of a list of readings. -/
def greatest : List Int → Option Int
  | [] => none
  | a :: t => some (t.foldl max a)

/-- The least of a list of readings. -/
def least : List Int → Option Int
  | [] => none
  | a :: t => some (t.foldl min a)

/-- A sensor is sampled (R435, R436, R458): its register and port, and what it has done. -/
def State.sample (s : State) (n : Nat) (t : Int) : State :=
  let z := sGet s.heat.sensors n Sensor.cold
  let m := s.getS Reg.THM_JUNC_J_MODEL
  let moved := t != z.reading
  let med := median (s.dieReadings n)
  let far := n < 6 && !(s.dieReadings n).isEmpty && 320 < (t - med).natAbs
  let low : Int → Int → Int := fun a b => if moved then b else min a b
  let high : Int → Int → Int := fun a b => if moved then b else max a b
  let z : Sensor := ⟨if t < -800 || 2400 < t then z.out + 1 else 0, if far then z.far + 1 else 0, t, if moved then s.ms else z.sinceMs,
    low z.modelLo m, high z.modelHi m, some (min (z.least.getD t) t), some (max (z.greatest.getD t) t)⟩
  let v := b2n (s.sensorOk n)
  let s := (s.set (Reg.THM_SENS_TEMP n) (unsigned 16 t)).set (Reg.THM_SENS_VALID n) v
  let s := { s with heat := { s.heat with sensors := sPut s.heat.sensors n z Sensor.cold } }
  s.latch (0xA0 + n) (v * 2 ^ 31 + unsigned 16 t)

/-- Every sensor and both trip diodes are sampled, in whatever state (R435, R438). -/
def State.sampleAll (s : State) (f : TickFacts) : State :=
  let raw := f.sensors.zip (List.range 8)
  let s := raw.foldl (fun s p => s.set (Reg.THM_SENS_TEMP p.2) (unsigned 16 p.1)) s
  let s := raw.foldl (fun s p => s.sample p.2 p.1) s
  let t (n : Nat) : Nat := f.trips.getD n 0 % 2 ^ 16
  ((s.set Reg.THM_TRIP_TRIP0 (t 0)).set Reg.THM_TRIP_TRIP1 (t 1)).latch 0xA8 (t 1 * 2 ^ 16 + t 0)

/-- The board and the composite temperature with their substitutes (R436, R444). With no sensor left that the rule names, the last stand. -/
def State.boardTick (s : State) : State :=
  let h := s.heat
  let both := (least (s.dieReadings 8)).map (· - 160)
  let board := if s.sensorOk 6 then s.sensorAt 6 else if s.sensorOk 7 then s.sensorAt 7 + 80 else both.getD h.board
  let comp := if s.sensorOk 7 then s.sensorAt 7 else if s.sensorOk 6 then s.sensorAt 6 - 80 else both.getD h.composite
  { s with heat := { h with board := board, composite := comp } }

/-- The die power of the tick in mW (R437): static powers and the energy of the events counted, of the domains that are on and the
always-on domain. -/
def State.diePower (s : State) (counts : List Nat) (ns : Nat) : Nat :=
  let entry (n : Nat) : Nat × Nat := s.heat.power.getD n (0, 0)
  let doms := (List.range 30).filter s.pdOn
  doms.foldl (fun p n => p + (entry n).1) (entry 30).1 + doms.foldl (fun p n => p + (entry n).2 * counts.getD n 0) 0 / max 1 ns

/-- J_model and J (R437). -/
def State.junctionTick (s : State) (f : TickFacts) : State :=
  let p := s.diePower f.activity f.ns
  let goal : Int := s.heat.board * (2 ^ 32 : Nat) + ((s.get Reg.THM_MODEL_RJB * p * 16 * 2 ^ 32 / 1000000 : Nat) : Int)
  let m := s.heat.model
  let m := if s.on Reg.THM_CTRL_MODEL_EN then m + (goal - m) * (f.ns : Int) / ((max 1 (s.get Reg.THM_MODEL_TAU) * 1000000 : Nat) : Int)
    else goal
  let s := { s with heat := { s.heat with model := m } }
  let s := (s.set Reg.THM_POWER_P_DIE (min 65535 p)).setS Reg.THM_JUNC_J_MODEL (m / (2 ^ 32 : Nat))
  let die := s.dieReadings 8
  let top := greatest die
  let alone : Int := m / (2 ^ 32 : Nat) + 80
  let j := if 2 ≤ die.length then top.getD alone else max alone (top.getD alone)
  (s.set Reg.THM_STATUS_MODEL_ONLY (b2n (die.length < 2))).setS Reg.THM_JUNC_J j

/-- While the module cools, J comes from the trip diodes, or from sensor 6 plus 10 K where both are broken (R441). -/
def State.coolingTick (s : State) : State :=
  let l := ((List.range 2).filter fun n => !s.bit Reg.THM_STATUS_TRIP_BROKEN n && s.get (tripField n) != 0x8000).map fun n => s.getS (tripField n)
  s.setS Reg.THM_JUNC_J ((greatest l).getD (s.sensorAt 6 + 160))

/-- THM_STATUS STATE by the levels of R439 alone, whatever STEP is (log 119), with the warning event, and what the levels are left at (R440, R443). -/
def State.levelTick (s : State) : State :=
  let j := s.junction
  let lvl (f : Fld) : Int := level16 (s.get f)
  let was := s.get Reg.THM_STATUS_STATE
  let h := s.heat
  let h := { h with held := h.held && lvl Reg.THM_LVL_SHUT - 240 < j, rose := h.rose && lvl Reg.THM_LVL_THROT ≤ j,
                    coolMs := if j ≤ lvl Reg.THM_LVL_THROT - 80 then some (h.coolMs.getD s.ms) else none }
  let s := { s with heat := h }
  let now := if was = 4 then 4 else if was = 3 && (s.desk.grave.isSome || h.held) then 3
    else if lvl Reg.THM_LVL_THROT ≤ j || (was = 2 && lvl Reg.THM_LVL_THROT - 80 < j) then 2
    else if lvl Reg.THM_LVL_WARN ≤ j || (1 ≤ was && lvl Reg.THM_LVL_WARN - 80 < j) then 1 else 0
  let s := s.set Reg.THM_STATUS_STATE now
  if was = 0 && 0 < now then ((s.set Reg.THM_INT_WARN 1).event 0x70 0x0B 0 0).ledgerHeat
  else if 0 < was && now = 0 then s.set Reg.THM_INT_WARN 1
  else s

/-- The bin of the composite temperature in log page 0xC5 (R458). -/
def tempBin (t : Int) : Nat := if t < -480 then 0 else min 23 ((t + 480) / 80 + 1).toNat

/-- The times of log page 0xC5 (R458). -/
def State.heatTimes (s : State) (ns : Nat) : State :=
  let h := s.heat
  let st := s.get Reg.THM_STATUS_STATE
  let k := tempBin h.composite
  let add (b : Bool) (n : Nat) : Nat := if b then n + ns else n
  { s with heat := { h with warnNs := add (1 ≤ st && st ≤ 3) h.warnNs, stepNs := add (s.on Reg.THM_STATUS_STEP) h.stepNs,
                            wcNs := add (level16 (s.get Reg.THM_HDA_WCTEMP) < h.composite) h.wcNs, ccNs := add s.ccHot h.ccNs,
                            bins := sPut h.bins k (sGet h.bins k 0 + ns) 0 } }

/-- The activity counts of the tick stand in the courier's data memory, and port 0xA9 gives their address (R437, R438), while PD-CRE is on. -/
def State.latchActivity (s : State) (a : Nat) (counts : List Nat) : State :=
  if !s.pdOn 12 then s
  else
    let put (d : Sparse Nat) (p : Nat × Nat) : Sparse Nat := sPut d ((a + p.2) % 16384) (p.1 % 2 ^ 32) 0
    { s with eng := { s.eng with dm := (counts.zip (List.range 30)).foldl put s.eng.dm } }.latch 0xA9 a

/-- The thermal slice's words at its output ports (R438). -/
def State.heatPorts (s : State) : State :=
  (s.putPortOut 0xAC (s.get Reg.THM_JUNC_J * 2 ^ 16 + s.get Reg.THM_JUNC_J_MODEL)).putPortOut 0xAD s.heatWord

/-- The thermal side at a boundary (R435 to R444): sampling goes on without the engine; the estimate, STATE and the warning are the thermal
slice's, and stand while it does not run (R438). -/
def State.heatTick (s : State) (f : TickFacts) : State :=
  let s := ((s.sampleAll f).latchActivity f.activityAt f.activity).boardTick
  let s := if s.get Reg.THM_STATUS_STATE = 4 then s.coolingTick.levelTick
    else if s.thermalSlice then (s.junctionTick f).levelTick.heatPorts else s
  s.heatTimes f.ns

/-- Whether the device is ready for the media (R52, R81): a tick from the disc or the servo wedges, operating speed, every actuator in service
loaded, and the map replayed. -/
def State.mediaNow (s : State) : Bool :=
  let src := s.get Reg.TCK_STATUS_SRC
  let flies (x : Act) : Bool := match (s.lp x).mode with
    | .follow => true
    | .seekWait => true
    | .seek => true
    | .switching => true
    | .dead => true
    | _ => false
  (src = 2 || src = 3) && s.on Reg.SPN_STATUS_AT_SPEED && s.acts.all flies && s.acts.any (fun x => (s.lp x).mode != .dead) &&
    !s.office.rebuildMap && s.office.unloaded.isEmpty

/-- The running slot's trial flag is cleared (R47). -/
def State.clearTrial (s : State) : State :=
  let d := s.devWanted
  let k := s.get Reg.SYS_BOOT_SLOT
  if k = 0 && d.trialA then s.saveDev fun d => { d with trialA := false, countA := 0 }
  else if k != 0 && d.trialB then s.saveDev fun d => { d with trialB := false, countB := 0 }
  else s

/-- Media ready follows (R47, R52): while it stands, a trial flag of the running slot is cleared. -/
def State.readyTick (s : State) : State :=
  let now := s.mediaNow
  let s := if now == s.host.mediaReady then s else s.putHost { s.host with mediaReady := now }
  if now && s.get Reg.SYS_BOOT_MODE != 2 then s.clearTrial else s

/-- The words that the slow-idle sealed set overrides (R61): 2400 rpm, and the free tick of that speed. -/
def State.slowWords (s : State) : List (Nat × Nat) :=
  let w := max 1 (s.get Reg.PMK_TICKCFG_WEDGES)
  let a := Reg.SPN_SET_SET_RPM.addr
  [(a, s.liveWord a - s.get Reg.SPN_SET_SET_RPM + 2400), (Reg.TCK_FREE_PERIOD_INT.addr, min (625000 * 65536 / w) (2 ^ 32 - 1))]

/-- Slow idle (R61, R398): the slow-idle set is posted once every head is on its ramp and the tick is free; on the way back the active values
are posted again. -/
def State.slowTick (s : State) : State :=
  if s.host.ps = 3 && s.host.slow.isEmpty && !s.headsOff && !s.pmkOff && s.get Reg.TCK_STATUS_SRC = 0 then
    let was := s.slowWords.map fun p => (p.1, s.liveWord p.1)
    (s.applySet s.slowWords).putHost { s.host with slow := was }
  else if s.host.ps != 3 && !s.host.slow.isEmpty then
    let was := s.host.slow
    (s.applySet was).putHost { s.host with slow := [] }
  else s

/-- A set armed for this boundary (R56); the pairs wanted are computed when SOF_FC is posted (R308). -/
def State.postTick (s : State) : State :=
  let t := s.sealTick
  if s.sealPosts && s.env.writes.any fun w => w.1 == Reg.SOF_FC_COMPAT.addr then
    t.putOffice { t.office with pairsWanted := t.pairsWanted }
  else t

/-- What the tick-bound units do at a boundary (R21, R22, R76 to R88): the count, a set armed for this boundary, the mailboxes, the source,
the engine, the loops, the ports, PWR, the postmark and the spindle. -/
def State.unitsTick (s : State) (f : TickFacts) : State :=
  let s := { s with tick := (s.tick + 1) % 2 ^ 64 }.postTick.settlePower.slowTick
  let s := (List.range 5).foldl (fun s l => s.takeUp l s.clockNs) s
  let s := ((s.sourceTick f).degradedTick f.ns).engineTick
  let s := s.acts.foldl (fun s x => ((s.wedgePass x).loopTick x).aspTick x) s
  ((((s.latchPorts f.ports).powerTick f).pmkTick f).spindleTick f.speed).readyTick.ageZoneSets

/-- TICK_BOUNDARY (R76). While PD-CRE is off no tick runs: time passes, and the always-on units, PWR among them, go on. -/
def execTickBoundary (f : TickFacts) (s : State) : Host.Outcome State Fault Refusal :=
  if 33000 < f.dbus then beyond
  else
    let s := (f.rows.filter fun r => r.1 = 0 || r.1 = 2).foldl (fun s r => s.noteRow r) (s.advance f.ns).phcDrain
    let s := if s.tickRuns then s.unitsTick f else s.powerTick f
    ok (s.watchCritical fun s => (s.frankTick f.ns).heatTick f)

end Sys2Proof.Machine
end

