-- ==== Sys2Proof/Machine/Registers.lean ====
section
/-!
DEFINITION. REGISTER_WRITE (R6 to R9, R14): a write of a 32-bit register takes effect field by field under the access codes. A field whose
write is a row of its own keeps its value here: that row is the command for it (DESIGN CHOICE; log 15).
-/
namespace Sys2Proof.Machine

/-- The fields whose write is a row of its own, whatever is written. -/
def rowFields : List Fld :=
  [Reg.TCK_CTRL_FORCE_FREE, Reg.DEC_CTRL_HALF0_EN, Reg.DEC_CTRL_HALF1_EN, Reg.DEC_RJ_PTR_RJTAIL, Reg.CRE_CTRL_RUN,
   Reg.CRE_DM_DATA_DATA, Reg.SYS_PD_CTRL_ON, Reg.FRK_TARGET_TARGET, Reg.SOF_J_PTR_SJTAIL, Reg.CNS_J_PTR_CJTAIL,
   Reg.PRE_CTRL_RUN, Reg.PHC_CTRL_FLUSH, Reg.NFC_Q_PTR_NQTAIL] ++
  [Reg.LDG_SEQ_LO_VALUE, Reg.LDG_SEQ_HI_VALUE, Reg.LDG_POT_LO_VALUE, Reg.LDG_POT_HI_VALUE, Reg.LDG_BOOT_VALUE] ++
  [Reg.CH_Q_PTR_QTAIL .a, Reg.CH_Q_PTR_QTAIL .b, Reg.CH_Q_PTR_QTAIL .c, Reg.CH_Q_PTR_QTAIL .d]

/-- Whether an address is that of a register of which every field is a row's: a window of the pigeonhole cache. -/
def rowWindow (a : Nat) : Bool := 0x40610010 ≤ a && a < 0x40610030

/-- Whether a field is the tail of a carrier channel (R418). -/
def isDmaTail (f : Fld) : Bool := 0x40620100 ≤ f.addr && f.addr < 0x40620900 && f.addr % 32 == 8

/-- Whether a register has a GO bit that carries its other fields: ARM_ASP_CMD, FRK_WAKE, CNS_KEY_CTRL. -/
def isGoReg (a : Nat) : Bool :=
  [0x40210010, 0x40220010, 0x40230010, 0x40240010, 0x40310018, 0x40410030].contains a

/-- The bits of a field that read 0 whatever is written (R190, R337, R364, R406, R430, R432, R434, R461): the value kept. -/
def keptBits (f : Fld) (v : Nat) : Nat :=
  match f.addr with
  | 0x40200008 => v / 2 ^ 8 * 2 ^ 8
  | 0x40520008 => v / 2 ^ 8 * 2 ^ 8
  | 0x40410038 => v / 8 * 8
  | 0x40710044 => v / 8 * 8
  | 0x40400028 => v / 2 * 2
  | 0x40410008 => v / 2 * 2
  | 0x40640008 => v / 2 ^ 13 * 2 ^ 13
  | a =>
    if a == 0x40600010 || a == 0x40600018 || a == 0x40600020 || a == 0x40600028 then v / 2 ^ 20 * 2 ^ 20
    else if 0x40620100 ≤ a && a < 0x40620900 && a % 32 == 0 then v / 2 ^ 13 * 2 ^ 13
    else v

/-- Whether an address is a base of the buffer pools, which is written only before the pools are set up (R430). -/
def isPoolBase (a : Nat) : Bool := 0x40600010 ≤ a && a < 0x40600030

/-- Whether an address is SOF_SEQ, which is written only while ENABLE is 0 (R337). -/
def isSofSeq (a : Nat) : Bool := a == 0x40400018 || a == 0x4040001C

/-- The actuator whose lane block an address lies in. -/
def laneOf (a : Nat) : Option Act := [Act.a, Act.b, Act.c, Act.d].find? fun x => x.laneBase ≤ a && a < x.laneBase + 0x8000

/-- The actuator whose arm driver block an address lies in. -/
def armOf (a : Nat) : Option Act := [Act.a, Act.b, Act.c, Act.d].find? fun x => x.armBase ≤ a && a < x.armBase + 0x8000

/-- Whether a write to a zone entry's word is a row of its own (R114): word 0 with VALID 1, or any word of a valid entry. -/
def State.zoneRow (s : State) (x : Act) (off v : Nat) : Bool :=
  0x4000 ≤ off && ((off % 32 == 0 && bitOf v 31) || s.on (Reg.CH_ZONE_VALID x ((off - 0x4000) / 32)))

/-- Whether a write of `v` at an address is, for a field, a row of its own or without effect (R53 to R57, R114, R337, R430, R450). -/
def State.leftAlone (s : State) (a v : Nat) (f : Fld) : Bool :=
  (rowFields.any fun g => g.key == f.key) || rowWindow a || isDmaTail f || (isGoReg a && bitOf v 31) ||
    (isPoolBase a && s.bags.up) || (isSofSeq a && s.on Reg.SOF_CTRL_ENABLE) ||
    (a == 0x40710040 && f.acc == .rw && (bitOf v 31 || s.on Reg.FLT_INJ_CTRL_ARM)) ||
    match laneOf a with
    | some x => s.zoneRow x (a - x.laneBase) v
    | none => false

/-- What a register write does with a field (R8): RW takes the bits, W1C clears the bits written 1, the rest keep their value. HEAD_EN
only gains bits here, its clearing being a row of its own. -/
def State.writeFld (s : State) (f : Fld) (v : Nat) : State :=
  match f.acc with
  | .rw =>
    match laneOf f.addr with
    | some x => if f.key == (Reg.CH_CTRL_HEAD_EN x).key then s.set f (s.get f ||| v) else s.set f (keptBits f v)
    | none => s.set f (keptBits f v)
  | .w1c => s.set f (s.get f &&& ((2 ^ f.width - 1) ^^^ v))
  | _ => s

/-- The write-only words that hold data until another write uses them: the words of the KEK (R364) but the last, and a core's own words
of a ledger record (R462). -/
def State.dataWord (s : State) (i : Initiator) (a v : Nat) : State :=
  if 0x40410100 ≤ a && a < 0x4041011C then s.set (Reg.CNS_KEK_KEK ((a - 0x40410100) / 4)) v
  else if 0x40720040 ≤ a && a < 0x40720060 then
    match i with
    | .core c => s.set (Reg.LDG_WRITE_DATA c ((a - 0x40720040) / 4)) v
    | _ => s
  else s

/-- ENABLE of the spindle block (R247): at 0 the inverter and the comparators are off, and STATE with them; written 1 while STATE is
off, STATE is coasting. -/
def State.spnEnable (s : State) : State :=
  if s.on Reg.SPN_CTRL_ENABLE then (if s.spSt = 0 then s.coast else s)
  else if s.spSt = 0 then s
  else
    let s := s.notAtSpeed.coast.setSp 0
    s.putSpn { s.spn with startTag := none, stopTag := none, retryWait := false, catchLeft := none, method := 0, byX32 := false }

/-- ENABLE of an arm driver (R219, DEDUCED; log 16): at 0 the driver is off unless it retracts; written 1 while it is off, it is idle. -/
def State.armEnable (s : State) (x : Act) : State :=
  let st := s.get (Reg.ARM_STATUS_STATE x)
  if s.on (Reg.ARM_CTRL_ENABLE x) then (if st = 0 then s.set (Reg.ARM_STATUS_STATE x) 1 else s)
  else if st = 4 then s
  else s.set (Reg.ARM_STATUS_STATE x) 0

/-- Whether the arming of a channel (an injection channel by its number, a capture channel by 4 more) is too late: the
channel then does not start (R184). -/
def State.setLate (s : State) (k : Nat) (isLate : Bool) : State :=
  let l := s.eng.late.filter (· != k)
  { s with eng := { s.eng with late := if isLate then k :: l else l } }

/-- A channel's ARM written 1 (R184, R185): a start that has passed, or lies more than 2^31 ticks ahead, sets LATE. An
injection channel that is armed is used by no slice yet (R186). -/
def State.armChannel (s : State) (a v : Nat) : State :=
  let n := (a - 0x40200200) / 16 % 4
  if !bitOf v 31 then s
  else if a < 0x40200240 then
    if s.on (Reg.CRE_INJ_STAT_ACTIVE n) then s
    else
      let isLate := startLate (s.get (Reg.CRE_INJ_START_START_TICK n)) s.tickLo
      let s := { s with eng := { s.eng with injUse := s.eng.injUse.filter (·.1 != n) } }.setLate n isLate
      if isLate then s.set (Reg.CRE_INJ_STAT_LATE n) 1 else s
  else if s.on (Reg.CRE_CAP_STAT_ACTIVE n) then s
  else
    let isLate := startLate (s.get (Reg.CRE_CAP_START_START_TICK n)) s.tickLo
    let s := s.setLate (4 + n) isLate
    if isLate then s.set (Reg.CRE_CAP_STAT_LATE n) 1 else s

/-- What follows from a register's new value. -/
def State.afterWrite (s : State) (a v : Nat) : State :=
  match a with
  | 0x40010000 => s.pmkCtrlWritten
  | 0x40280000 => s.spnEnable
  | 0x40400000 => s.sofRefresh
  | 0x40410000 => s.cnsRefresh
  | 0x40640000 => s.nfcRefresh
  | 0x40720078 => s.ldgDrain (v % 1024)
  | _ =>
    if 0x40620100 ≤ a && a < 0x40620900 && a % 32 == 0xC then s.dmaRefresh ((a - 0x40620100) / 32)
    else if 0x40200200 ≤ a && a < 0x40200280 && a % 16 == 0 then s.armChannel a v
    else
      match laneOf a, armOf a with
      | some x, _ =>
        if a == x.laneBase then (if (s.mediaOp x).isNone then s.laneRest x else s)
        else if a == x.laneBase + 0x28 then s.abortOn x
        else s
      | none, some x => if a == x.armBase then s.armEnable x else s
      | none, none => s

/-- ENABLE of a port changed (R405): the port goes off or comes on, which its link and associations feel as a link reset. -/
def State.portEnable (s : State) (a was : Nat) : State :=
  if a == 0x40500000 || a == 0x40510000 then
    let p : Prt := if a == 0x40500000 then .a else .b
    if s.get (Reg.ETH_CTRL_ENABLE p) == was then s else s.linkReset p
  else s

/-- ENABLE of the port whose control register stands at an address. -/
def State.portWas (s : State) (a : Nat) : Nat := s.get (Reg.ETH_CTRL_ENABLE (if a == 0x40510000 then .b else .a))

/-- Whether a write is ignored and reported: to the reply rings (R190), and to the buffer of an injection channel that is armed (R184). -/
def State.writeDenied (s : State) (a : Nat) : Bool :=
  (0x40202000 ≤ a && a < 0x40203400) ||
    (0x40204000 ≤ a && a < 0x40208000 && s.on (Reg.CRE_INJ_CTRL_ARM ((a - 0x40204000) / 0x1000)))

/-- A write that the bus lets through to a live register. -/
def State.liveWrite (s : State) (i : Initiator) (a v : Nat) : State :=
  if s.writeDenied a then s.ignored i a
  else
    let was := s.portWas a
    let head := s.get Reg.LDG_DRAIN_DHEAD
    let t := (fieldsAt a).foldl (fun t f => if s.leftAlone a v f then t else t.writeFld f (bitsOf v f.hi f.lo)) s
    let t := t.dataWord i a v
    let t := if a == 0x40720078 then t.set Reg.LDG_DRAIN_DHEAD head else t
    { (t.afterWrite a v).portEnable a was with bus := .written }

/-- A read of a register that changes nothing (R6 to R9): the live word, or the staged one at the address of a staged copy. -/
def State.readWord (s : State) (a : Nat) : State :=
  { s with bus := .read (if isStaged a then s.stagedWord (liveOf a) else s.liveWord a) }

/-- REGISTER_WRITE (R6 to R9, R14): an access of `size` bytes at an address of the register space: the write of `v`, or where that is none
a read, which changes nothing but what the bus shows (log 114). A narrow, wide or unaligned access of either kind ends in a bus error that
the desk is told. A write to a staged copy is recorded as STAGED_COPY_WRITE's is (R7). -/
def execRegisterWrite (i : Initiator) (a size : Nat) (v : Option Nat) (s : State) : Host.Outcome State Fault Refusal :=
  match v with
  | none => ok (s.access i a size fun s => s.readWord a)
  | some v =>
    if isStaged a then
      if s.unfitted a && size == 4 && a % 4 == 0 then ok (s.stageWrite i a v) else ok (s.access i a size fun s => s.stageWrite i a v)
    else ok (s.access i a size fun s => s.liveWrite i a v)

end Sys2Proof.Machine
end

