-- ==== Sys2Proof/Machine/Wedge.lean ====
section
/-!
DEFINITION. The servo wedges (R97, R112, R193, R194, R198): what a lane reads of one, the position error it delivers, and the end of the servo field.
-/
namespace Sys2Proof.Machine

/-- The position of the active head in 2^-16 track (R194): the Gray track number read plus the fraction of the bursts; where
the number fails its parity, the track nearest the target that agrees with the bursts. -/
def wedgePosition (target track frac : Nat) (gray : Bool) : Int :=
  if gray then ((track * 65536 + frac : Nat) : Int)
  else
    let t : Int := ((target * 65536 : Nat) : Int)
    let p := t + (frac : Int)
    if 32768 < frac then p - 65536 else p

/-- The servo address mark (R193). -/
def servoMark : Nat := 0xE94B

/-- A number from its Gray code of so many bits (R193): the reflected one (PRESUMED; log 140). -/
def ofGray (bits g : Nat) : Nat := (List.range bits).foldl (fun v k => v ^^^ (g / 2 ^ k)) 0 % 2 ^ bits

/-- The currents of the other actuators that the reaction-torque feed-forward subtracts (R205): KX_x times the sum of X8 to X11 but its own, as
they are committed. -/
def State.feedForward (s : State) (x : Act) : Int :=
  let others := ([Act.a, .b, .c, .d].filter (· != x)).foldl (fun n y => n + s.getS (Reg.CRE_X (8 + y.n))) 0
  (signed 32 (s.cal.kx.at x) * others + 32768) / 65536

/-- The peak current of a seek's class in 2^-16 A (R203). -/
def peakCurrent (cls : Nat) : Int := (([400, 800, 1400, 2000].getD cls 2000 * 65536 / 1000 : Nat) : Int)

/-- The servo slice's command of a tick (R202, R205, R216): in velocity mode the profile at port +2 is sent again and no current is commanded
(DESIGN CHOICE; log 141); otherwise the current that the
law asks for, less the feed-forward, limited in a seek at the class's peak, goes to port +0 and to X8 + x. -/
def State.servoCommand (s : State) (x : Act) (e : Int) : State :=
  let l := s.lp x
  if l.parked then s
  else if l.vel then (s.armWrite x 2 (s.portOut (armPort x 2))).set (Reg.CRE_X (8 + x.n)) 0
  else
    let i := Config.loopCurrent x.n s.tick e l.coef - s.feedForward x
    let i := match l.mode, l.cur with
      | .unloading, _ => clampInt (-(peakCurrent 1)) (peakCurrent 1) i
      | .seek, some m => clampInt (-(peakCurrent m.cls)) (peakCurrent m.cls) i
      | _, _ => i
    let v := unsigned 32 (clampInt (-(2 ^ 31 : Nat)) ((2 ^ 31 : Nat) - 1) i)
    (s.armWrite x 0 v).set (Reg.CRE_X (8 + x.n)) v

/-- The microactuator slice's drive of a tick (R195, R208, R210): only the active head is driven, clamped at MA_VMAX. A head that becomes active
starts from the drive of its last use, and the old head's is kept for its next. -/
def State.microCommand (s : State) (x : Act) (e : Int) : State :=
  let l := s.lp x
  let was := s.portOut (armPort x 1)
  if l.parked || !s.sliceRuns (5 + x.n) then s
  else if was / 2 ^ 29 = l.head then
    s.armWrite x 1 (l.head * 2 ^ 29 + unsigned 16 (clampInt (-32767) 32767 (Config.microDrive x.n s.tick e l.coef)))
  else
    let kept := if s.headRetired x (was / 2 ^ 29) then l.ma else sPut l.ma (was / 2 ^ 29) (was % 65536) 0
    (s.putLp x { l with ma := kept, sat := 0 }).armWrite x 1 (l.head * 2 ^ 29 + sGet kept l.head 0)

/-- What a wedge does to a load or an unload (R213, R214): the third consecutive valid track number of a load ends the velocity mode; heads that
unload and are at the outermost track climb the ramp. -/
def State.rampStep (s : State) (x : Act) (near : Bool) : State :=
  let l := s.lp x
  if l.mode == .loading && l.vel && 3 ≤ l.valid then (s.setRamp x false false 0).set (Reg.ARM_STATUS_STATE x) 2
  else if l.mode == .unloading && !l.vel && near then s.climbRamp x
  else s

/-- The lane delivers the position error of a wedge of the active head (R97, R194, R198): the ports and X12 + x take it, the
and where the loop's slice runs, the on-track count, the write inhibit and the commands to the arm driver follow, and the slice becomes
ready. -/
def State.deliverPes (s : State) (x : Act) (track frac : Nat) (gray burst : Bool) : State :=
  let l := s.lp x
  let pos := wedgePosition l.target track (frac % 65536) gray
  let lim : Int := ((2 ^ 31 : Nat) : Int) - 1
  let e := clampInt (-lim) lim (pos - ((l.target * 65536 : Nat) : Int) - 64 * l.offset)
  let status := 2 ^ 31 + b2n gray * 2 ^ 30 + b2n burst * 2 ^ 29 + track % 2 ^ 24
  let mag := e.natAbs
  let onc := if mag ≤ s.cal.onLimit && gray && burst then l.onCount + 1 else 0
  let drive := (signed 16 (s.portOut (armPort x 1) % 65536)).natAbs
  let wi := s.cal.wiLimit ≤ mag || !gray || !burst || l.mode != .follow || l.offset != 0 || l.driverInhibit
  let onT := if wi then false else l.onTrack || (s.cal.onWedges ≤ onc && l.mode == .follow)
  let s := ((s.wedgeDone x).latch (lanePort x 0) (unsigned 32 e)).latch (lanePort x 1) status
  if !s.sliceRuns (1 + x.n) then s else
  let s := s.putLp x { s.lp x with onCount := onc, miss := if gray && burst then 0 else l.miss + 1, status := status,
                                              valid := if gray then l.valid + 1 else 0,
                                              sat := if 32767 ≤ drive then l.sat + 1 else 0,
                                              track := if gray then track % 2 ^ 24 else l.track }
  let s := (s.set (Reg.CRE_X (12 + x.n)) (unsigned 32 e)).setInhibit x wi onT
  (((s.rampStep x (mag ≤ s.cal.onLimit && gray)).servoCommand x e).microCommand x e).ready (1 + x.n)

/-- POSITION_ERROR_DELIVERY (R97, R162, R193, R194): the lane demodulates a wedge from the leading reader: the bits where the servo address mark
stands, the index and track numbers in their Gray code, the parity, and the two bursts. Without the mark nothing is delivered. -/
def execPositionErrorDelivery (x : Act) (mark index track parity : Nat) (n q : Int) (s : State) : Host.Outcome State Fault Refusal :=
  let i := ofGray 10 index
  let t := ofGray 24 track
  if mark % 2 ^ 16 == servoMark && s.portOn (lanePort x 0) && !(s.lp x).parked then
    ok (s.deliverPes x t (Config.burstFraction n q) (parity % 16 == Config.servoParity i t % 16) (Config.burstGood n q)).scheduleIdle
  else ok s

/-- PES_TIMEOUT cycles have passed since the boundary without a position error (R162, R194, R198): the servo slice becomes
ready with FRESH false, the wedge counts as missed, and the loop inhibits writes. -/
def execPesTimeout (x : Act) (s : State) : Host.Outcome State Fault Refusal :=
  if s.fitted x && !s.eng.fresh.contains (lanePort x 0) then
    let s := s.wedgeDone x
    if !s.sliceRuns (1 + x.n) then ok s else
    let l := s.lp x
    let s := s.putLp x { l with miss := if l.parked then l.miss else l.miss + 1, onCount := 0 }
    let s := if l.parked then s else (s.setInhibit x true false).servoCommand x (signed 32 (s.get (Reg.CRE_X (12 + x.n))))
    ok ((s.ready (1 + x.n)).scheduleIdle)
  else ok s

end Sys2Proof.Machine
end

