-- ==== Sys2Proof/Machine/Dispatch.lean ====
section
/-!
DEFINITION. The dispatch: one arm for each command, a direct call of its meaning.
-/
namespace Sys2Proof.Machine

def exec (i : Instr) (s : State) : Host.Outcome State Fault Refusal :=
  match i with
  | .registerWrite ini a size v => Sys2Proof.Machine.execRegisterWrite ini a size v s
  | .tckCountLoRead ini => Sys2Proof.Machine.execTckCountLoRead ini s
  | .mainsApplied volts ac fit => Sys2Proof.Machine.execMainsApplied volts ac fit s
  | .acDcModeChoice crossing volts => Sys2Proof.Machine.execAcDcModeChoice crossing volts s
  | .llcStart bulk heldMs => Sys2Proof.Machine.execLlcStart bulk heldMs s
  | .driveBusValid mv facts => Sys2Proof.Machine.execDriveBusValid mv facts s
  | .linkUp p speed fec => Sys2Proof.Machine.execLinkUp p speed fec s
  | .addressBound p v6 addr => Sys2Proof.Machine.execAddressBound p v6 addr s
  | .mainsLostWarning silentMs bulk => Sys2Proof.Machine.execMainsLostWarning silentMs bulk s
  | .recoveryMet bulk heldMs present => Sys2Proof.Machine.execRecoveryMet bulk heldMs present s
  | .powerLossDeclared bulk mv => Sys2Proof.Machine.execPowerLossDeclared bulk mv s
  | .declaredDomainShutoff => Sys2Proof.Machine.execDeclaredDomainShutoff s
  | .flushDone ini => Sys2Proof.Machine.execFlushDone ini s
  | .brownoutReset bulk mv us => Sys2Proof.Machine.execBrownoutReset bulk mv us s
  | .llcFault bulk mv us => Sys2Proof.Machine.execLlcFault bulk mv us s
  | .watchdogReset silentMs bootMs => Sys2Proof.Machine.execWatchdogReset silentMs bootMs s
  | .nvmSubsystemReset bootMs => Sys2Proof.Machine.execNvmSubsystemReset bootMs s
  | .graveFaultPowerCycle => Sys2Proof.Machine.execGraveFaultPowerCycle s
  | .switchedDomainsRestart facts => Sys2Proof.Machine.execSwitchedDomainsRestart facts s
  | .chopperGateClose mv => Sys2Proof.Machine.execChopperGateClose mv s
  | .chopperGateOpen mv => Sys2Proof.Machine.execChopperGateOpen mv s
  | .chopFaultDetected mv ma us rising => Sys2Proof.Machine.execChopFaultDetected mv ma us rising s
  | .chopTest ini passes => Sys2Proof.Machine.execChopTest ini passes s
  | .pdCtrlWrite ini v => Sys2Proof.Machine.execPdCtrlWrite ini v s
  | .pdSwitchComplete n => Sys2Proof.Machine.execPdSwitchComplete n s
  | .envelopeOpen core => Sys2Proof.Machine.execEnvelopeOpen core s
  | .stagedCopyWrite ini a size v => Sys2Proof.Machine.execStagedCopyWrite ini a size v s
  | .envelopeSeal core => Sys2Proof.Machine.execEnvelopeSeal core s
  | .sealCheckDone => Sys2Proof.Machine.execSealCheckDone s
  | .envelopePost core nsToNext => Sys2Proof.Machine.execEnvelopePost core nsToNext s
  | .envelopeAbort core => Sys2Proof.Machine.execEnvelopeAbort core s
  | .deviceRecordRewrite steps => Sys2Proof.Machine.execDeviceRecordRewrite steps s
  | .tickBoundary f => Sys2Proof.Machine.execTickBoundary f s
  | .mailboxPost core loop words => Sys2Proof.Machine.execMailboxPost core loop words s
  | .mailboxDeliver loop afterNs => Sys2Proof.Machine.execMailboxDeliver loop afterNs s
  | .writeHoldRelease => Sys2Proof.Machine.execWriteHoldRelease s
  | .forceFreeWrite ini v => Sys2Proof.Machine.execForceFreeWrite ini v s
  | .tckClrPeak ini => Sys2Proof.Machine.execTckClrPeak ini s
  | .flyingLimitCrossed rising => Sys2Proof.Machine.execFlyingLimitCrossed rising s
  | .parkSwitchClose headB => Sys2Proof.Machine.execParkSwitchClose headB s
  | .rampFaultTimeout headB => Sys2Proof.Machine.execRampFaultTimeout headB s
  | .pmkStreamValid stream amp a b => Sys2Proof.Machine.execPmkStreamValid stream amp a b s
  | .pmkStreamDrop stream c => Sys2Proof.Machine.execPmkStreamDrop stream c s
  | .pmkAcqTimeout => Sys2Proof.Machine.execPmkAcqTimeout s
  | .positionErrorDelivery x mark index track parity n q => Sys2Proof.Machine.execPositionErrorDelivery x mark index track parity n q s
  | .pesTimeout x => Sys2Proof.Machine.execPesTimeout x s
  | .segmentForcedEnd => Sys2Proof.Machine.execSegmentForcedEnd s
  | .sliceOverrun => Sys2Proof.Machine.execSliceOverrun s
  | .next fetch dm => Sys2Proof.Machine.execNext fetch dm s
  | .br fetch dm => Sys2Proof.Machine.execBr fetch dm s
  | .brn fetch dm => Sys2Proof.Machine.execBrn fetch dm s
  | .call fetch dm => Sys2Proof.Machine.execCall fetch dm s
  | .ret fetch dm => Sys2Proof.Machine.execRet fetch dm s
  | .loop fetch dm => Sys2Proof.Machine.execLoop fetch dm s
  | .ldlc fetch dm => Sys2Proof.Machine.execLdlc fetch dm s
  | .dispatch fetch dm => Sys2Proof.Machine.execDispatch fetch dm s
  | .done fetch dm => Sys2Proof.Machine.execDone fetch dm s
  | .trap fetch dm => Sys2Proof.Machine.execTrap fetch dm s
  | .mov fetch dm => Sys2Proof.Machine.execMov fetch dm s
  | .add fetch dm => Sys2Proof.Machine.execAdd fetch dm s
  | .sub fetch dm => Sys2Proof.Machine.execSub fetch dm s
  | .sadd fetch dm => Sys2Proof.Machine.execSadd fetch dm s
  | .ssub fetch dm => Sys2Proof.Machine.execSsub fetch dm s
  | .and fetch dm => Sys2Proof.Machine.execAnd fetch dm s
  | .or fetch dm => Sys2Proof.Machine.execOr fetch dm s
  | .xor fetch dm => Sys2Proof.Machine.execXor fetch dm s
  | .asr fetch dm => Sys2Proof.Machine.execAsr fetch dm s
  | .lsl fetch dm => Sys2Proof.Machine.execLsl fetch dm s
  | .min fetch dm => Sys2Proof.Machine.execMin fetch dm s
  | .max fetch dm => Sys2Proof.Machine.execMax fetch dm s
  | .abs fetch dm => Sys2Proof.Machine.execAbs fetch dm s
  | .neg fetch dm => Sys2Proof.Machine.execNeg fetch dm s
  | .cmp fetch dm => Sys2Proof.Machine.execCmp fetch dm s
  | .sge fetch dm => Sys2Proof.Machine.execSge fetch dm s
  | .sin fetch dm => Sys2Proof.Machine.execSin fetch dm s
  | .cos fetch dm => Sys2Proof.Machine.execCos fetch dm s
  | .mul fetch dm => Sys2Proof.Machine.execMul fetch dm s
  | .mac fetch dm => Sys2Proof.Machine.execMac fetch dm s
  | .msu fetch dm => Sys2Proof.Machine.execMsu fetch dm s
  | .clr fetch dm => Sys2Proof.Machine.execClr fetch dm s
  | .memoryRead fetch dm => Sys2Proof.Machine.execMemoryRead fetch dm s
  | .memoryWrite fetch dm => Sys2Proof.Machine.execMemoryWrite fetch dm s
  | .portRead fetch dm => Sys2Proof.Machine.execPortRead fetch dm s
  | .portWrite fetch dm => Sys2Proof.Machine.execPortWrite fetch dm s
  | .capture fetch dm => Sys2Proof.Machine.execCapture fetch dm s
  | .creLoad ini => Sys2Proof.Machine.execCreLoad ini s
  | .creLoadDone => Sys2Proof.Machine.execCreLoadDone s
  | .creRun ini => Sys2Proof.Machine.execCreRun ini s
  | .creStop ini => Sys2Proof.Machine.execCreStop ini s
  | .creClrPeaks ini => Sys2Proof.Machine.execCreClrPeaks ini s
  | .creDmDataAccess ini write => Sys2Proof.Machine.execCreDmDataAccess ini write s
  | .creCapDataRead ini => Sys2Proof.Machine.execCreCapDataRead ini s
  | .injectionEnd n => Sys2Proof.Machine.execInjectionEnd n s
  | .captureEnd n => Sys2Proof.Machine.execCaptureEnd n s
  | .laneQtailWrite ini x tail => Sys2Proof.Machine.execLaneQtailWrite ini x tail s
  | .laneRead x => Sys2Proof.Machine.execLaneRead x s
  | .laneWrite x => Sys2Proof.Machine.execLaneWrite x s
  | .laneReadSamples x => Sys2Proof.Machine.execLaneReadSamples x s
  | .laneSkewMeasure x => Sys2Proof.Machine.execLaneSkewMeasure x s
  | .sectorStart x sector dataReady dataError sig => Sys2Proof.Machine.execSectorStart x sector dataReady dataError sig s
  | .heaterLeadElapsed x us => Sys2Proof.Machine.execHeaterLeadElapsed x us s
  | .writeInhibitReceived x lastFourT => Sys2Proof.Machine.execWriteInhibitReceived x lastFourT s
  | .firstPassDone x sector half busErr => Sys2Proof.Machine.execFirstPassDone x sector half busErr s
  | .recoveryStoreCopyDone x sector cmd lpn sect => Sys2Proof.Machine.execRecoveryStoreCopyDone x sector cmd lpn sect s
  | .decoderFrameStart half => Sys2Proof.Machine.execDecoderFrameStart half s
  | .receiptDecided x sector half => Sys2Proof.Machine.execReceiptDecided x sector half s
  | .sectorRewrite x k => Sys2Proof.Machine.execSectorRewrite x k s
  | .laneOperationComplete x k => Sys2Proof.Machine.execLaneOperationComplete x k s
  | .laneAbort ini x => Sys2Proof.Machine.execLaneAbort ini x s
  | .headEnClear ini x mask => Sys2Proof.Machine.execHeadEnClear ini x mask s
  | .zoneEntryValidate ini x k v => Sys2Proof.Machine.execZoneEntryValidate ini x k v s
  | .zoneEntryCheckDone x k => Sys2Proof.Machine.execZoneEntryCheckDone x k s
  | .zoneEntryInvalidate ini x k w v => Sys2Proof.Machine.execZoneEntryInvalidate ini x k w v s
  | .decoderHalfLoss half => Sys2Proof.Machine.execDecoderHalfLoss half s
  | .decoderHalfEnable ini half => Sys2Proof.Machine.execDecoderHalfEnable ini half s
  | .decoderHalfDisable ini half => Sys2Proof.Machine.execDecoderHalfDisable ini half s
  | .recoveryJobPost ini tail => Sys2Proof.Machine.execRecoveryJobPost ini tail s
  | .decodeSampleArea half => Sys2Proof.Machine.execDecodeSampleArea half s
  | .decodeRunningSum half => Sys2Proof.Machine.execDecodeRunningSum half s
  | .cancelJob => Sys2Proof.Machine.execCancelJob s
  | .heldSampleRungsDone place half => Sys2Proof.Machine.execHeldSampleRungsDone place half s
  | .earlyReconstructionStart place => Sys2Proof.Machine.execEarlyReconstructionStart place s
  | .ladderTimeLimit place => Sys2Proof.Machine.execLadderTimeLimit place s
  | .reallocation => Sys2Proof.Machine.execReallocation s
  | .seek x => Sys2Proof.Machine.execSeek x s
  | .pairWaitExpiry x => Sys2Proof.Machine.execPairWaitExpiry x s
  | .seekDone x => Sys2Proof.Machine.execSeekDone x s
  | .seekSettleTimeout x sinceArrival => Sys2Proof.Machine.execSeekSettleTimeout x sinceArrival s
  | .head x => Sys2Proof.Machine.execHead x s
  | .headSwitchDone x => Sys2Proof.Machine.execHeadSwitchDone x s
  | .headSwitchTimeout x => Sys2Proof.Machine.execHeadSwitchTimeout x s
  | .offset x => Sys2Proof.Machine.execOffset x s
  | .offsetDone x => Sys2Proof.Machine.execOffsetDone x s
  | .load x rCoil => Sys2Proof.Machine.execLoad x rCoil s
  | .loadLanded x => Sys2Proof.Machine.execLoadLanded x s
  | .loadTimeout x => Sys2Proof.Machine.execLoadTimeout x s
  | .unload x => Sys2Proof.Machine.execUnload x s
  | .unloadLatched x => Sys2Proof.Machine.execUnloadLatched x s
  | .retire x => Sys2Proof.Machine.execRetire x s
  | .coef x => Sys2Proof.Machine.execCoef x s
  | .emergencyUnload trigger x => Sys2Proof.Machine.execEmergencyUnload trigger x s
  | .servoWedgeLoss x => Sys2Proof.Machine.execServoWedgeLoss x s
  | .emUnloadLatched x => Sys2Proof.Machine.execEmUnloadLatched x s
  | .hardwareRetract x busMv coilMa coilUs => Sys2Proof.Machine.execHardwareRetract x busMv coilMa coilUs s
  | .retract ini x => Sys2Proof.Machine.execRetract ini x s
  | .retractWatchdog x => Sys2Proof.Machine.execRetractWatchdog x s
  | .retractEnd x => Sys2Proof.Machine.execRetractEnd x s
  | .shockDetected x level => Sys2Proof.Machine.execShockDetected x level s
  | .shockInhibitEnd x => Sys2Proof.Machine.execShockInhibitEnd x s
  | .preampFault x status => Sys2Proof.Machine.execPreampFault x status s
  | .preampFaultPersists x us => Sys2Proof.Machine.execPreampFaultPersists x us s
  | .aspFrameSend ini x rd addr data returned => Sys2Proof.Machine.execAspFrameSend ini x rd addr data returned s
  | .microactuatorSaturation x => Sys2Proof.Machine.execMicroactuatorSaturation x s
  | .start => Sys2Proof.Machine.execStart s
  | .stop => Sys2Proof.Machine.execStop s
  | .hold => Sys2Proof.Machine.execHold s
  | .sensePeriodEnd => Sys2Proof.Machine.execSensePeriodEnd s
  | .alignStepEnd => Sys2Proof.Machine.execAlignStepEnd s
  | .catchResult => Sys2Proof.Machine.execCatchResult s
  | .observerHandover => Sys2Proof.Machine.execObserverHandover s
  | .startFailure => Sys2Proof.Machine.execStartFailure s
  | .startRetry => Sys2Proof.Machine.execStartRetry s
  | .atSpeedReached => Sys2Proof.Machine.execAtSpeedReached s
  | .postmarkAngleHandover => Sys2Proof.Machine.execPostmarkAngleHandover s
  | .postmarkGlideEnd => Sys2Proof.Machine.execPostmarkGlideEnd s
  | .observerLost => Sys2Proof.Machine.execObserverLost s
  | .spindleDutyWatchdog => Sys2Proof.Machine.execSpindleDutyWatchdog s
  | .fluxBrakeEnter busMv => Sys2Proof.Machine.execFluxBrakeEnter busMv s
  | .fluxBrakeLeave busMv => Sys2Proof.Machine.execFluxBrakeLeave busMv s
  | .inverterDisable busMv => Sys2Proof.Machine.execInverterDisable busMv s
  | .inverterReenable busMv us => Sys2Proof.Machine.execInverterReenable busMv us s
  | .legFault leg => Sys2Proof.Machine.execLegFault leg s
  | .spareLegReady => Sys2Proof.Machine.execSpareLegReady s
  | .spindleStopped => Sys2Proof.Machine.execSpindleStopped s
  | .kerrexCycleStart => Sys2Proof.Machine.execKerrexCycleStart s
  | .beaconReceived f => Sys2Proof.Machine.execBeaconReceived f s
  | .statusSlot => Sys2Proof.Machine.execStatusSlot s
  | .statusReceived f inSlot => Sys2Proof.Machine.execStatusReceived f inSlot s
  | .claimReceived f => Sys2Proof.Machine.execClaimReceived f s
  | .electionBackoffExpiry => Sys2Proof.Machine.execElectionBackoffExpiry s
  | .claimConfirm => Sys2Proof.Machine.execClaimConfirm s
  | .transmitMismatch type => Sys2Proof.Machine.execTransmitMismatch type s
  | .censusEnd => Sys2Proof.Machine.execCensusEnd s
  | .unheardSlotTimeout => Sys2Proof.Machine.execUnheardSlotTimeout s
  | .crcAbdication => Sys2Proof.Machine.execCrcAbdication s
  | .eligibilityRestore => Sys2Proof.Machine.execEligibilityRestore s
  | .lapse => Sys2Proof.Machine.execLapse s
  | .frkTargetWrite ini v => Sys2Proof.Machine.execFrkTargetWrite ini v s
  | .holdEnter ini => Sys2Proof.Machine.execHoldEnter ini s
  | .wakeSend ini all slot => Sys2Proof.Machine.execWakeSend ini all slot s
  | .presentNRelease => Sys2Proof.Machine.execPresentNRelease s
  | .presentNAssert straps => Sys2Proof.Machine.execPresentNAssert straps s
  | .sofJobPost ini tail => Sys2Proof.Machine.execSofJobPost ini tail s
  | .lookup => Sys2Proof.Machine.execLookup s
  | .switch => Sys2Proof.Machine.execSwitch s
  | .validScan => Sys2Proof.Machine.execValidScan s
  | .directPlacement nsid lpn => Sys2Proof.Machine.execDirectPlacement nsid lpn s
  | .firstClassPlacement serial => Sys2Proof.Machine.execFirstClassPlacement serial s
  | .commitUnitSwitch k receiptsGood parityGood reads failedBand => Sys2Proof.Machine.execCommitUnitSwitch k receiptsGood parityGood reads failedBand s
  | .folding => Sys2Proof.Machine.execFolding s
  | .reSorting member => Sys2Proof.Machine.execReSorting member s
  | .idleTimeout => Sys2Proof.Machine.execIdleTimeout s
  | .bundlePlaceTimeout k => Sys2Proof.Machine.execBundlePlaceTimeout k s
  | .repack k => Sys2Proof.Machine.execRepack k s
  | .zoneFinishRecommended nsid k => Sys2Proof.Machine.execZoneFinishRecommended nsid k s
  | .zoneFinishByController nsid k => Sys2Proof.Machine.execZoneFinishByController nsid k s
  | .mapCheckpoint => Sys2Proof.Machine.execMapCheckpoint s
  | .segmentLoad k => Sys2Proof.Machine.execSegmentLoad k s
  | .mapRebuild tags => Sys2Proof.Machine.execMapRebuild tags s
  | .refreshTrigger w place allGood => Sys2Proof.Machine.execRefreshTrigger w place allGood s
  | .locationRelease k readsEnded => Sys2Proof.Machine.execLocationRelease k readsEnded s
  | .cnsJobPost ini tail => Sys2Proof.Machine.execCnsJobPost ini tail s
  | .encrypt errs => Sys2Proof.Machine.execEncrypt errs s
  | .decrypt errs => Sys2Proof.Machine.execDecrypt errs s
  | .encode errs => Sys2Proof.Machine.execEncode errs s
  | .decode errs => Sys2Proof.Machine.execDecode errs s
  | .check errs => Sys2Proof.Machine.execCheck errs s
  | .loadWrappedKey ini slot => Sys2Proof.Machine.execLoadWrappedKey ini slot s
  | .generateKey ini slot => Sys2Proof.Machine.execGenerateKey ini slot s
  | .clearKeySlot ini slot => Sys2Proof.Machine.execClearKeySlot ini slot s
  | .clearAllKeySlots ini => Sys2Proof.Machine.execClearAllKeySlots ini s
  | .kekLoad ini v => Sys2Proof.Machine.execKekLoad ini v s
  | .headRetirement surface trigger => Sys2Proof.Machine.execHeadRetirement surface trigger s
  | .rebuildUnitCommit receiptsGood => Sys2Proof.Machine.execRebuildUnitCommit receiptsGood s
  | .parityScrub g bad => Sys2Proof.Machine.execParityScrub g bad s
  | .icreq conn pfv hdgst ddgst maxR2t => Sys2Proof.Machine.execIcreq conn pfv hdgst ddgst maxR2t s
  | .h2cTermReq conn => Sys2Proof.Machine.execH2cTermReq conn s
  | .capsuleCmd conn cap hdr => Sys2Proof.Machine.execCapsuleCmd conn cap hdr s
  | .capsuleTake conn wait us => Sys2Proof.Machine.execCapsuleTake conn wait us s
  | .h2cData serial offset data hdr good => Sys2Proof.Machine.execH2cData serial offset data hdr good s
  | .tcpSyn p v6 addr port window => Sys2Proof.Machine.execTcpSyn p v6 addr port window s
  | .tcpFin conn => Sys2Proof.Machine.execTcpFin conn s
  | .tcpRst conn => Sys2Proof.Machine.execTcpRst conn s
  | .tcpAck conn bytes window => Sys2Proof.Machine.execTcpAck conn bytes window s
  | .tcpOutOfOrder conn => Sys2Proof.Machine.execTcpOutOfOrder conn s
  | .retransmissionTimer conn => Sys2Proof.Machine.execRetransmissionTimer conn s
  | .delayedAckTimer conn => Sys2Proof.Machine.execDelayedAckTimer conn s
  | .arp p target => Sys2Proof.Machine.execArp p target s
  | .icmpv4 p f => Sys2Proof.Machine.execIcmpv4 p f s
  | .icmpv6 p f => Sys2Proof.Machine.execIcmpv6 p f s
  | .ndp p f => Sys2Proof.Machine.execNdp p f s
  | .dhcpv4 p f => Sys2Proof.Machine.execDhcpv4 p f s
  | .dhcpv6 p f => Sys2Proof.Machine.execDhcpv6 p f s
  | .responseReady serial => Sys2Proof.Machine.execResponseReady serial s
  | .bagsReservedForTransfer serial pick => Sys2Proof.Machine.execBagsReservedForTransfer serial pick s
  | .readDataReady serial => Sys2Proof.Machine.execReadDataReady serial s
  | .asynchronousEvent type info => Sys2Proof.Machine.execAsynchronousEvent type info s
  | .associationEnd a => Sys2Proof.Machine.execAssociationEnd a s
  | .keepAliveTimer a => Sys2Proof.Machine.execKeepAliveTimer a s
  | .corePostedEvent ini arg conn key => Sys2Proof.Machine.execCorePostedEvent ini arg conn key s
  | .lockGrant serial => Sys2Proof.Machine.execLockGrant serial s
  | .portLinkReset p => Sys2Proof.Machine.execPortLinkReset p s
  | .ethRestart ini p => Sys2Proof.Machine.execEthRestart ini p s
  | .preEnd hdr data => Sys2Proof.Machine.execPreEnd hdr data s
  | .crc32c hdr data => Sys2Proof.Machine.execCrc32c hdr data s
  | .payloadToBags hdr data => Sys2Proof.Machine.execPayloadToBags hdr data s
  | .bagsToTransmitQueue hdr data => Sys2Proof.Machine.execBagsToTransmitQueue hdr data s
  | .buildAndSendPdu hdr data => Sys2Proof.Machine.execBuildAndSendPdu hdr data s
  | .postInTrayEntry hdr data => Sys2Proof.Machine.execPostInTrayEntry hdr data s
  | .postCoreMessage hdr data => Sys2Proof.Machine.execPostCoreMessage hdr data s
  | .releaseBags hdr data => Sys2Proof.Machine.execReleaseBags hdr data s
  | .preLoad ini => Sys2Proof.Machine.execPreLoad ini s
  | .preLoadDone => Sys2Proof.Machine.execPreLoadDone s
  | .preRun ini v => Sys2Proof.Machine.execPreRun ini v s
  | .preClrPeak ini => Sys2Proof.Machine.execPreClrPeak ini s
  | .getLogPage serial => Sys2Proof.Machine.execGetLogPage serial s
  | .identify serial => Sys2Proof.Machine.execIdentify serial s
  | .abort serial => Sys2Proof.Machine.execAbort serial s
  | .setFeatures serial => Sys2Proof.Machine.execSetFeatures serial s
  | .getFeatures serial => Sys2Proof.Machine.execGetFeatures serial s
  | .asynchronousEventRequest serial => Sys2Proof.Machine.execAsynchronousEventRequest serial s
  | .namespaceCreate serial => Sys2Proof.Machine.execNamespaceCreate serial s
  | .namespaceDelete serial => Sys2Proof.Machine.execNamespaceDelete serial s
  | .firmwareCommit serial image => Sys2Proof.Machine.execFirmwareCommit serial image s
  | .firmwareImageDownload serial => Sys2Proof.Machine.execFirmwareImageDownload serial s
  | .keepAlive serial => Sys2Proof.Machine.execKeepAlive serial s
  | .formatNvm serial => Sys2Proof.Machine.execFormatNvm serial s
  | .sanitize serial upTo => Sys2Proof.Machine.execSanitize serial upTo s
  | .propertySet serial => Sys2Proof.Machine.execPropertySet serial s
  | .propertyGet serial => Sys2Proof.Machine.execPropertyGet serial s
  | .connect serial => Sys2Proof.Machine.execConnect serial s
  | .disconnect serial => Sys2Proof.Machine.execDisconnect serial s
  | .headServiceReport serial => Sys2Proof.Machine.execHeadServiceReport serial s
  | .headServiceRetire serial => Sys2Proof.Machine.execHeadServiceRetire serial s
  | .headServiceReinstate serial => Sys2Proof.Machine.execHeadServiceReinstate serial s
  | .shelfServiceEnter serial => Sys2Proof.Machine.execShelfServiceEnter serial s
  | .shelfHoldDeparture => Sys2Proof.Machine.execShelfHoldDeparture s
  | .shelfServiceWake serial => Sys2Proof.Machine.execShelfServiceWake serial s
  | .driveFormat serial => Sys2Proof.Machine.execDriveFormat serial s
  | .flush serial => Sys2Proof.Machine.execFlush serial s
  | .write serial => Sys2Proof.Machine.execWrite serial s
  | .read serial media => Sys2Proof.Machine.execRead serial media s
  | .writeZeroes serial => Sys2Proof.Machine.execWriteZeroes serial s
  | .datasetManagement serial => Sys2Proof.Machine.execDatasetManagement serial s
  | .verify serial media => Sys2Proof.Machine.execVerify serial media s
  | .reservationRegister serial => Sys2Proof.Machine.execReservationRegister serial s
  | .reservationReport serial => Sys2Proof.Machine.execReservationReport serial s
  | .reservationAcquire serial => Sys2Proof.Machine.execReservationAcquire serial s
  | .reservationRelease serial => Sys2Proof.Machine.execReservationRelease serial s
  | .zoneOpen serial => Sys2Proof.Machine.execZoneOpen serial s
  | .zoneClose serial => Sys2Proof.Machine.execZoneClose serial s
  | .zoneFinish serial => Sys2Proof.Machine.execZoneFinish serial s
  | .zoneReset serial => Sys2Proof.Machine.execZoneReset serial s
  | .zoneManagementReceive serial => Sys2Proof.Machine.execZoneManagementReceive serial s
  | .zoneAppend serial => Sys2Proof.Machine.execZoneAppend serial s
  | .store serial => Sys2Proof.Machine.execStore serial s
  | .retrieve serial at_ => Sys2Proof.Machine.execRetrieve serial at_ s
  | .list serial => Sys2Proof.Machine.execList serial s
  | .delete serial => Sys2Proof.Machine.execDelete serial s
  | .exist serial => Sys2Proof.Machine.execExist serial s
  | .readNvmeMiDataStructure kind id => Sys2Proof.Machine.execReadNvmeMiDataStructure kind id s
  | .nvmSubsystemHealthStatusPoll => Sys2Proof.Machine.execNvmSubsystemHealthStatusPoll s
  | .controllerHealthStatusPoll => Sys2Proof.Machine.execControllerHealthStatusPoll s
  | .configurationGet => Sys2Proof.Machine.execConfigurationGet s
  | .configurationSet code => Sys2Proof.Machine.execConfigurationSet code s
  | .vpdRead off n => Sys2Proof.Machine.execVpdRead off n s
  | .bpmAlloc ini n pick => Sys2Proof.Machine.execBpmAlloc ini n pick s
  | .bpmRelease ini h => Sys2Proof.Machine.execBpmRelease ini h s
  | .bpmShare ini h => Sys2Proof.Machine.execBpmShare ini h s
  | .phcFlush ini => Sys2Proof.Machine.execPhcFlush ini s
  | .phcWindowWrite ini n lim v => Sys2Proof.Machine.execPhcWindowWrite ini n lim v s
  | .dmaTailWrite ini c tail => Sys2Proof.Machine.execDmaTailWrite ini c tail s
  | .copy c errs fab => Sys2Proof.Machine.execCopy c errs fab s
  | .fill c fab => Sys2Proof.Machine.execFill c fab s
  | .copyAndWriteCrc c errs fab => Sys2Proof.Machine.execCopyAndWriteCrc c errs fab s
  | .copyAndCheckCrc c errs fab => Sys2Proof.Machine.execCopyAndCheckCrc c errs fab s
  | .dmaResume ini c => Sys2Proof.Machine.execDmaResume ini c s
  | .dmaStop ini c moved => Sys2Proof.Machine.execDmaStop ini c moved s
  | .dramScrubRead errs => Sys2Proof.Machine.execDramScrubRead errs s
  | .slipTableSave => Sys2Proof.Machine.execSlipTableSave s
  | .nandQtailWrite ini tail => Sys2Proof.Machine.execNandQtailWrite ini tail s
  | .nandRead k shifted maxBits busErr => Sys2Proof.Machine.execNandRead k shifted maxBits busErr s
  | .nandProgram k die fails busErr => Sys2Proof.Machine.execNandProgram k die fails busErr s
  | .nandErase k die fails busErr => Sys2Proof.Machine.execNandErase k die fails busErr s
  | .sensorBroken n => Sys2Proof.Machine.execSensorBroken n s
  | .tripDiodeBroken n => Sys2Proof.Machine.execTripDiodeBroken n s
  | .throttleStep => Sys2Proof.Machine.execThrottleStep s
  | .thermalShutdown => Sys2Proof.Machine.execThermalShutdown s
  | .hardwareTrip n temp => Sys2Proof.Machine.execHardwareTrip n temp s
  | .thermalRestart facts => Sys2Proof.Machine.execThermalRestart facts s
  | .thmClrMinmax ini => Sys2Proof.Machine.execThmClrMinmax ini s
  | .coreFault n => Sys2Proof.Machine.execCoreFault n s
  | .fltDone ini up p => Sys2Proof.Machine.execFltDone ini up p s
  | .faultHandlerTimeout => Sys2Proof.Machine.execFaultHandlerTimeout s
  | .fltCapDataRead ini => Sys2Proof.Machine.execFltCapDataRead ini s
  | .faultInjectionArm ini target bits sticky => Sys2Proof.Machine.execFaultInjectionArm ini target bits sticky s
  | .faultInjectionDisarm ini => Sys2Proof.Machine.execFaultInjectionDisarm ini s
  | .ldgCommit core => Sys2Proof.Machine.execLdgCommit core s
  | .ledgerFreeze ini => Sys2Proof.Machine.execLedgerFreeze ini s
  | .ledgerUnfreeze ini => Sys2Proof.Machine.execLedgerUnfreeze ini s
  | .ldgStageDataRead ini => Sys2Proof.Machine.execLdgStageDataRead ini s
  | .ldgValueWrite ini k v => Sys2Proof.Machine.execLdgValueWrite ini k v s
  | .preampFaultClear x => Sys2Proof.Machine.execPreampFaultClear x s
  | .shortBrakeQuiet => Sys2Proof.Machine.execShortBrakeQuiet s
  | .catchCoastEnd => Sys2Proof.Machine.execCatchCoastEnd s
  | .llcIdle mv => Sys2Proof.Machine.execLlcIdle mv s
  | .kerrexFrameDiscard f inSlot explained => Sys2Proof.Machine.execKerrexFrameDiscard f inSlot explained s
  | .frameDropped p why => Sys2Proof.Machine.execFrameDropped p why s
  | .invalidPduType conn key => Sys2Proof.Machine.execInvalidPduType conn key s
  | .thermalShutdownDeferEnd => Sys2Proof.Machine.execThermalShutdownDeferEnd s

end Sys2Proof.Machine
end

