-- ==== Sys2Proof/Machine/Step.lean ====
section
/-!
DEFINITION. The step: the command at the front of the queue runs, and the device idles on an empty queue.
-/
namespace Sys2Proof.Machine

/-- The state with the rest of the queue left waiting. -/
def State.withQueue (s : State) (l : List Instr) : State := { s with pending := l }

/-- One step: the command at the front of the queue has its effect, with the rest of the queue left waiting. On an empty queue the
device idles (log 1): ticks and timers are commands of the table. -/
def step (s : State) : Host.Outcome State Fault Refusal :=
  match s.pending with
  | [] => .next s
  | c :: rest => exec c (s.withQueue rest)

/-- The state with the command that a word spells put at the front of the queue; no row of the table gives bits, so that a word spells
none (log 2). -/
def State.withFetchWord (s : State) (nbits w : Nat) : State :=
  match Sys2Proof.decodeTableWord nbits w with
  | some c => s.withQueue (c :: s.pending)
  | none => s

end Sys2Proof.Machine
end

