-- ==== Sys2Proof/WellFormed.lean ====
section
/-!
DEFINITION. Well-formed commands: every operand that names a numbered thing of the device names one that exists, and
every operand that a word or a field carries fits it. A command that is not well formed is none that the device can be
given; the machine still answers it, and says nothing about the device where it does.
-/
namespace Sys2Proof

/-- The operands of a command are within the ranges the spec gives them. -/
def wellFormed (i : Instr) : Bool :=
  match i with
  | .registerWrite _ a size _ => decide (a < 2 ^ 32) && decide (size ≤ 8)
  | .tckCountLoRead _ => true
  | .mainsApplied _ _ _ => true
  | .acDcModeChoice _ _ => true
  | .llcStart _ _ => true
  | .driveBusValid _ _ => true
  | .linkUp _ speed fec => decide (1 ≤ speed ∧ speed ≤ 2) && decide (fec ≤ 2)
  | .addressBound _ _ addr => decide (addr < 2 ^ 128)
  | .mainsLostWarning _ _ => true
  | .recoveryMet _ _ _ => true
  | .powerLossDeclared _ _ => true
  | .declaredDomainShutoff => true
  | .flushDone _ => true
  | .brownoutReset _ _ _ => true
  | .llcFault _ _ _ => true
  | .watchdogReset _ _ => true
  | .nvmSubsystemReset _ => true
  | .graveFaultPowerCycle => true
  | .switchedDomainsRestart _ => true
  | .chopperGateClose _ => true
  | .chopperGateOpen _ => true
  | .chopFaultDetected _ _ _ _ => true
  | .chopTest _ _ => true
  | .pdCtrlWrite _ v => decide (v < 2 ^ 32)
  | .pdSwitchComplete n => decide (n < 30)
  | .envelopeOpen core => decide (core < 5)
  | .stagedCopyWrite _ a size v => decide (a < 2 ^ 32) && decide (size ≤ 8) && decide (v < 2 ^ 32)
  | .envelopeSeal core => decide (core < 5)
  | .sealCheckDone => true
  | .envelopePost core _ => decide (core < 5)
  | .envelopeAbort core => decide (core < 5)
  | .deviceRecordRewrite steps => decide (steps ≤ 3)
  | .tickBoundary _ => true
  | .mailboxPost core loop words => decide (core < 5) && decide (loop < 5) && decide (words.length ≤ 16)
  | .mailboxDeliver loop _ => decide (loop < 5)
  | .writeHoldRelease => true
  | .forceFreeWrite _ _ => true
  | .tckClrPeak _ => true
  | .flyingLimitCrossed _ => true
  | .parkSwitchClose _ => true
  | .rampFaultTimeout _ => true
  | .pmkStreamValid stream _ _ _ => decide (stream < 4)
  | .pmkStreamDrop stream _ => decide (stream < 4)
  | .pmkAcqTimeout => true
  | .positionErrorDelivery _ mark index track parity _ _ => decide (mark < 2 ^ 16) && decide (index < 2 ^ 10) && decide (track < 2 ^ 24) && decide (parity < 16)
  | .pesTimeout _ => true
  | .segmentForcedEnd => true
  | .sliceOverrun => true
  | .next _ _ => true
  | .br _ _ => true
  | .brn _ _ => true
  | .call _ _ => true
  | .ret _ _ => true
  | .loop _ _ => true
  | .ldlc _ _ => true
  | .dispatch _ _ => true
  | .done _ _ => true
  | .trap _ _ => true
  | .mov _ _ => true
  | .add _ _ => true
  | .sub _ _ => true
  | .sadd _ _ => true
  | .ssub _ _ => true
  | .and _ _ => true
  | .or _ _ => true
  | .xor _ _ => true
  | .asr _ _ => true
  | .lsl _ _ => true
  | .min _ _ => true
  | .max _ _ => true
  | .abs _ _ => true
  | .neg _ _ => true
  | .cmp _ _ => true
  | .sge _ _ => true
  | .sin _ _ => true
  | .cos _ _ => true
  | .mul _ _ => true
  | .mac _ _ => true
  | .msu _ _ => true
  | .clr _ _ => true
  | .memoryRead _ _ => true
  | .memoryWrite _ _ => true
  | .portRead _ _ => true
  | .portWrite _ _ => true
  | .capture _ _ => true
  | .creLoad _ => true
  | .creLoadDone => true
  | .creRun _ => true
  | .creStop _ => true
  | .creClrPeaks _ => true
  | .creDmDataAccess _ write => decide (write.getD 0 < 2 ^ 32)
  | .creCapDataRead _ => true
  | .injectionEnd n => decide (n < 4)
  | .captureEnd n => decide (n < 4)
  | .laneQtailWrite _ _ tail => decide (tail < 512)
  | .laneRead _ => true
  | .laneWrite _ => true
  | .laneReadSamples _ => true
  | .laneSkewMeasure _ => true
  | .sectorStart _ sector _ _ sig => decide (sector < 4096) && decide (sig.length ≤ 2)
  | .heaterLeadElapsed _ _ => true
  | .writeInhibitReceived _ _ => true
  | .firstPassDone _ sector half _ => decide (sector < 4096) && decide (half < 2)
  | .recoveryStoreCopyDone _ sector _ lpn sect => decide (sector < 4096) && decide (lpn < 2 ^ 48) && decide (sect < 64)
  | .decoderFrameStart half => decide (half < 2)
  | .receiptDecided _ sector half => decide (sector < 4096) && decide (half < 2)
  | .sectorRewrite _ _ => true
  | .laneOperationComplete _ _ => true
  | .laneAbort _ _ => true
  | .headEnClear _ _ mask => decide (mask < 256)
  | .zoneEntryValidate _ _ k v => decide (k < 512) && decide (v < 2 ^ 32)
  | .zoneEntryCheckDone _ k => decide (k < 512)
  | .zoneEntryInvalidate _ _ k w v => decide (k < 512) && decide (w < 8) && decide (v < 2 ^ 32)
  | .decoderHalfLoss half => decide (half < 2)
  | .decoderHalfEnable _ half => decide (half < 2)
  | .decoderHalfDisable _ half => decide (half < 2)
  | .recoveryJobPost _ tail => decide (tail < 512)
  | .decodeSampleArea half => decide (half < 2)
  | .decodeRunningSum half => decide (half < 2)
  | .cancelJob => true
  | .heldSampleRungsDone place half => decide (place < 256) && decide (half < 2)
  | .earlyReconstructionStart place => decide (place < 256)
  | .ladderTimeLimit place => decide (place < 256)
  | .reallocation => true
  | .seek _ => true
  | .pairWaitExpiry _ => true
  | .seekDone _ => true
  | .seekSettleTimeout _ _ => true
  | .head _ => true
  | .headSwitchDone _ => true
  | .headSwitchTimeout _ => true
  | .offset _ => true
  | .offsetDone _ => true
  | .load _ rCoil => decide (rCoil < 2 ^ 16)
  | .loadLanded _ => true
  | .loadTimeout _ => true
  | .unload _ => true
  | .unloadLatched _ => true
  | .retire _ => true
  | .coef _ => true
  | .emergencyUnload trigger _ => decide (1 ≤ trigger ∧ trigger ≤ 6)
  | .servoWedgeLoss _ => true
  | .emUnloadLatched _ => true
  | .hardwareRetract _ _ _ _ => true
  | .retract _ _ => true
  | .retractWatchdog _ => true
  | .retractEnd _ => true
  | .shockDetected _ _ => true
  | .shockInhibitEnd _ => true
  | .preampFault _ status => decide (status < 2 ^ 16)
  | .preampFaultPersists _ _ => true
  | .aspFrameSend _ _ _ addr data returned => decide (addr < 128) && decide (data < 2 ^ 16) && decide (returned < 2 ^ 16)
  | .microactuatorSaturation _ => true
  | .start => true
  | .stop => true
  | .hold => true
  | .sensePeriodEnd => true
  | .alignStepEnd => true
  | .catchResult => true
  | .observerHandover => true
  | .startFailure => true
  | .startRetry => true
  | .atSpeedReached => true
  | .postmarkAngleHandover => true
  | .postmarkGlideEnd => true
  | .observerLost => true
  | .spindleDutyWatchdog => true
  | .fluxBrakeEnter _ => true
  | .fluxBrakeLeave _ => true
  | .inverterDisable _ => true
  | .inverterReenable _ _ => true
  | .legFault leg => decide (leg < 4)
  | .spareLegReady => true
  | .spindleStopped => true
  | .kerrexCycleStart => true
  | .beaconReceived f => decide (f.length ≤ 300)
  | .statusSlot => true
  | .statusReceived f _ => decide (f.length ≤ 300)
  | .claimReceived f => decide (f.length ≤ 300)
  | .electionBackoffExpiry => true
  | .claimConfirm => true
  | .transmitMismatch type => decide (1 ≤ type ∧ type ≤ 3)
  | .censusEnd => true
  | .unheardSlotTimeout => true
  | .crcAbdication => true
  | .eligibilityRestore => true
  | .lapse => true
  | .frkTargetWrite _ v => decide (v < 256)
  | .holdEnter _ => true
  | .wakeSend _ _ slot => decide (slot < 64)
  | .presentNRelease => true
  | .presentNAssert straps => decide (straps < 64)
  | .sofJobPost _ tail => decide (tail < 512)
  | .lookup => true
  | .switch => true
  | .validScan => true
  | .directPlacement nsid lpn => decide (1 ≤ nsid ∧ nsid ≤ 64) && decide (lpn < 2 ^ 48)
  | .firstClassPlacement _ => true
  | .commitUnitSwitch _ _ _ _ _ => true
  | .folding => true
  | .reSorting member => decide (member < 28)
  | .idleTimeout => true
  | .bundlePlaceTimeout _ => true
  | .repack _ => true
  | .zoneFinishRecommended nsid _ => decide (1 ≤ nsid ∧ nsid ≤ 64)
  | .zoneFinishByController nsid _ => decide (1 ≤ nsid ∧ nsid ≤ 64)
  | .mapCheckpoint => true
  | .segmentLoad _ => true
  | .mapRebuild _ => true
  | .refreshTrigger _ _ _ => true
  | .locationRelease _ _ => true
  | .cnsJobPost _ tail => decide (tail < 512)
  | .encrypt _ => true
  | .decrypt _ => true
  | .encode _ => true
  | .decode _ => true
  | .check _ => true
  | .loadWrappedKey _ slot => decide (slot < 64)
  | .generateKey _ slot => decide (slot < 64)
  | .clearKeySlot _ slot => decide (slot < 64)
  | .clearAllKeySlots _ => true
  | .kekLoad _ v => decide (v < 2 ^ 32)
  | .headRetirement surface trigger => decide (surface < 32) && decide (1 ≤ trigger ∧ trigger ≤ 5)
  | .rebuildUnitCommit _ => true
  | .parityScrub _ _ => true
  | .icreq conn pfv _ _ maxR2t => decide (conn < 160) && decide (pfv < 65536) && decide (maxR2t < 2 ^ 32)
  | .h2cTermReq conn => decide (conn < 160)
  | .capsuleCmd conn _ _ => decide (conn ≤ 160)
  | .capsuleTake conn _ _ => decide (conn < 160)
  | .h2cData _ _ _ _ _ => true
  | .tcpSyn _ _ addr port _ => decide (addr < 2 ^ 128) && decide (port < 65536)
  | .tcpFin conn => decide (conn < 160)
  | .tcpRst conn => decide (conn < 160)
  | .tcpAck conn _ _ => decide (conn < 160)
  | .tcpOutOfOrder conn => decide (conn < 160)
  | .retransmissionTimer conn => decide (conn < 160)
  | .delayedAckTimer conn => decide (conn < 160)
  | .arp _ target => decide (target < 2 ^ 32)
  | .icmpv4 _ _ => true
  | .icmpv6 _ _ => true
  | .ndp _ _ => true
  | .dhcpv4 _ _ => true
  | .dhcpv6 _ _ => true
  | .responseReady _ => true
  | .bagsReservedForTransfer _ _ => true
  | .readDataReady _ => true
  | .asynchronousEvent type info => decide (type < 8) && decide (info < 256)
  | .associationEnd _ => true
  | .keepAliveTimer _ => true
  | .corePostedEvent _ arg conn key => decide (arg < 65536) && decide (conn < 256) && decide (key < 256)
  | .lockGrant _ => true
  | .portLinkReset _ => true
  | .ethRestart _ _ => true
  | .preEnd _ _ => true
  | .crc32c _ _ => true
  | .payloadToBags _ _ => true
  | .bagsToTransmitQueue _ _ => true
  | .buildAndSendPdu _ _ => true
  | .postInTrayEntry _ _ => true
  | .postCoreMessage _ _ => true
  | .releaseBags _ _ => true
  | .preLoad _ => true
  | .preLoadDone => true
  | .preRun _ _ => true
  | .preClrPeak _ => true
  | .getLogPage _ => true
  | .identify _ => true
  | .abort _ => true
  | .setFeatures _ => true
  | .getFeatures _ => true
  | .asynchronousEventRequest _ => true
  | .namespaceCreate _ => true
  | .namespaceDelete _ => true
  | .firmwareCommit _ _ => true
  | .firmwareImageDownload _ => true
  | .keepAlive _ => true
  | .formatNvm _ => true
  | .sanitize _ upTo => decide (upTo ≤ 6)
  | .propertySet _ => true
  | .propertyGet _ => true
  | .connect _ => true
  | .disconnect _ => true
  | .headServiceReport _ => true
  | .headServiceRetire _ => true
  | .headServiceReinstate _ => true
  | .shelfServiceEnter _ => true
  | .shelfHoldDeparture => true
  | .shelfServiceWake _ => true
  | .driveFormat _ => true
  | .flush _ => true
  | .write _ => true
  | .read _ _ => true
  | .writeZeroes _ => true
  | .datasetManagement _ => true
  | .verify _ _ => true
  | .reservationRegister _ => true
  | .reservationReport _ => true
  | .reservationAcquire _ => true
  | .reservationRelease _ => true
  | .zoneOpen _ => true
  | .zoneClose _ => true
  | .zoneFinish _ => true
  | .zoneReset _ => true
  | .zoneManagementReceive _ => true
  | .zoneAppend _ => true
  | .store _ => true
  | .retrieve _ _ => true
  | .list _ => true
  | .delete _ => true
  | .exist _ => true
  | .readNvmeMiDataStructure kind id => decide (kind < 256) && decide (id < 65536)
  | .nvmSubsystemHealthStatusPoll => true
  | .controllerHealthStatusPoll => true
  | .configurationGet => true
  | .configurationSet code => decide (code < 256)
  | .vpdRead off n => decide (off < 65536) && decide (n ≤ 65536)
  | .bpmAlloc _ n _ => decide (n < 4)
  | .bpmRelease _ h => decide (h < 2 ^ 32)
  | .bpmShare _ h => decide (h < 2 ^ 32)
  | .phcFlush _ => true
  | .phcWindowWrite _ n _ v => decide (n < 4) && decide (v < 2 ^ 32)
  | .dmaTailWrite _ c tail => decide (c < 64) && decide (tail < 512)
  | .copy c _ _ => decide (c < 64)
  | .fill c _ => decide (c < 64)
  | .copyAndWriteCrc c _ _ => decide (c < 64)
  | .copyAndCheckCrc c _ _ => decide (c < 64)
  | .dmaResume _ c => decide (c < 64)
  | .dmaStop _ c moved => decide (c < 64) && decide (moved ≤ 2 ^ 26)
  | .dramScrubRead _ => true
  | .slipTableSave => true
  | .nandQtailWrite _ tail => decide (tail < 512)
  | .nandRead k _ _ _ => decide (k < 512)
  | .nandProgram k die _ _ => decide (k < 512) && decide (die < 8)
  | .nandErase k die _ _ => decide (k < 512) && decide (die < 8)
  | .sensorBroken n => decide (n < 8)
  | .tripDiodeBroken n => decide (n < 2)
  | .throttleStep => true
  | .thermalShutdown => true
  | .hardwareTrip n _ => decide (n < 2)
  | .thermalRestart _ => true
  | .thmClrMinmax _ => true
  | .coreFault n => decide (n < 5)
  | .fltDone _ _ p => decide (p < 128)
  | .faultHandlerTimeout => true
  | .fltCapDataRead _ => true
  | .faultInjectionArm _ target bits _ => decide (target < 8) && decide (bits < 4)
  | .faultInjectionDisarm _ => true
  | .ldgCommit core => decide (core < 5)
  | .ledgerFreeze _ => true
  | .ledgerUnfreeze _ => true
  | .ldgStageDataRead _ => true
  | .ldgValueWrite _ k v => decide (k < 5) && decide (v < 2 ^ 32)
  | .preampFaultClear _ => true
  | .shortBrakeQuiet => true
  | .catchCoastEnd => true
  | .llcIdle _ => true
  | .kerrexFrameDiscard f _ _ => decide (f.length ≤ 300)
  | .frameDropped _ _ => true
  | .invalidPduType conn key => decide (conn < 160) && decide (key < 16)
  | .thermalShutdownDeferEnd => true

end Sys2Proof
end

