-- ==== Sys2Proof/Safety.lean ====
section
/-!
DEFINITION. What counts as safe: the forms of the state that every step keeps, and a run that stops at no fault and at no refusal.
-/
namespace Sys2Proof.Machine

/-- The canonical form of the DRAM: addresses strictly rising, no entry equal to what an unlisted byte reads as. -/
abbrev Memory.wf (m : List Host.Cell) : Prop := sWf m (0 : Byte)

/-- The canonical form of the strongroom, whose unlisted bytes read as erased (R424). -/
abbrev Nand.wf (m : List Host.Cell) : Prop := sWf m (0xFF : Byte)

/-- The forms of the four parts of the state that are lists in one canonical form: the registers by key, the DRAM, the strongroom, and the
queue, whose commands are well formed. -/
def Forms (regs : Sparse Nat) (cells nand : List Host.Cell) (queue : List Instr) : Prop :=
  sRising regs ∧ Memory.wf cells ∧ Nand.wf nand ∧ ∀ c ∈ queue, wellFormed c = true

/-- The invariant of the machine. -/
def State.Inv (s : State) : Prop := Forms s.regs s.cells s.nand s.pending

/-- A step from a state is safe: it answers a next state. -/
def stepsOn (s : State) : Prop := ∃ t, step s = .next t

/-! ### Frames -/

/-- A part of the state, as the frames name it: the registers of one block, by bits [31:16] of its base (R13), every register, and each
other field of the state. -/
inductive Part where
  | reg (block : Nat)
  | regs
  | variant
  | clockNs
  | potNs
  | bus
  | straps
  | tick
  | cells
  | nand
  | psp
  | env
  | bootKeys
  | desk
  | ldg
  | out
  | pending
  | eng
  | loops
  | pmk
  | tck
  | spn
  | motor
  | cal
  | books
  | lanes
  | dec
  | rcv
  | krx
  | bags
  | mem
  | office
  | cons
  | host
  | pre
  | heat
  | pwr
  deriving DecidableEq, Repr

/-- The block of a register field, by bits [31:16] of its address. -/
def blockNo (f : Fld) : Nat := f.key / 0x200000 % 0x10000

/-- Given contents of every part agree with a state in every part that is not listed. -/
def Parts (P : List Part) (s : State) (v : Variant) (regs : Sparse Nat) (clockNs : Nat) (potNs : Nat) (bus : BusResult) (straps : Nat)
    (tick : Nat) (cells : List Host.Cell) (nand : List Host.Cell) (psp : Passport) (env : Envelope) (bootKeys : List (Nat × Nat))
    (desk : Desk) (ldg : Ledger) (out : List Out) (pending : List Instr) (eng : Engine) (loops : Four Loop) (pmk : Pmk) (tck : Tck)
    (spn : Spn) (motor : Motor) (cal : Calib) (books : Books) (lanes : Four Lane) (dec : Dec) (rcv : Recovery) (krx : Krx) (bags :
    Bags) (mem : Mem) (office : Office) (cons : Consign) (host : HostSide) (pre : Pre) (heat : Heat) (pwr : Pwr) : Prop :=
  (.variant ∈ P ∨ v = s.variant) ∧
  (.regs ∈ P ∨ ∀ g : Fld, .reg (blockNo g) ∈ P ∨ sGet regs g.key g.rst = s.get g) ∧
  (.clockNs ∈ P ∨ clockNs = s.clockNs) ∧
  (.potNs ∈ P ∨ potNs = s.potNs) ∧
  (.bus ∈ P ∨ bus = s.bus) ∧
  (.straps ∈ P ∨ straps = s.straps) ∧
  (.tick ∈ P ∨ tick = s.tick) ∧
  (.cells ∈ P ∨ cells = s.cells) ∧
  (.nand ∈ P ∨ nand = s.nand) ∧
  (.psp ∈ P ∨ psp = s.psp) ∧
  (.env ∈ P ∨ env = s.env) ∧
  (.bootKeys ∈ P ∨ bootKeys = s.bootKeys) ∧
  (.desk ∈ P ∨ desk = s.desk) ∧
  (.ldg ∈ P ∨ ldg = s.ldg) ∧
  (.out ∈ P ∨ out = s.out) ∧
  (.pending ∈ P ∨ pending = s.pending) ∧
  (.eng ∈ P ∨ eng = s.eng) ∧
  (.loops ∈ P ∨ loops = s.loops) ∧
  (.pmk ∈ P ∨ pmk = s.pmk) ∧
  (.tck ∈ P ∨ tck = s.tck) ∧
  (.spn ∈ P ∨ spn = s.spn) ∧
  (.motor ∈ P ∨ motor = s.motor) ∧
  (.cal ∈ P ∨ cal = s.cal) ∧
  (.books ∈ P ∨ books = s.books) ∧
  (.lanes ∈ P ∨ lanes = s.lanes) ∧
  (.dec ∈ P ∨ dec = s.dec) ∧
  (.rcv ∈ P ∨ rcv = s.rcv) ∧
  (.krx ∈ P ∨ krx = s.krx) ∧
  (.bags ∈ P ∨ bags = s.bags) ∧
  (.mem ∈ P ∨ mem = s.mem) ∧
  (.office ∈ P ∨ office = s.office) ∧
  (.cons ∈ P ∨ cons = s.cons) ∧
  (.host ∈ P ∨ host = s.host) ∧
  (.pre ∈ P ∨ pre = s.pre) ∧
  (.heat ∈ P ∨ heat = s.heat) ∧
  (.pwr ∈ P ∨ pwr = s.pwr)

/-- From `s` to `t` only the listed parts change. -/
def Only (P : List Part) (s t : State) : Prop :=
  Parts P s t.variant t.regs t.clockNs t.potNs t.bus t.straps t.tick t.cells t.nand t.psp t.env t.bootKeys t.desk t.ldg t.out
      t.pending t.eng t.loops t.pmk t.tck t.spn t.motor t.cal t.books t.lanes t.dec t.rcv t.krx t.bags t.mem t.office t.cons t.host
      t.pre t.heat t.pwr

/-- A register access by this initiator reaches the register (R4, R6, R13, R14, R20): its block is fitted, listed and on, and
open to the initiator. -/
def State.reaches (s : State) (i : Initiator) (a : Nat) : Bool := !s.unfitted a && s.busOk i a 4

/-- Slice `n` has the courier engine and waits for nothing (R163, R182). -/
def State.runsSlice (s : State) (n : Nat) : Bool :=
  s.get Reg.CRE_STATUS_STATE == 3 && s.eng.wait == .none && s.eng.running == some n

/-- The microword that slice `n` stands at (R165). -/
def State.wordAt (s : State) (n : Nat) : MW := MW.ofNat (sGet s.eng.store (s.ctx n).pc 0)

/-- One cycle of slice `n` (R163, R179, R180): the cycle counts; a good fetch is executed, a corrected one is logged and executed, and one
that cannot be corrected traps with code 0x03. `dm` is how its data memory reads. -/
def State.oneCycle (s : State) (n : Nat) (fetch dm : Ecc) : State :=
  let t := { s with eng := { s.eng with cyc := s.eng.cyc + 1, used := sIns s.eng.used n (sGet s.eng.used n 0 + 1) } }
  match fetch with
  | .good => t.execWord n (s.wordAt n) (dm == .bad)
  | .corrected => (t.noteCorrected (s.ctx n).pc).execWord n (s.wordAt n) (dm == .bad)
  | .bad => t.trap n 0x03

end Sys2Proof.Machine

namespace Sys2Proof

/-- The parts of the state that a command may change; it changes no other. -/
def Instr.touches : Instr → List Machine.Part
  | .registerWrite _ _ _ _ => [.regs, .bus, .cells, .env, .desk, .ldg, .out, .eng, .pmk, .tck, .spn, .motor, .books, .bags, .mem,
      .host, .pwr]
  | .tckCountLoRead _ => [.reg 0x4000, .reg 0x4002, .reg 0x4020, .reg 0x4071, .reg 0x4072, .bus, .desk, .ldg, .out, .host, .pwr]
  | .mainsApplied _ _ _ => [.regs, .variant, .bus, .tick, .cells, .psp, .env, .bootKeys, .desk, .ldg, .out, .eng, .loops, .pmk, .tck,
      .spn, .motor, .books, .lanes, .dec, .rcv, .krx, .bags, .mem, .office, .cons, .host, .pre, .heat, .pwr]
  | .acDcModeChoice _ _ => [.reg 0x4030, .pwr]
  | .llcStart _ _ => [.pwr]
  | .driveBusValid _ _ => [.regs, .straps, .tick, .cells, .psp, .bootKeys, .desk, .ldg, .out, .eng, .pmk, .spn, .cal, .books, .lanes,
      .rcv, .krx, .bags, .mem, .office, .cons, .host, .pre, .heat, .pwr]
  | .linkUp _ _ _ => [.reg 0x4050, .reg 0x4051]
  | .addressBound _ _ _ => [.host]
  | .mainsLostWarning _ _ => [.regs, .desk, .ldg, .out, .eng, .rcv, .bags, .mem, .host, .pwr]
  | .recoveryMet _ _ _ => [.regs, .bus, .tick, .cells, .psp, .env, .bootKeys, .desk, .ldg, .out, .eng, .loops, .pmk, .tck, .spn,
      .motor, .books, .lanes, .dec, .rcv, .krx, .bags, .mem, .office, .cons, .host, .pre, .heat, .pwr]
  | .powerLossDeclared _ _ => [.regs, .desk, .ldg, .out, .eng, .loops, .pmk, .tck, .spn, .motor, .books, .mem, .cons, .host, .pwr]
  | .declaredDomainShutoff => [.regs, .desk, .ldg, .out, .eng, .pmk, .tck, .bags, .mem, .cons, .host, .pwr]
  | .flushDone _ => [.regs, .bus, .tick, .cells, .psp, .env, .bootKeys, .desk, .ldg, .out, .eng, .loops, .pmk, .tck, .spn, .motor,
      .books, .lanes, .dec, .rcv, .krx, .bags, .mem, .office, .cons, .host, .pre, .heat, .pwr]
  | .brownoutReset _ _ _ => [.regs, .bus, .tick, .cells, .psp, .env, .bootKeys, .desk, .ldg, .out, .eng, .loops, .pmk, .tck, .spn,
      .motor, .books, .lanes, .dec, .rcv, .krx, .bags, .mem, .office, .cons, .host, .pre, .heat, .pwr]
  | .llcFault _ _ _ => [.regs, .desk, .ldg, .out, .eng, .loops, .pmk, .spn, .motor, .books, .host, .pwr]
  | .watchdogReset _ _ => [.regs, .env, .desk, .ldg, .out, .bags, .office, .cons, .host, .pre, .pwr]
  | .nvmSubsystemReset _ => [.regs, .psp, .env, .desk, .ldg, .out, .eng, .books, .bags, .office, .cons, .host, .pre, .pwr]
  | .graveFaultPowerCycle => [.reg 0x4000, .reg 0x4001, .reg 0x4002, .reg 0x4020, .reg 0x4028, .reg 0x4063, .reg 0x4070, .reg 0x4071,
      .reg 0x4072, .desk, .ldg, .out, .eng, .pmk, .tck, .mem, .cons, .host, .pwr]
  | .switchedDomainsRestart _ => [.regs, .straps, .tick, .cells, .psp, .env, .bootKeys, .desk, .ldg, .out, .eng, .loops, .pmk, .tck,
      .spn, .motor, .cal, .books, .lanes, .dec, .rcv, .bags, .mem, .office, .cons, .host, .pre, .heat, .pwr]
  | .chopperGateClose _ => [.reg 0x4030]
  | .chopperGateOpen _ => [.reg 0x4030]
  | .chopFaultDetected _ _ _ _ => [.reg 0x4030]
  | .chopTest _ _ => [.reg 0x4000, .reg 0x4020, .reg 0x4030, .reg 0x4071, .reg 0x4072, .bus, .desk, .ldg, .out, .host, .pwr]
  | .pdCtrlWrite _ _ => [.reg 0x4000, .reg 0x4020, .reg 0x4071, .reg 0x4072, .bus, .desk, .ldg, .out, .host, .pwr]
  | .pdSwitchComplete _ => [.reg 0x4000, .reg 0x4001, .reg 0x4002, .reg 0x4020, .reg 0x4028, .reg 0x4041, .reg 0x4063, .reg 0x4071,
      .reg 0x4072, .desk, .ldg, .out, .eng, .pmk, .tck, .mem, .cons, .host, .pwr]
  | .envelopeOpen _ => [.reg 0x4000, .reg 0x4020, .reg 0x4071, .reg 0x4072, .bus, .env, .desk, .ldg, .out, .host, .pwr]
  | .stagedCopyWrite _ _ _ _ => [.reg 0x4000, .reg 0x4020, .reg 0x4071, .reg 0x4072, .bus, .env, .desk, .ldg, .out, .host, .pwr]
  | .envelopeSeal _ => [.reg 0x4000, .reg 0x4020, .reg 0x4071, .reg 0x4072, .bus, .desk, .ldg, .out, .host, .pwr]
  | .sealCheckDone => [.reg 0x4000, .env]
  | .envelopePost _ _ => [.reg 0x4000, .reg 0x4020, .reg 0x4071, .reg 0x4072, .bus, .env, .desk, .ldg, .out, .host, .pwr]
  | .envelopeAbort _ => [.reg 0x4000, .reg 0x4020, .reg 0x4071, .reg 0x4072, .bus, .env, .desk, .ldg, .out, .host, .pwr]
  | .deviceRecordRewrite _ => [.psp]
  | .tickBoundary _ => [.regs, .clockNs, .potNs, .tick, .cells, .psp, .env, .desk, .ldg, .out, .eng, .loops, .pmk, .tck, .spn, .motor,
      .books, .lanes, .krx, .bags, .mem, .office, .cons, .host, .heat, .pwr]
  | .mailboxPost _ _ _ => [.reg 0x4000, .reg 0x4020, .reg 0x4071, .reg 0x4072, .bus, .desk, .ldg, .out, .eng, .host, .pwr]
  | .mailboxDeliver _ _ => [.eng]
  | .writeHoldRelease => [.reg 0x4002]
  | .forceFreeWrite _ _ => [.reg 0x4000, .reg 0x4002, .reg 0x4020, .reg 0x4071, .reg 0x4072, .bus, .desk, .ldg, .out, .host, .pwr]
  | .tckClrPeak _ => [.reg 0x4000, .reg 0x4002, .reg 0x4020, .reg 0x4071, .reg 0x4072, .bus, .desk, .ldg, .out, .host, .pwr]
  | .flyingLimitCrossed _ => [.reg 0x4001, .reg 0x4031, .eng, .pmk, .books]
  | .parkSwitchClose _ => [.reg 0x4000, .reg 0x4001, .reg 0x4002, .reg 0x4020, .reg 0x4071, .reg 0x4072, .desk, .ldg, .out, .pmk,
      .tck, .host, .pwr]
  | .rampFaultTimeout _ => [.reg 0x4000, .reg 0x4001, .reg 0x4002, .reg 0x4020, .reg 0x4071, .reg 0x4072, .desk, .ldg, .out, .pmk,
      .tck, .host, .pwr]
  | .pmkStreamValid _ _ _ _ => [.reg 0x4000, .reg 0x4001, .reg 0x4002, .pmk, .tck]
  | .pmkStreamDrop _ _ => [.reg 0x4000, .reg 0x4001, .reg 0x4002, .reg 0x4020, .reg 0x4071, .reg 0x4072, .desk, .ldg, .out, .pmk,
      .tck, .host, .pwr]
  | .pmkAcqTimeout => [.reg 0x4000, .reg 0x4001, .reg 0x4020, .reg 0x4071, .reg 0x4072, .desk, .ldg, .out, .pmk, .host, .pwr]
  | .positionErrorDelivery _ _ _ _ _ _ _ => [.regs, .eng, .loops, .lanes]
  | .pesTimeout _ => [.regs, .eng, .loops, .lanes]
  | .segmentForcedEnd => [.regs, .eng]
  | .sliceOverrun => [.regs, .desk, .ldg, .out, .eng, .host, .pwr]
  | .next _ _ => [.regs, .desk, .ldg, .out, .eng, .loops, .spn, .mem, .cons, .host, .pwr]
  | .br _ _ => [.regs, .desk, .ldg, .out, .eng, .loops, .spn, .mem, .cons, .host, .pwr]
  | .brn _ _ => [.regs, .desk, .ldg, .out, .eng, .loops, .spn, .mem, .cons, .host, .pwr]
  | .call _ _ => [.regs, .desk, .ldg, .out, .eng, .loops, .spn, .mem, .cons, .host, .pwr]
  | .ret _ _ => [.regs, .desk, .ldg, .out, .eng, .loops, .spn, .mem, .cons, .host, .pwr]
  | .loop _ _ => [.regs, .desk, .ldg, .out, .eng, .loops, .spn, .mem, .cons, .host, .pwr]
  | .ldlc _ _ => [.regs, .desk, .ldg, .out, .eng, .loops, .spn, .mem, .cons, .host, .pwr]
  | .dispatch _ _ => [.regs, .desk, .ldg, .out, .eng, .loops, .spn, .mem, .cons, .host, .pwr]
  | .done _ _ => [.regs, .desk, .ldg, .out, .eng, .loops, .spn, .mem, .cons, .host, .pwr]
  | .trap _ _ => [.regs, .desk, .ldg, .out, .eng, .loops, .spn, .mem, .cons, .host, .pwr]
  | .mov _ _ => [.regs, .desk, .ldg, .out, .eng, .loops, .spn, .mem, .cons, .host, .pwr]
  | .add _ _ => [.regs, .desk, .ldg, .out, .eng, .loops, .spn, .mem, .cons, .host, .pwr]
  | .sub _ _ => [.regs, .desk, .ldg, .out, .eng, .loops, .spn, .mem, .cons, .host, .pwr]
  | .sadd _ _ => [.regs, .desk, .ldg, .out, .eng, .loops, .spn, .mem, .cons, .host, .pwr]
  | .ssub _ _ => [.regs, .desk, .ldg, .out, .eng, .loops, .spn, .mem, .cons, .host, .pwr]
  | .and _ _ => [.regs, .desk, .ldg, .out, .eng, .loops, .spn, .mem, .cons, .host, .pwr]
  | .or _ _ => [.regs, .desk, .ldg, .out, .eng, .loops, .spn, .mem, .cons, .host, .pwr]
  | .xor _ _ => [.regs, .desk, .ldg, .out, .eng, .loops, .spn, .mem, .cons, .host, .pwr]
  | .asr _ _ => [.regs, .desk, .ldg, .out, .eng, .loops, .spn, .mem, .cons, .host, .pwr]
  | .lsl _ _ => [.regs, .desk, .ldg, .out, .eng, .loops, .spn, .mem, .cons, .host, .pwr]
  | .min _ _ => [.regs, .desk, .ldg, .out, .eng, .loops, .spn, .mem, .cons, .host, .pwr]
  | .max _ _ => [.regs, .desk, .ldg, .out, .eng, .loops, .spn, .mem, .cons, .host, .pwr]
  | .abs _ _ => [.regs, .desk, .ldg, .out, .eng, .loops, .spn, .mem, .cons, .host, .pwr]
  | .neg _ _ => [.regs, .desk, .ldg, .out, .eng, .loops, .spn, .mem, .cons, .host, .pwr]
  | .cmp _ _ => [.regs, .desk, .ldg, .out, .eng, .loops, .spn, .mem, .cons, .host, .pwr]
  | .sge _ _ => [.regs, .desk, .ldg, .out, .eng, .loops, .spn, .mem, .cons, .host, .pwr]
  | .sin _ _ => [.regs, .desk, .ldg, .out, .eng, .loops, .spn, .mem, .cons, .host, .pwr]
  | .cos _ _ => [.regs, .desk, .ldg, .out, .eng, .loops, .spn, .mem, .cons, .host, .pwr]
  | .mul _ _ => [.regs, .desk, .ldg, .out, .eng, .loops, .spn, .mem, .cons, .host, .pwr]
  | .mac _ _ => [.regs, .desk, .ldg, .out, .eng, .loops, .spn, .mem, .cons, .host, .pwr]
  | .msu _ _ => [.regs, .desk, .ldg, .out, .eng, .loops, .spn, .mem, .cons, .host, .pwr]
  | .clr _ _ => [.regs, .desk, .ldg, .out, .eng, .loops, .spn, .mem, .cons, .host, .pwr]
  | .memoryRead _ _ => [.regs, .desk, .ldg, .out, .eng, .loops, .spn, .mem, .cons, .host, .pwr]
  | .memoryWrite _ _ => [.regs, .desk, .ldg, .out, .eng, .loops, .spn, .mem, .cons, .host, .pwr]
  | .portRead _ _ => [.regs, .desk, .ldg, .out, .eng, .loops, .spn, .mem, .cons, .host, .pwr]
  | .portWrite _ _ => [.regs, .desk, .ldg, .out, .eng, .loops, .spn, .mem, .cons, .host, .pwr]
  | .capture _ _ => [.regs, .desk, .ldg, .out, .eng, .loops, .spn, .mem, .cons, .host, .pwr]
  | .creLoad _ => [.reg 0x4000, .reg 0x4020, .reg 0x4071, .reg 0x4072, .bus, .desk, .ldg, .out, .host, .pwr]
  | .creLoadDone => [.reg 0x4020, .eng]
  | .creRun _ => [.reg 0x4000, .reg 0x4020, .reg 0x4071, .reg 0x4072, .bus, .desk, .ldg, .out, .eng, .host, .pwr]
  | .creStop _ => [.reg 0x4000, .reg 0x4020, .reg 0x4071, .reg 0x4072, .bus, .desk, .ldg, .out, .eng, .host, .pwr]
  | .creClrPeaks _ => [.regs, .bus, .desk, .ldg, .out, .host, .pwr]
  | .creDmDataAccess _ _ => [.reg 0x4000, .reg 0x4020, .reg 0x4071, .reg 0x4072, .bus, .desk, .ldg, .out, .eng, .mem, .host, .pwr]
  | .creCapDataRead _ => [.reg 0x4000, .reg 0x4020, .reg 0x4071, .reg 0x4072, .bus, .desk, .ldg, .out, .host, .pwr]
  | .injectionEnd _ => [.regs]
  | .captureEnd _ => [.regs, .eng]
  | .laneQtailWrite _ _ _ => [.reg 0x4000, .reg 0x4010, .reg 0x4011, .reg 0x4012, .reg 0x4013, .reg 0x4020, .reg 0x4071, .reg 0x4072,
      .bus, .desk, .ldg, .out, .host, .pwr]
  | .laneRead _ => [.reg 0x4000, .reg 0x4010, .reg 0x4011, .reg 0x4012, .reg 0x4013, .reg 0x4014, .reg 0x4020, .reg 0x4063, .reg
      0x4071, .reg 0x4072, .cells, .desk, .ldg, .out, .lanes, .mem, .host, .pwr]
  | .laneWrite _ => [.reg 0x4000, .reg 0x4010, .reg 0x4011, .reg 0x4012, .reg 0x4013, .reg 0x4014, .reg 0x4020, .reg 0x4063, .reg
      0x4071, .reg 0x4072, .cells, .desk, .ldg, .out, .lanes, .mem, .host, .pwr]
  | .laneReadSamples _ => [.reg 0x4000, .reg 0x4010, .reg 0x4011, .reg 0x4012, .reg 0x4013, .reg 0x4014, .reg 0x4020, .reg 0x4063,
      .reg 0x4071, .reg 0x4072, .cells, .desk, .ldg, .out, .lanes, .mem, .host, .pwr]
  | .laneSkewMeasure _ => [.reg 0x4000, .reg 0x4010, .reg 0x4011, .reg 0x4012, .reg 0x4013, .reg 0x4014, .reg 0x4020, .reg 0x4063,
      .reg 0x4071, .reg 0x4072, .cells, .desk, .ldg, .out, .lanes, .mem, .host, .pwr]
  | .sectorStart _ _ _ _ _ => [.regs, .cells, .desk, .ldg, .out, .lanes, .rcv, .bags, .mem, .cons, .host, .pwr]
  | .heaterLeadElapsed _ _ => [.reg 0x4010, .reg 0x4011, .reg 0x4012, .reg 0x4013, .reg 0x4014, .lanes]
  | .writeInhibitReceived _ _ => [.reg 0x4000, .reg 0x4010, .reg 0x4011, .reg 0x4012, .reg 0x4013, .reg 0x4014, .reg 0x4020, .reg
      0x4063, .reg 0x4071, .reg 0x4072, .cells, .desk, .ldg, .out, .lanes, .mem, .host, .pwr]
  | .firstPassDone _ _ _ _ => [.regs, .cells, .desk, .ldg, .out, .lanes, .dec, .rcv, .mem, .host, .pwr]
  | .recoveryStoreCopyDone _ _ _ _ _ => [.regs, .cells, .desk, .ldg, .out, .eng, .lanes, .rcv, .mem, .host, .pwr]
  | .decoderFrameStart _ => [.regs, .lanes, .dec, .rcv]
  | .receiptDecided _ _ _ => [.regs, .cells, .desk, .ldg, .out, .lanes, .dec, .rcv, .mem, .host, .pwr]
  | .sectorRewrite _ _ => [.reg 0x4000, .reg 0x4010, .reg 0x4011, .reg 0x4012, .reg 0x4013, .reg 0x4014, .reg 0x4020, .reg 0x4040,
      .reg 0x4061, .reg 0x4063, .reg 0x4071, .reg 0x4072, .cells, .desk, .ldg, .out, .lanes, .bags, .mem, .office, .host, .pwr]
  | .laneOperationComplete _ _ => [.regs, .cells, .desk, .ldg, .out, .lanes, .rcv, .mem, .host, .pwr]
  | .laneAbort _ _ => [.reg 0x4000, .reg 0x4010, .reg 0x4011, .reg 0x4012, .reg 0x4013, .reg 0x4014, .reg 0x4020, .reg 0x4063, .reg
      0x4071, .reg 0x4072, .bus, .cells, .desk, .ldg, .out, .lanes, .mem, .host, .pwr]
  | .headEnClear _ _ _ => [.reg 0x4000, .reg 0x4010, .reg 0x4011, .reg 0x4012, .reg 0x4013, .reg 0x4014, .reg 0x4020, .reg 0x4071,
      .reg 0x4072, .bus, .desk, .ldg, .out, .lanes, .host, .pwr]
  | .zoneEntryValidate _ _ _ _ => [.regs, .bus, .desk, .ldg, .out, .lanes, .host, .pwr]
  | .zoneEntryCheckDone _ _ => [.regs, .lanes]
  | .zoneEntryInvalidate _ _ _ _ _ => [.regs, .bus, .desk, .ldg, .out, .lanes, .host, .pwr]
  | .decoderHalfLoss _ => [.reg 0x4000, .reg 0x4010, .reg 0x4011, .reg 0x4012, .reg 0x4013, .reg 0x4014, .reg 0x4020, .reg 0x4071,
      .reg 0x4072, .desk, .ldg, .out, .lanes, .rcv, .host, .pwr]
  | .decoderHalfEnable _ _ => [.reg 0x4000, .reg 0x4014, .reg 0x4020, .reg 0x4071, .reg 0x4072, .bus, .desk, .ldg, .out, .dec, .host,
      .pwr]
  | .decoderHalfDisable _ _ => [.reg 0x4000, .reg 0x4010, .reg 0x4011, .reg 0x4012, .reg 0x4013, .reg 0x4014, .reg 0x4020, .reg
      0x4071, .reg 0x4072, .bus, .desk, .ldg, .out, .lanes, .dec, .rcv, .host, .pwr]
  | .recoveryJobPost _ _ => [.reg 0x4000, .reg 0x4014, .reg 0x4020, .reg 0x4071, .reg 0x4072, .bus, .desk, .ldg, .out, .rcv, .host,
      .pwr]
  | .decodeSampleArea _ => [.regs, .cells, .desk, .ldg, .out, .eng, .lanes, .dec, .rcv, .bags, .mem, .office, .host, .pwr]
  | .decodeRunningSum _ => [.regs, .cells, .desk, .ldg, .out, .eng, .lanes, .dec, .rcv, .bags, .mem, .office, .host, .pwr]
  | .cancelJob => [.reg 0x4000, .reg 0x4014, .reg 0x4020, .reg 0x4040, .reg 0x4061, .reg 0x4063, .reg 0x4071, .reg 0x4072, .cells,
      .desk, .ldg, .out, .eng, .rcv, .bags, .mem, .office, .host, .pwr]
  | .heldSampleRungsDone _ _ => [.regs, .cells, .desk, .ldg, .out, .eng, .lanes, .dec, .rcv, .mem, .host, .pwr]
  | .earlyReconstructionStart _ => [.reg 0x4014, .rcv]
  | .ladderTimeLimit _ => [.reg 0x4014, .reg 0x4072, .ldg, .eng, .rcv]
  | .reallocation => [.reg 0x4000, .reg 0x4010, .reg 0x4011, .reg 0x4012, .reg 0x4013, .reg 0x4014, .reg 0x4020, .reg 0x4040, .reg
      0x4061, .reg 0x4063, .reg 0x4071, .reg 0x4072, .cells, .desk, .ldg, .out, .lanes, .rcv, .bags, .mem, .office, .host, .pwr]
  | .seek _ => [.regs, .desk, .ldg, .out, .eng, .loops, .books, .krx, .cons, .host, .pwr]
  | .pairWaitExpiry _ => [.reg 0x4031, .eng, .loops, .books, .krx]
  | .seekDone _ => [.regs, .desk, .ldg, .out, .eng, .loops, .books, .krx, .cons, .host, .pwr]
  | .seekSettleTimeout _ _ => [.regs, .desk, .ldg, .out, .eng, .loops, .books, .krx, .cons, .host, .pwr]
  | .head _ => [.regs, .desk, .ldg, .out, .eng, .loops, .books, .krx, .cons, .host, .pwr]
  | .headSwitchDone _ => [.regs, .desk, .ldg, .out, .eng, .loops, .books, .krx, .cons, .host, .pwr]
  | .headSwitchTimeout _ => [.reg 0x4031, .eng, .loops, .books, .krx]
  | .offset _ => [.regs, .desk, .ldg, .out, .eng, .loops, .host, .pwr]
  | .offsetDone _ => [.regs, .desk, .ldg, .out, .eng, .loops, .host, .pwr]
  | .load _ _ => [.regs, .desk, .ldg, .out, .eng, .loops, .books, .krx, .cons, .host, .pwr]
  | .loadLanded _ => [.regs, .desk, .ldg, .out, .eng, .loops, .books, .krx, .cons, .host, .pwr]
  | .loadTimeout _ => [.regs, .desk, .ldg, .out, .eng, .loops, .books, .cons, .host, .pwr]
  | .unload _ => [.regs, .desk, .ldg, .out, .eng, .loops, .books, .cons, .host, .pwr]
  | .unloadLatched _ => [.regs, .desk, .ldg, .out, .eng, .loops, .tck, .books, .krx, .cons, .host, .pwr]
  | .retire _ => [.regs, .desk, .ldg, .out, .eng, .loops, .books, .cons, .host, .pwr]
  | .coef _ => [.regs, .desk, .ldg, .out, .eng, .loops, .host, .pwr]
  | .emergencyUnload _ _ => [.regs, .desk, .ldg, .out, .eng, .loops, .books, .host, .pwr]
  | .servoWedgeLoss _ => [.regs, .desk, .ldg, .out, .eng, .loops, .books, .host, .pwr]
  | .emUnloadLatched _ => [.regs, .desk, .ldg, .out, .eng, .loops, .pmk, .tck, .books, .krx, .mem, .cons, .host, .pwr]
  | .hardwareRetract _ _ _ _ => [.regs, .desk, .ldg, .out, .loops, .host, .pwr]
  | .retract _ _ => [.regs, .bus, .desk, .ldg, .out, .loops, .host, .pwr]
  | .retractWatchdog _ => [.regs, .desk, .ldg, .out, .loops, .host, .pwr]
  | .retractEnd _ => [.regs, .desk, .ldg, .out, .eng, .loops, .pmk, .tck, .books, .mem, .cons, .host, .pwr]
  | .shockDetected _ _ => [.reg 0x4021, .reg 0x4022, .reg 0x4023, .reg 0x4024, .loops]
  | .shockInhibitEnd _ => [.loops]
  | .preampFault _ _ => [.regs, .desk, .ldg, .out, .loops, .host, .pwr]
  | .preampFaultPersists _ _ => [.reg 0x4041]
  | .aspFrameSend _ _ _ _ _ _ => [.reg 0x4000, .reg 0x4020, .reg 0x4021, .reg 0x4022, .reg 0x4023, .reg 0x4024, .reg 0x4071, .reg
      0x4072, .bus, .desk, .ldg, .out, .loops, .host, .pwr]
  | .microactuatorSaturation _ => [.reg 0x4000, .reg 0x4020, .reg 0x4071, .reg 0x4072, .desk, .ldg, .out, .cons, .host, .pwr]
  | .start => [.regs, .desk, .ldg, .out, .eng, .pmk, .spn, .motor, .books, .host, .pwr]
  | .stop => [.regs, .desk, .ldg, .out, .eng, .pmk, .spn, .motor, .host, .pwr]
  | .hold => [.regs, .desk, .ldg, .out, .eng, .spn, .motor, .host, .pwr]
  | .sensePeriodEnd => [.reg 0x4020, .reg 0x4028, .eng, .spn, .motor]
  | .alignStepEnd => [.reg 0x4020, .reg 0x4028, .eng, .spn, .motor]
  | .catchResult => [.regs, .desk, .ldg, .out, .eng, .loops, .pmk, .spn, .motor, .books, .host, .pwr]
  | .observerHandover => [.reg 0x4020, .reg 0x4028, .motor]
  | .startFailure => [.regs, .desk, .ldg, .out, .eng, .spn, .motor, .host, .pwr]
  | .startRetry => [.reg 0x4020, .reg 0x4028, .eng, .pmk, .spn, .motor]
  | .atSpeedReached => [.regs, .desk, .ldg, .out, .eng, .pmk, .spn, .books, .host, .pwr]
  | .postmarkAngleHandover => [.regs, .desk, .ldg, .out, .spn, .motor, .host, .pwr]
  | .postmarkGlideEnd => [.regs, .desk, .ldg, .out, .spn, .host, .pwr]
  | .observerLost => [.regs, .desk, .ldg, .out, .eng, .loops, .spn, .motor, .books, .host, .pwr]
  | .spindleDutyWatchdog => [.regs, .desk, .ldg, .out, .eng, .spn, .motor, .host, .pwr]
  | .fluxBrakeEnter _ => [.reg 0x4020, .reg 0x4028]
  | .fluxBrakeLeave _ => [.reg 0x4020, .reg 0x4028]
  | .inverterDisable _ => [.reg 0x4020, .reg 0x4028, .eng, .spn, .motor]
  | .inverterReenable _ _ => [.reg 0x4020, .reg 0x4028, .eng, .motor]
  | .legFault _ => [.regs, .desk, .ldg, .out, .eng, .loops, .pmk, .spn, .motor, .books, .host, .pwr]
  | .spareLegReady => [.regs, .desk, .ldg, .out, .eng, .loops, .pmk, .spn, .motor, .books, .host, .pwr]
  | .spindleStopped => [.regs, .desk, .ldg, .out, .eng, .spn, .motor, .host, .pwr]
  | .kerrexCycleStart => [.reg 0x4031, .out, .krx]
  | .beaconReceived _ => [.reg 0x4031, .krx]
  | .statusSlot => [.reg 0x4031, .out, .krx]
  | .statusReceived _ _ => [.reg 0x4000, .reg 0x4031, .reg 0x4063, .env, .krx]
  | .claimReceived _ => [.reg 0x4031, .krx]
  | .electionBackoffExpiry => [.reg 0x4031, .out, .krx]
  | .claimConfirm => [.reg 0x4031, .out, .krx]
  | .transmitMismatch _ => [.reg 0x4031, .krx]
  | .censusEnd => [.krx]
  | .unheardSlotTimeout => [.krx]
  | .crcAbdication => [.reg 0x4031, .krx]
  | .eligibilityRestore => [.krx]
  | .lapse => [.reg 0x4031, .eng, .books]
  | .frkTargetWrite _ _ => [.reg 0x4000, .reg 0x4020, .reg 0x4031, .reg 0x4071, .reg 0x4072, .bus, .desk, .ldg, .out, .host, .pwr]
  | .holdEnter _ => [.regs, .bus, .env, .desk, .ldg, .out, .eng, .pmk, .tck, .krx, .bags, .mem, .cons, .host, .pwr]
  | .wakeSend _ _ _ => [.reg 0x4000, .reg 0x4020, .reg 0x4031, .reg 0x4071, .reg 0x4072, .bus, .desk, .ldg, .out, .host, .pwr]
  | .presentNRelease => [.regs, .desk, .ldg, .out, .bags, .host, .pwr]
  | .presentNAssert _ => [.reg 0x4000, .reg 0x4020, .reg 0x4071, .reg 0x4072, .straps, .desk, .ldg, .out, .krx, .host, .pwr]
  | .sofJobPost _ _ => [.reg 0x4000, .reg 0x4020, .reg 0x4040, .reg 0x4071, .reg 0x4072, .bus, .desk, .ldg, .out, .host, .pwr]
  | .lookup => [.reg 0x4000, .reg 0x4020, .reg 0x4040, .reg 0x4061, .reg 0x4063, .reg 0x4071, .reg 0x4072, .cells, .desk, .ldg, .out,
      .bags, .mem, .host, .pwr]
  | .switch => [.reg 0x4000, .reg 0x4020, .reg 0x4040, .reg 0x4061, .reg 0x4063, .reg 0x4071, .reg 0x4072, .cells, .desk, .ldg, .out,
      .bags, .mem, .host, .pwr]
  | .validScan => [.reg 0x4000, .reg 0x4020, .reg 0x4040, .reg 0x4061, .reg 0x4063, .reg 0x4071, .reg 0x4072, .cells, .desk, .ldg,
      .out, .bags, .mem, .host, .pwr]
  | .directPlacement _ _ => [.reg 0x4000, .reg 0x4020, .reg 0x4040, .reg 0x4061, .reg 0x4063, .reg 0x4071, .reg 0x4072, .cells, .desk,
      .ldg, .out, .bags, .mem, .office, .host, .pwr]
  | .firstClassPlacement _ => [.office]
  | .commitUnitSwitch _ _ _ _ _ => [.regs, .cells, .desk, .ldg, .out, .rcv, .bags, .mem, .office, .host, .pwr]
  | .folding => [.reg 0x4000, .reg 0x4020, .reg 0x4040, .reg 0x4061, .reg 0x4063, .reg 0x4071, .reg 0x4072, .cells, .desk, .ldg, .out,
      .bags, .mem, .office, .host, .pwr]
  | .reSorting _ => [.reg 0x4000, .reg 0x4020, .reg 0x4040, .reg 0x4061, .reg 0x4063, .reg 0x4071, .reg 0x4072, .cells, .desk, .ldg,
      .out, .bags, .mem, .office, .host, .pwr]
  | .idleTimeout => [.office]
  | .bundlePlaceTimeout _ => [.office]
  | .repack _ => [.reg 0x4000, .reg 0x4020, .reg 0x4040, .reg 0x4061, .reg 0x4063, .reg 0x4071, .reg 0x4072, .cells, .desk, .ldg,
      .out, .rcv, .bags, .mem, .office, .host, .pwr]
  | .zoneFinishRecommended _ _ => [.host]
  | .zoneFinishByController _ _ => [.reg 0x4000, .reg 0x4020, .reg 0x4040, .reg 0x4061, .reg 0x4063, .reg 0x4071, .reg 0x4072, .cells,
      .desk, .ldg, .out, .bags, .mem, .office, .host, .pwr]
  | .mapCheckpoint => [.reg 0x4000, .reg 0x4020, .reg 0x4040, .reg 0x4061, .reg 0x4063, .reg 0x4071, .reg 0x4072, .cells, .desk, .ldg,
      .out, .bags, .mem, .office, .host, .pwr]
  | .segmentLoad _ => [.reg 0x4000, .reg 0x4020, .reg 0x4061, .reg 0x4063, .reg 0x4071, .reg 0x4072, .cells, .desk, .ldg, .out, .bags,
      .mem, .office, .host, .pwr]
  | .mapRebuild _ => [.reg 0x4000, .reg 0x4020, .reg 0x4061, .reg 0x4063, .reg 0x4071, .reg 0x4072, .cells, .desk, .ldg, .out, .bags,
      .mem, .office, .host, .pwr]
  | .refreshTrigger _ _ _ => [.mem, .office]
  | .locationRelease _ _ => [.reg 0x4000, .reg 0x4020, .reg 0x4040, .reg 0x4061, .reg 0x4063, .reg 0x4071, .reg 0x4072, .cells, .desk,
      .ldg, .out, .bags, .mem, .office, .host, .pwr]
  | .cnsJobPost _ _ => [.reg 0x4000, .reg 0x4020, .reg 0x4041, .reg 0x4071, .reg 0x4072, .bus, .desk, .ldg, .out, .host, .pwr]
  | .encrypt _ => [.regs, .cells, .desk, .ldg, .out, .bags, .mem, .office, .host, .pwr]
  | .decrypt _ => [.regs, .cells, .desk, .ldg, .out, .bags, .mem, .office, .host, .pwr]
  | .encode _ => [.regs, .cells, .desk, .ldg, .out, .bags, .mem, .office, .host, .pwr]
  | .decode _ => [.regs, .cells, .desk, .ldg, .out, .rcv, .bags, .mem, .office, .host, .pwr]
  | .check _ => [.regs, .cells, .desk, .ldg, .out, .bags, .mem, .office, .host, .pwr]
  | .loadWrappedKey _ _ => [.reg 0x4000, .reg 0x4020, .reg 0x4041, .reg 0x4071, .reg 0x4072, .bus, .desk, .ldg, .out, .cons, .host,
      .pwr]
  | .generateKey _ _ => [.reg 0x4000, .reg 0x4020, .reg 0x4041, .reg 0x4063, .reg 0x4071, .reg 0x4072, .bus, .cells, .desk, .ldg,
      .out, .mem, .cons, .host, .pwr]
  | .clearKeySlot _ _ => [.reg 0x4000, .reg 0x4020, .reg 0x4041, .reg 0x4071, .reg 0x4072, .bus, .desk, .ldg, .out, .cons, .host, .pwr]
  | .clearAllKeySlots _ => [.reg 0x4000, .reg 0x4020, .reg 0x4041, .reg 0x4071, .reg 0x4072, .bus, .desk, .ldg, .out, .cons, .host,
      .pwr]
  | .kekLoad _ _ => [.reg 0x4000, .reg 0x4020, .reg 0x4041, .reg 0x4071, .reg 0x4072, .bus, .desk, .ldg, .out, .cons, .host, .pwr]
  | .headRetirement _ _ => [.regs, .cells, .psp, .desk, .ldg, .out, .eng, .loops, .books, .rcv, .bags, .mem, .office, .cons, .host,
      .pwr]
  | .rebuildUnitCommit _ => [.reg 0x4000, .reg 0x4020, .reg 0x4040, .reg 0x4061, .reg 0x4063, .reg 0x4071, .reg 0x4072, .cells, .desk,
      .ldg, .out, .rcv, .bags, .mem, .office, .cons, .host, .pwr]
  | .parityScrub _ _ => [.reg 0x4072, .ldg, .office, .cons]
  | .icreq _ _ _ _ _ => [.regs, .desk, .ldg, .out, .bags, .host, .pwr]
  | .h2cTermReq _ => [.regs, .desk, .ldg, .out, .bags, .host, .pwr]
  | .capsuleCmd _ _ _ => [.regs, .desk, .ldg, .out, .bags, .office, .host, .pwr]
  | .capsuleTake _ _ _ => [.reg 0x4052, .reg 0x4053, .office, .host]
  | .h2cData _ _ _ _ _ => [.regs, .cells, .desk, .ldg, .out, .bags, .mem, .host, .pwr]
  | .tcpSyn _ _ _ _ _ => [.reg 0x4050, .reg 0x4051, .reg 0x4052, .out, .host]
  | .tcpFin _ => [.regs, .desk, .ldg, .out, .bags, .host, .pwr]
  | .tcpRst _ => [.regs, .desk, .ldg, .out, .bags, .host, .pwr]
  | .tcpAck _ _ _ => [.reg 0x4050, .reg 0x4051, .host]
  | .tcpOutOfOrder _ => [.reg 0x4050, .reg 0x4051, .out, .host]
  | .retransmissionTimer _ => [.regs, .desk, .ldg, .out, .bags, .host, .pwr]
  | .delayedAckTimer _ => [.reg 0x4050, .reg 0x4051, .out, .host]
  | .arp _ _ => [.reg 0x4050, .reg 0x4051, .out]
  | .icmpv4 _ _ => [.reg 0x4050, .reg 0x4051, .out, .host]
  | .icmpv6 _ _ => [.reg 0x4050, .reg 0x4051, .out, .host]
  | .ndp _ _ => [.reg 0x4050, .reg 0x4051, .out, .host]
  | .dhcpv4 _ _ => [.reg 0x4050, .reg 0x4051, .out, .host]
  | .dhcpv6 _ _ => [.reg 0x4050, .reg 0x4051, .out, .host]
  | .responseReady _ => [.regs, .desk, .ldg, .out, .bags, .host, .pwr]
  | .bagsReservedForTransfer _ _ => [.regs, .cells, .desk, .ldg, .out, .bags, .mem, .host, .pwr]
  | .readDataReady _ => [.out, .host]
  | .asynchronousEvent _ _ => [.host]
  | .associationEnd _ => [.regs, .desk, .ldg, .out, .bags, .host, .pwr]
  | .keepAliveTimer _ => [.regs, .desk, .ldg, .out, .bags, .host, .pwr]
  | .corePostedEvent _ _ _ _ => [.reg 0x4000, .reg 0x4020, .reg 0x4071, .reg 0x4072, .bus, .desk, .ldg, .out, .host, .pre, .pwr]
  | .lockGrant _ => [.reg 0x4053, .host]
  | .portLinkReset _ => [.regs, .env, .desk, .ldg, .out, .bags, .host, .pwr]
  | .ethRestart _ _ => [.regs, .bus, .env, .desk, .ldg, .out, .bags, .host, .pwr]
  | .preEnd _ _ => [.regs, .cells, .desk, .ldg, .out, .bags, .mem, .host, .pre, .pwr]
  | .crc32c _ _ => [.regs, .cells, .desk, .ldg, .out, .bags, .mem, .host, .pre, .pwr]
  | .payloadToBags _ _ => [.regs, .cells, .desk, .ldg, .out, .bags, .mem, .host, .pre, .pwr]
  | .bagsToTransmitQueue _ _ => [.regs, .cells, .desk, .ldg, .out, .bags, .mem, .host, .pre, .pwr]
  | .buildAndSendPdu _ _ => [.regs, .cells, .desk, .ldg, .out, .bags, .mem, .host, .pre, .pwr]
  | .postInTrayEntry _ _ => [.regs, .cells, .desk, .ldg, .out, .bags, .mem, .host, .pre, .pwr]
  | .postCoreMessage _ _ => [.regs, .cells, .desk, .ldg, .out, .bags, .mem, .host, .pre, .pwr]
  | .releaseBags _ _ => [.regs, .cells, .desk, .ldg, .out, .bags, .mem, .host, .pre, .pwr]
  | .preLoad _ => [.reg 0x4000, .reg 0x4020, .reg 0x4052, .reg 0x4071, .reg 0x4072, .bus, .desk, .ldg, .out, .host, .pwr]
  | .preLoadDone => [.reg 0x4052, .pre]
  | .preRun _ _ => [.reg 0x4000, .reg 0x4020, .reg 0x4052, .reg 0x4071, .reg 0x4072, .bus, .desk, .ldg, .out, .host, .pwr]
  | .preClrPeak _ => [.reg 0x4000, .reg 0x4020, .reg 0x4052, .reg 0x4071, .reg 0x4072, .bus, .desk, .ldg, .out, .host, .pwr]
  | .getLogPage _ => [.ldg, .host]
  | .identify _ => [.host]
  | .abort _ => [.reg 0x4053, .host]
  | .setFeatures _ => [.reg 0x4000, .psp, .env, .host]
  | .getFeatures _ => [.host]
  | .asynchronousEventRequest _ => [.host]
  | .namespaceCreate _ => [.reg 0x4041, .psp, .cons, .host]
  | .namespaceDelete _ => [.regs, .cells, .psp, .desk, .ldg, .out, .rcv, .bags, .mem, .office, .cons, .host, .pwr]
  | .firmwareCommit _ _ => [.regs, .psp, .desk, .ldg, .out, .eng, .loops, .pmk, .tck, .books, .mem, .cons, .host, .pwr]
  | .firmwareImageDownload _ => [.host]
  | .keepAlive _ => [.host]
  | .formatNvm _ => [.regs, .cells, .psp, .desk, .ldg, .out, .rcv, .bags, .mem, .office, .cons, .host, .pwr]
  | .sanitize _ _ => [.regs, .cells, .psp, .desk, .ldg, .out, .lanes, .bags, .mem, .office, .cons, .host, .pwr]
  | .propertySet _ => [.regs, .env, .desk, .ldg, .out, .bags, .host, .pwr]
  | .propertyGet _ => [.host]
  | .connect _ => [.reg 0x4052, .host]
  | .disconnect _ => [.regs, .desk, .ldg, .out, .bags, .host, .pwr]
  | .headServiceReport _ => [.host]
  | .headServiceRetire _ => [.regs, .cells, .psp, .desk, .ldg, .out, .eng, .loops, .books, .rcv, .bags, .mem, .office, .cons, .host,
      .pwr]
  | .headServiceReinstate _ => [.psp, .host]
  | .shelfServiceEnter _ => [.host]
  | .shelfHoldDeparture => [.regs, .desk, .ldg, .out, .eng, .bags, .host, .pwr]
  | .shelfServiceWake _ => [.reg 0x4031, .host]
  | .driveFormat _ => [.regs, .cells, .psp, .desk, .ldg, .out, .bags, .mem, .office, .cons, .host, .pwr]
  | .flush _ => [.host]
  | .write _ => [.reg 0x4053, .host]
  | .read _ _ => [.regs, .cells, .desk, .ldg, .out, .rcv, .bags, .mem, .office, .host, .pwr]
  | .writeZeroes _ => [.regs, .cells, .desk, .ldg, .out, .rcv, .bags, .mem, .office, .host, .pwr]
  | .datasetManagement _ => [.regs, .cells, .desk, .ldg, .out, .rcv, .bags, .mem, .office, .host, .pwr]
  | .verify _ _ => [.regs, .cells, .desk, .ldg, .out, .rcv, .bags, .mem, .office, .host, .pwr]
  | .reservationRegister _ => [.host]
  | .reservationReport _ => [.host]
  | .reservationAcquire _ => [.host]
  | .reservationRelease _ => [.host]
  | .zoneOpen _ => [.host]
  | .zoneClose _ => [.host]
  | .zoneFinish _ => [.reg 0x4000, .reg 0x4020, .reg 0x4040, .reg 0x4061, .reg 0x4063, .reg 0x4071, .reg 0x4072, .cells, .desk, .ldg,
      .out, .bags, .mem, .office, .host, .pwr]
  | .zoneReset _ => [.regs, .cells, .desk, .ldg, .out, .rcv, .bags, .mem, .office, .host, .pwr]
  | .zoneManagementReceive _ => [.host]
  | .zoneAppend _ => [.reg 0x4053, .host]
  | .store _ => [.reg 0x4053, .host]
  | .retrieve _ _ => [.regs, .cells, .desk, .ldg, .out, .rcv, .bags, .mem, .office, .host, .pwr]
  | .list _ => [.host]
  | .delete _ => [.regs, .cells, .desk, .ldg, .out, .rcv, .bags, .mem, .office, .host, .pwr]
  | .exist _ => [.host]
  | .readNvmeMiDataStructure _ _ => [.out]
  | .nvmSubsystemHealthStatusPoll => [.out]
  | .controllerHealthStatusPoll => [.out, .eng]
  | .configurationGet => [.out]
  | .configurationSet _ => [.out, .host]
  | .vpdRead _ _ => [.out]
  | .bpmAlloc _ _ _ => [.regs, .bus, .desk, .ldg, .out, .bags, .host, .pwr]
  | .bpmRelease _ _ => [.regs, .bus, .desk, .ldg, .out, .bags, .host, .pwr]
  | .bpmShare _ _ => [.regs, .bus, .desk, .ldg, .out, .bags, .host, .pwr]
  | .phcFlush _ => [.reg 0x4000, .reg 0x4020, .reg 0x4071, .reg 0x4072, .bus, .desk, .ldg, .out, .mem, .host, .pwr]
  | .phcWindowWrite _ _ _ _ => [.regs, .bus, .desk, .ldg, .out, .host, .pwr]
  | .dmaTailWrite _ _ _ => [.regs, .bus, .desk, .ldg, .out, .host, .pwr]
  | .copy _ _ _ => [.regs, .cells, .desk, .ldg, .out, .bags, .mem, .office, .host, .pwr]
  | .fill _ _ => [.regs, .cells, .desk, .ldg, .out, .bags, .mem, .office, .host, .pwr]
  | .copyAndWriteCrc _ _ _ => [.regs, .cells, .desk, .ldg, .out, .bags, .mem, .office, .host, .pwr]
  | .copyAndCheckCrc _ _ _ => [.regs, .cells, .desk, .ldg, .out, .bags, .mem, .office, .host, .pwr]
  | .dmaResume _ _ => [.regs, .bus, .desk, .ldg, .out, .host, .pwr]
  | .dmaStop _ _ _ => [.regs, .bus, .cells, .desk, .ldg, .out, .mem, .host, .pwr]
  | .dramScrubRead _ => [.regs, .cells, .desk, .ldg, .out, .bags, .mem, .office, .host, .pwr]
  | .slipTableSave => [.mem]
  | .nandQtailWrite _ _ => [.reg 0x4000, .reg 0x4020, .reg 0x4064, .reg 0x4071, .reg 0x4072, .bus, .desk, .ldg, .out, .host, .pwr]
  | .nandRead _ _ _ _ => [.reg 0x4000, .reg 0x4020, .reg 0x4063, .reg 0x4064, .reg 0x4071, .reg 0x4072, .cells, .desk, .ldg, .out,
      .mem, .host, .pwr]
  | .nandProgram _ _ _ _ => [.regs, .cells, .nand, .desk, .ldg, .out, .bags, .mem, .office, .host, .pwr]
  | .nandErase _ _ _ _ => [.reg 0x4000, .reg 0x4020, .reg 0x4063, .reg 0x4064, .reg 0x4071, .reg 0x4072, .cells, .nand, .desk, .ldg,
      .out, .mem, .host, .pwr]
  | .sensorBroken _ => [.regs, .ldg, .eng, .host]
  | .tripDiodeBroken _ => [.reg 0x4070, .reg 0x4072, .ldg]
  | .throttleStep => [.reg 0x4000, .reg 0x4001, .reg 0x4002, .reg 0x4014, .reg 0x4020, .reg 0x4028, .reg 0x4063, .reg 0x4070, .reg
      0x4071, .reg 0x4072, .desk, .ldg, .out, .eng, .pmk, .tck, .dec, .mem, .cons, .host, .heat, .pwr]
  | .thermalShutdown => [.regs, .desk, .ldg, .out, .eng, .loops, .pmk, .tck, .spn, .motor, .books, .dec, .mem, .cons, .host, .heat,
      .pwr]
  | .hardwareTrip _ _ => [.regs, .desk, .ldg, .out, .eng, .loops, .pmk, .tck, .spn, .motor, .books, .dec, .mem, .cons, .host, .heat,
      .pwr]
  | .thermalRestart _ => [.regs, .straps, .tick, .cells, .psp, .env, .bootKeys, .desk, .ldg, .out, .eng, .loops, .pmk, .tck, .spn,
      .motor, .cal, .books, .lanes, .dec, .rcv, .bags, .mem, .office, .cons, .host, .pre, .heat, .pwr]
  | .thmClrMinmax _ => [.reg 0x4000, .reg 0x4020, .reg 0x4071, .reg 0x4072, .bus, .desk, .ldg, .out, .host, .heat, .pwr]
  | .coreFault _ => [.reg 0x4000, .reg 0x4020, .reg 0x4071, .reg 0x4072, .desk, .ldg, .out, .host, .pwr]
  | .fltDone _ _ _ => [.regs, .bus, .desk, .ldg, .out, .eng, .loops, .pmk, .spn, .motor, .books, .host, .pwr]
  | .faultHandlerTimeout => [.regs, .desk, .ldg, .out, .eng, .loops, .pmk, .spn, .motor, .books, .host, .pwr]
  | .fltCapDataRead _ => [.reg 0x4000, .reg 0x4020, .reg 0x4071, .reg 0x4072, .bus, .desk, .ldg, .out, .host, .pwr]
  | .faultInjectionArm _ _ _ _ => [.reg 0x4000, .reg 0x4020, .reg 0x4063, .reg 0x4071, .reg 0x4072, .bus, .desk, .ldg, .out, .mem,
      .host, .pwr]
  | .faultInjectionDisarm _ => [.reg 0x4000, .reg 0x4020, .reg 0x4063, .reg 0x4071, .reg 0x4072, .bus, .desk, .ldg, .out, .mem, .host,
      .pwr]
  | .ldgCommit _ => [.regs, .bus, .desk, .ldg, .out, .host, .pwr]
  | .ledgerFreeze _ => [.reg 0x4000, .reg 0x4020, .reg 0x4071, .reg 0x4072, .bus, .desk, .ldg, .out, .host, .pwr]
  | .ledgerUnfreeze _ => [.reg 0x4000, .reg 0x4020, .reg 0x4071, .reg 0x4072, .bus, .desk, .ldg, .out, .host, .pwr]
  | .ldgStageDataRead _ => [.reg 0x4000, .reg 0x4020, .reg 0x4071, .reg 0x4072, .bus, .desk, .ldg, .out, .host, .pwr]
  | .ldgValueWrite _ _ _ => [.reg 0x4000, .reg 0x4020, .reg 0x4071, .reg 0x4072, .bus, .desk, .ldg, .out, .host, .pwr]
  | .preampFaultClear _ => [.loops]
  | .shortBrakeQuiet => [.reg 0x4020, .reg 0x4028, .eng, .spn, .motor]
  | .catchCoastEnd => [.regs, .desk, .ldg, .out, .eng, .loops, .motor, .books, .host, .pwr]
  | .llcIdle _ => [.reg 0x4030]
  | .kerrexFrameDiscard _ _ _ => [.reg 0x4031, .krx]
  | .frameDropped _ _ => [.reg 0x4050, .reg 0x4051]
  | .invalidPduType _ _ => [.regs, .desk, .ldg, .out, .bags, .host, .pwr]
  | .thermalShutdownDeferEnd => [.regs, .desk, .ldg, .out, .eng, .loops, .pmk, .spn, .motor, .books, .host, .heat, .pwr]

end Sys2Proof
end

