-- ==== Sys2Proof/Certificates/Slice0/Obligations.lean ====
section
/-!
DEFINITION. The statements about the device, drawn from the numbered rules of the spec, for the provers. Each says of the commands it
names that they complete and what their next state is.
-/
section
open Sys2Proof Sys2Proof.Machine

/-- A level beyond the absolute ratings stops the model (R463). -/
def Obligations.LevelsBeyondTheRatingsStop : Prop :=
  (∀ (volts : Nat) (fit : Option Fitment) (s : State),
      300 < volts →
      exec (.mainsApplied volts true fit) s = .fault .beyondRatings) ∧
  (∀ (volts : Nat) (fit : Option Fitment) (s : State),
      400 < volts →
      exec (.mainsApplied volts false fit) s = .fault .beyondRatings) ∧
  (∀ (mv : Nat) (facts : StartFacts) (s : State),
      33000 < mv →
      exec (.driveBusValid mv facts) s = .fault .beyondRatings) ∧
  (∀ (mv : Nat) (s : State),
      33000 < mv →
      exec (.chopperGateClose mv) s = .fault .beyondRatings) ∧
  (∀ (mv : Nat) (s : State),
      33000 < mv →
      exec (.llcIdle mv) s = .fault .beyondRatings) ∧
  (∀ (f : TickFacts) (s : State),
      33000 < f.dbus →
      exec (.tickBoundary f) s = .fault .beyondRatings)

/-- Mains entry up to the drive bus completes (R12, R49, R249, R250, R251, R253). Completes, under hypotheses on the state and the
operands alone: mainsApplied, acDcModeChoice, llcStart, driveBusValid, llcIdle. -/
def Obligations.PowerEntryRuns : Prop :=
  (∀ (volts : Nat) (ac : Bool) (fit : Option Fitment) (s : State),
      s.get Reg.PWR_STATUS_DBUS_VALID = 0 →
      s.get Reg.PWR_STATUS_PHASE = 0 →
      (ac = true → 85 ≤ volts ∧ volts ≤ 277) →
      (ac = false → 120 ≤ volts ∧ volts ≤ 380) →
      ∃ t, exec (.mainsApplied volts ac fit) s = .next t ∧ t.tick = 0 ∧ t.cells = [] ∧ t.nand = s.nand ∧ t.env = State.reset.env ∧
      t.variant = (fit.map (·.variant)).getD s.variant ∧ t.bus = .none ∧ t.pwr = ⟨true, false, false, 0, 0, 0, false, false, 0, 0, none, none, 0, false⟩) ∧
  (∀ (volts : Nat) (s : State),
      s.pwr.mains = true →
      s.pwr.chosen = false →
      exec (.acDcModeChoice true volts) s = .next { s.set Reg.PWR_STATUS_DC_MODE 0 with pwr := { s.pwr with chosen := true } }) ∧
  (∀ (volts : Nat) (s : State),
      s.pwr.mains = true →
      s.pwr.chosen = false →
      120 ≤ volts →
      exec (.acDcModeChoice false volts) s = .next { s.set Reg.PWR_STATUS_DC_MODE 1 with pwr := { s.pwr with chosen := true } }) ∧
  (∀ (bulk heldMs : Nat) (s : State),
      s.pwr.mains = true →
      (s.pwr.chosen = true ∨ s.pwr.cause = 1) →
      s.get Reg.PWR_STATUS_PHASE = 0 →
      s.pwr.llc = false →
      3500 < bulk →
      s.recMs ≤ heldMs →
      exec (.llcStart bulk heldMs) s = .next { s with pwr := { s.pwr with llc := true } }) ∧
  (∀ (mv : Nat) (facts : StartFacts) (s : State),
      s.pwr.llc = true →
      s.get Reg.PWR_STATUS_DBUS_VALID = 0 →
      22800 < mv →
      mv ≤ 33000 →
      s.desk.grave = none →
      s.pwr.offMs = none →
      exec (.driveBusValid mv facts) s =
      .next (({ s.set Reg.PWR_STATUS_DBUS_VALID 1 with
        krx := { s.krx with lineNs := s.clockNs, beaconNs := s.clockNs, seenNs := s.clockNs } }.set Reg.PWR_STATUS_PHASE 1).startDrive s.pwr.cause facts)) ∧
  (∀ (mv : Nat) (facts : StartFacts) (s : State),
      s.pwr.llc = true →
      s.get Reg.PWR_STATUS_DBUS_VALID = 0 →
      22800 < mv →
      mv ≤ 33000 →
      (s.desk.grave.isSome = true ∨ s.pwr.offMs.isSome = true) →
      exec (.driveBusValid mv facts) s = .next { s.set Reg.PWR_STATUS_DBUS_VALID 1 with
        krx := { s.krx with lineNs := s.clockNs, beaconNs := s.clockNs, seenNs := s.clockNs } }) ∧
  (∀ (mv : Nat) (s : State),
      s.pwr.llc = true →
      mv ≤ 33000 →
      exec (.llcIdle mv) s = .next (s.set Reg.PWR_STATUS_LLC_IDLE (if 24500 < mv then 1 else 0)))

/-- The mains-lost warning, recovery, declaration and shutoff complete (R250, R254, R255, R256, R257, R258, R263). Completes, under
hypotheses on the state and the operands alone: mainsLostWarning, recoveryMet, powerLossDeclared, declaredDomainShutoff, flushDone,
brownoutReset. -/
def Obligations.MainsLossRuns : Prop :=
  (∀ (silentMs bulk : Nat) (s : State),
      s.get Reg.PWR_STATUS_PHASE = 1 →
      s.get Reg.PWR_STATUS_DC_MODE = 0 →
      s.zcMs ≤ silentMs →
      exec (.mainsLostWarning silentMs bulk) s = .next s.warn) ∧
  (∀ (silentMs bulk : Nat) (s : State),
      s.get Reg.PWR_STATUS_PHASE = 1 →
      bulk < s.warnLevel →
      exec (.mainsLostWarning silentMs bulk) s = .next s.warn) ∧
  (∀ (bulk heldMs : Nat) (s : State),
      s.recLevel < bulk →
      s.recMs ≤ heldMs →
      s.get Reg.PWR_STATUS_PHASE = 2 →
      s.pwr.flushing = false →
      exec (.recoveryMet bulk heldMs true) s =
      .next ((((s.set Reg.PWR_STATUS_PHASE 1).inc Reg.PWR_COUNTS_RIDE_THROUGHS).set Reg.PWR_INT_RECOVERED 1).set Reg.HQ_CTRL_WR_FREEZE 0).ledgerPower) ∧
  (∀ (bulk heldMs : Nat) (s : State),
      s.recLevel < bulk →
      s.recMs ≤ heldMs →
      s.get Reg.PWR_STATUS_PHASE = 2 →
      s.pwr.flushing = true →
      exec (.recoveryMet bulk heldMs true) s =
      .next (((s.set Reg.PWR_STATUS_PHASE 1).inc Reg.PWR_COUNTS_RIDE_THROUGHS).set Reg.PWR_INT_RECOVERED 1).ledgerPower) ∧
  (∀ (bulk heldMs : Nat) (s : State),
      s.recLevel < bulk →
      s.recMs ≤ heldMs →
      s.get Reg.PWR_STATUS_PHASE = 3 →
      exec (.recoveryMet bulk heldMs true) s = .next { s.set Reg.PWR_INT_RECOVERED 1 with pwr := { s.pwr with recovered := true } }) ∧
  (∀ (bulk mv : Nat) (s u : State),
      s.get Reg.PWR_STATUS_PHASE = 2 →
      (s.pwr.warnMs + s.lossMs ≤ s.ms ∨ bulk < s.lossLevel ∨ s.headsAtRisk = true ∨ mv < 21000) →
      u = ({ ((s.set Reg.PWR_STATUS_PHASE 3).inc Reg.PWR_COUNTS_DECLARED).set Reg.PWR_INT_DECLARED 1 with
        pwr := { s.pwr with declaredMs := s.ms } }).emUnloadAll 0x2 →
      ((u.host.cmds.foldl (fun t p => t.answer p.1 interrupted) u).pwr.flushing = true) →
      exec (.powerLossDeclared bulk mv) s = .next (u.host.cmds.foldl (fun t p => t.answer p.1 interrupted) u).ledgerPower.latchedAfterDeclaration) ∧
  (∀ (s : State),
      s.get Reg.PWR_STATUS_PHASE = 3 →
      s.pwr.declaredMs + 10 ≤ s.ms →
      exec .declaredDomainShutoff s = .next (s.endAll.pdAllOff [18, 19, 20, 0, 1, 2, 3, 4, 5, 6, 7, 8, 9, 10, 24])) ∧
  (∀ (i : Initiator) (s : State),
      s.reaches i 0x40300000 = true →
      s.pwr.flushing = true →
      exec (.flushDone i) s = .next { s.flushDone with bus := .written }) ∧
  (∀ (bulk mv us : Nat) (s : State),
      (s.pwr.llc = true ∨ s.get Reg.PWR_STATUS_PHASE ≠ 0) →
      (bulk ≤ 1900 ∨ (s.pwr.llc = true ∧ mv < 18000 ∧ 1000 ≤ us ∧ bulk ≤ 2500)) →
      exec (.brownoutReset bulk mv us) s = .next s.brownout)

/-- Resets, the grave power cycle and its restarts complete (R59, R251, R443, R449). Completes, under hypotheses on the state and the
operands alone: llcFault, watchdogReset, graveFaultPowerCycle, switchedDomainsRestart, thermalRestart, nvmSubsystemReset. -/
def Obligations.DrivePowerCyclesRun : Prop :=
  (∀ (bulk mv us : Nat) (s : State),
      s.pwr.llc = true →
      s.get Reg.PWR_STATUS_DBUS_VALID ≠ 0 →
      mv < 18000 →
      1000 ≤ us →
      2500 < bulk →
      exec (.llcFault bulk mv us) s = .next ((s.set Reg.PWR_STATUS_DBUS_VALID 0).graveFault 0x30 0x0A 0 mv)) ∧
  (∀ (silentMs bootMs : Nat) (s : State),
      2000 ≤ silentMs →
      s.get Reg.PWR_STATUS_PHASE ≠ 0 →
      s.get Reg.PWR_STATUS_PHASE ≠ 4 →
      s.get Reg.SYS_BOOT_MODE ≠ 2 →
      exec (.watchdogReset silentMs bootMs) s =
      .next ((s.resetProtocol (s.slotOf (s.get Reg.SYS_BOOT_SLOT))).abandonWork.noteStart 0x2 bootMs)) ∧
  (∀ (thermal : Bool) (s : State),
      s.desk.grave = some thermal →
      s.desk.deferred = false →
      s.pwr.offMs = none →
      s.headsOff = false →
      thermal = false →
      exec .graveFaultPowerCycle s =
      .next { s.pdAllOff (List.range 30) with pwr := { (s.pdAllOff (List.range 30)).pwr with offMs := some (s.pdAllOff (List.range 30)).ms } }) ∧
  (∀ (s : State),
      s.desk.grave = some true →
      s.desk.deferred = false →
      s.pwr.offMs = none →
      s.headsOff = false →
      exec .graveFaultPowerCycle s = .next { (s.pdAllOff (List.range 30)).set Reg.THM_STATUS_STATE 4 with
        pwr := { (s.pdAllOff (List.range 30)).pwr with offMs := some (s.pdAllOff (List.range 30)).ms } }) ∧
  (∀ (facts : StartFacts) (t : Nat) (s : State),
      s.pwr.offMs = some t →
      t + 100 ≤ s.ms →
      s.get Reg.THM_STATUS_STATE ≠ 4 →
      s.get Reg.PWR_STATUS_DBUS_VALID ≠ 0 →
      exec (.switchedDomainsRestart facts) s = .next (s.restart facts)) ∧
  (∀ (facts : StartFacts) (off t : Nat) (s : State),
      s.pwr.offMs = some off →
      s.pwr.thermalMs = some t →
      s.get Reg.THM_STATUS_STATE = 4 →
      t + 60000 ≤ s.ms →
      s.junction ≤ level16 (min 95 (s.get Reg.THM_LVL_WARN)) →
      s.get Reg.PWR_STATUS_DBUS_VALID ≠ 0 →
      exec (.thermalRestart facts) s = .next (s.restart facts)) ∧
  (∀ (n bootMs : Nat) (fac : Area) (s : State),
      s.factory = some (n, fac) →
      s.get Reg.PWR_STATUS_PHASE ≠ 0 →
      s.get Reg.PWR_STATUS_PHASE ≠ 4 →
      s.get Reg.SYS_BOOT_MODE ≠ 2 →
      ∃ t, exec (.nvmSubsystemReset bootMs) s = .next t ∧ t.tick = s.tick ∧ t.loops = s.loops ∧ t.spn = s.spn ∧ t.cells = s.cells ∧
      t.nand = s.nand ∧ t.variant = s.variant ∧ t.pending = s.pending)

/-- The chopper commands complete (R264, R265, R271). Completes, under hypotheses on the state and the operands alone: chopperGateClose,
chopperGateOpen, chopFaultDetected, chopTest. -/
def Obligations.ChopperRuns : Prop :=
  (∀ (mv : Nat) (s : State),
      mv ≤ 33000 →
      20000 + 100 * s.get Reg.PWR_DBUS_LVL_CHOP_ON ≤ mv →
      s.get Reg.PWR_STATUS_CHOP_ON = 0 →
      s.get Reg.PWR_STATUS_CHOP_FAULT = 0 →
      exec (.chopperGateClose mv) s = .next ((s.set Reg.PWR_STATUS_CHOP_ON 1).inc Reg.PWR_COUNTS_CHOP_EVENTS)) ∧
  (∀ (mv : Nat) (s : State),
      mv < 20000 + 100 * s.get Reg.PWR_DBUS_LVL_CHOP_OFF →
      exec (.chopperGateOpen mv) s = .next (s.set Reg.PWR_STATUS_CHOP_ON 0)) ∧
  (∀ (mv ma us : Nat) (s : State),
      s.get Reg.PWR_STATUS_CHOP_ON ≠ 0 →
      20 * ma < mv →
      20 ≤ us →
      exec (.chopFaultDetected mv ma us false) s =
      .next (((s.set Reg.PWR_STATUS_CHOP_FAULT 1).set Reg.PWR_STATUS_CHOP_ON 0).set Reg.PWR_INT_CHOP_FAULT 1)) ∧
  (∀ (mv ma us : Nat) (rising : Bool) (s : State),
      s.get Reg.PWR_STATUS_CHOP_ON = 0 →
      0 < ma →
      exec (.chopFaultDetected mv ma us rising) s =
      .next (((s.set Reg.PWR_STATUS_CHOP_FAULT 1).set Reg.PWR_STATUS_CHOP_ON 0).set Reg.PWR_INT_CHOP_FAULT 1)) ∧
  (∀ (i : Initiator) (s : State),
      s.reaches i 0x40300000 = true →
      s.get Reg.PWR_STATUS_PHASE = 1 →
      exec (.chopTest i true) s = .next { s.inc Reg.PWR_COUNTS_CHOP_EVENTS with bus := .written }) ∧
  (∀ (i : Initiator) (s : State),
      s.reaches i 0x40300000 = true →
      s.get Reg.PWR_STATUS_PHASE = 1 →
      exec (.chopTest i false) s = .next { (((s.inc Reg.PWR_COUNTS_CHOP_EVENTS).set Reg.PWR_STATUS_CHOP_FAULT 1).set
        Reg.PWR_STATUS_CHOP_ON 0).set Reg.PWR_INT_CHOP_FAULT 1 with bus := .written }) ∧
  (∀ (i : Initiator) (passes : Bool) (s : State),
      s.reaches i 0x40300000 = true →
      s.get Reg.PWR_STATUS_PHASE ≠ 1 →
      exec (.chopTest i passes) s = .next (s.ignored i 0x40300000))

/-- Power domains, presence and the device records complete (R12, R40, R267, R268, R272, R469). Completes, under hypotheses on the state
and the operands alone: pdCtrlWrite, pdSwitchComplete, presentNRelease, presentNAssert, deviceRecordRewrite. -/
def Obligations.DomainsAndPresenceRun : Prop :=
  (∀ (i : Initiator) (v : Nat) (s : State),
      s.reaches i 0x40000030 = true →
      (((List.range 30).filter fun n => bitOf (s.get Reg.SYS_PD_CTRL_ON) n && !bitOf (s.pdWanted v) n && s.pdRefuses (s.pdWanted v) n) = []) →
      exec (.pdCtrlWrite i v) s = .next { (s.set Reg.SYS_PD_CTRL_ON (s.pdWanted v)).pdSwitching with bus := .written }) ∧
  (∀ (n : Nat) (s : State),
      n < 30 →
      s.bit Reg.SYS_PD_CTRL_ON n = true →
      s.pdOn n = false →
      exec (.pdSwitchComplete n) s = .next ((s.pdSwitchOn n).freshKeys n).pdSwitching) ∧
  (∀ (n : Nat) (s : State),
      n < 30 →
      s.bit Reg.SYS_PD_CTRL_ON n = false →
      s.pdOn n = true →
      exec (.pdSwitchComplete n) s = .next (s.pdSwitchOff n).pdSwitching) ∧
  (∀ (s : State),
      s.get Reg.SYS_IDENT_PRESENT ≠ 0 →
      exec .presentNRelease s = .next ((s.endAll.set Reg.SYS_IDENT_PRESENT 0).ledger 0x0090 [0, s.slot, 0, 0, 0, 0, 0])) ∧
  (∀ (straps : Nat) (s : State),
      s.get Reg.SYS_IDENT_PRESENT = 0 →
      straps < 64 →
      straps = s.slot →
      ∃ t, exec (.presentNAssert straps) s = .next t ∧ t.straps = straps ∧ t.get Reg.SYS_IDENT_PRESENT = 1 ∧ t.krx = s.krx ∧
      Only [.straps, .reg 0x4000, .reg 0x4072, .ldg, .krx] s t) ∧
  (∀ (straps : Nat) (s : State),
      s.get Reg.SYS_IDENT_PRESENT = 0 →
      straps < 64 →
      straps ≠ s.slot →
      ∃ t, exec (.presentNAssert straps) s = .next t ∧ t.straps = straps ∧ t.krx.silent = true ∧
      Only [.straps, .reg 0x4000, .reg 0x4020, .reg 0x4071, .reg 0x4072, .desk, .ldg, .krx, .out, .host, .pwr] s t) ∧
  (∀ (steps : Nat) (r : DevRecord) (s : State),
      s.psp.pend = some r →
      s.get Reg.PWR_STATUS_DBUS_VALID ≠ 0 →
      s.get Reg.PWR_STATUS_PHASE < 2 →
      2 ≤ steps →
      exec (.deviceRecordRewrite steps) s = .next (s.writeDev r)) ∧
  (∀ (steps : Nat) (r : DevRecord) (s : State),
      s.psp.pend = some r →
      s.get Reg.PWR_STATUS_DBUS_VALID ≠ 0 →
      s.get Reg.PWR_STATUS_PHASE < 2 →
      steps < 2 →
      exec (.deviceRecordRewrite steps) s = .next { s with psp := { s.psp with pend := none } })

/-- A register write completes under the bus rules and the access codes (R6, R7, R8, R54, R76). Completes, under hypotheses on the state
and the operands alone: registerWrite, stagedCopyWrite, tckCountLoRead. -/
def Obligations.RegisterWriteRuns : Prop :=
  (∀ (i : Initiator) (a size v : Nat) (s : State),
      isStaged a = false →
      (size ≠ 4 ∨ a % 4 ≠ 0) →
      exec (.registerWrite i a size v) s = .next (s.busError i a)) ∧
  (∀ (i : Initiator) (v : Nat) (s : State),
      s.reaches i 0x40300020 = true →
      ∃ t, exec (.registerWrite i 0x40300020 4 v) s = .next t ∧ t.bus = .written ∧
      t.get Reg.PWR_INT_WARN = (if v % 2 = 1 then 0 else s.get Reg.PWR_INT_WARN % 2) ∧ (∀ g : Fld, g.key / 32 ≠ 0x40300020 → t.get g = s.get g) ∧
      Only [.reg 0x4030, .bus] s t) ∧
  (∀ (i : Initiator) (a v : Nat) (s : State),
      isStaged a = false →
      s.reaches i a = true →
      exec (.registerWrite i a 4 v) s = .next (s.liveWrite i a v)) ∧
  (∀ (i : Initiator) (a v : Nat) (s : State),
      isStaged a = true →
      s.reaches i a = true →
      exec (.registerWrite i a 4 v) s = .next (s.stageWrite i a v) ∧ exec (.stagedCopyWrite i a 4 v) s = .next (s.stageWrite i a v)) ∧
  (∀ (n a v : Nat) (s : State),
      isStaged a = true →
      s.reaches (.core n) a = true →
      stageable (liveOf a) = true →
      s.sealState = 1 →
      s.get Reg.SYS_SEAL_STATUS_OWNER = n →
      s.deadStage (liveOf a) = false →
      exec (.stagedCopyWrite (.core n) a 4 v) s = .next { s.stage (liveOf a) (v % 2 ^ 32) with bus := .written }) ∧
  (∀ (i : Initiator) (a v : Nat) (s : State),
      isStaged a = true →
      s.reaches i a = true →
      stageable (liveOf a) = true →
      s.sealState ≠ 1 →
      exec (.stagedCopyWrite i a 4 v) s = .next (s.ignored i a)) ∧
  (∀ (i : Initiator) (s : State),
      s.reaches i 0x40020008 = true →
      exec (.tckCountLoRead i) s = .next { s.set Reg.TCK_COUNT_HI_COUNT_HI (s.tick / 2 ^ 32) with bus := .read (s.tick % 2 ^ 32) })

/-- Opening, sealing, posting and aborting an envelope complete (R53, R54, R55, R57). Completes, under hypotheses on the state and the
operands alone: envelopeOpen, envelopeSeal, sealCheckDone, envelopePost, envelopeAbort. -/
def Obligations.EnvelopeRuns : Prop :=
  (∀ (c : Nat) (s : State),
      s.reaches (.core c) 0x40000010 = true →
      s.sealState = 0 →
      exec (.envelopeOpen c) s = .next { s.noEnvelope.setAll [(Reg.SYS_SEAL_STATUS_STATE, 1), (Reg.SYS_SEAL_STATUS_OWNER, c)] with bus := .written }) ∧
  (∀ (c : Nat) (s : State),
      s.reaches (.core c) 0x40000010 = true →
      s.sealState = 1 →
      s.get Reg.SYS_SEAL_STATUS_OWNER = c →
      exec (.envelopeSeal c) s = .next { s.set Reg.SYS_SEAL_STATUS_STATE 2 with bus := .written }) ∧
  (∀ (s : State),
      s.sealState = 2 →
      s.sealRule s.env.writes = 0 →
      exec .sealCheckDone s = .next ((s.set Reg.SYS_SEAL_STATUS_STATE 3).set Reg.SYS_SEAL_STATUS_RULE 0)) ∧
  (∀ (s : State),
      s.sealState = 2 →
      s.sealRule s.env.writes ≠ 0 →
      exec .sealCheckDone s = .next (s.rejectSet (s.sealRule s.env.writes))) ∧
  (∀ (c d target : Nat) (s : State),
      s.reaches (.core c) 0x40000010 = true →
      s.sealState = 3 →
      s.get Reg.SYS_SEAL_STATUS_OWNER = c →
      s.tickRuns = true →
      s.postTarget d = some target →
      exec (.envelopePost c d) s =
      .next { ({ s with env := { s.env with armed := some target } } : State).set Reg.SYS_SEAL_STATUS_STATE 4 with bus := .written }) ∧
  (∀ (c d : Nat) (s : State),
      s.reaches (.core c) 0x40000010 = true →
      s.sealState = 3 →
      s.get Reg.SYS_SEAL_STATUS_OWNER = c →
      s.tickRuns = true →
      s.postTarget d = none →
      exec (.envelopePost c d) s = .next { s.set Reg.SYS_SEAL_STATUS_LATE 1 with bus := .written }) ∧
  (∀ (c : Nat) (s : State),
      s.reaches (.core c) 0x40000010 = true →
      s.sealState = 1 ∨ s.sealState = 3 ∨ s.sealState = 4 ∨ s.sealState = 5 →
      s.get Reg.SYS_SEAL_STATUS_OWNER = c →
      exec (.envelopeAbort c) s = .next { s.noEnvelope with bus := .written }) ∧
  (∀ (c d : Nat) (s : State),
      s.reaches (.core c) 0x40000010 = true →
      s.sealState ≠ 0 →
      s.get Reg.SYS_SEAL_STATUS_OWNER ≠ c →
      exec (.envelopeOpen c) s = .next (s.ignored (.core c) 0x40000010) ∧ exec (.envelopeSeal c) s = .next (s.ignored (.core c) 0x40000010) ∧
      exec (.envelopePost c d) s = .next (s.ignored (.core c) 0x40000010) ∧ exec (.envelopeAbort c) s = .next (s.ignored (.core c) 0x40000010))

/-- A tick boundary completes: device time grows by the tick and the count by one while the tick runs (R76). Completes, under hypotheses
on the state and the operands alone: tickBoundary. -/
def Obligations.TickBoundaryAdvances : Prop :=
  ∀ (f : TickFacts) (s : State),
    f.dbus ≤ 33000 →
    ∃ t, exec (.tickBoundary f) s = .next t ∧ t.clockNs = s.clockNs + f.ns ∧
    t.tick = (if s.pdOn 12 then (s.tick + 1) % 2 ^ 64 else s.tick) ∧ t.nand = s.nand ∧ t.variant = s.variant ∧ t.straps = s.straps ∧
    t.pending = s.pending

/-- The tick source and mailbox commands complete (R21, R79, R80, R87). Completes, under hypotheses on the state and the operands alone:
writeHoldRelease, forceFreeWrite, tckClrPeak, mailboxPost, mailboxDeliver. -/
def Obligations.TickControlRuns : Prop :=
  (∀ (s : State),
      s.get Reg.TCK_STATUS_SRC = 2 →
      s.get Reg.PMK_TICKCFG_WEDGES ≤ s.tck.discTicks →
      exec .writeHoldRelease s = .next (s.set Reg.TCK_STATUS_WR_HOLD 0)) ∧
  (∀ (i : Initiator) (v : Bool) (s : State),
      s.reaches i 0x40020000 = true →
      (v = true → s.headsOff = false) →
      exec (.forceFreeWrite i v) s = .next { s.set Reg.TCK_CTRL_FORCE_FREE (if v then 1 else 0) with bus := .written }) ∧
  (∀ (i : Initiator) (s : State),
      s.reaches i 0x40020000 = true →
      s.headsOff = true →
      exec (.forceFreeWrite i true) s = .next (s.ignored i 0x40020000)) ∧
  (∀ (i : Initiator) (s : State),
      s.reaches i 0x40020000 = true →
      exec (.tckClrPeak i) s = .next { s.set Reg.TCK_PEAK_PEAK_CYCLES 0 with bus := .written }) ∧
  (∀ (core loop : Nat) (words : List Nat) (s : State),
      s.pdOn 12 = true →
      (s.mail loop).count < 16 →
      exec (.mailboxPost core loop words) s = .next { s.putMail loop { s.mail loop with
        transit := (s.mail loop).transit ++ [⟨words.map (· % 2 ^ 32), 0⟩] } with bus := .written }) ∧
  (∀ (core loop : Nat) (words : List Nat) (s : State),
      s.pdOn 12 = true →
      16 ≤ (s.mail loop).count →
      exec (.mailboxPost core loop words) s = .next { s with bus := .busy }) ∧
  (∀ (loop afterNs : Nat) (x : Msg) (l : List Msg) (s : State),
      (s.mail loop).transit = x :: l →
      exec (.mailboxDeliver loop afterNs) s = .next (s.putMail loop { s.mail loop with
        transit := l, box := (s.mail loop).box ++ [⟨x.words, s.clockNs + afterNs⟩] }))

/-- The postmark commands complete (R66, R67, R70, R71, R81). Completes, under hypotheses on the state and the operands alone:
flyingLimitCrossed, parkSwitchClose, rampFaultTimeout, pmkStreamValid, pmkStreamDrop, pmkAcqTimeout. -/
def Obligations.PostmarkRuns : Prop :=
  (∀ (s : State),
      exec (.flyingLimitCrossed true) s = .next ({ s with pmk := { s.pmk with flying := true } } : State).loadHeads) ∧
  (∀ (s : State),
      exec (.flyingLimitCrossed false) s = .next ({ s with
      pmk := { s.pmk with flying := false, energA := false, energB := false, sinceA := s.clockNs, sinceB := s.clockNs } } : State).pmkRefresh) ∧
  (∀ (b : Bool) (s : State),
      s.energised b = false →
      exec (.parkSwitchClose b) s = .next (s.set (if b then Reg.PMK_STATUS_PARK_B else Reg.PMK_STATUS_PARK_A) 1).pmkRefresh) ∧
  (∀ (b : Bool) (s : State),
      s.energised b = true →
      exec (.parkSwitchClose b) s = .next ((s.set (if b then Reg.PMK_STATUS_PARK_B else Reg.PMK_STATUS_PARK_A) 1).rampFault b)) ∧
  (∀ (b : Bool) (s : State),
      s.energised b = true →
      s.parked b = true →
      (if b then s.pmk.sinceB else s.pmk.sinceA) + 150000000 < s.clockNs →
      exec (.rampFaultTimeout b) s = .next (s.rampFault b)) ∧
  (∀ (b : Bool) (s : State),
      (s.rampFault b).get Reg.PMK_STATUS_RAMP_FAULT = 1 ∧ (s.rampFault b).energised b = false) ∧
  (∀ (n amp : Nat) (a b : IndexFind) (s : State),
      n < 4 →
      s.streamRead n = true →
      s.bit Reg.PMK_CTRL_STREAM_EN n = true →
      s.bit Reg.PMK_STATUS_VALID n = false →
      s.get Reg.PMK_AMP_AMP_MIN ≤ amp →
      4096 ≤ s.pmk.tracked.getD n 0 →
      s.indexFound n a b = true →
      s.get Reg.TCK_STATUS_SRC ≠ 3 →
      s.tck.toWedge = none →
      exec (.pmkStreamValid n amp a b) s = .next ({ s.setStream n true with pmk := { (s.setStream n true).pmk with degraded := false } } : State).pmkRefresh) ∧
  (∀ (n : Nat) (c : DropCause) (s : State),
      (s.drops n c = true ∨ s.bit Reg.PMK_CTRL_STREAM_EN n = false ∨ s.get Reg.PMK_CTRL_ENABLE = 0) →
      exec (.pmkStreamDrop n c) s = .next (s.dropStream n)) ∧
  (∀ (t : Nat) (s : State),
      s.pmk.speedNs = some t →
      t + 600000000 ≤ s.clockNs →
      s.pmk.timedOut = false →
      s.pmkLocked = false →
      exec .pmkAcqTimeout s = .next { (s.set Reg.PMK_STATUS_ACQ_TIMEOUT 1).event 0x01 0x07 0 0x01 with
        pmk := { s.pmk with timedOut := true, degraded := s.on Reg.PMK_CTRL_DEGRADE_OK } })

/-- A cycle of the running slice completes for every sequencer operation (R163, R168, R179, R180). Completes, under hypotheses on the
state and the operands alone: next, br, brn, call, ret, loop, ldlc, dispatch, done, trap. -/
def Obligations.SequencerMicrowordsRun : Prop :=
  (∀ (n : Nat) (fetch dm : Ecc) (s : State),
      s.runsSlice n = true →
      ((s.wordAt n).seq = 0 ∨ 10 ≤ (s.wordAt n).seq) →
      exec (.next fetch dm) s = .next (s.oneCycle n fetch dm)) ∧
  (∀ (n : Nat) (fetch dm : Ecc) (s : State),
      s.runsSlice n = true →
      (s.wordAt n).seq = 1 →
      exec (.br fetch dm) s = .next (s.oneCycle n fetch dm)) ∧
  (∀ (n : Nat) (fetch dm : Ecc) (s : State),
      s.runsSlice n = true →
      (s.wordAt n).seq = 2 →
      exec (.brn fetch dm) s = .next (s.oneCycle n fetch dm)) ∧
  (∀ (n : Nat) (fetch dm : Ecc) (s : State),
      s.runsSlice n = true →
      (s.wordAt n).seq = 3 →
      exec (.call fetch dm) s = .next (s.oneCycle n fetch dm)) ∧
  (∀ (n : Nat) (fetch dm : Ecc) (s : State),
      s.runsSlice n = true →
      (s.wordAt n).seq = 4 →
      exec (.ret fetch dm) s = .next (s.oneCycle n fetch dm)) ∧
  (∀ (n : Nat) (fetch dm : Ecc) (s : State),
      s.runsSlice n = true →
      (s.wordAt n).seq = 5 →
      exec (.loop fetch dm) s = .next (s.oneCycle n fetch dm)) ∧
  (∀ (n : Nat) (fetch dm : Ecc) (s : State),
      s.runsSlice n = true →
      (s.wordAt n).seq = 6 →
      exec (.ldlc fetch dm) s = .next (s.oneCycle n fetch dm)) ∧
  (∀ (n : Nat) (fetch dm : Ecc) (s : State),
      s.runsSlice n = true →
      (s.wordAt n).seq = 7 →
      exec (.dispatch fetch dm) s = .next (s.oneCycle n fetch dm)) ∧
  (∀ (n : Nat) (fetch dm : Ecc) (s : State),
      s.runsSlice n = true →
      (s.wordAt n).seq = 8 →
      exec (.done fetch dm) s = .next (s.oneCycle n fetch dm)) ∧
  (∀ (n : Nat) (fetch dm : Ecc) (s : State),
      s.runsSlice n = true →
      (s.wordAt n).seq = 9 →
      exec (.trap fetch dm) s = .next (s.oneCycle n fetch dm))

/-- A cycle of the running slice completes for every ALU operation (R163, R171). Completes, under hypotheses on the state and the operands
alone: mov, add, sub, sadd, ssub, and, or, xor, asr, lsl, min, max, abs, neg, cmp, sge, sin, cos. -/
def Obligations.AluMicrowordsRun : Prop :=
  (∀ (n : Nat) (fetch dm : Ecc) (s : State),
      s.runsSlice n = true →
      (s.wordAt n).alu = 1 →
      exec (.mov fetch dm) s = .next (s.oneCycle n fetch dm)) ∧
  (∀ (n : Nat) (fetch dm : Ecc) (s : State),
      s.runsSlice n = true →
      (s.wordAt n).alu = 2 →
      exec (.add fetch dm) s = .next (s.oneCycle n fetch dm)) ∧
  (∀ (n : Nat) (fetch dm : Ecc) (s : State),
      s.runsSlice n = true →
      (s.wordAt n).alu = 3 →
      exec (.sub fetch dm) s = .next (s.oneCycle n fetch dm)) ∧
  (∀ (n : Nat) (fetch dm : Ecc) (s : State),
      s.runsSlice n = true →
      (s.wordAt n).alu = 4 →
      exec (.sadd fetch dm) s = .next (s.oneCycle n fetch dm)) ∧
  (∀ (n : Nat) (fetch dm : Ecc) (s : State),
      s.runsSlice n = true →
      (s.wordAt n).alu = 5 →
      exec (.ssub fetch dm) s = .next (s.oneCycle n fetch dm)) ∧
  (∀ (n : Nat) (fetch dm : Ecc) (s : State),
      s.runsSlice n = true →
      (s.wordAt n).alu = 6 →
      exec (.and fetch dm) s = .next (s.oneCycle n fetch dm)) ∧
  (∀ (n : Nat) (fetch dm : Ecc) (s : State),
      s.runsSlice n = true →
      (s.wordAt n).alu = 7 →
      exec (.or fetch dm) s = .next (s.oneCycle n fetch dm)) ∧
  (∀ (n : Nat) (fetch dm : Ecc) (s : State),
      s.runsSlice n = true →
      (s.wordAt n).alu = 8 →
      exec (.xor fetch dm) s = .next (s.oneCycle n fetch dm)) ∧
  (∀ (n : Nat) (fetch dm : Ecc) (s : State),
      s.runsSlice n = true →
      (s.wordAt n).alu = 9 →
      exec (.asr fetch dm) s = .next (s.oneCycle n fetch dm)) ∧
  (∀ (n : Nat) (fetch dm : Ecc) (s : State),
      s.runsSlice n = true →
      (s.wordAt n).alu = 10 →
      exec (.lsl fetch dm) s = .next (s.oneCycle n fetch dm)) ∧
  (∀ (n : Nat) (fetch dm : Ecc) (s : State),
      s.runsSlice n = true →
      (s.wordAt n).alu = 11 →
      exec (.min fetch dm) s = .next (s.oneCycle n fetch dm)) ∧
  (∀ (n : Nat) (fetch dm : Ecc) (s : State),
      s.runsSlice n = true →
      (s.wordAt n).alu = 12 →
      exec (.max fetch dm) s = .next (s.oneCycle n fetch dm)) ∧
  (∀ (n : Nat) (fetch dm : Ecc) (s : State),
      s.runsSlice n = true →
      (s.wordAt n).alu = 13 →
      exec (.abs fetch dm) s = .next (s.oneCycle n fetch dm)) ∧
  (∀ (n : Nat) (fetch dm : Ecc) (s : State),
      s.runsSlice n = true →
      (s.wordAt n).alu = 14 →
      exec (.neg fetch dm) s = .next (s.oneCycle n fetch dm)) ∧
  (∀ (n : Nat) (fetch dm : Ecc) (s : State),
      s.runsSlice n = true →
      (s.wordAt n).alu = 15 →
      exec (.cmp fetch dm) s = .next (s.oneCycle n fetch dm)) ∧
  (∀ (n : Nat) (fetch dm : Ecc) (s : State),
      s.runsSlice n = true →
      (s.wordAt n).alu = 16 →
      exec (.sge fetch dm) s = .next (s.oneCycle n fetch dm)) ∧
  (∀ (n : Nat) (fetch dm : Ecc) (s : State),
      s.runsSlice n = true →
      (s.wordAt n).alu = 17 →
      exec (.sin fetch dm) s = .next (s.oneCycle n fetch dm)) ∧
  (∀ (n : Nat) (fetch dm : Ecc) (s : State),
      s.runsSlice n = true →
      (s.wordAt n).alu = 18 →
      exec (.cos fetch dm) s = .next (s.oneCycle n fetch dm))

/-- A cycle completes for every multiply-accumulate, memory, port and capture operation (R163, R172, R174, R175, R177, R185). Completes,
under hypotheses on the state and the operands alone: mul, mac, msu, clr, memoryRead, memoryWrite, portRead, portWrite, capture. -/
def Obligations.MacMemoryPortMicrowordsRun : Prop :=
  (∀ (n : Nat) (fetch dm : Ecc) (s : State),
      s.runsSlice n = true →
      (s.wordAt n).mac = 1 →
      exec (.mul fetch dm) s = .next (s.oneCycle n fetch dm)) ∧
  (∀ (n : Nat) (fetch dm : Ecc) (s : State),
      s.runsSlice n = true →
      (s.wordAt n).mac = 2 →
      exec (.mac fetch dm) s = .next (s.oneCycle n fetch dm)) ∧
  (∀ (n : Nat) (fetch dm : Ecc) (s : State),
      s.runsSlice n = true →
      (s.wordAt n).mac = 3 →
      exec (.msu fetch dm) s = .next (s.oneCycle n fetch dm)) ∧
  (∀ (n : Nat) (fetch dm : Ecc) (s : State),
      s.runsSlice n = true →
      (s.wordAt n).mac = 4 →
      exec (.clr fetch dm) s = .next (s.oneCycle n fetch dm)) ∧
  (∀ (n : Nat) (fetch dm : Ecc) (s : State),
      s.runsSlice n = true →
      (s.wordAt n).memOp = 1 →
      exec (.memoryRead fetch dm) s = .next (s.oneCycle n fetch dm)) ∧
  (∀ (n : Nat) (fetch dm : Ecc) (s : State),
      s.runsSlice n = true →
      (s.wordAt n).memOp = 2 →
      exec (.memoryWrite fetch dm) s = .next (s.oneCycle n fetch dm)) ∧
  (∀ (n : Nat) (fetch dm : Ecc) (s : State),
      s.runsSlice n = true →
      (s.wordAt n).ioOp = 1 →
      exec (.portRead fetch dm) s = .next (s.oneCycle n fetch dm)) ∧
  (∀ (n : Nat) (fetch dm : Ecc) (s : State),
      s.runsSlice n = true →
      (s.wordAt n).ioOp = 2 →
      exec (.portWrite fetch dm) s = .next (s.oneCycle n fetch dm)) ∧
  (∀ (n : Nat) (fetch dm : Ecc) (s : State),
      s.runsSlice n = true →
      (s.wordAt n).cap = true →
      exec (.capture fetch dm) s = .next (s.oneCycle n fetch dm))

/-- What each sequencer operation does to the context of its slice (R168). -/
def Obligations.SequencerEffects : Prop :=
  (∀ (n a : Nat) (cond : Bool) (w : MW) (s : State),
      (s.sequence n w cond a).ctx n =
      (let k := s.ctx n
       let inc := (k.pc + 1) % 8192
       if w.seq = 1 then { k with pc := if cond then w.target else inc }
       else if w.seq = 2 then { k with pc := if cond then inc else w.target }
       else if w.seq = 3 then (if cond then { k with pc := w.target, stack := inc :: k.stack } else { k with pc := inc })
       else if w.seq = 4 then (if cond then { k with pc := k.stack.headD inc, stack := k.stack.tail } else { k with pc := inc })
       else if w.seq = 5 then
         { k with lc := (k.lc + 65535) % 65536, pc := if (k.lc + 65535) % 65536 = 0 then inc else w.target }
       else if w.seq = 6 then { k with lc := w.imm % 65536, pc := inc }
       else if w.seq = 7 then { k with pc := (w.target + a % 16) % 8192 }
       else { k with pc := inc })) ∧
  (∀ (n a : Nat) (cond : Bool) (w : MW) (s : State),
      Only [.eng] s (s.sequence n w cond a))

/-- The result and the overflow of each ALU operation (R171). -/
def Obligations.AluResultsStated : Prop :=
  ∀ (a b : Nat),
    a < 2 ^ 32 →
    b < 2 ^ 32 →
    (aluResult 1 a b).1 = a ∧ (aluResult 2 a b).1 = (a + b) % 2 ^ 32 ∧ (aluResult 3 a b).1 = (a + 2 ^ 32 - b) % 2 ^ 32 ∧
    (aluResult 2 a b).2 = decide (signed 32 a + signed 32 b < -2 ^ 31 ∨ 2 ^ 31 ≤ signed 32 a + signed 32 b) ∧
    (aluResult 6 a b).1 = a &&& b ∧ (aluResult 7 a b).1 = a ||| b ∧ (aluResult 8 a b).1 = a ^^^ b ∧
    (aluResult 10 a b).1 = a * 2 ^ (b % 32) % 2 ^ 32 ∧ (aluResult 16 a b).1 = (if signed 32 b ≤ signed 32 a then 1 else 0) ∧
    (aluResult 15 a b).1 = (aluResult 3 a b).1

/-- Loading, running and stopping the courier engine, its windows and its channels complete (R90, R170, R174, R181, R182, R184, R185,
R190). Completes, under hypotheses on the state and the operands alone: creLoad, creLoadDone, creRun, creStop, creClrPeaks,
creDmDataAccess, creCapDataRead, injectionEnd, captureEnd, segmentForcedEnd, sliceOverrun. -/
def Obligations.CourierControlRuns : Prop :=
  (∀ (i : Initiator) (s : State),
      s.reaches i 0x40200000 = true →
      s.get Reg.CRE_STATUS_STATE = 0 ∨ s.get Reg.CRE_STATUS_STATE = 2 ∨ s.get Reg.CRE_STATUS_STATE = 4 →
      exec (.creLoad i) s = .next { s.set Reg.CRE_STATUS_STATE 1 with bus := .written }) ∧
  (∀ (i : Initiator) (s : State),
      s.reaches i 0x40200000 = true →
      s.get Reg.CRE_STATUS_STATE = 1 ∨ s.get Reg.CRE_STATUS_STATE = 3 →
      exec (.creLoad i) s = .next (s.ignored i 0x40200000)) ∧
  (∀ (a : Nat) (words : Sparse Nat) (b : List Nat) (u s : State),
      s.get Reg.CRE_STATUS_STATE = 1 →
      a = s.get Reg.CRE_LOAD_LO_ADDR + 2 ^ 32 * s.get Reg.CRE_LOAD_HI_ADDR →
      words = s.imageWords a 24 8192 →
      b = s.imageBytes a (512 + 24 * 8192) →
      u = ({ s with eng := { s.eng with store := words } } : State).set Reg.CRE_INT_LOAD_DONE 1 →
      exec .creLoadDone s = .next (if (s.imageSigned b && words.all fun p => creReservedOk p.2) = true then
        (({ u with eng := { u.eng with provides := prologueProvides b } } : State).set Reg.CRE_STATUS_STATE 2).set Reg.CRE_BUILD_BUILD (prologueBuild b)
      else (u.set Reg.CRE_STATUS_STATE 0).set Reg.CRE_STATUS_LOAD_FAIL 1)) ∧
  (∀ (i : Initiator) (s : State),
      s.reaches i 0x40200000 = true →
      s.get Reg.CRE_STATUS_STATE = 2 ∨ s.get Reg.CRE_STATUS_STATE = 4 →
      exec (.creRun i) s = .next { s.set Reg.CRE_CTRL_RUN 1 with bus := .written, eng := { s.eng with runAt := some true } }) ∧
  (∀ (i : Initiator) (s : State),
      s.reaches i 0x40200000 = true →
      s.get Reg.CRE_STATUS_STATE = 0 ∨ s.get Reg.CRE_STATUS_STATE = 1 →
      exec (.creRun i) s = .next ((s.set Reg.CRE_CTRL_RUN 0).ignored i 0x40200000)) ∧
  (∀ (i : Initiator) (s : State),
      s.reaches i 0x40200000 = true →
      s.headsOff = false →
      s.pmkOff = false →
      s.turning = false →
      s.get Reg.CRE_STATUS_STATE = 3 →
      exec (.creStop i) s = .next { s.set Reg.CRE_CTRL_RUN 0 with bus := .written, eng := { s.eng with runAt := some false } }) ∧
  (∀ (i : Initiator) (s : State),
      s.reaches i 0x40200000 = true →
      (s.headsOff = true ∨ s.pmkOff = true ∨ s.turning = true) →
      exec (.creStop i) s = .next (s.ignored i 0x40200000)) ∧
  (∀ (i : Initiator) (s : State),
      s.reaches i 0x40200000 = true →
      exec (.creClrPeaks i) s = .next { (List.range 18).foldl (fun s n => s.set (Reg.CRE_CYCLES_PEAK n) 0) s with bus := .written }) ∧
  (∀ (i : Initiator) (s : State),
      s.reaches i 0x40200194 = true →
      exec (.creDmDataAccess i none) s = .next { (s.sramRead 3 (s.get Reg.CRE_DM_ADDR_ADDR) 1 0x20).set Reg.CRE_DM_ADDR_ADDR (s.get Reg.CRE_DM_ADDR_ADDR + 1) with
        bus := .read (sGet s.eng.dm (s.get Reg.CRE_DM_ADDR_ADDR) 0) }) ∧
  (∀ (i : Initiator) (v : Nat) (s : State),
      s.reaches i 0x40200194 = true →
      s.get Reg.CRE_STATUS_STATE ≠ 3 →
      ∃ t, exec (.creDmDataAccess i (some v)) s = .next t ∧ sGet t.eng.dm (s.get Reg.CRE_DM_ADDR_ADDR) 0 = v % 2 ^ 32 ∧ t.bus = .written) ∧
  (∀ (i : Initiator) (v : Nat) (s : State),
      s.reaches i 0x40200194 = true →
      s.get Reg.CRE_STATUS_STATE = 3 →
      exec (.creDmDataAccess i (some v)) s = .next (s.ignored i 0x40200194)) ∧
  (∀ (i : Initiator) (s : State),
      s.reaches i 0x4020019C = true →
      exec (.creCapDataRead i) s = .next { s.set Reg.CRE_CAP_ADDR_INDEX (s.get Reg.CRE_CAP_ADDR_INDEX + 1) with
        bus := .read (sGet s.eng.cap (4096 * s.get Reg.CRE_CAP_ADDR_CH + s.get Reg.CRE_CAP_ADDR_INDEX) 0) }) ∧
  (∀ (n : Nat) (s : State),
      s.get (Reg.CRE_INJ_STAT_ACTIVE n) ≠ 0 →
      (s.get (Reg.CRE_INJ_CTRL_ARM n) = 0 ∨ (s.injLen n ≤ s.get (Reg.CRE_INJ_STAT_INDEX n) + 1 ∧ s.get (Reg.CRE_INJ_CTRL_REPEAT n) = 0)) →
      exec (.injectionEnd n) s = .next ((s.set (Reg.CRE_INJ_STAT_ACTIVE n) 0).set (Reg.CRE_INJ_CTRL_ARM n) 0)) ∧
  (∀ (n : Nat) (s : State),
      s.get (Reg.CRE_CAP_STAT_ACTIVE n) ≠ 0 →
      s.capLen n ≤ s.get (Reg.CRE_CAP_STAT_COUNT n) →
      exec (.captureEnd n) s = .next (s.capEnd n)) ∧
  (∀ (n : Nat) (s u : State),
      s.eng.wait = .forced →
      s.eng.running = some n →
      u = (s.set Reg.CRE_STATUS_SEG_FORCED 1).commitX →
      (n = 17 ∨ sGet u.eng.used n 0 < u.sliceAlloc n) →
      exec .segmentForcedEnd s = .next ({ u with eng := { u.eng with wait := .none } } : State).schedule) ∧
  (∀ (n : Nat) (s : State),
      s.eng.wait = .overrun n →
      exec .sliceOverrun s = .next (((((s.putCtx n { s.ctx n with live := false }).setOverrun n).noteCycles n).sliceFail n 0x05).leave))

/-- A lane takes the entries of its ring, starts them or refuses them, and its control commands complete (R119, R123, R127, R128, R129,
R132, R114). Completes, under hypotheses on the state and the operands alone: laneQtailWrite, laneRead, laneReadSamples, laneWrite,
laneSkewMeasure, laneAbort, headEnClear, zoneEntryValidate, zoneEntryCheckDone, zoneEntryInvalidate. -/
def Obligations.LaneRingRuns : Prop :=
  (∀ (i : Initiator) (x : Act) (tail : Nat) (s : State),
      s.reaches i (x.laneBase + 0x18) = true →
      s.get (Reg.CH_STATUS_STATE x) ≠ 6 →
      s.laneQueued x (tail % 512) ≤ 256 →
      exec (.laneQtailWrite i x tail) s = .next { s.set (Reg.CH_Q_PTR_QTAIL x) tail with bus := .written }) ∧
  (∀ (i : Initiator) (x : Act) (tail : Nat) (s : State),
      s.reaches i (x.laneBase + 0x18) = true →
      s.get (Reg.CH_STATUS_STATE x) ≠ 6 →
      256 < s.laneQueued x (tail % 512) →
      exec (.laneQtailWrite i x tail) s = .next ((s.set (Reg.CH_INT_Q_OVF x) 1).ignored i (x.laneBase + 0x18))) ∧
  (∀ (x : Act) (s u : State),
      s.canTake x = true →
      s.rewritesFirst x (s.laneDecode x) = false →
      (s.laneDecode x).opcode ≠ 2 ∧ (s.laneDecode x).opcode ≠ 3 ∧ (s.laneDecode x).opcode ≠ 4 →
      u = s.set (Reg.CH_Q_PTR_QHEAD x) ((s.get (Reg.CH_Q_PTR_QHEAD x) + 1) % 512) →
      u.opRefusal x (s.laneDecode x) = none →
      exec (.laneRead x) s = .next (u.beginOp x (s.laneDecode x))) ∧
  (∀ (x : Act) (s u : State),
      s.canTake x = true →
      s.rewritesFirst x (s.laneDecode x) = false →
      (s.laneDecode x).opcode = 3 →
      u = s.set (Reg.CH_Q_PTR_QHEAD x) ((s.get (Reg.CH_Q_PTR_QHEAD x) + 1) % 512) →
      u.opRefusal x (s.laneDecode x) = none →
      exec (.laneReadSamples x) s = .next (u.beginOp x (s.laneDecode x))) ∧
  (∀ (x : Act) (s u : State),
      s.canTake x = true →
      s.rewritesFirst x (s.laneDecode x) = false →
      (s.laneDecode x).opcode = 2 →
      u = s.set (Reg.CH_Q_PTR_QHEAD x) ((s.get (Reg.CH_Q_PTR_QHEAD x) + 1) % 512) →
      u.opRefusal x (s.laneDecode x) = none →
      exec (.laneWrite x) s = .next (u.beginOp x (s.laneDecode x))) ∧
  (∀ (x : Act) (s u : State),
      s.canTake x = true →
      s.rewritesFirst x (s.laneDecode x) = false →
      (s.laneDecode x).opcode = 4 →
      u = s.set (Reg.CH_Q_PTR_QHEAD x) ((s.get (Reg.CH_Q_PTR_QHEAD x) + 1) % 512) →
      u.opRefusal x (s.laneDecode x) = none →
      exec (.laneSkewMeasure x) s = .next (u.beginOp x (s.laneDecode x))) ∧
  (∀ (x : Act) (e : Nat) (s u : State),
      s.canTake x = true →
      s.rewritesFirst x (s.laneDecode x) = false →
      (s.laneDecode x).opcode = 2 →
      u = s.set (Reg.CH_Q_PTR_QHEAD x) ((s.get (Reg.CH_Q_PTR_QHEAD x) + 1) % 512) →
      u.opRefusal x (s.laneDecode x) = some e →
      exec (.laneWrite x) s = .next ((u.complete x { s.laneDecode x with ended := some e }).laneRest x)) ∧
  (∀ (i : Initiator) (x : Act) (s : State),
      s.reaches i x.laneBase = true →
      exec (.laneAbort i x) s = .next { s.laneAbort x with bus := .written }) ∧
  (∀ (i : Initiator) (x : Act) (mask : Nat) (s : State),
      s.reaches i x.laneBase = true →
      s.mediaOp x = none →
      exec (.headEnClear i x mask) s = .next { s.set (Reg.CH_CTRL_HEAD_EN x) ((List.range 8).foldl (fun v h =>
        if bitOf mask h then Sys2Proof.setBit v h false else v) (s.get (Reg.CH_CTRL_HEAD_EN x))) with bus := .written }) ∧
  (∀ (i : Initiator) (x : Act) (k v : Nat) (s u : State),
      s.reaches i (zoneAddr x k 0) = true →
      u = s.setAll [(Reg.CH_ZONE_VALID x k, 0), (Reg.CH_ZONE_LAYOUT x k, bitsOf v 30 30), (Reg.CH_ZONE_START_TRACK x k, bitsOf v 23 0)] →
      (u.lane x).checking.contains k = false →
      exec (.zoneEntryValidate i x k v) s =
      .next { u.putLane x { u.lane x with checking := (u.lane x).checking ++ [k] } with bus := .written }) ∧
  (∀ (x : Act) (k : Nat) (s u : State),
      (s.lane x).checking.contains k = true →
      u = s.putLane x { s.lane x with checking := (s.lane x).checking.filter (· != k) } →
      exec (.zoneEntryCheckDone x k) s =
      .next (if u.zoneOk x k = true then (u.set (Reg.CH_ZONE_VALID x k) 1).set (Reg.CH_ZONE_ENTRY_ERR x k) 0 else u.zoneFail x k)) ∧
  (∀ (i : Initiator) (x : Act) (k w v : Nat) (s u : State),
      s.reaches i (zoneAddr x k w) = true →
      (u = s.putWord (zoneAddr x k w) v fun f => f.acc == .rw) →
      exec (.zoneEntryInvalidate i x k w v) s =
      .next { (u.putLane x { u.lane x with checking := (u.lane x).checking.filter (· != k) }).set (Reg.CH_ZONE_VALID x k) 0 with bus := .written })

/-- Sectors under the head, the heater, the write inhibit and completion of lane operations complete (R99, R101, R119, R121, R122, R123,
R129, R130, R139). Completes, under hypotheses on the state and the operands alone: sectorStart, heaterLeadElapsed,
writeInhibitReceived, laneOperationComplete, sectorRewrite. -/
def Obligations.SectorsRun : Prop :=
  (∀ (x : Act) (sector : Nat) (ready err : Bool) (sig : List Stretch) (o : LaneOp) (s u : State),
      s.fitted x = true →
      u = (s.set (Reg.CH_STATUS_SECTOR x) sector).endSector x →
      u.mediaOp x = some o →
      o.ended = none →
      u.laneTurn x = true →
      u.laneMatch x o = true →
      o.measure = none →
      o.first ≤ sector →
      o.wants (sector - o.first) = true →
      o.opcode ≠ 2 →
      u.bit (Reg.CH_CTRL_HEAD_EN x) o.head = true →
      (o.opcode = 3 ∨ (u.lane x).store.length < 32) →
      u.rereadWaits x o sector = false →
      exec (.sectorStart x sector ready err sig) s = .next (u.startRead x o (sector - o.first) sig)) ∧
  (∀ (x : Act) (sector : Nat) (sig : List Stretch) (o : LaneOp) (s u : State),
      s.fitted x = true →
      u = (s.set (Reg.CH_STATUS_SECTOR x) sector).endSector x →
      u.mediaOp x = some o →
      o.ended = none →
      u.laneTurn x = true →
      u.laneMatch x o = true →
      o.measure = none →
      o.first ≤ sector →
      o.wants (sector - o.first) = true →
      o.opcode = 2 →
      u.get Reg.TCK_STATUS_WR_HOLD = 0 →
      u.get (Reg.CH_CTRL_WRITE_EN x) ≠ 0 →
      u.pdOn (4 + x.n) = true →
      u.bit (Reg.CH_CTRL_HEAD_EN x) o.head = true →
      u.inhibited x = false →
      o.heater = true →
      (u.lane x).store.length < 32 →
      u.unreadable u.phcOwns (u.dataAt o (sector - o.first)) 4096 [] = none →
      exec (.sectorStart x sector true false sig) s =
      .next ((u.eccRead (u.dataAt o (sector - o.first)) 4096 []).startWrite x o (sector - o.first) sig)) ∧
  (∀ (x : Act) (us : Nat) (o : LaneOp) (s t : State),
      s.mediaOp x = some o →
      o.opcode = 2 →
      o.heater = false →
      s.get (Reg.CH_HTR_HTR_LEAD x) ≤ us →
      (t = s.mapOp x o.serial (fun o => { o with heater := true })) →
      exec (.heaterLeadElapsed x us) s = .next (if t.get (Reg.CH_STATUS_STATE x) = 3 then t.set (Reg.CH_STATUS_STATE x) 5 else t)) ∧
  (∀ (x : Act) (o : LaneOp) (lastFourT : Bool) (s : State),
      s.mediaOp x = some o →
      o.opcode = 2 →
      o.started ≠ [] →
      (s.lane x).passing = none →
      exec (.writeInhibitReceived x lastFourT) s =
      .next ((((s.putLane x { s.lane x with passing := none }).set (Reg.CH_STATUS_WR_GATE x) 0).endOp x o.serial 0x03).checkMedia x)) ∧
  (∀ (x : Act) (o : LaneOp) (lastFourT : Bool) (s : State),
      s.mediaOp x = some o →
      o.started = [] →
      exec (.writeInhibitReceived x lastFourT) s = .next s) ∧
  (∀ (x : Act) (k : Nat) (o : LaneOp) (s v : State),
      (s.lane x).ops[k]? = some o →
      o.media = false →
      (((s.lane x).store.any fun c => c.op == o.serial && c.firstPass) = false) →
      (o.opcode = 2 ∨ o.opcode = 4) →
      v = (s.writeTaps x o).noteNotPlaced x o →
      exec (.laneOperationComplete x k) s =
      .next ((((v.putLane x { v.lane x with ops := (v.lane x).ops.filter fun p => p.serial != o.serial }).noteMove x o).complete x o).abortOn x)) ∧
  (∀ (x : Act) (k : Nat) (o : LaneOp) (s v : State),
      (s.lane x).ops[k]? = some o →
      o.media = false →
      (((s.lane x).store.any fun c => c.op == o.serial && c.firstPass) = false) →
      (o.opcode = 1 ∨ o.opcode = 3) →
      v = ((s.writeTaps x o).noteNotPlaced x o).measureSkew x o.head o.marks →
      exec (.laneOperationComplete x k) s =
      .next ((((v.putLane x { v.lane x with ops := (v.lane x).ops.filter fun p => p.serial != o.serial }).noteMove x o).complete x o).abortOn x)) ∧
  (∀ (x : Act) (k : Nat) (p : NotPlaced) (o : LaneOp) (s u : State),
      (s.lane x).notPlaced[k]? = some p →
      s.laneFree x = true →
      p.tries < s.rcv.policy.rewrites →
      (u = s.putLane x { s.lane x with notPlaced := (s.lane x).notPlaced.map fun q => if q == p then { q with tries := q.tries + 1 } else q }) →
      o = u.newOp x 2 p.head p.zone 0xFFFF p.track p.sector 1 false p.epoch p.data p.tagAt p.statusAt →
      u.opRefusal x o = none →
      exec (.sectorRewrite x k) s = .next (u.beginOp x o)) ∧
  (∀ (x : Act) (k : Nat) (p : NotPlaced) (s : State),
      (s.lane x).notPlaced[k]? = some p →
      s.laneFree x = true →
      s.rcv.policy.rewrites ≤ p.tries →
      exec (.sectorRewrite x k) s = .next (s.relocate x p))

/-- First passes, receipts and the copy to the recovery store complete (R104, R106, R118, R136, R138, R140). Completes, under hypotheses
on the state and the operands alone: firstPassDone, receiptDecided, recoveryStoreCopyDone. -/
def Obligations.FirstPassesRun : Prop :=
  (∀ (x : Act) (sector half : Nat) (be : Bool) (c d : Codeword) (p : Pass) (s u : State),
      s.findCodeword x sector .read = some c →
      u = (s.passedBy x c).decodeOn x c half →
      (((u.lane x).store.find? fun d => d.op == c.op && d.sector == c.sector) = some d) →
      d.pass = some p →
      p.fin = .failed →
      exec (.firstPassDone x sector half be) s = .next ((u.countRead (surfaceOf x d.head)).handOver x d 0x20)) ∧
  (∀ (x : Act) (sector half v : Nat) (be : Bool) (c d : Codeword) (p : Pass) (s u t : State),
      s.findCodeword x sector .read = some c →
      u = (s.passedBy x c).decodeOn x c half →
      (((u.lane x).store.find? fun d => d.op == c.op && d.sector == c.sector) = some d) →
      d.pass = some p →
      p.fin = .converged →
      t = u.countRead (surfaceOf x d.head) →
      v = judge (surfaceOf x d.head) d.track d.number d.epoch p.info →
      exec (.firstPassDone x sector half be) s = .next (if 2 < v then t.handOver x d v
      else if be then (t.freeStore x d).decide x d.op d.sector 0x40
      else (((t.freeStore x d).deliverTo d.data d.tagAt (bodyAt (surfaceOf x d.head) d.track d.number p.info)).mirrorServes x d
        (bodyAt (surfaceOf x d.head) d.track d.number p.info)).decide x d.op d.sector v)) ∧
  (∀ (x : Act) (sector half : Nat) (c d : Codeword) (s u v w : State),
      s.findCodeword x sector .receipt = some c →
      u = s.passedBy x c →
      v = (if c.framing = 0 then u.decodeOn x c half else u) →
      (((v.lane x).store.find? fun e => e.op == c.op && e.sector == c.sector) = some d) →
      (d.framing ≠ 0 ∨ ∃ p, d.pass = some p ∧ p.fin ≠ .running) →
      w = v.setAll [(Reg.CH_RCPT_LAST_RAW_ERR x, min 65535 d.raw), (Reg.CH_RCPT_LAST_ITER x, (d.pass.map (·.iters)).getD 0),
        (Reg.CH_RCPT_LAST_SECTOR x, sector)] →
      exec (.receiptDecided x sector half) s =
      .next ((((if receiptOutcome x d d.raw = 1 then w.inc (Reg.CH_RCPT_COUNT_MARGINAL x)
        else if receiptOutcome x d d.raw = 2 then w.inc (Reg.CH_RCPT_COUNT_FAILED x) else w) : State).freeStore x d).decide x d.op d.sector
        (if receiptOutcome x d d.raw = 2 then 0x10 else 0x01))) ∧
  (∀ (x : Act) (sector k code : Nat) (cmd : Option Nat) (lpn sect : Nat) (c : Codeword) (s : State),
      s.freeRcv = some k →
      (((s.lane x).store.find? fun c => c.kind.code.isSome && c.number == sector) = some c) →
      c.kind = .moving code →
      exec (.recoveryStoreCopyDone x sector cmd lpn sect) s = .next (((s.store (s.rcvAt k) (c.held.toBytes.map (BitVec.ofNat 8))).freeStore x c).takePlace k
      (s.claimPlace (s.recPlace x c code) cmd lpn sect))) ∧
  (∀ (x : Act) (sector k : Nat) (cmd : Option Nat) (lpn sect : Nat) (q : RecPlace) (s : State),
      s.freeRcv = some k →
      (((s.lane x).store.find? fun c => c.kind.code.isSome && c.number == sector) = none) →
      ((s.rcv.queue.find? fun q => q.lane == x.n && q.sector == sector) = some q) →
      s.rcvUsed < 256 →
      exec (.recoveryStoreCopyDone x sector cmd lpn sect) s =
      .next ((s.putRcv { s.rcv with queue := s.rcv.queue.erase q }).takePlace k (s.claimPlace q cmd lpn sect)))

/-- The decoder pool commands complete (R105, R107, R135, R158). Completes, under hypotheses on the state and the operands alone:
decoderFrameStart, decoderHalfLoss, decoderHalfEnable, decoderHalfDisable, recoveryJobPost. -/
def Obligations.DecoderPoolRuns : Prop :=
  (∀ (half : Nat) (s u : State),
      half < 2 →
      (u = State.poolRun half (fun s => s.unitsLeft half = 0) poolSteps s) →
      exec (.decoderFrameStart half) s = .next (u.startFrame half)) ∧
  (∀ (s : State),
      s.dec.left0 = 0 →
      (0 : Nat) ∉ s.dec.returning →
      exec (.decoderFrameStart 0) s = .next { s with dec := { s.dec with credit0 := frameCredits s.weights, left0 := 64 } }) ∧
  (∀ (s : State),
      s.dec.left1 = 0 →
      (1 : Nat) ∈ s.dec.returning →
      exec (.decoderFrameStart 1) s =
      .next { s.setHalf 1 true with dec := { s.dec with credit1 := frameCredits s.weights, left1 := 64, returning := s.dec.returning.filter (· != 1) } }) ∧
  (∀ (half : Nat) (s : State),
      half < 2 →
      s.bit Reg.DEC_STATUS_IN_SERVICE half = true →
      exec (.decoderHalfLoss half) s = .next (((((s.setHalf half false).setBit Reg.DEC_STATUS_FAULT half true).set
        (if half = 0 then Reg.DEC_INT_HALF0_LOST else Reg.DEC_INT_HALF1_LOST) 1).releaseHalf half).event 0x14 0x08 0 0x14)) ∧
  (∀ (i : Initiator) (half : Nat) (s : State),
      s.reaches i 0x40140000 = true →
      s.bit Reg.DEC_STATUS_FAULT half = true →
      exec (.decoderHalfEnable i half) s = .next (s.ignored i 0x40140000)) ∧
  (∀ (i : Initiator) (half : Nat) (s : State),
      s.reaches i 0x40140000 = true →
      s.bit Reg.DEC_STATUS_FAULT half = false →
      s.bit Reg.DEC_STATUS_IN_SERVICE half = false →
      half ∉ s.dec.returning →
      exec (.decoderHalfEnable i half) s =
      .next { s.set (halfEn half) 1 with dec := { s.dec with returning := s.dec.returning ++ [half] }, bus := .written }) ∧
  (∀ (i : Initiator) (half : Nat) (s : State),
      s.reaches i 0x40140000 = true →
      s.get (halfEn (1 - half)) ≠ 0 →
      s.bit Reg.DEC_STATUS_FAULT (1 - half) = false →
      exec (.decoderHalfDisable i half) s = .next { ((s.set (halfEn half) 0).setHalf half false).releaseHalf half with
        dec := { (((s.set (halfEn half) 0).setHalf half false).releaseHalf half).dec with
          returning := (((s.set (halfEn half) 0).setHalf half false).releaseHalf half).dec.returning.filter (· != half) }, bus := .written }) ∧
  (∀ (i : Initiator) (half : Nat) (s : State),
      s.reaches i 0x40140000 = true →
      (s.get (halfEn (1 - half)) = 0 ∨ s.bit Reg.DEC_STATUS_FAULT (1 - half) = true) →
      exec (.decoderHalfDisable i half) s = .next (s.ignored i 0x40140000)) ∧
  (∀ (i : Initiator) (tail : Nat) (s : State),
      s.reaches i 0x40140028 = true →
      s.jobsQueued (tail % 512) ≤ 256 →
      exec (.recoveryJobPost i tail) s = .next { (s.latchJobs (s.get Reg.DEC_RJ_PTR_RJTAIL) ((tail + 512 - s.get Reg.DEC_RJ_PTR_RJTAIL) % 512)).set
        Reg.DEC_RJ_PTR_RJTAIL tail with bus := .written })

/-- Decode jobs and the steps of the ladder complete (R141, R144, R145, R149, R150, R152, R158, R159). Completes, under hypotheses on the
state and the operands alone: decodeSampleArea, decodeRunningSum, cancelJob, heldSampleRungsDone, earlyReconstructionStart,
ladderTimeLimit. -/
def Obligations.RecoveryLadderRuns : Prop :=
  (∀ (half : Nat) (s u : State),
      ((s.rcv.work.any fun w => w.kind == 1) = false) →
      s.jobsQueued (s.get Reg.DEC_RJ_PTR_RJTAIL) ≠ 0 →
      s.resultRoom = true →
      s.get Reg.DEC_STATUS_IN_SERVICE ≠ 0 →
      bitsOf (s.jobWord (s.get Reg.DEC_RJ_PTR_RJHEAD) 0) 31 28 = 1 →
      u = s.set Reg.DEC_RJ_PTR_RJHEAD ((s.get Reg.DEC_RJ_PTR_RJHEAD + 1) % 512) →
      exec (.decodeSampleArea half) s = .next ((u.beginJob 1 (bitsOf (s.jobWord (s.get Reg.DEC_RJ_PTR_RJHEAD) 0) 15 0) (bitsOf (s.jobWord (s.get Reg.DEC_RJ_PTR_RJHEAD) 1) 31 24) (bitsOf (s.jobWord (s.get Reg.DEC_RJ_PTR_RJHEAD) 1) 23 16) ((s.jobWord (s.get Reg.DEC_RJ_PTR_RJHEAD) 2) + 2 ^ 32 * (s.jobWord (s.get Reg.DEC_RJ_PTR_RJHEAD) 3))
        (sGet s.rcv.posts (s.get Reg.DEC_RJ_PTR_RJHEAD % 256) 3)).runJob 1 half)) ∧
  (∀ (half : Nat) (w v : Work) (e : WorkEnd) (s u : State),
      ((s.rcv.work.find? fun w => w.kind == 1) = some w) →
      u = s.runWork w half →
      u.workNow w = some v →
      v.fin = some e →
      exec (.decodeSampleArea half) s = .next (u.jobEnd v e)) ∧
  (∀ (half : Nat) (s u : State),
      ((s.rcv.work.any fun w => w.kind == 2) = false) →
      s.jobsQueued (s.get Reg.DEC_RJ_PTR_RJTAIL) ≠ 0 →
      s.resultRoom = true →
      s.get Reg.DEC_STATUS_IN_SERVICE ≠ 0 →
      bitsOf (s.jobWord (s.get Reg.DEC_RJ_PTR_RJHEAD) 0) 31 28 = 2 →
      u = s.set Reg.DEC_RJ_PTR_RJHEAD ((s.get Reg.DEC_RJ_PTR_RJHEAD + 1) % 512) →
      exec (.decodeRunningSum half) s = .next ((u.beginJob 2 (bitsOf (s.jobWord (s.get Reg.DEC_RJ_PTR_RJHEAD) 0) 15 0) (bitsOf (s.jobWord (s.get Reg.DEC_RJ_PTR_RJHEAD) 1) 31 24) (bitsOf (s.jobWord (s.get Reg.DEC_RJ_PTR_RJHEAD) 1) 23 16) ((s.jobWord (s.get Reg.DEC_RJ_PTR_RJHEAD) 2) + 2 ^ 32 * (s.jobWord (s.get Reg.DEC_RJ_PTR_RJHEAD) 3))
        (sGet s.rcv.posts (s.get Reg.DEC_RJ_PTR_RJHEAD % 256) 3)).runJob 2 half)) ∧
  (∀ (half : Nat) (w v : Work) (e : WorkEnd) (s u : State),
      ((s.rcv.work.find? fun w => w.kind == 2) = some w) →
      u = s.runWork w half →
      u.workNow w = some v →
      v.fin = some e →
      exec (.decodeRunningSum half) s = .next (u.jobEnd v e)) ∧
  (∀ (p : RecPlace) (s u : State),
      s.jobsQueued (s.get Reg.DEC_RJ_PTR_RJTAIL) ≠ 0 →
      s.resultRoom = true →
      s.get Reg.DEC_STATUS_IN_SERVICE ≠ 0 →
      bitsOf (s.jobWord (s.get Reg.DEC_RJ_PTR_RJHEAD) 0) 31 28 = 3 →
      u = s.set Reg.DEC_RJ_PTR_RJHEAD ((s.get Reg.DEC_RJ_PTR_RJHEAD + 1) % 512) →
      sGet? s.rcv.places (bitsOf (s.jobWord (s.get Reg.DEC_RJ_PTR_RJHEAD) 1) 31 24) = some p →
      p.sum = false →
      p.rung ≠ 6 →
      bitsOf (s.jobWord (s.get Reg.DEC_RJ_PTR_RJHEAD) 1) 23 16 = 0xFF →
      exec .cancelJob s =
      .next ((u.freePlaceRcv (bitsOf (s.jobWord (s.get Reg.DEC_RJ_PTR_RJHEAD) 1) 31 24)).jobResult (bitsOf (s.jobWord (s.get Reg.DEC_RJ_PTR_RJHEAD) 0) 15 0) 0x04 (bitsOf (s.jobWord (s.get Reg.DEC_RJ_PTR_RJHEAD) 1) 31 24) 0 0 0 0)) ∧
  (∀ (place half : Nat) (w v : Work) (e : WorkEnd) (s u : State),
      ((s.rcv.work.find? fun w => w.kind == 0 && w.place == place) = some w) →
      u = s.runWork w half →
      u.workNow w = some v →
      v.fin = some e →
      u.resultRoom = true →
      exec (.heldSampleRungsDone place half) s = .next (u.heldEnd v e)) ∧
  (∀ (place : Nat) (p : RecPlace) (s : State),
      sGet? s.rcv.places place = some p →
      p.cmd.isSome = true →
      p.wanted s = true →
      p.early = false →
      p.sum = false →
      s.canRebuild p.lpn p.sect p.surface = true →
      (s.rcv.policy.earlyRevs ≤ p.revs ∨ s.headRetired (Act.num p.lane) p.head = true) →
      exec (.earlyReconstructionStart place) s = .next (s.putPlace place { p with early := true })) ∧
  (∀ (place : Nat) (p : RecPlace) (s : State),
      sGet? s.rcv.places place = some p →
      3 ≤ p.rung →
      p.rung ≤ 5 →
      (p.sinceMs + s.rcv.policy.ladderMs ≤ s.ms ∨ s.commandLimit p = true) →
      exec (.ladderTimeLimit place) s = .next (s.toSix place p))

/-- An actuator loop takes up the message at the head of its mailbox and acts on it (R200, R201, R208, R209, R213, R214, R217). Completes,
under hypotheses on the state and the operands alone: seek, head, load, unload, offset, retire, coef. -/
def Obligations.ActuatorMessagesRun : Prop :=
  (∀ (x : Act) (m : Msg) (w : Motion) (s u t : State),
      s.takeMsg x 0x01 = some m →
      w = ⟨.seek, m.tag, bitsOf (m.word 1) 31 29, bitsOf (m.word 1) 23 0, bitsOf (m.word 2) 1 0, bitOf (m.word 2) 2, s.tick, none, none, false,
        false, false⟩ →
      (s.lp x).waiting.length + b2n (s.lp x).cur.isSome < 4 →
      u = s.discard (x.n + 1) →
      (u.lp x).mode ≠ .unloading →
      (u.lp x).mode ≠ .emergency →
      (u.lp x).waiting = [] →
      (u.lp x).cur = none →
      (u.lp x).retracting = false →
      t = u.putLp x { u.lp x with waiting := [], offsetTag := none } →
      t.refusal x w = none →
      exec (.seek x) s = .next ((t.putLp x { t.lp x with offset := 0 }).beginSeek x w)) ∧
  (∀ (x : Act) (m : Msg) (w : Motion) (s u t : State),
      s.takeMsg x 0x02 = some m →
      w = ⟨.head, m.tag, bitsOf (m.word 1) 31 29, bitsOf (m.word 1) 23 0, 1, false, s.tick, none, none, false,
        false, false⟩ →
      (s.lp x).waiting.length + b2n (s.lp x).cur.isSome < 4 →
      u = s.discard (x.n + 1) →
      (u.lp x).mode ≠ .unloading →
      (u.lp x).mode ≠ .emergency →
      (u.lp x).waiting = [] →
      (u.lp x).cur = none →
      (u.lp x).retracting = false →
      t = u.putLp x { u.lp x with waiting := [], offsetTag := none } →
      t.refusal x w = none →
      exec (.head x) s = .next ((t.putLp x { t.lp x with cur := some { w with began := some t.tick }, offset := 0 }).beginSwitch x w.head w.track)) ∧
  (∀ (x : Act) (rCoil : Nat) (m : Msg) (w : Motion) (s u t : State),
      s.takeMsg x 0x04 = some m →
      w = ⟨.load, m.tag, bitsOf (m.word 1) 31 29, bitsOf (m.word 1) 23 0, 1, false, s.tick, none, none, false,
        false, false⟩ →
      (s.lp x).waiting.length + b2n (s.lp x).cur.isSome < 4 →
      u = s.discard (x.n + 1) →
      (u.lp x).mode ≠ .unloading →
      (u.lp x).mode ≠ .emergency →
      (u.lp x).waiting = [] →
      (u.lp x).cur = none →
      (u.lp x).retracting = false →
      t = u.putLp x { u.lp x with waiting := [], offsetTag := none } →
      t.refusal x w = none →
      t.loadSlot x = true →
      exec (.load x rCoil) s = .next (t.beginLoad x w rCoil)) ∧
  (∀ (x : Act) (m : Msg) (w : Motion) (s u v : State),
      s.takeMsg x 0x05 = some m →
      u = s.discard (x.n + 1) →
      (u.lp x).mode ≠ .emergency →
      v = ((u.freePartner x).refuseCur x 0x02).refuseWaiting x 0x02 →
      w = ⟨.unload, m.tag, 0, 0, 1, false, s.tick, some s.tick, none, false, false, false⟩ →
      v.refusal x w = none →
      exec (.unload x) s = .next (v.beginUnload x (some w))) ∧
  (∀ (x : Act) (m : Msg) (o : Int) (s u v : State),
      s.takeMsg x 0x03 = some m →
      u = s.discard (x.n + 1) →
      o = signed 32 (m.word 1) →
      (u.lp x).mode = .follow →
      v = u.putLp x { u.lp x with offset := o, offsetTag := some m.tag, onCount := 0 } →
      exec (.offset x) s = .next (if o = 0 then v else v.setInhibit x true false)) ∧
  (∀ (x : Act) (m : Msg) (s u : State),
      s.takeMsg x 0x06 = some m →
      u = s.discard (x.n + 1) →
      exec (.retire x) s = .next (u.retire x (m.word 1 % 256))) ∧
  (∀ (x : Act) (m : Msg) (s u : State),
      s.takeMsg x 0x07 = some m →
      u = s.discard (x.n + 1) →
      m.word 1 < 4 →
      exec (.coef x) s = .next (u.putLp x { u.lp x with coef := m.word 1 })) ∧
  (∀ (x : Act) (m : Msg) (s u : State),
      s.takeMsg x 0x07 = some m →
      u = s.discard (x.n + 1) →
      4 ≤ m.word 1 →
      exec (.coef x) s = .next (u.areply x m.tag 0x87 [0x06]))

/-- A motion that is on track, or in time does not get there, ends as its rule says (R202, R204, R206, R208, R209, R213, R214). Completes,
under hypotheses on the state and the operands alone: seekDone, seekSettleTimeout, headSwitchDone, headSwitchTimeout, offsetDone,
loadLanded, loadTimeout, unloadLatched, pairWaitExpiry. -/
def Obligations.MotionsEnd : Prop :=
  (∀ (x : Act) (m : Motion) (s u : State),
      (s.lp x).cur = some m →
      (s.lp x).mode = .seek →
      s.onTrackNow x = true →
      m.kind = .seek →
      u = (s.landed x).freeSeek x →
      exec (.seekDone x) s =
      .next ((u.areply x m.tag 0x81 [s.tick - m.began.getD s.tick, b2n m.paired + 2 * b2n m.lowered]).runNext x 0 4)) ∧
  (∀ (x : Act) (m : Motion) (s u : State),
      (s.lp x).cur = some m →
      (s.lp x).mode = .seek →
      s.onTrackNow x = true →
      m.kind = .head →
      u = (s.landed x).freeSeek x →
      exec (.seekDone x) s = .next ((u.areply x m.tag 0x82 [u.tick - m.taken, 1]).runNext x 0 4)) ∧
  (∀ (x : Act) (sinceArrival : Nat) (m : Motion) (s u v : State),
      (s.lp x).cur = some m →
      (s.lp x).mode = .seek →
      64 ≤ sinceArrival →
      u = (s.freePartner x).freeSeek x →
      v = ((u.putLp x { u.lp x with cur := none, track := bitsOf (u.lp x).status 23 0 }).setMode x .follow).setInhibit x true false →
      exec (.seekSettleTimeout x sinceArrival) s = .next ((v.areply x m.tag 0x88 [0x10, (v.lp x).status]).runNext x 0 4)) ∧
  (∀ (x : Act) (m : Motion) (s u : State),
      (s.lp x).cur = some m →
      (s.lp x).mode = .switching →
      s.onTrackNow x = true →
      u = s.landed x →
      exec (.headSwitchDone x) s = .next ((u.areply x m.tag 0x82 [u.tick - m.began.getD u.tick, 0]).runNext x 0 4)) ∧
  (∀ (x : Act) (m : Motion) (s : State),
      (s.lp x).cur = some m →
      (s.lp x).mode = .switching →
      m.began.getD s.tick + 24 ≤ s.tick →
      exec (.headSwitchTimeout x) s = .next ((s.putLp x { s.lp x with
        cur := some { m with cls := 1, seekUsed := true, began := none, startAt := none, pairable := false }, partner := none }).approvePair x)) ∧
  (∀ (x : Act) (tag : Nat) (s u : State),
      (s.lp x).offsetTag = some tag →
      (s.lp x).mode = .follow →
      s.onTrackNow x = true →
      u = s.putLp x { s.lp x with offsetTag := none } →
      exec (.offsetDone x) s =
      .next ((u.setInhibit x ((s.lp x).offset != 0) ((s.lp x).offset == 0)).areply x tag 0x83 [unsigned 32 (s.lp x).offset])) ∧
  (∀ (x : Act) (m : Motion) (s u : State),
      (s.lp x).cur = some m →
      (s.lp x).mode = .loading →
      s.onTrackNow x = true →
      u = ((s.setRamp x false false 0).set (Reg.ARM_STATUS_STATE x) 2).landed x →
      exec (.loadLanded x) s = .next ((u.areply x m.tag 0x84 [u.tick - m.began.getD u.tick]).runNext x 0 4)) ∧
  (∀ (x : Act) (m : Motion) (t : Nat) (s : State),
      (s.lp x).cur = some m →
      (s.lp x).mode = .loading →
      m.began = some t →
      bitOf (s.lp x).status 31 = false →
      80 ≤ (s.tick - t) * s.tickNs / 1000000 →
      exec (.loadTimeout x) s = .next ((s.beginUnload x none).areply x m.tag 0x88 [0x30, (s.lp x).status])) ∧
  (∀ (x : Act) (m : Motion) (s u : State),
      (s.lp x).cur = some m →
      (s.lp x).mode = .unloading →
      u = (s.parkLoop x).areply x m.tag 0x85 [] →
      exec (.unloadLatched x) s = .next (u.runNext x (u.get (Reg.ARM_COIL_R_COIL x)) 4)) ∧
  (∀ (x : Act) (m : Motion) (s : State),
      (s.lp x).cur = some m →
      (s.lp x).mode = .seekWait →
      (s.lp x).partner = none →
      m.taken + s.cal.pairWait ≤ s.tick →
      exec (.pairWaitExpiry x) s = .next ((s.putLp x { s.lp x with cur := some { m with pairable := false } }).approvePair x))

/-- Emergency unloads, hardware retracts and the arm driver watchdog complete (R215, R216, R218). Completes, under hypotheses on the state
and the operands alone: emergencyUnload, servoWedgeLoss, emUnloadLatched, hardwareRetract, retract, retractWatchdog, retractEnd. -/
def Obligations.EmergencyUnloadRuns : Prop :=
  (∀ (trigger : Nat) (x : Act) (s : State),
      1 ≤ trigger →
      trigger ≤ 4 →
      exec (.emergencyUnload trigger x) s = .next (s.emUnloadAll trigger)) ∧
  (∀ (x : Act) (s : State),
      exec (.emergencyUnload 5 x) s = .next (s.emUnload x 5)) ∧
  (∀ (x : Act) (s : State),
      ((s.desk.recs.find? fun p => p.2.level == 3 && p.2.st == 1 && p.2.dom == x.n) = none) →
      exec (.emergencyUnload 6 x) s = .next (s.emUnload x 6)) ∧
  (∀ (x : Act) (s : State),
      32 ≤ (s.lp x).miss →
      ((s.lp x).mode = .follow ∨ (s.lp x).mode = .seek ∨ (s.lp x).mode = .switching) →
      exec (.servoWedgeLoss x) s = .next (s.emUnload x 5)) ∧
  (∀ (x : Act) (trigger : Nat) (s u : State),
      (s.lp x).mode = .emergency →
      (s.lp x).emTrigger = some trigger →
      u = ((s.parkLoop x).areply x 0 0x86 [trigger, b2n (s.lp x).emHard]).latchedAfterDeclaration →
      exec (.emUnloadLatched x) s =
      .next (u.runNext x (((s.parkLoop x).areply x 0 0x86 [trigger, b2n (s.lp x).emHard]).get (Reg.ARM_COIL_R_COIL x)) 4)) ∧
  (∀ (x : Act) (busMv coilMa coilUs : Nat) (s : State),
      busMv < 16000 →
      (s.lp x).graveTicks = none →
      ¬(12 * s.get (Reg.ARM_VCM_CFG_I_LIMIT x) < coilMa ∧ 10 ≤ coilUs) →
      exec (.hardwareRetract x busMv coilMa coilUs) s = .next (s.hwRetract x false false)) ∧
  (∀ (x : Act) (busMv coilMa coilUs : Nat) (s : State),
      12 * s.get (Reg.ARM_VCM_CFG_I_LIMIT x) < coilMa →
      10 ≤ coilUs →
      (s.lp x).graveTicks = none →
      exec (.hardwareRetract x busMv coilMa coilUs) s = .next (s.hwRetract x false true)) ∧
  (∀ (i : Initiator) (x : Act) (s : State),
      s.reaches i x.armBase = true →
      exec (.retract i x) s = .next { s.hwRetract x false false with bus := .written }) ∧
  (∀ (x : Act) (s : State),
      max 1 (s.get (Reg.ARM_VCM_CFG_RETRACT_WD x)) ≤ (s.lp x).quiet →
      (s.lp x).parked = false →
      exec (.retractWatchdog x) s = .next (s.hwRetract x true false)) ∧
  (∀ (x : Act) (m : Motion) (s u : State),
      (s.lp x).retracting = true →
      (s.lp x).cur = some m →
      (s.lp x).emTrigger = none →
      u = ((s.set (Reg.ARM_STATUS_RETRACTED x) 1).freePartner x).freeSeek x →
      exec (.retractEnd x) s = .next (((u.areply x m.tag 0x88 [0x50, (s.lp x).status]).parkLoop x).latchedAfterDeclaration))

/-- Shock, preamp faults, arm serial frames, the microactuator and the wedges complete (R97, R162, R194, R198, R199, R210, R211, R212).
Completes, under hypotheses on the state and the operands alone: shockDetected, shockInhibitEnd, preampFault, preampFaultClear,
aspFrameSend, microactuatorSaturation, positionErrorDelivery, pesTimeout. -/
def Obligations.ArmDriverAndWedgesRun : Prop :=
  (∀ (x : Act) (level : Nat) (s : State),
      s.get (Reg.ARM_SHOCK_SHOCK_WI x) < level →
      s.fitted x = true →
      exec (.shockDetected x level) s =
      .next ((s.set (Reg.ARM_STATUS_SHOCK x) 1).putLp x { s.lp x with shock := true, onTrack := false })) ∧
  (∀ (x : Act) (s : State),
      exec (.shockInhibitEnd x) s = .next (s.putLp x { s.lp x with shock := false })) ∧
  (∀ (x : Act) (status : Nat) (s u v : State),
      s.fitted x = true →
      (s.lp x).paLow = false →
      u = (s.set (Reg.ARM_STATUS_PA_FAULT x) 1).inc (Reg.ARM_COUNTS_PA_FAULTS x) →
      v = (match s.cal.faultStatus with
        | some a => (u.emit (.aspFrame x true a 0)).set (Reg.ARM_PA_FAULT_STATUS x) status
        | none => u.set (Reg.ARM_PA_FAULT_STATUS x) 0) →
      exec (.preampFault x status) s = .next ((v.putLp x { v.lp x with paLow := true, paSinceNs := v.clockNs, onTrack := false }).areply x 0 0x88
        [0x20, (v.lp x).status])) ∧
  (∀ (x : Act) (s : State),
      exec (.preampFaultClear x) s = .next (s.putLp x { s.lp x with paLow := false })) ∧
  (∀ (i : Initiator) (x : Act) (addr data returned : Nat) (s : State),
      s.reaches i (x.armBase + 0x10) = true →
      addr % 128 = s.cal.headSelect →
      exec (.aspFrameSend i x false addr data returned) s = .next ((({ s with bus := .written }.setAll [(Reg.ARM_ASP_CMD_RD x, 0),
        (Reg.ARM_ASP_CMD_ADDR x, addr), (Reg.ARM_ASP_CMD_DATA x, data)]).set (Reg.ARM_STATUS_ASP_DENIED x) 1).set (Reg.ARM_ASP_CMD_GO x) 0)) ∧
  (∀ (i : Initiator) (x : Act) (addr data returned : Nat) (s u : State),
      s.reaches i (x.armBase + 0x10) = true →
      u = { s with bus := .written }.setAll [(Reg.ARM_ASP_CMD_RD x, 1), (Reg.ARM_ASP_CMD_ADDR x, addr), (Reg.ARM_ASP_CMD_DATA x, data)] →
      u.get (Reg.CH_STATUS_WR_GATE x) = 0 →
      exec (.aspFrameSend i x true addr data returned) s =
      .next (((u.emit (.aspFrame x true (addr % 128) 0)).set (Reg.ARM_ASP_CMD_GO x) 0).set (Reg.ARM_ASP_CMD_DATA x) returned)) ∧
  (∀ (x : Act) (k v : Nat) (s : State),
      16 < (s.lp x).sat →
      k = 8 * x.n + (s.lp x).head →
      v = sGet s.cons.satHeads k 0 →
      exec (.microactuatorSaturation x) s =
      .next (({ s with cons := { s.cons with satHeads := sPut s.cons.satHeads k (if v % 2 = 1 then v else v + 3) 0 } } : State).fault 3 (0x21 + x.n) 0x09 (s.lp x).head 0x20)) ∧
  (∀ (x : Act) (mark index track parity : Nat) (n q : Int) (s : State),
      mark % 2 ^ 16 = servoMark →
      s.portOn (lanePort x 0) = true →
      (s.lp x).parked = false →
      exec (.positionErrorDelivery x mark index track parity n q) s = .next (s.deliverPes x (ofGray 24 track) (Config.burstFraction n q)
        (parity % 16 == Config.servoParity (ofGray 10 index) (ofGray 24 track) % 16) (Config.burstGood n q)).scheduleIdle) ∧
  (∀ (x : Act) (s u v : State),
      s.fitted x = true →
      s.eng.fresh.contains (lanePort x 0) = false →
      u = s.wedgeDone x →
      u.sliceRuns (1 + x.n) = true →
      (u.lp x).parked = false →
      v = u.putLp x { u.lp x with miss := (u.lp x).miss + 1, onCount := 0 } →
      exec (.pesTimeout x) s = .next ((((v.setInhibit x true false).servoCommand x
        (signed 32 (v.get (Reg.CRE_X (12 + x.n))))).ready (1 + x.n)).scheduleIdle))

/-- START, STOP and HOLD, the start sequence, the catch and at speed complete (R229, R230, R231, R232, R238, R245, R478). Completes, under
hypotheses on the state and the operands alone: start, stop, hold, sensePeriodEnd, shortBrakeQuiet, alignStepEnd, catchResult,
observerHandover, startFailure, startRetry, atSpeedReached. -/
def Obligations.SpindleMessagesRun : Prop :=
  (∀ (m : Msg) (v : State) (s u : State),
      s.spMsg 0x21 = some m →
      u = s.discard 0 →
      s.legsLost < 2 →
      (s.spSt ≤ 1 ∨ s.spSt = 7 ∨ s.spSt = 0xA) →
      s.commitSpinup = (v, true) →
      exec .start s = .next ((v.discard 0).start m.tag)) ∧
  (∀ (m : Msg) (s u : State),
      s.spMsg 0x22 = some m →
      u = s.discard 0 →
      exec .stop s = .next (u.stop m.tag (bitsOf (m.word 1) 1 0))) ∧
  (∀ (m : Msg) (s u : State),
      s.spMsg 0x23 = some m →
      u = s.discard 0 →
      u.spSt = 6 →
      u.spn.method = 1 →
      u.handover ≤ u.speed →
      exec .hold s = .next (u.resumeRun m.tag)) ∧
  (∀ (m : Msg) (s u : State),
      s.spMsg 0x23 = some m →
      u = s.discard 0 →
      u.spSt ≠ 6 →
      exec .hold s = .next (if u.spSt = 0xA then u.spRefuse m.tag 0x01 else u.spRefuse m.tag 0x04)) ∧
  (∀ (s : State),
      s.spSt = 2 →
      s.spn.brake = false →
      s.spn.retryWait = false →
      20000000 ≤ s.stateNs →
      s.changesHere = [] →
      exec .sensePeriodEnd s = .next (s.align false)) ∧
  (∀ (s : State),
      s.spSt = 2 →
      s.spn.brake = false →
      s.spn.retryWait = false →
      20000000 ≤ s.stateNs →
      s.changesHere.all (·.2) = true →
      (gapsOf s.changesHere).isEmpty = false →
      s.handover ≤ s.catchSpeed (meanGap (gapsOf s.changesHere)) →
      exec .sensePeriodEnd s = .next (s.setSp 8)) ∧
  (∀ (s : State),
      s.spSt = 2 →
      s.spn.brake = false →
      s.spn.retryWait = false →
      20000000 ≤ s.stateNs →
      s.changesHere.isEmpty = false →
      (s.changesHere.all (·.2) = false ∨ s.catchSpeed (meanGap (gapsOf s.changesHere)) < s.handover) →
      exec .sensePeriodEnd s =
      .next ((s.setInv 2).putSpn { s.spn with brake := true })) ∧
  (∀ (s : State),
      s.spSt = 2 →
      s.spn.brake = true →
      200000000 ≤ s.quietNs →
      exec .shortBrakeQuiet s = .next (s.align false)) ∧
  (∀ (s : State),
      s.spSt = 3 →
      2000000 * s.get Reg.SPN_START_ALIGN_MS ≤ s.stateNs →
      s.spn.secondAlign = false →
      exec .alignStepEnd s = .next (s.align true)) ∧
  (∀ (s : State),
      s.spSt = 3 →
      2000000 * s.get Reg.SPN_START_ALIGN_MS ≤ s.stateNs →
      s.spn.secondAlign = true →
      exec .alignStepEnd s = .next (((s.putMotor { s.motor with ramp := 0, agree := 0, off := 0 }).setSp 4).set Reg.SPN_STATUS_ANGLE_SRC 0)) ∧
  (∀ (l : List (Nat × Bool)) (s : State),
      l = s.changesHere.take 6 →
      s.spSt = 8 →
      6 ≤ l.length →
      exec .catchResult s =
      .next (if s.caught (gapsOf l) (l.all (·.2)) then s.takeOver (s.catchSpeed (meanGap (gapsOf l))) else s.catchFail)) ∧
  (∀ (s : State),
      s.spSt = 8 →
      (s.changesHere.take 6).length < 6 →
      8000000 ≤ s.stateNs →
      exec .catchResult s = .next s.catchFail) ∧
  (∀ (s : State),
      s.spSt = 4 →
      64 ≤ s.motor.agree →
      exec .observerHandover s =
      .next (((s.putMotor { s.motor with off := angleDiff (s.get Reg.SPN_ANGLE_ANGLE) s.motor.angle, lost := 0 }).setSp 5).set Reg.SPN_STATUS_ANGLE_SRC 1)) ∧
  (∀ (s u : State),
      ((s.spSt = 4 ∧ (3000000000 ≤ s.stateNs ∨ s.changesHere.any (fun c => !c.2) = true)) ∨
        (2 ≤ s.spSt ∧ s.spSt ≤ 4 ∧ s.spn.retryWait = false ∧ s.loopBusMv < 16000)) →
      s.spn.attempts < 2 →
      u = s.coast →
      exec .startFailure s = .next (u.putSpn { u.spn with attempts := s.spn.attempts + 1, retryWait := true })) ∧
  (∀ (s u : State),
      ((s.spSt = 4 ∧ (3000000000 ≤ s.stateNs ∨ s.changesHere.any (fun c => !c.2) = true)) ∨
        (2 ≤ s.spSt ∧ s.spSt ≤ 4 ∧ s.spn.retryWait = false ∧ s.loopBusMv < 16000)) →
      2 ≤ s.spn.attempts →
      u = s.coast →
      exec .startFailure s = .next ((((u.putSpn { u.spn with attempts := s.spn.attempts + 1, startTag := none }).set
        Reg.SPN_STATUS_START_FAIL 1).spFault (s.spn.startTag.getD 0) 0x01).setSp 0xA)) ∧
  (∀ (s : State),
      s.spn.retryWait = true →
      2000000000 ≤ s.stateNs →
      exec .startRetry s = .next s.sense) ∧
  (∀ (t tag : Nat) (s u : State),
      s.spSt = 5 →
      s.motor.heldNs = some t →
      t + 100000000 ≤ s.clockNs →
      s.within 5 = true →
      s.get Reg.SPN_STATUS_AT_SPEED = 0 →
      s.books.spinup = none →
      s.spn.startTag = some tag →
      u = { (s.set Reg.SPN_STATUS_AT_SPEED 1).set Reg.SPN_INT_AT_SPEED 1 with pmk := { s.pmk with speedNs := some s.clockNs, timedOut := false } } →
      exec .atSpeedReached s = .next ((u.putSpn { s.spn with startTag := none }).reply 0 tag 0xA1 [s.tick - s.spn.startTick]))

/-- Angle sources, observer loss, braking, the bus protections, the spare leg and the stop complete (R225, R234, R236, R237, R238, R240,
R241, R242, R243, R244, R246, R247). Completes, under hypotheses on the state and the operands alone: postmarkAngleHandover,
postmarkGlideEnd, observerLost, catchCoastEnd, spindleDutyWatchdog, fluxBrakeEnter, fluxBrakeLeave, inverterDisable, inverterReenable,
legFault, spareLegReady, spindleStopped. -/
def Obligations.SpindleProtectionsRun : Prop :=
  (∀ (mean : Int) (spread pm : Nat) (s u : State),
      s.motor.full = some (mean, spread) →
      s.pmAngle = some pm →
      s.spSt = 5 →
      s.get Reg.SPN_STATUS_ANGLE_SRC = 1 →
      s.get Reg.SPN_CTRL_PM_COMM_EN ≠ 0 →
      s.get Reg.TCK_STATUS_SRC = 2 →
      s.spn.glide = false →
      s.get Reg.SPN_COUNTS_REFUSALS < 8 →
      360 * mean.natAbs ≤ 15 * 65536 →
      360 * spread ≤ 5 * 65536 →
      u = s.putMotor { s.motor with full := none, off := angleDiff (s.get Reg.SPN_ANGLE_ANGLE) pm } →
      exec .postmarkAngleHandover s = .next (u.putSpn { s.spn with glide := true })) ∧
  (∀ (mean : Int) (spread pm : Nat) (s : State),
      s.motor.full = some (mean, spread) →
      s.pmAngle = some pm →
      s.spSt = 5 →
      s.get Reg.SPN_STATUS_ANGLE_SRC = 1 →
      s.get Reg.SPN_CTRL_PM_COMM_EN ≠ 0 →
      s.get Reg.TCK_STATUS_SRC = 2 →
      s.spn.glide = false →
      s.get Reg.SPN_COUNTS_REFUSALS < 8 →
      360 * mean.natAbs ≤ 15 * 65536 →
      5 * 65536 < 360 * spread →
      exec .postmarkAngleHandover s = .next (s.putMotor { s.motor with full := none })) ∧
  (∀ (mean : Int) (spread pm : Nat) (s m u : State),
      s.motor.full = some (mean, spread) →
      s.pmAngle = some pm →
      s.spSt = 5 →
      s.get Reg.SPN_STATUS_ANGLE_SRC = 1 →
      s.get Reg.SPN_CTRL_PM_COMM_EN ≠ 0 →
      s.get Reg.TCK_STATUS_SRC = 2 →
      s.spn.glide = false →
      s.get Reg.SPN_COUNTS_REFUSALS < 8 →
      15 * 65536 < 360 * mean.natAbs →
      m = s.putMotor { s.motor with full := none } →
      u = m.set Reg.SPN_COUNTS_REFUSALS (m.get Reg.SPN_COUNTS_REFUSALS + 1) →
      exec .postmarkAngleHandover s = .next (if u.get Reg.SPN_COUNTS_REFUSALS = 8 then u.spFault 0 0x02 else u)) ∧
  (∀ (s : State),
      s.spn.glide = true →
      s.motor.off = 0 →
      exec .postmarkGlideEnd s =
      .next ((((s.set Reg.SPN_STATUS_ANGLE_SRC 2).set Reg.SPN_COUNTS_REFUSALS 0).putSpn { s.spn with glide := false }).reply 0 0 0xA3 [2])) ∧
  (∀ (s : State),
      max 1 (s.get Reg.SPN_OBS_OBS_CONFIRM) ≤ s.motor.lost →
      s.handover ≤ s.speed →
      (s.spSt = 5 ∨ s.spSt = 6) →
      exec .observerLost s = .next s.observerLost) ∧
  (∀ (s : State),
      s.spSt = 7 →
      s.spn.catchLeft.isSome = true →
      2000000 ≤ s.stateNs →
      exec .catchCoastEnd s = .next ((s.setSp 8).unloadCheck)) ∧
  (∀ (s : State),
      s.invMode = 1 →
      max 1 (s.get Reg.SPN_BRAKE_WD_TICKS) ≤ s.spn.quiet →
      exec .spindleDutyWatchdog s = .next ((s.coast.set Reg.SPN_STATUS_WD_EXPIRED 1).spFault 0 0x05)) ∧
  (∀ (busMv : Nat) (s : State),
      s.invMode = 1 →
      dbusMv (s.get Reg.PWR_DBUS_LVL_FLUX) ≤ busMv →
      s.get Reg.SPN_STATUS_FLUX_BRAKE = 0 →
      s.get Reg.SPN_STATUS_DISABLED = 0 →
      exec (.fluxBrakeEnter busMv) s = .next (((s.set Reg.SPN_STATUS_FLUX_BRAKE 1).inc Reg.SPN_COUNTS_FLUX_EVENTS).set (Reg.CRE_X 2)
        (unsigned 32 (-((s.get Reg.SPN_CURR_ID_FLUX * 20 * 65536 / 1000 : Nat) : Int))))) ∧
  (∀ (busMv : Nat) (s : State),
      s.get Reg.SPN_STATUS_FLUX_BRAKE ≠ 0 →
      busMv + 500 ≤ dbusMv (s.get Reg.PWR_DBUS_LVL_FLUX) →
      exec (.fluxBrakeLeave busMv) s = .next ((s.set Reg.SPN_STATUS_FLUX_BRAKE 0).set (Reg.CRE_X 2) 0)) ∧
  (∀ (busMv : Nat) (s u : State),
      dbusMv (s.get Reg.PWR_DBUS_LVL_DISABLE) ≤ busMv →
      s.get Reg.SPN_STATUS_DISABLED = 0 →
      s.pdOn 27 = true →
      u = ((s.set Reg.SPN_STATUS_DISABLED 1).inc Reg.SPN_COUNTS_DISABLES).set Reg.SPN_INT_DISABLED 1 →
      exec (.inverterDisable busMv) s = .next (if 2 ≤ s.spSt ∧ s.spSt ≤ 9 then u.coast else u.setInv 0)) ∧
  (∀ (busMv us : Nat) (s u : State),
      s.get Reg.SPN_STATUS_DISABLED ≠ 0 →
      busMv + 1000 ≤ dbusMv (s.get Reg.PWR_DBUS_LVL_FLUX) →
      1000 ≤ us →
      u = s.set Reg.SPN_STATUS_DISABLED 0 →
      u.spSt = 7 →
      u.spn.taken = true →
      exec (.inverterReenable busMv us) s = .next (if u.pmkLocked then
        (((u.setInv 1).setSp (if u.spn.method != 0 then 6 else 5)).set Reg.SPN_STATUS_ANGLE_SRC 2) else u.setSp 8)) ∧
  (∀ (leg : Nat) (s u v : State),
      leg < 3 →
      s.pdOn 27 = true →
      u = ((s.setBit Reg.SPN_LEGS_LEG_FAULTS leg true).set Reg.SPN_INT_LEG_FAULT 1).event 0x28 0x08 0 0x28 →
      u.get Reg.SPN_STATUS_SPARE_LEG = 0 →
      u.bit Reg.SPN_LEGS_LEG_FAULTS 3 = false →
      u.spSt ≠ 9 →
      v = ((u.putSpn { u.spn with swap := some leg, swapStart := 2 ≤ u.spSt && u.spSt ≤ 4, lossAfter := false }).setInv 0).setSp 9 →
      exec (.legFault leg) s = .next (if v.pmkLocked then v else v.set Reg.SPN_STATUS_ANGLE_SRC 3)) ∧
  (∀ (leg : Nat) (s u v : State),
      leg < 4 →
      s.pdOn 27 = true →
      u = ((s.setBit Reg.SPN_LEGS_LEG_FAULTS leg true).set Reg.SPN_INT_LEG_FAULT 1).event 0x28 0x08 0 0x28 →
      (leg = 3 ∨ u.get Reg.SPN_STATUS_SPARE_LEG ≠ 0 ∨ u.bit Reg.SPN_LEGS_LEG_FAULTS 3 = true ∨ u.spSt = 9) →
      v = u.coast.notAtSpeed.spFault (u.spn.startTag.getD 0) 0x04 →
      exec (.legFault leg) s = .next ((v.putSpn { v.spn with startTag := none, swap := none, catchLeft := none }).emUnloadAll 0x1)) ∧
  (∀ (leg : Nat) (s u : State),
      s.spn.swap = some leg →
      s.spSt = 9 →
      u = ((s.set Reg.SPN_STATUS_SPARE_LEG (leg + 1)).set Reg.SYS_SPARES_SPARE_LEG (leg + 1)).reply 0 0 0xA5 [leg + 1] →
      u.spn.swapStart = true →
      exec .spareLegReady s =
      .next ((u.putSpn { u.spn with swap := none, lossAfter := false, quiet := 0 }).putMotor { u.motor with riseAt := u.tick, riseTicks := 8 }).sense) ∧
  (∀ (tag : Nat) (s u : State),
      s.get Reg.SPN_CTRL_ENABLE ≠ 0 →
      (s.spSt = 6 ∨ s.spSt = 7) →
      s.spn.retryWait = false →
      2000000000 ≤ s.quietNs →
      s.spn.stopTag = some tag →
      u = ((((s.setInv 0).setSp 1).set Reg.SPN_SPEED_SPEED 0).set (Reg.CRE_X 0) 0).set Reg.SPN_STATUS_ANGLE_SRC 0 →
      u.spn = s.spn →
      exec .spindleStopped s = .next ((u.putSpn { s.spn with
        stopTag := none, method := 0, brake := false, byX32 := false, catchLeft := none, startTag := none }).reply 0 tag 0xA2
        [s.spn.method, u.tick - s.spn.stopTick]))

/-- Beacons, status slots, claims and discarded frames on the Kerrex bus complete (R282, R283, R284, R286, R288, R289, R293, R294).
Completes, under hypotheses on the state and the operands alone: kerrexCycleStart, beaconReceived, statusSlot, statusReceived,
claimReceived, kerrexFrameDiscard. -/
def Obligations.KerrexFramesRun : Prop :=
  (∀ (slots : Sparse KxSlot) (n : Nat) (k : Krx) (s u : State),
      s.role = 3 →
      s.maySend = true →
      (slots = s.krx.slots.map (fun p => (p.1, { p.2 with before := p.2.now, now := false, age := p.2.age + 1 }))) →
      n = (if s.krx.crcThis then s.krx.crcCycles + 1 else 0) →
      k = { s.krx with slots := slots, cycle := (s.krx.cycle + 1) % 65536, census := s.krx.census - 1 } →
      u = s.putKrx { k with due := true, crcCycles := n, crcThis := false } →
      exec .kerrexCycleStart s = .next (u.set Reg.FRK_PM_HEARD (slots.filter fun p => p.2.before).length).sendBeacon) ∧
  (∀ (f : List Nat) (s : State),
      frameOk f true = true →
      fb f 1 = 1 →
      s.solo = true →
      exec (.beaconReceived f) s = .next (s.set Reg.FRK_STATUS_BUS_ACTIVE 1)) ∧
  (∀ (f : List Nat) (s u : State),
      frameOk f true = true →
      fb f 1 = 1 →
      s.solo = false →
      u = s.putKrx { s.krx with heard := sIns s.krx.heard (fb f 2 % 64) 0, lineNs := s.clockNs, beaconNs := s.clockNs } →
      u.role = 1 →
      u.lowestHeard = some (fb f 2 % 64) →
      u.get Reg.FRK_STATUS_PM_SLOT = fb f 2 % 64 →
      exec (.beaconReceived f) s = .next ((u.setRole 1 (fb f 2 % 64)).followBeacon f)) ∧
  (∀ (f : List Nat) (s u : State),
      frameOk f true = true →
      fb f 1 = 1 →
      s.solo = false →
      u = s.putKrx { s.krx with heard := sIns s.krx.heard (fb f 2 % 64) 0, lineNs := s.clockNs, beaconNs := s.clockNs } →
      u.role = 3 →
      fb f 2 % 64 < u.slot →
      exec (.beaconReceived f) s = .next ((u.abdicate.setRole 1 (fb f 2 % 64)).followBeacon f)) ∧
  (∀ (aged : Sparse Nat) (s u : State),
      (aged = (s.krx.heard.map fun p => (p.1, p.2 + 1)).filter (fun p => decide (p.2 ≤ 3))) →
      s.krx.due = true →
      s.maySend = true →
      s.role ≠ 3 →
      u = s.sendFrame 0x02 s.statusPayload →
      exec .statusSlot s = .next ((u.putKrx { u.krx with due := false, wakeSent := s.on Reg.FRK_WAKE_GO, heard := aged }).set Reg.FRK_WAKE_GO 0)) ∧
  (∀ (f : List Nat) (inSlot : Bool) (s u : State),
      frameOk f inSlot = true →
      fb f 1 = 2 →
      s.solo = false →
      s.role = 3 →
      u = (if fw f 6 ≠ s.get Reg.FRK_BOOK_BOOK_GEN then s.set Reg.FRK_STATUS_BOOK_MISMATCH 1 else s).heardStatus f →
      exec (.statusReceived f inSlot) s = .next (if fb f 15 = u.slot ∨ fb f 15 = 0x40 then u.leaveShelfHold else u)) ∧
  (∀ (f : List Nat) (s u : State),
      frameOk f true = true →
      fb f 1 = 3 →
      s.solo = false →
      u = s.putKrx { s.krx with lineNs := s.clockNs } →
      u.role = 3 →
      fb f 2 % 64 < u.slot →
      exec (.claimReceived f) s = .next u.abdicate) ∧
  (∀ (f : List Nat) (s u : State),
      frameOk f true = true →
      fb f 1 = 3 →
      s.solo = false →
      u = s.putKrx { s.krx with lineNs := s.clockNs } →
      u.role = 2 →
      fb f 2 % 64 < u.slot →
      exec (.claimReceived f) s = .next (u.setRole 0 (u.get Reg.FRK_STATUS_PM_SLOT))) ∧
  (∀ (f : List Nat) (inSlot explained : Bool) (s u : State),
      frameOk f inSlot = false →
      u = s.inc Reg.FRK_COUNTS_CRC_ERRORS →
      exec (.kerrexFrameDiscard f inSlot explained) s =
      .next (if explained = true then u else u.putKrx { u.krx with crcThis := true }))

/-- Election, abdication, lapse, the purse target and wakes complete (R275, R281, R287, R288, R289, R290, R291, R294). Completes, under
hypotheses on the state and the operands alone: electionBackoffExpiry, claimConfirm, transmitMismatch, censusEnd, unheardSlotTimeout,
crcAbdication, eligibilityRestore, lapse, frkTargetWrite, wakeSend, holdEnter. -/
def Obligations.KerrexElectionAndPurseRun : Prop :=
  (∀ (s u : State),
      s.maySend = true →
      s.eligible = true →
      s.role ≠ 3 →
      s.role ≠ 2 →
      s.krx.lineNs + 50000000 + 250000 * s.slot ≤ s.clockNs →
      u = s.setRole 2 (s.get Reg.FRK_STATUS_PM_SLOT) →
      exec .electionBackoffExpiry s = .next (u.sendFrame 0x03 (leBytes 2 (u.get Reg.FRK_BOOK_BOOK_GEN)))) ∧
  (∀ (k : Krx) (s u : State),
      s.role = 2 →
      k = { s.krx with slots := [], queue := [], census := 3, granting := false, unheard2s := false, crcCycles := 0 } →
      u = s.putKrx { k with crcThis := false, due := true, lastGseq := 0, officeNs := s.clockNs } →
      exec .claimConfirm s = .next (u.setRole 3 u.slot).sendBeacon) ∧
  (∀ (s u : State),
      u = s.putKrx { s.krx with seq := (s.krx.seq + 255) % 256 } →
      u.role = 2 →
      exec (.transmitMismatch 3) s =
      .next ((u.putKrx { u.krx with lineNs := u.clockNs }).setRole 0 (u.get Reg.FRK_STATUS_PM_SLOT))) ∧
  (∀ (s u : State),
      u = s.putKrx { s.krx with seq := (s.krx.seq + 255) % 256 } →
      u.krx.wakeSent = true →
      exec (.transmitMismatch 2) s =
      .next ((u.set Reg.FRK_WAKE_GO 1).putKrx { u.krx with wakeSent := false })) ∧
  (∀ (s : State),
      s.role = 3 →
      s.krx.census = 0 →
      exec .censusEnd s = .next (s.putKrx { s.krx with granting := true })) ∧
  (∀ (s : State),
      s.role = 3 →
      s.krx.officeNs + 2000000000 ≤ s.clockNs →
      exec .unheardSlotTimeout s = .next (s.putKrx { s.krx with unheard2s := true })) ∧
  (∀ (s u : State),
      s.role = 3 →
      8 ≤ s.krx.crcCycles →
      u = s.abdicate →
      exec .crcAbdication s =
      .next (u.putKrx { u.krx with ineligible := true, crcCycles := 0, abdicatedNs := u.clockNs })) ∧
  (∀ (s : State),
      s.krx.abdicatedNs + 100000000 ≤ s.clockNs →
      exec .eligibilityRestore s = .next (s.putKrx { s.krx with ineligible := false })) ∧
  (∀ (fit : Nat) (s u v : State),
      s.solo = false →
      s.role ≠ 3 →
      (s.krx.beaconNs + 1000000000 ≤ s.clockNs ∨ s.krx.seenNs + 1000000000 ≤ s.clockNs) →
      s.get Reg.FRK_STATUS_LAPSED = 0 →
      u = ((s.set Reg.FRK_STATUS_LAPSED 1).set Reg.FRK_INT_LAPSED 1).inc Reg.FRK_COUNTS_SHEDS →
      fit = u.get Reg.FRK_BOOK_LIM_UNHEARD - u.fixedCommit →
      v = u.putBooks { u.books with spinup := u.books.spinup.map (min fit), atSpeed := u.books.atSpeed.map (min fit) } →
      exec .lapse s =
      .next (v.set Reg.FRK_TARGET_TARGET (min (v.get Reg.FRK_TARGET_TARGET) (v.get Reg.FRK_BOOK_LIM_UNHEARD))).shed) ∧
  (∀ (i : Initiator) (v : Nat) (s : State),
      s.reaches i 0x4031000C = true →
      exec (.frkTargetWrite i v) s =
      .next { (s.set Reg.FRK_TARGET_TARGET (min v s.targetMax)).followTarget with bus := .written }) ∧
  (∀ (i : Initiator) (all : Bool) (slot : Nat) (s : State),
      s.reaches i 0x40310018 = true →
      exec (.wakeSend i all slot) s =
      .next { s.setAll [(Reg.FRK_WAKE_GO, 1), (Reg.FRK_WAKE_ALL, b2n all), (Reg.FRK_WAKE_SLOT, slot)] with bus := .written }) ∧
  (∀ (i : Initiator) (s u : State),
      s.reaches i 0x40310000 = true →
      s.hold ≤ s.get Reg.FRK_BOOK_LIM_BASE →
      (u = s.endAll.noEnvelope.pdAllOff ((List.range 30).filter fun n => n != 28)) →
      exec (.holdEnter i) s = .next { u.putKrx { u.krx with shelfHold := true } with bus := .written }) ∧
  (∀ (i : Initiator) (s : State),
      s.reaches i 0x40310000 = true →
      s.get Reg.FRK_BOOK_LIM_BASE < s.hold →
      exec (.holdEnter i) s = .next { s with bus := .written })

/-- Links, addresses and the network frames that are answered complete (R369, R370, R373, R379, R405). Completes, under hypotheses on the
state and the operands alone: linkUp, addressBound, portLinkReset, ethRestart, frameDropped, arp, icmpv4, icmpv6, ndp, dhcpv4, dhcpv6. -/
def Obligations.PortsAndAddressesRun : Prop :=
  (∀ (p : Prt) (speed fec : Nat) (s : State),
      s.pdOn (19 + p.n) = true →
      s.get (Reg.ETH_CTRL_ENABLE p) ≠ 0 →
      s.get (Reg.ETH_CTRL_TX_DISABLE p) = 0 →
      s.get (Reg.ETH_STATUS_STATE p) ≠ 3 →
      exec (.linkUp p speed fec) s = .next (s.setAll [(Reg.ETH_STATUS_STATE p, 3),
        (Reg.ETH_STATUS_SPEED p, if s.on (Reg.ETH_CTRL_AN_EN p) then speed else 2), (Reg.ETH_STATUS_FEC p, if s.on (Reg.ETH_CTRL_AN_EN p) then fec else 2),
        (Reg.ETH_STATUS_PCS_LOCK p, 1), (Reg.ETH_INT_LINK_UP p, 1)])) ∧
  (∀ (p : Prt) (addr : Nat) (f : Port) (s : State),
      s.portUp p = true →
      s.get Reg.SYS_BOOT_MODE ≠ 2 →
      f = s.host.ports.at p →
      linkLocal addr = false →
      (f.cfg.mode6 = 2 ∨ f.cfg.mode6 = 1 ∧ addr = f.cfg.addr6) →
      exec (.addressBound p true addr) s = .next (s.putPort p (f.bind6 [addr]))) ∧
  (∀ (p : Prt) (addr : Nat) (f : Port) (s : State),
      s.portUp p = true →
      s.get Reg.SYS_BOOT_MODE ≠ 2 →
      f = s.host.ports.at p →
      linkLocal addr = true →
      exec (.addressBound p true addr) s =
      .next (s.putPort p { f with ip6 := addr :: f.ip6.filter fun a => !linkLocal a })) ∧
  (∀ (p : Prt) (addr : Nat) (s : State),
      s.portUp p = true →
      s.get Reg.SYS_BOOT_MODE ≠ 2 →
      (s.host.ports.at p).cfg.mode4 = 2 →
      exec (.addressBound p false addr) s =
      .next (s.putPort p { s.host.ports.at p with ip4 := some addr })) ∧
  (∀ (p : Prt) (s : State),
      s.pdOn (19 + p.n) = true →
      exec (.portLinkReset p) s = .next (s.linkReset p)) ∧
  (∀ (i : Initiator) (p : Prt) (s : State),
      s.reaches i p.base = true →
      exec (.ethRestart i p) s = .next { s.linkReset p with bus := .written }) ∧
  (∀ (p : Prt) (s : State),
      s.portUp p = true →
      exec (.frameDropped p .badCheck) s = .next (s.inc (Reg.ETH_DROPS_CRC_ERR p)) ∧
      exec (.frameDropped p .pause) s = .next (s.dropFrame p) ∧ exec (.frameDropped p .packet) s = .next (s.dropFrame p)) ∧
  (∀ (p : Prt) (vid : Nat) (s : State),
      s.portUp p = true →
      s.get (Reg.ETH_NET_VLAN_EN p) ≠ 0 →
      vid ≠ s.get (Reg.ETH_NET_VID p) →
      exec (.frameDropped p (.vlan (some vid))) s = .next (s.dropFrame p)) ∧
  (∀ (p : Prt) (cycles : Nat) (s : State),
      s.portUp p = true →
      s.classShare < cycles →
      exec (.frameDropped p (.share cycles)) s = .next (s.dropFrame p)) ∧
  (∀ (p : Prt) (target : Nat) (s : State),
      s.portUp p = true →
      s.serves 0x20 = true →
      (s.host.ports.at p).owns false target = true →
      exec (.arp p target) s = .next (s.sendNet p.n (.arpReply target (s.mac p)))) ∧
  (∀ (p : Prt) (source target : Nat) (s : State),
      s.portUp p = true →
      s.serves 0x21 = true →
      (s.host.ports.at p).owns false target = true →
      exec (.icmpv4 p (.echo source target)) s = .next (s.sendNet p.n (.echo4 source))) ∧
  (∀ (p : Prt) (source target : Nat) (s : State),
      s.portUp p = true →
      s.serves 0x22 = true →
      (s.host.ports.at p).owns true target = true →
      exec (.icmpv6 p (.echo source target)) s = .next (s.sendNet p.n (.echo6 source))) ∧
  (∀ (p : Prt) (conn mtu : Nat) (s : State),
      s.portUp p = true →
      s.serves 0x21 = true →
      exec (.icmpv4 p (.tooBig conn mtu)) s = .next (s.pathMtu p conn mtu)) ∧
  (∀ (p : Prt) (conn mtu : Nat) (s : State),
      s.portUp p = true →
      s.serves 0x22 = true →
      exec (.icmpv6 p (.tooBig conn mtu)) s = .next (s.pathMtu p conn mtu)) ∧
  (∀ (p : Prt) (target : Nat) (s : State),
      s.portUp p = true →
      s.serves 0x23 = true →
      (s.host.ports.at p).owns true target = true →
      exec (.ndp p (.solicit target)) s = .next (s.sendNet p.n (.neighbour target (s.mac p)))) ∧
  (∀ (p : Prt) (router : Nat) (s : State),
      s.portUp p = true →
      s.serves 0x23 = true →
      (s.host.ports.at p).cfg.gw6 = 0 →
      exec (.ndp p (.advertise router)) s = .next (s.putPort p { s.host.ports.at p with router := router })) ∧
  (∀ (p : Prt) (a : Nat) (s : State),
      s.portUp p = true →
      s.serves 0x24 = true →
      (s.host.ports.at p).cfg.mode4 = 2 →
      exec (.dhcpv4 p (.offer a)) s = .next (s.sendNet p.n (.dhcp4Request a))) ∧
  (∀ (p : Prt) (a : Nat) (s : State),
      s.portUp p = true →
      s.serves 0x24 = true →
      (s.host.ports.at p).cfg.mode4 = 2 →
      exec (.dhcpv4 p (.bound a)) s = .next (s.putPort p { s.host.ports.at p with ip4 := some a })) ∧
  (∀ (p : Prt) (a : Nat) (s : State),
      s.portUp p = true →
      s.serves 0x25 = true →
      (s.host.ports.at p).cfg.mode6 = 2 →
      exec (.dhcpv6 p (.bound a)) s = .next (s.putPort p ((s.host.ports.at p).bind6 [a])))

/-- The TCP commands complete on a link that is up with the handler running (R371, R373, R403). Completes, under hypotheses on the state
and the operands alone: tcpSyn, tcpFin, tcpRst, tcpAck, tcpOutOfOrder, retransmissionTimer, delayedAckTimer. -/
def Obligations.TcpRuns : Prop :=
  (∀ (p : Prt) (v6 : Bool) (addr port window n : Nat) (s : State),
      s.portUp p = true →
      s.serves 0x10 = true →
      s.listens p v6 addr = true →
      (((List.range 160).find? fun n => (s.conn? n).isNone) = some n) →
      (port = 4420 ∨ port = 8009) →
      exec (.tcpSyn p v6 addr port window) s = .next (((s.putConn n (Conn.fresh p.n (port == 8009) window)).connsRefresh).sendNet p.n (.synAck n s.rcvWindow (s.get Reg.PRE_TCP_WSCALE)))) ∧
  (∀ (p : Prt) (v6 : Bool) (addr port window n : Nat) (s : State),
      s.portUp p = true →
      s.serves 0x10 = true →
      s.listens p v6 addr = true →
      (((List.range 160).find? fun n => (s.conn? n).isNone) = some n) →
      port ≠ 4420 →
      port ≠ 8009 →
      exec (.tcpSyn p v6 addr port window) s = .next (s.sendNet p.n .rst)) ∧
  (∀ (conn : Nat) (c : Conn) (s : State),
      s.conn? conn = some c →
      s.portUp (Prt.num c.port) = true →
      s.serves 0x11 = true →
      exec (.tcpFin conn) s = .next ((s.loseConn conn).sendNet c.port (.fin conn))) ∧
  (∀ (conn : Nat) (c : Conn) (s : State),
      s.conn? conn = some c →
      s.portUp (Prt.num c.port) = true →
      s.serves 0x12 = true →
      exec (.tcpRst conn) s = .next (s.loseConn conn)) ∧
  (∀ (conn : Nat) (bytes window left r ns : Nat) (c : Conn) (s : State),
      s.conn? conn = some c →
      s.portUp (Prt.num c.port) = true →
      s.serves 0x13 = true →
      left = c.unacked - bytes →
      r = (if 0 < bytes then 0 else c.retries) →
      ns = (if 0 < bytes then s.clockNs else c.sentNs) →
      exec (.tcpAck conn bytes window) s = .next (s.putConn conn { c with unacked := left, window := max window left, retries := r, sentNs := ns })) ∧
  (∀ (conn : Nat) (c : Conn) (s : State),
      s.conn? conn = some c →
      s.portUp (Prt.num c.port) = true →
      s.serves 0x14 = true →
      exec (.tcpOutOfOrder conn) s = .next ((s.putConn conn { c with owed := 0 }).sendNet c.port (.ack conn c.owed (s.rcvSpace c)))) ∧
  (∀ (conn : Nat) (c : Conn) (s : State),
      s.conn? conn = some c →
      s.portUp (Prt.num c.port) = true →
      s.serves 0x15 = true →
      c.unacked ≠ 0 →
      c.sentNs + 1000000 * s.rto c ≤ s.clockNs →
      c.retries < 15 →
      exec (.retransmissionTimer conn) s = .next ((s.putConn conn { c with retries := c.retries + 1, sentNs := s.clockNs }).sendNet c.port (.resend conn c.unacked (s.packetMax conn c)))) ∧
  (∀ (conn : Nat) (c : Conn) (s : State),
      s.conn? conn = some c →
      s.portUp (Prt.num c.port) = true →
      s.serves 0x15 = true →
      c.unacked ≠ 0 →
      c.sentNs + 1000000 * s.rto c ≤ s.clockNs →
      15 ≤ c.retries →
      exec (.retransmissionTimer conn) s = .next ((s.loseConn conn).sendNet c.port .rst)) ∧
  (∀ (conn : Nat) (c : Conn) (s : State),
      s.conn? conn = some c →
      s.portUp (Prt.num c.port) = true →
      s.serves 0x16 = true →
      c.owed ≠ 0 →
      exec (.delayedAckTimer conn) s = .next ((s.putConn conn { c with owed := 0 }).sendNet c.port (.ack conn c.owed (s.rcvSpace c))))

/-- Posting a job, and the jobs of the sorting office, complete (R337, R338). Completes, under hypotheses on the state and the operands
alone: sofJobPost, lookup, switch, validScan. -/
def Obligations.SortingJobsRun : Prop :=
  (∀ (i : Initiator) (tail : Nat) (s : State),
      s.reaches i 0x40400030 = true →
      s.sofQueued (tail % 512) ≤ 256 →
      exec (.sofJobPost i tail) s = .next { (s.set Reg.SOF_J_PTR_SJTAIL tail).sofRefresh with bus := .written }) ∧
  (∀ (i : Initiator) (tail : Nat) (s : State),
      s.reaches i 0x40400030 = true →
      256 < s.sofQueued (tail % 512) →
      exec (.sofJobPost i tail) s = .next ((s.set Reg.SOF_INT_J_OVF 1).ignored i 0x40400030)) ∧
  (∀ (tag count list out : Nat) (ents : List Nat) (s u : State),
      s.pdOn 24 = true →
      s.get Reg.SOF_CTRL_ENABLE ≠ 0 →
      s.get Reg.SOF_CTRL_PAUSE = 0 →
      s.sofRoom = true →
      s.sofQueued (s.get Reg.SOF_J_PTR_SJTAIL) ≠ 0 →
      bitsOf (s.sofWord 0) 31 28 = 1 →
      tag = bitsOf (s.sofWord 0) 15 0 →
      count = bitsOf (s.sofWord 0) 27 16 →
      count ≤ 1024 →
      list = s.sofWord 2 + 2 ^ 32 * s.sofWord 3 →
      out = s.sofWord 4 + 2 ^ 32 * s.sofWord 5 →
      u = s.set Reg.SOF_J_PTR_SJHEAD ((s.get Reg.SOF_J_PTR_SJHEAD + 1) % 512) →
      (ents = (List.range count).map fun k =>
        if u.mapped (u.dram (list + 8 * k) 8) then u.mapEntry (u.dram (list + 8 * k) 8) else Config.refusedEntry (u.dram (list + 8 * k) 8) % 2 ^ 64) →
      exec .lookup s = .next (((u.unitReads list (8 * count) []).unitStore out ((ents.flatMap (leBytes 8)).map (BitVec.ofNat 8))).sofResult tag 0x00 0 0 0)) ∧
  (∀ (tag count list out : Nat) (r : State × Nat × List Bool) (bad : List Nat) (s u : State),
      s.pdOn 24 = true →
      s.get Reg.SOF_CTRL_ENABLE ≠ 0 →
      s.get Reg.SOF_CTRL_PAUSE = 0 →
      s.sofRoom = true →
      s.sofQueued (s.get Reg.SOF_J_PTR_SJTAIL) ≠ 0 →
      bitsOf (s.sofWord 0) 31 28 = 2 →
      tag = bitsOf (s.sofWord 0) 15 0 →
      count = bitsOf (s.sofWord 0) 27 16 →
      count ≤ 1024 →
      list = s.sofWord 2 + 2 ^ 32 * s.sofWord 3 →
      out = s.sofWord 4 + 2 ^ 32 * s.sofWord 5 →
      u = s.set Reg.SOF_J_PTR_SJHEAD ((s.get Reg.SOF_J_PTR_SJHEAD + 1) % 512) →
      r = (u.unitReads list (32 * count) []).switchJob ((List.range count).map (u.tripleAt list)) →
      (bad = (List.range count).filter fun k => !r.2.2.getD k true) →
      exec .switch s = .next ((bad.foldl (fun s k => s.unitStore (list + 32 * k + 24) [1]) r.1).sofResult tag
        (if bad.isEmpty then 0x00 else 0x01) (count - bad.length) bad.length r.2.1)) ∧
  (∀ (tag count list out : Nat) (valid : List Nat) (s u : State),
      s.pdOn 24 = true →
      s.get Reg.SOF_CTRL_ENABLE ≠ 0 →
      s.get Reg.SOF_CTRL_PAUSE = 0 →
      s.sofRoom = true →
      s.sofQueued (s.get Reg.SOF_J_PTR_SJTAIL) ≠ 0 →
      bitsOf (s.sofWord 0) 31 28 = 3 →
      tag = bitsOf (s.sofWord 0) 15 0 →
      count = bitsOf (s.sofWord 0) 27 16 →
      count ≤ 1024 →
      list = s.sofWord 2 + 2 ^ 32 * s.sofWord 3 →
      out = s.sofWord 4 + 2 ^ 32 * s.sofWord 5 →
      u = s.set Reg.SOF_J_PTR_SJHEAD ((s.get Reg.SOF_J_PTR_SJHEAD + 1) % 512) →
      (valid = (List.range count).filter fun k =>
        u.slotValid (bitsOf (s.sofWord 1) 30 26) (bitsOf (s.sofWord 1) 25 10) k (u.dram (list + 8 * k) 8)) →
      exec .validScan s = .next (((u.unitReads list (8 * count) []).unitStore out
        ((leBytes 128 (valid.foldl (fun n k => n + 2 ^ k) 0)).map (BitVec.ofNat 8))).sofResult tag 0x00 valid.length 0 0))

/-- First-class and direct placement, the commit, folding and re-sorting complete (R152, R305, R311, R312, R313, R316, R317, R326, R341).
Completes, under hypotheses on the state and the operands alone: firstClassPlacement, directPlacement, commitUnitSwitch, folding,
reSorting, reallocation, idleTimeout. -/
def Obligations.PlacementRuns : Prop :=
  (∀ (serial b most count : Nat) (t : TrayEnt) (n : Ns) (lpns : List Nat) (s : State),
      s.tray? serial = some t →
      sGet? s.host.nss t.nsid = some n →
      s.mayPlace = true →
      s.trayBusy serial = false →
      n.csi = 0 →
      t.kind = .data →
      t.next = some b →
      most = min (256 - (b - t.first) % 256) (t.first + t.count - b) →
      (count = ((List.range most).takeWhile fun k => !t.isPlaced (b + k)).length) →
      s.trayAhead t b count = false →
      (lpns = (List.range ((b + count + 63) / 64 - b / 64)).map fun k => n.lpn + b / 64 + k) →
      exec (.firstClassPlacement serial) s =
      .next (s.placeUnit (lpns.map fun l => (l, sectorMask n.lpn l b count)) [] .place [(serial, b, count)] none)) ∧
  (∀ (serial key : Nat) (t : TrayEnt) (n : Ns) (s : State),
      s.tray? serial = some t →
      sGet? s.host.nss t.nsid = some n →
      s.mayPlace = true →
      s.trayBusy serial = false →
      n.csi ≠ 2 →
      t.kind = .value →
      key = kvKey t.nsid t.keyLen t.key →
      t.count ≤ 1024 * s.get Reg.SOF_KV_BUNDLE_MAX →
      ((s.office.bundles.any fun b => !b.placed && b.values.any fun v => v.1 == key) = false) →
      exec (.firstClassPlacement serial) s = .next (s.bundleAdd t.nsid key t.count)) ∧
  (∀ (nsid lpn : Nat) (n : Ns) (s : State),
      sGet? s.host.nss nsid = some n →
      s.mayPlace = true →
      n.csi = 2 →
      n.lpn ≤ lpn →
      lpn < n.lpn + n.parcels →
      exec (.directPlacement nsid lpn) s = .next (s.placeZone nsid n ((lpn - n.lpn) / 1024))) ∧
  (∀ (nsid lpn k base : Nat) (n : Ns) (blocks : List (Nat × Nat × Nat)) (places : List Nat) (s u : State),
      sGet? s.host.nss nsid = some n →
      s.mayPlace = true →
      n.csi = 0 →
      k = s.layoutKM.1 →
      lpn % k = 0 →
      n.lpn ≤ lpn →
      lpn + k ≤ n.lpn + n.parcels →
      base = (lpn - n.lpn) * 64 →
      blocks = s.trayIn nsid base (64 * k) →
      (((List.range (64 * k)).all fun i => (s.trayHas nsid (base + i)).isSome) = true) →
      ((blocks.any fun b => s.trayBusy b.1) = false) →
      (((List.range k).any fun i => s.wgenWrap (lpn + i)) = false) →
      s.groupPut 2 ((List.range k).map (lpn + ·)) false = (u, some places) →
      exec (.directPlacement nsid lpn) s = .next (u.addUnit ⟨.direct, (List.range k).map fun i => (lpn + i, u.mapEntry (lpn + i),
        mkEntry false true (entUNR (u.mapEntry (lpn + i))) (entWGEN (u.mapEntry (lpn + i)) + 1) (places.getD i 0)), [], false, blocks, none, false⟩)) ∧
  (∀ (k reads : Nat) (parityGood : Bool) (c : CommitUnit) (r : State × Nat × List Bool) (done : List (Nat × Nat × Nat)) (slots : List (Nat × FcSlot)) (s u v w x t : State),
      sGet? s.office.units k = some c →
      c.failed = false →
      (c.parity = true ∨ parityGood = true) →
      s.putWaits k c = false →
      s.journalFull = false →
      s.readsOnly = false →
      s.pdOn 24 = true →
      r = s.switchJob c.triples →
      (done = (List.range c.triples.length).filterMap (fun i => if r.2.2.getD i false then c.triples[i]? else none)) →
      (slots = c.slots.filter (fun p => done.any fun t => t.1 == p.1)) →
      (u = done.foldl (fun s t => s.settle r.2.1 reads slots t) r.1) →
      (v = done.foldl (fun s t => s.unlist t.1 (s.unitMask c t.1)) u) →
      w = (v.putOffice { v.office with units := sDel v.office.units k }).journal ⟨r.2.1, c.record, done, slots, []⟩ →
      x = (match c.key with
        | some (key, len, vlen, lpn) =>
          w.putHost { w.host with kv := sIns w.host.kv key ⟨len, vlen, lpn, vlen ≤ 1024 * w.get Reg.SOF_KV_BUNDLE_MAX, w.bucketOf key⟩ }
        | none => w) →
      (t = (slots.foldl (fun s p => s.putOffice
        { s.office with regions := sPut s.office.regions (placeArea p.2.locA * 16 + bitsOf p.2.locA 9 0 / 48)
                          (sGet s.office.regions (placeArea p.2.locA * 16 + bitsOf p.2.locA 9 0 / 48) 0 + 1) 0 }) x).trayDone c done) →
      exec (.commitUnitSwitch k true parityGood reads none) s =
      .next (if c.kind = .zone then t.zonesAgain c.triples else t).itrayRefresh) ∧
  (∀ (k reads : Nat) (receiptsGood parityGood : Bool) (c : CommitUnit) (s : State),
      sGet? s.office.units k = some c →
      c.failed = true →
      exec (.commitUnitSwitch k receiptsGood parityGood reads none) s =
      .next (s.putOffice { s.office with units := sDel s.office.units k })) ∧
  (∀ (take : List (Nat × FcSlot)) (places : List Nat) (s u v : State),
      s.fcAbove (s.get Reg.SOF_FOLD_FOLD_HI) = true →
      u = s.putOffice { s.office with folding := true } →
      u.mayPlace = true →
      take = u.foldTake →
      take ≠ [] →
      u.groupPut 0 (take.map (·.1)) true = (v, some places) →
      exec .folding s = .next (v.addUnit ⟨.fold, (List.range take.length).filterMap fun i => take[i]?.map fun p =>
        (p.1, v.mapEntry p.1, mkEntry false true (entUNR (v.mapEntry p.1)) (entWGEN (v.mapEntry p.1)) (places.getD i 0)), [], false, [], none, false⟩)) ∧
  (∀ (member g : Nat) (e : Group) (lpns places : List Nat) (s u v : State),
      s.gFree < s.get Reg.SOF_FOLD_RESORT_LO →
      u = s.putOffice { s.office with resorting := true } →
      u.resortSource = some (g, e) →
      lpns = u.validOf g e member →
      u.mayPlace = true →
      lpns ≠ [] →
      ((u.office.units.any fun c => c.2.triples.any fun t => lpns.contains t.1) = false) →
      member < u.layoutKM.1 →
      u.groupPut 1 lpns true = (v, some places) →
      exec (.reSorting member) s = .next (v.addUnit ⟨.resort, (List.range lpns.length).filterMap fun i => lpns[i]?.map fun lpn =>
        (lpn, v.mapEntry lpn, mkEntry (entFC (v.mapEntry lpn)) true (entUNR (v.mapEntry lpn)) (entWGEN (v.mapEntry lpn)) (places.getD i 0)), [], false, [],
        none, false⟩)) ∧
  (∀ (p : RecPlace) (rest : List RecPlace) (s : State),
      s.mayPlace = true →
      ((s.rcv.moves.find? fun m => m.status.isSome) = none) →
      s.rcv.ends = p :: rest →
      s.mapEntry p.lpn ≠ p.entry →
      exec .reallocation s = .next (s.putRcv { s.rcv with ends := rest })) ∧
  (∀ (p : RecPlace) (rest : List RecPlace) (s u : State),
      s.mayPlace = true →
      ((s.rcv.moves.find? fun m => m.status.isSome) = none) →
      s.rcv.ends = p :: rest →
      s.mapEntry p.lpn = p.entry →
      (s.placeSlot p).isSome = true →
      s.laneFree (Act.num p.lane) = true →
      u = s.putRcv { s.rcv with ends := rest } →
      exec .reallocation s = .next (u.moveOp p false)) ∧
  (∀ (s : State),
      s.host.lastMs + 10000 ≤ s.ms →
      exec .idleTimeout s = .next (s.putOffice { s.office with idle := true }))

/-- Bundles, zones, checkpoints, segment loads, the map rebuild, refresh and releases complete (R302, R316, R320, R323, R326, R328, R329,
R333, R334, R335). Completes, under hypotheses on the state and the operands alone: bundlePlaceTimeout, repack, zoneFinishRecommended,
zoneFinishByController, mapCheckpoint, segmentLoad, mapRebuild, refreshTrigger, locationRelease. -/
def Obligations.OfficeUpkeepRuns : Prop :=
  (∀ (k : Nat) (b : Bundle) (s : State),
      s.office.bundles[k]? = some b →
      b.placed = false →
      s.mayPlace = true →
      b.sinceMs + 5000 ≤ s.ms →
      exec (.bundlePlaceTimeout k) s = .next (s.placeBundle k b)) ∧
  (∀ (k : Nat) (b : Bundle) (s : State),
      s.office.bundles[k]? = some b →
      b.placed = true →
      s.mayPlace = true →
      s.bundleLive b = 0 →
      0 < s.get Reg.SOF_KV_REPACK_PCT →
      exec (.repack k) s = .next ((s.putOffice { s.office with bundles := s.office.bundles.eraseIdx k }).unmapAll [b.lpn] 0x05)) ∧
  (∀ (k : Nat) (b : Bundle) (vs : List (Nat × Nat)) (s : State),
      s.office.bundles[k]? = some b →
      b.placed = true →
      s.mayPlace = true →
      s.bundleLive b ≠ 0 →
      100 * s.bundleLive b < s.get Reg.SOF_KV_REPACK_PCT * 2 ^ 18 →
      (vs = b.values.filter fun v => (sGet? s.host.kv v.1).any fun e => e.bundled && e.lpn == b.lpn) →
      exec (.repack k) s = .next (vs.foldl (fun s v =>
        if s.office.bundles.any fun x => !x.placed && x.values.any fun w => w.1 == v.1 then s else s.bundleAdd b.nsid v.1 v.2) s)) ∧
  (∀ (nsid k t : Nat) (n : Ns) (s : State),
      sGet? s.host.nss nsid = some n →
      (n.zone k).lagMs = some t →
      (n.zone k).recommended = false →
      t + 60000 * s.get Reg.SOF_ZONE_ZFR_MIN ≤ s.ms →
      exec (.zoneFinishRecommended nsid k) s = .next ((s.putZone nsid k { n.zone k with recommended := true }).zoneChanged nsid k)) ∧
  (∀ (nsid k t : Nat) (n : Ns) (s : State),
      sGet? s.host.nss nsid = some n →
      (n.zone k).lagMs = some t →
      (n.zone k).recommended = true →
      t + 120000 * s.get Reg.SOF_ZONE_ZFR_MIN ≤ s.ms →
      exec (.zoneFinishByController nsid k) s = .next ((s.finishZone nsid k (n.zone k) true).zoneChanged nsid k)) ∧
  (∀ (img : Sparse Nat) (o : Office) (s v u : State),
      s.pdOn 24 = true →
      s.powerEvent = false →
      s.office.unloaded = [] →
      s.readsOnly = false →
      (img = s.mapImage.foldl (fun m p => sIns m p.1 p.2) []) →
      o = { s.office with ckpt := img, ckptSeq := s.sofSeq, trim := s.sofSeq, stamp := s.formatStamp, savedRegions := s.office.regions } →
      v = { s.putOffice o with mem := { s.mem with savedReads := s.mem.reads } } →
      (u = v.putOffice { v.office with journal := v.office.journal.filter fun r => v.office.trim ≤ r.seq }) →
      exec .mapCheckpoint s = .next (u.freeGroups false).resizeFc.floorCheck) ∧
  (∀ (k base : Nat) (ds : List (Nat × Nat × Nat)) (s u v w : State),
      s.office.unloaded.contains k = true →
      base = s.mapAddr 0 →
      (u = { s with cells := s.cells.filter fun c => !(base ≤ c.1 && (c.1 - base) / 2 ^ 22 == k) }) →
      (v = (u.office.ckpt.filter fun p => p.1 / 2 ^ 22 == k).foldl (fun s p => s.putByte (base + p.1) (BitVec.ofNat 8 p.2)) u) →
      (ds = (v.office.journal.filter fun r => v.office.ckptSeq ≤ r.seq).flatMap (·.triples)) →
      (w = (ds.filter fun t => 5 * t.1 / 2 ^ 22 == k).foldl (fun s t => s.putMap t.1 t.2.2) v) →
      exec (.segmentLoad k) s = .next (w.putOffice { w.office with unloaded := w.office.unloaded.erase k })) ∧
  (∀ (s : State),
      s.office.rebuildMap = false →
      exec (.mapRebuild none) s = .next (((s.putOffice { s.office with rebuildMap := true }).setCritical 2).ledger 0x0051 [0x40, 0, 0, 0, 0, 0, 0])) ∧
  (∀ (l : List (Nat × Nat × Nat)) (s u : State),
      s.office.rebuildMap = true →
      (u = (l.filter fun t => l.all fun u => u.1 != t.1 || u.2.2 ≤ t.2.2).foldl (fun s t => if s.mapped t.1 then s.putMap t.1 t.2.1 else s) s) →
      exec (.mapRebuild (some l)) s = .next (u.putOffice { u.office with rebuildMap := false, unloaded := [] })) ∧
  (∀ (place : Nat) (allGood : Bool) (s : State),
      s.mayPlace = true →
      s.coolEnough = true →
      100 * s.get Reg.SOF_REFRESH_ATI_FC ≤ sGet s.office.regions place 0 →
      exec (.refreshTrigger .region place allGood) s =
      .next (s.putOffice { s.office with regions := sDel s.office.regions place })) ∧
  (∀ (place : Nat) (allGood : Bool) (s : State),
      s.mayPlace = true →
      s.coolEnough = true →
      1000 * s.get Reg.SOF_REFRESH_READ_SLC ≤ sGet s.mem.reads (2 * place) 0 →
      exec (.refreshTrigger .oneBit place allGood) s =
      .next { s with mem := { s.mem with reads := sDel s.mem.reads (2 * place) } }) ∧
  (∀ (place : Nat) (s u : State),
      s.mayPlace = true →
      s.coolEnough = true →
      s.get Reg.SOF_REFRESH_ATI_SC ≤ (s.band place).ati →
      u = s.putOffice { s.office with bands := sIns s.office.bands place { s.band place with ati := 0 } } →
      exec (.refreshTrigger .edge place true) s = .next u ∧ exec (.refreshTrigger .edge place false) s = .next (u.queueGroup (place + 1))) ∧
  (∀ (k : Nat) (o : OldPlace) (readsEnded : Bool) (s u : State),
      s.office.old[k]? = some o →
      o.seq < s.office.trim →
      (readsEnded = true ∨ o.reads = 0) →
      u = s.putOffice { s.office with old := s.office.old.eraseIdx k } →
      exec (.locationRelease k readsEnded) s = .next (u.freeGroups false))

/-- Posting a consignment job, and the jobs of the engine, complete (R343, R347, R360, R364, R365). Completes, under hypotheses on the
state and the operands alone: cnsJobPost, encrypt, decrypt, encode, decode, check. -/
def Obligations.ConsignmentJobsRun : Prop :=
  (∀ (i : Initiator) (tail : Nat) (s : State),
      s.reaches i 0x40410010 = true →
      s.cnsQueued (tail % 512) ≤ 256 →
      exec (.cnsJobPost i tail) s = .next { (s.set Reg.CNS_J_PTR_CJTAIL tail).cnsRefresh with bus := .written }) ∧
  (∀ (i : Initiator) (tail : Nat) (s : State),
      s.reaches i 0x40410010 = true →
      256 < s.cnsQueued (tail % 512) →
      exec (.cnsJobPost i tail) s = .next ((s.set Reg.CNS_INT_J_OVF 1).ignored i 0x40410010)) ∧
  (∀ (errs : List EccErr) (j : CnsJob) (s u : State),
      s.pdOn 24 = true →
      s.get Reg.CNS_CTRL_ENABLE ≠ 0 →
      s.get Reg.CNS_CTRL_PAUSE = 0 →
      s.cnsRoom = true →
      s.cnsQueued (s.get Reg.CNS_J_PTR_CJTAIL) ≠ 0 →
      bitsOf (s.cnsWord 0) 31 28 = 1 →
      j = ⟨bitsOf (s.cnsWord 0) 15 0, bitsOf (s.cnsWord 0) 27 22, s.cnsWord 1, bitsOf (s.cnsWord 2) 8 0,
        s.cnsWord 1 + 2 ^ 32 * s.cnsWord 3, s.cnsWord 4 + 2 ^ 32 * s.cnsWord 5, s.cnsWord 6 + 2 ^ 32 * s.cnsWord 7⟩ →
      s.cnsBad 1 j = false →
      u = s.set Reg.CNS_J_PTR_CJHEAD ((s.get Reg.CNS_J_PTR_CJHEAD + 1) % 512) →
      exec (.encrypt errs) s = .next (u.cnsCrypt false j errs)) ∧
  (∀ (errs : List EccErr) (j : CnsJob) (s u : State),
      s.pdOn 24 = true →
      s.get Reg.CNS_CTRL_ENABLE ≠ 0 →
      s.get Reg.CNS_CTRL_PAUSE = 0 →
      s.cnsRoom = true →
      s.cnsQueued (s.get Reg.CNS_J_PTR_CJTAIL) ≠ 0 →
      bitsOf (s.cnsWord 0) 31 28 = 2 →
      j = ⟨bitsOf (s.cnsWord 0) 15 0, bitsOf (s.cnsWord 0) 27 22, s.cnsWord 1, bitsOf (s.cnsWord 2) 8 0,
        s.cnsWord 1 + 2 ^ 32 * s.cnsWord 3, s.cnsWord 4 + 2 ^ 32 * s.cnsWord 5, s.cnsWord 6 + 2 ^ 32 * s.cnsWord 7⟩ →
      s.cnsBad 2 j = false →
      u = s.set Reg.CNS_J_PTR_CJHEAD ((s.get Reg.CNS_J_PTR_CJHEAD + 1) % 512) →
      exec (.decrypt errs) s = .next (u.cnsCrypt true j errs)) ∧
  (∀ (errs : List EccErr) (j : CnsJob) (ms : List Nat) (n : Nat) (parity : Nat → Bool) (s u : State),
      s.pdOn 24 = true →
      s.get Reg.CNS_CTRL_ENABLE ≠ 0 →
      s.get Reg.CNS_CTRL_PAUSE = 0 →
      s.cnsRoom = true →
      s.cnsQueued (s.get Reg.CNS_J_PTR_CJTAIL) ≠ 0 →
      bitsOf (s.cnsWord 0) 31 28 = 3 →
      j = ⟨bitsOf (s.cnsWord 0) 15 0, bitsOf (s.cnsWord 0) 27 22, s.cnsWord 1, bitsOf (s.cnsWord 2) 8 0,
        s.cnsWord 1 + 2 ^ 32 * s.cnsWord 3, s.cnsWord 4 + 2 ^ 32 * s.cnsWord 5, s.cnsWord 6 + 2 ^ 32 * s.cnsWord 7⟩ →
      s.cnsBad 3 j = false →
      u = s.set Reg.CNS_J_PTR_CJHEAD ((s.get Reg.CNS_J_PTR_CJHEAD + 1) % 512) →
      ms = u.members j.src →
      n = 4096 * j.sectors →
      (parity = fun i => decide (u.layoutKM.1 ≤ i)) →
      u.membersRead ms n parity errs = true →
      exec (.encode errs) s = .next (((u.membersEcc ms n parity errs).writeMembers ms n parity parity).cnsResult j.tag 0x00 0)) ∧
  (∀ (errs : List EccErr) (j : CnsJob) (ms : List Nat) (n : Nat) (out : Nat → Bool) (v : State) (s u : State),
      s.pdOn 24 = true →
      s.get Reg.CNS_CTRL_ENABLE ≠ 0 →
      s.get Reg.CNS_CTRL_PAUSE = 0 →
      s.cnsRoom = true →
      s.cnsQueued (s.get Reg.CNS_J_PTR_CJTAIL) ≠ 0 →
      bitsOf (s.cnsWord 0) 31 28 = 4 →
      j = ⟨bitsOf (s.cnsWord 0) 15 0, bitsOf (s.cnsWord 0) 27 22, s.cnsWord 1, bitsOf (s.cnsWord 2) 8 0,
        s.cnsWord 1 + 2 ^ 32 * s.cnsWord 3, s.cnsWord 4 + 2 ^ 32 * s.cnsWord 5, s.cnsWord 6 + 2 ^ 32 * s.cnsWord 7⟩ →
      s.cnsBad 4 j = false →
      u = s.set Reg.CNS_J_PTR_CJHEAD ((s.get Reg.CNS_J_PTR_CJHEAD + 1) % 512) →
      ms = u.members j.src →
      n = 4096 * j.sectors →
      (out = fun i => bitOf j.mask i) →
      u.membersRead ms n out errs = true →
      v = (u.membersEcc ms n out errs).inc Reg.CNS_COUNTS_DECODES →
      exec (.decode errs) s = .next (((v.writeMembers ms n out out).decodeServes ms n j.mask (v.consignCheck ms n j.mask)).cnsResult j.tag 0x00 0)) ∧
  (∀ (errs : List EccErr) (j : CnsJob) (ms : List Nat) (n : Nat) (out : Nat → Bool) (v : State) (s u : State),
      s.pdOn 24 = true →
      s.get Reg.CNS_CTRL_ENABLE ≠ 0 →
      s.get Reg.CNS_CTRL_PAUSE = 0 →
      s.cnsRoom = true →
      s.cnsQueued (s.get Reg.CNS_J_PTR_CJTAIL) ≠ 0 →
      bitsOf (s.cnsWord 0) 31 28 = 5 →
      j = ⟨bitsOf (s.cnsWord 0) 15 0, bitsOf (s.cnsWord 0) 27 22, s.cnsWord 1, bitsOf (s.cnsWord 2) 8 0,
        s.cnsWord 1 + 2 ^ 32 * s.cnsWord 3, s.cnsWord 4 + 2 ^ 32 * s.cnsWord 5, s.cnsWord 6 + 2 ^ 32 * s.cnsWord 7⟩ →
      s.cnsBad 5 j = false →
      u = s.set Reg.CNS_J_PTR_CJHEAD ((s.get Reg.CNS_J_PTR_CJHEAD + 1) % 512) →
      ms = u.members j.src →
      n = 4096 * j.sectors →
      (out = fun i => bitOf j.mask i) →
      u.membersRead ms n out errs = true →
      v = u.membersEcc ms n out errs →
      exec (.check errs) s = .next (match (List.range n).find? fun b => !(List.range ms.length).all fun i => out i ||
          (solveRow v.layoutKM.1 v.layoutKM.2 (v.rowBytes ms b) out).getD i 0 == (v.rowBytes ms b).getD i 0 with
        | none => v.cnsResult j.tag 0x00 0
        | some b => (v.inc Reg.CNS_COUNTS_MISMATCH).cnsResult j.tag 0x01 (b / 4096)))

/-- Key operations, head retirement, rebuild units and parity scrubs complete (R351, R353, R356, R358, R359, R361, R364). Completes, under
hypotheses on the state and the operands alone: loadWrappedKey, generateKey, clearKeySlot, clearAllKeySlots, kekLoad, headRetirement,
rebuildUnitCommit, parityScrub. -/
def Obligations.KeysAndRetirementRun : Prop :=
  (∀ (i : Initiator) (slot : Nat) (s v : State),
      s.reaches i 0x40410030 = true →
      v = s.setAll [(Reg.CNS_KEY_CTRL_OP, 1), (Reg.CNS_KEY_CTRL_SLOT, slot % 64), (Reg.CNS_KEY_CTRL_GO, 0)] →
      exec (.loadWrappedKey i slot) s = .next { (match keyUnwrap v.kekBytes ((v.bytes v.keyAddr 72).map (·.toNat)) with
        | some k => v.putKey (slot % 64) (some (ofBytes k))
        | none => (v.putKey (slot % 64) none).set Reg.CNS_KEY_STAT_UNWRAP_FAIL 1) with bus := .written }) ∧
  (∀ (i : Initiator) (slot : Nat) (s v : State),
      s.reaches i 0x40410030 = true →
      v = s.setAll [(Reg.CNS_KEY_CTRL_OP, 2), (Reg.CNS_KEY_CTRL_SLOT, slot % 64), (Reg.CNS_KEY_CTRL_GO, 0)] →
      exec (.generateKey i slot) s = .next { (v.generateKey (slot % 64)).store (v.generateKey (slot % 64)).keyAddr
        ((((v.generateKey (slot % 64)).wrapped (slot % 64)).getD []).map (BitVec.ofNat 8)) with bus := .written }) ∧
  (∀ (i : Initiator) (slot : Nat) (s v : State),
      s.reaches i 0x40410030 = true →
      v = s.setAll [(Reg.CNS_KEY_CTRL_OP, 3), (Reg.CNS_KEY_CTRL_SLOT, slot % 64), (Reg.CNS_KEY_CTRL_GO, 0)] →
      exec (.clearKeySlot i slot) s = .next { v.putKey (slot % 64) none with bus := .written }) ∧
  (∀ (i : Initiator) (s v : State),
      s.reaches i 0x40410030 = true →
      v = s.setAll [(Reg.CNS_KEY_CTRL_OP, 4), (Reg.CNS_KEY_CTRL_SLOT, 0), (Reg.CNS_KEY_CTRL_GO, 0)] →
      exec (.clearAllKeySlots i) s = .next { v.clearKeys with bus := .written }) ∧
  (∀ (i : Initiator) (v : Nat) (s u : State),
      s.reaches i 0x4041011C = true →
      u = s.set (Reg.CNS_KEK_KEK 7) v →
      exec (.kekLoad i v) s =
      .next { (u.putCons { u.cons with kek := (List.range 8).map fun n => (n, u.get (Reg.CNS_KEK_KEK n)) }).set Reg.CNS_KEY_STAT_NO_KEK 0 with
        bus := .written }) ∧
  (∀ (surface trigger : Nat) (s : State),
      surface < 32 →
      s.fitted (Act.num (surface / 8)) = true →
      s.headRetired (Act.num (surface / 8)) (surface % 8) = false →
      s.retireTrigger surface trigger = true →
      exec (.headRetirement surface trigger) s = .next (s.retireHead surface trigger)) ∧
  (∀ (lost new : Nat × Nat) (rest : List (Nat × Nat)) (p : Pair) (s : State),
      s.cons.todo = lost :: rest →
      s.cons.rebuild = 2 →
      s.mayPlace = true →
      ((s.office.pairs.find? fun p => p.a == lost || p.b == lost) = some p) →
      p.a = lost →
      s.gone p.b.1 = false →
      (s.replacement (s.surfaces.filter fun x => x / 8 != p.b.1 / 8) lost = some new) →
      exec (.rebuildUnitCommit true) s = .next ((s.rebuildPair lost new).unitDone lost.1 true)) ∧
  (∀ (g : Nat) (e : Group) (seen : List Nat) (all : Bool) (s : State),
      sGet? s.office.groups g = some e →
      e.closed = true →
      s.missing e = 0 →
      s.powerEvent = false →
      seen = (if s.cons.scrubbed.contains g then s.cons.scrubbed else g :: s.cons.scrubbed) →
      (all = ((s.office.groups.filter fun p => p.2.closed && s.missing p.2 == 0).all fun p => seen.contains p.1)) →
      exec (.parityScrub g none) s =
      .next (s.putCons { s.cons with scrubbed := if all then [] else seen, lapMs := if all then s.ms else s.cons.lapMs }))

/-- The handlers of added microcode run up to their next action (R373, R374, R375, R406). Completes, under hypotheses on the state and the
operands alone: preEnd, crc32c, payloadToBags, bagsToTransmitQueue, buildAndSendPdu, postInTrayEntry, postCoreMessage, releaseBags,
corePostedEvent. -/
def Obligations.ProtocolHandlersRun : Prop :=
  (∀ (hdr data : Bool) (key conn : Nat) (s t : State),
      s.preUp = true →
      t = s.preBegin.prePlain hdr data 1024 →
      t.pre.handler = some (key, conn) →
      (PW.ofNat (sGet t.pre.store t.pre.pc 0)).act = 7 →
      exec (.preEnd hdr data) s = .next (t.preWord conn hdr data)) ∧
  (∀ (hdr data : Bool) (key conn : Nat) (s t : State),
      s.preUp = true →
      t = s.preBegin.prePlain hdr data 1024 →
      t.pre.handler = some (key, conn) →
      (PW.ofNat (sGet t.pre.store t.pre.pc 0)).act = 8 →
      exec (.crc32c hdr data) s = .next (t.preWord conn hdr data)) ∧
  (∀ (hdr data : Bool) (key conn : Nat) (s t : State),
      s.preUp = true →
      t = s.preBegin.prePlain hdr data 1024 →
      t.pre.handler = some (key, conn) →
      (PW.ofNat (sGet t.pre.store t.pre.pc 0)).act = 1 →
      exec (.payloadToBags hdr data) s = .next (t.preWord conn hdr data)) ∧
  (∀ (hdr data : Bool) (key conn : Nat) (s t : State),
      s.preUp = true →
      t = s.preBegin.prePlain hdr data 1024 →
      t.pre.handler = some (key, conn) →
      (PW.ofNat (sGet t.pre.store t.pre.pc 0)).act = 2 →
      exec (.bagsToTransmitQueue hdr data) s = .next (t.preWord conn hdr data)) ∧
  (∀ (hdr data : Bool) (key conn : Nat) (s t : State),
      s.preUp = true →
      t = s.preBegin.prePlain hdr data 1024 →
      t.pre.handler = some (key, conn) →
      (PW.ofNat (sGet t.pre.store t.pre.pc 0)).act = 3 →
      exec (.buildAndSendPdu hdr data) s = .next (t.preWord conn hdr data)) ∧
  (∀ (hdr data : Bool) (key conn : Nat) (s t : State),
      s.preUp = true →
      t = s.preBegin.prePlain hdr data 1024 →
      t.pre.handler = some (key, conn) →
      (PW.ofNat (sGet t.pre.store t.pre.pc 0)).act = 4 →
      exec (.postInTrayEntry hdr data) s = .next (t.preWord conn hdr data)) ∧
  (∀ (hdr data : Bool) (key conn : Nat) (s t : State),
      s.preUp = true →
      t = s.preBegin.prePlain hdr data 1024 →
      t.pre.handler = some (key, conn) →
      (PW.ofNat (sGet t.pre.store t.pre.pc 0)).act = 5 →
      exec (.postCoreMessage hdr data) s = .next (t.preWord conn hdr data)) ∧
  (∀ (hdr data : Bool) (key conn : Nat) (s t : State),
      s.preUp = true →
      t = s.preBegin.prePlain hdr data 1024 →
      t.pre.handler = some (key, conn) →
      (PW.ofNat (sGet t.pre.store t.pre.pc 0)).act = 6 →
      exec (.releaseBags hdr data) s = .next (t.preWord conn hdr data)) ∧
  (∀ (i : Initiator) (arg conn key : Nat) (s : State),
      s.reaches i 0x4052001C = true →
      0x80 ≤ key →
      key < 0x100 →
      s.keyValid key = true →
      exec (.corePostedEvent i arg conn key) s =
      .next { s.putPre { s.pre with queue := s.pre.queue ++ [(key, conn % 256, arg % 65536)] } with bus := .written }) ∧
  (∀ (i : Initiator) (arg conn key : Nat) (s : State),
      s.reaches i 0x4052001C = true →
      key < 0x80 →
      exec (.corePostedEvent i arg conn key) s = .next (s.ignored i 0x4052001C))

/-- The loader of the protocol engine, its controls and the PDUs at the head of a connection complete (R372, R373, R377, R406). Completes,
under hypotheses on the state and the operands alone: preLoad, preLoadDone, preRun, preClrPeak, icreq, h2cTermReq, invalidPduType. -/
def Obligations.ProtocolEngineAndPdusRun : Prop :=
  (∀ (i : Initiator) (s : State),
      s.reaches i 0x40520000 = true →
      (s.get Reg.PRE_STATUS_STATE = 0 ∨ s.get Reg.PRE_STATUS_STATE = 2 ∨ s.get Reg.PRE_STATUS_STATE = 4) →
      exec (.preLoad i) s = .next { s.set Reg.PRE_STATUS_STATE 1 with bus := .written }) ∧
  (∀ (a : Nat) (words : Sparse Nat) (b : List Nat) (u s : State),
      s.get Reg.PRE_STATUS_STATE = 1 →
      a = s.get Reg.PRE_LOAD_LO_ADDR + 2 ^ 32 * s.get Reg.PRE_LOAD_HI_ADDR →
      words = s.imageWords a 16 2048 →
      b = s.imageBytes a (512 + 16 * 2048) →
      u = (s.putPre { s.pre with store := words }).set Reg.PRE_INT_LOAD_DONE 1 →
      exec .preLoadDone s = .next (if (s.imageSigned b && words.all fun p => preReservedOk p.1 p.2) = true then
        ((u.putPre { u.pre with provides := prologueProvides b }).set Reg.PRE_STATUS_STATE 2).set Reg.PRE_BUILD_BUILD (prologueBuild b)
      else (u.set Reg.PRE_STATUS_STATE 0).set Reg.PRE_STATUS_LOAD_FAIL 1)) ∧
  (∀ (i : Initiator) (s u : State),
      s.reaches i 0x40520000 = true →
      2 ≤ s.get Reg.PRE_STATUS_STATE →
      u = s.set Reg.PRE_CTRL_RUN 1 →
      exec (.preRun i true) s = .next { u.set Reg.PRE_STATUS_STATE 3 with bus := .written }) ∧
  (∀ (i : Initiator) (s u : State),
      s.reaches i 0x40520000 = true →
      s.get Reg.PRE_STATUS_STATE = 3 →
      u = s.set Reg.PRE_CTRL_RUN 0 →
      exec (.preRun i false) s = .next { u.set Reg.PRE_STATUS_STATE 4 with bus := .written }) ∧
  (∀ (i : Initiator) (s : State),
      s.reaches i 0x40520000 = true →
      exec (.preClrPeak i) s = .next { s.set Reg.PRE_PEAK_CAPSULE_WAIT 0 with bus := .written }) ∧
  (∀ (conn : Nat) (hdgst ddgst : Bool) (maxR2t : Nat) (e : Conn) (c d : Conn) (s u : State),
      s.conn? conn = some c →
      s.portUp (Prt.num c.port) = true →
      s.serves 0x00 = true →
      d = { c with owed := c.owed + 128 } →
      u = s.putConn conn d →
      c.ready = false →
      e = { d.sends 128 s.clockNs with ready := true, hdgst := hdgst, ddgst := ddgst, maxR2t := maxR2t, window := max c.window (c.unacked + 128) } →
      exec (.icreq conn 0 hdgst ddgst maxR2t) s = .next ((u.putConn conn e).emit (.icResp conn hdgst ddgst))) ∧
  (∀ (conn : Nat) (pfv : Nat) (hdgst ddgst : Bool) (maxR2t : Nat) (c d : Conn) (s u : State),
      s.conn? conn = some c →
      s.portUp (Prt.num c.port) = true →
      s.serves 0x00 = true →
      d = { c with owed := c.owed + 128 } →
      u = s.putConn conn d →
      (c.ready = true ∨ pfv ≠ 0) →
      exec (.icreq conn pfv hdgst ddgst maxR2t) s = .next (u.terminate conn)) ∧
  (∀ (conn : Nat) (c d : Conn) (s u : State),
      s.conn? conn = some c →
      s.portUp (Prt.num c.port) = true →
      s.serves 0x02 = true →
      d = { c with owed := c.owed + 24 } →
      u = s.putConn conn d →
      exec (.h2cTermReq conn) s = .next (u.loseConn conn)) ∧
  (∀ (conn key : Nat) (c : Conn) (s : State),
      s.conn? conn = some c →
      s.portUp (Prt.num c.port) = true →
      s.preUp = true →
      s.keyValid key = false →
      exec (.invalidPduType conn key) s = .next (s.terminate conn))

/-- The bag manager, the pigeonhole cache, the scrubber and the slip table complete (R409, R410, R416, R422, R423). Completes, under
hypotheses on the state and the operands alone: bpmAlloc, bpmRelease, bpmShare, phcFlush, phcWindowWrite, dramScrubRead,
slipTableSave. -/
def Obligations.BagsCacheAndSlipsRun : Prop :=
  (∀ (i : Initiator) (n pick : Nat) (s : State),
      s.reaches i (0x40600040 + 4 * n) = true →
      n < 4 →
      s.poolFree n ≠ 0 →
      pick < poolBags n →
      s.bagFree (bagHandle n pick) = true →
      exec (.bpmAlloc i n pick) s = .next { s.setOwners (bagHandle n pick) 1 with bus := .read (bagHandle n pick) }) ∧
  (∀ (i : Initiator) (n pick : Nat) (s u : State),
      s.reaches i (0x40600040 + 4 * n) = true →
      n < 4 →
      (∀ k, n ≤ k → k < 4 → s.poolFree k = 0) →
      u = s.inc (Reg.BPM_FREE_EMPTY n) →
      exec (.bpmAlloc i n pick) s = .next { u.setBit Reg.BPM_INT_EMPTY n true with bus := .read 0xFFFFFFFF }) ∧
  (∀ (i : Initiator) (h : Nat) (s u : State),
      s.reaches i 0x40600050 = true →
      bagNamed h = true →
      s.owners h ≠ 0 →
      u = s.setOwners h (s.owners h - 1) →
      s.bags.marked.contains h = false →
      exec (.bpmRelease i h) s = .next { u with bus := .written }) ∧
  (∀ (i : Initiator) (h : Nat) (s u : State),
      s.reaches i 0x40600050 = true →
      (bagNamed h = false ∨ s.owners h = 0) →
      u = s.set Reg.BPM_INT_BAD_OP 1 →
      exec (.bpmRelease i h) s = .next { u.event 0x60 0x02 h (initiatorCode i) with bus := .written }) ∧
  (∀ (i : Initiator) (h : Nat) (s : State),
      s.reaches i 0x40600054 = true →
      bagNamed h = true →
      s.owners h ≠ 0 →
      s.owners h ≠ 15 →
      exec (.bpmShare i h) s = .next { s.setOwners h (s.owners h + 1) with bus := .written }) ∧
  (∀ (i : Initiator) (h : Nat) (s u : State),
      s.reaches i 0x40600054 = true →
      (bagNamed h = false ∨ s.owners h = 0 ∨ s.owners h = 15) →
      u = s.set Reg.BPM_INT_BAD_OP 1 →
      exec (.bpmShare i h) s = .next { u.event 0x60 0x02 h (initiatorCode i) with bus := .written }) ∧
  (∀ (i : Initiator) (s u : State),
      s.reaches i 0x40610000 = true →
      u = s.phcFlush →
      exec (.phcFlush i) s = .next { u with bus := .written } ∧ u.phcDirty = []) ∧
  (∀ (i : Initiator) (n v : Nat) (s u : State),
      n < 4 →
      s.reaches i (0x40610010 + 8 * n) = true →
      u = s.set (Reg.PHC_WIN_BASE_ADDR n) (bitsOf v 22 0) →
      (∀ l ∈ s.phcDirty, ¬ (s.get (Reg.PHC_WIN_BASE_ADDR n) * 4096 ≤ l * 128 ∧ l * 128 < (s.get (Reg.PHC_WIN_LIM_ADDR n) + 1) * 4096) ∧
        ¬ ((u.set (Reg.PHC_WIN_BASE_POLICY n) (bitsOf v 31 30)).get (Reg.PHC_WIN_BASE_ADDR n) * 4096 ≤ l * 128 ∧
          l * 128 < ((u.set (Reg.PHC_WIN_BASE_POLICY n) (bitsOf v 31 30)).get (Reg.PHC_WIN_LIM_ADDR n) + 1) * 4096)) →
      exec (.phcWindowWrite i n false v) s = .next { u.set (Reg.PHC_WIN_BASE_POLICY n) (bitsOf v 31 30) with bus := .written }) ∧
  (∀ (i : Initiator) (n v : Nat) (s : State),
      n < 4 →
      s.reaches i (0x40610014 + 8 * n) = true →
      ((s.phcDirty.any fun l => s.get (Reg.PHC_WIN_BASE_ADDR n) * 4096 ≤ l * 128 && l * 128 < (s.get (Reg.PHC_WIN_LIM_ADDR n) + 1) * 4096) = true) →
      exec (.phcWindowWrite i n true v) s = .next (s.ignored i (0x40610014 + 8 * n))) ∧
  (∀ (errs : List EccErr) (k : Nat) (s u : State),
      s.pdOn 28 = true →
      s.pdOn 22 = true →
      s.get Reg.MEM_STATUS_STATE = 1 →
      k = s.scrubNext s.mem.scrubAt →
      u = s.dramRead (k * 64) 64 errs →
      k < u.scrubNext ((k + 1) % 2 ^ 29) →
      exec (.dramScrubRead errs) s = .next { u with mem := { u.mem with scrubAt := u.scrubNext ((k + 1) % 2 ^ 29) } }) ∧
  (∀ (s : State),
      s.mem.unsaved = true →
      s.pdOn 23 = true →
      exec .slipTableSave s = .next { s with mem := { s.mem with slips := s.slipTable, unsaved := false } })

/-- The carrier engines carry out their dockets (R417, R418, R419, R420). Completes, under hypotheses on the state and the operands alone:
dmaTailWrite, copy, copyAndWriteCrc, copyAndCheckCrc, fill, dmaResume, dmaStop. -/
def Obligations.DocketsRun : Prop :=
  (∀ (i : Initiator) (c tail : Nat) (s u : State),
      c < 64 →
      s.reaches i (0x40620108 + 32 * c) = true →
      s.dmaQueued c (tail % 512) ≤ 256 →
      u = s.set (Reg.DMA_CH_PTR_TAIL c) tail →
      exec (.dmaTailWrite i c tail) s = .next { u.dmaRefresh c with bus := .written }) ∧
  (∀ (i : Initiator) (c tail : Nat) (s : State),
      c < 64 →
      s.reaches i (0x40620108 + 32 * c) = true →
      256 < s.dmaQueued c (tail % 512) →
      exec (.dmaTailWrite i c tail) s = .next (s.ignored i (0x40620108 + 32 * c))) ∧
  (∀ (c a n d : Nat) (x : Nat) (errs : List EccErr) (s u : State) (fab : Fabric),
      c < 64 →
      s.pdOn 22 = true →
      s.get (Reg.DMA_CH_CTRL_ENABLE c) = 1 →
      s.get (Reg.DMA_CH_STATUS_STATE c) ≠ 2 →
      s.dmaQueued c (s.get (Reg.DMA_CH_PTR_TAIL c)) ≠ 0 →
      a = s.docketAddr c →
      n = s.dword (a + 4) →
      0 < n →
      n ≤ 2 ^ 26 →
      bitOf (s.dword a) 31 = true →
      bitsOf (s.dword a) 30 28 = 1 →
      x = s.dword (a + 8) + 2 ^ 32 * s.dword (a + 12) →
      d = s.dword (a + 16) + 2 ^ 32 * s.dword (a + 20) →
      s.transferStop (some x) d n errs fab = none →
      (s.fabricStop d n).isSome = false →
      (s.fabricStop x n).isSome = false →
      u = (s.dramRead x n errs).store d (s.bytes x n) →
      u.dword (a + 28) = 0xFFFFFFFF →
      exec (.copy c errs fab) s = .next (u.docketEnd c 0x00 n a)) ∧
  (∀ (c a n d h : Nat) (x : Nat) (errs : List EccErr) (s u : State) (fab : Fabric),
      c < 64 →
      s.pdOn 22 = true →
      s.get (Reg.DMA_CH_CTRL_ENABLE c) = 1 →
      s.get (Reg.DMA_CH_STATUS_STATE c) ≠ 2 →
      s.dmaQueued c (s.get (Reg.DMA_CH_PTR_TAIL c)) ≠ 0 →
      a = s.docketAddr c →
      n = s.dword (a + 4) →
      0 < n →
      n ≤ 2 ^ 26 →
      bitOf (s.dword a) 31 = true →
      bitsOf (s.dword a) 30 28 = 1 →
      x = s.dword (a + 8) + 2 ^ 32 * s.dword (a + 12) →
      d = s.dword (a + 16) + 2 ^ 32 * s.dword (a + 20) →
      s.transferStop (some x) d n errs fab = none →
      (s.fabricStop d n).isSome = false →
      (s.fabricStop x n).isSome = false →
      u = (s.dramRead x n errs).store d (s.bytes x n) →
      h = u.dword (a + 28) →
      h ≠ 0xFFFFFFFF →
      exec (.copy c errs fab) s = .next ((u.docketEnd c 0x00 n a).bagRelease h 0x62)) ∧
  (∀ (c a n d : Nat) (x : Nat) (errs : List EccErr) (s u : State) (fab : Fabric),
      c < 64 →
      s.pdOn 22 = true →
      s.get (Reg.DMA_CH_CTRL_ENABLE c) = 1 →
      s.get (Reg.DMA_CH_STATUS_STATE c) ≠ 2 →
      s.dmaQueued c (s.get (Reg.DMA_CH_PTR_TAIL c)) ≠ 0 →
      a = s.docketAddr c →
      n = s.dword (a + 4) →
      0 < n →
      n ≤ 2 ^ 26 →
      bitOf (s.dword a) 31 = true →
      bitsOf (s.dword a) 30 28 = 1 →
      x = s.dword (a + 8) + 2 ^ 32 * s.dword (a + 12) →
      d = s.dword (a + 16) + 2 ^ 32 * s.dword (a + 20) →
      s.transferStop (some x) d n errs fab = none →
      ((s.fabricStop d n).isSome || (s.fabricStop x n).isSome) = true →
      u = (s.dramRead x n errs).store d (s.bytes x n) →
      u.fabricHit.dword (a + 28) = 0xFFFFFFFF →
      exec (.copy c errs fab) s = .next (u.fabricHit.docketEnd c 0x00 n a)) ∧
  (∀ (c a n d : Nat) (x k : Nat) (errs : List EccErr) (s u : State) (fab : Fabric),
      c < 64 →
      s.pdOn 22 = true →
      s.get (Reg.DMA_CH_CTRL_ENABLE c) = 1 →
      s.get (Reg.DMA_CH_STATUS_STATE c) ≠ 2 →
      s.dmaQueued c (s.get (Reg.DMA_CH_PTR_TAIL c)) ≠ 0 →
      a = s.docketAddr c →
      n = s.dword (a + 4) →
      0 < n →
      n ≤ 2 ^ 26 →
      bitOf (s.dword a) 31 = true →
      bitsOf (s.dword a) 30 28 = 1 →
      x = s.dword (a + 8) + 2 ^ 32 * s.dword (a + 12) →
      d = s.dword (a + 16) + 2 ^ 32 * s.dword (a + 20) →
      s.transferStop (some x) d n errs fab = some (k, 1) →
      (s.fabricStop d n).isSome = false →
      (s.fabricStop x n).isSome = false →
      u = (s.dramRead x (min n (k + 1)) errs).store d (s.bytes x k) →
      exec (.copy c errs fab) s = .next (u.docketEnd c 0x01 k (x + k))) ∧
  (∀ (c a n d : Nat) (x k : Nat) (errs : List EccErr) (s u : State) (fab : Fabric),
      c < 64 →
      s.pdOn 22 = true →
      s.get (Reg.DMA_CH_CTRL_ENABLE c) = 1 →
      s.get (Reg.DMA_CH_STATUS_STATE c) ≠ 2 →
      s.dmaQueued c (s.get (Reg.DMA_CH_PTR_TAIL c)) ≠ 0 →
      a = s.docketAddr c →
      n = s.dword (a + 4) →
      0 < n →
      n ≤ 2 ^ 26 →
      bitOf (s.dword a) 31 = true →
      bitsOf (s.dword a) 30 28 = 1 →
      x = s.dword (a + 8) + 2 ^ 32 * s.dword (a + 12) →
      d = s.dword (a + 16) + 2 ^ 32 * s.dword (a + 20) →
      s.transferStop (some x) d n errs fab = some (k, 2) →
      (s.fabricStop d n).isSome = false →
      (s.fabricStop x n).isSome = false →
      u = (s.dramRead x k errs).store d (s.bytes x k) →
      exec (.copy c errs fab) s = .next (u.docketEnd c 0x02 k (d + k))) ∧
  (∀ (c a n d : Nat) (x : Nat) (errs : List EccErr) (s u : State) (fab : Fabric),
      c < 64 →
      s.pdOn 22 = true →
      s.get (Reg.DMA_CH_CTRL_ENABLE c) = 1 →
      s.get (Reg.DMA_CH_STATUS_STATE c) ≠ 2 →
      s.dmaQueued c (s.get (Reg.DMA_CH_PTR_TAIL c)) ≠ 0 →
      a = s.docketAddr c →
      n = s.dword (a + 4) →
      0 < n →
      n ≤ 2 ^ 26 →
      bitOf (s.dword a) 31 = true →
      bitsOf (s.dword a) 30 28 = 3 →
      x = s.dword (a + 8) + 2 ^ 32 * s.dword (a + 12) →
      d = s.dword (a + 16) + 2 ^ 32 * s.dword (a + 20) →
      s.transferStop (some x) d n errs fab = none →
      (s.fabricStop d n).isSome = false →
      (s.fabricStop x n).isSome = false →
      u = (s.dramRead x n errs).store d (s.bytes x n) →
      (u.storeWords (a + 24) [crc32c ((s.bytes x n).map (·.toNat))]).dword (a + 28) = 0xFFFFFFFF →
      exec (.copyAndWriteCrc c errs fab) s = .next ((u.storeWords (a + 24) [crc32c ((s.bytes x n).map (·.toNat))]).docketEnd c 0x00 n a)) ∧
  (∀ (c a n d : Nat) (x : Nat) (errs : List EccErr) (s u : State) (fab : Fabric),
      c < 64 →
      s.pdOn 22 = true →
      s.get (Reg.DMA_CH_CTRL_ENABLE c) = 1 →
      s.get (Reg.DMA_CH_STATUS_STATE c) ≠ 2 →
      s.dmaQueued c (s.get (Reg.DMA_CH_PTR_TAIL c)) ≠ 0 →
      a = s.docketAddr c →
      n = s.dword (a + 4) →
      0 < n →
      n ≤ 2 ^ 26 →
      bitOf (s.dword a) 31 = true →
      bitsOf (s.dword a) 30 28 = 4 →
      x = s.dword (a + 8) + 2 ^ 32 * s.dword (a + 12) →
      d = s.dword (a + 16) + 2 ^ 32 * s.dword (a + 20) →
      s.transferStop (some x) d n errs fab = none →
      (s.fabricStop d n).isSome = false →
      (s.fabricStop x n).isSome = false →
      u = (s.dramRead x n errs).store d (s.bytes x n) →
      u.dword (a + 28) = 0xFFFFFFFF →
      exec (.copyAndCheckCrc c errs fab) s = .next (u.docketEnd c (if crc32c ((s.bytes x n).map (·.toNat)) = u.dword (a + 24) then 0x00 else 0x03) n a)) ∧
  (∀ (c a n d : Nat) (s u : State) (fab : Fabric),
      c < 64 →
      s.pdOn 22 = true →
      s.get (Reg.DMA_CH_CTRL_ENABLE c) = 1 →
      s.get (Reg.DMA_CH_STATUS_STATE c) ≠ 2 →
      s.dmaQueued c (s.get (Reg.DMA_CH_PTR_TAIL c)) ≠ 0 →
      a = s.docketAddr c →
      n = s.dword (a + 4) →
      0 < n →
      n ≤ 2 ^ 26 →
      bitOf (s.dword a) 31 = true →
      bitsOf (s.dword a) 30 28 = 2 →
      d = s.dword (a + 16) + 2 ^ 32 * s.dword (a + 20) →
      s.transferStop none d n [] fab = none →
      (s.fabricStop d n).isSome = false →
      (u = s.store d ((List.range n).map fun k => BitVec.ofNat 8 (s.dword (a + 8) / 256 ^ (k % 4)))) →
      u.dword (a + 28) = 0xFFFFFFFF →
      exec (.fill c fab) s = .next (u.docketEnd c 0x00 n a)) ∧
  (∀ (c a : Nat) (errs : List EccErr) (s : State) (fab : Fabric),
      c < 64 →
      s.pdOn 22 = true →
      s.get (Reg.DMA_CH_CTRL_ENABLE c) = 1 →
      s.get (Reg.DMA_CH_STATUS_STATE c) ≠ 2 →
      s.dmaQueued c (s.get (Reg.DMA_CH_PTR_TAIL c)) ≠ 0 →
      a = s.docketAddr c →
      (bitsOf (s.dword a) 30 28 ≠ 2 ∧ bitsOf (s.dword a) 30 28 ≠ 3 ∧ bitsOf (s.dword a) 30 28 ≠ 4) →
      (bitOf (s.dword a) 31 = false) →
      exec (.copy c errs fab) s = .next (s.docketEnd c 0x04 0 a)) ∧
  (∀ (c a : Nat) (errs : List EccErr) (s : State) (fab : Fabric),
      c < 64 →
      s.pdOn 22 = true →
      s.get (Reg.DMA_CH_CTRL_ENABLE c) = 1 →
      s.get (Reg.DMA_CH_STATUS_STATE c) ≠ 2 →
      s.dmaQueued c (s.get (Reg.DMA_CH_PTR_TAIL c)) ≠ 0 →
      a = s.docketAddr c →
      (bitsOf (s.dword a) 30 28 ≠ 2 ∧ bitsOf (s.dword a) 30 28 ≠ 3 ∧ bitsOf (s.dword a) 30 28 ≠ 4) →
      (bitOf (s.dword a) 31 = true) →
      (bitsOf (s.dword a) 30 28 ≠ 1 ∨ s.dword (a + 4) = 0 ∨ 2 ^ 26 < s.dword (a + 4)) →
      exec (.copy c errs fab) s = .next (s.docketEnd c 0x05 0 a)) ∧
  (∀ (i : Initiator) (c : Nat) (s u : State),
      c < 64 →
      s.reaches i (0x4062010C + 32 * c) = true →
      s.get (Reg.DMA_CH_STATUS_STATE c) = 2 →
      u = s.set (Reg.DMA_CH_STATUS_STATE c) 0 →
      exec (.dmaResume i c) s = .next { u.dmaRefresh c with bus := .written }) ∧
  (∀ (i : Initiator) (c moved n : Nat) (s u : State),
      c < 64 →
      s.reaches i (0x4062010C + 32 * c) = true →
      s.get (Reg.DMA_CH_STATUS_STATE c) ≠ 1 →
      n = s.dmaQueued c (s.get (Reg.DMA_CH_PTR_TAIL c)) →
      u = (s.set (Reg.DMA_CH_STATUS_STATE c) 0).stopDockets c n →
      exec (.dmaStop i c moved) s = .next { u.set (Reg.DMA_CH_STATUS_STATE c) 0 with bus := .written })

/-- The strongroom's NAND controller carries out its commands (R329, R424, R425, R426, R427). Completes, under hypotheses on the state and
the operands alone: nandQtailWrite, nandRead, nandProgram, nandErase. -/
def Obligations.NandRuns : Prop :=
  (∀ (i : Initiator) (tail : Nat) (s u : State),
      s.reaches i 0x40640010 = true →
      (tail % 512 + 512 - s.get Reg.NFC_Q_PTR_NQHEAD) % 512 ≤ 256 →
      u = s.set Reg.NFC_Q_PTR_NQTAIL tail →
      exec (.nandQtailWrite i tail) s = .next { u.nfcRefresh with bus := .written }) ∧
  (∀ (i : Initiator) (tail : Nat) (s : State),
      s.reaches i 0x40640010 = true →
      256 < (tail % 512 + 512 - s.get Reg.NFC_Q_PTR_NQHEAD) % 512 →
      exec (.nandQtailWrite i tail) s = .next (s.ignored i 0x40640010)) ∧
  (∀ (k p e area block count first b : Nat) (shifted : Bool) (maxBits : Nat) (s t u : State),
      s.pdOn 23 = true →
      s.get Reg.NFC_CTRL_ENABLE = 1 →
      s.nandOutstanding[k]? = some p →
      e = s.nandEntry p →
      bitsOf (s.dword e) 31 28 = 1 →
      s.nandBlockOf p = (area, block) →
      (((s.nandOutstanding.take k).any fun q => s.nandBlockOf q == (area, block)) = false) →
      count = bitsOf (s.dword (e + 8)) 31 16 →
      first = bitsOf (s.dword (e + 8)) 15 0 →
      0 < count →
      first + count ≤ nandPages area →
      block < nandBlocks →
      b = s.dword (e + 16) + 2 ^ 32 * s.dword (e + 20) →
      maxBits ≤ 72 →
      t = { s with mem := { s.mem with reads := sIns s.mem.reads (2 * block + area) (sGet s.mem.reads (2 * block + area) 0 + count) } } →
      (u = t.store b ((List.range (count * 16384)).map fun i => t.nandByte (nandAddr area block first + i))) →
      exec (.nandRead k shifted maxBits false) s = .next (u.nandEnd k p (if shifted = true then 0x01 else 0x00) maxBits)) ∧
  (∀ (k p e area block count first b : Nat) (shifted : Bool) (maxBits : Nat) (s t : State),
      s.pdOn 23 = true →
      s.get Reg.NFC_CTRL_ENABLE = 1 →
      s.nandOutstanding[k]? = some p →
      e = s.nandEntry p →
      bitsOf (s.dword e) 31 28 = 1 →
      s.nandBlockOf p = (area, block) →
      (((s.nandOutstanding.take k).any fun q => s.nandBlockOf q == (area, block)) = false) →
      count = bitsOf (s.dword (e + 8)) 31 16 →
      first = bitsOf (s.dword (e + 8)) 15 0 →
      0 < count →
      first + count ≤ nandPages area →
      block < nandBlocks →
      b = s.dword (e + 16) + 2 ^ 32 * s.dword (e + 20) →
      72 < maxBits →
      t = { s with mem := { s.mem with reads := sIns s.mem.reads (2 * block + area) (sGet s.mem.reads (2 * block + area) 0 + count) } } →
      exec (.nandRead k shifted maxBits false) s = .next (t.nandEnd k p 0x02 maxBits)) ∧
  (∀ (k p e area block count first b : Nat) (shifted : Bool) (maxBits : Nat) (s : State),
      s.pdOn 23 = true →
      s.get Reg.NFC_CTRL_ENABLE = 1 →
      s.nandOutstanding[k]? = some p →
      e = s.nandEntry p →
      bitsOf (s.dword e) 31 28 = 1 →
      s.nandBlockOf p = (area, block) →
      (((s.nandOutstanding.take k).any fun q => s.nandBlockOf q == (area, block)) = false) →
      count = bitsOf (s.dword (e + 8)) 31 16 →
      first = bitsOf (s.dword (e + 8)) 15 0 →
      0 < count →
      first + count ≤ nandPages area →
      block < nandBlocks →
      b = s.dword (e + 16) + 2 ^ 32 * s.dword (e + 20) →
      exec (.nandRead k shifted maxBits true) s = .next (s.nandEnd k p 0x40 0)) ∧
  (∀ (k p e area block count first : Nat) (shifted busErr : Bool) (maxBits : Nat) (s : State),
      s.pdOn 23 = true →
      s.get Reg.NFC_CTRL_ENABLE = 1 →
      s.nandOutstanding[k]? = some p →
      e = s.nandEntry p →
      bitsOf (s.dword e) 31 28 = 1 →
      s.nandBlockOf p = (area, block) →
      (((s.nandOutstanding.take k).any fun q => s.nandBlockOf q == (area, block)) = false) →
      count = bitsOf (s.dword (e + 8)) 31 16 →
      first = bitsOf (s.dword (e + 8)) 15 0 →
      (count = 0 ∨ nandPages area < first + count ∨ nandBlocks ≤ block) →
      exec (.nandRead k shifted maxBits busErr) s = .next (s.nandEnd k p 0x05 0)) ∧
  (∀ (k p e area block count first b : Nat) (die st : Nat) (fails : Bool) (s v t : State),
      s.pdOn 23 = true →
      s.get Reg.NFC_CTRL_ENABLE = 1 →
      s.nandOutstanding[k]? = some p →
      e = s.nandEntry p →
      bitsOf (s.dword e) 31 28 = 2 →
      s.nandBlockOf p = (area, block) →
      (((s.nandOutstanding.take k).any fun q => s.nandBlockOf q == (area, block)) = false) →
      count = bitsOf (s.dword (e + 8)) 31 16 →
      first = bitsOf (s.dword (e + 8)) 15 0 →
      0 < count →
      first + count ≤ nandPages area →
      block < nandBlocks →
      b = s.dword (e + 16) + 2 ^ 32 * s.dword (e + 20) →
      (s.unreadable s.phcOwns b (count * 16384) []) = none →
      (s.dramRead b (count * 16384) []).nandReplace (die % 8) fails = (v, st) →
      st ≠ 4 →
      t = v.putNand (nandAddr area block first) (v.bytes b (count * 16384)) →
      exec (.nandProgram k die fails false) s = .next ({ t with mem := { t.mem with erased := (if area = 0 then t.mem.erased.erase block else t.mem.erased), reads := sDel t.mem.reads (2 * block + area) } }.nandEnd k p st 0)) ∧
  (∀ (k p e area block count first b : Nat) (die : Nat) (fails : Bool) (s v : State),
      s.pdOn 23 = true →
      s.get Reg.NFC_CTRL_ENABLE = 1 →
      s.nandOutstanding[k]? = some p →
      e = s.nandEntry p →
      bitsOf (s.dword e) 31 28 = 2 →
      s.nandBlockOf p = (area, block) →
      (((s.nandOutstanding.take k).any fun q => s.nandBlockOf q == (area, block)) = false) →
      count = bitsOf (s.dword (e + 8)) 31 16 →
      first = bitsOf (s.dword (e + 8)) 15 0 →
      0 < count →
      first + count ≤ nandPages area →
      block < nandBlocks →
      b = s.dword (e + 16) + 2 ^ 32 * s.dword (e + 20) →
      (s.unreadable s.phcOwns b (count * 16384) []) = none →
      (s.dramRead b (count * 16384) []).nandReplace (die % 8) fails = (v, 4) →
      exec (.nandProgram k die fails false) s = .next (v.nandEnd k p 0x04 0)) ∧
  (∀ (k p e area block count first b : Nat) (die st : Nat) (fails : Bool) (s v t : State),
      s.pdOn 23 = true →
      s.get Reg.NFC_CTRL_ENABLE = 1 →
      s.nandOutstanding[k]? = some p →
      e = s.nandEntry p →
      bitsOf (s.dword e) 31 28 = 3 →
      s.nandBlockOf p = (area, block) →
      (((s.nandOutstanding.take k).any fun q => s.nandBlockOf q == (area, block)) = false) →
      count = bitsOf (s.dword (e + 8)) 31 16 →
      first = bitsOf (s.dword (e + 8)) 15 0 →
      0 < count →
      first + count ≤ nandPages area →
      block < nandBlocks →
      b = s.dword (e + 16) + 2 ^ 32 * s.dword (e + 20) →
      s.nandReplace (die % 8) fails = (v, st) →
      st ≠ 4 →
      t = v.eraseNand (nandAddr area block 0) (nandPages area * 16384) →
      exec (.nandErase k die fails false) s = .next ({ t with mem := { t.mem with erased := (if area = 0 ∧ t.mem.erased.contains block = false then block :: t.mem.erased else t.mem.erased), reads := sDel t.mem.reads (2 * block + area) } }.nandEnd k p st 0))

/-- Broken sensors, throttling, shutdowns, the trip and the loss of a core complete (R25, R30, R212, R270, R436, R440, R441, R442, R458).
Completes, under hypotheses on the state and the operands alone: sensorBroken, tripDiodeBroken, throttleStep, thermalShutdown,
hardwareTrip, thmClrMinmax, thermalShutdownDeferEnd, preampFaultPersists, coreFault. -/
def Obligations.HeatAndFaultsRun : Prop :=
  (∀ (n why : Nat) (s u v : State),
      s.sensorFault n = some why →
      u = ((s.setBit Reg.THM_STATUS_BROKEN n true).set (Reg.THM_SENS_VALID n) 0).set Reg.THM_INT_BROKEN 1 →
      v = u.putPortOut 0xAD (u.heatWord + 2 ^ (5 + n)) →
      exec (.sensorBroken n) s =
      .next (s.watchCritical fun _ => v.ledger 0x0021 [n, why, word16 (sGet v.heat.sensors n Sensor.cold).reading, 0, 0, 0, 0])) ∧
  (∀ (n why : Nat) (s u : State),
      s.tripFault n = some why →
      u = (s.setBit Reg.THM_STATUS_TRIP_BROKEN n true).set Reg.THM_INT_BROKEN 1 →
      exec (.tripDiodeBroken n) s = .next (u.ledger 0x0021 [8 + n, why, word16 (s.getS (tripField n)), 0, 0, 0, 0])) ∧
  (∀ (s : State),
      s.thermalSlice = true →
      exec .throttleStep s = .next (s.setStep s.nextStep)) ∧
  (∀ (s : State),
      s.thermalSlice = true →
      level16 (s.get Reg.THM_LVL_SHUT) ≤ s.junction →
      s.heat.held = false →
      exec .thermalShutdown s = .next s.reachShut) ∧
  (∀ (n : Nat) (temp : Int) (s : State),
      n ≤ 1 →
      s.bit Reg.THM_STATUS_TRIP_BROKEN n = false →
      1920 ≤ temp →
      exec (.hardwareTrip n temp) s = .next (s.set Reg.THM_STATUS_TRIPPED 1).reachShut) ∧
  (∀ (i : Initiator) (s : State),
      s.reaches i 0x40700000 = true →
      exec (.thmClrMinmax i) s =
      .next { s with heat := { s.heat with sensors := s.heat.sensors.map fun p => (p.1, { p.2 with least := none, greatest := none }) }, bus := .written }) ∧
  (∀ (s : State),
      s.desk.deferred = true →
      s.desk.grave = none →
      s.pwr.warnMs + 1000 ≤ s.ms →
      exec .thermalShutdownDeferEnd s = .next { s with desk := { s.desk with deferred := false } }.shutDown) ∧
  (∀ (x : Act) (us : Nat) (s : State),
      s.fitted x = true →
      (s.lp x).paLow = true →
      10000 ≤ us →
      exec (.preampFaultPersists x us) s = .next (s.setBit Reg.CNS_UNAVAIL_UNAVAIL (8 * x.n + (s.lp x).head) true)) ∧
  (∀ (n : Nat) (s : State),
      n < 5 →
      s.coreActive n = true →
      exec (.coreFault n) s = .next (s.capture ⟨0x80 + n, 0x0C, 5, 1, 0, 0, 7, false⟩))

/-- The returns desk, injection and the registry ledger complete (R448, R450, R451, R453, R454, R461, R462). Completes, under hypotheses
on the state and the operands alone: fltDone, faultHandlerTimeout, fltCapDataRead, faultInjectionArm, faultInjectionDisarm, ldgCommit,
ledgerFreeze, ledgerUnfreeze, ldgStageDataRead, ldgValueWrite. -/
def Obligations.DeskInjectionAndLedgerRun : Prop :=
  (∀ (i : Initiator) (p : Nat) (r : CapRec) (s : State),
      s.reaches i 0x40710010 = true →
      s.desk.current = some p →
      sGet? s.desk.recs p = some r →
      exec (.fltDone i false p) s = .next { (s.closeRec p 2 r.level).releaseNext with bus := .written }) ∧
  (∀ (i : Initiator) (p : Nat) (r : CapRec) (s : State),
      s.reaches i 0x40710010 = true →
      s.desk.current = some p →
      sGet? s.desk.recs p = some r →
      exec (.fltDone i true p) s = .next { (s.raiseUp p r).releaseNext with bus := .written }) ∧
  (∀ (i : Initiator) (up : Bool) (p : Nat) (s : State),
      s.reaches i 0x40710010 = true →
      s.desk.current ≠ some p →
      exec (.fltDone i up p) s = .next (s.ignored i 0x40710010)) ∧
  (∀ (p : Nat) (r : CapRec) (s u : State),
      s.desk.current = some p →
      sGet? s.desk.recs p = some r →
      10 * max 1 (s.get (if r.level = 4 then Reg.FLT_TMO_TMO4 else Reg.FLT_TMO_TMO5)) ≤ s.ms - s.desk.sinceMs →
      u = { s with desk := { s.desk with timeouts := s.desk.timeouts + 1 } }.set Reg.FLT_INT_RAISED 1 →
      exec .faultHandlerTimeout s = .next (u.raiseUp p r).releaseNext) ∧
  (∀ (i : Initiator) (k w : Nat) (s : State),
      s.reaches i 0x4071000C = true →
      k = 8 * s.get Reg.FLT_CAP_ADDR_RECORD + s.get Reg.FLT_CAP_ADDR_WORD →
      k / 8 ≤ 64 →
      (w = ((sGet? s.desk.recs (k / 8)).map fun r => r.word (k % 8)).getD 0) →
      exec (.fltCapDataRead i) s =
      .next { (s.set Reg.FLT_CAP_ADDR_WORD (k + 1)).set Reg.FLT_CAP_ADDR_RECORD ((k + 1) / 8) with bus := .read w }) ∧
  (∀ (i : Initiator) (target bits : Nat) (sticky : Bool) (s u v : State),
      s.reaches i 0x40710040 = true →
      s.get Reg.PWR_STATUS_PHASE = 1 →
      s.get Reg.SYS_SEAL_STATUS_STATE = 0 →
      u = (if s.get Reg.FLT_INJ_CTRL_ARM = 0 then s else s.disarm) →
      v = u.setAll [(Reg.FLT_INJ_CTRL_TARGET, target), (Reg.FLT_INJ_CTRL_BITS, bits), (Reg.FLT_INJ_CTRL_STICKY, b2n sticky)] →
      1 ≤ target →
      target ≤ 4 →
      exec (.faultInjectionArm i target bits sticky) s = .next { v.set Reg.FLT_INJ_CTRL_ARM 1 with bus := .written }) ∧
  (∀ (i : Initiator) (target bits : Nat) (sticky : Bool) (s : State),
      s.reaches i 0x40710040 = true →
      (s.get Reg.PWR_STATUS_PHASE ≠ 1 ∨ s.get Reg.SYS_SEAL_STATUS_STATE ≠ 0) →
      exec (.faultInjectionArm i target bits sticky) s = .next (s.ignored i 0x40710040)) ∧
  (∀ (i : Initiator) (s u : State),
      s.reaches i 0x40710040 = true →
      u = s.disarm →
      exec (.faultInjectionDisarm i) s = .next { u with bus := .written } ∧ u.get Reg.FLT_INJ_CTRL_ARM = 0) ∧
  (∀ (n q : Nat) (s u : State),
      s.reaches (.core n) 0x40720060 = true →
      (s.ldgCommit (s.get (Reg.LDG_WRITE_DATA n 0) % 2 ^ 16) ((List.range 7).map fun k => s.get (Reg.LDG_WRITE_DATA n (k + 1))) = (u, some q)) →
      exec (.ldgCommit n) s = .next { (u.set (Reg.LDG_RESULT_DROPPED n) 0).set (Reg.LDG_LAST_SEQ n) q with bus := .written }) ∧
  (∀ (n : Nat) (s u : State),
      s.reaches (.core n) 0x40720060 = true →
      (s.ldgCommit (s.get (Reg.LDG_WRITE_DATA n 0) % 2 ^ 16) ((List.range 7).map fun k => s.get (Reg.LDG_WRITE_DATA n (k + 1))) = (u, none)) →
      exec (.ldgCommit n) s = .next { u.set (Reg.LDG_RESULT_DROPPED n) 1 with bus := .written }) ∧
  (∀ (i : Initiator) (s : State),
      s.reaches i 0x40720000 = true →
      exec (.ledgerFreeze i) s = .next { s.ldgFreeze 0x0080 with bus := .written }) ∧
  (∀ (i : Initiator) (s : State),
      s.reaches i 0x40720000 = true →
      exec (.ledgerUnfreeze i) s = .next { s.ldgUnfreeze with bus := .written }) ∧
  (∀ (i : Initiator) (k w : Nat) (s : State),
      s.reaches i 0x40720074 = true →
      k = 16 * s.get Reg.LDG_STAGE_ADDR_PLACE + s.get Reg.LDG_STAGE_ADDR_WORD →
      (w = ((sGet? s.ldg.stage (k / 16)).map fun r => r.word (k % 16)).getD 0) →
      exec (.ldgStageDataRead i) s =
      .next { (s.set Reg.LDG_STAGE_ADDR_WORD (k + 1)).set Reg.LDG_STAGE_ADDR_PLACE ((k + 1) / 16) with bus := .read w }) ∧
  (∀ (i : Initiator) (k v : Nat) (s : State),
      s.reaches i (ldgValue k).addr = true →
      exec (.ldgValueWrite i k v) s =
      .next (if s.ldg.committed = true then s.ignored i (ldgValue k).addr else { s.set (ldgValue k) v with bus := .written }))

/-- Commands are taken from their connections, given locks, bags and data, and answered (R373, R376, R377, R378, R379, R389, R390, R391,
R393, R400, R403). Completes, under hypotheses on the state and the operands alone: capsuleCmd, capsuleTake, lockGrant,
bagsReservedForTransfer, h2cData, readDataReady, responseReady, asynchronousEvent, associationEnd, keepAliveTimer. -/
def Obligations.CommandsTakenAndAnsweredRun : Prop :=
  (∀ (conn : Nat) (cap e : Capsule) (good : Bool) (c d : Conn) (s u : State),
      conn ≠ 160 →
      s.conn? conn = some c →
      s.portUp (Prt.num c.port) = true →
      s.serves 0x04 = true →
      d = { c with owed := c.owed + capsuleBytes cap } →
      u = s.putConn conn d →
      c.ready = true →
      cap.data.length ≤ 8192 →
      (c.hdgst = true → good = true) →
      e = { cap with badData := cap.badData && c.ddgst && !cap.data.isEmpty } →
      capsuleBytes e ≤ u.rcvSpace d →
      exec (.capsuleCmd conn cap good) s = .next (u.putConn conn { d with waiting := d.waiting ++ [e] })) ∧
  (∀ (conn : Nat) (cap : Capsule) (good : Bool) (c d : Conn) (s u : State),
      conn ≠ 160 →
      s.conn? conn = some c →
      s.portUp (Prt.num c.port) = true →
      s.serves 0x04 = true →
      d = { c with owed := c.owed + capsuleBytes cap } →
      u = s.putConn conn d →
      (c.ready = false ∨ 8192 < cap.data.length ∨ (c.hdgst = true ∧ good = false)) →
      exec (.capsuleCmd conn cap good) s = .next (u.terminate conn)) ∧
  (∀ (cap : Capsule) (good : Bool) (s : State),
      s.miUp = true →
      s.host.cmds.length < 4096 →
      exec (.capsuleCmd 160 cap good) s = .next (s.admitCmd 160 cap)) ∧
  (∀ (conn wait us : Nat) (cap : Capsule) (rest : List Capsule) (c : Conn) (s u v : State),
      s.conn? conn = some c →
      c.waiting = cap :: rest →
      s.preUp = true →
      s.portUp (Prt.num c.port) = true →
      s.get Reg.HQ_CTRL_ENABLE = 1 →
      s.host.cmds.length < 4096 →
      s.interruption = false →
      (s.cmdsOf conn).length < (if c.assoc.isSome = true then c.depth - 1 else 1) →
      0 < c.depth →
      us ≤ 100 →
      u = s.putConn conn { c with waiting := rest, sqhd := (c.sqhd + 1) % c.depth } →
      v = u.set Reg.PRE_PEAK_CAPSULE_WAIT (max (u.get Reg.PRE_PEAK_CAPSULE_WAIT) (min 65535 wait)) →
      exec (.capsuleTake conn wait us) s = .next ((v.set Reg.HQ_ADMIT_PEAK_US (max (v.get Reg.HQ_ADMIT_PEAK_US) (min 65535 us))).admitCmd conn cap)) ∧
  (∀ (serial : Nat) (c : Cmd) (s u : State),
      s.cmd? serial = some c →
      c.verdict = none →
      c.orphan = false →
      c.noEntry = false →
      u = s.putHost { s.host with locks := grantOf serial [] s.host.locks } →
      s.cmdAssoc c = none →
      exec (.lockGrant serial) s = .next u.hqRefresh) ∧
  (∀ (serial pick n : Nat) (bags : List Nat) (c d : Cmd) (k : Conn) (s t : State),
      s.cmd? serial = some c →
      s.waitsBags serial c = true →
      ((s.host.cmds.any fun p => p.1 < serial && s.waitsBags p.1 p.2) = false) →
      c.conn ≠ 160 →
      s.serves 0x41 = true →
      s.conn? c.conn = some k →
      s.portUp (Prt.num k.port) = true →
      c.cap.data = [] →
      (c.asked - c.got + 131071) / 131072 < min 4 (k.maxR2t + 1) →
      k.fits 24 = true →
      n = min 131072 (c.need - c.asked) →
      s.takeBags pick (List.replicate (n / 65536) 1 ++ List.replicate ((n % 65536 + 4095) / 4096) 0) [] = (t, some bags) →
      (s.unplaced + bagsRoom (s.host.cmds.flatMap fun c => c.2.bags) + n ≤ 2 ^ 30) →
      (s.pdOn 23 = true → s.unplaced + 144 * 2 ^ 20 ≤ s.erasedReserve) →
      d = { c with bags := c.bags ++ bags, asked := c.asked + n } →
      exec (.bagsReservedForTransfer serial pick) s =
      .next (((t.putConn c.conn (k.sends 24 s.clockNs)).putCmd serial d).emit (.r2t c.conn c.cap.cid c.asked n)).hqRefresh) ∧
  (∀ (serial pick n : Nat) (c : Cmd) (k : Conn) (s t : State),
      s.cmd? serial = some c →
      s.waitsBags serial c = true →
      ((s.host.cmds.any fun p => p.1 < serial && s.waitsBags p.1 p.2) = false) →
      c.conn ≠ 160 →
      s.serves 0x41 = true →
      s.conn? c.conn = some k →
      s.portUp (Prt.num k.port) = true →
      (c.cap.data ≠ [] ∨ (c.asked - c.got + 131071) / 131072 < min 4 (k.maxR2t + 1) ∧ k.fits 24 = true) →
      n = min 131072 (c.need - c.asked) →
      s.takeBags pick (List.replicate (n / 65536) 1 ++ List.replicate ((n % 65536 + 4095) / 4096) 0) [] = (t, none) →
      exec (.bagsReservedForTransfer serial pick) s = .next (s.set Reg.HQ_INT_ITRAY_FULL 1)) ∧
  (∀ (serial offset : Nat) (data : List Nat) (hdr good : Bool) (c d : Cmd) (k : Conn) (s u : State),
      s.cmd? serial = some c →
      c.verdict = none →
      c.orphan = false →
      offset = c.got →
      c.got + data.length ≤ c.asked →
      s.conn? c.conn = some k →
      s.portUp (Prt.num k.port) = true →
      s.serves 0x06 = true →
      (k.hdgst = true → hdr = true) →
      (k.ddgst = true → good = true) →
      u = s.putConn c.conn { k with owed := k.owed + (24 + data.length) } →
      d = { c with got := c.got + data.length } →
      exec (.h2cData serial offset data hdr good) s = .next ((u.putCmd serial d).bagStore c.bags offset (data.map (BitVec.ofNat 8))).hqRefresh) ∧
  (∀ (serial offset : Nat) (data : List Nat) (hdr : Bool) (c : Cmd) (k : Conn) (s u : State),
      s.cmd? serial = some c →
      c.verdict = none →
      c.orphan = false →
      offset = c.got →
      c.got + data.length ≤ c.asked →
      s.conn? c.conn = some k →
      s.portUp (Prt.num k.port) = true →
      s.serves 0x06 = true →
      (k.hdgst = true → hdr = true) →
      k.ddgst = true →
      u = s.putConn c.conn { k with owed := k.owed + (24 + data.length) } →
      exec (.h2cData serial offset data hdr false) s = .next (u.answer serial (verdict .transientTransport false))) ∧
  (∀ (serial n : Nat) (c : Cmd) (k : Conn) (s u : State),
      s.cmd? serial = some c →
      c.sent = false →
      c.orphan = false →
      n = c.reply.length →
      0 < n →
      c.verdict = some good →
      c.conn ≠ 160 →
      s.conn? c.conn = some k →
      s.serves 0x42 = true →
      s.portUp (Prt.num k.port) = true →
      k.unacked + (24 + n) ≤ k.window →
      u = s.putConn c.conn (k.sends (24 + n) s.clockNs) →
      exec (.readDataReady serial) s = .next ((u.putCmd serial { c with sent := true }).emit (.data c.conn c.cap.cid c.reply (u.packetMax c.conn k)))) ∧
  (∀ (serial : Nat) (v : Verdict) (c : Cmd) (k : Conn) (s u : State),
      s.cmd? serial = some c →
      c.verdict = some v →
      c.orphan = false →
      (v = good → c.reply = [] ∨ c.sent = true) →
      s.joined c = false →
      c.conn ≠ 160 →
      s.conn? c.conn = some k →
      s.serves 0x40 = true →
      s.portUp (Prt.num k.port) = true →
      k.unacked + 24 ≤ k.window →
      u = (s.putConn c.conn (k.sends 24 s.clockNs)).emit (.response c.conn c.cap.cid v c.dw0 k.sqhd) →
      exec (.responseReady serial) s = .next ((u.afterResponse c).dropCmd serial)) ∧
  (∀ (serial : Nat) (v : Verdict) (c : Cmd) (s : State),
      s.cmd? serial = some c →
      c.verdict = some v →
      c.orphan = true →
      exec (.responseReady serial) s = .next (s.dropCmd serial)) ∧
  (∀ (type info : Nat) (e : Event) (s : State),
      e = ⟨type, info, eventPage type info⟩ →
      s.serves 0x43 = true →
      s.eventCause e = true →
      exec (.asynchronousEvent type info) s = .next (s.raiseEvent e)) ∧
  (∀ (a : Nat) (s : State),
      exec (.associationEnd a) s = .next (s.endAssoc a)) ∧
  (∀ (a : Nat) (x : Assoc) (s : State),
      s.assoc? a = some x →
      x.kato ≠ 0 →
      x.seenNs + 1000000 * x.kato ≤ s.clockNs →
      exec (.keepAliveTimer a) s = .next (s.endAssoc a))

/-- Admin and fabrics commands of a controller complete (R47, R376, R379, R382, R385, R386, R388, R400, R404). Completes, under hypotheses
on the state and the operands alone: connect, disconnect, propertyGet, propertySet, keepAlive, asynchronousEventRequest, abort,
getLogPage, identify, setFeatures, getFeatures, firmwareImageDownload, firmwareCommit. -/
def Obligations.ControllerCommandsRun : Prop :=
  (∀ (serial : Nat) (c : Cmd) (k : Conn) (st : Status) (s : State),
      s.cmd? serial = some c →
      c.verdict = none →
      c.orphan = false →
      c.whole = true →
      c.cap.opcode = 0x7F →
      c.cap.fctype = 1 →
      s.conn? c.conn = some k →
      s.connectRefusal c = some st →
      exec (.connect serial) s = .next (s.answer serial (verdict st true))) ∧
  (∀ (serial : Nat) (c : Cmd) (k : Conn) (n : Nat) (s u v : State),
      s.cmd? serial = some c →
      c.verdict = none →
      c.orphan = false →
      c.whole = true →
      c.cap.opcode = 0x7F →
      c.cap.fctype = 1 →
      s.conn? c.conn = some k →
      s.connectRefusal c = none →
      c.cap.w 10 / 2 ^ 16 = 0 →
      n = s.freeAssoc →
      u = s.putAssoc n ⟨k.port, discoveryName == ((s.cmdData c).drop 256).take discoveryName.length, ofBytes ((s.cmdData c).take 16), 0, false, c.cap.w 12, s.clockNs, [], [], [], []⟩ →
      v = u.putConn c.conn { k with assoc := some n, qid := 0, depth := c.cap.w 11 % 2 ^ 16 + 1 } →
      exec (.connect serial) s = .next ((v.answerWith serial n [] good).connsRefresh)) ∧
  (∀ (serial : Nat) (c : Cmd) (k : Conn) (n : Nat) (s v : State),
      s.cmd? serial = some c →
      c.verdict = none →
      c.orphan = false →
      c.whole = true →
      c.cap.opcode = 0x7F →
      c.cap.fctype = 1 →
      s.conn? c.conn = some k →
      s.connectRefusal c = none →
      c.cap.w 10 / 2 ^ 16 ≠ 0 →
      n = ofBytes (((s.cmdData c).drop 16).take 2) →
      v = s.putConn c.conn { k with assoc := some n, qid := c.cap.w 10 / 2 ^ 16, depth := c.cap.w 11 % 2 ^ 16 + 1 } →
      exec (.connect serial) s = .next ((v.answerWith serial n [] good).connsRefresh)) ∧
  (∀ (serial : Nat) (c : Cmd) (n : Nat) (a : Assoc) (s : State),
      s.cmd? serial = some c →
      c.verdict = none →
      c.orphan = false →
      c.whole = true →
      c.cap.opcode = 0x7F →
      c.cap.fctype = 8 →
      s.assocOf c = some (n, a) →
      exec (.disconnect serial) s = .next ((s.respondNow serial c).endAssoc n)) ∧
  (∀ (serial : Nat) (c : Cmd) (n : Nat) (a : Assoc) (s : State),
      s.cmd? serial = some c →
      c.verdict = none →
      c.orphan = false →
      c.whole = true →
      c.cap.opcode = 0x7F →
      c.cap.fctype = 4 →
      s.assocOf c = some (n, a) →
      (c.cap.w 11 = 0x00 ∨ c.cap.w 11 = 0x08 ∨ c.cap.w 11 = 0x14) →
      exec (.propertyGet serial) s = .next (s.answerWith serial (if c.cap.w 11 = 0x00 then capWord else if c.cap.w 11 = 0x08 then 0x00020000 else a.cc) [] good)) ∧
  (∀ (serial : Nat) (c : Cmd) (n : Nat) (a : Assoc) (s : State),
      s.cmd? serial = some c →
      c.verdict = none →
      c.orphan = false →
      c.whole = true →
      c.cap.opcode = 0x7F →
      c.cap.fctype = 4 →
      s.assocOf c = some (n, a) →
      c.cap.w 11 = 0x1C →
      exec (.propertyGet serial) s = .next (s.answerWith serial (b2n a.ready + (if 0 < bitsOf a.cc 15 14 then 8 else 0)) [] good)) ∧
  (∀ (serial : Nat) (c : Cmd) (n : Nat) (a b : Assoc) (s : State),
      s.cmd? serial = some c →
      c.verdict = none →
      c.orphan = false →
      c.whole = true →
      c.cap.opcode = 0x7F →
      c.cap.fctype = 0 →
      s.assocOf c = some (n, a) →
      c.cap.w 11 = 0x14 →
      (a.ready = true → bitOf (c.cap.w 12) 0 = true) →
      b = { a with cc := c.cap.w 12, ready := bitOf (c.cap.w 12) 0 } →
      exec (.propertySet serial) s = .next ((s.putAssoc n b).answer serial good)) ∧
  (∀ (serial : Nat) (c : Cmd) (n : Nat) (a b : Assoc) (s : State),
      s.cmd? serial = some c →
      c.verdict = none →
      c.orphan = false →
      c.whole = true →
      c.cap.opcode = 0x7F →
      c.cap.fctype = 0 →
      s.assocOf c = some (n, a) →
      c.cap.w 11 = 0x14 →
      a.ready = true →
      bitOf (c.cap.w 12) 0 = false →
      b = { a with cc := c.cap.w 12, ready := false } →
      exec (.propertySet serial) s = .next ((((s.putAssoc n b).respondNow serial c).endAssoc n).noEnvelope)) ∧
  (∀ (serial : Nat) (c : Cmd) (n : Nat) (a : Assoc) (s : State),
      s.cmd? serial = some c →
      c.verdict = none →
      c.orphan = false →
      c.whole = true →
      s.isAdmin c = true →
      c.cap.opcode = 0x18 →
      s.assocOf c = some (n, a) →
      exec (.keepAlive serial) s = .next ((s.putAssoc n { a with seenNs := s.clockNs }).answer serial good)) ∧
  (∀ (serial : Nat) (c : Cmd) (n : Nat) (a : Assoc) (e : Event) (t : List Event) (s u : State),
      s.cmd? serial = some c →
      c.verdict = none →
      c.orphan = false →
      c.whole = true →
      s.isAdmin c = true →
      c.cap.opcode = 0x0C →
      s.assocOf c = some (n, a) →
      a.aers.contains serial = false →
      a.events = e :: t →
      u = s.putAssoc n { a with events := t, told := a.told ++ [e] } →
      exec (.asynchronousEventRequest serial) s = .next (u.answerWith serial e.dw0 [] good)) ∧
  (∀ (serial : Nat) (c : Cmd) (n : Nat) (a : Assoc) (s : State),
      s.cmd? serial = some c →
      c.verdict = none →
      c.orphan = false →
      c.whole = true →
      s.isAdmin c = true →
      c.cap.opcode = 0x0C →
      s.assocOf c = some (n, a) →
      a.aers.contains serial = false →
      a.events = [] →
      a.aers.length < 4 →
      exec (.asynchronousEventRequest serial) s = .next (s.putAssoc n { a with aers := a.aers ++ [serial] })) ∧
  (∀ (serial : Nat) (c : Cmd) (n : Nat) (a : Assoc) (s : State),
      s.cmd? serial = some c →
      c.verdict = none →
      c.orphan = false →
      c.whole = true →
      s.isAdmin c = true →
      c.cap.opcode = 0x0C →
      s.assocOf c = some (n, a) →
      a.aers.contains serial = false →
      a.events = [] →
      4 ≤ a.aers.length →
      exec (.asynchronousEventRequest serial) s = .next (s.answer serial (verdict .aerLimit true))) ∧
  (∀ (serial : Nat) (c : Cmd) (n : Nat) (x : Cmd) (s u : State),
      s.cmd? serial = some c →
      c.verdict = none →
      c.orphan = false →
      c.whole = true →
      s.isAdmin c = true →
      c.cap.opcode = 0x08 →
      (s.host.cmds.find? fun p => p.1 != serial && p.2.cap.cid == c.cap.w 10 / 2 ^ 16 && p.2.verdict.isNone && !p.2.orphan &&
        (s.conn? p.2.conn).any fun k => k.qid == c.cap.w 10 % 2 ^ 16 && k.assoc == (s.assocOf c).map (·.1)) = some (n, x) →
      (s.locked n x = false ∨ (0 < x.need ∧ x.asked = 0)) →
      u = s.answer n (verdict .abortRequested true) →
      exec (.abort serial) s = .next (((u.putHost { u.host with locks := u.host.locks.filter fun l => l.owner != n }).answerWith serial 0 [] good).hqRefresh)) ∧
  (∀ (serial : Nat) (c : Cmd) (s : State),
      s.cmd? serial = some c →
      c.verdict = none →
      c.orphan = false →
      c.whole = true →
      s.isAdmin c = true →
      c.cap.opcode = 0x08 →
      ((s.host.cmds.find? fun p => p.1 != serial && p.2.cap.cid == c.cap.w 10 / 2 ^ 16 && p.2.verdict.isNone && !p.2.orphan &&
        (s.conn? p.2.conn).any fun k => k.qid == c.cap.w 10 % 2 ^ 16 && k.assoc == (s.assocOf c).map (·.1)) = none) →
      exec (.abort serial) s = .next (s.answerWith serial 1 [] good)) ∧
  (∀ (serial : Nat) (c : Cmd) (off n : Nat) (page : List Nat) (s : State),
      s.cmd? serial = some c →
      c.verdict = none →
      c.orphan = false →
      c.whole = true →
      s.isAdmin c = true →
      c.cap.opcode = 0x02 →
      s.logPage c ((s.cmdAssoc c).any (·.discovery)) = some (.inr page) →
      n = 4 * (c.cap.w 10 / 2 ^ 16 + 2 ^ 16 * (c.cap.w 11 % 2 ^ 16) + 1) →
      off = c.cap.w 12 + 2 ^ 32 * c.cap.w 13 →
      off ≤ page.length →
      off % 4 = 0 →
      n ≤ 2 ^ 26 →
      exec (.getLogPage serial) s = .next ((s.pageRead c).answerWith serial 0 ((page.drop off).take n) good)) ∧
  (∀ (serial : Nat) (c : Cmd) (s : State),
      s.cmd? serial = some c →
      c.verdict = none →
      c.orphan = false →
      c.whole = true →
      s.isAdmin c = true →
      c.cap.opcode = 0x02 →
      s.logPage c ((s.cmdAssoc c).any (·.discovery)) = none →
      exec (.getLogPage serial) s = .next (s.answer serial (verdict .invalidLogPage true))) ∧
  (∀ (serial : Nat) (c : Cmd) (n : Nat) (a : Assoc) (s : State),
      s.cmd? serial = some c →
      c.verdict = none →
      c.orphan = false →
      c.whole = true →
      s.isAdmin c = true →
      c.cap.opcode = 0x06 →
      s.assocOf c = some (n, a) →
      c.cap.w 10 % 256 = 1 →
      exec (.identify serial) s = .next (s.answerWith serial 0 (s.identifyController n a.discovery) good)) ∧
  (∀ (serial : Nat) (c : Cmd) (n : Ns) (s : State),
      s.cmd? serial = some c →
      c.verdict = none →
      c.orphan = false →
      c.whole = true →
      s.isAdmin c = true →
      c.cap.opcode = 0x06 →
      ((s.cmdAssoc c).any (·.discovery)) = false →
      c.cap.w 10 % 256 = 0 →
      s.ns? c.cap.nsid = some n →
      exec (.identify serial) s = .next (s.answerWith serial 0 (s.identifyNs n) good)) ∧
  (∀ (serial : Nat) (c : Cmd) (th : Nat) (s : State),
      s.cmd? serial = some c →
      c.verdict = none →
      c.orphan = false →
      c.whole = true →
      s.isAdmin c = true →
      c.cap.opcode = 0x09 →
      c.cap.w 10 % 256 = 0x04 →
      bitsOf (c.cap.w 11) 19 16 = 0 →
      th = bitsOf (c.cap.w 11) 21 20 →
      th ≤ 1 →
      exec (.setFeatures serial) s = .next ((s.featSet 0x04 th (c.cap.w 11 % 2 ^ 16) (bitOf (c.cap.w 10) 31)).answer serial good)) ∧
  (∀ (serial : Nat) (c : Cmd) (n : Nat) (a : Assoc) (s : State),
      s.cmd? serial = some c →
      c.verdict = none →
      c.orphan = false →
      c.whole = true →
      s.isAdmin c = true →
      c.cap.opcode = 0x09 →
      s.assocOf c = some (n, a) →
      ([0x01, 0x02, 0x07, 0x0B, 0x0F, 0x16].contains (c.cap.w 10 % 256)) = true →
      bitOf (c.cap.w 10) 31 = false →
      exec (.setFeatures serial) s = .next (s.setCtrlFeature serial c n a)) ∧
  (∀ (serial : Nat) (c : Cmd) (s : State),
      s.cmd? serial = some c →
      c.verdict = none →
      c.orphan = false →
      c.whole = true →
      s.isAdmin c = true →
      c.cap.opcode = 0x0A →
      c.cap.w 10 % 256 = 0x04 →
      bitsOf (c.cap.w 10) 10 8 = 0 →
      exec (.getFeatures serial) s = .next (s.answerWith serial (s.featValue 0x04 (bitsOf (c.cap.w 11) 21 20) % 2 ^ 32) [] good)) ∧
  (∀ (serial : Nat) (c : Cmd) (s : State),
      s.cmd? serial = some c →
      c.verdict = none →
      c.orphan = false →
      c.whole = true →
      s.isAdmin c = true →
      c.cap.opcode = 0x11 →
      4 * (c.cap.w 10 + 1) % 4096 = 0 →
      4 * c.cap.w 11 % 4096 = 0 →
      exec (.firmwareImageDownload serial) s = .next ((s.putHost { s.host with image := s.host.image ++ [(4 * c.cap.w 11, s.cmdData c)] }).answer serial good)) ∧
  (∀ (serial : Nat) (c : Cmd) (z image : Area) (k : Nat) (m : Option Status) (s u t v : State),
      s.cmd? serial = some c →
      c.verdict = none →
      c.orphan = false →
      c.whole = true →
      s.isAdmin c = true →
      c.cap.opcode = 0x10 →
      k = c.cap.w 10 % 8 - 1 →
      (if bitsOf (c.cap.w 10) 5 3 = 2 then s.slotOf k else if s.host.image.isEmpty = true then none else some image) = some z →
      m = s.commitRefusal c z →
      u = (s.writeTrial k z).putHost { s.host with image := [] } →
      t = (u.ledger 0x0060 [k, z.build 0x10, 0, 0, 0, 0, 0]).answer serial good →
      v = (if (t.get Reg.SYS_BOOT_MODE = 2 && t.restartsOn k z) = true then (if t.headsOff = true then { t.emUnloadAll 0x3 with pwr := { t.pwr with recommit := true } } else { t.pdAllOff (List.range 30) with pwr := { t.pwr with offMs := some t.ms } }) else t) →
      exec (.firmwareCommit serial image) s = .next (m.elim v fun st => s.answer serial (verdict st true)))

/-- Namespaces, Format, Sanitize, Head Service, Shelf Service and Drive Format complete (R294, R298, R348, R351, R352, R354, R360, R362,
R381, R382, R384). Completes, under hypotheses on the state and the operands alone: namespaceCreate, namespaceDelete, formatNvm,
sanitize, headServiceReport, headServiceRetire, headServiceReinstate, shelfServiceEnter, shelfHoldDeparture, shelfServiceWake,
driveFormat. -/
def Obligations.ManagementCommandsRun : Prop :=
  (∀ (serial : Nat) (c : Cmd) (k csi size parcels lpn : Nat) (w : Option (List Nat)) (n : Ns) (s u v : State),
      s.cmd? serial = some c →
      c.verdict = none →
      c.orphan = false →
      c.whole = true →
      s.isAdmin c = true →
      c.cap.opcode = 0x0D →
      c.cap.w 10 % 16 = 0 →
      csi = c.cap.w 11 / 2 ^ 24 →
      size = ofBytes ((s.cmdData c).take 8) →
      nsParcels csi size = some parcels →
      s.givenParcels + parcels ≤ s.office.p →
      (((List.range 64).find? fun k => (s.ns? (k + 1)).isNone) = some k) →
      s.lpnRange parcels = some lpn →
      u = s.generateKey k →
      w = u.wrapped k →
      (v = (match w with | some x => u.saveDev fun d => { d with keys := sIns d.keys k (k + 1, x) } | none => u)) →
      n = ⟨csi, size, lpn, parcels, k, false, 0, false, [], none, 0, [], []⟩ →
      exec (.namespaceCreate serial) s = .next (((v.putNs (k + 1) n).nsChanged (k + 1)).answerWith serial (k + 1) [] good)) ∧
  (∀ (serial : Nat) (c : Cmd) (parcels : Nat) (s : State),
      s.cmd? serial = some c →
      c.verdict = none →
      c.orphan = false →
      c.whole = true →
      s.isAdmin c = true →
      c.cap.opcode = 0x0D →
      c.cap.w 10 % 16 = 0 →
      nsParcels (c.cap.w 11 / 2 ^ 24) (ofBytes ((s.cmdData c).take 8)) = some parcels →
      s.office.p < s.givenParcels + parcels →
      exec (.namespaceCreate serial) s = .next (s.answer serial (verdict .insufficientCapacity true))) ∧
  (∀ (serial : Nat) (c : Cmd) (s : State),
      s.cmd? serial = some c →
      c.verdict = none →
      c.orphan = false →
      c.whole = true →
      s.isAdmin c = true →
      c.cap.opcode = 0x0D →
      c.cap.w 10 % 16 = 1 →
      c.cap.nsid ≠ 0xFFFFFFFF →
      (s.ns? c.cap.nsid).isSome = true →
      s.cmdsOn c.cap.nsid serial = [] →
      exec (.namespaceDelete serial) s = .next ((s.deleteNs c.cap.nsid).answer serial good)) ∧
  (∀ (serial : Nat) (c : Cmd) (n : Ns) (s : State),
      s.cmd? serial = some c →
      c.verdict = none →
      c.orphan = false →
      c.whole = true →
      s.isAdmin c = true →
      c.cap.opcode = 0x80 →
      bitsOf (c.cap.w 10) 11 9 = 0 →
      c.cap.w 10 % 16 = 0 →
      c.cap.nsid ≠ 0xFFFFFFFF →
      s.ns? c.cap.nsid = some n →
      s.protectedNs n = false →
      exec (.formatNvm serial) s = .next ((s.emptyNs c.cap.nsid n).answer serial good)) ∧
  (∀ (serial : Nat) (c : Cmd) (n : Ns) (x : List Nat) (s u : State),
      s.cmd? serial = some c →
      c.verdict = none →
      c.orphan = false →
      c.whole = true →
      s.isAdmin c = true →
      c.cap.opcode = 0x80 →
      bitsOf (c.cap.w 10) 11 9 = 2 →
      c.cap.w 10 % 16 = 0 →
      c.cap.nsid ≠ 0xFFFFFFFF →
      s.ns? c.cap.nsid = some n →
      s.protectedNs n = false →
      u = (s.emptyNs c.cap.nsid n).generateKey n.slot →
      u.wrapped n.slot = some x →
      exec (.formatNvm serial) s = .next ((u.saveDev fun d => { d with keys := sIns d.keys n.slot (c.cap.nsid, x) }).answer serial good)) ∧
  (∀ (serial : Nat) (c : Cmd) (done upTo : Nat) (s u : State),
      s.cmd? serial = some c →
      c.verdict = none →
      c.orphan = false →
      c.whole = true →
      s.isAdmin c = true →
      c.cap.opcode = 0x84 →
      c.cap.w 10 % 8 = 4 →
      done = s.cons.sanitizing.getD 0 →
      done < upTo →
      upTo < 6 →
      u = s.eraseSteps (done + 1) (upTo - done) →
      exec (.sanitize serial upTo) s = .next (u.putCons { u.cons with sanitizing := some upTo })) ∧
  (∀ (serial : Nat) (c : Cmd) (done : Nat) (s u : State),
      s.cmd? serial = some c →
      c.verdict = none →
      c.orphan = false →
      c.whole = true →
      s.isAdmin c = true →
      c.cap.opcode = 0x84 →
      c.cap.w 10 % 8 = 4 →
      done = s.cons.sanitizing.getD 0 →
      done < 6 →
      u = s.eraseSteps (done + 1) (6 - done) →
      exec (.sanitize serial 6) s = .next ((u.putCons { u.cons with sanitizing := none }).answer serial good)) ∧
  (∀ (serial : Nat) (c : Cmd) (x : Nat) (s : State),
      s.cmd? serial = some c →
      c.verdict = none →
      c.orphan = false →
      c.whole = true →
      s.isAdmin c = true →
      c.cap.opcode = 0xC0 →
      bitsOf (c.cap.w 10) 9 8 = 0 →
      s.serviceHead c = some x →
      exec (.headServiceReport serial) s = .next (s.answerWith serial (s.serviceWord x) [] good)) ∧
  (∀ (serial : Nat) (c : Cmd) (x : Nat) (s u : State),
      s.cmd? serial = some c →
      c.verdict = none →
      c.orphan = false →
      c.whole = true →
      s.isAdmin c = true →
      c.cap.opcode = 0xC0 →
      bitsOf (c.cap.w 10) 9 8 = 1 →
      s.serviceHead c = some x →
      s.retireRefused x = false →
      u = s.retireHead x 6 →
      exec (.headServiceRetire serial) s = .next (u.answerWith serial (u.serviceWord x) [] good)) ∧
  (∀ (serial : Nat) (c : Cmd) (x : Nat) (s : State),
      s.cmd? serial = some c →
      c.verdict = none →
      c.orphan = false →
      c.whole = true →
      s.isAdmin c = true →
      c.cap.opcode = 0xC0 →
      bitsOf (c.cap.w 10) 9 8 = 1 →
      s.serviceHead c = some x →
      s.retireRefused x = true →
      exec (.headServiceRetire serial) s = .next (s.answer serial (verdict .sequenceError true))) ∧
  (∀ (serial : Nat) (c : Cmd) (x : Nat) (s u : State),
      s.cmd? serial = some c →
      c.verdict = none →
      c.orphan = false →
      c.whole = true →
      s.isAdmin c = true →
      c.cap.opcode = 0xC0 →
      bitsOf (c.cap.w 10) 9 8 = 2 →
      s.serviceHead c = some x →
      (u = s.saveDev fun d => { d with reinstate := Sys2Proof.setBit d.reinstate x true }) →
      exec (.headServiceReinstate serial) s = .next (u.answerWith serial (u.serviceWord x) [] good)) ∧
  (∀ (serial : Nat) (c : Cmd) (s : State),
      s.cmd? serial = some c →
      c.verdict = none →
      c.orphan = false →
      c.whole = true →
      s.isAdmin c = true →
      c.cap.opcode = 0xC1 →
      c.cap.w 10 % 4 = 1 →
      exec (.shelfServiceEnter serial) s = .next (s.answer serial (if s.solo = true then verdict .sequenceError true else good))) ∧
  (∀ (t : Nat) (s u : State),
      s.host.shelfMs = some t →
      t + 100 ≤ s.ms →
      u = s.endAll →
      u.headsOff = true →
      exec .shelfHoldDeparture s = .next (u.acts.foldl (fun s x => if ((s.lp x).parked || (s.lp x).mode == .unloading || (s.mail (x.n + 1)).count != 0) = true then s else s.tell (x.n + 1) [0x05000000]) u)) ∧
  (∀ (t : Nat) (s u v w : State),
      s.host.shelfMs = some t →
      t + 100 ≤ s.ms →
      u = s.endAll →
      u.headsOff = false →
      v = u.putHost { u.host with shelfMs := none } →
      w = (if v.turning = true then v.tell 0 [0x22000000, 1] else v) →
      exec .shelfHoldDeparture s = .next (w.set Reg.FRK_TARGET_TARGET (w.get Reg.FRK_BOOK_LIM_BASE)).followTarget) ∧
  (∀ (serial : Nat) (c : Cmd) (s u : State),
      s.cmd? serial = some c →
      c.verdict = none →
      c.orphan = false →
      c.whole = true →
      s.isAdmin c = true →
      c.cap.opcode = 0xC1 →
      c.cap.w 10 % 4 = 2 →
      s.solo = false →
      u = s.setAll [(Reg.FRK_WAKE_GO, 1), (Reg.FRK_WAKE_ALL, c.cap.w 11 % 128 / 64), (Reg.FRK_WAKE_SLOT, c.cap.w 11 % 128)] →
      exec (.shelfServiceWake serial) s = .next (u.answer serial good)) ∧
  (∀ (serial : Nat) (c : Cmd) (p crit : Nat) (f : Sparse Nat) (s u v w : State),
      s.cmd? serial = some c →
      c.verdict = none →
      c.orphan = false →
      c.whole = true →
      s.isAdmin c = true →
      c.cap.opcode = 0xC2 →
      s.host.nss = [] →
      u = (s.set Reg.CNS_LAYOUT_LAYOUT (c.cap.w 10 % 4)).set Reg.SOF_FC_COMPAT (b2n (bitOf (c.cap.w 10) 8)) →
      v = (u.clearKeys.emptyMap true).naturalMap →
      p = v.capacity (bitOf (c.cap.w 10) 8) →
      w = (v.putOffice { v.office with p := p }).set Reg.SOF_MAP_LEN_MAP_PARCELS p →
      f = sIns (sIns w.devWanted.features 0xD0 (c.cap.w 10 % 4)) 0xD1 (b2n (bitOf (c.cap.w 10) 8)) →
      crit = Sys2Proof.setBit (Sys2Proof.setBit w.host.critical 2 false) 4 false →
      exec (.driveFormat serial) s = .next ((State.putHost (w.saveDev fun d => { d with keys := [], posmap := w.posmapList, features := f }) { w.host with critical := crit }).answer serial good)) ∧
  (∀ (serial : Nat) (c : Cmd) (s : State),
      s.cmd? serial = some c →
      c.verdict = none →
      c.orphan = false →
      c.whole = true →
      s.isAdmin c = true →
      c.cap.opcode = 0xC2 →
      s.host.nss ≠ [] →
      exec (.driveFormat serial) s = .next (s.answer serial (verdict .sequenceError true)))

/-- NVMe-MI commands complete (R401, R402). Completes, under hypotheses on the state and the operands alone: readNvmeMiDataStructure,
nvmSubsystemHealthStatusPoll, controllerHealthStatusPoll, configurationGet, configurationSet, vpdRead. -/
def Obligations.MiCommandsRun : Prop :=
  (∀ (id : Nat) (s : State),
      s.miUp = true →
      id ≤ 1 →
      exec (.readNvmeMiDataStructure 1 id) s = .next (s.emit (.mi true (lay 32 [(0, [0])])))) ∧
  (∀ (id : Nat) (s : State),
      s.miUp = true →
      exec (.readNvmeMiDataStructure 2 id) s =
      .next (s.emit (.mi true (leBytes 2 s.host.assocs.length ++ s.host.assocs.flatMap fun a => leBytes 2 a.1)))) ∧
  (∀ (kind id : Nat) (s : State),
      s.miUp = true →
      4 ≤ kind →
      exec (.readNvmeMiDataStructure kind id) s = .next (s.emit (.mi false []))) ∧
  (∀ (s : State),
      s.miUp = true →
      exec .nvmSubsystemHealthStatusPoll s = .next (s.emit (.mi true [if s.host.assocs = [] then 0x30 else 0x38, 255 - s.criticalWarning % 64,
        min 126 (s.kelvin - 273), Config.smart 5 s.ldgPot % 256, 0, 0, 0, 0]))) ∧
  (∀ (s : State),
      s.miUp = true →
      exec .controllerHealthStatusPoll s = .next (s.emit (.mi true (s.host.assocs.flatMap fun a =>
        lay 16 [(0, leBytes 2 a.1), (2, leBytes 2 (b2n a.2.ready)), (4, leBytes 2 s.kelvin),
          (6, [Config.smart 5 s.ldgPot % 256, s.availableSpare, s.criticalWarning % 256])])))) ∧
  (∀ (s : State),
      s.miUp = true →
      exec .configurationGet s =
      .next (s.emit (.mi true [if s.host.smbus = 100 then 1 else 2, 0, 0]))) ∧
  (∀ (code : Nat) (s u : State),
      s.miUp = true →
      1 ≤ code →
      code ≤ 2 →
      u = s.putHost { s.host with smbus := if code = 1 then 100 else 400 } →
      exec (.configurationSet code) s = .next (u.emit (.mi true []))) ∧
  (∀ (code : Nat) (s : State),
      s.miUp = true →
      (code = 0 ∨ 2 < code) →
      exec (.configurationSet code) s = .next (s.emit (.mi false []))) ∧
  (∀ (off n : Nat) (s : State),
      s.miUp = true →
      exec (.vpdRead off n) s = .next (s.emit (.mi true ((List.range n).map fun i => Config.vpd (off + i) % 256)))) ∧
  (∀ (off n : Nat) (s : State),
      s.miUp = false →
      exec (.vpdRead off n) s = .next s)

/-- The I/O commands of block and zoned namespaces complete (R330, R383, R389, R391, R397). Completes, under hypotheses on the state and
the operands alone: flush, write, zoneAppend, writeZeroes, datasetManagement, read, verify. -/
def Obligations.IoCommandsRun : Prop :=
  (∀ (serial : Nat) (c : Cmd) (n : Ns) (s : State),
      s.cmd? serial = some c →
      c.verdict = none →
      c.orphan = false →
      c.whole = true →
      s.locked serial c = true →
      s.cmdOp c = some .flush →
      s.ns? c.cap.nsid = some n →
      exec (.flush serial) s = .next (s.answer serial good)) ∧
  (∀ (serial : Nat) (c : Cmd) (n : Ns) (m lba : Nat) (s u v : State),
      s.cmd? serial = some c →
      c.verdict = none →
      c.orphan = false →
      c.whole = true →
      s.locked serial c = true →
      s.cmdOp c = some .write →
      s.ns? c.cap.nsid = some n →
      s.enterTray c = (u, .inr (m, lba)) →
      v = u.putCmd serial { c with tray := some m } →
      exec (.write serial) s = .next (((v.countIo true c.need).answerWith serial (if c.cap.opcode = 0x7D then lba else 0) [] good).hqRefresh)) ∧
  (∀ (serial : Nat) (c : Cmd) (n : Ns) (st : Status) (s u : State),
      s.cmd? serial = some c →
      c.verdict = none →
      c.orphan = false →
      c.whole = true →
      s.locked serial c = true →
      s.cmdOp c = some .write →
      s.ns? c.cap.nsid = some n →
      s.enterTray c = (u, .inl st) →
      exec (.write serial) s = .next (u.answer serial (verdict st true))) ∧
  (∀ (serial : Nat) (c : Cmd) (n : Ns) (m lba : Nat) (s u v : State),
      s.cmd? serial = some c →
      c.verdict = none →
      c.orphan = false →
      c.whole = true →
      s.locked serial c = true →
      s.cmdOp c = some .append →
      s.ns? c.cap.nsid = some n →
      s.enterTray c = (u, .inr (m, lba)) →
      v = u.putCmd serial { c with tray := some m } →
      exec (.zoneAppend serial) s = .next (((v.countIo true c.need).answerWith serial (if c.cap.opcode = 0x7D then lba else 0) [] good).hqRefresh)) ∧
  (∀ (serial : Nat) (c : Cmd) (n : Ns) (m lba : Nat) (s u v : State),
      s.cmd? serial = some c →
      c.verdict = none →
      c.orphan = false →
      c.whole = true →
      s.locked serial c = true →
      s.cmdOp c = some .writeZeroes →
      s.ns? c.cap.nsid = some n →
      (n.csi ≠ 0 ∨ c.cap.deac = false) →
      s.enterTray c = (u, .inr (m, lba)) →
      v = u.putCmd serial { c with tray := some m } →
      exec (.writeZeroes serial) s = .next (((v.countIo true c.need).answerWith serial (if c.cap.opcode = 0x7D then lba else 0) [] good).hqRefresh)) ∧
  (∀ (serial : Nat) (c : Cmd) (n : Ns) (s : State),
      s.cmd? serial = some c →
      c.verdict = none →
      c.orphan = false →
      c.whole = true →
      s.locked serial c = true →
      s.cmdOp c = some .writeZeroes →
      s.ns? c.cap.nsid = some n →
      n.csi = 0 →
      c.cap.deac = true →
      exec (.writeZeroes serial) s = .next ((s.discardRanges c.cap.nsid n [(c.cap.slba, c.cap.nlb)]).answer serial good)) ∧
  (∀ (serial : Nat) (c : Cmd) (n : Ns) (l : List (Nat × Nat)) (s : State),
      s.cmd? serial = some c →
      c.verdict = none →
      c.orphan = false →
      c.whole = true →
      s.locked serial c = true →
      s.cmdOp c = some .discard →
      s.ns? c.cap.nsid = some n →
      l = dsmRanges (s.cmdData c) (c.cap.w 10 % 256 + 1) →
      ((l.any fun r => n.size < r.1 + r.2) = false) →
      bitOf (c.cap.w 11) 2 = true →
      exec (.datasetManagement serial) s = .next ((s.discardRanges c.cap.nsid n l).answer serial good)) ∧
  (∀ (serial : Nat) (c : Cmd) (n : Ns) (lbas lost : List Nat) (media : List (Nat × Nat)) (s : State),
      s.cmd? serial = some c →
      c.verdict = none →
      c.orphan = false →
      c.whole = true →
      s.locked serial c = true →
      s.cmdOp c = some .read →
      s.ns? c.cap.nsid = some n →
      lbas = (List.range c.cap.nlb).map (c.cap.slba + ·) →
      ((lbas.filter fun b => s.whereIs c.cap.nsid n b == .lost || (s.whereIs c.cap.nsid n b == .media && s.blockLost serial n b)) = lost) →
      lost ≠ [] →
      exec (.read serial media) s = .next (s.readLost serial c n lost)) ∧
  (∀ (serial : Nat) (c : Cmd) (n : Ns) (lbas : List Nat) (media : List (Nat × Nat)) (s : State),
      s.cmd? serial = some c →
      c.verdict = none →
      c.orphan = false →
      c.whole = true →
      s.locked serial c = true →
      s.cmdOp c = some .read →
      s.ns? c.cap.nsid = some n →
      lbas = (List.range c.cap.nlb).map (c.cap.slba + ·) →
      ((lbas.filter fun b => s.whereIs c.cap.nsid n b == .lost || (s.whereIs c.cap.nsid n b == .media && s.blockLost serial n b)) = []) →
      ((lbas.any fun b => s.whereIs c.cap.nsid n b == .media && !(media.any fun m => m.1 == b)) = false) →
      exec (.read serial media) s = .next ((s.countIo false (4096 * c.cap.nlb)).answerWith serial 0 (lbas.flatMap fun b => match s.whereIs c.cap.nsid n b with
        | .bytes l => l
        | _ => (s.bytes ((media.find? fun m => m.1 == b).map (·.2) |>.getD 0) 4096).map (·.toNat)) good)) ∧
  (∀ (serial : Nat) (c : Cmd) (n : Ns) (lbas : List Nat) (media : List (Nat × Nat)) (s : State),
      s.cmd? serial = some c →
      c.verdict = none →
      c.orphan = false →
      c.whole = true →
      s.locked serial c = true →
      s.cmdOp c = some .verify →
      s.ns? c.cap.nsid = some n →
      lbas = (List.range c.cap.nlb).map (c.cap.slba + ·) →
      ((lbas.filter fun b => s.whereIs c.cap.nsid n b == .lost || (s.whereIs c.cap.nsid n b == .media && s.blockLost serial n b)) = []) →
      ((lbas.any fun b => s.whereIs c.cap.nsid n b == .media && !(media.any fun m => m.1 == b)) = false) →
      exec (.verify serial media) s = .next ((s.countIo false (4096 * c.cap.nlb)).answerWith serial 0 [] good)) ∧
  (∀ (serial : Nat) (c : Cmd) (n : Ns) (lbas : List Nat) (media : List (Nat × Nat)) (s : State),
      s.cmd? serial = some c →
      c.verdict = none →
      c.orphan = false →
      c.whole = true →
      s.locked serial c = true →
      s.cmdOp c = some .verify →
      s.ns? c.cap.nsid = some n →
      lbas = (List.range c.cap.nlb).map (c.cap.slba + ·) →
      ((lbas.filter fun b => s.whereIs c.cap.nsid n b == .lost || (s.whereIs c.cap.nsid n b == .media && s.blockLost serial n b)) = []) →
      ((lbas.any fun b => s.whereIs c.cap.nsid n b == .media && !(media.any fun m => m.1 == b)) = true) →
      exec (.verify serial media) s = .next (s.putCmd serial { c with media := true }))

/-- The reservation commands complete (R380, R383). Completes, under hypotheses on the state and the operands alone: reservationRegister,
reservationAcquire, reservationRelease, reservationReport. -/
def Obligations.ReservationsRun : Prop :=
  (∀ (serial : Nat) (c : Cmd) (n : Ns) (h : Nat) (s : State),
      s.cmd? serial = some c →
      c.verdict = none →
      c.orphan = false →
      c.whole = true →
      s.locked serial c = true →
      s.cmdOp c = some .resRegister →
      s.ns? c.cap.nsid = some n →
      c.cap.w 10 = 0 →
      h = s.hostOf c →
      ((n.regs.find? fun r => r.1 == h) = none) →
      exec (.reservationRegister serial) s = .next ((s.putNs c.cap.nsid (n.withRegs (n.regs ++ [(h, ofBytes (((s.cmdData c).drop 8).take 8))]))).answer serial good)) ∧
  (∀ (serial : Nat) (c : Cmd) (n : Ns) (h cur key : Nat) (m : Ns) (s u : State),
      s.cmd? serial = some c →
      c.verdict = none →
      c.orphan = false →
      c.whole = true →
      s.locked serial c = true →
      s.cmdOp c = some .resRegister →
      s.ns? c.cap.nsid = some n →
      c.cap.w 10 = 1 →
      h = s.hostOf c →
      cur = ofBytes ((s.cmdData c).take 8) →
      (n.regs.find? fun r => r.1 == h) = some (h, key) →
      key = cur →
      (m = (n.withRegs (n.regs.filter fun r => r.1 != h)).dropHolder) →
      n.holder = none →
      u = s.putNs c.cap.nsid m →
      exec (.reservationRegister serial) s = .next (u.answer serial good)) ∧
  (∀ (serial : Nat) (c : Cmd) (n : Ns) (h cur key : Nat) (s : State),
      s.cmd? serial = some c →
      c.verdict = none →
      c.orphan = false →
      c.whole = true →
      s.locked serial c = true →
      s.cmdOp c = some .resRegister →
      s.ns? c.cap.nsid = some n →
      c.cap.w 10 = 2 →
      h = s.hostOf c →
      cur = ofBytes ((s.cmdData c).take 8) →
      (n.regs.find? fun r => r.1 == h) = some (h, key) →
      key ≠ cur →
      exec (.reservationRegister serial) s = .next (s.answer serial (verdict .reservationConflict true))) ∧
  (∀ (serial : Nat) (c : Cmd) (n : Ns) (h cur type : Nat) (s : State),
      s.cmd? serial = some c →
      c.verdict = none →
      c.orphan = false →
      c.whole = true →
      s.locked serial c = true →
      s.cmdOp c = some .resAcquire →
      s.ns? c.cap.nsid = some n →
      h = s.hostOf c →
      cur = ofBytes ((s.cmdData c).take 8) →
      type = bitsOf (c.cap.w 10) 15 8 →
      1 ≤ type →
      type ≤ 6 →
      c.cap.w 10 % 8 = 0 →
      n.regs.contains (h, cur) = true →
      n.holder = none →
      exec (.reservationAcquire serial) s = .next ((s.putNs c.cap.nsid { n with holder := some (h, type) }).answer serial good)) ∧
  (∀ (serial : Nat) (c : Cmd) (n : Ns) (h cur type : Nat) (s : State),
      s.cmd? serial = some c →
      c.verdict = none →
      c.orphan = false →
      c.whole = true →
      s.locked serial c = true →
      s.cmdOp c = some .resAcquire →
      s.ns? c.cap.nsid = some n →
      h = s.hostOf c →
      cur = ofBytes ((s.cmdData c).take 8) →
      type = bitsOf (c.cap.w 10) 15 8 →
      1 ≤ type →
      type ≤ 6 →
      c.cap.w 10 % 8 ≤ 2 →
      ((n.regs.any fun r => r.1 == h && (bitOf (c.cap.w 10) 3 || r.2 == cur)) = false) →
      exec (.reservationAcquire serial) s = .next (s.answer serial (verdict .reservationConflict true))) ∧
  (∀ (serial : Nat) (c : Cmd) (n : Ns) (h cur type : Nat) (s u : State),
      s.cmd? serial = some c →
      c.verdict = none →
      c.orphan = false →
      c.whole = true →
      s.locked serial c = true →
      s.cmdOp c = some .resRelease →
      s.ns? c.cap.nsid = some n →
      h = s.hostOf c →
      cur = ofBytes ((s.cmdData c).take 8) →
      type = bitsOf (c.cap.w 10) 15 8 →
      c.cap.w 10 % 8 = 0 →
      ((n.regs.any fun r => r.1 == h && (bitOf (c.cap.w 10) 3 || r.2 == cur)) = true) →
      n.holder = some (h, type) →
      u = s.putNs c.cap.nsid { n with holder := none } →
      exec (.reservationRelease serial) s = .next ((u.resNotify c.cap.nsid 2 ((n.regs.filter fun r => r.1 != h).map (·.1))).answer serial good)) ∧
  (∀ (serial : Nat) (c : Cmd) (n : Ns) (h cur : Nat) (m : Ns) (s u : State),
      s.cmd? serial = some c →
      c.verdict = none →
      c.orphan = false →
      c.whole = true →
      s.locked serial c = true →
      s.cmdOp c = some .resRelease →
      s.ns? c.cap.nsid = some n →
      h = s.hostOf c →
      cur = ofBytes ((s.cmdData c).take 8) →
      c.cap.w 10 % 8 = 1 →
      ((n.regs.any fun r => r.1 == h && (bitOf (c.cap.w 10) 3 || r.2 == cur)) = true) →
      m = { n.withRegs [] with holder := none } →
      u = s.putNs c.cap.nsid m →
      exec (.reservationRelease serial) s = .next ((u.resNotify c.cap.nsid 1 ((n.regs.filter fun r => r.1 != h).map (·.1))).answer serial good)) ∧
  (∀ (serial : Nat) (c : Cmd) (n : Ns) (s : State),
      s.cmd? serial = some c →
      c.verdict = none →
      c.orphan = false →
      c.whole = true →
      s.locked serial c = true →
      s.cmdOp c = some .resReport →
      s.ns? c.cap.nsid = some n →
      bitOf (c.cap.w 11) 0 = false →
      n.holder = none →
      exec (.reservationReport serial) s = .next (s.answerWith serial 0 ((leBytes 4 n.gen ++ [0] ++ leBytes 2 n.regs.length ++ [0, 0, b2n n.ptpl] ++ List.replicate 14 0 ++
        n.regs.flatMap fun r : Nat × Nat => leBytes 2 0xFFFF ++ [0] ++ List.replicate 5 0 ++ leBytes 8 r.1 ++ leBytes 8 r.2).take (4 * (c.cap.w 10 + 1))) good))

/-- The zone management and key-value commands complete (R321, R324, R327, R330, R383, R391). Completes, under hypotheses on the state and
the operands alone: zoneOpen, zoneClose, zoneFinish, zoneReset, zoneManagementReceive, store, retrieve, list, delete, exist. -/
def Obligations.ZonesAndKeysRun : Prop :=
  (∀ (serial : Nat) (c : Cmd) (n : Ns) (k : Nat) (s : State),
      s.cmd? serial = some c →
      c.verdict = none →
      c.orphan = false →
      c.whole = true →
      s.locked serial c = true →
      s.cmdOp c = some .zoneSend →
      s.ns? c.cap.nsid = some n →
      c.cap.w 13 % 256 = 3 →
      bitOf (c.cap.w 13) 8 = false →
      k = c.cap.slba / 65536 →
      (n.zone k).state ≠ .full →
      n.openRefusal k = none →
      exec (.zoneOpen serial) s = .next ((s.openZone c.cap.nsid k .explicitOpen).answer serial good)) ∧
  (∀ (serial : Nat) (c : Cmd) (n : Ns) (k : Nat) (s : State),
      s.cmd? serial = some c →
      c.verdict = none →
      c.orphan = false →
      c.whole = true →
      s.locked serial c = true →
      s.cmdOp c = some .zoneSend →
      s.ns? c.cap.nsid = some n →
      c.cap.w 13 % 256 = 3 →
      bitOf (c.cap.w 13) 8 = false →
      k = c.cap.slba / 65536 →
      (n.zone k).state = .full →
      exec (.zoneOpen serial) s = .next (s.answer serial (verdict .zoneInvalidTransition true))) ∧
  (∀ (serial : Nat) (c : Cmd) (n : Ns) (k : Nat) (st : Status) (s : State),
      s.cmd? serial = some c →
      c.verdict = none →
      c.orphan = false →
      c.whole = true →
      s.locked serial c = true →
      s.cmdOp c = some .zoneSend →
      s.ns? c.cap.nsid = some n →
      c.cap.w 13 % 256 = 3 →
      bitOf (c.cap.w 13) 8 = false →
      k = c.cap.slba / 65536 →
      (n.zone k).state ≠ .full →
      n.openRefusal k = some st →
      exec (.zoneOpen serial) s = .next (s.answer serial (verdict st true))) ∧
  (∀ (serial : Nat) (c : Cmd) (n : Ns) (k : Nat) (s : State),
      s.cmd? serial = some c →
      c.verdict = none →
      c.orphan = false →
      c.whole = true →
      s.locked serial c = true →
      s.cmdOp c = some .zoneSend →
      s.ns? c.cap.nsid = some n →
      c.cap.w 13 % 256 = 1 →
      bitOf (c.cap.w 13) 8 = false →
      k = c.cap.slba / 65536 →
      ((n.zone k).state = .implicitOpen ∨ (n.zone k).state = .explicitOpen) →
      exec (.zoneClose serial) s = .next ((s.putZone c.cap.nsid k { n.zone k with state := .closed }).answer serial good)) ∧
  (∀ (serial : Nat) (c : Cmd) (n : Ns) (k : Nat) (s : State),
      s.cmd? serial = some c →
      c.verdict = none →
      c.orphan = false →
      c.whole = true →
      s.locked serial c = true →
      s.cmdOp c = some .zoneSend →
      s.ns? c.cap.nsid = some n →
      c.cap.w 13 % 256 = 2 →
      bitOf (c.cap.w 13) 8 = false →
      k = c.cap.slba / 65536 →
      (n.zone k).state ≠ .full →
      exec (.zoneFinish serial) s = .next ((s.finishZone c.cap.nsid k (n.zone k) false).answer serial good)) ∧
  (∀ (serial : Nat) (c : Cmd) (n : Ns) (k : Nat) (s u v : State),
      s.cmd? serial = some c →
      c.verdict = none →
      c.orphan = false →
      c.whole = true →
      s.locked serial c = true →
      s.cmdOp c = some .zoneSend →
      s.ns? c.cap.nsid = some n →
      c.cap.w 13 % 256 = 4 →
      bitOf (c.cap.w 13) 8 = false →
      k = c.cap.slba / 65536 →
      (u = (s.trayForget c.cap.nsid (65536 * k) 65536).unmapAll ((List.range 1024).map fun i => n.lpn + 1024 * k + i) 0x06) →
      (n.zone k).bound = none →
      v = u.putZone c.cap.nsid k HZone.fresh →
      exec (.zoneReset serial) s = .next (v.answer serial good)) ∧
  (∀ (serial : Nat) (c : Cmd) (n : Ns) (ks : List Nat) (s : State),
      s.cmd? serial = some c →
      c.verdict = none →
      c.orphan = false →
      c.whole = true →
      s.locked serial c = true →
      s.cmdOp c = some .zoneReceive →
      s.ns? c.cap.nsid = some n →
      bitsOf (c.cap.w 13) 15 8 = 0 →
      bitOf (c.cap.w 13) 16 = false →
      ks = (List.range (n.size / 65536 - c.cap.slba / 65536)).map (c.cap.slba / 65536 + ·) →
      exec (.zoneManagementReceive serial) s = .next (s.answerWith serial 0 ((leBytes 8 ks.length ++ List.replicate 56 0 ++
        (ks.take ((4 * (c.cap.w 12 + 1) - 64) / 64)).flatMap fun k => zoneDescriptor k (n.zone k)).take (4 * (c.cap.w 12 + 1))) good)) ∧
  (∀ (serial : Nat) (c : Cmd) (n : Ns) (m lba : Nat) (s u v : State),
      s.cmd? serial = some c →
      c.verdict = none →
      c.orphan = false →
      c.whole = true →
      s.locked serial c = true →
      s.cmdOp c = some .store →
      s.ns? c.cap.nsid = some n →
      bitOf (c.cap.w 11) 8 = false →
      bitOf (c.cap.w 11) 9 = false →
      s.enterTray c = (u, .inr (m, lba)) →
      v = u.putCmd serial { c with tray := some m } →
      exec (.store serial) s = .next (((v.countIo true c.need).answerWith serial (if c.cap.opcode = 0x7D then lba else 0) [] good).hqRefresh)) ∧
  (∀ (serial : Nat) (c : Cmd) (n : Ns) (s : State),
      s.cmd? serial = some c →
      c.verdict = none →
      c.orphan = false →
      c.whole = true →
      s.locked serial c = true →
      s.cmdOp c = some .store →
      s.ns? c.cap.nsid = some n →
      bitOf (c.cap.w 11) 8 = true →
      s.hasKey c.cap.nsid c.cap = false →
      exec (.store serial) s = .next (s.answer serial (verdict .keyMissing true))) ∧
  (∀ (serial : Nat) (c : Cmd) (n : Ns) (at_ : Option Nat) (l : List Nat) (t : TrayEnt) (s : State),
      s.cmd? serial = some c →
      c.verdict = none →
      c.orphan = false →
      c.whole = true →
      s.locked serial c = true →
      s.cmdOp c = some .retrieve →
      s.ns? c.cap.nsid = some n →
      s.trayValue c.cap.nsid c.cap = some t →
      s.office.unreadable.contains (keyMark (kvKey c.cap.nsid t.keyLen t.key), 0) = false →
      l = s.bagRead t.bags 0 t.count →
      exec (.retrieve serial at_) s = .next ((s.countIo false l.length).answerWith serial l.length (l.take (c.cap.w 10)) good)) ∧
  (∀ (serial : Nat) (c : Cmd) (n : Ns) (a : Nat) (l ps : List Nat) (e : KvEntry) (s : State),
      s.cmd? serial = some c →
      c.verdict = none →
      c.orphan = false →
      c.whole = true →
      s.locked serial c = true →
      s.cmdOp c = some .retrieve →
      s.ns? c.cap.nsid = some n →
      s.trayValue c.cap.nsid c.cap = none →
      sGet? s.host.kv (kvKey c.cap.nsid c.cap.keyLen c.cap.keyNat) = some e →
      ps = (if e.bundled = true then [e.lpn] else (List.range (runParcels e.len)).map (e.lpn + ·)) →
      ((ps.any fun l => (List.range 64).any fun k => s.sectorLost serial l k) = false) →
      s.office.unreadable = [] →
      l = (s.bytes a e.len).map (·.toNat) →
      exec (.retrieve serial (some a)) s = .next ((s.countIo false l.length).answerWith serial l.length (l.take (c.cap.w 10)) good)) ∧
  (∀ (serial : Nat) (c : Cmd) (n : Ns) (at_ : Option Nat) (s : State),
      s.cmd? serial = some c →
      c.verdict = none →
      c.orphan = false →
      c.whole = true →
      s.locked serial c = true →
      s.cmdOp c = some .retrieve →
      s.ns? c.cap.nsid = some n →
      s.hasKey c.cap.nsid c.cap = false →
      exec (.retrieve serial at_) s = .next (s.answer serial (verdict .keyMissing true))) ∧
  (∀ (serial : Nat) (c : Cmd) (n : Ns) (s : State),
      s.cmd? serial = some c →
      c.verdict = none →
      c.orphan = false →
      c.whole = true →
      s.locked serial c = true →
      s.cmdOp c = some .list →
      s.ns? c.cap.nsid = some n →
      s.keysOf c.cap.nsid = [] →
      exec (.list serial) s = .next (s.answerWith serial 0 (leBytes 4 0) good)) ∧
  (∀ (serial : Nat) (c : Cmd) (n : Ns) (key : Nat) (old : List (Nat × Nat × Nat)) (s u v w : State),
      s.cmd? serial = some c →
      c.verdict = none →
      c.orphan = false →
      c.whole = true →
      s.locked serial c = true →
      s.cmdOp c = some .delete →
      s.ns? c.cap.nsid = some n →
      key = kvKey c.cap.nsid c.cap.keyLen c.cap.keyNat →
      s.hasKey c.cap.nsid c.cap = true →
      (u = s.trayDrop fun t => t.kind == .value && t.nsid == c.cap.nsid && t.key == c.cap.keyNat && t.keyLen == c.cap.keyLen) →
      (v = u.putOffice { u.office with bundles := u.office.bundles.map fun b => if b.placed then b else { b with values := b.values.filter fun v => v.1 != key } }) →
      old = s.freeOld key →
      w = (v.forgetKey key).unmapAll (old.map (·.1)) 0x05 →
      exec (.delete serial) s = .next ((w.putHost { w.host with kv := sDel w.host.kv key }).answer serial good)) ∧
  (∀ (serial : Nat) (c : Cmd) (n : Ns) (s : State),
      s.cmd? serial = some c →
      c.verdict = none →
      c.orphan = false →
      c.whole = true →
      s.locked serial c = true →
      s.cmdOp c = some .delete →
      s.ns? c.cap.nsid = some n →
      s.hasKey c.cap.nsid c.cap = false →
      exec (.delete serial) s = .next (s.answer serial (verdict .keyMissing true))) ∧
  (∀ (serial : Nat) (c : Cmd) (n : Ns) (s : State),
      s.cmd? serial = some c →
      c.verdict = none →
      c.orphan = false →
      c.whole = true →
      s.locked serial c = true →
      s.cmdOp c = some .exist →
      s.ns? c.cap.nsid = some n →
      exec (.exist serial) s = .next (s.answer serial (if s.hasKey c.cap.nsid c.cap = true then good else verdict .keyMissing true)))

/-- A step runs the command at the front of the queue, and idles on an empty queue (R1). -/
def Obligations.StepTakesTheFront : Prop :=
  (∀ (c : Instr) (l : List Instr) (s : State),
      s.pending = c :: l →
      step s = exec c { s with pending := l }) ∧
  (∀ (s : State),
      s.pending = [] →
      step s = .next s)

/-- Right after reset every register reads its reset value and the invariant holds (R13, R445). -/
def Obligations.ResetMeetsTheInvariant : Prop :=
  (∀ f : Fld, State.reset.get f = f.rst) ∧ State.reset.tick = 0 ∧ State.reset.pending = [] ∧ State.reset.cells = [] ∧ State.reset.nand = [] ∧
    State.reset.env.writes = [] ∧ State.reset.desk.recs = [] ∧ State.reset.Inv

/-- Every step keeps the canonical forms of the registers, the DRAM, the strongroom and the queue (R6, R424, R430). -/
def Obligations.StepKeepsTheInvariant : Prop :=
  ∀ (s t : State),
    s.Inv →
    step s = .next t →
    t.Inv

/-- Every command changes only the parts of the state listed for it (R13, R15). -/
def Obligations.EveryCommandTouchesOnly : Prop :=
  ∀ (c : Instr) (s t : State),
    exec c s = .next t →
    Only c.touches s t

/-- The queue, the calibration, the variant, the clocks, the straps and the strongroom change only where the rules say (R1, R3, R74,
R425). -/
def Obligations.HiddenStateIsKept : Prop :=
  (∀ (c : Instr) (s t : State),
      exec c s = .next t →
      t.pending = s.pending ∧ t.cal = s.cal) ∧
  (∀ (c : Instr) (s t : State),
      exec c s = .next t →
      (∀ v ac fit, c ≠ .mainsApplied v ac fit) →
      t.variant = s.variant) ∧
  (∀ (c : Instr) (s t : State),
      exec c s = .next t →
      (∀ f, c ≠ .tickBoundary f) →
      t.clockNs = s.clockNs ∧ t.potNs = s.potNs) ∧
  (∀ (c : Instr) (s t : State),
      exec c s = .next t →
      (∀ m f, c ≠ .driveBusValid m f) →
      (∀ f, c ≠ .switchedDomainsRestart f) →
      (∀ f, c ≠ .thermalRestart f) →
      (∀ p, c ≠ .presentNAssert p) →
      t.straps = s.straps) ∧
  (∀ (c : Instr) (s t : State),
      exec c s = .next t →
      (∀ k d f e, c ≠ .nandProgram k d f e) →
      (∀ k d f e, c ≠ .nandErase k d f e) →
      t.nand = s.nand)

/-- Every command completes, but for a level beyond the absolute ratings (R463). -/
def Obligations.OnlyTheRatingsStop : Prop :=
  ∀ (c : Instr) (s : State),
    (∃ t, exec c s = .next t) ∨
    exec c s = .fault .beyondRatings ∧
      ((∃ v ac fit, c = .mainsApplied v ac fit) ∨ (∃ m f, c = .driveBusValid m f) ∨ (∃ m, c = .chopperGateClose m) ∨
        (∃ m, c = .llcIdle m) ∨ ∃ f, c = .tickBoundary f)

/-- A courier image is loaded byte by byte, and one with a reserved bit set is rejected (R165). Completes, under hypotheses on the state
and the operands alone: creLoadDone. -/
def Obligations.CourierImageLaidOut : Prop :=
  (∀ (s : State) (a w k : Nat),
      s.get Reg.CRE_STATUS_STATE = 1 →
      a = s.get Reg.CRE_LOAD_LO_ADDR + 2 ^ 32 * s.get Reg.CRE_LOAD_HI_ADDR →
      w < 8192 →
      k < 24 →
      ∃ t, exec .creLoadDone s = .next t ∧ bitsOf (sGet t.eng.store w 0) (8 * k + 7) (8 * k) = (s.byte (a + 512 + 24 * w + k)).toNat) ∧
  (∀ (s : State) (a w : Nat),
      s.get Reg.CRE_STATUS_STATE = 1 →
      a = s.get Reg.CRE_LOAD_LO_ADDR + 2 ^ 32 * s.get Reg.CRE_LOAD_HI_ADDR →
      w < 8192 →
      bitsOf (s.dram (a + 512 + 24 * w) 24) 52 32 ≠ 0 →
      ∃ t, exec .creLoadDone s = .next t ∧ t.get Reg.CRE_STATUS_STATE = 0 ∧ t.get Reg.CRE_STATUS_LOAD_FAIL = 1) ∧
  (∀ (s : State) (a : Nat),
      s.get Reg.CRE_STATUS_STATE = 1 →
      a = s.get Reg.CRE_LOAD_LO_ADDR + 2 ^ 32 * s.get Reg.CRE_LOAD_HI_ADDR →
      (∀ w, w < 8192 → bitsOf (s.dram (a + 512 + 24 * w) 24) 52 32 = 0) →
      ∃ t, exec .creLoadDone s = .next t ∧
        t.get Reg.CRE_STATUS_STATE = (if s.imageSigned (s.imageBytes a (512 + 24 * 8192)) = true then 2 else 0))

/-- A capture merges into a record of its source, code and level within MERGE_MS, and a grave one never (R446). -/
def Obligations.CapturesAreMerged : Prop :=
  (∀ (r : Report) (s : State),
      r.cls ≠ 2 →
      (∃ p ∈ s.desk.recs, p.1 < 64 ∧ p.2.source = r.source ∧ p.2.code = r.code ∧ p.2.level = r.level ∧ p.2.st ≠ 3 ∧ s.ms - p.2.lastMs ≤ 10 * s.get Reg.FLT_TMO_MERGE_MS) →
      ∃ p ∈ s.desk.recs, p.1 < 64 ∧ p.2.source = r.source ∧ p.2.code = r.code ∧ p.2.level = r.level ∧ p.2.st ≠ 3 ∧ s.ms - p.2.lastMs ≤ 10 * s.get Reg.FLT_TMO_MERGE_MS ∧
        (s.capture r).desk.recs = sIns s.desk.recs p.1 { p.2 with count := min 255 (p.2.count + 1), lastTick := s.tickLo, lastMs := s.ms } ∧
        (s.capture r).desk.held = s.desk.held ∧ (s.capture r).desk.current = s.desk.current ∧ (s.capture r).desk.grave = s.desk.grave ∧
        (s.capture r).out = s.out ∧ (s.capture r).ldg = s.ldg) ∧
  (∀ (r : Report) (s : State) (k : Nat),
      (∀ p ∈ s.desk.recs, p.1 < 64 → ¬ (p.2.source = r.source ∧ p.2.code = r.code ∧ p.2.level = r.level ∧ p.2.st ≠ 3 ∧ s.ms - p.2.lastMs ≤ 10 * s.get Reg.FLT_TMO_MERGE_MS)) →
      s.freePlace = some k →
      ∃ c, sGet? (s.capture r).desk.recs k = some c ∧ c.source = r.source ∧ c.code = r.code ∧ c.level = r.level ∧ c.count = 1) ∧
  (∀ (src code addr info : Nat) (th : Bool) (s t : State),
      s.desk.grave = none →
      s.get Reg.THM_STATUS_STATE ≠ 4 →
      t = (s.graveCapture src code addr info th).1 →
      (∃ c, sGet? t.desk.recs 64 = some c ∧ c.source = src ∧ c.code = code ∧ c.level = 5 ∧ c.cls = 2 ∧ c.count = 1) ∧
      ∀ p, p ≠ 64 → sGet? t.desk.recs p = sGet? s.desk.recs p)

/-- DRAM reads back the little-endian number or the bytes written, and every other byte stays as it was (R1, R6, R417). -/
def Obligations.DramReadsWhatWasWritten : Prop :=
  (∀ (a n v : Nat) (s : State),
      a + n ≤ dramSize →
      (s.putDram a n v).dram a n = v % 256 ^ n) ∧
  (∀ (a n v b : Nat) (s : State),
      (b < a ∨ a + n ≤ b) →
      (s.putDram a n v).byte b = s.byte b) ∧
  (∀ (a k : Nat) (l : List Byte) (s : State),
      k < l.length →
      a + k < dramSize →
      (s.store a l).byte (a + k) = l.getD k 0) ∧
  (∀ (a b : Nat) (l : List Byte) (s : State),
      (b < a ∨ a + l.length ≤ b ∨ dramSize ≤ b) →
      (s.store a l).byte b = s.byte b)

end
end

