-- ==== Sys2Proof/Laws/Sparse.lean ====
section
/-!
SUPPORT. What the operations over sparse data do: what a key reads as after them, and that they keep the canonical form; then the same for
register fields and for bytes of the DRAM.
-/
namespace Sys2Proof

@[simp] theorem sGet?_sIns_same {α : Type} (m : Sparse α) (k : Nat) (v : α) : sGet? (sIns m k v) k = some v := by
  induction m with
  | nil => simp [sIns, sGet?]
  | cons p t ih =>
    obtain ⟨a, w⟩ := p
    simp only [sIns]
    split
    · simp [sGet?]
    · split
      · simp [sGet?]
      · rename_i h1 h2
        simp [sGet?, Ne.symm h2, ih]

theorem sGet?_sIns_ne {α : Type} (m : Sparse α) {k j : Nat} (v : α) (h : j ≠ k) : sGet? (sIns m k v) j = sGet? m j := by
  induction m with
  | nil => simp [sIns, sGet?, Ne.symm h]
  | cons p t ih =>
    obtain ⟨a, w⟩ := p
    simp only [sIns]
    split
    · simp [sGet?, Ne.symm h]
    · split
      · rename_i h1 h2
        subst h2
        simp [sGet?, Ne.symm h]
      · simp [sGet?, ih]

theorem sGet?_sDel_same {α : Type} (m : Sparse α) (k : Nat) : sGet? (sDel m k) k = none := by
  induction m with
  | nil => rfl
  | cons p t ih =>
    obtain ⟨a, w⟩ := p
    by_cases h : a = k
    · subst h
      simpa [sDel] using ih
    · have : sDel ((a, w) :: t) k = (a, w) :: sDel t k := by simp [sDel, h]
      rw [this]
      simpa [sGet?, h] using ih

theorem sGet?_sDel_ne {α : Type} (m : Sparse α) {k j : Nat} (h : j ≠ k) : sGet? (sDel m k) j = sGet? m j := by
  induction m with
  | nil => rfl
  | cons p t ih =>
    obtain ⟨a, w⟩ := p
    by_cases e : a = k
    · subst e
      have : sDel ((a, w) :: t) a = sDel t a := by simp [sDel]
      rw [this, ih]
      simp [sGet?, Ne.symm h]
    · have : sDel ((a, w) :: t) k = (a, w) :: sDel t k := by simp [sDel, e]
      rw [this]
      simp [sGet?, ih]

@[simp] theorem sGet_sPut_same {α : Type} [DecidableEq α] (m : Sparse α) (k : Nat) (v d : α) : sGet (sPut m k v d) k d = v := by
  unfold sPut sGet
  split
  · rename_i h
    simp [sGet?_sDel_same, h]
  · simp

theorem sGet_sPut_ne {α : Type} [DecidableEq α] (m : Sparse α) {k j : Nat} (v d e : α) (h : j ≠ k) :
    sGet (sPut m k v d) j e = sGet m j e := by
  unfold sPut sGet
  split
  · rw [sGet?_sDel_ne m h]
  · rw [sGet?_sIns_ne m v h]

theorem mem_sIns {α : Type} {m : Sparse α} {k : Nat} {v : α} {p : Nat × α} (h : p ∈ sIns m k v) : p = (k, v) ∨ p ∈ m := by
  induction m with
  | nil => simpa [sIns] using h
  | cons q t ih =>
    obtain ⟨a, w⟩ := q
    simp only [sIns] at h
    split at h
    · simpa using h
    · split at h
      · rcases List.mem_cons.1 h with h | h
        · exact .inl h
        · exact .inr (List.mem_cons_of_mem _ h)
      · rcases List.mem_cons.1 h with h | h
        · exact .inr (by simp [h])
        · exact (ih h).imp_right (List.mem_cons_of_mem _)

theorem sRising_sIns {α : Type} {m : Sparse α} (k : Nat) (v : α) (h : sRising m) : sRising (sIns m k v) := by
  induction m with
  | nil => simp [sIns, sRising]
  | cons p t ih =>
    obtain ⟨a, w⟩ := p
    have ht := List.pairwise_cons.1 h
    simp only [sIns]
    split
    · rename_i h1
      refine List.pairwise_cons.2 ⟨fun q hq => ?_, h⟩
      rcases List.mem_cons.1 hq with hq | hq
      · subst hq
        exact h1
      · exact Nat.lt_trans h1 (ht.1 q hq)
    · split
      · rename_i h1 h2
        subst h2
        exact List.pairwise_cons.2 ⟨fun q hq => ht.1 q hq, ht.2⟩
      · rename_i h1 h2
        refine List.pairwise_cons.2 ⟨fun q hq => ?_, ih ht.2⟩
        rcases mem_sIns hq with hq | hq
        · subst hq
          simp only
          omega
        · exact ht.1 q hq

theorem sRising_filter {α : Type} {m : Sparse α} (p : Nat × α → Bool) (h : sRising m) : sRising (m.filter p) :=
  List.Pairwise.filter p h

theorem sWf_filter {α : Type} [DecidableEq α] {m : Sparse α} {d : α} (p : Nat × α → Bool) (h : sWf m d) : sWf (m.filter p) d :=
  ⟨sRising_filter p h.1, fun q hq => h.2 q ((List.mem_filter.1 hq).1)⟩

theorem sRising_sPut {α : Type} [DecidableEq α] {m : Sparse α} (k : Nat) (v d : α) (h : sRising m) : sRising (sPut m k v d) := by
  unfold sPut
  split
  · exact sRising_filter _ h
  · exact sRising_sIns k v h

/-- A write keeps the canonical form: the value of an unlisted key takes its entry out. -/
theorem sWf_sPut {α : Type} [DecidableEq α] {m : Sparse α} {d : α} (k : Nat) (v : α) (h : sWf m d) : sWf (sPut m k v d) d := by
  refine ⟨sRising_sPut k v d h.1, ?_⟩
  unfold sPut
  split
  · exact (sWf_filter _ h).2
  · rename_i hv
    intro p hp
    rcases mem_sIns hp with hp | hp
    · subst hp
      exact hv
    · exact h.2 p hp

end Sys2Proof

namespace Sys2Proof.Machine

/-- A field written reads as the value's bits that it has. -/
@[simp] theorem get_set_same (s : State) (f : Fld) (v : Nat) : (s.set f v).get f = v % 2 ^ f.width := by
  simp [State.get, State.set]

/-- A field written leaves every field under another key. -/
theorem get_set_ne (s : State) {f g : Fld} (v : Nat) (h : g.key ≠ f.key) : (s.set f v).get g = s.get g := by
  simp [State.get, State.set, sGet_sPut_ne _ _ _ _ h]

/-- A byte written reads back, where the DRAM has it. -/
theorem byte_putByte_same (s : State) {a : Nat} (v : Byte) (h : a < dramSize) : (s.putByte a v).byte a = v := by
  simp [State.byte, State.putByte, h]

/-- A byte written leaves every other. -/
theorem byte_putByte_ne (s : State) {a b : Nat} (v : Byte) (h : b ≠ a) : (s.putByte a v).byte b = s.byte b := by
  unfold State.byte State.putByte
  split
  · exact sGet_sPut_ne _ _ _ _ h
  · rfl

end Sys2Proof.Machine
end

