-- ==== Sys2Proof/Laws/Access.lean ====
section
/-!
SUPPORT. What a register access does: an access that reaches its register is the register's own effect, one to an unfitted block reads
0, and every other one is a bus error.
-/
namespace Sys2Proof.Machine

theorem access_of_reaches {s : State} {i : Initiator} {a : Nat} {f : State → State} (h : s.reaches i a = true) :
    s.access i a 4 f = f s := by
  have hb : s.busOk i a 4 = true := by
    simp only [State.reaches, Bool.and_eq_true] at h
    exact h.2
  have hu : s.unfitted a = false := by
    simp only [State.reaches, Bool.and_eq_true, Bool.not_eq_true'] at h
    exact h.1
  have ha : a % 4 = 0 := by
    simp only [State.busOk, Bool.and_eq_true, beq_iff_eq] at hb
    exact hb.1.2
  simp [State.access, hb, hu, ha]

theorem access_unfitted {s : State} {i : Initiator} {a : Nat} {f : State → State} (ha : a % 4 = 0) (h : s.unfitted a = true) :
    s.access i a 4 f = { s with bus := .read 0 } := by
  simp [State.access, ha, h]

theorem access_misaligned {s : State} {i : Initiator} {a size : Nat} {f : State → State} (h : size ≠ 4 ∨ a % 4 ≠ 0) :
    s.access i a size f = s.busError i a := by
  have h' : (size != 4 || a % 4 != 0) = true := by
    rcases h with h | h <;> simp [h]
  simp [State.access, h']

end Sys2Proof.Machine
end

