-- ==== Sys2Proof/Laws/Forms.lean ====
section
/-!
SUPPORT. Every operation over the state keeps the forms of Sys2Proof/Safety.lean: one lemma for each, which the steps over a meaning cite.
-/
set_option linter.unusedSimpArgs false
namespace Sys2Proof.Machine

/-- An update of any part of the state but the four that have a form keeps the forms. -/
theorem inv_mk {v r ck pn b st ti ce na ps en bk de ld o pe eg lo pm tk sp mo ca bo la dc rc kx bg me of cn ho pr he pw} :
    State.Inv ⟨v, r, ck, pn, b, st, ti, ce, na, ps, en, bk, de, ld, o, pe, eg, lo, pm, tk, sp, mo, ca, bo, la, dc, rc, kx, bg, me, of, cn,
      ho, pr, he, pw⟩ = Forms r ce na pe := rfl

theorem forms_of_inv {s : State} (h : s.Inv) : Forms s.regs s.cells s.nand s.pending := h

theorem forms_regs_nil {r : Sparse Nat} {c n : List Host.Cell} {q : List Instr} (h : Forms r c n q) : Forms [] c n q := ⟨.nil, h.2⟩

theorem forms_cells_nil {r : Sparse Nat} {c n : List Host.Cell} {q : List Instr} (h : Forms r c n q) : Forms r [] n q :=
  ⟨h.1, ⟨.nil, by simp⟩, h.2.2⟩

theorem forms_regs_filter {r : Sparse Nat} {c n : List Host.Cell} {q : List Instr} {p : Nat × Nat → Bool} (h : Forms r c n q) :
    Forms (r.filter p) c n q := ⟨sRising_filter _ h.1, h.2⟩

theorem forms_cells_filter {r : Sparse Nat} {c n : List Host.Cell} {q : List Instr} {p : Host.Cell → Bool} (h : Forms r c n q) :
    Forms r (c.filter p) n q := ⟨h.1, sWf_filter _ h.2.1, h.2.2⟩

theorem inv_fst {α : Type} {p : State × α} {t : State} {r : α} (h : p = (t, r)) (hp : p.1.Inv) : t.Inv := by
  rw [h] at hp
  exact hp

theorem inv_ite {c : Prop} [Decidable c] {a b : State} (ha : a.Inv) (hb : b.Inv) : (if c then a else b).Inv := by
  split <;> assumption

theorem inv_foldl {α : Type} {f : State → α → State} {l : List α} {s : State} (h : s.Inv)
    (hf : ∀ s a, s.Inv → (f s a).Inv) : (l.foldl f s).Inv := by
  induction l generalizing s with
  | nil => exact h
  | cons a t ih => exact ih (hf _ _ h)

theorem inv_set {s : State} {f : Fld} {v : Nat} (h : s.Inv) : (s.set f v).Inv := ⟨sRising_sPut _ _ _ h.1, h.2⟩

theorem inv_putByte {s : State} {a : Nat} {v : Byte} (h : s.Inv) : (s.putByte a v).Inv := by
  unfold State.putByte
  split
  · exact ⟨h.1, sWf_sPut _ _ h.2.1, h.2.2⟩
  · exact h

theorem inv_inc {s : State} {f : Fld} (hs : s.Inv) :
    (State.inc s f).Inv := by
  unfold State.inc
  repeat' (first | with_reducible exact hs | with_reducible apply inv_set)

theorem inv_addTo {s : State} {f : Fld} {n : Nat} (hs : s.Inv) :
    (State.addTo s f n).Inv := by
  unfold State.addTo
  repeat' (first | with_reducible exact hs | with_reducible apply inv_set)

theorem inv_setBit {s : State} {f : Fld} {k : Nat} {v : Bool} (hs : s.Inv) :
    (State.setBit s f k v).Inv := by
  unfold State.setBit
  repeat' (first | with_reducible exact hs | with_reducible apply inv_set)

theorem inv_setS {s : State} {f : Fld} {i : Int} (hs : s.Inv) :
    (State.setS s f i).Inv := by
  unfold State.setS
  repeat' (first | with_reducible exact hs | with_reducible apply inv_set)

theorem inv_setAll {s : State} {l : List (Fld × Nat)} (hs : s.Inv) :
    (State.setAll s l).Inv := by
  unfold State.setAll
  repeat' (first | intro _ | with_reducible exact hs | with_reducible assumption | with_reducible apply inv_foldl
                 | with_reducible apply inv_set)

theorem inv_clear {s : State} {l : List Fld} (hs : s.Inv) :
    (State.clear s l).Inv := by
  unfold State.clear
  repeat' (first | intro _ | with_reducible exact hs | with_reducible assumption | with_reducible apply inv_foldl
                 | with_reducible apply inv_set)

theorem inv_emit {s : State} {o : Out} (hs : s.Inv) :
    (State.emit s o).Inv := by
  unfold State.emit
  repeat' (first | with_reducible exact hs | with_reducible apply forms_of_inv | simp only [↓inv_mk])

theorem inv_putWord {s : State} {a w : Nat} {p : Fld → Bool} (hs : s.Inv) :
    (State.putWord s a w p).Inv := by
  unfold State.putWord
  repeat' (first | intro _ | with_reducible exact hs | with_reducible assumption | with_reducible apply inv_foldl
                 | with_reducible apply inv_set)

theorem inv_putDram {n a v : Nat} {s : State} (hs : s.Inv) : (s.putDram a n v).Inv := by
  induction n generalizing s a v with
  | zero => exact hs
  | succ n ih => exact ih (inv_putByte hs)

theorem inv_putBytes {l : List Byte} {a : Nat} {s : State} (hs : s.Inv) : (s.putBytes a l).Inv := by
  induction l generalizing s a with
  | nil => exact hs
  | cons b t ih => exact ih (inv_putByte hs)

theorem inv_putWords {l : List Nat} {a : Nat} {s : State} (hs : s.Inv) : (s.putWords a l).Inv := by
  induction l generalizing s a with
  | nil => exact hs
  | cons b t ih => exact ih (inv_putDram hs)

theorem inv_ldgRefresh {s : State} (hs : s.Inv) :
    (State.ldgRefresh s).Inv := by
  unfold State.ldgRefresh
  repeat' (first | intro _ | with_reducible exact hs | with_reducible assumption | with_reducible apply inv_set
                 | with_reducible apply inv_stage)

theorem inv_ldgPut {s : State} {t type : Nat} {payload : List Nat} (hs : s.Inv) :
    (State.ldgPut s t type payload).Inv := by
  unfold State.ldgPut
  repeat' (first | with_reducible exact hs | with_reducible apply inv_ldgRefresh | with_reducible apply inv_set
                 | with_reducible apply inv_stage | with_reducible apply forms_of_inv | simp only [↓inv_mk])

theorem inv_ldgCommit {s : State} {type : Nat} {payload : List Nat} (hs : s.Inv) :
    (State.ldgCommit s type payload).1.Inv := by
  unfold State.ldgCommit
  repeat' (first | with_reducible exact hs | with_reducible apply inv_ite | with_reducible apply inv_inc
                 | with_reducible apply inv_ldgPut | with_reducible apply forms_of_inv | with_reducible apply inv_fst ‹_ = (_, _)›
                 | simp only [↓inv_mk] | split | (dsimp only; split))

theorem inv_ledger {s : State} {type : Nat} {payload : List Nat} (hs : s.Inv) :
    (State.ledger s type payload).Inv := by
  unfold State.ledger
  repeat' (first | with_reducible exact hs | with_reducible apply inv_ldgCommit)

theorem inv_ldgFreeze {s : State} {trigger : Nat} (hs : s.Inv) :
    (State.ldgFreeze s trigger).Inv := by
  unfold State.ldgFreeze
  repeat' (first | intro _ | with_reducible exact hs | with_reducible assumption | with_reducible apply inv_ite
                 | with_reducible apply inv_ldgRefresh | with_reducible apply inv_stage | with_reducible apply forms_of_inv
                 | simp only [↓inv_mk] | split | (dsimp only; split))

theorem inv_ldgUnfreeze {s : State} (hs : s.Inv) :
    (State.ldgUnfreeze s).Inv := by
  unfold State.ldgUnfreeze
  repeat' (first | intro _ | with_reducible exact hs | with_reducible assumption | with_reducible apply inv_ite
                 | with_reducible apply inv_ldgRefresh | with_reducible apply inv_stage | with_reducible apply forms_of_inv
                 | simp only [↓inv_mk] | split | (dsimp only; split))

theorem inv_ldgDrain {s : State} {dhead : Nat} (hs : s.Inv) :
    (State.ldgDrain s dhead).Inv := by
  unfold State.ldgDrain
  repeat' (first | intro _ | with_reducible exact hs | with_reducible assumption | with_reducible apply inv_ldgRefresh
                 | with_reducible apply inv_set | with_reducible apply inv_stage | with_reducible apply forms_of_inv
                 | simp only [↓inv_mk])

theorem inv_ldgSaveFrozen {s : State} (hs : s.Inv) :
    (State.ldgSaveFrozen s).Inv := by
  unfold State.ldgSaveFrozen
  repeat' (first | intro _ | with_reducible exact hs | with_reducible assumption | with_reducible apply inv_foldl
                 | with_reducible apply inv_ldgUnfreeze | with_reducible apply inv_ledger | with_reducible apply inv_stage
                 | with_reducible apply forms_of_inv | with_reducible apply inv_fst ‹_ = (_, _)› | simp only [↓inv_mk] | split
                 | (dsimp only; split))

theorem inv_deskRefresh {s : State} (hs : s.Inv) :
    (State.deskRefresh s).Inv := by
  unfold State.deskRefresh
  repeat' (first | with_reducible exact hs | with_reducible apply inv_ite | with_reducible apply inv_set | split | (dsimp only; split))

theorem inv_relieve {s : State} {n : Nat} (hs : s.Inv) :
    (State.relieve s n).Inv := by
  unfold State.relieve
  repeat' (first | intro _ | with_reducible exact hs | with_reducible assumption | with_reducible apply inv_ledger
                 | with_reducible apply inv_set | with_reducible apply inv_setBit | with_reducible apply forms_of_inv
                 | with_reducible apply inv_fst ‹_ = (_, _)› | simp only [↓inv_mk] | split | (dsimp only; split))

theorem inv_keepAliveLonger {s : State} (hs : s.Inv) :
    (State.keepAliveLonger s).Inv := by
  unfold State.keepAliveLonger
  repeat' (first | intro _ | with_reducible exact hs | with_reducible assumption | with_reducible apply forms_of_inv
                 | simp only [↓inv_mk])

theorem inv_deliver {s : State} {p : Nat} (hs : s.Inv) :
    (State.deliver s p).Inv := by
  unfold State.deliver
  repeat' (first | with_reducible exact hs | with_reducible apply inv_ite | with_reducible apply inv_deskRefresh
                 | with_reducible apply inv_emit | with_reducible apply inv_keepAliveLonger | with_reducible apply inv_relieve
                 | with_reducible apply forms_of_inv | with_reducible apply inv_fst ‹_ = (_, _)› | simp only [↓inv_mk] | split
                 | (dsimp only; split))

theorem inv_deskCount {s : State} {r : Report} (hs : s.Inv) :
    (State.deskCount s r).Inv := by
  unfold State.deskCount
  repeat' (first | with_reducible exact hs | with_reducible apply inv_ite | with_reducible apply inv_inc
                 | with_reducible apply forms_of_inv | with_reducible apply inv_fst ‹_ = (_, _)› | simp only [↓inv_mk] | split
                 | (dsimp only; split))

theorem inv_record {s : State} {p : Nat} {r : Report} {st : Nat} (hs : s.Inv) :
    (State.record s p r st).Inv := by
  unfold State.record
  repeat' (first | with_reducible exact hs | with_reducible apply inv_ldgCommit | with_reducible apply forms_of_inv
                 | simp only [↓inv_mk])

theorem inv_stopInj {s : State} {n : Fin 4} (hs : s.Inv) :
    (State.stopInj s n).Inv := by
  unfold State.stopInj
  repeat' (first | with_reducible exact hs | with_reducible apply inv_ite | with_reducible apply inv_set | split | (dsimp only; split))

theorem inv_stopAllInj {s : State} (hs : s.Inv) :
    (State.stopAllInj s).Inv := by
  unfold State.stopAllInj
  repeat' (first | intro _ | with_reducible exact hs | with_reducible assumption | with_reducible apply inv_foldl
                 | with_reducible apply inv_stopInj)

theorem inv_stopInjIn {s : State} {dom : Nat} (hs : s.Inv) :
    (State.stopInjIn s dom).Inv := by
  unfold State.stopInjIn
  repeat' (first | intro _ | with_reducible exact hs | with_reducible assumption | with_reducible apply inv_ite
                 | with_reducible apply inv_foldl | with_reducible apply inv_stopInj | split | (dsimp only; split))

theorem inv_capture {s : State} {r : Report} (hs : s.Inv) :
    (State.capture s r).Inv := by
  unfold State.capture
  repeat' (first | with_reducible exact hs | with_reducible apply inv_ite | with_reducible apply inv_deliver
                 | with_reducible apply inv_deskCount | with_reducible apply inv_deskRefresh | with_reducible apply inv_inc
                 | with_reducible apply inv_record | with_reducible apply inv_set | with_reducible apply inv_stopInjIn
                 | with_reducible apply forms_of_inv | simp only [↓inv_mk] | split | (dsimp only; split))

theorem inv_asInjected {s : State} {f : State → State} (hs : s.Inv) (hf : ∀ s, s.Inv → (f s).Inv) :
    (State.asInjected s f).Inv := by
  unfold State.asInjected
  repeat' (first | intro _ | with_reducible exact hs | with_reducible assumption | with_reducible apply hf
                 | with_reducible apply forms_of_inv | simp only [↓inv_mk])

theorem inv_graveRecord {s : State} {r : Report} {thermal : Bool} (hs : s.Inv) :
    (State.graveRecord s r thermal).Inv := by
  unfold State.graveRecord
  repeat' (first | with_reducible exact hs | with_reducible apply inv_deskCount | with_reducible apply inv_deskRefresh
                 | with_reducible apply inv_record | with_reducible apply inv_set | with_reducible apply inv_stopAllInj
                 | with_reducible apply forms_of_inv | simp only [↓inv_mk])

theorem inv_graveCapture {s : State} {source code addr info : Nat} {thermal : Bool} (hs : s.Inv) :
    (State.graveCapture s source code addr info thermal).1.Inv := by
  unfold State.graveCapture
  repeat' (first | with_reducible exact hs | with_reducible apply inv_ite | with_reducible apply inv_capture
                 | with_reducible apply inv_graveRecord | with_reducible apply inv_ldgFreeze | with_reducible apply forms_of_inv
                 | simp only [↓inv_mk] | split | (dsimp only; split))

theorem inv_closeRec {s : State} {p st level : Nat} (hs : s.Inv) :
    (State.closeRec s p st level).Inv := by
  unfold State.closeRec
  repeat' (first | with_reducible exact hs | with_reducible apply inv_ledger | with_reducible apply forms_of_inv | simp only [↓inv_mk]
                 | split | (dsimp only; split))

theorem inv_releaseNext {s : State} (hs : s.Inv) :
    (State.releaseNext s).Inv := by
  unfold State.releaseNext
  repeat' (first | with_reducible exact hs | with_reducible apply inv_deliver | with_reducible apply inv_deskRefresh
                 | with_reducible apply forms_of_inv | simp only [↓inv_mk] | split | (dsimp only; split))

theorem inv_event {s : State} {source code addr info : Nat} (hs : s.Inv) :
    (State.event s source code addr info).Inv := by
  unfold State.event
  repeat' (first | with_reducible exact hs | with_reducible apply inv_capture)

theorem inv_fault {s : State} {level source code addr info : Nat} (hs : s.Inv) :
    (State.fault s level source code addr info).Inv := by
  unfold State.fault
  repeat' (first | with_reducible exact hs | with_reducible apply inv_capture)

theorem inv_busError {s : State} {i : Initiator} {a : Nat} (hs : s.Inv) :
    (State.busError s i a).Inv := by
  unfold State.busError
  repeat' (first | with_reducible exact hs | with_reducible apply inv_event | with_reducible apply forms_of_inv | simp only [↓inv_mk])

theorem inv_ignored {s : State} {i : Initiator} {a : Nat} (hs : s.Inv) :
    (State.ignored s i a).Inv := by
  unfold State.ignored
  repeat' (first | with_reducible exact hs | with_reducible apply inv_event | with_reducible apply forms_of_inv | simp only [↓inv_mk])

theorem inv_access {s : State} {i : Initiator} {a size : Nat} {f : State → State} (hs : s.Inv) (hf : ∀ s, s.Inv → (f s).Inv) :
    (State.access s i a size f).Inv := by
  unfold State.access
  repeat' (first | intro _ | with_reducible exact hs | with_reducible assumption | with_reducible apply inv_ite
                 | with_reducible apply inv_busError | with_reducible apply hf | with_reducible apply forms_of_inv
                 | simp only [↓inv_mk] | split | (dsimp only; split))

theorem inv_putMail {s : State} {l : Nat} {m : Mailbox} (hs : s.Inv) :
    (State.putMail s l m).Inv := by
  unfold State.putMail
  repeat' (first | with_reducible exact hs | with_reducible apply forms_of_inv | simp only [↓inv_mk])

theorem inv_discard {s : State} {l : Nat} (hs : s.Inv) :
    (State.discard s l).Inv := by
  unfold State.discard
  repeat' (first | with_reducible exact hs | with_reducible apply inv_ite | with_reducible apply inv_putMail
                 | with_reducible apply forms_of_inv | simp only [↓inv_mk] | split | (dsimp only; split))

theorem inv_closeLevel3 {s : State} {l : Nat} (hs : s.Inv) :
    (State.closeLevel3 s l).Inv := by
  unfold State.closeLevel3
  repeat' (first | intro _ | with_reducible exact hs | with_reducible assumption | with_reducible apply inv_closeRec
                 | with_reducible apply forms_of_inv | simp only [↓inv_mk] | split | (dsimp only; split))

theorem inv_reply {s : State} {l tag type : Nat} {ws : List Nat} (hs : s.Inv) :
    (State.reply s l tag type ws).Inv := by
  unfold State.reply
  repeat' (first | intro _ | with_reducible exact hs | with_reducible assumption | with_reducible apply inv_ite
                 | with_reducible apply inv_foldl | with_reducible apply inv_closeLevel3 | with_reducible apply inv_event
                 | with_reducible apply inv_inc | with_reducible apply inv_set | with_reducible apply inv_setBit | split
                 | (dsimp only; split))

theorem inv_putPortOut {s : State} {p v : Nat} (hs : s.Inv) :
    (State.putPortOut s p v).Inv := by
  unfold State.putPortOut
  repeat' (first | with_reducible exact hs | with_reducible apply forms_of_inv | simp only [↓inv_mk])

theorem inv_latch {s : State} {p v : Nat} (hs : s.Inv) :
    (State.latch s p v).Inv := by
  unfold State.latch
  repeat' (first | with_reducible exact hs | with_reducible apply inv_ite | with_reducible apply forms_of_inv | simp only [↓inv_mk]
                 | split | (dsimp only; split))

theorem inv_putLp {s : State} {x : Act} {l : Loop} (hs : s.Inv) :
    (State.putLp s x l).Inv := by
  unfold State.putLp
  repeat' (first | with_reducible exact hs | with_reducible apply forms_of_inv | simp only [↓inv_mk])

theorem inv_armWrite {s : State} {x : Act} {k v : Nat} (hs : s.Inv) :
    (State.armWrite s x k v).Inv := by
  unfold State.armWrite
  repeat' (first | with_reducible exact hs | with_reducible apply inv_ite | with_reducible apply inv_putLp
                 | with_reducible apply inv_putPortOut | with_reducible apply forms_of_inv | with_reducible apply inv_fst ‹_ = (_, _)›
                 | simp only [↓inv_mk] | split | (dsimp only; split))

theorem inv_spnWrite {s : State} {tickNs k v : Nat} (hs : s.Inv) :
    (State.spnWrite s tickNs k v).Inv := by
  unfold State.spnWrite
  repeat' (first | with_reducible exact hs | with_reducible apply inv_ite | with_reducible apply inv_inc
                 | with_reducible apply inv_putPortOut | with_reducible apply forms_of_inv | simp only [↓inv_mk] | split
                 | (dsimp only; split))

theorem inv_setInv {s : State} {m : Nat} (hs : s.Inv) :
    (State.setInv s m).Inv := by
  unfold State.setInv
  repeat' (first | with_reducible exact hs | with_reducible apply inv_putPortOut | with_reducible apply forms_of_inv
                 | simp only [↓inv_mk])

theorem inv_noteSelection {s : State} {x : Act} {head : Nat} (hs : s.Inv) :
    (State.noteSelection s x head).Inv := by
  unfold State.noteSelection
  repeat' (first | with_reducible exact hs | with_reducible apply inv_ite | with_reducible apply forms_of_inv | simp only [↓inv_mk]
                 | split | (dsimp only; split))

theorem inv_headFrame {s : State} {x : Act} {head : Nat} (hs : s.Inv) :
    (State.headFrame s x head).Inv := by
  unfold State.headFrame
  repeat' (first | with_reducible exact hs | with_reducible apply inv_ite | with_reducible apply inv_emit | split | (dsimp only; split))

theorem inv_selectTarget {s : State} {x : Act} {head track : Nat} (hs : s.Inv) :
    (State.selectTarget s x head track).Inv := by
  unfold State.selectTarget
  repeat' (first | with_reducible exact hs | with_reducible apply inv_headFrame | with_reducible apply inv_noteSelection
                 | with_reducible apply inv_putLp | with_reducible apply inv_set | with_reducible apply forms_of_inv
                 | simp only [↓inv_mk])

theorem inv_portWrite {s : State} {tickNs p v : Nat} (hs : s.Inv) :
    (State.portWrite s tickNs p v).Inv := by
  unfold State.portWrite
  repeat' (first | with_reducible exact hs | with_reducible apply inv_ite | with_reducible apply inv_armWrite
                 | with_reducible apply inv_putLp | with_reducible apply inv_putPortOut | with_reducible apply inv_selectTarget
                 | with_reducible apply inv_set | with_reducible apply inv_spnWrite | with_reducible apply forms_of_inv
                 | with_reducible apply inv_fst ‹_ = (_, _)› | simp only [↓inv_mk] | split | (dsimp only; split))

theorem inv_injWrite {s : State} {target a n : Nat} (hs : s.Inv) :
    (State.injWrite s target a n).Inv := by
  unfold State.injWrite
  repeat' (first | intro _ | with_reducible exact hs | with_reducible assumption | with_reducible apply inv_ite
                 | with_reducible apply inv_set | with_reducible apply forms_of_inv | simp only [↓inv_mk] | split
                 | (dsimp only; split))

theorem inv_sramRead {s : State} {target a n source : Nat} (hs : s.Inv) :
    (State.sramRead s target a n source).Inv := by
  unfold State.sramRead
  repeat' (first | intro _ | with_reducible exact hs | with_reducible assumption | with_reducible apply inv_ite
                 | with_reducible apply inv_foldl | with_reducible apply inv_capture | with_reducible apply forms_of_inv
                 | simp only [↓inv_mk] | split | (dsimp only; split))

theorem inv_putCtx {s : State} {n : Nat} {c : Ctx} (hs : s.Inv) :
    (State.putCtx s n c).Inv := by
  unfold State.putCtx
  repeat' (first | with_reducible exact hs | with_reducible apply inv_clear | with_reducible apply forms_of_inv | simp only [↓inv_mk])


theorem inv_ready {s : State} {n : Nat} (hs : s.Inv) :
    (State.ready s n).Inv := by
  unfold State.ready
  repeat' (first | with_reducible exact hs | with_reducible apply inv_ite | with_reducible apply inv_putCtx
                 | with_reducible apply inv_store | with_reducible apply forms_of_inv | simp only [↓inv_mk] | split
                 | (dsimp only; split))

theorem inv_schedule {s : State} (hs : s.Inv) :
    (State.schedule s).Inv := by
  unfold State.schedule
  repeat' (first | with_reducible exact hs | with_reducible apply inv_ite | with_reducible apply inv_ready
                 | with_reducible apply forms_of_inv | simp only [↓inv_mk] | split | (dsimp only; split))

theorem inv_scheduleIdle {s : State} (hs : s.Inv) :
    (State.scheduleIdle s).Inv := by
  unfold State.scheduleIdle
  repeat' (first | with_reducible exact hs | with_reducible apply inv_ite | with_reducible apply inv_schedule | split
                 | (dsimp only; split))

theorem inv_commitX {s : State} (hs : s.Inv) :
    (State.commitX s).Inv := by
  unfold State.commitX
  repeat' (first | intro _ | with_reducible exact hs | with_reducible assumption | with_reducible apply inv_foldl
                 | with_reducible apply inv_set | with_reducible apply forms_of_inv | simp only [↓inv_mk])

theorem inv_noteCycles {s : State} {n : Nat} (hs : s.Inv) :
    (State.noteCycles s n).Inv := by
  unfold State.noteCycles
  repeat' (first | with_reducible exact hs | with_reducible apply inv_set)

theorem inv_sliceClean {s : State} {n : Nat} (hs : s.Inv) :
    (State.sliceClean s n).Inv := by
  unfold State.sliceClean
  repeat' (first | intro _ | with_reducible exact hs | with_reducible assumption | with_reducible apply inv_closeRec
                 | with_reducible apply forms_of_inv | simp only [↓inv_mk] | split | (dsimp only; split))

theorem inv_sliceFail {s : State} {n code : Nat} (hs : s.Inv) :
    (State.sliceFail s n code).Inv := by
  unfold State.sliceFail
  repeat' (first | intro _ | with_reducible exact hs | with_reducible assumption | with_reducible apply inv_ite
                 | with_reducible apply inv_capture | with_reducible apply inv_closeRec | with_reducible apply forms_of_inv
                 | simp only [↓inv_mk] | split | (dsimp only; split))

theorem inv_leave {s : State} (hs : s.Inv) :
    (State.leave s).Inv := by
  unfold State.leave
  repeat' (first | with_reducible exact hs | with_reducible apply inv_schedule | with_reducible apply forms_of_inv
                 | simp only [↓inv_mk])

theorem inv_setOverrun {s : State} {n : Nat} (hs : s.Inv) :
    (State.setOverrun s n).Inv := by
  unfold State.setOverrun
  repeat' (first | with_reducible exact hs | with_reducible apply inv_ite | with_reducible apply inv_set
                 | with_reducible apply inv_setBit | split | (dsimp only; split))

theorem inv_trap {s : State} {n code : Nat} (hs : s.Inv) :
    (State.trap s n code).Inv := by
  unfold State.trap
  repeat' (first | with_reducible exact hs | with_reducible apply inv_commitX | with_reducible apply inv_leave
                 | with_reducible apply inv_noteCycles | with_reducible apply inv_putCtx | with_reducible apply inv_setAll
                 | with_reducible apply inv_sliceFail | with_reducible apply forms_of_inv | simp only [↓inv_mk])

theorem inv_sliceEnd {s : State} {n : Nat} (hs : s.Inv) :
    (State.sliceEnd s n).Inv := by
  unfold State.sliceEnd
  repeat' (first | with_reducible exact hs | with_reducible apply inv_noteCycles | with_reducible apply inv_putCtx
                 | with_reducible apply inv_ready | with_reducible apply inv_schedule | with_reducible apply inv_sliceClean
                 | with_reducible apply forms_of_inv | with_reducible apply inv_fst ‹_ = (_, _)› | simp only [↓inv_mk] | split
                 | (dsimp only; split))

theorem inv_writeDest {s : State} {n d v : Nat} (hs : s.Inv) :
    (State.writeDest s n d v).Inv := by
  unfold State.writeDest
  repeat' (first | with_reducible exact hs | with_reducible apply inv_ite | with_reducible apply inv_putCtx
                 | with_reducible apply forms_of_inv | simp only [↓inv_mk] | split | (dsimp only; split))

theorem inv_noteInjUse {s : State} {ch n : Nat} (hs : s.Inv) :
    (State.noteInjUse s ch n).Inv := by
  unfold State.noteInjUse
  repeat' (first | with_reducible exact hs | with_reducible apply inv_ite | with_reducible apply forms_of_inv | simp only [↓inv_mk]
                 | split | (dsimp only; split))

theorem inv_aluWrite {s : State} {n : Nat} {w : MW} {a b old : Nat} (hs : s.Inv) :
    (State.aluWrite s n w a b old).Inv := by
  unfold State.aluWrite
  repeat' (first | with_reducible exact hs | with_reducible apply inv_ite | with_reducible apply inv_event
                 | with_reducible apply inv_noteInjUse | with_reducible apply inv_putCtx | with_reducible apply inv_setBit
                 | with_reducible apply inv_writeDest | with_reducible apply forms_of_inv | simp only [↓inv_mk] | split
                 | (dsimp only; split))

theorem inv_macWrite {s : State} {n : Nat} {w : MW} {x y : Nat} (hs : s.Inv) :
    (State.macWrite s n w x y).Inv := by
  unfold State.macWrite
  repeat' (first | with_reducible exact hs | with_reducible apply inv_ite | with_reducible apply inv_putCtx
                 | with_reducible apply forms_of_inv | simp only [↓inv_mk] | split | (dsimp only; split))

theorem inv_memWrite {s : State} {n : Nat} {w : MW} {a src : Nat} (hs : s.Inv) :
    (State.memWrite s n w a src).Inv := by
  unfold State.memWrite
  repeat' (first | with_reducible exact hs | with_reducible apply inv_ite | with_reducible apply inv_injWrite
                 | with_reducible apply inv_putCtx | with_reducible apply inv_sramRead | with_reducible apply forms_of_inv
                 | with_reducible apply inv_fst ‹_ = (_, _)› | simp only [↓inv_mk] | split | (dsimp only; split))

theorem inv_ioWrite {s : State} {n : Nat} {w : MW} {src : Nat} (hs : s.Inv) :
    (State.ioWrite s n w src).Inv := by
  unfold State.ioWrite
  repeat' (first | with_reducible exact hs | with_reducible apply inv_ite | with_reducible apply inv_discard
                 | with_reducible apply inv_portWrite | with_reducible apply inv_putMail | with_reducible apply inv_reply
                 | with_reducible apply forms_of_inv | with_reducible apply inv_fst ‹_ = (_, _)› | simp only [↓inv_mk] | split
                 | (dsimp only; split))

theorem inv_capWrite {s : State} {w : MW} {v : Nat} (hs : s.Inv) :
    (State.capWrite s w v).Inv := by
  unfold State.capWrite
  repeat' (first | with_reducible exact hs | with_reducible apply inv_ite | with_reducible apply forms_of_inv | simp only [↓inv_mk]
                 | split | (dsimp only; split))

theorem inv_sequence {s : State} {n : Nat} {w : MW} {cond : Bool} {a : Nat} (hs : s.Inv) :
    (State.sequence s n w cond a).Inv := by
  unfold State.sequence
  repeat' (first | with_reducible exact hs | with_reducible apply inv_ite | with_reducible apply inv_putCtx
                 | with_reducible apply forms_of_inv | simp only [↓inv_mk] | split | (dsimp only; split))

theorem inv_cycleEnd {s : State} {n : Nat} {w : MW} {done : Bool} (hs : s.Inv) :
    (State.cycleEnd s n w done).Inv := by
  unfold State.cycleEnd
  repeat' (first | with_reducible exact hs | with_reducible apply inv_ite | with_reducible apply inv_commitX
                 | with_reducible apply inv_schedule | with_reducible apply inv_sliceEnd | with_reducible apply forms_of_inv
                 | simp only [↓inv_mk] | split | (dsimp only; split))

theorem inv_noteRow {s : State} {r : Nat × Nat} (hs : s.Inv) :
    (State.noteRow s r).Inv := by
  unfold State.noteRow
  repeat' (first | with_reducible exact hs | with_reducible apply inv_ite | with_reducible apply forms_of_inv | simp only [↓inv_mk]
                 | split | (dsimp only; split))

theorem inv_noteCorrected {s : State} {pc : Nat} (hs : s.Inv) :
    (State.noteCorrected s pc).Inv := by
  unfold State.noteCorrected
  repeat' (first | with_reducible exact hs | with_reducible apply inv_inc | with_reducible apply inv_noteRow
                 | with_reducible apply inv_set)

theorem inv_execWord {s : State} {n : Nat} {w : MW} {dmBad : Bool} (hs : s.Inv) :
    (State.execWord s n w dmBad).Inv := by
  unfold State.execWord
  repeat' (first | intro _ | with_reducible exact hs | with_reducible assumption | with_reducible apply inv_ite
                 | with_reducible apply inv_aluWrite | with_reducible apply inv_asInjected | with_reducible apply inv_capWrite
                 | with_reducible apply inv_cycleEnd | with_reducible apply inv_ioWrite | with_reducible apply inv_macWrite
                 | with_reducible apply inv_memWrite | with_reducible apply inv_sequence | with_reducible apply inv_trap
                 | with_reducible apply forms_of_inv | with_reducible apply inv_fst ‹_ = (_, _)› | simp only [↓inv_mk] | split
                 | (dsimp only; split))

theorem inv_micro {s : State} {fetch dm : Ecc} {isOp : MW → Bool} (hs : s.Inv) :
    (State.micro s fetch dm isOp).Inv := by
  unfold State.micro
  repeat' (first | intro _ | with_reducible exact hs | with_reducible assumption | with_reducible apply inv_ite
                 | with_reducible apply inv_execWord | with_reducible apply inv_noteCorrected | with_reducible apply inv_schedule
                 | with_reducible apply inv_store | with_reducible apply inv_trap | with_reducible apply forms_of_inv
                 | with_reducible apply inv_fst ‹_ = (_, _)› | simp only [↓inv_mk] | split | (dsimp only; split))



theorem inv_saveDev {s : State} {f : DevRecord → DevRecord} (hs : s.Inv) :
    (State.saveDev s f).Inv := by
  unfold State.saveDev
  repeat' (first | intro _ | with_reducible exact hs | with_reducible assumption | with_reducible apply forms_of_inv
                 | simp only [↓inv_mk])

theorem inv_writeDev {s : State} {r : DevRecord} (hs : s.Inv) :
    (State.writeDev s r).Inv := by
  unfold State.writeDev
  repeat' (first | with_reducible exact hs | with_reducible apply inv_ite | with_reducible apply forms_of_inv | simp only [↓inv_mk]
                 | split | (dsimp only; split))

theorem inv_changeDev {s : State} {f : DevRecord → DevRecord} (hs : s.Inv) :
    (State.changeDev s f).Inv := by
  unfold State.changeDev
  repeat' (first | intro _ | with_reducible exact hs | with_reducible assumption | with_reducible apply inv_ite
                 | with_reducible apply inv_saveDev | with_reducible apply inv_writeDev | with_reducible apply forms_of_inv
                 | simp only [↓inv_mk] | split | (dsimp only; split))

theorem inv_injEnd {s : State} {n : Nat} (hs : s.Inv) :
    (State.injEnd s n).Inv := by
  unfold State.injEnd
  repeat' (first | with_reducible exact hs | with_reducible apply inv_set)

theorem inv_injTick {s : State} {n : Nat} (hs : s.Inv) :
    (State.injTick s n).Inv := by
  unfold State.injTick
  repeat' (first | with_reducible exact hs | with_reducible apply inv_ite | with_reducible apply inv_injEnd
                 | with_reducible apply inv_set | split | (dsimp only; split))

theorem inv_capEnd {s : State} {n : Nat} (hs : s.Inv) :
    (State.capEnd s n).Inv := by
  unfold State.capEnd
  repeat' (first | with_reducible exact hs | with_reducible apply inv_ite | with_reducible apply inv_set
                 | with_reducible apply forms_of_inv | simp only [↓inv_mk] | split | (dsimp only; split))

theorem inv_capSlot {s : State} {n : Nat} (hs : s.Inv) :
    (State.capSlot s n).Inv := by
  unfold State.capSlot
  repeat' (first | with_reducible exact hs | with_reducible apply inv_set | with_reducible apply forms_of_inv | simp only [↓inv_mk])

theorem inv_capTick {s : State} {n : Nat} (hs : s.Inv) :
    (State.capTick s n).Inv := by
  unfold State.capTick
  repeat' (first | with_reducible exact hs | with_reducible apply inv_ite | with_reducible apply inv_capEnd
                 | with_reducible apply inv_capSlot | with_reducible apply inv_setAll | with_reducible apply forms_of_inv
                 | simp only [↓inv_mk] | split | (dsimp only; split))

theorem inv_runTick {s : State} (hs : s.Inv) :
    (State.runTick s).Inv := by
  unfold State.runTick
  repeat' (first | intro _ | with_reducible exact hs | with_reducible assumption | with_reducible apply inv_foldl
                 | with_reducible apply inv_set | with_reducible apply forms_of_inv | simp only [↓inv_mk] | split
                 | (dsimp only; split))

theorem inv_engineTick {s : State} (hs : s.Inv) :
    (State.engineTick s).Inv := by
  unfold State.engineTick
  repeat' (first | intro _ | with_reducible exact hs | with_reducible assumption | with_reducible apply inv_ite
                 | with_reducible apply inv_foldl | with_reducible apply inv_capTick | with_reducible apply inv_injTick
                 | with_reducible apply inv_ready | with_reducible apply inv_runTick | with_reducible apply inv_scheduleIdle
                 | with_reducible apply inv_set | with_reducible apply forms_of_inv | simp only [↓inv_mk] | split
                 | (dsimp only; split))

theorem inv_takeUp {s : State} {l : Nat} {boundaryNs : Nat} (hs : s.Inv) :
    (State.takeUp s l boundaryNs).Inv := by
  unfold State.takeUp
  repeat' (first | intro _ | with_reducible exact hs | with_reducible assumption | with_reducible apply inv_putMail
                 | with_reducible apply forms_of_inv | simp only [↓inv_mk])

theorem inv_setEnergised {s : State} {b v : Bool} (hs : s.Inv) :
    (State.setEnergised s b v).Inv := by
  unfold State.setEnergised
  repeat' (first | with_reducible exact hs | with_reducible apply inv_ite | with_reducible apply forms_of_inv | simp only [↓inv_mk]
                 | split | (dsimp only; split))

theorem inv_pmkRefresh {s : State} (hs : s.Inv) :
    (State.pmkRefresh s).Inv := by
  unfold State.pmkRefresh
  repeat' (first | with_reducible exact hs | with_reducible apply inv_ite | with_reducible apply inv_set | split | (dsimp only; split))

theorem inv_setStream {s : State} {n : Nat} {v : Bool} (hs : s.Inv) :
    (State.setStream s n v).Inv := by
  unfold State.setStream
  repeat' (first | with_reducible exact hs | with_reducible apply inv_setBit | with_reducible apply forms_of_inv
                 | with_reducible apply inv_fst ‹_ = (_, _)› | simp only [↓inv_mk] | split | (dsimp only; split))

theorem inv_trackTick {s : State} {phases : List Nat} {ns : Nat} (hs : s.Inv) :
    (State.trackTick s phases ns).Inv := by
  unfold State.trackTick
  repeat' (first | intro _ | with_reducible exact hs | with_reducible assumption | with_reducible apply inv_ite
                 | with_reducible apply inv_foldl | with_reducible apply inv_setBit | with_reducible apply forms_of_inv
                 | simp only [↓inv_mk] | split | (dsimp only; split))

theorem inv_allLost {s : State} (hs : s.Inv) :
    (State.allLost s).Inv := by
  unfold State.allLost
  repeat' (first | with_reducible exact hs | with_reducible apply inv_ite | with_reducible apply inv_set
                 | with_reducible apply inv_setAll | with_reducible apply forms_of_inv | simp only [↓inv_mk] | split
                 | (dsimp only; split))

theorem inv_dropStream {s : State} {n : Nat} (hs : s.Inv) :
    (State.dropStream s n).Inv := by
  unfold State.dropStream
  repeat' (first | with_reducible exact hs | with_reducible apply inv_ite | with_reducible apply inv_allLost
                 | with_reducible apply inv_event | with_reducible apply inv_inc | with_reducible apply inv_pmkRefresh
                 | with_reducible apply inv_set | with_reducible apply inv_setBit | with_reducible apply inv_setStream
                 | with_reducible apply forms_of_inv | with_reducible apply inv_fst ‹_ = (_, _)› | simp only [↓inv_mk] | split
                 | (dsimp only; split))

theorem inv_dropStreams {s : State} {l : List Nat} (hs : s.Inv) :
    (State.dropStreams s l).Inv := by
  unfold State.dropStreams
  repeat' (first | intro _ | with_reducible exact hs | with_reducible assumption | with_reducible apply inv_foldl
                 | with_reducible apply inv_dropStream)

theorem inv_memState {s : State} (hs : s.Inv) :
    (State.memState s).Inv := by
  unfold State.memState
  repeat' (first | with_reducible exact hs | with_reducible apply inv_ite | with_reducible apply inv_set | split | (dsimp only; split))

theorem inv_pdPut {s : State} {n : Nat} {v : Bool} (hs : s.Inv) :
    (State.pdPut s n v).Inv := by
  unfold State.pdPut
  repeat' (first | with_reducible exact hs | with_reducible apply inv_ite | with_reducible apply inv_memState
                 | with_reducible apply inv_setBit | split | (dsimp only; split))

theorem inv_pdSwitchOn {s : State} {n : Nat} (hs : s.Inv) :
    (State.pdSwitchOn s n).Inv := by
  unfold State.pdSwitchOn
  repeat' (first | with_reducible exact hs | with_reducible apply inv_pdPut | with_reducible apply forms_of_inv
                 | with_reducible apply inv_fst ‹_ = (_, _)› | simp only [↓inv_mk] | split | (dsimp only; split))

theorem inv_beforeOff {s : State} {n : Nat} (hs : s.Inv) :
    (State.beforeOff s n).Inv := by
  unfold State.beforeOff
  repeat' (first | with_reducible exact hs | with_reducible apply inv_ite | with_reducible apply inv_clear
                 | with_reducible apply inv_dropStreams | with_reducible apply inv_set | with_reducible apply inv_setAll
                 | with_reducible apply inv_setInv | with_reducible apply forms_of_inv | simp only [↓inv_mk] | split
                 | (dsimp only; split))

theorem inv_pdSwitchOff {s : State} {n : Nat} (hs : s.Inv) :
    (State.pdSwitchOff s n).Inv := by
  unfold State.pdSwitchOff
  repeat' (first | with_reducible exact hs | with_reducible apply inv_beforeOff | with_reducible apply inv_pdPut)

theorem inv_pdAllOff {s : State} {l : List Nat} (hs : s.Inv) :
    (State.pdAllOff s l).Inv := by
  unfold State.pdAllOff
  repeat' (first | intro _ | with_reducible exact hs | with_reducible assumption | with_reducible apply inv_foldl
                 | with_reducible apply inv_pdSwitchOff)

theorem inv_noteBooks {s : State} (hs : s.Inv) :
    (State.noteBooks s).Inv := by
  unfold State.noteBooks
  repeat' (first | with_reducible exact hs | with_reducible apply inv_putPortOut | with_reducible apply inv_set)

theorem inv_putBooks {s : State} {b : Books} (hs : s.Inv) :
    (State.putBooks s b).Inv := by
  unfold State.putBooks
  repeat' (first | with_reducible exact hs | with_reducible apply inv_noteBooks | with_reducible apply forms_of_inv
                 | simp only [↓inv_mk])

theorem inv_areply {s : State} {x : Act} {tag type : Nat} {ws : List Nat} (hs : s.Inv) :
    (State.areply s x tag type ws).Inv := by
  unfold State.areply
  repeat' (first | with_reducible exact hs | with_reducible apply inv_reply | with_reducible apply forms_of_inv | simp only [↓inv_mk])

theorem inv_refuse {s : State} {x : Act} {m : Motion} {reason : Nat} (hs : s.Inv) :
    (State.refuse s x m reason).Inv := by
  unfold State.refuse
  repeat' (first | with_reducible exact hs | with_reducible apply inv_areply)

theorem inv_setMode {s : State} {x : Act} {m : LoopMode} (hs : s.Inv) :
    (State.setMode s x m).Inv := by
  unfold State.setMode
  repeat' (first | with_reducible exact hs | with_reducible apply inv_putLp | with_reducible apply inv_set
                 | with_reducible apply forms_of_inv | simp only [↓inv_mk])

theorem inv_setTarget {s : State} {x : Act} {head track : Nat} (hs : s.Inv) :
    (State.setTarget s x head track).Inv := by
  unfold State.setTarget
  repeat' (first | with_reducible exact hs | with_reducible apply inv_putLp | with_reducible apply inv_putPortOut
                 | with_reducible apply inv_selectTarget | with_reducible apply inv_set | with_reducible apply forms_of_inv
                 | simp only [↓inv_mk])

theorem inv_setInhibit {s : State} {x : Act} {wi on : Bool} (hs : s.Inv) :
    (State.setInhibit s x wi on).Inv := by
  unfold State.setInhibit
  repeat' (first | with_reducible exact hs | with_reducible apply inv_putLp | with_reducible apply inv_putPortOut
                 | with_reducible apply inv_set | with_reducible apply forms_of_inv | simp only [↓inv_mk])

theorem inv_setRamp {s : State} {x : Act} {vel parked : Bool} {v : Nat} (hs : s.Inv) :
    (State.setRamp s x vel parked v).Inv := by
  unfold State.setRamp
  repeat' (first | with_reducible exact hs | with_reducible apply inv_armWrite)

theorem inv_freeSeek {s : State} {x : Act} (hs : s.Inv) :
    (State.freeSeek s x).Inv := by
  unfold State.freeSeek
  repeat' (first | with_reducible exact hs | with_reducible apply inv_ite | with_reducible apply inv_putBooks
                 | with_reducible apply forms_of_inv | simp only [↓inv_mk] | split | (dsimp only; split))

theorem inv_approve {s : State} {x : Act} (hs : s.Inv) :
    (State.approve s x).1.Inv := by
  unfold State.approve
  repeat' (first | with_reducible exact hs | with_reducible apply inv_ite | with_reducible apply inv_putBooks
                 | with_reducible apply inv_putLp | with_reducible apply forms_of_inv | with_reducible apply inv_fst ‹_ = (_, _)›
                 | simp only [↓inv_mk] | split | (dsimp only; split))

theorem inv_pair {s : State} {x y : Act} (hs : s.Inv) :
    (State.pair s x y).Inv := by
  unfold State.pair
  repeat' (first | intro _ | with_reducible exact hs | with_reducible assumption | with_reducible apply inv_putLp
                 | with_reducible apply inv_set | with_reducible apply forms_of_inv | simp only [↓inv_mk])

theorem inv_approvePair {s : State} {x : Act} (hs : s.Inv) :
    (State.approvePair s x).Inv := by
  unfold State.approvePair
  repeat' (first | with_reducible exact hs | with_reducible apply inv_ite | with_reducible apply inv_approve
                 | with_reducible apply forms_of_inv | with_reducible apply inv_fst ‹_ = (_, _)› | simp only [↓inv_mk] | split
                 | (dsimp only; split))

theorem inv_beginSeek {s : State} {x : Act} {m : Motion} (hs : s.Inv) :
    (State.beginSeek s x m).Inv := by
  unfold State.beginSeek
  repeat' (first | with_reducible exact hs | with_reducible apply inv_ite | with_reducible apply inv_approvePair
                 | with_reducible apply inv_pair | with_reducible apply inv_putLp | with_reducible apply inv_setMode
                 | with_reducible apply forms_of_inv | with_reducible apply inv_fst ‹_ = (_, _)› | simp only [↓inv_mk] | split
                 | (dsimp only; split))

theorem inv_beginSwitch {s : State} {x : Act} {head track : Nat} (hs : s.Inv) :
    (State.beginSwitch s x head track).Inv := by
  unfold State.beginSwitch
  repeat' (first | with_reducible exact hs | with_reducible apply inv_setInhibit | with_reducible apply inv_setMode
                 | with_reducible apply inv_setTarget)

theorem inv_beginLoad {s : State} {x : Act} {m : Motion} {rCoil : Nat} (hs : s.Inv) :
    (State.beginLoad s x m rCoil).Inv := by
  unfold State.beginLoad
  repeat' (first | with_reducible exact hs | with_reducible apply inv_pdSwitchOn | with_reducible apply inv_putBooks
                 | with_reducible apply inv_putLp | with_reducible apply inv_setAll | with_reducible apply inv_setMode
                 | with_reducible apply inv_setRamp | with_reducible apply inv_setTarget | with_reducible apply forms_of_inv
                 | simp only [↓inv_mk])

theorem inv_climbRamp {s : State} {x : Act} (hs : s.Inv) :
    (State.climbRamp s x).Inv := by
  unfold State.climbRamp
  repeat' (first | with_reducible exact hs | with_reducible apply inv_set | with_reducible apply inv_setRamp)

theorem inv_beginUnload {s : State} {x : Act} {m : Option Motion} (hs : s.Inv) :
    (State.beginUnload s x m).Inv := by
  unfold State.beginUnload
  repeat' (first | with_reducible exact hs | with_reducible apply inv_ite | with_reducible apply inv_climbRamp
                 | with_reducible apply inv_freeSeek | with_reducible apply inv_putLp | with_reducible apply inv_set
                 | with_reducible apply inv_setInhibit | with_reducible apply inv_setMode | with_reducible apply inv_setRamp
                 | with_reducible apply inv_setTarget | with_reducible apply forms_of_inv | simp only [↓inv_mk] | split
                 | (dsimp only; split))

theorem inv_runNext {s : State} {x : Act} {rCoil : Nat} {n : Nat} (hs : s.Inv) :
    (State.runNext s x rCoil n).Inv := by
  induction n generalizing s with
  | zero => exact hs
  | succ n ih =>
    unfold State.runNext
    repeat' (first | with_reducible exact hs | with_reducible assumption | with_reducible apply ih | with_reducible apply inv_ite
                   | with_reducible apply inv_beginLoad | with_reducible apply inv_beginSeek | with_reducible apply inv_beginSwitch
                   | with_reducible apply inv_beginUnload | with_reducible apply inv_putLp | with_reducible apply inv_refuse
                   | with_reducible apply forms_of_inv | with_reducible apply inv_fst ‹_ = (_, _)› | simp only [↓inv_mk] | split
                   | (dsimp only; split))

theorem inv_startSeek {s : State} {x : Act} (hs : s.Inv) :
    (State.startSeek s x).Inv := by
  unfold State.startSeek
  repeat' (first | with_reducible exact hs | with_reducible apply inv_ite | with_reducible apply inv_putLp
                 | with_reducible apply inv_set | with_reducible apply inv_setInhibit | with_reducible apply inv_setMode
                 | with_reducible apply inv_setTarget | with_reducible apply forms_of_inv | with_reducible apply inv_fst ‹_ = (_, _)›
                 | simp only [↓inv_mk] | split | (dsimp only; split))

theorem inv_loopTick {s : State} {x : Act} (hs : s.Inv) :
    (State.loopTick s x).Inv := by
  unfold State.loopTick
  repeat' (first | with_reducible exact hs | with_reducible apply inv_ite | with_reducible apply inv_approvePair
                 | with_reducible apply inv_beginLoad | with_reducible apply inv_putLp | with_reducible apply inv_refuse
                 | with_reducible apply inv_runNext | with_reducible apply inv_startSeek | with_reducible apply forms_of_inv
                 | with_reducible apply inv_fst ‹_ = (_, _)› | simp only [↓inv_mk] | split | (dsimp only; split))

theorem inv_takeMotion {s : State} {x : Act} {m : Motion} {rCoil : Nat} (hs : s.Inv) :
    (State.takeMotion s x m rCoil).Inv := by
  unfold State.takeMotion
  repeat' (first | with_reducible exact hs | with_reducible apply inv_ite | with_reducible apply inv_discard
                 | with_reducible apply inv_putLp | with_reducible apply inv_refuse | with_reducible apply inv_runNext
                 | with_reducible apply forms_of_inv | simp only [↓inv_mk] | split | (dsimp only; split))

theorem inv_refuseWaiting {s : State} {x : Act} {reason : Nat} (hs : s.Inv) :
    (State.refuseWaiting s x reason).Inv := by
  unfold State.refuseWaiting
  repeat' (first | intro _ | with_reducible exact hs | with_reducible assumption | with_reducible apply inv_foldl
                 | with_reducible apply inv_putLp | with_reducible apply inv_refuse | with_reducible apply forms_of_inv
                 | simp only [↓inv_mk])

theorem inv_refuseCur {s : State} {x : Act} {reason : Nat} (hs : s.Inv) :
    (State.refuseCur s x reason).Inv := by
  unfold State.refuseCur
  repeat' (first | with_reducible exact hs | with_reducible apply inv_freeSeek | with_reducible apply inv_putLp
                 | with_reducible apply inv_refuse | with_reducible apply forms_of_inv | with_reducible apply inv_fst ‹_ = (_, _)›
                 | simp only [↓inv_mk] | split | (dsimp only; split))

theorem inv_freePartner {s : State} {x : Act} (hs : s.Inv) :
    (State.freePartner s x).Inv := by
  unfold State.freePartner
  repeat' (first | intro _ | with_reducible exact hs | with_reducible assumption | with_reducible apply inv_putLp
                 | with_reducible apply forms_of_inv | with_reducible apply inv_fst ‹_ = (_, _)› | simp only [↓inv_mk] | split
                 | (dsimp only; split))

theorem inv_retire {s : State} {x : Act} {mask : Nat} (hs : s.Inv) :
    (State.retire s x mask).Inv := by
  unfold State.retire
  repeat' (first | intro _ | with_reducible exact hs | with_reducible assumption | with_reducible apply inv_ite
                 | with_reducible apply inv_foldl | with_reducible apply inv_areply | with_reducible apply inv_beginSwitch
                 | with_reducible apply inv_beginUnload | with_reducible apply inv_freePartner | with_reducible apply inv_freeSeek
                 | with_reducible apply inv_putLp | with_reducible apply inv_set | with_reducible apply inv_setBit
                 | with_reducible apply inv_setMode | with_reducible apply forms_of_inv | with_reducible apply inv_fst ‹_ = (_, _)›
                 | simp only [↓inv_mk] | split | (dsimp only; split))

theorem inv_landed {s : State} {x : Act} (hs : s.Inv) :
    (State.landed s x).Inv := by
  unfold State.landed
  repeat' (first | with_reducible exact hs | with_reducible apply inv_putLp | with_reducible apply inv_setInhibit
                 | with_reducible apply inv_setMode | with_reducible apply forms_of_inv | simp only [↓inv_mk])

theorem inv_parkLoop {s : State} {x : Act} (hs : s.Inv) :
    (State.parkLoop s x).Inv := by
  unfold State.parkLoop
  repeat' (first | with_reducible exact hs | with_reducible apply inv_ite | with_reducible apply inv_putLp
                 | with_reducible apply inv_putPortOut | with_reducible apply inv_set | with_reducible apply inv_setInhibit
                 | with_reducible apply inv_setMode | with_reducible apply forms_of_inv | simp only [↓inv_mk] | split
                 | (dsimp only; split))

theorem inv_emUnload {s : State} {x : Act} {trigger : Nat} (hs : s.Inv) :
    (State.emUnload s x trigger).Inv := by
  unfold State.emUnload
  repeat' (first | with_reducible exact hs | with_reducible apply inv_ite | with_reducible apply inv_freePartner
                 | with_reducible apply inv_putLp | with_reducible apply inv_refuseCur | with_reducible apply inv_refuseWaiting
                 | with_reducible apply inv_set | with_reducible apply inv_setInhibit | with_reducible apply inv_setMode
                 | with_reducible apply inv_setRamp | with_reducible apply inv_stopAllInj | with_reducible apply forms_of_inv
                 | simp only [↓inv_mk] | split | (dsimp only; split))

theorem inv_emUnloadAll {s : State} {trigger : Nat} (hs : s.Inv) :
    (State.emUnloadAll s trigger).Inv := by
  unfold State.emUnloadAll
  repeat' (first | intro _ | with_reducible exact hs | with_reducible assumption | with_reducible apply inv_foldl
                 | with_reducible apply inv_emUnload | with_reducible apply inv_stopAllInj)

theorem inv_flushedOut {s : State} (hs : s.Inv) :
    (State.flushedOut s).Inv := by
  unfold State.flushedOut
  repeat' (first | with_reducible exact hs | with_reducible apply inv_pdAllOff | with_reducible apply inv_setAll
                 | with_reducible apply forms_of_inv | simp only [↓inv_mk])

theorem inv_latchedAfterDeclaration {s : State} (hs : s.Inv) :
    (State.latchedAfterDeclaration s).Inv := by
  unfold State.latchedAfterDeclaration
  repeat' (first | with_reducible exact hs | with_reducible apply inv_ite | with_reducible apply inv_flushedOut
                 | with_reducible apply inv_pdAllOff | with_reducible apply forms_of_inv | simp only [↓inv_mk] | split
                 | (dsimp only; split))

theorem inv_hwRetract {s : State} {x : Act} {wd oc : Bool} (hs : s.Inv) :
    (State.hwRetract s x wd oc).Inv := by
  unfold State.hwRetract
  repeat' (first | with_reducible exact hs | with_reducible apply inv_ite | with_reducible apply inv_inc
                 | with_reducible apply inv_putLp | with_reducible apply inv_refuseWaiting | with_reducible apply inv_set
                 | with_reducible apply forms_of_inv | simp only [↓inv_mk] | split | (dsimp only; split))

theorem inv_aspTick {s : State} {x : Act} (hs : s.Inv) :
    (State.aspTick s x).Inv := by
  unfold State.aspTick
  repeat' (first | with_reducible exact hs | with_reducible apply inv_ite | with_reducible apply inv_emit
                 | with_reducible apply inv_putLp | with_reducible apply inv_set | with_reducible apply forms_of_inv
                 | simp only [↓inv_mk] | split | (dsimp only; split))

theorem inv_putMotor {s : State} {m : Motor} (hs : s.Inv) :
    (State.putMotor s m).Inv := by
  unfold State.putMotor
  repeat' (first | with_reducible exact hs | with_reducible apply forms_of_inv | simp only [↓inv_mk])

theorem inv_watchComparators {s : State} (hs : s.Inv) :
    (State.watchComparators s).Inv := by
  unfold State.watchComparators
  repeat' (first | with_reducible exact hs | with_reducible apply inv_ite | with_reducible apply inv_putMotor
                 | with_reducible apply forms_of_inv | simp only [↓inv_mk] | split | (dsimp only; split))

theorem inv_observe {s : State} {handover : Nat} (hs : s.Inv) :
    (State.observe s handover).Inv := by
  unfold State.observe
  repeat' (first | with_reducible exact hs | with_reducible apply inv_ite | with_reducible apply inv_putMotor
                 | with_reducible apply forms_of_inv | simp only [↓inv_mk] | split | (dsimp only; split))

theorem inv_compareAngles {s : State} (hs : s.Inv) :
    (State.compareAngles s).Inv := by
  unfold State.compareAngles
  repeat' (first | intro _ | with_reducible exact hs | with_reducible assumption | with_reducible apply inv_ite
                 | with_reducible apply inv_putMotor | with_reducible apply inv_set | with_reducible apply forms_of_inv
                 | with_reducible apply inv_fst ‹_ = (_, _)› | simp only [↓inv_mk] | split | (dsimp only; split))

theorem inv_drive {s : State} (hs : s.Inv) :
    (State.drive s).Inv := by
  unfold State.drive
  repeat' (first | intro _ | with_reducible exact hs | with_reducible assumption | with_reducible apply inv_ite
                 | with_reducible apply inv_foldl | with_reducible apply inv_putMotor | with_reducible apply inv_setAll
                 | with_reducible apply inv_spnWrite | with_reducible apply forms_of_inv | simp only [↓inv_mk] | split
                 | (dsimp only; split))

theorem inv_setSp {s : State} {n : Nat} (hs : s.Inv) :
    (State.setSp s n).Inv := by
  unfold State.setSp
  repeat' (first | with_reducible exact hs | with_reducible apply inv_ite | with_reducible apply inv_putMotor
                 | with_reducible apply inv_set | with_reducible apply forms_of_inv | simp only [↓inv_mk] | split
                 | (dsimp only; split))

theorem inv_putSpn {s : State} {p : Spn} (hs : s.Inv) :
    (State.putSpn s p).Inv := by
  unfold State.putSpn
  repeat' (first | with_reducible exact hs | with_reducible apply forms_of_inv | simp only [↓inv_mk])

theorem inv_unloadCheck {s : State} (hs : s.Inv) :
    (State.unloadCheck s).Inv := by
  unfold State.unloadCheck
  repeat' (first | with_reducible exact hs | with_reducible apply inv_ite | with_reducible apply inv_emUnloadAll | split
                 | (dsimp only; split))

theorem inv_coast {s : State} (hs : s.Inv) :
    (State.coast s).Inv := by
  unfold State.coast
  repeat' (first | with_reducible exact hs | with_reducible apply inv_putSpn | with_reducible apply inv_set
                 | with_reducible apply inv_setInv | with_reducible apply inv_setSp | with_reducible apply forms_of_inv
                 | simp only [↓inv_mk])

theorem inv_notAtSpeed {s : State} (hs : s.Inv) :
    (State.notAtSpeed s).Inv := by
  unfold State.notAtSpeed
  repeat' (first | with_reducible exact hs | with_reducible apply inv_ite | with_reducible apply inv_set
                 | with_reducible apply forms_of_inv | simp only [↓inv_mk] | split | (dsimp only; split))

theorem inv_sense {s : State} (hs : s.Inv) :
    (State.sense s).Inv := by
  unfold State.sense
  repeat' (first | with_reducible exact hs | with_reducible apply inv_coast | with_reducible apply inv_notAtSpeed
                 | with_reducible apply inv_putSpn | with_reducible apply inv_setSp | with_reducible apply forms_of_inv
                 | simp only [↓inv_mk])

theorem inv_newStart {s : State} {tag : Nat} (hs : s.Inv) :
    (State.newStart s tag).Inv := by
  unfold State.newStart
  repeat' (first | with_reducible exact hs | with_reducible apply inv_putSpn | with_reducible apply inv_sense
                 | with_reducible apply forms_of_inv | simp only [↓inv_mk])

theorem inv_commitSpinup {s : State} (hs : s.Inv) :
    (State.commitSpinup s).1.Inv := by
  unfold State.commitSpinup
  repeat' (first | with_reducible exact hs | with_reducible apply inv_ite | with_reducible apply inv_putBooks
                 | with_reducible apply forms_of_inv | simp only [↓inv_mk] | split | (dsimp only; split))

theorem inv_spRefuse {s : State} {tag reason : Nat} (hs : s.Inv) :
    (State.spRefuse s tag reason).Inv := by
  unfold State.spRefuse
  repeat' (first | with_reducible exact hs | with_reducible apply inv_reply | with_reducible apply forms_of_inv | simp only [↓inv_mk])

theorem inv_spFault {s : State} {tag code : Nat} (hs : s.Inv) :
    (State.spFault s tag code).Inv := by
  unfold State.spFault
  repeat' (first | with_reducible exact hs | with_reducible apply inv_reply)

theorem inv_resumeRun {s : State} {tag : Nat} (hs : s.Inv) :
    (State.resumeRun s tag).Inv := by
  unfold State.resumeRun
  repeat' (first | with_reducible exact hs | with_reducible apply inv_ite | with_reducible apply inv_putSpn
                 | with_reducible apply inv_setInv | with_reducible apply inv_setSp | with_reducible apply forms_of_inv
                 | simp only [↓inv_mk] | split | (dsimp only; split))

theorem inv_start {s : State} {tag : Nat} (hs : s.Inv) :
    (State.start s tag).Inv := by
  unfold State.start
  repeat' (first | with_reducible exact hs | with_reducible apply inv_ite | with_reducible apply inv_newStart
                 | with_reducible apply inv_putSpn | with_reducible apply inv_reply | with_reducible apply inv_resumeRun
                 | with_reducible apply inv_spRefuse | with_reducible apply forms_of_inv | simp only [↓inv_mk] | split
                 | (dsimp only; split))

theorem inv_brakeBy {s : State} {method : Nat} (hs : s.Inv) :
    (State.brakeBy s method).Inv := by
  unfold State.brakeBy
  repeat' (first | with_reducible exact hs | with_reducible apply inv_ite | with_reducible apply inv_putSpn
                 | with_reducible apply inv_setInv | with_reducible apply inv_setSp | with_reducible apply forms_of_inv
                 | simp only [↓inv_mk] | split | (dsimp only; split))

theorem inv_stop {s : State} {tag method : Nat} (hs : s.Inv) :
    (State.stop s tag method).Inv := by
  unfold State.stop
  repeat' (first | with_reducible exact hs | with_reducible apply inv_ite | with_reducible apply inv_brakeBy
                 | with_reducible apply inv_coast | with_reducible apply inv_notAtSpeed | with_reducible apply inv_putSpn
                 | with_reducible apply inv_reply | with_reducible apply inv_spRefuse | with_reducible apply forms_of_inv
                 | simp only [↓inv_mk] | split | (dsimp only; split))

theorem inv_align {s : State} {second : Bool} (hs : s.Inv) :
    (State.align s second).Inv := by
  unfold State.align
  repeat' (first | with_reducible exact hs | with_reducible apply inv_putMotor | with_reducible apply inv_putSpn
                 | with_reducible apply inv_set | with_reducible apply inv_setInv | with_reducible apply inv_setSp
                 | with_reducible apply forms_of_inv | simp only [↓inv_mk])

theorem inv_takeOver {s : State} {v : Nat} (hs : s.Inv) :
    (State.takeOver s v).Inv := by
  unfold State.takeOver
  repeat' (first | with_reducible exact hs | with_reducible apply inv_ite | with_reducible apply inv_putMotor
                 | with_reducible apply inv_putSpn | with_reducible apply inv_reply | with_reducible apply inv_set
                 | with_reducible apply inv_setAll | with_reducible apply inv_setInv | with_reducible apply inv_setSp
                 | with_reducible apply forms_of_inv | simp only [↓inv_mk] | split | (dsimp only; split))

theorem inv_catchFail {s : State} (hs : s.Inv) :
    (State.catchFail s).Inv := by
  unfold State.catchFail
  repeat' (first | with_reducible exact hs | with_reducible apply inv_ite | with_reducible apply inv_coast
                 | with_reducible apply inv_putSpn | with_reducible apply inv_reply | with_reducible apply inv_sense
                 | with_reducible apply inv_set | with_reducible apply inv_setSp | with_reducible apply inv_spFault
                 | with_reducible apply inv_unloadCheck | with_reducible apply forms_of_inv
                 | with_reducible apply inv_fst ‹_ = (_, _)› | simp only [↓inv_mk] | split | (dsimp only; split))

theorem inv_commitRun {s : State} (hs : s.Inv) :
    (State.commitRun s).Inv := by
  unfold State.commitRun
  repeat' (first | with_reducible exact hs | with_reducible apply inv_ite | with_reducible apply inv_putBooks
                 | with_reducible apply forms_of_inv | simp only [↓inv_mk] | split | (dsimp only; split))

theorem inv_commutationReturn {s : State} (hs : s.Inv) :
    (State.commutationReturn s).Inv := by
  unfold State.commutationReturn
  repeat' (first | with_reducible exact hs | with_reducible apply inv_ite | with_reducible apply inv_putMotor
                 | with_reducible apply inv_putSpn | with_reducible apply inv_set | with_reducible apply forms_of_inv
                 | simp only [↓inv_mk] | split | (dsimp only; split))

theorem inv_observerLost {s : State} (hs : s.Inv) :
    (State.observerLost s).Inv := by
  unfold State.observerLost
  repeat' (first | with_reducible exact hs | with_reducible apply inv_ite | with_reducible apply inv_coast
                 | with_reducible apply inv_inc | with_reducible apply inv_putMotor | with_reducible apply inv_putSpn
                 | with_reducible apply inv_reply | with_reducible apply inv_set | with_reducible apply inv_unloadCheck
                 | with_reducible apply forms_of_inv | simp only [↓inv_mk] | split | (dsimp only; split))

theorem inv_followX32 {s : State} (hs : s.Inv) :
    (State.followX32 s).Inv := by
  unfold State.followX32
  repeat' (first | with_reducible exact hs | with_reducible apply inv_ite | with_reducible apply inv_brakeBy
                 | with_reducible apply inv_coast | with_reducible apply inv_notAtSpeed | with_reducible apply inv_putSpn
                 | with_reducible apply inv_setInv | with_reducible apply inv_setSp | with_reducible apply forms_of_inv
                 | simp only [↓inv_mk] | split | (dsimp only; split))

theorem inv_noteHeld {s : State} (hs : s.Inv) :
    (State.noteHeld s).Inv := by
  unfold State.noteHeld
  repeat' (first | with_reducible exact hs | with_reducible apply inv_ite | with_reducible apply inv_putMotor
                 | with_reducible apply forms_of_inv | simp only [↓inv_mk] | split | (dsimp only; split))

theorem inv_spindleTick {s : State} {brought : Nat} (hs : s.Inv) :
    (State.spindleTick s brought).Inv := by
  unfold State.spindleTick
  repeat' (first | with_reducible exact hs | with_reducible apply inv_ite | with_reducible apply inv_commutationReturn
                 | with_reducible apply inv_compareAngles | with_reducible apply inv_drive | with_reducible apply inv_followX32
                 | with_reducible apply inv_notAtSpeed | with_reducible apply inv_noteHeld | with_reducible apply inv_observe
                 | with_reducible apply inv_putSpn | with_reducible apply inv_set | with_reducible apply inv_setInv
                 | with_reducible apply inv_unloadCheck | with_reducible apply inv_watchComparators
                 | with_reducible apply forms_of_inv | simp only [↓inv_mk] | split | (dsimp only; split))

theorem inv_speedPosted {s : State} (hs : s.Inv) :
    (State.speedPosted s).Inv := by
  unfold State.speedPosted
  repeat' (first | with_reducible exact hs | with_reducible apply inv_ite | with_reducible apply inv_notAtSpeed
                 | with_reducible apply inv_putSpn | with_reducible apply forms_of_inv | simp only [↓inv_mk] | split
                 | (dsimp only; split))

theorem inv_zoneFail {s : State} {x : Act} {k : Nat} (hs : s.Inv) :
    (State.zoneFail s x k).Inv := by
  unfold State.zoneFail
  repeat' (first | with_reducible exact hs | with_reducible apply inv_set)

theorem inv_zoneRecheck {s : State} (hs : s.Inv) :
    (State.zoneRecheck s).Inv := by
  unfold State.zoneRecheck
  repeat' (first | intro _ | with_reducible exact hs | with_reducible assumption | with_reducible apply inv_ite
                 | with_reducible apply inv_foldl | with_reducible apply inv_zoneFail | split | (dsimp only; split))

theorem inv_noEnvelope {s : State} (hs : s.Inv) :
    (State.noEnvelope s).Inv := by
  unfold State.noEnvelope
  repeat' (first | with_reducible exact hs | with_reducible apply inv_setAll | with_reducible apply forms_of_inv | simp only [↓inv_mk])

theorem inv_rejectSet {s : State} {rule : Nat} (hs : s.Inv) :
    (State.rejectSet s rule).Inv := by
  unfold State.rejectSet
  repeat' (first | with_reducible exact hs | with_reducible apply inv_setAll | with_reducible apply forms_of_inv | simp only [↓inv_mk])

theorem inv_applySet {s : State} {ws : List (Nat × Nat)} (hs : s.Inv) :
    (State.applySet s ws).Inv := by
  unfold State.applySet
  repeat' (first | intro _ | with_reducible exact hs | with_reducible assumption | with_reducible apply inv_ite
                 | with_reducible apply inv_foldl | with_reducible apply inv_putWord | with_reducible apply inv_set
                 | with_reducible apply inv_speedPosted | with_reducible apply inv_zoneRecheck | with_reducible apply forms_of_inv
                 | simp only [↓inv_mk] | split | (dsimp only; split))

theorem inv_sealTick {s : State} (hs : s.Inv) :
    (State.sealTick s).Inv := by
  unfold State.sealTick
  repeat' (first | with_reducible exact hs | with_reducible apply inv_ite | with_reducible apply inv_applySet
                 | with_reducible apply inv_noEnvelope | with_reducible apply inv_rejectSet | with_reducible apply forms_of_inv
                 | with_reducible apply inv_fst ‹_ = (_, _)› | simp only [↓inv_mk] | split | (dsimp only; split))

theorem inv_sealCmd {s : State} {core : Nat} {states : List Nat} {f : State → State} (hs : s.Inv) (hf : ∀ s, s.Inv → (f s).Inv) :
    (State.sealCmd s core states f).Inv := by
  unfold State.sealCmd
  repeat' (first | intro _ | with_reducible exact hs | with_reducible assumption | with_reducible apply inv_ite
                 | with_reducible apply inv_access | with_reducible apply inv_ignored | with_reducible apply hf
                 | with_reducible apply forms_of_inv | simp only [↓inv_mk] | split | (dsimp only; split))

theorem inv_stage {s : State} {live v : Nat} (hs : s.Inv) :
    (State.stage s live v).Inv := by
  unfold State.stage
  repeat' (first | intro _ | with_reducible exact hs | with_reducible assumption | with_reducible apply inv_ite
                 | with_reducible apply inv_set | with_reducible apply forms_of_inv | simp only [↓inv_mk] | split
                 | (dsimp only; split))

theorem inv_stageWrite {s : State} {i : Initiator} {a v : Nat} (hs : s.Inv) :
    (State.stageWrite s i a v).Inv := by
  unfold State.stageWrite
  repeat' (first | with_reducible exact hs | with_reducible apply inv_ite | with_reducible apply inv_ignored
                 | with_reducible apply inv_stage | with_reducible apply forms_of_inv | simp only [↓inv_mk] | split
                 | (dsimp only; split))

theorem inv_commitPmk {s : State} (hs : s.Inv) :
    (State.commitPmk s).1.Inv := by
  unfold State.commitPmk
  repeat' (first | with_reducible exact hs | with_reducible apply inv_ite | with_reducible apply inv_putBooks
                 | with_reducible apply forms_of_inv | simp only [↓inv_mk] | split | (dsimp only; split))

theorem inv_loadHead {s : State} {b : Bool} (hs : s.Inv) :
    (State.loadHead s b).Inv := by
  unfold State.loadHead
  repeat' (first | with_reducible exact hs | with_reducible apply inv_ite | with_reducible apply inv_commitPmk
                 | with_reducible apply inv_setEnergised | split | (dsimp only; split))

theorem inv_loadHeads {s : State} (hs : s.Inv) :
    (State.loadHeads s).Inv := by
  unfold State.loadHeads
  repeat' (first | with_reducible exact hs | with_reducible apply inv_ite | with_reducible apply inv_loadHead
                 | with_reducible apply inv_pmkRefresh | with_reducible apply inv_setEnergised | split | (dsimp only; split))

theorem inv_rampFault {s : State} {b : Bool} (hs : s.Inv) :
    (State.rampFault s b).Inv := by
  unfold State.rampFault
  repeat' (first | with_reducible exact hs | with_reducible apply inv_ite | with_reducible apply inv_dropStreams
                 | with_reducible apply inv_pmkRefresh | with_reducible apply inv_set | with_reducible apply inv_setEnergised
                 | with_reducible apply forms_of_inv | simp only [↓inv_mk] | split | (dsimp only; split))

theorem inv_pmkCtrlWritten {s : State} (hs : s.Inv) :
    (State.pmkCtrlWritten s).Inv := by
  unfold State.pmkCtrlWritten
  repeat' (first | intro _ | with_reducible exact hs | with_reducible assumption | with_reducible apply inv_dropStreams
                 | with_reducible apply inv_loadHeads | with_reducible apply forms_of_inv | simp only [↓inv_mk])

theorem inv_parkOpen {s : State} {b : Bool} (hs : s.Inv) :
    (State.parkOpen s b).Inv := by
  unfold State.parkOpen
  repeat' (first | with_reducible exact hs | with_reducible apply inv_ite | with_reducible apply inv_set | split | (dsimp only; split))

theorem inv_pmkTick {s : State} {f : TickFacts} (hs : s.Inv) :
    (State.pmkTick s f).Inv := by
  unfold State.pmkTick
  repeat' (first | intro _ | with_reducible exact hs | with_reducible assumption | with_reducible apply inv_ite
                 | with_reducible apply inv_foldl | with_reducible apply inv_latch | with_reducible apply inv_loadHeads
                 | with_reducible apply inv_parkOpen | with_reducible apply inv_pmkRefresh | with_reducible apply inv_setAll
                 | with_reducible apply inv_trackTick | with_reducible apply forms_of_inv | with_reducible apply inv_fst ‹_ = (_, _)›
                 | simp only [↓inv_mk] | split | (dsimp only; split))

theorem inv_bpmRefresh {s : State} {n : Nat} (hs : s.Inv) :
    (State.bpmRefresh s n).Inv := by
  unfold State.bpmRefresh
  repeat' (first | intro _ | with_reducible exact hs | with_reducible assumption | with_reducible apply inv_set)

theorem inv_setOwners {s : State} {h k : Nat} (hs : s.Inv) :
    (State.setOwners s h k).Inv := by
  unfold State.setOwners
  repeat' (first | with_reducible exact hs | with_reducible apply inv_bpmRefresh | with_reducible apply forms_of_inv
                 | simp only [↓inv_mk])

theorem inv_bagAlloc {s : State} {n pick : Nat} (hs : s.Inv) :
    (State.bagAlloc s n pick).1.Inv := by
  unfold State.bagAlloc
  repeat' (first | intro _ | with_reducible exact hs | with_reducible assumption | with_reducible apply inv_ite
                 | with_reducible apply inv_inc | with_reducible apply inv_setBit | with_reducible apply inv_setOwners
                 | with_reducible apply forms_of_inv | with_reducible apply inv_fst ‹_ = (_, _)› | simp only [↓inv_mk] | split
                 | (dsimp only; split))

theorem inv_badBag {s : State} {h from_ : Nat} (hs : s.Inv) :
    (State.badBag s h from_).Inv := by
  unfold State.badBag
  repeat' (first | with_reducible exact hs | with_reducible apply inv_event | with_reducible apply inv_set)

theorem inv_bagRelease {s : State} {h from_ : Nat} (hs : s.Inv) :
    (State.bagRelease s h from_).Inv := by
  unfold State.bagRelease
  repeat' (first | with_reducible exact hs | with_reducible apply inv_ite | with_reducible apply inv_badBag
                 | with_reducible apply inv_bpmRefresh | with_reducible apply inv_setOwners | with_reducible apply forms_of_inv
                 | simp only [↓inv_mk] | split | (dsimp only; split))

theorem inv_bagShare {s : State} {h from_ : Nat} (hs : s.Inv) :
    (State.bagShare s h from_).Inv := by
  unfold State.bagShare
  repeat' (first | with_reducible exact hs | with_reducible apply inv_ite | with_reducible apply inv_badBag
                 | with_reducible apply inv_setOwners | split | (dsimp only; split))

theorem inv_bagReleaseAll {s : State} {l : List Nat} {from_ : Nat} (hs : s.Inv) :
    (State.bagReleaseAll s l from_).Inv := by
  unfold State.bagReleaseAll
  repeat' (first | intro _ | with_reducible exact hs | with_reducible assumption | with_reducible apply inv_foldl
                 | with_reducible apply inv_bagRelease)

theorem inv_phcEcc {s : State} {line : Nat} {write : Bool} (hs : s.Inv) :
    (State.phcEcc s line write).Inv := by
  unfold State.phcEcc
  repeat' (first | with_reducible exact hs | with_reducible apply inv_ite | with_reducible apply inv_injWrite
                 | with_reducible apply inv_sramRead | split | (dsimp only; split))

theorem inv_putMem {s : State} {m : Mem} (hs : s.Inv) :
    (State.putMem s m).Inv := by
  unfold State.putMem
  repeat' (first | with_reducible exact hs | with_reducible apply forms_of_inv | simp only [↓inv_mk])

theorem inv_slipCount {s : State} (hs : s.Inv) :
    (State.slipCount s).Inv := by
  unfold State.slipCount
  repeat' (first | intro _ | with_reducible exact hs | with_reducible assumption | with_reducible apply inv_set
                 | with_reducible apply forms_of_inv | simp only [↓inv_mk])

theorem inv_restoreSlips {s : State} (hs : s.Inv) :
    (State.restoreSlips s).Inv := by
  unfold State.restoreSlips
  repeat' (first | intro _ | with_reducible exact hs | with_reducible assumption | with_reducible apply inv_foldl
                 | with_reducible apply inv_setAll | with_reducible apply inv_slipCount)

theorem inv_giveSlip {s : State} {block : Nat} {poison : Bool} (hs : s.Inv) :
    (State.giveSlip s block poison).1.Inv := by
  unfold State.giveSlip
  repeat' (first | intro _ | with_reducible exact hs | with_reducible assumption | with_reducible apply inv_ite
                 | with_reducible apply inv_ledger | with_reducible apply inv_set | with_reducible apply inv_setAll
                 | with_reducible apply inv_slipCount | with_reducible apply forms_of_inv | with_reducible apply inv_fst ‹_ = (_, _)›
                 | simp only [↓inv_mk] | split | (dsimp only; split))

theorem inv_dropSlip {s : State} {n : Fin 16} (hs : s.Inv) :
    (State.dropSlip s n).Inv := by
  unfold State.dropSlip
  repeat' (first | with_reducible exact hs | with_reducible apply inv_setAll | with_reducible apply inv_slipCount
                 | with_reducible apply forms_of_inv | simp only [↓inv_mk])

theorem inv_memReport {s : State} {code addr : Nat} {injected : Bool} (hs : s.Inv) :
    (State.memReport s code addr injected).Inv := by
  unfold State.memReport
  repeat' (first | with_reducible exact hs | with_reducible apply inv_capture)

theorem inv_eccWord {s : State} {e : EccErr} {injected : Bool} (hs : s.Inv) :
    (State.eccWord s e injected).Inv := by
  unfold State.eccWord
  repeat' (first | with_reducible exact hs | with_reducible apply inv_ite | with_reducible apply inv_giveSlip
                 | with_reducible apply inv_inc | with_reducible apply inv_memReport | with_reducible apply inv_set
                 | with_reducible apply forms_of_inv | simp only [↓inv_mk] | split | (dsimp only; split))

theorem inv_eccRead {s : State} {a n : Nat} {errs : List EccErr} (hs : s.Inv) :
    (State.eccRead s a n errs).Inv := by
  unfold State.eccRead
  repeat' (first | intro _ | with_reducible exact hs | with_reducible assumption | with_reducible apply inv_foldl
                 | with_reducible apply inv_eccWord | with_reducible apply forms_of_inv | simp only [↓inv_mk])

theorem inv_putWay {s : State} {line way : Nat} {dirty : Bool} {tree : Nat} (hs : s.Inv) :
    (State.putWay s line way dirty tree).Inv := by
  unfold State.putWay
  repeat' (first | with_reducible exact hs | with_reducible apply inv_putMem | with_reducible apply forms_of_inv | simp only [↓inv_mk])

theorem inv_phcEvict {s : State} {line : Nat} (hs : s.Inv) :
    (State.phcEvict s line).Inv := by
  unfold State.phcEvict
  repeat' (first | with_reducible exact hs | with_reducible apply inv_ite | with_reducible apply inv_putMem
                 | with_reducible apply forms_of_inv | simp only [↓inv_mk] | split | (dsimp only; split))

theorem inv_takeMiss {s : State} {line : Nat} (hs : s.Inv) :
    (State.takeMiss s line).Inv := by
  unfold State.takeMiss
  repeat' (first | with_reducible exact hs | with_reducible apply inv_ite | with_reducible apply inv_putMem
                 | with_reducible apply inv_set | with_reducible apply forms_of_inv | simp only [↓inv_mk] | split
                 | (dsimp only; split))

theorem inv_phcFill {s : State} {line pol : Nat} {dirty : Bool} (hs : s.Inv) :
    (State.phcFill s line pol dirty).Inv := by
  unfold State.phcFill
  repeat' (first | intro _ | with_reducible exact hs | with_reducible assumption | with_reducible apply inv_ite
                 | with_reducible apply inv_phcEvict | with_reducible apply inv_putWay | with_reducible apply inv_takeMiss
                 | with_reducible apply forms_of_inv | with_reducible apply inv_fst ‹_ = (_, _)› | simp only [↓inv_mk] | split
                 | (dsimp only; split))

theorem inv_phcReclaim {s : State} {v : Victim} {dirties : Bool} (hs : s.Inv) :
    (State.phcReclaim s v dirties).Inv := by
  unfold State.phcReclaim
  repeat' (first | intro _ | with_reducible exact hs | with_reducible assumption | with_reducible apply inv_ite
                 | with_reducible apply inv_inc | with_reducible apply inv_putMem | with_reducible apply inv_putWay
                 | with_reducible apply forms_of_inv | with_reducible apply inv_fst ‹_ = (_, _)› | simp only [↓inv_mk] | split
                 | (dsimp only; split))

theorem inv_phcPrefetch {s : State} {l : List Nat} (hs : s.Inv) :
    (State.phcPrefetch s l).Inv := by
  induction l generalizing s with
  | nil => exact hs
  | cons line rest ih =>
    unfold State.phcPrefetch
    repeat' (first | with_reducible exact hs | with_reducible assumption | with_reducible apply ih | with_reducible apply inv_ite
                   | with_reducible apply inv_eccRead | with_reducible apply inv_phcFill | with_reducible apply forms_of_inv
                   | simp only [↓inv_mk] | split | (dsimp only; split))

theorem inv_phcDetect {s : State} {line : Nat} {miss : Bool} (hs : s.Inv) :
    (State.phcDetect s line miss).Inv := by
  unfold State.phcDetect
  repeat' (first | intro _ | with_reducible exact hs | with_reducible assumption | with_reducible apply inv_ite
                 | with_reducible apply inv_phcPrefetch | with_reducible apply inv_putMem | with_reducible apply forms_of_inv
                 | simp only [↓inv_mk] | split | (dsimp only; split))

theorem inv_phcLine {s : State} {line a n : Nat} {write : Bool} {errs : List EccErr} (hs : s.Inv) :
    (State.phcLine s line a n write errs).Inv := by
  unfold State.phcLine
  repeat' (first | with_reducible exact hs | with_reducible apply inv_ite | with_reducible apply inv_eccRead
                 | with_reducible apply inv_phcDetect | with_reducible apply inv_phcEcc | with_reducible apply inv_phcFill
                 | with_reducible apply inv_phcReclaim | with_reducible apply inv_putMem | with_reducible apply inv_putWay
                 | with_reducible apply inv_set | with_reducible apply forms_of_inv | with_reducible apply inv_fst ‹_ = (_, _)›
                 | simp only [↓inv_mk] | split | (dsimp only; split))

theorem inv_phcRange {s : State} {a n : Nat} {write : Bool} {errs : List EccErr} (hs : s.Inv) :
    (State.phcRange s a n write errs).Inv := by
  unfold State.phcRange
  repeat' (first | intro _ | with_reducible exact hs | with_reducible assumption | with_reducible apply inv_ite
                 | with_reducible apply inv_foldl | with_reducible apply inv_phcLine | with_reducible apply inv_putMem
                 | with_reducible apply forms_of_inv | simp only [↓inv_mk] | split | (dsimp only; split))

theorem inv_phcSnoop {s : State} {line : Nat} (hs : s.Inv) :
    (State.phcSnoop s line).Inv := by
  unfold State.phcSnoop
  repeat' (first | intro _ | with_reducible exact hs | with_reducible assumption | with_reducible apply inv_ite
                 | with_reducible apply inv_phcEcc | with_reducible apply inv_putMem | with_reducible apply inv_putWay
                 | with_reducible apply forms_of_inv | with_reducible apply inv_fst ‹_ = (_, _)› | simp only [↓inv_mk] | split
                 | (dsimp only; split))

theorem inv_phcSnoopRange {s : State} {a n : Nat} (hs : s.Inv) :
    (State.phcSnoopRange s a n).Inv := by
  unfold State.phcSnoopRange
  repeat' (first | intro _ | with_reducible exact hs | with_reducible assumption | with_reducible apply inv_ite
                 | with_reducible apply inv_foldl | with_reducible apply inv_phcSnoop | split | (dsimp only; split))

theorem inv_phcDrain {s : State} (hs : s.Inv) :
    (State.phcDrain s).Inv := by
  unfold State.phcDrain
  repeat' (first | intro _ | with_reducible exact hs | with_reducible assumption | with_reducible apply inv_ite
                 | with_reducible apply inv_putMem | with_reducible apply forms_of_inv | simp only [↓inv_mk] | split
                 | (dsimp only; split))

theorem inv_phcFlush {s : State} (hs : s.Inv) :
    (State.phcFlush s).Inv := by
  unfold State.phcFlush
  repeat' (first | intro _ | with_reducible exact hs | with_reducible assumption | with_reducible apply inv_putMem
                 | with_reducible apply forms_of_inv | simp only [↓inv_mk])

theorem inv_place {s : State} {a : Nat} {l : List Byte} (hs : s.Inv) :
    (State.place s a l).Inv := by
  unfold State.place
  repeat' (first | intro _ | with_reducible exact hs | with_reducible assumption | with_reducible apply inv_ite
                 | with_reducible apply inv_foldl | with_reducible apply inv_injWrite | with_reducible apply inv_putBytes
                 | with_reducible apply inv_set | split | (dsimp only; split))

theorem inv_store {s : State} {a : Nat} {l : List Byte} (hs : s.Inv) :
    (State.store s a l).Inv := by
  unfold State.store
  repeat' (first | with_reducible exact hs | with_reducible apply inv_phcSnoopRange | with_reducible apply inv_place)

theorem inv_unitStore {s : State} {a : Nat} {l : List Byte} (hs : s.Inv) :
    (State.unitStore s a l).Inv := by
  unfold State.unitStore
  repeat' (first | with_reducible exact hs | with_reducible apply inv_phcRange | with_reducible apply inv_place)

theorem inv_unitWords {s : State} {a : Nat} {l : List Nat} (hs : s.Inv) :
    (State.unitWords s a l).Inv := by
  unfold State.unitWords
  repeat' (first | with_reducible exact hs | with_reducible apply inv_unitStore | with_reducible apply forms_of_inv
                 | simp only [↓inv_mk])

theorem inv_unitReads {s : State} {a n : Nat} {errs : List EccErr} (hs : s.Inv) :
    (State.unitReads s a n errs).Inv := by
  unfold State.unitReads
  repeat' (first | with_reducible exact hs | with_reducible apply inv_phcRange | with_reducible apply forms_of_inv
                 | simp only [↓inv_mk])

theorem inv_storeWords {s : State} {a : Nat} {l : List Nat} (hs : s.Inv) :
    (State.storeWords s a l).Inv := by
  unfold State.storeWords
  repeat' (first | with_reducible exact hs | with_reducible apply inv_store)

theorem inv_bagStore {s : State} {l : List Nat} {off : Nat} {d : List Byte} (hs : s.Inv) :
    (State.bagStore s l off d).Inv := by
  induction l generalizing s off d with
  | nil => exact hs
  | cons h t ih =>
    unfold State.bagStore
    repeat' (first | with_reducible exact hs | with_reducible assumption | with_reducible apply ih | with_reducible apply inv_ite
                   | with_reducible apply inv_store | split | (dsimp only; split))



theorem inv_putLane {s : State} {x : Act} {l : Lane} (hs : s.Inv) :
    (State.putLane s x l).Inv := by
  unfold State.putLane
  repeat' (first | with_reducible exact hs | with_reducible apply inv_set | with_reducible apply inv_store
                 | with_reducible apply forms_of_inv | simp only [↓inv_mk])

theorem inv_putTapBytes {s : State} {x : Act} {e from_ : Nat} {b : List Nat} (hs : s.Inv) :
    (State.putTapBytes s x e from_ b).Inv := by
  unfold State.putTapBytes
  repeat' (first | intro _ | with_reducible exact hs | with_reducible assumption | with_reducible apply inv_foldl
                 | with_reducible apply inv_set)

theorem inv_putRcv {s : State} {r : Recovery} (hs : s.Inv) :
    (State.putRcv s r).Inv := by
  unfold State.putRcv
  repeat' (first | with_reducible exact hs | with_reducible apply inv_set | with_reducible apply forms_of_inv | simp only [↓inv_mk])

theorem inv_mapCodeword {s : State} {x : Act} {c : Codeword} {f : Codeword → Codeword} (hs : s.Inv) :
    (State.mapCodeword s x c f).Inv := by
  unfold State.mapCodeword
  repeat' (first | intro _ | with_reducible exact hs | with_reducible assumption | with_reducible apply inv_ite
                 | with_reducible apply inv_putLane | with_reducible apply inv_store | with_reducible apply forms_of_inv
                 | simp only [↓inv_mk] | split | (dsimp only; split))

theorem inv_laneUnit {s : State} {x : Act} {half : Nat} {c : Codeword} (hs : s.Inv) :
    (State.laneUnit s x half c).1.Inv := by
  unfold State.laneUnit
  repeat' (first | intro _ | with_reducible exact hs | with_reducible assumption | with_reducible apply inv_ite
                 | with_reducible apply inv_mapCodeword | with_reducible apply forms_of_inv
                 | with_reducible apply inv_fst ‹_ = (_, _)› | simp only [↓inv_mk] | split | (dsimp only; split))

theorem inv_workUnit {s : State} {half : Nat} {w : Work} (hs : s.Inv) :
    (State.workUnit s half w).1.Inv := by
  unfold State.workUnit
  repeat' (first | intro _ | with_reducible exact hs | with_reducible assumption | with_reducible apply inv_place
                 | with_reducible apply inv_putRcv | with_reducible apply forms_of_inv | with_reducible apply inv_fst ‹_ = (_, _)›
                 | simp only [↓inv_mk] | split | (dsimp only; split))

theorem inv_setHalf {s : State} {half : Nat} {v : Bool} (hs : s.Inv) :
    (State.setHalf s half v).Inv := by
  unfold State.setHalf
  repeat' (first | with_reducible exact hs | with_reducible apply inv_setBit)

theorem inv_startFrame {s : State} {half : Nat} (hs : s.Inv) :
    (State.startFrame s half).Inv := by
  unfold State.startFrame
  repeat' (first | with_reducible exact hs | with_reducible apply inv_ite | with_reducible apply inv_setHalf
                 | with_reducible apply forms_of_inv | simp only [↓inv_mk] | split | (dsimp only; split))

theorem inv_spend {s : State} {half cls : Nat} (hs : s.Inv) :
    (State.spend s half cls).Inv := by
  unfold State.spend
  repeat' (first | intro _ | with_reducible exact hs | with_reducible assumption | with_reducible apply inv_ite
                 | with_reducible apply inv_set | with_reducible apply forms_of_inv | simp only [↓inv_mk] | split
                 | (dsimp only; split))

theorem inv_classUnit {s : State} {half cls : Nat} (hs : s.Inv) :
    (State.classUnit s half cls).1.Inv := by
  unfold State.classUnit
  repeat' (first | with_reducible exact hs | with_reducible apply inv_ite | with_reducible apply inv_laneUnit
                 | with_reducible apply inv_workUnit | with_reducible apply forms_of_inv | with_reducible apply inv_fst ‹_ = (_, _)›
                 | simp only [↓inv_mk] | split | (dsimp only; split))

theorem inv_poolStep {s t : State} {half : Nat} (hs : s.Inv) (h : s.poolStep half = some t) : t.Inv := by
  unfold State.poolStep at h
  dsimp only at h
  repeat' split at h
  all_goals first
    | cases h
      first
      | exact inv_startFrame hs
      | exact inv_spend (inv_classUnit hs)
      | exact inv_classUnit hs
    | cases h

theorem inv_poolRun {half : Nat} {stop : State → Bool} {n : Nat} {s : State} (hs : s.Inv) : (State.poolRun half stop n s).Inv := by
  induction n generalizing s with
  | zero => exact hs
  | succ n ih =>
    unfold State.poolRun
    split
    · exact hs
    · split
      · exact hs
      · rename_i h
        exact ih (inv_poolStep hs h)

theorem inv_restartWork {s : State} {half : Nat} (hs : s.Inv) :
    (State.restartWork s half).Inv := by
  unfold State.restartWork
  repeat' (first | with_reducible exact hs | with_reducible apply inv_putRcv | with_reducible apply forms_of_inv | simp only [↓inv_mk])

theorem inv_postOffset {s : State} {x : Act} {o : Int} (hs : s.Inv) :
    (State.postOffset s x o).Inv := by
  unfold State.postOffset
  repeat' (first | with_reducible exact hs | with_reducible apply inv_ite | with_reducible apply inv_putMail
                 | with_reducible apply forms_of_inv | simp only [↓inv_mk] | split | (dsimp only; split))

theorem inv_soloTaps {s : State} {p : RecPlace} {trailing : Bool} (hs : s.Inv) :
    (State.soloTaps s p trailing).Inv := by
  unfold State.soloTaps
  repeat' (first | intro _ | with_reducible exact hs | with_reducible assumption | with_reducible apply inv_ite
                 | with_reducible apply inv_putLane | with_reducible apply inv_putTapBytes | with_reducible apply forms_of_inv
                 | simp only [↓inv_mk] | split | (dsimp only; split))

theorem inv_prepareRead {s : State} {p : RecPlace} (hs : s.Inv) :
    (State.prepareRead s p).Inv := by
  unfold State.prepareRead
  repeat' (first | with_reducible exact hs | with_reducible apply inv_postOffset | with_reducible apply inv_soloTaps
                 | with_reducible apply forms_of_inv | simp only [↓inv_mk] | split | (dsimp only; split))

theorem inv_endOffset {s : State} {p : RecPlace} (hs : s.Inv) :
    (State.endOffset s p).Inv := by
  unfold State.endOffset
  repeat' (first | with_reducible exact hs | with_reducible apply inv_ite | with_reducible apply inv_postOffset | split
                 | (dsimp only; split))

theorem inv_putPlace {s : State} {k : Nat} {p : RecPlace} (hs : s.Inv) :
    (State.putPlace s k p).Inv := by
  unfold State.putPlace
  repeat' (first | with_reducible exact hs | with_reducible apply inv_putRcv | with_reducible apply forms_of_inv | simp only [↓inv_mk])

theorem inv_freePlaceRcv {s : State} {k : Nat} (hs : s.Inv) :
    (State.freePlaceRcv s k).Inv := by
  unfold State.freePlaceRcv
  repeat' (first | intro _ | with_reducible exact hs | with_reducible assumption | with_reducible apply inv_endOffset
                 | with_reducible apply inv_place | with_reducible apply inv_putRcv | with_reducible apply forms_of_inv
                 | simp only [↓inv_mk] | split | (dsimp only; split))

theorem inv_ladderEnd {s : State} {p : RecPlace} {rung : Nat} (hs : s.Inv) :
    (State.ladderEnd s p rung).Inv := by
  unfold State.ladderEnd
  repeat' (first | intro _ | with_reducible exact hs | with_reducible assumption | with_reducible apply inv_ite
                 | with_reducible apply inv_ledger | with_reducible apply forms_of_inv | simp only [↓inv_mk] | split
                 | (dsimp only; split))

theorem inv_countRead {s : State} {surface : Nat} (hs : s.Inv) :
    (State.countRead s surface).Inv := by
  unfold State.countRead
  repeat' (first | with_reducible exact hs | with_reducible apply forms_of_inv | simp only [↓inv_mk])

theorem inv_deliverTo {s : State} {data tagAt : Nat} {body : List Nat} (hs : s.Inv) :
    (State.deliverTo s data tagAt body).Inv := by
  unfold State.deliverTo
  repeat' (first | with_reducible exact hs | with_reducible apply inv_store)

theorem inv_ladderDelivers {s : State} {k sum : Nat} {p : RecPlace} {rung : Nat} {info : List Nat} (hs : s.Inv) :
    (State.ladderDelivers s k sum p rung info).Inv := by
  unfold State.ladderDelivers
  repeat' (first | intro _ | with_reducible exact hs | with_reducible assumption | with_reducible apply inv_ite
                 | with_reducible apply inv_deliverTo | with_reducible apply inv_freePlaceRcv | with_reducible apply inv_ladderEnd
                 | with_reducible apply inv_ledger | with_reducible apply inv_putRcv | with_reducible apply forms_of_inv
                 | simp only [↓inv_mk] | split | (dsimp only; split))

theorem inv_toSix {s : State} {k : Nat} {p : RecPlace} (hs : s.Inv) :
    (State.toSix s k p).Inv := by
  unfold State.toSix
  repeat' (first | with_reducible exact hs | with_reducible apply inv_ite | with_reducible apply inv_endOffset
                 | with_reducible apply inv_ladderEnd | with_reducible apply inv_putPlace | with_reducible apply forms_of_inv
                 | simp only [↓inv_mk] | split | (dsimp only; split))

theorem inv_ladderOn {s : State} {k : Nat} {p : RecPlace} {revs : Nat} (hs : s.Inv) :
    (State.ladderOn s k p revs).Inv := by
  unfold State.ladderOn
  repeat' (first | with_reducible exact hs | with_reducible apply inv_ite | with_reducible apply inv_prepareRead
                 | with_reducible apply inv_putPlace | with_reducible apply inv_toSix | with_reducible apply forms_of_inv
                 | simp only [↓inv_mk] | split | (dsimp only; split))

theorem inv_sixDelivers {s : State} {k : Nat} {p : RecPlace} {data : List Nat} {ok : Bool} (hs : s.Inv) :
    (State.sixDelivers s k p data ok).Inv := by
  unfold State.sixDelivers
  repeat' (first | with_reducible exact hs | with_reducible apply inv_ite | with_reducible apply inv_ladderEnd
                 | with_reducible apply inv_putPlace | with_reducible apply forms_of_inv | simp only [↓inv_mk] | split
                 | (dsimp only; split))

theorem inv_abandonLadders {s : State} (hs : s.Inv) :
    (State.abandonLadders s).Inv := by
  unfold State.abandonLadders
  repeat' (first | intro _ | with_reducible exact hs | with_reducible assumption | with_reducible apply inv_foldl
                 | with_reducible apply inv_endOffset | with_reducible apply inv_putRcv | with_reducible apply forms_of_inv
                 | simp only [↓inv_mk])

theorem inv_retireLadders {s : State} {surface : Nat} (hs : s.Inv) :
    (State.retireLadders s surface).Inv := by
  unfold State.retireLadders
  repeat' (first | intro _ | with_reducible exact hs | with_reducible assumption | with_reducible apply inv_ite
                 | with_reducible apply inv_foldl | with_reducible apply inv_toSix | split | (dsimp only; split))

theorem inv_putHost {s : State} {h : HostSide} (hs : s.Inv) :
    (State.putHost s h).Inv := by
  unfold State.putHost
  repeat' (first | with_reducible exact hs | with_reducible apply forms_of_inv | simp only [↓inv_mk])

theorem inv_putCmd {s : State} {serial : Nat} {c : Cmd} (hs : s.Inv) :
    (State.putCmd s serial c).Inv := by
  unfold State.putCmd
  repeat' (first | with_reducible exact hs | with_reducible apply inv_putHost | with_reducible apply forms_of_inv | simp only [↓inv_mk])

theorem inv_answer {s : State} {serial : Nat} {v : Verdict} (hs : s.Inv) :
    (State.answer s serial v).Inv := by
  unfold State.answer
  repeat' (first | with_reducible exact hs | with_reducible apply inv_ite | with_reducible apply inv_putCmd
                 | with_reducible apply forms_of_inv | simp only [↓inv_mk] | split | (dsimp only; split))

theorem inv_answerWith {s : State} {serial dw0 : Nat} {reply : List Nat} {v : Verdict} (hs : s.Inv) :
    (State.answerWith s serial dw0 reply v).Inv := by
  unfold State.answerWith
  repeat' (first | with_reducible exact hs | with_reducible apply inv_ite | with_reducible apply inv_putCmd
                 | with_reducible apply forms_of_inv | simp only [↓inv_mk] | split | (dsimp only; split))

theorem inv_eventAt {s : State} {n : Nat} {a : Assoc} {e : Event} (hs : s.Inv) :
    (State.eventAt s n a e).Inv := by
  unfold State.eventAt
  repeat' (first | with_reducible exact hs | with_reducible apply inv_ite | with_reducible apply inv_answerWith
                 | with_reducible apply inv_putHost | with_reducible apply forms_of_inv | simp only [↓inv_mk] | split
                 | (dsimp only; split))

theorem inv_raiseEvent {s : State} {e : Event} (hs : s.Inv) :
    (State.raiseEvent s e).Inv := by
  unfold State.raiseEvent
  repeat' (first | intro _ | with_reducible exact hs | with_reducible assumption | with_reducible apply inv_foldl
                 | with_reducible apply inv_eventAt)

theorem inv_logError {s : State} {sqid cid : Nat} {st : Status} {nsid lba : Nat} (hs : s.Inv) :
    (State.logError s sqid cid st nsid lba).Inv := by
  unfold State.logError
  repeat' (first | with_reducible exact hs | with_reducible apply inv_putHost | with_reducible apply forms_of_inv | simp only [↓inv_mk])

theorem inv_setCritical {s : State} {bit : Nat} (hs : s.Inv) :
    (State.setCritical s bit).Inv := by
  unfold State.setCritical
  repeat' (first | with_reducible exact hs | with_reducible apply inv_ite | with_reducible apply inv_putHost
                 | with_reducible apply inv_raiseEvent | with_reducible apply inv_setBit | with_reducible apply forms_of_inv
                 | simp only [↓inv_mk] | split | (dsimp only; split))

theorem inv_putOffice {s : State} {o : Office} (hs : s.Inv) :
    (State.putOffice s o).Inv := by
  unfold State.putOffice
  repeat' (first | with_reducible exact hs | with_reducible apply forms_of_inv | simp only [↓inv_mk])

theorem inv_putMap {s : State} {lpn e : Nat} (hs : s.Inv) :
    (State.putMap s lpn e).Inv := by
  unfold State.putMap
  repeat' (first | with_reducible exact hs | with_reducible apply inv_unitStore)

theorem inv_applyTriple {s : State} {t : Nat × Nat × Nat} (hs : s.Inv) :
    (State.applyTriple s t).1.Inv := by
  unfold State.applyTriple
  repeat' (first | with_reducible exact hs | with_reducible apply inv_ite | with_reducible apply inv_inc
                 | with_reducible apply inv_putMap | with_reducible apply forms_of_inv | simp only [↓inv_mk] | split
                 | (dsimp only; split))

theorem inv_applyTriples {s : State} {l : List (Nat × Nat × Nat)} (hs : s.Inv) :
    (State.applyTriples s l).1.Inv := by
  induction l generalizing s with
  | nil => exact hs
  | cons h t ih =>
    unfold State.applyTriples
    repeat' (first | with_reducible exact hs | with_reducible assumption | with_reducible apply ih
                   | with_reducible apply inv_applyTriple)

theorem inv_switchJob {s : State} {ts : List (Nat × Nat × Nat)} (hs : s.Inv) :
    (State.switchJob s ts).1.Inv := by
  unfold State.switchJob
  repeat' (first | with_reducible exact hs | with_reducible apply inv_applyTriples | with_reducible apply inv_set
                 | with_reducible apply forms_of_inv | simp only [↓inv_mk])

theorem inv_sofRefresh {s : State} (hs : s.Inv) :
    (State.sofRefresh s).Inv := by
  unfold State.sofRefresh
  repeat' (first | with_reducible exact hs | with_reducible apply inv_ite | with_reducible apply inv_set | split | (dsimp only; split))

theorem inv_sofResult {s : State} {tag status applied refused seq : Nat} (hs : s.Inv) :
    (State.sofResult s tag status applied refused seq).Inv := by
  unfold State.sofResult
  repeat' (first | with_reducible exact hs | with_reducible apply inv_ite | with_reducible apply inv_set
                 | with_reducible apply inv_sofRefresh | with_reducible apply inv_unitWords | split | (dsimp only; split))

theorem inv_sofTake {s : State} {pick : Nat → Bool} {f : Nat → Nat → Nat → Nat → State → State} (hs : s.Inv) (hf : ∀ x0 x1 x2 x3 s,
    s.Inv → (f x0 x1 x2 x3 s).Inv) :
    (State.sofTake s pick f).Inv := by
  unfold State.sofTake
  repeat' (first | intro _ | with_reducible exact hs | with_reducible assumption | with_reducible apply inv_ite
                 | with_reducible apply inv_set | with_reducible apply inv_sofResult | with_reducible apply hf | split
                 | (dsimp only; split))

theorem inv_journal {s : State} {r : JRec} (hs : s.Inv) :
    (State.journal s r).Inv := by
  unfold State.journal
  repeat' (first | with_reducible exact hs | with_reducible apply inv_putOffice | with_reducible apply forms_of_inv
                 | simp only [↓inv_mk])

theorem inv_floorCheck {s : State} (hs : s.Inv) :
    (State.floorCheck s).Inv := by
  unfold State.floorCheck
  repeat' (first | with_reducible exact hs | with_reducible apply inv_ite | with_reducible apply inv_putOffice
                 | with_reducible apply inv_raiseEvent | with_reducible apply forms_of_inv | simp only [↓inv_mk] | split
                 | (dsimp only; split))

theorem inv_setBands {s : State} {l : List (Nat × Band)} (hs : s.Inv) :
    (State.setBands s l).Inv := by
  unfold State.setBands
  repeat' (first | intro _ | with_reducible exact hs | with_reducible assumption | with_reducible apply inv_foldl
                 | with_reducible apply inv_floorCheck | with_reducible apply inv_journal | with_reducible apply inv_putOffice
                 | with_reducible apply inv_switchJob | with_reducible apply forms_of_inv | simp only [↓inv_mk])

theorem inv_addValid {s : State} {k : Nat} {up : Bool} (hs : s.Inv) :
    (State.addValid s k up).Inv := by
  unfold State.addValid
  repeat' (first | with_reducible exact hs | with_reducible apply inv_ite | with_reducible apply inv_putOffice
                 | with_reducible apply forms_of_inv | simp only [↓inv_mk] | split | (dsimp only; split))

theorem inv_openGroup {s : State} {kind : Nat} (hs : s.Inv) :
    (State.openGroup s kind).Inv := by
  unfold State.openGroup
  repeat' (first | intro _ | with_reducible exact hs | with_reducible assumption | with_reducible apply inv_ite
                 | with_reducible apply inv_putOffice | with_reducible apply inv_setBands | with_reducible apply forms_of_inv
                 | with_reducible apply inv_fst ‹_ = (_, _)› | simp only [↓inv_mk] | split | (dsimp only; split))

theorem inv_closeGroup {s : State} {g : Nat} (hs : s.Inv) :
    (State.closeGroup s g).Inv := by
  unfold State.closeGroup
  repeat' (first | intro _ | with_reducible exact hs | with_reducible assumption | with_reducible apply inv_ite
                 | with_reducible apply inv_putOffice | with_reducible apply inv_setBands | with_reducible apply forms_of_inv
                 | simp only [↓inv_mk] | split | (dsimp only; split))

theorem inv_groupPut {s : State} {kind : Nat} {lpns : List Nat} {pad : Bool} (hs : s.Inv) :
    (State.groupPut s kind lpns pad).1.Inv := by
  unfold State.groupPut
  repeat' (first | intro _ | with_reducible exact hs | with_reducible assumption | with_reducible apply inv_ite
                 | with_reducible apply inv_closeGroup | with_reducible apply inv_openGroup | with_reducible apply inv_putOffice
                 | with_reducible apply forms_of_inv | with_reducible apply inv_fst ‹_ = (_, _)› | simp only [↓inv_mk] | split
                 | (dsimp only; split))

theorem inv_addUnit {s : State} {u : CommitUnit} (hs : s.Inv) :
    (State.addUnit s u).Inv := by
  unfold State.addUnit
  repeat' (first | with_reducible exact hs | with_reducible apply inv_putOffice | with_reducible apply forms_of_inv
                 | simp only [↓inv_mk])

theorem inv_fcPlace {s : State} {lpn mask : Nat} (hs : s.Inv) :
    (State.fcPlace s lpn mask).1.Inv := by
  unfold State.fcPlace
  repeat' (first | intro _ | with_reducible exact hs | with_reducible assumption | with_reducible apply inv_ite
                 | with_reducible apply inv_putOffice | with_reducible apply forms_of_inv | with_reducible apply inv_fst ‹_ = (_, _)›
                 | simp only [↓inv_mk] | split | (dsimp only; split))

theorem inv_fcPlaceAll {s : State} {l : List (Nat × Nat)} {ts : List (Nat × Nat × Nat)} {fs : List (Nat × FcSlot)} (hs : s.Inv) :
    (s.fcPlaceAll l ts fs).1.Inv := by
  induction l generalizing s ts fs with
  | nil => exact hs
  | cons p r ih =>
    obtain ⟨lpn, m⟩ := p
    have hp := inv_fcPlace (lpn := lpn) (mask := m) hs
    unfold State.fcPlaceAll
    split
    · rename_i h
      rw [h] at hp
      exact hp
    · rename_i h
      rw [h] at hp
      exact ih (inv_putOffice hp)

theorem inv_placeUnit {s : State} {lpns : List (Nat × Nat)} {extra : List (Nat × Nat × Nat)} {kind : UnitKind} {tray : List (Nat × Nat
    × Nat)} {key : Option (Nat × Nat × Nat × Nat)} (hs : s.Inv) :
    (State.placeUnit s lpns extra kind tray key).Inv := by
  unfold State.placeUnit
  repeat' (first | intro _ | with_reducible exact hs | with_reducible assumption | with_reducible apply inv_ite
                 | with_reducible apply inv_addUnit | with_reducible apply inv_fcPlaceAll | with_reducible apply inv_putOffice
                 | with_reducible apply forms_of_inv | with_reducible apply inv_fst ‹_ = (_, _)› | simp only [↓inv_mk] | split
                 | (dsimp only; split))

theorem inv_bundleAdd {s : State} {nsid key vlen : Nat} (hs : s.Inv) :
    (State.bundleAdd s nsid key vlen).Inv := by
  unfold State.bundleAdd
  repeat' (first | intro _ | with_reducible exact hs | with_reducible assumption | with_reducible apply inv_foldl
                 | with_reducible apply inv_putOffice | with_reducible apply forms_of_inv | with_reducible apply inv_fst ‹_ = (_, _)›
                 | simp only [↓inv_mk] | split | (dsimp only; split))

theorem inv_putZone {s : State} {nsid k : Nat} {z : HZone} (hs : s.Inv) :
    (State.putZone s nsid k z).Inv := by
  unfold State.putZone
  repeat' (first | with_reducible exact hs | with_reducible apply inv_putHost | with_reducible apply forms_of_inv
                 | simp only [↓inv_mk] | split | (dsimp only; split))

theorem inv_shutBands {s : State} {g : Nat} {members : List Nat} (hs : s.Inv) :
    (State.shutBands s g members).Inv := by
  unfold State.shutBands
  repeat' (first | intro _ | with_reducible exact hs | with_reducible assumption | with_reducible apply inv_ite
                 | with_reducible apply inv_closeGroup | with_reducible apply inv_putOffice | with_reducible apply inv_setBands
                 | with_reducible apply forms_of_inv | with_reducible apply inv_fst ‹_ = (_, _)› | simp only [↓inv_mk] | split
                 | (dsimp only; split))

theorem inv_settleZones {s : State} {g : Nat} (hs : s.Inv) :
    (State.settleZones s g).Inv := by
  unfold State.settleZones
  repeat' (first | intro _ | with_reducible exact hs | with_reducible assumption | with_reducible apply inv_ite
                 | with_reducible apply inv_shutBands | split | (dsimp only; split))

theorem inv_ageZoneSets {s : State} (hs : s.Inv) :
    (State.ageZoneSets s).Inv := by
  unfold State.ageZoneSets
  repeat' (first | intro _ | with_reducible exact hs | with_reducible assumption | with_reducible apply inv_foldl
                 | with_reducible apply inv_shutBands | with_reducible apply forms_of_inv | simp only [↓inv_mk])

theorem inv_bindZone {s : State} {nsid k : Nat} {z : HZone} (hs : s.Inv) :
    (State.bindZone s nsid k z).Inv := by
  unfold State.bindZone
  repeat' (first | intro _ | with_reducible exact hs | with_reducible assumption | with_reducible apply inv_ite
                 | with_reducible apply inv_openGroup | with_reducible apply inv_putZone | with_reducible apply forms_of_inv
                 | with_reducible apply inv_fst ‹_ = (_, _)› | simp only [↓inv_mk] | split | (dsimp only; split))

theorem inv_zoneLag {s : State} {g : Nat} (hs : s.Inv) :
    (State.zoneLag s g).Inv := by
  unfold State.zoneLag
  repeat' (first | intro _ | with_reducible exact hs | with_reducible assumption | with_reducible apply inv_ite
                 | with_reducible apply inv_foldl | with_reducible apply inv_putZone | with_reducible apply forms_of_inv
                 | simp only [↓inv_mk] | split | (dsimp only; split))

theorem inv_zoneUnit {s : State} {g : Nat} (hs : s.Inv) :
    (State.zoneUnit s g).Inv := by
  unfold State.zoneUnit
  repeat' (first | intro _ | with_reducible exact hs | with_reducible assumption | with_reducible apply inv_ite
                 | with_reducible apply inv_addUnit | with_reducible apply forms_of_inv | simp only [↓inv_mk] | split
                 | (dsimp only; split))

theorem inv_placeZone {s : State} {nsid : Nat} {n : Ns} {k : Nat} (hs : s.Inv) :
    (State.placeZone s nsid n k).Inv := by
  unfold State.placeZone
  repeat' (first | intro _ | with_reducible exact hs | with_reducible assumption | with_reducible apply inv_ite
                 | with_reducible apply inv_bindZone | with_reducible apply inv_place | with_reducible apply inv_placeUnit
                 | with_reducible apply inv_putOffice | with_reducible apply inv_putZone | with_reducible apply inv_settleZones
                 | with_reducible apply inv_zoneLag | with_reducible apply inv_zoneUnit | with_reducible apply forms_of_inv
                 | with_reducible apply inv_fst ‹_ = (_, _)› | simp only [↓inv_mk] | split | (dsimp only; split))

theorem inv_leavePlace {s : State} {e seq : Nat} {lpn : Nat} {fcGone : Bool} {reads : Nat} (hs : s.Inv) :
    (State.leavePlace s e seq lpn fcGone reads).Inv := by
  unfold State.leavePlace
  repeat' (first | intro _ | with_reducible exact hs | with_reducible assumption | with_reducible apply inv_ite
                 | with_reducible apply inv_addValid | with_reducible apply inv_putOffice | with_reducible apply forms_of_inv
                 | simp only [↓inv_mk] | split | (dsimp only; split))

theorem inv_settle {s : State} {seq reads : Nat} {slots : List (Nat × FcSlot)} {t : Nat × Nat × Nat} (hs : s.Inv) :
    (State.settle s seq reads slots t).Inv := by
  unfold State.settle
  repeat' (first | intro _ | with_reducible exact hs | with_reducible assumption | with_reducible apply inv_ite
                 | with_reducible apply inv_addValid | with_reducible apply inv_leavePlace | with_reducible apply inv_putOffice
                 | with_reducible apply forms_of_inv | simp only [↓inv_mk] | split | (dsimp only; split))

theorem inv_unlist {s : State} {lpn mask : Nat} (hs : s.Inv) :
    (State.unlist s lpn mask).Inv := by
  unfold State.unlist
  repeat' (first | intro _ | with_reducible exact hs | with_reducible assumption | with_reducible apply inv_ite
                 | with_reducible apply inv_journal | with_reducible apply inv_putOffice | with_reducible apply inv_switchJob
                 | with_reducible apply forms_of_inv | simp only [↓inv_mk] | split | (dsimp only; split))

theorem inv_trayPlaced {s : State} {serial lo n : Nat} (hs : s.Inv) :
    (State.trayPlaced s serial lo n).Inv := by
  unfold State.trayPlaced
  repeat' (first | intro _ | with_reducible exact hs | with_reducible assumption | with_reducible apply inv_ite
                 | with_reducible apply inv_bagReleaseAll | with_reducible apply inv_putHost | with_reducible apply forms_of_inv
                 | simp only [↓inv_mk] | split | (dsimp only; split))

theorem inv_itrayRefresh {s : State} (hs : s.Inv) :
    (State.itrayRefresh s).Inv := by
  unfold State.itrayRefresh
  repeat' (first | intro _ | with_reducible exact hs | with_reducible assumption | with_reducible apply inv_set)

theorem inv_trayDone {s : State} {u : CommitUnit} {done : List (Nat × Nat × Nat)} (hs : s.Inv) :
    (State.trayDone s u done).Inv := by
  unfold State.trayDone
  repeat' (first | intro _ | with_reducible exact hs | with_reducible assumption | with_reducible apply inv_foldl
                 | with_reducible apply inv_trayPlaced)

theorem inv_zonesAgain {s : State} {ts : List (Nat × Nat × Nat)} (hs : s.Inv) :
    (State.zonesAgain s ts).Inv := by
  unfold State.zonesAgain
  repeat' (first | intro _ | with_reducible exact hs | with_reducible assumption | with_reducible apply inv_foldl
                 | with_reducible apply inv_zoneUnit | with_reducible apply forms_of_inv | simp only [↓inv_mk])

theorem inv_failBand {s : State} {surface area : Nat} (hs : s.Inv) :
    (State.failBand s surface area).Inv := by
  unfold State.failBand
  repeat' (first | intro _ | with_reducible exact hs | with_reducible assumption | with_reducible apply inv_ite
                 | with_reducible apply inv_closeGroup | with_reducible apply inv_place | with_reducible apply inv_putOffice
                 | with_reducible apply inv_setBands | with_reducible apply forms_of_inv | simp only [↓inv_mk] | split
                 | (dsimp only; split))

theorem inv_freeGroup {s : State} {g : Nat} {e : Group} (hs : s.Inv) :
    (State.freeGroup s g e).Inv := by
  unfold State.freeGroup
  repeat' (first | intro _ | with_reducible exact hs | with_reducible assumption | with_reducible apply inv_ite
                 | with_reducible apply inv_putOffice | with_reducible apply inv_setBands | with_reducible apply forms_of_inv
                 | simp only [↓inv_mk] | split | (dsimp only; split))

theorem inv_freeGroups {s : State} {opened : Bool} (hs : s.Inv) :
    (State.freeGroups s opened).Inv := by
  unfold State.freeGroups
  repeat' (first | intro _ | with_reducible exact hs | with_reducible assumption | with_reducible apply inv_foldl
                 | with_reducible apply inv_freeGroup | with_reducible apply forms_of_inv | simp only [↓inv_mk])

theorem inv_growPair {s : State} (hs : s.Inv) :
    (State.growPair s).Inv := by
  unfold State.growPair
  repeat' (first | intro _ | with_reducible exact hs | with_reducible assumption | with_reducible apply inv_ite
                 | with_reducible apply inv_putOffice | with_reducible apply inv_setBands | with_reducible apply forms_of_inv
                 | with_reducible apply inv_fst ‹_ = (_, _)› | simp only [↓inv_mk] | split | (dsimp only; split))

theorem inv_growPairs {s : State} {n : Nat} (hs : s.Inv) :
    (State.growPairs s n).Inv := by
  induction n generalizing s with
  | zero => exact hs
  | succ n ih =>
    unfold State.growPairs
    repeat' (first | with_reducible exact hs | with_reducible assumption | with_reducible apply ih | with_reducible apply inv_ite
                   | with_reducible apply inv_growPair | split | (dsimp only; split))

theorem inv_resizeFc {s : State} (hs : s.Inv) :
    (State.resizeFc s).Inv := by
  unfold State.resizeFc
  repeat' (first | intro _ | with_reducible exact hs | with_reducible assumption | with_reducible apply inv_ite
                 | with_reducible apply inv_growPairs | with_reducible apply inv_journal | with_reducible apply inv_putOffice
                 | with_reducible apply inv_setBands | with_reducible apply inv_switchJob | with_reducible apply forms_of_inv
                 | simp only [↓inv_mk] | split | (dsimp only; split))

theorem inv_queueGroup {s : State} {key : Nat} (hs : s.Inv) :
    (State.queueGroup s key).Inv := by
  unfold State.queueGroup
  repeat' (first | with_reducible exact hs | with_reducible apply inv_ite | with_reducible apply inv_putOffice
                 | with_reducible apply forms_of_inv | simp only [↓inv_mk] | split | (dsimp only; split))

theorem inv_forgetKey {s : State} {key : Nat} (hs : s.Inv) :
    (State.forgetKey s key).Inv := by
  unfold State.forgetKey
  repeat' (first | intro _ | with_reducible exact hs | with_reducible assumption | with_reducible apply inv_ite
                 | with_reducible apply inv_putOffice | with_reducible apply forms_of_inv | simp only [↓inv_mk] | split
                 | (dsimp only; split))

theorem inv_placeBundle {s : State} {k : Nat} {b : Bundle} (hs : s.Inv) :
    (State.placeBundle s k b).Inv := by
  unfold State.placeBundle
  repeat' (first | intro _ | with_reducible exact hs | with_reducible assumption | with_reducible apply inv_foldl
                 | with_reducible apply inv_addUnit | with_reducible apply inv_fcPlace | with_reducible apply inv_putOffice
                 | with_reducible apply inv_set | with_reducible apply forms_of_inv | with_reducible apply inv_fst ‹_ = (_, _)›
                 | simp only [↓inv_mk] | split | (dsimp only; split))

theorem inv_unmapAll {s : State} {lpns : List Nat} {type : Nat} (hs : s.Inv) :
    (State.unmapAll s lpns type).Inv := by
  unfold State.unmapAll
  repeat' (first | intro _ | with_reducible exact hs | with_reducible assumption | with_reducible apply inv_ite
                 | with_reducible apply inv_foldl | with_reducible apply inv_journal | with_reducible apply inv_putOffice
                 | with_reducible apply inv_settle | with_reducible apply inv_switchJob | with_reducible apply forms_of_inv
                 | simp only [↓inv_mk] | split | (dsimp only; split))

theorem inv_zoneChanged {s : State} {nsid k : Nat} (hs : s.Inv) :
    (State.zoneChanged s nsid k).Inv := by
  unfold State.zoneChanged
  repeat' (first | with_reducible exact hs | with_reducible apply inv_ite | with_reducible apply inv_putHost
                 | with_reducible apply inv_raiseEvent | with_reducible apply forms_of_inv | simp only [↓inv_mk] | split
                 | (dsimp only; split))

theorem inv_finishZone {s : State} {nsid k : Nat} {z : HZone} {byController : Bool} (hs : s.Inv) :
    (State.finishZone s nsid k z byController).Inv := by
  unfold State.finishZone
  repeat' (first | with_reducible exact hs | with_reducible apply inv_journal | with_reducible apply inv_putZone
                 | with_reducible apply inv_settleZones | with_reducible apply inv_switchJob | with_reducible apply inv_zoneLag
                 | with_reducible apply inv_zoneUnit | with_reducible apply forms_of_inv | with_reducible apply inv_fst ‹_ = (_, _)›
                 | simp only [↓inv_mk] | split | (dsimp only; split))

theorem inv_listUnreadable {s : State} {lpn sector : Nat} (hs : s.Inv) :
    (State.listUnreadable s lpn sector).Inv := by
  unfold State.listUnreadable
  repeat' (first | with_reducible exact hs | with_reducible apply inv_ite | with_reducible apply inv_journal
                 | with_reducible apply inv_putOffice | with_reducible apply inv_setCritical | with_reducible apply inv_switchJob
                 | with_reducible apply forms_of_inv | simp only [↓inv_mk] | split | (dsimp only; split))

theorem inv_deferredError {s : State} {nsid first lpn sector : Nat} (hs : s.Inv) :
    (State.deferredError s nsid first lpn sector).Inv := by
  unfold State.deferredError
  repeat' (first | with_reducible exact hs | with_reducible apply inv_listUnreadable | with_reducible apply inv_logError
                 | with_reducible apply inv_putHost | with_reducible apply inv_raiseEvent | with_reducible apply forms_of_inv
                 | simp only [↓inv_mk])

theorem inv_rebuildBlock {s : State} {a : Nat} (hs : s.Inv) :
    (State.rebuildBlock s a).Inv := by
  unfold State.rebuildBlock
  repeat' (first | with_reducible exact hs | with_reducible apply inv_set | with_reducible apply forms_of_inv | simp only [↓inv_mk]
                 | split | (dsimp only; split))

theorem inv_loseBag {s : State} {a : Nat} (hs : s.Inv) :
    (State.loseBag s a).Inv := by
  unfold State.loseBag
  repeat' (first | intro _ | with_reducible exact hs | with_reducible assumption | with_reducible apply inv_ite
                 | with_reducible apply inv_deferredError | with_reducible apply inv_rebuildBlock
                 | with_reducible apply inv_trayPlaced | with_reducible apply forms_of_inv | with_reducible apply inv_fst ‹_ = (_, _)›
                 | simp only [↓inv_mk] | split | (dsimp only; split))

theorem inv_dramRead {s : State} {a n : Nat} {errs : List EccErr} (hs : s.Inv) :
    (State.dramRead s a n errs).Inv := by
  unfold State.dramRead
  repeat' (first | intro _ | with_reducible exact hs | with_reducible assumption | with_reducible apply inv_foldl
                 | with_reducible apply inv_eccRead | with_reducible apply inv_loseBag | with_reducible apply forms_of_inv
                 | simp only [↓inv_mk])

theorem inv_unitRead {s : State} {a n : Nat} {errs : List EccErr} (hs : s.Inv) :
    (State.unitRead s a n errs).Inv := by
  unfold State.unitRead
  repeat' (first | intro _ | with_reducible exact hs | with_reducible assumption | with_reducible apply inv_foldl
                 | with_reducible apply inv_loseBag | with_reducible apply inv_unitReads)

theorem inv_dmaRefresh {s : State} {c : Nat} (hs : s.Inv) :
    (State.dmaRefresh s c).Inv := by
  unfold State.dmaRefresh
  repeat' (first | with_reducible exact hs | with_reducible apply inv_ite | with_reducible apply inv_set | split | (dsimp only; split))

theorem inv_dmaInt {s : State} {c : Nat} (hs : s.Inv) :
    (State.dmaInt s c).Inv := by
  unfold State.dmaInt
  repeat' (first | with_reducible exact hs | with_reducible apply inv_ite | with_reducible apply inv_setBit | split
                 | (dsimp only; split))

theorem inv_docketEnd {s : State} {c st moved at_ : Nat} (hs : s.Inv) :
    (State.docketEnd s c st moved at_).Inv := by
  unfold State.docketEnd
  repeat' (first | with_reducible exact hs | with_reducible apply inv_ite | with_reducible apply inv_dmaInt
                 | with_reducible apply inv_dmaRefresh | with_reducible apply inv_event | with_reducible apply inv_set
                 | with_reducible apply inv_setAll | with_reducible apply inv_storeWords | split | (dsimp only; split))

theorem inv_fabricHit {s : State} (hs : s.Inv) :
    (State.fabricHit s).Inv := by
  unfold State.fabricHit
  repeat' (first | with_reducible exact hs | with_reducible apply inv_ite | with_reducible apply inv_set | split | (dsimp only; split))

theorem inv_runDocket {s : State} {c op : Nat} {errs : List EccErr} {fab : Fabric} (hs : s.Inv) :
    (State.runDocket s c op errs fab).Inv := by
  unfold State.runDocket
  repeat' (first | intro _ | with_reducible exact hs | with_reducible assumption | with_reducible apply inv_ite
                 | with_reducible apply inv_asInjected | with_reducible apply inv_bagRelease | with_reducible apply inv_docketEnd
                 | with_reducible apply inv_dramRead | with_reducible apply inv_fabricHit | with_reducible apply inv_store
                 | with_reducible apply inv_storeWords | with_reducible apply forms_of_inv | with_reducible apply inv_fst ‹_ = (_, _)›
                 | simp only [↓inv_mk] | split | (dsimp only; split))

theorem inv_takeDocket {s : State} {c : Nat} {pick : Nat → Bool} {errs : List EccErr} {fab : Fabric} (hs : s.Inv) :
    (State.takeDocket s c pick errs fab).Inv := by
  unfold State.takeDocket
  repeat' (first | intro _ | with_reducible exact hs | with_reducible assumption | with_reducible apply inv_ite
                 | with_reducible apply inv_docketEnd | with_reducible apply inv_runDocket | split | (dsimp only; split))

theorem inv_stopDockets {s : State} {c : Nat} {n : Nat} (hs : s.Inv) :
    (State.stopDockets s c n).Inv := by
  induction n generalizing s with
  | zero => exact hs
  | succ n ih =>
    unfold State.stopDockets
    repeat' (first | with_reducible exact hs | with_reducible assumption | with_reducible apply ih
                   | with_reducible apply inv_docketEnd | with_reducible apply forms_of_inv | simp only [↓inv_mk])

theorem inv_nfcRefresh {s : State} (hs : s.Inv) :
    (State.nfcRefresh s).Inv := by
  unfold State.nfcRefresh
  repeat' (first | intro _ | with_reducible exact hs | with_reducible assumption | with_reducible apply inv_ite
                 | with_reducible apply inv_foldl | with_reducible apply inv_setAll | split | (dsimp only; split))

theorem inv_nandEnd {s : State} {k p st maxBits : Nat} (hs : s.Inv) :
    (State.nandEnd s k p st maxBits).Inv := by
  unfold State.nandEnd
  repeat' (first | with_reducible exact hs | with_reducible apply inv_ite | with_reducible apply inv_nfcRefresh
                 | with_reducible apply inv_set | with_reducible apply inv_storeWords | with_reducible apply forms_of_inv
                 | simp only [↓inv_mk] | split | (dsimp only; split))

theorem inv_nandTake {s : State} {k : Nat} {pick : Nat → Bool} {busErr : Bool} {f : Nat → Nat → Nat → Nat → Nat → State → State × Nat
    × Nat} (hs : s.Inv) (hf : ∀ x0 x1 x2 x3 x4 s, s.Inv → (f x0 x1 x2 x3 x4 s).1.Inv) :
    (State.nandTake s k pick busErr f).Inv := by
  unfold State.nandTake
  repeat' (first | intro _ | with_reducible exact hs | with_reducible assumption | with_reducible apply inv_ite
                 | with_reducible apply inv_nandEnd | with_reducible apply hf | with_reducible apply forms_of_inv
                 | with_reducible apply inv_fst ‹_ = (_, _)› | simp only [↓inv_mk] | split | (dsimp only; split))

theorem inv_putNand {l : List Byte} {a : Nat} {s : State} (hs : s.Inv) : (s.putNand a l).Inv := by
  induction l generalizing s a with
  | nil => exact hs
  | cons b t ih => exact ih ⟨hs.1, hs.2.1, sWf_sPut _ _ hs.2.2.1, hs.2.2.2⟩

theorem inv_eraseNand {s : State} {a n : Nat} (hs : s.Inv) : (s.eraseNand a n).Inv :=
  ⟨hs.1, hs.2.1, sWf_filter _ hs.2.2.1, hs.2.2.2⟩

theorem inv_nandReplace {s : State} {die : Nat} {fails : Bool} (hs : s.Inv) :
    (State.nandReplace s die fails).1.Inv := by
  unfold State.nandReplace
  repeat' (first | with_reducible exact hs | with_reducible apply inv_ite | with_reducible apply inv_inc
                 | with_reducible apply forms_of_inv | simp only [↓inv_mk] | split | (dsimp only; split))


theorem inv_putCons {s : State} {c : Consign} (hs : s.Inv) :
    (State.putCons s c).Inv := by
  unfold State.putCons
  repeat' (first | with_reducible exact hs | with_reducible apply forms_of_inv | simp only [↓inv_mk])

theorem inv_cnsRefresh {s : State} (hs : s.Inv) :
    (State.cnsRefresh s).Inv := by
  unfold State.cnsRefresh
  repeat' (first | with_reducible exact hs | with_reducible apply inv_ite | with_reducible apply inv_set | split | (dsimp only; split))

theorem inv_cnsResult {s : State} {tag status sector : Nat} (hs : s.Inv) :
    (State.cnsResult s tag status sector).Inv := by
  unfold State.cnsResult
  repeat' (first | with_reducible exact hs | with_reducible apply inv_ite | with_reducible apply inv_cnsRefresh
                 | with_reducible apply inv_set | with_reducible apply inv_unitWords | split | (dsimp only; split))

theorem inv_cnsTake {s : State} {pick : Nat → Bool} {f : CnsJob → State → State} (hs : s.Inv) (hf : ∀ x0 s, s.Inv → (f x0 s).Inv) :
    (State.cnsTake s pick f).Inv := by
  unfold State.cnsTake
  repeat' (first | intro _ | with_reducible exact hs | with_reducible assumption | with_reducible apply inv_ite
                 | with_reducible apply inv_cnsResult | with_reducible apply inv_set | with_reducible apply hf | split
                 | (dsimp only; split))

theorem inv_cnsCrypt {s : State} {decrypt : Bool} {j : CnsJob} {errs : List EccErr} (hs : s.Inv) :
    (State.cnsCrypt s decrypt j errs).Inv := by
  unfold State.cnsCrypt
  repeat' (first | intro _ | with_reducible exact hs | with_reducible assumption | with_reducible apply inv_ite
                 | with_reducible apply inv_cnsResult | with_reducible apply inv_unitRead | with_reducible apply inv_unitStore
                 | with_reducible apply forms_of_inv | with_reducible apply inv_fst ‹_ = (_, _)› | simp only [↓inv_mk] | split
                 | (dsimp only; split))

theorem inv_membersEcc {s : State} {ms : List Nat} {n : Nat} {skip : Nat → Bool} {errs : List EccErr} (hs : s.Inv) :
    (State.membersEcc s ms n skip errs).Inv := by
  unfold State.membersEcc
  repeat' (first | intro _ | with_reducible exact hs | with_reducible assumption | with_reducible apply inv_ite
                 | with_reducible apply inv_foldl | with_reducible apply inv_unitRead | with_reducible apply forms_of_inv
                 | simp only [↓inv_mk] | split | (dsimp only; split))

theorem inv_writeMembers {s : State} {ms : List Nat} {n : Nat} {out pick : Nat → Bool} (hs : s.Inv) :
    (State.writeMembers s ms n out pick).Inv := by
  unfold State.writeMembers
  repeat' (first | intro _ | with_reducible exact hs | with_reducible assumption | with_reducible apply inv_ite
                 | with_reducible apply inv_foldl | with_reducible apply inv_unitStore | split | (dsimp only; split))

theorem inv_decodeServes {s : State} {ms : List Nat} {n mask : Nat} {ok : Bool} (hs : s.Inv) :
    (State.decodeServes s ms n mask ok).Inv := by
  unfold State.decodeServes
  repeat' (first | intro _ | with_reducible exact hs | with_reducible assumption | with_reducible apply inv_foldl
                 | with_reducible apply inv_sixDelivers | with_reducible apply inv_store | with_reducible apply forms_of_inv
                 | simp only [↓inv_mk])

theorem inv_putKey {s : State} {slot : Nat} {key : Option Nat} (hs : s.Inv) :
    (State.putKey s slot key).Inv := by
  unfold State.putKey
  repeat' (first | with_reducible exact hs | with_reducible apply inv_ite | with_reducible apply inv_putCons
                 | with_reducible apply inv_setBit | with_reducible apply forms_of_inv | with_reducible apply inv_fst ‹_ = (_, _)›
                 | simp only [↓inv_mk] | split | (dsimp only; split))

theorem inv_keyOp {s : State} {i : Initiator} {op slot : Nat} {f : State → State} (hs : s.Inv) (hf : ∀ s, s.Inv → (f s).Inv) :
    (State.keyOp s i op slot f).Inv := by
  unfold State.keyOp
  repeat' (first | intro _ | with_reducible exact hs | with_reducible assumption | with_reducible apply inv_access
                 | with_reducible apply inv_setAll | with_reducible apply hf | with_reducible apply forms_of_inv
                 | simp only [↓inv_mk])

theorem inv_generateKey {s : State} {slot : Nat} (hs : s.Inv) :
    (State.generateKey s slot).Inv := by
  unfold State.generateKey
  repeat' (first | with_reducible exact hs | with_reducible apply inv_putCons | with_reducible apply inv_putKey
                 | with_reducible apply forms_of_inv | simp only [↓inv_mk])

theorem inv_clearKeys {s : State} (hs : s.Inv) :
    (State.clearKeys s).Inv := by
  unfold State.clearKeys
  repeat' (first | with_reducible exact hs | with_reducible apply inv_putCons | with_reducible apply inv_setAll
                 | with_reducible apply forms_of_inv | simp only [↓inv_mk])

theorem inv_setPos {s : State} {i surface : Nat} (hs : s.Inv) :
    (State.setPos s i surface).Inv := by
  unfold State.setPos
  repeat' (first | with_reducible exact hs | with_reducible apply inv_set | with_reducible apply forms_of_inv | simp only [↓inv_mk]
                 | split | (dsimp only; split))

theorem inv_listParcel {s : State} {lpn mask : Nat} (hs : s.Inv) :
    (State.listParcel s lpn mask).Inv := by
  unfold State.listParcel
  repeat' (first | intro _ | with_reducible exact hs | with_reducible assumption | with_reducible apply inv_foldl
                 | with_reducible apply inv_listUnreadable | with_reducible apply forms_of_inv | simp only [↓inv_mk])

theorem inv_listLost {s : State} (hs : s.Inv) :
    (State.listLost s).Inv := by
  unfold State.listLost
  repeat' (first | intro _ | with_reducible exact hs | with_reducible assumption | with_reducible apply inv_ite
                 | with_reducible apply inv_foldl | with_reducible apply inv_listParcel | split | (dsimp only; split))

theorem inv_planRebuild {s : State} {surfaces : List Nat} (hs : s.Inv) :
    (State.planRebuild s surfaces).Inv := by
  unfold State.planRebuild
  repeat' (first | intro _ | with_reducible exact hs | with_reducible assumption | with_reducible apply inv_ite
                 | with_reducible apply inv_putCons | with_reducible apply inv_putOffice | with_reducible apply inv_setBands
                 | with_reducible apply forms_of_inv | simp only [↓inv_mk] | split | (dsimp only; split))

theorem inv_rebuildEnded {s : State} {surface : Nat} (hs : s.Inv) :
    (State.rebuildEnded s surface).Inv := by
  unfold State.rebuildEnded
  repeat' (first | with_reducible exact hs | with_reducible apply inv_ledger | with_reducible apply inv_putCons
                 | with_reducible apply inv_raiseEvent | with_reducible apply forms_of_inv | simp only [↓inv_mk])

theorem inv_retireHead {s : State} {surface trigger : Nat} (hs : s.Inv) :
    (State.retireHead s surface trigger).Inv := by
  unfold State.retireHead
  repeat' (first | intro _ | with_reducible exact hs | with_reducible assumption | with_reducible apply inv_foldl
                 | with_reducible apply inv_failBand | with_reducible apply inv_ledger | with_reducible apply inv_listLost
                 | with_reducible apply inv_planRebuild | with_reducible apply inv_raiseEvent | with_reducible apply inv_retire
                 | with_reducible apply inv_retireLadders | with_reducible apply inv_saveDev | with_reducible apply inv_setBit
                 | with_reducible apply inv_setPos | with_reducible apply forms_of_inv | with_reducible apply inv_fst ‹_ = (_, _)›
                 | simp only [↓inv_mk] | split | (dsimp only; split))

theorem inv_rebuildPair {s : State} {lost new : Nat × Nat} (hs : s.Inv) :
    (State.rebuildPair s lost new).Inv := by
  unfold State.rebuildPair
  repeat' (first | intro _ | with_reducible exact hs | with_reducible assumption | with_reducible apply inv_ite
                 | with_reducible apply inv_foldl | with_reducible apply inv_journal | with_reducible apply inv_putOffice
                 | with_reducible apply inv_switchJob | with_reducible apply forms_of_inv | simp only [↓inv_mk] | split
                 | (dsimp only; split))

theorem inv_rebuildMember {s : State} {g : Nat} {e : Group} {lost new : Nat × Nat} (hs : s.Inv) :
    (State.rebuildMember s g e lost new).Inv := by
  unfold State.rebuildMember
  repeat' (first | intro _ | with_reducible exact hs | with_reducible assumption | with_reducible apply inv_ite
                 | with_reducible apply inv_foldl | with_reducible apply inv_journal | with_reducible apply inv_putOffice
                 | with_reducible apply inv_set | with_reducible apply inv_setBands | with_reducible apply inv_settle
                 | with_reducible apply inv_switchJob | with_reducible apply forms_of_inv | simp only [↓inv_mk] | split
                 | (dsimp only; split))

theorem inv_unitDone {s : State} {surface : Nat} {count : Bool} (hs : s.Inv) :
    (State.unitDone s surface count).Inv := by
  unfold State.unitDone
  repeat' (first | with_reducible exact hs | with_reducible apply inv_ite | with_reducible apply inv_putCons
                 | with_reducible apply inv_rebuildEnded | with_reducible apply forms_of_inv | simp only [↓inv_mk] | split
                 | (dsimp only; split))

theorem inv_mapOp {s : State} {x : Act} {serial : Nat} {f : LaneOp → LaneOp} (hs : s.Inv) :
    (State.mapOp s x serial f).Inv := by
  unfold State.mapOp
  repeat' (first | intro _ | with_reducible exact hs | with_reducible assumption | with_reducible apply inv_ite
                 | with_reducible apply inv_putLane | with_reducible apply forms_of_inv | simp only [↓inv_mk] | split
                 | (dsimp only; split))

theorem inv_complete {s : State} {x : Act} {o : LaneOp} (hs : s.Inv) :
    (State.complete s x o).Inv := by
  unfold State.complete
  repeat' (first | intro _ | with_reducible exact hs | with_reducible assumption | with_reducible apply inv_ite
                 | with_reducible apply inv_set | with_reducible apply inv_store | with_reducible apply inv_storeWords | split
                 | (dsimp only; split))

theorem inv_laneRest {s : State} {x : Act} (hs : s.Inv) :
    (State.laneRest s x).Inv := by
  unfold State.laneRest
  repeat' (first | with_reducible exact hs | with_reducible apply inv_ite | with_reducible apply inv_set
                 | with_reducible apply forms_of_inv | simp only [↓inv_mk] | split | (dsimp only; split))

theorem inv_flushRing {s : State} {x : Act} {n : Nat} (hs : s.Inv) :
    (State.flushRing s x n).Inv := by
  induction n generalizing s with
  | zero => exact hs
  | succ n ih =>
    unfold State.flushRing
    repeat' (first | with_reducible exact hs | with_reducible assumption | with_reducible apply ih | with_reducible apply inv_ite
                   | with_reducible apply inv_complete | with_reducible apply inv_set | with_reducible apply forms_of_inv
                   | simp only [↓inv_mk] | split | (dsimp only; split))

theorem inv_abortOn {s : State} {x : Act} (hs : s.Inv) :
    (State.abortOn s x).Inv := by
  unfold State.abortOn
  repeat' (first | with_reducible exact hs | with_reducible apply inv_ite | with_reducible apply inv_flushRing
                 | with_reducible apply inv_set | split | (dsimp only; split))

theorem inv_measureSkew {s : State} {x : Act} {head : Nat} {m : SkewRun} (hs : s.Inv) :
    (State.measureSkew s x head m).Inv := by
  unfold State.measureSkew
  repeat' (first | with_reducible exact hs | with_reducible apply inv_ite | with_reducible apply inv_set
                 | with_reducible apply forms_of_inv | simp only [↓inv_mk] | split | (dsimp only; split))

theorem inv_beginOp {s : State} {x : Act} {o : LaneOp} (hs : s.Inv) :
    (State.beginOp s x o).Inv := by
  unfold State.beginOp
  repeat' (first | with_reducible exact hs | with_reducible apply inv_ite | with_reducible apply inv_emit
                 | with_reducible apply inv_putLane | with_reducible apply inv_set | with_reducible apply forms_of_inv
                 | simp only [↓inv_mk] | split | (dsimp only; split))

theorem inv_takeOp {s : State} {x : Act} {pick : Nat → Bool} {f : LaneOp → State → State} (hs : s.Inv) (hf : ∀ x0 s, s.Inv → (f x0
    s).Inv) :
    (State.takeOp s x pick f).Inv := by
  unfold State.takeOp
  repeat' (first | intro _ | with_reducible exact hs | with_reducible assumption | with_reducible apply inv_ite
                 | with_reducible apply inv_beginOp | with_reducible apply inv_complete | with_reducible apply inv_laneRest
                 | with_reducible apply inv_set | with_reducible apply hf | with_reducible apply forms_of_inv
                 | with_reducible apply inv_fst ‹_ = (_, _)› | simp only [↓inv_mk] | split | (dsimp only; split))

theorem inv_decide {s : State} {x : Act} {serial k code : Nat} (hs : s.Inv) :
    (State.decide s x serial k code).Inv := by
  unfold State.decide
  repeat' (first | intro _ | with_reducible exact hs | with_reducible assumption | with_reducible apply inv_mapOp
                 | with_reducible apply forms_of_inv | simp only [↓inv_mk])

theorem inv_loseRev {s : State} {x : Act} {serial : Nat} (hs : s.Inv) :
    (State.loseRev s x serial).Inv := by
  unfold State.loseRev
  repeat' (first | intro _ | with_reducible exact hs | with_reducible assumption | with_reducible apply inv_inc
                 | with_reducible apply inv_mapOp | with_reducible apply forms_of_inv | simp only [↓inv_mk])

theorem inv_endOp {s : State} {x : Act} {serial status : Nat} (hs : s.Inv) :
    (State.endOp s x serial status).Inv := by
  unfold State.endOp
  repeat' (first | intro _ | with_reducible exact hs | with_reducible assumption | with_reducible apply inv_ite
                 | with_reducible apply inv_mapOp | with_reducible apply forms_of_inv | simp only [↓inv_mk] | split
                 | (dsimp only; split))

theorem inv_offMedia {s : State} {x : Act} {o : LaneOp} (hs : s.Inv) :
    (State.offMedia s x o).Inv := by
  unfold State.offMedia
  repeat' (first | intro _ | with_reducible exact hs | with_reducible assumption | with_reducible apply inv_ite
                 | with_reducible apply inv_emit | with_reducible apply inv_laneRest | with_reducible apply inv_mapOp
                 | with_reducible apply inv_putLane | with_reducible apply inv_set | with_reducible apply forms_of_inv
                 | simp only [↓inv_mk] | split | (dsimp only; split))

theorem inv_checkMedia {s : State} {x : Act} (hs : s.Inv) :
    (State.checkMedia s x).Inv := by
  unfold State.checkMedia
  repeat' (first | with_reducible exact hs | with_reducible apply inv_ite | with_reducible apply inv_offMedia
                 | with_reducible apply forms_of_inv | with_reducible apply inv_fst ‹_ = (_, _)› | simp only [↓inv_mk] | split
                 | (dsimp only; split))

theorem inv_endSector {s : State} {x : Act} (hs : s.Inv) :
    (State.endSector s x).Inv := by
  unfold State.endSector
  repeat' (first | with_reducible exact hs | with_reducible apply inv_ite | with_reducible apply inv_checkMedia
                 | with_reducible apply inv_putLane | with_reducible apply inv_set | with_reducible apply forms_of_inv
                 | with_reducible apply inv_fst ‹_ = (_, _)› | simp only [↓inv_mk] | split | (dsimp only; split))

theorem inv_wedgePass {s : State} {x : Act} (hs : s.Inv) :
    (State.wedgePass s x).Inv := by
  unfold State.wedgePass
  repeat' (first | with_reducible exact hs | with_reducible apply inv_ite | with_reducible apply inv_endSector
                 | with_reducible apply inv_putLane | with_reducible apply inv_set | with_reducible apply forms_of_inv
                 | with_reducible apply inv_fst ‹_ = (_, _)› | simp only [↓inv_mk] | split | (dsimp only; split))

theorem inv_wedgeDone {s : State} {x : Act} (hs : s.Inv) :
    (State.wedgeDone s x).Inv := by
  unfold State.wedgeDone
  repeat' (first | with_reducible exact hs | with_reducible apply inv_ite | with_reducible apply inv_putLane
                 | with_reducible apply inv_set | with_reducible apply forms_of_inv | with_reducible apply inv_fst ‹_ = (_, _)›
                 | simp only [↓inv_mk] | split | (dsimp only; split))

theorem inv_afeNext {s : State} {x : Act} {o : LaneOp} {samples : List Int} (hs : s.Inv) :
    (State.afeNext s x o samples).Inv := by
  unfold State.afeNext
  repeat' (first | with_reducible exact hs | with_reducible apply inv_putLane | with_reducible apply forms_of_inv | simp only [↓inv_mk])

theorem inv_freeStore {s : State} {x : Act} {c : Codeword} (hs : s.Inv) :
    (State.freeStore s x c).Inv := by
  unfold State.freeStore
  repeat' (first | intro _ | with_reducible exact hs | with_reducible assumption | with_reducible apply inv_putLane
                 | with_reducible apply inv_store | with_reducible apply forms_of_inv | simp only [↓inv_mk])

theorem inv_handOver {s : State} {x : Act} {c : Codeword} {code : Nat} (hs : s.Inv) :
    (State.handOver s x c code).Inv := by
  unfold State.handOver
  repeat' (first | intro _ | with_reducible exact hs | with_reducible assumption | with_reducible apply inv_ite
                 | with_reducible apply inv_decide | with_reducible apply inv_freeStore | with_reducible apply inv_inc
                 | with_reducible apply inv_mapCodeword | with_reducible apply inv_putRcv | with_reducible apply forms_of_inv
                 | simp only [↓inv_mk] | split | (dsimp only; split))

theorem inv_startRead {s : State} {x : Act} {o : LaneOp} {k : Nat} {sig : List Stretch} (hs : s.Inv) :
    (State.startRead s x o k sig).Inv := by
  unfold State.startRead
  repeat' (first | intro _ | with_reducible exact hs | with_reducible assumption | with_reducible apply inv_ite
                 | with_reducible apply inv_afeNext | with_reducible apply inv_countRead | with_reducible apply inv_decide
                 | with_reducible apply inv_handOver | with_reducible apply inv_inc | with_reducible apply inv_mapOp
                 | with_reducible apply inv_putLane | with_reducible apply inv_putTapBytes | with_reducible apply inv_set
                 | with_reducible apply inv_store | with_reducible apply forms_of_inv | with_reducible apply inv_fst ‹_ = (_, _)›
                 | simp only [↓inv_mk] | split | (dsimp only; split))

theorem inv_startWrite {s : State} {x : Act} {o : LaneOp} {k : Nat} {sig : List Stretch} (hs : s.Inv) :
    (State.startWrite s x o k sig).Inv := by
  unfold State.startWrite
  repeat' (first | intro _ | with_reducible exact hs | with_reducible assumption | with_reducible apply inv_ite
                 | with_reducible apply inv_afeNext | with_reducible apply inv_emit | with_reducible apply inv_inc
                 | with_reducible apply inv_mapOp | with_reducible apply inv_putLane | with_reducible apply inv_set
                 | with_reducible apply inv_store | with_reducible apply forms_of_inv | simp only [↓inv_mk] | split
                 | (dsimp only; split))

theorem inv_tryWrite {s : State} {x : Act} {o : LaneOp} {k : Nat} {dataReady dataError : Bool} {sig : List Stretch} (hs : s.Inv) :
    (State.tryWrite s x o k dataReady dataError sig).Inv := by
  unfold State.tryWrite
  repeat' (first | intro _ | with_reducible exact hs | with_reducible assumption | with_reducible apply inv_ite
                 | with_reducible apply inv_checkMedia | with_reducible apply inv_decide | with_reducible apply inv_eccRead
                 | with_reducible apply inv_endOp | with_reducible apply inv_loseRev | with_reducible apply inv_mapOp
                 | with_reducible apply inv_offMedia | with_reducible apply inv_set | with_reducible apply inv_startWrite
                 | with_reducible apply inv_store | with_reducible apply forms_of_inv | with_reducible apply inv_fst ‹_ = (_, _)›
                 | simp only [↓inv_mk] | split | (dsimp only; split))

theorem inv_measureOn {s : State} {x : Act} {o : LaneOp} {m : SkewRun} {sector : Nat} {sig : List Stretch} (hs : s.Inv) :
    (State.measureOn s x o m sector sig).Inv := by
  unfold State.measureOn
  repeat' (first | intro _ | with_reducible exact hs | with_reducible assumption | with_reducible apply inv_ite
                 | with_reducible apply inv_mapOp | with_reducible apply inv_measureSkew | with_reducible apply forms_of_inv
                 | simp only [↓inv_mk] | split | (dsimp only; split))

theorem inv_takeSector {s : State} {x : Act} {o : LaneOp} {sector : Nat} {dataReady dataError : Bool} {sig : List Stretch} (hs :
    s.Inv) :
    (State.takeSector s x o sector dataReady dataError sig).Inv := by
  unfold State.takeSector
  repeat' (first | with_reducible exact hs | with_reducible apply inv_ite | with_reducible apply inv_checkMedia
                 | with_reducible apply inv_endOp | with_reducible apply inv_loseRev | with_reducible apply inv_set
                 | with_reducible apply inv_startRead | with_reducible apply inv_store | with_reducible apply inv_tryWrite
                 | with_reducible apply forms_of_inv | simp only [↓inv_mk] | split | (dsimp only; split))

theorem inv_decodeOn {s : State} {x : Act} {c : Codeword} {half : Nat} (hs : s.Inv) :
    (State.decodeOn s x c half).Inv := by
  unfold State.decodeOn
  repeat' (first | intro _ | with_reducible exact hs | with_reducible assumption | with_reducible apply inv_poolRun
                 | with_reducible apply inv_store)

theorem inv_passedBy {s : State} {x : Act} {c : Codeword} (hs : s.Inv) :
    (State.passedBy s x c).Inv := by
  unfold State.passedBy
  repeat' (first | intro _ | with_reducible exact hs | with_reducible assumption | with_reducible apply inv_ite
                 | with_reducible apply inv_endSector | split | (dsimp only; split))

theorem inv_mirrorServes {s : State} {x : Act} {c : Codeword} {body : List Nat} (hs : s.Inv) :
    (State.mirrorServes s x c body).Inv := by
  unfold State.mirrorServes
  repeat' (first | intro _ | with_reducible exact hs | with_reducible assumption | with_reducible apply inv_ite
                 | with_reducible apply inv_foldl | with_reducible apply inv_sixDelivers | with_reducible apply forms_of_inv
                 | simp only [↓inv_mk] | split | (dsimp only; split))

theorem inv_takePlace {s : State} {k : Nat} {p : RecPlace} (hs : s.Inv) :
    (State.takePlace s k p).Inv := by
  unfold State.takePlace
  repeat' (first | with_reducible exact hs | with_reducible apply inv_ite | with_reducible apply inv_ladderOn
                 | with_reducible apply inv_putRcv | with_reducible apply forms_of_inv | simp only [↓inv_mk] | split
                 | (dsimp only; split))

theorem inv_noteNotPlaced {s : State} {x : Act} {o : LaneOp} (hs : s.Inv) :
    (State.noteNotPlaced s x o).Inv := by
  unfold State.noteNotPlaced
  repeat' (first | intro _ | with_reducible exact hs | with_reducible assumption | with_reducible apply inv_ite
                 | with_reducible apply inv_foldl | with_reducible apply inv_putLane | with_reducible apply forms_of_inv
                 | simp only [↓inv_mk] | split | (dsimp only; split))

theorem inv_writeTaps {s : State} {x : Act} {o : LaneOp} (hs : s.Inv) :
    (State.writeTaps s x o).Inv := by
  unfold State.writeTaps
  repeat' (first | intro _ | with_reducible exact hs | with_reducible assumption | with_reducible apply inv_ite
                 | with_reducible apply inv_putTapBytes | split | (dsimp only; split))

theorem inv_noteMove {s : State} {x : Act} {o : LaneOp} (hs : s.Inv) :
    (State.noteMove s x o).Inv := by
  unfold State.noteMove
  repeat' (first | intro _ | with_reducible exact hs | with_reducible assumption | with_reducible apply inv_ite
                 | with_reducible apply inv_place | with_reducible apply inv_putRcv | with_reducible apply forms_of_inv
                 | simp only [↓inv_mk] | split | (dsimp only; split))

theorem inv_laneAbort {s : State} {x : Act} (hs : s.Inv) :
    (State.laneAbort s x).Inv := by
  unfold State.laneAbort
  repeat' (first | with_reducible exact hs | with_reducible apply inv_abortOn | with_reducible apply inv_checkMedia
                 | with_reducible apply inv_endOp | with_reducible apply inv_set | with_reducible apply forms_of_inv
                 | with_reducible apply inv_fst ‹_ = (_, _)› | simp only [↓inv_mk] | split | (dsimp only; split))

theorem inv_releaseHalf {s : State} {half : Nat} (hs : s.Inv) :
    (State.releaseHalf s half).Inv := by
  unfold State.releaseHalf
  repeat' (first | intro _ | with_reducible exact hs | with_reducible assumption | with_reducible apply inv_foldl
                 | with_reducible apply inv_putLane | with_reducible apply inv_restartWork | with_reducible apply inv_store
                 | with_reducible apply forms_of_inv | simp only [↓inv_mk])

theorem inv_latchJobs {s : State} {from_ n : Nat} (hs : s.Inv) :
    (State.latchJobs s from_ n).Inv := by
  unfold State.latchJobs
  repeat' (first | intro _ | with_reducible exact hs | with_reducible assumption | with_reducible apply inv_foldl
                 | with_reducible apply inv_putRcv | with_reducible apply forms_of_inv | simp only [↓inv_mk])

theorem inv_jobResult {s : State} {tag result place units rung : Nat} {slip : Int} {synd : Nat} (hs : s.Inv) :
    (State.jobResult s tag result place units rung slip synd).Inv := by
  unfold State.jobResult
  repeat' (first | with_reducible exact hs | with_reducible apply inv_set | with_reducible apply inv_storeWords)

theorem inv_runWork {s : State} {w : Work} {half : Nat} (hs : s.Inv) :
    (State.runWork s w half).Inv := by
  unfold State.runWork
  repeat' (first | intro _ | with_reducible exact hs | with_reducible assumption | with_reducible apply inv_poolRun)

theorem inv_dropWork {s : State} {w : Work} (hs : s.Inv) :
    (State.dropWork s w).Inv := by
  unfold State.dropWork
  repeat' (first | with_reducible exact hs | with_reducible apply inv_putRcv | with_reducible apply forms_of_inv | simp only [↓inv_mk])

theorem inv_heldEnd {s : State} {w : Work} {e : WorkEnd} (hs : s.Inv) :
    (State.heldEnd s w e).Inv := by
  unfold State.heldEnd
  repeat' (first | with_reducible exact hs | with_reducible apply inv_dropWork | with_reducible apply inv_jobResult
                 | with_reducible apply inv_ladderDelivers | with_reducible apply inv_ladderOn | with_reducible apply inv_place
                 | with_reducible apply forms_of_inv | with_reducible apply inv_fst ‹_ = (_, _)› | simp only [↓inv_mk] | split
                 | (dsimp only; split))

theorem inv_foreignTold {s : State} {p : RecPlace} (hs : s.Inv) :
    (State.foreignTold s p).Inv := by
  unfold State.foreignTold
  repeat' (first | with_reducible exact hs | with_reducible apply inv_ite | with_reducible apply inv_closeGroup
                 | with_reducible apply inv_setBands | with_reducible apply forms_of_inv | simp only [↓inv_mk] | split
                 | (dsimp only; split))

theorem inv_jobEnd {s : State} {w : Work} {e : WorkEnd} (hs : s.Inv) :
    (State.jobEnd s w e).Inv := by
  unfold State.jobEnd
  repeat' (first | with_reducible exact hs | with_reducible apply inv_ite | with_reducible apply inv_dropWork
                 | with_reducible apply inv_foreignTold | with_reducible apply inv_jobResult | with_reducible apply inv_ladderDelivers
                 | with_reducible apply inv_ladderOn | with_reducible apply inv_place | with_reducible apply inv_putPlace
                 | with_reducible apply inv_toSix | with_reducible apply forms_of_inv | with_reducible apply inv_fst ‹_ = (_, _)›
                 | simp only [↓inv_mk] | split | (dsimp only; split))

theorem inv_addRead {s : State} {place sum area : Nat} {p : RecPlace} (hs : s.Inv) :
    (State.addRead s place sum area p).Inv := by
  unfold State.addRead
  repeat' (first | with_reducible exact hs | with_reducible apply inv_ite | with_reducible apply inv_putPlace
                 | with_reducible apply inv_store | with_reducible apply forms_of_inv | with_reducible apply inv_fst ‹_ = (_, _)›
                 | simp only [↓inv_mk] | split | (dsimp only; split))

theorem inv_takeJob {s : State} {pick : Nat → Bool} {f : Nat → Nat → Nat → Nat → Nat → Nat → State → State} (hs : s.Inv) (hf : ∀ x0 x1
    x2 x3 x4 x5 s, s.Inv → (f x0 x1 x2 x3 x4 x5 s).Inv) :
    (State.takeJob s pick f).Inv := by
  unfold State.takeJob
  repeat' (first | intro _ | with_reducible exact hs | with_reducible assumption | with_reducible apply inv_ite
                 | with_reducible apply inv_set | with_reducible apply hf | split | (dsimp only; split))

theorem inv_beginJob {s : State} {kind tag place sum area posted : Nat} (hs : s.Inv) :
    (State.beginJob s kind tag place sum area posted).Inv := by
  unfold State.beginJob
  repeat' (first | with_reducible exact hs | with_reducible apply inv_ite | with_reducible apply inv_addRead
                 | with_reducible apply inv_jobResult | with_reducible apply inv_putRcv | with_reducible apply forms_of_inv
                 | with_reducible apply inv_fst ‹_ = (_, _)› | simp only [↓inv_mk] | split | (dsimp only; split))

theorem inv_runJob {s : State} {kind half : Nat} (hs : s.Inv) :
    (State.runJob s kind half).Inv := by
  unfold State.runJob
  repeat' (first | intro _ | with_reducible exact hs | with_reducible assumption | with_reducible apply inv_jobEnd
                 | with_reducible apply inv_runWork | with_reducible apply forms_of_inv | simp only [↓inv_mk] | split
                 | (dsimp only; split))

theorem inv_ladderFails {s : State} {p : RecPlace} (hs : s.Inv) :
    (State.ladderFails s p).Inv := by
  unfold State.ladderFails
  repeat' (first | with_reducible exact hs | with_reducible apply inv_ladderEnd | with_reducible apply inv_listUnreadable
                 | with_reducible apply inv_putRcv | with_reducible apply forms_of_inv | with_reducible apply inv_fst ‹_ = (_, _)›
                 | simp only [↓inv_mk] | split | (dsimp only; split))

theorem inv_replaceTrack {s : State} {area track : Nat} (hs : s.Inv) :
    (State.replaceTrack s area track).Inv := by
  unfold State.replaceTrack
  repeat' (first | with_reducible exact hs | with_reducible apply inv_ite | with_reducible apply inv_putOffice
                 | with_reducible apply forms_of_inv | simp only [↓inv_mk] | split | (dsimp only; split))

theorem inv_firmwareOp {s : State} {x : Act} {o : LaneOp} (hs : s.Inv) :
    (State.firmwareOp s x o).Inv := by
  unfold State.firmwareOp
  repeat' (first | with_reducible exact hs | with_reducible apply inv_beginOp | with_reducible apply inv_complete
                 | with_reducible apply inv_laneRest | with_reducible apply forms_of_inv | with_reducible apply inv_fst ‹_ = (_, _)›
                 | simp only [↓inv_mk] | split | (dsimp only; split))

theorem inv_relocate {s : State} {x : Act} {p : NotPlaced} (hs : s.Inv) :
    (State.relocate s x p).Inv := by
  unfold State.relocate
  repeat' (first | with_reducible exact hs | with_reducible apply inv_ite | with_reducible apply inv_failBand
                 | with_reducible apply inv_firmwareOp | with_reducible apply inv_putLane | with_reducible apply inv_replaceTrack
                 | with_reducible apply inv_setBands | with_reducible apply forms_of_inv | with_reducible apply inv_fst ‹_ = (_, _)›
                 | simp only [↓inv_mk] | split | (dsimp only; split))

theorem inv_moveOp {s : State} {p : RecPlace} {back : Bool} (hs : s.Inv) :
    (State.moveOp s p back).Inv := by
  unfold State.moveOp
  repeat' (first | with_reducible exact hs | with_reducible apply inv_ite | with_reducible apply inv_beginOp
                 | with_reducible apply inv_putRcv | with_reducible apply forms_of_inv | with_reducible apply inv_fst ‹_ = (_, _)›
                 | simp only [↓inv_mk] | split | (dsimp only; split))

theorem inv_moveOn {s : State} {m : Move} {status : Nat} (hs : s.Inv) :
    (State.moveOn s m status).Inv := by
  unfold State.moveOn
  repeat' (first | intro _ | with_reducible exact hs | with_reducible assumption | with_reducible apply inv_ite
                 | with_reducible apply inv_moveOp | with_reducible apply inv_place | with_reducible apply inv_putLane
                 | with_reducible apply inv_putRcv | with_reducible apply inv_replaceTrack | with_reducible apply forms_of_inv
                 | simp only [↓inv_mk] | split | (dsimp only; split))

theorem inv_replaceBand {s : State} {k : Nat} (hs : s.Inv) :
    (State.replaceBand s k).Inv := by
  unfold State.replaceBand
  repeat' (first | with_reducible exact hs | with_reducible apply inv_rebuildMember | with_reducible apply inv_setBands
                 | with_reducible apply forms_of_inv | simp only [↓inv_mk] | split | (dsimp only; split))

theorem inv_moveFromBand {s : State} {p : RecPlace} (hs : s.Inv) :
    (State.moveFromBand s p).1.Inv := by
  unfold State.moveFromBand
  repeat' (first | with_reducible exact hs | with_reducible apply inv_ite | with_reducible apply inv_addUnit
                 | with_reducible apply inv_fcPlace | with_reducible apply inv_journal | with_reducible apply inv_place
                 | with_reducible apply inv_putOffice | with_reducible apply inv_replaceBand | with_reducible apply inv_switchJob
                 | with_reducible apply forms_of_inv | with_reducible apply inv_fst ‹_ = (_, _)› | simp only [↓inv_mk] | split
                 | (dsimp only; split))

theorem inv_putKrx {s : State} {k : Krx} (hs : s.Inv) :
    (State.putKrx s k).Inv := by
  unfold State.putKrx
  repeat' (first | with_reducible exact hs | with_reducible apply forms_of_inv | simp only [↓inv_mk])

theorem inv_setRole {s : State} {role pm : Nat} (hs : s.Inv) :
    (State.setRole s role pm).Inv := by
  unfold State.setRole
  repeat' (first | with_reducible exact hs | with_reducible apply inv_ite | with_reducible apply inv_inc
                 | with_reducible apply inv_setAll | split | (dsimp only; split))

theorem inv_followTarget {s : State} (hs : s.Inv) :
    (State.followTarget s).Inv := by
  unfold State.followTarget
  repeat' (first | with_reducible exact hs | with_reducible apply inv_ite | with_reducible apply inv_set | split | (dsimp only; split))

theorem inv_sendFrame {s : State} {type : Nat} {payload : List Nat} (hs : s.Inv) :
    (State.sendFrame s type payload).Inv := by
  unfold State.sendFrame
  repeat' (first | with_reducible exact hs | with_reducible apply inv_emit | with_reducible apply inv_putKrx
                 | with_reducible apply forms_of_inv | simp only [↓inv_mk])

theorem inv_putKxSlot {s : State} {n : Nat} {k : KxSlot} (hs : s.Inv) :
    (State.putKxSlot s n k).Inv := by
  unfold State.putKxSlot
  repeat' (first | with_reducible exact hs | with_reducible apply inv_putKrx | with_reducible apply forms_of_inv | simp only [↓inv_mk])

theorem inv_queueAsk {s : State} {n ask : Nat} (hs : s.Inv) :
    (State.queueAsk s n ask).Inv := by
  unfold State.queueAsk
  repeat' (first | intro _ | with_reducible exact hs | with_reducible assumption | with_reducible apply inv_ite
                 | with_reducible apply inv_putKrx | with_reducible apply inv_set | with_reducible apply forms_of_inv
                 | simp only [↓inv_mk] | split | (dsimp only; split))

theorem inv_heardStatus {s : State} {f : List Nat} (hs : s.Inv) :
    (State.heardStatus s f).Inv := by
  unfold State.heardStatus
  repeat' (first | with_reducible exact hs | with_reducible apply inv_ite | with_reducible apply inv_putKxSlot
                 | with_reducible apply inv_queueAsk | with_reducible apply forms_of_inv | simp only [↓inv_mk] | split
                 | (dsimp only; split))

theorem inv_grantAsks {s : State} {n e : Nat} (hs : s.Inv) :
    (State.grantAsks s n e).Inv := by
  induction n generalizing s e with
  | zero => exact hs
  | succ n ih =>
    unfold State.grantAsks
    repeat' (first | with_reducible exact hs | with_reducible assumption | with_reducible apply ih | with_reducible apply inv_ite
                   | with_reducible apply inv_inc | with_reducible apply inv_putKrx | with_reducible apply inv_putKxSlot
                   | with_reducible apply inv_set | with_reducible apply forms_of_inv | with_reducible apply inv_fst ‹_ = (_, _)›
                   | simp only [↓inv_mk] | split | (dsimp only; split))

theorem inv_sendBeacon {s : State} (hs : s.Inv) :
    (State.sendBeacon s).Inv := by
  unfold State.sendBeacon
  repeat' (first | intro _ | with_reducible exact hs | with_reducible assumption | with_reducible apply inv_ite
                 | with_reducible apply inv_grantAsks | with_reducible apply inv_putKrx | with_reducible apply inv_sendFrame
                 | with_reducible apply inv_setAll | with_reducible apply forms_of_inv | simp only [↓inv_mk] | split
                 | (dsimp only; split))

theorem inv_abdicate {s : State} (hs : s.Inv) :
    (State.abdicate s).Inv := by
  unfold State.abdicate
  repeat' (first | with_reducible exact hs | with_reducible apply inv_putKrx | with_reducible apply inv_setAll
                 | with_reducible apply inv_setRole | with_reducible apply forms_of_inv | simp only [↓inv_mk])

theorem inv_applyGrant {s : State} {slot amount gseq : Nat} (hs : s.Inv) :
    (State.applyGrant s slot amount gseq).Inv := by
  unfold State.applyGrant
  repeat' (first | with_reducible exact hs | with_reducible apply inv_ite | with_reducible apply inv_inc
                 | with_reducible apply inv_putKrx | with_reducible apply inv_set | with_reducible apply forms_of_inv
                 | simp only [↓inv_mk] | split | (dsimp only; split))

theorem inv_followBeacon {s : State} {f : List Nat} (hs : s.Inv) :
    (State.followBeacon s f).Inv := by
  unfold State.followBeacon
  repeat' (first | intro _ | with_reducible exact hs | with_reducible assumption | with_reducible apply inv_ite
                 | with_reducible apply inv_foldl | with_reducible apply inv_applyGrant | with_reducible apply inv_putKrx
                 | with_reducible apply inv_set | with_reducible apply forms_of_inv | simp only [↓inv_mk] | split
                 | (dsimp only; split))

theorem inv_leaveShelfHold {s : State} (hs : s.Inv) :
    (State.leaveShelfHold s).Inv := by
  unfold State.leaveShelfHold
  repeat' (first | intro _ | with_reducible exact hs | with_reducible assumption | with_reducible apply inv_ite
                 | with_reducible apply inv_foldl | with_reducible apply inv_noEnvelope | with_reducible apply inv_pdSwitchOn
                 | with_reducible apply inv_putKrx | with_reducible apply forms_of_inv | simp only [↓inv_mk] | split
                 | (dsimp only; split))

theorem inv_shed {s : State} (hs : s.Inv) :
    (State.shed s).Inv := by
  unfold State.shed
  repeat' (first | with_reducible exact hs | with_reducible apply inv_ite | with_reducible apply inv_set
                 | with_reducible apply forms_of_inv | simp only [↓inv_mk] | split | (dsimp only; split))

theorem inv_booksTick {s : State} (hs : s.Inv) :
    (State.booksTick s).Inv := by
  unfold State.booksTick
  repeat' (first | with_reducible exact hs | with_reducible apply inv_ite | with_reducible apply inv_putBooks
                 | with_reducible apply forms_of_inv | with_reducible apply inv_fst ‹_ = (_, _)› | simp only [↓inv_mk] | split
                 | (dsimp only; split))

theorem inv_frankTick {s : State} {ns : Nat} (hs : s.Inv) :
    (State.frankTick s ns).Inv := by
  unfold State.frankTick
  repeat' (first | with_reducible exact hs | with_reducible apply inv_ite | with_reducible apply inv_booksTick
                 | with_reducible apply inv_followTarget | with_reducible apply inv_latch | with_reducible apply inv_putKrx
                 | with_reducible apply inv_putPortOut | with_reducible apply inv_set | with_reducible apply inv_shed
                 | with_reducible apply forms_of_inv | simp only [↓inv_mk] | split | (dsimp only; split))

theorem inv_putConn {s : State} {n : Nat} {c : Conn} (hs : s.Inv) :
    (State.putConn s n c).Inv := by
  unfold State.putConn
  repeat' (first | with_reducible exact hs | with_reducible apply inv_putHost | with_reducible apply forms_of_inv | simp only [↓inv_mk])

theorem inv_putAssoc {s : State} {n : Nat} {a : Assoc} (hs : s.Inv) :
    (State.putAssoc s n a).Inv := by
  unfold State.putAssoc
  repeat' (first | with_reducible exact hs | with_reducible apply inv_putHost | with_reducible apply forms_of_inv | simp only [↓inv_mk])

theorem inv_putNs {s : State} {nsid : Nat} {n : Ns} (hs : s.Inv) :
    (State.putNs s nsid n).Inv := by
  unfold State.putNs
  repeat' (first | with_reducible exact hs | with_reducible apply inv_putHost | with_reducible apply forms_of_inv | simp only [↓inv_mk])

theorem inv_connsRefresh {s : State} (hs : s.Inv) :
    (State.connsRefresh s).Inv := by
  unfold State.connsRefresh
  repeat' (first | intro _ | with_reducible exact hs | with_reducible assumption | with_reducible apply inv_setAll)

theorem inv_hqRefresh {s : State} (hs : s.Inv) :
    (State.hqRefresh s).Inv := by
  unfold State.hqRefresh
  repeat' (first | intro _ | with_reducible exact hs | with_reducible assumption | with_reducible apply inv_itrayRefresh
                 | with_reducible apply inv_setAll)

theorem inv_dropCmd {s : State} {serial : Nat} (hs : s.Inv) :
    (State.dropCmd s serial).Inv := by
  unfold State.dropCmd
  repeat' (first | intro _ | with_reducible exact hs | with_reducible assumption | with_reducible apply inv_ite
                 | with_reducible apply inv_bagReleaseAll | with_reducible apply inv_hqRefresh | with_reducible apply inv_putHost
                 | with_reducible apply forms_of_inv | with_reducible apply inv_fst ‹_ = (_, _)› | simp only [↓inv_mk] | split
                 | (dsimp only; split))

theorem inv_trayAdd {s : State} {kind : TrayKind} {nsid first count key keyLen : Nat} {bags : List Nat} (hs : s.Inv) :
    (State.trayAdd s kind nsid first count key keyLen bags).1.Inv := by
  unfold State.trayAdd
  repeat' (first | with_reducible exact hs | with_reducible apply inv_putHost | with_reducible apply forms_of_inv | simp only [↓inv_mk])

theorem inv_openZone {s : State} {nsid k : Nat} {st : ZoneState} (hs : s.Inv) :
    (State.openZone s nsid k st).Inv := by
  unfold State.openZone
  repeat' (first | intro _ | with_reducible exact hs | with_reducible assumption | with_reducible apply inv_ite
                 | with_reducible apply inv_putZone | with_reducible apply forms_of_inv | simp only [↓inv_mk] | split
                 | (dsimp only; split))

theorem inv_zoneAdvance {s : State} {nsid k nlb : Nat} (hs : s.Inv) :
    (State.zoneAdvance s nsid k nlb).Inv := by
  unfold State.zoneAdvance
  repeat' (first | with_reducible exact hs | with_reducible apply inv_ite | with_reducible apply inv_openZone
                 | with_reducible apply inv_putZone | with_reducible apply forms_of_inv | simp only [↓inv_mk] | split
                 | (dsimp only; split))

theorem inv_enterTray {s : State} {c : Cmd} (hs : s.Inv) :
    (State.enterTray s c).1.Inv := by
  unfold State.enterTray
  repeat' (first | with_reducible exact hs | with_reducible apply inv_ite | with_reducible apply inv_store
                 | with_reducible apply inv_trayAdd | with_reducible apply inv_zoneAdvance | with_reducible apply forms_of_inv
                 | with_reducible apply inv_fst ‹_ = (_, _)› | simp only [↓inv_mk] | split | (dsimp only; split))

theorem inv_abandon {s : State} {serial : Nat} (hs : s.Inv) :
    (State.abandon s serial).Inv := by
  unfold State.abandon
  repeat' (first | with_reducible exact hs | with_reducible apply inv_ite | with_reducible apply inv_dropCmd
                 | with_reducible apply inv_enterTray | with_reducible apply inv_putCmd | with_reducible apply forms_of_inv
                 | with_reducible apply inv_fst ‹_ = (_, _)› | simp only [↓inv_mk] | split | (dsimp only; split))

theorem inv_dropConn {s : State} {n : Nat} (hs : s.Inv) :
    (State.dropConn s n).Inv := by
  unfold State.dropConn
  repeat' (first | intro _ | with_reducible exact hs | with_reducible assumption | with_reducible apply inv_foldl
                 | with_reducible apply inv_abandon | with_reducible apply inv_connsRefresh | with_reducible apply inv_putHost
                 | with_reducible apply forms_of_inv | simp only [↓inv_mk])

theorem inv_endAssoc {s : State} {a : Nat} (hs : s.Inv) :
    (State.endAssoc s a).Inv := by
  unfold State.endAssoc
  repeat' (first | intro _ | with_reducible exact hs | with_reducible assumption | with_reducible apply inv_foldl
                 | with_reducible apply inv_connsRefresh | with_reducible apply inv_dropConn | with_reducible apply inv_putHost
                 | with_reducible apply forms_of_inv | simp only [↓inv_mk])

theorem inv_loseConn {s : State} {n : Nat} (hs : s.Inv) :
    (State.loseConn s n).Inv := by
  unfold State.loseConn
  repeat' (first | with_reducible exact hs | with_reducible apply inv_dropConn | with_reducible apply inv_endAssoc
                 | with_reducible apply forms_of_inv | simp only [↓inv_mk] | split | (dsimp only; split))

theorem inv_endAll {s : State} (hs : s.Inv) :
    (State.endAll s).Inv := by
  unfold State.endAll
  repeat' (first | intro _ | with_reducible exact hs | with_reducible assumption | with_reducible apply inv_foldl
                 | with_reducible apply inv_dropConn | with_reducible apply inv_endAssoc)

theorem inv_putPort {s : State} {p : Prt} {f : Port} (hs : s.Inv) :
    (State.putPort s p f).Inv := by
  unfold State.putPort
  repeat' (first | with_reducible exact hs | with_reducible apply inv_putHost | with_reducible apply forms_of_inv | simp only [↓inv_mk])

theorem inv_dropFrame {s : State} {p : Prt} (hs : s.Inv) :
    (State.dropFrame s p).Inv := by
  unfold State.dropFrame
  repeat' (first | with_reducible exact hs | with_reducible apply inv_inc)

theorem inv_frame {s : State} {p : Prt} {key : Nat} {f : State → State} (hs : s.Inv) (hf : ∀ s, s.Inv → (f s).Inv) :
    (State.frame s p key f).Inv := by
  unfold State.frame
  repeat' (first | intro _ | with_reducible exact hs | with_reducible assumption | with_reducible apply inv_ite
                 | with_reducible apply inv_dropFrame | with_reducible apply hf | split | (dsimp only; split))

theorem inv_tcpEvent {s : State} {n key : Nat} {f : Conn → State → State} (hs : s.Inv) (hf : ∀ x0 s, s.Inv → (f x0 s).Inv) :
    (State.tcpEvent s n key f).Inv := by
  unfold State.tcpEvent
  repeat' (first | intro _ | with_reducible exact hs | with_reducible assumption | with_reducible apply inv_frame
                 | with_reducible apply hf | with_reducible apply forms_of_inv | simp only [↓inv_mk] | split | (dsimp only; split))

theorem inv_sendNet {s : State} {port : Nat} {f : NetOut} (hs : s.Inv) :
    (State.sendNet s port f).Inv := by
  unfold State.sendNet
  repeat' (first | with_reducible exact hs | with_reducible apply inv_emit)

theorem inv_endPort {s : State} {p : Prt} (hs : s.Inv) :
    (State.endPort s p).Inv := by
  unfold State.endPort
  repeat' (first | intro _ | with_reducible exact hs | with_reducible assumption | with_reducible apply inv_foldl
                 | with_reducible apply inv_dropConn | with_reducible apply inv_endAssoc)

theorem inv_applyNet {s : State} {p : Prt} (hs : s.Inv) :
    (State.applyNet s p).Inv := by
  unfold State.applyNet
  repeat' (first | with_reducible exact hs | with_reducible apply inv_ite | with_reducible apply inv_putPort
                 | with_reducible apply inv_setAll | split | (dsimp only; split))

theorem inv_linkReset {s : State} {p : Prt} (hs : s.Inv) :
    (State.linkReset s p).Inv := by
  unfold State.linkReset
  repeat' (first | with_reducible exact hs | with_reducible apply inv_ite | with_reducible apply inv_applyNet
                 | with_reducible apply inv_endPort | with_reducible apply inv_noEnvelope | with_reducible apply inv_set
                 | with_reducible apply inv_setAll | with_reducible apply forms_of_inv | simp only [↓inv_mk] | split
                 | (dsimp only; split))

theorem inv_pathMtu {s : State} {p : Prt} {conn mtu : Nat} (hs : s.Inv) :
    (State.pathMtu s p conn mtu).Inv := by
  unfold State.pathMtu
  repeat' (first | intro _ | with_reducible exact hs | with_reducible assumption | with_reducible apply inv_ite
                 | with_reducible apply inv_putPort | with_reducible apply forms_of_inv | simp only [↓inv_mk] | split
                 | (dsimp only; split))

theorem inv_putPre {s : State} {p : Pre} (hs : s.Inv) :
    (State.putPre s p).Inv := by
  unfold State.putPre
  repeat' (first | with_reducible exact hs | with_reducible apply forms_of_inv | simp only [↓inv_mk])

theorem inv_terminate {s : State} {n : Nat} (hs : s.Inv) :
    (State.terminate s n).Inv := by
  unfold State.terminate
  repeat' (first | with_reducible exact hs | with_reducible apply inv_emit | with_reducible apply inv_loseConn)

theorem inv_pdu {s : State} {n key bytes : Nat} {f : Conn → State → State} (hs : s.Inv) (hf : ∀ x0 s, s.Inv → (f x0 s).Inv) :
    (State.pdu s n key bytes f).Inv := by
  unfold State.pdu
  repeat' (first | intro _ | with_reducible exact hs | with_reducible assumption | with_reducible apply inv_ite
                 | with_reducible apply inv_putConn | with_reducible apply inv_terminate | with_reducible apply hf
                 | with_reducible apply forms_of_inv | with_reducible apply inv_fst ‹_ = (_, _)› | simp only [↓inv_mk] | split
                 | (dsimp only; split))

theorem inv_preTrap {s : State} {conn : Nat} (hs : s.Inv) :
    (State.preTrap s conn).Inv := by
  unfold State.preTrap
  repeat' (first | with_reducible exact hs | with_reducible apply inv_event | with_reducible apply inv_loseConn
                 | with_reducible apply inv_putPre | with_reducible apply inv_sendNet | with_reducible apply inv_setAll
                 | with_reducible apply forms_of_inv | with_reducible apply inv_fst ‹_ = (_, _)› | simp only [↓inv_mk] | split
                 | (dsimp only; split))

theorem inv_preAlu {s : State} {conn : Nat} {w : PW} (hs : s.Inv) :
    (State.preAlu s conn w).Inv := by
  unfold State.preAlu
  repeat' (first | with_reducible exact hs | with_reducible apply inv_ite | with_reducible apply inv_putPre
                 | with_reducible apply forms_of_inv | simp only [↓inv_mk] | split | (dsimp only; split))

theorem inv_preXfer {s : State} {conn : Nat} {w : PW} {a : Nat} (hs : s.Inv) :
    (State.preXfer s conn w a).Inv := by
  unfold State.preXfer
  repeat' (first | intro _ | with_reducible exact hs | with_reducible assumption | with_reducible apply inv_ite
                 | with_reducible apply inv_bagRelease | with_reducible apply inv_bagStore | with_reducible apply inv_emit
                 | with_reducible apply inv_pdu | with_reducible apply inv_putPre | with_reducible apply inv_set
                 | with_reducible apply forms_of_inv | with_reducible apply inv_fst ‹_ = (_, _)› | simp only [↓inv_mk] | split
                 | (dsimp only; split))

theorem inv_preSeq {s : State} {w : PW} {cond : Bool} (hs : s.Inv) :
    (State.preSeq s w cond).Inv := by
  unfold State.preSeq
  repeat' (first | with_reducible exact hs | with_reducible apply inv_ite | with_reducible apply inv_putPre
                 | with_reducible apply forms_of_inv | simp only [↓inv_mk] | split | (dsimp only; split))

theorem inv_preWord {s : State} {conn : Nat} {hdr data : Bool} (hs : s.Inv) :
    (State.preWord s conn hdr data).Inv := by
  unfold State.preWord
  repeat' (first | with_reducible exact hs | with_reducible apply inv_ite | with_reducible apply inv_preAlu
                 | with_reducible apply inv_preSeq | with_reducible apply inv_preTrap | with_reducible apply inv_preXfer
                 | with_reducible apply inv_store | split | (dsimp only; split))

theorem inv_preBegin {s : State} (hs : s.Inv) :
    (State.preBegin s).Inv := by
  unfold State.preBegin
  repeat' (first | with_reducible exact hs | with_reducible apply inv_putPre | with_reducible apply inv_set
                 | with_reducible apply inv_store | with_reducible apply forms_of_inv | with_reducible apply inv_fst ‹_ = (_, _)›
                 | simp only [↓inv_mk] | split | (dsimp only; split))

theorem inv_prePlain {s : State} {hdr data : Bool} {n : Nat} (hs : s.Inv) :
    (State.prePlain s hdr data n).Inv := by
  induction n generalizing s with
  | zero => exact hs
  | succ n ih =>
    unfold State.prePlain
    repeat' (first | with_reducible exact hs | with_reducible assumption | with_reducible apply ih | with_reducible apply inv_ite
                   | with_reducible apply inv_preWord | with_reducible apply inv_store | with_reducible apply forms_of_inv
                   | with_reducible apply inv_fst ‹_ = (_, _)› | simp only [↓inv_mk] | split | (dsimp only; split))

theorem inv_preAct {s : State} {k : Nat} {hdr data : Bool} (hs : s.Inv) :
    (State.preAct s k hdr data).Inv := by
  unfold State.preAct
  repeat' (first | with_reducible exact hs | with_reducible apply inv_ite | with_reducible apply inv_preBegin
                 | with_reducible apply inv_prePlain | with_reducible apply inv_preWord | with_reducible apply inv_store
                 | with_reducible apply forms_of_inv | with_reducible apply inv_fst ‹_ = (_, _)› | simp only [↓inv_mk] | split
                 | (dsimp only; split))

theorem inv_enterLocks {s : State} {serial : Nat} {c : Cmd} (hs : s.Inv) :
    (State.enterLocks s serial c).Inv := by
  unfold State.enterLocks
  repeat' (first | intro _ | with_reducible exact hs | with_reducible assumption | with_reducible apply inv_ite
                 | with_reducible apply inv_putCmd | with_reducible apply inv_putHost | with_reducible apply inv_set
                 | with_reducible apply forms_of_inv | simp only [↓inv_mk] | split | (dsimp only; split))

theorem inv_wakeUp {s : State} {c : Cmd} (hs : s.Inv) :
    (State.wakeUp s c).Inv := by
  unfold State.wakeUp
  repeat' (first | with_reducible exact hs | with_reducible apply inv_ite | with_reducible apply inv_putAssoc
                 | with_reducible apply forms_of_inv | with_reducible apply inv_fst ‹_ = (_, _)› | simp only [↓inv_mk] | split
                 | (dsimp only; split))

theorem inv_admitCmd {s : State} {conn : Nat} {cap : Capsule} (hs : s.Inv) :
    (State.admitCmd s conn cap).Inv := by
  unfold State.admitCmd
  repeat' (first | intro _ | with_reducible exact hs | with_reducible assumption | with_reducible apply inv_ite
                 | with_reducible apply inv_answer | with_reducible apply inv_enterLocks | with_reducible apply inv_hqRefresh
                 | with_reducible apply inv_putHost | with_reducible apply inv_putOffice | with_reducible apply inv_wakeUp
                 | with_reducible apply forms_of_inv | with_reducible apply inv_fst ‹_ = (_, _)› | simp only [↓inv_mk] | split
                 | (dsimp only; split))

theorem inv_takeBags {s : State} {pick : Nat} {l got : List Nat} (hs : s.Inv) :
    (State.takeBags s pick l got).1.Inv := by
  induction l generalizing s got with
  | nil => exact hs
  | cons h t ih =>
    unfold State.takeBags
    repeat' (first | with_reducible exact hs | with_reducible assumption | with_reducible apply ih | with_reducible apply inv_bagAlloc
                   | with_reducible apply forms_of_inv | with_reducible apply inv_fst ‹_ = (_, _)› | simp only [↓inv_mk] | split
                   | (dsimp only; split))

theorem inv_afterResponse {s : State} {c : Cmd} (hs : s.Inv) :
    (State.afterResponse s c).Inv := by
  unfold State.afterResponse
  repeat' (first | with_reducible exact hs | with_reducible apply inv_ite | with_reducible apply inv_putHost
                 | with_reducible apply forms_of_inv | simp only [↓inv_mk] | split | (dsimp only; split))

theorem inv_onAdmin {s : State} {serial opcode : Nat} {f : Cmd → State → State} (hs : s.Inv) (hf : ∀ x0 s, s.Inv → (f x0 s).Inv) :
    (State.onAdmin s serial opcode f).Inv := by
  unfold State.onAdmin
  repeat' (first | intro _ | with_reducible exact hs | with_reducible assumption | with_reducible apply inv_ite
                 | with_reducible apply hf | with_reducible apply forms_of_inv | simp only [↓inv_mk] | split | (dsimp only; split))

theorem inv_onFabrics {s : State} {serial fctype : Nat} {f : Cmd → State → State} (hs : s.Inv) (hf : ∀ x0 s, s.Inv → (f x0 s).Inv) :
    (State.onFabrics s serial fctype f).Inv := by
  unfold State.onFabrics
  repeat' (first | intro _ | with_reducible exact hs | with_reducible assumption | with_reducible apply inv_ite
                 | with_reducible apply hf | with_reducible apply forms_of_inv | simp only [↓inv_mk] | split | (dsimp only; split))

theorem inv_onIo {s : State} {serial : Nat} {op : IoOp} {f : Cmd → Ns → State → State} (hs : s.Inv) (hf : ∀ x0 x1 s, s.Inv → (f x0 x1
    s).Inv) :
    (State.onIo s serial op f).Inv := by
  unfold State.onIo
  repeat' (first | intro _ | with_reducible exact hs | with_reducible assumption | with_reducible apply inv_ite
                 | with_reducible apply inv_answer | with_reducible apply hf | with_reducible apply forms_of_inv | simp only [↓inv_mk]
                 | split | (dsimp only; split))

theorem inv_respondNow {s : State} {serial : Nat} {c : Cmd} (hs : s.Inv) :
    (State.respondNow s serial c).Inv := by
  unfold State.respondNow
  repeat' (first | with_reducible exact hs | with_reducible apply inv_dropCmd | with_reducible apply inv_emit)

theorem inv_featSet {s : State} {fid sub v : Nat} {save : Bool} (hs : s.Inv) :
    (State.featSet s fid sub v save).Inv := by
  unfold State.featSet
  repeat' (first | intro _ | with_reducible exact hs | with_reducible assumption | with_reducible apply inv_ite
                 | with_reducible apply inv_putHost | with_reducible apply inv_saveDev | with_reducible apply forms_of_inv
                 | simp only [↓inv_mk] | split | (dsimp only; split))

theorem inv_nsChanged {s : State} {nsid : Nat} (hs : s.Inv) :
    (State.nsChanged s nsid).Inv := by
  unfold State.nsChanged
  repeat' (first | with_reducible exact hs | with_reducible apply inv_ite | with_reducible apply inv_putHost
                 | with_reducible apply inv_raiseEvent | with_reducible apply forms_of_inv | simp only [↓inv_mk] | split
                 | (dsimp only; split))

theorem inv_nsFeatSet {s : State} {fid nsid v : Nat} {n : Ns} {save : Bool} (hs : s.Inv) :
    (State.nsFeatSet s fid nsid v n save).Inv := by
  unfold State.nsFeatSet
  repeat' (first | intro _ | with_reducible exact hs | with_reducible assumption | with_reducible apply inv_ite
                 | with_reducible apply inv_nsChanged | with_reducible apply inv_putNs | with_reducible apply inv_saveDev
                 | with_reducible apply forms_of_inv | simp only [↓inv_mk] | split | (dsimp only; split))

theorem inv_settlePower {s : State} (hs : s.Inv) :
    (State.settlePower s).Inv := by
  unfold State.settlePower
  repeat' (first | with_reducible exact hs | with_reducible apply inv_ite | with_reducible apply inv_noEnvelope
                 | with_reducible apply inv_putHost | with_reducible apply forms_of_inv | simp only [↓inv_mk] | split
                 | (dsimp only; split))

theorem inv_setCtrlFeature {s : State} {serial : Nat} {c : Cmd} {n : Nat} {a : Assoc} (hs : s.Inv) :
    (State.setCtrlFeature s serial c n a).Inv := by
  unfold State.setCtrlFeature
  repeat' (first | with_reducible exact hs | with_reducible apply inv_ite | with_reducible apply inv_answer
                 | with_reducible apply inv_answerWith | with_reducible apply inv_putAssoc | with_reducible apply inv_settlePower
                 | with_reducible apply forms_of_inv | with_reducible apply inv_fst ‹_ = (_, _)› | simp only [↓inv_mk] | split
                 | (dsimp only; split))

theorem inv_trayDrop {s : State} {pick : TrayEnt → Bool} (hs : s.Inv) :
    (State.trayDrop s pick).Inv := by
  unfold State.trayDrop
  repeat' (first | intro _ | with_reducible exact hs | with_reducible assumption | with_reducible apply inv_foldl
                 | with_reducible apply inv_bagReleaseAll | with_reducible apply inv_putHost | with_reducible apply forms_of_inv
                 | simp only [↓inv_mk])

theorem inv_emptyNs {s : State} {nsid : Nat} {n : Ns} (hs : s.Inv) :
    (State.emptyNs s nsid n).Inv := by
  unfold State.emptyNs
  repeat' (first | intro _ | with_reducible exact hs | with_reducible assumption | with_reducible apply inv_foldl
                 | with_reducible apply inv_putHost | with_reducible apply inv_putOffice | with_reducible apply inv_shutBands
                 | with_reducible apply inv_trayDrop | with_reducible apply inv_unmapAll | with_reducible apply forms_of_inv
                 | simp only [↓inv_mk] | split | (dsimp only; split))

theorem inv_deleteNs {s : State} {nsid : Nat} (hs : s.Inv) :
    (State.deleteNs s nsid).Inv := by
  unfold State.deleteNs
  repeat' (first | intro _ | with_reducible exact hs | with_reducible assumption | with_reducible apply inv_emptyNs
                 | with_reducible apply inv_nsChanged | with_reducible apply inv_putHost | with_reducible apply inv_putKey
                 | with_reducible apply inv_saveDev | with_reducible apply forms_of_inv | with_reducible apply inv_fst ‹_ = (_, _)›
                 | simp only [↓inv_mk] | split | (dsimp only; split))

theorem inv_emptyMap {s : State} {format : Bool} (hs : s.Inv) :
    (State.emptyMap s format).Inv := by
  unfold State.emptyMap
  repeat' (first | intro _ | with_reducible exact hs | with_reducible assumption | with_reducible apply inv_journal
                 | with_reducible apply inv_putHost | with_reducible apply inv_putOffice | with_reducible apply inv_switchJob
                 | with_reducible apply forms_of_inv | with_reducible apply forms_cells_filter | simp only [↓inv_mk])

theorem inv_abandonWork {s : State} (hs : s.Inv) :
    (State.abandonWork s).Inv := by
  unfold State.abandonWork
  repeat' (first | with_reducible exact hs | with_reducible apply inv_putCons | with_reducible apply inv_putOffice
                 | with_reducible apply forms_of_inv | simp only [↓inv_mk])

theorem inv_eraseStep {s : State} {k : Nat} (hs : s.Inv) :
    (State.eraseStep s k).Inv := by
  unfold State.eraseStep
  repeat' (first | intro _ | with_reducible exact hs | with_reducible assumption | with_reducible apply inv_foldl
                 | with_reducible apply inv_abandonWork | with_reducible apply inv_answer | with_reducible apply inv_changeDev
                 | with_reducible apply inv_emptyMap | with_reducible apply inv_generateKey | with_reducible apply inv_laneAbort
                 | with_reducible apply inv_ledger | with_reducible apply inv_putHost | with_reducible apply inv_raiseEvent
                 | with_reducible apply inv_trayDrop | with_reducible apply forms_of_inv | with_reducible apply inv_fst ‹_ = (_, _)›
                 | simp only [↓inv_mk] | split | (dsimp only; split))

theorem inv_eraseSteps {s : State} {from_ : Nat} {n : Nat} (hs : s.Inv) :
    (State.eraseSteps s from_ n).Inv := by
  induction n generalizing s from_ with
  | zero => exact hs
  | succ n ih =>
    unfold State.eraseSteps
    repeat' (first | with_reducible exact hs | with_reducible assumption | with_reducible apply ih
                   | with_reducible apply inv_eraseStep | with_reducible apply forms_of_inv | simp only [↓inv_mk])

theorem inv_headService {s : State} {serial action : Nat} {f : Nat → State → State} (hs : s.Inv) (hf : ∀ x0 s, s.Inv → (f x0 s).Inv) :
    (State.headService s serial action f).Inv := by
  unfold State.headService
  repeat' (first | intro _ | with_reducible exact hs | with_reducible assumption | with_reducible apply inv_ite
                 | with_reducible apply inv_answer | with_reducible apply inv_onAdmin | with_reducible apply hf
                 | with_reducible apply forms_of_inv | simp only [↓inv_mk] | split | (dsimp only; split))

theorem inv_tell {s : State} {loop : Nat} {words : List Nat} (hs : s.Inv) :
    (State.tell s loop words).Inv := by
  unfold State.tell
  repeat' (first | with_reducible exact hs | with_reducible apply inv_ite | with_reducible apply inv_putMail
                 | with_reducible apply forms_of_inv | simp only [↓inv_mk] | split | (dsimp only; split))

theorem inv_naturalMap {s : State} (hs : s.Inv) :
    (State.naturalMap s).Inv := by
  unfold State.naturalMap
  repeat' (first | intro _ | with_reducible exact hs | with_reducible assumption | with_reducible apply inv_ite
                 | with_reducible apply inv_foldl | with_reducible apply inv_setPos | with_reducible apply forms_of_inv
                 | simp only [↓inv_mk] | split | (dsimp only; split))

theorem inv_countIo {s : State} {write : Bool} {bytes : Nat} (hs : s.Inv) :
    (State.countIo s write bytes).Inv := by
  unfold State.countIo
  repeat' (first | with_reducible exact hs | with_reducible apply inv_putHost | with_reducible apply forms_of_inv | simp only [↓inv_mk])

theorem inv_writeNow {s : State} {serial : Nat} {c : Cmd} (hs : s.Inv) :
    (State.writeNow s serial c).Inv := by
  unfold State.writeNow
  repeat' (first | with_reducible exact hs | with_reducible apply inv_ite | with_reducible apply inv_answer
                 | with_reducible apply inv_answerWith | with_reducible apply inv_countIo | with_reducible apply inv_enterTray
                 | with_reducible apply inv_hqRefresh | with_reducible apply inv_putCmd | with_reducible apply forms_of_inv
                 | with_reducible apply inv_fst ‹_ = (_, _)› | simp only [↓inv_mk] | split | (dsimp only; split))

theorem inv_trayForget {s : State} {nsid first count : Nat} (hs : s.Inv) :
    (State.trayForget s nsid first count).Inv := by
  unfold State.trayForget
  repeat' (first | intro _ | with_reducible exact hs | with_reducible assumption | with_reducible apply inv_foldl
                 | with_reducible apply inv_trayPlaced | with_reducible apply forms_of_inv | simp only [↓inv_mk])

theorem inv_discardRanges {s : State} {nsid : Nat} {n : Ns} {l : List (Nat × Nat)} (hs : s.Inv) :
    (State.discardRanges s nsid n l).Inv := by
  unfold State.discardRanges
  repeat' (first | intro _ | with_reducible exact hs | with_reducible assumption | with_reducible apply inv_ite
                 | with_reducible apply inv_foldl | with_reducible apply inv_trayAdd | with_reducible apply inv_trayForget
                 | with_reducible apply inv_unmapAll | with_reducible apply forms_of_inv | simp only [↓inv_mk] | split
                 | (dsimp only; split))

theorem inv_readLost {s : State} {serial : Nat} {c : Cmd} {n : Ns} {lbas : List Nat} (hs : s.Inv) :
    (State.readLost s serial c n lbas).Inv := by
  unfold State.readLost
  repeat' (first | intro _ | with_reducible exact hs | with_reducible assumption | with_reducible apply inv_foldl
                 | with_reducible apply inv_answer | with_reducible apply inv_listUnreadable | with_reducible apply inv_logError
                 | with_reducible apply inv_putHost | with_reducible apply inv_putRcv | with_reducible apply forms_of_inv
                 | simp only [↓inv_mk])

theorem inv_readNow {s : State} {serial : Nat} {c : Cmd} {n : Ns} {media : List (Nat × Nat)} {give : Bool} (hs : s.Inv) :
    (State.readNow s serial c n media give).Inv := by
  unfold State.readNow
  repeat' (first | intro _ | with_reducible exact hs | with_reducible assumption | with_reducible apply inv_ite
                 | with_reducible apply inv_answerWith | with_reducible apply inv_countIo | with_reducible apply inv_putCmd
                 | with_reducible apply inv_readLost | with_reducible apply forms_of_inv | with_reducible apply inv_fst ‹_ = (_, _)›
                 | simp only [↓inv_mk] | split | (dsimp only; split))

theorem inv_onMediaCmd {s : State} {serial : Nat} {op : IoOp} {f : Cmd → Ns → State → State} (hs : s.Inv) (hf : ∀ x0 x1 s, s.Inv → (f
    x0 x1 s).Inv) :
    (State.onMediaCmd s serial op f).Inv := by
  unfold State.onMediaCmd
  repeat' (first | intro _ | with_reducible exact hs | with_reducible assumption | with_reducible apply inv_ite
                 | with_reducible apply inv_dropCmd | with_reducible apply inv_onIo | with_reducible apply hf
                 | with_reducible apply forms_of_inv | simp only [↓inv_mk] | split | (dsimp only; split))

theorem inv_resNotify {s : State} {nsid type : Nat} {hosts : List Nat} (hs : s.Inv) :
    (State.resNotify s nsid type hosts).Inv := by
  unfold State.resNotify
  repeat' (first | intro _ | with_reducible exact hs | with_reducible assumption | with_reducible apply inv_ite
                 | with_reducible apply inv_putHost | with_reducible apply inv_raiseEvent | with_reducible apply forms_of_inv
                 | simp only [↓inv_mk] | split | (dsimp only; split))

theorem inv_zoneSend {s : State} {serial action : Nat} {can : HZone → Bool} {f : Nat → Nat → Ns → State → State ⊕ Status} (hs : s.Inv)
    (hf : ∀ a b n s t, s.Inv → f a b n s = .inl t → t.Inv) : (s.zoneSend serial action can f).Inv := by
  unfold State.zoneSend
  refine inv_onIo hs fun c n s h => ?_
  split
  · exact h
  · split
    · refine inv_answer (inv_foldl h fun s k h => ?_)
      split
      · split
        · rename_i e
          exact hf _ _ _ _ _ h e
        · exact h
      · exact h
    · dsimp only
      split
      · exact inv_answer h
      · split
        · rename_i e
          exact inv_answer (hf _ _ _ _ _ h e)
        · exact inv_answer h

theorem inv_storeNow {s : State} {serial : Nat} {c : Cmd} (hs : s.Inv) :
    (State.storeNow s serial c).Inv := by
  unfold State.storeNow
  repeat' (first | with_reducible exact hs | with_reducible apply inv_ite | with_reducible apply inv_answer
                 | with_reducible apply inv_writeNow | split | (dsimp only; split))

theorem inv_pageRead {s : State} {c : Cmd} (hs : s.Inv) :
    (State.pageRead s c).Inv := by
  unfold State.pageRead
  repeat' (first | intro _ | with_reducible exact hs | with_reducible assumption | with_reducible apply inv_ite
                 | with_reducible apply inv_putAssoc | with_reducible apply inv_putHost | with_reducible apply forms_of_inv
                 | simp only [↓inv_mk] | split | (dsimp only; split))

theorem inv_miAnswer {s : State} {good : Bool} {l : List Nat} (hs : s.Inv) :
    (State.miAnswer s good l).Inv := by
  unfold State.miAnswer
  repeat' (first | with_reducible exact hs | with_reducible apply inv_ite | with_reducible apply inv_emit
                 | with_reducible apply forms_of_inv | simp only [↓inv_mk] | split | (dsimp only; split))

theorem inv_ledgerHeat {s : State} (hs : s.Inv) :
    (State.ledgerHeat s).Inv := by
  unfold State.ledgerHeat
  repeat' (first | with_reducible exact hs | with_reducible apply inv_ledger | with_reducible apply forms_of_inv | simp only [↓inv_mk])

theorem inv_watchCritical {s : State} {f : State → State} (hs : s.Inv) (hf : ∀ s, s.Inv → (f s).Inv) :
    (State.watchCritical s f).Inv := by
  unfold State.watchCritical
  repeat' (first | intro _ | with_reducible exact hs | with_reducible assumption | with_reducible apply inv_ite
                 | with_reducible apply inv_putHost | with_reducible apply inv_raiseEvent | with_reducible apply inv_set
                 | with_reducible apply hf | with_reducible apply forms_of_inv | simp only [↓inv_mk] | split | (dsimp only; split))

theorem inv_throttleHalf {s : State} {out : Bool} (hs : s.Inv) :
    (State.throttleHalf s out).Inv := by
  unfold State.throttleHalf
  repeat' (first | with_reducible exact hs | with_reducible apply inv_ite | with_reducible apply inv_pdSwitchOff
                 | with_reducible apply inv_pdSwitchOn | with_reducible apply inv_set | with_reducible apply inv_setHalf
                 | with_reducible apply forms_of_inv | simp only [↓inv_mk] | split | (dsimp only; split))

theorem inv_setStep {s : State} {k : Nat} (hs : s.Inv) :
    (State.setStep s k).Inv := by
  unfold State.setStep
  repeat' (first | with_reducible exact hs | with_reducible apply inv_ite | with_reducible apply inv_ledgerHeat
                 | with_reducible apply inv_set | with_reducible apply inv_throttleHalf | with_reducible apply forms_of_inv
                 | simp only [↓inv_mk] | split | (dsimp only; split))

theorem inv_graveGo {s : State} {trigger : Nat} (hs : s.Inv) :
    (State.graveGo s trigger).Inv := by
  unfold State.graveGo
  repeat' (first | intro _ | with_reducible exact hs | with_reducible assumption | with_reducible apply inv_ite
                 | with_reducible apply inv_foldl | with_reducible apply inv_coast | with_reducible apply inv_emUnloadAll
                 | with_reducible apply inv_notAtSpeed | with_reducible apply inv_putLp | with_reducible apply forms_of_inv
                 | simp only [↓inv_mk] | split | (dsimp only; split))

theorem inv_shutDown {s : State} (hs : s.Inv) :
    (State.shutDown s).Inv := by
  unfold State.shutDown
  repeat' (first | with_reducible exact hs | with_reducible apply inv_ite | with_reducible apply inv_graveCapture
                 | with_reducible apply inv_graveGo | with_reducible apply inv_ledgerHeat | with_reducible apply inv_set
                 | with_reducible apply forms_of_inv | simp only [↓inv_mk] | split | (dsimp only; split))

theorem inv_reachShut {s : State} (hs : s.Inv) :
    (State.reachShut s).Inv := by
  unfold State.reachShut
  repeat' (first | with_reducible exact hs | with_reducible apply inv_ite | with_reducible apply inv_setStep
                 | with_reducible apply inv_shutDown | with_reducible apply forms_of_inv | simp only [↓inv_mk] | split
                 | (dsimp only; split))

theorem inv_releaseDeferred {s : State} (hs : s.Inv) :
    (State.releaseDeferred s).Inv := by
  unfold State.releaseDeferred
  repeat' (first | with_reducible exact hs | with_reducible apply inv_ite | with_reducible apply inv_graveGo
                 | with_reducible apply inv_shutDown | with_reducible apply forms_of_inv | simp only [↓inv_mk] | split
                 | (dsimp only; split))

theorem inv_graveFault {s : State} {source code addr info : Nat} (hs : s.Inv) :
    (State.graveFault s source code addr info).Inv := by
  unfold State.graveFault
  repeat' (first | with_reducible exact hs | with_reducible apply inv_ite | with_reducible apply inv_graveCapture
                 | with_reducible apply inv_graveGo | with_reducible apply forms_of_inv | simp only [↓inv_mk] | split
                 | (dsimp only; split))

theorem inv_raiseUp {s : State} {p : Nat} {r : CapRec} (hs : s.Inv) :
    (State.raiseUp s p r).Inv := by
  unfold State.raiseUp
  repeat' (first | intro _ | with_reducible exact hs | with_reducible assumption | with_reducible apply inv_ite
                 | with_reducible apply inv_asInjected | with_reducible apply inv_capture | with_reducible apply inv_closeRec
                 | with_reducible apply inv_graveFault | with_reducible apply forms_of_inv | simp only [↓inv_mk] | split
                 | (dsimp only; split))

theorem inv_disarm {s : State} (hs : s.Inv) :
    (State.disarm s).Inv := by
  unfold State.disarm
  repeat' (first | intro _ | with_reducible exact hs | with_reducible assumption | with_reducible apply inv_foldl
                 | with_reducible apply inv_dropSlip | with_reducible apply inv_set | with_reducible apply forms_of_inv
                 | simp only [↓inv_mk])

theorem inv_loseEntry {s : State} {t : TrayEnt} (hs : s.Inv) :
    (State.loseEntry s t).Inv := by
  unfold State.loseEntry
  repeat' (first | intro _ | with_reducible exact hs | with_reducible assumption | with_reducible apply inv_ite
                 | with_reducible apply inv_foldl | with_reducible apply inv_deferredError | with_reducible apply inv_listUnreadable
                 | with_reducible apply forms_of_inv | with_reducible apply inv_fst ‹_ = (_, _)› | simp only [↓inv_mk] | split
                 | (dsimp only; split))

theorem inv_loseDram {s : State} (hs : s.Inv) :
    (State.loseDram s).Inv := by
  unfold State.loseDram
  repeat' (first | intro _ | with_reducible exact hs | with_reducible assumption | with_reducible apply inv_ite
                 | with_reducible apply inv_foldl | with_reducible apply inv_loseEntry | with_reducible apply inv_putHost
                 | with_reducible apply inv_putOffice | with_reducible apply inv_setCritical | with_reducible apply forms_of_inv
                 | with_reducible apply forms_cells_nil | simp only [↓inv_mk] | split | (dsimp only; split))

theorem inv_clearUnits {s : State} (hs : s.Inv) :
    (State.clearUnits s).Inv := by
  unfold State.clearUnits
  repeat' (first | intro _ | with_reducible exact hs | with_reducible assumption | with_reducible apply inv_ite
                 | with_reducible apply forms_of_inv | simp only [↓inv_mk] | split | (dsimp only; split))

theorem inv_identify {s : State} (hs : s.Inv) :
    (State.identify s).Inv := by
  unfold State.identify
  repeat' (first | intro _ | with_reducible exact hs | with_reducible assumption | with_reducible apply inv_foldl
                 | with_reducible apply inv_putWord | with_reducible apply inv_setAll | with_reducible apply forms_of_inv
                 | simp only [↓inv_mk] | split | (dsimp only; split))

theorem inv_powerLost {s : State} {cold : Bool} (hs : s.Inv) :
    (State.powerLost s cold).Inv := by
  unfold State.powerLost
  repeat' (first | intro _ | with_reducible exact hs | with_reducible assumption | with_reducible apply inv_ite
                 | with_reducible apply inv_foldl | with_reducible apply inv_clearUnits | with_reducible apply inv_disarm
                 | with_reducible apply inv_identify | with_reducible apply inv_ldgDrain | with_reducible apply inv_ldgRefresh
                 | with_reducible apply inv_loseDram | with_reducible apply inv_set | with_reducible apply inv_slipCount
                 | with_reducible apply forms_of_inv | with_reducible apply forms_regs_nil | simp only [↓inv_mk] | split
                 | (dsimp only; split))

theorem inv_domainsLost {s : State} (hs : s.Inv) :
    (State.domainsLost s).Inv := by
  unfold State.domainsLost
  repeat' (first | with_reducible exact hs | with_reducible apply inv_clearUnits | with_reducible apply inv_disarm
                 | with_reducible apply inv_identify | with_reducible apply inv_loseDram | with_reducible apply inv_noEnvelope
                 | with_reducible apply inv_setAll | with_reducible apply forms_of_inv | with_reducible apply forms_regs_filter
                 | simp only [↓inv_mk])

theorem inv_noteRejects {s : State} {bad : List (Nat × Nat)} (hs : s.Inv) :
    (State.noteRejects s bad).Inv := by
  unfold State.noteRejects
  repeat' (first | intro _ | with_reducible exact hs | with_reducible assumption | with_reducible apply inv_ite
                 | with_reducible apply inv_foldl | with_reducible apply inv_ledger | with_reducible apply inv_putHost
                 | with_reducible apply inv_setAll | with_reducible apply forms_of_inv | simp only [↓inv_mk] | split
                 | (dsimp only; split))

theorem inv_countTrial {s : State} {k : Nat} (hs : s.Inv) :
    (State.countTrial s k).Inv := by
  unfold State.countTrial
  repeat' (first | intro _ | with_reducible exact hs | with_reducible assumption | with_reducible apply inv_ite
                 | with_reducible apply inv_changeDev | with_reducible apply forms_of_inv | simp only [↓inv_mk] | split
                 | (dsimp only; split))

theorem inv_enterRecovery {s : State} {cause bootMs : Nat} (hs : s.Inv) :
    (State.enterRecovery s cause bootMs).Inv := by
  unfold State.enterRecovery
  repeat' (first | with_reducible exact hs | with_reducible apply inv_clear | with_reducible apply inv_ledger
                 | with_reducible apply inv_putBooks | with_reducible apply inv_setAll)

theorem inv_startStep1 {s : State} {cold : Bool} {f : StartFacts} (hs : s.Inv) :
    (State.startStep1 s cold f).Inv := by
  unfold State.startStep1
  repeat' (first | with_reducible exact hs | with_reducible apply inv_ite | with_reducible apply inv_memState
                 | with_reducible apply inv_set | with_reducible apply inv_setAll | with_reducible apply forms_of_inv
                 | simp only [↓inv_mk] | split | (dsimp only; split))

theorem inv_startStep2 {s : State} {tested : Bool} {f : StartFacts} (hs : s.Inv) :
    (State.startStep2 s tested f).Inv := by
  unfold State.startStep2
  repeat' (first | intro _ | with_reducible exact hs | with_reducible assumption | with_reducible apply inv_ite
                 | with_reducible apply inv_foldl | with_reducible apply inv_pdSwitchOn | with_reducible apply inv_setAll
                 | with_reducible apply forms_of_inv | simp only [↓inv_mk] | split | (dsimp only; split))

theorem inv_startStep8 {s : State} {tested : Bool} {f : StartFacts} {fac z : Area} (hs : s.Inv) :
    (State.startStep8 s tested f fac z).Inv := by
  unfold State.startStep8
  repeat' (first | intro _ | with_reducible exact hs | with_reducible assumption | with_reducible apply inv_ite
                 | with_reducible apply inv_foldl | with_reducible apply inv_inc | with_reducible apply inv_pdSwitchOn
                 | with_reducible apply inv_set | with_reducible apply inv_setAll | with_reducible apply forms_of_inv
                 | simp only [↓inv_mk] | split | (dsimp only; split))

theorem inv_postRecord {s : State} {k : Nat} {pairs : List (Nat × Nat)} (hs : s.Inv) :
    (State.postRecord s k pairs).Inv := by
  unfold State.postRecord
  repeat' (first | with_reducible exact hs | with_reducible apply inv_ite | with_reducible apply inv_applySet
                 | with_reducible apply inv_event | with_reducible apply inv_ledger | with_reducible apply inv_putHost
                 | with_reducible apply forms_of_inv | simp only [↓inv_mk] | split | (dsimp only; split))

theorem inv_postHeads {s : State} {cold : Bool} (hs : s.Inv) :
    (State.postHeads s cold).Inv := by
  unfold State.postHeads
  repeat' (first | intro _ | with_reducible exact hs | with_reducible assumption | with_reducible apply inv_ite
                 | with_reducible apply inv_foldl | with_reducible apply inv_changeDev | with_reducible apply inv_setBit
                 | with_reducible apply inv_setPos | with_reducible apply forms_of_inv | simp only [↓inv_mk] | split
                 | (dsimp only; split))

theorem inv_loadKeys {s : State} {kek : List Nat} (hs : s.Inv) :
    (State.loadKeys s kek).Inv := by
  unfold State.loadKeys
  repeat' (first | intro _ | with_reducible exact hs | with_reducible assumption | with_reducible apply inv_ite
                 | with_reducible apply inv_foldl | with_reducible apply inv_putCons | with_reducible apply inv_putKey
                 | with_reducible apply inv_set | with_reducible apply forms_of_inv | with_reducible apply inv_fst ‹_ = (_, _)›
                 | simp only [↓inv_mk] | split | (dsimp only; split))

theorem inv_replayTray {s : State} {pools : List Nat} (hs : s.Inv) :
    (State.replayTray s pools).Inv := by
  unfold State.replayTray
  repeat' (first | intro _ | with_reducible exact hs | with_reducible assumption | with_reducible apply inv_ite
                 | with_reducible apply inv_foldl | with_reducible apply inv_bagStore | with_reducible apply inv_bpmRefresh
                 | with_reducible apply inv_itrayRefresh | with_reducible apply inv_putHost | with_reducible apply inv_set
                 | with_reducible apply inv_takeBags | with_reducible apply forms_of_inv | with_reducible apply inv_fst ‹_ = (_, _)›
                 | simp only [↓inv_mk] | split | (dsimp only; split))

theorem inv_replayJournal {s : State} (hs : s.Inv) :
    (State.replayJournal s).Inv := by
  unfold State.replayJournal
  repeat' (first | intro _ | with_reducible exact hs | with_reducible assumption | with_reducible apply inv_foldl
                 | with_reducible apply inv_freeGroups | with_reducible apply inv_journal | with_reducible apply inv_set)

theorem inv_closeOpen {s : State} (hs : s.Inv) :
    (State.closeOpen s).Inv := by
  unfold State.closeOpen
  repeat' (first | intro _ | with_reducible exact hs | with_reducible assumption | with_reducible apply inv_foldl
                 | with_reducible apply inv_closeRec | with_reducible apply inv_deskRefresh | with_reducible apply inv_ldgSaveFrozen
                 | with_reducible apply forms_of_inv | simp only [↓inv_mk])

theorem inv_loadSaved {s : State} (hs : s.Inv) :
    (State.loadSaved s).Inv := by
  unfold State.loadSaved
  repeat' (first | with_reducible exact hs | with_reducible apply inv_applyNet | with_reducible apply inv_putHost
                 | with_reducible apply inv_set | with_reducible apply forms_of_inv | simp only [↓inv_mk])

theorem inv_takeCal {s : State} {t : CalTable} (hs : s.Inv) :
    (State.takeCal s t).Inv := by
  unfold State.takeCal
  repeat' (first | intro _ | with_reducible exact hs | with_reducible assumption | with_reducible apply inv_ite
                 | with_reducible apply inv_foldl | with_reducible apply inv_putHost | with_reducible apply inv_set
                 | with_reducible apply forms_of_inv | with_reducible apply inv_fst ‹_ = (_, _)› | simp only [↓inv_mk] | split
                 | (dsimp only; split))

theorem inv_takeCals {s : State} {copy : Nat} {fac : Area} (hs : s.Inv) :
    (State.takeCals s copy fac).Inv := by
  unfold State.takeCals
  repeat' (first | intro _ | with_reducible exact hs | with_reducible assumption | with_reducible apply inv_foldl
                 | with_reducible apply inv_takeCal | with_reducible apply forms_of_inv | simp only [↓inv_mk])

theorem inv_startUp {s : State} {cause : Nat} {tested : Bool} {f : StartFacts} (hs : s.Inv) :
    (State.startUp s cause tested f).Inv := by
  unfold State.startUp
  repeat' (first | intro _ | with_reducible exact hs | with_reducible assumption | with_reducible apply inv_ite
                 | with_reducible apply inv_foldl | with_reducible apply inv_closeOpen | with_reducible apply inv_connsRefresh
                 | with_reducible apply inv_countTrial | with_reducible apply inv_enterRecovery | with_reducible apply inv_eraseSteps
                 | with_reducible apply inv_hqRefresh | with_reducible apply inv_ledger | with_reducible apply inv_loadKeys
                 | with_reducible apply inv_loadSaved | with_reducible apply inv_noteBooks | with_reducible apply inv_noteRejects
                 | with_reducible apply inv_postHeads | with_reducible apply inv_postRecord | with_reducible apply inv_putCons
                 | with_reducible apply inv_replayJournal | with_reducible apply inv_replayTray
                 | with_reducible apply inv_restoreSlips | with_reducible apply inv_sense | with_reducible apply inv_set
                 | with_reducible apply inv_setAll | with_reducible apply inv_startStep2 | with_reducible apply inv_startStep8
                 | with_reducible apply inv_takeCals | with_reducible apply forms_of_inv | with_reducible apply inv_fst ‹_ = (_, _)›
                 | simp only [↓inv_mk] | split | (dsimp only; split))

theorem inv_startDrive {s : State} {cause : Nat} {f : StartFacts} (hs : s.Inv) :
    (State.startDrive s cause f).Inv := by
  unfold State.startDrive
  repeat' (first | with_reducible exact hs | with_reducible apply inv_startStep1 | with_reducible apply inv_startUp)

theorem inv_resetProtocol {s : State} {z : Option Area} (hs : s.Inv) :
    (State.resetProtocol s z).Inv := by
  unfold State.resetProtocol
  repeat' (first | intro _ | with_reducible exact hs | with_reducible assumption | with_reducible apply inv_connsRefresh
                 | with_reducible apply inv_endAll | with_reducible apply inv_hqRefresh | with_reducible apply inv_noEnvelope
                 | with_reducible apply inv_set | with_reducible apply forms_of_inv | with_reducible apply forms_regs_filter
                 | simp only [↓inv_mk] | split | (dsimp only; split))

theorem inv_ledgerPower {s : State} (hs : s.Inv) :
    (State.ledgerPower s).Inv := by
  unfold State.ledgerPower
  repeat' (first | with_reducible exact hs | with_reducible apply inv_ledger)

theorem inv_tellCores {s : State} {block : Nat} (hs : s.Inv) :
    (State.tellCores s block).Inv := by
  unfold State.tellCores
  repeat' (first | intro _ | with_reducible exact hs | with_reducible assumption | with_reducible apply inv_foldl
                 | with_reducible apply inv_emit | with_reducible apply forms_of_inv | simp only [↓inv_mk])

theorem inv_warnCmd {s : State} {ladder : List Nat} {serial : Nat} (hs : s.Inv) :
    (State.warnCmd s ladder serial).Inv := by
  unfold State.warnCmd
  repeat' (first | with_reducible exact hs | with_reducible apply inv_ite | with_reducible apply inv_answer
                 | with_reducible apply inv_bagReleaseAll | with_reducible apply inv_putCmd | with_reducible apply inv_store
                 | with_reducible apply inv_storeNow | with_reducible apply inv_writeNow | with_reducible apply forms_of_inv
                 | with_reducible apply inv_fst ‹_ = (_, _)› | simp only [↓inv_mk] | split | (dsimp only; split))

theorem inv_warnTold {s : State} (hs : s.Inv) :
    (State.warnTold s).Inv := by
  unfold State.warnTold
  repeat' (first | with_reducible exact hs | with_reducible apply inv_ite | with_reducible apply inv_inc
                 | with_reducible apply inv_set | with_reducible apply inv_tellCores | with_reducible apply forms_of_inv
                 | simp only [↓inv_mk] | split | (dsimp only; split))

theorem inv_warn {s : State} (hs : s.Inv) :
    (State.warn s).Inv := by
  unfold State.warn
  repeat' (first | intro _ | with_reducible exact hs | with_reducible assumption | with_reducible apply inv_foldl
                 | with_reducible apply inv_abandonLadders | with_reducible apply inv_hqRefresh | with_reducible apply inv_ledgerPower
                 | with_reducible apply inv_phcFlush | with_reducible apply inv_stopAllInj | with_reducible apply inv_warnCmd
                 | with_reducible apply inv_warnTold | with_reducible apply forms_of_inv | simp only [↓inv_mk])

theorem inv_raiseReads {s : State} (hs : s.Inv) :
    (State.raiseReads s).Inv := by
  unfold State.raiseReads
  repeat' (first | intro _ | with_reducible exact hs | with_reducible assumption | with_reducible apply inv_ite
                 | with_reducible apply forms_of_inv | simp only [↓inv_mk] | split | (dsimp only; split))

theorem inv_brownout {s : State} (hs : s.Inv) :
    (State.brownout s).Inv := by
  unfold State.brownout
  repeat' (first | with_reducible exact hs | with_reducible apply inv_powerLost | with_reducible apply inv_raiseReads
                 | with_reducible apply forms_of_inv | simp only [↓inv_mk])

theorem inv_flushDone {s : State} (hs : s.Inv) :
    (State.flushDone s).Inv := by
  unfold State.flushDone
  repeat' (first | intro _ | with_reducible exact hs | with_reducible assumption | with_reducible apply inv_ite
                 | with_reducible apply inv_brownout | with_reducible apply inv_coast
                 | with_reducible apply inv_latchedAfterDeclaration | with_reducible apply inv_notAtSpeed
                 | with_reducible apply inv_putHost | with_reducible apply inv_releaseDeferred | with_reducible apply inv_set
                 | with_reducible apply forms_of_inv | simp only [↓inv_mk] | split | (dsimp only; split))

theorem inv_noteStart {s : State} {cause bootMs : Nat} (hs : s.Inv) :
    (State.noteStart s cause bootMs).Inv := by
  unfold State.noteStart
  repeat' (first | with_reducible exact hs | with_reducible apply inv_ledger | with_reducible apply inv_setAll
                 | with_reducible apply forms_of_inv | simp only [↓inv_mk])

theorem inv_restart {s : State} {facts : StartFacts} (hs : s.Inv) :
    (State.restart s facts).Inv := by
  unfold State.restart
  repeat' (first | with_reducible exact hs | with_reducible apply inv_ite | with_reducible apply inv_deskRefresh
                 | with_reducible apply inv_domainsLost | with_reducible apply inv_raiseReads | with_reducible apply inv_set
                 | with_reducible apply inv_startDrive | with_reducible apply forms_of_inv | simp only [↓inv_mk] | split
                 | (dsimp only; split))

theorem inv_chopFault {s : State} (hs : s.Inv) :
    (State.chopFault s).Inv := by
  unfold State.chopFault
  repeat' (first | with_reducible exact hs | with_reducible apply inv_setAll | with_reducible apply forms_of_inv | simp only [↓inv_mk])

theorem inv_pdSwitching {s : State} (hs : s.Inv) :
    (State.pdSwitching s).Inv := by
  unfold State.pdSwitching
  repeat' (first | with_reducible exact hs | with_reducible apply inv_set)

theorem inv_freshKeys {s : State} {n : Nat} (hs : s.Inv) :
    (State.freshKeys s n).Inv := by
  unfold State.freshKeys
  repeat' (first | with_reducible exact hs | with_reducible apply inv_ite | with_reducible apply inv_loadKeys
                 | with_reducible apply forms_of_inv | simp only [↓inv_mk] | split | (dsimp only; split))

theorem inv_writeTrial {s : State} {k : Nat} {z : Area} (hs : s.Inv) :
    (State.writeTrial s k z).Inv := by
  unfold State.writeTrial
  repeat' (first | intro _ | with_reducible exact hs | with_reducible assumption | with_reducible apply inv_ite
                 | with_reducible apply inv_changeDev | with_reducible apply forms_of_inv | simp only [↓inv_mk] | split
                 | (dsimp only; split))

theorem inv_advance {s : State} {ns : Nat} (hs : s.Inv) :
    (State.advance s ns).Inv := by
  unfold State.advance
  repeat' (first | with_reducible exact hs | with_reducible apply inv_set | with_reducible apply forms_of_inv | simp only [↓inv_mk])

theorem inv_setSrc {s : State} {src : Nat} (hs : s.Inv) :
    (State.setSrc s src).Inv := by
  unfold State.setSrc
  repeat' (first | with_reducible exact hs | with_reducible apply inv_ite | with_reducible apply inv_set
                 | with_reducible apply forms_of_inv | simp only [↓inv_mk] | split | (dsimp only; split))

theorem inv_slew {s : State} {e : Int} (hs : s.Inv) :
    (State.slew s e).Inv := by
  unfold State.slew
  repeat' (first | intro _ | with_reducible exact hs | with_reducible assumption | with_reducible apply inv_ite
                 | with_reducible apply inv_putHost | with_reducible apply inv_set | with_reducible apply inv_setSrc
                 | with_reducible apply forms_of_inv | simp only [↓inv_mk] | split | (dsimp only; split))

theorem inv_sourceTick {s : State} {f : TickFacts} (hs : s.Inv) :
    (State.sourceTick s f).Inv := by
  unfold State.sourceTick
  repeat' (first | intro _ | with_reducible exact hs | with_reducible assumption | with_reducible apply inv_ite
                 | with_reducible apply inv_set | with_reducible apply inv_setAll | with_reducible apply inv_setSrc
                 | with_reducible apply inv_slew | with_reducible apply forms_of_inv | with_reducible apply inv_fst ‹_ = (_, _)›
                 | simp only [↓inv_mk] | split | (dsimp only; split))

theorem inv_degradedTick {s : State} {ns : Nat} (hs : s.Inv) :
    (State.degradedTick s ns).Inv := by
  unfold State.degradedTick
  repeat' (first | with_reducible exact hs | with_reducible apply inv_ite | with_reducible apply inv_putHost
                 | with_reducible apply inv_raiseEvent | with_reducible apply forms_of_inv | simp only [↓inv_mk] | split
                 | (dsimp only; split))

theorem inv_measCoil {s : State} {p v : Nat} (hs : s.Inv) :
    (State.measCoil s p v).Inv := by
  unfold State.measCoil
  repeat' (first | with_reducible exact hs | with_reducible apply inv_ite | with_reducible apply inv_setS | split | (dsimp only; split))

theorem inv_latchPorts {s : State} {l : List (Nat × Nat)} (hs : s.Inv) :
    (State.latchPorts s l).Inv := by
  unfold State.latchPorts
  repeat' (first | intro _ | with_reducible exact hs | with_reducible assumption | with_reducible apply inv_ite
                 | with_reducible apply inv_foldl | with_reducible apply inv_latch | with_reducible apply inv_measCoil
                 | with_reducible apply forms_of_inv | simp only [↓inv_mk] | split | (dsimp only; split))

theorem inv_chopTick {s : State} {uj ns : Nat} (hs : s.Inv) :
    (State.chopTick s uj ns).Inv := by
  unfold State.chopTick
  repeat' (first | with_reducible exact hs | with_reducible apply inv_ite | with_reducible apply inv_set
                 | with_reducible apply forms_of_inv | simp only [↓inv_mk] | split | (dsimp only; split))

theorem inv_powerTick {s : State} {f : TickFacts} (hs : s.Inv) :
    (State.powerTick s f).Inv := by
  unfold State.powerTick
  repeat' (first | intro _ | with_reducible exact hs | with_reducible assumption | with_reducible apply inv_ite
                 | with_reducible apply inv_foldl | with_reducible apply inv_chopTick | with_reducible apply inv_latch
                 | with_reducible apply inv_set | with_reducible apply inv_setAll | split | (dsimp only; split))

theorem inv_sample {s : State} {n : Nat} {t : Int} (hs : s.Inv) :
    (State.sample s n t).Inv := by
  unfold State.sample
  repeat' (first | intro _ | with_reducible exact hs | with_reducible assumption | with_reducible apply inv_ite
                 | with_reducible apply inv_latch | with_reducible apply inv_set | with_reducible apply forms_of_inv
                 | simp only [↓inv_mk] | split | (dsimp only; split))

theorem inv_sampleAll {s : State} {f : TickFacts} (hs : s.Inv) :
    (State.sampleAll s f).Inv := by
  unfold State.sampleAll
  repeat' (first | intro _ | with_reducible exact hs | with_reducible assumption | with_reducible apply inv_foldl
                 | with_reducible apply inv_latch | with_reducible apply inv_sample | with_reducible apply inv_set
                 | with_reducible apply forms_of_inv | simp only [↓inv_mk])

theorem inv_boardTick {s : State} (hs : s.Inv) :
    (State.boardTick s).Inv := by
  unfold State.boardTick
  repeat' (first | with_reducible exact hs | with_reducible apply inv_ite | with_reducible apply forms_of_inv | simp only [↓inv_mk]
                 | split | (dsimp only; split))

theorem inv_junctionTick {s : State} {f : TickFacts} (hs : s.Inv) :
    (State.junctionTick s f).Inv := by
  unfold State.junctionTick
  repeat' (first | with_reducible exact hs | with_reducible apply inv_ite | with_reducible apply inv_set
                 | with_reducible apply inv_setS | with_reducible apply forms_of_inv | simp only [↓inv_mk] | split
                 | (dsimp only; split))

theorem inv_coolingTick {s : State} (hs : s.Inv) :
    (State.coolingTick s).Inv := by
  unfold State.coolingTick
  repeat' (first | intro _ | with_reducible exact hs | with_reducible assumption | with_reducible apply inv_setS
                 | with_reducible apply forms_of_inv | simp only [↓inv_mk])

theorem inv_levelTick {s : State} (hs : s.Inv) :
    (State.levelTick s).Inv := by
  unfold State.levelTick
  repeat' (first | with_reducible exact hs | with_reducible apply inv_ite | with_reducible apply inv_event
                 | with_reducible apply inv_ledgerHeat | with_reducible apply inv_set | with_reducible apply forms_of_inv
                 | simp only [↓inv_mk] | split | (dsimp only; split))

theorem inv_heatTimes {s : State} {ns : Nat} (hs : s.Inv) :
    (State.heatTimes s ns).Inv := by
  unfold State.heatTimes
  repeat' (first | with_reducible exact hs | with_reducible apply inv_ite | with_reducible apply forms_of_inv | simp only [↓inv_mk]
                 | split | (dsimp only; split))

theorem inv_latchActivity {s : State} {a : Nat} {counts : List Nat} (hs : s.Inv) :
    (State.latchActivity s a counts).Inv := by
  unfold State.latchActivity
  repeat' (first | intro _ | with_reducible exact hs | with_reducible assumption | with_reducible apply inv_ite
                 | with_reducible apply inv_foldl | with_reducible apply inv_latch | with_reducible apply forms_of_inv
                 | simp only [↓inv_mk] | split | (dsimp only; split))

theorem inv_heatPorts {s : State} (hs : s.Inv) :
    (State.heatPorts s).Inv := by
  unfold State.heatPorts
  repeat' (first | with_reducible exact hs | with_reducible apply inv_putPortOut | with_reducible apply forms_of_inv
                 | simp only [↓inv_mk])

theorem inv_heatTick {s : State} {f : TickFacts} (hs : s.Inv) :
    (State.heatTick s f).Inv := by
  unfold State.heatTick
  repeat' (first | with_reducible exact hs | with_reducible apply inv_ite | with_reducible apply inv_boardTick
                 | with_reducible apply inv_coolingTick | with_reducible apply inv_heatPorts | with_reducible apply inv_heatTimes
                 | with_reducible apply inv_junctionTick | with_reducible apply inv_latchActivity | with_reducible apply inv_levelTick
                 | with_reducible apply inv_sampleAll | split | (dsimp only; split))

theorem inv_clearTrial {s : State} (hs : s.Inv) :
    (State.clearTrial s).Inv := by
  unfold State.clearTrial
  repeat' (first | intro _ | with_reducible exact hs | with_reducible assumption | with_reducible apply inv_ite
                 | with_reducible apply inv_saveDev | with_reducible apply forms_of_inv | simp only [↓inv_mk] | split
                 | (dsimp only; split))

theorem inv_readyTick {s : State} (hs : s.Inv) :
    (State.readyTick s).Inv := by
  unfold State.readyTick
  repeat' (first | with_reducible exact hs | with_reducible apply inv_ite | with_reducible apply inv_clearTrial
                 | with_reducible apply inv_putHost | with_reducible apply forms_of_inv | simp only [↓inv_mk] | split
                 | (dsimp only; split))

theorem inv_slowTick {s : State} (hs : s.Inv) :
    (State.slowTick s).Inv := by
  unfold State.slowTick
  repeat' (first | intro _ | with_reducible exact hs | with_reducible assumption | with_reducible apply inv_ite
                 | with_reducible apply inv_applySet | with_reducible apply inv_putHost | with_reducible apply forms_of_inv
                 | simp only [↓inv_mk] | split | (dsimp only; split))

theorem inv_postTick {s : State} (hs : s.Inv) :
    (State.postTick s).Inv := by
  unfold State.postTick
  repeat' (first | intro _ | with_reducible exact hs | with_reducible assumption | with_reducible apply inv_ite
                 | with_reducible apply inv_putOffice | with_reducible apply inv_sealTick | with_reducible apply forms_of_inv
                 | simp only [↓inv_mk] | split | (dsimp only; split))

theorem inv_unitsTick {s : State} {f : TickFacts} (hs : s.Inv) :
    (State.unitsTick s f).Inv := by
  unfold State.unitsTick
  repeat' (first | intro _ | with_reducible exact hs | with_reducible assumption | with_reducible apply inv_foldl
                 | with_reducible apply inv_ageZoneSets | with_reducible apply inv_aspTick | with_reducible apply inv_degradedTick
                 | with_reducible apply inv_engineTick | with_reducible apply inv_latchPorts | with_reducible apply inv_loopTick
                 | with_reducible apply inv_pmkTick | with_reducible apply inv_postTick | with_reducible apply inv_powerTick
                 | with_reducible apply inv_readyTick | with_reducible apply inv_settlePower | with_reducible apply inv_slowTick
                 | with_reducible apply inv_sourceTick | with_reducible apply inv_spindleTick | with_reducible apply inv_takeUp
                 | with_reducible apply inv_wedgePass | with_reducible apply forms_of_inv | simp only [↓inv_mk])

theorem inv_writeFld {s : State} {f : Fld} {v : Nat} (hs : s.Inv) :
    (State.writeFld s f v).Inv := by
  unfold State.writeFld
  repeat' (first | with_reducible exact hs | with_reducible apply inv_ite | with_reducible apply inv_set
                 | with_reducible apply forms_of_inv | with_reducible apply inv_fst ‹_ = (_, _)› | simp only [↓inv_mk] | split
                 | (dsimp only; split))

theorem inv_dataWord {s : State} {i : Initiator} {a v : Nat} (hs : s.Inv) :
    (State.dataWord s i a v).Inv := by
  unfold State.dataWord
  repeat' (first | with_reducible exact hs | with_reducible apply inv_ite | with_reducible apply inv_set
                 | with_reducible apply forms_of_inv | simp only [↓inv_mk] | split | (dsimp only; split))

theorem inv_spnEnable {s : State} (hs : s.Inv) :
    (State.spnEnable s).Inv := by
  unfold State.spnEnable
  repeat' (first | with_reducible exact hs | with_reducible apply inv_ite | with_reducible apply inv_coast
                 | with_reducible apply inv_notAtSpeed | with_reducible apply inv_putSpn | with_reducible apply inv_setSp
                 | with_reducible apply forms_of_inv | simp only [↓inv_mk] | split | (dsimp only; split))

theorem inv_armEnable {s : State} {x : Act} (hs : s.Inv) :
    (State.armEnable s x).Inv := by
  unfold State.armEnable
  repeat' (first | with_reducible exact hs | with_reducible apply inv_ite | with_reducible apply inv_set | split | (dsimp only; split))

theorem inv_setLate {s : State} {k : Nat} {isLate : Bool} (hs : s.Inv) :
    (State.setLate s k isLate).Inv := by
  unfold State.setLate
  repeat' (first | with_reducible exact hs | with_reducible apply inv_ite | with_reducible apply forms_of_inv | simp only [↓inv_mk]
                 | split | (dsimp only; split))

theorem inv_armChannel {s : State} {a v : Nat} (hs : s.Inv) :
    (State.armChannel s a v).Inv := by
  unfold State.armChannel
  repeat' (first | with_reducible exact hs | with_reducible apply inv_ite | with_reducible apply inv_set
                 | with_reducible apply inv_setLate | with_reducible apply forms_of_inv | simp only [↓inv_mk] | split
                 | (dsimp only; split))

theorem inv_afterWrite {s : State} {a v : Nat} (hs : s.Inv) :
    (State.afterWrite s a v).Inv := by
  unfold State.afterWrite
  repeat' (first | with_reducible exact hs | with_reducible apply inv_ite | with_reducible apply inv_abortOn
                 | with_reducible apply inv_armChannel | with_reducible apply inv_armEnable | with_reducible apply inv_cnsRefresh
                 | with_reducible apply inv_dmaRefresh | with_reducible apply inv_laneRest | with_reducible apply inv_ldgDrain
                 | with_reducible apply inv_nfcRefresh | with_reducible apply inv_pmkCtrlWritten | with_reducible apply inv_sofRefresh
                 | with_reducible apply inv_spnEnable | with_reducible apply forms_of_inv | with_reducible apply inv_fst ‹_ = (_, _)›
                 | simp only [↓inv_mk] | split | (dsimp only; split))

theorem inv_portEnable {s : State} {a was : Nat} (hs : s.Inv) :
    (State.portEnable s a was).Inv := by
  unfold State.portEnable
  repeat' (first | with_reducible exact hs | with_reducible apply inv_ite | with_reducible apply inv_linkReset | split
                 | (dsimp only; split))

theorem inv_liveWrite {s : State} {i : Initiator} {a v : Nat} (hs : s.Inv) :
    (State.liveWrite s i a v).Inv := by
  unfold State.liveWrite
  repeat' (first | intro _ | with_reducible exact hs | with_reducible assumption | with_reducible apply inv_ite
                 | with_reducible apply inv_foldl | with_reducible apply inv_afterWrite | with_reducible apply inv_dataWord
                 | with_reducible apply inv_ignored | with_reducible apply inv_portEnable | with_reducible apply inv_set
                 | with_reducible apply inv_writeFld | with_reducible apply forms_of_inv | simp only [↓inv_mk] | split
                 | (dsimp only; split))

theorem inv_readWord {s : State} {a : Nat} (hs : s.Inv) :
    (State.readWord s a).Inv := by
  unfold State.readWord
  repeat' (first | with_reducible exact hs | with_reducible apply inv_ite | with_reducible apply forms_of_inv | simp only [↓inv_mk]
                 | split | (dsimp only; split))

theorem inv_servoCommand {s : State} {x : Act} {e : Int} (hs : s.Inv) :
    (State.servoCommand s x e).Inv := by
  unfold State.servoCommand
  repeat' (first | with_reducible exact hs | with_reducible apply inv_ite | with_reducible apply inv_armWrite
                 | with_reducible apply inv_set | with_reducible apply forms_of_inv | with_reducible apply inv_fst ‹_ = (_, _)›
                 | simp only [↓inv_mk] | split | (dsimp only; split))

theorem inv_microCommand {s : State} {x : Act} {e : Int} (hs : s.Inv) :
    (State.microCommand s x e).Inv := by
  unfold State.microCommand
  repeat' (first | with_reducible exact hs | with_reducible apply inv_ite | with_reducible apply inv_armWrite
                 | with_reducible apply inv_putLp | with_reducible apply forms_of_inv | simp only [↓inv_mk] | split
                 | (dsimp only; split))

theorem inv_rampStep {s : State} {x : Act} {near : Bool} (hs : s.Inv) :
    (State.rampStep s x near).Inv := by
  unfold State.rampStep
  repeat' (first | with_reducible exact hs | with_reducible apply inv_ite | with_reducible apply inv_climbRamp
                 | with_reducible apply inv_set | with_reducible apply inv_setRamp | split | (dsimp only; split))

theorem inv_deliverPes {s : State} {x : Act} {track frac : Nat} {gray burst : Bool} (hs : s.Inv) :
    (State.deliverPes s x track frac gray burst).Inv := by
  unfold State.deliverPes
  repeat' (first | with_reducible exact hs | with_reducible apply inv_ite | with_reducible apply inv_latch
                 | with_reducible apply inv_microCommand | with_reducible apply inv_putLp | with_reducible apply inv_rampStep
                 | with_reducible apply inv_ready | with_reducible apply inv_servoCommand | with_reducible apply inv_set
                 | with_reducible apply inv_setInhibit | with_reducible apply inv_wedgeDone | with_reducible apply forms_of_inv
                 | simp only [↓inv_mk] | split | (dsimp only; split))

end Sys2Proof.Machine
end

