-- ==== Sys2Proof/Laws/Frames.lean ====
section
/-!
SUPPORT. The frame of each operation: from a state that differs from `s0` in the parts `P` alone it leads to one that does, where
`P` holds the parts the operation writes (`Only` stands in Sys2Proof/Safety.lean).
-/
set_option linter.unusedSimpArgs false
namespace Sys2Proof.Machine

/-- A list of parts within another. -/
theorem sub_of {Q R P : List Part} (hP : ∀ p ∈ R, p ∈ P) (h : (Q.all fun p => R.contains p) = true) : ∀ p ∈ Q, p ∈ P := by
  intro p hp
  exact hP p (by simpa using (List.all_eq_true.1 h) p hp)

theorem Only.refl {P : List Part} (s : State) : Only P s s := by
  unfold Only Parts
  and_intros <;> first | exact .inr rfl | exact .inr fun _ => .inr rfl

/-- A change within some parts is one within more; a block's registers are among all registers. -/
theorem Only.widen {P Q : List Part} {s t : State} (h : Only Q s t)
    (hQ : ∀ p ∈ Q, p ∈ P ∨ .regs ∈ P ∧ ∃ b, p = .reg b) : Only P s t := by
  have keep : ∀ {p : Part} {A : Prop}, (∀ b, p ≠ .reg b) → p ∈ Q ∨ A → p ∈ P ∨ A := by
    intro p A hp h
    rcases h with h | h
    · rcases hQ p h with h | ⟨_, b, h⟩
      · exact .inl h
      · exact absurd h (hp b)
    · exact .inr h
  unfold Only Parts at h ⊢
  obtain ⟨a, b, c⟩ := h
  refine ⟨keep (by simp) a, ?_, ?_⟩
  · rcases b with b | b
    · rcases hQ _ b with h | ⟨h, _⟩ <;> exact .inl h
    · by_cases e : Part.regs ∈ P
      · exact .inl e
      · refine .inr fun g => ?_
        rcases b g with b | b
        · rcases hQ _ b with h | ⟨h, _⟩
          · exact .inl h
          · exact absurd h e
        · exact .inr b
  · refine ⟨keep (by simp) c.1, keep (by simp) c.2.1, keep (by simp) c.2.2.1, keep (by simp) c.2.2.2.1, keep (by simp) c.2.2.2.2.1,
      keep (by simp) c.2.2.2.2.2.1, keep (by simp) c.2.2.2.2.2.2.1, keep (by simp) c.2.2.2.2.2.2.2.1, keep (by simp)
      c.2.2.2.2.2.2.2.2.1, keep (by simp) c.2.2.2.2.2.2.2.2.2.1, keep (by simp) c.2.2.2.2.2.2.2.2.2.2.1, keep (by simp)
      c.2.2.2.2.2.2.2.2.2.2.2.1, keep (by simp) c.2.2.2.2.2.2.2.2.2.2.2.2.1, keep (by simp) c.2.2.2.2.2.2.2.2.2.2.2.2.2.1, keep (by
      simp) c.2.2.2.2.2.2.2.2.2.2.2.2.2.2.1, keep (by simp) c.2.2.2.2.2.2.2.2.2.2.2.2.2.2.2.1, keep (by simp)
      c.2.2.2.2.2.2.2.2.2.2.2.2.2.2.2.2.1, keep (by simp) c.2.2.2.2.2.2.2.2.2.2.2.2.2.2.2.2.2.1, keep (by simp)
      c.2.2.2.2.2.2.2.2.2.2.2.2.2.2.2.2.2.2.1, keep (by simp) c.2.2.2.2.2.2.2.2.2.2.2.2.2.2.2.2.2.2.2.1, keep (by simp)
      c.2.2.2.2.2.2.2.2.2.2.2.2.2.2.2.2.2.2.2.2.1, keep (by simp) c.2.2.2.2.2.2.2.2.2.2.2.2.2.2.2.2.2.2.2.2.2.1, keep (by simp)
      c.2.2.2.2.2.2.2.2.2.2.2.2.2.2.2.2.2.2.2.2.2.2.1, keep (by simp) c.2.2.2.2.2.2.2.2.2.2.2.2.2.2.2.2.2.2.2.2.2.2.2.1, keep (by
      simp) c.2.2.2.2.2.2.2.2.2.2.2.2.2.2.2.2.2.2.2.2.2.2.2.2.1, keep (by simp) c.2.2.2.2.2.2.2.2.2.2.2.2.2.2.2.2.2.2.2.2.2.2.2.2.2.1,
      keep (by simp) c.2.2.2.2.2.2.2.2.2.2.2.2.2.2.2.2.2.2.2.2.2.2.2.2.2.2.1, keep (by simp)
      c.2.2.2.2.2.2.2.2.2.2.2.2.2.2.2.2.2.2.2.2.2.2.2.2.2.2.2.1, keep (by simp)
      c.2.2.2.2.2.2.2.2.2.2.2.2.2.2.2.2.2.2.2.2.2.2.2.2.2.2.2.2.1, keep (by simp)
      c.2.2.2.2.2.2.2.2.2.2.2.2.2.2.2.2.2.2.2.2.2.2.2.2.2.2.2.2.2.1, keep (by simp)
      c.2.2.2.2.2.2.2.2.2.2.2.2.2.2.2.2.2.2.2.2.2.2.2.2.2.2.2.2.2.2.1, keep (by simp)
      c.2.2.2.2.2.2.2.2.2.2.2.2.2.2.2.2.2.2.2.2.2.2.2.2.2.2.2.2.2.2.2.1, keep (by simp)
      c.2.2.2.2.2.2.2.2.2.2.2.2.2.2.2.2.2.2.2.2.2.2.2.2.2.2.2.2.2.2.2.2.1, keep (by simp)
      c.2.2.2.2.2.2.2.2.2.2.2.2.2.2.2.2.2.2.2.2.2.2.2.2.2.2.2.2.2.2.2.2.2⟩

theorem only_mk {P : List Part} {s0 : State} {v r clockNs_ potNs_ bus_ straps_ tick_ cells_ nand_ psp_ env_ bootKeys_ desk_ ldg_ out_
    pending_ eng_ loops_ pmk_ tck_ spn_ motor_ cal_ books_ lanes_ dec_ rcv_ krx_ bags_ mem_ office_ cons_ host_ pre_ heat_ pwr_} :
    Only P s0 ⟨v, r, clockNs_, potNs_, bus_, straps_, tick_, cells_, nand_, psp_, env_, bootKeys_, desk_, ldg_, out_, pending_, eng_,
        loops_, pmk_, tck_, spn_, motor_, cal_, books_, lanes_, dec_, rcv_, krx_, bags_, mem_, office_, cons_, host_, pre_, heat_,
        pwr_⟩ = Parts P s0 v r clockNs_ potNs_ bus_ straps_ tick_ cells_ nand_ psp_ env_ bootKeys_ desk_ ldg_ out_ pending_ eng_
        loops_ pmk_ tck_ spn_ motor_ cal_ books_ lanes_ dec_ rcv_ krx_ bags_ mem_ office_ cons_ host_ pre_ heat_ pwr_ := rfl

/-- A part that need not be kept, or that is kept in two stages. -/
theorem part_trans {P : List Part} {p : Part} {α : Type} {x y z : α} (h : p ∈ P ∨ x = y) (k : p ∈ P ∨ y = z) : p ∈ P ∨ x = z :=
  h.elim .inl fun e => e ▸ k

theorem parts_of {P : List Part} {s0 X : State} {r clockNs_ potNs_ bus_ straps_ tick_ cells_ nand_ psp_ env_ bootKeys_ desk_ ldg_ out_
    pending_ eng_ loops_ pmk_ tck_ spn_ motor_ cal_ books_ lanes_ dec_ rcv_ krx_ bags_ mem_ office_ cons_ host_ pre_ heat_ pwr_} (h :
    Only P s0 X)
    (hr : .regs ∈ P ∨ r = X.regs) (h_clockNs : .clockNs ∈ P ∨ clockNs_ = X.clockNs) (h_potNs : .potNs ∈ P ∨ potNs_ = X.potNs) (h_bus :
        .bus ∈ P ∨ bus_ = X.bus) (h_straps : .straps ∈ P ∨ straps_ = X.straps) (h_tick : .tick ∈ P ∨ tick_ = X.tick) (h_cells : .cells
        ∈ P ∨ cells_ = X.cells) (h_nand : .nand ∈ P ∨ nand_ = X.nand) (h_psp : .psp ∈ P ∨ psp_ = X.psp) (h_env : .env ∈ P ∨ env_ =
        X.env) (h_bootKeys : .bootKeys ∈ P ∨ bootKeys_ = X.bootKeys) (h_desk : .desk ∈ P ∨ desk_ = X.desk) (h_ldg : .ldg ∈ P ∨ ldg_ =
        X.ldg) (h_out : .out ∈ P ∨ out_ = X.out) (h_pending : .pending ∈ P ∨ pending_ = X.pending) (h_eng : .eng ∈ P ∨ eng_ = X.eng)
        (h_loops : .loops ∈ P ∨ loops_ = X.loops) (h_pmk : .pmk ∈ P ∨ pmk_ = X.pmk) (h_tck : .tck ∈ P ∨ tck_ = X.tck) (h_spn : .spn ∈
        P ∨ spn_ = X.spn) (h_motor : .motor ∈ P ∨ motor_ = X.motor) (h_cal : .cal ∈ P ∨ cal_ = X.cal) (h_books : .books ∈ P ∨ books_ =
        X.books) (h_lanes : .lanes ∈ P ∨ lanes_ = X.lanes) (h_dec : .dec ∈ P ∨ dec_ = X.dec) (h_rcv : .rcv ∈ P ∨ rcv_ = X.rcv) (h_krx
        : .krx ∈ P ∨ krx_ = X.krx) (h_bags : .bags ∈ P ∨ bags_ = X.bags) (h_mem : .mem ∈ P ∨ mem_ = X.mem) (h_office : .office ∈ P ∨
        office_ = X.office) (h_cons : .cons ∈ P ∨ cons_ = X.cons) (h_host : .host ∈ P ∨ host_ = X.host) (h_pre : .pre ∈ P ∨ pre_ =
        X.pre) (h_heat : .heat ∈ P ∨ heat_ = X.heat) (h_pwr : .pwr ∈ P ∨ pwr_ = X.pwr) :
    Parts P s0 X.variant r clockNs_ potNs_ bus_ straps_ tick_ cells_ nand_ psp_ env_ bootKeys_ desk_ ldg_ out_ pending_ eng_ loops_
        pmk_ tck_ spn_ motor_ cal_ books_ lanes_ dec_ rcv_ krx_ bags_ mem_ office_ cons_ host_ pre_ heat_ pwr_ := by
  refine ⟨h.1, hr.elim .inl fun e => e ▸ h.2.1, part_trans h_clockNs h.2.2.1, part_trans h_potNs h.2.2.2.1, part_trans h_bus
      h.2.2.2.2.1, part_trans h_straps h.2.2.2.2.2.1, part_trans h_tick h.2.2.2.2.2.2.1, part_trans h_cells h.2.2.2.2.2.2.2.1,
      part_trans h_nand h.2.2.2.2.2.2.2.2.1, part_trans h_psp h.2.2.2.2.2.2.2.2.2.1, part_trans h_env h.2.2.2.2.2.2.2.2.2.2.1,
      part_trans h_bootKeys h.2.2.2.2.2.2.2.2.2.2.2.1, part_trans h_desk h.2.2.2.2.2.2.2.2.2.2.2.2.1, part_trans h_ldg
      h.2.2.2.2.2.2.2.2.2.2.2.2.2.1, part_trans h_out h.2.2.2.2.2.2.2.2.2.2.2.2.2.2.1, part_trans h_pending
      h.2.2.2.2.2.2.2.2.2.2.2.2.2.2.2.1, part_trans h_eng h.2.2.2.2.2.2.2.2.2.2.2.2.2.2.2.2.1, part_trans h_loops
      h.2.2.2.2.2.2.2.2.2.2.2.2.2.2.2.2.2.1, part_trans h_pmk h.2.2.2.2.2.2.2.2.2.2.2.2.2.2.2.2.2.2.1, part_trans h_tck
      h.2.2.2.2.2.2.2.2.2.2.2.2.2.2.2.2.2.2.2.1, part_trans h_spn h.2.2.2.2.2.2.2.2.2.2.2.2.2.2.2.2.2.2.2.2.1, part_trans h_motor
      h.2.2.2.2.2.2.2.2.2.2.2.2.2.2.2.2.2.2.2.2.2.1, part_trans h_cal h.2.2.2.2.2.2.2.2.2.2.2.2.2.2.2.2.2.2.2.2.2.2.1, part_trans
      h_books h.2.2.2.2.2.2.2.2.2.2.2.2.2.2.2.2.2.2.2.2.2.2.2.1, part_trans h_lanes
      h.2.2.2.2.2.2.2.2.2.2.2.2.2.2.2.2.2.2.2.2.2.2.2.2.1, part_trans h_dec h.2.2.2.2.2.2.2.2.2.2.2.2.2.2.2.2.2.2.2.2.2.2.2.2.2.1,
      part_trans h_rcv h.2.2.2.2.2.2.2.2.2.2.2.2.2.2.2.2.2.2.2.2.2.2.2.2.2.2.1, part_trans h_krx
      h.2.2.2.2.2.2.2.2.2.2.2.2.2.2.2.2.2.2.2.2.2.2.2.2.2.2.2.1, part_trans h_bags
      h.2.2.2.2.2.2.2.2.2.2.2.2.2.2.2.2.2.2.2.2.2.2.2.2.2.2.2.2.1, part_trans h_mem
      h.2.2.2.2.2.2.2.2.2.2.2.2.2.2.2.2.2.2.2.2.2.2.2.2.2.2.2.2.2.1, part_trans h_office
      h.2.2.2.2.2.2.2.2.2.2.2.2.2.2.2.2.2.2.2.2.2.2.2.2.2.2.2.2.2.2.1, part_trans h_cons
      h.2.2.2.2.2.2.2.2.2.2.2.2.2.2.2.2.2.2.2.2.2.2.2.2.2.2.2.2.2.2.2.1, part_trans h_host
      h.2.2.2.2.2.2.2.2.2.2.2.2.2.2.2.2.2.2.2.2.2.2.2.2.2.2.2.2.2.2.2.2.1, part_trans h_pre
      h.2.2.2.2.2.2.2.2.2.2.2.2.2.2.2.2.2.2.2.2.2.2.2.2.2.2.2.2.2.2.2.2.2.1, part_trans h_heat
      h.2.2.2.2.2.2.2.2.2.2.2.2.2.2.2.2.2.2.2.2.2.2.2.2.2.2.2.2.2.2.2.2.2.2.1, part_trans h_pwr
      h.2.2.2.2.2.2.2.2.2.2.2.2.2.2.2.2.2.2.2.2.2.2.2.2.2.2.2.2.2.2.2.2.2.2.2⟩

theorem only_fst {α : Type} {P : List Part} {s0 : State} {p : State × α} {t : State} {r : α} (h : p = (t, r)) (hp : Only P s0 p.1) :
    Only P s0 t := by
  rw [h] at hp
  exact hp

theorem only_ite {P : List Part} {s0 : State} {c : Prop} [Decidable c] {a b : State} (ha : Only P s0 a) (hb : Only P s0 b) :
    Only P s0 (if c then a else b) := by
  split <;> assumption

theorem only_foldl {P : List Part} {s0 : State} {α : Type} {f : State → α → State} {l : List α} {s : State} (h : Only P s0 s)
    (hf : ∀ s a, Only P s0 s → Only P s0 (f s a)) : Only P s0 (l.foldl f s) := by
  induction l generalizing s with
  | nil => exact h
  | cons a t ih => exact ih (hf _ _ h)

/-- The parts let a field be written. -/
def mayWrite (P : List Part) (f : Fld) : Prop := .reg (blockNo f) ∈ P ∨ .regs ∈ P

/-- The parts let every field of a list be written. -/
def mayAll (P : List Part) : List Fld → Prop
  | [] => True
  | f :: t => mayWrite P f ∧ mayAll P t

theorem may_block {P : List Part} {f : Fld} (h : .reg (blockNo f) ∈ P) : mayWrite P f := .inl h

theorem may_any {P : List Part} {f : Fld} (h : .regs ∈ P) : mayWrite P f := .inr h

theorem mayAll_nil {P : List Part} : mayAll P [] := trivial

theorem mayAll_cons {P : List Part} {f : Fld} {t : List Fld} (h : mayWrite P f) (ht : mayAll P t) : mayAll P (f :: t) := ⟨h, ht⟩

/-- The same for a list of fields with their values. -/
def mayPairs (P : List Part) : List (Fld × Nat) → Prop
  | [] => True
  | p :: t => mayWrite P p.1 ∧ mayPairs P t

theorem mayPairs_nil {P : List Part} : mayPairs P [] := trivial

theorem mayPairs_cons {P : List Part} {f : Fld} {v : Nat} {t : List (Fld × Nat)} (h : mayWrite P f) (ht : mayPairs P t) :
    mayPairs P ((f, v) :: t) := ⟨h, ht⟩

theorem only_set {P : List Part} {s0 s : State} {f : Fld} {v : Nat} (h : Only P s0 s) (hf : mayWrite P f) : Only P s0 (s.set f v) := by
  obtain ⟨a, b, c⟩ := h
  refine ⟨a, ?_, c⟩
  rcases hf with hf | hf
  · rcases b with b | b
    · exact .inl b
    · refine .inr fun g => ?_
      by_cases e : g.key = f.key
      · left
        have hk : blockNo g = blockNo f := by unfold blockNo; rw [e]
        rw [hk]
        exact hf
      · rcases b g with b | b
        · exact .inl b
        · exact .inr ((sGet_sPut_ne _ _ _ _ e).trans b)
  · exact .inl hf

theorem only_pwr {P : List Part} {s0 s : State} {m : Pwr} (h : Only P s0 s) (hP : .pwr ∈ P) : Only P s0 { s with pwr := m } := by
  simp only [↓only_mk]
  apply parts_of h <;> first | exact .inr rfl | exact .inl hP

theorem only_mem {P : List Part} {s0 s : State} {m : Mem} (h : Only P s0 s) (hP : .mem ∈ P) : Only P s0 { s with mem := m } := by
  simp only [↓only_mk]
  apply parts_of h <;> first | exact .inr rfl | exact .inl hP

theorem Only.variant_eq {P : List Part} {s t : State} (h : Only P s t) (hP : Part.variant ∉ P) : t.variant = s.variant :=
  (h.1).resolve_left hP

theorem Only.clockNs_eq {P : List Part} {s t : State} (h : Only P s t) (hP : Part.clockNs ∉ P) : t.clockNs = s.clockNs :=
  (h.2.2.1).resolve_left hP

theorem Only.potNs_eq {P : List Part} {s t : State} (h : Only P s t) (hP : Part.potNs ∉ P) : t.potNs = s.potNs :=
  (h.2.2.2.1).resolve_left hP

theorem Only.bus_eq {P : List Part} {s t : State} (h : Only P s t) (hP : Part.bus ∉ P) : t.bus = s.bus :=
  (h.2.2.2.2.1).resolve_left hP

theorem Only.straps_eq {P : List Part} {s t : State} (h : Only P s t) (hP : Part.straps ∉ P) : t.straps = s.straps :=
  (h.2.2.2.2.2.1).resolve_left hP

theorem Only.tick_eq {P : List Part} {s t : State} (h : Only P s t) (hP : Part.tick ∉ P) : t.tick = s.tick :=
  (h.2.2.2.2.2.2.1).resolve_left hP

theorem Only.cells_eq {P : List Part} {s t : State} (h : Only P s t) (hP : Part.cells ∉ P) : t.cells = s.cells :=
  (h.2.2.2.2.2.2.2.1).resolve_left hP

theorem Only.nand_eq {P : List Part} {s t : State} (h : Only P s t) (hP : Part.nand ∉ P) : t.nand = s.nand :=
  (h.2.2.2.2.2.2.2.2.1).resolve_left hP

theorem Only.psp_eq {P : List Part} {s t : State} (h : Only P s t) (hP : Part.psp ∉ P) : t.psp = s.psp :=
  (h.2.2.2.2.2.2.2.2.2.1).resolve_left hP

theorem Only.env_eq {P : List Part} {s t : State} (h : Only P s t) (hP : Part.env ∉ P) : t.env = s.env :=
  (h.2.2.2.2.2.2.2.2.2.2.1).resolve_left hP

theorem Only.bootKeys_eq {P : List Part} {s t : State} (h : Only P s t) (hP : Part.bootKeys ∉ P) : t.bootKeys = s.bootKeys :=
  (h.2.2.2.2.2.2.2.2.2.2.2.1).resolve_left hP

theorem Only.desk_eq {P : List Part} {s t : State} (h : Only P s t) (hP : Part.desk ∉ P) : t.desk = s.desk :=
  (h.2.2.2.2.2.2.2.2.2.2.2.2.1).resolve_left hP

theorem Only.ldg_eq {P : List Part} {s t : State} (h : Only P s t) (hP : Part.ldg ∉ P) : t.ldg = s.ldg :=
  (h.2.2.2.2.2.2.2.2.2.2.2.2.2.1).resolve_left hP

theorem Only.out_eq {P : List Part} {s t : State} (h : Only P s t) (hP : Part.out ∉ P) : t.out = s.out :=
  (h.2.2.2.2.2.2.2.2.2.2.2.2.2.2.1).resolve_left hP

theorem Only.pending_eq {P : List Part} {s t : State} (h : Only P s t) (hP : Part.pending ∉ P) : t.pending = s.pending :=
  (h.2.2.2.2.2.2.2.2.2.2.2.2.2.2.2.1).resolve_left hP

theorem Only.eng_eq {P : List Part} {s t : State} (h : Only P s t) (hP : Part.eng ∉ P) : t.eng = s.eng :=
  (h.2.2.2.2.2.2.2.2.2.2.2.2.2.2.2.2.1).resolve_left hP

theorem Only.loops_eq {P : List Part} {s t : State} (h : Only P s t) (hP : Part.loops ∉ P) : t.loops = s.loops :=
  (h.2.2.2.2.2.2.2.2.2.2.2.2.2.2.2.2.2.1).resolve_left hP

theorem Only.pmk_eq {P : List Part} {s t : State} (h : Only P s t) (hP : Part.pmk ∉ P) : t.pmk = s.pmk :=
  (h.2.2.2.2.2.2.2.2.2.2.2.2.2.2.2.2.2.2.1).resolve_left hP

theorem Only.tck_eq {P : List Part} {s t : State} (h : Only P s t) (hP : Part.tck ∉ P) : t.tck = s.tck :=
  (h.2.2.2.2.2.2.2.2.2.2.2.2.2.2.2.2.2.2.2.1).resolve_left hP

theorem Only.spn_eq {P : List Part} {s t : State} (h : Only P s t) (hP : Part.spn ∉ P) : t.spn = s.spn :=
  (h.2.2.2.2.2.2.2.2.2.2.2.2.2.2.2.2.2.2.2.2.1).resolve_left hP

theorem Only.motor_eq {P : List Part} {s t : State} (h : Only P s t) (hP : Part.motor ∉ P) : t.motor = s.motor :=
  (h.2.2.2.2.2.2.2.2.2.2.2.2.2.2.2.2.2.2.2.2.2.1).resolve_left hP

theorem Only.cal_eq {P : List Part} {s t : State} (h : Only P s t) (hP : Part.cal ∉ P) : t.cal = s.cal :=
  (h.2.2.2.2.2.2.2.2.2.2.2.2.2.2.2.2.2.2.2.2.2.2.1).resolve_left hP

theorem Only.books_eq {P : List Part} {s t : State} (h : Only P s t) (hP : Part.books ∉ P) : t.books = s.books :=
  (h.2.2.2.2.2.2.2.2.2.2.2.2.2.2.2.2.2.2.2.2.2.2.2.1).resolve_left hP

theorem Only.lanes_eq {P : List Part} {s t : State} (h : Only P s t) (hP : Part.lanes ∉ P) : t.lanes = s.lanes :=
  (h.2.2.2.2.2.2.2.2.2.2.2.2.2.2.2.2.2.2.2.2.2.2.2.2.1).resolve_left hP

theorem Only.dec_eq {P : List Part} {s t : State} (h : Only P s t) (hP : Part.dec ∉ P) : t.dec = s.dec :=
  (h.2.2.2.2.2.2.2.2.2.2.2.2.2.2.2.2.2.2.2.2.2.2.2.2.2.1).resolve_left hP

theorem Only.rcv_eq {P : List Part} {s t : State} (h : Only P s t) (hP : Part.rcv ∉ P) : t.rcv = s.rcv :=
  (h.2.2.2.2.2.2.2.2.2.2.2.2.2.2.2.2.2.2.2.2.2.2.2.2.2.2.1).resolve_left hP

theorem Only.krx_eq {P : List Part} {s t : State} (h : Only P s t) (hP : Part.krx ∉ P) : t.krx = s.krx :=
  (h.2.2.2.2.2.2.2.2.2.2.2.2.2.2.2.2.2.2.2.2.2.2.2.2.2.2.2.1).resolve_left hP

theorem Only.bags_eq {P : List Part} {s t : State} (h : Only P s t) (hP : Part.bags ∉ P) : t.bags = s.bags :=
  (h.2.2.2.2.2.2.2.2.2.2.2.2.2.2.2.2.2.2.2.2.2.2.2.2.2.2.2.2.1).resolve_left hP

theorem Only.mem_eq {P : List Part} {s t : State} (h : Only P s t) (hP : Part.mem ∉ P) : t.mem = s.mem :=
  (h.2.2.2.2.2.2.2.2.2.2.2.2.2.2.2.2.2.2.2.2.2.2.2.2.2.2.2.2.2.1).resolve_left hP

theorem Only.office_eq {P : List Part} {s t : State} (h : Only P s t) (hP : Part.office ∉ P) : t.office = s.office :=
  (h.2.2.2.2.2.2.2.2.2.2.2.2.2.2.2.2.2.2.2.2.2.2.2.2.2.2.2.2.2.2.1).resolve_left hP

theorem Only.cons_eq {P : List Part} {s t : State} (h : Only P s t) (hP : Part.cons ∉ P) : t.cons = s.cons :=
  (h.2.2.2.2.2.2.2.2.2.2.2.2.2.2.2.2.2.2.2.2.2.2.2.2.2.2.2.2.2.2.2.1).resolve_left hP

theorem Only.host_eq {P : List Part} {s t : State} (h : Only P s t) (hP : Part.host ∉ P) : t.host = s.host :=
  (h.2.2.2.2.2.2.2.2.2.2.2.2.2.2.2.2.2.2.2.2.2.2.2.2.2.2.2.2.2.2.2.2.1).resolve_left hP

theorem Only.pre_eq {P : List Part} {s t : State} (h : Only P s t) (hP : Part.pre ∉ P) : t.pre = s.pre :=
  (h.2.2.2.2.2.2.2.2.2.2.2.2.2.2.2.2.2.2.2.2.2.2.2.2.2.2.2.2.2.2.2.2.2.1).resolve_left hP

theorem Only.heat_eq {P : List Part} {s t : State} (h : Only P s t) (hP : Part.heat ∉ P) : t.heat = s.heat :=
  (h.2.2.2.2.2.2.2.2.2.2.2.2.2.2.2.2.2.2.2.2.2.2.2.2.2.2.2.2.2.2.2.2.2.2.1).resolve_left hP

theorem Only.pwr_eq {P : List Part} {s t : State} (h : Only P s t) (hP : Part.pwr ∉ P) : t.pwr = s.pwr :=
  (h.2.2.2.2.2.2.2.2.2.2.2.2.2.2.2.2.2.2.2.2.2.2.2.2.2.2.2.2.2.2.2.2.2.2.2).resolve_left hP

/-- A register field outside the listed blocks keeps its value. -/
theorem Only.get_eq {P : List Part} {s t : State} (h : Only P s t) (hP : Part.regs ∉ P) {f : Fld} (hf : Part.reg (blockNo f) ∉ P) :
    t.get f = s.get f := by
  obtain ⟨a, b, c⟩ := h
  exact (b.resolve_left hP f).resolve_left hf

/-- Fewer parts change where fewer are listed. -/
theorem Only.mono {P Q : List Part} {s t : State} (h : Only P s t) (hPQ : ∀ p ∈ P, p ∈ Q) : Only Q s t := by
  exact ⟨h.1.imp_left (hPQ _), h.2.1.imp (hPQ _) fun q g => (q g).imp_left (hPQ _), h.2.2.1.imp_left (hPQ _), h.2.2.2.1.imp_left (hPQ
      _), h.2.2.2.2.1.imp_left (hPQ _), h.2.2.2.2.2.1.imp_left (hPQ _), h.2.2.2.2.2.2.1.imp_left (hPQ _), h.2.2.2.2.2.2.2.1.imp_left
      (hPQ _), h.2.2.2.2.2.2.2.2.1.imp_left (hPQ _), h.2.2.2.2.2.2.2.2.2.1.imp_left (hPQ _), h.2.2.2.2.2.2.2.2.2.2.1.imp_left (hPQ _),
      h.2.2.2.2.2.2.2.2.2.2.2.1.imp_left (hPQ _), h.2.2.2.2.2.2.2.2.2.2.2.2.1.imp_left (hPQ _), h.2.2.2.2.2.2.2.2.2.2.2.2.2.1.imp_left
      (hPQ _), h.2.2.2.2.2.2.2.2.2.2.2.2.2.2.1.imp_left (hPQ _), h.2.2.2.2.2.2.2.2.2.2.2.2.2.2.2.1.imp_left (hPQ _),
      h.2.2.2.2.2.2.2.2.2.2.2.2.2.2.2.2.1.imp_left (hPQ _), h.2.2.2.2.2.2.2.2.2.2.2.2.2.2.2.2.2.1.imp_left (hPQ _),
      h.2.2.2.2.2.2.2.2.2.2.2.2.2.2.2.2.2.2.1.imp_left (hPQ _), h.2.2.2.2.2.2.2.2.2.2.2.2.2.2.2.2.2.2.2.1.imp_left (hPQ _),
      h.2.2.2.2.2.2.2.2.2.2.2.2.2.2.2.2.2.2.2.2.1.imp_left (hPQ _), h.2.2.2.2.2.2.2.2.2.2.2.2.2.2.2.2.2.2.2.2.2.1.imp_left (hPQ _),
      h.2.2.2.2.2.2.2.2.2.2.2.2.2.2.2.2.2.2.2.2.2.2.1.imp_left (hPQ _), h.2.2.2.2.2.2.2.2.2.2.2.2.2.2.2.2.2.2.2.2.2.2.2.1.imp_left
      (hPQ _), h.2.2.2.2.2.2.2.2.2.2.2.2.2.2.2.2.2.2.2.2.2.2.2.2.1.imp_left (hPQ _),
      h.2.2.2.2.2.2.2.2.2.2.2.2.2.2.2.2.2.2.2.2.2.2.2.2.2.1.imp_left (hPQ _),
      h.2.2.2.2.2.2.2.2.2.2.2.2.2.2.2.2.2.2.2.2.2.2.2.2.2.2.1.imp_left (hPQ _),
      h.2.2.2.2.2.2.2.2.2.2.2.2.2.2.2.2.2.2.2.2.2.2.2.2.2.2.2.1.imp_left (hPQ _),
      h.2.2.2.2.2.2.2.2.2.2.2.2.2.2.2.2.2.2.2.2.2.2.2.2.2.2.2.2.1.imp_left (hPQ _),
      h.2.2.2.2.2.2.2.2.2.2.2.2.2.2.2.2.2.2.2.2.2.2.2.2.2.2.2.2.2.1.imp_left (hPQ _),
      h.2.2.2.2.2.2.2.2.2.2.2.2.2.2.2.2.2.2.2.2.2.2.2.2.2.2.2.2.2.2.1.imp_left (hPQ _),
      h.2.2.2.2.2.2.2.2.2.2.2.2.2.2.2.2.2.2.2.2.2.2.2.2.2.2.2.2.2.2.2.1.imp_left (hPQ _),
      h.2.2.2.2.2.2.2.2.2.2.2.2.2.2.2.2.2.2.2.2.2.2.2.2.2.2.2.2.2.2.2.2.1.imp_left (hPQ _),
      h.2.2.2.2.2.2.2.2.2.2.2.2.2.2.2.2.2.2.2.2.2.2.2.2.2.2.2.2.2.2.2.2.2.1.imp_left (hPQ _),
      h.2.2.2.2.2.2.2.2.2.2.2.2.2.2.2.2.2.2.2.2.2.2.2.2.2.2.2.2.2.2.2.2.2.2.1.imp_left (hPQ _),
      h.2.2.2.2.2.2.2.2.2.2.2.2.2.2.2.2.2.2.2.2.2.2.2.2.2.2.2.2.2.2.2.2.2.2.2.imp_left (hPQ _)⟩

theorem block_slip_valid (n : Fin 16) : blockNo (Reg.MEM_SLIP_VALID n.val) = 0x4063 := by revert n; decide

theorem block_slip_poison (n : Fin 16) : blockNo (Reg.MEM_SLIP_POISON n.val) = 0x4063 := by revert n; decide

theorem block_slip_block (n : Fin 16) : blockNo (Reg.MEM_SLIP_BLOCK n.val) = 0x4063 := by revert n; decide

theorem block_inj_active (n : Fin 4) : blockNo (Reg.CRE_INJ_STAT_ACTIVE n.val) = 0x4020 := by revert n; decide

theorem block_inj_arm (n : Fin 4) : blockNo (Reg.CRE_INJ_CTRL_ARM n.val) = 0x4020 := by revert n; decide

theorem block_inj_stopped (n : Fin 4) : blockNo (Reg.CRE_INJ_STAT_STOPPED n.val) = 0x4020 := by revert n; decide

theorem only_inc {P : List Part} {s0 : State} {s : State} {f : Fld} (hs : Only P s0 s) (hw : mayWrite P f) :
    Only P s0 (State.inc s f) := by
  unfold State.inc
  repeat' (first | intro _ | with_reducible exact hs | with_reducible assumption | with_reducible apply only_set)

theorem only_addTo {P : List Part} {s0 : State} {s : State} {f : Fld} {n : Nat} (hs : Only P s0 s) (hw : mayWrite P f) :
    Only P s0 (State.addTo s f n) := by
  unfold State.addTo
  repeat' (first | intro _ | with_reducible exact hs | with_reducible assumption | with_reducible apply only_set)

theorem only_setBit {P : List Part} {s0 : State} {s : State} {f : Fld} {k : Nat} {v : Bool} (hs : Only P s0 s) (hw : mayWrite P f) :
    Only P s0 (State.setBit s f k v) := by
  unfold State.setBit
  repeat' (first | intro _ | with_reducible exact hs | with_reducible assumption | with_reducible apply only_set
                 | with_reducible apply only_setBit)

theorem only_setS {P : List Part} {s0 : State} {s : State} {f : Fld} {i : Int} (hs : Only P s0 s) (hw : mayWrite P f) :
    Only P s0 (State.setS s f i) := by
  unfold State.setS
  repeat' (first | intro _ | with_reducible exact hs | with_reducible assumption | with_reducible apply only_set)

theorem only_setAll {P : List Part} {s0 s : State} {l : List (Fld × Nat)} (hs : Only P s0 s) (hw : mayPairs P l) :
    Only P s0 (s.setAll l) := by
  unfold State.setAll
  induction l generalizing s with
  | nil => exact hs
  | cons p t ih => exact ih (only_set hs hw.1) hw.2

theorem only_clear {P : List Part} {s0 s : State} {l : List Fld} (hs : Only P s0 s) (hw : mayAll P l) :
    Only P s0 (s.clear l) := by
  unfold State.clear
  induction l generalizing s with
  | nil => exact hs
  | cons p t ih => exact ih (only_set hs hw.1) hw.2

theorem only_emit {P : List Part} {s0 : State} {s : State} {o : Out} (hs : Only P s0 s) (hP : ∀ p ∈ ([.out] : List Part), p ∈ P) :
    Only P s0 (State.emit s o) := by
  unfold State.emit
  repeat' (first | with_reducible exact Or.inr rfl | with_reducible exact sub_of hP (by decide) | intro _ | with_reducible exact hs
                 | with_reducible assumption | with_reducible exact Or.inl (hP _ (by decide))
                 | with_reducible exact may_block (hP _ (by decide)) | simp only [↓only_mk] | with_reducible apply parts_of)

theorem only_putWord {P : List Part} {s0 : State} {s : State} {a w : Nat} {p : Fld → Bool} (hs : Only P s0 s) (hP : ∀ p ∈ ([.regs] :
    List Part), p ∈ P) :
    Only P s0 (State.putWord s a w p) := by
  unfold State.putWord
  repeat' (first | with_reducible exact sub_of hP (by decide) | intro _ | with_reducible exact hs | with_reducible assumption
                 | with_reducible exact may_block (hP _ (by decide)) | with_reducible exact may_any (hP _ (by decide))
                 | with_reducible apply only_foldl | with_reducible apply only_set)

theorem only_putByte {P : List Part} {s0 : State} {s : State} {a : Nat} {v : Byte} (hs : Only P s0 s) (hP : ∀ p ∈ ([.cells] : List
    Part), p ∈ P) :
    Only P s0 (State.putByte s a v) := by
  unfold State.putByte
  repeat' (first | with_reducible exact Or.inr rfl | with_reducible exact sub_of hP (by decide) | intro _ | with_reducible exact hs
                 | with_reducible assumption | with_reducible exact Or.inl (hP _ (by decide))
                 | with_reducible exact may_block (hP _ (by decide)) | with_reducible apply only_ite | simp only [↓only_mk]
                 | with_reducible apply parts_of | split | (dsimp only; split))

theorem only_putDram {P : List Part} {s0 : State} {n a v : Nat} {s : State} (hs : Only P s0 s)
    (hP : ∀ p ∈ ([.cells] : List Part), p ∈ P) : Only P s0 (s.putDram a n v) := by
  induction n generalizing s a v with
  | zero => exact hs
  | succ n ih => exact ih (only_putByte hs hP)

theorem only_putBytes {P : List Part} {s0 : State} {l : List Byte} {a : Nat} {s : State} (hs : Only P s0 s)
    (hP : ∀ p ∈ ([.cells] : List Part), p ∈ P) : Only P s0 (s.putBytes a l) := by
  induction l generalizing s a with
  | nil => exact hs
  | cons b t ih => exact ih (only_putByte hs hP)

theorem only_putWords {P : List Part} {s0 : State} {l : List Nat} {a : Nat} {s : State} (hs : Only P s0 s)
    (hP : ∀ p ∈ ([.cells] : List Part), p ∈ P) : Only P s0 (s.putWords a l) := by
  induction l generalizing s a with
  | nil => exact hs
  | cons b t ih => exact ih (only_putDram hs hP)

theorem only_ldgRefresh {P : List Part} {s0 : State} {s : State} (hs : Only P s0 s) (hP : ∀ p ∈ ([.reg 0x4072] : List Part), p ∈ P) :
    Only P s0 (State.ldgRefresh s) := by
  unfold State.ldgRefresh
  repeat' (first | with_reducible exact sub_of hP (by decide) | intro _ | with_reducible exact hs | with_reducible assumption
                 | with_reducible exact may_block (hP _ (by decide)) | with_reducible apply only_set)

theorem only_ldgPut {P : List Part} {s0 : State} {s : State} {t type : Nat} {payload : List Nat} (hs : Only P s0 s) (hP : ∀ p ∈ ([.reg
    0x4072, .ldg] : List Part), p ∈ P) :
    Only P s0 (State.ldgPut s t type payload) := by
  unfold State.ldgPut
  repeat' (first | with_reducible exact Or.inr rfl | with_reducible exact sub_of hP (by decide) | intro _ | with_reducible exact hs
                 | with_reducible assumption | with_reducible exact Or.inl (hP _ (by decide))
                 | with_reducible exact may_block (hP _ (by decide)) | with_reducible apply only_ldgRefresh
                 | with_reducible apply only_set | simp only [↓only_mk] | with_reducible apply parts_of)

theorem only_ldgCommit {P : List Part} {s0 : State} {s : State} {type : Nat} {payload : List Nat} (hs : Only P s0 s) (hP : ∀ p ∈
    ([.reg 0x4072, .ldg] : List Part), p ∈ P) :
    Only P s0 (State.ldgCommit s type payload).1 := by
  unfold State.ldgCommit
  repeat' (first | with_reducible exact Or.inr rfl | with_reducible exact sub_of hP (by decide) | intro _ | with_reducible exact hs
                 | with_reducible assumption | with_reducible exact Or.inl (hP _ (by decide))
                 | with_reducible exact may_block (hP _ (by decide)) | with_reducible apply only_ite | with_reducible apply only_inc
                 | with_reducible apply only_ldgPut | with_reducible apply only_fst ‹_ = (_, _)› | simp only [↓only_mk]
                 | with_reducible apply parts_of | split | (dsimp only; split))

theorem only_ledger {P : List Part} {s0 : State} {s : State} {type : Nat} {payload : List Nat} (hs : Only P s0 s) (hP : ∀ p ∈ ([.reg
    0x4072, .ldg] : List Part), p ∈ P) :
    Only P s0 (State.ledger s type payload) := by
  unfold State.ledger
  repeat' (first | with_reducible exact sub_of hP (by decide) | intro _ | with_reducible exact hs | with_reducible assumption
                 | with_reducible exact may_block (hP _ (by decide)) | with_reducible apply only_ldgCommit)

theorem only_ldgFreeze {P : List Part} {s0 : State} {s : State} {trigger : Nat} (hs : Only P s0 s) (hP : ∀ p ∈ ([.reg 0x4072, .ldg] :
    List Part), p ∈ P) :
    Only P s0 (State.ldgFreeze s trigger) := by
  unfold State.ldgFreeze
  repeat' (first | with_reducible exact Or.inr rfl | with_reducible exact sub_of hP (by decide) | intro _ | with_reducible exact hs
                 | with_reducible assumption | with_reducible exact Or.inl (hP _ (by decide))
                 | with_reducible exact may_block (hP _ (by decide)) | with_reducible apply only_ite
                 | with_reducible apply only_ldgRefresh | simp only [↓only_mk] | with_reducible apply parts_of | split
                 | (dsimp only; split))

theorem only_ldgUnfreeze {P : List Part} {s0 : State} {s : State} (hs : Only P s0 s) (hP : ∀ p ∈ ([.reg 0x4072, .ldg] : List Part), p
    ∈ P) :
    Only P s0 (State.ldgUnfreeze s) := by
  unfold State.ldgUnfreeze
  repeat' (first | with_reducible exact Or.inr rfl | with_reducible exact sub_of hP (by decide) | intro _ | with_reducible exact hs
                 | with_reducible assumption | with_reducible exact Or.inl (hP _ (by decide))
                 | with_reducible exact may_block (hP _ (by decide)) | with_reducible apply only_ite
                 | with_reducible apply only_ldgRefresh | simp only [↓only_mk] | with_reducible apply parts_of | split
                 | (dsimp only; split))

theorem only_ldgDrain {P : List Part} {s0 : State} {s : State} {dhead : Nat} (hs : Only P s0 s) (hP : ∀ p ∈ ([.reg 0x4072, .ldg] :
    List Part), p ∈ P) :
    Only P s0 (State.ldgDrain s dhead) := by
  unfold State.ldgDrain
  repeat' (first | with_reducible exact Or.inr rfl | with_reducible exact sub_of hP (by decide) | intro _ | with_reducible exact hs
                 | with_reducible assumption | with_reducible exact Or.inl (hP _ (by decide))
                 | with_reducible exact may_block (hP _ (by decide)) | with_reducible apply only_ldgRefresh
                 | with_reducible apply only_set | simp only [↓only_mk] | with_reducible apply parts_of)

theorem only_ldgSaveFrozen {P : List Part} {s0 : State} {s : State} (hs : Only P s0 s) (hP : ∀ p ∈ ([.reg 0x4072, .ldg] : List Part),
    p ∈ P) :
    Only P s0 (State.ldgSaveFrozen s) := by
  unfold State.ldgSaveFrozen
  repeat' (first | with_reducible exact Or.inr rfl | with_reducible exact sub_of hP (by decide) | intro _ | with_reducible exact hs
                 | with_reducible assumption | with_reducible exact Or.inl (hP _ (by decide))
                 | with_reducible exact may_block (hP _ (by decide)) | with_reducible apply only_foldl
                 | with_reducible apply only_ldgUnfreeze | with_reducible apply only_ledger
                 | with_reducible apply only_fst ‹_ = (_, _)› | simp only [↓only_mk] | with_reducible apply parts_of | split
                 | (dsimp only; split))

theorem only_deskRefresh {P : List Part} {s0 : State} {s : State} (hs : Only P s0 s) (hP : ∀ p ∈ ([.reg 0x4071] : List Part), p ∈ P) :
    Only P s0 (State.deskRefresh s) := by
  unfold State.deskRefresh
  repeat' (first | with_reducible exact sub_of hP (by decide) | intro _ | with_reducible exact hs | with_reducible assumption
                 | with_reducible exact may_block (hP _ (by decide)) | with_reducible apply only_ite | with_reducible apply only_set
                 | split | (dsimp only; split))

theorem only_relieve {P : List Part} {s0 : State} {s : State} {n : Nat} (hs : Only P s0 s) (hP : ∀ p ∈ ([.reg 0x4000, .reg 0x4072,
    .ldg, .pwr] : List Part), p ∈ P) :
    Only P s0 (State.relieve s n) := by
  unfold State.relieve
  repeat' (first | with_reducible exact Or.inr rfl | with_reducible exact sub_of hP (by decide) | intro _ | with_reducible exact hs
                 | with_reducible assumption | with_reducible exact Or.inl (hP _ (by decide))
                 | with_reducible exact may_block (hP _ (by decide)) | with_reducible apply only_ledger
                 | with_reducible apply only_set | with_reducible apply only_setBit | with_reducible apply only_fst ‹_ = (_, _)›
                 | simp only [↓only_mk] | with_reducible apply parts_of | split | (dsimp only; split))

theorem only_keepAliveLonger {P : List Part} {s0 : State} {s : State} (hs : Only P s0 s) (hP : ∀ p ∈ ([.host] : List Part), p ∈ P) :
    Only P s0 (State.keepAliveLonger s) := by
  unfold State.keepAliveLonger
  repeat' (first | with_reducible exact Or.inr rfl | with_reducible exact sub_of hP (by decide) | intro _ | with_reducible exact hs
                 | with_reducible assumption | with_reducible exact Or.inl (hP _ (by decide))
                 | with_reducible exact may_block (hP _ (by decide)) | simp only [↓only_mk] | with_reducible apply parts_of)

theorem only_deliver {P : List Part} {s0 : State} {s : State} {p : Nat} (hs : Only P s0 s) (hP : ∀ p ∈ ([.reg 0x4000, .reg 0x4071,
    .reg 0x4072, .desk, .ldg, .out, .host, .pwr] : List Part), p ∈ P) :
    Only P s0 (State.deliver s p) := by
  unfold State.deliver
  repeat' (first | with_reducible exact Or.inr rfl | with_reducible exact sub_of hP (by decide) | intro _ | with_reducible exact hs
                 | with_reducible assumption | with_reducible exact Or.inl (hP _ (by decide))
                 | with_reducible exact may_block (hP _ (by decide)) | with_reducible apply only_ite
                 | with_reducible apply only_deskRefresh | with_reducible apply only_emit | with_reducible apply only_keepAliveLonger
                 | with_reducible apply only_relieve | with_reducible apply only_fst ‹_ = (_, _)› | simp only [↓only_mk]
                 | with_reducible apply parts_of | split | (dsimp only; split))

theorem only_deskCount {P : List Part} {s0 : State} {s : State} {r : Report} (hs : Only P s0 s) (hP : ∀ p ∈ ([.reg 0x4071, .desk] :
    List Part), p ∈ P) :
    Only P s0 (State.deskCount s r) := by
  unfold State.deskCount
  repeat' (first | with_reducible exact Or.inr rfl | with_reducible exact sub_of hP (by decide) | intro _ | with_reducible exact hs
                 | with_reducible assumption | with_reducible exact Or.inl (hP _ (by decide))
                 | with_reducible exact may_block (hP _ (by decide)) | with_reducible apply only_ite | with_reducible apply only_inc
                 | with_reducible apply only_fst ‹_ = (_, _)› | simp only [↓only_mk] | with_reducible apply parts_of | split
                 | (dsimp only; split))

theorem only_record {P : List Part} {s0 : State} {s : State} {p : Nat} {r : Report} {st : Nat} (hs : Only P s0 s) (hP : ∀ p ∈ ([.reg
    0x4072, .desk, .ldg] : List Part), p ∈ P) :
    Only P s0 (State.record s p r st) := by
  unfold State.record
  repeat' (first | with_reducible exact Or.inr rfl | with_reducible exact sub_of hP (by decide) | intro _ | with_reducible exact hs
                 | with_reducible assumption | with_reducible exact Or.inl (hP _ (by decide))
                 | with_reducible exact may_block (hP _ (by decide)) | with_reducible apply only_ldgCommit | simp only [↓only_mk]
                 | with_reducible apply parts_of)

theorem only_stopInj {P : List Part} {s0 : State} {s : State} {n : Fin 4} (hs : Only P s0 s) (hP : ∀ p ∈ ([.reg 0x4020] : List Part),
    p ∈ P) :
    Only P s0 (State.stopInj s n) := by
  unfold State.stopInj
  repeat' (first | with_reducible exact sub_of hP (by decide) | intro _ | with_reducible exact hs | with_reducible assumption
                 | with_reducible exact may_block (hP _ (by decide)) | with_reducible apply only_ite | with_reducible apply only_set
                 | with_reducible exact may_block (hP _ (by rw [block_inj_active]; decide))
                 | with_reducible exact may_block (hP _ (by rw [block_inj_arm]; decide))
                 | with_reducible exact may_block (hP _ (by rw [block_inj_stopped]; decide)) | split | (dsimp only; split))

theorem only_stopAllInj {P : List Part} {s0 : State} {s : State} (hs : Only P s0 s) (hP : ∀ p ∈ ([.reg 0x4020] : List Part), p ∈ P) :
    Only P s0 (State.stopAllInj s) := by
  unfold State.stopAllInj
  repeat' (first | with_reducible exact sub_of hP (by decide) | intro _ | with_reducible exact hs | with_reducible assumption
                 | with_reducible exact may_block (hP _ (by decide)) | with_reducible apply only_foldl
                 | with_reducible apply only_stopInj)

theorem only_stopInjIn {P : List Part} {s0 : State} {s : State} {dom : Nat} (hs : Only P s0 s) (hP : ∀ p ∈ ([.reg 0x4020] : List
    Part), p ∈ P) :
    Only P s0 (State.stopInjIn s dom) := by
  unfold State.stopInjIn
  repeat' (first | with_reducible exact sub_of hP (by decide) | intro _ | with_reducible exact hs | with_reducible assumption
                 | with_reducible exact may_block (hP _ (by decide)) | with_reducible apply only_ite | with_reducible apply only_foldl
                 | with_reducible apply only_stopInj | split | (dsimp only; split))

theorem only_capture {P : List Part} {s0 : State} {s : State} {r : Report} (hs : Only P s0 s) (hP : ∀ p ∈ ([.reg 0x4000, .reg 0x4020,
    .reg 0x4071, .reg 0x4072, .desk, .ldg, .out, .host, .pwr] : List Part), p ∈ P) :
    Only P s0 (State.capture s r) := by
  unfold State.capture
  repeat' (first | with_reducible exact Or.inr rfl | with_reducible exact sub_of hP (by decide) | intro _ | with_reducible exact hs
                 | with_reducible assumption | with_reducible exact Or.inl (hP _ (by decide))
                 | with_reducible exact may_block (hP _ (by decide)) | with_reducible apply only_ite
                 | with_reducible apply only_deliver | with_reducible apply only_deskCount | with_reducible apply only_deskRefresh
                 | with_reducible apply only_inc | with_reducible apply only_record | with_reducible apply only_set
                 | with_reducible apply only_stopInjIn | simp only [↓only_mk] | with_reducible apply parts_of | split
                 | (dsimp only; split))

theorem only_asInjected {P : List Part} {s0 : State} {s : State} {f : State → State} (hs : Only P s0 s) (hf : ∀ s, Only P s0 s → Only
    P s0 (f s)) (hP : ∀ p ∈ ([.desk] : List Part), p ∈ P) :
    Only P s0 (State.asInjected s f) := by
  unfold State.asInjected
  repeat' (first | with_reducible exact Or.inr rfl | with_reducible exact sub_of hP (by decide) | intro _ | with_reducible exact hs
                 | with_reducible assumption | with_reducible exact Or.inl (hP _ (by decide))
                 | with_reducible exact may_block (hP _ (by decide)) | with_reducible apply hf | simp only [↓only_mk]
                 | with_reducible apply parts_of)

theorem only_graveRecord {P : List Part} {s0 : State} {s : State} {r : Report} {thermal : Bool} (hs : Only P s0 s)
    (hP : ∀ p ∈ ([.reg 0x4020, .reg 0x4071, .reg 0x4072, .desk, .ldg] : List Part), p ∈ P) : Only P s0 (State.graveRecord s r thermal)
        := by
  unfold State.graveRecord
  refine only_deskRefresh ?_ (sub_of hP (by decide))
  have h := only_stopAllInj (only_set (f := Reg.FLT_INT_FAULT) (v := 1) (only_record (p := 64) (r := r) (st := 1) (only_deskCount (r
      := r) hs
    (sub_of hP (by decide))) (sub_of hP (by decide))) (may_block (hP _ (by decide)))) (sub_of hP (by decide))
  revert h
  generalize State.stopAllInj _ = t
  intro h
  simp only [↓only_mk]
  apply parts_of h <;> first | exact .inr rfl | exact .inl (hP _ (by decide))

theorem only_graveCapture {P : List Part} {s0 : State} {s : State} {source code addr info : Nat} {thermal : Bool} (hs : Only P s0 s)
    (hP : ∀ p ∈ ([.reg 0x4000, .reg 0x4020, .reg 0x4071, .reg 0x4072, .desk, .ldg, .out, .host, .pwr] : List Part), p ∈ P) :
    Only P s0 (State.graveCapture s source code addr info thermal).1 := by
  unfold State.graveCapture
  repeat' (first | with_reducible exact Or.inr rfl | with_reducible exact sub_of hP (by decide) | intro _ | with_reducible exact hs
                 | with_reducible assumption | with_reducible exact Or.inl (hP _ (by decide))
                 | with_reducible exact may_block (hP _ (by decide)) | with_reducible apply only_ite
                 | with_reducible apply only_capture | with_reducible apply only_graveRecord | with_reducible apply only_ldgFreeze
                 | simp only [↓only_mk] | with_reducible apply parts_of | split | (dsimp only; split))

theorem only_closeRec {P : List Part} {s0 : State} {s : State} {p st level : Nat} (hs : Only P s0 s) (hP : ∀ p ∈ ([.reg 0x4072, .desk,
    .ldg] : List Part), p ∈ P) :
    Only P s0 (State.closeRec s p st level) := by
  unfold State.closeRec
  repeat' (first | with_reducible exact Or.inr rfl | with_reducible exact sub_of hP (by decide) | intro _ | with_reducible exact hs
                 | with_reducible assumption | with_reducible exact Or.inl (hP _ (by decide))
                 | with_reducible exact may_block (hP _ (by decide)) | with_reducible apply only_ledger | simp only [↓only_mk]
                 | with_reducible apply parts_of | split | (dsimp only; split))

theorem only_releaseNext {P : List Part} {s0 : State} {s : State} (hs : Only P s0 s) (hP : ∀ p ∈ ([.reg 0x4000, .reg 0x4071, .reg
    0x4072, .desk, .ldg, .out, .host, .pwr] : List Part), p ∈ P) :
    Only P s0 (State.releaseNext s) := by
  unfold State.releaseNext
  repeat' (first | with_reducible exact Or.inr rfl | with_reducible exact sub_of hP (by decide) | intro _ | with_reducible exact hs
                 | with_reducible assumption | with_reducible exact Or.inl (hP _ (by decide))
                 | with_reducible exact may_block (hP _ (by decide)) | with_reducible apply only_deliver
                 | with_reducible apply only_deskRefresh | simp only [↓only_mk] | with_reducible apply parts_of | split
                 | (dsimp only; split))

theorem only_event {P : List Part} {s0 : State} {s : State} {source code addr info : Nat} (hs : Only P s0 s) (hP : ∀ p ∈ ([.reg
    0x4000, .reg 0x4020, .reg 0x4071, .reg 0x4072, .desk, .ldg, .out, .host, .pwr] : List Part), p ∈ P) :
    Only P s0 (State.event s source code addr info) := by
  unfold State.event
  repeat' (first | with_reducible exact sub_of hP (by decide) | intro _ | with_reducible exact hs | with_reducible assumption
                 | with_reducible exact may_block (hP _ (by decide)) | with_reducible apply only_capture)

theorem only_fault {P : List Part} {s0 : State} {s : State} {level source code addr info : Nat} (hs : Only P s0 s) (hP : ∀ p ∈ ([.reg
    0x4000, .reg 0x4020, .reg 0x4071, .reg 0x4072, .desk, .ldg, .out, .host, .pwr] : List Part), p ∈ P) :
    Only P s0 (State.fault s level source code addr info) := by
  unfold State.fault
  repeat' (first | with_reducible exact sub_of hP (by decide) | intro _ | with_reducible exact hs | with_reducible assumption
                 | with_reducible exact may_block (hP _ (by decide)) | with_reducible apply only_capture)

theorem only_busError {P : List Part} {s0 : State} {s : State} {i : Initiator} {a : Nat} (hs : Only P s0 s) (hP : ∀ p ∈ ([.reg 0x4000,
    .reg 0x4020, .reg 0x4071, .reg 0x4072, .bus, .desk, .ldg, .out, .host, .pwr] : List Part), p ∈ P) :
    Only P s0 (State.busError s i a) := by
  unfold State.busError
  repeat' (first | with_reducible exact Or.inr rfl | with_reducible exact sub_of hP (by decide) | intro _ | with_reducible exact hs
                 | with_reducible assumption | with_reducible exact Or.inl (hP _ (by decide))
                 | with_reducible exact may_block (hP _ (by decide)) | with_reducible apply only_event | simp only [↓only_mk]
                 | with_reducible apply parts_of)

theorem only_ignored {P : List Part} {s0 : State} {s : State} {i : Initiator} {a : Nat} (hs : Only P s0 s) (hP : ∀ p ∈ ([.reg 0x4000,
    .reg 0x4020, .reg 0x4071, .reg 0x4072, .bus, .desk, .ldg, .out, .host, .pwr] : List Part), p ∈ P) :
    Only P s0 (State.ignored s i a) := by
  unfold State.ignored
  repeat' (first | with_reducible exact Or.inr rfl | with_reducible exact sub_of hP (by decide) | intro _ | with_reducible exact hs
                 | with_reducible assumption | with_reducible exact Or.inl (hP _ (by decide))
                 | with_reducible exact may_block (hP _ (by decide)) | with_reducible apply only_event | simp only [↓only_mk]
                 | with_reducible apply parts_of)

theorem only_access {P : List Part} {s0 : State} {s : State} {i : Initiator} {a size : Nat} {f : State → State} (hs : Only P s0 s) (hf
    : ∀ s, Only P s0 s → Only P s0 (f s)) (hP : ∀ p ∈ ([.reg 0x4000, .reg 0x4020, .reg 0x4071, .reg 0x4072, .bus, .desk, .ldg, .out,
    .host, .pwr] : List Part), p ∈ P) :
    Only P s0 (State.access s i a size f) := by
  unfold State.access
  repeat' (first | with_reducible exact Or.inr rfl | with_reducible exact sub_of hP (by decide) | intro _ | with_reducible exact hs
                 | with_reducible assumption | with_reducible exact Or.inl (hP _ (by decide))
                 | with_reducible exact may_block (hP _ (by decide)) | with_reducible apply only_ite
                 | with_reducible apply only_busError | with_reducible apply hf | simp only [↓only_mk] | with_reducible apply parts_of
                 | split | (dsimp only; split))

theorem only_putMail {P : List Part} {s0 : State} {s : State} {l : Nat} {m : Mailbox} (hs : Only P s0 s) (hP : ∀ p ∈ ([.eng] : List
    Part), p ∈ P) :
    Only P s0 (State.putMail s l m) := by
  unfold State.putMail
  repeat' (first | with_reducible exact Or.inr rfl | with_reducible exact sub_of hP (by decide) | intro _ | with_reducible exact hs
                 | with_reducible assumption | with_reducible exact Or.inl (hP _ (by decide))
                 | with_reducible exact may_block (hP _ (by decide)) | simp only [↓only_mk] | with_reducible apply parts_of)

theorem only_discard {P : List Part} {s0 : State} {s : State} {l : Nat} (hs : Only P s0 s) (hP : ∀ p ∈ ([.eng] : List Part), p ∈ P) :
    Only P s0 (State.discard s l) := by
  unfold State.discard
  repeat' (first | with_reducible exact Or.inr rfl | with_reducible exact sub_of hP (by decide) | intro _ | with_reducible exact hs
                 | with_reducible assumption | with_reducible exact Or.inl (hP _ (by decide))
                 | with_reducible exact may_block (hP _ (by decide)) | with_reducible apply only_ite
                 | with_reducible apply only_putMail | simp only [↓only_mk] | with_reducible apply parts_of | split
                 | (dsimp only; split))

theorem only_closeLevel3 {P : List Part} {s0 : State} {s : State} {l : Nat} (hs : Only P s0 s) (hP : ∀ p ∈ ([.reg 0x4072, .desk, .ldg]
    : List Part), p ∈ P) :
    Only P s0 (State.closeLevel3 s l) := by
  unfold State.closeLevel3
  repeat' (first | with_reducible exact Or.inr rfl | with_reducible exact sub_of hP (by decide) | intro _ | with_reducible exact hs
                 | with_reducible assumption | with_reducible exact Or.inl (hP _ (by decide))
                 | with_reducible exact may_block (hP _ (by decide)) | with_reducible apply only_closeRec | simp only [↓only_mk]
                 | with_reducible apply parts_of | split | (dsimp only; split))

theorem only_reply {P : List Part} {s0 : State} {s : State} {l tag type : Nat} {ws : List Nat} (hs : Only P s0 s) (hP : ∀ p ∈ ([.reg
    0x4000, .reg 0x4020, .reg 0x4071, .reg 0x4072, .regs, .desk, .ldg, .out, .host, .pwr] : List Part), p ∈ P) :
    Only P s0 (State.reply s l tag type ws) := by
  unfold State.reply
  repeat' (first | with_reducible exact sub_of hP (by decide) | intro _ | with_reducible exact hs | with_reducible assumption
                 | with_reducible exact may_block (hP _ (by decide)) | with_reducible exact may_any (hP _ (by decide))
                 | with_reducible apply only_ite | with_reducible apply only_foldl | with_reducible apply only_closeLevel3
                 | with_reducible apply only_event | with_reducible apply only_inc | with_reducible apply only_set
                 | with_reducible apply only_setBit | split | (dsimp only; split))

theorem only_putPortOut {P : List Part} {s0 : State} {s : State} {p v : Nat} (hs : Only P s0 s) (hP : ∀ p ∈ ([.eng] : List Part), p ∈
    P) :
    Only P s0 (State.putPortOut s p v) := by
  unfold State.putPortOut
  repeat' (first | with_reducible exact Or.inr rfl | with_reducible exact sub_of hP (by decide) | intro _ | with_reducible exact hs
                 | with_reducible assumption | with_reducible exact Or.inl (hP _ (by decide))
                 | with_reducible exact may_block (hP _ (by decide)) | simp only [↓only_mk] | with_reducible apply parts_of)

theorem only_latch {P : List Part} {s0 : State} {s : State} {p v : Nat} (hs : Only P s0 s) (hP : ∀ p ∈ ([.eng] : List Part), p ∈ P) :
    Only P s0 (State.latch s p v) := by
  unfold State.latch
  repeat' (first | with_reducible exact Or.inr rfl | with_reducible exact sub_of hP (by decide) | intro _ | with_reducible exact hs
                 | with_reducible assumption | with_reducible exact Or.inl (hP _ (by decide))
                 | with_reducible exact may_block (hP _ (by decide)) | with_reducible apply only_ite | simp only [↓only_mk]
                 | with_reducible apply parts_of | split | (dsimp only; split))

theorem only_putLp {P : List Part} {s0 : State} {s : State} {x : Act} {l : Loop} (hs : Only P s0 s) (hP : ∀ p ∈ ([.loops] : List
    Part), p ∈ P) :
    Only P s0 (State.putLp s x l) := by
  unfold State.putLp
  repeat' (first | with_reducible exact Or.inr rfl | with_reducible exact sub_of hP (by decide) | intro _ | with_reducible exact hs
                 | with_reducible assumption | with_reducible exact Or.inl (hP _ (by decide))
                 | with_reducible exact may_block (hP _ (by decide)) | simp only [↓only_mk] | with_reducible apply parts_of)

theorem only_armWrite {P : List Part} {s0 : State} {s : State} {x : Act} {k v : Nat} (hs : Only P s0 s) (hP : ∀ p ∈ ([.eng, .loops] :
    List Part), p ∈ P) :
    Only P s0 (State.armWrite s x k v) := by
  unfold State.armWrite
  repeat' (first | with_reducible exact Or.inr rfl | with_reducible exact sub_of hP (by decide) | intro _ | with_reducible exact hs
                 | with_reducible assumption | with_reducible exact Or.inl (hP _ (by decide))
                 | with_reducible exact may_block (hP _ (by decide)) | with_reducible apply only_ite | with_reducible apply only_putLp
                 | with_reducible apply only_putPortOut | with_reducible apply only_fst ‹_ = (_, _)› | simp only [↓only_mk]
                 | with_reducible apply parts_of | split | (dsimp only; split))

theorem only_spnWrite {P : List Part} {s0 : State} {s : State} {tickNs k v : Nat} (hs : Only P s0 s) (hP : ∀ p ∈ ([.reg 0x4028, .eng,
    .spn] : List Part), p ∈ P) :
    Only P s0 (State.spnWrite s tickNs k v) := by
  unfold State.spnWrite
  repeat' (first | with_reducible exact Or.inr rfl | with_reducible exact sub_of hP (by decide) | intro _ | with_reducible exact hs
                 | with_reducible assumption | with_reducible exact Or.inl (hP _ (by decide))
                 | with_reducible exact may_block (hP _ (by decide)) | with_reducible apply only_ite | with_reducible apply only_inc
                 | with_reducible apply only_putPortOut | simp only [↓only_mk] | with_reducible apply parts_of | split
                 | (dsimp only; split))

theorem only_setInv {P : List Part} {s0 : State} {s : State} {m : Nat} (hs : Only P s0 s) (hP : ∀ p ∈ ([.eng] : List Part), p ∈ P) :
    Only P s0 (State.setInv s m) := by
  unfold State.setInv
  repeat' (first | with_reducible exact Or.inr rfl | with_reducible exact sub_of hP (by decide) | intro _ | with_reducible exact hs
                 | with_reducible assumption | with_reducible exact Or.inl (hP _ (by decide))
                 | with_reducible exact may_block (hP _ (by decide)) | with_reducible apply only_putPortOut | simp only [↓only_mk]
                 | with_reducible apply parts_of)

theorem only_noteSelection {P : List Part} {s0 : State} {s : State} {x : Act} {head : Nat} (hs : Only P s0 s) (hP : ∀ p ∈ ([.cons] :
    List Part), p ∈ P) :
    Only P s0 (State.noteSelection s x head) := by
  unfold State.noteSelection
  repeat' (first | with_reducible exact Or.inr rfl | with_reducible exact sub_of hP (by decide) | intro _ | with_reducible exact hs
                 | with_reducible assumption | with_reducible exact Or.inl (hP _ (by decide))
                 | with_reducible exact may_block (hP _ (by decide)) | with_reducible apply only_ite | simp only [↓only_mk]
                 | with_reducible apply parts_of | split | (dsimp only; split))

theorem only_headFrame {P : List Part} {s0 : State} {s : State} {x : Act} {head : Nat} (hs : Only P s0 s) (hP : ∀ p ∈ ([.out] : List
    Part), p ∈ P) :
    Only P s0 (State.headFrame s x head) := by
  unfold State.headFrame
  repeat' (first | with_reducible exact sub_of hP (by decide) | intro _ | with_reducible exact hs | with_reducible assumption
                 | with_reducible exact may_block (hP _ (by decide)) | with_reducible apply only_ite | with_reducible apply only_emit
                 | split | (dsimp only; split))

theorem only_selectTarget {P : List Part} {s0 : State} {s : State} {x : Act} {head track : Nat} (hs : Only P s0 s) (hP : ∀ p ∈ ([.reg
    0x4010, .reg 0x4011, .reg 0x4012, .reg 0x4013, .out, .loops, .cons] : List Part), p ∈ P) :
    Only P s0 (State.selectTarget s x head track) := by
  unfold State.selectTarget
  repeat' (first | with_reducible exact Or.inr rfl | with_reducible exact sub_of hP (by decide) | intro _ | with_reducible exact hs
                 | with_reducible assumption | with_reducible exact Or.inl (hP _ (by decide))
                 | with_reducible exact may_block (hP _ (by decide)) | with_reducible apply only_headFrame
                 | with_reducible apply only_noteSelection | with_reducible apply only_putLp | with_reducible apply only_set
                 | simp only [↓only_mk] | with_reducible apply parts_of | (cases x <;> exact may_block (hP _ (by decide))))

theorem only_portWrite {P : List Part} {s0 : State} {s : State} {tickNs p v : Nat} (hs : Only P s0 s) (hP : ∀ p ∈ ([.reg 0x4010, .reg
    0x4011, .reg 0x4012, .reg 0x4013, .reg 0x4028, .reg 0x4031, .reg 0x4070, .out, .eng, .loops, .spn, .cons] : List Part), p ∈ P) :
    Only P s0 (State.portWrite s tickNs p v) := by
  unfold State.portWrite
  repeat' (first | with_reducible exact Or.inr rfl | with_reducible exact sub_of hP (by decide) | intro _ | with_reducible exact hs
                 | with_reducible assumption | with_reducible exact Or.inl (hP _ (by decide))
                 | with_reducible exact may_block (hP _ (by decide)) | with_reducible apply only_ite
                 | with_reducible apply only_armWrite | with_reducible apply only_putLp | with_reducible apply only_putPortOut
                 | with_reducible apply only_selectTarget | with_reducible apply only_set | with_reducible apply only_spnWrite
                 | with_reducible apply only_fst ‹_ = (_, _)› | simp only [↓only_mk] | with_reducible apply parts_of
                 | (cases x <;> exact may_block (hP _ (by decide)))
                 | (generalize Act.num _ = y; cases y <;> exact may_block (hP _ (by decide)))
                 | (dsimp only; generalize Act.num _ = y; cases y <;> exact may_block (hP _ (by decide))) | split
                 | (dsimp only; split))

theorem only_injWrite {P : List Part} {s0 : State} {s : State} {target a n : Nat} (hs : Only P s0 s) (hP : ∀ p ∈ ([.reg 0x4071, .mem]
    : List Part), p ∈ P) :
    Only P s0 (State.injWrite s target a n) := by
  unfold State.injWrite
  repeat' (first | with_reducible exact Or.inr rfl | with_reducible exact sub_of hP (by decide) | intro _ | with_reducible exact hs
                 | with_reducible assumption | with_reducible exact Or.inl (hP _ (by decide))
                 | with_reducible exact may_block (hP _ (by decide)) | with_reducible apply only_ite | with_reducible apply only_set
                 | simp only [↓only_mk] | with_reducible apply parts_of | split | (dsimp only; split))

theorem only_sramRead {P : List Part} {s0 : State} {s : State} {target a n source : Nat} (hs : Only P s0 s) (hP : ∀ p ∈ ([.reg 0x4000,
    .reg 0x4020, .reg 0x4071, .reg 0x4072, .desk, .ldg, .out, .mem, .host, .pwr] : List Part), p ∈ P) :
    Only P s0 (State.sramRead s target a n source) := by
  unfold State.sramRead
  repeat' (first | with_reducible exact Or.inr rfl | with_reducible exact sub_of hP (by decide) | intro _ | with_reducible exact hs
                 | with_reducible assumption | with_reducible exact Or.inl (hP _ (by decide))
                 | with_reducible exact may_block (hP _ (by decide)) | with_reducible apply only_ite | with_reducible apply only_foldl
                 | with_reducible apply only_capture | simp only [↓only_mk] | with_reducible apply parts_of | split
                 | (dsimp only; split))

theorem only_putCtx {P : List Part} {s0 : State} {s : State} {n : Nat} {c : Ctx} (hs : Only P s0 s) (hP : ∀ p ∈ ([.eng] : List Part),
    p ∈ P) :
    Only P s0 (State.putCtx s n c) := by
  unfold State.putCtx
  repeat' (first | with_reducible exact Or.inr rfl | with_reducible exact sub_of hP (by decide) | with_reducible exact mayAll_nil
                 | with_reducible apply mayAll_cons | with_reducible exact mayPairs_nil | with_reducible apply mayPairs_cons | intro _
                 | with_reducible exact hs | with_reducible assumption | with_reducible exact Or.inl (hP _ (by decide))
                 | with_reducible exact may_block (hP _ (by decide)) | with_reducible apply only_clear | simp only [↓only_mk]
                 | with_reducible apply parts_of)

theorem only_ready {P : List Part} {s0 : State} {s : State} {n : Nat} (hs : Only P s0 s) (hP : ∀ p ∈ ([.eng] : List Part), p ∈ P) :
    Only P s0 (State.ready s n) := by
  unfold State.ready
  repeat' (first | with_reducible exact Or.inr rfl | with_reducible exact sub_of hP (by decide) | intro _ | with_reducible exact hs
                 | with_reducible assumption | with_reducible exact Or.inl (hP _ (by decide))
                 | with_reducible exact may_block (hP _ (by decide)) | with_reducible apply only_ite
                 | with_reducible apply only_putCtx | simp only [↓only_mk] | with_reducible apply parts_of | split
                 | (dsimp only; split))

theorem only_schedule {P : List Part} {s0 : State} {s : State} (hs : Only P s0 s) (hP : ∀ p ∈ ([.eng] : List Part), p ∈ P) :
    Only P s0 (State.schedule s) := by
  unfold State.schedule
  repeat' (first | with_reducible exact Or.inr rfl | with_reducible exact sub_of hP (by decide) | intro _ | with_reducible exact hs
                 | with_reducible assumption | with_reducible exact Or.inl (hP _ (by decide))
                 | with_reducible exact may_block (hP _ (by decide)) | with_reducible apply only_ite | simp only [↓only_mk]
                 | with_reducible apply parts_of | split | (dsimp only; split))

theorem only_scheduleIdle {P : List Part} {s0 : State} {s : State} (hs : Only P s0 s) (hP : ∀ p ∈ ([.eng] : List Part), p ∈ P) :
    Only P s0 (State.scheduleIdle s) := by
  unfold State.scheduleIdle
  repeat' (first | with_reducible exact sub_of hP (by decide) | intro _ | with_reducible exact hs | with_reducible assumption
                 | with_reducible exact may_block (hP _ (by decide)) | with_reducible apply only_ite
                 | with_reducible apply only_schedule | split | (dsimp only; split))

theorem only_commitX {P : List Part} {s0 : State} {s : State} (hs : Only P s0 s) (hP : ∀ p ∈ ([.regs, .eng] : List Part), p ∈ P) :
    Only P s0 (State.commitX s) := by
  unfold State.commitX
  repeat' (first | with_reducible exact Or.inr rfl | with_reducible exact sub_of hP (by decide) | intro _ | with_reducible exact hs
                 | with_reducible assumption | with_reducible exact Or.inl (hP _ (by decide))
                 | with_reducible exact may_block (hP _ (by decide)) | with_reducible exact may_any (hP _ (by decide))
                 | with_reducible apply only_foldl | with_reducible apply only_set | simp only [↓only_mk]
                 | with_reducible apply parts_of)

theorem only_noteCycles {P : List Part} {s0 : State} {s : State} {n : Nat} (hs : Only P s0 s) (hP : ∀ p ∈ ([.regs] : List Part), p ∈
    P) :
    Only P s0 (State.noteCycles s n) := by
  unfold State.noteCycles
  repeat' (first | with_reducible exact sub_of hP (by decide) | intro _ | with_reducible exact hs | with_reducible assumption
                 | with_reducible exact may_block (hP _ (by decide)) | with_reducible exact may_any (hP _ (by decide))
                 | with_reducible apply only_set)

theorem only_sliceClean {P : List Part} {s0 : State} {s : State} {n : Nat} (hs : Only P s0 s) (hP : ∀ p ∈ ([.reg 0x4072, .desk, .ldg,
    .eng] : List Part), p ∈ P) :
    Only P s0 (State.sliceClean s n) := by
  unfold State.sliceClean
  repeat' (first | with_reducible exact Or.inr rfl | with_reducible exact sub_of hP (by decide) | intro _ | with_reducible exact hs
                 | with_reducible assumption | with_reducible exact Or.inl (hP _ (by decide))
                 | with_reducible exact may_block (hP _ (by decide)) | with_reducible apply only_closeRec | simp only [↓only_mk]
                 | with_reducible apply parts_of | split | (dsimp only; split))

theorem only_sliceFail {P : List Part} {s0 : State} {s : State} {n code : Nat} (hs : Only P s0 s) (hP : ∀ p ∈ ([.reg 0x4000, .reg
    0x4020, .reg 0x4071, .reg 0x4072, .desk, .ldg, .out, .eng, .host, .pwr] : List Part), p ∈ P) :
    Only P s0 (State.sliceFail s n code) := by
  unfold State.sliceFail
  repeat' (first | with_reducible exact Or.inr rfl | with_reducible exact sub_of hP (by decide) | intro _ | with_reducible exact hs
                 | with_reducible assumption | with_reducible exact Or.inl (hP _ (by decide))
                 | with_reducible exact may_block (hP _ (by decide)) | with_reducible apply only_ite
                 | with_reducible apply only_capture | with_reducible apply only_closeRec | simp only [↓only_mk]
                 | with_reducible apply parts_of | split | (dsimp only; split))

theorem only_leave {P : List Part} {s0 : State} {s : State} (hs : Only P s0 s) (hP : ∀ p ∈ ([.eng] : List Part), p ∈ P) :
    Only P s0 (State.leave s) := by
  unfold State.leave
  repeat' (first | with_reducible exact Or.inr rfl | with_reducible exact sub_of hP (by decide) | intro _ | with_reducible exact hs
                 | with_reducible assumption | with_reducible exact Or.inl (hP _ (by decide))
                 | with_reducible exact may_block (hP _ (by decide)) | with_reducible apply only_schedule | simp only [↓only_mk]
                 | with_reducible apply parts_of)

theorem only_setOverrun {P : List Part} {s0 : State} {s : State} {n : Nat} (hs : Only P s0 s) (hP : ∀ p ∈ ([.reg 0x4002] : List Part),
    p ∈ P) :
    Only P s0 (State.setOverrun s n) := by
  unfold State.setOverrun
  repeat' (first | with_reducible exact sub_of hP (by decide) | intro _ | with_reducible exact hs | with_reducible assumption
                 | with_reducible exact may_block (hP _ (by decide)) | with_reducible apply only_ite | with_reducible apply only_set
                 | with_reducible apply only_setBit | split | (dsimp only; split))

theorem only_trap {P : List Part} {s0 : State} {s : State} {n code : Nat} (hs : Only P s0 s) (hP : ∀ p ∈ ([.reg 0x4000, .reg 0x4020,
    .reg 0x4071, .reg 0x4072, .regs, .desk, .ldg, .out, .eng, .host, .pwr] : List Part), p ∈ P) :
    Only P s0 (State.trap s n code) := by
  unfold State.trap
  repeat' (first | with_reducible exact Or.inr rfl | with_reducible exact sub_of hP (by decide) | with_reducible exact mayAll_nil
                 | with_reducible apply mayAll_cons | with_reducible exact mayPairs_nil | with_reducible apply mayPairs_cons | intro _
                 | with_reducible exact hs | with_reducible assumption | with_reducible exact Or.inl (hP _ (by decide))
                 | with_reducible exact may_block (hP _ (by decide)) | with_reducible exact may_any (hP _ (by decide))
                 | with_reducible apply only_commitX | with_reducible apply only_leave | with_reducible apply only_noteCycles
                 | with_reducible apply only_putCtx | with_reducible apply only_setAll | with_reducible apply only_sliceFail
                 | simp only [↓only_mk] | with_reducible apply parts_of)

theorem only_sliceEnd {P : List Part} {s0 : State} {s : State} {n : Nat} (hs : Only P s0 s) (hP : ∀ p ∈ ([.reg 0x4072, .regs, .desk,
    .ldg, .eng] : List Part), p ∈ P) :
    Only P s0 (State.sliceEnd s n) := by
  unfold State.sliceEnd
  repeat' (first | with_reducible exact Or.inr rfl | with_reducible exact sub_of hP (by decide) | intro _ | with_reducible exact hs
                 | with_reducible assumption | with_reducible exact Or.inl (hP _ (by decide))
                 | with_reducible exact may_block (hP _ (by decide)) | with_reducible exact may_any (hP _ (by decide))
                 | with_reducible apply only_noteCycles | with_reducible apply only_putCtx | with_reducible apply only_ready
                 | with_reducible apply only_schedule | with_reducible apply only_sliceClean
                 | with_reducible apply only_fst ‹_ = (_, _)› | simp only [↓only_mk] | with_reducible apply parts_of | split
                 | (dsimp only; split))

theorem only_writeDest {P : List Part} {s0 : State} {s : State} {n d v : Nat} (hs : Only P s0 s) (hP : ∀ p ∈ ([.eng] : List Part), p ∈
    P) :
    Only P s0 (State.writeDest s n d v) := by
  unfold State.writeDest
  repeat' (first | with_reducible exact Or.inr rfl | with_reducible exact sub_of hP (by decide) | intro _ | with_reducible exact hs
                 | with_reducible assumption | with_reducible exact Or.inl (hP _ (by decide))
                 | with_reducible exact may_block (hP _ (by decide)) | with_reducible apply only_ite
                 | with_reducible apply only_putCtx | simp only [↓only_mk] | with_reducible apply parts_of | split
                 | (dsimp only; split))

theorem only_noteInjUse {P : List Part} {s0 : State} {s : State} {ch n : Nat} (hs : Only P s0 s) (hP : ∀ p ∈ ([.eng] : List Part), p ∈
    P) :
    Only P s0 (State.noteInjUse s ch n) := by
  unfold State.noteInjUse
  repeat' (first | with_reducible exact Or.inr rfl | with_reducible exact sub_of hP (by decide) | intro _ | with_reducible exact hs
                 | with_reducible assumption | with_reducible exact Or.inl (hP _ (by decide))
                 | with_reducible exact may_block (hP _ (by decide)) | with_reducible apply only_ite | simp only [↓only_mk]
                 | with_reducible apply parts_of | split | (dsimp only; split))

theorem only_aluWrite {P : List Part} {s0 : State} {s : State} {n : Nat} {w : MW} {a b old : Nat} (hs : Only P s0 s) (hP : ∀ p ∈
    ([.reg 0x4000, .reg 0x4020, .reg 0x4071, .reg 0x4072, .desk, .ldg, .out, .eng, .host, .pwr] : List Part), p ∈ P) :
    Only P s0 (State.aluWrite s n w a b old) := by
  unfold State.aluWrite
  repeat' (first | with_reducible exact Or.inr rfl | with_reducible exact sub_of hP (by decide) | intro _ | with_reducible exact hs
                 | with_reducible assumption | with_reducible exact Or.inl (hP _ (by decide))
                 | with_reducible exact may_block (hP _ (by decide)) | with_reducible apply only_ite | with_reducible apply only_event
                 | with_reducible apply only_noteInjUse | with_reducible apply only_putCtx | with_reducible apply only_setBit
                 | with_reducible apply only_writeDest | simp only [↓only_mk] | with_reducible apply parts_of | split
                 | (dsimp only; split))

theorem only_macWrite {P : List Part} {s0 : State} {s : State} {n : Nat} {w : MW} {x y : Nat} (hs : Only P s0 s) (hP : ∀ p ∈ ([.eng] :
    List Part), p ∈ P) :
    Only P s0 (State.macWrite s n w x y) := by
  unfold State.macWrite
  repeat' (first | with_reducible exact Or.inr rfl | with_reducible exact sub_of hP (by decide) | intro _ | with_reducible exact hs
                 | with_reducible assumption | with_reducible exact Or.inl (hP _ (by decide))
                 | with_reducible exact may_block (hP _ (by decide)) | with_reducible apply only_ite
                 | with_reducible apply only_putCtx | simp only [↓only_mk] | with_reducible apply parts_of | split
                 | (dsimp only; split))

theorem only_memWrite {P : List Part} {s0 : State} {s : State} {n : Nat} {w : MW} {a src : Nat} (hs : Only P s0 s) (hP : ∀ p ∈ ([.reg
    0x4000, .reg 0x4020, .reg 0x4071, .reg 0x4072, .desk, .ldg, .out, .eng, .mem, .host, .pwr] : List Part), p ∈ P) :
    Only P s0 (State.memWrite s n w a src) := by
  unfold State.memWrite
  repeat' (first | with_reducible exact Or.inr rfl | with_reducible exact sub_of hP (by decide) | intro _ | with_reducible exact hs
                 | with_reducible assumption | with_reducible exact Or.inl (hP _ (by decide))
                 | with_reducible exact may_block (hP _ (by decide)) | with_reducible apply only_ite
                 | with_reducible apply only_injWrite | with_reducible apply only_putCtx | with_reducible apply only_sramRead
                 | with_reducible apply only_fst ‹_ = (_, _)› | simp only [↓only_mk] | with_reducible apply parts_of | split
                 | (dsimp only; split))

theorem only_ioWrite {P : List Part} {s0 : State} {s : State} {n : Nat} {w : MW} {src : Nat} (hs : Only P s0 s) (hP : ∀ p ∈ ([.reg
    0x4000, .reg 0x4010, .reg 0x4011, .reg 0x4012, .reg 0x4013, .reg 0x4020, .reg 0x4028, .reg 0x4031, .reg 0x4070, .reg 0x4071, .reg
    0x4072, .regs, .desk, .ldg, .out, .eng, .loops, .spn, .cons, .host, .pwr] : List Part), p ∈ P) :
    Only P s0 (State.ioWrite s n w src) := by
  unfold State.ioWrite
  repeat' (first | with_reducible exact Or.inr rfl | with_reducible exact sub_of hP (by decide) | intro _ | with_reducible exact hs
                 | with_reducible assumption | with_reducible exact Or.inl (hP _ (by decide))
                 | with_reducible exact may_block (hP _ (by decide)) | with_reducible exact may_any (hP _ (by decide))
                 | with_reducible apply only_ite | with_reducible apply only_discard | with_reducible apply only_portWrite
                 | with_reducible apply only_putMail | with_reducible apply only_reply | with_reducible apply only_fst ‹_ = (_, _)›
                 | simp only [↓only_mk] | with_reducible apply parts_of | split | (dsimp only; split))

theorem only_capWrite {P : List Part} {s0 : State} {s : State} {w : MW} {v : Nat} (hs : Only P s0 s) (hP : ∀ p ∈ ([.eng] : List Part),
    p ∈ P) :
    Only P s0 (State.capWrite s w v) := by
  unfold State.capWrite
  repeat' (first | with_reducible exact Or.inr rfl | with_reducible exact sub_of hP (by decide) | intro _ | with_reducible exact hs
                 | with_reducible assumption | with_reducible exact Or.inl (hP _ (by decide))
                 | with_reducible exact may_block (hP _ (by decide)) | with_reducible apply only_ite | simp only [↓only_mk]
                 | with_reducible apply parts_of | split | (dsimp only; split))

theorem only_sequence {P : List Part} {s0 : State} {s : State} {n : Nat} {w : MW} {cond : Bool} {a : Nat} (hs : Only P s0 s) (hP : ∀ p
    ∈ ([.eng] : List Part), p ∈ P) :
    Only P s0 (State.sequence s n w cond a) := by
  unfold State.sequence
  repeat' (first | with_reducible exact Or.inr rfl | with_reducible exact sub_of hP (by decide) | intro _ | with_reducible exact hs
                 | with_reducible assumption | with_reducible exact Or.inl (hP _ (by decide))
                 | with_reducible exact may_block (hP _ (by decide)) | with_reducible apply only_ite
                 | with_reducible apply only_putCtx | simp only [↓only_mk] | with_reducible apply parts_of | split
                 | (dsimp only; split))

theorem only_cycleEnd {P : List Part} {s0 : State} {s : State} {n : Nat} {w : MW} {done : Bool} (hs : Only P s0 s) (hP : ∀ p ∈ ([.reg
    0x4072, .regs, .desk, .ldg, .eng] : List Part), p ∈ P) :
    Only P s0 (State.cycleEnd s n w done) := by
  unfold State.cycleEnd
  repeat' (first | with_reducible exact Or.inr rfl | with_reducible exact sub_of hP (by decide) | intro _ | with_reducible exact hs
                 | with_reducible assumption | with_reducible exact Or.inl (hP _ (by decide))
                 | with_reducible exact may_block (hP _ (by decide)) | with_reducible exact may_any (hP _ (by decide))
                 | with_reducible apply only_ite | with_reducible apply only_commitX | with_reducible apply only_schedule
                 | with_reducible apply only_sliceEnd | simp only [↓only_mk] | with_reducible apply parts_of | split
                 | (dsimp only; split))

theorem only_noteRow {P : List Part} {s0 : State} {s : State} {r : Nat × Nat} (hs : Only P s0 s) (hP : ∀ p ∈ ([.mem] : List Part), p ∈
    P) :
    Only P s0 (State.noteRow s r) := by
  unfold State.noteRow
  repeat' (first | with_reducible exact Or.inr rfl | with_reducible exact sub_of hP (by decide) | intro _ | with_reducible exact hs
                 | with_reducible assumption | with_reducible exact Or.inl (hP _ (by decide))
                 | with_reducible exact may_block (hP _ (by decide)) | with_reducible apply only_ite | simp only [↓only_mk]
                 | with_reducible apply parts_of | split | (dsimp only; split))

theorem only_noteCorrected {P : List Part} {s0 : State} {s : State} {pc : Nat} (hs : Only P s0 s) (hP : ∀ p ∈ ([.reg 0x4020, .mem] :
    List Part), p ∈ P) :
    Only P s0 (State.noteCorrected s pc) := by
  unfold State.noteCorrected
  repeat' (first | with_reducible exact sub_of hP (by decide) | intro _ | with_reducible exact hs | with_reducible assumption
                 | with_reducible exact may_block (hP _ (by decide)) | with_reducible apply only_inc
                 | with_reducible apply only_noteRow | with_reducible apply only_set)

theorem only_execWord {P : List Part} {s0 : State} {s : State} {n : Nat} {w : MW} {dmBad : Bool} (hs : Only P s0 s) (hP : ∀ p ∈ ([.reg
    0x4000, .reg 0x4010, .reg 0x4011, .reg 0x4012, .reg 0x4013, .reg 0x4020, .reg 0x4028, .reg 0x4031, .reg 0x4070, .reg 0x4071, .reg
    0x4072, .regs, .desk, .ldg, .out, .eng, .loops, .spn, .mem, .cons, .host, .pwr] : List Part), p ∈ P) :
    Only P s0 (State.execWord s n w dmBad) := by
  unfold State.execWord
  repeat' (first | with_reducible exact Or.inr rfl | with_reducible exact sub_of hP (by decide) | intro _ | with_reducible exact hs
                 | with_reducible assumption | with_reducible exact Or.inl (hP _ (by decide))
                 | with_reducible exact may_block (hP _ (by decide)) | with_reducible exact may_any (hP _ (by decide))
                 | with_reducible apply only_ite | with_reducible apply only_aluWrite | with_reducible apply only_asInjected
                 | with_reducible apply only_capWrite | with_reducible apply only_cycleEnd | with_reducible apply only_ioWrite
                 | with_reducible apply only_macWrite | with_reducible apply only_memWrite | with_reducible apply only_sequence
                 | with_reducible apply only_trap | with_reducible apply only_fst ‹_ = (_, _)› | simp only [↓only_mk]
                 | with_reducible apply parts_of | split | (dsimp only; split))

theorem only_micro {P : List Part} {s0 : State} {s : State} {fetch dm : Ecc} {isOp : MW → Bool} (hs : Only P s0 s) (hP : ∀ p ∈ ([.reg
    0x4000, .reg 0x4010, .reg 0x4011, .reg 0x4012, .reg 0x4013, .reg 0x4020, .reg 0x4028, .reg 0x4031, .reg 0x4070, .reg 0x4071, .reg
    0x4072, .regs, .desk, .ldg, .out, .eng, .loops, .spn, .mem, .cons, .host, .pwr] : List Part), p ∈ P) :
    Only P s0 (State.micro s fetch dm isOp) := by
  unfold State.micro
  repeat' (first | with_reducible exact Or.inr rfl | with_reducible exact sub_of hP (by decide) | intro _ | with_reducible exact hs
                 | with_reducible assumption | with_reducible exact Or.inl (hP _ (by decide))
                 | with_reducible exact may_block (hP _ (by decide)) | with_reducible exact may_any (hP _ (by decide))
                 | with_reducible apply only_ite | with_reducible apply only_execWord | with_reducible apply only_noteCorrected
                 | with_reducible apply only_schedule | with_reducible apply only_trap | with_reducible apply only_fst ‹_ = (_, _)›
                 | simp only [↓only_mk] | with_reducible apply parts_of | split | (dsimp only; split))

theorem only_saveDev {P : List Part} {s0 : State} {s : State} {f : DevRecord → DevRecord} (hs : Only P s0 s) (hP : ∀ p ∈ ([.psp] :
    List Part), p ∈ P) :
    Only P s0 (State.saveDev s f) := by
  unfold State.saveDev
  repeat' (first | with_reducible exact Or.inr rfl | with_reducible exact sub_of hP (by decide) | intro _ | with_reducible exact hs
                 | with_reducible assumption | with_reducible exact Or.inl (hP _ (by decide))
                 | with_reducible exact may_block (hP _ (by decide)) | simp only [↓only_mk] | with_reducible apply parts_of)

theorem only_writeDev {P : List Part} {s0 : State} {s : State} {r : DevRecord} (hs : Only P s0 s) (hP : ∀ p ∈ ([.psp] : List Part), p
    ∈ P) :
    Only P s0 (State.writeDev s r) := by
  unfold State.writeDev
  repeat' (first | with_reducible exact Or.inr rfl | with_reducible exact sub_of hP (by decide) | intro _ | with_reducible exact hs
                 | with_reducible assumption | with_reducible exact Or.inl (hP _ (by decide))
                 | with_reducible exact may_block (hP _ (by decide)) | with_reducible apply only_ite | simp only [↓only_mk]
                 | with_reducible apply parts_of | split | (dsimp only; split))

theorem only_changeDev {P : List Part} {s0 : State} {s : State} {f : DevRecord → DevRecord} (hs : Only P s0 s) (hP : ∀ p ∈ ([.psp] :
    List Part), p ∈ P) :
    Only P s0 (State.changeDev s f) := by
  unfold State.changeDev
  repeat' (first | with_reducible exact Or.inr rfl | with_reducible exact sub_of hP (by decide) | intro _ | with_reducible exact hs
                 | with_reducible assumption | with_reducible exact Or.inl (hP _ (by decide))
                 | with_reducible exact may_block (hP _ (by decide)) | with_reducible apply only_ite
                 | with_reducible apply only_saveDev | with_reducible apply only_writeDev | simp only [↓only_mk]
                 | with_reducible apply parts_of | split | (dsimp only; split))

theorem only_injEnd {P : List Part} {s0 : State} {s : State} {n : Nat} (hs : Only P s0 s) (hP : ∀ p ∈ ([.regs] : List Part), p ∈ P) :
    Only P s0 (State.injEnd s n) := by
  unfold State.injEnd
  repeat' (first | with_reducible exact sub_of hP (by decide) | intro _ | with_reducible exact hs | with_reducible assumption
                 | with_reducible exact may_block (hP _ (by decide)) | with_reducible exact may_any (hP _ (by decide))
                 | with_reducible apply only_set)

theorem only_injTick {P : List Part} {s0 : State} {s : State} {n : Nat} (hs : Only P s0 s) (hP : ∀ p ∈ ([.regs] : List Part), p ∈ P) :
    Only P s0 (State.injTick s n) := by
  unfold State.injTick
  repeat' (first | with_reducible exact sub_of hP (by decide) | intro _ | with_reducible exact hs | with_reducible assumption
                 | with_reducible exact may_block (hP _ (by decide)) | with_reducible exact may_any (hP _ (by decide))
                 | with_reducible apply only_ite | with_reducible apply only_injEnd | with_reducible apply only_set | split
                 | (dsimp only; split))

theorem only_capEnd {P : List Part} {s0 : State} {s : State} {n : Nat} (hs : Only P s0 s) (hP : ∀ p ∈ ([.regs, .eng] : List Part), p ∈
    P) :
    Only P s0 (State.capEnd s n) := by
  unfold State.capEnd
  repeat' (first | with_reducible exact Or.inr rfl | with_reducible exact sub_of hP (by decide) | intro _ | with_reducible exact hs
                 | with_reducible assumption | with_reducible exact Or.inl (hP _ (by decide))
                 | with_reducible exact may_block (hP _ (by decide)) | with_reducible exact may_any (hP _ (by decide))
                 | with_reducible apply only_ite | with_reducible apply only_set | simp only [↓only_mk]
                 | with_reducible apply parts_of | split | (dsimp only; split))

theorem only_capSlot {P : List Part} {s0 : State} {s : State} {n : Nat} (hs : Only P s0 s) (hP : ∀ p ∈ ([.regs, .eng] : List Part), p
    ∈ P) :
    Only P s0 (State.capSlot s n) := by
  unfold State.capSlot
  repeat' (first | with_reducible exact Or.inr rfl | with_reducible exact sub_of hP (by decide) | intro _ | with_reducible exact hs
                 | with_reducible assumption | with_reducible exact Or.inl (hP _ (by decide))
                 | with_reducible exact may_block (hP _ (by decide)) | with_reducible exact may_any (hP _ (by decide))
                 | with_reducible apply only_set | simp only [↓only_mk] | with_reducible apply parts_of)

theorem only_capTick {P : List Part} {s0 : State} {s : State} {n : Nat} (hs : Only P s0 s) (hP : ∀ p ∈ ([.regs, .eng] : List Part), p
    ∈ P) :
    Only P s0 (State.capTick s n) := by
  unfold State.capTick
  repeat' (first | with_reducible exact Or.inr rfl | with_reducible exact sub_of hP (by decide) | with_reducible exact mayAll_nil
                 | with_reducible apply mayAll_cons | with_reducible exact mayPairs_nil | with_reducible apply mayPairs_cons | intro _
                 | with_reducible exact hs | with_reducible assumption | with_reducible exact Or.inl (hP _ (by decide))
                 | with_reducible exact may_block (hP _ (by decide)) | with_reducible exact may_any (hP _ (by decide))
                 | with_reducible apply only_ite | with_reducible apply only_capEnd | with_reducible apply only_capSlot
                 | with_reducible apply only_setAll | simp only [↓only_mk] | with_reducible apply parts_of | split
                 | (dsimp only; split))

theorem only_runTick {P : List Part} {s0 : State} {s : State} (hs : Only P s0 s) (hP : ∀ p ∈ ([.reg 0x4020, .regs, .eng] : List Part),
    p ∈ P) :
    Only P s0 (State.runTick s) := by
  unfold State.runTick
  repeat' (first | with_reducible exact Or.inr rfl | with_reducible exact sub_of hP (by decide) | intro _ | with_reducible exact hs
                 | with_reducible assumption | with_reducible exact Or.inl (hP _ (by decide))
                 | with_reducible exact may_block (hP _ (by decide)) | with_reducible exact may_any (hP _ (by decide))
                 | with_reducible apply only_foldl | with_reducible apply only_set | simp only [↓only_mk]
                 | with_reducible apply parts_of | split | (dsimp only; split))

theorem only_engineTick {P : List Part} {s0 : State} {s : State} (hs : Only P s0 s) (hP : ∀ p ∈ ([.reg 0x4002, .reg 0x4020, .regs,
    .eng] : List Part), p ∈ P) :
    Only P s0 (State.engineTick s) := by
  unfold State.engineTick
  repeat' (first | with_reducible exact Or.inr rfl | with_reducible exact sub_of hP (by decide) | intro _ | with_reducible exact hs
                 | with_reducible assumption | with_reducible exact Or.inl (hP _ (by decide))
                 | with_reducible exact may_block (hP _ (by decide)) | with_reducible exact may_any (hP _ (by decide))
                 | with_reducible apply only_ite | with_reducible apply only_foldl | with_reducible apply only_capTick
                 | with_reducible apply only_injTick | with_reducible apply only_ready | with_reducible apply only_runTick
                 | with_reducible apply only_scheduleIdle | with_reducible apply only_set | simp only [↓only_mk]
                 | with_reducible apply parts_of | split | (dsimp only; split))

theorem only_takeUp {P : List Part} {s0 : State} {s : State} {l : Nat} {boundaryNs : Nat} (hs : Only P s0 s) (hP : ∀ p ∈ ([.eng] :
    List Part), p ∈ P) :
    Only P s0 (State.takeUp s l boundaryNs) := by
  unfold State.takeUp
  repeat' (first | with_reducible exact Or.inr rfl | with_reducible exact sub_of hP (by decide) | intro _ | with_reducible exact hs
                 | with_reducible assumption | with_reducible exact Or.inl (hP _ (by decide))
                 | with_reducible exact may_block (hP _ (by decide)) | with_reducible apply only_putMail | simp only [↓only_mk]
                 | with_reducible apply parts_of)

theorem only_setEnergised {P : List Part} {s0 : State} {s : State} {b v : Bool} (hs : Only P s0 s) (hP : ∀ p ∈ ([.pmk] : List Part), p
    ∈ P) :
    Only P s0 (State.setEnergised s b v) := by
  unfold State.setEnergised
  repeat' (first | with_reducible exact Or.inr rfl | with_reducible exact sub_of hP (by decide) | intro _ | with_reducible exact hs
                 | with_reducible assumption | with_reducible exact Or.inl (hP _ (by decide))
                 | with_reducible exact may_block (hP _ (by decide)) | with_reducible apply only_ite | simp only [↓only_mk]
                 | with_reducible apply parts_of | split | (dsimp only; split))

theorem only_pmkRefresh {P : List Part} {s0 : State} {s : State} (hs : Only P s0 s) (hP : ∀ p ∈ ([.reg 0x4001] : List Part), p ∈ P) :
    Only P s0 (State.pmkRefresh s) := by
  unfold State.pmkRefresh
  repeat' (first | with_reducible exact sub_of hP (by decide) | intro _ | with_reducible exact hs | with_reducible assumption
                 | with_reducible exact may_block (hP _ (by decide)) | with_reducible apply only_ite | with_reducible apply only_set
                 | split | (dsimp only; split))

theorem only_setStream {P : List Part} {s0 : State} {s : State} {n : Nat} {v : Bool} (hs : Only P s0 s) (hP : ∀ p ∈ ([.reg 0x4000,
    .reg 0x4001, .pmk] : List Part), p ∈ P) :
    Only P s0 (State.setStream s n v) := by
  unfold State.setStream
  repeat' (first | with_reducible exact Or.inr rfl | with_reducible exact sub_of hP (by decide) | intro _ | with_reducible exact hs
                 | with_reducible assumption | with_reducible exact Or.inl (hP _ (by decide))
                 | with_reducible exact may_block (hP _ (by decide)) | with_reducible apply only_setBit
                 | with_reducible apply only_fst ‹_ = (_, _)› | simp only [↓only_mk] | with_reducible apply parts_of | split
                 | (dsimp only; split))

theorem only_trackTick {P : List Part} {s0 : State} {s : State} {phases : List Nat} {ns : Nat} (hs : Only P s0 s) (hP : ∀ p ∈ ([.reg
    0x4001, .pmk] : List Part), p ∈ P) :
    Only P s0 (State.trackTick s phases ns) := by
  unfold State.trackTick
  repeat' (first | with_reducible exact Or.inr rfl | with_reducible exact sub_of hP (by decide) | intro _ | with_reducible exact hs
                 | with_reducible assumption | with_reducible exact Or.inl (hP _ (by decide))
                 | with_reducible exact may_block (hP _ (by decide)) | with_reducible apply only_ite | with_reducible apply only_foldl
                 | with_reducible apply only_setBit | simp only [↓only_mk] | with_reducible apply parts_of | split
                 | (dsimp only; split))

theorem only_allLost {P : List Part} {s0 : State} {s : State} (hs : Only P s0 s) (hP : ∀ p ∈ ([.reg 0x4001, .reg 0x4002, .tck] : List
    Part), p ∈ P) :
    Only P s0 (State.allLost s) := by
  unfold State.allLost
  repeat' (first | with_reducible exact Or.inr rfl | with_reducible exact sub_of hP (by decide) | with_reducible exact mayAll_nil
                 | with_reducible apply mayAll_cons | with_reducible exact mayPairs_nil | with_reducible apply mayPairs_cons | intro _
                 | with_reducible exact hs | with_reducible assumption | with_reducible exact Or.inl (hP _ (by decide))
                 | with_reducible exact may_block (hP _ (by decide)) | with_reducible apply only_ite | with_reducible apply only_set
                 | with_reducible apply only_setAll | simp only [↓only_mk] | with_reducible apply parts_of | split
                 | (dsimp only; split))

theorem only_dropStream {P : List Part} {s0 : State} {s : State} {n : Nat} (hs : Only P s0 s) (hP : ∀ p ∈ ([.reg 0x4000, .reg 0x4001,
    .reg 0x4002, .reg 0x4020, .reg 0x4071, .reg 0x4072, .desk, .ldg, .out, .pmk, .tck, .host, .pwr] : List Part), p ∈ P) :
    Only P s0 (State.dropStream s n) := by
  unfold State.dropStream
  repeat' (first | with_reducible exact Or.inr rfl | with_reducible exact sub_of hP (by decide) | intro _ | with_reducible exact hs
                 | with_reducible assumption | with_reducible exact Or.inl (hP _ (by decide))
                 | with_reducible exact may_block (hP _ (by decide)) | with_reducible apply only_ite
                 | with_reducible apply only_allLost | with_reducible apply only_event | with_reducible apply only_inc
                 | with_reducible apply only_pmkRefresh | with_reducible apply only_set | with_reducible apply only_setBit
                 | with_reducible apply only_setStream | with_reducible apply only_fst ‹_ = (_, _)› | simp only [↓only_mk]
                 | with_reducible apply parts_of | split | (dsimp only; split))

theorem only_dropStreams {P : List Part} {s0 : State} {s : State} {l : List Nat} (hs : Only P s0 s) (hP : ∀ p ∈ ([.reg 0x4000, .reg
    0x4001, .reg 0x4002, .reg 0x4020, .reg 0x4071, .reg 0x4072, .desk, .ldg, .out, .pmk, .tck, .host, .pwr] : List Part), p ∈ P) :
    Only P s0 (State.dropStreams s l) := by
  unfold State.dropStreams
  repeat' (first | with_reducible exact sub_of hP (by decide) | intro _ | with_reducible exact hs | with_reducible assumption
                 | with_reducible exact may_block (hP _ (by decide)) | with_reducible apply only_foldl
                 | with_reducible apply only_dropStream)

theorem only_memState {P : List Part} {s0 : State} {s : State} (hs : Only P s0 s) (hP : ∀ p ∈ ([.reg 0x4063] : List Part), p ∈ P) :
    Only P s0 (State.memState s) := by
  unfold State.memState
  repeat' (first | with_reducible exact sub_of hP (by decide) | intro _ | with_reducible exact hs | with_reducible assumption
                 | with_reducible exact may_block (hP _ (by decide)) | with_reducible apply only_ite | with_reducible apply only_set
                 | split | (dsimp only; split))

theorem only_pdPut {P : List Part} {s0 : State} {s : State} {n : Nat} {v : Bool} (hs : Only P s0 s) (hP : ∀ p ∈ ([.reg 0x4000, .reg
    0x4063] : List Part), p ∈ P) :
    Only P s0 (State.pdPut s n v) := by
  unfold State.pdPut
  repeat' (first | with_reducible exact sub_of hP (by decide) | intro _ | with_reducible exact hs | with_reducible assumption
                 | with_reducible exact may_block (hP _ (by decide)) | with_reducible apply only_ite
                 | with_reducible apply only_memState | with_reducible apply only_setBit | split | (dsimp only; split))

theorem only_pdSwitchOn {P : List Part} {s0 : State} {s : State} {n : Nat} (hs : Only P s0 s) (hP : ∀ p ∈ ([.reg 0x4000, .reg 0x4063]
    : List Part), p ∈ P) :
    Only P s0 (State.pdSwitchOn s n) := by
  unfold State.pdSwitchOn
  repeat' (first | with_reducible exact Or.inr rfl | with_reducible exact sub_of hP (by decide) | intro _ | with_reducible exact hs
                 | with_reducible assumption | with_reducible exact Or.inl (hP _ (by decide))
                 | with_reducible exact may_block (hP _ (by decide)) | with_reducible apply only_pdPut
                 | with_reducible apply only_fst ‹_ = (_, _)› | simp only [↓only_mk] | with_reducible apply parts_of | split
                 | (dsimp only; split))

theorem only_beforeOff {P : List Part} {s0 : State} {s : State} {n : Nat} (hs : Only P s0 s) (hP : ∀ p ∈ ([.reg 0x4000, .reg 0x4001,
    .reg 0x4002, .reg 0x4020, .reg 0x4028, .reg 0x4071, .reg 0x4072, .desk, .ldg, .out, .eng, .pmk, .tck, .mem, .cons, .host, .pwr] :
    List Part), p ∈ P) :
    Only P s0 (State.beforeOff s n) := by
  unfold State.beforeOff
  repeat' (first | with_reducible exact Or.inr rfl | with_reducible exact sub_of hP (by decide) | with_reducible exact mayAll_nil
                 | with_reducible apply mayAll_cons | with_reducible exact mayPairs_nil | with_reducible apply mayPairs_cons | intro _
                 | with_reducible exact hs | with_reducible assumption | with_reducible exact Or.inl (hP _ (by decide))
                 | with_reducible exact may_block (hP _ (by decide)) | with_reducible apply only_ite | with_reducible apply only_clear
                 | with_reducible apply only_dropStreams | with_reducible apply only_set | with_reducible apply only_setAll
                 | with_reducible apply only_setInv | simp only [↓only_mk] | with_reducible apply parts_of | split
                 | (dsimp only; split))

theorem only_pdSwitchOff {P : List Part} {s0 : State} {s : State} {n : Nat} (hs : Only P s0 s) (hP : ∀ p ∈ ([.reg 0x4000, .reg 0x4001,
    .reg 0x4002, .reg 0x4020, .reg 0x4028, .reg 0x4063, .reg 0x4071, .reg 0x4072, .desk, .ldg, .out, .eng, .pmk, .tck, .mem, .cons,
    .host, .pwr] : List Part), p ∈ P) :
    Only P s0 (State.pdSwitchOff s n) := by
  unfold State.pdSwitchOff
  repeat' (first | with_reducible exact sub_of hP (by decide) | intro _ | with_reducible exact hs | with_reducible assumption
                 | with_reducible exact may_block (hP _ (by decide)) | with_reducible apply only_beforeOff
                 | with_reducible apply only_pdPut)

theorem only_pdAllOff {P : List Part} {s0 : State} {s : State} {l : List Nat} (hs : Only P s0 s) (hP : ∀ p ∈ ([.reg 0x4000, .reg
    0x4001, .reg 0x4002, .reg 0x4020, .reg 0x4028, .reg 0x4063, .reg 0x4071, .reg 0x4072, .desk, .ldg, .out, .eng, .pmk, .tck, .mem,
    .cons, .host, .pwr] : List Part), p ∈ P) :
    Only P s0 (State.pdAllOff s l) := by
  unfold State.pdAllOff
  repeat' (first | with_reducible exact sub_of hP (by decide) | intro _ | with_reducible exact hs | with_reducible assumption
                 | with_reducible exact may_block (hP _ (by decide)) | with_reducible apply only_foldl
                 | with_reducible apply only_pdSwitchOff)

theorem only_noteBooks {P : List Part} {s0 : State} {s : State} (hs : Only P s0 s) (hP : ∀ p ∈ ([.reg 0x4031, .eng] : List Part), p ∈
    P) :
    Only P s0 (State.noteBooks s) := by
  unfold State.noteBooks
  repeat' (first | with_reducible exact sub_of hP (by decide) | intro _ | with_reducible exact hs | with_reducible assumption
                 | with_reducible exact may_block (hP _ (by decide)) | with_reducible apply only_putPortOut
                 | with_reducible apply only_set)

theorem only_putBooks {P : List Part} {s0 : State} {s : State} {b : Books} (hs : Only P s0 s) (hP : ∀ p ∈ ([.reg 0x4031, .eng, .books]
    : List Part), p ∈ P) :
    Only P s0 (State.putBooks s b) := by
  unfold State.putBooks
  repeat' (first | with_reducible exact Or.inr rfl | with_reducible exact sub_of hP (by decide) | intro _ | with_reducible exact hs
                 | with_reducible assumption | with_reducible exact Or.inl (hP _ (by decide))
                 | with_reducible exact may_block (hP _ (by decide)) | with_reducible apply only_noteBooks | simp only [↓only_mk]
                 | with_reducible apply parts_of)

theorem only_areply {P : List Part} {s0 : State} {s : State} {x : Act} {tag type : Nat} {ws : List Nat} (hs : Only P s0 s) (hP : ∀ p ∈
    ([.reg 0x4000, .reg 0x4020, .reg 0x4071, .reg 0x4072, .regs, .desk, .ldg, .out, .host, .pwr] : List Part), p ∈ P) :
    Only P s0 (State.areply s x tag type ws) := by
  unfold State.areply
  repeat' (first | with_reducible exact Or.inr rfl | with_reducible exact sub_of hP (by decide) | intro _ | with_reducible exact hs
                 | with_reducible assumption | with_reducible exact Or.inl (hP _ (by decide))
                 | with_reducible exact may_block (hP _ (by decide)) | with_reducible exact may_any (hP _ (by decide))
                 | with_reducible apply only_reply | simp only [↓only_mk] | with_reducible apply parts_of)

theorem only_refuse {P : List Part} {s0 : State} {s : State} {x : Act} {m : Motion} {reason : Nat} (hs : Only P s0 s) (hP : ∀ p ∈
    ([.reg 0x4000, .reg 0x4020, .reg 0x4071, .reg 0x4072, .regs, .desk, .ldg, .out, .host, .pwr] : List Part), p ∈ P) :
    Only P s0 (State.refuse s x m reason) := by
  unfold State.refuse
  repeat' (first | with_reducible exact sub_of hP (by decide) | intro _ | with_reducible exact hs | with_reducible assumption
                 | with_reducible exact may_block (hP _ (by decide)) | with_reducible exact may_any (hP _ (by decide))
                 | with_reducible apply only_areply)

theorem only_setMode {P : List Part} {s0 : State} {s : State} {x : Act} {m : LoopMode} (hs : Only P s0 s) (hP : ∀ p ∈ ([.regs, .loops]
    : List Part), p ∈ P) :
    Only P s0 (State.setMode s x m) := by
  unfold State.setMode
  repeat' (first | with_reducible exact Or.inr rfl | with_reducible exact sub_of hP (by decide) | intro _ | with_reducible exact hs
                 | with_reducible assumption | with_reducible exact Or.inl (hP _ (by decide))
                 | with_reducible exact may_block (hP _ (by decide)) | with_reducible exact may_any (hP _ (by decide))
                 | with_reducible apply only_putLp | with_reducible apply only_set | simp only [↓only_mk]
                 | with_reducible apply parts_of)

theorem only_setTarget {P : List Part} {s0 : State} {s : State} {x : Act} {head track : Nat} (hs : Only P s0 s) (hP : ∀ p ∈ ([.reg
    0x4010, .reg 0x4011, .reg 0x4012, .reg 0x4013, .regs, .out, .eng, .loops, .cons] : List Part), p ∈ P) :
    Only P s0 (State.setTarget s x head track) := by
  unfold State.setTarget
  repeat' (first | with_reducible exact Or.inr rfl | with_reducible exact sub_of hP (by decide) | intro _ | with_reducible exact hs
                 | with_reducible assumption | with_reducible exact Or.inl (hP _ (by decide))
                 | with_reducible exact may_block (hP _ (by decide)) | with_reducible exact may_any (hP _ (by decide))
                 | with_reducible apply only_putLp | with_reducible apply only_putPortOut | with_reducible apply only_selectTarget
                 | with_reducible apply only_set | simp only [↓only_mk] | with_reducible apply parts_of
                 | (cases x <;> exact may_block (hP _ (by decide))))

theorem only_setInhibit {P : List Part} {s0 : State} {s : State} {x : Act} {wi on : Bool} (hs : Only P s0 s) (hP : ∀ p ∈ ([.reg
    0x4010, .reg 0x4011, .reg 0x4012, .reg 0x4013, .eng, .loops] : List Part), p ∈ P) :
    Only P s0 (State.setInhibit s x wi on) := by
  unfold State.setInhibit
  repeat' (first | with_reducible exact Or.inr rfl | with_reducible exact sub_of hP (by decide) | intro _ | with_reducible exact hs
                 | with_reducible assumption | with_reducible exact Or.inl (hP _ (by decide))
                 | with_reducible exact may_block (hP _ (by decide)) | with_reducible apply only_putLp
                 | with_reducible apply only_putPortOut | with_reducible apply only_set | simp only [↓only_mk]
                 | with_reducible apply parts_of | (cases x <;> exact may_block (hP _ (by decide))))

theorem only_setRamp {P : List Part} {s0 : State} {s : State} {x : Act} {vel parked : Bool} {v : Nat} (hs : Only P s0 s) (hP : ∀ p ∈
    ([.eng, .loops] : List Part), p ∈ P) :
    Only P s0 (State.setRamp s x vel parked v) := by
  unfold State.setRamp
  repeat' (first | with_reducible exact sub_of hP (by decide) | intro _ | with_reducible exact hs | with_reducible assumption
                 | with_reducible exact may_block (hP _ (by decide)) | with_reducible apply only_armWrite)

theorem only_freeSeek {P : List Part} {s0 : State} {s : State} {x : Act} (hs : Only P s0 s) (hP : ∀ p ∈ ([.reg 0x4031, .eng, .books] :
    List Part), p ∈ P) :
    Only P s0 (State.freeSeek s x) := by
  unfold State.freeSeek
  repeat' (first | with_reducible exact Or.inr rfl | with_reducible exact sub_of hP (by decide) | intro _ | with_reducible exact hs
                 | with_reducible assumption | with_reducible exact Or.inl (hP _ (by decide))
                 | with_reducible exact may_block (hP _ (by decide)) | with_reducible apply only_ite
                 | with_reducible apply only_putBooks | simp only [↓only_mk] | with_reducible apply parts_of | split
                 | (dsimp only; split))

theorem only_approve {P : List Part} {s0 : State} {s : State} {x : Act} (hs : Only P s0 s) (hP : ∀ p ∈ ([.reg 0x4031, .eng, .loops,
    .books, .krx] : List Part), p ∈ P) :
    Only P s0 (State.approve s x).1 := by
  unfold State.approve
  repeat' (first | with_reducible exact Or.inr rfl | with_reducible exact sub_of hP (by decide) | intro _ | with_reducible exact hs
                 | with_reducible assumption | with_reducible exact Or.inl (hP _ (by decide))
                 | with_reducible exact may_block (hP _ (by decide)) | with_reducible apply only_ite
                 | with_reducible apply only_putBooks | with_reducible apply only_putLp | with_reducible apply only_fst ‹_ = (_, _)›
                 | simp only [↓only_mk] | with_reducible apply parts_of | split | (dsimp only; split))

theorem only_pair {P : List Part} {s0 : State} {s : State} {x y : Act} (hs : Only P s0 s) (hP : ∀ p ∈ ([.regs, .loops] : List Part), p
    ∈ P) :
    Only P s0 (State.pair s x y) := by
  unfold State.pair
  repeat' (first | with_reducible exact Or.inr rfl | with_reducible exact sub_of hP (by decide) | intro _ | with_reducible exact hs
                 | with_reducible assumption | with_reducible exact Or.inl (hP _ (by decide))
                 | with_reducible exact may_block (hP _ (by decide)) | with_reducible exact may_any (hP _ (by decide))
                 | with_reducible apply only_putLp | with_reducible apply only_set | simp only [↓only_mk]
                 | with_reducible apply parts_of)

theorem only_approvePair {P : List Part} {s0 : State} {s : State} {x : Act} (hs : Only P s0 s) (hP : ∀ p ∈ ([.reg 0x4031, .eng,
    .loops, .books, .krx] : List Part), p ∈ P) :
    Only P s0 (State.approvePair s x) := by
  unfold State.approvePair
  repeat' (first | with_reducible exact Or.inr rfl | with_reducible exact sub_of hP (by decide) | intro _ | with_reducible exact hs
                 | with_reducible assumption | with_reducible exact Or.inl (hP _ (by decide))
                 | with_reducible exact may_block (hP _ (by decide)) | with_reducible apply only_ite
                 | with_reducible apply only_approve | with_reducible apply only_fst ‹_ = (_, _)› | simp only [↓only_mk]
                 | with_reducible apply parts_of | split | (dsimp only; split))

theorem only_beginSeek {P : List Part} {s0 : State} {s : State} {x : Act} {m : Motion} (hs : Only P s0 s) (hP : ∀ p ∈ ([.reg 0x4031,
    .regs, .eng, .loops, .books, .krx] : List Part), p ∈ P) :
    Only P s0 (State.beginSeek s x m) := by
  unfold State.beginSeek
  repeat' (first | with_reducible exact Or.inr rfl | with_reducible exact sub_of hP (by decide) | intro _ | with_reducible exact hs
                 | with_reducible assumption | with_reducible exact Or.inl (hP _ (by decide))
                 | with_reducible exact may_block (hP _ (by decide)) | with_reducible exact may_any (hP _ (by decide))
                 | with_reducible apply only_ite | with_reducible apply only_approvePair | with_reducible apply only_pair
                 | with_reducible apply only_putLp | with_reducible apply only_setMode | with_reducible apply only_fst ‹_ = (_, _)›
                 | simp only [↓only_mk] | with_reducible apply parts_of | split | (dsimp only; split))

theorem only_beginSwitch {P : List Part} {s0 : State} {s : State} {x : Act} {head track : Nat} (hs : Only P s0 s) (hP : ∀ p ∈ ([.reg
    0x4010, .reg 0x4011, .reg 0x4012, .reg 0x4013, .regs, .out, .eng, .loops, .cons] : List Part), p ∈ P) :
    Only P s0 (State.beginSwitch s x head track) := by
  unfold State.beginSwitch
  repeat' (first | with_reducible exact sub_of hP (by decide) | intro _ | with_reducible exact hs | with_reducible assumption
                 | with_reducible exact may_block (hP _ (by decide)) | with_reducible exact may_any (hP _ (by decide))
                 | with_reducible apply only_setInhibit | with_reducible apply only_setMode | with_reducible apply only_setTarget)

theorem only_beginLoad {P : List Part} {s0 : State} {s : State} {x : Act} {m : Motion} {rCoil : Nat} (hs : Only P s0 s) (hP : ∀ p ∈
    ([.reg 0x4000, .reg 0x4010, .reg 0x4011, .reg 0x4012, .reg 0x4013, .reg 0x4021, .reg 0x4022, .reg 0x4023, .reg 0x4024, .reg
    0x4031, .reg 0x4063, .regs, .out, .eng, .loops, .books, .cons] : List Part), p ∈ P) :
    Only P s0 (State.beginLoad s x m rCoil) := by
  unfold State.beginLoad
  repeat' (first | with_reducible exact Or.inr rfl | with_reducible exact sub_of hP (by decide) | with_reducible exact mayAll_nil
                 | with_reducible apply mayAll_cons | with_reducible exact mayPairs_nil | with_reducible apply mayPairs_cons | intro _
                 | with_reducible exact hs | with_reducible assumption | with_reducible exact Or.inl (hP _ (by decide))
                 | with_reducible exact may_block (hP _ (by decide)) | with_reducible exact may_any (hP _ (by decide))
                 | with_reducible apply only_pdSwitchOn | with_reducible apply only_putBooks | with_reducible apply only_putLp
                 | with_reducible apply only_setAll | with_reducible apply only_setMode | with_reducible apply only_setRamp
                 | with_reducible apply only_setTarget | simp only [↓only_mk] | with_reducible apply parts_of
                 | (cases x <;> exact may_block (hP _ (by decide))))

theorem only_climbRamp {P : List Part} {s0 : State} {s : State} {x : Act} (hs : Only P s0 s) (hP : ∀ p ∈ ([.reg 0x4021, .reg 0x4022,
    .reg 0x4023, .reg 0x4024, .eng, .loops] : List Part), p ∈ P) :
    Only P s0 (State.climbRamp s x) := by
  unfold State.climbRamp
  repeat' (first | with_reducible exact sub_of hP (by decide) | intro _ | with_reducible exact hs | with_reducible assumption
                 | with_reducible exact may_block (hP _ (by decide)) | with_reducible apply only_set
                 | with_reducible apply only_setRamp | (cases x <;> exact may_block (hP _ (by decide))))

theorem only_beginUnload {P : List Part} {s0 : State} {s : State} {x : Act} {m : Option Motion} (hs : Only P s0 s) (hP : ∀ p ∈ ([.reg
    0x4010, .reg 0x4011, .reg 0x4012, .reg 0x4013, .reg 0x4021, .reg 0x4022, .reg 0x4023, .reg 0x4024, .reg 0x4031, .regs, .out, .eng,
    .loops, .books, .cons] : List Part), p ∈ P) :
    Only P s0 (State.beginUnload s x m) := by
  unfold State.beginUnload
  repeat' (first | with_reducible exact Or.inr rfl | with_reducible exact sub_of hP (by decide) | intro _ | with_reducible exact hs
                 | with_reducible assumption | with_reducible exact Or.inl (hP _ (by decide))
                 | with_reducible exact may_block (hP _ (by decide)) | with_reducible exact may_any (hP _ (by decide))
                 | with_reducible apply only_ite | with_reducible apply only_climbRamp | with_reducible apply only_freeSeek
                 | with_reducible apply only_putLp | with_reducible apply only_set | with_reducible apply only_setInhibit
                 | with_reducible apply only_setMode | with_reducible apply only_setRamp | with_reducible apply only_setTarget
                 | simp only [↓only_mk] | with_reducible apply parts_of | (cases x <;> exact may_block (hP _ (by decide))) | split
                 | (dsimp only; split))

theorem only_runNext {P : List Part} {s0 : State} {s : State} {x : Act} {rCoil : Nat} {n : Nat} (hs : Only P s0 s) (hP : ∀ p ∈ ([.reg
    0x4000, .reg 0x4010, .reg 0x4011, .reg 0x4012, .reg 0x4013, .reg 0x4020, .reg 0x4021, .reg 0x4022, .reg 0x4023, .reg 0x4024, .reg
    0x4031, .reg 0x4063, .reg 0x4071, .reg 0x4072, .regs, .desk, .ldg, .out, .eng, .loops, .books, .krx, .cons, .host, .pwr] : List
    Part), p ∈ P) :
    Only P s0 (State.runNext s x rCoil n) := by
  induction n generalizing s with
  | zero => exact hs
  | succ n ih =>
    unfold State.runNext
    repeat' (first | with_reducible exact Or.inr rfl | with_reducible exact sub_of hP (by decide) | intro _ | with_reducible exact hs
                   | with_reducible assumption | with_reducible apply ih | with_reducible exact Or.inl (hP _ (by decide))
                   | with_reducible exact may_block (hP _ (by decide)) | with_reducible exact may_any (hP _ (by decide))
                   | with_reducible apply only_ite | with_reducible apply only_beginLoad | with_reducible apply only_beginSeek
                   | with_reducible apply only_beginSwitch | with_reducible apply only_beginUnload | with_reducible apply only_putLp
                   | with_reducible apply only_refuse | with_reducible apply only_runNext | with_reducible apply only_fst ‹_ = (_, _)›
                   | simp only [↓only_mk] | with_reducible apply parts_of | split | (dsimp only; split))

theorem only_startSeek {P : List Part} {s0 : State} {s : State} {x : Act} (hs : Only P s0 s) (hP : ∀ p ∈ ([.reg 0x4010, .reg 0x4011,
    .reg 0x4012, .reg 0x4013, .reg 0x4021, .reg 0x4022, .reg 0x4023, .reg 0x4024, .regs, .out, .eng, .loops, .cons] : List Part), p ∈
    P) :
    Only P s0 (State.startSeek s x) := by
  unfold State.startSeek
  repeat' (first | with_reducible exact Or.inr rfl | with_reducible exact sub_of hP (by decide) | intro _ | with_reducible exact hs
                 | with_reducible assumption | with_reducible exact Or.inl (hP _ (by decide))
                 | with_reducible exact may_block (hP _ (by decide)) | with_reducible exact may_any (hP _ (by decide))
                 | with_reducible apply only_ite | with_reducible apply only_putLp | with_reducible apply only_set
                 | with_reducible apply only_setInhibit | with_reducible apply only_setMode | with_reducible apply only_setTarget
                 | with_reducible apply only_fst ‹_ = (_, _)› | simp only [↓only_mk] | with_reducible apply parts_of
                 | (cases x <;> exact may_block (hP _ (by decide))) | split | (dsimp only; split))

theorem only_loopTick {P : List Part} {s0 : State} {s : State} {x : Act} (hs : Only P s0 s) (hP : ∀ p ∈ ([.reg 0x4000, .reg 0x4010,
    .reg 0x4011, .reg 0x4012, .reg 0x4013, .reg 0x4020, .reg 0x4021, .reg 0x4022, .reg 0x4023, .reg 0x4024, .reg 0x4031, .reg 0x4063,
    .reg 0x4071, .reg 0x4072, .regs, .desk, .ldg, .out, .eng, .loops, .books, .krx, .cons, .host, .pwr] : List Part), p ∈ P) :
    Only P s0 (State.loopTick s x) := by
  unfold State.loopTick
  repeat' (first | with_reducible exact Or.inr rfl | with_reducible exact sub_of hP (by decide) | intro _ | with_reducible exact hs
                 | with_reducible assumption | with_reducible exact Or.inl (hP _ (by decide))
                 | with_reducible exact may_block (hP _ (by decide)) | with_reducible exact may_any (hP _ (by decide))
                 | with_reducible apply only_ite | with_reducible apply only_approvePair | with_reducible apply only_beginLoad
                 | with_reducible apply only_putLp | with_reducible apply only_refuse | with_reducible apply only_runNext
                 | with_reducible apply only_startSeek | with_reducible apply only_fst ‹_ = (_, _)› | simp only [↓only_mk]
                 | with_reducible apply parts_of | (cases x <;> exact may_block (hP _ (by decide))) | split | (dsimp only; split))

theorem only_takeMotion {P : List Part} {s0 : State} {s : State} {x : Act} {m : Motion} {rCoil : Nat} (hs : Only P s0 s) (hP : ∀ p ∈
    ([.reg 0x4000, .reg 0x4010, .reg 0x4011, .reg 0x4012, .reg 0x4013, .reg 0x4020, .reg 0x4021, .reg 0x4022, .reg 0x4023, .reg
    0x4024, .reg 0x4031, .reg 0x4063, .reg 0x4071, .reg 0x4072, .regs, .desk, .ldg, .out, .eng, .loops, .books, .krx, .cons, .host,
    .pwr] : List Part), p ∈ P) :
    Only P s0 (State.takeMotion s x m rCoil) := by
  unfold State.takeMotion
  repeat' (first | with_reducible exact Or.inr rfl | with_reducible exact sub_of hP (by decide) | intro _ | with_reducible exact hs
                 | with_reducible assumption | with_reducible exact Or.inl (hP _ (by decide))
                 | with_reducible exact may_block (hP _ (by decide)) | with_reducible exact may_any (hP _ (by decide))
                 | with_reducible apply only_ite | with_reducible apply only_discard | with_reducible apply only_putLp
                 | with_reducible apply only_refuse | with_reducible apply only_runNext | simp only [↓only_mk]
                 | with_reducible apply parts_of | split | (dsimp only; split))

theorem only_refuseWaiting {P : List Part} {s0 : State} {s : State} {x : Act} {reason : Nat} (hs : Only P s0 s) (hP : ∀ p ∈ ([.reg
    0x4000, .reg 0x4020, .reg 0x4071, .reg 0x4072, .regs, .desk, .ldg, .out, .loops, .host, .pwr] : List Part), p ∈ P) :
    Only P s0 (State.refuseWaiting s x reason) := by
  unfold State.refuseWaiting
  repeat' (first | with_reducible exact Or.inr rfl | with_reducible exact sub_of hP (by decide) | intro _ | with_reducible exact hs
                 | with_reducible assumption | with_reducible exact Or.inl (hP _ (by decide))
                 | with_reducible exact may_block (hP _ (by decide)) | with_reducible exact may_any (hP _ (by decide))
                 | with_reducible apply only_foldl | with_reducible apply only_putLp | with_reducible apply only_refuse
                 | simp only [↓only_mk] | with_reducible apply parts_of)

theorem only_refuseCur {P : List Part} {s0 : State} {s : State} {x : Act} {reason : Nat} (hs : Only P s0 s) (hP : ∀ p ∈ ([.reg 0x4000,
    .reg 0x4020, .reg 0x4031, .reg 0x4071, .reg 0x4072, .regs, .desk, .ldg, .out, .eng, .loops, .books, .host, .pwr] : List Part), p ∈
    P) :
    Only P s0 (State.refuseCur s x reason) := by
  unfold State.refuseCur
  repeat' (first | with_reducible exact Or.inr rfl | with_reducible exact sub_of hP (by decide) | intro _ | with_reducible exact hs
                 | with_reducible assumption | with_reducible exact Or.inl (hP _ (by decide))
                 | with_reducible exact may_block (hP _ (by decide)) | with_reducible exact may_any (hP _ (by decide))
                 | with_reducible apply only_freeSeek | with_reducible apply only_putLp | with_reducible apply only_refuse
                 | with_reducible apply only_fst ‹_ = (_, _)› | simp only [↓only_mk] | with_reducible apply parts_of | split
                 | (dsimp only; split))

theorem only_freePartner {P : List Part} {s0 : State} {s : State} {x : Act} (hs : Only P s0 s) (hP : ∀ p ∈ ([.loops] : List Part), p ∈
    P) :
    Only P s0 (State.freePartner s x) := by
  unfold State.freePartner
  repeat' (first | with_reducible exact Or.inr rfl | with_reducible exact sub_of hP (by decide) | intro _ | with_reducible exact hs
                 | with_reducible assumption | with_reducible exact Or.inl (hP _ (by decide))
                 | with_reducible exact may_block (hP _ (by decide)) | with_reducible apply only_putLp
                 | with_reducible apply only_fst ‹_ = (_, _)› | simp only [↓only_mk] | with_reducible apply parts_of | split
                 | (dsimp only; split))

theorem only_retire {P : List Part} {s0 : State} {s : State} {x : Act} {mask : Nat} (hs : Only P s0 s) (hP : ∀ p ∈ ([.reg 0x4000, .reg
    0x4010, .reg 0x4011, .reg 0x4012, .reg 0x4013, .reg 0x4020, .reg 0x4021, .reg 0x4022, .reg 0x4023, .reg 0x4024, .reg 0x4031, .reg
    0x4071, .reg 0x4072, .regs, .desk, .ldg, .out, .eng, .loops, .books, .cons, .host, .pwr] : List Part), p ∈ P) :
    Only P s0 (State.retire s x mask) := by
  unfold State.retire
  repeat' (first | with_reducible exact Or.inr rfl | with_reducible exact sub_of hP (by decide) | intro _ | with_reducible exact hs
                 | with_reducible assumption | with_reducible exact Or.inl (hP _ (by decide))
                 | with_reducible exact may_block (hP _ (by decide)) | with_reducible exact may_any (hP _ (by decide))
                 | with_reducible apply only_ite | with_reducible apply only_foldl | with_reducible apply only_areply
                 | with_reducible apply only_beginSwitch | with_reducible apply only_beginUnload
                 | with_reducible apply only_freePartner | with_reducible apply only_freeSeek | with_reducible apply only_putLp
                 | with_reducible apply only_set | with_reducible apply only_setBit | with_reducible apply only_setMode
                 | with_reducible apply only_fst ‹_ = (_, _)› | simp only [↓only_mk] | with_reducible apply parts_of
                 | (cases x <;> exact may_block (hP _ (by decide))) | split | (dsimp only; split))

theorem only_landed {P : List Part} {s0 : State} {s : State} {x : Act} (hs : Only P s0 s) (hP : ∀ p ∈ ([.reg 0x4010, .reg 0x4011, .reg
    0x4012, .reg 0x4013, .regs, .eng, .loops] : List Part), p ∈ P) :
    Only P s0 (State.landed s x) := by
  unfold State.landed
  repeat' (first | with_reducible exact Or.inr rfl | with_reducible exact sub_of hP (by decide) | intro _ | with_reducible exact hs
                 | with_reducible assumption | with_reducible exact Or.inl (hP _ (by decide))
                 | with_reducible exact may_block (hP _ (by decide)) | with_reducible exact may_any (hP _ (by decide))
                 | with_reducible apply only_putLp | with_reducible apply only_setInhibit | with_reducible apply only_setMode
                 | simp only [↓only_mk] | with_reducible apply parts_of)

theorem only_parkLoop {P : List Part} {s0 : State} {s : State} {x : Act} (hs : Only P s0 s) (hP : ∀ p ∈ ([.reg 0x4002, .reg 0x4010,
    .reg 0x4011, .reg 0x4012, .reg 0x4013, .reg 0x4021, .reg 0x4022, .reg 0x4023, .reg 0x4024, .regs, .eng, .loops, .tck] : List
    Part), p ∈ P) :
    Only P s0 (State.parkLoop s x) := by
  unfold State.parkLoop
  repeat' (first | with_reducible exact Or.inr rfl | with_reducible exact sub_of hP (by decide) | intro _ | with_reducible exact hs
                 | with_reducible assumption | with_reducible exact Or.inl (hP _ (by decide))
                 | with_reducible exact may_block (hP _ (by decide)) | with_reducible exact may_any (hP _ (by decide))
                 | with_reducible apply only_ite | with_reducible apply only_putLp | with_reducible apply only_putPortOut
                 | with_reducible apply only_set | with_reducible apply only_setInhibit | with_reducible apply only_setMode
                 | simp only [↓only_mk] | with_reducible apply parts_of | (cases x <;> exact may_block (hP _ (by decide))) | split
                 | (dsimp only; split))

theorem only_emUnload {P : List Part} {s0 : State} {s : State} {x : Act} {trigger : Nat} (hs : Only P s0 s) (hP : ∀ p ∈ ([.reg 0x4000,
    .reg 0x4010, .reg 0x4011, .reg 0x4012, .reg 0x4013, .reg 0x4020, .reg 0x4021, .reg 0x4022, .reg 0x4023, .reg 0x4024, .reg 0x4031,
    .reg 0x4071, .reg 0x4072, .regs, .desk, .ldg, .out, .eng, .loops, .books, .host, .pwr] : List Part), p ∈ P) :
    Only P s0 (State.emUnload s x trigger) := by
  unfold State.emUnload
  repeat' (first | with_reducible exact Or.inr rfl | with_reducible exact sub_of hP (by decide) | intro _ | with_reducible exact hs
                 | with_reducible assumption | with_reducible exact Or.inl (hP _ (by decide))
                 | with_reducible exact may_block (hP _ (by decide)) | with_reducible exact may_any (hP _ (by decide))
                 | with_reducible apply only_ite | with_reducible apply only_freePartner | with_reducible apply only_putLp
                 | with_reducible apply only_refuseCur | with_reducible apply only_refuseWaiting | with_reducible apply only_set
                 | with_reducible apply only_setInhibit | with_reducible apply only_setMode | with_reducible apply only_setRamp
                 | with_reducible apply only_stopAllInj | simp only [↓only_mk] | with_reducible apply parts_of
                 | (cases x <;> exact may_block (hP _ (by decide))) | split | (dsimp only; split))

theorem only_emUnloadAll {P : List Part} {s0 : State} {s : State} {trigger : Nat} (hs : Only P s0 s) (hP : ∀ p ∈ ([.reg 0x4000, .reg
    0x4010, .reg 0x4011, .reg 0x4012, .reg 0x4013, .reg 0x4020, .reg 0x4021, .reg 0x4022, .reg 0x4023, .reg 0x4024, .reg 0x4031, .reg
    0x4071, .reg 0x4072, .regs, .desk, .ldg, .out, .eng, .loops, .books, .host, .pwr] : List Part), p ∈ P) :
    Only P s0 (State.emUnloadAll s trigger) := by
  unfold State.emUnloadAll
  repeat' (first | with_reducible exact sub_of hP (by decide) | intro _ | with_reducible exact hs | with_reducible assumption
                 | with_reducible exact may_block (hP _ (by decide)) | with_reducible exact may_any (hP _ (by decide))
                 | with_reducible apply only_foldl | with_reducible apply only_emUnload | with_reducible apply only_stopAllInj)

theorem only_flushedOut {P : List Part} {s0 : State} {s : State} (hs : Only P s0 s) (hP : ∀ p ∈ ([.reg 0x4000, .reg 0x4001, .reg
    0x4002, .reg 0x4020, .reg 0x4028, .reg 0x4030, .reg 0x4063, .reg 0x4071, .reg 0x4072, .desk, .ldg, .out, .eng, .pmk, .tck, .mem,
    .cons, .host, .pwr] : List Part), p ∈ P) :
    Only P s0 (State.flushedOut s) := by
  unfold State.flushedOut
  refine only_setAll (only_pwr (only_pdAllOff hs (sub_of hP (by decide))) (hP _ (by decide))) ?_
  exact mayPairs_cons (may_block (hP _ (by decide))) (mayPairs_cons (may_block (hP _ (by decide))) mayPairs_nil)

theorem only_latchedAfterDeclaration {P : List Part} {s0 : State} {s : State} (hs : Only P s0 s) (hP : ∀ p ∈ ([.reg 0x4000, .reg
    0x4001, .reg 0x4002, .reg 0x4020, .reg 0x4028, .reg 0x4030, .reg 0x4063, .reg 0x4071, .reg 0x4072, .desk, .ldg, .out, .eng, .pmk,
    .tck, .mem, .cons, .host, .pwr] : List Part), p ∈ P) :
    Only P s0 (State.latchedAfterDeclaration s) := by
  unfold State.latchedAfterDeclaration
  repeat' (first | with_reducible exact Or.inr rfl | with_reducible exact sub_of hP (by decide) | intro _ | with_reducible exact hs
                 | with_reducible assumption | with_reducible exact Or.inl (hP _ (by decide))
                 | with_reducible exact may_block (hP _ (by decide)) | with_reducible apply only_ite
                 | with_reducible apply only_flushedOut | with_reducible apply only_pdAllOff | simp only [↓only_mk]
                 | with_reducible apply parts_of | split | (dsimp only; split))

theorem only_hwRetract {P : List Part} {s0 : State} {s : State} {x : Act} {wd oc : Bool} (hs : Only P s0 s) (hP : ∀ p ∈ ([.reg 0x4000,
    .reg 0x4020, .reg 0x4021, .reg 0x4022, .reg 0x4023, .reg 0x4024, .reg 0x4071, .reg 0x4072, .regs, .desk, .ldg, .out, .loops,
    .host, .pwr] : List Part), p ∈ P) :
    Only P s0 (State.hwRetract s x wd oc) := by
  unfold State.hwRetract
  repeat' (first | with_reducible exact Or.inr rfl | with_reducible exact sub_of hP (by decide) | intro _ | with_reducible exact hs
                 | with_reducible assumption | with_reducible exact Or.inl (hP _ (by decide))
                 | with_reducible exact may_block (hP _ (by decide)) | with_reducible exact may_any (hP _ (by decide))
                 | with_reducible apply only_ite | with_reducible apply only_inc | with_reducible apply only_putLp
                 | with_reducible apply only_refuseWaiting | with_reducible apply only_set | simp only [↓only_mk]
                 | with_reducible apply parts_of | (cases x <;> exact may_block (hP _ (by decide))) | split | (dsimp only; split))

theorem only_aspTick {P : List Part} {s0 : State} {s : State} {x : Act} (hs : Only P s0 s) (hP : ∀ p ∈ ([.reg 0x4021, .reg 0x4022,
    .reg 0x4023, .reg 0x4024, .out, .loops] : List Part), p ∈ P) :
    Only P s0 (State.aspTick s x) := by
  unfold State.aspTick
  repeat' (first | with_reducible exact Or.inr rfl | with_reducible exact sub_of hP (by decide) | intro _ | with_reducible exact hs
                 | with_reducible assumption | with_reducible exact Or.inl (hP _ (by decide))
                 | with_reducible exact may_block (hP _ (by decide)) | with_reducible apply only_ite | with_reducible apply only_emit
                 | with_reducible apply only_putLp | with_reducible apply only_set | simp only [↓only_mk]
                 | with_reducible apply parts_of | (cases x <;> exact may_block (hP _ (by decide))) | split | (dsimp only; split))

theorem only_putMotor {P : List Part} {s0 : State} {s : State} {m : Motor} (hs : Only P s0 s) (hP : ∀ p ∈ ([.motor] : List Part), p ∈
    P) :
    Only P s0 (State.putMotor s m) := by
  unfold State.putMotor
  repeat' (first | with_reducible exact Or.inr rfl | with_reducible exact sub_of hP (by decide) | intro _ | with_reducible exact hs
                 | with_reducible assumption | with_reducible exact Or.inl (hP _ (by decide))
                 | with_reducible exact may_block (hP _ (by decide)) | simp only [↓only_mk] | with_reducible apply parts_of)

theorem only_watchComparators {P : List Part} {s0 : State} {s : State} (hs : Only P s0 s) (hP : ∀ p ∈ ([.motor] : List Part), p ∈ P) :
    Only P s0 (State.watchComparators s) := by
  unfold State.watchComparators
  repeat' (first | with_reducible exact Or.inr rfl | with_reducible exact sub_of hP (by decide) | intro _ | with_reducible exact hs
                 | with_reducible assumption | with_reducible exact Or.inl (hP _ (by decide))
                 | with_reducible exact may_block (hP _ (by decide)) | with_reducible apply only_ite
                 | with_reducible apply only_putMotor | simp only [↓only_mk] | with_reducible apply parts_of | split
                 | (dsimp only; split))

theorem only_observe {P : List Part} {s0 : State} {s : State} {handover : Nat} (hs : Only P s0 s) (hP : ∀ p ∈ ([.motor] : List Part),
    p ∈ P) :
    Only P s0 (State.observe s handover) := by
  unfold State.observe
  repeat' (first | with_reducible exact Or.inr rfl | with_reducible exact sub_of hP (by decide) | intro _ | with_reducible exact hs
                 | with_reducible assumption | with_reducible exact Or.inl (hP _ (by decide))
                 | with_reducible exact may_block (hP _ (by decide)) | with_reducible apply only_ite
                 | with_reducible apply only_putMotor | simp only [↓only_mk] | with_reducible apply parts_of | split
                 | (dsimp only; split))

theorem only_compareAngles {P : List Part} {s0 : State} {s : State} (hs : Only P s0 s) (hP : ∀ p ∈ ([.reg 0x4028, .motor] : List
    Part), p ∈ P) :
    Only P s0 (State.compareAngles s) := by
  unfold State.compareAngles
  repeat' (first | with_reducible exact Or.inr rfl | with_reducible exact sub_of hP (by decide) | intro _ | with_reducible exact hs
                 | with_reducible assumption | with_reducible exact Or.inl (hP _ (by decide))
                 | with_reducible exact may_block (hP _ (by decide)) | with_reducible apply only_ite
                 | with_reducible apply only_putMotor | with_reducible apply only_set | with_reducible apply only_fst ‹_ = (_, _)›
                 | simp only [↓only_mk] | with_reducible apply parts_of | split | (dsimp only; split))

theorem only_drive {P : List Part} {s0 : State} {s : State} (hs : Only P s0 s) (hP : ∀ p ∈ ([.reg 0x4020, .reg 0x4028, .eng, .spn,
    .motor] : List Part), p ∈ P) :
    Only P s0 (State.drive s) := by
  unfold State.drive
  repeat' (first | with_reducible exact Or.inr rfl | with_reducible exact sub_of hP (by decide) | with_reducible exact mayAll_nil
                 | with_reducible apply mayAll_cons | with_reducible exact mayPairs_nil | with_reducible apply mayPairs_cons | intro _
                 | with_reducible exact hs | with_reducible assumption | with_reducible exact Or.inl (hP _ (by decide))
                 | with_reducible exact may_block (hP _ (by decide)) | with_reducible apply only_ite | with_reducible apply only_foldl
                 | with_reducible apply only_putMotor | with_reducible apply only_setAll | with_reducible apply only_spnWrite
                 | simp only [↓only_mk] | with_reducible apply parts_of | split | (dsimp only; split))

theorem only_setSp {P : List Part} {s0 : State} {s : State} {n : Nat} (hs : Only P s0 s) (hP : ∀ p ∈ ([.reg 0x4020, .reg 0x4028,
    .motor] : List Part), p ∈ P) :
    Only P s0 (State.setSp s n) := by
  unfold State.setSp
  repeat' (first | with_reducible exact Or.inr rfl | with_reducible exact sub_of hP (by decide) | intro _ | with_reducible exact hs
                 | with_reducible assumption | with_reducible exact Or.inl (hP _ (by decide))
                 | with_reducible exact may_block (hP _ (by decide)) | with_reducible apply only_ite
                 | with_reducible apply only_putMotor | with_reducible apply only_set | simp only [↓only_mk]
                 | with_reducible apply parts_of | split | (dsimp only; split))

theorem only_putSpn {P : List Part} {s0 : State} {s : State} {p : Spn} (hs : Only P s0 s) (hP : ∀ p ∈ ([.spn] : List Part), p ∈ P) :
    Only P s0 (State.putSpn s p) := by
  unfold State.putSpn
  repeat' (first | with_reducible exact Or.inr rfl | with_reducible exact sub_of hP (by decide) | intro _ | with_reducible exact hs
                 | with_reducible assumption | with_reducible exact Or.inl (hP _ (by decide))
                 | with_reducible exact may_block (hP _ (by decide)) | simp only [↓only_mk] | with_reducible apply parts_of)

theorem only_unloadCheck {P : List Part} {s0 : State} {s : State} (hs : Only P s0 s) (hP : ∀ p ∈ ([.reg 0x4000, .reg 0x4010, .reg
    0x4011, .reg 0x4012, .reg 0x4013, .reg 0x4020, .reg 0x4021, .reg 0x4022, .reg 0x4023, .reg 0x4024, .reg 0x4031, .reg 0x4071, .reg
    0x4072, .regs, .desk, .ldg, .out, .eng, .loops, .books, .host, .pwr] : List Part), p ∈ P) :
    Only P s0 (State.unloadCheck s) := by
  unfold State.unloadCheck
  repeat' (first | with_reducible exact sub_of hP (by decide) | intro _ | with_reducible exact hs | with_reducible assumption
                 | with_reducible exact may_block (hP _ (by decide)) | with_reducible exact may_any (hP _ (by decide))
                 | with_reducible apply only_ite | with_reducible apply only_emUnloadAll | split | (dsimp only; split))

theorem only_coast {P : List Part} {s0 : State} {s : State} (hs : Only P s0 s) (hP : ∀ p ∈ ([.reg 0x4020, .reg 0x4028, .eng, .spn,
    .motor] : List Part), p ∈ P) :
    Only P s0 (State.coast s) := by
  unfold State.coast
  repeat' (first | with_reducible exact Or.inr rfl | with_reducible exact sub_of hP (by decide) | intro _ | with_reducible exact hs
                 | with_reducible assumption | with_reducible exact Or.inl (hP _ (by decide))
                 | with_reducible exact may_block (hP _ (by decide)) | with_reducible apply only_putSpn
                 | with_reducible apply only_set | with_reducible apply only_setInv | with_reducible apply only_setSp
                 | simp only [↓only_mk] | with_reducible apply parts_of)

theorem only_notAtSpeed {P : List Part} {s0 : State} {s : State} (hs : Only P s0 s) (hP : ∀ p ∈ ([.reg 0x4028, .pmk] : List Part), p ∈
    P) :
    Only P s0 (State.notAtSpeed s) := by
  unfold State.notAtSpeed
  repeat' (first | with_reducible exact Or.inr rfl | with_reducible exact sub_of hP (by decide) | intro _ | with_reducible exact hs
                 | with_reducible assumption | with_reducible exact Or.inl (hP _ (by decide))
                 | with_reducible exact may_block (hP _ (by decide)) | with_reducible apply only_ite | with_reducible apply only_set
                 | simp only [↓only_mk] | with_reducible apply parts_of | split | (dsimp only; split))

theorem only_sense {P : List Part} {s0 : State} {s : State} (hs : Only P s0 s) (hP : ∀ p ∈ ([.reg 0x4020, .reg 0x4028, .eng, .pmk,
    .spn, .motor] : List Part), p ∈ P) :
    Only P s0 (State.sense s) := by
  unfold State.sense
  repeat' (first | with_reducible exact Or.inr rfl | with_reducible exact sub_of hP (by decide) | intro _ | with_reducible exact hs
                 | with_reducible assumption | with_reducible exact Or.inl (hP _ (by decide))
                 | with_reducible exact may_block (hP _ (by decide)) | with_reducible apply only_coast
                 | with_reducible apply only_notAtSpeed | with_reducible apply only_putSpn | with_reducible apply only_setSp
                 | simp only [↓only_mk] | with_reducible apply parts_of)

theorem only_newStart {P : List Part} {s0 : State} {s : State} {tag : Nat} (hs : Only P s0 s) (hP : ∀ p ∈ ([.reg 0x4020, .reg 0x4028,
    .eng, .pmk, .spn, .motor] : List Part), p ∈ P) :
    Only P s0 (State.newStart s tag) := by
  unfold State.newStart
  repeat' (first | with_reducible exact Or.inr rfl | with_reducible exact sub_of hP (by decide) | intro _ | with_reducible exact hs
                 | with_reducible assumption | with_reducible exact Or.inl (hP _ (by decide))
                 | with_reducible exact may_block (hP _ (by decide)) | with_reducible apply only_putSpn
                 | with_reducible apply only_sense | simp only [↓only_mk] | with_reducible apply parts_of)

theorem only_commitSpinup {P : List Part} {s0 : State} {s : State} (hs : Only P s0 s) (hP : ∀ p ∈ ([.reg 0x4031, .eng, .books] : List
    Part), p ∈ P) :
    Only P s0 (State.commitSpinup s).1 := by
  unfold State.commitSpinup
  repeat' (first | with_reducible exact Or.inr rfl | with_reducible exact sub_of hP (by decide) | intro _ | with_reducible exact hs
                 | with_reducible assumption | with_reducible exact Or.inl (hP _ (by decide))
                 | with_reducible exact may_block (hP _ (by decide)) | with_reducible apply only_ite
                 | with_reducible apply only_putBooks | simp only [↓only_mk] | with_reducible apply parts_of | split
                 | (dsimp only; split))

theorem only_spRefuse {P : List Part} {s0 : State} {s : State} {tag reason : Nat} (hs : Only P s0 s) (hP : ∀ p ∈ ([.reg 0x4000, .reg
    0x4020, .reg 0x4071, .reg 0x4072, .regs, .desk, .ldg, .out, .host, .pwr] : List Part), p ∈ P) :
    Only P s0 (State.spRefuse s tag reason) := by
  unfold State.spRefuse
  repeat' (first | with_reducible exact Or.inr rfl | with_reducible exact sub_of hP (by decide) | intro _ | with_reducible exact hs
                 | with_reducible assumption | with_reducible exact Or.inl (hP _ (by decide))
                 | with_reducible exact may_block (hP _ (by decide)) | with_reducible exact may_any (hP _ (by decide))
                 | with_reducible apply only_reply | simp only [↓only_mk] | with_reducible apply parts_of)

theorem only_spFault {P : List Part} {s0 : State} {s : State} {tag code : Nat} (hs : Only P s0 s) (hP : ∀ p ∈ ([.reg 0x4000, .reg
    0x4020, .reg 0x4071, .reg 0x4072, .regs, .desk, .ldg, .out, .host, .pwr] : List Part), p ∈ P) :
    Only P s0 (State.spFault s tag code) := by
  unfold State.spFault
  repeat' (first | with_reducible exact sub_of hP (by decide) | intro _ | with_reducible exact hs | with_reducible assumption
                 | with_reducible exact may_block (hP _ (by decide)) | with_reducible exact may_any (hP _ (by decide))
                 | with_reducible apply only_reply)

theorem only_resumeRun {P : List Part} {s0 : State} {s : State} {tag : Nat} (hs : Only P s0 s) (hP : ∀ p ∈ ([.reg 0x4020, .reg 0x4028,
    .eng, .spn, .motor] : List Part), p ∈ P) :
    Only P s0 (State.resumeRun s tag) := by
  unfold State.resumeRun
  repeat' (first | with_reducible exact Or.inr rfl | with_reducible exact sub_of hP (by decide) | intro _ | with_reducible exact hs
                 | with_reducible assumption | with_reducible exact Or.inl (hP _ (by decide))
                 | with_reducible exact may_block (hP _ (by decide)) | with_reducible apply only_ite
                 | with_reducible apply only_putSpn | with_reducible apply only_setInv | with_reducible apply only_setSp
                 | simp only [↓only_mk] | with_reducible apply parts_of | split | (dsimp only; split))

theorem only_start {P : List Part} {s0 : State} {s : State} {tag : Nat} (hs : Only P s0 s) (hP : ∀ p ∈ ([.reg 0x4000, .reg 0x4020,
    .reg 0x4028, .reg 0x4071, .reg 0x4072, .regs, .desk, .ldg, .out, .eng, .pmk, .spn, .motor, .host, .pwr] : List Part), p ∈ P) :
    Only P s0 (State.start s tag) := by
  unfold State.start
  repeat' (first | with_reducible exact Or.inr rfl | with_reducible exact sub_of hP (by decide) | intro _ | with_reducible exact hs
                 | with_reducible assumption | with_reducible exact Or.inl (hP _ (by decide))
                 | with_reducible exact may_block (hP _ (by decide)) | with_reducible exact may_any (hP _ (by decide))
                 | with_reducible apply only_ite | with_reducible apply only_newStart | with_reducible apply only_putSpn
                 | with_reducible apply only_reply | with_reducible apply only_resumeRun | with_reducible apply only_spRefuse
                 | simp only [↓only_mk] | with_reducible apply parts_of | split | (dsimp only; split))

theorem only_brakeBy {P : List Part} {s0 : State} {s : State} {method : Nat} (hs : Only P s0 s) (hP : ∀ p ∈ ([.reg 0x4020, .reg
    0x4028, .eng, .spn, .motor] : List Part), p ∈ P) :
    Only P s0 (State.brakeBy s method) := by
  unfold State.brakeBy
  repeat' (first | with_reducible exact Or.inr rfl | with_reducible exact sub_of hP (by decide) | intro _ | with_reducible exact hs
                 | with_reducible assumption | with_reducible exact Or.inl (hP _ (by decide))
                 | with_reducible exact may_block (hP _ (by decide)) | with_reducible apply only_ite
                 | with_reducible apply only_putSpn | with_reducible apply only_setInv | with_reducible apply only_setSp
                 | simp only [↓only_mk] | with_reducible apply parts_of | split | (dsimp only; split))

theorem only_stop {P : List Part} {s0 : State} {s : State} {tag method : Nat} (hs : Only P s0 s) (hP : ∀ p ∈ ([.reg 0x4000, .reg
    0x4020, .reg 0x4028, .reg 0x4071, .reg 0x4072, .regs, .desk, .ldg, .out, .eng, .pmk, .spn, .motor, .host, .pwr] : List Part), p ∈
    P) :
    Only P s0 (State.stop s tag method) := by
  unfold State.stop
  repeat' (first | with_reducible exact Or.inr rfl | with_reducible exact sub_of hP (by decide) | intro _ | with_reducible exact hs
                 | with_reducible assumption | with_reducible exact Or.inl (hP _ (by decide))
                 | with_reducible exact may_block (hP _ (by decide)) | with_reducible exact may_any (hP _ (by decide))
                 | with_reducible apply only_ite | with_reducible apply only_brakeBy | with_reducible apply only_coast
                 | with_reducible apply only_notAtSpeed | with_reducible apply only_putSpn | with_reducible apply only_reply
                 | with_reducible apply only_spRefuse | simp only [↓only_mk] | with_reducible apply parts_of | split
                 | (dsimp only; split))

theorem only_align {P : List Part} {s0 : State} {s : State} {second : Bool} (hs : Only P s0 s) (hP : ∀ p ∈ ([.reg 0x4020, .reg 0x4028,
    .eng, .spn, .motor] : List Part), p ∈ P) :
    Only P s0 (State.align s second) := by
  unfold State.align
  repeat' (first | with_reducible exact Or.inr rfl | with_reducible exact sub_of hP (by decide) | intro _ | with_reducible exact hs
                 | with_reducible assumption | with_reducible exact Or.inl (hP _ (by decide))
                 | with_reducible exact may_block (hP _ (by decide)) | with_reducible apply only_putMotor
                 | with_reducible apply only_putSpn | with_reducible apply only_set | with_reducible apply only_setInv
                 | with_reducible apply only_setSp | simp only [↓only_mk] | with_reducible apply parts_of)

theorem only_takeOver {P : List Part} {s0 : State} {s : State} {v : Nat} (hs : Only P s0 s) (hP : ∀ p ∈ ([.reg 0x4000, .reg 0x4020,
    .reg 0x4028, .reg 0x4071, .reg 0x4072, .regs, .desk, .ldg, .out, .eng, .spn, .motor, .host, .pwr] : List Part), p ∈ P) :
    Only P s0 (State.takeOver s v) := by
  unfold State.takeOver
  repeat' (first | with_reducible exact Or.inr rfl | with_reducible exact sub_of hP (by decide) | with_reducible exact mayAll_nil
                 | with_reducible apply mayAll_cons | with_reducible exact mayPairs_nil | with_reducible apply mayPairs_cons | intro _
                 | with_reducible exact hs | with_reducible assumption | with_reducible exact Or.inl (hP _ (by decide))
                 | with_reducible exact may_block (hP _ (by decide)) | with_reducible exact may_any (hP _ (by decide))
                 | with_reducible apply only_ite | with_reducible apply only_putMotor | with_reducible apply only_putSpn
                 | with_reducible apply only_reply | with_reducible apply only_set | with_reducible apply only_setAll
                 | with_reducible apply only_setInv | with_reducible apply only_setSp | simp only [↓only_mk]
                 | with_reducible apply parts_of | split | (dsimp only; split))

theorem only_catchFail {P : List Part} {s0 : State} {s : State} (hs : Only P s0 s) (hP : ∀ p ∈ ([.reg 0x4000, .reg 0x4010, .reg
    0x4011, .reg 0x4012, .reg 0x4013, .reg 0x4020, .reg 0x4021, .reg 0x4022, .reg 0x4023, .reg 0x4024, .reg 0x4028, .reg 0x4031, .reg
    0x4071, .reg 0x4072, .regs, .desk, .ldg, .out, .eng, .loops, .pmk, .spn, .motor, .books, .host, .pwr] : List Part), p ∈ P) :
    Only P s0 (State.catchFail s) := by
  unfold State.catchFail
  repeat' (first | with_reducible exact Or.inr rfl | with_reducible exact sub_of hP (by decide) | intro _ | with_reducible exact hs
                 | with_reducible assumption | with_reducible exact Or.inl (hP _ (by decide))
                 | with_reducible exact may_block (hP _ (by decide)) | with_reducible exact may_any (hP _ (by decide))
                 | with_reducible apply only_ite | with_reducible apply only_coast | with_reducible apply only_putSpn
                 | with_reducible apply only_reply | with_reducible apply only_sense | with_reducible apply only_set
                 | with_reducible apply only_setSp | with_reducible apply only_spFault | with_reducible apply only_unloadCheck
                 | with_reducible apply only_fst ‹_ = (_, _)› | simp only [↓only_mk] | with_reducible apply parts_of | split
                 | (dsimp only; split))

theorem only_commitRun {P : List Part} {s0 : State} {s : State} (hs : Only P s0 s) (hP : ∀ p ∈ ([.reg 0x4031, .eng, .books] : List
    Part), p ∈ P) :
    Only P s0 (State.commitRun s) := by
  unfold State.commitRun
  repeat' (first | with_reducible exact Or.inr rfl | with_reducible exact sub_of hP (by decide) | intro _ | with_reducible exact hs
                 | with_reducible assumption | with_reducible exact Or.inl (hP _ (by decide))
                 | with_reducible exact may_block (hP _ (by decide)) | with_reducible apply only_ite
                 | with_reducible apply only_putBooks | simp only [↓only_mk] | with_reducible apply parts_of | split
                 | (dsimp only; split))

theorem only_commutationReturn {P : List Part} {s0 : State} {s : State} (hs : Only P s0 s) (hP : ∀ p ∈ ([.reg 0x4028, .spn, .motor] :
    List Part), p ∈ P) :
    Only P s0 (State.commutationReturn s) := by
  unfold State.commutationReturn
  repeat' (first | with_reducible exact Or.inr rfl | with_reducible exact sub_of hP (by decide) | intro _ | with_reducible exact hs
                 | with_reducible assumption | with_reducible exact Or.inl (hP _ (by decide))
                 | with_reducible exact may_block (hP _ (by decide)) | with_reducible apply only_ite
                 | with_reducible apply only_putMotor | with_reducible apply only_putSpn | with_reducible apply only_set
                 | simp only [↓only_mk] | with_reducible apply parts_of | split | (dsimp only; split))

theorem only_observerLost {P : List Part} {s0 : State} {s : State} (hs : Only P s0 s) (hP : ∀ p ∈ ([.reg 0x4000, .reg 0x4010, .reg
    0x4011, .reg 0x4012, .reg 0x4013, .reg 0x4020, .reg 0x4021, .reg 0x4022, .reg 0x4023, .reg 0x4024, .reg 0x4028, .reg 0x4031, .reg
    0x4071, .reg 0x4072, .regs, .desk, .ldg, .out, .eng, .loops, .spn, .motor, .books, .host, .pwr] : List Part), p ∈ P) :
    Only P s0 (State.observerLost s) := by
  unfold State.observerLost
  repeat' (first | with_reducible exact Or.inr rfl | with_reducible exact sub_of hP (by decide) | intro _ | with_reducible exact hs
                 | with_reducible assumption | with_reducible exact Or.inl (hP _ (by decide))
                 | with_reducible exact may_block (hP _ (by decide)) | with_reducible exact may_any (hP _ (by decide))
                 | with_reducible apply only_ite | with_reducible apply only_coast | with_reducible apply only_inc
                 | with_reducible apply only_putMotor | with_reducible apply only_putSpn | with_reducible apply only_reply
                 | with_reducible apply only_set | with_reducible apply only_unloadCheck | simp only [↓only_mk]
                 | with_reducible apply parts_of | split | (dsimp only; split))

theorem only_followX32 {P : List Part} {s0 : State} {s : State} (hs : Only P s0 s) (hP : ∀ p ∈ ([.reg 0x4020, .reg 0x4028, .eng, .pmk,
    .spn, .motor] : List Part), p ∈ P) :
    Only P s0 (State.followX32 s) := by
  unfold State.followX32
  repeat' (first | with_reducible exact Or.inr rfl | with_reducible exact sub_of hP (by decide) | intro _ | with_reducible exact hs
                 | with_reducible assumption | with_reducible exact Or.inl (hP _ (by decide))
                 | with_reducible exact may_block (hP _ (by decide)) | with_reducible apply only_ite
                 | with_reducible apply only_brakeBy | with_reducible apply only_coast | with_reducible apply only_notAtSpeed
                 | with_reducible apply only_putSpn | with_reducible apply only_setInv | with_reducible apply only_setSp
                 | simp only [↓only_mk] | with_reducible apply parts_of | split | (dsimp only; split))

theorem only_noteHeld {P : List Part} {s0 : State} {s : State} (hs : Only P s0 s) (hP : ∀ p ∈ ([.motor] : List Part), p ∈ P) :
    Only P s0 (State.noteHeld s) := by
  unfold State.noteHeld
  repeat' (first | with_reducible exact Or.inr rfl | with_reducible exact sub_of hP (by decide) | intro _ | with_reducible exact hs
                 | with_reducible assumption | with_reducible exact Or.inl (hP _ (by decide))
                 | with_reducible exact may_block (hP _ (by decide)) | with_reducible apply only_ite
                 | with_reducible apply only_putMotor | simp only [↓only_mk] | with_reducible apply parts_of | split
                 | (dsimp only; split))

theorem only_spindleTick {P : List Part} {s0 : State} {s : State} {brought : Nat} (hs : Only P s0 s) (hP : ∀ p ∈ ([.reg 0x4000, .reg
    0x4010, .reg 0x4011, .reg 0x4012, .reg 0x4013, .reg 0x4020, .reg 0x4021, .reg 0x4022, .reg 0x4023, .reg 0x4024, .reg 0x4028, .reg
    0x4031, .reg 0x4071, .reg 0x4072, .regs, .desk, .ldg, .out, .eng, .loops, .pmk, .spn, .motor, .books, .host, .pwr] : List Part), p
    ∈ P) :
    Only P s0 (State.spindleTick s brought) := by
  unfold State.spindleTick
  repeat' (first | with_reducible exact Or.inr rfl | with_reducible exact sub_of hP (by decide) | intro _ | with_reducible exact hs
                 | with_reducible assumption | with_reducible exact Or.inl (hP _ (by decide))
                 | with_reducible exact may_block (hP _ (by decide)) | with_reducible exact may_any (hP _ (by decide))
                 | with_reducible apply only_ite | with_reducible apply only_commutationReturn
                 | with_reducible apply only_compareAngles | with_reducible apply only_drive | with_reducible apply only_followX32
                 | with_reducible apply only_notAtSpeed | with_reducible apply only_noteHeld | with_reducible apply only_observe
                 | with_reducible apply only_putSpn | with_reducible apply only_set | with_reducible apply only_setInv
                 | with_reducible apply only_unloadCheck | with_reducible apply only_watchComparators | simp only [↓only_mk]
                 | with_reducible apply parts_of | split | (dsimp only; split))

theorem only_speedPosted {P : List Part} {s0 : State} {s : State} (hs : Only P s0 s) (hP : ∀ p ∈ ([.reg 0x4028, .pmk, .spn] : List
    Part), p ∈ P) :
    Only P s0 (State.speedPosted s) := by
  unfold State.speedPosted
  repeat' (first | with_reducible exact Or.inr rfl | with_reducible exact sub_of hP (by decide) | intro _ | with_reducible exact hs
                 | with_reducible assumption | with_reducible exact Or.inl (hP _ (by decide))
                 | with_reducible exact may_block (hP _ (by decide)) | with_reducible apply only_ite
                 | with_reducible apply only_notAtSpeed | with_reducible apply only_putSpn | simp only [↓only_mk]
                 | with_reducible apply parts_of | split | (dsimp only; split))

theorem only_zoneFail {P : List Part} {s0 : State} {s : State} {x : Act} {k : Nat} (hs : Only P s0 s) (hP : ∀ p ∈ ([.reg 0x4010, .reg
    0x4011, .reg 0x4012, .reg 0x4013, .regs] : List Part), p ∈ P) :
    Only P s0 (State.zoneFail s x k) := by
  unfold State.zoneFail
  repeat' (first | with_reducible exact sub_of hP (by decide) | intro _ | with_reducible exact hs | with_reducible assumption
                 | with_reducible exact may_block (hP _ (by decide)) | with_reducible exact may_any (hP _ (by decide))
                 | with_reducible apply only_set | (cases x <;> exact may_block (hP _ (by decide))))

theorem only_zoneRecheck {P : List Part} {s0 : State} {s : State} (hs : Only P s0 s) (hP : ∀ p ∈ ([.reg 0x4010, .reg 0x4011, .reg
    0x4012, .reg 0x4013, .regs] : List Part), p ∈ P) :
    Only P s0 (State.zoneRecheck s) := by
  unfold State.zoneRecheck
  repeat' (first | with_reducible exact sub_of hP (by decide) | intro _ | with_reducible exact hs | with_reducible assumption
                 | with_reducible exact may_block (hP _ (by decide)) | with_reducible exact may_any (hP _ (by decide))
                 | with_reducible apply only_ite | with_reducible apply only_foldl | with_reducible apply only_zoneFail | split
                 | (dsimp only; split))

theorem only_noEnvelope {P : List Part} {s0 : State} {s : State} (hs : Only P s0 s) (hP : ∀ p ∈ ([.reg 0x4000, .env] : List Part), p ∈
    P) :
    Only P s0 (State.noEnvelope s) := by
  unfold State.noEnvelope
  repeat' (first | with_reducible exact Or.inr rfl | with_reducible exact sub_of hP (by decide) | with_reducible exact mayAll_nil
                 | with_reducible apply mayAll_cons | with_reducible exact mayPairs_nil | with_reducible apply mayPairs_cons | intro _
                 | with_reducible exact hs | with_reducible assumption | with_reducible exact Or.inl (hP _ (by decide))
                 | with_reducible exact may_block (hP _ (by decide)) | with_reducible apply only_setAll | simp only [↓only_mk]
                 | with_reducible apply parts_of)

theorem only_rejectSet {P : List Part} {s0 : State} {s : State} {rule : Nat} (hs : Only P s0 s) (hP : ∀ p ∈ ([.reg 0x4000, .env] :
    List Part), p ∈ P) :
    Only P s0 (State.rejectSet s rule) := by
  unfold State.rejectSet
  repeat' (first | with_reducible exact Or.inr rfl | with_reducible exact sub_of hP (by decide) | with_reducible exact mayAll_nil
                 | with_reducible apply mayAll_cons | with_reducible exact mayPairs_nil | with_reducible apply mayPairs_cons | intro _
                 | with_reducible exact hs | with_reducible assumption | with_reducible exact Or.inl (hP _ (by decide))
                 | with_reducible exact may_block (hP _ (by decide)) | with_reducible apply only_setAll | simp only [↓only_mk]
                 | with_reducible apply parts_of)

theorem only_applySet {P : List Part} {s0 : State} {s : State} {ws : List (Nat × Nat)} (hs : Only P s0 s) (hP : ∀ p ∈ ([.reg 0x4000,
    .reg 0x4002, .reg 0x4010, .reg 0x4011, .reg 0x4012, .reg 0x4013, .reg 0x4028, .regs, .eng, .pmk, .spn] : List Part), p ∈ P) :
    Only P s0 (State.applySet s ws) := by
  unfold State.applySet
  repeat' (first | with_reducible exact Or.inr rfl | with_reducible exact sub_of hP (by decide) | intro _ | with_reducible exact hs
                 | with_reducible assumption | with_reducible exact Or.inl (hP _ (by decide))
                 | with_reducible exact may_block (hP _ (by decide)) | with_reducible exact may_any (hP _ (by decide))
                 | with_reducible apply only_ite | with_reducible apply only_foldl | with_reducible apply only_putWord
                 | with_reducible apply only_set | with_reducible apply only_speedPosted | with_reducible apply only_zoneRecheck
                 | simp only [↓only_mk] | with_reducible apply parts_of | split | (dsimp only; split))

theorem only_sealTick {P : List Part} {s0 : State} {s : State} (hs : Only P s0 s) (hP : ∀ p ∈ ([.reg 0x4000, .reg 0x4002, .reg 0x4010,
    .reg 0x4011, .reg 0x4012, .reg 0x4013, .reg 0x4028, .regs, .env, .eng, .pmk, .spn] : List Part), p ∈ P) :
    Only P s0 (State.sealTick s) := by
  unfold State.sealTick
  repeat' (first | with_reducible exact Or.inr rfl | with_reducible exact sub_of hP (by decide) | intro _ | with_reducible exact hs
                 | with_reducible assumption | with_reducible exact Or.inl (hP _ (by decide))
                 | with_reducible exact may_block (hP _ (by decide)) | with_reducible exact may_any (hP _ (by decide))
                 | with_reducible apply only_ite | with_reducible apply only_applySet | with_reducible apply only_noEnvelope
                 | with_reducible apply only_rejectSet | with_reducible apply only_fst ‹_ = (_, _)› | simp only [↓only_mk]
                 | with_reducible apply parts_of | split | (dsimp only; split))

theorem only_sealCmd {P : List Part} {s0 : State} {s : State} {core : Nat} {states : List Nat} {f : State → State} (hs : Only P s0 s)
    (hf : ∀ s, Only P s0 s → Only P s0 (f s)) (hP : ∀ p ∈ ([.reg 0x4000, .reg 0x4020, .reg 0x4071, .reg 0x4072, .bus, .desk, .ldg,
    .out, .host, .pwr] : List Part), p ∈ P) :
    Only P s0 (State.sealCmd s core states f) := by
  unfold State.sealCmd
  repeat' (first | with_reducible exact Or.inr rfl | with_reducible exact sub_of hP (by decide) | intro _ | with_reducible exact hs
                 | with_reducible assumption | with_reducible exact Or.inl (hP _ (by decide))
                 | with_reducible exact may_block (hP _ (by decide)) | with_reducible apply only_ite
                 | with_reducible apply only_access | with_reducible apply only_ignored | with_reducible apply hf
                 | simp only [↓only_mk] | with_reducible apply parts_of | split | (dsimp only; split))

theorem only_stage {P : List Part} {s0 : State} {s : State} {live v : Nat} (hs : Only P s0 s) (hP : ∀ p ∈ ([.reg 0x4000, .env] : List
    Part), p ∈ P) :
    Only P s0 (State.stage s live v) := by
  unfold State.stage
  repeat' (first | with_reducible exact Or.inr rfl | with_reducible exact sub_of hP (by decide) | intro _ | with_reducible exact hs
                 | with_reducible assumption | with_reducible exact Or.inl (hP _ (by decide))
                 | with_reducible exact may_block (hP _ (by decide)) | with_reducible apply only_ite | with_reducible apply only_set
                 | simp only [↓only_mk] | with_reducible apply parts_of | split | (dsimp only; split))

theorem only_stageWrite {P : List Part} {s0 : State} {s : State} {i : Initiator} {a v : Nat} (hs : Only P s0 s) (hP : ∀ p ∈ ([.reg
    0x4000, .reg 0x4020, .reg 0x4071, .reg 0x4072, .bus, .env, .desk, .ldg, .out, .host, .pwr] : List Part), p ∈ P) :
    Only P s0 (State.stageWrite s i a v) := by
  unfold State.stageWrite
  repeat' (first | with_reducible exact Or.inr rfl | with_reducible exact sub_of hP (by decide) | intro _ | with_reducible exact hs
                 | with_reducible assumption | with_reducible exact Or.inl (hP _ (by decide))
                 | with_reducible exact may_block (hP _ (by decide)) | with_reducible apply only_ite
                 | with_reducible apply only_ignored | with_reducible apply only_stage | simp only [↓only_mk]
                 | with_reducible apply parts_of | split | (dsimp only; split))

theorem only_commitPmk {P : List Part} {s0 : State} {s : State} (hs : Only P s0 s) (hP : ∀ p ∈ ([.reg 0x4031, .eng, .books] : List
    Part), p ∈ P) :
    Only P s0 (State.commitPmk s).1 := by
  unfold State.commitPmk
  repeat' (first | with_reducible exact Or.inr rfl | with_reducible exact sub_of hP (by decide) | intro _ | with_reducible exact hs
                 | with_reducible assumption | with_reducible exact Or.inl (hP _ (by decide))
                 | with_reducible exact may_block (hP _ (by decide)) | with_reducible apply only_ite
                 | with_reducible apply only_putBooks | simp only [↓only_mk] | with_reducible apply parts_of | split
                 | (dsimp only; split))

theorem only_loadHead {P : List Part} {s0 : State} {s : State} {b : Bool} (hs : Only P s0 s) (hP : ∀ p ∈ ([.reg 0x4031, .eng, .pmk,
    .books] : List Part), p ∈ P) :
    Only P s0 (State.loadHead s b) := by
  unfold State.loadHead
  repeat' (first | with_reducible exact sub_of hP (by decide) | intro _ | with_reducible exact hs | with_reducible assumption
                 | with_reducible exact may_block (hP _ (by decide)) | with_reducible apply only_ite
                 | with_reducible apply only_commitPmk | with_reducible apply only_setEnergised | split | (dsimp only; split))

theorem only_loadHeads {P : List Part} {s0 : State} {s : State} (hs : Only P s0 s) (hP : ∀ p ∈ ([.reg 0x4001, .reg 0x4031, .eng, .pmk,
    .books] : List Part), p ∈ P) :
    Only P s0 (State.loadHeads s) := by
  unfold State.loadHeads
  repeat' (first | with_reducible exact sub_of hP (by decide) | intro _ | with_reducible exact hs | with_reducible assumption
                 | with_reducible exact may_block (hP _ (by decide)) | with_reducible apply only_ite
                 | with_reducible apply only_loadHead | with_reducible apply only_pmkRefresh | with_reducible apply only_setEnergised
                 | split | (dsimp only; split))

theorem only_rampFault {P : List Part} {s0 : State} {s : State} {b : Bool} (hs : Only P s0 s) (hP : ∀ p ∈ ([.reg 0x4000, .reg 0x4001,
    .reg 0x4002, .reg 0x4020, .reg 0x4071, .reg 0x4072, .desk, .ldg, .out, .pmk, .tck, .host, .pwr] : List Part), p ∈ P) :
    Only P s0 (State.rampFault s b) := by
  unfold State.rampFault
  repeat' (first | with_reducible exact Or.inr rfl | with_reducible exact sub_of hP (by decide) | intro _ | with_reducible exact hs
                 | with_reducible assumption | with_reducible exact Or.inl (hP _ (by decide))
                 | with_reducible exact may_block (hP _ (by decide)) | with_reducible apply only_ite
                 | with_reducible apply only_dropStreams | with_reducible apply only_pmkRefresh | with_reducible apply only_set
                 | with_reducible apply only_setEnergised | simp only [↓only_mk] | with_reducible apply parts_of | split
                 | (dsimp only; split))

theorem only_pmkCtrlWritten {P : List Part} {s0 : State} {s : State} (hs : Only P s0 s) (hP : ∀ p ∈ ([.reg 0x4000, .reg 0x4001, .reg
    0x4002, .reg 0x4020, .reg 0x4031, .reg 0x4071, .reg 0x4072, .desk, .ldg, .out, .eng, .pmk, .tck, .books, .host, .pwr] : List
    Part), p ∈ P) :
    Only P s0 (State.pmkCtrlWritten s) := by
  unfold State.pmkCtrlWritten
  repeat' (first | with_reducible exact Or.inr rfl | with_reducible exact sub_of hP (by decide) | intro _ | with_reducible exact hs
                 | with_reducible assumption | with_reducible exact Or.inl (hP _ (by decide))
                 | with_reducible exact may_block (hP _ (by decide)) | with_reducible apply only_dropStreams
                 | with_reducible apply only_loadHeads | simp only [↓only_mk] | with_reducible apply parts_of)

theorem only_parkOpen {P : List Part} {s0 : State} {s : State} {b : Bool} (hs : Only P s0 s) (hP : ∀ p ∈ ([.reg 0x4001] : List Part),
    p ∈ P) :
    Only P s0 (State.parkOpen s b) := by
  unfold State.parkOpen
  repeat' (first | with_reducible exact sub_of hP (by decide) | intro _ | with_reducible exact hs | with_reducible assumption
                 | with_reducible exact may_block (hP _ (by decide)) | with_reducible apply only_ite | with_reducible apply only_set
                 | split | (dsimp only; split))

theorem only_pmkTick {P : List Part} {s0 : State} {s : State} {f : TickFacts} (hs : Only P s0 s) (hP : ∀ p ∈ ([.reg 0x4001, .reg
    0x4031, .eng, .pmk, .books] : List Part), p ∈ P) :
    Only P s0 (State.pmkTick s f) := by
  unfold State.pmkTick
  repeat' (first | with_reducible exact Or.inr rfl | with_reducible exact sub_of hP (by decide) | with_reducible exact mayAll_nil
                 | with_reducible apply mayAll_cons | with_reducible exact mayPairs_nil | with_reducible apply mayPairs_cons | intro _
                 | with_reducible exact hs | with_reducible assumption | with_reducible exact Or.inl (hP _ (by decide))
                 | with_reducible exact may_block (hP _ (by decide)) | with_reducible apply only_ite | with_reducible apply only_foldl
                 | with_reducible apply only_latch | with_reducible apply only_loadHeads | with_reducible apply only_parkOpen
                 | with_reducible apply only_pmkRefresh | with_reducible apply only_setAll | with_reducible apply only_trackTick
                 | with_reducible apply only_fst ‹_ = (_, _)› | simp only [↓only_mk] | with_reducible apply parts_of | split
                 | (dsimp only; split))

theorem only_bpmRefresh {P : List Part} {s0 : State} {s : State} {n : Nat} (hs : Only P s0 s) (hP : ∀ p ∈ ([.regs] : List Part), p ∈
    P) :
    Only P s0 (State.bpmRefresh s n) := by
  unfold State.bpmRefresh
  repeat' (first | with_reducible exact sub_of hP (by decide) | intro _ | with_reducible exact hs | with_reducible assumption
                 | with_reducible exact may_block (hP _ (by decide)) | with_reducible exact may_any (hP _ (by decide))
                 | with_reducible apply only_set)

theorem only_setOwners {P : List Part} {s0 : State} {s : State} {h k : Nat} (hs : Only P s0 s) (hP : ∀ p ∈ ([.regs, .bags] : List
    Part), p ∈ P) :
    Only P s0 (State.setOwners s h k) := by
  unfold State.setOwners
  repeat' (first | with_reducible exact Or.inr rfl | with_reducible exact sub_of hP (by decide) | intro _ | with_reducible exact hs
                 | with_reducible assumption | with_reducible exact Or.inl (hP _ (by decide))
                 | with_reducible exact may_block (hP _ (by decide)) | with_reducible exact may_any (hP _ (by decide))
                 | with_reducible apply only_bpmRefresh | simp only [↓only_mk] | with_reducible apply parts_of)

theorem only_bagAlloc {P : List Part} {s0 : State} {s : State} {n pick : Nat} (hs : Only P s0 s) (hP : ∀ p ∈ ([.reg 0x4060, .regs,
    .bags] : List Part), p ∈ P) :
    Only P s0 (State.bagAlloc s n pick).1 := by
  unfold State.bagAlloc
  repeat' (first | with_reducible exact Or.inr rfl | with_reducible exact sub_of hP (by decide) | intro _ | with_reducible exact hs
                 | with_reducible assumption | with_reducible exact Or.inl (hP _ (by decide))
                 | with_reducible exact may_block (hP _ (by decide)) | with_reducible exact may_any (hP _ (by decide))
                 | with_reducible apply only_ite | with_reducible apply only_inc | with_reducible apply only_setBit
                 | with_reducible apply only_setOwners | with_reducible apply only_fst ‹_ = (_, _)› | simp only [↓only_mk]
                 | with_reducible apply parts_of | split | (dsimp only; split))

theorem only_badBag {P : List Part} {s0 : State} {s : State} {h from_ : Nat} (hs : Only P s0 s) (hP : ∀ p ∈ ([.reg 0x4000, .reg
    0x4020, .reg 0x4060, .reg 0x4071, .reg 0x4072, .desk, .ldg, .out, .host, .pwr] : List Part), p ∈ P) :
    Only P s0 (State.badBag s h from_) := by
  unfold State.badBag
  repeat' (first | with_reducible exact sub_of hP (by decide) | intro _ | with_reducible exact hs | with_reducible assumption
                 | with_reducible exact may_block (hP _ (by decide)) | with_reducible apply only_event
                 | with_reducible apply only_set)

theorem only_bagRelease {P : List Part} {s0 : State} {s : State} {h from_ : Nat} (hs : Only P s0 s) (hP : ∀ p ∈ ([.reg 0x4000, .reg
    0x4020, .reg 0x4060, .reg 0x4071, .reg 0x4072, .regs, .desk, .ldg, .out, .bags, .host, .pwr] : List Part), p ∈ P) :
    Only P s0 (State.bagRelease s h from_) := by
  unfold State.bagRelease
  repeat' (first | with_reducible exact Or.inr rfl | with_reducible exact sub_of hP (by decide) | intro _ | with_reducible exact hs
                 | with_reducible assumption | with_reducible exact Or.inl (hP _ (by decide))
                 | with_reducible exact may_block (hP _ (by decide)) | with_reducible exact may_any (hP _ (by decide))
                 | with_reducible apply only_ite | with_reducible apply only_badBag | with_reducible apply only_bpmRefresh
                 | with_reducible apply only_setOwners | simp only [↓only_mk] | with_reducible apply parts_of | split
                 | (dsimp only; split))

theorem only_bagShare {P : List Part} {s0 : State} {s : State} {h from_ : Nat} (hs : Only P s0 s) (hP : ∀ p ∈ ([.reg 0x4000, .reg
    0x4020, .reg 0x4060, .reg 0x4071, .reg 0x4072, .regs, .desk, .ldg, .out, .bags, .host, .pwr] : List Part), p ∈ P) :
    Only P s0 (State.bagShare s h from_) := by
  unfold State.bagShare
  repeat' (first | with_reducible exact sub_of hP (by decide) | intro _ | with_reducible exact hs | with_reducible assumption
                 | with_reducible exact may_block (hP _ (by decide)) | with_reducible exact may_any (hP _ (by decide))
                 | with_reducible apply only_ite | with_reducible apply only_badBag | with_reducible apply only_setOwners | split
                 | (dsimp only; split))

theorem only_bagReleaseAll {P : List Part} {s0 : State} {s : State} {l : List Nat} {from_ : Nat} (hs : Only P s0 s) (hP : ∀ p ∈ ([.reg
    0x4000, .reg 0x4020, .reg 0x4060, .reg 0x4071, .reg 0x4072, .regs, .desk, .ldg, .out, .bags, .host, .pwr] : List Part), p ∈ P) :
    Only P s0 (State.bagReleaseAll s l from_) := by
  unfold State.bagReleaseAll
  repeat' (first | with_reducible exact sub_of hP (by decide) | intro _ | with_reducible exact hs | with_reducible assumption
                 | with_reducible exact may_block (hP _ (by decide)) | with_reducible exact may_any (hP _ (by decide))
                 | with_reducible apply only_foldl | with_reducible apply only_bagRelease)

theorem only_phcEcc {P : List Part} {s0 : State} {s : State} {line : Nat} {write : Bool} (hs : Only P s0 s) (hP : ∀ p ∈ ([.reg 0x4000,
    .reg 0x4020, .reg 0x4071, .reg 0x4072, .desk, .ldg, .out, .mem, .host, .pwr] : List Part), p ∈ P) :
    Only P s0 (State.phcEcc s line write) := by
  unfold State.phcEcc
  repeat' (first | with_reducible exact sub_of hP (by decide) | intro _ | with_reducible exact hs | with_reducible assumption
                 | with_reducible exact may_block (hP _ (by decide)) | with_reducible apply only_ite
                 | with_reducible apply only_injWrite | with_reducible apply only_sramRead | split | (dsimp only; split))

theorem only_putMem {P : List Part} {s0 : State} {s : State} {m : Mem} (hs : Only P s0 s) (hP : ∀ p ∈ ([.mem] : List Part), p ∈ P) :
    Only P s0 (State.putMem s m) := by
  unfold State.putMem
  repeat' (first | with_reducible exact Or.inr rfl | with_reducible exact sub_of hP (by decide) | intro _ | with_reducible exact hs
                 | with_reducible assumption | with_reducible exact Or.inl (hP _ (by decide))
                 | with_reducible exact may_block (hP _ (by decide)) | simp only [↓only_mk] | with_reducible apply parts_of)

theorem only_slipCount {P : List Part} {s0 : State} {s : State} (hs : Only P s0 s) (hP : ∀ p ∈ ([.reg 0x4000, .reg 0x4063] : List
    Part), p ∈ P) :
    Only P s0 (State.slipCount s) := by
  unfold State.slipCount
  repeat' (first | with_reducible exact Or.inr rfl | with_reducible exact sub_of hP (by decide) | intro _ | with_reducible exact hs
                 | with_reducible assumption | with_reducible exact Or.inl (hP _ (by decide))
                 | with_reducible exact may_block (hP _ (by decide)) | with_reducible apply only_set | simp only [↓only_mk]
                 | with_reducible apply parts_of | with_reducible exact may_block (hP _ (by rw [block_slip_valid]; decide)))

theorem only_restoreSlips {P : List Part} {s0 : State} {s : State} (hs : Only P s0 s) (hP : ∀ p ∈ ([.reg 0x4000, .reg 0x4063, .regs] :
    List Part), p ∈ P) :
    Only P s0 (State.restoreSlips s) := by
  unfold State.restoreSlips
  repeat' (first | with_reducible exact sub_of hP (by decide) | with_reducible exact mayAll_nil | with_reducible apply mayAll_cons
                 | with_reducible exact mayPairs_nil | with_reducible apply mayPairs_cons | intro _ | with_reducible exact hs
                 | with_reducible assumption | with_reducible exact may_block (hP _ (by decide))
                 | with_reducible exact may_any (hP _ (by decide)) | with_reducible apply only_foldl
                 | with_reducible apply only_setAll | with_reducible apply only_slipCount)

theorem only_giveSlip {P : List Part} {s0 : State} {s : State} {block : Nat} {poison : Bool} (hs : Only P s0 s) (hP : ∀ p ∈ ([.reg
    0x4000, .reg 0x4063, .reg 0x4072, .ldg, .bags, .mem] : List Part), p ∈ P) :
    Only P s0 (State.giveSlip s block poison).1 := by
  unfold State.giveSlip
  repeat' (first | with_reducible exact Or.inr rfl | with_reducible exact sub_of hP (by decide) | with_reducible exact mayAll_nil
                 | with_reducible apply mayAll_cons | with_reducible exact mayPairs_nil | with_reducible apply mayPairs_cons | intro _
                 | with_reducible exact hs | with_reducible assumption | with_reducible exact Or.inl (hP _ (by decide))
                 | with_reducible exact may_block (hP _ (by decide)) | with_reducible apply only_ite
                 | with_reducible apply only_ledger | with_reducible apply only_set | with_reducible apply only_setAll
                 | with_reducible apply only_slipCount | with_reducible apply only_fst ‹_ = (_, _)› | simp only [↓only_mk]
                 | with_reducible apply parts_of | with_reducible exact may_block (hP _ (by rw [block_slip_valid]; decide))
                 | with_reducible exact may_block (hP _ (by rw [block_slip_poison]; decide))
                 | with_reducible exact may_block (hP _ (by rw [block_slip_block]; decide)) | split | (dsimp only; split))

theorem only_dropSlip {P : List Part} {s0 : State} {s : State} {n : Fin 16} (hs : Only P s0 s) (hP : ∀ p ∈ ([.reg 0x4000, .reg 0x4063,
    .mem] : List Part), p ∈ P) :
    Only P s0 (State.dropSlip s n) := by
  unfold State.dropSlip
  repeat' (first | with_reducible exact Or.inr rfl | with_reducible exact sub_of hP (by decide) | with_reducible exact mayAll_nil
                 | with_reducible apply mayAll_cons | with_reducible exact mayPairs_nil | with_reducible apply mayPairs_cons | intro _
                 | with_reducible exact hs | with_reducible assumption | with_reducible exact Or.inl (hP _ (by decide))
                 | with_reducible exact may_block (hP _ (by decide)) | with_reducible apply only_setAll
                 | with_reducible apply only_slipCount | simp only [↓only_mk] | with_reducible apply parts_of
                 | with_reducible exact may_block (hP _ (by rw [block_slip_valid]; decide))
                 | with_reducible exact may_block (hP _ (by rw [block_slip_poison]; decide))
                 | with_reducible exact may_block (hP _ (by rw [block_slip_block]; decide)))

theorem only_memReport {P : List Part} {s0 : State} {s : State} {code addr : Nat} {injected : Bool} (hs : Only P s0 s) (hP : ∀ p ∈
    ([.reg 0x4000, .reg 0x4020, .reg 0x4071, .reg 0x4072, .desk, .ldg, .out, .host, .pwr] : List Part), p ∈ P) :
    Only P s0 (State.memReport s code addr injected) := by
  unfold State.memReport
  repeat' (first | with_reducible exact sub_of hP (by decide) | intro _ | with_reducible exact hs | with_reducible assumption
                 | with_reducible exact may_block (hP _ (by decide)) | with_reducible apply only_capture)

theorem only_eccWord {P : List Part} {s0 : State} {s : State} {e : EccErr} {injected : Bool} (hs : Only P s0 s) (hP : ∀ p ∈ ([.reg
    0x4000, .reg 0x4020, .reg 0x4063, .reg 0x4071, .reg 0x4072, .desk, .ldg, .out, .bags, .mem, .host, .pwr] : List Part), p ∈ P) :
    Only P s0 (State.eccWord s e injected) := by
  unfold State.eccWord
  repeat' (first | with_reducible exact Or.inr rfl | with_reducible exact sub_of hP (by decide) | intro _ | with_reducible exact hs
                 | with_reducible assumption | with_reducible exact Or.inl (hP _ (by decide))
                 | with_reducible exact may_block (hP _ (by decide)) | with_reducible apply only_ite
                 | with_reducible apply only_giveSlip | with_reducible apply only_inc | with_reducible apply only_memReport
                 | with_reducible apply only_set | simp only [↓only_mk] | with_reducible apply parts_of | split | (dsimp only; split))

theorem only_eccRead {P : List Part} {s0 : State} {s : State} {a n : Nat} {errs : List EccErr} (hs : Only P s0 s) (hP : ∀ p ∈ ([.reg
    0x4000, .reg 0x4020, .reg 0x4063, .reg 0x4071, .reg 0x4072, .desk, .ldg, .out, .bags, .mem, .host, .pwr] : List Part), p ∈ P) :
    Only P s0 (State.eccRead s a n errs) := by
  unfold State.eccRead
  repeat' (first | with_reducible exact Or.inr rfl | with_reducible exact sub_of hP (by decide) | intro _ | with_reducible exact hs
                 | with_reducible assumption | with_reducible exact Or.inl (hP _ (by decide))
                 | with_reducible exact may_block (hP _ (by decide)) | with_reducible apply only_foldl
                 | with_reducible apply only_eccWord | simp only [↓only_mk] | with_reducible apply parts_of)

theorem only_putWay {P : List Part} {s0 : State} {s : State} {line way : Nat} {dirty : Bool} {tree : Nat} (hs : Only P s0 s) (hP : ∀ p
    ∈ ([.mem] : List Part), p ∈ P) :
    Only P s0 (State.putWay s line way dirty tree) := by
  unfold State.putWay
  repeat' (first | with_reducible exact Or.inr rfl | with_reducible exact sub_of hP (by decide) | intro _ | with_reducible exact hs
                 | with_reducible assumption | with_reducible exact Or.inl (hP _ (by decide))
                 | with_reducible exact may_block (hP _ (by decide)) | with_reducible apply only_putMem | simp only [↓only_mk]
                 | with_reducible apply parts_of)

theorem only_phcEvict {P : List Part} {s0 : State} {s : State} {line : Nat} (hs : Only P s0 s) (hP : ∀ p ∈ ([.mem] : List Part), p ∈
    P) :
    Only P s0 (State.phcEvict s line) := by
  unfold State.phcEvict
  repeat' (first | with_reducible exact Or.inr rfl | with_reducible exact sub_of hP (by decide) | intro _ | with_reducible exact hs
                 | with_reducible assumption | with_reducible exact Or.inl (hP _ (by decide))
                 | with_reducible exact may_block (hP _ (by decide)) | with_reducible apply only_ite
                 | with_reducible apply only_putMem | simp only [↓only_mk] | with_reducible apply parts_of | split
                 | (dsimp only; split))

theorem only_takeMiss {P : List Part} {s0 : State} {s : State} {line : Nat} (hs : Only P s0 s) (hP : ∀ p ∈ ([.reg 0x4061, .mem] : List
    Part), p ∈ P) :
    Only P s0 (State.takeMiss s line) := by
  unfold State.takeMiss
  repeat' (first | with_reducible exact Or.inr rfl | with_reducible exact sub_of hP (by decide) | intro _ | with_reducible exact hs
                 | with_reducible assumption | with_reducible exact Or.inl (hP _ (by decide))
                 | with_reducible exact may_block (hP _ (by decide)) | with_reducible apply only_ite
                 | with_reducible apply only_putMem | with_reducible apply only_set | simp only [↓only_mk]
                 | with_reducible apply parts_of | split | (dsimp only; split))

theorem only_phcFill {P : List Part} {s0 : State} {s : State} {line pol : Nat} {dirty : Bool} (hs : Only P s0 s) (hP : ∀ p ∈ ([.reg
    0x4061, .mem] : List Part), p ∈ P) :
    Only P s0 (State.phcFill s line pol dirty) := by
  unfold State.phcFill
  repeat' (first | with_reducible exact Or.inr rfl | with_reducible exact sub_of hP (by decide) | intro _ | with_reducible exact hs
                 | with_reducible assumption | with_reducible exact Or.inl (hP _ (by decide))
                 | with_reducible exact may_block (hP _ (by decide)) | with_reducible apply only_ite
                 | with_reducible apply only_phcEvict | with_reducible apply only_putWay | with_reducible apply only_takeMiss
                 | with_reducible apply only_fst ‹_ = (_, _)› | simp only [↓only_mk] | with_reducible apply parts_of | split
                 | (dsimp only; split))

theorem only_phcReclaim {P : List Part} {s0 : State} {s : State} {v : Victim} {dirties : Bool} (hs : Only P s0 s) (hP : ∀ p ∈ ([.reg
    0x4061, .mem] : List Part), p ∈ P) :
    Only P s0 (State.phcReclaim s v dirties) := by
  unfold State.phcReclaim
  repeat' (first | with_reducible exact Or.inr rfl | with_reducible exact sub_of hP (by decide) | intro _ | with_reducible exact hs
                 | with_reducible assumption | with_reducible exact Or.inl (hP _ (by decide))
                 | with_reducible exact may_block (hP _ (by decide)) | with_reducible apply only_ite | with_reducible apply only_inc
                 | with_reducible apply only_putMem | with_reducible apply only_putWay | with_reducible apply only_fst ‹_ = (_, _)›
                 | simp only [↓only_mk] | with_reducible apply parts_of | split | (dsimp only; split))

theorem only_phcPrefetch {P : List Part} {s0 : State} {s : State} {l : List Nat} (hs : Only P s0 s) (hP : ∀ p ∈ ([.reg 0x4000, .reg
    0x4020, .reg 0x4061, .reg 0x4063, .reg 0x4071, .reg 0x4072, .desk, .ldg, .out, .bags, .mem, .host, .pwr] : List Part), p ∈ P) :
    Only P s0 (State.phcPrefetch s l) := by
  induction l generalizing s with
  | nil => exact hs
  | cons line rest ih =>
    unfold State.phcPrefetch
    repeat' (first | with_reducible exact Or.inr rfl | with_reducible exact sub_of hP (by decide) | intro _ | with_reducible exact hs
                   | with_reducible assumption | with_reducible apply ih | with_reducible exact Or.inl (hP _ (by decide))
                   | with_reducible exact may_block (hP _ (by decide)) | with_reducible apply only_ite
                   | with_reducible apply only_eccRead | with_reducible apply only_phcFill | with_reducible apply only_phcPrefetch
                   | simp only [↓only_mk] | with_reducible apply parts_of | split | (dsimp only; split))

theorem only_phcDetect {P : List Part} {s0 : State} {s : State} {line : Nat} {miss : Bool} (hs : Only P s0 s) (hP : ∀ p ∈ ([.reg
    0x4000, .reg 0x4020, .reg 0x4061, .reg 0x4063, .reg 0x4071, .reg 0x4072, .desk, .ldg, .out, .bags, .mem, .host, .pwr] : List
    Part), p ∈ P) :
    Only P s0 (State.phcDetect s line miss) := by
  unfold State.phcDetect
  repeat' (first | with_reducible exact Or.inr rfl | with_reducible exact sub_of hP (by decide) | intro _ | with_reducible exact hs
                 | with_reducible assumption | with_reducible exact Or.inl (hP _ (by decide))
                 | with_reducible exact may_block (hP _ (by decide)) | with_reducible apply only_ite
                 | with_reducible apply only_phcPrefetch | with_reducible apply only_putMem | simp only [↓only_mk]
                 | with_reducible apply parts_of | split | (dsimp only; split))

theorem only_phcLine {P : List Part} {s0 : State} {s : State} {line a n : Nat} {write : Bool} {errs : List EccErr} (hs : Only P s0 s)
    (hP : ∀ p ∈ ([.reg 0x4000, .reg 0x4020, .reg 0x4061, .reg 0x4063, .reg 0x4071, .reg 0x4072, .desk, .ldg, .out, .bags, .mem, .host,
    .pwr] : List Part), p ∈ P) :
    Only P s0 (State.phcLine s line a n write errs) := by
  unfold State.phcLine
  repeat' (first | with_reducible exact Or.inr rfl | with_reducible exact sub_of hP (by decide) | intro _ | with_reducible exact hs
                 | with_reducible assumption | with_reducible exact Or.inl (hP _ (by decide))
                 | with_reducible exact may_block (hP _ (by decide)) | with_reducible apply only_ite
                 | with_reducible apply only_eccRead | with_reducible apply only_phcDetect | with_reducible apply only_phcEcc
                 | with_reducible apply only_phcFill | with_reducible apply only_phcReclaim | with_reducible apply only_putMem
                 | with_reducible apply only_putWay | with_reducible apply only_set | with_reducible apply only_fst ‹_ = (_, _)›
                 | simp only [↓only_mk] | with_reducible apply parts_of | split | (dsimp only; split))

theorem only_phcRange {P : List Part} {s0 : State} {s : State} {a n : Nat} {write : Bool} {errs : List EccErr} (hs : Only P s0 s) (hP
    : ∀ p ∈ ([.reg 0x4000, .reg 0x4020, .reg 0x4061, .reg 0x4063, .reg 0x4071, .reg 0x4072, .desk, .ldg, .out, .bags, .mem, .host,
    .pwr] : List Part), p ∈ P) :
    Only P s0 (State.phcRange s a n write errs) := by
  unfold State.phcRange
  repeat' (first | with_reducible exact Or.inr rfl | with_reducible exact sub_of hP (by decide) | intro _ | with_reducible exact hs
                 | with_reducible assumption | with_reducible exact Or.inl (hP _ (by decide))
                 | with_reducible exact may_block (hP _ (by decide)) | with_reducible apply only_ite | with_reducible apply only_foldl
                 | with_reducible apply only_phcLine | with_reducible apply only_putMem | simp only [↓only_mk]
                 | with_reducible apply parts_of | split | (dsimp only; split))

theorem only_phcSnoop {P : List Part} {s0 : State} {s : State} {line : Nat} (hs : Only P s0 s) (hP : ∀ p ∈ ([.reg 0x4000, .reg 0x4020,
    .reg 0x4071, .reg 0x4072, .desk, .ldg, .out, .mem, .host, .pwr] : List Part), p ∈ P) :
    Only P s0 (State.phcSnoop s line) := by
  unfold State.phcSnoop
  repeat' (first | with_reducible exact Or.inr rfl | with_reducible exact sub_of hP (by decide) | intro _ | with_reducible exact hs
                 | with_reducible assumption | with_reducible exact Or.inl (hP _ (by decide))
                 | with_reducible exact may_block (hP _ (by decide)) | with_reducible apply only_ite
                 | with_reducible apply only_phcEcc | with_reducible apply only_putMem | with_reducible apply only_putWay
                 | with_reducible apply only_fst ‹_ = (_, _)› | simp only [↓only_mk] | with_reducible apply parts_of | split
                 | (dsimp only; split))

theorem only_phcSnoopRange {P : List Part} {s0 : State} {s : State} {a n : Nat} (hs : Only P s0 s) (hP : ∀ p ∈ ([.reg 0x4000, .reg
    0x4020, .reg 0x4071, .reg 0x4072, .desk, .ldg, .out, .mem, .host, .pwr] : List Part), p ∈ P) :
    Only P s0 (State.phcSnoopRange s a n) := by
  unfold State.phcSnoopRange
  repeat' (first | with_reducible exact sub_of hP (by decide) | intro _ | with_reducible exact hs | with_reducible assumption
                 | with_reducible exact may_block (hP _ (by decide)) | with_reducible apply only_ite | with_reducible apply only_foldl
                 | with_reducible apply only_phcSnoop | split | (dsimp only; split))

theorem only_phcDrain {P : List Part} {s0 : State} {s : State} (hs : Only P s0 s) (hP : ∀ p ∈ ([.mem] : List Part), p ∈ P) :
    Only P s0 (State.phcDrain s) := by
  unfold State.phcDrain
  repeat' (first | with_reducible exact Or.inr rfl | with_reducible exact sub_of hP (by decide) | intro _ | with_reducible exact hs
                 | with_reducible assumption | with_reducible exact Or.inl (hP _ (by decide))
                 | with_reducible exact may_block (hP _ (by decide)) | with_reducible apply only_ite
                 | with_reducible apply only_putMem | simp only [↓only_mk] | with_reducible apply parts_of | split
                 | (dsimp only; split))

theorem only_phcFlush {P : List Part} {s0 : State} {s : State} (hs : Only P s0 s) (hP : ∀ p ∈ ([.mem] : List Part), p ∈ P) :
    Only P s0 (State.phcFlush s) := by
  unfold State.phcFlush
  repeat' (first | with_reducible exact Or.inr rfl | with_reducible exact sub_of hP (by decide) | intro _ | with_reducible exact hs
                 | with_reducible assumption | with_reducible exact Or.inl (hP _ (by decide))
                 | with_reducible exact may_block (hP _ (by decide)) | with_reducible apply only_putMem | simp only [↓only_mk]
                 | with_reducible apply parts_of)

theorem only_place {P : List Part} {s0 : State} {s : State} {a : Nat} {l : List Byte} (hs : Only P s0 s) (hP : ∀ p ∈ ([.reg 0x4063,
    .reg 0x4071, .cells, .mem] : List Part), p ∈ P) :
    Only P s0 (State.place s a l) := by
  unfold State.place
  repeat' (first | with_reducible exact sub_of hP (by decide) | intro _ | with_reducible exact hs | with_reducible assumption
                 | with_reducible exact may_block (hP _ (by decide)) | with_reducible apply only_ite | with_reducible apply only_foldl
                 | with_reducible apply only_injWrite | with_reducible apply only_putBytes | with_reducible apply only_set
                 | with_reducible exact may_block (hP _ (by rw [block_slip_valid]; decide))
                 | with_reducible exact may_block (hP _ (by rw [block_slip_poison]; decide))
                 | with_reducible exact may_block (hP _ (by rw [block_slip_block]; decide)) | split | (dsimp only; split))

theorem only_store {P : List Part} {s0 : State} {s : State} {a : Nat} {l : List Byte} (hs : Only P s0 s) (hP : ∀ p ∈ ([.reg 0x4000,
    .reg 0x4020, .reg 0x4063, .reg 0x4071, .reg 0x4072, .cells, .desk, .ldg, .out, .mem, .host, .pwr] : List Part), p ∈ P) :
    Only P s0 (State.store s a l) := by
  unfold State.store
  repeat' (first | with_reducible exact sub_of hP (by decide) | intro _ | with_reducible exact hs | with_reducible assumption
                 | with_reducible exact may_block (hP _ (by decide)) | with_reducible apply only_phcSnoopRange
                 | with_reducible apply only_place)

theorem only_unitStore {P : List Part} {s0 : State} {s : State} {a : Nat} {l : List Byte} (hs : Only P s0 s) (hP : ∀ p ∈ ([.reg
    0x4000, .reg 0x4020, .reg 0x4061, .reg 0x4063, .reg 0x4071, .reg 0x4072, .cells, .desk, .ldg, .out, .bags, .mem, .host, .pwr] :
    List Part), p ∈ P) :
    Only P s0 (State.unitStore s a l) := by
  unfold State.unitStore
  repeat' (first | with_reducible exact sub_of hP (by decide) | intro _ | with_reducible exact hs | with_reducible assumption
                 | with_reducible exact may_block (hP _ (by decide)) | with_reducible apply only_phcRange
                 | with_reducible apply only_place)

theorem only_unitWords {P : List Part} {s0 : State} {s : State} {a : Nat} {l : List Nat} (hs : Only P s0 s) (hP : ∀ p ∈ ([.reg 0x4000,
    .reg 0x4020, .reg 0x4061, .reg 0x4063, .reg 0x4071, .reg 0x4072, .cells, .desk, .ldg, .out, .bags, .mem, .host, .pwr] : List
    Part), p ∈ P) :
    Only P s0 (State.unitWords s a l) := by
  unfold State.unitWords
  repeat' (first | with_reducible exact Or.inr rfl | with_reducible exact sub_of hP (by decide) | intro _ | with_reducible exact hs
                 | with_reducible assumption | with_reducible exact Or.inl (hP _ (by decide))
                 | with_reducible exact may_block (hP _ (by decide)) | with_reducible apply only_unitStore | simp only [↓only_mk]
                 | with_reducible apply parts_of)

theorem only_unitReads {P : List Part} {s0 : State} {s : State} {a n : Nat} {errs : List EccErr} (hs : Only P s0 s) (hP : ∀ p ∈ ([.reg
    0x4000, .reg 0x4020, .reg 0x4061, .reg 0x4063, .reg 0x4071, .reg 0x4072, .desk, .ldg, .out, .bags, .mem, .host, .pwr] : List
    Part), p ∈ P) :
    Only P s0 (State.unitReads s a n errs) := by
  unfold State.unitReads
  repeat' (first | with_reducible exact Or.inr rfl | with_reducible exact sub_of hP (by decide) | intro _ | with_reducible exact hs
                 | with_reducible assumption | with_reducible exact Or.inl (hP _ (by decide))
                 | with_reducible exact may_block (hP _ (by decide)) | with_reducible apply only_phcRange | simp only [↓only_mk]
                 | with_reducible apply parts_of)

theorem only_storeWords {P : List Part} {s0 : State} {s : State} {a : Nat} {l : List Nat} (hs : Only P s0 s) (hP : ∀ p ∈ ([.reg
    0x4000, .reg 0x4020, .reg 0x4063, .reg 0x4071, .reg 0x4072, .cells, .desk, .ldg, .out, .mem, .host, .pwr] : List Part), p ∈ P) :
    Only P s0 (State.storeWords s a l) := by
  unfold State.storeWords
  repeat' (first | with_reducible exact sub_of hP (by decide) | intro _ | with_reducible exact hs | with_reducible assumption
                 | with_reducible exact may_block (hP _ (by decide)) | with_reducible apply only_store)

theorem only_bagStore {P : List Part} {s0 : State} {s : State} {l : List Nat} {off : Nat} {d : List Byte} (hs : Only P s0 s) (hP : ∀ p
    ∈ ([.reg 0x4000, .reg 0x4020, .reg 0x4063, .reg 0x4071, .reg 0x4072, .cells, .desk, .ldg, .out, .mem, .host, .pwr] : List Part), p
    ∈ P) :
    Only P s0 (State.bagStore s l off d) := by
  induction l generalizing s off d with
  | nil => exact hs
  | cons h t ih =>
    unfold State.bagStore
    repeat' (first | with_reducible exact sub_of hP (by decide) | intro _ | with_reducible exact hs | with_reducible assumption
                   | with_reducible apply ih | with_reducible exact may_block (hP _ (by decide)) | with_reducible apply only_ite
                   | with_reducible apply only_bagStore | with_reducible apply only_store | split | (dsimp only; split))

theorem only_putLane {P : List Part} {s0 : State} {s : State} {x : Act} {l : Lane} (hs : Only P s0 s) (hP : ∀ p ∈ ([.reg 0x4010, .reg
    0x4011, .reg 0x4012, .reg 0x4013, .reg 0x4014, .lanes] : List Part), p ∈ P) :
    Only P s0 (State.putLane s x l) := by
  unfold State.putLane
  repeat' (first | with_reducible exact Or.inr rfl | with_reducible exact sub_of hP (by decide) | intro _ | with_reducible exact hs
                 | with_reducible assumption | with_reducible exact Or.inl (hP _ (by decide))
                 | with_reducible exact may_block (hP _ (by decide)) | with_reducible apply only_set | simp only [↓only_mk]
                 | with_reducible apply parts_of | (cases x <;> exact may_block (hP _ (by decide))))

theorem only_putTapBytes {P : List Part} {s0 : State} {s : State} {x : Act} {e from_ : Nat} {b : List Nat} (hs : Only P s0 s) (hP : ∀
    p ∈ ([.regs] : List Part), p ∈ P) :
    Only P s0 (State.putTapBytes s x e from_ b) := by
  unfold State.putTapBytes
  repeat' (first | with_reducible exact sub_of hP (by decide) | intro _ | with_reducible exact hs | with_reducible assumption
                 | with_reducible exact may_block (hP _ (by decide)) | with_reducible exact may_any (hP _ (by decide))
                 | with_reducible apply only_foldl | with_reducible apply only_set | (cases x <;> exact may_block (hP _ (by decide))))

theorem only_putRcv {P : List Part} {s0 : State} {s : State} {r : Recovery} (hs : Only P s0 s) (hP : ∀ p ∈ ([.reg 0x4014, .rcv] : List
    Part), p ∈ P) :
    Only P s0 (State.putRcv s r) := by
  unfold State.putRcv
  repeat' (first | with_reducible exact Or.inr rfl | with_reducible exact sub_of hP (by decide) | intro _ | with_reducible exact hs
                 | with_reducible assumption | with_reducible exact Or.inl (hP _ (by decide))
                 | with_reducible exact may_block (hP _ (by decide)) | with_reducible apply only_set | simp only [↓only_mk]
                 | with_reducible apply parts_of)

theorem only_mapCodeword {P : List Part} {s0 : State} {s : State} {x : Act} {c : Codeword} {f : Codeword → Codeword} (hs : Only P s0
    s) (hP : ∀ p ∈ ([.reg 0x4010, .reg 0x4011, .reg 0x4012, .reg 0x4013, .reg 0x4014, .lanes] : List Part), p ∈ P) :
    Only P s0 (State.mapCodeword s x c f) := by
  unfold State.mapCodeword
  repeat' (first | with_reducible exact Or.inr rfl | with_reducible exact sub_of hP (by decide) | intro _ | with_reducible exact hs
                 | with_reducible assumption | with_reducible exact Or.inl (hP _ (by decide))
                 | with_reducible exact may_block (hP _ (by decide)) | with_reducible apply only_ite
                 | with_reducible apply only_putLane | simp only [↓only_mk] | with_reducible apply parts_of | split
                 | (dsimp only; split))

theorem only_laneUnit {P : List Part} {s0 : State} {s : State} {x : Act} {half : Nat} {c : Codeword} (hs : Only P s0 s) (hP : ∀ p ∈
    ([.reg 0x4010, .reg 0x4011, .reg 0x4012, .reg 0x4013, .reg 0x4014, .lanes] : List Part), p ∈ P) :
    Only P s0 (State.laneUnit s x half c).1 := by
  unfold State.laneUnit
  repeat' (first | with_reducible exact Or.inr rfl | with_reducible exact sub_of hP (by decide) | intro _ | with_reducible exact hs
                 | with_reducible assumption | with_reducible exact Or.inl (hP _ (by decide))
                 | with_reducible exact may_block (hP _ (by decide)) | with_reducible apply only_ite
                 | with_reducible apply only_mapCodeword | with_reducible apply only_fst ‹_ = (_, _)› | simp only [↓only_mk]
                 | with_reducible apply parts_of | split | (dsimp only; split))

theorem only_workUnit {P : List Part} {s0 : State} {s : State} {half : Nat} {w : Work} (hs : Only P s0 s) (hP : ∀ p ∈ ([.reg 0x4014,
    .rcv] : List Part), p ∈ P) :
    Only P s0 (State.workUnit s half w).1 := by
  unfold State.workUnit
  repeat' (first | with_reducible exact Or.inr rfl | with_reducible exact sub_of hP (by decide) | intro _ | with_reducible exact hs
                 | with_reducible assumption | with_reducible exact Or.inl (hP _ (by decide))
                 | with_reducible exact may_block (hP _ (by decide)) | with_reducible apply only_putRcv
                 | with_reducible apply only_fst ‹_ = (_, _)› | simp only [↓only_mk] | with_reducible apply parts_of | split
                 | (dsimp only; split))

theorem only_setHalf {P : List Part} {s0 : State} {s : State} {half : Nat} {v : Bool} (hs : Only P s0 s) (hP : ∀ p ∈ ([.reg 0x4000,
    .reg 0x4014] : List Part), p ∈ P) :
    Only P s0 (State.setHalf s half v) := by
  unfold State.setHalf
  repeat' (first | with_reducible exact sub_of hP (by decide) | intro _ | with_reducible exact hs | with_reducible assumption
                 | with_reducible exact may_block (hP _ (by decide)) | with_reducible apply only_setBit)

theorem only_startFrame {P : List Part} {s0 : State} {s : State} {half : Nat} (hs : Only P s0 s) (hP : ∀ p ∈ ([.reg 0x4000, .reg
    0x4014, .dec] : List Part), p ∈ P) :
    Only P s0 (State.startFrame s half) := by
  unfold State.startFrame
  repeat' (first | with_reducible exact Or.inr rfl | with_reducible exact sub_of hP (by decide) | intro _ | with_reducible exact hs
                 | with_reducible assumption | with_reducible exact Or.inl (hP _ (by decide))
                 | with_reducible exact may_block (hP _ (by decide)) | with_reducible apply only_ite
                 | with_reducible apply only_setHalf | simp only [↓only_mk] | with_reducible apply parts_of | split
                 | (dsimp only; split))

theorem only_spend {P : List Part} {s0 : State} {s : State} {half cls : Nat} (hs : Only P s0 s) (hP : ∀ p ∈ ([.regs, .dec] : List
    Part), p ∈ P) :
    Only P s0 (State.spend s half cls) := by
  unfold State.spend
  repeat' (first | with_reducible exact Or.inr rfl | with_reducible exact sub_of hP (by decide) | intro _ | with_reducible exact hs
                 | with_reducible assumption | with_reducible exact Or.inl (hP _ (by decide))
                 | with_reducible exact may_block (hP _ (by decide)) | with_reducible exact may_any (hP _ (by decide))
                 | with_reducible apply only_ite | with_reducible apply only_set | simp only [↓only_mk]
                 | with_reducible apply parts_of | split | (dsimp only; split))

theorem only_classUnit {P : List Part} {s0 : State} {s : State} {half cls : Nat} (hs : Only P s0 s) (hP : ∀ p ∈ ([.reg 0x4010, .reg
    0x4011, .reg 0x4012, .reg 0x4013, .reg 0x4014, .lanes, .rcv] : List Part), p ∈ P) :
    Only P s0 (State.classUnit s half cls).1 := by
  unfold State.classUnit
  repeat' (first | with_reducible exact Or.inr rfl | with_reducible exact sub_of hP (by decide) | intro _ | with_reducible exact hs
                 | with_reducible assumption | with_reducible exact Or.inl (hP _ (by decide))
                 | with_reducible exact may_block (hP _ (by decide)) | with_reducible apply only_ite
                 | with_reducible apply only_laneUnit | with_reducible apply only_workUnit
                 | with_reducible apply only_fst ‹_ = (_, _)› | simp only [↓only_mk] | with_reducible apply parts_of | split
                 | (dsimp only; split))

theorem only_poolStep {P : List Part} {s0 : State} {s t : State} {half : Nat} (hs : Only P s0 s)
    (hP : ∀ p ∈ ([.reg 0x4000, .reg 0x4010, .reg 0x4011, .reg 0x4012, .reg 0x4013, .reg 0x4014, .regs, .lanes, .dec, .rcv] : List
        Part), p ∈ P) (h : s.poolStep half = some t) : Only P s0 t := by
  unfold State.poolStep at h
  dsimp only at h
  repeat' split at h
  all_goals first
    | cases h
      first
      | exact only_startFrame hs (sub_of hP (by decide))
      | exact only_spend (only_classUnit hs (sub_of hP (by decide))) (sub_of hP (by decide))
      | exact only_classUnit hs (sub_of hP (by decide))
    | cases h

theorem only_poolRun {P : List Part} {s0 : State} {half : Nat} {stop : State → Bool} {n : Nat} {s : State} (hs : Only P s0 s)
    (hP : ∀ p ∈ ([.reg 0x4000, .reg 0x4010, .reg 0x4011, .reg 0x4012, .reg 0x4013, .reg 0x4014, .regs, .lanes, .dec, .rcv] : List
        Part), p ∈ P) : Only P s0 (State.poolRun half stop n s) := by
  induction n generalizing s with
  | zero => exact hs
  | succ n ih =>
    unfold State.poolRun
    split
    · exact hs
    · split
      · exact hs
      · rename_i h
        exact ih (only_poolStep hs hP h)

theorem only_restartWork {P : List Part} {s0 : State} {s : State} {half : Nat} (hs : Only P s0 s) (hP : ∀ p ∈ ([.reg 0x4014, .rcv] :
    List Part), p ∈ P) :
    Only P s0 (State.restartWork s half) := by
  unfold State.restartWork
  repeat' (first | with_reducible exact Or.inr rfl | with_reducible exact sub_of hP (by decide) | intro _ | with_reducible exact hs
                 | with_reducible assumption | with_reducible exact Or.inl (hP _ (by decide))
                 | with_reducible exact may_block (hP _ (by decide)) | with_reducible apply only_putRcv | simp only [↓only_mk]
                 | with_reducible apply parts_of)

theorem only_postOffset {P : List Part} {s0 : State} {s : State} {x : Act} {o : Int} (hs : Only P s0 s) (hP : ∀ p ∈ ([.eng] : List
    Part), p ∈ P) :
    Only P s0 (State.postOffset s x o) := by
  unfold State.postOffset
  repeat' (first | with_reducible exact Or.inr rfl | with_reducible exact sub_of hP (by decide) | intro _ | with_reducible exact hs
                 | with_reducible assumption | with_reducible exact Or.inl (hP _ (by decide))
                 | with_reducible exact may_block (hP _ (by decide)) | with_reducible apply only_ite
                 | with_reducible apply only_putMail | simp only [↓only_mk] | with_reducible apply parts_of | split
                 | (dsimp only; split))

theorem only_soloTaps {P : List Part} {s0 : State} {s : State} {p : RecPlace} {trailing : Bool} (hs : Only P s0 s) (hP : ∀ p ∈ ([.reg
    0x4010, .reg 0x4011, .reg 0x4012, .reg 0x4013, .reg 0x4014, .regs, .lanes] : List Part), p ∈ P) :
    Only P s0 (State.soloTaps s p trailing) := by
  unfold State.soloTaps
  repeat' (first | with_reducible exact Or.inr rfl | with_reducible exact sub_of hP (by decide) | intro _ | with_reducible exact hs
                 | with_reducible assumption | with_reducible exact Or.inl (hP _ (by decide))
                 | with_reducible exact may_block (hP _ (by decide)) | with_reducible exact may_any (hP _ (by decide))
                 | with_reducible apply only_ite | with_reducible apply only_putLane | with_reducible apply only_putTapBytes
                 | simp only [↓only_mk] | with_reducible apply parts_of | split | (dsimp only; split))

theorem only_prepareRead {P : List Part} {s0 : State} {s : State} {p : RecPlace} (hs : Only P s0 s) (hP : ∀ p ∈ ([.reg 0x4010, .reg
    0x4011, .reg 0x4012, .reg 0x4013, .reg 0x4014, .regs, .eng, .lanes] : List Part), p ∈ P) :
    Only P s0 (State.prepareRead s p) := by
  unfold State.prepareRead
  repeat' (first | with_reducible exact Or.inr rfl | with_reducible exact sub_of hP (by decide) | intro _ | with_reducible exact hs
                 | with_reducible assumption | with_reducible exact Or.inl (hP _ (by decide))
                 | with_reducible exact may_block (hP _ (by decide)) | with_reducible exact may_any (hP _ (by decide))
                 | with_reducible apply only_postOffset | with_reducible apply only_soloTaps | simp only [↓only_mk]
                 | with_reducible apply parts_of | split | (dsimp only; split))

theorem only_endOffset {P : List Part} {s0 : State} {s : State} {p : RecPlace} (hs : Only P s0 s) (hP : ∀ p ∈ ([.eng] : List Part), p
    ∈ P) :
    Only P s0 (State.endOffset s p) := by
  unfold State.endOffset
  repeat' (first | with_reducible exact sub_of hP (by decide) | intro _ | with_reducible exact hs | with_reducible assumption
                 | with_reducible exact may_block (hP _ (by decide)) | with_reducible apply only_ite
                 | with_reducible apply only_postOffset | split | (dsimp only; split))

theorem only_putPlace {P : List Part} {s0 : State} {s : State} {k : Nat} {p : RecPlace} (hs : Only P s0 s) (hP : ∀ p ∈ ([.reg 0x4014,
    .rcv] : List Part), p ∈ P) :
    Only P s0 (State.putPlace s k p) := by
  unfold State.putPlace
  repeat' (first | with_reducible exact Or.inr rfl | with_reducible exact sub_of hP (by decide) | intro _ | with_reducible exact hs
                 | with_reducible assumption | with_reducible exact Or.inl (hP _ (by decide))
                 | with_reducible exact may_block (hP _ (by decide)) | with_reducible apply only_putRcv | simp only [↓only_mk]
                 | with_reducible apply parts_of)

theorem only_freePlaceRcv {P : List Part} {s0 : State} {s : State} {k : Nat} (hs : Only P s0 s) (hP : ∀ p ∈ ([.reg 0x4014, .eng, .rcv]
    : List Part), p ∈ P) :
    Only P s0 (State.freePlaceRcv s k) := by
  unfold State.freePlaceRcv
  repeat' (first | with_reducible exact Or.inr rfl | with_reducible exact sub_of hP (by decide) | intro _ | with_reducible exact hs
                 | with_reducible assumption | with_reducible exact Or.inl (hP _ (by decide))
                 | with_reducible exact may_block (hP _ (by decide)) | with_reducible apply only_endOffset
                 | with_reducible apply only_putRcv | simp only [↓only_mk] | with_reducible apply parts_of | split
                 | (dsimp only; split))

theorem only_ladderEnd {P : List Part} {s0 : State} {s : State} {p : RecPlace} {rung : Nat} (hs : Only P s0 s) (hP : ∀ p ∈ ([.reg
    0x4072, .ldg, .rcv] : List Part), p ∈ P) :
    Only P s0 (State.ladderEnd s p rung) := by
  unfold State.ladderEnd
  repeat' (first | with_reducible exact Or.inr rfl | with_reducible exact sub_of hP (by decide) | intro _ | with_reducible exact hs
                 | with_reducible assumption | with_reducible exact Or.inl (hP _ (by decide))
                 | with_reducible exact may_block (hP _ (by decide)) | with_reducible apply only_ite
                 | with_reducible apply only_ledger | simp only [↓only_mk] | with_reducible apply parts_of | split
                 | (dsimp only; split))

theorem only_countRead {P : List Part} {s0 : State} {s : State} {surface : Nat} (hs : Only P s0 s) (hP : ∀ p ∈ ([.rcv] : List Part), p
    ∈ P) :
    Only P s0 (State.countRead s surface) := by
  unfold State.countRead
  repeat' (first | with_reducible exact Or.inr rfl | with_reducible exact sub_of hP (by decide) | intro _ | with_reducible exact hs
                 | with_reducible assumption | with_reducible exact Or.inl (hP _ (by decide))
                 | with_reducible exact may_block (hP _ (by decide)) | simp only [↓only_mk] | with_reducible apply parts_of)

theorem only_deliverTo {P : List Part} {s0 : State} {s : State} {data tagAt : Nat} {body : List Nat} (hs : Only P s0 s) (hP : ∀ p ∈
    ([.reg 0x4000, .reg 0x4020, .reg 0x4063, .reg 0x4071, .reg 0x4072, .cells, .desk, .ldg, .out, .mem, .host, .pwr] : List Part), p ∈
    P) :
    Only P s0 (State.deliverTo s data tagAt body) := by
  unfold State.deliverTo
  repeat' (first | with_reducible exact sub_of hP (by decide) | intro _ | with_reducible exact hs | with_reducible assumption
                 | with_reducible exact may_block (hP _ (by decide)) | with_reducible apply only_store)

theorem only_ladderDelivers {P : List Part} {s0 : State} {s : State} {k sum : Nat} {p : RecPlace} {rung : Nat} {info : List Nat} (hs :
    Only P s0 s) (hP : ∀ p ∈ ([.reg 0x4000, .reg 0x4014, .reg 0x4020, .reg 0x4063, .reg 0x4071, .reg 0x4072, .cells, .desk, .ldg,
    .out, .eng, .rcv, .mem, .host, .pwr] : List Part), p ∈ P) :
    Only P s0 (State.ladderDelivers s k sum p rung info) := by
  unfold State.ladderDelivers
  repeat' (first | with_reducible exact Or.inr rfl | with_reducible exact sub_of hP (by decide) | intro _ | with_reducible exact hs
                 | with_reducible assumption | with_reducible exact Or.inl (hP _ (by decide))
                 | with_reducible exact may_block (hP _ (by decide)) | with_reducible apply only_ite
                 | with_reducible apply only_deliverTo | with_reducible apply only_freePlaceRcv | with_reducible apply only_ladderEnd
                 | with_reducible apply only_ledger | with_reducible apply only_putRcv | simp only [↓only_mk]
                 | with_reducible apply parts_of | split | (dsimp only; split))

theorem only_toSix {P : List Part} {s0 : State} {s : State} {k : Nat} {p : RecPlace} (hs : Only P s0 s) (hP : ∀ p ∈ ([.reg 0x4014,
    .reg 0x4072, .ldg, .eng, .rcv] : List Part), p ∈ P) :
    Only P s0 (State.toSix s k p) := by
  unfold State.toSix
  repeat' (first | with_reducible exact Or.inr rfl | with_reducible exact sub_of hP (by decide) | intro _ | with_reducible exact hs
                 | with_reducible assumption | with_reducible exact Or.inl (hP _ (by decide))
                 | with_reducible exact may_block (hP _ (by decide)) | with_reducible apply only_ite
                 | with_reducible apply only_endOffset | with_reducible apply only_ladderEnd | with_reducible apply only_putPlace
                 | simp only [↓only_mk] | with_reducible apply parts_of | split | (dsimp only; split))

theorem only_ladderOn {P : List Part} {s0 : State} {s : State} {k : Nat} {p : RecPlace} {revs : Nat} (hs : Only P s0 s) (hP : ∀ p ∈
    ([.reg 0x4010, .reg 0x4011, .reg 0x4012, .reg 0x4013, .reg 0x4014, .reg 0x4072, .regs, .ldg, .eng, .lanes, .rcv] : List Part), p ∈
    P) :
    Only P s0 (State.ladderOn s k p revs) := by
  unfold State.ladderOn
  repeat' (first | with_reducible exact Or.inr rfl | with_reducible exact sub_of hP (by decide) | intro _ | with_reducible exact hs
                 | with_reducible assumption | with_reducible exact Or.inl (hP _ (by decide))
                 | with_reducible exact may_block (hP _ (by decide)) | with_reducible exact may_any (hP _ (by decide))
                 | with_reducible apply only_ite | with_reducible apply only_prepareRead | with_reducible apply only_putPlace
                 | with_reducible apply only_toSix | simp only [↓only_mk] | with_reducible apply parts_of | split
                 | (dsimp only; split))

theorem only_sixDelivers {P : List Part} {s0 : State} {s : State} {k : Nat} {p : RecPlace} {data : List Nat} {ok : Bool} (hs : Only P
    s0 s) (hP : ∀ p ∈ ([.reg 0x4014, .reg 0x4072, .ldg, .rcv] : List Part), p ∈ P) :
    Only P s0 (State.sixDelivers s k p data ok) := by
  unfold State.sixDelivers
  repeat' (first | with_reducible exact Or.inr rfl | with_reducible exact sub_of hP (by decide) | intro _ | with_reducible exact hs
                 | with_reducible assumption | with_reducible exact Or.inl (hP _ (by decide))
                 | with_reducible exact may_block (hP _ (by decide)) | with_reducible apply only_ite
                 | with_reducible apply only_ladderEnd | with_reducible apply only_putPlace | simp only [↓only_mk]
                 | with_reducible apply parts_of | split | (dsimp only; split))

theorem only_abandonLadders {P : List Part} {s0 : State} {s : State} (hs : Only P s0 s) (hP : ∀ p ∈ ([.reg 0x4014, .eng, .rcv] : List
    Part), p ∈ P) :
    Only P s0 (State.abandonLadders s) := by
  unfold State.abandonLadders
  repeat' (first | with_reducible exact Or.inr rfl | with_reducible exact sub_of hP (by decide) | intro _ | with_reducible exact hs
                 | with_reducible assumption | with_reducible exact Or.inl (hP _ (by decide))
                 | with_reducible exact may_block (hP _ (by decide)) | with_reducible apply only_foldl
                 | with_reducible apply only_endOffset | with_reducible apply only_putRcv | simp only [↓only_mk]
                 | with_reducible apply parts_of)

theorem only_retireLadders {P : List Part} {s0 : State} {s : State} {surface : Nat} (hs : Only P s0 s) (hP : ∀ p ∈ ([.reg 0x4014, .reg
    0x4072, .ldg, .eng, .rcv] : List Part), p ∈ P) :
    Only P s0 (State.retireLadders s surface) := by
  unfold State.retireLadders
  repeat' (first | with_reducible exact sub_of hP (by decide) | intro _ | with_reducible exact hs | with_reducible assumption
                 | with_reducible exact may_block (hP _ (by decide)) | with_reducible apply only_ite | with_reducible apply only_foldl
                 | with_reducible apply only_toSix | split | (dsimp only; split))

theorem only_putHost {P : List Part} {s0 : State} {s : State} {h : HostSide} (hs : Only P s0 s) (hP : ∀ p ∈ ([.host] : List Part), p ∈
    P) :
    Only P s0 (State.putHost s h) := by
  unfold State.putHost
  repeat' (first | with_reducible exact Or.inr rfl | with_reducible exact sub_of hP (by decide) | intro _ | with_reducible exact hs
                 | with_reducible assumption | with_reducible exact Or.inl (hP _ (by decide))
                 | with_reducible exact may_block (hP _ (by decide)) | simp only [↓only_mk] | with_reducible apply parts_of)

theorem only_putCmd {P : List Part} {s0 : State} {s : State} {serial : Nat} {c : Cmd} (hs : Only P s0 s) (hP : ∀ p ∈ ([.host] : List
    Part), p ∈ P) :
    Only P s0 (State.putCmd s serial c) := by
  unfold State.putCmd
  repeat' (first | with_reducible exact Or.inr rfl | with_reducible exact sub_of hP (by decide) | intro _ | with_reducible exact hs
                 | with_reducible assumption | with_reducible exact Or.inl (hP _ (by decide))
                 | with_reducible exact may_block (hP _ (by decide)) | with_reducible apply only_putHost | simp only [↓only_mk]
                 | with_reducible apply parts_of)

theorem only_answer {P : List Part} {s0 : State} {s : State} {serial : Nat} {v : Verdict} (hs : Only P s0 s) (hP : ∀ p ∈ ([.host] :
    List Part), p ∈ P) :
    Only P s0 (State.answer s serial v) := by
  unfold State.answer
  repeat' (first | with_reducible exact Or.inr rfl | with_reducible exact sub_of hP (by decide) | intro _ | with_reducible exact hs
                 | with_reducible assumption | with_reducible exact Or.inl (hP _ (by decide))
                 | with_reducible exact may_block (hP _ (by decide)) | with_reducible apply only_ite
                 | with_reducible apply only_putCmd | simp only [↓only_mk] | with_reducible apply parts_of | split
                 | (dsimp only; split))

theorem only_answerWith {P : List Part} {s0 : State} {s : State} {serial dw0 : Nat} {reply : List Nat} {v : Verdict} (hs : Only P s0
    s) (hP : ∀ p ∈ ([.host] : List Part), p ∈ P) :
    Only P s0 (State.answerWith s serial dw0 reply v) := by
  unfold State.answerWith
  repeat' (first | with_reducible exact Or.inr rfl | with_reducible exact sub_of hP (by decide) | intro _ | with_reducible exact hs
                 | with_reducible assumption | with_reducible exact Or.inl (hP _ (by decide))
                 | with_reducible exact may_block (hP _ (by decide)) | with_reducible apply only_ite
                 | with_reducible apply only_putCmd | simp only [↓only_mk] | with_reducible apply parts_of | split
                 | (dsimp only; split))

theorem only_eventAt {P : List Part} {s0 : State} {s : State} {n : Nat} {a : Assoc} {e : Event} (hs : Only P s0 s) (hP : ∀ p ∈
    ([.host] : List Part), p ∈ P) :
    Only P s0 (State.eventAt s n a e) := by
  unfold State.eventAt
  repeat' (first | with_reducible exact Or.inr rfl | with_reducible exact sub_of hP (by decide) | intro _ | with_reducible exact hs
                 | with_reducible assumption | with_reducible exact Or.inl (hP _ (by decide))
                 | with_reducible exact may_block (hP _ (by decide)) | with_reducible apply only_ite
                 | with_reducible apply only_answerWith | with_reducible apply only_putHost | simp only [↓only_mk]
                 | with_reducible apply parts_of | split | (dsimp only; split))

theorem only_raiseEvent {P : List Part} {s0 : State} {s : State} {e : Event} (hs : Only P s0 s) (hP : ∀ p ∈ ([.host] : List Part), p ∈
    P) :
    Only P s0 (State.raiseEvent s e) := by
  unfold State.raiseEvent
  repeat' (first | with_reducible exact sub_of hP (by decide) | intro _ | with_reducible exact hs | with_reducible assumption
                 | with_reducible exact may_block (hP _ (by decide)) | with_reducible apply only_foldl
                 | with_reducible apply only_eventAt)

theorem only_logError {P : List Part} {s0 : State} {s : State} {sqid cid : Nat} {st : Status} {nsid lba : Nat} (hs : Only P s0 s) (hP
    : ∀ p ∈ ([.host] : List Part), p ∈ P) :
    Only P s0 (State.logError s sqid cid st nsid lba) := by
  unfold State.logError
  repeat' (first | with_reducible exact Or.inr rfl | with_reducible exact sub_of hP (by decide) | intro _ | with_reducible exact hs
                 | with_reducible assumption | with_reducible exact Or.inl (hP _ (by decide))
                 | with_reducible exact may_block (hP _ (by decide)) | with_reducible apply only_putHost | simp only [↓only_mk]
                 | with_reducible apply parts_of)

theorem only_setCritical {P : List Part} {s0 : State} {s : State} {bit : Nat} (hs : Only P s0 s) (hP : ∀ p ∈ ([.host] : List Part), p
    ∈ P) :
    Only P s0 (State.setCritical s bit) := by
  unfold State.setCritical
  repeat' (first | with_reducible exact Or.inr rfl | with_reducible exact sub_of hP (by decide) | intro _ | with_reducible exact hs
                 | with_reducible assumption | with_reducible exact Or.inl (hP _ (by decide))
                 | with_reducible exact may_block (hP _ (by decide)) | with_reducible apply only_ite
                 | with_reducible apply only_putHost | with_reducible apply only_raiseEvent | with_reducible apply only_setBit
                 | simp only [↓only_mk] | with_reducible apply parts_of | split | (dsimp only; split))

theorem only_putOffice {P : List Part} {s0 : State} {s : State} {o : Office} (hs : Only P s0 s) (hP : ∀ p ∈ ([.office] : List Part), p
    ∈ P) :
    Only P s0 (State.putOffice s o) := by
  unfold State.putOffice
  repeat' (first | with_reducible exact Or.inr rfl | with_reducible exact sub_of hP (by decide) | intro _ | with_reducible exact hs
                 | with_reducible assumption | with_reducible exact Or.inl (hP _ (by decide))
                 | with_reducible exact may_block (hP _ (by decide)) | simp only [↓only_mk] | with_reducible apply parts_of)

theorem only_putMap {P : List Part} {s0 : State} {s : State} {lpn e : Nat} (hs : Only P s0 s) (hP : ∀ p ∈ ([.reg 0x4000, .reg 0x4020,
    .reg 0x4061, .reg 0x4063, .reg 0x4071, .reg 0x4072, .cells, .desk, .ldg, .out, .bags, .mem, .host, .pwr] : List Part), p ∈ P) :
    Only P s0 (State.putMap s lpn e) := by
  unfold State.putMap
  repeat' (first | with_reducible exact sub_of hP (by decide) | intro _ | with_reducible exact hs | with_reducible assumption
                 | with_reducible exact may_block (hP _ (by decide)) | with_reducible apply only_unitStore)

theorem only_applyTriple {P : List Part} {s0 : State} {s : State} {t : Nat × Nat × Nat} (hs : Only P s0 s) (hP : ∀ p ∈ ([.reg 0x4000,
    .reg 0x4020, .reg 0x4040, .reg 0x4061, .reg 0x4063, .reg 0x4071, .reg 0x4072, .cells, .desk, .ldg, .out, .bags, .mem, .host, .pwr]
    : List Part), p ∈ P) :
    Only P s0 (State.applyTriple s t).1 := by
  unfold State.applyTriple
  repeat' (first | with_reducible exact Or.inr rfl | with_reducible exact sub_of hP (by decide) | intro _ | with_reducible exact hs
                 | with_reducible assumption | with_reducible exact Or.inl (hP _ (by decide))
                 | with_reducible exact may_block (hP _ (by decide)) | with_reducible apply only_ite | with_reducible apply only_inc
                 | with_reducible apply only_putMap | simp only [↓only_mk] | with_reducible apply parts_of | split
                 | (dsimp only; split))

theorem only_applyTriples {P : List Part} {s0 : State} {s : State} {l : List (Nat × Nat × Nat)} (hs : Only P s0 s) (hP : ∀ p ∈ ([.reg
    0x4000, .reg 0x4020, .reg 0x4040, .reg 0x4061, .reg 0x4063, .reg 0x4071, .reg 0x4072, .cells, .desk, .ldg, .out, .bags, .mem,
    .host, .pwr] : List Part), p ∈ P) :
    Only P s0 (State.applyTriples s l).1 := by
  induction l generalizing s with
  | nil => exact hs
  | cons h t ih =>
    unfold State.applyTriples
    repeat' (first | with_reducible exact sub_of hP (by decide) | intro _ | with_reducible exact hs | with_reducible assumption
                   | with_reducible apply ih | with_reducible exact may_block (hP _ (by decide))
                   | with_reducible apply only_applyTriple | with_reducible apply only_applyTriples)

theorem only_switchJob {P : List Part} {s0 : State} {s : State} {ts : List (Nat × Nat × Nat)} (hs : Only P s0 s) (hP : ∀ p ∈ ([.reg
    0x4000, .reg 0x4020, .reg 0x4040, .reg 0x4061, .reg 0x4063, .reg 0x4071, .reg 0x4072, .cells, .desk, .ldg, .out, .bags, .mem,
    .host, .pwr] : List Part), p ∈ P) :
    Only P s0 (State.switchJob s ts).1 := by
  unfold State.switchJob
  repeat' (first | with_reducible exact Or.inr rfl | with_reducible exact sub_of hP (by decide) | intro _ | with_reducible exact hs
                 | with_reducible assumption | with_reducible exact Or.inl (hP _ (by decide))
                 | with_reducible exact may_block (hP _ (by decide)) | with_reducible apply only_applyTriples
                 | with_reducible apply only_set | simp only [↓only_mk] | with_reducible apply parts_of)

theorem only_sofRefresh {P : List Part} {s0 : State} {s : State} (hs : Only P s0 s) (hP : ∀ p ∈ ([.reg 0x4040] : List Part), p ∈ P) :
    Only P s0 (State.sofRefresh s) := by
  unfold State.sofRefresh
  repeat' (first | with_reducible exact sub_of hP (by decide) | intro _ | with_reducible exact hs | with_reducible assumption
                 | with_reducible exact may_block (hP _ (by decide)) | with_reducible apply only_ite | with_reducible apply only_set
                 | split | (dsimp only; split))

theorem only_sofResult {P : List Part} {s0 : State} {s : State} {tag status applied refused seq : Nat} (hs : Only P s0 s) (hP : ∀ p ∈
    ([.reg 0x4000, .reg 0x4020, .reg 0x4040, .reg 0x4061, .reg 0x4063, .reg 0x4071, .reg 0x4072, .cells, .desk, .ldg, .out, .bags,
    .mem, .host, .pwr] : List Part), p ∈ P) :
    Only P s0 (State.sofResult s tag status applied refused seq) := by
  unfold State.sofResult
  repeat' (first | with_reducible exact sub_of hP (by decide) | intro _ | with_reducible exact hs | with_reducible assumption
                 | with_reducible exact may_block (hP _ (by decide)) | with_reducible apply only_ite | with_reducible apply only_set
                 | with_reducible apply only_sofRefresh | with_reducible apply only_unitWords | split | (dsimp only; split))

theorem only_sofTake {P : List Part} {s0 : State} {s : State} {pick : Nat → Bool} {f : Nat → Nat → Nat → Nat → State → State} (hs :
    Only P s0 s) (hf : ∀ x0 x1 x2 x3 s, Only P s0 s → Only P s0 (f x0 x1 x2 x3 s)) (hP : ∀ p ∈ ([.reg 0x4000, .reg 0x4020, .reg
    0x4040, .reg 0x4061, .reg 0x4063, .reg 0x4071, .reg 0x4072, .cells, .desk, .ldg, .out, .bags, .mem, .host, .pwr] : List Part), p ∈
    P) :
    Only P s0 (State.sofTake s pick f) := by
  unfold State.sofTake
  repeat' (first | with_reducible exact sub_of hP (by decide) | intro _ | with_reducible exact hs | with_reducible assumption
                 | with_reducible exact may_block (hP _ (by decide)) | with_reducible apply only_ite | with_reducible apply only_set
                 | with_reducible apply only_sofResult | with_reducible apply hf | split | (dsimp only; split))

theorem only_journal {P : List Part} {s0 : State} {s : State} {r : JRec} (hs : Only P s0 s) (hP : ∀ p ∈ ([.office] : List Part), p ∈
    P) :
    Only P s0 (State.journal s r) := by
  unfold State.journal
  repeat' (first | with_reducible exact Or.inr rfl | with_reducible exact sub_of hP (by decide) | intro _ | with_reducible exact hs
                 | with_reducible assumption | with_reducible exact Or.inl (hP _ (by decide))
                 | with_reducible exact may_block (hP _ (by decide)) | with_reducible apply only_putOffice | simp only [↓only_mk]
                 | with_reducible apply parts_of)

theorem only_floorCheck {P : List Part} {s0 : State} {s : State} (hs : Only P s0 s) (hP : ∀ p ∈ ([.office, .host] : List Part), p ∈ P) :
    Only P s0 (State.floorCheck s) := by
  unfold State.floorCheck
  repeat' (first | with_reducible exact Or.inr rfl | with_reducible exact sub_of hP (by decide) | intro _ | with_reducible exact hs
                 | with_reducible assumption | with_reducible exact Or.inl (hP _ (by decide))
                 | with_reducible exact may_block (hP _ (by decide)) | with_reducible apply only_ite
                 | with_reducible apply only_putOffice | with_reducible apply only_raiseEvent | simp only [↓only_mk]
                 | with_reducible apply parts_of | split | (dsimp only; split))

theorem only_setBands {P : List Part} {s0 : State} {s : State} {l : List (Nat × Band)} (hs : Only P s0 s) (hP : ∀ p ∈ ([.reg 0x4000,
    .reg 0x4020, .reg 0x4040, .reg 0x4061, .reg 0x4063, .reg 0x4071, .reg 0x4072, .cells, .desk, .ldg, .out, .bags, .mem, .office,
    .host, .pwr] : List Part), p ∈ P) :
    Only P s0 (State.setBands s l) := by
  unfold State.setBands
  repeat' (first | with_reducible exact Or.inr rfl | with_reducible exact sub_of hP (by decide) | intro _ | with_reducible exact hs
                 | with_reducible assumption | with_reducible exact Or.inl (hP _ (by decide))
                 | with_reducible exact may_block (hP _ (by decide)) | with_reducible apply only_foldl
                 | with_reducible apply only_floorCheck | with_reducible apply only_journal | with_reducible apply only_putOffice
                 | with_reducible apply only_switchJob | simp only [↓only_mk] | with_reducible apply parts_of)

theorem only_addValid {P : List Part} {s0 : State} {s : State} {k : Nat} {up : Bool} (hs : Only P s0 s) (hP : ∀ p ∈ ([.office] : List
    Part), p ∈ P) :
    Only P s0 (State.addValid s k up) := by
  unfold State.addValid
  repeat' (first | with_reducible exact Or.inr rfl | with_reducible exact sub_of hP (by decide) | intro _ | with_reducible exact hs
                 | with_reducible assumption | with_reducible exact Or.inl (hP _ (by decide))
                 | with_reducible exact may_block (hP _ (by decide)) | with_reducible apply only_ite
                 | with_reducible apply only_putOffice | simp only [↓only_mk] | with_reducible apply parts_of | split
                 | (dsimp only; split))

theorem only_openGroup {P : List Part} {s0 : State} {s : State} {kind : Nat} (hs : Only P s0 s) (hP : ∀ p ∈ ([.reg 0x4000, .reg
    0x4020, .reg 0x4040, .reg 0x4061, .reg 0x4063, .reg 0x4071, .reg 0x4072, .cells, .desk, .ldg, .out, .bags, .mem, .office, .host,
    .pwr] : List Part), p ∈ P) :
    Only P s0 (State.openGroup s kind) := by
  unfold State.openGroup
  repeat' (first | with_reducible exact Or.inr rfl | with_reducible exact sub_of hP (by decide) | intro _ | with_reducible exact hs
                 | with_reducible assumption | with_reducible exact Or.inl (hP _ (by decide))
                 | with_reducible exact may_block (hP _ (by decide)) | with_reducible apply only_ite
                 | with_reducible apply only_putOffice | with_reducible apply only_setBands
                 | with_reducible apply only_fst ‹_ = (_, _)› | simp only [↓only_mk] | with_reducible apply parts_of | split
                 | (dsimp only; split))

theorem only_closeGroup {P : List Part} {s0 : State} {s : State} {g : Nat} (hs : Only P s0 s) (hP : ∀ p ∈ ([.reg 0x4000, .reg 0x4020,
    .reg 0x4040, .reg 0x4061, .reg 0x4063, .reg 0x4071, .reg 0x4072, .cells, .desk, .ldg, .out, .bags, .mem, .office, .host, .pwr] :
    List Part), p ∈ P) :
    Only P s0 (State.closeGroup s g) := by
  unfold State.closeGroup
  repeat' (first | with_reducible exact Or.inr rfl | with_reducible exact sub_of hP (by decide) | intro _ | with_reducible exact hs
                 | with_reducible assumption | with_reducible exact Or.inl (hP _ (by decide))
                 | with_reducible exact may_block (hP _ (by decide)) | with_reducible apply only_ite
                 | with_reducible apply only_putOffice | with_reducible apply only_setBands | simp only [↓only_mk]
                 | with_reducible apply parts_of | split | (dsimp only; split))

theorem only_groupPut {P : List Part} {s0 : State} {s : State} {kind : Nat} {lpns : List Nat} {pad : Bool} (hs : Only P s0 s) (hP : ∀
    p ∈ ([.reg 0x4000, .reg 0x4020, .reg 0x4040, .reg 0x4061, .reg 0x4063, .reg 0x4071, .reg 0x4072, .cells, .desk, .ldg, .out, .bags,
    .mem, .office, .host, .pwr] : List Part), p ∈ P) :
    Only P s0 (State.groupPut s kind lpns pad).1 := by
  unfold State.groupPut
  repeat' (first | with_reducible exact Or.inr rfl | with_reducible exact sub_of hP (by decide) | intro _ | with_reducible exact hs
                 | with_reducible assumption | with_reducible exact Or.inl (hP _ (by decide))
                 | with_reducible exact may_block (hP _ (by decide)) | with_reducible apply only_ite
                 | with_reducible apply only_closeGroup | with_reducible apply only_openGroup | with_reducible apply only_putOffice
                 | with_reducible apply only_fst ‹_ = (_, _)› | simp only [↓only_mk] | with_reducible apply parts_of | split
                 | (dsimp only; split))

theorem only_addUnit {P : List Part} {s0 : State} {s : State} {u : CommitUnit} (hs : Only P s0 s) (hP : ∀ p ∈ ([.office] : List Part),
    p ∈ P) :
    Only P s0 (State.addUnit s u) := by
  unfold State.addUnit
  repeat' (first | with_reducible exact Or.inr rfl | with_reducible exact sub_of hP (by decide) | intro _ | with_reducible exact hs
                 | with_reducible assumption | with_reducible exact Or.inl (hP _ (by decide))
                 | with_reducible exact may_block (hP _ (by decide)) | with_reducible apply only_putOffice | simp only [↓only_mk]
                 | with_reducible apply parts_of)

theorem only_fcPlace {P : List Part} {s0 : State} {s : State} {lpn mask : Nat} (hs : Only P s0 s) (hP : ∀ p ∈ ([.office] : List Part),
    p ∈ P) :
    Only P s0 (State.fcPlace s lpn mask).1 := by
  unfold State.fcPlace
  repeat' (first | with_reducible exact Or.inr rfl | with_reducible exact sub_of hP (by decide) | intro _ | with_reducible exact hs
                 | with_reducible assumption | with_reducible exact Or.inl (hP _ (by decide))
                 | with_reducible exact may_block (hP _ (by decide)) | with_reducible apply only_ite
                 | with_reducible apply only_putOffice | with_reducible apply only_fst ‹_ = (_, _)› | simp only [↓only_mk]
                 | with_reducible apply parts_of | split | (dsimp only; split))

theorem only_fcPlaceAll {P : List Part} {s0 s : State} {l : List (Nat × Nat)} {ts : List (Nat × Nat × Nat)} {fs : List (Nat × FcSlot)}
    (hs : Only P s0 s) (hP : ∀ p ∈ ([.office] : List Part), p ∈ P) : Only P s0 (s.fcPlaceAll l ts fs).1 := by
  induction l generalizing s ts fs with
  | nil => exact hs
  | cons p r ih =>
    obtain ⟨lpn, m⟩ := p
    have hp := only_fcPlace (lpn := lpn) (mask := m) hs (sub_of hP (by decide))
    unfold State.fcPlaceAll
    split
    · rename_i h
      rw [h] at hp
      exact hp
    · rename_i h
      rw [h] at hp
      exact ih (only_putOffice hp (sub_of hP (by decide)))

theorem only_placeUnit {P : List Part} {s0 : State} {s : State} {lpns : List (Nat × Nat)} {extra : List (Nat × Nat × Nat)} {kind :
    UnitKind} {tray : List (Nat × Nat × Nat)} {key : Option (Nat × Nat × Nat × Nat)} (hs : Only P s0 s) (hP : ∀ p ∈ ([.office] : List
    Part), p ∈ P) :
    Only P s0 (State.placeUnit s lpns extra kind tray key) := by
  unfold State.placeUnit
  repeat' (first | with_reducible exact Or.inr rfl | with_reducible exact sub_of hP (by decide) | intro _ | with_reducible exact hs
                 | with_reducible assumption | with_reducible exact Or.inl (hP _ (by decide))
                 | with_reducible exact may_block (hP _ (by decide)) | with_reducible apply only_ite
                 | with_reducible apply only_addUnit | with_reducible apply only_fcPlaceAll | with_reducible apply only_putOffice
                 | with_reducible apply only_fst ‹_ = (_, _)› | simp only [↓only_mk] | with_reducible apply parts_of | split
                 | (dsimp only; split))

theorem only_bundleAdd {P : List Part} {s0 : State} {s : State} {nsid key vlen : Nat} (hs : Only P s0 s) (hP : ∀ p ∈ ([.office] : List
    Part), p ∈ P) :
    Only P s0 (State.bundleAdd s nsid key vlen) := by
  unfold State.bundleAdd
  repeat' (first | with_reducible exact Or.inr rfl | with_reducible exact sub_of hP (by decide) | intro _ | with_reducible exact hs
                 | with_reducible assumption | with_reducible exact Or.inl (hP _ (by decide))
                 | with_reducible exact may_block (hP _ (by decide)) | with_reducible apply only_foldl
                 | with_reducible apply only_putOffice | with_reducible apply only_fst ‹_ = (_, _)› | simp only [↓only_mk]
                 | with_reducible apply parts_of | split | (dsimp only; split))

theorem only_putZone {P : List Part} {s0 : State} {s : State} {nsid k : Nat} {z : HZone} (hs : Only P s0 s) (hP : ∀ p ∈ ([.host] :
    List Part), p ∈ P) :
    Only P s0 (State.putZone s nsid k z) := by
  unfold State.putZone
  repeat' (first | with_reducible exact Or.inr rfl | with_reducible exact sub_of hP (by decide) | intro _ | with_reducible exact hs
                 | with_reducible assumption | with_reducible exact Or.inl (hP _ (by decide))
                 | with_reducible exact may_block (hP _ (by decide)) | with_reducible apply only_putHost | simp only [↓only_mk]
                 | with_reducible apply parts_of | split | (dsimp only; split))

theorem only_shutBands {P : List Part} {s0 : State} {s : State} {g : Nat} {members : List Nat} (hs : Only P s0 s) (hP : ∀ p ∈ ([.reg
    0x4000, .reg 0x4020, .reg 0x4040, .reg 0x4061, .reg 0x4063, .reg 0x4071, .reg 0x4072, .cells, .desk, .ldg, .out, .bags, .mem,
    .office, .host, .pwr] : List Part), p ∈ P) :
    Only P s0 (State.shutBands s g members) := by
  unfold State.shutBands
  repeat' (first | with_reducible exact Or.inr rfl | with_reducible exact sub_of hP (by decide) | intro _ | with_reducible exact hs
                 | with_reducible assumption | with_reducible exact Or.inl (hP _ (by decide))
                 | with_reducible exact may_block (hP _ (by decide)) | with_reducible apply only_ite
                 | with_reducible apply only_closeGroup | with_reducible apply only_putOffice | with_reducible apply only_setBands
                 | with_reducible apply only_fst ‹_ = (_, _)› | simp only [↓only_mk] | with_reducible apply parts_of | split
                 | (dsimp only; split))

theorem only_settleZones {P : List Part} {s0 : State} {s : State} {g : Nat} (hs : Only P s0 s) (hP : ∀ p ∈ ([.reg 0x4000, .reg 0x4020,
    .reg 0x4040, .reg 0x4061, .reg 0x4063, .reg 0x4071, .reg 0x4072, .cells, .desk, .ldg, .out, .bags, .mem, .office, .host, .pwr] :
    List Part), p ∈ P) :
    Only P s0 (State.settleZones s g) := by
  unfold State.settleZones
  repeat' (first | with_reducible exact sub_of hP (by decide) | intro _ | with_reducible exact hs | with_reducible assumption
                 | with_reducible exact may_block (hP _ (by decide)) | with_reducible apply only_ite
                 | with_reducible apply only_shutBands | split | (dsimp only; split))

theorem only_ageZoneSets {P : List Part} {s0 : State} {s : State} (hs : Only P s0 s) (hP : ∀ p ∈ ([.reg 0x4000, .reg 0x4020, .reg
    0x4040, .reg 0x4061, .reg 0x4063, .reg 0x4071, .reg 0x4072, .cells, .desk, .ldg, .out, .bags, .mem, .office, .host, .pwr] : List
    Part), p ∈ P) :
    Only P s0 (State.ageZoneSets s) := by
  unfold State.ageZoneSets
  repeat' (first | with_reducible exact Or.inr rfl | with_reducible exact sub_of hP (by decide) | intro _ | with_reducible exact hs
                 | with_reducible assumption | with_reducible exact Or.inl (hP _ (by decide))
                 | with_reducible exact may_block (hP _ (by decide)) | with_reducible apply only_foldl
                 | with_reducible apply only_shutBands | simp only [↓only_mk] | with_reducible apply parts_of)

theorem only_bindZone {P : List Part} {s0 : State} {s : State} {nsid k : Nat} {z : HZone} (hs : Only P s0 s) (hP : ∀ p ∈ ([.reg
    0x4000, .reg 0x4020, .reg 0x4040, .reg 0x4061, .reg 0x4063, .reg 0x4071, .reg 0x4072, .cells, .desk, .ldg, .out, .bags, .mem,
    .office, .host, .pwr] : List Part), p ∈ P) :
    Only P s0 (State.bindZone s nsid k z) := by
  unfold State.bindZone
  repeat' (first | with_reducible exact Or.inr rfl | with_reducible exact sub_of hP (by decide) | intro _ | with_reducible exact hs
                 | with_reducible assumption | with_reducible exact Or.inl (hP _ (by decide))
                 | with_reducible exact may_block (hP _ (by decide)) | with_reducible apply only_ite
                 | with_reducible apply only_openGroup | with_reducible apply only_putZone
                 | with_reducible apply only_fst ‹_ = (_, _)› | simp only [↓only_mk] | with_reducible apply parts_of | split
                 | (dsimp only; split))

theorem only_zoneLag {P : List Part} {s0 : State} {s : State} {g : Nat} (hs : Only P s0 s) (hP : ∀ p ∈ ([.host] : List Part), p ∈ P) :
    Only P s0 (State.zoneLag s g) := by
  unfold State.zoneLag
  repeat' (first | with_reducible exact Or.inr rfl | with_reducible exact sub_of hP (by decide) | intro _ | with_reducible exact hs
                 | with_reducible assumption | with_reducible exact Or.inl (hP _ (by decide))
                 | with_reducible exact may_block (hP _ (by decide)) | with_reducible apply only_ite | with_reducible apply only_foldl
                 | with_reducible apply only_putZone | simp only [↓only_mk] | with_reducible apply parts_of | split
                 | (dsimp only; split))

theorem only_zoneUnit {P : List Part} {s0 : State} {s : State} {g : Nat} (hs : Only P s0 s) (hP : ∀ p ∈ ([.office] : List Part), p ∈
    P) :
    Only P s0 (State.zoneUnit s g) := by
  unfold State.zoneUnit
  repeat' (first | with_reducible exact Or.inr rfl | with_reducible exact sub_of hP (by decide) | intro _ | with_reducible exact hs
                 | with_reducible assumption | with_reducible exact Or.inl (hP _ (by decide))
                 | with_reducible exact may_block (hP _ (by decide)) | with_reducible apply only_ite
                 | with_reducible apply only_addUnit | simp only [↓only_mk] | with_reducible apply parts_of | split
                 | (dsimp only; split))

theorem only_placeZone {P : List Part} {s0 : State} {s : State} {nsid : Nat} {n : Ns} {k : Nat} (hs : Only P s0 s) (hP : ∀ p ∈ ([.reg
    0x4000, .reg 0x4020, .reg 0x4040, .reg 0x4061, .reg 0x4063, .reg 0x4071, .reg 0x4072, .cells, .desk, .ldg, .out, .bags, .mem,
    .office, .host, .pwr] : List Part), p ∈ P) :
    Only P s0 (State.placeZone s nsid n k) := by
  unfold State.placeZone
  repeat' (first | with_reducible exact Or.inr rfl | with_reducible exact sub_of hP (by decide) | intro _ | with_reducible exact hs
                 | with_reducible assumption | with_reducible exact Or.inl (hP _ (by decide))
                 | with_reducible exact may_block (hP _ (by decide)) | with_reducible apply only_ite
                 | with_reducible apply only_bindZone | with_reducible apply only_placeUnit | with_reducible apply only_putOffice
                 | with_reducible apply only_putZone | with_reducible apply only_settleZones | with_reducible apply only_zoneLag
                 | with_reducible apply only_zoneUnit | with_reducible apply only_fst ‹_ = (_, _)› | simp only [↓only_mk]
                 | with_reducible apply parts_of | split | (dsimp only; split))

theorem only_leavePlace {P : List Part} {s0 : State} {s : State} {e seq : Nat} {lpn : Nat} {fcGone : Bool} {reads : Nat} (hs : Only P
    s0 s) (hP : ∀ p ∈ ([.office] : List Part), p ∈ P) :
    Only P s0 (State.leavePlace s e seq lpn fcGone reads) := by
  unfold State.leavePlace
  repeat' (first | with_reducible exact Or.inr rfl | with_reducible exact sub_of hP (by decide) | intro _ | with_reducible exact hs
                 | with_reducible assumption | with_reducible exact Or.inl (hP _ (by decide))
                 | with_reducible exact may_block (hP _ (by decide)) | with_reducible apply only_ite
                 | with_reducible apply only_addValid | with_reducible apply only_putOffice | simp only [↓only_mk]
                 | with_reducible apply parts_of | split | (dsimp only; split))

theorem only_settle {P : List Part} {s0 : State} {s : State} {seq reads : Nat} {slots : List (Nat × FcSlot)} {t : Nat × Nat × Nat} (hs
    : Only P s0 s) (hP : ∀ p ∈ ([.rcv, .office] : List Part), p ∈ P) :
    Only P s0 (State.settle s seq reads slots t) := by
  unfold State.settle
  repeat' (first | with_reducible exact Or.inr rfl | with_reducible exact sub_of hP (by decide) | intro _ | with_reducible exact hs
                 | with_reducible assumption | with_reducible exact Or.inl (hP _ (by decide))
                 | with_reducible exact may_block (hP _ (by decide)) | with_reducible apply only_ite
                 | with_reducible apply only_addValid | with_reducible apply only_leavePlace | with_reducible apply only_putOffice
                 | simp only [↓only_mk] | with_reducible apply parts_of | split | (dsimp only; split))

theorem only_unlist {P : List Part} {s0 : State} {s : State} {lpn mask : Nat} (hs : Only P s0 s) (hP : ∀ p ∈ ([.reg 0x4000, .reg
    0x4020, .reg 0x4040, .reg 0x4061, .reg 0x4063, .reg 0x4071, .reg 0x4072, .cells, .desk, .ldg, .out, .bags, .mem, .office, .host,
    .pwr] : List Part), p ∈ P) :
    Only P s0 (State.unlist s lpn mask) := by
  unfold State.unlist
  repeat' (first | with_reducible exact Or.inr rfl | with_reducible exact sub_of hP (by decide) | intro _ | with_reducible exact hs
                 | with_reducible assumption | with_reducible exact Or.inl (hP _ (by decide))
                 | with_reducible exact may_block (hP _ (by decide)) | with_reducible apply only_ite
                 | with_reducible apply only_journal | with_reducible apply only_putOffice | with_reducible apply only_switchJob
                 | simp only [↓only_mk] | with_reducible apply parts_of | split | (dsimp only; split))

theorem only_trayPlaced {P : List Part} {s0 : State} {s : State} {serial lo n : Nat} (hs : Only P s0 s) (hP : ∀ p ∈ ([.reg 0x4000,
    .reg 0x4020, .reg 0x4060, .reg 0x4071, .reg 0x4072, .regs, .desk, .ldg, .out, .bags, .host, .pwr] : List Part), p ∈ P) :
    Only P s0 (State.trayPlaced s serial lo n) := by
  unfold State.trayPlaced
  repeat' (first | with_reducible exact Or.inr rfl | with_reducible exact sub_of hP (by decide) | intro _ | with_reducible exact hs
                 | with_reducible assumption | with_reducible exact Or.inl (hP _ (by decide))
                 | with_reducible exact may_block (hP _ (by decide)) | with_reducible exact may_any (hP _ (by decide))
                 | with_reducible apply only_ite | with_reducible apply only_bagReleaseAll | with_reducible apply only_putHost
                 | simp only [↓only_mk] | with_reducible apply parts_of | split | (dsimp only; split))

theorem only_itrayRefresh {P : List Part} {s0 : State} {s : State} (hs : Only P s0 s) (hP : ∀ p ∈ ([.reg 0x4053] : List Part), p ∈ P) :
    Only P s0 (State.itrayRefresh s) := by
  unfold State.itrayRefresh
  repeat' (first | with_reducible exact sub_of hP (by decide) | intro _ | with_reducible exact hs | with_reducible assumption
                 | with_reducible exact may_block (hP _ (by decide)) | with_reducible apply only_set)

theorem only_trayDone {P : List Part} {s0 : State} {s : State} {u : CommitUnit} {done : List (Nat × Nat × Nat)} (hs : Only P s0 s) (hP
    : ∀ p ∈ ([.reg 0x4000, .reg 0x4020, .reg 0x4060, .reg 0x4071, .reg 0x4072, .regs, .desk, .ldg, .out, .bags, .host, .pwr] : List
    Part), p ∈ P) :
    Only P s0 (State.trayDone s u done) := by
  unfold State.trayDone
  repeat' (first | with_reducible exact sub_of hP (by decide) | intro _ | with_reducible exact hs | with_reducible assumption
                 | with_reducible exact may_block (hP _ (by decide)) | with_reducible exact may_any (hP _ (by decide))
                 | with_reducible apply only_foldl | with_reducible apply only_trayPlaced)

theorem only_zonesAgain {P : List Part} {s0 : State} {s : State} {ts : List (Nat × Nat × Nat)} (hs : Only P s0 s) (hP : ∀ p ∈
    ([.office] : List Part), p ∈ P) :
    Only P s0 (State.zonesAgain s ts) := by
  unfold State.zonesAgain
  repeat' (first | with_reducible exact Or.inr rfl | with_reducible exact sub_of hP (by decide) | intro _ | with_reducible exact hs
                 | with_reducible assumption | with_reducible exact Or.inl (hP _ (by decide))
                 | with_reducible exact may_block (hP _ (by decide)) | with_reducible apply only_foldl
                 | with_reducible apply only_zoneUnit | simp only [↓only_mk] | with_reducible apply parts_of)

theorem only_failBand {P : List Part} {s0 : State} {s : State} {surface area : Nat} (hs : Only P s0 s) (hP : ∀ p ∈ ([.reg 0x4000, .reg
    0x4020, .reg 0x4040, .reg 0x4061, .reg 0x4063, .reg 0x4071, .reg 0x4072, .cells, .desk, .ldg, .out, .bags, .mem, .office, .host,
    .pwr] : List Part), p ∈ P) :
    Only P s0 (State.failBand s surface area) := by
  unfold State.failBand
  repeat' (first | with_reducible exact Or.inr rfl | with_reducible exact sub_of hP (by decide) | intro _ | with_reducible exact hs
                 | with_reducible assumption | with_reducible exact Or.inl (hP _ (by decide))
                 | with_reducible exact may_block (hP _ (by decide)) | with_reducible apply only_ite
                 | with_reducible apply only_closeGroup | with_reducible apply only_putOffice | with_reducible apply only_setBands
                 | simp only [↓only_mk] | with_reducible apply parts_of | split | (dsimp only; split))

theorem only_freeGroup {P : List Part} {s0 : State} {s : State} {g : Nat} {e : Group} (hs : Only P s0 s) (hP : ∀ p ∈ ([.reg 0x4000,
    .reg 0x4020, .reg 0x4040, .reg 0x4061, .reg 0x4063, .reg 0x4071, .reg 0x4072, .cells, .desk, .ldg, .out, .bags, .mem, .office,
    .host, .pwr] : List Part), p ∈ P) :
    Only P s0 (State.freeGroup s g e) := by
  unfold State.freeGroup
  repeat' (first | with_reducible exact Or.inr rfl | with_reducible exact sub_of hP (by decide) | intro _ | with_reducible exact hs
                 | with_reducible assumption | with_reducible exact Or.inl (hP _ (by decide))
                 | with_reducible exact may_block (hP _ (by decide)) | with_reducible apply only_ite
                 | with_reducible apply only_putOffice | with_reducible apply only_setBands | simp only [↓only_mk]
                 | with_reducible apply parts_of | split | (dsimp only; split))

theorem only_freeGroups {P : List Part} {s0 : State} {s : State} {opened : Bool} (hs : Only P s0 s) (hP : ∀ p ∈ ([.reg 0x4000, .reg
    0x4020, .reg 0x4040, .reg 0x4061, .reg 0x4063, .reg 0x4071, .reg 0x4072, .cells, .desk, .ldg, .out, .bags, .mem, .office, .host,
    .pwr] : List Part), p ∈ P) :
    Only P s0 (State.freeGroups s opened) := by
  unfold State.freeGroups
  repeat' (first | with_reducible exact Or.inr rfl | with_reducible exact sub_of hP (by decide) | intro _ | with_reducible exact hs
                 | with_reducible assumption | with_reducible exact Or.inl (hP _ (by decide))
                 | with_reducible exact may_block (hP _ (by decide)) | with_reducible apply only_foldl
                 | with_reducible apply only_freeGroup | simp only [↓only_mk] | with_reducible apply parts_of)

theorem only_growPair {P : List Part} {s0 : State} {s : State} (hs : Only P s0 s) (hP : ∀ p ∈ ([.reg 0x4000, .reg 0x4020, .reg 0x4040,
    .reg 0x4061, .reg 0x4063, .reg 0x4071, .reg 0x4072, .cells, .desk, .ldg, .out, .bags, .mem, .office, .host, .pwr] : List Part), p
    ∈ P) :
    Only P s0 (State.growPair s) := by
  unfold State.growPair
  repeat' (first | with_reducible exact Or.inr rfl | with_reducible exact sub_of hP (by decide) | intro _ | with_reducible exact hs
                 | with_reducible assumption | with_reducible exact Or.inl (hP _ (by decide))
                 | with_reducible exact may_block (hP _ (by decide)) | with_reducible apply only_ite
                 | with_reducible apply only_putOffice | with_reducible apply only_setBands
                 | with_reducible apply only_fst ‹_ = (_, _)› | simp only [↓only_mk] | with_reducible apply parts_of | split
                 | (dsimp only; split))

theorem only_growPairs {P : List Part} {s0 : State} {s : State} {n : Nat} (hs : Only P s0 s) (hP : ∀ p ∈ ([.reg 0x4000, .reg 0x4020,
    .reg 0x4040, .reg 0x4061, .reg 0x4063, .reg 0x4071, .reg 0x4072, .cells, .desk, .ldg, .out, .bags, .mem, .office, .host, .pwr] :
    List Part), p ∈ P) :
    Only P s0 (State.growPairs s n) := by
  induction n generalizing s with
  | zero => exact hs
  | succ n ih =>
    unfold State.growPairs
    repeat' (first | with_reducible exact sub_of hP (by decide) | intro _ | with_reducible exact hs | with_reducible assumption
                   | with_reducible apply ih | with_reducible exact may_block (hP _ (by decide)) | with_reducible apply only_ite
                   | with_reducible apply only_growPair | with_reducible apply only_growPairs | split | (dsimp only; split))

theorem only_resizeFc {P : List Part} {s0 : State} {s : State} (hs : Only P s0 s) (hP : ∀ p ∈ ([.reg 0x4000, .reg 0x4020, .reg 0x4040,
    .reg 0x4061, .reg 0x4063, .reg 0x4071, .reg 0x4072, .cells, .desk, .ldg, .out, .bags, .mem, .office, .host, .pwr] : List Part), p
    ∈ P) :
    Only P s0 (State.resizeFc s) := by
  unfold State.resizeFc
  repeat' (first | with_reducible exact Or.inr rfl | with_reducible exact sub_of hP (by decide) | intro _ | with_reducible exact hs
                 | with_reducible assumption | with_reducible exact Or.inl (hP _ (by decide))
                 | with_reducible exact may_block (hP _ (by decide)) | with_reducible apply only_ite
                 | with_reducible apply only_growPairs | with_reducible apply only_journal | with_reducible apply only_putOffice
                 | with_reducible apply only_setBands | with_reducible apply only_switchJob | simp only [↓only_mk]
                 | with_reducible apply parts_of | split | (dsimp only; split))

theorem only_queueGroup {P : List Part} {s0 : State} {s : State} {key : Nat} (hs : Only P s0 s) (hP : ∀ p ∈ ([.office] : List Part), p
    ∈ P) :
    Only P s0 (State.queueGroup s key) := by
  unfold State.queueGroup
  repeat' (first | with_reducible exact Or.inr rfl | with_reducible exact sub_of hP (by decide) | intro _ | with_reducible exact hs
                 | with_reducible assumption | with_reducible exact Or.inl (hP _ (by decide))
                 | with_reducible exact may_block (hP _ (by decide)) | with_reducible apply only_ite
                 | with_reducible apply only_putOffice | simp only [↓only_mk] | with_reducible apply parts_of | split
                 | (dsimp only; split))

theorem only_forgetKey {P : List Part} {s0 : State} {s : State} {key : Nat} (hs : Only P s0 s) (hP : ∀ p ∈ ([.office] : List Part), p
    ∈ P) :
    Only P s0 (State.forgetKey s key) := by
  unfold State.forgetKey
  repeat' (first | with_reducible exact Or.inr rfl | with_reducible exact sub_of hP (by decide) | intro _ | with_reducible exact hs
                 | with_reducible assumption | with_reducible exact Or.inl (hP _ (by decide))
                 | with_reducible exact may_block (hP _ (by decide)) | with_reducible apply only_ite
                 | with_reducible apply only_putOffice | simp only [↓only_mk] | with_reducible apply parts_of | split
                 | (dsimp only; split))

theorem only_placeBundle {P : List Part} {s0 : State} {s : State} {k : Nat} {b : Bundle} (hs : Only P s0 s) (hP : ∀ p ∈ ([.office] :
    List Part), p ∈ P) :
    Only P s0 (State.placeBundle s k b) := by
  unfold State.placeBundle
  repeat' (first | with_reducible exact Or.inr rfl | with_reducible exact sub_of hP (by decide) | intro _ | with_reducible exact hs
                 | with_reducible assumption | with_reducible exact Or.inl (hP _ (by decide))
                 | with_reducible exact may_block (hP _ (by decide)) | with_reducible apply only_foldl
                 | with_reducible apply only_addUnit | with_reducible apply only_fcPlace | with_reducible apply only_putOffice
                 | with_reducible apply only_set | with_reducible apply only_fst ‹_ = (_, _)› | simp only [↓only_mk]
                 | with_reducible apply parts_of | split | (dsimp only; split))

theorem only_unmapAll {P : List Part} {s0 : State} {s : State} {lpns : List Nat} {type : Nat} (hs : Only P s0 s) (hP : ∀ p ∈ ([.reg
    0x4000, .reg 0x4020, .reg 0x4040, .reg 0x4061, .reg 0x4063, .reg 0x4071, .reg 0x4072, .cells, .desk, .ldg, .out, .rcv, .bags,
    .mem, .office, .host, .pwr] : List Part), p ∈ P) :
    Only P s0 (State.unmapAll s lpns type) := by
  unfold State.unmapAll
  repeat' (first | with_reducible exact Or.inr rfl | with_reducible exact sub_of hP (by decide) | intro _ | with_reducible exact hs
                 | with_reducible assumption | with_reducible exact Or.inl (hP _ (by decide))
                 | with_reducible exact may_block (hP _ (by decide)) | with_reducible apply only_ite | with_reducible apply only_foldl
                 | with_reducible apply only_journal | with_reducible apply only_putOffice | with_reducible apply only_settle
                 | with_reducible apply only_switchJob | simp only [↓only_mk] | with_reducible apply parts_of | split
                 | (dsimp only; split))

theorem only_zoneChanged {P : List Part} {s0 : State} {s : State} {nsid k : Nat} (hs : Only P s0 s) (hP : ∀ p ∈ ([.host] : List Part),
    p ∈ P) :
    Only P s0 (State.zoneChanged s nsid k) := by
  unfold State.zoneChanged
  repeat' (first | with_reducible exact Or.inr rfl | with_reducible exact sub_of hP (by decide) | intro _ | with_reducible exact hs
                 | with_reducible assumption | with_reducible exact Or.inl (hP _ (by decide))
                 | with_reducible exact may_block (hP _ (by decide)) | with_reducible apply only_ite
                 | with_reducible apply only_putHost | with_reducible apply only_raiseEvent | simp only [↓only_mk]
                 | with_reducible apply parts_of | split | (dsimp only; split))

theorem only_finishZone {P : List Part} {s0 : State} {s : State} {nsid k : Nat} {z : HZone} {byController : Bool} (hs : Only P s0 s)
    (hP : ∀ p ∈ ([.reg 0x4000, .reg 0x4020, .reg 0x4040, .reg 0x4061, .reg 0x4063, .reg 0x4071, .reg 0x4072, .cells, .desk, .ldg,
    .out, .bags, .mem, .office, .host, .pwr] : List Part), p ∈ P) :
    Only P s0 (State.finishZone s nsid k z byController) := by
  unfold State.finishZone
  repeat' (first | with_reducible exact Or.inr rfl | with_reducible exact sub_of hP (by decide) | intro _ | with_reducible exact hs
                 | with_reducible assumption | with_reducible exact Or.inl (hP _ (by decide))
                 | with_reducible exact may_block (hP _ (by decide)) | with_reducible apply only_journal
                 | with_reducible apply only_putZone | with_reducible apply only_settleZones | with_reducible apply only_switchJob
                 | with_reducible apply only_zoneLag | with_reducible apply only_zoneUnit | with_reducible apply only_fst ‹_ = (_, _)›
                 | simp only [↓only_mk] | with_reducible apply parts_of | split | (dsimp only; split))

theorem only_listUnreadable {P : List Part} {s0 : State} {s : State} {lpn sector : Nat} (hs : Only P s0 s) (hP : ∀ p ∈ ([.reg 0x4000,
    .reg 0x4020, .reg 0x4040, .reg 0x4061, .reg 0x4063, .reg 0x4071, .reg 0x4072, .cells, .desk, .ldg, .out, .bags, .mem, .office,
    .host, .pwr] : List Part), p ∈ P) :
    Only P s0 (State.listUnreadable s lpn sector) := by
  unfold State.listUnreadable
  repeat' (first | with_reducible exact Or.inr rfl | with_reducible exact sub_of hP (by decide) | intro _ | with_reducible exact hs
                 | with_reducible assumption | with_reducible exact Or.inl (hP _ (by decide))
                 | with_reducible exact may_block (hP _ (by decide)) | with_reducible apply only_ite
                 | with_reducible apply only_journal | with_reducible apply only_putOffice | with_reducible apply only_setCritical
                 | with_reducible apply only_switchJob | simp only [↓only_mk] | with_reducible apply parts_of | split
                 | (dsimp only; split))

theorem only_deferredError {P : List Part} {s0 : State} {s : State} {nsid first lpn sector : Nat} (hs : Only P s0 s) (hP : ∀ p ∈
    ([.reg 0x4000, .reg 0x4020, .reg 0x4040, .reg 0x4061, .reg 0x4063, .reg 0x4071, .reg 0x4072, .cells, .desk, .ldg, .out, .bags,
    .mem, .office, .host, .pwr] : List Part), p ∈ P) :
    Only P s0 (State.deferredError s nsid first lpn sector) := by
  unfold State.deferredError
  repeat' (first | with_reducible exact Or.inr rfl | with_reducible exact sub_of hP (by decide) | intro _ | with_reducible exact hs
                 | with_reducible assumption | with_reducible exact Or.inl (hP _ (by decide))
                 | with_reducible exact may_block (hP _ (by decide)) | with_reducible apply only_listUnreadable
                 | with_reducible apply only_logError | with_reducible apply only_putHost | with_reducible apply only_raiseEvent
                 | simp only [↓only_mk] | with_reducible apply parts_of)

theorem only_rebuildBlock {P : List Part} {s0 : State} {s : State} {a : Nat} (hs : Only P s0 s) (hP : ∀ p ∈ ([.reg 0x4063] : List
    Part), p ∈ P) :
    Only P s0 (State.rebuildBlock s a) := by
  unfold State.rebuildBlock
  repeat' (first | with_reducible exact Or.inr rfl | with_reducible exact sub_of hP (by decide) | intro _ | with_reducible exact hs
                 | with_reducible assumption | with_reducible exact Or.inl (hP _ (by decide))
                 | with_reducible exact may_block (hP _ (by decide)) | with_reducible apply only_set | simp only [↓only_mk]
                 | with_reducible apply parts_of | with_reducible exact may_block (hP _ (by rw [block_slip_poison]; decide)) | split
                 | (dsimp only; split))

theorem only_loseBag {P : List Part} {s0 : State} {s : State} {a : Nat} (hs : Only P s0 s) (hP : ∀ p ∈ ([.reg 0x4000, .reg 0x4020,
    .reg 0x4040, .reg 0x4060, .reg 0x4061, .reg 0x4063, .reg 0x4071, .reg 0x4072, .regs, .cells, .desk, .ldg, .out, .bags, .mem,
    .office, .host, .pwr] : List Part), p ∈ P) :
    Only P s0 (State.loseBag s a) := by
  unfold State.loseBag
  repeat' (first | with_reducible exact Or.inr rfl | with_reducible exact sub_of hP (by decide) | intro _ | with_reducible exact hs
                 | with_reducible assumption | with_reducible exact Or.inl (hP _ (by decide))
                 | with_reducible exact may_block (hP _ (by decide)) | with_reducible exact may_any (hP _ (by decide))
                 | with_reducible apply only_ite | with_reducible apply only_deferredError | with_reducible apply only_rebuildBlock
                 | with_reducible apply only_trayPlaced | with_reducible apply only_fst ‹_ = (_, _)› | simp only [↓only_mk]
                 | with_reducible apply parts_of | split | (dsimp only; split))

theorem only_dramRead {P : List Part} {s0 : State} {s : State} {a n : Nat} {errs : List EccErr} (hs : Only P s0 s) (hP : ∀ p ∈ ([.reg
    0x4000, .reg 0x4020, .reg 0x4040, .reg 0x4060, .reg 0x4061, .reg 0x4063, .reg 0x4071, .reg 0x4072, .regs, .cells, .desk, .ldg,
    .out, .bags, .mem, .office, .host, .pwr] : List Part), p ∈ P) :
    Only P s0 (State.dramRead s a n errs) := by
  unfold State.dramRead
  repeat' (first | with_reducible exact Or.inr rfl | with_reducible exact sub_of hP (by decide) | intro _ | with_reducible exact hs
                 | with_reducible assumption | with_reducible exact Or.inl (hP _ (by decide))
                 | with_reducible exact may_block (hP _ (by decide)) | with_reducible exact may_any (hP _ (by decide))
                 | with_reducible apply only_foldl | with_reducible apply only_eccRead | with_reducible apply only_loseBag
                 | simp only [↓only_mk] | with_reducible apply parts_of)

theorem only_unitRead {P : List Part} {s0 : State} {s : State} {a n : Nat} {errs : List EccErr} (hs : Only P s0 s) (hP : ∀ p ∈ ([.reg
    0x4000, .reg 0x4020, .reg 0x4040, .reg 0x4060, .reg 0x4061, .reg 0x4063, .reg 0x4071, .reg 0x4072, .regs, .cells, .desk, .ldg,
    .out, .bags, .mem, .office, .host, .pwr] : List Part), p ∈ P) :
    Only P s0 (State.unitRead s a n errs) := by
  unfold State.unitRead
  repeat' (first | with_reducible exact sub_of hP (by decide) | intro _ | with_reducible exact hs | with_reducible assumption
                 | with_reducible exact may_block (hP _ (by decide)) | with_reducible exact may_any (hP _ (by decide))
                 | with_reducible apply only_foldl | with_reducible apply only_loseBag | with_reducible apply only_unitReads)

theorem only_dmaRefresh {P : List Part} {s0 : State} {s : State} {c : Nat} (hs : Only P s0 s) (hP : ∀ p ∈ ([.regs] : List Part), p ∈
    P) :
    Only P s0 (State.dmaRefresh s c) := by
  unfold State.dmaRefresh
  repeat' (first | with_reducible exact sub_of hP (by decide) | intro _ | with_reducible exact hs | with_reducible assumption
                 | with_reducible exact may_block (hP _ (by decide)) | with_reducible exact may_any (hP _ (by decide))
                 | with_reducible apply only_ite | with_reducible apply only_set | split | (dsimp only; split))

theorem only_dmaInt {P : List Part} {s0 : State} {s : State} {c : Nat} (hs : Only P s0 s) (hP : ∀ p ∈ ([.reg 0x4062] : List Part), p ∈
    P) :
    Only P s0 (State.dmaInt s c) := by
  unfold State.dmaInt
  repeat' (first | with_reducible exact sub_of hP (by decide) | intro _ | with_reducible exact hs | with_reducible assumption
                 | with_reducible exact may_block (hP _ (by decide)) | with_reducible apply only_ite
                 | with_reducible apply only_setBit | split | (dsimp only; split))

theorem only_docketEnd {P : List Part} {s0 : State} {s : State} {c st moved at_ : Nat} (hs : Only P s0 s) (hP : ∀ p ∈ ([.reg 0x4000,
    .reg 0x4020, .reg 0x4062, .reg 0x4063, .reg 0x4071, .reg 0x4072, .regs, .cells, .desk, .ldg, .out, .mem, .host, .pwr] : List
    Part), p ∈ P) :
    Only P s0 (State.docketEnd s c st moved at_) := by
  unfold State.docketEnd
  repeat' (first | with_reducible exact sub_of hP (by decide) | with_reducible exact mayAll_nil | with_reducible apply mayAll_cons
                 | with_reducible exact mayPairs_nil | with_reducible apply mayPairs_cons | intro _ | with_reducible exact hs
                 | with_reducible assumption | with_reducible exact may_block (hP _ (by decide))
                 | with_reducible exact may_any (hP _ (by decide)) | with_reducible apply only_ite | with_reducible apply only_dmaInt
                 | with_reducible apply only_dmaRefresh | with_reducible apply only_event | with_reducible apply only_set
                 | with_reducible apply only_setAll | with_reducible apply only_storeWords | split | (dsimp only; split))

theorem only_fabricHit {P : List Part} {s0 : State} {s : State} (hs : Only P s0 s) (hP : ∀ p ∈ ([.reg 0x4071] : List Part), p ∈ P) :
    Only P s0 (State.fabricHit s) := by
  unfold State.fabricHit
  repeat' (first | with_reducible exact sub_of hP (by decide) | intro _ | with_reducible exact hs | with_reducible assumption
                 | with_reducible exact may_block (hP _ (by decide)) | with_reducible apply only_ite | with_reducible apply only_set
                 | split | (dsimp only; split))

theorem only_runDocket {P : List Part} {s0 : State} {s : State} {c op : Nat} {errs : List EccErr} {fab : Fabric} (hs : Only P s0 s)
    (hP : ∀ p ∈ ([.reg 0x4000, .reg 0x4020, .reg 0x4040, .reg 0x4060, .reg 0x4061, .reg 0x4062, .reg 0x4063, .reg 0x4071, .reg 0x4072,
    .regs, .cells, .desk, .ldg, .out, .bags, .mem, .office, .host, .pwr] : List Part), p ∈ P) :
    Only P s0 (State.runDocket s c op errs fab) := by
  unfold State.runDocket
  repeat' (first | with_reducible exact Or.inr rfl | with_reducible exact sub_of hP (by decide) | intro _ | with_reducible exact hs
                 | with_reducible assumption | with_reducible exact Or.inl (hP _ (by decide))
                 | with_reducible exact may_block (hP _ (by decide)) | with_reducible exact may_any (hP _ (by decide))
                 | with_reducible apply only_ite | with_reducible apply only_asInjected | with_reducible apply only_bagRelease
                 | with_reducible apply only_docketEnd | with_reducible apply only_dramRead | with_reducible apply only_fabricHit
                 | with_reducible apply only_store | with_reducible apply only_storeWords | with_reducible apply only_fst ‹_ = (_, _)›
                 | simp only [↓only_mk] | with_reducible apply parts_of | split | (dsimp only; split))

theorem only_takeDocket {P : List Part} {s0 : State} {s : State} {c : Nat} {pick : Nat → Bool} {errs : List EccErr} {fab : Fabric} (hs
    : Only P s0 s) (hP : ∀ p ∈ ([.reg 0x4000, .reg 0x4020, .reg 0x4040, .reg 0x4060, .reg 0x4061, .reg 0x4062, .reg 0x4063, .reg
    0x4071, .reg 0x4072, .regs, .cells, .desk, .ldg, .out, .bags, .mem, .office, .host, .pwr] : List Part), p ∈ P) :
    Only P s0 (State.takeDocket s c pick errs fab) := by
  unfold State.takeDocket
  repeat' (first | with_reducible exact sub_of hP (by decide) | intro _ | with_reducible exact hs | with_reducible assumption
                 | with_reducible exact may_block (hP _ (by decide)) | with_reducible exact may_any (hP _ (by decide))
                 | with_reducible apply only_ite | with_reducible apply only_docketEnd | with_reducible apply only_runDocket | split
                 | (dsimp only; split))

theorem only_stopDockets {P : List Part} {s0 : State} {s : State} {c : Nat} {n : Nat} (hs : Only P s0 s) (hP : ∀ p ∈ ([.reg 0x4000,
    .reg 0x4020, .reg 0x4062, .reg 0x4063, .reg 0x4071, .reg 0x4072, .regs, .cells, .desk, .ldg, .out, .mem, .host, .pwr] : List
    Part), p ∈ P) :
    Only P s0 (State.stopDockets s c n) := by
  induction n generalizing s with
  | zero => exact hs
  | succ n ih =>
    unfold State.stopDockets
    repeat' (first | with_reducible exact Or.inr rfl | with_reducible exact sub_of hP (by decide) | intro _ | with_reducible exact hs
                   | with_reducible assumption | with_reducible apply ih | with_reducible exact Or.inl (hP _ (by decide))
                   | with_reducible exact may_block (hP _ (by decide)) | with_reducible exact may_any (hP _ (by decide))
                   | with_reducible apply only_docketEnd | with_reducible apply only_stopDockets | simp only [↓only_mk]
                   | with_reducible apply parts_of)

theorem only_nfcRefresh {P : List Part} {s0 : State} {s : State} (hs : Only P s0 s) (hP : ∀ p ∈ ([.reg 0x4064] : List Part), p ∈ P) :
    Only P s0 (State.nfcRefresh s) := by
  unfold State.nfcRefresh
  repeat' (first | with_reducible exact sub_of hP (by decide) | with_reducible exact mayAll_nil | with_reducible apply mayAll_cons
                 | with_reducible exact mayPairs_nil | with_reducible apply mayPairs_cons | intro _ | with_reducible exact hs
                 | with_reducible assumption | with_reducible exact may_block (hP _ (by decide)) | with_reducible apply only_ite
                 | with_reducible apply only_foldl | with_reducible apply only_setAll | split | (dsimp only; split))

theorem only_nandEnd {P : List Part} {s0 : State} {s : State} {k p st maxBits : Nat} (hs : Only P s0 s)
    (hP : ∀ p ∈ ([.reg 0x4000, .reg 0x4020, .reg 0x4063, .reg 0x4064, .reg 0x4071, .reg 0x4072, .cells, .desk, .ldg, .out, .mem,
        .host, .pwr] : List Part), p ∈ P) : Only P s0 (State.nandEnd s k p st maxBits) := by
  unfold State.nandEnd
  refine only_nfcRefresh ?_ (sub_of hP (by decide))
  have h := only_storeWords (a := s.nandEntry p + 12) (l := [st * 2 ^ 24 + min 255 maxBits]) hs (sub_of hP (by decide))
  dsimp only
  split
  · exact only_mem h (hP _ (by decide))
  · exact only_mem (only_set h (may_block (hP _ (by decide)))) (hP _ (by decide))

theorem only_nandTake {P : List Part} {s0 : State} {s : State} {k : Nat} {pick : Nat → Bool} {busErr : Bool}
    {f : Nat → Nat → Nat → Nat → Nat → State → State × Nat × Nat} (hs : Only P s0 s)
    (hf : ∀ x0 x1 x2 x3 x4 s, Only P s0 s → Only P s0 (f x0 x1 x2 x3 x4 s).1) (hP : ∀ p ∈ ([.reg 0x4000, .reg 0x4020, .reg 0x4063,
        .reg 0x4064, .reg 0x4071, .reg 0x4072, .cells, .desk, .ldg, .out, .mem, .host, .pwr] : List Part), p ∈ P) :
    Only P s0 (State.nandTake s k pick busErr f) := by
  unfold State.nandTake
  refine only_ite hs ?_
  dsimp only
  split
  · exact hs
  · refine only_ite hs (only_ite ?_ (only_ite ?_ ?_))
    · exact only_nandEnd hs (sub_of hP (by decide))
    · exact only_nandEnd hs (sub_of hP (by decide))
    · exact only_nandEnd (hf _ _ _ _ _ _ hs) (sub_of hP (by decide))

theorem only_putNand {P : List Part} {s0 : State} {l : List Byte} {a : Nat} {s : State} (hs : Only P s0 s)
    (hP : ∀ p ∈ ([.nand] : List Part), p ∈ P) : Only P s0 (s.putNand a l) := by
  induction l generalizing s a with
  | nil => exact hs
  | cons b t ih =>
    unfold State.putNand
    refine ih ?_
    simp only [↓only_mk]
    apply parts_of hs <;> first | exact .inr rfl | exact .inl (hP _ (by decide))

theorem only_eraseNand {P : List Part} {s0 : State} {s : State} {a n : Nat} (hs : Only P s0 s) (hP : ∀ p ∈ ([.nand] : List Part), p ∈
    P) :
    Only P s0 (State.eraseNand s a n) := by
  unfold State.eraseNand
  repeat' (first | with_reducible exact Or.inr rfl | with_reducible exact sub_of hP (by decide) | intro _ | with_reducible exact hs
                 | with_reducible assumption | with_reducible exact Or.inl (hP _ (by decide))
                 | with_reducible exact may_block (hP _ (by decide)) | simp only [↓only_mk] | with_reducible apply parts_of)

theorem only_nandReplace {P : List Part} {s0 : State} {s : State} {die : Nat} {fails : Bool} (hs : Only P s0 s) (hP : ∀ p ∈ ([.reg
    0x4064, .mem] : List Part), p ∈ P) :
    Only P s0 (State.nandReplace s die fails).1 := by
  unfold State.nandReplace
  repeat' (first | with_reducible exact Or.inr rfl | with_reducible exact sub_of hP (by decide) | intro _ | with_reducible exact hs
                 | with_reducible assumption | with_reducible exact Or.inl (hP _ (by decide))
                 | with_reducible exact may_block (hP _ (by decide)) | with_reducible apply only_ite | with_reducible apply only_inc
                 | simp only [↓only_mk] | with_reducible apply parts_of | split | (dsimp only; split))

theorem only_putCons {P : List Part} {s0 : State} {s : State} {c : Consign} (hs : Only P s0 s) (hP : ∀ p ∈ ([.cons] : List Part), p ∈
    P) :
    Only P s0 (State.putCons s c) := by
  unfold State.putCons
  repeat' (first | with_reducible exact Or.inr rfl | with_reducible exact sub_of hP (by decide) | intro _ | with_reducible exact hs
                 | with_reducible assumption | with_reducible exact Or.inl (hP _ (by decide))
                 | with_reducible exact may_block (hP _ (by decide)) | simp only [↓only_mk] | with_reducible apply parts_of)

theorem only_cnsRefresh {P : List Part} {s0 : State} {s : State} (hs : Only P s0 s) (hP : ∀ p ∈ ([.reg 0x4041] : List Part), p ∈ P) :
    Only P s0 (State.cnsRefresh s) := by
  unfold State.cnsRefresh
  repeat' (first | with_reducible exact sub_of hP (by decide) | intro _ | with_reducible exact hs | with_reducible assumption
                 | with_reducible exact may_block (hP _ (by decide)) | with_reducible apply only_ite | with_reducible apply only_set
                 | split | (dsimp only; split))

theorem only_cnsResult {P : List Part} {s0 : State} {s : State} {tag status sector : Nat} (hs : Only P s0 s) (hP : ∀ p ∈ ([.reg
    0x4000, .reg 0x4020, .reg 0x4041, .reg 0x4061, .reg 0x4063, .reg 0x4071, .reg 0x4072, .cells, .desk, .ldg, .out, .bags, .mem,
    .host, .pwr] : List Part), p ∈ P) :
    Only P s0 (State.cnsResult s tag status sector) := by
  unfold State.cnsResult
  repeat' (first | with_reducible exact sub_of hP (by decide) | intro _ | with_reducible exact hs | with_reducible assumption
                 | with_reducible exact may_block (hP _ (by decide)) | with_reducible apply only_ite
                 | with_reducible apply only_cnsRefresh | with_reducible apply only_set | with_reducible apply only_unitWords | split
                 | (dsimp only; split))

theorem only_cnsTake {P : List Part} {s0 : State} {s : State} {pick : Nat → Bool} {f : CnsJob → State → State} (hs : Only P s0 s) (hf
    : ∀ x0 s, Only P s0 s → Only P s0 (f x0 s)) (hP : ∀ p ∈ ([.reg 0x4000, .reg 0x4020, .reg 0x4041, .reg 0x4061, .reg 0x4063, .reg
    0x4071, .reg 0x4072, .cells, .desk, .ldg, .out, .bags, .mem, .host, .pwr] : List Part), p ∈ P) :
    Only P s0 (State.cnsTake s pick f) := by
  unfold State.cnsTake
  repeat' (first | with_reducible exact sub_of hP (by decide) | intro _ | with_reducible exact hs | with_reducible assumption
                 | with_reducible exact may_block (hP _ (by decide)) | with_reducible apply only_ite
                 | with_reducible apply only_cnsResult | with_reducible apply only_set | with_reducible apply hf | split
                 | (dsimp only; split))

theorem only_cnsCrypt {P : List Part} {s0 : State} {s : State} {decrypt : Bool} {j : CnsJob} {errs : List EccErr} (hs : Only P s0 s)
    (hP : ∀ p ∈ ([.reg 0x4000, .reg 0x4020, .reg 0x4040, .reg 0x4041, .reg 0x4060, .reg 0x4061, .reg 0x4063, .reg 0x4071, .reg 0x4072,
    .regs, .cells, .desk, .ldg, .out, .bags, .mem, .office, .host, .pwr] : List Part), p ∈ P) :
    Only P s0 (State.cnsCrypt s decrypt j errs) := by
  unfold State.cnsCrypt
  repeat' (first | with_reducible exact Or.inr rfl | with_reducible exact sub_of hP (by decide) | intro _ | with_reducible exact hs
                 | with_reducible assumption | with_reducible exact Or.inl (hP _ (by decide))
                 | with_reducible exact may_block (hP _ (by decide)) | with_reducible exact may_any (hP _ (by decide))
                 | with_reducible apply only_ite | with_reducible apply only_cnsResult | with_reducible apply only_unitRead
                 | with_reducible apply only_unitStore | with_reducible apply only_fst ‹_ = (_, _)› | simp only [↓only_mk]
                 | with_reducible apply parts_of | split | (dsimp only; split))

theorem only_membersEcc {P : List Part} {s0 : State} {s : State} {ms : List Nat} {n : Nat} {skip : Nat → Bool} {errs : List EccErr}
    (hs : Only P s0 s) (hP : ∀ p ∈ ([.reg 0x4000, .reg 0x4020, .reg 0x4040, .reg 0x4060, .reg 0x4061, .reg 0x4063, .reg 0x4071, .reg
    0x4072, .regs, .cells, .desk, .ldg, .out, .bags, .mem, .office, .host, .pwr] : List Part), p ∈ P) :
    Only P s0 (State.membersEcc s ms n skip errs) := by
  unfold State.membersEcc
  repeat' (first | with_reducible exact Or.inr rfl | with_reducible exact sub_of hP (by decide) | intro _ | with_reducible exact hs
                 | with_reducible assumption | with_reducible exact Or.inl (hP _ (by decide))
                 | with_reducible exact may_block (hP _ (by decide)) | with_reducible exact may_any (hP _ (by decide))
                 | with_reducible apply only_ite | with_reducible apply only_foldl | with_reducible apply only_unitRead
                 | simp only [↓only_mk] | with_reducible apply parts_of | split | (dsimp only; split))

theorem only_writeMembers {P : List Part} {s0 : State} {s : State} {ms : List Nat} {n : Nat} {out pick : Nat → Bool} (hs : Only P s0
    s) (hP : ∀ p ∈ ([.reg 0x4000, .reg 0x4020, .reg 0x4061, .reg 0x4063, .reg 0x4071, .reg 0x4072, .cells, .desk, .ldg, .out, .bags,
    .mem, .host, .pwr] : List Part), p ∈ P) :
    Only P s0 (State.writeMembers s ms n out pick) := by
  unfold State.writeMembers
  repeat' (first | with_reducible exact sub_of hP (by decide) | intro _ | with_reducible exact hs | with_reducible assumption
                 | with_reducible exact may_block (hP _ (by decide)) | with_reducible apply only_ite | with_reducible apply only_foldl
                 | with_reducible apply only_unitStore | split | (dsimp only; split))

theorem only_decodeServes {P : List Part} {s0 : State} {s : State} {ms : List Nat} {n mask : Nat} {ok : Bool} (hs : Only P s0 s) (hP :
    ∀ p ∈ ([.reg 0x4000, .reg 0x4014, .reg 0x4020, .reg 0x4063, .reg 0x4071, .reg 0x4072, .cells, .desk, .ldg, .out, .rcv, .mem,
    .host, .pwr] : List Part), p ∈ P) :
    Only P s0 (State.decodeServes s ms n mask ok) := by
  unfold State.decodeServes
  repeat' (first | with_reducible exact Or.inr rfl | with_reducible exact sub_of hP (by decide) | intro _ | with_reducible exact hs
                 | with_reducible assumption | with_reducible exact Or.inl (hP _ (by decide))
                 | with_reducible exact may_block (hP _ (by decide)) | with_reducible apply only_foldl
                 | with_reducible apply only_sixDelivers | with_reducible apply only_store | simp only [↓only_mk]
                 | with_reducible apply parts_of)

theorem only_putKey {P : List Part} {s0 : State} {s : State} {slot : Nat} {key : Option Nat} (hs : Only P s0 s) (hP : ∀ p ∈ ([.reg
    0x4041, .cons] : List Part), p ∈ P) :
    Only P s0 (State.putKey s slot key) := by
  unfold State.putKey
  repeat' (first | with_reducible exact Or.inr rfl | with_reducible exact sub_of hP (by decide) | intro _ | with_reducible exact hs
                 | with_reducible assumption | with_reducible exact Or.inl (hP _ (by decide))
                 | with_reducible exact may_block (hP _ (by decide)) | with_reducible apply only_ite
                 | with_reducible apply only_putCons | with_reducible apply only_setBit | with_reducible apply only_fst ‹_ = (_, _)›
                 | simp only [↓only_mk] | with_reducible apply parts_of | split | (dsimp only; split))

theorem only_keyOp {P : List Part} {s0 : State} {s : State} {i : Initiator} {op slot : Nat} {f : State → State} (hs : Only P s0 s) (hf
    : ∀ s, Only P s0 s → Only P s0 (f s)) (hP : ∀ p ∈ ([.reg 0x4000, .reg 0x4020, .reg 0x4041, .reg 0x4071, .reg 0x4072, .bus, .desk,
    .ldg, .out, .host, .pwr] : List Part), p ∈ P) :
    Only P s0 (State.keyOp s i op slot f) := by
  unfold State.keyOp
  repeat' (first | with_reducible exact Or.inr rfl | with_reducible exact sub_of hP (by decide) | with_reducible exact mayAll_nil
                 | with_reducible apply mayAll_cons | with_reducible exact mayPairs_nil | with_reducible apply mayPairs_cons | intro _
                 | with_reducible exact hs | with_reducible assumption | with_reducible exact Or.inl (hP _ (by decide))
                 | with_reducible exact may_block (hP _ (by decide)) | with_reducible apply only_access
                 | with_reducible apply only_setAll | with_reducible apply hf | simp only [↓only_mk] | with_reducible apply parts_of)

theorem only_generateKey {P : List Part} {s0 : State} {s : State} {slot : Nat} (hs : Only P s0 s) (hP : ∀ p ∈ ([.reg 0x4041, .cons] :
    List Part), p ∈ P) :
    Only P s0 (State.generateKey s slot) := by
  unfold State.generateKey
  repeat' (first | with_reducible exact Or.inr rfl | with_reducible exact sub_of hP (by decide) | intro _ | with_reducible exact hs
                 | with_reducible assumption | with_reducible exact Or.inl (hP _ (by decide))
                 | with_reducible exact may_block (hP _ (by decide)) | with_reducible apply only_putCons
                 | with_reducible apply only_putKey | simp only [↓only_mk] | with_reducible apply parts_of)

theorem only_clearKeys {P : List Part} {s0 : State} {s : State} (hs : Only P s0 s) (hP : ∀ p ∈ ([.reg 0x4041, .cons] : List Part), p ∈
    P) :
    Only P s0 (State.clearKeys s) := by
  unfold State.clearKeys
  repeat' (first | with_reducible exact Or.inr rfl | with_reducible exact sub_of hP (by decide) | with_reducible exact mayAll_nil
                 | with_reducible apply mayAll_cons | with_reducible exact mayPairs_nil | with_reducible apply mayPairs_cons | intro _
                 | with_reducible exact hs | with_reducible assumption | with_reducible exact Or.inl (hP _ (by decide))
                 | with_reducible exact may_block (hP _ (by decide)) | with_reducible apply only_putCons
                 | with_reducible apply only_setAll | simp only [↓only_mk] | with_reducible apply parts_of)

theorem only_setPos {P : List Part} {s0 : State} {s : State} {i surface : Nat} (hs : Only P s0 s) (hP : ∀ p ∈ ([.regs] : List Part), p
    ∈ P) :
    Only P s0 (State.setPos s i surface) := by
  unfold State.setPos
  repeat' (first | with_reducible exact Or.inr rfl | with_reducible exact sub_of hP (by decide) | intro _ | with_reducible exact hs
                 | with_reducible assumption | with_reducible exact Or.inl (hP _ (by decide))
                 | with_reducible exact may_block (hP _ (by decide)) | with_reducible exact may_any (hP _ (by decide))
                 | with_reducible apply only_set | simp only [↓only_mk] | with_reducible apply parts_of | split | (dsimp only; split))

theorem only_listParcel {P : List Part} {s0 : State} {s : State} {lpn mask : Nat} (hs : Only P s0 s) (hP : ∀ p ∈ ([.reg 0x4000, .reg
    0x4020, .reg 0x4040, .reg 0x4061, .reg 0x4063, .reg 0x4071, .reg 0x4072, .cells, .desk, .ldg, .out, .bags, .mem, .office, .host,
    .pwr] : List Part), p ∈ P) :
    Only P s0 (State.listParcel s lpn mask) := by
  unfold State.listParcel
  repeat' (first | with_reducible exact Or.inr rfl | with_reducible exact sub_of hP (by decide) | intro _ | with_reducible exact hs
                 | with_reducible assumption | with_reducible exact Or.inl (hP _ (by decide))
                 | with_reducible exact may_block (hP _ (by decide)) | with_reducible apply only_foldl
                 | with_reducible apply only_listUnreadable | simp only [↓only_mk] | with_reducible apply parts_of)

theorem only_listLost {P : List Part} {s0 : State} {s : State} (hs : Only P s0 s) (hP : ∀ p ∈ ([.reg 0x4000, .reg 0x4020, .reg 0x4040,
    .reg 0x4061, .reg 0x4063, .reg 0x4071, .reg 0x4072, .cells, .desk, .ldg, .out, .bags, .mem, .office, .host, .pwr] : List Part), p
    ∈ P) :
    Only P s0 (State.listLost s) := by
  unfold State.listLost
  repeat' (first | with_reducible exact sub_of hP (by decide) | intro _ | with_reducible exact hs | with_reducible assumption
                 | with_reducible exact may_block (hP _ (by decide)) | with_reducible apply only_ite | with_reducible apply only_foldl
                 | with_reducible apply only_listParcel | split | (dsimp only; split))

theorem only_planRebuild {P : List Part} {s0 : State} {s : State} {surfaces : List Nat} (hs : Only P s0 s) (hP : ∀ p ∈ ([.reg 0x4000,
    .reg 0x4020, .reg 0x4040, .reg 0x4061, .reg 0x4063, .reg 0x4071, .reg 0x4072, .cells, .desk, .ldg, .out, .bags, .mem, .office,
    .cons, .host, .pwr] : List Part), p ∈ P) :
    Only P s0 (State.planRebuild s surfaces) := by
  unfold State.planRebuild
  repeat' (first | with_reducible exact Or.inr rfl | with_reducible exact sub_of hP (by decide) | intro _ | with_reducible exact hs
                 | with_reducible assumption | with_reducible exact Or.inl (hP _ (by decide))
                 | with_reducible exact may_block (hP _ (by decide)) | with_reducible apply only_ite
                 | with_reducible apply only_putCons | with_reducible apply only_putOffice | with_reducible apply only_setBands
                 | simp only [↓only_mk] | with_reducible apply parts_of | split | (dsimp only; split))

theorem only_rebuildEnded {P : List Part} {s0 : State} {s : State} {surface : Nat} (hs : Only P s0 s) (hP : ∀ p ∈ ([.reg 0x4072, .ldg,
    .cons, .host] : List Part), p ∈ P) :
    Only P s0 (State.rebuildEnded s surface) := by
  unfold State.rebuildEnded
  repeat' (first | with_reducible exact Or.inr rfl | with_reducible exact sub_of hP (by decide) | intro _ | with_reducible exact hs
                 | with_reducible assumption | with_reducible exact Or.inl (hP _ (by decide))
                 | with_reducible exact may_block (hP _ (by decide)) | with_reducible apply only_ledger
                 | with_reducible apply only_putCons | with_reducible apply only_raiseEvent | simp only [↓only_mk]
                 | with_reducible apply parts_of)

theorem only_retireHead {P : List Part} {s0 : State} {s : State} {surface trigger : Nat} (hs : Only P s0 s) (hP : ∀ p ∈ ([.reg 0x4000,
    .reg 0x4010, .reg 0x4011, .reg 0x4012, .reg 0x4013, .reg 0x4014, .reg 0x4020, .reg 0x4021, .reg 0x4022, .reg 0x4023, .reg 0x4024,
    .reg 0x4031, .reg 0x4040, .reg 0x4041, .reg 0x4061, .reg 0x4063, .reg 0x4071, .reg 0x4072, .regs, .cells, .psp, .desk, .ldg, .out,
    .eng, .loops, .books, .rcv, .bags, .mem, .office, .cons, .host, .pwr] : List Part), p ∈ P) :
    Only P s0 (State.retireHead s surface trigger) := by
  unfold State.retireHead
  repeat' (first | with_reducible exact Or.inr rfl | with_reducible exact sub_of hP (by decide) | intro _ | with_reducible exact hs
                 | with_reducible assumption | with_reducible exact Or.inl (hP _ (by decide))
                 | with_reducible exact may_block (hP _ (by decide)) | with_reducible exact may_any (hP _ (by decide))
                 | with_reducible apply only_foldl | with_reducible apply only_failBand | with_reducible apply only_ledger
                 | with_reducible apply only_listLost | with_reducible apply only_planRebuild | with_reducible apply only_raiseEvent
                 | with_reducible apply only_retire | with_reducible apply only_retireLadders | with_reducible apply only_saveDev
                 | with_reducible apply only_setBit | with_reducible apply only_setPos | with_reducible apply only_fst ‹_ = (_, _)›
                 | simp only [↓only_mk] | with_reducible apply parts_of | split | (dsimp only; split))

theorem only_rebuildPair {P : List Part} {s0 : State} {s : State} {lost new : Nat × Nat} (hs : Only P s0 s) (hP : ∀ p ∈ ([.reg 0x4000,
    .reg 0x4020, .reg 0x4040, .reg 0x4061, .reg 0x4063, .reg 0x4071, .reg 0x4072, .cells, .desk, .ldg, .out, .bags, .mem, .office,
    .host, .pwr] : List Part), p ∈ P) :
    Only P s0 (State.rebuildPair s lost new) := by
  unfold State.rebuildPair
  repeat' (first | with_reducible exact Or.inr rfl | with_reducible exact sub_of hP (by decide) | intro _ | with_reducible exact hs
                 | with_reducible assumption | with_reducible exact Or.inl (hP _ (by decide))
                 | with_reducible exact may_block (hP _ (by decide)) | with_reducible apply only_ite | with_reducible apply only_foldl
                 | with_reducible apply only_journal | with_reducible apply only_putOffice | with_reducible apply only_switchJob
                 | simp only [↓only_mk] | with_reducible apply parts_of | split | (dsimp only; split))

theorem only_rebuildMember {P : List Part} {s0 : State} {s : State} {g : Nat} {e : Group} {lost new : Nat × Nat} (hs : Only P s0 s)
    (hP : ∀ p ∈ ([.reg 0x4000, .reg 0x4020, .reg 0x4040, .reg 0x4061, .reg 0x4063, .reg 0x4071, .reg 0x4072, .cells, .desk, .ldg,
    .out, .rcv, .bags, .mem, .office, .host, .pwr] : List Part), p ∈ P) :
    Only P s0 (State.rebuildMember s g e lost new) := by
  unfold State.rebuildMember
  repeat' (first | with_reducible exact Or.inr rfl | with_reducible exact sub_of hP (by decide) | intro _ | with_reducible exact hs
                 | with_reducible assumption | with_reducible exact Or.inl (hP _ (by decide))
                 | with_reducible exact may_block (hP _ (by decide)) | with_reducible apply only_ite | with_reducible apply only_foldl
                 | with_reducible apply only_journal | with_reducible apply only_putOffice | with_reducible apply only_set
                 | with_reducible apply only_setBands | with_reducible apply only_settle | with_reducible apply only_switchJob
                 | simp only [↓only_mk] | with_reducible apply parts_of | split | (dsimp only; split))

theorem only_unitDone {P : List Part} {s0 : State} {s : State} {surface : Nat} {count : Bool} (hs : Only P s0 s) (hP : ∀ p ∈ ([.reg
    0x4072, .ldg, .cons, .host] : List Part), p ∈ P) :
    Only P s0 (State.unitDone s surface count) := by
  unfold State.unitDone
  repeat' (first | with_reducible exact Or.inr rfl | with_reducible exact sub_of hP (by decide) | intro _ | with_reducible exact hs
                 | with_reducible assumption | with_reducible exact Or.inl (hP _ (by decide))
                 | with_reducible exact may_block (hP _ (by decide)) | with_reducible apply only_ite
                 | with_reducible apply only_putCons | with_reducible apply only_rebuildEnded | simp only [↓only_mk]
                 | with_reducible apply parts_of | split | (dsimp only; split))

theorem only_mapOp {P : List Part} {s0 : State} {s : State} {x : Act} {serial : Nat} {f : LaneOp → LaneOp} (hs : Only P s0 s) (hP : ∀
    p ∈ ([.reg 0x4010, .reg 0x4011, .reg 0x4012, .reg 0x4013, .reg 0x4014, .lanes] : List Part), p ∈ P) :
    Only P s0 (State.mapOp s x serial f) := by
  unfold State.mapOp
  repeat' (first | with_reducible exact Or.inr rfl | with_reducible exact sub_of hP (by decide) | intro _ | with_reducible exact hs
                 | with_reducible assumption | with_reducible exact Or.inl (hP _ (by decide))
                 | with_reducible exact may_block (hP _ (by decide)) | with_reducible apply only_ite
                 | with_reducible apply only_putLane | simp only [↓only_mk] | with_reducible apply parts_of | split
                 | (dsimp only; split))

theorem only_complete {P : List Part} {s0 : State} {s : State} {x : Act} {o : LaneOp} (hs : Only P s0 s) (hP : ∀ p ∈ ([.reg 0x4000,
    .reg 0x4010, .reg 0x4011, .reg 0x4012, .reg 0x4013, .reg 0x4020, .reg 0x4063, .reg 0x4071, .reg 0x4072, .cells, .desk, .ldg, .out,
    .mem, .host, .pwr] : List Part), p ∈ P) :
    Only P s0 (State.complete s x o) := by
  unfold State.complete
  repeat' (first | with_reducible exact sub_of hP (by decide) | intro _ | with_reducible exact hs | with_reducible assumption
                 | with_reducible exact may_block (hP _ (by decide)) | with_reducible apply only_ite | with_reducible apply only_set
                 | with_reducible apply only_store | with_reducible apply only_storeWords
                 | (cases x <;> exact may_block (hP _ (by decide))) | split | (dsimp only; split))

theorem only_laneRest {P : List Part} {s0 : State} {s : State} {x : Act} (hs : Only P s0 s) (hP : ∀ p ∈ ([.reg 0x4010, .reg 0x4011,
    .reg 0x4012, .reg 0x4013] : List Part), p ∈ P) :
    Only P s0 (State.laneRest s x) := by
  unfold State.laneRest
  repeat' (first | with_reducible exact Or.inr rfl | with_reducible exact sub_of hP (by decide) | intro _ | with_reducible exact hs
                 | with_reducible assumption | with_reducible exact Or.inl (hP _ (by decide))
                 | with_reducible exact may_block (hP _ (by decide)) | with_reducible apply only_ite | with_reducible apply only_set
                 | simp only [↓only_mk] | with_reducible apply parts_of | (cases x <;> exact may_block (hP _ (by decide))) | split
                 | (dsimp only; split))

theorem only_flushRing {P : List Part} {s0 : State} {s : State} {x : Act} {n : Nat} (hs : Only P s0 s) (hP : ∀ p ∈ ([.reg 0x4000, .reg
    0x4010, .reg 0x4011, .reg 0x4012, .reg 0x4013, .reg 0x4020, .reg 0x4063, .reg 0x4071, .reg 0x4072, .cells, .desk, .ldg, .out,
    .mem, .host, .pwr] : List Part), p ∈ P) :
    Only P s0 (State.flushRing s x n) := by
  induction n generalizing s with
  | zero => exact hs
  | succ n ih =>
    unfold State.flushRing
    repeat' (first | with_reducible exact Or.inr rfl | with_reducible exact sub_of hP (by decide) | intro _ | with_reducible exact hs
                   | with_reducible assumption | with_reducible apply ih | with_reducible exact Or.inl (hP _ (by decide))
                   | with_reducible exact may_block (hP _ (by decide)) | with_reducible apply only_ite
                   | with_reducible apply only_complete | with_reducible apply only_flushRing | with_reducible apply only_set
                   | simp only [↓only_mk] | with_reducible apply parts_of | (cases x <;> exact may_block (hP _ (by decide))) | split
                   | (dsimp only; split))

theorem only_abortOn {P : List Part} {s0 : State} {s : State} {x : Act} (hs : Only P s0 s) (hP : ∀ p ∈ ([.reg 0x4000, .reg 0x4010,
    .reg 0x4011, .reg 0x4012, .reg 0x4013, .reg 0x4020, .reg 0x4063, .reg 0x4071, .reg 0x4072, .cells, .desk, .ldg, .out, .mem, .host,
    .pwr] : List Part), p ∈ P) :
    Only P s0 (State.abortOn s x) := by
  unfold State.abortOn
  repeat' (first | with_reducible exact sub_of hP (by decide) | intro _ | with_reducible exact hs | with_reducible assumption
                 | with_reducible exact may_block (hP _ (by decide)) | with_reducible apply only_ite
                 | with_reducible apply only_flushRing | with_reducible apply only_set
                 | (cases x <;> exact may_block (hP _ (by decide))) | split | (dsimp only; split))

theorem only_measureSkew {P : List Part} {s0 : State} {s : State} {x : Act} {head : Nat} {m : SkewRun} (hs : Only P s0 s) (hP : ∀ p ∈
    ([.regs] : List Part), p ∈ P) :
    Only P s0 (State.measureSkew s x head m) := by
  unfold State.measureSkew
  repeat' (first | with_reducible exact Or.inr rfl | with_reducible exact sub_of hP (by decide) | intro _ | with_reducible exact hs
                 | with_reducible assumption | with_reducible exact Or.inl (hP _ (by decide))
                 | with_reducible exact may_block (hP _ (by decide)) | with_reducible exact may_any (hP _ (by decide))
                 | with_reducible apply only_ite | with_reducible apply only_set | simp only [↓only_mk]
                 | with_reducible apply parts_of | (cases x <;> exact may_block (hP _ (by decide))) | split | (dsimp only; split))

theorem only_beginOp {P : List Part} {s0 : State} {s : State} {x : Act} {o : LaneOp} (hs : Only P s0 s) (hP : ∀ p ∈ ([.reg 0x4010,
    .reg 0x4011, .reg 0x4012, .reg 0x4013, .reg 0x4014, .out, .lanes] : List Part), p ∈ P) :
    Only P s0 (State.beginOp s x o) := by
  unfold State.beginOp
  repeat' (first | with_reducible exact Or.inr rfl | with_reducible exact sub_of hP (by decide) | intro _ | with_reducible exact hs
                 | with_reducible assumption | with_reducible exact Or.inl (hP _ (by decide))
                 | with_reducible exact may_block (hP _ (by decide)) | with_reducible apply only_ite | with_reducible apply only_emit
                 | with_reducible apply only_putLane | with_reducible apply only_set | simp only [↓only_mk]
                 | with_reducible apply parts_of | (cases x <;> exact may_block (hP _ (by decide))) | split | (dsimp only; split))

theorem only_takeOp {P : List Part} {s0 : State} {s : State} {x : Act} {pick : Nat → Bool} {f : LaneOp → State → State} (hs : Only P
    s0 s) (hf : ∀ x0 s, Only P s0 s → Only P s0 (f x0 s)) (hP : ∀ p ∈ ([.reg 0x4000, .reg 0x4010, .reg 0x4011, .reg 0x4012, .reg
    0x4013, .reg 0x4014, .reg 0x4020, .reg 0x4063, .reg 0x4071, .reg 0x4072, .cells, .desk, .ldg, .out, .lanes, .mem, .host, .pwr] :
    List Part), p ∈ P) :
    Only P s0 (State.takeOp s x pick f) := by
  unfold State.takeOp
  repeat' (first | with_reducible exact Or.inr rfl | with_reducible exact sub_of hP (by decide) | intro _ | with_reducible exact hs
                 | with_reducible assumption | with_reducible exact Or.inl (hP _ (by decide))
                 | with_reducible exact may_block (hP _ (by decide)) | with_reducible apply only_ite
                 | with_reducible apply only_beginOp | with_reducible apply only_complete | with_reducible apply only_laneRest
                 | with_reducible apply only_set | with_reducible apply hf | with_reducible apply only_fst ‹_ = (_, _)›
                 | simp only [↓only_mk] | with_reducible apply parts_of | (cases x <;> exact may_block (hP _ (by decide))) | split
                 | (dsimp only; split))

theorem only_decide {P : List Part} {s0 : State} {s : State} {x : Act} {serial k code : Nat} (hs : Only P s0 s) (hP : ∀ p ∈ ([.reg
    0x4010, .reg 0x4011, .reg 0x4012, .reg 0x4013, .reg 0x4014, .lanes] : List Part), p ∈ P) :
    Only P s0 (State.decide s x serial k code) := by
  unfold State.decide
  repeat' (first | with_reducible exact Or.inr rfl | with_reducible exact sub_of hP (by decide) | intro _ | with_reducible exact hs
                 | with_reducible assumption | with_reducible exact Or.inl (hP _ (by decide))
                 | with_reducible exact may_block (hP _ (by decide)) | with_reducible apply only_mapOp | simp only [↓only_mk]
                 | with_reducible apply parts_of)

theorem only_loseRev {P : List Part} {s0 : State} {s : State} {x : Act} {serial : Nat} (hs : Only P s0 s) (hP : ∀ p ∈ ([.reg 0x4010,
    .reg 0x4011, .reg 0x4012, .reg 0x4013, .reg 0x4014, .lanes] : List Part), p ∈ P) :
    Only P s0 (State.loseRev s x serial) := by
  unfold State.loseRev
  repeat' (first | with_reducible exact Or.inr rfl | with_reducible exact sub_of hP (by decide) | intro _ | with_reducible exact hs
                 | with_reducible assumption | with_reducible exact Or.inl (hP _ (by decide))
                 | with_reducible exact may_block (hP _ (by decide)) | with_reducible apply only_inc | with_reducible apply only_mapOp
                 | simp only [↓only_mk] | with_reducible apply parts_of | (cases x <;> exact may_block (hP _ (by decide))))

theorem only_endOp {P : List Part} {s0 : State} {s : State} {x : Act} {serial status : Nat} (hs : Only P s0 s) (hP : ∀ p ∈ ([.reg
    0x4010, .reg 0x4011, .reg 0x4012, .reg 0x4013, .reg 0x4014, .lanes] : List Part), p ∈ P) :
    Only P s0 (State.endOp s x serial status) := by
  unfold State.endOp
  repeat' (first | with_reducible exact Or.inr rfl | with_reducible exact sub_of hP (by decide) | intro _ | with_reducible exact hs
                 | with_reducible assumption | with_reducible exact Or.inl (hP _ (by decide))
                 | with_reducible exact may_block (hP _ (by decide)) | with_reducible apply only_ite | with_reducible apply only_mapOp
                 | simp only [↓only_mk] | with_reducible apply parts_of | split | (dsimp only; split))

theorem only_offMedia {P : List Part} {s0 : State} {s : State} {x : Act} {o : LaneOp} (hs : Only P s0 s) (hP : ∀ p ∈ ([.reg 0x4010,
    .reg 0x4011, .reg 0x4012, .reg 0x4013, .reg 0x4014, .out, .lanes] : List Part), p ∈ P) :
    Only P s0 (State.offMedia s x o) := by
  unfold State.offMedia
  repeat' (first | with_reducible exact Or.inr rfl | with_reducible exact sub_of hP (by decide) | intro _ | with_reducible exact hs
                 | with_reducible assumption | with_reducible exact Or.inl (hP _ (by decide))
                 | with_reducible exact may_block (hP _ (by decide)) | with_reducible apply only_ite | with_reducible apply only_emit
                 | with_reducible apply only_laneRest | with_reducible apply only_mapOp | with_reducible apply only_putLane
                 | with_reducible apply only_set | simp only [↓only_mk] | with_reducible apply parts_of
                 | (cases x <;> exact may_block (hP _ (by decide))) | split | (dsimp only; split))

theorem only_checkMedia {P : List Part} {s0 : State} {s : State} {x : Act} (hs : Only P s0 s) (hP : ∀ p ∈ ([.reg 0x4010, .reg 0x4011,
    .reg 0x4012, .reg 0x4013, .reg 0x4014, .out, .lanes] : List Part), p ∈ P) :
    Only P s0 (State.checkMedia s x) := by
  unfold State.checkMedia
  repeat' (first | with_reducible exact Or.inr rfl | with_reducible exact sub_of hP (by decide) | intro _ | with_reducible exact hs
                 | with_reducible assumption | with_reducible exact Or.inl (hP _ (by decide))
                 | with_reducible exact may_block (hP _ (by decide)) | with_reducible apply only_ite
                 | with_reducible apply only_offMedia | with_reducible apply only_fst ‹_ = (_, _)› | simp only [↓only_mk]
                 | with_reducible apply parts_of | split | (dsimp only; split))

theorem only_endSector {P : List Part} {s0 : State} {s : State} {x : Act} (hs : Only P s0 s) (hP : ∀ p ∈ ([.reg 0x4010, .reg 0x4011,
    .reg 0x4012, .reg 0x4013, .reg 0x4014, .out, .lanes] : List Part), p ∈ P) :
    Only P s0 (State.endSector s x) := by
  unfold State.endSector
  repeat' (first | with_reducible exact Or.inr rfl | with_reducible exact sub_of hP (by decide) | intro _ | with_reducible exact hs
                 | with_reducible assumption | with_reducible exact Or.inl (hP _ (by decide))
                 | with_reducible exact may_block (hP _ (by decide)) | with_reducible apply only_ite
                 | with_reducible apply only_checkMedia | with_reducible apply only_putLane | with_reducible apply only_set
                 | with_reducible apply only_fst ‹_ = (_, _)› | simp only [↓only_mk] | with_reducible apply parts_of
                 | (cases x <;> exact may_block (hP _ (by decide))) | split | (dsimp only; split))

theorem only_wedgePass {P : List Part} {s0 : State} {s : State} {x : Act} (hs : Only P s0 s) (hP : ∀ p ∈ ([.reg 0x4010, .reg 0x4011,
    .reg 0x4012, .reg 0x4013, .reg 0x4014, .out, .lanes] : List Part), p ∈ P) :
    Only P s0 (State.wedgePass s x) := by
  unfold State.wedgePass
  repeat' (first | with_reducible exact Or.inr rfl | with_reducible exact sub_of hP (by decide) | intro _ | with_reducible exact hs
                 | with_reducible assumption | with_reducible exact Or.inl (hP _ (by decide))
                 | with_reducible exact may_block (hP _ (by decide)) | with_reducible apply only_ite
                 | with_reducible apply only_endSector | with_reducible apply only_putLane | with_reducible apply only_set
                 | with_reducible apply only_fst ‹_ = (_, _)› | simp only [↓only_mk] | with_reducible apply parts_of
                 | (cases x <;> exact may_block (hP _ (by decide))) | split | (dsimp only; split))

theorem only_wedgeDone {P : List Part} {s0 : State} {s : State} {x : Act} (hs : Only P s0 s) (hP : ∀ p ∈ ([.reg 0x4010, .reg 0x4011,
    .reg 0x4012, .reg 0x4013, .reg 0x4014, .lanes] : List Part), p ∈ P) :
    Only P s0 (State.wedgeDone s x) := by
  unfold State.wedgeDone
  repeat' (first | with_reducible exact Or.inr rfl | with_reducible exact sub_of hP (by decide) | intro _ | with_reducible exact hs
                 | with_reducible assumption | with_reducible exact Or.inl (hP _ (by decide))
                 | with_reducible exact may_block (hP _ (by decide)) | with_reducible apply only_ite
                 | with_reducible apply only_putLane | with_reducible apply only_set | with_reducible apply only_fst ‹_ = (_, _)›
                 | simp only [↓only_mk] | with_reducible apply parts_of | (cases x <;> exact may_block (hP _ (by decide))) | split
                 | (dsimp only; split))

theorem only_afeNext {P : List Part} {s0 : State} {s : State} {x : Act} {o : LaneOp} {samples : List Int} (hs : Only P s0 s) (hP : ∀ p
    ∈ ([.reg 0x4010, .reg 0x4011, .reg 0x4012, .reg 0x4013, .reg 0x4014, .lanes] : List Part), p ∈ P) :
    Only P s0 (State.afeNext s x o samples) := by
  unfold State.afeNext
  repeat' (first | with_reducible exact Or.inr rfl | with_reducible exact sub_of hP (by decide) | intro _ | with_reducible exact hs
                 | with_reducible assumption | with_reducible exact Or.inl (hP _ (by decide))
                 | with_reducible exact may_block (hP _ (by decide)) | with_reducible apply only_putLane | simp only [↓only_mk]
                 | with_reducible apply parts_of)

theorem only_freeStore {P : List Part} {s0 : State} {s : State} {x : Act} {c : Codeword} (hs : Only P s0 s) (hP : ∀ p ∈ ([.reg 0x4010,
    .reg 0x4011, .reg 0x4012, .reg 0x4013, .reg 0x4014, .lanes] : List Part), p ∈ P) :
    Only P s0 (State.freeStore s x c) := by
  unfold State.freeStore
  repeat' (first | with_reducible exact Or.inr rfl | with_reducible exact sub_of hP (by decide) | intro _ | with_reducible exact hs
                 | with_reducible assumption | with_reducible exact Or.inl (hP _ (by decide))
                 | with_reducible exact may_block (hP _ (by decide)) | with_reducible apply only_putLane | simp only [↓only_mk]
                 | with_reducible apply parts_of)

theorem only_handOver {P : List Part} {s0 : State} {s : State} {x : Act} {c : Codeword} {code : Nat} (hs : Only P s0 s) (hP : ∀ p ∈
    ([.reg 0x4010, .reg 0x4011, .reg 0x4012, .reg 0x4013, .reg 0x4014, .lanes, .rcv] : List Part), p ∈ P) :
    Only P s0 (State.handOver s x c code) := by
  unfold State.handOver
  repeat' (first | with_reducible exact Or.inr rfl | with_reducible exact sub_of hP (by decide) | intro _ | with_reducible exact hs
                 | with_reducible assumption | with_reducible exact Or.inl (hP _ (by decide))
                 | with_reducible exact may_block (hP _ (by decide)) | with_reducible apply only_ite
                 | with_reducible apply only_decide | with_reducible apply only_freeStore | with_reducible apply only_inc
                 | with_reducible apply only_mapCodeword | with_reducible apply only_putRcv | simp only [↓only_mk]
                 | with_reducible apply parts_of | split | (dsimp only; split))

theorem only_startRead {P : List Part} {s0 : State} {s : State} {x : Act} {o : LaneOp} {k : Nat} {sig : List Stretch} (hs : Only P s0
    s) (hP : ∀ p ∈ ([.reg 0x4000, .reg 0x4010, .reg 0x4011, .reg 0x4012, .reg 0x4013, .reg 0x4014, .reg 0x4020, .reg 0x4063, .reg
    0x4071, .reg 0x4072, .regs, .cells, .desk, .ldg, .out, .lanes, .rcv, .mem, .host, .pwr] : List Part), p ∈ P) :
    Only P s0 (State.startRead s x o k sig) := by
  unfold State.startRead
  repeat' (first | with_reducible exact Or.inr rfl | with_reducible exact sub_of hP (by decide) | intro _ | with_reducible exact hs
                 | with_reducible assumption | with_reducible exact Or.inl (hP _ (by decide))
                 | with_reducible exact may_block (hP _ (by decide)) | with_reducible exact may_any (hP _ (by decide))
                 | with_reducible apply only_ite | with_reducible apply only_afeNext | with_reducible apply only_countRead
                 | with_reducible apply only_decide | with_reducible apply only_handOver | with_reducible apply only_inc
                 | with_reducible apply only_mapOp | with_reducible apply only_putLane | with_reducible apply only_putTapBytes
                 | with_reducible apply only_set | with_reducible apply only_store | with_reducible apply only_fst ‹_ = (_, _)›
                 | simp only [↓only_mk] | with_reducible apply parts_of | (cases x <;> exact may_block (hP _ (by decide))) | split
                 | (dsimp only; split))

theorem only_startWrite {P : List Part} {s0 : State} {s : State} {x : Act} {o : LaneOp} {k : Nat} {sig : List Stretch} (hs : Only P s0
    s) (hP : ∀ p ∈ ([.reg 0x4010, .reg 0x4011, .reg 0x4012, .reg 0x4013, .reg 0x4014, .out, .lanes] : List Part), p ∈ P) :
    Only P s0 (State.startWrite s x o k sig) := by
  unfold State.startWrite
  repeat' (first | with_reducible exact Or.inr rfl | with_reducible exact sub_of hP (by decide) | intro _ | with_reducible exact hs
                 | with_reducible assumption | with_reducible exact Or.inl (hP _ (by decide))
                 | with_reducible exact may_block (hP _ (by decide)) | with_reducible apply only_ite
                 | with_reducible apply only_afeNext | with_reducible apply only_emit | with_reducible apply only_inc
                 | with_reducible apply only_mapOp | with_reducible apply only_putLane | with_reducible apply only_set
                 | simp only [↓only_mk] | with_reducible apply parts_of | (cases x <;> exact may_block (hP _ (by decide))) | split
                 | (dsimp only; split))

theorem only_tryWrite {P : List Part} {s0 : State} {s : State} {x : Act} {o : LaneOp} {k : Nat} {dataReady dataError : Bool} {sig :
    List Stretch} (hs : Only P s0 s) (hP : ∀ p ∈ ([.reg 0x4000, .reg 0x4010, .reg 0x4011, .reg 0x4012, .reg 0x4013, .reg 0x4014, .reg
    0x4020, .reg 0x4063, .reg 0x4071, .reg 0x4072, .cells, .desk, .ldg, .out, .lanes, .bags, .mem, .host, .pwr] : List Part), p ∈ P) :
    Only P s0 (State.tryWrite s x o k dataReady dataError sig) := by
  unfold State.tryWrite
  repeat' (first | with_reducible exact Or.inr rfl | with_reducible exact sub_of hP (by decide) | intro _ | with_reducible exact hs
                 | with_reducible assumption | with_reducible exact Or.inl (hP _ (by decide))
                 | with_reducible exact may_block (hP _ (by decide)) | with_reducible apply only_ite
                 | with_reducible apply only_checkMedia | with_reducible apply only_decide | with_reducible apply only_eccRead
                 | with_reducible apply only_endOp | with_reducible apply only_loseRev | with_reducible apply only_mapOp
                 | with_reducible apply only_offMedia | with_reducible apply only_set | with_reducible apply only_startWrite
                 | with_reducible apply only_store | with_reducible apply only_fst ‹_ = (_, _)› | simp only [↓only_mk]
                 | with_reducible apply parts_of | (cases x <;> exact may_block (hP _ (by decide))) | split | (dsimp only; split))

theorem only_measureOn {P : List Part} {s0 : State} {s : State} {x : Act} {o : LaneOp} {m : SkewRun} {sector : Nat} {sig : List
    Stretch} (hs : Only P s0 s) (hP : ∀ p ∈ ([.reg 0x4010, .reg 0x4011, .reg 0x4012, .reg 0x4013, .reg 0x4014, .regs, .lanes, .cons] :
    List Part), p ∈ P) :
    Only P s0 (State.measureOn s x o m sector sig) := by
  unfold State.measureOn
  repeat' (first | with_reducible exact Or.inr rfl | with_reducible exact sub_of hP (by decide) | intro _ | with_reducible exact hs
                 | with_reducible assumption | with_reducible exact Or.inl (hP _ (by decide))
                 | with_reducible exact may_block (hP _ (by decide)) | with_reducible exact may_any (hP _ (by decide))
                 | with_reducible apply only_ite | with_reducible apply only_mapOp | with_reducible apply only_measureSkew
                 | simp only [↓only_mk] | with_reducible apply parts_of | split | (dsimp only; split))

theorem only_takeSector {P : List Part} {s0 : State} {s : State} {x : Act} {o : LaneOp} {sector : Nat} {dataReady dataError : Bool}
    {sig : List Stretch} (hs : Only P s0 s) (hP : ∀ p ∈ ([.reg 0x4000, .reg 0x4010, .reg 0x4011, .reg 0x4012, .reg 0x4013, .reg
    0x4014, .reg 0x4020, .reg 0x4063, .reg 0x4071, .reg 0x4072, .regs, .cells, .desk, .ldg, .out, .lanes, .rcv, .bags, .mem, .host,
    .pwr] : List Part), p ∈ P) :
    Only P s0 (State.takeSector s x o sector dataReady dataError sig) := by
  unfold State.takeSector
  repeat' (first | with_reducible exact Or.inr rfl | with_reducible exact sub_of hP (by decide) | intro _ | with_reducible exact hs
                 | with_reducible assumption | with_reducible exact Or.inl (hP _ (by decide))
                 | with_reducible exact may_block (hP _ (by decide)) | with_reducible exact may_any (hP _ (by decide))
                 | with_reducible apply only_ite | with_reducible apply only_checkMedia | with_reducible apply only_endOp
                 | with_reducible apply only_loseRev | with_reducible apply only_set | with_reducible apply only_startRead
                 | with_reducible apply only_store | with_reducible apply only_tryWrite | simp only [↓only_mk]
                 | with_reducible apply parts_of | (cases x <;> exact may_block (hP _ (by decide))) | split | (dsimp only; split))

theorem only_decodeOn {P : List Part} {s0 : State} {s : State} {x : Act} {c : Codeword} {half : Nat} (hs : Only P s0 s) (hP : ∀ p ∈
    ([.reg 0x4000, .reg 0x4010, .reg 0x4011, .reg 0x4012, .reg 0x4013, .reg 0x4014, .reg 0x4020, .reg 0x4063, .reg 0x4071, .reg
    0x4072, .regs, .cells, .desk, .ldg, .out, .lanes, .dec, .rcv, .mem, .host, .pwr] : List Part), p ∈ P) :
    Only P s0 (State.decodeOn s x c half) := by
  unfold State.decodeOn
  repeat' (first | with_reducible exact sub_of hP (by decide) | intro _ | with_reducible exact hs | with_reducible assumption
                 | with_reducible exact may_block (hP _ (by decide)) | with_reducible exact may_any (hP _ (by decide))
                 | with_reducible apply only_poolRun | with_reducible apply only_store)

theorem only_passedBy {P : List Part} {s0 : State} {s : State} {x : Act} {c : Codeword} (hs : Only P s0 s) (hP : ∀ p ∈ ([.reg 0x4010,
    .reg 0x4011, .reg 0x4012, .reg 0x4013, .reg 0x4014, .out, .lanes] : List Part), p ∈ P) :
    Only P s0 (State.passedBy s x c) := by
  unfold State.passedBy
  repeat' (first | with_reducible exact sub_of hP (by decide) | intro _ | with_reducible exact hs | with_reducible assumption
                 | with_reducible exact may_block (hP _ (by decide)) | with_reducible apply only_ite
                 | with_reducible apply only_endSector | split | (dsimp only; split))

theorem only_mirrorServes {P : List Part} {s0 : State} {s : State} {x : Act} {c : Codeword} {body : List Nat} (hs : Only P s0 s) (hP :
    ∀ p ∈ ([.reg 0x4014, .reg 0x4072, .ldg, .rcv] : List Part), p ∈ P) :
    Only P s0 (State.mirrorServes s x c body) := by
  unfold State.mirrorServes
  repeat' (first | with_reducible exact Or.inr rfl | with_reducible exact sub_of hP (by decide) | intro _ | with_reducible exact hs
                 | with_reducible assumption | with_reducible exact Or.inl (hP _ (by decide))
                 | with_reducible exact may_block (hP _ (by decide)) | with_reducible apply only_ite | with_reducible apply only_foldl
                 | with_reducible apply only_sixDelivers | simp only [↓only_mk] | with_reducible apply parts_of | split
                 | (dsimp only; split))

theorem only_takePlace {P : List Part} {s0 : State} {s : State} {k : Nat} {p : RecPlace} (hs : Only P s0 s) (hP : ∀ p ∈ ([.reg 0x4010,
    .reg 0x4011, .reg 0x4012, .reg 0x4013, .reg 0x4014, .reg 0x4072, .regs, .ldg, .eng, .lanes, .rcv] : List Part), p ∈ P) :
    Only P s0 (State.takePlace s k p) := by
  unfold State.takePlace
  repeat' (first | with_reducible exact Or.inr rfl | with_reducible exact sub_of hP (by decide) | intro _ | with_reducible exact hs
                 | with_reducible assumption | with_reducible exact Or.inl (hP _ (by decide))
                 | with_reducible exact may_block (hP _ (by decide)) | with_reducible exact may_any (hP _ (by decide))
                 | with_reducible apply only_ite | with_reducible apply only_ladderOn | with_reducible apply only_putRcv
                 | simp only [↓only_mk] | with_reducible apply parts_of | split | (dsimp only; split))

theorem only_noteNotPlaced {P : List Part} {s0 : State} {s : State} {x : Act} {o : LaneOp} (hs : Only P s0 s) (hP : ∀ p ∈ ([.reg
    0x4010, .reg 0x4011, .reg 0x4012, .reg 0x4013, .reg 0x4014, .lanes] : List Part), p ∈ P) :
    Only P s0 (State.noteNotPlaced s x o) := by
  unfold State.noteNotPlaced
  repeat' (first | with_reducible exact Or.inr rfl | with_reducible exact sub_of hP (by decide) | intro _ | with_reducible exact hs
                 | with_reducible assumption | with_reducible exact Or.inl (hP _ (by decide))
                 | with_reducible exact may_block (hP _ (by decide)) | with_reducible apply only_ite | with_reducible apply only_foldl
                 | with_reducible apply only_putLane | simp only [↓only_mk] | with_reducible apply parts_of | split
                 | (dsimp only; split))

theorem only_writeTaps {P : List Part} {s0 : State} {s : State} {x : Act} {o : LaneOp} (hs : Only P s0 s) (hP : ∀ p ∈ ([.regs] : List
    Part), p ∈ P) :
    Only P s0 (State.writeTaps s x o) := by
  unfold State.writeTaps
  repeat' (first | with_reducible exact sub_of hP (by decide) | intro _ | with_reducible exact hs | with_reducible assumption
                 | with_reducible exact may_block (hP _ (by decide)) | with_reducible exact may_any (hP _ (by decide))
                 | with_reducible apply only_ite | with_reducible apply only_putTapBytes
                 | (cases x <;> exact may_block (hP _ (by decide))) | split | (dsimp only; split))

theorem only_noteMove {P : List Part} {s0 : State} {s : State} {x : Act} {o : LaneOp} (hs : Only P s0 s) (hP : ∀ p ∈ ([.reg 0x4014,
    .rcv] : List Part), p ∈ P) :
    Only P s0 (State.noteMove s x o) := by
  unfold State.noteMove
  repeat' (first | with_reducible exact Or.inr rfl | with_reducible exact sub_of hP (by decide) | intro _ | with_reducible exact hs
                 | with_reducible assumption | with_reducible exact Or.inl (hP _ (by decide))
                 | with_reducible exact may_block (hP _ (by decide)) | with_reducible apply only_ite
                 | with_reducible apply only_putRcv | simp only [↓only_mk] | with_reducible apply parts_of | split
                 | (dsimp only; split))

theorem only_laneAbort {P : List Part} {s0 : State} {s : State} {x : Act} (hs : Only P s0 s) (hP : ∀ p ∈ ([.reg 0x4000, .reg 0x4010,
    .reg 0x4011, .reg 0x4012, .reg 0x4013, .reg 0x4014, .reg 0x4020, .reg 0x4063, .reg 0x4071, .reg 0x4072, .cells, .desk, .ldg, .out,
    .lanes, .mem, .host, .pwr] : List Part), p ∈ P) :
    Only P s0 (State.laneAbort s x) := by
  unfold State.laneAbort
  repeat' (first | with_reducible exact Or.inr rfl | with_reducible exact sub_of hP (by decide) | intro _ | with_reducible exact hs
                 | with_reducible assumption | with_reducible exact Or.inl (hP _ (by decide))
                 | with_reducible exact may_block (hP _ (by decide)) | with_reducible apply only_abortOn
                 | with_reducible apply only_checkMedia | with_reducible apply only_endOp | with_reducible apply only_set
                 | with_reducible apply only_fst ‹_ = (_, _)› | simp only [↓only_mk] | with_reducible apply parts_of
                 | (cases x <;> exact may_block (hP _ (by decide))) | split | (dsimp only; split))

theorem only_releaseHalf {P : List Part} {s0 : State} {s : State} {half : Nat} (hs : Only P s0 s) (hP : ∀ p ∈ ([.reg 0x4010, .reg
    0x4011, .reg 0x4012, .reg 0x4013, .reg 0x4014, .lanes, .rcv] : List Part), p ∈ P) :
    Only P s0 (State.releaseHalf s half) := by
  unfold State.releaseHalf
  repeat' (first | with_reducible exact Or.inr rfl | with_reducible exact sub_of hP (by decide) | intro _ | with_reducible exact hs
                 | with_reducible assumption | with_reducible exact Or.inl (hP _ (by decide))
                 | with_reducible exact may_block (hP _ (by decide)) | with_reducible apply only_foldl
                 | with_reducible apply only_putLane | with_reducible apply only_restartWork | simp only [↓only_mk]
                 | with_reducible apply parts_of)

theorem only_latchJobs {P : List Part} {s0 : State} {s : State} {from_ n : Nat} (hs : Only P s0 s) (hP : ∀ p ∈ ([.reg 0x4014, .rcv] :
    List Part), p ∈ P) :
    Only P s0 (State.latchJobs s from_ n) := by
  unfold State.latchJobs
  repeat' (first | with_reducible exact Or.inr rfl | with_reducible exact sub_of hP (by decide) | intro _ | with_reducible exact hs
                 | with_reducible assumption | with_reducible exact Or.inl (hP _ (by decide))
                 | with_reducible exact may_block (hP _ (by decide)) | with_reducible apply only_foldl
                 | with_reducible apply only_putRcv | simp only [↓only_mk] | with_reducible apply parts_of)

theorem only_jobResult {P : List Part} {s0 : State} {s : State} {tag result place units rung : Nat} {slip : Int} {synd : Nat} (hs :
    Only P s0 s) (hP : ∀ p ∈ ([.reg 0x4000, .reg 0x4014, .reg 0x4020, .reg 0x4063, .reg 0x4071, .reg 0x4072, .cells, .desk, .ldg,
    .out, .mem, .host, .pwr] : List Part), p ∈ P) :
    Only P s0 (State.jobResult s tag result place units rung slip synd) := by
  unfold State.jobResult
  repeat' (first | with_reducible exact sub_of hP (by decide) | intro _ | with_reducible exact hs | with_reducible assumption
                 | with_reducible exact may_block (hP _ (by decide)) | with_reducible apply only_set
                 | with_reducible apply only_storeWords)

theorem only_runWork {P : List Part} {s0 : State} {s : State} {w : Work} {half : Nat} (hs : Only P s0 s) (hP : ∀ p ∈ ([.reg 0x4000,
    .reg 0x4010, .reg 0x4011, .reg 0x4012, .reg 0x4013, .reg 0x4014, .regs, .lanes, .dec, .rcv] : List Part), p ∈ P) :
    Only P s0 (State.runWork s w half) := by
  unfold State.runWork
  repeat' (first | with_reducible exact sub_of hP (by decide) | intro _ | with_reducible exact hs | with_reducible assumption
                 | with_reducible exact may_block (hP _ (by decide)) | with_reducible exact may_any (hP _ (by decide))
                 | with_reducible apply only_poolRun)

theorem only_dropWork {P : List Part} {s0 : State} {s : State} {w : Work} (hs : Only P s0 s) (hP : ∀ p ∈ ([.reg 0x4014, .rcv] : List
    Part), p ∈ P) :
    Only P s0 (State.dropWork s w) := by
  unfold State.dropWork
  repeat' (first | with_reducible exact Or.inr rfl | with_reducible exact sub_of hP (by decide) | intro _ | with_reducible exact hs
                 | with_reducible assumption | with_reducible exact Or.inl (hP _ (by decide))
                 | with_reducible exact may_block (hP _ (by decide)) | with_reducible apply only_putRcv | simp only [↓only_mk]
                 | with_reducible apply parts_of)

theorem only_heldEnd {P : List Part} {s0 : State} {s : State} {w : Work} {e : WorkEnd} (hs : Only P s0 s) (hP : ∀ p ∈ ([.reg 0x4000,
    .reg 0x4010, .reg 0x4011, .reg 0x4012, .reg 0x4013, .reg 0x4014, .reg 0x4020, .reg 0x4063, .reg 0x4071, .reg 0x4072, .regs,
    .cells, .desk, .ldg, .out, .eng, .lanes, .rcv, .mem, .host, .pwr] : List Part), p ∈ P) :
    Only P s0 (State.heldEnd s w e) := by
  unfold State.heldEnd
  repeat' (first | with_reducible exact Or.inr rfl | with_reducible exact sub_of hP (by decide) | intro _ | with_reducible exact hs
                 | with_reducible assumption | with_reducible exact Or.inl (hP _ (by decide))
                 | with_reducible exact may_block (hP _ (by decide)) | with_reducible exact may_any (hP _ (by decide))
                 | with_reducible apply only_dropWork | with_reducible apply only_jobResult | with_reducible apply only_ladderDelivers
                 | with_reducible apply only_ladderOn | with_reducible apply only_fst ‹_ = (_, _)› | simp only [↓only_mk]
                 | with_reducible apply parts_of | split | (dsimp only; split))

theorem only_foreignTold {P : List Part} {s0 : State} {s : State} {p : RecPlace} (hs : Only P s0 s) (hP : ∀ p ∈ ([.reg 0x4000, .reg
    0x4020, .reg 0x4040, .reg 0x4061, .reg 0x4063, .reg 0x4071, .reg 0x4072, .cells, .desk, .ldg, .out, .bags, .mem, .office, .host,
    .pwr] : List Part), p ∈ P) :
    Only P s0 (State.foreignTold s p) := by
  unfold State.foreignTold
  repeat' (first | with_reducible exact Or.inr rfl | with_reducible exact sub_of hP (by decide) | intro _ | with_reducible exact hs
                 | with_reducible assumption | with_reducible exact Or.inl (hP _ (by decide))
                 | with_reducible exact may_block (hP _ (by decide)) | with_reducible apply only_ite
                 | with_reducible apply only_closeGroup | with_reducible apply only_setBands | simp only [↓only_mk]
                 | with_reducible apply parts_of | split | (dsimp only; split))

theorem only_jobEnd {P : List Part} {s0 : State} {s : State} {w : Work} {e : WorkEnd} (hs : Only P s0 s) (hP : ∀ p ∈ ([.reg 0x4000,
    .reg 0x4010, .reg 0x4011, .reg 0x4012, .reg 0x4013, .reg 0x4014, .reg 0x4020, .reg 0x4040, .reg 0x4061, .reg 0x4063, .reg 0x4071,
    .reg 0x4072, .regs, .cells, .desk, .ldg, .out, .eng, .lanes, .rcv, .bags, .mem, .office, .host, .pwr] : List Part), p ∈ P) :
    Only P s0 (State.jobEnd s w e) := by
  unfold State.jobEnd
  repeat' (first | with_reducible exact Or.inr rfl | with_reducible exact sub_of hP (by decide) | intro _ | with_reducible exact hs
                 | with_reducible assumption | with_reducible exact Or.inl (hP _ (by decide))
                 | with_reducible exact may_block (hP _ (by decide)) | with_reducible exact may_any (hP _ (by decide))
                 | with_reducible apply only_ite | with_reducible apply only_dropWork | with_reducible apply only_foreignTold
                 | with_reducible apply only_jobResult | with_reducible apply only_ladderDelivers | with_reducible apply only_ladderOn
                 | with_reducible apply only_putPlace | with_reducible apply only_toSix | with_reducible apply only_fst ‹_ = (_, _)›
                 | simp only [↓only_mk] | with_reducible apply parts_of | split | (dsimp only; split))

theorem only_addRead {P : List Part} {s0 : State} {s : State} {place sum area : Nat} {p : RecPlace} (hs : Only P s0 s) (hP : ∀ p ∈
    ([.reg 0x4000, .reg 0x4014, .reg 0x4020, .reg 0x4063, .reg 0x4071, .reg 0x4072, .cells, .desk, .ldg, .out, .rcv, .mem, .host,
    .pwr] : List Part), p ∈ P) :
    Only P s0 (State.addRead s place sum area p) := by
  unfold State.addRead
  repeat' (first | with_reducible exact Or.inr rfl | with_reducible exact sub_of hP (by decide) | intro _ | with_reducible exact hs
                 | with_reducible assumption | with_reducible exact Or.inl (hP _ (by decide))
                 | with_reducible exact may_block (hP _ (by decide)) | with_reducible apply only_ite
                 | with_reducible apply only_putPlace | with_reducible apply only_store | with_reducible apply only_fst ‹_ = (_, _)›
                 | simp only [↓only_mk] | with_reducible apply parts_of | split | (dsimp only; split))

theorem only_takeJob {P : List Part} {s0 : State} {s : State} {pick : Nat → Bool} {f : Nat → Nat → Nat → Nat → Nat → Nat → State →
    State} (hs : Only P s0 s) (hf : ∀ x0 x1 x2 x3 x4 x5 s, Only P s0 s → Only P s0 (f x0 x1 x2 x3 x4 x5 s)) (hP : ∀ p ∈ ([.reg 0x4014]
    : List Part), p ∈ P) :
    Only P s0 (State.takeJob s pick f) := by
  unfold State.takeJob
  repeat' (first | with_reducible exact sub_of hP (by decide) | intro _ | with_reducible exact hs | with_reducible assumption
                 | with_reducible exact may_block (hP _ (by decide)) | with_reducible apply only_ite | with_reducible apply only_set
                 | with_reducible apply hf | split | (dsimp only; split))

theorem only_beginJob {P : List Part} {s0 : State} {s : State} {kind tag place sum area posted : Nat} (hs : Only P s0 s) (hP : ∀ p ∈
    ([.reg 0x4000, .reg 0x4014, .reg 0x4020, .reg 0x4063, .reg 0x4071, .reg 0x4072, .cells, .desk, .ldg, .out, .rcv, .mem, .host,
    .pwr] : List Part), p ∈ P) :
    Only P s0 (State.beginJob s kind tag place sum area posted) := by
  unfold State.beginJob
  repeat' (first | with_reducible exact Or.inr rfl | with_reducible exact sub_of hP (by decide) | intro _ | with_reducible exact hs
                 | with_reducible assumption | with_reducible exact Or.inl (hP _ (by decide))
                 | with_reducible exact may_block (hP _ (by decide)) | with_reducible apply only_ite
                 | with_reducible apply only_addRead | with_reducible apply only_jobResult | with_reducible apply only_putRcv
                 | with_reducible apply only_fst ‹_ = (_, _)› | simp only [↓only_mk] | with_reducible apply parts_of | split
                 | (dsimp only; split))

theorem only_runJob {P : List Part} {s0 : State} {s : State} {kind half : Nat} (hs : Only P s0 s) (hP : ∀ p ∈ ([.reg 0x4000, .reg
    0x4010, .reg 0x4011, .reg 0x4012, .reg 0x4013, .reg 0x4014, .reg 0x4020, .reg 0x4040, .reg 0x4061, .reg 0x4063, .reg 0x4071, .reg
    0x4072, .regs, .cells, .desk, .ldg, .out, .eng, .lanes, .dec, .rcv, .bags, .mem, .office, .host, .pwr] : List Part), p ∈ P) :
    Only P s0 (State.runJob s kind half) := by
  unfold State.runJob
  repeat' (first | with_reducible exact Or.inr rfl | with_reducible exact sub_of hP (by decide) | intro _ | with_reducible exact hs
                 | with_reducible assumption | with_reducible exact Or.inl (hP _ (by decide))
                 | with_reducible exact may_block (hP _ (by decide)) | with_reducible exact may_any (hP _ (by decide))
                 | with_reducible apply only_jobEnd | with_reducible apply only_runWork | simp only [↓only_mk]
                 | with_reducible apply parts_of | split | (dsimp only; split))

theorem only_ladderFails {P : List Part} {s0 : State} {s : State} {p : RecPlace} (hs : Only P s0 s) (hP : ∀ p ∈ ([.reg 0x4000, .reg
    0x4014, .reg 0x4020, .reg 0x4040, .reg 0x4061, .reg 0x4063, .reg 0x4071, .reg 0x4072, .cells, .desk, .ldg, .out, .rcv, .bags,
    .mem, .office, .host, .pwr] : List Part), p ∈ P) :
    Only P s0 (State.ladderFails s p) := by
  unfold State.ladderFails
  repeat' (first | with_reducible exact Or.inr rfl | with_reducible exact sub_of hP (by decide) | intro _ | with_reducible exact hs
                 | with_reducible assumption | with_reducible exact Or.inl (hP _ (by decide))
                 | with_reducible exact may_block (hP _ (by decide)) | with_reducible apply only_ladderEnd
                 | with_reducible apply only_listUnreadable | with_reducible apply only_putRcv
                 | with_reducible apply only_fst ‹_ = (_, _)› | simp only [↓only_mk] | with_reducible apply parts_of | split
                 | (dsimp only; split))

theorem only_replaceTrack {P : List Part} {s0 : State} {s : State} {area track : Nat} (hs : Only P s0 s) (hP : ∀ p ∈ ([.office] : List
    Part), p ∈ P) :
    Only P s0 (State.replaceTrack s area track) := by
  unfold State.replaceTrack
  repeat' (first | with_reducible exact Or.inr rfl | with_reducible exact sub_of hP (by decide) | intro _ | with_reducible exact hs
                 | with_reducible assumption | with_reducible exact Or.inl (hP _ (by decide))
                 | with_reducible exact may_block (hP _ (by decide)) | with_reducible apply only_ite
                 | with_reducible apply only_putOffice | simp only [↓only_mk] | with_reducible apply parts_of | split
                 | (dsimp only; split))

theorem only_firmwareOp {P : List Part} {s0 : State} {s : State} {x : Act} {o : LaneOp} (hs : Only P s0 s) (hP : ∀ p ∈ ([.reg 0x4000,
    .reg 0x4010, .reg 0x4011, .reg 0x4012, .reg 0x4013, .reg 0x4014, .reg 0x4020, .reg 0x4063, .reg 0x4071, .reg 0x4072, .cells,
    .desk, .ldg, .out, .lanes, .mem, .host, .pwr] : List Part), p ∈ P) :
    Only P s0 (State.firmwareOp s x o) := by
  unfold State.firmwareOp
  repeat' (first | with_reducible exact Or.inr rfl | with_reducible exact sub_of hP (by decide) | intro _ | with_reducible exact hs
                 | with_reducible assumption | with_reducible exact Or.inl (hP _ (by decide))
                 | with_reducible exact may_block (hP _ (by decide)) | with_reducible apply only_beginOp
                 | with_reducible apply only_complete | with_reducible apply only_laneRest
                 | with_reducible apply only_fst ‹_ = (_, _)› | simp only [↓only_mk] | with_reducible apply parts_of | split
                 | (dsimp only; split))

theorem only_relocate {P : List Part} {s0 : State} {s : State} {x : Act} {p : NotPlaced} (hs : Only P s0 s) (hP : ∀ p ∈ ([.reg 0x4000,
    .reg 0x4010, .reg 0x4011, .reg 0x4012, .reg 0x4013, .reg 0x4014, .reg 0x4020, .reg 0x4040, .reg 0x4061, .reg 0x4063, .reg 0x4071,
    .reg 0x4072, .cells, .desk, .ldg, .out, .lanes, .bags, .mem, .office, .host, .pwr] : List Part), p ∈ P) :
    Only P s0 (State.relocate s x p) := by
  unfold State.relocate
  repeat' (first | with_reducible exact Or.inr rfl | with_reducible exact sub_of hP (by decide) | intro _ | with_reducible exact hs
                 | with_reducible assumption | with_reducible exact Or.inl (hP _ (by decide))
                 | with_reducible exact may_block (hP _ (by decide)) | with_reducible apply only_ite
                 | with_reducible apply only_failBand | with_reducible apply only_firmwareOp | with_reducible apply only_putLane
                 | with_reducible apply only_replaceTrack | with_reducible apply only_setBands
                 | with_reducible apply only_fst ‹_ = (_, _)› | simp only [↓only_mk] | with_reducible apply parts_of | split
                 | (dsimp only; split))

theorem only_moveOp {P : List Part} {s0 : State} {s : State} {p : RecPlace} {back : Bool} (hs : Only P s0 s) (hP : ∀ p ∈ ([.reg
    0x4010, .reg 0x4011, .reg 0x4012, .reg 0x4013, .reg 0x4014, .out, .lanes, .rcv] : List Part), p ∈ P) :
    Only P s0 (State.moveOp s p back) := by
  unfold State.moveOp
  repeat' (first | with_reducible exact Or.inr rfl | with_reducible exact sub_of hP (by decide) | intro _ | with_reducible exact hs
                 | with_reducible assumption | with_reducible exact Or.inl (hP _ (by decide))
                 | with_reducible exact may_block (hP _ (by decide)) | with_reducible apply only_ite
                 | with_reducible apply only_beginOp | with_reducible apply only_putRcv | with_reducible apply only_fst ‹_ = (_, _)›
                 | simp only [↓only_mk] | with_reducible apply parts_of | split | (dsimp only; split))

theorem only_moveOn {P : List Part} {s0 : State} {s : State} {m : Move} {status : Nat} (hs : Only P s0 s) (hP : ∀ p ∈ ([.reg 0x4010,
    .reg 0x4011, .reg 0x4012, .reg 0x4013, .reg 0x4014, .out, .lanes, .rcv, .office] : List Part), p ∈ P) :
    Only P s0 (State.moveOn s m status) := by
  unfold State.moveOn
  repeat' (first | with_reducible exact Or.inr rfl | with_reducible exact sub_of hP (by decide) | intro _ | with_reducible exact hs
                 | with_reducible assumption | with_reducible exact Or.inl (hP _ (by decide))
                 | with_reducible exact may_block (hP _ (by decide)) | with_reducible apply only_ite
                 | with_reducible apply only_moveOp | with_reducible apply only_putLane | with_reducible apply only_putRcv
                 | with_reducible apply only_replaceTrack | simp only [↓only_mk] | with_reducible apply parts_of | split
                 | (dsimp only; split))

theorem only_replaceBand {P : List Part} {s0 : State} {s : State} {k : Nat} (hs : Only P s0 s) (hP : ∀ p ∈ ([.reg 0x4000, .reg 0x4020,
    .reg 0x4040, .reg 0x4061, .reg 0x4063, .reg 0x4071, .reg 0x4072, .cells, .desk, .ldg, .out, .rcv, .bags, .mem, .office, .host,
    .pwr] : List Part), p ∈ P) :
    Only P s0 (State.replaceBand s k) := by
  unfold State.replaceBand
  repeat' (first | with_reducible exact Or.inr rfl | with_reducible exact sub_of hP (by decide) | intro _ | with_reducible exact hs
                 | with_reducible assumption | with_reducible exact Or.inl (hP _ (by decide))
                 | with_reducible exact may_block (hP _ (by decide)) | with_reducible apply only_rebuildMember
                 | with_reducible apply only_setBands | simp only [↓only_mk] | with_reducible apply parts_of | split
                 | (dsimp only; split))

theorem only_moveFromBand {P : List Part} {s0 : State} {s : State} {p : RecPlace} (hs : Only P s0 s) (hP : ∀ p ∈ ([.reg 0x4000, .reg
    0x4020, .reg 0x4040, .reg 0x4061, .reg 0x4063, .reg 0x4071, .reg 0x4072, .cells, .desk, .ldg, .out, .rcv, .bags, .mem, .office,
    .host, .pwr] : List Part), p ∈ P) :
    Only P s0 (State.moveFromBand s p).1 := by
  unfold State.moveFromBand
  repeat' (first | with_reducible exact Or.inr rfl | with_reducible exact sub_of hP (by decide) | intro _ | with_reducible exact hs
                 | with_reducible assumption | with_reducible exact Or.inl (hP _ (by decide))
                 | with_reducible exact may_block (hP _ (by decide)) | with_reducible apply only_ite
                 | with_reducible apply only_addUnit | with_reducible apply only_fcPlace | with_reducible apply only_journal
                 | with_reducible apply only_putOffice | with_reducible apply only_replaceBand | with_reducible apply only_switchJob
                 | with_reducible apply only_fst ‹_ = (_, _)› | simp only [↓only_mk] | with_reducible apply parts_of | split
                 | (dsimp only; split))

theorem only_putKrx {P : List Part} {s0 : State} {s : State} {k : Krx} (hs : Only P s0 s) (hP : ∀ p ∈ ([.krx] : List Part), p ∈ P) :
    Only P s0 (State.putKrx s k) := by
  unfold State.putKrx
  repeat' (first | with_reducible exact Or.inr rfl | with_reducible exact sub_of hP (by decide) | intro _ | with_reducible exact hs
                 | with_reducible assumption | with_reducible exact Or.inl (hP _ (by decide))
                 | with_reducible exact may_block (hP _ (by decide)) | simp only [↓only_mk] | with_reducible apply parts_of)

theorem only_setRole {P : List Part} {s0 : State} {s : State} {role pm : Nat} (hs : Only P s0 s) (hP : ∀ p ∈ ([.reg 0x4031] : List
    Part), p ∈ P) :
    Only P s0 (State.setRole s role pm) := by
  unfold State.setRole
  repeat' (first | with_reducible exact sub_of hP (by decide) | with_reducible exact mayAll_nil | with_reducible apply mayAll_cons
                 | with_reducible exact mayPairs_nil | with_reducible apply mayPairs_cons | intro _ | with_reducible exact hs
                 | with_reducible assumption | with_reducible exact may_block (hP _ (by decide)) | with_reducible apply only_ite
                 | with_reducible apply only_inc | with_reducible apply only_setAll | split | (dsimp only; split))

theorem only_followTarget {P : List Part} {s0 : State} {s : State} (hs : Only P s0 s) (hP : ∀ p ∈ ([.reg 0x4031] : List Part), p ∈ P) :
    Only P s0 (State.followTarget s) := by
  unfold State.followTarget
  repeat' (first | with_reducible exact sub_of hP (by decide) | intro _ | with_reducible exact hs | with_reducible assumption
                 | with_reducible exact may_block (hP _ (by decide)) | with_reducible apply only_ite | with_reducible apply only_set
                 | split | (dsimp only; split))

theorem only_sendFrame {P : List Part} {s0 : State} {s : State} {type : Nat} {payload : List Nat} (hs : Only P s0 s) (hP : ∀ p ∈
    ([.out, .krx] : List Part), p ∈ P) :
    Only P s0 (State.sendFrame s type payload) := by
  unfold State.sendFrame
  repeat' (first | with_reducible exact Or.inr rfl | with_reducible exact sub_of hP (by decide) | intro _ | with_reducible exact hs
                 | with_reducible assumption | with_reducible exact Or.inl (hP _ (by decide))
                 | with_reducible exact may_block (hP _ (by decide)) | with_reducible apply only_emit
                 | with_reducible apply only_putKrx | simp only [↓only_mk] | with_reducible apply parts_of)

theorem only_putKxSlot {P : List Part} {s0 : State} {s : State} {n : Nat} {k : KxSlot} (hs : Only P s0 s) (hP : ∀ p ∈ ([.krx] : List
    Part), p ∈ P) :
    Only P s0 (State.putKxSlot s n k) := by
  unfold State.putKxSlot
  repeat' (first | with_reducible exact Or.inr rfl | with_reducible exact sub_of hP (by decide) | intro _ | with_reducible exact hs
                 | with_reducible assumption | with_reducible exact Or.inl (hP _ (by decide))
                 | with_reducible exact may_block (hP _ (by decide)) | with_reducible apply only_putKrx | simp only [↓only_mk]
                 | with_reducible apply parts_of)

theorem only_queueAsk {P : List Part} {s0 : State} {s : State} {n ask : Nat} (hs : Only P s0 s) (hP : ∀ p ∈ ([.reg 0x4031, .krx] :
    List Part), p ∈ P) :
    Only P s0 (State.queueAsk s n ask) := by
  unfold State.queueAsk
  repeat' (first | with_reducible exact Or.inr rfl | with_reducible exact sub_of hP (by decide) | intro _ | with_reducible exact hs
                 | with_reducible assumption | with_reducible exact Or.inl (hP _ (by decide))
                 | with_reducible exact may_block (hP _ (by decide)) | with_reducible apply only_ite
                 | with_reducible apply only_putKrx | with_reducible apply only_set | simp only [↓only_mk]
                 | with_reducible apply parts_of | split | (dsimp only; split))

theorem only_heardStatus {P : List Part} {s0 : State} {s : State} {f : List Nat} (hs : Only P s0 s) (hP : ∀ p ∈ ([.reg 0x4031, .krx] :
    List Part), p ∈ P) :
    Only P s0 (State.heardStatus s f) := by
  unfold State.heardStatus
  repeat' (first | with_reducible exact Or.inr rfl | with_reducible exact sub_of hP (by decide) | intro _ | with_reducible exact hs
                 | with_reducible assumption | with_reducible exact Or.inl (hP _ (by decide))
                 | with_reducible exact may_block (hP _ (by decide)) | with_reducible apply only_ite
                 | with_reducible apply only_putKxSlot | with_reducible apply only_queueAsk | simp only [↓only_mk]
                 | with_reducible apply parts_of | split | (dsimp only; split))

theorem only_grantAsks {P : List Part} {s0 : State} {s : State} {n e : Nat} (hs : Only P s0 s) (hP : ∀ p ∈ ([.reg 0x4031, .krx] : List
    Part), p ∈ P) :
    Only P s0 (State.grantAsks s n e) := by
  induction n generalizing s e with
  | zero => exact hs
  | succ n ih =>
    unfold State.grantAsks
    repeat' (first | with_reducible exact Or.inr rfl | with_reducible exact sub_of hP (by decide) | intro _ | with_reducible exact hs
                   | with_reducible assumption | with_reducible apply ih | with_reducible exact Or.inl (hP _ (by decide))
                   | with_reducible exact may_block (hP _ (by decide)) | with_reducible apply only_ite
                   | with_reducible apply only_grantAsks | with_reducible apply only_inc | with_reducible apply only_putKrx
                   | with_reducible apply only_putKxSlot | with_reducible apply only_set | with_reducible apply only_fst ‹_ = (_, _)›
                   | simp only [↓only_mk] | with_reducible apply parts_of | split | (dsimp only; split))

theorem only_sendBeacon {P : List Part} {s0 : State} {s : State} (hs : Only P s0 s) (hP : ∀ p ∈ ([.reg 0x4031, .out, .krx] : List
    Part), p ∈ P) :
    Only P s0 (State.sendBeacon s) := by
  unfold State.sendBeacon
  repeat' (first | with_reducible exact Or.inr rfl | with_reducible exact sub_of hP (by decide) | with_reducible exact mayAll_nil
                 | with_reducible apply mayAll_cons | with_reducible exact mayPairs_nil | with_reducible apply mayPairs_cons | intro _
                 | with_reducible exact hs | with_reducible assumption | with_reducible exact Or.inl (hP _ (by decide))
                 | with_reducible exact may_block (hP _ (by decide)) | with_reducible apply only_ite
                 | with_reducible apply only_grantAsks | with_reducible apply only_putKrx | with_reducible apply only_sendFrame
                 | with_reducible apply only_setAll | simp only [↓only_mk] | with_reducible apply parts_of | split
                 | (dsimp only; split))

theorem only_abdicate {P : List Part} {s0 : State} {s : State} (hs : Only P s0 s) (hP : ∀ p ∈ ([.reg 0x4031, .krx] : List Part), p ∈
    P) :
    Only P s0 (State.abdicate s) := by
  unfold State.abdicate
  repeat' (first | with_reducible exact Or.inr rfl | with_reducible exact sub_of hP (by decide) | with_reducible exact mayAll_nil
                 | with_reducible apply mayAll_cons | with_reducible exact mayPairs_nil | with_reducible apply mayPairs_cons | intro _
                 | with_reducible exact hs | with_reducible assumption | with_reducible exact Or.inl (hP _ (by decide))
                 | with_reducible exact may_block (hP _ (by decide)) | with_reducible apply only_putKrx
                 | with_reducible apply only_setAll | with_reducible apply only_setRole | simp only [↓only_mk]
                 | with_reducible apply parts_of)

theorem only_applyGrant {P : List Part} {s0 : State} {s : State} {slot amount gseq : Nat} (hs : Only P s0 s) (hP : ∀ p ∈ ([.reg
    0x4031, .krx] : List Part), p ∈ P) :
    Only P s0 (State.applyGrant s slot amount gseq) := by
  unfold State.applyGrant
  repeat' (first | with_reducible exact Or.inr rfl | with_reducible exact sub_of hP (by decide) | intro _ | with_reducible exact hs
                 | with_reducible assumption | with_reducible exact Or.inl (hP _ (by decide))
                 | with_reducible exact may_block (hP _ (by decide)) | with_reducible apply only_ite | with_reducible apply only_inc
                 | with_reducible apply only_putKrx | with_reducible apply only_set | simp only [↓only_mk]
                 | with_reducible apply parts_of | split | (dsimp only; split))

theorem only_followBeacon {P : List Part} {s0 : State} {s : State} {f : List Nat} (hs : Only P s0 s) (hP : ∀ p ∈ ([.reg 0x4031, .krx]
    : List Part), p ∈ P) :
    Only P s0 (State.followBeacon s f) := by
  unfold State.followBeacon
  repeat' (first | with_reducible exact Or.inr rfl | with_reducible exact sub_of hP (by decide) | intro _ | with_reducible exact hs
                 | with_reducible assumption | with_reducible exact Or.inl (hP _ (by decide))
                 | with_reducible exact may_block (hP _ (by decide)) | with_reducible apply only_ite | with_reducible apply only_foldl
                 | with_reducible apply only_applyGrant | with_reducible apply only_putKrx | with_reducible apply only_set
                 | simp only [↓only_mk] | with_reducible apply parts_of | split | (dsimp only; split))

theorem only_leaveShelfHold {P : List Part} {s0 : State} {s : State} (hs : Only P s0 s) (hP : ∀ p ∈ ([.reg 0x4000, .reg 0x4063, .env,
    .krx] : List Part), p ∈ P) :
    Only P s0 (State.leaveShelfHold s) := by
  unfold State.leaveShelfHold
  repeat' (first | with_reducible exact Or.inr rfl | with_reducible exact sub_of hP (by decide) | intro _ | with_reducible exact hs
                 | with_reducible assumption | with_reducible exact Or.inl (hP _ (by decide))
                 | with_reducible exact may_block (hP _ (by decide)) | with_reducible apply only_ite | with_reducible apply only_foldl
                 | with_reducible apply only_noEnvelope | with_reducible apply only_pdSwitchOn | with_reducible apply only_putKrx
                 | simp only [↓only_mk] | with_reducible apply parts_of | split | (dsimp only; split))

theorem only_shed {P : List Part} {s0 : State} {s : State} (hs : Only P s0 s) (hP : ∀ p ∈ ([.reg 0x4031] : List Part), p ∈ P) :
    Only P s0 (State.shed s) := by
  unfold State.shed
  repeat' (first | with_reducible exact Or.inr rfl | with_reducible exact sub_of hP (by decide) | intro _ | with_reducible exact hs
                 | with_reducible assumption | with_reducible exact Or.inl (hP _ (by decide))
                 | with_reducible exact may_block (hP _ (by decide)) | with_reducible apply only_ite | with_reducible apply only_set
                 | simp only [↓only_mk] | with_reducible apply parts_of | split | (dsimp only; split))

theorem only_booksTick {P : List Part} {s0 : State} {s : State} (hs : Only P s0 s) (hP : ∀ p ∈ ([.reg 0x4031, .eng, .books] : List
    Part), p ∈ P) :
    Only P s0 (State.booksTick s) := by
  unfold State.booksTick
  repeat' (first | with_reducible exact Or.inr rfl | with_reducible exact sub_of hP (by decide) | intro _ | with_reducible exact hs
                 | with_reducible assumption | with_reducible exact Or.inl (hP _ (by decide))
                 | with_reducible exact may_block (hP _ (by decide)) | with_reducible apply only_ite
                 | with_reducible apply only_putBooks | with_reducible apply only_fst ‹_ = (_, _)› | simp only [↓only_mk]
                 | with_reducible apply parts_of | split | (dsimp only; split))

theorem only_frankTick {P : List Part} {s0 : State} {s : State} {ns : Nat} (hs : Only P s0 s) (hP : ∀ p ∈ ([.reg 0x4020, .reg 0x4031,
    .eng, .books, .krx] : List Part), p ∈ P) :
    Only P s0 (State.frankTick s ns) := by
  unfold State.frankTick
  repeat' (first | with_reducible exact Or.inr rfl | with_reducible exact sub_of hP (by decide) | intro _ | with_reducible exact hs
                 | with_reducible assumption | with_reducible exact Or.inl (hP _ (by decide))
                 | with_reducible exact may_block (hP _ (by decide)) | with_reducible apply only_ite
                 | with_reducible apply only_booksTick | with_reducible apply only_followTarget | with_reducible apply only_latch
                 | with_reducible apply only_putKrx | with_reducible apply only_putPortOut | with_reducible apply only_set
                 | with_reducible apply only_shed | simp only [↓only_mk] | with_reducible apply parts_of | split
                 | (dsimp only; split))

theorem only_putConn {P : List Part} {s0 : State} {s : State} {n : Nat} {c : Conn} (hs : Only P s0 s) (hP : ∀ p ∈ ([.host] : List
    Part), p ∈ P) :
    Only P s0 (State.putConn s n c) := by
  unfold State.putConn
  repeat' (first | with_reducible exact Or.inr rfl | with_reducible exact sub_of hP (by decide) | intro _ | with_reducible exact hs
                 | with_reducible assumption | with_reducible exact Or.inl (hP _ (by decide))
                 | with_reducible exact may_block (hP _ (by decide)) | with_reducible apply only_putHost | simp only [↓only_mk]
                 | with_reducible apply parts_of)

theorem only_putAssoc {P : List Part} {s0 : State} {s : State} {n : Nat} {a : Assoc} (hs : Only P s0 s) (hP : ∀ p ∈ ([.host] : List
    Part), p ∈ P) :
    Only P s0 (State.putAssoc s n a) := by
  unfold State.putAssoc
  repeat' (first | with_reducible exact Or.inr rfl | with_reducible exact sub_of hP (by decide) | intro _ | with_reducible exact hs
                 | with_reducible assumption | with_reducible exact Or.inl (hP _ (by decide))
                 | with_reducible exact may_block (hP _ (by decide)) | with_reducible apply only_putHost | simp only [↓only_mk]
                 | with_reducible apply parts_of)

theorem only_putNs {P : List Part} {s0 : State} {s : State} {nsid : Nat} {n : Ns} (hs : Only P s0 s) (hP : ∀ p ∈ ([.host] : List
    Part), p ∈ P) :
    Only P s0 (State.putNs s nsid n) := by
  unfold State.putNs
  repeat' (first | with_reducible exact Or.inr rfl | with_reducible exact sub_of hP (by decide) | intro _ | with_reducible exact hs
                 | with_reducible assumption | with_reducible exact Or.inl (hP _ (by decide))
                 | with_reducible exact may_block (hP _ (by decide)) | with_reducible apply only_putHost | simp only [↓only_mk]
                 | with_reducible apply parts_of)

theorem only_connsRefresh {P : List Part} {s0 : State} {s : State} (hs : Only P s0 s) (hP : ∀ p ∈ ([.reg 0x4052] : List Part), p ∈ P) :
    Only P s0 (State.connsRefresh s) := by
  unfold State.connsRefresh
  repeat' (first | with_reducible exact sub_of hP (by decide) | with_reducible exact mayAll_nil | with_reducible apply mayAll_cons
                 | with_reducible exact mayPairs_nil | with_reducible apply mayPairs_cons | intro _ | with_reducible exact hs
                 | with_reducible assumption | with_reducible exact may_block (hP _ (by decide)) | with_reducible apply only_setAll)

theorem only_hqRefresh {P : List Part} {s0 : State} {s : State} (hs : Only P s0 s) (hP : ∀ p ∈ ([.reg 0x4053] : List Part), p ∈ P) :
    Only P s0 (State.hqRefresh s) := by
  unfold State.hqRefresh
  repeat' (first | with_reducible exact sub_of hP (by decide) | with_reducible exact mayAll_nil | with_reducible apply mayAll_cons
                 | with_reducible exact mayPairs_nil | with_reducible apply mayPairs_cons | intro _ | with_reducible exact hs
                 | with_reducible assumption | with_reducible exact may_block (hP _ (by decide))
                 | with_reducible apply only_itrayRefresh | with_reducible apply only_setAll)

theorem only_dropCmd {P : List Part} {s0 : State} {s : State} {serial : Nat} (hs : Only P s0 s) (hP : ∀ p ∈ ([.reg 0x4000, .reg
    0x4020, .reg 0x4053, .reg 0x4060, .reg 0x4071, .reg 0x4072, .regs, .desk, .ldg, .out, .bags, .host, .pwr] : List Part), p ∈ P) :
    Only P s0 (State.dropCmd s serial) := by
  unfold State.dropCmd
  repeat' (first | with_reducible exact Or.inr rfl | with_reducible exact sub_of hP (by decide) | intro _ | with_reducible exact hs
                 | with_reducible assumption | with_reducible exact Or.inl (hP _ (by decide))
                 | with_reducible exact may_block (hP _ (by decide)) | with_reducible exact may_any (hP _ (by decide))
                 | with_reducible apply only_ite | with_reducible apply only_bagReleaseAll | with_reducible apply only_hqRefresh
                 | with_reducible apply only_putHost | with_reducible apply only_fst ‹_ = (_, _)› | simp only [↓only_mk]
                 | with_reducible apply parts_of | split | (dsimp only; split))

theorem only_trayAdd {P : List Part} {s0 : State} {s : State} {kind : TrayKind} {nsid first count key keyLen : Nat} {bags : List Nat}
    (hs : Only P s0 s) (hP : ∀ p ∈ ([.host] : List Part), p ∈ P) :
    Only P s0 (State.trayAdd s kind nsid first count key keyLen bags).1 := by
  unfold State.trayAdd
  repeat' (first | with_reducible exact Or.inr rfl | with_reducible exact sub_of hP (by decide) | intro _ | with_reducible exact hs
                 | with_reducible assumption | with_reducible exact Or.inl (hP _ (by decide))
                 | with_reducible exact may_block (hP _ (by decide)) | with_reducible apply only_putHost | simp only [↓only_mk]
                 | with_reducible apply parts_of)

theorem only_openZone {P : List Part} {s0 : State} {s : State} {nsid k : Nat} {st : ZoneState} (hs : Only P s0 s) (hP : ∀ p ∈ ([.host]
    : List Part), p ∈ P) :
    Only P s0 (State.openZone s nsid k st) := by
  unfold State.openZone
  repeat' (first | with_reducible exact Or.inr rfl | with_reducible exact sub_of hP (by decide) | intro _ | with_reducible exact hs
                 | with_reducible assumption | with_reducible exact Or.inl (hP _ (by decide))
                 | with_reducible exact may_block (hP _ (by decide)) | with_reducible apply only_ite
                 | with_reducible apply only_putZone | simp only [↓only_mk] | with_reducible apply parts_of | split
                 | (dsimp only; split))

theorem only_zoneAdvance {P : List Part} {s0 : State} {s : State} {nsid k nlb : Nat} (hs : Only P s0 s) (hP : ∀ p ∈ ([.host] : List
    Part), p ∈ P) :
    Only P s0 (State.zoneAdvance s nsid k nlb) := by
  unfold State.zoneAdvance
  repeat' (first | with_reducible exact Or.inr rfl | with_reducible exact sub_of hP (by decide) | intro _ | with_reducible exact hs
                 | with_reducible assumption | with_reducible exact Or.inl (hP _ (by decide))
                 | with_reducible exact may_block (hP _ (by decide)) | with_reducible apply only_ite
                 | with_reducible apply only_openZone | with_reducible apply only_putZone | simp only [↓only_mk]
                 | with_reducible apply parts_of | split | (dsimp only; split))

theorem only_enterTray {P : List Part} {s0 : State} {s : State} {c : Cmd} (hs : Only P s0 s) (hP : ∀ p ∈ ([.host] : List Part), p ∈ P) :
    Only P s0 (State.enterTray s c).1 := by
  unfold State.enterTray
  repeat' (first | with_reducible exact Or.inr rfl | with_reducible exact sub_of hP (by decide) | intro _ | with_reducible exact hs
                 | with_reducible assumption | with_reducible exact Or.inl (hP _ (by decide))
                 | with_reducible exact may_block (hP _ (by decide)) | with_reducible apply only_ite
                 | with_reducible apply only_trayAdd | with_reducible apply only_zoneAdvance
                 | with_reducible apply only_fst ‹_ = (_, _)› | simp only [↓only_mk] | with_reducible apply parts_of | split
                 | (dsimp only; split))

theorem only_abandon {P : List Part} {s0 : State} {s : State} {serial : Nat} (hs : Only P s0 s) (hP : ∀ p ∈ ([.reg 0x4000, .reg
    0x4020, .reg 0x4053, .reg 0x4060, .reg 0x4071, .reg 0x4072, .regs, .desk, .ldg, .out, .bags, .host, .pwr] : List Part), p ∈ P) :
    Only P s0 (State.abandon s serial) := by
  unfold State.abandon
  repeat' (first | with_reducible exact Or.inr rfl | with_reducible exact sub_of hP (by decide) | intro _ | with_reducible exact hs
                 | with_reducible assumption | with_reducible exact Or.inl (hP _ (by decide))
                 | with_reducible exact may_block (hP _ (by decide)) | with_reducible exact may_any (hP _ (by decide))
                 | with_reducible apply only_ite | with_reducible apply only_dropCmd | with_reducible apply only_enterTray
                 | with_reducible apply only_putCmd | with_reducible apply only_fst ‹_ = (_, _)› | simp only [↓only_mk]
                 | with_reducible apply parts_of | split | (dsimp only; split))

theorem only_dropConn {P : List Part} {s0 : State} {s : State} {n : Nat} (hs : Only P s0 s) (hP : ∀ p ∈ ([.reg 0x4000, .reg 0x4020,
    .reg 0x4052, .reg 0x4053, .reg 0x4060, .reg 0x4071, .reg 0x4072, .regs, .desk, .ldg, .out, .bags, .host, .pwr] : List Part), p ∈
    P) :
    Only P s0 (State.dropConn s n) := by
  unfold State.dropConn
  repeat' (first | with_reducible exact Or.inr rfl | with_reducible exact sub_of hP (by decide) | intro _ | with_reducible exact hs
                 | with_reducible assumption | with_reducible exact Or.inl (hP _ (by decide))
                 | with_reducible exact may_block (hP _ (by decide)) | with_reducible exact may_any (hP _ (by decide))
                 | with_reducible apply only_foldl | with_reducible apply only_abandon | with_reducible apply only_connsRefresh
                 | with_reducible apply only_putHost | simp only [↓only_mk] | with_reducible apply parts_of)

theorem only_endAssoc {P : List Part} {s0 : State} {s : State} {a : Nat} (hs : Only P s0 s) (hP : ∀ p ∈ ([.reg 0x4000, .reg 0x4020,
    .reg 0x4052, .reg 0x4053, .reg 0x4060, .reg 0x4071, .reg 0x4072, .regs, .desk, .ldg, .out, .bags, .host, .pwr] : List Part), p ∈
    P) :
    Only P s0 (State.endAssoc s a) := by
  unfold State.endAssoc
  repeat' (first | with_reducible exact Or.inr rfl | with_reducible exact sub_of hP (by decide) | intro _ | with_reducible exact hs
                 | with_reducible assumption | with_reducible exact Or.inl (hP _ (by decide))
                 | with_reducible exact may_block (hP _ (by decide)) | with_reducible exact may_any (hP _ (by decide))
                 | with_reducible apply only_foldl | with_reducible apply only_connsRefresh | with_reducible apply only_dropConn
                 | with_reducible apply only_putHost | simp only [↓only_mk] | with_reducible apply parts_of)

theorem only_loseConn {P : List Part} {s0 : State} {s : State} {n : Nat} (hs : Only P s0 s) (hP : ∀ p ∈ ([.reg 0x4000, .reg 0x4020,
    .reg 0x4052, .reg 0x4053, .reg 0x4060, .reg 0x4071, .reg 0x4072, .regs, .desk, .ldg, .out, .bags, .host, .pwr] : List Part), p ∈
    P) :
    Only P s0 (State.loseConn s n) := by
  unfold State.loseConn
  repeat' (first | with_reducible exact Or.inr rfl | with_reducible exact sub_of hP (by decide) | intro _ | with_reducible exact hs
                 | with_reducible assumption | with_reducible exact Or.inl (hP _ (by decide))
                 | with_reducible exact may_block (hP _ (by decide)) | with_reducible exact may_any (hP _ (by decide))
                 | with_reducible apply only_dropConn | with_reducible apply only_endAssoc | simp only [↓only_mk]
                 | with_reducible apply parts_of | split | (dsimp only; split))

theorem only_endAll {P : List Part} {s0 : State} {s : State} (hs : Only P s0 s) (hP : ∀ p ∈ ([.reg 0x4000, .reg 0x4020, .reg 0x4052,
    .reg 0x4053, .reg 0x4060, .reg 0x4071, .reg 0x4072, .regs, .desk, .ldg, .out, .bags, .host, .pwr] : List Part), p ∈ P) :
    Only P s0 (State.endAll s) := by
  unfold State.endAll
  repeat' (first | with_reducible exact sub_of hP (by decide) | intro _ | with_reducible exact hs | with_reducible assumption
                 | with_reducible exact may_block (hP _ (by decide)) | with_reducible exact may_any (hP _ (by decide))
                 | with_reducible apply only_foldl | with_reducible apply only_dropConn | with_reducible apply only_endAssoc)

theorem only_putPort {P : List Part} {s0 : State} {s : State} {p : Prt} {f : Port} (hs : Only P s0 s) (hP : ∀ p ∈ ([.host] : List
    Part), p ∈ P) :
    Only P s0 (State.putPort s p f) := by
  unfold State.putPort
  repeat' (first | with_reducible exact Or.inr rfl | with_reducible exact sub_of hP (by decide) | intro _ | with_reducible exact hs
                 | with_reducible assumption | with_reducible exact Or.inl (hP _ (by decide))
                 | with_reducible exact may_block (hP _ (by decide)) | with_reducible apply only_putHost | simp only [↓only_mk]
                 | with_reducible apply parts_of)

theorem only_dropFrame {P : List Part} {s0 : State} {s : State} {p : Prt} (hs : Only P s0 s) (hP : ∀ p ∈ ([.reg 0x4050, .reg 0x4051] :
    List Part), p ∈ P) :
    Only P s0 (State.dropFrame s p) := by
  unfold State.dropFrame
  repeat' (first | with_reducible exact sub_of hP (by decide) | intro _ | with_reducible exact hs | with_reducible assumption
                 | with_reducible exact may_block (hP _ (by decide)) | with_reducible apply only_inc
                 | (cases p <;> exact may_block (hP _ (by decide))))

theorem only_frame {P : List Part} {s0 : State} {s : State} {p : Prt} {key : Nat} {f : State → State} (hs : Only P s0 s) (hf : ∀ s,
    Only P s0 s → Only P s0 (f s)) (hP : ∀ p ∈ ([.reg 0x4050, .reg 0x4051] : List Part), p ∈ P) :
    Only P s0 (State.frame s p key f) := by
  unfold State.frame
  repeat' (first | with_reducible exact sub_of hP (by decide) | intro _ | with_reducible exact hs | with_reducible assumption
                 | with_reducible exact may_block (hP _ (by decide)) | with_reducible apply only_ite
                 | with_reducible apply only_dropFrame | with_reducible apply hf | split | (dsimp only; split))

theorem only_tcpEvent {P : List Part} {s0 : State} {s : State} {n key : Nat} {f : Conn → State → State} (hs : Only P s0 s) (hf : ∀ x0
    s, Only P s0 s → Only P s0 (f x0 s)) (hP : ∀ p ∈ ([.reg 0x4050, .reg 0x4051] : List Part), p ∈ P) :
    Only P s0 (State.tcpEvent s n key f) := by
  unfold State.tcpEvent
  repeat' (first | with_reducible exact Or.inr rfl | with_reducible exact sub_of hP (by decide) | intro _ | with_reducible exact hs
                 | with_reducible assumption | with_reducible exact Or.inl (hP _ (by decide))
                 | with_reducible exact may_block (hP _ (by decide)) | with_reducible apply only_frame | with_reducible apply hf
                 | simp only [↓only_mk] | with_reducible apply parts_of | split | (dsimp only; split))

theorem only_sendNet {P : List Part} {s0 : State} {s : State} {port : Nat} {f : NetOut} (hs : Only P s0 s) (hP : ∀ p ∈ ([.out] : List
    Part), p ∈ P) :
    Only P s0 (State.sendNet s port f) := by
  unfold State.sendNet
  repeat' (first | with_reducible exact sub_of hP (by decide) | intro _ | with_reducible exact hs | with_reducible assumption
                 | with_reducible exact may_block (hP _ (by decide)) | with_reducible apply only_emit)

theorem only_endPort {P : List Part} {s0 : State} {s : State} {p : Prt} (hs : Only P s0 s) (hP : ∀ p ∈ ([.reg 0x4000, .reg 0x4020,
    .reg 0x4052, .reg 0x4053, .reg 0x4060, .reg 0x4071, .reg 0x4072, .regs, .desk, .ldg, .out, .bags, .host, .pwr] : List Part), p ∈
    P) :
    Only P s0 (State.endPort s p) := by
  unfold State.endPort
  repeat' (first | with_reducible exact sub_of hP (by decide) | intro _ | with_reducible exact hs | with_reducible assumption
                 | with_reducible exact may_block (hP _ (by decide)) | with_reducible exact may_any (hP _ (by decide))
                 | with_reducible apply only_foldl | with_reducible apply only_dropConn | with_reducible apply only_endAssoc)

theorem only_applyNet {P : List Part} {s0 : State} {s : State} {p : Prt} (hs : Only P s0 s) (hP : ∀ p ∈ ([.reg 0x4050, .reg 0x4051,
    .host] : List Part), p ∈ P) :
    Only P s0 (State.applyNet s p) := by
  unfold State.applyNet
  repeat' (first | with_reducible exact sub_of hP (by decide) | with_reducible exact mayAll_nil | with_reducible apply mayAll_cons
                 | with_reducible exact mayPairs_nil | with_reducible apply mayPairs_cons | intro _ | with_reducible exact hs
                 | with_reducible assumption | with_reducible exact may_block (hP _ (by decide)) | with_reducible apply only_ite
                 | with_reducible apply only_putPort | with_reducible apply only_setAll
                 | (cases p <;> exact may_block (hP _ (by decide))) | split | (dsimp only; split))

theorem only_linkReset {P : List Part} {s0 : State} {s : State} {p : Prt} (hs : Only P s0 s) (hP : ∀ p ∈ ([.reg 0x4000, .reg 0x4020,
    .reg 0x4050, .reg 0x4051, .reg 0x4052, .reg 0x4053, .reg 0x4060, .reg 0x4071, .reg 0x4072, .regs, .env, .desk, .ldg, .out, .bags,
    .host, .pwr] : List Part), p ∈ P) :
    Only P s0 (State.linkReset s p) := by
  unfold State.linkReset
  repeat' (first | with_reducible exact Or.inr rfl | with_reducible exact sub_of hP (by decide) | with_reducible exact mayAll_nil
                 | with_reducible apply mayAll_cons | with_reducible exact mayPairs_nil | with_reducible apply mayPairs_cons | intro _
                 | with_reducible exact hs | with_reducible assumption | with_reducible exact Or.inl (hP _ (by decide))
                 | with_reducible exact may_block (hP _ (by decide)) | with_reducible exact may_any (hP _ (by decide))
                 | with_reducible apply only_ite | with_reducible apply only_applyNet | with_reducible apply only_endPort
                 | with_reducible apply only_noEnvelope | with_reducible apply only_set | with_reducible apply only_setAll
                 | simp only [↓only_mk] | with_reducible apply parts_of | (cases p <;> exact may_block (hP _ (by decide))) | split
                 | (dsimp only; split))

theorem only_pathMtu {P : List Part} {s0 : State} {s : State} {p : Prt} {conn mtu : Nat} (hs : Only P s0 s) (hP : ∀ p ∈ ([.host] :
    List Part), p ∈ P) :
    Only P s0 (State.pathMtu s p conn mtu) := by
  unfold State.pathMtu
  repeat' (first | with_reducible exact Or.inr rfl | with_reducible exact sub_of hP (by decide) | intro _ | with_reducible exact hs
                 | with_reducible assumption | with_reducible exact Or.inl (hP _ (by decide))
                 | with_reducible exact may_block (hP _ (by decide)) | with_reducible apply only_ite
                 | with_reducible apply only_putPort | simp only [↓only_mk] | with_reducible apply parts_of | split
                 | (dsimp only; split))

theorem only_putPre {P : List Part} {s0 : State} {s : State} {p : Pre} (hs : Only P s0 s) (hP : ∀ p ∈ ([.pre] : List Part), p ∈ P) :
    Only P s0 (State.putPre s p) := by
  unfold State.putPre
  repeat' (first | with_reducible exact Or.inr rfl | with_reducible exact sub_of hP (by decide) | intro _ | with_reducible exact hs
                 | with_reducible assumption | with_reducible exact Or.inl (hP _ (by decide))
                 | with_reducible exact may_block (hP _ (by decide)) | simp only [↓only_mk] | with_reducible apply parts_of)

theorem only_terminate {P : List Part} {s0 : State} {s : State} {n : Nat} (hs : Only P s0 s) (hP : ∀ p ∈ ([.reg 0x4000, .reg 0x4020,
    .reg 0x4052, .reg 0x4053, .reg 0x4060, .reg 0x4071, .reg 0x4072, .regs, .desk, .ldg, .out, .bags, .host, .pwr] : List Part), p ∈
    P) :
    Only P s0 (State.terminate s n) := by
  unfold State.terminate
  repeat' (first | with_reducible exact sub_of hP (by decide) | intro _ | with_reducible exact hs | with_reducible assumption
                 | with_reducible exact may_block (hP _ (by decide)) | with_reducible exact may_any (hP _ (by decide))
                 | with_reducible apply only_emit | with_reducible apply only_loseConn)

theorem only_pdu {P : List Part} {s0 : State} {s : State} {n key bytes : Nat} {f : Conn → State → State} (hs : Only P s0 s) (hf : ∀ x0
    s, Only P s0 s → Only P s0 (f x0 s)) (hP : ∀ p ∈ ([.reg 0x4000, .reg 0x4020, .reg 0x4052, .reg 0x4053, .reg 0x4060, .reg 0x4071,
    .reg 0x4072, .regs, .desk, .ldg, .out, .bags, .host, .pwr] : List Part), p ∈ P) :
    Only P s0 (State.pdu s n key bytes f) := by
  unfold State.pdu
  repeat' (first | with_reducible exact Or.inr rfl | with_reducible exact sub_of hP (by decide) | intro _ | with_reducible exact hs
                 | with_reducible assumption | with_reducible exact Or.inl (hP _ (by decide))
                 | with_reducible exact may_block (hP _ (by decide)) | with_reducible exact may_any (hP _ (by decide))
                 | with_reducible apply only_ite | with_reducible apply only_putConn | with_reducible apply only_terminate
                 | with_reducible apply hf | with_reducible apply only_fst ‹_ = (_, _)› | simp only [↓only_mk]
                 | with_reducible apply parts_of | split | (dsimp only; split))

theorem only_preTrap {P : List Part} {s0 : State} {s : State} {conn : Nat} (hs : Only P s0 s) (hP : ∀ p ∈ ([.reg 0x4000, .reg 0x4020,
    .reg 0x4052, .reg 0x4053, .reg 0x4060, .reg 0x4071, .reg 0x4072, .regs, .desk, .ldg, .out, .bags, .host, .pre, .pwr] : List Part),
    p ∈ P) :
    Only P s0 (State.preTrap s conn) := by
  unfold State.preTrap
  repeat' (first | with_reducible exact Or.inr rfl | with_reducible exact sub_of hP (by decide) | with_reducible exact mayAll_nil
                 | with_reducible apply mayAll_cons | with_reducible exact mayPairs_nil | with_reducible apply mayPairs_cons | intro _
                 | with_reducible exact hs | with_reducible assumption | with_reducible exact Or.inl (hP _ (by decide))
                 | with_reducible exact may_block (hP _ (by decide)) | with_reducible exact may_any (hP _ (by decide))
                 | with_reducible apply only_event | with_reducible apply only_loseConn | with_reducible apply only_putPre
                 | with_reducible apply only_sendNet | with_reducible apply only_setAll | with_reducible apply only_fst ‹_ = (_, _)›
                 | simp only [↓only_mk] | with_reducible apply parts_of | split | (dsimp only; split))

theorem only_preAlu {P : List Part} {s0 : State} {s : State} {conn : Nat} {w : PW} (hs : Only P s0 s) (hP : ∀ p ∈ ([.pre] : List
    Part), p ∈ P) :
    Only P s0 (State.preAlu s conn w) := by
  unfold State.preAlu
  repeat' (first | with_reducible exact Or.inr rfl | with_reducible exact sub_of hP (by decide) | intro _ | with_reducible exact hs
                 | with_reducible assumption | with_reducible exact Or.inl (hP _ (by decide))
                 | with_reducible exact may_block (hP _ (by decide)) | with_reducible apply only_ite
                 | with_reducible apply only_putPre | simp only [↓only_mk] | with_reducible apply parts_of | split
                 | (dsimp only; split))

theorem only_preXfer {P : List Part} {s0 : State} {s : State} {conn : Nat} {w : PW} {a : Nat} (hs : Only P s0 s) (hP : ∀ p ∈ ([.reg
    0x4000, .reg 0x4020, .reg 0x4052, .reg 0x4060, .reg 0x4063, .reg 0x4071, .reg 0x4072, .regs, .cells, .desk, .ldg, .out, .bags,
    .mem, .host, .pre, .pwr] : List Part), p ∈ P) :
    Only P s0 (State.preXfer s conn w a) := by
  unfold State.preXfer
  repeat' (first | with_reducible exact Or.inr rfl | with_reducible exact sub_of hP (by decide) | intro _ | with_reducible exact hs
                 | with_reducible assumption | with_reducible exact Or.inl (hP _ (by decide))
                 | with_reducible exact may_block (hP _ (by decide)) | with_reducible exact may_any (hP _ (by decide))
                 | with_reducible apply only_ite | with_reducible apply only_bagRelease | with_reducible apply only_bagStore
                 | with_reducible apply only_emit | with_reducible apply only_putPre | with_reducible apply only_set
                 | with_reducible apply only_fst ‹_ = (_, _)› | simp only [↓only_mk] | with_reducible apply parts_of | split
                 | (dsimp only; split))

theorem only_preSeq {P : List Part} {s0 : State} {s : State} {w : PW} {cond : Bool} (hs : Only P s0 s) (hP : ∀ p ∈ ([.pre] : List
    Part), p ∈ P) :
    Only P s0 (State.preSeq s w cond) := by
  unfold State.preSeq
  repeat' (first | with_reducible exact Or.inr rfl | with_reducible exact sub_of hP (by decide) | intro _ | with_reducible exact hs
                 | with_reducible assumption | with_reducible exact Or.inl (hP _ (by decide))
                 | with_reducible exact may_block (hP _ (by decide)) | with_reducible apply only_ite
                 | with_reducible apply only_putPre | simp only [↓only_mk] | with_reducible apply parts_of | split
                 | (dsimp only; split))

theorem only_preWord {P : List Part} {s0 : State} {s : State} {conn : Nat} {hdr data : Bool} (hs : Only P s0 s) (hP : ∀ p ∈ ([.reg
    0x4000, .reg 0x4020, .reg 0x4052, .reg 0x4053, .reg 0x4060, .reg 0x4063, .reg 0x4071, .reg 0x4072, .regs, .cells, .desk, .ldg,
    .out, .bags, .mem, .host, .pre, .pwr] : List Part), p ∈ P) :
    Only P s0 (State.preWord s conn hdr data) := by
  unfold State.preWord
  repeat' (first | with_reducible exact sub_of hP (by decide) | intro _ | with_reducible exact hs | with_reducible assumption
                 | with_reducible exact may_block (hP _ (by decide)) | with_reducible exact may_any (hP _ (by decide))
                 | with_reducible apply only_ite | with_reducible apply only_preAlu | with_reducible apply only_preSeq
                 | with_reducible apply only_preTrap | with_reducible apply only_preXfer | split | (dsimp only; split))

theorem only_preBegin {P : List Part} {s0 : State} {s : State} (hs : Only P s0 s) (hP : ∀ p ∈ ([.pre] : List Part), p ∈ P) :
    Only P s0 (State.preBegin s) := by
  unfold State.preBegin
  repeat' (first | with_reducible exact Or.inr rfl | with_reducible exact sub_of hP (by decide) | intro _ | with_reducible exact hs
                 | with_reducible assumption | with_reducible exact Or.inl (hP _ (by decide))
                 | with_reducible exact may_block (hP _ (by decide)) | with_reducible apply only_putPre
                 | with_reducible apply only_set | with_reducible apply only_fst ‹_ = (_, _)› | simp only [↓only_mk]
                 | with_reducible apply parts_of | split | (dsimp only; split))

theorem only_prePlain {P : List Part} {s0 : State} {s : State} {hdr data : Bool} {n : Nat} (hs : Only P s0 s) (hP : ∀ p ∈ ([.reg
    0x4000, .reg 0x4020, .reg 0x4052, .reg 0x4053, .reg 0x4060, .reg 0x4063, .reg 0x4071, .reg 0x4072, .regs, .cells, .desk, .ldg,
    .out, .bags, .mem, .host, .pre, .pwr] : List Part), p ∈ P) :
    Only P s0 (State.prePlain s hdr data n) := by
  induction n generalizing s with
  | zero => exact hs
  | succ n ih =>
    unfold State.prePlain
    repeat' (first | with_reducible exact Or.inr rfl | with_reducible exact sub_of hP (by decide) | intro _ | with_reducible exact hs
                   | with_reducible assumption | with_reducible apply ih | with_reducible exact Or.inl (hP _ (by decide))
                   | with_reducible exact may_block (hP _ (by decide)) | with_reducible exact may_any (hP _ (by decide))
                   | with_reducible apply only_ite | with_reducible apply only_prePlain | with_reducible apply only_preWord
                   | with_reducible apply only_fst ‹_ = (_, _)› | simp only [↓only_mk] | with_reducible apply parts_of | split
                   | (dsimp only; split))

theorem only_preAct {P : List Part} {s0 : State} {s : State} {k : Nat} {hdr data : Bool} (hs : Only P s0 s) (hP : ∀ p ∈ ([.reg 0x4000,
    .reg 0x4020, .reg 0x4052, .reg 0x4053, .reg 0x4060, .reg 0x4063, .reg 0x4071, .reg 0x4072, .regs, .cells, .desk, .ldg, .out,
    .bags, .mem, .host, .pre, .pwr] : List Part), p ∈ P) :
    Only P s0 (State.preAct s k hdr data) := by
  unfold State.preAct
  repeat' (first | with_reducible exact Or.inr rfl | with_reducible exact sub_of hP (by decide) | intro _ | with_reducible exact hs
                 | with_reducible assumption | with_reducible exact Or.inl (hP _ (by decide))
                 | with_reducible exact may_block (hP _ (by decide)) | with_reducible exact may_any (hP _ (by decide))
                 | with_reducible apply only_ite | with_reducible apply only_preBegin | with_reducible apply only_prePlain
                 | with_reducible apply only_preWord | with_reducible apply only_fst ‹_ = (_, _)› | simp only [↓only_mk]
                 | with_reducible apply parts_of | split | (dsimp only; split))

theorem only_enterLocks {P : List Part} {s0 : State} {s : State} {serial : Nat} {c : Cmd} (hs : Only P s0 s) (hP : ∀ p ∈ ([.reg
    0x4053, .host] : List Part), p ∈ P) :
    Only P s0 (State.enterLocks s serial c) := by
  unfold State.enterLocks
  repeat' (first | with_reducible exact Or.inr rfl | with_reducible exact sub_of hP (by decide) | intro _ | with_reducible exact hs
                 | with_reducible assumption | with_reducible exact Or.inl (hP _ (by decide))
                 | with_reducible exact may_block (hP _ (by decide)) | with_reducible apply only_ite
                 | with_reducible apply only_putCmd | with_reducible apply only_putHost | with_reducible apply only_set
                 | simp only [↓only_mk] | with_reducible apply parts_of | split | (dsimp only; split))

theorem only_wakeUp {P : List Part} {s0 : State} {s : State} {c : Cmd} (hs : Only P s0 s) (hP : ∀ p ∈ ([.host] : List Part), p ∈ P) :
    Only P s0 (State.wakeUp s c) := by
  unfold State.wakeUp
  repeat' (first | with_reducible exact Or.inr rfl | with_reducible exact sub_of hP (by decide) | intro _ | with_reducible exact hs
                 | with_reducible assumption | with_reducible exact Or.inl (hP _ (by decide))
                 | with_reducible exact may_block (hP _ (by decide)) | with_reducible apply only_ite
                 | with_reducible apply only_putAssoc | with_reducible apply only_fst ‹_ = (_, _)› | simp only [↓only_mk]
                 | with_reducible apply parts_of | split | (dsimp only; split))

theorem only_admitCmd {P : List Part} {s0 : State} {s : State} {conn : Nat} {cap : Capsule} (hs : Only P s0 s) (hP : ∀ p ∈ ([.reg
    0x4053, .office, .host] : List Part), p ∈ P) :
    Only P s0 (State.admitCmd s conn cap) := by
  unfold State.admitCmd
  repeat' (first | with_reducible exact Or.inr rfl | with_reducible exact sub_of hP (by decide) | intro _ | with_reducible exact hs
                 | with_reducible assumption | with_reducible exact Or.inl (hP _ (by decide))
                 | with_reducible exact may_block (hP _ (by decide)) | with_reducible apply only_ite
                 | with_reducible apply only_answer | with_reducible apply only_enterLocks | with_reducible apply only_hqRefresh
                 | with_reducible apply only_putHost | with_reducible apply only_putOffice | with_reducible apply only_wakeUp
                 | with_reducible apply only_fst ‹_ = (_, _)› | simp only [↓only_mk] | with_reducible apply parts_of | split
                 | (dsimp only; split))

theorem only_takeBags {P : List Part} {s0 : State} {s : State} {pick : Nat} {l got : List Nat} (hs : Only P s0 s) (hP : ∀ p ∈ ([.reg
    0x4060, .regs, .bags] : List Part), p ∈ P) :
    Only P s0 (State.takeBags s pick l got).1 := by
  induction l generalizing s got with
  | nil => exact hs
  | cons h t ih =>
    unfold State.takeBags
    repeat' (first | with_reducible exact Or.inr rfl | with_reducible exact sub_of hP (by decide) | intro _ | with_reducible exact hs
                   | with_reducible assumption | with_reducible apply ih | with_reducible exact Or.inl (hP _ (by decide))
                   | with_reducible exact may_block (hP _ (by decide)) | with_reducible exact may_any (hP _ (by decide))
                   | with_reducible apply only_bagAlloc | with_reducible apply only_takeBags
                   | with_reducible apply only_fst ‹_ = (_, _)› | simp only [↓only_mk] | with_reducible apply parts_of | split
                   | (dsimp only; split))

theorem only_afterResponse {P : List Part} {s0 : State} {s : State} {c : Cmd} (hs : Only P s0 s) (hP : ∀ p ∈ ([.host] : List Part), p
    ∈ P) :
    Only P s0 (State.afterResponse s c) := by
  unfold State.afterResponse
  repeat' (first | with_reducible exact Or.inr rfl | with_reducible exact sub_of hP (by decide) | intro _ | with_reducible exact hs
                 | with_reducible assumption | with_reducible exact Or.inl (hP _ (by decide))
                 | with_reducible exact may_block (hP _ (by decide)) | with_reducible apply only_ite
                 | with_reducible apply only_putHost | simp only [↓only_mk] | with_reducible apply parts_of | split
                 | (dsimp only; split))

theorem only_onAdmin {P : List Part} {s0 : State} {s : State} {serial opcode : Nat} {f : Cmd → State → State} (hs : Only P s0 s) (hf :
    ∀ x0 s, Only P s0 s → Only P s0 (f x0 s)) :
    Only P s0 (State.onAdmin s serial opcode f) := by
  unfold State.onAdmin
  repeat' (first | with_reducible exact Or.inr rfl | intro _ | with_reducible exact hs | with_reducible assumption
                 | with_reducible apply only_ite | with_reducible apply hf | simp only [↓only_mk] | with_reducible apply parts_of
                 | split | (dsimp only; split))

theorem only_onFabrics {P : List Part} {s0 : State} {s : State} {serial fctype : Nat} {f : Cmd → State → State} (hs : Only P s0 s) (hf
    : ∀ x0 s, Only P s0 s → Only P s0 (f x0 s)) :
    Only P s0 (State.onFabrics s serial fctype f) := by
  unfold State.onFabrics
  repeat' (first | with_reducible exact Or.inr rfl | intro _ | with_reducible exact hs | with_reducible assumption
                 | with_reducible apply only_ite | with_reducible apply hf | simp only [↓only_mk] | with_reducible apply parts_of
                 | split | (dsimp only; split))

theorem only_onIo {P : List Part} {s0 : State} {s : State} {serial : Nat} {op : IoOp} {f : Cmd → Ns → State → State} (hs : Only P s0
    s) (hf : ∀ x0 x1 s, Only P s0 s → Only P s0 (f x0 x1 s)) (hP : ∀ p ∈ ([.host] : List Part), p ∈ P) :
    Only P s0 (State.onIo s serial op f) := by
  unfold State.onIo
  repeat' (first | with_reducible exact Or.inr rfl | with_reducible exact sub_of hP (by decide) | intro _ | with_reducible exact hs
                 | with_reducible assumption | with_reducible exact Or.inl (hP _ (by decide))
                 | with_reducible exact may_block (hP _ (by decide)) | with_reducible apply only_ite
                 | with_reducible apply only_answer | with_reducible apply hf | simp only [↓only_mk] | with_reducible apply parts_of
                 | split | (dsimp only; split))

theorem only_respondNow {P : List Part} {s0 : State} {s : State} {serial : Nat} {c : Cmd} (hs : Only P s0 s) (hP : ∀ p ∈ ([.reg
    0x4000, .reg 0x4020, .reg 0x4053, .reg 0x4060, .reg 0x4071, .reg 0x4072, .regs, .desk, .ldg, .out, .bags, .host, .pwr] : List
    Part), p ∈ P) :
    Only P s0 (State.respondNow s serial c) := by
  unfold State.respondNow
  repeat' (first | with_reducible exact sub_of hP (by decide) | intro _ | with_reducible exact hs | with_reducible assumption
                 | with_reducible exact may_block (hP _ (by decide)) | with_reducible exact may_any (hP _ (by decide))
                 | with_reducible apply only_dropCmd | with_reducible apply only_emit)

theorem only_featSet {P : List Part} {s0 : State} {s : State} {fid sub v : Nat} {save : Bool} (hs : Only P s0 s) (hP : ∀ p ∈ ([.psp,
    .host] : List Part), p ∈ P) :
    Only P s0 (State.featSet s fid sub v save) := by
  unfold State.featSet
  repeat' (first | with_reducible exact Or.inr rfl | with_reducible exact sub_of hP (by decide) | intro _ | with_reducible exact hs
                 | with_reducible assumption | with_reducible exact Or.inl (hP _ (by decide))
                 | with_reducible exact may_block (hP _ (by decide)) | with_reducible apply only_ite
                 | with_reducible apply only_putHost | with_reducible apply only_saveDev | simp only [↓only_mk]
                 | with_reducible apply parts_of | split | (dsimp only; split))

theorem only_nsChanged {P : List Part} {s0 : State} {s : State} {nsid : Nat} (hs : Only P s0 s) (hP : ∀ p ∈ ([.host] : List Part), p ∈
    P) :
    Only P s0 (State.nsChanged s nsid) := by
  unfold State.nsChanged
  repeat' (first | with_reducible exact Or.inr rfl | with_reducible exact sub_of hP (by decide) | intro _ | with_reducible exact hs
                 | with_reducible assumption | with_reducible exact Or.inl (hP _ (by decide))
                 | with_reducible exact may_block (hP _ (by decide)) | with_reducible apply only_ite
                 | with_reducible apply only_putHost | with_reducible apply only_raiseEvent | simp only [↓only_mk]
                 | with_reducible apply parts_of | split | (dsimp only; split))

theorem only_nsFeatSet {P : List Part} {s0 : State} {s : State} {fid nsid v : Nat} {n : Ns} {save : Bool} (hs : Only P s0 s) (hP : ∀ p
    ∈ ([.psp, .host] : List Part), p ∈ P) :
    Only P s0 (State.nsFeatSet s fid nsid v n save) := by
  unfold State.nsFeatSet
  repeat' (first | with_reducible exact Or.inr rfl | with_reducible exact sub_of hP (by decide) | intro _ | with_reducible exact hs
                 | with_reducible assumption | with_reducible exact Or.inl (hP _ (by decide))
                 | with_reducible exact may_block (hP _ (by decide)) | with_reducible apply only_ite
                 | with_reducible apply only_nsChanged | with_reducible apply only_putNs | with_reducible apply only_saveDev
                 | simp only [↓only_mk] | with_reducible apply parts_of | split | (dsimp only; split))

theorem only_settlePower {P : List Part} {s0 : State} {s : State} (hs : Only P s0 s) (hP : ∀ p ∈ ([.reg 0x4000, .env, .host] : List
    Part), p ∈ P) :
    Only P s0 (State.settlePower s) := by
  unfold State.settlePower
  repeat' (first | with_reducible exact Or.inr rfl | with_reducible exact sub_of hP (by decide) | intro _ | with_reducible exact hs
                 | with_reducible assumption | with_reducible exact Or.inl (hP _ (by decide))
                 | with_reducible exact may_block (hP _ (by decide)) | with_reducible apply only_ite
                 | with_reducible apply only_noEnvelope | with_reducible apply only_putHost | simp only [↓only_mk]
                 | with_reducible apply parts_of | split | (dsimp only; split))

theorem only_setCtrlFeature {P : List Part} {s0 : State} {s : State} {serial : Nat} {c : Cmd} {n : Nat} {a : Assoc} (hs : Only P s0 s)
    (hP : ∀ p ∈ ([.reg 0x4000, .env, .host] : List Part), p ∈ P) :
    Only P s0 (State.setCtrlFeature s serial c n a) := by
  unfold State.setCtrlFeature
  repeat' (first | with_reducible exact Or.inr rfl | with_reducible exact sub_of hP (by decide) | intro _ | with_reducible exact hs
                 | with_reducible assumption | with_reducible exact Or.inl (hP _ (by decide))
                 | with_reducible exact may_block (hP _ (by decide)) | with_reducible apply only_ite
                 | with_reducible apply only_answer | with_reducible apply only_answerWith | with_reducible apply only_putAssoc
                 | with_reducible apply only_settlePower | with_reducible apply only_fst ‹_ = (_, _)› | simp only [↓only_mk]
                 | with_reducible apply parts_of | split | (dsimp only; split))

theorem only_trayDrop {P : List Part} {s0 : State} {s : State} {pick : TrayEnt → Bool} (hs : Only P s0 s) (hP : ∀ p ∈ ([.reg 0x4000,
    .reg 0x4020, .reg 0x4060, .reg 0x4071, .reg 0x4072, .regs, .desk, .ldg, .out, .bags, .host, .pwr] : List Part), p ∈ P) :
    Only P s0 (State.trayDrop s pick) := by
  unfold State.trayDrop
  repeat' (first | with_reducible exact Or.inr rfl | with_reducible exact sub_of hP (by decide) | intro _ | with_reducible exact hs
                 | with_reducible assumption | with_reducible exact Or.inl (hP _ (by decide))
                 | with_reducible exact may_block (hP _ (by decide)) | with_reducible exact may_any (hP _ (by decide))
                 | with_reducible apply only_foldl | with_reducible apply only_bagReleaseAll | with_reducible apply only_putHost
                 | simp only [↓only_mk] | with_reducible apply parts_of)

theorem only_emptyNs {P : List Part} {s0 : State} {s : State} {nsid : Nat} {n : Ns} (hs : Only P s0 s) (hP : ∀ p ∈ ([.reg 0x4000, .reg
    0x4020, .reg 0x4040, .reg 0x4060, .reg 0x4061, .reg 0x4063, .reg 0x4071, .reg 0x4072, .regs, .cells, .desk, .ldg, .out, .rcv,
    .bags, .mem, .office, .host, .pwr] : List Part), p ∈ P) :
    Only P s0 (State.emptyNs s nsid n) := by
  unfold State.emptyNs
  repeat' (first | with_reducible exact Or.inr rfl | with_reducible exact sub_of hP (by decide) | intro _ | with_reducible exact hs
                 | with_reducible assumption | with_reducible exact Or.inl (hP _ (by decide))
                 | with_reducible exact may_block (hP _ (by decide)) | with_reducible exact may_any (hP _ (by decide))
                 | with_reducible apply only_foldl | with_reducible apply only_putHost | with_reducible apply only_putOffice
                 | with_reducible apply only_shutBands | with_reducible apply only_trayDrop | with_reducible apply only_unmapAll
                 | simp only [↓only_mk] | with_reducible apply parts_of | split | (dsimp only; split))

theorem only_deleteNs {P : List Part} {s0 : State} {s : State} {nsid : Nat} (hs : Only P s0 s) (hP : ∀ p ∈ ([.reg 0x4000, .reg 0x4020,
    .reg 0x4040, .reg 0x4041, .reg 0x4060, .reg 0x4061, .reg 0x4063, .reg 0x4071, .reg 0x4072, .regs, .cells, .psp, .desk, .ldg, .out,
    .rcv, .bags, .mem, .office, .cons, .host, .pwr] : List Part), p ∈ P) :
    Only P s0 (State.deleteNs s nsid) := by
  unfold State.deleteNs
  repeat' (first | with_reducible exact Or.inr rfl | with_reducible exact sub_of hP (by decide) | intro _ | with_reducible exact hs
                 | with_reducible assumption | with_reducible exact Or.inl (hP _ (by decide))
                 | with_reducible exact may_block (hP _ (by decide)) | with_reducible exact may_any (hP _ (by decide))
                 | with_reducible apply only_emptyNs | with_reducible apply only_nsChanged | with_reducible apply only_putHost
                 | with_reducible apply only_putKey | with_reducible apply only_saveDev | with_reducible apply only_fst ‹_ = (_, _)›
                 | simp only [↓only_mk] | with_reducible apply parts_of | split | (dsimp only; split))

theorem only_emptyMap {P : List Part} {s0 : State} {s : State} {format : Bool} (hs : Only P s0 s) (hP : ∀ p ∈ ([.reg 0x4000, .reg
    0x4020, .reg 0x4040, .reg 0x4061, .reg 0x4063, .reg 0x4071, .reg 0x4072, .cells, .desk, .ldg, .out, .bags, .mem, .office, .host,
    .pwr] : List Part), p ∈ P) :
    Only P s0 (State.emptyMap s format) := by
  unfold State.emptyMap
  repeat' (first | with_reducible exact Or.inr rfl | with_reducible exact sub_of hP (by decide) | intro _ | with_reducible exact hs
                 | with_reducible assumption | with_reducible exact Or.inl (hP _ (by decide))
                 | with_reducible exact may_block (hP _ (by decide)) | with_reducible apply only_journal
                 | with_reducible apply only_putHost | with_reducible apply only_putOffice | with_reducible apply only_switchJob
                 | simp only [↓only_mk] | with_reducible apply parts_of)

theorem only_abandonWork {P : List Part} {s0 : State} {s : State} (hs : Only P s0 s) (hP : ∀ p ∈ ([.office, .cons] : List Part), p ∈
    P) :
    Only P s0 (State.abandonWork s) := by
  unfold State.abandonWork
  repeat' (first | with_reducible exact Or.inr rfl | with_reducible exact sub_of hP (by decide) | intro _ | with_reducible exact hs
                 | with_reducible assumption | with_reducible exact Or.inl (hP _ (by decide))
                 | with_reducible exact may_block (hP _ (by decide)) | with_reducible apply only_putCons
                 | with_reducible apply only_putOffice | simp only [↓only_mk] | with_reducible apply parts_of)

theorem only_eraseStep {P : List Part} {s0 : State} {s : State} {k : Nat} (hs : Only P s0 s) (hP : ∀ p ∈ ([.reg 0x4000, .reg 0x4010,
    .reg 0x4011, .reg 0x4012, .reg 0x4013, .reg 0x4014, .reg 0x4020, .reg 0x4040, .reg 0x4041, .reg 0x4060, .reg 0x4061, .reg 0x4063,
    .reg 0x4071, .reg 0x4072, .regs, .cells, .psp, .desk, .ldg, .out, .lanes, .bags, .mem, .office, .cons, .host, .pwr] : List Part),
    p ∈ P) :
    Only P s0 (State.eraseStep s k) := by
  unfold State.eraseStep
  repeat' (first | with_reducible exact Or.inr rfl | with_reducible exact sub_of hP (by decide) | intro _ | with_reducible exact hs
                 | with_reducible assumption | with_reducible exact Or.inl (hP _ (by decide))
                 | with_reducible exact may_block (hP _ (by decide)) | with_reducible exact may_any (hP _ (by decide))
                 | with_reducible apply only_foldl | with_reducible apply only_abandonWork | with_reducible apply only_answer
                 | with_reducible apply only_changeDev | with_reducible apply only_emptyMap | with_reducible apply only_generateKey
                 | with_reducible apply only_laneAbort | with_reducible apply only_ledger | with_reducible apply only_putHost
                 | with_reducible apply only_raiseEvent | with_reducible apply only_trayDrop
                 | with_reducible apply only_fst ‹_ = (_, _)› | simp only [↓only_mk] | with_reducible apply parts_of | split
                 | (dsimp only; split))

theorem only_eraseSteps {P : List Part} {s0 : State} {s : State} {from_ : Nat} {n : Nat} (hs : Only P s0 s) (hP : ∀ p ∈ ([.reg 0x4000,
    .reg 0x4010, .reg 0x4011, .reg 0x4012, .reg 0x4013, .reg 0x4014, .reg 0x4020, .reg 0x4040, .reg 0x4041, .reg 0x4060, .reg 0x4061,
    .reg 0x4063, .reg 0x4071, .reg 0x4072, .regs, .cells, .psp, .desk, .ldg, .out, .lanes, .bags, .mem, .office, .cons, .host, .pwr] :
    List Part), p ∈ P) :
    Only P s0 (State.eraseSteps s from_ n) := by
  induction n generalizing s from_ with
  | zero => exact hs
  | succ n ih =>
    unfold State.eraseSteps
    repeat' (first | with_reducible exact Or.inr rfl | with_reducible exact sub_of hP (by decide) | intro _ | with_reducible exact hs
                   | with_reducible assumption | with_reducible apply ih | with_reducible exact Or.inl (hP _ (by decide))
                   | with_reducible exact may_block (hP _ (by decide)) | with_reducible exact may_any (hP _ (by decide))
                   | with_reducible apply only_eraseStep | with_reducible apply only_eraseSteps | simp only [↓only_mk]
                   | with_reducible apply parts_of)

theorem only_headService {P : List Part} {s0 : State} {s : State} {serial action : Nat} {f : Nat → State → State} (hs : Only P s0 s)
    (hf : ∀ x0 s, Only P s0 s → Only P s0 (f x0 s)) (hP : ∀ p ∈ ([.host] : List Part), p ∈ P) :
    Only P s0 (State.headService s serial action f) := by
  unfold State.headService
  repeat' (first | with_reducible exact Or.inr rfl | with_reducible exact sub_of hP (by decide) | intro _ | with_reducible exact hs
                 | with_reducible assumption | with_reducible exact Or.inl (hP _ (by decide))
                 | with_reducible exact may_block (hP _ (by decide)) | with_reducible apply only_ite
                 | with_reducible apply only_answer | with_reducible apply only_onAdmin | with_reducible apply hf
                 | simp only [↓only_mk] | with_reducible apply parts_of | split | (dsimp only; split))

theorem only_tell {P : List Part} {s0 : State} {s : State} {loop : Nat} {words : List Nat} (hs : Only P s0 s) (hP : ∀ p ∈ ([.eng] :
    List Part), p ∈ P) :
    Only P s0 (State.tell s loop words) := by
  unfold State.tell
  repeat' (first | with_reducible exact Or.inr rfl | with_reducible exact sub_of hP (by decide) | intro _ | with_reducible exact hs
                 | with_reducible assumption | with_reducible exact Or.inl (hP _ (by decide))
                 | with_reducible exact may_block (hP _ (by decide)) | with_reducible apply only_ite
                 | with_reducible apply only_putMail | simp only [↓only_mk] | with_reducible apply parts_of | split
                 | (dsimp only; split))

theorem only_naturalMap {P : List Part} {s0 : State} {s : State} (hs : Only P s0 s) (hP : ∀ p ∈ ([.regs] : List Part), p ∈ P) :
    Only P s0 (State.naturalMap s) := by
  unfold State.naturalMap
  repeat' (first | with_reducible exact Or.inr rfl | with_reducible exact sub_of hP (by decide) | intro _ | with_reducible exact hs
                 | with_reducible assumption | with_reducible exact Or.inl (hP _ (by decide))
                 | with_reducible exact may_block (hP _ (by decide)) | with_reducible exact may_any (hP _ (by decide))
                 | with_reducible apply only_ite | with_reducible apply only_foldl | with_reducible apply only_setPos
                 | simp only [↓only_mk] | with_reducible apply parts_of | split | (dsimp only; split))

theorem only_countIo {P : List Part} {s0 : State} {s : State} {write : Bool} {bytes : Nat} (hs : Only P s0 s) (hP : ∀ p ∈ ([.host] :
    List Part), p ∈ P) :
    Only P s0 (State.countIo s write bytes) := by
  unfold State.countIo
  repeat' (first | with_reducible exact Or.inr rfl | with_reducible exact sub_of hP (by decide) | intro _ | with_reducible exact hs
                 | with_reducible assumption | with_reducible exact Or.inl (hP _ (by decide))
                 | with_reducible exact may_block (hP _ (by decide)) | with_reducible apply only_putHost | simp only [↓only_mk]
                 | with_reducible apply parts_of)

theorem only_writeNow {P : List Part} {s0 : State} {s : State} {serial : Nat} {c : Cmd} (hs : Only P s0 s) (hP : ∀ p ∈ ([.reg 0x4053,
    .host] : List Part), p ∈ P) :
    Only P s0 (State.writeNow s serial c) := by
  unfold State.writeNow
  repeat' (first | with_reducible exact Or.inr rfl | with_reducible exact sub_of hP (by decide) | intro _ | with_reducible exact hs
                 | with_reducible assumption | with_reducible exact Or.inl (hP _ (by decide))
                 | with_reducible exact may_block (hP _ (by decide)) | with_reducible apply only_ite
                 | with_reducible apply only_answer | with_reducible apply only_answerWith | with_reducible apply only_countIo
                 | with_reducible apply only_enterTray | with_reducible apply only_hqRefresh | with_reducible apply only_putCmd
                 | with_reducible apply only_fst ‹_ = (_, _)› | simp only [↓only_mk] | with_reducible apply parts_of | split
                 | (dsimp only; split))

theorem only_trayForget {P : List Part} {s0 : State} {s : State} {nsid first count : Nat} (hs : Only P s0 s) (hP : ∀ p ∈ ([.reg
    0x4000, .reg 0x4020, .reg 0x4060, .reg 0x4071, .reg 0x4072, .regs, .desk, .ldg, .out, .bags, .host, .pwr] : List Part), p ∈ P) :
    Only P s0 (State.trayForget s nsid first count) := by
  unfold State.trayForget
  repeat' (first | with_reducible exact Or.inr rfl | with_reducible exact sub_of hP (by decide) | intro _ | with_reducible exact hs
                 | with_reducible assumption | with_reducible exact Or.inl (hP _ (by decide))
                 | with_reducible exact may_block (hP _ (by decide)) | with_reducible exact may_any (hP _ (by decide))
                 | with_reducible apply only_foldl | with_reducible apply only_trayPlaced | simp only [↓only_mk]
                 | with_reducible apply parts_of)

theorem only_discardRanges {P : List Part} {s0 : State} {s : State} {nsid : Nat} {n : Ns} {l : List (Nat × Nat)} (hs : Only P s0 s)
    (hP : ∀ p ∈ ([.reg 0x4000, .reg 0x4020, .reg 0x4040, .reg 0x4060, .reg 0x4061, .reg 0x4063, .reg 0x4071, .reg 0x4072, .regs,
    .cells, .desk, .ldg, .out, .rcv, .bags, .mem, .office, .host, .pwr] : List Part), p ∈ P) :
    Only P s0 (State.discardRanges s nsid n l) := by
  unfold State.discardRanges
  repeat' (first | with_reducible exact Or.inr rfl | with_reducible exact sub_of hP (by decide) | intro _ | with_reducible exact hs
                 | with_reducible assumption | with_reducible exact Or.inl (hP _ (by decide))
                 | with_reducible exact may_block (hP _ (by decide)) | with_reducible exact may_any (hP _ (by decide))
                 | with_reducible apply only_ite | with_reducible apply only_foldl | with_reducible apply only_trayAdd
                 | with_reducible apply only_trayForget | with_reducible apply only_unmapAll | simp only [↓only_mk]
                 | with_reducible apply parts_of | split | (dsimp only; split))

theorem only_readLost {P : List Part} {s0 : State} {s : State} {serial : Nat} {c : Cmd} {n : Ns} {lbas : List Nat} (hs : Only P s0 s)
    (hP : ∀ p ∈ ([.reg 0x4000, .reg 0x4014, .reg 0x4020, .reg 0x4040, .reg 0x4061, .reg 0x4063, .reg 0x4071, .reg 0x4072, .cells,
    .desk, .ldg, .out, .rcv, .bags, .mem, .office, .host, .pwr] : List Part), p ∈ P) :
    Only P s0 (State.readLost s serial c n lbas) := by
  unfold State.readLost
  repeat' (first | with_reducible exact Or.inr rfl | with_reducible exact sub_of hP (by decide) | intro _ | with_reducible exact hs
                 | with_reducible assumption | with_reducible exact Or.inl (hP _ (by decide))
                 | with_reducible exact may_block (hP _ (by decide)) | with_reducible apply only_foldl
                 | with_reducible apply only_answer | with_reducible apply only_listUnreadable | with_reducible apply only_logError
                 | with_reducible apply only_putHost | with_reducible apply only_putRcv | simp only [↓only_mk]
                 | with_reducible apply parts_of)

theorem only_readNow {P : List Part} {s0 : State} {s : State} {serial : Nat} {c : Cmd} {n : Ns} {media : List (Nat × Nat)} {give :
    Bool} (hs : Only P s0 s) (hP : ∀ p ∈ ([.reg 0x4000, .reg 0x4014, .reg 0x4020, .reg 0x4040, .reg 0x4061, .reg 0x4063, .reg 0x4071,
    .reg 0x4072, .cells, .desk, .ldg, .out, .rcv, .bags, .mem, .office, .host, .pwr] : List Part), p ∈ P) :
    Only P s0 (State.readNow s serial c n media give) := by
  unfold State.readNow
  repeat' (first | with_reducible exact Or.inr rfl | with_reducible exact sub_of hP (by decide) | intro _ | with_reducible exact hs
                 | with_reducible assumption | with_reducible exact Or.inl (hP _ (by decide))
                 | with_reducible exact may_block (hP _ (by decide)) | with_reducible apply only_ite
                 | with_reducible apply only_answerWith | with_reducible apply only_countIo | with_reducible apply only_putCmd
                 | with_reducible apply only_readLost | with_reducible apply only_fst ‹_ = (_, _)› | simp only [↓only_mk]
                 | with_reducible apply parts_of | split | (dsimp only; split))

theorem only_onMediaCmd {P : List Part} {s0 : State} {s : State} {serial : Nat} {op : IoOp} {f : Cmd → Ns → State → State} (hs : Only
    P s0 s) (hf : ∀ x0 x1 s, Only P s0 s → Only P s0 (f x0 x1 s)) (hP : ∀ p ∈ ([.reg 0x4000, .reg 0x4020, .reg 0x4053, .reg 0x4060,
    .reg 0x4071, .reg 0x4072, .regs, .desk, .ldg, .out, .bags, .host, .pwr] : List Part), p ∈ P) :
    Only P s0 (State.onMediaCmd s serial op f) := by
  unfold State.onMediaCmd
  repeat' (first | with_reducible exact Or.inr rfl | with_reducible exact sub_of hP (by decide) | intro _ | with_reducible exact hs
                 | with_reducible assumption | with_reducible exact Or.inl (hP _ (by decide))
                 | with_reducible exact may_block (hP _ (by decide)) | with_reducible exact may_any (hP _ (by decide))
                 | with_reducible apply only_ite | with_reducible apply only_dropCmd | with_reducible apply only_onIo
                 | with_reducible apply hf | simp only [↓only_mk] | with_reducible apply parts_of | split | (dsimp only; split))

theorem only_resNotify {P : List Part} {s0 : State} {s : State} {nsid type : Nat} {hosts : List Nat} (hs : Only P s0 s) (hP : ∀ p ∈
    ([.host] : List Part), p ∈ P) :
    Only P s0 (State.resNotify s nsid type hosts) := by
  unfold State.resNotify
  repeat' (first | with_reducible exact Or.inr rfl | with_reducible exact sub_of hP (by decide) | intro _ | with_reducible exact hs
                 | with_reducible assumption | with_reducible exact Or.inl (hP _ (by decide))
                 | with_reducible exact may_block (hP _ (by decide)) | with_reducible apply only_ite
                 | with_reducible apply only_putHost | with_reducible apply only_raiseEvent | simp only [↓only_mk]
                 | with_reducible apply parts_of | split | (dsimp only; split))

theorem only_zoneSend {P : List Part} {s0 s : State} {serial action : Nat} {can : HZone → Bool}
    {f : Nat → Nat → Ns → State → State ⊕ Status} (hs : Only P s0 s)
    (hf : ∀ a b n s t, Only P s0 s → f a b n s = .inl t → Only P s0 t) (hP : ∀ p ∈ ([.host] : List Part), p ∈ P) :
    Only P s0 (s.zoneSend serial action can f) := by
  unfold State.zoneSend
  refine only_onIo hs (fun c n s h => ?_) (sub_of hP (by decide))
  split
  · exact h
  · split
    · refine only_answer (only_foldl h fun s k h => ?_) (sub_of hP (by decide))
      split
      · split
        · rename_i e
          exact hf _ _ _ _ _ h e
        · exact h
      · exact h
    · dsimp only
      split
      · exact only_answer h (sub_of hP (by decide))
      · split
        · rename_i e
          exact only_answer (hf _ _ _ _ _ h e) (sub_of hP (by decide))
        · exact only_answer h (sub_of hP (by decide))

theorem only_storeNow {P : List Part} {s0 : State} {s : State} {serial : Nat} {c : Cmd} (hs : Only P s0 s) (hP : ∀ p ∈ ([.reg 0x4053,
    .host] : List Part), p ∈ P) :
    Only P s0 (State.storeNow s serial c) := by
  unfold State.storeNow
  repeat' (first | with_reducible exact sub_of hP (by decide) | intro _ | with_reducible exact hs | with_reducible assumption
                 | with_reducible exact may_block (hP _ (by decide)) | with_reducible apply only_ite
                 | with_reducible apply only_answer | with_reducible apply only_writeNow | split | (dsimp only; split))

theorem only_pageRead {P : List Part} {s0 : State} {s : State} {c : Cmd} (hs : Only P s0 s) (hP : ∀ p ∈ ([.ldg, .host] : List Part), p
    ∈ P) :
    Only P s0 (State.pageRead s c) := by
  unfold State.pageRead
  repeat' (first | with_reducible exact Or.inr rfl | with_reducible exact sub_of hP (by decide) | intro _ | with_reducible exact hs
                 | with_reducible assumption | with_reducible exact Or.inl (hP _ (by decide))
                 | with_reducible exact may_block (hP _ (by decide)) | with_reducible apply only_ite
                 | with_reducible apply only_putAssoc | with_reducible apply only_putHost | simp only [↓only_mk]
                 | with_reducible apply parts_of | split | (dsimp only; split))

theorem only_miAnswer {P : List Part} {s0 : State} {s : State} {good : Bool} {l : List Nat} (hs : Only P s0 s) (hP : ∀ p ∈ ([.out] :
    List Part), p ∈ P) :
    Only P s0 (State.miAnswer s good l) := by
  unfold State.miAnswer
  repeat' (first | with_reducible exact Or.inr rfl | with_reducible exact sub_of hP (by decide) | intro _ | with_reducible exact hs
                 | with_reducible assumption | with_reducible exact Or.inl (hP _ (by decide))
                 | with_reducible exact may_block (hP _ (by decide)) | with_reducible apply only_ite | with_reducible apply only_emit
                 | simp only [↓only_mk] | with_reducible apply parts_of | split | (dsimp only; split))

theorem only_ledgerHeat {P : List Part} {s0 : State} {s : State} (hs : Only P s0 s) (hP : ∀ p ∈ ([.reg 0x4072, .ldg] : List Part), p ∈
    P) :
    Only P s0 (State.ledgerHeat s) := by
  unfold State.ledgerHeat
  repeat' (first | with_reducible exact Or.inr rfl | with_reducible exact sub_of hP (by decide) | intro _ | with_reducible exact hs
                 | with_reducible assumption | with_reducible exact Or.inl (hP _ (by decide))
                 | with_reducible exact may_block (hP _ (by decide)) | with_reducible apply only_ledger | simp only [↓only_mk]
                 | with_reducible apply parts_of)

theorem only_watchCritical {P : List Part} {s0 : State} {s : State} {f : State → State} (hs : Only P s0 s) (hf : ∀ s, Only P s0 s →
    Only P s0 (f s)) (hP : ∀ p ∈ ([.reg 0x4000, .host] : List Part), p ∈ P) :
    Only P s0 (State.watchCritical s f) := by
  unfold State.watchCritical
  repeat' (first | with_reducible exact Or.inr rfl | with_reducible exact sub_of hP (by decide) | intro _ | with_reducible exact hs
                 | with_reducible assumption | with_reducible exact Or.inl (hP _ (by decide))
                 | with_reducible exact may_block (hP _ (by decide)) | with_reducible apply only_ite
                 | with_reducible apply only_putHost | with_reducible apply only_raiseEvent | with_reducible apply only_set
                 | with_reducible apply hf | simp only [↓only_mk] | with_reducible apply parts_of | split | (dsimp only; split))

theorem only_throttleHalf {P : List Part} {s0 : State} {s : State} {out : Bool} (hs : Only P s0 s) (hP : ∀ p ∈ ([.reg 0x4000, .reg
    0x4001, .reg 0x4002, .reg 0x4014, .reg 0x4020, .reg 0x4028, .reg 0x4063, .reg 0x4071, .reg 0x4072, .desk, .ldg, .out, .eng, .pmk,
    .tck, .dec, .mem, .cons, .host, .pwr] : List Part), p ∈ P) :
    Only P s0 (State.throttleHalf s out) := by
  unfold State.throttleHalf
  repeat' (first | with_reducible exact Or.inr rfl | with_reducible exact sub_of hP (by decide) | intro _ | with_reducible exact hs
                 | with_reducible assumption | with_reducible exact Or.inl (hP _ (by decide))
                 | with_reducible exact may_block (hP _ (by decide)) | with_reducible apply only_ite
                 | with_reducible apply only_pdSwitchOff | with_reducible apply only_pdSwitchOn | with_reducible apply only_set
                 | with_reducible apply only_setHalf | simp only [↓only_mk] | with_reducible apply parts_of | split
                 | (dsimp only; split))

theorem only_setStep {P : List Part} {s0 : State} {s : State} {k : Nat} (hs : Only P s0 s) (hP : ∀ p ∈ ([.reg 0x4000, .reg 0x4001,
    .reg 0x4002, .reg 0x4014, .reg 0x4020, .reg 0x4028, .reg 0x4063, .reg 0x4070, .reg 0x4071, .reg 0x4072, .desk, .ldg, .out, .eng,
    .pmk, .tck, .dec, .mem, .cons, .host, .heat, .pwr] : List Part), p ∈ P) :
    Only P s0 (State.setStep s k) := by
  unfold State.setStep
  repeat' (first | with_reducible exact Or.inr rfl | with_reducible exact sub_of hP (by decide) | intro _ | with_reducible exact hs
                 | with_reducible assumption | with_reducible exact Or.inl (hP _ (by decide))
                 | with_reducible exact may_block (hP _ (by decide)) | with_reducible apply only_ite
                 | with_reducible apply only_ledgerHeat | with_reducible apply only_set | with_reducible apply only_throttleHalf
                 | simp only [↓only_mk] | with_reducible apply parts_of | split | (dsimp only; split))

theorem only_graveGo {P : List Part} {s0 : State} {s : State} {trigger : Nat} (hs : Only P s0 s) (hP : ∀ p ∈ ([.reg 0x4000, .reg
    0x4010, .reg 0x4011, .reg 0x4012, .reg 0x4013, .reg 0x4020, .reg 0x4021, .reg 0x4022, .reg 0x4023, .reg 0x4024, .reg 0x4028, .reg
    0x4031, .reg 0x4071, .reg 0x4072, .regs, .desk, .ldg, .out, .eng, .loops, .pmk, .spn, .motor, .books, .host, .pwr] : List Part), p
    ∈ P) :
    Only P s0 (State.graveGo s trigger) := by
  unfold State.graveGo
  repeat' (first | with_reducible exact Or.inr rfl | with_reducible exact sub_of hP (by decide) | intro _ | with_reducible exact hs
                 | with_reducible assumption | with_reducible exact Or.inl (hP _ (by decide))
                 | with_reducible exact may_block (hP _ (by decide)) | with_reducible exact may_any (hP _ (by decide))
                 | with_reducible apply only_ite | with_reducible apply only_foldl | with_reducible apply only_coast
                 | with_reducible apply only_emUnloadAll | with_reducible apply only_notAtSpeed | with_reducible apply only_putLp
                 | simp only [↓only_mk] | with_reducible apply parts_of | split | (dsimp only; split))

theorem only_shutDown {P : List Part} {s0 : State} {s : State} (hs : Only P s0 s) (hP : ∀ p ∈ ([.reg 0x4000, .reg 0x4010, .reg 0x4011,
    .reg 0x4012, .reg 0x4013, .reg 0x4020, .reg 0x4021, .reg 0x4022, .reg 0x4023, .reg 0x4024, .reg 0x4028, .reg 0x4031, .reg 0x4070,
    .reg 0x4071, .reg 0x4072, .regs, .desk, .ldg, .out, .eng, .loops, .pmk, .spn, .motor, .books, .host, .heat, .pwr] : List Part), p
    ∈ P) :
    Only P s0 (State.shutDown s) := by
  unfold State.shutDown
  repeat' (first | with_reducible exact Or.inr rfl | with_reducible exact sub_of hP (by decide) | intro _ | with_reducible exact hs
                 | with_reducible assumption | with_reducible exact Or.inl (hP _ (by decide))
                 | with_reducible exact may_block (hP _ (by decide)) | with_reducible exact may_any (hP _ (by decide))
                 | with_reducible apply only_ite | with_reducible apply only_graveCapture | with_reducible apply only_graveGo
                 | with_reducible apply only_ledgerHeat | with_reducible apply only_set | simp only [↓only_mk]
                 | with_reducible apply parts_of | split | (dsimp only; split))

theorem only_reachShut {P : List Part} {s0 : State} {s : State} (hs : Only P s0 s) (hP : ∀ p ∈ ([.reg 0x4000, .reg 0x4001, .reg
    0x4002, .reg 0x4010, .reg 0x4011, .reg 0x4012, .reg 0x4013, .reg 0x4014, .reg 0x4020, .reg 0x4021, .reg 0x4022, .reg 0x4023, .reg
    0x4024, .reg 0x4028, .reg 0x4031, .reg 0x4063, .reg 0x4070, .reg 0x4071, .reg 0x4072, .regs, .desk, .ldg, .out, .eng, .loops,
    .pmk, .tck, .spn, .motor, .books, .dec, .mem, .cons, .host, .heat, .pwr] : List Part), p ∈ P) :
    Only P s0 (State.reachShut s) := by
  unfold State.reachShut
  repeat' (first | with_reducible exact Or.inr rfl | with_reducible exact sub_of hP (by decide) | intro _ | with_reducible exact hs
                 | with_reducible assumption | with_reducible exact Or.inl (hP _ (by decide))
                 | with_reducible exact may_block (hP _ (by decide)) | with_reducible exact may_any (hP _ (by decide))
                 | with_reducible apply only_ite | with_reducible apply only_setStep | with_reducible apply only_shutDown
                 | simp only [↓only_mk] | with_reducible apply parts_of | split | (dsimp only; split))

theorem only_releaseDeferred {P : List Part} {s0 : State} {s : State} (hs : Only P s0 s) (hP : ∀ p ∈ ([.reg 0x4000, .reg 0x4010, .reg
    0x4011, .reg 0x4012, .reg 0x4013, .reg 0x4020, .reg 0x4021, .reg 0x4022, .reg 0x4023, .reg 0x4024, .reg 0x4028, .reg 0x4031, .reg
    0x4070, .reg 0x4071, .reg 0x4072, .regs, .desk, .ldg, .out, .eng, .loops, .pmk, .spn, .motor, .books, .host, .heat, .pwr] : List
    Part), p ∈ P) :
    Only P s0 (State.releaseDeferred s) := by
  unfold State.releaseDeferred
  repeat' (first | with_reducible exact Or.inr rfl | with_reducible exact sub_of hP (by decide) | intro _ | with_reducible exact hs
                 | with_reducible assumption | with_reducible exact Or.inl (hP _ (by decide))
                 | with_reducible exact may_block (hP _ (by decide)) | with_reducible exact may_any (hP _ (by decide))
                 | with_reducible apply only_ite | with_reducible apply only_graveGo | with_reducible apply only_shutDown
                 | simp only [↓only_mk] | with_reducible apply parts_of | split | (dsimp only; split))

theorem only_graveFault {P : List Part} {s0 : State} {s : State} {source code addr info : Nat} (hs : Only P s0 s) (hP : ∀ p ∈ ([.reg
    0x4000, .reg 0x4010, .reg 0x4011, .reg 0x4012, .reg 0x4013, .reg 0x4020, .reg 0x4021, .reg 0x4022, .reg 0x4023, .reg 0x4024, .reg
    0x4028, .reg 0x4031, .reg 0x4071, .reg 0x4072, .regs, .desk, .ldg, .out, .eng, .loops, .pmk, .spn, .motor, .books, .host, .pwr] :
    List Part), p ∈ P) :
    Only P s0 (State.graveFault s source code addr info) := by
  unfold State.graveFault
  repeat' (first | with_reducible exact Or.inr rfl | with_reducible exact sub_of hP (by decide) | intro _ | with_reducible exact hs
                 | with_reducible assumption | with_reducible exact Or.inl (hP _ (by decide))
                 | with_reducible exact may_block (hP _ (by decide)) | with_reducible exact may_any (hP _ (by decide))
                 | with_reducible apply only_ite | with_reducible apply only_graveCapture | with_reducible apply only_graveGo
                 | simp only [↓only_mk] | with_reducible apply parts_of | split | (dsimp only; split))

theorem only_raiseUp {P : List Part} {s0 : State} {s : State} {p : Nat} {r : CapRec} (hs : Only P s0 s) (hP : ∀ p ∈ ([.reg 0x4000,
    .reg 0x4010, .reg 0x4011, .reg 0x4012, .reg 0x4013, .reg 0x4020, .reg 0x4021, .reg 0x4022, .reg 0x4023, .reg 0x4024, .reg 0x4028,
    .reg 0x4031, .reg 0x4071, .reg 0x4072, .regs, .desk, .ldg, .out, .eng, .loops, .pmk, .spn, .motor, .books, .host, .pwr] : List
    Part), p ∈ P) :
    Only P s0 (State.raiseUp s p r) := by
  unfold State.raiseUp
  repeat' (first | with_reducible exact Or.inr rfl | with_reducible exact sub_of hP (by decide) | intro _ | with_reducible exact hs
                 | with_reducible assumption | with_reducible exact Or.inl (hP _ (by decide))
                 | with_reducible exact may_block (hP _ (by decide)) | with_reducible exact may_any (hP _ (by decide))
                 | with_reducible apply only_ite | with_reducible apply only_asInjected | with_reducible apply only_capture
                 | with_reducible apply only_closeRec | with_reducible apply only_graveFault | simp only [↓only_mk]
                 | with_reducible apply parts_of | split | (dsimp only; split))

theorem only_disarm {P : List Part} {s0 : State} {s : State} (hs : Only P s0 s) (hP : ∀ p ∈ ([.reg 0x4000, .reg 0x4063, .reg 0x4071,
    .mem] : List Part), p ∈ P) :
    Only P s0 (State.disarm s) := by
  unfold State.disarm
  repeat' (first | with_reducible exact Or.inr rfl | with_reducible exact sub_of hP (by decide) | intro _ | with_reducible exact hs
                 | with_reducible assumption | with_reducible exact Or.inl (hP _ (by decide))
                 | with_reducible exact may_block (hP _ (by decide)) | with_reducible apply only_foldl
                 | with_reducible apply only_dropSlip | with_reducible apply only_set | simp only [↓only_mk]
                 | with_reducible apply parts_of)

theorem only_loseEntry {P : List Part} {s0 : State} {s : State} {t : TrayEnt} (hs : Only P s0 s) (hP : ∀ p ∈ ([.reg 0x4000, .reg
    0x4020, .reg 0x4040, .reg 0x4061, .reg 0x4063, .reg 0x4071, .reg 0x4072, .cells, .desk, .ldg, .out, .bags, .mem, .office, .host,
    .pwr] : List Part), p ∈ P) :
    Only P s0 (State.loseEntry s t) := by
  unfold State.loseEntry
  repeat' (first | with_reducible exact Or.inr rfl | with_reducible exact sub_of hP (by decide) | intro _ | with_reducible exact hs
                 | with_reducible assumption | with_reducible exact Or.inl (hP _ (by decide))
                 | with_reducible exact may_block (hP _ (by decide)) | with_reducible apply only_ite | with_reducible apply only_foldl
                 | with_reducible apply only_deferredError | with_reducible apply only_listUnreadable
                 | with_reducible apply only_fst ‹_ = (_, _)› | simp only [↓only_mk] | with_reducible apply parts_of | split
                 | (dsimp only; split))

theorem only_loseDram {P : List Part} {s0 : State} {s : State} (hs : Only P s0 s) (hP : ∀ p ∈ ([.reg 0x4000, .reg 0x4020, .reg 0x4040,
    .reg 0x4061, .reg 0x4063, .reg 0x4071, .reg 0x4072, .cells, .desk, .ldg, .out, .bags, .mem, .office, .host, .pwr] : List Part), p
    ∈ P) :
    Only P s0 (State.loseDram s) := by
  unfold State.loseDram
  repeat' (first | with_reducible exact Or.inr rfl | with_reducible exact sub_of hP (by decide) | intro _ | with_reducible exact hs
                 | with_reducible assumption | with_reducible exact Or.inl (hP _ (by decide))
                 | with_reducible exact may_block (hP _ (by decide)) | with_reducible apply only_ite | with_reducible apply only_foldl
                 | with_reducible apply only_loseEntry | with_reducible apply only_putHost | with_reducible apply only_putOffice
                 | with_reducible apply only_setCritical | simp only [↓only_mk] | with_reducible apply parts_of | split
                 | (dsimp only; split))

theorem only_clearUnits {P : List Part} {s0 : State} {s : State} (hs : Only P s0 s) (hP : ∀ p ∈ ([.env, .bootKeys, .eng, .loops, .pmk,
    .tck, .spn, .motor, .lanes, .dec, .rcv, .mem, .office, .cons, .host, .pre, .heat] : List Part), p ∈ P) :
    Only P s0 (State.clearUnits s) := by
  unfold State.clearUnits
  repeat' (first | with_reducible exact Or.inr rfl | with_reducible exact sub_of hP (by decide) | intro _ | with_reducible exact hs
                 | with_reducible assumption | with_reducible exact Or.inl (hP _ (by decide))
                 | with_reducible exact may_block (hP _ (by decide)) | with_reducible apply only_ite | simp only [↓only_mk]
                 | with_reducible apply parts_of | split | (dsimp only; split))

theorem only_identify {P : List Part} {s0 : State} {s : State} (hs : Only P s0 s) (hP : ∀ p ∈ ([.regs] : List Part), p ∈ P) :
    Only P s0 (State.identify s) := by
  unfold State.identify
  repeat' (first | with_reducible exact Or.inr rfl | with_reducible exact sub_of hP (by decide) | with_reducible exact mayAll_nil
                 | with_reducible apply mayAll_cons | with_reducible exact mayPairs_nil | with_reducible apply mayPairs_cons | intro _
                 | with_reducible exact hs | with_reducible assumption | with_reducible exact Or.inl (hP _ (by decide))
                 | with_reducible exact may_block (hP _ (by decide)) | with_reducible exact may_any (hP _ (by decide))
                 | with_reducible apply only_foldl | with_reducible apply only_putWord | with_reducible apply only_setAll
                 | simp only [↓only_mk] | with_reducible apply parts_of | split | (dsimp only; split))

theorem only_powerLost {P : List Part} {s0 : State} {s : State} {cold : Bool} (hs : Only P s0 s) (hP : ∀ p ∈ ([.reg 0x4000, .reg
    0x4020, .reg 0x4040, .reg 0x4061, .reg 0x4063, .reg 0x4071, .reg 0x4072, .regs, .bus, .tick, .cells, .psp, .env, .bootKeys, .desk,
    .ldg, .out, .eng, .loops, .pmk, .tck, .spn, .motor, .books, .lanes, .dec, .rcv, .krx, .bags, .mem, .office, .cons, .host, .pre,
    .heat, .pwr] : List Part), p ∈ P) :
    Only P s0 (State.powerLost s cold) := by
  unfold State.powerLost
  repeat' (first | with_reducible exact Or.inr rfl | with_reducible exact sub_of hP (by decide) | intro _ | with_reducible exact hs
                 | with_reducible assumption | with_reducible exact Or.inl (hP _ (by decide))
                 | with_reducible exact may_block (hP _ (by decide)) | with_reducible exact may_any (hP _ (by decide))
                 | with_reducible apply only_ite | with_reducible apply only_foldl | with_reducible apply only_clearUnits
                 | with_reducible apply only_disarm | with_reducible apply only_identify | with_reducible apply only_ldgDrain
                 | with_reducible apply only_ldgRefresh | with_reducible apply only_loseDram | with_reducible apply only_set
                 | with_reducible apply only_slipCount | simp only [↓only_mk] | with_reducible apply parts_of | split
                 | (dsimp only; split))

theorem only_domainsLost {P : List Part} {s0 : State} {s : State} (hs : Only P s0 s) (hP : ∀ p ∈ ([.reg 0x4000, .reg 0x4020, .reg
    0x4040, .reg 0x4061, .reg 0x4063, .reg 0x4070, .reg 0x4071, .reg 0x4072, .regs, .cells, .env, .bootKeys, .desk, .ldg, .out, .eng,
    .loops, .pmk, .tck, .spn, .motor, .lanes, .dec, .rcv, .bags, .mem, .office, .cons, .host, .pre, .heat, .pwr] : List Part), p ∈ P)
    :
    Only P s0 (State.domainsLost s) := by
  unfold State.domainsLost
  repeat' (first | with_reducible exact Or.inr rfl | with_reducible exact sub_of hP (by decide) | with_reducible exact mayAll_nil
                 | with_reducible apply mayAll_cons | with_reducible exact mayPairs_nil | with_reducible apply mayPairs_cons | intro _
                 | with_reducible exact hs | with_reducible assumption | with_reducible exact Or.inl (hP _ (by decide))
                 | with_reducible exact may_block (hP _ (by decide)) | with_reducible exact may_any (hP _ (by decide))
                 | with_reducible apply only_clearUnits | with_reducible apply only_disarm | with_reducible apply only_identify
                 | with_reducible apply only_loseDram | with_reducible apply only_noEnvelope | with_reducible apply only_setAll
                 | simp only [↓only_mk] | with_reducible apply parts_of)

theorem only_noteRejects {P : List Part} {s0 : State} {s : State} {bad : List (Nat × Nat)} (hs : Only P s0 s) (hP : ∀ p ∈ ([.reg
    0x4000, .reg 0x4072, .ldg, .host] : List Part), p ∈ P) :
    Only P s0 (State.noteRejects s bad) := by
  unfold State.noteRejects
  repeat' (first | with_reducible exact Or.inr rfl | with_reducible exact sub_of hP (by decide) | with_reducible exact mayAll_nil
                 | with_reducible apply mayAll_cons | with_reducible exact mayPairs_nil | with_reducible apply mayPairs_cons | intro _
                 | with_reducible exact hs | with_reducible assumption | with_reducible exact Or.inl (hP _ (by decide))
                 | with_reducible exact may_block (hP _ (by decide)) | with_reducible apply only_ite | with_reducible apply only_foldl
                 | with_reducible apply only_ledger | with_reducible apply only_putHost | with_reducible apply only_setAll
                 | simp only [↓only_mk] | with_reducible apply parts_of | split | (dsimp only; split))

theorem only_countTrial {P : List Part} {s0 : State} {s : State} {k : Nat} (hs : Only P s0 s) (hP : ∀ p ∈ ([.psp] : List Part), p ∈ P) :
    Only P s0 (State.countTrial s k) := by
  unfold State.countTrial
  repeat' (first | with_reducible exact Or.inr rfl | with_reducible exact sub_of hP (by decide) | intro _ | with_reducible exact hs
                 | with_reducible assumption | with_reducible exact Or.inl (hP _ (by decide))
                 | with_reducible exact may_block (hP _ (by decide)) | with_reducible apply only_ite
                 | with_reducible apply only_changeDev | simp only [↓only_mk] | with_reducible apply parts_of | split
                 | (dsimp only; split))

theorem only_enterRecovery {P : List Part} {s0 : State} {s : State} {cause bootMs : Nat} (hs : Only P s0 s) (hP : ∀ p ∈ ([.reg 0x4000,
    .reg 0x4031, .reg 0x4072, .ldg, .eng, .books] : List Part), p ∈ P) :
    Only P s0 (State.enterRecovery s cause bootMs) := by
  unfold State.enterRecovery
  repeat' (first | with_reducible exact sub_of hP (by decide) | with_reducible exact mayAll_nil | with_reducible apply mayAll_cons
                 | with_reducible exact mayPairs_nil | with_reducible apply mayPairs_cons | intro _ | with_reducible exact hs
                 | with_reducible assumption | with_reducible exact may_block (hP _ (by decide)) | with_reducible apply only_clear
                 | with_reducible apply only_ledger | with_reducible apply only_putBooks | with_reducible apply only_setAll)

theorem only_startStep1 {P : List Part} {s0 : State} {s : State} {cold : Bool} {f : StartFacts} (hs : Only P s0 s) (hP : ∀ p ∈ ([.reg
    0x4000, .reg 0x4050, .reg 0x4051, .reg 0x4063, .straps] : List Part), p ∈ P) :
    Only P s0 (State.startStep1 s cold f) := by
  unfold State.startStep1
  repeat' (first | with_reducible exact Or.inr rfl | with_reducible exact sub_of hP (by decide) | with_reducible exact mayAll_nil
                 | with_reducible apply mayAll_cons | with_reducible exact mayPairs_nil | with_reducible apply mayPairs_cons | intro _
                 | with_reducible exact hs | with_reducible assumption | with_reducible exact Or.inl (hP _ (by decide))
                 | with_reducible exact may_block (hP _ (by decide)) | with_reducible apply only_ite
                 | with_reducible apply only_memState | with_reducible apply only_set | with_reducible apply only_setAll
                 | simp only [↓only_mk] | with_reducible apply parts_of | (cases p <;> exact may_block (hP _ (by decide))) | split
                 | (dsimp only; split))

theorem only_startStep2 {P : List Part} {s0 : State} {s : State} {tested : Bool} {f : StartFacts} (hs : Only P s0 s) (hP : ∀ p ∈
    ([.reg 0x4000, .reg 0x4063, .mem, .pwr] : List Part), p ∈ P) :
    Only P s0 (State.startStep2 s tested f) := by
  unfold State.startStep2
  repeat' (first | with_reducible exact Or.inr rfl | with_reducible exact sub_of hP (by decide) | with_reducible exact mayAll_nil
                 | with_reducible apply mayAll_cons | with_reducible exact mayPairs_nil | with_reducible apply mayPairs_cons | intro _
                 | with_reducible exact hs | with_reducible assumption | with_reducible exact Or.inl (hP _ (by decide))
                 | with_reducible exact may_block (hP _ (by decide)) | with_reducible apply only_ite | with_reducible apply only_foldl
                 | with_reducible apply only_pdSwitchOn | with_reducible apply only_setAll | simp only [↓only_mk]
                 | with_reducible apply parts_of | split | (dsimp only; split))

theorem only_startStep8 {P : List Part} {s0 : State} {s : State} {tested : Bool} {f : StartFacts} {fac z : Area} (hs : Only P s0 s)
    (hP : ∀ p ∈ ([.reg 0x4000, .reg 0x4014, .reg 0x4020, .reg 0x4028, .reg 0x4030, .reg 0x4052, .reg 0x4063, .eng, .pre] : List Part),
    p ∈ P) :
    Only P s0 (State.startStep8 s tested f fac z) := by
  unfold State.startStep8
  repeat' (first | with_reducible exact Or.inr rfl | with_reducible exact sub_of hP (by decide) | with_reducible exact mayAll_nil
                 | with_reducible apply mayAll_cons | with_reducible exact mayPairs_nil | with_reducible apply mayPairs_cons | intro _
                 | with_reducible exact hs | with_reducible assumption | with_reducible exact Or.inl (hP _ (by decide))
                 | with_reducible exact may_block (hP _ (by decide)) | with_reducible apply only_ite | with_reducible apply only_foldl
                 | with_reducible apply only_inc | with_reducible apply only_pdSwitchOn | with_reducible apply only_set
                 | with_reducible apply only_setAll | simp only [↓only_mk] | with_reducible apply parts_of | split
                 | (dsimp only; split))

theorem only_postRecord {P : List Part} {s0 : State} {s : State} {k : Nat} {pairs : List (Nat × Nat)} (hs : Only P s0 s) (hP : ∀ p ∈
    ([.reg 0x4000, .reg 0x4002, .reg 0x4010, .reg 0x4011, .reg 0x4012, .reg 0x4013, .reg 0x4020, .reg 0x4028, .reg 0x4071, .reg
    0x4072, .regs, .tick, .bootKeys, .desk, .ldg, .out, .eng, .pmk, .spn, .host, .pwr] : List Part), p ∈ P) :
    Only P s0 (State.postRecord s k pairs) := by
  unfold State.postRecord
  repeat' (first | with_reducible exact Or.inr rfl | with_reducible exact sub_of hP (by decide) | intro _ | with_reducible exact hs
                 | with_reducible assumption | with_reducible exact Or.inl (hP _ (by decide))
                 | with_reducible exact may_block (hP _ (by decide)) | with_reducible exact may_any (hP _ (by decide))
                 | with_reducible apply only_ite | with_reducible apply only_applySet | with_reducible apply only_event
                 | with_reducible apply only_ledger | with_reducible apply only_putHost | simp only [↓only_mk]
                 | with_reducible apply parts_of | split | (dsimp only; split))

theorem only_postHeads {P : List Part} {s0 : State} {s : State} {cold : Bool} (hs : Only P s0 s) (hP : ∀ p ∈ ([.reg 0x4021, .reg
    0x4022, .reg 0x4023, .reg 0x4024, .reg 0x4041, .regs, .psp] : List Part), p ∈ P) :
    Only P s0 (State.postHeads s cold) := by
  unfold State.postHeads
  repeat' (first | with_reducible exact Or.inr rfl | with_reducible exact sub_of hP (by decide) | intro _ | with_reducible exact hs
                 | with_reducible assumption | with_reducible exact Or.inl (hP _ (by decide))
                 | with_reducible exact may_block (hP _ (by decide)) | with_reducible exact may_any (hP _ (by decide))
                 | with_reducible apply only_ite | with_reducible apply only_foldl | with_reducible apply only_changeDev
                 | with_reducible apply only_setBit | with_reducible apply only_setPos | simp only [↓only_mk]
                 | with_reducible apply parts_of | (cases x <;> exact may_block (hP _ (by decide)))
                 | (generalize Act.num _ = y; cases y <;> exact may_block (hP _ (by decide))) | split | (dsimp only; split))

theorem only_loadKeys {P : List Part} {s0 : State} {s : State} {kek : List Nat} (hs : Only P s0 s) (hP : ∀ p ∈ ([.reg 0x4041, .cons] :
    List Part), p ∈ P) :
    Only P s0 (State.loadKeys s kek) := by
  unfold State.loadKeys
  repeat' (first | with_reducible exact Or.inr rfl | with_reducible exact sub_of hP (by decide) | intro _ | with_reducible exact hs
                 | with_reducible assumption | with_reducible exact Or.inl (hP _ (by decide))
                 | with_reducible exact may_block (hP _ (by decide)) | with_reducible apply only_ite | with_reducible apply only_foldl
                 | with_reducible apply only_putCons | with_reducible apply only_putKey | with_reducible apply only_set
                 | with_reducible apply only_fst ‹_ = (_, _)› | simp only [↓only_mk] | with_reducible apply parts_of | split
                 | (dsimp only; split))

theorem only_replayTray {P : List Part} {s0 : State} {s : State} {pools : List Nat} (hs : Only P s0 s) (hP : ∀ p ∈ ([.reg 0x4000, .reg
    0x4020, .reg 0x4053, .reg 0x4060, .reg 0x4063, .reg 0x4071, .reg 0x4072, .regs, .cells, .desk, .ldg, .out, .bags, .mem, .host,
    .pwr] : List Part), p ∈ P) :
    Only P s0 (State.replayTray s pools) := by
  unfold State.replayTray
  repeat' (first | with_reducible exact Or.inr rfl | with_reducible exact sub_of hP (by decide) | intro _ | with_reducible exact hs
                 | with_reducible assumption | with_reducible exact Or.inl (hP _ (by decide))
                 | with_reducible exact may_block (hP _ (by decide)) | with_reducible exact may_any (hP _ (by decide))
                 | with_reducible apply only_ite | with_reducible apply only_foldl | with_reducible apply only_bagStore
                 | with_reducible apply only_bpmRefresh | with_reducible apply only_itrayRefresh | with_reducible apply only_putHost
                 | with_reducible apply only_set | with_reducible apply only_takeBags | with_reducible apply only_fst ‹_ = (_, _)›
                 | simp only [↓only_mk] | with_reducible apply parts_of | split | (dsimp only; split))

theorem only_replayJournal {P : List Part} {s0 : State} {s : State} (hs : Only P s0 s) (hP : ∀ p ∈ ([.reg 0x4000, .reg 0x4020, .reg
    0x4040, .reg 0x4061, .reg 0x4063, .reg 0x4071, .reg 0x4072, .cells, .desk, .ldg, .out, .bags, .mem, .office, .host, .pwr] : List
    Part), p ∈ P) :
    Only P s0 (State.replayJournal s) := by
  unfold State.replayJournal
  repeat' (first | with_reducible exact sub_of hP (by decide) | intro _ | with_reducible exact hs | with_reducible assumption
                 | with_reducible exact may_block (hP _ (by decide)) | with_reducible apply only_foldl
                 | with_reducible apply only_freeGroups | with_reducible apply only_set)

theorem only_closeOpen {P : List Part} {s0 : State} {s : State} (hs : Only P s0 s) (hP : ∀ p ∈ ([.reg 0x4071, .reg 0x4072, .desk,
    .ldg] : List Part), p ∈ P) :
    Only P s0 (State.closeOpen s) := by
  unfold State.closeOpen
  repeat' (first | with_reducible exact Or.inr rfl | with_reducible exact sub_of hP (by decide) | intro _ | with_reducible exact hs
                 | with_reducible assumption | with_reducible exact Or.inl (hP _ (by decide))
                 | with_reducible exact may_block (hP _ (by decide)) | with_reducible apply only_foldl
                 | with_reducible apply only_closeRec | with_reducible apply only_deskRefresh
                 | with_reducible apply only_ldgSaveFrozen | simp only [↓only_mk] | with_reducible apply parts_of)

theorem only_loadSaved {P : List Part} {s0 : State} {s : State} (hs : Only P s0 s) (hP : ∀ p ∈ ([.reg 0x4041, .reg 0x4050, .reg
    0x4051, .host] : List Part), p ∈ P) :
    Only P s0 (State.loadSaved s) := by
  unfold State.loadSaved
  repeat' (first | with_reducible exact Or.inr rfl | with_reducible exact sub_of hP (by decide) | intro _ | with_reducible exact hs
                 | with_reducible assumption | with_reducible exact Or.inl (hP _ (by decide))
                 | with_reducible exact may_block (hP _ (by decide)) | with_reducible apply only_applyNet
                 | with_reducible apply only_putHost | with_reducible apply only_set | simp only [↓only_mk]
                 | with_reducible apply parts_of)

theorem only_takeCal {P : List Part} {s0 : State} {s : State} {t : CalTable} (hs : Only P s0 s) (hP : ∀ p ∈ ([.regs, .cal, .rcv,
    .host, .heat] : List Part), p ∈ P) :
    Only P s0 (State.takeCal s t) := by
  unfold State.takeCal
  repeat' (first | with_reducible exact Or.inr rfl | with_reducible exact sub_of hP (by decide) | intro _ | with_reducible exact hs
                 | with_reducible assumption | with_reducible exact Or.inl (hP _ (by decide))
                 | with_reducible exact may_block (hP _ (by decide)) | with_reducible exact may_any (hP _ (by decide))
                 | with_reducible apply only_ite | with_reducible apply only_foldl | with_reducible apply only_putHost
                 | with_reducible apply only_set | with_reducible apply only_fst ‹_ = (_, _)› | simp only [↓only_mk]
                 | with_reducible apply parts_of | (cases x <;> exact may_block (hP _ (by decide))) | split | (dsimp only; split))

theorem only_takeCals {P : List Part} {s0 : State} {s : State} {copy : Nat} {fac : Area} (hs : Only P s0 s) (hP : ∀ p ∈ ([.regs, .cal,
    .rcv, .host, .heat] : List Part), p ∈ P) :
    Only P s0 (State.takeCals s copy fac) := by
  unfold State.takeCals
  repeat' (first | with_reducible exact Or.inr rfl | with_reducible exact sub_of hP (by decide) | intro _ | with_reducible exact hs
                 | with_reducible assumption | with_reducible exact Or.inl (hP _ (by decide))
                 | with_reducible exact may_block (hP _ (by decide)) | with_reducible exact may_any (hP _ (by decide))
                 | with_reducible apply only_foldl | with_reducible apply only_takeCal | simp only [↓only_mk]
                 | with_reducible apply parts_of)

theorem only_startUp {P : List Part} {s0 : State} {s : State} {cause : Nat} {tested : Bool} {f : StartFacts} (hs : Only P s0 s) (hP :
    ∀ p ∈ ([.reg 0x4000, .reg 0x4002, .reg 0x4010, .reg 0x4011, .reg 0x4012, .reg 0x4013, .reg 0x4014, .reg 0x4020, .reg 0x4021, .reg
    0x4022, .reg 0x4023, .reg 0x4024, .reg 0x4028, .reg 0x4030, .reg 0x4031, .reg 0x4040, .reg 0x4041, .reg 0x4050, .reg 0x4051, .reg
    0x4052, .reg 0x4053, .reg 0x4060, .reg 0x4061, .reg 0x4063, .reg 0x4071, .reg 0x4072, .regs, .tick, .cells, .psp, .bootKeys,
    .desk, .ldg, .out, .eng, .pmk, .spn, .cal, .books, .lanes, .rcv, .bags, .mem, .office, .cons, .host, .pre, .heat, .pwr] : List
    Part), p ∈ P) :
    Only P s0 (State.startUp s cause tested f) := by
  unfold State.startUp
  repeat' (first | with_reducible exact Or.inr rfl | with_reducible exact sub_of hP (by decide) | with_reducible exact mayAll_nil
                 | with_reducible apply mayAll_cons | with_reducible exact mayPairs_nil | with_reducible apply mayPairs_cons | intro _
                 | with_reducible exact hs | with_reducible assumption | with_reducible exact Or.inl (hP _ (by decide))
                 | with_reducible exact may_block (hP _ (by decide)) | with_reducible exact may_any (hP _ (by decide))
                 | with_reducible apply only_ite | with_reducible apply only_foldl | with_reducible apply only_closeOpen
                 | with_reducible apply only_connsRefresh | with_reducible apply only_countTrial
                 | with_reducible apply only_enterRecovery | with_reducible apply only_eraseSteps
                 | with_reducible apply only_hqRefresh | with_reducible apply only_ledger | with_reducible apply only_loadKeys
                 | with_reducible apply only_loadSaved | with_reducible apply only_noteBooks | with_reducible apply only_noteRejects
                 | with_reducible apply only_postHeads | with_reducible apply only_postRecord | with_reducible apply only_putCons
                 | with_reducible apply only_replayJournal | with_reducible apply only_replayTray
                 | with_reducible apply only_restoreSlips | with_reducible apply only_set | with_reducible apply only_setAll
                 | with_reducible apply only_startStep2 | with_reducible apply only_startStep8 | with_reducible apply only_takeCals
                 | with_reducible apply only_fst ‹_ = (_, _)› | simp only [↓only_mk] | with_reducible apply parts_of | split
                 | (dsimp only; split))

theorem only_startDrive {P : List Part} {s0 : State} {s : State} {cause : Nat} {f : StartFacts} (hs : Only P s0 s) (hP : ∀ p ∈ ([.reg
    0x4000, .reg 0x4002, .reg 0x4010, .reg 0x4011, .reg 0x4012, .reg 0x4013, .reg 0x4014, .reg 0x4020, .reg 0x4021, .reg 0x4022, .reg
    0x4023, .reg 0x4024, .reg 0x4028, .reg 0x4030, .reg 0x4031, .reg 0x4040, .reg 0x4041, .reg 0x4050, .reg 0x4051, .reg 0x4052, .reg
    0x4053, .reg 0x4060, .reg 0x4061, .reg 0x4063, .reg 0x4071, .reg 0x4072, .regs, .straps, .tick, .cells, .psp, .bootKeys, .desk,
    .ldg, .out, .eng, .pmk, .spn, .cal, .books, .lanes, .rcv, .bags, .mem, .office, .cons, .host, .pre, .heat, .pwr] : List Part), p ∈
    P) :
    Only P s0 (State.startDrive s cause f) := by
  unfold State.startDrive
  repeat' (first | with_reducible exact sub_of hP (by decide) | intro _ | with_reducible exact hs | with_reducible assumption
                 | with_reducible exact may_block (hP _ (by decide)) | with_reducible exact may_any (hP _ (by decide))
                 | with_reducible apply only_startStep1 | with_reducible apply only_startUp)

theorem only_resetProtocol {P : List Part} {s0 : State} {s : State} {z : Option Area} (hs : Only P s0 s) (hP : ∀ p ∈ ([.reg 0x4000,
    .reg 0x4020, .reg 0x4052, .reg 0x4053, .reg 0x4060, .reg 0x4071, .reg 0x4072, .regs, .env, .desk, .ldg, .out, .bags, .host, .pre,
    .pwr] : List Part), p ∈ P) :
    Only P s0 (State.resetProtocol s z) := by
  unfold State.resetProtocol
  repeat' (first | with_reducible exact Or.inr rfl | with_reducible exact sub_of hP (by decide) | intro _ | with_reducible exact hs
                 | with_reducible assumption | with_reducible exact Or.inl (hP _ (by decide))
                 | with_reducible exact may_block (hP _ (by decide)) | with_reducible exact may_any (hP _ (by decide))
                 | with_reducible apply only_connsRefresh | with_reducible apply only_endAll | with_reducible apply only_hqRefresh
                 | with_reducible apply only_noEnvelope | with_reducible apply only_set | simp only [↓only_mk]
                 | with_reducible apply parts_of | split | (dsimp only; split))

theorem only_ledgerPower {P : List Part} {s0 : State} {s : State} (hs : Only P s0 s) (hP : ∀ p ∈ ([.reg 0x4072, .ldg] : List Part), p
    ∈ P) :
    Only P s0 (State.ledgerPower s) := by
  unfold State.ledgerPower
  repeat' (first | with_reducible exact sub_of hP (by decide) | intro _ | with_reducible exact hs | with_reducible assumption
                 | with_reducible exact may_block (hP _ (by decide)) | with_reducible apply only_ledger)

theorem only_tellCores {P : List Part} {s0 : State} {s : State} {block : Nat} (hs : Only P s0 s) (hP : ∀ p ∈ ([.out] : List Part), p ∈
    P) :
    Only P s0 (State.tellCores s block) := by
  unfold State.tellCores
  repeat' (first | with_reducible exact Or.inr rfl | with_reducible exact sub_of hP (by decide) | intro _ | with_reducible exact hs
                 | with_reducible assumption | with_reducible exact Or.inl (hP _ (by decide))
                 | with_reducible exact may_block (hP _ (by decide)) | with_reducible apply only_foldl
                 | with_reducible apply only_emit | simp only [↓only_mk] | with_reducible apply parts_of)

theorem only_warnCmd {P : List Part} {s0 : State} {s : State} {ladder : List Nat} {serial : Nat} (hs : Only P s0 s) (hP : ∀ p ∈ ([.reg
    0x4000, .reg 0x4020, .reg 0x4053, .reg 0x4060, .reg 0x4071, .reg 0x4072, .regs, .desk, .ldg, .out, .bags, .host, .pwr] : List
    Part), p ∈ P) :
    Only P s0 (State.warnCmd s ladder serial) := by
  unfold State.warnCmd
  repeat' (first | with_reducible exact Or.inr rfl | with_reducible exact sub_of hP (by decide) | intro _ | with_reducible exact hs
                 | with_reducible assumption | with_reducible exact Or.inl (hP _ (by decide))
                 | with_reducible exact may_block (hP _ (by decide)) | with_reducible exact may_any (hP _ (by decide))
                 | with_reducible apply only_ite | with_reducible apply only_answer | with_reducible apply only_bagReleaseAll
                 | with_reducible apply only_putCmd | with_reducible apply only_storeNow | with_reducible apply only_writeNow
                 | with_reducible apply only_fst ‹_ = (_, _)› | simp only [↓only_mk] | with_reducible apply parts_of | split
                 | (dsimp only; split))

theorem only_warnTold {P : List Part} {s0 : State} {s : State} (hs : Only P s0 s) (hP : ∀ p ∈ ([.reg 0x4030, .reg 0x4053, .out] : List
    Part), p ∈ P) :
    Only P s0 (State.warnTold s) := by
  unfold State.warnTold
  repeat' (first | with_reducible exact Or.inr rfl | with_reducible exact sub_of hP (by decide) | intro _ | with_reducible exact hs
                 | with_reducible assumption | with_reducible exact Or.inl (hP _ (by decide))
                 | with_reducible exact may_block (hP _ (by decide)) | with_reducible apply only_ite | with_reducible apply only_inc
                 | with_reducible apply only_set | with_reducible apply only_tellCores | simp only [↓only_mk]
                 | with_reducible apply parts_of | split | (dsimp only; split))

theorem only_warn {P : List Part} {s0 : State} {s : State} (hs : Only P s0 s) (hP : ∀ p ∈ ([.reg 0x4000, .reg 0x4014, .reg 0x4020,
    .reg 0x4030, .reg 0x4053, .reg 0x4060, .reg 0x4071, .reg 0x4072, .regs, .desk, .ldg, .out, .eng, .rcv, .bags, .mem, .host, .pwr] :
    List Part), p ∈ P) :
    Only P s0 (State.warn s) := by
  unfold State.warn
  refine only_ledgerPower (only_pwr (only_hqRefresh (only_foldl ?_ fun s a h => ?_) (sub_of hP (by decide))) (hP _ (by decide)))
    (sub_of hP (by decide))
  · exact only_abandonLadders (only_stopAllInj (only_warnTold (only_phcFlush hs (sub_of hP (by decide))) (sub_of hP (by decide)))
      (sub_of hP (by decide))) (sub_of hP (by decide))
  · exact only_warnCmd h (sub_of hP (by decide))

theorem only_raiseReads {P : List Part} {s0 : State} {s : State} (hs : Only P s0 s) (hP : ∀ p ∈ ([.mem] : List Part), p ∈ P) :
    Only P s0 (State.raiseReads s) := by
  unfold State.raiseReads
  repeat' (first | with_reducible exact Or.inr rfl | with_reducible exact sub_of hP (by decide) | intro _ | with_reducible exact hs
                 | with_reducible assumption | with_reducible exact Or.inl (hP _ (by decide))
                 | with_reducible exact may_block (hP _ (by decide)) | with_reducible apply only_ite | simp only [↓only_mk]
                 | with_reducible apply parts_of | split | (dsimp only; split))

theorem only_brownout {P : List Part} {s0 : State} {s : State} (hs : Only P s0 s) (hP : ∀ p ∈ ([.reg 0x4000, .reg 0x4020, .reg 0x4040,
    .reg 0x4061, .reg 0x4063, .reg 0x4071, .reg 0x4072, .regs, .bus, .tick, .cells, .psp, .env, .bootKeys, .desk, .ldg, .out, .eng,
    .loops, .pmk, .tck, .spn, .motor, .books, .lanes, .dec, .rcv, .krx, .bags, .mem, .office, .cons, .host, .pre, .heat, .pwr] : List
    Part), p ∈ P) :
    Only P s0 (State.brownout s) := by
  unfold State.brownout
  repeat' (first | with_reducible exact Or.inr rfl | with_reducible exact sub_of hP (by decide) | intro _ | with_reducible exact hs
                 | with_reducible assumption | with_reducible exact Or.inl (hP _ (by decide))
                 | with_reducible exact may_block (hP _ (by decide)) | with_reducible exact may_any (hP _ (by decide))
                 | with_reducible apply only_powerLost | with_reducible apply only_raiseReads | simp only [↓only_mk]
                 | with_reducible apply parts_of)

theorem only_flushDone {P : List Part} {s0 : State} {s : State} (hs : Only P s0 s) (hP : ∀ p ∈ ([.reg 0x4000, .reg 0x4001, .reg
    0x4002, .reg 0x4010, .reg 0x4011, .reg 0x4012, .reg 0x4013, .reg 0x4020, .reg 0x4021, .reg 0x4022, .reg 0x4023, .reg 0x4024, .reg
    0x4028, .reg 0x4030, .reg 0x4031, .reg 0x4040, .reg 0x4053, .reg 0x4061, .reg 0x4063, .reg 0x4070, .reg 0x4071, .reg 0x4072,
    .regs, .bus, .tick, .cells, .psp, .env, .bootKeys, .desk, .ldg, .out, .eng, .loops, .pmk, .tck, .spn, .motor, .books, .lanes,
    .dec, .rcv, .krx, .bags, .mem, .office, .cons, .host, .pre, .heat, .pwr] : List Part), p ∈ P) :
    Only P s0 (State.flushDone s) := by
  unfold State.flushDone
  repeat' (first | with_reducible exact Or.inr rfl | with_reducible exact sub_of hP (by decide) | intro _ | with_reducible exact hs
                 | with_reducible assumption | with_reducible exact Or.inl (hP _ (by decide))
                 | with_reducible exact may_block (hP _ (by decide)) | with_reducible exact may_any (hP _ (by decide))
                 | with_reducible apply only_ite | with_reducible apply only_brownout | with_reducible apply only_coast
                 | with_reducible apply only_latchedAfterDeclaration | with_reducible apply only_notAtSpeed
                 | with_reducible apply only_putHost | with_reducible apply only_releaseDeferred | with_reducible apply only_set
                 | simp only [↓only_mk] | with_reducible apply parts_of | split | (dsimp only; split))

theorem only_noteStart {P : List Part} {s0 : State} {s : State} {cause bootMs : Nat} (hs : Only P s0 s) (hP : ∀ p ∈ ([.reg 0x4000,
    .reg 0x4072, .ldg] : List Part), p ∈ P) :
    Only P s0 (State.noteStart s cause bootMs) := by
  unfold State.noteStart
  repeat' (first | with_reducible exact Or.inr rfl | with_reducible exact sub_of hP (by decide) | with_reducible exact mayAll_nil
                 | with_reducible apply mayAll_cons | with_reducible exact mayPairs_nil | with_reducible apply mayPairs_cons | intro _
                 | with_reducible exact hs | with_reducible assumption | with_reducible exact Or.inl (hP _ (by decide))
                 | with_reducible exact may_block (hP _ (by decide)) | with_reducible apply only_ledger
                 | with_reducible apply only_setAll | simp only [↓only_mk] | with_reducible apply parts_of)

theorem only_restart {P : List Part} {s0 : State} {s : State} {facts : StartFacts} (hs : Only P s0 s) (hP : ∀ p ∈ ([.reg 0x4000, .reg
    0x4002, .reg 0x4010, .reg 0x4011, .reg 0x4012, .reg 0x4013, .reg 0x4014, .reg 0x4020, .reg 0x4021, .reg 0x4022, .reg 0x4023, .reg
    0x4024, .reg 0x4028, .reg 0x4030, .reg 0x4031, .reg 0x4040, .reg 0x4041, .reg 0x4050, .reg 0x4051, .reg 0x4052, .reg 0x4053, .reg
    0x4060, .reg 0x4061, .reg 0x4063, .reg 0x4070, .reg 0x4071, .reg 0x4072, .regs, .straps, .tick, .cells, .psp, .env, .bootKeys,
    .desk, .ldg, .out, .eng, .loops, .pmk, .tck, .spn, .motor, .cal, .books, .lanes, .dec, .rcv, .bags, .mem, .office, .cons, .host,
    .pre, .heat, .pwr] : List Part), p ∈ P) :
    Only P s0 (State.restart s facts) := by
  unfold State.restart
  repeat' (first | with_reducible exact Or.inr rfl | with_reducible exact sub_of hP (by decide) | intro _ | with_reducible exact hs
                 | with_reducible assumption | with_reducible exact Or.inl (hP _ (by decide))
                 | with_reducible exact may_block (hP _ (by decide)) | with_reducible exact may_any (hP _ (by decide))
                 | with_reducible apply only_ite | with_reducible apply only_deskRefresh | with_reducible apply only_domainsLost
                 | with_reducible apply only_raiseReads | with_reducible apply only_set | with_reducible apply only_startDrive
                 | simp only [↓only_mk] | with_reducible apply parts_of | split | (dsimp only; split))

theorem only_chopFault {P : List Part} {s0 : State} {s : State} (hs : Only P s0 s) (hP : ∀ p ∈ ([.reg 0x4030] : List Part), p ∈ P) :
    Only P s0 (State.chopFault s) := by
  unfold State.chopFault
  repeat' (first | with_reducible exact Or.inr rfl | with_reducible exact sub_of hP (by decide) | with_reducible exact mayAll_nil
                 | with_reducible apply mayAll_cons | with_reducible exact mayPairs_nil | with_reducible apply mayPairs_cons | intro _
                 | with_reducible exact hs | with_reducible assumption | with_reducible exact Or.inl (hP _ (by decide))
                 | with_reducible exact may_block (hP _ (by decide)) | with_reducible apply only_setAll | simp only [↓only_mk]
                 | with_reducible apply parts_of)

theorem only_pdSwitching {P : List Part} {s0 : State} {s : State} (hs : Only P s0 s) (hP : ∀ p ∈ ([.reg 0x4000] : List Part), p ∈ P) :
    Only P s0 (State.pdSwitching s) := by
  unfold State.pdSwitching
  repeat' (first | with_reducible exact sub_of hP (by decide) | intro _ | with_reducible exact hs | with_reducible assumption
                 | with_reducible exact may_block (hP _ (by decide)) | with_reducible apply only_set)

theorem only_freshKeys {P : List Part} {s0 : State} {s : State} {n : Nat} (hs : Only P s0 s) (hP : ∀ p ∈ ([.reg 0x4041, .cons] : List
    Part), p ∈ P) :
    Only P s0 (State.freshKeys s n) := by
  unfold State.freshKeys
  repeat' (first | with_reducible exact Or.inr rfl | with_reducible exact sub_of hP (by decide) | intro _ | with_reducible exact hs
                 | with_reducible assumption | with_reducible exact Or.inl (hP _ (by decide))
                 | with_reducible exact may_block (hP _ (by decide)) | with_reducible apply only_ite
                 | with_reducible apply only_loadKeys | simp only [↓only_mk] | with_reducible apply parts_of | split
                 | (dsimp only; split))

theorem only_writeTrial {P : List Part} {s0 : State} {s : State} {k : Nat} {z : Area} (hs : Only P s0 s) (hP : ∀ p ∈ ([.psp] : List
    Part), p ∈ P) :
    Only P s0 (State.writeTrial s k z) := by
  unfold State.writeTrial
  repeat' (first | with_reducible exact Or.inr rfl | with_reducible exact sub_of hP (by decide) | intro _ | with_reducible exact hs
                 | with_reducible assumption | with_reducible exact Or.inl (hP _ (by decide))
                 | with_reducible exact may_block (hP _ (by decide)) | with_reducible apply only_ite
                 | with_reducible apply only_changeDev | simp only [↓only_mk] | with_reducible apply parts_of | split
                 | (dsimp only; split))

theorem only_advance {P : List Part} {s0 : State} {s : State} {ns : Nat} (hs : Only P s0 s) (hP : ∀ p ∈ ([.reg 0x4072, .clockNs,
    .potNs] : List Part), p ∈ P) :
    Only P s0 (State.advance s ns) := by
  unfold State.advance
  repeat' (first | with_reducible exact Or.inr rfl | with_reducible exact sub_of hP (by decide) | intro _ | with_reducible exact hs
                 | with_reducible assumption | with_reducible exact Or.inl (hP _ (by decide))
                 | with_reducible exact may_block (hP _ (by decide)) | with_reducible apply only_set | simp only [↓only_mk]
                 | with_reducible apply parts_of)

theorem only_setSrc {P : List Part} {s0 : State} {s : State} {src : Nat} (hs : Only P s0 s) (hP : ∀ p ∈ ([.reg 0x4002] : List Part), p
    ∈ P) :
    Only P s0 (State.setSrc s src) := by
  unfold State.setSrc
  repeat' (first | with_reducible exact Or.inr rfl | with_reducible exact sub_of hP (by decide) | intro _ | with_reducible exact hs
                 | with_reducible assumption | with_reducible exact Or.inl (hP _ (by decide))
                 | with_reducible exact may_block (hP _ (by decide)) | with_reducible apply only_ite | with_reducible apply only_set
                 | simp only [↓only_mk] | with_reducible apply parts_of | split | (dsimp only; split))

theorem only_slew {P : List Part} {s0 : State} {s : State} {e : Int} (hs : Only P s0 s) (hP : ∀ p ∈ ([.reg 0x4002, .tck, .host] : List
    Part), p ∈ P) :
    Only P s0 (State.slew s e) := by
  unfold State.slew
  repeat' (first | with_reducible exact Or.inr rfl | with_reducible exact sub_of hP (by decide) | intro _ | with_reducible exact hs
                 | with_reducible assumption | with_reducible exact Or.inl (hP _ (by decide))
                 | with_reducible exact may_block (hP _ (by decide)) | with_reducible apply only_ite
                 | with_reducible apply only_putHost | with_reducible apply only_set | with_reducible apply only_setSrc
                 | simp only [↓only_mk] | with_reducible apply parts_of | split | (dsimp only; split))

theorem only_sourceTick {P : List Part} {s0 : State} {s : State} {f : TickFacts} (hs : Only P s0 s) (hP : ∀ p ∈ ([.reg 0x4001, .reg
    0x4002, .tck, .host] : List Part), p ∈ P) :
    Only P s0 (State.sourceTick s f) := by
  unfold State.sourceTick
  repeat' (first | with_reducible exact Or.inr rfl | with_reducible exact sub_of hP (by decide) | with_reducible exact mayAll_nil
                 | with_reducible apply mayAll_cons | with_reducible exact mayPairs_nil | with_reducible apply mayPairs_cons | intro _
                 | with_reducible exact hs | with_reducible assumption | with_reducible exact Or.inl (hP _ (by decide))
                 | with_reducible exact may_block (hP _ (by decide)) | with_reducible apply only_ite | with_reducible apply only_set
                 | with_reducible apply only_setAll | with_reducible apply only_setSrc | with_reducible apply only_slew
                 | with_reducible apply only_fst ‹_ = (_, _)› | simp only [↓only_mk] | with_reducible apply parts_of | split
                 | (dsimp only; split))

theorem only_degradedTick {P : List Part} {s0 : State} {s : State} {ns : Nat} (hs : Only P s0 s) (hP : ∀ p ∈ ([.tck, .host] : List
    Part), p ∈ P) :
    Only P s0 (State.degradedTick s ns) := by
  unfold State.degradedTick
  repeat' (first | with_reducible exact Or.inr rfl | with_reducible exact sub_of hP (by decide) | intro _ | with_reducible exact hs
                 | with_reducible assumption | with_reducible exact Or.inl (hP _ (by decide))
                 | with_reducible exact may_block (hP _ (by decide)) | with_reducible apply only_ite
                 | with_reducible apply only_putHost | with_reducible apply only_raiseEvent | simp only [↓only_mk]
                 | with_reducible apply parts_of | split | (dsimp only; split))

theorem only_measCoil {P : List Part} {s0 : State} {s : State} {p v : Nat} (hs : Only P s0 s) (hP : ∀ p ∈ ([.reg 0x4021, .reg 0x4022,
    .reg 0x4023, .reg 0x4024] : List Part), p ∈ P) :
    Only P s0 (State.measCoil s p v) := by
  unfold State.measCoil
  repeat' (first | with_reducible exact sub_of hP (by decide) | intro _ | with_reducible exact hs | with_reducible assumption
                 | with_reducible exact may_block (hP _ (by decide)) | with_reducible apply only_ite | with_reducible apply only_setS
                 | (cases x <;> exact may_block (hP _ (by decide)))
                 | (generalize Act.num _ = y; cases y <;> exact may_block (hP _ (by decide))) | split | (dsimp only; split))

theorem only_latchPorts {P : List Part} {s0 : State} {s : State} {l : List (Nat × Nat)} (hs : Only P s0 s) (hP : ∀ p ∈ ([.reg 0x4021,
    .reg 0x4022, .reg 0x4023, .reg 0x4024, .eng] : List Part), p ∈ P) :
    Only P s0 (State.latchPorts s l) := by
  unfold State.latchPorts
  repeat' (first | with_reducible exact Or.inr rfl | with_reducible exact sub_of hP (by decide) | intro _ | with_reducible exact hs
                 | with_reducible assumption | with_reducible exact Or.inl (hP _ (by decide))
                 | with_reducible exact may_block (hP _ (by decide)) | with_reducible apply only_ite | with_reducible apply only_foldl
                 | with_reducible apply only_latch | with_reducible apply only_measCoil | simp only [↓only_mk]
                 | with_reducible apply parts_of | split | (dsimp only; split))

theorem only_chopTick {P : List Part} {s0 : State} {s : State} {uj ns : Nat} (hs : Only P s0 s) (hP : ∀ p ∈ ([.reg 0x4030, .pwr] :
    List Part), p ∈ P) :
    Only P s0 (State.chopTick s uj ns) := by
  unfold State.chopTick
  repeat' (first | with_reducible exact Or.inr rfl | with_reducible exact sub_of hP (by decide) | intro _ | with_reducible exact hs
                 | with_reducible assumption | with_reducible exact Or.inl (hP _ (by decide))
                 | with_reducible exact may_block (hP _ (by decide)) | with_reducible apply only_ite | with_reducible apply only_set
                 | simp only [↓only_mk] | with_reducible apply parts_of | split | (dsimp only; split))

theorem only_powerTick {P : List Part} {s0 : State} {s : State} {f : TickFacts} (hs : Only P s0 s) (hP : ∀ p ∈ ([.reg 0x4030, .eng,
    .pwr] : List Part), p ∈ P) :
    Only P s0 (State.powerTick s f) := by
  unfold State.powerTick
  repeat' (first | with_reducible exact sub_of hP (by decide) | with_reducible exact mayAll_nil | with_reducible apply mayAll_cons
                 | with_reducible exact mayPairs_nil | with_reducible apply mayPairs_cons | intro _ | with_reducible exact hs
                 | with_reducible assumption | with_reducible exact may_block (hP _ (by decide)) | with_reducible apply only_ite
                 | with_reducible apply only_foldl | with_reducible apply only_chopTick | with_reducible apply only_latch
                 | with_reducible apply only_set | with_reducible apply only_setAll | split | (dsimp only; split))

theorem only_sample {P : List Part} {s0 : State} {s : State} {n : Nat} {t : Int} (hs : Only P s0 s) (hP : ∀ p ∈ ([.regs, .eng, .heat]
    : List Part), p ∈ P) :
    Only P s0 (State.sample s n t) := by
  unfold State.sample
  repeat' (first | with_reducible exact Or.inr rfl | with_reducible exact sub_of hP (by decide) | intro _ | with_reducible exact hs
                 | with_reducible assumption | with_reducible exact Or.inl (hP _ (by decide))
                 | with_reducible exact may_block (hP _ (by decide)) | with_reducible exact may_any (hP _ (by decide))
                 | with_reducible apply only_ite | with_reducible apply only_latch | with_reducible apply only_set
                 | simp only [↓only_mk] | with_reducible apply parts_of | split | (dsimp only; split))

theorem only_sampleAll {P : List Part} {s0 : State} {s : State} {f : TickFacts} (hs : Only P s0 s) (hP : ∀ p ∈ ([.reg 0x4070, .regs,
    .eng, .heat] : List Part), p ∈ P) :
    Only P s0 (State.sampleAll s f) := by
  unfold State.sampleAll
  repeat' (first | with_reducible exact Or.inr rfl | with_reducible exact sub_of hP (by decide) | intro _ | with_reducible exact hs
                 | with_reducible assumption | with_reducible exact Or.inl (hP _ (by decide))
                 | with_reducible exact may_block (hP _ (by decide)) | with_reducible exact may_any (hP _ (by decide))
                 | with_reducible apply only_foldl | with_reducible apply only_latch | with_reducible apply only_sample
                 | with_reducible apply only_set | simp only [↓only_mk] | with_reducible apply parts_of)

theorem only_boardTick {P : List Part} {s0 : State} {s : State} (hs : Only P s0 s) (hP : ∀ p ∈ ([.heat] : List Part), p ∈ P) :
    Only P s0 (State.boardTick s) := by
  unfold State.boardTick
  repeat' (first | with_reducible exact Or.inr rfl | with_reducible exact sub_of hP (by decide) | intro _ | with_reducible exact hs
                 | with_reducible assumption | with_reducible exact Or.inl (hP _ (by decide))
                 | with_reducible exact may_block (hP _ (by decide)) | with_reducible apply only_ite | simp only [↓only_mk]
                 | with_reducible apply parts_of | split | (dsimp only; split))

theorem only_junctionTick {P : List Part} {s0 : State} {s : State} {f : TickFacts} (hs : Only P s0 s) (hP : ∀ p ∈ ([.reg 0x4070,
    .heat] : List Part), p ∈ P) :
    Only P s0 (State.junctionTick s f) := by
  unfold State.junctionTick
  repeat' (first | with_reducible exact Or.inr rfl | with_reducible exact sub_of hP (by decide) | intro _ | with_reducible exact hs
                 | with_reducible assumption | with_reducible exact Or.inl (hP _ (by decide))
                 | with_reducible exact may_block (hP _ (by decide)) | with_reducible apply only_ite | with_reducible apply only_set
                 | with_reducible apply only_setS | simp only [↓only_mk] | with_reducible apply parts_of | split
                 | (dsimp only; split))

theorem only_coolingTick {P : List Part} {s0 : State} {s : State} (hs : Only P s0 s) (hP : ∀ p ∈ ([.reg 0x4070] : List Part), p ∈ P) :
    Only P s0 (State.coolingTick s) := by
  unfold State.coolingTick
  repeat' (first | with_reducible exact Or.inr rfl | with_reducible exact sub_of hP (by decide) | intro _ | with_reducible exact hs
                 | with_reducible assumption | with_reducible exact Or.inl (hP _ (by decide))
                 | with_reducible exact may_block (hP _ (by decide)) | with_reducible apply only_setS | simp only [↓only_mk]
                 | with_reducible apply parts_of)

theorem only_levelTick {P : List Part} {s0 : State} {s : State} (hs : Only P s0 s) (hP : ∀ p ∈ ([.reg 0x4000, .reg 0x4020, .reg
    0x4070, .reg 0x4071, .reg 0x4072, .desk, .ldg, .out, .host, .heat, .pwr] : List Part), p ∈ P) :
    Only P s0 (State.levelTick s) := by
  unfold State.levelTick
  repeat' (first | with_reducible exact Or.inr rfl | with_reducible exact sub_of hP (by decide) | intro _ | with_reducible exact hs
                 | with_reducible assumption | with_reducible exact Or.inl (hP _ (by decide))
                 | with_reducible exact may_block (hP _ (by decide)) | with_reducible apply only_ite | with_reducible apply only_event
                 | with_reducible apply only_ledgerHeat | with_reducible apply only_set | simp only [↓only_mk]
                 | with_reducible apply parts_of | split | (dsimp only; split))

theorem only_heatTimes {P : List Part} {s0 : State} {s : State} {ns : Nat} (hs : Only P s0 s) (hP : ∀ p ∈ ([.heat] : List Part), p ∈
    P) :
    Only P s0 (State.heatTimes s ns) := by
  unfold State.heatTimes
  repeat' (first | with_reducible exact Or.inr rfl | with_reducible exact sub_of hP (by decide) | intro _ | with_reducible exact hs
                 | with_reducible assumption | with_reducible exact Or.inl (hP _ (by decide))
                 | with_reducible exact may_block (hP _ (by decide)) | with_reducible apply only_ite | simp only [↓only_mk]
                 | with_reducible apply parts_of | split | (dsimp only; split))

theorem only_latchActivity {P : List Part} {s0 : State} {s : State} {a : Nat} {counts : List Nat} (hs : Only P s0 s) (hP : ∀ p ∈
    ([.eng] : List Part), p ∈ P) :
    Only P s0 (State.latchActivity s a counts) := by
  unfold State.latchActivity
  repeat' (first | with_reducible exact Or.inr rfl | with_reducible exact sub_of hP (by decide) | intro _ | with_reducible exact hs
                 | with_reducible assumption | with_reducible exact Or.inl (hP _ (by decide))
                 | with_reducible exact may_block (hP _ (by decide)) | with_reducible apply only_ite | with_reducible apply only_foldl
                 | with_reducible apply only_latch | simp only [↓only_mk] | with_reducible apply parts_of | split
                 | (dsimp only; split))

theorem only_heatPorts {P : List Part} {s0 : State} {s : State} (hs : Only P s0 s) (hP : ∀ p ∈ ([.eng] : List Part), p ∈ P) :
    Only P s0 (State.heatPorts s) := by
  unfold State.heatPorts
  repeat' (first | with_reducible exact Or.inr rfl | with_reducible exact sub_of hP (by decide) | intro _ | with_reducible exact hs
                 | with_reducible assumption | with_reducible exact Or.inl (hP _ (by decide))
                 | with_reducible exact may_block (hP _ (by decide)) | with_reducible apply only_putPortOut | simp only [↓only_mk]
                 | with_reducible apply parts_of)

theorem only_heatTick {P : List Part} {s0 : State} {s : State} {f : TickFacts} (hs : Only P s0 s) (hP : ∀ p ∈ ([.reg 0x4000, .reg
    0x4020, .reg 0x4070, .reg 0x4071, .reg 0x4072, .regs, .desk, .ldg, .out, .eng, .host, .heat, .pwr] : List Part), p ∈ P) :
    Only P s0 (State.heatTick s f) := by
  unfold State.heatTick
  repeat' (first | with_reducible exact sub_of hP (by decide) | intro _ | with_reducible exact hs | with_reducible assumption
                 | with_reducible exact may_block (hP _ (by decide)) | with_reducible exact may_any (hP _ (by decide))
                 | with_reducible apply only_ite | with_reducible apply only_boardTick | with_reducible apply only_coolingTick
                 | with_reducible apply only_heatPorts | with_reducible apply only_heatTimes | with_reducible apply only_junctionTick
                 | with_reducible apply only_latchActivity | with_reducible apply only_levelTick | with_reducible apply only_sampleAll
                 | split | (dsimp only; split))

theorem only_clearTrial {P : List Part} {s0 : State} {s : State} (hs : Only P s0 s) (hP : ∀ p ∈ ([.psp] : List Part), p ∈ P) :
    Only P s0 (State.clearTrial s) := by
  unfold State.clearTrial
  repeat' (first | with_reducible exact Or.inr rfl | with_reducible exact sub_of hP (by decide) | intro _ | with_reducible exact hs
                 | with_reducible assumption | with_reducible exact Or.inl (hP _ (by decide))
                 | with_reducible exact may_block (hP _ (by decide)) | with_reducible apply only_ite
                 | with_reducible apply only_saveDev | simp only [↓only_mk] | with_reducible apply parts_of | split
                 | (dsimp only; split))

theorem only_readyTick {P : List Part} {s0 : State} {s : State} (hs : Only P s0 s) (hP : ∀ p ∈ ([.psp, .host] : List Part), p ∈ P) :
    Only P s0 (State.readyTick s) := by
  unfold State.readyTick
  repeat' (first | with_reducible exact Or.inr rfl | with_reducible exact sub_of hP (by decide) | intro _ | with_reducible exact hs
                 | with_reducible assumption | with_reducible exact Or.inl (hP _ (by decide))
                 | with_reducible exact may_block (hP _ (by decide)) | with_reducible apply only_ite
                 | with_reducible apply only_clearTrial | with_reducible apply only_putHost | simp only [↓only_mk]
                 | with_reducible apply parts_of | split | (dsimp only; split))

theorem only_slowTick {P : List Part} {s0 : State} {s : State} (hs : Only P s0 s) (hP : ∀ p ∈ ([.reg 0x4000, .reg 0x4002, .reg 0x4010,
    .reg 0x4011, .reg 0x4012, .reg 0x4013, .reg 0x4028, .regs, .eng, .pmk, .spn, .host] : List Part), p ∈ P) :
    Only P s0 (State.slowTick s) := by
  unfold State.slowTick
  repeat' (first | with_reducible exact Or.inr rfl | with_reducible exact sub_of hP (by decide) | intro _ | with_reducible exact hs
                 | with_reducible assumption | with_reducible exact Or.inl (hP _ (by decide))
                 | with_reducible exact may_block (hP _ (by decide)) | with_reducible exact may_any (hP _ (by decide))
                 | with_reducible apply only_ite | with_reducible apply only_applySet | with_reducible apply only_putHost
                 | simp only [↓only_mk] | with_reducible apply parts_of | split | (dsimp only; split))

theorem only_postTick {P : List Part} {s0 : State} {s : State} (hs : Only P s0 s) (hP : ∀ p ∈ ([.reg 0x4000, .reg 0x4002, .reg 0x4010,
    .reg 0x4011, .reg 0x4012, .reg 0x4013, .reg 0x4028, .regs, .env, .eng, .pmk, .spn, .office] : List Part), p ∈ P) :
    Only P s0 (State.postTick s) := by
  unfold State.postTick
  repeat' (first | with_reducible exact Or.inr rfl | with_reducible exact sub_of hP (by decide) | intro _ | with_reducible exact hs
                 | with_reducible assumption | with_reducible exact Or.inl (hP _ (by decide))
                 | with_reducible exact may_block (hP _ (by decide)) | with_reducible exact may_any (hP _ (by decide))
                 | with_reducible apply only_ite | with_reducible apply only_putOffice | with_reducible apply only_sealTick
                 | simp only [↓only_mk] | with_reducible apply parts_of | split | (dsimp only; split))

theorem only_unitsTick {P : List Part} {s0 : State} {s : State} {f : TickFacts} (hs : Only P s0 s) (hP : ∀ p ∈ ([.reg 0x4000, .reg
    0x4001, .reg 0x4002, .reg 0x4010, .reg 0x4011, .reg 0x4012, .reg 0x4013, .reg 0x4014, .reg 0x4020, .reg 0x4021, .reg 0x4022, .reg
    0x4023, .reg 0x4024, .reg 0x4028, .reg 0x4030, .reg 0x4031, .reg 0x4040, .reg 0x4061, .reg 0x4063, .reg 0x4071, .reg 0x4072,
    .regs, .tick, .cells, .psp, .env, .desk, .ldg, .out, .eng, .loops, .pmk, .tck, .spn, .motor, .books, .lanes, .krx, .bags, .mem,
    .office, .cons, .host, .pwr] : List Part), p ∈ P) :
    Only P s0 (State.unitsTick s f) := by
  unfold State.unitsTick
  repeat' (first | with_reducible exact Or.inr rfl | with_reducible exact sub_of hP (by decide) | intro _ | with_reducible exact hs
                 | with_reducible assumption | with_reducible exact Or.inl (hP _ (by decide))
                 | with_reducible exact may_block (hP _ (by decide)) | with_reducible exact may_any (hP _ (by decide))
                 | with_reducible apply only_foldl | with_reducible apply only_ageZoneSets | with_reducible apply only_aspTick
                 | with_reducible apply only_degradedTick | with_reducible apply only_engineTick
                 | with_reducible apply only_latchPorts | with_reducible apply only_loopTick | with_reducible apply only_pmkTick
                 | with_reducible apply only_postTick | with_reducible apply only_powerTick | with_reducible apply only_readyTick
                 | with_reducible apply only_settlePower | with_reducible apply only_slowTick | with_reducible apply only_sourceTick
                 | with_reducible apply only_spindleTick | with_reducible apply only_takeUp | with_reducible apply only_wedgePass
                 | simp only [↓only_mk] | with_reducible apply parts_of)

theorem only_writeFld {P : List Part} {s0 : State} {s : State} {f : Fld} {v : Nat} (hs : Only P s0 s) (hw : mayWrite P f) (hP : ∀ p ∈
    ([.regs] : List Part), p ∈ P) :
    Only P s0 (State.writeFld s f v) := by
  unfold State.writeFld
  repeat' (first | with_reducible exact Or.inr rfl | with_reducible exact sub_of hP (by decide) | intro _ | with_reducible exact hs
                 | with_reducible assumption | with_reducible exact Or.inl (hP _ (by decide))
                 | with_reducible exact may_block (hP _ (by decide)) | with_reducible exact may_any (hP _ (by decide))
                 | with_reducible apply only_ite | with_reducible apply only_set | with_reducible apply only_fst ‹_ = (_, _)›
                 | simp only [↓only_mk] | with_reducible apply parts_of | (cases x <;> exact may_block (hP _ (by decide))) | split
                 | (dsimp only; split))

theorem only_dataWord {P : List Part} {s0 : State} {s : State} {i : Initiator} {a v : Nat} (hs : Only P s0 s) (hP : ∀ p ∈ ([.regs] :
    List Part), p ∈ P) :
    Only P s0 (State.dataWord s i a v) := by
  unfold State.dataWord
  repeat' (first | with_reducible exact Or.inr rfl | with_reducible exact sub_of hP (by decide) | intro _ | with_reducible exact hs
                 | with_reducible assumption | with_reducible exact Or.inl (hP _ (by decide))
                 | with_reducible exact may_block (hP _ (by decide)) | with_reducible exact may_any (hP _ (by decide))
                 | with_reducible apply only_ite | with_reducible apply only_set | simp only [↓only_mk]
                 | with_reducible apply parts_of | split | (dsimp only; split))

theorem only_spnEnable {P : List Part} {s0 : State} {s : State} (hs : Only P s0 s) (hP : ∀ p ∈ ([.reg 0x4020, .reg 0x4028, .eng, .pmk,
    .spn, .motor] : List Part), p ∈ P) :
    Only P s0 (State.spnEnable s) := by
  unfold State.spnEnable
  repeat' (first | with_reducible exact Or.inr rfl | with_reducible exact sub_of hP (by decide) | intro _ | with_reducible exact hs
                 | with_reducible assumption | with_reducible exact Or.inl (hP _ (by decide))
                 | with_reducible exact may_block (hP _ (by decide)) | with_reducible apply only_ite | with_reducible apply only_coast
                 | with_reducible apply only_notAtSpeed | with_reducible apply only_putSpn | with_reducible apply only_setSp
                 | simp only [↓only_mk] | with_reducible apply parts_of | split | (dsimp only; split))

theorem only_armEnable {P : List Part} {s0 : State} {s : State} {x : Act} (hs : Only P s0 s) (hP : ∀ p ∈ ([.reg 0x4021, .reg 0x4022,
    .reg 0x4023, .reg 0x4024] : List Part), p ∈ P) :
    Only P s0 (State.armEnable s x) := by
  unfold State.armEnable
  repeat' (first | with_reducible exact sub_of hP (by decide) | intro _ | with_reducible exact hs | with_reducible assumption
                 | with_reducible exact may_block (hP _ (by decide)) | with_reducible apply only_ite | with_reducible apply only_set
                 | (cases x <;> exact may_block (hP _ (by decide))) | split | (dsimp only; split))

theorem only_setLate {P : List Part} {s0 : State} {s : State} {k : Nat} {isLate : Bool} (hs : Only P s0 s) (hP : ∀ p ∈ ([.eng] : List
    Part), p ∈ P) :
    Only P s0 (State.setLate s k isLate) := by
  unfold State.setLate
  repeat' (first | with_reducible exact Or.inr rfl | with_reducible exact sub_of hP (by decide) | intro _ | with_reducible exact hs
                 | with_reducible assumption | with_reducible exact Or.inl (hP _ (by decide))
                 | with_reducible exact may_block (hP _ (by decide)) | with_reducible apply only_ite | simp only [↓only_mk]
                 | with_reducible apply parts_of | split | (dsimp only; split))

theorem only_armChannel {P : List Part} {s0 : State} {s : State} {a v : Nat} (hs : Only P s0 s) (hP : ∀ p ∈ ([.regs, .eng] : List
    Part), p ∈ P) :
    Only P s0 (State.armChannel s a v) := by
  unfold State.armChannel
  repeat' (first | with_reducible exact Or.inr rfl | with_reducible exact sub_of hP (by decide) | intro _ | with_reducible exact hs
                 | with_reducible assumption | with_reducible exact Or.inl (hP _ (by decide))
                 | with_reducible exact may_block (hP _ (by decide)) | with_reducible exact may_any (hP _ (by decide))
                 | with_reducible apply only_ite | with_reducible apply only_set | with_reducible apply only_setLate
                 | simp only [↓only_mk] | with_reducible apply parts_of | split | (dsimp only; split))

theorem only_afterWrite {P : List Part} {s0 : State} {s : State} {a v : Nat} (hs : Only P s0 s) (hP : ∀ p ∈ ([.reg 0x4000, .reg
    0x4001, .reg 0x4002, .reg 0x4010, .reg 0x4011, .reg 0x4012, .reg 0x4013, .reg 0x4020, .reg 0x4021, .reg 0x4022, .reg 0x4023, .reg
    0x4024, .reg 0x4028, .reg 0x4031, .reg 0x4040, .reg 0x4041, .reg 0x4063, .reg 0x4064, .reg 0x4071, .reg 0x4072, .regs, .cells,
    .desk, .ldg, .out, .eng, .pmk, .tck, .spn, .motor, .books, .mem, .host, .pwr] : List Part), p ∈ P) :
    Only P s0 (State.afterWrite s a v) := by
  unfold State.afterWrite
  repeat' (first | with_reducible exact Or.inr rfl | with_reducible exact sub_of hP (by decide) | intro _ | with_reducible exact hs
                 | with_reducible assumption | with_reducible exact Or.inl (hP _ (by decide))
                 | with_reducible exact may_block (hP _ (by decide)) | with_reducible exact may_any (hP _ (by decide))
                 | with_reducible apply only_ite | with_reducible apply only_abortOn | with_reducible apply only_armChannel
                 | with_reducible apply only_armEnable | with_reducible apply only_cnsRefresh | with_reducible apply only_dmaRefresh
                 | with_reducible apply only_laneRest | with_reducible apply only_ldgDrain | with_reducible apply only_nfcRefresh
                 | with_reducible apply only_pmkCtrlWritten | with_reducible apply only_sofRefresh
                 | with_reducible apply only_spnEnable | with_reducible apply only_fst ‹_ = (_, _)› | simp only [↓only_mk]
                 | with_reducible apply parts_of | split | (dsimp only; split))

theorem only_portEnable {P : List Part} {s0 : State} {s : State} {a was : Nat} (hs : Only P s0 s) (hP : ∀ p ∈ ([.reg 0x4000, .reg
    0x4020, .reg 0x4050, .reg 0x4051, .reg 0x4052, .reg 0x4053, .reg 0x4060, .reg 0x4071, .reg 0x4072, .regs, .env, .desk, .ldg, .out,
    .bags, .host, .pwr] : List Part), p ∈ P) :
    Only P s0 (State.portEnable s a was) := by
  unfold State.portEnable
  repeat' (first | with_reducible exact sub_of hP (by decide) | intro _ | with_reducible exact hs | with_reducible assumption
                 | with_reducible exact may_block (hP _ (by decide)) | with_reducible exact may_any (hP _ (by decide))
                 | with_reducible apply only_ite | with_reducible apply only_linkReset
                 | (cases p <;> exact may_block (hP _ (by decide))) | split | (dsimp only; split))

theorem only_liveWrite {P : List Part} {s0 : State} {s : State} {i : Initiator} {a v : Nat} (hs : Only P s0 s) (hP : ∀ p ∈ ([.reg
    0x4000, .reg 0x4001, .reg 0x4002, .reg 0x4010, .reg 0x4011, .reg 0x4012, .reg 0x4013, .reg 0x4020, .reg 0x4021, .reg 0x4022, .reg
    0x4023, .reg 0x4024, .reg 0x4028, .reg 0x4031, .reg 0x4040, .reg 0x4041, .reg 0x4050, .reg 0x4051, .reg 0x4052, .reg 0x4053, .reg
    0x4060, .reg 0x4063, .reg 0x4064, .reg 0x4071, .reg 0x4072, .regs, .bus, .cells, .env, .desk, .ldg, .out, .eng, .pmk, .tck, .spn,
    .motor, .books, .bags, .mem, .host, .pwr] : List Part), p ∈ P) :
    Only P s0 (State.liveWrite s i a v) := by
  unfold State.liveWrite
  repeat' (first | with_reducible exact Or.inr rfl | with_reducible exact sub_of hP (by decide) | intro _ | with_reducible exact hs
                 | with_reducible assumption | with_reducible exact Or.inl (hP _ (by decide))
                 | with_reducible exact may_block (hP _ (by decide)) | with_reducible exact may_any (hP _ (by decide))
                 | with_reducible apply only_ite | with_reducible apply only_foldl | with_reducible apply only_afterWrite
                 | with_reducible apply only_dataWord | with_reducible apply only_ignored | with_reducible apply only_portEnable
                 | with_reducible apply only_set | with_reducible apply only_writeFld | simp only [↓only_mk]
                 | with_reducible apply parts_of | split | (dsimp only; split))

theorem only_readWord {P : List Part} {s0 : State} {s : State} {a : Nat} (hs : Only P s0 s) (hP : ∀ p ∈ ([.bus] : List Part), p ∈ P) :
    Only P s0 (State.readWord s a) := by
  unfold State.readWord
  repeat' (first | with_reducible exact Or.inr rfl | with_reducible exact sub_of hP (by decide) | intro _ | with_reducible exact hs
                 | with_reducible assumption | with_reducible exact Or.inl (hP _ (by decide))
                 | with_reducible exact may_block (hP _ (by decide)) | with_reducible apply only_ite | simp only [↓only_mk]
                 | with_reducible apply parts_of | split | (dsimp only; split))

theorem only_servoCommand {P : List Part} {s0 : State} {s : State} {x : Act} {e : Int} (hs : Only P s0 s) (hP : ∀ p ∈ ([.regs, .eng,
    .loops] : List Part), p ∈ P) :
    Only P s0 (State.servoCommand s x e) := by
  unfold State.servoCommand
  repeat' (first | with_reducible exact Or.inr rfl | with_reducible exact sub_of hP (by decide) | intro _ | with_reducible exact hs
                 | with_reducible assumption | with_reducible exact Or.inl (hP _ (by decide))
                 | with_reducible exact may_block (hP _ (by decide)) | with_reducible exact may_any (hP _ (by decide))
                 | with_reducible apply only_ite | with_reducible apply only_armWrite | with_reducible apply only_set
                 | with_reducible apply only_fst ‹_ = (_, _)› | simp only [↓only_mk] | with_reducible apply parts_of | split
                 | (dsimp only; split))

theorem only_microCommand {P : List Part} {s0 : State} {s : State} {x : Act} {e : Int} (hs : Only P s0 s) (hP : ∀ p ∈ ([.eng, .loops]
    : List Part), p ∈ P) :
    Only P s0 (State.microCommand s x e) := by
  unfold State.microCommand
  repeat' (first | with_reducible exact Or.inr rfl | with_reducible exact sub_of hP (by decide) | intro _ | with_reducible exact hs
                 | with_reducible assumption | with_reducible exact Or.inl (hP _ (by decide))
                 | with_reducible exact may_block (hP _ (by decide)) | with_reducible apply only_ite
                 | with_reducible apply only_armWrite | with_reducible apply only_putLp | simp only [↓only_mk]
                 | with_reducible apply parts_of | split | (dsimp only; split))

theorem only_rampStep {P : List Part} {s0 : State} {s : State} {x : Act} {near : Bool} (hs : Only P s0 s) (hP : ∀ p ∈ ([.reg 0x4021,
    .reg 0x4022, .reg 0x4023, .reg 0x4024, .eng, .loops] : List Part), p ∈ P) :
    Only P s0 (State.rampStep s x near) := by
  unfold State.rampStep
  repeat' (first | with_reducible exact sub_of hP (by decide) | intro _ | with_reducible exact hs | with_reducible assumption
                 | with_reducible exact may_block (hP _ (by decide)) | with_reducible apply only_ite
                 | with_reducible apply only_climbRamp | with_reducible apply only_set | with_reducible apply only_setRamp
                 | (cases x <;> exact may_block (hP _ (by decide))) | split | (dsimp only; split))

theorem only_deliverPes {P : List Part} {s0 : State} {s : State} {x : Act} {track frac : Nat} {gray burst : Bool} (hs : Only P s0 s)
    (hP : ∀ p ∈ ([.reg 0x4010, .reg 0x4011, .reg 0x4012, .reg 0x4013, .reg 0x4014, .reg 0x4021, .reg 0x4022, .reg 0x4023, .reg 0x4024,
    .regs, .eng, .loops, .lanes] : List Part), p ∈ P) :
    Only P s0 (State.deliverPes s x track frac gray burst) := by
  unfold State.deliverPes
  repeat' (first | with_reducible exact Or.inr rfl | with_reducible exact sub_of hP (by decide) | intro _ | with_reducible exact hs
                 | with_reducible assumption | with_reducible exact Or.inl (hP _ (by decide))
                 | with_reducible exact may_block (hP _ (by decide)) | with_reducible exact may_any (hP _ (by decide))
                 | with_reducible apply only_ite | with_reducible apply only_latch | with_reducible apply only_microCommand
                 | with_reducible apply only_putLp | with_reducible apply only_rampStep | with_reducible apply only_ready
                 | with_reducible apply only_servoCommand | with_reducible apply only_set | with_reducible apply only_setInhibit
                 | with_reducible apply only_wedgeDone | simp only [↓only_mk] | with_reducible apply parts_of | split
                 | (dsimp only; split))

end Sys2Proof.Machine
end

