-- ==== Sys2Proof/Laws/State.lean ====
section
/-!
SUPPORT. The fields of the state after each elementary update: one lemma for each field.
-/
namespace Sys2Proof.Machine

@[simp] theorem State.set_variant (s : State) (f : Fld) (v : Nat) : (s.set f v).variant = s.variant := rfl
@[simp] theorem State.set_clockNs (s : State) (f : Fld) (v : Nat) : (s.set f v).clockNs = s.clockNs := rfl
@[simp] theorem State.set_potNs (s : State) (f : Fld) (v : Nat) : (s.set f v).potNs = s.potNs := rfl
@[simp] theorem State.set_bus (s : State) (f : Fld) (v : Nat) : (s.set f v).bus = s.bus := rfl
@[simp] theorem State.set_straps (s : State) (f : Fld) (v : Nat) : (s.set f v).straps = s.straps := rfl
@[simp] theorem State.set_tick (s : State) (f : Fld) (v : Nat) : (s.set f v).tick = s.tick := rfl
@[simp] theorem State.set_cells (s : State) (f : Fld) (v : Nat) : (s.set f v).cells = s.cells := rfl
@[simp] theorem State.set_nand (s : State) (f : Fld) (v : Nat) : (s.set f v).nand = s.nand := rfl
@[simp] theorem State.set_psp (s : State) (f : Fld) (v : Nat) : (s.set f v).psp = s.psp := rfl
@[simp] theorem State.set_env (s : State) (f : Fld) (v : Nat) : (s.set f v).env = s.env := rfl
@[simp] theorem State.set_bootKeys (s : State) (f : Fld) (v : Nat) : (s.set f v).bootKeys = s.bootKeys := rfl
@[simp] theorem State.set_desk (s : State) (f : Fld) (v : Nat) : (s.set f v).desk = s.desk := rfl
@[simp] theorem State.set_ldg (s : State) (f : Fld) (v : Nat) : (s.set f v).ldg = s.ldg := rfl
@[simp] theorem State.set_out (s : State) (f : Fld) (v : Nat) : (s.set f v).out = s.out := rfl
@[simp] theorem State.set_pending (s : State) (f : Fld) (v : Nat) : (s.set f v).pending = s.pending := rfl
@[simp] theorem State.set_eng (s : State) (f : Fld) (v : Nat) : (s.set f v).eng = s.eng := rfl
@[simp] theorem State.set_loops (s : State) (f : Fld) (v : Nat) : (s.set f v).loops = s.loops := rfl
@[simp] theorem State.set_pmk (s : State) (f : Fld) (v : Nat) : (s.set f v).pmk = s.pmk := rfl
@[simp] theorem State.set_tck (s : State) (f : Fld) (v : Nat) : (s.set f v).tck = s.tck := rfl
@[simp] theorem State.set_spn (s : State) (f : Fld) (v : Nat) : (s.set f v).spn = s.spn := rfl
@[simp] theorem State.set_motor (s : State) (f : Fld) (v : Nat) : (s.set f v).motor = s.motor := rfl
@[simp] theorem State.set_cal (s : State) (f : Fld) (v : Nat) : (s.set f v).cal = s.cal := rfl
@[simp] theorem State.set_books (s : State) (f : Fld) (v : Nat) : (s.set f v).books = s.books := rfl
@[simp] theorem State.set_lanes (s : State) (f : Fld) (v : Nat) : (s.set f v).lanes = s.lanes := rfl
@[simp] theorem State.set_dec (s : State) (f : Fld) (v : Nat) : (s.set f v).dec = s.dec := rfl
@[simp] theorem State.set_rcv (s : State) (f : Fld) (v : Nat) : (s.set f v).rcv = s.rcv := rfl
@[simp] theorem State.set_krx (s : State) (f : Fld) (v : Nat) : (s.set f v).krx = s.krx := rfl
@[simp] theorem State.set_bags (s : State) (f : Fld) (v : Nat) : (s.set f v).bags = s.bags := rfl
@[simp] theorem State.set_mem (s : State) (f : Fld) (v : Nat) : (s.set f v).mem = s.mem := rfl
@[simp] theorem State.set_office (s : State) (f : Fld) (v : Nat) : (s.set f v).office = s.office := rfl
@[simp] theorem State.set_cons (s : State) (f : Fld) (v : Nat) : (s.set f v).cons = s.cons := rfl
@[simp] theorem State.set_host (s : State) (f : Fld) (v : Nat) : (s.set f v).host = s.host := rfl
@[simp] theorem State.set_pre (s : State) (f : Fld) (v : Nat) : (s.set f v).pre = s.pre := rfl
@[simp] theorem State.set_heat (s : State) (f : Fld) (v : Nat) : (s.set f v).heat = s.heat := rfl
@[simp] theorem State.set_pwr (s : State) (f : Fld) (v : Nat) : (s.set f v).pwr = s.pwr := rfl

@[simp] theorem State.emit_variant (s : State) (o : Out) : (s.emit o).variant = s.variant := rfl
@[simp] theorem State.emit_regs (s : State) (o : Out) : (s.emit o).regs = s.regs := rfl
@[simp] theorem State.emit_clockNs (s : State) (o : Out) : (s.emit o).clockNs = s.clockNs := rfl
@[simp] theorem State.emit_potNs (s : State) (o : Out) : (s.emit o).potNs = s.potNs := rfl
@[simp] theorem State.emit_bus (s : State) (o : Out) : (s.emit o).bus = s.bus := rfl
@[simp] theorem State.emit_straps (s : State) (o : Out) : (s.emit o).straps = s.straps := rfl
@[simp] theorem State.emit_tick (s : State) (o : Out) : (s.emit o).tick = s.tick := rfl
@[simp] theorem State.emit_cells (s : State) (o : Out) : (s.emit o).cells = s.cells := rfl
@[simp] theorem State.emit_nand (s : State) (o : Out) : (s.emit o).nand = s.nand := rfl
@[simp] theorem State.emit_psp (s : State) (o : Out) : (s.emit o).psp = s.psp := rfl
@[simp] theorem State.emit_env (s : State) (o : Out) : (s.emit o).env = s.env := rfl
@[simp] theorem State.emit_bootKeys (s : State) (o : Out) : (s.emit o).bootKeys = s.bootKeys := rfl
@[simp] theorem State.emit_desk (s : State) (o : Out) : (s.emit o).desk = s.desk := rfl
@[simp] theorem State.emit_ldg (s : State) (o : Out) : (s.emit o).ldg = s.ldg := rfl
@[simp] theorem State.emit_out (s : State) (o : Out) : (s.emit o).out = s.out ++ [o] := rfl
@[simp] theorem State.emit_pending (s : State) (o : Out) : (s.emit o).pending = s.pending := rfl
@[simp] theorem State.emit_eng (s : State) (o : Out) : (s.emit o).eng = s.eng := rfl
@[simp] theorem State.emit_loops (s : State) (o : Out) : (s.emit o).loops = s.loops := rfl
@[simp] theorem State.emit_pmk (s : State) (o : Out) : (s.emit o).pmk = s.pmk := rfl
@[simp] theorem State.emit_tck (s : State) (o : Out) : (s.emit o).tck = s.tck := rfl
@[simp] theorem State.emit_spn (s : State) (o : Out) : (s.emit o).spn = s.spn := rfl
@[simp] theorem State.emit_motor (s : State) (o : Out) : (s.emit o).motor = s.motor := rfl
@[simp] theorem State.emit_cal (s : State) (o : Out) : (s.emit o).cal = s.cal := rfl
@[simp] theorem State.emit_books (s : State) (o : Out) : (s.emit o).books = s.books := rfl
@[simp] theorem State.emit_lanes (s : State) (o : Out) : (s.emit o).lanes = s.lanes := rfl
@[simp] theorem State.emit_dec (s : State) (o : Out) : (s.emit o).dec = s.dec := rfl
@[simp] theorem State.emit_rcv (s : State) (o : Out) : (s.emit o).rcv = s.rcv := rfl
@[simp] theorem State.emit_krx (s : State) (o : Out) : (s.emit o).krx = s.krx := rfl
@[simp] theorem State.emit_bags (s : State) (o : Out) : (s.emit o).bags = s.bags := rfl
@[simp] theorem State.emit_mem (s : State) (o : Out) : (s.emit o).mem = s.mem := rfl
@[simp] theorem State.emit_office (s : State) (o : Out) : (s.emit o).office = s.office := rfl
@[simp] theorem State.emit_cons (s : State) (o : Out) : (s.emit o).cons = s.cons := rfl
@[simp] theorem State.emit_host (s : State) (o : Out) : (s.emit o).host = s.host := rfl
@[simp] theorem State.emit_pre (s : State) (o : Out) : (s.emit o).pre = s.pre := rfl
@[simp] theorem State.emit_heat (s : State) (o : Out) : (s.emit o).heat = s.heat := rfl
@[simp] theorem State.emit_pwr (s : State) (o : Out) : (s.emit o).pwr = s.pwr := rfl

@[simp] theorem State.withQueue_variant (s : State) (l : List Instr) : (s.withQueue l).variant = s.variant := rfl
@[simp] theorem State.withQueue_regs (s : State) (l : List Instr) : (s.withQueue l).regs = s.regs := rfl
@[simp] theorem State.withQueue_clockNs (s : State) (l : List Instr) : (s.withQueue l).clockNs = s.clockNs := rfl
@[simp] theorem State.withQueue_potNs (s : State) (l : List Instr) : (s.withQueue l).potNs = s.potNs := rfl
@[simp] theorem State.withQueue_bus (s : State) (l : List Instr) : (s.withQueue l).bus = s.bus := rfl
@[simp] theorem State.withQueue_straps (s : State) (l : List Instr) : (s.withQueue l).straps = s.straps := rfl
@[simp] theorem State.withQueue_tick (s : State) (l : List Instr) : (s.withQueue l).tick = s.tick := rfl
@[simp] theorem State.withQueue_cells (s : State) (l : List Instr) : (s.withQueue l).cells = s.cells := rfl
@[simp] theorem State.withQueue_nand (s : State) (l : List Instr) : (s.withQueue l).nand = s.nand := rfl
@[simp] theorem State.withQueue_psp (s : State) (l : List Instr) : (s.withQueue l).psp = s.psp := rfl
@[simp] theorem State.withQueue_env (s : State) (l : List Instr) : (s.withQueue l).env = s.env := rfl
@[simp] theorem State.withQueue_bootKeys (s : State) (l : List Instr) : (s.withQueue l).bootKeys = s.bootKeys := rfl
@[simp] theorem State.withQueue_desk (s : State) (l : List Instr) : (s.withQueue l).desk = s.desk := rfl
@[simp] theorem State.withQueue_ldg (s : State) (l : List Instr) : (s.withQueue l).ldg = s.ldg := rfl
@[simp] theorem State.withQueue_out (s : State) (l : List Instr) : (s.withQueue l).out = s.out := rfl
@[simp] theorem State.withQueue_pending (s : State) (l : List Instr) : (s.withQueue l).pending = l := rfl
@[simp] theorem State.withQueue_eng (s : State) (l : List Instr) : (s.withQueue l).eng = s.eng := rfl
@[simp] theorem State.withQueue_loops (s : State) (l : List Instr) : (s.withQueue l).loops = s.loops := rfl
@[simp] theorem State.withQueue_pmk (s : State) (l : List Instr) : (s.withQueue l).pmk = s.pmk := rfl
@[simp] theorem State.withQueue_tck (s : State) (l : List Instr) : (s.withQueue l).tck = s.tck := rfl
@[simp] theorem State.withQueue_spn (s : State) (l : List Instr) : (s.withQueue l).spn = s.spn := rfl
@[simp] theorem State.withQueue_motor (s : State) (l : List Instr) : (s.withQueue l).motor = s.motor := rfl
@[simp] theorem State.withQueue_cal (s : State) (l : List Instr) : (s.withQueue l).cal = s.cal := rfl
@[simp] theorem State.withQueue_books (s : State) (l : List Instr) : (s.withQueue l).books = s.books := rfl
@[simp] theorem State.withQueue_lanes (s : State) (l : List Instr) : (s.withQueue l).lanes = s.lanes := rfl
@[simp] theorem State.withQueue_dec (s : State) (l : List Instr) : (s.withQueue l).dec = s.dec := rfl
@[simp] theorem State.withQueue_rcv (s : State) (l : List Instr) : (s.withQueue l).rcv = s.rcv := rfl
@[simp] theorem State.withQueue_krx (s : State) (l : List Instr) : (s.withQueue l).krx = s.krx := rfl
@[simp] theorem State.withQueue_bags (s : State) (l : List Instr) : (s.withQueue l).bags = s.bags := rfl
@[simp] theorem State.withQueue_mem (s : State) (l : List Instr) : (s.withQueue l).mem = s.mem := rfl
@[simp] theorem State.withQueue_office (s : State) (l : List Instr) : (s.withQueue l).office = s.office := rfl
@[simp] theorem State.withQueue_cons (s : State) (l : List Instr) : (s.withQueue l).cons = s.cons := rfl
@[simp] theorem State.withQueue_host (s : State) (l : List Instr) : (s.withQueue l).host = s.host := rfl
@[simp] theorem State.withQueue_pre (s : State) (l : List Instr) : (s.withQueue l).pre = s.pre := rfl
@[simp] theorem State.withQueue_heat (s : State) (l : List Instr) : (s.withQueue l).heat = s.heat := rfl
@[simp] theorem State.withQueue_pwr (s : State) (l : List Instr) : (s.withQueue l).pwr = s.pwr := rfl

@[simp] theorem State.putHost_variant (s : State) (h : HostSide) : (s.putHost h).variant = s.variant := rfl
@[simp] theorem State.putHost_regs (s : State) (h : HostSide) : (s.putHost h).regs = s.regs := rfl
@[simp] theorem State.putHost_clockNs (s : State) (h : HostSide) : (s.putHost h).clockNs = s.clockNs := rfl
@[simp] theorem State.putHost_potNs (s : State) (h : HostSide) : (s.putHost h).potNs = s.potNs := rfl
@[simp] theorem State.putHost_bus (s : State) (h : HostSide) : (s.putHost h).bus = s.bus := rfl
@[simp] theorem State.putHost_straps (s : State) (h : HostSide) : (s.putHost h).straps = s.straps := rfl
@[simp] theorem State.putHost_tick (s : State) (h : HostSide) : (s.putHost h).tick = s.tick := rfl
@[simp] theorem State.putHost_cells (s : State) (h : HostSide) : (s.putHost h).cells = s.cells := rfl
@[simp] theorem State.putHost_nand (s : State) (h : HostSide) : (s.putHost h).nand = s.nand := rfl
@[simp] theorem State.putHost_psp (s : State) (h : HostSide) : (s.putHost h).psp = s.psp := rfl
@[simp] theorem State.putHost_env (s : State) (h : HostSide) : (s.putHost h).env = s.env := rfl
@[simp] theorem State.putHost_bootKeys (s : State) (h : HostSide) : (s.putHost h).bootKeys = s.bootKeys := rfl
@[simp] theorem State.putHost_desk (s : State) (h : HostSide) : (s.putHost h).desk = s.desk := rfl
@[simp] theorem State.putHost_ldg (s : State) (h : HostSide) : (s.putHost h).ldg = s.ldg := rfl
@[simp] theorem State.putHost_out (s : State) (h : HostSide) : (s.putHost h).out = s.out := rfl
@[simp] theorem State.putHost_pending (s : State) (h : HostSide) : (s.putHost h).pending = s.pending := rfl
@[simp] theorem State.putHost_eng (s : State) (h : HostSide) : (s.putHost h).eng = s.eng := rfl
@[simp] theorem State.putHost_loops (s : State) (h : HostSide) : (s.putHost h).loops = s.loops := rfl
@[simp] theorem State.putHost_pmk (s : State) (h : HostSide) : (s.putHost h).pmk = s.pmk := rfl
@[simp] theorem State.putHost_tck (s : State) (h : HostSide) : (s.putHost h).tck = s.tck := rfl
@[simp] theorem State.putHost_spn (s : State) (h : HostSide) : (s.putHost h).spn = s.spn := rfl
@[simp] theorem State.putHost_motor (s : State) (h : HostSide) : (s.putHost h).motor = s.motor := rfl
@[simp] theorem State.putHost_cal (s : State) (h : HostSide) : (s.putHost h).cal = s.cal := rfl
@[simp] theorem State.putHost_books (s : State) (h : HostSide) : (s.putHost h).books = s.books := rfl
@[simp] theorem State.putHost_lanes (s : State) (h : HostSide) : (s.putHost h).lanes = s.lanes := rfl
@[simp] theorem State.putHost_dec (s : State) (h : HostSide) : (s.putHost h).dec = s.dec := rfl
@[simp] theorem State.putHost_rcv (s : State) (h : HostSide) : (s.putHost h).rcv = s.rcv := rfl
@[simp] theorem State.putHost_krx (s : State) (h : HostSide) : (s.putHost h).krx = s.krx := rfl
@[simp] theorem State.putHost_bags (s : State) (h : HostSide) : (s.putHost h).bags = s.bags := rfl
@[simp] theorem State.putHost_mem (s : State) (h : HostSide) : (s.putHost h).mem = s.mem := rfl
@[simp] theorem State.putHost_office (s : State) (h : HostSide) : (s.putHost h).office = s.office := rfl
@[simp] theorem State.putHost_cons (s : State) (h : HostSide) : (s.putHost h).cons = s.cons := rfl
@[simp] theorem State.putHost_host (s : State) (h : HostSide) : (s.putHost h).host = h := rfl
@[simp] theorem State.putHost_pre (s : State) (h : HostSide) : (s.putHost h).pre = s.pre := rfl
@[simp] theorem State.putHost_heat (s : State) (h : HostSide) : (s.putHost h).heat = s.heat := rfl
@[simp] theorem State.putHost_pwr (s : State) (h : HostSide) : (s.putHost h).pwr = s.pwr := rfl

@[simp] theorem State.putOffice_variant (s : State) (o : Office) : (s.putOffice o).variant = s.variant := rfl
@[simp] theorem State.putOffice_regs (s : State) (o : Office) : (s.putOffice o).regs = s.regs := rfl
@[simp] theorem State.putOffice_clockNs (s : State) (o : Office) : (s.putOffice o).clockNs = s.clockNs := rfl
@[simp] theorem State.putOffice_potNs (s : State) (o : Office) : (s.putOffice o).potNs = s.potNs := rfl
@[simp] theorem State.putOffice_bus (s : State) (o : Office) : (s.putOffice o).bus = s.bus := rfl
@[simp] theorem State.putOffice_straps (s : State) (o : Office) : (s.putOffice o).straps = s.straps := rfl
@[simp] theorem State.putOffice_tick (s : State) (o : Office) : (s.putOffice o).tick = s.tick := rfl
@[simp] theorem State.putOffice_cells (s : State) (o : Office) : (s.putOffice o).cells = s.cells := rfl
@[simp] theorem State.putOffice_nand (s : State) (o : Office) : (s.putOffice o).nand = s.nand := rfl
@[simp] theorem State.putOffice_psp (s : State) (o : Office) : (s.putOffice o).psp = s.psp := rfl
@[simp] theorem State.putOffice_env (s : State) (o : Office) : (s.putOffice o).env = s.env := rfl
@[simp] theorem State.putOffice_bootKeys (s : State) (o : Office) : (s.putOffice o).bootKeys = s.bootKeys := rfl
@[simp] theorem State.putOffice_desk (s : State) (o : Office) : (s.putOffice o).desk = s.desk := rfl
@[simp] theorem State.putOffice_ldg (s : State) (o : Office) : (s.putOffice o).ldg = s.ldg := rfl
@[simp] theorem State.putOffice_out (s : State) (o : Office) : (s.putOffice o).out = s.out := rfl
@[simp] theorem State.putOffice_pending (s : State) (o : Office) : (s.putOffice o).pending = s.pending := rfl
@[simp] theorem State.putOffice_eng (s : State) (o : Office) : (s.putOffice o).eng = s.eng := rfl
@[simp] theorem State.putOffice_loops (s : State) (o : Office) : (s.putOffice o).loops = s.loops := rfl
@[simp] theorem State.putOffice_pmk (s : State) (o : Office) : (s.putOffice o).pmk = s.pmk := rfl
@[simp] theorem State.putOffice_tck (s : State) (o : Office) : (s.putOffice o).tck = s.tck := rfl
@[simp] theorem State.putOffice_spn (s : State) (o : Office) : (s.putOffice o).spn = s.spn := rfl
@[simp] theorem State.putOffice_motor (s : State) (o : Office) : (s.putOffice o).motor = s.motor := rfl
@[simp] theorem State.putOffice_cal (s : State) (o : Office) : (s.putOffice o).cal = s.cal := rfl
@[simp] theorem State.putOffice_books (s : State) (o : Office) : (s.putOffice o).books = s.books := rfl
@[simp] theorem State.putOffice_lanes (s : State) (o : Office) : (s.putOffice o).lanes = s.lanes := rfl
@[simp] theorem State.putOffice_dec (s : State) (o : Office) : (s.putOffice o).dec = s.dec := rfl
@[simp] theorem State.putOffice_rcv (s : State) (o : Office) : (s.putOffice o).rcv = s.rcv := rfl
@[simp] theorem State.putOffice_krx (s : State) (o : Office) : (s.putOffice o).krx = s.krx := rfl
@[simp] theorem State.putOffice_bags (s : State) (o : Office) : (s.putOffice o).bags = s.bags := rfl
@[simp] theorem State.putOffice_mem (s : State) (o : Office) : (s.putOffice o).mem = s.mem := rfl
@[simp] theorem State.putOffice_office (s : State) (o : Office) : (s.putOffice o).office = o := rfl
@[simp] theorem State.putOffice_cons (s : State) (o : Office) : (s.putOffice o).cons = s.cons := rfl
@[simp] theorem State.putOffice_host (s : State) (o : Office) : (s.putOffice o).host = s.host := rfl
@[simp] theorem State.putOffice_pre (s : State) (o : Office) : (s.putOffice o).pre = s.pre := rfl
@[simp] theorem State.putOffice_heat (s : State) (o : Office) : (s.putOffice o).heat = s.heat := rfl
@[simp] theorem State.putOffice_pwr (s : State) (o : Office) : (s.putOffice o).pwr = s.pwr := rfl

@[simp] theorem State.putCons_variant (s : State) (c : Consign) : (s.putCons c).variant = s.variant := rfl
@[simp] theorem State.putCons_regs (s : State) (c : Consign) : (s.putCons c).regs = s.regs := rfl
@[simp] theorem State.putCons_clockNs (s : State) (c : Consign) : (s.putCons c).clockNs = s.clockNs := rfl
@[simp] theorem State.putCons_potNs (s : State) (c : Consign) : (s.putCons c).potNs = s.potNs := rfl
@[simp] theorem State.putCons_bus (s : State) (c : Consign) : (s.putCons c).bus = s.bus := rfl
@[simp] theorem State.putCons_straps (s : State) (c : Consign) : (s.putCons c).straps = s.straps := rfl
@[simp] theorem State.putCons_tick (s : State) (c : Consign) : (s.putCons c).tick = s.tick := rfl
@[simp] theorem State.putCons_cells (s : State) (c : Consign) : (s.putCons c).cells = s.cells := rfl
@[simp] theorem State.putCons_nand (s : State) (c : Consign) : (s.putCons c).nand = s.nand := rfl
@[simp] theorem State.putCons_psp (s : State) (c : Consign) : (s.putCons c).psp = s.psp := rfl
@[simp] theorem State.putCons_env (s : State) (c : Consign) : (s.putCons c).env = s.env := rfl
@[simp] theorem State.putCons_bootKeys (s : State) (c : Consign) : (s.putCons c).bootKeys = s.bootKeys := rfl
@[simp] theorem State.putCons_desk (s : State) (c : Consign) : (s.putCons c).desk = s.desk := rfl
@[simp] theorem State.putCons_ldg (s : State) (c : Consign) : (s.putCons c).ldg = s.ldg := rfl
@[simp] theorem State.putCons_out (s : State) (c : Consign) : (s.putCons c).out = s.out := rfl
@[simp] theorem State.putCons_pending (s : State) (c : Consign) : (s.putCons c).pending = s.pending := rfl
@[simp] theorem State.putCons_eng (s : State) (c : Consign) : (s.putCons c).eng = s.eng := rfl
@[simp] theorem State.putCons_loops (s : State) (c : Consign) : (s.putCons c).loops = s.loops := rfl
@[simp] theorem State.putCons_pmk (s : State) (c : Consign) : (s.putCons c).pmk = s.pmk := rfl
@[simp] theorem State.putCons_tck (s : State) (c : Consign) : (s.putCons c).tck = s.tck := rfl
@[simp] theorem State.putCons_spn (s : State) (c : Consign) : (s.putCons c).spn = s.spn := rfl
@[simp] theorem State.putCons_motor (s : State) (c : Consign) : (s.putCons c).motor = s.motor := rfl
@[simp] theorem State.putCons_cal (s : State) (c : Consign) : (s.putCons c).cal = s.cal := rfl
@[simp] theorem State.putCons_books (s : State) (c : Consign) : (s.putCons c).books = s.books := rfl
@[simp] theorem State.putCons_lanes (s : State) (c : Consign) : (s.putCons c).lanes = s.lanes := rfl
@[simp] theorem State.putCons_dec (s : State) (c : Consign) : (s.putCons c).dec = s.dec := rfl
@[simp] theorem State.putCons_rcv (s : State) (c : Consign) : (s.putCons c).rcv = s.rcv := rfl
@[simp] theorem State.putCons_krx (s : State) (c : Consign) : (s.putCons c).krx = s.krx := rfl
@[simp] theorem State.putCons_bags (s : State) (c : Consign) : (s.putCons c).bags = s.bags := rfl
@[simp] theorem State.putCons_mem (s : State) (c : Consign) : (s.putCons c).mem = s.mem := rfl
@[simp] theorem State.putCons_office (s : State) (c : Consign) : (s.putCons c).office = s.office := rfl
@[simp] theorem State.putCons_cons (s : State) (c : Consign) : (s.putCons c).cons = c := rfl
@[simp] theorem State.putCons_host (s : State) (c : Consign) : (s.putCons c).host = s.host := rfl
@[simp] theorem State.putCons_pre (s : State) (c : Consign) : (s.putCons c).pre = s.pre := rfl
@[simp] theorem State.putCons_heat (s : State) (c : Consign) : (s.putCons c).heat = s.heat := rfl
@[simp] theorem State.putCons_pwr (s : State) (c : Consign) : (s.putCons c).pwr = s.pwr := rfl

@[simp] theorem State.putSpn_variant (s : State) (p : Spn) : (s.putSpn p).variant = s.variant := rfl
@[simp] theorem State.putSpn_regs (s : State) (p : Spn) : (s.putSpn p).regs = s.regs := rfl
@[simp] theorem State.putSpn_clockNs (s : State) (p : Spn) : (s.putSpn p).clockNs = s.clockNs := rfl
@[simp] theorem State.putSpn_potNs (s : State) (p : Spn) : (s.putSpn p).potNs = s.potNs := rfl
@[simp] theorem State.putSpn_bus (s : State) (p : Spn) : (s.putSpn p).bus = s.bus := rfl
@[simp] theorem State.putSpn_straps (s : State) (p : Spn) : (s.putSpn p).straps = s.straps := rfl
@[simp] theorem State.putSpn_tick (s : State) (p : Spn) : (s.putSpn p).tick = s.tick := rfl
@[simp] theorem State.putSpn_cells (s : State) (p : Spn) : (s.putSpn p).cells = s.cells := rfl
@[simp] theorem State.putSpn_nand (s : State) (p : Spn) : (s.putSpn p).nand = s.nand := rfl
@[simp] theorem State.putSpn_psp (s : State) (p : Spn) : (s.putSpn p).psp = s.psp := rfl
@[simp] theorem State.putSpn_env (s : State) (p : Spn) : (s.putSpn p).env = s.env := rfl
@[simp] theorem State.putSpn_bootKeys (s : State) (p : Spn) : (s.putSpn p).bootKeys = s.bootKeys := rfl
@[simp] theorem State.putSpn_desk (s : State) (p : Spn) : (s.putSpn p).desk = s.desk := rfl
@[simp] theorem State.putSpn_ldg (s : State) (p : Spn) : (s.putSpn p).ldg = s.ldg := rfl
@[simp] theorem State.putSpn_out (s : State) (p : Spn) : (s.putSpn p).out = s.out := rfl
@[simp] theorem State.putSpn_pending (s : State) (p : Spn) : (s.putSpn p).pending = s.pending := rfl
@[simp] theorem State.putSpn_eng (s : State) (p : Spn) : (s.putSpn p).eng = s.eng := rfl
@[simp] theorem State.putSpn_loops (s : State) (p : Spn) : (s.putSpn p).loops = s.loops := rfl
@[simp] theorem State.putSpn_pmk (s : State) (p : Spn) : (s.putSpn p).pmk = s.pmk := rfl
@[simp] theorem State.putSpn_tck (s : State) (p : Spn) : (s.putSpn p).tck = s.tck := rfl
@[simp] theorem State.putSpn_spn (s : State) (p : Spn) : (s.putSpn p).spn = p := rfl
@[simp] theorem State.putSpn_cal (s : State) (p : Spn) : (s.putSpn p).cal = s.cal := rfl
@[simp] theorem State.putSpn_books (s : State) (p : Spn) : (s.putSpn p).books = s.books := rfl
@[simp] theorem State.putSpn_lanes (s : State) (p : Spn) : (s.putSpn p).lanes = s.lanes := rfl
@[simp] theorem State.putSpn_dec (s : State) (p : Spn) : (s.putSpn p).dec = s.dec := rfl
@[simp] theorem State.putSpn_rcv (s : State) (p : Spn) : (s.putSpn p).rcv = s.rcv := rfl
@[simp] theorem State.putSpn_krx (s : State) (p : Spn) : (s.putSpn p).krx = s.krx := rfl
@[simp] theorem State.putSpn_bags (s : State) (p : Spn) : (s.putSpn p).bags = s.bags := rfl
@[simp] theorem State.putSpn_mem (s : State) (p : Spn) : (s.putSpn p).mem = s.mem := rfl
@[simp] theorem State.putSpn_office (s : State) (p : Spn) : (s.putSpn p).office = s.office := rfl
@[simp] theorem State.putSpn_cons (s : State) (p : Spn) : (s.putSpn p).cons = s.cons := rfl
@[simp] theorem State.putSpn_host (s : State) (p : Spn) : (s.putSpn p).host = s.host := rfl
@[simp] theorem State.putSpn_pre (s : State) (p : Spn) : (s.putSpn p).pre = s.pre := rfl
@[simp] theorem State.putSpn_heat (s : State) (p : Spn) : (s.putSpn p).heat = s.heat := rfl
@[simp] theorem State.putSpn_pwr (s : State) (p : Spn) : (s.putSpn p).pwr = s.pwr := rfl

@[simp] theorem State.putKrx_variant (s : State) (k : Krx) : (s.putKrx k).variant = s.variant := rfl
@[simp] theorem State.putKrx_regs (s : State) (k : Krx) : (s.putKrx k).regs = s.regs := rfl
@[simp] theorem State.putKrx_clockNs (s : State) (k : Krx) : (s.putKrx k).clockNs = s.clockNs := rfl
@[simp] theorem State.putKrx_potNs (s : State) (k : Krx) : (s.putKrx k).potNs = s.potNs := rfl
@[simp] theorem State.putKrx_bus (s : State) (k : Krx) : (s.putKrx k).bus = s.bus := rfl
@[simp] theorem State.putKrx_straps (s : State) (k : Krx) : (s.putKrx k).straps = s.straps := rfl
@[simp] theorem State.putKrx_tick (s : State) (k : Krx) : (s.putKrx k).tick = s.tick := rfl
@[simp] theorem State.putKrx_cells (s : State) (k : Krx) : (s.putKrx k).cells = s.cells := rfl
@[simp] theorem State.putKrx_nand (s : State) (k : Krx) : (s.putKrx k).nand = s.nand := rfl
@[simp] theorem State.putKrx_psp (s : State) (k : Krx) : (s.putKrx k).psp = s.psp := rfl
@[simp] theorem State.putKrx_env (s : State) (k : Krx) : (s.putKrx k).env = s.env := rfl
@[simp] theorem State.putKrx_bootKeys (s : State) (k : Krx) : (s.putKrx k).bootKeys = s.bootKeys := rfl
@[simp] theorem State.putKrx_desk (s : State) (k : Krx) : (s.putKrx k).desk = s.desk := rfl
@[simp] theorem State.putKrx_ldg (s : State) (k : Krx) : (s.putKrx k).ldg = s.ldg := rfl
@[simp] theorem State.putKrx_out (s : State) (k : Krx) : (s.putKrx k).out = s.out := rfl
@[simp] theorem State.putKrx_pending (s : State) (k : Krx) : (s.putKrx k).pending = s.pending := rfl
@[simp] theorem State.putKrx_eng (s : State) (k : Krx) : (s.putKrx k).eng = s.eng := rfl
@[simp] theorem State.putKrx_loops (s : State) (k : Krx) : (s.putKrx k).loops = s.loops := rfl
@[simp] theorem State.putKrx_pmk (s : State) (k : Krx) : (s.putKrx k).pmk = s.pmk := rfl
@[simp] theorem State.putKrx_tck (s : State) (k : Krx) : (s.putKrx k).tck = s.tck := rfl
@[simp] theorem State.putKrx_spn (s : State) (k : Krx) : (s.putKrx k).spn = s.spn := rfl
@[simp] theorem State.putKrx_motor (s : State) (k : Krx) : (s.putKrx k).motor = s.motor := rfl
@[simp] theorem State.putKrx_cal (s : State) (k : Krx) : (s.putKrx k).cal = s.cal := rfl
@[simp] theorem State.putKrx_books (s : State) (k : Krx) : (s.putKrx k).books = s.books := rfl
@[simp] theorem State.putKrx_lanes (s : State) (k : Krx) : (s.putKrx k).lanes = s.lanes := rfl
@[simp] theorem State.putKrx_dec (s : State) (k : Krx) : (s.putKrx k).dec = s.dec := rfl
@[simp] theorem State.putKrx_rcv (s : State) (k : Krx) : (s.putKrx k).rcv = s.rcv := rfl
@[simp] theorem State.putKrx_krx (s : State) (k : Krx) : (s.putKrx k).krx = k := rfl
@[simp] theorem State.putKrx_bags (s : State) (k : Krx) : (s.putKrx k).bags = s.bags := rfl
@[simp] theorem State.putKrx_mem (s : State) (k : Krx) : (s.putKrx k).mem = s.mem := rfl
@[simp] theorem State.putKrx_office (s : State) (k : Krx) : (s.putKrx k).office = s.office := rfl
@[simp] theorem State.putKrx_cons (s : State) (k : Krx) : (s.putKrx k).cons = s.cons := rfl
@[simp] theorem State.putKrx_host (s : State) (k : Krx) : (s.putKrx k).host = s.host := rfl
@[simp] theorem State.putKrx_pre (s : State) (k : Krx) : (s.putKrx k).pre = s.pre := rfl
@[simp] theorem State.putKrx_heat (s : State) (k : Krx) : (s.putKrx k).heat = s.heat := rfl
@[simp] theorem State.putKrx_pwr (s : State) (k : Krx) : (s.putKrx k).pwr = s.pwr := rfl

@[simp] theorem State.putPre_variant (s : State) (p : Pre) : (s.putPre p).variant = s.variant := rfl
@[simp] theorem State.putPre_regs (s : State) (p : Pre) : (s.putPre p).regs = s.regs := rfl
@[simp] theorem State.putPre_clockNs (s : State) (p : Pre) : (s.putPre p).clockNs = s.clockNs := rfl
@[simp] theorem State.putPre_potNs (s : State) (p : Pre) : (s.putPre p).potNs = s.potNs := rfl
@[simp] theorem State.putPre_bus (s : State) (p : Pre) : (s.putPre p).bus = s.bus := rfl
@[simp] theorem State.putPre_straps (s : State) (p : Pre) : (s.putPre p).straps = s.straps := rfl
@[simp] theorem State.putPre_tick (s : State) (p : Pre) : (s.putPre p).tick = s.tick := rfl
@[simp] theorem State.putPre_cells (s : State) (p : Pre) : (s.putPre p).cells = s.cells := rfl
@[simp] theorem State.putPre_nand (s : State) (p : Pre) : (s.putPre p).nand = s.nand := rfl
@[simp] theorem State.putPre_psp (s : State) (p : Pre) : (s.putPre p).psp = s.psp := rfl
@[simp] theorem State.putPre_env (s : State) (p : Pre) : (s.putPre p).env = s.env := rfl
@[simp] theorem State.putPre_bootKeys (s : State) (p : Pre) : (s.putPre p).bootKeys = s.bootKeys := rfl
@[simp] theorem State.putPre_desk (s : State) (p : Pre) : (s.putPre p).desk = s.desk := rfl
@[simp] theorem State.putPre_ldg (s : State) (p : Pre) : (s.putPre p).ldg = s.ldg := rfl
@[simp] theorem State.putPre_out (s : State) (p : Pre) : (s.putPre p).out = s.out := rfl
@[simp] theorem State.putPre_pending (s : State) (p : Pre) : (s.putPre p).pending = s.pending := rfl
@[simp] theorem State.putPre_eng (s : State) (p : Pre) : (s.putPre p).eng = s.eng := rfl
@[simp] theorem State.putPre_loops (s : State) (p : Pre) : (s.putPre p).loops = s.loops := rfl
@[simp] theorem State.putPre_pmk (s : State) (p : Pre) : (s.putPre p).pmk = s.pmk := rfl
@[simp] theorem State.putPre_tck (s : State) (p : Pre) : (s.putPre p).tck = s.tck := rfl
@[simp] theorem State.putPre_spn (s : State) (p : Pre) : (s.putPre p).spn = s.spn := rfl
@[simp] theorem State.putPre_motor (s : State) (p : Pre) : (s.putPre p).motor = s.motor := rfl
@[simp] theorem State.putPre_cal (s : State) (p : Pre) : (s.putPre p).cal = s.cal := rfl
@[simp] theorem State.putPre_books (s : State) (p : Pre) : (s.putPre p).books = s.books := rfl
@[simp] theorem State.putPre_lanes (s : State) (p : Pre) : (s.putPre p).lanes = s.lanes := rfl
@[simp] theorem State.putPre_dec (s : State) (p : Pre) : (s.putPre p).dec = s.dec := rfl
@[simp] theorem State.putPre_rcv (s : State) (p : Pre) : (s.putPre p).rcv = s.rcv := rfl
@[simp] theorem State.putPre_krx (s : State) (p : Pre) : (s.putPre p).krx = s.krx := rfl
@[simp] theorem State.putPre_bags (s : State) (p : Pre) : (s.putPre p).bags = s.bags := rfl
@[simp] theorem State.putPre_mem (s : State) (p : Pre) : (s.putPre p).mem = s.mem := rfl
@[simp] theorem State.putPre_office (s : State) (p : Pre) : (s.putPre p).office = s.office := rfl
@[simp] theorem State.putPre_cons (s : State) (p : Pre) : (s.putPre p).cons = s.cons := rfl
@[simp] theorem State.putPre_host (s : State) (p : Pre) : (s.putPre p).host = s.host := rfl
@[simp] theorem State.putPre_pre (s : State) (p : Pre) : (s.putPre p).pre = p := rfl
@[simp] theorem State.putPre_heat (s : State) (p : Pre) : (s.putPre p).heat = s.heat := rfl
@[simp] theorem State.putPre_pwr (s : State) (p : Pre) : (s.putPre p).pwr = s.pwr := rfl

@[simp] theorem State.putLp_variant (s : State) (x : Act) (l : Loop) : (s.putLp x l).variant = s.variant := rfl
@[simp] theorem State.putLp_regs (s : State) (x : Act) (l : Loop) : (s.putLp x l).regs = s.regs := rfl
@[simp] theorem State.putLp_clockNs (s : State) (x : Act) (l : Loop) : (s.putLp x l).clockNs = s.clockNs := rfl
@[simp] theorem State.putLp_potNs (s : State) (x : Act) (l : Loop) : (s.putLp x l).potNs = s.potNs := rfl
@[simp] theorem State.putLp_bus (s : State) (x : Act) (l : Loop) : (s.putLp x l).bus = s.bus := rfl
@[simp] theorem State.putLp_straps (s : State) (x : Act) (l : Loop) : (s.putLp x l).straps = s.straps := rfl
@[simp] theorem State.putLp_tick (s : State) (x : Act) (l : Loop) : (s.putLp x l).tick = s.tick := rfl
@[simp] theorem State.putLp_cells (s : State) (x : Act) (l : Loop) : (s.putLp x l).cells = s.cells := rfl
@[simp] theorem State.putLp_nand (s : State) (x : Act) (l : Loop) : (s.putLp x l).nand = s.nand := rfl
@[simp] theorem State.putLp_psp (s : State) (x : Act) (l : Loop) : (s.putLp x l).psp = s.psp := rfl
@[simp] theorem State.putLp_env (s : State) (x : Act) (l : Loop) : (s.putLp x l).env = s.env := rfl
@[simp] theorem State.putLp_bootKeys (s : State) (x : Act) (l : Loop) : (s.putLp x l).bootKeys = s.bootKeys := rfl
@[simp] theorem State.putLp_desk (s : State) (x : Act) (l : Loop) : (s.putLp x l).desk = s.desk := rfl
@[simp] theorem State.putLp_ldg (s : State) (x : Act) (l : Loop) : (s.putLp x l).ldg = s.ldg := rfl
@[simp] theorem State.putLp_out (s : State) (x : Act) (l : Loop) : (s.putLp x l).out = s.out := rfl
@[simp] theorem State.putLp_pending (s : State) (x : Act) (l : Loop) : (s.putLp x l).pending = s.pending := rfl
@[simp] theorem State.putLp_eng (s : State) (x : Act) (l : Loop) : (s.putLp x l).eng = s.eng := rfl
@[simp] theorem State.putLp_loops (s : State) (x : Act) (l : Loop) : (s.putLp x l).loops = s.loops.put x l := rfl
@[simp] theorem State.putLp_pmk (s : State) (x : Act) (l : Loop) : (s.putLp x l).pmk = s.pmk := rfl
@[simp] theorem State.putLp_tck (s : State) (x : Act) (l : Loop) : (s.putLp x l).tck = s.tck := rfl
@[simp] theorem State.putLp_spn (s : State) (x : Act) (l : Loop) : (s.putLp x l).spn = s.spn := rfl
@[simp] theorem State.putLp_motor (s : State) (x : Act) (l : Loop) : (s.putLp x l).motor = s.motor := rfl
@[simp] theorem State.putLp_cal (s : State) (x : Act) (l : Loop) : (s.putLp x l).cal = s.cal := rfl
@[simp] theorem State.putLp_books (s : State) (x : Act) (l : Loop) : (s.putLp x l).books = s.books := rfl
@[simp] theorem State.putLp_lanes (s : State) (x : Act) (l : Loop) : (s.putLp x l).lanes = s.lanes := rfl
@[simp] theorem State.putLp_dec (s : State) (x : Act) (l : Loop) : (s.putLp x l).dec = s.dec := rfl
@[simp] theorem State.putLp_rcv (s : State) (x : Act) (l : Loop) : (s.putLp x l).rcv = s.rcv := rfl
@[simp] theorem State.putLp_krx (s : State) (x : Act) (l : Loop) : (s.putLp x l).krx = s.krx := rfl
@[simp] theorem State.putLp_bags (s : State) (x : Act) (l : Loop) : (s.putLp x l).bags = s.bags := rfl
@[simp] theorem State.putLp_mem (s : State) (x : Act) (l : Loop) : (s.putLp x l).mem = s.mem := rfl
@[simp] theorem State.putLp_office (s : State) (x : Act) (l : Loop) : (s.putLp x l).office = s.office := rfl
@[simp] theorem State.putLp_cons (s : State) (x : Act) (l : Loop) : (s.putLp x l).cons = s.cons := rfl
@[simp] theorem State.putLp_host (s : State) (x : Act) (l : Loop) : (s.putLp x l).host = s.host := rfl
@[simp] theorem State.putLp_pre (s : State) (x : Act) (l : Loop) : (s.putLp x l).pre = s.pre := rfl
@[simp] theorem State.putLp_heat (s : State) (x : Act) (l : Loop) : (s.putLp x l).heat = s.heat := rfl
@[simp] theorem State.putLp_pwr (s : State) (x : Act) (l : Loop) : (s.putLp x l).pwr = s.pwr := rfl

@[simp] theorem State.putMail_variant (s : State) (k : Nat) (m : Mailbox) : (s.putMail k m).variant = s.variant := rfl
@[simp] theorem State.putMail_regs (s : State) (k : Nat) (m : Mailbox) : (s.putMail k m).regs = s.regs := rfl
@[simp] theorem State.putMail_clockNs (s : State) (k : Nat) (m : Mailbox) : (s.putMail k m).clockNs = s.clockNs := rfl
@[simp] theorem State.putMail_potNs (s : State) (k : Nat) (m : Mailbox) : (s.putMail k m).potNs = s.potNs := rfl
@[simp] theorem State.putMail_bus (s : State) (k : Nat) (m : Mailbox) : (s.putMail k m).bus = s.bus := rfl
@[simp] theorem State.putMail_straps (s : State) (k : Nat) (m : Mailbox) : (s.putMail k m).straps = s.straps := rfl
@[simp] theorem State.putMail_tick (s : State) (k : Nat) (m : Mailbox) : (s.putMail k m).tick = s.tick := rfl
@[simp] theorem State.putMail_cells (s : State) (k : Nat) (m : Mailbox) : (s.putMail k m).cells = s.cells := rfl
@[simp] theorem State.putMail_nand (s : State) (k : Nat) (m : Mailbox) : (s.putMail k m).nand = s.nand := rfl
@[simp] theorem State.putMail_psp (s : State) (k : Nat) (m : Mailbox) : (s.putMail k m).psp = s.psp := rfl
@[simp] theorem State.putMail_env (s : State) (k : Nat) (m : Mailbox) : (s.putMail k m).env = s.env := rfl
@[simp] theorem State.putMail_bootKeys (s : State) (k : Nat) (m : Mailbox) : (s.putMail k m).bootKeys = s.bootKeys := rfl
@[simp] theorem State.putMail_desk (s : State) (k : Nat) (m : Mailbox) : (s.putMail k m).desk = s.desk := rfl
@[simp] theorem State.putMail_ldg (s : State) (k : Nat) (m : Mailbox) : (s.putMail k m).ldg = s.ldg := rfl
@[simp] theorem State.putMail_out (s : State) (k : Nat) (m : Mailbox) : (s.putMail k m).out = s.out := rfl
@[simp] theorem State.putMail_pending (s : State) (k : Nat) (m : Mailbox) : (s.putMail k m).pending = s.pending := rfl
@[simp] theorem State.putMail_loops (s : State) (k : Nat) (m : Mailbox) : (s.putMail k m).loops = s.loops := rfl
@[simp] theorem State.putMail_pmk (s : State) (k : Nat) (m : Mailbox) : (s.putMail k m).pmk = s.pmk := rfl
@[simp] theorem State.putMail_tck (s : State) (k : Nat) (m : Mailbox) : (s.putMail k m).tck = s.tck := rfl
@[simp] theorem State.putMail_spn (s : State) (k : Nat) (m : Mailbox) : (s.putMail k m).spn = s.spn := rfl
@[simp] theorem State.putMail_motor (s : State) (k : Nat) (m : Mailbox) : (s.putMail k m).motor = s.motor := rfl
@[simp] theorem State.putMail_cal (s : State) (k : Nat) (m : Mailbox) : (s.putMail k m).cal = s.cal := rfl
@[simp] theorem State.putMail_books (s : State) (k : Nat) (m : Mailbox) : (s.putMail k m).books = s.books := rfl
@[simp] theorem State.putMail_lanes (s : State) (k : Nat) (m : Mailbox) : (s.putMail k m).lanes = s.lanes := rfl
@[simp] theorem State.putMail_dec (s : State) (k : Nat) (m : Mailbox) : (s.putMail k m).dec = s.dec := rfl
@[simp] theorem State.putMail_rcv (s : State) (k : Nat) (m : Mailbox) : (s.putMail k m).rcv = s.rcv := rfl
@[simp] theorem State.putMail_krx (s : State) (k : Nat) (m : Mailbox) : (s.putMail k m).krx = s.krx := rfl
@[simp] theorem State.putMail_bags (s : State) (k : Nat) (m : Mailbox) : (s.putMail k m).bags = s.bags := rfl
@[simp] theorem State.putMail_mem (s : State) (k : Nat) (m : Mailbox) : (s.putMail k m).mem = s.mem := rfl
@[simp] theorem State.putMail_office (s : State) (k : Nat) (m : Mailbox) : (s.putMail k m).office = s.office := rfl
@[simp] theorem State.putMail_cons (s : State) (k : Nat) (m : Mailbox) : (s.putMail k m).cons = s.cons := rfl
@[simp] theorem State.putMail_host (s : State) (k : Nat) (m : Mailbox) : (s.putMail k m).host = s.host := rfl
@[simp] theorem State.putMail_pre (s : State) (k : Nat) (m : Mailbox) : (s.putMail k m).pre = s.pre := rfl
@[simp] theorem State.putMail_heat (s : State) (k : Nat) (m : Mailbox) : (s.putMail k m).heat = s.heat := rfl
@[simp] theorem State.putMail_pwr (s : State) (k : Nat) (m : Mailbox) : (s.putMail k m).pwr = s.pwr := rfl

@[simp] theorem State.putPortOut_variant (s : State) (p v : Nat) : (s.putPortOut p v).variant = s.variant := rfl
@[simp] theorem State.putPortOut_regs (s : State) (p v : Nat) : (s.putPortOut p v).regs = s.regs := rfl
@[simp] theorem State.putPortOut_clockNs (s : State) (p v : Nat) : (s.putPortOut p v).clockNs = s.clockNs := rfl
@[simp] theorem State.putPortOut_potNs (s : State) (p v : Nat) : (s.putPortOut p v).potNs = s.potNs := rfl
@[simp] theorem State.putPortOut_bus (s : State) (p v : Nat) : (s.putPortOut p v).bus = s.bus := rfl
@[simp] theorem State.putPortOut_straps (s : State) (p v : Nat) : (s.putPortOut p v).straps = s.straps := rfl
@[simp] theorem State.putPortOut_tick (s : State) (p v : Nat) : (s.putPortOut p v).tick = s.tick := rfl
@[simp] theorem State.putPortOut_cells (s : State) (p v : Nat) : (s.putPortOut p v).cells = s.cells := rfl
@[simp] theorem State.putPortOut_nand (s : State) (p v : Nat) : (s.putPortOut p v).nand = s.nand := rfl
@[simp] theorem State.putPortOut_psp (s : State) (p v : Nat) : (s.putPortOut p v).psp = s.psp := rfl
@[simp] theorem State.putPortOut_env (s : State) (p v : Nat) : (s.putPortOut p v).env = s.env := rfl
@[simp] theorem State.putPortOut_bootKeys (s : State) (p v : Nat) : (s.putPortOut p v).bootKeys = s.bootKeys := rfl
@[simp] theorem State.putPortOut_desk (s : State) (p v : Nat) : (s.putPortOut p v).desk = s.desk := rfl
@[simp] theorem State.putPortOut_ldg (s : State) (p v : Nat) : (s.putPortOut p v).ldg = s.ldg := rfl
@[simp] theorem State.putPortOut_out (s : State) (p v : Nat) : (s.putPortOut p v).out = s.out := rfl
@[simp] theorem State.putPortOut_pending (s : State) (p v : Nat) : (s.putPortOut p v).pending = s.pending := rfl
@[simp] theorem State.putPortOut_loops (s : State) (p v : Nat) : (s.putPortOut p v).loops = s.loops := rfl
@[simp] theorem State.putPortOut_pmk (s : State) (p v : Nat) : (s.putPortOut p v).pmk = s.pmk := rfl
@[simp] theorem State.putPortOut_tck (s : State) (p v : Nat) : (s.putPortOut p v).tck = s.tck := rfl
@[simp] theorem State.putPortOut_spn (s : State) (p v : Nat) : (s.putPortOut p v).spn = s.spn := rfl
@[simp] theorem State.putPortOut_motor (s : State) (p v : Nat) : (s.putPortOut p v).motor = s.motor := rfl
@[simp] theorem State.putPortOut_cal (s : State) (p v : Nat) : (s.putPortOut p v).cal = s.cal := rfl
@[simp] theorem State.putPortOut_books (s : State) (p v : Nat) : (s.putPortOut p v).books = s.books := rfl
@[simp] theorem State.putPortOut_lanes (s : State) (p v : Nat) : (s.putPortOut p v).lanes = s.lanes := rfl
@[simp] theorem State.putPortOut_dec (s : State) (p v : Nat) : (s.putPortOut p v).dec = s.dec := rfl
@[simp] theorem State.putPortOut_rcv (s : State) (p v : Nat) : (s.putPortOut p v).rcv = s.rcv := rfl
@[simp] theorem State.putPortOut_krx (s : State) (p v : Nat) : (s.putPortOut p v).krx = s.krx := rfl
@[simp] theorem State.putPortOut_bags (s : State) (p v : Nat) : (s.putPortOut p v).bags = s.bags := rfl
@[simp] theorem State.putPortOut_mem (s : State) (p v : Nat) : (s.putPortOut p v).mem = s.mem := rfl
@[simp] theorem State.putPortOut_office (s : State) (p v : Nat) : (s.putPortOut p v).office = s.office := rfl
@[simp] theorem State.putPortOut_cons (s : State) (p v : Nat) : (s.putPortOut p v).cons = s.cons := rfl
@[simp] theorem State.putPortOut_host (s : State) (p v : Nat) : (s.putPortOut p v).host = s.host := rfl
@[simp] theorem State.putPortOut_pre (s : State) (p v : Nat) : (s.putPortOut p v).pre = s.pre := rfl
@[simp] theorem State.putPortOut_heat (s : State) (p v : Nat) : (s.putPortOut p v).heat = s.heat := rfl
@[simp] theorem State.putPortOut_pwr (s : State) (p v : Nat) : (s.putPortOut p v).pwr = s.pwr := rfl

@[simp] theorem State.putCtx_variant (s : State) (n : Nat) (c : Ctx) : (s.putCtx n c).variant = s.variant := rfl
@[simp] theorem State.putCtx_regs (s : State) (n : Nat) (c : Ctx) : (s.putCtx n c).regs = s.regs := rfl
@[simp] theorem State.putCtx_clockNs (s : State) (n : Nat) (c : Ctx) : (s.putCtx n c).clockNs = s.clockNs := rfl
@[simp] theorem State.putCtx_potNs (s : State) (n : Nat) (c : Ctx) : (s.putCtx n c).potNs = s.potNs := rfl
@[simp] theorem State.putCtx_bus (s : State) (n : Nat) (c : Ctx) : (s.putCtx n c).bus = s.bus := rfl
@[simp] theorem State.putCtx_straps (s : State) (n : Nat) (c : Ctx) : (s.putCtx n c).straps = s.straps := rfl
@[simp] theorem State.putCtx_tick (s : State) (n : Nat) (c : Ctx) : (s.putCtx n c).tick = s.tick := rfl
@[simp] theorem State.putCtx_cells (s : State) (n : Nat) (c : Ctx) : (s.putCtx n c).cells = s.cells := rfl
@[simp] theorem State.putCtx_nand (s : State) (n : Nat) (c : Ctx) : (s.putCtx n c).nand = s.nand := rfl
@[simp] theorem State.putCtx_psp (s : State) (n : Nat) (c : Ctx) : (s.putCtx n c).psp = s.psp := rfl
@[simp] theorem State.putCtx_env (s : State) (n : Nat) (c : Ctx) : (s.putCtx n c).env = s.env := rfl
@[simp] theorem State.putCtx_bootKeys (s : State) (n : Nat) (c : Ctx) : (s.putCtx n c).bootKeys = s.bootKeys := rfl
@[simp] theorem State.putCtx_desk (s : State) (n : Nat) (c : Ctx) : (s.putCtx n c).desk = s.desk := rfl
@[simp] theorem State.putCtx_ldg (s : State) (n : Nat) (c : Ctx) : (s.putCtx n c).ldg = s.ldg := rfl
@[simp] theorem State.putCtx_out (s : State) (n : Nat) (c : Ctx) : (s.putCtx n c).out = s.out := rfl
@[simp] theorem State.putCtx_pending (s : State) (n : Nat) (c : Ctx) : (s.putCtx n c).pending = s.pending := rfl
@[simp] theorem State.putCtx_loops (s : State) (n : Nat) (c : Ctx) : (s.putCtx n c).loops = s.loops := rfl
@[simp] theorem State.putCtx_pmk (s : State) (n : Nat) (c : Ctx) : (s.putCtx n c).pmk = s.pmk := rfl
@[simp] theorem State.putCtx_tck (s : State) (n : Nat) (c : Ctx) : (s.putCtx n c).tck = s.tck := rfl
@[simp] theorem State.putCtx_spn (s : State) (n : Nat) (c : Ctx) : (s.putCtx n c).spn = s.spn := rfl
@[simp] theorem State.putCtx_motor (s : State) (n : Nat) (c : Ctx) : (s.putCtx n c).motor = s.motor := rfl
@[simp] theorem State.putCtx_cal (s : State) (n : Nat) (c : Ctx) : (s.putCtx n c).cal = s.cal := rfl
@[simp] theorem State.putCtx_books (s : State) (n : Nat) (c : Ctx) : (s.putCtx n c).books = s.books := rfl
@[simp] theorem State.putCtx_lanes (s : State) (n : Nat) (c : Ctx) : (s.putCtx n c).lanes = s.lanes := rfl
@[simp] theorem State.putCtx_dec (s : State) (n : Nat) (c : Ctx) : (s.putCtx n c).dec = s.dec := rfl
@[simp] theorem State.putCtx_rcv (s : State) (n : Nat) (c : Ctx) : (s.putCtx n c).rcv = s.rcv := rfl
@[simp] theorem State.putCtx_krx (s : State) (n : Nat) (c : Ctx) : (s.putCtx n c).krx = s.krx := rfl
@[simp] theorem State.putCtx_bags (s : State) (n : Nat) (c : Ctx) : (s.putCtx n c).bags = s.bags := rfl
@[simp] theorem State.putCtx_mem (s : State) (n : Nat) (c : Ctx) : (s.putCtx n c).mem = s.mem := rfl
@[simp] theorem State.putCtx_office (s : State) (n : Nat) (c : Ctx) : (s.putCtx n c).office = s.office := rfl
@[simp] theorem State.putCtx_cons (s : State) (n : Nat) (c : Ctx) : (s.putCtx n c).cons = s.cons := rfl
@[simp] theorem State.putCtx_host (s : State) (n : Nat) (c : Ctx) : (s.putCtx n c).host = s.host := rfl
@[simp] theorem State.putCtx_pre (s : State) (n : Nat) (c : Ctx) : (s.putCtx n c).pre = s.pre := rfl
@[simp] theorem State.putCtx_heat (s : State) (n : Nat) (c : Ctx) : (s.putCtx n c).heat = s.heat := rfl
@[simp] theorem State.putCtx_pwr (s : State) (n : Nat) (c : Ctx) : (s.putCtx n c).pwr = s.pwr := rfl
@[simp] theorem State.putMotor_variant (s : State) (m : Motor) : (s.putMotor m).variant = s.variant := rfl
@[simp] theorem State.putMotor_regs (s : State) (m : Motor) : (s.putMotor m).regs = s.regs := rfl
@[simp] theorem State.putMotor_clockNs (s : State) (m : Motor) : (s.putMotor m).clockNs = s.clockNs := rfl
@[simp] theorem State.putMotor_potNs (s : State) (m : Motor) : (s.putMotor m).potNs = s.potNs := rfl
@[simp] theorem State.putMotor_bus (s : State) (m : Motor) : (s.putMotor m).bus = s.bus := rfl
@[simp] theorem State.putMotor_straps (s : State) (m : Motor) : (s.putMotor m).straps = s.straps := rfl
@[simp] theorem State.putMotor_tick (s : State) (m : Motor) : (s.putMotor m).tick = s.tick := rfl
@[simp] theorem State.putMotor_cells (s : State) (m : Motor) : (s.putMotor m).cells = s.cells := rfl
@[simp] theorem State.putMotor_nand (s : State) (m : Motor) : (s.putMotor m).nand = s.nand := rfl
@[simp] theorem State.putMotor_psp (s : State) (m : Motor) : (s.putMotor m).psp = s.psp := rfl
@[simp] theorem State.putMotor_env (s : State) (m : Motor) : (s.putMotor m).env = s.env := rfl
@[simp] theorem State.putMotor_bootKeys (s : State) (m : Motor) : (s.putMotor m).bootKeys = s.bootKeys := rfl
@[simp] theorem State.putMotor_desk (s : State) (m : Motor) : (s.putMotor m).desk = s.desk := rfl
@[simp] theorem State.putMotor_ldg (s : State) (m : Motor) : (s.putMotor m).ldg = s.ldg := rfl
@[simp] theorem State.putMotor_out (s : State) (m : Motor) : (s.putMotor m).out = s.out := rfl
@[simp] theorem State.putMotor_pending (s : State) (m : Motor) : (s.putMotor m).pending = s.pending := rfl
@[simp] theorem State.putMotor_eng (s : State) (m : Motor) : (s.putMotor m).eng = s.eng := rfl
@[simp] theorem State.putMotor_loops (s : State) (m : Motor) : (s.putMotor m).loops = s.loops := rfl
@[simp] theorem State.putMotor_pmk (s : State) (m : Motor) : (s.putMotor m).pmk = s.pmk := rfl
@[simp] theorem State.putMotor_tck (s : State) (m : Motor) : (s.putMotor m).tck = s.tck := rfl
@[simp] theorem State.putMotor_spn (s : State) (m : Motor) : (s.putMotor m).spn = s.spn := rfl
@[simp] theorem State.putMotor_cal (s : State) (m : Motor) : (s.putMotor m).cal = s.cal := rfl
@[simp] theorem State.putMotor_books (s : State) (m : Motor) : (s.putMotor m).books = s.books := rfl
@[simp] theorem State.putMotor_lanes (s : State) (m : Motor) : (s.putMotor m).lanes = s.lanes := rfl
@[simp] theorem State.putMotor_dec (s : State) (m : Motor) : (s.putMotor m).dec = s.dec := rfl
@[simp] theorem State.putMotor_rcv (s : State) (m : Motor) : (s.putMotor m).rcv = s.rcv := rfl
@[simp] theorem State.putMotor_krx (s : State) (m : Motor) : (s.putMotor m).krx = s.krx := rfl
@[simp] theorem State.putMotor_bags (s : State) (m : Motor) : (s.putMotor m).bags = s.bags := rfl
@[simp] theorem State.putMotor_mem (s : State) (m : Motor) : (s.putMotor m).mem = s.mem := rfl
@[simp] theorem State.putMotor_office (s : State) (m : Motor) : (s.putMotor m).office = s.office := rfl
@[simp] theorem State.putMotor_cons (s : State) (m : Motor) : (s.putMotor m).cons = s.cons := rfl
@[simp] theorem State.putMotor_host (s : State) (m : Motor) : (s.putMotor m).host = s.host := rfl
@[simp] theorem State.putMotor_pre (s : State) (m : Motor) : (s.putMotor m).pre = s.pre := rfl
@[simp] theorem State.putMotor_heat (s : State) (m : Motor) : (s.putMotor m).heat = s.heat := rfl
@[simp] theorem State.putMotor_pwr (s : State) (m : Motor) : (s.putMotor m).pwr = s.pwr := rfl
@[simp] theorem State.putMotor_motor (s : State) (m : Motor) : (s.putMotor m).motor = m := rfl

@[simp] theorem State.putMem_variant (s : State) (m : Mem) : (s.putMem m).variant = s.variant := rfl
@[simp] theorem State.putMem_regs (s : State) (m : Mem) : (s.putMem m).regs = s.regs := rfl
@[simp] theorem State.putMem_clockNs (s : State) (m : Mem) : (s.putMem m).clockNs = s.clockNs := rfl
@[simp] theorem State.putMem_potNs (s : State) (m : Mem) : (s.putMem m).potNs = s.potNs := rfl
@[simp] theorem State.putMem_bus (s : State) (m : Mem) : (s.putMem m).bus = s.bus := rfl
@[simp] theorem State.putMem_straps (s : State) (m : Mem) : (s.putMem m).straps = s.straps := rfl
@[simp] theorem State.putMem_tick (s : State) (m : Mem) : (s.putMem m).tick = s.tick := rfl
@[simp] theorem State.putMem_cells (s : State) (m : Mem) : (s.putMem m).cells = s.cells := rfl
@[simp] theorem State.putMem_nand (s : State) (m : Mem) : (s.putMem m).nand = s.nand := rfl
@[simp] theorem State.putMem_psp (s : State) (m : Mem) : (s.putMem m).psp = s.psp := rfl
@[simp] theorem State.putMem_env (s : State) (m : Mem) : (s.putMem m).env = s.env := rfl
@[simp] theorem State.putMem_bootKeys (s : State) (m : Mem) : (s.putMem m).bootKeys = s.bootKeys := rfl
@[simp] theorem State.putMem_desk (s : State) (m : Mem) : (s.putMem m).desk = s.desk := rfl
@[simp] theorem State.putMem_ldg (s : State) (m : Mem) : (s.putMem m).ldg = s.ldg := rfl
@[simp] theorem State.putMem_out (s : State) (m : Mem) : (s.putMem m).out = s.out := rfl
@[simp] theorem State.putMem_pending (s : State) (m : Mem) : (s.putMem m).pending = s.pending := rfl
@[simp] theorem State.putMem_eng (s : State) (m : Mem) : (s.putMem m).eng = s.eng := rfl
@[simp] theorem State.putMem_loops (s : State) (m : Mem) : (s.putMem m).loops = s.loops := rfl
@[simp] theorem State.putMem_pmk (s : State) (m : Mem) : (s.putMem m).pmk = s.pmk := rfl
@[simp] theorem State.putMem_tck (s : State) (m : Mem) : (s.putMem m).tck = s.tck := rfl
@[simp] theorem State.putMem_spn (s : State) (m : Mem) : (s.putMem m).spn = s.spn := rfl
@[simp] theorem State.putMem_motor (s : State) (m : Mem) : (s.putMem m).motor = s.motor := rfl
@[simp] theorem State.putMem_cal (s : State) (m : Mem) : (s.putMem m).cal = s.cal := rfl
@[simp] theorem State.putMem_books (s : State) (m : Mem) : (s.putMem m).books = s.books := rfl
@[simp] theorem State.putMem_lanes (s : State) (m : Mem) : (s.putMem m).lanes = s.lanes := rfl
@[simp] theorem State.putMem_dec (s : State) (m : Mem) : (s.putMem m).dec = s.dec := rfl
@[simp] theorem State.putMem_rcv (s : State) (m : Mem) : (s.putMem m).rcv = s.rcv := rfl
@[simp] theorem State.putMem_krx (s : State) (m : Mem) : (s.putMem m).krx = s.krx := rfl
@[simp] theorem State.putMem_bags (s : State) (m : Mem) : (s.putMem m).bags = s.bags := rfl
@[simp] theorem State.putMem_office (s : State) (m : Mem) : (s.putMem m).office = s.office := rfl
@[simp] theorem State.putMem_cons (s : State) (m : Mem) : (s.putMem m).cons = s.cons := rfl
@[simp] theorem State.putMem_host (s : State) (m : Mem) : (s.putMem m).host = s.host := rfl
@[simp] theorem State.putMem_pre (s : State) (m : Mem) : (s.putMem m).pre = s.pre := rfl
@[simp] theorem State.putMem_heat (s : State) (m : Mem) : (s.putMem m).heat = s.heat := rfl
@[simp] theorem State.putMem_pwr (s : State) (m : Mem) : (s.putMem m).pwr = s.pwr := rfl
@[simp] theorem State.putMem_mem (s : State) (m : Mem) : (s.putMem m).mem = m := rfl

@[simp] theorem State.putLane_variant (s : State) (x : Act) (l : Lane) : (s.putLane x l).variant = s.variant := rfl
@[simp] theorem State.putLane_clockNs (s : State) (x : Act) (l : Lane) : (s.putLane x l).clockNs = s.clockNs := rfl
@[simp] theorem State.putLane_potNs (s : State) (x : Act) (l : Lane) : (s.putLane x l).potNs = s.potNs := rfl
@[simp] theorem State.putLane_bus (s : State) (x : Act) (l : Lane) : (s.putLane x l).bus = s.bus := rfl
@[simp] theorem State.putLane_straps (s : State) (x : Act) (l : Lane) : (s.putLane x l).straps = s.straps := rfl
@[simp] theorem State.putLane_tick (s : State) (x : Act) (l : Lane) : (s.putLane x l).tick = s.tick := rfl
@[simp] theorem State.putLane_cells (s : State) (x : Act) (l : Lane) : (s.putLane x l).cells = s.cells := rfl
@[simp] theorem State.putLane_nand (s : State) (x : Act) (l : Lane) : (s.putLane x l).nand = s.nand := rfl
@[simp] theorem State.putLane_psp (s : State) (x : Act) (l : Lane) : (s.putLane x l).psp = s.psp := rfl
@[simp] theorem State.putLane_env (s : State) (x : Act) (l : Lane) : (s.putLane x l).env = s.env := rfl
@[simp] theorem State.putLane_bootKeys (s : State) (x : Act) (l : Lane) : (s.putLane x l).bootKeys = s.bootKeys := rfl
@[simp] theorem State.putLane_desk (s : State) (x : Act) (l : Lane) : (s.putLane x l).desk = s.desk := rfl
@[simp] theorem State.putLane_ldg (s : State) (x : Act) (l : Lane) : (s.putLane x l).ldg = s.ldg := rfl
@[simp] theorem State.putLane_out (s : State) (x : Act) (l : Lane) : (s.putLane x l).out = s.out := rfl
@[simp] theorem State.putLane_pending (s : State) (x : Act) (l : Lane) : (s.putLane x l).pending = s.pending := rfl
@[simp] theorem State.putLane_eng (s : State) (x : Act) (l : Lane) : (s.putLane x l).eng = s.eng := rfl
@[simp] theorem State.putLane_loops (s : State) (x : Act) (l : Lane) : (s.putLane x l).loops = s.loops := rfl
@[simp] theorem State.putLane_pmk (s : State) (x : Act) (l : Lane) : (s.putLane x l).pmk = s.pmk := rfl
@[simp] theorem State.putLane_tck (s : State) (x : Act) (l : Lane) : (s.putLane x l).tck = s.tck := rfl
@[simp] theorem State.putLane_spn (s : State) (x : Act) (l : Lane) : (s.putLane x l).spn = s.spn := rfl
@[simp] theorem State.putLane_motor (s : State) (x : Act) (l : Lane) : (s.putLane x l).motor = s.motor := rfl
@[simp] theorem State.putLane_cal (s : State) (x : Act) (l : Lane) : (s.putLane x l).cal = s.cal := rfl
@[simp] theorem State.putLane_books (s : State) (x : Act) (l : Lane) : (s.putLane x l).books = s.books := rfl
@[simp] theorem State.putLane_dec (s : State) (x : Act) (l : Lane) : (s.putLane x l).dec = s.dec := rfl
@[simp] theorem State.putLane_rcv (s : State) (x : Act) (l : Lane) : (s.putLane x l).rcv = s.rcv := rfl
@[simp] theorem State.putLane_krx (s : State) (x : Act) (l : Lane) : (s.putLane x l).krx = s.krx := rfl
@[simp] theorem State.putLane_bags (s : State) (x : Act) (l : Lane) : (s.putLane x l).bags = s.bags := rfl
@[simp] theorem State.putLane_mem (s : State) (x : Act) (l : Lane) : (s.putLane x l).mem = s.mem := rfl
@[simp] theorem State.putLane_office (s : State) (x : Act) (l : Lane) : (s.putLane x l).office = s.office := rfl
@[simp] theorem State.putLane_cons (s : State) (x : Act) (l : Lane) : (s.putLane x l).cons = s.cons := rfl
@[simp] theorem State.putLane_host (s : State) (x : Act) (l : Lane) : (s.putLane x l).host = s.host := rfl
@[simp] theorem State.putLane_pre (s : State) (x : Act) (l : Lane) : (s.putLane x l).pre = s.pre := rfl
@[simp] theorem State.putLane_heat (s : State) (x : Act) (l : Lane) : (s.putLane x l).heat = s.heat := rfl
@[simp] theorem State.putLane_pwr (s : State) (x : Act) (l : Lane) : (s.putLane x l).pwr = s.pwr := rfl
@[simp] theorem State.putLane_lanes (s : State) (x : Act) (l : Lane) : (s.putLane x l).lanes = s.lanes.put x l := rfl

@[simp] theorem State.putRcv_variant (s : State) (r : Recovery) : (s.putRcv r).variant = s.variant := rfl
@[simp] theorem State.putRcv_clockNs (s : State) (r : Recovery) : (s.putRcv r).clockNs = s.clockNs := rfl
@[simp] theorem State.putRcv_potNs (s : State) (r : Recovery) : (s.putRcv r).potNs = s.potNs := rfl
@[simp] theorem State.putRcv_bus (s : State) (r : Recovery) : (s.putRcv r).bus = s.bus := rfl
@[simp] theorem State.putRcv_straps (s : State) (r : Recovery) : (s.putRcv r).straps = s.straps := rfl
@[simp] theorem State.putRcv_tick (s : State) (r : Recovery) : (s.putRcv r).tick = s.tick := rfl
@[simp] theorem State.putRcv_cells (s : State) (r : Recovery) : (s.putRcv r).cells = s.cells := rfl
@[simp] theorem State.putRcv_nand (s : State) (r : Recovery) : (s.putRcv r).nand = s.nand := rfl
@[simp] theorem State.putRcv_psp (s : State) (r : Recovery) : (s.putRcv r).psp = s.psp := rfl
@[simp] theorem State.putRcv_env (s : State) (r : Recovery) : (s.putRcv r).env = s.env := rfl
@[simp] theorem State.putRcv_bootKeys (s : State) (r : Recovery) : (s.putRcv r).bootKeys = s.bootKeys := rfl
@[simp] theorem State.putRcv_desk (s : State) (r : Recovery) : (s.putRcv r).desk = s.desk := rfl
@[simp] theorem State.putRcv_ldg (s : State) (r : Recovery) : (s.putRcv r).ldg = s.ldg := rfl
@[simp] theorem State.putRcv_out (s : State) (r : Recovery) : (s.putRcv r).out = s.out := rfl
@[simp] theorem State.putRcv_pending (s : State) (r : Recovery) : (s.putRcv r).pending = s.pending := rfl
@[simp] theorem State.putRcv_eng (s : State) (r : Recovery) : (s.putRcv r).eng = s.eng := rfl
@[simp] theorem State.putRcv_loops (s : State) (r : Recovery) : (s.putRcv r).loops = s.loops := rfl
@[simp] theorem State.putRcv_pmk (s : State) (r : Recovery) : (s.putRcv r).pmk = s.pmk := rfl
@[simp] theorem State.putRcv_tck (s : State) (r : Recovery) : (s.putRcv r).tck = s.tck := rfl
@[simp] theorem State.putRcv_spn (s : State) (r : Recovery) : (s.putRcv r).spn = s.spn := rfl
@[simp] theorem State.putRcv_motor (s : State) (r : Recovery) : (s.putRcv r).motor = s.motor := rfl
@[simp] theorem State.putRcv_cal (s : State) (r : Recovery) : (s.putRcv r).cal = s.cal := rfl
@[simp] theorem State.putRcv_books (s : State) (r : Recovery) : (s.putRcv r).books = s.books := rfl
@[simp] theorem State.putRcv_lanes (s : State) (r : Recovery) : (s.putRcv r).lanes = s.lanes := rfl
@[simp] theorem State.putRcv_dec (s : State) (r : Recovery) : (s.putRcv r).dec = s.dec := rfl
@[simp] theorem State.putRcv_krx (s : State) (r : Recovery) : (s.putRcv r).krx = s.krx := rfl
@[simp] theorem State.putRcv_bags (s : State) (r : Recovery) : (s.putRcv r).bags = s.bags := rfl
@[simp] theorem State.putRcv_mem (s : State) (r : Recovery) : (s.putRcv r).mem = s.mem := rfl
@[simp] theorem State.putRcv_office (s : State) (r : Recovery) : (s.putRcv r).office = s.office := rfl
@[simp] theorem State.putRcv_cons (s : State) (r : Recovery) : (s.putRcv r).cons = s.cons := rfl
@[simp] theorem State.putRcv_host (s : State) (r : Recovery) : (s.putRcv r).host = s.host := rfl
@[simp] theorem State.putRcv_pre (s : State) (r : Recovery) : (s.putRcv r).pre = s.pre := rfl
@[simp] theorem State.putRcv_heat (s : State) (r : Recovery) : (s.putRcv r).heat = s.heat := rfl
@[simp] theorem State.putRcv_pwr (s : State) (r : Recovery) : (s.putRcv r).pwr = s.pwr := rfl
@[simp] theorem State.putRcv_rcv (s : State) (r : Recovery) : (s.putRcv r).rcv = r := rfl

@[simp] theorem State.lp_putLp (s : State) (x : Act) (l : Loop) : (s.putLp x l).lp x = l := by
  cases x <;> rfl
@[simp] theorem State.lane_putLane_ops (s : State) (x : Act) (l : Lane) : ((s.putLane x l).lane x).ops = l.ops := by
  cases x <;> rfl

/-- A loop replaced twice is replaced once. -/
@[simp] theorem State.putLp_putLp (s : State) (x : Act) (l m : Loop) : (s.putLp x l).putLp x m = s.putLp x m := by
  cases x <;> rfl

end Sys2Proof.Machine
end

