-- ==== Sys2Proof/Tests/Slice0.lean ====
section
/-!
SUPPORT. Tests of the model: states that meet the hypotheses of the statements, ill-formed commands that the check refuses, and small
single steps.
-/
namespace Sys2Proof.Tests
open Sys2Proof.Machine

/-- The device after reset with every switched domain on. -/
def s0 : State := State.reset.setAll [(Reg.SYS_PD_CTRL_ON, 2 ^ 30 - 1), (Reg.SYS_PD_STATUS_ON, 2 ^ 30 - 1)]

/-- A tick in which nothing happens. -/
def tf : TickFacts := ⟨15625, [0, 0, 0, 0], 0, 0, 0, [], none, [], [], [], [], 0, 3900, 24000, 2300, 0, 0, 0, []⟩

/-- An area of the passport without records, and a device that uses it as its factory copy. -/
def area0 : Area := ⟨⟨[], 0, 1, 0, [], 0, []⟩, [], []⟩
def withFactory (s : State) : State := { s with cal := { s.cal with source := some (0, area0) } }

/-- An empty DRAM reads 0. -/
theorem dram_empty (s : State) (a n : Nat) (h : s.cells = []) : s.dram a n = 0 := by
  induction n generalizing a with
  | zero => rfl
  | succ n ih =>
    have z : s.byte a = 0 := by simp [State.byte, h, sGet, sGet?]
    simp [State.dram, ih, z]

/-- An empty DRAM holds no microword. -/
theorem imageWords_empty (s : State) (a w c : Nat) (h : s.cells = []) : s.imageWords a w c = [] := by
  simp [State.imageWords, dram_empty s _ _ h]

/-- Lane A enabled, with one entry of an operation in its ring. -/
def laneState (op : Nat) : State :=
  { s0.setAll [(Reg.CH_CTRL_ENABLE .a, 1), (Reg.CH_CTRL_WRITE_EN .a, 1), (Reg.CH_CTRL_HEAD_EN .a, 255), (Reg.CH_Q_PTR_QTAIL .a, 1),
      (Reg.CH_ZONE_VALID .a 0, 1), (Reg.CH_ZONE_SECTORS .a 0, 10), (Reg.TCK_STATUS_WR_HOLD, 0)] with
    cells := (if op = 0 then [] else [(3, BitVec.ofNat 8 (16 * op))]) ++ [(9, 1)] }

/-- An operation on the media of lane A for sector 0 of track 0 under head 0. -/
def zone0 : Zone := ⟨false, 0, 0, 0, 10, 0, 0, 0, 0, 0, 0, 0, 0, 0, 0, 0, 0, 0, 0, 0⟩
def taps0 : Taps := ⟨[], [], [], [], [], []⟩
def laneOp (op : Nat) (heater : Bool) : LaneOp :=
  ⟨0, op, 0, 0, 1, 0, 0, 1, false, 0, 0, 0, 0, none, 0, true, heater, [], [], 0, false, zone0, taps0, [], none, ⟨none, 0, 0⟩⟩

/-- Lane A with that operation, and its loop on track. -/
def opState (op : Nat) (heater : Bool) (store : List Codeword) : State :=
  { laneState op with lanes := (Four.all Lane.idle).put .a { Lane.idle with ops := [laneOp op heater], store := store, serial := 1 },
                      loops := .all { Loop.cold with parked := false, mode := .follow, onTrack := true, wi := false } }

/-- A place of the recovery store at a rung. -/
def place0 (rung : Nat) : RecPlace := ⟨0, 0, 0, 0, 0, 0, 0x20, 0, 0, 0, false, 0, rung, 2, 0, some 0, false, none, [], 0, 0, 0, false⟩
def placeState (rung : Nat) : State :=
  { s0 with rcv := { State.reset.rcv with places := [(0, place0 rung)] }, clockNs := 250000000 }

/-- A decode job of a kind at the head of the pool's ring, place 0. -/
def jobState (kind rung : Nat) : State :=
  { placeState rung with cells := [(3, BitVec.ofNat 8 (16 * kind)), (6, 255)] }.setAll
    [(Reg.DEC_RJ_PTR_RJTAIL, 1), (Reg.DEC_STATUS_IN_SERVICE, 3)]

/-- A message taken up at the head of a mailbox. -/
def msgState (l : Nat) (ws : List Nat) : State :=
  { s0.setAll [(Reg.CRE_STATUS_STATE, 3), (Reg.CRE_SLICE_EN_EN, 2 ^ 18 - 1)] with
    eng := { s0.eng with mail := [(l, ⟨[⟨ws, 0⟩], [], 1, 0, []⟩)] }, loops := .all { Loop.cold with parked := false, mode := .follow } }

/-- A motion, and an actuator loop in a mode with it. -/
def move0 (k : MotionKind) : Motion := ⟨k, 5, 0, 0, 1, false, 0, some 0, none, false, false, false⟩
def loop0 (m : LoopMode) (k : Option MotionKind) : Loop :=
  { Loop.cold with parked := false, mode := m, cur := k.map move0, onCount := 3 }
def loopState (l : Loop) : State := { s0 with loops := .all l }

/-- The protocol engine running with the dispatch entry of a key valid, both links up, port A addressed, connection 0 open and ready. -/
def conn0 : Conn := { Conn.fresh 0 false 65535 with ready := true }
def netState (key : Nat) : State :=
  { s0.setAll [(Reg.PRE_STATUS_STATE, 3), (Reg.ETH_STATUS_STATE .a, 3), (Reg.ETH_STATUS_STATE .b, 3)] with
    pre := { Pre.cold with store := [(key, 2 ^ 13)] },
    host := { State.reset.host with conns := [(0, conn0)], ports := ⟨{ Port.cold with ip4 := some 1, ip6 := [1] }, Port.cold⟩ } }

/-- A small office: one namespace, one pair of first-class areas, a group open for each purpose, and an in-tray entry of so many blocks. -/
def ns0 : Ns := ⟨0, 896, 0, 14, 0, false, 0, false, [], none, 0, [], []⟩
def tray0 (n : Nat) : TrayEnt := ⟨0, .data, 1, 0, n, 0, 0, [], [], true, []⟩
def group0 (kind : Nat) : Group := ⟨kind, (List.range 16).map fun k => (k, 1), [], [], 0, false, 0, []⟩
def office0 : Office :=
  { Office.cold with areas := 64, pairs := [⟨(0, 0), (1, 0), false⟩], groups := [(0, group0 0), (1, group0 1), (2, group0 2)], nextGroup := 3 }
def sortState (n : Nat) : State :=
  { s0.setAll [(Reg.TCK_STATUS_WR_HOLD, 0), (Reg.SOF_CTRL_ENABLE, 1), (Reg.SOF_MAP_LEN_MAP_PARCELS, 14), (Reg.SOF_J_PTR_SJTAIL, 1),
      (Reg.SOF_FOLD_FOLD_HI, 90), (Reg.SOF_FOLD_FOLD_LO, 80)] with
    office := office0, host := { State.reset.host with nss := [(1, ns0)], tray := [tray0 n] } }

/-- The sorting office's job at the head of its ring, of a kind. -/
def sofState (kind : Nat) : State := { sortState 1 with cells := [(3, BitVec.ofNat 8 (16 * kind))] }

/-- First-class slots to fold. -/
def foldState : State :=
  { (sortState 1).setAll [(Reg.SOF_FOLD_FOLD_HI, 0), (Reg.SOF_FOLD_FOLD_LO, 0)] with
    office := { office0 with fc := (List.range 8).map fun k => (k + 3, ⟨1, k, 67108864 + k, 0, 0⟩) }, clockNs := 100000000000 }
def foldState1 : State := foldState.putOffice { foldState.office with folding := true }

/-- A closed group with one valid parcel, LPN 5, in data member 0. -/
def group3 : Group := { group0 0 with written := [5], closed := true }
def resortState : State :=
  { (sortState 1).set Reg.SOF_FOLD_RESORT_LO 1000 with
    office := { office0 with groups := [(0, group0 0), (1, group0 1), (3, group3)], bands := [(1, { Band.unused 1 with state := 3, valid := 1, group := 3 })] },
    cells := sIns (sIns [] 26 4) 29 64 }
def resortState1 : State := resortState.putOffice { resortState.office with resorting := true }

/-- The consignment engine's job of one sector at the head of its ring, of a kind, with key 7 in slot 0. -/
def cnsState (kind : Nat) : State :=
  { (sortState 1).setAll [(Reg.CNS_CTRL_ENABLE, 1), (Reg.CNS_J_PTR_CJTAIL, 1)] with
    cells := [(3, BitVec.ofNat 8 (16 * kind)), (8, 1)], cons := { Consign.cold with keys := [(0, 7)] } }

/-- The protocol engine with a handler of connection 0 that stands at a microword. -/
def preState (word : Nat) : State := { netState 0x80 with pre := { Pre.cold with store := [(0, word)], handler := some (0x80, 0) } }

/-- Channel 0 of the carrier engines with a docket of 4 bytes from 64 to 128, of an opcode. -/
def dmaState (op : Nat) : State :=
  { s0.setAll [(Reg.DMA_CH_CTRL_ENABLE 0, 1), (Reg.DMA_CH_PTR_TAIL 0, 1)] with
    cells := [(3, BitVec.ofNat 8 (128 + 16 * op)), (4, 4), (8, 64), (16, 128), (28, 255), (29, 255), (30, 255), (31, 255)] }

/-- The strongroom's controller with a command of one page of block 0 of the one-bit area, of an OP. -/
def nandState (op : Nat) : State :=
  { s0.setAll [(Reg.NFC_CTRL_ENABLE, 1), (Reg.NFC_Q_PTR_NQTAIL, 1)] with cells := [(3, BitVec.ofNat 8 (16 * op)), (10, 1)] }

/-- Sensor 0 out of range for eight readings. -/
def hotState : State := { s0 with heat := { s0.heat with sensors := [(0, { Sensor.cold with out := 8 })] } }

/-- A level-4 record at place 0, with its handler. -/
def capRec0 : CapRec := ⟨0x10, 0x05, 4, 1, false, 1, 1, 0, 0, 0, 0, 0, 0, 0, 0, 0, 0⟩
def deskState : State := { s0 with desk := { s0.desk with recs := [(0, capRec0)], current := some 0 } }

/-- A connected host with one command in flight, number 1 on connection 0 of queue `qid`, on NSID 1 of a command set, with the dispatch
entry of a key valid. -/
def assoc1 : Assoc := ⟨0, false, 7, 1, true, 0, 0, [], [], [], []⟩
def capOf (op fctype : Nat) (cdw : List Nat) : Capsule := ⟨op, fctype, 9, 1, cdw, [], [], false⟩
def cmdOf (cap : Capsule) : Cmd := ⟨0, cap, 0, none, 0, 0, 0, [], 0, [], false, false, false, none, false⟩
def nsOf (csi : Nat) : Ns := ⟨csi, 131072, 0, 2048, 0, false, 0, false, [(7, 5)], none, 0, [], []⟩
def hostState (key csi qid : Nat) (c : Cmd) : State :=
  let s := netState key
  { s with host := { s.host with conns := [(0, { conn0 with assoc := some 1, qid := qid, depth := 32 })], assocs := [(1, assoc1)], cmds := [(1, c)],
                                 nss := [(1, nsOf csi)], serial := 2 } }

/-- A write of one block that waits for its bags. -/
def bagState : State :=
  let s := hostState 0x41 0 1 { cmdOf (capOf 1 0 []) with need := 4096 }
  { s with bags := { s.bags with up := true }, mem := { s.mem with erased := List.range 24 } }

/-- A Connect of an admin queue to the discovery subsystem, one of an I/O queue by host 7, an Abort beside a command that waits for lock
entries, and a Firmware Commit of an image that verifies to slot 2. -/
def connectData (host : Nat) (cntlid : List Nat) : List Nat :=
  host :: List.replicate 15 0 ++ cntlid ++ List.replicate 238 0 ++ discoveryName
def connectCmd : Cmd := cmdOf { capOf 0x7F 1 [0, 31, 0] with data := connectData 0 [255, 255] }
def connectState : State := hostState 0 0 0 connectCmd
def connectIo : Cmd := cmdOf { capOf 0x7F 1 [65536, 31, 0] with data := connectData 7 [1, 0] }
def abortState : State :=
  let s := hostState 0 0 0 (cmdOf (capOf 8 0 [589824]))
  s.putCmd 2 { cmdOf (capOf 1 0 []) with noEntry := true }
def commitState : State :=
  let s := hostState 0 0 0 (cmdOf (capOf 16 0 [2]))
  { s.putHost { s.host with image := [(0, [])] } with cal := { State.reset.cal with source := some (0, area0) } }

/-- A Namespace Create of 64 blocks; a shelf-hold asked for 100 ms ago, with the heads parked or not; a Drive Format. -/
def createCmd : Cmd := cmdOf { capOf 13 0 [0, 0] with data := 64 :: List.replicate 7 0 }
def createState : State := { hostState 0 0 0 createCmd with office := { office0 with p := 4096 } }
def offState (parked : Bool) : State :=
  { s0 with host := { s0.host with shelfMs := some 0 }, clockNs := 100000000, loops := .all { Loop.cold with parked := parked } }
def formatState : State := { (hostState 0 0 0 (cmdOf (capOf 0xC2 0 []))) with
  host := { (hostState 0 0 0 (cmdOf (capOf 0xC2 0 []))).host with nss := [] } }

/-- A slot whose key was just generated has it wrapped. -/
theorem wrapped_generateKey (s : State) (k : Nat) : (s.generateKey k).wrapped k =
    some (keyWrap s.kekBytes (leBytes 64 (Config.randomKey s.cons.generated % 2 ^ 512))) := by
  unfold State.wrapped State.generateKey State.putKey
  dsimp only
  split <;> simp [State.putCons, State.setBit, State.set, State.kekBytes, -Nat.reducePow]

/-- A zoned namespace with 256 active zones, and a value of one byte in a bundle. -/
def fullNs : Ns := { nsOf 2 with zones := (List.range 256).map fun k => (k + 2, { HZone.fresh with state := .closed }) }
def kv0 : KvEntry := ⟨1, 1, 0, true, 0⟩

def kvState (c : Cmd) : State :=
  { hostState 0 1 1 c with host := { (hostState 0 1 1 c).host with kv := [(kvKey 1 1 0, kv0)] } }
def deleteState : State := kvState (cmdOf (capOf 16 0 [0, 1]))

/-- A codeword of that operation's sector 0 with its pass as it stands, works of the pool that have ended, and a place whose sector has a
second copy on another surface and a command that waits for it. -/
def cw0 (kind : CwKind) (framing : Nat) (p : Option Pass) : Codeword :=
  ⟨0, 0, kind, 0, 0, 0, 0, 0, 0, 0, 0, Held.nothing, framing, taps0, [], p, [], ⟨0, 0, 1, false, false, false⟩⟩
def pass0 (e : PassEnd) : Pass := ⟨0, 1, 1, 0, 0, 0, 0, [], ⟨[], []⟩, e⟩
def end0 : WorkEnd := ⟨none, 0, 0, 0, []⟩
def work0 (kind : Nat) : Work := { newWork 0 0 0xFF kind 0 3 [] with fin := some end0 }
def workState (kind rung : Nat) : State := { placeState rung with rcv := { (placeState rung).rcv with work := [work0 kind] } }
def earlyState : State :=
  { placeState 3 with cells := [(4, 128)], office := { office0 with fc := [(0, ⟨1, 67108864, 67108864, 0, 0⟩)] },
                      host := { State.reset.host with cmds := [(0, cmdOf (capOf 2 0 []))] } }

/-- Scrambling twice from one seed gives the bytes back (R117). -/
theorem scramble_scramble (r : Nat) (l : List Nat) : scramble r (scramble r l) = l := by
  induction l generalizing r with
  | nil => rfl
  | cons b t ih => simp [scramble, Nat.xor_assoc, ih]

theorem scramble_length (r : Nat) (l : List Nat) : (scramble r l).length = l.length := by
  induction l generalizing r with
  | nil => rfl
  | cons b t ih => simp [scramble, ih]

theorem crc32cBit_lt {c : Nat} (h : c < 2 ^ 32) : crc32cBit c < 2 ^ 32 := by
  unfold crc32cBit
  split
  · exact Nat.xor_lt_two_pow (by omega) (by decide)
  · omega

/-- A CRC-32C has 32 bits. -/
theorem crc32c_lt (l : List Nat) : crc32c l < 2 ^ 32 := by
  unfold crc32c
  refine Nat.xor_lt_two_pow ?_ (by decide)
  have h : ∀ (l : List Nat) (c : Nat), c < 2 ^ 32 → l.foldl (fun c b => crc32cBit (crc32cBit (crc32cBit (crc32cBit (crc32cBit
      (crc32cBit (crc32cBit (crc32cBit (c ^^^ b % 256))))))))) c < 2 ^ 32 := by
    intro l
    induction l with
    | nil => intro c h; exact h
    | cons b t ih =>
      intro c h
      refine ih _ ?_
      iterate 8 refine crc32cBit_lt ?_
      exact Nat.xor_lt_two_pow h (by omega)
  exact h l _ (by decide)

theorem fromBytes_leBytes4 {n : Nat} (h : n < 2 ^ 32) : fromBytes (leBytes 4 n) = n := by
  simp only [leBytes, fromBytes, List.foldr_cons, List.foldr_nil]
  omega

/-- The codeword of zeros for the first sector of the first track is judged good there (R118). -/
theorem judge_zeros : judge 0 0 0 0 (encodeInfo (List.replicate 4096 0) (List.replicate 16 0) 0) = 0 := by
  generalize hl : List.replicate 4096 0 ++ List.replicate 16 0 = body
  have hb : body.length = 4112 := by rw [← hl, List.length_append, List.length_replicate, List.length_replicate]
  have e : encodeInfo (List.replicate 4096 0) (List.replicate 16 0) 0 =
      scramble (scrambleSeed 0) body ++ (leBytes 8 0 ++ (leBytes 4 (crc32c (body ++ leBytes 8 0)) ++ [0, 0, 0, 0])) := by
    unfold encodeInfo
    rw [hl]
    simp only [List.append_assoc]
  rw [e]
  have hs : (scramble (scrambleSeed 0) body).length = 4112 := by rw [scramble_length, hb]
  have d1 : List.drop 4112 (scramble (scrambleSeed 0) body ++ (leBytes 8 0 ++ (leBytes 4 (crc32c (body ++ leBytes 8 0)) ++
      [0, 0, 0, 0]))) = leBytes 8 0 ++ (leBytes 4 (crc32c (body ++ leBytes 8 0)) ++ [0, 0, 0, 0]) := by
    rw [← hs, List.drop_left]
  have d2 : List.drop 4120 (scramble (scrambleSeed 0) body ++ (leBytes 8 0 ++ (leBytes 4 (crc32c (body ++ leBytes 8 0)) ++
      [0, 0, 0, 0]))) = leBytes 4 (crc32c (body ++ leBytes 8 0)) ++ [0, 0, 0, 0] := by
    rw [show 4120 = 4112 + 8 from rfl, ← List.drop_drop, d1]
    rfl
  have t1 : List.take 4112 (scramble (scrambleSeed 0) body ++ (leBytes 8 0 ++ (leBytes 4 (crc32c (body ++ leBytes 8 0)) ++
      [0, 0, 0, 0]))) = scramble (scrambleSeed 0) body := by rw [← hs, List.take_left]
  have i0 : infoIdentity (scramble (scrambleSeed 0) body ++ (leBytes 8 0 ++ (leBytes 4 (crc32c (body ++ leBytes 8 0)) ++
      [0, 0, 0, 0]))) = 0 := by
    unfold infoIdentity
    rw [d1]
    rfl
  have c : infoCrcOk (scramble (scrambleSeed 0) body ++ (leBytes 8 0 ++ (leBytes 4 (crc32c (body ++ leBytes 8 0)) ++
      [0, 0, 0, 0]))) 0 = true := by
    unfold infoCrcOk infoBody
    rw [t1, d1, d2, scramble_scramble]
    have a : (leBytes 4 (crc32c (body ++ leBytes 8 0)) ++ [0, 0, 0, 0]).take 4 = leBytes 4 (crc32c (body ++ leBytes 8 0)) := rfl
    rw [a, fromBytes_leBytes4 (crc32c_lt _)]
    exact beq_self_eq_true _
  unfold judge placeIdentity
  rw [i0]
  dsimp only
  rw [show identityOf 0 0 0 0 = 0 from rfl, c]
  rfl

set_option linter.unusedVariables false
set_option Elab.async false

/-! ### Ill-formed commands -/

/-- Ill-formed commands, registerWrite to positionErrorDelivery. -/
theorem test_ill_formed_0 :
    wellFormed (.registerWrite .courier 4294967296 0 none) = false ∧
    wellFormed (.registerWrite .courier 0 9 none) = false ∧
    wellFormed (.linkUp .a 0 0) = false ∧
    wellFormed (.linkUp .a 3 0) = false ∧
    wellFormed (.linkUp .a 1 3) = false ∧
    wellFormed (.addressBound .a true 340282366920938463463374607431768211456) = false ∧
    wellFormed (.pdCtrlWrite .courier 4294967296) = false ∧
    wellFormed (.pdSwitchComplete 30) = false ∧
    wellFormed (.envelopeOpen 5) = false ∧
    wellFormed (.stagedCopyWrite .courier 4294967296 0 0) = false ∧
    wellFormed (.stagedCopyWrite .courier 0 9 0) = false ∧
    wellFormed (.stagedCopyWrite .courier 0 0 4294967296) = false ∧
    wellFormed (.envelopeSeal 5) = false ∧
    wellFormed (.envelopePost 5 0) = false ∧
    wellFormed (.envelopeAbort 5) = false ∧
    wellFormed (.deviceRecordRewrite 4) = false ∧
    wellFormed (.mailboxPost 5 0 []) = false ∧
    wellFormed (.mailboxPost 0 5 []) = false ∧
    wellFormed (.mailboxPost 0 0 (List.replicate 17 0)) = false ∧
    wellFormed (.mailboxDeliver 5 0) = false ∧
    wellFormed (.pmkStreamValid 4 0 ⟨0, 0⟩ ⟨0, 0⟩) = false ∧
    wellFormed (.pmkStreamDrop 4 (.index none)) = false ∧
    wellFormed (.positionErrorDelivery .a 65536 0 0 0 0 0) = false ∧
    wellFormed (.positionErrorDelivery .a 0 1024 0 0 0 0) = false := by decide +kernel

/-- Ill-formed commands, positionErrorDelivery to decoderHalfLoss. -/
theorem test_ill_formed_1 :
    wellFormed (.positionErrorDelivery .a 0 0 16777216 0 0 0) = false ∧
    wellFormed (.positionErrorDelivery .a 0 0 0 16 0 0) = false ∧
    wellFormed (.creDmDataAccess .courier (some 4294967296)) = false ∧
    wellFormed (.injectionEnd 4) = false ∧
    wellFormed (.captureEnd 4) = false ∧
    wellFormed (.laneQtailWrite .courier .a 512) = false ∧
    wellFormed (.sectorStart .a 4096 true true []) = false ∧
    wellFormed (.sectorStart .a 0 true true (List.replicate 3 ⟨0, [], []⟩)) = false ∧
    wellFormed (.firstPassDone .a 4096 0 true) = false ∧
    wellFormed (.firstPassDone .a 0 2 true) = false ∧
    wellFormed (.recoveryStoreCopyDone .a 4096 none 0 0) = false ∧
    wellFormed (.recoveryStoreCopyDone .a 0 none 281474976710656 0) = false ∧
    wellFormed (.recoveryStoreCopyDone .a 0 none 0 64) = false ∧
    wellFormed (.decoderFrameStart 2) = false ∧
    wellFormed (.receiptDecided .a 4096 0) = false ∧
    wellFormed (.receiptDecided .a 0 2) = false ∧
    wellFormed (.headEnClear .courier .a 256) = false ∧
    wellFormed (.zoneEntryValidate .courier .a 512 0) = false ∧
    wellFormed (.zoneEntryValidate .courier .a 0 4294967296) = false ∧
    wellFormed (.zoneEntryCheckDone .a 512) = false ∧
    wellFormed (.zoneEntryInvalidate .courier .a 512 0 0) = false ∧
    wellFormed (.zoneEntryInvalidate .courier .a 0 8 0) = false ∧
    wellFormed (.zoneEntryInvalidate .courier .a 0 0 4294967296) = false ∧
    wellFormed (.decoderHalfLoss 2) = false := by decide +kernel

/-- Ill-formed commands, decoderHalfEnable to wakeSend. -/
theorem test_ill_formed_2 :
    wellFormed (.decoderHalfEnable .courier 2) = false ∧
    wellFormed (.decoderHalfDisable .courier 2) = false ∧
    wellFormed (.recoveryJobPost .courier 512) = false ∧
    wellFormed (.decodeSampleArea 2) = false ∧
    wellFormed (.decodeRunningSum 2) = false ∧
    wellFormed (.heldSampleRungsDone 256 0) = false ∧
    wellFormed (.heldSampleRungsDone 0 2) = false ∧
    wellFormed (.earlyReconstructionStart 256) = false ∧
    wellFormed (.ladderTimeLimit 256) = false ∧
    wellFormed (.load .a 65536) = false ∧
    wellFormed (.emergencyUnload 0 .a) = false ∧
    wellFormed (.emergencyUnload 7 .a) = false ∧
    wellFormed (.preampFault .a 65536) = false ∧
    wellFormed (.aspFrameSend .courier .a true 128 0 0) = false ∧
    wellFormed (.aspFrameSend .courier .a true 0 65536 0) = false ∧
    wellFormed (.aspFrameSend .courier .a true 0 0 65536) = false ∧
    wellFormed (.legFault 4) = false ∧
    wellFormed (.beaconReceived (List.replicate 301 0)) = false ∧
    wellFormed (.statusReceived (List.replicate 301 0) true) = false ∧
    wellFormed (.claimReceived (List.replicate 301 0)) = false ∧
    wellFormed (.transmitMismatch 0) = false ∧
    wellFormed (.transmitMismatch 4) = false ∧
    wellFormed (.frkTargetWrite .courier 256) = false ∧
    wellFormed (.wakeSend .courier true 64) = false := by decide +kernel

/-- Ill-formed commands, presentNAssert to capsuleTake. -/
theorem test_ill_formed_3 :
    wellFormed (.presentNAssert 64) = false ∧
    wellFormed (.sofJobPost .courier 512) = false ∧
    wellFormed (.directPlacement 0 0) = false ∧
    wellFormed (.directPlacement 65 0) = false ∧
    wellFormed (.directPlacement 1 281474976710656) = false ∧
    wellFormed (.reSorting 28) = false ∧
    wellFormed (.zoneFinishRecommended 0 0) = false ∧
    wellFormed (.zoneFinishRecommended 65 0) = false ∧
    wellFormed (.zoneFinishByController 0 0) = false ∧
    wellFormed (.zoneFinishByController 65 0) = false ∧
    wellFormed (.cnsJobPost .courier 512) = false ∧
    wellFormed (.loadWrappedKey .courier 64) = false ∧
    wellFormed (.generateKey .courier 64) = false ∧
    wellFormed (.clearKeySlot .courier 64) = false ∧
    wellFormed (.kekLoad .courier 4294967296) = false ∧
    wellFormed (.headRetirement 32 1) = false ∧
    wellFormed (.headRetirement 0 0) = false ∧
    wellFormed (.headRetirement 0 6) = false ∧
    wellFormed (.icreq 160 0 true true 0) = false ∧
    wellFormed (.icreq 0 65536 true true 0) = false ∧
    wellFormed (.icreq 0 0 true true 4294967296) = false ∧
    wellFormed (.h2cTermReq 160) = false ∧
    wellFormed (.capsuleCmd 161 ⟨0, 0, 0, 0, [], [], [], false⟩ true) = false ∧
    wellFormed (.capsuleTake 160 0 0) = false := by decide +kernel

/-- Ill-formed commands, tcpSyn to phcWindowWrite. -/
theorem test_ill_formed_4 :
    wellFormed (.tcpSyn .a true 340282366920938463463374607431768211456 0 0) = false ∧
    wellFormed (.tcpSyn .a true 0 65536 0) = false ∧
    wellFormed (.tcpFin 160) = false ∧
    wellFormed (.tcpRst 160) = false ∧
    wellFormed (.tcpAck 160 0 0) = false ∧
    wellFormed (.tcpOutOfOrder 160) = false ∧
    wellFormed (.retransmissionTimer 160) = false ∧
    wellFormed (.delayedAckTimer 160) = false ∧
    wellFormed (.arp .a 4294967296) = false ∧
    wellFormed (.asynchronousEvent 8 0) = false ∧
    wellFormed (.asynchronousEvent 0 256) = false ∧
    wellFormed (.corePostedEvent .courier 65536 0 0) = false ∧
    wellFormed (.corePostedEvent .courier 0 256 0) = false ∧
    wellFormed (.corePostedEvent .courier 0 0 256) = false ∧
    wellFormed (.sanitize 0 7) = false ∧
    wellFormed (.readNvmeMiDataStructure 256 0) = false ∧
    wellFormed (.readNvmeMiDataStructure 0 65536) = false ∧
    wellFormed (.configurationSet 256) = false ∧
    wellFormed (.vpdRead 65536 0) = false ∧
    wellFormed (.vpdRead 0 65537) = false ∧
    wellFormed (.bpmAlloc .courier 4 0) = false ∧
    wellFormed (.bpmRelease .courier 4294967296) = false ∧
    wellFormed (.bpmShare .courier 4294967296) = false ∧
    wellFormed (.phcWindowWrite .courier 4 true 0) = false := by decide +kernel

/-- Ill-formed commands, phcWindowWrite to ldgCommit. -/
theorem test_ill_formed_5 :
    wellFormed (.phcWindowWrite .courier 0 true 4294967296) = false ∧
    wellFormed (.dmaTailWrite .courier 64 0) = false ∧
    wellFormed (.dmaTailWrite .courier 0 512) = false ∧
    wellFormed (.copy 64 [] .good) = false ∧
    wellFormed (.fill 64 .good) = false ∧
    wellFormed (.copyAndWriteCrc 64 [] .good) = false ∧
    wellFormed (.copyAndCheckCrc 64 [] .good) = false ∧
    wellFormed (.dmaResume .courier 64) = false ∧
    wellFormed (.dmaStop .courier 64 0) = false ∧
    wellFormed (.dmaStop .courier 0 67108865) = false ∧
    wellFormed (.nandQtailWrite .courier 512) = false ∧
    wellFormed (.nandRead 512 true 0 true) = false ∧
    wellFormed (.nandProgram 512 0 true true) = false ∧
    wellFormed (.nandProgram 0 8 true true) = false ∧
    wellFormed (.nandErase 512 0 true true) = false ∧
    wellFormed (.nandErase 0 8 true true) = false ∧
    wellFormed (.sensorBroken 8) = false ∧
    wellFormed (.tripDiodeBroken 2) = false ∧
    wellFormed (.hardwareTrip 2 0) = false ∧
    wellFormed (.coreFault 5) = false ∧
    wellFormed (.fltDone .courier true 128) = false ∧
    wellFormed (.faultInjectionArm .courier 8 0 true) = false ∧
    wellFormed (.faultInjectionArm .courier 0 4 true) = false ∧
    wellFormed (.ldgCommit 5) = false := by decide +kernel

/-- Ill-formed commands, ldgValueWrite to invalidPduType. -/
theorem test_ill_formed_6 :
    wellFormed (.ldgValueWrite .courier 5 0) = false ∧
    wellFormed (.ldgValueWrite .courier 0 4294967296) = false ∧
    wellFormed (.kerrexFrameDiscard (List.replicate 301 0) true true) = false ∧
    wellFormed (.invalidPduType 160 0) = false ∧
    wellFormed (.invalidPduType 0 16) = false := by decide +kernel

/-! ### Single steps -/

/-- The worked example of a staged address in the scope chapter. -/
theorem test_staged_address : isStaged 0x40108040 = true ∧ liveOf 0x40108040 = 0x40100040 := by decide

/-- The check value of CRC-32C, the digits 1 to 9, from the literature. -/
theorem test_crc32c : crc32c [0x31, 0x32, 0x33, 0x34, 0x35, 0x36, 0x37, 0x38, 0x39] = 0xE3069283 := by decide +kernel

/-- The check value of CRC-16 with polynomial 0x1021 and initial value 0xFFFF, from the literature. -/
theorem test_crc16 : crc16 [0x31, 0x32, 0x33, 0x34, 0x35, 0x36, 0x37, 0x38, 0x39] = 0x29B1 := by decide +kernel

/-- The coefficient worked out under R343. -/
theorem test_cauchy : cauchy 2 0 0 = 0x8E := by decide +kernel

/-- A narrow write ends in a bus error (R6). -/
theorem test_narrow_write : (match exec (.registerWrite (.core 1) 0x40300020 2 (some 1)) s0 with
    | .next t => decide (t.bus = .error)
    | _ => false) = true := by decide +kernel

/-- A carrier engine reaches no tick-bound unit (R20). -/
theorem test_class_b : (match exec (.registerWrite .carrier 0x40200000 4 (some 1)) s0 with
    | .next t => decide (t.bus = .error)
    | _ => false) = true := by decide +kernel

/-- A wrapping and a saturating sum (R171). -/
theorem test_sums : aluResult 2 0x7FFFFFFF 1 = (0x80000000, true) ∧ aluResult 4 0x7FFFFFFF 1 = (0x7FFFFFFF, true) := by decide

/-- The absolute value of the most negative number saturates (R171). -/
theorem test_abs : aluResult 0x0D 0x80000000 0 = (0x7FFFFFFF, true) := by decide

/-- A product of 1.0 and 1.0, and the rounding half up (R172). -/
theorem test_mac : (macResult 1 0 0x10000 0x10000).1 = 65536 ∧ (macResult 1 0 1 0x8000).1 = 1 := by decide

/-- A clamp pair whose LO exceeds HI limits to LO under SAT and holds under HOLD (R173). -/
theorem test_clamp : clampUnit 1 5 3 4 = (5, true, true) ∧ clampUnit 2 5 3 4 = (4, false, true) := by decide

/-- The fields of a microword at both ends (R164). -/
theorem test_microword : (MW.ofNat (9 * 2 ^ 188)).seq = 9 ∧ (MW.ofNat (0x2A * 2 ^ 143 + 7)).d = 0x2A ∧
    (MW.ofNat 7).imm = 7 := by decide

/-- A handle beyond the bags of its pool names none (R408). -/
theorem test_ill_placed_handle : bagNamed (3 * 2 ^ 30 + 4096) = false ∧ bagNamed (3 * 2 ^ 30 + 4095) = true := by decide

/-- The digest of "abc", from FIPS 180-4 (R36). -/
theorem test_sha384 : sha384 [0x61, 0x62, 0x63] = [0xCB, 0x00, 0x75, 0x3F, 0x45, 0xA3, 0x5E, 0x8B, 0xB5, 0xA0, 0x3D, 0x69, 0x9A, 0xC6, 0x50, 0x07, 0x27, 0x2C, 0x32, 0xAB,
    0x0E, 0xDE, 0xD1, 0x63, 0x1A, 0x8B, 0x60, 0x5A, 0x43, 0xFF, 0x5B, 0xED, 0x80, 0x86, 0x07, 0x2B, 0xA1, 0xE7, 0xCC, 0x23,
    0x58, 0xBA, 0xEC, 0xA1, 0x34, 0xC8, 0x25, 0xA7] := by decide +kernel

/-- A public key of P-384 and a signature of its owner over "abc". -/
def testKey : List Nat :=
    [0x04, 0xFB, 0xF9, 0x60, 0x95, 0x91, 0x5E, 0xB5, 0x87, 0x39, 0x0F, 0x85, 0x0E, 0xC9, 0x5B, 0x35, 0xF6, 0x18, 0xAE, 0x12,
    0x1C, 0x72, 0xA7, 0x08, 0x08, 0xAD, 0x8F, 0x9F, 0x4C, 0x26, 0x1B, 0x60, 0x2B, 0x63, 0x54, 0x17, 0x43, 0xE3, 0x95, 0xF7,
    0xC7, 0x78, 0xE5, 0x2B, 0xB2, 0x8C, 0x18, 0xDC, 0x83, 0x01, 0x6A, 0x6F, 0xF3, 0xF7, 0x2C, 0x93, 0x68, 0x32, 0x6A, 0xD5,
    0x0A, 0x3B, 0xD1, 0x48, 0xA5, 0x3C, 0xD2, 0x21, 0x3B, 0xB4, 0x80, 0xE4, 0x73, 0x0A, 0xD0, 0x19, 0xDB, 0x87, 0xAE, 0x10,
    0x09, 0x95, 0xEC, 0x65, 0xDF, 0x01, 0x1E, 0x19, 0x81, 0x1A, 0x15, 0xDC, 0x9D, 0xDF, 0xC9, 0xAB, 0x3C]
def testSignature : List Nat :=
    [0xA2, 0x5C, 0x06, 0x83, 0x6A, 0x6D, 0xF8, 0x43, 0x2F, 0x08, 0x22, 0x66, 0x7F, 0x8D, 0x89, 0xD5, 0xB4, 0x96, 0xA6, 0xDF,
    0xA3, 0x17, 0x2C, 0x4F, 0x70, 0x53, 0x7E, 0xE5, 0x7B, 0x29, 0xE9, 0xC9, 0xDC, 0x5F, 0xE7, 0xA3, 0x19, 0x4F, 0x6F, 0xD9,
    0xFE, 0x3C, 0x90, 0x05, 0x9F, 0xF6, 0xE2, 0x5A, 0x36, 0x64, 0xFA, 0x36, 0xB5, 0xA3, 0x70, 0x8A, 0xEB, 0xE1, 0xBF, 0xF5,
    0x8C, 0x78, 0x4D, 0x30, 0xC4, 0xE2, 0xFE, 0xA2, 0x5D, 0x36, 0x74, 0x01, 0x46, 0xC0, 0x20, 0xA7, 0xCE, 0x33, 0x0C, 0x20,
    0xFC, 0x6D, 0xF6, 0x94, 0xA3, 0x41, 0xC7, 0xE4, 0x89, 0xC0, 0x33, 0x90, 0x5B, 0xE7, 0x74, 0xA5]

/-- A signature over P-384 made by hand from the curve's definition in FIPS 186 verifies, and not for another message (R36, R41). -/
theorem test_ecdsa : ecdsaVerifies testKey [0x61, 0x62, 0x63] testSignature = true ∧ ecdsaVerifies testKey [0x61, 0x62] testSignature = false := by decide +kernel

/-! ### The hypotheses of the statements are met -/

/-- A state and operands that meet the hypotheses of LevelsBeyondTheRatingsStop, clause by clause. -/
theorem witness_LevelsBeyondTheRatingsStop :
    (∃ (volts : Nat) (fit : Option Fitment) (s : State), (300 < volts)) ∧
    (∃ (volts : Nat) (fit : Option Fitment) (s : State), (400 < volts)) ∧
    (∃ (mv : Nat) (facts : StartFacts) (s : State), (33000 < mv)) ∧
    (∃ (mv : Nat) (s : State), (33000 < mv)) ∧
    (∃ (mv : Nat) (s : State), (33000 < mv)) ∧
    (∃ (f : TickFacts) (s : State), (33000 < f.dbus)) :=
  ⟨⟨301, none, s0, by decide +kernel⟩,
    ⟨401, none, s0, by decide +kernel⟩,
    ⟨33001, ⟨0, true, 31, 3, 0, true, 900, []⟩, s0, by decide +kernel⟩,
    ⟨33001, s0, by decide +kernel⟩,
    ⟨33001, s0, by decide +kernel⟩,
    ⟨{ tf with dbus := 33001 }, s0, by decide +kernel⟩⟩

/-- A state and operands that meet the hypotheses of PowerEntryRuns, clause by clause. -/
theorem witness_PowerEntryRuns :
    (∃ (volts : Nat) (ac : Bool) (fit : Option Fitment) (s : State), (s.get Reg.PWR_STATUS_DBUS_VALID = 0) ∧ (s.get Reg.PWR_STATUS_PHASE = 0) ∧ ((ac = true → 85 ≤ volts ∧ volts ≤ 277)) ∧ ((ac = false → 120 ≤ volts ∧ volts ≤ 380))) ∧
    (∃ (volts : Nat) (s : State), (s.pwr.mains = true) ∧ (s.pwr.chosen = false)) ∧
    (∃ (volts : Nat) (s : State), (s.pwr.mains = true) ∧ (s.pwr.chosen = false) ∧ (120 ≤ volts)) ∧
    (∃ (bulk heldMs : Nat) (s : State), (s.pwr.mains = true) ∧ ((s.pwr.chosen = true ∨ s.pwr.cause = 1)) ∧ (s.get Reg.PWR_STATUS_PHASE = 0) ∧ (s.pwr.llc = false) ∧ (3500 < bulk) ∧ (s.recMs ≤ heldMs)) ∧
    (∃ (mv : Nat) (facts : StartFacts) (s : State), (s.pwr.llc = true) ∧ (s.get Reg.PWR_STATUS_DBUS_VALID = 0) ∧ (22800 < mv) ∧ (mv ≤ 33000) ∧ (s.desk.grave = none) ∧ (s.pwr.offMs = none)) ∧
    (∃ (mv : Nat) (facts : StartFacts) (s : State), (s.pwr.llc = true) ∧ (s.get Reg.PWR_STATUS_DBUS_VALID = 0) ∧ (22800 < mv) ∧ (mv ≤ 33000) ∧ ((s.desk.grave.isSome = true ∨ s.pwr.offMs.isSome = true))) ∧
    (∃ (mv : Nat) (s : State), (s.pwr.llc = true) ∧ (mv ≤ 33000)) :=
  ⟨⟨85, true, none, State.reset, by decide +kernel⟩,
    ⟨0, { s0 with pwr := { Pwr.cold with mains := true } }, by decide +kernel⟩,
    ⟨120, { s0 with pwr := { Pwr.cold with mains := true } }, by decide +kernel⟩,
    ⟨3501, 255, { State.reset with pwr := { Pwr.cold with mains := true, chosen := true } }, by decide +kernel⟩,
    ⟨22801, ⟨0, true, 31, 3, 0, true, 900, []⟩, { State.reset with pwr := { Pwr.cold with mains := true, llc := true } }, by decide +kernel⟩,
    ⟨22801, ⟨0, true, 31, 3, 0, true, 900, []⟩, { State.reset with pwr := { Pwr.cold with mains := true, llc := true, offMs := some 0 } }, by decide +kernel⟩,
    ⟨24500, { State.reset with pwr := { Pwr.cold with mains := true, llc := true } }, by decide +kernel⟩⟩

/-- A state and operands that meet the hypotheses of MainsLossRuns, clause by clause. -/
theorem witness_MainsLossRuns :
    (∃ (silentMs bulk : Nat) (s : State), (s.get Reg.PWR_STATUS_PHASE = 1) ∧ (s.get Reg.PWR_STATUS_DC_MODE = 0) ∧ (s.zcMs ≤ silentMs)) ∧
    (∃ (silentMs bulk : Nat) (s : State), (s.get Reg.PWR_STATUS_PHASE = 1) ∧ (bulk < s.warnLevel)) ∧
    (∃ (bulk heldMs : Nat) (s : State), (s.recLevel < bulk) ∧ (s.recMs ≤ heldMs) ∧ (s.get Reg.PWR_STATUS_PHASE = 2) ∧ (s.pwr.flushing = false)) ∧
    (∃ (bulk heldMs : Nat) (s : State), (s.recLevel < bulk) ∧ (s.recMs ≤ heldMs) ∧ (s.get Reg.PWR_STATUS_PHASE = 2) ∧ (s.pwr.flushing = true)) ∧
    (∃ (bulk heldMs : Nat) (s : State), (s.recLevel < bulk) ∧ (s.recMs ≤ heldMs) ∧ (s.get Reg.PWR_STATUS_PHASE = 3)) ∧
    (∃ (bulk mv : Nat) (s u : State), (s.get Reg.PWR_STATUS_PHASE = 2) ∧ ((s.pwr.warnMs + s.lossMs ≤ s.ms ∨ bulk < s.lossLevel ∨ s.headsAtRisk = true ∨ mv < 21000)) ∧ (u = ({ ((s.set Reg.PWR_STATUS_PHASE 3).inc Reg.PWR_COUNTS_DECLARED).set Reg.PWR_INT_DECLARED 1 with
        pwr := { s.pwr with declaredMs := s.ms } }).emUnloadAll 0x2) ∧ ((u.host.cmds.foldl (fun t p => t.answer p.1 interrupted) u).pwr.flushing = true)) ∧
    (∃ (s : State), (s.get Reg.PWR_STATUS_PHASE = 3) ∧ (s.pwr.declaredMs + 10 ≤ s.ms)) ∧
    (∃ (i : Initiator) (s : State), (s.reaches i 0x40300000 = true) ∧ (s.pwr.flushing = true)) ∧
    (∃ (bulk mv us : Nat) (s : State), ((s.pwr.llc = true ∨ s.get Reg.PWR_STATUS_PHASE ≠ 0)) ∧ ((bulk ≤ 1900 ∨ (s.pwr.llc = true ∧ mv < 18000 ∧ 1000 ≤ us ∧ bulk ≤ 2500)))) :=
  ⟨⟨20, 3900, (s0.setAll [(Reg.PWR_STATUS_PHASE, 1), (Reg.PWR_STATUS_DBUS_VALID, 1)]), by decide +kernel⟩,
    ⟨0, 3199, (s0.setAll [(Reg.PWR_STATUS_PHASE, 1), (Reg.PWR_STATUS_DBUS_VALID, 1)]), by decide +kernel⟩,
    ⟨3701, 255, (s0.setAll [(Reg.PWR_STATUS_PHASE, 2), (Reg.PWR_STATUS_DBUS_VALID, 1)]), by decide +kernel⟩,
    ⟨3701, 255, { (s0.setAll [(Reg.PWR_STATUS_PHASE, 2), (Reg.PWR_STATUS_DBUS_VALID, 1)]) with pwr := { Pwr.cold with flushing := true } }, by decide +kernel⟩,
    ⟨3701, 255, (s0.setAll [(Reg.PWR_STATUS_PHASE, 3), (Reg.PWR_STATUS_DBUS_VALID, 1)]), by decide +kernel⟩,
    ⟨0, 20999, { (s0.setAll [(Reg.PWR_STATUS_PHASE, 2), (Reg.PWR_STATUS_DBUS_VALID, 1)]) with pwr := { Pwr.cold with flushing := true } }, ({ (({ (s0.setAll [(Reg.PWR_STATUS_PHASE, 2), (Reg.PWR_STATUS_DBUS_VALID, 1)]) with pwr := { Pwr.cold with flushing := true } }.set Reg.PWR_STATUS_PHASE 3).inc Reg.PWR_COUNTS_DECLARED).set Reg.PWR_INT_DECLARED 1 with pwr := { { (s0.setAll [(Reg.PWR_STATUS_PHASE, 2), (Reg.PWR_STATUS_DBUS_VALID, 1)]) with pwr := { Pwr.cold with flushing := true } }.pwr with declaredMs := { (s0.setAll [(Reg.PWR_STATUS_PHASE, 2), (Reg.PWR_STATUS_DBUS_VALID, 1)]) with pwr := { Pwr.cold with flushing := true } }.ms } }).emUnloadAll 0x2, by decide +kernel⟩,
    ⟨{ (s0.setAll [(Reg.PWR_STATUS_PHASE, 3), (Reg.PWR_STATUS_DBUS_VALID, 1)]) with clockNs := 10000000 }, by decide +kernel⟩,
    ⟨.core 0, { (s0.setAll [(Reg.PWR_STATUS_PHASE, 2), (Reg.PWR_STATUS_DBUS_VALID, 1)]) with pwr := { Pwr.cold with flushing := true } }, by decide +kernel⟩,
    ⟨1900, 0, 0, (s0.setAll [(Reg.PWR_STATUS_PHASE, 1), (Reg.PWR_STATUS_DBUS_VALID, 1)]), by decide +kernel⟩⟩

/-- A state and operands that meet the hypotheses of DrivePowerCyclesRun, clause by clause. -/
theorem witness_DrivePowerCyclesRun :
    (∃ (bulk mv us : Nat) (s : State), (s.pwr.llc = true) ∧ (s.get Reg.PWR_STATUS_DBUS_VALID ≠ 0) ∧ (mv < 18000) ∧ (1000 ≤ us) ∧ (2500 < bulk)) ∧
    (∃ (silentMs bootMs : Nat) (s : State), (2000 ≤ silentMs) ∧ (s.get Reg.PWR_STATUS_PHASE ≠ 0) ∧ (s.get Reg.PWR_STATUS_PHASE ≠ 4) ∧ (s.get Reg.SYS_BOOT_MODE ≠ 2)) ∧
    (∃ (thermal : Bool) (s : State), (s.desk.grave = some thermal) ∧ (s.desk.deferred = false) ∧ (s.pwr.offMs = none) ∧ (s.headsOff = false) ∧ (thermal = false)) ∧
    (∃ (s : State), (s.desk.grave = some true) ∧ (s.desk.deferred = false) ∧ (s.pwr.offMs = none) ∧ (s.headsOff = false)) ∧
    (∃ (facts : StartFacts) (t : Nat) (s : State), (s.pwr.offMs = some t) ∧ (t + 100 ≤ s.ms) ∧ (s.get Reg.THM_STATUS_STATE ≠ 4) ∧ (s.get Reg.PWR_STATUS_DBUS_VALID ≠ 0)) ∧
    (∃ (facts : StartFacts) (off t : Nat) (s : State), (s.pwr.offMs = some off) ∧ (s.pwr.thermalMs = some t) ∧ (s.get Reg.THM_STATUS_STATE = 4) ∧ (t + 60000 ≤ s.ms) ∧ (s.junction ≤ level16 (min 95 (s.get Reg.THM_LVL_WARN))) ∧ (s.get Reg.PWR_STATUS_DBUS_VALID ≠ 0)) ∧
    (∃ (n bootMs : Nat) (fac : Area) (s : State), (s.factory = some (n, fac)) ∧ (s.get Reg.PWR_STATUS_PHASE ≠ 0) ∧ (s.get Reg.PWR_STATUS_PHASE ≠ 4) ∧ (s.get Reg.SYS_BOOT_MODE ≠ 2)) :=
  ⟨⟨2501, 17999, 1000, { (s0.setAll [(Reg.PWR_STATUS_PHASE, 1), (Reg.PWR_STATUS_DBUS_VALID, 1)]) with pwr := { Pwr.cold with llc := true } }, by decide +kernel⟩,
    ⟨2000, 0, (s0.setAll [(Reg.PWR_STATUS_PHASE, 1), (Reg.PWR_STATUS_DBUS_VALID, 1)]), by decide +kernel⟩,
    ⟨false, { (s0.setAll [(Reg.PWR_STATUS_PHASE, 1), (Reg.PWR_STATUS_DBUS_VALID, 1)]) with desk := { State.reset.desk with grave := some false } }, by decide +kernel⟩,
    ⟨{ (s0.setAll [(Reg.PWR_STATUS_PHASE, 1), (Reg.PWR_STATUS_DBUS_VALID, 1)]) with desk := { State.reset.desk with grave := some true } }, by decide +kernel⟩,
    ⟨⟨0, true, 31, 3, 0, true, 900, []⟩, 0, { (s0.setAll [(Reg.PWR_STATUS_PHASE, 1), (Reg.PWR_STATUS_DBUS_VALID, 1)]) with clockNs := 100000000, pwr := { Pwr.cold with offMs := some 0 } }, by decide +kernel⟩,
    ⟨⟨0, true, 31, 3, 0, true, 900, []⟩, 0, 0, { (s0.setAll [(Reg.PWR_STATUS_PHASE, 1), (Reg.PWR_STATUS_DBUS_VALID, 1), (Reg.THM_STATUS_STATE, 4)]) with clockNs := 60000000000, pwr := { Pwr.cold with offMs := some 0, thermalMs := some 0 } }, by decide +kernel⟩,
    ⟨0, 0, area0, withFactory (s0.setAll [(Reg.PWR_STATUS_PHASE, 1), (Reg.PWR_STATUS_DBUS_VALID, 1)]), by decide +kernel⟩⟩

/-- A state and operands that meet the hypotheses of ChopperRuns, clause by clause. -/
theorem witness_ChopperRuns :
    (∃ (mv : Nat) (s : State), (mv ≤ 33000) ∧ (20000 + 100 * s.get Reg.PWR_DBUS_LVL_CHOP_ON ≤ mv) ∧ (s.get Reg.PWR_STATUS_CHOP_ON = 0) ∧ (s.get Reg.PWR_STATUS_CHOP_FAULT = 0)) ∧
    (∃ (mv : Nat) (s : State), (mv < 20000 + 100 * s.get Reg.PWR_DBUS_LVL_CHOP_OFF)) ∧
    (∃ (mv ma us : Nat) (s : State), (s.get Reg.PWR_STATUS_CHOP_ON ≠ 0) ∧ (20 * ma < mv) ∧ (20 ≤ us)) ∧
    (∃ (mv ma us : Nat) (rising : Bool) (s : State), (s.get Reg.PWR_STATUS_CHOP_ON = 0) ∧ (0 < ma)) ∧
    (∃ (i : Initiator) (s : State), (s.reaches i 0x40300000 = true) ∧ (s.get Reg.PWR_STATUS_PHASE = 1)) ∧
    (∃ (i : Initiator) (s : State), (s.reaches i 0x40300000 = true) ∧ (s.get Reg.PWR_STATUS_PHASE = 1)) ∧
    (∃ (i : Initiator) (passes : Bool) (s : State), (s.reaches i 0x40300000 = true) ∧ (s.get Reg.PWR_STATUS_PHASE ≠ 1)) :=
  ⟨⟨33000, (s0.setAll [(Reg.PWR_STATUS_PHASE, 1), (Reg.PWR_STATUS_DBUS_VALID, 1)]), by decide +kernel⟩,
    ⟨20000, (s0.setAll [(Reg.PWR_STATUS_PHASE, 1), (Reg.PWR_STATUS_DBUS_VALID, 1)]), by decide +kernel⟩,
    ⟨25000, 1249, 20, (s0.setAll [(Reg.PWR_STATUS_PHASE, 1), (Reg.PWR_STATUS_DBUS_VALID, 1), (Reg.PWR_STATUS_CHOP_ON, 1)]), by decide +kernel⟩,
    ⟨0, 1, 0, false, (s0.setAll [(Reg.PWR_STATUS_PHASE, 1), (Reg.PWR_STATUS_DBUS_VALID, 1)]), by decide +kernel⟩,
    ⟨.core 0, (s0.setAll [(Reg.PWR_STATUS_PHASE, 1), (Reg.PWR_STATUS_DBUS_VALID, 1)]), by decide +kernel⟩,
    ⟨.core 0, (s0.setAll [(Reg.PWR_STATUS_PHASE, 1), (Reg.PWR_STATUS_DBUS_VALID, 1)]), by decide +kernel⟩,
    ⟨.core 0, true, (s0.setAll [(Reg.PWR_STATUS_PHASE, 2), (Reg.PWR_STATUS_DBUS_VALID, 1)]), by decide +kernel⟩⟩

/-- A state and operands that meet the hypotheses of DomainsAndPresenceRun, clause by clause. -/
theorem witness_DomainsAndPresenceRun :
    (∃ (i : Initiator) (v : Nat) (s : State), (s.reaches i 0x40000030 = true) ∧ ((((List.range 30).filter fun n => bitOf (s.get Reg.SYS_PD_CTRL_ON) n && !bitOf (s.pdWanted v) n && s.pdRefuses (s.pdWanted v) n) = []))) ∧
    (∃ (n : Nat) (s : State), (n < 30) ∧ (s.bit Reg.SYS_PD_CTRL_ON n = true) ∧ (s.pdOn n = false)) ∧
    (∃ (n : Nat) (s : State), (n < 30) ∧ (s.bit Reg.SYS_PD_CTRL_ON n = false) ∧ (s.pdOn n = true)) ∧
    (∃ (s : State), (s.get Reg.SYS_IDENT_PRESENT ≠ 0)) ∧
    (∃ (straps : Nat) (s : State), (s.get Reg.SYS_IDENT_PRESENT = 0) ∧ (straps < 64) ∧ (straps = s.slot)) ∧
    (∃ (straps : Nat) (s : State), (s.get Reg.SYS_IDENT_PRESENT = 0) ∧ (straps < 64) ∧ (straps ≠ s.slot)) ∧
    (∃ (steps : Nat) (r : DevRecord) (s : State), (s.psp.pend = some r) ∧ (s.get Reg.PWR_STATUS_DBUS_VALID ≠ 0) ∧ (s.get Reg.PWR_STATUS_PHASE < 2) ∧ (2 ≤ steps)) ∧
    (∃ (steps : Nat) (r : DevRecord) (s : State), (s.psp.pend = some r) ∧ (s.get Reg.PWR_STATUS_DBUS_VALID ≠ 0) ∧ (s.get Reg.PWR_STATUS_PHASE < 2) ∧ (steps < 2)) :=
  ⟨⟨.core 0, 2 ^ 30 - 1, s0, by decide +kernel⟩,
    ⟨29, (State.reset.setAll [(Reg.SYS_PD_CTRL_ON, 2 ^ 29), (Reg.SYS_PD_STATUS_ON, 0)]), by decide +kernel⟩,
    ⟨0, (s0.set Reg.SYS_PD_CTRL_ON 0), by decide +kernel⟩,
    ⟨(s0.set Reg.SYS_IDENT_PRESENT 1), by decide +kernel⟩,
    ⟨0, (s0.set Reg.SYS_IDENT_PRESENT 0), by decide +kernel⟩,
    ⟨63, (s0.set Reg.SYS_IDENT_PRESENT 0), by decide +kernel⟩,
    ⟨2, DevRecord.blank, { (s0.setAll [(Reg.PWR_STATUS_PHASE, 1), (Reg.PWR_STATUS_DBUS_VALID, 1)]) with psp := { Passport.blank with pend := some DevRecord.blank } }, by decide +kernel⟩,
    ⟨1, DevRecord.blank, { (s0.setAll [(Reg.PWR_STATUS_PHASE, 1), (Reg.PWR_STATUS_DBUS_VALID, 1)]) with psp := { Passport.blank with pend := some DevRecord.blank } }, by decide +kernel⟩⟩

/-- A state and operands that meet the hypotheses of RegisterWriteRuns, clause by clause. -/
theorem witness_RegisterWriteRuns :
    (∃ (i : Initiator) (a size v : Nat) (s : State), (isStaged a = false) ∧ ((size ≠ 4 ∨ a % 4 ≠ 0))) ∧
    (∃ (i : Initiator) (v : Nat) (s : State), (s.reaches i 0x40300020 = true)) ∧
    (∃ (i : Initiator) (a v : Nat) (s : State), (isStaged a = false) ∧ (s.reaches i a = true)) ∧
    (∃ (i : Initiator) (a v : Nat) (s : State), (isStaged a = true) ∧ (s.reaches i a = true)) ∧
    (∃ (n a v : Nat) (s : State), (isStaged a = true) ∧ (s.reaches (.core n) a = true) ∧ (stageable (liveOf a) = true) ∧ (s.sealState = 1) ∧ (s.get Reg.SYS_SEAL_STATUS_OWNER = n) ∧ (s.deadStage (liveOf a) = false)) ∧
    (∃ (i : Initiator) (a v : Nat) (s : State), (isStaged a = true) ∧ (s.reaches i a = true) ∧ (stageable (liveOf a) = true) ∧ (s.sealState ≠ 1)) ∧
    (∃ (i : Initiator) (s : State), (s.reaches i 0x40020008 = true)) :=
  ⟨⟨.core 0, 0x40300001, 4, 0, s0, by decide +kernel⟩,
    ⟨.core 0, 0, s0, by decide +kernel⟩,
    ⟨.core 0, 0x40300020, 0, s0, by decide +kernel⟩,
    ⟨.core 0, 0x40018040, 0, s0, by decide +kernel⟩,
    ⟨0, 0x40018040, 0, (s0.setAll [(Reg.SYS_SEAL_STATUS_STATE, 1), (Reg.SYS_SEAL_STATUS_OWNER, 0)]), by decide +kernel⟩,
    ⟨.core 0, 0x40018040, 0, (s0.setAll [(Reg.SYS_SEAL_STATUS_STATE, 3), (Reg.SYS_SEAL_STATUS_OWNER, 0)]), by decide +kernel⟩,
    ⟨.core 0, s0, by decide +kernel⟩⟩

/-- A state and operands that meet the hypotheses of EnvelopeRuns, clause by clause. -/
theorem witness_EnvelopeRuns :
    (∃ (c : Nat) (s : State), (s.reaches (.core c) 0x40000010 = true) ∧ (s.sealState = 0)) ∧
    (∃ (c : Nat) (s : State), (s.reaches (.core c) 0x40000010 = true) ∧ (s.sealState = 1) ∧ (s.get Reg.SYS_SEAL_STATUS_OWNER = c)) ∧
    (∃ (s : State), (s.sealState = 2) ∧ (s.sealRule s.env.writes = 0)) ∧
    (∃ (s : State), (s.sealState = 2) ∧ (s.sealRule s.env.writes ≠ 0)) ∧
    (∃ (c d target : Nat) (s : State), (s.reaches (.core c) 0x40000010 = true) ∧ (s.sealState = 3) ∧ (s.get Reg.SYS_SEAL_STATUS_OWNER = c) ∧ (s.tickRuns = true) ∧ (s.postTarget d = some target)) ∧
    (∃ (c d : Nat) (s : State), (s.reaches (.core c) 0x40000010 = true) ∧ (s.sealState = 3) ∧ (s.get Reg.SYS_SEAL_STATUS_OWNER = c) ∧ (s.tickRuns = true) ∧ (s.postTarget d = none)) ∧
    (∃ (c : Nat) (s : State), (s.reaches (.core c) 0x40000010 = true) ∧ (s.sealState = 1 ∨ s.sealState = 3 ∨ s.sealState = 4 ∨ s.sealState = 5) ∧ (s.get Reg.SYS_SEAL_STATUS_OWNER = c)) ∧
    (∃ (c d : Nat) (s : State), (s.reaches (.core c) 0x40000010 = true) ∧ (s.sealState ≠ 0) ∧ (s.get Reg.SYS_SEAL_STATUS_OWNER ≠ c)) :=
  ⟨⟨0, s0, by decide +kernel⟩,
    ⟨0, (s0.setAll [(Reg.SYS_SEAL_STATUS_STATE, 1), (Reg.SYS_SEAL_STATUS_OWNER, 0)]), by decide +kernel⟩,
    ⟨(s0.setAll [(Reg.SYS_SEAL_STATUS_STATE, 2), (Reg.SYS_SEAL_STATUS_OWNER, 0)]), by decide +kernel⟩,
    ⟨{ (s0.setAll [(Reg.SYS_SEAL_STATUS_STATE, 2), (Reg.SYS_SEAL_STATUS_OWNER, 0)]) with env := ⟨[(0x40010040, 0)], none, false⟩ }, by decide +kernel⟩,
    ⟨0, 0, 2, (s0.setAll [(Reg.SYS_SEAL_STATUS_STATE, 3), (Reg.SYS_SEAL_STATUS_OWNER, 0)]), by decide +kernel⟩,
    ⟨0, 0, { (s0.setAll [(Reg.SYS_SEAL_STATUS_STATE, 3), (Reg.SYS_SEAL_STATUS_OWNER, 0)]).set Reg.SYS_SEAL_TICK_TARGET 5 with tick := 5 }, by decide +kernel⟩,
    ⟨0, (s0.setAll [(Reg.SYS_SEAL_STATUS_STATE, 4), (Reg.SYS_SEAL_STATUS_OWNER, 0)]), by decide +kernel⟩,
    ⟨1, 0, (s0.setAll [(Reg.SYS_SEAL_STATUS_STATE, 1), (Reg.SYS_SEAL_STATUS_OWNER, 0)]), by decide +kernel⟩⟩

/-- A state and operands that meet the hypotheses of TickBoundaryAdvances, clause by clause. -/
theorem witness_TickBoundaryAdvances :
    (∃ (f : TickFacts) (s : State), (f.dbus ≤ 33000)) :=
  ⟨{ tf with dbus := 33000 }, s0, by decide +kernel⟩

/-- A state and operands that meet the hypotheses of TickControlRuns, clause by clause. -/
theorem witness_TickControlRuns :
    (∃ (s : State), (s.get Reg.TCK_STATUS_SRC = 2) ∧ (s.get Reg.PMK_TICKCFG_WEDGES ≤ s.tck.discTicks)) ∧
    (∃ (i : Initiator) (v : Bool) (s : State), (s.reaches i 0x40020000 = true) ∧ ((v = true → s.headsOff = false))) ∧
    (∃ (i : Initiator) (s : State), (s.reaches i 0x40020000 = true) ∧ (s.headsOff = true)) ∧
    (∃ (i : Initiator) (s : State), (s.reaches i 0x40020000 = true)) ∧
    (∃ (core loop : Nat) (words : List Nat) (s : State), (s.pdOn 12 = true) ∧ ((s.mail loop).count < 16)) ∧
    (∃ (core loop : Nat) (words : List Nat) (s : State), (s.pdOn 12 = true) ∧ (16 ≤ (s.mail loop).count)) ∧
    (∃ (loop afterNs : Nat) (x : Msg) (l : List Msg) (s : State), ((s.mail loop).transit = x :: l)) :=
  ⟨⟨{ (s0.setAll [(Reg.TCK_STATUS_SRC, 2)]) with tck := { State.reset.tck with discTicks := 1000 } }, by decide +kernel⟩,
    ⟨.core 0, true, s0, by decide +kernel⟩,
    ⟨.core 0, { s0 with loops := .all { Loop.cold with parked := false, mode := .follow } }, by decide +kernel⟩,
    ⟨.core 0, s0, by decide +kernel⟩,
    ⟨0, 0, [], s0, by decide +kernel⟩,
    ⟨0, 0, [], s0.putMail 0 ⟨List.replicate 16 ⟨[], 0⟩, [], 0, 0, []⟩, by decide +kernel⟩,
    ⟨0, 0, ⟨[], 0⟩, [], s0.putMail 0 ⟨[], [⟨[], 0⟩], 0, 0, []⟩, by decide +kernel⟩⟩

/-- A state and operands that meet the hypotheses of PostmarkRuns, clause by clause. -/
theorem witness_PostmarkRuns :
    (∃ (b : Bool) (s : State), (s.energised b = false)) ∧
    (∃ (b : Bool) (s : State), (s.energised b = true)) ∧
    (∃ (b : Bool) (s : State), (s.energised b = true) ∧ (s.parked b = true) ∧ ((if b then s.pmk.sinceB else s.pmk.sinceA) + 150000000 < s.clockNs)) ∧
    (∃ (n amp : Nat) (a b : IndexFind) (s : State), (n < 4) ∧ (s.streamRead n = true) ∧ (s.bit Reg.PMK_CTRL_STREAM_EN n = true) ∧ (s.bit Reg.PMK_STATUS_VALID n = false) ∧ (s.get Reg.PMK_AMP_AMP_MIN ≤ amp) ∧ (4096 ≤ s.pmk.tracked.getD n 0) ∧ (s.indexFound n a b = true) ∧ (s.get Reg.TCK_STATUS_SRC ≠ 3) ∧ (s.tck.toWedge = none)) ∧
    (∃ (n : Nat) (c : DropCause) (s : State), ((s.drops n c = true ∨ s.bit Reg.PMK_CTRL_STREAM_EN n = false ∨ s.get Reg.PMK_CTRL_ENABLE = 0))) ∧
    (∃ (t : Nat) (s : State), (s.pmk.speedNs = some t) ∧ (t + 600000000 ≤ s.clockNs) ∧ (s.pmk.timedOut = false) ∧ (s.pmkLocked = false)) :=
  ⟨⟨false, s0, by decide +kernel⟩,
    ⟨true, s0.setEnergised true true, by decide +kernel⟩,
    ⟨false, { (s0.set Reg.PMK_STATUS_PARK_A 1).setEnergised false true with clockNs := 150000001 }, by decide +kernel⟩,
    ⟨0, 65535, ⟨56, 0⟩, ⟨64, 4096⟩, { (s0.setAll [(Reg.PMK_CTRL_ENABLE, 1), (Reg.PMK_CTRL_STREAM_EN, 15), (Reg.PMK_STATUS_PARK_A, 0)]) with pmk := { State.reset.pmk with energA := true, bias := 125, tracked := [4096, 0, 0, 0] } }, by decide +kernel⟩,
    ⟨0, .index none, s0, by decide +kernel⟩,
    ⟨0, { s0 with clockNs := 600000000, pmk := { State.reset.pmk with speedNs := some 0 } }, by decide +kernel⟩⟩

/-- A state and operands that meet the hypotheses of SequencerMicrowordsRun, clause by clause. -/
theorem witness_SequencerMicrowordsRun :
    (∃ (n : Nat) (fetch dm : Ecc) (s : State), (s.runsSlice n = true) ∧ (((s.wordAt n).seq = 0 ∨ 10 ≤ (s.wordAt n).seq))) ∧
    (∃ (n : Nat) (fetch dm : Ecc) (s : State), (s.runsSlice n = true) ∧ ((s.wordAt n).seq = 1)) ∧
    (∃ (n : Nat) (fetch dm : Ecc) (s : State), (s.runsSlice n = true) ∧ ((s.wordAt n).seq = 2)) ∧
    (∃ (n : Nat) (fetch dm : Ecc) (s : State), (s.runsSlice n = true) ∧ ((s.wordAt n).seq = 3)) ∧
    (∃ (n : Nat) (fetch dm : Ecc) (s : State), (s.runsSlice n = true) ∧ ((s.wordAt n).seq = 4)) ∧
    (∃ (n : Nat) (fetch dm : Ecc) (s : State), (s.runsSlice n = true) ∧ ((s.wordAt n).seq = 5)) ∧
    (∃ (n : Nat) (fetch dm : Ecc) (s : State), (s.runsSlice n = true) ∧ ((s.wordAt n).seq = 6)) ∧
    (∃ (n : Nat) (fetch dm : Ecc) (s : State), (s.runsSlice n = true) ∧ ((s.wordAt n).seq = 7)) ∧
    (∃ (n : Nat) (fetch dm : Ecc) (s : State), (s.runsSlice n = true) ∧ ((s.wordAt n).seq = 8)) ∧
    (∃ (n : Nat) (fetch dm : Ecc) (s : State), (s.runsSlice n = true) ∧ ((s.wordAt n).seq = 9)) :=
  ⟨⟨0, .good, .good, { (s0.setAll [(Reg.CRE_STATUS_STATE, 3)]) with eng := { State.reset.eng with running := some 0, store := [(0, 0 * 2 ^ 188)] } }, by decide +kernel⟩,
    ⟨0, .good, .good, { (s0.setAll [(Reg.CRE_STATUS_STATE, 3)]) with eng := { State.reset.eng with running := some 0, store := [(0, 1 * 2 ^ 188)] } }, by decide +kernel⟩,
    ⟨0, .good, .good, { (s0.setAll [(Reg.CRE_STATUS_STATE, 3)]) with eng := { State.reset.eng with running := some 0, store := [(0, 2 * 2 ^ 188)] } }, by decide +kernel⟩,
    ⟨0, .good, .good, { (s0.setAll [(Reg.CRE_STATUS_STATE, 3)]) with eng := { State.reset.eng with running := some 0, store := [(0, 3 * 2 ^ 188)] } }, by decide +kernel⟩,
    ⟨0, .good, .good, { (s0.setAll [(Reg.CRE_STATUS_STATE, 3)]) with eng := { State.reset.eng with running := some 0, store := [(0, 4 * 2 ^ 188)] } }, by decide +kernel⟩,
    ⟨0, .good, .good, { (s0.setAll [(Reg.CRE_STATUS_STATE, 3)]) with eng := { State.reset.eng with running := some 0, store := [(0, 5 * 2 ^ 188)] } }, by decide +kernel⟩,
    ⟨0, .good, .good, { (s0.setAll [(Reg.CRE_STATUS_STATE, 3)]) with eng := { State.reset.eng with running := some 0, store := [(0, 6 * 2 ^ 188)] } }, by decide +kernel⟩,
    ⟨0, .good, .good, { (s0.setAll [(Reg.CRE_STATUS_STATE, 3)]) with eng := { State.reset.eng with running := some 0, store := [(0, 7 * 2 ^ 188)] } }, by decide +kernel⟩,
    ⟨0, .good, .good, { (s0.setAll [(Reg.CRE_STATUS_STATE, 3)]) with eng := { State.reset.eng with running := some 0, store := [(0, 8 * 2 ^ 188)] } }, by decide +kernel⟩,
    ⟨0, .good, .good, { (s0.setAll [(Reg.CRE_STATUS_STATE, 3)]) with eng := { State.reset.eng with running := some 0, store := [(0, 9 * 2 ^ 188)] } }, by decide +kernel⟩⟩

/-- A state and operands that meet the hypotheses of AluMicrowordsRun, clause by clause. -/
theorem witness_AluMicrowordsRun :
    (∃ (n : Nat) (fetch dm : Ecc) (s : State), (s.runsSlice n = true) ∧ ((s.wordAt n).alu = 1)) ∧
    (∃ (n : Nat) (fetch dm : Ecc) (s : State), (s.runsSlice n = true) ∧ ((s.wordAt n).alu = 2)) ∧
    (∃ (n : Nat) (fetch dm : Ecc) (s : State), (s.runsSlice n = true) ∧ ((s.wordAt n).alu = 3)) ∧
    (∃ (n : Nat) (fetch dm : Ecc) (s : State), (s.runsSlice n = true) ∧ ((s.wordAt n).alu = 4)) ∧
    (∃ (n : Nat) (fetch dm : Ecc) (s : State), (s.runsSlice n = true) ∧ ((s.wordAt n).alu = 5)) ∧
    (∃ (n : Nat) (fetch dm : Ecc) (s : State), (s.runsSlice n = true) ∧ ((s.wordAt n).alu = 6)) ∧
    (∃ (n : Nat) (fetch dm : Ecc) (s : State), (s.runsSlice n = true) ∧ ((s.wordAt n).alu = 7)) ∧
    (∃ (n : Nat) (fetch dm : Ecc) (s : State), (s.runsSlice n = true) ∧ ((s.wordAt n).alu = 8)) ∧
    (∃ (n : Nat) (fetch dm : Ecc) (s : State), (s.runsSlice n = true) ∧ ((s.wordAt n).alu = 9)) ∧
    (∃ (n : Nat) (fetch dm : Ecc) (s : State), (s.runsSlice n = true) ∧ ((s.wordAt n).alu = 10)) ∧
    (∃ (n : Nat) (fetch dm : Ecc) (s : State), (s.runsSlice n = true) ∧ ((s.wordAt n).alu = 11)) ∧
    (∃ (n : Nat) (fetch dm : Ecc) (s : State), (s.runsSlice n = true) ∧ ((s.wordAt n).alu = 12)) ∧
    (∃ (n : Nat) (fetch dm : Ecc) (s : State), (s.runsSlice n = true) ∧ ((s.wordAt n).alu = 13)) ∧
    (∃ (n : Nat) (fetch dm : Ecc) (s : State), (s.runsSlice n = true) ∧ ((s.wordAt n).alu = 14)) ∧
    (∃ (n : Nat) (fetch dm : Ecc) (s : State), (s.runsSlice n = true) ∧ ((s.wordAt n).alu = 15)) ∧
    (∃ (n : Nat) (fetch dm : Ecc) (s : State), (s.runsSlice n = true) ∧ ((s.wordAt n).alu = 16)) ∧
    (∃ (n : Nat) (fetch dm : Ecc) (s : State), (s.runsSlice n = true) ∧ ((s.wordAt n).alu = 17)) ∧
    (∃ (n : Nat) (fetch dm : Ecc) (s : State), (s.runsSlice n = true) ∧ ((s.wordAt n).alu = 18)) :=
  ⟨⟨0, .good, .good, { (s0.setAll [(Reg.CRE_STATUS_STATE, 3)]) with eng := { State.reset.eng with running := some 0, store := [(0, 1 * 2 ^ 164)] } }, by decide +kernel⟩,
    ⟨0, .good, .good, { (s0.setAll [(Reg.CRE_STATUS_STATE, 3)]) with eng := { State.reset.eng with running := some 0, store := [(0, 2 * 2 ^ 164)] } }, by decide +kernel⟩,
    ⟨0, .good, .good, { (s0.setAll [(Reg.CRE_STATUS_STATE, 3)]) with eng := { State.reset.eng with running := some 0, store := [(0, 3 * 2 ^ 164)] } }, by decide +kernel⟩,
    ⟨0, .good, .good, { (s0.setAll [(Reg.CRE_STATUS_STATE, 3)]) with eng := { State.reset.eng with running := some 0, store := [(0, 4 * 2 ^ 164)] } }, by decide +kernel⟩,
    ⟨0, .good, .good, { (s0.setAll [(Reg.CRE_STATUS_STATE, 3)]) with eng := { State.reset.eng with running := some 0, store := [(0, 5 * 2 ^ 164)] } }, by decide +kernel⟩,
    ⟨0, .good, .good, { (s0.setAll [(Reg.CRE_STATUS_STATE, 3)]) with eng := { State.reset.eng with running := some 0, store := [(0, 6 * 2 ^ 164)] } }, by decide +kernel⟩,
    ⟨0, .good, .good, { (s0.setAll [(Reg.CRE_STATUS_STATE, 3)]) with eng := { State.reset.eng with running := some 0, store := [(0, 7 * 2 ^ 164)] } }, by decide +kernel⟩,
    ⟨0, .good, .good, { (s0.setAll [(Reg.CRE_STATUS_STATE, 3)]) with eng := { State.reset.eng with running := some 0, store := [(0, 8 * 2 ^ 164)] } }, by decide +kernel⟩,
    ⟨0, .good, .good, { (s0.setAll [(Reg.CRE_STATUS_STATE, 3)]) with eng := { State.reset.eng with running := some 0, store := [(0, 9 * 2 ^ 164)] } }, by decide +kernel⟩,
    ⟨0, .good, .good, { (s0.setAll [(Reg.CRE_STATUS_STATE, 3)]) with eng := { State.reset.eng with running := some 0, store := [(0, 10 * 2 ^ 164)] } }, by decide +kernel⟩,
    ⟨0, .good, .good, { (s0.setAll [(Reg.CRE_STATUS_STATE, 3)]) with eng := { State.reset.eng with running := some 0, store := [(0, 11 * 2 ^ 164)] } }, by decide +kernel⟩,
    ⟨0, .good, .good, { (s0.setAll [(Reg.CRE_STATUS_STATE, 3)]) with eng := { State.reset.eng with running := some 0, store := [(0, 12 * 2 ^ 164)] } }, by decide +kernel⟩,
    ⟨0, .good, .good, { (s0.setAll [(Reg.CRE_STATUS_STATE, 3)]) with eng := { State.reset.eng with running := some 0, store := [(0, 13 * 2 ^ 164)] } }, by decide +kernel⟩,
    ⟨0, .good, .good, { (s0.setAll [(Reg.CRE_STATUS_STATE, 3)]) with eng := { State.reset.eng with running := some 0, store := [(0, 14 * 2 ^ 164)] } }, by decide +kernel⟩,
    ⟨0, .good, .good, { (s0.setAll [(Reg.CRE_STATUS_STATE, 3)]) with eng := { State.reset.eng with running := some 0, store := [(0, 15 * 2 ^ 164)] } }, by decide +kernel⟩,
    ⟨0, .good, .good, { (s0.setAll [(Reg.CRE_STATUS_STATE, 3)]) with eng := { State.reset.eng with running := some 0, store := [(0, 16 * 2 ^ 164)] } }, by decide +kernel⟩,
    ⟨0, .good, .good, { (s0.setAll [(Reg.CRE_STATUS_STATE, 3)]) with eng := { State.reset.eng with running := some 0, store := [(0, 17 * 2 ^ 164)] } }, by decide +kernel⟩,
    ⟨0, .good, .good, { (s0.setAll [(Reg.CRE_STATUS_STATE, 3)]) with eng := { State.reset.eng with running := some 0, store := [(0, 18 * 2 ^ 164)] } }, by decide +kernel⟩⟩

/-- A state and operands that meet the hypotheses of MacMemoryPortMicrowordsRun, clause by clause. -/
theorem witness_MacMemoryPortMicrowordsRun :
    (∃ (n : Nat) (fetch dm : Ecc) (s : State), (s.runsSlice n = true) ∧ ((s.wordAt n).mac = 1)) ∧
    (∃ (n : Nat) (fetch dm : Ecc) (s : State), (s.runsSlice n = true) ∧ ((s.wordAt n).mac = 2)) ∧
    (∃ (n : Nat) (fetch dm : Ecc) (s : State), (s.runsSlice n = true) ∧ ((s.wordAt n).mac = 3)) ∧
    (∃ (n : Nat) (fetch dm : Ecc) (s : State), (s.runsSlice n = true) ∧ ((s.wordAt n).mac = 4)) ∧
    (∃ (n : Nat) (fetch dm : Ecc) (s : State), (s.runsSlice n = true) ∧ ((s.wordAt n).memOp = 1)) ∧
    (∃ (n : Nat) (fetch dm : Ecc) (s : State), (s.runsSlice n = true) ∧ ((s.wordAt n).memOp = 2)) ∧
    (∃ (n : Nat) (fetch dm : Ecc) (s : State), (s.runsSlice n = true) ∧ ((s.wordAt n).ioOp = 1)) ∧
    (∃ (n : Nat) (fetch dm : Ecc) (s : State), (s.runsSlice n = true) ∧ ((s.wordAt n).ioOp = 2)) ∧
    (∃ (n : Nat) (fetch dm : Ecc) (s : State), (s.runsSlice n = true) ∧ ((s.wordAt n).cap = true)) :=
  ⟨⟨0, .good, .good, { (s0.setAll [(Reg.CRE_STATUS_STATE, 3)]) with eng := { State.reset.eng with running := some 0, store := [(0, 1 * 2 ^ 140)] } }, by decide +kernel⟩,
    ⟨0, .good, .good, { (s0.setAll [(Reg.CRE_STATUS_STATE, 3)]) with eng := { State.reset.eng with running := some 0, store := [(0, 2 * 2 ^ 140)] } }, by decide +kernel⟩,
    ⟨0, .good, .good, { (s0.setAll [(Reg.CRE_STATUS_STATE, 3)]) with eng := { State.reset.eng with running := some 0, store := [(0, 3 * 2 ^ 140)] } }, by decide +kernel⟩,
    ⟨0, .good, .good, { (s0.setAll [(Reg.CRE_STATUS_STATE, 3)]) with eng := { State.reset.eng with running := some 0, store := [(0, 4 * 2 ^ 140)] } }, by decide +kernel⟩,
    ⟨0, .good, .good, { (s0.setAll [(Reg.CRE_STATUS_STATE, 3)]) with eng := { State.reset.eng with running := some 0, store := [(0, 1 * 2 ^ 110)] } }, by decide +kernel⟩,
    ⟨0, .good, .good, { (s0.setAll [(Reg.CRE_STATUS_STATE, 3)]) with eng := { State.reset.eng with running := some 0, store := [(0, 2 * 2 ^ 110)] } }, by decide +kernel⟩,
    ⟨0, .good, .good, { (s0.setAll [(Reg.CRE_STATUS_STATE, 3)]) with eng := { State.reset.eng with running := some 0, store := [(0, 1 * 2 ^ 81)] } }, by decide +kernel⟩,
    ⟨0, .good, .good, { (s0.setAll [(Reg.CRE_STATUS_STATE, 3)]) with eng := { State.reset.eng with running := some 0, store := [(0, 2 * 2 ^ 81)] } }, by decide +kernel⟩,
    ⟨0, .good, .good, { (s0.setAll [(Reg.CRE_STATUS_STATE, 3)]) with eng := { State.reset.eng with running := some 0, store := [(0, 1 * 2 ^ 65)] } }, by decide +kernel⟩⟩

/-- A state and operands that meet the hypotheses of AluResultsStated, clause by clause. -/
theorem witness_AluResultsStated :
    (∃ (a b : Nat), (a < 2 ^ 32) ∧ (b < 2 ^ 32)) :=
  ⟨2 ^ 32 - 1, 1, by decide +kernel⟩

/-- A state and operands that meet the hypotheses of CourierControlRuns, clause by clause. -/
theorem witness_CourierControlRuns :
    (∃ (i : Initiator) (s : State), (s.reaches i 0x40200000 = true) ∧ (s.get Reg.CRE_STATUS_STATE = 0 ∨ s.get Reg.CRE_STATUS_STATE = 2 ∨ s.get Reg.CRE_STATUS_STATE = 4)) ∧
    (∃ (i : Initiator) (s : State), (s.reaches i 0x40200000 = true) ∧ (s.get Reg.CRE_STATUS_STATE = 1 ∨ s.get Reg.CRE_STATUS_STATE = 3)) ∧
    (∃ (a : Nat) (words : Sparse Nat) (b : List Nat) (u s : State), (s.get Reg.CRE_STATUS_STATE = 1) ∧ (a = s.get Reg.CRE_LOAD_LO_ADDR + 2 ^ 32 * s.get Reg.CRE_LOAD_HI_ADDR) ∧ (words = s.imageWords a 24 8192) ∧ (b = s.imageBytes a (512 + 24 * 8192)) ∧ (u = ({ s with eng := { s.eng with store := words } } : State).set Reg.CRE_INT_LOAD_DONE 1)) ∧
    (∃ (i : Initiator) (s : State), (s.reaches i 0x40200000 = true) ∧ (s.get Reg.CRE_STATUS_STATE = 2 ∨ s.get Reg.CRE_STATUS_STATE = 4)) ∧
    (∃ (i : Initiator) (s : State), (s.reaches i 0x40200000 = true) ∧ (s.get Reg.CRE_STATUS_STATE = 0 ∨ s.get Reg.CRE_STATUS_STATE = 1)) ∧
    (∃ (i : Initiator) (s : State), (s.reaches i 0x40200000 = true) ∧ (s.headsOff = false) ∧ (s.pmkOff = false) ∧ (s.turning = false) ∧ (s.get Reg.CRE_STATUS_STATE = 3)) ∧
    (∃ (i : Initiator) (s : State), (s.reaches i 0x40200000 = true) ∧ ((s.headsOff = true ∨ s.pmkOff = true ∨ s.turning = true))) ∧
    (∃ (i : Initiator) (s : State), (s.reaches i 0x40200000 = true)) ∧
    (∃ (i : Initiator) (s : State), (s.reaches i 0x40200194 = true)) ∧
    (∃ (i : Initiator) (v : Nat) (s : State), (s.reaches i 0x40200194 = true) ∧ (s.get Reg.CRE_STATUS_STATE ≠ 3)) ∧
    (∃ (i : Initiator) (v : Nat) (s : State), (s.reaches i 0x40200194 = true) ∧ (s.get Reg.CRE_STATUS_STATE = 3)) ∧
    (∃ (i : Initiator) (s : State), (s.reaches i 0x4020019C = true)) ∧
    (∃ (n : Nat) (s : State), (s.get (Reg.CRE_INJ_STAT_ACTIVE n) ≠ 0) ∧ ((s.get (Reg.CRE_INJ_CTRL_ARM n) = 0 ∨ (s.injLen n ≤ s.get (Reg.CRE_INJ_STAT_INDEX n) + 1 ∧ s.get (Reg.CRE_INJ_CTRL_REPEAT n) = 0)))) ∧
    (∃ (n : Nat) (s : State), (s.get (Reg.CRE_CAP_STAT_ACTIVE n) ≠ 0) ∧ (s.capLen n ≤ s.get (Reg.CRE_CAP_STAT_COUNT n))) ∧
    (∃ (n : Nat) (s u : State), (s.eng.wait = .forced) ∧ (s.eng.running = some n) ∧ (u = (s.set Reg.CRE_STATUS_SEG_FORCED 1).commitX) ∧ ((n = 17 ∨ sGet u.eng.used n 0 < u.sliceAlloc n))) ∧
    (∃ (n : Nat) (s : State), (s.eng.wait = .overrun n)) :=
  ⟨⟨.core 0, s0, by decide +kernel⟩,
    ⟨.core 0, (s0.setAll [(Reg.CRE_STATUS_STATE, 3)]), by decide +kernel⟩,
    ⟨0, [], (s0.setAll [(Reg.CRE_STATUS_STATE, 1)]).imageBytes 0 (512 + 24 * 8192), ({ (s0.setAll [(Reg.CRE_STATUS_STATE, 1)]) with eng := { ((s0.setAll [(Reg.CRE_STATUS_STATE, 1)])).eng with store := [] } } : State).set Reg.CRE_INT_LOAD_DONE 1, (s0.setAll [(Reg.CRE_STATUS_STATE, 1)]), ⟨by decide +kernel, by decide +kernel, (imageWords_empty _ _ _ _ (by decide +kernel)).symm, rfl, rfl⟩⟩,
    ⟨.core 0, (s0.setAll [(Reg.CRE_STATUS_STATE, 2)]), by decide +kernel⟩,
    ⟨.core 0, s0, by decide +kernel⟩,
    ⟨.core 0, (s0.setAll [(Reg.CRE_STATUS_STATE, 3)]), by decide +kernel⟩,
    ⟨.core 0, (s0.setAll [(Reg.SPN_SPEED_SPEED, 1)]), by decide +kernel⟩,
    ⟨.core 0, s0, by decide +kernel⟩,
    ⟨.core 0, s0, by decide +kernel⟩,
    ⟨.core 0, 0, s0, by decide +kernel⟩,
    ⟨.core 0, 0, (s0.setAll [(Reg.CRE_STATUS_STATE, 3)]), by decide +kernel⟩,
    ⟨.core 0, s0, by decide +kernel⟩,
    ⟨0, (s0.set (Reg.CRE_INJ_STAT_ACTIVE 0) 1), by decide +kernel⟩,
    ⟨0, ((s0.set (Reg.CRE_CAP_STAT_ACTIVE 0) 1).set (Reg.CRE_CAP_STAT_COUNT 0) 4096), by decide +kernel⟩,
    ⟨0, { s0 with eng := { State.reset.eng with running := some 0, wait := .forced } }, ({ s0 with eng := { State.reset.eng with running := some 0, wait := .forced } }.set Reg.CRE_STATUS_SEG_FORCED 1).commitX, by decide +kernel⟩,
    ⟨0, { s0 with eng := { State.reset.eng with running := some 0, wait := .overrun 0 } }, by decide +kernel⟩⟩

/-- A state and operands that meet the hypotheses of LaneRingRuns, clause by clause. -/
theorem witness_LaneRingRuns :
    (∃ (i : Initiator) (x : Act) (tail : Nat) (s : State), (s.reaches i (x.laneBase + 0x18) = true) ∧ (s.get (Reg.CH_STATUS_STATE x) ≠ 6) ∧ (s.laneQueued x (tail % 512) ≤ 256)) ∧
    (∃ (i : Initiator) (x : Act) (tail : Nat) (s : State), (s.reaches i (x.laneBase + 0x18) = true) ∧ (s.get (Reg.CH_STATUS_STATE x) ≠ 6) ∧ (256 < s.laneQueued x (tail % 512))) ∧
    (∃ (x : Act) (s u : State), (s.canTake x = true) ∧ (s.rewritesFirst x (s.laneDecode x) = false) ∧ ((s.laneDecode x).opcode ≠ 2 ∧ (s.laneDecode x).opcode ≠ 3 ∧ (s.laneDecode x).opcode ≠ 4) ∧ (u = s.set (Reg.CH_Q_PTR_QHEAD x) ((s.get (Reg.CH_Q_PTR_QHEAD x) + 1) % 512)) ∧ (u.opRefusal x (s.laneDecode x) = none)) ∧
    (∃ (x : Act) (s u : State), (s.canTake x = true) ∧ (s.rewritesFirst x (s.laneDecode x) = false) ∧ ((s.laneDecode x).opcode = 3) ∧ (u = s.set (Reg.CH_Q_PTR_QHEAD x) ((s.get (Reg.CH_Q_PTR_QHEAD x) + 1) % 512)) ∧ (u.opRefusal x (s.laneDecode x) = none)) ∧
    (∃ (x : Act) (s u : State), (s.canTake x = true) ∧ (s.rewritesFirst x (s.laneDecode x) = false) ∧ ((s.laneDecode x).opcode = 2) ∧ (u = s.set (Reg.CH_Q_PTR_QHEAD x) ((s.get (Reg.CH_Q_PTR_QHEAD x) + 1) % 512)) ∧ (u.opRefusal x (s.laneDecode x) = none)) ∧
    (∃ (x : Act) (s u : State), (s.canTake x = true) ∧ (s.rewritesFirst x (s.laneDecode x) = false) ∧ ((s.laneDecode x).opcode = 4) ∧ (u = s.set (Reg.CH_Q_PTR_QHEAD x) ((s.get (Reg.CH_Q_PTR_QHEAD x) + 1) % 512)) ∧ (u.opRefusal x (s.laneDecode x) = none)) ∧
    (∃ (x : Act) (e : Nat) (s u : State), (s.canTake x = true) ∧ (s.rewritesFirst x (s.laneDecode x) = false) ∧ ((s.laneDecode x).opcode = 2) ∧ (u = s.set (Reg.CH_Q_PTR_QHEAD x) ((s.get (Reg.CH_Q_PTR_QHEAD x) + 1) % 512)) ∧ (u.opRefusal x (s.laneDecode x) = some e)) ∧
    (∃ (i : Initiator) (x : Act) (s : State), (s.reaches i x.laneBase = true)) ∧
    (∃ (i : Initiator) (x : Act) (mask : Nat) (s : State), (s.reaches i x.laneBase = true) ∧ (s.mediaOp x = none)) ∧
    (∃ (i : Initiator) (x : Act) (k v : Nat) (s u : State), (s.reaches i (zoneAddr x k 0) = true) ∧ (u = s.setAll [(Reg.CH_ZONE_VALID x k, 0), (Reg.CH_ZONE_LAYOUT x k, bitsOf v 30 30), (Reg.CH_ZONE_START_TRACK x k, bitsOf v 23 0)]) ∧ ((u.lane x).checking.contains k = false)) ∧
    (∃ (x : Act) (k : Nat) (s u : State), ((s.lane x).checking.contains k = true) ∧ (u = s.putLane x { s.lane x with checking := (s.lane x).checking.filter (· != k) })) ∧
    (∃ (i : Initiator) (x : Act) (k w v : Nat) (s u : State), (s.reaches i (zoneAddr x k w) = true) ∧ (u = s.putWord (zoneAddr x k w) v fun f => f.acc == .rw)) :=
  ⟨⟨.core 0, .a, 256, s0, by decide +kernel⟩,
    ⟨.core 0, .a, 257, s0, by decide +kernel⟩,
    ⟨.a, laneState 1, (laneState 1).set (Reg.CH_Q_PTR_QHEAD .a) 1, by decide +kernel⟩,
    ⟨.a, laneState 3, (laneState 3).set (Reg.CH_Q_PTR_QHEAD .a) 1, by decide +kernel⟩,
    ⟨.a, laneState 2, (laneState 2).set (Reg.CH_Q_PTR_QHEAD .a) 1, by decide +kernel⟩,
    ⟨.a, laneState 4, (laneState 4).set (Reg.CH_Q_PTR_QHEAD .a) 1, by decide +kernel⟩,
    ⟨.a, 2, (laneState 2).set Reg.TCK_STATUS_WR_HOLD 1, ((laneState 2).set Reg.TCK_STATUS_WR_HOLD 1).set (Reg.CH_Q_PTR_QHEAD .a) 1, by decide +kernel⟩,
    ⟨.core 0, .a, s0, by decide +kernel⟩,
    ⟨.core 0, .a, 0, s0, by decide +kernel⟩,
    ⟨.core 0, .a, 0, 0, s0, s0.setAll [(Reg.CH_ZONE_VALID .a 0, 0), (Reg.CH_ZONE_LAYOUT .a 0, bitsOf 0 30 30), (Reg.CH_ZONE_START_TRACK .a 0, bitsOf 0 23 0)], by decide +kernel⟩,
    ⟨.a, 0, State.putLane s0 .a { Lane.idle with checking := [0] }, (State.putLane s0 .a { Lane.idle with checking := [0] }).putLane .a { Lane.idle with checking := [] }, by decide +kernel⟩,
    ⟨.core 0, .a, 0, 0, 0, s0, s0.putWord (zoneAddr .a 0 0) 0 fun f => f.acc == .rw, by decide +kernel⟩⟩

/-- A state and operands that meet the hypotheses of SectorsRun, clause by clause. -/
theorem witness_SectorsRun :
    (∃ (x : Act) (sector : Nat) (ready err : Bool) (sig : List Stretch) (o : LaneOp) (s u : State), (s.fitted x = true) ∧ (u = (s.set (Reg.CH_STATUS_SECTOR x) sector).endSector x) ∧ (u.mediaOp x = some o) ∧ (o.ended = none) ∧ (u.laneTurn x = true) ∧ (u.laneMatch x o = true) ∧ (o.measure = none) ∧ (o.first ≤ sector) ∧ (o.wants (sector - o.first) = true) ∧ (o.opcode ≠ 2) ∧ (u.bit (Reg.CH_CTRL_HEAD_EN x) o.head = true) ∧ ((o.opcode = 3 ∨ (u.lane x).store.length < 32)) ∧ (u.rereadWaits x o sector = false)) ∧
    (∃ (x : Act) (sector : Nat) (sig : List Stretch) (o : LaneOp) (s u : State), (s.fitted x = true) ∧ (u = (s.set (Reg.CH_STATUS_SECTOR x) sector).endSector x) ∧ (u.mediaOp x = some o) ∧ (o.ended = none) ∧ (u.laneTurn x = true) ∧ (u.laneMatch x o = true) ∧ (o.measure = none) ∧ (o.first ≤ sector) ∧ (o.wants (sector - o.first) = true) ∧ (o.opcode = 2) ∧ (u.get Reg.TCK_STATUS_WR_HOLD = 0) ∧ (u.get (Reg.CH_CTRL_WRITE_EN x) ≠ 0) ∧ (u.pdOn (4 + x.n) = true) ∧ (u.bit (Reg.CH_CTRL_HEAD_EN x) o.head = true) ∧ (u.inhibited x = false) ∧ (o.heater = true) ∧ ((u.lane x).store.length < 32) ∧ (u.unreadable u.phcOwns (u.dataAt o (sector - o.first)) 4096 [] = none)) ∧
    (∃ (x : Act) (us : Nat) (o : LaneOp) (s t : State), (s.mediaOp x = some o) ∧ (o.opcode = 2) ∧ (o.heater = false) ∧ (s.get (Reg.CH_HTR_HTR_LEAD x) ≤ us) ∧ (t = s.mapOp x o.serial (fun o => { o with heater := true }))) ∧
    (∃ (x : Act) (o : LaneOp) (lastFourT : Bool) (s : State), (s.mediaOp x = some o) ∧ (o.opcode = 2) ∧ (o.started ≠ []) ∧ ((s.lane x).passing = none)) ∧
    (∃ (x : Act) (o : LaneOp) (lastFourT : Bool) (s : State), (s.mediaOp x = some o) ∧ (o.started = [])) ∧
    (∃ (x : Act) (k : Nat) (o : LaneOp) (s v : State), ((s.lane x).ops[k]? = some o) ∧ (o.media = false) ∧ (((s.lane x).store.any fun c => c.op == o.serial && c.firstPass) = false) ∧ ((o.opcode = 2 ∨ o.opcode = 4)) ∧ (v = (s.writeTaps x o).noteNotPlaced x o)) ∧
    (∃ (x : Act) (k : Nat) (o : LaneOp) (s v : State), ((s.lane x).ops[k]? = some o) ∧ (o.media = false) ∧ (((s.lane x).store.any fun c => c.op == o.serial && c.firstPass) = false) ∧ ((o.opcode = 1 ∨ o.opcode = 3)) ∧ (v = ((s.writeTaps x o).noteNotPlaced x o).measureSkew x o.head o.marks)) ∧
    (∃ (x : Act) (k : Nat) (p : NotPlaced) (o : LaneOp) (s u : State), ((s.lane x).notPlaced[k]? = some p) ∧ (s.laneFree x = true) ∧ (p.tries < s.rcv.policy.rewrites) ∧ (u = s.putLane x { s.lane x with notPlaced := (s.lane x).notPlaced.map fun q => if q == p then { q with tries := q.tries + 1 } else q }) ∧ (o = u.newOp x 2 p.head p.zone 0xFFFF p.track p.sector 1 false p.epoch p.data p.tagAt p.statusAt) ∧ (u.opRefusal x o = none)) ∧
    (∃ (x : Act) (k : Nat) (p : NotPlaced) (s : State), ((s.lane x).notPlaced[k]? = some p) ∧ (s.laneFree x = true) ∧ (s.rcv.policy.rewrites ≤ p.tries)) :=
  ⟨⟨.a, 0, false, false, [], laneOp 1 true, opState 1 true [], ((opState 1 true []).set (Reg.CH_STATUS_SECTOR .a) 0).endSector .a, by decide +kernel⟩,
    ⟨.a, 0, [], laneOp 2 true, opState 2 true [], ((opState 2 true []).set (Reg.CH_STATUS_SECTOR .a) 0).endSector .a, by decide +kernel⟩,
    ⟨.a, 200, laneOp 2 false, opState 2 false [], ((opState 2 false []).mapOp .a (laneOp 2 false).serial fun o => { o with heater := true }), by decide +kernel⟩,
    ⟨.a, { laneOp 2 true with started := [0] }, false, { opState 2 true [] with lanes := (Four.all Lane.idle).put .a { Lane.idle with ops := [{ laneOp 2 true with started := [0] }], serial := 1 } }, by decide +kernel⟩,
    ⟨.a, laneOp 2 true, false, opState 2 true [], by decide +kernel⟩,
    ⟨.a, 0, { laneOp 2 true with media := false }, { laneState 2 with lanes := (Four.all Lane.idle).put .a { Lane.idle with ops := [{ laneOp 2 true with media := false }], serial := 1 } }, (({ laneState 2 with lanes := (Four.all Lane.idle).put .a { Lane.idle with ops := [{ laneOp 2 true with media := false }], serial := 1 } } : State).writeTaps .a { laneOp 2 true with media := false }).noteNotPlaced .a { laneOp 2 true with media := false }, by decide +kernel⟩,
    ⟨.a, 0, { laneOp 1 true with media := false }, { laneState 1 with lanes := (Four.all Lane.idle).put .a { Lane.idle with ops := [{ laneOp 1 true with media := false }], serial := 1 } }, ((({ laneState 1 with lanes := (Four.all Lane.idle).put .a { Lane.idle with ops := [{ laneOp 1 true with media := false }], serial := 1 } } : State).writeTaps .a { laneOp 1 true with media := false }).noteNotPlaced .a { laneOp 1 true with media := false }).measureSkew .a 0 ⟨none, 0, 0⟩, by decide +kernel⟩,
    ⟨.a, 0, ⟨0, 0, 0, 0, 0, 0, 0, 0, 0⟩, (({ laneState 2 with lanes := (Four.all Lane.idle).put .a { Lane.idle with notPlaced := [⟨0, 0, 0, 0, 0, 0, 0, 0, 0⟩] } } : State).putLane .a { ({ laneState 2 with lanes := (Four.all Lane.idle).put .a { Lane.idle with notPlaced := [⟨0, 0, 0, 0, 0, 0, 0, 0, 0⟩] } } : State).lane .a with notPlaced := [⟨0, 0, 0, 0, 0, 0, 0, 0, 1⟩] }).newOp .a 2 0 0 65535 0 0 1 false 0 0 0 0, { laneState 2 with lanes := (Four.all Lane.idle).put .a { Lane.idle with notPlaced := [⟨0, 0, 0, 0, 0, 0, 0, 0, 0⟩] } }, (({ laneState 2 with lanes := (Four.all Lane.idle).put .a { Lane.idle with notPlaced := [⟨0, 0, 0, 0, 0, 0, 0, 0, 0⟩] } } : State).putLane .a { ({ laneState 2 with lanes := (Four.all Lane.idle).put .a { Lane.idle with notPlaced := [⟨0, 0, 0, 0, 0, 0, 0, 0, 0⟩] } } : State).lane .a with notPlaced := [⟨0, 0, 0, 0, 0, 0, 0, 0, 1⟩] }), by decide +kernel⟩,
    ⟨.a, 0, ⟨0, 0, 0, 0, 0, 0, 0, 0, 2⟩, { laneState 2 with lanes := (Four.all Lane.idle).put .a { Lane.idle with notPlaced := [⟨0, 0, 0, 0, 0, 0, 0, 0, 2⟩] } }, by decide +kernel⟩⟩

/-- A state and operands that meet the hypotheses of FirstPassesRun, clause by clause. -/
theorem witness_FirstPassesRun :
    (∃ (x : Act) (sector half : Nat) (be : Bool) (c d : Codeword) (p : Pass) (s u : State), (s.findCodeword x sector .read = some c) ∧ (u = (s.passedBy x c).decodeOn x c half) ∧ (((u.lane x).store.find? fun d => d.op == c.op && d.sector == c.sector) = some d) ∧ (d.pass = some p) ∧ (p.fin = .failed)) ∧
    (∃ (x : Act) (sector half v : Nat) (be : Bool) (c d : Codeword) (p : Pass) (s u t : State), (s.findCodeword x sector .read = some c) ∧ (u = (s.passedBy x c).decodeOn x c half) ∧ (((u.lane x).store.find? fun d => d.op == c.op && d.sector == c.sector) = some d) ∧ (d.pass = some p) ∧ (p.fin = .converged) ∧ (t = u.countRead (surfaceOf x d.head)) ∧ (v = judge (surfaceOf x d.head) d.track d.number d.epoch p.info)) ∧
    (∃ (x : Act) (sector half : Nat) (c d : Codeword) (s u v w : State), (s.findCodeword x sector .receipt = some c) ∧ (u = s.passedBy x c) ∧ (v = (if c.framing = 0 then u.decodeOn x c half else u)) ∧ (((v.lane x).store.find? fun e => e.op == c.op && e.sector == c.sector) = some d) ∧ ((d.framing ≠ 0 ∨ ∃ p, d.pass = some p ∧ p.fin ≠ .running)) ∧ (w = v.setAll [(Reg.CH_RCPT_LAST_RAW_ERR x, min 65535 d.raw), (Reg.CH_RCPT_LAST_ITER x, (d.pass.map (·.iters)).getD 0),
        (Reg.CH_RCPT_LAST_SECTOR x, sector)])) ∧
    (∃ (x : Act) (sector k code : Nat) (cmd : Option Nat) (lpn sect : Nat) (c : Codeword) (s : State), (s.freeRcv = some k) ∧ (((s.lane x).store.find? fun c => c.kind.code.isSome && c.number == sector) = some c) ∧ (c.kind = .moving code)) ∧
    (∃ (x : Act) (sector k : Nat) (cmd : Option Nat) (lpn sect : Nat) (q : RecPlace) (s : State), (s.freeRcv = some k) ∧ (((s.lane x).store.find? fun c => c.kind.code.isSome && c.number == sector) = none) ∧ ((s.rcv.queue.find? fun q => q.lane == x.n && q.sector == sector) = some q) ∧ (s.rcvUsed < 256)) :=
  ⟨⟨.a, 0, 0, false, cw0 .read 0 (some (pass0 .failed)), cw0 .read 0 (some (pass0 .failed)), pass0 .failed, opState 1 true [cw0 .read 0 (some (pass0 .failed))], ((opState 1 true [cw0 .read 0 (some (pass0 .failed))]).passedBy .a (cw0 .read 0 (some (pass0 .failed)))).decodeOn .a (cw0 .read 0 (some (pass0 .failed))) 0, by decide +kernel⟩,
    ⟨.a, 0, 0, judge 0 0 0 0 (pass0 .converged).info, false, cw0 .read 0 (some (pass0 .converged)), cw0 .read 0 (some (pass0 .converged)), pass0 .converged, opState 1 true [cw0 .read 0 (some (pass0 .converged))], ((opState 1 true [cw0 .read 0 (some (pass0 .converged))]).passedBy .a (cw0 .read 0 (some (pass0 .converged)))).decodeOn .a (cw0 .read 0 (some (pass0 .converged))) 0, (((opState 1 true [cw0 .read 0 (some (pass0 .converged))]).passedBy .a (cw0 .read 0 (some (pass0 .converged)))).decodeOn .a (cw0 .read 0 (some (pass0 .converged))) 0).countRead 0, by decide +kernel⟩,
    ⟨.a, 0, 0, cw0 .receipt 0x21 none, cw0 .receipt 0x21 none, opState 2 true [cw0 .receipt 0x21 none], opState 2 true [cw0 .receipt 0x21 none], opState 2 true [cw0 .receipt 0x21 none], (opState 2 true [cw0 .receipt 0x21 none]).setAll [(Reg.CH_RCPT_LAST_RAW_ERR .a, 0), (Reg.CH_RCPT_LAST_ITER .a, 0), (Reg.CH_RCPT_LAST_SECTOR .a, 0)], by (iterate 4 refine ⟨by decide +kernel, ?_⟩); (refine ⟨.inl (by decide), ?_⟩); decide +kernel⟩,
    ⟨.a, 0, 0, 0x21, none, 0, 0, cw0 (.moving 0x21) 0 none, opState 1 true [cw0 (.moving 0x21) 0 none], by decide +kernel⟩,
    ⟨.a, 0, 0, none, 0, 0, place0 3, { s0 with rcv := { State.reset.rcv with queue := [place0 3] } }, by decide +kernel⟩⟩

/-- A state and operands that meet the hypotheses of DecoderPoolRuns, clause by clause. -/
theorem witness_DecoderPoolRuns :
    (∃ (half : Nat) (s u : State), (half < 2) ∧ (u = State.poolRun half (fun s => s.unitsLeft half = 0) poolSteps s)) ∧
    (∃ (s : State), (s.dec.left0 = 0) ∧ ((0 : Nat) ∉ s.dec.returning)) ∧
    (∃ (s : State), (s.dec.left1 = 0) ∧ ((1 : Nat) ∈ s.dec.returning)) ∧
    (∃ (half : Nat) (s : State), (half < 2) ∧ (s.bit Reg.DEC_STATUS_IN_SERVICE half = true)) ∧
    (∃ (i : Initiator) (half : Nat) (s : State), (s.reaches i 0x40140000 = true) ∧ (s.bit Reg.DEC_STATUS_FAULT half = true)) ∧
    (∃ (i : Initiator) (half : Nat) (s : State), (s.reaches i 0x40140000 = true) ∧ (s.bit Reg.DEC_STATUS_FAULT half = false) ∧ (s.bit Reg.DEC_STATUS_IN_SERVICE half = false) ∧ (half ∉ s.dec.returning)) ∧
    (∃ (i : Initiator) (half : Nat) (s : State), (s.reaches i 0x40140000 = true) ∧ (s.get (halfEn (1 - half)) ≠ 0) ∧ (s.bit Reg.DEC_STATUS_FAULT (1 - half) = false)) ∧
    (∃ (i : Initiator) (half : Nat) (s : State), (s.reaches i 0x40140000 = true) ∧ ((s.get (halfEn (1 - half)) = 0 ∨ s.bit Reg.DEC_STATUS_FAULT (1 - half) = true))) ∧
    (∃ (i : Initiator) (tail : Nat) (s : State), (s.reaches i 0x40140028 = true) ∧ (s.jobsQueued (tail % 512) ≤ 256)) :=
  ⟨⟨0, s0, s0, by decide +kernel⟩,
    ⟨s0, by decide +kernel⟩,
    ⟨{ s0 with dec := ⟨[], [], 0, 0, 0, 0, [1]⟩ }, by decide +kernel⟩,
    ⟨1, (s0.setAll [(Reg.DEC_STATUS_IN_SERVICE, 3)]), by decide +kernel⟩,
    ⟨.core 0, 0, (s0.setAll [(Reg.DEC_STATUS_FAULT, 1)]), by decide +kernel⟩,
    ⟨.core 0, 0, (s0.set Reg.DEC_STATUS_IN_SERVICE 0), by decide +kernel⟩,
    ⟨.core 0, 0, (s0.setAll [(Reg.DEC_CTRL_HALF0_EN, 1), (Reg.DEC_CTRL_HALF1_EN, 1), (Reg.DEC_STATUS_FAULT, 0)]), by decide +kernel⟩,
    ⟨.core 0, 0, (s0.setAll [(Reg.DEC_CTRL_HALF1_EN, 0)]), by decide +kernel⟩,
    ⟨.core 0, 256, s0, by decide +kernel⟩⟩

/-- A state and operands that meet the hypotheses of RecoveryLadderRuns, clause by clause. -/
theorem witness_RecoveryLadderRuns :
    (∃ (half : Nat) (s u : State), ((s.rcv.work.any fun w => w.kind == 1) = false) ∧ (s.jobsQueued (s.get Reg.DEC_RJ_PTR_RJTAIL) ≠ 0) ∧ (s.resultRoom = true) ∧ (s.get Reg.DEC_STATUS_IN_SERVICE ≠ 0) ∧ (bitsOf (s.jobWord (s.get Reg.DEC_RJ_PTR_RJHEAD) 0) 31 28 = 1) ∧ (u = s.set Reg.DEC_RJ_PTR_RJHEAD ((s.get Reg.DEC_RJ_PTR_RJHEAD + 1) % 512))) ∧
    (∃ (half : Nat) (w v : Work) (e : WorkEnd) (s u : State), ((s.rcv.work.find? fun w => w.kind == 1) = some w) ∧ (u = s.runWork w half) ∧ (u.workNow w = some v) ∧ (v.fin = some e)) ∧
    (∃ (half : Nat) (s u : State), ((s.rcv.work.any fun w => w.kind == 2) = false) ∧ (s.jobsQueued (s.get Reg.DEC_RJ_PTR_RJTAIL) ≠ 0) ∧ (s.resultRoom = true) ∧ (s.get Reg.DEC_STATUS_IN_SERVICE ≠ 0) ∧ (bitsOf (s.jobWord (s.get Reg.DEC_RJ_PTR_RJHEAD) 0) 31 28 = 2) ∧ (u = s.set Reg.DEC_RJ_PTR_RJHEAD ((s.get Reg.DEC_RJ_PTR_RJHEAD + 1) % 512))) ∧
    (∃ (half : Nat) (w v : Work) (e : WorkEnd) (s u : State), ((s.rcv.work.find? fun w => w.kind == 2) = some w) ∧ (u = s.runWork w half) ∧ (u.workNow w = some v) ∧ (v.fin = some e)) ∧
    (∃ (p : RecPlace) (s u : State), (s.jobsQueued (s.get Reg.DEC_RJ_PTR_RJTAIL) ≠ 0) ∧ (s.resultRoom = true) ∧ (s.get Reg.DEC_STATUS_IN_SERVICE ≠ 0) ∧ (bitsOf (s.jobWord (s.get Reg.DEC_RJ_PTR_RJHEAD) 0) 31 28 = 3) ∧ (u = s.set Reg.DEC_RJ_PTR_RJHEAD ((s.get Reg.DEC_RJ_PTR_RJHEAD + 1) % 512)) ∧ (sGet? s.rcv.places (bitsOf (s.jobWord (s.get Reg.DEC_RJ_PTR_RJHEAD) 1) 31 24) = some p) ∧ (p.sum = false) ∧ (p.rung ≠ 6) ∧ (bitsOf (s.jobWord (s.get Reg.DEC_RJ_PTR_RJHEAD) 1) 23 16 = 0xFF)) ∧
    (∃ (place half : Nat) (w v : Work) (e : WorkEnd) (s u : State), ((s.rcv.work.find? fun w => w.kind == 0 && w.place == place) = some w) ∧ (u = s.runWork w half) ∧ (u.workNow w = some v) ∧ (v.fin = some e) ∧ (u.resultRoom = true)) ∧
    (∃ (place : Nat) (p : RecPlace) (s : State), (sGet? s.rcv.places place = some p) ∧ (p.cmd.isSome = true) ∧ (p.wanted s = true) ∧ (p.early = false) ∧ (p.sum = false) ∧ (s.canRebuild p.lpn p.sect p.surface = true) ∧ ((s.rcv.policy.earlyRevs ≤ p.revs ∨ s.headRetired (Act.num p.lane) p.head = true))) ∧
    (∃ (place : Nat) (p : RecPlace) (s : State), (sGet? s.rcv.places place = some p) ∧ (3 ≤ p.rung) ∧ (p.rung ≤ 5) ∧ ((p.sinceMs + s.rcv.policy.ladderMs ≤ s.ms ∨ s.commandLimit p = true))) :=
  ⟨⟨0, jobState 1 3, (jobState 1 3).set Reg.DEC_RJ_PTR_RJHEAD 1, by decide +kernel⟩,
    ⟨0, work0 1, work0 1, end0, workState 1 3, (workState 1 3).runWork (work0 1) 0, by decide +kernel⟩,
    ⟨0, jobState 2 3, (jobState 2 3).set Reg.DEC_RJ_PTR_RJHEAD 1, by decide +kernel⟩,
    ⟨0, work0 2, work0 2, end0, workState 2 3, (workState 2 3).runWork (work0 2) 0, by decide +kernel⟩,
    ⟨place0 3, jobState 3 3, (jobState 3 3).set Reg.DEC_RJ_PTR_RJHEAD 1, by decide +kernel⟩,
    ⟨0, 0, work0 0, work0 0, end0, workState 0 1, (workState 0 1).runWork (work0 0) 0, by decide +kernel⟩,
    ⟨0, place0 3, earlyState, by decide +kernel⟩,
    ⟨0, place0 3, placeState 3, by decide +kernel⟩⟩

/-- A state and operands that meet the hypotheses of ActuatorMessagesRun, clause by clause. -/
theorem witness_ActuatorMessagesRun :
    (∃ (x : Act) (m : Msg) (w : Motion) (s u t : State), (s.takeMsg x 0x01 = some m) ∧ (w = ⟨.seek, m.tag, bitsOf (m.word 1) 31 29, bitsOf (m.word 1) 23 0, bitsOf (m.word 2) 1 0, bitOf (m.word 2) 2, s.tick, none, none, false,
        false, false⟩) ∧ ((s.lp x).waiting.length + b2n (s.lp x).cur.isSome < 4) ∧ (u = s.discard (x.n + 1)) ∧ ((u.lp x).mode ≠ .unloading) ∧ ((u.lp x).mode ≠ .emergency) ∧ ((u.lp x).waiting = []) ∧ ((u.lp x).cur = none) ∧ ((u.lp x).retracting = false) ∧ (t = u.putLp x { u.lp x with waiting := [], offsetTag := none }) ∧ (t.refusal x w = none)) ∧
    (∃ (x : Act) (m : Msg) (w : Motion) (s u t : State), (s.takeMsg x 0x02 = some m) ∧ (w = ⟨.head, m.tag, bitsOf (m.word 1) 31 29, bitsOf (m.word 1) 23 0, 1, false, s.tick, none, none, false,
        false, false⟩) ∧ ((s.lp x).waiting.length + b2n (s.lp x).cur.isSome < 4) ∧ (u = s.discard (x.n + 1)) ∧ ((u.lp x).mode ≠ .unloading) ∧ ((u.lp x).mode ≠ .emergency) ∧ ((u.lp x).waiting = []) ∧ ((u.lp x).cur = none) ∧ ((u.lp x).retracting = false) ∧ (t = u.putLp x { u.lp x with waiting := [], offsetTag := none }) ∧ (t.refusal x w = none)) ∧
    (∃ (x : Act) (rCoil : Nat) (m : Msg) (w : Motion) (s u t : State), (s.takeMsg x 0x04 = some m) ∧ (w = ⟨.load, m.tag, bitsOf (m.word 1) 31 29, bitsOf (m.word 1) 23 0, 1, false, s.tick, none, none, false,
        false, false⟩) ∧ ((s.lp x).waiting.length + b2n (s.lp x).cur.isSome < 4) ∧ (u = s.discard (x.n + 1)) ∧ ((u.lp x).mode ≠ .unloading) ∧ ((u.lp x).mode ≠ .emergency) ∧ ((u.lp x).waiting = []) ∧ ((u.lp x).cur = none) ∧ ((u.lp x).retracting = false) ∧ (t = u.putLp x { u.lp x with waiting := [], offsetTag := none }) ∧ (t.refusal x w = none) ∧ (t.loadSlot x = true)) ∧
    (∃ (x : Act) (m : Msg) (w : Motion) (s u v : State), (s.takeMsg x 0x05 = some m) ∧ (u = s.discard (x.n + 1)) ∧ ((u.lp x).mode ≠ .emergency) ∧ (v = ((u.freePartner x).refuseCur x 0x02).refuseWaiting x 0x02) ∧ (w = ⟨.unload, m.tag, 0, 0, 1, false, s.tick, some s.tick, none, false, false, false⟩) ∧ (v.refusal x w = none)) ∧
    (∃ (x : Act) (m : Msg) (o : Int) (s u v : State), (s.takeMsg x 0x03 = some m) ∧ (u = s.discard (x.n + 1)) ∧ (o = signed 32 (m.word 1)) ∧ ((u.lp x).mode = .follow) ∧ (v = u.putLp x { u.lp x with offset := o, offsetTag := some m.tag, onCount := 0 })) ∧
    (∃ (x : Act) (m : Msg) (s u : State), (s.takeMsg x 0x06 = some m) ∧ (u = s.discard (x.n + 1))) ∧
    (∃ (x : Act) (m : Msg) (s u : State), (s.takeMsg x 0x07 = some m) ∧ (u = s.discard (x.n + 1)) ∧ (m.word 1 < 4)) ∧
    (∃ (x : Act) (m : Msg) (s u : State), (s.takeMsg x 0x07 = some m) ∧ (u = s.discard (x.n + 1)) ∧ (4 ≤ m.word 1)) :=
  ⟨⟨.a, ⟨[0x01000005, 7, 1], 0⟩, ⟨.seek, 5, 0, 7, 1, false, 0, none, none, false, false, false⟩, msgState 1 [0x01000005, 7, 1], ((msgState 1 [0x01000005, 7, 1]).discard 1), (((msgState 1 [0x01000005, 7, 1]).discard 1).putLp .a { ((msgState 1 [0x01000005, 7, 1]).discard 1).lp .a with waiting := [], offsetTag := none }), by decide +kernel⟩,
    ⟨.a, ⟨[0x02000005, 7], 0⟩, ⟨.head, 5, 0, 7, 1, false, 0, none, none, false, false, false⟩, msgState 1 [0x02000005, 7], ((msgState 1 [0x02000005, 7]).discard 1), (((msgState 1 [0x02000005, 7]).discard 1).putLp .a { ((msgState 1 [0x02000005, 7]).discard 1).lp .a with waiting := [], offsetTag := none }), by decide +kernel⟩,
    ⟨.a, 0, ⟨[0x04000005, 0], 0⟩, ⟨.load, 5, 0, 0, 1, false, 0, none, none, false, false, false⟩, { (msgState 1 [0x04000005, 0]).setAll [(Reg.SPN_SPEED_SPEED, 256 * 3500), (Reg.TCK_STATUS_SRC, 2), (Reg.ARM_HEADS_PRESENT .a, 1), (Reg.FRK_COST_MISC_ACT, 0)] with loops := .all Loop.cold }, (({ (msgState 1 [0x04000005, 0]).setAll [(Reg.SPN_SPEED_SPEED, 256 * 3500), (Reg.TCK_STATUS_SRC, 2), (Reg.ARM_HEADS_PRESENT .a, 1), (Reg.FRK_COST_MISC_ACT, 0)] with loops := .all Loop.cold }).discard 1), ((({ (msgState 1 [0x04000005, 0]).setAll [(Reg.SPN_SPEED_SPEED, 256 * 3500), (Reg.TCK_STATUS_SRC, 2), (Reg.ARM_HEADS_PRESENT .a, 1), (Reg.FRK_COST_MISC_ACT, 0)] with loops := .all Loop.cold }).discard 1).putLp .a { (({ (msgState 1 [0x04000005, 0]).setAll [(Reg.SPN_SPEED_SPEED, 256 * 3500), (Reg.TCK_STATUS_SRC, 2), (Reg.ARM_HEADS_PRESENT .a, 1), (Reg.FRK_COST_MISC_ACT, 0)] with loops := .all Loop.cold }).discard 1).lp .a with waiting := [], offsetTag := none }), by decide +kernel⟩,
    ⟨.a, ⟨[0x05000005, 0], 0⟩, ⟨.unload, 5, 0, 0, 1, false, 0, some 0, none, false, false, false⟩, msgState 1 [0x05000005, 0], ((msgState 1 [0x05000005, 0]).discard 1), ((((msgState 1 [0x05000005, 0]).discard 1).freePartner .a).refuseCur .a 0x02).refuseWaiting .a 0x02, by decide +kernel⟩,
    ⟨.a, ⟨[0x03000005, 5], 0⟩, 5, msgState 1 [0x03000005, 5], ((msgState 1 [0x03000005, 5]).discard 1), ((msgState 1 [0x03000005, 5]).discard 1).putLp .a { ((msgState 1 [0x03000005, 5]).discard 1).lp .a with offset := 5, offsetTag := some 5, onCount := 0 }, by decide +kernel⟩,
    ⟨.a, ⟨[0x06000005, 2], 0⟩, msgState 1 [0x06000005, 2], ((msgState 1 [0x06000005, 2]).discard 1), by decide +kernel⟩,
    ⟨.a, ⟨[0x07000005, 3], 0⟩, msgState 1 [0x07000005, 3], ((msgState 1 [0x07000005, 3]).discard 1), by decide +kernel⟩,
    ⟨.a, ⟨[0x07000005, 4], 0⟩, msgState 1 [0x07000005, 4], ((msgState 1 [0x07000005, 4]).discard 1), by decide +kernel⟩⟩

/-- A state and operands that meet the hypotheses of MotionsEnd, clause by clause. -/
theorem witness_MotionsEnd :
    (∃ (x : Act) (m : Motion) (s u : State), ((s.lp x).cur = some m) ∧ ((s.lp x).mode = .seek) ∧ (s.onTrackNow x = true) ∧ (m.kind = .seek) ∧ (u = (s.landed x).freeSeek x)) ∧
    (∃ (x : Act) (m : Motion) (s u : State), ((s.lp x).cur = some m) ∧ ((s.lp x).mode = .seek) ∧ (s.onTrackNow x = true) ∧ (m.kind = .head) ∧ (u = (s.landed x).freeSeek x)) ∧
    (∃ (x : Act) (sinceArrival : Nat) (m : Motion) (s u v : State), ((s.lp x).cur = some m) ∧ ((s.lp x).mode = .seek) ∧ (64 ≤ sinceArrival) ∧ (u = (s.freePartner x).freeSeek x) ∧ (v = ((u.putLp x { u.lp x with cur := none, track := bitsOf (u.lp x).status 23 0 }).setMode x .follow).setInhibit x true false)) ∧
    (∃ (x : Act) (m : Motion) (s u : State), ((s.lp x).cur = some m) ∧ ((s.lp x).mode = .switching) ∧ (s.onTrackNow x = true) ∧ (u = s.landed x)) ∧
    (∃ (x : Act) (m : Motion) (s : State), ((s.lp x).cur = some m) ∧ ((s.lp x).mode = .switching) ∧ (m.began.getD s.tick + 24 ≤ s.tick)) ∧
    (∃ (x : Act) (tag : Nat) (s u : State), ((s.lp x).offsetTag = some tag) ∧ ((s.lp x).mode = .follow) ∧ (s.onTrackNow x = true) ∧ (u = s.putLp x { s.lp x with offsetTag := none })) ∧
    (∃ (x : Act) (m : Motion) (s u : State), ((s.lp x).cur = some m) ∧ ((s.lp x).mode = .loading) ∧ (s.onTrackNow x = true) ∧ (u = ((s.setRamp x false false 0).set (Reg.ARM_STATUS_STATE x) 2).landed x)) ∧
    (∃ (x : Act) (m : Motion) (t : Nat) (s : State), ((s.lp x).cur = some m) ∧ ((s.lp x).mode = .loading) ∧ (m.began = some t) ∧ (bitOf (s.lp x).status 31 = false) ∧ (80 ≤ (s.tick - t) * s.tickNs / 1000000)) ∧
    (∃ (x : Act) (m : Motion) (s u : State), ((s.lp x).cur = some m) ∧ ((s.lp x).mode = .unloading) ∧ (u = (s.parkLoop x).areply x m.tag 0x85 [])) ∧
    (∃ (x : Act) (m : Motion) (s : State), ((s.lp x).cur = some m) ∧ ((s.lp x).mode = .seekWait) ∧ ((s.lp x).partner = none) ∧ (m.taken + s.cal.pairWait ≤ s.tick)) :=
  ⟨⟨.a, move0 .seek, loopState (loop0 .seek (some .seek)), ((loopState (loop0 .seek (some .seek))).landed .a).freeSeek .a, by decide +kernel⟩,
    ⟨.a, move0 .head, loopState (loop0 .seek (some .head)), ((loopState (loop0 .seek (some .head))).landed .a).freeSeek .a, by decide +kernel⟩,
    ⟨.a, 64, move0 .seek, loopState (loop0 .seek (some .seek)), ((loopState (loop0 .seek (some .seek))).freePartner .a).freeSeek .a, (((loopState (loop0 .seek (some .seek))).putLp .a { (loopState (loop0 .seek (some .seek))).lp .a with cur := none, track := 0 }).setMode .a .follow).setInhibit .a true false, by decide +kernel⟩,
    ⟨.a, move0 .head, loopState (loop0 .switching (some .head)), (loopState (loop0 .switching (some .head))).landed .a, by decide +kernel⟩,
    ⟨.a, move0 .head, { loopState (loop0 .switching (some .head)) with tick := 24 }, by decide +kernel⟩,
    ⟨.a, 5, loopState { loop0 .follow none with offsetTag := some 5, offset := 3 }, (loopState { loop0 .follow none with offsetTag := some 5, offset := 3 }).putLp .a { (loopState { loop0 .follow none with offsetTag := some 5, offset := 3 }).lp .a with offsetTag := none }, by decide +kernel⟩,
    ⟨.a, move0 .load, loopState (loop0 .loading (some .load)), (((loopState (loop0 .loading (some .load))).setRamp .a false false 0).set (Reg.ARM_STATUS_STATE .a) 2).landed .a, by decide +kernel⟩,
    ⟨.a, move0 .load, 0, { loopState (loop0 .loading (some .load)) with tick := 10000 }, by decide +kernel⟩,
    ⟨.a, move0 .unload, loopState (loop0 .unloading (some .unload)), ((loopState (loop0 .unloading (some .unload))).parkLoop .a).areply .a 5 0x85 [], by decide +kernel⟩,
    ⟨.a, move0 .seek, { loopState (loop0 .seekWait (some .seek)) with tick := 16 }, by decide +kernel⟩⟩

/-- A state and operands that meet the hypotheses of EmergencyUnloadRuns, clause by clause. -/
theorem witness_EmergencyUnloadRuns :
    (∃ (trigger : Nat) (x : Act) (s : State), (1 ≤ trigger) ∧ (trigger ≤ 4)) ∧
    (∃ (x : Act) (s : State), ((s.desk.recs.find? fun p => p.2.level == 3 && p.2.st == 1 && p.2.dom == x.n) = none)) ∧
    (∃ (x : Act) (s : State), (32 ≤ (s.lp x).miss) ∧ (((s.lp x).mode = .follow ∨ (s.lp x).mode = .seek ∨ (s.lp x).mode = .switching))) ∧
    (∃ (x : Act) (trigger : Nat) (s u : State), ((s.lp x).mode = .emergency) ∧ ((s.lp x).emTrigger = some trigger) ∧ (u = ((s.parkLoop x).areply x 0 0x86 [trigger, b2n (s.lp x).emHard]).latchedAfterDeclaration)) ∧
    (∃ (x : Act) (busMv coilMa coilUs : Nat) (s : State), (busMv < 16000) ∧ ((s.lp x).graveTicks = none) ∧ (¬(12 * s.get (Reg.ARM_VCM_CFG_I_LIMIT x) < coilMa ∧ 10 ≤ coilUs))) ∧
    (∃ (x : Act) (busMv coilMa coilUs : Nat) (s : State), (12 * s.get (Reg.ARM_VCM_CFG_I_LIMIT x) < coilMa) ∧ (10 ≤ coilUs) ∧ ((s.lp x).graveTicks = none)) ∧
    (∃ (i : Initiator) (x : Act) (s : State), (s.reaches i x.armBase = true)) ∧
    (∃ (x : Act) (s : State), (max 1 (s.get (Reg.ARM_VCM_CFG_RETRACT_WD x)) ≤ (s.lp x).quiet) ∧ ((s.lp x).parked = false)) ∧
    (∃ (x : Act) (m : Motion) (s u : State), ((s.lp x).retracting = true) ∧ ((s.lp x).cur = some m) ∧ ((s.lp x).emTrigger = none) ∧ (u = ((s.set (Reg.ARM_STATUS_RETRACTED x) 1).freePartner x).freeSeek x)) :=
  ⟨⟨4, .a, loopState (loop0 .follow none), by decide +kernel⟩,
    ⟨.a, loopState (loop0 .follow none), by decide +kernel⟩,
    ⟨.a, loopState { loop0 .follow none with miss := 32 }, by decide +kernel⟩,
    ⟨.a, 1, loopState { loop0 .emergency none with emTrigger := some 1 }, (((loopState { loop0 .emergency none with emTrigger := some 1 }).parkLoop .a).areply .a 0 0x86 [1, 0]).latchedAfterDeclaration, by decide +kernel⟩,
    ⟨.a, 15999, 0, 0, loopState (loop0 .follow none), by decide +kernel⟩,
    ⟨.a, 24000, 2401, 10, ((loopState (loop0 .follow none)).set (Reg.ARM_VCM_CFG_I_LIMIT .a) 200), by decide +kernel⟩,
    ⟨.core 0, .a, s0, by decide +kernel⟩,
    ⟨.a, loopState { loop0 .follow none with quiet := 300 }, by decide +kernel⟩,
    ⟨.a, move0 .seek, loopState { loop0 .seek (some .seek) with retracting := true }, (((loopState { loop0 .seek (some .seek) with retracting := true }).set (Reg.ARM_STATUS_RETRACTED .a) 1).freePartner .a).freeSeek .a, by decide +kernel⟩⟩

/-- A state and operands that meet the hypotheses of ArmDriverAndWedgesRun, clause by clause. -/
theorem witness_ArmDriverAndWedgesRun :
    (∃ (x : Act) (level : Nat) (s : State), (s.get (Reg.ARM_SHOCK_SHOCK_WI x) < level) ∧ (s.fitted x = true)) ∧
    (∃ (x : Act) (status : Nat) (s u v : State), (s.fitted x = true) ∧ ((s.lp x).paLow = false) ∧ (u = (s.set (Reg.ARM_STATUS_PA_FAULT x) 1).inc (Reg.ARM_COUNTS_PA_FAULTS x)) ∧ (v = (match s.cal.faultStatus with
        | some a => (u.emit (.aspFrame x true a 0)).set (Reg.ARM_PA_FAULT_STATUS x) status
        | none => u.set (Reg.ARM_PA_FAULT_STATUS x) 0))) ∧
    (∃ (i : Initiator) (x : Act) (addr data returned : Nat) (s : State), (s.reaches i (x.armBase + 0x10) = true) ∧ (addr % 128 = s.cal.headSelect)) ∧
    (∃ (i : Initiator) (x : Act) (addr data returned : Nat) (s u : State), (s.reaches i (x.armBase + 0x10) = true) ∧ (u = { s with bus := .written }.setAll [(Reg.ARM_ASP_CMD_RD x, 1), (Reg.ARM_ASP_CMD_ADDR x, addr), (Reg.ARM_ASP_CMD_DATA x, data)]) ∧ (u.get (Reg.CH_STATUS_WR_GATE x) = 0)) ∧
    (∃ (x : Act) (k v : Nat) (s : State), (16 < (s.lp x).sat) ∧ (k = 8 * x.n + (s.lp x).head) ∧ (v = sGet s.cons.satHeads k 0)) ∧
    (∃ (x : Act) (mark index track parity : Nat) (n q : Int) (s : State), (mark % 2 ^ 16 = servoMark) ∧ (s.portOn (lanePort x 0) = true) ∧ ((s.lp x).parked = false)) ∧
    (∃ (x : Act) (s u v : State), (s.fitted x = true) ∧ (s.eng.fresh.contains (lanePort x 0) = false) ∧ (u = s.wedgeDone x) ∧ (u.sliceRuns (1 + x.n) = true) ∧ ((u.lp x).parked = false) ∧ (v = u.putLp x { u.lp x with miss := (u.lp x).miss + 1, onCount := 0 })) :=
  ⟨⟨.a, 33, ((loopState (loop0 .follow none)).set (Reg.ARM_SHOCK_SHOCK_WI .a) 32), by decide +kernel⟩,
    ⟨.a, 0, loopState (loop0 .follow none), (((loopState (loop0 .follow none)).set (Reg.ARM_STATUS_PA_FAULT .a) 1).inc (Reg.ARM_COUNTS_PA_FAULTS .a)), ((((loopState (loop0 .follow none)).set (Reg.ARM_STATUS_PA_FAULT .a) 1).inc (Reg.ARM_COUNTS_PA_FAULTS .a)).set (Reg.ARM_PA_FAULT_STATUS .a) 0), by decide +kernel⟩,
    ⟨.core 0, .a, 0, 0, 0, s0, by decide +kernel⟩,
    ⟨.core 0, .a, 0, 0, 0, s0, ({ s0 with bus := .written }.setAll [(Reg.ARM_ASP_CMD_RD .a, 1), (Reg.ARM_ASP_CMD_ADDR .a, 0), (Reg.ARM_ASP_CMD_DATA .a, 0)]), by decide +kernel⟩,
    ⟨.a, 0, 0, loopState { loop0 .follow none with sat := 17 }, by decide +kernel⟩,
    ⟨.a, servoMark, 0, 0, 0, 0, 0, loopState (loop0 .follow none), by decide +kernel⟩,
    ⟨.a, (loopState (loop0 .follow none)).setAll [(Reg.CRE_STATUS_STATE, 3), (Reg.CRE_SLICE_EN_EN, 2 ^ 18 - 1)], (loopState (loop0 .follow none)).setAll [(Reg.CRE_STATUS_STATE, 3), (Reg.CRE_SLICE_EN_EN, 2 ^ 18 - 1)], ((loopState (loop0 .follow none)).setAll [(Reg.CRE_STATUS_STATE, 3), (Reg.CRE_SLICE_EN_EN, 2 ^ 18 - 1)]).putLp .a { loop0 .follow none with miss := 1, onCount := 0 }, by decide +kernel⟩⟩

/-- A state and operands that meet the hypotheses of SpindleMessagesRun, clause by clause. -/
theorem witness_SpindleMessagesRun :
    (∃ (m : Msg) (v : State) (s u : State), (s.spMsg 0x21 = some m) ∧ (u = s.discard 0) ∧ (s.legsLost < 2) ∧ ((s.spSt ≤ 1 ∨ s.spSt = 7 ∨ s.spSt = 0xA)) ∧ (s.commitSpinup = (v, true))) ∧
    (∃ (m : Msg) (s u : State), (s.spMsg 0x22 = some m) ∧ (u = s.discard 0)) ∧
    (∃ (m : Msg) (s u : State), (s.spMsg 0x23 = some m) ∧ (u = s.discard 0) ∧ (u.spSt = 6) ∧ (u.spn.method = 1) ∧ (u.handover ≤ u.speed)) ∧
    (∃ (m : Msg) (s u : State), (s.spMsg 0x23 = some m) ∧ (u = s.discard 0) ∧ (u.spSt ≠ 6)) ∧
    (∃ (s : State), (s.spSt = 2) ∧ (s.spn.brake = false) ∧ (s.spn.retryWait = false) ∧ (20000000 ≤ s.stateNs) ∧ (s.changesHere = [])) ∧
    (∃ (s : State), (s.spSt = 2) ∧ (s.spn.brake = false) ∧ (s.spn.retryWait = false) ∧ (20000000 ≤ s.stateNs) ∧ (s.changesHere.all (·.2) = true) ∧ ((gapsOf s.changesHere).isEmpty = false) ∧ (s.handover ≤ s.catchSpeed (meanGap (gapsOf s.changesHere)))) ∧
    (∃ (s : State), (s.spSt = 2) ∧ (s.spn.brake = false) ∧ (s.spn.retryWait = false) ∧ (20000000 ≤ s.stateNs) ∧ (s.changesHere.isEmpty = false) ∧ ((s.changesHere.all (·.2) = false ∨ s.catchSpeed (meanGap (gapsOf s.changesHere)) < s.handover))) ∧
    (∃ (s : State), (s.spSt = 2) ∧ (s.spn.brake = true) ∧ (200000000 ≤ s.quietNs)) ∧
    (∃ (s : State), (s.spSt = 3) ∧ (2000000 * s.get Reg.SPN_START_ALIGN_MS ≤ s.stateNs) ∧ (s.spn.secondAlign = false)) ∧
    (∃ (s : State), (s.spSt = 3) ∧ (2000000 * s.get Reg.SPN_START_ALIGN_MS ≤ s.stateNs) ∧ (s.spn.secondAlign = true)) ∧
    (∃ (l : List (Nat × Bool)) (s : State), (l = s.changesHere.take 6) ∧ (s.spSt = 8) ∧ (6 ≤ l.length)) ∧
    (∃ (s : State), (s.spSt = 8) ∧ ((s.changesHere.take 6).length < 6) ∧ (8000000 ≤ s.stateNs)) ∧
    (∃ (s : State), (s.spSt = 4) ∧ (64 ≤ s.motor.agree)) ∧
    (∃ (s u : State), (((s.spSt = 4 ∧ (3000000000 ≤ s.stateNs ∨ s.changesHere.any (fun c => !c.2) = true)) ∨
        (2 ≤ s.spSt ∧ s.spSt ≤ 4 ∧ s.spn.retryWait = false ∧ s.loopBusMv < 16000))) ∧ (s.spn.attempts < 2) ∧ (u = s.coast)) ∧
    (∃ (s u : State), (((s.spSt = 4 ∧ (3000000000 ≤ s.stateNs ∨ s.changesHere.any (fun c => !c.2) = true)) ∨
        (2 ≤ s.spSt ∧ s.spSt ≤ 4 ∧ s.spn.retryWait = false ∧ s.loopBusMv < 16000))) ∧ (2 ≤ s.spn.attempts) ∧ (u = s.coast)) ∧
    (∃ (s : State), (s.spn.retryWait = true) ∧ (2000000000 ≤ s.stateNs)) ∧
    (∃ (t tag : Nat) (s u : State), (s.spSt = 5) ∧ (s.motor.heldNs = some t) ∧ (t + 100000000 ≤ s.clockNs) ∧ (s.within 5 = true) ∧ (s.get Reg.SPN_STATUS_AT_SPEED = 0) ∧ (s.books.spinup = none) ∧ (s.spn.startTag = some tag) ∧ (u = { (s.set Reg.SPN_STATUS_AT_SPEED 1).set Reg.SPN_INT_AT_SPEED 1 with pmk := { s.pmk with speedNs := some s.clockNs, timedOut := false } })) :=
  ⟨⟨⟨[0x21000005, 0], 0⟩, ((msgState 0 [0x21000005, 0]).setAll [(Reg.FRK_COST_SPINUP, 0), (Reg.FRK_COST_ELEC, 0)]).commitSpinup.1, ((msgState 0 [0x21000005, 0]).setAll [(Reg.FRK_COST_SPINUP, 0), (Reg.FRK_COST_ELEC, 0)]), (((msgState 0 [0x21000005, 0]).setAll [(Reg.FRK_COST_SPINUP, 0), (Reg.FRK_COST_ELEC, 0)]).discard 0), by decide +kernel⟩,
    ⟨⟨[0x22000005, 0], 0⟩, (msgState 0 [0x22000005, 0]), ((msgState 0 [0x22000005, 0]).discard 0), by decide +kernel⟩,
    ⟨⟨[0x23000005, 0], 0⟩, { (msgState 0 [0x23000005, 0]).setAll [(Reg.SPN_STATUS_STATE, 6), (Reg.SPN_SPEED_SPEED, 512 * 255)] with spn := { Spn.cold with method := 1 } }, ({ (msgState 0 [0x23000005, 0]).setAll [(Reg.SPN_STATUS_STATE, 6), (Reg.SPN_SPEED_SPEED, 512 * 255)] with spn := { Spn.cold with method := 1 } }).discard 0, by decide +kernel⟩,
    ⟨⟨[0x23000005, 0], 0⟩, (msgState 0 [0x23000005, 0]), ((msgState 0 [0x23000005, 0]).discard 0), by decide +kernel⟩,
    ⟨{ s0.setAll [(Reg.CRE_STATUS_STATE, 3), (Reg.CRE_SLICE_EN_EN, 2 ^ 18 - 1), (Reg.SPN_STATUS_STATE, 2)] with clockNs := 20000000 }, by decide +kernel⟩,
    ⟨{ s0.setAll [(Reg.CRE_STATUS_STATE, 3), (Reg.CRE_SLICE_EN_EN, 2 ^ 18 - 1), (Reg.SPN_STATUS_STATE, 2)] with motor := { Motor.cold with changes := [(20000000, true), (19500000, true)] }, clockNs := 20000000 }, by decide +kernel⟩,
    ⟨{ s0.setAll [(Reg.CRE_STATUS_STATE, 3), (Reg.CRE_SLICE_EN_EN, 2 ^ 18 - 1), (Reg.SPN_STATUS_STATE, 2)] with motor := { Motor.cold with changes := [(20000000, false)] }, clockNs := 20000000 }, by decide +kernel⟩,
    ⟨{ s0.setAll [(Reg.CRE_STATUS_STATE, 3), (Reg.CRE_SLICE_EN_EN, 2 ^ 18 - 1), (Reg.SPN_STATUS_STATE, 2)] with spn := { Spn.cold with brake := true }, clockNs := 200000000 }, by decide +kernel⟩,
    ⟨{ s0.setAll [(Reg.CRE_STATUS_STATE, 3), (Reg.CRE_SLICE_EN_EN, 2 ^ 18 - 1), (Reg.SPN_STATUS_STATE, 3)] with clockNs := 10000000000 }, by decide +kernel⟩,
    ⟨{ s0.setAll [(Reg.CRE_STATUS_STATE, 3), (Reg.CRE_SLICE_EN_EN, 2 ^ 18 - 1), (Reg.SPN_STATUS_STATE, 3)] with spn := { Spn.cold with secondAlign := true }, clockNs := 10000000000 }, by decide +kernel⟩,
    ⟨[(0, true), (500000, true), (1000000, true), (1500000, true), (2000000, true), (2500000, true)], { s0.setAll [(Reg.CRE_STATUS_STATE, 3), (Reg.CRE_SLICE_EN_EN, 2 ^ 18 - 1), (Reg.SPN_STATUS_STATE, 8)] with motor := { Motor.cold with changes := [(2500000, true), (2000000, true), (1500000, true), (1000000, true), (500000, true), (0, true)] }, clockNs := 2500000 }, by decide +kernel⟩,
    ⟨{ s0.setAll [(Reg.CRE_STATUS_STATE, 3), (Reg.CRE_SLICE_EN_EN, 2 ^ 18 - 1), (Reg.SPN_STATUS_STATE, 8)] with clockNs := 8000000 }, by decide +kernel⟩,
    ⟨{ s0.setAll [(Reg.CRE_STATUS_STATE, 3), (Reg.CRE_SLICE_EN_EN, 2 ^ 18 - 1), (Reg.SPN_STATUS_STATE, 4)] with motor := { Motor.cold with agree := 64 } }, by decide +kernel⟩,
    ⟨{ s0.setAll [(Reg.CRE_STATUS_STATE, 3), (Reg.CRE_SLICE_EN_EN, 2 ^ 18 - 1), (Reg.SPN_STATUS_STATE, 4)] with spn := { Spn.cold with attempts := 1 }, clockNs := 3000000000 }, State.coast ({ s0.setAll [(Reg.CRE_STATUS_STATE, 3), (Reg.CRE_SLICE_EN_EN, 2 ^ 18 - 1), (Reg.SPN_STATUS_STATE, 4)] with spn := { Spn.cold with attempts := 1 }, clockNs := 3000000000 }), by decide +kernel⟩,
    ⟨{ s0.setAll [(Reg.CRE_STATUS_STATE, 3), (Reg.CRE_SLICE_EN_EN, 2 ^ 18 - 1), (Reg.SPN_STATUS_STATE, 4)] with spn := { Spn.cold with attempts := 2 }, clockNs := 3000000000 }, State.coast ({ s0.setAll [(Reg.CRE_STATUS_STATE, 3), (Reg.CRE_SLICE_EN_EN, 2 ^ 18 - 1), (Reg.SPN_STATUS_STATE, 4)] with spn := { Spn.cold with attempts := 2 }, clockNs := 3000000000 }), by decide +kernel⟩,
    ⟨{ s0.setAll [(Reg.CRE_STATUS_STATE, 3), (Reg.CRE_SLICE_EN_EN, 2 ^ 18 - 1), (Reg.SPN_STATUS_STATE, 7)] with spn := { Spn.cold with retryWait := true }, clockNs := 2000000000 }, by decide +kernel⟩,
    ⟨0, 5, { s0.setAll [(Reg.CRE_STATUS_STATE, 3), (Reg.CRE_SLICE_EN_EN, 2 ^ 18 - 1), (Reg.SPN_STATUS_STATE, 5), (Reg.SPN_SET_SET_RPM, 3600), (Reg.SPN_SPEED_SPEED, 256 * 3600)] with spn := { Spn.cold with startTag := some 5 }, motor := { Motor.cold with heldNs := some 0 }, clockNs := 100000000 }, { (({ s0.setAll [(Reg.CRE_STATUS_STATE, 3), (Reg.CRE_SLICE_EN_EN, 2 ^ 18 - 1), (Reg.SPN_STATUS_STATE, 5), (Reg.SPN_SET_SET_RPM, 3600), (Reg.SPN_SPEED_SPEED, 256 * 3600)] with spn := { Spn.cold with startTag := some 5 }, motor := { Motor.cold with heldNs := some 0 }, clockNs := 100000000 }).set Reg.SPN_STATUS_AT_SPEED 1).set Reg.SPN_INT_AT_SPEED 1 with pmk := { State.reset.pmk with speedNs := some 100000000, timedOut := false } }, by decide +kernel⟩⟩

/-- A state and operands that meet the hypotheses of SpindleProtectionsRun, clause by clause. -/
theorem witness_SpindleProtectionsRun :
    (∃ (mean : Int) (spread pm : Nat) (s u : State), (s.motor.full = some (mean, spread)) ∧ (s.pmAngle = some pm) ∧ (s.spSt = 5) ∧ (s.get Reg.SPN_STATUS_ANGLE_SRC = 1) ∧ (s.get Reg.SPN_CTRL_PM_COMM_EN ≠ 0) ∧ (s.get Reg.TCK_STATUS_SRC = 2) ∧ (s.spn.glide = false) ∧ (s.get Reg.SPN_COUNTS_REFUSALS < 8) ∧ (360 * mean.natAbs ≤ 15 * 65536) ∧ (360 * spread ≤ 5 * 65536) ∧ (u = s.putMotor { s.motor with full := none, off := angleDiff (s.get Reg.SPN_ANGLE_ANGLE) pm })) ∧
    (∃ (mean : Int) (spread pm : Nat) (s : State), (s.motor.full = some (mean, spread)) ∧ (s.pmAngle = some pm) ∧ (s.spSt = 5) ∧ (s.get Reg.SPN_STATUS_ANGLE_SRC = 1) ∧ (s.get Reg.SPN_CTRL_PM_COMM_EN ≠ 0) ∧ (s.get Reg.TCK_STATUS_SRC = 2) ∧ (s.spn.glide = false) ∧ (s.get Reg.SPN_COUNTS_REFUSALS < 8) ∧ (360 * mean.natAbs ≤ 15 * 65536) ∧ (5 * 65536 < 360 * spread)) ∧
    (∃ (mean : Int) (spread pm : Nat) (s m u : State), (s.motor.full = some (mean, spread)) ∧ (s.pmAngle = some pm) ∧ (s.spSt = 5) ∧ (s.get Reg.SPN_STATUS_ANGLE_SRC = 1) ∧ (s.get Reg.SPN_CTRL_PM_COMM_EN ≠ 0) ∧ (s.get Reg.TCK_STATUS_SRC = 2) ∧ (s.spn.glide = false) ∧ (s.get Reg.SPN_COUNTS_REFUSALS < 8) ∧ (15 * 65536 < 360 * mean.natAbs) ∧ (m = s.putMotor { s.motor with full := none }) ∧ (u = m.set Reg.SPN_COUNTS_REFUSALS (m.get Reg.SPN_COUNTS_REFUSALS + 1))) ∧
    (∃ (s : State), (s.spn.glide = true) ∧ (s.motor.off = 0)) ∧
    (∃ (s : State), (max 1 (s.get Reg.SPN_OBS_OBS_CONFIRM) ≤ s.motor.lost) ∧ (s.handover ≤ s.speed) ∧ ((s.spSt = 5 ∨ s.spSt = 6))) ∧
    (∃ (s : State), (s.spSt = 7) ∧ (s.spn.catchLeft.isSome = true) ∧ (2000000 ≤ s.stateNs)) ∧
    (∃ (s : State), (s.invMode = 1) ∧ (max 1 (s.get Reg.SPN_BRAKE_WD_TICKS) ≤ s.spn.quiet)) ∧
    (∃ (busMv : Nat) (s : State), (s.invMode = 1) ∧ (dbusMv (s.get Reg.PWR_DBUS_LVL_FLUX) ≤ busMv) ∧ (s.get Reg.SPN_STATUS_FLUX_BRAKE = 0) ∧ (s.get Reg.SPN_STATUS_DISABLED = 0)) ∧
    (∃ (busMv : Nat) (s : State), (s.get Reg.SPN_STATUS_FLUX_BRAKE ≠ 0) ∧ (busMv + 500 ≤ dbusMv (s.get Reg.PWR_DBUS_LVL_FLUX))) ∧
    (∃ (busMv : Nat) (s u : State), (dbusMv (s.get Reg.PWR_DBUS_LVL_DISABLE) ≤ busMv) ∧ (s.get Reg.SPN_STATUS_DISABLED = 0) ∧ (s.pdOn 27 = true) ∧ (u = ((s.set Reg.SPN_STATUS_DISABLED 1).inc Reg.SPN_COUNTS_DISABLES).set Reg.SPN_INT_DISABLED 1)) ∧
    (∃ (busMv us : Nat) (s u : State), (s.get Reg.SPN_STATUS_DISABLED ≠ 0) ∧ (busMv + 1000 ≤ dbusMv (s.get Reg.PWR_DBUS_LVL_FLUX)) ∧ (1000 ≤ us) ∧ (u = s.set Reg.SPN_STATUS_DISABLED 0) ∧ (u.spSt = 7) ∧ (u.spn.taken = true)) ∧
    (∃ (leg : Nat) (s u v : State), (leg < 3) ∧ (s.pdOn 27 = true) ∧ (u = ((s.setBit Reg.SPN_LEGS_LEG_FAULTS leg true).set Reg.SPN_INT_LEG_FAULT 1).event 0x28 0x08 0 0x28) ∧ (u.get Reg.SPN_STATUS_SPARE_LEG = 0) ∧ (u.bit Reg.SPN_LEGS_LEG_FAULTS 3 = false) ∧ (u.spSt ≠ 9) ∧ (v = ((u.putSpn { u.spn with swap := some leg, swapStart := 2 ≤ u.spSt && u.spSt ≤ 4, lossAfter := false }).setInv 0).setSp 9)) ∧
    (∃ (leg : Nat) (s u v : State), (leg < 4) ∧ (s.pdOn 27 = true) ∧ (u = ((s.setBit Reg.SPN_LEGS_LEG_FAULTS leg true).set Reg.SPN_INT_LEG_FAULT 1).event 0x28 0x08 0 0x28) ∧ ((leg = 3 ∨ u.get Reg.SPN_STATUS_SPARE_LEG ≠ 0 ∨ u.bit Reg.SPN_LEGS_LEG_FAULTS 3 = true ∨ u.spSt = 9)) ∧ (v = u.coast.notAtSpeed.spFault (u.spn.startTag.getD 0) 0x04)) ∧
    (∃ (leg : Nat) (s u : State), (s.spn.swap = some leg) ∧ (s.spSt = 9) ∧ (u = ((s.set Reg.SPN_STATUS_SPARE_LEG (leg + 1)).set Reg.SYS_SPARES_SPARE_LEG (leg + 1)).reply 0 0 0xA5 [leg + 1]) ∧ (u.spn.swapStart = true)) ∧
    (∃ (tag : Nat) (s u : State), (s.get Reg.SPN_CTRL_ENABLE ≠ 0) ∧ ((s.spSt = 6 ∨ s.spSt = 7)) ∧ (s.spn.retryWait = false) ∧ (2000000000 ≤ s.quietNs) ∧ (s.spn.stopTag = some tag) ∧ (u = ((((s.setInv 0).setSp 1).set Reg.SPN_SPEED_SPEED 0).set (Reg.CRE_X 0) 0).set Reg.SPN_STATUS_ANGLE_SRC 0) ∧ (u.spn = s.spn)) :=
  ⟨⟨2730, 910, 0, { s0.setAll [(Reg.CRE_STATUS_STATE, 3), (Reg.CRE_SLICE_EN_EN, 2 ^ 18 - 1), (Reg.SPN_STATUS_STATE, 5), (Reg.PMK_STATUS_VALID, 1), (Reg.SPN_STATUS_ANGLE_SRC, 1), (Reg.SPN_CTRL_PM_COMM_EN, 1), (Reg.TCK_STATUS_SRC, 2), (Reg.SPN_COUNTS_REFUSALS, 7)] with motor := { Motor.cold with full := some (2730, 910) } }, ({ s0.setAll [(Reg.CRE_STATUS_STATE, 3), (Reg.CRE_SLICE_EN_EN, 2 ^ 18 - 1), (Reg.SPN_STATUS_STATE, 5), (Reg.PMK_STATUS_VALID, 1), (Reg.SPN_STATUS_ANGLE_SRC, 1), (Reg.SPN_CTRL_PM_COMM_EN, 1), (Reg.TCK_STATUS_SRC, 2), (Reg.SPN_COUNTS_REFUSALS, 7)] with motor := { Motor.cold with full := some (2730, 910) } }).putMotor { Motor.cold with full := none, off := angleDiff 0 0 }, by decide +kernel⟩,
    ⟨2730, 911, 0, { s0.setAll [(Reg.CRE_STATUS_STATE, 3), (Reg.CRE_SLICE_EN_EN, 2 ^ 18 - 1), (Reg.SPN_STATUS_STATE, 5), (Reg.PMK_STATUS_VALID, 1), (Reg.SPN_STATUS_ANGLE_SRC, 1), (Reg.SPN_CTRL_PM_COMM_EN, 1), (Reg.TCK_STATUS_SRC, 2), (Reg.SPN_COUNTS_REFUSALS, 7)] with motor := { Motor.cold with full := some (2730, 911) } }, by decide +kernel⟩,
    ⟨2731, 910, 0, { s0.setAll [(Reg.CRE_STATUS_STATE, 3), (Reg.CRE_SLICE_EN_EN, 2 ^ 18 - 1), (Reg.SPN_STATUS_STATE, 5), (Reg.PMK_STATUS_VALID, 1), (Reg.SPN_STATUS_ANGLE_SRC, 1), (Reg.SPN_CTRL_PM_COMM_EN, 1), (Reg.TCK_STATUS_SRC, 2), (Reg.SPN_COUNTS_REFUSALS, 7)] with motor := { Motor.cold with full := some (2731, 910) } }, ({ s0.setAll [(Reg.CRE_STATUS_STATE, 3), (Reg.CRE_SLICE_EN_EN, 2 ^ 18 - 1), (Reg.SPN_STATUS_STATE, 5), (Reg.PMK_STATUS_VALID, 1), (Reg.SPN_STATUS_ANGLE_SRC, 1), (Reg.SPN_CTRL_PM_COMM_EN, 1), (Reg.TCK_STATUS_SRC, 2), (Reg.SPN_COUNTS_REFUSALS, 7)] with motor := { Motor.cold with full := some (2731, 910) } }).putMotor Motor.cold, (({ s0.setAll [(Reg.CRE_STATUS_STATE, 3), (Reg.CRE_SLICE_EN_EN, 2 ^ 18 - 1), (Reg.SPN_STATUS_STATE, 5), (Reg.PMK_STATUS_VALID, 1), (Reg.SPN_STATUS_ANGLE_SRC, 1), (Reg.SPN_CTRL_PM_COMM_EN, 1), (Reg.TCK_STATUS_SRC, 2), (Reg.SPN_COUNTS_REFUSALS, 7)] with motor := { Motor.cold with full := some (2731, 910) } }).putMotor Motor.cold).set Reg.SPN_COUNTS_REFUSALS 8, by decide +kernel⟩,
    ⟨{ s0.setAll [(Reg.CRE_STATUS_STATE, 3), (Reg.CRE_SLICE_EN_EN, 2 ^ 18 - 1), (Reg.SPN_STATUS_STATE, 5)] with spn := { Spn.cold with glide := true } }, by decide +kernel⟩,
    ⟨{ s0.setAll [(Reg.CRE_STATUS_STATE, 3), (Reg.CRE_SLICE_EN_EN, 2 ^ 18 - 1), (Reg.SPN_STATUS_STATE, 5), (Reg.SPN_SPEED_SPEED, 512 * 255)] with motor := { Motor.cold with lost := 255 } }, by decide +kernel⟩,
    ⟨{ s0.setAll [(Reg.CRE_STATUS_STATE, 3), (Reg.CRE_SLICE_EN_EN, 2 ^ 18 - 1), (Reg.SPN_STATUS_STATE, 7)] with spn := { Spn.cold with catchLeft := some 3 }, clockNs := 2000000 }, by decide +kernel⟩,
    ⟨State.setInv ({ s0.setAll [(Reg.CRE_STATUS_STATE, 3), (Reg.CRE_SLICE_EN_EN, 2 ^ 18 - 1), (Reg.SPN_STATUS_STATE, 5)] with spn := { Spn.cold with quiet := 255 } }) 1, by decide +kernel⟩,
    ⟨45500, State.setInv (s0.setAll [(Reg.CRE_STATUS_STATE, 3), (Reg.CRE_SLICE_EN_EN, 2 ^ 18 - 1), (Reg.SPN_STATUS_STATE, 5)]) 1, by decide +kernel⟩,
    ⟨0, (s0.setAll [(Reg.CRE_STATUS_STATE, 3), (Reg.CRE_SLICE_EN_EN, 2 ^ 18 - 1), (Reg.SPN_STATUS_STATE, 5), (Reg.SPN_STATUS_FLUX_BRAKE, 1)]), by decide +kernel⟩,
    ⟨45500, (s0.setAll [(Reg.CRE_STATUS_STATE, 3), (Reg.CRE_SLICE_EN_EN, 2 ^ 18 - 1), (Reg.SPN_STATUS_STATE, 5)]), (((s0.setAll [(Reg.CRE_STATUS_STATE, 3), (Reg.CRE_SLICE_EN_EN, 2 ^ 18 - 1), (Reg.SPN_STATUS_STATE, 5)]).set Reg.SPN_STATUS_DISABLED 1).inc Reg.SPN_COUNTS_DISABLES).set Reg.SPN_INT_DISABLED 1, by decide +kernel⟩,
    ⟨0, 1000, { s0.setAll [(Reg.CRE_STATUS_STATE, 3), (Reg.CRE_SLICE_EN_EN, 2 ^ 18 - 1), (Reg.SPN_STATUS_STATE, 7), (Reg.SPN_STATUS_DISABLED, 1)] with spn := { Spn.cold with taken := true } }, State.set ({ s0.setAll [(Reg.CRE_STATUS_STATE, 3), (Reg.CRE_SLICE_EN_EN, 2 ^ 18 - 1), (Reg.SPN_STATUS_STATE, 7), (Reg.SPN_STATUS_DISABLED, 1)] with spn := { Spn.cold with taken := true } }) Reg.SPN_STATUS_DISABLED 0, by decide +kernel⟩,
    ⟨2, (s0.setAll [(Reg.CRE_STATUS_STATE, 3), (Reg.CRE_SLICE_EN_EN, 2 ^ 18 - 1), (Reg.SPN_STATUS_STATE, 5)]), (((s0.setAll [(Reg.CRE_STATUS_STATE, 3), (Reg.CRE_SLICE_EN_EN, 2 ^ 18 - 1), (Reg.SPN_STATUS_STATE, 5)]).setBit Reg.SPN_LEGS_LEG_FAULTS 2 true).set Reg.SPN_INT_LEG_FAULT 1).event 0x28 0x08 0 0x28, ((((((s0.setAll [(Reg.CRE_STATUS_STATE, 3), (Reg.CRE_SLICE_EN_EN, 2 ^ 18 - 1), (Reg.SPN_STATUS_STATE, 5)]).setBit Reg.SPN_LEGS_LEG_FAULTS 2 true).set Reg.SPN_INT_LEG_FAULT 1).event 0x28 0x08 0 0x28).putSpn { Spn.cold with swap := some 2, swapStart := false, lossAfter := false }).setInv 0).setSp 9, by decide +kernel⟩,
    ⟨3, (s0.setAll [(Reg.CRE_STATUS_STATE, 3), (Reg.CRE_SLICE_EN_EN, 2 ^ 18 - 1), (Reg.SPN_STATUS_STATE, 5)]), (((s0.setAll [(Reg.CRE_STATUS_STATE, 3), (Reg.CRE_SLICE_EN_EN, 2 ^ 18 - 1), (Reg.SPN_STATUS_STATE, 5)]).setBit Reg.SPN_LEGS_LEG_FAULTS 3 true).set Reg.SPN_INT_LEG_FAULT 1).event 0x28 0x08 0 0x28, ((((s0.setAll [(Reg.CRE_STATUS_STATE, 3), (Reg.CRE_SLICE_EN_EN, 2 ^ 18 - 1), (Reg.SPN_STATUS_STATE, 5)]).setBit Reg.SPN_LEGS_LEG_FAULTS 3 true).set Reg.SPN_INT_LEG_FAULT 1).event 0x28 0x08 0 0x28).coast.notAtSpeed.spFault 0 0x04, by decide +kernel⟩,
    ⟨2, { s0.setAll [(Reg.CRE_STATUS_STATE, 3), (Reg.CRE_SLICE_EN_EN, 2 ^ 18 - 1), (Reg.SPN_STATUS_STATE, 9)] with spn := { Spn.cold with swap := some 2, swapStart := true } }, ((State.set ({ s0.setAll [(Reg.CRE_STATUS_STATE, 3), (Reg.CRE_SLICE_EN_EN, 2 ^ 18 - 1), (Reg.SPN_STATUS_STATE, 9)] with spn := { Spn.cold with swap := some 2, swapStart := true } }) Reg.SPN_STATUS_SPARE_LEG 3).set Reg.SYS_SPARES_SPARE_LEG 3).reply 0 0 0xA5 [3], by decide +kernel⟩,
    ⟨5, { s0.setAll [(Reg.CRE_STATUS_STATE, 3), (Reg.CRE_SLICE_EN_EN, 2 ^ 18 - 1), (Reg.SPN_STATUS_STATE, 6), (Reg.SPN_CTRL_ENABLE, 1)] with spn := { Spn.cold with stopTag := some 5, method := 1 }, clockNs := 2000000000 }, ((((State.setInv ({ s0.setAll [(Reg.CRE_STATUS_STATE, 3), (Reg.CRE_SLICE_EN_EN, 2 ^ 18 - 1), (Reg.SPN_STATUS_STATE, 6), (Reg.SPN_CTRL_ENABLE, 1)] with spn := { Spn.cold with stopTag := some 5, method := 1 }, clockNs := 2000000000 }) 0).setSp 1).set Reg.SPN_SPEED_SPEED 0).set (Reg.CRE_X 0) 0).set Reg.SPN_STATUS_ANGLE_SRC 0, by decide +kernel⟩⟩

/-- A state and operands that meet the hypotheses of KerrexFramesRun, clause by clause. -/
theorem witness_KerrexFramesRun :
    (∃ (slots : Sparse KxSlot) (n : Nat) (k : Krx) (s u : State), (s.role = 3) ∧ (s.maySend = true) ∧ (slots = s.krx.slots.map (fun p => (p.1, { p.2 with before := p.2.now, now := false, age := p.2.age + 1 }))) ∧ (n = (if s.krx.crcThis then s.krx.crcCycles + 1 else 0)) ∧ (k = { s.krx with slots := slots, cycle := (s.krx.cycle + 1) % 65536, census := s.krx.census - 1 }) ∧ (u = s.putKrx { k with due := true, crcCycles := n, crcThis := false })) ∧
    (∃ (f : List Nat) (s : State), (frameOk f true = true) ∧ (fb f 1 = 1) ∧ (s.solo = true)) ∧
    (∃ (f : List Nat) (s u : State), (frameOk f true = true) ∧ (fb f 1 = 1) ∧ (s.solo = false) ∧ (u = s.putKrx { s.krx with heard := sIns s.krx.heard (fb f 2 % 64) 0, lineNs := s.clockNs, beaconNs := s.clockNs }) ∧ (u.role = 1) ∧ (u.lowestHeard = some (fb f 2 % 64)) ∧ (u.get Reg.FRK_STATUS_PM_SLOT = fb f 2 % 64)) ∧
    (∃ (f : List Nat) (s u : State), (frameOk f true = true) ∧ (fb f 1 = 1) ∧ (s.solo = false) ∧ (u = s.putKrx { s.krx with heard := sIns s.krx.heard (fb f 2 % 64) 0, lineNs := s.clockNs, beaconNs := s.clockNs }) ∧ (u.role = 3) ∧ (fb f 2 % 64 < u.slot)) ∧
    (∃ (aged : Sparse Nat) (s u : State), (aged = (s.krx.heard.map fun p => (p.1, p.2 + 1)).filter (fun p => decide (p.2 ≤ 3))) ∧ (s.krx.due = true) ∧ (s.maySend = true) ∧ (s.role ≠ 3) ∧ (u = s.sendFrame 0x02 s.statusPayload)) ∧
    (∃ (f : List Nat) (inSlot : Bool) (s u : State), (frameOk f inSlot = true) ∧ (fb f 1 = 2) ∧ (s.solo = false) ∧ (s.role = 3) ∧ (u = (if fw f 6 ≠ s.get Reg.FRK_BOOK_BOOK_GEN then s.set Reg.FRK_STATUS_BOOK_MISMATCH 1 else s).heardStatus f)) ∧
    (∃ (f : List Nat) (s u : State), (frameOk f true = true) ∧ (fb f 1 = 3) ∧ (s.solo = false) ∧ (u = s.putKrx { s.krx with lineNs := s.clockNs }) ∧ (u.role = 3) ∧ (fb f 2 % 64 < u.slot)) ∧
    (∃ (f : List Nat) (s u : State), (frameOk f true = true) ∧ (fb f 1 = 3) ∧ (s.solo = false) ∧ (u = s.putKrx { s.krx with lineNs := s.clockNs }) ∧ (u.role = 2) ∧ (fb f 2 % 64 < u.slot)) ∧
    (∃ (f : List Nat) (inSlot explained : Bool) (s u : State), (frameOk f inSlot = false) ∧ (u = s.inc Reg.FRK_COUNTS_CRC_ERRORS)) :=
  ⟨⟨[], 0, { State.reset.krx with slots := [], cycle := 1, census := 0 }, (s0.setAll [(Reg.FRK_CTRL_ENABLE, 1), (Reg.SYS_IDENT_PRESENT, 1), (Reg.FRK_BOOK_LIM_SOLO, 0), (Reg.FRK_STATUS_ROLE, 3)]), State.putKrx (s0.setAll [(Reg.FRK_CTRL_ENABLE, 1), (Reg.SYS_IDENT_PRESENT, 1), (Reg.FRK_BOOK_LIM_SOLO, 0), (Reg.FRK_STATUS_ROLE, 3)]) { State.reset.krx with slots := [], cycle := 1, due := true, census := 0, crcCycles := 0, crcThis := false }, by decide +kernel⟩,
    ⟨frameBytes 1 3 0 (List.replicate 17 0), (s0.setAll [(Reg.FRK_BOOK_LIM_SOLO, 1)]), by decide +kernel⟩,
    ⟨frameBytes 1 3 0 (List.replicate 17 0), (s0.setAll [(Reg.FRK_BOOK_LIM_SOLO, 0), (Reg.FRK_STATUS_ROLE, 1), (Reg.FRK_STATUS_PM_SLOT, 3)]), State.putKrx (s0.setAll [(Reg.FRK_BOOK_LIM_SOLO, 0), (Reg.FRK_STATUS_ROLE, 1), (Reg.FRK_STATUS_PM_SLOT, 3)]) { State.reset.krx with heard := [(3, 0)] }, by decide +kernel⟩,
    ⟨frameBytes 1 3 0 (List.replicate 17 0), (s0.setAll [(Reg.FRK_BOOK_LIM_SOLO, 0), (Reg.FRK_STATUS_ROLE, 3), (Reg.SYS_IDENT_SLOT_ID, 4)]), State.putKrx (s0.setAll [(Reg.FRK_BOOK_LIM_SOLO, 0), (Reg.FRK_STATUS_ROLE, 3), (Reg.SYS_IDENT_SLOT_ID, 4)]) { State.reset.krx with heard := [(3, 0)] }, by decide +kernel⟩,
    ⟨[], { s0.setAll [(Reg.FRK_CTRL_ENABLE, 1), (Reg.SYS_IDENT_PRESENT, 1), (Reg.FRK_BOOK_LIM_SOLO, 0)] with krx := { State.reset.krx with due := true } }, ({ s0.setAll [(Reg.FRK_CTRL_ENABLE, 1), (Reg.SYS_IDENT_PRESENT, 1), (Reg.FRK_BOOK_LIM_SOLO, 0)] with krx := { State.reset.krx with due := true } } : State).sendFrame 0x02 ({ s0.setAll [(Reg.FRK_CTRL_ENABLE, 1), (Reg.SYS_IDENT_PRESENT, 1), (Reg.FRK_BOOK_LIM_SOLO, 0)] with krx := { State.reset.krx with due := true } } : State).statusPayload, by decide +kernel⟩,
    ⟨frameBytes 2 3 0 (List.replicate 9 0 ++ [0x40]), true, (s0.setAll [(Reg.FRK_BOOK_LIM_SOLO, 0), (Reg.FRK_STATUS_ROLE, 3)]), State.heardStatus (s0.setAll [(Reg.FRK_BOOK_LIM_SOLO, 0), (Reg.FRK_STATUS_ROLE, 3)]) (frameBytes 2 3 0 (List.replicate 9 0 ++ [0x40])), by decide +kernel⟩,
    ⟨frameBytes 3 3 0 [0, 0], (s0.setAll [(Reg.FRK_BOOK_LIM_SOLO, 0), (Reg.FRK_STATUS_ROLE, 3), (Reg.SYS_IDENT_SLOT_ID, 4)]), State.putKrx (s0.setAll [(Reg.FRK_BOOK_LIM_SOLO, 0), (Reg.FRK_STATUS_ROLE, 3), (Reg.SYS_IDENT_SLOT_ID, 4)]) State.reset.krx, by decide +kernel⟩,
    ⟨frameBytes 3 3 0 [0, 0], (s0.setAll [(Reg.FRK_BOOK_LIM_SOLO, 0), (Reg.FRK_STATUS_ROLE, 2), (Reg.SYS_IDENT_SLOT_ID, 4)]), State.putKrx (s0.setAll [(Reg.FRK_BOOK_LIM_SOLO, 0), (Reg.FRK_STATUS_ROLE, 2), (Reg.SYS_IDENT_SLOT_ID, 4)]) State.reset.krx, by decide +kernel⟩,
    ⟨[], true, false, s0, s0.inc Reg.FRK_COUNTS_CRC_ERRORS, by decide +kernel⟩⟩

/-- A state and operands that meet the hypotheses of KerrexElectionAndPurseRun, clause by clause. -/
theorem witness_KerrexElectionAndPurseRun :
    (∃ (s u : State), (s.maySend = true) ∧ (s.eligible = true) ∧ (s.role ≠ 3) ∧ (s.role ≠ 2) ∧ (s.krx.lineNs + 50000000 + 250000 * s.slot ≤ s.clockNs) ∧ (u = s.setRole 2 (s.get Reg.FRK_STATUS_PM_SLOT))) ∧
    (∃ (k : Krx) (s u : State), (s.role = 2) ∧ (k = { s.krx with slots := [], queue := [], census := 3, granting := false, unheard2s := false, crcCycles := 0 }) ∧ (u = s.putKrx { k with crcThis := false, due := true, lastGseq := 0, officeNs := s.clockNs })) ∧
    (∃ (s u : State), (u = s.putKrx { s.krx with seq := (s.krx.seq + 255) % 256 }) ∧ (u.role = 2)) ∧
    (∃ (s u : State), (u = s.putKrx { s.krx with seq := (s.krx.seq + 255) % 256 }) ∧ (u.krx.wakeSent = true)) ∧
    (∃ (s : State), (s.role = 3) ∧ (s.krx.census = 0)) ∧
    (∃ (s : State), (s.role = 3) ∧ (s.krx.officeNs + 2000000000 ≤ s.clockNs)) ∧
    (∃ (s u : State), (s.role = 3) ∧ (8 ≤ s.krx.crcCycles) ∧ (u = s.abdicate)) ∧
    (∃ (s : State), (s.krx.abdicatedNs + 100000000 ≤ s.clockNs)) ∧
    (∃ (fit : Nat) (s u v : State), (s.solo = false) ∧ (s.role ≠ 3) ∧ ((s.krx.beaconNs + 1000000000 ≤ s.clockNs ∨ s.krx.seenNs + 1000000000 ≤ s.clockNs)) ∧ (s.get Reg.FRK_STATUS_LAPSED = 0) ∧ (u = ((s.set Reg.FRK_STATUS_LAPSED 1).set Reg.FRK_INT_LAPSED 1).inc Reg.FRK_COUNTS_SHEDS) ∧ (fit = u.get Reg.FRK_BOOK_LIM_UNHEARD - u.fixedCommit) ∧ (v = u.putBooks { u.books with spinup := u.books.spinup.map (min fit), atSpeed := u.books.atSpeed.map (min fit) })) ∧
    (∃ (i : Initiator) (v : Nat) (s : State), (s.reaches i 0x4031000C = true)) ∧
    (∃ (i : Initiator) (all : Bool) (slot : Nat) (s : State), (s.reaches i 0x40310018 = true)) ∧
    (∃ (i : Initiator) (s u : State), (s.reaches i 0x40310000 = true) ∧ (s.hold ≤ s.get Reg.FRK_BOOK_LIM_BASE) ∧ (u = s.endAll.noEnvelope.pdAllOff ((List.range 30).filter fun n => n != 28))) ∧
    (∃ (i : Initiator) (s : State), (s.reaches i 0x40310000 = true) ∧ (s.get Reg.FRK_BOOK_LIM_BASE < s.hold)) :=
  ⟨⟨{ s0.setAll [(Reg.FRK_CTRL_ENABLE, 1), (Reg.SYS_IDENT_PRESENT, 1), (Reg.FRK_BOOK_LIM_SOLO, 0), (Reg.FRK_CTRL_ELIGIBLE, 1)] with bootKeys := [(Reg.FRK_BOOK_BOOK_GEN.addr, 0)], clockNs := 100000000 }, State.setRole { s0.setAll [(Reg.FRK_CTRL_ENABLE, 1), (Reg.SYS_IDENT_PRESENT, 1), (Reg.FRK_BOOK_LIM_SOLO, 0), (Reg.FRK_CTRL_ELIGIBLE, 1)] with bootKeys := [(Reg.FRK_BOOK_BOOK_GEN.addr, 0)], clockNs := 100000000 } 2 0, by decide +kernel⟩,
    ⟨{ State.reset.krx with slots := [], queue := [], census := 3, granting := false, unheard2s := false, crcCycles := 0 }, (s0.setAll [(Reg.FRK_STATUS_ROLE, 2)]), State.putKrx (s0.setAll [(Reg.FRK_STATUS_ROLE, 2)]) { State.reset.krx with slots := [], queue := [], census := 3, granting := false, unheard2s := false, crcCycles := 0, crcThis := false, due := true, lastGseq := 0 }, by decide +kernel⟩,
    ⟨(s0.setAll [(Reg.FRK_STATUS_ROLE, 2)]), State.putKrx (s0.setAll [(Reg.FRK_STATUS_ROLE, 2)]) { State.reset.krx with seq := 255 }, by decide +kernel⟩,
    ⟨{ s0 with krx := { State.reset.krx with wakeSent := true } }, State.putKrx s0 { State.reset.krx with wakeSent := true, seq := 255 }, by decide +kernel⟩,
    ⟨(s0.setAll [(Reg.FRK_STATUS_ROLE, 3)]), by decide +kernel⟩,
    ⟨{ s0.setAll [(Reg.FRK_STATUS_ROLE, 3)] with clockNs := 2000000000 }, by decide +kernel⟩,
    ⟨{ s0.setAll [(Reg.FRK_STATUS_ROLE, 3)] with krx := { State.reset.krx with crcCycles := 8 } }, State.abdicate { s0.setAll [(Reg.FRK_STATUS_ROLE, 3)] with krx := { State.reset.krx with crcCycles := 8 } }, by decide +kernel⟩,
    ⟨{ s0 with clockNs := 100000000 }, by decide +kernel⟩,
    ⟨(((State.set { s0.setAll [(Reg.FRK_BOOK_LIM_SOLO, 0)] with clockNs := 1000000000 } Reg.FRK_STATUS_LAPSED 1).set Reg.FRK_INT_LAPSED 1).inc Reg.FRK_COUNTS_SHEDS).get Reg.FRK_BOOK_LIM_UNHEARD - (((State.set { s0.setAll [(Reg.FRK_BOOK_LIM_SOLO, 0)] with clockNs := 1000000000 } Reg.FRK_STATUS_LAPSED 1).set Reg.FRK_INT_LAPSED 1).inc Reg.FRK_COUNTS_SHEDS).fixedCommit, { s0.setAll [(Reg.FRK_BOOK_LIM_SOLO, 0)] with clockNs := 1000000000 }, ((State.set { s0.setAll [(Reg.FRK_BOOK_LIM_SOLO, 0)] with clockNs := 1000000000 } Reg.FRK_STATUS_LAPSED 1).set Reg.FRK_INT_LAPSED 1).inc Reg.FRK_COUNTS_SHEDS, (((State.set { s0.setAll [(Reg.FRK_BOOK_LIM_SOLO, 0)] with clockNs := 1000000000 } Reg.FRK_STATUS_LAPSED 1).set Reg.FRK_INT_LAPSED 1).inc Reg.FRK_COUNTS_SHEDS).putBooks Books.clear, by decide +kernel⟩,
    ⟨.core 0, 0, s0, by decide +kernel⟩,
    ⟨.core 0, true, 0, s0, by decide +kernel⟩,
    ⟨.core 0, s0, s0.endAll.noEnvelope.pdAllOff ((List.range 30).filter fun n => n != 28), by decide +kernel⟩,
    ⟨.core 0, s0.set Reg.FRK_BOOK_LIM_BASE 0, by decide +kernel⟩⟩

/-- A state and operands that meet the hypotheses of PortsAndAddressesRun, clause by clause. -/
theorem witness_PortsAndAddressesRun :
    (∃ (p : Prt) (speed fec : Nat) (s : State), (s.pdOn (19 + p.n) = true) ∧ (s.get (Reg.ETH_CTRL_ENABLE p) ≠ 0) ∧ (s.get (Reg.ETH_CTRL_TX_DISABLE p) = 0) ∧ (s.get (Reg.ETH_STATUS_STATE p) ≠ 3)) ∧
    (∃ (p : Prt) (addr : Nat) (f : Port) (s : State), (s.portUp p = true) ∧ (s.get Reg.SYS_BOOT_MODE ≠ 2) ∧ (f = s.host.ports.at p) ∧ (linkLocal addr = false) ∧ ((f.cfg.mode6 = 2 ∨ f.cfg.mode6 = 1 ∧ addr = f.cfg.addr6))) ∧
    (∃ (p : Prt) (addr : Nat) (f : Port) (s : State), (s.portUp p = true) ∧ (s.get Reg.SYS_BOOT_MODE ≠ 2) ∧ (f = s.host.ports.at p) ∧ (linkLocal addr = true)) ∧
    (∃ (p : Prt) (addr : Nat) (s : State), (s.portUp p = true) ∧ (s.get Reg.SYS_BOOT_MODE ≠ 2) ∧ ((s.host.ports.at p).cfg.mode4 = 2)) ∧
    (∃ (p : Prt) (s : State), (s.pdOn (19 + p.n) = true)) ∧
    (∃ (i : Initiator) (p : Prt) (s : State), (s.reaches i p.base = true)) ∧
    (∃ (p : Prt) (s : State), (s.portUp p = true)) ∧
    (∃ (p : Prt) (vid : Nat) (s : State), (s.portUp p = true) ∧ (s.get (Reg.ETH_NET_VLAN_EN p) ≠ 0) ∧ (vid ≠ s.get (Reg.ETH_NET_VID p))) ∧
    (∃ (p : Prt) (cycles : Nat) (s : State), (s.portUp p = true) ∧ (s.classShare < cycles)) ∧
    (∃ (p : Prt) (target : Nat) (s : State), (s.portUp p = true) ∧ (s.serves 0x20 = true) ∧ ((s.host.ports.at p).owns false target = true)) ∧
    (∃ (p : Prt) (source target : Nat) (s : State), (s.portUp p = true) ∧ (s.serves 0x21 = true) ∧ ((s.host.ports.at p).owns false target = true)) ∧
    (∃ (p : Prt) (source target : Nat) (s : State), (s.portUp p = true) ∧ (s.serves 0x22 = true) ∧ ((s.host.ports.at p).owns true target = true)) ∧
    (∃ (p : Prt) (conn mtu : Nat) (s : State), (s.portUp p = true) ∧ (s.serves 0x21 = true)) ∧
    (∃ (p : Prt) (conn mtu : Nat) (s : State), (s.portUp p = true) ∧ (s.serves 0x22 = true)) ∧
    (∃ (p : Prt) (target : Nat) (s : State), (s.portUp p = true) ∧ (s.serves 0x23 = true) ∧ ((s.host.ports.at p).owns true target = true)) ∧
    (∃ (p : Prt) (router : Nat) (s : State), (s.portUp p = true) ∧ (s.serves 0x23 = true) ∧ ((s.host.ports.at p).cfg.gw6 = 0)) ∧
    (∃ (p : Prt) (a : Nat) (s : State), (s.portUp p = true) ∧ (s.serves 0x24 = true) ∧ ((s.host.ports.at p).cfg.mode4 = 2)) ∧
    (∃ (p : Prt) (a : Nat) (s : State), (s.portUp p = true) ∧ (s.serves 0x24 = true) ∧ ((s.host.ports.at p).cfg.mode4 = 2)) ∧
    (∃ (p : Prt) (a : Nat) (s : State), (s.portUp p = true) ∧ (s.serves 0x25 = true) ∧ ((s.host.ports.at p).cfg.mode6 = 2)) :=
  ⟨⟨.a, 2, 1, (s0.setAll [(Reg.ETH_CTRL_ENABLE .a, 1)]), by decide +kernel⟩,
    ⟨.a, 7, { Port.cold with cfg := { NetCfg.none with mode6 := 2 } }, (netState 0).putPort .a { Port.cold with cfg := { NetCfg.none with mode6 := 2 } }, by decide +kernel⟩,
    ⟨.a, 0x3FA * 2 ^ 118, (netState 0).host.ports.at .a, netState 0, by decide +kernel⟩,
    ⟨.b, 7, (netState 0).putPort .b { Port.cold with cfg := { NetCfg.none with mode4 := 2 } }, by decide +kernel⟩,
    ⟨.a, s0, by decide +kernel⟩,
    ⟨.core 0, .a, s0, by decide +kernel⟩,
    ⟨.a, netState 0, by decide +kernel⟩,
    ⟨.a, 5, (netState 0).set (Reg.ETH_NET_VLAN_EN .a) 1, by decide +kernel⟩,
    ⟨.a, 2501, netState 0, by decide +kernel⟩,
    ⟨.a, 1, netState 0x20, by decide +kernel⟩,
    ⟨.a, 0, 1, netState 0x21, by decide +kernel⟩,
    ⟨.a, 0, 1, netState 0x22, by decide +kernel⟩,
    ⟨.a, 0, 0, netState 0x21, by decide +kernel⟩,
    ⟨.a, 0, 0, netState 0x22, by decide +kernel⟩,
    ⟨.a, 1, netState 0x23, by decide +kernel⟩,
    ⟨.a, 9, netState 0x23, by decide +kernel⟩,
    ⟨.a, 0, (netState 0x24).putPort .a { Port.cold with cfg := { NetCfg.none with mode4 := 2 } }, by decide +kernel⟩,
    ⟨.a, 0, (netState 0x24).putPort .a { Port.cold with cfg := { NetCfg.none with mode4 := 2 } }, by decide +kernel⟩,
    ⟨.a, 0, (netState 0x25).putPort .a { Port.cold with cfg := { NetCfg.none with mode6 := 2 } }, by decide +kernel⟩⟩

/-- A state and operands that meet the hypotheses of TcpRuns, clause by clause. -/
theorem witness_TcpRuns :
    (∃ (p : Prt) (v6 : Bool) (addr port window n : Nat) (s : State), (s.portUp p = true) ∧ (s.serves 0x10 = true) ∧ (s.listens p v6 addr = true) ∧ (((List.range 160).find? fun n => (s.conn? n).isNone) = some n) ∧ ((port = 4420 ∨ port = 8009))) ∧
    (∃ (p : Prt) (v6 : Bool) (addr port window n : Nat) (s : State), (s.portUp p = true) ∧ (s.serves 0x10 = true) ∧ (s.listens p v6 addr = true) ∧ (((List.range 160).find? fun n => (s.conn? n).isNone) = some n) ∧ (port ≠ 4420) ∧ (port ≠ 8009)) ∧
    (∃ (conn : Nat) (c : Conn) (s : State), (s.conn? conn = some c) ∧ (s.portUp (Prt.num c.port) = true) ∧ (s.serves 0x11 = true)) ∧
    (∃ (conn : Nat) (c : Conn) (s : State), (s.conn? conn = some c) ∧ (s.portUp (Prt.num c.port) = true) ∧ (s.serves 0x12 = true)) ∧
    (∃ (conn : Nat) (bytes window left r ns : Nat) (c : Conn) (s : State), (s.conn? conn = some c) ∧ (s.portUp (Prt.num c.port) = true) ∧ (s.serves 0x13 = true) ∧ (left = c.unacked - bytes) ∧ (r = (if 0 < bytes then 0 else c.retries)) ∧ (ns = (if 0 < bytes then s.clockNs else c.sentNs))) ∧
    (∃ (conn : Nat) (c : Conn) (s : State), (s.conn? conn = some c) ∧ (s.portUp (Prt.num c.port) = true) ∧ (s.serves 0x14 = true)) ∧
    (∃ (conn : Nat) (c : Conn) (s : State), (s.conn? conn = some c) ∧ (s.portUp (Prt.num c.port) = true) ∧ (s.serves 0x15 = true) ∧ (c.unacked ≠ 0) ∧ (c.sentNs + 1000000 * s.rto c ≤ s.clockNs) ∧ (c.retries < 15)) ∧
    (∃ (conn : Nat) (c : Conn) (s : State), (s.conn? conn = some c) ∧ (s.portUp (Prt.num c.port) = true) ∧ (s.serves 0x15 = true) ∧ (c.unacked ≠ 0) ∧ (c.sentNs + 1000000 * s.rto c ≤ s.clockNs) ∧ (15 ≤ c.retries)) ∧
    (∃ (conn : Nat) (c : Conn) (s : State), (s.conn? conn = some c) ∧ (s.portUp (Prt.num c.port) = true) ∧ (s.serves 0x16 = true) ∧ (c.owed ≠ 0)) :=
  ⟨⟨.a, false, 1, 4420, 65535, 1, netState 0x10, by decide +kernel⟩,
    ⟨.a, false, 1, 80, 65535, 1, netState 0x10, by decide +kernel⟩,
    ⟨0, conn0, netState 0x11, by decide +kernel⟩,
    ⟨0, conn0, netState 0x12, by decide +kernel⟩,
    ⟨0, 0, 0, 0, 0, 0, conn0, netState 0x13, by decide +kernel⟩,
    ⟨0, conn0, netState 0x14, by decide +kernel⟩,
    ⟨0, { conn0 with unacked := 1, retries := 14 }, { (netState 0x15).putConn 0 { conn0 with unacked := 1, retries := 14 } with clockNs := 10000000000000 }, by decide +kernel⟩,
    ⟨0, { conn0 with unacked := 1, retries := 15 }, { (netState 0x15).putConn 0 { conn0 with unacked := 1, retries := 15 } with clockNs := 10000000000000 }, by decide +kernel⟩,
    ⟨0, { conn0 with owed := 1 }, (netState 0x16).putConn 0 { conn0 with owed := 1 }, by decide +kernel⟩⟩

/-- A state and operands that meet the hypotheses of SortingJobsRun, clause by clause. -/
theorem witness_SortingJobsRun :
    (∃ (i : Initiator) (tail : Nat) (s : State), (s.reaches i 0x40400030 = true) ∧ (s.sofQueued (tail % 512) ≤ 256)) ∧
    (∃ (i : Initiator) (tail : Nat) (s : State), (s.reaches i 0x40400030 = true) ∧ (256 < s.sofQueued (tail % 512))) ∧
    (∃ (tag count list out : Nat) (ents : List Nat) (s u : State), (s.pdOn 24 = true) ∧ (s.get Reg.SOF_CTRL_ENABLE ≠ 0) ∧ (s.get Reg.SOF_CTRL_PAUSE = 0) ∧ (s.sofRoom = true) ∧ (s.sofQueued (s.get Reg.SOF_J_PTR_SJTAIL) ≠ 0) ∧ (bitsOf (s.sofWord 0) 31 28 = 1) ∧ (tag = bitsOf (s.sofWord 0) 15 0) ∧ (count = bitsOf (s.sofWord 0) 27 16) ∧ (count ≤ 1024) ∧ (list = s.sofWord 2 + 2 ^ 32 * s.sofWord 3) ∧ (out = s.sofWord 4 + 2 ^ 32 * s.sofWord 5) ∧ (u = s.set Reg.SOF_J_PTR_SJHEAD ((s.get Reg.SOF_J_PTR_SJHEAD + 1) % 512)) ∧ (ents = (List.range count).map fun k =>
        if u.mapped (u.dram (list + 8 * k) 8) then u.mapEntry (u.dram (list + 8 * k) 8) else Config.refusedEntry (u.dram (list + 8 * k) 8) % 2 ^ 64)) ∧
    (∃ (tag count list out : Nat) (r : State × Nat × List Bool) (bad : List Nat) (s u : State), (s.pdOn 24 = true) ∧ (s.get Reg.SOF_CTRL_ENABLE ≠ 0) ∧ (s.get Reg.SOF_CTRL_PAUSE = 0) ∧ (s.sofRoom = true) ∧ (s.sofQueued (s.get Reg.SOF_J_PTR_SJTAIL) ≠ 0) ∧ (bitsOf (s.sofWord 0) 31 28 = 2) ∧ (tag = bitsOf (s.sofWord 0) 15 0) ∧ (count = bitsOf (s.sofWord 0) 27 16) ∧ (count ≤ 1024) ∧ (list = s.sofWord 2 + 2 ^ 32 * s.sofWord 3) ∧ (out = s.sofWord 4 + 2 ^ 32 * s.sofWord 5) ∧ (u = s.set Reg.SOF_J_PTR_SJHEAD ((s.get Reg.SOF_J_PTR_SJHEAD + 1) % 512)) ∧ (r = (u.unitReads list (32 * count) []).switchJob ((List.range count).map (u.tripleAt list))) ∧ (bad = (List.range count).filter fun k => !r.2.2.getD k true)) ∧
    (∃ (tag count list out : Nat) (valid : List Nat) (s u : State), (s.pdOn 24 = true) ∧ (s.get Reg.SOF_CTRL_ENABLE ≠ 0) ∧ (s.get Reg.SOF_CTRL_PAUSE = 0) ∧ (s.sofRoom = true) ∧ (s.sofQueued (s.get Reg.SOF_J_PTR_SJTAIL) ≠ 0) ∧ (bitsOf (s.sofWord 0) 31 28 = 3) ∧ (tag = bitsOf (s.sofWord 0) 15 0) ∧ (count = bitsOf (s.sofWord 0) 27 16) ∧ (count ≤ 1024) ∧ (list = s.sofWord 2 + 2 ^ 32 * s.sofWord 3) ∧ (out = s.sofWord 4 + 2 ^ 32 * s.sofWord 5) ∧ (u = s.set Reg.SOF_J_PTR_SJHEAD ((s.get Reg.SOF_J_PTR_SJHEAD + 1) % 512)) ∧ (valid = (List.range count).filter fun k =>
        u.slotValid (bitsOf (s.sofWord 1) 30 26) (bitsOf (s.sofWord 1) 25 10) k (u.dram (list + 8 * k) 8))) :=
  ⟨⟨.core 0, 256, s0, by decide +kernel⟩,
    ⟨.core 0, 257, s0, by decide +kernel⟩,
    ⟨0, 0, 0, 0, [], sofState 1, (sofState 1).set Reg.SOF_J_PTR_SJHEAD 1, by decide +kernel⟩,
    ⟨0, 0, 0, 0, (((sofState 2).set Reg.SOF_J_PTR_SJHEAD 1).unitReads 0 0 []).switchJob [], [], sofState 2, (sofState 2).set Reg.SOF_J_PTR_SJHEAD 1, by decide +kernel⟩,
    ⟨0, 0, 0, 0, [], sofState 3, (sofState 3).set Reg.SOF_J_PTR_SJHEAD 1, by decide +kernel⟩⟩

/-- A state and operands that meet the hypotheses of PlacementRuns, clause by clause. -/
theorem witness_PlacementRuns :
    (∃ (serial b most count : Nat) (t : TrayEnt) (n : Ns) (lpns : List Nat) (s : State), (s.tray? serial = some t) ∧ (sGet? s.host.nss t.nsid = some n) ∧ (s.mayPlace = true) ∧ (s.trayBusy serial = false) ∧ (n.csi = 0) ∧ (t.kind = .data) ∧ (t.next = some b) ∧ (most = min (256 - (b - t.first) % 256) (t.first + t.count - b)) ∧ (count = ((List.range most).takeWhile fun k => !t.isPlaced (b + k)).length) ∧ (s.trayAhead t b count = false) ∧ (lpns = (List.range ((b + count + 63) / 64 - b / 64)).map fun k => n.lpn + b / 64 + k)) ∧
    (∃ (serial key : Nat) (t : TrayEnt) (n : Ns) (s : State), (s.tray? serial = some t) ∧ (sGet? s.host.nss t.nsid = some n) ∧ (s.mayPlace = true) ∧ (s.trayBusy serial = false) ∧ (n.csi ≠ 2) ∧ (t.kind = .value) ∧ (key = kvKey t.nsid t.keyLen t.key) ∧ (t.count ≤ 1024 * s.get Reg.SOF_KV_BUNDLE_MAX) ∧ ((s.office.bundles.any fun b => !b.placed && b.values.any fun v => v.1 == key) = false)) ∧
    (∃ (nsid lpn : Nat) (n : Ns) (s : State), (sGet? s.host.nss nsid = some n) ∧ (s.mayPlace = true) ∧ (n.csi = 2) ∧ (n.lpn ≤ lpn) ∧ (lpn < n.lpn + n.parcels)) ∧
    (∃ (nsid lpn k base : Nat) (n : Ns) (blocks : List (Nat × Nat × Nat)) (places : List Nat) (s u : State), (sGet? s.host.nss nsid = some n) ∧ (s.mayPlace = true) ∧ (n.csi = 0) ∧ (k = s.layoutKM.1) ∧ (lpn % k = 0) ∧ (n.lpn ≤ lpn) ∧ (lpn + k ≤ n.lpn + n.parcels) ∧ (base = (lpn - n.lpn) * 64) ∧ (blocks = s.trayIn nsid base (64 * k)) ∧ (((List.range (64 * k)).all fun i => (s.trayHas nsid (base + i)).isSome) = true) ∧ ((blocks.any fun b => s.trayBusy b.1) = false) ∧ (((List.range k).any fun i => s.wgenWrap (lpn + i)) = false) ∧ (s.groupPut 2 ((List.range k).map (lpn + ·)) false = (u, some places))) ∧
    (∃ (k reads : Nat) (parityGood : Bool) (c : CommitUnit) (r : State × Nat × List Bool) (done : List (Nat × Nat × Nat)) (slots : List (Nat × FcSlot)) (s u v w x t : State), (sGet? s.office.units k = some c) ∧ (c.failed = false) ∧ ((c.parity = true ∨ parityGood = true)) ∧ (s.putWaits k c = false) ∧ (s.journalFull = false) ∧ (s.readsOnly = false) ∧ (s.pdOn 24 = true) ∧ (r = s.switchJob c.triples) ∧ (done = (List.range c.triples.length).filterMap (fun i => if r.2.2.getD i false then c.triples[i]? else none)) ∧ (slots = c.slots.filter (fun p => done.any fun t => t.1 == p.1)) ∧ (u = done.foldl (fun s t => s.settle r.2.1 reads slots t) r.1) ∧ (v = done.foldl (fun s t => s.unlist t.1 (s.unitMask c t.1)) u) ∧ (w = (v.putOffice { v.office with units := sDel v.office.units k }).journal ⟨r.2.1, c.record, done, slots, []⟩) ∧ (x = (match c.key with
        | some (key, len, vlen, lpn) =>
          w.putHost { w.host with kv := sIns w.host.kv key ⟨len, vlen, lpn, vlen ≤ 1024 * w.get Reg.SOF_KV_BUNDLE_MAX, w.bucketOf key⟩ }
        | none => w)) ∧ (t = (slots.foldl (fun s p => s.putOffice
        { s.office with regions := sPut s.office.regions (placeArea p.2.locA * 16 + bitsOf p.2.locA 9 0 / 48)
                          (sGet s.office.regions (placeArea p.2.locA * 16 + bitsOf p.2.locA 9 0 / 48) 0 + 1) 0 }) x).trayDone c done)) ∧
    (∃ (k reads : Nat) (receiptsGood parityGood : Bool) (c : CommitUnit) (s : State), (sGet? s.office.units k = some c) ∧ (c.failed = true)) ∧
    (∃ (take : List (Nat × FcSlot)) (places : List Nat) (s u v : State), (s.fcAbove (s.get Reg.SOF_FOLD_FOLD_HI) = true) ∧ (u = s.putOffice { s.office with folding := true }) ∧ (u.mayPlace = true) ∧ (take = u.foldTake) ∧ (take ≠ []) ∧ (u.groupPut 0 (take.map (·.1)) true = (v, some places))) ∧
    (∃ (member g : Nat) (e : Group) (lpns places : List Nat) (s u v : State), (s.gFree < s.get Reg.SOF_FOLD_RESORT_LO) ∧ (u = s.putOffice { s.office with resorting := true }) ∧ (u.resortSource = some (g, e)) ∧ (lpns = u.validOf g e member) ∧ (u.mayPlace = true) ∧ (lpns ≠ []) ∧ ((u.office.units.any fun c => c.2.triples.any fun t => lpns.contains t.1) = false) ∧ (member < u.layoutKM.1) ∧ (u.groupPut 1 lpns true = (v, some places))) ∧
    (∃ (p : RecPlace) (rest : List RecPlace) (s : State), (s.mayPlace = true) ∧ ((s.rcv.moves.find? fun m => m.status.isSome) = none) ∧ (s.rcv.ends = p :: rest) ∧ (s.mapEntry p.lpn ≠ p.entry)) ∧
    (∃ (p : RecPlace) (rest : List RecPlace) (s u : State), (s.mayPlace = true) ∧ ((s.rcv.moves.find? fun m => m.status.isSome) = none) ∧ (s.rcv.ends = p :: rest) ∧ (s.mapEntry p.lpn = p.entry) ∧ ((s.placeSlot p).isSome = true) ∧ (s.laneFree (Act.num p.lane) = true) ∧ (u = s.putRcv { s.rcv with ends := rest })) ∧
    (∃ (s : State), (s.host.lastMs + 10000 ≤ s.ms)) :=
  ⟨⟨0, 0, 1, 1, tray0 1, ns0, [0], sortState 1, by decide +kernel⟩,
    ⟨0, kvKey 1 0 0, { tray0 1 with kind := .value }, { ns0 with csi := 1 }, { sortState 1 with host := { State.reset.host with nss := [(1, { ns0 with csi := 1 })], tray := [{ tray0 1 with kind := .value }] } }.set Reg.SOF_KV_BUNDLE_MAX 8, by decide +kernel⟩,
    ⟨1, 0, { ns0 with csi := 2 }, { sortState 1 with host := { State.reset.host with nss := [(1, { ns0 with csi := 2 })] } }, by decide +kernel⟩,
    ⟨1, 0, 14, 0, ns0, (sortState 896).trayIn 1 0 896, ((sortState 896).groupPut 2 ((List.range 14).map (0 + ·)) false).2.get!, sortState 896, ((sortState 896).groupPut 2 ((List.range 14).map (0 + ·)) false).1, by decide +kernel⟩,
    ⟨0, 0, true, ⟨.place, [], [], false, [], none, true⟩, ({ sortState 1 with office := { office0 with units := [(0, ⟨.place, [], [], false, [], none, true⟩)] } } : State).switchJob [], [], [], { sortState 1 with office := { office0 with units := [(0, ⟨.place, [], [], false, [], none, true⟩)] } }, (({ sortState 1 with office := { office0 with units := [(0, ⟨.place, [], [], false, [], none, true⟩)] } } : State).switchJob []).1, (({ sortState 1 with office := { office0 with units := [(0, ⟨.place, [], [], false, [], none, true⟩)] } } : State).switchJob []).1, ((({ sortState 1 with office := { office0 with units := [(0, ⟨.place, [], [], false, [], none, true⟩)] } } : State).switchJob []).1.putOffice { office0 with units := [] }).journal ⟨0, 1, [], [], []⟩, ((({ sortState 1 with office := { office0 with units := [(0, ⟨.place, [], [], false, [], none, true⟩)] } } : State).switchJob []).1.putOffice { office0 with units := [] }).journal ⟨0, 1, [], [], []⟩, ((({ sortState 1 with office := { office0 with units := [(0, ⟨.place, [], [], false, [], none, true⟩)] } } : State).switchJob []).1.putOffice { office0 with units := [] }).journal ⟨0, 1, [], [], []⟩, by decide +kernel⟩,
    ⟨0, 0, true, true, ⟨.place, [], [], true, [], none, true⟩, { sortState 1 with office := { office0 with units := [(0, ⟨.place, [], [], true, [], none, true⟩)] } }, by decide +kernel⟩,
    ⟨foldState1.foldTake, (foldState1.groupPut 0 (foldState1.foldTake.map (·.1)) true).2.get!, foldState, foldState1, (foldState1.groupPut 0 (foldState1.foldTake.map (·.1)) true).1, by decide +kernel⟩,
    ⟨0, 3, group3, [5], (resortState1.groupPut 1 [5] true).2.get!, resortState, resortState1, (resortState1.groupPut 1 [5] true).1, by decide +kernel⟩,
    ⟨{ place0 6 with entry := 1 }, [], { sortState 1 with rcv := { State.reset.rcv with ends := [{ place0 6 with entry := 1 }] } }, by decide +kernel⟩,
    ⟨{ place0 6 with entry := 2 ^ 39 }, [], { (sortState 1).set (Reg.CH_CTRL_ENABLE .a) 1 with cells := [(4, 128)], rcv := { State.reset.rcv with ends := [{ place0 6 with entry := 2 ^ 39 }] }, office := { office0 with fc := [(0, ⟨1, 0, 67108864, 0, 0⟩)] } }, State.putRcv { (sortState 1).set (Reg.CH_CTRL_ENABLE .a) 1 with cells := [(4, 128)], rcv := { State.reset.rcv with ends := [{ place0 6 with entry := 2 ^ 39 }] }, office := { office0 with fc := [(0, ⟨1, 0, 67108864, 0, 0⟩)] } } { State.reset.rcv with ends := [] }, by decide +kernel⟩,
    ⟨{ s0 with clockNs := 10000000000 }, by decide +kernel⟩⟩

/-- A state and operands that meet the hypotheses of OfficeUpkeepRuns, clause by clause. -/
theorem witness_OfficeUpkeepRuns :
    (∃ (k : Nat) (b : Bundle) (s : State), (s.office.bundles[k]? = some b) ∧ (b.placed = false) ∧ (s.mayPlace = true) ∧ (b.sinceMs + 5000 ≤ s.ms)) ∧
    (∃ (k : Nat) (b : Bundle) (s : State), (s.office.bundles[k]? = some b) ∧ (b.placed = true) ∧ (s.mayPlace = true) ∧ (s.bundleLive b = 0) ∧ (0 < s.get Reg.SOF_KV_REPACK_PCT)) ∧
    (∃ (k : Nat) (b : Bundle) (vs : List (Nat × Nat)) (s : State), (s.office.bundles[k]? = some b) ∧ (b.placed = true) ∧ (s.mayPlace = true) ∧ (s.bundleLive b ≠ 0) ∧ (100 * s.bundleLive b < s.get Reg.SOF_KV_REPACK_PCT * 2 ^ 18) ∧ (vs = b.values.filter fun v => (sGet? s.host.kv v.1).any fun e => e.bundled && e.lpn == b.lpn)) ∧
    (∃ (nsid k t : Nat) (n : Ns) (s : State), (sGet? s.host.nss nsid = some n) ∧ ((n.zone k).lagMs = some t) ∧ ((n.zone k).recommended = false) ∧ (t + 60000 * s.get Reg.SOF_ZONE_ZFR_MIN ≤ s.ms)) ∧
    (∃ (nsid k t : Nat) (n : Ns) (s : State), (sGet? s.host.nss nsid = some n) ∧ ((n.zone k).lagMs = some t) ∧ ((n.zone k).recommended = true) ∧ (t + 120000 * s.get Reg.SOF_ZONE_ZFR_MIN ≤ s.ms)) ∧
    (∃ (img : Sparse Nat) (o : Office) (s v u : State), (s.pdOn 24 = true) ∧ (s.powerEvent = false) ∧ (s.office.unloaded = []) ∧ (s.readsOnly = false) ∧ (img = s.mapImage.foldl (fun m p => sIns m p.1 p.2) []) ∧ (o = { s.office with ckpt := img, ckptSeq := s.sofSeq, trim := s.sofSeq, stamp := s.formatStamp, savedRegions := s.office.regions }) ∧ (v = { s.putOffice o with mem := { s.mem with savedReads := s.mem.reads } }) ∧ (u = v.putOffice { v.office with journal := v.office.journal.filter fun r => v.office.trim ≤ r.seq })) ∧
    (∃ (k base : Nat) (ds : List (Nat × Nat × Nat)) (s u v w : State), (s.office.unloaded.contains k = true) ∧ (base = s.mapAddr 0) ∧ (u = { s with cells := s.cells.filter fun c => !(base ≤ c.1 && (c.1 - base) / 2 ^ 22 == k) }) ∧ (v = (u.office.ckpt.filter fun p => p.1 / 2 ^ 22 == k).foldl (fun s p => s.putByte (base + p.1) (BitVec.ofNat 8 p.2)) u) ∧ (ds = (v.office.journal.filter fun r => v.office.ckptSeq ≤ r.seq).flatMap (·.triples)) ∧ (w = (ds.filter fun t => 5 * t.1 / 2 ^ 22 == k).foldl (fun s t => s.putMap t.1 t.2.2) v)) ∧
    (∃ (s : State), (s.office.rebuildMap = false)) ∧
    (∃ (l : List (Nat × Nat × Nat)) (s u : State), (s.office.rebuildMap = true) ∧ (u = (l.filter fun t => l.all fun u => u.1 != t.1 || u.2.2 ≤ t.2.2).foldl (fun s t => if s.mapped t.1 then s.putMap t.1 t.2.1 else s) s)) ∧
    (∃ (place : Nat) (allGood : Bool) (s : State), (s.mayPlace = true) ∧ (s.coolEnough = true) ∧ (100 * s.get Reg.SOF_REFRESH_ATI_FC ≤ sGet s.office.regions place 0)) ∧
    (∃ (place : Nat) (allGood : Bool) (s : State), (s.mayPlace = true) ∧ (s.coolEnough = true) ∧ (1000 * s.get Reg.SOF_REFRESH_READ_SLC ≤ sGet s.mem.reads (2 * place) 0)) ∧
    (∃ (place : Nat) (s u : State), (s.mayPlace = true) ∧ (s.coolEnough = true) ∧ (s.get Reg.SOF_REFRESH_ATI_SC ≤ (s.band place).ati) ∧ (u = s.putOffice { s.office with bands := sIns s.office.bands place { s.band place with ati := 0 } })) ∧
    (∃ (k : Nat) (o : OldPlace) (readsEnded : Bool) (s u : State), (s.office.old[k]? = some o) ∧ (o.seq < s.office.trim) ∧ ((readsEnded = true ∨ o.reads = 0)) ∧ (u = s.putOffice { s.office with old := s.office.old.eraseIdx k })) :=
  ⟨⟨0, ⟨1, 2, [(5, 100)], 0, false⟩, { sortState 1 with office := { office0 with bundles := [⟨1, 2, [(5, 100)], 0, false⟩] }, clockNs := 5000000000 }, by decide +kernel⟩,
    ⟨0, ⟨1, 2, [(5, 100)], 0, true⟩, { sortState 1 with office := { office0 with bundles := [⟨1, 2, [(5, 100)], 0, true⟩] }, clockNs := 5000000000 }, by decide +kernel⟩,
    ⟨0, ⟨1, 2, [(5, 100)], 0, true⟩, [(5, 100)], { sortState 1 with office := { office0 with bundles := [⟨1, 2, [(5, 100)], 0, true⟩] }, clockNs := 5000000000, host := { State.reset.host with nss := [(1, ns0)], kv := [(5, ⟨1, 100, 2, true, 0⟩)] } }, by decide +kernel⟩,
    ⟨1, 0, 0, { ns0 with csi := 2, zones := [(0, { HZone.fresh with state := .implicitOpen, lagMs := some 0 })] }, { (sortState 1).set Reg.SOF_ZONE_ZFR_MIN 1 with host := { State.reset.host with nss := [(1, { ns0 with csi := 2, zones := [(0, { HZone.fresh with state := .implicitOpen, lagMs := some 0 })] })] }, clockNs := 120000000000 }, by decide +kernel⟩,
    ⟨1, 0, 0, { ns0 with csi := 2, zones := [(0, { HZone.fresh with state := .implicitOpen, lagMs := some 0, recommended := true })] }, { (sortState 1).set Reg.SOF_ZONE_ZFR_MIN 1 with host := { State.reset.host with nss := [(1, { ns0 with csi := 2, zones := [(0, { HZone.fresh with state := .implicitOpen, lagMs := some 0, recommended := true })] })] }, clockNs := 120000000000 }, by decide +kernel⟩,
    ⟨[], { (sortState 1).office with ckpt := [], ckptSeq := 0, trim := 0, stamp := none }, sortState 1, (sortState 1).putOffice { (sortState 1).office with ckpt := [], ckptSeq := 0, trim := 0, stamp := none }, (sortState 1).putOffice { (sortState 1).office with ckpt := [], ckptSeq := 0, trim := 0, stamp := none }, by decide +kernel⟩,
    ⟨0, 0, [], (sortState 1).putOffice { office0 with unloaded := [0] }, (sortState 1).putOffice { office0 with unloaded := [0] }, (sortState 1).putOffice { office0 with unloaded := [0] }, (sortState 1).putOffice { office0 with unloaded := [0] }, by decide +kernel⟩,
    ⟨s0, by decide +kernel⟩,
    ⟨[], s0.putOffice { Office.cold with rebuildMap := true }, s0.putOffice { Office.cold with rebuildMap := true }, by decide +kernel⟩,
    ⟨0, true, ((sortState 1).set Reg.SOF_REFRESH_ATI_FC 1).putOffice { office0 with regions := [(0, 100)] }, by decide +kernel⟩,
    ⟨0, true, { (sortState 1).set Reg.SOF_REFRESH_READ_SLC 1 with mem := { Mem.cold with reads := [(0, 1000)] } }, by decide +kernel⟩,
    ⟨0, (sortState 1).set Reg.SOF_REFRESH_ATI_SC 0, ((sortState 1).set Reg.SOF_REFRESH_ATI_SC 0).putOffice { office0 with bands := [(0, { Band.unused 0 with ati := 0 })] }, by decide +kernel⟩,
    ⟨0, ⟨mkEntry true false false 0 0, 0, 0⟩, true, (sortState 1).putOffice { office0 with old := [⟨mkEntry true false false 0 0, 0, 0⟩], trim := 1 }, (sortState 1).putOffice { office0 with trim := 1 }, by decide +kernel⟩⟩

/-- A state and operands that meet the hypotheses of ConsignmentJobsRun, clause by clause. -/
theorem witness_ConsignmentJobsRun :
    (∃ (i : Initiator) (tail : Nat) (s : State), (s.reaches i 0x40410010 = true) ∧ (s.cnsQueued (tail % 512) ≤ 256)) ∧
    (∃ (i : Initiator) (tail : Nat) (s : State), (s.reaches i 0x40410010 = true) ∧ (256 < s.cnsQueued (tail % 512))) ∧
    (∃ (errs : List EccErr) (j : CnsJob) (s u : State), (s.pdOn 24 = true) ∧ (s.get Reg.CNS_CTRL_ENABLE ≠ 0) ∧ (s.get Reg.CNS_CTRL_PAUSE = 0) ∧ (s.cnsRoom = true) ∧ (s.cnsQueued (s.get Reg.CNS_J_PTR_CJTAIL) ≠ 0) ∧ (bitsOf (s.cnsWord 0) 31 28 = 1) ∧ (j = ⟨bitsOf (s.cnsWord 0) 15 0, bitsOf (s.cnsWord 0) 27 22, s.cnsWord 1, bitsOf (s.cnsWord 2) 8 0,
        s.cnsWord 1 + 2 ^ 32 * s.cnsWord 3, s.cnsWord 4 + 2 ^ 32 * s.cnsWord 5, s.cnsWord 6 + 2 ^ 32 * s.cnsWord 7⟩) ∧ (s.cnsBad 1 j = false) ∧ (u = s.set Reg.CNS_J_PTR_CJHEAD ((s.get Reg.CNS_J_PTR_CJHEAD + 1) % 512))) ∧
    (∃ (errs : List EccErr) (j : CnsJob) (s u : State), (s.pdOn 24 = true) ∧ (s.get Reg.CNS_CTRL_ENABLE ≠ 0) ∧ (s.get Reg.CNS_CTRL_PAUSE = 0) ∧ (s.cnsRoom = true) ∧ (s.cnsQueued (s.get Reg.CNS_J_PTR_CJTAIL) ≠ 0) ∧ (bitsOf (s.cnsWord 0) 31 28 = 2) ∧ (j = ⟨bitsOf (s.cnsWord 0) 15 0, bitsOf (s.cnsWord 0) 27 22, s.cnsWord 1, bitsOf (s.cnsWord 2) 8 0,
        s.cnsWord 1 + 2 ^ 32 * s.cnsWord 3, s.cnsWord 4 + 2 ^ 32 * s.cnsWord 5, s.cnsWord 6 + 2 ^ 32 * s.cnsWord 7⟩) ∧ (s.cnsBad 2 j = false) ∧ (u = s.set Reg.CNS_J_PTR_CJHEAD ((s.get Reg.CNS_J_PTR_CJHEAD + 1) % 512))) ∧
    (∃ (errs : List EccErr) (j : CnsJob) (ms : List Nat) (n : Nat) (parity : Nat → Bool) (s u : State), (s.pdOn 24 = true) ∧ (s.get Reg.CNS_CTRL_ENABLE ≠ 0) ∧ (s.get Reg.CNS_CTRL_PAUSE = 0) ∧ (s.cnsRoom = true) ∧ (s.cnsQueued (s.get Reg.CNS_J_PTR_CJTAIL) ≠ 0) ∧ (bitsOf (s.cnsWord 0) 31 28 = 3) ∧ (j = ⟨bitsOf (s.cnsWord 0) 15 0, bitsOf (s.cnsWord 0) 27 22, s.cnsWord 1, bitsOf (s.cnsWord 2) 8 0,
        s.cnsWord 1 + 2 ^ 32 * s.cnsWord 3, s.cnsWord 4 + 2 ^ 32 * s.cnsWord 5, s.cnsWord 6 + 2 ^ 32 * s.cnsWord 7⟩) ∧ (s.cnsBad 3 j = false) ∧ (u = s.set Reg.CNS_J_PTR_CJHEAD ((s.get Reg.CNS_J_PTR_CJHEAD + 1) % 512)) ∧ (ms = u.members j.src) ∧ (n = 4096 * j.sectors) ∧ (parity = fun i => decide (u.layoutKM.1 ≤ i)) ∧ (u.membersRead ms n parity errs = true)) ∧
    (∃ (errs : List EccErr) (j : CnsJob) (ms : List Nat) (n : Nat) (out : Nat → Bool) (v : State) (s u : State), (s.pdOn 24 = true) ∧ (s.get Reg.CNS_CTRL_ENABLE ≠ 0) ∧ (s.get Reg.CNS_CTRL_PAUSE = 0) ∧ (s.cnsRoom = true) ∧ (s.cnsQueued (s.get Reg.CNS_J_PTR_CJTAIL) ≠ 0) ∧ (bitsOf (s.cnsWord 0) 31 28 = 4) ∧ (j = ⟨bitsOf (s.cnsWord 0) 15 0, bitsOf (s.cnsWord 0) 27 22, s.cnsWord 1, bitsOf (s.cnsWord 2) 8 0,
        s.cnsWord 1 + 2 ^ 32 * s.cnsWord 3, s.cnsWord 4 + 2 ^ 32 * s.cnsWord 5, s.cnsWord 6 + 2 ^ 32 * s.cnsWord 7⟩) ∧ (s.cnsBad 4 j = false) ∧ (u = s.set Reg.CNS_J_PTR_CJHEAD ((s.get Reg.CNS_J_PTR_CJHEAD + 1) % 512)) ∧ (ms = u.members j.src) ∧ (n = 4096 * j.sectors) ∧ (out = fun i => bitOf j.mask i) ∧ (u.membersRead ms n out errs = true) ∧ (v = (u.membersEcc ms n out errs).inc Reg.CNS_COUNTS_DECODES)) ∧
    (∃ (errs : List EccErr) (j : CnsJob) (ms : List Nat) (n : Nat) (out : Nat → Bool) (v : State) (s u : State), (s.pdOn 24 = true) ∧ (s.get Reg.CNS_CTRL_ENABLE ≠ 0) ∧ (s.get Reg.CNS_CTRL_PAUSE = 0) ∧ (s.cnsRoom = true) ∧ (s.cnsQueued (s.get Reg.CNS_J_PTR_CJTAIL) ≠ 0) ∧ (bitsOf (s.cnsWord 0) 31 28 = 5) ∧ (j = ⟨bitsOf (s.cnsWord 0) 15 0, bitsOf (s.cnsWord 0) 27 22, s.cnsWord 1, bitsOf (s.cnsWord 2) 8 0,
        s.cnsWord 1 + 2 ^ 32 * s.cnsWord 3, s.cnsWord 4 + 2 ^ 32 * s.cnsWord 5, s.cnsWord 6 + 2 ^ 32 * s.cnsWord 7⟩) ∧ (s.cnsBad 5 j = false) ∧ (u = s.set Reg.CNS_J_PTR_CJHEAD ((s.get Reg.CNS_J_PTR_CJHEAD + 1) % 512)) ∧ (ms = u.members j.src) ∧ (n = 4096 * j.sectors) ∧ (out = fun i => bitOf j.mask i) ∧ (u.membersRead ms n out errs = true) ∧ (v = u.membersEcc ms n out errs)) :=
  ⟨⟨.core 0, 256, s0, by decide +kernel⟩,
    ⟨.core 0, 257, s0, by decide +kernel⟩,
    ⟨[], ⟨0, 0, 0, 1, 0, 0, 0⟩, cnsState 1, (cnsState 1).set Reg.CNS_J_PTR_CJHEAD 1, by decide +kernel⟩,
    ⟨[], ⟨0, 0, 0, 1, 0, 0, 0⟩, cnsState 2, (cnsState 2).set Reg.CNS_J_PTR_CJHEAD 1, by decide +kernel⟩,
    ⟨[], ⟨0, 0, 0, 1, 0, 0, 0⟩, ((cnsState 3).set Reg.CNS_J_PTR_CJHEAD 1).members 0, 4096, fun i => decide (((cnsState 3).set Reg.CNS_J_PTR_CJHEAD 1).layoutKM.1 ≤ i), cnsState 3, (cnsState 3).set Reg.CNS_J_PTR_CJHEAD 1, by (iterate 8 refine ⟨by decide +kernel, ?_⟩); (iterate 4 refine ⟨rfl, ?_⟩); decide +kernel⟩,
    ⟨[], ⟨0, 0, 0, 1, 0, 0, 0⟩, ((cnsState 4).set Reg.CNS_J_PTR_CJHEAD 1).members 0, 4096, fun i => bitOf 0 i, (((cnsState 4).set Reg.CNS_J_PTR_CJHEAD 1).membersEcc (((cnsState 4).set Reg.CNS_J_PTR_CJHEAD 1).members 0) 4096 (fun i => bitOf 0 i) []).inc Reg.CNS_COUNTS_DECODES, cnsState 4, (cnsState 4).set Reg.CNS_J_PTR_CJHEAD 1, by (iterate 8 refine ⟨by decide +kernel, ?_⟩); (iterate 4 refine ⟨rfl, ?_⟩); (refine ⟨by decide +kernel, ?_⟩); exact rfl⟩,
    ⟨[], ⟨0, 0, 0, 1, 0, 0, 0⟩, ((cnsState 5).set Reg.CNS_J_PTR_CJHEAD 1).members 0, 4096, fun i => bitOf 0 i, ((cnsState 5).set Reg.CNS_J_PTR_CJHEAD 1).membersEcc (((cnsState 5).set Reg.CNS_J_PTR_CJHEAD 1).members 0) 4096 (fun i => bitOf 0 i) [], cnsState 5, (cnsState 5).set Reg.CNS_J_PTR_CJHEAD 1, by (iterate 8 refine ⟨by decide +kernel, ?_⟩); (iterate 4 refine ⟨rfl, ?_⟩); (refine ⟨by decide +kernel, ?_⟩); exact rfl⟩⟩

/-- A state and operands that meet the hypotheses of KeysAndRetirementRun, clause by clause. -/
theorem witness_KeysAndRetirementRun :
    (∃ (i : Initiator) (slot : Nat) (s v : State), (s.reaches i 0x40410030 = true) ∧ (v = s.setAll [(Reg.CNS_KEY_CTRL_OP, 1), (Reg.CNS_KEY_CTRL_SLOT, slot % 64), (Reg.CNS_KEY_CTRL_GO, 0)])) ∧
    (∃ (i : Initiator) (slot : Nat) (s v : State), (s.reaches i 0x40410030 = true) ∧ (v = s.setAll [(Reg.CNS_KEY_CTRL_OP, 2), (Reg.CNS_KEY_CTRL_SLOT, slot % 64), (Reg.CNS_KEY_CTRL_GO, 0)])) ∧
    (∃ (i : Initiator) (slot : Nat) (s v : State), (s.reaches i 0x40410030 = true) ∧ (v = s.setAll [(Reg.CNS_KEY_CTRL_OP, 3), (Reg.CNS_KEY_CTRL_SLOT, slot % 64), (Reg.CNS_KEY_CTRL_GO, 0)])) ∧
    (∃ (i : Initiator) (s v : State), (s.reaches i 0x40410030 = true) ∧ (v = s.setAll [(Reg.CNS_KEY_CTRL_OP, 4), (Reg.CNS_KEY_CTRL_SLOT, 0), (Reg.CNS_KEY_CTRL_GO, 0)])) ∧
    (∃ (i : Initiator) (v : Nat) (s u : State), (s.reaches i 0x4041011C = true) ∧ (u = s.set (Reg.CNS_KEK_KEK 7) v)) ∧
    (∃ (surface trigger : Nat) (s : State), (surface < 32) ∧ (s.fitted (Act.num (surface / 8)) = true) ∧ (s.headRetired (Act.num (surface / 8)) (surface % 8) = false) ∧ (s.retireTrigger surface trigger = true)) ∧
    (∃ (lost new : Nat × Nat) (rest : List (Nat × Nat)) (p : Pair) (s : State), (s.cons.todo = lost :: rest) ∧ (s.cons.rebuild = 2) ∧ (s.mayPlace = true) ∧ ((s.office.pairs.find? fun p => p.a == lost || p.b == lost) = some p) ∧ (p.a = lost) ∧ (s.gone p.b.1 = false) ∧ (s.replacement (s.surfaces.filter fun x => x / 8 != p.b.1 / 8) lost = some new)) ∧
    (∃ (g : Nat) (e : Group) (seen : List Nat) (all : Bool) (s : State), (sGet? s.office.groups g = some e) ∧ (e.closed = true) ∧ (s.missing e = 0) ∧ (s.powerEvent = false) ∧ (seen = (if s.cons.scrubbed.contains g then s.cons.scrubbed else g :: s.cons.scrubbed)) ∧ (all = ((s.office.groups.filter fun p => p.2.closed && s.missing p.2 == 0).all fun p => seen.contains p.1))) :=
  ⟨⟨.core 0, 0, s0, s0.setAll [(Reg.CNS_KEY_CTRL_OP, 1), (Reg.CNS_KEY_CTRL_SLOT, 0), (Reg.CNS_KEY_CTRL_GO, 0)], by decide +kernel⟩,
    ⟨.core 0, 0, s0, s0.setAll [(Reg.CNS_KEY_CTRL_OP, 2), (Reg.CNS_KEY_CTRL_SLOT, 0), (Reg.CNS_KEY_CTRL_GO, 0)], by decide +kernel⟩,
    ⟨.core 0, 0, s0, s0.setAll [(Reg.CNS_KEY_CTRL_OP, 3), (Reg.CNS_KEY_CTRL_SLOT, 0), (Reg.CNS_KEY_CTRL_GO, 0)], by decide +kernel⟩,
    ⟨.core 0, s0, s0.setAll [(Reg.CNS_KEY_CTRL_OP, 4), (Reg.CNS_KEY_CTRL_SLOT, 0), (Reg.CNS_KEY_CTRL_GO, 0)], by decide +kernel⟩,
    ⟨.core 0, 0, s0, s0.set (Reg.CNS_KEK_KEK 7) 0, by decide +kernel⟩,
    ⟨0, 2, { s0 with cons := { Consign.cold with noMark := [(0, 3)] } }, by decide +kernel⟩,
    ⟨(8, 0), (9, 49), [], ⟨(8, 0), (0, 0), false⟩, { (sortState 1).set (Reg.ARM_HEADS_PRESENT .b) 2 with office := { office0 with pairs := [⟨(8, 0), (0, 0), false⟩] }, cons := { Consign.cold with todo := [(8, 0)], rebuild := 2 } }, by decide +kernel⟩,
    ⟨3, group3, [3], true, resortState, by decide +kernel⟩⟩

/-- A state and operands that meet the hypotheses of ProtocolHandlersRun, clause by clause. -/
theorem witness_ProtocolHandlersRun :
    (∃ (hdr data : Bool) (key conn : Nat) (s t : State), (s.preUp = true) ∧ (t = s.preBegin.prePlain hdr data 1024) ∧ (t.pre.handler = some (key, conn)) ∧ ((PW.ofNat (sGet t.pre.store t.pre.pc 0)).act = 7)) ∧
    (∃ (hdr data : Bool) (key conn : Nat) (s t : State), (s.preUp = true) ∧ (t = s.preBegin.prePlain hdr data 1024) ∧ (t.pre.handler = some (key, conn)) ∧ ((PW.ofNat (sGet t.pre.store t.pre.pc 0)).act = 8)) ∧
    (∃ (hdr data : Bool) (key conn : Nat) (s t : State), (s.preUp = true) ∧ (t = s.preBegin.prePlain hdr data 1024) ∧ (t.pre.handler = some (key, conn)) ∧ ((PW.ofNat (sGet t.pre.store t.pre.pc 0)).act = 1)) ∧
    (∃ (hdr data : Bool) (key conn : Nat) (s t : State), (s.preUp = true) ∧ (t = s.preBegin.prePlain hdr data 1024) ∧ (t.pre.handler = some (key, conn)) ∧ ((PW.ofNat (sGet t.pre.store t.pre.pc 0)).act = 2)) ∧
    (∃ (hdr data : Bool) (key conn : Nat) (s t : State), (s.preUp = true) ∧ (t = s.preBegin.prePlain hdr data 1024) ∧ (t.pre.handler = some (key, conn)) ∧ ((PW.ofNat (sGet t.pre.store t.pre.pc 0)).act = 3)) ∧
    (∃ (hdr data : Bool) (key conn : Nat) (s t : State), (s.preUp = true) ∧ (t = s.preBegin.prePlain hdr data 1024) ∧ (t.pre.handler = some (key, conn)) ∧ ((PW.ofNat (sGet t.pre.store t.pre.pc 0)).act = 4)) ∧
    (∃ (hdr data : Bool) (key conn : Nat) (s t : State), (s.preUp = true) ∧ (t = s.preBegin.prePlain hdr data 1024) ∧ (t.pre.handler = some (key, conn)) ∧ ((PW.ofNat (sGet t.pre.store t.pre.pc 0)).act = 5)) ∧
    (∃ (hdr data : Bool) (key conn : Nat) (s t : State), (s.preUp = true) ∧ (t = s.preBegin.prePlain hdr data 1024) ∧ (t.pre.handler = some (key, conn)) ∧ ((PW.ofNat (sGet t.pre.store t.pre.pc 0)).act = 6)) ∧
    (∃ (i : Initiator) (arg conn key : Nat) (s : State), (s.reaches i 0x4052001C = true) ∧ (0x80 ≤ key) ∧ (key < 0x100) ∧ (s.keyValid key = true)) ∧
    (∃ (i : Initiator) (arg conn key : Nat) (s : State), (s.reaches i 0x4052001C = true) ∧ (key < 0x80)) :=
  ⟨⟨true, true, 0x80, 0, preState (8 * 2 ^ 124), preState (8 * 2 ^ 124), by decide +kernel⟩,
    ⟨true, true, 0x80, 0, preState (0x11 * 2 ^ 103), preState (0x11 * 2 ^ 103), by decide +kernel⟩,
    ⟨true, true, 0x80, 0, preState (2 ^ 78), preState (2 ^ 78), by decide +kernel⟩,
    ⟨true, true, 0x80, 0, preState (2 * 2 ^ 78), preState (2 * 2 ^ 78), by decide +kernel⟩,
    ⟨true, true, 0x80, 0, preState (3 * 2 ^ 78), preState (3 * 2 ^ 78), by decide +kernel⟩,
    ⟨true, true, 0x80, 0, preState (4 * 2 ^ 78), preState (4 * 2 ^ 78), by decide +kernel⟩,
    ⟨true, true, 0x80, 0, preState (5 * 2 ^ 78), preState (5 * 2 ^ 78), by decide +kernel⟩,
    ⟨true, true, 0x80, 0, preState (6 * 2 ^ 78), preState (6 * 2 ^ 78), by decide +kernel⟩,
    ⟨.core 0, 0, 0, 0x80, netState 0x80, by decide +kernel⟩,
    ⟨.core 0, 0, 0, 0, s0, by decide +kernel⟩⟩

/-- A state and operands that meet the hypotheses of ProtocolEngineAndPdusRun, clause by clause. -/
theorem witness_ProtocolEngineAndPdusRun :
    (∃ (i : Initiator) (s : State), (s.reaches i 0x40520000 = true) ∧ ((s.get Reg.PRE_STATUS_STATE = 0 ∨ s.get Reg.PRE_STATUS_STATE = 2 ∨ s.get Reg.PRE_STATUS_STATE = 4))) ∧
    (∃ (a : Nat) (words : Sparse Nat) (b : List Nat) (u s : State), (s.get Reg.PRE_STATUS_STATE = 1) ∧ (a = s.get Reg.PRE_LOAD_LO_ADDR + 2 ^ 32 * s.get Reg.PRE_LOAD_HI_ADDR) ∧ (words = s.imageWords a 16 2048) ∧ (b = s.imageBytes a (512 + 16 * 2048)) ∧ (u = (s.putPre { s.pre with store := words }).set Reg.PRE_INT_LOAD_DONE 1)) ∧
    (∃ (i : Initiator) (s u : State), (s.reaches i 0x40520000 = true) ∧ (2 ≤ s.get Reg.PRE_STATUS_STATE) ∧ (u = s.set Reg.PRE_CTRL_RUN 1)) ∧
    (∃ (i : Initiator) (s u : State), (s.reaches i 0x40520000 = true) ∧ (s.get Reg.PRE_STATUS_STATE = 3) ∧ (u = s.set Reg.PRE_CTRL_RUN 0)) ∧
    (∃ (i : Initiator) (s : State), (s.reaches i 0x40520000 = true)) ∧
    (∃ (conn : Nat) (hdgst ddgst : Bool) (maxR2t : Nat) (e : Conn) (c d : Conn) (s u : State), (s.conn? conn = some c) ∧ (s.portUp (Prt.num c.port) = true) ∧ (s.serves 0x00 = true) ∧ (d = { c with owed := c.owed + 128 }) ∧ (u = s.putConn conn d) ∧ (c.ready = false) ∧ (e = { d.sends 128 s.clockNs with ready := true, hdgst := hdgst, ddgst := ddgst, maxR2t := maxR2t, window := max c.window (c.unacked + 128) })) ∧
    (∃ (conn : Nat) (pfv : Nat) (hdgst ddgst : Bool) (maxR2t : Nat) (c d : Conn) (s u : State), (s.conn? conn = some c) ∧ (s.portUp (Prt.num c.port) = true) ∧ (s.serves 0x00 = true) ∧ (d = { c with owed := c.owed + 128 }) ∧ (u = s.putConn conn d) ∧ ((c.ready = true ∨ pfv ≠ 0))) ∧
    (∃ (conn : Nat) (c d : Conn) (s u : State), (s.conn? conn = some c) ∧ (s.portUp (Prt.num c.port) = true) ∧ (s.serves 0x02 = true) ∧ (d = { c with owed := c.owed + 24 }) ∧ (u = s.putConn conn d)) ∧
    (∃ (conn key : Nat) (c : Conn) (s : State), (s.conn? conn = some c) ∧ (s.portUp (Prt.num c.port) = true) ∧ (s.preUp = true) ∧ (s.keyValid key = false)) :=
  ⟨⟨.core 0, s0, by decide +kernel⟩,
    ⟨0, [], (s0.set Reg.PRE_STATUS_STATE 1).imageBytes 0 (512 + 16 * 2048), ((s0.set Reg.PRE_STATUS_STATE 1).putPre { Pre.cold with store := [] }).set Reg.PRE_INT_LOAD_DONE 1, (s0.set Reg.PRE_STATUS_STATE 1), ⟨by decide +kernel, by decide +kernel, (imageWords_empty _ _ _ _ (by decide +kernel)).symm, rfl, rfl⟩⟩,
    ⟨.core 0, s0.set Reg.PRE_STATUS_STATE 2, (s0.set Reg.PRE_STATUS_STATE 2).set Reg.PRE_CTRL_RUN 1, by decide +kernel⟩,
    ⟨.core 0, netState 0, (netState 0).set Reg.PRE_CTRL_RUN 0, by decide +kernel⟩,
    ⟨.core 0, s0, by decide +kernel⟩,
    ⟨0, true, true, 0, { Conn.fresh 0 false 65535 with owed := 128, ready := true, hdgst := true, ddgst := true, unacked := 128 }, Conn.fresh 0 false 65535, { Conn.fresh 0 false 65535 with owed := 128 }, (netState 0).putConn 0 (Conn.fresh 0 false 65535), (netState 0).putConn 0 { Conn.fresh 0 false 65535 with owed := 128 }, by decide +kernel⟩,
    ⟨0, 0, true, true, 0, conn0, { conn0 with owed := 128 }, netState 0x00, (netState 0x00).putConn 0 { conn0 with owed := 128 }, by decide +kernel⟩,
    ⟨0, conn0, { conn0 with owed := 24 }, netState 0x02, (netState 0x02).putConn 0 { conn0 with owed := 24 }, by decide +kernel⟩,
    ⟨0, 9, conn0, netState 0, by decide +kernel⟩⟩

/-- A state and operands that meet the hypotheses of BagsCacheAndSlipsRun, clause by clause. -/
theorem witness_BagsCacheAndSlipsRun :
    (∃ (i : Initiator) (n pick : Nat) (s : State), (s.reaches i (0x40600040 + 4 * n) = true) ∧ (n < 4) ∧ (s.poolFree n ≠ 0) ∧ (pick < poolBags n) ∧ (s.bagFree (bagHandle n pick) = true)) ∧
    (∃ (i : Initiator) (n pick : Nat) (s u : State), (s.reaches i (0x40600040 + 4 * n) = true) ∧ (n < 4) ∧ ((∀ k, n ≤ k → k < 4 → s.poolFree k = 0)) ∧ (u = s.inc (Reg.BPM_FREE_EMPTY n))) ∧
    (∃ (i : Initiator) (h : Nat) (s u : State), (s.reaches i 0x40600050 = true) ∧ (bagNamed h = true) ∧ (s.owners h ≠ 0) ∧ (u = s.setOwners h (s.owners h - 1)) ∧ (s.bags.marked.contains h = false)) ∧
    (∃ (i : Initiator) (h : Nat) (s u : State), (s.reaches i 0x40600050 = true) ∧ ((bagNamed h = false ∨ s.owners h = 0)) ∧ (u = s.set Reg.BPM_INT_BAD_OP 1)) ∧
    (∃ (i : Initiator) (h : Nat) (s : State), (s.reaches i 0x40600054 = true) ∧ (bagNamed h = true) ∧ (s.owners h ≠ 0) ∧ (s.owners h ≠ 15)) ∧
    (∃ (i : Initiator) (h : Nat) (s u : State), (s.reaches i 0x40600054 = true) ∧ ((bagNamed h = false ∨ s.owners h = 0 ∨ s.owners h = 15)) ∧ (u = s.set Reg.BPM_INT_BAD_OP 1)) ∧
    (∃ (i : Initiator) (s u : State), (s.reaches i 0x40610000 = true) ∧ (u = s.phcFlush)) ∧
    (∃ (i : Initiator) (n v : Nat) (s u : State), (n < 4) ∧ (s.reaches i (0x40610010 + 8 * n) = true) ∧ (u = s.set (Reg.PHC_WIN_BASE_ADDR n) (bitsOf v 22 0)) ∧ ((∀ l ∈ s.phcDirty, ¬ (s.get (Reg.PHC_WIN_BASE_ADDR n) * 4096 ≤ l * 128 ∧ l * 128 < (s.get (Reg.PHC_WIN_LIM_ADDR n) + 1) * 4096) ∧
        ¬ ((u.set (Reg.PHC_WIN_BASE_POLICY n) (bitsOf v 31 30)).get (Reg.PHC_WIN_BASE_ADDR n) * 4096 ≤ l * 128 ∧
          l * 128 < ((u.set (Reg.PHC_WIN_BASE_POLICY n) (bitsOf v 31 30)).get (Reg.PHC_WIN_LIM_ADDR n) + 1) * 4096)))) ∧
    (∃ (i : Initiator) (n v : Nat) (s : State), (n < 4) ∧ (s.reaches i (0x40610014 + 8 * n) = true) ∧ ((s.phcDirty.any fun l => s.get (Reg.PHC_WIN_BASE_ADDR n) * 4096 ≤ l * 128 && l * 128 < (s.get (Reg.PHC_WIN_LIM_ADDR n) + 1) * 4096) = true)) ∧
    (∃ (errs : List EccErr) (k : Nat) (s u : State), (s.pdOn 28 = true) ∧ (s.pdOn 22 = true) ∧ (s.get Reg.MEM_STATUS_STATE = 1) ∧ (k = s.scrubNext s.mem.scrubAt) ∧ (u = s.dramRead (k * 64) 64 errs) ∧ (k < u.scrubNext ((k + 1) % 2 ^ 29))) ∧
    (∃ (s : State), (s.mem.unsaved = true) ∧ (s.pdOn 23 = true)) :=
  ⟨⟨.core 0, 0, 0, { s0 with bags := { State.reset.bags with up := true } }, by decide +kernel⟩,
    ⟨.core 0, 0, 0, s0, s0.inc (Reg.BPM_FREE_EMPTY 0), by decide +kernel, by decide +kernel, (fun k _ _ => by simp [State.poolFree, s0, State.setAll, State.reset, State.set]), by decide +kernel⟩,
    ⟨.core 0, 0, { s0 with bags := { State.reset.bags with up := true, owners := [(0, 2)] } }, ({ s0 with bags := { State.reset.bags with up := true, owners := [(0, 2)] } }).setOwners 0 1, by decide +kernel⟩,
    ⟨.core 0, 0, s0, s0.set Reg.BPM_INT_BAD_OP 1, by decide +kernel⟩,
    ⟨.core 0, 0, { s0 with bags := { State.reset.bags with up := true, owners := [(0, 2)] } }, by decide +kernel⟩,
    ⟨.core 0, 0, s0, s0.set Reg.BPM_INT_BAD_OP 1, by decide +kernel⟩,
    ⟨.core 0, s0, s0.phcFlush, by decide +kernel⟩,
    ⟨.core 0, 0, 0, s0, s0.set (Reg.PHC_WIN_BASE_ADDR 0) (bitsOf 0 22 0), by decide +kernel⟩,
    ⟨.core 0, 0, 0, { s0 with mem := { State.reset.mem with sets := [(0, ⟨[(0, ⟨0, true⟩)], 0⟩)] } }, by decide +kernel⟩,
    ⟨[], 0, s0.set Reg.MEM_STATUS_STATE 1, (s0.set Reg.MEM_STATUS_STATE 1).dramRead 0 64 [], by decide +kernel⟩,
    ⟨{ s0 with mem := { State.reset.mem with unsaved := true } }, by decide +kernel⟩⟩

/-- A state and operands that meet the hypotheses of DocketsRun, clause by clause. -/
theorem witness_DocketsRun :
    (∃ (i : Initiator) (c tail : Nat) (s u : State), (c < 64) ∧ (s.reaches i (0x40620108 + 32 * c) = true) ∧ (s.dmaQueued c (tail % 512) ≤ 256) ∧ (u = s.set (Reg.DMA_CH_PTR_TAIL c) tail)) ∧
    (∃ (i : Initiator) (c tail : Nat) (s : State), (c < 64) ∧ (s.reaches i (0x40620108 + 32 * c) = true) ∧ (256 < s.dmaQueued c (tail % 512))) ∧
    (∃ (c a n d : Nat) (x : Nat) (errs : List EccErr) (s u : State) (fab : Fabric), (c < 64) ∧ (s.pdOn 22 = true) ∧ (s.get (Reg.DMA_CH_CTRL_ENABLE c) = 1) ∧ (s.get (Reg.DMA_CH_STATUS_STATE c) ≠ 2) ∧ (s.dmaQueued c (s.get (Reg.DMA_CH_PTR_TAIL c)) ≠ 0) ∧ (a = s.docketAddr c) ∧ (n = s.dword (a + 4)) ∧ (0 < n) ∧ (n ≤ 2 ^ 26) ∧ (bitOf (s.dword a) 31 = true) ∧ (bitsOf (s.dword a) 30 28 = 1) ∧ (x = s.dword (a + 8) + 2 ^ 32 * s.dword (a + 12)) ∧ (d = s.dword (a + 16) + 2 ^ 32 * s.dword (a + 20)) ∧ (s.transferStop (some x) d n errs fab = none) ∧ ((s.fabricStop d n).isSome = false) ∧ ((s.fabricStop x n).isSome = false) ∧ (u = (s.dramRead x n errs).store d (s.bytes x n)) ∧ (u.dword (a + 28) = 0xFFFFFFFF)) ∧
    (∃ (c a n d h : Nat) (x : Nat) (errs : List EccErr) (s u : State) (fab : Fabric), (c < 64) ∧ (s.pdOn 22 = true) ∧ (s.get (Reg.DMA_CH_CTRL_ENABLE c) = 1) ∧ (s.get (Reg.DMA_CH_STATUS_STATE c) ≠ 2) ∧ (s.dmaQueued c (s.get (Reg.DMA_CH_PTR_TAIL c)) ≠ 0) ∧ (a = s.docketAddr c) ∧ (n = s.dword (a + 4)) ∧ (0 < n) ∧ (n ≤ 2 ^ 26) ∧ (bitOf (s.dword a) 31 = true) ∧ (bitsOf (s.dword a) 30 28 = 1) ∧ (x = s.dword (a + 8) + 2 ^ 32 * s.dword (a + 12)) ∧ (d = s.dword (a + 16) + 2 ^ 32 * s.dword (a + 20)) ∧ (s.transferStop (some x) d n errs fab = none) ∧ ((s.fabricStop d n).isSome = false) ∧ ((s.fabricStop x n).isSome = false) ∧ (u = (s.dramRead x n errs).store d (s.bytes x n)) ∧ (h = u.dword (a + 28)) ∧ (h ≠ 0xFFFFFFFF)) ∧
    (∃ (c a n d : Nat) (x : Nat) (errs : List EccErr) (s u : State) (fab : Fabric), (c < 64) ∧ (s.pdOn 22 = true) ∧ (s.get (Reg.DMA_CH_CTRL_ENABLE c) = 1) ∧ (s.get (Reg.DMA_CH_STATUS_STATE c) ≠ 2) ∧ (s.dmaQueued c (s.get (Reg.DMA_CH_PTR_TAIL c)) ≠ 0) ∧ (a = s.docketAddr c) ∧ (n = s.dword (a + 4)) ∧ (0 < n) ∧ (n ≤ 2 ^ 26) ∧ (bitOf (s.dword a) 31 = true) ∧ (bitsOf (s.dword a) 30 28 = 1) ∧ (x = s.dword (a + 8) + 2 ^ 32 * s.dword (a + 12)) ∧ (d = s.dword (a + 16) + 2 ^ 32 * s.dword (a + 20)) ∧ (s.transferStop (some x) d n errs fab = none) ∧ (((s.fabricStop d n).isSome || (s.fabricStop x n).isSome) = true) ∧ (u = (s.dramRead x n errs).store d (s.bytes x n)) ∧ (u.fabricHit.dword (a + 28) = 0xFFFFFFFF)) ∧
    (∃ (c a n d : Nat) (x k : Nat) (errs : List EccErr) (s u : State) (fab : Fabric), (c < 64) ∧ (s.pdOn 22 = true) ∧ (s.get (Reg.DMA_CH_CTRL_ENABLE c) = 1) ∧ (s.get (Reg.DMA_CH_STATUS_STATE c) ≠ 2) ∧ (s.dmaQueued c (s.get (Reg.DMA_CH_PTR_TAIL c)) ≠ 0) ∧ (a = s.docketAddr c) ∧ (n = s.dword (a + 4)) ∧ (0 < n) ∧ (n ≤ 2 ^ 26) ∧ (bitOf (s.dword a) 31 = true) ∧ (bitsOf (s.dword a) 30 28 = 1) ∧ (x = s.dword (a + 8) + 2 ^ 32 * s.dword (a + 12)) ∧ (d = s.dword (a + 16) + 2 ^ 32 * s.dword (a + 20)) ∧ (s.transferStop (some x) d n errs fab = some (k, 1)) ∧ ((s.fabricStop d n).isSome = false) ∧ ((s.fabricStop x n).isSome = false) ∧ (u = (s.dramRead x (min n (k + 1)) errs).store d (s.bytes x k))) ∧
    (∃ (c a n d : Nat) (x k : Nat) (errs : List EccErr) (s u : State) (fab : Fabric), (c < 64) ∧ (s.pdOn 22 = true) ∧ (s.get (Reg.DMA_CH_CTRL_ENABLE c) = 1) ∧ (s.get (Reg.DMA_CH_STATUS_STATE c) ≠ 2) ∧ (s.dmaQueued c (s.get (Reg.DMA_CH_PTR_TAIL c)) ≠ 0) ∧ (a = s.docketAddr c) ∧ (n = s.dword (a + 4)) ∧ (0 < n) ∧ (n ≤ 2 ^ 26) ∧ (bitOf (s.dword a) 31 = true) ∧ (bitsOf (s.dword a) 30 28 = 1) ∧ (x = s.dword (a + 8) + 2 ^ 32 * s.dword (a + 12)) ∧ (d = s.dword (a + 16) + 2 ^ 32 * s.dword (a + 20)) ∧ (s.transferStop (some x) d n errs fab = some (k, 2)) ∧ ((s.fabricStop d n).isSome = false) ∧ ((s.fabricStop x n).isSome = false) ∧ (u = (s.dramRead x k errs).store d (s.bytes x k))) ∧
    (∃ (c a n d : Nat) (x : Nat) (errs : List EccErr) (s u : State) (fab : Fabric), (c < 64) ∧ (s.pdOn 22 = true) ∧ (s.get (Reg.DMA_CH_CTRL_ENABLE c) = 1) ∧ (s.get (Reg.DMA_CH_STATUS_STATE c) ≠ 2) ∧ (s.dmaQueued c (s.get (Reg.DMA_CH_PTR_TAIL c)) ≠ 0) ∧ (a = s.docketAddr c) ∧ (n = s.dword (a + 4)) ∧ (0 < n) ∧ (n ≤ 2 ^ 26) ∧ (bitOf (s.dword a) 31 = true) ∧ (bitsOf (s.dword a) 30 28 = 3) ∧ (x = s.dword (a + 8) + 2 ^ 32 * s.dword (a + 12)) ∧ (d = s.dword (a + 16) + 2 ^ 32 * s.dword (a + 20)) ∧ (s.transferStop (some x) d n errs fab = none) ∧ ((s.fabricStop d n).isSome = false) ∧ ((s.fabricStop x n).isSome = false) ∧ (u = (s.dramRead x n errs).store d (s.bytes x n)) ∧ ((u.storeWords (a + 24) [crc32c ((s.bytes x n).map (·.toNat))]).dword (a + 28) = 0xFFFFFFFF)) ∧
    (∃ (c a n d : Nat) (x : Nat) (errs : List EccErr) (s u : State) (fab : Fabric), (c < 64) ∧ (s.pdOn 22 = true) ∧ (s.get (Reg.DMA_CH_CTRL_ENABLE c) = 1) ∧ (s.get (Reg.DMA_CH_STATUS_STATE c) ≠ 2) ∧ (s.dmaQueued c (s.get (Reg.DMA_CH_PTR_TAIL c)) ≠ 0) ∧ (a = s.docketAddr c) ∧ (n = s.dword (a + 4)) ∧ (0 < n) ∧ (n ≤ 2 ^ 26) ∧ (bitOf (s.dword a) 31 = true) ∧ (bitsOf (s.dword a) 30 28 = 4) ∧ (x = s.dword (a + 8) + 2 ^ 32 * s.dword (a + 12)) ∧ (d = s.dword (a + 16) + 2 ^ 32 * s.dword (a + 20)) ∧ (s.transferStop (some x) d n errs fab = none) ∧ ((s.fabricStop d n).isSome = false) ∧ ((s.fabricStop x n).isSome = false) ∧ (u = (s.dramRead x n errs).store d (s.bytes x n)) ∧ (u.dword (a + 28) = 0xFFFFFFFF)) ∧
    (∃ (c a n d : Nat) (s u : State) (fab : Fabric), (c < 64) ∧ (s.pdOn 22 = true) ∧ (s.get (Reg.DMA_CH_CTRL_ENABLE c) = 1) ∧ (s.get (Reg.DMA_CH_STATUS_STATE c) ≠ 2) ∧ (s.dmaQueued c (s.get (Reg.DMA_CH_PTR_TAIL c)) ≠ 0) ∧ (a = s.docketAddr c) ∧ (n = s.dword (a + 4)) ∧ (0 < n) ∧ (n ≤ 2 ^ 26) ∧ (bitOf (s.dword a) 31 = true) ∧ (bitsOf (s.dword a) 30 28 = 2) ∧ (d = s.dword (a + 16) + 2 ^ 32 * s.dword (a + 20)) ∧ (s.transferStop none d n [] fab = none) ∧ ((s.fabricStop d n).isSome = false) ∧ (u = s.store d ((List.range n).map fun k => BitVec.ofNat 8 (s.dword (a + 8) / 256 ^ (k % 4)))) ∧ (u.dword (a + 28) = 0xFFFFFFFF)) ∧
    (∃ (c a : Nat) (errs : List EccErr) (s : State) (fab : Fabric), (c < 64) ∧ (s.pdOn 22 = true) ∧ (s.get (Reg.DMA_CH_CTRL_ENABLE c) = 1) ∧ (s.get (Reg.DMA_CH_STATUS_STATE c) ≠ 2) ∧ (s.dmaQueued c (s.get (Reg.DMA_CH_PTR_TAIL c)) ≠ 0) ∧ (a = s.docketAddr c) ∧ ((bitsOf (s.dword a) 30 28 ≠ 2 ∧ bitsOf (s.dword a) 30 28 ≠ 3 ∧ bitsOf (s.dword a) 30 28 ≠ 4)) ∧ ((bitOf (s.dword a) 31 = false))) ∧
    (∃ (c a : Nat) (errs : List EccErr) (s : State) (fab : Fabric), (c < 64) ∧ (s.pdOn 22 = true) ∧ (s.get (Reg.DMA_CH_CTRL_ENABLE c) = 1) ∧ (s.get (Reg.DMA_CH_STATUS_STATE c) ≠ 2) ∧ (s.dmaQueued c (s.get (Reg.DMA_CH_PTR_TAIL c)) ≠ 0) ∧ (a = s.docketAddr c) ∧ ((bitsOf (s.dword a) 30 28 ≠ 2 ∧ bitsOf (s.dword a) 30 28 ≠ 3 ∧ bitsOf (s.dword a) 30 28 ≠ 4)) ∧ ((bitOf (s.dword a) 31 = true)) ∧ ((bitsOf (s.dword a) 30 28 ≠ 1 ∨ s.dword (a + 4) = 0 ∨ 2 ^ 26 < s.dword (a + 4)))) ∧
    (∃ (i : Initiator) (c : Nat) (s u : State), (c < 64) ∧ (s.reaches i (0x4062010C + 32 * c) = true) ∧ (s.get (Reg.DMA_CH_STATUS_STATE c) = 2) ∧ (u = s.set (Reg.DMA_CH_STATUS_STATE c) 0)) ∧
    (∃ (i : Initiator) (c moved n : Nat) (s u : State), (c < 64) ∧ (s.reaches i (0x4062010C + 32 * c) = true) ∧ (s.get (Reg.DMA_CH_STATUS_STATE c) ≠ 1) ∧ (n = s.dmaQueued c (s.get (Reg.DMA_CH_PTR_TAIL c))) ∧ (u = (s.set (Reg.DMA_CH_STATUS_STATE c) 0).stopDockets c n)) :=
  ⟨⟨.core 0, 0, 0, s0, s0.set (Reg.DMA_CH_PTR_TAIL 0) 0, by decide +kernel⟩,
    ⟨.core 0, 0, 257, s0, by decide +kernel⟩,
    ⟨0, 0, 4, 128, 64, [], dmaState 1, ((dmaState 1).dramRead 64 4 []).store 128 ((dmaState 1).bytes 64 4), .good, by decide +kernel⟩,
    ⟨0, 0, 4, 128, 0xFF, 64, [], { dmaState 1 with cells := (dmaState 1).cells.take 5 }, (({ dmaState 1 with cells := (dmaState 1).cells.take 5 }).dramRead 64 4 []).store 128 (({ dmaState 1 with cells := (dmaState 1).cells.take 5 }).bytes 64 4), .good, by decide +kernel⟩,
    ⟨0, 0, 4, 128, 64, [], ((dmaState 1).setAll [(Reg.FLT_INJ_CTRL_ARM, 1), (Reg.FLT_INJ_CTRL_TARGET, 4), (Reg.FLT_INJ_ADDR_LO_ADDR, 64)]), ((((dmaState 1).setAll [(Reg.FLT_INJ_CTRL_ARM, 1), (Reg.FLT_INJ_CTRL_TARGET, 4), (Reg.FLT_INJ_ADDR_LO_ADDR, 64)])).dramRead 64 4 []).store 128 ((((dmaState 1).setAll [(Reg.FLT_INJ_CTRL_ARM, 1), (Reg.FLT_INJ_CTRL_TARGET, 4), (Reg.FLT_INJ_ADDR_LO_ADDR, 64)])).bytes 64 4), .good, by decide +kernel⟩,
    ⟨0, 0, 4, 128, 64, 2, [], dmaState 1, ((dmaState 1).dramRead 64 3 []).store 128 ((dmaState 1).bytes 64 2), .source 2, by decide +kernel⟩,
    ⟨0, 0, 4, 128, 64, 2, [], dmaState 1, ((dmaState 1).dramRead 64 2 []).store 128 ((dmaState 1).bytes 64 2), .dest 2, by decide +kernel⟩,
    ⟨0, 0, 4, 128, 64, [], dmaState 3, ((dmaState 3).dramRead 64 4 []).store 128 ((dmaState 3).bytes 64 4), .good, by decide +kernel⟩,
    ⟨0, 0, 4, 128, 64, [], dmaState 4, ((dmaState 4).dramRead 64 4 []).store 128 ((dmaState 4).bytes 64 4), .good, by decide +kernel⟩,
    ⟨0, 0, 4, 128, dmaState 2, (dmaState 2).store 128 [64, 0, 0, 0], .good, by decide +kernel⟩,
    ⟨0, 0, [], { dmaState 1 with cells := [] }, .good, by decide +kernel⟩,
    ⟨0, 0, [], dmaState 5, .good, by decide +kernel⟩,
    ⟨.core 0, 0, s0.set (Reg.DMA_CH_STATUS_STATE 0) 2, (s0.set (Reg.DMA_CH_STATUS_STATE 0) 2).set (Reg.DMA_CH_STATUS_STATE 0) 0, by decide +kernel⟩,
    ⟨.core 0, 0, 0, 0, s0, (s0.set (Reg.DMA_CH_STATUS_STATE 0) 0).stopDockets 0 0, by decide +kernel⟩⟩

/-- A state and operands that meet the hypotheses of NandRuns, clause by clause. -/
theorem witness_NandRuns :
    (∃ (i : Initiator) (tail : Nat) (s u : State), (s.reaches i 0x40640010 = true) ∧ ((tail % 512 + 512 - s.get Reg.NFC_Q_PTR_NQHEAD) % 512 ≤ 256) ∧ (u = s.set Reg.NFC_Q_PTR_NQTAIL tail)) ∧
    (∃ (i : Initiator) (tail : Nat) (s : State), (s.reaches i 0x40640010 = true) ∧ (256 < (tail % 512 + 512 - s.get Reg.NFC_Q_PTR_NQHEAD) % 512)) ∧
    (∃ (k p e area block count first b : Nat) (shifted : Bool) (maxBits : Nat) (s t u : State), (s.pdOn 23 = true) ∧ (s.get Reg.NFC_CTRL_ENABLE = 1) ∧ (s.nandOutstanding[k]? = some p) ∧ (e = s.nandEntry p) ∧ (bitsOf (s.dword e) 31 28 = 1) ∧ (s.nandBlockOf p = (area, block)) ∧ (((s.nandOutstanding.take k).any fun q => s.nandBlockOf q == (area, block)) = false) ∧ (count = bitsOf (s.dword (e + 8)) 31 16) ∧ (first = bitsOf (s.dword (e + 8)) 15 0) ∧ (0 < count) ∧ (first + count ≤ nandPages area) ∧ (block < nandBlocks) ∧ (b = s.dword (e + 16) + 2 ^ 32 * s.dword (e + 20)) ∧ (maxBits ≤ 72) ∧ (t = { s with mem := { s.mem with reads := sIns s.mem.reads (2 * block + area) (sGet s.mem.reads (2 * block + area) 0 + count) } }) ∧ (u = t.store b ((List.range (count * 16384)).map fun i => t.nandByte (nandAddr area block first + i)))) ∧
    (∃ (k p e area block count first b : Nat) (shifted : Bool) (maxBits : Nat) (s t : State), (s.pdOn 23 = true) ∧ (s.get Reg.NFC_CTRL_ENABLE = 1) ∧ (s.nandOutstanding[k]? = some p) ∧ (e = s.nandEntry p) ∧ (bitsOf (s.dword e) 31 28 = 1) ∧ (s.nandBlockOf p = (area, block)) ∧ (((s.nandOutstanding.take k).any fun q => s.nandBlockOf q == (area, block)) = false) ∧ (count = bitsOf (s.dword (e + 8)) 31 16) ∧ (first = bitsOf (s.dword (e + 8)) 15 0) ∧ (0 < count) ∧ (first + count ≤ nandPages area) ∧ (block < nandBlocks) ∧ (b = s.dword (e + 16) + 2 ^ 32 * s.dword (e + 20)) ∧ (72 < maxBits) ∧ (t = { s with mem := { s.mem with reads := sIns s.mem.reads (2 * block + area) (sGet s.mem.reads (2 * block + area) 0 + count) } })) ∧
    (∃ (k p e area block count first b : Nat) (shifted : Bool) (maxBits : Nat) (s : State), (s.pdOn 23 = true) ∧ (s.get Reg.NFC_CTRL_ENABLE = 1) ∧ (s.nandOutstanding[k]? = some p) ∧ (e = s.nandEntry p) ∧ (bitsOf (s.dword e) 31 28 = 1) ∧ (s.nandBlockOf p = (area, block)) ∧ (((s.nandOutstanding.take k).any fun q => s.nandBlockOf q == (area, block)) = false) ∧ (count = bitsOf (s.dword (e + 8)) 31 16) ∧ (first = bitsOf (s.dword (e + 8)) 15 0) ∧ (0 < count) ∧ (first + count ≤ nandPages area) ∧ (block < nandBlocks) ∧ (b = s.dword (e + 16) + 2 ^ 32 * s.dword (e + 20))) ∧
    (∃ (k p e area block count first : Nat) (shifted busErr : Bool) (maxBits : Nat) (s : State), (s.pdOn 23 = true) ∧ (s.get Reg.NFC_CTRL_ENABLE = 1) ∧ (s.nandOutstanding[k]? = some p) ∧ (e = s.nandEntry p) ∧ (bitsOf (s.dword e) 31 28 = 1) ∧ (s.nandBlockOf p = (area, block)) ∧ (((s.nandOutstanding.take k).any fun q => s.nandBlockOf q == (area, block)) = false) ∧ (count = bitsOf (s.dword (e + 8)) 31 16) ∧ (first = bitsOf (s.dword (e + 8)) 15 0) ∧ ((count = 0 ∨ nandPages area < first + count ∨ nandBlocks ≤ block))) ∧
    (∃ (k p e area block count first b : Nat) (die st : Nat) (fails : Bool) (s v t : State), (s.pdOn 23 = true) ∧ (s.get Reg.NFC_CTRL_ENABLE = 1) ∧ (s.nandOutstanding[k]? = some p) ∧ (e = s.nandEntry p) ∧ (bitsOf (s.dword e) 31 28 = 2) ∧ (s.nandBlockOf p = (area, block)) ∧ (((s.nandOutstanding.take k).any fun q => s.nandBlockOf q == (area, block)) = false) ∧ (count = bitsOf (s.dword (e + 8)) 31 16) ∧ (first = bitsOf (s.dword (e + 8)) 15 0) ∧ (0 < count) ∧ (first + count ≤ nandPages area) ∧ (block < nandBlocks) ∧ (b = s.dword (e + 16) + 2 ^ 32 * s.dword (e + 20)) ∧ ((s.unreadable s.phcOwns b (count * 16384) []) = none) ∧ ((s.dramRead b (count * 16384) []).nandReplace (die % 8) fails = (v, st)) ∧ (st ≠ 4) ∧ (t = v.putNand (nandAddr area block first) (v.bytes b (count * 16384)))) ∧
    (∃ (k p e area block count first b : Nat) (die : Nat) (fails : Bool) (s v : State), (s.pdOn 23 = true) ∧ (s.get Reg.NFC_CTRL_ENABLE = 1) ∧ (s.nandOutstanding[k]? = some p) ∧ (e = s.nandEntry p) ∧ (bitsOf (s.dword e) 31 28 = 2) ∧ (s.nandBlockOf p = (area, block)) ∧ (((s.nandOutstanding.take k).any fun q => s.nandBlockOf q == (area, block)) = false) ∧ (count = bitsOf (s.dword (e + 8)) 31 16) ∧ (first = bitsOf (s.dword (e + 8)) 15 0) ∧ (0 < count) ∧ (first + count ≤ nandPages area) ∧ (block < nandBlocks) ∧ (b = s.dword (e + 16) + 2 ^ 32 * s.dword (e + 20)) ∧ ((s.unreadable s.phcOwns b (count * 16384) []) = none) ∧ ((s.dramRead b (count * 16384) []).nandReplace (die % 8) fails = (v, 4))) ∧
    (∃ (k p e area block count first b : Nat) (die st : Nat) (fails : Bool) (s v t : State), (s.pdOn 23 = true) ∧ (s.get Reg.NFC_CTRL_ENABLE = 1) ∧ (s.nandOutstanding[k]? = some p) ∧ (e = s.nandEntry p) ∧ (bitsOf (s.dword e) 31 28 = 3) ∧ (s.nandBlockOf p = (area, block)) ∧ (((s.nandOutstanding.take k).any fun q => s.nandBlockOf q == (area, block)) = false) ∧ (count = bitsOf (s.dword (e + 8)) 31 16) ∧ (first = bitsOf (s.dword (e + 8)) 15 0) ∧ (0 < count) ∧ (first + count ≤ nandPages area) ∧ (block < nandBlocks) ∧ (b = s.dword (e + 16) + 2 ^ 32 * s.dword (e + 20)) ∧ (s.nandReplace (die % 8) fails = (v, st)) ∧ (st ≠ 4) ∧ (t = v.eraseNand (nandAddr area block 0) (nandPages area * 16384))) :=
  ⟨⟨.core 0, 0, s0, s0.set Reg.NFC_Q_PTR_NQTAIL 0, by decide +kernel⟩,
    ⟨.core 0, 257, s0, by decide +kernel⟩,
    ⟨0, 0, 0, 0, 0, 1, 0, 0, false, 0, nandState 1, { nandState 1 with mem := { (nandState 1).mem with reads := sIns (nandState 1).mem.reads (2 * 0 + 0) (sGet (nandState 1).mem.reads (2 * 0 + 0) 0 + 1) } }, ({ nandState 1 with mem := { (nandState 1).mem with reads := sIns (nandState 1).mem.reads (2 * 0 + 0) (sGet (nandState 1).mem.reads (2 * 0 + 0) 0 + 1) } }).store 0 ((List.range (1 * 16384)).map fun i => ({ nandState 1 with mem := { (nandState 1).mem with reads := sIns (nandState 1).mem.reads (2 * 0 + 0) (sGet (nandState 1).mem.reads (2 * 0 + 0) 0 + 1) } }).nandByte (nandAddr 0 0 0 + i)), by (iterate 14 refine ⟨by decide +kernel, ?_⟩); (refine ⟨rfl, ?_⟩); exact rfl⟩,
    ⟨0, 0, 0, 0, 0, 1, 0, 0, false, 73, nandState 1, { nandState 1 with mem := { (nandState 1).mem with reads := sIns (nandState 1).mem.reads (2 * 0 + 0) (sGet (nandState 1).mem.reads (2 * 0 + 0) 0 + 1) } }, by (iterate 14 refine ⟨by decide +kernel, ?_⟩); exact rfl⟩,
    ⟨0, 0, 0, 0, 0, 1, 0, 0, false, 0, nandState 1, by (iterate 12 refine ⟨by decide +kernel, ?_⟩); decide +kernel⟩,
    ⟨0, 0, 0, 0, 0, 0, 0, false, false, 0, { nandState 1 with cells := [(3, 16)] }, by (iterate 9 refine ⟨by decide +kernel, ?_⟩); decide +kernel⟩,
    ⟨0, 0, 0, 0, 0, 1, 0, 0, 0, 0, false, nandState 2, nandState 2, (nandState 2).putNand (nandAddr 0 0 0) ((nandState 2).bytes 0 (1 * 16384)), by (iterate 16 refine ⟨by decide +kernel, ?_⟩); exact rfl⟩,
    ⟨0, 0, 0, 0, 0, 1, 0, 0, 0, true, { nandState 2 with mem := { (nandState 2).mem with spareUsed := [(0, 27)] } }, { nandState 2 with mem := { (nandState 2).mem with spareUsed := [(0, 27)] } }, by (iterate 14 refine ⟨by decide +kernel, ?_⟩); decide +kernel⟩,
    ⟨0, 0, 0, 0, 0, 1, 0, 0, 0, 3, true, nandState 3, ((nandState 3).nandReplace 0 true).1, ((nandState 3).nandReplace 0 true).1.eraseNand (nandAddr 0 0 0) (nandPages 0 * 16384), by (iterate 15 refine ⟨by decide +kernel, ?_⟩); exact rfl⟩⟩

/-- A state and operands that meet the hypotheses of HeatAndFaultsRun, clause by clause. -/
theorem witness_HeatAndFaultsRun :
    (∃ (n why : Nat) (s u v : State), (s.sensorFault n = some why) ∧ (u = ((s.setBit Reg.THM_STATUS_BROKEN n true).set (Reg.THM_SENS_VALID n) 0).set Reg.THM_INT_BROKEN 1) ∧ (v = u.putPortOut 0xAD (u.heatWord + 2 ^ (5 + n)))) ∧
    (∃ (n why : Nat) (s u : State), (s.tripFault n = some why) ∧ (u = (s.setBit Reg.THM_STATUS_TRIP_BROKEN n true).set Reg.THM_INT_BROKEN 1)) ∧
    (∃ (s : State), (s.thermalSlice = true)) ∧
    (∃ (s : State), (s.thermalSlice = true) ∧ (level16 (s.get Reg.THM_LVL_SHUT) ≤ s.junction) ∧ (s.heat.held = false)) ∧
    (∃ (n : Nat) (temp : Int) (s : State), (n ≤ 1) ∧ (s.bit Reg.THM_STATUS_TRIP_BROKEN n = false) ∧ (1920 ≤ temp)) ∧
    (∃ (i : Initiator) (s : State), (s.reaches i 0x40700000 = true)) ∧
    (∃ (s : State), (s.desk.deferred = true) ∧ (s.desk.grave = none) ∧ (s.pwr.warnMs + 1000 ≤ s.ms)) ∧
    (∃ (x : Act) (us : Nat) (s : State), (s.fitted x = true) ∧ ((s.lp x).paLow = true) ∧ (10000 ≤ us)) ∧
    (∃ (n : Nat) (s : State), (n < 5) ∧ (s.coreActive n = true)) :=
  ⟨⟨0, 1, hotState, ((hotState.setBit Reg.THM_STATUS_BROKEN 0 true).set (Reg.THM_SENS_VALID 0) 0).set Reg.THM_INT_BROKEN 1, (((hotState.setBit Reg.THM_STATUS_BROKEN 0 true).set (Reg.THM_SENS_VALID 0) 0).set Reg.THM_INT_BROKEN 1).putPortOut 0xAD ((((hotState.setBit Reg.THM_STATUS_BROKEN 0 true).set (Reg.THM_SENS_VALID 0) 0).set Reg.THM_INT_BROKEN 1).heatWord + 2 ^ (5 + 0)), by decide +kernel⟩,
    ⟨0, 1, s0.set Reg.THM_TRIP_TRIP0 0x8000, ((s0.set Reg.THM_TRIP_TRIP0 0x8000).setBit Reg.THM_STATUS_TRIP_BROKEN 0 true).set Reg.THM_INT_BROKEN 1, by decide +kernel⟩,
    ⟨s0.setAll [(Reg.CRE_STATUS_STATE, 3), (Reg.CRE_SLICE_EN_EN, 2 ^ 18 - 1)], by decide +kernel⟩,
    ⟨s0.setAll [(Reg.CRE_STATUS_STATE, 3), (Reg.CRE_SLICE_EN_EN, 2 ^ 18 - 1), (Reg.THM_JUNC_J, 2000)], by decide +kernel⟩,
    ⟨0, 1920, s0, by decide +kernel⟩,
    ⟨.core 0, s0, by decide +kernel⟩,
    ⟨{ s0 with desk := { s0.desk with deferred := true }, clockNs := 1000000000 }, by decide +kernel⟩,
    ⟨.a, 10000, { s0 with loops := .all { Loop.cold with paLow := true } }, by decide +kernel⟩,
    ⟨0, s0, by decide +kernel⟩⟩

/-- A state and operands that meet the hypotheses of DeskInjectionAndLedgerRun, clause by clause. -/
theorem witness_DeskInjectionAndLedgerRun :
    (∃ (i : Initiator) (p : Nat) (r : CapRec) (s : State), (s.reaches i 0x40710010 = true) ∧ (s.desk.current = some p) ∧ (sGet? s.desk.recs p = some r)) ∧
    (∃ (i : Initiator) (p : Nat) (r : CapRec) (s : State), (s.reaches i 0x40710010 = true) ∧ (s.desk.current = some p) ∧ (sGet? s.desk.recs p = some r)) ∧
    (∃ (i : Initiator) (up : Bool) (p : Nat) (s : State), (s.reaches i 0x40710010 = true) ∧ (s.desk.current ≠ some p)) ∧
    (∃ (p : Nat) (r : CapRec) (s u : State), (s.desk.current = some p) ∧ (sGet? s.desk.recs p = some r) ∧ (10 * max 1 (s.get (if r.level = 4 then Reg.FLT_TMO_TMO4 else Reg.FLT_TMO_TMO5)) ≤ s.ms - s.desk.sinceMs) ∧ (u = { s with desk := { s.desk with timeouts := s.desk.timeouts + 1 } }.set Reg.FLT_INT_RAISED 1)) ∧
    (∃ (i : Initiator) (k w : Nat) (s : State), (s.reaches i 0x4071000C = true) ∧ (k = 8 * s.get Reg.FLT_CAP_ADDR_RECORD + s.get Reg.FLT_CAP_ADDR_WORD) ∧ (k / 8 ≤ 64) ∧ (w = ((sGet? s.desk.recs (k / 8)).map fun r => r.word (k % 8)).getD 0)) ∧
    (∃ (i : Initiator) (target bits : Nat) (sticky : Bool) (s u v : State), (s.reaches i 0x40710040 = true) ∧ (s.get Reg.PWR_STATUS_PHASE = 1) ∧ (s.get Reg.SYS_SEAL_STATUS_STATE = 0) ∧ (u = (if s.get Reg.FLT_INJ_CTRL_ARM = 0 then s else s.disarm)) ∧ (v = u.setAll [(Reg.FLT_INJ_CTRL_TARGET, target), (Reg.FLT_INJ_CTRL_BITS, bits), (Reg.FLT_INJ_CTRL_STICKY, b2n sticky)]) ∧ (1 ≤ target) ∧ (target ≤ 4)) ∧
    (∃ (i : Initiator) (target bits : Nat) (sticky : Bool) (s : State), (s.reaches i 0x40710040 = true) ∧ ((s.get Reg.PWR_STATUS_PHASE ≠ 1 ∨ s.get Reg.SYS_SEAL_STATUS_STATE ≠ 0))) ∧
    (∃ (i : Initiator) (s u : State), (s.reaches i 0x40710040 = true) ∧ (u = s.disarm)) ∧
    (∃ (n q : Nat) (s u : State), (s.reaches (.core n) 0x40720060 = true) ∧ (s.ldgCommit (s.get (Reg.LDG_WRITE_DATA n 0) % 2 ^ 16) ((List.range 7).map fun k => s.get (Reg.LDG_WRITE_DATA n (k + 1))) = (u, some q))) ∧
    (∃ (n : Nat) (s u : State), (s.reaches (.core n) 0x40720060 = true) ∧ (s.ldgCommit (s.get (Reg.LDG_WRITE_DATA n 0) % 2 ^ 16) ((List.range 7).map fun k => s.get (Reg.LDG_WRITE_DATA n (k + 1))) = (u, none))) ∧
    (∃ (i : Initiator) (s : State), (s.reaches i 0x40720000 = true)) ∧
    (∃ (i : Initiator) (s : State), (s.reaches i 0x40720000 = true)) ∧
    (∃ (i : Initiator) (k w : Nat) (s : State), (s.reaches i 0x40720074 = true) ∧ (k = 16 * s.get Reg.LDG_STAGE_ADDR_PLACE + s.get Reg.LDG_STAGE_ADDR_WORD) ∧ (w = ((sGet? s.ldg.stage (k / 16)).map fun r => r.word (k % 16)).getD 0)) ∧
    (∃ (i : Initiator) (k v : Nat) (s : State), (s.reaches i (ldgValue k).addr = true)) :=
  ⟨⟨.core 0, 0, capRec0, deskState, by decide +kernel⟩,
    ⟨.core 0, 0, capRec0, deskState, by decide +kernel⟩,
    ⟨.core 0, false, 0, s0, by decide +kernel⟩,
    ⟨0, capRec0, { deskState with clockNs := 10000000000 }, { deskState with clockNs := 10000000000, desk := { deskState.desk with timeouts := 1 } }.set Reg.FLT_INT_RAISED 1, by decide +kernel⟩,
    ⟨.core 0, 0, 0, s0, by decide +kernel⟩,
    ⟨.core 0, 1, 0, false, s0.set Reg.PWR_STATUS_PHASE 1, s0.set Reg.PWR_STATUS_PHASE 1, (s0.set Reg.PWR_STATUS_PHASE 1).setAll [(Reg.FLT_INJ_CTRL_TARGET, 1), (Reg.FLT_INJ_CTRL_BITS, 0), (Reg.FLT_INJ_CTRL_STICKY, 0)], by decide +kernel⟩,
    ⟨.core 0, 0, 0, false, s0, by decide +kernel⟩,
    ⟨.core 0, s0, s0.disarm, by decide +kernel⟩,
    ⟨0, 0, s0, (s0.ldgCommit 0 [0, 0, 0, 0, 0, 0, 0]).1, by decide +kernel⟩,
    ⟨0, s0.set Reg.LDG_DRAIN_TAIL 512, ((s0.set Reg.LDG_DRAIN_TAIL 512).ldgCommit 0 [0, 0, 0, 0, 0, 0, 0]).1, by decide +kernel⟩,
    ⟨.core 0, s0, by decide +kernel⟩,
    ⟨.core 0, s0, by decide +kernel⟩,
    ⟨.core 0, 0, 0, s0, by decide +kernel⟩,
    ⟨.core 0, 0, 0, s0, by decide +kernel⟩⟩

/-- A state and operands that meet the hypotheses of CommandsTakenAndAnsweredRun, clause by clause. -/
theorem witness_CommandsTakenAndAnsweredRun :
    (∃ (conn : Nat) (cap e : Capsule) (good : Bool) (c d : Conn) (s u : State), (conn ≠ 160) ∧ (s.conn? conn = some c) ∧ (s.portUp (Prt.num c.port) = true) ∧ (s.serves 0x04 = true) ∧ (d = { c with owed := c.owed + capsuleBytes cap }) ∧ (u = s.putConn conn d) ∧ (c.ready = true) ∧ (cap.data.length ≤ 8192) ∧ ((c.hdgst = true → good = true)) ∧ (e = { cap with badData := cap.badData && c.ddgst && !cap.data.isEmpty }) ∧ (capsuleBytes e ≤ u.rcvSpace d)) ∧
    (∃ (conn : Nat) (cap : Capsule) (good : Bool) (c d : Conn) (s u : State), (conn ≠ 160) ∧ (s.conn? conn = some c) ∧ (s.portUp (Prt.num c.port) = true) ∧ (s.serves 0x04 = true) ∧ (d = { c with owed := c.owed + capsuleBytes cap }) ∧ (u = s.putConn conn d) ∧ ((c.ready = false ∨ 8192 < cap.data.length ∨ (c.hdgst = true ∧ good = false)))) ∧
    (∃ (cap : Capsule) (good : Bool) (s : State), (s.miUp = true) ∧ (s.host.cmds.length < 4096)) ∧
    (∃ (conn wait us : Nat) (cap : Capsule) (rest : List Capsule) (c : Conn) (s u v : State), (s.conn? conn = some c) ∧ (c.waiting = cap :: rest) ∧ (s.preUp = true) ∧ (s.portUp (Prt.num c.port) = true) ∧ (s.get Reg.HQ_CTRL_ENABLE = 1) ∧ (s.host.cmds.length < 4096) ∧ (s.interruption = false) ∧ ((s.cmdsOf conn).length < (if c.assoc.isSome = true then c.depth - 1 else 1)) ∧ (0 < c.depth) ∧ (us ≤ 100) ∧ (u = s.putConn conn { c with waiting := rest, sqhd := (c.sqhd + 1) % c.depth }) ∧ (v = u.set Reg.PRE_PEAK_CAPSULE_WAIT (max (u.get Reg.PRE_PEAK_CAPSULE_WAIT) (min 65535 wait)))) ∧
    (∃ (serial : Nat) (c : Cmd) (s u : State), (s.cmd? serial = some c) ∧ (c.verdict = none) ∧ (c.orphan = false) ∧ (c.noEntry = false) ∧ (u = s.putHost { s.host with locks := grantOf serial [] s.host.locks }) ∧ (s.cmdAssoc c = none)) ∧
    (∃ (serial pick n : Nat) (bags : List Nat) (c d : Cmd) (k : Conn) (s t : State), (s.cmd? serial = some c) ∧ (s.waitsBags serial c = true) ∧ ((s.host.cmds.any fun p => p.1 < serial && s.waitsBags p.1 p.2) = false) ∧ (c.conn ≠ 160) ∧ (s.serves 0x41 = true) ∧ (s.conn? c.conn = some k) ∧ (s.portUp (Prt.num k.port) = true) ∧ (c.cap.data = []) ∧ ((c.asked - c.got + 131071) / 131072 < min 4 (k.maxR2t + 1)) ∧ (k.fits 24 = true) ∧ (n = min 131072 (c.need - c.asked)) ∧ (s.takeBags pick (List.replicate (n / 65536) 1 ++ List.replicate ((n % 65536 + 4095) / 4096) 0) [] = (t, some bags)) ∧ (s.unplaced + bagsRoom (s.host.cmds.flatMap fun c => c.2.bags) + n ≤ 2 ^ 30) ∧ ((s.pdOn 23 = true → s.unplaced + 144 * 2 ^ 20 ≤ s.erasedReserve)) ∧ (d = { c with bags := c.bags ++ bags, asked := c.asked + n })) ∧
    (∃ (serial pick n : Nat) (c : Cmd) (k : Conn) (s t : State), (s.cmd? serial = some c) ∧ (s.waitsBags serial c = true) ∧ ((s.host.cmds.any fun p => p.1 < serial && s.waitsBags p.1 p.2) = false) ∧ (c.conn ≠ 160) ∧ (s.serves 0x41 = true) ∧ (s.conn? c.conn = some k) ∧ (s.portUp (Prt.num k.port) = true) ∧ ((c.cap.data ≠ [] ∨ (c.asked - c.got + 131071) / 131072 < min 4 (k.maxR2t + 1) ∧ k.fits 24 = true)) ∧ (n = min 131072 (c.need - c.asked)) ∧ (s.takeBags pick (List.replicate (n / 65536) 1 ++ List.replicate ((n % 65536 + 4095) / 4096) 0) [] = (t, none))) ∧
    (∃ (serial offset : Nat) (data : List Nat) (hdr good : Bool) (c d : Cmd) (k : Conn) (s u : State), (s.cmd? serial = some c) ∧ (c.verdict = none) ∧ (c.orphan = false) ∧ (offset = c.got) ∧ (c.got + data.length ≤ c.asked) ∧ (s.conn? c.conn = some k) ∧ (s.portUp (Prt.num k.port) = true) ∧ (s.serves 0x06 = true) ∧ ((k.hdgst = true → hdr = true)) ∧ ((k.ddgst = true → good = true)) ∧ (u = s.putConn c.conn { k with owed := k.owed + (24 + data.length) }) ∧ (d = { c with got := c.got + data.length })) ∧
    (∃ (serial offset : Nat) (data : List Nat) (hdr : Bool) (c : Cmd) (k : Conn) (s u : State), (s.cmd? serial = some c) ∧ (c.verdict = none) ∧ (c.orphan = false) ∧ (offset = c.got) ∧ (c.got + data.length ≤ c.asked) ∧ (s.conn? c.conn = some k) ∧ (s.portUp (Prt.num k.port) = true) ∧ (s.serves 0x06 = true) ∧ ((k.hdgst = true → hdr = true)) ∧ (k.ddgst = true) ∧ (u = s.putConn c.conn { k with owed := k.owed + (24 + data.length) })) ∧
    (∃ (serial n : Nat) (c : Cmd) (k : Conn) (s u : State), (s.cmd? serial = some c) ∧ (c.sent = false) ∧ (c.orphan = false) ∧ (n = c.reply.length) ∧ (0 < n) ∧ (c.verdict = some good) ∧ (c.conn ≠ 160) ∧ (s.conn? c.conn = some k) ∧ (s.serves 0x42 = true) ∧ (s.portUp (Prt.num k.port) = true) ∧ (k.unacked + (24 + n) ≤ k.window) ∧ (u = s.putConn c.conn (k.sends (24 + n) s.clockNs))) ∧
    (∃ (serial : Nat) (v : Verdict) (c : Cmd) (k : Conn) (s u : State), (s.cmd? serial = some c) ∧ (c.verdict = some v) ∧ (c.orphan = false) ∧ ((v = good → c.reply = [] ∨ c.sent = true)) ∧ (s.joined c = false) ∧ (c.conn ≠ 160) ∧ (s.conn? c.conn = some k) ∧ (s.serves 0x40 = true) ∧ (s.portUp (Prt.num k.port) = true) ∧ (k.unacked + 24 ≤ k.window) ∧ (u = (s.putConn c.conn (k.sends 24 s.clockNs)).emit (.response c.conn c.cap.cid v c.dw0 k.sqhd))) ∧
    (∃ (serial : Nat) (v : Verdict) (c : Cmd) (s : State), (s.cmd? serial = some c) ∧ (c.verdict = some v) ∧ (c.orphan = true)) ∧
    (∃ (type info : Nat) (e : Event) (s : State), (e = ⟨type, info, eventPage type info⟩) ∧ (s.serves 0x43 = true) ∧ (s.eventCause e = true)) ∧
    (∃ (a : Nat) (x : Assoc) (s : State), (s.assoc? a = some x) ∧ (x.kato ≠ 0) ∧ (x.seenNs + 1000000 * x.kato ≤ s.clockNs)) :=
  ⟨⟨0, capOf 2 0 [], capOf 2 0 [], true, conn0, { conn0 with owed := 72 }, netState 4, (netState 4).putConn 0 { conn0 with owed := 72 }, by decide +kernel⟩,
    ⟨0, capOf 2 0 [], true, { conn0 with ready := false }, { conn0 with ready := false, owed := 72 }, (netState 4).putConn 0 { conn0 with ready := false }, ((netState 4).putConn 0 { conn0 with ready := false }).putConn 0 { conn0 with ready := false, owed := 72 }, by decide +kernel⟩,
    ⟨capOf 2 0 [], true, s0, by decide +kernel⟩,
    ⟨0, 0, 0, capOf 2 0 [], [], { conn0 with depth := 2, waiting := [capOf 2 0 []] }, ((netState 4).putConn 0 { conn0 with depth := 2, waiting := [capOf 2 0 []] }).set Reg.HQ_CTRL_ENABLE 1, (((netState 4).putConn 0 { conn0 with depth := 2, waiting := [capOf 2 0 []] }).set Reg.HQ_CTRL_ENABLE 1).putConn 0 { conn0 with depth := 2, sqhd := 1 }, ((((netState 4).putConn 0 { conn0 with depth := 2, waiting := [capOf 2 0 []] }).set Reg.HQ_CTRL_ENABLE 1).putConn 0 { conn0 with depth := 2, sqhd := 1 }).set Reg.PRE_PEAK_CAPSULE_WAIT 0, by decide +kernel⟩,
    ⟨1, { cmdOf (capOf 2 0 []) with conn := 5 }, hostState 0 0 1 { cmdOf (capOf 2 0 []) with conn := 5 }, (hostState 0 0 1 { cmdOf (capOf 2 0 []) with conn := 5 }).putHost (hostState 0 0 1 { cmdOf (capOf 2 0 []) with conn := 5 }).host, by decide +kernel⟩,
    ⟨1, 0, 4096, [0], { cmdOf (capOf 1 0 []) with need := 4096 }, { cmdOf (capOf 1 0 []) with need := 4096, asked := 4096, bags := [0] }, { conn0 with assoc := some 1, qid := 1, depth := 32 }, bagState, bagState.setOwners 0 1, by decide +kernel⟩,
    ⟨1, 0, 4096, { cmdOf (capOf 1 0 []) with need := 4096 }, { conn0 with assoc := some 1, qid := 1, depth := 32 }, { bagState with bags := State.reset.bags }, ({ bagState with bags := State.reset.bags }.takeBags 0 [0] []).1, by decide +kernel⟩,
    ⟨1, 0, [], true, true, ({ cmdOf (capOf 1 0 []) with need := 4096, asked := 4096, bags := [0] }), { cmdOf (capOf 1 0 []) with need := 4096, asked := 4096, bags := [0] }, { conn0 with assoc := some 1, qid := 1, depth := 32 }, (hostState 6 0 1 ({ cmdOf (capOf 1 0 []) with need := 4096, asked := 4096, bags := [0] })), (hostState 6 0 1 { cmdOf (capOf 1 0 []) with need := 4096, asked := 4096, bags := [0] }).putConn 0 { conn0 with assoc := some 1, qid := 1, depth := 32, owed := 24 }, by decide +kernel⟩,
    ⟨1, 0, [], true, { cmdOf (capOf 1 0 []) with need := 4096, asked := 4096, bags := [0] }, { conn0 with ddgst := true }, (hostState 6 0 1 { cmdOf (capOf 1 0 []) with need := 4096, asked := 4096, bags := [0] }).putConn 0 { conn0 with ddgst := true }, ((hostState 6 0 1 { cmdOf (capOf 1 0 []) with need := 4096, asked := 4096, bags := [0] }).putConn 0 { conn0 with ddgst := true }).putConn 0 { conn0 with ddgst := true, owed := 24 }, by decide +kernel⟩,
    ⟨1, 1, ({ cmdOf (capOf 2 0 []) with verdict := some good, reply := [1] }), { conn0 with assoc := some 1, qid := 1, depth := 32 }, (hostState 66 0 1 ({ cmdOf (capOf 2 0 []) with verdict := some good, reply := [1] })), (hostState 0x42 0 1 { cmdOf (capOf 2 0 []) with verdict := some good, reply := [1] }).putConn 0 { conn0 with assoc := some 1, qid := 1, depth := 32, unacked := 25 }, by decide +kernel⟩,
    ⟨1, good, ({ cmdOf (capOf 2 0 []) with verdict := some good }), { conn0 with assoc := some 1, qid := 1, depth := 32 }, (hostState 64 0 1 ({ cmdOf (capOf 2 0 []) with verdict := some good })), ((hostState 0x40 0 1 { cmdOf (capOf 2 0 []) with verdict := some good }).putConn 0 { conn0 with assoc := some 1, qid := 1, depth := 32, unacked := 24 }).emit (.response 0 9 good 0 0), by decide +kernel⟩,
    ⟨1, good, ({ cmdOf (capOf 2 0 []) with verdict := some good, orphan := true }), (hostState 64 0 1 ({ cmdOf (capOf 2 0 []) with verdict := some good, orphan := true })), by decide +kernel⟩,
    ⟨6, 1, ⟨6, 1, 0x81⟩, (netState 0x43).putHost { (netState 0x43).host with sanitize := 1 }, by decide +kernel⟩,
    ⟨1, { assoc1 with kato := 1000 }, { (hostState 0 0 0 (cmdOf (capOf 2 0 []))).putAssoc 1 { assoc1 with kato := 1000 } with clockNs := 1000000000 }, by decide +kernel⟩⟩

/-- A state and operands that meet the hypotheses of ControllerCommandsRun, clause by clause. -/
theorem witness_ControllerCommandsRun :
    (∃ (serial : Nat) (c : Cmd) (k : Conn) (st : Status) (s : State), (s.cmd? serial = some c) ∧ (c.verdict = none) ∧ (c.orphan = false) ∧ (c.whole = true) ∧ (c.cap.opcode = 0x7F) ∧ (c.cap.fctype = 1) ∧ (s.conn? c.conn = some k) ∧ (s.connectRefusal c = some st)) ∧
    (∃ (serial : Nat) (c : Cmd) (k : Conn) (n : Nat) (s u v : State), (s.cmd? serial = some c) ∧ (c.verdict = none) ∧ (c.orphan = false) ∧ (c.whole = true) ∧ (c.cap.opcode = 0x7F) ∧ (c.cap.fctype = 1) ∧ (s.conn? c.conn = some k) ∧ (s.connectRefusal c = none) ∧ (c.cap.w 10 / 2 ^ 16 = 0) ∧ (n = s.freeAssoc) ∧ (u = s.putAssoc n ⟨k.port, discoveryName == ((s.cmdData c).drop 256).take discoveryName.length, ofBytes ((s.cmdData c).take 16), 0, false, c.cap.w 12, s.clockNs, [], [], [], []⟩) ∧ (v = u.putConn c.conn { k with assoc := some n, qid := 0, depth := c.cap.w 11 % 2 ^ 16 + 1 })) ∧
    (∃ (serial : Nat) (c : Cmd) (k : Conn) (n : Nat) (s v : State), (s.cmd? serial = some c) ∧ (c.verdict = none) ∧ (c.orphan = false) ∧ (c.whole = true) ∧ (c.cap.opcode = 0x7F) ∧ (c.cap.fctype = 1) ∧ (s.conn? c.conn = some k) ∧ (s.connectRefusal c = none) ∧ (c.cap.w 10 / 2 ^ 16 ≠ 0) ∧ (n = ofBytes (((s.cmdData c).drop 16).take 2)) ∧ (v = s.putConn c.conn { k with assoc := some n, qid := c.cap.w 10 / 2 ^ 16, depth := c.cap.w 11 % 2 ^ 16 + 1 })) ∧
    (∃ (serial : Nat) (c : Cmd) (n : Nat) (a : Assoc) (s : State), (s.cmd? serial = some c) ∧ (c.verdict = none) ∧ (c.orphan = false) ∧ (c.whole = true) ∧ (c.cap.opcode = 0x7F) ∧ (c.cap.fctype = 8) ∧ (s.assocOf c = some (n, a))) ∧
    (∃ (serial : Nat) (c : Cmd) (n : Nat) (a : Assoc) (s : State), (s.cmd? serial = some c) ∧ (c.verdict = none) ∧ (c.orphan = false) ∧ (c.whole = true) ∧ (c.cap.opcode = 0x7F) ∧ (c.cap.fctype = 4) ∧ (s.assocOf c = some (n, a)) ∧ ((c.cap.w 11 = 0x00 ∨ c.cap.w 11 = 0x08 ∨ c.cap.w 11 = 0x14))) ∧
    (∃ (serial : Nat) (c : Cmd) (n : Nat) (a : Assoc) (s : State), (s.cmd? serial = some c) ∧ (c.verdict = none) ∧ (c.orphan = false) ∧ (c.whole = true) ∧ (c.cap.opcode = 0x7F) ∧ (c.cap.fctype = 4) ∧ (s.assocOf c = some (n, a)) ∧ (c.cap.w 11 = 0x1C)) ∧
    (∃ (serial : Nat) (c : Cmd) (n : Nat) (a b : Assoc) (s : State), (s.cmd? serial = some c) ∧ (c.verdict = none) ∧ (c.orphan = false) ∧ (c.whole = true) ∧ (c.cap.opcode = 0x7F) ∧ (c.cap.fctype = 0) ∧ (s.assocOf c = some (n, a)) ∧ (c.cap.w 11 = 0x14) ∧ ((a.ready = true → bitOf (c.cap.w 12) 0 = true)) ∧ (b = { a with cc := c.cap.w 12, ready := bitOf (c.cap.w 12) 0 })) ∧
    (∃ (serial : Nat) (c : Cmd) (n : Nat) (a b : Assoc) (s : State), (s.cmd? serial = some c) ∧ (c.verdict = none) ∧ (c.orphan = false) ∧ (c.whole = true) ∧ (c.cap.opcode = 0x7F) ∧ (c.cap.fctype = 0) ∧ (s.assocOf c = some (n, a)) ∧ (c.cap.w 11 = 0x14) ∧ (a.ready = true) ∧ (bitOf (c.cap.w 12) 0 = false) ∧ (b = { a with cc := c.cap.w 12, ready := false })) ∧
    (∃ (serial : Nat) (c : Cmd) (n : Nat) (a : Assoc) (s : State), (s.cmd? serial = some c) ∧ (c.verdict = none) ∧ (c.orphan = false) ∧ (c.whole = true) ∧ (s.isAdmin c = true) ∧ (c.cap.opcode = 0x18) ∧ (s.assocOf c = some (n, a))) ∧
    (∃ (serial : Nat) (c : Cmd) (n : Nat) (a : Assoc) (e : Event) (t : List Event) (s u : State), (s.cmd? serial = some c) ∧ (c.verdict = none) ∧ (c.orphan = false) ∧ (c.whole = true) ∧ (s.isAdmin c = true) ∧ (c.cap.opcode = 0x0C) ∧ (s.assocOf c = some (n, a)) ∧ (a.aers.contains serial = false) ∧ (a.events = e :: t) ∧ (u = s.putAssoc n { a with events := t, told := a.told ++ [e] })) ∧
    (∃ (serial : Nat) (c : Cmd) (n : Nat) (a : Assoc) (s : State), (s.cmd? serial = some c) ∧ (c.verdict = none) ∧ (c.orphan = false) ∧ (c.whole = true) ∧ (s.isAdmin c = true) ∧ (c.cap.opcode = 0x0C) ∧ (s.assocOf c = some (n, a)) ∧ (a.aers.contains serial = false) ∧ (a.events = []) ∧ (a.aers.length < 4)) ∧
    (∃ (serial : Nat) (c : Cmd) (n : Nat) (a : Assoc) (s : State), (s.cmd? serial = some c) ∧ (c.verdict = none) ∧ (c.orphan = false) ∧ (c.whole = true) ∧ (s.isAdmin c = true) ∧ (c.cap.opcode = 0x0C) ∧ (s.assocOf c = some (n, a)) ∧ (a.aers.contains serial = false) ∧ (a.events = []) ∧ (4 ≤ a.aers.length)) ∧
    (∃ (serial : Nat) (c : Cmd) (n : Nat) (x : Cmd) (s u : State), (s.cmd? serial = some c) ∧ (c.verdict = none) ∧ (c.orphan = false) ∧ (c.whole = true) ∧ (s.isAdmin c = true) ∧ (c.cap.opcode = 0x08) ∧ ((s.host.cmds.find? fun p => p.1 != serial && p.2.cap.cid == c.cap.w 10 / 2 ^ 16 && p.2.verdict.isNone && !p.2.orphan &&
        (s.conn? p.2.conn).any fun k => k.qid == c.cap.w 10 % 2 ^ 16 && k.assoc == (s.assocOf c).map (·.1)) = some (n, x)) ∧ ((s.locked n x = false ∨ (0 < x.need ∧ x.asked = 0))) ∧ (u = s.answer n (verdict .abortRequested true))) ∧
    (∃ (serial : Nat) (c : Cmd) (s : State), (s.cmd? serial = some c) ∧ (c.verdict = none) ∧ (c.orphan = false) ∧ (c.whole = true) ∧ (s.isAdmin c = true) ∧ (c.cap.opcode = 0x08) ∧ ((s.host.cmds.find? fun p => p.1 != serial && p.2.cap.cid == c.cap.w 10 / 2 ^ 16 && p.2.verdict.isNone && !p.2.orphan &&
        (s.conn? p.2.conn).any fun k => k.qid == c.cap.w 10 % 2 ^ 16 && k.assoc == (s.assocOf c).map (·.1)) = none)) ∧
    (∃ (serial : Nat) (c : Cmd) (off n : Nat) (page : List Nat) (s : State), (s.cmd? serial = some c) ∧ (c.verdict = none) ∧ (c.orphan = false) ∧ (c.whole = true) ∧ (s.isAdmin c = true) ∧ (c.cap.opcode = 0x02) ∧ (s.logPage c ((s.cmdAssoc c).any (·.discovery)) = some (.inr page)) ∧ (n = 4 * (c.cap.w 10 / 2 ^ 16 + 2 ^ 16 * (c.cap.w 11 % 2 ^ 16) + 1)) ∧ (off = c.cap.w 12 + 2 ^ 32 * c.cap.w 13) ∧ (off ≤ page.length) ∧ (off % 4 = 0) ∧ (n ≤ 2 ^ 26)) ∧
    (∃ (serial : Nat) (c : Cmd) (s : State), (s.cmd? serial = some c) ∧ (c.verdict = none) ∧ (c.orphan = false) ∧ (c.whole = true) ∧ (s.isAdmin c = true) ∧ (c.cap.opcode = 0x02) ∧ (s.logPage c ((s.cmdAssoc c).any (·.discovery)) = none)) ∧
    (∃ (serial : Nat) (c : Cmd) (n : Nat) (a : Assoc) (s : State), (s.cmd? serial = some c) ∧ (c.verdict = none) ∧ (c.orphan = false) ∧ (c.whole = true) ∧ (s.isAdmin c = true) ∧ (c.cap.opcode = 0x06) ∧ (s.assocOf c = some (n, a)) ∧ (c.cap.w 10 % 256 = 1)) ∧
    (∃ (serial : Nat) (c : Cmd) (n : Ns) (s : State), (s.cmd? serial = some c) ∧ (c.verdict = none) ∧ (c.orphan = false) ∧ (c.whole = true) ∧ (s.isAdmin c = true) ∧ (c.cap.opcode = 0x06) ∧ (((s.cmdAssoc c).any (·.discovery)) = false) ∧ (c.cap.w 10 % 256 = 0) ∧ (s.ns? c.cap.nsid = some n)) ∧
    (∃ (serial : Nat) (c : Cmd) (th : Nat) (s : State), (s.cmd? serial = some c) ∧ (c.verdict = none) ∧ (c.orphan = false) ∧ (c.whole = true) ∧ (s.isAdmin c = true) ∧ (c.cap.opcode = 0x09) ∧ (c.cap.w 10 % 256 = 0x04) ∧ (bitsOf (c.cap.w 11) 19 16 = 0) ∧ (th = bitsOf (c.cap.w 11) 21 20) ∧ (th ≤ 1)) ∧
    (∃ (serial : Nat) (c : Cmd) (n : Nat) (a : Assoc) (s : State), (s.cmd? serial = some c) ∧ (c.verdict = none) ∧ (c.orphan = false) ∧ (c.whole = true) ∧ (s.isAdmin c = true) ∧ (c.cap.opcode = 0x09) ∧ (s.assocOf c = some (n, a)) ∧ (([0x01, 0x02, 0x07, 0x0B, 0x0F, 0x16].contains (c.cap.w 10 % 256)) = true) ∧ (bitOf (c.cap.w 10) 31 = false)) ∧
    (∃ (serial : Nat) (c : Cmd) (s : State), (s.cmd? serial = some c) ∧ (c.verdict = none) ∧ (c.orphan = false) ∧ (c.whole = true) ∧ (s.isAdmin c = true) ∧ (c.cap.opcode = 0x0A) ∧ (c.cap.w 10 % 256 = 0x04) ∧ (bitsOf (c.cap.w 10) 10 8 = 0)) ∧
    (∃ (serial : Nat) (c : Cmd) (s : State), (s.cmd? serial = some c) ∧ (c.verdict = none) ∧ (c.orphan = false) ∧ (c.whole = true) ∧ (s.isAdmin c = true) ∧ (c.cap.opcode = 0x11) ∧ (4 * (c.cap.w 10 + 1) % 4096 = 0) ∧ (4 * c.cap.w 11 % 4096 = 0)) ∧
    (∃ (serial : Nat) (c : Cmd) (z image : Area) (k : Nat) (m : Option Status) (s u t v : State), (s.cmd? serial = some c) ∧ (c.verdict = none) ∧ (c.orphan = false) ∧ (c.whole = true) ∧ (s.isAdmin c = true) ∧ (c.cap.opcode = 0x10) ∧ (k = c.cap.w 10 % 8 - 1) ∧ ((if bitsOf (c.cap.w 10) 5 3 = 2 then s.slotOf k else if s.host.image.isEmpty = true then none else some image) = some z) ∧ (m = s.commitRefusal c z) ∧ (u = (s.writeTrial k z).putHost { s.host with image := [] }) ∧ (t = (u.ledger 0x0060 [k, z.build 0x10, 0, 0, 0, 0, 0]).answer serial good) ∧ (v = (if (t.get Reg.SYS_BOOT_MODE = 2 && t.restartsOn k z) = true then (if t.headsOff = true then { t.emUnloadAll 0x3 with pwr := { t.pwr with recommit := true } } else { t.pdAllOff (List.range 30) with pwr := { t.pwr with offMs := some t.ms } }) else t))) :=
  ⟨⟨1, (cmdOf (capOf 127 1 [])), { conn0 with assoc := some 1, qid := 0, depth := 32 }, .connectInvalid, (hostState 0 0 0 (cmdOf (capOf 127 1 []))), by decide +kernel⟩,
    ⟨1, connectCmd, { conn0 with assoc := some 1, qid := 0, depth := 32 }, 2, connectState, connectState.putAssoc 2 ⟨0, true, 0, 0, false, 0, 0, [], [], [], []⟩, (connectState.putAssoc 2 ⟨0, true, 0, 0, false, 0, 0, [], [], [], []⟩).putConn 0 { conn0 with assoc := some 2, qid := 0, depth := 32 }, by decide +kernel⟩,
    ⟨1, connectIo, { conn0 with assoc := some 1, qid := 0, depth := 32 }, 1, hostState 0 0 0 connectIo, (hostState 0 0 0 connectIo).putConn 0 { conn0 with assoc := some 1, qid := 1, depth := 32 }, by decide +kernel⟩,
    ⟨1, (cmdOf (capOf 127 8 [])), 1, assoc1, (hostState 0 0 0 (cmdOf (capOf 127 8 []))), by decide +kernel⟩,
    ⟨1, (cmdOf (capOf 127 4 [])), 1, assoc1, (hostState 0 0 0 (cmdOf (capOf 127 4 []))), by decide +kernel⟩,
    ⟨1, (cmdOf (capOf 127 4 [0, 0x1C])), 1, assoc1, (hostState 0 0 0 (cmdOf (capOf 127 4 [0, 0x1C]))), by decide +kernel⟩,
    ⟨1, (cmdOf (capOf 127 0 [0, 0x14, 1])), 1, assoc1, assoc1, (hostState 0 0 0 (cmdOf (capOf 127 0 [0, 0x14, 1]))), by decide +kernel⟩,
    ⟨1, (cmdOf (capOf 127 0 [0, 0x14, 0])), 1, assoc1, { assoc1 with cc := 0, ready := false }, (hostState 0 0 0 (cmdOf (capOf 127 0 [0, 0x14, 0]))), by decide +kernel⟩,
    ⟨1, (cmdOf (capOf 24 0 [])), 1, assoc1, (hostState 0 0 0 (cmdOf (capOf 24 0 []))), by decide +kernel⟩,
    ⟨1, cmdOf (capOf 0x0C 0 []), 1, { assoc1 with events := [⟨6, 1, 0x81⟩] }, ⟨6, 1, 0x81⟩, [], (hostState 0 0 0 (cmdOf (capOf 12 0 []))).putAssoc 1 { assoc1 with events := [⟨6, 1, 0x81⟩] }, ((hostState 0 0 0 (cmdOf (capOf 12 0 []))).putAssoc 1 { assoc1 with events := [⟨6, 1, 0x81⟩] }).putAssoc 1 { assoc1 with told := [⟨6, 1, 0x81⟩] }, by decide +kernel⟩,
    ⟨1, (cmdOf (capOf 12 0 [])), 1, assoc1, (hostState 0 0 0 (cmdOf (capOf 12 0 []))), by decide +kernel⟩,
    ⟨1, cmdOf (capOf 0x0C 0 []), 1, { assoc1 with aers := [2, 3, 4, 5] }, (hostState 0 0 0 (cmdOf (capOf 12 0 []))).putAssoc 1 { assoc1 with aers := [2, 3, 4, 5] }, by decide +kernel⟩,
    ⟨1, cmdOf (capOf 8 0 [9 * 65536]), 2, { cmdOf (capOf 1 0 []) with noEntry := true }, abortState, abortState.answer 2 (verdict .abortRequested true), by decide +kernel⟩,
    ⟨1, (cmdOf (capOf 8 0 [])), (hostState 0 0 0 (cmdOf (capOf 8 0 []))), by decide +kernel⟩,
    ⟨1, (cmdOf (capOf 2 0 [4])), 0, 4, (hostState 0 0 0 (cmdOf (capOf 2 0 [4]))).page04, (hostState 0 0 0 (cmdOf (capOf 2 0 [4]))), by (iterate 6 refine ⟨by decide +kernel, ?_⟩); (refine ⟨rfl, ?_⟩); (iterate 2 refine ⟨by decide +kernel, ?_⟩); (refine ⟨Nat.zero_le _, ?_⟩); (refine ⟨by decide +kernel, ?_⟩); decide +kernel⟩,
    ⟨1, (cmdOf (capOf 2 0 [])), (hostState 0 0 0 (cmdOf (capOf 2 0 []))), by decide +kernel⟩,
    ⟨1, (cmdOf (capOf 6 0 [1])), 1, assoc1, (hostState 0 0 0 (cmdOf (capOf 6 0 [1]))), by decide +kernel⟩,
    ⟨1, (cmdOf (capOf 6 0 [])), nsOf 0, (hostState 0 0 0 (cmdOf (capOf 6 0 []))), by decide +kernel⟩,
    ⟨1, (cmdOf (capOf 9 0 [4, 300])), 0, (hostState 0 0 0 (cmdOf (capOf 9 0 [4, 300]))), by decide +kernel⟩,
    ⟨1, (cmdOf (capOf 9 0 [7, 0])), 1, assoc1, (hostState 0 0 0 (cmdOf (capOf 9 0 [7, 0]))), by decide +kernel⟩,
    ⟨1, (cmdOf (capOf 10 0 [4])), (hostState 0 0 0 (cmdOf (capOf 10 0 [4]))), by decide +kernel⟩,
    ⟨1, (cmdOf (capOf 17 0 [1023])), (hostState 0 0 0 (cmdOf (capOf 17 0 [1023]))), by decide +kernel⟩,
    ⟨1, cmdOf (capOf 16 0 [2]), area0, area0, 1, _, commitState, _, _, _, by decide +kernel, by decide +kernel, by decide +kernel, by decide +kernel, by decide +kernel, by decide +kernel, by decide +kernel, by decide +kernel, rfl, rfl, rfl, rfl⟩⟩

/-- A state and operands that meet the hypotheses of ManagementCommandsRun, clause by clause. -/
theorem witness_ManagementCommandsRun :
    (∃ (serial : Nat) (c : Cmd) (k csi size parcels lpn : Nat) (w : Option (List Nat)) (n : Ns) (s u v : State), (s.cmd? serial = some c) ∧ (c.verdict = none) ∧ (c.orphan = false) ∧ (c.whole = true) ∧ (s.isAdmin c = true) ∧ (c.cap.opcode = 0x0D) ∧ (c.cap.w 10 % 16 = 0) ∧ (csi = c.cap.w 11 / 2 ^ 24) ∧ (size = ofBytes ((s.cmdData c).take 8)) ∧ (nsParcels csi size = some parcels) ∧ (s.givenParcels + parcels ≤ s.office.p) ∧ (((List.range 64).find? fun k => (s.ns? (k + 1)).isNone) = some k) ∧ (s.lpnRange parcels = some lpn) ∧ (u = s.generateKey k) ∧ (w = u.wrapped k) ∧ (v = (match w with | some x => u.saveDev fun d => { d with keys := sIns d.keys k (k + 1, x) } | none => u)) ∧ (n = ⟨csi, size, lpn, parcels, k, false, 0, false, [], none, 0, [], []⟩)) ∧
    (∃ (serial : Nat) (c : Cmd) (parcels : Nat) (s : State), (s.cmd? serial = some c) ∧ (c.verdict = none) ∧ (c.orphan = false) ∧ (c.whole = true) ∧ (s.isAdmin c = true) ∧ (c.cap.opcode = 0x0D) ∧ (c.cap.w 10 % 16 = 0) ∧ (nsParcels (c.cap.w 11 / 2 ^ 24) (ofBytes ((s.cmdData c).take 8)) = some parcels) ∧ (s.office.p < s.givenParcels + parcels)) ∧
    (∃ (serial : Nat) (c : Cmd) (s : State), (s.cmd? serial = some c) ∧ (c.verdict = none) ∧ (c.orphan = false) ∧ (c.whole = true) ∧ (s.isAdmin c = true) ∧ (c.cap.opcode = 0x0D) ∧ (c.cap.w 10 % 16 = 1) ∧ (c.cap.nsid ≠ 0xFFFFFFFF) ∧ ((s.ns? c.cap.nsid).isSome = true) ∧ (s.cmdsOn c.cap.nsid serial = [])) ∧
    (∃ (serial : Nat) (c : Cmd) (n : Ns) (s : State), (s.cmd? serial = some c) ∧ (c.verdict = none) ∧ (c.orphan = false) ∧ (c.whole = true) ∧ (s.isAdmin c = true) ∧ (c.cap.opcode = 0x80) ∧ (bitsOf (c.cap.w 10) 11 9 = 0) ∧ (c.cap.w 10 % 16 = 0) ∧ (c.cap.nsid ≠ 0xFFFFFFFF) ∧ (s.ns? c.cap.nsid = some n) ∧ (s.protectedNs n = false)) ∧
    (∃ (serial : Nat) (c : Cmd) (n : Ns) (x : List Nat) (s u : State), (s.cmd? serial = some c) ∧ (c.verdict = none) ∧ (c.orphan = false) ∧ (c.whole = true) ∧ (s.isAdmin c = true) ∧ (c.cap.opcode = 0x80) ∧ (bitsOf (c.cap.w 10) 11 9 = 2) ∧ (c.cap.w 10 % 16 = 0) ∧ (c.cap.nsid ≠ 0xFFFFFFFF) ∧ (s.ns? c.cap.nsid = some n) ∧ (s.protectedNs n = false) ∧ (u = (s.emptyNs c.cap.nsid n).generateKey n.slot) ∧ (u.wrapped n.slot = some x)) ∧
    (∃ (serial : Nat) (c : Cmd) (done upTo : Nat) (s u : State), (s.cmd? serial = some c) ∧ (c.verdict = none) ∧ (c.orphan = false) ∧ (c.whole = true) ∧ (s.isAdmin c = true) ∧ (c.cap.opcode = 0x84) ∧ (c.cap.w 10 % 8 = 4) ∧ (done = s.cons.sanitizing.getD 0) ∧ (done < upTo) ∧ (upTo < 6) ∧ (u = s.eraseSteps (done + 1) (upTo - done))) ∧
    (∃ (serial : Nat) (c : Cmd) (done : Nat) (s u : State), (s.cmd? serial = some c) ∧ (c.verdict = none) ∧ (c.orphan = false) ∧ (c.whole = true) ∧ (s.isAdmin c = true) ∧ (c.cap.opcode = 0x84) ∧ (c.cap.w 10 % 8 = 4) ∧ (done = s.cons.sanitizing.getD 0) ∧ (done < 6) ∧ (u = s.eraseSteps (done + 1) (6 - done))) ∧
    (∃ (serial : Nat) (c : Cmd) (x : Nat) (s : State), (s.cmd? serial = some c) ∧ (c.verdict = none) ∧ (c.orphan = false) ∧ (c.whole = true) ∧ (s.isAdmin c = true) ∧ (c.cap.opcode = 0xC0) ∧ (bitsOf (c.cap.w 10) 9 8 = 0) ∧ (s.serviceHead c = some x)) ∧
    (∃ (serial : Nat) (c : Cmd) (x : Nat) (s u : State), (s.cmd? serial = some c) ∧ (c.verdict = none) ∧ (c.orphan = false) ∧ (c.whole = true) ∧ (s.isAdmin c = true) ∧ (c.cap.opcode = 0xC0) ∧ (bitsOf (c.cap.w 10) 9 8 = 1) ∧ (s.serviceHead c = some x) ∧ (s.retireRefused x = false) ∧ (u = s.retireHead x 6)) ∧
    (∃ (serial : Nat) (c : Cmd) (x : Nat) (s : State), (s.cmd? serial = some c) ∧ (c.verdict = none) ∧ (c.orphan = false) ∧ (c.whole = true) ∧ (s.isAdmin c = true) ∧ (c.cap.opcode = 0xC0) ∧ (bitsOf (c.cap.w 10) 9 8 = 1) ∧ (s.serviceHead c = some x) ∧ (s.retireRefused x = true)) ∧
    (∃ (serial : Nat) (c : Cmd) (x : Nat) (s u : State), (s.cmd? serial = some c) ∧ (c.verdict = none) ∧ (c.orphan = false) ∧ (c.whole = true) ∧ (s.isAdmin c = true) ∧ (c.cap.opcode = 0xC0) ∧ (bitsOf (c.cap.w 10) 9 8 = 2) ∧ (s.serviceHead c = some x) ∧ (u = s.saveDev fun d => { d with reinstate := Sys2Proof.setBit d.reinstate x true })) ∧
    (∃ (serial : Nat) (c : Cmd) (s : State), (s.cmd? serial = some c) ∧ (c.verdict = none) ∧ (c.orphan = false) ∧ (c.whole = true) ∧ (s.isAdmin c = true) ∧ (c.cap.opcode = 0xC1) ∧ (c.cap.w 10 % 4 = 1)) ∧
    (∃ (t : Nat) (s u : State), (s.host.shelfMs = some t) ∧ (t + 100 ≤ s.ms) ∧ (u = s.endAll) ∧ (u.headsOff = true)) ∧
    (∃ (t : Nat) (s u v w : State), (s.host.shelfMs = some t) ∧ (t + 100 ≤ s.ms) ∧ (u = s.endAll) ∧ (u.headsOff = false) ∧ (v = u.putHost { u.host with shelfMs := none }) ∧ (w = (if v.turning = true then v.tell 0 [0x22000000, 1] else v))) ∧
    (∃ (serial : Nat) (c : Cmd) (s u : State), (s.cmd? serial = some c) ∧ (c.verdict = none) ∧ (c.orphan = false) ∧ (c.whole = true) ∧ (s.isAdmin c = true) ∧ (c.cap.opcode = 0xC1) ∧ (c.cap.w 10 % 4 = 2) ∧ (s.solo = false) ∧ (u = s.setAll [(Reg.FRK_WAKE_GO, 1), (Reg.FRK_WAKE_ALL, c.cap.w 11 % 128 / 64), (Reg.FRK_WAKE_SLOT, c.cap.w 11 % 128)])) ∧
    (∃ (serial : Nat) (c : Cmd) (p crit : Nat) (f : Sparse Nat) (s u v w : State), (s.cmd? serial = some c) ∧ (c.verdict = none) ∧ (c.orphan = false) ∧ (c.whole = true) ∧ (s.isAdmin c = true) ∧ (c.cap.opcode = 0xC2) ∧ (s.host.nss = []) ∧ (u = (s.set Reg.CNS_LAYOUT_LAYOUT (c.cap.w 10 % 4)).set Reg.SOF_FC_COMPAT (b2n (bitOf (c.cap.w 10) 8))) ∧ (v = (u.clearKeys.emptyMap true).naturalMap) ∧ (p = v.capacity (bitOf (c.cap.w 10) 8)) ∧ (w = (v.putOffice { v.office with p := p }).set Reg.SOF_MAP_LEN_MAP_PARCELS p) ∧ (f = sIns (sIns w.devWanted.features 0xD0 (c.cap.w 10 % 4)) 0xD1 (b2n (bitOf (c.cap.w 10) 8))) ∧ (crit = Sys2Proof.setBit (Sys2Proof.setBit w.host.critical 2 false) 4 false)) ∧
    (∃ (serial : Nat) (c : Cmd) (s : State), (s.cmd? serial = some c) ∧ (c.verdict = none) ∧ (c.orphan = false) ∧ (c.whole = true) ∧ (s.isAdmin c = true) ∧ (c.cap.opcode = 0xC2) ∧ (s.host.nss ≠ [])) :=
  ⟨⟨1, createCmd, 1, 0, 64, 1, 2048, (createState.generateKey 1).wrapped 1, ⟨0, 64, 2048, 1, 1, false, 0, false, [], none, 0, [], []⟩, createState, createState.generateKey 1, (match (createState.generateKey 1).wrapped 1 with | some x => (createState.generateKey 1).saveDev fun d => { d with keys := sIns d.keys 1 (2, x) } | none => createState.generateKey 1), by (iterate 13 refine ⟨by decide +kernel, ?_⟩); (iterate 3 refine ⟨rfl, ?_⟩); exact rfl⟩,
    ⟨1, createCmd, 1, createState.putOffice { createState.office with p := 0 }, by decide +kernel⟩,
    ⟨1, (cmdOf (capOf 13 0 [1])), (hostState 0 0 0 (cmdOf (capOf 13 0 [1]))), by decide +kernel⟩,
    ⟨1, (cmdOf (capOf 128 0 [0])), nsOf 0, (hostState 0 0 0 (cmdOf (capOf 128 0 [0]))), by decide +kernel⟩,
    ⟨1, (cmdOf (capOf 128 0 [1024])), nsOf 0, keyWrap ((hostState 0 0 0 (cmdOf (capOf 128 0 [1024]))).emptyNs 1 (nsOf 0)).kekBytes (leBytes 64 (Config.randomKey ((hostState 0 0 0 (cmdOf (capOf 128 0 [1024]))).emptyNs 1 (nsOf 0)).cons.generated % 2 ^ 512)), (hostState 0 0 0 (cmdOf (capOf 128 0 [1024]))), ((hostState 0 0 0 (cmdOf (capOf 128 0 [1024]))).emptyNs 1 (nsOf 0)).generateKey 0, by (iterate 11 refine ⟨by decide +kernel, ?_⟩); (refine ⟨rfl, ?_⟩); exact wrapped_generateKey _ _⟩,
    ⟨1, (cmdOf (capOf 132 0 [4])), 0, 1, (hostState 0 0 0 (cmdOf (capOf 132 0 [4]))), (hostState 0 0 0 (cmdOf (capOf 132 0 [4]))).eraseSteps 1 1, by (iterate 10 refine ⟨by decide +kernel, ?_⟩); exact rfl⟩,
    ⟨1, (cmdOf (capOf 132 0 [4])), 0, (hostState 0 0 0 (cmdOf (capOf 132 0 [4]))), (hostState 0 0 0 (cmdOf (capOf 132 0 [4]))).eraseSteps 1 6, by (iterate 9 refine ⟨by decide +kernel, ?_⟩); exact rfl⟩,
    ⟨1, (cmdOf (capOf 192 0 [0])), 0, (hostState 0 0 0 (cmdOf (capOf 192 0 [0]))), by decide +kernel⟩,
    ⟨1, cmdOf (capOf 0xC0 0 [256]), 0, (hostState 0 0 0 (cmdOf (capOf 192 0 [256]))), (hostState 0 0 0 (cmdOf (capOf 192 0 [256]))).retireHead 0 6, by (iterate 9 refine ⟨by decide +kernel, ?_⟩); exact rfl⟩,
    ⟨1, cmdOf (capOf 0xC0 0 [256]), 0, (hostState 0 0 0 (cmdOf (capOf 192 0 [256]))).putCons { Consign.cold with rebuild := 1 }, by decide +kernel⟩,
    ⟨1, (cmdOf (capOf 192 0 [512])), 0, (hostState 0 0 0 (cmdOf (capOf 192 0 [512]))), (hostState 0 0 0 (cmdOf (capOf 192 0 [512]))).saveDev fun d => { d with reinstate := Sys2Proof.setBit d.reinstate 0 true }, by decide +kernel⟩,
    ⟨1, (cmdOf (capOf 193 0 [1])), (hostState 0 0 0 (cmdOf (capOf 193 0 [1]))), by decide +kernel⟩,
    ⟨0, offState false, (offState false).endAll, by decide +kernel⟩,
    ⟨0, offState true, (offState true).endAll, (offState true).endAll.putHost { (offState true).endAll.host with shelfMs := none }, (offState true).endAll.putHost { (offState true).endAll.host with shelfMs := none }, by decide +kernel⟩,
    ⟨1, cmdOf (capOf 0xC1 0 [2]), (hostState 0 0 0 (cmdOf (capOf 193 0 [2]))).set Reg.FRK_BOOK_LIM_SOLO 0, ((hostState 0 0 0 (cmdOf (capOf 193 0 [2]))).set Reg.FRK_BOOK_LIM_SOLO 0).setAll [(Reg.FRK_WAKE_GO, 1), (Reg.FRK_WAKE_ALL, 0), (Reg.FRK_WAKE_SLOT, 0)], by decide +kernel⟩,
    ⟨1, cmdOf (capOf 0xC2 0 []), ((((formatState.set Reg.CNS_LAYOUT_LAYOUT ((cmdOf (capOf 0xC2 0 [])).cap.w 10 % 4)).set Reg.SOF_FC_COMPAT (b2n (bitOf ((cmdOf (capOf 0xC2 0 [])).cap.w 10) 8))).clearKeys.emptyMap true).naturalMap).capacity (bitOf ((cmdOf (capOf 0xC2 0 [])).cap.w 10) 8), _, _, formatState, (formatState.set Reg.CNS_LAYOUT_LAYOUT ((cmdOf (capOf 0xC2 0 [])).cap.w 10 % 4)).set Reg.SOF_FC_COMPAT (b2n (bitOf ((cmdOf (capOf 0xC2 0 [])).cap.w 10) 8)), (((formatState.set Reg.CNS_LAYOUT_LAYOUT ((cmdOf (capOf 0xC2 0 [])).cap.w 10 % 4)).set Reg.SOF_FC_COMPAT (b2n (bitOf ((cmdOf (capOf 0xC2 0 [])).cap.w 10) 8))).clearKeys.emptyMap true).naturalMap, (((((formatState.set Reg.CNS_LAYOUT_LAYOUT ((cmdOf (capOf 0xC2 0 [])).cap.w 10 % 4)).set Reg.SOF_FC_COMPAT (b2n (bitOf ((cmdOf (capOf 0xC2 0 [])).cap.w 10) 8))).clearKeys.emptyMap true).naturalMap).putOffice { ((((formatState.set Reg.CNS_LAYOUT_LAYOUT ((cmdOf (capOf 0xC2 0 [])).cap.w 10 % 4)).set Reg.SOF_FC_COMPAT (b2n (bitOf ((cmdOf (capOf 0xC2 0 [])).cap.w 10) 8))).clearKeys.emptyMap true).naturalMap).office with p := ((((formatState.set Reg.CNS_LAYOUT_LAYOUT ((cmdOf (capOf 0xC2 0 [])).cap.w 10 % 4)).set Reg.SOF_FC_COMPAT (b2n (bitOf ((cmdOf (capOf 0xC2 0 [])).cap.w 10) 8))).clearKeys.emptyMap true).naturalMap).capacity (bitOf ((cmdOf (capOf 0xC2 0 [])).cap.w 10) 8) }).set Reg.SOF_MAP_LEN_MAP_PARCELS (((((formatState.set Reg.CNS_LAYOUT_LAYOUT ((cmdOf (capOf 0xC2 0 [])).cap.w 10 % 4)).set Reg.SOF_FC_COMPAT (b2n (bitOf ((cmdOf (capOf 0xC2 0 [])).cap.w 10) 8))).clearKeys.emptyMap true).naturalMap).capacity (bitOf ((cmdOf (capOf 0xC2 0 [])).cap.w 10) 8)), by decide +kernel, by decide +kernel, by decide +kernel, by decide +kernel, by decide +kernel, by decide +kernel, by decide +kernel, rfl, rfl, rfl, rfl, rfl, rfl⟩,
    ⟨1, (cmdOf (capOf 194 0 [])), (hostState 0 0 0 (cmdOf (capOf 194 0 []))), by decide +kernel⟩⟩

/-- A state and operands that meet the hypotheses of MiCommandsRun, clause by clause. -/
theorem witness_MiCommandsRun :
    (∃ (id : Nat) (s : State), (s.miUp = true) ∧ (id ≤ 1)) ∧
    (∃ (id : Nat) (s : State), (s.miUp = true)) ∧
    (∃ (kind id : Nat) (s : State), (s.miUp = true) ∧ (4 ≤ kind)) ∧
    (∃ (s : State), (s.miUp = true)) ∧
    (∃ (s : State), (s.miUp = true)) ∧
    (∃ (s : State), (s.miUp = true)) ∧
    (∃ (code : Nat) (s u : State), (s.miUp = true) ∧ (1 ≤ code) ∧ (code ≤ 2) ∧ (u = s.putHost { s.host with smbus := if code = 1 then 100 else 400 })) ∧
    (∃ (code : Nat) (s : State), (s.miUp = true) ∧ ((code = 0 ∨ 2 < code))) ∧
    (∃ (off n : Nat) (s : State), (s.miUp = true)) ∧
    (∃ (off n : Nat) (s : State), (s.miUp = false)) :=
  ⟨⟨0, s0, by decide +kernel⟩,
    ⟨0, s0, by decide +kernel⟩,
    ⟨4, 0, s0, by decide +kernel⟩,
    ⟨s0, by decide +kernel⟩,
    ⟨s0, by decide +kernel⟩,
    ⟨s0, by decide +kernel⟩,
    ⟨1, s0, s0.putHost { s0.host with smbus := 100 }, by decide +kernel⟩,
    ⟨0, s0, by decide +kernel⟩,
    ⟨0, 0, s0, by decide +kernel⟩,
    ⟨0, 0, { s0 with krx := { s0.krx with shelfHold := true } }, by decide +kernel⟩⟩

/-- A state and operands that meet the hypotheses of IoCommandsRun, clause by clause. -/
theorem witness_IoCommandsRun :
    (∃ (serial : Nat) (c : Cmd) (n : Ns) (s : State), (s.cmd? serial = some c) ∧ (c.verdict = none) ∧ (c.orphan = false) ∧ (c.whole = true) ∧ (s.locked serial c = true) ∧ (s.cmdOp c = some .flush) ∧ (s.ns? c.cap.nsid = some n)) ∧
    (∃ (serial : Nat) (c : Cmd) (n : Ns) (m lba : Nat) (s u v : State), (s.cmd? serial = some c) ∧ (c.verdict = none) ∧ (c.orphan = false) ∧ (c.whole = true) ∧ (s.locked serial c = true) ∧ (s.cmdOp c = some .write) ∧ (s.ns? c.cap.nsid = some n) ∧ (s.enterTray c = (u, .inr (m, lba))) ∧ (v = u.putCmd serial { c with tray := some m })) ∧
    (∃ (serial : Nat) (c : Cmd) (n : Ns) (st : Status) (s u : State), (s.cmd? serial = some c) ∧ (c.verdict = none) ∧ (c.orphan = false) ∧ (c.whole = true) ∧ (s.locked serial c = true) ∧ (s.cmdOp c = some .write) ∧ (s.ns? c.cap.nsid = some n) ∧ (s.enterTray c = (u, .inl st))) ∧
    (∃ (serial : Nat) (c : Cmd) (n : Ns) (m lba : Nat) (s u v : State), (s.cmd? serial = some c) ∧ (c.verdict = none) ∧ (c.orphan = false) ∧ (c.whole = true) ∧ (s.locked serial c = true) ∧ (s.cmdOp c = some .append) ∧ (s.ns? c.cap.nsid = some n) ∧ (s.enterTray c = (u, .inr (m, lba))) ∧ (v = u.putCmd serial { c with tray := some m })) ∧
    (∃ (serial : Nat) (c : Cmd) (n : Ns) (m lba : Nat) (s u v : State), (s.cmd? serial = some c) ∧ (c.verdict = none) ∧ (c.orphan = false) ∧ (c.whole = true) ∧ (s.locked serial c = true) ∧ (s.cmdOp c = some .writeZeroes) ∧ (s.ns? c.cap.nsid = some n) ∧ ((n.csi ≠ 0 ∨ c.cap.deac = false)) ∧ (s.enterTray c = (u, .inr (m, lba))) ∧ (v = u.putCmd serial { c with tray := some m })) ∧
    (∃ (serial : Nat) (c : Cmd) (n : Ns) (s : State), (s.cmd? serial = some c) ∧ (c.verdict = none) ∧ (c.orphan = false) ∧ (c.whole = true) ∧ (s.locked serial c = true) ∧ (s.cmdOp c = some .writeZeroes) ∧ (s.ns? c.cap.nsid = some n) ∧ (n.csi = 0) ∧ (c.cap.deac = true)) ∧
    (∃ (serial : Nat) (c : Cmd) (n : Ns) (l : List (Nat × Nat)) (s : State), (s.cmd? serial = some c) ∧ (c.verdict = none) ∧ (c.orphan = false) ∧ (c.whole = true) ∧ (s.locked serial c = true) ∧ (s.cmdOp c = some .discard) ∧ (s.ns? c.cap.nsid = some n) ∧ (l = dsmRanges (s.cmdData c) (c.cap.w 10 % 256 + 1)) ∧ ((l.any fun r => n.size < r.1 + r.2) = false) ∧ (bitOf (c.cap.w 11) 2 = true)) ∧
    (∃ (serial : Nat) (c : Cmd) (n : Ns) (lbas lost : List Nat) (media : List (Nat × Nat)) (s : State), (s.cmd? serial = some c) ∧ (c.verdict = none) ∧ (c.orphan = false) ∧ (c.whole = true) ∧ (s.locked serial c = true) ∧ (s.cmdOp c = some .read) ∧ (s.ns? c.cap.nsid = some n) ∧ (lbas = (List.range c.cap.nlb).map (c.cap.slba + ·)) ∧ ((lbas.filter fun b => s.whereIs c.cap.nsid n b == .lost || (s.whereIs c.cap.nsid n b == .media && s.blockLost serial n b)) = lost) ∧ (lost ≠ [])) ∧
    (∃ (serial : Nat) (c : Cmd) (n : Ns) (lbas : List Nat) (media : List (Nat × Nat)) (s : State), (s.cmd? serial = some c) ∧ (c.verdict = none) ∧ (c.orphan = false) ∧ (c.whole = true) ∧ (s.locked serial c = true) ∧ (s.cmdOp c = some .read) ∧ (s.ns? c.cap.nsid = some n) ∧ (lbas = (List.range c.cap.nlb).map (c.cap.slba + ·)) ∧ ((lbas.filter fun b => s.whereIs c.cap.nsid n b == .lost || (s.whereIs c.cap.nsid n b == .media && s.blockLost serial n b)) = []) ∧ ((lbas.any fun b => s.whereIs c.cap.nsid n b == .media && !(media.any fun m => m.1 == b)) = false)) ∧
    (∃ (serial : Nat) (c : Cmd) (n : Ns) (lbas : List Nat) (media : List (Nat × Nat)) (s : State), (s.cmd? serial = some c) ∧ (c.verdict = none) ∧ (c.orphan = false) ∧ (c.whole = true) ∧ (s.locked serial c = true) ∧ (s.cmdOp c = some .verify) ∧ (s.ns? c.cap.nsid = some n) ∧ (lbas = (List.range c.cap.nlb).map (c.cap.slba + ·)) ∧ ((lbas.filter fun b => s.whereIs c.cap.nsid n b == .lost || (s.whereIs c.cap.nsid n b == .media && s.blockLost serial n b)) = []) ∧ ((lbas.any fun b => s.whereIs c.cap.nsid n b == .media && !(media.any fun m => m.1 == b)) = false)) ∧
    (∃ (serial : Nat) (c : Cmd) (n : Ns) (lbas : List Nat) (media : List (Nat × Nat)) (s : State), (s.cmd? serial = some c) ∧ (c.verdict = none) ∧ (c.orphan = false) ∧ (c.whole = true) ∧ (s.locked serial c = true) ∧ (s.cmdOp c = some .verify) ∧ (s.ns? c.cap.nsid = some n) ∧ (lbas = (List.range c.cap.nlb).map (c.cap.slba + ·)) ∧ ((lbas.filter fun b => s.whereIs c.cap.nsid n b == .lost || (s.whereIs c.cap.nsid n b == .media && s.blockLost serial n b)) = []) ∧ ((lbas.any fun b => s.whereIs c.cap.nsid n b == .media && !(media.any fun m => m.1 == b)) = true)) :=
  ⟨⟨1, (cmdOf (capOf 0 0 [])), nsOf 0, (hostState 0 0 1 (cmdOf (capOf 0 0 []))), by decide +kernel⟩,
    ⟨1, { cmdOf (capOf 1 0 [0, 0, 0]) with need := 4096, got := 4096, asked := 4096, bags := [0] }, nsOf 0, 2, 0, (hostState 0 0 1 ({ cmdOf (capOf 1 0 [0, 0, 0]) with need := 4096, got := 4096, asked := 4096, bags := [0] })), ((hostState 0 0 1 ({ cmdOf (capOf 1 0 [0, 0, 0]) with need := 4096, got := 4096, asked := 4096, bags := [0] })).enterTray { cmdOf (capOf 1 0 [0, 0, 0]) with need := 4096, got := 4096, asked := 4096, bags := [0] }).1, ((hostState 0 0 1 ({ cmdOf (capOf 1 0 [0, 0, 0]) with need := 4096, got := 4096, asked := 4096, bags := [0] })).enterTray { cmdOf (capOf 1 0 [0, 0, 0]) with need := 4096, got := 4096, asked := 4096, bags := [0] }).1.putCmd 1 {  cmdOf (capOf 1 0 [0, 0, 0]) with need := 4096, got := 4096, asked := 4096, bags := [0] , tray := some 2 }, by decide +kernel⟩,
    ⟨1, cmdOf (capOf 1 0 [5, 0, 0]), nsOf 2, .zoneInvalidWrite, (hostState 0 2 1 (cmdOf (capOf 1 0 [5, 0, 0]))), (hostState 0 2 1 (cmdOf (capOf 1 0 [5, 0, 0]))), by decide +kernel⟩,
    ⟨1, { cmdOf (capOf 125 0 [0, 0, 0]) with need := 4096, got := 4096, asked := 4096, bags := [0] }, nsOf 2, 2, 0, (hostState 0 2 1 ({ cmdOf (capOf 125 0 [0, 0, 0]) with need := 4096, got := 4096, asked := 4096, bags := [0] })), ((hostState 0 2 1 ({ cmdOf (capOf 125 0 [0, 0, 0]) with need := 4096, got := 4096, asked := 4096, bags := [0] })).enterTray { cmdOf (capOf 125 0 [0, 0, 0]) with need := 4096, got := 4096, asked := 4096, bags := [0] }).1, ((hostState 0 2 1 ({ cmdOf (capOf 125 0 [0, 0, 0]) with need := 4096, got := 4096, asked := 4096, bags := [0] })).enterTray { cmdOf (capOf 125 0 [0, 0, 0]) with need := 4096, got := 4096, asked := 4096, bags := [0] }).1.putCmd 1 {  cmdOf (capOf 125 0 [0, 0, 0]) with need := 4096, got := 4096, asked := 4096, bags := [0] , tray := some 2 }, by decide +kernel⟩,
    ⟨1, (cmdOf (capOf 8 0 [])), nsOf 0, 2, 0, (hostState 0 0 1 (cmdOf (capOf 8 0 []))), ((hostState 0 0 1 (cmdOf (capOf 8 0 []))).enterTray (cmdOf (capOf 8 0 []))).1, ((hostState 0 0 1 (cmdOf (capOf 8 0 []))).enterTray (cmdOf (capOf 8 0 []))).1.putCmd 1 { cmdOf (capOf 8 0 []) with tray := some 2 }, by decide +kernel⟩,
    ⟨1, (cmdOf (capOf 8 0 [0, 0, 0x2000000])), nsOf 0, (hostState 0 0 1 (cmdOf (capOf 8 0 [0, 0, 0x2000000]))), by decide +kernel⟩,
    ⟨1, (cmdOf (capOf 9 0 [0, 4])), nsOf 0, [(0, 0)], (hostState 0 0 1 (cmdOf (capOf 9 0 [0, 4]))), by decide +kernel⟩,
    ⟨1, (cmdOf (capOf 2 0 [0, 0, 0])), nsOf 0, [0], [0], [], ((hostState 0 0 1 (cmdOf (capOf 2 0 [0, 0, 0]))).putOffice { Office.cold with unreadable := [(0, 0)] }), by decide +kernel⟩,
    ⟨1, (cmdOf (capOf 2 0 [0, 0, 0])), nsOf 0, [0], [], (hostState 0 0 1 (cmdOf (capOf 2 0 [0, 0, 0]))), by decide +kernel⟩,
    ⟨1, (cmdOf (capOf 12 0 [0, 0, 0])), nsOf 0, [0], [], (hostState 0 0 1 (cmdOf (capOf 12 0 [0, 0, 0]))), by decide +kernel⟩,
    ⟨1, cmdOf (capOf 12 0 [0, 0, 0]), nsOf 0, [0], [], ({ (hostState 0 0 1 (cmdOf (capOf 12 0 [0, 0, 0]))) with cells := [(4, 64)] }), by decide +kernel⟩⟩

/-- A state and operands that meet the hypotheses of ReservationsRun, clause by clause. -/
theorem witness_ReservationsRun :
    (∃ (serial : Nat) (c : Cmd) (n : Ns) (h : Nat) (s : State), (s.cmd? serial = some c) ∧ (c.verdict = none) ∧ (c.orphan = false) ∧ (c.whole = true) ∧ (s.locked serial c = true) ∧ (s.cmdOp c = some .resRegister) ∧ (s.ns? c.cap.nsid = some n) ∧ (c.cap.w 10 = 0) ∧ (h = s.hostOf c) ∧ ((n.regs.find? fun r => r.1 == h) = none)) ∧
    (∃ (serial : Nat) (c : Cmd) (n : Ns) (h cur key : Nat) (m : Ns) (s u : State), (s.cmd? serial = some c) ∧ (c.verdict = none) ∧ (c.orphan = false) ∧ (c.whole = true) ∧ (s.locked serial c = true) ∧ (s.cmdOp c = some .resRegister) ∧ (s.ns? c.cap.nsid = some n) ∧ (c.cap.w 10 = 1) ∧ (h = s.hostOf c) ∧ (cur = ofBytes ((s.cmdData c).take 8)) ∧ ((n.regs.find? fun r => r.1 == h) = some (h, key)) ∧ (key = cur) ∧ (m = (n.withRegs (n.regs.filter fun r => r.1 != h)).dropHolder) ∧ (n.holder = none) ∧ (u = s.putNs c.cap.nsid m)) ∧
    (∃ (serial : Nat) (c : Cmd) (n : Ns) (h cur key : Nat) (s : State), (s.cmd? serial = some c) ∧ (c.verdict = none) ∧ (c.orphan = false) ∧ (c.whole = true) ∧ (s.locked serial c = true) ∧ (s.cmdOp c = some .resRegister) ∧ (s.ns? c.cap.nsid = some n) ∧ (c.cap.w 10 = 2) ∧ (h = s.hostOf c) ∧ (cur = ofBytes ((s.cmdData c).take 8)) ∧ ((n.regs.find? fun r => r.1 == h) = some (h, key)) ∧ (key ≠ cur)) ∧
    (∃ (serial : Nat) (c : Cmd) (n : Ns) (h cur type : Nat) (s : State), (s.cmd? serial = some c) ∧ (c.verdict = none) ∧ (c.orphan = false) ∧ (c.whole = true) ∧ (s.locked serial c = true) ∧ (s.cmdOp c = some .resAcquire) ∧ (s.ns? c.cap.nsid = some n) ∧ (h = s.hostOf c) ∧ (cur = ofBytes ((s.cmdData c).take 8)) ∧ (type = bitsOf (c.cap.w 10) 15 8) ∧ (1 ≤ type) ∧ (type ≤ 6) ∧ (c.cap.w 10 % 8 = 0) ∧ (n.regs.contains (h, cur) = true) ∧ (n.holder = none)) ∧
    (∃ (serial : Nat) (c : Cmd) (n : Ns) (h cur type : Nat) (s : State), (s.cmd? serial = some c) ∧ (c.verdict = none) ∧ (c.orphan = false) ∧ (c.whole = true) ∧ (s.locked serial c = true) ∧ (s.cmdOp c = some .resAcquire) ∧ (s.ns? c.cap.nsid = some n) ∧ (h = s.hostOf c) ∧ (cur = ofBytes ((s.cmdData c).take 8)) ∧ (type = bitsOf (c.cap.w 10) 15 8) ∧ (1 ≤ type) ∧ (type ≤ 6) ∧ (c.cap.w 10 % 8 ≤ 2) ∧ ((n.regs.any fun r => r.1 == h && (bitOf (c.cap.w 10) 3 || r.2 == cur)) = false)) ∧
    (∃ (serial : Nat) (c : Cmd) (n : Ns) (h cur type : Nat) (s u : State), (s.cmd? serial = some c) ∧ (c.verdict = none) ∧ (c.orphan = false) ∧ (c.whole = true) ∧ (s.locked serial c = true) ∧ (s.cmdOp c = some .resRelease) ∧ (s.ns? c.cap.nsid = some n) ∧ (h = s.hostOf c) ∧ (cur = ofBytes ((s.cmdData c).take 8)) ∧ (type = bitsOf (c.cap.w 10) 15 8) ∧ (c.cap.w 10 % 8 = 0) ∧ ((n.regs.any fun r => r.1 == h && (bitOf (c.cap.w 10) 3 || r.2 == cur)) = true) ∧ (n.holder = some (h, type)) ∧ (u = s.putNs c.cap.nsid { n with holder := none })) ∧
    (∃ (serial : Nat) (c : Cmd) (n : Ns) (h cur : Nat) (m : Ns) (s u : State), (s.cmd? serial = some c) ∧ (c.verdict = none) ∧ (c.orphan = false) ∧ (c.whole = true) ∧ (s.locked serial c = true) ∧ (s.cmdOp c = some .resRelease) ∧ (s.ns? c.cap.nsid = some n) ∧ (h = s.hostOf c) ∧ (cur = ofBytes ((s.cmdData c).take 8)) ∧ (c.cap.w 10 % 8 = 1) ∧ ((n.regs.any fun r => r.1 == h && (bitOf (c.cap.w 10) 3 || r.2 == cur)) = true) ∧ (m = { n.withRegs [] with holder := none }) ∧ (u = s.putNs c.cap.nsid m)) ∧
    (∃ (serial : Nat) (c : Cmd) (n : Ns) (s : State), (s.cmd? serial = some c) ∧ (c.verdict = none) ∧ (c.orphan = false) ∧ (c.whole = true) ∧ (s.locked serial c = true) ∧ (s.cmdOp c = some .resReport) ∧ (s.ns? c.cap.nsid = some n) ∧ (bitOf (c.cap.w 11) 0 = false) ∧ (n.holder = none)) :=
  ⟨⟨1, cmdOf (capOf 0x0D 0 [0]), { nsOf 0 with regs := [] }, 7, (hostState 0 0 1 (cmdOf (capOf 13 0 [0]))).putNs 1 { nsOf 0 with regs := [] }, by decide +kernel⟩,
    ⟨1, { cmdOf (capOf 0x0D 0 [1]) with bags := [] }, { nsOf 0 with regs := [(7, 0)] }, 7, 0, 0, ({ nsOf 0 with regs := [(7, 0)] }.withRegs []).dropHolder, (hostState 0 0 1 (cmdOf (capOf 13 0 [1]))).putNs 1 { nsOf 0 with regs := [(7, 0)] }, ((hostState 0 0 1 (cmdOf (capOf 13 0 [1]))).putNs 1 { nsOf 0 with regs := [(7, 0)] }).putNs 1 ({ nsOf 0 with regs := [(7, 0)] }.withRegs []).dropHolder, by decide +kernel⟩,
    ⟨1, cmdOf (capOf 0x0D 0 [2]), nsOf 0, 7, 0, 5, (hostState 0 0 1 (cmdOf (capOf 13 0 [2]))), by decide +kernel⟩,
    ⟨1, cmdOf (capOf 0x11 0 [256]), { nsOf 0 with regs := [(7, 0)] }, 7, 0, 1, (hostState 0 0 1 (cmdOf (capOf 17 0 [256]))).putNs 1 { nsOf 0 with regs := [(7, 0)] }, by decide +kernel⟩,
    ⟨1, cmdOf (capOf 0x11 0 [256]), nsOf 0, 7, 0, 1, (hostState 0 0 1 (cmdOf (capOf 17 0 [256]))), by decide +kernel⟩,
    ⟨1, cmdOf (capOf 0x15 0 [264]), { nsOf 0 with holder := some (7, 1) }, 7, 0, 1, (hostState 0 0 1 (cmdOf (capOf 21 0 [264]))).putNs 1 { nsOf 0 with holder := some (7, 1) }, ((hostState 0 0 1 (cmdOf (capOf 21 0 [264]))).putNs 1 { nsOf 0 with holder := some (7, 1) }).putNs 1 (nsOf 0), by decide +kernel⟩,
    ⟨1, cmdOf (capOf 0x15 0 [9]), nsOf 0, 7, 0, (nsOf 0).withRegs [], (hostState 0 0 1 (cmdOf (capOf 21 0 [9]))), (hostState 0 0 1 (cmdOf (capOf 21 0 [9]))).putNs 1 ((nsOf 0).withRegs []), by decide +kernel⟩,
    ⟨1, (cmdOf (capOf 14 0 [0, 0])), nsOf 0, (hostState 0 0 1 (cmdOf (capOf 14 0 [0, 0]))), by decide +kernel⟩⟩

/-- A state and operands that meet the hypotheses of ZonesAndKeysRun, clause by clause. -/
theorem witness_ZonesAndKeysRun :
    (∃ (serial : Nat) (c : Cmd) (n : Ns) (k : Nat) (s : State), (s.cmd? serial = some c) ∧ (c.verdict = none) ∧ (c.orphan = false) ∧ (c.whole = true) ∧ (s.locked serial c = true) ∧ (s.cmdOp c = some .zoneSend) ∧ (s.ns? c.cap.nsid = some n) ∧ (c.cap.w 13 % 256 = 3) ∧ (bitOf (c.cap.w 13) 8 = false) ∧ (k = c.cap.slba / 65536) ∧ ((n.zone k).state ≠ .full) ∧ (n.openRefusal k = none)) ∧
    (∃ (serial : Nat) (c : Cmd) (n : Ns) (k : Nat) (s : State), (s.cmd? serial = some c) ∧ (c.verdict = none) ∧ (c.orphan = false) ∧ (c.whole = true) ∧ (s.locked serial c = true) ∧ (s.cmdOp c = some .zoneSend) ∧ (s.ns? c.cap.nsid = some n) ∧ (c.cap.w 13 % 256 = 3) ∧ (bitOf (c.cap.w 13) 8 = false) ∧ (k = c.cap.slba / 65536) ∧ ((n.zone k).state = .full)) ∧
    (∃ (serial : Nat) (c : Cmd) (n : Ns) (k : Nat) (st : Status) (s : State), (s.cmd? serial = some c) ∧ (c.verdict = none) ∧ (c.orphan = false) ∧ (c.whole = true) ∧ (s.locked serial c = true) ∧ (s.cmdOp c = some .zoneSend) ∧ (s.ns? c.cap.nsid = some n) ∧ (c.cap.w 13 % 256 = 3) ∧ (bitOf (c.cap.w 13) 8 = false) ∧ (k = c.cap.slba / 65536) ∧ ((n.zone k).state ≠ .full) ∧ (n.openRefusal k = some st)) ∧
    (∃ (serial : Nat) (c : Cmd) (n : Ns) (k : Nat) (s : State), (s.cmd? serial = some c) ∧ (c.verdict = none) ∧ (c.orphan = false) ∧ (c.whole = true) ∧ (s.locked serial c = true) ∧ (s.cmdOp c = some .zoneSend) ∧ (s.ns? c.cap.nsid = some n) ∧ (c.cap.w 13 % 256 = 1) ∧ (bitOf (c.cap.w 13) 8 = false) ∧ (k = c.cap.slba / 65536) ∧ (((n.zone k).state = .implicitOpen ∨ (n.zone k).state = .explicitOpen))) ∧
    (∃ (serial : Nat) (c : Cmd) (n : Ns) (k : Nat) (s : State), (s.cmd? serial = some c) ∧ (c.verdict = none) ∧ (c.orphan = false) ∧ (c.whole = true) ∧ (s.locked serial c = true) ∧ (s.cmdOp c = some .zoneSend) ∧ (s.ns? c.cap.nsid = some n) ∧ (c.cap.w 13 % 256 = 2) ∧ (bitOf (c.cap.w 13) 8 = false) ∧ (k = c.cap.slba / 65536) ∧ ((n.zone k).state ≠ .full)) ∧
    (∃ (serial : Nat) (c : Cmd) (n : Ns) (k : Nat) (s u v : State), (s.cmd? serial = some c) ∧ (c.verdict = none) ∧ (c.orphan = false) ∧ (c.whole = true) ∧ (s.locked serial c = true) ∧ (s.cmdOp c = some .zoneSend) ∧ (s.ns? c.cap.nsid = some n) ∧ (c.cap.w 13 % 256 = 4) ∧ (bitOf (c.cap.w 13) 8 = false) ∧ (k = c.cap.slba / 65536) ∧ (u = (s.trayForget c.cap.nsid (65536 * k) 65536).unmapAll ((List.range 1024).map fun i => n.lpn + 1024 * k + i) 0x06) ∧ ((n.zone k).bound = none) ∧ (v = u.putZone c.cap.nsid k HZone.fresh)) ∧
    (∃ (serial : Nat) (c : Cmd) (n : Ns) (ks : List Nat) (s : State), (s.cmd? serial = some c) ∧ (c.verdict = none) ∧ (c.orphan = false) ∧ (c.whole = true) ∧ (s.locked serial c = true) ∧ (s.cmdOp c = some .zoneReceive) ∧ (s.ns? c.cap.nsid = some n) ∧ (bitsOf (c.cap.w 13) 15 8 = 0) ∧ (bitOf (c.cap.w 13) 16 = false) ∧ (ks = (List.range (n.size / 65536 - c.cap.slba / 65536)).map (c.cap.slba / 65536 + ·))) ∧
    (∃ (serial : Nat) (c : Cmd) (n : Ns) (m lba : Nat) (s u v : State), (s.cmd? serial = some c) ∧ (c.verdict = none) ∧ (c.orphan = false) ∧ (c.whole = true) ∧ (s.locked serial c = true) ∧ (s.cmdOp c = some .store) ∧ (s.ns? c.cap.nsid = some n) ∧ (bitOf (c.cap.w 11) 8 = false) ∧ (bitOf (c.cap.w 11) 9 = false) ∧ (s.enterTray c = (u, .inr (m, lba))) ∧ (v = u.putCmd serial { c with tray := some m })) ∧
    (∃ (serial : Nat) (c : Cmd) (n : Ns) (s : State), (s.cmd? serial = some c) ∧ (c.verdict = none) ∧ (c.orphan = false) ∧ (c.whole = true) ∧ (s.locked serial c = true) ∧ (s.cmdOp c = some .store) ∧ (s.ns? c.cap.nsid = some n) ∧ (bitOf (c.cap.w 11) 8 = true) ∧ (s.hasKey c.cap.nsid c.cap = false)) ∧
    (∃ (serial : Nat) (c : Cmd) (n : Ns) (at_ : Option Nat) (l : List Nat) (t : TrayEnt) (s : State), (s.cmd? serial = some c) ∧ (c.verdict = none) ∧ (c.orphan = false) ∧ (c.whole = true) ∧ (s.locked serial c = true) ∧ (s.cmdOp c = some .retrieve) ∧ (s.ns? c.cap.nsid = some n) ∧ (s.trayValue c.cap.nsid c.cap = some t) ∧ (s.office.unreadable.contains (keyMark (kvKey c.cap.nsid t.keyLen t.key), 0) = false) ∧ (l = s.bagRead t.bags 0 t.count)) ∧
    (∃ (serial : Nat) (c : Cmd) (n : Ns) (a : Nat) (l ps : List Nat) (e : KvEntry) (s : State), (s.cmd? serial = some c) ∧ (c.verdict = none) ∧ (c.orphan = false) ∧ (c.whole = true) ∧ (s.locked serial c = true) ∧ (s.cmdOp c = some .retrieve) ∧ (s.ns? c.cap.nsid = some n) ∧ (s.trayValue c.cap.nsid c.cap = none) ∧ (sGet? s.host.kv (kvKey c.cap.nsid c.cap.keyLen c.cap.keyNat) = some e) ∧ (ps = (if e.bundled = true then [e.lpn] else (List.range (runParcels e.len)).map (e.lpn + ·))) ∧ ((ps.any fun l => (List.range 64).any fun k => s.sectorLost serial l k) = false) ∧ (s.office.unreadable = []) ∧ (l = (s.bytes a e.len).map (·.toNat))) ∧
    (∃ (serial : Nat) (c : Cmd) (n : Ns) (at_ : Option Nat) (s : State), (s.cmd? serial = some c) ∧ (c.verdict = none) ∧ (c.orphan = false) ∧ (c.whole = true) ∧ (s.locked serial c = true) ∧ (s.cmdOp c = some .retrieve) ∧ (s.ns? c.cap.nsid = some n) ∧ (s.hasKey c.cap.nsid c.cap = false)) ∧
    (∃ (serial : Nat) (c : Cmd) (n : Ns) (s : State), (s.cmd? serial = some c) ∧ (c.verdict = none) ∧ (c.orphan = false) ∧ (c.whole = true) ∧ (s.locked serial c = true) ∧ (s.cmdOp c = some .list) ∧ (s.ns? c.cap.nsid = some n) ∧ (s.keysOf c.cap.nsid = [])) ∧
    (∃ (serial : Nat) (c : Cmd) (n : Ns) (key : Nat) (old : List (Nat × Nat × Nat)) (s u v w : State), (s.cmd? serial = some c) ∧ (c.verdict = none) ∧ (c.orphan = false) ∧ (c.whole = true) ∧ (s.locked serial c = true) ∧ (s.cmdOp c = some .delete) ∧ (s.ns? c.cap.nsid = some n) ∧ (key = kvKey c.cap.nsid c.cap.keyLen c.cap.keyNat) ∧ (s.hasKey c.cap.nsid c.cap = true) ∧ (u = s.trayDrop fun t => t.kind == .value && t.nsid == c.cap.nsid && t.key == c.cap.keyNat && t.keyLen == c.cap.keyLen) ∧ (v = u.putOffice { u.office with bundles := u.office.bundles.map fun b => if b.placed then b else { b with values := b.values.filter fun v => v.1 != key } }) ∧ (old = s.freeOld key) ∧ (w = (v.forgetKey key).unmapAll (old.map (·.1)) 0x05)) ∧
    (∃ (serial : Nat) (c : Cmd) (n : Ns) (s : State), (s.cmd? serial = some c) ∧ (c.verdict = none) ∧ (c.orphan = false) ∧ (c.whole = true) ∧ (s.locked serial c = true) ∧ (s.cmdOp c = some .delete) ∧ (s.ns? c.cap.nsid = some n) ∧ (s.hasKey c.cap.nsid c.cap = false)) ∧
    (∃ (serial : Nat) (c : Cmd) (n : Ns) (s : State), (s.cmd? serial = some c) ∧ (c.verdict = none) ∧ (c.orphan = false) ∧ (c.whole = true) ∧ (s.locked serial c = true) ∧ (s.cmdOp c = some .exist) ∧ (s.ns? c.cap.nsid = some n)) :=
  ⟨⟨1, (cmdOf (capOf 121 0 [0, 0, 0, 3])), nsOf 2, 0, (hostState 0 2 1 (cmdOf (capOf 121 0 [0, 0, 0, 3]))), by decide +kernel⟩,
    ⟨1, (cmdOf (capOf 121 0 [0, 0, 0, 3])), { nsOf 2 with zones := [(0, { HZone.fresh with state := .full })] }, 0, (hostState 0 2 1 (cmdOf (capOf 121 0 [0, 0, 0, 3]))).putNs 1 { nsOf 2 with zones := [(0, { HZone.fresh with state := .full })] }, by decide +kernel⟩,
    ⟨1, cmdOf (capOf 0x79 0 [65536, 0, 0, 3]), fullNs, 1, .tooManyActive, (hostState 0 2 1 (cmdOf (capOf 121 0 [65536, 0, 0, 3]))).putNs 1 fullNs, by decide +kernel⟩,
    ⟨1, (cmdOf (capOf 121 0 [0, 0, 0, 1])), { nsOf 2 with zones := [(0, { HZone.fresh with state := .explicitOpen })] }, 0, (hostState 0 2 1 (cmdOf (capOf 121 0 [0, 0, 0, 1]))).putNs 1 { nsOf 2 with zones := [(0, { HZone.fresh with state := .explicitOpen })] }, by decide +kernel⟩,
    ⟨1, (cmdOf (capOf 121 0 [0, 0, 0, 2])), nsOf 2, 0, (hostState 0 2 1 (cmdOf (capOf 121 0 [0, 0, 0, 2]))), by decide +kernel⟩,
    ⟨1, (cmdOf (capOf 121 0 [0, 0, 0, 4])), nsOf 2, 0, (hostState 0 2 1 (cmdOf (capOf 121 0 [0, 0, 0, 4]))), ((hostState 0 2 1 (cmdOf (capOf 121 0 [0, 0, 0, 4]))).trayForget 1 (65536 * 0) 65536).unmapAll ((List.range 1024).map fun i => (nsOf 2).lpn + 1024 * 0 + i) 0x06, (((hostState 0 2 1 (cmdOf (capOf 121 0 [0, 0, 0, 4]))).trayForget 1 (65536 * 0) 65536).unmapAll ((List.range 1024).map fun i => (nsOf 2).lpn + 1024 * 0 + i) 0x06).putZone 1 0 HZone.fresh, by (iterate 10 refine ⟨by decide +kernel, ?_⟩); (refine ⟨rfl, ?_⟩); (refine ⟨by decide +kernel, ?_⟩); exact rfl⟩,
    ⟨1, (cmdOf (capOf 122 0 [0, 0, 31, 0])), nsOf 2, [0, 1], (hostState 0 2 1 (cmdOf (capOf 122 0 [0, 0, 31, 0]))), by decide +kernel⟩,
    ⟨1, (cmdOf (capOf 1 0 [0, 1])), nsOf 1, 2, 0, (hostState 0 1 1 (cmdOf (capOf 1 0 [0, 1]))), ((hostState 0 1 1 (cmdOf (capOf 1 0 [0, 1]))).enterTray (cmdOf (capOf 1 0 [0, 1]))).1, ((hostState 0 1 1 (cmdOf (capOf 1 0 [0, 1]))).enterTray (cmdOf (capOf 1 0 [0, 1]))).1.putCmd 1 { cmdOf (capOf 1 0 [0, 1]) with tray := some 2 }, by decide +kernel⟩,
    ⟨1, (cmdOf (capOf 1 0 [0, 257])), nsOf 1, (hostState 0 1 1 (cmdOf (capOf 1 0 [0, 257]))), by decide +kernel⟩,
    ⟨1, (cmdOf (capOf 2 0 [0, 1])), nsOf 1, none, [], ⟨0, .value, 1, 0, 0, 0, 1, [], [], true, []⟩, ((hostState 0 1 1 (cmdOf (capOf 2 0 [0, 1]))).putHost { (hostState 0 1 1 (cmdOf (capOf 2 0 [0, 1]))).host with tray := [⟨0, .value, 1, 0, 0, 0, 1, [], [], true, []⟩] }), by decide +kernel⟩,
    ⟨1, (cmdOf (capOf 2 0 [0, 1])), nsOf 1, 0, [0], [0], kv0, kvState (cmdOf (capOf 2 0 [0, 1])), by decide +kernel⟩,
    ⟨1, (cmdOf (capOf 2 0 [0, 1])), nsOf 1, none, (hostState 0 1 1 (cmdOf (capOf 2 0 [0, 1]))), by decide +kernel⟩,
    ⟨1, (cmdOf (capOf 6 0 [0, 1])), nsOf 1, (hostState 0 1 1 (cmdOf (capOf 6 0 [0, 1]))), by decide +kernel⟩,
    ⟨1, cmdOf (capOf 16 0 [0, 1]), nsOf 1, kvKey 1 1 0, [], deleteState, (deleteState.trayDrop fun t => t.kind == .value && t.nsid == 1 && t.key == (capOf 16 0 [0, 1]).keyNat && t.keyLen == 1), ((deleteState.trayDrop fun t => t.kind == .value && t.nsid == 1 && t.key == (capOf 16 0 [0, 1]).keyNat && t.keyLen == 1).putOffice { (deleteState.trayDrop fun t => t.kind == .value && t.nsid == 1 && t.key == (capOf 16 0 [0, 1]).keyNat && t.keyLen == 1).office with bundles := (deleteState.trayDrop fun t => t.kind == .value && t.nsid == 1 && t.key == (capOf 16 0 [0, 1]).keyNat && t.keyLen == 1).office.bundles.map fun b => if b.placed then b else { b with values := b.values.filter fun v => v.1 != kvKey 1 1 0 } }), ((deleteState.trayDrop fun t => t.kind == .value && t.nsid == 1 && t.key == (capOf 16 0 [0, 1]).keyNat && t.keyLen == 1).putOffice { (deleteState.trayDrop fun t => t.kind == .value && t.nsid == 1 && t.key == (capOf 16 0 [0, 1]).keyNat && t.keyLen == 1).office with bundles := (deleteState.trayDrop fun t => t.kind == .value && t.nsid == 1 && t.key == (capOf 16 0 [0, 1]).keyNat && t.keyLen == 1).office.bundles.map fun b => if b.placed then b else { b with values := b.values.filter fun v => v.1 != kvKey 1 1 0 } }).unmapAll [] 0x05, by decide +kernel⟩,
    ⟨1, (cmdOf (capOf 16 0 [0, 1])), nsOf 1, (hostState 0 1 1 (cmdOf (capOf 16 0 [0, 1]))), by decide +kernel⟩,
    ⟨1, (cmdOf (capOf 20 0 [0, 1])), nsOf 1, (hostState 0 1 1 (cmdOf (capOf 20 0 [0, 1]))), by decide +kernel⟩⟩

/-- A state and operands that meet the hypotheses of StepTakesTheFront, clause by clause. -/
theorem witness_StepTakesTheFront :
    (∃ (c : Instr) (l : List Instr) (s : State), (s.pending = c :: l)) ∧
    (∃ (s : State), (s.pending = [])) :=
  ⟨⟨.sealCheckDone, [], { s0 with pending := [.sealCheckDone] }, by decide +kernel⟩,
    ⟨s0, by decide +kernel⟩⟩

/-- A state and operands that meet the hypotheses of StepKeepsTheInvariant, clause by clause. -/
theorem witness_StepKeepsTheInvariant :
    (∃ (s t : State), (s.Inv) ∧ (step s = .next t)) :=
  ⟨State.reset, State.reset, ⟨.nil, ⟨.nil, by simp [State.reset]⟩, ⟨.nil, by simp [State.reset]⟩, by simp [State.reset]⟩, by rfl⟩

/-- A state and operands that meet the hypotheses of EveryCommandTouchesOnly, clause by clause. -/
theorem witness_EveryCommandTouchesOnly :
    (∃ (c : Instr) (s t : State), (exec c s = .next t)) :=
  ⟨.sealCheckDone, s0, s0, by rfl⟩

/-- A state and operands that meet the hypotheses of HiddenStateIsKept, clause by clause. -/
theorem witness_HiddenStateIsKept :
    (∃ (c : Instr) (s t : State), (exec c s = .next t)) ∧
    (∃ (c : Instr) (s t : State), (exec c s = .next t) ∧ ((∀ v ac fit, c ≠ .mainsApplied v ac fit))) ∧
    (∃ (c : Instr) (s t : State), (exec c s = .next t) ∧ ((∀ f, c ≠ .tickBoundary f))) ∧
    (∃ (c : Instr) (s t : State), (exec c s = .next t) ∧ ((∀ m f, c ≠ .driveBusValid m f)) ∧ ((∀ f, c ≠ .switchedDomainsRestart f)) ∧ ((∀ f, c ≠ .thermalRestart f)) ∧ ((∀ p, c ≠ .presentNAssert p))) ∧
    (∃ (c : Instr) (s t : State), (exec c s = .next t) ∧ ((∀ k d f e, c ≠ .nandProgram k d f e)) ∧ ((∀ k d f e, c ≠ .nandErase k d f e))) :=
  ⟨⟨.sealCheckDone, s0, s0, by rfl⟩,
    ⟨.sealCheckDone, s0, s0, by rfl, by intros; simp⟩,
    ⟨.sealCheckDone, s0, s0, by rfl, by intros; simp⟩,
    ⟨.sealCheckDone, s0, s0, by rfl, by intros; simp, by intros; simp, by intros; simp, by intros; simp⟩,
    ⟨.sealCheckDone, s0, s0, by rfl, by intros; simp, by intros; simp⟩⟩

/-- A state and operands that meet the hypotheses of CourierImageLaidOut, clause by clause. -/
theorem witness_CourierImageLaidOut :
    (∃ (s : State) (a w k : Nat), (s.get Reg.CRE_STATUS_STATE = 1) ∧ (a = s.get Reg.CRE_LOAD_LO_ADDR + 2 ^ 32 * s.get Reg.CRE_LOAD_HI_ADDR) ∧ (w < 8192) ∧ (k < 24)) ∧
    (∃ (s : State) (a w : Nat), (s.get Reg.CRE_STATUS_STATE = 1) ∧ (a = s.get Reg.CRE_LOAD_LO_ADDR + 2 ^ 32 * s.get Reg.CRE_LOAD_HI_ADDR) ∧ (w < 8192) ∧ (bitsOf (s.dram (a + 512 + 24 * w) 24) 52 32 ≠ 0)) ∧
    (∃ (s : State) (a : Nat), (s.get Reg.CRE_STATUS_STATE = 1) ∧ (a = s.get Reg.CRE_LOAD_LO_ADDR + 2 ^ 32 * s.get Reg.CRE_LOAD_HI_ADDR) ∧ ((∀ w, w < 8192 → bitsOf (s.dram (a + 512 + 24 * w) 24) 52 32 = 0))) :=
  ⟨⟨s0.set Reg.CRE_STATUS_STATE 1, 0, 8191, 23, by decide +kernel⟩,
    ⟨{ s0.set Reg.CRE_STATUS_STATE 1 with cells := [(512 + 24 * 8191 + 4, 1)] }, 0, 8191, by decide +kernel⟩,
    ⟨s0.set Reg.CRE_STATUS_STATE 1, 0, by decide +kernel, by decide +kernel, (fun w _ => by rw [dram_empty _ _ _ rfl]; rfl)⟩⟩

/-- A state and operands that meet the hypotheses of CapturesAreMerged, clause by clause. -/
theorem witness_CapturesAreMerged :
    (∃ (r : Report) (s : State), (r.cls ≠ 2) ∧ ((∃ p ∈ s.desk.recs, p.1 < 64 ∧ p.2.source = r.source ∧ p.2.code = r.code ∧ p.2.level = r.level ∧ p.2.st ≠ 3 ∧ s.ms - p.2.lastMs ≤ 10 * s.get Reg.FLT_TMO_MERGE_MS))) ∧
    (∃ (r : Report) (s : State) (k : Nat), ((∀ p ∈ s.desk.recs, p.1 < 64 → ¬ (p.2.source = r.source ∧ p.2.code = r.code ∧ p.2.level = r.level ∧ p.2.st ≠ 3 ∧ s.ms - p.2.lastMs ≤ 10 * s.get Reg.FLT_TMO_MERGE_MS))) ∧ (s.freePlace = some k)) ∧
    (∃ (src code addr info : Nat) (th : Bool) (s t : State), (s.desk.grave = none) ∧ (s.get Reg.THM_STATUS_STATE ≠ 4) ∧ (t = (s.graveCapture src code addr info th).1)) :=
  ⟨⟨⟨0, 2, 1, 0, 0, 0, 7, false⟩, s0.event 0 2 0 0, by decide +kernel, by decide +kernel⟩,
    ⟨⟨0, 2, 1, 0, 0, 0, 7, false⟩, s0, 0, by decide +kernel, by decide +kernel⟩,
    ⟨0, 0, 0, 0, true, s0, (s0.graveCapture 0 0 0 0 true).1, by decide +kernel⟩⟩

/-- A state and operands that meet the hypotheses of DramReadsWhatWasWritten, clause by clause. -/
theorem witness_DramReadsWhatWasWritten :
    (∃ (a n v : Nat) (s : State), (a + n ≤ dramSize)) ∧
    (∃ (a n v b : Nat) (s : State), ((b < a ∨ a + n ≤ b))) ∧
    (∃ (a k : Nat) (l : List Byte) (s : State), (k < l.length) ∧ (a + k < dramSize)) ∧
    (∃ (a b : Nat) (l : List Byte) (s : State), ((b < a ∨ a + l.length ≤ b ∨ dramSize ≤ b))) :=
  ⟨⟨0, 0, 0, s0, by decide +kernel⟩,
    ⟨0, 0, 0, 0, s0, by decide +kernel⟩,
    ⟨0, 0, [5], s0, by decide +kernel⟩,
    ⟨0, 1, [5], s0, by decide +kernel⟩⟩

end Sys2Proof.Tests
end

section
/-!
SUPPORT. What a step does, by the front of the queue; the obligations on the step are settled by it.
-/
namespace Sys2Proof.Machine

theorem step_of_pending_cons {c : Instr} {l : List Instr} {s : State} (h : s.pending = c :: l) : step s = exec c (s.withQueue l) := by
  simp only [step, h]

theorem step_of_pending_nil {s : State} (h : s.pending = []) : step s = .next s := by
  simp only [step, h]

/-- Settles O52: both clauses are the two cases of the queue. -/
theorem stepTakesTheFront : Obligations.StepTakesTheFront :=
  ⟨fun _ _ _ => step_of_pending_cons, fun _ => step_of_pending_nil⟩

end Sys2Proof.Machine
end

section
/-!
The forms of Sys2Proof/Safety.lean along the commands (O54): each meaning keeps them, by one lemma of Sys2Proof/Laws/Forms.lean for each
operation that it calls; the arms of the dispatch are then put together. A short meaning has its proof in its arm.
-/
namespace Sys2Proof.Machine

/-- The next state that an outcome answers, where it answers one, has the forms. -/
def InvNext (o : Host.Outcome State Fault Refusal) : Prop := ∀ t, o = .next t → t.Inv

/-- An update of any part of the state but the four that have a form keeps the forms. -/
theorem inv_update {s : State} {v ck pn b st ti ps en bk de ld o eg lo pm tk sp mo ca bo la dc rc kx bg me of cn ho pr he pw} (h : s.Inv) :
    State.Inv ⟨v, s.regs, ck, pn, b, st, ti, s.cells, s.nand, ps, en, bk, de, ld, o, s.pending, eg, lo, pm, tk, sp, mo, ca, bo, la, dc, rc,
      kx, bg, me, of, cn, ho, pr, he, pw⟩ := h

/-- A step that is taken in one case alone: the state before it has the forms, and the step keeps them. -/
theorem inv_iteThen {c : Prop} [Decidable c] {a b : State} (hb : b.Inv) (ha : b.Inv → a.Inv) : (if c then a else b).Inv :=
  inv_ite (ha hb) hb

theorem inv_iteElse {c : Prop} [Decidable c] {a b : State} (ha : a.Inv) (hb : a.Inv → b.Inv) : (if c then a else b).Inv :=
  inv_ite ha (hb ha)

theorem invNext_ok {s : State} (h : s.Inv) : InvNext (ok s) := by
  intro t ht
  cases ht
  exact h

theorem invNext_fault {r : Fault} : InvNext (.fault r) := by
  intro t ht
  cases ht

theorem invNext_ite {c : Prop} [Decidable c] {a b : Host.Outcome State Fault Refusal} (ha : InvNext a) (hb : InvNext b) :
    InvNext (if c then a else b) := by
  split <;> assumption

/-! ### Registers, power and start -/

theorem invNext_execRegisterWrite {i : Initiator} {a size : Nat} {v : Option Nat} {s : State} (hs : s.Inv) :
    InvNext (execRegisterWrite i a size v s) := by
  unfold execRegisterWrite
  split
  · exact invNext_ok (inv_access hs fun _ ht => inv_readWord ht)
  · refine invNext_ite ?_ (invNext_ok (inv_access hs fun _ ht => inv_liveWrite ht))
    exact invNext_ite (invNext_ok (inv_stageWrite hs)) (invNext_ok (inv_access hs fun _ ht => inv_stageWrite ht))

theorem invNext_execMainsApplied {volts : Nat} {ac : Bool} {fit : Option Fitment} {s : State} (hs : s.Inv) :
    InvNext (execMainsApplied volts ac fit s) :=
  invNext_ite invNext_fault (invNext_ite (invNext_ok hs) (invNext_ok (inv_update (inv_powerLost (by
    split
    · exact inv_update hs
    · exact hs)))))

theorem invNext_execAcDcModeChoice {crossing : Bool} {volts : Nat} {s : State} (hs : s.Inv) :
    InvNext (execAcDcModeChoice crossing volts s) :=
  invNext_ite (invNext_ok hs) (invNext_ite (invNext_ok (inv_update (inv_set hs))) (invNext_ite (invNext_ok (inv_update (inv_set hs)))
      (invNext_ok hs)))

theorem invNext_execDriveBusValid {mv : Nat} {facts : StartFacts} {s : State} (hs : s.Inv) : InvNext (execDriveBusValid mv facts s) :=
  invNext_ite invNext_fault (invNext_ite (invNext_ok hs) (invNext_ite (invNext_ok (inv_update (inv_set hs))) (invNext_ok (inv_startDrive
      (inv_set (inv_update (inv_set hs)))))))

theorem invNext_execAddressBound {p : Prt} {v6 : Bool} {addr : Nat} {s : State} (hs : s.Inv) :
    InvNext (execAddressBound p v6 addr s) := by
  unfold execAddressBound
  refine invNext_ite (invNext_ok hs) ?_
  refine invNext_ite ?_ (invNext_ite (invNext_ok (inv_putPort hs)) (invNext_ok hs))
  exact invNext_ite (invNext_ok (inv_putPort hs)) (invNext_ite (invNext_ok (inv_putPort hs)) (invNext_ok hs))

theorem invNext_execRecoveryMet {bulk heldMs : Nat} {present : Bool} {s : State} (hs : s.Inv) :
    InvNext (execRecoveryMet bulk heldMs present s) := by
  unfold execRecoveryMet
  refine invNext_ite (invNext_ok hs) ?_
  refine invNext_ite ?_ ?_
  · exact invNext_ok (inv_ledgerPower (inv_iteElse (inv_set (inv_inc (inv_set hs))) inv_set))
  · exact invNext_ite (invNext_ok (inv_update (inv_set hs))) (invNext_ite (invNext_ok (inv_brownout hs)) (invNext_ok hs))

theorem invNext_execPowerLossDeclared {bulk mv : Nat} {s : State} (hs : s.Inv) : InvNext (execPowerLossDeclared bulk mv s) := by
  unfold execPowerLossDeclared
  refine invNext_ite ?_ (invNext_ok hs)
  exact invNext_ok (inv_latchedAfterDeclaration (inv_ledgerPower (inv_iteElse (inv_foldl (inv_emUnloadAll (inv_update (inv_set (inv_inc
      (inv_set hs))))) fun _ _ ht => inv_answer ht) (fun h => inv_coast (inv_notAtSpeed h)))))

theorem invNext_execNvmSubsystemReset {bootMs : Nat} {s : State} (hs : s.Inv) : InvNext (execNvmSubsystemReset bootMs s) := by
  unfold execNvmSubsystemReset
  split
  · exact invNext_ok hs
  · refine invNext_ite (invNext_ok hs) ?_
    dsimp only
    split
    · exact invNext_ok (inv_enterRecovery (inv_putHost (inv_noteRejects (inv_abandonWork (inv_resetProtocol (inv_ite (inv_raiseEvent hs)
          hs))))))
    · exact invNext_ok (inv_noteStart (inv_setAll (inv_countTrial (inv_putHost (inv_noteRejects (inv_abandonWork (inv_resetProtocol
          (inv_ite (inv_raiseEvent hs) hs))))))))

theorem invNext_execGraveFaultPowerCycle {s : State} (hs : s.Inv) : InvNext (execGraveFaultPowerCycle s) := by
  unfold execGraveFaultPowerCycle
  split
  · exact invNext_ite (invNext_ok (inv_update (inv_pdAllOff hs))) (invNext_ok hs)
  · exact invNext_ite (invNext_ok hs) (invNext_ok (inv_update (inv_iteThen (inv_pdAllOff hs) inv_set)))

theorem invNext_execSwitchedDomainsRestart {facts : StartFacts} {s : State} (hs : s.Inv) :
    InvNext (execSwitchedDomainsRestart facts s) := by
  unfold execSwitchedDomainsRestart
  split
  · exact invNext_ok hs
  · exact invNext_ite (invNext_ok (inv_restart hs)) (invNext_ok hs)

theorem invNext_execChopTest {i : Initiator} {passes : Bool} {s : State} (hs : s.Inv) : InvNext (execChopTest i passes s) :=
  invNext_ok (inv_access hs fun _ ht => inv_ite (inv_ignored ht) (inv_update (inv_iteElse (inv_inc ht) inv_chopFault)))

theorem invNext_execPdCtrlWrite {i : Initiator} {v : Nat} {s : State} (hs : s.Inv) : InvNext (execPdCtrlWrite i v s) :=
  invNext_ok (inv_access hs fun _ ht => inv_ite (inv_update (inv_pdSwitching (inv_set ht))) (inv_ignored (inv_foldl (inv_pdSwitching
      (inv_set ht)) fun _ _ hu => inv_setBit hu)))

theorem invNext_execPdSwitchComplete {n : Nat} {s : State} (hs : s.Inv) : InvNext (execPdSwitchComplete n s) :=
  invNext_ite (invNext_ok hs) (invNext_ok (inv_pdSwitching (inv_ite (inv_freshKeys (inv_pdSwitchOn hs)) (inv_pdSwitchOff hs))))

theorem invNext_execStagedCopyWrite {i : Initiator} {a size v : Nat} {s : State} (hs : s.Inv) :
    InvNext (execStagedCopyWrite i a size v s) :=
  invNext_ite (invNext_ok hs) (invNext_ite (invNext_ok (inv_stageWrite hs)) (invNext_ok (inv_access hs fun _ ht => inv_stageWrite ht)))

theorem invNext_execSealCheckDone {s : State} (hs : s.Inv) : InvNext (execSealCheckDone s) :=
  invNext_ite (invNext_ite (invNext_ok (inv_set (inv_set hs))) (invNext_ok (inv_rejectSet hs))) (invNext_ok hs)

theorem invNext_execEnvelopePost {core nsToNext : Nat} {s : State} (hs : s.Inv) : InvNext (execEnvelopePost core nsToNext s) :=
  invNext_ok (inv_sealCmd hs fun _ ht => inv_ite (inv_rejectSet ht) (by
    split
    · exact inv_set ht
    · exact inv_set (inv_update ht)))

theorem invNext_execDeviceRecordRewrite {steps : Nat} {s : State} (hs : s.Inv) : InvNext (execDeviceRecordRewrite steps s) := by
  unfold execDeviceRecordRewrite
  split
  · exact invNext_ok hs
  · exact invNext_ite (invNext_ok hs) (invNext_ite (invNext_ok (inv_writeDev hs)) (invNext_ok (inv_update hs)))

/-! ### The tick, the mailboxes and the postmark -/

theorem invNext_execTickBoundary {f : TickFacts} {s : State} (hs : s.Inv) : InvNext (execTickBoundary f s) := by
  unfold execTickBoundary
  refine invNext_ite invNext_fault ?_
  exact invNext_ok (inv_watchCritical (inv_ite (inv_unitsTick (inv_foldl (inv_phcDrain (inv_advance hs)) fun _ _ ht => inv_noteRow ht))
      (inv_powerTick (inv_foldl (inv_phcDrain (inv_advance hs)) fun _ _ ht => inv_noteRow ht))) fun _ ht => inv_heatTick (inv_frankTick
      ht))

theorem invNext_execMailboxPost {core loop : Nat} {words : List Nat} {s : State} (hs : s.Inv) :
    InvNext (execMailboxPost core loop words s) :=
  invNext_ite (invNext_ok (inv_busError hs)) (invNext_ite (invNext_ok (inv_update hs)) (invNext_ok (inv_update (inv_putMail hs))))

theorem invNext_execMailboxDeliver {loop afterNs : Nat} {s : State} (hs : s.Inv) : InvNext (execMailboxDeliver loop afterNs s) := by
  unfold execMailboxDeliver
  dsimp only
  split
  · exact invNext_ok hs
  · exact invNext_ok (inv_putMail hs)

theorem invNext_execFlyingLimitCrossed {rising : Bool} {s : State} (hs : s.Inv) : InvNext (execFlyingLimitCrossed rising s) :=
  invNext_ite (invNext_ok (inv_loadHeads (inv_update hs))) (invNext_ok (inv_pmkRefresh (inv_setEnergised (inv_setEnergised (inv_update
      hs)))))

theorem invNext_execPmkStreamValid {stream amp : Nat} {a b : IndexFind} {s : State} (hs : s.Inv) :
    InvNext (execPmkStreamValid stream amp a b s) :=
  invNext_ite (invNext_ite (invNext_ok (inv_set (inv_update (inv_pmkRefresh (inv_update (inv_setStream hs)))))) (invNext_ok
      (inv_pmkRefresh (inv_update (inv_setStream hs))))) (invNext_ok hs)

theorem invNext_execPesTimeout {x : Act} {s : State} (hs : s.Inv) : InvNext (execPesTimeout x s) := by
  unfold execPesTimeout
  refine invNext_ite ?_ (invNext_ok hs)
  refine invNext_ite (invNext_ok (inv_wedgeDone hs)) ?_
  exact invNext_ok (inv_scheduleIdle (inv_ready (inv_iteElse (inv_putLp (inv_wedgeDone hs)) (fun h => inv_servoCommand (inv_setInhibit
      h)))))

/-! ### The courier engine -/

theorem invNext_execSegmentForcedEnd {s : State} (hs : s.Inv) : InvNext (execSegmentForcedEnd s) := by
  unfold execSegmentForcedEnd
  split
  · refine invNext_ite (invNext_ok (inv_update (inv_commitX (inv_set hs)))) ?_
    exact invNext_ok (inv_schedule (inv_update (inv_commitX (inv_set hs))))
  · exact invNext_ok hs

theorem invNext_execSliceOverrun {s : State} (hs : s.Inv) : InvNext (execSliceOverrun s) := by
  unfold execSliceOverrun
  split
  · exact invNext_ok (inv_leave (inv_sliceFail (inv_noteCycles (inv_setOverrun (inv_putCtx hs)))))
  · exact invNext_ok hs

theorem invNext_execCreLoadDone {s : State} (hs : s.Inv) : InvNext (execCreLoadDone s) :=
  invNext_ite (invNext_ite (invNext_ok (inv_set (inv_set (inv_update (inv_set (inv_update hs)))))) (invNext_ok (inv_set (inv_set (inv_set
      (inv_update hs)))))) (invNext_ok hs)

theorem invNext_execCreRun {i : Initiator} {s : State} (hs : s.Inv) : InvNext (execCreRun i s) :=
  invNext_ok (inv_access hs fun _ ht => inv_ite (inv_ignored (inv_set ht)) (inv_ite (inv_update (inv_update (inv_set ht))) (inv_update
      (inv_update (inv_set ht)))))

theorem invNext_execCreStop {i : Initiator} {s : State} (hs : s.Inv) : InvNext (execCreStop i s) :=
  invNext_ok (inv_access hs fun _ ht => inv_ite (inv_ignored ht) (inv_ite (inv_update (inv_update (inv_set ht))) (inv_update (inv_update
      (inv_set ht)))))

theorem invNext_execCreDmDataAccess {i : Initiator} {write : Option Nat} {s : State} (hs : s.Inv) :
    InvNext (execCreDmDataAccess i write s) := by
  refine invNext_ok (inv_access hs fun _ ht => ?_)
  split
  · exact inv_update (inv_set (inv_sramRead ht))
  · exact inv_ite (inv_ignored ht) (inv_update (inv_set (inv_injWrite (inv_update ht))))

/-! ### Lanes, receipts and recovery -/

theorem invNext_execLaneQtailWrite {i : Initiator} {x : Act} {tail : Nat} {s : State} (hs : s.Inv) :
    InvNext (execLaneQtailWrite i x tail s) :=
  invNext_ok (inv_access hs fun _ ht => inv_ite (inv_ignored ht) (inv_ite (inv_ignored (inv_set ht)) (inv_update (inv_set ht))))

theorem invNext_execSectorStart {x : Act} {sector : Nat} {dataReady dataError : Bool} {sig : List Stretch} {s : State} (hs : s.Inv) :
    InvNext (execSectorStart x sector dataReady dataError sig s) := by
  unfold execSectorStart
  refine invNext_ite (invNext_ok hs) ?_
  dsimp only
  split
  · exact invNext_ok (inv_endSector (inv_set hs))
  · refine invNext_ite (invNext_ok (inv_checkMedia (inv_endSector (inv_set hs)))) ?_
    refine invNext_ite (invNext_ok (inv_endSector (inv_set hs))) ?_
    refine invNext_ite ?_ ?_
    · exact invNext_ok (inv_iteElse (inv_endSector (inv_set hs)) inv_set)
    · split
      · exact invNext_ok (inv_takeSector (inv_endSector (inv_set hs)))
      · split
        · refine invNext_ite ?_ ?_
          · exact invNext_ok (inv_takeSector (inv_checkMedia (inv_measureOn (inv_endSector (inv_set hs)))))
          · exact invNext_ok (inv_checkMedia (inv_measureOn (inv_endSector (inv_set hs))))
        · exact invNext_ok (inv_checkMedia (inv_measureOn (inv_endSector (inv_set hs))))

theorem invNext_execHeaterLeadElapsed {x : Act} {us : Nat} {s : State} (hs : s.Inv) : InvNext (execHeaterLeadElapsed x us s) := by
  unfold execHeaterLeadElapsed
  split
  · exact invNext_ite (invNext_ok (inv_iteThen (inv_mapOp hs) inv_set)) (invNext_ok hs)
  · exact invNext_ok hs

theorem invNext_execWriteInhibitReceived {x : Act} {lastFourT : Bool} {s : State} (hs : s.Inv) :
    InvNext (execWriteInhibitReceived x lastFourT s) := by
  unfold execWriteInhibitReceived
  split
  · refine invNext_ite ?_ (invNext_ok hs)
    refine invNext_ok (inv_checkMedia (inv_endOp ?_))
    split
    · exact inv_ite (inv_set (inv_putLane hs)) (inv_decide (inv_putLane (inv_set (inv_putLane hs))))
    · exact inv_set (inv_putLane hs)
  · exact invNext_ok hs

theorem invNext_execFirstPassDone {x : Act} {sector half : Nat} {busErr : Bool} {s : State} (hs : s.Inv) :
    InvNext (execFirstPassDone x sector half busErr s) := by
  unfold execFirstPassDone
  split
  · exact invNext_ok hs
  · dsimp only
    split
    · exact invNext_ok (inv_decodeOn (inv_passedBy hs))
    · split
      · exact invNext_ok (inv_decodeOn (inv_passedBy hs))
      · split
        · exact invNext_ok (inv_decodeOn (inv_passedBy hs))
        · exact invNext_ok (inv_handOver (inv_countRead (inv_decodeOn (inv_passedBy hs))))
        · refine invNext_ite ?_ ?_
          · exact invNext_ok (inv_handOver (inv_countRead (inv_decodeOn (inv_passedBy hs))))
          · refine invNext_ite ?_ ?_
            · exact invNext_ok (inv_decide (inv_freeStore (inv_countRead (inv_decodeOn (inv_passedBy hs)))))
            · exact invNext_ok (inv_decide (inv_mirrorServes (inv_deliverTo (inv_freeStore (inv_countRead (inv_decodeOn (inv_passedBy
                  hs)))))))

theorem invNext_execRecoveryStoreCopyDone {x : Act} {sector : Nat} {cmd : Option Nat} {lpn sect : Nat} {s : State} (hs : s.Inv) :
    InvNext (execRecoveryStoreCopyDone x sector cmd lpn sect s) := by
  unfold execRecoveryStoreCopyDone
  split
  · exact invNext_ok (inv_takePlace (inv_freeStore (inv_store hs)))
  · split
    · exact invNext_ite (invNext_ok hs) (invNext_ok (inv_takePlace (inv_putRcv hs)))
    · exact invNext_ok hs
  · exact invNext_ok hs

theorem invNext_execReceiptDecided {x : Act} {sector half : Nat} {s : State} (hs : s.Inv) :
    InvNext (execReceiptDecided x sector half s) := by
  unfold execReceiptDecided
  split
  · exact invNext_ok hs
  · dsimp only
    split
    · exact invNext_ok (inv_iteThen (inv_passedBy hs) inv_decodeOn)
    · refine invNext_ite (invNext_ok (inv_iteThen (inv_passedBy hs) inv_decodeOn)) ?_
      exact invNext_ok (inv_decide (inv_freeStore (inv_ite (inv_inc (inv_setAll (inv_iteThen (inv_passedBy hs) inv_decodeOn)))
          (inv_iteThen (inv_setAll (inv_iteThen (inv_passedBy hs) inv_decodeOn)) inv_inc))))

theorem invNext_execSectorRewrite {x : Act} {k : Nat} {s : State} (hs : s.Inv) : InvNext (execSectorRewrite x k s) := by
  unfold execSectorRewrite
  dsimp only
  split
  · exact invNext_ok hs
  · refine invNext_ite (invNext_ok hs) ?_
    exact invNext_ite (invNext_ok (inv_firmwareOp (inv_putLane hs))) (invNext_ok (inv_relocate hs))

theorem invNext_execLaneOperationComplete {x : Act} {k : Nat} {s : State} (hs : s.Inv) : InvNext (execLaneOperationComplete x k s) := by
  unfold execLaneOperationComplete
  split
  · exact invNext_ok hs
  · refine invNext_ite (invNext_ok hs) ?_
    exact invNext_ok (inv_abortOn (inv_complete (inv_noteMove (inv_putLane (inv_iteThen (inv_noteNotPlaced (inv_writeTaps hs))
        inv_measureSkew)))))

theorem invNext_execHeadEnClear {i : Initiator} {x : Act} {mask : Nat} {s : State} (hs : s.Inv) : InvNext (execHeadEnClear i x mask s) :=
  invNext_ok (inv_access hs fun _ ht => inv_update (by
    split
    · exact inv_iteThen (inv_set ht) inv_endOp
    · exact inv_set ht))

theorem invNext_execZoneEntryCheckDone {x : Act} {k : Nat} {s : State} (hs : s.Inv) : InvNext (execZoneEntryCheckDone x k s) :=
  invNext_ite (invNext_ite (invNext_ok (inv_set (inv_set (inv_putLane hs)))) (invNext_ok (inv_zoneFail (inv_putLane hs)))) (invNext_ok hs)

theorem invNext_execDecoderHalfLoss {half : Nat} {s : State} (hs : s.Inv) : InvNext (execDecoderHalfLoss half s) :=
  invNext_ite (invNext_ok (inv_event (inv_releaseHalf (inv_set (inv_setBit (inv_setHalf hs)))))) (invNext_ok hs)

theorem invNext_execDecoderHalfDisable {i : Initiator} {half : Nat} {s : State} (hs : s.Inv) :
    InvNext (execDecoderHalfDisable i half s) :=
  invNext_ok (inv_access hs fun _ ht => inv_ite (inv_ignored ht) (inv_update (inv_releaseHalf (inv_setHalf (inv_set ht)))))

theorem invNext_execRecoveryJobPost {i : Initiator} {tail : Nat} {s : State} (hs : s.Inv) : InvNext (execRecoveryJobPost i tail s) :=
  invNext_ok (inv_access hs fun _ ht => inv_ite (inv_ignored ht) (inv_update (inv_set (inv_latchJobs ht))))

theorem invNext_execDecodeSampleArea {half : Nat} {s : State} (hs : s.Inv) : InvNext (execDecodeSampleArea half s) :=
  invNext_ite (invNext_ok (inv_runJob hs)) (invNext_ok (inv_runJob (inv_takeJob hs fun _ _ _ _ _ _ _ ht => inv_ite (inv_beginJob ht)
      (inv_jobResult ht))))

theorem invNext_execDecodeRunningSum {half : Nat} {s : State} (hs : s.Inv) : InvNext (execDecodeRunningSum half s) :=
  invNext_ite (invNext_ok (inv_runJob hs)) (invNext_ok (inv_runJob (inv_takeJob hs fun _ _ _ _ _ _ _ ht => inv_beginJob ht)))

theorem invNext_execCancelJob {s : State} (hs : s.Inv) : InvNext (execCancelJob s) := by
  refine invNext_ok (inv_takeJob hs fun _ _ _ _ _ _ _ ht => ?_)
  split
  · exact inv_jobResult ht
  · refine inv_ite (inv_jobResult ht) ?_
    exact inv_jobResult (inv_iteElse (inv_freePlaceRcv (inv_ite (inv_ladderFails ht) ht)) inv_freePlaceRcv)

theorem invNext_execHeldSampleRungsDone {place half : Nat} {s : State} (hs : s.Inv) : InvNext (execHeldSampleRungsDone place half s) := by
  unfold execHeldSampleRungsDone
  split
  · exact invNext_ok hs
  · dsimp only
    split
    · exact invNext_ok (inv_runWork hs)
    · split
      · exact invNext_ite (invNext_ok (inv_heldEnd (inv_runWork hs))) (invNext_ok (inv_runWork hs))
      · exact invNext_ok (inv_runWork hs)

theorem invNext_execEarlyReconstructionStart {place : Nat} {s : State} (hs : s.Inv) : InvNext (execEarlyReconstructionStart place s) := by
  unfold execEarlyReconstructionStart
  split
  · exact invNext_ok hs
  · exact invNext_ite (invNext_ok (inv_putPlace hs)) (invNext_ok hs)

theorem invNext_execLadderTimeLimit {place : Nat} {s : State} (hs : s.Inv) : InvNext (execLadderTimeLimit place s) := by
  unfold execLadderTimeLimit
  split
  · exact invNext_ok hs
  · exact invNext_ite (invNext_ok (inv_toSix hs)) (invNext_ok hs)

theorem invNext_execReallocation {s : State} (hs : s.Inv) : InvNext (execReallocation s) := by
  unfold execReallocation
  refine invNext_ite (invNext_ok hs) ?_
  split
  · exact invNext_ok (inv_moveOn hs)
  · split
    · exact invNext_ok hs
    · refine invNext_ite (invNext_ok (inv_putRcv hs)) ?_
      refine invNext_ite ?_ ?_
      · exact invNext_ite (invNext_ok (inv_moveOp (inv_putRcv hs))) (invNext_ok hs)
      · exact invNext_ite (invNext_ok (inv_ite (inv_moveFromBand (inv_putRcv hs)) hs)) (invNext_ok (inv_putRcv hs))

/-! ### Actuators -/

theorem invNext_execSeek {x : Act} {s : State} (hs : s.Inv) : InvNext (execSeek x s) := by
  unfold execSeek
  split
  · exact invNext_ok hs
  · exact invNext_ok (inv_takeMotion hs)

theorem invNext_execPairWaitExpiry {x : Act} {s : State} (hs : s.Inv) : InvNext (execPairWaitExpiry x s) := by
  unfold execPairWaitExpiry
  dsimp only
  split
  · exact invNext_ite (invNext_ok (inv_approvePair (inv_putLp hs))) (invNext_ok hs)
  · exact invNext_ok hs

theorem invNext_execSeekDone {x : Act} {s : State} (hs : s.Inv) : InvNext (execSeekDone x s) := by
  unfold execSeekDone
  dsimp only
  split
  · refine invNext_ite ?_ (invNext_ok hs)
    exact invNext_ok (inv_runNext (inv_ite (inv_areply (inv_freeSeek (inv_landed hs))) (inv_areply (inv_freeSeek (inv_landed hs)))))
  · exact invNext_ok hs

theorem invNext_execSeekSettleTimeout {x : Act} {sinceArrival : Nat} {s : State} (hs : s.Inv) :
    InvNext (execSeekSettleTimeout x sinceArrival s) := by
  unfold execSeekSettleTimeout
  dsimp only
  split
  · refine invNext_ite ?_ (invNext_ok hs)
    exact invNext_ok (inv_runNext (inv_areply (inv_setInhibit (inv_setMode (inv_putLp (inv_freeSeek (inv_freePartner hs)))))))
  · exact invNext_ok hs

theorem invNext_execHead {x : Act} {s : State} (hs : s.Inv) : InvNext (execHead x s) := by
  unfold execHead
  split
  · exact invNext_ok hs
  · exact invNext_ok (inv_takeMotion hs)

theorem invNext_execHeadSwitchDone {x : Act} {s : State} (hs : s.Inv) : InvNext (execHeadSwitchDone x s) := by
  unfold execHeadSwitchDone
  refine invNext_ite ?_ (invNext_ok hs)
  dsimp only
  split
  · exact invNext_ok (inv_runNext (inv_areply (inv_landed hs)))
  · exact invNext_ok (inv_runNext (inv_landed hs))

theorem invNext_execHeadSwitchTimeout {x : Act} {s : State} (hs : s.Inv) : InvNext (execHeadSwitchTimeout x s) := by
  unfold execHeadSwitchTimeout
  dsimp only
  split
  · exact invNext_ite (invNext_ok (inv_approvePair (inv_putLp hs))) (invNext_ok hs)
  · exact invNext_ok hs

theorem invNext_execOffset {x : Act} {s : State} (hs : s.Inv) : InvNext (execOffset x s) := by
  unfold execOffset
  split
  · exact invNext_ok hs
  · dsimp only
    split
    · exact invNext_ok (inv_areply (inv_discard hs))
    · exact invNext_ok (inv_iteElse (inv_putLp (inv_discard hs)) inv_setInhibit)
    · exact invNext_ok (inv_iteElse (inv_putLp (inv_discard hs)) inv_setInhibit)
    · exact invNext_ok (inv_iteElse (inv_putLp (inv_discard hs)) inv_setInhibit)
    · exact invNext_ok (inv_iteElse (inv_putLp (inv_discard hs)) inv_setInhibit)
    · exact invNext_ok (inv_areply (inv_discard hs))

theorem invNext_execOffsetDone {x : Act} {s : State} (hs : s.Inv) : InvNext (execOffsetDone x s) := by
  unfold execOffsetDone
  dsimp only
  split
  · exact invNext_ite (invNext_ok (inv_areply (inv_setInhibit (inv_putLp hs)))) (invNext_ok hs)
  · exact invNext_ok hs

theorem invNext_execLoad {x : Act} {rCoil : Nat} {s : State} (hs : s.Inv) : InvNext (execLoad x rCoil s) := by
  unfold execLoad
  split
  · exact invNext_ok hs
  · exact invNext_ok (inv_takeMotion hs)

theorem invNext_execLoadLanded {x : Act} {s : State} (hs : s.Inv) : InvNext (execLoadLanded x s) := by
  unfold execLoadLanded
  dsimp only
  split
  · exact invNext_ite (invNext_ok (inv_runNext (inv_areply (inv_landed (inv_set (inv_setRamp hs)))))) (invNext_ok hs)
  · exact invNext_ok hs

theorem invNext_execLoadTimeout {x : Act} {s : State} (hs : s.Inv) : InvNext (execLoadTimeout x s) := by
  unfold execLoadTimeout
  dsimp only
  split
  · exact invNext_ite (invNext_ok (inv_areply (inv_beginUnload hs))) (invNext_ok hs)
  · exact invNext_ok hs

theorem invNext_execUnload {x : Act} {s : State} (hs : s.Inv) : InvNext (execUnload x s) := by
  unfold execUnload
  split
  · exact invNext_ok hs
  · refine invNext_ite (invNext_ok (inv_refuse (inv_discard hs))) ?_
    dsimp only
    split
    · exact invNext_ok (inv_refuse (inv_refuseWaiting (inv_refuseCur (inv_freePartner (inv_discard hs)))))
    · exact invNext_ok (inv_beginUnload (inv_refuseWaiting (inv_refuseCur (inv_freePartner (inv_discard hs)))))

theorem invNext_execUnloadLatched {x : Act} {s : State} (hs : s.Inv) : InvNext (execUnloadLatched x s) :=
  invNext_ite (invNext_ok (inv_runNext (by
    split
    · exact inv_areply (inv_parkLoop hs)
    · exact inv_parkLoop hs))) (invNext_ok hs)

theorem invNext_execRetire {x : Act} {s : State} (hs : s.Inv) : InvNext (execRetire x s) := by
  unfold execRetire
  split
  · exact invNext_ok hs
  · exact invNext_ok (inv_retire (inv_discard hs))

theorem invNext_execCoef {x : Act} {s : State} (hs : s.Inv) : InvNext (execCoef x s) := by
  unfold execCoef
  split
  · exact invNext_ok hs
  · exact invNext_ite (invNext_ok (inv_putLp (inv_discard hs))) (invNext_ok (inv_areply (inv_discard hs)))

theorem invNext_execEmergencyUnload {trigger : Nat} {x : Act} {s : State} (hs : s.Inv) : InvNext (execEmergencyUnload trigger x s) := by
  unfold execEmergencyUnload
  refine invNext_ite (invNext_ok hs) ?_
  refine invNext_ite (invNext_ok (inv_emUnloadAll hs)) ?_
  refine invNext_ite ?_ (invNext_ok (inv_emUnload hs))
  split
  · exact invNext_ok (inv_emUnload (inv_capture (inv_closeRec hs)))
  · exact invNext_ok (inv_emUnload hs)

theorem invNext_execEmUnloadLatched {x : Act} {s : State} (hs : s.Inv) : InvNext (execEmUnloadLatched x s) := by
  unfold execEmUnloadLatched
  dsimp only
  split
  · exact invNext_ok (inv_runNext (inv_latchedAfterDeclaration (inv_areply (inv_parkLoop hs))))
  · exact invNext_ok hs

theorem invNext_execRetractEnd {x : Act} {s : State} (hs : s.Inv) : InvNext (execRetractEnd x s) := by
  unfold execRetractEnd
  refine invNext_ite ?_ (invNext_ok hs)
  extract_lets s₁ s₂ s₃
  have h₂ : s₂.Inv := by
    dsimp only [s₂]
    split
    · exact inv_areply (inv_freeSeek (inv_freePartner (inv_set hs)))
    · exact inv_set hs
  have h₃ : s₃.Inv := by
    dsimp only [s₃]
    split
    · exact inv_areply h₂
    · exact h₂
  exact invNext_ok (inv_latchedAfterDeclaration (inv_parkLoop h₃))

theorem invNext_execPreampFault {x : Act} {status : Nat} {s : State} (hs : s.Inv) : InvNext (execPreampFault x status s) := by
  refine invNext_ite (invNext_ok (inv_areply (inv_putLp ?_))) (invNext_ok hs)
  split
  · exact inv_set (inv_emit (inv_inc (inv_set hs)))
  · exact inv_set (inv_inc (inv_set hs))

theorem invNext_execAspFrameSend {i : Initiator} {x : Act} {rd : Bool} {addr data returned : Nat} {s : State} (hs : s.Inv) :
    InvNext (execAspFrameSend i x rd addr data returned s) := by
  refine invNext_ok (inv_access hs fun _ ht => ?_)
  refine inv_ite (inv_set (inv_set (inv_setAll (inv_update ht)))) ?_
  refine inv_ite (inv_putLp (inv_set (inv_setAll (inv_update ht)))) ?_
  exact inv_iteThen (inv_set (inv_emit (inv_setAll (inv_update ht)))) inv_set

/-! ### The spindle -/

theorem invNext_execStart {s : State} (hs : s.Inv) : InvNext (execStart s) := by
  unfold execStart
  split
  · exact invNext_ok hs
  · refine invNext_ite ?_ (invNext_ok (inv_start (inv_discard hs)))
    exact invNext_ite (invNext_ok (inv_start (inv_discard (inv_commitSpinup hs)))) (invNext_ok hs)

theorem invNext_execStop {s : State} (hs : s.Inv) : InvNext (execStop s) := by
  unfold execStop
  split
  · exact invNext_ok hs
  · exact invNext_ok (inv_stop (inv_discard hs))

theorem invNext_execHold {s : State} (hs : s.Inv) : InvNext (execHold s) := by
  unfold execHold
  split
  · exact invNext_ok hs
  · refine invNext_ite (invNext_ok (inv_resumeRun (inv_discard hs))) ?_
    exact invNext_ite (invNext_ok (inv_spRefuse (inv_discard hs))) (invNext_ok (inv_spRefuse (inv_discard hs)))

theorem invNext_execSensePeriodEnd {s : State} (hs : s.Inv) : InvNext (execSensePeriodEnd s) :=
  invNext_ite (invNext_ite (invNext_ok (inv_align hs)) (invNext_ite (invNext_ok (inv_setSp hs)) (invNext_ok (inv_putSpn (inv_setInv
      hs))))) (invNext_ok hs)

theorem invNext_execAlignStepEnd {s : State} (hs : s.Inv) : InvNext (execAlignStepEnd s) :=
  invNext_ite (invNext_ite (invNext_ok (inv_set (inv_setSp (inv_putMotor hs)))) (invNext_ok (inv_align hs))) (invNext_ok hs)

theorem invNext_execCatchResult {s : State} (hs : s.Inv) : InvNext (execCatchResult s) :=
  invNext_ite (invNext_ite (invNext_ok (inv_takeOver hs)) (invNext_ok (inv_catchFail hs))) (invNext_ite (invNext_ok (inv_catchFail hs))
      (invNext_ok hs))

theorem invNext_execStartFailure {s : State} (hs : s.Inv) : InvNext (execStartFailure s) :=
  invNext_ite (invNext_ite (invNext_ok (inv_setSp (inv_spFault (inv_set (inv_putSpn (inv_coast hs)))))) (invNext_ok (inv_putSpn
      (inv_coast hs)))) (invNext_ok hs)

theorem invNext_execAtSpeedReached {s : State} (hs : s.Inv) : InvNext (execAtSpeedReached s) := by
  unfold execAtSpeedReached
  refine invNext_ite ?_ (invNext_ok hs)
  dsimp only
  split
  · exact invNext_ok (inv_reply (inv_putSpn (inv_iteThen (inv_update (inv_set (inv_set hs))) inv_commitRun)))
  · exact invNext_ok (inv_iteThen (inv_update (inv_set (inv_set hs))) inv_commitRun)

theorem invNext_execPostmarkAngleHandover {s : State} (hs : s.Inv) : InvNext (execPostmarkAngleHandover s) := by
  unfold execPostmarkAngleHandover
  split
  · refine invNext_ite ?_ (invNext_ok hs)
    refine invNext_ite ?_ ?_
    · exact invNext_ite (invNext_ok (inv_putSpn (inv_putMotor (inv_putMotor hs)))) (invNext_ok (inv_putMotor hs))
    · exact invNext_ite (invNext_ok (inv_spFault (inv_set (inv_putMotor hs)))) (invNext_ok (inv_set (inv_putMotor hs)))
  · exact invNext_ok hs

theorem invNext_execObserverLost {s : State} (hs : s.Inv) : InvNext (execObserverLost s) :=
  invNext_ite (invNext_ite (invNext_ok (inv_putSpn hs)) (invNext_ite (invNext_ok (inv_observerLost hs)) (invNext_ok hs))) (invNext_ok hs)

theorem invNext_execInverterDisable {busMv : Nat} {s : State} (hs : s.Inv) : InvNext (execInverterDisable busMv s) :=
  invNext_ite (invNext_ite (invNext_ok (inv_coast (inv_set (inv_inc (inv_set hs))))) (invNext_ok (inv_setInv (inv_set (inv_inc (inv_set
      hs)))))) (invNext_ok hs)

theorem invNext_execInverterReenable {busMv us : Nat} {s : State} (hs : s.Inv) : InvNext (execInverterReenable busMv us s) :=
  invNext_ite (invNext_ite (invNext_ite (invNext_ok (inv_set (inv_setSp (inv_setInv (inv_set hs))))) (invNext_ok (inv_setSp (inv_set
      hs)))) (invNext_ok (inv_set hs))) (invNext_ok hs)

theorem invNext_execLegFault {leg : Nat} {s : State} (hs : s.Inv) : InvNext (execLegFault leg s) := by
  unfold execLegFault
  refine invNext_ite ?_ (invNext_ok hs)
  refine invNext_ite ?_ ?_
  · exact invNext_ok (inv_emUnloadAll (inv_putSpn (inv_spFault (inv_notAtSpeed (inv_coast (inv_event (inv_set (inv_setBit hs))))))))
  · refine invNext_ite ?_ ?_
    · exact invNext_ok (inv_setSp (inv_setInv (inv_putSpn (inv_event (inv_set (inv_setBit hs))))))
    · exact invNext_ok (inv_set (inv_setSp (inv_setInv (inv_putSpn (inv_event (inv_set (inv_setBit hs)))))))

theorem invNext_execSpareLegReady {s : State} (hs : s.Inv) : InvNext (execSpareLegReady s) := by
  unfold execSpareLegReady
  split
  · refine invNext_ite ?_ (invNext_ok hs)
    refine invNext_ite ?_ ?_
    · exact invNext_ok (inv_sense (inv_putMotor (inv_putSpn (inv_reply (inv_set (inv_set hs))))))
    · refine invNext_ite ?_ ?_
      · exact invNext_ok (inv_observerLost (inv_iteThen (inv_setSp (inv_setInv (inv_putMotor (inv_putSpn (inv_reply (inv_set (inv_set
            hs))))))) inv_set))
      · exact invNext_ok (inv_iteThen (inv_setSp (inv_setInv (inv_putMotor (inv_putSpn (inv_reply (inv_set (inv_set hs))))))) inv_set)
  · exact invNext_ok hs

theorem invNext_execSpindleStopped {s : State} (hs : s.Inv) : InvNext (execSpindleStopped s) := by
  unfold execSpindleStopped
  refine invNext_ite ?_ (invNext_ok hs)
  dsimp only
  split
  · exact invNext_ok (inv_reply (inv_putSpn (inv_set (inv_set (inv_set (inv_setSp (inv_setInv hs)))))))
  · exact invNext_ok (inv_putSpn (inv_set (inv_set (inv_set (inv_setSp (inv_setInv hs))))))

/-! ### The Kerrex bus -/

theorem invNext_execBeaconReceived {f : List Nat} {s : State} (hs : s.Inv) : InvNext (execBeaconReceived f s) := by
  unfold execBeaconReceived
  refine invNext_ite (invNext_ok hs) ?_
  refine invNext_ite (invNext_ok (inv_set hs)) ?_
  refine invNext_ite ?_ ?_
  · refine invNext_ite ?_ (invNext_ok (inv_putKrx hs))
    exact invNext_ok (inv_followBeacon (inv_setRole (inv_abdicate (inv_putKrx hs))))
  · refine invNext_ite (invNext_ok (inv_putKrx hs)) ?_
    refine invNext_ite ?_ ?_
    · exact invNext_ok (inv_followBeacon (inv_setRole (inv_iteThen (inv_putKrx hs) inv_putKrx)))
    · exact invNext_ok (inv_setRole (inv_iteThen (inv_putKrx hs) inv_putKrx))

theorem invNext_execStatusSlot {s : State} (hs : s.Inv) : InvNext (execStatusSlot s) :=
  invNext_ite (invNext_ite (invNext_ok (inv_heardStatus (inv_set (inv_putKrx (inv_sendFrame hs))))) (invNext_ok (inv_set (inv_putKrx
      (inv_sendFrame hs))))) (invNext_ok (inv_putKrx hs))

theorem invNext_execStatusReceived {f : List Nat} {inSlot : Bool} {s : State} (hs : s.Inv) : InvNext (execStatusReceived f inSlot s) := by
  unfold execStatusReceived
  refine invNext_ite (invNext_ok hs) ?_
  refine invNext_ite (invNext_ok (inv_set hs)) ?_
  refine invNext_ite ?_ ?_
  · exact invNext_ok (inv_leaveShelfHold (inv_ite (inv_heardStatus (inv_ite (inv_set hs) hs)) hs))
  · exact invNext_ok (inv_ite (inv_heardStatus (inv_ite (inv_set hs) hs)) hs)

theorem invNext_execClaimReceived {f : List Nat} {s : State} (hs : s.Inv) : InvNext (execClaimReceived f s) := by
  unfold execClaimReceived
  refine invNext_ite (invNext_ok hs) ?_
  refine invNext_ite (invNext_ok (inv_set hs)) ?_
  refine invNext_ite (invNext_ok (inv_abdicate (inv_putKrx hs))) ?_
  exact invNext_ite (invNext_ok (inv_setRole (inv_putKrx hs))) (invNext_ok (inv_putKrx hs))

theorem invNext_execTransmitMismatch {type : Nat} {s : State} (hs : s.Inv) : InvNext (execTransmitMismatch type s) :=
  invNext_ite (invNext_ok (inv_setRole (inv_putKrx (inv_putKrx hs)))) (invNext_ite (invNext_ok (inv_putKrx (inv_set (inv_putKrx hs))))
      (invNext_ok (inv_putKrx hs)))

theorem invNext_execLapse {s : State} (hs : s.Inv) : InvNext (execLapse s) :=
  invNext_ite (invNext_ok (inv_shed (inv_set (inv_putBooks (inv_inc (inv_set (inv_set hs))))))) (invNext_ok hs)

theorem invNext_execHoldEnter {i : Initiator} {s : State} (hs : s.Inv) : InvNext (execHoldEnter i s) :=
  invNext_ok (inv_access hs fun _ ht => inv_ite (inv_update ht) (inv_update (inv_putKrx (inv_pdAllOff (inv_noEnvelope (inv_endAll ht))))))

theorem invNext_execPresentNAssert {straps : Nat} {s : State} (hs : s.Inv) : InvNext (execPresentNAssert straps s) :=
  invNext_ite (invNext_ok hs) (invNext_ok (inv_ledger (inv_iteThen (inv_set (inv_update hs)) inv_event)))

/-! ### The sorting office -/

theorem invNext_execSofJobPost {i : Initiator} {tail : Nat} {s : State} (hs : s.Inv) : InvNext (execSofJobPost i tail s) :=
  invNext_ok (inv_access hs fun _ ht => inv_ite (inv_ignored (inv_set ht)) (inv_update (inv_sofRefresh (inv_set ht))))

theorem invNext_execSwitch {s : State} (hs : s.Inv) : InvNext (execSwitch s) :=
  invNext_ok (inv_sofTake hs fun _ _ _ _ _ ht => inv_sofResult (inv_foldl (inv_switchJob (inv_unitReads ht)) fun _ _ hu => inv_unitStore
      hu))

theorem invNext_execDirectPlacement {nsid lpn : Nat} {s : State} (hs : s.Inv) : InvNext (execDirectPlacement nsid lpn s) := by
  unfold execDirectPlacement
  split
  · exact invNext_ok hs
  · refine invNext_ite (invNext_ok hs) ?_
    refine invNext_ite (invNext_ite (invNext_ok (inv_placeZone hs)) (invNext_ok hs)) ?_
    refine invNext_ite (invNext_ok hs) ?_
    refine invNext_ite (invNext_ok hs) ?_
    dsimp only
    split
    · exact invNext_ok hs
    · exact invNext_ok (inv_addUnit (inv_fst ‹_ = (_, _)› (inv_groupPut hs)))

theorem invNext_execFirstClassPlacement {serial : Nat} {s : State} (hs : s.Inv) : InvNext (execFirstClassPlacement serial s) := by
  unfold execFirstClassPlacement
  split
  · exact invNext_ok hs
  · split
    · exact invNext_ok hs
    · refine invNext_ite (invNext_ok hs) ?_
      refine invNext_ite ?_ ?_
      · refine invNext_ite (invNext_ite (invNext_ok hs) (invNext_ok (inv_bundleAdd hs))) ?_
        split
        · exact invNext_ok hs
        · exact invNext_ok (inv_placeUnit hs)
      · split
        · exact invNext_ok hs
        · exact invNext_ite (invNext_ok hs) (invNext_ok (inv_placeUnit hs))

theorem invNext_execCommitUnitSwitch {k : Nat} {receiptsGood parityGood : Bool} {reads : Nat} {failedBand : Option Nat} {s : State}
    (hs : s.Inv) : InvNext (execCommitUnitSwitch k receiptsGood parityGood reads failedBand s) := by
  unfold execCommitUnitSwitch
  extract_lets s₁
  have h₁ : s₁.Inv := by
    dsimp only [s₁]
    split
    · exact inv_failBand hs
    · exact hs
  clear_value s₁
  split
  · exact invNext_ok h₁
  · refine invNext_ite (invNext_ok (inv_putOffice h₁)) (invNext_ite (invNext_ok h₁) ?_)
    refine invNext_ok (inv_itrayRefresh (inv_iteThen (inv_trayDone (inv_foldl ?_ fun _ _ ht => inv_putOffice ht)) inv_zonesAgain))
    split
    case' h_1 => refine inv_putHost ?_
    all_goals exact inv_journal (inv_putOffice (inv_foldl (inv_foldl (inv_switchJob h₁) fun _ _ ht => inv_settle ht)
      fun _ _ ht => inv_unlist ht))

theorem invNext_execFolding {s : State} (hs : s.Inv) : InvNext (execFolding s) := by
  unfold execFolding
  refine invNext_ite (invNext_ok (inv_putOffice hs)) ?_
  refine invNext_ite (invNext_ok (inv_putOffice hs)) ?_
  split
  · exact invNext_ok (inv_putOffice hs)
  · exact invNext_ok (inv_addUnit (inv_fst ‹_ = (_, _)› (inv_groupPut (inv_putOffice hs))))

theorem invNext_execReSorting {member : Nat} {s : State} (hs : s.Inv) : InvNext (execReSorting member s) := by
  unfold execReSorting
  dsimp only
  split
  · exact invNext_ok (inv_putOffice hs)
  · refine invNext_ite (invNext_ok (inv_putOffice hs)) ?_
    split
    · exact invNext_ok (inv_putOffice hs)
    · exact invNext_ok (inv_addUnit (inv_fst ‹_ = (_, _)› (inv_groupPut (inv_putOffice hs))))

theorem invNext_execBundlePlaceTimeout {k : Nat} {s : State} (hs : s.Inv) : InvNext (execBundlePlaceTimeout k s) := by
  unfold execBundlePlaceTimeout
  split
  · exact invNext_ok hs
  · exact invNext_ite (invNext_ok (inv_placeBundle hs)) (invNext_ok hs)

theorem invNext_execRepack {k : Nat} {s : State} (hs : s.Inv) : InvNext (execRepack k s) := by
  unfold execRepack
  split
  · exact invNext_ok hs
  · refine invNext_ite (invNext_ok hs) ?_
    refine invNext_ite (invNext_ok (inv_unmapAll (inv_putOffice hs))) ?_
    exact invNext_ok (inv_foldl hs fun _ _ ht => inv_ite ht (inv_bundleAdd ht))

theorem invNext_execZoneFinishRecommended {nsid k : Nat} {s : State} (hs : s.Inv) : InvNext (execZoneFinishRecommended nsid k s) := by
  unfold execZoneFinishRecommended
  split
  · exact invNext_ok hs
  · dsimp only
    split
    · exact invNext_ok hs
    · exact invNext_ite (invNext_ok (inv_zoneChanged (inv_putZone hs))) (invNext_ok hs)

theorem invNext_execZoneFinishByController {nsid k : Nat} {s : State} (hs : s.Inv) : InvNext (execZoneFinishByController nsid k s) := by
  unfold execZoneFinishByController
  split
  · exact invNext_ok hs
  · dsimp only
    split
    · exact invNext_ok hs
    · exact invNext_ite (invNext_ok (inv_zoneChanged (inv_finishZone hs))) (invNext_ok hs)

theorem invNext_execMapCheckpoint {s : State} (hs : s.Inv) : InvNext (execMapCheckpoint s) := by
  unfold execMapCheckpoint
  refine invNext_ite (invNext_ok hs) ?_
  refine invNext_ite (invNext_ok (inv_putOffice (inv_update (inv_putOffice hs)))) ?_
  exact invNext_ok (inv_floorCheck (inv_resizeFc (inv_freeGroups (inv_putOffice (inv_update (inv_putOffice hs))))))

theorem invNext_execSegmentLoad {k : Nat} {s : State} (hs : s.Inv) : InvNext (execSegmentLoad k s) :=
  invNext_ite (invNext_ok hs) (invNext_ok (inv_putOffice (inv_foldl (inv_foldl (forms_cells_filter hs)
    fun _ _ ht => inv_putByte ht) fun _ _ ht => inv_putMap ht)))

theorem invNext_execMapRebuild {tags : Option (List (Nat × Nat × Nat))} {s : State} (hs : s.Inv) : InvNext (execMapRebuild tags s) := by
  unfold execMapRebuild
  split
  · exact invNext_ite (invNext_ok hs) (invNext_ok (inv_ledger (inv_setCritical (inv_putOffice hs))))
  · exact invNext_ite (invNext_ok hs) (invNext_ok (inv_putOffice (inv_foldl hs fun _ _ ht => inv_ite (inv_putMap ht) ht)))

theorem invNext_execRefreshTrigger {w : RefreshKind} {place : Nat} {allGood : Bool} {s : State} (hs : s.Inv) :
    InvNext (execRefreshTrigger w place allGood s) := by
  unfold execRefreshTrigger
  refine invNext_ite (invNext_ok hs) ?_
  split
  · exact invNext_ite (invNext_ok (inv_update hs)) (invNext_ok hs)
  · exact invNext_ite (invNext_ok (inv_update hs)) (invNext_ok hs)
  · exact invNext_ite (invNext_ok (inv_putOffice hs)) (invNext_ok hs)
  · exact invNext_ite (invNext_ok (inv_iteElse (inv_putOffice hs) inv_queueGroup)) (invNext_ok hs)

theorem invNext_execLocationRelease {k : Nat} {readsEnded : Bool} {s : State} (hs : s.Inv) :
    InvNext (execLocationRelease k readsEnded s) := by
  unfold execLocationRelease
  split
  · exact invNext_ok hs
  · exact invNext_ite (invNext_ok hs) (invNext_ok (inv_freeGroups (inv_putOffice hs)))

/-! ### Consignments -/

theorem invNext_execCnsJobPost {i : Initiator} {tail : Nat} {s : State} (hs : s.Inv) : InvNext (execCnsJobPost i tail s) :=
  invNext_ok (inv_access hs fun _ ht => inv_ite (inv_ignored (inv_set ht)) (inv_update (inv_cnsRefresh (inv_set ht))))

theorem invNext_execEncode {errs : List EccErr} {s : State} (hs : s.Inv) : InvNext (execEncode errs s) :=
  invNext_ok (inv_cnsTake hs fun _ _ ht => inv_ite (inv_cnsResult (inv_writeMembers (inv_membersEcc ht))) (inv_cnsResult (inv_membersEcc
      ht)))

theorem invNext_execDecode {errs : List EccErr} {s : State} (hs : s.Inv) : InvNext (execDecode errs s) :=
  invNext_ok (inv_cnsTake hs fun _ _ ht => inv_ite (inv_cnsResult (inv_decodeServes (inv_writeMembers (inv_inc (inv_membersEcc ht)))))
      (inv_cnsResult (inv_inc (inv_membersEcc ht))))

theorem invNext_execCheck {errs : List EccErr} {s : State} (hs : s.Inv) : InvNext (execCheck errs s) := by
  refine invNext_ok (inv_cnsTake hs fun _ _ ht => inv_ite (inv_cnsResult (inv_membersEcc ht)) ?_)
  dsimp only
  split
  · exact inv_cnsResult (inv_membersEcc ht)
  · exact inv_cnsResult (inv_inc (inv_membersEcc ht))

theorem invNext_execRebuildUnitCommit {receiptsGood : Bool} {s : State} (hs : s.Inv) :
    InvNext (execRebuildUnitCommit receiptsGood s) := by
  unfold execRebuildUnitCommit
  split
  · exact invNext_ok hs
  · refine invNext_ite (invNext_ok hs) ?_
    dsimp only
    split
    · exact invNext_ok (inv_unitDone (inv_ite (inv_queueGroup hs) hs))
    · refine invNext_ite (invNext_ok (inv_setBands (inv_putOffice hs))) ?_
      split
      · exact invNext_ok (inv_unitDone (inv_rebuildPair hs))
      · exact invNext_ok (inv_unitDone (inv_rebuildMember hs))
      · exact invNext_ok (inv_unitDone hs)

theorem invNext_execParityScrub {g : Nat} {bad : Option Nat} {s : State} (hs : s.Inv) : InvNext (execParityScrub g bad s) := by
  unfold execParityScrub
  split
  · exact invNext_ok hs
  · refine invNext_ite (invNext_ok hs) ?_
    exact invNext_ok (inv_putCons (by
        split
        · exact hs
        · exact inv_putOffice (inv_putCons (inv_ledger hs))))

/-! ### Host ports and connections -/

theorem invNext_execCapsuleCmd {conn : Nat} {cap : Capsule} {hdr : Bool} {s : State} (hs : s.Inv) :
    InvNext (execCapsuleCmd conn cap hdr s) :=
  invNext_ite (invNext_ok (inv_ite (inv_admitCmd hs) hs)) (invNext_ok (inv_pdu hs fun _ _ ht => inv_ite (inv_terminate ht) (inv_ite ht
      (inv_putConn ht))))

theorem invNext_execCapsuleTake {conn wait us : Nat} {s : State} (hs : s.Inv) : InvNext (execCapsuleTake conn wait us s) := by
  unfold execCapsuleTake
  split
  · exact invNext_ok hs
  · split
    · exact invNext_ok hs
    · exact invNext_ite (invNext_ok hs) (invNext_ok (inv_admitCmd (inv_iteThen (inv_set (inv_set (inv_putConn hs))) inv_set)))

theorem invNext_execH2cData {serial offset : Nat} {data : List Nat} {hdr good : Bool} {s : State} (hs : s.Inv) :
    InvNext (execH2cData serial offset data hdr good s) := by
  unfold execH2cData
  split
  · exact invNext_ok hs
  · exact invNext_ok (inv_pdu hs fun _ _ ht => inv_ite (inv_terminate ht) (inv_ite ht (inv_ite (inv_answer ht) (inv_hqRefresh
        (inv_bagStore (inv_putCmd ht))))))

theorem invNext_execTcpSyn {p : Prt} {v6 : Bool} {addr port window : Nat} {s : State} (hs : s.Inv) :
    InvNext (execTcpSyn p v6 addr port window s) := by
  refine invNext_ok (inv_frame hs fun _ ht => inv_ite ht ?_)
  split
  · exact inv_ite (inv_sendNet (inv_connsRefresh (inv_putConn ht))) (inv_sendNet ht)
  · exact inv_sendNet ht

theorem invNext_execRetransmissionTimer {conn : Nat} {s : State} (hs : s.Inv) : InvNext (execRetransmissionTimer conn s) :=
  invNext_ok (inv_tcpEvent hs fun _ _ ht => inv_ite ht (inv_ite (inv_sendNet (inv_loseConn ht)) (inv_sendNet (inv_putConn ht))))

theorem invNext_execIcmpv4 {p : Prt} {f : IcmpFrame} {s : State} (hs : s.Inv) : InvNext (execIcmpv4 p f s) :=
  invNext_ok (inv_frame hs fun _ ht => by
    split
    · exact inv_ite (inv_sendNet ht) ht
    · exact inv_pathMtu ht
    · exact ht)

theorem invNext_execIcmpv6 {p : Prt} {f : IcmpFrame} {s : State} (hs : s.Inv) : InvNext (execIcmpv6 p f s) :=
  invNext_ok (inv_frame hs fun _ ht => by
    split
    · exact inv_ite (inv_sendNet ht) ht
    · exact inv_pathMtu ht
    · exact ht)

theorem invNext_execNdp {p : Prt} {f : NdpFrame} {s : State} (hs : s.Inv) : InvNext (execNdp p f s) :=
  invNext_ok (inv_frame hs fun _ ht => by
    split
    · exact inv_ite (inv_sendNet ht) ht
    · exact inv_ite (inv_putPort ht) ht)

theorem invNext_execDhcpv4 {p : Prt} {f : DhcpFrame} {s : State} (hs : s.Inv) : InvNext (execDhcpv4 p f s) :=
  invNext_ok (inv_frame hs fun _ ht => inv_ite ht (by
    split
    · exact inv_sendNet ht
    · exact inv_putPort ht
    · exact inv_putPort ht))

theorem invNext_execDhcpv6 {p : Prt} {f : DhcpFrame} {s : State} (hs : s.Inv) : InvNext (execDhcpv6 p f s) :=
  invNext_ok (inv_frame hs fun _ ht => inv_ite ht (by
    split
    · exact inv_sendNet ht
    · exact inv_putPort ht
    · exact inv_putPort ht))

theorem invNext_execResponseReady {serial : Nat} {s : State} (hs : s.Inv) : InvNext (execResponseReady serial s) := by
  unfold execResponseReady
  split
  · exact invNext_ok hs
  · split
    · exact invNext_ok hs
    · refine invNext_ite (invNext_ok (inv_dropCmd hs)) ?_
      refine invNext_ite (invNext_ok hs) ?_
      refine invNext_ite (invNext_ok (inv_dropCmd (inv_emit hs))) ?_
      split
      · exact invNext_ok (inv_dropCmd hs)
      · exact invNext_ite (invNext_ok hs) (invNext_ok (inv_dropCmd (inv_afterResponse (inv_emit (inv_putConn hs)))))

theorem invNext_execBagsReservedForTransfer {serial pick : Nat} {s : State} (hs : s.Inv) :
    InvNext (execBagsReservedForTransfer serial pick s) := by
  unfold execBagsReservedForTransfer
  split
  · exact invNext_ok hs
  · refine invNext_ite (invNext_ok hs) ?_
    dsimp only
    split
    · refine invNext_ite (invNext_ok (inv_set hs)) ?_
      refine invNext_ite ?_ ?_
      · exact invNext_ok (inv_hqRefresh (inv_bagStore (inv_putCmd (inv_fst ‹_ = (_, _)› (inv_takeBags hs)))))
      · refine invNext_ok (inv_hqRefresh (inv_emit (inv_putCmd ?_)))
        split
        · exact inv_putConn (inv_fst ‹_ = (_, _)› (inv_takeBags hs))
        · exact inv_fst ‹_ = (_, _)› (inv_takeBags hs)
    · exact invNext_ok (inv_set hs)

theorem invNext_execReadDataReady {serial : Nat} {s : State} (hs : s.Inv) : InvNext (execReadDataReady serial s) := by
  unfold execReadDataReady
  split
  · exact invNext_ok hs
  · refine invNext_ite (invNext_ok hs) ?_
    refine invNext_ite (invNext_ok (inv_emit (inv_putCmd hs))) ?_
    split
    · exact invNext_ok hs
    · exact invNext_ite (invNext_ok hs) (invNext_ok (inv_emit (inv_putCmd (inv_putConn hs))))

theorem invNext_execKeepAliveTimer {a : Nat} {s : State} (hs : s.Inv) : InvNext (execKeepAliveTimer a s) := by
  unfold execKeepAliveTimer
  split
  · exact invNext_ok hs
  · exact invNext_ok (inv_ite (inv_endAssoc hs) hs)

theorem invNext_execCorePostedEvent {i : Initiator} {arg conn key : Nat} {s : State} (hs : s.Inv) :
    InvNext (execCorePostedEvent i arg conn key s) :=
  invNext_ok (inv_access hs fun _ ht => inv_ite (inv_ignored ht) (inv_ite (inv_update ht) (inv_update (inv_putPre ht))))

theorem invNext_execLockGrant {serial : Nat} {s : State} (hs : s.Inv) : InvNext (execLockGrant serial s) := by
  unfold execLockGrant
  split
  · exact invNext_ok hs
  · refine invNext_ite (invNext_ok hs) ?_
    dsimp only
    split
    · exact invNext_ok (inv_hqRefresh (inv_iteThen (inv_ite (inv_enterLocks hs) (inv_putHost hs)) inv_answer))
    · exact invNext_ok (inv_ite (inv_enterLocks hs) (inv_putHost hs))

theorem invNext_execPreLoadDone {s : State} (hs : s.Inv) : InvNext (execPreLoadDone s) :=
  invNext_ite (invNext_ite (invNext_ok (inv_set (inv_set (inv_putPre (inv_set (inv_putPre hs)))))) (invNext_ok (inv_set (inv_set (inv_set
      (inv_putPre hs)))))) (invNext_ok hs)

theorem invNext_execPreRun {i : Initiator} {v : Bool} {s : State} (hs : s.Inv) : InvNext (execPreRun i v s) :=
  invNext_ok (inv_access hs fun _ ht => inv_ite (inv_ignored (inv_set ht)) (inv_update (inv_set (inv_set ht))))

theorem invNext_execGetLogPage {serial : Nat} {s : State} (hs : s.Inv) : InvNext (execGetLogPage serial s) := by
  refine invNext_ok (inv_onAdmin hs fun _ _ ht => ?_)
  split
  · exact inv_answer ht
  · exact inv_answer ht
  · exact inv_ite (inv_answer ht) (inv_answerWith (inv_pageRead ht))

theorem invNext_execIdentify {serial : Nat} {s : State} (hs : s.Inv) : InvNext (execIdentify serial s) := by
  refine invNext_ok (inv_onAdmin hs fun _ _ ht => ?_)
  refine inv_ite (inv_answer ht) ?_
  split
  · split
    · exact inv_answerWith ht
    · exact inv_answer ht
  · exact inv_answerWith ht
  · exact inv_answerWith ht
  · split
    · exact inv_answerWith ht
    · exact inv_answer ht
  · dsimp only
    split
    · exact inv_ite (inv_answerWith ht) (inv_answer ht)
    · exact inv_answer ht
  · exact inv_ite (inv_answerWith ht) (inv_ite (inv_answerWith ht) (inv_answer ht))
  · exact inv_ite (inv_answerWith ht) (inv_answer ht)
  · exact inv_answerWith ht
  · split
    · exact inv_answerWith ht
    · exact inv_answer ht
  · exact inv_answer ht

/-! ### Host commands -/

theorem invNext_execAbort {serial : Nat} {s : State} (hs : s.Inv) : InvNext (execAbort serial s) := by
  refine invNext_ok (inv_onAdmin hs fun _ _ ht => ?_)
  dsimp only
  split
  · exact inv_ite (inv_hqRefresh (inv_answerWith (inv_putHost (inv_answer ht)))) (inv_answerWith ht)
  · exact inv_answerWith ht

theorem invNext_execSetFeatures {serial : Nat} {s : State} (hs : s.Inv) : InvNext (execSetFeatures serial s) := by
  refine invNext_ok (inv_onAdmin hs fun _ _ ht => ?_)
  refine inv_ite (inv_answer ht) ?_
  refine inv_ite (by
      split
      · exact inv_answer ht
      · exact inv_setCtrlFeature ht) ?_
  refine inv_ite (inv_ite (inv_answer ht) (inv_answer (inv_featSet ht))) ?_
  refine inv_ite ?_ ?_
  · exact inv_ite (inv_answer ht) (inv_answer (inv_foldl ht fun _ _ hu => inv_featSet hu))
  · refine inv_ite ?_ (inv_answer ht)
    split
    · exact inv_answer ht
    · refine inv_ite ?_ (inv_ite (inv_answer ht) (inv_answer (inv_nsFeatSet ht)))
      split
      · exact inv_answer ht
      · exact inv_answer (inv_putNs ht)

theorem invNext_execGetFeatures {serial : Nat} {s : State} (hs : s.Inv) : InvNext (execGetFeatures serial s) := by
  refine invNext_ok (inv_onAdmin hs fun _ _ ht => ?_)
  refine inv_ite (inv_answer ht) ?_
  refine inv_ite (inv_answer ht) ?_
  exact inv_ite (inv_answerWith ht) (inv_ite (inv_answerWith ht) (inv_ite (inv_answerWith ht) (inv_answerWith ht)))

theorem invNext_execAsynchronousEventRequest {serial : Nat} {s : State} (hs : s.Inv) :
    InvNext (execAsynchronousEventRequest serial s) := by
  refine invNext_ok (inv_onAdmin hs fun _ _ ht => ?_)
  split
  · exact inv_answer ht
  · refine inv_ite ht ?_
    split
    · exact inv_answerWith (inv_putAssoc ht)
    · exact inv_ite (inv_answer ht) (inv_putAssoc ht)

theorem invNext_execNamespaceCreate {serial : Nat} {s : State} (hs : s.Inv) : InvNext (execNamespaceCreate serial s) := by
  refine invNext_ok (inv_onAdmin hs fun _ _ ht => ?_)
  refine inv_ite ht ?_
  dsimp only
  split
  · exact inv_answer ht
  · refine inv_ite (inv_answer ht) ?_
    split
    · exact inv_answerWith (inv_nsChanged (inv_putNs (by
          split
          · exact inv_saveDev (inv_generateKey ht)
          · exact inv_generateKey ht)))
    · exact inv_answer ht

theorem invNext_execNamespaceDelete {serial : Nat} {s : State} (hs : s.Inv) : InvNext (execNamespaceDelete serial s) := by
  refine invNext_ok (inv_onAdmin hs fun _ _ ht => ?_)
  refine inv_ite ht ?_
  refine inv_ite (inv_answer ht) ?_
  exact inv_iteThen (inv_foldl ht fun _ _ hu => inv_answer hu) (fun h => inv_answer (inv_foldl h fun _ _ hu => inv_deleteNs hu))

theorem invNext_execFirmwareCommit {serial : Nat} {image : Area} {s : State} (hs : s.Inv) :
    InvNext (execFirmwareCommit serial image s) := by
  refine invNext_ok (inv_onAdmin hs fun _ _ ht => ?_)
  dsimp only
  split
  · exact inv_answer ht
  · split
    · exact inv_answer ht
    · exact inv_iteThen (inv_answer (inv_ledger (inv_putHost (inv_writeTrial ht)))) (fun h => inv_ite (inv_update (inv_emUnloadAll h))
          (inv_update (inv_pdAllOff h)))

theorem invNext_execKeepAlive {serial : Nat} {s : State} (hs : s.Inv) : InvNext (execKeepAlive serial s) :=
  invNext_ok (inv_onAdmin hs fun _ _ ht => by
    split
    · exact inv_answer ht
    · exact inv_answer (inv_putAssoc ht))

theorem invNext_execFormatNvm {serial : Nat} {s : State} (hs : s.Inv) : InvNext (execFormatNvm serial s) := by
  refine invNext_ok (inv_onAdmin hs fun _ _ ht => ?_)
  refine inv_ite (inv_answer ht) (inv_ite (inv_answer ht) (inv_ite (inv_answer ht) (inv_answer (inv_foldl ht fun _ _ hu => ?_))))
  split
  · exact hu
  · refine inv_iteThen (inv_emptyNs hu) fun h => ?_
    dsimp only
    split
    · exact inv_saveDev (inv_generateKey h)
    · exact inv_generateKey h

theorem invNext_execSanitize {serial upTo : Nat} {s : State} (hs : s.Inv) : InvNext (execSanitize serial upTo s) :=
  invNext_ok (inv_onAdmin hs fun _ _ ht => inv_ite (inv_answer ht) (inv_ite (inv_answer (inv_putCons (inv_eraseSteps ht))) (inv_iteElse
      (inv_eraseSteps ht) inv_putCons)))

theorem invNext_execPropertySet {serial : Nat} {s : State} (hs : s.Inv) : InvNext (execPropertySet serial s) := by
  refine invNext_ok (inv_onFabrics hs fun _ _ ht => ?_)
  split
  · exact inv_answer ht
  · refine inv_ite (inv_answer ht) ?_
    exact inv_ite (inv_noEnvelope (inv_endAssoc (inv_respondNow (inv_putAssoc ht)))) (inv_answer (inv_putAssoc ht))

theorem invNext_execPropertyGet {serial : Nat} {s : State} (hs : s.Inv) : InvNext (execPropertyGet serial s) := by
  refine invNext_ok (inv_onFabrics hs fun _ _ ht => ?_)
  dsimp only
  split
  · exact inv_answer ht
  · split
    · exact inv_answerWith ht
    · exact inv_answerWith ht
    · exact inv_answerWith ht
    · exact inv_answerWith ht
    · exact inv_answer ht

theorem invNext_execConnect {serial : Nat} {s : State} (hs : s.Inv) : InvNext (execConnect serial s) := by
  refine invNext_ok (inv_onFabrics hs fun _ _ ht => ?_)
  split
  · exact ht
  · split
    · exact inv_answer ht
    · refine inv_ite ?_ (inv_connsRefresh (inv_answerWith (inv_putConn ht)))
      exact inv_connsRefresh (inv_answerWith (inv_putConn (inv_putAssoc ht)))

theorem invNext_execDisconnect {serial : Nat} {s : State} (hs : s.Inv) : InvNext (execDisconnect serial s) :=
  invNext_ok (inv_onFabrics hs fun _ _ ht => by
    split
    · exact inv_answer ht
    · exact inv_endAssoc (inv_respondNow ht))

theorem invNext_execHeadServiceRetire {serial : Nat} {s : State} (hs : s.Inv) : InvNext (execHeadServiceRetire serial s) :=
  invNext_ok (inv_headService hs fun _ _ ht => inv_ite (inv_answer ht) (inv_answerWith (inv_retireHead ht)))

theorem invNext_execShelfHoldDeparture {s : State} (hs : s.Inv) : InvNext (execShelfHoldDeparture s) := by
  unfold execShelfHoldDeparture
  split
  · exact invNext_ok hs
  · refine invNext_ite (invNext_ok hs) ?_
    refine invNext_ite ?_ ?_
    · exact invNext_ok (inv_foldl (inv_endAll hs) fun _ _ ht => inv_ite ht (inv_tell ht))
    · exact invNext_ok (inv_followTarget (inv_set (inv_iteThen (inv_putHost (inv_endAll hs)) inv_tell)))

theorem invNext_execShelfServiceWake {serial : Nat} {s : State} (hs : s.Inv) : InvNext (execShelfServiceWake serial s) :=
  invNext_ok (inv_onAdmin hs fun _ _ ht => inv_ite ht (inv_ite (inv_answer ht) (inv_answer (inv_setAll ht))))

theorem invNext_execDriveFormat {serial : Nat} {s : State} (hs : s.Inv) : InvNext (execDriveFormat serial s) := by
  refine invNext_ok (inv_onAdmin hs fun _ _ ht => ?_)
  refine inv_ite (inv_answer ht) ?_
  exact inv_answer (inv_putHost (inv_saveDev (inv_set (inv_putOffice (inv_naturalMap (inv_emptyMap (inv_clearKeys (inv_set (inv_set
      ht)))))))))

theorem invNext_execWriteZeroes {serial : Nat} {s : State} (hs : s.Inv) : InvNext (execWriteZeroes serial s) :=
  invNext_ok (inv_onIo hs fun _ _ _ ht => inv_ite (inv_answer (inv_discardRanges ht)) (inv_writeNow ht))

theorem invNext_execDatasetManagement {serial : Nat} {s : State} (hs : s.Inv) : InvNext (execDatasetManagement serial s) :=
  invNext_ok (inv_onIo hs fun _ _ _ ht => inv_ite (inv_answer ht) (inv_ite (inv_answer ht) (inv_answer (inv_discardRanges ht))))

theorem invNext_execReservationRegister {serial : Nat} {s : State} (hs : s.Inv) : InvNext (execReservationRegister serial s) := by
  refine invNext_ok (inv_onIo hs fun _ _ _ ht => ?_)
  dsimp only
  split
  · split
    · exact inv_ite (inv_answer (inv_putNs ht)) (inv_answer ht)
    · exact inv_answer (inv_putNs ht)
  · split
    · exact inv_ite (inv_answer ht) (inv_answer (inv_iteThen (inv_putNs ht) inv_resNotify))
    · exact inv_answer ht
  · split
    · exact inv_ite (inv_answer ht) (inv_answer (inv_putNs ht))
    · exact inv_ite (inv_answer (inv_putNs ht)) (inv_answer ht)
  · exact inv_answer ht

theorem invNext_execReservationAcquire {serial : Nat} {s : State} (hs : s.Inv) : InvNext (execReservationAcquire serial s) := by
  refine invNext_ok (inv_onIo hs fun _ _ _ ht => ?_)
  refine inv_ite (inv_answer ht) ?_
  refine inv_ite (inv_answer ht) ?_
  refine inv_ite ?_ ?_
  · split
    · exact inv_answer (inv_putNs ht)
    · exact inv_ite (inv_answer ht) (inv_answer ht)
  · exact inv_answer (inv_iteThen (inv_resNotify (inv_putNs ht)) (fun h => inv_foldl h fun _ _ hu => inv_ite hu (inv_answer hu)))

theorem invNext_execReservationRelease {serial : Nat} {s : State} (hs : s.Inv) : InvNext (execReservationRelease serial s) := by
  refine invNext_ok (inv_onIo hs fun _ _ _ ht => ?_)
  refine inv_ite (inv_answer ht) ?_
  split
  · split
    · exact inv_ite (inv_ite (inv_answer ht) (inv_answer (inv_resNotify (inv_putNs ht)))) (inv_answer ht)
    · exact inv_answer ht
  · exact inv_answer (inv_resNotify (inv_putNs ht))
  · exact inv_answer ht

theorem invNext_execZoneOpen {serial : Nat} {s : State} (hs : s.Inv) : InvNext (execZoneOpen serial s) := by
  refine invNext_ok (inv_zoneSend hs fun _ _ _ _ _ ht h => ?_)
  split at h <;> cases h
  exact inv_openZone ht

theorem invNext_execZoneClose {serial : Nat} {s : State} (hs : s.Inv) : InvNext (execZoneClose serial s) :=
  invNext_ok (inv_zoneSend hs fun _ _ _ _ _ ht h => Sum.inl.inj h ▸ inv_putZone ht)

theorem invNext_execZoneFinish {serial : Nat} {s : State} (hs : s.Inv) : InvNext (execZoneFinish serial s) :=
  invNext_ok (inv_zoneSend hs fun _ _ _ _ _ ht h => Sum.inl.inj h ▸ inv_ite ht (inv_finishZone ht))

theorem invNext_execZoneReset {serial : Nat} {s : State} (hs : s.Inv) : InvNext (execZoneReset serial s) := by
  refine invNext_ok (inv_zoneSend hs fun _ _ _ _ _ ht h => Sum.inl.inj h ▸ ?_)
  split
  · exact inv_zoneUnit (inv_zoneLag (inv_shutBands (inv_putZone (inv_unmapAll (inv_trayForget ht)))))
  · exact inv_putZone (inv_unmapAll (inv_trayForget ht))

theorem invNext_execRetrieve {serial : Nat} {at_ : Option Nat} {s : State} (hs : s.Inv) : InvNext (execRetrieve serial at_ s) := by
  refine invNext_ok (inv_onMediaCmd hs fun _ _ _ ht => ?_)
  dsimp only
  split
  · exact inv_ite (inv_readLost ht) (inv_answerWith (inv_countIo ht))
  · split
    · exact inv_answer ht
    · refine inv_ite (inv_readLost ht) ?_
      split
      · exact inv_ite (inv_answerWith (inv_countIo ht)) (inv_putCmd ht)
      · exact inv_answerWith (inv_countIo ht)

theorem invNext_execDelete {serial : Nat} {s : State} (hs : s.Inv) : InvNext (execDelete serial s) :=
  invNext_ok (inv_onIo hs fun _ _ _ ht => inv_ite (inv_answer ht) (inv_answer (inv_putHost (inv_unmapAll (inv_forgetKey (inv_putOffice
      (inv_trayDrop ht)))))))

/-! ### Bags, carriers and memory -/

theorem invNext_execPhcWindowWrite {i : Initiator} {n : Nat} {lim : Bool} {v : Nat} {s : State} (hs : s.Inv) :
    InvNext (execPhcWindowWrite i n lim v s) :=
  invNext_ok (inv_access hs fun _ ht => inv_ite (inv_ignored ht) (inv_update (inv_ite (inv_set ht) (inv_set (inv_set ht)))))

theorem invNext_execDmaTailWrite {i : Initiator} {c tail : Nat} {s : State} (hs : s.Inv) : InvNext (execDmaTailWrite i c tail s) :=
  invNext_ok (inv_access hs fun _ ht => inv_ite (inv_ignored ht) (inv_update (inv_dmaRefresh (inv_set ht))))

theorem invNext_execDmaStop {i : Initiator} {c moved : Nat} {s : State} (hs : s.Inv) : InvNext (execDmaStop i c moved s) :=
  invNext_ok (inv_access hs fun _ ht => inv_update (inv_set (inv_stopDockets (inv_set (inv_ite (inv_store ht) ht)))))

theorem invNext_execDramScrubRead {errs : List EccErr} {s : State} (hs : s.Inv) : InvNext (execDramScrubRead errs s) :=
  invNext_ite (invNext_ok hs) (invNext_ite (invNext_ok (inv_set (inv_update (inv_dramRead hs)))) (invNext_ok (inv_update (inv_dramRead
      hs))))

theorem invNext_execNandQtailWrite {i : Initiator} {tail : Nat} {s : State} (hs : s.Inv) : InvNext (execNandQtailWrite i tail s) :=
  invNext_ok (inv_access hs fun _ ht => inv_ite (inv_ignored ht) (inv_update (inv_nfcRefresh (inv_set ht))))

theorem invNext_execNandRead {k : Nat} {shifted : Bool} {maxBits : Nat} {busErr : Bool} {s : State} (hs : s.Inv) :
    InvNext (execNandRead k shifted maxBits busErr s) := by
  refine invNext_ok (inv_nandTake hs fun _ _ _ _ _ _ ht => ?_)
  dsimp only
  split
  · exact inv_update ht
  · exact inv_store (inv_update ht)

theorem invNext_execNandProgram {k die : Nat} {fails busErr : Bool} {s : State} (hs : s.Inv) :
    InvNext (execNandProgram k die fails busErr s) := by
  refine invNext_ok (inv_nandTake hs fun _ _ _ _ _ _ ht => ?_)
  dsimp only
  split
  · exact inv_dramRead ht
  · split
    · exact inv_nandReplace (inv_dramRead ht)
    · exact inv_update (inv_putNand (inv_nandReplace (inv_dramRead ht)))

theorem invNext_execNandErase {k die : Nat} {fails busErr : Bool} {s : State} (hs : s.Inv) :
    InvNext (execNandErase k die fails busErr s) := by
  refine invNext_ok (inv_nandTake hs fun _ _ _ _ _ _ ht => ?_)
  dsimp only
  split
  · exact inv_nandReplace ht
  · exact inv_update (inv_eraseNand (inv_nandReplace ht))

/-! ### Heat, faults and the ledger -/

theorem invNext_execSensorBroken {n : Nat} {s : State} (hs : s.Inv) : InvNext (execSensorBroken n s) := by
  unfold execSensorBroken
  split
  · exact invNext_ok hs
  · exact invNext_ok (inv_watchCritical hs fun _ ht => inv_ledger (inv_putPortOut (inv_set (inv_set (inv_setBit ht)))))

theorem invNext_execTripDiodeBroken {n : Nat} {s : State} (hs : s.Inv) : InvNext (execTripDiodeBroken n s) := by
  unfold execTripDiodeBroken
  split
  · exact invNext_ok hs
  · exact invNext_ok (inv_ledger (inv_set (inv_setBit hs)))

theorem invNext_execThermalRestart {facts : StartFacts} {s : State} (hs : s.Inv) : InvNext (execThermalRestart facts s) := by
  unfold execThermalRestart
  split
  · exact invNext_ite (invNext_ok (inv_restart hs)) (invNext_ok hs)
  · exact invNext_ok hs

theorem invNext_execFltDone {i : Initiator} {up : Bool} {p : Nat} {s : State} (hs : s.Inv) : InvNext (execFltDone i up p s) := by
  refine invNext_ok (inv_access hs fun _ ht => ?_)
  split
  · exact inv_update (inv_releaseNext (inv_ite (inv_raiseUp ht) (inv_closeRec ht)))
  · exact inv_ignored ht

theorem invNext_execFaultHandlerTimeout {s : State} (hs : s.Inv) : InvNext (execFaultHandlerTimeout s) := by
  unfold execFaultHandlerTimeout
  split
  · exact invNext_ok hs
  · split
    · exact invNext_ok hs
    · exact invNext_ite (invNext_ok (inv_releaseNext (inv_raiseUp (inv_set (inv_update hs))))) (invNext_ok hs)

theorem invNext_execFaultInjectionArm {i : Initiator} {target bits : Nat} {sticky : Bool} {s : State} (hs : s.Inv) :
    InvNext (execFaultInjectionArm i target bits sticky s) :=
  invNext_ok (inv_access hs fun _ ht => inv_ite (inv_ignored ht) (inv_update (inv_set (inv_setAll (inv_ite (inv_disarm ht) ht)))))

theorem invNext_execLdgCommit {core : Nat} {s : State} (hs : s.Inv) : InvNext (execLdgCommit core s) :=
  invNext_ok (inv_access hs fun _ ht => inv_update (by
    split
    · exact inv_set (inv_set (inv_ldgCommit ht))
    · exact inv_set (inv_ldgCommit ht)))

theorem invNext_execKerrexFrameDiscard {f : List Nat} {inSlot explained : Bool} {s : State} (hs : s.Inv) :
    InvNext (execKerrexFrameDiscard f inSlot explained s) :=
  invNext_ite (invNext_ok hs) (invNext_ite (invNext_ok (inv_inc hs)) (invNext_ok (inv_putKrx (inv_inc hs))))

theorem invNext_execFrameDropped {p : Prt} {why : FrameFault} {s : State} (hs : s.Inv) : InvNext (execFrameDropped p why s) := by
  unfold execFrameDropped
  refine invNext_ite (invNext_ok hs) ?_
  split
  · exact invNext_ok (inv_inc hs)
  · exact invNext_ite (invNext_ok hs) (invNext_ok (inv_dropFrame hs))
  · exact invNext_ok (inv_dropFrame hs)
  · exact invNext_ok (inv_dropFrame hs)
  · exact invNext_ite (invNext_ok (inv_dropFrame hs)) (invNext_ok hs)

/-! ### The dispatch and the step -/

/-- Every command keeps the forms: one arm for each, by the lemmas of the operations that its meaning calls. -/
theorem invNext_exec (c : Instr) {s : State} (hs : s.Inv) : InvNext (exec c s) := by
  cases c with
  | registerWrite => exact invNext_execRegisterWrite hs
  | tckCountLoRead => exact invNext_ok (inv_access hs fun _ ht => inv_update (inv_set ht))
  | mainsApplied => exact invNext_execMainsApplied hs
  | acDcModeChoice => exact invNext_execAcDcModeChoice hs
  | llcStart => exact invNext_ite (invNext_ok (inv_update hs)) (invNext_ok hs)
  | driveBusValid => exact invNext_execDriveBusValid hs
  | linkUp => exact invNext_ite (invNext_ok hs) (invNext_ok (inv_setAll hs))
  | addressBound => exact invNext_execAddressBound hs
  | mainsLostWarning => exact invNext_ite (invNext_ok (inv_warn hs)) (invNext_ok hs)
  | recoveryMet => exact invNext_execRecoveryMet hs
  | powerLossDeclared => exact invNext_execPowerLossDeclared hs
  | declaredDomainShutoff => exact invNext_ite (invNext_ok (inv_pdAllOff (inv_endAll hs))) (invNext_ok hs)
  | flushDone => exact invNext_ok (inv_access hs fun _ ht => inv_update (inv_ite (inv_flushDone ht) ht))
  | brownoutReset => exact invNext_ite (invNext_ok (inv_brownout hs)) (invNext_ok hs)
  | llcFault => exact invNext_ite (invNext_ok (inv_graveFault (inv_set hs))) (invNext_ok hs)
  | watchdogReset => exact invNext_ite (invNext_ok hs) (invNext_ok (inv_noteStart (inv_abandonWork (inv_resetProtocol hs))))
  | nvmSubsystemReset => exact invNext_execNvmSubsystemReset hs
  | graveFaultPowerCycle => exact invNext_execGraveFaultPowerCycle hs
  | switchedDomainsRestart => exact invNext_execSwitchedDomainsRestart hs
  | chopperGateClose => exact invNext_ite invNext_fault (invNext_ite (invNext_ok (inv_inc (inv_set hs))) (invNext_ok hs))
  | chopperGateOpen => exact invNext_ite (invNext_ok (inv_set hs)) (invNext_ok hs)
  | chopFaultDetected => exact invNext_ite (invNext_ok (inv_chopFault hs)) (invNext_ok hs)
  | chopTest => exact invNext_execChopTest hs
  | pdCtrlWrite => exact invNext_execPdCtrlWrite hs
  | pdSwitchComplete => exact invNext_execPdSwitchComplete hs
  | envelopeOpen => exact invNext_ok (inv_sealCmd hs fun _ ht => inv_setAll (inv_noEnvelope ht))
  | stagedCopyWrite => exact invNext_execStagedCopyWrite hs
  | envelopeSeal => exact invNext_ok (inv_sealCmd hs fun _ ht => inv_set ht)
  | sealCheckDone => exact invNext_execSealCheckDone hs
  | envelopePost => exact invNext_execEnvelopePost hs
  | envelopeAbort => exact invNext_ok (inv_sealCmd hs fun _ ht => inv_noEnvelope ht)
  | deviceRecordRewrite => exact invNext_execDeviceRecordRewrite hs
  | tickBoundary => exact invNext_execTickBoundary hs
  | mailboxPost => exact invNext_execMailboxPost hs
  | mailboxDeliver => exact invNext_execMailboxDeliver hs
  | writeHoldRelease => exact invNext_ite (invNext_ok (inv_set hs)) (invNext_ok hs)
  | forceFreeWrite => exact invNext_ok (inv_access hs fun _ ht => inv_ite (inv_ignored ht) (inv_update (inv_set ht)))
  | tckClrPeak => exact invNext_ok (inv_access hs fun _ ht => inv_update (inv_set ht))
  | flyingLimitCrossed => exact invNext_execFlyingLimitCrossed hs
  | parkSwitchClose => exact invNext_ite (invNext_ok (inv_rampFault (inv_set hs))) (invNext_ok (inv_pmkRefresh (inv_set hs)))
  | rampFaultTimeout => exact invNext_ite (invNext_ok (inv_rampFault hs)) (invNext_ok hs)
  | pmkStreamValid => exact invNext_execPmkStreamValid hs
  | pmkStreamDrop => exact invNext_ite (invNext_ok (inv_dropStream hs)) (invNext_ok hs)
  | pmkAcqTimeout => exact invNext_ite (invNext_ok (inv_update (inv_event (inv_set hs)))) (invNext_ok hs)
  | positionErrorDelivery => exact invNext_ite (invNext_ok (inv_scheduleIdle (inv_deliverPes hs))) (invNext_ok hs)
  | pesTimeout => exact invNext_execPesTimeout hs
  | segmentForcedEnd => exact invNext_execSegmentForcedEnd hs
  | sliceOverrun => exact invNext_execSliceOverrun hs
  | next | br | brn | call | ret | loop | ldlc | dispatch | done | trap | mov | add | sub | sadd | ssub | and | or | xor | asr
  | lsl | min | max | abs | neg | cmp | sge | sin | cos | mul | mac | msu | clr | memoryRead | memoryWrite | portRead | portWrite
  | capture => exact invNext_ok (inv_micro hs)
  | creLoad => exact invNext_ok (inv_access hs fun _ ht => inv_ite (inv_update (inv_set ht)) (inv_ignored ht))
  | creLoadDone => exact invNext_execCreLoadDone hs
  | creRun => exact invNext_execCreRun hs
  | creStop => exact invNext_execCreStop hs
  | creClrPeaks => exact invNext_ok (inv_access hs fun _ ht => inv_update (inv_foldl ht fun _ _ hu => inv_set hu))
  | creDmDataAccess => exact invNext_execCreDmDataAccess hs
  | creCapDataRead => exact invNext_ok (inv_access hs fun _ ht => inv_update (inv_set ht))
  | injectionEnd => exact invNext_ite (invNext_ok (inv_injEnd hs)) (invNext_ok hs)
  | captureEnd => exact invNext_ite (invNext_ok (inv_capEnd hs)) (invNext_ok hs)
  | laneQtailWrite => exact invNext_execLaneQtailWrite hs
  | laneRead | laneWrite | laneReadSamples | laneSkewMeasure => exact invNext_ok (inv_takeOp hs fun _ _ ht => ht)
  | sectorStart => exact invNext_execSectorStart hs
  | heaterLeadElapsed => exact invNext_execHeaterLeadElapsed hs
  | writeInhibitReceived => exact invNext_execWriteInhibitReceived hs
  | firstPassDone => exact invNext_execFirstPassDone hs
  | recoveryStoreCopyDone => exact invNext_execRecoveryStoreCopyDone hs
  | decoderFrameStart => exact invNext_ite (invNext_ok (inv_startFrame (inv_poolRun hs))) (invNext_ok hs)
  | receiptDecided => exact invNext_execReceiptDecided hs
  | sectorRewrite => exact invNext_execSectorRewrite hs
  | laneOperationComplete => exact invNext_execLaneOperationComplete hs
  | laneAbort => exact invNext_ok (inv_access hs fun _ ht => inv_update (inv_laneAbort ht))
  | headEnClear => exact invNext_execHeadEnClear hs
  | zoneEntryValidate => exact invNext_ok (inv_access hs fun _ ht => inv_update (inv_putLane (inv_setAll ht)))
  | zoneEntryCheckDone => exact invNext_execZoneEntryCheckDone hs
  | zoneEntryInvalidate => exact invNext_ok (inv_access hs fun _ ht => inv_update (inv_set (inv_putLane (inv_putWord ht))))
  | decoderHalfLoss => exact invNext_execDecoderHalfLoss hs
  | decoderHalfEnable => exact invNext_ok (inv_access hs fun _ ht => inv_ite (inv_ignored ht) (inv_update (inv_set ht)))
  | decoderHalfDisable => exact invNext_execDecoderHalfDisable hs
  | recoveryJobPost => exact invNext_execRecoveryJobPost hs
  | decodeSampleArea => exact invNext_execDecodeSampleArea hs
  | decodeRunningSum => exact invNext_execDecodeRunningSum hs
  | cancelJob => exact invNext_execCancelJob hs
  | heldSampleRungsDone => exact invNext_execHeldSampleRungsDone hs
  | earlyReconstructionStart => exact invNext_execEarlyReconstructionStart hs
  | ladderTimeLimit => exact invNext_execLadderTimeLimit hs
  | reallocation => exact invNext_execReallocation hs
  | seek => exact invNext_execSeek hs
  | pairWaitExpiry => exact invNext_execPairWaitExpiry hs
  | seekDone => exact invNext_execSeekDone hs
  | seekSettleTimeout => exact invNext_execSeekSettleTimeout hs
  | head => exact invNext_execHead hs
  | headSwitchDone => exact invNext_execHeadSwitchDone hs
  | headSwitchTimeout => exact invNext_execHeadSwitchTimeout hs
  | offset => exact invNext_execOffset hs
  | offsetDone => exact invNext_execOffsetDone hs
  | load => exact invNext_execLoad hs
  | loadLanded => exact invNext_execLoadLanded hs
  | loadTimeout => exact invNext_execLoadTimeout hs
  | unload => exact invNext_execUnload hs
  | unloadLatched => exact invNext_execUnloadLatched hs
  | retire => exact invNext_execRetire hs
  | coef => exact invNext_execCoef hs
  | emergencyUnload => exact invNext_execEmergencyUnload hs
  | servoWedgeLoss => exact invNext_ite (invNext_ok (inv_emUnload hs)) (invNext_ok hs)
  | emUnloadLatched => exact invNext_execEmUnloadLatched hs
  | hardwareRetract => exact invNext_ite (invNext_ok (inv_hwRetract hs)) (invNext_ok hs)
  | retract => exact invNext_ok (inv_access hs fun _ ht => inv_update (inv_hwRetract ht))
  | retractWatchdog => exact invNext_ite (invNext_ok (inv_hwRetract hs)) (invNext_ok hs)
  | retractEnd => exact invNext_execRetractEnd hs
  | shockDetected => exact invNext_ite (invNext_ok (inv_putLp (inv_set hs))) (invNext_ok hs)
  | shockInhibitEnd => exact invNext_ok (inv_putLp hs)
  | preampFault => exact invNext_execPreampFault hs
  | preampFaultPersists => exact invNext_ok (inv_ite (inv_setBit hs) hs)
  | aspFrameSend => exact invNext_execAspFrameSend hs
  | microactuatorSaturation => exact invNext_ite (invNext_ok (inv_fault (inv_update hs))) (invNext_ok hs)
  | start => exact invNext_execStart hs
  | stop => exact invNext_execStop hs
  | hold => exact invNext_execHold hs
  | sensePeriodEnd => exact invNext_execSensePeriodEnd hs
  | alignStepEnd => exact invNext_execAlignStepEnd hs
  | catchResult => exact invNext_execCatchResult hs
  | observerHandover => exact invNext_ite (invNext_ok (inv_set (inv_setSp (inv_putMotor hs)))) (invNext_ok hs)
  | startFailure => exact invNext_execStartFailure hs
  | startRetry => exact invNext_ite (invNext_ok (inv_sense hs)) (invNext_ok hs)
  | atSpeedReached => exact invNext_execAtSpeedReached hs
  | postmarkAngleHandover => exact invNext_execPostmarkAngleHandover hs
  | postmarkGlideEnd => exact invNext_ite (invNext_ok (inv_reply (inv_putSpn (inv_set (inv_set hs))))) (invNext_ok hs)
  | observerLost => exact invNext_execObserverLost hs
  | spindleDutyWatchdog => exact invNext_ite (invNext_ok (inv_spFault (inv_set (inv_coast hs)))) (invNext_ok hs)
  | fluxBrakeEnter => exact invNext_ite (invNext_ok (inv_set (inv_inc (inv_set hs)))) (invNext_ok hs)
  | fluxBrakeLeave => exact invNext_ite (invNext_ok (inv_set (inv_set hs))) (invNext_ok hs)
  | inverterDisable => exact invNext_execInverterDisable hs
  | inverterReenable => exact invNext_execInverterReenable hs
  | legFault => exact invNext_execLegFault hs
  | spareLegReady => exact invNext_execSpareLegReady hs
  | spindleStopped => exact invNext_execSpindleStopped hs
  | kerrexCycleStart => exact invNext_ite (invNext_ok (inv_sendBeacon (inv_set (inv_putKrx hs)))) (invNext_ok hs)
  | beaconReceived => exact invNext_execBeaconReceived hs
  | statusSlot => exact invNext_execStatusSlot hs
  | statusReceived => exact invNext_execStatusReceived hs
  | claimReceived => exact invNext_execClaimReceived hs
  | electionBackoffExpiry => exact invNext_ite (invNext_ok (inv_sendFrame (inv_setRole hs))) (invNext_ok hs)
  | claimConfirm => exact invNext_ite (invNext_ok (inv_sendBeacon (inv_setRole (inv_putKrx hs)))) (invNext_ok hs)
  | transmitMismatch => exact invNext_execTransmitMismatch hs
  | censusEnd | unheardSlotTimeout => exact invNext_ite (invNext_ok (inv_putKrx hs)) (invNext_ok hs)
  | crcAbdication => exact invNext_ite (invNext_ok (inv_putKrx (inv_abdicate hs))) (invNext_ok hs)
  | eligibilityRestore => exact invNext_ite (invNext_ok (inv_putKrx hs)) (invNext_ok hs)
  | lapse => exact invNext_execLapse hs
  | frkTargetWrite => exact invNext_ok (inv_access hs fun _ ht => inv_update (inv_followTarget (inv_set ht)))
  | holdEnter => exact invNext_execHoldEnter hs
  | wakeSend => exact invNext_ok (inv_access hs fun _ ht => inv_update (inv_setAll ht))
  | presentNRelease => exact invNext_ite (invNext_ok (inv_ledger (inv_set (inv_endAll hs)))) (invNext_ok hs)
  | presentNAssert => exact invNext_execPresentNAssert hs
  | sofJobPost => exact invNext_execSofJobPost hs
  | lookup => exact invNext_ok (inv_sofTake hs fun _ _ _ _ _ ht => inv_sofResult (inv_unitStore (inv_unitReads ht)))
  | switch => exact invNext_execSwitch hs
  | validScan => exact invNext_ok (inv_sofTake hs fun _ _ _ _ _ ht => inv_sofResult (inv_unitStore (inv_unitReads ht)))
  | directPlacement => exact invNext_execDirectPlacement hs
  | firstClassPlacement => exact invNext_execFirstClassPlacement hs
  | commitUnitSwitch => exact invNext_execCommitUnitSwitch hs
  | folding => exact invNext_execFolding hs
  | reSorting => exact invNext_execReSorting hs
  | idleTimeout => exact invNext_ite (invNext_ok (inv_putOffice hs)) (invNext_ok hs)
  | bundlePlaceTimeout => exact invNext_execBundlePlaceTimeout hs
  | repack => exact invNext_execRepack hs
  | zoneFinishRecommended => exact invNext_execZoneFinishRecommended hs
  | zoneFinishByController => exact invNext_execZoneFinishByController hs
  | mapCheckpoint => exact invNext_execMapCheckpoint hs
  | segmentLoad => exact invNext_execSegmentLoad hs
  | mapRebuild => exact invNext_execMapRebuild hs
  | refreshTrigger => exact invNext_execRefreshTrigger hs
  | locationRelease => exact invNext_execLocationRelease hs
  | cnsJobPost => exact invNext_execCnsJobPost hs
  | encrypt | decrypt => exact invNext_ok (inv_cnsTake hs fun _ _ ht => inv_cnsCrypt ht)
  | encode => exact invNext_execEncode hs
  | decode => exact invNext_execDecode hs
  | check => exact invNext_execCheck hs
  | loadWrappedKey => exact invNext_ok (inv_keyOp hs fun _ ht => by
      split
      · exact inv_putKey ht
      · exact inv_set (inv_putKey ht))
  | generateKey => exact invNext_ok (inv_keyOp hs fun _ ht => inv_store (inv_generateKey ht))
  | clearKeySlot => exact invNext_ok (inv_keyOp hs fun _ ht => inv_putKey ht)
  | clearAllKeySlots => exact invNext_ok (inv_keyOp hs fun _ ht => inv_clearKeys ht)
  | kekLoad => exact invNext_ok (inv_access hs fun _ ht => inv_update (inv_set (inv_putCons (inv_set ht))))
  | headRetirement => exact invNext_ite (invNext_ok (inv_retireHead hs)) (invNext_ok hs)
  | rebuildUnitCommit => exact invNext_execRebuildUnitCommit hs
  | parityScrub => exact invNext_execParityScrub hs
  | icreq => exact invNext_ok (inv_pdu hs fun _ _ ht => inv_ite (inv_terminate ht) (inv_emit (inv_putConn ht)))
  | h2cTermReq => exact invNext_ok (inv_pdu hs fun _ _ ht => inv_loseConn ht)
  | capsuleCmd => exact invNext_execCapsuleCmd hs
  | capsuleTake => exact invNext_execCapsuleTake hs
  | h2cData => exact invNext_execH2cData hs
  | tcpSyn => exact invNext_execTcpSyn hs
  | tcpFin => exact invNext_ok (inv_tcpEvent hs fun _ _ ht => inv_sendNet (inv_loseConn ht))
  | tcpRst => exact invNext_ok (inv_tcpEvent hs fun _ _ ht => inv_loseConn ht)
  | tcpAck => exact invNext_ok (inv_tcpEvent hs fun _ _ ht => inv_putConn ht)
  | tcpOutOfOrder => exact invNext_ok (inv_tcpEvent hs fun _ _ ht => inv_sendNet (inv_putConn ht))
  | retransmissionTimer => exact invNext_execRetransmissionTimer hs
  | delayedAckTimer => exact invNext_ok (inv_tcpEvent hs fun _ _ ht => inv_ite ht (inv_sendNet (inv_putConn ht)))
  | arp => exact invNext_ok (inv_frame hs fun _ ht => inv_ite (inv_sendNet ht) ht)
  | icmpv4 => exact invNext_execIcmpv4 hs
  | icmpv6 => exact invNext_execIcmpv6 hs
  | ndp => exact invNext_execNdp hs
  | dhcpv4 => exact invNext_execDhcpv4 hs
  | dhcpv6 => exact invNext_execDhcpv6 hs
  | responseReady => exact invNext_execResponseReady hs
  | bagsReservedForTransfer => exact invNext_execBagsReservedForTransfer hs
  | readDataReady => exact invNext_execReadDataReady hs
  | asynchronousEvent => exact invNext_ok (inv_ite (inv_raiseEvent hs) hs)
  | associationEnd => exact invNext_ok (inv_endAssoc hs)
  | keepAliveTimer => exact invNext_execKeepAliveTimer hs
  | corePostedEvent => exact invNext_execCorePostedEvent hs
  | lockGrant => exact invNext_execLockGrant hs
  | portLinkReset => exact invNext_ite (invNext_ok (inv_linkReset hs)) (invNext_ok hs)
  | ethRestart => exact invNext_ok (inv_access hs fun _ ht => inv_update (inv_linkReset ht))
  | preEnd | crc32c | payloadToBags | bagsToTransmitQueue | buildAndSendPdu | postInTrayEntry | postCoreMessage | releaseBags =>
    exact invNext_ok (inv_preAct hs)
  | preLoad => exact invNext_ok (inv_access hs fun _ ht => inv_ite (inv_update (inv_set ht)) (inv_ignored ht))
  | preLoadDone => exact invNext_execPreLoadDone hs
  | preRun => exact invNext_execPreRun hs
  | preClrPeak => exact invNext_ok (inv_access hs fun _ ht => inv_update (inv_set ht))
  | getLogPage => exact invNext_execGetLogPage hs
  | identify => exact invNext_execIdentify hs
  | abort => exact invNext_execAbort hs
  | setFeatures => exact invNext_execSetFeatures hs
  | getFeatures => exact invNext_execGetFeatures hs
  | asynchronousEventRequest => exact invNext_execAsynchronousEventRequest hs
  | namespaceCreate => exact invNext_execNamespaceCreate hs
  | namespaceDelete => exact invNext_execNamespaceDelete hs
  | firmwareCommit => exact invNext_execFirmwareCommit hs
  | firmwareImageDownload => exact invNext_ok (inv_onAdmin hs fun _ _ ht => inv_ite (inv_answer ht) (inv_answer (inv_putHost ht)))
  | keepAlive => exact invNext_execKeepAlive hs
  | formatNvm => exact invNext_execFormatNvm hs
  | sanitize => exact invNext_execSanitize hs
  | propertySet => exact invNext_execPropertySet hs
  | propertyGet => exact invNext_execPropertyGet hs
  | connect => exact invNext_execConnect hs
  | disconnect => exact invNext_execDisconnect hs
  | headServiceReport => exact invNext_ok (inv_headService hs fun _ _ ht => inv_answerWith ht)
  | headServiceRetire => exact invNext_execHeadServiceRetire hs
  | headServiceReinstate => exact invNext_ok (inv_headService hs fun _ _ ht => inv_answerWith (inv_saveDev ht))
  | shelfServiceEnter => exact invNext_ok (inv_onAdmin hs fun _ _ ht => inv_ite ht (inv_answer ht))
  | shelfHoldDeparture => exact invNext_execShelfHoldDeparture hs
  | shelfServiceWake => exact invNext_execShelfServiceWake hs
  | driveFormat => exact invNext_execDriveFormat hs
  | flush => exact invNext_ok (inv_onIo hs fun _ _ _ ht => inv_answer ht)
  | write => exact invNext_ok (inv_onIo hs fun _ _ _ ht => inv_writeNow ht)
  | read => exact invNext_ok (inv_onMediaCmd hs fun _ _ _ ht => inv_readNow ht)
  | writeZeroes => exact invNext_execWriteZeroes hs
  | datasetManagement => exact invNext_execDatasetManagement hs
  | verify => exact invNext_ok (inv_onMediaCmd hs fun _ _ _ ht => inv_readNow ht)
  | reservationRegister => exact invNext_execReservationRegister hs
  | reservationReport => exact invNext_ok (inv_onIo hs fun _ _ _ ht => inv_answerWith ht)
  | reservationAcquire => exact invNext_execReservationAcquire hs
  | reservationRelease => exact invNext_execReservationRelease hs
  | zoneOpen => exact invNext_execZoneOpen hs
  | zoneClose => exact invNext_execZoneClose hs
  | zoneFinish => exact invNext_execZoneFinish hs
  | zoneReset => exact invNext_execZoneReset hs
  | zoneManagementReceive => exact invNext_ok (inv_onIo hs fun _ _ _ ht => inv_answerWith ht)
  | zoneAppend => exact invNext_ok (inv_onIo hs fun _ _ _ ht => inv_writeNow ht)
  | store => exact invNext_ok (inv_onIo hs fun _ _ _ ht => inv_storeNow ht)
  | retrieve => exact invNext_execRetrieve hs
  | list => exact invNext_ok (inv_onIo hs fun _ _ _ ht => inv_answerWith ht)
  | delete => exact invNext_execDelete hs
  | exist => exact invNext_ok (inv_onIo hs fun _ _ _ ht => inv_answer ht)
  | readNvmeMiDataStructure => exact invNext_ok (by split <;> exact inv_miAnswer hs)
  | nvmSubsystemHealthStatusPoll | controllerHealthStatusPoll | configurationGet => exact invNext_ok (inv_miAnswer hs)
  | configurationSet => exact invNext_ok (inv_ite hs (inv_ite (inv_miAnswer hs) (inv_miAnswer (inv_putHost hs))))
  | vpdRead => exact invNext_ok (inv_miAnswer hs)
  | bpmAlloc => exact invNext_ok (inv_access hs fun _ ht => inv_update (inv_bagAlloc ht))
  | bpmRelease => exact invNext_ok (inv_access hs fun _ ht => inv_update (inv_bagRelease ht))
  | bpmShare => exact invNext_ok (inv_access hs fun _ ht => inv_update (inv_bagShare ht))
  | phcFlush => exact invNext_ok (inv_access hs fun _ ht => inv_update (inv_phcFlush ht))
  | phcWindowWrite => exact invNext_execPhcWindowWrite hs
  | dmaTailWrite => exact invNext_execDmaTailWrite hs
  | copy | fill | copyAndWriteCrc | copyAndCheckCrc => exact invNext_ok (inv_takeDocket hs)
  | dmaResume => exact invNext_ok (inv_access hs fun _ ht => inv_update (inv_ite (inv_dmaRefresh (inv_set ht)) ht))
  | dmaStop => exact invNext_execDmaStop hs
  | dramScrubRead => exact invNext_execDramScrubRead hs
  | slipTableSave => exact invNext_ite (invNext_ok (inv_update hs)) (invNext_ok hs)
  | nandQtailWrite => exact invNext_execNandQtailWrite hs
  | nandRead => exact invNext_execNandRead hs
  | nandProgram => exact invNext_execNandProgram hs
  | nandErase => exact invNext_execNandErase hs
  | sensorBroken => exact invNext_execSensorBroken hs
  | tripDiodeBroken => exact invNext_execTripDiodeBroken hs
  | throttleStep => exact invNext_ok (inv_ite (inv_setStep hs) hs)
  | thermalShutdown => exact invNext_ok (inv_ite (inv_reachShut hs) hs)
  | hardwareTrip => exact invNext_ok (inv_ite (inv_reachShut (inv_set hs)) hs)
  | thermalRestart => exact invNext_execThermalRestart hs
  | thmClrMinmax => exact invNext_ok (inv_access hs fun _ ht => inv_update ht)
  | coreFault => exact invNext_ok (inv_ite (inv_capture hs) hs)
  | fltDone => exact invNext_execFltDone hs
  | faultHandlerTimeout => exact invNext_execFaultHandlerTimeout hs
  | fltCapDataRead => exact invNext_ok (inv_access hs fun _ ht => inv_update (inv_set (inv_set ht)))
  | faultInjectionArm => exact invNext_execFaultInjectionArm hs
  | faultInjectionDisarm => exact invNext_ok (inv_access hs fun _ ht => inv_update (inv_disarm ht))
  | ldgCommit => exact invNext_execLdgCommit hs
  | ledgerFreeze => exact invNext_ok (inv_access hs fun _ ht => inv_update (inv_ldgFreeze ht))
  | ledgerUnfreeze => exact invNext_ok (inv_access hs fun _ ht => inv_update (inv_ldgUnfreeze ht))
  | ldgStageDataRead => exact invNext_ok (inv_access hs fun _ ht => inv_update (inv_set (inv_set ht)))
  | ldgValueWrite => exact invNext_ok (inv_access hs fun _ ht => inv_ite (inv_ignored ht) (inv_update (inv_set ht)))
  | preampFaultClear => exact invNext_ok (inv_putLp hs)
  | shortBrakeQuiet => exact invNext_ite (invNext_ok (inv_align hs)) (invNext_ok hs)
  | catchCoastEnd => exact invNext_ite (invNext_ok (inv_unloadCheck (inv_setSp hs))) (invNext_ok hs)
  | llcIdle => exact invNext_ite invNext_fault (invNext_ok (inv_ite (inv_set hs) hs))
  | kerrexFrameDiscard => exact invNext_execKerrexFrameDiscard hs
  | frameDropped => exact invNext_execFrameDropped hs
  | invalidPduType => exact invNext_ok (inv_ite hs (inv_pdu hs fun _ _ ht => ht))
  | thermalShutdownDeferEnd => exact invNext_ok (inv_ite (inv_releaseDeferred hs) hs)

/-- The rest of the queue is as well formed as the whole. -/
theorem inv_withQueue {s : State} {c : Instr} {l : List Instr} (hs : s.Inv) (h : s.pending = c :: l) : (s.withQueue l).Inv := by
  obtain ⟨hregs, hcells, hnand, hqueue⟩ := hs
  exact ⟨hregs, hcells, hnand, fun d hd => hqueue d (h ▸ List.mem_cons_of_mem c hd)⟩

/-- Settles O54, by cases on the queue: an idle step keeps the state, and a command keeps the forms with the rest of the queue waiting. -/
theorem stepKeepsTheInvariant : Obligations.StepKeepsTheInvariant := by
  intro s t hs hstep
  cases hq : s.pending with
  | nil =>
    rw [step_of_pending_nil hq] at hstep
    exact invNext_ok hs t hstep
  | cons c l =>
    rw [step_of_pending_cons hq] at hstep
    exact invNext_exec c (inv_withQueue hs hq) t hstep

end Sys2Proof.Machine
end

section
/-!
What the accessors of the DRAM give and keep (O60): a number, the bytes of a list, and a unit's store, which is the bytes of a list as far
as the DRAM goes (Sys2Proof/Laws/Frames.lean: healed blocks, injections and the pigeonhole cache are parts of their own).
-/
namespace Sys2Proof.Machine

theorem byte_of_cells_eq {s t : State} (h : t.cells = s.cells) (b : Nat) : t.byte b = s.byte b := by
  rw [State.byte, State.byte, h]

/-- Nothing beyond the end of the DRAM is ever written. -/
theorem byte_putByte_beyond (s : State) {a b : Nat} (v : Byte) (h : dramSize ≤ b) : (s.putByte a v).byte b = s.byte b := by
  by_cases ha : a < dramSize
  · exact byte_putByte_ne s v (by omega)
  · rw [State.putByte, if_neg ha]

/-! ### A number -/

theorem byte_putDram_outside {a b n : Nat} (v : Nat) (s : State) (h : b < a ∨ a + n ≤ b) : (s.putDram a n v).byte b = s.byte b := by
  induction n generalizing s a v with
  | zero => rfl
  | succ n ih =>
    calc ((s.putByte a (BitVec.ofNat 8 v)).putDram (a + 1) n (v / 256)).byte b
        = (s.putByte a (BitVec.ofNat 8 v)).byte b := ih _ _ (by omega)
      _ = s.byte b := byte_putByte_ne s _ (by omega)

theorem dram_putDram {a n : Nat} (v : Nat) (s : State) (h : a + n ≤ dramSize) : (s.putDram a n v).dram a n = v % 256 ^ n := by
  induction n generalizing s a v with
  | zero => simp [State.dram, Nat.mod_one]
  | succ n ih =>
    have hlow : ((s.putByte a (BitVec.ofNat 8 v)).putDram (a + 1) n (v / 256)).byte a = BitVec.ofNat 8 v := by
      rw [byte_putDram_outside _ _ (by omega), byte_putByte_same s _ (by omega)]
    have hrest := ih (v / 256) (s.putByte a (BitVec.ofNat 8 v)) (a := a + 1) (by omega)
    rw [State.dram, State.putDram, hlow, hrest, BitVec.toNat_ofNat, show 256 ^ (n + 1) = 256 * 256 ^ n from Nat.pow_succ', Nat.mod_mul]

/-! ### Bytes -/

theorem byte_putBytes_outside {a b : Nat} (l : List Byte) (s : State) (h : b < a ∨ a + l.length ≤ b ∨ dramSize ≤ b) :
    (s.putBytes a l).byte b = s.byte b := by
  induction l generalizing s a with
  | nil => rfl
  | cons x t ih =>
    rw [List.length_cons] at h
    have hx : (s.putByte a x).byte b = s.byte b := by
      rcases h with h | h | h
      · exact byte_putByte_ne s x (by omega)
      · exact byte_putByte_ne s x (by omega)
      · exact byte_putByte_beyond s x h
    exact (ih _ (by omega)).trans hx

theorem byte_putBytes_inside {a k : Nat} (l : List Byte) (s : State) (hk : k < l.length) (ha : a + k < dramSize) :
    (s.putBytes a l).byte (a + k) = l.getD k 0 := by
  induction l generalizing s a k with
  | nil => cases hk
  | cons x t ih =>
    cases k with
    | zero =>
      rw [State.putBytes, byte_putBytes_outside t _ (by omega)]
      exact byte_putByte_same s x ha
    | succ k =>
      have hk' : k < t.length := by simpa using hk
      have hnext : a + (k + 1) = a + 1 + k := by omega
      rw [State.putBytes, hnext, List.getD_cons_succ]
      exact ih _ hk' (hnext ▸ ha)

/-! ### A unit's store -/

/-- What a unit's store changes beside the bytes it writes. -/
def storeParts : List Part :=
  [.reg 0x4000, .reg 0x4020, .reg 0x4071, .reg 0x4072, .regs, .desk, .ldg, .out, .mem, .host, .pwr]

theorem only_place_putBytes (s : State) (a : Nat) (l : List Byte) : Only storeParts (s.putBytes a l) (s.place a l) := by
  unfold State.place
  cases l with
  | nil => exact Only.refl s
  | cons x t =>
    exact only_injWrite (only_foldl (Only.refl _) fun _ _ h => only_set h (may_any (by decide))) (by decide)

theorem cells_store (s : State) (a : Nat) (l : List Byte) : (s.store a l).cells = (s.putBytes a l).cells :=
  Only.cells_eq (only_phcSnoopRange (only_place_putBytes s a l) (by decide)) (by decide)

theorem byte_store (s : State) (a b : Nat) (l : List Byte) : (s.store a l).byte b = (s.putBytes a l).byte b :=
  byte_of_cells_eq (cells_store s a l) b

/-- Settles O60: a number by induction on its bytes, and a store by the bytes it writes. -/
theorem dramReadsWhatWasWritten : Obligations.DramReadsWhatWasWritten := by
  refine ⟨fun _ _ v s => dram_putDram v s, fun _ _ v _ s => byte_putDram_outside v s, fun a k l s hk ha => ?_, fun a b l s h => ?_⟩
  · exact (byte_store s a (a + k) l).trans (byte_putBytes_inside l s hk ha)
  · exact (byte_store s a b l).trans (byte_putBytes_outside l s h)

end Sys2Proof.Machine
end

section
/-!
What a register write does where the bus lets it through (O7): to a live register, to a staged copy, and to PWR_INT, an interrupt
register, whose fields are all written 1 to clear.
-/
namespace Sys2Proof.Machine

theorem unfitted_of_reaches {s : State} {i : Initiator} {a : Nat} (h : s.reaches i a = true) : s.unfitted a = false := by
  rw [State.reaches, Bool.and_eq_true, Bool.not_eq_true'] at h
  exact h.1

/-! ### The commands -/

theorem exec_registerWrite_live {i : Initiator} {a size v : Nat} {s : State} (h : isStaged a = false) :
    exec (.registerWrite i a size v) s = .next (s.access i a size fun s => s.liveWrite i a v) := by
  simp [exec, execRegisterWrite, h]

theorem exec_registerWrite_staged {i : Initiator} {a v : Nat} {s : State} (h : isStaged a = true) (hr : s.reaches i a = true) :
    exec (.registerWrite i a 4 v) s = .next (s.stageWrite i a v) := by
  simp [exec, execRegisterWrite, h, unfitted_of_reaches hr, access_of_reaches hr]

theorem exec_stagedCopyWrite {i : Initiator} {a v : Nat} {s : State} (h : isStaged a = true) (hr : s.reaches i a = true) :
    exec (.stagedCopyWrite i a 4 v) s = .next (s.stageWrite i a v) := by
  simp [exec, execStagedCopyWrite, h, unfitted_of_reaches hr, access_of_reaches hr]

theorem exec_tckCountLoRead {i : Initiator} {s : State} (h : s.reaches i 0x40020008 = true) :
    exec (.tckCountLoRead i) s =
      .next { s.set Reg.TCK_COUNT_HI_COUNT_HI (s.tick / 2 ^ 32) with bus := .read (s.tick % 2 ^ 32) } :=
  congrArg Host.Outcome.next (access_of_reaches h)

/-! ### A staged word -/

theorem stageWrite_of_owner {s : State} {n a v : Nat} (hst : stageable (liveOf a) = true) (hopen : s.sealState = 1)
    (hown : s.get Reg.SYS_SEAL_STATUS_OWNER = n) (hlive : s.deadStage (liveOf a) = false) :
    s.stageWrite (.core n) a v = { s.stage (liveOf a) (v % 2 ^ 32) with bus := .written } := by
  simp [State.stageWrite, hst, hopen, hown, hlive]

theorem stageWrite_of_closed {s : State} {i : Initiator} {a v : Nat} (hst : stageable (liveOf a) = true) (hopen : s.sealState ≠ 1) :
    s.stageWrite i a v = s.ignored i a := by
  simp [State.stageWrite, hst, hopen]

/-! ### An interrupt register -/

/-- The fields of PWR_INT (R271), as the register tables list them. -/
def powerInts : List Fld := [Reg.PWR_INT_CHOP_FAULT, Reg.PWR_INT_RECOVERED, Reg.PWR_INT_DECLARED, Reg.PWR_INT_WARN]

theorem fieldsAt_powerInt : fieldsAt 0x40300020 = powerInts := by decide

theorem leftAlone_powerInt (s : State) (v : Nat) {f : Fld} (hf : f ∈ powerInts) : s.leftAlone 0x40300020 v f = false := by
  have hrow : (rowFields.any fun g => g.key == f.key) = false := by
    revert f
    decide
  have hdma : isDmaTail f = false := by
    revert f
    decide
  have hlane : laneOf 0x40300020 = none := by decide
  simp [State.leftAlone, hrow, hdma, hlane, rowWindow, isGoReg, isPoolBase, isSofSeq]

theorem writeFld_w1c {f : Fld} (h : f.acc = .w1c) (s : State) (v : Nat) :
    s.writeFld f v = s.set f (s.get f &&& ((2 ^ f.width - 1) ^^^ v)) := by
  simp [State.writeFld, h]

/-- Two folds agree where their steps agree at every element of the list. -/
theorem foldl_eq_of_mem {α β : Type} {f g : β → α → β} {l : List α} {b : β} (h : ∀ b, ∀ a ∈ l, f b a = g b a) :
    l.foldl f b = l.foldl g b := by
  induction l generalizing b with
  | nil => rfl
  | cons a l ih =>
    calc l.foldl f (f b a) = l.foldl g (f b a) := ih fun b c hc => h b c (List.mem_cons_of_mem a hc)
      _ = l.foldl g (g b a) := by rw [h b a List.mem_cons_self]

/-- PWR_INT under a write: each field loses the bits written 1. -/
def State.clearPowerInts (s : State) (v : Nat) : State :=
  powerInts.foldl (fun t f => t.set f (t.get f &&& ((2 ^ f.width - 1) ^^^ bitsOf v f.hi f.lo))) s

theorem liveWrite_powerInt (s : State) (i : Initiator) (v : Nat) :
    s.liveWrite i 0x40300020 v = { s.clearPowerInts v with bus := .written } := by
  have hfold : powerInts.foldl (fun t f => if s.leftAlone 0x40300020 v f then t else t.writeFld f (bitsOf v f.hi f.lo)) s =
      s.clearPowerInts v :=
    foldl_eq_of_mem fun t f hf => by
      have hacc : f.acc = .w1c := by
        revert f
        decide
      rw [leftAlone_powerInt s v hf, if_neg Bool.false_ne_true, writeFld_w1c hacc]
  have hlane : laneOf 0x40300020 = none := by decide
  have harm : armOf 0x40300020 = none := by decide
  simp [State.liveWrite, State.writeDenied, fieldsAt_powerInt, hfold, State.dataWord, State.afterWrite, State.portEnable, hlane, harm]

theorem get_foldl_set_ne {g : Fld} {w : State → Fld → Nat} {l : List Fld} (s : State) (h : ∀ f ∈ l, g.key ≠ f.key) :
    (l.foldl (fun t f => t.set f (w t f)) s).get g = s.get g := by
  induction l generalizing s with
  | nil => rfl
  | cons f l ih =>
    rw [List.forall_mem_cons] at h
    exact (ih (s.set f (w s f)) h.2).trans (get_set_ne s _ h.1)

/-- A field of another register keeps its value. -/
theorem get_clearPowerInts_ne (s : State) (v : Nat) {g : Fld} (hg : g.key / 32 ≠ 0x40300020) :
    (s.clearPowerInts v).get g = s.get g := by
  have haddr : ∀ f ∈ powerInts, f.key / 32 = 0x40300020 := by decide
  exact get_foldl_set_ne s fun f hf hkey => hg (hkey ▸ haddr f hf)

/-- One bit written 1 to clear. -/
theorem clearBit_mod_two (x v : Nat) : (x &&& (1 ^^^ v % 2)) % 2 = if v % 2 = 1 then 0 else x % 2 := by
  rcases Nat.mod_two_eq_zero_or_one v with h | h <;> simp [h]

theorem get_clearPowerInts_warn (s : State) (v : Nat) :
    (s.clearPowerInts v).get Reg.PWR_INT_WARN = if v % 2 = 1 then 0 else s.get Reg.PWR_INT_WARN % 2 := by
  have hbit : bitsOf v 0 0 = v % 2 := by simp [bitsOf]
  have hothers := get_foldl_set_ne (g := Reg.PWR_INT_WARN) (w := fun t f => t.get f &&& ((2 ^ f.width - 1) ^^^ bitsOf v f.hi f.lo))
    (l := [Reg.PWR_INT_CHOP_FAULT, Reg.PWR_INT_RECOVERED, Reg.PWR_INT_DECLARED]) s (by decide)
  refine (get_set_same _ _ _).trans ((congrArg (fun x => (x &&& (1 ^^^ bitsOf v 0 0)) % 2) hothers).trans ?_)
  rw [hbit, clearBit_mod_two]

theorem only_withBus {P : List Part} {s0 s : State} {b : BusResult} (h : Only P s0 s) (hP : .bus ∈ P) :
    Only P s0 { s with bus := b } := by
  simp only [↓only_mk]
  apply parts_of h <;> first | exact .inr rfl | exact .inl hP

theorem only_clearPowerInts (s : State) (v : Nat) : Only [.reg 0x4030, .bus] s (s.clearPowerInts v) :=
  only_set (only_set (only_set (only_set (Only.refl s) (may_block (by decide))) (may_block (by decide))) (may_block (by decide)))
    (may_block (by decide))

/-- Settles O7: a bus error off size or alignment, the live register and the staged copy by the equations above, and PWR_INT field by
field. -/
theorem registerWriteRuns : Obligations.RegisterWriteRuns := by
  refine ⟨fun i a size v s hlive hoff => ?_, fun i v s hr => ?_, fun i a v s hlive hr => ?_,
    fun i a v s hst hr => ⟨exec_registerWrite_staged hst hr, exec_stagedCopyWrite hst hr⟩,
    fun n a v s hst hr hfld hopen hown hdead => ?_, fun i a v s hst hr hfld hopen => ?_, fun i s => exec_tckCountLoRead⟩
  · rw [exec_registerWrite_live hlive, access_misaligned hoff]
  · refine ⟨_, exec_registerWrite_live (by decide), ?_⟩
    rw [access_of_reaches hr, liveWrite_powerInt]
    exact ⟨rfl, get_clearPowerInts_warn s v, fun g => get_clearPowerInts_ne s v,
      only_withBus (only_clearPowerInts s v) (by decide)⟩
  · rw [exec_registerWrite_live hlive, access_of_reaches hr]
  · rw [exec_stagedCopyWrite hst hr, stageWrite_of_owner hfld hopen hown hdead]
  · rw [exec_stagedCopyWrite hst hr, stageWrite_of_closed hfld hopen]

end Sys2Proof.Machine
end

section
/-!
The frames of the commands (O55): from a state each meaning leads only to states that differ from it in the parts that Instr.touches
lists, by one lemma of Sys2Proof/Laws/Frames.lean for each operation that it calls; the arms of the dispatch are then put together. Each
lemma of an operation asks that the operation's own parts are among the command's: that check runs, and `rfl` is its proof.
-/
namespace Sys2Proof.Machine

/-! ### Where a command may write -/

/-- The blocks that the operations of Sys2Proof/Laws/Frames.lean name, in the order of their bases. -/
def blockParts : List Part :=
  [0x4000, 0x4001, 0x4002, 0x4010, 0x4011, 0x4012, 0x4013, 0x4014, 0x4020, 0x4021, 0x4022, 0x4023, 0x4024, 0x4028, 0x4030, 0x4031,
    0x4040, 0x4041, 0x4050, 0x4051, 0x4052, 0x4053, 0x4060, 0x4061, 0x4062, 0x4063, 0x4064, 0x4070, 0x4071, 0x4072].map .reg

/-- The parts that a list stands for: where it lists every register, each block too. -/
def spread (P : List Part) : List Part := if P.contains .regs then blockParts ++ P else P

/-- The parts that a command may change, with each block named where it may change every register. -/
def scope (c : Instr) : List Part := spread c.touches

theorem eq_reg_of_mem_blockParts {p : Part} (h : p ∈ blockParts) : ∃ b, p = .reg b := by
  obtain ⟨b, -, hb⟩ := List.mem_map.1 h
  exact ⟨b, hb.symm⟩

/-- The blocks named add nothing: they are among all registers. -/
theorem only_of_spread {P : List Part} {s t : State} (h : Only (spread P) s t) : Only P s t := by
  by_cases hregs : .regs ∈ P
  · refine h.widen fun p hp => ?_
    rw [spread, if_pos (List.contains_iff_mem.2 hregs), List.mem_append] at hp
    exact hp.symm.imp_right fun hp => ⟨hregs, eq_reg_of_mem_blockParts hp⟩
  · rwa [spread, if_neg (by simpa using hregs)] at h

/-- An operation's parts are among the command's: both are listed in one order. -/
theorem among {Q P : List Part} (h : Q.isSublist P = true) : ∀ p ∈ Q, p ∈ P :=
  fun _ hp => (List.isSublist_iff_sublist.1 h).subset hp

theorem listed {P : List Part} {p : Part} (h : P.contains p = true) : p ∈ P := List.contains_iff_mem.1 h

theorem writes {P : List Part} {f : Fld} (h : P.contains (.reg (blockNo f)) = true) : mayWrite P f := may_block (listed h)

theorem writesAny {P : List Part} {f : Fld} (h : P.contains .regs = true) : mayWrite P f := may_any (listed h)

theorem writesPairs {P : List Part} {l : List (Fld × Nat)} (h : (l.all fun (f, _) => P.contains (.reg (blockNo f))) = true) :
    mayPairs P l := by
  induction l with
  | nil => exact mayPairs_nil
  | cons p l ih =>
    rw [List.all_cons, Bool.and_eq_true] at h
    exact mayPairs_cons (writes h.1) (ih h.2)

theorem writesAnyPairs {P : List Part} {l : List (Fld × Nat)} (h : P.contains .regs = true) : mayPairs P l := by
  induction l with
  | nil => exact mayPairs_nil
  | cons p l ih => exact mayPairs_cons (writesAny h) ih

/-! ### Updates and outcomes -/

theorem only_self {P : List Part} {s : State} : Only P s s := Only.refl s

/-- An outcome answers, if any state, one that differs from `s` in the parts listed alone. -/
def OnlyNext (P : List Part) (s : State) (o : Host.Outcome State Fault Refusal) : Prop := ∀ t, o = .next t → Only P s t

theorem onlyNext_ok {P : List Part} {s t : State} (h : Only P s t) : OnlyNext P s (ok t) := by
  intro u hu
  cases hu
  exact h

theorem onlyNext_self {P : List Part} {s : State} : OnlyNext P s (ok s) := onlyNext_ok only_self

theorem onlyNext_fault {P : List Part} {s : State} {r : Fault} : OnlyNext P s (.fault r) := by
  intro t ht
  cases ht

theorem onlyNext_ite {P : List Part} {s : State} {c : Prop} [Decidable c] {a b : Host.Outcome State Fault Refusal}
    (ha : OnlyNext P s a) (hb : OnlyNext P s b) : OnlyNext P s (if c then a else b) := by
  split <;> assumption

section
variable {P : List Part} {s0 s : State}

/-- A step that is taken in one case alone. -/
theorem only_iteThen {c : Prop} [Decidable c] {a b : State} (hb : Only P s0 b) (ha : Only P s0 b → Only P s0 a) :
    Only P s0 (if c then a else b) := only_ite (ha hb) hb

theorem only_iteElse {c : Prop} [Decidable c] {a b : State} (ha : Only P s0 a) (hb : Only P s0 a → Only P s0 b) :
    Only P s0 (if c then a else b) := only_ite ha (hb ha)

theorem only_withCells {x : List Host.Cell} (h : Only P s0 s) (hP : .cells ∈ P) : Only P s0 { s with cells := x } := by
  simp only [↓only_mk]
  apply parts_of h <;> first | exact .inr rfl | exact .inl hP

theorem only_withEng {x : Engine} (h : Only P s0 s) (hP : .eng ∈ P) : Only P s0 { s with eng := x } := by
  simp only [↓only_mk]
  apply parts_of h <;> first | exact .inr rfl | exact .inl hP

theorem only_withEnv {x : Envelope} (h : Only P s0 s) (hP : .env ∈ P) : Only P s0 { s with env := x } := by
  simp only [↓only_mk]
  apply parts_of h <;> first | exact .inr rfl | exact .inl hP

theorem only_withPsp {x : Passport} (h : Only P s0 s) (hP : .psp ∈ P) : Only P s0 { s with psp := x } := by
  simp only [↓only_mk]
  apply parts_of h <;> first | exact .inr rfl | exact .inl hP

theorem only_withPmk {x : Pmk} (h : Only P s0 s) (hP : .pmk ∈ P) : Only P s0 { s with pmk := x } := by
  simp only [↓only_mk]
  apply parts_of h <;> first | exact .inr rfl | exact .inl hP

theorem only_withTck {x : Tck} (h : Only P s0 s) (hP : .tck ∈ P) : Only P s0 { s with tck := x } := by
  simp only [↓only_mk]
  apply parts_of h <;> first | exact .inr rfl | exact .inl hP

theorem only_withCons {x : Consign} (h : Only P s0 s) (hP : .cons ∈ P) : Only P s0 { s with cons := x } := by
  simp only [↓only_mk]
  apply parts_of h <;> first | exact .inr rfl | exact .inl hP

theorem only_withDesk {x : Desk} (h : Only P s0 s) (hP : .desk ∈ P) : Only P s0 { s with desk := x } := by
  simp only [↓only_mk]
  apply parts_of h <;> first | exact .inr rfl | exact .inl hP

theorem only_withKrx {x : Krx} (h : Only P s0 s) (hP : .krx ∈ P) : Only P s0 { s with krx := x } := by
  simp only [↓only_mk]
  apply parts_of h <;> first | exact .inr rfl | exact .inl hP

theorem only_withDecBus {x0 : Dec} {x1 : BusResult} (h : Only P s0 s) (hdec : .dec ∈ P) (hbus : .bus ∈ P) :
    Only P s0 { s with dec := x0, bus := x1 } := by
  simp only [↓only_mk]
  apply parts_of h <;> first | exact .inr rfl | exact .inl hdec | exact .inl hbus

theorem only_withHeatBus {x0 : Heat} {x1 : BusResult} (h : Only P s0 s) (hheat : .heat ∈ P) (hbus : .bus ∈ P) :
    Only P s0 { s with heat := x0, bus := x1 } := by
  simp only [↓only_mk]
  apply parts_of h <;> first | exact .inr rfl | exact .inl hheat | exact .inl hbus

theorem only_withStrapsKrx {x0 : Nat} {x1 : Krx} (h : Only P s0 s) (hstraps : .straps ∈ P) (hkrx : .krx ∈ P) :
    Only P s0 { s with straps := x0, krx := x1 } := by
  simp only [↓only_mk]
  apply parts_of h <;> first | exact .inr rfl | exact .inl hstraps | exact .inl hkrx

/-- The module with the HDA it is mated to. -/
theorem only_fitted {v : Variant} {x : Passport} (h : Only P s0 s) (hvariant : .variant ∈ P) (hpsp : .psp ∈ P) :
    Only P s0 { s with variant := v, psp := x } := ⟨.inl hvariant, (only_withPsp (x := x) h hpsp).2⟩
end

/-- Where its condition does not hold, a command changes nothing (log 9). -/
theorem onlyNext_when {P : List Part} {s t : State} {c : Prop} [Decidable c] (h : Only P s t) :
    OnlyNext P s (if c then ok t else ok s) := onlyNext_ite (onlyNext_ok h) onlyNext_self

/-- A register access that the bus lets through ends with the bus answered. -/
theorem onlyNext_access {P : List Part} {s : State} {i : Initiator} {a size : Nat} {g : State → State} {b : State → BusResult}
    (hg : ∀ t, Only P s t → Only P s (g t)) (hbus : .bus ∈ P)
    (hP : ∀ p ∈ ([.reg 0x4000, .reg 0x4020, .reg 0x4071, .reg 0x4072, .bus, .desk, .ldg, .out, .host, .pwr] : List Part), p ∈ P) :
    OnlyNext P s (ok (s.access i a size fun t => { g t with bus := b t })) :=
  onlyNext_ok (only_access only_self (fun t ht => only_withBus (hg t ht) hbus) hP)

/-! ### Registers, power and start -/

theorem onlyNext_execRegisterWrite {i : Initiator} {a size : Nat} {v : Option Nat} {s : State} :
    OnlyNext (scope (.registerWrite i a size v)) s (execRegisterWrite i a size v s) := by
  unfold execRegisterWrite
  split
  · exact onlyNext_ok (only_access only_self (fun _ ht => only_readWord ht (among rfl)) (among rfl))
  · refine onlyNext_ite ?_ (onlyNext_ok (only_access only_self (fun _ ht => only_liveWrite ht (among rfl)) (among rfl)))
    exact onlyNext_ite (onlyNext_ok (only_stageWrite only_self (among rfl))) (onlyNext_ok (only_access only_self
        (fun _ ht => only_stageWrite ht (among rfl)) (among rfl)))

theorem onlyNext_execMainsApplied {volts : Nat} {ac : Bool} {fit : Option Fitment} {s : State} :
    OnlyNext (scope (.mainsApplied volts ac fit)) s (execMainsApplied volts ac fit s) :=
  onlyNext_ite onlyNext_fault (onlyNext_ite onlyNext_self (onlyNext_ok (only_pwr (only_powerLost (by
    split
    · exact only_fitted only_self (listed rfl) (listed rfl)
    · exact only_self) (among rfl)) (listed rfl))))

theorem onlyNext_execAcDcModeChoice {crossing : Bool} {volts : Nat} {s : State} :
    OnlyNext (scope (.acDcModeChoice crossing volts)) s (execAcDcModeChoice crossing volts s) :=
  onlyNext_ite onlyNext_self (onlyNext_ite (onlyNext_ok (only_pwr (only_set only_self (writes rfl)) (listed rfl))) (onlyNext_when
      (only_pwr (only_set only_self (writes rfl)) (listed rfl))))

theorem onlyNext_execDriveBusValid {mv : Nat} {facts : StartFacts} {s : State} :
    OnlyNext (scope (.driveBusValid mv facts)) s (execDriveBusValid mv facts s) :=
  onlyNext_ite onlyNext_fault (onlyNext_ite onlyNext_self (onlyNext_ite (onlyNext_ok (only_withKrx (only_set only_self (writes rfl))
      (listed rfl))) (onlyNext_ok (only_startDrive (only_set (only_withKrx (only_set only_self (writes rfl)) (listed rfl)) (writes rfl))
      (among rfl)))))

theorem onlyNext_execAddressBound {p : Prt} {v6 : Bool} {addr : Nat} {s : State} :
    OnlyNext (scope (.addressBound p v6 addr)) s (execAddressBound p v6 addr s) := by
  unfold execAddressBound
  refine onlyNext_ite onlyNext_self ?_
  refine onlyNext_ite ?_ (onlyNext_when (only_putPort only_self (among rfl)))
  exact onlyNext_ite (onlyNext_ok (only_putPort only_self (among rfl))) (onlyNext_when (only_putPort only_self (among rfl)))

theorem onlyNext_execRecoveryMet {bulk heldMs : Nat} {present : Bool} {s : State} :
    OnlyNext (scope (.recoveryMet bulk heldMs present)) s (execRecoveryMet bulk heldMs present s) := by
  unfold execRecoveryMet
  refine onlyNext_ite onlyNext_self ?_
  refine onlyNext_ite ?_ ?_
  · exact onlyNext_ok (only_ledgerPower (only_iteElse (only_set (only_inc (only_set only_self (writes rfl)) (writes rfl)) (writes rfl))
        fun h => only_set h (writes rfl)) (among rfl))
  · exact onlyNext_ite (onlyNext_ok (only_pwr (only_set only_self (writes rfl)) (listed rfl))) (onlyNext_when (only_brownout only_self
        (among rfl)))

theorem onlyNext_execPowerLossDeclared {bulk mv : Nat} {s : State} :
    OnlyNext (scope (.powerLossDeclared bulk mv)) s (execPowerLossDeclared bulk mv s) := by
  unfold execPowerLossDeclared
  refine onlyNext_ite ?_ onlyNext_self
  exact onlyNext_ok (only_latchedAfterDeclaration (only_ledgerPower (only_iteElse (only_foldl (only_emUnloadAll (only_pwr (only_set
      (only_inc (only_set only_self (writes rfl)) (writes rfl)) (writes rfl)) (listed rfl)) (among rfl)) fun _ _ ht => only_answer ht
      (among rfl)) (fun h => only_coast (only_notAtSpeed h (among rfl)) (among rfl))) (among rfl)) (among rfl))

theorem onlyNext_execNvmSubsystemReset {bootMs : Nat} {s : State} :
    OnlyNext (scope (.nvmSubsystemReset bootMs)) s (execNvmSubsystemReset bootMs s) := by
  unfold execNvmSubsystemReset
  split
  · exact onlyNext_self
  · refine onlyNext_ite onlyNext_self ?_
    dsimp only
    split
    · exact onlyNext_ok (only_enterRecovery (only_putHost (only_noteRejects (only_abandonWork (only_resetProtocol (only_ite
          (only_raiseEvent only_self (among rfl)) only_self) (among rfl)) (among rfl)) (among rfl)) (among rfl)) (among rfl))
    · exact onlyNext_ok (only_noteStart (only_setAll (only_countTrial (only_putHost (only_noteRejects (only_abandonWork
          (only_resetProtocol (only_ite (only_raiseEvent only_self (among rfl)) only_self) (among rfl)) (among rfl)) (among rfl))
          (among rfl)) (among rfl)) (writesPairs rfl)) (among rfl))

theorem onlyNext_execGraveFaultPowerCycle {s : State} : OnlyNext (scope .graveFaultPowerCycle) s (execGraveFaultPowerCycle s) := by
  unfold execGraveFaultPowerCycle
  split
  · exact onlyNext_when (only_pwr (only_pdAllOff only_self (among rfl)) (listed rfl))
  · exact onlyNext_ite onlyNext_self (onlyNext_ok (only_pwr (only_iteThen (only_pdAllOff only_self (among rfl)) fun h => only_set h
        (writes rfl)) (listed rfl)))

theorem onlyNext_execSwitchedDomainsRestart {facts : StartFacts} {s : State} :
    OnlyNext (scope (.switchedDomainsRestart facts)) s (execSwitchedDomainsRestart facts s) := by
  unfold execSwitchedDomainsRestart
  split
  · exact onlyNext_self
  · exact onlyNext_when (only_restart only_self (among rfl))

theorem onlyNext_execChopTest {i : Initiator} {passes : Bool} {s : State} :
    OnlyNext (scope (.chopTest i passes)) s (execChopTest i passes s) :=
  onlyNext_ok (only_access only_self (fun _ ht => only_ite (only_ignored ht (among rfl)) (only_withBus (only_iteElse (only_inc ht
      (writes rfl)) fun h => only_chopFault h (among rfl)) (listed rfl))) (among rfl))

theorem onlyNext_execPdCtrlWrite {i : Initiator} {v : Nat} {s : State} : OnlyNext (scope (.pdCtrlWrite i v)) s (execPdCtrlWrite i v s) :=
  onlyNext_ok (only_access only_self (fun _ ht => only_ite (only_withBus (only_pdSwitching (only_set ht (writes rfl)) (among rfl))
      (listed rfl)) (only_ignored (only_foldl (only_pdSwitching (only_set ht (writes rfl)) (among rfl)) fun _ _ hu => only_setBit hu
      (writes rfl)) (among rfl))) (among rfl))

theorem onlyNext_execPdSwitchComplete {n : Nat} {s : State} : OnlyNext (scope (.pdSwitchComplete n)) s (execPdSwitchComplete n s) :=
  onlyNext_ite onlyNext_self (onlyNext_ok (only_pdSwitching (only_ite (only_freshKeys (only_pdSwitchOn only_self (among rfl))
      (among rfl)) (only_pdSwitchOff only_self (among rfl))) (among rfl)))

theorem onlyNext_execStagedCopyWrite {i : Initiator} {a size v : Nat} {s : State} :
    OnlyNext (scope (.stagedCopyWrite i a size v)) s (execStagedCopyWrite i a size v s) :=
  onlyNext_ite onlyNext_self (onlyNext_ite (onlyNext_ok (only_stageWrite only_self (among rfl))) (onlyNext_ok (only_access only_self
      (fun _ ht => only_stageWrite ht (among rfl)) (among rfl))))

theorem onlyNext_execSealCheckDone {s : State} : OnlyNext (scope .sealCheckDone) s (execSealCheckDone s) :=
  onlyNext_ite (onlyNext_ite (onlyNext_ok (only_set (only_set only_self (writes rfl)) (writes rfl))) (onlyNext_ok (only_rejectSet
      only_self (among rfl)))) onlyNext_self

theorem onlyNext_execEnvelopePost {core nsToNext : Nat} {s : State} :
    OnlyNext (scope (.envelopePost core nsToNext)) s (execEnvelopePost core nsToNext s) :=
  onlyNext_ok (only_sealCmd only_self (fun _ ht => only_ite (only_rejectSet ht (among rfl)) (by
    split
    · exact only_set ht (writes rfl)
    · exact only_set (only_withEnv ht (listed rfl)) (writes rfl))) (among rfl))

theorem onlyNext_execDeviceRecordRewrite {steps : Nat} {s : State} :
    OnlyNext (scope (.deviceRecordRewrite steps)) s (execDeviceRecordRewrite steps s) := by
  unfold execDeviceRecordRewrite
  split
  · exact onlyNext_self
  · exact onlyNext_ite onlyNext_self (onlyNext_ite (onlyNext_ok (only_writeDev only_self (among rfl))) (onlyNext_ok (only_withPsp
        only_self (listed rfl))))

/-! ### The tick, the mailboxes and the postmark -/

theorem onlyNext_execTickBoundary {f : TickFacts} {s : State} : OnlyNext (scope (.tickBoundary f)) s (execTickBoundary f s) := by
  unfold execTickBoundary
  refine onlyNext_ite onlyNext_fault ?_
  exact onlyNext_ok (only_watchCritical (only_ite (only_unitsTick (only_foldl (only_phcDrain (only_advance only_self (among rfl))
      (among rfl)) fun _ _ ht => only_noteRow ht (among rfl)) (among rfl)) (only_powerTick (only_foldl (only_phcDrain (only_advance
      only_self (among rfl)) (among rfl)) fun _ _ ht => only_noteRow ht (among rfl)) (among rfl))) (fun _ ht => only_heatTick
      (only_frankTick ht (among rfl)) (among rfl)) (among rfl))

theorem onlyNext_execMailboxPost {core loop : Nat} {words : List Nat} {s : State} :
    OnlyNext (scope (.mailboxPost core loop words)) s (execMailboxPost core loop words s) :=
  onlyNext_ite (onlyNext_ok (only_busError only_self (among rfl))) (onlyNext_ite (onlyNext_ok (only_withBus only_self (listed rfl)))
      (onlyNext_ok (only_withBus (only_putMail only_self (among rfl)) (listed rfl))))

theorem onlyNext_execMailboxDeliver {loop afterNs : Nat} {s : State} :
    OnlyNext (scope (.mailboxDeliver loop afterNs)) s (execMailboxDeliver loop afterNs s) := by
  unfold execMailboxDeliver
  dsimp only
  split
  · exact onlyNext_self
  · exact onlyNext_ok (only_putMail only_self (among rfl))

theorem onlyNext_execFlyingLimitCrossed {rising : Bool} {s : State} :
    OnlyNext (scope (.flyingLimitCrossed rising)) s (execFlyingLimitCrossed rising s) :=
  onlyNext_ite (onlyNext_ok (only_loadHeads (only_withPmk only_self (listed rfl)) (among rfl))) (onlyNext_ok (only_pmkRefresh
      (only_setEnergised (only_setEnergised (only_withPmk only_self (listed rfl)) (among rfl)) (among rfl)) (among rfl)))

theorem onlyNext_execPmkStreamValid {stream amp : Nat} {a b : IndexFind} {s : State} :
    OnlyNext (scope (.pmkStreamValid stream amp a b)) s (execPmkStreamValid stream amp a b s) :=
  onlyNext_ite (onlyNext_ite (onlyNext_ok (only_set (only_withTck (only_pmkRefresh (only_withPmk (only_setStream only_self (among rfl))
      (listed rfl)) (among rfl)) (listed rfl)) (writes rfl))) (onlyNext_ok (only_pmkRefresh (only_withPmk (only_setStream only_self
      (among rfl)) (listed rfl)) (among rfl)))) onlyNext_self

theorem onlyNext_execPesTimeout {x : Act} {s : State} : OnlyNext (scope (.pesTimeout x)) s (execPesTimeout x s) := by
  unfold execPesTimeout
  refine onlyNext_ite ?_ onlyNext_self
  refine onlyNext_ite (onlyNext_ok (only_wedgeDone only_self (among rfl))) ?_
  exact onlyNext_ok (only_scheduleIdle (only_ready (only_iteElse (only_putLp (only_wedgeDone only_self (among rfl)) (among rfl))
      (fun h => only_servoCommand (only_setInhibit h (among rfl)) (among rfl))) (among rfl)) (among rfl))

/-! ### The courier engine -/

theorem onlyNext_execSegmentForcedEnd {s : State} : OnlyNext (scope .segmentForcedEnd) s (execSegmentForcedEnd s) := by
  unfold execSegmentForcedEnd
  split
  · refine onlyNext_ite (onlyNext_ok (only_withEng (only_commitX (only_set only_self (writes rfl)) (among rfl)) (listed rfl))) ?_
    exact onlyNext_ok (only_schedule (only_withEng (only_commitX (only_set only_self (writes rfl)) (among rfl)) (listed rfl)) (among rfl))
  · exact onlyNext_self

theorem onlyNext_execSliceOverrun {s : State} : OnlyNext (scope .sliceOverrun) s (execSliceOverrun s) := by
  unfold execSliceOverrun
  split
  · exact onlyNext_ok (only_leave (only_sliceFail (only_noteCycles (only_setOverrun (only_putCtx only_self (among rfl)) (among rfl))
        (among rfl)) (among rfl)) (among rfl))
  · exact onlyNext_self

theorem onlyNext_execCreLoadDone {s : State} : OnlyNext (scope .creLoadDone) s (execCreLoadDone s) :=
  onlyNext_ite (onlyNext_ite (onlyNext_ok (only_set (only_set (only_withEng (only_set (only_withEng only_self (listed rfl)) (writes rfl))
      (listed rfl)) (writes rfl)) (writes rfl))) (onlyNext_ok (only_set (only_set (only_set (only_withEng only_self (listed rfl))
      (writes rfl)) (writes rfl)) (writes rfl)))) onlyNext_self

theorem onlyNext_execCreRun {i : Initiator} {s : State} : OnlyNext (scope (.creRun i)) s (execCreRun i s) :=
  onlyNext_ok (only_access only_self (fun _ ht => only_ite (only_ignored (only_set ht (writes rfl)) (among rfl)) (only_ite (only_withBus
      (only_withEng (only_set ht (writes rfl)) (listed rfl)) (listed rfl)) (only_withBus (only_withEng (only_set ht (writes rfl))
      (listed rfl)) (listed rfl)))) (among rfl))

theorem onlyNext_execCreStop {i : Initiator} {s : State} : OnlyNext (scope (.creStop i)) s (execCreStop i s) :=
  onlyNext_ok (only_access only_self (fun _ ht => only_ite (only_ignored ht (among rfl)) (only_ite (only_withBus (only_withEng (only_set
      ht (writes rfl)) (listed rfl)) (listed rfl)) (only_withBus (only_withEng (only_set ht (writes rfl)) (listed rfl)) (listed rfl))))
      (among rfl))

theorem onlyNext_execCreDmDataAccess {i : Initiator} {write : Option Nat} {s : State} :
    OnlyNext (scope (.creDmDataAccess i write)) s (execCreDmDataAccess i write s) := by
  refine onlyNext_ok (only_access only_self (fun _ ht => ?_) (among rfl))
  split
  · exact only_withBus (only_set (only_sramRead ht (among rfl)) (writes rfl)) (listed rfl)
  · exact only_ite (only_ignored ht (among rfl)) (only_withBus (only_set (only_injWrite (only_withEng ht (listed rfl)) (among rfl))
        (writes rfl)) (listed rfl))

/-! ### Lanes, receipts and recovery -/

theorem onlyNext_execLaneQtailWrite {i : Initiator} {x : Act} {tail : Nat} {s : State} :
    OnlyNext (scope (.laneQtailWrite i x tail)) s (execLaneQtailWrite i x tail s) :=
  onlyNext_ok (only_access only_self (fun _ ht => only_ite (only_ignored ht (among rfl)) (only_ite (only_ignored (only_set ht (writes (by
      cases x <;> rfl))) (among rfl)) (only_withBus (only_set ht (writes (by cases x <;> rfl))) (listed rfl)))) (among rfl))

theorem onlyNext_execSectorStart {x : Act} {sector : Nat} {dataReady dataError : Bool} {sig : List Stretch} {s : State} :
    OnlyNext (scope (.sectorStart x sector dataReady dataError sig)) s (execSectorStart x sector dataReady dataError sig s) := by
  unfold execSectorStart
  refine onlyNext_ite onlyNext_self ?_
  dsimp only
  split
  · exact onlyNext_ok (only_endSector (only_set only_self (writesAny rfl)) (among rfl))
  · refine onlyNext_ite (onlyNext_ok (only_checkMedia (only_endSector (only_set only_self (writesAny rfl)) (among rfl)) (among rfl))) ?_
    refine onlyNext_ite (onlyNext_ok (only_endSector (only_set only_self (writesAny rfl)) (among rfl))) ?_
    refine onlyNext_ite ?_ ?_
    · exact onlyNext_ok (only_iteElse (only_endSector (only_set only_self (writesAny rfl)) (among rfl)) fun h => only_set h
          (writesAny rfl))
    · split
      · exact onlyNext_ok (only_takeSector (only_endSector (only_set only_self (writesAny rfl)) (among rfl)) (among rfl))
      · split
        · refine onlyNext_ite ?_ ?_
          · exact onlyNext_ok (only_takeSector (only_checkMedia (only_measureOn (only_endSector (only_set only_self (writesAny rfl))
                (among rfl)) (among rfl)) (among rfl)) (among rfl))
          · exact onlyNext_ok (only_checkMedia (only_measureOn (only_endSector (only_set only_self (writesAny rfl)) (among rfl))
                (among rfl)) (among rfl))
        · exact onlyNext_ok (only_checkMedia (only_measureOn (only_endSector (only_set only_self (writesAny rfl)) (among rfl))
              (among rfl)) (among rfl))

theorem onlyNext_execHeaterLeadElapsed {x : Act} {us : Nat} {s : State} :
    OnlyNext (scope (.heaterLeadElapsed x us)) s (execHeaterLeadElapsed x us s) := by
  unfold execHeaterLeadElapsed
  split
  · exact onlyNext_when (only_iteThen (only_mapOp only_self (among rfl)) fun h => only_set h (writes (by cases x <;> rfl)))
  · exact onlyNext_self

theorem onlyNext_execWriteInhibitReceived {x : Act} {lastFourT : Bool} {s : State} :
    OnlyNext (scope (.writeInhibitReceived x lastFourT)) s (execWriteInhibitReceived x lastFourT s) := by
  unfold execWriteInhibitReceived
  split
  · refine onlyNext_ite ?_ onlyNext_self
    refine onlyNext_ok (only_checkMedia (only_endOp ?_ (among rfl)) (among rfl))
    split
    · exact only_ite (only_set (only_putLane only_self (among rfl)) (writes (by cases x <;> rfl))) (only_decide (only_putLane (only_set
          (only_putLane only_self (among rfl)) (writes (by cases x <;> rfl))) (among rfl)) (among rfl))
    · exact only_set (only_putLane only_self (among rfl)) (writes (by cases x <;> rfl))
  · exact onlyNext_self

theorem onlyNext_execFirstPassDone {x : Act} {sector half : Nat} {busErr : Bool} {s : State} :
    OnlyNext (scope (.firstPassDone x sector half busErr)) s (execFirstPassDone x sector half busErr s) := by
  unfold execFirstPassDone
  split
  · exact onlyNext_self
  · dsimp only
    split
    · exact onlyNext_ok (only_decodeOn (only_passedBy only_self (among rfl)) (among rfl))
    · split
      · exact onlyNext_ok (only_decodeOn (only_passedBy only_self (among rfl)) (among rfl))
      · split
        · exact onlyNext_ok (only_decodeOn (only_passedBy only_self (among rfl)) (among rfl))
        · exact onlyNext_ok (only_handOver (only_countRead (only_decodeOn (only_passedBy only_self (among rfl)) (among rfl)) (among rfl))
              (among rfl))
        · refine onlyNext_ite ?_ ?_
          · exact onlyNext_ok (only_handOver (only_countRead (only_decodeOn (only_passedBy only_self (among rfl)) (among rfl))
                (among rfl)) (among rfl))
          · refine onlyNext_ite ?_ ?_
            · exact onlyNext_ok (only_decide (only_freeStore (only_countRead (only_decodeOn (only_passedBy only_self (among rfl))
                  (among rfl)) (among rfl)) (among rfl)) (among rfl))
            · exact onlyNext_ok (only_decide (only_mirrorServes (only_deliverTo (only_freeStore (only_countRead (only_decodeOn
                  (only_passedBy only_self (among rfl)) (among rfl)) (among rfl)) (among rfl)) (among rfl)) (among rfl)) (among rfl))

theorem onlyNext_execRecoveryStoreCopyDone {x : Act} {sector : Nat} {cmd : Option Nat} {lpn sect : Nat} {s : State} :
    OnlyNext (scope (.recoveryStoreCopyDone x sector cmd lpn sect)) s (execRecoveryStoreCopyDone x sector cmd lpn sect s) := by
  unfold execRecoveryStoreCopyDone
  split
  · exact onlyNext_ok (only_takePlace (only_freeStore (only_store only_self (among rfl)) (among rfl)) (among rfl))
  · split
    · exact onlyNext_ite onlyNext_self (onlyNext_ok (only_takePlace (only_putRcv only_self (among rfl)) (among rfl)))
    · exact onlyNext_self
  · exact onlyNext_self

theorem onlyNext_execReceiptDecided {x : Act} {sector half : Nat} {s : State} :
    OnlyNext (scope (.receiptDecided x sector half)) s (execReceiptDecided x sector half s) := by
  unfold execReceiptDecided
  split
  · exact onlyNext_self
  · dsimp only
    split
    · exact onlyNext_ok (only_iteThen (only_passedBy only_self (among rfl)) fun h => only_decodeOn h (among rfl))
    · refine onlyNext_ite (onlyNext_ok (only_iteThen (only_passedBy only_self (among rfl)) fun h => only_decodeOn h (among rfl))) ?_
      exact onlyNext_ok (only_decide (only_freeStore (only_ite (only_inc (only_setAll (only_iteThen (only_passedBy only_self (among rfl))
          fun h => only_decodeOn h (among rfl)) (writesAnyPairs rfl)) (writesAny rfl)) (only_iteThen (only_setAll (only_iteThen
          (only_passedBy only_self (among rfl)) fun h => only_decodeOn h (among rfl)) (writesAnyPairs rfl)) fun h => only_inc h
          (writesAny rfl))) (among rfl)) (among rfl))

theorem onlyNext_execSectorRewrite {x : Act} {k : Nat} {s : State} :
    OnlyNext (scope (.sectorRewrite x k)) s (execSectorRewrite x k s) := by
  unfold execSectorRewrite
  dsimp only
  split
  · exact onlyNext_self
  · refine onlyNext_ite onlyNext_self ?_
    exact onlyNext_ite (onlyNext_ok (only_firmwareOp (only_putLane only_self (among rfl)) (among rfl))) (onlyNext_ok (only_relocate
        only_self (among rfl)))

theorem onlyNext_execLaneOperationComplete {x : Act} {k : Nat} {s : State} :
    OnlyNext (scope (.laneOperationComplete x k)) s (execLaneOperationComplete x k s) := by
  unfold execLaneOperationComplete
  split
  · exact onlyNext_self
  · refine onlyNext_ite onlyNext_self ?_
    exact onlyNext_ok (only_abortOn (only_complete (only_noteMove (only_putLane (only_iteThen (only_noteNotPlaced (only_writeTaps
        only_self (among rfl)) (among rfl)) fun h => only_measureSkew h (among rfl)) (among rfl)) (among rfl)) (among rfl)) (among rfl))

theorem onlyNext_execHeadEnClear {i : Initiator} {x : Act} {mask : Nat} {s : State} :
    OnlyNext (scope (.headEnClear i x mask)) s (execHeadEnClear i x mask s) :=
  onlyNext_access (fun _ ht => by
    split
    · exact only_iteThen (only_set ht (writes (by cases x <;> rfl))) fun h => only_endOp h (among rfl)
    · exact only_set ht (writes (by cases x <;> rfl))) (listed rfl) (among rfl)

theorem onlyNext_execZoneEntryCheckDone {x : Act} {k : Nat} {s : State} :
    OnlyNext (scope (.zoneEntryCheckDone x k)) s (execZoneEntryCheckDone x k s) :=
  onlyNext_ite (onlyNext_ite (onlyNext_ok (only_set (only_set (only_putLane only_self (among rfl)) (writesAny rfl)) (writesAny rfl)))
      (onlyNext_ok (only_zoneFail (only_putLane only_self (among rfl)) (among rfl)))) onlyNext_self

theorem onlyNext_execDecoderHalfLoss {half : Nat} {s : State} : OnlyNext (scope (.decoderHalfLoss half)) s (execDecoderHalfLoss half s) :=
  onlyNext_when (only_event (only_releaseHalf (only_set (only_setBit (only_setHalf only_self (among rfl)) (writes rfl)) (writes (by split
      <;> rfl))) (among rfl)) (among rfl))

theorem onlyNext_execDecoderHalfDisable {i : Initiator} {half : Nat} {s : State} :
    OnlyNext (scope (.decoderHalfDisable i half)) s (execDecoderHalfDisable i half s) :=
  onlyNext_ok (only_access only_self (fun _ ht => only_ite (only_ignored ht (among rfl)) (only_withDecBus (only_releaseHalf (only_setHalf
      (only_set ht (writes (by unfold halfEn; split <;> rfl))) (among rfl)) (among rfl)) (listed rfl) (listed rfl))) (among rfl))

theorem onlyNext_execRecoveryJobPost {i : Initiator} {tail : Nat} {s : State} :
    OnlyNext (scope (.recoveryJobPost i tail)) s (execRecoveryJobPost i tail s) :=
  onlyNext_ok (only_access only_self (fun _ ht => only_ite (only_ignored ht (among rfl)) (only_withBus (only_set (only_latchJobs ht
      (among rfl)) (writes rfl)) (listed rfl))) (among rfl))

theorem onlyNext_execDecodeSampleArea {half : Nat} {s : State} :
    OnlyNext (scope (.decodeSampleArea half)) s (execDecodeSampleArea half s) :=
  onlyNext_ite (onlyNext_ok (only_runJob only_self (among rfl))) (onlyNext_ok (only_runJob (only_takeJob only_self (fun _ _ _ _ _ _ _ ht
      => only_ite (only_beginJob ht (among rfl)) (only_jobResult ht (among rfl))) (among rfl)) (among rfl)))

theorem onlyNext_execDecodeRunningSum {half : Nat} {s : State} :
    OnlyNext (scope (.decodeRunningSum half)) s (execDecodeRunningSum half s) :=
  onlyNext_ite (onlyNext_ok (only_runJob only_self (among rfl))) (onlyNext_ok (only_runJob (only_takeJob only_self (fun _ _ _ _ _ _ _ ht
      => only_beginJob ht (among rfl)) (among rfl)) (among rfl)))

theorem onlyNext_execCancelJob {s : State} : OnlyNext (scope .cancelJob) s (execCancelJob s) := by
  refine onlyNext_ok (only_takeJob only_self (fun _ _ _ _ _ _ _ ht => ?_) (among rfl))
  split
  · exact only_jobResult ht (among rfl)
  · refine only_ite (only_jobResult ht (among rfl)) ?_
    exact only_jobResult (only_iteElse (only_freePlaceRcv (only_ite (only_ladderFails ht (among rfl)) ht) (among rfl))
        fun h => only_freePlaceRcv h (among rfl)) (among rfl)

theorem onlyNext_execHeldSampleRungsDone {place half : Nat} {s : State} :
    OnlyNext (scope (.heldSampleRungsDone place half)) s (execHeldSampleRungsDone place half s) := by
  unfold execHeldSampleRungsDone
  split
  · exact onlyNext_self
  · dsimp only
    split
    · exact onlyNext_ok (only_runWork only_self (among rfl))
    · split
      · exact onlyNext_ite (onlyNext_ok (only_heldEnd (only_runWork only_self (among rfl)) (among rfl))) (onlyNext_ok (only_runWork
            only_self (among rfl)))
      · exact onlyNext_ok (only_runWork only_self (among rfl))

theorem onlyNext_execEarlyReconstructionStart {place : Nat} {s : State} :
    OnlyNext (scope (.earlyReconstructionStart place)) s (execEarlyReconstructionStart place s) := by
  unfold execEarlyReconstructionStart
  split
  · exact onlyNext_self
  · exact onlyNext_when (only_putPlace only_self (among rfl))

theorem onlyNext_execLadderTimeLimit {place : Nat} {s : State} :
    OnlyNext (scope (.ladderTimeLimit place)) s (execLadderTimeLimit place s) := by
  unfold execLadderTimeLimit
  split
  · exact onlyNext_self
  · exact onlyNext_when (only_toSix only_self (among rfl))

theorem onlyNext_execReallocation {s : State} : OnlyNext (scope .reallocation) s (execReallocation s) := by
  unfold execReallocation
  refine onlyNext_ite onlyNext_self ?_
  split
  · exact onlyNext_ok (only_moveOn only_self (among rfl))
  · split
    · exact onlyNext_self
    · refine onlyNext_ite (onlyNext_ok (only_putRcv only_self (among rfl))) ?_
      refine onlyNext_ite ?_ ?_
      · exact onlyNext_when (only_moveOp (only_putRcv only_self (among rfl)) (among rfl))
      · exact onlyNext_ite (onlyNext_ok (only_ite (only_moveFromBand (only_putRcv only_self (among rfl)) (among rfl)) only_self))
            (onlyNext_ok (only_putRcv only_self (among rfl)))

/-! ### Actuators -/

theorem onlyNext_execSeek {x : Act} {s : State} : OnlyNext (scope (.seek x)) s (execSeek x s) := by
  unfold execSeek
  split
  · exact onlyNext_self
  · exact onlyNext_ok (only_takeMotion only_self (among rfl))

theorem onlyNext_execPairWaitExpiry {x : Act} {s : State} : OnlyNext (scope (.pairWaitExpiry x)) s (execPairWaitExpiry x s) := by
  unfold execPairWaitExpiry
  dsimp only
  split
  · exact onlyNext_when (only_approvePair (only_putLp only_self (among rfl)) (among rfl))
  · exact onlyNext_self

theorem onlyNext_execSeekDone {x : Act} {s : State} : OnlyNext (scope (.seekDone x)) s (execSeekDone x s) := by
  unfold execSeekDone
  dsimp only
  split
  · refine onlyNext_ite ?_ onlyNext_self
    exact onlyNext_ok (only_runNext (only_ite (only_areply (only_freeSeek (only_landed only_self (among rfl)) (among rfl)) (among rfl))
        (only_areply (only_freeSeek (only_landed only_self (among rfl)) (among rfl)) (among rfl))) (among rfl))
  · exact onlyNext_self

theorem onlyNext_execSeekSettleTimeout {x : Act} {sinceArrival : Nat} {s : State} :
    OnlyNext (scope (.seekSettleTimeout x sinceArrival)) s (execSeekSettleTimeout x sinceArrival s) := by
  unfold execSeekSettleTimeout
  dsimp only
  split
  · refine onlyNext_ite ?_ onlyNext_self
    exact onlyNext_ok (only_runNext (only_areply (only_setInhibit (only_setMode (only_putLp (only_freeSeek (only_freePartner only_self
        (among rfl)) (among rfl)) (among rfl)) (among rfl)) (among rfl)) (among rfl)) (among rfl))
  · exact onlyNext_self

theorem onlyNext_execHead {x : Act} {s : State} : OnlyNext (scope (.head x)) s (execHead x s) := by
  unfold execHead
  split
  · exact onlyNext_self
  · exact onlyNext_ok (only_takeMotion only_self (among rfl))

theorem onlyNext_execHeadSwitchDone {x : Act} {s : State} : OnlyNext (scope (.headSwitchDone x)) s (execHeadSwitchDone x s) := by
  unfold execHeadSwitchDone
  refine onlyNext_ite ?_ onlyNext_self
  dsimp only
  split
  · exact onlyNext_ok (only_runNext (only_areply (only_landed only_self (among rfl)) (among rfl)) (among rfl))
  · exact onlyNext_ok (only_runNext (only_landed only_self (among rfl)) (among rfl))

theorem onlyNext_execHeadSwitchTimeout {x : Act} {s : State} : OnlyNext (scope (.headSwitchTimeout x)) s (execHeadSwitchTimeout x s) := by
  unfold execHeadSwitchTimeout
  dsimp only
  split
  · exact onlyNext_when (only_approvePair (only_putLp only_self (among rfl)) (among rfl))
  · exact onlyNext_self

theorem onlyNext_execOffset {x : Act} {s : State} : OnlyNext (scope (.offset x)) s (execOffset x s) := by
  unfold execOffset
  split
  · exact onlyNext_self
  · dsimp only
    split
    · exact onlyNext_ok (only_areply (only_discard only_self (among rfl)) (among rfl))
    · exact onlyNext_ok (only_iteElse (only_putLp (only_discard only_self (among rfl)) (among rfl)) fun h => only_setInhibit h
          (among rfl))
    · exact onlyNext_ok (only_iteElse (only_putLp (only_discard only_self (among rfl)) (among rfl)) fun h => only_setInhibit h
          (among rfl))
    · exact onlyNext_ok (only_iteElse (only_putLp (only_discard only_self (among rfl)) (among rfl)) fun h => only_setInhibit h
          (among rfl))
    · exact onlyNext_ok (only_iteElse (only_putLp (only_discard only_self (among rfl)) (among rfl)) fun h => only_setInhibit h
          (among rfl))
    · exact onlyNext_ok (only_areply (only_discard only_self (among rfl)) (among rfl))

theorem onlyNext_execOffsetDone {x : Act} {s : State} : OnlyNext (scope (.offsetDone x)) s (execOffsetDone x s) := by
  unfold execOffsetDone
  dsimp only
  split
  · exact onlyNext_when (only_areply (only_setInhibit (only_putLp only_self (among rfl)) (among rfl)) (among rfl))
  · exact onlyNext_self

theorem onlyNext_execLoad {x : Act} {rCoil : Nat} {s : State} : OnlyNext (scope (.load x rCoil)) s (execLoad x rCoil s) := by
  unfold execLoad
  split
  · exact onlyNext_self
  · exact onlyNext_ok (only_takeMotion only_self (among rfl))

theorem onlyNext_execLoadLanded {x : Act} {s : State} : OnlyNext (scope (.loadLanded x)) s (execLoadLanded x s) := by
  unfold execLoadLanded
  dsimp only
  split
  · exact onlyNext_when (only_runNext (only_areply (only_landed (only_set (only_setRamp only_self (among rfl)) (writesAny rfl))
        (among rfl)) (among rfl)) (among rfl))
  · exact onlyNext_self

theorem onlyNext_execLoadTimeout {x : Act} {s : State} : OnlyNext (scope (.loadTimeout x)) s (execLoadTimeout x s) := by
  unfold execLoadTimeout
  dsimp only
  split
  · exact onlyNext_when (only_areply (only_beginUnload only_self (among rfl)) (among rfl))
  · exact onlyNext_self

theorem onlyNext_execUnload {x : Act} {s : State} : OnlyNext (scope (.unload x)) s (execUnload x s) := by
  unfold execUnload
  split
  · exact onlyNext_self
  · refine onlyNext_ite (onlyNext_ok (only_refuse (only_discard only_self (among rfl)) (among rfl))) ?_
    dsimp only
    split
    · exact onlyNext_ok (only_refuse (only_refuseWaiting (only_refuseCur (only_freePartner (only_discard only_self (among rfl))
          (among rfl)) (among rfl)) (among rfl)) (among rfl))
    · exact onlyNext_ok (only_beginUnload (only_refuseWaiting (only_refuseCur (only_freePartner (only_discard only_self (among rfl))
          (among rfl)) (among rfl)) (among rfl)) (among rfl))

theorem onlyNext_execUnloadLatched {x : Act} {s : State} : OnlyNext (scope (.unloadLatched x)) s (execUnloadLatched x s) :=
  onlyNext_when (only_runNext (by
    split
    · exact only_areply (only_parkLoop only_self (among rfl)) (among rfl)
    · exact only_parkLoop only_self (among rfl)) (among rfl))

theorem onlyNext_execRetire {x : Act} {s : State} : OnlyNext (scope (.retire x)) s (execRetire x s) := by
  unfold execRetire
  split
  · exact onlyNext_self
  · exact onlyNext_ok (only_retire (only_discard only_self (among rfl)) (among rfl))

theorem onlyNext_execCoef {x : Act} {s : State} : OnlyNext (scope (.coef x)) s (execCoef x s) := by
  unfold execCoef
  split
  · exact onlyNext_self
  · exact onlyNext_ite (onlyNext_ok (only_putLp (only_discard only_self (among rfl)) (among rfl))) (onlyNext_ok (only_areply
        (only_discard only_self (among rfl)) (among rfl)))

theorem onlyNext_execEmergencyUnload {trigger : Nat} {x : Act} {s : State} :
    OnlyNext (scope (.emergencyUnload trigger x)) s (execEmergencyUnload trigger x s) := by
  unfold execEmergencyUnload
  refine onlyNext_ite onlyNext_self ?_
  refine onlyNext_ite (onlyNext_ok (only_emUnloadAll only_self (among rfl))) ?_
  refine onlyNext_ite ?_ (onlyNext_ok (only_emUnload only_self (among rfl)))
  split
  · exact onlyNext_ok (only_emUnload (only_capture (only_closeRec only_self (among rfl)) (among rfl)) (among rfl))
  · exact onlyNext_ok (only_emUnload only_self (among rfl))

theorem onlyNext_execEmUnloadLatched {x : Act} {s : State} : OnlyNext (scope (.emUnloadLatched x)) s (execEmUnloadLatched x s) := by
  unfold execEmUnloadLatched
  dsimp only
  split
  · exact onlyNext_ok (only_runNext (only_latchedAfterDeclaration (only_areply (only_parkLoop only_self (among rfl)) (among rfl))
        (among rfl)) (among rfl))
  · exact onlyNext_self

theorem onlyNext_execRetractEnd {x : Act} {s : State} : OnlyNext (scope (.retractEnd x)) s (execRetractEnd x s) := by
  unfold execRetractEnd
  refine onlyNext_ite ?_ onlyNext_self
  extract_lets s₁ s₂ s₃
  have h₂ : Only (scope (.retractEnd x)) s s₂ := by
    dsimp only [s₂]
    split
    · exact only_areply (only_freeSeek (only_freePartner (only_set only_self (writesAny rfl)) (among rfl)) (among rfl)) (among rfl)
    · exact only_set only_self (writesAny rfl)
  have h₃ : Only (scope (.retractEnd x)) s s₃ := by
    dsimp only [s₃]
    split
    · exact only_areply h₂ (among rfl)
    · exact h₂
  exact onlyNext_ok (only_latchedAfterDeclaration (only_parkLoop h₃ (among rfl)) (among rfl))

theorem onlyNext_execPreampFault {x : Act} {status : Nat} {s : State} :
    OnlyNext (scope (.preampFault x status)) s (execPreampFault x status s) := by
  refine onlyNext_when (only_areply (only_putLp ?_ (among rfl)) (among rfl))
  split
  · exact only_set (only_emit (only_inc (only_set only_self (writes (by cases x <;> rfl))) (writes (by cases x <;> rfl))) (among rfl))
        (writes (by cases x <;> rfl))
  · exact only_set (only_inc (only_set only_self (writes (by cases x <;> rfl))) (writes (by cases x <;> rfl))) (writes (by cases x <;>
        rfl))

theorem onlyNext_execAspFrameSend {i : Initiator} {x : Act} {rd : Bool} {addr data returned : Nat} {s : State} :
    OnlyNext (scope (.aspFrameSend i x rd addr data returned)) s (execAspFrameSend i x rd addr data returned s) := by
  refine onlyNext_ok (only_access only_self (fun _ ht => ?_) (among rfl))
  refine only_ite (only_set (only_set (only_setAll (only_withBus ht (listed rfl)) (writesPairs (by cases x <;> rfl))) (writes (by cases x
      <;> rfl))) (writes (by cases x <;> rfl))) ?_
  refine only_ite (only_putLp (only_set (only_setAll (only_withBus ht (listed rfl)) (writesPairs (by cases x <;> rfl))) (writes (by cases
      x <;> rfl))) (among rfl)) ?_
  exact only_iteThen (only_set (only_emit (only_setAll (only_withBus ht (listed rfl)) (writesPairs (by cases x <;> rfl))) (among rfl))
      (writes (by cases x <;> rfl))) fun h => only_set h (writes (by cases x <;> rfl))

/-! ### The spindle -/

theorem onlyNext_execStart {s : State} : OnlyNext (scope .start) s (execStart s) := by
  unfold execStart
  split
  · exact onlyNext_self
  · refine onlyNext_ite ?_ (onlyNext_ok (only_start (only_discard only_self (among rfl)) (among rfl)))
    exact onlyNext_when (only_start (only_discard (only_commitSpinup only_self (among rfl)) (among rfl)) (among rfl))

theorem onlyNext_execStop {s : State} : OnlyNext (scope .stop) s (execStop s) := by
  unfold execStop
  split
  · exact onlyNext_self
  · exact onlyNext_ok (only_stop (only_discard only_self (among rfl)) (among rfl))

theorem onlyNext_execHold {s : State} : OnlyNext (scope .hold) s (execHold s) := by
  unfold execHold
  split
  · exact onlyNext_self
  · refine onlyNext_ite (onlyNext_ok (only_resumeRun (only_discard only_self (among rfl)) (among rfl))) ?_
    exact onlyNext_ite (onlyNext_ok (only_spRefuse (only_discard only_self (among rfl)) (among rfl))) (onlyNext_ok (only_spRefuse
        (only_discard only_self (among rfl)) (among rfl)))

theorem onlyNext_execSensePeriodEnd {s : State} : OnlyNext (scope .sensePeriodEnd) s (execSensePeriodEnd s) :=
  onlyNext_ite (onlyNext_ite (onlyNext_ok (only_align only_self (among rfl))) (onlyNext_ite (onlyNext_ok (only_setSp only_self
      (among rfl))) (onlyNext_ok (only_putSpn (only_setInv only_self (among rfl)) (among rfl))))) onlyNext_self

theorem onlyNext_execAlignStepEnd {s : State} : OnlyNext (scope .alignStepEnd) s (execAlignStepEnd s) :=
  onlyNext_ite (onlyNext_ite (onlyNext_ok (only_set (only_setSp (only_putMotor only_self (among rfl)) (among rfl)) (writes rfl)))
      (onlyNext_ok (only_align only_self (among rfl)))) onlyNext_self

theorem onlyNext_execCatchResult {s : State} : OnlyNext (scope .catchResult) s (execCatchResult s) :=
  onlyNext_ite (onlyNext_ite (onlyNext_ok (only_takeOver only_self (among rfl))) (onlyNext_ok (only_catchFail only_self (among rfl))))
      (onlyNext_when (only_catchFail only_self (among rfl)))

theorem onlyNext_execStartFailure {s : State} : OnlyNext (scope .startFailure) s (execStartFailure s) :=
  onlyNext_ite (onlyNext_ite (onlyNext_ok (only_setSp (only_spFault (only_set (only_putSpn (only_coast only_self (among rfl))
      (among rfl)) (writes rfl)) (among rfl)) (among rfl))) (onlyNext_ok (only_putSpn (only_coast only_self (among rfl)) (among rfl))))
      onlyNext_self

theorem onlyNext_execAtSpeedReached {s : State} : OnlyNext (scope .atSpeedReached) s (execAtSpeedReached s) := by
  unfold execAtSpeedReached
  refine onlyNext_ite ?_ onlyNext_self
  dsimp only
  split
  · exact onlyNext_ok (only_reply (only_putSpn (only_iteThen (only_withPmk (only_set (only_set only_self (writes rfl)) (writes rfl))
        (listed rfl)) fun h => only_commitRun h (among rfl)) (among rfl)) (among rfl))
  · exact onlyNext_ok (only_iteThen (only_withPmk (only_set (only_set only_self (writes rfl)) (writes rfl)) (listed rfl))
        fun h => only_commitRun h (among rfl))

theorem onlyNext_execPostmarkAngleHandover {s : State} : OnlyNext (scope .postmarkAngleHandover) s (execPostmarkAngleHandover s) := by
  unfold execPostmarkAngleHandover
  split
  · refine onlyNext_ite ?_ onlyNext_self
    refine onlyNext_ite ?_ ?_
    · exact onlyNext_ite (onlyNext_ok (only_putSpn (only_putMotor (only_putMotor only_self (among rfl)) (among rfl)) (among rfl)))
          (onlyNext_ok (only_putMotor only_self (among rfl)))
    · exact onlyNext_ite (onlyNext_ok (only_spFault (only_set (only_putMotor only_self (among rfl)) (writes rfl)) (among rfl)))
          (onlyNext_ok (only_set (only_putMotor only_self (among rfl)) (writes rfl)))
  · exact onlyNext_self

theorem onlyNext_execObserverLost {s : State} : OnlyNext (scope .observerLost) s (execObserverLost s) :=
  onlyNext_ite (onlyNext_ite (onlyNext_ok (only_putSpn only_self (among rfl))) (onlyNext_when (only_observerLost only_self (among rfl))))
      onlyNext_self

theorem onlyNext_execInverterDisable {busMv : Nat} {s : State} :
    OnlyNext (scope (.inverterDisable busMv)) s (execInverterDisable busMv s) :=
  onlyNext_ite (onlyNext_ite (onlyNext_ok (only_coast (only_set (only_inc (only_set only_self (writes rfl)) (writes rfl)) (writes rfl))
      (among rfl))) (onlyNext_ok (only_setInv (only_set (only_inc (only_set only_self (writes rfl)) (writes rfl)) (writes rfl))
      (among rfl)))) onlyNext_self

theorem onlyNext_execInverterReenable {busMv us : Nat} {s : State} :
    OnlyNext (scope (.inverterReenable busMv us)) s (execInverterReenable busMv us s) :=
  onlyNext_ite (onlyNext_ite (onlyNext_ite (onlyNext_ok (only_set (only_setSp (only_setInv (only_set only_self (writes rfl)) (among rfl))
      (among rfl)) (writes rfl))) (onlyNext_ok (only_setSp (only_set only_self (writes rfl)) (among rfl)))) (onlyNext_ok (only_set
      only_self (writes rfl)))) onlyNext_self

theorem onlyNext_execLegFault {leg : Nat} {s : State} : OnlyNext (scope (.legFault leg)) s (execLegFault leg s) := by
  unfold execLegFault
  refine onlyNext_ite ?_ onlyNext_self
  refine onlyNext_ite ?_ ?_
  · exact onlyNext_ok (only_emUnloadAll (only_putSpn (only_spFault (only_notAtSpeed (only_coast (only_event (only_set (only_setBit
        only_self (writes rfl)) (writes rfl)) (among rfl)) (among rfl)) (among rfl)) (among rfl)) (among rfl)) (among rfl))
  · refine onlyNext_ite ?_ ?_
    · exact onlyNext_ok (only_setSp (only_setInv (only_putSpn (only_event (only_set (only_setBit only_self (writes rfl)) (writes rfl))
          (among rfl)) (among rfl)) (among rfl)) (among rfl))
    · exact onlyNext_ok (only_set (only_setSp (only_setInv (only_putSpn (only_event (only_set (only_setBit only_self (writes rfl))
          (writes rfl)) (among rfl)) (among rfl)) (among rfl)) (among rfl)) (writes rfl))

theorem onlyNext_execSpareLegReady {s : State} : OnlyNext (scope .spareLegReady) s (execSpareLegReady s) := by
  unfold execSpareLegReady
  split
  · refine onlyNext_ite ?_ onlyNext_self
    refine onlyNext_ite ?_ ?_
    · exact onlyNext_ok (only_sense (only_putMotor (only_putSpn (only_reply (only_set (only_set only_self (writes rfl)) (writes rfl))
          (among rfl)) (among rfl)) (among rfl)) (among rfl))
    · refine onlyNext_ite ?_ ?_
      · exact onlyNext_ok (only_observerLost (only_iteThen (only_setSp (only_setInv (only_putMotor (only_putSpn (only_reply (only_set
            (only_set only_self (writes rfl)) (writes rfl)) (among rfl)) (among rfl)) (among rfl)) (among rfl)) (among rfl))
            fun h => only_set h (writes rfl)) (among rfl))
      · exact onlyNext_ok (only_iteThen (only_setSp (only_setInv (only_putMotor (only_putSpn (only_reply (only_set (only_set only_self
            (writes rfl)) (writes rfl)) (among rfl)) (among rfl)) (among rfl)) (among rfl)) (among rfl)) fun h => only_set h (writes rfl))
  · exact onlyNext_self

theorem onlyNext_execSpindleStopped {s : State} : OnlyNext (scope .spindleStopped) s (execSpindleStopped s) := by
  unfold execSpindleStopped
  refine onlyNext_ite ?_ onlyNext_self
  dsimp only
  split
  · exact onlyNext_ok (only_reply (only_putSpn (only_set (only_set (only_set (only_setSp (only_setInv only_self (among rfl)) (among rfl))
        (writes rfl)) (writes rfl)) (writes rfl)) (among rfl)) (among rfl))
  · exact onlyNext_ok (only_putSpn (only_set (only_set (only_set (only_setSp (only_setInv only_self (among rfl)) (among rfl))
        (writes rfl)) (writes rfl)) (writes rfl)) (among rfl))

/-! ### The Kerrex bus -/

theorem onlyNext_execBeaconReceived {f : List Nat} {s : State} : OnlyNext (scope (.beaconReceived f)) s (execBeaconReceived f s) := by
  unfold execBeaconReceived
  refine onlyNext_ite onlyNext_self ?_
  refine onlyNext_ite (onlyNext_ok (only_set only_self (writes rfl))) ?_
  refine onlyNext_ite ?_ ?_
  · refine onlyNext_ite ?_ (onlyNext_ok (only_putKrx only_self (among rfl)))
    exact onlyNext_ok (only_followBeacon (only_setRole (only_abdicate (only_putKrx only_self (among rfl)) (among rfl)) (among rfl))
        (among rfl))
  · refine onlyNext_ite (onlyNext_ok (only_putKrx only_self (among rfl))) ?_
    refine onlyNext_ite ?_ ?_
    · exact onlyNext_ok (only_followBeacon (only_setRole (only_iteThen (only_putKrx only_self (among rfl)) fun h => only_putKrx h
          (among rfl)) (among rfl)) (among rfl))
    · exact onlyNext_ok (only_setRole (only_iteThen (only_putKrx only_self (among rfl)) fun h => only_putKrx h (among rfl)) (among rfl))

theorem onlyNext_execStatusSlot {s : State} : OnlyNext (scope .statusSlot) s (execStatusSlot s) :=
  onlyNext_ite (onlyNext_ite (onlyNext_ok (only_heardStatus (only_set (only_putKrx (only_sendFrame only_self (among rfl)) (among rfl))
      (writes rfl)) (among rfl))) (onlyNext_ok (only_set (only_putKrx (only_sendFrame only_self (among rfl)) (among rfl)) (writes rfl))))
      (onlyNext_ok (only_putKrx only_self (among rfl)))

theorem onlyNext_execStatusReceived {f : List Nat} {inSlot : Bool} {s : State} :
    OnlyNext (scope (.statusReceived f inSlot)) s (execStatusReceived f inSlot s) := by
  unfold execStatusReceived
  refine onlyNext_ite onlyNext_self ?_
  refine onlyNext_ite (onlyNext_ok (only_set only_self (writes rfl))) ?_
  refine onlyNext_ite ?_ ?_
  · exact onlyNext_ok (only_leaveShelfHold (only_ite (only_heardStatus (only_ite (only_set only_self (writes rfl)) only_self)
        (among rfl)) only_self) (among rfl))
  · exact onlyNext_ok (only_ite (only_heardStatus (only_ite (only_set only_self (writes rfl)) only_self) (among rfl)) only_self)

theorem onlyNext_execClaimReceived {f : List Nat} {s : State} : OnlyNext (scope (.claimReceived f)) s (execClaimReceived f s) := by
  unfold execClaimReceived
  refine onlyNext_ite onlyNext_self ?_
  refine onlyNext_ite (onlyNext_ok (only_set only_self (writes rfl))) ?_
  refine onlyNext_ite (onlyNext_ok (only_abdicate (only_putKrx only_self (among rfl)) (among rfl))) ?_
  exact onlyNext_ite (onlyNext_ok (only_setRole (only_putKrx only_self (among rfl)) (among rfl))) (onlyNext_ok (only_putKrx only_self
      (among rfl)))

theorem onlyNext_execTransmitMismatch {type : Nat} {s : State} :
    OnlyNext (scope (.transmitMismatch type)) s (execTransmitMismatch type s) :=
  onlyNext_ite (onlyNext_ok (only_setRole (only_putKrx (only_putKrx only_self (among rfl)) (among rfl)) (among rfl))) (onlyNext_ite
      (onlyNext_ok (only_putKrx (only_set (only_putKrx only_self (among rfl)) (writes rfl)) (among rfl))) (onlyNext_ok (only_putKrx
      only_self (among rfl))))

theorem onlyNext_execLapse {s : State} : OnlyNext (scope .lapse) s (execLapse s) :=
  onlyNext_when (only_shed (only_set (only_putBooks (only_inc (only_set (only_set only_self (writes rfl)) (writes rfl)) (writes rfl))
      (among rfl)) (writes rfl)) (among rfl))

theorem onlyNext_execHoldEnter {i : Initiator} {s : State} : OnlyNext (scope (.holdEnter i)) s (execHoldEnter i s) :=
  onlyNext_ok (only_access only_self (fun _ ht => only_ite (only_withBus ht (listed rfl)) (only_withBus (only_putKrx (only_pdAllOff
      (only_noEnvelope (only_endAll ht (among rfl)) (among rfl)) (among rfl)) (among rfl)) (listed rfl))) (among rfl))

theorem onlyNext_execPresentNAssert {straps : Nat} {s : State} :
    OnlyNext (scope (.presentNAssert straps)) s (execPresentNAssert straps s) :=
  onlyNext_ite onlyNext_self (onlyNext_ok (only_ledger (only_iteThen (only_set (only_withStrapsKrx only_self (listed rfl) (listed rfl))
      (writes rfl)) fun h => only_event h (among rfl)) (among rfl)))

/-! ### The sorting office -/

theorem onlyNext_execSofJobPost {i : Initiator} {tail : Nat} {s : State} :
    OnlyNext (scope (.sofJobPost i tail)) s (execSofJobPost i tail s) :=
  onlyNext_ok (only_access only_self (fun _ ht => only_ite (only_ignored (only_set ht (writes rfl)) (among rfl)) (only_withBus
      (only_sofRefresh (only_set ht (writes rfl)) (among rfl)) (listed rfl))) (among rfl))

theorem onlyNext_execSwitch {s : State} : OnlyNext (scope .switch) s (execSwitch s) :=
  onlyNext_ok (only_sofTake only_self (fun _ _ _ _ _ ht => only_sofResult (only_foldl (only_switchJob (only_unitReads ht (among rfl))
      (among rfl)) fun _ _ hu => only_unitStore hu (among rfl)) (among rfl)) (among rfl))

theorem onlyNext_execDirectPlacement {nsid lpn : Nat} {s : State} :
    OnlyNext (scope (.directPlacement nsid lpn)) s (execDirectPlacement nsid lpn s) := by
  unfold execDirectPlacement
  split
  · exact onlyNext_self
  · refine onlyNext_ite onlyNext_self ?_
    refine onlyNext_ite (onlyNext_when (only_placeZone only_self (among rfl))) ?_
    refine onlyNext_ite onlyNext_self ?_
    refine onlyNext_ite onlyNext_self ?_
    dsimp only
    split
    · exact onlyNext_self
    · exact onlyNext_ok (only_addUnit (only_fst ‹_ = (_, _)› (only_groupPut only_self (among rfl))) (among rfl))

theorem onlyNext_execFirstClassPlacement {serial : Nat} {s : State} :
    OnlyNext (scope (.firstClassPlacement serial)) s (execFirstClassPlacement serial s) := by
  unfold execFirstClassPlacement
  split
  · exact onlyNext_self
  · split
    · exact onlyNext_self
    · refine onlyNext_ite onlyNext_self ?_
      refine onlyNext_ite ?_ ?_
      · refine onlyNext_ite (onlyNext_ite onlyNext_self (onlyNext_ok (only_bundleAdd only_self (among rfl)))) ?_
        split
        · exact onlyNext_self
        · exact onlyNext_ok (only_placeUnit only_self (among rfl))
      · split
        · exact onlyNext_self
        · exact onlyNext_ite onlyNext_self (onlyNext_ok (only_placeUnit only_self (among rfl)))

theorem onlyNext_execCommitUnitSwitch {k : Nat} {receiptsGood parityGood : Bool} {reads : Nat} {failedBand : Option Nat} {s : State}
    : OnlyNext (scope (.commitUnitSwitch k receiptsGood parityGood reads failedBand)) s (execCommitUnitSwitch k receiptsGood parityGood
        reads failedBand s) := by
  unfold execCommitUnitSwitch
  extract_lets s₁
  have h₁ : Only (scope (.commitUnitSwitch k receiptsGood parityGood reads failedBand)) s s₁ := by
    dsimp only [s₁]
    split
    · exact only_failBand only_self (among rfl)
    · exact only_self
  clear_value s₁
  split
  · exact onlyNext_ok h₁
  · refine onlyNext_ite (onlyNext_ok (only_putOffice h₁ (among rfl))) (onlyNext_ite (onlyNext_ok h₁) ?_)
    refine onlyNext_ok (only_itrayRefresh (only_iteThen (only_trayDone (only_foldl ?_ fun _ _ ht => only_putOffice ht (among rfl))
        (among rfl)) fun h => only_zonesAgain h (among rfl)) (among rfl))
    split
    case' h_1 => refine only_putHost ?_ (among rfl)
    all_goals exact only_journal (only_putOffice (only_foldl (only_foldl (only_switchJob h₁ (among rfl)) fun _ _ ht => only_settle ht
        (among rfl)) fun _ _ ht => only_unlist ht (among rfl)) (among rfl)) (among rfl)

theorem onlyNext_execFolding {s : State} : OnlyNext (scope .folding) s (execFolding s) := by
  unfold execFolding
  refine onlyNext_ite (onlyNext_ok (only_putOffice only_self (among rfl))) ?_
  refine onlyNext_ite (onlyNext_ok (only_putOffice only_self (among rfl))) ?_
  split
  · exact onlyNext_ok (only_putOffice only_self (among rfl))
  · exact onlyNext_ok (only_addUnit (only_fst ‹_ = (_, _)› (only_groupPut (only_putOffice only_self (among rfl)) (among rfl)))
        (among rfl))

theorem onlyNext_execReSorting {member : Nat} {s : State} : OnlyNext (scope (.reSorting member)) s (execReSorting member s) := by
  unfold execReSorting
  dsimp only
  split
  · exact onlyNext_ok (only_putOffice only_self (among rfl))
  · refine onlyNext_ite (onlyNext_ok (only_putOffice only_self (among rfl))) ?_
    split
    · exact onlyNext_ok (only_putOffice only_self (among rfl))
    · exact onlyNext_ok (only_addUnit (only_fst ‹_ = (_, _)› (only_groupPut (only_putOffice only_self (among rfl)) (among rfl)))
          (among rfl))

theorem onlyNext_execBundlePlaceTimeout {k : Nat} {s : State} :
    OnlyNext (scope (.bundlePlaceTimeout k)) s (execBundlePlaceTimeout k s) := by
  unfold execBundlePlaceTimeout
  split
  · exact onlyNext_self
  · exact onlyNext_when (only_placeBundle only_self (among rfl))

theorem onlyNext_execRepack {k : Nat} {s : State} : OnlyNext (scope (.repack k)) s (execRepack k s) := by
  unfold execRepack
  split
  · exact onlyNext_self
  · refine onlyNext_ite onlyNext_self ?_
    refine onlyNext_ite (onlyNext_ok (only_unmapAll (only_putOffice only_self (among rfl)) (among rfl))) ?_
    exact onlyNext_ok (only_foldl only_self fun _ _ ht => only_ite ht (only_bundleAdd ht (among rfl)))

theorem onlyNext_execZoneFinishRecommended {nsid k : Nat} {s : State} :
    OnlyNext (scope (.zoneFinishRecommended nsid k)) s (execZoneFinishRecommended nsid k s) := by
  unfold execZoneFinishRecommended
  split
  · exact onlyNext_self
  · dsimp only
    split
    · exact onlyNext_self
    · exact onlyNext_when (only_zoneChanged (only_putZone only_self (among rfl)) (among rfl))

theorem onlyNext_execZoneFinishByController {nsid k : Nat} {s : State} :
    OnlyNext (scope (.zoneFinishByController nsid k)) s (execZoneFinishByController nsid k s) := by
  unfold execZoneFinishByController
  split
  · exact onlyNext_self
  · dsimp only
    split
    · exact onlyNext_self
    · exact onlyNext_when (only_zoneChanged (only_finishZone only_self (among rfl)) (among rfl))

theorem onlyNext_execMapCheckpoint {s : State} : OnlyNext (scope .mapCheckpoint) s (execMapCheckpoint s) := by
  unfold execMapCheckpoint
  refine onlyNext_ite onlyNext_self ?_
  refine onlyNext_ite (onlyNext_ok (only_putOffice (only_mem (only_putOffice only_self (among rfl)) (listed rfl)) (among rfl))) ?_
  exact onlyNext_ok (only_floorCheck (only_resizeFc (only_freeGroups (only_putOffice (only_mem (only_putOffice only_self (among rfl))
      (listed rfl)) (among rfl)) (among rfl)) (among rfl)) (among rfl))

theorem onlyNext_execSegmentLoad {k : Nat} {s : State} : OnlyNext (scope (.segmentLoad k)) s (execSegmentLoad k s) :=
  onlyNext_ite onlyNext_self (onlyNext_ok (only_putOffice (only_foldl (only_foldl (only_withCells only_self (listed rfl))
      fun _ _ ht => only_putByte ht (among rfl)) fun _ _ ht => only_putMap ht (among rfl)) (among rfl)))

theorem onlyNext_execMapRebuild {tags : Option (List (Nat × Nat × Nat))} {s : State} :
    OnlyNext (scope (.mapRebuild tags)) s (execMapRebuild tags s) := by
  unfold execMapRebuild
  split
  · exact onlyNext_ite onlyNext_self (onlyNext_ok (only_ledger (only_setCritical (only_putOffice only_self (among rfl)) (among rfl))
        (among rfl)))
  · exact onlyNext_ite onlyNext_self (onlyNext_ok (only_putOffice (only_foldl only_self fun _ _ ht => only_ite (only_putMap ht
        (among rfl)) ht) (among rfl)))

theorem onlyNext_execRefreshTrigger {w : RefreshKind} {place : Nat} {allGood : Bool} {s : State} :
    OnlyNext (scope (.refreshTrigger w place allGood)) s (execRefreshTrigger w place allGood s) := by
  unfold execRefreshTrigger
  refine onlyNext_ite onlyNext_self ?_
  split
  · exact onlyNext_when (only_mem only_self (listed rfl))
  · exact onlyNext_when (only_mem only_self (listed rfl))
  · exact onlyNext_when (only_putOffice only_self (among rfl))
  · exact onlyNext_when (only_iteElse (only_putOffice only_self (among rfl)) fun h => only_queueGroup h (among rfl))

theorem onlyNext_execLocationRelease {k : Nat} {readsEnded : Bool} {s : State} :
    OnlyNext (scope (.locationRelease k readsEnded)) s (execLocationRelease k readsEnded s) := by
  unfold execLocationRelease
  split
  · exact onlyNext_self
  · exact onlyNext_ite onlyNext_self (onlyNext_ok (only_freeGroups (only_putOffice only_self (among rfl)) (among rfl)))

/-! ### Consignments -/

theorem onlyNext_execCnsJobPost {i : Initiator} {tail : Nat} {s : State} :
    OnlyNext (scope (.cnsJobPost i tail)) s (execCnsJobPost i tail s) :=
  onlyNext_ok (only_access only_self (fun _ ht => only_ite (only_ignored (only_set ht (writes rfl)) (among rfl)) (only_withBus
      (only_cnsRefresh (only_set ht (writes rfl)) (among rfl)) (listed rfl))) (among rfl))

theorem onlyNext_execEncode {errs : List EccErr} {s : State} : OnlyNext (scope (.encode errs)) s (execEncode errs s) :=
  onlyNext_ok (only_cnsTake only_self (fun _ _ ht => only_ite (only_cnsResult (only_writeMembers (only_membersEcc ht (among rfl))
      (among rfl)) (among rfl)) (only_cnsResult (only_membersEcc ht (among rfl)) (among rfl))) (among rfl))

theorem onlyNext_execDecode {errs : List EccErr} {s : State} : OnlyNext (scope (.decode errs)) s (execDecode errs s) :=
  onlyNext_ok (only_cnsTake only_self (fun _ _ ht => only_ite (only_cnsResult (only_decodeServes (only_writeMembers (only_inc
      (only_membersEcc ht (among rfl)) (writes rfl)) (among rfl)) (among rfl)) (among rfl)) (only_cnsResult (only_inc (only_membersEcc ht
      (among rfl)) (writes rfl)) (among rfl))) (among rfl))

theorem onlyNext_execCheck {errs : List EccErr} {s : State} : OnlyNext (scope (.check errs)) s (execCheck errs s) := by
  refine onlyNext_ok (only_cnsTake only_self (fun _ _ ht => only_ite (only_cnsResult (only_membersEcc ht (among rfl)) (among rfl)) ?_)
      (among rfl))
  dsimp only
  split
  · exact only_cnsResult (only_membersEcc ht (among rfl)) (among rfl)
  · exact only_cnsResult (only_inc (only_membersEcc ht (among rfl)) (writes rfl)) (among rfl)

theorem onlyNext_execRebuildUnitCommit {receiptsGood : Bool} {s : State} :
    OnlyNext (scope (.rebuildUnitCommit receiptsGood)) s (execRebuildUnitCommit receiptsGood s) := by
  unfold execRebuildUnitCommit
  split
  · exact onlyNext_self
  · refine onlyNext_ite onlyNext_self ?_
    dsimp only
    split
    · exact onlyNext_ok (only_unitDone (only_ite (only_queueGroup only_self (among rfl)) only_self) (among rfl))
    · refine onlyNext_ite (onlyNext_ok (only_setBands (only_putOffice only_self (among rfl)) (among rfl))) ?_
      split
      · exact onlyNext_ok (only_unitDone (only_rebuildPair only_self (among rfl)) (among rfl))
      · exact onlyNext_ok (only_unitDone (only_rebuildMember only_self (among rfl)) (among rfl))
      · exact onlyNext_ok (only_unitDone only_self (among rfl))

theorem onlyNext_execParityScrub {g : Nat} {bad : Option Nat} {s : State} :
    OnlyNext (scope (.parityScrub g bad)) s (execParityScrub g bad s) := by
  unfold execParityScrub
  split
  · exact onlyNext_self
  · refine onlyNext_ite onlyNext_self ?_
    exact onlyNext_ok (only_putCons (by
        split
        · exact only_self
        · exact only_putOffice (only_putCons (only_ledger only_self (among rfl)) (among rfl)) (among rfl)) (among rfl))

/-! ### Host ports and connections -/

theorem onlyNext_execCapsuleCmd {conn : Nat} {cap : Capsule} {hdr : Bool} {s : State} :
    OnlyNext (scope (.capsuleCmd conn cap hdr)) s (execCapsuleCmd conn cap hdr s) :=
  onlyNext_ite (onlyNext_ok (only_ite (only_admitCmd only_self (among rfl)) only_self)) (onlyNext_ok (only_pdu only_self
      (fun _ _ ht => only_ite (only_terminate ht (among rfl)) (only_ite ht (only_putConn ht (among rfl)))) (among rfl)))

theorem onlyNext_execCapsuleTake {conn wait us : Nat} {s : State} :
    OnlyNext (scope (.capsuleTake conn wait us)) s (execCapsuleTake conn wait us s) := by
  unfold execCapsuleTake
  split
  · exact onlyNext_self
  · split
    · exact onlyNext_self
    · exact onlyNext_ite onlyNext_self (onlyNext_ok (only_admitCmd (only_iteThen (only_set (only_set (only_putConn only_self (among rfl))
          (writes rfl)) (writes rfl)) fun h => only_set h (writes rfl)) (among rfl)))

theorem onlyNext_execH2cData {serial offset : Nat} {data : List Nat} {hdr good : Bool} {s : State} :
    OnlyNext (scope (.h2cData serial offset data hdr good)) s (execH2cData serial offset data hdr good s) := by
  unfold execH2cData
  split
  · exact onlyNext_self
  · exact onlyNext_ok (only_pdu only_self (fun _ _ ht => only_ite (only_terminate ht (among rfl)) (only_ite ht (only_ite (only_answer ht
        (among rfl)) (only_hqRefresh (only_bagStore (only_putCmd ht (among rfl)) (among rfl)) (among rfl))))) (among rfl))

theorem onlyNext_execTcpSyn {p : Prt} {v6 : Bool} {addr port window : Nat} {s : State} :
    OnlyNext (scope (.tcpSyn p v6 addr port window)) s (execTcpSyn p v6 addr port window s) := by
  refine onlyNext_ok (only_frame only_self (fun _ ht => only_ite ht ?_) (among rfl))
  split
  · exact only_ite (only_sendNet (only_connsRefresh (only_putConn ht (among rfl)) (among rfl)) (among rfl)) (only_sendNet ht (among rfl))
  · exact only_sendNet ht (among rfl)

theorem onlyNext_execRetransmissionTimer {conn : Nat} {s : State} :
    OnlyNext (scope (.retransmissionTimer conn)) s (execRetransmissionTimer conn s) :=
  onlyNext_ok (only_tcpEvent only_self (fun _ _ ht => only_ite ht (only_ite (only_sendNet (only_loseConn ht (among rfl)) (among rfl))
      (only_sendNet (only_putConn ht (among rfl)) (among rfl)))) (among rfl))

theorem onlyNext_execIcmpv4 {p : Prt} {f : IcmpFrame} {s : State} : OnlyNext (scope (.icmpv4 p f)) s (execIcmpv4 p f s) :=
  onlyNext_ok (only_frame only_self (fun _ ht => by
    split
    · exact only_ite (only_sendNet ht (among rfl)) ht
    · exact only_pathMtu ht (among rfl)
    · exact ht) (among rfl))

theorem onlyNext_execIcmpv6 {p : Prt} {f : IcmpFrame} {s : State} : OnlyNext (scope (.icmpv6 p f)) s (execIcmpv6 p f s) :=
  onlyNext_ok (only_frame only_self (fun _ ht => by
    split
    · exact only_ite (only_sendNet ht (among rfl)) ht
    · exact only_pathMtu ht (among rfl)
    · exact ht) (among rfl))

theorem onlyNext_execNdp {p : Prt} {f : NdpFrame} {s : State} : OnlyNext (scope (.ndp p f)) s (execNdp p f s) :=
  onlyNext_ok (only_frame only_self (fun _ ht => by
    split
    · exact only_ite (only_sendNet ht (among rfl)) ht
    · exact only_ite (only_putPort ht (among rfl)) ht) (among rfl))

theorem onlyNext_execDhcpv4 {p : Prt} {f : DhcpFrame} {s : State} : OnlyNext (scope (.dhcpv4 p f)) s (execDhcpv4 p f s) :=
  onlyNext_ok (only_frame only_self (fun _ ht => only_ite ht (by
    split
    · exact only_sendNet ht (among rfl)
    · exact only_putPort ht (among rfl)
    · exact only_putPort ht (among rfl))) (among rfl))

theorem onlyNext_execDhcpv6 {p : Prt} {f : DhcpFrame} {s : State} : OnlyNext (scope (.dhcpv6 p f)) s (execDhcpv6 p f s) :=
  onlyNext_ok (only_frame only_self (fun _ ht => only_ite ht (by
    split
    · exact only_sendNet ht (among rfl)
    · exact only_putPort ht (among rfl)
    · exact only_putPort ht (among rfl))) (among rfl))

theorem onlyNext_execResponseReady {serial : Nat} {s : State} :
    OnlyNext (scope (.responseReady serial)) s (execResponseReady serial s) := by
  unfold execResponseReady
  split
  · exact onlyNext_self
  · split
    · exact onlyNext_self
    · refine onlyNext_ite (onlyNext_ok (only_dropCmd only_self (among rfl))) ?_
      refine onlyNext_ite onlyNext_self ?_
      refine onlyNext_ite (onlyNext_ok (only_dropCmd (only_emit only_self (among rfl)) (among rfl))) ?_
      split
      · exact onlyNext_ok (only_dropCmd only_self (among rfl))
      · exact onlyNext_ite onlyNext_self (onlyNext_ok (only_dropCmd (only_afterResponse (only_emit (only_putConn only_self (among rfl))
            (among rfl)) (among rfl)) (among rfl)))

theorem onlyNext_execBagsReservedForTransfer {serial pick : Nat} {s : State} :
    OnlyNext (scope (.bagsReservedForTransfer serial pick)) s (execBagsReservedForTransfer serial pick s) := by
  unfold execBagsReservedForTransfer
  split
  · exact onlyNext_self
  · refine onlyNext_ite onlyNext_self ?_
    dsimp only
    split
    · refine onlyNext_ite (onlyNext_ok (only_set only_self (writes rfl))) ?_
      refine onlyNext_ite ?_ ?_
      · exact onlyNext_ok (only_hqRefresh (only_bagStore (only_putCmd (only_fst ‹_ = (_, _)› (only_takeBags only_self (among rfl)))
            (among rfl)) (among rfl)) (among rfl))
      · refine onlyNext_ok (only_hqRefresh (only_emit (only_putCmd ?_ (among rfl)) (among rfl)) (among rfl))
        split
        · exact only_putConn (only_fst ‹_ = (_, _)› (only_takeBags only_self (among rfl))) (among rfl)
        · exact only_fst ‹_ = (_, _)› (only_takeBags only_self (among rfl))
    · exact onlyNext_ok (only_set only_self (writes rfl))

theorem onlyNext_execReadDataReady {serial : Nat} {s : State} :
    OnlyNext (scope (.readDataReady serial)) s (execReadDataReady serial s) := by
  unfold execReadDataReady
  split
  · exact onlyNext_self
  · refine onlyNext_ite onlyNext_self ?_
    refine onlyNext_ite (onlyNext_ok (only_emit (only_putCmd only_self (among rfl)) (among rfl))) ?_
    split
    · exact onlyNext_self
    · exact onlyNext_ite onlyNext_self (onlyNext_ok (only_emit (only_putCmd (only_putConn only_self (among rfl)) (among rfl))
          (among rfl)))

theorem onlyNext_execKeepAliveTimer {a : Nat} {s : State} : OnlyNext (scope (.keepAliveTimer a)) s (execKeepAliveTimer a s) := by
  unfold execKeepAliveTimer
  split
  · exact onlyNext_self
  · exact onlyNext_ok (only_ite (only_endAssoc only_self (among rfl)) only_self)

theorem onlyNext_execCorePostedEvent {i : Initiator} {arg conn key : Nat} {s : State} :
    OnlyNext (scope (.corePostedEvent i arg conn key)) s (execCorePostedEvent i arg conn key s) :=
  onlyNext_ok (only_access only_self (fun _ ht => only_ite (only_ignored ht (among rfl)) (only_ite (only_withBus ht (listed rfl))
      (only_withBus (only_putPre ht (among rfl)) (listed rfl)))) (among rfl))

theorem onlyNext_execLockGrant {serial : Nat} {s : State} : OnlyNext (scope (.lockGrant serial)) s (execLockGrant serial s) := by
  unfold execLockGrant
  split
  · exact onlyNext_self
  · refine onlyNext_ite onlyNext_self ?_
    dsimp only
    split
    · exact onlyNext_ok (only_hqRefresh (only_iteThen (only_ite (only_enterLocks only_self (among rfl)) (only_putHost only_self
          (among rfl))) fun h => only_answer h (among rfl)) (among rfl))
    · exact onlyNext_ok (only_ite (only_enterLocks only_self (among rfl)) (only_putHost only_self (among rfl)))

theorem onlyNext_execPreLoadDone {s : State} : OnlyNext (scope .preLoadDone) s (execPreLoadDone s) :=
  onlyNext_ite (onlyNext_ite (onlyNext_ok (only_set (only_set (only_putPre (only_set (only_putPre only_self (among rfl)) (writes rfl))
      (among rfl)) (writes rfl)) (writes rfl))) (onlyNext_ok (only_set (only_set (only_set (only_putPre only_self (among rfl))
      (writes rfl)) (writes rfl)) (writes rfl)))) onlyNext_self

theorem onlyNext_execPreRun {i : Initiator} {v : Bool} {s : State} : OnlyNext (scope (.preRun i v)) s (execPreRun i v s) :=
  onlyNext_ok (only_access only_self (fun _ ht => only_ite (only_ignored (only_set ht (writes rfl)) (among rfl)) (only_withBus (only_set
      (only_set ht (writes rfl)) (writes rfl)) (listed rfl))) (among rfl))

theorem onlyNext_execGetLogPage {serial : Nat} {s : State} : OnlyNext (scope (.getLogPage serial)) s (execGetLogPage serial s) := by
  refine onlyNext_ok (only_onAdmin only_self fun _ _ ht => ?_)
  split
  · exact only_answer ht (among rfl)
  · exact only_answer ht (among rfl)
  · exact only_ite (only_answer ht (among rfl)) (only_answerWith (only_pageRead ht (among rfl)) (among rfl))

theorem onlyNext_execIdentify {serial : Nat} {s : State} : OnlyNext (scope (.identify serial)) s (execIdentify serial s) := by
  refine onlyNext_ok (only_onAdmin only_self fun _ _ ht => ?_)
  refine only_ite (only_answer ht (among rfl)) ?_
  split
  · split
    · exact only_answerWith ht (among rfl)
    · exact only_answer ht (among rfl)
  · exact only_answerWith ht (among rfl)
  · exact only_answerWith ht (among rfl)
  · split
    · exact only_answerWith ht (among rfl)
    · exact only_answer ht (among rfl)
  · dsimp only
    split
    · exact only_ite (only_answerWith ht (among rfl)) (only_answer ht (among rfl))
    · exact only_answer ht (among rfl)
  · exact only_ite (only_answerWith ht (among rfl)) (only_ite (only_answerWith ht (among rfl)) (only_answer ht (among rfl)))
  · exact only_ite (only_answerWith ht (among rfl)) (only_answer ht (among rfl))
  · exact only_answerWith ht (among rfl)
  · split
    · exact only_answerWith ht (among rfl)
    · exact only_answer ht (among rfl)
  · exact only_answer ht (among rfl)

/-! ### Host commands -/

theorem onlyNext_execAbort {serial : Nat} {s : State} : OnlyNext (scope (.abort serial)) s (execAbort serial s) := by
  refine onlyNext_ok (only_onAdmin only_self fun _ _ ht => ?_)
  dsimp only
  split
  · exact only_ite (only_hqRefresh (only_answerWith (only_putHost (only_answer ht (among rfl)) (among rfl)) (among rfl)) (among rfl))
        (only_answerWith ht (among rfl))
  · exact only_answerWith ht (among rfl)

theorem onlyNext_execSetFeatures {serial : Nat} {s : State} : OnlyNext (scope (.setFeatures serial)) s (execSetFeatures serial s) := by
  refine onlyNext_ok (only_onAdmin only_self fun _ _ ht => ?_)
  refine only_ite (only_answer ht (among rfl)) ?_
  refine only_ite (by
      split
      · exact only_answer ht (among rfl)
      · exact only_setCtrlFeature ht (among rfl)) ?_
  refine only_ite (only_ite (only_answer ht (among rfl)) (only_answer (only_featSet ht (among rfl)) (among rfl))) ?_
  refine only_ite ?_ ?_
  · exact only_ite (only_answer ht (among rfl)) (only_answer (only_foldl ht fun _ _ hu => only_featSet hu (among rfl)) (among rfl))
  · refine only_ite ?_ (only_answer ht (among rfl))
    split
    · exact only_answer ht (among rfl)
    · refine only_ite ?_ (only_ite (only_answer ht (among rfl)) (only_answer (only_nsFeatSet ht (among rfl)) (among rfl)))
      split
      · exact only_answer ht (among rfl)
      · exact only_answer (only_putNs ht (among rfl)) (among rfl)

theorem onlyNext_execGetFeatures {serial : Nat} {s : State} : OnlyNext (scope (.getFeatures serial)) s (execGetFeatures serial s) := by
  refine onlyNext_ok (only_onAdmin only_self fun _ _ ht => ?_)
  refine only_ite (only_answer ht (among rfl)) ?_
  refine only_ite (only_answer ht (among rfl)) ?_
  exact only_ite (only_answerWith ht (among rfl)) (only_ite (only_answerWith ht (among rfl)) (only_ite (only_answerWith ht (among rfl))
      (only_answerWith ht (among rfl))))

theorem onlyNext_execAsynchronousEventRequest {serial : Nat} {s : State} :
    OnlyNext (scope (.asynchronousEventRequest serial)) s (execAsynchronousEventRequest serial s) := by
  refine onlyNext_ok (only_onAdmin only_self fun _ _ ht => ?_)
  split
  · exact only_answer ht (among rfl)
  · refine only_ite ht ?_
    split
    · exact only_answerWith (only_putAssoc ht (among rfl)) (among rfl)
    · exact only_ite (only_answer ht (among rfl)) (only_putAssoc ht (among rfl))

theorem onlyNext_execNamespaceCreate {serial : Nat} {s : State} :
    OnlyNext (scope (.namespaceCreate serial)) s (execNamespaceCreate serial s) := by
  refine onlyNext_ok (only_onAdmin only_self fun _ _ ht => ?_)
  refine only_ite ht ?_
  dsimp only
  split
  · exact only_answer ht (among rfl)
  · refine only_ite (only_answer ht (among rfl)) ?_
    split
    · exact only_answerWith (only_nsChanged (only_putNs (by
          split
          · exact only_saveDev (only_generateKey ht (among rfl)) (among rfl)
          · exact only_generateKey ht (among rfl)) (among rfl)) (among rfl)) (among rfl)
    · exact only_answer ht (among rfl)

theorem onlyNext_execNamespaceDelete {serial : Nat} {s : State} :
    OnlyNext (scope (.namespaceDelete serial)) s (execNamespaceDelete serial s) := by
  refine onlyNext_ok (only_onAdmin only_self fun _ _ ht => ?_)
  refine only_ite ht ?_
  refine only_ite (only_answer ht (among rfl)) ?_
  exact only_iteThen (only_foldl ht fun _ _ hu => only_answer hu (among rfl)) (fun h => only_answer (only_foldl h
      fun _ _ hu => only_deleteNs hu (among rfl)) (among rfl))

theorem onlyNext_execFirmwareCommit {serial : Nat} {image : Area} {s : State} :
    OnlyNext (scope (.firmwareCommit serial image)) s (execFirmwareCommit serial image s) := by
  refine onlyNext_ok (only_onAdmin only_self fun _ _ ht => ?_)
  dsimp only
  split
  · exact only_answer ht (among rfl)
  · split
    · exact only_answer ht (among rfl)
    · exact only_iteThen (only_answer (only_ledger (only_putHost (only_writeTrial ht (among rfl)) (among rfl)) (among rfl)) (among rfl))
          (fun h => only_ite (only_pwr (only_emUnloadAll h (among rfl)) (listed rfl)) (only_pwr (only_pdAllOff h (among rfl))
          (listed rfl)))

theorem onlyNext_execKeepAlive {serial : Nat} {s : State} : OnlyNext (scope (.keepAlive serial)) s (execKeepAlive serial s) :=
  onlyNext_ok (only_onAdmin only_self fun _ _ ht => by
    split
    · exact only_answer ht (among rfl)
    · exact only_answer (only_putAssoc ht (among rfl)) (among rfl))

theorem onlyNext_execFormatNvm {serial : Nat} {s : State} : OnlyNext (scope (.formatNvm serial)) s (execFormatNvm serial s) := by
  refine onlyNext_ok (only_onAdmin only_self fun _ _ ht => ?_)
  refine only_ite (only_answer ht (among rfl)) (only_ite (only_answer ht (among rfl)) (only_ite (only_answer ht (among rfl)) (only_answer
      (only_foldl ht fun _ _ hu => ?_) (among rfl))))
  split
  · exact hu
  · refine only_iteThen (only_emptyNs hu (among rfl)) fun h => ?_
    dsimp only
    split
    · exact only_saveDev (only_generateKey h (among rfl)) (among rfl)
    · exact only_generateKey h (among rfl)

theorem onlyNext_execSanitize {serial upTo : Nat} {s : State} : OnlyNext (scope (.sanitize serial upTo)) s (execSanitize serial upTo s) :=
  onlyNext_ok (only_onAdmin only_self fun _ _ ht => only_ite (only_answer ht (among rfl)) (only_ite (only_answer (only_putCons
      (only_eraseSteps ht (among rfl)) (among rfl)) (among rfl)) (only_iteElse (only_eraseSteps ht (among rfl)) fun h => only_putCons h
      (among rfl))))

theorem onlyNext_execPropertySet {serial : Nat} {s : State} : OnlyNext (scope (.propertySet serial)) s (execPropertySet serial s) := by
  refine onlyNext_ok (only_onFabrics only_self fun _ _ ht => ?_)
  split
  · exact only_answer ht (among rfl)
  · refine only_ite (only_answer ht (among rfl)) ?_
    exact only_ite (only_noEnvelope (only_endAssoc (only_respondNow (only_putAssoc ht (among rfl)) (among rfl)) (among rfl)) (among rfl))
        (only_answer (only_putAssoc ht (among rfl)) (among rfl))

theorem onlyNext_execPropertyGet {serial : Nat} {s : State} : OnlyNext (scope (.propertyGet serial)) s (execPropertyGet serial s) := by
  refine onlyNext_ok (only_onFabrics only_self fun _ _ ht => ?_)
  dsimp only
  split
  · exact only_answer ht (among rfl)
  · split
    · exact only_answerWith ht (among rfl)
    · exact only_answerWith ht (among rfl)
    · exact only_answerWith ht (among rfl)
    · exact only_answerWith ht (among rfl)
    · exact only_answer ht (among rfl)

theorem onlyNext_execConnect {serial : Nat} {s : State} : OnlyNext (scope (.connect serial)) s (execConnect serial s) := by
  refine onlyNext_ok (only_onFabrics only_self fun _ _ ht => ?_)
  split
  · exact ht
  · split
    · exact only_answer ht (among rfl)
    · refine only_ite ?_ (only_connsRefresh (only_answerWith (only_putConn ht (among rfl)) (among rfl)) (among rfl))
      exact only_connsRefresh (only_answerWith (only_putConn (only_putAssoc ht (among rfl)) (among rfl)) (among rfl)) (among rfl)

theorem onlyNext_execDisconnect {serial : Nat} {s : State} : OnlyNext (scope (.disconnect serial)) s (execDisconnect serial s) :=
  onlyNext_ok (only_onFabrics only_self fun _ _ ht => by
    split
    · exact only_answer ht (among rfl)
    · exact only_endAssoc (only_respondNow ht (among rfl)) (among rfl))

theorem onlyNext_execHeadServiceRetire {serial : Nat} {s : State} :
    OnlyNext (scope (.headServiceRetire serial)) s (execHeadServiceRetire serial s) :=
  onlyNext_ok (only_headService only_self (fun _ _ ht => only_ite (only_answer ht (among rfl)) (only_answerWith (only_retireHead ht
      (among rfl)) (among rfl))) (among rfl))

theorem onlyNext_execShelfHoldDeparture {s : State} : OnlyNext (scope .shelfHoldDeparture) s (execShelfHoldDeparture s) := by
  unfold execShelfHoldDeparture
  split
  · exact onlyNext_self
  · refine onlyNext_ite onlyNext_self ?_
    refine onlyNext_ite ?_ ?_
    · exact onlyNext_ok (only_foldl (only_endAll only_self (among rfl)) fun _ _ ht => only_ite ht (only_tell ht (among rfl)))
    · exact onlyNext_ok (only_followTarget (only_set (only_iteThen (only_putHost (only_endAll only_self (among rfl)) (among rfl))
          fun h => only_tell h (among rfl)) (writes rfl)) (among rfl))

theorem onlyNext_execShelfServiceWake {serial : Nat} {s : State} :
    OnlyNext (scope (.shelfServiceWake serial)) s (execShelfServiceWake serial s) :=
  onlyNext_ok (only_onAdmin only_self fun _ _ ht => only_ite ht (only_ite (only_answer ht (among rfl)) (only_answer (only_setAll ht
      (writesPairs rfl)) (among rfl))))

theorem onlyNext_execDriveFormat {serial : Nat} {s : State} : OnlyNext (scope (.driveFormat serial)) s (execDriveFormat serial s) := by
  refine onlyNext_ok (only_onAdmin only_self fun _ _ ht => ?_)
  refine only_ite (only_answer ht (among rfl)) ?_
  exact only_answer (only_putHost (only_saveDev (only_set (only_putOffice (only_naturalMap (only_emptyMap (only_clearKeys (only_set
      (only_set ht (writes rfl)) (writes rfl)) (among rfl)) (among rfl)) (among rfl)) (among rfl)) (writes rfl)) (among rfl))
      (among rfl)) (among rfl)

theorem onlyNext_execWriteZeroes {serial : Nat} {s : State} : OnlyNext (scope (.writeZeroes serial)) s (execWriteZeroes serial s) :=
  onlyNext_ok (only_onIo only_self (fun _ _ _ ht => only_ite (only_answer (only_discardRanges ht (among rfl)) (among rfl)) (only_writeNow
      ht (among rfl))) (among rfl))

theorem onlyNext_execDatasetManagement {serial : Nat} {s : State} :
    OnlyNext (scope (.datasetManagement serial)) s (execDatasetManagement serial s) :=
  onlyNext_ok (only_onIo only_self (fun _ _ _ ht => only_ite (only_answer ht (among rfl)) (only_ite (only_answer ht (among rfl))
      (only_answer (only_discardRanges ht (among rfl)) (among rfl)))) (among rfl))

theorem onlyNext_execReservationRegister {serial : Nat} {s : State} :
    OnlyNext (scope (.reservationRegister serial)) s (execReservationRegister serial s) := by
  refine onlyNext_ok (only_onIo only_self (fun _ _ _ ht => ?_) (among rfl))
  dsimp only
  split
  · split
    · exact only_ite (only_answer (only_putNs ht (among rfl)) (among rfl)) (only_answer ht (among rfl))
    · exact only_answer (only_putNs ht (among rfl)) (among rfl)
  · split
    · exact only_ite (only_answer ht (among rfl)) (only_answer (only_iteThen (only_putNs ht (among rfl)) fun h => only_resNotify h
          (among rfl)) (among rfl))
    · exact only_answer ht (among rfl)
  · split
    · exact only_ite (only_answer ht (among rfl)) (only_answer (only_putNs ht (among rfl)) (among rfl))
    · exact only_ite (only_answer (only_putNs ht (among rfl)) (among rfl)) (only_answer ht (among rfl))
  · exact only_answer ht (among rfl)

theorem onlyNext_execReservationAcquire {serial : Nat} {s : State} :
    OnlyNext (scope (.reservationAcquire serial)) s (execReservationAcquire serial s) := by
  refine onlyNext_ok (only_onIo only_self (fun _ _ _ ht => ?_) (among rfl))
  refine only_ite (only_answer ht (among rfl)) ?_
  refine only_ite (only_answer ht (among rfl)) ?_
  refine only_ite ?_ ?_
  · split
    · exact only_answer (only_putNs ht (among rfl)) (among rfl)
    · exact only_ite (only_answer ht (among rfl)) (only_answer ht (among rfl))
  · exact only_answer (only_iteThen (only_resNotify (only_putNs ht (among rfl)) (among rfl)) (fun h => only_foldl h
        fun _ _ hu => only_ite hu (only_answer hu (among rfl)))) (among rfl)

theorem onlyNext_execReservationRelease {serial : Nat} {s : State} :
    OnlyNext (scope (.reservationRelease serial)) s (execReservationRelease serial s) := by
  refine onlyNext_ok (only_onIo only_self (fun _ _ _ ht => ?_) (among rfl))
  refine only_ite (only_answer ht (among rfl)) ?_
  split
  · split
    · exact only_ite (only_ite (only_answer ht (among rfl)) (only_answer (only_resNotify (only_putNs ht (among rfl)) (among rfl))
          (among rfl))) (only_answer ht (among rfl))
    · exact only_answer ht (among rfl)
  · exact only_answer (only_resNotify (only_putNs ht (among rfl)) (among rfl)) (among rfl)
  · exact only_answer ht (among rfl)

theorem onlyNext_execZoneOpen {serial : Nat} {s : State} : OnlyNext (scope (.zoneOpen serial)) s (execZoneOpen serial s) := by
  refine onlyNext_ok (only_zoneSend only_self (fun _ _ _ _ _ ht h => ?_) (among rfl))
  split at h <;> cases h
  exact only_openZone ht (among rfl)

theorem onlyNext_execZoneClose {serial : Nat} {s : State} : OnlyNext (scope (.zoneClose serial)) s (execZoneClose serial s) :=
  onlyNext_ok (only_zoneSend only_self (fun _ _ _ _ _ ht h => Sum.inl.inj h ▸ only_putZone ht (among rfl)) (among rfl))

theorem onlyNext_execZoneFinish {serial : Nat} {s : State} : OnlyNext (scope (.zoneFinish serial)) s (execZoneFinish serial s) :=
  onlyNext_ok (only_zoneSend only_self (fun _ _ _ _ _ ht h => Sum.inl.inj h ▸ only_ite ht (only_finishZone ht (among rfl))) (among rfl))

theorem onlyNext_execZoneReset {serial : Nat} {s : State} : OnlyNext (scope (.zoneReset serial)) s (execZoneReset serial s) := by
  refine onlyNext_ok (only_zoneSend only_self (fun _ _ _ _ _ ht h => Sum.inl.inj h ▸ ?_) (among rfl))
  split
  · exact only_zoneUnit (only_zoneLag (only_shutBands (only_putZone (only_unmapAll (only_trayForget ht (among rfl)) (among rfl))
        (among rfl)) (among rfl)) (among rfl)) (among rfl)
  · exact only_putZone (only_unmapAll (only_trayForget ht (among rfl)) (among rfl)) (among rfl)

theorem onlyNext_execRetrieve {serial : Nat} {at_ : Option Nat} {s : State} :
    OnlyNext (scope (.retrieve serial at_)) s (execRetrieve serial at_ s) := by
  refine onlyNext_ok (only_onMediaCmd only_self (fun _ _ _ ht => ?_) (among rfl))
  dsimp only
  split
  · exact only_ite (only_readLost ht (among rfl)) (only_answerWith (only_countIo ht (among rfl)) (among rfl))
  · split
    · exact only_answer ht (among rfl)
    · refine only_ite (only_readLost ht (among rfl)) ?_
      split
      · exact only_ite (only_answerWith (only_countIo ht (among rfl)) (among rfl)) (only_putCmd ht (among rfl))
      · exact only_answerWith (only_countIo ht (among rfl)) (among rfl)

theorem onlyNext_execDelete {serial : Nat} {s : State} : OnlyNext (scope (.delete serial)) s (execDelete serial s) :=
  onlyNext_ok (only_onIo only_self (fun _ _ _ ht => only_ite (only_answer ht (among rfl)) (only_answer (only_putHost (only_unmapAll
      (only_forgetKey (only_putOffice (only_trayDrop ht (among rfl)) (among rfl)) (among rfl)) (among rfl)) (among rfl)) (among rfl)))
      (among rfl))

/-! ### Bags, carriers and memory -/

theorem onlyNext_execPhcWindowWrite {i : Initiator} {n : Nat} {lim : Bool} {v : Nat} {s : State} :
    OnlyNext (scope (.phcWindowWrite i n lim v)) s (execPhcWindowWrite i n lim v s) :=
  onlyNext_ok (only_access only_self (fun _ ht => only_ite (only_ignored ht (among rfl)) (only_withBus (only_ite (only_set ht
      (writesAny rfl)) (only_set (only_set ht (writesAny rfl)) (writesAny rfl))) (listed rfl))) (among rfl))

theorem onlyNext_execDmaTailWrite {i : Initiator} {c tail : Nat} {s : State} :
    OnlyNext (scope (.dmaTailWrite i c tail)) s (execDmaTailWrite i c tail s) :=
  onlyNext_ok (only_access only_self (fun _ ht => only_ite (only_ignored ht (among rfl)) (only_withBus (only_dmaRefresh (only_set ht
      (writesAny rfl)) (among rfl)) (listed rfl))) (among rfl))

theorem onlyNext_execDmaStop {i : Initiator} {c moved : Nat} {s : State} :
    OnlyNext (scope (.dmaStop i c moved)) s (execDmaStop i c moved s) :=
  onlyNext_access (fun _ ht => only_set (only_stopDockets (only_set (only_ite (only_store ht (among rfl)) ht) (writesAny rfl))
      (among rfl)) (writesAny rfl)) (listed rfl) (among rfl)

theorem onlyNext_execDramScrubRead {errs : List EccErr} {s : State} :
    OnlyNext (scope (.dramScrubRead errs)) s (execDramScrubRead errs s) :=
  onlyNext_ite onlyNext_self (onlyNext_ite (onlyNext_ok (only_set (only_mem (only_dramRead only_self (among rfl)) (listed rfl))
      (writes rfl))) (onlyNext_ok (only_mem (only_dramRead only_self (among rfl)) (listed rfl))))

theorem onlyNext_execNandQtailWrite {i : Initiator} {tail : Nat} {s : State} :
    OnlyNext (scope (.nandQtailWrite i tail)) s (execNandQtailWrite i tail s) :=
  onlyNext_ok (only_access only_self (fun _ ht => only_ite (only_ignored ht (among rfl)) (only_withBus (only_nfcRefresh (only_set ht
      (writes rfl)) (among rfl)) (listed rfl))) (among rfl))

theorem onlyNext_execNandRead {k : Nat} {shifted : Bool} {maxBits : Nat} {busErr : Bool} {s : State} :
    OnlyNext (scope (.nandRead k shifted maxBits busErr)) s (execNandRead k shifted maxBits busErr s) := by
  refine onlyNext_ok (only_nandTake only_self (fun _ _ _ _ _ _ ht => ?_) (among rfl))
  dsimp only
  split
  · exact only_mem ht (listed rfl)
  · exact only_store (only_mem ht (listed rfl)) (among rfl)

theorem onlyNext_execNandProgram {k die : Nat} {fails busErr : Bool} {s : State} :
    OnlyNext (scope (.nandProgram k die fails busErr)) s (execNandProgram k die fails busErr s) := by
  refine onlyNext_ok (only_nandTake only_self (fun _ _ _ _ _ _ ht => ?_) (among rfl))
  dsimp only
  split
  · exact only_dramRead ht (among rfl)
  · split
    · exact only_nandReplace (only_dramRead ht (among rfl)) (among rfl)
    · exact only_mem (only_putNand (only_nandReplace (only_dramRead ht (among rfl)) (among rfl)) (among rfl)) (listed rfl)

theorem onlyNext_execNandErase {k die : Nat} {fails busErr : Bool} {s : State} :
    OnlyNext (scope (.nandErase k die fails busErr)) s (execNandErase k die fails busErr s) := by
  refine onlyNext_ok (only_nandTake only_self (fun _ _ _ _ _ _ ht => ?_) (among rfl))
  dsimp only
  split
  · exact only_nandReplace ht (among rfl)
  · exact only_mem (only_eraseNand (only_nandReplace ht (among rfl)) (among rfl)) (listed rfl)

/-! ### Heat, faults and the ledger -/

theorem onlyNext_execSensorBroken {n : Nat} {s : State} : OnlyNext (scope (.sensorBroken n)) s (execSensorBroken n s) := by
  unfold execSensorBroken
  split
  · exact onlyNext_self
  · exact onlyNext_ok (only_watchCritical only_self (fun _ ht => only_ledger (only_putPortOut (only_set (only_set (only_setBit ht
        (writesAny rfl)) (writesAny rfl)) (writesAny rfl)) (among rfl)) (among rfl)) (among rfl))

theorem onlyNext_execTripDiodeBroken {n : Nat} {s : State} : OnlyNext (scope (.tripDiodeBroken n)) s (execTripDiodeBroken n s) := by
  unfold execTripDiodeBroken
  split
  · exact onlyNext_self
  · exact onlyNext_ok (only_ledger (only_set (only_setBit only_self (writes rfl)) (writes rfl)) (among rfl))

theorem onlyNext_execThermalRestart {facts : StartFacts} {s : State} :
    OnlyNext (scope (.thermalRestart facts)) s (execThermalRestart facts s) := by
  unfold execThermalRestart
  split
  · exact onlyNext_when (only_restart only_self (among rfl))
  · exact onlyNext_self

theorem onlyNext_execFltDone {i : Initiator} {up : Bool} {p : Nat} {s : State} :
    OnlyNext (scope (.fltDone i up p)) s (execFltDone i up p s) := by
  refine onlyNext_ok (only_access only_self (fun _ ht => ?_) (among rfl))
  split
  · exact only_withBus (only_releaseNext (only_ite (only_raiseUp ht (among rfl)) (only_closeRec ht (among rfl))) (among rfl)) (listed rfl)
  · exact only_ignored ht (among rfl)

theorem onlyNext_execFaultHandlerTimeout {s : State} : OnlyNext (scope .faultHandlerTimeout) s (execFaultHandlerTimeout s) := by
  unfold execFaultHandlerTimeout
  split
  · exact onlyNext_self
  · split
    · exact onlyNext_self
    · exact onlyNext_when (only_releaseNext (only_raiseUp (only_set (only_withDesk only_self (listed rfl)) (writes rfl)) (among rfl))
          (among rfl))

theorem onlyNext_execFaultInjectionArm {i : Initiator} {target bits : Nat} {sticky : Bool} {s : State} :
    OnlyNext (scope (.faultInjectionArm i target bits sticky)) s (execFaultInjectionArm i target bits sticky s) :=
  onlyNext_ok (only_access only_self (fun _ ht => only_ite (only_ignored ht (among rfl)) (only_withBus (only_set (only_setAll (only_ite
      (only_disarm ht (among rfl)) ht) (writesPairs rfl)) (writes rfl)) (listed rfl))) (among rfl))

theorem onlyNext_execLdgCommit {core : Nat} {s : State} : OnlyNext (scope (.ldgCommit core)) s (execLdgCommit core s) :=
  onlyNext_access (fun _ ht => by
    split
    · exact only_set (only_set (only_ldgCommit ht (among rfl)) (writesAny rfl)) (writesAny rfl)
    · exact only_set (only_ldgCommit ht (among rfl)) (writesAny rfl)) (listed rfl) (among rfl)

theorem onlyNext_execKerrexFrameDiscard {f : List Nat} {inSlot explained : Bool} {s : State} :
    OnlyNext (scope (.kerrexFrameDiscard f inSlot explained)) s (execKerrexFrameDiscard f inSlot explained s) :=
  onlyNext_ite onlyNext_self (onlyNext_ite (onlyNext_ok (only_inc only_self (writes rfl))) (onlyNext_ok (only_putKrx (only_inc only_self
      (writes rfl)) (among rfl))))

theorem onlyNext_execFrameDropped {p : Prt} {why : FrameFault} {s : State} :
    OnlyNext (scope (.frameDropped p why)) s (execFrameDropped p why s) := by
  unfold execFrameDropped
  refine onlyNext_ite onlyNext_self ?_
  split
  · exact onlyNext_ok (only_inc only_self (writes (by cases p <;> rfl)))
  · exact onlyNext_ite onlyNext_self (onlyNext_ok (only_dropFrame only_self (among rfl)))
  · exact onlyNext_ok (only_dropFrame only_self (among rfl))
  · exact onlyNext_ok (only_dropFrame only_self (among rfl))
  · exact onlyNext_when (only_dropFrame only_self (among rfl))

/-! ### The dispatch and the step -/

/-- Every command leads only to states that differ in its parts: one arm for each, by the lemmas of the operations that its meaning
calls. -/
theorem onlyNext_exec (c : Instr) {s : State} : OnlyNext (scope c) s (exec c s) := by
  cases c with
  | registerWrite => exact onlyNext_execRegisterWrite
  | tckCountLoRead => exact onlyNext_access (fun _ ht => only_set ht (writes rfl)) (listed rfl) (among rfl)
  | mainsApplied => exact onlyNext_execMainsApplied
  | acDcModeChoice => exact onlyNext_execAcDcModeChoice
  | llcStart => exact onlyNext_when (only_pwr only_self (listed rfl))
  | driveBusValid => exact onlyNext_execDriveBusValid
  | linkUp p => exact onlyNext_ite onlyNext_self (onlyNext_ok (only_setAll only_self (writesPairs (by cases p <;> rfl))))
  | addressBound => exact onlyNext_execAddressBound
  | mainsLostWarning => exact onlyNext_when (only_warn only_self (among rfl))
  | recoveryMet => exact onlyNext_execRecoveryMet
  | powerLossDeclared => exact onlyNext_execPowerLossDeclared
  | declaredDomainShutoff => exact onlyNext_when (only_pdAllOff (only_endAll only_self (among rfl)) (among rfl))
  | flushDone => exact onlyNext_access (fun _ ht => only_ite (only_flushDone ht (among rfl)) ht) (listed rfl) (among rfl)
  | brownoutReset => exact onlyNext_when (only_brownout only_self (among rfl))
  | llcFault => exact onlyNext_when (only_graveFault (only_set only_self (writes rfl)) (among rfl))
  | watchdogReset =>
    exact onlyNext_ite onlyNext_self (onlyNext_ok (only_noteStart (only_abandonWork (only_resetProtocol only_self (among rfl))
        (among rfl)) (among rfl)))
  | nvmSubsystemReset => exact onlyNext_execNvmSubsystemReset
  | graveFaultPowerCycle => exact onlyNext_execGraveFaultPowerCycle
  | switchedDomainsRestart => exact onlyNext_execSwitchedDomainsRestart
  | chopperGateClose => exact onlyNext_ite onlyNext_fault (onlyNext_when (only_inc (only_set only_self (writes rfl)) (writes rfl)))
  | chopperGateOpen => exact onlyNext_when (only_set only_self (writes rfl))
  | chopFaultDetected => exact onlyNext_when (only_chopFault only_self (among rfl))
  | chopTest => exact onlyNext_execChopTest
  | pdCtrlWrite => exact onlyNext_execPdCtrlWrite
  | pdSwitchComplete => exact onlyNext_execPdSwitchComplete
  | envelopeOpen =>
    exact onlyNext_ok (only_sealCmd only_self (fun _ ht => only_setAll (only_noEnvelope ht (among rfl)) (writesPairs rfl)) (among rfl))
  | stagedCopyWrite => exact onlyNext_execStagedCopyWrite
  | envelopeSeal => exact onlyNext_ok (only_sealCmd only_self (fun _ ht => only_set ht (writes rfl)) (among rfl))
  | sealCheckDone => exact onlyNext_execSealCheckDone
  | envelopePost => exact onlyNext_execEnvelopePost
  | envelopeAbort => exact onlyNext_ok (only_sealCmd only_self (fun _ ht => only_noEnvelope ht (among rfl)) (among rfl))
  | deviceRecordRewrite => exact onlyNext_execDeviceRecordRewrite
  | tickBoundary => exact onlyNext_execTickBoundary
  | mailboxPost => exact onlyNext_execMailboxPost
  | mailboxDeliver => exact onlyNext_execMailboxDeliver
  | writeHoldRelease => exact onlyNext_when (only_set only_self (writes rfl))
  | forceFreeWrite =>
    exact onlyNext_ok (only_access only_self (fun _ ht => only_ite (only_ignored ht (among rfl)) (only_withBus (only_set ht (writes rfl))
        (listed rfl))) (among rfl))
  | tckClrPeak => exact onlyNext_access (fun _ ht => only_set ht (writes rfl)) (listed rfl) (among rfl)
  | flyingLimitCrossed => exact onlyNext_execFlyingLimitCrossed
  | parkSwitchClose =>
    exact onlyNext_ite (onlyNext_ok (only_rampFault (only_set only_self (writes (by split <;> rfl))) (among rfl))) (onlyNext_ok
        (only_pmkRefresh (only_set only_self (writes (by split <;> rfl))) (among rfl)))
  | rampFaultTimeout => exact onlyNext_when (only_rampFault only_self (among rfl))
  | pmkStreamValid => exact onlyNext_execPmkStreamValid
  | pmkStreamDrop => exact onlyNext_when (only_dropStream only_self (among rfl))
  | pmkAcqTimeout => exact onlyNext_when (only_withPmk (only_event (only_set only_self (writes rfl)) (among rfl)) (listed rfl))
  | positionErrorDelivery => exact onlyNext_when (only_scheduleIdle (only_deliverPes only_self (among rfl)) (among rfl))
  | pesTimeout => exact onlyNext_execPesTimeout
  | segmentForcedEnd => exact onlyNext_execSegmentForcedEnd
  | sliceOverrun => exact onlyNext_execSliceOverrun
  | next | br | brn | call | ret | loop | ldlc | dispatch | done | trap | mov | add | sub | sadd | ssub | and | or | xor | asr
  | lsl | min | max | abs | neg | cmp | sge | sin | cos | mul | mac | msu | clr | memoryRead | memoryWrite | portRead | portWrite
  | capture => exact onlyNext_ok (only_micro only_self (among rfl))
  | creLoad =>
    exact onlyNext_ok (only_access only_self (fun _ ht => only_ite (only_withBus (only_set ht (writes rfl)) (listed rfl)) (only_ignored
        ht (among rfl))) (among rfl))
  | creLoadDone => exact onlyNext_execCreLoadDone
  | creRun => exact onlyNext_execCreRun
  | creStop => exact onlyNext_execCreStop
  | creClrPeaks => exact onlyNext_access (fun _ ht => only_foldl ht fun _ _ hu => only_set hu (writesAny rfl)) (listed rfl) (among rfl)
  | creDmDataAccess => exact onlyNext_execCreDmDataAccess
  | creCapDataRead => exact onlyNext_access (fun _ ht => only_set ht (writes rfl)) (listed rfl) (among rfl)
  | injectionEnd => exact onlyNext_when (only_injEnd only_self (among rfl))
  | captureEnd => exact onlyNext_when (only_capEnd only_self (among rfl))
  | laneQtailWrite => exact onlyNext_execLaneQtailWrite
  | laneRead | laneWrite | laneReadSamples | laneSkewMeasure => exact onlyNext_ok (only_takeOp only_self (fun _ _ ht => ht) (among rfl))
  | sectorStart => exact onlyNext_execSectorStart
  | heaterLeadElapsed => exact onlyNext_execHeaterLeadElapsed
  | writeInhibitReceived => exact onlyNext_execWriteInhibitReceived
  | firstPassDone => exact onlyNext_execFirstPassDone
  | recoveryStoreCopyDone => exact onlyNext_execRecoveryStoreCopyDone
  | decoderFrameStart => exact onlyNext_when (only_startFrame (only_poolRun only_self (among rfl)) (among rfl))
  | receiptDecided => exact onlyNext_execReceiptDecided
  | sectorRewrite => exact onlyNext_execSectorRewrite
  | laneOperationComplete => exact onlyNext_execLaneOperationComplete
  | laneAbort => exact onlyNext_access (fun _ ht => only_laneAbort ht (among rfl)) (listed rfl) (among rfl)
  | headEnClear => exact onlyNext_execHeadEnClear
  | zoneEntryValidate =>
    exact onlyNext_access (fun _ ht => only_putLane (only_setAll ht (writesAnyPairs rfl)) (among rfl)) (listed rfl) (among rfl)
  | zoneEntryCheckDone => exact onlyNext_execZoneEntryCheckDone
  | zoneEntryInvalidate =>
    exact onlyNext_access (fun _ ht => only_set (only_putLane (only_putWord ht (among rfl)) (among rfl)) (writesAny rfl)) (listed rfl)
        (among rfl)
  | decoderHalfLoss => exact onlyNext_execDecoderHalfLoss
  | decoderHalfEnable =>
    exact onlyNext_ok (only_access only_self (fun _ ht => only_ite (only_ignored ht (among rfl)) (only_withDecBus (only_set ht (writes
        (by unfold halfEn; split <;> rfl))) (listed rfl) (listed rfl))) (among rfl))
  | decoderHalfDisable => exact onlyNext_execDecoderHalfDisable
  | recoveryJobPost => exact onlyNext_execRecoveryJobPost
  | decodeSampleArea => exact onlyNext_execDecodeSampleArea
  | decodeRunningSum => exact onlyNext_execDecodeRunningSum
  | cancelJob => exact onlyNext_execCancelJob
  | heldSampleRungsDone => exact onlyNext_execHeldSampleRungsDone
  | earlyReconstructionStart => exact onlyNext_execEarlyReconstructionStart
  | ladderTimeLimit => exact onlyNext_execLadderTimeLimit
  | reallocation => exact onlyNext_execReallocation
  | seek => exact onlyNext_execSeek
  | pairWaitExpiry => exact onlyNext_execPairWaitExpiry
  | seekDone => exact onlyNext_execSeekDone
  | seekSettleTimeout => exact onlyNext_execSeekSettleTimeout
  | head => exact onlyNext_execHead
  | headSwitchDone => exact onlyNext_execHeadSwitchDone
  | headSwitchTimeout => exact onlyNext_execHeadSwitchTimeout
  | offset => exact onlyNext_execOffset
  | offsetDone => exact onlyNext_execOffsetDone
  | load => exact onlyNext_execLoad
  | loadLanded => exact onlyNext_execLoadLanded
  | loadTimeout => exact onlyNext_execLoadTimeout
  | unload => exact onlyNext_execUnload
  | unloadLatched => exact onlyNext_execUnloadLatched
  | retire => exact onlyNext_execRetire
  | coef => exact onlyNext_execCoef
  | emergencyUnload => exact onlyNext_execEmergencyUnload
  | servoWedgeLoss => exact onlyNext_when (only_emUnload only_self (among rfl))
  | emUnloadLatched => exact onlyNext_execEmUnloadLatched
  | hardwareRetract => exact onlyNext_when (only_hwRetract only_self (among rfl))
  | retract => exact onlyNext_access (fun _ ht => only_hwRetract ht (among rfl)) (listed rfl) (among rfl)
  | retractWatchdog => exact onlyNext_when (only_hwRetract only_self (among rfl))
  | retractEnd => exact onlyNext_execRetractEnd
  | shockDetected x => exact onlyNext_when (only_putLp (only_set only_self (writes (by cases x <;> rfl))) (among rfl))
  | shockInhibitEnd => exact onlyNext_ok (only_putLp only_self (among rfl))
  | preampFault => exact onlyNext_execPreampFault
  | preampFaultPersists => exact onlyNext_ok (only_ite (only_setBit only_self (writes rfl)) only_self)
  | aspFrameSend => exact onlyNext_execAspFrameSend
  | microactuatorSaturation => exact onlyNext_when (only_fault (only_withCons only_self (listed rfl)) (among rfl))
  | start => exact onlyNext_execStart
  | stop => exact onlyNext_execStop
  | hold => exact onlyNext_execHold
  | sensePeriodEnd => exact onlyNext_execSensePeriodEnd
  | alignStepEnd => exact onlyNext_execAlignStepEnd
  | catchResult => exact onlyNext_execCatchResult
  | observerHandover => exact onlyNext_when (only_set (only_setSp (only_putMotor only_self (among rfl)) (among rfl)) (writes rfl))
  | startFailure => exact onlyNext_execStartFailure
  | startRetry => exact onlyNext_when (only_sense only_self (among rfl))
  | atSpeedReached => exact onlyNext_execAtSpeedReached
  | postmarkAngleHandover => exact onlyNext_execPostmarkAngleHandover
  | postmarkGlideEnd =>
    exact onlyNext_when (only_reply (only_putSpn (only_set (only_set only_self (writes rfl)) (writes rfl)) (among rfl)) (among rfl))
  | observerLost => exact onlyNext_execObserverLost
  | spindleDutyWatchdog => exact onlyNext_when (only_spFault (only_set (only_coast only_self (among rfl)) (writes rfl)) (among rfl))
  | fluxBrakeEnter => exact onlyNext_when (only_set (only_inc (only_set only_self (writes rfl)) (writes rfl)) (writes rfl))
  | fluxBrakeLeave => exact onlyNext_when (only_set (only_set only_self (writes rfl)) (writes rfl))
  | inverterDisable => exact onlyNext_execInverterDisable
  | inverterReenable => exact onlyNext_execInverterReenable
  | legFault => exact onlyNext_execLegFault
  | spareLegReady => exact onlyNext_execSpareLegReady
  | spindleStopped => exact onlyNext_execSpindleStopped
  | kerrexCycleStart => exact onlyNext_when (only_sendBeacon (only_set (only_putKrx only_self (among rfl)) (writes rfl)) (among rfl))
  | beaconReceived => exact onlyNext_execBeaconReceived
  | statusSlot => exact onlyNext_execStatusSlot
  | statusReceived => exact onlyNext_execStatusReceived
  | claimReceived => exact onlyNext_execClaimReceived
  | electionBackoffExpiry => exact onlyNext_when (only_sendFrame (only_setRole only_self (among rfl)) (among rfl))
  | claimConfirm => exact onlyNext_when (only_sendBeacon (only_setRole (only_putKrx only_self (among rfl)) (among rfl)) (among rfl))
  | transmitMismatch => exact onlyNext_execTransmitMismatch
  | censusEnd | unheardSlotTimeout => exact onlyNext_when (only_putKrx only_self (among rfl))
  | crcAbdication => exact onlyNext_when (only_putKrx (only_abdicate only_self (among rfl)) (among rfl))
  | eligibilityRestore => exact onlyNext_when (only_putKrx only_self (among rfl))
  | lapse => exact onlyNext_execLapse
  | frkTargetWrite =>
    exact onlyNext_access (fun _ ht => only_followTarget (only_set ht (writes rfl)) (among rfl)) (listed rfl) (among rfl)
  | holdEnter => exact onlyNext_execHoldEnter
  | wakeSend => exact onlyNext_access (fun _ ht => only_setAll ht (writesPairs rfl)) (listed rfl) (among rfl)
  | presentNRelease => exact onlyNext_when (only_ledger (only_set (only_endAll only_self (among rfl)) (writes rfl)) (among rfl))
  | presentNAssert => exact onlyNext_execPresentNAssert
  | sofJobPost => exact onlyNext_execSofJobPost
  | lookup =>
    exact onlyNext_ok (only_sofTake only_self (fun _ _ _ _ _ ht => only_sofResult (only_unitStore (only_unitReads ht (among rfl))
        (among rfl)) (among rfl)) (among rfl))
  | switch => exact onlyNext_execSwitch
  | validScan =>
    exact onlyNext_ok (only_sofTake only_self (fun _ _ _ _ _ ht => only_sofResult (only_unitStore (only_unitReads ht (among rfl))
        (among rfl)) (among rfl)) (among rfl))
  | directPlacement => exact onlyNext_execDirectPlacement
  | firstClassPlacement => exact onlyNext_execFirstClassPlacement
  | commitUnitSwitch => exact onlyNext_execCommitUnitSwitch
  | folding => exact onlyNext_execFolding
  | reSorting => exact onlyNext_execReSorting
  | idleTimeout => exact onlyNext_when (only_putOffice only_self (among rfl))
  | bundlePlaceTimeout => exact onlyNext_execBundlePlaceTimeout
  | repack => exact onlyNext_execRepack
  | zoneFinishRecommended => exact onlyNext_execZoneFinishRecommended
  | zoneFinishByController => exact onlyNext_execZoneFinishByController
  | mapCheckpoint => exact onlyNext_execMapCheckpoint
  | segmentLoad => exact onlyNext_execSegmentLoad
  | mapRebuild => exact onlyNext_execMapRebuild
  | refreshTrigger => exact onlyNext_execRefreshTrigger
  | locationRelease => exact onlyNext_execLocationRelease
  | cnsJobPost => exact onlyNext_execCnsJobPost
  | encrypt | decrypt => exact onlyNext_ok (only_cnsTake only_self (fun _ _ ht => only_cnsCrypt ht (among rfl)) (among rfl))
  | encode => exact onlyNext_execEncode
  | decode => exact onlyNext_execDecode
  | check => exact onlyNext_execCheck
  | loadWrappedKey => exact onlyNext_ok (only_keyOp only_self (fun _ ht => by
      split
      · exact only_putKey ht (among rfl)
      · exact only_set (only_putKey ht (among rfl)) (writes rfl)) (among rfl))
  | generateKey =>
    exact onlyNext_ok (only_keyOp only_self (fun _ ht => only_store (only_generateKey ht (among rfl)) (among rfl)) (among rfl))
  | clearKeySlot => exact onlyNext_ok (only_keyOp only_self (fun _ ht => only_putKey ht (among rfl)) (among rfl))
  | clearAllKeySlots => exact onlyNext_ok (only_keyOp only_self (fun _ ht => only_clearKeys ht (among rfl)) (among rfl))
  | kekLoad =>
    exact onlyNext_access (fun _ ht => only_set (only_putCons (only_set ht (writes rfl)) (among rfl)) (writes rfl)) (listed rfl)
        (among rfl)
  | headRetirement => exact onlyNext_when (only_retireHead only_self (among rfl))
  | rebuildUnitCommit => exact onlyNext_execRebuildUnitCommit
  | parityScrub => exact onlyNext_execParityScrub
  | icreq =>
    exact onlyNext_ok (only_pdu only_self (fun _ _ ht => only_ite (only_terminate ht (among rfl)) (only_emit (only_putConn ht
        (among rfl)) (among rfl))) (among rfl))
  | h2cTermReq => exact onlyNext_ok (only_pdu only_self (fun _ _ ht => only_loseConn ht (among rfl)) (among rfl))
  | capsuleCmd => exact onlyNext_execCapsuleCmd
  | capsuleTake => exact onlyNext_execCapsuleTake
  | h2cData => exact onlyNext_execH2cData
  | tcpSyn => exact onlyNext_execTcpSyn
  | tcpFin =>
    exact onlyNext_ok (only_tcpEvent only_self (fun _ _ ht => only_sendNet (only_loseConn ht (among rfl)) (among rfl)) (among rfl))
  | tcpRst => exact onlyNext_ok (only_tcpEvent only_self (fun _ _ ht => only_loseConn ht (among rfl)) (among rfl))
  | tcpAck => exact onlyNext_ok (only_tcpEvent only_self (fun _ _ ht => only_putConn ht (among rfl)) (among rfl))
  | tcpOutOfOrder =>
    exact onlyNext_ok (only_tcpEvent only_self (fun _ _ ht => only_sendNet (only_putConn ht (among rfl)) (among rfl)) (among rfl))
  | retransmissionTimer => exact onlyNext_execRetransmissionTimer
  | delayedAckTimer =>
    exact onlyNext_ok (only_tcpEvent only_self (fun _ _ ht => only_ite ht (only_sendNet (only_putConn ht (among rfl)) (among rfl)))
        (among rfl))
  | arp => exact onlyNext_ok (only_frame only_self (fun _ ht => only_ite (only_sendNet ht (among rfl)) ht) (among rfl))
  | icmpv4 => exact onlyNext_execIcmpv4
  | icmpv6 => exact onlyNext_execIcmpv6
  | ndp => exact onlyNext_execNdp
  | dhcpv4 => exact onlyNext_execDhcpv4
  | dhcpv6 => exact onlyNext_execDhcpv6
  | responseReady => exact onlyNext_execResponseReady
  | bagsReservedForTransfer => exact onlyNext_execBagsReservedForTransfer
  | readDataReady => exact onlyNext_execReadDataReady
  | asynchronousEvent => exact onlyNext_ok (only_ite (only_raiseEvent only_self (among rfl)) only_self)
  | associationEnd => exact onlyNext_ok (only_endAssoc only_self (among rfl))
  | keepAliveTimer => exact onlyNext_execKeepAliveTimer
  | corePostedEvent => exact onlyNext_execCorePostedEvent
  | lockGrant => exact onlyNext_execLockGrant
  | portLinkReset => exact onlyNext_when (only_linkReset only_self (among rfl))
  | ethRestart => exact onlyNext_access (fun _ ht => only_linkReset ht (among rfl)) (listed rfl) (among rfl)
  | preEnd | crc32c | payloadToBags | bagsToTransmitQueue | buildAndSendPdu | postInTrayEntry | postCoreMessage | releaseBags =>
    exact onlyNext_ok (only_preAct only_self (among rfl))
  | preLoad =>
    exact onlyNext_ok (only_access only_self (fun _ ht => only_ite (only_withBus (only_set ht (writes rfl)) (listed rfl)) (only_ignored
        ht (among rfl))) (among rfl))
  | preLoadDone => exact onlyNext_execPreLoadDone
  | preRun => exact onlyNext_execPreRun
  | preClrPeak => exact onlyNext_access (fun _ ht => only_set ht (writes rfl)) (listed rfl) (among rfl)
  | getLogPage => exact onlyNext_execGetLogPage
  | identify => exact onlyNext_execIdentify
  | abort => exact onlyNext_execAbort
  | setFeatures => exact onlyNext_execSetFeatures
  | getFeatures => exact onlyNext_execGetFeatures
  | asynchronousEventRequest => exact onlyNext_execAsynchronousEventRequest
  | namespaceCreate => exact onlyNext_execNamespaceCreate
  | namespaceDelete => exact onlyNext_execNamespaceDelete
  | firmwareCommit => exact onlyNext_execFirmwareCommit
  | firmwareImageDownload =>
    exact onlyNext_ok (only_onAdmin only_self fun _ _ ht => only_ite (only_answer ht (among rfl)) (only_answer (only_putHost ht
        (among rfl)) (among rfl)))
  | keepAlive => exact onlyNext_execKeepAlive
  | formatNvm => exact onlyNext_execFormatNvm
  | sanitize => exact onlyNext_execSanitize
  | propertySet => exact onlyNext_execPropertySet
  | propertyGet => exact onlyNext_execPropertyGet
  | connect => exact onlyNext_execConnect
  | disconnect => exact onlyNext_execDisconnect
  | headServiceReport => exact onlyNext_ok (only_headService only_self (fun _ _ ht => only_answerWith ht (among rfl)) (among rfl))
  | headServiceRetire => exact onlyNext_execHeadServiceRetire
  | headServiceReinstate =>
    exact onlyNext_ok (only_headService only_self (fun _ _ ht => only_answerWith (only_saveDev ht (among rfl)) (among rfl)) (among rfl))
  | shelfServiceEnter => exact onlyNext_ok (only_onAdmin only_self fun _ _ ht => only_ite ht (only_answer ht (among rfl)))
  | shelfHoldDeparture => exact onlyNext_execShelfHoldDeparture
  | shelfServiceWake => exact onlyNext_execShelfServiceWake
  | driveFormat => exact onlyNext_execDriveFormat
  | flush => exact onlyNext_ok (only_onIo only_self (fun _ _ _ ht => only_answer ht (among rfl)) (among rfl))
  | write => exact onlyNext_ok (only_onIo only_self (fun _ _ _ ht => only_writeNow ht (among rfl)) (among rfl))
  | read => exact onlyNext_ok (only_onMediaCmd only_self (fun _ _ _ ht => only_readNow ht (among rfl)) (among rfl))
  | writeZeroes => exact onlyNext_execWriteZeroes
  | datasetManagement => exact onlyNext_execDatasetManagement
  | verify => exact onlyNext_ok (only_onMediaCmd only_self (fun _ _ _ ht => only_readNow ht (among rfl)) (among rfl))
  | reservationRegister => exact onlyNext_execReservationRegister
  | reservationReport => exact onlyNext_ok (only_onIo only_self (fun _ _ _ ht => only_answerWith ht (among rfl)) (among rfl))
  | reservationAcquire => exact onlyNext_execReservationAcquire
  | reservationRelease => exact onlyNext_execReservationRelease
  | zoneOpen => exact onlyNext_execZoneOpen
  | zoneClose => exact onlyNext_execZoneClose
  | zoneFinish => exact onlyNext_execZoneFinish
  | zoneReset => exact onlyNext_execZoneReset
  | zoneManagementReceive => exact onlyNext_ok (only_onIo only_self (fun _ _ _ ht => only_answerWith ht (among rfl)) (among rfl))
  | zoneAppend => exact onlyNext_ok (only_onIo only_self (fun _ _ _ ht => only_writeNow ht (among rfl)) (among rfl))
  | store => exact onlyNext_ok (only_onIo only_self (fun _ _ _ ht => only_storeNow ht (among rfl)) (among rfl))
  | retrieve => exact onlyNext_execRetrieve
  | list => exact onlyNext_ok (only_onIo only_self (fun _ _ _ ht => only_answerWith ht (among rfl)) (among rfl))
  | delete => exact onlyNext_execDelete
  | exist => exact onlyNext_ok (only_onIo only_self (fun _ _ _ ht => only_answer ht (among rfl)) (among rfl))
  | readNvmeMiDataStructure => exact onlyNext_ok (by split <;> exact only_miAnswer only_self (among rfl))
  | nvmSubsystemHealthStatusPoll | controllerHealthStatusPoll | configurationGet =>
    exact onlyNext_ok (only_miAnswer only_self (among rfl))
  | configurationSet =>
    exact onlyNext_ok (only_ite only_self (only_ite (only_miAnswer only_self (among rfl)) (only_miAnswer (only_putHost only_self
        (among rfl)) (among rfl))))
  | vpdRead => exact onlyNext_ok (only_miAnswer only_self (among rfl))
  | bpmAlloc => exact onlyNext_access (fun _ ht => only_bagAlloc ht (among rfl)) (listed rfl) (among rfl)
  | bpmRelease => exact onlyNext_access (fun _ ht => only_bagRelease ht (among rfl)) (listed rfl) (among rfl)
  | bpmShare => exact onlyNext_access (fun _ ht => only_bagShare ht (among rfl)) (listed rfl) (among rfl)
  | phcFlush => exact onlyNext_access (fun _ ht => only_phcFlush ht (among rfl)) (listed rfl) (among rfl)
  | phcWindowWrite => exact onlyNext_execPhcWindowWrite
  | dmaTailWrite => exact onlyNext_execDmaTailWrite
  | copy | fill | copyAndWriteCrc | copyAndCheckCrc => exact onlyNext_ok (only_takeDocket only_self (among rfl))
  | dmaResume =>
    exact onlyNext_access (fun _ ht => only_ite (only_dmaRefresh (only_set ht (writesAny rfl)) (among rfl)) ht) (listed rfl) (among rfl)
  | dmaStop => exact onlyNext_execDmaStop
  | dramScrubRead => exact onlyNext_execDramScrubRead
  | slipTableSave => exact onlyNext_when (only_mem only_self (listed rfl))
  | nandQtailWrite => exact onlyNext_execNandQtailWrite
  | nandRead => exact onlyNext_execNandRead
  | nandProgram => exact onlyNext_execNandProgram
  | nandErase => exact onlyNext_execNandErase
  | sensorBroken => exact onlyNext_execSensorBroken
  | tripDiodeBroken => exact onlyNext_execTripDiodeBroken
  | throttleStep => exact onlyNext_ok (only_ite (only_setStep only_self (among rfl)) only_self)
  | thermalShutdown => exact onlyNext_ok (only_ite (only_reachShut only_self (among rfl)) only_self)
  | hardwareTrip => exact onlyNext_ok (only_ite (only_reachShut (only_set only_self (writes rfl)) (among rfl)) only_self)
  | thermalRestart => exact onlyNext_execThermalRestart
  | thmClrMinmax => exact onlyNext_ok (only_access only_self (fun _ ht => only_withHeatBus ht (listed rfl) (listed rfl)) (among rfl))
  | coreFault => exact onlyNext_ok (only_ite (only_capture only_self (among rfl)) only_self)
  | fltDone => exact onlyNext_execFltDone
  | faultHandlerTimeout => exact onlyNext_execFaultHandlerTimeout
  | fltCapDataRead => exact onlyNext_access (fun _ ht => only_set (only_set ht (writes rfl)) (writes rfl)) (listed rfl) (among rfl)
  | faultInjectionArm => exact onlyNext_execFaultInjectionArm
  | faultInjectionDisarm => exact onlyNext_access (fun _ ht => only_disarm ht (among rfl)) (listed rfl) (among rfl)
  | ldgCommit => exact onlyNext_execLdgCommit
  | ledgerFreeze => exact onlyNext_access (fun _ ht => only_ldgFreeze ht (among rfl)) (listed rfl) (among rfl)
  | ledgerUnfreeze => exact onlyNext_access (fun _ ht => only_ldgUnfreeze ht (among rfl)) (listed rfl) (among rfl)
  | ldgStageDataRead => exact onlyNext_access (fun _ ht => only_set (only_set ht (writes rfl)) (writes rfl)) (listed rfl) (among rfl)
  | ldgValueWrite =>
    exact onlyNext_ok (only_access only_self (fun _ ht => only_ite (only_ignored ht (among rfl)) (only_withBus (only_set ht (writes (by
        unfold ldgValue; split <;> rfl))) (listed rfl))) (among rfl))
  | preampFaultClear => exact onlyNext_ok (only_putLp only_self (among rfl))
  | shortBrakeQuiet => exact onlyNext_when (only_align only_self (among rfl))
  | catchCoastEnd => exact onlyNext_when (only_unloadCheck (only_setSp only_self (among rfl)) (among rfl))
  | llcIdle => exact onlyNext_ite onlyNext_fault (onlyNext_ok (only_ite (only_set only_self (writes rfl)) only_self))
  | kerrexFrameDiscard => exact onlyNext_execKerrexFrameDiscard
  | frameDropped => exact onlyNext_execFrameDropped
  | invalidPduType => exact onlyNext_ok (only_ite only_self (only_pdu only_self (fun _ _ ht => ht) (among rfl)))
  | thermalShutdownDeferEnd => exact onlyNext_ok (only_ite (only_releaseDeferred only_self (among rfl)) only_self)

/-- Settles O55: each arm of the dispatch has its frame, in which the blocks named beside all registers add nothing. -/
theorem everyCommandTouchesOnly : Obligations.EveryCommandTouchesOnly :=
  fun c _ t ht => only_of_spread (onlyNext_exec c t ht)

end Sys2Proof.Machine
end

section
/-!
Mains entry up to the drive bus (O2, R249 to R253): what a loss of all power leaves, and the commands of the power path by an equation
each.
-/
namespace Sys2Proof.Machine

/-! ### A loss of all power -/

theorem cells_setCritical (s : State) (k : Nat) : (s.setCritical k).cells = s.cells :=
  Only.cells_eq (P := [.host]) (only_setCritical only_self (among rfl)) (by decide)

theorem cells_loseDram (s : State) : s.loseDram.cells = [] := by
  unfold State.loseDram
  lift_lets
  intros
  split
  · rw [cells_setCritical, cells_setCritical]
    rfl
  · rfl

/-- The last steps of a loss of power put registers back, and change nothing else. -/
theorem only_restored (t : State) (kept : List Fld) (v : Fld → Nat) :
    Only (spread [.regs]) t ((kept.foldl (fun t f => t.set f (v f)) t).identify.slipCount).ldgRefresh :=
  only_ldgRefresh (only_slipCount (only_identify (only_foldl only_self fun _ _ h => only_set h (writesAny rfl)) (among rfl))
    (among rfl)) (among rfl)

theorem tick_powerLost (s : State) (cold : Bool) : (s.powerLost cold).tick = 0 := (only_restored _ _ _).tick_eq (by decide)

theorem cells_powerLost (s : State) (cold : Bool) : (s.powerLost cold).cells = [] :=
  ((only_restored _ _ _).cells_eq (by decide)).trans (cells_loseDram (s.disarm.ldgDrain (s.get Reg.LDG_DRAIN_TAIL)))

theorem env_powerLost (s : State) (cold : Bool) : (s.powerLost cold).env = State.reset.env := (only_restored _ _ _).env_eq (by decide)

theorem bus_powerLost (s : State) (cold : Bool) : (s.powerLost cold).bus = .none := (only_restored _ _ _).bus_eq (by decide)

/-- The power path goes back to its reset state but for the mains and the cause of the start to come. -/
theorem pwr_powerLost (s : State) (cold mains : Bool) (cause : Nat) :
    { (s.powerLost cold).pwr with mains := mains, cause := cause } = { Pwr.cold with mains := mains, cause := cause } :=
  congrArg (fun p : Pwr => { p with mains := mains, cause := cause }) ((only_restored _ _ _).pwr_eq (by decide))

/-- A loss of all power touches what a brownout reset touches, which is neither the strongroom nor the module. -/
theorem only_powerLost_self (s : State) (cold : Bool) : Only (scope (.brownoutReset 0 0 0)) s (s.powerLost cold) :=
  only_powerLost only_self (among rfl)

theorem nand_powerLost (s : State) (cold : Bool) : (s.powerLost cold).nand = s.nand :=
  (only_powerLost_self s cold).nand_eq (by decide)

theorem variant_powerLost (s : State) (cold : Bool) : (s.powerLost cold).variant = s.variant :=
  (only_powerLost_self s cold).variant_eq (by decide)

/-- The module as MAINS_APPLIED finds it: with the HDA it is mated to now. -/
def State.mated (s : State) (fit : Option Fitment) : State :=
  match fit with
  | some f => { s with variant := f.variant, psp := f.passport }
  | none => s

theorem variant_mated (s : State) (fit : Option Fitment) : (s.mated fit).variant = (fit.map (·.variant)).getD s.variant := by
  cases fit <;> rfl

theorem nand_mated (s : State) (fit : Option Fitment) : (s.mated fit).nand = s.nand := by
  cases fit <;> rfl

/-! ### The commands -/

theorem exec_mainsApplied {volts : Nat} {ac : Bool} {fit : Option Fitment} {s : State} (hbus : s.get Reg.PWR_STATUS_DBUS_VALID = 0)
    (hphase : s.get Reg.PWR_STATUS_PHASE = 0) (hac : ac = true → 85 ≤ volts ∧ volts ≤ 277)
    (hdc : ac = false → 120 ≤ volts ∧ volts ≤ 380) :
    exec (.mainsApplied volts ac fit) s = .next { (s.mated fit).powerLost true with
      pwr := { ((s.mated fit).powerLost true).pwr with mains := true, cause := 0 } } := by
  have hrating : ¬ (if ac then 300 else 400) < volts := by
    cases ac
    · have := hdc rfl
      simp; omega
    · have := hac rfl
      simp; omega
  have hrange : (if ac then volts < 85 || 277 < volts else volts < 120 || 380 < volts) = false := by
    cases ac
    · simpa using hdc rfl
    · simpa using hac rfl
  cases fit <;> simp [exec, execMainsApplied, hrating, hrange, State.on, State.phase, hbus, hphase, State.mated, ok]

theorem exec_acDcModeChoice_crossing {volts : Nat} {s : State} (hmains : s.pwr.mains = true) (hchosen : s.pwr.chosen = false) :
    exec (.acDcModeChoice true volts) s = .next { s.set Reg.PWR_STATUS_DC_MODE 0 with pwr := { s.pwr with chosen := true } } := by
  simp [exec, execAcDcModeChoice, hmains, hchosen, ok]

theorem exec_acDcModeChoice_dc {volts : Nat} {s : State} (hmains : s.pwr.mains = true) (hchosen : s.pwr.chosen = false)
    (hvolts : 120 ≤ volts) :
    exec (.acDcModeChoice false volts) s = .next { s.set Reg.PWR_STATUS_DC_MODE 1 with pwr := { s.pwr with chosen := true } } := by
  simp [exec, execAcDcModeChoice, hmains, hchosen, hvolts, ok]

theorem exec_llcStart {bulk heldMs : Nat} {s : State} (hmains : s.pwr.mains = true) (hmode : s.pwr.chosen = true ∨ s.pwr.cause = 1)
    (hphase : s.get Reg.PWR_STATUS_PHASE = 0) (hllc : s.pwr.llc = false) (hbulk : 3500 < bulk) (hheld : s.recMs ≤ heldMs) :
    exec (.llcStart bulk heldMs) s = .next { s with pwr := { s.pwr with llc := true } } := by
  simp [exec, execLlcStart, State.phase, hmains, hmode, hphase, hllc, hbulk, hheld, ok]

/-- DBUS_VALID is told, and the Kerrex bus counts its silences from now (R251). -/
def State.busValid (s : State) : State :=
  { s.set Reg.PWR_STATUS_DBUS_VALID 1 with krx := { s.krx with lineNs := s.clockNs, beaconNs := s.clockNs, seenNs := s.clockNs } }

theorem exec_driveBusValid {mv : Nat} {facts : StartFacts} {s : State} (hllc : s.pwr.llc = true)
    (hbus : s.get Reg.PWR_STATUS_DBUS_VALID = 0) (hlow : 22800 < mv) (hhigh : mv ≤ 33000) :
    exec (.driveBusValid mv facts) s = if s.desk.grave.isSome || s.pwr.offMs.isSome then .next s.busValid
      else .next ((s.busValid.set Reg.PWR_STATUS_PHASE 1).startDrive s.pwr.cause facts) := by
  simp [exec, execDriveBusValid, State.on, hllc, hbus, Nat.not_lt.2 hhigh, Nat.not_le.2 hlow, ok, State.busValid]

theorem exec_llcIdle {mv : Nat} {s : State} (hllc : s.pwr.llc = true) (hmv : mv ≤ 33000) :
    exec (.llcIdle mv) s = .next (s.set Reg.PWR_STATUS_LLC_IDLE (if 24500 < mv then 1 else 0)) := by
  simp [exec, execLlcIdle, hllc, Nat.not_lt.2 hmv, ok, b2n]

/-- Settles O2: mains by what a loss of power leaves, and the steps of the power path by their equations. -/
theorem powerEntryRuns : Obligations.PowerEntryRuns := by
  refine ⟨fun volts ac fit s hbus hphase hac hdc => ⟨_, exec_mainsApplied hbus hphase hac hdc, ?_⟩,
    fun _ _ => exec_acDcModeChoice_crossing, fun _ _ => exec_acDcModeChoice_dc, fun _ _ _ => exec_llcStart,
    fun mv facts s hllc hbus hlow hhigh hgrave hoff => ?_, fun mv facts s hllc hbus hlow hhigh howed => ?_, fun _ _ => exec_llcIdle⟩
  · exact ⟨tick_powerLost (s.mated fit) true, cells_powerLost (s.mated fit) true,
      (nand_powerLost (s.mated fit) true).trans (nand_mated s fit), env_powerLost (s.mated fit) true,
      (variant_powerLost (s.mated fit) true).trans (variant_mated s fit), bus_powerLost (s.mated fit) true,
      pwr_powerLost (s.mated fit) true true 0⟩
  · rw [exec_driveBusValid hllc hbus hlow hhigh, hgrave, hoff]
    rfl
  · rw [exec_driveBusValid hllc hbus hlow hhigh, if_pos (by simpa using howed)]
    rfl

end Sys2Proof.Machine
end

section
/-!
The tick source and the mailboxes (O10, R21, R79, R80, R87): an equation for each command.
-/
namespace Sys2Proof.Machine

theorem exec_writeHoldRelease {s : State} (hsrc : s.get Reg.TCK_STATUS_SRC = 2)
    (hticks : s.get Reg.PMK_TICKCFG_WEDGES ≤ s.tck.discTicks) : exec .writeHoldRelease s = .next (s.set Reg.TCK_STATUS_WR_HOLD 0) := by
  simp [exec, execWriteHoldRelease, hsrc, hticks, ok]

theorem exec_forceFreeWrite {i : Initiator} {v : Bool} {s : State} (hr : s.reaches i 0x40020000 = true) :
    exec (.forceFreeWrite i v) s = .next (if v && s.headsOff then s.ignored i 0x40020000
      else { s.set Reg.TCK_CTRL_FORCE_FREE (b2n v) with bus := .written }) :=
  congrArg Host.Outcome.next (access_of_reaches hr)

theorem exec_tckClrPeak {i : Initiator} {s : State} (hr : s.reaches i 0x40020000 = true) :
    exec (.tckClrPeak i) s = .next { s.set Reg.TCK_PEAK_PEAK_CYCLES 0 with bus := .written } :=
  congrArg Host.Outcome.next (access_of_reaches hr)

theorem exec_mailboxPost_room {core loop : Nat} {words : List Nat} {s : State} (hon : s.pdOn 12 = true)
    (hroom : (s.mail loop).count < 16) :
    exec (.mailboxPost core loop words) s = .next { s.putMail loop { s.mail loop with
      transit := (s.mail loop).transit ++ [⟨words.map (· % 2 ^ 32), 0⟩] } with bus := .written } := by
  simp [exec, execMailboxPost, hon, Nat.not_le.2 hroom, ok]

theorem exec_mailboxPost_full {core loop : Nat} {words : List Nat} {s : State} (hon : s.pdOn 12 = true)
    (hfull : 16 ≤ (s.mail loop).count) : exec (.mailboxPost core loop words) s = .next { s with bus := .busy } := by
  simp [exec, execMailboxPost, hon, hfull, ok]

theorem exec_mailboxDeliver {loop afterNs : Nat} {x : Msg} {l : List Msg} {s : State} (h : (s.mail loop).transit = x :: l) :
    exec (.mailboxDeliver loop afterNs) s = .next (s.putMail loop { s.mail loop with
      transit := l, box := (s.mail loop).box ++ [⟨x.words, s.clockNs + afterNs⟩] }) := by
  simp [exec, execMailboxDeliver, h, ok]

/-- Settles O10, command by command; FORCE_FREE by whether a 1 finds a data head off its ramp. -/
theorem tickControlRuns : Obligations.TickControlRuns := by
  refine ⟨fun _ => exec_writeHoldRelease, fun i v s hr hheads => ?_, fun i s hr hheads => ?_, fun _ _ => exec_tckClrPeak,
    fun _ _ _ _ => exec_mailboxPost_room, fun _ _ _ _ => exec_mailboxPost_full, fun _ _ _ _ _ => exec_mailboxDeliver⟩
  · have hoff : (v && s.headsOff) = false := by
      cases v
      · rfl
      · simpa using hheads rfl
    rw [exec_forceFreeWrite hr, if_neg (by simp [hoff])]
    rfl
  · rw [exec_forceFreeWrite hr, if_pos (by simpa using hheads)]

end Sys2Proof.Machine
end

section
/-!
Broken sensors, throttling, shutdowns, the trip and the loss of a core (O43, R25, R30, R212, R270, R436 to R442, R458): an equation for
each command.
-/
namespace Sys2Proof.Machine

theorem watchCritical_const (s : State) (f : State → State) : s.watchCritical f = s.watchCritical fun _ => f s := rfl

theorem exec_sensorBroken {n why : Nat} {s u v : State} (h : s.sensorFault n = some why)
    (hu : u = ((s.setBit Reg.THM_STATUS_BROKEN n true).set (Reg.THM_SENS_VALID n) 0).set Reg.THM_INT_BROKEN 1)
    (hv : v = u.putPortOut 0xAD (u.heatWord + 2 ^ (5 + n))) :
    exec (.sensorBroken n) s = .next (s.watchCritical fun _ =>
      v.ledger 0x0021 [n, why, word16 (sGet v.heat.sensors n Sensor.cold).reading, 0, 0, 0, 0]) := by
  subst hu hv
  simp only [exec, execSensorBroken, h, ok]
  rw [watchCritical_const]

theorem exec_tripDiodeBroken {n why : Nat} {s u : State} (h : s.tripFault n = some why)
    (hu : u = (s.setBit Reg.THM_STATUS_TRIP_BROKEN n true).set Reg.THM_INT_BROKEN 1) :
    exec (.tripDiodeBroken n) s = .next (u.ledger 0x0021 [8 + n, why, word16 (s.getS (tripField n)), 0, 0, 0, 0]) := by
  subst hu
  simp only [exec, execTripDiodeBroken, h, ok]

theorem exec_throttleStep {s : State} (h : s.thermalSlice = true) : exec .throttleStep s = .next (s.setStep s.nextStep) := by
  simp [exec, execThrottleStep, h, ok]

theorem exec_thermalShutdown {s : State} (hslice : s.thermalSlice = true) (hshut : level16 (s.get Reg.THM_LVL_SHUT) ≤ s.junction)
    (hheld : s.heat.held = false) : exec .thermalShutdown s = .next s.reachShut := by
  simp [exec, execThermalShutdown, hslice, hshut, hheld, ok]

theorem exec_hardwareTrip {n : Nat} {temp : Int} {s : State} (hn : n ≤ 1) (hgood : s.bit Reg.THM_STATUS_TRIP_BROKEN n = false)
    (hhot : 1920 ≤ temp) : exec (.hardwareTrip n temp) s = .next (s.set Reg.THM_STATUS_TRIPPED 1).reachShut := by
  simp [exec, execHardwareTrip, hn, hgood, hhot, ok]

theorem exec_thmClrMinmax {i : Initiator} {s : State} (hr : s.reaches i 0x40700000 = true) :
    exec (.thmClrMinmax i) s = .next { s with
      heat := { s.heat with sensors := s.heat.sensors.map fun p => (p.1, { p.2 with least := none, greatest := none }) },
      bus := .written } :=
  congrArg Host.Outcome.next (access_of_reaches hr)

/-- A deferred shutdown goes on where no other grave fault waits (R270). -/
theorem releaseDeferred_of_no_grave {s : State} (hdeferred : s.desk.deferred = true) (hgrave : s.desk.grave = none) :
    s.releaseDeferred = { s with desk := { s.desk with deferred := false } }.shutDown := by
  simp [State.releaseDeferred, hdeferred, hgrave]

theorem exec_thermalShutdownDeferEnd {s : State} (hdeferred : s.desk.deferred = true) (hgrave : s.desk.grave = none)
    (hwarn : s.pwr.warnMs + 1000 ≤ s.ms) :
    exec .thermalShutdownDeferEnd s = .next { s with desk := { s.desk with deferred := false } }.shutDown := by
  rw [← releaseDeferred_of_no_grave hdeferred hgrave]
  simp [exec, execThermalShutdownDeferEnd, hdeferred, hgrave, hwarn, ok]

theorem exec_preampFaultPersists {x : Act} {us : Nat} {s : State} (hfit : s.fitted x = true) (hlow : (s.lp x).paLow = true)
    (hus : 10000 ≤ us) :
    exec (.preampFaultPersists x us) s = .next (s.setBit Reg.CNS_UNAVAIL_UNAVAIL (8 * x.n + (s.lp x).head) true) := by
  simp [exec, execPreampFaultPersists, hfit, hlow, hus, ok]

theorem exec_coreFault {n : Nat} {s : State} (hn : n < 5) (hactive : s.coreActive n = true) :
    exec (.coreFault n) s = .next (s.capture ⟨0x80 + n, 0x0C, 5, 1, 0, 0, 7, false⟩) := by
  simp [exec, execCoreFault, hn, hactive, ok]

/-- Settles O43, command by command. -/
theorem heatAndFaultsRun : Obligations.HeatAndFaultsRun :=
  ⟨fun _ _ _ _ _ => exec_sensorBroken, fun _ _ _ _ => exec_tripDiodeBroken, fun _ => exec_throttleStep, fun _ => exec_thermalShutdown,
    fun _ _ _ => exec_hardwareTrip, fun _ _ => exec_thmClrMinmax, fun _ => exec_thermalShutdownDeferEnd,
    fun _ _ _ => exec_preampFaultPersists, fun _ _ => exec_coreFault⟩

end Sys2Proof.Machine
end

section
/-!
Power domains, presence and the device records (O6, R40, R267, R268, R272, R469): an equation for each command, and what an assertion of
PRESENT_N touches.
-/
namespace Sys2Proof.Machine

/-! ### Domains -/

theorem exec_pdCtrlWrite_granted {i : Initiator} {v : Nat} {s : State} (hr : s.reaches i 0x40000030 = true)
    (hnone : ((List.range 30).filter fun n => bitOf (s.get Reg.SYS_PD_CTRL_ON) n && !bitOf (s.pdWanted v) n &&
      s.pdRefuses (s.pdWanted v) n) = []) :
    exec (.pdCtrlWrite i v) s = .next { (s.set Reg.SYS_PD_CTRL_ON (s.pdWanted v)).pdSwitching with bus := .written } := by
  simp only [exec, execPdCtrlWrite, access_of_reaches hr, hnone, ok]
  rfl

theorem exec_pdSwitchComplete {n : Nat} {s : State} (hn : n < 30) (hdiff : s.bit Reg.SYS_PD_CTRL_ON n ≠ s.pdOn n) :
    exec (.pdSwitchComplete n) s =
      .next (if s.bit Reg.SYS_PD_CTRL_ON n then (s.pdSwitchOn n).freshKeys n else s.pdSwitchOff n).pdSwitching := by
  simp [exec, execPdSwitchComplete, Nat.not_le.2 hn, hdiff, ok]

/-! ### Presence -/

theorem exec_presentNRelease {s : State} (h : s.get Reg.SYS_IDENT_PRESENT ≠ 0) :
    exec .presentNRelease s = .next ((s.endAll.set Reg.SYS_IDENT_PRESENT 0).ledger 0x0090 [0, s.slot, 0, 0, 0, 0, 0]) := by
  simp [exec, execPresentNRelease, State.on, h, ok]

/-- The straps are read and PRESENT is set; where they differ from SLOT_ID the drive falls silent (R469). -/
def State.presented (s : State) (straps : Nat) (differ : Bool) : State :=
  { s with straps := straps, krx := { s.krx with silent := s.krx.silent || differ } }.set Reg.SYS_IDENT_PRESENT 1

theorem exec_presentNAssert {straps : Nat} {differ : Bool} {s u : State} (h : s.get Reg.SYS_IDENT_PRESENT = 0) (hlt : straps < 64)
    (hslot : (straps != s.slot) = differ)
    (hu : u = if differ then (s.presented straps differ).event 0x31 0x0D 0 straps else s.presented straps differ) :
    exec (.presentNAssert straps) s = .next (u.ledger 0x0090 [1, u.slot, straps, b2n differ, 0, 0, 0]) := by
  have hon : s.on Reg.SYS_IDENT_PRESENT = false := by simp [State.on, h]
  subst hu
  simp only [exec, execPresentNAssert, hon, Nat.mod_eq_of_lt hlt, hslot, ok]
  rfl

/-- What the event of straps that differ, and the record, may change (R453, R469). -/
def toldParts : List Part := [.reg 0x4000, .reg 0x4020, .reg 0x4071, .reg 0x4072, .desk, .ldg, .out, .host, .pwr]

theorem straps_ledger (s : State) (type : Nat) (l : List Nat) : (s.ledger type l).straps = s.straps :=
  Only.straps_eq (P := [.reg 0x4072, .ldg]) (only_ledger only_self (among rfl)) (by decide)

theorem krx_ledger (s : State) (type : Nat) (l : List Nat) : (s.ledger type l).krx = s.krx :=
  Only.krx_eq (P := [.reg 0x4072, .ldg]) (only_ledger only_self (among rfl)) (by decide)

theorem get_ledger {f : Fld} (s : State) (type : Nat) (l : List Nat) (hf : blockNo f ≠ 0x4072) :
    (s.ledger type l).get f = s.get f :=
  Only.get_eq (P := [.reg 0x4072, .ldg]) (only_ledger only_self (among rfl)) (by decide) (by simpa using hf)

theorem straps_event (s : State) (source code addr info : Nat) : (s.event source code addr info).straps = s.straps :=
  Only.straps_eq (P := toldParts) (only_event only_self (among rfl)) (by decide)

theorem krx_event (s : State) (source code addr info : Nat) : (s.event source code addr info).krx = s.krx :=
  Only.krx_eq (P := toldParts) (only_event only_self (among rfl)) (by decide)

theorem only_presented {P : List Part} {s : State} {straps : Nat} {differ : Bool} (hstraps : .straps ∈ P) (hkrx : .krx ∈ P)
    (hreg : mayWrite P Reg.SYS_IDENT_PRESENT) : Only P s (s.presented straps differ) :=
  only_set (only_withStrapsKrx only_self hstraps hkrx) hreg

/-! ### The device records -/

theorem exec_deviceRecordRewrite {steps : Nat} {r : DevRecord} {s : State} (hpend : s.psp.pend = some r)
    (hbus : s.get Reg.PWR_STATUS_DBUS_VALID ≠ 0) (hphase : s.get Reg.PWR_STATUS_PHASE < 2) :
    exec (.deviceRecordRewrite steps) s =
      .next (if 2 ≤ steps then s.writeDev r else { s with psp := { s.psp with pend := none } }) := by
  have hmay : s.mayWriteDev = true := by simp [State.mayWriteDev, State.on, hbus, hphase]
  simp only [exec, execDeviceRecordRewrite, hpend, hmay, ok]
  by_cases hsteps : 2 ≤ steps <;> simp [hsteps]

/-- Settles O6: domains and records by their equations, and an assertion of PRESENT_N by what setting PRESENT, the event and the record
leave alone. -/
theorem domainsAndPresenceRun : Obligations.DomainsAndPresenceRun := by
  refine ⟨fun _ _ _ => exec_pdCtrlWrite_granted, fun n s hn hask hon => ?_, fun n s hn hask hon => ?_, fun _ => exec_presentNRelease,
    fun straps s h hlt hslot => ⟨_, exec_presentNAssert h hlt (bne_eq_false_iff_eq.2 hslot) rfl, ?_⟩,
    fun straps s h hlt hslot => ⟨_, exec_presentNAssert h hlt (bne_iff_ne.2 hslot) rfl, ?_⟩,
    fun steps r s hpend hbus hphase hsteps => ?_, fun steps r s hpend hbus hphase hsteps => ?_⟩
  · rw [exec_pdSwitchComplete hn (by simp [hask, hon]), if_pos hask]
  · rw [exec_pdSwitchComplete hn (by simp [hask, hon]), if_neg (by simp [hask])]
  · refine ⟨straps_ledger _ _ _, (get_ledger _ _ _ (by decide)).trans (get_set_same _ _ _), (krx_ledger _ _ _).trans ?_,
      only_ledger (only_presented (listed rfl) (listed rfl) (writes rfl)) (among rfl)⟩
    exact congrArg (fun b => { s.krx with silent := b }) (Bool.or_false _)
  · refine ⟨(straps_ledger _ _ _).trans (straps_event _ _ _ _ _), ?_,
      only_ledger (only_event (only_presented (listed rfl) (listed rfl) (writes rfl)) (among rfl)) (among rfl)⟩
    exact (congrArg Krx.silent ((krx_ledger _ _ _).trans (krx_event _ _ _ _ _))).trans (Bool.or_true _)
  · rw [exec_deviceRecordRewrite hpend hbus hphase, if_pos hsteps]
  · rw [exec_deviceRecordRewrite hpend hbus hphase, if_neg (Nat.not_le.2 hsteps)]

end Sys2Proof.Machine
end

section
/-!
The state at reset (O53, R10, R13): every list of it is empty, so that each field reads its reset value and the forms hold.
-/
namespace Sys2Proof.Machine

theorem get_reset (f : Fld) : State.reset.get f = f.rst := rfl

theorem memory_wf_nil : Memory.wf [] := ⟨List.Pairwise.nil, fun _ h => nomatch h⟩

theorem nand_wf_nil : Nand.wf [] := ⟨List.Pairwise.nil, fun _ h => nomatch h⟩

theorem inv_reset : State.reset.Inv := ⟨List.Pairwise.nil, memory_wf_nil, nand_wf_nil, fun _ h => nomatch h⟩

/-- Settles O53. -/
theorem resetMeetsTheInvariant : Obligations.ResetMeetsTheInvariant :=
  ⟨get_reset, rfl, rfl, rfl, rfl, rfl, rfl, inv_reset⟩

end Sys2Proof.Machine
end

section
/-!
The envelope commands (O8, R53 to R57, R476): what SYS_SEAL_CTRL does with a command of the owner and with one of another core, then an
equation for each command.
-/
namespace Sys2Proof.Machine

/-- The command is accepted in the states of its list, where there is no envelope or the core owns it. -/
theorem sealCmd_of_accepted {s : State} {c : Nat} {states : List Nat} {f : State → State} (hr : s.reaches (.core c) 0x40000010 = true)
    (hstate : s.sealState ∈ states) (howner : s.sealState = 0 ∨ s.get Reg.SYS_SEAL_STATUS_OWNER = c) :
    s.sealCmd c states f = { f s with bus := .written } := by
  simp [State.sealCmd, access_of_reaches hr, hstate, howner]

theorem sealCmd_of_other_core {s : State} {c : Nat} {states : List Nat} {f : State → State}
    (hr : s.reaches (.core c) 0x40000010 = true) (hopen : s.sealState ≠ 0) (howner : s.get Reg.SYS_SEAL_STATUS_OWNER ≠ c) :
    s.sealCmd c states f = s.ignored (.core c) 0x40000010 := by
  simp [State.sealCmd, access_of_reaches hr, hopen, howner]

/-! ### The owner's commands -/

theorem exec_envelopeOpen {c : Nat} {s : State} (hr : s.reaches (.core c) 0x40000010 = true) (hidle : s.sealState = 0) :
    exec (.envelopeOpen c) s = .next
      { s.noEnvelope.setAll [(Reg.SYS_SEAL_STATUS_STATE, 1), (Reg.SYS_SEAL_STATUS_OWNER, c)] with bus := .written } :=
  congrArg Host.Outcome.next (sealCmd_of_accepted hr (by simp [hidle]) (.inl hidle))

theorem exec_envelopeSeal {c : Nat} {s : State} (hr : s.reaches (.core c) 0x40000010 = true) (hopen : s.sealState = 1)
    (howner : s.get Reg.SYS_SEAL_STATUS_OWNER = c) :
    exec (.envelopeSeal c) s = .next { s.set Reg.SYS_SEAL_STATUS_STATE 2 with bus := .written } :=
  congrArg Host.Outcome.next (sealCmd_of_accepted hr (by simp [hopen]) (.inr howner))

theorem exec_sealCheckDone {s : State} (hchecking : s.sealState = 2) :
    exec .sealCheckDone s = .next (if s.sealRule s.env.writes = 0
      then (s.set Reg.SYS_SEAL_STATUS_STATE 3).set Reg.SYS_SEAL_STATUS_RULE 0
      else s.rejectSet (s.sealRule s.env.writes)) := by
  by_cases hrule : s.sealRule s.env.writes = 0 <;> simp [exec, execSealCheckDone, hchecking, hrule, ok]

theorem exec_envelopePost_armed {c d target : Nat} {s : State} (hr : s.reaches (.core c) 0x40000010 = true) (hsealed : s.sealState = 3)
    (howner : s.get Reg.SYS_SEAL_STATUS_OWNER = c) (htick : s.tickRuns = true) (htarget : s.postTarget d = some target) :
    exec (.envelopePost c d) s = .next
      { ({ s with env := { s.env with armed := some target } } : State).set Reg.SYS_SEAL_STATUS_STATE 4 with bus := .written } := by
  refine congrArg Host.Outcome.next ((sealCmd_of_accepted hr (by simp [hsealed]) (.inr howner)).trans ?_)
  simp [htick, htarget]

theorem exec_envelopePost_late {c d : Nat} {s : State} (hr : s.reaches (.core c) 0x40000010 = true) (hsealed : s.sealState = 3)
    (howner : s.get Reg.SYS_SEAL_STATUS_OWNER = c) (htick : s.tickRuns = true) (htarget : s.postTarget d = none) :
    exec (.envelopePost c d) s = .next { s.set Reg.SYS_SEAL_STATUS_LATE 1 with bus := .written } := by
  refine congrArg Host.Outcome.next ((sealCmd_of_accepted hr (by simp [hsealed]) (.inr howner)).trans ?_)
  simp [htick, htarget]

theorem exec_envelopeAbort {c : Nat} {s : State} (hr : s.reaches (.core c) 0x40000010 = true)
    (hstate : s.sealState = 1 ∨ s.sealState = 3 ∨ s.sealState = 4 ∨ s.sealState = 5) (howner : s.get Reg.SYS_SEAL_STATUS_OWNER = c) :
    exec (.envelopeAbort c) s = .next { s.noEnvelope with bus := .written } :=
  congrArg Host.Outcome.next (sealCmd_of_accepted hr (by simpa using hstate) (.inr howner))

/-- Settles O8: the owner's commands by an equation each, and another core's by the one rule that ignores it. -/
theorem envelopeRuns : Obligations.EnvelopeRuns := by
  refine ⟨fun _ _ => exec_envelopeOpen, fun _ _ => exec_envelopeSeal, fun s hchecking hrule => ?_, fun s hchecking hrule => ?_,
    fun _ _ _ _ => exec_envelopePost_armed, fun _ _ _ => exec_envelopePost_late, fun _ _ => exec_envelopeAbort,
    fun c d s hr hopen howner => ?_⟩
  · rw [exec_sealCheckDone hchecking, if_pos hrule]
  · rw [exec_sealCheckDone hchecking, if_neg hrule]
  · have hignored : ∀ states f, s.sealCmd c states f = s.ignored (.core c) 0x40000010 :=
      fun _ _ => sealCmd_of_other_core hr hopen howner
    exact ⟨congrArg Host.Outcome.next (hignored _ _), congrArg Host.Outcome.next (hignored _ _),
      congrArg Host.Outcome.next (hignored _ _), congrArg Host.Outcome.next (hignored _ _)⟩

end Sys2Proof.Machine
end

section
/-!
Resets, the grave power cycle and its restarts (O4, R48, R59, R251, R441, R443, R449): an equation for each command; of the reset of the
subsystem, which parts of the device it may change.
-/
namespace Sys2Proof.Machine

theorem exec_llcFault {bulk mv us : Nat} {s : State} (hllc : s.pwr.llc = true) (hbus : s.get Reg.PWR_STATUS_DBUS_VALID ≠ 0)
    (hlow : mv < 18000) (hheld : 1000 ≤ us) (hbulk : 2500 < bulk) :
    exec (.llcFault bulk mv us) s = .next ((s.set Reg.PWR_STATUS_DBUS_VALID 0).graveFault 0x30 0x0A 0 mv) := by
  simp [exec, execLlcFault, State.on, hllc, hbus, hlow, hheld, hbulk, ok]

theorem exec_watchdogReset {silentMs bootMs : Nat} {s : State} (hsilent : 2000 ≤ silentMs) (hup : s.get Reg.PWR_STATUS_PHASE ≠ 0)
    (hflushed : s.get Reg.PWR_STATUS_PHASE ≠ 4) (hmode : s.get Reg.SYS_BOOT_MODE ≠ 2) :
    exec (.watchdogReset silentMs bootMs) s =
      .next ((s.resetProtocol (s.slotOf (s.get Reg.SYS_BOOT_SLOT))).abandonWork.noteStart 0x2 bootMs) := by
  simp [exec, execWatchdogReset, State.phase, Nat.not_lt.2 hsilent, hup, hflushed, hmode, ok]

/-- The time at which the switched domains went off is kept for the restart (R449). -/
def State.offSince (t : State) : State := { t with pwr := { t.pwr with offMs := some t.ms } }

/-- A register written before neither moves the clock nor the power path. -/
theorem offSince_set (t : State) (f : Fld) (v : Nat) :
    (t.set f v).offSince = { t.set f v with pwr := { t.pwr with offMs := some t.ms } } := rfl

theorem exec_graveFaultPowerCycle {thermal : Bool} {s : State} (hgrave : s.desk.grave = some thermal) (hdeferred : s.desk.deferred = false)
    (hon : s.pwr.offMs = none) (hheads : s.headsOff = false) :
    exec .graveFaultPowerCycle s = .next (if thermal then (s.pdAllOff (List.range 30)).set Reg.THM_STATUS_STATE 4
      else s.pdAllOff (List.range 30)).offSince := by
  have hgo : (s.desk.deferred || s.pwr.offMs.isSome || s.headsOff) = false := by simp [hdeferred, hon, hheads]
  simp only [exec, execGraveFaultPowerCycle, hgrave, hgo, Bool.false_eq_true, if_false, ok, State.offSince]

theorem exec_switchedDomainsRestart {facts : StartFacts} {off : Nat} {s : State} (hoff : s.pwr.offMs = some off)
    (hwait : off + 100 ≤ s.ms) (hcool : s.get Reg.THM_STATUS_STATE ≠ 4) (hbus : s.get Reg.PWR_STATUS_DBUS_VALID ≠ 0) :
    exec (.switchedDomainsRestart facts) s = .next (s.restart facts) := by
  simp [exec, execSwitchedDomainsRestart, State.on, hoff, hwait, hcool, hbus, ok]

theorem exec_thermalRestart {facts : StartFacts} {off shut : Nat} {s : State} (hoff : s.pwr.offMs = some off)
    (hshut : s.pwr.thermalMs = some shut) (hcooling : s.get Reg.THM_STATUS_STATE = 4) (hwait : shut + 60000 ≤ s.ms)
    (hjunction : s.junction ≤ level16 (min 95 (s.get Reg.THM_LVL_WARN))) (hbus : s.get Reg.PWR_STATUS_DBUS_VALID ≠ 0) :
    exec (.thermalRestart facts) s = .next (s.restart facts) := by
  simp only [exec, execThermalRestart, hoff, hshut, State.on]
  simp [hcooling, hwait, hjunction, hbus, ok]

/-- Whether a slot loads or none does, the reset ends in a state: the firmware's, or recovery mode (R46). -/
theorem exec_nvmSubsystemReset_completes {bootMs n : Nat} {fac : Area} {s : State} (hfactory : s.factory = some (n, fac))
    (hup : s.get Reg.PWR_STATUS_PHASE ≠ 0) (hflushed : s.get Reg.PWR_STATUS_PHASE ≠ 4) (hmode : s.get Reg.SYS_BOOT_MODE ≠ 2) :
    ∃ t, exec (.nvmSubsystemReset bootMs) s = .next t := by
  simp only [exec, execNvmSubsystemReset, hfactory]
  rw [if_neg (by simp [State.phase, hup, hflushed, hmode])]
  split <;> exact ⟨_, rfl⟩

/-- Settles O4: the commands by an equation each, and the loops, the spindle and the media of a reset subsystem by its frame. -/
theorem drivePowerCyclesRun : Obligations.DrivePowerCyclesRun := by
  refine ⟨fun _ _ _ _ => exec_llcFault, fun _ _ _ => exec_watchdogReset, fun thermal s hgrave hdeferred hon hheads hcold => ?_,
    fun s hgrave hdeferred hon hheads => ?_, fun _ _ _ => exec_switchedDomainsRestart, fun _ _ _ _ => exec_thermalRestart,
    fun n bootMs fac s hfactory hup hflushed hmode => ?_⟩
  · rw [exec_graveFaultPowerCycle hgrave hdeferred hon hheads, hcold, if_neg Bool.false_ne_true, State.offSince]
  · rw [exec_graveFaultPowerCycle hgrave hdeferred hon hheads, if_pos rfl, offSince_set]
  · obtain ⟨t, ht⟩ := exec_nvmSubsystemReset_completes (bootMs := bootMs) hfactory hup hflushed hmode
    have hparts : (Instr.nvmSubsystemReset bootMs).touches = (Instr.nvmSubsystemReset 0).touches := rfl
    have honly := hparts ▸ everyCommandTouchesOnly _ s t ht
    exact ⟨t, ht, honly.tick_eq (by decide), honly.loops_eq (by decide), honly.spn_eq (by decide), honly.cells_eq (by decide),
      honly.nand_eq (by decide), honly.variant_eq (by decide), honly.pending_eq (by decide)⟩

end Sys2Proof.Machine
end

section
/-!
Fabrics and admin commands (O46, R47, R376, R379, R382, R385, R386, R388, R400, R404): when a command taken is carried out, then an
equation for each command, in the cases of the statement.
-/
namespace Sys2Proof.Machine

/-! ### A command that is carried out -/

/-- A command taken that is not yet answered, and whose data is here. -/
structure State.CmdReady (s : State) (serial : Nat) (c : Cmd) : Prop where
  taken : s.cmd? serial = some c
  unanswered : c.verdict = none
  kept : c.orphan = false
  whole : c.whole = true

/-- An admin command of an opcode, ready to be carried out. -/
structure State.AdminReady (s : State) (serial opcode : Nat) (c : Cmd) : Prop extends s.CmdReady serial c where
  admin : s.isAdmin c = true
  opcode_eq : c.cap.opcode = opcode

/-- A fabrics command of a type, ready to be carried out. -/
structure State.FabricsReady (s : State) (serial fctype : Nat) (c : Cmd) : Prop extends s.CmdReady serial c where
  fabrics : c.cap.opcode = 0x7F
  fctype_eq : c.cap.fctype = fctype

theorem onAdmin_of_ready {s : State} {serial opcode : Nat} {c : Cmd} {f : Cmd → State → State} (h : s.AdminReady serial opcode c) :
    s.onAdmin serial opcode f = f c s := by
  simp [State.onAdmin, h.taken, h.unanswered, h.kept, h.whole, h.admin, h.opcode_eq]

theorem onFabrics_of_ready {s : State} {serial fctype : Nat} {c : Cmd} {f : Cmd → State → State} (h : s.FabricsReady serial fctype c) :
    s.onFabrics serial fctype f = f c s := by
  simp [State.onFabrics, h.taken, h.unanswered, h.kept, h.whole, h.fabrics, h.fctype_eq]

/-- What holds of an admin command ready to be carried out holds under what makes it ready, taken one by one. -/
theorem imp_of_adminReady {s : State} {serial opcode : Nat} {c : Cmd} {p : Prop} (h : s.AdminReady serial opcode c → p) :
    s.cmd? serial = some c → c.verdict = none → c.orphan = false → c.whole = true → s.isAdmin c = true →
      c.cap.opcode = opcode → p :=
  fun htaken hverdict horphan hwhole hadmin hopcode => h ⟨⟨htaken, hverdict, horphan, hwhole⟩, hadmin, hopcode⟩

theorem imp_of_fabricsReady {s : State} {serial fctype : Nat} {c : Cmd} {p : Prop} (h : s.FabricsReady serial fctype c → p) :
    s.cmd? serial = some c → c.verdict = none → c.orphan = false → c.whole = true → c.cap.opcode = 0x7F →
      c.cap.fctype = fctype → p :=
  fun htaken hverdict horphan hwhole hfabrics hfctype => h ⟨⟨htaken, hverdict, horphan, hwhole⟩, hfabrics, hfctype⟩

theorem cmdAssoc_of_assocOf {s : State} {c : Cmd} {n : Nat} {a : Assoc} (h : s.assocOf c = some (n, a)) : s.cmdAssoc c = some a := by
  simp only [State.assocOf, Option.bind_eq_some_iff, Option.map_eq_some_iff, Prod.mk.injEq] at h
  obtain ⟨k, hconn, m, hassoc, b, hb, -, rfl⟩ := h
  simp [State.cmdAssoc, hconn, hassoc, hb]

section
variable {serial : Nat} {c : Cmd} {s : State}

/-! ### Connect and Disconnect -/

theorem exec_connect_refused {k : Conn} {st : Status} (h : s.FabricsReady serial 1 c) (hconn : s.conn? c.conn = some k)
    (hrefused : s.connectRefusal c = some st) : exec (.connect serial) s = .next (s.answer serial (verdict st true)) := by
  refine congrArg Host.Outcome.next ((onFabrics_of_ready h).trans ?_)
  simp [hconn, hrefused]

/-- The association that a Connect of the admin queue makes (R376). -/
def State.newAssoc (s : State) (c : Cmd) (k : Conn) : Assoc :=
  ⟨k.port, discoveryName == ((s.cmdData c).drop 256).take discoveryName.length, ofBytes ((s.cmdData c).take 16), 0, false, c.cap.w 12,
    s.clockNs, [], [], [], []⟩

theorem exec_connect_admin {k : Conn} (h : s.FabricsReady serial 1 c) (hconn : s.conn? c.conn = some k)
    (haccepted : s.connectRefusal c = none) (hqid : c.cap.w 10 / 2 ^ 16 = 0) :
    exec (.connect serial) s = .next ((((s.putAssoc s.freeAssoc (s.newAssoc c k)).putConn c.conn
      { k with assoc := some s.freeAssoc, qid := 0, depth := c.cap.w 11 % 2 ^ 16 + 1 }).answerWith serial
        s.freeAssoc [] good).connsRefresh) := by
  refine congrArg Host.Outcome.next ((onFabrics_of_ready h).trans ?_)
  simp only [hconn, haccepted, if_pos hqid, State.newAssoc]

/-- The association that a Connect of an I/O queue names (R376). -/
def State.namedAssoc (s : State) (c : Cmd) : Nat := ofBytes (((s.cmdData c).drop 16).take 2)

theorem exec_connect_io {k : Conn} (h : s.FabricsReady serial 1 c) (hconn : s.conn? c.conn = some k)
    (haccepted : s.connectRefusal c = none) (hqid : c.cap.w 10 / 2 ^ 16 ≠ 0) :
    exec (.connect serial) s = .next (((s.putConn c.conn
      { k with assoc := some (s.namedAssoc c), qid := c.cap.w 10 / 2 ^ 16, depth := c.cap.w 11 % 2 ^ 16 + 1 }).answerWith serial
        (s.namedAssoc c) [] good).connsRefresh) := by
  refine congrArg Host.Outcome.next ((onFabrics_of_ready h).trans ?_)
  simp only [hconn, haccepted, if_neg hqid, State.namedAssoc]

theorem exec_disconnect {n : Nat} {a : Assoc} (h : s.FabricsReady serial 8 c) (hassoc : s.assocOf c = some (n, a)) :
    exec (.disconnect serial) s = .next ((s.respondNow serial c).endAssoc n) := by
  refine congrArg Host.Outcome.next ((onFabrics_of_ready h).trans ?_)
  simp [hassoc]

/-! ### Properties -/

theorem exec_propertyGet {n : Nat} {a : Assoc} (h : s.FabricsReady serial 4 c) (hassoc : s.assocOf c = some (n, a))
    (hoff : c.cap.w 11 = 0x00 ∨ c.cap.w 11 = 0x08 ∨ c.cap.w 11 = 0x14) :
    exec (.propertyGet serial) s = .next (s.answerWith serial (if c.cap.w 11 = 0x00 then capWord
      else if c.cap.w 11 = 0x08 then 0x00020000 else a.cc) [] good) := by
  refine congrArg Host.Outcome.next ((onFabrics_of_ready h).trans ?_)
  rcases hoff with hoff | hoff | hoff <;> simp [hassoc, hoff]

theorem exec_propertyGet_csts {n : Nat} {a : Assoc} (h : s.FabricsReady serial 4 c) (hassoc : s.assocOf c = some (n, a))
    (hoff : c.cap.w 11 = 0x1C) :
    exec (.propertyGet serial) s =
      .next (s.answerWith serial (b2n a.ready + (if 0 < bitsOf a.cc 15 14 then 8 else 0)) [] good) := by
  refine congrArg Host.Outcome.next ((onFabrics_of_ready h).trans ?_)
  simp [hassoc, hoff]

theorem exec_propertySet {n : Nat} {a : Assoc} (h : s.FabricsReady serial 0 c) (hassoc : s.assocOf c = some (n, a))
    (hoff : c.cap.w 11 = 0x14) (henable : a.ready = true → bitOf (c.cap.w 12) 0 = true) :
    exec (.propertySet serial) s =
      .next ((s.putAssoc n { a with cc := c.cap.w 12, ready := bitOf (c.cap.w 12) 0 }).answer serial good) := by
  refine congrArg Host.Outcome.next ((onFabrics_of_ready h).trans ?_)
  have hkept : (a.ready && !bitOf (c.cap.w 12) 0) = false := by
    cases hready : a.ready
    · rfl
    · simp [henable hready]
  simp [hassoc, hoff, hkept]

theorem exec_propertySet_reset {n : Nat} {a : Assoc} (h : s.FabricsReady serial 0 c) (hassoc : s.assocOf c = some (n, a))
    (hoff : c.cap.w 11 = 0x14) (hready : a.ready = true) (hdisable : bitOf (c.cap.w 12) 0 = false) :
    exec (.propertySet serial) s =
      .next ((((s.putAssoc n { a with cc := c.cap.w 12, ready := false }).respondNow serial c).endAssoc n).noEnvelope) := by
  refine congrArg Host.Outcome.next ((onFabrics_of_ready h).trans ?_)
  simp [hassoc, hoff, hready, hdisable]

/-! ### Keep Alive, events and Abort -/

theorem exec_keepAlive {n : Nat} {a : Assoc} (h : s.AdminReady serial 0x18 c) (hassoc : s.assocOf c = some (n, a)) :
    exec (.keepAlive serial) s = .next ((s.putAssoc n { a with seenNs := s.clockNs }).answer serial good) := by
  refine congrArg Host.Outcome.next ((onAdmin_of_ready h).trans ?_)
  simp [hassoc]

theorem exec_asynchronousEventRequest_retained {n : Nat} {a : Assoc} {e : Event} {t : List Event} (h : s.AdminReady serial 0x0C c)
    (hassoc : s.assocOf c = some (n, a)) (hnew : a.aers.contains serial = false) (hevents : a.events = e :: t) :
    exec (.asynchronousEventRequest serial) s =
      .next ((s.putAssoc n { a with events := t, told := a.told ++ [e] }).answerWith serial e.dw0 [] good) := by
  refine congrArg Host.Outcome.next ((onAdmin_of_ready h).trans ?_)
  simp only [hassoc, hnew, hevents, Bool.false_eq_true, if_false]

theorem exec_asynchronousEventRequest_none {n : Nat} {a : Assoc} (h : s.AdminReady serial 0x0C c)
    (hassoc : s.assocOf c = some (n, a)) (hnew : a.aers.contains serial = false) (hevents : a.events = []) :
    exec (.asynchronousEventRequest serial) s = .next (if 4 ≤ a.aers.length then s.answer serial (verdict .aerLimit true)
      else s.putAssoc n { a with aers := a.aers ++ [serial] }) := by
  refine congrArg Host.Outcome.next ((onAdmin_of_ready h).trans ?_)
  simp only [hassoc, hnew, hevents, Bool.false_eq_true, if_false]

/-- The command that an Abort names: another one, not yet answered, of the queue and with the identifier of its CDW10 (R404). -/
def State.abortHit (s : State) (serial : Nat) (c : Cmd) : Option (Nat × Cmd) :=
  s.host.cmds.find? fun p => p.1 != serial && p.2.cap.cid == c.cap.w 10 / 2 ^ 16 && p.2.verdict.isNone && !p.2.orphan &&
    (s.conn? p.2.conn).any fun k => k.qid == c.cap.w 10 % 2 ^ 16 && k.assoc == (s.assocOf c).map (·.1)

theorem exec_abort_waiting {n : Nat} {x : Cmd} {u : State} (h : s.AdminReady serial 0x08 c) (hhit : s.abortHit serial c = some (n, x))
    (hwaits : s.locked n x = false ∨ (0 < x.need ∧ x.asked = 0)) (hu : u = s.answer n (verdict .abortRequested true)) :
    exec (.abort serial) s = .next (((u.putHost { u.host with locks := u.host.locks.filter fun l => l.owner != n }).answerWith serial 0
      [] good).hqRefresh) := by
  have hstops : (!s.locked n x || (x.asked < x.need && x.asked = 0)) = true := by
    rcases hwaits with hlock | ⟨hneed, hasked⟩
    · simp [hlock]
    · simp [hneed, hasked]
  subst hu
  refine congrArg Host.Outcome.next ((onAdmin_of_ready h).trans ?_)
  simp only [State.abortHit] at hhit
  simp only [hhit, if_pos hstops]

theorem exec_abort_none (h : s.AdminReady serial 0x08 c) (hhit : s.abortHit serial c = none) :
    exec (.abort serial) s = .next (s.answerWith serial 1 [] good) := by
  refine congrArg Host.Outcome.next ((onAdmin_of_ready h).trans ?_)
  simp only [State.abortHit] at hhit
  simp only [hhit]

/-! ### Log pages and Identify -/

theorem exec_getLogPage {off n : Nat} {page : List Nat} (h : s.AdminReady serial 0x02 c)
    (hpage : s.logPage c ((s.cmdAssoc c).any (·.discovery)) = some (.inr page))
    (hn : n = 4 * (c.cap.w 10 / 2 ^ 16 + 2 ^ 16 * (c.cap.w 11 % 2 ^ 16) + 1)) (hoff : off = c.cap.w 12 + 2 ^ 32 * c.cap.w 13)
    (hlength : off ≤ page.length) (haligned : off % 4 = 0) (hshort : n ≤ 2 ^ 26) :
    exec (.getLogPage serial) s = .next ((s.pageRead c).answerWith serial 0 ((page.drop off).take n) good) := by
  have hgiven : (page.length < off || off % 4 != 0 || 2 ^ 26 < n) = false := by simpa [haligned] using ⟨hlength, hshort⟩
  refine congrArg Host.Outcome.next ((onAdmin_of_ready h).trans ?_)
  simp only [hpage, ← hn, ← hoff, hgiven, Bool.false_eq_true, if_false]

theorem exec_getLogPage_unsupported (h : s.AdminReady serial 0x02 c)
    (hpage : s.logPage c ((s.cmdAssoc c).any (·.discovery)) = none) :
    exec (.getLogPage serial) s = .next (s.answer serial (verdict .invalidLogPage true)) := by
  refine congrArg Host.Outcome.next ((onAdmin_of_ready h).trans ?_)
  simp only [hpage]

theorem exec_identify_controller {n : Nat} {a : Assoc} (h : s.AdminReady serial 0x06 c) (hassoc : s.assocOf c = some (n, a))
    (hcns : c.cap.w 10 % 256 = 1) :
    exec (.identify serial) s = .next (s.answerWith serial 0 (s.identifyController n a.discovery) good) := by
  refine congrArg Host.Outcome.next ((onAdmin_of_ready h).trans ?_)
  simp [hassoc, cmdAssoc_of_assocOf hassoc, hcns]

theorem exec_identify_ns {n : Ns} (h : s.AdminReady serial 0x06 c) (hhost : (s.cmdAssoc c).any (·.discovery) = false)
    (hcns : c.cap.w 10 % 256 = 0) (hns : s.ns? c.cap.nsid = some n) :
    exec (.identify serial) s = .next (s.answerWith serial 0 (s.identifyNs n) good) := by
  refine congrArg Host.Outcome.next ((onAdmin_of_ready h).trans ?_)
  simp only [hhost, hcns, hns, Bool.false_and, Bool.false_eq_true, if_false]

/-! ### Features -/

theorem exec_setFeatures_temperature {th : Nat} (h : s.AdminReady serial 0x09 c) (hfid : c.cap.w 10 % 256 = 0x04)
    (hsel : bitsOf (c.cap.w 11) 19 16 = 0) (hkind : th = bitsOf (c.cap.w 11) 21 20) (hth : th ≤ 1) :
    exec (.setFeatures serial) s =
      .next ((s.featSet 0x04 th (c.cap.w 11 % 2 ^ 16) (bitOf (c.cap.w 10) 31)).answer serial good) := by
  refine congrArg Host.Outcome.next ((onAdmin_of_ready h).trans ?_)
  simp [hfid, hsel, ← hkind, Nat.not_lt.2 hth]

theorem exec_setFeatures_controller {n : Nat} {a : Assoc} (h : s.AdminReady serial 0x09 c) (hassoc : s.assocOf c = some (n, a))
    (hfid : [0x01, 0x02, 0x07, 0x0B, 0x0F, 0x16].contains (c.cap.w 10 % 256) = true) (hsave : bitOf (c.cap.w 10) 31 = false) :
    exec (.setFeatures serial) s = .next (s.setCtrlFeature serial c n a) := by
  refine congrArg Host.Outcome.next ((onAdmin_of_ready h).trans ?_)
  simp only [hassoc, hfid, hsave, Bool.false_and, Bool.false_eq_true, if_false, if_true]

theorem exec_getFeatures_temperature (h : s.AdminReady serial 0x0A c) (hfid : c.cap.w 10 % 256 = 0x04)
    (hsel : bitsOf (c.cap.w 10) 10 8 = 0) :
    exec (.getFeatures serial) s =
      .next (s.answerWith serial (s.featValue 0x04 (bitsOf (c.cap.w 11) 21 20) % 2 ^ 32) [] good) := by
  refine congrArg Host.Outcome.next ((onAdmin_of_ready h).trans ?_)
  simp [hfid, hsel]

/-! ### Firmware -/

theorem exec_firmwareImageDownload (h : s.AdminReady serial 0x11 c) (hcount : 4 * (c.cap.w 10 + 1) % 4096 = 0)
    (hoff : 4 * c.cap.w 11 % 4096 = 0) :
    exec (.firmwareImageDownload serial) s =
      .next ((s.putHost { s.host with image := s.host.image ++ [(4 * c.cap.w 11, s.cmdData c)] }).answer serial good) := by
  refine congrArg Host.Outcome.next ((onAdmin_of_ready h).trans ?_)
  simp [hcount, hoff]

/-- In recovery mode a commit that the device can start from power-cycles the switched domains, once the heads are latched (R48). -/
def State.recommitted (t : State) (k : Nat) (z : Area) : State :=
  if (t.get Reg.SYS_BOOT_MODE = 2 && t.restartsOn k z) = true then
    if t.headsOff = true then { t.emUnloadAll 0x3 with pwr := { t.pwr with recommit := true } }
    else { t.pdAllOff (List.range 30) with pwr := { t.pwr with offMs := some t.ms } }
  else t

theorem exec_firmwareCommit {z image : Area} {k : Nat} {m : Option Status} {u t : State} (h : s.AdminReady serial 0x10 c)
    (hk : k = c.cap.w 10 % 8 - 1)
    (hz : (if bitsOf (c.cap.w 10) 5 3 = 2 then s.slotOf k else if s.host.image.isEmpty = true then none else some image) = some z)
    (hm : m = s.commitRefusal c z) (hu : u = (s.writeTrial k z).putHost { s.host with image := [] })
    (ht : t = (u.ledger 0x0060 [k, z.build 0x10, 0, 0, 0, 0, 0]).answer serial good) :
    exec (.firmwareCommit serial image) s =
      .next (m.elim (t.recommitted k z) fun st => s.answer serial (verdict st true)) := by
  subst hm hu ht
  refine congrArg Host.Outcome.next ((onAdmin_of_ready h).trans ?_)
  simp only [← hk, hz]
  cases s.commitRefusal c z <;> rfl

end

/-- Settles O46, command by command, each in the cases of its clauses. -/
theorem controllerCommandsRun : Obligations.ControllerCommandsRun := by
  refine ⟨fun _ _ _ _ _ => imp_of_fabricsReady exec_connect_refused,
    fun _ _ _ _ _ _ _ => imp_of_fabricsReady fun h hconn haccepted hqid hn hu hv => ?_,
    fun _ _ _ _ _ _ => imp_of_fabricsReady fun h hconn haccepted hqid hn hv => ?_,
    fun _ _ _ _ _ => imp_of_fabricsReady exec_disconnect,
    fun _ _ _ _ _ => imp_of_fabricsReady exec_propertyGet,
    fun _ _ _ _ _ => imp_of_fabricsReady exec_propertyGet_csts,
    fun _ _ _ _ _ _ => imp_of_fabricsReady fun h hassoc hoff henable hb => hb ▸ exec_propertySet h hassoc hoff henable,
    fun _ _ _ _ _ _ => imp_of_fabricsReady fun h hassoc hoff hready hdisable hb =>
      hb ▸ exec_propertySet_reset h hassoc hoff hready hdisable,
    fun _ _ _ _ _ => imp_of_adminReady exec_keepAlive,
    fun _ _ _ _ _ _ _ _ => imp_of_adminReady fun h hassoc hnew hevents hu =>
      hu ▸ exec_asynchronousEventRequest_retained h hassoc hnew hevents,
    fun _ _ _ _ _ => imp_of_adminReady fun h hassoc hnew hevents hroom => ?_,
    fun _ _ _ _ _ => imp_of_adminReady fun h hassoc hnew hevents hfull => ?_,
    fun _ _ _ _ _ _ => imp_of_adminReady exec_abort_waiting,
    fun _ _ _ => imp_of_adminReady exec_abort_none,
    fun _ _ _ _ _ _ => imp_of_adminReady exec_getLogPage,
    fun _ _ _ => imp_of_adminReady exec_getLogPage_unsupported,
    fun _ _ _ _ _ => imp_of_adminReady exec_identify_controller,
    fun _ _ _ _ => imp_of_adminReady exec_identify_ns,
    fun _ _ _ _ => imp_of_adminReady exec_setFeatures_temperature,
    fun _ _ _ _ _ => imp_of_adminReady exec_setFeatures_controller,
    fun _ _ _ => imp_of_adminReady exec_getFeatures_temperature,
    fun _ _ _ => imp_of_adminReady exec_firmwareImageDownload,
    fun _ _ _ _ _ _ _ _ _ _ => imp_of_adminReady fun h hk hz hm hu ht hv => hv ▸ exec_firmwareCommit h hk hz hm hu ht⟩
  · subst hn hu hv
    exact exec_connect_admin h hconn haccepted hqid
  · subst hn hv
    exact exec_connect_io h hconn haccepted hqid
  · rw [exec_asynchronousEventRequest_none h hassoc hnew hevents, if_neg (Nat.not_le.2 hroom)]
  · rw [exec_asynchronousEventRequest_none h hassoc hnew hevents, if_pos hfull]

end Sys2Proof.Machine
end

section
/-!
The tick boundary (O9, R76): time passes first, and the tick is counted before anything else that is bound to it; what follows changes
neither.
-/
namespace Sys2Proof.Machine

/-- A boundary as its units find it: time has passed, and the caches have written back and noted their corrected rows. -/
def State.atBoundary (s : State) (f : TickFacts) : State :=
  (f.rows.filter fun r => r.1 = 0 || r.1 = 2).foldl (fun s r => s.noteRow r) (s.advance f.ns).phcDrain

/-- The units at a boundary (R76): every tick-bound unit while the tick runs, PWR alone while it does not. -/
def State.boundaryUnits (s : State) (f : TickFacts) : State := if s.tickRuns then s.unitsTick f else s.powerTick f

theorem exec_tickBoundary {f : TickFacts} {s : State} (h : f.dbus ≤ 33000) :
    exec (.tickBoundary f) s =
      .next (((s.atBoundary f).boundaryUnits f).watchCritical fun s => (s.frankTick f.ns).heatTick f) :=
  if_neg (Nat.not_lt.2 h)

/-! ### Time -/

theorem only_atBoundary (s : State) (f : TickFacts) : Only [.mem] (s.advance f.ns) (s.atBoundary f) :=
  only_foldl (only_phcDrain only_self (among rfl)) fun _ _ ht => only_noteRow ht (among rfl)

theorem clockNs_atBoundary (s : State) (f : TickFacts) : (s.atBoundary f).clockNs = s.clockNs + f.ns :=
  (only_atBoundary s f).clockNs_eq (by decide)

theorem tick_atBoundary (s : State) (f : TickFacts) : (s.atBoundary f).tick = s.tick := (only_atBoundary s f).tick_eq (by decide)

/-- Of the registers, time moves those of the ledger alone. -/
theorem pdOn_atBoundary (s : State) (f : TickFacts) (n : Nat) : (s.atBoundary f).pdOn n = s.pdOn n := by
  have hledger : Only [.reg 0x4072, .clockNs, .potNs] s (s.advance f.ns) := only_advance only_self (among rfl)
  have hget : (s.atBoundary f).get Reg.SYS_PD_STATUS_ON = s.get Reg.SYS_PD_STATUS_ON :=
    ((only_atBoundary s f).get_eq (by decide) (by decide)).trans (hledger.get_eq (by decide) (by decide))
  rw [State.pdOn, State.bit, hget, State.pdOn, State.bit]

/-! ### The count -/

/-- What a boundary may change once its time has passed and its tick is counted. -/
def unitParts (f : TickFacts) : List Part := (scope (.tickBoundary f)).filter fun p => p ≠ .clockNs ∧ p ≠ .tick

theorem clockNs_notMem_unitParts (f : TickFacts) : Part.clockNs ∉ unitParts f := by simp [unitParts]

theorem tick_notMem_unitParts (f : TickFacts) : Part.tick ∉ unitParts f := by simp [unitParts]

/-- The count of ticks of a state is one greater, modulo 2^64. -/
def State.countTick (s : State) : State := { s with tick := (s.tick + 1) % 2 ^ 64 }

theorem only_unitsTick_countTick (s : State) (f : TickFacts) : Only (unitParts f) s.countTick (s.unitsTick f) := by
  unfold State.unitsTick
  have hsets : Only (unitParts f) s.countTick s.countTick.postTick.settlePower.slowTick :=
    only_slowTick (only_settlePower (only_postTick only_self (among rfl)) (among rfl)) (among rfl)
  have hengine := only_engineTick (only_degradedTick (ns := f.ns) (only_sourceTick (f := f)
    (only_foldl (l := List.range 5) (f := fun s l => s.takeUp l s.clockNs) hsets fun _ _ ht => only_takeUp ht (among rfl)) (among rfl))
    (among rfl)) (among rfl)
  exact only_ageZoneSets (only_readyTick (only_spindleTick (only_pmkTick (only_powerTick (only_latchPorts (only_foldl hengine fun _ _ ht =>
    only_aspTick (only_loopTick (only_wedgePass ht (among rfl)) (among rfl)) (among rfl)) (among rfl)) (among rfl)) (among rfl))
    (among rfl)) (among rfl)) (among rfl)

theorem only_boundaryUnits (s : State) (f : TickFacts) :
    Only (unitParts f) (if s.pdOn 12 then s.countTick else s) (s.boundaryUnits f) := by
  unfold State.boundaryUnits State.tickRuns
  split
  · exact only_unitsTick_countTick s f
  · exact only_powerTick only_self (among rfl)

/-- The franking books, the thermal side and the critical warning follow the units. -/
theorem only_boundary (s : State) (f : TickFacts) :
    Only (unitParts f) (if s.pdOn 12 then s.countTick else s)
      ((s.boundaryUnits f).watchCritical fun s => (s.frankTick f.ns).heatTick f) :=
  only_watchCritical (only_boundaryUnits s f) (fun _ ht => only_heatTick (only_frankTick ht (among rfl)) (among rfl)) (among rfl)

/-- Settles O9: time and the count as they stand when the units begin, which change neither, and the rest by the frame of the command. -/
theorem tickBoundaryAdvances : Obligations.TickBoundaryAdvances := by
  intro f s hrated
  have ht := exec_tickBoundary (s := s) hrated
  have hunits := only_boundary (s.atBoundary f) f
  have honly := everyCommandTouchesOnly _ s _ ht
  refine ⟨_, ht, ?_, ?_, honly.nand_eq (by simp [Instr.touches]), honly.variant_eq (by simp [Instr.touches]),
    honly.straps_eq (by simp [Instr.touches]), honly.pending_eq (by simp [Instr.touches])⟩
  · rw [hunits.clockNs_eq (clockNs_notMem_unitParts f), ← clockNs_atBoundary]
    split <;> rfl
  · rw [hunits.tick_eq (tick_notMem_unitParts f), pdOn_atBoundary, ← tick_atBoundary s f]
    split <;> rfl

end Sys2Proof.Machine
end

section
/-!
The postmark (O11, R66, R67, R70, R71, R81): an equation for each command; of a ramp fault, what the streams it drops leave of the heads.
-/
namespace Sys2Proof.Machine

/-! ### The heads -/

theorem exec_flyingLimitCrossed_rising (s : State) :
    exec (.flyingLimitCrossed true) s = .next ({ s with pmk := { s.pmk with flying := true } } : State).loadHeads := rfl

theorem exec_flyingLimitCrossed_falling (s : State) :
    exec (.flyingLimitCrossed false) s = .next ({ s with
      pmk := { s.pmk with flying := false, energA := false, energB := false, sinceA := s.clockNs, sinceB := s.clockNs } } :
        State).pmkRefresh := rfl

/-- The state in which a park line has closed. -/
def State.parkClosed (s : State) (b : Bool) : State := s.set (if b then Reg.PMK_STATUS_PARK_B else Reg.PMK_STATUS_PARK_A) 1

theorem exec_parkSwitchClose_off {b : Bool} {s : State} (h : s.energised b = false) :
    exec (.parkSwitchClose b) s = .next (s.parkClosed b).pmkRefresh :=
  if_neg (c := s.energised b = true) (by simp [h])

theorem exec_parkSwitchClose_energised {b : Bool} {s : State} (h : s.energised b = true) :
    exec (.parkSwitchClose b) s = .next ((s.parkClosed b).rampFault b) :=
  if_pos (c := s.energised b = true) h

theorem exec_rampFaultTimeout {b : Bool} {s : State} (hon : s.energised b = true) (hparked : s.parked b = true)
    (hlong : (if b then s.pmk.sinceB else s.pmk.sinceA) + 150000000 < s.clockNs) :
    exec (.rampFaultTimeout b) s = .next (s.rampFault b) := by
  have hsince : 150000000 < s.clockNs - (if b then s.pmk.sinceB else s.pmk.sinceA) := by omega
  simp [exec, execRampFaultTimeout, hon, hparked, hsince, ok]

/-! ### What dropping a stream leaves of the heads -/

/-- RAMP_FAULT and both drivers are as they were. -/
structure HeadsKept (s t : State) : Prop where
  fault : t.get Reg.PMK_STATUS_RAMP_FAULT = s.get Reg.PMK_STATUS_RAMP_FAULT
  drivers : ∀ b, t.energised b = s.energised b

theorem HeadsKept.trans {s t u : State} (h : HeadsKept s t) (h' : HeadsKept t u) : HeadsKept s u :=
  ⟨h'.fault.trans h.fault, fun b => (h'.drivers b).trans (h.drivers b)⟩

theorem HeadsKept.refl (s : State) : HeadsKept s s := ⟨rfl, fun _ => rfl⟩

theorem headsKept_set {f : Fld} (s : State) (v : Nat) (hf : Reg.PMK_STATUS_RAMP_FAULT.key ≠ f.key) : HeadsKept s (s.set f v) :=
  ⟨get_set_ne s v hf, fun _ => rfl⟩

theorem headsKept_pmkRefresh (s : State) : HeadsKept s s.pmkRefresh := headsKept_set s _ (by decide)

theorem headsKept_setStream (s : State) (n : Nat) (v : Bool) : HeadsKept s (s.setStream n v) :=
  ⟨(get_set_ne _ _ (by decide)).trans (get_set_ne s _ (by decide)), fun _ => rfl⟩

theorem headsKept_event (s : State) (source code addr info : Nat) : HeadsKept s (s.event source code addr info) := by
  have honly := only_event (source := source) (code := code) (addr := addr) (info := info) (Only.refl s) fun _ hp => hp
  exact ⟨honly.get_eq (by decide) (by decide), fun b => by rw [State.energised, honly.pmk_eq (by decide), State.energised]⟩

theorem headsKept_withTck (s : State) (x : Tck) : HeadsKept s { s with tck := x } := ⟨rfl, fun _ => rfl⟩

theorem headsKept_withTracked (s : State) (l : List Nat) : HeadsKept s { s with pmk := { s.pmk with tracked := l } } :=
  ⟨rfl, fun _ => rfl⟩

theorem headsKept_setAll (s : State) (l : List (Fld × Nat)) (hl : ∀ p ∈ l, Reg.PMK_STATUS_RAMP_FAULT.key ≠ p.1.key) :
    HeadsKept s (s.setAll l) := by
  induction l generalizing s with
  | nil => exact .refl s
  | cons p l ih =>
    rw [List.forall_mem_cons] at hl
    exact (headsKept_set s p.2 hl.1).trans (ih _ hl.2)

theorem headsKept_allLost (s : State) : HeadsKept s s.allLost := by
  have hmarks : HeadsKept s (((s.set Reg.PMK_STATUS_ALL_LOST 1).set Reg.TCK_STATUS_WR_HOLD 1).setAll
      [(Reg.PMK_STATUS_STATE, 4), (Reg.PMK_ANGLE_CYCLE, 0), (Reg.PMK_ANGLE_FRAC, 0), (Reg.TCK_STATUS_PHASE_ERR, 0)]) :=
    ((headsKept_set s _ (by decide)).trans (headsKept_set _ _ (by decide))).trans (headsKept_setAll _ _ (by decide))
  unfold State.allLost
  dsimp only
  split
  · exact (hmarks.trans (headsKept_withTck _ _)).trans (headsKept_set _ _ (by decide))
  · split
    · exact (hmarks.trans (headsKept_withTck _ _)).trans (headsKept_set _ _ (by decide))
    · exact hmarks

/-- A stream's count of drops goes up (R71). -/
def State.countDrop (s : State) (n : Nat) : State :=
  match n with
  | 0 => s.inc Reg.PMK_DROPS_DROPS_0
  | 1 => s.inc Reg.PMK_DROPS_DROPS_1
  | 2 => s.inc Reg.PMK_DROPS_DROPS_2
  | _ => s.inc Reg.PMK_DROPS_DROPS_3

theorem headsKept_countDrop (s : State) (n : Nat) : HeadsKept s (s.countDrop n) := by
  unfold State.countDrop
  split <;> exact headsKept_set s _ (by decide)

/-- The state in which the drop of a valid stream is counted and told, before the lock is judged (R71). -/
def State.dropTold (s : State) (n : Nat) : State :=
  let t := (s.setStream n false).setBit Reg.PMK_STATUS_TRACKING n false
  (({ t with pmk := { t.pmk with tracked := t.pmk.tracked.set n 0 } } : State).countDrop n).event 0x01 0x08 0 0x01

theorem dropStream_eq (s : State) (n : Nat) : s.dropStream n = if n < 4 && s.bit Reg.PMK_STATUS_VALID n then
    (if (s.dropTold n).pmkLocked then (s.dropTold n).pmkRefresh else (s.dropTold n).allLost) else s := rfl

theorem headsKept_dropTold (s : State) (n : Nat) : HeadsKept s (s.dropTold n) := by
  have hcleared : HeadsKept s ((s.setStream n false).setBit Reg.PMK_STATUS_TRACKING n false) :=
    (headsKept_setStream s n false).trans (headsKept_set _ _ (by decide))
  exact ((hcleared.trans (headsKept_withTracked _ _)).trans (headsKept_countDrop _ n)).trans (headsKept_event _ _ _ _ _)

theorem headsKept_dropStream (s : State) (n : Nat) : HeadsKept s (s.dropStream n) := by
  rw [dropStream_eq]
  split
  · split
    · exact (headsKept_dropTold s n).trans (headsKept_pmkRefresh _)
    · exact (headsKept_dropTold s n).trans (headsKept_allLost _)
  · exact .refl s

theorem headsKept_dropStreams (s : State) (l : List Nat) : HeadsKept s (s.dropStreams l) := by
  induction l generalizing s with
  | nil => exact .refl s
  | cons n l ih => exact (headsKept_dropStream s n).trans (ih _)

/-! ### A ramp fault -/

/-- The state of a head whose ramp fault is noted (R67): its streams are still to be dropped. -/
def State.rampNoted (s : State) (b : Bool) : State :=
  let t := (s.set Reg.PMK_STATUS_RAMP_FAULT 1).setEnergised b false
  if b then { t with pmk := { t.pmk with faultB := true } } else { t with pmk := { t.pmk with faultA := true } }

theorem headsKept_rampFault (s : State) (b : Bool) : HeadsKept (s.rampNoted b) (s.rampFault b) :=
  (headsKept_dropStreams _ _).trans (headsKept_pmkRefresh _)

theorem rampFault_get (s : State) (b : Bool) : (s.rampFault b).get Reg.PMK_STATUS_RAMP_FAULT = 1 := by
  rw [(headsKept_rampFault s b).fault]
  cases b <;> exact get_set_same s Reg.PMK_STATUS_RAMP_FAULT 1

theorem rampFault_energised (s : State) (b : Bool) : (s.rampFault b).energised b = false := by
  rw [(headsKept_rampFault s b).drivers]
  cases b <;> rfl

/-! ### The streams and the lock -/

/-- The state in which a stream has become valid (R70): it ends degraded timing. -/
def State.streamValid (s : State) (n : Nat) : State :=
  ({ s.setStream n true with pmk := { (s.setStream n true).pmk with degraded := false } } : State).pmkRefresh

theorem only_streamValid (s : State) (n : Nat) : Only [.reg 0x4000, .reg 0x4001, .pmk] s (s.streamValid n) :=
  only_pmkRefresh (only_withPmk (only_setStream only_self (among rfl)) (listed rfl)) (among rfl)

/-- A source other than wedge stays as it is (R84). -/
theorem exec_pmkStreamValid {n amp : Nat} {a b : IndexFind} {s : State} (hn : n < 4) (hread : s.streamRead n = true)
    (henabled : s.bit Reg.PMK_CTRL_STREAM_EN n = true) (hnew : s.bit Reg.PMK_STATUS_VALID n = false)
    (hamp : s.get Reg.PMK_AMP_AMP_MIN ≤ amp) (htracked : 4096 ≤ s.pmk.tracked.getD n 0) (hindex : s.indexFound n a b = true)
    (hsrc : s.get Reg.TCK_STATUS_SRC ≠ 3) (hwedge : s.tck.toWedge = none) :
    exec (.pmkStreamValid n amp a b) s = .next (s.streamValid n) := by
  have honly := only_streamValid s n
  have hdisc : ¬((s.streamValid n).get Reg.TCK_STATUS_SRC == 3 || (s.streamValid n).tck.toWedge.isSome) = true := by
    rw [honly.get_eq (by decide) (by decide), honly.tck_eq (by decide)]
    simp [hsrc, hwedge]
  exact (if_pos (by simp only [hn, hread, henabled, hnew, hamp, htracked, hindex]; rfl)).trans (if_neg hdisc)

theorem exec_pmkStreamDrop {n : Nat} {c : DropCause} {s : State}
    (h : s.drops n c = true ∨ s.bit Reg.PMK_CTRL_STREAM_EN n = false ∨ s.get Reg.PMK_CTRL_ENABLE = 0) :
    exec (.pmkStreamDrop n c) s = .next (s.dropStream n) := by
  refine if_pos ?_
  simpa [State.on, or_assoc] using h

theorem exec_pmkAcqTimeout {t : Nat} {s : State} (hspeed : s.pmk.speedNs = some t) (hlong : t + 600000000 ≤ s.clockNs)
    (honce : s.pmk.timedOut = false) (hunlocked : s.pmkLocked = false) :
    exec .pmkAcqTimeout s = .next { (s.set Reg.PMK_STATUS_ACQ_TIMEOUT 1).event 0x01 0x07 0 0x01 with
      pmk := { s.pmk with timedOut := true, degraded := s.on Reg.PMK_CTRL_DEGRADE_OK } } := by
  have hsince : 600000000 ≤ s.clockNs - t := by omega
  have htold := only_event (source := 0x01) (code := 0x07) (addr := 0) (info := 0x01)
    (Only.refl (s.set Reg.PMK_STATUS_ACQ_TIMEOUT 1)) fun _ hp => hp
  have hpmk := htold.pmk_eq (by decide)
  have hpost := (htold.get_eq (f := Reg.PMK_CTRL_DEGRADE_OK) (by decide) (by decide)).trans (get_set_ne s 1 (by decide))
  simp [exec, execPmkAcqTimeout, hspeed, hsince, honce, hunlocked, hpmk, State.on, hpost, ok]

/-- Settles O11, command by command; a ramp fault by what it leaves of the heads once its streams are dropped. -/
theorem postmarkRuns : Obligations.PostmarkRuns :=
  ⟨exec_flyingLimitCrossed_rising, exec_flyingLimitCrossed_falling, fun _ _ => exec_parkSwitchClose_off,
    fun _ _ => exec_parkSwitchClose_energised, fun _ _ => exec_rampFaultTimeout,
    fun b s => ⟨rampFault_get s b, rampFault_energised s b⟩, fun _ _ _ _ _ => exec_pmkStreamValid, fun _ _ _ => exec_pmkStreamDrop,
    fun _ _ => exec_pmkAcqTimeout⟩

end Sys2Proof.Machine
end

section
/-!
The courier engine's control (O17, R90, R170, R174, R181, R182, R184, R185, R190): an equation for each command.
-/
namespace Sys2Proof.Machine

/-! ### Loading -/

theorem exec_creLoad {i : Initiator} {s : State} (hr : s.reaches i 0x40200000 = true) :
    exec (.creLoad i) s = .next (if s.get Reg.CRE_STATUS_STATE = 0 ∨ s.get Reg.CRE_STATUS_STATE = 2 ∨ s.get Reg.CRE_STATUS_STATE = 4
      then { s.set Reg.CRE_STATUS_STATE 1 with bus := .written } else s.ignored i 0x40200000) := by
  refine congrArg Host.Outcome.next ((access_of_reaches hr).trans ?_)
  simp [or_assoc]

/-- The store takes the image whatever the checks find; they decide what the engine becomes. -/
theorem exec_creLoadDone {a : Nat} {words : Sparse Nat} {b : List Nat} {u s : State} (hloading : s.get Reg.CRE_STATUS_STATE = 1)
    (ha : a = s.get Reg.CRE_LOAD_LO_ADDR + 2 ^ 32 * s.get Reg.CRE_LOAD_HI_ADDR) (hwords : words = s.imageWords a 24 8192)
    (hb : b = s.imageBytes a (512 + 24 * 8192))
    (hu : u = ({ s with eng := { s.eng with store := words } } : State).set Reg.CRE_INT_LOAD_DONE 1) :
    exec .creLoadDone s = .next (if (s.imageSigned b && words.all fun p => creReservedOk p.2) = true then
        (({ u with eng := { u.eng with provides := prologueProvides b } } : State).set Reg.CRE_STATUS_STATE 2).set Reg.CRE_BUILD_BUILD
          (prologueBuild b)
      else (u.set Reg.CRE_STATUS_STATE 0).set Reg.CRE_STATUS_LOAD_FAIL 1) := by
  rw [hu, hb, hwords, ha]
  refine (if_pos hloading).trans ?_
  split <;> rfl

/-! ### Running and stopping -/

theorem exec_creRun_started {i : Initiator} {s : State} (hr : s.reaches i 0x40200000 = true)
    (hready : s.get Reg.CRE_STATUS_STATE = 2 ∨ s.get Reg.CRE_STATUS_STATE = 4) :
    exec (.creRun i) s =
      .next { s.set Reg.CRE_CTRL_RUN 1 with bus := .written, eng := { s.eng with runAt := some true } } := by
  have hnot : ¬s.get Reg.CRE_STATUS_STATE ≤ 1 ∧ ¬(s.get Reg.CRE_STATUS_STATE == 3) = true := by
    rcases hready with h | h <;> simp [h]
  exact congrArg Host.Outcome.next ((access_of_reaches hr).trans ((if_neg hnot.1).trans (if_neg hnot.2)))

theorem exec_creRun_ignored {i : Initiator} {s : State} (hr : s.reaches i 0x40200000 = true)
    (hnone : s.get Reg.CRE_STATUS_STATE = 0 ∨ s.get Reg.CRE_STATUS_STATE = 1) :
    exec (.creRun i) s = .next ((s.set Reg.CRE_CTRL_RUN 0).ignored i 0x40200000) :=
  congrArg Host.Outcome.next ((access_of_reaches hr).trans (if_pos (by omega)))

theorem exec_creStop_stopping {i : Initiator} {s : State} (hr : s.reaches i 0x40200000 = true) (hheads : s.headsOff = false)
    (hpmk : s.pmkOff = false) (hstill : s.turning = false) (hrunning : s.get Reg.CRE_STATUS_STATE = 3) :
    exec (.creStop i) s =
      .next { s.set Reg.CRE_CTRL_RUN 0 with bus := .written, eng := { s.eng with runAt := some false } } := by
  have hstate : (s.set Reg.CRE_CTRL_RUN 0).get Reg.CRE_STATUS_STATE = 3 := (get_set_ne s 0 (by decide)).trans hrunning
  exact congrArg Host.Outcome.next ((access_of_reaches hr).trans
    ((if_neg (by simp [hheads, hpmk, hstill])).trans (if_pos (beq_iff_eq.2 hstate))))

theorem exec_creStop_ignored {i : Initiator} {s : State} (hr : s.reaches i 0x40200000 = true)
    (hbusy : s.headsOff = true ∨ s.pmkOff = true ∨ s.turning = true) :
    exec (.creStop i) s = .next (s.ignored i 0x40200000) :=
  congrArg Host.Outcome.next ((access_of_reaches hr).trans (if_pos (by simpa [or_assoc] using hbusy)))

/-! ### The windows -/

theorem exec_creClrPeaks {i : Initiator} {s : State} (hr : s.reaches i 0x40200000 = true) :
    exec (.creClrPeaks i) s =
      .next { (List.range 18).foldl (fun s n => s.set (Reg.CRE_CYCLES_PEAK n) 0) s with bus := .written } :=
  congrArg Host.Outcome.next (access_of_reaches hr)

theorem exec_creDmDataAccess_read {i : Initiator} {s : State} (hr : s.reaches i 0x40200194 = true) :
    exec (.creDmDataAccess i none) s =
      .next { (s.sramRead 3 (s.get Reg.CRE_DM_ADDR_ADDR) 1 0x20).set Reg.CRE_DM_ADDR_ADDR (s.get Reg.CRE_DM_ADDR_ADDR + 1) with
        bus := .read (sGet s.eng.dm (s.get Reg.CRE_DM_ADDR_ADDR) 0) } :=
  congrArg Host.Outcome.next (access_of_reaches hr)

/-- The data memory with a word at ADDR, and ADDR moved on (R190). -/
def State.dmWritten (s : State) (v : Nat) : State :=
  ((({ s with eng := { s.eng with dm := sPut s.eng.dm (s.get Reg.CRE_DM_ADDR_ADDR) (v % 2 ^ 32) 0 } } : State).injWrite 3
    (s.get Reg.CRE_DM_ADDR_ADDR) 1).set Reg.CRE_DM_ADDR_ADDR (s.get Reg.CRE_DM_ADDR_ADDR + 1))

/-- What an armed injection does to a word written leaves the engine as it is (R450). -/
theorem eng_injWrite (s : State) (target a n : Nat) : (s.injWrite target a n).eng = s.eng :=
  (only_injWrite (P := [.reg 0x4071, .mem]) (Only.refl s) fun _ hp => hp).eng_eq (by decide)

theorem dm_dmWritten (s : State) (v : Nat) : sGet (s.dmWritten v).eng.dm (s.get Reg.CRE_DM_ADDR_ADDR) 0 = v % 2 ^ 32 := by
  rw [State.dmWritten, State.set_eng, eng_injWrite]
  exact sGet_sPut_same _ _ _ _

theorem exec_creDmDataAccess_write {i : Initiator} {v : Nat} {s : State} (hr : s.reaches i 0x40200194 = true) :
    exec (.creDmDataAccess i (some v)) s = .next (if s.get Reg.CRE_STATUS_STATE = 3 then s.ignored i 0x40200194
      else { s.dmWritten v with bus := .written }) := by
  refine congrArg Host.Outcome.next ((access_of_reaches hr).trans ?_)
  simp only [beq_iff_eq]
  rfl

theorem exec_creCapDataRead {i : Initiator} {s : State} (hr : s.reaches i 0x4020019C = true) :
    exec (.creCapDataRead i) s = .next { s.set Reg.CRE_CAP_ADDR_INDEX (s.get Reg.CRE_CAP_ADDR_INDEX + 1) with
      bus := .read (sGet s.eng.cap (4096 * s.get Reg.CRE_CAP_ADDR_CH + s.get Reg.CRE_CAP_ADDR_INDEX) 0) } :=
  congrArg Host.Outcome.next (access_of_reaches hr)

/-! ### The channels -/

theorem exec_injectionEnd {n : Nat} {s : State} (hactive : s.get (Reg.CRE_INJ_STAT_ACTIVE n) ≠ 0)
    (hdone : s.get (Reg.CRE_INJ_CTRL_ARM n) = 0 ∨
      (s.injLen n ≤ s.get (Reg.CRE_INJ_STAT_INDEX n) + 1 ∧ s.get (Reg.CRE_INJ_CTRL_REPEAT n) = 0)) :
    exec (.injectionEnd n) s = .next (s.injEnd n) :=
  if_pos (by simpa [State.on, hactive] using hdone)

theorem exec_captureEnd {n : Nat} {s : State} (hactive : s.get (Reg.CRE_CAP_STAT_ACTIVE n) ≠ 0)
    (hfull : s.capLen n ≤ s.get (Reg.CRE_CAP_STAT_COUNT n)) : exec (.captureEnd n) s = .next (s.capEnd n) :=
  if_pos (by simpa [State.on, hactive] using hfull)

/-! ### The slices -/

theorem exec_segmentForcedEnd {n : Nat} {s u : State} (hwait : s.eng.wait = .forced) (hslice : s.eng.running = some n)
    (hu : u = (s.set Reg.CRE_STATUS_SEG_FORCED 1).commitX) (hmore : n = 17 ∨ sGet u.eng.used n 0 < u.sliceAlloc n) :
    exec .segmentForcedEnd s = .next ({ u with eng := { u.eng with wait := .none } } : State).schedule := by
  subst hu
  simp only [exec, execSegmentForcedEnd, hwait, hslice]
  refine if_neg ?_
  rcases hmore with h | h <;> simp [h]

theorem exec_sliceOverrun {n : Nat} {s : State} (hwait : s.eng.wait = .overrun n) :
    exec .sliceOverrun s =
      .next (((((s.putCtx n { s.ctx n with live := false }).setOverrun n).noteCycles n).sliceFail n 0x05).leave) := by
  simp only [exec, execSliceOverrun, hwait, ok]

/-- Settles O17, command by command; LOAD and a write of the data memory by the state the engine is in. -/
theorem courierControlRuns : Obligations.CourierControlRuns := by
  refine ⟨fun i s hr hidle => ?_, fun i s hr hbusy => ?_, fun _ _ _ _ _ => exec_creLoadDone, fun _ _ => exec_creRun_started,
    fun _ _ => exec_creRun_ignored, fun _ _ => exec_creStop_stopping, fun _ _ => exec_creStop_ignored, fun _ _ => exec_creClrPeaks,
    fun _ _ => exec_creDmDataAccess_read, fun i v s hr hhalted => ?_, fun i v s hr hrunning => ?_, fun _ _ => exec_creCapDataRead,
    fun _ _ => exec_injectionEnd, fun _ _ => exec_captureEnd, fun _ _ _ => exec_segmentForcedEnd, fun _ _ => exec_sliceOverrun⟩
  · rw [exec_creLoad hr, if_pos hidle]
  · rw [exec_creLoad hr, if_neg (by omega)]
  · exact ⟨_, (exec_creDmDataAccess_write hr).trans (congrArg Host.Outcome.next (if_neg hhalted)), dm_dmWritten s v, rfl⟩
  · rw [exec_creDmDataAccess_write hr, if_pos hrunning]

end Sys2Proof.Machine
end

section
/-!
The lane's ring and its control commands (O18, R114, R119, R123, R127, R128, R129, R132): what an entry taken becomes, then an equation for
each other command.
-/
namespace Sys2Proof.Machine

/-! ### The ring -/

theorem exec_laneQtailWrite {i : Initiator} {x : Act} {tail : Nat} {s : State} (hr : s.reaches i (x.laneBase + 0x18) = true)
    (hgoing : s.get (Reg.CH_STATUS_STATE x) ≠ 6) :
    exec (.laneQtailWrite i x tail) s = .next (if 256 < s.laneQueued x (tail % 512)
      then (s.set (Reg.CH_INT_Q_OVF x) 1).ignored i (x.laneBase + 0x18)
      else { s.set (Reg.CH_Q_PTR_QTAIL x) tail with bus := .written }) :=
  congrArg Host.Outcome.next ((access_of_reaches hr).trans (if_neg (by simp [hgoing])))

theorem firmwareOp_of_allowed {x : Act} {o : LaneOp} {s : State} (h : s.opRefusal x o = none) :
    s.firmwareOp x o = s.beginOp x o := by
  rw [State.firmwareOp, h]

theorem firmwareOp_of_refused {x : Act} {o : LaneOp} {e : Nat} {s : State} (h : s.opRefusal x o = some e) :
    s.firmwareOp x o = (s.complete x { o with ended := some e }).laneRest x := by
  rw [State.firmwareOp, h]

/-- The state in which the entry at QHEAD is taken. -/
def State.entryTaken (s : State) (x : Act) : State :=
  s.set (Reg.CH_Q_PTR_QHEAD x) ((s.get (Reg.CH_Q_PTR_QHEAD x) + 1) % 512)

/-- An entry taken is treated as an operation of base firmware's own: it starts or completes at once (R128, R129). -/
theorem takeOp_eq_firmwareOp {x : Act} {pick : Nat → Bool} {s : State} (htake : s.canTake x = true)
    (hfirst : s.rewritesFirst x (s.laneDecode x) = false) (hpick : pick (s.laneDecode x).opcode = true) :
    s.takeOp x pick (fun _ t => t) = (s.entryTaken x).firmwareOp x (s.laneDecode x) :=
  if_pos (by simp [htake, hfirst, hpick])

theorem takeOp_of_allowed {x : Act} {pick : Nat → Bool} {s u : State} (htake : s.canTake x = true)
    (hfirst : s.rewritesFirst x (s.laneDecode x) = false) (hpick : pick (s.laneDecode x).opcode = true) (hu : u = s.entryTaken x)
    (hallowed : u.opRefusal x (s.laneDecode x) = none) :
    s.takeOp x pick (fun _ t => t) = u.beginOp x (s.laneDecode x) := by
  subst hu
  rw [takeOp_eq_firmwareOp htake hfirst hpick, firmwareOp_of_allowed hallowed]

theorem takeOp_of_refused {x : Act} {pick : Nat → Bool} {e : Nat} {s u : State} (htake : s.canTake x = true)
    (hfirst : s.rewritesFirst x (s.laneDecode x) = false) (hpick : pick (s.laneDecode x).opcode = true) (hu : u = s.entryTaken x)
    (hrefused : u.opRefusal x (s.laneDecode x) = some e) :
    s.takeOp x pick (fun _ t => t) = (u.complete x { s.laneDecode x with ended := some e }).laneRest x := by
  subst hu
  rw [takeOp_eq_firmwareOp htake hfirst hpick, firmwareOp_of_refused hrefused]

/-! ### Abort and HEAD_EN -/

theorem exec_laneAbort {i : Initiator} {x : Act} {s : State} (hr : s.reaches i x.laneBase = true) :
    exec (.laneAbort i x) s = .next { s.laneAbort x with bus := .written } :=
  congrArg Host.Outcome.next (access_of_reaches hr)

/-- HEAD_EN with the bits of a mask cleared (R132). -/
def headsCleared (mask v : Nat) : Nat :=
  (List.range 8).foldl (fun v h => if bitOf mask h then Sys2Proof.setBit v h false else v) v

theorem exec_headEnClear_idle {i : Initiator} {x : Act} {mask : Nat} {s : State} (hr : s.reaches i x.laneBase = true)
    (hidle : s.mediaOp x = none) :
    exec (.headEnClear i x mask) s = .next
      { s.set (Reg.CH_CTRL_HEAD_EN x) (headsCleared mask (s.get (Reg.CH_CTRL_HEAD_EN x))) with bus := .written } := by
  have hmedia : ∀ v, (s.set (Reg.CH_CTRL_HEAD_EN x) v).mediaOp x = none := fun _ => hidle
  refine congrArg Host.Outcome.next ((access_of_reaches hr).trans ?_)
  simp only [hmedia, headsCleared]

/-! ### Zone entries -/

theorem exec_zoneEntryValidate {i : Initiator} {x : Act} {k v : Nat} {s u : State} (hr : s.reaches i (zoneAddr x k 0) = true)
    (hu : u = s.setAll [(Reg.CH_ZONE_VALID x k, 0), (Reg.CH_ZONE_LAYOUT x k, bitsOf v 30 30),
      (Reg.CH_ZONE_START_TRACK x k, bitsOf v 23 0)])
    (hnew : (u.lane x).checking.contains k = false) :
    exec (.zoneEntryValidate i x k v) s =
      .next { u.putLane x { u.lane x with checking := (u.lane x).checking ++ [k] } with bus := .written } := by
  subst hu
  refine congrArg Host.Outcome.next ((access_of_reaches hr).trans ?_)
  simp only [hnew, Bool.false_eq_true, if_false]

theorem exec_zoneEntryCheckDone {x : Act} {k : Nat} {s u : State} (hchecking : (s.lane x).checking.contains k = true)
    (hu : u = s.putLane x { s.lane x with checking := (s.lane x).checking.filter (· != k) }) :
    exec (.zoneEntryCheckDone x k) s = .next (if u.zoneOk x k = true
      then (u.set (Reg.CH_ZONE_VALID x k) 1).set (Reg.CH_ZONE_ENTRY_ERR x k) 0 else u.zoneFail x k) := by
  subst hu
  refine (if_pos hchecking).trans ?_
  split <;> rfl

theorem exec_zoneEntryInvalidate {i : Initiator} {x : Act} {k w v : Nat} {s u : State} (hr : s.reaches i (zoneAddr x k w) = true)
    (hu : u = s.putWord (zoneAddr x k w) v fun f => f.acc == .rw) :
    exec (.zoneEntryInvalidate i x k w v) s = .next
      { (u.putLane x { u.lane x with checking := (u.lane x).checking.filter (· != k) }).set (Reg.CH_ZONE_VALID x k) 0 with
        bus := .written } :=
  hu ▸ congrArg Host.Outcome.next (access_of_reaches hr)

/-- Settles O18: an entry taken starts or is refused by one rule whatever its opcode, and the other commands by an equation each. -/
theorem laneRingRuns : Obligations.LaneRingRuns := by
  refine ⟨fun i x tail s hr hgoing hroom => ?_, fun i x tail s hr hgoing hover => ?_,
    fun x s u htake hfirst hop hu hmay => ?_, fun x s u htake hfirst hop hu hmay => ?_, fun x s u htake hfirst hop hu hmay => ?_,
    fun x s u htake hfirst hop hu hmay => ?_, fun x e s u htake hfirst hop hu hno => ?_, fun _ _ _ => exec_laneAbort,
    fun _ _ _ _ => exec_headEnClear_idle, fun _ _ _ _ _ _ => exec_zoneEntryValidate, fun _ _ _ _ => exec_zoneEntryCheckDone,
    fun _ _ _ _ _ _ _ => exec_zoneEntryInvalidate⟩
  · rw [exec_laneQtailWrite hr hgoing, if_neg (Nat.not_lt.2 hroom)]
  · rw [exec_laneQtailWrite hr hgoing, if_pos hover]
  · have hpick : (!(decide (2 ≤ (s.laneDecode x).opcode) && decide ((s.laneDecode x).opcode ≤ 4))) = true := by
      obtain ⟨h2, h3, h4⟩ := hop
      simp only [Bool.not_eq_true', Bool.and_eq_false_iff, decide_eq_false_iff_not]
      omega
    exact congrArg Host.Outcome.next (takeOp_of_allowed htake hfirst hpick hu hmay)
  · exact congrArg Host.Outcome.next (takeOp_of_allowed htake hfirst (beq_iff_eq.2 hop) hu hmay)
  · exact congrArg Host.Outcome.next (takeOp_of_allowed htake hfirst (beq_iff_eq.2 hop) hu hmay)
  · exact congrArg Host.Outcome.next (takeOp_of_allowed htake hfirst (beq_iff_eq.2 hop) hu hmay)
  · exact congrArg Host.Outcome.next (takeOp_of_refused htake hfirst (beq_iff_eq.2 hop) hu hno)

end Sys2Proof.Machine
end

section
/-!
Sectors (O19, R99, R101, R119, R121, R122, R123, R129, R130, R139): the conditions under which an operation takes the sector under its head
and under which it writes it, then an equation for each command.
-/
namespace Sys2Proof.Machine

/-! ### A sector under the head -/

/-- The operation on the media goes on with the sector under its head (R129, R440): it has not ended, the lane has its turn, the loop is on
its track, and no skew is measured. -/
structure State.GoesOn (s : State) (x : Act) (o : LaneOp) : Prop where
  media : s.mediaOp x = some o
  unended : o.ended = none
  turn : s.laneTurn x = true
  onTrack : s.laneMatch x o = true
  unmeasured : o.measure = none

/-- The state in which a sector has come under the head, the one before it passed. -/
def State.sectorCame (s : State) (x : Act) (sector : Nat) : State := (s.set (Reg.CH_STATUS_SECTOR x) sector).endSector x

theorem exec_sectorStart_of_goesOn {x : Act} {sector : Nat} {ready err : Bool} {sig : List Stretch} {o : LaneOp} {s : State}
    (hfitted : s.fitted x = true) (h : (s.sectorCame x sector).GoesOn x o) :
    exec (.sectorStart x sector ready err sig) s = .next ((s.sectorCame x sector).takeSector x o sector ready err sig) := by
  obtain ⟨hmedia, hunended, hturn, hontrack, hmeasure⟩ := h
  have hcame : (s.set (Reg.CH_STATUS_SECTOR x) sector).endSector x = s.sectorCame x sector := rfl
  simp [exec, execSectorStart, hcame, hfitted, hmedia, hunended, hturn, hontrack, hmeasure, ok]

theorem takeSector_read {x : Act} {sector : Nat} {ready err : Bool} {sig : List Stretch} {o : LaneOp} {s : State}
    (hfirst : o.first ≤ sector) (hwants : o.wants (sector - o.first) = true) (hop : o.opcode ≠ 2)
    (hhead : s.bit (Reg.CH_CTRL_HEAD_EN x) o.head = true) (hroom : o.opcode = 3 ∨ (s.lane x).store.length < 32)
    (hgo : s.rereadWaits x o sector = false) :
    s.takeSector x o sector ready err sig = s.startRead x o (sector - o.first) sig := by
  have hnotfull : o.opcode ≠ 3 → ¬32 ≤ (s.lane x).store.length := by omega
  simp +contextual [State.takeSector, Nat.not_lt.2 hfirst, hwants, hop, hhead, hgo, hnotfull]

theorem takeSector_write {x : Act} {sector : Nat} {ready err : Bool} {sig : List Stretch} {o : LaneOp} {s : State}
    (hfirst : o.first ≤ sector) (hwants : o.wants (sector - o.first) = true) (hop : o.opcode = 2) :
    s.takeSector x o sector ready err sig = s.tryWrite x o (sector - o.first) ready err sig := by
  simp [State.takeSector, Nat.not_lt.2 hfirst, hwants, hop]

/-- Nothing keeps an operation from writing its sector `k`, if the data is here (R119, R121, R133). -/
structure State.MayWrite (s : State) (x : Act) (o : LaneOp) (k : Nat) : Prop where
  unheld : s.get Reg.TCK_STATUS_WR_HOLD = 0
  enabled : s.get (Reg.CH_CTRL_WRITE_EN x) ≠ 0
  powered : s.pdOn (4 + x.n) = true
  headOn : s.bit (Reg.CH_CTRL_HEAD_EN x) o.head = true
  uninhibited : s.inhibited x = false
  heated : o.heater = true
  room : (s.lane x).store.length < 32
  readable : s.unreadable s.phcOwns (s.dataAt o k) 4096 [] = none

theorem tryWrite_of_mayWrite {x : Act} {o : LaneOp} {k : Nat} {sig : List Stretch} {s : State} (h : s.MayWrite x o k) :
    s.tryWrite x o k true false sig = (s.eccRead (s.dataAt o k) 4096 []).startWrite x o k sig := by
  obtain ⟨hunheld, henabled, hpowered, hhead, huninhibited, hheated, hroom, hreadable⟩ := h
  simp [State.tryWrite, State.on, hunheld, henabled, hpowered, hhead, huninhibited, hheated, Nat.not_le.2 hroom, hreadable]

/-! ### The heater and the write inhibit -/

theorem exec_heaterLeadElapsed {x : Act} {us : Nat} {o : LaneOp} {s t : State} (hmedia : s.mediaOp x = some o) (hop : o.opcode = 2)
    (hcold : o.heater = false) (hlead : s.get (Reg.CH_HTR_HTR_LEAD x) ≤ us)
    (ht : t = s.mapOp x o.serial fun o => { o with heater := true }) :
    exec (.heaterLeadElapsed x us) s =
      .next (if t.get (Reg.CH_STATUS_STATE x) = 3 then t.set (Reg.CH_STATUS_STATE x) 5 else t) := by
  subst ht
  simp [exec, execHeaterLeadElapsed, hmedia, hop, hcold, hlead, ok]

theorem exec_writeInhibitReceived_started {x : Act} {o : LaneOp} {lastFourT : Bool} {s : State} (hmedia : s.mediaOp x = some o)
    (hop : o.opcode = 2) (hstarted : o.started ≠ []) (hpassing : (s.lane x).passing = none) :
    exec (.writeInhibitReceived x lastFourT) s =
      .next ((((s.putLane x { s.lane x with passing := none }).set (Reg.CH_STATUS_WR_GATE x) 0).endOp x o.serial 0x03).checkMedia x) := by
  simp [exec, execWriteInhibitReceived, hmedia, hop, hstarted, hpassing, ok]

theorem exec_writeInhibitReceived_waiting {x : Act} {o : LaneOp} {lastFourT : Bool} {s : State} (hmedia : s.mediaOp x = some o)
    (hwaits : o.started = []) : exec (.writeInhibitReceived x lastFourT) s = .next s := by
  simp [exec, execWriteInhibitReceived, hmedia, hwaits, ok]

/-! ### Completion -/

/-- What an operation leaves of its lane before it completes (R99, R123, R139). -/
def State.opSettled (s : State) (x : Act) (o : LaneOp) : State :=
  if o.opcode = 1 ∨ o.opcode = 3 then ((s.writeTaps x o).noteNotPlaced x o).measureSkew x o.head o.marks
  else (s.writeTaps x o).noteNotPlaced x o

theorem exec_laneOperationComplete {x : Act} {k : Nat} {o : LaneOp} {s v : State} (htaken : (s.lane x).ops[k]? = some o)
    (hoff : o.media = false) (hnone : ((s.lane x).store.any fun c => c.op == o.serial && c.firstPass) = false)
    (hv : v = s.opSettled x o) :
    exec (.laneOperationComplete x k) s =
      .next ((((v.putLane x { v.lane x with ops := (v.lane x).ops.filter fun p => p.serial != o.serial }).noteMove x o).complete x
        o).abortOn x) := by
  subst hv
  simp [exec, execLaneOperationComplete, State.opSettled, htaken, hoff, hnone, ok]

/-! ### A sector that is not placed -/

theorem exec_sectorRewrite_again {x : Act} {k : Nat} {p : NotPlaced} {o : LaneOp} {s u : State}
    (hkept : (s.lane x).notPlaced[k]? = some p) (hfree : s.laneFree x = true) (htries : p.tries < s.rcv.policy.rewrites)
    (hu : u = s.putLane x { s.lane x with
      notPlaced := (s.lane x).notPlaced.map fun q => if q == p then { q with tries := q.tries + 1 } else q })
    (ho : o = u.newOp x 2 p.head p.zone 0xFFFF p.track p.sector 1 false p.epoch p.data p.tagAt p.statusAt) :
    exec (.sectorRewrite x k) s = .next (u.firmwareOp x o) := by
  subst ho hu
  simp [exec, execSectorRewrite, hkept, hfree, htries, ok]

theorem exec_sectorRewrite_relocated {x : Act} {k : Nat} {p : NotPlaced} {s : State} (hkept : (s.lane x).notPlaced[k]? = some p)
    (hfree : s.laneFree x = true) (htries : s.rcv.policy.rewrites ≤ p.tries) :
    exec (.sectorRewrite x k) s = .next (s.relocate x p) := by
  simp [exec, execSectorRewrite, hkept, hfree, Nat.not_lt.2 htries, ok]

/-- Settles O19: a sector by what its operation does with it once its conditions hold, and the other commands by an equation each. -/
theorem sectorsRun : Obligations.SectorsRun := by
  refine ⟨fun x sector ready err sig o s u hfitted hu hmedia hunended hturn hontrack hmeasure hfirst hwants hop hhead hroom hgo => ?_,
    fun x sector sig o s u hfitted hu hmedia hunended hturn hontrack hmeasure hfirst hwants hop hunheld henabled hpowered hhead
      huninhibited hheated hroom hreadable => ?_,
    fun _ _ _ _ _ => exec_heaterLeadElapsed, fun _ _ _ _ => exec_writeInhibitReceived_started,
    fun _ _ _ _ => exec_writeInhibitReceived_waiting, fun x k o s v htaken hoff hnone hop hv => ?_,
    fun x k o s v htaken hoff hnone hop hv => ?_, fun x k p o s u hkept hfree htries hu ho hallowed => ?_,
    fun _ _ _ _ => exec_sectorRewrite_relocated⟩
  · subst hu
    rw [exec_sectorStart_of_goesOn hfitted ⟨hmedia, hunended, hturn, hontrack, hmeasure⟩]
    exact congrArg Host.Outcome.next (takeSector_read hfirst hwants hop hhead hroom hgo)
  · subst hu
    rw [exec_sectorStart_of_goesOn hfitted ⟨hmedia, hunended, hturn, hontrack, hmeasure⟩, takeSector_write hfirst hwants hop]
    exact congrArg Host.Outcome.next
      (tryWrite_of_mayWrite ⟨hunheld, henabled, hpowered, hhead, huninhibited, hheated, hroom, hreadable⟩)
  · exact exec_laneOperationComplete htaken hoff hnone (hv.trans (if_neg (by omega)).symm)
  · exact exec_laneOperationComplete htaken hoff hnone (hv.trans (if_pos hop).symm)
  · rw [exec_sectorRewrite_again hkept hfree htries hu ho, firmwareOp_of_allowed hallowed]

end Sys2Proof.Machine
end

section
/-!
First passes, receipts and the copy to the recovery store (O20, R104, R106, R118, R136, R138, R140): an equation for each command, from the
codeword as the pool leaves it.
-/
namespace Sys2Proof.Machine

/-! ### First passes -/

/-- A codeword that a lane's store still holds is found by its operation and its sector. -/
def State.heldCodeword (s : State) (x : Act) (c : Codeword) : Option Codeword :=
  (s.lane x).store.find? fun d => d.op == c.op && d.sector == c.sector

theorem exec_firstPassDone_failed {x : Act} {sector half : Nat} {be : Bool} {c d : Codeword} {p : Pass} {s u : State}
    (hread : s.findCodeword x sector .read = some c) (hu : u = (s.passedBy x c).decodeOn x c half)
    (hheld : u.heldCodeword x c = some d) (hpass : d.pass = some p) (hfin : p.fin = .failed) :
    exec (.firstPassDone x sector half be) s = .next ((u.countRead (surfaceOf x d.head)).handOver x d 0x20) := by
  subst hu
  rw [State.heldCodeword] at hheld
  simp only [exec, execFirstPassDone, hread, hheld, hpass, hfin, ok]

/-- A sector that its first pass has decoded, with the judgement `v` of its identity (R104, R118): handed over, or decided. -/
def State.passConverged (t : State) (x : Act) (d : Codeword) (p : Pass) (v : Nat) (be : Bool) : State :=
  if 2 < v then t.handOver x d v
  else if be then (t.freeStore x d).decide x d.op d.sector 0x40
  else (((t.freeStore x d).deliverTo d.data d.tagAt (bodyAt (surfaceOf x d.head) d.track d.number p.info)).mirrorServes x d
    (bodyAt (surfaceOf x d.head) d.track d.number p.info)).decide x d.op d.sector v

theorem exec_firstPassDone_converged {x : Act} {sector half v : Nat} {be : Bool} {c d : Codeword} {p : Pass} {s u t : State}
    (hread : s.findCodeword x sector .read = some c) (hu : u = (s.passedBy x c).decodeOn x c half)
    (hheld : u.heldCodeword x c = some d) (hpass : d.pass = some p) (hfin : p.fin = .converged)
    (ht : t = u.countRead (surfaceOf x d.head)) (hv : v = judge (surfaceOf x d.head) d.track d.number d.epoch p.info) :
    exec (.firstPassDone x sector half be) s = .next (t.passConverged x d p v be) := by
  subst hv ht hu
  rw [State.heldCodeword] at hheld
  simp only [exec, execFirstPassDone, hread, hheld, hpass, hfin, ok, State.passConverged]
  split
  · rfl
  · split <;> rfl

/-! ### Receipts -/

/-- A receipt is ready to be judged (R136): its framing failed, or its pass is over. -/
def Codeword.Judgeable (d : Codeword) : Prop := d.framing ≠ 0 ∨ ∃ p, d.pass = some p ∧ p.fin ≠ .running

theorem Codeword.Judgeable.not_waiting {d : Codeword} (h : d.Judgeable) :
    ¬(decide (d.framing = 0) && d.pass.all fun p => p.fin == .running) = true := by
  obtain hframing | ⟨p, hpass, hfin⟩ := h
  · simp [hframing]
  · simp [hpass, hfin]

theorem exec_receiptDecided {x : Act} {sector half : Nat} {c d : Codeword} {s u v w : State}
    (hreceipt : s.findCodeword x sector .receipt = some c) (hu : u = s.passedBy x c)
    (hv : v = if c.framing = 0 then u.decodeOn x c half else u) (hheld : v.heldCodeword x c = some d) (hjudgeable : d.Judgeable)
    (hw : w = v.setAll [(Reg.CH_RCPT_LAST_RAW_ERR x, min 65535 d.raw), (Reg.CH_RCPT_LAST_ITER x, (d.pass.map (·.iters)).getD 0),
      (Reg.CH_RCPT_LAST_SECTOR x, sector)]) :
    exec (.receiptDecided x sector half) s =
      .next ((((if receiptOutcome x d d.raw = 1 then w.inc (Reg.CH_RCPT_COUNT_MARGINAL x)
        else if receiptOutcome x d d.raw = 2 then w.inc (Reg.CH_RCPT_COUNT_FAILED x) else w) : State).freeStore x d).decide x d.op d.sector
        (if receiptOutcome x d d.raw = 2 then 0x10 else 0x01)) := by
  subst hw hv hu
  rw [State.heldCodeword] at hheld
  simp only [exec, execReceiptDecided, hreceipt, hheld]
  exact if_neg hjudgeable.not_waiting

/-! ### The copy to the recovery store -/

/-- The codeword of a lane that moves to the recovery store from a sector (R106). -/
def State.movingCodeword (s : State) (x : Act) (sector : Nat) : Option Codeword :=
  (s.lane x).store.find? fun c => c.kind.code.isSome && c.number == sector

theorem exec_recoveryStoreCopyDone_moving {x : Act} {sector k code : Nat} {cmd : Option Nat} {lpn sect : Nat} {c : Codeword} {s : State}
    (hplace : s.freeRcv = some k) (hmoving : s.movingCodeword x sector = some c) (hkind : c.kind = .moving code) :
    exec (.recoveryStoreCopyDone x sector cmd lpn sect) s =
      .next (((s.store (s.rcvAt k) (c.held.toBytes.map (BitVec.ofNat 8))).freeStore x c).takePlace k
        (s.claimPlace (s.recPlace x c code) cmd lpn sect)) := by
  have hcode : c.kind.code.getD 0 = code := by rw [hkind]; rfl
  rw [State.movingCodeword] at hmoving
  simp only [exec, execRecoveryStoreCopyDone, hplace, hmoving, hcode, ok]

theorem exec_recoveryStoreCopyDone_waiting {x : Act} {sector k : Nat} {cmd : Option Nat} {lpn sect : Nat} {q : RecPlace} {s : State}
    (hplace : s.freeRcv = some k) (hnone : s.movingCodeword x sector = none)
    (hqueue : (s.rcv.queue.find? fun q => q.lane == x.n && q.sector == sector) = some q) (hroom : s.rcvUsed < 256) :
    exec (.recoveryStoreCopyDone x sector cmd lpn sect) s =
      .next ((s.putRcv { s.rcv with queue := s.rcv.queue.erase q }).takePlace k (s.claimPlace q cmd lpn sect)) := by
  rw [State.movingCodeword] at hnone
  simp only [exec, execRecoveryStoreCopyDone, hplace, hnone, hqueue]
  exact if_neg (Nat.not_le.2 hroom)

/-- Settles O20, command by command. -/
theorem firstPassesRun : Obligations.FirstPassesRun :=
  ⟨fun _ _ _ _ _ _ _ _ _ => exec_firstPassDone_failed, fun _ _ _ _ _ _ _ _ _ _ _ => exec_firstPassDone_converged,
    fun _ _ _ _ _ _ _ _ _ => exec_receiptDecided, fun _ _ _ _ _ _ _ _ _ => exec_recoveryStoreCopyDone_moving,
    fun _ _ _ _ _ _ _ _ => exec_recoveryStoreCopyDone_waiting⟩

end Sys2Proof.Machine
end

section
/-!
The decoder pool's commands (O21, R105, R107, R135, R158): an equation for each command.
-/
namespace Sys2Proof.Machine

/-! ### Frames -/

theorem poolRun_of_stop {half n : Nat} {stop : State → Bool} {s : State} (h : stop s = true) : State.poolRun half stop n s = s := by
  cases n with
  | zero => rfl
  | succ n => exact if_pos h

theorem exec_decoderFrameStart {half : Nat} {s u : State} (hhalf : half < 2)
    (hu : u = State.poolRun half (fun s => s.unitsLeft half = 0) poolSteps s) :
    exec (.decoderFrameStart half) s = .next (u.startFrame half) :=
  hu ▸ if_pos hhalf

/-- Where no units of the last frame are left, the frame starts at once. -/
theorem exec_decoderFrameStart_spent {half : Nat} {s : State} (hhalf : half < 2) (hleft : s.unitsLeft half = 0) :
    exec (.decoderFrameStart half) s = .next (s.startFrame half) :=
  exec_decoderFrameStart hhalf (poolRun_of_stop (decide_eq_true hleft)).symm

theorem startFrame_zero_of_not_returning {s : State} (h : 0 ∉ s.dec.returning) :
    s.startFrame 0 = { s with dec := { s.dec with credit0 := frameCredits s.weights, left0 := 64 } } := by
  have hfilter : s.dec.returning.filter (· != 0) = s.dec.returning :=
    List.filter_eq_self.2 fun n hn => bne_iff_ne.2 fun h0 => h (h0 ▸ hn)
  simp [State.startFrame, h, hfilter]

theorem startFrame_one_of_returning {s : State} (h : 1 ∈ s.dec.returning) :
    s.startFrame 1 = { s.setHalf 1 true with
      dec := { s.dec with credit1 := frameCredits s.weights, left1 := 64, returning := s.dec.returning.filter (· != 1) } } := by
  have hdec : (s.setHalf 1 true).dec = s.dec := rfl
  simp [State.startFrame, h, hdec]

/-! ### Halves -/

theorem exec_decoderHalfLoss {half : Nat} {s : State} (hhalf : half < 2) (hservice : s.bit Reg.DEC_STATUS_IN_SERVICE half = true) :
    exec (.decoderHalfLoss half) s = .next (((((s.setHalf half false).setBit Reg.DEC_STATUS_FAULT half true).set
      (if half = 0 then Reg.DEC_INT_HALF0_LOST else Reg.DEC_INT_HALF1_LOST) 1).releaseHalf half).event 0x14 0x08 0 0x14) :=
  if_pos (by simp [hhalf, hservice])

theorem exec_decoderHalfEnable_faulty {i : Initiator} {half : Nat} {s : State} (hr : s.reaches i 0x40140000 = true)
    (hfault : s.bit Reg.DEC_STATUS_FAULT half = true) :
    exec (.decoderHalfEnable i half) s = .next (s.ignored i 0x40140000) :=
  congrArg Host.Outcome.next ((access_of_reaches hr).trans (if_pos hfault))

theorem get_set_halfEn (s : State) (half v : Nat) {f : Fld} (h0 : f.key ≠ Reg.DEC_CTRL_HALF0_EN.key)
    (h1 : f.key ≠ Reg.DEC_CTRL_HALF1_EN.key) : (s.set (halfEn half) v).get f = s.get f := by
  refine get_set_ne s v ?_
  unfold halfEn
  split
  · exact h0
  · exact h1

theorem exec_decoderHalfEnable_returns {i : Initiator} {half : Nat} {s : State} (hr : s.reaches i 0x40140000 = true)
    (hwell : s.bit Reg.DEC_STATUS_FAULT half = false) (hout : s.bit Reg.DEC_STATUS_IN_SERVICE half = false)
    (hnew : half ∉ s.dec.returning) :
    exec (.decoderHalfEnable i half) s = .next { s.set (halfEn half) 1 with
      dec := { s.dec with returning := s.dec.returning ++ [half] }, bus := .written } := by
  have hservice : (s.set (halfEn half) 1).bit Reg.DEC_STATUS_IN_SERVICE half = false := by
    rw [State.bit, get_set_halfEn s half 1 (by decide) (by decide)]
    exact hout
  refine congrArg Host.Outcome.next ((access_of_reaches hr).trans ((if_neg (by simp [hwell])).trans ?_))
  simp [hservice, hnew]

theorem exec_decoderHalfDisable {i : Initiator} {half : Nat} {s : State} (hr : s.reaches i 0x40140000 = true)
    (hon : s.get (halfEn (1 - half)) ≠ 0) (hwell : s.bit Reg.DEC_STATUS_FAULT (1 - half) = false) :
    exec (.decoderHalfDisable i half) s = .next { ((s.set (halfEn half) 0).setHalf half false).releaseHalf half with
      dec := { (((s.set (halfEn half) 0).setHalf half false).releaseHalf half).dec with
        returning := (((s.set (halfEn half) 0).setHalf half false).releaseHalf half).dec.returning.filter (· != half) },
      bus := .written } :=
  congrArg Host.Outcome.next ((access_of_reaches hr).trans (if_neg (by simp [State.on, hon, hwell])))

theorem exec_decoderHalfDisable_ignored {i : Initiator} {half : Nat} {s : State} (hr : s.reaches i 0x40140000 = true)
    (hlast : s.get (halfEn (1 - half)) = 0 ∨ s.bit Reg.DEC_STATUS_FAULT (1 - half) = true) :
    exec (.decoderHalfDisable i half) s = .next (s.ignored i 0x40140000) :=
  congrArg Host.Outcome.next ((access_of_reaches hr).trans (if_pos (by simpa [State.on] using hlast)))

/-! ### Jobs -/

theorem exec_recoveryJobPost {i : Initiator} {tail : Nat} {s : State} (hr : s.reaches i 0x40140028 = true)
    (hroom : s.jobsQueued (tail % 512) ≤ 256) :
    exec (.recoveryJobPost i tail) s =
      .next { (s.latchJobs (s.get Reg.DEC_RJ_PTR_RJTAIL) ((tail + 512 - s.get Reg.DEC_RJ_PTR_RJTAIL) % 512)).set
        Reg.DEC_RJ_PTR_RJTAIL tail with bus := .written } :=
  congrArg Host.Outcome.next ((access_of_reaches hr).trans (if_neg (Nat.not_lt.2 hroom)))

/-- Settles O21, command by command; a frame by what its start does with a half that is returning and with one that is not. -/
theorem decoderPoolRuns : Obligations.DecoderPoolRuns := by
  refine ⟨fun _ _ _ => exec_decoderFrameStart, fun s hleft hstays => ?_, fun s hleft hreturns => ?_, fun _ _ => exec_decoderHalfLoss,
    fun _ _ _ => exec_decoderHalfEnable_faulty, fun _ _ _ => exec_decoderHalfEnable_returns, fun _ _ _ => exec_decoderHalfDisable,
    fun _ _ _ => exec_decoderHalfDisable_ignored, fun _ _ _ => exec_recoveryJobPost⟩
  · rw [exec_decoderFrameStart_spent Nat.zero_lt_two hleft, startFrame_zero_of_not_returning hstays]
  · rw [exec_decoderFrameStart_spent Nat.one_lt_two hleft, startFrame_one_of_returning hreturns]

end Sys2Proof.Machine
end

section
/-!
Shock, preamp faults, arm serial frames, the microactuator and the wedges (O26, R97, R162, R194, R198, R199, R210, R211, R212): an equation
for each command.
-/
namespace Sys2Proof.Machine

/-! ### Shock and the preamp -/

@[simp] theorem lp_putLp_same (s : State) (x : Act) (l : Loop) : (s.putLp x l).lp x = l := by
  cases x <;> rfl

theorem exec_shockDetected {x : Act} {level : Nat} {s : State} (hover : s.get (Reg.ARM_SHOCK_SHOCK_WI x) < level)
    (hfitted : s.fitted x = true) : exec (.shockDetected x level) s =
      .next ((s.set (Reg.ARM_STATUS_SHOCK x) 1).putLp x { s.lp x with shock := true, onTrack := false }) :=
  if_pos (by simp [hover, hfitted])

theorem exec_shockInhibitEnd (x : Act) (s : State) :
    exec (.shockInhibitEnd x) s = .next (s.putLp x { s.lp x with shock := false }) := rfl

/-- The fault status that the driver keeps (R212): what the preamp tells where the preamp map names its address, 0 where it names none. -/
def State.faultStatusKept (u : State) (a : Option Nat) (x : Act) (status : Nat) : State :=
  match a with
  | some a => (u.emit (.aspFrame x true a 0)).set (Reg.ARM_PA_FAULT_STATUS x) status
  | none => u.set (Reg.ARM_PA_FAULT_STATUS x) 0

theorem exec_preampFault {x : Act} {status : Nat} {s u v : State} (hfitted : s.fitted x = true) (hnew : (s.lp x).paLow = false)
    (hu : u = (s.set (Reg.ARM_STATUS_PA_FAULT x) 1).inc (Reg.ARM_COUNTS_PA_FAULTS x))
    (hv : v = u.faultStatusKept s.cal.faultStatus x status) :
    exec (.preampFault x status) s =
      .next ((v.putLp x { v.lp x with paLow := true, paSinceNs := v.clockNs, onTrack := false }).areply x 0 0x88
        [0x20, (v.lp x).status]) := by
  subst hv hu
  refine (if_pos (by simp [hfitted, hnew])).trans (congrArg Host.Outcome.next ?_)
  rw [lp_putLp_same]
  rfl

theorem exec_preampFaultClear (x : Act) (s : State) :
    exec (.preampFaultClear x) s = .next (s.putLp x { s.lp x with paLow := false }) := rfl

/-! ### Serial frames -/

/-- The registers of a serial frame once its word is written (R211). -/
def State.frameWritten (s : State) (x : Act) (rd : Bool) (addr data : Nat) : State :=
  { s with bus := .written }.setAll [(Reg.ARM_ASP_CMD_RD x, b2n rd), (Reg.ARM_ASP_CMD_ADDR x, addr), (Reg.ARM_ASP_CMD_DATA x, data)]

theorem exec_aspFrameSend_denied {i : Initiator} {x : Act} {addr data returned : Nat} {s : State}
    (hr : s.reaches i (x.armBase + 0x10) = true) (hselect : addr % 128 = s.cal.headSelect) :
    exec (.aspFrameSend i x false addr data returned) s =
      .next (((s.frameWritten x false addr data).set (Reg.ARM_STATUS_ASP_DENIED x) 1).set (Reg.ARM_ASP_CMD_GO x) 0) :=
  congrArg Host.Outcome.next ((access_of_reaches hr).trans (if_pos (beq_iff_eq.2 hselect)))

theorem exec_aspFrameSend_read {i : Initiator} {x : Act} {addr data returned : Nat} {s u : State}
    (hr : s.reaches i (x.armBase + 0x10) = true) (hu : u = s.frameWritten x true addr data)
    (hgate : u.get (Reg.CH_STATUS_WR_GATE x) = 0) :
    exec (.aspFrameSend i x true addr data returned) s =
      .next (((u.emit (.aspFrame x true (addr % 128) 0)).set (Reg.ARM_ASP_CMD_GO x) 0).set (Reg.ARM_ASP_CMD_DATA x) returned) := by
  subst hu
  have hlow : ¬(s.frameWritten x true addr data).on (Reg.CH_STATUS_WR_GATE x) = true := by simp [State.on, hgate]
  exact congrArg Host.Outcome.next ((access_of_reaches hr).trans (if_neg hlow))

/-! ### The microactuator -/

theorem exec_microactuatorSaturation {x : Act} {k v : Nat} {s : State} (hsat : 16 < (s.lp x).sat) (hk : k = 8 * x.n + (s.lp x).head)
    (hv : v = sGet s.cons.satHeads k 0) :
    exec (.microactuatorSaturation x) s =
      .next (({ s with cons := { s.cons with satHeads := sPut s.cons.satHeads k (if v % 2 = 1 then v else v + 3) 0 } } : State).fault 3
        (0x21 + x.n) 0x09 (s.lp x).head 0x20) := by
  subst hv hk
  exact if_pos hsat

/-! ### The wedges -/

theorem exec_positionErrorDelivery {x : Act} {mark index track parity : Nat} {n q : Int} {s : State} (hmark : mark % 2 ^ 16 = servoMark)
    (hport : s.portOn (lanePort x 0) = true) (hoff : (s.lp x).parked = false) :
    exec (.positionErrorDelivery x mark index track parity n q) s = .next (s.deliverPes x (ofGray 24 track) (Config.burstFraction n q)
      (parity % 16 == Config.servoParity (ofGray 10 index) (ofGray 24 track) % 16) (Config.burstGood n q)).scheduleIdle :=
  if_pos (by simp only [hmark, hport, hoff]; rfl)

/-- A wedge that does not come counts as missed (R194, R198). -/
theorem exec_pesTimeout {x : Act} {s u v : State} (hfitted : s.fitted x = true) (hnone : s.eng.fresh.contains (lanePort x 0) = false)
    (hu : u = s.wedgeDone x) (hruns : u.sliceRuns (1 + x.n) = true) (hoff : (u.lp x).parked = false)
    (hv : v = u.putLp x { u.lp x with miss := (u.lp x).miss + 1, onCount := 0 }) :
    exec (.pesTimeout x) s = .next ((((v.setInhibit x true false).servoCommand x
      (signed 32 (v.get (Reg.CRE_X (12 + x.n))))).ready (1 + x.n)).scheduleIdle) := by
  subst hv hu
  refine (if_pos (by simp only [hfitted, hnone]; rfl)).trans ((if_neg (by simp [hruns])).trans ?_)
  simp only [hoff]
  rfl

/-- Settles O26, command by command. -/
theorem armDriverAndWedgesRun : Obligations.ArmDriverAndWedgesRun :=
  ⟨fun _ _ _ => exec_shockDetected, exec_shockInhibitEnd, fun _ _ _ _ _ => exec_preampFault, exec_preampFaultClear,
    fun _ _ _ _ _ _ => exec_aspFrameSend_denied, fun _ _ _ _ _ _ _ => exec_aspFrameSend_read,
    fun _ _ _ _ => exec_microactuatorSaturation, fun _ _ _ _ _ _ _ _ => exec_positionErrorDelivery, fun _ _ _ _ => exec_pesTimeout⟩

end Sys2Proof.Machine
end

section
/-!
Decode jobs and the steps of the ladder (O22, R141, R144, R145, R149, R150, R158, R159): a job is taken by one rule whatever its kind and runs
to its end by another, and the other commands have an equation each.
-/
namespace Sys2Proof.Machine

/-! ### Jobs -/

/-- The pool takes the job at RJHEAD: jobs wait, the result ring has room, a half serves, and the job is of a kind asked for (R158). -/
theorem takeJob_of_pick {pick : Nat → Bool} {f : Nat → Nat → Nat → Nat → Nat → Nat → State → State} {h kind : Nat} {s : State}
    (hqueued : s.jobsQueued (s.get Reg.DEC_RJ_PTR_RJTAIL) ≠ 0) (hroom : s.resultRoom = true) (hserves : s.get Reg.DEC_STATUS_IN_SERVICE ≠ 0)
    (hh : h = s.get Reg.DEC_RJ_PTR_RJHEAD) (hkind : bitsOf (s.jobWord h 0) 31 28 = kind) (hpick : pick kind = true) :
    s.takeJob pick f = f kind (bitsOf (s.jobWord h 0) 15 0) (bitsOf (s.jobWord h 1) 31 24) (bitsOf (s.jobWord h 1) 23 16)
      (s.jobWord h 2 + 2 ^ 32 * s.jobWord h 3) (sGet s.rcv.posts (h % 256) 3) (s.set Reg.DEC_RJ_PTR_RJHEAD ((h + 1) % 512)) := by
  subst hkind hh
  exact (if_neg (by simp [hqueued, hroom, State.on, hserves])).trans (if_pos hpick)

/-- A decode job that the pool holds runs to its end (R105, R159). -/
theorem runJob_of_ended {kind half : Nat} {w v : Work} {e : WorkEnd} {s u : State}
    (hheld : (s.rcv.work.find? fun w => w.kind == kind) = some w) (hu : u = s.runWork w half) (hnow : u.workNow w = some v)
    (hfin : v.fin = some e) : s.runJob kind half = u.jobEnd v e := by
  subst hu
  simp only [State.runJob, hheld, hnow, hfin]

/-- What a decode command does where the pool holds no job of its kind: it takes one and runs it. -/
theorem decode_begins {pick : Nat → Bool} {f : Nat → Nat → Nat → Nat → Nat → Nat → State → State} {h kind half : Nat} {s u : State}
    (hfree : (s.rcv.work.any fun w => w.kind == kind) = false) (hqueued : s.jobsQueued (s.get Reg.DEC_RJ_PTR_RJTAIL) ≠ 0)
    (hroom : s.resultRoom = true) (hserves : s.get Reg.DEC_STATUS_IN_SERVICE ≠ 0) (hh : h = s.get Reg.DEC_RJ_PTR_RJHEAD)
    (hkind : bitsOf (s.jobWord h 0) 31 28 = kind) (hpick : pick kind = true) (hu : u = s.set Reg.DEC_RJ_PTR_RJHEAD ((h + 1) % 512)) :
    (if s.rcv.work.any fun w => w.kind == kind then ok (s.runJob kind half) else ok ((s.takeJob pick f).runJob kind half)) =
      .next ((f kind (bitsOf (s.jobWord h 0) 15 0) (bitsOf (s.jobWord h 1) 31 24) (bitsOf (s.jobWord h 1) 23 16)
        (s.jobWord h 2 + 2 ^ 32 * s.jobWord h 3) (sGet s.rcv.posts (h % 256) 3) u).runJob kind half) := by
  rw [if_neg (Bool.eq_false_iff.1 hfree), takeJob_of_pick hqueued hroom hserves hh hkind hpick, hu]

/-- What a decode command does where the pool holds a job of its kind: the job runs to its end. -/
theorem decode_ends {kind half : Nat} {w v : Work} {e : WorkEnd} {s u : State} {other : Host.Outcome State Fault Refusal}
    (hheld : (s.rcv.work.find? fun w => w.kind == kind) = some w) (hu : u = s.runWork w half) (hnow : u.workNow w = some v)
    (hfin : v.fin = some e) :
    (if s.rcv.work.any fun w => w.kind == kind then ok (s.runJob kind half) else other) = .next (u.jobEnd v e) := by
  have hany : (s.rcv.work.any fun w => w.kind == kind) = true :=
    List.any_eq_true.2 ⟨w, List.mem_of_find?_eq_some hheld, List.find?_some (p := fun w : Work => w.kind == kind) hheld⟩
  rw [if_pos hany, runJob_of_ended hheld hu hnow hfin]

/-- A cancel frees PLACE, and its result is 0x04 (R159): the place holds a hand-over short of rung 6, and the job names no sum. -/
theorem exec_cancelJob {h : Nat} {p : RecPlace} {s u : State} (hqueued : s.jobsQueued (s.get Reg.DEC_RJ_PTR_RJTAIL) ≠ 0)
    (hroom : s.resultRoom = true) (hserves : s.get Reg.DEC_STATUS_IN_SERVICE ≠ 0) (hh : h = s.get Reg.DEC_RJ_PTR_RJHEAD)
    (hkind : bitsOf (s.jobWord h 0) 31 28 = 3) (hu : u = s.set Reg.DEC_RJ_PTR_RJHEAD ((h + 1) % 512))
    (hplace : sGet? s.rcv.places (bitsOf (s.jobWord h 1) 31 24) = some p) (hhandOver : p.sum = false) (hrung : p.rung ≠ 6)
    (hnosum : bitsOf (s.jobWord h 1) 23 16 = 0xFF) :
    exec .cancelJob s = .next ((u.freePlaceRcv (bitsOf (s.jobWord h 1) 31 24)).jobResult (bitsOf (s.jobWord h 0) 15 0) 0x04
      (bitsOf (s.jobWord h 1) 31 24) 0 0 0 0) := by
  subst hu
  refine congrArg Host.Outcome.next ((takeJob_of_pick hqueued hroom hserves hh hkind rfl).trans ?_)
  simp [hplace, hhandOver, hrung, hnosum]

/-! ### The ladder -/

theorem exec_heldSampleRungsDone {place half : Nat} {w v : Work} {e : WorkEnd} {s u : State}
    (hheld : (s.rcv.work.find? fun w => w.kind == 0 && w.place == place) = some w) (hu : u = s.runWork w half)
    (hnow : u.workNow w = some v) (hfin : v.fin = some e) (hroom : u.resultRoom = true) :
    exec (.heldSampleRungsDone place half) s = .next (u.heldEnd v e) := by
  subst hu
  simp only [exec, execHeldSampleRungsDone, hheld, hnow, hfin]
  exact if_pos hroom

theorem exec_earlyReconstructionStart {place : Nat} {p : RecPlace} {s : State} (hplace : sGet? s.rcv.places place = some p)
    (hcmd : p.cmd.isSome = true) (hwanted : p.wanted s = true) (hnew : p.early = false) (hhandOver : p.sum = false)
    (hrebuild : s.canRebuild p.lpn p.sect p.surface = true)
    (hdue : s.rcv.policy.earlyRevs ≤ p.revs ∨ s.headRetired (Act.num p.lane) p.head = true) :
    exec (.earlyReconstructionStart place) s = .next (s.putPlace place { p with early := true }) := by
  simp only [exec, execEarlyReconstructionStart, hplace]
  exact if_pos (by simpa [hcmd, hwanted, hnew, hhandOver, hrebuild] using hdue)

theorem exec_ladderTimeLimit {place : Nat} {p : RecPlace} {s : State} (hplace : sGet? s.rcv.places place = some p) (hlow : 3 ≤ p.rung)
    (hhigh : p.rung ≤ 5) (hdue : p.sinceMs + s.rcv.policy.ladderMs ≤ s.ms ∨ s.commandLimit p = true) :
    exec (.ladderTimeLimit place) s = .next (s.toSix place p) := by
  simp only [exec, execLadderTimeLimit, hplace]
  exact if_pos (by simpa [hlow, hhigh] using hdue)

/-- Settles O22, command by command; a decode job by the pool taking it, and by its work ending. -/
theorem recoveryLadderRuns : Obligations.RecoveryLadderRuns :=
  ⟨fun _ _ _ hfree hqueued hroom hserves hkind => decode_begins hfree hqueued hroom hserves rfl hkind rfl, fun _ _ _ _ _ _ => decode_ends,
    fun _ _ _ hfree hqueued hroom hserves hkind => decode_begins hfree hqueued hroom hserves rfl hkind rfl, fun _ _ _ _ _ _ => decode_ends,
    fun _ _ _ hqueued hroom hserves => exec_cancelJob hqueued hroom hserves rfl, fun _ _ _ _ _ _ _ => exec_heldSampleRungsDone,
    fun _ _ _ => exec_earlyReconstructionStart, fun _ _ _ => exec_ladderTimeLimit⟩

end Sys2Proof.Machine
end

section
/-!
Placement, the commit, folding, re-sorting and reallocation (O34, R152, R305, R311, R312, R313, R316, R317, R326, R341): an equation for each
command, from the in-tray entry, the unit or the source that it takes.
-/
namespace Sys2Proof.Machine

/-! ### Placement -/

/-- The next stretch of an in-tray entry of a block namespace becomes a unit in first-class slots (R311). -/
theorem exec_firstClassPlacement_blocks {serial b most count : Nat} {t : TrayEnt} {n : Ns} {lpns : List Nat} {s : State}
    (htray : s.tray? serial = some t) (hns : sGet? s.host.nss t.nsid = some n) (hmay : s.mayPlace = true)
    (hidle : s.trayBusy serial = false) (hblock : n.csi = 0) (hdata : t.kind = .data) (hnext : t.next = some b)
    (hmost : most = min (256 - (b - t.first) % 256) (t.first + t.count - b))
    (hcount : count = ((List.range most).takeWhile fun k => !t.isPlaced (b + k)).length) (hfirst : s.trayAhead t b count = false)
    (hlpns : lpns = (List.range ((b + count + 63) / 64 - b / 64)).map fun k => n.lpn + b / 64 + k) :
    exec (.firstClassPlacement serial) s =
      .next (s.placeUnit (lpns.map fun l => (l, sectorMask n.lpn l b count)) [] .place [(serial, b, count)] none) := by
  subst hlpns hcount hmost
  have hgoes : ¬(!s.mayPlace || s.trayBusy serial || n.csi == 2) = true := by simp [hmay, hidle, hblock]
  have hkind : ¬(t.kind == TrayKind.value) = true := by simp [hdata]
  simp only [exec, execFirstClassPlacement, htray, hns, if_neg hgoes, if_neg hkind, hnext]
  exact if_neg (Bool.eq_false_iff.1 hfirst)

/-- A small value joins the open bundle of its store, where no open bundle has its key (R326). -/
theorem exec_firstClassPlacement_value {serial key : Nat} {t : TrayEnt} {n : Ns} {s : State} (htray : s.tray? serial = some t)
    (hns : sGet? s.host.nss t.nsid = some n) (hmay : s.mayPlace = true) (hidle : s.trayBusy serial = false) (hstore : n.csi ≠ 2)
    (hvalue : t.kind = .value) (hkey : key = kvKey t.nsid t.keyLen t.key) (hsmall : t.count ≤ 1024 * s.get Reg.SOF_KV_BUNDLE_MAX)
    (hnew : (s.office.bundles.any fun b => !b.placed && b.values.any fun v => v.1 == key) = false) :
    exec (.firstClassPlacement serial) s = .next (s.bundleAdd t.nsid key t.count) := by
  subst hkey
  have hgoes : ¬(!s.mayPlace || s.trayBusy serial || n.csi == 2) = true := by simp [hmay, hidle, hstore]
  simp only [exec, execFirstClassPlacement, htray, hns, if_neg hgoes, if_pos (beq_iff_eq.2 hvalue), if_pos hsmall]
  exact if_neg (Bool.eq_false_iff.1 hnew)

theorem exec_directPlacement_zoned {nsid lpn : Nat} {n : Ns} {s : State} (hns : sGet? s.host.nss nsid = some n) (hmay : s.mayPlace = true)
    (hzoned : n.csi = 2) (hlow : n.lpn ≤ lpn) (hhigh : lpn < n.lpn + n.parcels) :
    exec (.directPlacement nsid lpn) s = .next (s.placeZone nsid n ((lpn - n.lpn) / 1024)) := by
  simp [exec, execDirectPlacement, hns, hmay, hzoned, hlow, hhigh, ok]

/-- A whole stripe of a block namespace in the in-tray becomes a unit in the open direct group (R311, R341). -/
theorem exec_directPlacement_stripe {nsid lpn k base : Nat} {n : Ns} {blocks : List (Nat × Nat × Nat)} {places : List Nat} {s u : State}
    (hns : sGet? s.host.nss nsid = some n) (hmay : s.mayPlace = true) (hblock : n.csi = 0) (hk : k = s.layoutKM.1) (hstripe : lpn % k = 0)
    (hlow : n.lpn ≤ lpn) (hhigh : lpn + k ≤ n.lpn + n.parcels) (hbase : base = (lpn - n.lpn) * 64)
    (hblocks : blocks = s.trayIn nsid base (64 * k)) (hwhole : ((List.range (64 * k)).all fun i => (s.trayHas nsid (base + i)).isSome) = true)
    (hidle : (blocks.any fun b => s.trayBusy b.1) = false) (hwgen : ((List.range k).any fun i => s.wgenWrap (lpn + i)) = false)
    (hput : s.groupPut 2 ((List.range k).map (lpn + ·)) false = (u, some places)) :
    exec (.directPlacement nsid lpn) s = .next (u.addUnit ⟨.direct, (List.range k).map fun i => (lpn + i, u.mapEntry (lpn + i),
      mkEntry false true (entUNR (u.mapEntry (lpn + i))) (entWGEN (u.mapEntry (lpn + i)) + 1) (places.getD i 0)), [], false, blocks, none,
      false⟩) := by
  subst hblocks hbase hk
  have hmedia : ¬(!s.mayPlace) = true := by simp [hmay]
  have hkind : ¬(n.csi == 2) = true := by simp [hblock]
  have haligned : ¬(n.csi != 0 || lpn % s.layoutKM.1 != 0 || lpn < n.lpn || n.lpn + n.parcels < lpn + s.layoutKM.1) = true := by
    simp [hblock, hstripe, hlow, hhigh]
  simp only [exec, execDirectPlacement, hns, if_neg hmedia, if_neg hkind, if_neg haligned, hput]
  exact if_neg (by simp only [hwhole, hidle, hwgen]; decide)

/-! ### The commit -/

/-- The index entry of a unit's key, once its parcels are switched (R327). -/
def State.keyMapped (s : State) (c : CommitUnit) : State :=
  match c.key with
  | some (key, len, vlen, lpn) =>
    s.putHost { s.host with kv := sIns s.host.kv key ⟨len, vlen, lpn, vlen ≤ 1024 * s.get Reg.SOF_KV_BUNDLE_MAX, s.bucketOf key⟩ }
  | none => s

theorem exec_commitUnitSwitch_switched {k reads : Nat} {parityGood : Bool} {c : CommitUnit} {r : State × Nat × List Bool}
    {done : List (Nat × Nat × Nat)} {slots : List (Nat × FcSlot)} {s u v w x t : State} (hunit : sGet? s.office.units k = some c)
    (hgood : c.failed = false) (hparity : c.parity = true ∨ parityGood = true) (hfirst : s.putWaits k c = false)
    (hroom : s.journalFull = false) (hwrites : s.readsOnly = false) (hpowered : s.pdOn 24 = true) (hr : r = s.switchJob c.triples)
    (hdone : done = (List.range c.triples.length).filterMap (fun i => if r.2.2.getD i false then c.triples[i]? else none))
    (hslots : slots = c.slots.filter (fun p => done.any fun t => t.1 == p.1))
    (hu : u = done.foldl (fun s t => s.settle r.2.1 reads slots t) r.1)
    (hv : v = done.foldl (fun s t => s.unlist t.1 (s.unitMask c t.1)) u)
    (hw : w = (v.putOffice { v.office with units := sDel v.office.units k }).journal ⟨r.2.1, c.record, done, slots, []⟩)
    (hx : x = w.keyMapped c)
    (ht : t = (slots.foldl (fun s p => s.putOffice { s.office with
      regions := sPut s.office.regions (placeArea p.2.locA * 16 + bitsOf p.2.locA 9 0 / 48)
        (sGet s.office.regions (placeArea p.2.locA * 16 + bitsOf p.2.locA 9 0 / 48) 0 + 1) 0 }) x).trayDone c done) :
    exec (.commitUnitSwitch k true parityGood reads none) s =
      .next (if c.kind = .zone then t.zonesAgain c.triples else t).itrayRefresh := by
  have hplaced : (c.parity || parityGood) = true := Bool.or_eq_true_iff.2 hparity
  have hstays : ¬(c.failed || (!(c.parity || parityGood) && s.targetLost c)) = true := by simp [hgood, hplaced]
  have hgoes : ¬(!true || !(c.parity || parityGood) || s.putWaits k c || s.journalFull || s.readsOnly || !s.pdOn 24) = true := by
    simp [hplaced, hfirst, hroom, hwrites, hpowered]
  subst ht hx hw hv hu hslots hdone hr
  simp only [exec, execCommitUnitSwitch, hunit, if_neg hstays, if_neg hgoes, beq_iff_eq]
  rfl

theorem exec_commitUnitSwitch_failed {k reads : Nat} {receiptsGood parityGood : Bool} {c : CommitUnit} {s : State}
    (hunit : sGet? s.office.units k = some c) (hfailed : c.failed = true) :
    exec (.commitUnitSwitch k receiptsGood parityGood reads none) s =
      .next (s.putOffice { s.office with units := sDel s.office.units k }) := by
  simp only [exec, execCommitUnitSwitch, hunit]
  exact if_pos (by simp [hfailed])

/-! ### Folding and re-sorting -/

/-- Above FOLD_HI the next stripe of parcels goes to the fold group (R312). -/
theorem exec_folding {take : List (Nat × FcSlot)} {places : List Nat} {s u v : State}
    (hhigh : s.fcAbove (s.get Reg.SOF_FOLD_FOLD_HI) = true) (hu : u = s.putOffice { s.office with folding := true })
    (hmay : u.mayPlace = true) (htake : take = u.foldTake) (hsome : take ≠ [])
    (hput : u.groupPut 0 (take.map (·.1)) true = (v, some places)) :
    exec .folding s = .next (v.addUnit ⟨.fold, (List.range take.length).filterMap fun i => take[i]?.map fun p =>
      (p.1, v.mapEntry p.1, mkEntry false true (entUNR (v.mapEntry p.1)) (entWGEN (v.mapEntry p.1)) (places.getD i 0)), [], false, [], none,
      false⟩) := by
  subst htake hu
  have hkept : ¬(s.putOffice { s.office with folding := true }).foldTake.isEmpty = true := by simpa using hsome
  simp only [exec, execFolding, hhigh, Bool.true_or, hmay, Bool.not_true, Bool.or_self, if_neg hkept, hput]
  rfl

/-- Below RESORT_LO the valid parcels of a data member of the source group go to the re-sort group (R313). -/
theorem exec_reSorting {member g : Nat} {e : Group} {lpns places : List Nat} {s u v : State} (hlow : s.gFree < s.get Reg.SOF_FOLD_RESORT_LO)
    (hu : u = s.putOffice { s.office with resorting := true }) (hsource : u.resortSource = some (g, e)) (hlpns : lpns = u.validOf g e member)
    (hmay : u.mayPlace = true) (hsome : lpns ≠ [])
    (hidle : (u.office.units.any fun c => c.2.triples.any fun t => lpns.contains t.1) = false) (hmember : member < u.layoutKM.1)
    (hput : u.groupPut 1 lpns true = (v, some places)) :
    exec (.reSorting member) s = .next (v.addUnit ⟨.resort, (List.range lpns.length).filterMap fun i => lpns[i]?.map fun lpn =>
      (lpn, v.mapEntry lpn, mkEntry (entFC (v.mapEntry lpn)) true (entUNR (v.mapEntry lpn)) (entWGEN (v.mapEntry lpn)) (places.getD i 0)), [],
      false, [], none, false⟩) := by
  subst hlpns hu
  simp only [exec, execReSorting, hlow, decide_true, Bool.true_or, hsource, hput]
  exact if_neg (by simp only [hmay, hidle]; simpa using ⟨hsome, hmember⟩)

/-! ### Reallocation and quiet -/

/-- A sector whose parcel no longer lies there is not reallocated (R152). -/
theorem exec_reallocation_abandoned {p : RecPlace} {rest : List RecPlace} {s : State} (hmay : s.mayPlace = true)
    (hnone : (s.rcv.moves.find? fun m => m.status.isSome) = none) (hends : s.rcv.ends = p :: rest) (hmoved : s.mapEntry p.lpn ≠ p.entry) :
    exec .reallocation s = .next (s.putRcv { s.rcv with ends := rest }) := by
  simp only [exec, execReallocation, hmay, hnone, hends]
  exact if_pos (bne_iff_ne.2 hmoved)

/-- A sector in a first-class slot begins to be reallocated once its lane is free (R152). -/
theorem exec_reallocation_begins {p : RecPlace} {rest : List RecPlace} {s u : State} (hmay : s.mayPlace = true)
    (hnone : (s.rcv.moves.find? fun m => m.status.isSome) = none) (hends : s.rcv.ends = p :: rest) (hthere : s.mapEntry p.lpn = p.entry)
    (hslot : (s.placeSlot p).isSome = true) (hfree : s.laneFree (Act.num p.lane) = true) (hu : u = s.putRcv { s.rcv with ends := rest }) :
    exec .reallocation s = .next (u.moveOp p false) := by
  subst hu
  have hkept : ¬(s.mapEntry p.lpn != p.entry) = true := by simp [hthere]
  simp only [exec, execReallocation, hmay, hnone, hends, if_neg hkept, if_pos hslot, if_pos hfree]
  rfl

theorem exec_idleTimeout {s : State} (hquiet : s.host.lastMs + 10000 ≤ s.ms) :
    exec .idleTimeout s = .next (s.putOffice { s.office with idle := true }) :=
  if_pos hquiet

/-- Settles O34, command by command. -/
theorem placementRuns : Obligations.PlacementRuns :=
  ⟨fun _ _ _ _ _ _ _ _ => exec_firstClassPlacement_blocks, fun _ _ _ _ _ => exec_firstClassPlacement_value,
    fun _ _ _ _ => exec_directPlacement_zoned, fun _ _ _ _ _ _ _ _ _ => exec_directPlacement_stripe,
    fun _ _ _ _ _ _ _ _ _ _ _ _ _ => exec_commitUnitSwitch_switched, fun _ _ _ _ _ _ => exec_commitUnitSwitch_failed,
    fun _ _ _ _ _ => exec_folding, fun _ _ _ _ _ _ _ _ => exec_reSorting, fun _ _ _ => exec_reallocation_abandoned,
    fun _ _ _ _ => exec_reallocation_begins, fun _ => exec_idleTimeout⟩

end Sys2Proof.Machine
end

section
/-!
What a sequencer operation does to the context of its slice (O15, R168).
-/
namespace Sys2Proof.Machine

@[simp] theorem ctx_putCtx_same (s : State) (n : Nat) (c : Ctx) : (s.putCtx n c).ctx n = c :=
  sGet_sPut_same _ _ _ _

/-- Settles O15: each operation stores one context, NEXT, DONE, TRAP and the reserved codes the last (R179 decides before the sequencer
whether a word traps); the rest by the frame of the sequencer. -/
theorem sequencerEffects : Obligations.SequencerEffects := by
  refine ⟨fun n a cond w s => ?_, fun _ _ _ _ s => only_sequence (Only.refl s) fun _ hp => hp⟩
  unfold State.sequence
  split
  case h_8 hbr hbrn hcall hret hloop hldlc hdispatch =>
    rw [ctx_putCtx_same]
    exact ((if_neg hbr).trans <| (if_neg hbrn).trans <| (if_neg hcall).trans <| (if_neg hret).trans <| (if_neg hloop).trans <|
      (if_neg hldlc).trans <| if_neg hdispatch).symm
  all_goals
    rename_i hseq
    simp [hseq]

end Sys2Proof.Machine
end

section
/-!
A cycle of the running slice (O12 to O14, R163): the command of a micro-operation is one cycle of the whole word in which its field holds
the operation (DESIGN CHOICE; log 11).
-/
namespace Sys2Proof.Machine

theorem runsSlice_iff {s : State} {n : Nat} :
    s.runsSlice n = true ↔ s.get Reg.CRE_STATUS_STATE = 3 ∧ s.eng.wait = .none ∧ s.eng.running = some n := by
  simp [State.runsSlice, and_assoc]

/-- Where a slice has the engine, nothing is scheduled first: the word fetched is the one that slice stands at. -/
theorem micro_of_runsSlice {n : Nat} {fetch dm : Ecc} {isOp : MW → Bool} {s : State} (hrun : s.runsSlice n = true)
    (hop : isOp (s.wordAt n) = true) : s.micro fetch dm isOp = s.oneCycle n fetch dm := by
  obtain ⟨hstate, hwait, hrunning⟩ := runsSlice_iff.1 hrun
  have hgate : ¬(s.get Reg.CRE_STATUS_STATE != 3 || s.eng.wait != .none) = true := by simp [hstate, hwait]
  have hstays : (if s.eng.running.isNone then s.schedule else s) = s := by simp [hrunning]
  have hholds : ¬(!isOp (s.wordAt n)) = true := by simp [hop]
  rw [State.micro, if_neg hgate]
  simp only [hstays]
  split
  · next hnone => simp [hrunning] at hnone
  · next m hm =>
    obtain rfl : n = m := Option.some.inj (hrunning.symm.trans hm)
    refine (if_neg hholds).trans ?_
    cases fetch <;> rfl

/-- A command whose operation a field of the word holds completes with the cycle. -/
theorem cycle_of_field (field : MW → Nat) {k n : Nat} {fetch dm : Ecc} {s : State} (hrun : s.runsSlice n = true)
    (hfield : field (s.wordAt n) = k) :
    (ok (s.micro fetch dm fun w => field w == k)) = .next (s.oneCycle n fetch dm) :=
  congrArg Host.Outcome.next (micro_of_runsSlice hrun (beq_iff_eq.2 hfield))

/-- NEXT is the command of the reserved codes of SEQ too, which trap within the cycle. -/
theorem exec_next_cycle {n : Nat} {fetch dm : Ecc} {s : State} (hrun : s.runsSlice n = true)
    (hseq : (s.wordAt n).seq = 0 ∨ 10 ≤ (s.wordAt n).seq) : exec (.next fetch dm) s = .next (s.oneCycle n fetch dm) :=
  congrArg Host.Outcome.next (micro_of_runsSlice hrun (by simpa using hseq))

theorem exec_capture_cycle {n : Nat} {fetch dm : Ecc} {s : State} (hrun : s.runsSlice n = true) (hcap : (s.wordAt n).cap = true) :
    exec (.capture fetch dm) s = .next (s.oneCycle n fetch dm) :=
  congrArg Host.Outcome.next (micro_of_runsSlice hrun hcap)

/-- Settles O12: NEXT with the reserved codes, and every other operation by the code in SEQ. -/
theorem sequencerMicrowordsRun : Obligations.SequencerMicrowordsRun :=
  ⟨fun _ _ _ _ => exec_next_cycle, fun _ _ _ _ => cycle_of_field MW.seq, fun _ _ _ _ => cycle_of_field MW.seq,
    fun _ _ _ _ => cycle_of_field MW.seq, fun _ _ _ _ => cycle_of_field MW.seq, fun _ _ _ _ => cycle_of_field MW.seq,
    fun _ _ _ _ => cycle_of_field MW.seq, fun _ _ _ _ => cycle_of_field MW.seq, fun _ _ _ _ => cycle_of_field MW.seq,
    fun _ _ _ _ => cycle_of_field MW.seq⟩

/-- Settles O13: every operation by the code in ALU. -/
theorem aluMicrowordsRun : Obligations.AluMicrowordsRun := by
  refine ⟨?_, ?_, ?_, ?_, ?_, ?_, ?_, ?_, ?_, ?_, ?_, ?_, ?_, ?_, ?_, ?_, ?_, ?_⟩ <;>
    exact fun _ _ _ _ => cycle_of_field MW.alu

/-- Settles O14: every operation by the code in MAC, MEM_OP or IO_OP, and a capture by CAP. -/
theorem macMemoryPortMicrowordsRun : Obligations.MacMemoryPortMicrowordsRun :=
  ⟨fun _ _ _ _ => cycle_of_field MW.mac, fun _ _ _ _ => cycle_of_field MW.mac, fun _ _ _ _ => cycle_of_field MW.mac,
    fun _ _ _ _ => cycle_of_field MW.mac, fun _ _ _ _ => cycle_of_field MW.memOp, fun _ _ _ _ => cycle_of_field MW.memOp,
    fun _ _ _ _ => cycle_of_field MW.ioOp, fun _ _ _ _ => cycle_of_field MW.ioOp, fun _ _ _ _ => exec_capture_cycle⟩

end Sys2Proof.Machine
end

section
/-!
The courier image in its store (O58, R165): the bytes of a word of the DRAM, the words of an image, and what the loader makes of one.
-/
namespace Sys2Proof.Machine

/-! ### The bytes of a number -/

theorem bitsOf_byte (v k : Nat) : bitsOf v (8 * k + 7) (8 * k) = v / 256 ^ k % 256 := by
  have hplace : 2 ^ (8 * k) = 256 ^ k := Nat.pow_mul 2 8 k
  have hsize : 2 ^ (8 * k + 7 - 8 * k + 1) = 256 := congrArg (2 ^ ·) (show 8 * k + 7 - 8 * k + 1 = 8 by omega)
  rw [bitsOf, hplace, hsize]

/-- Bits 8k to 8k+7 of a little-endian number of the DRAM are its byte k. -/
theorem bitsOf_dram_byte {a k n : Nat} (s : State) (hk : k < n) :
    bitsOf (s.dram a n) (8 * k + 7) (8 * k) = (s.byte (a + k)).toNat := by
  rw [bitsOf_byte]
  induction n generalizing a k with
  | zero => cases hk
  | succ n ih =>
    have hbyte := (s.byte a).isLt
    cases k with
    | zero =>
      rw [State.dram, Nat.pow_zero, Nat.div_one, show a + 0 = a from rfl]
      omega
    | succ k =>
      have hrest : s.dram a (n + 1) / 256 = s.dram (a + 1) n := by
        rw [State.dram]
        omega
      calc s.dram a (n + 1) / 256 ^ (k + 1) % 256
          = s.dram (a + 1) n / 256 ^ k % 256 := by rw [Nat.pow_succ', ← Nat.div_div_eq_div_mul, hrest]
        _ = (s.byte (a + (k + 1))).toNat := by rw [ih (by omega), Nat.add_assoc, Nat.add_comm 1 k]

/-! ### The words of an image -/

theorem sGet_cons {α : Type} (a : Nat) (v : α) (t : Sparse α) (k : Nat) (d : α) :
    sGet ((a, v) :: t) k d = if a = k then v else sGet t k d := by
  rw [sGet, sGet?]
  split <;> rfl

/-- The values of a function other than 0, listed by key, read as the function does at every key they were taken over. -/
theorem sGet_filter_map (f : Nat → Nat) (l : List Nat) (k : Nat) :
    sGet ((l.map fun w => (w, f w)).filter fun p => p.2 != 0) k 0 = if k ∈ l then f k else 0 := by
  induction l with
  | nil => rfl
  | cons a t ih =>
    rw [List.map_cons, List.filter_cons]
    by_cases hkey : a = k
    · subst hkey
      by_cases hzero : f a = 0
      · simp [hzero, ih]
      · simp [hzero, sGet_cons]
    · have hmem : k ∈ a :: t ↔ k ∈ t := by simp [Ne.symm hkey]
      by_cases hzero : f a = 0
      · simp [hzero, ih, hmem]
      · simp [hzero, ih, hmem, sGet_cons, hkey]

theorem sGet_imageWords {w count : Nat} (s : State) (a width : Nat) (hw : w < count) :
    sGet (s.imageWords a width count) w 0 = s.dram (a + 512 + width * w) width :=
  (sGet_filter_map (fun w => s.dram (a + 512 + width * w) width) (List.range count) w).trans (if_pos (List.mem_range.2 hw))

theorem creReservedOk_iff {v : Nat} : creReservedOk v = true ↔ bitsOf v 52 32 = 0 := beq_iff_eq

/-- The words that the store does not list are 0, and so have no reserved bit set. -/
theorem all_creReservedOk_imageWords {s : State} {a width count : Nat} :
    ((s.imageWords a width count).all fun p => creReservedOk p.2) = true ↔
      ∀ w, w < count → bitsOf (s.dram (a + 512 + width * w) width) 52 32 = 0 := by
  simp only [State.imageWords, List.all_eq_true, List.mem_filter, List.mem_map, List.mem_range, creReservedOk_iff]
  constructor
  · intro hlisted w hw
    by_cases hzero : s.dram (a + 512 + width * w) width = 0
    · rw [hzero]
      rfl
    · exact hlisted _ ⟨⟨w, hw, rfl⟩, bne_iff_ne.2 hzero⟩
  · rintro hall _ ⟨⟨w, hw, rfl⟩, -⟩
    exact hall w hw

/-! ### The loader -/

/-- What the loader accepts (R42, R165): an image that is signed and in which every reserved bit is 0. -/
def State.CourierAccepts (s : State) (a : Nat) : Prop :=
  s.imageSigned (s.imageBytes a (512 + 24 * 8192)) = true ∧
    ∀ w, w < 8192 → bitsOf (s.dram (a + 512 + 24 * w) 24) 52 32 = 0

/-- The loader's end: the words are stored either way; an image it accepts leaves the engine loaded, and any other off with LOAD_FAIL. -/
theorem exec_creLoadDone_store {a : Nat} {s : State} (hloading : s.get Reg.CRE_STATUS_STATE = 1)
    (ha : a = s.get Reg.CRE_LOAD_LO_ADDR + 2 ^ 32 * s.get Reg.CRE_LOAD_HI_ADDR) :
    ∃ t, exec .creLoadDone s = .next t ∧ t.eng.store = s.imageWords a 24 8192 ∧
      (s.CourierAccepts a → t.get Reg.CRE_STATUS_STATE = 2) ∧
      (¬s.CourierAccepts a → t.get Reg.CRE_STATUS_STATE = 0 ∧ t.get Reg.CRE_STATUS_LOAD_FAIL = 1) := by
  have hgood : (s.imageSigned (s.imageBytes a (512 + 24 * 8192)) && (s.imageWords a 24 8192).all fun p => creReservedOk p.2) = true ↔
      s.CourierAccepts a := by
    rw [Bool.and_eq_true, all_creReservedOk_imageWords]
    rfl
  refine ⟨_, exec_creLoadDone hloading ha rfl rfl rfl, ?_⟩
  split
  · next h =>
    exact ⟨by simp only [State.set_eng], fun _ => (get_set_ne _ _ (by decide)).trans (get_set_same _ _ _),
      fun hnot => absurd (hgood.1 h) hnot⟩
  · next h =>
    exact ⟨by simp only [State.set_eng], fun hok => absurd (hgood.2 hok) h,
      fun _ => ⟨(get_set_ne _ _ (by decide)).trans (get_set_same _ _ _), get_set_same _ _ _⟩⟩

/-- Settles O58: a byte by the word it lies in, and the state by whether the loader accepts the image. -/
theorem courierImageLaidOut : Obligations.CourierImageLaidOut := by
  refine ⟨fun s a w k hloading ha hw hk => ?_, fun s a w hloading ha hw hset => ?_, fun s a hloading ha hclear => ?_⟩ <;>
    obtain ⟨t, hexec, hstore, haccepted, hrejected⟩ := exec_creLoadDone_store hloading ha
  · refine ⟨t, hexec, ?_⟩
    rw [hstore, sGet_imageWords s a 24 hw, bitsOf_dram_byte s hk]
  · exact ⟨t, hexec, hrejected fun hok => hset (hok.2 w hw)⟩
  · refine ⟨t, hexec, ?_⟩
    split
    · next hsigned => exact haccepted ⟨hsigned, hclear⟩
    · next hunsigned => exact (hrejected fun hok => hunsigned hok.1).1

end Sys2Proof.Machine
end

section
/-!
The messages of an actuator loop (O23, R200, R201, R208, R209, R213, R214, R217): how a motion taken up by an idle loop starts, and an
equation for each message.
-/
namespace Sys2Proof.Machine

/-! ### A motion that comes to run -/

/-- A loop that runs the next motion at once (R201): none is in progress, the heads do not unload, and no retract runs. -/
structure Loop.Idle (l : Loop) : Prop where
  notUnloading : l.mode ≠ .unloading
  notEmergency : l.mode ≠ .emergency
  noneRuns : l.cur = none
  notRetracting : l.retracting = false

/-- A motion that nothing refuses is acted on (R201), by its kind. -/
def State.actOn (t : State) (x : Act) (w : Motion) (rCoil : Nat) : State :=
  match w.kind with
  | .unload => t.beginUnload x (some w)
  | .load => if t.loadSlot x then t.beginLoad x w rCoil else t.putLp x { t.lp x with cur := some w }
  | .head => (t.putLp x { t.lp x with cur := some { w with began := some t.tick }, offset := 0 }).beginSwitch x w.head w.track
  | .seek => (t.putLp x { t.lp x with offset := 0 }).beginSeek x w

theorem runNext_of_allowed {x : Act} {rCoil n : Nat} {w : Motion} {rest : List Motion} {l : Loop} {s t : State} (hidle : l.Idle)
    (hwaits : l.waiting = w :: rest) (ht : t = s.putLp x { l with waiting := rest }) (hallowed : t.refusal x w = none) :
    (s.putLp x l).runNext x rCoil (n + 1) = t.actOn x w rCoil := by
  obtain ⟨hunload, hemergency, hcur, hretract⟩ := hidle
  have hput : (s.putLp x l).putLp x { l with waiting := rest } = t := (State.putLp_putLp _ _ _ _).trans ht.symm
  refine (if_neg (by simp [hcur, hunload, hemergency, hretract])).trans ?_
  simp only [lp_putLp_same, hwaits, hput, hallowed]
  rfl

/-- An idle loop acts at once on the motion it takes up, and an offset in progress gets no reply (R201, R209). -/
theorem takeMotion_of_idle {x : Act} {rCoil : Nat} {w : Motion} {s u t : State}
    (hroom : (s.lp x).waiting.length + b2n (s.lp x).cur.isSome < 4) (hu : u = s.discard (x.n + 1)) (hidle : (u.lp x).Idle)
    (hnone : (u.lp x).waiting = []) (ht : t = u.putLp x { u.lp x with waiting := [], offsetTag := none })
    (hallowed : t.refusal x w = none) : s.takeMotion x w rCoil = t.actOn x w rCoil := by
  subst hu
  obtain ⟨hunload, hemergency, hcur, hretract⟩ := hidle
  have hcancel : ∀ tag : Option Nat, (if tag.isSome then none else tag) = none := fun tag => by cases tag <;> rfl
  refine (if_neg (Nat.not_le.2 hroom)).trans ((if_neg (by simp [hunload, hemergency])).trans ?_)
  simp only [hnone, hcancel]
  exact runNext_of_allowed ⟨hunload, hemergency, hcur, hretract⟩ rfl ht hallowed

/-! ### Motions -/

theorem exec_seek {x : Act} {m : Msg} {s : State} (htaken : s.takeMsg x 0x01 = some m) :
    exec (.seek x) s = .next (s.takeMotion x ⟨.seek, m.tag, bitsOf (m.word 1) 31 29, bitsOf (m.word 1) 23 0, bitsOf (m.word 2) 1 0,
      bitOf (m.word 2) 2, s.tick, none, none, false, false, false⟩ 0) := by
  simp only [exec, execSeek, htaken, ok]

theorem exec_head {x : Act} {m : Msg} {s : State} (htaken : s.takeMsg x 0x02 = some m) :
    exec (.head x) s = .next (s.takeMotion x ⟨.head, m.tag, bitsOf (m.word 1) 31 29, bitsOf (m.word 1) 23 0, 1, false, s.tick, none, none,
      false, false, false⟩ 0) := by
  simp only [exec, execHead, htaken, ok]

theorem exec_load {x : Act} {rCoil : Nat} {m : Msg} {s : State} (htaken : s.takeMsg x 0x04 = some m) :
    exec (.load x rCoil) s = .next (s.takeMotion x ⟨.load, m.tag, bitsOf (m.word 1) 31 29, bitsOf (m.word 1) 23 0, 1, false, s.tick, none,
      none, false, false, false⟩ rCoil) := by
  simp only [exec, execLoad, htaken, ok]

theorem exec_unload {x : Act} {m : Msg} {w : Motion} {s u v : State} (htaken : s.takeMsg x 0x05 = some m) (hu : u = s.discard (x.n + 1))
    (hmode : (u.lp x).mode ≠ .emergency) (hv : v = ((u.freePartner x).refuseCur x 0x02).refuseWaiting x 0x02)
    (hw : w = ⟨.unload, m.tag, 0, 0, 1, false, s.tick, some s.tick, none, false, false, false⟩) (hallowed : v.refusal x w = none) :
    exec (.unload x) s = .next (v.beginUnload x (some w)) := by
  subst hv hw hu
  simp only [exec, execUnload, htaken]
  exact (if_neg (mt beq_iff_eq.1 hmode)).trans (by simp only [hallowed, ok])

/-! ### Offsets, heads and coefficients -/

theorem exec_offset_follow {x : Act} {m : Msg} {o : Int} {s u v : State} (htaken : s.takeMsg x 0x03 = some m)
    (hu : u = s.discard (x.n + 1)) (ho : o = signed 32 (m.word 1)) (hmode : (u.lp x).mode = .follow)
    (hv : v = u.putLp x { u.lp x with offset := o, offsetTag := some m.tag, onCount := 0 }) :
    exec (.offset x) s = .next (if o = 0 then v else v.setInhibit x true false) := by
  subst hv ho hu
  simp only [exec, execOffset, htaken, hmode, ok]

theorem exec_retire {x : Act} {m : Msg} {s u : State} (htaken : s.takeMsg x 0x06 = some m) (hu : u = s.discard (x.n + 1)) :
    exec (.retire x) s = .next (u.retire x (m.word 1 % 256)) := by
  subst hu
  simp only [exec, execRetire, htaken, ok]

/-- COEF takes one of the four sets of the calibration tables and refuses any other (R200). -/
theorem exec_coef {x : Act} {m : Msg} {s u : State} (htaken : s.takeMsg x 0x07 = some m) (hu : u = s.discard (x.n + 1)) :
    exec (.coef x) s =
      if m.word 1 < 4 then .next (u.putLp x { u.lp x with coef := m.word 1 }) else .next (u.areply x m.tag 0x87 [0x06]) := by
  subst hu
  simp only [exec, execCoef, htaken, ok]

/-- Settles O23: a seek, a head switch and a load by what an idle loop does with the motion it takes up, and the other messages by an
equation each. -/
theorem actuatorMessagesRun : Obligations.ActuatorMessagesRun := by
  refine ⟨fun x m w s u t htaken hw hroom hu hunload hemergency hnone hcur hretract ht hallowed => ?_,
    fun x m w s u t htaken hw hroom hu hunload hemergency hnone hcur hretract ht hallowed => ?_,
    fun x rCoil m w s u t htaken hw hroom hu hunload hemergency hnone hcur hretract ht hallowed hslot => ?_,
    fun _ _ _ _ _ _ => exec_unload, fun _ _ _ _ _ _ => exec_offset_follow, fun _ _ _ _ => exec_retire,
    fun x m s u htaken hu hset => (exec_coef htaken hu).trans (if_pos hset),
    fun x m s u htaken hu hset => (exec_coef htaken hu).trans (if_neg (Nat.not_lt.2 hset))⟩
  · subst hw
    rw [exec_seek htaken, takeMotion_of_idle hroom hu ⟨hunload, hemergency, hcur, hretract⟩ hnone ht hallowed]
    rfl
  · subst hw
    rw [exec_head htaken, takeMotion_of_idle hroom hu ⟨hunload, hemergency, hcur, hretract⟩ hnone ht hallowed]
    rfl
  · subst hw
    rw [exec_load htaken, takeMotion_of_idle hroom hu ⟨hunload, hemergency, hcur, hretract⟩ hnone ht hallowed]
    exact congrArg Host.Outcome.next (if_pos hslot)

end Sys2Proof.Machine
end

section
/-!
The end of a motion (O24, R202, R204, R206, R208, R209, R213, R214): an equation for each command, from the motion in progress and the mode
of its loop.
-/
namespace Sys2Proof.Machine

/-! ### Seeks -/

/-- A motion that lands takes no time. -/
theorem tick_landed (s : State) (x : Act) : (s.landed x).tick = s.tick := rfl

/-- The reply to a seek on track, by what it began as (R202, R208). -/
def State.replyLanded (u : State) (x : Act) (m : Motion) (ticks : Nat) : State :=
  if m.kind == .head then u.areply x m.tag 0x82 [u.tick - m.taken, 1]
  else u.areply x m.tag 0x81 [ticks, b2n m.paired + 2 * b2n m.lowered]

theorem exec_seekDone {x : Act} {m : Motion} {s u : State} (hcur : (s.lp x).cur = some m) (hmode : (s.lp x).mode = .seek)
    (hontrack : s.onTrackNow x = true) (hu : u = (s.landed x).freeSeek x) :
    exec (.seekDone x) s = .next ((u.replyLanded x m (s.tick - m.began.getD s.tick)).runNext x 0 4) := by
  subst hu
  simp only [exec, execSeekDone, hcur]
  exact if_pos (by simp [hmode, hontrack])

theorem exec_seekSettleTimeout {x : Act} {sinceArrival : Nat} {m : Motion} {s u v : State} (hcur : (s.lp x).cur = some m)
    (hmode : (s.lp x).mode = .seek) (hlate : 64 ≤ sinceArrival) (hu : u = (s.freePartner x).freeSeek x)
    (hv : v = ((u.putLp x { u.lp x with cur := none, track := bitsOf (u.lp x).status 23 0 }).setMode x .follow).setInhibit x true false) :
    exec (.seekSettleTimeout x sinceArrival) s = .next ((v.areply x m.tag 0x88 [0x10, (v.lp x).status]).runNext x 0 4) := by
  subst hv hu
  simp only [exec, execSeekSettleTimeout, hcur]
  exact if_pos (by simp [hmode, hlate])

theorem exec_pairWaitExpiry {x : Act} {m : Motion} {s : State} (hcur : (s.lp x).cur = some m) (hmode : (s.lp x).mode = .seekWait)
    (halone : (s.lp x).partner = none) (hlate : m.taken + s.cal.pairWait ≤ s.tick) :
    exec (.pairWaitExpiry x) s = .next ((s.putLp x { s.lp x with cur := some { m with pairable := false } }).approvePair x) := by
  simp only [exec, execPairWaitExpiry, hcur]
  exact if_pos (by simp [hmode, halone, hlate])

/-! ### Head switches and offsets -/

theorem exec_headSwitchDone {x : Act} {m : Motion} {s u : State} (hcur : (s.lp x).cur = some m) (hmode : (s.lp x).mode = .switching)
    (hontrack : s.onTrackNow x = true) (hu : u = s.landed x) :
    exec (.headSwitchDone x) s = .next ((u.areply x m.tag 0x82 [u.tick - m.began.getD u.tick, 0]).runNext x 0 4) := by
  subst hu
  simp only [exec, execHeadSwitchDone, hcur, ok]
  exact if_pos (by simp [hmode, hontrack])

theorem exec_headSwitchTimeout {x : Act} {m : Motion} {s : State} (hcur : (s.lp x).cur = some m) (hmode : (s.lp x).mode = .switching)
    (hlate : m.began.getD s.tick + 24 ≤ s.tick) :
    exec (.headSwitchTimeout x) s = .next ((s.putLp x { s.lp x with
      cur := some { m with cls := 1, seekUsed := true, began := none, startAt := none, pairable := false },
      partner := none }).approvePair x) := by
  simp only [exec, execHeadSwitchTimeout, hcur]
  exact if_pos (by simp [hmode, hlate])

theorem exec_offsetDone {x : Act} {tag : Nat} {s u : State} (howed : (s.lp x).offsetTag = some tag) (hmode : (s.lp x).mode = .follow)
    (hontrack : s.onTrackNow x = true) (hu : u = s.putLp x { s.lp x with offsetTag := none }) :
    exec (.offsetDone x) s =
      .next ((u.setInhibit x ((s.lp x).offset != 0) ((s.lp x).offset == 0)).areply x tag 0x83 [unsigned 32 (s.lp x).offset]) := by
  subst hu
  simp only [exec, execOffsetDone, howed]
  exact if_pos (by simp [hmode, hontrack])

/-! ### Loads and unloads -/

theorem exec_loadLanded {x : Act} {m : Motion} {s u : State} (hcur : (s.lp x).cur = some m) (hmode : (s.lp x).mode = .loading)
    (hontrack : s.onTrackNow x = true) (hu : u = ((s.setRamp x false false 0).set (Reg.ARM_STATUS_STATE x) 2).landed x) :
    exec (.loadLanded x) s = .next ((u.areply x m.tag 0x84 [u.tick - m.began.getD u.tick]).runNext x 0 4) := by
  subst hu
  rw [tick_landed]
  simp only [exec, execLoadLanded, hcur]
  exact if_pos (by simp [hmode, hontrack])

theorem exec_loadTimeout {x : Act} {m : Motion} {t : Nat} {s : State} (hcur : (s.lp x).cur = some m) (hmode : (s.lp x).mode = .loading)
    (hbegan : m.began = some t) (hramp : bitOf (s.lp x).status 31 = false) (hlate : 80 ≤ (s.tick - t) * s.tickNs / 1000000) :
    exec (.loadTimeout x) s = .next ((s.beginUnload x none).areply x m.tag 0x88 [0x30, (s.lp x).status]) := by
  simp only [exec, execLoadTimeout, hcur]
  exact if_pos (by simp [hmode, hbegan, hramp, hlate])

theorem exec_unloadLatched {x : Act} {m : Motion} {s u : State} (hcur : (s.lp x).cur = some m) (hmode : (s.lp x).mode = .unloading)
    (hu : u = (s.parkLoop x).areply x m.tag 0x85 []) :
    exec (.unloadLatched x) s = .next (u.runNext x (u.get (Reg.ARM_COIL_R_COIL x)) 4) := by
  simp only [exec, execUnloadLatched, hcur, ← hu]
  exact if_pos (beq_iff_eq.2 hmode)

/-- Settles O24, command by command; a seek on track by the reply that is owed. -/
theorem motionsEnd : Obligations.MotionsEnd := by
  refine ⟨fun x m s u hcur hmode hontrack hkind hu => ?_, fun x m s u hcur hmode hontrack hkind hu => ?_,
    fun _ _ _ _ _ _ => exec_seekSettleTimeout, fun _ _ _ _ => exec_headSwitchDone, fun _ _ _ => exec_headSwitchTimeout,
    fun _ _ _ _ => exec_offsetDone, fun _ _ _ _ => exec_loadLanded, fun _ _ _ _ => exec_loadTimeout,
    fun _ _ _ _ => exec_unloadLatched, fun _ _ _ => exec_pairWaitExpiry⟩
  · rw [exec_seekDone hcur hmode hontrack hu, State.replyLanded, if_neg (by simp [hkind])]
  · rw [exec_seekDone hcur hmode hontrack hu, State.replyLanded, if_pos (by simp [hkind])]

end Sys2Proof.Machine
end

section
/-!
Emergency unloads, hardware retracts and the watchdog of the arm driver (O25, R215, R216, R218): an equation for each command.
-/
namespace Sys2Proof.Machine

/-! ### Emergency unloads -/

theorem exec_emergencyUnload_all {trigger : Nat} (x : Act) (s : State) (hfirst : 1 ≤ trigger) (hlast : trigger ≤ 4) :
    exec (.emergencyUnload trigger x) s = .next (s.emUnloadAll trigger) :=
  (if_neg (by rw [Bool.or_eq_true, decide_eq_true_iff, decide_eq_true_iff]; omega)).trans (if_pos hlast)

/-- The record that trigger 6 raises by one level (R215): an open level-3 fault of the loop's domain. -/
def State.openLoopFault (s : State) (x : Act) : Option (Nat × CapRec) :=
  s.desk.recs.find? fun p => p.2.level == 3 && p.2.st == 1 && p.2.dom == x.n

theorem exec_emergencyUnload_noRecord {x : Act} {s : State} (hnone : s.openLoopFault x = none) :
    exec (.emergencyUnload 6 x) s = .next (s.emUnload x 6) := by
  rw [State.openLoopFault] at hnone
  simp [exec, execEmergencyUnload, hnone, ok]

theorem exec_servoWedgeLoss {x : Act} {s : State} (hmiss : 32 ≤ (s.lp x).miss)
    (hmode : (s.lp x).mode = .follow ∨ (s.lp x).mode = .seek ∨ (s.lp x).mode = .switching) :
    exec (.servoWedgeLoss x) s = .next (s.emUnload x 5) :=
  if_pos (by simpa [hmiss, or_assoc] using hmode)

theorem exec_emUnloadLatched {x : Act} {trigger : Nat} {s t u : State} (hmode : (s.lp x).mode = .emergency)
    (htrigger : (s.lp x).emTrigger = some trigger) (ht : t = (s.parkLoop x).areply x 0 0x86 [trigger, b2n (s.lp x).emHard])
    (hu : u = t.latchedAfterDeclaration) :
    exec (.emUnloadLatched x) s = .next (u.runNext x (t.get (Reg.ARM_COIL_R_COIL x)) 4) := by
  simp only [exec, execEmUnloadLatched, hmode, htrigger, ← ht, ← hu, ok]

/-! ### Hardware retracts -/

/-- A coil current above I_LIMIT by 20 % for 10 µs (R216). -/
def State.overcurrent (s : State) (x : Act) (coilMa coilUs : Nat) : Prop :=
  12 * s.get (Reg.ARM_VCM_CFG_I_LIMIT x) < coilMa ∧ 10 ≤ coilUs

theorem exec_hardwareRetract_lowBus {x : Act} {busMv coilMa coilUs : Nat} {s : State} (hbus : busMv < 16000)
    (hgrave : (s.lp x).graveTicks = none) (hcoil : ¬s.overcurrent x coilMa coilUs) :
    exec (.hardwareRetract x busMv coilMa coilUs) s = .next (s.hwRetract x false false) := by
  have hoc : (decide (12 * s.get (Reg.ARM_VCM_CFG_I_LIMIT x) < coilMa) && decide (10 ≤ coilUs)) = false := by
    rwa [← Bool.not_eq_true, Bool.and_eq_true, decide_eq_true_iff, decide_eq_true_iff]
  simp only [exec, execHardwareRetract, hgrave, hoc, hbus]
  rfl

theorem exec_hardwareRetract_overcurrent {x : Act} {busMv coilMa coilUs : Nat} {s : State} (hcoil : s.overcurrent x coilMa coilUs)
    (hgrave : (s.lp x).graveTicks = none) :
    exec (.hardwareRetract x busMv coilMa coilUs) s = .next (s.hwRetract x false true) := by
  obtain ⟨hover, hlong⟩ := hcoil
  simp [exec, execHardwareRetract, hgrave, hover, hlong, ok]

theorem exec_retract {i : Initiator} {x : Act} {s : State} (hr : s.reaches i x.armBase = true) :
    exec (.retract i x) s = .next { s.hwRetract x false false with bus := .written } :=
  congrArg Host.Outcome.next (access_of_reaches hr)

theorem exec_retractWatchdog {x : Act} {s : State} (hquiet : max 1 (s.get (Reg.ARM_VCM_CFG_RETRACT_WD x)) ≤ (s.lp x).quiet)
    (hoff : (s.lp x).parked = false) : exec (.retractWatchdog x) s = .next (s.hwRetract x true false) :=
  if_pos (by simpa [hoff] using hquiet)

theorem exec_retractEnd {x : Act} {m : Motion} {s u : State} (hretract : (s.lp x).retracting = true) (hcur : (s.lp x).cur = some m)
    (hnone : (s.lp x).emTrigger = none) (hu : u = ((s.set (Reg.ARM_STATUS_RETRACTED x) 1).freePartner x).freeSeek x) :
    exec (.retractEnd x) s =
      .next (((u.areply x m.tag 0x88 [0x50, (s.lp x).status]).parkLoop x).latchedAfterDeclaration) := by
  subst hu
  simp only [exec, execRetractEnd, hcur, hnone]
  exact if_pos hretract

/-- Settles O25, command by command. -/
theorem emergencyUnloadRuns : Obligations.EmergencyUnloadRuns :=
  ⟨fun _ => exec_emergencyUnload_all, fun _ _ => rfl, fun _ _ => exec_emergencyUnload_noRecord, fun _ _ => exec_servoWedgeLoss,
    fun _ _ _ _ hmode htrigger => exec_emUnloadLatched hmode htrigger rfl, fun _ _ _ _ _ => exec_hardwareRetract_lowBus,
    fun _ _ _ _ _ hover hlong => exec_hardwareRetract_overcurrent ⟨hover, hlong⟩, fun _ _ _ => exec_retract,
    fun _ _ => exec_retractWatchdog, fun _ _ _ _ => exec_retractEnd⟩

end Sys2Proof.Machine
end

section
/-!
The messages and the start of the spindle (O27, R229 to R232, R238, R245, R478): an equation for each command, under what makes it act; of
HOLD, of the sensing, of an alignment step and of a catch, the equation keeps the branches of its outcome.
-/
namespace Sys2Proof.Machine

/-! ### The messages -/

/-- A spindle that is stopped, coasts or has failed begins the start sequence (R478), once the stamps of a spin-up cover it (R277). -/
theorem exec_start {m : Msg} {s v : State} (htaken : s.spMsg 0x21 = some m) (hlegs : s.legsLost < 2)
    (hstate : s.spSt ≤ 1 ∨ s.spSt = 7 ∨ s.spSt = 0xA) (hcovered : s.commitSpinup = (v, true)) :
    exec .start s = .next ((v.discard 0).start m.tag) := by
  have hbegins : (s.legsLost < 2 && (s.spSt ≤ 1 || s.spSt == 6 && s.spn.method != 2 || s.spSt == 7 || s.spSt == 0xA)) = true := by
    rcases hstate with h | h | h <;> simp [hlegs, h]
  simp only [exec, execStart, htaken]
  exact (if_pos hbegins).trans (by simp only [hcovered, if_true])

theorem exec_stop {m : Msg} {s u : State} (htaken : s.spMsg 0x22 = some m) (hu : u = s.discard 0) :
    exec .stop s = .next (u.stop m.tag (bitsOf (m.word 1) 1 0)) := by
  subst hu
  simp only [exec, execStop, htaken]

theorem exec_hold_resumes {m : Msg} {s u : State} (htaken : s.spMsg 0x23 = some m) (hu : u = s.discard 0) (hstate : u.spSt = 6)
    (hmethod : u.spn.method = 1) (hfast : u.handover ≤ u.speed) : exec .hold s = .next (u.resumeRun m.tag) := by
  subst hu
  simp only [exec, execHold, htaken]
  exact if_pos (by simp [hstate, hmethod, hfast])

theorem exec_hold_refused {m : Msg} {s u : State} (htaken : s.spMsg 0x23 = some m) (hu : u = s.discard 0) (hstate : u.spSt ≠ 6) :
    exec .hold s = .next (if u.spSt = 0xA then u.spRefuse m.tag 0x01 else u.spRefuse m.tag 0x04) := by
  subst hu
  simp only [exec, execHold, htaken]
  refine (if_neg (by simp [hstate])).trans ?_
  simp only [beq_iff_eq, apply_ite Host.Outcome.next]

/-! ### The start sequence -/

/-- The 20 ms of sensing are over (R231): the loop senses, it neither short-brakes nor waits to try again. -/
structure State.SensingOver (s : State) : Prop where
  senses : s.spSt = 2
  noBrake : s.spn.brake = false
  noWait : s.spn.retryWait = false
  elapsed : 20000000 ≤ s.stateNs

/-- The comparators saw the rotor turn forward, at or above HANDOVER_RPM (R231). -/
def State.TurnsForward (s : State) : Prop :=
  s.changesHere.all (·.2) = true ∧ (gapsOf s.changesHere).isEmpty = false ∧ s.handover ≤ s.catchSpeed (meanGap (gapsOf s.changesHere))

theorem exec_sensePeriodEnd {s : State} (h : s.SensingOver) :
    exec .sensePeriodEnd s =
      if s.changesHere.isEmpty then .next (s.align false)
      else if s.changesHere.all (·.2) && !(gapsOf s.changesHere).isEmpty &&
        s.handover ≤ s.catchSpeed (meanGap (gapsOf s.changesHere)) then .next (s.setSp 8)
      else .next ((s.setInv 2).putSpn { s.spn with brake := true }) := by
  obtain ⟨hsenses, hbrake, hwait, helapsed⟩ := h
  exact if_pos (by simp [hsenses, hbrake, hwait, helapsed])

theorem exec_sensePeriodEnd_still {s : State} (h : s.SensingOver) (hstill : s.changesHere = []) :
    exec .sensePeriodEnd s = .next (s.align false) :=
  (exec_sensePeriodEnd h).trans (if_pos (List.isEmpty_iff.2 hstill))

/-- An interval lies between two changes. -/
theorem isEmpty_eq_false_of_gapsOf {l : List (Nat × Bool)} (h : (gapsOf l).isEmpty = false) : l.isEmpty = false := by
  cases l with
  | nil => exact h
  | cons c l => rfl

theorem exec_sensePeriodEnd_catches {s : State} (h : s.SensingOver) (hforward : s.TurnsForward) :
    exec .sensePeriodEnd s = .next (s.setSp 8) := by
  obtain ⟨hall, hgaps, hfast⟩ := hforward
  refine (exec_sensePeriodEnd h).trans ((if_neg (by simp [isEmpty_eq_false_of_gapsOf hgaps])).trans (if_pos ?_))
  simp only [hall, hgaps, hfast, decide_true, Bool.not_false, Bool.and_self]

theorem exec_sensePeriodEnd_brakes {s : State} (h : s.SensingOver) (hturns : s.changesHere.isEmpty = false)
    (hnot : s.changesHere.all (·.2) = false ∨ s.catchSpeed (meanGap (gapsOf s.changesHere)) < s.handover) :
    exec .sensePeriodEnd s = .next ((s.setInv 2).putSpn { s.spn with brake := true }) := by
  refine (exec_sensePeriodEnd h).trans ((if_neg (by simp [hturns])).trans (if_neg ?_))
  rcases hnot with hback | hslow
  · simp only [hback, Bool.false_and, Bool.false_eq_true, not_false_eq_true]
  · simp only [Nat.not_le.2 hslow, decide_false, Bool.and_false, Bool.false_eq_true, not_false_eq_true]

theorem exec_shortBrakeQuiet {s : State} (hsenses : s.spSt = 2) (hbrake : s.spn.brake = true) (hquiet : 200000000 ≤ s.quietNs) :
    exec .shortBrakeQuiet s = .next (s.align false) :=
  if_pos (by simp [hsenses, hbrake, hquiet])

theorem exec_alignStepEnd {s : State} (haligns : s.spSt = 3) (helapsed : 2000000 * s.get Reg.SPN_START_ALIGN_MS ≤ s.stateNs) :
    exec .alignStepEnd s =
      if s.spn.secondAlign then
        .next (((s.putMotor { s.motor with ramp := 0, agree := 0, off := 0 }).setSp 4).set Reg.SPN_STATUS_ANGLE_SRC 0)
      else .next (s.align true) :=
  if_pos (by simp [haligns, helapsed])

/-! ### Catch and handover -/

theorem exec_catchResult_judged {l : List (Nat × Bool)} {s : State} (hl : l = s.changesHere.take 6) (hcatches : s.spSt = 8)
    (hsix : 6 ≤ l.length) :
    exec .catchResult s =
      .next (if s.caught (gapsOf l) (l.all (·.2)) then s.takeOver (s.catchSpeed (meanGap (gapsOf l))) else s.catchFail) := by
  subst hl
  rw [apply_ite Host.Outcome.next]
  exact if_pos (by simp only [hcatches, hsix, beq_self_eq_true, decide_true, Bool.and_self])

theorem exec_catchResult_late {s : State} (hcatches : s.spSt = 8) (hfew : (s.changesHere.take 6).length < 6)
    (helapsed : 8000000 ≤ s.stateNs) : exec .catchResult s = .next s.catchFail := by
  refine (if_neg ?_).trans (if_pos (by simp [hcatches, helapsed]))
  simp only [Nat.not_le.2 hfew, decide_false, Bool.and_false, Bool.false_eq_true, not_false_eq_true]

theorem exec_observerHandover {s : State} (hramp : s.spSt = 4) (hagrees : 64 ≤ s.motor.agree) :
    exec .observerHandover s = .next
      (((s.putMotor { s.motor with off := angleDiff (s.get Reg.SPN_ANGLE_ANGLE) s.motor.angle, lost := 0 }).setSp 5).set
        Reg.SPN_STATUS_ANGLE_SRC 1) :=
  if_pos (by simp [hramp, hagrees])

/-! ### A start that fails -/

/-- A start fails (R232): in the blind ramp by its time or by a change in reverse, in every step of the start by a low bus. -/
def State.StartFails (s : State) : Prop :=
  (s.spSt = 4 ∧ (3000000000 ≤ s.stateNs ∨ s.changesHere.any (fun c => !c.2) = true)) ∨
    (2 ≤ s.spSt ∧ s.spSt ≤ 4 ∧ s.spn.retryWait = false ∧ s.loopBusMv < 16000)

theorem exec_startFailure {s : State} (h : s.StartFails) :
    exec .startFailure s =
      if 3 ≤ s.spn.attempts + 1 then
        .next ((((s.coast.putSpn { s.coast.spn with attempts := s.spn.attempts + 1, startTag := none }).set
          Reg.SPN_STATUS_START_FAIL 1).spFault (s.spn.startTag.getD 0) 0x01).setSp 0xA)
      else .next (s.coast.putSpn { s.coast.spn with attempts := s.spn.attempts + 1, retryWait := true }) := by
  refine if_pos ?_
  simp only [Bool.or_eq_true, Bool.and_eq_true, beq_iff_eq, decide_eq_true_iff, Bool.not_eq_true', and_assoc]
  exact h

theorem exec_startFailure_again {s u : State} (h : s.StartFails) (hleft : s.spn.attempts < 2) (hu : u = s.coast) :
    exec .startFailure s = .next (u.putSpn { u.spn with attempts := s.spn.attempts + 1, retryWait := true }) := by
  subst hu
  exact (exec_startFailure h).trans (if_neg (by omega))

theorem exec_startFailure_last {s u : State} (h : s.StartFails) (hlast : 2 ≤ s.spn.attempts) (hu : u = s.coast) :
    exec .startFailure s = .next ((((u.putSpn { u.spn with attempts := s.spn.attempts + 1, startTag := none }).set
      Reg.SPN_STATUS_START_FAIL 1).spFault (s.spn.startTag.getD 0) 0x01).setSp 0xA) := by
  subst hu
  exact (exec_startFailure h).trans (if_pos (by omega))

theorem exec_startRetry {s : State} (hwaits : s.spn.retryWait = true) (helapsed : 2000000000 ≤ s.stateNs) :
    exec .startRetry s = .next s.sense :=
  if_pos (by simp [hwaits, helapsed])

/-! ### At speed -/

/-- The speed is new within 0.5 % of SET_RPM and has held there for 100 ms (R229). -/
structure State.NewlyAtSpeed (s : State) (t : Nat) : Prop where
  runs : s.spSt = 5
  held : s.motor.heldNs = some t
  elapsed : t + 100000000 ≤ s.clockNs
  within : s.within 5 = true
  untold : s.get Reg.SPN_STATUS_AT_SPEED = 0

theorem exec_atSpeedReached {t tag : Nat} {s u : State} (h : s.NewlyAtSpeed t) (hspinup : s.books.spinup = none)
    (howed : s.spn.startTag = some tag)
    (hu : u = { (s.set Reg.SPN_STATUS_AT_SPEED 1).set Reg.SPN_INT_AT_SPEED 1 with
      pmk := { s.pmk with speedNs := some s.clockNs, timedOut := false } }) :
    exec .atSpeedReached s = .next ((u.putSpn { s.spn with startTag := none }).reply 0 tag 0xA1 [s.tick - s.spn.startTick]) := by
  subst hu
  obtain ⟨hruns, hheld, helapsed, hwithin, huntold⟩ := h
  have hlong : s.motor.heldNs.any (fun t => t + 100000000 ≤ s.clockNs) = true :=
    (Option.any_eq_true _ _).2 ⟨t, hheld, decide_eq_true helapsed⟩
  refine (if_pos (by simp [hruns, hlong, hwithin, huntold, State.on])).trans ?_
  simp only [State.set_books, hspinup, Option.isSome_none, Bool.false_eq_true, if_false, State.set_spn, howed]
  rfl

/-- Settles O27, command by command. -/
theorem spindleMessagesRun : Obligations.SpindleMessagesRun :=
  ⟨fun _ _ _ _ htaken _ => exec_start htaken, fun _ _ _ => exec_stop, fun _ _ _ => exec_hold_resumes, fun _ _ _ => exec_hold_refused,
    fun _ hsenses hbrake hwait helapsed => exec_sensePeriodEnd_still ⟨hsenses, hbrake, hwait, helapsed⟩,
    fun _ hsenses hbrake hwait helapsed hall hgaps hfast =>
      exec_sensePeriodEnd_catches ⟨hsenses, hbrake, hwait, helapsed⟩ ⟨hall, hgaps, hfast⟩,
    fun _ hsenses hbrake hwait helapsed => exec_sensePeriodEnd_brakes ⟨hsenses, hbrake, hwait, helapsed⟩,
    fun _ => exec_shortBrakeQuiet,
    fun _ haligns helapsed hfirst => (exec_alignStepEnd haligns helapsed).trans (if_neg (by simp [hfirst])),
    fun _ haligns helapsed hsecond => (exec_alignStepEnd haligns helapsed).trans (if_pos hsecond),
    fun _ _ => exec_catchResult_judged, fun _ => exec_catchResult_late, fun _ => exec_observerHandover,
    fun _ _ => exec_startFailure_again, fun _ _ => exec_startFailure_last, fun _ => exec_startRetry,
    fun _ _ _ _ hruns hheld helapsed hwithin huntold => exec_atSpeedReached ⟨hruns, hheld, helapsed, hwithin, huntold⟩⟩

end Sys2Proof.Machine
end

section
/-!
The angle sources and the protections of the spindle (O28, R225, R234, R236 to R238, R240 to R244, R246, R247): an equation for each command,
under what makes it act.
-/
namespace Sys2Proof.Machine

/-! ### The angle sources -/

/-- A boundary judges the postmark angle over the last full revolution (R234): the loop runs on the observer with the disc as source, no glide
runs, and fewer than eight handovers were refused. -/
structure State.JudgesPostmark (s : State) (mean : Int) (spread pm : Nat) : Prop where
  judged : s.motor.full = some (mean, spread)
  angle : s.pmAngle = some pm
  runs : s.spSt = 5
  observer : s.get Reg.SPN_STATUS_ANGLE_SRC = 1
  enabled : s.get Reg.SPN_CTRL_PM_COMM_EN ≠ 0
  disc : s.get Reg.TCK_STATUS_SRC = 2
  noGlide : s.spn.glide = false
  fewRefused : s.get Reg.SPN_COUNTS_REFUSALS < 8

/-- The revolution is judged once. -/
def State.revolutionJudged (s : State) : State := s.putMotor { s.motor with full := none }

/-- A handover that is refused is counted, and the eighth is told (R234). -/
def State.handoverRefused (m : State) : State :=
  let u := m.set Reg.SPN_COUNTS_REFUSALS (m.get Reg.SPN_COUNTS_REFUSALS + 1)
  if u.get Reg.SPN_COUNTS_REFUSALS = 8 then u.spFault 0 0x02 else u

theorem exec_postmarkAngleHandover {mean : Int} {spread pm : Nat} {s : State} (h : s.JudgesPostmark mean spread pm) :
    exec .postmarkAngleHandover s =
      if 360 * mean.natAbs ≤ 15 * 65536 then
        if 360 * spread ≤ 5 * 65536 then
          .next ((s.putMotor { s.motor with full := none, off := angleDiff (s.get Reg.SPN_ANGLE_ANGLE) pm }).putSpn
            { s.spn with glide := true })
        else .next s.revolutionJudged
      else .next s.revolutionJudged.handoverRefused := by
  obtain ⟨hjudged, hangle, hruns, hobserver, henabled, hdisc, hglide, hfew⟩ := h
  simp only [exec, execPostmarkAngleHandover, hjudged, hangle]
  refine (if_pos (by simp [hruns, hobserver, henabled, hdisc, hglide, hfew, State.on])).trans ?_
  rw [State.handoverRefused, apply_ite Host.Outcome.next]
  rfl

theorem exec_postmarkGlideEnd {s : State} (hglide : s.spn.glide = true) (harrived : s.motor.off = 0) :
    exec .postmarkGlideEnd s = .next
      ((((s.set Reg.SPN_STATUS_ANGLE_SRC 2).set Reg.SPN_COUNTS_REFUSALS 0).putSpn { s.spn with glide := false }).reply 0 0 0xA3 [2]) :=
  if_pos (by simp [hglide, harrived])

/-- An observer loss that is confirmed at or above the handover speed is acted on while the loop runs or brakes (R236, R237). -/
theorem exec_observerLost {s : State} (hconfirmed : max 1 (s.get Reg.SPN_OBS_OBS_CONFIRM) ≤ s.motor.lost) (hfast : s.handover ≤ s.speed)
    (hstate : s.spSt = 5 ∨ s.spSt = 6) : exec .observerLost s = .next s.observerLost := by
  have hnoSwap : s.spSt ≠ 9 := by omega
  refine (if_pos ?_).trans ((if_neg (by simpa using hnoSwap)).trans (if_pos (by simpa using hstate)))
  rw [decide_eq_true hconfirmed, decide_eq_true hfast, Bool.and_self]

theorem exec_catchCoastEnd {s : State} (hcoasts : s.spSt = 7) (hlost : s.spn.catchLeft.isSome = true) (helapsed : 2000000 ≤ s.stateNs) :
    exec .catchCoastEnd s = .next (s.setSp 8).unloadCheck :=
  if_pos (by simp [hcoasts, hlost, helapsed])

theorem exec_spindleDutyWatchdog {s : State} (hpwm : s.invMode = 1) (hquiet : max 1 (s.get Reg.SPN_BRAKE_WD_TICKS) ≤ s.spn.quiet) :
    exec .spindleDutyWatchdog s = .next ((s.coast.set Reg.SPN_STATUS_WD_EXPIRED 1).spFault 0 0x05) := by
  refine if_pos ?_
  rw [hpwm, decide_eq_true hquiet, beq_self_eq_true, Bool.and_self]

/-! ### The drive bus -/

theorem exec_fluxBrakeEnter {busMv : Nat} {s : State} (hpwm : s.invMode = 1) (hhigh : dbusMv (s.get Reg.PWR_DBUS_LVL_FLUX) ≤ busMv)
    (hoff : s.get Reg.SPN_STATUS_FLUX_BRAKE = 0) (henabled : s.get Reg.SPN_STATUS_DISABLED = 0) :
    exec (.fluxBrakeEnter busMv) s = .next (((s.set Reg.SPN_STATUS_FLUX_BRAKE 1).inc Reg.SPN_COUNTS_FLUX_EVENTS).set (Reg.CRE_X 2)
      (unsigned 32 (-((s.get Reg.SPN_CURR_ID_FLUX * 20 * 65536 / 1000 : Nat) : Int)))) :=
  if_pos (by simp [hpwm, hhigh, hoff, henabled, State.on])

theorem exec_fluxBrakeLeave {busMv : Nat} {s : State} (hon : s.get Reg.SPN_STATUS_FLUX_BRAKE ≠ 0)
    (hlow : busMv + 500 ≤ dbusMv (s.get Reg.PWR_DBUS_LVL_FLUX)) :
    exec (.fluxBrakeLeave busMv) s = .next ((s.set Reg.SPN_STATUS_FLUX_BRAKE 0).set (Reg.CRE_X 2) 0) :=
  if_pos (by simp [hon, hlow, State.on])

/-- A rotor that turns coasts; in any other state the switches open and the state stays (R241). -/
theorem exec_inverterDisable {busMv : Nat} {s u : State} (hhigh : dbusMv (s.get Reg.PWR_DBUS_LVL_DISABLE) ≤ busMv)
    (henabled : s.get Reg.SPN_STATUS_DISABLED = 0) (hpowered : s.pdOn 27 = true)
    (hu : u = ((s.set Reg.SPN_STATUS_DISABLED 1).inc Reg.SPN_COUNTS_DISABLES).set Reg.SPN_INT_DISABLED 1) :
    exec (.inverterDisable busMv) s = .next (if 2 ≤ s.spSt ∧ s.spSt ≤ 9 then u.coast else u.setInv 0) := by
  subst hu
  refine (if_pos (by simp [hhigh, henabled, hpowered, State.on])).trans ?_
  simp only [Bool.and_eq_true, decide_eq_true_iff, apply_ite Host.Outcome.next]

/-- The loop resumes from the postmark angle where the postmark is locked, and through a catch where it is not (R241). -/
theorem exec_inverterReenable {busMv us : Nat} {s u : State} (hdisabled : s.get Reg.SPN_STATUS_DISABLED ≠ 0)
    (hlow : busMv + 1000 ≤ dbusMv (s.get Reg.PWR_DBUS_LVL_FLUX)) (hlong : 1000 ≤ us) (hu : u = s.set Reg.SPN_STATUS_DISABLED 0)
    (hcoasts : u.spSt = 7) (htaken : u.spn.taken = true) :
    exec (.inverterReenable busMv us) s = .next (if u.pmkLocked then
      (((u.setInv 1).setSp (if u.spn.method != 0 then 6 else 5)).set Reg.SPN_STATUS_ANGLE_SRC 2) else u.setSp 8) := by
  subst hu
  rw [apply_ite Host.Outcome.next]
  exact (if_pos (by simp [hdisabled, hlow, hlong, State.on])).trans (if_pos (by simp only [hcoasts, htaken]; rfl))

/-! ### The legs -/

/-- A leg fault as it is marked and told (R242). -/
def State.legTold (s : State) (leg : Nat) : State :=
  ((s.setBit Reg.SPN_LEGS_LEG_FAULTS leg true).set Reg.SPN_INT_LEG_FAULT 1).event 0x28 0x08 0 0x28

/-- Leg S cannot stand in for a leg (R244): it is the one that failed, is in use or faulty, or a substitution runs. -/
def State.NoSpareFor (u : State) (leg : Nat) : Prop :=
  leg = 3 ∨ u.get Reg.SPN_STATUS_SPARE_LEG ≠ 0 ∨ u.bit Reg.SPN_LEGS_LEG_FAULTS 3 = true ∨ u.spSt = 9

/-- The condition of `NoSpareFor` as a leg fault tests it. -/
theorem noSpareFor_iff {u : State} {leg : Nat} :
    (leg == 3 || u.on Reg.SPN_STATUS_SPARE_LEG || u.bit Reg.SPN_LEGS_LEG_FAULTS 3 || u.spSt == 9) = true ↔ u.NoSpareFor leg := by
  simp only [State.NoSpareFor, State.on, Bool.or_eq_true, beq_iff_eq, bne_iff_ne, or_assoc]

theorem exec_legFault_substitutes {leg : Nat} {s u v : State} (hleg : leg < 4) (hpowered : s.pdOn 27 = true) (hu : u = s.legTold leg)
    (hspare : ¬u.NoSpareFor leg)
    (hv : v = ((u.putSpn { u.spn with swap := some leg, swapStart := 2 ≤ u.spSt && u.spSt ≤ 4, lossAfter := false }).setInv 0).setSp 9) :
    exec (.legFault leg) s = .next (if v.pmkLocked then v else v.set Reg.SPN_STATUS_ANGLE_SRC 3) := by
  rw [State.legTold] at hu
  simp only [exec, execLegFault, ← hu, ← hv]
  rw [if_pos (by simp [hleg, hpowered]), if_neg (mt noSpareFor_iff.1 hspare), apply_ite Host.Outcome.next]

theorem exec_legFault_givesUp {leg : Nat} {s u v : State} (hleg : leg < 4) (hpowered : s.pdOn 27 = true) (hu : u = s.legTold leg)
    (hnone : u.NoSpareFor leg) (hv : v = u.coast.notAtSpeed.spFault (u.spn.startTag.getD 0) 0x04) :
    exec (.legFault leg) s = .next ((v.putSpn { v.spn with startTag := none, swap := none, catchLeft := none }).emUnloadAll 0x1) := by
  rw [State.legTold] at hu
  simp only [exec, execLegFault, ← hu]
  rw [if_pos (by simp [hleg, hpowered]), if_pos (noSpareFor_iff.2 hnone), hv]

/-- A start that the substitution interrupted begins again from sensing (R243). -/
theorem exec_spareLegReady_start {leg : Nat} {s u : State} (hswap : s.spn.swap = some leg) (hstate : s.spSt = 9)
    (hu : u = ((s.set Reg.SPN_STATUS_SPARE_LEG (leg + 1)).set Reg.SYS_SPARES_SPARE_LEG (leg + 1)).reply 0 0 0xA5 [leg + 1])
    (hstart : u.spn.swapStart = true) :
    exec .spareLegReady s = .next
      ((u.putSpn { u.spn with swap := none, lossAfter := false, quiet := 0 }).putMotor { u.motor with riseAt := u.tick, riseTicks := 8 }).sense := by
  subst hu
  simp only [exec, execSpareLegReady, hswap]
  exact (if_pos (beq_iff_eq.2 hstate)).trans (if_pos hstart)

/-! ### The stop -/

theorem exec_spindleStopped {tag : Nat} {s u : State} (henabled : s.get Reg.SPN_CTRL_ENABLE ≠ 0) (hstate : s.spSt = 6 ∨ s.spSt = 7)
    (hwait : s.spn.retryWait = false) (hquiet : 2000000000 ≤ s.quietNs) (howed : s.spn.stopTag = some tag)
    (hu : u = ((((s.setInv 0).setSp 1).set Reg.SPN_SPEED_SPEED 0).set (Reg.CRE_X 0) 0).set Reg.SPN_STATUS_ANGLE_SRC 0)
    (hkept : u.spn = s.spn) :
    exec .spindleStopped s = .next ((u.putSpn { s.spn with
      stopTag := none, method := 0, brake := false, byX32 := false, catchLeft := none, startTag := none }).reply 0 tag 0xA2
      [s.spn.method, u.tick - s.spn.stopTick]) := by
  subst hu
  refine (if_pos (by simpa [henabled, hwait, hquiet, State.on] using hstate)).trans ?_
  simp only [hkept, howed, State.putSpn_tick]

/-- Settles O28, command by command; a handover by how the mean and the spread are judged. -/
theorem spindleProtectionsRun : Obligations.SpindleProtectionsRun := by
  refine ⟨fun mean spread pm s u hjudged hangle hruns hobserver henabled hdisc hglide hfew hmean hspread hu => ?_,
    fun mean spread pm s hjudged hangle hruns hobserver henabled hdisc hglide hfew hmean hspread => ?_,
    fun mean spread pm s m u hjudged hangle hruns hobserver henabled hdisc hglide hfew hmean hm hu => ?_, fun _ => exec_postmarkGlideEnd,
    fun _ => exec_observerLost, fun _ => exec_catchCoastEnd, fun _ => exec_spindleDutyWatchdog, fun _ _ => exec_fluxBrakeEnter,
    fun _ _ => exec_fluxBrakeLeave, fun _ _ _ => exec_inverterDisable, fun _ _ _ _ => exec_inverterReenable,
    fun leg s u v hleg hpowered hu hfree hsound hstate => ?_, fun _ _ _ _ => exec_legFault_givesUp, fun _ _ _ => exec_spareLegReady_start,
    fun _ _ _ => exec_spindleStopped⟩
  · subst hu
    exact (exec_postmarkAngleHandover ⟨hjudged, hangle, hruns, hobserver, henabled, hdisc, hglide, hfew⟩).trans
      ((if_pos hmean).trans (if_pos hspread))
  · exact (exec_postmarkAngleHandover ⟨hjudged, hangle, hruns, hobserver, henabled, hdisc, hglide, hfew⟩).trans
      ((if_pos hmean).trans (if_neg (Nat.not_le.2 hspread)))
  · subst hu hm
    exact (exec_postmarkAngleHandover ⟨hjudged, hangle, hruns, hobserver, henabled, hdisc, hglide, hfew⟩).trans
      (if_neg (Nat.not_le.2 hmean))
  · have hspare : ¬u.NoSpareFor leg := by simp [State.NoSpareFor, hfree, hsound, hstate, Nat.ne_of_lt hleg]
    exact exec_legFault_substitutes (by omega) hpowered hu hspare

end Sys2Proof.Machine
end

section
/-!
The loss of the mains (O3, R250, R254 to R258, R263): the warning, recovery, the declaration and what follows it, by an equation each, under
what makes the command act.
-/
namespace Sys2Proof.Machine

/-! ### The warning and recovery -/

/-- Any one of the three signs gives the warning (R254): a silent input, which DC mode judges by 1 ms (R250), or a low bulk bus. -/
theorem exec_mainsLostWarning {silentMs bulk : Nat} {s : State} (hphase : s.get Reg.PWR_STATUS_PHASE = 1)
    (hsign : s.get Reg.PWR_STATUS_DC_MODE = 0 ∧ s.zcMs ≤ silentMs ∨ s.get Reg.PWR_STATUS_DC_MODE ≠ 0 ∧ 1 ≤ silentMs ∨
      bulk < s.warnLevel) :
    exec (.mainsLostWarning silentMs bulk) s = .next s.warn := by
  refine if_pos ?_
  rw [State.phase, hphase, State.on]
  rcases hsign with ⟨hac, hsilent⟩ | ⟨hdc, hsilent⟩ | hbulk
  · simp [hac, hsilent]
  · simp [hdc, hsilent]
  · simp [hbulk]

/-- A warning that recovery ends (R256): the phase is normal again, and the ride-through is counted and told. -/
def State.rideThrough (s : State) : State :=
  ((s.set Reg.PWR_STATUS_PHASE 1).inc Reg.PWR_COUNTS_RIDE_THROUGHS).set Reg.PWR_INT_RECOVERED 1

/-- The bulk bus above REC_V for REC_MS, with mains present (R256), is answered by the phase it finds. -/
theorem exec_recoveryMet {bulk heldMs : Nat} {s : State} (hbulk : s.recLevel < bulk) (hheld : s.recMs ≤ heldMs) :
    exec (.recoveryMet bulk heldMs true) s =
      if s.get Reg.PWR_STATUS_PHASE = 2 then
        .next (if s.pwr.flushing then s.rideThrough else s.rideThrough.set Reg.HQ_CTRL_WR_FREEZE 0).ledgerPower
      else if s.get Reg.PWR_STATUS_PHASE = 3 then .next { s.set Reg.PWR_INT_RECOVERED 1 with pwr := { s.pwr with recovered := true } }
      else if s.get Reg.PWR_STATUS_PHASE = 4 then .next s.brownout
      else .next s :=
  if_neg (by simp [hbulk, hheld])

/-! ### The declaration and what follows it -/

/-- While a flush runs the rotor is left turning (R263). -/
theorem rotor_kept_of_flushing {t : State} (h : t.pwr.flushing = true) :
    (if t.pwr.flushing || !t.pdOn 27 || t.spSt = 0 then t else t.notAtSpeed.coast) = t :=
  if_pos (by simp [h])

theorem exec_powerLossDeclared_flushing {bulk mv : Nat} {s u : State} (hphase : s.get Reg.PWR_STATUS_PHASE = 2)
    (hsign : s.pwr.warnMs + s.lossMs ≤ s.ms ∨ bulk < s.lossLevel ∨ s.headsAtRisk = true ∨ mv < 21000)
    (hu : u = ({ ((s.set Reg.PWR_STATUS_PHASE 3).inc Reg.PWR_COUNTS_DECLARED).set Reg.PWR_INT_DECLARED 1 with
      pwr := { s.pwr with declaredMs := s.ms } }).emUnloadAll 0x2)
    (hflush : (u.host.cmds.foldl (fun t p => t.answer p.1 interrupted) u).pwr.flushing = true) :
    exec (.powerLossDeclared bulk mv) s =
      .next (u.host.cmds.foldl (fun t p => t.answer p.1 interrupted) u).ledgerPower.latchedAfterDeclaration := by
  subst hu
  refine (if_pos (by simpa [State.phase, hphase, or_assoc] using hsign)).trans ?_
  exact congrArg (fun t : State => Host.Outcome.next t.ledgerPower.latchedAfterDeclaration) (rotor_kept_of_flushing hflush)

theorem exec_declaredDomainShutoff {s : State} (hphase : s.get Reg.PWR_STATUS_PHASE = 3) (hwait : s.pwr.declaredMs + 10 ≤ s.ms) :
    exec .declaredDomainShutoff s = .next (s.endAll.pdAllOff [18, 19, 20, 0, 1, 2, 3, 4, 5, 6, 7, 8, 9, 10, 24]) :=
  if_pos (by simp [State.phase, hphase, hwait])

theorem exec_flushDone {i : Initiator} {s : State} (hr : s.reaches i 0x40300000 = true) (hflush : s.pwr.flushing = true) :
    exec (.flushDone i) s = .next { s.flushDone with bus := .written } := by
  simp only [exec, execFlushDone, access_of_reaches hr, if_pos hflush, ok]

theorem exec_brownoutReset {bulk mv us : Nat} {s : State} (hup : s.pwr.llc = true ∨ s.get Reg.PWR_STATUS_PHASE ≠ 0)
    (hlow : bulk ≤ 1900 ∨ (s.pwr.llc = true ∧ mv < 18000 ∧ 1000 ≤ us ∧ bulk ≤ 2500)) :
    exec (.brownoutReset bulk mv us) s = .next s.brownout := by
  refine if_pos (Bool.and_eq_true_iff.2 ⟨by simpa [State.phase] using hup, ?_⟩)
  rcases hlow with hbulk | ⟨hllc, hbus, hheld, hbulk⟩
  · simp [hbulk]
  · simp [hllc, hbus, hheld, hbulk]

/-- Settles O3, command by command; recovery by the phase, and in the warning by whether a flush runs. -/
theorem mainsLossRuns : Obligations.MainsLossRuns := by
  refine ⟨fun _ _ _ hphase hac hsilent => exec_mainsLostWarning hphase (.inl ⟨hac, hsilent⟩),
    fun _ _ _ hphase hbulk => exec_mainsLostWarning hphase (.inr (.inr hbulk)),
    fun bulk heldMs s hbulk hheld hphase hflush => ?_, fun bulk heldMs s hbulk hheld hphase hflush => ?_,
    fun bulk heldMs s hbulk hheld hphase => ?_, fun _ _ _ _ => exec_powerLossDeclared_flushing, fun _ => exec_declaredDomainShutoff,
    fun _ _ => exec_flushDone, fun _ _ _ _ => exec_brownoutReset⟩
  · rw [exec_recoveryMet hbulk hheld, if_pos hphase, hflush, if_neg Bool.false_ne_true, State.rideThrough]
  · rw [exec_recoveryMet hbulk hheld, if_pos hphase, if_pos hflush, State.rideThrough]
  · rw [exec_recoveryMet hbulk hheld, if_neg (by simp [hphase]), if_pos hphase]

end Sys2Proof.Machine
end

section
/-!
The chopper (O5, R264, R265, R271): an equation for each command, and for CHOP_FAULT the registers it sets.
-/
namespace Sys2Proof.Machine

theorem chopFault_eq_set (s : State) :
    s.chopFault = ((s.set Reg.PWR_STATUS_CHOP_FAULT 1).set Reg.PWR_STATUS_CHOP_ON 0).set Reg.PWR_INT_CHOP_FAULT 1 := rfl

theorem exec_chopperGateClose {mv : Nat} {s : State} (hrating : mv ≤ 33000)
    (hlevel : 20000 + 100 * s.get Reg.PWR_DBUS_LVL_CHOP_ON ≤ mv) (hopen : s.get Reg.PWR_STATUS_CHOP_ON = 0)
    (hsound : s.get Reg.PWR_STATUS_CHOP_FAULT = 0) :
    exec (.chopperGateClose mv) s = .next ((s.set Reg.PWR_STATUS_CHOP_ON 1).inc Reg.PWR_COUNTS_CHOP_EVENTS) :=
  (if_neg (Nat.not_lt.2 hrating)).trans (if_pos (by simp [State.on, hlevel, hopen, hsound]))

theorem exec_chopperGateOpen {mv : Nat} {s : State} (hlevel : mv < 20000 + 100 * s.get Reg.PWR_DBUS_LVL_CHOP_OFF) :
    exec (.chopperGateOpen mv) s = .next (s.set Reg.PWR_STATUS_CHOP_ON 0) :=
  if_pos hlevel

/-- With the gate closed, a current below half of what the bus drives through 10 Ω for 20 µs is the fault (R265). -/
theorem exec_chopFaultDetected_closed {mv ma us : Nat} {rising : Bool} {s : State} (hclosed : s.get Reg.PWR_STATUS_CHOP_ON ≠ 0)
    (hlow : 20 * ma < mv) (hheld : 20 ≤ us) : exec (.chopFaultDetected mv ma us rising) s = .next s.chopFault :=
  if_pos (by simp [State.on, hclosed, hlow, hheld])

/-- With the gate open, any current is the fault (R265). -/
theorem exec_chopFaultDetected_open {mv ma us : Nat} {rising : Bool} {s : State} (hopen : s.get Reg.PWR_STATUS_CHOP_ON = 0)
    (hflows : 0 < ma) : exec (.chopFaultDetected mv ma us rising) s = .next s.chopFault :=
  if_pos (by simp [State.on, hopen, hflows])

theorem exec_chopTest_normal {i : Initiator} {passes : Bool} {s : State} (hr : s.reaches i 0x40300000 = true)
    (hphase : s.get Reg.PWR_STATUS_PHASE = 1) :
    exec (.chopTest i passes) s = .next { (if passes then s.inc Reg.PWR_COUNTS_CHOP_EVENTS
      else (s.inc Reg.PWR_COUNTS_CHOP_EVENTS).chopFault) with bus := .written } :=
  congrArg Host.Outcome.next ((access_of_reaches hr).trans (if_neg (by simp [State.phase, hphase])))

theorem exec_chopTest_ignored {i : Initiator} {passes : Bool} {s : State} (hr : s.reaches i 0x40300000 = true)
    (hphase : s.get Reg.PWR_STATUS_PHASE ≠ 1) : exec (.chopTest i passes) s = .next (s.ignored i 0x40300000) :=
  congrArg Host.Outcome.next ((access_of_reaches hr).trans (if_pos (bne_iff_ne.2 hphase)))

/-- Settles O5, command by command; a fault by the registers it sets, and a test by whether it passes. -/
theorem chopperRuns : Obligations.ChopperRuns := by
  refine ⟨fun _ _ => exec_chopperGateClose, fun _ _ => exec_chopperGateOpen, fun mv ma us s hclosed hlow hheld => ?_,
    fun mv ma us rising s hopen hflows => ?_, fun i s hr hphase => ?_, fun i s hr hphase => ?_, fun _ _ _ => exec_chopTest_ignored⟩
  · rw [exec_chopFaultDetected_closed hclosed hlow hheld, chopFault_eq_set]
  · rw [exec_chopFaultDetected_open hopen hflows, chopFault_eq_set]
  · rw [exec_chopTest_normal hr hphase, if_pos rfl]
  · rw [exec_chopTest_normal hr hphase, if_neg Bool.false_ne_true, chopFault_eq_set]

end Sys2Proof.Machine
end

section
/-!
The frames of the Kerrex bus (O29, R282 to R286, R288 to R290, R293, R294): an equation for each command, under what makes it act; of the
postmaster and a candidate that hear a lower slot, one equation each.
-/
namespace Sys2Proof.Machine

/-! ### Cycles and beacons -/

theorem exec_kerrexCycleStart {slots : Sparse KxSlot} {n : Nat} {k : Krx} {s u : State} (hpostmaster : s.role = 3)
    (hsend : s.maySend = true)
    (hslots : slots = s.krx.slots.map fun p => (p.1, { p.2 with before := p.2.now, now := false, age := p.2.age + 1 }))
    (hn : n = if s.krx.crcThis then s.krx.crcCycles + 1 else 0)
    (hk : k = { s.krx with slots := slots, cycle := (s.krx.cycle + 1) % 65536, census := s.krx.census - 1 })
    (hu : u = s.putKrx { k with due := true, crcCycles := n, crcThis := false }) :
    exec .kerrexCycleStart s = .next (u.set Reg.FRK_PM_HEARD (slots.filter fun p => p.2.before).length).sendBeacon := by
  subst hslots hn hk hu
  exact if_pos (by simp [hpostmaster, hsend])

/-- A frame that a receiver keeps is of the type that the handler takes. -/
theorem frameKept {f : List Nat} {inSlot : Bool} {type : Nat} (hf : frameOk f inSlot = true) (htype : fb f 1 = type) :
    ¬(!(frameOk f inSlot && fb f 1 == type)) = true := by
  simp [hf, htype]

theorem exec_beaconReceived_solo {f : List Nat} {s : State} (hf : frameOk f true = true) (htype : fb f 1 = 1) (hsolo : s.solo = true) :
    exec (.beaconReceived f) s = .next (s.set Reg.FRK_STATUS_BUS_ACTIVE 1) :=
  (if_neg (frameKept hf htype)).trans (if_pos hsolo)

/-- The beacon of a slot is heard: the line is not silent, and the slot is among those heard (R288). -/
def State.beaconHeard (s : State) (src : Nat) : State :=
  s.putKrx { s.krx with heard := sIns s.krx.heard src 0, lineNs := s.clockNs, beaconNs := s.clockNs }

/-- A follower goes on following the lowest slot heard, whose beacon it is (R288). -/
theorem exec_beaconReceived_follower {f : List Nat} {s u : State} (hf : frameOk f true = true) (htype : fb f 1 = 1)
    (hbook : s.solo = false) (hu : u = s.beaconHeard (fb f 2 % 64)) (hrole : u.role = 1)
    (hlowest : u.lowestHeard = some (fb f 2 % 64)) (hfollowed : u.get Reg.FRK_STATUS_PM_SLOT = fb f 2 % 64) :
    exec (.beaconReceived f) s = .next ((u.setRole 1 (fb f 2 % 64)).followBeacon f) := by
  rw [State.beaconHeard] at hu
  refine (if_neg (frameKept hf htype)).trans ((if_neg (by simp [hbook])).trans ?_)
  simp [← hu, hrole, hlowest, hfollowed, ok]

/-- A postmaster that hears the beacon of a lower slot gives way and follows it (R289). -/
theorem exec_beaconReceived_postmaster {f : List Nat} {s u : State} (hf : frameOk f true = true) (htype : fb f 1 = 1)
    (hbook : s.solo = false) (hu : u = s.beaconHeard (fb f 2 % 64)) (hrole : u.role = 3) (hlower : fb f 2 % 64 < u.slot) :
    exec (.beaconReceived f) s = .next ((u.abdicate.setRole 1 (fb f 2 % 64)).followBeacon f) := by
  subst hu
  exact (if_neg (frameKept hf htype)).trans ((if_neg (by simp [hbook])).trans ((if_pos hrole).trans (if_pos hlower)))

/-! ### STATUS -/

theorem exec_statusSlot {aged : Sparse Nat} {s u : State}
    (haged : aged = (s.krx.heard.map fun p => (p.1, p.2 + 1)).filter fun p => decide (p.2 ≤ 3)) (hdue : s.krx.due = true)
    (hsend : s.maySend = true) (hrole : s.role ≠ 3) (hu : u = s.sendFrame 0x02 s.statusPayload) :
    exec .statusSlot s =
      .next ((u.putKrx { u.krx with due := false, wakeSent := s.on Reg.FRK_WAKE_GO, heard := aged }).set Reg.FRK_WAKE_GO 0) := by
  subst haged hu
  exact (if_pos (by simp [hdue, hsend])).trans (if_neg hrole)

theorem exec_statusReceived {f : List Nat} {inSlot : Bool} {s u : State} (hf : frameOk f inSlot = true) (htype : fb f 1 = 2)
    (hbook : s.solo = false) (hpostmaster : s.role = 3)
    (hu : u = (if fw f 6 ≠ s.get Reg.FRK_BOOK_BOOK_GEN then s.set Reg.FRK_STATUS_BOOK_MISMATCH 1 else s).heardStatus f) :
    exec (.statusReceived f inSlot) s = .next (if fb f 15 = u.slot ∨ fb f 15 = 0x40 then u.leaveShelfHold else u) := by
  refine (if_neg (frameKept hf htype)).trans ((if_neg (by simp [hbook])).trans ?_)
  simp only [hpostmaster, if_true, bne_iff_ne, ← hu, Bool.or_eq_true, decide_eq_true_iff, apply_ite Host.Outcome.next, ok]

/-! ### Claims and discarded frames -/

/-- The claim of a lower slot: a postmaster abdicates, a candidate is a listener again, and another drive stays as it is (R288, R289). -/
theorem exec_claimReceived_lower {f : List Nat} {s u : State} (hf : frameOk f true = true) (htype : fb f 1 = 3)
    (hbook : s.solo = false) (hu : u = s.putKrx { s.krx with lineNs := s.clockNs }) (hlower : fb f 2 % 64 < u.slot) :
    exec (.claimReceived f) s = .next (if u.role = 3 then u.abdicate else
      if u.role = 2 then u.setRole 0 (u.get Reg.FRK_STATUS_PM_SLOT) else u) := by
  refine (if_neg (frameKept hf htype)).trans ((if_neg (by simp [hbook])).trans ?_)
  simp only [← hu, hlower, decide_true, Bool.and_true, decide_eq_true_iff, apply_ite Host.Outcome.next, ok]

theorem exec_kerrexFrameDiscard {f : List Nat} {inSlot explained : Bool} {s u : State} (hf : frameOk f inSlot = false)
    (hu : u = s.inc Reg.FRK_COUNTS_CRC_ERRORS) :
    exec (.kerrexFrameDiscard f inSlot explained) s =
      .next (if explained = true then u else u.putKrx { u.krx with crcThis := true }) := by
  subst hu
  exact (if_neg (by simp [hf])).trans (apply_ite Host.Outcome.next _ _ _).symm

/-- Settles O29, command by command; the claim of a lower slot by the role that hears it. -/
theorem kerrexFramesRun : Obligations.KerrexFramesRun := by
  refine ⟨fun _ _ _ _ _ => exec_kerrexCycleStart, fun _ _ => exec_beaconReceived_solo, fun _ _ _ => exec_beaconReceived_follower,
    fun _ _ _ => exec_beaconReceived_postmaster, fun _ _ _ => exec_statusSlot, fun _ _ _ _ => exec_statusReceived,
    fun f s u hf htype hbook hu hrole hlower => ?_, fun f s u hf htype hbook hu hrole hlower => ?_,
    fun _ _ _ _ _ => exec_kerrexFrameDiscard⟩
  · rw [exec_claimReceived_lower hf htype hbook hu hlower, if_pos hrole]
  · rw [exec_claimReceived_lower hf htype hbook hu hlower, if_neg (by simp [hrole]), if_pos hrole]

end Sys2Proof.Machine
end

section
/-!
The election, the purse and shelf-hold (O30, R275, R281, R287 to R291, R294): an equation for each command, under what makes it act; of
HOLD_ENTER, the equation keeps the branch on BASE.
-/
namespace Sys2Proof.Machine

/-! ### The election -/

theorem exec_electionBackoffExpiry {s u : State} (hsend : s.maySend = true) (heligible : s.eligible = true) (hnotPm : s.role ≠ 3)
    (hnotCandidate : s.role ≠ 2) (hsilent : s.krx.lineNs + 50000000 + 250000 * s.slot ≤ s.clockNs)
    (hu : u = s.setRole 2 (s.get Reg.FRK_STATUS_PM_SLOT)) :
    exec .electionBackoffExpiry s = .next (u.sendFrame 0x03 (leBytes 2 (u.get Reg.FRK_BOOK_BOOK_GEN))) := by
  subst hu
  exact if_pos (by simp [hsend, heligible, hnotPm, hnotCandidate, hsilent])

theorem exec_claimConfirm {k : Krx} {s u : State} (hcandidate : s.role = 2)
    (hk : k = { s.krx with slots := [], queue := [], census := 3, granting := false, unheard2s := false, crcCycles := 0 })
    (hu : u = s.putKrx { k with crcThis := false, due := true, lastGseq := 0, officeNs := s.clockNs }) :
    exec .claimConfirm s = .next (u.setRole 3 u.slot).sendBeacon := by
  subst hk hu
  exact if_pos hcandidate

theorem exec_transmitMismatch_claim {s u : State} (hu : u = s.putKrx { s.krx with seq := (s.krx.seq + 255) % 256 })
    (hcandidate : u.role = 2) :
    exec (.transmitMismatch 3) s =
      .next ((u.putKrx { u.krx with lineNs := u.clockNs }).setRole 0 (u.get Reg.FRK_STATUS_PM_SLOT)) := by
  subst hu
  exact if_pos (by simp [hcandidate])

/-- The wake that a STATUS carried is owed again where the STATUS was not sent (R281, R294). -/
theorem exec_transmitMismatch_wake {s u : State} (hu : u = s.putKrx { s.krx with seq := (s.krx.seq + 255) % 256 })
    (hsent : u.krx.wakeSent = true) :
    exec (.transmitMismatch 2) s = .next ((u.set Reg.FRK_WAKE_GO 1).putKrx { u.krx with wakeSent := false }) := by
  subst hu
  exact if_pos (by simpa using hsent)

/-! ### The postmaster in office -/

theorem exec_censusEnd {s : State} (hpostmaster : s.role = 3) (hover : s.krx.census = 0) :
    exec .censusEnd s = .next (s.putKrx { s.krx with granting := true }) :=
  if_pos (by simp [hpostmaster, hover])

theorem exec_unheardSlotTimeout {s : State} (hpostmaster : s.role = 3) (helapsed : s.krx.officeNs + 2000000000 ≤ s.clockNs) :
    exec .unheardSlotTimeout s = .next (s.putKrx { s.krx with unheard2s := true }) :=
  if_pos (by simp [hpostmaster, helapsed])

theorem exec_crcAbdication {s u : State} (hpostmaster : s.role = 3) (hcycles : 8 ≤ s.krx.crcCycles) (hu : u = s.abdicate) :
    exec .crcAbdication s = .next (u.putKrx { u.krx with ineligible := true, crcCycles := 0, abdicatedNs := u.clockNs }) := by
  subst hu
  exact if_pos (by simp [hpostmaster, hcycles])

theorem exec_eligibilityRestore {s : State} (helapsed : s.krx.abdicatedNs + 100000000 ≤ s.clockNs) :
    exec .eligibilityRestore s = .next (s.putKrx { s.krx with ineligible := false }) :=
  if_pos helapsed

/-! ### The lapse and the purse -/

theorem exec_lapse {fit : Nat} {s u v : State} (hbook : s.solo = false) (hnotPm : s.role ≠ 3)
    (hsecond : s.krx.beaconNs + 1000000000 ≤ s.clockNs ∨ s.krx.seenNs + 1000000000 ≤ s.clockNs)
    (hnew : s.get Reg.FRK_STATUS_LAPSED = 0)
    (hu : u = ((s.set Reg.FRK_STATUS_LAPSED 1).set Reg.FRK_INT_LAPSED 1).inc Reg.FRK_COUNTS_SHEDS)
    (hfit : fit = u.get Reg.FRK_BOOK_LIM_UNHEARD - u.fixedCommit)
    (hv : v = u.putBooks { u.books with spinup := u.books.spinup.map (min fit), atSpeed := u.books.atSpeed.map (min fit) }) :
    exec .lapse s =
      .next (v.set Reg.FRK_TARGET_TARGET (min (v.get Reg.FRK_TARGET_TARGET) (v.get Reg.FRK_BOOK_LIM_UNHEARD))).shed := by
  subst hu hfit hv
  exact if_pos (by simpa [hbook, hnotPm, hnew, State.on] using hsecond)

theorem exec_frkTargetWrite {i : Initiator} {v : Nat} {s : State} (hr : s.reaches i 0x4031000C = true) :
    exec (.frkTargetWrite i v) s =
      .next { (s.set Reg.FRK_TARGET_TARGET (min v s.targetMax)).followTarget with bus := .written } :=
  congrArg Host.Outcome.next (access_of_reaches hr)

/-! ### Wakes and shelf-hold -/

theorem exec_wakeSend {i : Initiator} {all : Bool} {slot : Nat} {s : State} (hr : s.reaches i 0x40310018 = true) :
    exec (.wakeSend i all slot) s =
      .next { s.setAll [(Reg.FRK_WAKE_GO, 1), (Reg.FRK_WAKE_ALL, b2n all), (Reg.FRK_WAKE_SLOT, slot)] with bus := .written } :=
  congrArg Host.Outcome.next (access_of_reaches hr)

/-- Shelf-hold begins: no association and no envelope is left, and of the domains the DRAM's alone (R269, R294). -/
def State.shelfHeld (s : State) : State :=
  let u := s.endAll.noEnvelope.pdAllOff ((List.range 30).filter fun n => n != 28)
  u.putKrx { u.krx with shelfHold := true }

theorem exec_holdEnter {i : Initiator} {s : State} (hr : s.reaches i 0x40310000 = true) :
    exec (.holdEnter i) s =
      .next { (if s.get Reg.FRK_BOOK_LIM_BASE < s.hold then s else s.shelfHeld) with bus := .written } :=
  congrArg Host.Outcome.next ((access_of_reaches hr).trans (apply_ite (fun t : State => { t with bus := .written }) _ _ _).symm)

/-- Settles O30, command by command; HOLD_ENTER by whether H lies within BASE. -/
theorem kerrexElectionAndPurseRun : Obligations.KerrexElectionAndPurseRun := by
  refine ⟨fun _ _ => exec_electionBackoffExpiry, fun _ _ _ => exec_claimConfirm, fun _ _ => exec_transmitMismatch_claim,
    fun _ _ => exec_transmitMismatch_wake, fun _ => exec_censusEnd, fun _ => exec_unheardSlotTimeout, fun _ _ => exec_crcAbdication,
    fun _ => exec_eligibilityRestore, fun _ _ _ _ => exec_lapse, fun _ _ _ => exec_frkTargetWrite, fun _ _ _ _ => exec_wakeSend,
    fun i s u hr hwithin hu => ?_, fun i s hr habove => ?_⟩
  · rw [exec_holdEnter hr, if_neg (Nat.not_lt.2 hwithin), State.shelfHeld, ← hu]
  · rw [exec_holdEnter hr, if_pos habove]

end Sys2Proof.Machine
end

section
/-!
Namespaces, Format, Sanitize, Head Service, Shelf Service and Drive Format (O47, R294, R298, R348, R351, R352, R354, R360, R362, R381, R382,
R384): an equation for each command that is ready to be carried out, in the cases of the statement.
-/
namespace Sys2Proof.Machine

section
variable {serial : Nat} {c : Cmd} {s : State}

/-! ### Namespaces -/

/-- The key of a slot is kept wrapped for its namespace, where it can be wrapped (R360). -/
def State.keepKey (s : State) (slot nsid : Nat) : State :=
  match s.wrapped slot with
  | some w => s.saveDev fun d => { d with keys := sIns d.keys slot (nsid, w) }
  | none => s

theorem exec_namespaceCreate {k csi size parcels lpn : Nat} {n : Ns} {v : State} (h : s.AdminReady serial 0x0D c)
    (hcreate : c.cap.w 10 % 16 = 0) (hcsi : csi = c.cap.w 11 / 2 ^ 24) (hsize : size = ofBytes ((s.cmdData c).take 8))
    (hparcels : nsParcels csi size = some parcels) (hroom : s.givenParcels + parcels ≤ s.office.p)
    (hfree : ((List.range 64).find? fun k => (s.ns? (k + 1)).isNone) = some k) (hlpn : s.lpnRange parcels = some lpn)
    (hv : v = (s.generateKey k).keepKey k (k + 1)) (hn : n = ⟨csi, size, lpn, parcels, k, false, 0, false, [], none, 0, [], []⟩) :
    exec (.namespaceCreate serial) s = .next (((v.putNs (k + 1) n).nsChanged (k + 1)).answerWith serial (k + 1) [] good) := by
  subst hv hn
  refine congrArg Host.Outcome.next ((onAdmin_of_ready h).trans ((if_neg (by simp [hcreate])).trans ?_))
  simp only [← hcsi, ← hsize, hparcels, hfree, hlpn, if_neg (Nat.not_lt.2 hroom)]
  rfl

theorem exec_namespaceCreate_full {parcels : Nat} (h : s.AdminReady serial 0x0D c) (hcreate : c.cap.w 10 % 16 = 0)
    (hparcels : nsParcels (c.cap.w 11 / 2 ^ 24) (ofBytes ((s.cmdData c).take 8)) = some parcels)
    (hfull : s.office.p < s.givenParcels + parcels) :
    exec (.namespaceCreate serial) s = .next (s.answer serial (verdict .insufficientCapacity true)) := by
  refine congrArg Host.Outcome.next ((onAdmin_of_ready h).trans ((if_neg (by simp [hcreate])).trans ?_))
  simp only [hparcels, if_pos hfull]

theorem exec_namespaceDelete (h : s.AdminReady serial 0x0D c) (hdelete : c.cap.w 10 % 16 = 1) (hone : c.cap.nsid ≠ 0xFFFFFFFF)
    (hns : (s.ns? c.cap.nsid).isSome = true) (hidle : s.cmdsOn c.cap.nsid serial = []) :
    exec (.namespaceDelete serial) s = .next ((s.deleteNs c.cap.nsid).answer serial good) := by
  refine congrArg Host.Outcome.next ((onAdmin_of_ready h).trans ((if_neg (by simp [hdelete])).trans ?_))
  simp [hone, hns, hidle]

/-! ### Format and Sanitize -/

/-- A Format NVM of one namespace that is not write-protected, with an LBA format and a secure erase that the drive has (R382). -/
structure State.Formats (s : State) (c : Cmd) (ses : Nat) (n : Ns) : Prop where
  lbaFormat : c.cap.w 10 % 16 = 0
  erase : bitsOf (c.cap.w 10) 11 9 = ses
  eraseKnown : ses = 0 ∨ ses = 2
  one : c.cap.nsid ≠ 0xFFFFFFFF
  ns : s.ns? c.cap.nsid = some n
  writable : s.protectedNs n = false

theorem exec_formatNvm {ses : Nat} {n : Ns} (h : s.AdminReady serial 0x80 c) (hformat : s.Formats c ses n) :
    exec (.formatNvm serial) s = .next ((if ses = 2 then ((s.emptyNs c.cap.nsid n).generateKey n.slot).keepKey n.slot c.cap.nsid
      else s.emptyNs c.cap.nsid n).answer serial good) := by
  obtain ⟨hlbaf, herase, hknown, hone, hns, hwritable⟩ := hformat
  have hfields : (c.cap.w 10 % 16 != 0 || !(bitsOf (c.cap.w 10) 11 9 = 0 || bitsOf (c.cap.w 10) 11 9 = 2)) = false := by
    rcases hknown with rfl | rfl <;> simp [hlbaf, herase]
  refine congrArg Host.Outcome.next ((onAdmin_of_ready h).trans ((if_neg (Bool.eq_false_iff.1 hfields)).trans ?_))
  simp only [herase, if_neg hone, List.all_cons, List.all_nil, List.any_cons, List.any_nil, List.foldl_cons, List.foldl_nil, hns,
    Option.isSome_some, Option.any_some, hwritable, Bool.and_self, Bool.or_self, Bool.not_true, Bool.false_eq_true, if_false]
  rfl

/-- A crypto erase goes from the step it has reached to a later one, of six (R362). -/
theorem exec_sanitize {done upTo : Nat} {u : State} (h : s.AdminReady serial 0x84 c) (hcrypto : c.cap.w 10 % 8 = 4)
    (hdone : done = s.cons.sanitizing.getD 0) (hlater : done < upTo) (hlast : upTo ≤ 6) (hu : u = s.eraseSteps (done + 1) (upTo - done)) :
    exec (.sanitize serial upTo) s = .next (if upTo = 6 then (u.putCons { u.cons with sanitizing := none }).answer serial good
      else u.putCons { u.cons with sanitizing := some upTo }) := by
  have hreached : max done (min 6 upTo) = upTo := by omega
  refine congrArg Host.Outcome.next ((onAdmin_of_ready h).trans ((if_neg (by simp [hcrypto])).trans ?_))
  simp only [← hdone, hreached, ← hu, if_neg (Nat.ne_of_gt (Nat.zero_lt_of_lt hlater))]

/-! ### Head Service -/

theorem headService_of_ready {action x : Nat} {f : Nat → State → State} (h : s.AdminReady serial 0xC0 c)
    (haction : bitsOf (c.cap.w 10) 9 8 = action) (hhead : s.serviceHead c = some x) : s.headService serial action f = f x s := by
  refine (onAdmin_of_ready h).trans ((if_neg (by simp [haction])).trans ?_)
  simp only [hhead]

theorem exec_headServiceReport {x : Nat} (h : s.AdminReady serial 0xC0 c) (haction : bitsOf (c.cap.w 10) 9 8 = 0)
    (hhead : s.serviceHead c = some x) :
    exec (.headServiceReport serial) s = .next (s.answerWith serial (s.serviceWord x) [] good) :=
  congrArg Host.Outcome.next (headService_of_ready h haction hhead)

theorem exec_headServiceRetire {x : Nat} {u : State} (h : s.AdminReady serial 0xC0 c) (haction : bitsOf (c.cap.w 10) 9 8 = 1)
    (hhead : s.serviceHead c = some x) (hmay : s.retireRefused x = false) (hu : u = s.retireHead x 6) :
    exec (.headServiceRetire serial) s = .next (u.answerWith serial (u.serviceWord x) [] good) := by
  rw [hu]
  exact congrArg Host.Outcome.next ((headService_of_ready h haction hhead).trans (if_neg (by simp [hmay])))

theorem exec_headServiceRetire_refused {x : Nat} (h : s.AdminReady serial 0xC0 c) (haction : bitsOf (c.cap.w 10) 9 8 = 1)
    (hhead : s.serviceHead c = some x) (hrefused : s.retireRefused x = true) :
    exec (.headServiceRetire serial) s = .next (s.answer serial (verdict .sequenceError true)) :=
  congrArg Host.Outcome.next ((headService_of_ready h haction hhead).trans (if_pos hrefused))

theorem exec_headServiceReinstate {x : Nat} {u : State} (h : s.AdminReady serial 0xC0 c) (haction : bitsOf (c.cap.w 10) 9 8 = 2)
    (hhead : s.serviceHead c = some x) (hu : u = s.saveDev fun d => { d with reinstate := Sys2Proof.setBit d.reinstate x true }) :
    exec (.headServiceReinstate serial) s = .next (u.answerWith serial (u.serviceWord x) [] good) := by
  subst hu
  exact congrArg Host.Outcome.next (headService_of_ready h haction hhead)

/-! ### Shelf Service -/

theorem exec_shelfServiceEnter (h : s.AdminReady serial 0xC1 c) (henter : c.cap.w 10 % 4 = 1) :
    exec (.shelfServiceEnter serial) s = .next (s.answer serial (if s.solo = true then verdict .sequenceError true else good)) :=
  congrArg Host.Outcome.next ((onAdmin_of_ready h).trans (if_neg (by simp [henter])))

/-- A loop whose arm is neither on its ramp nor on the way there, and has no message left, is told to unload (R384). -/
def State.tellUnload (s : State) (x : Act) : State :=
  if ((s.lp x).parked || (s.lp x).mode == .unloading || (s.mail (x.n + 1)).count != 0) = true then s else s.tell (x.n + 1) [0x05000000]

/-- The departure, once the heads are on their ramps (R384): the spindle is told to stop, and TARGET goes to BASE. -/
def State.departed (s : State) : State :=
  let v := s.putHost { s.host with shelfMs := none }
  let w := if v.turning = true then v.tell 0 [0x22000000, 1] else v
  (w.set Reg.FRK_TARGET_TARGET (w.get Reg.FRK_BOOK_LIM_BASE)).followTarget

theorem exec_shelfHoldDeparture {t : Nat} {u : State} (howed : s.host.shelfMs = some t) (helapsed : t + 100 ≤ s.ms) (hu : u = s.endAll) :
    exec .shelfHoldDeparture s = .next (if u.headsOff = true then u.acts.foldl State.tellUnload u else u.departed) := by
  subst hu
  simp only [exec, execShelfHoldDeparture, howed]
  exact (if_neg (Nat.not_lt.2 helapsed)).trans (apply_ite Host.Outcome.next _ _ _).symm

theorem exec_shelfServiceWake {u : State} (h : s.AdminReady serial 0xC1 c) (hwake : c.cap.w 10 % 4 = 2) (hbook : s.solo = false)
    (hu : u = s.setAll [(Reg.FRK_WAKE_GO, 1), (Reg.FRK_WAKE_ALL, c.cap.w 11 % 128 / 64), (Reg.FRK_WAKE_SLOT, c.cap.w 11 % 128)]) :
    exec (.shelfServiceWake serial) s = .next (u.answer serial good) := by
  subst hu
  exact congrArg Host.Outcome.next
    ((onAdmin_of_ready h).trans ((if_neg (by simp [hwake])).trans (if_neg (by simp [hbook]))))

/-! ### Drive Format -/

theorem exec_driveFormat {p crit : Nat} {f : Sparse Nat} {u v w : State} (h : s.AdminReady serial 0xC2 c) (hnone : s.host.nss = [])
    (hu : u = (s.set Reg.CNS_LAYOUT_LAYOUT (c.cap.w 10 % 4)).set Reg.SOF_FC_COMPAT (b2n (bitOf (c.cap.w 10) 8)))
    (hv : v = (u.clearKeys.emptyMap true).naturalMap) (hp : p = v.capacity (bitOf (c.cap.w 10) 8))
    (hw : w = (v.putOffice { v.office with p := p }).set Reg.SOF_MAP_LEN_MAP_PARCELS p)
    (hf : f = sIns (sIns w.devWanted.features 0xD0 (c.cap.w 10 % 4)) 0xD1 (b2n (bitOf (c.cap.w 10) 8)))
    (hcrit : crit = Sys2Proof.setBit (Sys2Proof.setBit w.host.critical 2 false) 4 false) :
    exec (.driveFormat serial) s =
      .next ((State.putHost (w.saveDev fun d => { d with keys := [], posmap := w.posmapList, features := f })
        { w.host with critical := crit }).answer serial good) := by
  refine congrArg Host.Outcome.next ((onAdmin_of_ready h).trans ((if_neg (by simp [hnone])).trans ?_))
  simp only [← hu, ← hv, ← hp, ← hw, ← hf]
  subst hcrit
  rfl

theorem exec_driveFormat_refused (h : s.AdminReady serial 0xC2 c) (hsome : s.host.nss ≠ []) :
    exec (.driveFormat serial) s = .next (s.answer serial (verdict .sequenceError true)) :=
  congrArg Host.Outcome.next ((onAdmin_of_ready h).trans (if_pos (by simp [hsome])))

end

/-- Settles O47, command by command; a sanitize by whether it reaches its sixth step, and the departure by whether heads are off their
ramps. -/
theorem managementCommandsRun : Obligations.ManagementCommandsRun := by
  refine ⟨fun serial c k csi size parcels lpn w n s u v =>
      imp_of_adminReady fun h hcreate hcsi hsize hparcels hroom hfree hlpn hu hw hv => ?_,
    fun _ _ _ _ => imp_of_adminReady exec_namespaceCreate_full,
    fun _ _ _ => imp_of_adminReady exec_namespaceDelete,
    fun serial c n s => imp_of_adminReady fun h herase hlbaf hone hns hwritable =>
      exec_formatNvm h ⟨hlbaf, herase, .inl rfl, hone, hns, hwritable⟩,
    fun serial c n x s u => imp_of_adminReady fun h herase hlbaf hone hns hwritable hu hwrapped => ?_,
    fun serial c done upTo s u => imp_of_adminReady fun h hcrypto hdone hlater hnotLast hu => ?_,
    fun serial c done s u => imp_of_adminReady fun h hcrypto hdone hlater hu => ?_,
    fun _ _ _ _ => imp_of_adminReady exec_headServiceReport,
    fun _ _ _ _ _ => imp_of_adminReady exec_headServiceRetire,
    fun _ _ _ _ => imp_of_adminReady exec_headServiceRetire_refused,
    fun _ _ _ _ _ => imp_of_adminReady exec_headServiceReinstate,
    fun _ _ _ => imp_of_adminReady exec_shelfServiceEnter,
    fun t s u howed helapsed hu hoff => (exec_shelfHoldDeparture howed helapsed hu).trans (congrArg _ (if_pos hoff)),
    fun t s u v w howed helapsed hu hramps hv hw => ?_,
    fun _ _ _ _ => imp_of_adminReady exec_shelfServiceWake,
    fun _ _ _ _ _ _ _ _ _ => imp_of_adminReady exec_driveFormat,
    fun _ _ _ => imp_of_adminReady exec_driveFormat_refused⟩
  · have hkept : v = (s.generateKey k).keepKey k (k + 1) := by
      subst hw hu
      exact hv
    exact exec_namespaceCreate h hcreate hcsi hsize hparcels hroom hfree hlpn hkept
  · rw [exec_formatNvm h ⟨hlbaf, herase, .inr rfl, hone, hns, hwritable⟩, if_pos rfl, ← hu, State.keepKey, hwrapped]
  · rw [exec_sanitize h hcrypto hdone hlater (Nat.le_of_lt hnotLast) hu, if_neg (Nat.ne_of_lt hnotLast)]
  · rw [exec_sanitize h hcrypto hdone hlater (Nat.le_refl 6) hu, if_pos rfl]
  · rw [exec_shelfHoldDeparture howed helapsed hu, if_neg (by simp [hramps]), State.departed, ← hv, ← hw]

end Sys2Proof.Machine
end

section
/-!
Where a command ends (O57, O1, R463): the five commands that carry a physical level stop beyond the absolute ratings, and every other
meaning is a tree of tests whose leaves each answer a state.
-/
namespace Sys2Proof.Machine

/-- An outcome that answers a next state. -/
def Completes (o : Host.Outcome State Fault Refusal) : Prop := ∃ t, o = .next t

theorem completes_ok {s : State} : Completes (ok s) := ⟨s, rfl⟩

theorem completes_ite {c : Prop} [Decidable c] {a b : Host.Outcome State Fault Refusal} (ha : Completes a) (hb : Completes b) :
    Completes (if c then a else b) := by
  split <;> assumption

/-- Where its condition does not hold, a command changes nothing (log 9). -/
theorem completes_when {c : Prop} [Decidable c] {s t : State} : Completes (if c then ok t else ok s) :=
  completes_ite completes_ok completes_ok

/-- A test of a level against its rating, before a meaning that completes. -/
theorem completes_or_beyond {c : Prop} [Decidable c] {o : Host.Outcome State Fault Refusal} (ho : Completes o) :
    Completes (if c then beyond else o) ∨ (if c then beyond else o) = .fault .beyondRatings := by
  split
  · exact .inr rfl
  · exact .inl ho

/-- The commands that carry a physical level, which the absolute ratings bound (R463). -/
def carriesLevel : Instr → Bool
  | .mainsApplied .. | .driveBusValid .. | .chopperGateClose .. | .llcIdle .. | .tickBoundary .. => true
  | _ => false

/-! ### Beyond the ratings -/

section
variable {s : State}

theorem exec_mainsApplied_beyond {volts : Nat} {ac : Bool} {fit : Option Fitment} (h : (if ac then 300 else 400) < volts) :
    exec (.mainsApplied volts ac fit) s = .fault .beyondRatings :=
  if_pos h

theorem exec_driveBusValid_beyond {mv : Nat} {facts : StartFacts} (h : 33000 < mv) :
    exec (.driveBusValid mv facts) s = .fault .beyondRatings :=
  if_pos h

theorem exec_chopperGateClose_beyond {mv : Nat} (h : 33000 < mv) : exec (.chopperGateClose mv) s = .fault .beyondRatings :=
  if_pos h

theorem exec_llcIdle_beyond {mv : Nat} (h : 33000 < mv) : exec (.llcIdle mv) s = .fault .beyondRatings :=
  if_pos h

theorem exec_tickBoundary_beyond {f : TickFacts} (h : 33000 < f.dbus) : exec (.tickBoundary f) s = .fault .beyondRatings :=
  if_pos h

end

/-- Settles O1, command by command. -/
theorem levelsBeyondTheRatingsStop : Obligations.LevelsBeyondTheRatingsStop :=
  ⟨fun _ _ _ => exec_mainsApplied_beyond (ac := true), fun _ _ _ => exec_mainsApplied_beyond (ac := false),
    fun _ _ _ => exec_driveBusValid_beyond,
    fun _ _ => exec_chopperGateClose_beyond, fun _ _ => exec_llcIdle_beyond, fun _ _ => exec_tickBoundary_beyond⟩

/-! ### Every other command -/

/-- A command that carries no level completes: most answer one state, or one where their condition holds and else change nothing; of the
others the tests are followed down to the leaves. -/
theorem completes_exec_of_noLevel (c : Instr) (s : State) (h : carriesLevel c = false) : Completes (exec c s) := by
  cases c with
  | mainsApplied | driveBusValid | chopperGateClose | llcIdle | tickBoundary => cases h
  | tckCountLoRead | flushDone | chopTest | pdCtrlWrite | envelopeOpen | envelopeSeal | envelopePost | envelopeAbort | forceFreeWrite |
    tckClrPeak | next | br | brn | call | ret | loop | ldlc | dispatch | done | trap | mov | add | sub | sadd | ssub | and | or | xor |
    asr | lsl | min | max | abs | neg | cmp | sge | sin | cos | mul | mac | msu | clr | memoryRead | memoryWrite | portRead | portWrite |
    capture | creLoad | creRun | creStop | creClrPeaks | creDmDataAccess | creCapDataRead | laneQtailWrite | laneRead | laneWrite |
    laneReadSamples | laneSkewMeasure | laneAbort | headEnClear | zoneEntryValidate | zoneEntryInvalidate | decoderHalfEnable |
    decoderHalfDisable | recoveryJobPost | cancelJob | retract | shockInhibitEnd | preampFaultPersists | aspFrameSend | frkTargetWrite |
    holdEnter | wakeSend | sofJobPost | lookup | switch | validScan | cnsJobPost | encrypt | decrypt | encode | decode | check |
    loadWrappedKey | generateKey | clearKeySlot | clearAllKeySlots | kekLoad | icreq | h2cTermReq | tcpSyn | tcpFin | tcpRst | tcpAck |
    tcpOutOfOrder | retransmissionTimer | delayedAckTimer | arp | icmpv4 | icmpv6 | ndp | dhcpv4 | dhcpv6 | asynchronousEvent |
    associationEnd | corePostedEvent | ethRestart | preEnd | crc32c | payloadToBags | bagsToTransmitQueue | buildAndSendPdu |
    postInTrayEntry | postCoreMessage | releaseBags | preLoad | preRun | preClrPeak | getLogPage | identify | abort | setFeatures |
    getFeatures | asynchronousEventRequest | namespaceCreate | namespaceDelete | firmwareCommit | firmwareImageDownload | keepAlive |
    formatNvm | sanitize | propertySet | propertyGet | connect | disconnect | headServiceReport | headServiceRetire |
    headServiceReinstate | shelfServiceEnter | shelfServiceWake | driveFormat | flush | write | read | writeZeroes | datasetManagement |
    verify | reservationRegister | reservationReport | reservationAcquire | reservationRelease | zoneOpen | zoneClose | zoneFinish |
    zoneReset | zoneManagementReceive | zoneAppend | store | retrieve | list | delete | exist | readNvmeMiDataStructure |
    nvmSubsystemHealthStatusPoll | controllerHealthStatusPoll | configurationGet | configurationSet | vpdRead | bpmAlloc | bpmRelease |
    bpmShare | phcFlush | phcWindowWrite | dmaTailWrite | copy | fill | copyAndWriteCrc | copyAndCheckCrc | dmaResume | dmaStop |
    nandQtailWrite | nandRead | nandProgram | nandErase | throttleStep | thermalShutdown | hardwareTrip | thmClrMinmax | coreFault |
    fltDone | fltCapDataRead | faultInjectionArm | faultInjectionDisarm | ldgCommit | ledgerFreeze | ledgerUnfreeze | ldgStageDataRead |
    ldgValueWrite | preampFaultClear | invalidPduType | thermalShutdownDeferEnd =>
    exact completes_ok
  | llcStart | linkUp | mainsLostWarning | powerLossDeclared | declaredDomainShutoff | brownoutReset | llcFault | watchdogReset |
    chopperGateOpen | chopFaultDetected | pdSwitchComplete | writeHoldRelease | flyingLimitCrossed | parkSwitchClose | rampFaultTimeout |
    pmkStreamDrop | pmkAcqTimeout | positionErrorDelivery | injectionEnd | captureEnd | decoderFrameStart | decoderHalfLoss |
    decodeSampleArea | decodeRunningSum | unloadLatched | servoWedgeLoss | hardwareRetract | retractWatchdog | retractEnd |
    shockDetected | preampFault | microactuatorSaturation | observerHandover | startRetry | postmarkGlideEnd | spindleDutyWatchdog |
    fluxBrakeEnter | fluxBrakeLeave | kerrexCycleStart | electionBackoffExpiry | claimConfirm | censusEnd | unheardSlotTimeout |
    crcAbdication | eligibilityRestore | lapse | presentNRelease | presentNAssert | idleTimeout | segmentLoad | headRetirement |
    capsuleCmd | portLinkReset | slipTableSave | shortBrakeQuiet | catchCoastEnd =>
    exact completes_when
  | stagedCopyWrite | mailboxPost | transmitMismatch | mapCheckpoint | dramScrubRead | kerrexFrameDiscard =>
    exact completes_ite completes_ok completes_when
  | registerWrite | acDcModeChoice | addressBound | recoveryMet | nvmSubsystemReset | graveFaultPowerCycle | switchedDomainsRestart |
    sealCheckDone | deviceRecordRewrite | mailboxDeliver | pmkStreamValid | pesTimeout | segmentForcedEnd | sliceOverrun | creLoadDone |
    sectorStart | heaterLeadElapsed | writeInhibitReceived | firstPassDone | recoveryStoreCopyDone | receiptDecided | sectorRewrite |
    laneOperationComplete | zoneEntryCheckDone | heldSampleRungsDone | earlyReconstructionStart | ladderTimeLimit | reallocation | seek |
    pairWaitExpiry | seekDone | seekSettleTimeout | head | headSwitchDone | headSwitchTimeout | offset | offsetDone | load | loadLanded |
    loadTimeout | unload | retire | coef | emergencyUnload | emUnloadLatched | start | stop | hold | sensePeriodEnd | alignStepEnd |
    catchResult | startFailure | atSpeedReached | postmarkAngleHandover | observerLost | inverterDisable | inverterReenable | legFault |
    spareLegReady | spindleStopped | beaconReceived | statusSlot | statusReceived | claimReceived | directPlacement |
    firstClassPlacement | commitUnitSwitch | folding | reSorting | bundlePlaceTimeout | repack | zoneFinishRecommended |
    zoneFinishByController | mapRebuild | refreshTrigger | locationRelease | rebuildUnitCommit | parityScrub | capsuleTake | h2cData |
    responseReady | bagsReservedForTransfer | readDataReady | keepAliveTimer | lockGrant | preLoadDone | shelfHoldDeparture |
    sensorBroken | tripDiodeBroken | thermalRestart | faultHandlerTimeout | frameDropped =>
    simp only [exec, execRegisterWrite, execAcDcModeChoice, execAddressBound, execRecoveryMet, execNvmSubsystemReset,
      execGraveFaultPowerCycle, execSwitchedDomainsRestart, execSealCheckDone, execDeviceRecordRewrite, execMailboxDeliver,
      execPmkStreamValid, execPesTimeout, execSegmentForcedEnd, execSliceOverrun, execCreLoadDone, execSectorStart, execHeaterLeadElapsed,
      execWriteInhibitReceived, execFirstPassDone, execRecoveryStoreCopyDone, execReceiptDecided, execSectorRewrite,
      execLaneOperationComplete, execZoneEntryCheckDone, execHeldSampleRungsDone, execEarlyReconstructionStart, execLadderTimeLimit,
      execReallocation, execSeek, execPairWaitExpiry, execSeekDone, execSeekSettleTimeout, execHead, execHeadSwitchDone,
      execHeadSwitchTimeout, execOffset, execOffsetDone, execLoad, execLoadLanded, execLoadTimeout, execUnload, execRetire, execCoef,
      execEmergencyUnload, execEmUnloadLatched, execStart, execStop, execHold, execSensePeriodEnd, execAlignStepEnd, execCatchResult,
      execStartFailure, execAtSpeedReached, execPostmarkAngleHandover, execObserverLost, execInverterDisable, execInverterReenable,
      execLegFault, execSpareLegReady, execSpindleStopped, execBeaconReceived, execStatusSlot, execStatusReceived, execClaimReceived,
      execDirectPlacement, execFirstClassPlacement, execCommitUnitSwitch, execFolding, execReSorting, execBundlePlaceTimeout, execRepack,
      execZoneFinishRecommended, execZoneFinishByController, execMapRebuild, execRefreshTrigger, execLocationRelease,
      execRebuildUnitCommit, execParityScrub, execCapsuleTake, execH2cData, execResponseReady, execBagsReservedForTransfer,
      execReadDataReady, execKeepAliveTimer, execLockGrant, execPreLoadDone, execShelfHoldDeparture, execSensorBroken,
      execTripDiodeBroken, execThermalRestart, execFaultHandlerTimeout, execFrameDropped]
    repeat' first | exact completes_ok | refine completes_ite ?_ ?_ | split

/-- Settles O57: the five commands with a level complete or stop, and every other command completes. -/
theorem onlyTheRatingsStop : Obligations.OnlyTheRatingsStop := by
  intro c s
  cases c with
  | mainsApplied v ac fit =>
    exact (completes_or_beyond completes_when).imp_right fun h => ⟨h, .inl ⟨v, ac, fit, rfl⟩⟩
  | driveBusValid m f =>
    exact (completes_or_beyond (completes_ite completes_ok completes_when)).imp_right fun h => ⟨h, .inr (.inl ⟨m, f, rfl⟩)⟩
  | chopperGateClose m =>
    exact (completes_or_beyond completes_when).imp_right fun h => ⟨h, .inr (.inr (.inl ⟨m, rfl⟩))⟩
  | llcIdle m => exact (completes_or_beyond completes_ok).imp_right fun h => ⟨h, .inr (.inr (.inr (.inl ⟨m, rfl⟩)))⟩
  | tickBoundary f => exact (completes_or_beyond completes_ok).imp_right fun h => ⟨h, .inr (.inr (.inr (.inr ⟨f, rfl⟩)))⟩
  | _ => exact .inl (completes_exec_of_noLevel _ s rfl)

end Sys2Proof.Machine
end

section
/-!
Captures (O59, R446): what is counted before a capture looks for a record to merge with keeps the records and every field it looks at, so
that it finds one exactly where the state before has one; what follows a new record leaves its fields as they were written.
-/
namespace Sys2Proof.Machine

theorem satInc_eq_min {top n : Nat} : satInc top n = min top (n + 1) := by
  unfold satInc
  split <;> omega

/-! ### What a capture counts first -/

/-- What a capture looks at, and what a merged one leaves, stands in both states alike. -/
structure CaptureKept (s t : State) : Prop where
  recs : t.desk.recs = s.desk.recs
  held : t.desk.held = s.desk.held
  current : t.desk.current = s.desk.current
  grave : t.desk.grave = s.desk.grave
  out : t.out = s.out
  ldg : t.ldg = s.ldg
  clockNs : t.clockNs = s.clockNs
  tick : t.tick = s.tick
  mergeMs : t.get Reg.FLT_TMO_MERGE_MS = s.get Reg.FLT_TMO_MERGE_MS

theorem CaptureKept.trans {s t u : State} (h : CaptureKept s t) (h' : CaptureKept t u) : CaptureKept s u :=
  ⟨h'.recs.trans h.recs, h'.held.trans h.held, h'.current.trans h.current, h'.grave.trans h.grave, h'.out.trans h.out,
    h'.ldg.trans h.ldg, h'.clockNs.trans h.clockNs, h'.tick.trans h.tick, h'.mergeMs.trans h.mergeMs⟩

theorem CaptureKept.refl (s : State) : CaptureKept s s := ⟨rfl, rfl, rfl, rfl, rfl, rfl, rfl, rfl, rfl⟩

theorem captureKept_inc {f : Fld} {s t : State} (h : CaptureKept s t) (hf : Reg.FLT_TMO_MERGE_MS.key ≠ f.key) :
    CaptureKept s (t.inc f) :=
  h.trans ⟨rfl, rfl, rfl, rfl, rfl, rfl, rfl, rfl, get_set_ne t _ hf⟩

theorem captureKept_deskCount (s : State) (r : Report) : CaptureKept s (s.deskCount r) := by
  unfold State.deskCount
  split
  · exact ⟨rfl, rfl, rfl, rfl, rfl, rfl, rfl, rfl, rfl⟩
  · dsimp only
    split
    · exact ⟨rfl, rfl, rfl, rfl, rfl, rfl, rfl, rfl, rfl⟩
    · exact captureKept_inc ⟨rfl, rfl, rfl, rfl, rfl, rfl, rfl, rfl, rfl⟩ (by decide)
    · exact captureKept_inc ⟨rfl, rfl, rfl, rfl, rfl, rfl, rfl, rfl, rfl⟩ (by decide)

theorem captureKept_stopInjIn (s : State) (dom : Nat) : CaptureKept s (s.stopInjIn dom) :=
  have h : Only [.reg 0x4020] s (s.stopInjIn dom) := only_stopInjIn only_self (among rfl)
  have hdesk := h.desk_eq (by decide)
  ⟨congrArg Desk.recs hdesk, congrArg Desk.held hdesk, congrArg Desk.current hdesk, congrArg Desk.grave hdesk, h.out_eq (by decide),
    h.ldg_eq (by decide), h.clockNs_eq (by decide), h.tick_eq (by decide), h.get_eq (by decide) (by decide)⟩

/-- A report as a capture takes it: marked as injected while an injection takes effect (R450). -/
def State.marked (s : State) (r : Report) : Report := { r with injected := r.injected || s.desk.injActive }

/-- The state in which a capture looks for a record to merge with: counted, and the injections of its domain stopped (R186, R457). -/
def State.counted (s : State) (r : Report) : State :=
  if r.cls == 1 && 3 ≤ r.level && r.dom < 7 then (s.deskCount r).stopInjIn r.dom else s.deskCount r

theorem captureKept_counted (s : State) (r : Report) : CaptureKept s (s.counted r) := by
  unfold State.counted
  split
  · exact (captureKept_deskCount s r).trans (captureKept_stopInjIn _ _)
  · exact captureKept_deskCount s r

/-! ### The record that a capture merges into -/

/-- Whether a capture merges into a record at a place (R446). -/
def State.Merges (s : State) (r : Report) (p : Nat × CapRec) : Prop :=
  p.1 < 64 ∧ p.2.source = r.source ∧ p.2.code = r.code ∧ p.2.level = r.level ∧ p.2.st ≠ 3 ∧
    s.ms - p.2.lastMs ≤ 10 * s.get Reg.FLT_TMO_MERGE_MS

theorem mergeRec_eq_some {s : State} {r : Report} {p : Nat × CapRec} (h : s.mergeRec r = some p) : p ∈ s.desk.recs ∧ s.Merges r p := by
  refine ⟨List.mem_of_find?_eq_some h, ?_⟩
  have hp := List.find?_some h
  simp only [Bool.and_eq_true, decide_eq_true_eq, beq_iff_eq, bne_iff_ne] at hp
  obtain ⟨⟨⟨⟨⟨hplace, hsource⟩, hcode⟩, hlevel⟩, hopen⟩, hlate⟩ := hp
  exact ⟨hplace, hsource, hcode, hlevel, hopen, hlate⟩

theorem mergeRec_eq_none {s : State} {r : Report} : s.mergeRec r = none ↔ ∀ p ∈ s.desk.recs, ¬ s.Merges r p := by
  simp only [State.mergeRec, List.find?_eq_none, State.Merges, Bool.and_eq_true, decide_eq_true_eq, beq_iff_eq, bne_iff_ne, and_assoc]

theorem CaptureKept.mergeRec_eq {s t : State} (h : CaptureKept s t) (r : Report) : t.mergeRec r = s.mergeRec r := by
  rw [State.mergeRec, State.mergeRec, State.ms, State.ms, h.recs, h.clockNs, h.mergeMs]

theorem CaptureKept.freePlace_eq {s t : State} (h : CaptureKept s t) : t.freePlace = s.freePlace := by
  simp only [State.freePlace, h.recs]

/-- The record of a merged capture (R446). -/
def State.mergedInto (s : State) (c : CapRec) : CapRec :=
  { c with count := satInc 255 c.count, lastTick := s.tickLo, lastMs := s.ms }

theorem capture_of_merges {s : State} {r : Report} {p : Nat × CapRec} (h : s.mergeRec r = some p) {u : State}
    (hu : u = s.counted (s.marked r)) :
    s.capture r = { u with desk := { u.desk with recs := sIns u.desk.recs p.1 (u.mergedInto p.2) } } := by
  subst hu
  have hmerge : (s.counted (s.marked r)).mergeRec (s.marked r) = some p := ((captureKept_counted s _).mergeRec_eq _).trans h
  unfold State.capture
  dsimp only
  split
  next hfound =>
    cases hmerge.symm.trans hfound
    rfl
  next hnone => cases hmerge.symm.trans hnone

/-! ### A new record -/

/-- A record with what a capture writes at its start (R445). -/
structure CapRec.Of (c : CapRec) (source code level : Nat) : Prop where
  source_eq : c.source = source
  code_eq : c.code = code
  level_eq : c.level = level
  count_eq : c.count = 1

theorem desk_ldgCommit (s : State) (type : Nat) (l : List Nat) : (s.ldgCommit type l).1.desk = s.desk :=
  Only.desk_eq (P := [.reg 0x4072, .ldg]) (only_ledger only_self (among rfl)) (by decide)

theorem recs_record (s : State) (p : Nat) (r : Report) (st : Nat) :
    ∃ c : CapRec, (s.record p r st).desk.recs = sIns s.desk.recs p c ∧ c.Of r.source r.code r.level ∧ c.cls = r.cls := by
  simp only [State.record, desk_ldgCommit]
  exact ⟨_, rfl, ⟨rfl, rfl, rfl, rfl⟩, rfl⟩

theorem desk_deskRefresh (s : State) : s.deskRefresh.desk = s.desk := rfl

theorem desk_relieve (s : State) (n : Nat) : (s.relieve n).desk = s.desk :=
  Only.desk_eq (P := [.reg 0x4000, .reg 0x4072, .ldg, .pwr]) (only_relieve only_self (among rfl)) (by decide)

/-- A record delivered keeps what its capture wrote at its start. -/
theorem of_deliver {s : State} {p source code level : Nat} {c : CapRec} (h : sGet? s.desk.recs p = some c)
    (hc : c.Of source code level) : ∃ d, sGet? (s.deliver p).desk.recs p = some d ∧ d.Of source code level := by
  obtain ⟨hsource, hcode, hlevel, hcount⟩ := hc
  refine ⟨{ c with st := 1, core := s.handlerCore c }, ?_, hsource, hcode, hlevel, hcount⟩
  simp only [State.deliver, h]
  split
  · split
    · exact sGet?_sIns_same _ _ _
    · rw [desk_relieve]
      exact sGet?_sIns_same _ _ _
  · exact sGet?_sIns_same _ _ _

theorem of_record (s : State) (p : Nat) (r : Report) (st : Nat) :
    ∃ c, sGet? (s.record p r st).desk.recs p = some c ∧ c.Of r.source r.code r.level := by
  obtain ⟨c, hrecs, hc, -⟩ := recs_record s p r st
  exact ⟨c, by rw [hrecs, sGet?_sIns_same], hc⟩

/-- So does one that is held, or else delivered. -/
theorem of_heldOrDelivered {x : Prop} [Decidable x] {s t : State} {p source code level : Nat} (ht : t.desk.recs = s.desk.recs)
    (h : ∃ c, sGet? s.desk.recs p = some c ∧ c.Of source code level) :
    ∃ c, sGet? (if x then t else s.deliver p).desk.recs p = some c ∧ c.Of source code level := by
  split
  · rwa [ht]
  · obtain ⟨c, hc, hof⟩ := h
    exact of_deliver hc hof

/-- Where no record merges, a new one stands at the free place, held, delivered or routed by its level (R445 to R448). -/
theorem of_capture {s : State} {r : Report} {k : Nat} (hnone : s.mergeRec r = none) (hfree : s.freePlace = some k) :
    ∃ c, sGet? (s.capture r).desk.recs k = some c ∧ c.Of r.source r.code r.level := by
  have hkept := captureKept_counted s (s.marked r)
  have hmerge := (hkept.mergeRec_eq (s.marked r)).trans hnone
  have hplace := hkept.freePlace_eq.trans hfree
  unfold State.capture
  dsimp only
  split
  next hfound => cases hmerge.symm.trans hfound
  split
  next hfull => cases hplace.symm.trans hfull
  next p hp =>
  cases hplace.symm.trans hp
  split
  · exact of_heldOrDelivered rfl (of_record _ k (s.marked r) 0)
  · exact of_record _ k (s.marked r) _

/-! ### A grave capture -/

theorem recs_graveRecord (s : State) (r : Report) (thermal : Bool) :
    ∃ c : CapRec, (s.graveRecord r thermal).desk.recs = sIns s.desk.recs 64 c ∧ c.Of r.source r.code r.level ∧ c.cls = r.cls := by
  obtain ⟨c, hrecs, hc⟩ := recs_record (s.deskCount r) 64 r 1
  refine ⟨c, ?_, hc⟩
  have hstop : ((((s.deskCount r).record 64 r 1).set Reg.FLT_INT_FAULT 1).stopAllInj).desk = ((s.deskCount r).record 64 r 1).desk :=
    Only.desk_eq (P := [.reg 0x4020, .reg 0x4071])
      (only_stopAllInj (only_set only_self (writes rfl)) (among rfl)) (by decide)
  calc (s.graveRecord r thermal).desk.recs
      = ((((s.deskCount r).record 64 r 1).set Reg.FLT_INT_FAULT 1).stopAllInj).desk.recs := by
        simp only [State.graveRecord, desk_deskRefresh]
    _ = sIns (s.deskCount r).desk.recs 64 c := (congrArg Desk.recs hstop).trans hrecs
    _ = sIns s.desk.recs 64 c := by rw [(captureKept_deskCount s r).recs]

theorem recs_graveCapture {s : State} {source code addr info : Nat} {thermal : Bool} (hgrave : s.desk.grave = none)
    (hwarm : s.get Reg.THM_STATUS_STATE ≠ 4) :
    ∃ c : CapRec, (s.graveCapture source code addr info thermal).1.desk.recs = sIns s.desk.recs 64 c ∧ c.Of source code 5 ∧
      c.cls = 2 := by
  obtain ⟨c, hrecs, hc⟩ := recs_graveRecord s ⟨source, code, 5, 2, addr, info, 7, s.desk.injActive⟩ thermal
  refine ⟨c, ?_, hc⟩
  rw [← hrecs, State.graveCapture, if_neg (by simp [hgrave, hwarm])]
  dsimp only
  split
  · rfl
  · split <;> rfl

/-- Settles O59: a merged capture by the record found, a new one by how it is routed, and a grave one by its record at place 64. -/
theorem capturesAreMerged : Obligations.CapturesAreMerged := by
  refine ⟨fun r s _ hsome => ?_, fun r s k hnone hfree => ?_, fun src code addr info thermal s t hgrave hwarm ht => ?_⟩
  · obtain ⟨p, hp⟩ : ∃ p, s.mergeRec r = some p := by
      rw [← Option.ne_none_iff_exists', Ne, mergeRec_eq_none]
      obtain ⟨q, hq, hmerges⟩ := hsome
      exact fun h => h q hq hmerges
    obtain ⟨hmem, hplace, hsource, hcode, hlevel, hopen, hlate⟩ := mergeRec_eq_some hp
    have hkept := captureKept_counted s (s.marked r)
    refine ⟨p, hmem, hplace, hsource, hcode, hlevel, hopen, hlate, ?_⟩
    rw [capture_of_merges hp rfl]
    refine ⟨?_, hkept.held, hkept.current, hkept.grave, hkept.out, hkept.ldg⟩
    simp only [State.mergedInto, satInc_eq_min, State.tickLo, State.ms, hkept.recs, hkept.tick, hkept.clockNs]
  · have hnone' : s.mergeRec r = none := mergeRec_eq_none.2 fun p hp hmerges => hnone p hp hmerges.1 hmerges.2
    obtain ⟨c, hc, hsource, hcode, hlevel, hcount⟩ := of_capture hnone' hfree
    exact ⟨c, hc, hsource, hcode, hlevel, hcount⟩
  · obtain ⟨c, hrecs, ⟨hsource, hcode, hlevel, hcount⟩, hcls⟩ := recs_graveCapture (source := src) (code := code) (addr := addr)
      (info := info) (thermal := thermal) hgrave hwarm
    subst ht
    rw [hrecs]
    exact ⟨⟨c, sGet?_sIns_same _ _ _, hsource, hcode, hlevel, hcls, hcount⟩, fun p hp => sGet?_sIns_ne _ _ hp⟩

end Sys2Proof.Machine
end

section
/-!
Ports, addresses, frames and TCP (O31, O32, R369 to R373, R403, R405): a frame whose handler runs has the handler's effect, and so has an
event of an open connection; then an equation for each command.
-/
namespace Sys2Proof.Machine

theorem on_of_get_ne {s : State} {f : Fld} (h : s.get f ≠ 0) : s.on f = true := bne_iff_ne.2 h

theorem on_of_get_eq {s : State} {f : Fld} (h : s.get f = 0) : s.on f = false := by simp [State.on, h]

theorem frame_of_served {s : State} {p : Prt} {key : Nat} {f : State → State} (hup : s.portUp p = true) (hserves : s.serves key = true) :
    s.frame p key f = f s := by
  obtain ⟨hpre, hkey⟩ := (Bool.and_eq_true _ _).mp hserves
  simp [State.frame, hup, hpre, hkey]

theorem tcpEvent_of_served {s : State} {n key : Nat} {c : Conn} {f : Conn → State → State} (hconn : s.conn? n = some c)
    (hup : s.portUp (Prt.num c.port) = true) (hserves : s.serves key = true) : s.tcpEvent n key f = f c s := by
  simp only [State.tcpEvent, hconn]
  exact frame_of_served hup hserves

/-! ### Links and addresses -/

section
variable {p : Prt} {s : State}

theorem exec_linkUp {speed fec : Nat} (hpowered : s.pdOn (19 + p.n) = true) (henabled : s.get (Reg.ETH_CTRL_ENABLE p) ≠ 0)
    (hlit : s.get (Reg.ETH_CTRL_TX_DISABLE p) = 0) (hdown : s.get (Reg.ETH_STATUS_STATE p) ≠ 3) :
    exec (.linkUp p speed fec) s = .next (s.setAll [(Reg.ETH_STATUS_STATE p, 3),
      (Reg.ETH_STATUS_SPEED p, if s.on (Reg.ETH_CTRL_AN_EN p) then speed else 2),
      (Reg.ETH_STATUS_FEC p, if s.on (Reg.ETH_CTRL_AN_EN p) then fec else 2), (Reg.ETH_STATUS_PCS_LOCK p, 1),
      (Reg.ETH_INT_LINK_UP p, 1)]) :=
  if_neg (by simp [hpowered, on_of_get_ne henabled, on_of_get_eq hlit, hdown])

theorem exec_addressBound_global {addr : Nat} {f : Port} (hup : s.portUp p = true) (hmode : s.get Reg.SYS_BOOT_MODE ≠ 2)
    (hf : f = s.host.ports.at p) (hglobal : linkLocal addr = false) (hcfg : f.cfg.mode6 = 2 ∨ f.cfg.mode6 = 1 ∧ addr = f.cfg.addr6) :
    exec (.addressBound p true addr) s = .next (s.putPort p (f.bind6 [addr])) := by
  subst hf
  simp [exec, execAddressBound, hup, hmode, hglobal, hcfg]

theorem exec_addressBound_linkLocal {addr : Nat} {f : Port} (hup : s.portUp p = true) (hmode : s.get Reg.SYS_BOOT_MODE ≠ 2)
    (hf : f = s.host.ports.at p) (hlocal : linkLocal addr = true) :
    exec (.addressBound p true addr) s = .next (s.putPort p { f with ip6 := addr :: f.ip6.filter fun a => !linkLocal a }) := by
  subst hf
  simp [exec, execAddressBound, hup, hmode, hlocal]

theorem exec_addressBound_v4 {addr : Nat} (hup : s.portUp p = true) (hmode : s.get Reg.SYS_BOOT_MODE ≠ 2)
    (hcfg : (s.host.ports.at p).cfg.mode4 = 2) :
    exec (.addressBound p false addr) s = .next (s.putPort p { s.host.ports.at p with ip4 := some addr }) := by
  simp [exec, execAddressBound, hup, hmode, hcfg]

theorem exec_portLinkReset (hpowered : s.pdOn (19 + p.n) = true) : exec (.portLinkReset p) s = .next (s.linkReset p) := if_pos hpowered

theorem exec_ethRestart {i : Initiator} (hr : s.reaches i p.base = true) :
    exec (.ethRestart i p) s = .next { s.linkReset p with bus := .written } :=
  congrArg Host.Outcome.next (access_of_reaches hr)

/-! ### Frames that are dropped -/

theorem exec_frameDropped_badCheck (hup : s.portUp p = true) :
    exec (.frameDropped p .badCheck) s = .next (s.inc (Reg.ETH_DROPS_CRC_ERR p)) :=
  if_neg (by simp [hup])

theorem exec_frameDropped_pause (hup : s.portUp p = true) : exec (.frameDropped p .pause) s = .next (s.dropFrame p) :=
  if_neg (by simp [hup])

theorem exec_frameDropped_packet (hup : s.portUp p = true) : exec (.frameDropped p .packet) s = .next (s.dropFrame p) :=
  if_neg (by simp [hup])

theorem exec_frameDropped_vlan {vid : Nat} (hup : s.portUp p = true) (hon : s.get (Reg.ETH_NET_VLAN_EN p) ≠ 0)
    (hother : vid ≠ s.get (Reg.ETH_NET_VID p)) : exec (.frameDropped p (.vlan (some vid))) s = .next (s.dropFrame p) := by
  simp [exec, execFrameDropped, hup, on_of_get_ne hon, hother]

theorem exec_frameDropped_share {cycles : Nat} (hup : s.portUp p = true) (hbeyond : s.classShare < cycles) :
    exec (.frameDropped p (.share cycles)) s = .next (s.dropFrame p) := by
  simp [exec, execFrameDropped, hup, hbeyond]

/-! ### Frames that are answered -/

theorem exec_arp {target : Nat} (hup : s.portUp p = true) (hserves : s.serves 0x20 = true)
    (howns : (s.host.ports.at p).owns false target = true) :
    exec (.arp p target) s = .next (s.sendNet p.n (.arpReply target (s.mac p))) :=
  congrArg Host.Outcome.next ((frame_of_served hup hserves).trans (if_pos howns))

theorem exec_icmpv4_echo {source target : Nat} (hup : s.portUp p = true) (hserves : s.serves 0x21 = true)
    (howns : (s.host.ports.at p).owns false target = true) :
    exec (.icmpv4 p (.echo source target)) s = .next (s.sendNet p.n (.echo4 source)) :=
  congrArg Host.Outcome.next ((frame_of_served hup hserves).trans (if_pos howns))

theorem exec_icmpv6_echo {source target : Nat} (hup : s.portUp p = true) (hserves : s.serves 0x22 = true)
    (howns : (s.host.ports.at p).owns true target = true) :
    exec (.icmpv6 p (.echo source target)) s = .next (s.sendNet p.n (.echo6 source)) :=
  congrArg Host.Outcome.next ((frame_of_served hup hserves).trans (if_pos howns))

theorem exec_icmpv4_tooBig {conn mtu : Nat} (hup : s.portUp p = true) (hserves : s.serves 0x21 = true) :
    exec (.icmpv4 p (.tooBig conn mtu)) s = .next (s.pathMtu p conn mtu) :=
  congrArg Host.Outcome.next (frame_of_served hup hserves)

theorem exec_icmpv6_tooBig {conn mtu : Nat} (hup : s.portUp p = true) (hserves : s.serves 0x22 = true) :
    exec (.icmpv6 p (.tooBig conn mtu)) s = .next (s.pathMtu p conn mtu) :=
  congrArg Host.Outcome.next (frame_of_served hup hserves)

theorem exec_ndp_solicit {target : Nat} (hup : s.portUp p = true) (hserves : s.serves 0x23 = true)
    (howns : (s.host.ports.at p).owns true target = true) :
    exec (.ndp p (.solicit target)) s = .next (s.sendNet p.n (.neighbour target (s.mac p))) :=
  congrArg Host.Outcome.next ((frame_of_served hup hserves).trans (if_pos howns))

theorem exec_ndp_advertise {router : Nat} (hup : s.portUp p = true) (hserves : s.serves 0x23 = true)
    (hgateway : (s.host.ports.at p).cfg.gw6 = 0) :
    exec (.ndp p (.advertise router)) s = .next (s.putPort p { s.host.ports.at p with router := router }) :=
  congrArg Host.Outcome.next ((frame_of_served hup hserves).trans (if_pos hgateway))

theorem exec_dhcpv4_offer {a : Nat} (hup : s.portUp p = true) (hserves : s.serves 0x24 = true)
    (hmode : (s.host.ports.at p).cfg.mode4 = 2) : exec (.dhcpv4 p (.offer a)) s = .next (s.sendNet p.n (.dhcp4Request a)) :=
  congrArg Host.Outcome.next ((frame_of_served hup hserves).trans (if_neg (by simp [hmode])))

theorem exec_dhcpv4_bound {a : Nat} (hup : s.portUp p = true) (hserves : s.serves 0x24 = true)
    (hmode : (s.host.ports.at p).cfg.mode4 = 2) :
    exec (.dhcpv4 p (.bound a)) s = .next (s.putPort p { s.host.ports.at p with ip4 := some a }) :=
  congrArg Host.Outcome.next ((frame_of_served hup hserves).trans (if_neg (by simp [hmode])))

theorem exec_dhcpv6_bound {a : Nat} (hup : s.portUp p = true) (hserves : s.serves 0x25 = true)
    (hmode : (s.host.ports.at p).cfg.mode6 = 2) :
    exec (.dhcpv6 p (.bound a)) s = .next (s.putPort p ((s.host.ports.at p).bind6 [a])) :=
  congrArg Host.Outcome.next ((frame_of_served hup hserves).trans (if_neg (by simp [hmode])))

/-! ### TCP -/

theorem exec_tcpSyn_opened {v6 : Bool} {addr port window n : Nat} (hup : s.portUp p = true) (hserves : s.serves 0x10 = true)
    (hlistens : s.listens p v6 addr = true) (hfree : ((List.range 160).find? fun n => (s.conn? n).isNone) = some n)
    (hport : port = 4420 ∨ port = 8009) :
    exec (.tcpSyn p v6 addr port window) s = .next (((s.putConn n (Conn.fresh p.n (port == 8009) window)).connsRefresh).sendNet p.n
      (.synAck n s.rcvWindow (s.get Reg.PRE_TCP_WSCALE))) := by
  refine congrArg Host.Outcome.next ((frame_of_served hup hserves).trans ((if_neg (by simp [hlistens])).trans ?_))
  simp only [hfree]
  exact if_pos (by simpa using hport)

theorem exec_tcpSyn_refused {v6 : Bool} {addr port window n : Nat} (hup : s.portUp p = true) (hserves : s.serves 0x10 = true)
    (hlistens : s.listens p v6 addr = true) (hfree : ((List.range 160).find? fun n => (s.conn? n).isNone) = some n)
    (hnvme : port ≠ 4420) (hdiscovery : port ≠ 8009) : exec (.tcpSyn p v6 addr port window) s = .next (s.sendNet p.n .rst) := by
  refine congrArg Host.Outcome.next ((frame_of_served hup hserves).trans ((if_neg (by simp [hlistens])).trans ?_))
  simp only [hfree]
  exact if_neg (by simp [hnvme, hdiscovery])

end

section
variable {conn : Nat} {c : Conn} {s : State}

theorem exec_tcpFin (hconn : s.conn? conn = some c) (hup : s.portUp (Prt.num c.port) = true) (hserves : s.serves 0x11 = true) :
    exec (.tcpFin conn) s = .next ((s.loseConn conn).sendNet c.port (.fin conn)) :=
  congrArg Host.Outcome.next (tcpEvent_of_served hconn hup hserves)

theorem exec_tcpRst (hconn : s.conn? conn = some c) (hup : s.portUp (Prt.num c.port) = true) (hserves : s.serves 0x12 = true) :
    exec (.tcpRst conn) s = .next (s.loseConn conn) :=
  congrArg Host.Outcome.next (tcpEvent_of_served hconn hup hserves)

theorem exec_tcpAck {bytes window left r ns : Nat} (hconn : s.conn? conn = some c) (hup : s.portUp (Prt.num c.port) = true)
    (hserves : s.serves 0x13 = true) (hleft : left = c.unacked - bytes) (hr : r = if 0 < bytes then 0 else c.retries)
    (hns : ns = if 0 < bytes then s.clockNs else c.sentNs) :
    exec (.tcpAck conn bytes window) s =
      .next (s.putConn conn { c with unacked := left, window := max window left, retries := r, sentNs := ns }) := by
  subst hleft hr hns
  exact congrArg Host.Outcome.next (tcpEvent_of_served hconn hup hserves)

theorem exec_tcpOutOfOrder (hconn : s.conn? conn = some c) (hup : s.portUp (Prt.num c.port) = true) (hserves : s.serves 0x14 = true) :
    exec (.tcpOutOfOrder conn) s =
      .next ((s.putConn conn { c with owed := 0 }).sendNet c.port (.ack conn c.owed (s.rcvSpace c))) :=
  congrArg Host.Outcome.next (tcpEvent_of_served hconn hup hserves)

theorem exec_retransmissionTimer_resends (hconn : s.conn? conn = some c) (hup : s.portUp (Prt.num c.port) = true)
    (hserves : s.serves 0x15 = true) (howed : c.unacked ≠ 0) (hlate : c.sentNs + 1000000 * s.rto c ≤ s.clockNs)
    (hfew : c.retries < 15) :
    exec (.retransmissionTimer conn) s = .next ((s.putConn conn { c with retries := c.retries + 1, sentNs := s.clockNs }).sendNet c.port
      (.resend conn c.unacked (s.packetMax conn c))) :=
  congrArg Host.Outcome.next ((tcpEvent_of_served hconn hup hserves).trans
    ((if_neg (by simp [howed, Nat.not_lt.2 hlate])).trans (if_neg (Nat.not_le.2 hfew))))

theorem exec_retransmissionTimer_resets (hconn : s.conn? conn = some c) (hup : s.portUp (Prt.num c.port) = true)
    (hserves : s.serves 0x15 = true) (howed : c.unacked ≠ 0) (hlate : c.sentNs + 1000000 * s.rto c ≤ s.clockNs)
    (hmany : 15 ≤ c.retries) :
    exec (.retransmissionTimer conn) s = .next ((s.loseConn conn).sendNet c.port .rst) :=
  congrArg Host.Outcome.next ((tcpEvent_of_served hconn hup hserves).trans
    ((if_neg (by simp [howed, Nat.not_lt.2 hlate])).trans (if_pos hmany)))

theorem exec_delayedAckTimer (hconn : s.conn? conn = some c) (hup : s.portUp (Prt.num c.port) = true) (hserves : s.serves 0x16 = true)
    (howed : c.owed ≠ 0) :
    exec (.delayedAckTimer conn) s =
      .next ((s.putConn conn { c with owed := 0 }).sendNet c.port (.ack conn c.owed (s.rcvSpace c))) :=
  congrArg Host.Outcome.next ((tcpEvent_of_served hconn hup hserves).trans (if_neg howed))

end

/-- Settles O31, command by command. -/
theorem portsAndAddressesRun : Obligations.PortsAndAddressesRun :=
  ⟨fun _ _ _ _ => exec_linkUp, fun _ _ _ _ => exec_addressBound_global, fun _ _ _ _ => exec_addressBound_linkLocal,
    fun _ _ _ => exec_addressBound_v4, fun _ _ => exec_portLinkReset, fun _ _ _ => exec_ethRestart,
    fun _ _ hup => ⟨exec_frameDropped_badCheck hup, exec_frameDropped_pause hup, exec_frameDropped_packet hup⟩,
    fun _ _ _ => exec_frameDropped_vlan, fun _ _ _ => exec_frameDropped_share, fun _ _ _ => exec_arp, fun _ _ _ _ => exec_icmpv4_echo,
    fun _ _ _ _ => exec_icmpv6_echo, fun _ _ _ _ => exec_icmpv4_tooBig, fun _ _ _ _ => exec_icmpv6_tooBig,
    fun _ _ _ => exec_ndp_solicit, fun _ _ _ => exec_ndp_advertise, fun _ _ _ => exec_dhcpv4_offer, fun _ _ _ => exec_dhcpv4_bound,
    fun _ _ _ => exec_dhcpv6_bound⟩

/-- Settles O32, command by command. -/
theorem tcpRuns : Obligations.TcpRuns :=
  ⟨fun _ _ _ _ _ _ _ => exec_tcpSyn_opened, fun _ _ _ _ _ _ _ => exec_tcpSyn_refused, fun _ _ _ => exec_tcpFin,
    fun _ _ _ => exec_tcpRst, fun _ _ _ _ _ _ _ _ => exec_tcpAck, fun _ _ _ => exec_tcpOutOfOrder,
    fun _ _ _ => exec_retransmissionTimer_resends, fun _ _ _ => exec_retransmissionTimer_resets, fun _ _ _ => exec_delayedAckTimer⟩

end Sys2Proof.Machine
end

section
/-!
The protocol engine (O38, O39, R372 to R375, R377, R406): a handler runs up to and with its next action of the kind that the command names;
then the loader, the controls and the PDUs at the head of a connection.
-/
namespace Sys2Proof.Machine

/-! ### Handlers -/

/-- With the engine running, its handler stands at an action of a kind once the plain microwords before it have run (R374). -/
structure State.AtAction (s : State) (k : Nat) (hdr data : Bool) (key conn : Nat) (t : State) : Prop where
  up : s.preUp = true
  plain : t = s.preBegin.prePlain hdr data 1024
  handler : t.pre.handler = some (key, conn)
  act : (PW.ofNat (sGet t.pre.store t.pre.pc 0)).act = k

theorem imp_of_atAction {s t : State} {k key conn : Nat} {hdr data : Bool} {p : Prop} (h : s.AtAction k hdr data key conn t → p) :
    s.preUp = true → t = s.preBegin.prePlain hdr data 1024 → t.pre.handler = some (key, conn) →
      (PW.ofNat (sGet t.pre.store t.pre.pc 0)).act = k → p :=
  fun hup hplain hhandler hact => h ⟨hup, hplain, hhandler, hact⟩

theorem preAct_of_atAction {s t : State} {k key conn : Nat} {hdr data : Bool} (h : s.AtAction k hdr data key conn t) :
    s.preAct k hdr data = t.preWord conn hdr data := by
  obtain ⟨hup, rfl, hhandler, hact⟩ := h
  refine (if_neg (by simp [hup])).trans ?_
  simp only [hhandler, if_pos hact]

theorem exec_corePostedEvent {i : Initiator} {arg conn key : Nat} {s : State} (hr : s.reaches i 0x4052001C = true) (hlow : 0x80 ≤ key)
    (hhigh : key < 0x100) (hvalid : s.keyValid key = true) :
    exec (.corePostedEvent i arg conn key) s =
      .next { s.putPre { s.pre with queue := s.pre.queue ++ [(key, conn % 256, arg % 65536)] } with bus := .written } := by
  refine congrArg Host.Outcome.next ((access_of_reaches hr).trans ?_)
  simp only [Nat.mod_eq_of_lt hhigh]
  exact (if_neg (Nat.not_lt.2 hlow)).trans (if_neg (by simp [hvalid]))

theorem exec_corePostedEvent_ignored {i : Initiator} {arg conn key : Nat} {s : State} (hr : s.reaches i 0x4052001C = true)
    (hlow : key < 0x80) : exec (.corePostedEvent i arg conn key) s = .next (s.ignored i 0x4052001C) :=
  congrArg Host.Outcome.next ((access_of_reaches hr).trans (if_pos (by omega)))

/-- Settles O38: each action by the handler that stands at it, and a core's key by its entry. -/
theorem protocolHandlersRun : Obligations.ProtocolHandlersRun := by
  have hact {k key conn : Nat} {hdr data : Bool} {s t : State} (h : s.AtAction k hdr data key conn t) :
      ok (s.preAct k hdr data) = .next (t.preWord conn hdr data) := congrArg Host.Outcome.next (preAct_of_atAction h)
  exact ⟨fun _ _ _ _ _ _ => imp_of_atAction hact, fun _ _ _ _ _ _ => imp_of_atAction hact, fun _ _ _ _ _ _ => imp_of_atAction hact,
    fun _ _ _ _ _ _ => imp_of_atAction hact, fun _ _ _ _ _ _ => imp_of_atAction hact, fun _ _ _ _ _ _ => imp_of_atAction hact,
    fun _ _ _ _ _ _ => imp_of_atAction hact, fun _ _ _ _ _ _ => imp_of_atAction hact, fun _ _ _ _ _ => exec_corePostedEvent,
    fun _ _ _ _ _ => exec_corePostedEvent_ignored⟩

/-! ### Loading, running and stopping -/

section
variable {i : Initiator} {s u : State}

theorem exec_preLoad (hr : s.reaches i 0x40520000 = true)
    (hready : s.get Reg.PRE_STATUS_STATE = 0 ∨ s.get Reg.PRE_STATUS_STATE = 2 ∨ s.get Reg.PRE_STATUS_STATE = 4) :
    exec (.preLoad i) s = .next { s.set Reg.PRE_STATUS_STATE 1 with bus := .written } :=
  congrArg Host.Outcome.next ((access_of_reaches hr).trans (if_pos (by simpa [or_assoc] using hready)))

/-- The store takes the image whatever the checks find; they decide what the engine becomes. -/
theorem exec_preLoadDone {a : Nat} {words : Sparse Nat} {b : List Nat} (hloading : s.get Reg.PRE_STATUS_STATE = 1)
    (ha : a = s.get Reg.PRE_LOAD_LO_ADDR + 2 ^ 32 * s.get Reg.PRE_LOAD_HI_ADDR) (hwords : words = s.imageWords a 16 2048)
    (hb : b = s.imageBytes a (512 + 16 * 2048)) (hu : u = (s.putPre { s.pre with store := words }).set Reg.PRE_INT_LOAD_DONE 1) :
    exec .preLoadDone s = .next (if (s.imageSigned b && words.all fun p => preReservedOk p.1 p.2) = true then
      ((u.putPre { u.pre with provides := prologueProvides b }).set Reg.PRE_STATUS_STATE 2).set Reg.PRE_BUILD_BUILD (prologueBuild b)
      else (u.set Reg.PRE_STATUS_STATE 0).set Reg.PRE_STATUS_LOAD_FAIL 1) := by
  rw [hu, hb, hwords, ha]
  refine (if_pos hloading).trans ?_
  split <;> rfl

theorem exec_preRun_started (hr : s.reaches i 0x40520000 = true) (hready : 2 ≤ s.get Reg.PRE_STATUS_STATE)
    (hu : u = s.set Reg.PRE_CTRL_RUN 1) : exec (.preRun i true) s = .next { u.set Reg.PRE_STATUS_STATE 3 with bus := .written } := by
  subst hu
  exact congrArg Host.Outcome.next ((access_of_reaches hr).trans (if_neg (by simp [Nat.lt_of_succ_le hready])))

theorem exec_preRun_stopped (hr : s.reaches i 0x40520000 = true) (hrunning : s.get Reg.PRE_STATUS_STATE = 3)
    (hu : u = s.set Reg.PRE_CTRL_RUN 0) : exec (.preRun i false) s = .next { u.set Reg.PRE_STATUS_STATE 4 with bus := .written } := by
  subst hu
  refine congrArg Host.Outcome.next ((access_of_reaches hr).trans ((if_neg (by simp)).trans ?_))
  simp [hrunning, b2n]

theorem exec_preClrPeak (hr : s.reaches i 0x40520000 = true) :
    exec (.preClrPeak i) s = .next { s.set Reg.PRE_PEAK_CAPSULE_WAIT 0 with bus := .written } :=
  congrArg Host.Outcome.next (access_of_reaches hr)

end

/-! ### PDUs at the head of a connection -/

section
variable {n key bytes : Nat} {c : Conn} {s : State} {f : Conn → State → State}

theorem pdu_of_served (hconn : s.conn? n = some c) (hup : s.portUp (Prt.num c.port) = true) (hserves : s.serves key = true) :
    s.pdu n key bytes f = f { c with owed := c.owed + bytes } (s.putConn n { c with owed := c.owed + bytes }) := by
  obtain ⟨hpre, hkey⟩ := (Bool.and_eq_true _ _).mp hserves
  simp [State.pdu, hconn, hup, hpre, hkey]

theorem pdu_of_notValid (hconn : s.conn? n = some c) (hup : s.portUp (Prt.num c.port) = true) (hpre : s.preUp = true)
    (hkey : s.keyValid key = false) : s.pdu n key bytes f = s.terminate n := by
  simp [State.pdu, hconn, hup, hpre, hkey]

end

section
variable {conn : Nat} {c d : Conn} {s u : State}

theorem exec_icreq_answered {hdgst ddgst : Bool} {maxR2t : Nat} {e : Conn} (hconn : s.conn? conn = some c)
    (hup : s.portUp (Prt.num c.port) = true) (hserves : s.serves 0x00 = true) (hd : d = { c with owed := c.owed + 128 })
    (hu : u = s.putConn conn d) (hnew : c.ready = false)
    (he : e = { d.sends 128 s.clockNs with ready := true, hdgst := hdgst, ddgst := ddgst, maxR2t := maxR2t,
                                           window := max c.window (c.unacked + 128) }) :
    exec (.icreq conn 0 hdgst ddgst maxR2t) s = .next ((u.putConn conn e).emit (.icResp conn hdgst ddgst)) := by
  subst he hu hd
  exact congrArg Host.Outcome.next ((pdu_of_served hconn hup hserves).trans (if_neg (by simp [hnew])))

theorem exec_icreq_terminates {pfv : Nat} {hdgst ddgst : Bool} {maxR2t : Nat} (hconn : s.conn? conn = some c)
    (hup : s.portUp (Prt.num c.port) = true) (hserves : s.serves 0x00 = true) (hd : d = { c with owed := c.owed + 128 })
    (hu : u = s.putConn conn d) (hbad : c.ready = true ∨ pfv ≠ 0) :
    exec (.icreq conn pfv hdgst ddgst maxR2t) s = .next (u.terminate conn) := by
  subst hu hd
  exact congrArg Host.Outcome.next ((pdu_of_served hconn hup hserves).trans (if_pos (by simpa using hbad)))

theorem exec_h2cTermReq (hconn : s.conn? conn = some c) (hup : s.portUp (Prt.num c.port) = true) (hserves : s.serves 0x02 = true)
    (hd : d = { c with owed := c.owed + 24 }) (hu : u = s.putConn conn d) : exec (.h2cTermReq conn) s = .next (u.loseConn conn) := by
  subst hu hd
  exact congrArg Host.Outcome.next (pdu_of_served hconn hup hserves)

theorem exec_invalidPduType {key : Nat} (hconn : s.conn? conn = some c) (hup : s.portUp (Prt.num c.port) = true) (hpre : s.preUp = true)
    (hkey : s.keyValid key = false) : exec (.invalidPduType conn key) s = .next (s.terminate conn) :=
  congrArg Host.Outcome.next ((if_neg (by simp [hkey])).trans (pdu_of_notValid hconn hup hpre hkey))

end

/-- Settles O39, command by command. -/
theorem protocolEngineAndPdusRun : Obligations.ProtocolEngineAndPdusRun :=
  ⟨fun _ _ => exec_preLoad, fun _ _ _ _ _ => exec_preLoadDone, fun _ _ _ => exec_preRun_started, fun _ _ _ => exec_preRun_stopped,
    fun _ _ => exec_preClrPeak, fun _ _ _ _ _ _ _ _ _ => exec_icreq_answered, fun _ _ _ _ _ _ _ _ _ => exec_icreq_terminates,
    fun _ _ _ _ _ => exec_h2cTermReq, fun _ _ _ _ => exec_invalidPduType⟩

end Sys2Proof.Machine
end

section
/-!
The sorting office (O33, O35, R302, R316, R320, R323, R326, R328, R329, R333 to R335, R337, R338): a job taken from its ring has its
operation's effect; then an equation for each of the commands that look after the map, the bundles and the zones.
-/
namespace Sys2Proof.Machine

/-! ### Jobs -/

section
variable {i : Initiator} {tail : Nat} {s : State}

theorem exec_sofJobPost (hr : s.reaches i 0x40400030 = true) (hroom : s.sofQueued (tail % 512) ≤ 256) :
    exec (.sofJobPost i tail) s = .next { (s.set Reg.SOF_J_PTR_SJTAIL tail).sofRefresh with bus := .written } :=
  congrArg Host.Outcome.next ((access_of_reaches hr).trans (if_neg (Nat.not_lt.2 hroom)))

theorem exec_sofJobPost_overflow (hr : s.reaches i 0x40400030 = true) (hmany : 256 < s.sofQueued (tail % 512)) :
    exec (.sofJobPost i tail) s = .next ((s.set Reg.SOF_INT_J_OVF 1).ignored i 0x40400030) :=
  congrArg Host.Outcome.next ((access_of_reaches hr).trans (if_pos hmany))

end

/-- A job of a kind stands at SJHEAD of an office that takes jobs, with its operands (R337, R338). -/
structure State.SofJob (s : State) (kind tag count list out : Nat) (u : State) : Prop where
  powered : s.pdOn 24 = true
  enabled : s.get Reg.SOF_CTRL_ENABLE ≠ 0
  unpaused : s.get Reg.SOF_CTRL_PAUSE = 0
  room : s.sofRoom = true
  queued : s.sofQueued (s.get Reg.SOF_J_PTR_SJTAIL) ≠ 0
  kind_eq : bitsOf (s.sofWord 0) 31 28 = kind
  tag_eq : tag = bitsOf (s.sofWord 0) 15 0
  count_eq : count = bitsOf (s.sofWord 0) 27 16
  short : count ≤ 1024
  list_eq : list = s.sofWord 2 + 2 ^ 32 * s.sofWord 3
  out_eq : out = s.sofWord 4 + 2 ^ 32 * s.sofWord 5
  taken : u = s.set Reg.SOF_J_PTR_SJHEAD ((s.get Reg.SOF_J_PTR_SJHEAD + 1) % 512)

theorem imp_of_sofJob {s u : State} {kind tag count list out : Nat} {p : Prop} (h : s.SofJob kind tag count list out u → p) :
    s.pdOn 24 = true → s.get Reg.SOF_CTRL_ENABLE ≠ 0 → s.get Reg.SOF_CTRL_PAUSE = 0 → s.sofRoom = true →
      s.sofQueued (s.get Reg.SOF_J_PTR_SJTAIL) ≠ 0 → bitsOf (s.sofWord 0) 31 28 = kind → tag = bitsOf (s.sofWord 0) 15 0 →
      count = bitsOf (s.sofWord 0) 27 16 → count ≤ 1024 → list = s.sofWord 2 + 2 ^ 32 * s.sofWord 3 →
      out = s.sofWord 4 + 2 ^ 32 * s.sofWord 5 → u = s.set Reg.SOF_J_PTR_SJHEAD ((s.get Reg.SOF_J_PTR_SJHEAD + 1) % 512) → p :=
  fun hpowered henabled hunpaused hroom hqueued hkind htag hcount hshort hlist hout htaken =>
    h ⟨hpowered, henabled, hunpaused, hroom, hqueued, hkind, htag, hcount, hshort, hlist, hout, htaken⟩

/-- A job of a kind that is defined, and that the command picks, is carried out. -/
theorem sofTake_of_job {s u : State} {kind tag count list out : Nat} {pick : Nat → Bool}
    {f : Nat → Nat → Nat → Nat → State → State} (h : s.SofJob kind tag count list out u) (hpick : pick kind = true)
    (hdefined : 0 < kind ∧ kind ≤ 3) :
    s.sofTake pick f = f tag count list out u := by
  obtain ⟨hpowered, henabled, hunpaused, hroom, hqueued, rfl, rfl, rfl, hshort, rfl, rfl, rfl⟩ := h
  refine (if_neg (by simp [hpowered, on_of_get_ne henabled, on_of_get_eq hunpaused, hroom, hqueued])).trans ((if_pos hpick).trans ?_)
  exact if_neg (by simpa using ⟨⟨hdefined.1.ne', hdefined.2⟩, hshort⟩)

section
variable {tag count list out : Nat} {s u : State}

theorem exec_lookup {ents : List Nat} (h : s.SofJob 1 tag count list out u)
    (hents : ents = (List.range count).map fun k => if u.mapped (u.dram (list + 8 * k) 8) then u.mapEntry (u.dram (list + 8 * k) 8)
      else Config.refusedEntry (u.dram (list + 8 * k) 8) % 2 ^ 64) :
    exec .lookup s = .next (((u.unitReads list (8 * count) []).unitStore out ((ents.flatMap (leBytes 8)).map (BitVec.ofNat 8))).sofResult
      tag 0x00 0 0 0) := by
  subst hents
  exact congrArg Host.Outcome.next (sofTake_of_job h rfl (by decide))

theorem exec_switch {r : State × Nat × List Bool} {bad : List Nat} (h : s.SofJob 2 tag count list out u)
    (hr : r = (u.unitReads list (32 * count) []).switchJob ((List.range count).map (u.tripleAt list)))
    (hbad : bad = (List.range count).filter fun k => !r.2.2.getD k true) :
    exec .switch s = .next ((bad.foldl (fun s k => s.unitStore (list + 32 * k + 24) [1]) r.1).sofResult tag
      (if bad.isEmpty then 0x00 else 0x01) (count - bad.length) bad.length r.2.1) := by
  subst hbad hr
  exact congrArg Host.Outcome.next (sofTake_of_job h rfl (by decide))

theorem exec_validScan {valid : List Nat} (h : s.SofJob 3 tag count list out u)
    (hvalid : valid = (List.range count).filter fun k =>
      u.slotValid (bitsOf (s.sofWord 1) 30 26) (bitsOf (s.sofWord 1) 25 10) k (u.dram (list + 8 * k) 8)) :
    exec .validScan s = .next (((u.unitReads list (8 * count) []).unitStore out
      ((leBytes 128 (valid.foldl (fun n k => n + 2 ^ k) 0)).map (BitVec.ofNat 8))).sofResult tag 0x00 valid.length 0 0) := by
  subst hvalid
  exact congrArg Host.Outcome.next (sofTake_of_job h rfl (by decide))

end

/-- Settles O33: the post by its room, and each job by its operation. -/
theorem sortingJobsRun : Obligations.SortingJobsRun :=
  ⟨fun _ _ _ => exec_sofJobPost, fun _ _ _ => exec_sofJobPost_overflow, fun _ _ _ _ _ _ _ => imp_of_sofJob exec_lookup,
    fun _ _ _ _ _ _ _ _ => imp_of_sofJob exec_switch, fun _ _ _ _ _ _ _ => imp_of_sofJob exec_validScan⟩

/-! ### Bundles and zones -/

section
variable {k : Nat} {b : Bundle} {s : State}

theorem exec_bundlePlaceTimeout (hbundle : s.office.bundles[k]? = some b) (hopen : b.placed = false) (hmay : s.mayPlace = true)
    (hold : b.sinceMs + 5000 ≤ s.ms) : exec (.bundlePlaceTimeout k) s = .next (s.placeBundle k b) := by
  simp only [exec, execBundlePlaceTimeout, hbundle]
  exact if_pos (by simp [hopen, hmay, hold])

theorem exec_repack_empty (hbundle : s.office.bundles[k]? = some b) (hplaced : b.placed = true) (hmay : s.mayPlace = true)
    (hlive : s.bundleLive b = 0) (hpct : 0 < s.get Reg.SOF_KV_REPACK_PCT) :
    exec (.repack k) s =
      .next ((s.putOffice { s.office with bundles := s.office.bundles.eraseIdx k }).unmapAll [b.lpn] 0x05) := by
  simp only [exec, execRepack, hbundle]
  exact (if_neg (by simp [hplaced, hmay, hlive, Nat.ne_of_gt hpct])).trans (if_pos hlive)

theorem exec_repack_live {vs : List (Nat × Nat)} (hbundle : s.office.bundles[k]? = some b) (hplaced : b.placed = true)
    (hmay : s.mayPlace = true) (hlive : s.bundleLive b ≠ 0) (hfew : 100 * s.bundleLive b < s.get Reg.SOF_KV_REPACK_PCT * 2 ^ 18)
    (hvs : vs = b.values.filter fun v => (sGet? s.host.kv v.1).any fun e => e.bundled && e.lpn == b.lpn) :
    exec (.repack k) s = .next (vs.foldl (fun s v =>
      if s.office.bundles.any fun x => !x.placed && x.values.any fun w => w.1 == v.1 then s else s.bundleAdd b.nsid v.1 v.2) s) := by
  subst hvs
  simp only [exec, execRepack, hbundle]
  have hgoes : ¬(!b.placed || !s.mayPlace || s.get Reg.SOF_KV_REPACK_PCT * 2 ^ 18 ≤ 100 * s.bundleLive b) = true := by
    simpa [hplaced, hmay] using hfew
  exact (if_neg hgoes).trans (if_neg hlive)

end

section
variable {nsid k t : Nat} {n : Ns} {s : State}

theorem exec_zoneFinishRecommended (hns : sGet? s.host.nss nsid = some n) (hlags : (n.zone k).lagMs = some t)
    (hnew : (n.zone k).recommended = false) (hlong : t + 60000 * s.get Reg.SOF_ZONE_ZFR_MIN ≤ s.ms) :
    exec (.zoneFinishRecommended nsid k) s =
      .next ((s.putZone nsid k { n.zone k with recommended := true }).zoneChanged nsid k) := by
  simp only [exec, execZoneFinishRecommended, hns, hlags]
  exact if_pos (by simp [hnew, hlong])

theorem exec_zoneFinishByController (hns : sGet? s.host.nss nsid = some n) (hlags : (n.zone k).lagMs = some t)
    (htold : (n.zone k).recommended = true) (hlong : t + 120000 * s.get Reg.SOF_ZONE_ZFR_MIN ≤ s.ms) :
    exec (.zoneFinishByController nsid k) s = .next ((s.finishZone nsid k (n.zone k) true).zoneChanged nsid k) := by
  simp only [exec, execZoneFinishByController, hns, hlags]
  exact if_pos (by simp [htold, hlong])

end

/-! ### The map -/

section
variable {s u : State}

/-- With every segment loaded, a checkpoint keeps the whole map and trims the journal (R333). -/
theorem exec_mapCheckpoint {img : Sparse Nat} {o : Office} {v : State} (hpowered : s.pdOn 24 = true) (hcalm : s.powerEvent = false)
    (hloaded : s.office.unloaded = []) (hwrites : s.readsOnly = false) (himg : img = s.mapImage.foldl (fun m p => sIns m p.1 p.2) [])
    (ho : o = { s.office with ckpt := img, ckptSeq := s.sofSeq, trim := s.sofSeq, stamp := s.formatStamp,
                              savedRegions := s.office.regions })
    (hv : v = { s.putOffice o with mem := { s.mem with savedReads := s.mem.reads } })
    (hu : u = v.putOffice { v.office with journal := v.office.journal.filter fun r => v.office.trim ≤ r.seq }) :
    exec .mapCheckpoint s = .next (u.freeGroups false).resizeFc.floorCheck := by
  have hreads : u.readsOnly = false := by
    subst hu hv ho
    exact hwrites
  subst hu hv ho himg
  refine (if_neg (by simp [hpowered, hcalm])).trans ?_
  simp only [hloaded, List.contains_nil, List.filter_false, Bool.not_false, List.filter_true, List.isEmpty_nil, if_true]
  exact if_neg (Bool.eq_false_iff.1 hreads)

theorem exec_segmentLoad {k base : Nat} {ds : List (Nat × Nat × Nat)} {v w : State} (hunloaded : s.office.unloaded.contains k = true)
    (hbase : base = s.mapAddr 0)
    (hu : u = { s with cells := s.cells.filter fun c => !(base ≤ c.1 && (c.1 - base) / 2 ^ 22 == k) })
    (hv : v = (u.office.ckpt.filter fun p => p.1 / 2 ^ 22 == k).foldl (fun s p => s.putByte (base + p.1) (BitVec.ofNat 8 p.2)) u)
    (hds : ds = (v.office.journal.filter fun r => v.office.ckptSeq ≤ r.seq).flatMap (·.triples))
    (hw : w = (ds.filter fun t => 5 * t.1 / 2 ^ 22 == k).foldl (fun s t => s.putMap t.1 t.2.2) v) :
    exec (.segmentLoad k) s = .next (w.putOffice { w.office with unloaded := w.office.unloaded.erase k }) := by
  subst hw hds hv hu hbase
  exact if_neg (by simpa using hunloaded)

theorem exec_mapRebuild_begins (hnone : s.office.rebuildMap = false) :
    exec (.mapRebuild none) s = .next (((s.putOffice { s.office with rebuildMap := true }).setCritical 2).ledger 0x0051
      [0x40, 0, 0, 0, 0, 0, 0]) :=
  if_neg (by simp [hnone])

theorem exec_mapRebuild_ends {l : List (Nat × Nat × Nat)} (hbegun : s.office.rebuildMap = true)
    (hu : u = (l.filter fun t => l.all fun u => u.1 != t.1 || u.2.2 ≤ t.2.2).foldl
      (fun s t => if s.mapped t.1 then s.putMap t.1 t.2.1 else s) s) :
    exec (.mapRebuild (some l)) s = .next (u.putOffice { u.office with rebuildMap := false, unloaded := [] }) := by
  subst hu
  exact if_neg (by simp [hbegun])

end

/-! ### Refresh and releases -/

section
variable {place : Nat} {allGood : Bool} {s u : State}

theorem exec_refreshTrigger_region (hmay : s.mayPlace = true) (hcool : s.coolEnough = true)
    (hmany : 100 * s.get Reg.SOF_REFRESH_ATI_FC ≤ sGet s.office.regions place 0) :
    exec (.refreshTrigger .region place allGood) s = .next (s.putOffice { s.office with regions := sDel s.office.regions place }) :=
  (if_neg (by simp [hmay, hcool])).trans (if_pos hmany)

theorem exec_refreshTrigger_oneBit (hmay : s.mayPlace = true) (hcool : s.coolEnough = true)
    (hmany : 1000 * s.get Reg.SOF_REFRESH_READ_SLC ≤ sGet s.mem.reads (2 * place) 0) :
    exec (.refreshTrigger .oneBit place allGood) s =
      .next { s with mem := { s.mem with reads := sDel s.mem.reads (2 * place) } } :=
  (if_neg (by simp [hmay, hcool])).trans (if_pos hmany)

theorem exec_refreshTrigger_edge (hmay : s.mayPlace = true) (hcool : s.coolEnough = true)
    (hmany : s.get Reg.SOF_REFRESH_ATI_SC ≤ (s.band place).ati)
    (hu : u = s.putOffice { s.office with bands := sIns s.office.bands place { s.band place with ati := 0 } }) :
    exec (.refreshTrigger .edge place allGood) s = .next (if allGood then u else u.queueGroup (place + 1)) := by
  subst hu
  exact (if_neg (by simp [hmay, hcool])).trans (if_pos hmany)

theorem exec_locationRelease {k : Nat} {o : OldPlace} {readsEnded : Bool} (hold : s.office.old[k]? = some o)
    (hsafe : o.seq < s.office.trim) (hended : readsEnded = true ∨ o.reads = 0)
    (hu : u = s.putOffice { s.office with old := s.office.old.eraseIdx k }) :
    exec (.locationRelease k readsEnded) s = .next (u.freeGroups false) := by
  subst hu
  simp only [exec, execLocationRelease, hold]
  exact if_neg (by rcases hended with hended | hended <;> simp [hsafe, hended])

end

/-- Settles O35, command by command; a band's refresh by whether all its sectors were good. -/
theorem officeUpkeepRuns : Obligations.OfficeUpkeepRuns :=
  ⟨fun _ _ _ => exec_bundlePlaceTimeout, fun _ _ _ => exec_repack_empty, fun _ _ _ _ => exec_repack_live,
    fun _ _ _ _ _ => exec_zoneFinishRecommended, fun _ _ _ _ _ => exec_zoneFinishByController, fun _ _ _ _ _ => exec_mapCheckpoint,
    fun _ _ _ _ _ _ _ => exec_segmentLoad, fun _ => exec_mapRebuild_begins, fun _ _ _ => exec_mapRebuild_ends,
    fun _ _ _ => exec_refreshTrigger_region, fun _ _ _ => exec_refreshTrigger_oneBit,
    fun _ _ _ hmay hcool hmany hu => ⟨exec_refreshTrigger_edge hmay hcool hmany hu, exec_refreshTrigger_edge hmay hcool hmany hu⟩,
    fun _ _ _ _ _ => exec_locationRelease⟩

end Sys2Proof.Machine
end

section
/-!
Consignments, keys and head retirement (O36, O37, R343, R347, R351, R353, R356, R358 to R361, R364, R365): a job taken from its ring that
is not bad has its operation's effect; then an equation for each of the other commands.
-/
namespace Sys2Proof.Machine

/-! ### Jobs -/

section
variable {i : Initiator} {tail : Nat} {s : State}

theorem exec_cnsJobPost (hr : s.reaches i 0x40410010 = true) (hroom : s.cnsQueued (tail % 512) ≤ 256) :
    exec (.cnsJobPost i tail) s = .next { (s.set Reg.CNS_J_PTR_CJTAIL tail).cnsRefresh with bus := .written } :=
  congrArg Host.Outcome.next ((access_of_reaches hr).trans (if_neg (Nat.not_lt.2 hroom)))

theorem exec_cnsJobPost_overflow (hr : s.reaches i 0x40410010 = true) (hmany : 256 < s.cnsQueued (tail % 512)) :
    exec (.cnsJobPost i tail) s = .next ((s.set Reg.CNS_INT_J_OVF 1).ignored i 0x40410010) :=
  congrArg Host.Outcome.next ((access_of_reaches hr).trans (if_pos hmany))

end

/-- The job at CJHEAD (R365). -/
def State.cnsHead (s : State) : CnsJob :=
  ⟨bitsOf (s.cnsWord 0) 15 0, bitsOf (s.cnsWord 0) 27 22, s.cnsWord 1, bitsOf (s.cnsWord 2) 8 0, s.cnsWord 1 + 2 ^ 32 * s.cnsWord 3,
    s.cnsWord 4 + 2 ^ 32 * s.cnsWord 5, s.cnsWord 6 + 2 ^ 32 * s.cnsWord 7⟩

/-- A job of a kind that is not bad stands at CJHEAD of an engine that takes jobs (R364, R365). -/
structure State.CnsRuns (s : State) (kind : Nat) (j : CnsJob) (u : State) : Prop where
  powered : s.pdOn 24 = true
  enabled : s.get Reg.CNS_CTRL_ENABLE ≠ 0
  unpaused : s.get Reg.CNS_CTRL_PAUSE = 0
  room : s.cnsRoom = true
  queued : s.cnsQueued (s.get Reg.CNS_J_PTR_CJTAIL) ≠ 0
  kind_eq : bitsOf (s.cnsWord 0) 31 28 = kind
  job_eq : j = s.cnsHead
  good : s.cnsBad kind j = false
  taken : u = s.set Reg.CNS_J_PTR_CJHEAD ((s.get Reg.CNS_J_PTR_CJHEAD + 1) % 512)

theorem imp_of_cnsRuns {s u : State} {kind : Nat} {j : CnsJob} {p : Prop} (h : s.CnsRuns kind j u → p) :
    s.pdOn 24 = true → s.get Reg.CNS_CTRL_ENABLE ≠ 0 → s.get Reg.CNS_CTRL_PAUSE = 0 → s.cnsRoom = true →
      s.cnsQueued (s.get Reg.CNS_J_PTR_CJTAIL) ≠ 0 → bitsOf (s.cnsWord 0) 31 28 = kind → j = s.cnsHead → s.cnsBad kind j = false →
      u = s.set Reg.CNS_J_PTR_CJHEAD ((s.get Reg.CNS_J_PTR_CJHEAD + 1) % 512) → p :=
  fun hpowered henabled hunpaused hroom hqueued hkind hjob hgood htaken =>
    h ⟨hpowered, henabled, hunpaused, hroom, hqueued, hkind, hjob, hgood, htaken⟩

theorem cnsTake_of_runs {s u : State} {kind : Nat} {j : CnsJob} {pick : Nat → Bool} {f : CnsJob → State → State}
    (h : s.CnsRuns kind j u) (hpick : pick kind = true) : s.cnsTake pick f = f j u := by
  obtain ⟨hpowered, henabled, hunpaused, hroom, hqueued, rfl, rfl, hgood, rfl⟩ := h
  refine (if_neg (by simp [hpowered, on_of_get_ne henabled, on_of_get_eq hunpaused, hroom, hqueued])).trans ?_
  exact (if_neg (by simp [hpick])).trans (if_neg (Bool.eq_false_iff.1 hgood))

section
variable {errs : List EccErr} {j : CnsJob} {ms : List Nat} {n : Nat} {out : Nat → Bool} {s u v : State}

theorem exec_encrypt (h : s.CnsRuns 1 j u) : exec (.encrypt errs) s = .next (u.cnsCrypt false j errs) :=
  congrArg Host.Outcome.next (cnsTake_of_runs h rfl)

theorem exec_decrypt (h : s.CnsRuns 2 j u) : exec (.decrypt errs) s = .next (u.cnsCrypt true j errs) :=
  congrArg Host.Outcome.next (cnsTake_of_runs h rfl)

theorem exec_encode (h : s.CnsRuns 3 j u) (hms : ms = u.members j.src) (hn : n = 4096 * j.sectors)
    (hout : out = fun i => decide (u.layoutKM.1 ≤ i)) (hread : u.membersRead ms n out errs = true) :
    exec (.encode errs) s = .next (((u.membersEcc ms n out errs).writeMembers ms n out out).cnsResult j.tag 0x00 0) := by
  subst hms hn hout
  exact congrArg Host.Outcome.next ((cnsTake_of_runs h rfl).trans (if_pos hread))

theorem exec_decode (h : s.CnsRuns 4 j u) (hms : ms = u.members j.src) (hn : n = 4096 * j.sectors)
    (hout : out = fun i => bitOf j.mask i) (hread : u.membersRead ms n out errs = true)
    (hv : v = (u.membersEcc ms n out errs).inc Reg.CNS_COUNTS_DECODES) :
    exec (.decode errs) s =
      .next (((v.writeMembers ms n out out).decodeServes ms n j.mask (v.consignCheck ms n j.mask)).cnsResult j.tag 0x00 0) := by
  subst hms hn hout hv
  exact congrArg Host.Outcome.next ((cnsTake_of_runs h rfl).trans (if_pos hread))

end

/-! ### Keys -/

section
variable {i : Initiator} {slot : Nat} {s v : State}

theorem keyOp_of_reaches {op : Nat} {f : State → State} (hr : s.reaches i 0x40410030 = true)
    (hv : v = s.setAll [(Reg.CNS_KEY_CTRL_OP, op), (Reg.CNS_KEY_CTRL_SLOT, slot), (Reg.CNS_KEY_CTRL_GO, 0)]) :
    s.keyOp i op slot f = { f v with bus := .written } := by
  subst hv
  exact access_of_reaches hr

theorem exec_generateKey (hr : s.reaches i 0x40410030 = true)
    (hv : v = s.setAll [(Reg.CNS_KEY_CTRL_OP, 2), (Reg.CNS_KEY_CTRL_SLOT, slot % 64), (Reg.CNS_KEY_CTRL_GO, 0)]) :
    exec (.generateKey i slot) s = .next { (v.generateKey (slot % 64)).store (v.generateKey (slot % 64)).keyAddr
      ((((v.generateKey (slot % 64)).wrapped (slot % 64)).getD []).map (BitVec.ofNat 8)) with bus := .written } :=
  congrArg Host.Outcome.next (keyOp_of_reaches hr hv)

theorem exec_clearKeySlot (hr : s.reaches i 0x40410030 = true)
    (hv : v = s.setAll [(Reg.CNS_KEY_CTRL_OP, 3), (Reg.CNS_KEY_CTRL_SLOT, slot % 64), (Reg.CNS_KEY_CTRL_GO, 0)]) :
    exec (.clearKeySlot i slot) s = .next { v.putKey (slot % 64) none with bus := .written } :=
  congrArg Host.Outcome.next (keyOp_of_reaches hr hv)

theorem exec_clearAllKeySlots (hr : s.reaches i 0x40410030 = true)
    (hv : v = s.setAll [(Reg.CNS_KEY_CTRL_OP, 4), (Reg.CNS_KEY_CTRL_SLOT, 0), (Reg.CNS_KEY_CTRL_GO, 0)]) :
    exec (.clearAllKeySlots i) s = .next { v.clearKeys with bus := .written } :=
  congrArg Host.Outcome.next (keyOp_of_reaches hr hv)

theorem exec_kekLoad {w : Nat} {u : State} (hr : s.reaches i 0x4041011C = true) (hu : u = s.set (Reg.CNS_KEK_KEK 7) w) :
    exec (.kekLoad i w) s =
      .next { (u.putCons { u.cons with kek := (List.range 8).map fun n => (n, u.get (Reg.CNS_KEK_KEK n)) }).set Reg.CNS_KEY_STAT_NO_KEK 0
        with bus := .written } := by
  subst hu
  exact congrArg Host.Outcome.next (access_of_reaches hr)

end

/-! ### Retirement, rebuild and scrub -/

theorem exec_headRetirement {surface trigger : Nat} {s : State} (hsurface : surface < 32)
    (hfitted : s.fitted (Act.num (surface / 8)) = true) (hnew : s.headRetired (Act.num (surface / 8)) (surface % 8) = false)
    (hmet : s.retireTrigger surface trigger = true) :
    exec (.headRetirement surface trigger) s = .next (s.retireHead surface trigger) :=
  if_pos (by simp [hsurface, hfitted, hnew, hmet])

/-- A unit of a first-class pair moves to its replacement, its other copy being there to read (R356, R359). -/
theorem exec_rebuildUnitCommit_pair {lost new : Nat × Nat} {rest : List (Nat × Nat)} {p : Pair} {s : State}
    (htodo : s.cons.todo = lost :: rest) (hrebuilds : s.cons.rebuild = 2) (hmay : s.mayPlace = true)
    (hpair : (s.office.pairs.find? fun p => p.a == lost || p.b == lost) = some p) (hlost : p.a = lost) (hother : s.gone p.b.1 = false)
    (hnew : s.replacement (s.surfaces.filter fun x => x / 8 != p.b.1 / 8) lost = some new) :
    exec (.rebuildUnitCommit true) s = .next ((s.rebuildPair lost new).unitDone lost.1 true) := by
  simp only [exec, execRebuildUnitCommit, htodo, hpair, if_pos hlost, hother, Bool.false_eq_true, if_false, hnew]
  exact if_neg (by simp [hrebuilds, hmay])

theorem exec_parityScrub_good {g : Nat} {e : Group} {seen : List Nat} {all : Bool} {s : State} (hgroup : sGet? s.office.groups g = some e)
    (hfull : e.closed = true) (hwhole : s.missing e = 0) (hcalm : s.powerEvent = false)
    (hseen : seen = if s.cons.scrubbed.contains g then s.cons.scrubbed else g :: s.cons.scrubbed)
    (hall : all = ((s.office.groups.filter fun p => p.2.closed && s.missing p.2 == 0).all fun p => seen.contains p.1)) :
    exec (.parityScrub g none) s =
      .next (s.putCons { s.cons with scrubbed := if all then [] else seen, lapMs := if all then s.ms else s.cons.lapMs }) := by
  subst hall hseen
  simp only [exec, execParityScrub, hgroup]
  exact if_neg (by simp [hfull, hwhole, hcalm])

/-- Settles O36: the post by its room, and each job by its operation; a check tells what it finds once its members are read. -/
theorem consignmentJobsRun : Obligations.ConsignmentJobsRun := by
  refine ⟨fun _ _ _ => exec_cnsJobPost, fun _ _ _ => exec_cnsJobPost_overflow, fun _ _ _ _ => imp_of_cnsRuns exec_encrypt,
    fun _ _ _ _ => imp_of_cnsRuns exec_decrypt, fun _ _ _ _ _ _ _ => imp_of_cnsRuns exec_encode,
    fun _ _ _ _ _ _ _ _ => imp_of_cnsRuns exec_decode,
    fun _ _ _ _ _ _ _ _ => imp_of_cnsRuns fun h hms hn hout hread hv => ?_⟩
  subst hms hn hout hv
  exact congrArg Host.Outcome.next ((cnsTake_of_runs h rfl).trans (if_neg (by simp [hread])))

/-- Settles O37, command by command. -/
theorem keysAndRetirementRun : Obligations.KeysAndRetirementRun :=
  ⟨fun _ _ _ _ hr hv => congrArg Host.Outcome.next (keyOp_of_reaches hr hv), fun _ _ _ _ => exec_generateKey,
    fun _ _ _ _ => exec_clearKeySlot, fun _ _ _ => exec_clearAllKeySlots, fun _ _ _ _ => exec_kekLoad,
    fun _ _ _ => exec_headRetirement, fun _ _ _ _ _ => exec_rebuildUnitCommit_pair, fun _ _ _ _ _ => exec_parityScrub_good⟩

end Sys2Proof.Machine
end

section
/-!
Bags, the pigeonhole cache, the scrubber and the slip table (O40, R409, R410, R416, R422, R423): which bag an allocation takes, and what a
flush leaves dirty; then an equation for each command.
-/
namespace Sys2Proof.Machine

/-! ### Bags -/

theorem pickBag_of_free {s : State} {n pick : Nat} (hsome : s.poolFree n ≠ 0) (hpick : pick < poolBags n)
    (hfree : s.bagFree (bagHandle n pick) = true) : s.pickBag n pick = some (bagHandle n pick) :=
  (if_neg hsome).trans (if_pos (by simp [hpick, hfree]))

theorem pickBag_of_empty {s : State} {n pick : Nat} (h : s.poolFree n = 0) : s.pickBag n pick = none := if_pos h

/-- The pools that an allocation from pool `n` may take from, its own first (R409). -/
def State.poolsFor (s : State) (n : Nat) : List Nat :=
  if s.bit Reg.BPM_CTRL_FALLBACK n then [n, n + 1, n + 2, n + 3].filter (· < 4) else [n]

theorem head_poolsFor {s : State} {n : Nat} (hn : n < 4) : ∃ l, s.poolsFor n = n :: l := by
  unfold State.poolsFor
  split
  · exact ⟨_, List.filter_cons_of_pos (by simpa using hn)⟩
  · exact ⟨[], rfl⟩

theorem le_of_mem_poolsFor {s : State} {n k : Nat} (hn : n < 4) (hk : k ∈ s.poolsFor n) : n ≤ k ∧ k < 4 := by
  unfold State.poolsFor at hk
  split at hk
  · simp only [List.mem_filter, List.mem_cons, List.not_mem_nil, or_false, decide_eq_true_eq] at hk
    omega
  · rw [List.mem_singleton.1 hk]
    exact ⟨Nat.le_refl n, hn⟩

theorem bagAlloc_of_picked {s : State} {n pick h : Nat} (hn : n < 4) (hpick : s.pickBag n pick = some h) :
    s.bagAlloc n pick = (s.setOwners h 1, some h) := by
  obtain ⟨l, hl⟩ := head_poolsFor (s := s) hn
  have hhead : ((s.poolsFor n).filterMap fun k => s.pickBag k pick).head? = some h := by
    rw [hl, List.filterMap_cons_some (f := fun k => s.pickBag k pick) hpick, List.head?_cons]
  rw [State.poolsFor] at hhead
  simp only [State.bagAlloc, hhead]

theorem bagAlloc_of_none {s : State} {n pick : Nat} (hn : n < 4) (hnone : ∀ k, n ≤ k → k < 4 → s.poolFree k = 0) :
    s.bagAlloc n pick = ((s.inc (Reg.BPM_FREE_EMPTY n)).setBit Reg.BPM_INT_EMPTY n true, none) := by
  have hempty : ((s.poolsFor n).filterMap fun k => s.pickBag k pick) = [] :=
    List.filterMap_eq_nil_iff.2 fun k hk =>
      have hpool := le_of_mem_poolsFor hn hk
      pickBag_of_empty (hnone k hpool.1 hpool.2)
  rw [State.poolsFor] at hempty
  simp only [State.bagAlloc, hempty, List.head?_nil]

section
variable {i : Initiator} {n pick h : Nat} {s u : State}

theorem exec_bpmAlloc (hr : s.reaches i (0x40600040 + 4 * n) = true) (hn : n < 4) :
    exec (.bpmAlloc i n pick) s = .next { (s.bagAlloc n pick).1 with bus := .read ((s.bagAlloc n pick).2.getD noBag) } := by
  simp only [exec, execBpmAlloc, Nat.mod_eq_of_lt hn, access_of_reaches hr]

theorem exec_bpmAlloc_given (hr : s.reaches i (0x40600040 + 4 * n) = true) (hn : n < 4) (hsome : s.poolFree n ≠ 0)
    (hpick : pick < poolBags n) (hfree : s.bagFree (bagHandle n pick) = true) :
    exec (.bpmAlloc i n pick) s = .next { s.setOwners (bagHandle n pick) 1 with bus := .read (bagHandle n pick) } := by
  rw [exec_bpmAlloc hr hn, bagAlloc_of_picked hn (pickBag_of_free hsome hpick hfree)]
  rfl

theorem exec_bpmAlloc_empty (hr : s.reaches i (0x40600040 + 4 * n) = true) (hn : n < 4)
    (hnone : ∀ k, n ≤ k → k < 4 → s.poolFree k = 0) (hu : u = s.inc (Reg.BPM_FREE_EMPTY n)) :
    exec (.bpmAlloc i n pick) s = .next { u.setBit Reg.BPM_INT_EMPTY n true with bus := .read 0xFFFFFFFF } := by
  rw [exec_bpmAlloc hr hn, bagAlloc_of_none hn hnone, hu]
  rfl

theorem exec_bpmRelease (hr : s.reaches i 0x40600050 = true) (hnamed : bagNamed h = true) (howned : s.owners h ≠ 0)
    (hu : u = s.setOwners h (s.owners h - 1)) (hkept : s.bags.marked.contains h = false) :
    exec (.bpmRelease i h) s = .next { u with bus := .written } := by
  have hmarked : ¬((s.setOwners h (s.owners h - 1)).owners h == 0 && (s.setOwners h (s.owners h - 1)).bags.marked.contains h) = true := by
    rw [show (s.setOwners h (s.owners h - 1)).bags.marked = s.bags.marked from rfl, hkept, Bool.and_false]
    decide
  subst hu
  refine congrArg Host.Outcome.next ((access_of_reaches hr).trans (congrArg (fun t : State => { t with bus := .written }) ?_))
  exact (if_neg (by simp [hnamed, howned])).trans (if_neg hmarked)

theorem exec_bpmRelease_bad (hr : s.reaches i 0x40600050 = true) (hbad : bagNamed h = false ∨ s.owners h = 0)
    (hu : u = s.set Reg.BPM_INT_BAD_OP 1) :
    exec (.bpmRelease i h) s = .next { u.event 0x60 0x02 h (initiatorCode i) with bus := .written } := by
  subst hu
  refine congrArg Host.Outcome.next ((access_of_reaches hr).trans (congrArg (fun t : State => { t with bus := .written }) ?_))
  exact if_pos (by simpa using hbad)

theorem exec_bpmShare (hr : s.reaches i 0x40600054 = true) (hnamed : bagNamed h = true) (howned : s.owners h ≠ 0)
    (hroom : s.owners h ≠ 15) : exec (.bpmShare i h) s = .next { s.setOwners h (s.owners h + 1) with bus := .written } := by
  refine congrArg Host.Outcome.next ((access_of_reaches hr).trans (congrArg (fun t : State => { t with bus := .written }) ?_))
  exact if_neg (by simp [hnamed, howned, hroom])

theorem exec_bpmShare_bad (hr : s.reaches i 0x40600054 = true) (hbad : bagNamed h = false ∨ s.owners h = 0 ∨ s.owners h = 15)
    (hu : u = s.set Reg.BPM_INT_BAD_OP 1) :
    exec (.bpmShare i h) s = .next { u.event 0x60 0x02 h (initiatorCode i) with bus := .written } := by
  subst hu
  refine congrArg Host.Outcome.next ((access_of_reaches hr).trans (congrArg (fun t : State => { t with bus := .written }) ?_))
  exact if_pos (by simpa [or_assoc] using hbad)

end

/-! ### The cache -/

theorem filter_dirty_clean (l : Sparse PhcLine) : ((l.map fun w => (w.1, { w.2 with dirty := false })).filter fun w => w.2.dirty) = [] := by
  simp only [List.filter_map, List.map_eq_nil_iff, List.filter_eq_nil_iff]
  exact fun _ _ => Bool.false_ne_true

theorem phcDirty_phcFlush (s : State) : s.phcFlush.phcDirty = [] := by
  simp [State.phcDirty, State.phcFlush, List.flatMap_map, filter_dirty_clean]

theorem exec_phcFlush {i : Initiator} {s u : State} (hr : s.reaches i 0x40610000 = true) (hu : u = s.phcFlush) :
    exec (.phcFlush i) s = .next { u with bus := .written } ∧ u.phcDirty = [] := by
  subst hu
  exact ⟨congrArg Host.Outcome.next (access_of_reaches hr), phcDirty_phcFlush s⟩

/-- Whether a line lies in a window's range (R416). -/
def State.inWindow (s : State) (n l : Nat) : Prop :=
  s.get (Reg.PHC_WIN_BASE_ADDR n) * 4096 ≤ l * 128 ∧ l * 128 < (s.get (Reg.PHC_WIN_LIM_ADDR n) + 1) * 4096

theorem exec_phcWindowWrite_base {i : Initiator} {n v : Nat} {s u : State} (hn : n < 4) (hr : s.reaches i (0x40610010 + 8 * n) = true)
    (hu : u = s.set (Reg.PHC_WIN_BASE_ADDR n) (bitsOf v 22 0))
    (hclean : ∀ l ∈ s.phcDirty, ¬ s.inWindow n l ∧ ¬ (u.set (Reg.PHC_WIN_BASE_POLICY n) (bitsOf v 31 30)).inWindow n l) :
    exec (.phcWindowWrite i n false v) s = .next { u.set (Reg.PHC_WIN_BASE_POLICY n) (bitsOf v 31 30) with bus := .written } := by
  subst hu
  simp only [exec, execPhcWindowWrite, Nat.mod_eq_of_lt hn]
  refine congrArg Host.Outcome.next ((access_of_reaches hr).trans (if_neg ?_))
  rw [List.any_eq_true]
  rintro ⟨l, hl, hin⟩
  obtain ⟨hold, hnew⟩ := hclean l hl
  rw [Bool.or_eq_true, Bool.and_eq_true, Bool.and_eq_true] at hin
  rcases hin with hin | hin
  · exact hold (hin.imp of_decide_eq_true of_decide_eq_true)
  · exact hnew (hin.imp of_decide_eq_true of_decide_eq_true)

theorem exec_phcWindowWrite_limDirty {i : Initiator} {n v : Nat} {s : State} (hn : n < 4) (hr : s.reaches i (0x40610014 + 8 * n) = true)
    (hdirty : (s.phcDirty.any fun l => s.get (Reg.PHC_WIN_BASE_ADDR n) * 4096 ≤ l * 128 &&
      l * 128 < (s.get (Reg.PHC_WIN_LIM_ADDR n) + 1) * 4096) = true) :
    exec (.phcWindowWrite i n true v) s = .next (s.ignored i (0x40610014 + 8 * n)) := by
  have ha : 0x40610010 + 8 * n + 4 * b2n true = 0x40610014 + 8 * n := by
    simp only [b2n, if_true]
    omega
  simp only [exec, execPhcWindowWrite, Nat.mod_eq_of_lt hn, ha]
  refine congrArg Host.Outcome.next ((access_of_reaches hr).trans (if_pos ?_))
  obtain ⟨l, hl, hin⟩ := List.any_eq_true.1 hdirty
  exact List.any_eq_true.2 ⟨l, hl, Bool.or_eq_true_iff.2 (.inl hin)⟩

/-! ### The DRAM and the slips -/

theorem exec_dramScrubRead {errs : List EccErr} {k : Nat} {s u : State} (hpowered : s.pdOn 28 = true) (hstorage : s.pdOn 22 = true)
    (hup : s.get Reg.MEM_STATUS_STATE = 1) (hk : k = s.scrubNext s.mem.scrubAt) (hu : u = s.dramRead (k * 64) 64 errs)
    (hnext : k < u.scrubNext ((k + 1) % 2 ^ 29)) :
    exec (.dramScrubRead errs) s = .next { u with mem := { u.mem with scrubAt := u.scrubNext ((k + 1) % 2 ^ 29) } } := by
  subst hu hk
  exact (if_neg (by simp [hpowered, hstorage, hup])).trans (if_neg (Nat.not_le.2 hnext))

theorem exec_slipTableSave {s : State} (hunsaved : s.mem.unsaved = true) (hpowered : s.pdOn 23 = true) :
    exec .slipTableSave s = .next { s with mem := { s.mem with slips := s.slipTable, unsaved := false } } :=
  if_pos (by simp [hunsaved, hpowered])

/-- Settles O40, command by command. -/
theorem bagsCacheAndSlipsRun : Obligations.BagsCacheAndSlipsRun :=
  ⟨fun _ _ _ _ => exec_bpmAlloc_given, fun _ _ _ _ _ => exec_bpmAlloc_empty, fun _ _ _ _ => exec_bpmRelease,
    fun _ _ _ _ => exec_bpmRelease_bad, fun _ _ _ => exec_bpmShare, fun _ _ _ _ => exec_bpmShare_bad, fun _ _ _ => exec_phcFlush,
    fun _ _ _ _ _ => exec_phcWindowWrite_base, fun _ _ _ _ => exec_phcWindowWrite_limDirty, fun _ _ _ _ => exec_dramScrubRead,
    fun _ => exec_slipTableSave⟩

end Sys2Proof.Machine
end

section
/-!
The strongroom's NAND controller (O42, R329, R424 to R427): a command that its channel may take ends at once where it is bad or meets a bus
error, and else with what its operation does; then an equation for each command.
-/
namespace Sys2Proof.Machine

/-- An outstanding command of an operation, with no earlier one of its block before it, with its operands (R424, R425). -/
structure State.NandHead (s : State) (k p e op area block count first : Nat) : Prop where
  powered : s.pdOn 23 = true
  enabled : s.get Reg.NFC_CTRL_ENABLE = 1
  outstanding : s.nandOutstanding[k]? = some p
  entry_eq : e = s.nandEntry p
  op_eq : bitsOf (s.dword e) 31 28 = op
  block_eq : s.nandBlockOf p = (area, block)
  earliest : ((s.nandOutstanding.take k).any fun q => s.nandBlockOf q == (area, block)) = false
  count_eq : count = bitsOf (s.dword (e + 8)) 31 16
  first_eq : first = bitsOf (s.dword (e + 8)) 15 0

/-- Such a command that lies inside its area, with its buffer. -/
structure State.NandRuns (s : State) (k p e op area block count first b : Nat) : Prop extends
    s.NandHead k p e op area block count first where
  some_pages : 0 < count
  inside : first + count ≤ nandPages area
  block_lt : block < nandBlocks
  buffer_eq : b = s.dword (e + 16) + 2 ^ 32 * s.dword (e + 20)

section
variable {s : State} {k p e op area block count first b : Nat}

theorem imp_of_nandHead {q : Prop} (h : s.NandHead k p e op area block count first → q) :
    s.pdOn 23 = true → s.get Reg.NFC_CTRL_ENABLE = 1 → s.nandOutstanding[k]? = some p → e = s.nandEntry p →
      bitsOf (s.dword e) 31 28 = op → s.nandBlockOf p = (area, block) →
      ((s.nandOutstanding.take k).any fun q => s.nandBlockOf q == (area, block)) = false →
      count = bitsOf (s.dword (e + 8)) 31 16 → first = bitsOf (s.dword (e + 8)) 15 0 → q :=
  fun hpowered henabled hout hentry hop hblock hearliest hcount hfirst =>
    h ⟨hpowered, henabled, hout, hentry, hop, hblock, hearliest, hcount, hfirst⟩

theorem imp_of_nandRuns {q : Prop} (h : s.NandRuns k p e op area block count first b → q) :
    s.pdOn 23 = true → s.get Reg.NFC_CTRL_ENABLE = 1 → s.nandOutstanding[k]? = some p → e = s.nandEntry p →
      bitsOf (s.dword e) 31 28 = op → s.nandBlockOf p = (area, block) →
      ((s.nandOutstanding.take k).any fun q => s.nandBlockOf q == (area, block)) = false →
      count = bitsOf (s.dword (e + 8)) 31 16 → first = bitsOf (s.dword (e + 8)) 15 0 → 0 < count →
      first + count ≤ nandPages area → block < nandBlocks → b = s.dword (e + 16) + 2 ^ 32 * s.dword (e + 20) → q :=
  imp_of_nandHead fun hhead hsome hinside hblock hbuffer => h ⟨hhead, hsome, hinside, hblock, hbuffer⟩

/-- What becomes of a command that its channel takes. -/
theorem nandTake_of_head {pick : Nat → Bool} {busErr : Bool} {f : Nat → Nat → Nat → Nat → Nat → State → State × Nat × Nat}
    {r : State × Nat × Nat} (h : s.NandHead k p e op area block count first) (hpick : pick op = true)
    (hr : r = f area block first count (s.dword (e + 16) + 2 ^ 32 * s.dword (e + 20)) s) :
    s.nandTake k pick busErr f =
      if op = 0 || 3 < op || count = 0 || nandPages area < first + count || nandBlocks ≤ block then s.nandEnd k p 0x05 0
      else if busErr then s.nandEnd k p 0x40 0
      else r.1.nandEnd k p r.2.1 r.2.2 := by
  obtain ⟨hpowered, henabled, hout, rfl, rfl, hblock, hearliest, rfl, rfl⟩ := h
  have hon : s.on Reg.NFC_CTRL_ENABLE = true := on_of_get_ne (by simp [henabled])
  subst hr
  simp only [State.nandTake, hpowered, hon, hout, hblock, hpick, hearliest, Bool.not_true, Bool.or_self, Bool.false_eq_true, if_false]

theorem nandTake_bad {pick : Nat → Bool} {busErr : Bool} {f : Nat → Nat → Nat → Nat → Nat → State → State × Nat × Nat}
    (h : s.NandHead k p e op area block count first) (hpick : pick op = true)
    (hbad : count = 0 ∨ nandPages area < first + count ∨ nandBlocks ≤ block) :
    s.nandTake k pick busErr f = s.nandEnd k p 0x05 0 :=
  (nandTake_of_head h hpick rfl).trans (if_pos (by
    rcases hbad with hbad | hbad | hbad <;> simp [hbad]))

theorem nandTake_busError {pick : Nat → Bool} {f : Nat → Nat → Nat → Nat → Nat → State → State × Nat × Nat}
    (h : s.NandRuns k p e op area block count first b) (hpick : pick op = true) (hdefined : 0 < op ∧ op ≤ 3) :
    s.nandTake k pick true f = s.nandEnd k p 0x40 0 := by
  obtain ⟨hhead, hsome, hinside, hblock, -⟩ := h
  exact (nandTake_of_head hhead hpick rfl).trans
    ((if_neg (by simp [hdefined.1.ne', hdefined.2, hsome.ne', hinside, hblock])).trans (if_pos rfl))

theorem nandTake_of_runs {pick : Nat → Bool} {f : Nat → Nat → Nat → Nat → Nat → State → State × Nat × Nat} {t : State}
    {st bits : Nat} (h : s.NandRuns k p e op area block count first b) (hpick : pick op = true) (hdefined : 0 < op ∧ op ≤ 3)
    (hf : f area block first count b s = (t, st, bits)) : s.nandTake k pick false f = t.nandEnd k p st bits := by
  obtain ⟨hhead, hsome, hinside, hblock, rfl⟩ := h
  exact (nandTake_of_head hhead hpick hf.symm).trans
    ((if_neg (by simp [hdefined.1.ne', hdefined.2, hsome.ne', hinside, hblock])).trans (if_neg Bool.false_ne_true))

end

/-! ### The tail -/

theorem exec_nandQtailWrite {i : Initiator} {tail : Nat} {s u : State} (hr : s.reaches i 0x40640010 = true)
    (hroom : (tail % 512 + 512 - s.get Reg.NFC_Q_PTR_NQHEAD) % 512 ≤ 256) (hu : u = s.set Reg.NFC_Q_PTR_NQTAIL tail) :
    exec (.nandQtailWrite i tail) s = .next { u.nfcRefresh with bus := .written } := by
  subst hu
  exact congrArg Host.Outcome.next ((access_of_reaches hr).trans (if_neg (Nat.not_lt.2 hroom)))

theorem exec_nandQtailWrite_ignored {i : Initiator} {tail : Nat} {s : State} (hr : s.reaches i 0x40640010 = true)
    (hmany : 256 < (tail % 512 + 512 - s.get Reg.NFC_Q_PTR_NQHEAD) % 512) :
    exec (.nandQtailWrite i tail) s = .next (s.ignored i 0x40640010) :=
  congrArg Host.Outcome.next ((access_of_reaches hr).trans (if_pos hmany))

/-! ### Reading -/

section
variable {k p e area block count first b maxBits : Nat} {shifted busErr : Bool} {s t u : State}

theorem exec_nandRead_good (h : s.NandRuns k p e 1 area block count first b) (hbits : maxBits ≤ 72)
    (ht : t = { s with mem := { s.mem with
      reads := sIns s.mem.reads (2 * block + area) (sGet s.mem.reads (2 * block + area) 0 + count) } })
    (hu : u = t.store b ((List.range (count * 16384)).map fun i => t.nandByte (nandAddr area block first + i))) :
    exec (.nandRead k shifted maxBits false) s = .next (u.nandEnd k p (if shifted = true then 0x01 else 0x00) maxBits) := by
  subst hu ht
  exact congrArg Host.Outcome.next (nandTake_of_runs h rfl (by decide) (if_neg (Nat.not_lt.2 hbits)))

/-- Beyond what the code corrects, no data is brought (R427). -/
theorem exec_nandRead_uncorrectable (h : s.NandRuns k p e 1 area block count first b) (hbits : 72 < maxBits)
    (ht : t = { s with mem := { s.mem with
      reads := sIns s.mem.reads (2 * block + area) (sGet s.mem.reads (2 * block + area) 0 + count) } }) :
    exec (.nandRead k shifted maxBits false) s = .next (t.nandEnd k p 0x02 maxBits) := by
  subst ht
  exact congrArg Host.Outcome.next (nandTake_of_runs h rfl (by decide) (if_pos hbits))

theorem exec_nandRead_busError (h : s.NandRuns k p e 1 area block count first b) :
    exec (.nandRead k shifted maxBits true) s = .next (s.nandEnd k p 0x40 0) :=
  congrArg Host.Outcome.next (nandTake_busError h rfl (by decide))

theorem exec_nandRead_bad (h : s.NandHead k p e 1 area block count first)
    (hbad : count = 0 ∨ nandPages area < first + count ∨ nandBlocks ≤ block) :
    exec (.nandRead k shifted maxBits busErr) s = .next (s.nandEnd k p 0x05 0) :=
  congrArg Host.Outcome.next (nandTake_bad h rfl hbad)

end

/-! ### Programming and erasing -/

section
variable {k p e area block count first b die st : Nat} {fails : Bool} {s v t : State}

theorem exec_nandProgram (h : s.NandRuns k p e 2 area block count first b)
    (hread : s.unreadable s.phcOwns b (count * 16384) [] = none)
    (hreplace : (s.dramRead b (count * 16384) []).nandReplace (die % 8) fails = (v, st)) (hst : st ≠ 4)
    (ht : t = v.putNand (nandAddr area block first) (v.bytes b (count * 16384))) :
    exec (.nandProgram k die fails false) s = .next ({ t with mem := { t.mem with
      erased := if area = 0 then t.mem.erased.erase block else t.mem.erased,
      reads := sDel t.mem.reads (2 * block + area) } }.nandEnd k p st 0) := by
  subst ht
  refine congrArg Host.Outcome.next (nandTake_of_runs h rfl (by decide) ?_)
  simp only [hread, hreplace, Option.isSome_none, Bool.false_eq_true, if_false, if_neg hst]

theorem exec_nandProgram_noSpare (h : s.NandRuns k p e 2 area block count first b)
    (hread : s.unreadable s.phcOwns b (count * 16384) [] = none)
    (hreplace : (s.dramRead b (count * 16384) []).nandReplace (die % 8) fails = (v, 4)) :
    exec (.nandProgram k die fails false) s = .next (v.nandEnd k p 0x04 0) := by
  refine congrArg Host.Outcome.next (nandTake_of_runs h rfl (by decide) ?_)
  simp only [hread, hreplace, Option.isSome_none, Bool.false_eq_true, if_false, if_true]

theorem exec_nandErase (h : s.NandRuns k p e 3 area block count first b) (hreplace : s.nandReplace (die % 8) fails = (v, st))
    (hst : st ≠ 4) (ht : t = v.eraseNand (nandAddr area block 0) (nandPages area * 16384)) :
    exec (.nandErase k die fails false) s = .next ({ t with mem := { t.mem with
      erased := if area = 0 ∧ t.mem.erased.contains block = false then block :: t.mem.erased else t.mem.erased,
      reads := sDel t.mem.reads (2 * block + area) } }.nandEnd k p st 0) := by
  subst ht
  refine congrArg Host.Outcome.next (nandTake_of_runs h rfl (by decide) ?_)
  simp [hreplace, hst]

end

/-- Settles O42, command by command. -/
theorem nandRuns : Obligations.NandRuns :=
  ⟨fun _ _ _ _ => exec_nandQtailWrite, fun _ _ _ => exec_nandQtailWrite_ignored,
    fun _ _ _ _ _ _ _ _ _ _ _ _ _ => imp_of_nandRuns exec_nandRead_good,
    fun _ _ _ _ _ _ _ _ _ _ _ _ => imp_of_nandRuns exec_nandRead_uncorrectable,
    fun _ _ _ _ _ _ _ _ _ _ _ => imp_of_nandRuns exec_nandRead_busError,
    fun _ _ _ _ _ _ _ _ _ _ _ => imp_of_nandHead exec_nandRead_bad,
    fun _ _ _ _ _ _ _ _ _ _ _ _ _ _ => imp_of_nandRuns exec_nandProgram,
    fun _ _ _ _ _ _ _ _ _ _ _ _ => imp_of_nandRuns exec_nandProgram_noSpare,
    fun _ _ _ _ _ _ _ _ _ _ _ _ _ _ => imp_of_nandRuns exec_nandErase⟩

end Sys2Proof.Machine
end

section
/-!
The carrier engines (O41, R417 to R420): a docket at a channel's head is refused or moves its data; its transfer ends at the first error
with the bytes before it, or else with the docket done; then an equation for each command.
-/
namespace Sys2Proof.Machine

/-! ### The docket that a channel takes -/

/-- An enabled channel that is not stopped, with a docket at its head (R417, R418). -/
structure State.DocketHead (s : State) (c a : Nat) : Prop where
  channel : c < 64
  powered : s.pdOn 22 = true
  enabled : s.get (Reg.DMA_CH_CTRL_ENABLE c) = 1
  goes : s.get (Reg.DMA_CH_STATUS_STATE c) ≠ 2
  queued : s.dmaQueued c (s.get (Reg.DMA_CH_PTR_TAIL c)) ≠ 0
  addr_eq : a = s.docketAddr c

/-- Such a docket that is owned by the engine, of an opcode and with a good length. -/
structure State.DocketRuns (s : State) (c a n op : Nat) : Prop extends s.DocketHead c a where
  length_eq : n = s.dword (a + 4)
  some_bytes : 0 < n
  short : n ≤ 2 ^ 26
  owned : bitOf (s.dword a) 31 = true
  op_eq : bitsOf (s.dword a) 30 28 = op

section
variable {s : State} {c a n op : Nat}

theorem imp_of_docketHead {q : Prop} (h : s.DocketHead c a → q) :
    c < 64 → s.pdOn 22 = true → s.get (Reg.DMA_CH_CTRL_ENABLE c) = 1 → s.get (Reg.DMA_CH_STATUS_STATE c) ≠ 2 →
      s.dmaQueued c (s.get (Reg.DMA_CH_PTR_TAIL c)) ≠ 0 → a = s.docketAddr c → q :=
  fun hc hpowered henabled hgoes hqueued ha => h ⟨hc, hpowered, henabled, hgoes, hqueued, ha⟩

theorem imp_of_docketRuns {q : Prop} (h : s.DocketRuns c a n op → q) :
    c < 64 → s.pdOn 22 = true → s.get (Reg.DMA_CH_CTRL_ENABLE c) = 1 → s.get (Reg.DMA_CH_STATUS_STATE c) ≠ 2 →
      s.dmaQueued c (s.get (Reg.DMA_CH_PTR_TAIL c)) ≠ 0 → a = s.docketAddr c → n = s.dword (a + 4) → 0 < n → n ≤ 2 ^ 26 →
      bitOf (s.dword a) 31 = true → bitsOf (s.dword a) 30 28 = op → q :=
  imp_of_docketHead fun hhead hn hsome hshort howned hop => h ⟨hhead, hn, hsome, hshort, howned, hop⟩

/-- What becomes of a docket that its channel takes (R417, R418). -/
theorem takeDocket_of_head {pick : Nat → Bool} {errs : List EccErr} {fab : Fabric} (h : s.DocketHead c a)
    (hpick : pick (bitsOf (s.dword a) 30 28) = true) :
    s.takeDocket (c % 64) pick errs fab =
      if !bitOf (s.dword a) 31 then s.docketEnd c 0x04 0 a
      else if bitsOf (s.dword a) 30 28 = 0 || 4 < bitsOf (s.dword a) 30 28 || s.dword (a + 4) = 0 || 2 ^ 26 < s.dword (a + 4) then
        s.docketEnd c 0x05 0 a
      else s.runDocket c (bitsOf (s.dword a) 30 28) errs fab := by
  obtain ⟨hc, hpowered, henabled, hgoes, hqueued, rfl⟩ := h
  have hon : s.on (Reg.DMA_CH_CTRL_ENABLE c) = true := on_of_get_ne (by simp [henabled])
  rw [Nat.mod_eq_of_lt hc]
  exact (if_neg (by simp [hpowered, hon, hgoes, hqueued])).trans (if_neg (by simp [hpick]))

theorem takeDocket_of_runs {pick : Nat → Bool} {errs : List EccErr} {fab : Fabric} (h : s.DocketRuns c a n op) (hpick : pick op = true)
    (hdefined : 0 < op ∧ op ≤ 4) : s.takeDocket (c % 64) pick errs fab = s.runDocket c op errs fab := by
  obtain ⟨hhead, rfl, hsome, hshort, howned, rfl⟩ := h
  refine (takeDocket_of_head hhead hpick).trans ((if_neg (by simp [howned])).trans (if_neg ?_))
  simpa [hdefined.1.ne', hsome.ne'] using ⟨hdefined.2, hshort⟩

end

/-! ### Its transfer -/

/-- What is left of a docket once all its data has moved (R417): the CRC written or checked, the docket done, and its bag given back. -/
def State.docketDone (s : State) (c op n a : Nat) (data : List Byte) : State :=
  let crc := crc32c (data.map (·.toNat))
  let st := if op = 4 && crc != s.dword (a + 24) then 0x03 else 0x00
  let s := if op = 3 then s.storeWords (a + 24) [crc] else s
  let t := s.docketEnd c st n a
  if s.dword (a + 28) = noBag then t else t.bagRelease (s.dword (a + 28)) 0x62

/-- The operands of a docket that copies (R417). -/
structure State.DocketCopies (s : State) (a x d : Nat) : Prop where
  source_eq : x = s.dword (a + 8) + 2 ^ 32 * s.dword (a + 12)
  dest_eq : d = s.dword (a + 16) + 2 ^ 32 * s.dword (a + 20)

section
variable {s u : State} {c a n op x d k : Nat} {errs : List EccErr} {fab : Fabric}

theorem runDocket_done (ha : a = s.docketAddr c) (hn : n = s.dword (a + 4)) (hop : op ≠ 2) (h : s.DocketCopies a x d)
    (hstop : s.transferStop (some x) d n errs fab = none) (hu : u = (s.dramRead x n errs).store d (s.bytes x n)) :
    s.runDocket c op errs fab = (if (s.fabricStop d n).isSome || (s.fabricStop x n).isSome then u.fabricHit else u).docketDone c op n a
      (s.bytes x n) := by
  obtain ⟨hx, hd⟩ := h
  have hsource : s.dword (a + 4 * 2) + 2 ^ 32 * s.dword (a + 4 * 2 + 4) = x := hx.symm
  have hdest : s.dword (a + 4 * 4) + 2 ^ 32 * s.dword (a + 4 * 4 + 4) = d := hd.symm
  subst hu
  simp only [State.runDocket, ← ha, ← hn, if_neg hop, hsource, hdest, hstop, Option.any_some]
  rfl

/-- An error of the source ends the transfer with the bytes before it (R419). -/
theorem runDocket_sourceError (ha : a = s.docketAddr c) (hn : n = s.dword (a + 4)) (hop : op ≠ 2) (h : s.DocketCopies a x d)
    (hstop : s.transferStop (some x) d n errs fab = some (k, 1)) (hdest : (s.fabricStop d n).isSome = false)
    (hsource : (s.fabricStop x n).isSome = false) (hu : u = (s.dramRead x (min n (k + 1)) errs).store d (s.bytes x k)) :
    s.runDocket c op errs fab = u.docketEnd c 0x01 k (x + k) := by
  obtain ⟨hx, hd⟩ := h
  have hx' : s.dword (a + 4 * 2) + 2 ^ 32 * s.dword (a + 4 * 2 + 4) = x := hx.symm
  have hd' : s.dword (a + 4 * 4) + 2 ^ 32 * s.dword (a + 4 * 4 + 4) = d := hd.symm
  subst hu
  simp only [State.runDocket, ← ha, ← hn, if_neg hop, hx', hd', hstop, Option.any_some, hdest, hsource]
  rfl

/-- So does one of the destination (R419). -/
theorem runDocket_destError (ha : a = s.docketAddr c) (hn : n = s.dword (a + 4)) (hop : op ≠ 2) (h : s.DocketCopies a x d)
    (hstop : s.transferStop (some x) d n errs fab = some (k, 2)) (hdest : (s.fabricStop d n).isSome = false)
    (hsource : (s.fabricStop x n).isSome = false) (hu : u = (s.dramRead x k errs).store d (s.bytes x k)) :
    s.runDocket c op errs fab = u.docketEnd c 0x02 k (d + k) := by
  obtain ⟨hx, hd⟩ := h
  have hx' : s.dword (a + 4 * 2) + 2 ^ 32 * s.dword (a + 4 * 2 + 4) = x := hx.symm
  have hd' : s.dword (a + 4 * 4) + 2 ^ 32 * s.dword (a + 4 * 4 + 4) = d := hd.symm
  subst hu
  simp only [State.runDocket, ← ha, ← hn, if_neg hop, hx', hd', hstop, Option.any_some, hdest, hsource]
  rfl

theorem runDocket_filled (ha : a = s.docketAddr c) (hn : n = s.dword (a + 4)) (hd : d = s.dword (a + 16) + 2 ^ 32 * s.dword (a + 20))
    (hstop : s.transferStop none d n errs fab = none) (hmet : (s.fabricStop d n).isSome = false)
    (hu : u = s.store d ((List.range n).map fun k => BitVec.ofNat 8 (s.dword (a + 8) / 256 ^ (k % 4)))) :
    s.runDocket c 2 errs fab =
      u.docketDone c 2 n a ((List.range n).map fun k => BitVec.ofNat 8 (s.dword (a + 8) / 256 ^ (k % 4))) := by
  have hd' : s.dword (a + 4 * 4) + 2 ^ 32 * s.dword (a + 4 * 4 + 4) = d := hd.symm
  subst hu
  simp only [State.runDocket, ← ha, ← hn, if_true, hd', hstop, hmet, Option.any_none, Bool.or_self, Bool.false_eq_true, if_false]
  rfl

end

section
variable {s : State} {c op n a : Nat} {data : List Byte}

/-- Neither CRC opcode: the docket is done with 0x00. -/
theorem docketDone_noCrc (hop : op ≠ 3 ∧ op ≠ 4) : s.docketDone c op n a data =
    if s.dword (a + 28) = noBag then s.docketEnd c 0x00 n a else (s.docketEnd c 0x00 n a).bagRelease (s.dword (a + 28)) 0x62 := by
  simp [State.docketDone, hop]

theorem docketDone_writeCrc {t : State} (ht : t = s.storeWords (a + 24) [crc32c (data.map (·.toNat))])
    (hbag : t.dword (a + 28) = noBag) : s.docketDone c 3 n a data = t.docketEnd c 0x00 n a := by
  subst ht
  simp [State.docketDone, hbag]

theorem docketDone_checkCrc (hbag : s.dword (a + 28) = noBag) : s.docketDone c 4 n a data =
    s.docketEnd c (if crc32c (data.map (·.toNat)) = s.dword (a + 24) then 0x00 else 0x03) n a := by
  simp [State.docketDone, hbag, ite_not]

end

/-! ### Copies and fills -/

section
variable {s u : State} {c a n d x h k : Nat} {errs : List EccErr} {fab : Fabric}

theorem exec_copy_done (hruns : s.DocketRuns c a n 1) (hcopies : s.DocketCopies a x d)
    (hstop : s.transferStop (some x) d n errs fab = none)
    (hu : u = if (s.fabricStop d n).isSome || (s.fabricStop x n).isSome then ((s.dramRead x n errs).store d (s.bytes x n)).fabricHit
      else (s.dramRead x n errs).store d (s.bytes x n)) :
    exec (.copy c errs fab) s = .next (if u.dword (a + 28) = noBag then u.docketEnd c 0x00 n a
      else (u.docketEnd c 0x00 n a).bagRelease (u.dword (a + 28)) 0x62) := by
  subst hu
  exact congrArg Host.Outcome.next ((takeDocket_of_runs hruns rfl (by decide)).trans
    ((runDocket_done hruns.addr_eq hruns.length_eq (by decide) hcopies hstop rfl).trans (docketDone_noCrc (by decide))))

theorem exec_copy_sourceError (hruns : s.DocketRuns c a n 1) (hcopies : s.DocketCopies a x d)
    (hstop : s.transferStop (some x) d n errs fab = some (k, 1)) (hdest : (s.fabricStop d n).isSome = false)
    (hsource : (s.fabricStop x n).isSome = false) (hu : u = (s.dramRead x (min n (k + 1)) errs).store d (s.bytes x k)) :
    exec (.copy c errs fab) s = .next (u.docketEnd c 0x01 k (x + k)) :=
  congrArg Host.Outcome.next ((takeDocket_of_runs hruns rfl (by decide)).trans
    (runDocket_sourceError hruns.addr_eq hruns.length_eq (by decide) hcopies hstop hdest hsource hu))

theorem exec_copy_destError (hruns : s.DocketRuns c a n 1) (hcopies : s.DocketCopies a x d)
    (hstop : s.transferStop (some x) d n errs fab = some (k, 2)) (hdest : (s.fabricStop d n).isSome = false)
    (hsource : (s.fabricStop x n).isSome = false) (hu : u = (s.dramRead x k errs).store d (s.bytes x k)) :
    exec (.copy c errs fab) s = .next (u.docketEnd c 0x02 k (d + k)) :=
  congrArg Host.Outcome.next ((takeDocket_of_runs hruns rfl (by decide)).trans
    (runDocket_destError hruns.addr_eq hruns.length_eq (by decide) hcopies hstop hdest hsource hu))

theorem exec_copyAndWriteCrc (hruns : s.DocketRuns c a n 3) (hcopies : s.DocketCopies a x d)
    (hstop : s.transferStop (some x) d n errs fab = none) (hdest : (s.fabricStop d n).isSome = false)
    (hsource : (s.fabricStop x n).isSome = false) (hu : u = (s.dramRead x n errs).store d (s.bytes x n))
    (hbag : (u.storeWords (a + 24) [crc32c ((s.bytes x n).map (·.toNat))]).dword (a + 28) = 0xFFFFFFFF) :
    exec (.copyAndWriteCrc c errs fab) s =
      .next ((u.storeWords (a + 24) [crc32c ((s.bytes x n).map (·.toNat))]).docketEnd c 0x00 n a) := by
  refine congrArg Host.Outcome.next ((takeDocket_of_runs hruns rfl (by decide)).trans
    ((runDocket_done hruns.addr_eq hruns.length_eq (by decide) hcopies hstop hu).trans ?_))
  rw [hdest, hsource]
  exact docketDone_writeCrc rfl hbag

theorem exec_copyAndCheckCrc (hruns : s.DocketRuns c a n 4) (hcopies : s.DocketCopies a x d)
    (hstop : s.transferStop (some x) d n errs fab = none) (hdest : (s.fabricStop d n).isSome = false)
    (hsource : (s.fabricStop x n).isSome = false) (hu : u = (s.dramRead x n errs).store d (s.bytes x n))
    (hbag : u.dword (a + 28) = 0xFFFFFFFF) :
    exec (.copyAndCheckCrc c errs fab) s = .next (u.docketEnd c
      (if crc32c ((s.bytes x n).map (·.toNat)) = u.dword (a + 24) then 0x00 else 0x03) n a) := by
  refine congrArg Host.Outcome.next ((takeDocket_of_runs hruns rfl (by decide)).trans
    ((runDocket_done hruns.addr_eq hruns.length_eq (by decide) hcopies hstop hu).trans ?_))
  rw [hdest, hsource]
  exact docketDone_checkCrc hbag

theorem exec_fill (hruns : s.DocketRuns c a n 2) (hd : d = s.dword (a + 16) + 2 ^ 32 * s.dword (a + 20))
    (hstop : s.transferStop none d n [] fab = none) (hmet : (s.fabricStop d n).isSome = false)
    (hu : u = s.store d ((List.range n).map fun k => BitVec.ofNat 8 (s.dword (a + 8) / 256 ^ (k % 4))))
    (hbag : u.dword (a + 28) = 0xFFFFFFFF) : exec (.fill c fab) s = .next (u.docketEnd c 0x00 n a) :=
  congrArg Host.Outcome.next ((takeDocket_of_runs hruns rfl (by decide)).trans
    ((runDocket_filled hruns.addr_eq hruns.length_eq hd hstop hmet hu).trans ((docketDone_noCrc (by decide)).trans (if_pos hbag))))

/-! ### Dockets that are refused -/

theorem exec_copy_notOwned (hhead : s.DocketHead c a)
    (hop : bitsOf (s.dword a) 30 28 ≠ 2 ∧ bitsOf (s.dword a) 30 28 ≠ 3 ∧ bitsOf (s.dword a) 30 28 ≠ 4)
    (hnot : bitOf (s.dword a) 31 = false) : exec (.copy c errs fab) s = .next (s.docketEnd c 0x04 0 a) :=
  congrArg Host.Outcome.next ((takeDocket_of_head hhead (by simp [hop])).trans (if_pos (by simp [hnot])))

theorem exec_copy_bad (hhead : s.DocketHead c a)
    (hop : bitsOf (s.dword a) 30 28 ≠ 2 ∧ bitsOf (s.dword a) 30 28 ≠ 3 ∧ bitsOf (s.dword a) 30 28 ≠ 4)
    (howned : bitOf (s.dword a) 31 = true) (hbad : bitsOf (s.dword a) 30 28 ≠ 1 ∨ s.dword (a + 4) = 0 ∨ 2 ^ 26 < s.dword (a + 4)) :
    exec (.copy c errs fab) s = .next (s.docketEnd c 0x05 0 a) := by
  have hrefused : bitsOf (s.dword a) 30 28 = 0 ∨ 4 < bitsOf (s.dword a) 30 28 ∨ s.dword (a + 4) = 0 ∨ 2 ^ 26 < s.dword (a + 4) := by
    omega
  exact congrArg Host.Outcome.next ((takeDocket_of_head hhead (by simp [hop])).trans
    ((if_neg (by simp [howned])).trans (if_pos (by simpa [or_assoc] using hrefused))))

end

/-! ### Tails, RESUME and STOP -/

section
variable {i : Initiator} {c tail : Nat} {s u : State}

theorem exec_dmaTailWrite (hc : c < 64) (hr : s.reaches i (0x40620108 + 32 * c) = true) (hroom : s.dmaQueued c (tail % 512) ≤ 256)
    (hu : u = s.set (Reg.DMA_CH_PTR_TAIL c) tail) : exec (.dmaTailWrite i c tail) s = .next { u.dmaRefresh c with bus := .written } := by
  subst hu
  simp only [exec, execDmaTailWrite, Nat.mod_eq_of_lt hc]
  exact congrArg Host.Outcome.next ((access_of_reaches hr).trans (if_neg (Nat.not_lt.2 hroom)))

theorem exec_dmaTailWrite_ignored (hc : c < 64) (hr : s.reaches i (0x40620108 + 32 * c) = true) (hmany : 256 < s.dmaQueued c (tail % 512)) :
    exec (.dmaTailWrite i c tail) s = .next (s.ignored i (0x40620108 + 32 * c)) := by
  simp only [exec, execDmaTailWrite, Nat.mod_eq_of_lt hc]
  exact congrArg Host.Outcome.next ((access_of_reaches hr).trans (if_pos hmany))

theorem exec_dmaResume (hc : c < 64) (hr : s.reaches i (0x4062010C + 32 * c) = true) (hstopped : s.get (Reg.DMA_CH_STATUS_STATE c) = 2)
    (hu : u = s.set (Reg.DMA_CH_STATUS_STATE c) 0) : exec (.dmaResume i c) s = .next { u.dmaRefresh c with bus := .written } := by
  subst hu
  simp only [exec, execDmaResume, Nat.mod_eq_of_lt hc, access_of_reaches hr, if_pos hstopped]

/-- Where no docket moves, STOP only ends those queued (R419). -/
theorem exec_dmaStop {moved n : Nat} (hc : c < 64) (hr : s.reaches i (0x4062010C + 32 * c) = true)
    (hidle : s.get (Reg.DMA_CH_STATUS_STATE c) ≠ 1) (hn : n = s.dmaQueued c (s.get (Reg.DMA_CH_PTR_TAIL c)))
    (hu : u = (s.set (Reg.DMA_CH_STATUS_STATE c) 0).stopDockets c n) :
    exec (.dmaStop i c moved) s = .next { u.set (Reg.DMA_CH_STATUS_STATE c) 0 with bus := .written } := by
  subst hu hn
  simp only [exec, execDmaStop, Nat.mod_eq_of_lt hc, access_of_reaches hr, hidle, decide_false, Bool.false_and, Bool.false_eq_true,
    if_false]

end

/-- Settles O41, command by command; a copy by whether it meets an injection of the fabric, and by its bag. -/
theorem docketsRun : Obligations.DocketsRun := by
  refine ⟨fun _ _ _ _ _ => exec_dmaTailWrite, fun _ _ _ _ => exec_dmaTailWrite_ignored,
    fun _ _ _ _ _ _ _ _ _ => imp_of_docketRuns fun h hx hd hstop hdest hsource hu hbag => ?_,
    fun _ _ _ _ _ _ _ _ _ _ => imp_of_docketRuns fun h hx hd hstop hdest hsource hu hh hbag => ?_,
    fun _ _ _ _ _ _ _ _ _ => imp_of_docketRuns fun h hx hd hstop hmet hu hbag => ?_,
    fun _ _ _ _ _ _ _ _ _ _ => imp_of_docketRuns fun h hx hd => exec_copy_sourceError h ⟨hx, hd⟩,
    fun _ _ _ _ _ _ _ _ _ _ => imp_of_docketRuns fun h hx hd => exec_copy_destError h ⟨hx, hd⟩,
    fun _ _ _ _ _ _ _ _ _ => imp_of_docketRuns fun h hx hd => exec_copyAndWriteCrc h ⟨hx, hd⟩,
    fun _ _ _ _ _ _ _ _ _ => imp_of_docketRuns fun h hx hd => exec_copyAndCheckCrc h ⟨hx, hd⟩,
    fun _ _ _ _ _ _ _ => imp_of_docketRuns exec_fill, fun _ _ _ _ _ => imp_of_docketHead exec_copy_notOwned,
    fun _ _ _ _ _ => imp_of_docketHead exec_copy_bad, fun _ _ _ _ => exec_dmaResume, fun _ _ _ _ _ _ => exec_dmaStop⟩
  · exact (exec_copy_done h ⟨hx, hd⟩ hstop (hu.trans (by simp [hdest, hsource]))).trans (congrArg _ (if_pos hbag))
  · subst hh
    exact (exec_copy_done h ⟨hx, hd⟩ hstop (hu.trans (by simp [hdest, hsource]))).trans (congrArg _ (if_neg hbag))
  · exact (exec_copy_done h ⟨hx, hd⟩ hstop ((congrArg _ hu).trans (if_pos hmet).symm)).trans (congrArg _ (if_pos hbag))

end Sys2Proof.Machine
end

section
/-!
The returns desk, injection and the registry ledger (O44, R448, R450, R451, R453, R454, R461, R462), and NVMe-MI (O48, R401, R402): an
equation for each command.
-/
namespace Sys2Proof.Machine

/-! ### The desk -/

section
variable {i : Initiator} {p : Nat} {r : CapRec} {s u : State}

theorem exec_fltDone (hr : s.reaches i 0x40710010 = true) (hcurrent : s.desk.current = some p) (hrec : sGet? s.desk.recs p = some r)
    (up : Bool) : exec (.fltDone i up p) s =
      .next { (if up then s.raiseUp p r else s.closeRec p 2 r.level).releaseNext with bus := .written } := by
  simp only [exec, execFltDone, access_of_reaches hr, hcurrent, hrec, beq_self_eq_true]

theorem exec_fltDone_ignored {up : Bool} (hr : s.reaches i 0x40710010 = true) (hother : s.desk.current ≠ some p) :
    exec (.fltDone i up p) s = .next (s.ignored i 0x40710010) := by
  have hnot : (s.desk.current == some p) = false := beq_eq_false_iff_ne.2 hother
  simp only [exec, execFltDone, access_of_reaches hr, hnot]

theorem exec_faultHandlerTimeout (hcurrent : s.desk.current = some p) (hrec : sGet? s.desk.recs p = some r)
    (hlong : 10 * max 1 (s.get (if r.level = 4 then Reg.FLT_TMO_TMO4 else Reg.FLT_TMO_TMO5)) ≤ s.ms - s.desk.sinceMs)
    (hu : u = { s with desk := { s.desk with timeouts := s.desk.timeouts + 1 } }.set Reg.FLT_INT_RAISED 1) :
    exec .faultHandlerTimeout s = .next (u.raiseUp p r).releaseNext := by
  subst hu
  simp only [exec, execFaultHandlerTimeout, hcurrent, hrec]
  exact if_pos hlong

theorem exec_fltCapDataRead {k w : Nat} (hr : s.reaches i 0x4071000C = true)
    (hk : k = 8 * s.get Reg.FLT_CAP_ADDR_RECORD + s.get Reg.FLT_CAP_ADDR_WORD) (hplace : k / 8 ≤ 64)
    (hw : w = ((sGet? s.desk.recs (k / 8)).map fun r => r.word (k % 8)).getD 0) :
    exec (.fltCapDataRead i) s =
      .next { (s.set Reg.FLT_CAP_ADDR_WORD (k + 1)).set Reg.FLT_CAP_ADDR_RECORD ((k + 1) / 8) with bus := .read w } := by
  subst hw
  simp only [exec, execFltCapDataRead, access_of_reaches hr, ← hk, if_neg (Nat.not_lt.2 hplace)]

end

/-! ### Injection -/

section
variable {i : Initiator} {target bits : Nat} {sticky : Bool} {s u v : State}

theorem exec_faultInjectionArm (hr : s.reaches i 0x40710040 = true) (hphase : s.get Reg.PWR_STATUS_PHASE = 1)
    (hclosed : s.get Reg.SYS_SEAL_STATUS_STATE = 0) (hu : u = if s.get Reg.FLT_INJ_CTRL_ARM = 0 then s else s.disarm)
    (hv : v = u.setAll [(Reg.FLT_INJ_CTRL_TARGET, target), (Reg.FLT_INJ_CTRL_BITS, bits), (Reg.FLT_INJ_CTRL_STICKY, b2n sticky)])
    (hlow : 1 ≤ target) (hhigh : target ≤ 4) :
    exec (.faultInjectionArm i target bits sticky) s = .next { v.set Reg.FLT_INJ_CTRL_ARM 1 with bus := .written } := by
  have hfree : (if s.on Reg.FLT_INJ_CTRL_ARM then s.disarm else s) = u := by
    rw [hu]
    by_cases harm : s.get Reg.FLT_INJ_CTRL_ARM = 0
    · rw [on_of_get_eq harm, if_pos harm]
      exact if_neg Bool.false_ne_true
    · rw [on_of_get_ne harm, if_neg harm]
      exact if_pos rfl
  have htarget : b2n (1 ≤ target && target ≤ 4) = 1 := by simp [b2n, hlow, hhigh]
  subst hv
  refine congrArg Host.Outcome.next ((access_of_reaches hr).trans ((if_neg (by simp [hphase, hclosed])).trans ?_))
  rw [htarget, hfree]

theorem exec_faultInjectionArm_ignored (hr : s.reaches i 0x40710040 = true)
    (hnot : s.get Reg.PWR_STATUS_PHASE ≠ 1 ∨ s.get Reg.SYS_SEAL_STATUS_STATE ≠ 0) :
    exec (.faultInjectionArm i target bits sticky) s = .next (s.ignored i 0x40710040) :=
  congrArg Host.Outcome.next ((access_of_reaches hr).trans (if_pos (by simpa using hnot)))

theorem exec_faultInjectionDisarm (hr : s.reaches i 0x40710040 = true) (hu : u = s.disarm) :
    exec (.faultInjectionDisarm i) s = .next { u with bus := .written } ∧ u.get Reg.FLT_INJ_CTRL_ARM = 0 := by
  subst hu
  exact ⟨congrArg Host.Outcome.next (access_of_reaches hr), get_set_same _ _ _⟩

end

/-! ### The ledger -/

section
variable {i : Initiator} {n q : Nat} {s u : State}

theorem map_writeData (s : State) (n : Nat) : ((List.range 7).map fun k => s.get (Reg.LDG_WRITE_DATA n (k + 1))) =
    [s.get (Reg.LDG_WRITE_DATA n 1), s.get (Reg.LDG_WRITE_DATA n 2), s.get (Reg.LDG_WRITE_DATA n 3), s.get (Reg.LDG_WRITE_DATA n 4),
      s.get (Reg.LDG_WRITE_DATA n 5), s.get (Reg.LDG_WRITE_DATA n 6), s.get (Reg.LDG_WRITE_DATA n 7)] := rfl

theorem exec_ldgCommit_staged (hr : s.reaches (.core n) 0x40720060 = true)
    (hcommit : s.ldgCommit (s.get (Reg.LDG_WRITE_DATA n 0) % 2 ^ 16) ((List.range 7).map fun k => s.get (Reg.LDG_WRITE_DATA n (k + 1))) =
      (u, some q)) :
    exec (.ldgCommit n) s = .next { (u.set (Reg.LDG_RESULT_DROPPED n) 0).set (Reg.LDG_LAST_SEQ n) q with bus := .written } := by
  rw [map_writeData] at hcommit
  simp only [exec, execLdgCommit, access_of_reaches hr, hcommit]
  rfl

theorem exec_ldgCommit_dropped (hr : s.reaches (.core n) 0x40720060 = true)
    (hcommit : s.ldgCommit (s.get (Reg.LDG_WRITE_DATA n 0) % 2 ^ 16) ((List.range 7).map fun k => s.get (Reg.LDG_WRITE_DATA n (k + 1))) =
      (u, none)) :
    exec (.ldgCommit n) s = .next { u.set (Reg.LDG_RESULT_DROPPED n) 1 with bus := .written } := by
  rw [map_writeData] at hcommit
  simp only [exec, execLdgCommit, access_of_reaches hr, hcommit]
  rfl

theorem exec_ledgerFreeze (hr : s.reaches i 0x40720000 = true) :
    exec (.ledgerFreeze i) s = .next { s.ldgFreeze 0x0080 with bus := .written } :=
  congrArg Host.Outcome.next (access_of_reaches hr)

theorem exec_ledgerUnfreeze (hr : s.reaches i 0x40720000 = true) :
    exec (.ledgerUnfreeze i) s = .next { s.ldgUnfreeze with bus := .written } :=
  congrArg Host.Outcome.next (access_of_reaches hr)

theorem exec_ldgStageDataRead {k w : Nat} (hr : s.reaches i 0x40720074 = true)
    (hk : k = 16 * s.get Reg.LDG_STAGE_ADDR_PLACE + s.get Reg.LDG_STAGE_ADDR_WORD)
    (hw : w = ((sGet? s.ldg.stage (k / 16)).map fun r => r.word (k % 16)).getD 0) :
    exec (.ldgStageDataRead i) s =
      .next { (s.set Reg.LDG_STAGE_ADDR_WORD (k + 1)).set Reg.LDG_STAGE_ADDR_PLACE ((k + 1) / 16) with bus := .read w } := by
  subst hw hk
  exact congrArg Host.Outcome.next (access_of_reaches hr)

theorem exec_ldgValueWrite {k v : Nat} (hr : s.reaches i (ldgValue k).addr = true) :
    exec (.ldgValueWrite i k v) s =
      .next (if s.ldg.committed = true then s.ignored i (ldgValue k).addr else { s.set (ldgValue k) v with bus := .written }) :=
  congrArg Host.Outcome.next (access_of_reaches hr)

end

/-- Settles O44, command by command. -/
theorem deskInjectionAndLedgerRun : Obligations.DeskInjectionAndLedgerRun :=
  ⟨fun _ _ _ _ hr hcurrent hrec => exec_fltDone hr hcurrent hrec false,
    fun _ _ _ _ hr hcurrent hrec => exec_fltDone hr hcurrent hrec true,
    fun _ _ _ _ => exec_fltDone_ignored, fun _ _ _ _ => exec_faultHandlerTimeout, fun _ _ _ _ => exec_fltCapDataRead,
    fun _ _ _ _ _ _ _ => exec_faultInjectionArm, fun _ _ _ _ _ => exec_faultInjectionArm_ignored,
    fun _ _ _ => exec_faultInjectionDisarm, fun _ _ _ _ => exec_ldgCommit_staged, fun _ _ _ => exec_ldgCommit_dropped,
    fun _ _ => exec_ledgerFreeze, fun _ _ => exec_ledgerUnfreeze, fun _ _ _ _ => exec_ldgStageDataRead,
    fun _ _ _ _ => exec_ldgValueWrite⟩

/-! ### NVMe-MI -/

section
variable {s : State}

theorem miAnswer_of_up {good : Bool} {l : List Nat} (hup : s.miUp = true) : s.miAnswer good l = s.emit (.mi good l) := if_pos hup

theorem exec_readNvmeMiDataStructure_port {id : Nat} (hup : s.miUp = true) (hid : id ≤ 1) :
    exec (.readNvmeMiDataStructure 1 id) s = .next (s.emit (.mi true (lay 32 [(0, [0])]))) := by
  have hnot2 : id ≠ 2 := by omega
  have hport : decide (id ≤ 2) = true := decide_eq_true (by omega)
  simp only [exec, execReadNvmeMiDataStructure, if_neg hnot2, hport, miAnswer_of_up hup]

theorem exec_readNvmeMiDataStructure_controllers {id : Nat} (hup : s.miUp = true) :
    exec (.readNvmeMiDataStructure 2 id) s =
      .next (s.emit (.mi true (leBytes 2 s.host.assocs.length ++ s.host.assocs.flatMap fun a => leBytes 2 a.1))) :=
  congrArg Host.Outcome.next (miAnswer_of_up hup)

theorem exec_readNvmeMiDataStructure_refused {kind id : Nat} (hup : s.miUp = true) (hkind : 4 ≤ kind) :
    exec (.readNvmeMiDataStructure kind id) s = .next (s.emit (.mi false [])) := by
  obtain ⟨k, rfl⟩ := Nat.exists_eq_add_of_le hkind
  rw [Nat.add_comm]
  exact congrArg Host.Outcome.next (miAnswer_of_up hup)

theorem exec_nvmSubsystemHealthStatusPoll (hup : s.miUp = true) :
    exec .nvmSubsystemHealthStatusPoll s = .next (s.emit (.mi true [if s.host.assocs = [] then 0x30 else 0x38,
      255 - s.criticalWarning % 64, min 126 (s.kelvin - 273), Config.smart 5 s.ldgPot % 256, 0, 0, 0, 0])) := by
  refine congrArg Host.Outcome.next ((miAnswer_of_up hup).trans ?_)
  simp only [List.isEmpty_iff]

theorem exec_configurationSet {code : Nat} {u : State} (hup : s.miUp = true) (hlow : 1 ≤ code) (hhigh : code ≤ 2)
    (hu : u = s.putHost { s.host with smbus := if code = 1 then 100 else 400 }) :
    exec (.configurationSet code) s = .next (u.emit (.mi true [])) := by
  have hup' : u.miUp = true := by
    subst hu
    exact hup
  subst hu
  refine congrArg Host.Outcome.next ((if_neg (by simp [hup])).trans ((if_neg ?_).trans (miAnswer_of_up hup')))
  simpa using ⟨Nat.ne_of_gt hlow, hhigh⟩

theorem exec_configurationSet_refused {code : Nat} (hup : s.miUp = true) (hcode : code = 0 ∨ 2 < code) :
    exec (.configurationSet code) s = .next (s.emit (.mi false [])) :=
  congrArg Host.Outcome.next ((if_neg (by simp [hup])).trans ((if_pos (by simpa using hcode)).trans (miAnswer_of_up hup)))

theorem exec_vpdRead_silent {off n : Nat} (hdown : s.miUp = false) : exec (.vpdRead off n) s = .next s :=
  congrArg Host.Outcome.next (if_neg (by simp [hdown]))

end

/-- Settles O48, command by command. -/
theorem miCommandsRun : Obligations.MiCommandsRun :=
  ⟨fun _ _ => exec_readNvmeMiDataStructure_port, fun _ _ => exec_readNvmeMiDataStructure_controllers,
    fun _ _ _ => exec_readNvmeMiDataStructure_refused, fun _ => exec_nvmSubsystemHealthStatusPoll,
    fun _ hup => congrArg Host.Outcome.next (miAnswer_of_up hup), fun _ hup => congrArg Host.Outcome.next (miAnswer_of_up hup),
    fun _ _ _ => exec_configurationSet, fun _ _ => exec_configurationSet_refused,
    fun _ _ _ hup => congrArg Host.Outcome.next (miAnswer_of_up hup), fun _ _ _ => exec_vpdRead_silent⟩

end Sys2Proof.Machine
end

section
/-!
The I/O commands of block and zoned namespaces (O49, R330, R383, R389, R391, R397), and the reservation commands (O50, R380, R383): when
an I/O command is carried out, then an equation for each command.
-/
namespace Sys2Proof.Machine

/-! ### An I/O command that is carried out -/

/-- An I/O command of a meaning to a namespace, with its locks, ready to be carried out. -/
structure State.IoReady (s : State) (serial : Nat) (op : IoOp) (c : Cmd) (n : Ns) : Prop extends s.CmdReady serial c where
  locks : s.locked serial c = true
  op_eq : s.cmdOp c = some op
  namespaceIs : s.ns? c.cap.nsid = some n

/-- What holds of an I/O command ready to be carried out holds under what makes it ready, taken one by one. -/
theorem imp_of_ioReady {s : State} {serial : Nat} {op : IoOp} {c : Cmd} {n : Ns} {p : Prop} (h : s.IoReady serial op c n → p) :
    s.cmd? serial = some c → c.verdict = none → c.orphan = false → c.whole = true → s.locked serial c = true →
      s.cmdOp c = some op → s.ns? c.cap.nsid = some n → p :=
  fun htaken hverdict horphan hwhole hlocks hop hns => h ⟨⟨htaken, hverdict, horphan, hwhole⟩, hlocks, hop, hns⟩

section
variable {s u v : State} {serial : Nat} {op : IoOp} {c : Cmd} {n : Ns} {f : Cmd → Ns → State → State}

theorem onIo_of_ready (h : s.IoReady serial op c n) : s.onIo serial op f = f c n s := by
  simp [State.onIo, h.taken, h.unanswered, h.kept, h.whole, h.locks, h.op_eq, h.namespaceIs]

theorem onMediaCmd_of_ready (h : s.IoReady serial op c n) : s.onMediaCmd serial op f = f c n s := by
  simp only [State.onMediaCmd, h.taken, h.kept, Bool.false_and, Bool.false_eq_true, if_false]
  exact onIo_of_ready h

theorem exec_flush (h : s.IoReady serial .flush c n) : exec (.flush serial) s = .next (s.answer serial good) :=
  congrArg Host.Outcome.next (onIo_of_ready h)

/-! ### Writes (R389) -/

/-- The end of a write that has entered the in-tray: counted, and an append told its block (R389). -/
def State.trayed (u : State) (serial : Nat) (c : Cmd) (m lba : Nat) : State :=
  (((u.putCmd serial { c with tray := some m }).countIo true c.need).answerWith serial
    (if c.cap.opcode = 0x7D then lba else 0) [] good).hqRefresh

theorem writeNow_of_enters {m lba : Nat} (henter : s.enterTray c = (u, .inr (m, lba))) :
    s.writeNow serial c = u.trayed serial c m lba := by
  simp only [State.writeNow, henter, State.trayed]

theorem writeNow_of_refused {st : Status} (henter : s.enterTray c = (u, .inl st)) :
    s.writeNow serial c = u.answer serial (verdict st true) := by
  simp only [State.writeNow, henter]

theorem exec_write (h : s.IoReady serial .write c n) : exec (.write serial) s = .next (s.writeNow serial c) :=
  congrArg Host.Outcome.next (onIo_of_ready h)

theorem exec_zoneAppend (h : s.IoReady serial .append c n) : exec (.zoneAppend serial) s = .next (s.writeNow serial c) :=
  congrArg Host.Outcome.next (onIo_of_ready h)

theorem exec_writeZeroes_of_kept (h : s.IoReady serial .writeZeroes c n) (hkept : n.csi ≠ 0 ∨ c.cap.deac = false) :
    exec (.writeZeroes serial) s = .next (s.writeNow serial c) :=
  have hnot : ¬ (n.csi = 0 && c.cap.deac) = true := by
    rcases hkept with hcsi | hdeac
    · simp [hcsi]
    · simp [hdeac]
  congrArg Host.Outcome.next ((onIo_of_ready h).trans (if_neg hnot))

theorem exec_writeZeroes_of_deac (h : s.IoReady serial .writeZeroes c n) (hcsi : n.csi = 0) (hdeac : c.cap.deac = true) :
    exec (.writeZeroes serial) s = .next ((s.discardRanges c.cap.nsid n [(c.cap.slba, c.cap.nlb)]).answer serial good) :=
  congrArg Host.Outcome.next ((onIo_of_ready h).trans (if_pos (by simp [hcsi, hdeac])))

theorem exec_datasetManagement {l : List (Nat × Nat)} (h : s.IoReady serial .discard c n)
    (hl : l = dsmRanges (s.cmdData c) (c.cap.w 10 % 256 + 1)) (hinside : (l.any fun r => n.size < r.1 + r.2) = false)
    (hdeallocate : bitOf (c.cap.w 11) 2 = true) :
    exec (.datasetManagement serial) s = .next ((s.discardRanges c.cap.nsid n l).answer serial good) := by
  subst hl
  refine congrArg Host.Outcome.next ((onIo_of_ready h).trans ?_)
  simp only [hinside, hdeallocate, Bool.not_true, Bool.false_eq_true, if_false]

/-! ### Read and Verify (R391) -/

/-- The blocks of a command that are lost: marked so, or on the media where the read has failed (R391). -/
def State.lostBlocks (s : State) (serial : Nat) (c : Cmd) (n : Ns) : List Nat :=
  ((List.range c.cap.nlb).map (c.cap.slba + ·)).filter fun b =>
    s.whereIs c.cap.nsid n b == .lost || (s.whereIs c.cap.nsid n b == .media && s.blockLost serial n b)

/-- A block of a command stands on the media and is not among those delivered. -/
def State.mediaAwaited (s : State) (c : Cmd) (n : Ns) (media : List (Nat × Nat)) : Bool :=
  ((List.range c.cap.nlb).map (c.cap.slba + ·)).any fun b =>
    s.whereIs c.cap.nsid n b == .media && !(media.any fun m => m.1 == b)

/-- The newest data of a command's blocks, of those on the media what the lanes delivered. -/
def State.readData (s : State) (c : Cmd) (n : Ns) (media : List (Nat × Nat)) : List Nat :=
  ((List.range c.cap.nlb).map (c.cap.slba + ·)).flatMap fun b => match s.whereIs c.cap.nsid n b with
    | .bytes l => l
    | _ => (s.bytes ((media.find? fun m => m.1 == b).map (·.2) |>.getD 0) 4096).map (·.toNat)

variable {media : List (Nat × Nat)} {give : Bool}

theorem readNow_of_lost {lost : List Nat} (hlost : s.lostBlocks serial c n = lost) (hsome : lost ≠ []) :
    s.readNow serial c n media give = s.readLost serial c n lost := by
  subst hlost
  have hnot : (!(s.lostBlocks serial c n).isEmpty) = true := by simpa using hsome
  exact if_pos hnot

theorem readNow_of_waits (hlost : s.lostBlocks serial c n = []) (hwait : s.mediaAwaited c n media = true) :
    s.readNow serial c n media give = s.putCmd serial { c with media := true } := by
  have hnot : ¬ (!(s.lostBlocks serial c n).isEmpty) = true := by simp [hlost]
  exact (if_neg hnot).trans (if_pos hwait)

theorem readNow_of_here (hlost : s.lostBlocks serial c n = []) (hhere : s.mediaAwaited c n media = false) :
    s.readNow serial c n media give =
      (s.countIo false (4096 * c.cap.nlb)).answerWith serial 0 (if give then s.readData c n media else []) good := by
  have hnot : ¬ (!(s.lostBlocks serial c n).isEmpty) = true := by simp [hlost]
  exact (if_neg hnot).trans (if_neg (Bool.eq_false_iff.1 hhere))

theorem exec_read (h : s.IoReady serial .read c n) : exec (.read serial media) s = .next (s.readNow serial c n media true) :=
  congrArg Host.Outcome.next (onMediaCmd_of_ready h)

theorem exec_verify (h : s.IoReady serial .verify c n) : exec (.verify serial media) s = .next (s.readNow serial c n media false) :=
  congrArg Host.Outcome.next (onMediaCmd_of_ready h)

end

/-- Settles O49: each command, ready, is the meaning its opcode has, and that meaning takes the branch of the clause. -/
theorem ioCommandsRun : Obligations.IoCommandsRun := by
  refine ⟨fun _ _ _ _ => imp_of_ioReady exec_flush, fun _ _ _ _ _ _ _ _ => imp_of_ioReady fun h henter hv => ?_,
    fun _ _ _ _ _ _ => imp_of_ioReady fun h henter => ?_, fun _ _ _ _ _ _ _ _ => imp_of_ioReady fun h henter hv => ?_,
    fun _ _ _ _ _ _ _ _ => imp_of_ioReady fun h hkept henter hv => ?_, fun _ _ _ _ => imp_of_ioReady exec_writeZeroes_of_deac,
    fun _ _ _ _ _ => imp_of_ioReady exec_datasetManagement,
    fun _ _ _ _ _ _ _ => imp_of_ioReady fun h hlbas hlost hsome => ?_,
    fun _ _ _ _ _ _ => imp_of_ioReady fun h hlbas hlost hhere => ?_,
    fun _ _ _ _ _ _ => imp_of_ioReady fun h hlbas hlost hhere => ?_,
    fun _ _ _ _ _ _ => imp_of_ioReady fun h hlbas hlost hwait => ?_⟩
  · exact hv ▸ (exec_write h).trans (congrArg _ (writeNow_of_enters henter))
  · exact (exec_write h).trans (congrArg _ (writeNow_of_refused henter))
  · exact hv ▸ (exec_zoneAppend h).trans (congrArg _ (writeNow_of_enters henter))
  · exact hv ▸ (exec_writeZeroes_of_kept h hkept).trans (congrArg _ (writeNow_of_enters henter))
  · subst hlbas
    exact (exec_read h).trans (congrArg _ (readNow_of_lost hlost hsome))
  · subst hlbas
    exact (exec_read h).trans (congrArg _ (readNow_of_here hlost hhere))
  · subst hlbas
    exact (exec_verify h).trans (congrArg _ (readNow_of_here hlost hhere))
  · subst hlbas
    exact (exec_verify h).trans (congrArg _ (readNow_of_waits hlost hwait))

/-! ### Reservations -/

section
variable {s u : State} {serial cur type : Nat} {c : Cmd} {n m : Ns}

theorem exec_reservationRegister_new (h : s.IoReady serial .resRegister c n) (haction : c.cap.w 10 = 0)
    (hnone : (n.regs.find? fun r => r.1 == s.hostOf c) = none) :
    exec (.reservationRegister serial) s = .next ((s.putNs c.cap.nsid
      (n.withRegs (n.regs ++ [(s.hostOf c, ofBytes (((s.cmdData c).drop 8).take 8))]))).answer serial good) := by
  refine congrArg Host.Outcome.next ((onIo_of_ready h).trans ?_)
  simp [haction, hnone]

theorem exec_reservationRegister_unregister (h : s.IoReady serial .resRegister c n) (haction : c.cap.w 10 = 1)
    (hmine : (n.regs.find? fun r => r.1 == s.hostOf c) = some (s.hostOf c, ofBytes ((s.cmdData c).take 8)))
    (hm : m = (n.withRegs (n.regs.filter fun r => r.1 != s.hostOf c)).dropHolder) (hfree : n.holder = none) :
    exec (.reservationRegister serial) s = .next ((s.putNs c.cap.nsid m).answer serial good) := by
  subst hm
  refine congrArg Host.Outcome.next ((onIo_of_ready h).trans ?_)
  simp [haction, hmine, hfree]

theorem exec_reservationRegister_conflict {key : Nat} (h : s.IoReady serial .resRegister c n) (haction : c.cap.w 10 = 2)
    (hmine : (n.regs.find? fun r => r.1 == s.hostOf c) = some (s.hostOf c, key)) (hkey : key ≠ ofBytes ((s.cmdData c).take 8)) :
    exec (.reservationRegister serial) s = .next (s.answer serial (verdict .reservationConflict true)) := by
  refine congrArg Host.Outcome.next ((onIo_of_ready h).trans ?_)
  simp [haction, hmine, hkey, bitOf]

/-- A registrant of the host of a command, with the key given or with keys ignored (R380). -/
def State.isRegistrant (s : State) (c : Cmd) (n : Ns) : Bool :=
  n.regs.any fun r => r.1 == s.hostOf c && (bitOf (c.cap.w 10) 3 || r.2 == ofBytes ((s.cmdData c).take 8))

theorem isRegistrant_of_contains (hmine : n.regs.contains (s.hostOf c, ofBytes ((s.cmdData c).take 8)) = true) :
    s.isRegistrant c n = true :=
  List.any_eq_true.2 ⟨_, List.contains_iff_mem.1 hmine, by simp⟩

theorem reservationAcquire_fields (hlow : 1 ≤ bitsOf (c.cap.w 10) 15 8) (hhigh : bitsOf (c.cap.w 10) 15 8 ≤ 6)
    (haction : c.cap.w 10 % 8 ≤ 2) :
    ¬ (bitsOf (c.cap.w 10) 15 8 = 0 || 6 < bitsOf (c.cap.w 10) 15 8 || 2 < c.cap.w 10 % 8) = true := by
  simp only [Bool.or_eq_true, decide_eq_true_eq]
  omega

theorem exec_reservationAcquire (h : s.IoReady serial .resAcquire c n) (hlow : 1 ≤ bitsOf (c.cap.w 10) 15 8)
    (hhigh : bitsOf (c.cap.w 10) 15 8 ≤ 6) (haction : c.cap.w 10 % 8 = 0)
    (hmine : n.regs.contains (s.hostOf c, ofBytes ((s.cmdData c).take 8)) = true) (hfree : n.holder = none) :
    exec (.reservationAcquire serial) s = .next ((s.putNs c.cap.nsid
      { n with holder := some (s.hostOf c, bitsOf (c.cap.w 10) 15 8) }).answer serial good) := by
  have hfields := reservationAcquire_fields hlow hhigh (haction.le.trans (Nat.zero_le 2))
  have hregistrant : ¬ (!s.isRegistrant c n) = true := by simp [isRegistrant_of_contains hmine]
  refine congrArg Host.Outcome.next ((onIo_of_ready h).trans ((if_neg hfields).trans ((if_neg hregistrant).trans ?_)))
  exact (if_pos haction).trans (by rw [hfree])

theorem exec_reservationAcquire_conflict (h : s.IoReady serial .resAcquire c n) (hlow : 1 ≤ bitsOf (c.cap.w 10) 15 8)
    (hhigh : bitsOf (c.cap.w 10) 15 8 ≤ 6) (haction : c.cap.w 10 % 8 ≤ 2) (hnone : s.isRegistrant c n = false) :
    exec (.reservationAcquire serial) s = .next (s.answer serial (verdict .reservationConflict true)) := by
  have hregistrant : (!s.isRegistrant c n) = true := by simp [hnone]
  exact congrArg Host.Outcome.next ((onIo_of_ready h).trans
    ((if_neg (reservationAcquire_fields hlow hhigh haction)).trans (if_pos hregistrant)))

theorem exec_reservationRelease (h : s.IoReady serial .resRelease c n) (haction : c.cap.w 10 % 8 = 0)
    (hmine : s.isRegistrant c n = true) (hholder : n.holder = some (s.hostOf c, bitsOf (c.cap.w 10) 15 8)) :
    exec (.reservationRelease serial) s = .next (((s.putNs c.cap.nsid { n with holder := none }).resNotify c.cap.nsid 2
      ((n.regs.filter fun r => r.1 != s.hostOf c).map (·.1))).answer serial good) := by
  have hregistrant : ¬ (!s.isRegistrant c n) = true := by simp [hmine]
  refine congrArg Host.Outcome.next ((onIo_of_ready h).trans ((if_neg hregistrant).trans ?_))
  simp [haction, hholder]

theorem exec_reservationRelease_clear (h : s.IoReady serial .resRelease c n) (haction : c.cap.w 10 % 8 = 1)
    (hmine : s.isRegistrant c n = true) (hm : m = { n.withRegs [] with holder := none }) :
    exec (.reservationRelease serial) s = .next (((s.putNs c.cap.nsid m).resNotify c.cap.nsid 1
      ((n.regs.filter fun r => r.1 != s.hostOf c).map (·.1))).answer serial good) := by
  have hregistrant : ¬ (!s.isRegistrant c n) = true := by simp [hmine]
  subst hm
  refine congrArg Host.Outcome.next ((onIo_of_ready h).trans ((if_neg hregistrant).trans ?_))
  simp only [haction]

theorem exec_reservationReport (h : s.IoReady serial .resReport c n) (hshort : bitOf (c.cap.w 11) 0 = false)
    (hfree : n.holder = none) :
    exec (.reservationReport serial) s = .next (s.answerWith serial 0 ((leBytes 4 n.gen ++ [0] ++ leBytes 2 n.regs.length ++
      [0, 0, b2n n.ptpl] ++ List.replicate 14 0 ++ n.regs.flatMap fun r : Nat × Nat =>
        leBytes 2 0xFFFF ++ [0] ++ List.replicate 5 0 ++ leBytes 8 r.1 ++ leBytes 8 r.2).take (4 * (c.cap.w 10 + 1))) good) := by
  refine congrArg Host.Outcome.next ((onIo_of_ready h).trans ?_)
  simp only [hshort, hfree, Option.map_none, Option.getD_none, Option.any_none, b2n, Bool.false_eq_true, if_false]

end

/-- Settles O50: each command, ready, takes the branch of the clause. -/
theorem reservationsRun : Obligations.ReservationsRun := by
  refine ⟨fun _ _ _ _ _ => imp_of_ioReady fun h haction hh hnone => ?_,
    fun _ _ _ _ _ _ _ _ _ => imp_of_ioReady fun h haction hh hcur hmine hkey hm hfree hu => ?_,
    fun _ _ _ _ _ _ _ => imp_of_ioReady fun h haction hh hcur hmine hkey => ?_,
    fun _ _ _ _ _ _ _ => imp_of_ioReady fun h hh hcur ht hlow hhigh haction hmine hfree => ?_,
    fun _ _ _ _ _ _ _ => imp_of_ioReady fun h hh hcur ht hlow hhigh haction hnone => ?_,
    fun _ _ _ _ _ _ _ _ => imp_of_ioReady fun h hh hcur ht haction hmine hholder hu => ?_,
    fun _ _ _ _ _ _ _ _ => imp_of_ioReady fun h hh hcur haction hmine hm hu => ?_,
    fun _ _ _ _ => imp_of_ioReady exec_reservationReport⟩
  · subst hh
    exact exec_reservationRegister_new h haction hnone
  · subst hh hkey hcur hu
    exact exec_reservationRegister_unregister h haction hmine hm hfree
  · subst hh hcur
    exact exec_reservationRegister_conflict h haction hmine hkey
  · subst hh hcur ht
    exact exec_reservationAcquire h hlow hhigh haction hmine hfree
  · subst hh hcur ht
    exact exec_reservationAcquire_conflict h hlow hhigh haction hnone
  · subst hh hcur ht hu
    exact exec_reservationRelease h haction hmine hholder
  · subst hh hcur hu
    exact exec_reservationRelease_clear h haction hmine hm

end Sys2Proof.Machine
end

section
/-!
Zone management and key-value commands (O51, R321, R324, R327, R330, R383, R391): an equation for each command.
-/
namespace Sys2Proof.Machine

section
variable {s u v w : State} {serial : Nat} {c : Cmd} {n : Ns}

/-! ### Zones -/

/-- A Zone Management Send command on one zone, ready to be carried out (R383). -/
structure State.ZoneReady (s : State) (serial action : Nat) (c : Cmd) (n : Ns) (k : Nat) : Prop
    extends s.IoReady serial .zoneSend c n where
  action_eq : c.cap.w 13 % 256 = action
  single : bitOf (c.cap.w 13) 8 = false
  zone_eq : k = c.cap.slba / 65536

/-- What holds of a zone command ready to be carried out holds under what makes it ready, taken one by one. -/
theorem imp_of_zoneReady {action k : Nat} {p : Prop} (h : s.ZoneReady serial action c n k → p) :
    s.cmd? serial = some c → c.verdict = none → c.orphan = false → c.whole = true → s.locked serial c = true →
      s.cmdOp c = some .zoneSend → s.ns? c.cap.nsid = some n → c.cap.w 13 % 256 = action → bitOf (c.cap.w 13) 8 = false →
      k = c.cap.slba / 65536 → p :=
  imp_of_ioReady fun hio haction hsingle hzone => h ⟨hio, haction, hsingle, hzone⟩

section
variable {action k : Nat} {can : HZone → Bool} {f : Nat → Nat → Ns → State → State ⊕ Status}

theorem zoneSend_of_cannot (h : s.ZoneReady serial action c n k) (hcan : can (n.zone k) = false) :
    s.zoneSend serial action can f = s.answer serial (verdict .zoneInvalidTransition true) := by
  have hk := h.zone_eq
  subst hk
  refine (onIo_of_ready h.toIoReady).trans ?_
  simp only [h.action_eq, h.single, hcan, bne_self_eq_false, Bool.false_eq_true, if_false, Bool.not_false, if_true]

theorem zoneSend_of_done (h : s.ZoneReady serial action c n k) (hcan : can (n.zone k) = true)
    (hf : f c.cap.nsid k n s = .inl u) : s.zoneSend serial action can f = u.answer serial good := by
  have hk := h.zone_eq
  subst hk
  refine (onIo_of_ready h.toIoReady).trans ?_
  simp only [h.action_eq, h.single, hcan, hf, bne_self_eq_false, Bool.false_eq_true, if_false, Bool.not_true]

theorem zoneSend_of_refused {st : Status} (h : s.ZoneReady serial action c n k) (hcan : can (n.zone k) = true)
    (hf : f c.cap.nsid k n s = .inr st) : s.zoneSend serial action can f = s.answer serial (verdict st true) := by
  have hk := h.zone_eq
  subst hk
  refine (onIo_of_ready h.toIoReady).trans ?_
  simp only [h.action_eq, h.single, hcan, hf, bne_self_eq_false, Bool.false_eq_true, if_false, Bool.not_true]

theorem exec_zoneOpen (h : s.ZoneReady serial 3 c n k) (hstate : (n.zone k).state ≠ .full) (hallowed : n.openRefusal k = none) :
    exec (.zoneOpen serial) s = .next ((s.openZone c.cap.nsid k .explicitOpen).answer serial good) :=
  congrArg Host.Outcome.next (zoneSend_of_done h (by simp [hstate]) (by simp [hallowed]))

theorem exec_zoneOpen_full (h : s.ZoneReady serial 3 c n k) (hstate : (n.zone k).state = .full) :
    exec (.zoneOpen serial) s = .next (s.answer serial (verdict .zoneInvalidTransition true)) :=
  congrArg Host.Outcome.next (zoneSend_of_cannot h (by simp [hstate]))

theorem exec_zoneOpen_refused {st : Status} (h : s.ZoneReady serial 3 c n k) (hstate : (n.zone k).state ≠ .full)
    (hrefused : n.openRefusal k = some st) : exec (.zoneOpen serial) s = .next (s.answer serial (verdict st true)) :=
  congrArg Host.Outcome.next (zoneSend_of_refused h (by simp [hstate]) (by simp [hrefused]))

theorem exec_zoneClose (h : s.ZoneReady serial 1 c n k)
    (hopen : (n.zone k).state = .implicitOpen ∨ (n.zone k).state = .explicitOpen) :
    exec (.zoneClose serial) s = .next ((s.putZone c.cap.nsid k { n.zone k with state := .closed }).answer serial good) := by
  have hcan : ((n.zone k).state != .full && (n.zone k).state != .empty) = true := by
    rcases hopen with hopen | hopen
    · simp [hopen]
    · simp [hopen]
  exact congrArg Host.Outcome.next (zoneSend_of_done h hcan rfl)

theorem exec_zoneFinish (h : s.ZoneReady serial 2 c n k) (hstate : (n.zone k).state ≠ .full) :
    exec (.zoneFinish serial) s = .next ((s.finishZone c.cap.nsid k (n.zone k) false).answer serial good) :=
  congrArg Host.Outcome.next (zoneSend_of_done h rfl (by simp [hstate]))

theorem exec_zoneReset (h : s.ZoneReady serial 4 c n k)
    (hu : u = (s.trayForget c.cap.nsid (65536 * k) 65536).unmapAll ((List.range 1024).map fun i => n.lpn + 1024 * k + i) 0x06)
    (hunbound : (n.zone k).bound = none) (hv : v = u.putZone c.cap.nsid k HZone.fresh) :
    exec (.zoneReset serial) s = .next (v.answer serial good) := by
  simp only [exec, execZoneReset]
  refine congrArg Host.Outcome.next (zoneSend_of_done h rfl ?_)
  simp only [hunbound, hv, hu]

end

theorem exec_zoneManagementReceive {ks : List Nat} (h : s.IoReady serial .zoneReceive c n)
    (hevery : bitsOf (c.cap.w 13) 15 8 = 0) (hall : bitOf (c.cap.w 13) 16 = false)
    (hks : ks = (List.range (n.size / 65536 - c.cap.slba / 65536)).map (c.cap.slba / 65536 + ·)) :
    exec (.zoneManagementReceive serial) s = .next (s.answerWith serial 0 ((leBytes 8 ks.length ++ List.replicate 56 0 ++
      (ks.take ((4 * (c.cap.w 12 + 1) - 64) / 64)).flatMap fun k => zoneDescriptor k (n.zone k)).take
        (4 * (c.cap.w 12 + 1))) good) := by
  subst hks
  refine congrArg Host.Outcome.next ((onIo_of_ready h).trans ?_)
  simp only [hevery, hall, decide_true, Bool.true_or, List.filter_true, Bool.false_eq_true, if_false]

/-! ### Keys and values -/

theorem exec_store {m lba : Nat} (h : s.IoReady serial .store c n) (hmust : bitOf (c.cap.w 11) 8 = false)
    (hmustNot : bitOf (c.cap.w 11) 9 = false) (henter : s.enterTray c = (u, .inr (m, lba))) :
    exec (.store serial) s = .next (u.trayed serial c m lba) := by
  refine congrArg Host.Outcome.next ((onIo_of_ready h).trans ?_)
  simp only [State.storeNow, hmust, hmustNot, Bool.false_and, Bool.false_eq_true, if_false]
  exact writeNow_of_enters henter

theorem exec_store_missing (h : s.IoReady serial .store c n) (hmust : bitOf (c.cap.w 11) 8 = true)
    (hmissing : s.hasKey c.cap.nsid c.cap = false) :
    exec (.store serial) s = .next (s.answer serial (verdict .keyMissing true)) := by
  refine congrArg Host.Outcome.next ((onIo_of_ready h).trans ?_)
  simp only [State.storeNow, hmust, hmissing, Bool.not_false, Bool.and_true, if_true]

theorem hasKey_eq_false_iff {nsid : Nat} {p : Capsule} : s.hasKey nsid p = false ↔
    s.trayValue nsid p = none ∧ sGet? s.host.kv (kvKey nsid p.keyLen p.keyNat) = none := by
  simp [State.hasKey]

theorem exec_retrieve_of_tray {place : Option Nat} {l : List Nat} {t : TrayEnt} (h : s.IoReady serial .retrieve c n)
    (hheld : s.trayValue c.cap.nsid c.cap = some t)
    (hgood : s.office.unreadable.contains (keyMark (kvKey c.cap.nsid t.keyLen t.key), 0) = false)
    (hl : l = s.bagRead t.bags 0 t.count) :
    exec (.retrieve serial place) s = .next ((s.countIo false l.length).answerWith serial l.length (l.take (c.cap.w 10)) good) := by
  subst hl
  refine congrArg Host.Outcome.next ((onMediaCmd_of_ready h).trans ?_)
  simp only [hheld, hgood, Bool.false_eq_true, if_false]

theorem exec_retrieve_of_media {a : Nat} {l ps : List Nat} {e : KvEntry} (h : s.IoReady serial .retrieve c n)
    (hnot : s.trayValue c.cap.nsid c.cap = none)
    (hentry : sGet? s.host.kv (kvKey c.cap.nsid c.cap.keyLen c.cap.keyNat) = some e)
    (hps : ps = if e.bundled = true then [e.lpn] else (List.range (runParcels e.len)).map (e.lpn + ·))
    (hread : (ps.any fun l => (List.range 64).any fun k => s.sectorLost serial l k) = false) (hgood : s.office.unreadable = [])
    (hl : l = (s.bytes a e.len).map (·.toNat)) : exec (.retrieve serial (some a)) s =
      .next ((s.countIo false l.length).answerWith serial l.length (l.take (c.cap.w 10)) good) := by
  subst hl hps
  refine congrArg Host.Outcome.next ((onMediaCmd_of_ready h).trans ?_)
  simp only [hnot, hentry, hread, hgood, List.any_nil, Bool.or_self, Bool.false_eq_true, if_false]

theorem exec_retrieve_missing {place : Option Nat} (h : s.IoReady serial .retrieve c n)
    (hmissing : s.hasKey c.cap.nsid c.cap = false) :
    exec (.retrieve serial place) s = .next (s.answer serial (verdict .keyMissing true)) := by
  obtain ⟨htray, hentry⟩ := hasKey_eq_false_iff.1 hmissing
  refine congrArg Host.Outcome.next ((onMediaCmd_of_ready h).trans ?_)
  simp only [htray, hentry]

theorem exec_list_nil (h : s.IoReady serial .list c n) (hempty : s.keysOf c.cap.nsid = []) :
    exec (.list serial) s = .next (s.answerWith serial 0 (leBytes 4 0) good) := by
  refine congrArg Host.Outcome.next ((onIo_of_ready h).trans ?_)
  simp only [hempty, List.filter_nil, List.foldl_nil, List.length_nil, List.flatMap_nil, List.append_nil]

theorem exec_delete {key : Nat} {old : List (Nat × Nat × Nat)} (h : s.IoReady serial .delete c n)
    (hkey : key = kvKey c.cap.nsid c.cap.keyLen c.cap.keyNat) (hhas : s.hasKey c.cap.nsid c.cap = true)
    (hu : u = s.trayDrop fun t =>
      t.kind == .value && t.nsid == c.cap.nsid && t.key == c.cap.keyNat && t.keyLen == c.cap.keyLen)
    (hv : v = u.putOffice { u.office with bundles := u.office.bundles.map fun b =>
      if b.placed then b else { b with values := b.values.filter fun v => v.1 != key } })
    (hold : old = s.freeOld key) (hw : w = (v.forgetKey key).unmapAll (old.map (·.1)) 0x05) :
    exec (.delete serial) s = .next ((w.putHost { w.host with kv := sDel w.host.kv key }).answer serial good) := by
  have hpresent : ¬ (!s.hasKey c.cap.nsid c.cap) = true := by simp [hhas]
  subst hkey hu hv hold hw
  exact congrArg Host.Outcome.next ((onIo_of_ready h).trans (if_neg hpresent))

theorem exec_delete_missing (h : s.IoReady serial .delete c n) (hmissing : s.hasKey c.cap.nsid c.cap = false) :
    exec (.delete serial) s = .next (s.answer serial (verdict .keyMissing true)) :=
  congrArg Host.Outcome.next ((onIo_of_ready h).trans (if_pos (by simp [hmissing])))

theorem exec_exist (h : s.IoReady serial .exist c n) : exec (.exist serial) s =
    .next (s.answer serial (if s.hasKey c.cap.nsid c.cap = true then good else verdict .keyMissing true)) :=
  congrArg Host.Outcome.next (onIo_of_ready h)

end

/-- Settles O51: each command, ready, takes the branch of the clause. -/
theorem zonesAndKeysRun : Obligations.ZonesAndKeysRun := by
  refine ⟨fun _ _ _ _ _ => imp_of_zoneReady exec_zoneOpen, fun _ _ _ _ _ => imp_of_zoneReady exec_zoneOpen_full,
    fun _ _ _ _ _ _ => imp_of_zoneReady exec_zoneOpen_refused, fun _ _ _ _ _ => imp_of_zoneReady exec_zoneClose,
    fun _ _ _ _ _ => imp_of_zoneReady exec_zoneFinish, fun _ _ _ _ _ _ _ => imp_of_zoneReady exec_zoneReset,
    fun _ _ _ _ _ => imp_of_ioReady exec_zoneManagementReceive,
    fun _ _ _ _ _ _ _ _ => imp_of_ioReady fun h hmust hmustNot henter hv => hv ▸ exec_store h hmust hmustNot henter,
    fun _ _ _ _ => imp_of_ioReady exec_store_missing, fun _ _ _ _ _ _ _ => imp_of_ioReady exec_retrieve_of_tray,
    fun _ _ _ _ _ _ _ _ => imp_of_ioReady exec_retrieve_of_media, fun _ _ _ _ _ => imp_of_ioReady exec_retrieve_missing,
    fun _ _ _ _ => imp_of_ioReady exec_list_nil, fun _ _ _ _ _ _ _ _ _ => imp_of_ioReady exec_delete,
    fun _ _ _ _ => imp_of_ioReady exec_delete_missing, fun _ _ _ _ => imp_of_ioReady exec_exist⟩

end Sys2Proof.Machine
end

section
/-!
Commands taken, given locks, bags and data, and answered (O45, R373, R376 to R379, R389 to R391, R393, R400, R403): an equation for each
command.
-/
namespace Sys2Proof.Machine

/-! ### Capsules -/

section
variable {conn : Nat} {cap e : Capsule} {hdr : Bool} {c d : Conn} {s u v : State}

theorem exec_capsuleCmd_pdu (hfabric : conn ≠ 160) (hconn : s.conn? conn = some c) (hup : s.portUp (Prt.num c.port) = true)
    (hserves : s.serves 0x04 = true) (hd : d = { c with owed := c.owed + capsuleBytes cap }) (hu : u = s.putConn conn d)
    (he : e = { cap with badData := cap.badData && d.ddgst && !cap.data.isEmpty }) :
    exec (.capsuleCmd conn cap hdr) s = .next
      (if !d.ready || 8192 < e.data.length || (d.hdgst && !hdr) then u.terminate conn
      else if u.rcvSpace d < capsuleBytes e then u
      else u.putConn conn { d with waiting := d.waiting ++ [e] }) := by
  subst he hu hd
  exact (if_neg hfabric).trans (congrArg Host.Outcome.next (pdu_of_served hconn hup hserves))

theorem exec_capsuleCmd_joins (hfabric : conn ≠ 160) (hconn : s.conn? conn = some c) (hup : s.portUp (Prt.num c.port) = true)
    (hserves : s.serves 0x04 = true) (hd : d = { c with owed := c.owed + capsuleBytes cap }) (hu : u = s.putConn conn d)
    (hready : c.ready = true) (hshort : cap.data.length ≤ 8192) (hheader : c.hdgst = true → hdr = true)
    (he : e = { cap with badData := cap.badData && c.ddgst && !cap.data.isEmpty }) (hroom : capsuleBytes e ≤ u.rcvSpace d) :
    exec (.capsuleCmd conn cap hdr) s = .next (u.putConn conn { d with waiting := d.waiting ++ [e] }) := by
  have hddgst : d.ddgst = c.ddgst := by rw [hd]
  have hgood : ¬ (!d.ready || 8192 < e.data.length || (d.hdgst && !hdr)) = true := by
    have hheader' : (c.hdgst && !hdr) = false := by simpa using hheader
    simp [hd, he, hready, hheader', hshort]
  refine (exec_capsuleCmd_pdu hfabric hconn hup hserves hd hu (hddgst.symm ▸ he)).trans (congrArg Host.Outcome.next ?_)
  exact (if_neg hgood).trans (if_neg (Nat.not_lt.2 hroom))

theorem exec_capsuleCmd_terminates (hfabric : conn ≠ 160) (hconn : s.conn? conn = some c)
    (hup : s.portUp (Prt.num c.port) = true) (hserves : s.serves 0x04 = true)
    (hd : d = { c with owed := c.owed + capsuleBytes cap }) (hu : u = s.putConn conn d)
    (hbad : c.ready = false ∨ 8192 < cap.data.length ∨ (c.hdgst = true ∧ hdr = false)) :
    exec (.capsuleCmd conn cap hdr) s = .next (u.terminate conn) := by
  refine (exec_capsuleCmd_pdu hfabric hconn hup hserves hd hu rfl).trans (congrArg Host.Outcome.next (if_pos ?_))
  simpa [hd, or_assoc] using hbad

theorem exec_capsuleCmd_mi (hup : s.miUp = true) (hroom : s.host.cmds.length < 4096) :
    exec (.capsuleCmd 160 cap hdr) s = .next (s.admitCmd 160 cap) :=
  congrArg Host.Outcome.next (if_pos (by simp [hup, hroom]))

theorem exec_capsuleTake {wait us : Nat} {rest : List Capsule} (hconn : s.conn? conn = some c) (hwaiting : c.waiting = cap :: rest)
    (hpre : s.preUp = true) (hup : s.portUp (Prt.num c.port) = true) (henabled : s.get Reg.HQ_CTRL_ENABLE = 1)
    (hplaces : s.host.cmds.length < 4096) (hcalm : s.interruption = false)
    (hqueue : (s.cmdsOf conn).length < (if c.assoc.isSome = true then c.depth - 1 else 1)) (hdepth : 0 < c.depth) (hus : us ≤ 100)
    (hu : u = s.putConn conn { c with waiting := rest, sqhd := (c.sqhd + 1) % c.depth })
    (hv : v = u.set Reg.PRE_PEAK_CAPSULE_WAIT (max (u.get Reg.PRE_PEAK_CAPSULE_WAIT) (min 65535 wait))) :
    exec (.capsuleTake conn wait us) s =
      .next ((v.set Reg.HQ_ADMIT_PEAK_US (max (v.get Reg.HQ_ADMIT_PEAK_US) (min 65535 us))).admitCmd conn cap) := by
  subst hv hu
  have henabled' : s.on Reg.HQ_CTRL_ENABLE = true := on_of_get_ne (henabled ▸ Nat.one_ne_zero)
  simp only [exec, execCapsuleTake, hconn, hwaiting, hpre, hup, henabled', hcalm, hqueue, Nat.not_le.2 hplaces, hdepth.ne',
    Nat.not_lt.2 hus, decide_true, decide_false, Bool.not_true, Bool.or_self, Bool.false_eq_true, if_false]

end

/-! ### Locks, bags and data -/

section
variable {serial pick n : Nat} {c d : Cmd} {k : Conn} {s t u : State}

theorem exec_lockGrant (hcmd : s.cmd? serial = some c) (hopen : c.verdict = none) (hkept : c.orphan = false)
    (hentered : c.noEntry = false) (hu : u = s.putHost { s.host with locks := grantOf serial [] s.host.locks })
    (hassoc : s.cmdAssoc c = none) : exec (.lockGrant serial) s = .next u.hqRefresh := by
  have hcmd' : u.cmd? serial = some c := by rw [hu]; exact hcmd
  have hassoc' : u.cmdAssoc c = none := by rw [hu]; exact hassoc
  simp only [exec, execLockGrant, hcmd, hopen, hkept, hentered, ← hu, hcmd', hassoc', Option.isSome_none, Bool.or_self, Option.any_none,
    Bool.false_eq_true, if_false]
  cases u.ns? c.cap.nsid with
  | none => rfl
  | some ns =>
    cases u.cmdOp c with
    | none => rfl
    | some op => rfl

/-- The command is the earliest that waits for bags, of a connection that is up, with the handler of key 0x41 there. -/
structure State.BagsDue (s : State) (serial : Nat) (c : Cmd) (k : Conn) : Prop where
  taken : s.cmd? serial = some c
  waits : s.waitsBags serial c = true
  first : (s.host.cmds.any fun p => p.1 < serial && s.waitsBags p.1 p.2) = false
  fabric : c.conn ≠ 160
  served : s.serves 0x41 = true
  conn_eq : s.conn? c.conn = some k
  up : s.portUp (Prt.num k.port) = true

/-- The bags of the next chunk of a command (R389): 64 KiB bags first, then 4 KiB bags. -/
def State.takeChunk (s : State) (pick n : Nat) : State × Option (List Nat) :=
  s.takeBags pick (List.replicate (n / 65536) 1 ++ List.replicate ((n % 65536 + 4095) / 4096) 0) []

/-- The in-tray has no room for a chunk, or the erased reserve none for a flush of what it holds (R389). -/
def State.trayShort (s : State) (n : Nat) : Bool :=
  (2 ^ 30 < s.unplaced + bagsRoom (s.host.cmds.flatMap fun c => c.2.bags) + n) ||
    (s.pdOn 23 && s.erasedReserve < s.unplaced + 144 * 2 ^ 20)

theorem trayShort_eq_false (hroom : s.unplaced + bagsRoom (s.host.cmds.flatMap fun c => c.2.bags) + n ≤ 2 ^ 30)
    (hreserve : s.pdOn 23 = true → s.unplaced + 144 * 2 ^ 20 ≤ s.erasedReserve) : s.trayShort n = false := by
  simp only [State.trayShort, Bool.or_eq_false_iff, Bool.and_eq_false_imp, decide_eq_false_iff_not, Nat.not_lt]
  exact ⟨hroom, hreserve⟩

/-- A chunk can be asked for now: its data came in the capsule, or an R2T is allowed and fits (R389). -/
def Cmd.mayAsk (c : Cmd) (k : Conn) : Prop :=
  c.cap.data ≠ [] ∨ (c.asked - c.got + 131071) / 131072 < min 4 (k.maxR2t + 1) ∧ k.fits 24 = true

theorem not_held_of_mayAsk (h : s.BagsDue serial c k) (hask : c.mayAsk k) :
    ¬ (!s.waitsBags serial c || !(!(s.host.cmds.any fun p => p.1 < serial && s.waitsBags p.1 p.2)) ||
      !(c.conn != miConn && s.serves 0x41 && (s.conn? c.conn).any fun k => s.portUp (Prt.num k.port)) ||
      (!(!c.cap.data.isEmpty) && (min 4 (((s.conn? c.conn).map (·.maxR2t)).getD 0 + 1) ≤ (c.asked - c.got + 131071) / 131072 ||
        !(s.conn? c.conn).any fun k => k.fits 24))) = true := by
  have hfabric : (c.conn != miConn) = true := bne_iff_ne.2 h.fabric
  have hdue : (c.cap.data.isEmpty && (min 4 (k.maxR2t + 1) ≤ (c.asked - c.got + 131071) / 131072 || !k.fits 24)) = false := by
    rcases hask with hdata | ⟨hfew, hfits⟩
    · simp [hdata]
    · simp only [decide_eq_false (Nat.not_le.2 hfew), hfits, Bool.not_true, Bool.or_self, Bool.and_false]
  simp only [h.waits, h.first, hfabric, h.served, h.conn_eq, h.up, hdue, Option.any_some, Option.map_some, Option.getD_some,
    Bool.not_true, Bool.not_false, Bool.not_not, Bool.and_self, Bool.or_self, Bool.false_eq_true, not_false_iff]

theorem exec_bagsReservedForTransfer_r2t {bags : List Nat} (h : s.BagsDue serial c k) (hbare : c.cap.data = [])
    (hask : c.mayAsk k) (hn : n = min 131072 (c.need - c.asked)) (hbags : s.takeChunk pick n = (t, some bags))
    (hroom : s.trayShort n = false) (hd : d = { c with bags := c.bags ++ bags, asked := c.asked + n }) :
    exec (.bagsReservedForTransfer serial pick) s =
      .next (((t.putConn c.conn (k.sends 24 s.clockNs)).putCmd serial d).emit (.r2t c.conn c.cap.cid c.asked n)).hqRefresh := by
  have hheld := not_held_of_mayAsk h hask
  subst hn hd
  simp only [exec, execBagsReservedForTransfer, h.taken, if_neg hheld]
  rw [show s.takeBags pick _ [] = (t, some bags) from hbags]
  simp only [State.trayShort] at hroom
  simp only [hroom, hbare, h.conn_eq, List.isEmpty_nil, Bool.not_true, Bool.false_eq_true, if_false, Nat.add_sub_cancel]

theorem exec_bagsReservedForTransfer_short (h : s.BagsDue serial c k) (hask : c.mayAsk k)
    (hn : n = min 131072 (c.need - c.asked)) (hbags : s.takeChunk pick n = (t, none)) :
    exec (.bagsReservedForTransfer serial pick) s = .next (s.set Reg.HQ_INT_ITRAY_FULL 1) := by
  have hheld := not_held_of_mayAsk h hask
  subst hn
  simp only [exec, execBagsReservedForTransfer, h.taken, if_neg hheld]
  rw [show s.takeBags pick _ [] = (t, none) from hbags]

theorem exec_h2cData_pdu {offset : Nat} {data : List Nat} {hdr good : Bool} (hcmd : s.cmd? serial = some c)
    (hopen : c.verdict = none) (hkept : c.orphan = false) (hoffset : offset = c.got) (hasked : c.got + data.length ≤ c.asked)
    (hconn : s.conn? c.conn = some k) (hup : s.portUp (Prt.num k.port) = true) (hserves : s.serves 0x06 = true)
    (hheader : k.hdgst = true → hdr = true) (hu : u = s.putConn c.conn { k with owed := k.owed + (24 + data.length) }) :
    exec (.h2cData serial offset data hdr good) s = .next
      (if k.ddgst && !good then u.answer serial (verdict .transientTransport false)
      else ((u.putCmd serial { c with got := c.got + data.length }).bagStore c.bags offset (data.map (BitVec.ofNat 8))).hqRefresh) := by
  have hgood : ¬ (k.hdgst && !hdr) = true := by simpa using hheader
  have hnext : ¬ (c.verdict.isSome || c.orphan || offset != c.got || c.asked < c.got + data.length) = true := by
    simp [hopen, hkept, hoffset, hasked]
  subst hu
  simp only [exec, execH2cData, hcmd]
  refine congrArg Host.Outcome.next ((pdu_of_served hconn hup hserves).trans ?_)
  exact (if_neg hgood).trans (if_neg hnext)

end

/-! ### Answers -/

section
variable {serial n : Nat} {v : Verdict} {c : Cmd} {k : Conn} {s u : State}

theorem exec_readDataReady (hcmd : s.cmd? serial = some c) (hunsent : c.sent = false) (hkept : c.orphan = false)
    (hn : n = c.reply.length) (hsome : 0 < n) (hgood : c.verdict = some good) (hfabric : c.conn ≠ 160)
    (hconn : s.conn? c.conn = some k) (hserves : s.serves 0x42 = true) (hup : s.portUp (Prt.num k.port) = true)
    (hfits : k.unacked + (24 + n) ≤ k.window) (hu : u = s.putConn c.conn (k.sends (24 + n) s.clockNs)) :
    exec (.readDataReady serial) s =
      .next ((u.putCmd serial { c with sent := true }).emit (.data c.conn c.cap.cid c.reply (u.packetMax c.conn k))) := by
  subst hn hu
  have hdue : ¬ (c.sent || c.orphan || c.reply.length = 0 || c.verdict != some good) = true := by
    simp only [hunsent, hkept, hgood, Bool.or_self, Bool.false_or, bne_self_eq_false, Bool.or_false, decide_eq_true_eq]
    exact hsome.ne'
  have hable : ¬ (!s.serves 0x42 || !s.portUp (Prt.num k.port) || !k.fits (24 + c.reply.length)) = true := by
    simp [hserves, hup, Conn.fits, hfits]
  simp only [exec, execReadDataReady, hcmd, hconn, if_neg hdue, if_neg hable]
  exact if_neg hfabric

theorem exec_responseReady (hcmd : s.cmd? serial = some c) (hverdict : c.verdict = some v) (hkept : c.orphan = false)
    (hsent : v = good → c.reply = [] ∨ c.sent = true) (hapart : s.joined c = false) (hfabric : c.conn ≠ 160)
    (hconn : s.conn? c.conn = some k) (hserves : s.serves 0x40 = true) (hup : s.portUp (Prt.num k.port) = true)
    (hfits : k.unacked + 24 ≤ k.window)
    (hu : u = (s.putConn c.conn (k.sends 24 s.clockNs)).emit (.response c.conn c.cap.cid v c.dw0 k.sqhd)) :
    exec (.responseReady serial) s = .next ((u.afterResponse c).dropCmd serial) := by
  subst hu
  have hdue : ¬ ((v == good && !c.reply.isEmpty && !c.sent) || s.joined c) = true := by
    simp only [hapart, Bool.or_false, Bool.and_eq_true, beq_iff_eq, Bool.not_eq_true', List.isEmpty_eq_false_iff]
    rintro ⟨⟨hgood, hreply⟩, hunsent⟩
    rcases hsent hgood with hnil | hsent
    · exact hreply hnil
    · exact absurd hsent (Bool.eq_false_iff.1 hunsent)
  have hable : ¬ (!s.serves 0x40 || !s.portUp (Prt.num k.port) || !k.fits 24) = true := by
    simp [hserves, hup, Conn.fits, hfits]
  simp only [exec, execResponseReady, hcmd, hverdict, hkept, hconn, if_neg hdue, if_neg hable, Bool.false_eq_true, if_false]
  exact if_neg hfabric

theorem exec_responseReady_orphan (hcmd : s.cmd? serial = some c) (hverdict : c.verdict = some v) (horphan : c.orphan = true) :
    exec (.responseReady serial) s = .next (s.dropCmd serial) := by
  simp only [exec, execResponseReady, hcmd, hverdict]
  exact if_pos horphan

/-! ### Events and the ends of associations -/

theorem exec_asynchronousEvent {type info : Nat} {e : Event} (he : e = ⟨type, info, eventPage type info⟩)
    (hserves : s.serves 0x43 = true) (hcause : s.eventCause e = true) :
    exec (.asynchronousEvent type info) s = .next (s.raiseEvent e) := by
  subst he
  exact congrArg Host.Outcome.next (if_pos (by rw [hserves, hcause, Bool.and_self]))

theorem exec_associationEnd {a : Nat} : exec (.associationEnd a) s = .next (s.endAssoc a) := rfl

theorem exec_keepAliveTimer {a : Nat} {x : Assoc} (hassoc : s.assoc? a = some x) (hkato : x.kato ≠ 0)
    (hlate : x.seenNs + 1000000 * x.kato ≤ s.clockNs) : exec (.keepAliveTimer a) s = .next (s.endAssoc a) := by
  simp only [exec, execKeepAliveTimer, hassoc]
  exact congrArg Host.Outcome.next (if_pos (by simp [hkato, hlate]))

end

/-- Settles O45: each command, under the conditions of its clause, takes the branch of the clause. -/
theorem commandsTakenAndAnsweredRun : Obligations.CommandsTakenAndAnsweredRun := by
  refine ⟨fun _ _ _ _ _ _ _ _ hfabric hconn hup hserves hd hu hready hshort hheader he hroom =>
      exec_capsuleCmd_joins hfabric hconn hup hserves hd hu hready hshort hheader he hroom,
    fun _ _ _ _ _ _ _ => exec_capsuleCmd_terminates, fun _ _ _ => exec_capsuleCmd_mi,
    fun _ _ _ _ _ _ _ _ _ => exec_capsuleTake, fun _ _ _ _ => exec_lockGrant,
    fun serial pick n bags c d k s t hcmd hwaits hfirst hfabric hserves hconn hup hbare hfew hfits hn hbags hroom hreserve hd => ?_,
    fun serial pick n c k s t hcmd hwaits hfirst hfabric hserves hconn hup hask hn hbags => ?_,
    fun serial offset data hdr good c d k s u hcmd hopen hkept hoffset hasked hconn hup hserves hheader hdata hu hd => ?_,
    fun serial offset data hdr c k s u hcmd hopen hkept hoffset hasked hconn hup hserves hheader hddgst hu => ?_,
    fun _ _ _ _ _ _ => exec_readDataReady, fun _ _ _ _ _ _ => exec_responseReady, fun _ _ _ _ => exec_responseReady_orphan,
    fun _ _ _ _ => exec_asynchronousEvent, fun _ _ => exec_associationEnd, fun _ _ _ => exec_keepAliveTimer⟩
  · have hdue : s.BagsDue serial c k := ⟨hcmd, hwaits, hfirst, hfabric, hserves, hconn, hup⟩
    exact exec_bagsReservedForTransfer_r2t hdue hbare (.inr ⟨hfew, hfits⟩) hn hbags (trayShort_eq_false hroom hreserve) hd
  · exact exec_bagsReservedForTransfer_short ⟨hcmd, hwaits, hfirst, hfabric, hserves, hconn, hup⟩ hask hn hbags
  · subst hd
    refine (exec_h2cData_pdu hcmd hopen hkept hoffset hasked hconn hup hserves hheader hu).trans
      (congrArg Host.Outcome.next (if_neg ?_))
    simpa using hdata
  · refine (exec_h2cData_pdu hcmd hopen hkept hoffset hasked hconn hup hserves hheader hu).trans
      (congrArg Host.Outcome.next (if_pos ?_))
    rw [hddgst, Bool.not_false, Bool.and_self]

end Sys2Proof.Machine
end
